-- ==== Sys2Proof/Word.lean ====
section
/-!
DEFINITION. The word types of the VHT manual. Every multi-byte field is little-endian (R5); the
helpers that split and join words stand in Machine/Bits.lean.
-/
namespace Sys2Proof

abbrev U8 := BitVec 8
abbrev U16 := BitVec 16
abbrev U24 := BitVec 24
abbrev U32 := BitVec 32
abbrev U64 := BitVec 64

/-- A byte string: a field of a message, the content of a BLOB, a queue entry. -/
abbrev Bytes := List U8

/-- A host port, 0 to 3 (R29). -/
abbrev Port := Fin 4

/-- A global function number, 8 × port + function (R39). -/
abbrev Fun := Fin 32

/-- A processor die of host port 0 (R27). -/
abbrev Die := Fin 4

/-- A transfer engine (R224). -/
abbrev Engine := Fin 32

/-- A range-store bank or walker group (R201, R206). -/
abbrev Bank := Fin 8

/-- A memory stack number (R286); the variant may carry fewer than 24. -/
abbrev Stack := Fin 24

/-- A credential slot (R103). -/
abbrev Slot := Fin 8

/-- A 20-bit context ID (R117). -/
abbrev CtxId := BitVec 20

/-- A 12-bit package ID on the fabric (R252). -/
abbrev PackageId := BitVec 12

/-- A 16-bit incoming window ID (R252). -/
abbrev WindowId := BitVec 16

/-- A 14-bit request tag of a port (R61). -/
abbrev ReqTag := BitVec 14

end Sys2Proof
end

