-- ==== Sys2Proof/Config.lean ====
section
/-!
DEFINITION. What one package fixes at manufacture and the values the manual leaves open. Every
constant here has no body, so nothing can be proved of its value: a claim holds for every value.
-/
namespace Sys2Proof

/-- The three variants (R2). -/
inductive Variant where
  | l16 | l32 | l64
  deriving DecidableEq, Repr

namespace Config

/-! Fused and factory values (R463, R400, R438): they differ from package to package. -/

/-- SiliconStepping, equal to Revision ID (R43, R463). -/
opaque siliconStepping : U8
/-- Character i of SerialNumber (R115, R463). -/
opaque serialChar : Nat → Fin 95
/-- BootRomVersion (R115, R463). -/
opaque bootRomVersion : U32
/-- MgmtMacAddress (R115). -/
opaque mgmtMac : U64
/-- PaldarMacBase (R285). -/
opaque paldarMacBase : U64
/-- FabricGroupId (R400). -/
opaque fabricGroupId : U32
/-- Factory value of Port0LaneCal of a die-to-die lane (R463). -/
opaque port0LaneCal : Nat → U8
/-- Factory value of LaneTxPreset of a port's lane, 0 to 10 (R463). -/
opaque laneTxPreset : Nat → Nat → Fin 11
/-- Byte i of the factory value of StackTrainCal of a stack (R463). -/
opaque stackTrainCal : Nat → Nat → U8
/-- Byte i of the factory secret of credential slot 0 (R103). -/
opaque factorySecret : Nat → U8
/-- Which of the tiles that are left the fuses enable next, in a variant that fuses tiles off (R438). -/
opaque fusedTile : Variant → Nat → Fin 64
/-- Spare physical cluster of a physical tile (R438). -/
opaque spareCluster : Nat → Fin 16
/-- Byte i of a fused secret: 0 MemoryRootKey, 1 FabricGroupSecret, 2 IdentityKey (R400). -/
opaque fusedSecret : Nat → Nat → U8
/-- Byte i of a public fused digest: 0 FirmwareSigningKeyDigest, 1 DebugKeyDigest,
2 BootRomDigest (R400). -/
opaque fusedDigest : Nat → Nat → U8
/-- IdentityPublicKey, byte i (R423). -/
opaque identityPublicKey : Nat → U8
/-- The first byte of IdentityCertChain and the bytes after it. -/
opaque identityCertFirst : U8
opaque identityCertRest : List U8
/-- IdentityCertChain: its bytes, at most 4,096 (R423). It holds at least the leaf certificate (R415). -/
def identityCertChain : List U8 := identityCertFirst :: identityCertRest
/-- MinSecurityVersion as fused at manufacture (R400). -/
opaque minSecurityVersion : Fin 65
/-- StoredBytesFree as the boot ROM measures it at a package reset (R115). -/
opaque storedBytesFree : Nat → U32
/-- Bytes of a record in the stored-set journal, beyond the value (R93). -/
opaque journalRecordBytes : Nat → U32

/-! Published algorithms the manual names and does not define. -/

/-- SHA-384, as 48 bytes given one by one: byte i of the digest of the message. -/
opaque sha384Byte : List U8 → Nat → U8
/-- HMAC-SHA-384 under a key: byte i (R104). -/
opaque hmacByte : List U8 → List U8 → Nat → U8
/-- AES-256-GCM under a key and a nonce: byte i of the ciphertext of a plaintext (R101, R269). -/
opaque gcmByte : List U8 → List U8 → List U8 → Nat → U8
/-- AES-256-GCM: byte i of the tag over additional authenticated data and a ciphertext (R101, R269). -/
opaque gcmTagByte : List U8 → List U8 → List U8 → List U8 → Nat → U8
/-- Whether an ECDSA P-384 signature verifies: key, message, signature (R413, R421). -/
opaque ecdsaVerifies : List U8 → List U8 → List U8 → Bool
/-- Byte i of the signature made with IdentityKey over a transcript (R415), at draw n. -/
opaque identitySignature : Nat → List U8 → Nat → U8

/-! Free values: nothing constrains them. -/

/-- Byte i of the n-th draw from the DRBG (R404). -/
opaque drbgByte : Nat → Nat → U8
/-- Destination bytes the manual leaves undefined (R71, R133, R228), at draw n. -/
opaque undefinedByte : Nat → Nat → U8
/-- Whether the pool cache had already written the dirty line back by itself (R287), at draw n. -/
opaque evicted : Nat → Nat → Bool
/-- What a debug read of the management core's memory returns (R419), at draw n. -/
opaque coreMemoryByte : Nat → Nat → U8
/-- A configuration register that the manual names and leaves to the base specification: function and offset
(R44, R46). -/
opaque baseRegister : Nat → Nat → U32

/-- Identifier and version of the 128.0 GT/s physical-layer capability, which PCI Express 7.0 assigns: bits 19:0 of its
header (02, R44). -/
opaque capability128 : Nat
/-- FP32 and BF16 reductions on operands for which R170 states no result (NaN, signed zeros):
element type, operation, destination, source. -/
opaque reduceSpecial : Nat → Nat → Nat → Nat → U64
/-- Which of several free choices the device takes, at draw n, of k. -/
opaque choice : Nat → Nat → Nat

end Config

end Sys2Proof
end

