-- ==== Sys2Proof/Machine/Types.lean ====
section
/-!
DEFINITION. The named alternatives of the VHT manual and the records that messages and commands carry.
-/
namespace Sys2Proof

/-! ### The dictionary (03) -/

/-- An object reference: index and subindex (R81). -/
structure Ref where
  index : Nat
  sub : Nat
  deriving DecidableEq, Repr

/-- The value of an object: a number (every fixed-length type of R83) or the bytes of a STRING or
BLOB. -/
inductive Val where
  | num (n : Nat)
  | bytes (b : Bytes)
  deriving DecidableEq, Repr

/-- Roles of a credential (R102, R115). -/
inductive Role where
  | none | monitor | operator | admin
  deriving DecidableEq, Repr

/-- Who makes an object access (R86): a management session with its role and CalOverwrite, or the
mailbox of a function. -/
inductive Requester where
  | net (role : Role) (cal : Bool)
  | mbx (g : Fun)
  deriving DecidableEq, Repr

/-- Entry status codes (R110). -/
inductive EStatus where
  | ok | noObject | readDenied | writeDenied | typeMismatch | outOfRange | busy | calGuard
  | storeFailed | notApplied | fusedOff | roleDenied | badOp
  deriving DecidableEq, Repr

/-- Frame status codes of HMP (R110). -/
inductive FStatus where
  | ok | badOpcode | noSession | authFailed | slotLocked | tooManySessions | responseTooLarge
  | noCredential | badPayload
  deriving DecidableEq, Repr

/-- One entry of a WRITE: reference, the TypeCode sent and the value's bytes (R107). -/
structure WEntry where
  ref : Ref
  data : Bytes
  deriving DecidableEq, Repr

/-- The address a management frame comes from: IPv6 address, UDP port, MAC; and of its own headers the UDP port it
is for, and whether it carries a Fragment or other extension header that makes it be discarded (R99). -/
structure NetAddr where
  ip : Bytes
  port : Nat
  mac : U64
  toPort : Nat
  extended : Bool
  deriving DecidableEq, Repr

/-- A datagram that arrives on the management network: where it comes from, and the bytes after its UDP header
(R100). -/
structure UdpIn where
  src : NetAddr
  bytes : Bytes
  deriving DecidableEq, Repr

/-- A Neighbor Advertisement: the address it answers for and its MAC address (R99). -/
structure NeighborAdv where
  target : Bytes
  mac : U64
  deriving DecidableEq, Repr

/-- The end of a training of port 0: the groups that trained, and the nonce that the dies have returned (02, R33; 13,
R406). -/
structure TrainingEnd where
  groups : U8
  nd : Bytes
  deriving DecidableEq, Repr

/-- An access that waits for the dictionary engine (R88). -/
inductive Access where
  | read (refs : List Ref)
  | write (entries : List WEntry)
  | readSegment (ref : Ref) (offset length : Nat)
  | writeSegment (ref : Ref) (final : Bool) (offset : Nat) (data : Bytes)
  | list (ref : Ref)
  deriving DecidableEq, Repr

/-- What one entry of an access answers: its reference, status and value. -/
structure EResult where
  ref : Ref
  status : EStatus
  typeCode : Nat
  value : Bytes
  deriving DecidableEq, Repr

/-! ### Host ports and functions (02) -/

/-- PortLinkState (R79). -/
inductive LinkState where
  | down | training | l0 | l1 | l2 | recovery | disabled
  deriving DecidableEq, Repr

/-- FunctionState (R79). -/
inductive FnState where
  | absent | reset | notReady | active | stalling | stalled | aborting
  deriving DecidableEq, Repr

/-- Which configuration or BAR space a register write addresses. -/
inductive Space where
  | config | bar0 | bar2 | rom
  deriving DecidableEq, Repr

/-- The named fatal link conditions of R63's last row. -/
inductive TlpFault where
  | malformed | flowControl | receiverOverflow | dataLink
  deriving DecidableEq, Repr

/-- Status of a completion (R63). -/
inductive CplStatus where
  | success | unsupported | abort
  deriving DecidableEq, Repr

/-- Events of R67 that abort or reset functions. -/
inductive AbortEvent where
  /-- PERSTn_N asserted while the package is not in reset, and while it is (12, R381) -/
  | perst | perstInReset | packageReset | surpriseRemoval | hotReset | flr | functionDisable | portDisable
  | blockReset
  deriving DecidableEq, Repr

/-- The handshake of R65: none, PME_Turn_Off received, PME_TO_Ack sent. -/
inductive TurnOff where
  | none | requested | acked
  deriving DecidableEq, Repr

/-! ### Contexts, objects, commands (04, 05) -/

/-- Context states (R129). -/
inductive CtxState where
  | free | ready | lost | aborting
  deriving DecidableEq, Repr

/-- LostReason (R130). -/
inductive LostReason where
  | none | faultAborted | faultTimeout | staleHandle | noObjectRight | badCommand
  | hostCompletionError | poisonedData | unitFenced | clusterAccessFault | doorbellInvalid
  | functionAborted
  deriving DecidableEq, Repr

/-- Rights of a grant (R146). -/
inductive Rights where
  | read | readWrite | signal
  deriving DecidableEq, Repr

/-- Admin status codes (R126). -/
inductive AStatus where
  | success | badOpcode | badField | quotaExceeded | noSlot | noPool | staleHandle | notOwner
  | contextState | objectInUse | slotBound | ringInUse | notReady | scheduleRejected
  deriving DecidableEq, Repr

/-- Ring states shared by the admin and fault queues (R120, R240). -/
inductive QState where
  | disabled | running | stalled | error
  deriving DecidableEq, Repr

/-- ErrorCode of the admin queue and of the fault queue (R120, R240). -/
inductive QError where
  | none | badGeometry | badTail | dmaError
  deriving DecidableEq, Repr

/-- Command statuses (R172). -/
inductive CStatus where
  | success | contextLost | badOpcode | badHeader | badOperand | badFence | fetchFault
  | staleHandle | noObjectRight | faultAborted | faultTimeout | hostCompletionError
  | poisonedData | unitFenced | clusterAccessFault
  deriving DecidableEq, Repr

/-! ### Translation (06) -/

/-- The permission an access needs (R197). -/
inductive Need where
  | read | write | atomic
  deriving DecidableEq, Repr

/-- Translation fault codes (R199). -/
inductive TCode where
  | none | unmapped | faultRange | noRead | noWrite | noAtomic | tableMalformed
  | targetOutOfBounds | staleTarget | noTargetRight | pasidDisabled | atsDenied | peerUnmapped
  | remoteDenied
  deriving DecidableEq, Repr

/-- Whose range table an address is translated through: a context's or a window's (R185, R259). -/
inductive Who where
  | ctx (c : CtxId)
  | win (w : WindowId)
  deriving DecidableEq, Repr

/-! ### Windows (08) -/

/-- Codes of a DENY or READ_DATA frame (R261). -/
inductive DCode where
  | walk (c : TCode)
  | windowClosed | sourceDenied | noPermission | targetNotAllowed | busy | notReady
  | peerDown | sessionReset
  deriving DecidableEq, Repr

/-- The header fields of a sealed frame that the receiver uses (R266). -/
structure FrameHdr where
  src : PackageId
  dst : PackageId
  /-- whether the seal opens under the pair's session (R260, check 1) -/
  sealOk : Bool
  linkSeq : U32
  ackSeq : U32
  window : WindowId
  tileIndex : Nat
  serial : U32
  streamTag : U16
  last : Bool
  /-- Access: 1 READ, 2 WRITE, 3 ATOMIC -/
  access : Nat
  elementType : Nat
  reduceOp : Nat
  code : Nat
  byteOffset : Nat
  deriving DecidableEq, Repr

/-- A run of a run list: window offset and length in bytes (R268). -/
structure WRun where
  offset : Nat
  length : Nat
  deriving DecidableEq, Repr

/-- The fields of a HELLO or HELLO_ACK (R267). -/
structure HelloMsg where
  src : PackageId
  dst : PackageId
  bootId : U64
  nonce : Bytes
  deriving DecidableEq, Repr

/-- PeerState (R285). -/
inductive PeerState where
  | invalid | connecting | up | down
  deriving DecidableEq, Repr

/-- Window states (R265). -/
inductive WinState where
  | closed | opened | closing
  deriving DecidableEq, Repr

/-- A WindowRequest (R262). -/
structure WinRequest where
  tag : U32
  window : WindowId
  op : Nat
  table : U64
  root : Nat
  atomic : Bool
  write : Bool
  read : Bool
  mask : PackageId
  srcMatch : PackageId
  deriving DecidableEq, Repr

/-- CohState and CohRefusal (R285). -/
inductive CohState where
  | off | on | closing | refused
  deriving DecidableEq, Repr

inductive CohRefusal where
  | none | notLive | notPort0 | fenceObject | overLimit | overlap
  deriving DecidableEq, Repr

/-- What a processor die asks of an aperture line (R279). -/
inductive CohAccess where
  | read (length : Nat)
  | write (data : Bytes)
  deriving DecidableEq, Repr

/-! ### Pool (09) -/

/-- Region kinds of the pool map (R288). -/
inductive RegionKind where
  | general | carveOut | carveOutMirror | extent | spare | fault
  deriving DecidableEq, Repr

/-- What the line cipher finds on a stack read (R298). -/
inductive LineCheck where
  | clean | corrected | uncorrectable
  deriving DecidableEq, Repr

/-- A stepped operation of the memory-side island: a command, or the scrub of the span at `base`, an extent's or
another (R306; 05, R183). -/
inductive StepOp where
  | cmd (c : CtxId) (q : Nat)
  | scrub (base : Nat) (extent : Bool)
  deriving DecidableEq, Repr

/-- What the checks of a line and of its second copy find (R298, R303). -/
structure CopyChecks where
  primary : LineCheck
  mirror : LineCheck
  deriving DecidableEq, Repr

/-- Who asks for a pool line (R301). -/
inductive LineReader where
  | context (c : CtxId)
  | die (d : Die)
  | window (p : PackageId)
  | carveOut
  | scrub
  deriving DecidableEq, Repr

/-! ### Events, errors (11, 12) -/

/-- Weir states (R357). -/
inductive Weir where
  | idle | holding | opened
  deriving DecidableEq, Repr

/-- Error sources, in the order of their codes 0x01 to 0x1A (R376). -/
inductive Src where
  | storedRecordLost | storeFailed | port0Fallback | port0LinkLost | d2dIntegrity | contextLost
  | snoopTimeout | streamTagUnknown | unitFenced | extentDropped | channelMappedOut
  | poolRowRemapped | poolSparesExhausted | poolLinePoisoned | poolMirrorServed
  | poisonDirectoryFull | carveOutLost | gtcSyncLost | internalCorrected
  | contextStateUncorrectable | internalUncorrectable | mgmtCoreFault | wireFault
  | errPinMismatch | islandClockLost | powerGoodLost
  deriving DecidableEq, Repr

/-- ErrPackageState (R396). -/
inductive PkgState where
  | normal | blockFailed | resetting | fatal
  deriving DecidableEq, Repr

/-- The fields a source gives with its error (R380): kind and unit of the master, its function and
context, the address and the access. -/
structure ErrInfo where
  kind : Nat := 0
  unit : Nat := 0
  fn : Option Fun := none
  ctx : Option CtxId := none
  address : U64 := 0
  addressKind : Nat := 0
  access : Nat := 0
  /-- an error in a range-store entry of an incoming window names the window here (R376) -/
  window : Option WindowId := none
  /-- the switched domain that the source's pair lies in, where its code and master do not tell (R373) -/
  domain : Option Nat := none
  deriving DecidableEq, Repr

/-! ### Determinism (10) -/

/-- GtcSyncState (R325). -/
inductive SyncState where
  | freeRun | locking | locked | holdover
  deriving DecidableEq, Repr

/-- LogMode (R314). -/
inductive LogMode where
  | off | record | replay
  deriving DecidableEq, Repr

/-- A unit that a failure report names (R339). -/
inductive FailUnit where
  | cluster (n : Nat)
  | engine (e : Engine)
  | tile (t : Nat)
  deriving DecidableEq, Repr

/-- ModeChangeState (R347). -/
inductive ModeState where
  | idle | staging | commitPending | committed | abandoned
  deriving DecidableEq, Repr

/-- The data set a PTP Announce carries, in the order a grandmaster is compared (R323). -/
structure Announce where
  priority1 : Nat
  clockClass : Nat
  accuracy : Nat
  variance : Nat
  priority2 : Nat
  identity : U64
  domain : Nat
  deriving DecidableEq, Repr

/-! ### Security (13) -/

/-- DebugState (R420). -/
inductive DebugState where
  | locked | unlocked | rma
  deriving DecidableEq, Repr

/-- Where an SPDM exchange runs: the DOE of a port's function 0, or the network (R415). -/
inductive SpdmConn where
  | doe (p : Port)
  | net (a : NetAddr)
  deriving DecidableEq, Repr

/-- An SPDM request of a requester: where it comes from, its version byte, its two parameters, and its last bytes,
as sent (R415). A row whose own operands give a parameter takes it from them; `body` follows the bytes that they
give. -/
structure SpdmReq where
  conn : SpdmConn
  version : U8
  p1 : U8
  p2 : U8
  body : Bytes
  deriving DecidableEq, Repr

/-- What a TAP operation does (R419, R420). -/
inductive TapOp where
  | boundaryScan (chain : Bytes)
  | halt | resume | step
  | readMemory (address : U64)
  | writeMemory (address : U64) (value : U8)
  deriving DecidableEq, Repr

/-! ### Power and bring-up (14, 15) -/

/-- What a calibration has found: presets or StackTrainCal, and for each die-to-die lane its errors at the codes 0 to
255 (R459). -/
structure Calibration where
  values : List U8
  errors : List (List Nat)
  deriving DecidableEq, Repr

/-- BringUpState (R462). -/
inductive BringUp where
  | resetDone | powered | trained | qualified | firmwareRunning | tilesLoaded | tested
  | mapPublished | declaring | ready
  deriving DecidableEq, Repr

/-- BringUpCommand (R462). -/
inductive BringUpCmd where
  | none | power | train | qualify | loadFirmware | broadcast | test | publishMap | declareReady
  deriving DecidableEq, Repr

/-- BringUpResult (R443). -/
inductive BringUpResult where
  | none | running | done | powerGoodMissing | trainFailed | lanesFailed | imageIncomplete
  | imageDmaError | imageRejected | noTileLoaded | noCluster | wireFault | gtcNotLocked
  | blockReset | noCarveOut
  deriving DecidableEq, Repr

/-- FirmwareState (R115). -/
inductive FwState where
  | absent | loading | running | failed
  deriving DecidableEq, Repr

/-- What a lane counted in a qualification (R446): a die-to-die lane or fall-back wire of port 0,
or a lane of port 1 to 3. -/
structure LaneCount where
  port : Port
  /-- lane, or wire when port 0 is measured in fall-back mode -/
  lane : Nat
  bits : Nat
  errors : Nat
  /-- the link left L0 during the step -/
  dropped : Bool
  deriving DecidableEq, Repr

/-- The events a source fires during package sleep (R365, R368). -/
inductive WakeInput where
  | source (g : Fun) (source : Nat)
  | input (code : Nat)
  deriving DecidableEq, Repr

/-! ### Operands that several chapters share -/

/-- The header of an HMP frame of a session, opened under the session key (R100, R101). -/
structure HmpHdr where
  src : NetAddr
  sid : U32
  seq : U32
  /-- CalOverwrite, Flags bit 0 -/
  cal : Bool
  deriving DecidableEq, Repr

/-- A unit that cuts long operations into steps (R182). -/
inductive StepUnit where
  | engine (e : Engine)
  | walkerGroup (b : Bank)
  | memorySide
  | digestEngine (n : Fin 2)
  | command
  deriving DecidableEq, Repr

/-- What a package reset finds: stored records whose CRC fails (R94), channels that fail training or
their reset check and the weak rows of the others (R441), and pairs that fail their test (R375). -/
structure ResetFindings where
  lostRecords : List Ref
  badChannels : List (Nat × Nat)
  weakRows : List Nat
  badPairs : List Src
  deriving DecidableEq, Repr

/-- A Paldar frame on the wire (R266). -/
structure PaldarFrame where
  dstMac : U64
  srcMac : U64
  vlan : Option U16
  etherType : U16
  q0 : U64
  q1 : U64
  q2 : U64
  q3 : U64
  q4 : U64
  /-- the payload before it is sealed -/
  payload : Bytes
  /-- the payload on the wire, encrypted in a sealed frame, and the seal tag, empty in one without a seal (R269) -/
  cipher : Bytes
  tag : Bytes
  deriving DecidableEq, Repr

/-- The Ethernet and PTP headers of a PTP message (10_determinism, R323). -/
structure PtpHdr where
  port : Nat
  dstMac : U64
  srcMac : U64
  vlan : Option U16
  etherType : U16
  domain : Nat
  /-- identity of the clock that sends it -/
  identity : U64
  /-- logMessageInterval: logSyncInterval, logMinDelayReqInterval or logAnnounceInterval -/
  interval : Int
  deriving DecidableEq, Repr

/-- What the read that holds a tag serves (R61 to R63, R120, R219, R451). -/
inductive ReadUse where
  /-- an entry of the function's admin queue; a read in flight when reads stop is not live (R121) -/
  | admin (g : Fun) (live : Bool)
  | entry (c : CtxId)
  | tile (c : CtxId) (q : Nat)
  | span (c : CtxId) (q : Nat)
  | image
  | ats (pasid : BitVec 20) (address : Nat)
  /-- a read whose data nothing wants any more (R234, R221) -/
  | stale (c : CtxId)
  deriving DecidableEq, Repr

/-- Who waits for a scan of range-store banks and the revocations it starts (R215, R216). -/
inductive ScanOwner where
  | command (c : CtxId) (q : Nat)
  | free (slot : Nat)
  | grant (slot : Nat) (g : Fun)
  | abort (c : CtxId)
  | window (w : WindowId)
  | replace
  deriving DecidableEq, Repr

/-- What happens to a translation (R203): an address, a fault, or no answer yet. -/
inductive TOut where
  | fault (c : TCode)
  | poisoned
  /-- the target lies in an extent that is being scrubbed (R411), or a snoop is out (R280) -/
  | wait
  /-- the context is being aborted (R222) -/
  | aborting
  deriving DecidableEq, Repr

/-- Where a run of bytes lies after translation (R192). -/
inductive Target where
  | pool (address : Nat)
  | host (address : Nat) (pasid : BitVec 20)
  | window (peer : PackageId) (w : WindowId) (offset : Nat)
  deriving DecidableEq, Repr

/-- A run of contiguous bytes under one range-store entry (R232). -/
structure Run where
  /-- position of the run in the bytes of its side -/
  pos : Nat
  va : Nat
  bytes : Nat
  target : Target
  /-- slot of the object that an OBJECT target names -/
  object : Option Nat
  /-- identifier of the range-store entry -/
  entry : Nat
  deriving DecidableEq, Repr

/-- The kinds of message the device issues at its edge, and the outcome of an object write. The model's
own: the spec names each message, the list of those issued is `State.out`. -/
inductive Msg where
  -- host ports
  | write (p : Port) (address : Nat) (pasid : Option (BitVec 20)) (bytes : Bytes)
  | read (p : Port) (tag : ReqTag) (address : Nat) (pasid : Option (BitVec 20)) (bytes : Nat)
  | atsRequest (p : Port) (tag : ReqTag) (pasid : BitVec 20) (address : Nat)
  | atsInvalidated (p : Port) (itag : Nat)
  | completion (p : Port) (status : CplStatus) (poisoned : Bool) (bytes : Bytes)
  /-- a configuration request to a function in FLR, answered with Request Retry Status (R70), and one to a function
  that is turned off, answered with Unsupported Request (R63) -/
  | configRetry (g : Fun)
  | configUnsupported (g : Fun)
  | assertIntx (p : Port) (pin : Fin 4)
  | deassertIntx (p : Port) (pin : Fin 4)
  | pmPme (g : Fun)
  | pmeToAck (p : Port)
  | snoop (d : Die) (line : Nat) (invalidate : Bool)
  | portTraining (p : Port)
  | linkNonce (n : Bytes)
  | wakePin (p : Port) (asserted : Bool)
  | errPins (error : Bool)
  | nmi (e : Src)
  /-- ERR_COR 0, ERR_NONFATAL 1, ERR_FATAL 2 from a function's AER -/
  | errMessage (g : Fun) (level : Nat)
  -- management network
  /-- an HMP response; `wire` is its UDP payload -/
  | hmp (dst : NetAddr) (opcode : Nat) (status : FStatus) (sid seq : U32) (gtc : U64)
      (payload wire : Bytes)
  | spdm (c : SpdmConn) (code : Nat) (payload : Bytes)
  | doe (p : Port) (payload : Bytes)
  | neighborSolicitation (target : Bytes)
  | neighborAdvertisement (dst : NetAddr) (target : Bytes)
  | echoReply (dst : NetAddr) (payload : Bytes)
  | objectStatus (rq : Requester) (ref : Ref) (st : EStatus)
  -- package fabric
  | part (cluster : Nat) (c : CtxId) (entryVa argsVa threads k count : Nat) (tag : U16)
      (epoch : Nat)
  | partCancel (cluster : Nat) (c : CtxId) (k : Nat)
  | tileCredit (creditId : Nat) (tag : U16) (tile : Nat) (last : Bool)
  | creditAbandon (creditId : Nat) (tag : U16) (tile : Nat)
  | leaseGrant (cluster slot : Nat) (c : CtxId) (first last poolBase : Nat)
      (read write atomic : Bool)
  | leaseDeny (cluster slot : Nat) (code : TCode)
  | leaseRetry (cluster slot : Nat)
  | leaseRevoke (cluster slot : Nat)
  | tilesReleased
  | tileSection (tile : Option Nat)
  | clusterTest
  /-- a line read from, or written to, its stack through the line cipher: the line, the address in the stack that
  serves it (R299), and the key slot of its owner (R297) -/
  | stackLine (write : Bool) (line served : Nat) (slot : Option Nat)
  | modeStage (cluster : Nat) (word : U64)
  | modeDiscard (cluster : Nat)
  | modeApply (cluster : Nat) (epoch : Nat)
  | translation (who : Who) (va : Nat) (t : Target)
  | noTranslation (who : Who) (va : Nat) (r : TOut)
  -- Paldar fabric and PTP
  | frame (peer : PackageId) (port : Nat) (f : PaldarFrame)
  /-- a frame of this package to itself, through no port (R255) -/
  | loopback (type : Nat) (q2 q3 q4 : U64) (payload : Bytes)
  | ptpSync (h : PtpHdr) (seq : Nat)
  | ptpFollowUp (h : PtpHdr) (seq : Nat) (ns : Nat)
  | ptpDelayReq (h : PtpHdr) (seq : Nat)
  | ptpDelayResp (h : PtpHdr) (requester : U64) (seq : Nat) (ns : Nat)
  /-- an Announce with the data set of its clock -/
  | ptpAnnounce (h : PtpHdr) (a : Announce)
  -- test access port and converters
  | tap (bytes : Bytes)
  /-- a PMBus read: the converter's address and the command code (14, R435) -/
  | pmbusRead (address command : Nat)
  deriving DecidableEq, Repr

end Sys2Proof
end

