-- ==== Sys2Proof/Syntax.lean ====
section
/-!
DEFINITION. The commands of the block: one constructor for each row of the table of operations and
events, in its order, with what the row carries.
-/
namespace Sys2Proof

/-- A command that the block takes from outside, or an event inside it. -/
inductive Instr where
  -- Host ports (02)
  | perstAssert (p : Port)
  | perstDeassert (p : Port)
  | portLinkUp (p : Port) (width speed : Nat)
  | linkL0Return (p : Port)
  | surpriseRemoval (p : Port)
  | malformedTlp (p : Port) (kind : TlpFault)
  | hotReset (p : Port)
  | functionLevelReset (g : Fun)
  | functionResetComplete (g : Fun)
  | busMasterEnableClear (g : Fun)
  | stallQuiet (g : Fun)
  | busMasterEnableSet (g : Fun)
  | powerStateD3hot (g : Fun)
  | powerStateD0 (g : Fun)
  | pmeTurnOff (p : Port)
  | pmeToAck (p : Port)
  | interruptDisableWrite (g : Fun) (v : Bool)
  | atsPasidDisable (g : Fun) (pasid : Bool)
  | functionEnableWrite (rq : Requester) (g : Fun) (v : Bool)
  | portEnableWrite (rq : Requester) (p : Port) (v : Bool)
  | port0ModeMain (rq : Requester)
  | port0ModeFallback (rq : Requester)
  | port0TrainingDone (e : TrainingEnd)
  | port0GroupRetrainFailed (group : Fin 8)
  | port0LinkDown
  | completionReceived (p : Port) (tag : ReqTag) (status : CplStatus) (poisoned : Bool)
      (offset : Nat) (data : Bytes)
  | completionTimeout (p : Port) (tag : ReqTag)
  | quarantineExpiry (p : Port) (tag : ReqTag)
  | registerWrite (g : Fun) (space : Space) (offset size : Nat) (value : U64) (poisoned : Bool)
  -- Management network and object dictionary (03)
  | hmpOpenSession (src : NetAddr) (seq : U32) (payload : Bytes)
  | hmpProve (src : NetAddr) (seq : U32) (payload : Bytes)
  | hmpCloseSession (h : HmpHdr)
  | hmpRead (h : HmpHdr) (payload : Bytes)
  | hmpWrite (h : HmpHdr) (payload : Bytes)
  | hmpReadSegment (h : HmpHdr) (payload : Bytes)
  | hmpWriteSegment (h : HmpHdr) (payload : Bytes)
  | hmpList (h : HmpHdr) (payload : Bytes)
  | spdmMessage (src : NetAddr) (seq : U32) (message : Bytes)
  | hmpBadOpcode (h : HmpHdr) (opcode : U16)
  | hmpFrameDropped (d : UdpIn)
  | pendingSessionExpiry (sid : U32)
  | sessionIdleExpiry (sid : U32)
  | slotLockExpiry (k : Slot)
  | mbxRead (g : Fun)
  | mbxWrite (g : Fun)
  | mbxReadSegment (g : Fun)
  | mbxWriteSegment (g : Fun)
  | mbxWriteSegmentFinal (g : Fun)
  | mbxBadOp (g : Fun) (op : Nat)
  | dictionaryEngineTurn (flashFails : Bool)
  | restoreDefaults (rq : Requester)
  | restoreDefaultsEnd
  | journalCompactionStep
  | mgmtLinkChange (up : Bool)
  | neighborSolicitation (src : NetAddr) (target : Bytes)
  | neighborAdvertisement (src : NetAddr) (a : NeighborAdv)
  | echoRequest (src : NetAddr) (payload : Bytes)
  -- Contexts, queues, memory objects and fences (04)
  | adminSqControlWrite (g : Fun) (value : U64)
  | adminCqControlWrite (g : Fun) (value : U64)
  | adminSqTailWrite (g : Fun) (value : U64)
  | adminCqHeadWrite (g : Fun) (value : U64)
  | adminEntryRead (g : Fun) (ok : Bool) (entry : Bytes)
  | adminCompletionWrite (g : Fun)
  | createContext (g : Fun)
  | destroyContext (g : Fun)
  | contextAbortComplete (c : CtxId)
  | queryContext (g : Fun)
  | createObject (g : Fun)
  | freeObject (g : Fun)
  | freeObjectComplete (slot : Nat)
  | grantObject (g : Fun)
  | revokeGrant (g : Fun)
  | grantDropComplete (slot : Nat) (target : Fun)
  | createEventRing (g : Fun)
  | destroyEventRing (g : Fun)
  | adminBadOpcode (g : Fun)
  | fenceSignal (g : Fun) (handle : U64) (word : Nat) (value : U64)
  | fenceWaitRelease (c : CtxId)
  | fenceMirrorWrite (slot word : Nat)
  -- Doorbells and the command pipeline (05)
  | doorbell (g : Fun) (offset size : Nat) (allEnabled poisoned : Bool) (value : U64)
  | commandFetch (p : Port)
  | commandEntryArrival (c : CtxId)
  | dispatchStages (c : CtxId)
  | nop (c : CtxId) (q : Nat)
  | writeValue (c : CtxId) (q : Nat)
  | writeTimestamp (c : CtxId) (q : Nat)
  | copyTensor (c : CtxId) (q : Nat)
  | reduceTensor (c : CtxId) (q : Nat)
  | fill (c : CtxId) (q : Nat)
  | launch (c : CtxId) (q : Nat)
  | flush (c : CtxId) (q : Nat)
  | invalidate (c : CtxId) (q : Nat)
  | invalidateRanges (c : CtxId) (q : Nat)
  | digestRange (c : CtxId) (q : Nat)
  | commandBadOpcode (c : CtxId) (q : Nat)
  | commandCompletion (c : CtxId) (q : Nat)
  | streamTagDrained (tag : U16)
  | streamBeatUnknownTag (tag : U16)
  | partEnd (cluster : Nat) (c : CtxId) (q k : Nat)
  | partCancelTimeout (cluster : Nat) (c : CtxId) (q k : Nat)
  | unitStepEnd (u : StepUnit)
  -- Range translation (06)
  | translationLookup (c : CtxId) (va : U64) (need : Need)
  | walkNodeReadDone (walk : Nat)
  | leaseRequest (cluster slot : Nat) (c : CtxId) (va : U64) (need : Need)
  | revokeAck (cluster slot : Nat)
  | leaseRelease (cluster slot : Nat)
  | rangeScanDone (bank : Bank)
  | atsTranslationCompletion (p : Port) (tag : ReqTag) (status : CplStatus) (translated : U64)
      (read write : Bool)
  | atsInvalidateRequest (p : Port) (itag : Fin 32) (pasid : BitVec 20) (address : U64) (bytes : Nat)
  | atsInvalidationCompletion (p : Port) (itag : Fin 32)
  | walkerGroupEnableWrite (rq : Requester) (v : U8)
  | poolExtentWrite (rq : Requester) (g : Fun) (base bytes : Option U64)
  -- Tensor transfers and fault recovery (07)
  | engineTurn (e : Engine)
  | tileDelivered (c : CtxId) (q : Nat)
  | tileConsumed (tag : U16) (creditId : U16) (count : Nat)
  | faultRecordWrite (g : Fun) (ok : Bool)
  | faultqControlWrite (g : Fun) (value : U64)
  | faultqHeadWrite (g : Fun) (value : U64)
  | faultTimeoutWrite (g : Fun) (value : U64)
  | faultResume (g : Fun) (id : U32)
  | faultAbort (g : Fun) (id : U32)
  | faultResponseBadAction (g : Fun) (value : U64)
  | faultTimeoutExpiry (g : Fun) (id : U32)
  -- Remote windows, peer access and coherent windows (08)
  | checkWrite (h : FrameHdr) (runs : List WRun)
  | checkAtomic (h : FrameHdr) (runs : List WRun)
  | readReq (h : FrameHdr) (runs : List WRun)
  | accept (h : FrameHdr)
  | deny (h : FrameHdr)
  | data (h : FrameHdr) (payload : Bytes)
  | cancel (h : FrameHdr)
  | readData (h : FrameHdr) (payload : Bytes)
  | done (h : FrameHdr)
  | linkAck (h : FrameHdr)
  | hello (m : HelloMsg)
  | helloAck (m : HelloMsg)
  | paldarRetryTimeout (peer : PackageId)
  | linkAckTimer (peer : PackageId)
  | peerTimeout (peer : PackageId)
  | helloTimer (peer : PackageId)
  | peerDownTimer (peer : PackageId)
  | denyBusyRetry (peer : PackageId) (w : WindowId) (serial : U32) (tile : Nat)
  | commitHistoryExpiry (src : PackageId) (bootId : U64) (serial : U32) (tile : Nat)
  | receiverPeerSilence (peer : PackageId)
  | windowDataExecuted (src : PackageId) (w : WindowId) (serial : U32) (tile : Nat)
  | ethernetLinkChange (port : Fin 12) (up : Bool)
  | windowOpen (rq : Requester) (g : Fun) (r : WinRequest)
  | windowClose (rq : Requester) (g : Fun) (r : WinRequest)
  | windowCloseDone (w : WindowId)
  | windowModify (rq : Requester) (g : Fun) (r : WinRequest)
  | windowRefresh (rq : Requester) (g : Fun) (r : WinRequest)
  | windowRefreshDone (w : WindowId)
  | windowRequestBadOp (rq : Requester) (g : Fun) (r : WinRequest)
  | peerEntryWrite (rq : Requester) (peer : PackageId) (value : U64)
  | cohEnable (rq : Requester) (n : Fin 64)
  | cohDisable (rq : Requester) (n : Fin 64)
  | cohCloseDone (n : Fin 64)
  | coherentAccess (d : Die) (address : U64) (access : CohAccess)
  | snoopAck (d : Die) (line : Nat) (data : Option Bytes)
  | snoopTimeout (d : Die) (line : Nat)
  -- Memory pool interface (09)
  | poolLineRead (line : Nat) (cacheBad : Bool) (checks : CopyChecks) (reader : LineReader)
  | rowRemapCopyDone (row : Nat)
  | repairRequest (rq : Requester) (st : Stack) (value : U64)
  | repairDone (st : Stack) (ok : Bool)
  | marginRequest (rq : Requester) (st : Stack) (value : U64)
  | marginDone (st : Stack) (ok : Bool) (errors : Nat)
  | scrubStep
  -- Fixed-schedule mode, digests and replay (10)
  | slotIssueWindowStart
  | ptpSync (identity : U64) (seq : U16) (arrival : U64)
  | ptpFollowUp (identity : U64) (seq : U16) (originNs : Nat)
  | ptpDelayResp (identity : U64) (seq : U16) (receiveNs : Nat)
  | ptpAnnounce (a : Announce)
  | announceReceiptTimeout
  | delayReqTimer
  | syncLossTimeout
  | replayEntryDue (c : CtxId)
  | unitFailureReport (u : FailUnit)
  | unitRemap (rq : Requester)
  | unitRemapDone
  | modeChangeStage (rq : Requester)
  | modeStageAck (cluster : Nat)
  | modeStageReject (cluster : Nat)
  | modeStageTimeout (cluster : Nat)
  | modeCommit
  -- Events and interrupts (11)
  | eventRecordWrite (g : Fun)
  | ringConsumerWrite (g : Fun) (r : U8) (value : U32)
  | weirDelayExpiry (g : Fun)
  | intPendingClear (g : Fun) (qword : Fin 5) (value : U64)
  | intMaskWrite (g : Fun) (qword : Fin 5) (value : U64)
  | intModerationWrite (g : Fun) (value : U64)
  | idleHint (d : Die) (idle : Bool)
  | wakeFiring (w : WakeInput)
  | gtcAlarm
  | pkgWakereq
  | hmpWakeFrame
  | sleepRequest (rq : Requester)
  | sleepEntered
  | wakeComplete
  -- Error collection and reaction (12)
  | errorRaise (e : Src) (info : ErrInfo)
  | brokenWire (e : Src)
  | blockReset (writer : Option Requester)
  | blockResetDone (badPairs : List Src)
  | packageReset (found : ResetFindings)
  | resetDone
  | watchdogExpiry
  | errCaptureRelease (rq : Requester)
  | fnErrRelease (g : Fun) (value : U64)
  | errOutRelease (rq : Requester)
  | errHoldExpiry
  | errOutMismatch
  | counterClear (rq : Requester) (ref : Ref)
  -- Isolation, keys and attestation (13)
  | getVersion (c : SpdmReq)
  | getCapabilities (c : SpdmReq)
  | negotiateAlgorithms (c : SpdmReq)
  | getDigests (c : SpdmReq)
  | getCertificate (c : SpdmReq) (slot offset length : Nat)
  | challenge (c : SpdmReq) (slot : Nat) (nonce : Bytes)
  | getMeasurements (c : SpdmReq) (signed : Bool) (index : Nat) (nonce : Bytes)
  | chunkSend (c : SpdmReq) (handle seq : Nat) (last : Bool) (chunk : Bytes)
  | chunkGet (c : SpdmReq) (handle seq : Nat)
  | spdmUnsupportedRequest (c : SpdmReq) (code : U8)
  | debugTokenWrite (rq : Requester) (token : Bytes)
  | raiseMinSecurityVersion (rq : Requester) (n : U8)
  | powerCoarseUpdate
  | entropyHealthFailure
  | drbgReseed
  -- Power domains and clock islands (14)
  | domainSwitchStart
  | domainSwitchDone
  | workDomainsOnWrite (rq : Requester) (v : Bool)
  | engineGroupEnableWrite (rq : Requester) (v : U8)
  | digestEngineEnableWrite (rq : Requester) (v : U8)
  | paldarLaneEnableWrite (rq : Requester) (v : U8)
  | clockMeasureWindow (khz : List Nat)
  | powerGoodChange (levels : BitVec 4)
  | telemetryPoll
  | telemetryReply (vin iin : List (Option U16))
  -- Bring-up, variants and firmware (15)
  | power (rq : Requester)
  | train (rq : Requester)
  | qualify (rq : Requester)
  | qualifyEnd (counts : List LaneCount)
  | loadFirmware (rq : Requester)
  | firmwareImageComplete
  | firmwareChunkWrite (rq : Requester) (chunk : Bytes)
  | broadcast (rq : Requester)
  | tileDigestAnswer (tile : Nat) (digest : Bytes)
  | tileAnswerTimeout (tile : Nat)
  | test (rq : Requester)
  | publishMap (rq : Requester)
  | declareReady (rq : Requester)
  | bringupStepEnd (failedClusters : List (Nat × Nat)) (failedEngines : U32)
  | declareReadyComplete
  | port0Lanes (rq : Requester)
  | portLanes (rq : Requester) (p : Port)
  | stackCalibrate (rq : Requester) (st : Stack)
  | calibrateDone (ok : Bool) (values : Calibration)
  | launchGtcReached (c : CtxId)
  | flitModeRefused (p : Port)
  | linkRecovery (p : Port) (width : Nat)
  | aspmL1Entry (p : Port)
  | port0FallbackTrained (nonce : Bytes)
  | errOutMismatchEnd
  | doeDiscovery (p : Port) (index : U8)
  | ptpDelayReq (requester : U64) (seq : U16) (arrivalNs : Nat)
  | ptpSyncTimer
  | ptpAnnounceTimer
  | tapAccess (op : TapOp)
  deriving DecidableEq, Repr

end Sys2Proof
end

