-- ==== Sys2Proof/Decode.lean ====
section
/-!
DEFINITION. Commands are not words: no row of the table gives bits, so no word spells a command.
-/
namespace Sys2Proof

/-- The command that a word spells by the table's bits. The table gives none. -/
def decodeTableWord (_nbits _w : Nat) : Option Instr := none

end Sys2Proof
end

