-- ==== Sys2Proof/Machine/Keys.lean ====
section
/-!
DEFINITION. Byte strings of numbers and names (01_architecture, R5), the key derivation engine
(13_security_attestation, R400 to R403) and the seal of AES-256-GCM (03, R101; 08, R269).
-/
namespace Sys2Proof.Machine

/-- The low `k` bytes of a number, the least significant first (R5). -/
def leBytes (k n : Nat) : Bytes := (List.range k).map fun i => BitVec.ofNat 8 (n >>> (8 * i))

/-- A 32-bit number, the most significant byte first (R401). -/
def be32 (n : Nat) : Bytes := (leBytes 4 n).reverse

/-- ASCII characters without a terminator. -/
def asciiBytes (t : String) : Bytes := t.toList.map fun c => BitVec.ofNat 8 c.toNat

/-- HMAC-SHA-384 (R104, R401). -/
def hmac (key msg : Bytes) : Bytes := (List.range 48).map (Config.hmacByte key msg)

/-- The counter-mode KDF: the leftmost `bits` bits of K(1) ‖ K(2) ‖ … (R401). -/
def kdf (kin : Bytes) (label : String) (context : Bytes) (bits : Nat) : Bytes :=
  ((List.range ((bits + 383) / 384)).flatMap fun i =>
    hmac kin (be32 (i + 1) ++ asciiBytes label ++ [0] ++ context ++ be32 bits)).take (bits / 8)

/-- A secret as derivations use it: the fused one, or the zero secret where its fuse reads 0 or the package is not
LOCKED (R418, R420). -/
def secretOf (n : Nat) (fused : Bool) : Bytes :=
  if fused then (List.range 48).map (Config.fusedSecret n) else List.replicate 48 0

/-- MemoryRootKey and FabricGroupSecret (R400). -/
def memoryRootKey (fused : Bool) : Bytes := secretOf 0 fused
def fabricGroupSecret (fused : Bool) : Bytes := secretOf 1 fused

/-- The pool key of a slot: the AES-256-XTS key pair, then the GMAC key (R402). -/
def poolKey (fused : Bool) (slot : Nat) : Bytes := kdf (memoryRootKey fused) "VHT-POOL" (leBytes 1 slot) 768

/-- The 33 pool keys, slot by slot (R403). -/
def poolKeys (fused : Bool) : List Bytes := (List.range 33).map (poolKey fused)

/-- The key of a crypto lane in a direction, 0 to the dies and 1 from them (R402, R406). -/
def laneKey (fused : Bool) (lane dir : Nat) (nv nd : Bytes) : Bytes :=
  kdf (fabricGroupSecret fused) "VHT-D2D" (leBytes 1 lane ++ leBytes 1 dir ++ nv ++ nd) 256

/-- The keys of lanes 0 and 1, each in directions 0 and 1 (R406). -/
def laneKeys (fused : Bool) (nv nd : Bytes) : List Bytes :=
  [laneKey fused 0 0 nv nd, laneKey fused 0 1 nv nd, laneKey fused 1 0 nv nd, laneKey fused 1 1 nv nd]

/-- The Paldar link key (R402). -/
def paldarLinkKey (fused : Bool) : Bytes := kdf (fabricGroupSecret fused) "VHT-PALDAR" [] 256

/-- One side of a pair: its PackageId, BootId and nonce. -/
structure PairSide where
  id : PackageId
  bootId : U64
  nonce : Bytes

/-- The Paldar session key of a pair: the same whichever side derives it (R402). -/
def paldarSessionKey (fused : Bool) (a b : PairSide) : Bytes :=
  let lo := if a.id.toNat < b.id.toNat then a else b
  let hi := if a.id.toNat < b.id.toNat then b else a
  kdf (paldarLinkKey fused) "PALDAR-SESSION"
    (leBytes 2 lo.id.toNat ++ leBytes 2 hi.id.toNat ++ leBytes 8 lo.bootId.toNat ++ leBytes 8 hi.bootId.toNat ++
      lo.nonce ++ hi.nonce) 256

/-- The key of an HMP session (03, R104). -/
def hmpSessionKey (secret nc nd : Bytes) (slot : Nat) : Bytes :=
  kdf secret "HMP-SESSION" (nc ++ nd ++ leBytes 1 slot) 256

/-- Encrypt with AES-256-GCM: the ciphertext, as long as the plaintext. -/
def gcmCipher (key nonce plain : Bytes) : Bytes := (List.range plain.length).map (Config.gcmByte key nonce plain)

/-- The 16-byte tag of AES-256-GCM over additional authenticated data and a ciphertext. -/
def gcmTag (key nonce aad cipher : Bytes) : Bytes := (List.range 16).map (Config.gcmTagByte key nonce aad cipher)

end Sys2Proof.Machine
end

