-- ==== Sys2Proof/Machine/PoolMap.lean ====
section
/-!
DEFINITION. The pool map (09): how a package reset divides the pool into regions, and the figures of
the variants that the map needs.
-/
namespace Sys2Proof.Machine

/-- Memory stacks of the variant (R2). -/
def stacksOf : Variant → Nat
  | .l16 => 8
  | .l32 => 12
  | .l64 => 24

/-- PoolBytes of the variant: 64 GiB for each stack (R2). -/
def poolBytesOf (v : Variant) : Nat := stacksOf v * 0x10_0000_0000

/-- Bytes of a channel: 2 GiB (R2). -/
def channelBytes : Nat := 0x8000_0000

/-- SpareBytesPerStack: 64 MiB (R289). -/
def spareBytes : Nat := 0x0400_0000

/-- A region of the pool map (R288). `owner` is the function of an EXTENT and 0 otherwise. -/
structure Region where
  kind : RegionKind
  owner : Nat
  base : Nat
  bytes : Nat
  deriving DecidableEq, Repr

/-- Base of a channel of a stack (R286). -/
def channelBase (stack channel : Nat) : Nat := stack * 0x10_0000_0000 + channel * channelBytes

/-- Whether the bit of a channel is set in the mapped-out words, one word of 32 bits per stack. -/
def mappedOut (out : List Nat) (stack channel : Nat) : Bool :=
  (out.getD stack 0).testBit channel

/-- The channels of a stack that are in service, rising. -/
def goodChannels (out : List Nat) (stack : Nat) : List Nat :=
  (List.range 32).filter fun c => !mappedOut out stack c

/-- The channel of a stack that holds its SPARE region: its highest channel in service (R289,
step 2). -/
def spareChannel (out : List Nat) (stack : Nat) : Option Nat :=
  (goodChannels out stack).getLast?

/-- The channels of a stack that may hold a carve-out copy: neither FAULT nor holding SPARE (R289,
step 3). -/
def carveCandidates (out : List Nat) (stack : Nat) : List Nat :=
  (goodChannels out stack).filter fun c => spareChannel out stack != some c

/-- The places of CARVE_OUT and CARVE_OUT_MIRROR, each a stack and a channel, where two such
channels exist (R289, step 3). -/
def carvePlaces (v : Variant) (out : List Nat) : Option ((Nat × Nat) × (Nat × Nat)) :=
  let firsts := (List.range (stacksOf v)).filterMap fun s =>
    (carveCandidates out s).head?.map fun c => (s, c)
  match firsts with
  | a :: b :: _ => some (a, b)
  | [a] => match (carveCandidates out a.1) with
    | _ :: c :: _ => some (a, (a.1, c))
    | _ => none
  | [] => none

/-- Whether two spans share a byte. -/
def spansMeet (b1 n1 b2 n2 : Nat) : Bool := b1 < b2 + n2 && b2 < b1 + n1 && 0 < n1 && 0 < n2

/-- The FAULT, SPARE and carve-out regions of R289, steps 1 to 3. -/
def fixedRegions (v : Variant) (out : List Nat) : List Region :=
  let faults := (List.range (stacksOf v)).flatMap fun s =>
    ((List.range 32).filter (mappedOut out s)).map fun c =>
      Region.mk .fault 0 (channelBase s c) channelBytes
  let spares := (List.range (stacksOf v)).filterMap fun s =>
    (spareChannel out s).map fun c =>
      Region.mk .spare 0 (channelBase s c + channelBytes - spareBytes) spareBytes
  let carve := match carvePlaces v out with
    | some (a, b) => [Region.mk .carveOut 0 (channelBase a.1 a.2) channelBytes,
        Region.mk .carveOutMirror 0 (channelBase b.1 b.2) channelBytes]
    | none => []
  faults ++ spares ++ carve

/-- An extent as its objects ask for it: function, base, bytes (R464). -/
structure ExtentWish where
  fn : Nat
  base : Nat
  bytes : Nat
  deriving DecidableEq, Repr

/-- Whether step 4 of R289 marks a wished extent, given the regions marked before it. FAULT regions
may lie inside an extent. -/
def extentFits (v : Variant) (before : List Region) (w : ExtentWish) : Bool :=
  w.base + w.bytes ≤ poolBytesOf v &&
    before.all fun r => r.kind == .fault || !spansMeet r.base r.bytes w.base w.bytes

/-- Step 4 of R289 over the wishes in ascending function number: the EXTENT regions and the
functions whose extent was dropped. -/
def placeExtents (v : Variant) (fixed : List Region) : List ExtentWish → List Region × List Nat
  | [] => ([], [])
  | w :: ws =>
    if w.bytes = 0 then placeExtents v fixed ws
    else if extentFits v fixed w then
      let r := Region.mk .extent w.fn w.base w.bytes
      let (rs, ds) := placeExtents v (fixed ++ [r]) ws
      (r :: rs, ds)
    else
      let (rs, ds) := placeExtents v fixed ws
      (rs, w.fn :: ds)

/-- Insert a region by ascending base. -/
def insertRegion (r : Region) : List Region → List Region
  | [] => [r]
  | x :: xs => if r.base ≤ x.base then r :: x :: xs else x :: insertRegion r xs

/-- The pieces of a span that no region covers, over regions in ascending order of base. -/
def uncovered (kind : RegionKind) (owner pos limit : Nat) : List Region → List Region
  | [] => if pos < limit then [⟨kind, owner, pos, limit - pos⟩] else []
  | r :: rs =>
    (if pos < r.base then [⟨kind, owner, pos, min r.base limit - pos⟩] else [])
      ++ uncovered kind owner (max pos (r.base + r.bytes)) limit rs

/-- The regions among `rs`, in ascending order of base, that share a byte with a span. -/
def meeting (base bytes : Nat) (rs : List Region) : List Region :=
  rs.filter fun r => spansMeet r.base r.bytes base bytes

/-- An extent without the FAULT channels inside it, which stay regions of their own (R288, R289). -/
def cutExtent (fixed : List Region) (x : Region) : List Region :=
  uncovered x.kind x.owner x.base (x.base + x.bytes) (meeting x.base x.bytes fixed)

/-- The pool map of R289 and the functions whose extent was dropped. -/
def buildPoolMap (v : Variant) (out : List Nat) (wishes : List ExtentWish) :
    List Region × List Nat :=
  let fixed := fixedRegions v out
  let (exts, dropped) := placeExtents v fixed wishes
  let fixedInOrder := fixed.foldr insertRegion []
  let marked := (exts.flatMap (cutExtent fixedInOrder)).foldr insertRegion fixedInOrder
  -- GENERAL is what is left; no GENERAL region crosses a stack boundary (R292)
  let general := (List.range (stacksOf v)).flatMap fun s =>
    uncovered .general 0 (channelBase s 0) (channelBase (s + 1) 0)
      (meeting (channelBase s 0) 0x10_0000_0000 marked)
  (general.foldr insertRegion marked, dropped)

end Sys2Proof.Machine
end

