-- ==== Sys2Proof/Machine/State.lean ====
section
/-!
DEFINITION. The state of the VHT: every register, table, queue, counter and pin that the manual gives
it, grouped by chapter, and the state right after a package reset. Each field names the file and rule
that gives it. A field marked "model" is the model's own.
-/
namespace Sys2Proof.Machine

/-- A sparse memory: (address, byte) pairs with rising addresses, none equal to 0, which is what an
unlisted address reads as. -/
abbrev Mem := List Host.Cell

/-! ### Host ports and functions (02) -/

/-- A tag that is outstanding or quarantined (02_host_endpoint, R61 to R63, R465). -/
structure TagUse where
  tag : ReqTag
  fn : Fun
  use : ReadUse
  /-- PASID of the request, none for an access without one (06, R219) -/
  pasid : Option (BitVec 20)
  address : Nat
  /-- position of the request's first byte in the read it is part of -/
  offset : Nat
  /-- 0 marks a translation request that an Invalidate Request has overtaken (06, R221) -/
  bytes : Nat
  /-- pieces that have arrived, each with its position in the request -/
  pieces : List (Nat × Bytes)
  since : U64
  quarantined : Bool
  /-- its read has timed out (R62): no Invalidate Request waits for it any more (06, R221) -/
  timedOut : Bool
  deriving DecidableEq, Repr

/-- A read or translation request that waits for a tag (02_host_endpoint, R61): what it serves, its PASID, its
address, the position of its first byte and its bytes. -/
structure TagWait where
  fn : Fun
  use : ReadUse
  pasid : Option (BitVec 20)
  address : Nat
  offset : Nat
  bytes : Nat
  deriving DecidableEq, Repr

/-- One translation of an ATS cache (06_translation, R220). -/
structure AtsEntry where
  /-- function whose access obtained it -/
  fn : Fun
  pasid : BitVec 20
  address : Nat
  translated : Nat
  read : Bool
  write : Bool
  deriving DecidableEq, Repr

/-- An Invalidate Request that is held (R221): its tag and the tags of the reads issued with dropped
translations. -/
structure AtsHold where
  itag : Nat
  waits : List ReqTag
  deriving DecidableEq, Repr

/-- One host port (02_host_endpoint, R29 to R66). -/
structure PortSt where
  /-- PortLinkState (R79). Reset: DOWN. -/
  link : LinkState
  /-- PortNegotiatedWidth (R79). Reset: 0. -/
  width : Nat
  /-- PortNegotiatedSpeed (R79). Reset: GT2_5. -/
  speed : Nat
  /-- PERSTn_N asserted (R30). Reset: DESIGN CHOICE false. -/
  perst : Bool
  /-- WAKEn_N asserted (R30, R66). Reset: DESIGN CHOICE false. -/
  wake : Bool
  /-- functions whose watched source asserted WAKEn_N (R66). Reset: none. -/
  wakeOwners : List Fun
  /-- the PME_Turn_Off handshake (R65). Reset: none. -/
  turnOff : TurnOff
  /-- switched off under R65 since PERSTn_N was last deasserted (14, R425). Reset: false. -/
  switchedOff : Bool
  /-- the pins whose Assert_INTx was the last message sent (R56). Reset: none. -/
  intx : List (Fin 4)
  /-- tags in use, by rising tag (R61). Reset: none. -/
  tags : List TagUse
  /-- requests that wait for a tag, in the order in which they came (R61). Reset: none. -/
  waits : List TagWait
  /-- the function, 0 to 7, that a freed tag went to last (R61). Reset: DESIGN CHOICE 7. -/
  tagTurn : Nat
  /-- the ATS cache, most recently used first (06, R220). Reset: empty. -/
  ats : List AtsEntry
  /-- Invalidate Requests held (06, R221). Reset: none. -/
  atsHolds : List AtsHold
  /-- the context that the port's front-end served last (05, R161). Reset: DESIGN CHOICE 0. -/
  fetchTurn : CtxId
  deriving DecidableEq, Repr

/-- Port 0's own state (02_host_endpoint, R33 to R35). -/
structure Port0St where
  /-- Port0Mode: 0 FALLBACK, 1 MAIN, 2 DOWN (R79). Reset: FALLBACK. -/
  mode : Nat
  /-- a main-mode training is running (R33). Reset: false. -/
  training : Bool
  /-- Port0GroupsTrained (R79). Reset: 0. -/
  groups : U8
  /-- failed retrains in a row of each group (R35). Reset: 0. -/
  fails : List Nat
  /-- fall-back training is awaited and no traffic flows (R33, R406). Reset: true. -/
  awaiting : Bool
  /-- the nonce of the training that runs is out (13, R406). Reset: DESIGN CHOICE false. -/
  nonceOut : Bool
  /-- the last nonce that went out to the dies (13, R406). Reset: DESIGN CHOICE empty. -/
  nonce : Bytes
  /-- the main-mode training that runs is the one after a wake (14, R430). Reset: false. -/
  fromWake : Bool
  deriving DecidableEq, Repr

/-- The configuration registers of a function that software writes (02_host_endpoint, R43 to R47). -/
structure FnCfg where
  /-- Command (R43). Reset: 0. -/
  command : U16
  /-- Status: the error bits that are set (R43, R63). Reset: 0. -/
  status : U16
  /-- Cache Line Size (R43). Reset: 0 PRESUMED (base specification). -/
  cacheLine : U8
  /-- Interrupt Line (R43). Reset: 0 PRESUMED (base specification). -/
  intLine : U8
  /-- BAR0/BAR1 base (R43). Reset: 0 PRESUMED (base specification). -/
  bar0 : U64
  /-- BAR2/BAR3 base (R43). Reset: 0 PRESUMED (base specification). -/
  bar2 : U64
  /-- Expansion ROM Base Address (R43). Reset: 0 PRESUMED (base specification). -/
  rom : U32
  /-- PowerState: D3hot (R64). Reset: D0. -/
  d3hot : Bool
  /-- PME_En (R57). Reset: 0 PRESUMED (base specification). -/
  pmeEn : Bool
  /-- PME_Status (R57, R66). Reset: 0 PRESUMED (base specification). -/
  pmeStatus : Bool
  /-- Device Control (R45). Reset: Max_Read_Request_Size 010b, Max_Payload_Size 000b; Enable Relaxed Ordering,
  Enable No Snoop and Extended Tag Field Enable PRESUMED 1 (base specification). -/
  devCtl : U16
  /-- Device Control 2 (R45). Reset: 0. -/
  devCtl2 : U16
  /-- Device Status, its error bits (R45). Reset: 0 PRESUMED (base specification). -/
  devStatus : U16
  /-- Link Control and Link Control 2 of ports 1 to 3 (R37, R45). Reset: 0, and Target Link Speed 128.0 GT/s,
  PRESUMED (base specification). -/
  linkCtl : U16
  linkCtl2 : U16
  /-- AER Uncorrectable Error Status (R63). Reset: 0 PRESUMED (base specification). -/
  aerUnc : U32
  /-- AER Uncorrectable Error Mask (R46). Reset: 0 PRESUMED (base specification). -/
  aerUncMask : U32
  /-- AER Uncorrectable Error Severity (R46). Reset: 0x0046_2030 PRESUMED (base specification). -/
  aerUncSev : U32
  /-- First Error Pointer of AER (R46). Reset: 0 PRESUMED (base specification). -/
  aerFirst : Nat
  /-- AER Correctable Error Status (R63). Reset: 0 PRESUMED (base specification). -/
  aerCor : U32
  /-- AER Correctable Error Mask (R46). Reset: 0x0000_2000 PRESUMED (base specification). -/
  aerCorMask : U32
  /-- ATS Enable (R46). Reset: 0 PRESUMED (base specification). -/
  atsEnable : Bool
  /-- Smallest Translation Unit (R46). Reset: 0 PRESUMED (base specification). -/
  stu : Nat
  /-- PASID Enable (R46). Reset: 0. -/
  pasidEnable : Bool
  /-- Bar2Bytes, BAR2 size as last latched (R51, R79). Reset: latched from ContextQuota. -/
  bar2Bytes : Nat
  deriving DecidableEq, Repr

/-! ### Management (03) -/

/-- A value staged by WRITE_SEGMENT (03_management_dictionary, R108). -/
structure Staging where
  ref : Ref
  data : Bytes
  deriving DecidableEq, Repr

/-- A response that a session keeps for a repeated Sequence (R106). -/
structure Kept where
  seq : U32
  opcode : Nat
  status : FStatus
  gtc : U64
  payload : Bytes
  /-- whether the response has been formed -/
  ready : Bool
  deriving DecidableEq, Repr

/-- A session, pending or open (R104, R105). -/
structure Session where
  sid : U32
  opened : Bool
  slot : Slot
  nc : Bytes
  nd : Bytes
  /-- the session key (R104) -/
  key : Bytes
  /-- GTC of OPEN_SESSION while pending, of the last valid request once open -/
  since : U64
  /-- highest Sequence accepted -/
  high : Option U32
  kept : List Kept
  staging : Option Staging
  deriving DecidableEq, Repr

/-- An access of the management network that waits for the dictionary engine (R88). -/
structure NetAccess where
  src : NetAddr
  sid : U32
  seq : U32
  opcode : Nat
  /-- slot and role of the session (R102, R103), and the key that seals its answer (R101) -/
  slot : Slot
  role : Role
  key : Bytes
  /-- CalOverwrite of the request (R96), and the access asked for -/
  cal : Bool
  access : Access
  deriving DecidableEq, Repr

/-- The management island (03_management_dictionary). -/
structure MgmtSt where
  /-- MgmtLinkState (R115). Reset: DOWN. -/
  linkUp : Bool
  /-- sessions, pending ones included (R105). Reset: none. -/
  sessions : List Session
  /-- next SessionId to hand out (R104). Reset: DESIGN CHOICE 1. -/
  nextSid : U32
  /-- slots that are locked, each with the GTC of its lock (R105). Reset: none. -/
  locks : List (Slot × U64)
  /-- recent AUTH_FAILED results: slot and GTC (R105). Reset: none. -/
  authFails : List (Slot × U64)
  /-- resolved next hops: IPv6 address and MAC (R99). Reset: none. -/
  neighbours : List (Bytes × U64)
  /-- frames that wait for the resolution of their next hop (R99). Reset: none. -/
  unsent : List (Bytes × Msg)
  /-- accesses of the network waiting for the engine (R88). Reset: none. -/
  queue : List NetAccess
  /-- the source served next: 0 the network, 1 + g the mailbox of g (R88). Reset: DESIGN CHOICE 0. -/
  turn : Nat
  /-- RestoreDefaults running (R97). Reset: 0. -/
  restoring : Bool
  /-- StoredSetState DEGRADED (R94). Reset: VALID. -/
  degraded : Bool
  /-- StoredBytesFree (R115). Reset: measured, Config.storedBytesFree 0. -/
  bytesFree : Nat
  /-- bytes of dead records that compaction can free (R93). Reset: DESIGN CHOICE 0. -/
  dead : Nat
  /-- MgmtUdpPort in force since the last package reset (R115). Reset: 4,917. -/
  udpPort : Nat
  deriving DecidableEq, Repr

/-- The DVSEC mailbox of a function (03_management_dictionary, R111 to R113). -/
structure MbxSt where
  /-- Busy (R111). Reset: 0. -/
  busy : Bool
  /-- Done (R111). Reset: 0. -/
  done : Bool
  /-- the operation that waits for the engine (R88). Reset: none. -/
  op : Option Access
  /-- MbxStatus.Status (R111). Reset: DESIGN CHOICE 0. -/
  status : EStatus
  /-- MbxStatus.TypeCode (R111). Reset: DESIGN CHOICE 0. -/
  typeCode : Nat
  /-- MbxStatus.Length (R111). Reset: DESIGN CHOICE 0. -/
  rdLength : Nat
  /-- MbxControl.Op (R111). Reset: DESIGN CHOICE 0. -/
  ctlOp : Nat
  /-- MbxObject (R111). Reset: DESIGN CHOICE 0. -/
  object : U32
  /-- MbxOffset (R111). Reset: DESIGN CHOICE 0. -/
  offset : U32
  /-- MbxLength (R111). Reset: DESIGN CHOICE 0. -/
  length : U32
  /-- MbxData, 32 bytes (R111). Reset: DESIGN CHOICE zeros. -/
  data : Bytes
  /-- the mailbox's staging (R108). Reset: none. -/
  staging : Option Staging
  deriving DecidableEq, Repr

/-! ### Queues, contexts and memory objects (04) -/

/-- A completion that the admin queue has to write (04_objects_lifecycle, R122, R123). -/
structure AdminDone where
  result : U64
  status : AStatus
  tag : U16
  deriving DecidableEq, Repr

/-- An admin entry whose completion waits for an event: its function and CommandTag (R124). -/
structure AdminRef where
  fn : Fun
  tag : U16
  deriving DecidableEq, Repr

/-- The admin queue of a function (04_objects_lifecycle, R120 to R122). -/
structure AdminQ where
  /-- AdminSqBase (R120). Reset: 0 DESIGN CHOICE. -/
  sqBase : U64
  /-- AdminSqControl: Enable and Log2Entries (R120). Reset: 0 DESIGN CHOICE. -/
  sqEnable : Bool
  sqLog2 : Nat
  /-- AdminSqTail (R120). Reset: 0 DESIGN CHOICE. -/
  sqTail : U16
  /-- AdminSqHead (R120). Reset: 0 DESIGN CHOICE. -/
  sqHead : U16
  /-- AdminCqBase (R120). Reset: 0 DESIGN CHOICE. -/
  cqBase : U64
  /-- AdminCqControl: Enable and Log2Entries (R120). Reset: 0 DESIGN CHOICE. -/
  cqEnable : Bool
  cqLog2 : Nat
  /-- AdminCqHead (R120). Reset: 0 DESIGN CHOICE. -/
  cqHead : U16
  /-- completion index (R122). Reset: 0 DESIGN CHOICE. -/
  cqTail : U16
  /-- AdminStatus.ErrorCode (R120). Reset: NONE. -/
  error : QError
  /-- both Enables have been clear since the queue last began to run (R121). Reset: true. -/
  cleared : Bool
  /-- an entry that has been read and not yet decided (R124). Reset: none. -/
  taken : Option Bytes
  /-- completion records in completion order, not yet written (R122). Reset: none. -/
  held : List AdminDone
  deriving DecidableEq, Repr

/-- The schedule of a fixed-schedule context (10_determinism, R314) and what its run has done. -/
structure ReplayWait where
  use : ReadUse
  address : Nat
  offset : Nat
  bytes : Nat
  /-- byte count of its HOST_READ entry in the log -/
  entry : Nat
  deriving DecidableEq, Repr

structure FixedSt where
  slotMask : U16
  engines : List Nat
  clusterBase : Nat
  clusterCount : Nat
  /-- pinned scratch spans: pool address and bytes (R322) -/
  scratch : List (Nat × Nat)
  logMode : LogMode
  /-- slot of the MoraineObject, and its generation -/
  moraine : U64
  replayAnchor : U64
  /-- CycleExact (R329). -/
  cycleExact : Bool
  /-- entries of the moraine log that wait for an owned slot (R337) -/
  toLog : List Bytes
  /-- the log has overflowed (R337) -/
  overflowed : Bool
  /-- the replay has diverged (R338) or has ended -/
  live : Bool
  /-- a recorded stall holds dispatch and delivery (R337) -/
  stalled : Bool
  /-- HOST read requests of a replay that wait for the time of their log entry (R337) -/
  replayWaits : List ReplayWait
  /-- byte counts of the log of a replay: the next entry in time, and the end of the last HOST_READ entry that a
  request has taken; 0 is the log's Head at creation (R337) -/
  cursor : Nat
  paired : Nat
  /-- HOST_READ entries whose time has come and whose data has not been taken (R337) -/
  setAside : List Nat
  /-- header writes of a replay that wait for an owned slot: offset in the object, and bytes (R318) -/
  logWrites : List (Nat × Bytes)
  /-- spans whose locked entry was dropped: first granule, granules and the fault they meet (06, R212) -/
  gone : List (Nat × Nat × TCode)
  deriving DecidableEq, Repr

/-- A context record (04_objects_lifecycle, R127 to R134; 10_determinism, R331). -/
structure Ctx where
  state : CtxState
  fn : Fun
  slot : Nat
  /-- the doorbell slot is bound (05, R156) -/
  bound : Bool
  queueBase : U64
  queueLog2 : Nat
  eventRing : Nat
  rangeTable : U64
  rootOffset : Nat
  pasid : BitVec 20
  schedule : U64
  fixed : Option FixedSt
  head : U24
  tail : U24
  submitTag : U16
  lostReason : LostReason
  lostGtc : U64
  createdGtc : U64
  /-- CommandsCompleted and CommandsLostCompleted, in the encoding of R390 -/
  completed : U64
  lostCompleted : U64
  /-- the DESTROY_CONTEXT that waits for the abort's end (R133) -/
  destroyer : Option AdminRef
  /-- accumulators PROGRAM, WEIGHTS, INPUTS and OUTPUT (10, R331) -/
  accs : List Bytes
  /-- PROGRAM at creation (10, R332) -/
  program0 : Bytes
  deriving DecidableEq, Repr

/-- A live memory object, or one whose drop is under way (04_objects_lifecycle, R138 to R146). -/
structure MemObj where
  slot : Nat
  gen : Nat
  owner : Fun
  ctx : Option CtxId
  bytes : Nat
  shared : Bool
  mirrored : Bool
  fence : Bool
  ring : Nat
  mirrorBase : Nat
  /-- PrimaryBase and, for a MIRRORED object, MirrorBase (09, R292 to R294) -/
  base : Nat
  mirrorSpan : Option Nat
  grants : List (Fun × Rights)
  /-- FREE_OBJECT has reached count 0 (R143) -/
  freed : Bool
  /-- who waits for the drop's end (R143) -/
  freer : Option AdminRef
  /-- grant changes that wait for their drop (R146): function and entry -/
  changes : List (Fun × AdminRef)
  deriving DecidableEq, Repr

/-- Contexts, objects and fence mirrors of the package (04_objects_lifecycle). -/
structure ObjSt where
  /-- contexts that are not FREE, by rising ID (R117). Reset: none. -/
  ctxs : List (CtxId × Ctx)
  /-- the lowest ID never used since reset (R128). Reset: DESIGN CHOICE 0. -/
  ctxNext : Nat
  /-- freed context IDs, the longest free first (R128). Reset: none. -/
  ctxFreed : List CtxId
  /-- memory objects by slot (R117). Reset: none. -/
  objs : List MemObj
  /-- generation of each slot ever used (R139). Reset: none. -/
  gens : List (Nat × Nat)
  /-- highest slot ever allocated (R155, ObjectSlotsUsed). Reset: 0. -/
  slotsUsed : Nat
  /-- freed slots, the longest free first (R139). Reset: none. -/
  slotsFreed : List Nat
  /-- ObjectSlotsRetired (R155). Reset: 0. -/
  retired : Nat
  /-- fence mirror writes not yet issued: slot, word, value (R152). Reset: none. -/
  mirrors : List (Nat × Nat × U64)
  deriving DecidableEq, Repr

/-! ### Commands and transfers (05, 07) -/

/-- Where a command stands (05_command_path, R161 to R179). -/
inductive CmdStage where
  /-- entry k is being read -/
  | fetching (k : Nat)
  /-- the first entry is held for a later tail (R162) -/
  | short
  /-- every entry is in; not yet the dispatch head, or held at stage n of R173 -/
  | queued (n : Nat)
  | dispatched
  /-- its work is over with this status; it waits for COMMAND_COMPLETION -/
  | ended (s : CStatus)
  deriving DecidableEq, Repr

/-- A part of a LAUNCH (R176). -/
structure Part where
  k : Nat
  cluster : Nat
  ended : Bool
  /-- PART_CANCEL was sent at this GTC -/
  cancelled : Option U64
  /-- ModeEpoch when the LAUNCH was dispatched (10, R345) -/
  epoch : Nat
  deriving DecidableEq, Repr

/-- The tile that a transfer moves (07_transfers_faults, R231 to R234). -/
structure Tile where
  index : Nat
  src : List Run
  dst : List Run
  /-- source bytes at hand, position and bytes; once delivery has begun, the tile's output bytes -/
  pieces : List (Nat × Bytes)
  /-- the delivery has begun (R234) -/
  begun : Bool
  /-- what the runs end at, with the side and the address: a translation fault, a poisoned node, or an answer that is
  awaited (R232, R233) -/
  stop : Option (TOut × Nat × Nat)
  deriving DecidableEq, Repr

/-- A transfer in progress (07_transfers_faults, R229 to R249). -/
structure Xfer where
  engine : Engine
  next : Nat
  consumed : Nat
  /-- FaultId of the record that the command waits for (R243) -/
  faulted : Option U32
  tile : Option Tile
  /-- an ATS translation of this address was denied (06, R220) -/
  atsDenied : Option Nat
  /-- output sequence for the digest (10, R331): bytes so far, the open leaf, the closed leaves -/
  outBytes : Nat
  leaf : Bytes
  leaves : List Bytes
  deriving DecidableEq, Repr

/-- Progress of FLUSH, INVALIDATE, DIGEST_RANGE and of the reads of single operands. -/
structure SpanWork where
  done : Nat
  pieces : List (Nat × Bytes)
  leaves : List Bytes
  deriving DecidableEq, Repr

/-- An entry of the tracking table (05_command_path, R164). -/
structure Cmd where
  ctx : CtxId
  /-- queue index of the first entry -/
  q : Nat
  raw : Bytes
  stage : CmdStage
  /-- waits released so far, and whether the next one is registered (R151) -/
  waits : Nat
  registered : Bool
  /-- stream tag (R177) -/
  tag : Option U16
  /-- LaunchGtc lay in the past at stage 4: the count of the issue window in which the LAUNCH is dispatched (10,
  R326) -/
  late : Option Nat
  /-- ModeEpoch when the command was dispatched (10, R345) -/
  epoch : Nat
  /-- the tail accepted when the fetch of the command began (R184) -/
  tailAt : U24
  parts : List Part
  /-- CommandSerial, once the command has sent a window operation (08, R266) -/
  serial : Option U32
  /-- where the entry that is being read lies, once it is translated (R163) -/
  entryAt : Option Target
  /-- the digest engine whose step of this DIGEST_RANGE has begun and not ended (R182; 14, R427) -/
  digest : Option Nat
  /-- its work on a transfer engine, once it has one (07, R236) -/
  xfer : Option Xfer
  /-- the part of a FLUSH, INVALIDATE, DIGEST_RANGE or single operand that is done (R182) -/
  span : SpanWork
  deriving DecidableEq, Repr

/-- An engine's commands (07_transfers_faults, R224, R236). -/
structure EngineSt where
  /-- at most 16, the next in round robin first -/
  active : List (CtxId × Nat)
  queued : List (CtxId × Nat)
  /-- the stepped command whose step runs (05, R183) -/
  serving : Option (CtxId × Nat)
  /-- cycles of the engine's own work in that step (05, R182), and the tile that was counted last -/
  moved : Nat
  counted : Option Nat
  /-- the step has ended with its command, and what waits is still to be served before the next one (05, R183) -/
  closed : Bool
  /-- commands that were waiting when the last step ended, and are served before the next one (05, R183) -/
  owed : List (CtxId × Nat)
  deriving DecidableEq, Repr

/-- A stream tag that stays out of use until its beats and parts are out (05_command_path, R178). -/
structure Drain where
  tag : U16
  ctx : CtxId
  q : Nat
  parts : List Part
  since : U64
  deriving DecidableEq, Repr

/-- The command and transfer islands (05, 07). -/
structure CmdSt where
  /-- the tracking table, in the order of fetch (05, R164). Reset: empty. -/
  table : List Cmd
  /-- stream tags that drain (05, R178). Reset: none. -/
  drains : List Drain
  /-- the 32 transfer engines (07, R224). Reset: idle. -/
  engines : List EngineSt
  /-- stepped operations served in the present round of each unit (05, R183). Reset: none. -/
  steps : List (StepUnit × StepOp)
  /-- FLUSH and INVALIDATE commands that are not cut into steps and were waiting for the memory-side island when its
  last step ended: they are served before the next step (05, R183). Reset: none. -/
  memOwed : List (CtxId × Nat)
  /-- the function whose command took each stream tag last (07, R239). Reset: none. -/
  tagFns : List (Nat × Fun)
  /-- front-ends that wait for a freed tracking entry, and the last one that was given one (05, R164). Reset: none,
  and DESIGN CHOICE the last port. -/
  entryWaits : List Port
  entryTurn : Port
  deriving DecidableEq, Repr

/-- A fault record (07_transfers_faults, R242). -/
structure FaultRec where
  id : U32
  code : TCode
  /-- 1 destination -/
  side : Nat
  need : Need
  ctx : CtxId
  opcode : Nat
  q : Nat
  tag : U16
  va : Nat
  resume : Nat
  count : Nat
  gtc : U64
  data : U64
  /-- GTC of its writing, once written (R248) -/
  written : U64
  deriving DecidableEq, Repr

/-- The fault queue of a function (07_transfers_faults, R240 to R248). -/
structure FaultQ where
  /-- FaultQBase (R240). Reset: 0 DESIGN CHOICE. -/
  base : U64
  /-- FaultQControl: Enable and Log2Entries (R240). Reset: 0 DESIGN CHOICE. -/
  enable : Bool
  log2 : Nat
  /-- FaultQTail (R240). Reset: 0 DESIGN CHOICE. -/
  tail : U16
  /-- FaultQHead (R240). Reset: 0 DESIGN CHOICE. -/
  head : U16
  /-- FaultQStatus.ErrorCode (R240). Reset: NONE. -/
  error : QError
  /-- FaultTimeout in ns (R240). Reset: 1,000,000,000. -/
  timeout : U64
  /-- FaultResponseResult (R246). Reset: 0. -/
  result : U64
  /-- the FaultId of the next record (R244). Reset: 1. -/
  nextId : U32
  /-- records formed and not written (R243). Reset: none. -/
  waiting : List FaultRec
  /-- records written and not answered (R244). Reset: none. -/
  pending : List FaultRec
  deriving DecidableEq, Repr

/-! ### Translation (06) -/

/-- An entry of the range store (06_translation, R201). -/
structure REntry where
  id : Nat
  who : Who
  start : Nat
  len : Nat
  ttype : Nat
  sharedRo : Bool
  coherent : Bool
  /-- RangeTableObject and RootOffset of the installer -/
  table : U64
  root : Nat
  /-- resolved target base: pool address, bus address or fabric address -/
  base : Nat
  pasid : BitVec 20
  object : Option Nat
  /-- the grant-holding function's number, when the target is reached through a grant -/
  viaGrant : Option Fun
  fenceObj : Bool
  effR : Bool
  effW : Bool
  effA : Bool
  referenced : Bool
  locked : Bool
  deriving DecidableEq, Repr

/-- Where a walk stands (06_translation, R203, R205, R210). -/
inductive WalkAt where
  | anchor
  | root
  | node (level height low high : Nat)
  /-- the entry is found; it waits for the leases of the entry that it replaces -/
  | install (e : REntry) (victim : Nat)
  deriving DecidableEq, Repr

/-- A walk in flight or a queued miss (06_translation, R206). -/
structure Walk where
  id : Nat
  who : Who
  granule : Nat
  group : Nat
  place : WalkAt
  offset : Nat
  stale : Bool
  /-- the misses that joined it: address, permission needed, and whether the answer goes out at the edge -/
  waiters : List (Nat × Need × Bool)
  deriving DecidableEq, Repr

/-- A lease (06_translation, R217, R218). -/
structure Lease where
  cluster : Nat
  slot : Nat
  ctx : CtxId
  entry : Nat
  first : Nat
  last : Nat
  base : Nat
  effR : Bool
  effW : Bool
  effA : Bool
  /-- the entry it is on, as it was when the lease was granted -/
  ent : REntry
  /-- LEASE_REVOKE has been sent; these wait for its end -/
  revoking : List ScanOwner
  deriving DecidableEq, Repr

/-- Which entries a scan drops (06_translation, R215, R216). -/
inductive ScanFor where
  /-- unlocked entries of these contexts' table that share a granule with [first, last] -/
  | span (c : CtxId) (tableWide : Bool) (first last : Nat)
  /-- every entry that resolves to the object, of one function or of all -/
  | object (slot : Nat) (g : Option Fun)
  /-- every entry of the context -/
  | context (c : CtxId)
  /-- every unlocked entry of the window -/
  | window (w : WindowId)
  deriving DecidableEq, Repr

/-- A scan of one bank that has not ended (06_translation, R215). -/
structure Scan where
  bank : Nat
  what : ScanFor
  owner : ScanOwner
  deriving DecidableEq, Repr

/-- The translation island (06_translation). -/
structure TransSt where
  /-- the banks of the range store; each list begins at the clock hand (R201, R210). Reset: empty. -/
  banks : List (List REntry)
  /-- RangeStoreBanks as latched at the last package reset (R223). Reset: 8. -/
  bankCount : Nat
  /-- next entry identifier (model). Reset: DESIGN CHOICE 0. -/
  nextEntry : Nat
  /-- walks in flight and queued misses (R206). Reset: none. -/
  walks : List Walk
  nextWalk : Nat
  /-- outcomes of a walk for the misses that joined it and have not come back for them, with the GTC of the walk's
  end; one that is older is not used, as absence is never cached (R202, R206). Reset: none. -/
  answers : List (Who × Nat × Need × TOut × U64)
  /-- misses that a full queue stalls at their crossing (R206). Reset: none. -/
  stalled : List (Who × Nat × Need)
  /-- leases (R217). Reset: none. -/
  leases : List Lease
  /-- scans that have not ended (R215). Reset: none. -/
  scans : List Scan
  /-- tiles in delivery against dropped entries, that a drop waits for: its owner, and the tile's context, queue
  index and number (R215, step 4). Reset: none. -/
  tileHolds : List (ScanOwner × CtxId × Nat × Nat)
  deriving DecidableEq, Repr

/-! ### Windows and coherence (08) -/

/-- A window table entry (08_windows_coherence, R258). -/
structure Win where
  state : WinState
  owner : Fun
  table : U64
  root : Nat
  read : Bool
  write : Bool
  atomic : Bool
  srcMatch : PackageId
  mask : PackageId
  deriving DecidableEq, Repr

/-- A Paldar frame as the sender keeps it for retransmission (R270). -/
structure Frame where
  /-- sequenced frames sent before it in the session, or LINK_ACKs where it is one (R269) -/
  count : Nat
  type : Nat
  q1 : U64
  q2 : U64
  q3 : U64
  q4 : U64
  payload : Bytes
  deriving DecidableEq, Repr

/-- The session of a pair (R269, R270). -/
structure PairSession where
  bootId : U64
  nonceLocal : Bytes
  noncePeer : Bytes
  /-- the session key (13, R402) -/
  key : Bytes
  sent : Nat
  expect : Nat
  acked : Nat
  /-- LINK_ACKs sent -/
  ackSent : Nat
  ackGot : Option Nat
  unacked : List Frame
  /-- the first frames of `unacked`, so many, have been sent at least once -/
  emitted : Nat
  /-- GTC of the last advance of the acknowledgement, or of the first unacknowledged frame -/
  advance : U64
  /-- GTC of the last retransmission, or of the last advance -/
  resent : U64
  /-- GTC since when an arriving frame waits for an acknowledgement -/
  owed : Option U64
  /-- crypto lanes 2 and 3 that hold the session's keys (14, R428) -/
  lanes : BitVec 2
  deriving DecidableEq, Repr

/-- A peer (R271). -/
structure Peer where
  id : PackageId
  state : PeerState
  /-- Ethernet port in use, and the ports that timed out in turn -/
  port : Option Nat
  tried : List Nat
  session : Option PairSession
  /-- the nonce of the HELLO that is out -/
  hello : Option Bytes
  /-- GTC of the last HELLO, or of the entry into DOWN -/
  since : U64
  /-- GTC of the last frame from the peer -/
  heard : U64
  /-- the BootId last seen (R269) -/
  bootId : Option U64
  deriving DecidableEq, Repr

/-- A window operation at its sender (R273). -/
structure SendOp where
  ctx : CtxId
  q : Nat
  peer : PackageId
  window : WindowId
  serial : U32
  tile : Nat
  need : Need
  /-- runs: window offset, bytes, position in the tile's bytes -/
  runs : List (Nat × Nat × Nat)
  /-- 0 checked, 1 accepted, 2 data sent, 3 done; 4 waits to retry a BUSY; 5 denied -/
  phase : Nat
  /-- the DENY code and the address it faults at (R275) -/
  denied : Option (Nat × Nat)
  since : U64
  /-- read data that has arrived -/
  got : Bytes
  deriving DecidableEq, Repr

/-- A window operation at its receiver (R260, R273). -/
structure RecvOp where
  src : PackageId
  window : WindowId
  serial : U32
  tile : Nat
  need : Need
  elementType : Nat
  reduceOp : Nat
  /-- runs gathered from frames before the last -/
  runs : List WRun
  /-- the translated runs, once accepted; an ACCEPT holds them -/
  held : Option (List Run)
  bytes : Nat
  /-- data that waits to execute: position and bytes -/
  staged : List (Nat × Bytes)
  received : Nat
  executed : Nat
  last : Bool
  /-- accepted before a REFRESH of the window that has not ended (R262) -/
  old : Bool
  /-- stream tag that the operation's frames carry -/
  tag : U16
  deriving DecidableEq, Repr

/-- The identity of a committed reduction (R274). -/
structure Commit where
  src : PackageId
  bootId : U64
  serial : U32
  tile : Nat
  gtc : U64
  /-- LinkSeq count of the frame that carries its DONE, while the session that sent it lasts -/
  doneSeq : Option Nat
  deriving DecidableEq, Repr

/-- A frame of an operation that the receiver has accepted and still has to check or execute, in LinkSeq order
(R276): a check, the reads of an operation that passed its check, data, or a CANCEL. -/
inductive InFrame where
  | check (need : Need) (h : FrameHdr) (runs : List WRun)
  | serve (h : FrameHdr)
  | data (h : FrameHdr) (b : Bytes)
  | cancel (h : FrameHdr)
  deriving DecidableEq, Repr

/-- A line that the snoop filter tracks (R280). -/
structure Line where
  address : Nat
  owned : Bool
  dies : List Die
  deriving DecidableEq, Repr

/-- A snoop that is out (R281). -/
structure Snoop where
  die : Die
  line : Nat
  invalidate : Bool
  since : U64
  /-- the S2 error has been raised for it -/
  late : Bool
  /-- the access that waits for it, as a capture names it (12, R380) -/
  master : ErrInfo
  deriving DecidableEq, Repr

/-- The window island and the coherence island (08_windows_coherence). -/
structure WinSt where
  /-- LocalPackageId in force (R285). Reset: 0. -/
  localId : PackageId
  /-- PaldarEtherType and PaldarVlan in force (R285). Reset: 0x88B5 and 0. -/
  etherType : U16
  vlan : U16
  /-- link of each of the 12 Ethernet ports (R257). Reset: DESIGN CHOICE down. -/
  links : BitVec 12
  /-- peers whose entry is valid (R271). Reset: none. -/
  peers : List Peer
  /-- windows that are not CLOSED, by rising WindowId (R258). Reset: none. -/
  table : List (WindowId × Win)
  /-- CommandSerial of the next command (R266). Reset: DESIGN CHOICE 0. -/
  nextSerial : U32
  /-- operations at the sender (R273). Reset: none. -/
  sends : List SendOp
  /-- operations at the receiver (R273). Reset: none. -/
  recvs : List RecvOp
  /-- frames at the receiver that wait for their turn, oldest first (R276). Reset: none. -/
  inbox : List InFrame
  /-- the commit history (R274). Reset: empty. -/
  history : List Commit
  /-- CohState and CohRefusal of the 64 coherent windows (R285). Reset: OFF, NONE. -/
  coh : List (CohState × CohRefusal)
  /-- the snoop filter, oldest entry first (R280). Reset: empty. -/
  filter : List Line
  /-- snoops that are out (R281). Reset: none. -/
  snoops : List Snoop
  /-- coherent accesses that wait for snoops (R280). Reset: none. -/
  waiting : List (Die × U64 × CohAccess)
  /-- REFRESH requests that have not ended: function and window (R262). Reset: none. -/
  refreshing : List (Fun × WindowId)
  deriving DecidableEq, Repr

/-! ### Pool (09) -/

/-- A remap of a row to a spare (09_memory_pool, R299). -/
structure Remap where
  row : Nat
  spare : Nat
  copying : Bool
  /-- lines of the row that are copied from their second copy (R303, R304), each with that copy's address -/
  fromCopy : List (Nat × Nat)
  deriving DecidableEq, Repr

/-- A scrub of a span (09_memory_pool, R306; 13_security_attestation, R410). `owner` is the function
whose duty it is, for an event of R67. -/
structure Scrub where
  base : Nat
  bytes : Nat
  /-- bytes of the span that are scrubbed -/
  done : Nat
  mirror : Option Nat
  owner : Option Fun
  extent : Bool
  reset : Bool
  deriving DecidableEq, Repr

/-- The memory-side island (09_memory_pool). -/
structure PoolSt where
  /-- pool contents as the pool cache shows them (R287). Reset: unlisted bytes read 0. -/
  mem : Mem
  /-- lines whose stack copy is older, with the stack's bytes (R287, R305). Reset: none. -/
  stale : List (Nat × Bytes)
  /-- PoolMap regions (R288). Reset: built by R289. -/
  regions : List Region
  /-- functions whose extent was dropped (R289). Reset: none. -/
  dropped : List Nat
  /-- extents in force: function, base, bytes (R195). Reset: none. -/
  extents : List ExtentWish
  /-- mapped-out channels, one word per stack (R291). Reset: none. -/
  mappedOut : List Nat
  /-- the poison directory (R300). Reset: empty. -/
  poison : List Nat
  /-- row trackers: row and count, the most recently counted first (R299). Reset: empty. -/
  tracker : List (Nat × Nat)
  /-- row remaps (R299). Reset: none. -/
  remaps : List Remap
  /-- spare rows taken, by address (R299). Reset: none. -/
  sparesUsed : List Nat
  /-- rows for which POOL_SPARES_EXHAUSTED was raised (R299). Reset: none. -/
  exhausted : List Nat
  /-- scrubs, in the order in which they came (R306). Reset: the reset scrub of R307. -/
  scrubs : List Scrub
  /-- a hard repair or margining test that runs: stack and request (R309, R310). Reset: none. -/
  repairing : Option (Nat × U64)
  margining : Option (Nat × U64)
  /-- RepairResult and MarginResult per stack (R312). Reset: 0. -/
  repairResults : List (Nat × U64)
  marginResults : List (Nat × U64)
  /-- RepairRowsLeft per stack, where it differs from the total (R309). Reset: DESIGN CHOICE the total. -/
  repairLeft : List (Nat × Nat)
  deriving DecidableEq, Repr

/-! ### Determinism (10) -/

/-- The GTC's discipline (10_determinism, R323 to R325). -/
structure SyncSt where
  /-- GtcSyncState (R325). Reset: FREE_RUN. -/
  state : SyncState
  /-- announcers heard, each with the GTC of its last Announce (R323). Reset: none. -/
  foreign : List (Announce × U64)
  /-- the grandmaster selected, none when this package is the best (R323). Reset: none. -/
  master : Option U64
  /-- GtcOffsetNs (R347). Reset: 0. -/
  offset : Int
  /-- Syncs in a row within ±20 ns (R325). Reset: 0. -/
  inBand : Nat
  /-- the Sync that waits for its Follow_Up: sequence and arrival GTC (R323). Reset: none. -/
  sync : Option (U16 × U64)
  /-- the last Sync used: its origin in ns and its arrival GTC (R323). Reset: none. -/
  last : Option (Nat × U64)
  /-- the Delay_Req that is out: sequence and departure GTC (R323). Reset: none. -/
  delayReq : Option (U16 × U64)
  /-- mean path delay in ns (R323). Reset: DESIGN CHOICE 0. -/
  delay : Nat
  /-- GTC of the last Sync accepted (R325). Reset: 0. -/
  lastSync : U64
  /-- slewing in force, in ns still to remove (R325). Reset: 0. -/
  slew : Int
  /-- sequence numbers of the PTP messages sent (R323). Reset: DESIGN CHOICE 0. -/
  seq : Nat
  /-- the forward step has been made (R325). Reset: false. -/
  stepped : Bool
  deriving DecidableEq, Repr

/-- An item from outside the VHT that its receiving island holds until its fixed-schedule context's next issue
window (10, R318). -/
inductive Arrival where
  /-- a lease request of a cluster (06, R218) -/
  | lease (cluster slot : Nat) (ctx : CtxId) (va : Nat) (need : Need)
  /-- a HOST read that has failed, and whether its data was poisoned (02, R63) -/
  | failed (use : TagUse) (poisoned : Bool)
  /-- window read data with a poisoned line (08, R261) -/
  | poison (ctx : CtxId) (q va : Nat)
  deriving DecidableEq, Repr

/-- Fences, the disabled-unit map and mode changes (10_determinism). -/
structure DetSt where
  /-- logical clusters fenced and not remapped (R339). Reset: none. -/
  fenced : List Nat
  /-- physical clusters fenced at run time: physical tile and cluster (15, R455). Reset: none. -/
  fencedPhys : List (Nat × Nat)
  /-- engines fenced (R339). Reset: 0. -/
  enginesFenced : U32
  /-- DisabledUnitMap (15, R455). Reset: empty. -/
  unitMap : Bytes
  /-- UnitMapGeneration (R334). Reset: 0. -/
  generation : U32
  /-- UnitMapDigest and DeterminismKey (R334). Reset: empty. -/
  digest : Bytes
  key : Bytes
  /-- a REMAP runs (R340). Reset: false. -/
  remapping : Bool
  /-- the clusters that were fenced when that REMAP began (R340, R346). Reset: none. -/
  remapSet : List Nat
  /-- UnitRemapResult (R340). Reset: 0. -/
  remapResult : U32
  /-- ModeWord (R342). Reset: 0. -/
  modeWord : U64
  /-- ModeEpoch (R343). Reset: 0. -/
  epoch : U32
  /-- ModeChangeState (R347). Reset: IDLE. -/
  mode : ModeState
  /-- the word that is staged (R343). Reset: 0 DESIGN CHOICE. -/
  stageWord : U64
  /-- clusters staged and not yet acknowledged, and those that have acknowledged (R343). Reset: none. -/
  unacked : List Nat
  acked : List Nat
  /-- GTC at which staging began (R343). Reset: 0 DESIGN CHOICE. -/
  stageGtc : U64
  /-- ModeCommitGtc (R343). Reset: 0. -/
  commitGtc : U64
  /-- ModeAbandonUnit (R344). Reset: 0xFFFF. -/
  abandonUnit : Nat
  /-- epoch applied by each cluster, where it is not 0 (R345). Reset: none. -/
  epochs : List (Nat × Nat)
  /-- clusters that keep the previous word until they hold no part of its epoch (R345). Reset: none. -/
  lagging : List Nat
  /-- ScratchPartitionBytes in force (R347). Reset: 0x0400_0000. -/
  scratchBytes : Nat
  /-- arrivals held at their receiving island, oldest first (R318). Reset: none. -/
  arrivals : List Arrival
  deriving DecidableEq, Repr

/-! ### Events, interrupts and errors (11, 12) -/

/-- An event record, but for its Phase bit (11_events_interrupts, R348). -/
structure EvRec where
  ring : Nat
  kind : Nat
  info : Nat
  ctx : Option CtxId
  data0 : U64
  data1 : U64
  gtc : U64
  deriving DecidableEq, Repr

/-- A live event ring (11_events_interrupts, R350). -/
structure Ring where
  base : U64
  log2 : Nat
  producer : U32
  consumer : U32
  /-- RingOverflowPending and the records dropped since the last RING_OVERFLOW (R352) -/
  overflow : Bool
  dropped : Nat
  deriving DecidableEq, Repr

/-- Events and interrupts of a function (11_events_interrupts). -/
structure IntSt where
  /-- live event rings by number (R350). Reset: none. -/
  rings : List (Nat × Ring)
  /-- records formed and not yet at their ring, in order (R348). Reset: none. -/
  formed : List EvRec
  /-- records held during a stall, in order (R353). Reset: none. -/
  held : List EvRec
  /-- pending latches, bit s for source s (R355). Reset: 0. -/
  latches : BitVec 320
  /-- IntMask, bit s for source s (R363). Reset: every source masked. -/
  masks : BitVec 320
  /-- SourceLoss counters that are not 0 (R356). Reset: 0. -/
  loss : List (Nat × U32)
  /-- the weir's state (R357). Reset: IDLE. -/
  weir : Weir
  /-- GTC of its entry into HOLDING (R357). Reset: 0 DESIGN CHOICE. -/
  weirGtc : U64
  /-- DelayNs of IntModeration (R363). Reset: 8,000. -/
  delayNs : Nat
  /-- TargetDie of IntModeration (R363). Reset: 0. -/
  targetDie : Die
  deriving DecidableEq, Repr

/-- A capture set (12_errors, R380). Reset: IDLE. -/
structure Capture where
  heldNow : Bool
  source : Nat
  cls : Nat
  address : U64
  access : Nat
  master : U64
  gtc : U64
  highest : Nat
  mergedMask : U64
  mergedCount : U32
  deriving DecidableEq, Repr

/-- Everything of one function. -/
structure FnSt where
  /-- configuration registers (02). -/
  cfg : FnCfg
  /-- FunctionState (02, R79). Reset: NOT_READY where present, else ABSENT. -/
  state : FnState
  /-- the event of R67 that is under way (02, R67). Reset: none. -/
  abort : Option AbortEvent
  /-- FnResetGtc (02, R50). Reset: 0 DESIGN CHOICE. -/
  resetGtc : U64
  /-- FnStallGtc (02, R50). Reset: 0 DESIGN CHOICE. -/
  stallGtc : U64
  /-- the DVSEC mailbox (03). -/
  mbx : MbxSt
  /-- the admin queue (04). -/
  admin : AdminQ
  /-- the fault queue (07). -/
  faultq : FaultQ
  /-- events and interrupts (11). -/
  int : IntSt
  /-- the function capture (12). -/
  capture : Capture
  /-- WindowRequestResult (08, R262). Reset: 0. -/
  winResult : U64
  /-- RemoteDenyLast (08, R275). Reset: 0. -/
  remoteDeny : U64
  /-- ScheduleRejectReason (10, R315). Reset: NONE. -/
  rejectReason : Nat
  /-- FnPowerCoarseW (13, R408). Reset: 0. -/
  powerCoarse : Nat
  deriving DecidableEq, Repr

/-- The error collector (12_errors). -/
structure ErrSt where
  /-- ErrPackageState (R396). Reset: NORMAL. -/
  pkg : PkgState
  /-- the package capture (R380). Reset: IDLE. -/
  capture : Capture
  /-- ErrCount of each source that is not 0 (R396). Reset: 0. -/
  counts : List (Nat × U32)
  /-- sources whose ErrWireFault reads 1 (R374, R375). Reset: none. -/
  wireFaults : List Src
  /-- GTC of the error that entered the fatal state (R387). Reset: 0 DESIGN CHOICE. -/
  fatalGtc : U64
  /-- a reset selected by a reaction and not started (R379). Reset: none. -/
  blockPending : Bool
  packagePending : Bool
  /-- MGMT_CORE_FAULT has been raised since the last reset: the block reset also restarts the core (R384, R393).
  Reset: false. -/
  coreRestart : Bool
  /-- ERR_OUT driven to ERROR (R389). Reset: false. -/
  pin : Bool
  /-- GTC of the entry into ERROR (R389). Reset: 0 DESIGN CHOICE. -/
  pinGtc : U64
  /-- a release waits for the 1 ms hold (R389). Reset: false. -/
  releaseWaiting : Bool
  /-- ErrOutAssertions (R396). Reset: 0. -/
  assertions : U32
  /-- errors that selected ERR_PIN since the last release and are not left: contexts lost, and an S2
  or S3 outstanding (R371, R389). Reset: none. -/
  pinContexts : List CtxId
  pinBlock : Bool
  pinFatal : Bool
  /-- the sensed pins differ from the driven level (R388). Reset: false. -/
  mismatch : Bool
  deriving DecidableEq, Repr

/-! ### Security, power and bring-up (13, 14, 15) -/

/-- A connection of the SPDM responder (13_security_attestation, R415). -/
structure SpdmSt where
  conn : SpdmConn
  /-- 0 new, 1 version, 2 capabilities, 3 algorithms negotiated -/
  stage : Nat
  /-- the requester's DataTransferSize (R415) -/
  size : Nat
  /-- transcripts of the messages that signatures cover: versions, capabilities and algorithms; digests,
  certificates and challenges; measurements -/
  vca : Bytes
  msgsB : Bytes
  msgsL : Bytes
  /-- a long request that is being received, and the number of its next chunk -/
  chunkIn : Bytes
  seqIn : Nat
  /-- a long response that is being sent, its handle and the number of its next chunk -/
  chunkOut : Bytes
  handle : Nat
  seqOut : Nat
  deriving DecidableEq, Repr

/-- Keys, measurements, debug state and the DRBG (13_security_attestation). -/
structure SecSt where
  /-- MR0 to MR3 (R412). Reset: MR0 and MR2 written, MR1 and MR3 zeros. -/
  mr : List Bytes
  /-- DebugState (R420). Reset: DESIGN CHOICE LOCKED. -/
  debug : DebugState
  /-- FuseState bits 0 to 4 (R418). Reset: 0x0F, as each package leaves the factory. -/
  fuses : Nat
  /-- MinSecurityVersion (R423). Reset: fused. -/
  minSec : Nat
  /-- DeviceNonce (R421). Reset: drawn. -/
  deviceNonce : Bytes
  /-- BootId (R404). Reset: drawn. -/
  bootId : U64
  /-- DebugPending (R421). Reset: NONE. -/
  pending : Nat
  /-- SPDM connections, the most recently used first (R415). Reset: none. -/
  spdm : List SpdmSt
  /-- network requesters whose connection was dropped (R415). Reset: none. -/
  dropped : List SpdmConn
  /-- SPDM messages of the network that wait for the responder, each with the Sequence of its frame (03,
  R102). Reset: none. -/
  inbox : List (SpdmConn × U32 × Bytes)
  /-- requests to the DRBG since it was seeded (R404). Reset: 0. -/
  requests : Nat
  /-- the entropy health test has failed (R404). Reset: false. -/
  entropyFailed : Bool
  /-- the management core is halted through the test access port (R420). Reset: false. -/
  coreHalted : Bool
  /-- bytes of the management core's memory that were written, or read, while the core has been halted (R419, R420).
  Reset: none. -/
  coreMem : List (Nat × U8)
  /-- the pool keys in the line ciphers, by slot (R402, R403). Reset: the 33 keys. -/
  lineKeys : List Bytes
  /-- the keys of crypto lanes 0 and 1, each in both directions (R402, R406). Reset: none. -/
  laneKeys : List Bytes
  deriving DecidableEq, Repr

/-- Where package sleep stands (14_power_clocks, R430). -/
inductive SleepPhase where
  | awake | entering | asleep | waking
  deriving DecidableEq, Repr

/-- Power domains, sleep, power-good inputs and telemetry (14_power_clocks). -/
structure PowerSt where
  /-- DomainsOn (R437). Reset: the condition domains of R425. -/
  on : BitVec 50
  /-- the switch in progress: domain and direction (R428). Reset: none. -/
  switching : Option (Nat × Bool)
  /-- WorkDomainsOn (R426). Reset: 0. -/
  work : Bool
  /-- where package sleep stands (R430). Reset: awake. -/
  phase : SleepPhase
  /-- SleepRefusal (R429). Reset: NONE. -/
  refusal : Nat
  /-- Port0Mode at sleep entry (R430). Reset: FALLBACK DESIGN CHOICE. -/
  mode0 : Nat
  /-- a firing during sleep entry that wakes once it ends (11, R369). Reset: none. -/
  wakeLate : Option Nat
  /-- WakeCause (11, R367). Reset: 0. -/
  wakeCause : U64
  /-- sources that fired during sleep: function and source (11, R366, R367). Reset: none. -/
  slept : List (Fun × Nat)
  /-- PowerGood inputs (R434). Reset: DEDUCED CORE and MEM high. -/
  good : BitVec 4
  /-- GTC at which PGOOD_CORE rose last, where it has fallen since the package was powered (R434). Reset: none. -/
  coreRise : Option U64
  /-- inputs that fell during package sleep (R436). Reset: none. -/
  fell : BitVec 4
  /-- the package has lost every power-good input and is being power-cycled (12, R371). -/
  cycled : Bool
  /-- InputVoltageMv, InputCurrentMa, InputPowerMw, TelemetryGtc, TelemetryValid (R437). Reset: 0. -/
  millivolts : Nat
  milliamps : Nat
  milliwatts : Nat
  telGtc : U64
  telValid : Bool
  /-- the last good readings of each converter, as LINEAR11 words (R435). Reset: 0 DESIGN CHOICE. -/
  readings : List (U16 × U16)
  /-- reads in a row that each converter failed to answer (R435). Reset: 0. -/
  misses : List Nat
  /-- a poll is out (R435). Reset: false. -/
  polled : Bool
  /-- IslandClockKhz of the 13 islands (R437). Reset: 0. -/
  khz : List Nat
  deriving DecidableEq, Repr

/-- Lane results: NOT_RUN 0, PASS 1, FAIL 2, NOT_ENABLED 3, and the errors (15_bringup_firmware). -/
structure LaneRes where
  port : Nat
  lane : Nat
  result : Nat
  errors : Nat
  deriving DecidableEq, Repr

/-- A tile that has been sent the TILE section (15_bringup_firmware, R453). -/
structure TileWait where
  tile : Nat
  /-- unicast sends made -/
  tries : Nat
  since : U64
  deriving DecidableEq, Repr

/-- Bring-up and firmware (15_bringup_firmware). -/
structure BootSt where
  /-- BringUpState (R462). Reset: RESET_DONE. -/
  state : BringUp
  /-- BringUpCommand, the last accepted (R462). Reset: NONE. -/
  command : BringUpCmd
  /-- BringUpResult (R443). Reset: NONE. -/
  result : BringUpResult
  /-- BringUpStepGtc (R462). Reset: 0. -/
  stepGtc : U64
  /-- ReadyGtc (R462). Reset: 0. -/
  readyGtc : U64
  /-- GTC at which the running step began (R446). Reset: 0 DESIGN CHOICE. -/
  began : U64
  /-- the package reset is running (R440). Reset: false. -/
  resetting : Bool
  /-- the pool part of the package reset waits for PGOOD_MEM, with what its checks find (R440; 14, R434). Reset:
  none. -/
  poolWait : Option ResetFindings
  /-- FirmwareState (03, R115). Reset: ABSENT. -/
  fw : FwState
  /-- FirmwareVersion and FirmwareSecurityVersion (R451). Reset: 0. -/
  version : U32
  secVersion : Nat
  /-- FirmwareLoadError (R449). Reset: NONE. -/
  loadError : Nat
  /-- FirmwareDigest and TileFirmwareDigest (R451). Reset: empty. -/
  digest : Bytes
  tileDigest : Bytes
  /-- the firmware partition (R450). Reset: empty. -/
  image : Mem
  /-- 4 KiB blocks of the partition that have been written (R450). Reset: none. -/
  blocks : List Nat
  /-- bytes of the image whose reads have been issued (R451). Reset: 0. -/
  issued : Nat
  /-- the UEFI section in the expansion ROM store (R53, R54). Reset: empty. -/
  uefi : Bytes
  /-- tiles loaded, and tiles whose answer is awaited (R453). Reset: none. -/
  loaded : List Nat
  waits : List TileWait
  failedTiles : List Nat
  /-- physical clusters that failed the start-up test: physical tile and cluster (R454). Reset: none. -/
  failedClusters : List (Nat × Nat)
  /-- engines that failed it (R454). Reset: 0. -/
  failedEngines : U32
  /-- physical cluster of each served logical cluster (R439). Reset: none. -/
  positions : List (Nat × Nat)
  /-- lanes measured at the last QUALIFY (R445). Reset: none. -/
  lanes : List LaneRes
  /-- lanes that passed at the last QUALIFY that ended DONE (R455). Reset: none. -/
  passed : List (Nat × Nat)
  /-- LanesQualified, LanesFailed and QualifyDurationNs (R462). Reset: 0. -/
  qualified : Nat
  failed : Nat
  duration : Nat
  /-- CalibrateRequest that runs, and CalibrateResult (R459). Reset: none, NONE. -/
  calibrating : Option Nat
  calibrated : Nat
  deriving DecidableEq, Repr

/-- The state of the VHT. -/
structure State where
  /-- the variant, fixed by fuses (00_scope, R2). Reset: DESIGN CHOICE L64. -/
  variant : Variant
  /-- the global time count (01_architecture, R17). Reset: 0. -/
  gtc : U64
  /-- objects that are plain values, where they differ from their Default (03, R85). Reset: none. -/
  od : List (Nat × Val)
  /-- the stored set: objects that have a record (03, R92). Reset: DESIGN CHOICE none. -/
  stored : List (Nat × Val)
  /-- counters of range 0xD000 that are not 0 (12, R397). Reset: 0. -/
  counters : List (Nat × U64)
  mgmt : MgmtSt
  ports : List PortSt
  port0 : Port0St
  fns : List FnSt
  obj : ObjSt
  cmd : CmdSt
  trans : TransSt
  win : WinSt
  pool : PoolSt
  sync : SyncSt
  det : DetSt
  /-- the last idle hint of each die (11, R359). Reset: every die BUSY. -/
  idle : BitVec 4
  err : ErrSt
  sec : SecSt
  power : PowerSt
  boot : BootSt
  /-- draws made of free values (model). Reset: DESIGN CHOICE 0. -/
  draws : Nat
  /-- what the device has issued at its edge, newest first (model). Reset: DESIGN CHOICE none. -/
  out : List Msg
  /-- commands that wait, first in first out (model). Reset: none. -/
  pending : List Instr
  deriving DecidableEq, Repr

/-- How the machine stops with a fault. The manual gives every command an effect in every state, so
none is raised; the one constructor stands for a queue entry outside the table, which the type of
commands rules out. Safe. -/
inductive Fault where
  | outsideTable
  deriving DecidableEq, Repr

/-- How a command is refused. -/
inductive Refusal where
  /-- the command has no meaning yet; raised by exec alone. Safe. -/
  | notModelled (mnemonic : String)
  deriving DecidableEq, Repr

/-! ### Reset -/

def PortSt.init : PortSt :=
  { link := .down, width := 0, speed := 0, perst := false, wake := false, wakeOwners := [],
    turnOff := .none, switchedOff := false, intx := [], tags := [], waits := [], tagTurn := 7, ats := [],
    atsHolds := [], fetchTurn := 0 }

def Port0St.init : Port0St :=
  { mode := 0, training := false, groups := 0, fails := List.replicate 8 0, awaiting := true,
    nonceOut := false, nonce := [], fromWake := false }

/-- Configuration registers at their defaults, with the BAR2 size latched (R43 to R51). Device Control: R45 gives
Max_Read_Request_Size 010b and Max_Payload_Size 000b; it gives no default for Enable Relaxed Ordering, Enable No
Snoop and Extended Tag Field Enable, which reset to 1 here: the first two PRESUMED from the base specification, the
third a DESIGN CHOICE, as the base specification leaves it to the implementation (log 56). -/
def FnCfg.init (bar2Bytes : Nat) : FnCfg :=
  { command := 0, status := 0, cacheLine := 0, intLine := 0, bar0 := 0, bar2 := 0, rom := 0,
    d3hot := false, pmeEn := false, pmeStatus := false, devCtl := 0x2910, devCtl2 := 0, devStatus := 0, aerUnc := 0,
    linkCtl := 0, linkCtl2 := 7, aerUncMask := 0, aerUncSev := 0x00462030, aerFirst := 0, aerCor := 0, aerCorMask := 0x2000, atsEnable := false,
    stu := 0, pasidEnable := false, bar2Bytes := bar2Bytes }

def MbxSt.init : MbxSt :=
  { busy := false, done := false, op := none, status := .ok, typeCode := 0, rdLength := 0,
    ctlOp := 0, object := 0, offset := 0, length := 0, data := List.replicate 32 0, staging := none }

def AdminQ.init : AdminQ :=
  { sqBase := 0, sqEnable := false, sqLog2 := 0, sqTail := 0, sqHead := 0, cqBase := 0,
    cqEnable := false, cqLog2 := 0, cqHead := 0, cqTail := 0, error := .none, cleared := true,
    taken := none, held := [] }

def FaultQ.init : FaultQ :=
  { base := 0, enable := false, log2 := 0, tail := 0, head := 0, error := .none,
    timeout := 1000000000, result := 0, nextId := 1, waiting := [], pending := [] }

def IntSt.init : IntSt :=
  { rings := [], formed := [], held := [], latches := 0, masks := (BitVec.allOnes 259).setWidth 320,
    loss := [], weir := .idle, weirGtc := 0, delayNs := 8000, targetDie := 0 }

def Capture.init : Capture :=
  { heldNow := false, source := 0, cls := 0, address := 0, access := 0, master := 0, gtc := 0,
    highest := 0, mergedMask := 0, mergedCount := 0 }

def FnSt.init (present : Bool) (bar2Bytes : Nat) : FnSt :=
  { cfg := FnCfg.init bar2Bytes, state := if present then .notReady else .absent, abort := none,
    resetGtc := 0, stallGtc := 0, mbx := MbxSt.init, admin := AdminQ.init, faultq := FaultQ.init,
    int := IntSt.init, capture := Capture.init, winResult := 0, remoteDeny := 0, rejectReason := 0,
    powerCoarse := 0 }

def MgmtSt.init : MgmtSt :=
  { linkUp := false, sessions := [], nextSid := 1, locks := [], authFails := [], neighbours := [], unsent := [],
    queue := [], turn := 0, restoring := false, degraded := false,
    bytesFree := (Config.storedBytesFree 0).toNat, dead := 0, udpPort := 4917 }

def ObjSt.init : ObjSt :=
  { ctxs := [], ctxNext := 0, ctxFreed := [], objs := [], gens := [], slotsUsed := 0,
    slotsFreed := [], retired := 0, mirrors := [] }

def EngineSt.init : EngineSt := ⟨[], [], none, 0, none, false, []⟩

def CmdSt.init : CmdSt :=
  { table := [], drains := [], engines := List.replicate 32 EngineSt.init, steps := [], memOwed := [],
    tagFns := [], entryWaits := [], entryTurn := 3 }

def TransSt.init : TransSt :=
  { banks := List.replicate 8 [], bankCount := 8, nextEntry := 0, walks := [], nextWalk := 0, answers := [], stalled := [],
    leases := [], scans := [], tileHolds := [] }

def WinSt.init : WinSt :=
  { localId := 0, etherType := 0x88B5, vlan := 0, links := 0, peers := [], table := [],
    nextSerial := 0, sends := [], recvs := [], inbox := [], history := [],
    coh := List.replicate 64 (.off, .none), filter := [], snoops := [], waiting := [],
    refreshing := [] }

/-- The scrubs of R307 over the regions of a pool map. -/
def resetScrubs (rs : List Region) : List Scrub :=
  (rs.filter fun r => r.kind == .general || r.kind == .extent).map fun r =>
    { base := r.base, bytes := r.bytes, done := 0, mirror := none, owner := none, extent := false,
      reset := true }

/-- The memory-side island with a pool map, nothing written, and the reset scrub waiting. -/
def PoolSt.init (v : Variant) : PoolSt :=
  { mem := [], stale := [], regions := (buildPoolMap v [] []).1, dropped := [], extents := [],
    mappedOut := List.replicate 24 0, poison := [], tracker := [], remaps := [], sparesUsed := [],
    exhausted := [], scrubs := resetScrubs (buildPoolMap v [] []).1, repairing := none,
    margining := none, repairResults := [], marginResults := [], repairLeft := [] }

def SyncSt.init : SyncSt :=
  { state := .freeRun, foreign := [], master := none, offset := 0, inBand := 0, sync := none,
    last := none, delayReq := none, delay := 0, lastSync := 0, slew := 0, seq := 0,
    stepped := false }

def DetSt.init : DetSt :=
  { fenced := [], fencedPhys := [], enginesFenced := 0, unitMap := [], generation := 0,
    digest := [], key := [], remapping := false, remapSet := [], remapResult := 0, modeWord := 0, epoch := 0,
    mode := .idle, stageWord := 0, unacked := [], acked := [], stageGtc := 0, commitGtc := 0,
    abandonUnit := 0xFFFF, epochs := [], lagging := [], scratchBytes := 0x4000000, arrivals := [] }

def ErrSt.init : ErrSt :=
  { pkg := .normal, capture := Capture.init, counts := [], wireFaults := [], fatalGtc := 0, blockPending := false,
    packagePending := false, coreRestart := false, pin := false, pinGtc := 0,
    releaseWaiting := false, assertions := 0, pinContexts := [], pinBlock := false,
    pinFatal := false, mismatch := false }

/-- Domains on after a package reset (R425): host ports present, link groups, crypto lanes 0 and 1,
front-ends, event logic and the management controller. -/
def resetDomains : Variant → BitVec 50
  | .l64 => 0x1FCC000000FFF
  | .l32 => 0x1DCC000000FF7
  | .l16 => 0x14CC000000FF3

def PowerSt.init (v : Variant) : PowerSt :=
  { on := resetDomains v, switching := none, work := false, phase := .awake, refusal := 0,
    mode0 := 0, wakeLate := none, wakeCause := 0, slept := [], good := 0b0101, coreRise := none, fell := 0, cycled := false,
    millivolts := 0, milliamps := 0, milliwatts := 0, telGtc := 0, telValid := false,
    readings := [(0, 0), (0, 0)], misses := [0, 0], polled := false,
    khz := List.replicate 13 0 }

def BootSt.init : BootSt :=
  { state := .resetDone, command := .none, result := .none, stepGtc := 0, readyGtc := 0, began := 0,
    resetting := false, poolWait := none, fw := .absent, version := 0, secVersion := 0, loadError := 0, digest := [],
    tileDigest := [], image := [], blocks := [], issued := 0, uefi := [], loaded := [], waits := [],
    failedTiles := [], failedClusters := [], failedEngines := 0, positions := [], lanes := [],
    passed := [], qualified := 0, failed := 0, duration := 0, calibrating := none, calibrated := 0 }

/-- U64(x) of the manual: eight bytes, the least significant first. -/
def le8 (n : Nat) : Bytes := (List.range 8).map fun i => BitVec.ofNat 8 (n >>> (8 * i))

/-- The security record of R412. -/
def securityRecord (v : Variant) (fuses : Nat) (debug minSec : Nat) : Bytes :=
  let code := match v with | .l16 => 0x10 | .l32 => 0x20 | .l64 => 0x40
  le8 (code * 256 + fuses) ++ le8 debug ++ le8 minSec ++
    (List.range 48).map (Config.fusedDigest 0)

/-- SHA-384 as 48 bytes. -/
def sha384 (m : Bytes) : Bytes := (List.range 48).map (Config.sha384Byte m)

def SecSt.init (v : Variant) : SecSt :=
  { mr := [(List.range 48).map (Config.fusedDigest 2), List.replicate 48 0,
      sha384 (securityRecord v 0x0F 0 Config.minSecurityVersion.val), List.replicate 48 0],
    debug := .locked, fuses := 0x0F, minSec := Config.minSecurityVersion.val,
    deviceNonce := (List.range 32).map (Config.drbgByte 0),
    bootId := (List.range 8).foldl (fun a i => a ||| (Config.drbgByte 1 i).setWidth 64 <<< (8 * i)) 0,
    pending := 0, spdm := [], dropped := [], inbox := [], requests := 2, entropyFailed := false,
    coreHalted := false, coreMem := [], lineKeys := poolKeys true, laneKeys := [] }

/-- Functions that the variant presents (R2). -/
def functionsOf : Variant → Nat
  | .l16 => 16
  | .l32 => 24
  | .l64 => 32

/-- BAR2 bytes that ContextQuota's default gives a function (R51, R155). -/
def defaultBar2 (g : Nat) : Nat := if g % 8 = 0 then 0x80000 else 0x20000

/-- The block right after a package reset has ended, with an empty stored set. -/
def State.resetOf (v : Variant) : State :=
  { variant := v, gtc := 0, od := [], stored := [], counters := [], mgmt := MgmtSt.init,
    ports := List.replicate 4 PortSt.init, port0 := Port0St.init,
    fns := (List.range 32).map fun g => FnSt.init (g < functionsOf v) (defaultBar2 g),
    obj := ObjSt.init, cmd := CmdSt.init, trans := TransSt.init, win := WinSt.init,
    pool := PoolSt.init v, sync := SyncSt.init, det := DetSt.init, idle := 0, err := ErrSt.init,
    sec := SecSt.init v, power := PowerSt.init v, boot := BootSt.init, draws := 2, out := [],
    pending := [] }

/-- The machine right after reset: an L64 with an empty stored set. -/
def State.reset : State := State.resetOf .l64

end Sys2Proof.Machine
end

