-- ==== Sys2Proof/Machine/Bits.lean ====
section
/-!
DEFINITION. Fields of words, little-endian byte strings (01_architecture, R5) and the small list
helpers that the meanings share.
-/
namespace Sys2Proof.Machine

/-- Bits `hi` down to `lo` of a number. -/
def field (n hi lo : Nat) : Nat := (n >>> lo) % 2 ^ (hi + 1 - lo)

/-- The number that bytes spell, the least significant first (R5). -/
def leNat : Bytes → Nat
  | [] => 0
  | b :: bs => b.toNat + 256 * leNat bs

/-- `len` bytes at `off`; bytes beyond the end read 0. -/
def sliceBytes (b : Bytes) (off len : Nat) : Bytes :=
  (List.range len).map fun i => b.getD (off + i) 0

/-- The number in `len` bytes at `off`. -/
def numAt (b : Bytes) (off len : Nat) : Nat := leNat (sliceBytes b off len)

/-- Qword `i` of a byte string. -/
def qwordAt (b : Bytes) (i : Nat) : Nat := numAt b (8 * i) 8

/-- `b` with `d` written at `off`; `b` grows with zeros when it is too short. -/
def overlay (b : Bytes) (off : Nat) (d : Bytes) : Bytes :=
  sliceBytes b 0 off ++ d ++ b.drop (off + d.length)

/-- A byte string cut or padded with zeros to `n` bytes. -/
def padTo (n : Nat) (b : Bytes) : Bytes := sliceBytes b 0 n

/-- The signed value of the low `w` bits of a number. -/
def toSigned (w n : Nat) : Int :=
  let m := n % 2 ^ w
  if m < 2 ^ (w - 1) then (m : Int) else (m : Int) - 2 ^ w

/-- A signed value as `w` bits. -/
def ofSigned (w : Nat) (i : Int) : Nat := (i % 2 ^ w).toNat

/-- A bit of a number, as a number. -/
def bit (b : Bool) (at_ : Nat) : Nat := if b then 2 ^ at_ else 0

/-- A 64-bit word. -/
def w64 (n : Nat) : U64 := BitVec.ofNat 64 n

/-- The nanoseconds `ns` in GTC counts, rounded up: ⌈ns ÷ 0.8⌉ (01_architecture, R17). -/
def nsCounts (ns : Nat) : Nat := (ns * 5 + 3) / 4

/-- The value under a key. -/
def assocGet {β : Type} (l : List (Nat × β)) (k : Nat) : Option β :=
  (l.find? fun e => e.1 == k).map (·.2)

/-- Write a key; the list stays in rising order of its keys. -/
def assocPut {β : Type} : List (Nat × β) → Nat → β → List (Nat × β)
  | [], k, v => [(k, v)]
  | (a, w) :: l, k, v =>
    if k < a then (k, v) :: (a, w) :: l
    else if k = a then (k, v) :: l
    else (a, w) :: assocPut l k v

/-- Remove a key. -/
def assocDel {β : Type} (l : List (Nat × β)) (k : Nat) : List (Nat × β) :=
  l.filter fun e => e.1 != k

/-- Insert a number into a rising list without repeats. -/
def insertNat (n : Nat) : List Nat → List Nat
  | [] => [n]
  | a :: l => if n < a then n :: a :: l else if n = a then a :: l else a :: insertNat n l

/-- Fold an update over a list, the first element first. -/
def foldState {α : Type} (f : α → State → State) : List α → State → State
  | [], s => s
  | a :: l, s => foldState f l (f a s)

/-- The list from its first element that satisfies `p` on, followed by what stood before it: how a
round robin resumes (01_architecture). -/
def rotateTo {α : Type} (p : α → Bool) (l : List α) : List α :=
  l.dropWhile (fun a => !p a) ++ l.takeWhile fun a => !p a

/-- Outcome of a command, in full. -/
abbrev Out := Host.Outcome State Fault Refusal

/-- The sum of a list. -/
def sumNat (l : List Nat) : Nat := l.foldl (· + ·) 0

end Sys2Proof.Machine
end

