-- ==== Sys2Proof/Machine/ObjTable.lean ====
section
/-!
DEFINITION. The object dictionary: every object of the manual's object tables, with its type, access,
persistence, range and Default (03_management_dictionary, R81 to R85).
-/
namespace Sys2Proof.Machine

/-- Object types (R83). -/
inductive ObjTy where
  | bool | u8 | u16 | u32 | u64 | i32 | enum | addr57 | duration | string | blob
  deriving DecidableEq, Repr

/-- Access classes (R84). -/
inductive ObjAcc where
  | const | ro | rw | wo | rwm | rwh
  deriving DecidableEq, Repr

/-- Where an object's Default comes from: a number, bytes, or a value that the package computes (a fused
value, a figure of the variant). -/
inductive ObjDflt where
  | num (n : Nat)
  | bytes (b : Bytes)
  | zeros (n : Nat)
  | computed
  deriving DecidableEq, Repr

/-- What an index counts: nothing, host ports from a base index, or functions from a base index. -/
inductive ObjScope where
  | package
  | port (base : Nat)
  | fn (base : Nat)
  deriving DecidableEq, Repr

/-- Other figures an index counts. -/
inductive ObjUnit where
  | none | stack
  deriving DecidableEq, Repr

/-- Persistence (R85). -/
inductive ObjPers where
  | volatile | stored
  deriving DecidableEq, Repr

/-- A row of the object tables: `count` indices from `base` and `subs` subindices from `sub`. -/
structure ObjRow where
  base : Nat
  count : Nat := 1
  sub : Nat
  subs : Nat := 1
  name : String
  ty : ObjTy
  acc : ObjAcc
  pers : ObjPers := .volatile
  calib : Bool := false
  lo : Nat := 0
  hi : Nat := 0xFFFFFFFFFFFFFFFF
  codes : List Nat := []
  align : Nat := 1
  maxLen : Nat := 0
  exact : Bool := false
  dflt : ObjDflt := .num 0
  scope : ObjScope := .package
  unit : ObjUnit := .none
  deriving DecidableEq, Repr

/-- A run of counters: U64, RW, Default 0, VOLATILE (12_errors, R397). -/
def counterRows (base count : Nat) (scope : ObjScope) : Nat → List String → List ObjRow
  | _, [] => []
  | sub, n :: ns =>
    { base := base, count := count, sub := sub, name := n, ty := .u64, acc := .rw, scope := scope }
      :: counterRows base count scope (sub + 1) ns

/-- Objects of 03_management_dictionary, R115. -/
def mgmtObjects1 : List ObjRow :=
  [ { base := 0x1000, sub := 1, name := "VendorName", ty := .string, acc := .const, dflt := .computed },
    { base := 0x1000, sub := 2, name := "ProductName", ty := .string, acc := .const,
        dflt := .computed },
    { base := 0x1000, sub := 3, name := "Variant", ty := .enum, acc := .const, dflt := .computed },
    { base := 0x1000, sub := 4, name := "SiliconStepping", ty := .u8, acc := .const,
        dflt := .computed },
    { base := 0x1000, sub := 5, name := "SerialNumber", ty := .string, acc := .const,
        dflt := .computed },
    { base := 0x1001, sub := 1, name := "ComputeTiles", ty := .u16, acc := .const, dflt := .computed },
    { base := 0x1001, sub := 2, name := "LogicalClusters", ty := .u16, acc := .const,
        dflt := .computed },
    { base := 0x1001, sub := 3, name := "MemoryStacks", ty := .u8, acc := .const, dflt := .computed },
    { base := 0x1001, sub := 4, name := "PoolBytes", ty := .u64, acc := .const, dflt := .computed },
    { base := 0x1001, sub := 5, name := "Channels", ty := .u16, acc := .const, dflt := .computed },
    { base := 0x1001, sub := 6, name := "HostPorts", ty := .u8, acc := .const, dflt := .computed },
    { base := 0x1002, sub := 1, name := "FirmwareVersion", ty := .u32, acc := .ro },
    { base := 0x1002, sub := 2, name := "FirmwareState", ty := .enum, acc := .ro },
    { base := 0x1002, sub := 3, name := "FirmwareDigest", ty := .blob, acc := .ro, maxLen := 48,
        dflt := .bytes [] },
    { base := 0x1002, sub := 4, name := "BootRomVersion", ty := .u32, acc := .const,
        dflt := .computed },
    { base := 0x1003, sub := 1, name := "StoredSetState", ty := .enum, acc := .ro },
    { base := 0x1003, sub := 2, name := "StoredBytesFree", ty := .u32, acc := .ro },
    { base := 0x1003, sub := 3, name := "RestoreDefaults", ty := .bool, acc := .rwm },
    { base := 0x1100, sub := 1, name := "MgmtMacAddress", ty := .u64, acc := .const,
        dflt := .computed },
    { base := 0x1100, sub := 2, name := "MgmtLinkState", ty := .enum, acc := .ro } ]

/-- Objects of 03_management_dictionary, R115. -/
def mgmtObjects2 : List ObjRow :=
  [ { base := 0x1100, sub := 3, name := "MgmtIpv6Address", ty := .blob, acc := .rwm, pers := .stored,
        maxLen := 16, exact := true, dflt := .zeros 16 },
    { base := 0x1100, sub := 4, name := "MgmtIpv6Prefix", ty := .u8, acc := .rwm, pers := .stored,
        lo := 1, hi := 128, dflt := .num 64 },
    { base := 0x1100, sub := 5, name := "MgmtUdpPort", ty := .u16, acc := .rwm, pers := .stored,
        lo := 1024, hi := 65535, dflt := .num 4917 },
    { base := 0x1100, sub := 6, name := "MgmtSessionIdle", ty := .duration, acc := .rwm,
        pers := .stored, lo := 10000000000, hi := 3600000000000, dflt := .num 300000000000 },
    { base := 0x1100, sub := 7, name := "MgmtSessionsOpen", ty := .u8, acc := .ro },
    { base := 0x1100, sub := 8, name := "MgmtIpv6Gateway", ty := .blob, acc := .rwm, pers := .stored,
        maxLen := 16, exact := true, dflt := .zeros 16 },
    { base := 0x1110, count := 8, sub := 1, name := "CredentialRole", ty := .enum, acc := .rwm,
        pers := .stored, hi := 3, dflt := .computed },
    { base := 0x1110, count := 8, sub := 2, name := "CredentialSecret", ty := .blob, acc := .wo,
        pers := .stored, maxLen := 32, exact := true, dflt := .computed },
    { base := 0x1110, count := 8, sub := 3, name := "CredentialLocked", ty := .bool, acc := .ro },
    { base := 0x1110, count := 8, sub := 4, name := "CredentialInitial", ty := .bool, acc := .ro,
        pers := .stored, dflt := .computed } ]

/-- Objects of 02_host_endpoint, R79. -/
def portObjects1 : List ObjRow :=
  [ { base := 0x2000, sub := 1, name := "PortsPresent", ty := .u8, acc := .const, dflt := .computed },
    { base := 0x2000, sub := 2, name := "SubsystemVendorId", ty := .u16, acc := .rwm, pers := .stored,
        dflt := .num 0x1D7E },
    { base := 0x2001, sub := 1, name := "Port0ModeRequest", ty := .enum, acc := .rw, hi := 1,
        scope := .port 0x2001 },
    { base := 0x2001, sub := 2, name := "Port0Mode", ty := .enum, acc := .ro, scope := .port 0x2001 },
    { base := 0x2001, sub := 3, name := "Port0GroupsTrained", ty := .u8, acc := .ro,
        scope := .port 0x2001 },
    { base := 0x2001, sub := 4, name := "Port0RetrainLimit", ty := .u8, acc := .rwm, pers := .stored,
        lo := 1, hi := 255, dflt := .num 3, scope := .port 0x2001 },
    { base := 0x2001, sub := 5, name := "Port0SubsystemId", ty := .u16, acc := .rwm, pers := .stored,
        scope := .port 0x2001 },
    { base := 0x2011, count := 3, sub := 1, name := "PortEnable", ty := .bool, acc := .rwm,
        pers := .stored, dflt := .num 1, scope := .port 0x2010 },
    { base := 0x2011, count := 3, sub := 2, name := "PortWidth", ty := .enum, acc := .rwm,
        pers := .stored, hi := 2, scope := .port 0x2010 },
    { base := 0x2011, count := 3, sub := 3, name := "PortMaxSpeed", ty := .enum, acc := .rwm,
        pers := .stored, hi := 6, dflt := .num 6, scope := .port 0x2010 },
    { base := 0x2011, count := 3, sub := 4, name := "PortLinkState", ty := .enum, acc := .ro,
        scope := .port 0x2010 },
    { base := 0x2011, count := 3, sub := 5, name := "PortNegotiatedWidth", ty := .u8, acc := .ro,
        scope := .port 0x2010 },
    { base := 0x2011, count := 3, sub := 6, name := "PortNegotiatedSpeed", ty := .enum, acc := .ro,
        scope := .port 0x2010 },
    { base := 0x2011, count := 3, sub := 7, name := "PortSubsystemId", ty := .u16, acc := .rwm,
        pers := .stored, scope := .port 0x2010 },
    { base := 0x2020, sub := 1, subs := 64, name := "Port0LaneCal", ty := .u8, acc := .rwm,
        pers := .stored, calib := true, dflt := .computed, scope := .port 0x2020 },
    { base := 0x2021, count := 3, sub := 1, subs := 16, name := "LaneTxPreset", ty := .u8, acc := .rwm,
        pers := .stored, calib := true, hi := 10, dflt := .computed, scope := .port 0x2020 },
    { base := 0x2100, count := 32, sub := 1, name := "FunctionEnable", ty := .bool, acc := .rwm,
        pers := .stored, dflt := .num 1, scope := .fn 0x2100 },
    { base := 0x2100, count := 32, sub := 2, name := "FunctionState", ty := .enum, acc := .ro,
        scope := .fn 0x2100 },
    { base := 0x2100, count := 32, sub := 3, name := "TagLimit", ty := .u16, acc := .rwm,
        pers := .stored, lo := 1, hi := 16384, dflt := .num 4096, scope := .fn 0x2100 },
    { base := 0x2100, count := 32, sub := 4, name := "Bar2Bytes", ty := .u32, acc := .ro,
        dflt := .num 4096, scope := .fn 0x2100 } ]

/-- Objects of 02_host_endpoint, R79. -/
def portObjects2 : List ObjRow :=
  [ { base := 0x2100, count := 32, sub := 5, name := "PowerState", ty := .enum, acc := .ro,
        scope := .fn 0x2100 } ]

/-- Objects of 04_objects_lifecycle, R155. -/
def lifecycleObjects : List ObjRow :=
  [ { base := 0x4000, sub := 1, name := "ContextsLive", ty := .u32, acc := .ro },
    { base := 0x4000, sub := 2, name := "ObjectsLive", ty := .u32, acc := .ro },
    { base := 0x4000, sub := 3, name := "ObjectSlotsUsed", ty := .u32, acc := .ro },
    { base := 0x4000, sub := 4, name := "ObjectSlotsRetired", ty := .u32, acc := .ro },
    { base := 0x4000, sub := 5, name := "CarveOutBytes", ty := .u64, acc := .const,
        dflt := .num 0x80000000 },
    { base := 0x4000, sub := 6, name := "ContextCacheEntries", ty := .u16, acc := .const,
        dflt := .num 16384 },
    { base := 0x4010, count := 4, sub := 1, name := "PortContextShare", ty := .u32, acc := .rwm,
        pers := .stored, hi := 1048576, dflt := .num 262144, scope := .port 0x4010 },
    { base := 0x4010, count := 4, sub := 2, name := "PortPoolShareGiB", ty := .u32, acc := .rwm,
        pers := .stored, dflt := .computed, scope := .port 0x4010 },
    { base := 0x4010, count := 4, sub := 3, name := "PortObjectShare", ty := .u32, acc := .rwm,
        pers := .stored, dflt := .num 4194304, scope := .port 0x4010 },
    { base := 0x4100, count := 32, sub := 1, name := "ContextQuota", ty := .u32, acc := .rwh,
        pers := .stored, hi := 1048576, dflt := .computed, scope := .fn 0x4100 },
    { base := 0x4100, count := 32, sub := 2, name := "FnContextsLive", ty := .u32, acc := .ro,
        scope := .fn 0x4100 },
    { base := 0x4100, count := 32, sub := 3, name := "PoolQuotaGiB", ty := .u32, acc := .rwh,
        pers := .stored, dflt := .num 0xFFFFFFFF, scope := .fn 0x4100 },
    { base := 0x4100, count := 32, sub := 4, name := "FnPoolBytesLive", ty := .u64, acc := .ro,
        scope := .fn 0x4100 },
    { base := 0x4100, count := 32, sub := 5, name := "ObjectQuota", ty := .u32, acc := .rwh,
        pers := .stored, dflt := .num 0xFFFFFFFF, scope := .fn 0x4100 },
    { base := 0x4100, count := 32, sub := 6, name := "FnObjectsLive", ty := .u32, acc := .ro,
        scope := .fn 0x4100 },
    { base := 0x4100, count := 32, sub := 7, name := "FnEventRingsLive", ty := .u16, acc := .ro,
        scope := .fn 0x4100 },
    { base := 0x4100, count := 32, sub := 8, name := "AdminQueueState", ty := .enum, acc := .ro,
        scope := .fn 0x4100 } ]

/-- Objects of 06_translation, R223. -/
def translationObjects : List ObjRow :=
  [ { base := 0x3000, sub := 1, name := "RangeStoreEntries", ty := .u32, acc := .const,
        dflt := .num 262144 },
    { base := 0x3000, sub := 2, name := "RangeStoreBanks", ty := .enum, acc := .rwm, pers := .stored,
        codes := [1, 2, 4, 8], dflt := .num 8 },
    { base := 0x3000, sub := 3, name := "WalkerGroupEnable", ty := .u8, acc := .rwm, pers := .stored,
        lo := 1, hi := 255, dflt := .num 0xFF },
    { base := 0x3000, sub := 4, name := "LockedEntriesPerContext", ty := .u16, acc := .const,
        dflt := .num 16384 },
    { base := 0x3000, sub := 5, name := "LockedEntriesPerBank", ty := .u16, acc := .const,
        dflt := .num 24576 },
    { base := 0x3000, sub := 6, name := "LeasesPerCluster", ty := .u8, acc := .const, dflt := .num 64 },
    { base := 0x3000, sub := 7, name := "AtsCacheEntries", ty := .u16, acc := .const,
        dflt := .num 16384 },
    { base := 0x3000, sub := 8, name := "WalksInFlight", ty := .u16, acc := .ro },
    { base := 0x3010, count := 8, sub := 1, name := "BankEntriesValid", ty := .u32, acc := .ro },
    { base := 0x3010, count := 8, sub := 2, name := "BankEntriesLocked", ty := .u32, acc := .ro },
    { base := 0x3010, count := 8, sub := 3, name := "BankEntriesLeased", ty := .u32, acc := .ro },
    { base := 0x3100, count := 32, sub := 1, name := "PoolExtentBase", ty := .addr57, acc := .rwm,
        pers := .stored, scope := .fn 0x3100 },
    { base := 0x3100, count := 32, sub := 2, name := "PoolExtentBytes", ty := .u64, acc := .rwm,
        pers := .stored, scope := .fn 0x3100 },
    { base := 0x3100, count := 32, sub := 3, name := "FnLockedEntries", ty := .u32, acc := .ro,
        scope := .fn 0x3100 } ]

/-- Objects of 08_windows_coherence, R285. -/
def windowObjects1 : List ObjRow :=
  [ { base := 0x6000, sub := 1, name := "LocalPackageId", ty := .u16, acc := .rwm, pers := .stored,
        hi := 4095 },
    { base := 0x6000, sub := 2, name := "IncomingWindows", ty := .u32, acc := .const,
        dflt := .num 65536 },
    { base := 0x6000, sub := 3, name := "PeerMapEntries", ty := .u16, acc := .const,
        dflt := .num 4096 },
    { base := 0x6000, sub := 4, name := "PaldarEtherType", ty := .u16, acc := .rwm, pers := .stored,
        dflt := .num 0x88B5 },
    { base := 0x6000, sub := 5, name := "PaldarVlan", ty := .u16, acc := .rwm, pers := .stored },
    { base := 0x6000, sub := 6, name := "PaldarMacBase", ty := .u64, acc := .const, dflt := .computed },
    { base := 0x6000, sub := 7, name := "PaldarRetryNs", ty := .duration, acc := .rwm, pers := .stored,
        lo := 2000, hi := 1000000, dflt := .num 20000 },
    { base := 0x6000, sub := 8, name := "PaldarPeerTimeout", ty := .duration, acc := .rwm,
        pers := .stored, lo := 100000, hi := 1000000, dflt := .num 1000000 },
    { base := 0x6000, sub := 9, name := "AtomicStagingBytes", ty := .u32, acc := .const,
        dflt := .num 0x800000 },
    { base := 0x6000, sub := 10, name := "CommitHistoryEntries", ty := .u16, acc := .const,
        dflt := .num 16384 },
    { base := 0x6000, sub := 11, name := "WindowsOpen", ty := .u32, acc := .ro },
    { base := 0x6000, sub := 12, name := "CoherentBytesOn", ty := .u64, acc := .ro },
    { base := 0x6000, sub := 13, name := "SnoopFilterEntries", ty := .u32, acc := .const,
        dflt := .num 8388608 },
    { base := 0x6010, count := 64, sub := 1, name := "CohObject", ty := .u64, acc := .rwh },
    { base := 0x6010, count := 64, sub := 2, name := "CohApertureBase", ty := .u64, acc := .rwh,
        align := 4096 },
    { base := 0x6010, count := 64, sub := 3, name := "CohEnable", ty := .bool, acc := .rwh },
    { base := 0x6010, count := 64, sub := 4, name := "CohState", ty := .enum, acc := .ro },
    { base := 0x6010, count := 64, sub := 5, name := "CohRefusal", ty := .enum, acc := .ro },
    { base := 0x6100, count := 32, sub := 1, name := "WindowQuota", ty := .u32, acc := .rwm,
        pers := .stored, hi := 65536, dflt := .num 2048, scope := .fn 0x6100 },
    { base := 0x6100, count := 32, sub := 2, name := "FnWindowsOpen", ty := .u32, acc := .ro,
        scope := .fn 0x6100 } ]

/-- Objects of 08_windows_coherence, R285. -/
def windowObjects2 : List ObjRow :=
  [ { base := 0x6100, count := 32, sub := 3, name := "WindowRequest", ty := .blob, acc := .wo,
        maxLen := 32, exact := true, dflt := .bytes [], scope := .fn 0x6100 },
    { base := 0x6100, count := 32, sub := 4, name := "WindowRequestResult", ty := .u64, acc := .ro,
        scope := .fn 0x6100 },
    { base := 0x6100, count := 32, sub := 5, name := "WindowQueryId", ty := .u16, acc := .rw,
        scope := .fn 0x6100 },
    { base := 0x6100, count := 32, sub := 6, name := "WindowInfo", ty := .blob, acc := .ro,
        maxLen := 32, dflt := .zeros 32, scope := .fn 0x6100 },
    { base := 0x6100, count := 32, sub := 7, name := "RemoteDenyLast", ty := .u64, acc := .ro,
        scope := .fn 0x6100 },
    { base := 0x6200, count := 32, sub := 1, subs := 128, name := "PeerEntry", ty := .u64, acc := .rwm,
        pers := .stored },
    { base := 0x6220, count := 32, sub := 1, subs := 128, name := "PeerState", ty := .enum,
        acc := .ro } ]

/-- Objects of 09_memory_pool, R312. -/
def poolObjects1 : List ObjRow :=
  [ { base := 0x5000, sub := 1, name := "PoolBytesUsable", ty := .u64, acc := .ro },
    { base := 0x5000, sub := 2, name := "ChannelsMappedOut", ty := .u16, acc := .ro },
    { base := 0x5000, sub := 3, name := "RowBytes", ty := .u16, acc := .const, dflt := .num 2048 },
    { base := 0x5000, sub := 4, name := "CarveOutBase", ty := .addr57, acc := .ro },
    { base := 0x5000, sub := 5, name := "CarveOutMirrorBase", ty := .addr57, acc := .ro },
    { base := 0x5000, sub := 6, name := "SpareBytesPerStack", ty := .u32, acc := .const,
        dflt := .num 0x4000000 },
    { base := 0x5000, sub := 7, name := "RowCeThreshold", ty := .u8, acc := .rwm, pers := .stored,
        lo := 1, hi := 255, dflt := .num 8 },
    { base := 0x5000, sub := 8, name := "PoisonedLines", ty := .u32, acc := .ro },
    { base := 0x5000, sub := 9, name := "PoolMap", ty := .blob, acc := .ro, maxLen := 32768,
        dflt := .bytes [] },
    { base := 0x5000, sub := 10, name := "RowFailLog", ty := .blob, acc := .ro, pers := .stored,
        maxLen := 8192, dflt := .bytes [] },
    { base := 0x5000, sub := 11, name := "ScrubBytesPending", ty := .u64, acc := .ro },
    { base := 0x5010, count := 24, sub := 1, name := "ChannelMapOut", ty := .u32, acc := .rwm,
        pers := .stored, unit := .stack },
    { base := 0x5010, count := 24, sub := 2, name := "ChannelsActive", ty := .u32, acc := .ro,
        unit := .stack },
    { base := 0x5010, count := 24, sub := 3, name := "SpareRowsFree", ty := .u16, acc := .ro,
        unit := .stack },
    { base := 0x5010, count := 24, sub := 4, name := "RowsRemapped", ty := .u16, acc := .ro,
        unit := .stack },
    { base := 0x5010, count := 24, sub := 5, name := "StackTrainCal", ty := .blob, acc := .rwm,
        pers := .stored, calib := true, maxLen := 512, exact := true, dflt := .computed,
        unit := .stack },
    { base := 0x5040, count := 24, sub := 1, name := "RepairRowsTotal", ty := .u16, acc := .const,
        dflt := .computed, unit := .stack },
    { base := 0x5040, count := 24, sub := 2, name := "RepairRowsLeft", ty := .u16, acc := .ro,
        unit := .stack },
    { base := 0x5040, count := 24, sub := 3, name := "RepairRequest", ty := .u64, acc := .rwm,
        unit := .stack },
    { base := 0x5040, count := 24, sub := 4, name := "RepairResult", ty := .u64, acc := .ro,
        unit := .stack } ]

/-- Objects of 09_memory_pool, R312. -/
def poolObjects2 : List ObjRow :=
  [ { base := 0x5060, count := 24, sub := 1, name := "MarginRequest", ty := .u64, acc := .rwm,
        unit := .stack },
    { base := 0x5060, count := 24, sub := 2, name := "MarginResult", ty := .u64, acc := .ro,
        unit := .stack },
    { base := 0x5100, count := 32, sub := 1, name := "ObjectQueryHandle", ty := .u64, acc := .rw,
        scope := .fn 0x5100 },
    { base := 0x5100, count := 32, sub := 2, name := "ObjectPlacement", ty := .blob, acc := .ro,
        maxLen := 32, dflt := .zeros 32, scope := .fn 0x5100 },
    { base := 0x5100, count := 32, sub := 3, name := "ExtentState", ty := .enum, acc := .ro,
        scope := .fn 0x5100 } ]

/-- Objects of 10_determinism, R347. -/
def determinismObjects1 : List ObjRow :=
  [ { base := 0x7000, sub := 1, name := "FrameCounts", ty := .u16, acc := .const, dflt := .num 8192 },
    { base := 0x7000, sub := 2, name := "SlotCount", ty := .u8, acc := .const, dflt := .num 16 },
    { base := 0x7000, sub := 3, name := "IssueWindowCounts", ty := .u16, acc := .const,
        dflt := .num 320 },
    { base := 0x7000, sub := 4, name := "FixedEnginesMax", ty := .u8, acc := .const, dflt := .num 16 },
    { base := 0x7000, sub := 5, name := "ScratchPartitionBytes", ty := .u32, acc := .rwm,
        pers := .stored, hi := 0x10000000, align := 0x100000, dflt := .num 0x4000000 },
    { base := 0x7000, sub := 6, name := "ScratchPartitionFree", ty := .u32, acc := .ro },
    { base := 0x7000, sub := 7, name := "SlotsOwned", ty := .u16, acc := .ro },
    { base := 0x7000, sub := 8, name := "EnginesReserved", ty := .u32, acc := .ro },
    { base := 0x7000, sub := 9, name := "FixedContextsLive", ty := .u8, acc := .ro },
    { base := 0x7001, sub := 1, name := "GtcNow", ty := .u64, acc := .ro },
    { base := 0x7001, sub := 2, name := "GtcSyncState", ty := .enum, acc := .ro },
    { base := 0x7001, sub := 3, name := "GtcOffsetNs", ty := .i32, acc := .ro },
    { base := 0x7001, sub := 4, name := "GtcGrandmaster", ty := .u64, acc := .ro },
    { base := 0x7001, sub := 5, name := "GtcDomain", ty := .u8, acc := .rwm, pers := .stored },
    { base := 0x7001, sub := 6, name := "GtcPriority1", ty := .u8, acc := .rwm, pers := .stored,
        dflt := .num 128 },
    { base := 0x7001, sub := 7, name := "GtcPriority2", ty := .u8, acc := .rwm, pers := .stored,
        dflt := .num 128 },
    { base := 0x7002, sub := 1, name := "UnitMapGeneration", ty := .u32, acc := .ro },
    { base := 0x7002, sub := 2, name := "UnitMapDigest", ty := .blob, acc := .ro, maxLen := 48,
        dflt := .bytes [] },
    { base := 0x7002, sub := 3, name := "DeterminismKey", ty := .blob, acc := .ro, maxLen := 48,
        dflt := .bytes [] },
    { base := 0x7002, sub := 4, name := "UnitRemap", ty := .bool, acc := .rw } ]

/-- Objects of 10_determinism, R347. -/
def determinismObjects2 : List ObjRow :=
  [ { base := 0x7002, sub := 5, name := "UnitRemapResult", ty := .u32, acc := .ro },
    { base := 0x7002, sub := 6, name := "FencedClusters", ty := .u16, acc := .ro },
    { base := 0x7003, sub := 1, name := "ModeWord", ty := .u64, acc := .ro },
    { base := 0x7003, sub := 2, name := "ModeEpoch", ty := .u32, acc := .ro },
    { base := 0x7003, sub := 3, name := "ModeStageWord", ty := .u64, acc := .rw },
    { base := 0x7003, sub := 4, name := "ModeCommitRequestGtc", ty := .u64, acc := .rw },
    { base := 0x7003, sub := 5, name := "ModeChange", ty := .enum, acc := .rw, hi := 1 },
    { base := 0x7003, sub := 6, name := "ModeChangeState", ty := .enum, acc := .ro },
    { base := 0x7003, sub := 7, name := "ModeCommitGtc", ty := .u64, acc := .ro },
    { base := 0x7003, sub := 8, name := "ModeAbandonUnit", ty := .u16, acc := .ro,
        dflt := .num 0xFFFF },
    { base := 0x7010, count := 7, sub := 1, subs := 128, name := "ClusterState", ty := .u64,
        acc := .ro },
    { base := 0x7017, sub := 1, subs := 64, name := "ClusterState", ty := .u64, acc := .ro },
    { base := 0x7100, count := 32, sub := 1, name := "FnFixedContextsLive", ty := .u8, acc := .ro,
        scope := .fn 0x7100 },
    { base := 0x7100, count := 32, sub := 2, name := "ScheduleRejectReason", ty := .enum, acc := .ro,
        scope := .fn 0x7100 },
    { base := 0x7100, count := 32, sub := 3, name := "FnScratchBytes", ty := .u32, acc := .ro,
        scope := .fn 0x7100 } ]

/-- Objects of 11_events_interrupts, R370. -/
def eventObjects : List ObjRow :=
  [ { base := 0x8000, sub := 1, name := "SourcesPerFunction", ty := .u16, acc := .const,
        dflt := .num 259 },
    { base := 0x8000, sub := 2, name := "WakeEntries", ty := .u8, acc := .const, dflt := .num 64 },
    { base := 0x8000, sub := 3, name := "IdleHintState", ty := .u8, acc := .ro },
    { base := 0x8000, sub := 4, name := "WakeGtc", ty := .u64, acc := .rw },
    { base := 0x8000, sub := 5, name := "WakeCause", ty := .u64, acc := .ro },
    { base := 0x8000, sub := 6, name := "StallHoldRecords", ty := .u16, acc := .const,
        dflt := .num 4096 },
    { base := 0x8010, sub := 1, subs := 64, name := "WakeEntry", ty := .u32, acc := .rw },
    { base := 0x8100, count := 32, sub := 1, name := "WeirDelayNs", ty := .duration, acc := .rw,
        hi := 1000000, dflt := .num 8000, scope := .fn 0x8100 },
    { base := 0x8100, count := 32, sub := 2, name := "TargetDie", ty := .u8, acc := .rw, hi := 3,
        scope := .fn 0x8100 },
    { base := 0x8100, count := 32, sub := 3, name := "WeirState", ty := .enum, acc := .ro,
        scope := .fn 0x8100 },
    { base := 0x8100, count := 32, sub := 4, name := "FnRingsOverflowed", ty := .u16, acc := .ro,
        scope := .fn 0x8100 } ]

/-- Objects of 12_errors, R396. -/
def errorObjects1 : List ObjRow :=
  [ { base := 0x9000, sub := 1, name := "ErrSourceCount", ty := .u16, acc := .const, dflt := .num 26 },
    { base := 0x9000, sub := 2, name := "ErrPackageState", ty := .enum, acc := .ro },
    { base := 0x9000, sub := 3, name := "BlockReset", ty := .bool, acc := .rw },
    { base := 0x9000, sub := 4, name := "ErrOutState", ty := .enum, acc := .ro },
    { base := 0x9000, sub := 5, name := "ErrOutAssertions", ty := .u32, acc := .rw },
    { base := 0x9000, sub := 6, name := "ErrOutRelease", ty := .bool, acc := .rwm },
    { base := 0x9000, sub := 7, name := "LastFatalRecord", ty := .blob, acc := .ro, pers := .stored,
        maxLen := 64, dflt := .bytes [] },
    { base := 0x9001, sub := 1, name := "ErrCaptureState", ty := .enum, acc := .ro },
    { base := 0x9001, sub := 2, name := "ErrFirstSource", ty := .u16, acc := .ro },
    { base := 0x9001, sub := 3, name := "ErrFirstClass", ty := .u8, acc := .ro },
    { base := 0x9001, sub := 4, name := "ErrFirstAddress", ty := .u64, acc := .ro },
    { base := 0x9001, sub := 5, name := "ErrFirstMaster", ty := .u64, acc := .ro },
    { base := 0x9001, sub := 6, name := "ErrFirstAccess", ty := .u16, acc := .ro },
    { base := 0x9001, sub := 7, name := "ErrFirstGtc", ty := .u64, acc := .ro },
    { base := 0x9001, sub := 8, name := "ErrHighestClass", ty := .u8, acc := .ro },
    { base := 0x9001, sub := 9, name := "ErrMergedMask", ty := .u64, acc := .ro },
    { base := 0x9001, sub := 10, name := "ErrMergedCount", ty := .u32, acc := .ro },
    { base := 0x9001, sub := 11, name := "ErrCaptureRelease", ty := .bool, acc := .rw },
    { base := 0x9101, count := 26, sub := 1, name := "ErrClass", ty := .enum, acc := .const,
        dflt := .computed },
    { base := 0x9101, count := 26, sub := 2, name := "ErrReaction", ty := .u8, acc := .rwm,
        pers := .stored, dflt := .computed } ]

/-- Objects of 12_errors, R396. -/
def errorObjects2 : List ObjRow :=
  [ { base := 0x9101, count := 26, sub := 3, name := "ErrCount", ty := .u32, acc := .rw },
    { base := 0x9101, count := 26, sub := 4, name := "ErrWireFault", ty := .bool, acc := .ro } ]

/-- The counters (12_errors, R397). -/
def counterObjects : List ObjRow :=
  counterRows 0xD000 1 .package 1 ["StoredWrites", "HmpAuthFailures", "HmpBadFrames", "HmpReplays",
      "RangeStoreHits", "RangeStoreMisses", "WalkNodeReads", "MalformedNodes", "LeaseGrants",
      "LeaseRevokes", "PaldarSealFailures", "PaldarMisrouted", "PaldarOutOfOrder",
      "PaldarRetransmits", "PeerDownEvents", "WindowChecks", "WakesFromSleep", "SnoopRecalls",
      "SnoopInvalidates", "CorrectedReads", "UncorrectableReads", "MirrorReadsServed",
      "PoisonReads", "PoisonWritesDiscarded"] ++
  counterRows 0xD010 4 (.port 0xD010) 1 ["LateCompletions", "FlitModeRefused", "SurpriseRemovals",
      "HotResets", "AtsTranslationRequests", "AtsInvalidations"] ++
  counterRows 0xD100 32 (.fn 0xD100) 1 ["BadBarWrites", "BadDoorbellWrites", "DoorbellsDiscarded",
      "DoorbellsInvalid", "FaultsOnLostContexts", "FenceLowerWrites", "ContextsLost",
      "TranslationFaults", "TilesDelivered", "TransferFaults", "FaultRecordsWaiting",
      "FaultResponsesRefused", "FaultTimeouts", "CreditCountsIgnored", "RemoteDenies",
      "ReplayDoorbellsIgnored", "EventsNoRing", "RingRecordsDropped", "InterruptsAsserted",
      "MaskedInterruptsLeaked"]

/-- Objects of 13_security_attestation, R423. -/
def securityObjects1 : List ObjRow :=
  [ { base := 0xA000, sub := 1, name := "DebugState", ty := .enum, acc := .ro },
    { base := 0xA000, sub := 2, name := "FuseState", ty := .u64, acc := .ro },
    { base := 0xA000, sub := 3, name := "FabricGroupId", ty := .u32, acc := .const, dflt := .computed },
    { base := 0xA000, sub := 4, name := "MinSecurityVersion", ty := .u8, acc := .ro },
    { base := 0xA000, sub := 5, name := "FirmwareSecurityVersion", ty := .u16, acc := .ro },
    { base := 0xA000, sub := 6, name := "RaiseMinSecurityVersion", ty := .u8, acc := .rwm },
    { base := 0xA000, sub := 7, name := "IdentityPublicKey", ty := .blob, acc := .const, maxLen := 97,
        dflt := .computed },
    { base := 0xA000, sub := 8, name := "IdentityCertChain", ty := .blob, acc := .const,
        maxLen := 4096, dflt := .computed },
    { base := 0xA000, sub := 9, name := "DeviceNonce", ty := .blob, acc := .ro, maxLen := 32,
        dflt := .bytes [] },
    { base := 0xA000, sub := 10, name := "DebugToken", ty := .blob, acc := .rwm, maxLen := 148,
        exact := true, dflt := .bytes [] },
    { base := 0xA000, sub := 11, name := "DebugPending", ty := .enum, acc := .ro },
    { base := 0xA000, sub := 12, name := "KeySlots", ty := .u8, acc := .const, dflt := .num 33 },
    { base := 0xA000, sub := 13, name := "CounterCoarseStep", ty := .u16, acc := .const,
        dflt := .num 1024 },
    { base := 0xA000, sub := 14, name := "TenantPowerStepW", ty := .u8, acc := .const, dflt := .num 5 },
    { base := 0xA000, sub := 15, name := "SpdmConnections", ty := .u8, acc := .ro },
    { base := 0xA001, sub := 1, subs := 4, name := "MeasurementRegister", ty := .blob, acc := .ro,
        maxLen := 48, dflt := .zeros 48 },
    { base := 0xA001, sub := 5, name := "AttestationReportBody", ty := .blob, acc := .ro,
        maxLen := 2112, dflt := .bytes [] },
    { base := 0xA100, count := 32, sub := 1, name := "FnPowerCoarseW", ty := .u16, acc := .ro,
        scope := .fn 0xA100 },
    { base := 0xA100, count := 32, sub := 2, name := "FnScrubState", ty := .enum, acc := .ro,
        scope := .fn 0xA100 },
    { base := 0xA100, count := 32, sub := 3, name := "FnScrubBytesPending", ty := .u64, acc := .ro,
        scope := .fn 0xA100 } ]

/-- Objects of 13_security_attestation, R423. -/
def securityObjects2 : List ObjRow :=
  [ { base := 0xA100, count := 32, sub := 4, name := "FnKeySlot", ty := .u8, acc := .const,
        dflt := .computed, scope := .fn 0xA100 } ]

/-- Objects of 14_power_clocks, R437. -/
def powerObjects : List ObjRow :=
  [ { base := 0xB000, sub := 1, name := "SwitchedDomains", ty := .u8, acc := .const, dflt := .num 50 },
    { base := 0xB000, sub := 2, name := "DomainsOn", ty := .u64, acc := .ro },
    { base := 0xB000, sub := 3, name := "DomainsSwitching", ty := .u64, acc := .ro },
    { base := 0xB000, sub := 4, name := "WorkDomainsOn", ty := .bool, acc := .rw },
    { base := 0xB000, sub := 5, name := "EngineGroupEnable", ty := .u8, acc := .rwm, pers := .stored,
        lo := 1, hi := 255, dflt := .num 0xFF },
    { base := 0xB000, sub := 6, name := "DigestEngineEnable", ty := .u8, acc := .rwm, pers := .stored,
        lo := 1, hi := 3, dflt := .num 3 },
    { base := 0xB000, sub := 7, name := "PaldarLaneEnable", ty := .u8, acc := .rwm, pers := .stored,
        hi := 3, dflt := .num 3 },
    { base := 0xB000, sub := 8, name := "SleepRequest", ty := .bool, acc := .rw },
    { base := 0xB000, sub := 9, name := "SleepRefusal", ty := .enum, acc := .ro },
    { base := 0xB001, sub := 1, name := "PowerGood", ty := .u8, acc := .ro },
    { base := 0xB001, sub := 2, name := "InputVoltageMv", ty := .u32, acc := .ro },
    { base := 0xB001, sub := 3, name := "InputCurrentMa", ty := .u32, acc := .ro },
    { base := 0xB001, sub := 4, name := "InputPowerMw", ty := .u32, acc := .ro },
    { base := 0xB001, sub := 5, name := "TelemetryGtc", ty := .u64, acc := .ro },
    { base := 0xB001, sub := 6, name := "TelemetryValid", ty := .bool, acc := .ro },
    { base := 0xB010, sub := 1, subs := 13, name := "IslandClockKhz", ty := .u32, acc := .ro } ]

/-- Objects of 15_bringup_firmware, R462. -/
def bringUpObjects1 : List ObjRow :=
  [ { base := 0xC000, sub := 1, name := "BringUpState", ty := .enum, acc := .ro },
    { base := 0xC000, sub := 2, name := "BringUpCommand", ty := .enum, acc := .rw, hi := 8 },
    { base := 0xC000, sub := 3, name := "BringUpResult", ty := .enum, acc := .ro },
    { base := 0xC000, sub := 4, name := "BringUpStepGtc", ty := .u64, acc := .ro },
    { base := 0xC000, sub := 5, name := "ReadyGtc", ty := .u64, acc := .ro },
    { base := 0xC000, sub := 6, name := "BringUpAllowFallback", ty := .bool, acc := .rwm,
        pers := .stored },
    { base := 0xC000, sub := 7, name := "GtcRequireLock", ty := .bool, acc := .rwm, pers := .stored },
    { base := 0xC000, sub := 8, name := "DisabledUnitMap", ty := .blob, acc := .ro, maxLen := 1232,
        dflt := .bytes [] },
    { base := 0xC000, sub := 9, name := "TilesPresentMask", ty := .u64, acc := .const,
        dflt := .computed },
    { base := 0xC001, sub := 1, name := "FirmwareSource", ty := .enum, acc := .rw, hi := 1 },
    { base := 0xC001, sub := 2, name := "FirmwareSourcePort", ty := .u8, acc := .rw, hi := 3 },
    { base := 0xC001, sub := 3, name := "FirmwareSourceAddress", ty := .u64, acc := .rw,
        align := 4096 },
    { base := 0xC001, sub := 4, name := "FirmwareImageBytes", ty := .u32, acc := .rw, lo := 8192,
        hi := 0x4000000, align := 4096 },
    { base := 0xC001, sub := 5, name := "FirmwareChunkOffset", ty := .u32, acc := .rw, hi := 0x3FFFFFF,
        align := 4096 },
    { base := 0xC001, sub := 6, name := "FirmwareChunk", ty := .blob, acc := .wo, maxLen := 32768,
        dflt := .bytes [] },
    { base := 0xC001, sub := 7, name := "FirmwareBytesStaged", ty := .u32, acc := .ro },
    { base := 0xC001, sub := 8, name := "FirmwareLoadError", ty := .enum, acc := .ro },
    { base := 0xC001, sub := 9, name := "TileFirmwareDigest", ty := .blob, acc := .ro, maxLen := 48,
        dflt := .bytes [] },
    { base := 0xC002, sub := 1, name := "QualifyBits", ty := .u64, acc := .rwm, pers := .stored,
        lo := 1000000000000, hi := 100000000000000, dflt := .num 1000000000000 },
    { base := 0xC002, sub := 2, name := "QualifyErrorsPerMillion", ty := .u8, acc := .const,
        dflt := .num 1 } ]

/-- Objects of 15_bringup_firmware, R462. -/
def bringUpObjects2 : List ObjRow :=
  [ { base := 0xC002, sub := 3, name := "LanesQualified", ty := .u16, acc := .ro },
    { base := 0xC002, sub := 4, name := "LanesFailed", ty := .u16, acc := .ro },
    { base := 0xC002, sub := 5, name := "QualifyDurationNs", ty := .duration, acc := .ro },
    { base := 0xC003, sub := 1, name := "TilesLoaded", ty := .u8, acc := .ro },
    { base := 0xC003, sub := 2, name := "ClustersFailedTest", ty := .u16, acc := .ro },
    { base := 0xC003, sub := 3, name := "EnginesFailedTest", ty := .u8, acc := .ro },
    { base := 0xC004, sub := 1, name := "CalibrateRequest", ty := .enum, acc := .rwm, calib := true, codes := [0, 1,
        2, 3, 4, 0x20, 0x21, 0x22, 0x23, 0x24, 0x25, 0x26, 0x27, 0x28, 0x29, 0x2A, 0x2B, 0x2C, 0x2D,
        0x2E, 0x2F, 0x30, 0x31, 0x32, 0x33, 0x34, 0x35, 0x36, 0x37] },
    { base := 0xC004, sub := 2, name := "CalibrateResult", ty := .enum, acc := .ro },
    { base := 0xC010, sub := 1, subs := 64, name := "Port0LaneErrors", ty := .u64, acc := .ro,
        scope := .port 0xC010 },
    { base := 0xC011, count := 3, sub := 1, subs := 16, name := "LaneErrors", ty := .u64, acc := .ro,
        scope := .port 0xC010 },
    { base := 0xC018, sub := 1, subs := 8, name := "FallbackWorstWireErrors", ty := .u64, acc := .ro,
        scope := .port 0xC018 },
    { base := 0xC020, sub := 1, subs := 64, name := "Port0LaneResult", ty := .enum, acc := .ro,
        scope := .port 0xC020 },
    { base := 0xC021, count := 3, sub := 1, subs := 16, name := "LaneResult", ty := .enum, acc := .ro,
        scope := .port 0xC020 },
    { base := 0xC028, sub := 1, subs := 8, name := "FallbackGroupResult", ty := .enum, acc := .ro,
        scope := .port 0xC028 } ]

/-- The object dictionary. -/
def objectTable : List ObjRow :=
  mgmtObjects1 ++ mgmtObjects2 ++ portObjects1 ++ portObjects2 ++ lifecycleObjects ++ translationObjects ++
    windowObjects1 ++ windowObjects2 ++ poolObjects1 ++ poolObjects2 ++ determinismObjects1 ++
    determinismObjects2 ++ eventObjects ++ errorObjects1 ++ errorObjects2 ++ counterObjects ++
    securityObjects1 ++ securityObjects2 ++ powerObjects ++ bringUpObjects1 ++ bringUpObjects2

/-- Whether a row has this index and subindex. -/
def ObjRow.covers (r : ObjRow) (ref : Ref) : Bool :=
  r.base ≤ ref.index && ref.index < r.base + r.count && r.sub ≤ ref.sub && ref.sub < r.sub + r.subs

/-- The row of an object of the dictionary (R81). -/
def objRow (ref : Ref) : Option ObjRow := objectTable.find? fun r => r.covers ref

/-- The key of an object in the lists of values. -/
def objKey (ref : Ref) : Nat := ref.index * 256 + ref.sub

end Sys2Proof.Machine
end

