-- ==== Sys2Proof/Machine/Objects.lean ====
section
/-!
DEFINITION. Error sources and their fixed figures, the Defaults that a package computes, and the values
of the objects that are plain storage.
-/
namespace Sys2Proof.Machine

/-- The error sources in the order of their codes (12_errors, R376). -/
def allSources : List Src :=
  [.storedRecordLost, .storeFailed, .port0Fallback, .port0LinkLost, .d2dIntegrity, .contextLost,
   .snoopTimeout, .streamTagUnknown, .unitFenced, .extentDropped, .channelMappedOut,
   .poolRowRemapped, .poolSparesExhausted, .poolLinePoisoned, .poolMirrorServed,
   .poisonDirectoryFull, .carveOutLost, .gtcSyncLost, .internalCorrected,
   .contextStateUncorrectable, .internalUncorrectable, .mgmtCoreFault, .wireFault,
   .errPinMismatch, .islandClockLost, .powerGoodLost]

/-- Code of a source, 0x01 to 0x1A (12_errors, R376). -/
def srcCode (e : Src) : Nat := allSources.idxOf e + 1

/-- Class of a source: 0 to 3 for S0 to S3 (12_errors, R376). -/
def srcClass : Src → Nat
  | .storedRecordLost | .storeFailed | .port0Fallback | .extentDropped | .channelMappedOut
  | .poolRowRemapped | .poolSparesExhausted | .poolLinePoisoned | .poolMirrorServed | .gtcSyncLost
  | .internalCorrected | .errPinMismatch => 0
  | .contextLost | .unitFenced | .contextStateUncorrectable => 1
  | .port0LinkLost | .d2dIntegrity | .snoopTimeout | .streamTagUnknown | .poisonDirectoryFull
  | .carveOutLost | .internalUncorrectable | .mgmtCoreFault | .wireFault => 2
  | .islandClockLost | .powerGoodLost => 3

/-- Default reactions of a source (12_errors, R376). -/
def srcReaction : Src → Nat
  | .port0Fallback | .extentDropped | .channelMappedOut | .poolRowRemapped | .poolMirrorServed
  | .internalCorrected => 0x00
  | .storedRecordLost | .storeFailed | .contextLost | .unitFenced | .poolSparesExhausted
  | .poolLinePoisoned | .gtcSyncLost | .contextStateUncorrectable | .errPinMismatch => 0x01
  | .port0LinkLost | .d2dIntegrity | .snoopTimeout | .streamTagUnknown | .poisonDirectoryFull
  | .carveOutLost | .internalUncorrectable | .wireFault => 0x17
  | .mgmtCoreFault => 0x15
  | .islandClockLost | .powerGoodLost => 0x13

/-! ### Figures of the variants (00_scope, R2) -/

def tilesOf : Variant → Nat
  | .l16 => 16
  | .l32 => 32
  | .l64 => 64

/-- Logical clusters: 15 for each tile (R2). -/
def clustersOf (v : Variant) : Nat := 15 * tilesOf v

def portsOf : Variant → Nat
  | .l16 => 2
  | .l32 => 3
  | .l64 => 4

/-- Variant code of FnIdentity (02_host_endpoint, R50). -/
def variantCode : Variant → Nat
  | .l16 => 0x10
  | .l32 => 0x20
  | .l64 => 0x40

/-- The tiles that the fuses enable: that many different ones of a list (15_bringup_firmware, R438). -/
def fusedTiles (v : Variant) : Nat → List Nat → List Nat
  | 0, _ => []
  | n + 1, l =>
    let t := l.getD ((Config.fusedTile v n).val % l.length) 0
    t :: fusedTiles v n (l.erase t)

/-- Whether physical tile t is enabled (15_bringup_firmware, R438). -/
def tilePresent (v : Variant) (t : Nat) : Bool :=
  match v with
  | .l64 => t < 64
  | _ => (fusedTiles v (tilesOf v) (List.range 64)).contains t

/-- SerialNumber: 16 fused characters from 0x20 to 0x7E (03, R463; 13, R417). -/
def serialNumber : Bytes := (List.range 16).map fun k => BitVec.ofNat 8 (0x20 + (Config.serialChar k).val)

/-- Whether derivations use fused secret `b` of FuseState, and not the zero secret: its fuse reads 1 and the package is
LOCKED (13, R418, R420). -/
def secretUsed (x : SecSt) (b : Nat) : Bool := x.debug == .locked && x.fuses.testBit b

/-- Defaults that the package computes: fused values and figures of the variant. -/
def computedDefault (v : Variant) (ref : Ref) : Val :=
  match ref.index, ref.sub with
  | 0x1000, 1 => .bytes (asciiBytes "Henvia Systems")
  | 0x1000, 2 => .bytes (asciiBytes "Lemzoeno")
  | 0x1000, 3 => .num (variantCode v)
  | 0x1000, 4 => .num Config.siliconStepping.toNat
  | 0x1000, 5 => .bytes serialNumber
  | 0x1001, 1 => .num (tilesOf v)
  | 0x1001, 2 => .num (clustersOf v)
  | 0x1001, 3 => .num (stacksOf v)
  | 0x1001, 4 => .num (poolBytesOf v)
  | 0x1001, 5 => .num (32 * stacksOf v)
  | 0x1001, 6 => .num (portsOf v)
  | 0x1002, 4 => .num Config.bootRomVersion.toNat
  | 0x1100, 1 => .num (Config.mgmtMac.toNat % 2 ^ 48)
  | 0x1110, 1 => .num 3
  | 0x1110, 2 => .bytes ((List.range 32).map Config.factorySecret)
  | 0x1110, 4 => .num 1
  | 0x2000, 1 => .num (2 ^ portsOf v - 1)
  | 0x6000, 6 => .num (Config.paldarMacBase.toNat % 2 ^ 48)
  | 0xA000, 3 => .num Config.fabricGroupId.toNat
  | 0xA000, 7 => .bytes ((List.range 97).map Config.identityPublicKey)
  | 0xA000, 8 => .bytes (Config.identityCertChain.take 4096)
  | 0xC000, 9 => .num (((List.range 64).filter (tilePresent v)).foldl (fun a t => a + 2 ^ t) 0)
  | i, sub =>
    if 0x1111 ≤ i && i ≤ 0x1117 then
      (if sub = 2 then .bytes [] else .num 0)
    else if i = 0x2020 then .num (Config.port0LaneCal (sub - 1)).toNat
    else if 0x2021 ≤ i && i ≤ 0x2023 then .num (Config.laneTxPreset (i - 0x2020) (sub - 1)).val
    else if 0x4010 ≤ i && i ≤ 0x4013 then .num (if v = .l64 then 384 else 256)
    else if 0x4100 ≤ i && i ≤ 0x411F then .num (if i % 8 = 0 then 65536 else 16384)
    else if 0x5010 ≤ i && i ≤ 0x5027 then
      .bytes ((List.range 512).map (Config.stackTrainCal (i - 0x5010)))
    else if 0x5040 ≤ i && i ≤ 0x5057 then .num (if v = .l64 then 0 else 1024)
    else if 0x9101 ≤ i && i ≤ 0x911A then
      match allSources[i - 0x9101]? with
      | some e => .num (if sub = 1 then srcClass e else srcReaction e)
      | none => .num 0
    else if 0xA100 ≤ i && i ≤ 0xA11F then .num (i - 0xA100)
    else .num 0

/-- The Default of an object (03_management_dictionary, R85). -/
def objDefault (v : Variant) (ref : Ref) : Val :=
  match objRow ref with
  | none => .num 0
  | some r =>
    match r.dflt with
    | .num n => .num n
    | .bytes b => .bytes b
    | .zeros n => .bytes (List.replicate n 0)
    | .computed => computedDefault v ref

def valNum : Val → Nat
  | .num n => n
  | .bytes _ => 0

def valBytes : Val → Bytes
  | .num _ => []
  | .bytes b => b

/-- The value of an object that is plain storage. -/
def objVal (s : State) (index sub : Nat) : Val :=
  (assocGet s.od (index * 256 + sub)).getD (objDefault s.variant ⟨index, sub⟩)

/-- A number held in the dictionary. -/
def objNum (s : State) (index sub : Nat) : Nat := valNum (objVal s index sub)

/-- A byte string held in the dictionary. -/
def objBytes (s : State) (index sub : Nat) : Bytes := valBytes (objVal s index sub)

/-- Write an object that is plain storage. -/
def setObj (index sub : Nat) (v : Val) (s : State) : State :=
  { s with od :=
      if v = objDefault s.variant ⟨index, sub⟩ then assocDel s.od (index * 256 + sub)
      else assocPut s.od (index * 256 + sub) v }

end Sys2Proof.Machine
end

