-- ==== Sys2Proof/Machine/Ops.lean ====
section
/-!
DEFINITION. The shared operations: access to functions, ports, contexts, objects and memory; counters,
event records and interrupts (11_events_interrupts); the error collector (12_errors).
-/
namespace Sys2Proof.Machine

/-! ### Parts of the state -/

def getFn (s : State) (g : Fun) : FnSt := s.fns.getD g.val (FnSt.init false 4096)

def modFn (g : Fun) (f : FnSt → FnSt) (s : State) : State := { s with fns := s.fns.modify g.val f }

def modCfg (g : Fun) (f : FnCfg → FnCfg) (s : State) : State :=
  modFn g (fun x => { x with cfg := f x.cfg }) s

def modMbx (g : Fun) (f : MbxSt → MbxSt) (s : State) : State :=
  modFn g (fun x => { x with mbx := f x.mbx }) s

def modAdmin (g : Fun) (f : AdminQ → AdminQ) (s : State) : State :=
  modFn g (fun x => { x with admin := f x.admin }) s

def modFaultq (g : Fun) (f : FaultQ → FaultQ) (s : State) : State :=
  modFn g (fun x => { x with faultq := f x.faultq }) s

def modInt (g : Fun) (f : IntSt → IntSt) (s : State) : State :=
  modFn g (fun x => { x with int := f x.int }) s

def getPort (s : State) (p : Port) : PortSt := s.ports.getD p.val PortSt.init

def modPort (p : Port) (f : PortSt → PortSt) (s : State) : State :=
  { s with ports := s.ports.modify p.val f }

/-- The port of a function: g = 8 × port + function (02_host_endpoint, R39). -/
def portOf (g : Fun) : Port := ⟨g.val / 8, by have := g.isLt; omega⟩

/-- Function number on its port. -/
def fnOf (g : Fun) : Nat := g.val % 8

/-- Function 0 of a port. -/
def fn0 (p : Port) : Fun := ⟨8 * p.val, by have := p.isLt; omega⟩

/-- The functions of a port, rising. -/
def fnsOf (p : Port) : List Fun := (List.finRange 32).filter fun g => portOf g == p

/-- A function number read from a field of five bits or fewer. -/
def fun5 (n : Nat) : Fun := Fin.ofNat 32 n

/-- Whether the variant carries the port (00_scope, R3). -/
def portPresent (s : State) (p : Port) : Bool := p.val < portsOf s.variant

/-- A function is present: its port is, and it is not switched off (02_host_endpoint, R77). -/
def fnPresent (s : State) (g : Fun) : Bool := (getFn s g).state != .absent

def emit (m : Msg) (s : State) : State := { s with out := m :: s.out }

/-- Number the next free value. -/
def draw (s : State) : State := { s with draws := s.draws + 1 }

def ctx? (s : State) (c : CtxId) : Option Ctx := (s.obj.ctxs.find? fun e => e.1 == c).map (·.2)

def modCtx (c : CtxId) (f : Ctx → Ctx) (s : State) : State :=
  { s with obj := { s.obj with
      ctxs := s.obj.ctxs.map fun e => if e.1 == c then (e.1, f e.2) else e } }

/-- Insert a context, keeping the list by rising ID. -/
def insertCtx (c : CtxId) (x : Ctx) : List (CtxId × Ctx) → List (CtxId × Ctx)
  | [] => [(c, x)]
  | e :: l => if c.toNat < e.1.toNat then (c, x) :: e :: l else e :: insertCtx c x l

def obj? (s : State) (slot : Nat) : Option MemObj := s.obj.objs.find? fun o => o.slot == slot

def modObj (slot : Nat) (f : MemObj → MemObj) (s : State) : State :=
  { s with obj := { s.obj with objs := s.obj.objs.map fun o => if o.slot == slot then f o else o } }

def cmd? (s : State) (c : CtxId) (q : Nat) : Option Cmd :=
  s.cmd.table.find? fun x => x.ctx == c && x.q == q

def modCmd (c : CtxId) (q : Nat) (f : Cmd → Cmd) (s : State) : State :=
  { s with cmd := { s.cmd with
      table := s.cmd.table.map fun x => if x.ctx == c && x.q == q then f x else x } }

/-- The handle of an object: SlotIndex in bits 63:24 and Generation in bits 23:0
(04_objects_lifecycle, R138). -/
def objHandle (o : MemObj) : U64 := w64 (o.slot * 2 ^ 24 + o.gen)

/-! ### Memory -/

/-- A byte; unlisted bytes read 0. -/
def memGet : Mem → Nat → U8
  | [], _ => 0
  | (b, w) :: m, a => if a = b then w else memGet m a

/-- Write a byte in canonical form: a 0 is not listed, and addresses rise. -/
def memSet : Mem → Nat → U8 → Mem
  | [], a, v => if v = 0 then [] else [(a, v)]
  | (b, w) :: m, a, v =>
    if a < b then (if v = 0 then (b, w) :: m else (a, v) :: (b, w) :: m)
    else if a = b then (if v = 0 then m else (a, v) :: m)
    else (b, w) :: memSet m a v

/-- Canonical form: addresses rise strictly and no listed byte is 0. -/
def Memory.wf : Mem → Bool
  | [] => true
  | [(_, v)] => v != 0
  | (a, v) :: (b, w) :: m => v != 0 && a < b && Memory.wf ((b, w) :: m)

/-- `n` bytes from `a`. -/
def memRead (m : Mem) (a n : Nat) : Bytes := (List.range n).map fun i => memGet m (a + i)

/-- Write bytes from `a`, the first byte at `a`. -/
def memWrite : Mem → Nat → Bytes → Mem
  | m, _, [] => m
  | m, a, b :: bs => memWrite (memSet m a b) (a + 1) bs

/-- Zero `n` bytes from `a`. -/
def memZero (m : Mem) (a n : Nat) : Mem := m.filter fun c => !(a ≤ c.1 && c.1 < a + n)

/-! ### Event records (11_events_interrupts) -/

/-- Form an event record; it is written by EVENT_RECORD_WRITE (R348, R349). -/
def formEvent (g : Fun) (ring kind info : Nat) (c : Option CtxId) (data0 data1 : U64) (s : State) :
    State :=
  modInt g (fun x => { x with
    formed := x.formed ++ [⟨ring, kind, info, c, data0, data1, s.gtc⟩] }) s

/-! ### Counters (12_errors, R390, R391) -/

/-- One count of a counter with a saturated flag at bit `w` − 1, and whether it saturates now. -/
def countUp (w n : Nat) : Nat × Bool :=
  if 2 ^ (w - 1) ≤ n then (n, false)
  else if n + 1 = 2 ^ (w - 1) - 1 then (2 ^ w - 1, true)
  else (n + 1, false)

/-- COUNTER_SATURATED to ring 0 of a function: Data0 locates the counter (R349). -/
def saturated (g : Fun) (c : Option CtxId) (locator : Nat) (s : State) : State :=
  formEvent g 0 0x04 0 c (w64 locator) 0 s

/-- The function whose ring 0 hears of a counter of the dictionary (R391). -/
def counterFn (index : Nat) : Fun :=
  if 0xD100 ≤ index then fun5 (index - 0xD100)
  else if 0xD010 ≤ index then fun5 (8 * (index - 0xD010))
  else 0

/-- Add one to a counter of range 0xD000 (R390, R397). -/
def count (index sub : Nat) (s : State) : State :=
  let k := index * 256 + sub
  let (n, sat) := countUp 64 ((assocGet s.counters k).getD 0).toNat
  let s := { s with counters := assocPut s.counters k (w64 n) }
  if sat then saturated (counterFn index) none k s else s

/-- Clear a counter of range 0xD000 (R390). -/
def clearCount (index sub : Nat) (s : State) : State :=
  { s with counters := assocDel s.counters (index * 256 + sub) }

def countPackage (sub : Nat) (s : State) : State := count 0xD000 sub s
def countPort (p : Port) (sub : Nat) (s : State) : State := count (0xD010 + p.val) sub s
def countFn (g : Fun) (sub : Nat) (s : State) : State := count (0xD100 + g.val) sub s

/-! ### The stored set -/

/-- Bytes that a record takes in the journal (03, R93). -/
def recordBytes (ref : Ref) (v : Val) : Nat :=
  (match v with | .num _ => 8 | .bytes b => b.length)
    + (Config.journalRecordBytes (objKey ref)).toNat % 65536

/-- Write a record of the stored set: it counts in StoredWrites and takes journal space, and the record
it replaces becomes free for compaction (03, R92, R93, R97). A record that is larger than the space left is written all
the same, and the free space stops at 0: R93 states no outcome, a DESIGN CHOICE. -/
def writeRecord (ref : Ref) (v : Val) (s : State) : State :=
  let old := match assocGet s.stored (objKey ref) with
    | some w => recordBytes ref w
    | none => 0
  countPackage 0x01 { s with
    stored := assocPut s.stored (objKey ref) v
    mgmt := { s.mgmt with
      bytesFree := s.mgmt.bytesFree - recordBytes ref v, dead := s.mgmt.dead + old } }

/-! ### Interrupts (11_events_interrupts, R354 to R360; 02_host_endpoint, R55 to R57) -/

/-- Raw summary: a latch is set whose mask bit is clear (R357). -/
def rawSummary (x : IntSt) : Bool := x.latches &&& ~~~ x.masks != 0

/-- The weir is bypassed (R358). -/
def weirBypassed (s : State) (g : Fun) : Bool :=
  let x := (getFn s g).int
  x.delayNs == 0 || (portOf g == 0 && s.idle.getLsbD x.targetDie.val)

/-- The weir's next state (R357). -/
def weirNext (s : State) (g : Fun) : Weir :=
  let x := (getFn s g).int
  if !rawSummary x then .idle
  else match x.weir with
    | .opened => .opened
    | .idle => if weirBypassed s g then .opened else .holding
    | .holding =>
      if weirBypassed s g || nsCounts x.delayNs ≤ (s.gtc - x.weirGtc).toNat then .opened
      else .holding

/-- A function's contribution to its INTx wire (02, R55, R56). -/
def contribution (s : State) (g : Fun) : Bool :=
  let f := getFn s g
  f.int.weir == .opened && !f.cfg.command.getLsbD 10 && !f.cfg.d3hot && f.abort.isNone &&
    f.state != .absent && f.state != .reset

/-- The pins of a port whose OR of contributions is 1 (02, R56). -/
def pinsHigh (s : State) (p : Port) : List (Fin 4) :=
  (List.finRange 4).filter fun k =>
    (fnsOf p).any fun g => g.val % 4 == k.val && contribution s g

/-- Send the INTx messages that make the last message of each pin match its OR; none is sent while the
link is below L0 (02, R56). -/
def sendIntx (p : Port) (s : State) : State :=
  if (getPort s p).link == .l0 then
    let high := pinsHigh s p
    let was := (getPort s p).intx
    let s := foldState (fun k s =>
      if high.contains k && !was.contains k then emit (.assertIntx p k) s
      else if !high.contains k && was.contains k then emit (.deassertIntx p k) s
      else s) (List.finRange 4) s
    modPort p (fun x => { x with intx := high }) s
  else s

/-- Count the functions whose contribution rose from `before`, then send messages (02, R56; 12, R397).
Which rise InterruptsAsserted counts is DEDUCED. -/
def settleIntx (before : State) (p : Port) (s : State) : State :=
  sendIntx p (foldState (fun g s =>
    if contribution s g && !contribution before g then countFn g 0x13 s else s) (fnsOf p) s)

/-! ### The wake table (R365 to R368; 02_host_endpoint, R66) -/

def modPower (f : PowerSt → PowerSt) (s : State) : State := { s with power := f s.power }

/-- WakeEntry n, from 1 to 64. -/
def wakeEntry (s : State) (n : Nat) : Nat := objNum s 0x8010 n

/-- A wake entry watches this firing (R365). -/
def entryWatches (e : Nat) : WakeInput → Bool
  | .source g k => field e 31 30 == 1 && field e 13 9 == g.val && field e 8 0 == k
  | .input code => field e 31 30 == 2 && field e 7 0 == code

/-- The lowest entry that watches a firing. -/
def watchedBy (s : State) (w : WakeInput) : Option Nat :=
  (List.range 64).findSome? fun i => if entryWatches (wakeEntry s (i + 1)) w then some (i + 1) else none

/-- WakeCause: its code and the GTC divided by 256 (R367). -/
def causeWord (code : Nat) (gtc : U64) : U64 := w64 (gtc.toNat / 256 * 256 + code)

/-- Assert WAKEn_N of a function's port while that port's domain is off (02, R66; R366). The function owes a
PM_PME once the link is back, but for a source that is masked: no interrupt leaves for it (R361, R367). -/
def assertWake (g : Fun) (source : Nat) (s : State) : State :=
  let p := portOf g
  if s.power.on.getLsbD p.val then s
  else
    let s := if (getPort s p).wake then s else emit (.wakePin p true) s
    let masked := (getFn s g).int.masks.getLsbD source
    modPort p (fun x => { x with
      wake := true
      wakeOwners := if masked || x.wakeOwners.contains g then x.wakeOwners else x.wakeOwners ++ [g] }) s

/-- Assert WAKEn_N for the port of an entry that watches a function source (R366, step 3). -/
def entryWake (code : Nat) (s : State) : State :=
  let e := wakeEntry s code
  if 1 ≤ code && code ≤ 64 && field e 31 30 == 1 then assertWake (fun5 (field e 13 9)) (field e 8 0) s else s

/-- The power-up starts (R366, step 3; 12, R397). -/
def startWake (code : Nat) (s : State) : State :=
  countPackage 0x11 (entryWake code (modPower (fun x => { x with
    phase := .waking, wakeLate := none, wakeCause := causeWord code s.gtc }) s))

/-- A wake is asked for: at once in sleep, and after its end during sleep entry (R366, R369). -/
def askWake (code : Nat) (s : State) : State :=
  match s.power.phase with
  | .asleep => startWake code s
  | .entering => modPower (fun x => { x with
      wakeLate := if x.wakeLate.isNone then some code else x.wakeLate }) s
  | _ => s

/-- A source fires while its event logic is off: its latch is set at the next wake (R366, R367). -/
def latchLater (w : WakeInput) (s : State) : State :=
  match w with
  | .source g k => modPower (fun x => { x with slept := x.slept ++ [(g, k)] }) s
  | .input _ => s

/-- A wake firing. Outside package sleep it wakes the port of a function whose domain is off (02, R66; 11,
R366). -/
def wakeFires (w : WakeInput) (s : State) : State :=
  if s.power.phase = .awake then
    match w with
    | .source g k => if (watchedBy s w).isSome && portPresent s (portOf g) then assertWake g k s else s
    | .input _ => s
  else
    let s := latchLater w s
    match watchedBy s w with
    | none => s
    | some n =>
      let s := match w with
        | .source g k => assertWake g k s
        | .input _ => s
      askWake n s

/-! ### Weirs and firings (R354 to R358) -/

/-- Run a function's weir on the present latches and masks: summary, PM_PME and INTx (R357; 02, R55
to R57). In package sleep, from its entry until its wake has ended, the event logic has handed its state over and no
weir runs (R366, R367). -/
def runWeir (g : Fun) (before s : State) : State :=
  if s.power.phase ≠ .awake then s else
  let w := weirNext s g
  let was := (getFn s g).int.weir
  let s' := modInt g (fun x => { x with
    weir := w, weirGtc := if was == .idle && w != .idle then s.gtc else x.weirGtc }) s
  let f := getFn s' g
  let s' := if was != .opened && w == .opened && f.cfg.d3hot && f.cfg.pmeEn then
      emit (.pmPme g) (modCfg g (fun x => { x with pmeStatus := true }) s')
    else s'
  settleIntx before (portOf g) s'

/-- BAR0 offset of SourceLoss of a source (R363). -/
def lossOffset (source : Nat) : Nat :=
  if source < 256 then 0x3400 + 4 * source else 0x3020 + 4 * (source - 256)

/-- The latch of a source sets, or the firing is lost and counted (R355, R356). -/
def setLatch (g : Fun) (source : Nat) (s : State) : State :=
  let x := (getFn s g).int
  if x.latches.getLsbD source then
    let (n, sat) := countUp 32 ((assocGet x.loss source).getD 0).toNat
    let s := modInt g (fun x => { x with loss := assocPut x.loss source (BitVec.ofNat 32 n) }) s
    if sat then saturated g none (2 ^ 62 + lossOffset source) s else s
  else
    runWeir g s (modInt g (fun x => { x with
      latches := x.latches ||| (1 : BitVec 320) <<< source }) s)

/-- A source fires. In package sleep its latch waits for the wake, which a watched source asks for; else it sets at
once, and a watched source of a port whose domain is off wakes that port (R355, R366, R367). -/
def fire (g : Fun) (source : Nat) (s : State) : State :=
  let s1 := wakeFires (.source g source) s
  if s.power.phase = .awake then setLatch g source s1 else s1

/-- BAR writes reach a function: it is present, not in reset or being aborted, Memory Space Enable is 1
and the package is not in the fatal state (02, R63, R70; 12, R387). -/
def barOpen (s : State) (g : Fun) : Bool :=
  let f := getFn s g
  fnPresent s g && f.state != .reset && f.abort.isNone && f.cfg.command.getLsbD 1 &&
    s.err.pkg != .fatal

/-! ### Advanced error reporting (02_host_endpoint, R63; 12_errors, R379) -/

/-- Set an uncorrectable error in a function's AER status and report it as its mask and severity
select. The bit positions and the enables are PRESUMED from the base specification. -/
def aerUncorrectable (g : Fun) (b : Nat) (s : State) : State :=
  let c := (getFn s g).cfg
  let fatal := c.aerUncSev.getLsbD b
  let s := modCfg g (fun x => { x with
    aerFirst := if x.aerUnc.getLsbD x.aerFirst then x.aerFirst else b
    aerUnc := x.aerUnc ||| BitVec.ofNat 32 (2 ^ b)
    devStatus := x.devStatus ||| (if fatal then 4 else 2) ||| (if b = 20 then 8 else 0) }) s
  if c.aerUncMask.getLsbD b then s
  else
    if c.command.getLsbD 8 || c.devCtl.getLsbD (if fatal then 2 else 1) then
      emit (.errMessage g (if fatal then 2 else 1)) s
    else s

/-- A poisoned TLP is received: Detected Parity Error and Poisoned TLP Received (R43, R63). -/
def poisonedTlp (g : Fun) (s : State) : State :=
  aerUncorrectable g 12 (modCfg g (fun x => { x with status := x.status ||| 0x8000 }) s)

/-- Set a correctable error, or an advisory non-fatal one (bit 13). -/
def aerCorrectable (g : Fun) (b : Nat) (s : State) : State :=
  let c := (getFn s g).cfg
  let s := modCfg g (fun x => { x with
    aerCor := x.aerCor ||| BitVec.ofNat 32 (2 ^ b), devStatus := x.devStatus ||| 1 }) s
  if c.aerCorMask.getLsbD b || !c.devCtl.getLsbD 0 then s else emit (.errMessage g 0) s

/-- A function answers requests: it is present, and neither in reset nor being aborted (02, R70, R77, R78). -/
def cfgOpen (s : State) (g : Fun) : Bool :=
  fnPresent s g && (getFn s g).state != .reset && (getFn s g).abort.isNone

/-- An Unsupported Request is reported by the function that it addresses; one to a function that is turned off is
reported by function 0 of the port, which is PRESUMED from the base specification (02, R63). -/
def unsupportedRequest (g : Fun) (s : State) : State :=
  let h := if fnPresent s g then g else fn0 (portOf g)
  if cfgOpen s h && s.err.pkg != .fatal then aerUncorrectable h 20 s else s

/-- A posted BAR write: executed, or discarded under R63 (02) and reported. -/
def barWrite (g : Fun) (act : State → State) (s : State) : State :=
  if barOpen s g then act s else unsupportedRequest g s

/-- A configuration write: executed, answered with Request Retry Status while the function is in reset or being
aborted, or with Unsupported Request by a function that is absent, which is reported (02, R63, R70, R77, R78). -/
def cfgWrite (g : Fun) (act : State → State) (s : State) : State :=
  if cfgOpen s g then act s
  else if fnPresent s g then emit (.configRetry g) s
  else emit (.configUnsupported g) (unsupportedRequest g s)

/-! ### The error collector (12_errors) -/

/-- Master of a capture (R380). -/
def masterOf (i : ErrInfo) : U64 :=
  w64 (i.kind % 16 * 2 ^ 60 + i.unit % 4096 * 2 ^ 48
    + (match i.fn with | some g => 2 ^ 26 + g.val * 2 ^ 21 | none => 0)
    + (match i.ctx with | some c => 2 ^ 20 + c.toNat | none => 0))

/-- Capture an error, or merge it into a HELD set whose merged count has `w` bits (R381, R382), and
whether the merged count saturates now. -/
def captureError (w : Nat) (e : Src) (i : ErrInfo) (gtc : U64) (k : Capture) : Capture × Bool :=
  if k.heldNow then
    let (n, sat) := countUp w k.mergedCount.toNat
    ({ k with
        mergedMask := k.mergedMask ||| w64 (2 ^ srcCode e)
        mergedCount := BitVec.ofNat 32 n
        highest := max k.highest (srcClass e) }, sat)
  else
    ({ heldNow := true, source := srcCode e, cls := srcClass e, address := i.address,
       access := i.addressKind * 256 + i.access, master := masterOf i, gtc := gtc,
       highest := srcClass e, mergedMask := 0, mergedCount := 0 }, false)

/-- The capture step for one function's set (R381). -/
def captureFn (e : Src) (i : ErrInfo) (g : Fun) (s : State) : State :=
  let (k, sat) := captureError 16 e i s.gtc (getFn s g).capture
  let s := modFn g (fun x => { x with capture := k }) s
  if sat then saturated g none (2 ^ 62 + 0x4000) s else s

/-- The capture step for the package's set (R381). -/
def capturePackage (e : Src) (i : ErrInfo) (s : State) : State :=
  let (k, sat) := captureError 32 e i s.gtc s.err.capture
  let s := { s with err := { s.err with capture := k } }
  if sat then saturated 0 none (0x9001 * 256 + 0x0A) s else s

/-- The functions an error is attributed to (R377). -/
def attributed (s : State) (e : Src) (i : ErrInfo) : List Fun :=
  if 2 ≤ srcClass e then
    (List.finRange 32).filter fun g => fnPresent s g || i.fn == some g
  else match i.fn with
    | some g => [g]
    | none => [0]

/-- Reactions of a source: ErrReaction (R378). -/
def reactionOf (s : State) (e : Src) : Nat := objNum s (0x9100 + srcCode e) 2

/-- ErrCount of a source (R396). -/
def errCount (s : State) (e : Src) : U32 := (assocGet s.err.counts (srcCode e)).getD 0

/-- Count an error in ErrCount (R379, R390). -/
def countError (e : Src) (s : State) : State :=
  let (n, sat) := countUp 32 (errCount s e).toNat
  let s := { s with err := { s.err with
    counts := assocPut s.err.counts (srcCode e) (BitVec.ofNat 32 n) } }
  if sat then saturated 0 none ((0x9100 + srcCode e) * 256 + 3) s else s

/-- LastFatalRecord: 64 bytes, read from the package capture (R396). -/
def fatalRecord (s : State) : Bytes :=
  let k := s.err.capture
  leBytes 8 (s.boot.version.toNat * 2 ^ 32 + k.cls * 2 ^ 16 + k.source)
    ++ leBytes 8 k.address.toNat ++ leBytes 8 k.master.toNat ++ leBytes 8 k.access
    ++ leBytes 8 k.gtc.toNat ++ leBytes 8 k.mergedMask.toNat ++ leBytes 8 k.mergedCount.toNat
    ++ leBytes 8 0

/-- The NMI reaction: firmware's handler runs, and for S3 writes LastFatalRecord (R378). -/
def reactNmi (e : Src) (s : State) : State :=
  let s := emit (.nmi e) s
  if srcClass e = 3 && s.boot.fw == .running && !s.sec.coreHalted then
    let r := Val.bytes (fatalRecord s)
    writeRecord ⟨0x9000, 7⟩ r (setObj 0x9000 7 r s)
  else s

/-- The ERR_PIN reaction (R389); `lost` are the contexts that the error lost (R371). -/
def reactPin (e : Src) (lost : List CtxId) (s : State) : State :=
  let (n, sat) := countUp 32 s.err.assertions.toNat
  let s := { s with err := { s.err with
    assertions := BitVec.ofNat 32 n
    releaseWaiting := false
    pinContexts := if srcClass e = 1 then s.err.pinContexts ++ lost else s.err.pinContexts
    pinBlock := s.err.pinBlock || srcClass e == 2
    pinFatal := s.err.pinFatal || srcClass e == 3 } }
  let s := if sat then saturated 0 none (0x9000 * 256 + 5) s else s
  if s.err.pin then s
  else emit (.errPins true) { s with err := { s.err with pin := true, pinGtc := s.gtc } }

/-- The INT reaction for one function: ERROR_REPORTED to ring 0 and source 258 (R378, R349). Data1 is
the GTC of the function's first-error capture. -/
def reactInt (e : Src) (g : Fun) (s : State) : State :=
  fire g 258 (formEvent g 0 0x05 (srcClass e) none (w64 (srcCode e)) (getFn s g).capture.gtc s)

/-- Package state and the reset that a reaction selects: an S2 error starts none in BLOCK_FAILED or RESETTING, an S0 or
S1 error none while a block reset runs, and none starts in the fatal state (R378, R379, R393). -/
def reactReset (e : Src) (r : Nat) (s : State) : State :=
  let starts := srcClass e < 3 && (s.err.pkg == .normal || (srcClass e < 2 && s.err.pkg == .blockFailed))
  { s with err := { s.err with
    pkg := if srcClass e = 3 then .fatal
      else if srcClass e = 2 && s.err.pkg == .normal then .blockFailed else s.err.pkg
    fatalGtc := if srcClass e = 3 && s.err.pkg != .fatal then s.gtc else s.err.fatalGtc
    packagePending := srcClass e != 3 && (s.err.packagePending || (starts && r.testBit 3))
    blockPending := srcClass e != 3 &&
      (s.err.blockPending || (starts && r.testBit 2 && !r.testBit 3))
    coreRestart := s.err.coreRestart || e == .mgmtCoreFault } }

/-- An error of a source reaches the collector, which acts in the order of R379. A pair that reads
broken is ignored (R374). -/
def raiseWith (e : Src) (i : ErrInfo) (lost : List CtxId) (s : State) : State :=
  if s.err.wireFaults.contains e then s
  else
    let r := reactionOf s e
    let cls := srcClass e
    let s := countError e s
    let s := if 2 ≤ cls then foldState (captureFn e i) (List.finRange 32) (capturePackage e i s)
      else if cls = 1 then foldState (captureFn e i) (attributed s e i) s
      else s
    let s := reactReset e r s
    let s := if r.testBit 1 then reactNmi e s else s
    let s := if r.testBit 4 then reactPin e lost s else s
    let s := if r.testBit 0 then foldState (reactInt e) (attributed s e i) s else s
    if 2 ≤ cls then
      foldState (fun g s => if fnPresent s g then aerUncorrectable g 22 s else s)
        (List.finRange 32) s
    else s

/-- An error that loses no context. -/
def raiseError (e : Src) (i : ErrInfo) (s : State) : State := raiseWith e i [] s

end Sys2Proof.Machine
end

