-- ==== Sys2Proof/Machine/DictCore.lean ====
section
/-!
DEFINITION. The checks that every object access passes and the stored set (03_management_dictionary,
R82 to R97).
-/
namespace Sys2Proof.Machine

/-- Type code (R83). -/
def typeCode : ObjTy → Nat
  | .u8 => 0x01
  | .u16 => 0x02
  | .u32 => 0x03
  | .u64 => 0x04
  | .i32 => 0x05
  | .bool => 0x06
  | .enum => 0x07
  | .addr57 => 0x08
  | .duration => 0x09
  | .string => 0x0A
  | .blob => 0x0B

/-- Length of a type of fixed length (R83). -/
def typeLen : ObjTy → Option Nat
  | .u8 | .bool => some 1
  | .u16 | .enum => some 2
  | .u32 | .i32 => some 4
  | .u64 | .addr57 | .duration => some 8
  | .string | .blob => none

/-- Code of an access right (R84). -/
def accCode : ObjAcc → Nat
  | .const => 0
  | .ro => 1
  | .rw => 2
  | .wo => 3
  | .rwm => 4
  | .rwh => 5

/-- Entry status code (R110). -/
def eStatusCode : EStatus → Nat
  | .ok => 0x00
  | .noObject => 0x01
  | .readDenied => 0x02
  | .writeDenied => 0x03
  | .typeMismatch => 0x04
  | .outOfRange => 0x05
  | .busy => 0x06
  | .calGuard => 0x07
  | .storeFailed => 0x08
  | .notApplied => 0x09
  | .fusedOff => 0x0A
  | .roleDenied => 0x0B
  | .badOp => 0x0C

/-- Rank of a role (R102). -/
def roleRank : Role → Nat
  | .none => 0
  | .monitor => 1
  | .operator => 2
  | .admin => 3

/-- The highest subindex under an index, when the index exists (R81). -/
def highestSub (index : Nat) : Option Nat :=
  let rows := objectTable.filter fun r => r.base ≤ index && index < r.base + r.count
  if rows.isEmpty then none else some (rows.foldl (fun a r => max a (r.sub + r.subs - 1)) 0)

/-- The row that governs an object. Subindex 0x00 is a CONST U8 with the scope of the index (R81, R86); its name
HighestSubindex in the directory and in LIST is a DESIGN CHOICE, since R114 gives it none. FunctionEnable of a
function 0 is CONST (02, R79). -/
def rowOf (ref : Ref) : Option ObjRow :=
  if ref.sub = 0 then
    (objectTable.find? fun r => r.base ≤ ref.index && ref.index < r.base + r.count).map fun r =>
      { base := ref.index, sub := 0, name := "HighestSubindex", ty := .u8, acc := .const,
        scope := r.scope, unit := r.unit }
  else (objRow ref).map fun r =>
    if ref.sub = 1 && 0x2100 ≤ ref.index && ref.index < 0x2120 && ref.index % 8 == 0 then
      { r with acc := .const }
    else r

/-- Whether a requester sees an object (R86). -/
def sees (rq : Requester) (r : ObjRow) (ref : Ref) : Bool :=
  match rq with
  | .net _ _ => true
  | .mbx g =>
    if fnOf g = 0 then
      !(0x1100 ≤ ref.index && ref.index ≤ 0x11FF) &&
        match r.scope with
        | .package => true
        | .port b => ref.index - b == (portOf g).val
        | .fn b => (ref.index - b) / 8 == (portOf g).val
    else match r.scope with
      | .fn b => ref.index - b == g.val
      | _ => false

/-- Whether a right and the scope let a requester write (R84, R87). -/
def mayWrite (rq : Requester) (r : ObjRow) : Bool :=
  match r.acc, rq with
  | .const, _ => false
  | .ro, _ => false
  | .rw, .net _ _ => true
  | .wo, .net _ _ => true
  | .rwm, .net _ _ => true
  | .rwh, .net _ _ => false
  | .rwm, .mbx _ => false
  | .rwh, .mbx g => fnOf g == 0 && (r.scope != .package || g == 0)
  | .rw, .mbx g => fnOf g != 0 || r.scope != .package || g == 0
  | .wo, .mbx g => fnOf g != 0 || r.scope != .package || g == 0

/-- Whether an object names a unit that the variant fuses off (00, R4). -/
def namesFusedOff (v : Variant) (r : ObjRow) (ref : Ref) : Bool :=
  (match r.scope with
    | .package => false
    | .port b => portsOf v ≤ ref.index - b
    | .fn b => 8 * portsOf v ≤ ref.index - b) ||
  (r.unit == .stack && stacksOf v ≤ ref.index - r.base)

/-- The role that a network write of an object needs (R102; 13, R414, R421). -/
def roleNeeded (r : ObjRow) (ref : Ref) : Role :=
  if r.calib || (0x1100 ≤ ref.index && ref.index ≤ 0x11FF) || ref == ⟨0xA000, 6⟩ || ref == ⟨0xA000, 10⟩ then
    .admin
  else .operator

/-- A value sent for an object: a number, or the bytes of a STRING or BLOB. -/
def sentVal (r : ObjRow) (b : Bytes) : Val :=
  match typeLen r.ty with
  | some _ => .num (leNat b)
  | none => .bytes b

/-- A value as the bytes that carry it. -/
def valBytesOf (r : ObjRow) : Val → Bytes
  | .num n => leBytes ((typeLen r.ty).getD 8) n
  | .bytes b => b

/-- Length and value rules of a type and of the object's Meaning (R83). -/
def valueStatus (r : ObjRow) (b : Bytes) : EStatus :=
  match typeLen r.ty with
  | some k =>
    let n := leNat b
    if b.length ≠ k then .typeMismatch
    else if (r.ty == .bool && 1 < n) || (r.ty == .addr57 && 2 ^ 57 ≤ n) then .outOfRange
    else if n < r.lo || r.hi < n || n % r.align != 0 || (!r.codes.isEmpty && !r.codes.contains n) then
      .outOfRange
    else .ok
  | none =>
    if (r.ty == .string && 64 < b.length) || 32768 < b.length then .typeMismatch
    else if r.maxLen < b.length || (r.exact && b.length != r.maxLen) then .outOfRange
    else if r.ty == .string && b.any (fun c => c.toNat < 0x20 || 0x7E < c.toNat) then .outOfRange
    else .ok

/-- Rights of a write, without its value: visibility, access right, role and calibration guard, in the
order of R96. A write to an object that names a fused-off unit is refused after them; that place in the
order is a DESIGN CHOICE. -/
def rightStatus (s : State) (rq : Requester) (r : ObjRow) (ref : Ref) : EStatus :=
  if !sees rq r ref then .noObject
  else if !mayWrite rq r then .writeDenied
  else match rq with
    | .net role cal =>
      if roleRank role < roleRank (roleNeeded r ref) then .roleDenied
      else if r.calib && !cal then .calGuard
      else if namesFusedOff s.variant r ref then .fusedOff
      else .ok
    | .mbx _ => if namesFusedOff s.variant r ref then .fusedOff else .ok

/-- The checks of R96 on a write entry, and the states in which every write is turned away: the fatal
state (12, R387), and for STORED objects a RestoreDefaults that runs (R97). That BUSY comes after the checks of
length and value: DESIGN CHOICE. -/
def writeStatus (s : State) (rq : Requester) (ref : Ref) (b : Bytes) : EStatus :=
  if s.err.pkg == .fatal then .busy
  else match rowOf ref with
    | none => .noObject
    | some r =>
      match rightStatus s rq r ref with
      | .ok =>
        match valueStatus r b with
        | .ok => if s.mgmt.restoring && r.pers == .stored then .busy else .ok
        | e => e
      | e => e

/-- Visibility, right and role of a read (R84, R86, R102). -/
def readStatus (rq : Requester) (ref : Ref) : EStatus :=
  match rowOf ref with
  | none => .noObject
  | some r =>
    if !sees rq r ref then .noObject
    else if r.acc == .wo then .readDenied
    else match rq with
      | .net role _ => if roleRank role < roleRank .monitor then .roleDenied else .ok
      | .mbx _ => .ok

/-- An object of plain storage takes a value; a STORED object also gets a record (R85, R93). -/
def putObj (ref : Ref) (v : Val) (s : State) : State :=
  let s := setObj ref.index ref.sub v s
  match objRow ref with
  | some r => if r.pers == .stored then writeRecord ref v s else s
  | none => s

/-- A write of one object outside a batch: the checks, the owning chapter's own refusal, the answer, and
the effect (R90, R96). -/
def requestWrite (rq : Requester) (ref : Ref) (v : Val) (refuse : State → Option EStatus)
    (act : State → State) (s : State) : State :=
  let b := match rowOf ref with
    | some r => valBytesOf r v
    | none => []
  match writeStatus s rq ref b with
  | .ok =>
    match refuse s with
    | some e => emit (.objectStatus rq ref e) s
    | none => act (emit (.objectStatus rq ref .ok) s)
  | e => emit (.objectStatus rq ref e) s

end Sys2Proof.Machine
end

