-- ==== Sys2Proof/Machine/PoolOps.lean ====
section
/-!
DEFINITION. The pool as every requester sees it (09_memory_pool): reads and writes through the pool
cache and over the direct path, poison, the snoop gate of coherent windows (08), and the placement of
objects.
-/
namespace Sys2Proof.Machine

/-- Base of the 64-byte line that holds an address (R286). -/
def lineOf (a : Nat) : Nat := a / 64 * 64

/-- The lines that a span touches, rising. -/
def linesOf (a n : Nat) : List Nat :=
  if n = 0 then [] else (List.range ((a + n - 1) / 64 - a / 64 + 1)).map fun i => lineOf a + 64 * i

/-- Stack of a pool address (R286). -/
def stackOf (a : Nat) : Nat := a / 0x10_0000_0000

/-- Row of a pool address, as the address of the row's line 0 (R286, R302). -/
def rowBase (a : Nat) : Nat := a / 2048 * 2048

/-- The region of the pool map that holds an address (R288). -/
def regionAt (s : State) (a : Nat) : Option Region :=
  s.pool.regions.find? fun r => r.base ≤ a && a < r.base + r.bytes

/-- Whether a span touches a FAULT region (R289). -/
def touchesFault (s : State) (a n : Nat) : Bool :=
  s.pool.regions.any fun r => r.kind == .fault && spansMeet r.base r.bytes a n

/-- Whether a span touches a poisoned line (R300). -/
def poisoned (s : State) (a n : Nat) : Bool :=
  s.pool.poison.any fun l => spansMeet l 64 a n

/-- Bytes as the pool cache shows them (R287). -/
def poolBytes (s : State) (a n : Nat) : Bytes := memRead s.pool.mem a n

/-- The stack's bytes of one line: the older copy of a line that is dirty in the cache, else its
content (R287, R305). -/
def stackLine (s : State) (line : Nat) : Bytes :=
  (assocGet s.pool.stale line).getD (memRead s.pool.mem line 64)

/-- Bytes as the direct path reads them (R305). -/
def stackBytes (s : State) (a n : Nat) : Bytes :=
  (List.range n).map fun i =>
    (stackLine s (lineOf (a + i))).getD ((a + i) % 64) 0

/-! ### Copies, key slots and write-backs (R287, R290, R294, R297, R303) -/

/-- Mirror address of a pool address, when it lies in a MIRRORED object (R294). -/
def mirrorOf (s : State) (a : Nat) : Option Nat :=
  (s.obj.objs.find? fun o => o.base ≤ a && a < o.base + o.bytes && o.mirrorSpan.isSome).bind fun o =>
    o.mirrorSpan.map fun m => m + (a - o.base)

/-- The second copy of a line that has one: the mirror line of an object, or the carve-out's (R290, R294). -/
def copiesOf (s : State) (line : Nat) : Option Nat :=
  match mirrorOf s line with
  | some m => some m
  | none =>
    match regionAt s line, s.pool.regions.find? fun r => r.kind == .carveOutMirror with
    | some r, some m => if r.kind == .carveOut then some (m.base + (line - r.base)) else none
    | _, _ => none

/-- The object in whose primary or mirror span an address lies. -/
def objectAt (s : State) (a : Nat) : Option MemObj :=
  s.obj.objs.find? fun o => (o.base ≤ a && a < o.base + o.bytes) ||
    o.mirrorSpan.any fun m => m ≤ a && a < m + o.bytes

/-- The key slot of a line: that of the function which owns its extent or its object; the carve-out and its mirror use
the VHT's own, 32 (R297; 13, R403). A line of neither holds only scrubbed zeros and needs none. -/
def keySlot (s : State) (a : Nat) : Option Nat :=
  match regionAt s a with
  | some r =>
    match r.kind with
    | .extent => some r.owner
    | .carveOut | .carveOutMirror => some 32
    | _ => (objectAt s a).map (·.owner.val)
  | none => none

/-- A line's stack copy is its content. -/
def cleanLine (line : Nat) (s : State) : State :=
  { s with pool := { s.pool with stale := assocDel s.pool.stale line } }

/-- Put bytes into the pool. -/
def putBytes (a : Nat) (b : Bytes) (s : State) : State :=
  { s with pool := { s.pool with mem := memWrite s.pool.mem a b } }

/-- A line's second copy takes its content. -/
def copyLine (line copy : Nat) (s : State) : State := putBytes copy (memRead s.pool.mem line 64) s

/-- The row in use for a logical row: its remap when ACTIVE (R299). -/
def activeRow (s : State) (row : Nat) : Nat :=
  match s.pool.remaps.find? fun m => m.row == row && !m.copying with
  | some m => m.spare
  | none => row

/-- The address in the stack that serves a line: in the spare row once its row's remap is ACTIVE (R299). -/
def servedAt (s : State) (line : Nat) : Nat := activeRow s (rowBase line) + line % 2048

/-- Where a write-back of a line goes: the row in use, and the spare too while the row is COPYING (R299, R311). -/
def backPlaces (s : State) (line : Nat) : List Nat :=
  servedAt s line :: ((s.pool.remaps.find? fun m => m.row == rowBase line && m.copying).map fun m =>
    m.spare + line % 2048).toList

/-- A line is written to its stack under a key slot. -/
def writeStack (line : Nat) (slot : Option Nat) (s : State) : State :=
  foldState (fun p s => emit (.stackLine true line p slot) s) (backPlaces s line) s

/-- A line goes to its stack, and to its second copy under the same key slot (R287, R290, R297, R303). -/
def backLine (line : Nat) (s : State) : State :=
  let slot := keySlot s line
  let s := writeStack line slot (cleanLine line s)
  match copiesOf s line with
  | none => s
  | some m => writeStack m slot (copyLine line m s)

/-- Write one run inside a line through the pool cache. A dirty line keeps its stack copy beside it
(R287); a write-through updates the stack as well (10, R321). -/
def writeLine (a : Nat) (b : Bytes) (through : Bool) (s : State) : State :=
  let line := lineOf a
  let old := stackLine s line
  let s := putBytes a b s
  if through then backLine line s
  else if memRead s.pool.mem line 64 == old then cleanLine line s
  else { s with pool := { s.pool with stale := assocPut s.pool.stale line old } }

/-- Remove a line from the poison directory (R301). -/
def clearPoison (line : Nat) (s : State) : State :=
  { s with pool := { s.pool with poison := s.pool.poison.filter (· != line) } }

/-- Write one run inside a line: a write of all 64 bytes clears the line's poison, any other write of a
poisoned line is discarded and counted (R301). -/
def writeRun (a : Nat) (b : Bytes) (through : Bool) (s : State) : State :=
  if s.pool.poison.contains (lineOf a) then
    if b.length = 64 then writeLine a b through (clearPoison (lineOf a) s)
    else countPackage 0x18 s
  else writeLine a b through s

/-- The pieces of a span at line boundaries: address, position in the span and bytes. -/
def linePieces (a n : Nat) : List (Nat × Nat × Nat) :=
  (linesOf a n).map fun l =>
    let lo := max a l
    let hi := min (a + n) (l + 64)
    (lo, lo - a, hi - lo)

/-- A write of a span through the pool cache (R287, R301). -/
def poolWrite (a : Nat) (b : Bytes) (through : Bool) (s : State) : State :=
  foldState (fun x s => writeRun x.1 (sliceBytes b x.2.1 x.2.2) through s) (linePieces a b.length) s

/-- The dirty lines of a span. -/
def dirtyIn (s : State) (a n : Nat) : List Nat :=
  (s.pool.stale.filter fun e => spansMeet e.1 64 a n).map (·.1)

/-- Write the dirty lines of a span back to their stacks, as FLUSH does, and a remap that needs their stack copies to
be current (R287; 08, R283). -/
def writeBack (a n : Nat) (s : State) : State := foldState backLine (dirtyIn s a n) s

/-- Pinned scratch spans of every live fixed-schedule context (10, R322). -/
def pinnedSpans (s : State) : List (Nat × Nat) :=
  s.obj.ctxs.flatMap fun e => match e.2.fixed with
    | some f => f.scratch
    | none => []

/-- Whether every byte from `a` to `e` lies in one of the spans, taken one after another. -/
def inSpans (ps : List (Nat × Nat)) : Nat → Nat → Nat → Bool
  | 0, a, e => e ≤ a
  | fuel + 1, a, e => e ≤ a || match ps.find? fun p => p.1 ≤ a && a < p.1 + p.2 with
    | some p => inSpans ps fuel (p.1 + p.2) e
    | none => false

/-- Whether a span lies in pinned lines. -/
def pinned (s : State) (a n : Nat) : Bool :=
  let ps := pinnedSpans s
  0 < n && inSpans ps ps.length a (a + n)

/-- The cache may have evicted a dirty line by now, and so written it back: whether it has is free. A pinned line is
never evicted (R287; 10, R322). -/
def mayEvict (line : Nat) (s : State) : State :=
  if (assocGet s.pool.stale line).isSome && !pinned s line 64 then
    let back := Config.evicted s.draws line
    let s := draw s
    if back then backLine line s else s
  else s

/-- The lines of a span that a direct read meets, some of them evicted by then (R287, R305). -/
def mayEvictSpan (a n : Nat) (s : State) : State := foldState mayEvict (dirtyIn s a n) s

/-- Discard a line from the pool cache without write-back (08, R283), if it is still dirty there. -/
def discardLine (line : Nat) (s : State) : State :=
  let s := mayEvict line s
  match assocGet s.pool.stale line with
  | none => s
  | some old => cleanLine line (putBytes line old s)

/-- Discard the lines of a span from the pool cache. -/
def discardLines (a n : Nat) (s : State) : State := foldState discardLine (linesOf a n) s

/-- Zero a span as a scrub step does: its lines read as zero, the stack copies agree, and its poison is
gone (R306). -/
def zeroSpan (a n : Nat) (s : State) : State :=
  { s with pool := { s.pool with
    mem := memZero s.pool.mem a n
    stale := s.pool.stale.filter fun e => !spansMeet e.1 64 a n
    poison := s.pool.poison.filter fun l => !spansMeet l 64 a n } }

/-! ### The snoop gate (08_windows_coherence, R280, R281) -/

/-- Whether a snoop of this kind is out. -/
def snoopOut (s : State) (d : Die) (line : Nat) (inv : Bool) : Bool :=
  s.win.snoops.any fun x => x.die == d && x.line == line && x.invalidate == inv

/-- Send a snoop, once, and count it; `i` names the access that waits for it (R281; 12, R380). -/
def sendSnoop (i : ErrInfo) (d : Die) (line : Nat) (inv : Bool) (s : State) : State :=
  if snoopOut s d line inv then s
  else
    let s := { s with win := { s.win with
      snoops := s.win.snoops ++ [⟨d, line, inv, s.gtc, false, i⟩] } }
    countPackage (if inv then 0x13 else 0x12) (emit (.snoop d line inv) s)

/-- The snoops that an access of one tracked line needs first: a recall from an owning die, then for a
write the invalidation of every copy but the requester's (R280). -/
def snoopsFor (l : Line) (write : Bool) (requester : Option Die) : List (Die × Bool) :=
  let others := l.dies.filter fun d => requester != some d
  if l.owned then others.map fun d => (d, false)
  else if write then others.map fun d => (d, true)
  else []

/-- The tracked lines of a span on which an access has to wait for snoops (R280). -/
def gateLines (s : State) (a n : Nat) (write : Bool) (requester : Option Die) : List Line :=
  s.win.filter.filter fun l =>
    spansMeet l.address 64 a n && !(snoopsFor l write requester).isEmpty

/-- Whether an access of a span has to wait for snoops. -/
def gated (s : State) (a n : Nat) (write : Bool) (requester : Option Die) : Bool :=
  !(gateLines s a n write requester).isEmpty

/-- Send the snoops that an access of a span waits for; `i` names the access (R280; 12, R380). -/
def gateSnoops (i : ErrInfo) (a n : Nat) (write : Bool) (requester : Option Die) (s : State) : State :=
  foldState (fun l s => foldState (fun x s => sendSnoop i x.1 l.address x.2 s)
    (snoopsFor l write requester) s) (gateLines s a n write requester) s

/-- Capture fields of an access of the millrace for a context (12, R380). -/
def millraceAt (s : State) (c : CtxId) (access : Nat) : ErrInfo :=
  let g := (ctx? s c).map (·.fn)
  { kind := 2, unit := (g.map fun g => (portOf g).val).getD 0, fn := g, ctx := some c, access := access }

/-! ### Placing objects (R292, R293) -/

/-- Spans that no object may overlap: live objects, objects whose drop is under way, and the whole spans of scrubs that
have not ended (R292, R308). -/
def takenSpans (s : State) : List (Nat × Nat) :=
  (s.obj.objs.flatMap fun o =>
    (o.base, o.bytes) :: (match o.mirrorSpan with | some m => [(m, o.bytes)] | none => [])) ++
  (s.pool.scrubs.flatMap fun c =>
    (c.base, c.bytes) :: (match c.mirror with | some m => [(m, c.bytes)] | none => []))

/-- The lowest place for `bytes` in [lo, hi) at or above `at_`, moving past the taken spans. -/
def placeIn (taken : List (Nat × Nat)) (align bytes hi : Nat) : Nat → Nat → Option Nat
  | 0, _ => none
  | fuel + 1, at_ =>
    let a := (at_ + align - 1) / align * align
    if hi < a + bytes then none
    else match taken.find? fun t => spansMeet t.1 t.2 a bytes with
      | none => some a
      | some t => placeIn taken align bytes hi fuel (t.1 + t.2)

/-- Where CREATE_OBJECT places a span: the lowest address that R292 allows in the stacks that `ok`
admits. -/
def placeSpan (s : State) (ok : Nat → Bool) (bytes : Nat) : Option Nat :=
  let taken := takenSpans s
  let align := if 0x20_0000 ≤ bytes then 0x20_0000 else 0x1000
  (s.pool.regions.filter fun r => r.kind == .general && ok (stackOf r.base)).findSome? fun r =>
    placeIn taken align bytes (r.base + r.bytes) (taken.length + 1) r.base

/-- Stacks that a StackMask admits (R292). -/
def inMask (mask stack : Nat) : Bool := mask == 0 || mask.testBit stack

/-- Primary and mirror places of a new object (R292, R293). -/
def placeObject (s : State) (mask bytes : Nat) (mirrored : Bool) : Option (Nat × Option Nat) :=
  match placeSpan s (inMask mask) bytes with
  | none => none
  | some a =>
    if mirrored then
      (placeSpan s (fun k => inMask mask k && k != stackOf a) bytes).map fun m => (a, some m)
    else some (a, none)

/-! ### Remaps and poison (R299 to R304) -/

/-- SPARE rows of a stack, rising (R289). -/
def spareRows (s : State) (stack : Nat) : List Nat :=
  match s.pool.regions.find? fun r => r.kind == .spare && stackOf r.base == stack with
  | some r => (List.range (r.bytes / 2048)).map fun i => r.base + 2048 * i
  | none => []

/-- Spare rows of a stack that are taken. -/
def sparesTaken (s : State) (stack : Nat) : List Nat :=
  s.pool.sparesUsed.filter fun r => stackOf r == stack

/-- The lowest free spare row of a stack (R299). -/
def freeSpare (s : State) (stack : Nat) : Option Nat :=
  match s.pool.regions.find? fun r => r.kind == .spare && stackOf r.base == stack with
  | none => none
  | some r =>
    ((List.range (r.bytes / 2048)).find? fun i => !s.pool.sparesUsed.contains (r.base + 2048 * i)).map
      fun i => r.base + 2048 * i

/-- Raise POOL_SPARES_EXHAUSTED once for a row (R299). -/
def sparesExhausted (row : Nat) (s : State) : State :=
  if s.pool.exhausted.contains row then s
  else raiseError .poolSparesExhausted
      { kind := 8, address := w64 row, addressKind := 1, access := 7 }
      { s with pool := { s.pool with exhausted := s.pool.exhausted ++ [row] } }

/-- Start the remap of a row to the lowest free spare of its stack, or report that none is free; the
answer says whether one started (R299). `from_` lists the lines that the copy takes from their second copy, with its
address (R303, R304). A row that is being copied is left alone, but for the line `bad` which its copy now takes from
the second copy (R311); an earlier remap of the row serves it until the copy has ended. -/
def startRemap (row : Nat) (from_ bad : List (Nat × Nat)) (s : State) : State × Bool :=
  if s.pool.remaps.any fun m => m.row == row && m.copying then
    ({ s with pool := { s.pool with
      remaps := s.pool.remaps.map fun m =>
        if m.row == row && m.copying then { m with fromCopy := m.fromCopy ++ bad } else m } }, true)
  else match freeSpare s (stackOf row) with
    | none => (sparesExhausted row s, false)
    | some x =>
      -- the copy reads the stack's lines, which are made current (R287)
      let s := writeBack row 2048 s
      ({ s with pool := { s.pool with
          remaps := s.pool.remaps ++ [⟨row, x, true, from_⟩]
          sparesUsed := s.pool.sparesUsed ++ [x] } }, true)

/-- Append a row to RowFailLog unless it is there; a full log raises POOL_SPARES_EXHAUSTED (R300,
R302). -/
def logRow (row : Nat) (s : State) : State :=
  let b := objBytes s 0x5000 0x0A
  let rows := (List.range (b.length / 8)).map (qwordAt b)
  if rows.contains row then s
  else if 1024 ≤ rows.length then
    raiseError .poolSparesExhausted
      { kind := 8, address := w64 row, addressKind := 1, access := 7 } s
  else putObj ⟨0x5000, 0x0A⟩ (.bytes (b ++ leBytes 8 row)) s

/-- Poison a line: its row is logged and POOL_LINE_POISONED raised; a full directory only does not record it
(R300). -/
def poisonLine (line : Nat) (i : ErrInfo) (s : State) : State :=
  if s.pool.poison.contains line then s
  else
    let full : Bool := 65536 ≤ s.pool.poison.length
    let s := if full then s
      else { s with pool := { s.pool with poison := insertNat line s.pool.poison } }
    let s := raiseError .poolLinePoisoned i (logRow (rowBase line) s)
    if full then raiseError .poisonDirectoryFull i s else s

end Sys2Proof.Machine
end

