-- ==== Sys2Proof/Machine/Upstream.lean ====
section
/-!
DEFINITION. Requests that a port issues (02_host_endpoint, R59 to R62, R465) and the addresses that ATS
gives them (06_translation, R219, R220).
-/
namespace Sys2Proof.Machine

/-- Bytes that a size field of Device Control selects (R45). -/
def payloadBytes (n : Nat) : Nat := 128 <<< min (n % 8) 5

def maxPayload (s : State) (g : Fun) : Nat := payloadBytes ((getFn s g).cfg.devCtl.toNat >>> 5)
def maxRead (s : State) (g : Fun) : Nat := payloadBytes ((getFn s g).cfg.devCtl.toNat >>> 12)

/-- The pieces of a request: each ends at `step` bytes from its start, at a 4 KiB boundary, or at the
end (R60). Address, position and bytes. -/
def splitAt4K (step : Nat) : Nat → Nat → Nat → Nat → List (Nat × Nat × Nat)
  | 0, _, _, _ => []
  | fuel + 1, a, pos, n =>
    if n = 0 then []
    else
      let k := min n (min step (4096 - a % 4096))
      (a, pos, k) :: splitAt4K step fuel (a + k) (pos + k) (n - k)

/-- The requests of a read or write of `n` bytes at `a` (R60). -/
def requests (step a n : Nat) : List (Nat × Nat × Nat) := splitAt4K step (n / 128 + n / 4096 + 3) a 0 n

/-- DMA may leave the ports: in the fatal state only until 50 µs after the error (12, R387). -/
def dmaOpen (s : State) : Bool := s.err.pkg != .fatal || (s.gtc - s.err.fatalGtc).toNat ≤ 62500

/-- Bytes of the function's Smallest Translation Unit: 4 KiB × 2^STU, PRESUMED from the base
specification. -/
def stuBytes (s : State) (g : Fun) : Nat := 4096 <<< ((getFn s g).cfg.stu % 32)

/-- The cached translation of an address that grants what an access needs (R220). -/
def atsFind (s : State) (g : Fun) (pasid : BitVec 20) (a : Nat) (write : Bool) : Option AtsEntry :=
  let page := a / stuBytes s g * stuBytes s g
  (getPort s (portOf g)).ats.find? fun e =>
    e.pasid == pasid && e.address == page && (if write then e.write else e.read)

/-- The address that a port issues for a resolved host address (R219). -/
def issueAddress (s : State) (g : Fun) (pasid : BitVec 20) (a : Nat) (write : Bool) : Nat :=
  if (getFn s g).cfg.atsEnable then
    match atsFind s g pasid a write with
    | some e => e.translated + a % stuBytes s g
    | none => a
  else a

/-- The address of a request: an access under a PASID goes through the translations of ATS, an untranslated
one does not (R219; 04, R120). -/
def wireAddress (s : State) (g : Fun) (pasid : Option (BitVec 20)) (a : Nat) (write : Bool) : Nat :=
  match pasid with
  | some x => issueAddress s g x a write
  | none => a

/-- Mark a translation as the most recently used. -/
def atsTouch (p : Port) (e : AtsEntry) (s : State) : State :=
  modPort p (fun x => { x with ats := e :: x.ats.filter (· != e) }) s

/-- An access uses the translation that gives its address, which becomes the most recently used (R219, R220). -/
def atsUse (g : Fun) (pasid : Option (BitVec 20)) (a : Nat) (write : Bool) (s : State) : State :=
  match pasid with
  | none => s
  | some x =>
    if (getFn s g).cfg.atsEnable then
      match atsFind s g x a write with
      | some e => atsTouch (portOf g) e s
      | none => s
    else s

/-- Issue a posted write, split at Max_Payload_Size (R59, R60). -/
def hostWrite (g : Fun) (a : Nat) (pasid : Option (BitVec 20)) (b : Bytes) (s : State) : State :=
  if !dmaOpen s then s
  else foldState (fun x s =>
      emit (.write (portOf g) (wireAddress s g pasid x.1 true) pasid (sliceBytes b x.2.1 x.2.2))
        (atsUse g pasid x.1 true s))
    (requests (maxPayload s g) a b.length) s

/-- Tags that a function holds, quarantined ones included (R61). -/
def tagsHeld (s : State) (g : Fun) : Nat := ((getPort s (portOf g)).tags.filter fun t => t.fn == g).length

/-- TagLimit of a function (R61, R79). -/
def tagLimit (s : State) (g : Fun) : Nat := objNum s (0x2100 + g.val) 3

/-- The lowest free number at or above `n` in a rising list of tags. -/
def lowestFree : List Nat → Nat → Nat
  | [], n => n
  | t :: l, n => if t = n then lowestFree l (n + 1) else n

/-- A free tag for a function, or none when the port's tags or the function's limit are used up (R61).
The lowest free tag is a DESIGN CHOICE. -/
def freeTag (s : State) (g : Fun) : Option ReqTag :=
  let used := (getPort s (portOf g)).tags.map fun t => t.tag.toNat
  if 16384 ≤ used.length || tagLimit s g ≤ tagsHeld s g then none
  else some (BitVec.ofNat 14 (lowestFree used 0))

/-- Insert a tag by rising number. -/
def insertTag (t : TagUse) : List TagUse → List TagUse
  | [] => [t]
  | x :: l => if t.tag.toNat < x.tag.toNat then t :: x :: l else x :: insertTag t l

/-- Tags that serve one read and are not quarantined. -/
def tagsOf (s : State) (p : Port) (use : ReadUse) : List TagUse :=
  (getPort s p).tags.filter fun t => t.use == use && !t.quarantined

/-- Requests of one read that wait for a tag. -/
def waitsOf (s : State) (p : Port) (use : ReadUse) : List TagWait :=
  (getPort s p).waits.filter fun w => w.use == use

/-- A request of a read is out, or waits for a tag. -/
def readsOut (s : State) (p : Port) (use : ReadUse) : Bool :=
  !(tagsOf s p use).isEmpty || !(waitsOf s p use).isEmpty

/-- Bus Master Enable and the power state let a function issue requests (R64, R73). -/
def masterOpen (s : State) (g : Fun) : Bool := (getFn s g).cfg.command.getLsbD 2 && !(getFn s g).cfg.d3hot

/-- The message of a request that has a tag: a Translation Request or a read, whose address goes through the
translations of ATS (06, R219); the firmware image is read untranslated (15, R450). -/
def requestMsg (s : State) (w : TagWait) (t : ReqTag) : Msg :=
  match w.use with
  | .ats pasid unit => .atsRequest (portOf w.fn) t pasid unit
  | _ => .read (portOf w.fn) t (wireAddress s w.fn w.pasid w.address false) w.pasid w.bytes

/-- Issue a request under a tag. A Translation Request is counted (12, R397). -/
def issueUnder (w : TagWait) (t : ReqTag) (s : State) : State :=
  let s := emit (requestMsg s w t) (modPort (portOf w.fn) (fun p => { p with
    tags := insertTag ⟨t, w.fn, w.use, w.pasid, w.address, w.offset, w.bytes, [], s.gtc, false, false⟩ p.tags }) s)
  match w.use with
  | .ats _ _ => countPort (portOf w.fn) 5 s
  | _ => atsUse w.fn w.pasid w.address false s

/-- A waiting request may be issued: its function has a free tag, and a read of the firmware image needs Bus
Master Enable (R61, R73). -/
def mayTake (s : State) (w : TagWait) : Bool :=
  (freeTag s w.fn).isSome && (match w.use with
    | .image => masterOpen s w.fn
    | .admin _ _ => masterOpen s w.fn
    | _ => true)

/-- The waiting request that is served next: the functions of the port in round robin (R61). -/
def nextWait (s : State) (p : Port) : Option TagWait :=
  let x := getPort s p
  ((List.range 8).map fun i => (x.tagTurn + 1 + i) % 8).findSome? fun k =>
    x.waits.find? fun w => fnOf w.fn == k && mayTake s w

/-- Give free tags to the requests that wait, one tag per function per turn (R61). -/
def serveTags : Nat → Port → State → State
  | 0, _, s => s
  | n + 1, p, s =>
    if !dmaOpen s then s
    else match nextWait s p with
      | none => s
      | some w =>
        match freeTag s w.fn with
        | none => s
        | some t => serveTags n p (issueUnder w t (modPort p (fun x => { x with
            waits := x.waits.erase w, tagTurn := fnOf w.fn }) s))

/-- Serve every request that can be served. -/
def serveWaits (p : Port) (s : State) : State := serveTags (getPort s p).waits.length p s

/-- A request joins those that wait for a tag, unless it waits already, and is issued as tags allow (R61). -/
def requestTag (w : TagWait) (s : State) : State :=
  serveWaits (portOf w.fn) (modPort (portOf w.fn) (fun x => { x with
    waits := if x.waits.contains w then x.waits else x.waits ++ [w] }) s)

/-- Ask for the requests of a read that have neither arrived nor been asked for (R60, R61). `have_` lists the
positions that have arrived, `base` the position of the read's first byte in what it serves. -/
def hostRead (g : Fun) (use : ReadUse) (a base n : Nat) (pasid : Option (BitVec 20))
    (have_ : List (Nat × Bytes)) (s : State) : State :=
  foldState (fun x s =>
    let off := base + x.2.1
    if (tagsOf s (portOf g) use).any (fun t => t.offset == off) || (waitsOf s (portOf g) use).any (fun w => w.offset == off) ||
        have_.any (fun h => h.1 == off) then s
    else requestTag ⟨g, use, pasid, x.1, off, x.2.2⟩ s)
    (requests (maxRead s g) a n) s

/-- The function that reads the firmware image: function 0 of FirmwareSourcePort (15, R450). -/
def imageFn (s : State) : Fun := Fin.ofNat 32 (8 * objNum s 0xC001 2)

/-- Issue the next reads of the firmware image, in order, until one has to wait for a tag (15, R450). -/
def issueImage (s : State) : State :=
  let g := imageFn s
  let n := objNum s 0xC001 4
  let from_ := s.boot.issued
  if s.boot.fw ≠ .loading || objNum s 0xC001 1 ≠ 0 || !masterOpen s g then s
  else foldState (fun x s =>
    if s.boot.issued ≠ from_ + x.2.1 || !(waitsOf s (portOf g) .image).isEmpty || !dmaOpen s then s
    else
      let s := requestTag ⟨g, .image, none, x.1, from_ + x.2.1, x.2.2⟩ s
      { s with boot := { s.boot with issued := from_ + x.2.1 + x.2.2 } })
    (requests (maxRead s g) (objNum s 0xC001 3 + from_) (n - from_)) (serveWaits (portOf g) s)

/-- A waiting request as the use of a tag that it would be. -/
def TagWait.asUse (w : TagWait) : TagUse := ⟨0, w.fn, w.use, w.pasid, w.address, w.offset, w.bytes, [], 0, false, false⟩

/-- Put the tags that serve reads satisfying `p` into quarantine; their requests that wait for a tag are
abandoned (R465). -/
def quarantine (port : Port) (p : TagUse → Bool) (s : State) : State :=
  modPort port (fun x => { x with
    tags := x.tags.map fun t =>
      if p t && !t.quarantined then { t with quarantined := true, since := s.gtc } else t
    waits := x.waits.filter fun w => !p w.asUse }) s

/-- A tag whose read has timed out enters quarantine (R62, R465); an Invalidate Request waits for it no more (06,
R221). -/
def quarantineTag (port : Port) (t : ReqTag) (s : State) : State :=
  modPort port (fun x => { x with
    tags := x.tags.map fun u =>
      if u.tag == t then { u with quarantined := true, timedOut := true, since := s.gtc } else u
    atsHolds := x.atsHolds.map fun h => { h with waits := h.waits.filter (· != t) } }) s

/-- Completion Timeout in nanoseconds: the upper bound of the range that Completion Timeout Value
selects; an encoding outside ranges A to D acts as 0000b (R62, R45). The ranges are PRESUMED from the
base specification. -/
def completionTimeout (s : State) (g : Fun) : Nat :=
  match (getFn s g).cfg.devCtl2.toNat % 16 with
  | 1 => 100000
  | 2 => 10000000
  | 5 => 55000000
  | 6 => 210000000
  | 9 => 900000000
  | 10 => 3500000000
  | 13 => 13000000000
  | 14 => 64000000000
  | _ => 50000000

/-- The function has no outstanding request (R50, R65). -/
def noRequest (s : State) (g : Fun) : Bool :=
  !((getPort s (portOf g)).tags.any fun t => t.fn == g && !t.quarantined)

/-! ### ATS (06_translation, R219 to R221) -/

/-- The Smallest Translation Units that an access touches. -/
def atsUnits (s : State) (g : Fun) (a n : Nat) : List Nat :=
  let u := stuBytes s g
  if n = 0 then [] else (List.range ((a + n - 1) / u - a / u + 1)).map fun i => a / u * u + u * i

/-- The reads of one use that `hit` selects by their position bring data that nothing wants, if they are out, and are
not made, if they wait for a tag. -/
def staleReads (g : Fun) (c : CtxId) (use : ReadUse) (hit : Nat → Nat → Bool) (s : State) : State :=
  modPort (portOf g) (fun p => { p with
    tags := p.tags.map fun t =>
      if t.use == use && !t.quarantined && hit t.offset t.bytes then { t with use := .stale c } else t
    waits := p.waits.filter fun w => !(w.use == use && hit w.offset w.bytes) }) s

/-- The source bytes of a tile that `hit` selects by their position are read again: those at hand are dropped, and
reads that are out bring data that nothing wants (07, R234). -/
def dropReads (g : Fun) (c : CtxId) (q : Nat) (hit : Nat → Nat → Bool) (s : State) : State :=
  modCmd c q (fun x => { x with xfer := x.xfer.map fun y => { y with tile := y.tile.map fun t =>
      if t.begun then t else { t with pieces := t.pieces.filter fun p => !hit p.1 p.2.length } } })
    (staleReads g c (.tile c q) hit s)

/-- The positions `pos` to `pos + n` of a tile's source that lie in a host run and in a translation's unit. -/
def readThrough (unit : Nat) (e : AtsEntry) (r : Run) (pos n : Nat) : Bool :=
  match r.target with
  | .host a p =>
    let lo := max a e.address
    let hi := min (a + r.bytes) (e.address + unit)
    p == e.pasid && lo < hi && spansMeet (r.pos + (lo - a)) (hi - lo) pos n
  | _ => false

/-- A request that waits for a tag goes through a translation, whose unit has so many bytes. -/
def waitThrough (unit : Nat) (e : AtsEntry) (w : TagWait) : Bool :=
  w.pasid == some e.pasid && spansMeet e.address unit w.address w.bytes && (match w.use with
    | .ats _ _ => false
    | _ => true)

/-- The accesses of a function that wait for a tag give their places up: they are asked for again, with the
translations that ATS then gives (R219). -/
def dropWaits (g : Fun) (s : State) : State :=
  modPort (portOf g) (fun x => { x with waits := x.waits.filter fun w => !(w.fn == g && w.pasid.isSome) }) s

/-- Drop the translations of a port that a test selects. A read through one of them that still waits for a tag is
asked for again, under a new translation (R219). A tile whose delivery has not begun reads again what it read through
one of them (R221; 07, R234). -/
def forgetAts (p : Port) (hit : AtsEntry → Bool) (s : State) : State :=
  let gone := (getPort s p).ats.filter hit
  let s := modPort p (fun x => { x with
    ats := x.ats.filter fun e => !hit e
    waits := x.waits.filter fun w => !gone.any fun e => waitThrough (stuBytes s e.fn) e w }) s
  if gone.isEmpty then s
  else foldState (fun x s => match ctx? s x.ctx, x.xfer.bind (·.tile) with
    | some cx, some t =>
      if portOf cx.fn = p && !t.begun then
        dropReads cx.fn x.ctx x.q (fun pos n => gone.any fun e => t.src.any fun r =>
          readThrough (stuBytes s e.fn) e r pos n) s
      else s
    | _, _ => s) s.cmd.table s

/-- The units of an access for which no translation is held; none while ATS Enable is 0 (R219). -/
def atsMissing (s : State) (g : Fun) (pasid : BitVec 20) (a n : Nat) (write : Bool) : List Nat :=
  if (getFn s g).cfg.atsEnable then
    (atsUnits s g a n).filter fun u => (atsFind s g pasid u write).isNone
  else []

/-- Ask the host for the missing translations of an access; each request takes a tag of the function
(R219, R220). -/
def atsAsk (g : Fun) (pasid : BitVec 20) (us : List Nat) (s : State) : State :=
  foldState (fun u s =>
    let use := ReadUse.ats pasid u
    if (tagsOf s (portOf g) use).any (fun t => t.fn == g && t.bytes != 0) then s
    else requestTag ⟨g, use, some pasid, u, 0, 8⟩ s) us s

end Sys2Proof.Machine
end

