-- ==== Sys2Proof/Machine/Walk.lean ====
section
/-!
DEFINITION. Range tables, their walk and the range store (06_translation, R185 to R216).
-/
namespace Sys2Proof.Machine

/-! ### Handles (04_objects_lifecycle, R138, R139, R146) -/

/-- The live object that a handle names (R138, R139). -/
def liveObj (s : State) (h : Nat) : Option MemObj :=
  s.obj.objs.find? fun o => o.slot == h / 2 ^ 24 && o.gen == h % 2 ^ 24 && !o.freed

/-- The grant that a function holds on an object (R146). -/
def grantOf (o : MemObj) (g : Fun) : Option Rights :=
  (o.grants.find? fun x => x.1 == g).map (·.2)

/-! ### Range entries and nodes (R189 to R192) -/

/-- A range entry of a leaf (R191). -/
structure RangeEnt where
  ttype : Nat
  sharedRo : Bool
  coherent : Bool
  atomic : Bool
  write : Bool
  read : Bool
  start : Nat
  /-- length in granules -/
  len : Nat
  base : Nat
  aux : Nat
  /-- a reserved bit of the 32 bytes is not zero -/
  reserved : Bool
  deriving DecidableEq, Repr

/-- Range entry `i` of a node (R189, R191). -/
def rangeEnt (b : Bytes) (i : Nat) : RangeEnt :=
  let q0 := numAt b (64 + 32 * i) 8
  let q1 := numAt b (72 + 32 * i) 8
  { ttype := field q0 63 61, sharedRo := q0.testBit 60, coherent := q0.testBit 59,
    atomic := q0.testBit 58, write := q0.testBit 57, read := q0.testBit 56,
    start := field q0 44 0, len := field q1 35 0 + 1,
    base := numAt b (80 + 32 * i) 8, aux := numAt b (88 + 32 * i) 8,
    reserved := field q0 55 45 != 0 || field q1 63 36 != 0 }

/-- Start granule, child offset and whether the reserved fields are zero, of child entry `i` (R190). -/
def childEnt (b : Bytes) (i : Nat) : Nat × Nat × Bool :=
  let q0 := numAt b (64 + 32 * i) 8
  let q1 := numAt b (72 + 32 * i) 8
  (field q0 44 0, field q1 39 0,
    q0 >>> 45 == 0 && q1 >>> 40 == 0 && numAt b (80 + 32 * i) 16 == 0)

def nodeMagic (b : Bytes) : Nat := numAt b 0 2
def nodeLevel (b : Bytes) : Nat := numAt b 2 1
def nodeHeight (b : Bytes) : Nat := numAt b 3 1
def nodeCount (b : Bytes) : Nat := field (numAt b 4 1) 6 0
def nodeLeaf (b : Bytes) : Bool := (numAt b 4 1).testBit 7
def nodeLow (b : Bytes) : Nat := field (qwordAt b 1) 44 0
def nodeHigh (b : Bytes) : Nat := field (qwordAt b 2) 45 0
def nodeRedirect (b : Bytes) : Nat := field (qwordAt b 3) 39 0

/-- Reserved fields of a node's header are zero (R189). -/
def headerClean (b : Bytes) : Bool :=
  numAt b 5 3 == 0 && qwordAt b 1 >>> 45 == 0 && qwordAt b 2 >>> 46 == 0 &&
    qwordAt b 3 >>> 40 == 0 && nodeRedirect b % 4096 == 0 && (sliceBytes b 32 32).all (· == 0)

/-- Child entries: starts rise strictly from LowGranule and lie below HighGranule, offsets are aligned and
inside the object (R196). -/
def childrenOk (b : Bytes) (size low high : Nat) : Bool :=
  let n := nodeCount b
  (List.range n).all fun i =>
    let (st, off, clean) := childEnt b i
    clean && off % 4096 == 0 && off < size && st < high &&
      (if i = 0 then st == low else (childEnt b (i - 1)).1 < st)

/-- Permissions and target fields of a range entry (R196). -/
def rangeFieldsOk (r : RangeEnt) : Bool :=
  !r.reserved && r.ttype ≤ 4 &&
  (!r.coherent || r.ttype == 1 || r.ttype == 4) &&
  (!r.sharedRo || (r.read && !r.write && !r.atomic)) &&
  (match r.ttype with
    | 0 => !r.sharedRo && !r.coherent && !r.atomic && !r.write && !r.read && r.base == 0 && r.aux == 0
    | 1 => r.base % 4096 == 0 && r.aux == 0
    | 2 => r.base % 4096 == 0 && r.aux >>> 21 == 0
    | 3 => r.base % 4096 == 0 && r.aux == 0
    | _ => r.base % 4096 == 0)

/-- Range entries: in order, without overlap, ending inside the cover, each well-formed (R196). -/
def rangesOk (b : Bytes) (high : Nat) : Bool :=
  let n := nodeCount b
  (List.range n).all fun i =>
    let r := rangeEnt b i
    rangeFieldsOk r && r.start + r.len ≤ high &&
      (i = 0 || (let p := rangeEnt b (i - 1); p.start < r.start && p.start + p.len ≤ r.start))

/-- The checks of R196 on a node read as part of the tree. `height` is the root's Height, none for the
root itself; `anchor` says that the node is the anchor. -/
def nodeOk (b : Bytes) (anchor : Bool) (level low high size : Nat) (height : Option Nat) : Bool :=
  let h := nodeHeight b
  nodeMagic b == 0x4E46 && nodeLevel b == level && 1 ≤ h && h ≤ 4 &&
  (match height with | some k => k == h | none => true) &&
  nodeLeaf b == (level + 1 == h) && headerClean b && (anchor || nodeRedirect b == 0) &&
  nodeLow b == low && nodeHigh b == high &&
  (1 ≤ nodeCount b || (level == 0 && nodeLeaf b)) && nodeCount b ≤ 126 &&
  (if nodeLeaf b then rangesOk b high else childrenOk b size low high)

/-- The checks of R196 on an anchor whose RootRedirect is not 0. -/
def redirectOk (b : Bytes) (anchorOff size : Nat) : Bool :=
  nodeMagic b == 0x4E46 && headerClean b && nodeRedirect b < size && nodeRedirect b != anchorOff

/-! ### Reading and searching a table -/

/-- Where a walk finds a table: the object's pool base and bytes, and the root offset. -/
structure TableAt where
  base : Nat
  bytes : Nat
  root : Nat
  deriving DecidableEq, Repr

/-- What a walk has come to: its node reads, whether it met a malformed node, the address of a node whose
lines are held by processor dies with the walk's place and the node's offset, and its result. -/
structure WalkOut (α : Type) where
  reads : Nat
  malformed : Bool
  gate : Option (Nat × WalkAt × Nat)
  result : Except TOut α

/-- Read a node: its bytes, or why there are none (R200). -/
def readNode (s : State) (t : TableAt) (off : Nat) : Except TOut Bytes :=
  if poisoned s (t.base + off) 4096 then .error .poisoned
  else if gated s (t.base + off) 4096 false none then .error .wait
  else .ok (poolBytes s (t.base + off) 4096)

/-- A walk stops at the node at `off`, where its place is `at_`. -/
def walkStop {α : Type} (s : State) (t : TableAt) (at_ : WalkAt) (off reads : Nat) (e : TOut) : WalkOut α :=
  ⟨reads, false, if gated s (t.base + off) 4096 false none then some (t.base + off, at_, off) else none, .error e⟩

def walkMalformed {α : Type} (reads : Nat) : WalkOut α := ⟨reads, true, none, .error (.fault .tableMalformed)⟩

/-- The range of a leaf that covers a granule (R203). -/
def leafRange (b : Bytes) (g : Nat) : Option RangeEnt :=
  ((List.range (nodeCount b)).map (rangeEnt b)).find? fun r => r.start ≤ g && g < r.start + r.len

/-- The child whose cover holds a granule: its offset, and the cover's bounds (R190, R203). -/
def childFor (b : Bytes) (g high : Nat) : Nat × Nat × Nat :=
  let n := nodeCount b
  let i := (((List.range n).filter fun i => (childEnt b i).1 ≤ g).getLast?).getD 0
  ((childEnt b i).2.1, (childEnt b i).1, if i + 1 < n then (childEnt b (i + 1)).1 else high)

/-- Descend from a checked node (R203). -/
def descend (s : State) (t : TableAt) (g h : Nat) : Nat → Bytes → Nat → Nat → Nat → WalkOut RangeEnt
  | 0, _, _, _, reads => walkMalformed reads
  | fuel + 1, b, level, high, reads =>
    if nodeLeaf b then
      match leafRange b g with
      | some r => ⟨reads, false, none, .ok r⟩
      | none => ⟨reads, false, none, .error (.fault .unmapped)⟩
    else
      let (off, lo, hi) := childFor b g high
      match readNode s t off with
      | .error e => walkStop s t (.node (level + 1) h lo hi) off reads e
      | .ok c =>
        if nodeOk c false (level + 1) lo hi t.bytes (some h) then
          descend s t g h fuel c (level + 1) hi (reads + 1)
        else walkMalformed (reads + 1)

/-- The walk of R203 to the range that covers a granule. -/
def walkTable (s : State) (t : TableAt) (g : Nat) : WalkOut RangeEnt :=
  match readNode s t t.root with
  | .error e => walkStop s t .anchor t.root 0 e
  | .ok a =>
    if nodeRedirect a = 0 then
      if nodeOk a true 0 0 (2 ^ 45) t.bytes none then
        descend s t g (nodeHeight a) 5 a 0 (2 ^ 45) 1
      else walkMalformed 1
    else if redirectOk a t.root t.bytes then
      match readNode s t (nodeRedirect a) with
      | .error e => walkStop s t .root (nodeRedirect a) 1 e
      | .ok b =>
        if nodeOk b false 0 0 (2 ^ 45) t.bytes none then
          descend s t g (nodeHeight b) 5 b 0 (2 ^ 45) 2
        else walkMalformed 2
    else walkMalformed 1

/-! ### Whose table (R185, R259) -/

/-- The owner of a translation: its function, table, PASID, whether it is a fixed-schedule context, and a
window's permission set. -/
structure Asker where
  fn : Fun
  table : U64
  root : Nat
  pasid : BitVec 20
  fixed : Bool
  window : Option (Bool × Bool × Bool)
  deriving DecidableEq, Repr

def win? (s : State) (w : WindowId) : Option Win := (s.win.table.find? fun e => e.1 == w).map (·.2)

def asker (s : State) (who : Who) : Option Asker :=
  match who with
  | .ctx c => (ctx? s c).map fun x => ⟨x.fn, x.rangeTable, x.rootOffset, x.pasid, x.fixed.isSome, none⟩
  | .win w => (win? s w).map fun x =>
      ⟨x.owner, x.table, x.root, 0, false, some (x.read, x.write, x.atomic)⟩

/-- Placement of the range table of an asker: the context record holds it from creation on (R187). -/
def tableAt (s : State) (a : Asker) : Option TableAt :=
  (s.obj.objs.find? fun o => objHandle o == a.table).map fun o => ⟨o.base, o.bytes, a.root⟩

/-- Bank of the range store for an asker (R201, R259). -/
def bankOf (s : State) (who : Who) : Nat :=
  match who with
  | .ctx c => c.toNat % max 1 s.trans.bankCount
  | .win w => w.toNat % max 1 s.trans.bankCount

/-! ### Target checks (R194, R195, R198, R204) -/

/-- Extent of a function: base and bytes (R195). -/
def extentOf (s : State) (g : Fun) : Nat × Nat :=
  match s.pool.extents.find? fun e => e.fn == g.val with
  | some e => (e.base, e.bytes)
  | none => (0, 0)

/-- Effective permissions of an OBJECT target for a function: READ, WRITE, ATOMIC; none when the function
has no right (R198, R204). -/
def objRights (o : MemObj) (g : Fun) : Option (Bool × Bool × Bool) :=
  let base :=
    if o.owner == g then some (true, true, true)
    else match grantOf o g with
      | some .read => some (true, false, false)
      | some .readWrite => some (true, true, true)
      | some .signal => some (true, false, true)
      | none => none
  if o.fence then base.map fun x => (x.1, false, x.2.2) else base

/-- The range-store entry that a range gives, or the fault of its target (R204). -/
def checkTarget (s : State) (who : Who) (a : Asker) (r : RangeEnt) : Except TOut REntry :=
  let bytes := 4096 * r.len
  let e : REntry :=
    { id := s.trans.nextEntry, who := who, start := r.start, len := r.len, ttype := r.ttype,
      sharedRo := r.sharedRo, coherent := r.coherent, table := a.table, root := a.root, base := r.base,
      pasid := if r.aux.testBit 20 then BitVec.ofNat 20 r.aux else a.pasid,
      object := none, viaGrant := none, fenceObj := false, effR := r.read, effW := r.write,
      effA := r.atomic, referenced := true, locked := false }
  match r.ttype with
  | 0 => .ok { e with effR := false, effW := false, effA := false }
  | 1 =>
    let (xb, xn) := extentOf s a.fn
    if xn < r.base + bytes then .error (.fault .targetOutOfBounds)
    else .ok { e with base := xb + r.base }
  | 2 =>
    if a.window.isSome then .ok e
    else if 2 ^ 64 < r.base + bytes then .error (.fault .targetOutOfBounds)
    else if !(getFn s a.fn).cfg.pasidEnable then .error (.fault .pasidDisabled)
    else .ok { e with effA := false }
  | 3 =>
    if a.window.isNone && 2 ^ 36 < r.base % 2 ^ 36 + bytes then .error (.fault .targetOutOfBounds) else .ok e
  | _ =>
    match liveObj s r.aux with
    | none => .error (.fault .staleTarget)
    | some o =>
      match objRights o a.fn with
      | none => .error (.fault .noTargetRight)
      | some (er, ew, ea) =>
        if o.bytes < r.base + bytes then .error (.fault .targetOutOfBounds)
        else .ok { e with
          base := o.base + r.base, object := some o.slot,
          viaGrant := if o.owner == a.fn then none else some a.fn, fenceObj := o.fence,
          effR := r.read && er, effW := r.write && ew, effA := r.atomic && ea }

/-! ### The range store (R201, R202, R210) -/

def setBank (b : Nat) (l : List REntry) (s : State) : State :=
  { s with trans := { s.trans with banks := s.trans.banks.set b l } }

def getBank (s : State) (b : Nat) : List REntry := s.trans.banks.getD b []

/-- Whether a lookup of an asker hits an entry for a granule (R201, R259). A fixed-schedule context sees
locked entries only (R211). -/
def entryHits (who : Who) (a : Asker) (g : Nat) (e : REntry) : Bool :=
  e.start ≤ g && g < e.start + e.len && (!a.fixed || e.locked) &&
    (e.who == who ||
      match who, e.who with
      | .ctx _, .ctx _ => e.sharedRo && e.table == a.table && e.root == a.root
      | _, _ => false)

def storeLookup (s : State) (who : Who) (a : Asker) (g : Nat) : Option REntry :=
  (getBank s (bankOf s who)).find? (entryHits who a g)

/-- Whether a lease is live on an entry. -/
def leased (s : State) (e : REntry) : Bool := s.trans.leases.any fun l => l.entry == e.id

/-- Revoke the leases that a test selects, for an owner; one that is being revoked already has one more
owner that waits for its end (R218). -/
def revokeWhere (hit : Lease → Bool) (owner : ScanOwner) (s : State) : State :=
  let fresh := s.trans.leases.filter fun l => hit l && l.revoking.isEmpty
  let s := { s with trans := { s.trans with
    leases := s.trans.leases.map fun l =>
      if hit l && !l.revoking.contains owner then { l with revoking := l.revoking ++ [owner] } else l } }
  foldState (fun l s => countPackage 0x0A (emit (.leaseRevoke l.cluster l.slot) s)) fresh s

/-- An entry that a walk in flight waits to replace (R210). -/
def claimed (s : State) (e : REntry) : Bool :=
  s.trans.walks.any fun w => match w.place with
    | .install _ v => v == e.id
    | _ => false

/-- The entry whose leases must end before a bank takes another: none while the bank has room, or an unlocked
entry without leases (R210). Which leased entry the sweep picks is a DESIGN CHOICE: the first from the clock
hand that no other walk waits for. -/
def mustRevoke (s : State) (b : Nat) : Option Nat :=
  let l := getBank s b
  if l.length < 32768 || l.any (fun x => !x.locked && !leased s x) then none
  else ((l.find? fun x => !x.locked && !claimed s x).orElse fun _ => l.find? fun x => !x.locked).map (·.id)

/-- Install an entry into a bank that has room, or over the entry that the clock sweep finds (R210); with
neither, nothing is installed (see `mustRevoke`). A new entry's referenced bit starts set: DESIGN CHOICE. -/
def install (e : REntry) (s : State) : State :=
  let b := bankOf s e.who
  let l := getBank s b
  let e := { e with id := s.trans.nextEntry }
  let s := { s with trans := { s.trans with nextEntry := s.trans.nextEntry + 1 } }
  if l.length < 32768 then setBank b (l ++ [e]) s
  else
    let free (x : REntry) : Bool := !x.locked && !leased s x
    let clear (x : REntry) : REntry := { x with referenced := false }
    match l.findIdx? fun x => free x && !x.referenced with
    | some i => setBank b (l.drop (i + 1) ++ (l.take i).map clear ++ [e]) s
    | none =>
      match l.findIdx? free with
      | some i => setBank b ((l.drop (i + 1)).map clear ++ (l.take i).map clear ++ [e]) s
      | none => s

/-- Install an entry over the one whose leases have ended; where that one has gone meanwhile, as any other
(R210). -/
def installOver (e : REntry) (victim : Nat) (s : State) : State :=
  let b := bankOf s e.who
  let l := getBank s b
  match l.findIdx? fun x => x.id == victim with
  | some i =>
    let e := { e with id := s.trans.nextEntry }
    setBank b (l.drop (i + 1) ++ l.take i ++ [e])
      { s with trans := { s.trans with nextEntry := s.trans.nextEntry + 1 } }
  | none => install e s

/-- Mark an entry as referenced. -/
def touchEntry (b : Nat) (id : Nat) (s : State) : State :=
  setBank b ((getBank s b).map fun e => if e.id == id then { e with referenced := true } else e) s

/-! ### Translation (R199, R203) -/

/-- The fault code when a permission is missing. -/
def lacking : Need → TCode
  | .read => .noRead
  | .write => .noWrite
  | .atomic => .noAtomic

def allows (e : REntry) : Need → Bool
  | .read => e.effR
  | .write => e.effW
  | .atomic => e.effA

/-- Permissions of an entry for an asker: a window's set is intersected (R259). -/
def allowsFor (a : Asker) (e : REntry) (n : Need) : Bool :=
  allows e n && (match a.window with
    | none => true
    | some (r, w, x) => match n with | .read => r | .write => w | .atomic => x)

/-- A function's extent is being scrubbed (13_security_attestation, R411). -/
def extentScrub (s : State) (g : Fun) : Bool :=
  s.pool.scrubs.any fun x => x.extent && x.owner == some g

/-- The fault of a fixed-schedule context's lookup that no locked entry covers: that of the drop, else
UNMAPPED (R211, R212). -/
def fixedMiss (s : State) (who : Who) (g : Nat) : TCode :=
  match who with
  | .ctx c => match (ctx? s c).bind (·.fixed) with
    | some f => match f.gone.find? fun x => x.1 ≤ g && g < x.1 + x.2.1 with
      | some x => x.2.2
      | none => .unmapped
    | none => .unmapped
  | .win _ => .unmapped

/-- The verdict on an entry that covers an address (R203, R259, R289). A HOST or WINDOW range of a window's
table is left to the receiver, which denies it whatever its permissions. Every HOST access faults while PASID
Enable is 0, by an entry installed before too (02, R47). A POOL target waits while its function's extent is being
scrubbed (13, R411). -/
def entryVerdict (s : State) (a : Asker) (e : REntry) (va : Nat) (need : Need) : Except TOut REntry :=
  if e.ttype = 0 then .error (.fault .faultRange)
  else if a.window.isSome && (e.ttype == 2 || e.ttype == 3) then .ok e
  else if e.ttype = 2 && !(getFn s a.fn).cfg.pasidEnable then .error (.fault .pasidDisabled)
  else if !allowsFor a e need then .error (.fault (lacking need))
  else if e.ttype = 1 && extentScrub s a.fn then .error .wait
  else if e.ttype = 1 && touchesFault s (e.base + (va - 4096 * e.start)) 1 then
    .error (.fault .faultRange)
  else .ok e

/-- Walker groups: the group that a bank's misses go to is the bank's own, else the next enabled one modulo 8
(R206). -/
def groupOf (s : State) (b : Nat) : Nat :=
  match (List.range 8).find? fun i => (objNum s 0x3000 3).testBit ((b + i) % 8) with
  | some i => (b + i) % 8
  | none => b

/-- Walks of a group: 512 in flight, then up to 4,096 queued misses (R206). -/
def groupWalks (s : State) (k : Nat) : List Walk := s.trans.walks.filter fun w => w.group == k

/-- A group takes no further miss (R206). -/
def groupFull (s : State) (k : Nat) : Bool := 512 + 4096 ≤ (groupWalks s k).length

/-- The walk in flight of an asker for a granule (R206). -/
def walkFor (who : Who) (g : Nat) (w : Walk) : Bool := w.who == who && w.granule == g

/-- A miss joins the walk in flight of its asker and granule (R206); `edge` says that its answer goes out at the
edge. A miss that has joined already is not counted again. -/
def joinWalk (who : Who) (va : Nat) (need : Need) (edge : Bool) (s : State) : State :=
  let here (w : Walk) : Bool := walkFor who (va / 4096) w
  if !edge && s.trans.walks.any fun w => here w && w.waiters.contains (va, need, false) then s
  else countPackage 0x06 { s with trans := { s.trans with
    walks := s.trans.walks.map fun w =>
      if here w then { w with waiters := w.waiters ++ [(va, need, edge)] } else w } }

/-- A walk in flight that has come to a place. -/
def putWalk (who : Who) (va : Nat) (need : Need) (edge : Bool) (place : WalkAt) (offset : Nat) (s : State) : State :=
  { s with trans := { s.trans with
    walks := s.trans.walks ++
      [⟨s.trans.nextWalk, who, va / 4096, groupOf s (bankOf s who), place, offset, false, [(va, need, edge)]⟩]
    nextWalk := s.trans.nextWalk + 1 } }

/-- Capture fields of a walk: the first walker of the bank's group, a DESIGN CHOICE (12, R380). -/
def walkInfo (s : State) (who : Who) : ErrInfo :=
  let c := match who with
    | .ctx c => some c
    | .win _ => none
  { kind := 3, unit := 32 * groupOf s (bankOf s who), fn := (c.bind (ctx? s)).map (·.fn), ctx := c, access := 5 }

/-- The counters of a walk, and the snoops of a node held by processor dies (R196, R203). -/
def countWalk {α : Type} (i : ErrInfo) (w : WalkOut α) (s : State) : State :=
  let s := foldState (fun _ s => countPackage 0x07 s) (List.range w.reads) s
  let s := if w.malformed then countPackage 0x08 s else s
  match w.gate with
  | some x => gateSnoops i x.1 4096 false none s
  | none => s

/-- Every unlocked entry of a bank carries leases: the clock sweep has passed them all and cleared their referenced
bits, and the leases of the one that it picks are revoked (R210). -/
def beginReplace (b victim : Nat) (s : State) : State :=
  revokeWhere (fun l => l.entry == victim) .replace
    (setBank b ((getBank s b).map fun x => { x with referenced := false }) s)

/-- A walk run at once. One that comes to a node held by processor dies stays in flight until the dies have answered,
and goes on from there (R205, R206; 08, R280). Where the bank's unlocked entries all carry leases, those of one are
revoked, and the walk waits for their end (R203, R210). -/
def walkCounted (who : Who) (a : Asker) (va : Nat) (need : Need) (s : State) : State × Except TOut REntry :=
  match tableAt s a with
  | none => (s, .error (.fault .tableMalformed))
  | some t =>
    let w := walkTable s t (va / 4096)
    let s := countWalk (walkInfo s who) w s
    match w.result, w.gate with
    | .error .wait, some (_, at_, off) => (putWalk who va need false at_ off s, .error .wait)
    | .error e, _ => (s, .error e)
    | .ok r, _ =>
      match checkTarget s who a r with
      | .error e => (s, .error e)
      | .ok e =>
        match mustRevoke s (bankOf s who) with
        | none => (install e s, .ok e)
        | some v => (beginReplace (bankOf s who) v (putWalk who va need false (.install e v) t.root s), .error .wait)

/-- A walk's outcome is that of a miss. -/
def isAnswer (who : Who) (va : Nat) (need : Need) (x : Who × Nat × Need × TOut × U64) : Bool :=
  x.1 == who && x.2.1 == va && x.2.2.1 == need

/-- The outcome that a walk has left for a miss that joined it: that of a walk which has ended at this count, as absence
is not cached (R202, R206). -/
def answerFor (who : Who) (va : Nat) (need : Need) (s : State) : Option TOut :=
  (s.trans.answers.find? fun x => isAnswer who va need x && x.2.2.2.2 == s.gtc).map (·.2.2.2.1)

/-- The outcomes left for a miss are gone: it has come back, or they are of an earlier count (R202, R206). -/
def dropAnswers (who : Who) (va : Nat) (need : Need) (s : State) : State :=
  { s with trans := { s.trans with
    answers := s.trans.answers.filter fun x => !isAnswer who va need x && x.2.2.2.2 == s.gtc } }

/-- A miss: it takes the outcome of the walk that it joined, joins a walk in flight, waits while its group's
queue is full, or walks (R206). -/
def missAt (who : Who) (a : Asker) (va : Nat) (need : Need) (s : State) : State × Except TOut REntry :=
  match answerFor who va need s with
  | some e => (dropAnswers who va need s, .error e)
  | none =>
    if s.trans.walks.any (walkFor who (va / 4096)) then (joinWalk who va need false s, .error .wait)
    else if groupFull s (groupOf s (bankOf s who)) then (s, .error .wait)
    else walkCounted who a va need (countPackage 0x06 s)

/-- Count a translation fault of an asker's function (R199). -/
def countFault {α : Type} (a : Asker) (r : Except TOut α) (s : State) : State :=
  match r with
  | .error (.fault _) => countFn a.fn 0x08 s
  | _ => s

/-- Whether an asker's context is being aborted (R222). -/
def askerAborting (s : State) (who : Who) : Bool :=
  match who with
  | .ctx c => match ctx? s c with | some x => x.state == .aborting | none => true
  | .win _ => false

/-- translate of R203: the entry that covers an address with the permission that the access needs; a fault is not
counted yet. -/
def resolveAt (who : Who) (va : Nat) (need : Need) (s : State) : State × Except TOut REntry :=
  match asker s who with
  | none => (s, .error .aborting)
  | some a =>
    if askerAborting s who then (s, .error .aborting)
    else
      let g := va / 4096
      let (s, e) : State × Except TOut REntry :=
        match storeLookup s who a g with
        | some e => (countPackage 0x05 (touchEntry (bankOf s who) e.id (dropAnswers who va need s)), Except.ok e)
        | none =>
          if a.fixed then (countPackage 0x06 s, .error (.fault (fixedMiss s who g))) else missAt who a va need s
      let v : Except TOut REntry := match e with
        | .error x => .error x
        | .ok e => entryVerdict s a e va need
      (s, v)

/-- translate of R203, with its fault counted (R199). -/
def translate (who : Who) (va : Nat) (need : Need) (s : State) : State × Except TOut REntry :=
  let r := resolveAt who va need s
  (match asker s who with
    | some a => countFault a r.2 r.1
    | none => r.1, r.2)

/-- The resolved target of an address under an entry (R192). -/
def targetOf (e : REntry) (va : Nat) : Target :=
  let d := va - 4096 * e.start
  match e.ttype with
  | 2 => .host (e.base + d) e.pasid
  | 3 => .window (BitVec.ofNat 12 (e.base >>> 52)) (BitVec.ofNat 16 (e.base >>> 36))
      (e.base % 2 ^ 36 + d)
  | _ => .pool (e.base + d)

/-- The part of a span that one entry covers, as a run. -/
def runOf (e : REntry) (pos va n : Nat) : Run :=
  ⟨pos, va, min n (4096 * (e.start + e.len) - va), targetOf e va, e.object, e.id⟩

/-- The first address of a POOL run that a FAULT region holds (09, R289). -/
def runBarred (s : State) (e : REntry) (r : Run) : Option Nat :=
  match r.target with
  | .pool x =>
    if e.ttype = 1 && touchesFault s x r.bytes then
      let bad := ((s.pool.regions.filter fun q =>
        q.kind == .fault && spansMeet q.base q.bytes x r.bytes).map fun q => max q.base x)
      some (r.va + ((bad.foldl min (x + r.bytes)) - x))
    else none
  | _ => none

/-- Translate a contiguous span, looking up once for every range it touches (07, R232): its runs up to what
stops it, and that with its address. -/
def translateSpan (who : Who) (need : Need) : Nat → Nat → Nat → Nat → State →
    State × List Run × Option (TOut × Nat)
  | 0, _, _, _, s => (s, [], none)
  | fuel + 1, pos, va, n, s =>
    if n = 0 then (s, [], none)
    else
      match resolveAt who va need s with
      | (s, .error e) => (s, [], some (e, va))
      | (s, .ok e) =>
        let r := runOf e pos va n
        match runBarred s e r with
        | some bad =>
          (s, if bad = va then [] else [{ r with bytes := bad - va }], some (TOut.fault TCode.faultRange, bad))
        | none =>
          match translateSpan who need fuel (pos + r.bytes) (va + r.bytes) (n - r.bytes) s with
          | (s, rs, e) => (s, r :: rs, e)

/-- Translate spans in order (position, address, bytes): their runs up to what stops them, and that with its
address. A fault is not counted here. -/
def translateSpans (who : Who) (need : Need) : List (Nat × Nat × Nat) → State →
    State × List Run × Option (TOut × Nat)
  | [], s => (s, [], none)
  | r :: rs, s =>
    match translateSpan who need (r.2.2 / 4096 + 2) r.1 r.2.1 r.2.2 s with
    | (s, a, some e) => (s, a, some e)
    | (s, a, none) =>
      match translateSpans who need rs s with
      | (s, b, e) => (s, a ++ b, e)

/-- Translate spans, with a fault counted (R199): their runs, or what stopped them and its address. -/
def translateSide (who : Who) (need : Need) (spans : List (Nat × Nat × Nat)) (s : State) :
    State × Except (TOut × Nat) (List Run) :=
  match translateSpans who need spans s with
  | (s, rs, none) => (s, .ok rs)
  | (s, _, some e) => (match asker s who with
    | some a => countFault a (.error e.1 : Except TOut Unit) s
    | none => s, .error e)

/-- Translate a span of `n` bytes. -/
def spanRuns (who : Who) (need : Need) (pos va n : Nat) (s : State) :
    State × Except (TOut × Nat) (List Run) := translateSide who need [(pos, va, n)] s

/-! ### Dropping entries (R215, R216) -/

/-- Whether a scan drops an entry (R215, R216). -/
def scanDrops (s : State) (what : ScanFor) (e : REntry) : Bool :=
  match what with
  | .span c wide first last =>
    !e.locked && e.start ≤ last && first < e.start + e.len &&
      (match ctx? s c with
        | none => false
        | some x =>
          (e.table == x.rangeTable && e.root == x.rootOffset && (wide || e.sharedRo)) ||
            e.who == .ctx c) &&
      (match e.who with | .ctx _ => true | .win _ => false)
  | .object slot g => e.object == some slot && (g.isNone || e.viaGrant == g)
  | .context c => e.who == .ctx c
  | .window w => e.who == .win w && !e.locked

/-- Remember the span of a locked entry that a FREE_OBJECT or a REVOKE_GRANT drops (R212). -/
def noteGone (what : ScanFor) (e : REntry) (s : State) : State :=
  match what, e.who with
  | .object _ g, .ctx c =>
    if e.locked then
      modCtx c (fun x => { x with
        fixed := x.fixed.map fun f =>
          { f with
            gone := (e.start, e.len, if g.isSome then TCode.noTargetRight else TCode.staleTarget)
              :: f.gone } }) s
    else s
  | _, _ => s

/-- Whether a walk in flight becomes stale under a scan (R215, step 1). -/
def walkStale (s : State) (what : ScanFor) (w : Walk) : Bool :=
  match what, w.who with
  | .span c wide _ _, .ctx d =>
    d == c || (wide && match ctx? s c, ctx? s d with
      | some x, some y => x.rangeTable == y.rangeTable && x.rootOffset == y.rootOffset
      | _, _ => false)
  | .context c, .ctx d => c == d
  | .window x, .win y => x == y
  | .object _ _, _ => true
  | _, _ => false

/-- Start a scan of banks: earlier walks of the affected askers become stale (R215, R216). -/
def startScan (banks : List Nat) (what : ScanFor) (owner : ScanOwner) (s : State) : State :=
  { s with trans := { s.trans with
    walks := s.trans.walks.map fun w => if walkStale s what w then { w with stale := true } else w
    scans := s.trans.scans ++ banks.map fun b => ⟨b, what, owner⟩ } }

/-- The banks in use (R201, R223). -/
def banksInUse (s : State) : List Nat := List.range s.trans.bankCount

/-- A tile is still in delivery. -/
def inDelivery (s : State) (c : CtxId) (q index : Nat) : Bool :=
  s.cmd.table.any fun x => x.ctx == c && x.q == q && (x.xfer.bind (·.tile)).any fun t => t.begun && t.index == index

/-- The tiles in delivery that a drop has to let finish: those that use an entry dropped now, and those of the
object, function or span that use one dropped before (R215, step 4; 04, R143, R146). -/
def heldTiles (s : State) (b : Nat) (what : ScanFor) (gone : List Nat) : List (CtxId × Nat × Nat) :=
  let here (e : Nat) : Bool := s.trans.banks.any fun l => l.any fun y => y.id == e
  s.cmd.table.filterMap fun x => match x.xfer.bind (·.tile), ctx? s x.ctx with
    | some t, some cx =>
      let uses (r : Run) : Bool := gone.contains r.entry || (match what with
        | .object slot g => r.object == some slot && (g.isNone || g == some cx.fn)
        | .span c wide first last =>
          (x.ctx == c || (wide && match ctx? s c with
            | some y => y.rangeTable == cx.rangeTable && y.rootOffset == cx.rootOffset
            | none => false)) && r.va / 4096 ≤ last && 4096 * first < r.va + r.bytes && !here r.entry
        | _ => false)
      if t.begun && bankOf s (.ctx x.ctx) == b && (t.src ++ t.dst).any uses then some (x.ctx, x.q, t.index) else none
    | _, _ => none

/-- Drop from one bank the entries that a scan selects, and revoke the leases on them, those on an entry of that
kind dropped before among them (R215). -/
def scanBank (b : Nat) (what : ScanFor) (owner : ScanOwner) (s : State) : State :=
  let l := getBank s b
  let gone := l.filter (scanDrops s what)
  let hit (x : Lease) : Bool := bankOf s x.ent.who == b && scanDrops s what x.ent
  let tiles := (heldTiles s b what (gone.map (·.id))).map fun x => (owner, x)
  let s := { s with trans := { s.trans with
    tileHolds := (s.trans.tileHolds.filter fun h => inDelivery s h.2.1 h.2.2.1 h.2.2.2) ++ tiles } }
  foldState (noteGone what) gone
    (revokeWhere hit owner (setBank b (l.filter fun e => !scanDrops s what e) s))

/-- Nothing of an owner's scans, revocations and tiles in delivery is left (R215, R216). -/
def scanOver (s : State) (owner : ScanOwner) : Bool :=
  !(s.trans.scans.any fun x => x.owner == owner) &&
    !(s.trans.leases.any fun l => l.revoking.contains owner) &&
    !(s.trans.tileHolds.any fun h => h.1 == owner && inDelivery s h.2.1 h.2.2.1 h.2.2.2)

end Sys2Proof.Machine
end

