-- ==== Sys2Proof/Machine/Operands.lean ====
section
/-!
DEFINITION. Every operand form: the command header and its fence references, the command bodies and the
tensor descriptor (05_command_path, R165 to R171; 07_transfers_faults, R225 to R230), with the checks of
decode.
-/
namespace Sys2Proof.Machine

/-! ### Header (05, R165) -/

def hdrOpcode (b : Bytes) : Nat := numAt b 0 2
def hdrFlags (b : Bytes) : Nat := numAt b 2 2
def hdrReport (b : Bytes) : Bool := (hdrFlags b).testBit 0
def hdrBarrier (b : Bytes) : Bool := (hdrFlags b).testBit 1
def hdrOpFlags (b : Bytes) : Nat := numAt b 3 1
def hdrLength (b : Bytes) : Nat := numAt b 5 1
def hdrWaits (b : Bytes) : Nat := field (numAt b 6 1) 3 0
def hdrSignals (b : Bytes) : Nat := field (numAt b 6 1) 7 4
def hdrEntries (b : Bytes) : Nat := field (numAt b 7 1) 3 0
def hdrData (b : Bytes) : Nat := qwordAt b 1

/-- EntryCount when it is 1 to 8; a first entry with another count is taken as one entry (R162). -/
def takenEntries (b : Bytes) : Nat :=
  if 1 ≤ hdrEntries b && hdrEntries b ≤ 8 then hdrEntries b else 1

/-- A fence reference (05, R166). -/
structure FenceRef where
  handle : Nat
  word : Nat
  value : Nat
  reserved : Bool
  deriving DecidableEq, Repr

/-- Fence reference `i` of a command: the waits come first (R166). -/
def fenceRef (b : Bytes) (i : Nat) : FenceRef :=
  let q1 := qwordAt b (3 + 3 * i)
  { handle := qwordAt b (2 + 3 * i), word := field q1 22 0, value := qwordAt b (4 + 3 * i),
    reserved := q1 >>> 23 != 0 }

def waitRefs (b : Bytes) : List FenceRef := (List.range (hdrWaits b)).map (fenceRef b)
def signalRefs (b : Bytes) : List FenceRef :=
  (List.range (hdrSignals b)).map fun i => fenceRef b (hdrWaits b + i)

/-! ### Opcodes (05, R168) -/

/-- Body length of an opcode, none for an opcode that is not in the table (R168). -/
def bodyBytes : Nat → Option Nat
  | 0x0001 => some 0
  | 0x0002 => some 16
  | 0x0003 => some 8
  | 0x0010 => some 128
  | 0x0011 => some 128
  | 0x0012 => some 24
  | 0x0020 => some 64
  | 0x0030 => some 16
  | 0x0031 => some 16
  | 0x0040 => some 16
  | 0x0050 => some 24
  | _ => none

/-- Whether an opcode moves data and so takes a stream tag (R177). -/
def takesTag (op : Nat) : Bool :=
  op == 0x0010 || op == 0x0011 || op == 0x0012 || op == 0x0020 || op == 0x0050

/-- OpFlags bits that an opcode defines (R170, R215, R332). -/
def opFlagsOf (op : Nat) : Nat :=
  if op = 0x0011 then 0xFF else if op = 0x0040 then 0x01 else if op = 0x0050 then 0x07 else 0

/-- Qword `i` of the body. -/
def bodyQ (b : Bytes) (i : Nat) : Nat := qwordAt b (hdrLength b + i)

/-! ### Descriptor (07, R225) -/

/-- A tensor descriptor, or a FILL in the same terms (07, R225, R230). -/
structure Desc where
  elem : Nat
  dims : Nat
  src : Nat
  dst : Nat
  size : List Nat
  srcStride : List Nat
  dstStride : List Nat
  tile : List Nat
  digest : Bool
  window : Nat
  credit : Nat
  reserved : Bool
  deriving DecidableEq, Repr

/-- The descriptor of a COPY_TENSOR or REDUCE_TENSOR body (R225). -/
def descOf (b : Bytes) : Desc :=
  let q := bodyQ b
  { elem := field (q 4) 35 32 + 1, dims := field (q 4) 38 36, src := field (q 0) 56 0,
    dst := field (q 1) 56 0,
    size := [field (q 2) 31 0, field (q 2) 63 32, field (q 3) 31 0, field (q 3) 63 32,
      field (q 4) 31 0],
    srcStride := [field (q 5) 47 0, field (q 6) 47 0, field (q 7) 47 0, field (q 8) 47 0],
    dstStride := [field (q 9) 47 0, field (q 10) 47 0, field (q 11) 47 0, field (q 12) 47 0],
    tile := [field (q 13) 15 0 + 1, field (q 13) 31 16 + 1, field (q 13) 47 32 + 1,
      field (q 13) 63 48 + 1, field (q 14) 15 0 + 1],
    digest := (q 14).testBit 48, window := field (q 14) 47 32, credit := field (q 14) 31 16,
    reserved := q 0 >>> 57 != 0 || q 1 >>> 57 != 0 || q 4 >>> 39 != 0 ||
      ((List.range 8).any fun i => q (5 + i) >>> 48 != 0) || q 14 >>> 49 != 0 || q 15 != 0 }

def nth (l : List Nat) (i : Nat) : Nat := l.getD i 0

/-- Product of a list. -/
def prod (l : List Nat) : Nat := l.foldl (· * ·) 1

/-- Address of an element on a side: base + E × i0 + Σ ik × stride_k (R226). -/
def elemAddr (base e : Nat) (strides idx : List Nat) : Nat :=
  base + e * nth idx 0 + nth idx 1 * nth strides 0 + nth idx 2 * nth strides 1
    + nth idx 3 * nth strides 2 + nth idx 4 * nth strides 3

/-- The address past the last byte of the farthest element on a side (R227). -/
def sideEnd (base e : Nat) (strides size : List Nat) : Nat :=
  elemAddr base e strides (size.map (· - 1)) + e

/-- The checks of R227. `reduce` holds the element size that ElementType asks for. -/
def descOk (d : Desc) (reduce : Option Nat) (clusters : Nat) : Bool :=
  1 ≤ d.dims && d.dims ≤ 5 && !d.reserved &&
  ((List.range 5).all fun k =>
    if k < d.dims then 1 ≤ nth d.size k
    else nth d.size k == 1 && nth d.tile k == 1 && nth d.srcStride (k - 1) == 0 &&
      nth d.dstStride (k - 1) == 0) &&
  64 ≤ d.elem * prod d.tile && d.elem * prod d.tile ≤ 65536 &&
  d.elem * prod d.size ≤ 2 ^ 48 &&
  sideEnd d.src d.elem d.srcStride d.size ≤ 2 ^ 57 &&
  sideEnd d.dst d.elem d.dstStride d.size ≤ 2 ^ 57 &&
  (match reduce with
    | none => true
    | some e => d.elem == e && d.src % e == 0 && d.dst % e == 0 &&
        ((List.range 4).all fun k => nth d.srcStride k % e == 0 && nth d.dstStride k % e == 0)) &&
  (d.credit == 0xFFFF || d.credit / 64 < clusters)

/-! ### Tiles (07, R229, R230) -/

/-- Tiles along each dimension (R229). -/
def gridOf (d : Desc) : List Nat :=
  (List.range 5).map fun k => (nth d.size k + nth d.tile k - 1) / nth d.tile k

/-- Tiles of a COPY_TENSOR or REDUCE_TENSOR (R229). -/
def tensorTiles (d : Desc) : Nat := prod (gridOf d)

/-- Coordinates of a tile index in the grid (R229). -/
def tileCoords (d : Desc) (t : Nat) : List Nat :=
  let n := gridOf d
  [t % nth n 0, t / nth n 0 % nth n 1, t / (nth n 0 * nth n 1) % nth n 2,
   t / (nth n 0 * nth n 1 * nth n 2) % nth n 3,
   t / (nth n 0 * nth n 1 * nth n 2 * nth n 3) % nth n 4]

/-- First index and extent of a tile along dimension k, clipped to the tensor (R229). -/
def tileSpan (d : Desc) (t k : Nat) : Nat × Nat :=
  let lo := nth (tileCoords d t) k * nth d.tile k
  (lo, min (lo + nth d.tile k) (nth d.size k) - lo)

/-- Starts of a tile's rows, in ascending element order: one row along dimension 0 for each index of the
others (R229, R232). -/
def tileRows (d : Desc) (t base : Nat) (strides : List Nat) : List Nat :=
  let (l0, _) := tileSpan d t 0
  let (l1, n1) := tileSpan d t 1
  let (l2, n2) := tileSpan d t 2
  let (l3, n3) := tileSpan d t 3
  let (l4, n4) := tileSpan d t 4
  (List.range n4).flatMap fun i4 => (List.range n3).flatMap fun i3 =>
    (List.range n2).flatMap fun i2 => (List.range n1).map fun i1 =>
      elemAddr base d.elem strides [l0, l1 + i1, l2 + i2, l3 + i3, l4 + i4]

/-- Bytes of a row of a tile. -/
def rowBytesOf (d : Desc) (t : Nat) : Nat := d.elem * (tileSpan d t 0).2

/-- Join rows that are contiguous into runs: position, address and bytes (R232). -/
def joinRows (row : Nat) : List Nat → Nat → List (Nat × Nat × Nat)
  | [], _ => []
  | a :: as_, pos =>
    match joinRows row as_ (pos + row) with
    | (_, b, n) :: rs => if b = a + row then (pos, a, row + n) :: rs else (pos, a, row) :: (pos + row, b, n) :: rs
    | [] => [(pos, a, row)]

/-- Contiguous runs of one side of a tile: position in the tile's bytes, address and bytes (R232). -/
def sideRuns (d : Desc) (t base : Nat) (strides : List Nat) : List (Nat × Nat × Nat) :=
  joinRows (rowBytesOf d t) (tileRows d t base strides) 0

/-- Bytes of a tile. -/
def tileBytes (d : Desc) (t : Nat) : Nat :=
  d.elem * ((List.range 5).map fun k => (tileSpan d t k).2).foldl (· * ·) 1

/-- A FILL's span: base, bytes and pattern (05, R169). -/
def fillBase (b : Bytes) : Nat := field (bodyQ b 0) 56 0
def fillBytes (b : Bytes) : Nat := bodyQ b 1
def fillPattern (b : Bytes) : Nat := bodyQ b 2

/-- Tiles of a FILL: the pieces at 4 KiB boundaries (07, R230). -/
def fillTiles (b : Bytes) : Nat := (fillBase b + fillBytes b - 1) / 4096 - fillBase b / 4096 + 1

/-- Address and bytes of a FILL tile (07, R230). -/
def fillTile (b : Bytes) (t : Nat) : Nat × Nat :=
  let lo := if t = 0 then fillBase b else fillBase b / 4096 * 4096 + 4096 * t
  (lo, min (lo / 4096 * 4096 + 4096) (fillBase b + fillBytes b) - lo)

/-- Tile count of a transfer command (07, R229, R230). -/
def tileCount (b : Bytes) : Nat :=
  if hdrOpcode b = 0x0012 then fillTiles b else tensorTiles (descOf b)

/-- Bytes of tile `t` of a transfer command. -/
def tileBytesOf (b : Bytes) (t : Nat) : Nat :=
  if hdrOpcode b = 0x0012 then (fillTile b t).2 else tileBytes (descOf b) t

/-- Source and destination runs of tile `t` of a transfer command. -/
def srcRuns (b : Bytes) (t : Nat) : List (Nat × Nat × Nat) :=
  if hdrOpcode b = 0x0012 then [] else sideRuns (descOf b) t (descOf b).src (descOf b).srcStride
def dstRuns (b : Bytes) (t : Nat) : List (Nat × Nat × Nat) :=
  if hdrOpcode b = 0x0012 then [(0, (fillTile b t).1, (fillTile b t).2)]
  else sideRuns (descOf b) t (descOf b).dst (descOf b).dstStride

/-- CreditId of a transfer, 0xFFFF for none (07, R230, R238). -/
def creditOf (b : Bytes) : Nat := if hdrOpcode b = 0x0012 then 0xFFFF else (descOf b).credit
def windowOf (b : Bytes) : Nat := if hdrOpcode b = 0x0012 then 0 else (descOf b).window
def digestOf (b : Bytes) : Bool := hdrOpcode b != 0x0012 && (descOf b).digest

/-! ### Reductions (05, R170) -/

def elementType (b : Bytes) : Nat := hdrOpFlags b / 16
def reduceOpOf (b : Bytes) : Nat := hdrOpFlags b % 16

/-- Element size of an ElementType (R170). -/
def elementBytes : Nat → Option Nat
  | 0 => some 4
  | 1 => some 2
  | 2 => some 4
  | 3 => some 8
  | _ => none

/-! ### Decode checks (05, R171, R172) -/

/-- A VA field: reserved bits zero, and alignment. -/
def vaOk (q align : Nat) : Bool := q >>> 57 == 0 && q % align == 0

/-- A Bytes field: a multiple of `m`, from 64 to 2^48 (R169). -/
def bytesOk (n m : Nat) : Bool := n % m == 0 && 64 ≤ n && n ≤ 2 ^ 48

/-- The body rules of R169 to R171 and R227. `clusters` is LogicalClusters. -/
def bodyOk (b : Bytes) (clusters : Nat) : Bool :=
  let q := bodyQ b
  match hdrOpcode b with
  | 0x0001 => true
  | 0x0002 => vaOk (q 0) 8
  | 0x0003 => vaOk (q 0) 8
  | 0x0010 => descOk (descOf b) none clusters
  | 0x0011 =>
    match elementBytes (elementType b) with
    | none => false
    | some e => reduceOpOf b ≤ 2 && descOk (descOf b) (some e) clusters
  | 0x0012 => vaOk (q 0) 64 && bytesOk (q 1) 64
  | 0x0020 =>
    q 0 >>> 57 == 0 && q 1 >>> 57 == 0 && field (q 2) 63 48 == 0 && field (q 2) 39 26 == 0 &&
      field (q 2) 15 10 == 0 && 1 ≤ field (q 2) 47 40 && field (q 2) 47 40 ≤ 128 &&
      1 ≤ field (q 2) 25 16 && field (q 2) 25 16 ≤ 960 &&
      field (q 2) 9 0 + field (q 2) 25 16 ≤ clusters && ((List.range 4).all fun i => q (4 + i) == 0)
  | 0x0030 => vaOk (q 0) 64 && bytesOk (q 1) 64
  | 0x0031 => vaOk (q 0) 64 && bytesOk (q 1) 64
  | 0x0040 => vaOk (q 0) 4096 && bytesOk (q 1) 4096
  | 0x0050 => vaOk (q 0) 64 && bytesOk (q 1) 64 && vaOk (q 2) 64
  | _ => false

/-- The BAD_HEADER rules of R172. OpFlags 15:11 of a DIGEST_RANGE are Reserved (10, R332). OpFlags 15:9 of an
INVALIDATE_RANGES, which no rule defines (06, R215), are ignored: DESIGN CHOICE. -/
def headerOk (b : Bytes) : Bool :=
  let n := hdrWaits b + hdrSignals b
  1 ≤ hdrEntries b && hdrEntries b ≤ 8 && hdrWaits b ≤ 7 && hdrSignals b ≤ 7 &&
  hdrLength b == 2 + 3 * n && numAt b 4 1 == 0 && field (numAt b 7 1) 7 4 == 0 &&
  field (hdrFlags b) 7 2 == 0 &&
  (match bodyBytes (hdrOpcode b) with
    | some k => hdrEntries b == (8 * hdrLength b + k + 63) / 64
    | none => true) &&
  ((List.range n).all fun i => !(fenceRef b i).reserved) &&
  (opFlagsOf (hdrOpcode b) != 0 || hdrOpFlags b == 0) && (hdrOpcode b != 0x0050 || hdrOpFlags b / 8 == 0)

end Sys2Proof.Machine
end

