-- ==== Sys2Proof/Machine/Fabric.lean ====
section
/-!
DEFINITION. The sending side of the Paldar fabric (08_windows_coherence, R254 to R257, R266 to R271):
peers, their sessions and the frames sent to them.
-/
namespace Sys2Proof.Machine

/-- PeerEntry of a package (R254). -/
def peerEntry (s : State) (p : PackageId) : Nat :=
  objNum s (0x6200 + p.toNat / 128) (p.toNat % 128 + 1)

def peerValid (s : State) (p : PackageId) : Bool := (peerEntry s p).testBit 63

/-- PortMask of a peer (R254). -/
def peerMask (s : State) (p : PackageId) : Nat := field (peerEntry s p) 59 48

def peer? (s : State) (p : PackageId) : Option Peer := s.win.peers.find? fun x => x.id == p

def modPeer (p : PackageId) (f : Peer → Peer) (s : State) : State :=
  { s with win := { s.win with peers := s.win.peers.map fun x => if x.id == p then f x else x } }

/-- The lowest-numbered port of a peer's mask whose link is up and that is not among `skip` (R257). -/
def fabricPort (s : State) (p : PackageId) (skip : List Nat) : Option Nat :=
  ((List.range 12).filter fun e =>
    (peerMask s p).testBit e && s.win.links.getLsbD e && !skip.contains e).head?

/-- PeerState of a package (R271). The entry of this package itself is never read (R254): it shows INVALID, DESIGN
CHOICE. -/
def peerState (s : State) (p : PackageId) : PeerState :=
  if p == s.win.localId || !peerValid s p then .invalid else match peer? s p with
    | some x => x.state
    | none => .connecting

/-- Header qword 0 of a frame (R266). -/
def frameQ0 (s : State) (type : Nat) (dst : PackageId) (len : Nat) : U64 :=
  w64 (2 ^ 60 + type * 2 ^ 48 + s.win.localId.toNat * 2 ^ 36 + dst.toNat * 2 ^ 24 + len)

/-- Header qword 2: window and tile index (R266). -/
def frameQ2 (w : WindowId) (tile : Nat) : U64 := w64 (w.toNat * 2 ^ 48 + tile % 2 ^ 48)

/-- Header qword 3: CommandSerial and stream tag (R266). -/
def frameQ3 (serial : U32) (tag : U16) : U64 := w64 (serial.toNat * 2 ^ 32 + tag.toNat * 2 ^ 16)

/-- Access of a frame (R266). -/
def accessCode : Need → Nat
  | .read => 1
  | .write => 2
  | .atomic => 3

/-- Header qword 4 (R266). -/
def frameQ4 (code : Nat) (need : Option Need) (elem op : Nat) (last : Bool) (off : Nat) : U64 :=
  w64 (code * 2 ^ 56 + (match need with | some n => accessCode n | none => 0) * 2 ^ 54
    + elem * 2 ^ 48 + op * 2 ^ 44 + bit last 40 + off % 2 ^ 17)

/-- A run list (R268). -/
def runListBytes (runs : List WRun) : Bytes :=
  runs.flatMap fun r => leBytes 8 ((r.length - 1) * 2 ^ 47 + r.offset % 2 ^ 36)

/-- The 12-byte nonce of a seal: class 0 for sequenced frames, 1 for LINK_ACKs, then a 56-bit count (R269). -/
def sealNonce (src dst : PackageId) (ack : Bool) (count : Nat) : Bytes :=
  leBytes 2 src.toNat ++ leBytes 2 dst.toNat ++ leBytes 1 (bit ack 0) ++ leBytes 7 count

/-- The Paldar header of a frame: the authenticated data of its seal (R266, R269). -/
def headerBytes (q0 : U64) (f : Frame) : Bytes :=
  leBytes 8 q0.toNat ++ leBytes 8 f.q1.toNat ++ leBytes 8 f.q2.toNat ++ leBytes 8 f.q3.toNat ++ leBytes 8 f.q4.toNat

/-- A frame as port `e` sends it to a peer: Ethernet header, tag, Paldar header, payload and, under a session key, the
seal (R254, R266, R269). -/
def wireFrame (s : State) (dst : PackageId) (e : Nat) (key : Option Bytes) (f : Frame) : PaldarFrame :=
  let q0 := frameQ0 s f.type dst f.payload.length
  let nonce := sealNonce s.win.localId dst (f.type == 0x40) f.count
  let cipher := match key with
    | some k => gcmCipher k nonce f.payload
    | none => f.payload
  { dstMac := w64 (field (peerEntry s dst) 47 0), srcMac := Config.paldarMacBase + w64 e
    vlan := if s.win.vlan = 0 then none else some s.win.vlan
    etherType := s.win.etherType, q0 := q0, q1 := f.q1, q2 := f.q2, q3 := f.q3, q4 := f.q4, payload := f.payload
    cipher := cipher
    tag := match key with
      | some k => gcmTag k nonce (headerBytes q0 f) cipher
      | none => [] }

/-- A session can send: a link of the pair's mask is up, and a crypto lane that is on holds the session's keys (R257;
14, R427, R428). -/
def sends (x : Peer) : Bool := x.port.isSome && x.session.any fun ss => ss.lanes != 0

/-- Put a frame of a session on the wire, as it was first built (R270). With no link of the pair's mask up, or no lane
that holds the session's keys, nothing is sent (R257; 14, R428). -/
def rawFrame (p : PackageId) (f : Frame) (s : State) : State :=
  match (peer? s p).filter sends with
  | some x => (match x.port with
    | some e => emit (.frame p e (wireFrame s p e (x.session.map (·.key)) f)) s
    | none => s)
  | none => s

/-- A frame as it leaves for the first time: its AckSeq is what this side then expects (R270). -/
def stamped (x : PairSession) (f : Frame) : Frame :=
  { f with q1 := w64 (f.count % 2 ^ 32 * 2 ^ 32 + x.expect % 2 ^ 32) }

/-- Frames of a session that have not been sent leave while fewer than 512 are unacknowledged and a link is up; each
carries the acknowledgement that is owed (R257, R270). -/
def flushFrames (p : PackageId) (s : State) : State :=
  match (peer? s p).filter sends with
  | none => s
  | some x =>
    match x.session, x.port with
    | some ss, some _ =>
      let n := min 512 ss.unacked.length
      if n ≤ ss.emitted then s
      else
        let fresh := ((ss.unacked.take n).drop ss.emitted).map (stamped ss)
        foldState (rawFrame p) fresh (modPeer p (fun y => { y with
          session := some { ss with
            unacked := ss.unacked.take ss.emitted ++ fresh ++ ss.unacked.drop n, emitted := n, owed := none
            advance := if ss.emitted = 0 then s.gtc else ss.advance
            resent := if ss.emitted = 0 then s.gtc else ss.resent } }) s)
    | _, _ => s

/-- Send a sequenced frame to a peer with an open session, and keep it until it is acknowledged (R270). A frame to
this package itself goes through no port and under no seal (R255). A frame that finds 512 unacknowledged, or no link
up, waits in line. -/
def sendFrame (dst : PackageId) (type : Nat) (q2 q3 q4 : U64) (payload : Bytes) (s : State) : State :=
  if dst == s.win.localId then emit (.loopback type q2 q3 q4 payload) s
  else match (peer? s dst).bind (·.session) with
    | none => s
    | some ss =>
      flushFrames dst (modPeer dst (fun y => { y with
        session := some { ss with
          sent := ss.sent + 1, unacked := ss.unacked ++ [⟨ss.sent, type, 0, q2, q3, q4, payload⟩]
          advance := if ss.unacked.isEmpty then s.gtc else ss.advance } }) s)

/-- The CommandSerial of a command: assigned when it first sends a window operation (R266). -/
def commandSerial (x : Cmd) (s : State) : U32 := x.serial.getD s.win.nextSerial

/-- Give a command its serial when it first sends a window operation. -/
def takeSerial (x : Cmd) (s : State) : State :=
  if x.serial.isSome then s
  else modCmd x.ctx x.q (fun y => { y with serial := some s.win.nextSerial })
    { s with win := { s.win with nextSerial := s.win.nextSerial + 1 } }

/-- Send CANCEL for an operation (R267, R273). -/
def sendCancel (o : SendOp) (tag : U16) (s : State) : State :=
  sendFrame o.peer 0x21 (frameQ2 o.window o.tile) (frameQ3 o.serial tag)
    (frameQ4 0 (some o.need) 0 0 true 0) [] s

/-- End the window operations of a command: an accepted one whose data has not been sent is cancelled (R273). -/
def cancelOps (c : CtxId) (q : Nat) (tag : U16) (s : State) : State :=
  let mine := s.win.sends.filter fun o => o.ctx == c && o.q == q
  let s := { s with win := { s.win with
    sends := s.win.sends.filter fun o => !(o.ctx == c && o.q == q) } }
  foldState (fun o s => if o.phase = 1 then sendCancel o tag s else s) mine s

/-- Take back operations that a dropped translation affects: each is cancelled, to be checked afresh (R273; 07,
R234). -/
def takeBackOps (ops : List SendOp) (tag : U16) (s : State) : State :=
  foldState (fun o s => if o.phase < 2 then sendCancel o tag s else s) ops
    { s with win := { s.win with sends := s.win.sends.filter fun o => !ops.contains o } }

end Sys2Proof.Machine
end

