-- ==== Sys2Proof/Machine/Life.lean ====
section
/-!
DEFINITION. What ends commands, contexts and objects: command ends, context loss and forced abort
(04_objects_lifecycle, R130 to R133, R143 to R146), and signals on fences (R147 to R152).
-/
namespace Sys2Proof.Machine

/-! ### Codes -/

/-- Code of a LostReason (04, R130). -/
def lostCode : LostReason → Nat
  | .none => 0x00
  | .faultAborted => 0x01
  | .faultTimeout => 0x02
  | .staleHandle => 0x03
  | .noObjectRight => 0x04
  | .badCommand => 0x05
  | .hostCompletionError => 0x06
  | .poisonedData => 0x07
  | .unitFenced => 0x08
  | .clusterAccessFault => 0x09
  | .doorbellInvalid => 0x0A
  | .functionAborted => 0x0B

/-- Code of a command status (05, R172). -/
def cstatusCode : CStatus → Nat
  | .success => 0x0000
  | .contextLost => 0x0001
  | .badOpcode => 0x0002
  | .badHeader => 0x0003
  | .badOperand => 0x0004
  | .badFence => 0x0005
  | .fetchFault => 0x0006
  | .staleHandle => 0x0007
  | .noObjectRight => 0x0008
  | .faultAborted => 0x0009
  | .faultTimeout => 0x000A
  | .hostCompletionError => 0x000B
  | .poisonedData => 0x000C
  | .unitFenced => 0x000D
  | .clusterAccessFault => 0x000E

/-- LostReason that goes with a command status (05, R172). -/
def lostOf : CStatus → LostReason
  | .success | .contextLost => .none
  | .badOpcode | .badHeader | .badOperand | .badFence | .fetchFault => .badCommand
  | .staleHandle => .staleHandle
  | .noObjectRight => .noObjectRight
  | .faultAborted => .faultAborted
  | .faultTimeout => .faultTimeout
  | .hostCompletionError => .hostCompletionError
  | .poisonedData => .poisonedData
  | .unitFenced => .unitFenced
  | .clusterAccessFault => .clusterAccessFault

/-! ### Stalls (02, R73) -/

/-- The function's work is held: Bus Master Enable is 0 or it is in D3hot (02, R73). -/
def fnStalled (s : State) (g : Fun) : Bool :=
  let c := (getFn s g).cfg
  !c.command.getLsbD 2 || c.d3hot

/-- No work starts in the fatal state (12, R387), while a block reset runs (12, R385), or in package
sleep and the wake from it, until the pool keys are loaded (14, R430). -/
def packageHeld (s : State) : Bool :=
  s.err.pkg == .fatal || s.err.pkg == .resetting || s.power.phase == .asleep || s.power.phase == .waking

/-! ### Engines (07, R236) -/

def getEngine (s : State) (e : Engine) : EngineSt := s.cmd.engines.getD e.val EngineSt.init

def modEngine (e : Engine) (f : EngineSt → EngineSt) (s : State) : State :=
  { s with cmd := { s.cmd with engines := s.cmd.engines.modify e.val f } }

/-- Activate queued commands while fewer than 16 are active (07, R236). -/
def activate (x : EngineSt) : EngineSt :=
  let n := 16 - x.active.length
  { x with active := x.active ++ x.queued.take n, queued := x.queued.drop n }

/-- Take a command off every engine. -/
def leaveEngines (c : CtxId) (q : Nat) (s : State) : State :=
  { s with cmd := { s.cmd with
    engines := s.cmd.engines.map fun x =>
      let ends := x.serving == some (c, q)
      activate { x with
        active := x.active.filter (· != (c, q)), queued := x.queued.filter (· != (c, q))
        serving := if ends then none else x.serving, moved := if ends then 0 else x.moved
        counted := if ends then none else x.counted, closed := x.closed || ends
        owed := x.owed.filter (· != (c, q)) } } }

/-! ### The end of a command -/

/-- A COPY_TENSOR, a REDUCE_TENSOR or a FILL (05, R168). -/
def isTransfer (b : Bytes) : Bool := hdrOpcode b == 0x0010 || hdrOpcode b == 0x0011 || hdrOpcode b == 0x0012

/-- Tell the consumer that a dispatched transfer ends early, at its first tile that is not delivered (07, R238). -/
def abandonCredit (x : Cmd) (s : State) : State :=
  match x.tag with
  | some t =>
    if !isTransfer x.raw || creditOf x.raw = 0xFFFF then s
    else emit (.creditAbandon (creditOf x.raw) t ((x.xfer.map (·.next)).getD 0)) s
  | none => s

/-- Send PART_CANCEL for the parts of a LAUNCH that have not ended (05, R176). -/
def cancelParts (x : Cmd) (s : State) : State :=
  foldState (fun p s => if p.ended then s else emit (.partCancel p.cluster x.ctx p.k) s) x.parts s

/-- The parts of a command with the cancel's time in those that have not ended. -/
def cancelledParts (gtc : U64) (ps : List Part) : List Part :=
  ps.map fun p => if p.ended || p.cancelled.isSome then p else { p with cancelled := some gtc }

/-- Keep a stream tag out of use until the command's beats and parts are out (05, R178). -/
def drainTag (x : Cmd) (s : State) : State :=
  match x.tag with
  | none => s
  | some t =>
    { s with cmd := { s.cmd with
      drains := s.cmd.drains ++ [⟨t, x.ctx, x.q, cancelledParts s.gtc x.parts, s.gtc⟩] } }

/-- Stop the work of a command that ends other than with SUCCESS: engines, window operations and parts; a command
that has ended has none left. -/
def stopWork (x : Cmd) (s : State) : State :=
  match x.stage with
  | .ended _ => s
  | _ =>
    let s := leaveEngines x.ctx x.q s
    cancelParts x (cancelOps x.ctx x.q (x.tag.getD 0xFFFF) s)

/-- A command's work is over with a status; COMMAND_COMPLETION follows (05, R179). A command that has
ended keeps its status. -/
def endCmd (c : CtxId) (q : Nat) (st : CStatus) (s : State) : State :=
  match cmd? s c q with
  | none => s
  | some x =>
    match x.stage with
    | .ended _ => s
    | _ =>
      let s := if st = .success then leaveEngines c q s else stopWork x s
      modCmd c q (fun y => { y with
        stage := .ended st, registered := false
        parts := if st = .success then y.parts else cancelledParts s.gtc y.parts }) s

/-! ### Context loss (04, R130, R131) -/

/-- How a loss ends one command in flight: the command whose work raised it with its own status, every
other with CONTEXT_LOST; commands being fetched go on (04, R131; 05, R172). -/
def loseCmd (cause : List (Nat × CStatus)) (x : Cmd) (s : State) : State :=
  let st := ((cause.find? fun y => y.1 == x.q).map (·.2)).getD .contextLost
  match x.stage with
  | .fetching _ | .short =>
    if cause.any fun y => y.1 == x.q then endCmd x.ctx x.q st s else s
  | .ended .success => modCmd x.ctx x.q (fun y => { y with stage := .ended st }) s
  | .ended _ => s
  | _ => endCmd x.ctx x.q st s

/-- Revoke every lease of a context (04, R131, R133). -/
def revokeCtxLeases (c : CtxId) (s : State) : State :=
  revokeWhere (fun l => l.ctx == c) (.abort c) s

/-- Move a READY context to LOST; a context that is ABORTING when the fault comes records none, though it was READY
before its DESTROY_CONTEXT: DESIGN CHOICE (R154). `cause` lists the commands whose own work raised it, with their
statuses. The loss posts its record, counts and raises CONTEXT_LOST, except with FUNCTION_ABORTED
(R130). -/
def loseContext (c : CtxId) (r : LostReason) (cause : List (Nat × CStatus)) (data1 : U64) (i : ErrInfo)
    (s : State) : State :=
  match ctx? s c with
  | none => s
  | some x =>
    if x.state ≠ .ready then s
    else
      let s := modCtx c (fun y => { y with state := .lost, lostReason := r, lostGtc := s.gtc }) s
      let s := foldState (loseCmd cause) (s.cmd.table.filter fun y => y.ctx == c) s
      let s := revokeCtxLeases c s
      if r = .functionAborted then s
      else
        let d0 := match cause.head? with
          | some y => w64 (2 ^ 63 + y.1)
          | none => 0
        let s := formEvent x.fn x.eventRing 0x02 (lostCode r) (some c) d0 data1 s
        let s := countFn x.fn 0x07 s
        raiseWith .contextLost { i with fn := some x.fn, ctx := some c } [c] s

/-- A context fault raised by the work of one command (05, R172). -/
def faultCmd (c : CtxId) (q : Nat) (st : CStatus) (i : ErrInfo) (s : State) : State :=
  match ctx? s c with
  | some x =>
    if x.state = .ready then loseContext c (lostOf st) [(q, st)] 0 i s
    else endCmd c q .contextLost s
  | none => s

/-- A fault met by a context that is LOST is only counted (04, R154). -/
def countLateFault (c : CtxId) (s : State) : State :=
  match ctx? s c with
  | some x => if x.state = .lost then countFn x.fn 0x05 s else s
  | none => s

/-! ### Fixed-schedule contexts (10) -/

/-- Clear the CycleExact flag of a fixed-schedule context (10, R329). -/
def clearCycleExact (c : CtxId) (s : State) : State :=
  modCtx c (fun x => { x with fixed := x.fixed.map fun f => { f with cycleExact := false } }) s

/-- Whether a context is a fixed-schedule one: its pool writes go through to the stack (10, R321). -/
def isFixed (s : State) (c : CtxId) : Bool :=
  match ctx? s c with
  | some x => x.fixed.isSome
  | none => false

/-! ### Signals (04, R149 to R152) -/

/-- Pool address of a fence word (04, R147). -/
def fenceAddr (o : MemObj) (word : Nat) : Nat := o.base + 8 * word

def fenceValue (s : State) (o : MemObj) (word : Nat) : Nat := leNat (poolBytes s (fenceAddr o word) 8)

/-- Note the rise of a word for its host mirror; it replaces a write of the word not yet issued (04,
R152). -/
def noteMirror (o : MemObj) (word : Nat) (v : U64) (s : State) : State :=
  if o.mirrorBase = 0 then s
  else { s with obj := { s.obj with
    mirrors := (s.obj.mirrors.filter fun m => !(m.1 == o.slot && m.2.1 == word))
      ++ [(o.slot, word, v)] } }

/-- A signal of value `v` on a fence word, for a function and the context of a command of this package
(04, R149, R150). A signal on a poisoned line is discarded (09, R301). -/
def signalFence (by_ : Fun) (c : Option CtxId) (o : MemObj) (word : Nat) (v : U64) (s : State) : State :=
  let a := fenceAddr o word
  let f := fenceValue s o word
  -- an atomic outside a pinned line ends cycle identity, whatever it leaves there (10, R322, R329)
  let s := match c with
    | some x => if isFixed s x && !pinned s a 8 then clearCycleExact x s else s
    | none => s
  if poisoned s (lineOf a) 64 then countPackage 0x18 s
  else if v.toNat < f then countFn by_ 0x06 s
  else if v.toNat = f then s
  else
    let through := match c with | some x => isFixed s x | none => false
    let s := poolWrite a (leBytes 8 v.toNat) through s
    let s := noteMirror o word v s
    if v = BitVec.allOnes 64 then
      formEvent o.owner o.ring 0x03 0 c (objHandle o) (w64 word) s
    else s

/-- Whether a function may wait on, or signal, a fence object (04, R146; 05, R172). -/
def mayWait (o : MemObj) (g : Fun) : Bool := o.owner == g || (grantOf o g).isSome
def maySignal (o : MemObj) (g : Fun) : Bool :=
  o.owner == g || (match grantOf o g with
    | some .readWrite | some .signal => true
    | _ => false)

/-- The check of one fence handle: STALE_HANDLE or NO_OBJECT_RIGHT (04, R145). -/
def fenceStatus (s : State) (g : Fun) (signal : Bool) (r : FenceRef) : CStatus :=
  match liveObj s r.handle with
  | none => .staleHandle
  | some o => if (if signal then maySignal o g else mayWait o g) then .success else .noObjectRight

/-! ### Objects: freeing and grants (04, R139, R143, R144, R146) -/

/-- Drop the mirror writes of an object that have not been issued (04, R152). -/
def dropMirrors (slot : Nat) (s : State) : State :=
  { s with obj := { s.obj with mirrors := s.obj.mirrors.filter fun m => m.1 != slot } }

/-- Waits registered on an object fail their check: their contexts are lost with STALE_HANDLE (04, R143,
R145). -/
def failWaits (h : U64) (s : State) : State :=
  foldState (fun x s =>
    if x.registered && (waitRefs x.raw)[x.waits]?.any (fun r => r.handle == h.toNat) then
      faultCmd x.ctx x.q .staleHandle { kind := 2, access := 7 } s
    else s) s.cmd.table s

/-- Close the windows whose range table lies in an object (08, R263). -/
def closeWindowsOf (h : U64) (s : State) : State :=
  { s with win := { s.win with
    table := s.win.table.map fun e =>
      if e.2.table == h && e.2.state == .opened then (e.1, { e.2 with state := .closing }) else e } }

/-- Start the closing of the coherent windows over an object (08, R282). -/
def closeCohOf (h : U64) (s : State) : State :=
  { s with win := { s.win with
    coh := (List.range 64).map fun n =>
      let c := s.win.coh.getD n (.off, .none)
      if c.1 == .on && objNum s (0x6010 + n) 1 == h.toNat then (.closing, .none) else c } }

/-- FREE_OBJECT reaches count 0: the generation rises, grants end, waits fail, mirrors drop, and the
object's entries and leases are dropped (04, R143). `freer` is the entry that waits. -/
def freeStart (slot : Nat) (freer : Option AdminRef) (s : State) : State :=
  match obj? s slot with
  | none => s
  | some o =>
    if o.freed then s
    else
      let h := objHandle o
      let s := modObj slot (fun x => { x with freed := true, grants := [], freer := freer }) s
      let s := { s with obj := { s.obj with gens := assocPut s.obj.gens slot (o.gen + 1) } }
      let s := failWaits h (dropMirrors slot s)
      let s := closeCohOf h (closeWindowsOf h s)
      startScan (banksInUse s) (.object slot none) (.free slot) s

/-- Coherent windows over an object that are still closing (08, R282). -/
def cohClosing (s : State) (h : U64) : Bool :=
  (List.range 64).any fun n =>
    (s.win.coh.getD n (.off, .none)).1 == .closing && objNum s (0x6010 + n) 1 == h.toNat

/-- The function's oldest completions, in completion order (04, R122). -/
def adminDone (g : Fun) (st : AStatus) (result : U64) (tag : U16) (s : State) : State :=
  modAdmin g (fun a => { a with held := a.held ++ [⟨result, st, tag⟩] }) s

/-- The drop of a freed object has ended: its entry completes, its slot is freed or retired, and its scrub
is queued (04, R139, R143; 13, R410). -/
def freeFinish (slot : Nat) (s : State) : State :=
  match obj? s slot with
  | none => s
  | some o =>
    let gen := o.gen + 1
    let s := foldState (fun c s => adminDone c.2.fn .success 0 c.2.tag s) o.changes s
    let s := match o.freer with
      | some r => adminDone r.fn .success 0 r.tag s
      | none => s
    { s with
      obj := { s.obj with
        objs := s.obj.objs.filter fun x => x.slot != slot
        slotsFreed := if gen = 0xFFFFFF then s.obj.slotsFreed else s.obj.slotsFreed ++ [slot]
        retired := if gen = 0xFFFFFF then s.obj.retired + 1 else s.obj.retired }
      pool := { s.pool with
        scrubs := s.pool.scrubs ++ [⟨o.base, o.bytes, 0, o.mirrorSpan, some o.owner, false, false⟩] } }

/-! ### Forced abort (04, R133) -/

/-- The entry that covers an address of an asker, looked up without any effect. -/
def peekEntry (s : State) (who : Who) (va : Nat) : Option REntry :=
  (asker s who).bind fun a => match storeLookup s who a (va / 4096) with
    | some e => some e
    | none => (tableAt s a).bind fun t => match (walkTable s t (va / 4096)).result with
      | .ok r => (checkTarget s who a r).toOption
      | .error _ => none

/-- The pool address behind a window offset of this package. -/
def windowPool (s : State) (w : WindowId) (off : Nat) : Option Nat :=
  (peekEntry s (.win w) off).bind fun e => match targetOf e off with
    | .pool p => if e.ttype = 1 || e.ttype = 4 then some p else none
    | _ => none

/-- The pool address behind a context address, by a window of this package too (08, R255). -/
def resolvePool (s : State) (c : CtxId) (va : Nat) : Option Nat :=
  (peekEntry s (.ctx c) va).bind fun e => match targetOf e va with
    | .pool p => if e.ttype = 1 || e.ttype = 4 then some p else none
    | .window p w off => if p = s.win.localId then windowPool s w off else none
    | .host _ _ => none

/-- A pool span holds bytes that nothing constrains. -/
def freeSpan (a n : Nat) (s : State) : State :=
  draw { s with pool := { s.pool with
    mem := memWrite s.pool.mem a ((List.range n).map fun i => Config.undefinedByte s.draws (a + i)) } }

/-- The pieces of a span, cut at 4 KiB boundaries: address and bytes. -/
def pages (a n : Nat) : List (Nat × Nat) := (splitAt4K 4096 (n / 4096 + 2) a 0 n).map fun x => (x.1, x.2.2)

/-- The bytes behind a destination run in this package's pool are free. -/
def freeRun (r : Run) (s : State) : State :=
  match r.target with
  | .pool a => freeSpan a r.bytes s
  | .window p w off =>
    if p = s.win.localId then
      foldState (fun x s => match windowPool s w x.1 with
        | some a => freeSpan a x.2 s
        | none => s) (pages off r.bytes) s
    else s
  | .host _ _ => s

/-- The destination bytes of an abandoned tile are undefined (04, R133). -/
def freeTile (x : Cmd) (s : State) : State :=
  match x.xfer.bind (·.tile) with
  | some t => if t.begun then foldState freeRun t.dst s else s
  | none => s

/-- Every destination byte in the pool of an unfinished transfer of an aborted function is undefined, one that no
engine has begun among them (02, R71). -/
def freeTransfer (x : Cmd) (s : State) : State :=
  if !isTransfer x.raw || x.tag.isNone || x.stage == .ended .success then s
  else
    foldState (fun k s =>
      foldState (fun r s =>
        foldState (fun p s => match resolvePool s x.ctx p.1 with
          | some a => freeSpan a p.2 s
          | none => s) (pages r.2.1 r.2.2) s) (dstRuns x.raw k) s)
      (List.range (tileCount x.raw)) s

/-- Stop and drop every command of a context, without completions (04, R133); `whole` when the context's
function is aborted (02, R71). -/
def dropCmds (whole : Bool) (c : CtxId) (s : State) : State :=
  let mine := s.cmd.table.filter fun x => x.ctx == c
  let s := foldState (fun x s => if whole then freeTransfer x s else freeTile x s) mine s
  let s := foldState (fun x s => drainTag x (abandonCredit x (stopWork x s))) mine s
  { s with cmd := { s.cmd with table := s.cmd.table.filter fun x => x.ctx != c } }

/-- The context that a read serves. -/
def readCtx : ReadUse → Option CtxId
  | .entry c => some c
  | .tile c _ => some c
  | .span c _ => some c
  | .stale c => some c
  | .image => none
  | .admin _ _ => none
  | .ats _ _ => none

/-- Whether a tag serves a read of a context. -/
def tagServes (c : CtxId) (t : TagUse) : Bool :=
  match t.use with
  | .entry d => d == c
  | .tile d _ => d == c
  | .span d _ => d == c
  | .image => false
  | .admin _ _ => false
  | .ats _ _ => false
  | .stale d => d == c

/-- The lookups of an aborted context that wait, the arrivals held for it and the outcomes left for it end with no
translation (06, R222; 10, R318). -/
def dropLookups (c : CtxId) (s : State) : State :=
  let mine (x : Who × Nat × Need) : Bool := x.1 == .ctx c
  let stalled := s.trans.stalled.filter mine
  foldState (fun x s => emit (.noTranslation x.1 x.2.1 .aborting) s) stalled { s with
    trans := { s.trans with
      stalled := s.trans.stalled.filter fun x => !mine x
      answers := s.trans.answers.filter fun x => x.1 != .ctx c }
    det := { s.det with arrivals := s.det.arrivals.filter fun a => match a with
      | .lease _ _ d _ _ => d != c
      | .poison d _ _ => d != c
      | .failed u _ => readCtx u.use != some c } }

/-- Set ABORTING and run the steps of R133 up to the scan of the range store; CONTEXT_ABORT_COMPLETE
follows once it has ended. -/
def abortContext (c : CtxId) (destroyer : Option AdminRef) (s : State) : State :=
  match ctx? s c with
  | none => s
  | some x =>
    if x.state = .aborting then
      -- the reset's sequence governs, and the entry completes with no record (04, R154)
      if destroyer.isNone then modCtx c (fun y => { y with destroyer := none }) s else s
    else
      let s := modCtx c (fun y => { y with
        state := .aborting, bound := false, destroyer := destroyer }) s
      let s := dropCmds destroyer.isNone c s
      let s := quarantine (portOf x.fn) (tagServes c) s
      let s := dropLookups c s
      revokeCtxLeases c (startScan [bankOf s (.ctx c)] (.context c) (.abort c) s)

/-- Discard the fault records of a context (04, R133). -/
def discardFaults (c : CtxId) (g : Fun) (s : State) : State :=
  modFaultq g (fun q => { q with
    waiting := q.waiting.filter fun r => r.ctx != c, pending := q.pending.filter fun r => r.ctx != c }) s

/-- The firmware step of a destruction: fault records, context-owned objects, the record, the ID and the
completion (04, R133, R144; 10, R322). An object that another live context uses as its range table is freed here too,
without the check of FREE_OBJECT (OBJECT_IN_USE): R144 does not say what happens then, a DESIGN CHOICE. -/
def destroyContext (c : CtxId) (s : State) : State :=
  match ctx? s c with
  | none => s
  | some x =>
    let s := discardFaults c x.fn s
    let mine := s.obj.objs.filter fun o => o.ctx == some c && !o.freed
    let s := foldState (fun o s => freeStart o.slot none s) mine s
    let s := match x.fixed with
      | some f => foldState (fun p s => writeBack p.1 p.2 s) f.scratch s
      | none => s
    let s := match x.destroyer with
      | some r => adminDone r.fn .success 0 r.tag s
      | none => s
    { s with
      obj := { s.obj with
        ctxs := s.obj.ctxs.filter fun e => e.1 != c, ctxFreed := s.obj.ctxFreed ++ [c] }
      err := { s.err with pinContexts := s.err.pinContexts.filter (· != c) } }

end Sys2Proof.Machine
end

