-- ==== Sys2Proof/Machine/Walkers.lean ====
section
/-!
DEFINITION. The walkers: lookups at the edge, walks in flight and the misses that join or wait for them
(06_translation, R200 to R206, R210).
-/
namespace Sys2Proof.Machine

/-- A lookup whose answer is not there yet waits at its crossing (R206; 13, R411). -/
def stallLookup (who : Who) (va : Nat) (need : Need) (s : State) : State :=
  { s with trans := { s.trans with stalled := s.trans.stalled ++ [(who, va, need)] } }

/-- A context whose walk met poison is lost with POISONED_DATA (R200). The walker named is the first of the bank's
group: DESIGN CHOICE. -/
def walkPoisoned (who : Who) (va : Nat) (s : State) : State :=
  match who with
  | .ctx c => loseContext c .poisonedData [] 0
      { walkInfo s who with address := w64 va, addressKind := 2 } s
  | .win _ => s

/-- Answer a lookup at the edge: where the address lies, or why there is no answer. -/
def answerLookup (who : Who) (va : Nat) (need : Need) (r : Except TOut REntry) (s : State) : State :=
  match r with
  | .ok e => emit (.translation who va (targetOf e va)) s
  | .error .wait => stallLookup who va need s
  | .error .poisoned => walkPoisoned who va (emit (.noTranslation who va .poisoned) s)
  | .error x => emit (.noTranslation who va x) s

/-- A miss joins the walk of its context and granule, or starts one; a full queue stalls the lookup (R206). -/
def startWalk (who : Who) (a : Asker) (va : Nat) (need : Need) (s : State) : State :=
  if s.trans.walks.any (walkFor who (va / 4096)) then joinWalk who va need true s
  else if groupFull s (groupOf s (bankOf s who)) then stallLookup who va need s
  else countPackage 0x06 (putWalk who va need true .anchor a.root s)

/-- A lookup of an asker: answered from the store, by the fault of a fixed-schedule context, or by a walk
(R201 to R203, R211, R222). -/
def lookupOf (who : Who) (va : Nat) (need : Need) (s : State) : State :=
  match asker s who with
  | none => emit (.noTranslation who va .aborting) s
  | some a =>
    if askerAborting s who then emit (.noTranslation who va .aborting) s
    else if a.fixed || (storeLookup s who a (va / 4096)).isSome then
      let r := translate who va need s
      answerLookup who va need r.2 r.1
    else startWalk who a va need s

/-- A lookup of a context (R203). -/
def lookup (c : CtxId) (va : Nat) (need : Need) (s : State) : State := lookupOf (.ctx c) va need s

/-- The lookups that wait at their crossings are made again, oldest first (R206). -/
def serveStalled (s : State) : State :=
  foldState (fun x s => lookupOf x.1 x.2.1 x.2.2 s) s.trans.stalled { s with trans := { s.trans with stalled := [] } }

def modWalk (id : Nat) (f : Walk → Walk) (s : State) : State :=
  { s with trans := { s.trans with walks := s.trans.walks.map fun w => if w.id == id then f w else w } }

def dropWalk (id : Nat) (s : State) : State :=
  { s with trans := { s.trans with walks := s.trans.walks.filter fun w => w.id != id } }

/-- A walk ends without an entry: every miss that joined it has that outcome; those that do not answer at the
edge find it when they come back (R205, R206). A context that is being aborted has no use for it (R222). -/
def walkEnds (w : Walk) (a : Asker) (e : TOut) (s : State) : State :=
  foldState (fun x s =>
    let r : Except TOut REntry := .error e
    if x.2.2 then answerLookup w.who x.1 x.2.1 r (countFault a r s)
    else if e = .aborting then s
    else { s with trans := { s.trans with answers := s.trans.answers ++ [(w.who, x.1, x.2.1, e, s.gtc)] } })
    w.waiters (dropWalk w.id s)

/-- Every miss that joined a walk repeats its lookup: those at the edge now, the others when they come back
(R206). -/
def repeatLookups (w : Walk) (s : State) : State :=
  foldState (fun x s => if x.2.2 then lookupOf w.who x.1 x.2.1 s else s) w.waiters s

/-- A walk has found a range: its target is checked and the entry installed; or the leases of the entry that it
replaces are revoked first (R204, R206, R210). -/
def walkFinds (w : Walk) (a : Asker) (r : RangeEnt) (s : State) : State :=
  match checkTarget s w.who a r with
  | .error e => walkEnds w a e s
  | .ok e =>
    match mustRevoke s (bankOf s w.who) with
    | none => repeatLookups w (install e (dropWalk w.id s))
    | some v => beginReplace (bankOf s w.who) v (modWalk w.id (fun x => { x with place := .install e v }) s)

/-- A walk begins again from the anchor (R215). -/
def walkAgain (w : Walk) (a : Asker) (s : State) : State :=
  modWalk w.id (fun x => { x with place := .anchor, offset := a.root, stale := false }) s

/-- A walk that waits for the leases of an entry replaces it once they have ended (R210); a stale one installs
nothing (R215). -/
def tryInstall (w : Walk) (s : State) : State :=
  match w.place, asker s w.who with
  | .install _ _, none => walkEnds w ⟨0, 0, 0, 0, false, none⟩ .aborting s
  | .install e v, some a =>
    if askerAborting s w.who then walkEnds w a .aborting s
    else if w.stale then walkAgain w a s
    else if s.trans.leases.any (fun l => l.entry == v) then s
    else repeatLookups w (installOver e v (dropWalk w.id s))
  | _, _ => s

/-- Leases have ended: walks that waited for them go on (R210). -/
def leasesEnded (s : State) : State := foldState tryInstall s.trans.walks s

/-- Go on from a node that has passed its checks: to the range in a leaf, or to the child whose cover holds the
granule (R203). -/
def walkOn (w : Walk) (a : Asker) (b : Bytes) (level high : Nat) (s : State) : State :=
  if nodeLeaf b then
    match leafRange b w.granule with
    | some r => walkFinds w a r s
    | none => walkEnds w a (.fault .unmapped) s
  else
    let (off, lo, hi) := childFor b w.granule high
    modWalk w.id (fun x => { x with place := .node (level + 1) (nodeHeight b) lo hi, offset := off }) s

/-- A node is not as R196 asks. -/
def walkBad (w : Walk) (a : Asker) (s : State) : State :=
  walkEnds w a (.fault .tableMalformed) (countPackage 0x08 s)

/-- A node of a walk has been read: the checks of R196, then the next step of R203. A stale walk begins again
from the anchor and installs nothing (R215). -/
def nodeRead (w : Walk) (s : State) : State :=
  match asker s w.who with
  | none => walkEnds w ⟨0, 0, 0, 0, false, none⟩ .aborting s
  | some a =>
    if askerAborting s w.who then walkEnds w a .aborting s
    else if w.stale then walkAgain w a s
    else match tableAt s a with
      | none => walkBad w a s
      | some t =>
        match readNode s t w.offset with
        | .error .wait => gateSnoops (walkInfo s w.who) (t.base + w.offset) 4096 false none s
        | .error e => walkEnds w a e (countPackage 0x17 s)
        | .ok b =>
          let s := countPackage 0x07 s
          match w.place with
          | .anchor =>
            if nodeRedirect b = 0 then
              if nodeOk b true 0 0 (2 ^ 45) t.bytes none then walkOn w a b 0 (2 ^ 45) s else walkBad w a s
            else if redirectOk b t.root t.bytes then
              modWalk w.id (fun x => { x with place := .root, offset := nodeRedirect b }) s
            else walkBad w a s
          | .root =>
            if nodeOk b false 0 0 (2 ^ 45) t.bytes none then walkOn w a b 0 (2 ^ 45) s else walkBad w a s
          | .node level height low high =>
            if nodeOk b false level low high t.bytes (some height) then walkOn w a b level high s
            else walkBad w a s
          | .install _ _ => s

/-- A walk's next step: its node, or the end of the leases that it waits for (R203, R210). -/
def walkStep (w : Walk) (s : State) : State :=
  match w.place with
  | .install _ _ => tryInstall w s
  | _ => nodeRead w s

end Sys2Proof.Machine
end

