-- ==== Sys2Proof/Machine/Events.lean ====
section
/-!
DEFINITION. Event rings, interrupt registers and idle hints (11_events_interrupts, R348 to R364).
-/
namespace Sys2Proof.Machine

/-- A record's 32 bytes with its Phase bit (R348). -/
def eventBytes (r : EvRec) (phase : Bool) : Bytes :=
  leBytes 8 (bit phase 63 + r.kind * 2 ^ 48 + r.info * 2 ^ 32 +
      (match r.ctx with | some c => 2 ^ 20 + c.toNat | none => 0))
    ++ leBytes 8 r.data0.toNat ++ leBytes 8 r.data1.toNat ++ leBytes 8 r.gtc.toNat

/-- Records in a ring that the driver has not consumed (R350). -/
def ringUsed (r : Ring) : Nat := (r.producer - r.consumer).toNat

/-- Phase of a record index (R351). -/
def phaseOf (i n : Nat) : Bool := (i >>> n) % 2 == 0

def getRing (s : State) (g : Fun) (r : Nat) : Option Ring := assocGet (getFn s g).int.rings r

def setRing (g : Fun) (r : Nat) (x : Ring) (s : State) : State :=
  modInt g (fun y => { y with rings := assocPut y.rings r x }) s

/-- Write a record into a live ring, advance Producer and fire the ring's source (R348, R350, R354). Where no write
issues any more, none of this happens (12, R387). -/
def putRecord (g : Fun) (r : Nat) (x : Ring) (e : EvRec) (s : State) : State :=
  if !dmaOpen s then s else
  let i := x.producer.toNat
  let s := hostWrite g (x.base.toNat + 32 * (i % 2 ^ x.log2)) none (eventBytes e (phaseOf i x.log2)) s
  fire g r (setRing g r { x with producer := x.producer + 1 } s)

/-- Write RING_OVERFLOW once the ring has a free slot, the function is not stalled, and no held record of the function
is still to be written (R352, R369). -/
def tryOverflow (g : Fun) (r : Nat) (s : State) : State :=
  match getRing s g r with
  | none => s
  | some x =>
    if x.overflow && ringUsed x < 2 ^ x.log2 && !fnStalled s g && (getFn s g).int.held.isEmpty then
      putRecord g r { x with overflow := false, dropped := 0 }
        ⟨r, 0x06, 0, none, w64 (min x.dropped (2 ^ 64 - 1)), 0, s.gtc⟩ s
    else s

/-- Drop a record: it counts against its ring (R352). -/
def dropRecord (g : Fun) (r : Nat) (x : Ring) (s : State) : State :=
  countFn g 0x12 (setRing g r { x with overflow := true, dropped := x.dropped + 1 } s)

/-- Bring a record to its ring: a ring that is not live loses it, a full ring drops it (R349, R352). A ring that owes
a RING_OVERFLOW takes only the records held over a stall, which go before it (R353, R369). -/
def deliverRecord (g : Fun) (held : Bool) (e : EvRec) (s : State) : State :=
  match getRing s g e.ring with
  | none => countFn g 0x11 s
  | some x =>
    if ringUsed x < 2 ^ x.log2 - 1 && (held || !x.overflow) then putRecord g e.ring x e s
    else tryOverflow g e.ring (dropRecord g e.ring x s)

/-- Hold a record during a stall, at most 4,096 (R353). -/
def holdRecord (g : Fun) (e : EvRec) (s : State) : State :=
  if (getFn s g).int.held.length < 4096 then modInt g (fun x => { x with held := x.held ++ [e] }) s
  else match getRing s g e.ring with
    | none => countFn g 0x11 s
    | some x => dropRecord g e.ring x s

/-- A stall has ended: the held records are written in their order, then the RING_OVERFLOW records that rings owe
(R353, R369). -/
def releaseHeld (g : Fun) (s : State) : State :=
  if fnStalled s g || !dmaOpen s then s
  else
    let s := foldState (fun e s => deliverRecord g true e (modInt g (fun y => { y with held := y.held.tail }) s))
      (getFn s g).int.held s
    foldState (fun r s => tryOverflow g r.1 s) (getFn s g).int.rings s

/-- The next record of a function, where writes issue at all: during a stall the oldest formed record is held;
otherwise it is written, after all that a stall has left (R353, R369; 12, R387). -/
def writeEventRecord (g : Fun) (s : State) : State :=
  if !dmaOpen s then s
  else if fnStalled s g then
    match (getFn s g).int.formed with
    | [] => s
    | e :: es => holdRecord g e (modInt g (fun y => { y with formed := es }) s)
  else
    let s := releaseHeld g s
    match (getFn s g).int.formed with
    | [] => s
    | e :: es => deliverRecord g false e (modInt g (fun y => { y with formed := es }) s)

/-- EVENT_RECORD_WRITE: the event logic issues a function's next record (R348 to R353). -/
def execEventRecordWrite (g : Fun) (s : State) : Out := .next (writeEventRecord g s)

/-- A Consumer write: one that would leave more than 2^n records unread is discarded and counted (R352,
R364). -/
def writeConsumer (g : Fun) (r : Nat) (v : U32) (s : State) : State :=
  match getRing s g r with
  | none => s
  | some x =>
    if 2 ^ x.log2 < (x.producer - v).toNat then countFn g 0x01 s
    else tryOverflow g r (setRing g r { x with consumer := v } s)

/-- RING_CONSUMER_WRITE: bits 63:32 of RingIndex r (R363, R364). -/
def execRingConsumerWrite (g : Fun) (r : U8) (v : U32) (s : State) : Out :=
  .next (barWrite g (writeConsumer g r.toNat v) s)

/-- WEIR_DELAY_EXPIRY: a weir whose delay has passed opens (R357). -/
def execWeirDelayExpiry (g : Fun) (s : State) : Out := .next (runWeir g s s)

/-- Bits of qword `k` among the 320 source bits. -/
def sourceBits (k : Fin 5) (v : U64) : BitVec 320 := v.setWidth 320 <<< (64 * k.val)

/-- Clear latches: writing 1 clears, 0 has no effect (R363). -/
def clearLatches (g : Fun) (k : Fin 5) (v : U64) (s : State) : State :=
  runWeir g s (modInt g (fun x => { x with latches := x.latches &&& ~~~ sourceBits k v }) s)

/-- INT_PENDING_CLEAR: a write of an IntPending qword (R355, R363). -/
def execIntPendingClear (g : Fun) (k : Fin 5) (v : U64) (s : State) : Out :=
  .next (barWrite g (clearLatches g k v) s)

/-- The bits of the 259 sources (R354, R363). -/
def validSources : BitVec 320 := (BitVec.allOnes 259).setWidth 320

/-- A weir opens as it stands: Assert_INTx where it reaches the pin, PM_PME in D3hot (R357; 02, R55 to R57). -/
def openWeir (g : Fun) (before s : State) : State :=
  let s := modInt g (fun x => { x with weir := .opened }) s
  let c := (getFn s g).cfg
  let s := if c.d3hot && c.pmeEn then emit (.pmPme g) (modCfg g (fun x => { x with pmeStatus := true }) s) else s
  settleIntx before (portOf g) s

/-- A weir that holds may open within the 120 counts that a mask write takes to act (R357, R361). -/
def opensSoon (g : Fun) (s : State) : Bool :=
  let x := (getFn s g).int
  x.weir == .holding &&
    (weirBypassed s g || nsCounts x.delayNs ≤ (s.gtc - x.weirGtc).toNat + 120)

/-- Write one mask qword. When the write masks every source for which a weir is HOLDING and the weir can open within
the 120 counts, one interrupt may still leave, an Assert_INTx or a PM_PME (R361): whether the weir opens is free, and
MaskedInterruptsLeaked counts a message that leaves. A mask is in force at once otherwise. -/
def writeMask (g : Fun) (k : Fin 5) (v : U64) (s : State) : State :=
  let s' := modInt g (fun x => { x with
    masks := ((x.masks &&& ~~~ sourceBits k (BitVec.allOnes 64)) ||| sourceBits k v)
      &&& validSources }) s
  let may := opensSoon g s && !rawSummary (getFn s' g).int
  let s' := if may then draw s' else s'
  if may && Config.choice s.draws 2 % 2 == 1 then
    let s1 := openWeir g s s'
    runWeir g s1 (if s1.out == s'.out then s1 else countFn g 0x14 s1)
  else runWeir g s s'

/-- INT_MASK_WRITE: a write of an IntMask qword (R361, R363). -/
def execIntMaskWrite (g : Fun) (k : Fin 5) (v : U64) (s : State) : Out :=
  .next (barWrite g (writeMask g k v) s)

/-- Set DelayNs, at most 1,000,000; a weir that holds follows the new delay from its entry (R357, R363,
R369). -/
def setDelay (g : Fun) (ns : Nat) (s : State) : State :=
  runWeir g s (modInt g (fun x => { x with delayNs := min ns 1000000 }) s)

/-- Set TargetDie; on ports 1 to 3 writes are ignored (R363). -/
def setTargetDie (g : Fun) (d : Nat) (s : State) : State :=
  if portOf g = 0 then
    runWeir g s (modInt g (fun x => { x with targetDie := Fin.ofNat 4 d }) s)
  else s

/-- INT_MODERATION_WRITE: a write of IntModeration (R363). -/
def execIntModerationWrite (g : Fun) (v : U64) (s : State) : Out :=
  .next (barWrite g (fun s => setDelay g (field v.toNat 19 0) (setTargetDie g (field v.toNat 23 22) s)) s)

/-- Record a die's hint and let the weirs of port 0 see it (R358, R359). -/
def takeHint (d : Die) (idle : Bool) (s : State) : State :=
  let m : BitVec 4 := (1 : BitVec 4) <<< d.val
  let s := { s with idle := if idle then s.idle ||| m else s.idle &&& ~~~ m }
  foldState (fun g s => runWeir g s s) (fnsOf 0) s

/-- IDLE_HINT: a processor die reports IDLE or BUSY on port 0 (R359). -/
def execIdleHint (d : Die) (idle : Bool) (s : State) : Out := .next (takeHint d idle s)

end Sys2Proof.Machine
end

