-- ==== Sys2Proof/Machine/Schedule.lean ====
section
/-!
DEFINITION. The schedule of a fixed-schedule context and the checks of its creation (10_determinism, R314
to R316, R322, R336; 06_translation, R211).
-/
namespace Sys2Proof.Machine

/-- The first 320 bytes of a ScheduleObject (R314). -/
structure Sched where
  slotMask : Nat
  engines : List Nat
  clusterBase : Nat
  clusterCount : Nat
  /-- scratch spans: VA and bytes -/
  spans : List (Nat × Nat)
  moraine : Nat
  logMode : Nat
  anchor : Nat
  deriving DecidableEq, Repr

/-- Scratch span `i` of a schedule (R314). -/
def schedSpan (b : Bytes) (i : Nat) : Nat × Nat := (qwordAt b (8 + 2 * i), qwordAt b (9 + 2 * i))

/-- The fields of a schedule (R314). -/
def schedOf (b : Bytes) : Sched :=
  { slotMask := field (qwordAt b 1) 15 0
    engines := (List.range (field (qwordAt b 0) 31 24)).map fun j => field (qwordAt b 2 >>> (8 * j)) 7 0
    clusterBase := field (qwordAt b 3) 9 0
    clusterCount := field (qwordAt b 3) 25 16
    spans := (List.range (field (qwordAt b 4) 7 0)).map (schedSpan b)
    moraine := qwordAt b 5
    logMode := field (qwordAt b 6) 1 0
    anchor := qwordAt b 7 }

/-- Whether spans overlap one another. -/
def spansOverlap : List (Nat × Nat) → Bool
  | [] => false
  | x :: l => (l.any fun y => spansMeet x.1 x.2 y.1 y.2) || spansOverlap l

/-- The layout rules of R314: magic, version, ranges, reserved fields and scratch spans. -/
def schedLayoutOk (b : Bytes) : Bool :=
  let x := schedOf b
  let n := field (qwordAt b 0) 31 24
  field (qwordAt b 0) 15 0 == 0x5346 && field (qwordAt b 0) 23 16 == 1 && 1 ≤ n && n ≤ 4 &&
  qwordAt b 0 >>> 32 == 0 && qwordAt b 1 >>> 16 == 0 && x.slotMask != 0 &&
  qwordAt b 2 >>> (8 * n) == 0 && (x.engines.all (· < 32)) &&
  qwordAt b 3 >>> 26 == 0 && field (qwordAt b 3) 15 10 == 0 && x.clusterCount ≤ 960 &&
  qwordAt b 4 >>> 8 == 0 && field (qwordAt b 4) 7 0 ≤ 16 &&
  qwordAt b 6 >>> 2 == 0 && x.logMode ≤ 2 && (x.logMode != 0 || x.moraine == 0) &&
  (x.spans.all fun p => p.1 >>> 57 == 0 && p.1 % 65536 == 0 && 65536 ≤ p.2 && p.2 % 65536 == 0) &&
  !spansOverlap x.spans

/-- The schedules of the live fixed-schedule contexts. -/
def liveSchedules (s : State) : List FixedSt := s.obj.ctxs.filterMap fun e => e.2.fixed

/-- Reserved engines of live contexts (R316). -/
def reservedEngines (s : State) : List Nat := ((liveSchedules s).flatMap (·.engines)).eraseDups

/-- An engine can be assigned: its group is on and enabled, and it is not fenced (R339; 14, R426). -/
def engineUsable (s : State) (e : Nat) : Bool :=
  s.power.on.getLsbD (28 + e / 4) && (objNum s 0xB000 5).testBit (e / 4) &&
    !s.det.enginesFenced.getLsbD e

/-- ScratchPartitionFree (R347). -/
def scratchFree (s : State) : Nat :=
  s.det.scratchBytes - (pinnedSpans s).foldl (fun a p => a + p.2) 0

/-! ### Walking a whole table (06, R211) -/

/-- What the walk of a whole table has come to so far. -/
abbrev TreeOut := WalkOut (List RangeEnt)

/-- Go on from what a walk has come to, with its node reads counted; one that has stopped goes no further. -/
def TreeOut.next (w : TreeOut) (f : List RangeEnt → TreeOut) : TreeOut :=
  match w.result with
  | .error _ => w
  | .ok rs => let v := f rs; ⟨w.reads + v.reads, v.malformed, v.gate, v.result⟩

/-- The ranges under a checked node, or what stopped the walk. -/
def collect (s : State) (t : TableAt) (h : Nat) : Nat → Bytes → Nat → Nat → TreeOut
  | 0, _, _, _ => walkMalformed 0
  | fuel + 1, b, level, high =>
    if nodeLeaf b then ⟨0, false, none, .ok ((List.range (nodeCount b)).map (rangeEnt b))⟩
    else
      (List.range (nodeCount b)).foldl (fun (acc : TreeOut) i => acc.next fun rs =>
          let lo := (childEnt b i).1
          let hi := if i + 1 < nodeCount b then (childEnt b (i + 1)).1 else high
          let off := (childEnt b i).2.1
          match readNode s t off with
          | .error e => walkStop s t .anchor off 0 e
          | .ok c =>
            if nodeOk c false (level + 1) lo hi t.bytes (some h) then
              let w := collect s t h fuel c (level + 1) hi
              ⟨1 + w.reads, w.malformed, w.gate, w.result.map fun more => rs ++ more⟩
            else walkMalformed 1) ⟨0, false, none, .ok []⟩

/-- The tree under a root that has been read. -/
def collectRoot (s : State) (t : TableAt) (b : Bytes) (anchor : Bool) : TreeOut :=
  if nodeOk b anchor 0 0 (2 ^ 45) t.bytes none then
    let w := collect s t (nodeHeight b) 5 b 0 (2 ^ 45)
    { w with reads := 1 + w.reads }
  else walkMalformed 1

/-- Every range of a table, with the node reads, the malformed node that ends the walk, and the node whose lines
processor dies hold (R196, R211). -/
def wholeTable (s : State) (t : TableAt) : TreeOut :=
  match readNode s t t.root with
  | .error e => walkStop s t .anchor t.root 0 e
  | .ok a =>
    if nodeRedirect a = 0 then collectRoot s t a true
    else if redirectOk a t.root t.bytes then
      match readNode s t (nodeRedirect a) with
      | .error e => walkStop s t .root (nodeRedirect a) 1 e
      | .ok b => let w := collectRoot s t b false; { w with reads := 1 + w.reads }
    else walkMalformed 1

/-- The locked entries that a table gives a context, or the fault that refuses it. A POOL range is refused
while the extent is being scrubbed (13, R411). -/
def lockedEntries (s : State) (c : CtxId) (a : Asker) : List RangeEnt → Except TOut (List REntry)
  | [] => .ok []
  | r :: rs =>
    match checkTarget s (.ctx c) a r with
    | .error e => .error e
    | .ok e =>
      if e.ttype = 1 && extentScrub s a.fn then .error .wait
      else match lockedEntries s c a rs with
        | .error x => .error x
        | .ok es => .ok ({ e with locked := true } :: es)

/-- Install locked entries. -/
def installLocked (es : List REntry) (s : State) : State := foldState install es s

/-! ### Scratch spans (R315, R322) -/

/-- The pool spans behind a scratch span, when each of its bytes lies in a locked POOL or OBJECT range with
ATOMIC. -/
def scratchRuns (es : List REntry) : Nat → Nat → Nat → Option (List (Nat × Nat))
  | 0, _, n => if n = 0 then some [] else none
  | fuel + 1, va, n =>
    if n = 0 then some []
    else match es.find? fun e => 4096 * e.start ≤ va && va < 4096 * (e.start + e.len) with
      | none => none
      | some e =>
        if (e.ttype == 1 || e.ttype == 4) && e.effA then
          let k := min n (4096 * (e.start + e.len) - va)
          (scratchRuns es fuel (va + k) (n - k)).map fun l => (e.base + (va - 4096 * e.start), k) :: l
        else none

/-- The pool spans behind every scratch span. -/
def scratchSpans (es : List REntry) : List (Nat × Nat) → Option (List (Nat × Nat))
  | [] => some []
  | p :: ps =>
    match scratchRuns es (es.length + 1) p.1 p.2, scratchSpans es ps with
    | some a, some b => some (a ++ b)
    | _, _ => none

/-! ### The moraine object (R335, R336) -/

/-- Whether a log can be replayed (R336). -/
def replayable (s : State) (o : MemObj) : Bool :=
  let b := poolBytes s o.base 64
  let q0 := qwordAt b 0
  field q0 15 0 == 0x4C4D && field q0 23 16 == 1 && (field q0 31 24 == 1 || field q0 31 24 == 4) &&
    qwordAt b 3 < qwordAt b 2

/-- Whether the MoraineObject of a schedule serves (R315, BAD_MORAINE). -/
def moraineOk (s : State) (g : Fun) (x : Sched) : Bool :=
  x.logMode == 0 ||
    match liveObj s x.moraine with
    | none => false
    | some o => o.owner == g && 65536 ≤ o.bytes && (x.logMode != 2 || replayable s o)

/-- The moraine header of a schedule, where its log mode reads or writes it (R335, R337). -/
def moraineHeader (s : State) (x : Sched) : Option (Nat × Nat) :=
  if x.logMode = 0 then none else (liveObj s x.moraine).map fun o => (o.base, 64)

/-- What a creation waits for that processor dies hold: the 320 bytes of the schedule, then the header of the log that it
replays (R314, R336; 08, R280). -/
def scheduleGate (s : State) (o : MemObj) : Option (Nat × Nat) :=
  if gated s o.base 320 false none then some (o.base, 320)
  else
    let x := schedOf (poolBytes s o.base 320)
    if x.logMode = 2 then (moraineHeader s x).filter fun p => gated s p.1 p.2 false none else none

/-- ReplayAnchorGtc obeys R314. -/
def anchorOk (s : State) (x : Sched) : Bool :=
  if x.logMode = 2 then x.anchor % 8192 == 0 && s.gtc.toNat < x.anchor else x.anchor == 0

/-! ### The checks of R315 -/

/-- The refusals of a schedule ahead of the walk of the table: the code of the first, in the order of R315. -/
def earlyRefusal (s : State) (o : MemObj) : Option Nat :=
  let b := poolBytes s o.base 320
  let x := schedOf b
  let live := liveSchedules s
  if !schedLayoutOk b then some 1
  else if live.any fun f => f.slotMask &&& BitVec.ofNat 16 x.slotMask != 0 then some 2
  else if (x.engines.any fun e => (reservedEngines s).contains e) ||
      16 < (reservedEngines s ++ x.engines).eraseDups.length then some 3
  else if x.engines.any fun e => !engineUsable s e then some 4
  else if clustersOf s.variant < x.clusterBase + x.clusterCount || (live.any fun f =>
      spansMeet f.clusterBase f.clusterCount x.clusterBase x.clusterCount) then some 5
  else if s.det.fenced.any fun n => x.clusterBase ≤ n && n < x.clusterBase + x.clusterCount then some 6
  else
    let total := x.spans.foldl (fun t p => t + p.2) 0
    if 0x1000000 < total || scratchFree s < total then some 7 else none

/-- What a schedule comes to, given the ranges of its table: the entries to lock, the pool spans to pin, and the
schedule; or the code of the reason that rejects it. The order of the reasons is that of the table, but that the
ranges are walked before the scratch spans are looked up in them. -/
def checkSchedule (s : State) (g : Fun) (c : CtxId) (a : Asker) (o : MemObj) (rs : List RangeEnt) :
    Except Nat (Sched × List REntry × List (Nat × Nat)) :=
  let x := schedOf (poolBytes s o.base 320)
  if 16384 < rs.length ||
      24576 < ((getBank s (bankOf s (.ctx c))).filter (·.locked)).length + rs.length then .error 9
  else match lockedEntries s c a rs with
    | .error _ => .error 10
    | .ok es =>
      match scratchSpans es x.spans with
      | none => .error 8
      | some pins =>
        if pins.any fun p => (pinnedSpans s).any fun q => spansMeet p.1 p.2 q.1 q.2 then .error 8
        else if !moraineOk s g x then .error 11
        else if !anchorOk s x then .error 12
        else if s.det.mode = .staging || s.det.mode = .commitPending then .error 13
        else .ok (x, es, pins)

/-- Unlocked leased entries that stand in the way of `n` more entries of a bank (06, R210). -/
def blockers (s : State) (b n : Nat) : List Nat :=
  let l := getBank s b
  let room := 32768 - l.length + (l.filter fun x => !x.locked && !leased s x).length
  ((l.filter fun x => !x.locked && leased s x).take (n - room)).map (·.id)

/-- LogMode of a code (R314). -/
def logModeOf : Nat → LogMode
  | 0 => .off
  | 1 => .record
  | _ => .replay

/-- The schedule that a context record keeps (R314, R322, R329). -/
def fixedOf (x : Sched) (pins : List (Nat × Nat)) : FixedSt :=
  { slotMask := BitVec.ofNat 16 x.slotMask, engines := x.engines, clusterBase := x.clusterBase,
    clusterCount := x.clusterCount, scratch := pins, logMode := logModeOf x.logMode,
    moraine := w64 x.moraine, replayAnchor := w64 x.anchor, cycleExact := true, toLog := [],
    overflowed := false, live := false, stalled := false, replayWaits := [], cursor := 0, paired := 0, setAside := [],
    logWrites := [], gone := [] }

/-- Set up the moraine header at creation (R335, R337). -/
def startMoraine (x : Sched) (s : State) : State :=
  match liveObj s x.moraine with
  | none => s
  | some o =>
    if x.logMode = 1 then
      poolWrite o.base (leBytes 8 (2 ^ 24 + 2 ^ 16 + 0x4C4D) ++ List.replicate 32 0) true s
    else if x.logMode = 2 then poolWrite (o.base + 3) [3] true s
    else s

end Sys2Proof.Machine
end

