-- ==== Sys2Proof/Machine/Admin.lean ====
section
/-!
DEFINITION. The admin queue of a function (04_objects_lifecycle, R120 to R126): its registers, the reading
of entries and the writing of completion records.
-/
namespace Sys2Proof.Machine

/-- Log2Entries in range (R120). -/
def ringLogOk (n : Nat) : Bool := 6 ≤ n && n ≤ 12

/-- The package is declared ready (15_bringup_firmware, R462). -/
def isReady (s : State) : Bool := s.boot.state == .ready

/-- State of the admin queue (R120, R154). -/
def adminState (s : State) (g : Fun) : QState :=
  let a := (getFn s g).admin
  if a.error ≠ .none then .error
  else if a.sqEnable && a.cqEnable then (if fnStalled s g then .stalled else .running)
  else .disabled

/-- Completion records are held: the completion ring's Enable is 0, or its geometry is bad (R122). -/
def adminHolds (a : AdminQ) : Bool := !a.cqEnable || !ringLogOk a.cqLog2

/-- The completion ring is full (R122). -/
def cqFull (a : AdminQ) : Bool := 2 ^ a.cqLog2 ≤ (a.cqTail - a.cqHead).toNat

/-- The first error code stays until the queue leaves ERROR (R121). -/
def keepError (old new : QError) : QError := if old = .none then new else old

/-- What setting an Enable does once both fields are stored: both Enables set after both were clear start
the queue afresh, and a bad geometry enters ERROR (R121). -/
def ringStarts (sq : Bool) (a : AdminQ) : AdminQ :=
  if a.sqEnable && a.cqEnable && a.cleared then
    { a with
      cleared := false, sqTail := 0, sqHead := 0, cqHead := 0, cqTail := 0
      error := if ringLogOk a.sqLog2 && ringLogOk a.cqLog2 then .none else .badGeometry }
  else if ringLogOk (if sq then a.sqLog2 else a.cqLog2) then a
  else { a with error := keepError a.error .badGeometry }

/-- Both Enables clear: held records are discarded (R122). -/
def ringStops (a : AdminQ) : AdminQ :=
  if !a.sqEnable && !a.cqEnable then { a with cleared := true, held := [] } else a

/-- A write of AdminSqControl (R120, R121). -/
def writeSqControl (v : U64) (a : AdminQ) : AdminQ :=
  let on := v.getLsbD 31
  let b := { a with sqEnable := on, sqLog2 := if a.sqEnable then a.sqLog2 else field v.toNat 3 0 }
  ringStops (if on && !a.sqEnable then ringStarts true b else b)

/-- A write of AdminCqControl (R120 to R122). -/
def writeCqControl (v : U64) (a : AdminQ) : AdminQ :=
  let on := v.getLsbD 31
  let b := { a with cqEnable := on, cqLog2 := if a.cqEnable then a.cqLog2 else field v.toNat 3 0 }
  ringStops (if on && !a.cqEnable then ringStarts false b else b)

/-- A write of AdminSqTail (R121). -/
def writeSqTail (v : U64) (a : AdminQ) : AdminQ :=
  let t : U16 := BitVec.ofNat 16 v.toNat
  if 2 ^ a.sqLog2 < (t - a.sqHead).toNat then { a with error := keepError a.error .badTail }
  else { a with sqTail := t }

/-- A write of AdminSqBase or AdminCqBase; ignored while the ring's Enable is 1 (R121). -/
def writeSqBase (v : U64) (a : AdminQ) : AdminQ :=
  if a.sqEnable then a else { a with sqBase := w64 (v.toNat / 4096 * 4096) }
def writeCqBase (v : U64) (a : AdminQ) : AdminQ :=
  if a.cqEnable then a else { a with cqBase := w64 (v.toNat / 4096 * 4096) }

/-- The queue reads entries: nothing has stopped it (R121). -/
def adminOpen (s : State) (g : Fun) : Bool :=
  let a := (getFn s g).admin
  fnPresent s g && (getFn s g).abort.isNone && a.sqEnable && a.error == .none

/-- The queue has an entry to read and nothing forbids reading it (R121, R122, R124; 02, R73). -/
def adminReads (s : State) (g : Fun) : Bool :=
  let a := (getFn s g).admin
  adminOpen s g && a.taken.isNone && a.sqTail != a.sqHead && !cqFull a && !(adminHolds a && !a.held.isEmpty) &&
    a.cqEnable && !fnStalled s g && !packageHeld s

/-- Entry `i` lies in slot i mod 2^n (R121). -/
def adminSlot (a : AdminQ) (i : U16) : Nat := a.sqBase.toNat + 64 * (i.toNat % 2 ^ a.sqLog2)

/-- Issue the read of the next entry on the function's port, untranslated and without a PASID, when it may be read
and no read is out (R120, R124). -/
def askAdmin (g : Fun) (s : State) : State :=
  if adminReads s g && !readsOut s (portOf g) (.admin g true) then
    hostRead g (.admin g true) (adminSlot (getFn s g).admin (getFn s g).admin.sqHead) 0 64 none [] s
  else s

/-- Reads have stopped: the entry whose read is in flight will not be taken (R121). -/
def stopAdmin (g : Fun) (s : State) : State :=
  if (getFn s g).admin.sqEnable then s
  else modPort (portOf g) (fun x => { x with
    tags := x.tags.map fun t => if t.use == .admin g true then { t with use := .admin g false } else t
    waits := x.waits.filter fun w => w.use != .admin g true }) s

/-- A register of the admin queue takes a value: then reads stop, or the next entry is read (R121). -/
def writeAdmin (g : Fun) (f : AdminQ → AdminQ) (s : State) : State := askAdmin g (stopAdmin g (modAdmin g f s))

/-- A register write of the admin queue (R120). -/
def adminWrite (g : Fun) (f : AdminQ → AdminQ) (s : State) : State := barWrite g (writeAdmin g f) s

/-- ADMIN_SQ_CONTROL_WRITE (R121). -/
def execAdminSqControlWrite (g : Fun) (v : U64) (s : State) : Out := .next (adminWrite g (writeSqControl v) s)

/-- ADMIN_CQ_CONTROL_WRITE (R122). -/
def execAdminCqControlWrite (g : Fun) (v : U64) (s : State) : Out := .next (adminWrite g (writeCqControl v) s)

/-- ADMIN_SQ_TAIL_WRITE (R121). -/
def execAdminSqTailWrite (g : Fun) (v : U64) (s : State) : Out := .next (adminWrite g (writeSqTail v) s)

/-- ADMIN_CQ_HEAD_WRITE (R122). -/
def execAdminCqHeadWrite (g : Fun) (v : U64) (s : State) : Out :=
  .next (adminWrite g (fun a => { a with cqHead := BitVec.ofNat 16 v.toNat }) s)

/-- Take an entry that has arrived, or enter ERROR with DMA_ERROR (R121, R124). -/
def takeEntry (ok : Bool) (entry : Bytes) (a : AdminQ) : AdminQ :=
  if ok then { a with taken := some (padTo 64 entry), sqHead := a.sqHead + 1 }
  else { a with error := keepError a.error .dmaError }

/-- The read of an entry ends: the entry is taken where reads have not stopped since it was issued (R121, R124). Also
where the queue has entered ERROR meanwhile its data is discarded and AdminSqHead stays: the manual says so only of
clearing Enable, a DESIGN CHOICE. -/
def entryComes (g : Fun) (live ok : Bool) (entry : Bytes) (s : State) : State :=
  if live && adminOpen s g then modAdmin g (takeEntry ok entry) s else s

/-- Admin status code (R126). -/
def aStatusCode : AStatus → Nat
  | .success => 0x0000
  | .badOpcode => 0x0001
  | .badField => 0x0002
  | .quotaExceeded => 0x0003
  | .noSlot => 0x0004
  | .noPool => 0x0005
  | .staleHandle => 0x0006
  | .notOwner => 0x0007
  | .contextState => 0x0008
  | .objectInUse => 0x0009
  | .slotBound => 0x000A
  | .ringInUse => 0x000B
  | .notReady => 0x000C
  | .scheduleRejected => 0x000D

/-- A completion record (R122, R123). -/
def completionBytes (a : AdminQ) (d : AdminDone) : Bytes :=
  leBytes 8 d.result.toNat ++
    leBytes 8 (aStatusCode d.status * 2 ^ 48 + d.tag.toNat * 2 ^ 32 + a.sqHead.toNat * 2 ^ 16
      + bit (phaseOf a.cqTail.toNat a.cqLog2) 0)

/-- Write the oldest completion into its slot and fire source 256, where the write issues (R122; 11, R354; 12, R387). -/
def writeCompletion (g : Fun) (s : State) : State :=
  let a := (getFn s g).admin
  match a.held with
  | [] => s
  | d :: ds =>
    if adminHolds a || cqFull a || fnStalled s g || !dmaOpen s then s
    else
      let at_ := a.cqBase.toNat + 16 * (a.cqTail.toNat % 2 ^ a.cqLog2)
      let s := hostWrite g at_ none (completionBytes a d) s
      askAdmin g (fire g 256 (modAdmin g (fun a => { a with held := ds, cqTail := a.cqTail + 1 }) s))

/-- ADMIN_COMPLETION_WRITE (R122). -/
def execAdminCompletionWrite (g : Fun) (s : State) : Out := .next (writeCompletion g s)

/-! ### Entries -/

def entOpcode (b : Bytes) : Nat := field (qwordAt b 0) 15 0
def entFlags (b : Bytes) : Nat := field (qwordAt b 0) 31 16
def entTag (b : Bytes) : U16 := BitVec.ofNat 16 (field (qwordAt b 0) 47 32)

/-- Qwords `i` on of an entry are zero. -/
def zeroFrom (b : Bytes) (i : Nat) : Bool := (List.range (8 - i)).all fun k => qwordAt b (i + k) == 0

/-- The entry that has been taken is accepted: its checks have passed or its status has been decided, and the next
one may be read (R124). -/
def dropTaken (g : Fun) (s : State) : State := askAdmin g (modAdmin g (fun a => { a with taken := none }) s)

/-- Decide the taken entry of a function: its status and result at once (R126: with any status but SUCCESS
the entry changes nothing and Result is 0). -/
def decide_ (g : Fun) (b : Bytes) (st : AStatus) (result : Nat) (s : State) : State :=
  dropTaken g (adminDone g st (if st = .success then w64 result else 0) (entTag b) s)

/-- Run the meaning of an opcode on the taken entry. Before the package is ready every entry completes with
NOT_READY; a reserved field that is not zero is BAD_FIELD (R124, R126). -/
def withEntry (g : Fun) (op : Nat) (act : Bytes → State → State) (s : State) : State :=
  match (getFn s g).admin.taken with
  | none => s
  | some b =>
    if entOpcode b ≠ op then s
    else if !isReady s then decide_ g b .notReady 0 s
    else if qwordAt b 0 >>> 48 != 0 then decide_ g b .badField 0 s
    else act b s

/-- Opcodes of R125. -/
def adminOpcodes : List Nat := [0x0001, 0x0002, 0x0003, 0x0010, 0x0011, 0x0012, 0x0013, 0x0020, 0x0021]

/-- An entry whose opcode is not in R125 (R124, R126). -/
def badOpcodeEntry (g : Fun) (s : State) : State :=
  match (getFn s g).admin.taken with
  | none => s
  | some b =>
    if adminOpcodes.contains (entOpcode b) then s
    else decide_ g b (if isReady s then .badOpcode else .notReady) 0 s

/-- ADMIN_BAD_OPCODE (R126). -/
def execAdminBadOpcode (g : Fun) (s : State) : Out := .next (badOpcodeEntry g s)

/-! ### Event rings (R153) -/

/-- Fields of CREATE_EVENT_RING are in range and the ring is not live (R153). -/
def eventRingOk (s : State) (g : Fun) (b : Bytes) : Bool :=
  let q2 := qwordAt b 2
  entFlags b == 0 && qwordAt b 1 % 4096 == 0 && q2 >>> 13 == 0 && zeroFrom b 3 &&
    6 ≤ field q2 12 8 && field q2 12 8 ≤ 20 && (getRing s g (field q2 7 0)).isNone

/-- Clear a ring's pending latch and loss counter (11, R350). -/
def clearRingSource (g : Fun) (r : Nat) (s : State) : State :=
  runWeir g s (modInt g (fun x => { x with
    latches := x.latches &&& ~~~ ((1 : BitVec 320) <<< r), loss := assocDel x.loss r }) s)

/-- Make a ring live with both indices at 0 (11, R350). -/
def createRing (g : Fun) (b : Bytes) (s : State) : State :=
  if eventRingOk s g b then
    let r := field (qwordAt b 2) 7 0
    decide_ g b .success 0 (clearRingSource g r (setRing g r
      { base := w64 (qwordAt b 1), log2 := field (qwordAt b 2) 12 8, producer := 0, consumer := 0,
        overflow := false, dropped := 0 } s))
  else decide_ g b .badField 0 s

/-- CREATE_EVENT_RING (R153). -/
def execCreateEventRing (g : Fun) (s : State) : Out := .next (withEntry g 0x0020 (createRing g) s)

/-- A live context or fence object of the function names the ring (R153). -/
def ringNamed (s : State) (g : Fun) (r : Nat) : Bool :=
  (s.obj.ctxs.any fun e => e.2.fn == g && e.2.eventRing == r) ||
    s.obj.objs.any fun o => o.owner == g && o.fence && !o.freed && o.ring == r

/-- Destroy a ring that nothing names (R153); its pending latch is cleared (11, R369). -/
def destroyRing (g : Fun) (b : Bytes) (s : State) : State :=
  let r := field (qwordAt b 1) 7 0
  if !(entFlags b == 0 && qwordAt b 1 >>> 8 == 0 && zeroFrom b 2 && (getRing s g r).isSome) then
    decide_ g b .badField 0 s
  else if ringNamed s g r then decide_ g b .ringInUse 0 s
  else decide_ g b .success 0 (runWeir g s (modInt g (fun x => { x with
    rings := assocDel x.rings r, latches := x.latches &&& ~~~ ((1 : BitVec 320) <<< r) }) s))

/-- DESTROY_EVENT_RING (R153). -/
def execDestroyEventRing (g : Fun) (s : State) : Out := .next (withEntry g 0x0021 (destroyRing g) s)

end Sys2Proof.Machine
end

