-- ==== Sys2Proof/Machine/Contexts.lean ====
section
/-!
DEFINITION. Contexts: creation, query and destruction (04_objects_lifecycle, R127 to R134).
-/
namespace Sys2Proof.Machine

/-- Live contexts of a function, and of its port (R128). -/
def ctxsOfFn (s : State) (g : Fun) : Nat := (s.obj.ctxs.filter fun e => e.2.fn == g).length
def ctxsOfPort (s : State) (p : Port) : Nat := (s.obj.ctxs.filter fun e => portOf e.2.fn == p).length

/-- ContextQuota of a function (R155). -/
def contextQuota (s : State) (g : Fun) : Nat := objNum s (0x4100 + g.val) 1

/-- The context whose doorbell slot this is (R128; 05, R156). -/
def ctxBySlot (s : State) (g : Fun) (slot : Nat) : Option CtxId :=
  (s.obj.ctxs.find? fun e => e.2.fn == g && e.2.slot == slot && e.2.bound).map (·.1)

/-- The context ID that has been free longest: one never used, lowest first, else the one freed first
(R128). -/
def nextCtxId (s : State) : Option CtxId :=
  if s.obj.ctxNext < 2 ^ 20 then some (BitVec.ofNat 20 s.obj.ctxNext) else s.obj.ctxFreed.head?

/-- Take the next context ID. -/
def takeCtxId (s : State) : State :=
  { s with obj := if s.obj.ctxNext < 2 ^ 20 then { s.obj with ctxNext := s.obj.ctxNext + 1 }
      else { s.obj with ctxFreed := s.obj.ctxFreed.tail } }

/-- Fields of CREATE_CONTEXT that the entry alone and the function decide (R127). -/
def createCtxFieldsOk (s : State) (g : Fun) (b : Bytes) : Bool :=
  let q := qwordAt b
  entFlags b ≤ 1 && q 1 >>> 57 == 0 && q 1 % 4096 == 0 &&
  q 2 >>> 48 == 0 && field (q 2) 39 29 == 0 && field (q 2) 23 20 == 0 &&
  6 ≤ field (q 2) 28 24 && field (q 2) 28 24 ≤ 24 && (getRing s g (field (q 2) 47 40)).isSome &&
  field (q 2) 19 0 < contextQuota s g && field (q 2) 19 0 < (getFn s g).cfg.bar2Bytes / 8 &&
  q 4 >>> 40 == 0 && q 4 % 4096 == 0 && q 5 >>> 20 == 0 && q 7 == 0 &&
  (entFlags b == 1 || q 6 == 0)

/-- A handle that must name a live object of the function (R128). -/
def ownedObject (s : State) (g : Fun) (h : Nat) : Except AStatus MemObj :=
  match liveObj s h with
  | none => .error .staleHandle
  | some o => if o.owner = g then .ok o else .error .notOwner

/-- The range table holds the root offset (R127). A table that is not live is refused as stale. -/
def rootInside (s : State) (b : Bytes) : Bool :=
  match liveObj s (qwordAt b 3) with
  | none => true
  | some o => qwordAt b 4 < o.bytes

/-- The asker that a context to be created is (06, R185). -/
def newAsker (g : Fun) (b : Bytes) : Asker :=
  ⟨g, w64 (qwordAt b 3), qwordAt b 4, BitVec.ofNat 20 (qwordAt b 5), entFlags b == 1, none⟩

/-- PROGRAM at creation (10, R331). -/
def programStart (s : State) : Bytes := sha384 (4 :: leBytes 8 s.det.modeWord.toNat)

/-- The record of a new context (R128). -/
def newCtx (s : State) (g : Fun) (b : Bytes) (fixed : Option FixedSt) : Ctx :=
  { state := .ready, fn := g, slot := field (qwordAt b 2) 19 0, bound := true,
    queueBase := w64 (qwordAt b 1), queueLog2 := field (qwordAt b 2) 28 24,
    eventRing := field (qwordAt b 2) 47 40, rangeTable := w64 (qwordAt b 3),
    rootOffset := qwordAt b 4, pasid := BitVec.ofNat 20 (qwordAt b 5), schedule := w64 (qwordAt b 6),
    fixed := fixed, head := 0, tail := 0, submitTag := 0, lostReason := .none, lostGtc := 0,
    createdGtc := s.gtc, completed := 0, lostCompleted := 0, destroyer := none,
    accs := [programStart s, List.replicate 48 0, List.replicate 48 0, List.replicate 48 0],
    program0 := programStart s }

/-- Put a new context into the tables. -/
def addCtx (c : CtxId) (x : Ctx) (s : State) : State :=
  let s := takeCtxId s
  { s with obj := { s.obj with ctxs := insertCtx c x s.obj.ctxs } }

/-- A schedule is rejected with a reason (10, R315). -/
def rejectSchedule (g : Fun) (b : Bytes) (r : Nat) (s : State) : State :=
  decide_ g b .scheduleRejected 0 (modFn g (fun f => { f with rejectReason := r }) s)

/-- Create a fixed-schedule context, or reject its schedule (10, R315). The entry waits for the snoops of the schedule, of
a table node and of the moraine header that dies hold, and for the leases of the entries that the locked ones replace (06, R210, R211; 08, R280). A
poisoned table node, which has no context to lose yet, is TABLE_FAULT: DESIGN CHOICE. -/
def createFixed (g : Fun) (c : CtxId) (b : Bytes) (o : MemObj) (s : State) : State :=
  let i : ErrInfo := { kind := 3, fn := some g, access := 5 }
  let m : ErrInfo := { kind := 2, unit := (portOf g).val, fn := some g, access := 1 }
  if let some p := scheduleGate s o then gateSnoops m p.1 p.2 false none s
  else match earlyRefusal s o, tableAt s (newAsker g b) with
  | some r, _ => rejectSchedule g b r s
  | none, none => rejectSchedule g b 10 s
  | none, some t =>
    let w := wholeTable s t
    match w.result with
    | .error .wait => countWalk i { w with reads := 0 } s
    | .error _ => rejectSchedule g b 10 (countWalk i w s)
    | .ok rs =>
      match checkSchedule s g c (newAsker g b) o rs with
      | .error r => rejectSchedule g b r (countWalk i w s)
      | .ok (x, es, pins) =>
        match blockers s (bankOf s (.ctx c)) es.length with
        | [] =>
          if let some p := (moraineHeader s x).filter fun p => gated s p.1 p.2 true none then
            gateSnoops { m with access := 2 } p.1 p.2 true none s
          else
            decide_ g b .success c.toNat
              (startMoraine x (installLocked es (addCtx c (newCtx s g b (some (fixedOf x pins))) (countWalk i w s))))
        | ids => revokeWhere (fun l => ids.contains l.entry) .replace s

/-- CREATE_CONTEXT on a taken entry: BAD_FIELD first, then the other refusals in the order of R128; the
schedule is checked last. The order of the refusals is a DESIGN CHOICE. -/
def createCtx (g : Fun) (b : Bytes) (s : State) : State :=
  if !createCtxFieldsOk s g b || !rootInside s b then decide_ g b .badField 0 s
  else match ownedObject s g (qwordAt b 3) with
    | .error e => decide_ g b e 0 s
    | .ok _ =>
      let sched : Except AStatus (Option MemObj) :=
        if entFlags b = 1 then (ownedObject s g (qwordAt b 6)).map some else .ok none
      match sched with
      | .error e => decide_ g b e 0 s
      | .ok so =>
        if contextQuota s g ≤ ctxsOfFn s g ||
            objNum s (0x4010 + (portOf g).val) 1 ≤ ctxsOfPort s (portOf g) then
          decide_ g b .quotaExceeded 0 s
        else if (ctxBySlot s g (field (qwordAt b 2) 19 0)).isSome then decide_ g b .slotBound 0 s
        else match nextCtxId s with
          | none => decide_ g b .noSlot 0 s
          | some c =>
            match so with
            | none => decide_ g b .success c.toNat (addCtx c (newCtx s g b none) s)
            | some o => createFixed g c b o s

/-- CREATE_CONTEXT (R127, R128). While a REMAP runs the entry waits, as numbering never changes while a context is live
(10, R340): DEDUCED. -/
def execCreateContext (g : Fun) (s : State) : Out :=
  .next (if s.det.remapping then s else withEntry g 0x0001 (createCtx g) s)

/-- DESTROY_CONTEXT on a taken entry: the forced abort begins, and the completion waits for its end
(R133). -/
def destroyCtx (g : Fun) (b : Bytes) (s : State) : State :=
  let c : CtxId := BitVec.ofNat 20 (qwordAt b 1)
  if !(entFlags b == 0 && qwordAt b 1 >>> 20 == 0 && zeroFrom b 2) then decide_ g b .badField 0 s
  else match ctx? s c with
    | none => decide_ g b .contextState 0 s
    | some x =>
      if x.fn ≠ g then decide_ g b .notOwner 0 s
      else if x.state = .aborting then decide_ g b .contextState 0 s
      else abortContext c (some ⟨g, entTag b⟩) (dropTaken g s)

/-- DESTROY_CONTEXT (R133). -/
def execDestroyContext (g : Fun) (s : State) : Out := .next (withEntry g 0x0002 (destroyCtx g) s)

/-- The forced abort of a context can end: its entries and leases are gone (R133). -/
def abortEnds (s : State) (c : CtxId) : Bool :=
  match ctx? s c with
  | some x => x.state == .aborting && scanOver s (.abort c)
  | none => false

/-- CONTEXT_ABORT_COMPLETE (R133). -/
def execContextAbortComplete (c : CtxId) (s : State) : Out :=
  .next (if abortEnds s c then destroyContext c s else s)

/-- State code of QUERY_CONTEXT (R129). -/
def ctxStateCode : CtxState → Nat
  | .free => 0
  | .ready => 1
  | .lost => 2
  | .aborting => 3

/-- Commands fetched and not yet completed (R134). -/
def inFlight (s : State) (c : CtxId) : Nat :=
  (s.cmd.table.filter fun x => x.ctx == c && (match x.stage with
    | .fetching _ | .short => false
    | _ => true)).length

/-- Fault records of a context that await an answer (R134). -/
def pendingFaults (s : State) (c : CtxId) (g : Fun) : Nat :=
  ((getFn s g).faultq.pending.filter fun r => r.ctx == c).length

/-- The block of QUERY_CONTEXT (R134). -/
def queryBytes (s : State) (c : CtxId) : Bytes :=
  match ctx? s c with
  | none => List.replicate 64 0
  | some x =>
    leBytes 8 (lostCode x.lostReason * 2 ^ 32 + ctxStateCode x.state * 2 ^ 24 + c.toNat)
      ++ leBytes 8 (x.tail.toNat * 2 ^ 24 + x.head.toNat) ++ leBytes 8 x.lostGtc.toNat
      ++ leBytes 8 x.createdGtc.toNat
      ++ leBytes 8 (inFlight s c * 2 ^ 32 + pendingFaults s c x.fn)
      ++ leBytes 8 x.completed.toNat ++ leBytes 8 x.lostCompleted.toNat ++ leBytes 8 0

/-- QUERY_CONTEXT on a taken entry; a stalled function's write waits (R134; 02, R73). -/
def queryCtx (g : Fun) (b : Bytes) (s : State) : State :=
  let c : CtxId := BitVec.ofNat 20 (qwordAt b 1)
  if !(entFlags b == 0 && qwordAt b 1 >>> 20 == 0 && qwordAt b 2 % 64 == 0 && zeroFrom b 3) then
    decide_ g b .badField 0 s
  else if (ctx? s c).any fun x => x.fn != g then decide_ g b .notOwner 0 s
  else if fnStalled s g then s
  else decide_ g b .success 0 (hostWrite g (qwordAt b 2) none (queryBytes s c) s)

/-- QUERY_CONTEXT (R134). -/
def execQueryContext (g : Fun) (s : State) : Out := .next (withEntry g 0x0003 (queryCtx g) s)

end Sys2Proof.Machine
end

