-- ==== Sys2Proof/Machine/MemObjects.lean ====
section
/-!
DEFINITION. Memory objects, grants and fences: creation, freeing and grant changes (04_objects_lifecycle,
R138 to R146), signals, waits and mirrors (R147 to R152).
-/
namespace Sys2Proof.Machine

/-- Live objects, and the pool bytes they take; a MIRRORED object counts twice (R141, R155). -/
def liveObjs (s : State) (p : MemObj → Bool) : List MemObj := s.obj.objs.filter fun o => !o.freed && p o
def objBytesTaken (o : MemObj) : Nat := if o.mirrored then 2 * o.bytes else o.bytes
def bytesTaken (l : List MemObj) : Nat := l.foldl (fun a o => a + objBytesTaken o) 0

/-- Fields of CREATE_OBJECT (R140, R141). -/
def createObjFieldsOk (s : State) (g : Fun) (b : Bytes) : Bool :=
  let q := qwordAt b
  let f := entFlags b
  let shared := f.testBit 0
  let mirrored := f.testBit 1
  let fence := f.testBit 2
  f ≤ 7 && q 2 >>> 32 == 0 && q 3 >>> 21 == 0 && zeroFrom b 5 &&
  4096 ≤ q 1 && q 1 % 4096 == 0 && !(mirrored && !shared) && !(mirrored && fence) &&
  !(shared && (q 3).testBit 20) &&
  (if fence then q 1 ≤ 0x4000000 && (getRing s g (field (q 2) 31 24)).isSome && q 4 % 8 == 0
   else field (q 2) 31 24 == 0 && q 4 == 0)

/-- The context that is to own an object: none, or a READY context of the function (R140). -/
def ownerCtx (s : State) (g : Fun) (b : Bytes) : Except AStatus (Option CtxId) :=
  let c : CtxId := BitVec.ofNat 20 (qwordAt b 3)
  if (qwordAt b 3).testBit 20 then
    match ctx? s c with
    | none => .error .contextState
    | some x =>
      if x.fn ≠ g then .error .notOwner
      else if x.state ≠ .ready then .error .contextState
      else .ok (some c)
  else .ok none

/-- The object would pass a quota of the function or a share of the port (R141, R155). -/
def objQuotaExceeded (s : State) (g : Fun) (cost : Nat) : Bool :=
  let mine := liveObjs s fun o => o.owner == g
  let port := liveObjs s fun o => portOf o.owner == portOf g
  let oq := objNum s (0x4100 + g.val) 5
  let pq := objNum s (0x4100 + g.val) 3
  let p := 0x4010 + (portOf g).val
  (oq != 0xFFFFFFFF && oq < mine.length + 1) ||
    (pq != 0xFFFFFFFF && pq * 2 ^ 30 < bytesTaken mine + cost) ||
    objNum s p 3 < port.length + 1 || objNum s p 2 * 2 ^ 30 < bytesTaken port + cost

/-- The slot of the next object: the one freed longest ago, else the lowest never used (R139). -/
def nextSlot (s : State) : Option Nat :=
  if 16777216 ≤ (liveObjs s fun _ => true).length then none
  else match s.obj.slotsFreed with
    | k :: _ => some k
    | [] => if s.obj.slotsUsed < 67108863 then some (s.obj.slotsUsed + 1) else none

/-- Insert an object by rising slot. -/
def insertObj (o : MemObj) : List MemObj → List MemObj
  | [] => [o]
  | x :: l => if o.slot < x.slot then o :: x :: l else x :: insertObj o l

/-- Put a new object into its slot (R139). -/
def addObj (o : MemObj) (s : State) : State :=
  { s with obj := { s.obj with
    objs := insertObj o s.obj.objs
    slotsFreed := s.obj.slotsFreed.filter (· != o.slot)
    slotsUsed := max s.obj.slotsUsed o.slot } }

/-- The object that an entry asks for, once it is placed (R140). -/
def newObj (s : State) (g : Fun) (b : Bytes) (c : Option CtxId) (slot base : Nat) (mirror : Option Nat) :
    MemObj :=
  let f := entFlags b
  { slot := slot, gen := (assocGet s.obj.gens slot).getD 1, owner := g, ctx := c, bytes := qwordAt b 1,
    shared := f.testBit 0, mirrored := f.testBit 1, fence := f.testBit 2,
    ring := field (qwordAt b 2) 31 24, mirrorBase := qwordAt b 4, base := base, mirrorSpan := mirror,
    grants := [], freed := false, freer := none, changes := [] }

/-- CREATE_OBJECT on a taken entry (R140, R141). The order of its refusals (the fields, the owning context, the quotas,
the slot, the pool) is a DESIGN CHOICE. -/
def createObj (g : Fun) (b : Bytes) (s : State) : State :=
  if !createObjFieldsOk s g b then decide_ g b .badField 0 s
  else match ownerCtx s g b with
    | .error e => decide_ g b e 0 s
    | .ok c =>
      let mirrored := (entFlags b).testBit 1
      if objQuotaExceeded s g (if mirrored then 2 * qwordAt b 1 else qwordAt b 1) then
        decide_ g b .quotaExceeded 0 s
      else match nextSlot s with
        | none => decide_ g b .noSlot 0 s
        | some slot =>
          match placeObject s (field (qwordAt b 2) 23 0) (qwordAt b 1) mirrored with
          | none => decide_ g b .noPool 0 s
          | some (base, mirror) =>
            let o := newObj s g b c slot base mirror
            decide_ g b .success (objHandle o).toNat (addObj o s)

/-- CREATE_OBJECT (R140, R141). -/
def execCreateObject (g : Fun) (s : State) : Out := .next (withEntry g 0x0010 (createObj g) s)

/-- The object is the range-table or schedule object of a live context (R143). -/
def objectInUse (s : State) (o : MemObj) : Bool :=
  s.obj.ctxs.any fun e => e.2.rangeTable == objHandle o || e.2.schedule == objHandle o

/-- FREE_OBJECT on a taken entry (R143). -/
def freeObj (g : Fun) (b : Bytes) (s : State) : State :=
  if !(entFlags b == 0 && zeroFrom b 2) then decide_ g b .badField 0 s
  else match ownedObject s g (qwordAt b 1) with
    | .error e => decide_ g b e 0 s
    | .ok o =>
      if objectInUse s o then decide_ g b .objectInUse 0 s
      else freeStart o.slot (some ⟨g, entTag b⟩) (dropTaken g s)

/-- FREE_OBJECT (R143). -/
def execFreeObject (g : Fun) (s : State) : Out := .next (withEntry g 0x0011 (freeObj g) s)

/-- The drop of a freed object has ended: entries, leases, begun tiles, and coherent windows over it (R143;
08, R282). -/
def freeEnds (s : State) (slot : Nat) : Bool :=
  match obj? s slot with
  | some o => o.freed && scanOver s (.free slot) && !cohClosing s (objHandle o)
  | none => false

/-- FREE_OBJECT_COMPLETE (R143). -/
def execFreeObjectComplete (slot : Nat) (s : State) : Out :=
  .next (if freeEnds s slot then freeFinish slot s else s)

/-! ### Grants (R146) -/

def grantTarget (b : Bytes) : Fun := fun5 (field (qwordAt b 2) 4 0)
def grantRights (b : Bytes) : Nat := field (qwordAt b 2) 9 8

/-- Fields that GRANT_OBJECT and REVOKE_GRANT share; the target is a present function (R146). -/
def grantFieldsOk (s : State) (b : Bytes) : Bool :=
  entFlags b == 0 && field (qwordAt b 2) 7 5 == 0 && qwordAt b 2 >>> 10 == 0 && zeroFrom b 3 &&
    fnPresent s (grantTarget b)

def rightsOf : Nat → Rights
  | 1 => .read
  | 2 => .readWrite
  | _ => .signal

/-- Start the drop of a grantee's entries and leases; the entry completes at its end (R146). -/
def startGrantDrop (slot : Nat) (t : Fun) (r : AdminRef) (s : State) : State :=
  startScan (banksInUse s) (.object slot (some t)) (.grant slot t)
    (modObj slot (fun o => { o with changes := o.changes ++ [(t, r)] }) s)

/-- Give a function rights on an object, replacing those it has. -/
def setGrant (slot : Nat) (t : Fun) (r : Rights) (s : State) : State :=
  modObj slot (fun o => { o with grants := (o.grants.filter fun x => x.1 != t) ++ [(t, r)] }) s

/-- GRANT_OBJECT on a taken entry (R146). An object that is not SHARED is BAD_FIELD, ahead of NOT_OWNER: DESIGN CHOICE,
since R146 names no status for it. -/
def grantObj (g : Fun) (b : Bytes) (s : State) : State :=
  let t := grantTarget b
  if !grantFieldsOk s b || grantRights b == 0 then decide_ g b .badField 0 s
  else match liveObj s (qwordAt b 1) with
    | none => decide_ g b .staleHandle 0 s
    | some o =>
      if !o.shared || t == o.owner || (grantRights b == 3 && !o.fence) then decide_ g b .badField 0 s
      else if o.owner ≠ g then decide_ g b .notOwner 0 s
      else
        let s' := setGrant o.slot t (rightsOf (grantRights b)) s
        if (grantOf o t).isSome then startGrantDrop o.slot t ⟨g, entTag b⟩ (dropTaken g s')
        else decide_ g b .success 0 s'

/-- GRANT_OBJECT (R146). -/
def execGrantObject (g : Fun) (s : State) : Out := .next (withEntry g 0x0012 (grantObj g) s)

/-- REVOKE_GRANT on a taken entry (R146). -/
def revokeObj (g : Fun) (b : Bytes) (s : State) : State :=
  let t := grantTarget b
  if !grantFieldsOk s b || grantRights b != 0 then decide_ g b .badField 0 s
  else match ownedObject s g (qwordAt b 1) with
    | .error e => decide_ g b e 0 s
    | .ok o =>
      if (grantOf o t).isNone then decide_ g b .success 0 s
      else
        startGrantDrop o.slot t ⟨g, entTag b⟩
          (modObj o.slot (fun x => { x with grants := x.grants.filter fun y => y.1 != t })
            (dropTaken g s))

/-- REVOKE_GRANT (R146). -/
def execRevokeGrant (g : Fun) (s : State) : Out := .next (withEntry g 0x0013 (revokeObj g) s)

/-- The drop that follows a change of a grant has ended; after a revocation the grantee's begun tiles have
finished as well (R146). -/
def grantDropEnds (s : State) (slot : Nat) (t : Fun) : Bool :=
  match obj? s slot with
  | some o => (o.changes.any fun c => c.1 == t) && scanOver s (.grant slot t)
  | none => false

/-- Complete the entries that wait for a grantee's drop. -/
def finishGrantDrop (slot : Nat) (t : Fun) (s : State) : State :=
  match obj? s slot with
  | none => s
  | some o =>
    foldState (fun c s => adminDone c.2.fn .success 0 c.2.tag s) (o.changes.filter fun c => c.1 == t)
      (modObj slot (fun x => { x with changes := x.changes.filter fun c => c.1 != t }) s)

/-- GRANT_DROP_COMPLETE (R146). -/
def execGrantDropComplete (slot : Nat) (t : Fun) (s : State) : Out :=
  .next (if grantDropEnds s slot t then finishGrantDrop slot t s else s)

/-! ### Fences (R149 to R152) -/

/-- A fence word that a handle and an index name (R147). -/
def fenceWord (s : State) (h word : Nat) : Option MemObj :=
  (liveObj s h).filter fun o => o.fence && 8 * word < o.bytes

/-- FENCE_SIGNAL: a signal of a function on a fence word (R149, R150). A function that may not signal the
object changes nothing (R145). -/
def execFenceSignal (g : Fun) (h : U64) (word : Nat) (v : U64) (s : State) : Out :=
  .next (match fenceWord s h.toNat word with
    | some o => if maySignal o g then signalFence g none o word v s else s
    | none => s)

/-- The command of a context whose wait is registered (R151). -/
def waitingCmd (s : State) (c : CtxId) : Option Cmd :=
  s.cmd.table.find? fun x => x.ctx == c && x.registered

/-- Release the registered wait of a context once the fence has reached its target (R151). The read of a
poisoned fence line is a context fault (09, R301). -/
def releaseWait (c : CtxId) (s : State) : State :=
  match waitingCmd s c with
  | none => s
  | some x =>
    match (waitRefs x.raw)[x.waits]? with
    | none => s
    | some r =>
      match fenceWord s r.handle r.word with
      | none => s
      | some o =>
        if poisoned s (lineOf (fenceAddr o r.word)) 64 then
          faultCmd c x.q .poisonedData
            { kind := 2, address := w64 (fenceAddr o r.word), addressKind := 1, access := 1 }
            (countPackage 0x17 s)
        else if r.value ≤ fenceValue s o r.word then
          modCmd c x.q (fun y => { y with waits := y.waits + 1, registered := false }) s
        else s

/-- FENCE_WAIT_RELEASE (R151). -/
def execFenceWaitRelease (c : CtxId) (s : State) : Out := .next (releaseWait c s)

/-- Issue the mirror write of a word, unless the owner is stalled (R152). -/
def writeMirror (slot word : Nat) (s : State) : State :=
  match obj? s slot, s.obj.mirrors.find? fun m => m.1 == slot && m.2.1 == word with
  | some o, some m =>
    if fnStalled s o.owner || packageHeld s then s
    else
      hostWrite o.owner (o.mirrorBase + 8 * word) none (leBytes 8 m.2.2.toNat)
        { s with obj := { s.obj with
          mirrors := s.obj.mirrors.filter fun m => !(m.1 == slot && m.2.1 == word) } }
  | _, _ => s

/-- FENCE_MIRROR_WRITE (R152). -/
def execFenceMirrorWrite (slot word : Nat) (s : State) : Out := .next (writeMirror slot word s)

end Sys2Proof.Machine
end

