-- ==== Sys2Proof/Machine/FixedRun.lean ====
section
/-!
DEFINITION. The run of a fixed-schedule context (10_determinism): its time slots, its memory path, its
moraine log and its replay (R317 to R322, R335 to R338).
-/
namespace Sys2Proof.Machine

def fixed? (s : State) (c : CtxId) : Option FixedSt := (ctx? s c).bind (·.fixed)

def modFixed (c : CtxId) (f : FixedSt → FixedSt) (s : State) : State :=
  modCtx c (fun x => { x with fixed := x.fixed.map f }) s

/-- The present count lies in the issue window of a slot of the mask (R317, R318). -/
def inWindow (s : State) (mask : U16) : Bool :=
  mask.getLsbD (s.gtc.toNat % 8192 / 512) && s.gtc.toNat % 512 < 320

/-- A context may issue work now: any context but a fixed-schedule one outside its issue windows (R318). -/
def mayIssue (s : State) (c : CtxId) : Bool :=
  match fixed? s c with
  | some f => inWindow s f.slotMask
  | none => true

/-- A context runs from its log (R337, R338). -/
def replaying (s : State) (c : CtxId) : Bool :=
  match fixed? s c with
  | some f => f.logMode == .replay && !f.live
  | none => false

/-- A recorded stall holds dispatch and delivery (R337). -/
def replayStalled (s : State) (c : CtxId) : Bool :=
  match fixed? s c with
  | some f => f.stalled
  | none => false

/-- Bytes of a pool span as a context reads them: a fixed-schedule context reads over the direct path,
except in pinned lines (R320, R322). -/
def ctxBytes (s : State) (c : CtxId) (a n : Nat) : Bytes :=
  if isFixed s c then
    (List.range n).map fun i =>
      if pinned s (a + i) 1 then memGet s.pool.mem (a + i)
      else (stackLine s (lineOf (a + i))).getD ((a + i) % 64) 0
  else poolBytes s a n

/-- The lines of pool spans that a fixed-schedule context is about to read over the direct path may have been evicted
(R320; 09, R287). -/
def evictBefore (c : CtxId) (runs : List (Nat × Nat × Nat)) (s : State) : State :=
  if isFixed s c then foldState (fun r s => mayEvictSpan r.1 r.2.1 s) runs s else s

/-! ### The moraine log -/

/-- An entry of the log, its Sequence not yet set: kind, GTC, Arg0, queue index and data (R336). -/
def logEntry (kind : Nat) (c : CtxId) (gtc : U64) (arg0 q : Nat) (data : Bytes) : Bytes :=
  leBytes 8 (kind * 2 ^ 56 + data.length * 2 ^ 32 + c.toNat) ++ leBytes 8 gtc.toNat ++ leBytes 8 arg0
    ++ leBytes 8 (q % 2 ^ 24 * 2 ^ 40) ++ padTo ((data.length + 31) / 32 * 32) data

/-- Queue an entry for the log of a recording context (R337). -/
def noteLog (c : CtxId) (e : Bytes) (s : State) : State :=
  modFixed c (fun f =>
    if f.logMode = .record && !f.overflowed then { f with toLog := f.toLog ++ [e] } else f) s

/-- The moraine object of a context, while it is live. -/
def moraineObj (s : State) (f : FixedSt) : Option MemObj := liveObj s f.moraine.toNat

/-- Qword `i` of a moraine header (R335). -/
def moraineQ (s : State) (o : MemObj) (i : Nat) : Nat := leNat (poolBytes s (o.base + 8 * i) 8)

def setMoraineQ (o : MemObj) (i v : Nat) (s : State) : State :=
  poolWrite (o.base + 8 * i) (leBytes 8 v) true s

/-- Set State in a moraine header: 2 OVERFLOWED, 4 REPLAY_DONE, 5 DIVERGED (R335). -/
def setMoraineState (o : MemObj) (st : Nat) (s : State) : State :=
  poolWrite (o.base + 3) [BitVec.ofNat 8 st] true s

/-- Bytes of the log's ring (R335). -/
def logRing (o : MemObj) : Nat := o.bytes - 64

/-- Bytes of the PAD entry that goes before an entry of `n` bytes (R336). -/
def padBefore (s : State) (o : MemObj) (n : Nat) : Nat :=
  let pos := moraineQ s o 2 % logRing o
  if pos + n ≤ logRing o then 0 else logRing o - pos

/-- An entry of `n` bytes would exceed the ring (R337). -/
def logFull (s : State) (o : MemObj) (n : Nat) : Bool :=
  logRing o < moraineQ s o 2 + padBefore s o n + n - moraineQ s o 3

/-- The pool spans that the append of an entry of `n` bytes writes: the header, then what it tells of (R336, R337). -/
def appendSpans (s : State) (o : MemObj) (n : Nat) : List (Nat × Nat) :=
  if gated s o.base 64 true none || logFull s o n then [(o.base, 64)]
  else
    let tail := moraineQ s o 2
    let pad := padBefore s o n
    [(o.base, 64), (o.base + 64 + tail % logRing o, pad), (o.base + 64 + (tail + pad) % logRing o, n)]

/-- Write one entry at the tail of the log, after a PAD entry where it would wrap, or overflow. Entries,
and with it Sequence, does not count PAD (R336, R337). -/
def appendEntry (c : CtxId) (o : MemObj) (e : Bytes) (s : State) : State :=
  let ring := logRing o
  let tail := moraineQ s o 2
  let seq := moraineQ s o 4
  let pos := tail % ring
  let pad := padBefore s o e.length
  if logFull s o e.length then
    setMoraineState o 2 (modFixed c (fun f => { f with overflowed := true, toLog := [] }) s)
  else
    let s := if pad = 0 then s
      else poolWrite (o.base + 64 + pos)
        (leBytes 8 ((pad - 32) * 2 ^ 32 + c.toNat) ++ List.replicate (pad - 8) 0) true s
    let at_ := o.base + 64 + (tail + pad) % ring
    let s := poolWrite at_ (overlay e 24 (leBytes 4 seq)) true s
    let s := if numAt e 7 1 = 1 && moraineQ s o 1 == 0 then
        setMoraineQ o 1 (qwordAt e 1 / 8192 * 8192) s else s
    setMoraineQ o 4 (seq + 1) (setMoraineQ o 2 (tail + pad + e.length) s)

/-- Append entries in their order, up to the first whose lines processor dies hold: it waits for their answers, and the
rest behind it (R337; 08, R280). -/
def appendEach (c : CtxId) (o : MemObj) : List Bytes → State → State
  | [], s => s
  | e :: l, s =>
    if (fixed? s c).all (·.overflowed) then s
    else
      let spans := appendSpans s o e.length
      if spans.any fun p => gated s p.1 p.2 true none then
        modFixed c (fun g => { g with toLog := e :: l })
          (foldState (fun p s => gateSnoops (millraceAt s c 2) p.1 p.2 true none s) spans s)
      else appendEach c o l (appendEntry c o e s)

/-- Append the queued entries of a context (R337). -/
def appendLog (c : CtxId) (s : State) : State :=
  match fixed? s c with
  | none => s
  | some f =>
    match moraineObj s f with
    | none => s
    | some o => appendEach c o f.toLog (modFixed c (fun g => { g with toLog := [] }) s)

/-! ### Replay (R337, R338) -/

/-- Qword `i` of the moraine header of a replay, its waiting writes included. -/
def replayQ (s : State) (f : FixedSt) (o : MemObj) (i : Nat) : Nat :=
  match f.logWrites.reverse.find? fun w => w.1 == 8 * i with
  | some w => leNat w.2
  | none => moraineQ s o i

/-- A header write of a replay: in an owned slot, after those that wait; it waits too while processor dies hold its line
(R318, R337; 08, R280). -/
def replayWrite (c : CtxId) (o : MemObj) (off : Nat) (b : Bytes) (s : State) : State :=
  if mayIssue s c && ((fixed? s c).any fun f => f.logWrites.isEmpty) && !gated s (o.base + off) b.length true none then
    poolWrite (o.base + off) b true s
  else modFixed c (fun f => { f with logWrites := f.logWrites ++ [(off, b)] }) s

/-- Header writes in their order, up to the first whose line processor dies hold (R318; 08, R280). -/
def flushEach (c : CtxId) (o : MemObj) : List (Nat × Bytes) → State → State
  | [], s => s
  | w :: l, s =>
    if gated s (o.base + w.1) w.2.length true none then
      modFixed c (fun g => { g with logWrites := w :: l })
        (gateSnoops (millraceAt s c 2) (o.base + w.1) w.2.length true none s)
    else flushEach c o l (poolWrite (o.base + w.1) w.2 true s)

/-- Write what the header of a replay's log waits for (R318). -/
def flushLog (c : CtxId) (s : State) : State :=
  match fixed? s c with
  | none => s
  | some f =>
    match moraineObj s f with
    | none => s
    | some o => flushEach c o f.logWrites (modFixed c (fun g => { g with logWrites := [] }) s)

/-- The place of a replay in its log: where it has come to, or the log's Head. -/
def replayAt (s : State) (f : FixedSt) (o : MemObj) : Nat := max f.cursor (replayQ s f o 3)

/-- Bytes of the entry at a byte count of the log (R335, R336). -/
def entryAt_ (s : State) (o : MemObj) (n : Nat) : Bytes :=
  let at_ := o.base + 64 + n % logRing o
  poolBytes s at_ (32 + (numAt (poolBytes s at_ 32) 4 2 + 31) / 32 * 32)

/-- Kind of an entry. -/
def entryKind (e : Bytes) : Nat := numAt e 7 1

/-- The first entry from a byte count on whose kind passes a test, below the log's Tail: its count and bytes. -/
def seekEntry (s : State) (o : MemObj) (ok : Nat → Bool) : Nat → Nat → Option (Nat × Bytes)
  | 0, _ => none
  | fuel + 1, n =>
    if moraineQ s o 2 ≤ n then none
    else
      let e := entryAt_ s o n
      if ok (entryKind e) then some (n, e) else seekEntry s o ok fuel (n + e.length)

/-- The span that the search for an entry cannot read, as a processor die owns a line of it (08, R280). -/
def seekGate (s : State) (o : MemObj) (ok : Nat → Bool) : Nat → Nat → Option (Nat × Nat)
  | 0, _ => none
  | fuel + 1, n =>
    let at_ := o.base + 64 + n % logRing o
    if moraineQ s o 2 ≤ n then none
    else if gated s at_ 32 false none then some (at_, 32)
    else
      let e := entryAt_ s o n
      if gated s at_ e.length false none then some (at_, e.length)
      else if ok (entryKind e) then none
      else seekGate s o ok fuel (n + e.length)

/-- The span that a replay waits for before it can read its log from a byte count on: header first (08, R280). -/
def logGate (s : State) (o : MemObj) (ok : Nat → Bool) (n : Nat) : Option (Nat × Nat) :=
  if gated s o.base 64 false none then some (o.base, 64) else seekGate s o ok (logRing o / 32) n

/-- Send the snoops that a read of a log waits for. -/
def logSnoops (c : CtxId) (p : Nat × Nat) (s : State) : State := gateSnoops (millraceAt s c 1) p.1 p.2 false none s

/-- The next entry of a replay in time, past PAD entries. -/
def nextEntry (s : State) (f : FixedSt) (o : MemObj) : Option (Nat × Bytes) :=
  seekEntry s o (fun k => k != 0) (logRing o / 32) (replayAt s f o)

/-- The HOST_READ entry that the next request of a replay takes its data from (R337). -/
def nextRead (s : State) (f : FixedSt) (o : MemObj) : Option (Nat × Bytes) :=
  seekEntry s o (fun k => k == 2) (logRing o / 32) (max f.paired (moraineQ s o 3))

/-- An entry is consumed: Entries rises, and Head stands at the oldest entry that is not; State becomes REPLAY_DONE
when Head reaches Tail, unless the replay has diverged (R335, R337). -/
def consumeEntry (c : CtxId) (o : MemObj) (s : State) : State :=
  match fixed? s c with
  | none => s
  | some f =>
    let rest := if (nextEntry s f o).isNone then moraineQ s o 2 else f.cursor
    let head := f.setAside.foldl min rest
    let s := replayWrite c o 32 (leBytes 8 (replayQ s f o 4 + 1)) s
    let s := replayWrite c o 24 (leBytes 8 head) s
    if head = moraineQ s o 2 && !f.live then replayWrite c o 3 [4] s else s

/-- The replay diverges at an entry: the context goes on live, while requests made before still take their data from
the log (R338). -/
def diverge (c : CtxId) (o : MemObj) (seq : Nat) (s : State) : State :=
  clearCycleExact c (modFixed c (fun f => { f with live := true, stalled := false })
    (replayWrite c o 3 [5] (replayWrite c o 40 (leBytes 8 seq) s)))

/-- How far the replay of a context is shifted: ReplayAnchorGtc − RecordAnchorGtc, modulo 2^64 (R337). -/
def replayShift (s : State) (c : CtxId) : U64 :=
  match fixed? s c with
  | some f =>
    if f.logMode = .replay then
      match moraineObj s f with
      | some o => f.replayAnchor - w64 (moraineQ s o 1)
      | none => 0
    else 0
  | none => 0

/-- The count at which an entry of a replay takes effect (R337). -/
def entryTime (s : State) (c : CtxId) (e : Bytes) : Nat := (w64 (qwordAt e 1) + replayShift s c).toNat

/-- A HOST read request of a replay: it takes the next HOST_READ entry, or the replay diverges, with the Sequence of
the entry that differs; with no entry left the Sequence is free (R337, R338). Where processor dies own lines of the log
the request is made again once they have answered (08, R280). -/
def replayRead (c : CtxId) (w : ReplayWait) (s : State) : State :=
  match fixed? s c with
  | none => s
  | some f =>
    match moraineObj s f with
    | none => s
    | some o =>
      if let some p := logGate s o (fun k => k == 2) (max f.paired (moraineQ s o 3)) then logSnoops c p s
      else match nextRead s f o with
      | none => diverge c o (Config.choice s.draws (2 ^ 32) % 2 ^ 32) (draw s)
      | some (n, e) =>
        if w.address = qwordAt e 2 && w.bytes = numAt e 4 2 then
          modFixed c (fun f => { f with
            paired := n + e.length, replayWaits := f.replayWaits ++ [{ w with entry := n }] }) s
        else diverge c o (numAt e 24 4) s

/-- A request of a replay is out. -/
def replayAsked (s : State) (c : CtxId) (use : ReadUse) (off : Nat) : Bool :=
  (fixed? s c).any fun f => f.replayWaits.any fun w => w.use == use && w.offset == off

/-- A HOST read of a fixed-schedule context in replay, request by request; from a divergence on the requests go to
the host (R337, R338; 02, R60). -/
def replayHostRead (c : CtxId) (g : Fun) (use : ReadUse) (base : Nat) (pasid : BitVec 20)
    (have_ : List (Nat × Bytes)) (l : List (Nat × Nat × Nat)) (s : State) : State :=
  foldState (fun x s =>
    let off := base + x.2.1
    if (have_.any fun h => h.1 == off) || replayAsked s c use off then s
    else
      let s := if replaying s c then replayRead c ⟨use, x.1, off, x.2.2, 0⟩ s else s
      if replaying s c then s else hostRead g use x.1 off x.2.2 (some pasid) have_ s) l s

/-- Ask for a HOST read in the requests of R60: from the log in a replay, else from the host (02, R60; 10,
R337). `have_` lists the positions that have arrived. -/
def ctxHostRead (c : CtxId) (g : Fun) (use : ReadUse) (a base n : Nat) (pasid : BitVec 20)
    (have_ : List (Nat × Bytes)) (s : State) : State :=
  if replaying s c then replayHostRead c g use base pasid have_ (requests (maxRead s g) a n) s
  else hostRead g use a base n (some pasid) have_ s

/-- Whether bytes `pos` to `pos + n` have all arrived. -/
def covered (have_ : List (Nat × Bytes)) : Nat → Nat → Nat → Bool
  | 0, _, n => n == 0
  | fuel + 1, pos, n =>
    n == 0 || match have_.find? fun h => h.1 ≤ pos && pos < h.1 + h.2.length with
      | some h => covered have_ fuel (h.1 + h.2.length) (n - min n (h.1 + h.2.length - pos))
      | none => false

/-- The bytes `pos` to `pos + n` out of the pieces that have arrived. -/
def gather (have_ : List (Nat × Bytes)) (pos n : Nat) : Bytes :=
  (List.range n).map fun i =>
    match have_.find? fun h => h.1 ≤ pos + i && pos + i < h.1 + h.2.length with
    | some h => h.2.getD (pos + i - h.1) 0
    | none => 0

/-- Hand the data of a read to what it serves. -/
def giveRead (use : ReadUse) (off : Nat) (b : Bytes) (s : State) : State :=
  match use with
  | .entry c =>
    { s with cmd := { s.cmd with
      table := s.cmd.table.map fun x =>
        match x.stage with
        | .fetching _ =>
          if x.ctx == c then { x with span := { x.span with pieces := x.span.pieces ++ [(off, b)] } } else x
        | _ => x } }
  | .tile c q =>
    modCmd c q (fun x => { x with
      xfer := x.xfer.map fun y =>
        { y with tile := y.tile.map fun t => { t with pieces := t.pieces ++ [(off, b)] } } }) s
  | .span c q =>
    modCmd c q (fun x => { x with span := { x.span with pieces := x.span.pieces ++ [(off, b)] } }) s
  | .admin _ _ => s
  | .image => issueImage { s with boot := { s.boot with image := memWrite s.boot.image off b } }
  | .ats _ _ => s
  | .stale _ => s

/-- Queue index that a log entry of a read carries (R336). -/
def readIndex (s : State) : ReadUse → Nat
  | .tile _ q => q
  | .span _ q => q
  | .entry c => match s.cmd.table.find? fun x => x.ctx == c && (match x.stage with
      | .fetching _ => true
      | _ => false) with
    | some x => (match x.stage with | .fetching k => (x.q + k) % 2 ^ 24 | _ => 0)
    | none => 0
  | _ => 0

end Sys2Proof.Machine
end

