-- ==== Sys2Proof/Machine/Fetch.lean ====
section
/-!
DEFINITION. The sluice and the fetch of commands (05_command_path, R156 to R164).
-/
namespace Sys2Proof.Machine

/-! ### The sluice (R156 to R160) -/

/-- Check 5 of R158: the tail moves forward by no more than the queue's free entries. -/
def tailOk (x : Ctx) (tail : U24) : Bool :=
  (tail - x.tail).toNat ≤ 2 ^ x.queueLog2 - (x.tail - x.head).toNat

/-- Checks 4 and 5 of R158. -/
def doorbellValid (x : Ctx) (v : U64) : Bool :=
  field v.toNat 47 24 == 0 && tailOk x (BitVec.ofNat 24 v.toNat)

/-- Accept a doorbell: tail and submit tag at once, and the log entry of a recording context (R160). -/
def acceptDoorbell (c : CtxId) (v : U64) (s : State) : State :=
  noteLog c (logEntry 1 c s.gtc v.toNat 0 [])
    (modCtx c (fun x => { x with
      tail := BitVec.ofNat 24 v.toNat, submitTag := BitVec.ofNat 16 (v.toNat >>> 48) }) s)

/-- Checks 4 and 5 on a doorbell to a context, and their outcome (R159, R160). -/
def takeDoorbell (c : CtxId) (v : U64) (s : State) : State :=
  match ctx? s c with
  | none => s
  | some x =>
    if doorbellValid x v then acceptDoorbell c v s
    else if x.state = .ready then
      loseContext c .doorbellInvalid [] v { kind := 2, unit := (portOf x.fn).val, access := 2 } s
    else countFn x.fn 0x04 s

/-- Checks 3 to 5 of R158 on a write that reaches the function. -/
def sluice (g : Fun) (slot : Nat) (v : U64) (s : State) : State :=
  match ctxBySlot s g slot with
  | none => countFn g 0x03 s
  | some c =>
    match ctx? s c with
    | none => countFn g 0x03 s
    | some x =>
      if x.state ≠ .ready && x.state ≠ .lost then countFn g 0x03 s
      else if replaying s c then countFn g 0x10 s
      else takeDoorbell c v s

/-- A write to BAR2 (R157, R158; 02, R63, R76). -/
def doorbellWrite (g : Fun) (offset size : Nat) (allEnabled poisoned : Bool) (v : U64) (s : State) :
    State :=
  if !(size == 8 && offset % 8 == 0 && allEnabled) then countFn g 0x02 s
  else if !fnPresent s g then unsupportedRequest g s
  else barWrite g (fun s =>
    if poisoned then poisonedTlp g s else sluice g (offset / 8) v s) s

/-- DOORBELL (R158 to R160). -/
def execDoorbell (g : Fun) (offset size : Nat) (allEnabled poisoned : Bool) (v : U64) (s : State) : Out :=
  .next (doorbellWrite g offset size allEnabled poisoned v s)

/-! ### Fetch (R161 to R164) -/

/-- Pending entries of a queue (04, R136). -/
def occupancy (x : Ctx) : Nat := (x.tail - x.head).toNat

/-- The command of a context that is being fetched, or whose first entry is held (R162). -/
def fetchingCmd (s : State) (c : CtxId) : Option Cmd :=
  s.cmd.table.find? fun x => x.ctx == c && (match x.stage with
    | .fetching _ | .short => true
    | _ => false)

/-- A stalled function, a fixed-schedule context outside its issue windows and a held package read no queue entry
and take none (R161; 02, R74; 10, R318). -/
def fetchHeld (s : State) (c : CtxId) (g : Fun) : Bool := fnStalled s g || packageHeld s || !mayIssue s c

/-- The tracking table is full (R164). -/
def tableFull (s : State) : Bool := 1048576 ≤ s.cmd.table.length

/-- A context that could begin a command, were a tracking entry free (R161). -/
def wantsEntry (s : State) (c : CtxId) (x : Ctx) : Bool :=
  (x.state == .ready || x.state == .lost) && 0 < occupancy x && !fetchHeld s c x.fn &&
  (fetchingCmd s c).isNone && (s.cmd.table.filter fun y => y.ctx == c).length < 65536

/-- A context takes part in the round robin of its front-end (R161); a held first entry takes part once the
tail covers its command (R162). -/
def fetchable (s : State) (c : CtxId) (x : Ctx) : Bool :=
  match fetchingCmd s c with
  | none => wantsEntry s c x && !tableFull s
  | some y => (match y.stage with
    | .short => takenEntries y.raw ≤ occupancy x && !fetchHeld s c x.fn
    | _ => false)

/-- A front-end has a context that waits for a tracking entry (R164). -/
def portWants (s : State) (p : Port) : Bool :=
  s.obj.ctxs.any fun e => portOf e.2.fn == p && wantsEntry s e.1 e.2

/-- The front-end that is given the next freed tracking entry: the first that waits, in round robin after the one
that was given the last (R164). -/
def entryNext (s : State) : Option Port :=
  let l := (List.finRange 4).filter fun p => s.cmd.entryWaits.contains p && portWants s p
  match l.find? fun p => s.cmd.entryTurn < p with
  | some p => some p
  | none => l.head?

/-- A front-end waits for a freed tracking entry (R164). -/
def waitEntry (p : Port) (s : State) : State :=
  { s with cmd := { s.cmd with entryWaits := if s.cmd.entryWaits.contains p then s.cmd.entryWaits
                                             else s.cmd.entryWaits ++ [p] } }

/-- A front-end takes a tracking entry; one that waited for it has had its turn (R164). -/
def takeEntryTurn (p : Port) (s : State) : State :=
  if s.cmd.entryWaits.contains p then
    { s with cmd := { s.cmd with entryWaits := s.cmd.entryWaits.filter (· != p), entryTurn := p } }
  else s

/-- Address of entry `k` of the command at the head of a queue (04, R135). -/
def entryVa (x : Ctx) (k : Nat) : Nat :=
  x.queueBase.toNat + 64 * ((x.head.toNat + k) % 2 ^ x.queueLog2)

/-- A new entry of the tracking table (R164). -/
def newCmd (c : CtxId) (q : Nat) (tail : U24) : Cmd :=
  { ctx := c, q := q, raw := [], stage := .fetching 0, waits := 0, registered := false, tag := none,
    late := none, epoch := 0, tailAt := tail, parts := [], serial := none, entryAt := none, digest := none, xfer := none, span := ⟨0, [], []⟩ }

/-- Head advances (R162). -/
def advanceHead (c : CtxId) (n : Nat) (s : State) : State :=
  modCtx c (fun x => { x with head := x.head + BitVec.ofNat 24 n }) s

/-- A read of entry `k` failed: Head passes the command, or one entry where the first read failed, and the
command completes with its status (R162, R163). -/
def entryFails (x : Cmd) (k : Nat) (st : CStatus) (va : Nat) (s : State) : State :=
  let n := if k = 0 then 1 else takenEntries x.raw
  let s := countLateFault x.ctx (advanceHead x.ctx n s)
  faultCmd x.ctx x.q st { kind := 2, address := w64 va, addressKind := 2, access := 4 } s

/-- Ask for a HOST entry, after the ATS translation it needs (R163; 06, R219). -/
def askEntry (c : CtxId) (g : Fun) (a : Nat) (pasid : BitVec 20) (s : State) : State :=
  let missing := atsMissing s g pasid a 64 false
  if missing.isEmpty || replaying s c then ctxHostRead c g (.entry c) a 0 64 pasid [] s
  else atsAsk g pasid missing s

/-- Translate the address of entry `k` and issue its read (R163); it waits while nothing may be fetched. -/
def startEntry (x : Cmd) (k : Nat) (s : State) : State :=
  match ctx? s x.ctx with
  | none => s
  | some y =>
    let va := entryVa y k
    if fetchHeld s x.ctx y.fn then modCmd x.ctx x.q (fun z => { z with stage := .fetching k, entryAt := none }) s
    else match translate (.ctx x.ctx) va .read s with
    | (s, .ok e) =>
      match targetOf e va with
      | .window _ _ _ => entryFails x k .fetchFault va s
      | .host a p =>
        askEntry x.ctx y.fn a p (modCmd x.ctx x.q (fun z => { z with
          stage := .fetching k, entryAt := some (.host a p), span := ⟨0, [], []⟩ }) s)
      | t => modCmd x.ctx x.q (fun z => { z with
          stage := .fetching k, entryAt := some t, span := ⟨0, [], []⟩ }) s
    | (s, .error (TOut.fault _)) => entryFails x k .fetchFault va s
    | (s, .error TOut.poisoned) => entryFails x k .poisonedData va s
    | (s, .error _) => modCmd x.ctx x.q (fun z => { z with stage := .fetching k, entryAt := none }) s

/-- The contexts of a port that can be served, in the order of the round robin (R161). -/
def fetchOrder (s : State) (p : Port) : List (CtxId × Ctx) :=
  let l := s.obj.ctxs.filter fun e => portOf e.2.fn == p && fetchable s e.1 e.2
  let last := (getPort s p).fetchTurn.toNat
  (l.filter fun e => last < e.1.toNat) ++ l.filter fun e => !(last < e.1.toNat)

/-- The next context of a front-end: its new command gets a tracking entry and its first entry is read; a held
command goes on with its other entries (R161, R162). -/
def fetchFrom (p : Port) (c : CtxId) (x : Ctx) (s : State) : State :=
  let s := modPort p (fun y => { y with fetchTurn := c }) s
  match fetchingCmd s c with
  | some y => startEntry y 1 s
  | none =>
    let n := newCmd c x.head.toNat x.tail
    startEntry n 0 (takeEntryTurn p { s with cmd := { s.cmd with table := s.cmd.table ++ [n] } })

/-- One turn of a front-end. While the tracking table is full, or another front-end is to have the entry that was
freed, it waits for one (R164). -/
def fetchTurn (p : Port) (s : State) : State :=
  let late : Bool := match entryNext s with
    | some q => q != p
    | none => false
  match (fetchOrder s p).head? with
  | some (c, x) => if late && (fetchingCmd s c).isNone then waitEntry p s else fetchFrom p c x s
  | none => if portWants s p then waitEntry p s else s

/-- COMMAND_FETCH (R161). -/
def execCommandFetch (p : Port) (s : State) : Out := .next (fetchTurn p s)

/-- Every entry of a command has been read: Head passes it, and it waits for dispatch; a command of a LOST
context is over (R162; 04, R131). -/
def fetched (x : Cmd) (s : State) : State :=
  let s := advanceHead x.ctx (takenEntries x.raw) s
  let lost : Bool := match ctx? s x.ctx with
    | some y => y.state != .ready
    | none => true
  modCmd x.ctx x.q (fun z => { z with
    raw := x.raw, entryAt := none, span := ⟨0, [], []⟩
    stage := if lost then .ended .contextLost else .queued 0 }) s

/-- Entry `k` is in: the next one is read, the command is held, or the fetch ends (R162). -/
def takeQueueEntry (x : Cmd) (k : Nat) (b : Bytes) (s : State) : State :=
  let raw := x.raw ++ padTo 64 b
  let y := { x with raw := raw }
  let s := modCmd x.ctx x.q (fun z => { z with raw := raw, entryAt := none }) s
  if takenEntries raw ≤ k + 1 then fetched y s
  else match ctx? s x.ctx with
    | none => s
    | some c =>
      -- the tail accepted when the fetch of the command began (R184)
      if k = 0 && (x.tailAt - c.head).toNat < takenEntries raw then modCmd x.ctx x.q (fun z => { z with stage := .short }) s
      else startEntry y (k + 1) s

/-- The data of the entry that a context's fetch waits for arrives (R162, R163). A pool entry is read through
the pool cache, after the snoops its lines need (08, R280); a host entry faults while PASID Enable is 0 (02, R47). -/
def entryArrives (c : CtxId) (s : State) : State :=
  match fetchingCmd s c, ctx? s c with
  | some x, some y =>
    if fetchHeld s c y.fn then s
    else match x.stage with
      | .fetching k =>
        (match x.entryAt with
        | some (.pool a) =>
          if gated s a 64 false none then gateSnoops (millraceAt s c 4) a 64 false none s
          else if poisoned s a 64 then entryFails x k .poisonedData (entryVa y k) (countPackage 0x17 s)
          else takeQueueEntry x k (poolBytes s a 64) s
        | some (.host a p) =>
          if !(getFn s y.fn).cfg.pasidEnable then entryFails x k .fetchFault (entryVa y k) (countFn y.fn 0x08 s)
          else if covered x.span.pieces 3 0 64 then takeQueueEntry x k (gather x.span.pieces 0 64) s
          else askEntry c y.fn a p s
        | _ => startEntry x k s)
      | _ => s
  | _, _ => s

/-- COMMAND_ENTRY_ARRIVAL (R162, R163). -/
def execCommandEntryArrival (c : CtxId) (s : State) : Out := .next (entryArrives c s)

end Sys2Proof.Machine
end

