-- ==== Sys2Proof/Machine/Units.lean ====
section
/-!
DEFINITION. Units that fail: the disabled-unit map (15_bringup_firmware, R438, R439, R455) and the fence
of a cluster, a tile or an engine (10_determinism, R339, R344).
-/
namespace Sys2Proof.Machine

/-- Enabled physical tiles, rising: logical tile k is the k-th of them (15, R438). -/
def physTiles (v : Variant) : List Nat := (List.range 64).filter (tilePresent v)

/-- Physical tile of a logical cluster (15, R439). -/
def tileOfCluster (v : Variant) (n : Nat) : Nat := (physTiles v).getD (n / 15) 0

/-- The bits of a list of small numbers. -/
def maskOf (l : List Nat) : Nat := l.foldl (fun a i => a ||| 2 ^ i) 0

/-- One tile entry of the map (15, R455). -/
def tileEntry (s : State) (t : Nat) : Bytes :=
  let spare := (Config.spareCluster t).val
  if !tilePresent s.variant t then leBytes 8 (0x10FF * 2 ^ 48 + spare * 2 ^ 56) ++ leBytes 8 0
  else
    let k := (physTiles s.variant).idxOf t
    let mine (l : List (Nat × Nat)) : Nat := maskOf ((l.filter fun x => x.1 == t).map (·.2))
    let unserved := (List.range 15).filter fun i => s.det.fenced.contains (15 * k + i)
    let place := (List.range 15).foldl (fun a i =>
      if unserved.contains i then a
      else a + ((assocGet s.boot.positions (15 * k + i)).getD 0) * 2 ^ (4 * i)) 0
    leBytes 8 ((if s.boot.failedTiles.contains t then 2 else 0) * 2 ^ 60 + spare * 2 ^ 56
        + k * 2 ^ 48 + mine s.boot.failedClusters * 2 ^ 32 + mine s.det.fencedPhys * 2 ^ 16
        + maskOf unserved)
      ++ leBytes 8 place

/-- Channels mapped out in the whole package (09, R291). -/
def channelsOut (s : State) : Nat :=
  ((List.range (stacksOf s.variant)).flatMap fun k =>
    (List.range 32).filter (mappedOut s.pool.mappedOut k)).length

/-- Lanes of a port that did not pass the last QUALIFY that ended DONE (15, R455). -/
def lanesNotPassed (s : State) (port lanes : Nat) : Nat :=
  maskOf ((List.range lanes).filter fun l => !s.boot.passed.contains (port, l))

/-- The disabled-unit map (15, R455). -/
def unitMapBytes (s : State) : Bytes :=
  leBytes 8 (variantCode s.variant * 2 ^ 24 + 2 ^ 16 + 0x4D55)
    ++ leBytes 8 (channelsOut s * 2 ^ 48 + s.det.fenced.length * 2 ^ 32
        + (clustersOf s.variant - s.det.fenced.length) * 2 ^ 16 + tilesOf s.variant)
    ++ leBytes 8 s.det.enginesFenced.toNat ++ List.replicate 40 0
    ++ (List.range 64).flatMap (tileEntry s)
    ++ (List.range 24).flatMap (fun k => leBytes 4 (if k < stacksOf s.variant then
        s.pool.mappedOut.getD k 0 else 0xFFFFFFFF))
    ++ List.replicate 32 0
    ++ leBytes 8 (lanesNotPassed s 0 64)
    ++ leBytes 8 (lanesNotPassed s 1 16 + lanesNotPassed s 2 16 * 2 ^ 16 + lanesNotPassed s 3 16 * 2 ^ 32)

/-- Rewrite the map: UnitMapDigest, DeterminismKey and UnitMapGeneration follow (R334). -/
def rewriteMap (s : State) : State :=
  let m := unitMapBytes s
  { s with det := { s.det with
    unitMap := m, generation := s.det.generation + 1, digest := sha384 m
    key := sha384 (5 :: s.boot.digest ++ sha384 m) } }

/-- Rewrite the map once it has been published (15, R456). -/
def mapChanged (s : State) : State := if s.det.unitMap.isEmpty then s else rewriteMap s

/-- Abandon a mode change: every staged cluster discards the staged word (R344). -/
def abandonMode (unit : Nat) (s : State) : State :=
  let staged := s.det.acked ++ s.det.unacked
  foldState (fun n s => emit (.modeDiscard n) s) staged
    { s with det := { s.det with
      mode := .abandoned, abandonUnit := unit, acked := [], unacked := [] } }

/-- A context has work on a unit: a LAUNCH part that has not ended, a command on an engine, or a schedule
that reserves it (R339). `clusters` and `engine` name the unit. -/
def cmdOnUnit (s : State) (clusters : List Nat) (engine : Option Engine) (x : Cmd) : Bool :=
  (x.parts.any fun p => !p.ended && clusters.contains p.cluster) ||
    match engine with
    | some e =>
      let y := getEngine s e
      y.active.contains (x.ctx, x.q) || y.queued.contains (x.ctx, x.q)
    | none => false

def ctxReservesUnit (clusters : List Nat) (engine : Option Engine) (f : FixedSt) : Bool :=
  (clusters.any fun n => f.clusterBase ≤ n && n < f.clusterBase + f.clusterCount) ||
    match engine with
    | some e => f.engines.contains e.val
    | none => false

/-- The commands of a context with work on a unit. -/
def cmdsOnUnit (s : State) (clusters : List Nat) (engine : Option Engine) (c : CtxId) : List Cmd :=
  s.cmd.table.filter fun x => x.ctx == c && cmdOnUnit s clusters engine x

/-- The contexts that a failed unit takes with it: those with work on it, or with a schedule that reserves it
(R339; 12, R371). -/
def ctxsOnUnit (s : State) (clusters : List Nat) (engine : Option Engine) : List CtxId :=
  (s.obj.ctxs.filter fun e => e.2.state == .ready &&
    (!(cmdsOnUnit s clusters engine e.1).isEmpty || e.2.fixed.any (ctxReservesUnit clusters engine))).map (·.1)

/-- Raise UNIT_FENCED, with the contexts that it loses, and lose them; their commands there end with UNIT_FENCED
(R339; 12, R371). -/
def loseOnUnit (clusters : List Nat) (engine : Option Engine) (i : ErrInfo) (s : State) : State :=
  let lost := ctxsOnUnit s clusters engine
  foldState (fun c s =>
    loseContext c .unitFenced ((cmdsOnUnit s clusters engine c).map fun x => (x.q, CStatus.unitFenced)) 0 i s) lost
    (raiseWith .unitFenced i lost s)

/-- The parts of fenced clusters report no more (R176, R178). -/
def endPartsOf (clusters : List Nat) (s : State) : State :=
  let f (p : Part) : Part := if clusters.contains p.cluster then { p with ended := true } else p
  { s with cmd := { s.cmd with
    table := s.cmd.table.map fun x => { x with parts := x.parts.map f }
    drains := s.cmd.drains.map fun d => { d with parts := d.parts.map f } } }

/-- A cluster holds a part of an epoch before `e` (10, R345). -/
def holdsOld (s : State) (e n : Nat) : Bool :=
  let old (p : Part) : Bool := p.cluster == n && !p.ended && p.epoch < e
  s.cmd.table.any (fun x => x.parts.any old) || s.cmd.drains.any fun d => d.parts.any old

/-- A cluster that has kept the previous word applies the current one once it holds no part of the previous epoch
(10, R345). -/
def applyLate (n : Nat) (s : State) : State :=
  let e := s.det.epoch.toNat
  if s.det.lagging.contains n && !holdsOld s e n then
    { s with det := { s.det with
      lagging := s.det.lagging.filter (· != n), epochs := assocPut s.det.epochs n e } }
  else s

/-- Revoke the leases of fenced clusters; they end at once, as a fenced cluster answers no more. DESIGN
CHOICE. -/
def dropLeasesOf (clusters : List Nat) (s : State) : State :=
  let gone := s.trans.leases.filter fun l => clusters.contains l.cluster
  let s := { s with trans := { s.trans with
    leases := s.trans.leases.filter fun l => !clusters.contains l.cluster } }
  foldState (fun l s =>
    if l.revoking.isEmpty then countPackage 0x0A (emit (.leaseRevoke l.cluster l.slot) s) else s) gone (leasesEnded s)

/-- Note logical clusters as fenced, with the physical clusters that served them. -/
def noteFenced (ns : List Nat) (s : State) : State :=
  let phys := ns.filterMap fun n =>
    (assocGet s.boot.positions n).map fun p => (tileOfCluster s.variant n, p)
  { s with
    det := { s.det with
      fenced := ns.foldl (fun l n => insertNat n l) s.det.fenced
      fencedPhys := s.det.fencedPhys ++ phys }
    boot := { s.boot with positions := s.boot.positions.filter fun p => !ns.contains p.1 } }

/-- The fence of logical clusters (R339). -/
def fenceClusters (ns : List Nat) (i : ErrInfo) (s : State) : State :=
  let new := ns.filter fun n => n < clustersOf s.variant && !s.det.fenced.contains n
  if new.isEmpty then s
  else
    let s := loseOnUnit new none i s
    let s := endPartsOf new (dropLeasesOf new s)
    let s := match (if s.det.mode = .staging then new.find? fun n => s.det.unacked.contains n else none) with
      | some n => abandonMode n s
      | none => s
    mapChanged (noteFenced new s)

/-- The fence of a transfer engine (R339). -/
def fenceEngine (e : Engine) (s : State) : State :=
  if s.det.enginesFenced.getLsbD e.val then s
  else
    let i : ErrInfo := { kind := 4, unit := e.val, access := 7 }
    let s := loseOnUnit [] (some e) i s
    mapChanged { s with det := { s.det with
      enginesFenced := s.det.enginesFenced ||| (1 : U32) <<< e.val } }

/-- The fence of the unit that a failure report names; a failed tile fences each of its logical clusters
(R339). -/
def fenceUnit (u : FailUnit) (s : State) : State :=
  match u with
  | .cluster n => fenceClusters [n] { kind := 5, unit := n, access := 7 } s
  | .engine e => fenceEngine e s
  | .tile t => fenceClusters ((List.range 15).map fun i => 15 * t + i)
      { kind := 5, unit := 15 * t, access := 7 } s

end Sys2Proof.Machine
end

