-- ==== Sys2Proof/Machine/Modes.lean ====
section
/-!
DEFINITION. Failure reports, spare clusters and mode changes (10_determinism, R339 to R345).
-/
namespace Sys2Proof.Machine

def modDet (f : DetSt → DetSt) (s : State) : State := { s with det := f s.det }

/-- UNIT_FAILURE_REPORT (R339). -/
def execUnitFailureReport (u : FailUnit) (s : State) : Out := .next (fenceUnit u s)

/-! ### UnitRemap (R340) -/

/-- Whether a UnitRemap write is refused: a context is live, or a REMAP runs. -/
def remapRefused (s : State) : Option EStatus :=
  if !s.obj.ctxs.isEmpty || s.det.remapping then some .busy else none

/-- A REMAP starts: it covers the clusters that are fenced now (R346). -/
def startUnitRemap (s : State) : State := modDet (fun d => { d with remapping := true, remapSet := d.fenced }) s

/-- UNIT_REMAP: UnitRemap is written 1 (R340). -/
def execUnitRemap (rq : Requester) (s : State) : Out :=
  .next (requestWrite rq ⟨0x7002, 4⟩ (.num 1) remapRefused startUnitRemap s)

/-- The spare of a logical tile can enter service: its tile is loaded, it passed its start-up test, and no
logical cluster of the tile uses it (R340; 15, R438, R454). -/
def spareFree (s : State) (k : Nat) : Bool :=
  let t := (physTiles s.variant).getD k 0
  let p := (Config.spareCluster t).val
  !s.boot.failedTiles.contains t && !s.boot.failedClusters.contains (t, p) &&
    !s.det.fencedPhys.contains (t, p) &&
    !(List.range 15).any fun i => assocGet s.boot.positions (15 * k + i) == some p

/-- The logical clusters that a REMAP gives a spare: of those it covers, the lowest fenced one of each tile whose
spare is free (R340, R346). Which one, where a tile has several, is a DESIGN CHOICE. -/
def remapped (s : State) : List Nat :=
  (List.range (tilesOf s.variant)).filterMap fun k =>
    if spareFree s k then (List.range 15).findSome? fun i =>
      if s.det.fenced.contains (15 * k + i) && s.det.remapSet.contains (15 * k + i) then some (15 * k + i) else none
    else none

/-- A spare takes over logical cluster n; it applies the current epoch (R340, R345). -/
def takeOver (n : Nat) (s : State) : State :=
  let t := tileOfCluster s.variant n
  { s with
    det := { s.det with
      fenced := s.det.fenced.filter (· != n)
      lagging := s.det.lagging.filter (· != n)
      epochs := assocPut s.det.epochs n s.det.epoch.toNat }
    boot := { s.boot with positions := assocPut s.boot.positions n (Config.spareCluster t).val } }

/-- The end of a REMAP (R340, R334). -/
def endUnitRemap (s : State) : State :=
  if s.det.remapping then
    let ns := remapped s
    let s := foldState takeOver ns s
    let s := modDet (fun d => { d with
      remapping := false
      remapSet := []
      remapResult := BitVec.ofNat 32 (ns.length * 2 ^ 16 + d.fenced.length) }) s
    mapChanged s
  else s

/-- UNIT_REMAP_DONE (R340). -/
def execUnitRemapDone (s : State) : Out := .next (endUnitRemap s)

/-! ### Mode changes (R342 to R345) -/

/-- A part of an epoch earlier than ModeEpoch still runs. -/
def oldPart (s : State) : Bool :=
  let old (p : Part) : Bool := !p.ended && p.epoch < s.det.epoch.toNat
  s.cmd.table.any (fun x => x.parts.any old) || s.cmd.drains.any fun d => d.parts.any old

/-- Whether a STAGE is refused (R343). -/
def stageRefused (s : State) : Option EStatus :=
  if s.det.mode = .staging || s.det.mode = .commitPending || s.obj.ctxs.any (fun e => e.2.fixed.isSome) ||
      oldPart s then some .busy
  else none

/-- A served cluster is powered down while PGOOD_TILE is low, the one sign of the tiles' supply that the spec gives
the package (14, R434). DEDUCED. Before the test has placed the clusters, none reads POWERED_DOWN (R347's Default). -/
def clusterDown (s : State) (n : Nat) : Bool :=
  !s.power.good.getLsbD 3 && (assocGet s.boot.positions n).isSome

/-- Clusters that take the staged word: served and powered ones that are not fenced (R343). -/
def stagedClusters (s : State) : List Nat :=
  (s.boot.positions.map (·.1)).filter fun n => !s.det.fenced.contains n && !clusterDown s n

/-- The tiles have their supply again: the served clusters apply the current epoch and word (R345). -/
def clustersWake (s : State) : State :=
  let ns := (s.boot.positions.map (·.1)).filter fun n => !s.det.fenced.contains n
  let s := foldState (fun n s => emit (.modeApply n s.det.epoch.toNat) s) ns s
  modDet (fun d => { d with
    lagging := []
    epochs := ns.foldl (fun l n => assocPut l n d.epoch.toNat) d.epochs }) s

/-- The commit count: the larger of the request and the next frame at least 10,000 counts on (R343). -/
def commitCount (request gtc : Nat) : Nat := max request ((gtc + 10000 + 8191) / 8192 * 8192)

/-- Every cluster has acknowledged: the commit is set (R343). -/
def commitIfAcked (s : State) : State :=
  if s.det.mode = .staging && s.det.unacked.isEmpty then
    modDet (fun d => { d with
      mode := .commitPending
      commitGtc := w64 (commitCount (objNum s 0x7003 4) s.gtc.toNat) }) s
  else s

/-- Send the staged word to every such cluster (R343); reserved bits of the word are 0 (R342). -/
def startStage (s : State) : State :=
  let word := objNum s 0x7003 3
  let word := word - word % 2 ^ 32 + word % 8
  let ns := stagedClusters s
  let s := modDet (fun d => { d with
    mode := .staging, stageWord := w64 word, unacked := ns, acked := [], stageGtc := s.gtc
    abandonUnit := 0xFFFF }) s
  commitIfAcked (foldState (fun n s => emit (.modeStage n (w64 word)) s) ns s)

/-- MODE_CHANGE_STAGE: ModeChange is written STAGE (R343). -/
def execModeChangeStage (rq : Requester) (s : State) : Out :=
  .next (requestWrite rq ⟨0x7003, 5⟩ (.num 1) stageRefused startStage s)

/-- 100 µs have passed since staging began (R343, R344). -/
def stageLate (s : State) : Bool := 125000 < (s.gtc - s.det.stageGtc).toNat

/-- An acknowledgement; one after 100 µs comes too late, and the commit is abandoned (R343, R344). -/
def stageAck (n : Nat) (s : State) : State :=
  if s.det.mode = .staging && s.det.unacked.contains n then
    if stageLate s then abandonMode n s
    else commitIfAcked (modDet (fun d => { d with
      unacked := d.unacked.filter (· != n), acked := d.acked ++ [n] }) s)
  else s

/-- MODE_STAGE_ACK (R343). -/
def execModeStageAck (n : Nat) (s : State) : Out := .next (stageAck n s)

/-- A cluster rejects the word (R344). -/
def stageReject (n : Nat) (s : State) : State :=
  if s.det.mode = .staging && s.det.unacked.contains n then abandonMode n s else s

/-- MODE_STAGE_REJECT (R344). -/
def execModeStageReject (n : Nat) (s : State) : Out := .next (stageReject n s)

/-- A cluster has not acknowledged within 100 µs (R344). -/
def stageExpired (n : Nat) (s : State) : State :=
  if s.det.mode = .staging && s.det.unacked.contains n && stageLate s then abandonMode n s else s

/-- MODE_STAGE_TIMEOUT (R344). -/
def execModeStageTimeout (n : Nat) (s : State) : Out := .next (stageExpired n s)

/-- The commit: clusters apply the word under the next epoch; one that holds parts of the previous epoch keeps its
word until they have ended (R343, R345). -/
def commitMode (s : State) : State :=
  if s.det.mode = .commitPending && s.det.commitGtc ≤ s.gtc then
    let ns := s.det.acked.filter fun n => !s.det.fenced.contains n
    let e := s.det.epoch.toNat + 1
    let late := ns.filter (holdsOld s e)
    let s := foldState (fun n s => emit (.modeApply n e) s) ns s
    modDet (fun d => { d with
      mode := .committed, epoch := d.epoch + 1, modeWord := d.stageWord, acked := [], lagging := late
      epochs := (ns.filter fun n => !late.contains n).foldl (fun l n => assocPut l n e) d.epochs }) s
  else s

/-- MODE_COMMIT (R343). -/
def execModeCommit (s : State) : Out := .next (commitMode s)

end Sys2Proof.Machine
end

