-- ==== Sys2Proof/Machine/Reduce.lean ====
section
/-!
DEFINITION. The reductions of REDUCE_TENSOR and of incoming windows (05_command_path, R170).
-/
namespace Sys2Proof.Machine

/-! ### FP32 and BF16: 8 exponent bits and `m` fraction bits -/

def floatExp (m x : Nat) : Nat := field x (m + 7) m
def floatFrac (m x : Nat) : Nat := x % 2 ^ m
def floatNeg (m x : Nat) : Bool := x.testBit (m + 8)
def floatNaN (m x : Nat) : Bool := floatExp m x == 255 && floatFrac m x != 0
def floatInf (m x : Nat) : Bool := floatExp m x == 255 && floatFrac m x == 0
def floatZero (m x : Nat) : Bool := x % 2 ^ (m + 8) == 0

/-- Magnitude of a finite value in units of the smallest subnormal. -/
def floatMag (m x : Nat) : Nat :=
  if floatExp m x = 0 then floatFrac m x
  else (2 ^ m + floatFrac m x) <<< (floatExp m x - 1)

/-- A finite value in units of the smallest subnormal. -/
def floatInt (m x : Nat) : Int :=
  if floatNeg m x then -(floatMag m x : Int) else (floatMag m x : Int)

/-- A magnitude as an encoding, rounded to nearest even; an overflow gives infinity (R170). -/
def floatRound (m n : Nat) : Nat :=
  if n < 2 ^ (m + 1) then n
  else
    let k := n.log2 - m
    let q := n >>> k
    let r := n % 2 ^ k
    let up := 2 ^ k < 2 * r || (2 * r == 2 ^ k && q % 2 == 1)
    let bits := k * 2 ^ m + q + (if up then 1 else 0)
    min bits (255 * 2 ^ m)

/-- Addition; none where R170 states no result (a NaN, opposite infinities). Subnormals are kept. -/
def floatAdd (m a b : Nat) : Option Nat :=
  if floatNaN m a || floatNaN m b then none
  else if floatInf m a then
    (if floatInf m b && floatNeg m a != floatNeg m b then none else some a)
  else if floatInf m b then some b
  else
    let n := floatInt m a + floatInt m b
    if n = 0 then some (if floatNeg m a && floatNeg m b then 2 ^ (m + 8) else 0)
    else some ((if n < 0 then 2 ^ (m + 8) else 0) + floatRound m n.natAbs)

/-- Order of two values that are no NaN; an infinity lies beyond every finite value. -/
def floatLe (m a b : Nat) : Bool :=
  let v (x : Nat) : Int := if floatNeg m x then -((x % 2 ^ (m + 8) : Nat) : Int) else ((x % 2 ^ (m + 8) : Nat) : Int)
  v a ≤ v b

/-- Maximum or minimum; none for a NaN and for zeros of unlike sign. -/
def floatPick (m : Nat) (max_ : Bool) (a b : Nat) : Option Nat :=
  if floatNaN m a || floatNaN m b then none
  else if floatZero m a && floatZero m b && a != b then none
  else some (if floatLe m a b == max_ then b else a)

/-- ReduceOp on a destination and a source element, as numbers of the element's width. Where R170 states no
result the value is free. ADD of I32 and of U64 wraps modulo 2^32 and 2^64: R170 states no overflow rule, a DESIGN
CHOICE. -/
def reduceElem (ty op d x : Nat) : Nat :=
  let free := (Config.reduceSpecial ty op d x).toNat
  match ty with
  | 2 =>
    match op with
    | 0 => (d + x) % 2 ^ 32
    | 1 => if toSigned 32 d ≤ toSigned 32 x then x else d
    | _ => if toSigned 32 d ≤ toSigned 32 x then d else x
  | 3 =>
    match op with
    | 0 => (d + x) % 2 ^ 64
    | 1 => max d x
    | _ => min d x
  | _ =>
    let m := if ty = 0 then 23 else 7
    let r := match op with
      | 0 => floatAdd m d x
      | 1 => floatPick m true d x
      | _ => floatPick m false d x
    r.getD (free % 2 ^ (m + 9))

/-- Reduce a byte string into another, element by element. -/
def reduceBytes (ty op : Nat) (dst src : Bytes) : Bytes :=
  let e := (elementBytes ty).getD 1
  (List.range (dst.length / e)).flatMap fun i =>
    leBytes e (reduceElem ty op (numAt dst (e * i) e) (numAt src (e * i) e))

/-- A reduction into a pool span executes in the pool cache (R170, R20); a line that is poisoned discards
its part (09, R301). -/
def poolReduce (ty op a : Nat) (src : Bytes) (through : Bool) (s : State) : State :=
  foldState (fun x s =>
    if poisoned s (lineOf x.1) 64 then countPackage 0x18 s
    else writeLine x.1 (reduceBytes ty op (poolBytes s x.1 x.2.2) (sliceBytes src x.2.1 x.2.2)) through s)
    (linePieces a src.length) s

/-- Signals of a U64 MAX reduction on the words of a fence object (08, R277; 04, R148). -/
def reduceFence (g : Fun) (c : Option CtxId) (o : MemObj) (a : Nat) (src : Bytes) (s : State) : State :=
  foldState (fun i s => signalFence g c o ((a - o.base) / 8 + i) (w64 (qwordAt src i)) s)
    (List.range (src.length / 8)) s

/-! ### The tree digest (10_determinism, R330) -/

/-- Leaf i of a digest. -/
def digestLeaf (i : Nat) (b : Bytes) : Bytes := sha384 (0 :: leBytes 8 i ++ b)

/-- One level of the tree. -/
def digestLevel : List Bytes → List Bytes
  | a :: b :: l => sha384 (1 :: a ++ b) :: digestLevel l
  | l => l

/-- The root of a list of leaves. -/
def digestRoot : Nat → List Bytes → Bytes
  | _, [] => []
  | _, [a] => a
  | 0, a :: _ => a
  | fuel + 1, l => digestRoot fuel (digestLevel l)

/-- The tree digest of a sequence of `n` bytes from its leaves. -/
def digestTop (n : Nat) (leaves : List Bytes) : Bytes :=
  sha384 (2 :: leBytes 8 n ++ digestRoot leaves.length leaves)

/-- Feed bytes into an open digest: the open leaf and the closed leaves. -/
def digestFeed (b : Bytes) (leaf : Bytes) (leaves : List Bytes) : Bytes × List Bytes :=
  let all := leaf ++ b
  if all.length < 65536 then (all, leaves)
  else (all.drop 65536, leaves ++ [digestLeaf leaves.length (all.take 65536)])

/-- Fold a digest into accumulator k of a context (10, R331). -/
def foldAcc (c : CtxId) (k : Nat) (t : Bytes) (s : State) : State :=
  modCtx c (fun x => { x with accs := x.accs.modify k fun a => sha384 (3 :: a ++ t) }) s

end Sys2Proof.Machine
end

