-- ==== Sys2Proof/Machine/WindowSend.lean ====
section
/-!
DEFINITION. The sender's window operations (08_windows_coherence, R255, R266 to R268, R273).
-/
namespace Sys2Proof.Machine

/-- The window runs of one side of a tile: peer, window, window offset, bytes and position. -/
def windowRuns (runs : List Run) : List (PackageId × WindowId × Nat × Nat × Nat) :=
  runs.filterMap fun r => match r.target with
    | .window p w off => some (p, w, off, r.bytes, r.pos)
    | _ => none

/-- The distinct pairs of package and window among runs (R273). -/
def windowPairs (runs : List Run) : List (PackageId × WindowId) :=
  ((windowRuns runs).map fun r => (r.1, r.2.1)).eraseDups

/-- What a WINDOW target meets before any frame is sent (R255). -/
def peerCode (s : State) (p : PackageId) : TCode :=
  if p == s.win.localId then .none
  else if !peerValid s p || peerMask s p == 0 then .peerUnmapped
  else match peerState s p with
    | .up => .none
    | _ => .remoteDenied

/-- The first window run that R255 refuses: its code and address. -/
def windowRefusal (s : State) (runs : List Run) : Option (TCode × Nat) :=
  runs.findSome? fun r => match r.target with
    | .window p _ _ => if peerCode s p = .none then none else some (peerCode s p, r.va)
    | _ => none

/-- Lists of at most `n` elements (R268). -/
def chunks {α : Type} (n : Nat) : Nat → List α → List (List α)
  | 0, _ => []
  | fuel + 1, l => if l.length ≤ n then [l] else l.take n :: chunks n fuel (l.drop n)

/-- Frame type of a check (R267). -/
def checkType : Need → Nat
  | .write => 0x01
  | .atomic => 0x02
  | .read => 0x03

/-- Send the check of an operation: its run list in frames of at most 512 runs, the last with Last 1 (R268,
R273). -/
def sendCheck (o : SendOp) (x : Cmd) (s : State) : State :=
  let runs : List WRun := o.runs.map fun r => ⟨r.1, r.2.1⟩
  let lists := chunks 512 (runs.length + 1) runs
  let (el, op) := if o.need = .atomic then (elementType x.raw, reduceOpOf x.raw) else (0, 0)
  foldState (fun i s =>
    sendFrame o.peer (checkType o.need) (frameQ2 o.window o.tile) (frameQ3 o.serial (x.tag.getD 0xFFFF))
      (frameQ4 0 (some o.need) el op (i + 1 == lists.length) 0) (runListBytes (lists.getD i [])) s)
    (List.range lists.length) s

/-- The operations of one side of a tile (R273). -/
def opsOf (x : Cmd) (serial : U32) (tile : Nat) (need : Need) (gtc : U64) (runs : List Run) : List SendOp :=
  (windowPairs runs).map fun p =>
    { ctx := x.ctx, q := x.q, peer := p.1, window := p.2, serial := serial, tile := tile, need := need,
      runs := ((windowRuns runs).filter fun r => r.1 == p.1 && r.2.1 == p.2).map fun r => r.2.2,
      phase := 0, denied := none, since := gtc, got := [] }

/-- The operations that a command has at the sender. -/
def opsOfCmd (s : State) (c : CtxId) (q : Nat) : List SendOp :=
  s.win.sends.filter fun o => o.ctx == c && o.q == q

/-- Two operations are of one side, package, window and list of runs. -/
def sameOp (a b : SendOp) : Bool := a.peer == b.peer && a.window == b.window && a.need == b.need && a.runs == b.runs

/-- Open the operations of a tile that are not open and send their checks; those that its runs no longer ask for are
taken back. A window access of a fixed-schedule context ends its cycle identity (10, R329). -/
def openOps (x : Cmd) (tile : Nat) (src dst : List Run) (need : Need) (s : State) : State :=
  let serial := commandSerial x s
  let want := opsOf x serial tile .read s.gtc src ++ opsOf x serial tile need s.gtc dst
  let held := opsOfCmd s x.ctx x.q
  let fresh := want.filter fun o => !held.any (sameOp o)
  let s := takeBackOps (held.filter fun o => !want.any (sameOp o)) (x.tag.getD 0xFFFF) s
  if fresh.isEmpty then s
  else
    let s := clearCycleExact x.ctx (takeSerial x s)
    let s := { s with win := { s.win with sends := s.win.sends ++ fresh } }
    foldState (fun o s => sendCheck o x s) fresh s

/-- Every operation of a command's tile has been answered: a check accepted, a read complete (R273). -/
def opsAnswered (s : State) (c : CtxId) (q : Nat) : Bool :=
  (opsOfCmd s c q).all fun o => if o.need = .read then o.phase == 3 else 1 ≤ o.phase && o.phase ≤ 3

/-- Every operation has its DONE, or its read data (R276). -/
def opsDone (s : State) (c : CtxId) (q : Nat) : Bool := (opsOfCmd s c q).all fun o => o.phase == 3

/-- Bytes of an operation's sequence out of a tile's bytes (R268). -/
def opBytes (o : SendOp) (tile : Bytes) : Bytes := o.runs.flatMap fun r => sliceBytes tile r.2.2 r.2.1

/-- Send the DATA frames of an operation, 4 KiB each, the last with Last 1 (R266, R273). -/
def sendData (o : SendOp) (tag : U16) (b : Bytes) (s : State) : State :=
  let n := (b.length + 4095) / 4096
  foldState (fun i s =>
    sendFrame o.peer 0x20 (frameQ2 o.window o.tile) (frameQ3 o.serial tag)
      (frameQ4 0 (some o.need) 0 0 (i + 1 == n) (4096 * i))
      (sliceBytes b (4096 * i) (min 4096 (b.length - 4096 * i))) s) (List.range n) s

/-- Send the data of a command's accepted writes and reductions. One that the receiver has already committed
sends nothing (R274). -/
def sendOps (x : Cmd) (tile : Bytes) (s : State) : State :=
  foldState (fun o s =>
      if o.need = .read || o.phase != 1 then s else sendData o (x.tag.getD 0xFFFF) (opBytes o tile) s)
    (opsOfCmd s x.ctx x.q)
    { s with win := { s.win with
      sends := s.win.sends.map fun o =>
        if o.ctx == x.ctx && o.q == x.q && o.need != .read && o.phase == 1 then { o with phase := 2 } else o } }

/-- The bytes that a tile's window reads have brought, by position. -/
def windowPieces (s : State) (c : CtxId) (q : Nat) : List (Nat × Bytes) :=
  (opsOfCmd s c q).flatMap fun o =>
    if o.need = .read then
      (List.range o.runs.length).map fun i =>
        let before := ((o.runs.take i).map (·.2.1)).foldl (· + ·) 0
        let r := o.runs.getD i (0, 0, 0)
        (r.2.2, sliceBytes o.got before r.2.1)
    else []

/-- Forget the operations of a command's tile once it is delivered. -/
def dropOps (c : CtxId) (q : Nat) (s : State) : State :=
  { s with win := { s.win with sends := s.win.sends.filter fun o => !(o.ctx == c && o.q == q) } }

end Sys2Proof.Machine
end

