-- ==== Sys2Proof/Machine/Transfer.lean ====
section
/-!
DEFINITION. Tensor transfers (07_transfers_faults, R231 to R249): the tiles of a command, the engines that
move them, consumer credits, and the fault queue.
-/
namespace Sys2Proof.Machine

/-! ### Fault records (R242 to R245) -/

/-- The fault queue takes records: it is neither DISABLED nor in ERROR (R240, R245). -/
def faultqRuns (f : FaultQ) : Bool := f.enable && f.error == .none

/-- The ring has no free slot once the records ahead are written (R241, R243). -/
def faultqFull (f : FaultQ) : Bool := 2 ^ f.log2 ≤ (f.tail - f.head).toNat + f.waiting.length

/-- The next FaultId; 0 is skipped (R244). -/
def nextFaultId (i : U32) : U32 := if i + 1 = 0 then 1 else i + 1

/-- Permission that a destination of a transfer needs (06, R197). -/
def dstNeed (raw : Bytes) : Need := if hdrOpcode raw = 0x0011 then .atomic else .write

/-- Capture fields of an engine's access to a context address (12, R380). -/
def engineInfo (y : Xfer) (va : Nat) (need : Need) : ErrInfo :=
  { kind := 4, unit := y.engine.val, address := w64 va, addressKind := 2, access := accessCode need }

/-- Tile k of a command faults: the record is formed and the command waits for its answer, or the fault ends
at once as a timeout where the queue does not run (R233, R243, R245). `deny` is the DENY code and the
package of a refused window operation (08, R275). -/
def tileFault (c : CtxId) (q : Nat) (code : TCode) (side : Nat) (need : Need) (va : Nat)
    (deny : Option (Nat × PackageId)) (s : State) : State :=
  match cmd? s c q, ctx? s c with
  | some x, some cx =>
    (match x.xfer with
    | none => s
    | some y =>
      if cx.state ≠ .ready then endCmd c q .contextLost (countFn cx.fn 0x05 s)
      else
        let s := cancelOps c q (x.tag.getD 0xFFFF) s
        let f := (getFn s cx.fn).faultq
        let id := f.nextId
        let s := modFaultq cx.fn (fun z => { z with nextId := nextFaultId z.nextId }) s
        let s := match deny with
          | some d => modFn cx.fn (fun z => { z with
              remoteDeny := w64 (id.toNat * 2 ^ 32 + d.1 * 2 ^ 24 + d.2.toNat * 2 ^ 12) }) s
          | none => s
        let s := countFn cx.fn 0x0A s
        if !faultqRuns f then faultCmd c q .faultTimeout (engineInfo y va need) (countFn cx.fn 0x0D s)
        else
          let s := if faultqFull f then countFn cx.fn 0x0B s else s
          let r : FaultRec :=
            { id := id, code := code, side := side, need := need, ctx := c, opcode := hdrOpcode x.raw,
              q := q, tag := x.tag.getD 0xFFFF, va := va, resume := y.next, count := tileCount x.raw,
              gtc := s.gtc, data := w64 (hdrData x.raw), written := 0 }
          modCmd c q (fun z => { z with
            xfer := z.xfer.map fun w => { w with faulted := some id, tile := none, atsDenied := none } })
            (modFaultq cx.fn (fun z => { z with waiting := z.waiting ++ [r] }) s))
  | _, _ => s

/-- A data error of a tile is a context fault and no fault record (R235). -/
def tileError (x : Cmd) (y : Xfer) (st : CStatus) (va : Nat) (s : State) : State :=
  faultCmd x.ctx x.q st (engineInfo y va .read) s

/-! ### Translating a tile (R232 to R234) -/

/-- A reduction into a fence object other than U64 MAX finds no ATOMIC there (04, R148). -/
def fenceRefusal (s : State) (raw : Bytes) (dst : List Run) : Option Nat :=
  if hdrOpcode raw = 0x0011 && !(elementType raw == 3 && reduceOpOf raw == 1) then
    dst.findSome? fun r => match r.object.bind (obj? s) with
      | some o => if o.fence then some r.va else none
      | none => none
  else none

/-- Every range-store entry that a tile was translated through is still there (R234). -/
def runsHeld (s : State) (runs : List Run) : Bool :=
  runs.all fun r => s.trans.banks.any fun b => b.any fun e => e.id == r.entry

/-- Bytes of HOST runs for which no ATS translation is held: the run's address, the PASID and the units
(R219). -/
def hostMissing (s : State) (g : Fun) (runs : List Run) (write : Bool) :
    List (Nat × BitVec 20 × List Nat) :=
  runs.filterMap fun r => match r.target with
    | .host a p =>
      let m := atsMissing s g p a r.bytes write
      if m.isEmpty then none else some (r.va, p, m)
    | _ => none

/-- The HOST runs of a tile that miss a translation: sources first; a replay needs none for its reads. -/
def tileMissing (s : State) (c : CtxId) (g : Fun) (t : Tile) :
    List (Nat × Nat × BitVec 20 × List Nat) :=
  (if replaying s c then [] else (hostMissing s g t.src false).map fun m => (0, m)) ++
    (hostMissing s g t.dst true).map fun m => (1, m)

/-- The runs of a tile in the order of R232, each with its side. -/
def tileRuns (t : Tile) : List (Nat × Run) := t.src.map (fun r => (0, r)) ++ t.dst.map fun r => (1, r)

/-- Need of a side of a transfer (06, R197). -/
def sideNeed (raw : Bytes) (side : Nat) : Need := if side = 0 then .read else dstNeed raw

/-! ### Moving a tile -/

/-- Pool spans of runs. -/
def poolRuns (runs : List Run) : List (Nat × Nat × Nat) :=
  runs.filterMap fun r => match r.target with
    | .pool a => some (a, r.bytes, r.pos)
    | _ => none

/-- Host spans of runs: address, PASID, bytes and position. -/
def hostRuns (runs : List Run) : List (Nat × BitVec 20 × Nat × Nat) :=
  runs.filterMap fun r => match r.target with
    | .host a p => some (a, p, r.bytes, r.pos)
    | _ => none

/-- The lines of a tile's pool spans have to wait for snoops (08, R280). -/
def tileGated (s : State) (t : Tile) : Bool :=
  ((poolRuns t.src).any fun r => gated s r.1 r.2.1 false none) ||
    (poolRuns t.dst).any fun r => gated s r.1 r.2.1 true none

/-- Send the snoops that a tile waits for; its engine's access waits for them (12, R380). -/
def tileSnoops (x : Cmd) (y : Xfer) (g : Fun) (t : Tile) (s : State) : State :=
  let i (access : Nat) : ErrInfo :=
    { kind := 4, unit := y.engine.val, fn := some g, ctx := some x.ctx, access := access }
  foldState (fun r s => gateSnoops (i (accessCode (dstNeed x.raw))) r.1 r.2.1 true none s) (poolRuns t.dst)
    (foldState (fun r s => gateSnoops (i 1) r.1 r.2.1 false none s) (poolRuns t.src) s)

/-- Every HOST source byte of a tile has arrived. -/
def hostRead? (t : Tile) : Bool :=
  (hostRuns t.src).all fun r => covered t.pieces (t.pieces.length + 1) r.2.2.2 r.2.2.1

/-- The source bytes of a tile, in element order (R226, R230). -/
def tileData (s : State) (x : Cmd) (t : Tile) : Bytes :=
  if hdrOpcode x.raw = 0x0012 then
    (List.range (fillTile x.raw t.index).2).map fun i => (leBytes 8 (fillPattern x.raw)).getD (i % 8) 0
  else
    let pieces := (poolRuns t.src).map (fun r => (r.2.2, ctxBytes s x.ctx r.1 r.2.1)) ++ t.pieces ++
      windowPieces s x.ctx x.q
    gather pieces 0 (tileBytesOf x.raw t.index)

/-- A poisoned source line of a tile (R235; 09, R301). -/
def poisonedSource (s : State) (t : Tile) : Option Nat :=
  ((poolRuns t.src).find? fun r => poisoned s r.1 r.2.1).map (·.1)

/-- Starts of every row of a side of a tensor along dimension 0. -/
def allRows (d : Desc) (base : Nat) (strides : List Nat) : List Nat :=
  (List.range (nth d.size 4)).flatMap fun i4 => (List.range (nth d.size 3)).flatMap fun i3 =>
    (List.range (nth d.size 2)).flatMap fun i2 => (List.range (nth d.size 1)).map fun i1 =>
      elemAddr base d.elem strides [0, i1, i2, i3, i4]

/-- Destination byte `a` of a tensor is undefined: two destination elements share it, or it shares its address
with a source byte of the command (R228). -/
def byteUndefined (raw : Bytes) (a : Nat) : Bool :=
  if hdrOpcode raw = 0x0012 then false
  else
    let d := descOf raw
    let row := d.elem * nth d.size 0
    let hits (l : List Nat) : Nat := (l.filter fun r => r ≤ a && a < r + row).length
    1 < hits (allRows d d.dst d.dstStride) || 0 < hits (allRows d d.src d.srcStride)

/-- The bytes of a destination run at `va`, with those of R228 free. -/
def definedBytes (raw : Bytes) (draw va : Nat) (b : Bytes) : Bytes :=
  (List.range b.length).map fun i =>
    if byteUndefined raw (va + i) then Config.undefinedByte draw (va + i) else b.getD i 0

/-- A tile's source bytes as its destination receives them, with those of R228 free, whichever path they take. -/
def freeData (raw : Bytes) (draw : Nat) (dst : List Run) (data : Bytes) : Bytes :=
  dst.foldl (fun d r => overlay d r.pos (definedBytes raw draw r.va (sliceBytes d r.pos r.bytes))) data

/-- The result of a reduction in the pool, at `a`, with the bytes of R228 free whatever stood there. -/
def freeResult (x : Cmd) (va a n : Nat) (s : State) : State :=
  if (List.range n).any fun i => byteUndefined x.raw (va + i) then
    draw (poolWrite a (definedBytes x.raw s.draws va (poolBytes s a n)) (isFixed s x.ctx) s)
  else s

/-- A reduction runs on a piece of pool memory: on a word of a fence object as a signal, else element by element, with
the bytes that its operands leave undefined free (05, R161, R170; R228). -/
def reduceRun (x : Cmd) (g : Fun) (r : Run) (p : Nat) (b : Bytes) (s : State) : State :=
  let through := isFixed s x.ctx
  let s1 := if through && !pinned s p r.bytes then clearCycleExact x.ctx s else s
  match (r.object.bind (obj? s1)).filter (·.fence) with
  | some o => reduceFence g (some x.ctx) o p b s1
  | none =>
    let s2 := poolReduce (elementType x.raw) (reduceOpOf x.raw) p b through s1
    freeResult x r.va p r.bytes s2

/-- Write or reduce one destination run, and what the run then holds (R231, R170; 04, R149; 10, R321,
R322). What a reduction behind a window leaves is not known here and is free. A word of a fence object, which only
rises (04, R148), takes the maximum with the free bytes of R228: DEDUCED. -/
def moveRun (x : Cmd) (g : Fun) (data : Bytes) (r : Run) (a : State × List (Nat × Bytes)) :
    State × List (Nat × Bytes) :=
  let (s, outs) := a
  let b := sliceBytes data r.pos r.bytes
  let through := isFixed s x.ctx
  let atomic := hdrOpcode x.raw == 0x0011
  match r.target with
  | .pool p =>
    if atomic then
      let s := reduceRun x g r p b s
      (s, outs ++ [(r.pos, poolBytes s p r.bytes)])
    else (poolWrite p b through s, outs ++ [(r.pos, b)])
  | .host h p => (hostWrite g h (some p) b s, outs ++ [(r.pos, b)])
  | .window _ _ _ =>
    if atomic then (s, outs ++ [(r.pos, (List.range r.bytes).map (Config.undefinedByte s.draws))])
    else (s, outs ++ [(r.pos, b)])

/-- Begin the delivery of a tile: its destination writes, reductions and window data are issued, and its
output bytes are kept (R234). -/
def deliverTile (x : Cmd) (y : Xfer) (g : Fun) (t : Tile) (s : State) : State :=
  match poisonedSource s t with
  | some a => tileError x y .poisonedData a (countPackage 0x17 s)
  | none =>
    let data := freeData x.raw s.draws t.dst (tileData s x t)
    let s := draw s
    let (s, outs) := t.dst.foldl (fun a r => moveRun x g data r a) (s, [])
    let s := draw (sendOps x data s)
    modCmd x.ctx x.q (fun z => { z with
      xfer := z.xfer.map fun w =>
        { w with tile := some { t with begun := true, pieces := [(0, gather outs 0 data.length)] } } }) s

/-- Ask for the HOST source runs of a tile. -/
def readTile (x : Cmd) (g : Fun) (t : Tile) (s : State) : State :=
  foldState (fun r s => ctxHostRead x.ctx g (.tile x.ctx x.q) r.1 r.2.2.2 r.2.2.1 r.2.1 t.pieces s)
    (hostRuns t.src) s

/-- What a translated run of a tile still meets before any byte moves (R232). -/
inductive RunMeets where
  | passes
  | waits
  | faults (code : TCode) (va : Nat)
  /-- a node of the range table is poisoned (06, R200) -/
  | poisoned (va : Nat)
  deriving DecidableEq, Repr

/-- The check of a window run: the peer, then the answer to its operation (08, R255, R273, R275). -/
def windowMeets (s : State) (x : Cmd) (need : Need) (p : PackageId) (w : WindowId) (va : Nat) : RunMeets :=
  if peerCode s p ≠ .none then .faults (peerCode s p) va
  else match (opsOfCmd s x.ctx x.q).find? fun o => o.peer == p && o.window == w && o.need == need with
    | none => .waits
    | some o => match o.denied with
      | some d => .faults .remoteDenied d.2
      | none =>
        if (if need = .read then o.phase == 3 else 1 ≤ o.phase && o.phase ≤ 3) then .passes else .waits

/-- What a run meets: PASID Enable and ATS for a HOST target, the checks of a window, nothing else in the pool (R232;
02, R47; 06, R219, R220). A denied unit faults at its first address in the run. -/
def runMeets (s : State) (x : Cmd) (y : Xfer) (g : Fun) (side : Nat) (r : Run) : RunMeets :=
  match r.target with
  | .pool _ => .passes
  | .host a p =>
    if !(getFn s g).cfg.pasidEnable then .faults .pasidDisabled r.va
    else if side = 0 && replaying s x.ctx then .passes
    else match (atsMissing s g p a r.bytes (side == 1)).head? with
      | none => .passes
      | some u => if y.atsDenied = some u then .faults .atsDenied (r.va + (u - a)) else .waits
  | .window p w _ => windowMeets s x (sideNeed x.raw side) p w r.va

/-- What the end of a tile's runs meets. -/
def stopMeets (f : TOut × Nat × Nat) : RunMeets :=
  match f.1 with
  | .fault c => .faults c f.2.2
  | .poisoned => .poisoned f.2.2
  | _ => .waits

/-- What a tile meets first in the order of R232, with the side; what ends its runs comes last. -/
def tileMeets (s : State) (x : Cmd) (y : Xfer) (g : Fun) (t : Tile) : Option (Nat × RunMeets) :=
  match (tileRuns t).find? fun r => runMeets s x y g r.1 r.2 != .passes with
  | some r => some (r.1, runMeets s x y g r.1 r.2)
  | none => t.stop.map fun f => (f.2.1, stopMeets f)

/-- The translation of a tile waits for an answer. -/
def stopWaits (t : Tile) : Bool := t.stop.any fun f => stopMeets f == .waits

/-- A translation fault of a tile, counted (R199, R233). -/
def tileStops (x : Cmd) (side : Nat) (code : TCode) (va : Nat) (deny : Option (Nat × PackageId)) (s : State) :
    State :=
  tileFault x.ctx x.q code side (sideNeed x.raw side) va deny (match ctx? s x.ctx with
    | some cx => countFn cx.fn 0x08 s
    | none => s)

/-- The DENY behind a fault with REMOTE_DENIED: its code and the package (08, R275). -/
def denyOf (s : State) (x : Cmd) (need : Need) (va : Nat) : Option (Nat × PackageId) :=
  (opsOfCmd s x.ctx x.q).findSome? fun o => match o.denied with
    | some d => if o.need == need && d.2 == va then some (d.1, o.peer) else none
    | none => none

/-- The runs of a tile that lie ahead of the first that faults. -/
def openRuns (s : State) (x : Cmd) (y : Xfer) (g : Fun) (t : Tile) : List (Nat × Run) :=
  (tileRuns t).takeWhile fun r => match runMeets s x y g r.1 r.2 with
    | .faults _ _ => false
    | _ => true

/-- Seek what the runs of a tile wait for: translations of ATS first, then, once every run is translated, the answers
of windows (R232). -/
def seekTile (x : Cmd) (y : Xfer) (g : Fun) (t : Tile) (s : State) : State :=
  let runs := openRuns s x y g t
  let side (n : Nat) : List Run := (runs.filter fun r => r.1 == n).map (·.2)
  let missing := tileMissing s x.ctx g { t with src := side 0, dst := side 1 }
  if missing.isEmpty then
    if stopWaits t then s else openOps x t.index (side 0) (side 1) (dstNeed x.raw) s
  else foldState (fun m s => atsAsk g m.2.2.1 (m.2.2.2.filter fun u => y.atsDenied != some u) s) missing s

/-- Translate again the runs of a side whose range-store entry has been dropped (R234): the runs up to what stops
them, and that with its address. A run that has to wait stays as it is. -/
def refreshRuns (who : Who) (need : Need) : List Run → State → State × List Run × Option (TOut × Nat)
  | [], s => (s, [], none)
  | r :: rs, s =>
    if runsHeld s [r] then
      match refreshRuns who need rs s with
      | (s, l, e) => (s, r :: l, e)
    else match translateSpans who need [(r.pos, r.va, r.bytes)] s with
      | (s, _, some (.wait, va)) => (s, r :: rs, some (.wait, va))
      | (s, a, some e) => (s, a, some e)
      | (s, a, none) =>
        match refreshRuns who need rs s with
        | (s, l, e) => (s, a ++ l, e)

/-- Keep the runs of a command's tile, with what they end at. -/
def keepRuns (x : Cmd) (src dst : List Run) (stop : Option (TOut × Nat × Nat)) (s : State) : State :=
  modCmd x.ctx x.q (fun z => { z with
    xfer := z.xfer.map fun w => { w with
      tile := w.tile.map fun t => { t with src := src, dst := dst, stop := stop } } }) s

/-- Parts of a tile's translations were dropped before its delivery began: those parts are translated again, their
source bytes are read again, and their window operations are cancelled and checked afresh (R234). -/
def refreshTile (x : Cmd) (g : Fun) (t : Tile) (s : State) : State :=
  let who := Who.ctx x.ctx
  let need := dstNeed x.raw
  let gone (rs : List Run) : List Run := rs.filter fun r => !runsHeld s [r]
  let pairs (n : Need) (rs : List Run) : List (PackageId × WindowId × Need) :=
    (windowRuns (gone rs)).map fun r => (r.1, r.2.1, n)
  let lost := pairs .read t.src ++ pairs need t.dst
  let hit (pos n : Nat) : Bool := (gone t.src).any fun r => spansMeet r.pos r.bytes pos n
  let s := takeBackOps ((opsOfCmd s x.ctx x.q).filter fun o => lost.contains (o.peer, o.window, o.need))
    (x.tag.getD 0xFFFF) s
  let s := modFixed x.ctx (fun f => { f with
    replayWaits := f.replayWaits.map fun w =>
      if w.use == .tile x.ctx x.q && hit w.offset w.bytes then { w with use := .stale x.ctx } else w })
    (dropReads g x.ctx x.q hit s)
  match refreshRuns who .read t.src s with
  | (s, src, some (e, va)) =>
    if stopMeets (e, 0, va) = .waits then keepRuns x src t.dst t.stop s else keepRuns x src [] (some (e, 0, va)) s
  | (s, src, none) =>
    match refreshRuns who need t.dst s with
    | (s, dst, e) =>
      match fenceRefusal s x.raw dst, e with
      | some va, _ => keepRuns x src (dst.takeWhile fun r => r.va != va) (some (.fault .noAtomic, 1, va)) s
      | none, some (e, va) =>
        keepRuns x src dst (if stopMeets (e, 1, va) = .waits then t.stop else some (e, 1, va)) s
      | none, none => keepRuns x src dst t.stop s

/-- What is left of spans, given as position, address and bytes, beyond the first `n` bytes. -/
def spansFrom (n : Nat) (l : List (Nat × Nat × Nat)) : List (Nat × Nat × Nat) :=
  l.filterMap fun r =>
    if r.1 + r.2.2 ≤ n then none else some (r.1 + (n - r.1), r.2.1 + (n - r.1), r.2.2 - (n - r.1))

/-- Where the runs of a side end. -/
def runsEnd (l : List Run) : Nat := l.foldl (fun m r => max m (r.pos + r.bytes)) 0

/-- Translate the destination side of a tile from where its runs end (R232; 04, R148). -/
def extendDst (x : Cmd) (t : Tile) (s : State) : State × Tile :=
  match translateSpans (.ctx x.ctx) (dstNeed x.raw) (spansFrom (runsEnd t.dst) (dstRuns x.raw t.index)) s with
  | (s, more, e) =>
    let dst := t.dst ++ more
    match fenceRefusal s x.raw dst with
    | some va => (s, { t with dst := dst.takeWhile (fun r => r.va != va), stop := some (.fault .noAtomic, 1, va) })
    | none => (s, { t with dst := dst, stop := e.map fun e => (e.1, 1, e.2) })

/-- Translate a tile on from where its translation waits: the source side first, the destination side second
(R232). The runs that are done are not looked up again. -/
def extendTile (x : Cmd) (t : Tile) (s : State) : State × Tile :=
  if !stopWaits t then (s, t)
  else if t.stop.any fun f => f.2.1 = 1 then extendDst x t s
  else match translateSpans (.ctx x.ctx) .read (spansFrom (runsEnd t.src) (srcRuns x.raw t.index)) s with
    | (s, more, some (e, va)) => (s, { t with src := t.src ++ more, stop := some (e, 0, va) })
    | (s, more, none) => extendDst x { t with src := t.src ++ more, stop := none } s

/-- Move a tile as far as it can go: what its runs still meet, in order, then source reads and delivery (R232 to
R234, R249). -/
def moveOn (x : Cmd) (y : Xfer) (g : Fun) (t : Tile) (s : State) : State :=
  match tileMeets s x y g t with
  | some (side, .faults code va) => tileStops x side code va (denyOf s x (sideNeed x.raw side) va) s
  | some (_, .poisoned va) => tileError x y .poisonedData va s
  | some _ => seekTile x y g t s
  | none =>
    if !hostRead? t then readTile x g t s
    else if tileGated s t then tileSnoops x y g t s
    else deliverTile x y g t (evictBefore x.ctx (poolRuns t.src) s)

/-- Go on with a tile: parts whose translations were dropped are translated again, else its translation goes on where
it waits, and it moves (R232, R234). -/
def moveTile (x : Cmd) (y : Xfer) (g : Fun) (t : Tile) (s : State) : State :=
  if !runsHeld s (t.src ++ t.dst) then refreshTile x g t s
  else
    let (s, t) := extendTile x t s
    moveOn x y g t (keepRuns x t.src t.dst t.stop s)

/-- Translate tile `k` of a command and keep it: the runs ahead of the first fault, which is reported once they
have met nothing earlier in the order of R232 (R232, R233). -/
def startTile (x : Cmd) (y : Xfer) (g : Fun) (s : State) : State :=
  let (s, t) := extendTile x ⟨y.next, [], [], [], false, some (.wait, 0, 0)⟩ s
  moveOn x { y with atsDenied := none } g t (modCmd x.ctx x.q (fun z => { z with
    xfer := z.xfer.map fun w => { w with tile := some t, atsDenied := none } }) s)

/-! ### Engines (R236, R237) -/

/-- A window operation of a command is still without its answer. -/
def opsWait (s : State) (x : Cmd) : Bool :=
  (opsOfCmd s x.ctx x.q).any fun o => o.denied.isNone &&
    !(if o.need = .read then o.phase == 3 else 1 ≤ o.phase && o.phase ≤ 3)

/-- A tile waits for host data, ATS translations or window answers (R237). -/
def tileWaits (s : State) (x : Cmd) (g : Fun) (t : Tile) : Bool :=
  let p := portOf g
  readsOut s p (.tile x.ctx x.q) ||
  ((tileMissing s x.ctx g t).any fun m => m.2.2.2.any fun a => readsOut s p (.ats m.2.2.1 a)) ||
  (match fixed? s x.ctx with
    | some f => f.replayWaits.any fun w => w.use == .tile x.ctx x.q
    | none => false) ||
  opsWait s x

/-- Credit allows tile k (R239). -/
def creditOk (raw : Bytes) (y : Xfer) : Bool :=
  creditOf raw == 0xFFFF || windowOf raw == 0 || y.next < y.consumed + windowOf raw

/-- An engine may serve a command now: it is not skipped under R237, nor held by its function's stall, its time
slot or a recorded stall (R73; 10, R318, R337). -/
def canTurn (s : State) (x : Cmd) : Bool :=
  match x.xfer, ctx? s x.ctx with
  | some y, some cx =>
    cx.state == .ready && y.faulted.isNone && x.stage == .dispatched && mayIssue s x.ctx &&
    !replayStalled s x.ctx && !packageHeld s &&
    (match y.tile with
      | none => !fnStalled s cx.fn && creditOk x.raw y
      | some t => !t.begun && !tileWaits s x cx.fn t && !(stopWaits t && fnStalled s cx.fn))
  | _, _ => false

/-- A command is cut into steps (05, R182). -/
def stepped (raw : Bytes) : Bool :=
  if hdrOpcode raw = 0x0012 then 0x4000000 < fillBytes raw
  else 0x4000000 < (descOf raw).elem * prod (descOf raw).size

/-- One turn of a command (R249). -/
def turnCmd (x : Cmd) (s : State) : State :=
  match x.xfer, ctx? s x.ctx with
  | some y, some cx =>
    match y.tile with
    | some t => moveTile x y cx.fn t s
    | none => startTile x y cx.fn s
  | _, _ => s

/-- Cycles of an engine's own work on the next tile of a command: 64 bytes in each (05, R182, R183). -/
def tileCycles (x : Cmd) : Nat :=
  match x.xfer with
  | some y => (tileBytesOf x.raw y.next + 63) / 64
  | none => 0

/-- A command of an engine may be served now. -/
def turnOk (s : State) (k : CtxId × Nat) : Bool :=
  match cmd? s k.1 k.2 with
  | some x => canTurn s x
  | none => false

/-- A command of an engine is cut into steps. -/
def steppedKey (s : State) (k : CtxId × Nat) : Bool := (cmd? s k.1 k.2).any fun x => stepped x.raw

/-- Every command that waits for an engine now, other than a stepped one (05, R183). -/
def waitingOn (s : State) (x : EngineSt) : List (CtxId × Nat) := x.active.filter fun j => turnOk s j && !steppedKey s j

/-- The running step of an engine ends: its command goes to the end of the round robin, and every command that waits
then, other than a stepped one, is served before the next step (05, R183). -/
def stepOver (s : State) (x : EngineSt) : EngineSt :=
  match x.serving with
  | none => x
  | some k =>
    { x with
      active := (x.active.filter (· != k)) ++ (x.active.filter (· == k)), serving := none, moved := 0, counted := none
      closed := false, owed := waitingOn s x }

/-- The tile that a command moves, or moves next. -/
def tileAt (x : Cmd) : Nat := (x.xfer.map (·.next)).getD 0

/-- The step may go on: its command is not skipped, and the boundary of the tile, unless the step has counted it, lies
within 2,500 cycles of work (05, R182). -/
def stepGoes (s : State) (x : EngineSt) (k : CtxId × Nat) : Bool :=
  turnOk s k && match cmd? s k.1 k.2 with
    | some c => x.counted = some (tileAt c) || x.moved = 0 || x.moved + tileCycles c ≤ 2500
    | none => false

/-- The tile of the running step is in delivery into the pool or to the host: the engine is at work on it. -/
def delivering (s : State) (k : CtxId × Nat) : Bool :=
  match cmd? s k.1 k.2 with
  | some c => ((c.xfer.bind (·.tile)).any (·.begun)) && c.stage == .dispatched && (opsOfCmd s k.1 k.2).isEmpty
  | none => false

/-- The next command in round robin: one that was waiting when the last step ended goes first (R237; 05, R183). -/
def nextTurn (s : State) (x : EngineSt) : EngineSt × Option (CtxId × Nat) :=
  match x.active.find? fun k => x.owed.contains k && turnOk s k with
  | some k => ({ x with owed := x.owed.filter (· != k) }, some k)
  | none => ({ x with owed := [] }, x.active.find? (turnOk s))

/-- Settle whose turn it is at an engine: the command whose step runs, while it goes on, else the next one (R237;
05, R183). -/
def pickTurn (s : State) (x : EngineSt) : EngineSt × Option (CtxId × Nat) :=
  match x.serving with
  | none => nextTurn s (if x.closed then { x with closed := false, owed := waitingOn s x } else x)
  | some k =>
    if delivering s k then (x, none)
    else if stepGoes s x k then (x, some k)
    else nextTurn s (stepOver s x)

/-- Cycles that a turn adds to the step of a command: those of its tile, once in each step (05, R182). -/
def turnCycles (x : EngineSt) (c : Cmd) : Nat := if x.counted = some (tileAt c) then 0 else tileCycles c

/-- An engine as it serves a command: a stepped one keeps its place for the length of its step, any other goes to the
end of the round robin (R237). -/
def servedBy (s : State) (x : EngineSt) (k : CtxId × Nat) : EngineSt :=
  if steppedKey s k then
    match cmd? s k.1 k.2 with
    | some c => { x with serving := some k, moved := x.moved + turnCycles x c, counted := some (tileAt c) }
    | none => x
  else { x with active := (x.active.filter (· != k)) ++ [k] }

/-- At the end of a tile the step that cannot take another one ends (05, R182, R183). -/
def settleStep (e : Engine) (s : State) : State :=
  modEngine e (fun x => match x.serving with
    | some k => if delivering s k || stepGoes s x k then x else stepOver s x
    | none => x) s

/-- A turn of an engine (R237). -/
def engineTurn (e : Engine) (s : State) : State :=
  let (x, next) := pickTurn s (getEngine s e)
  match next with
  | none => modEngine e (fun _ => x) s
  | some k =>
    match cmd? s k.1 k.2 with
    | none => s
    | some c => turnCmd c (modEngine e (fun _ => servedBy s x k) s)

/-- ENGINE_TURN (R237, R249). -/
def execEngineTurn (e : Engine) (s : State) : Out := .next (engineTurn e s)

/-- The destination bytes of a delivered tile. The results of a reduction behind a window of this package are read where
they lie; those behind another package's are free (10, R331). -/
def resultBytes (s : State) (x : Cmd) (t : Tile) : Bytes :=
  let b := (t.pieces.map (·.2)).flatten
  if hdrOpcode x.raw ≠ 0x0011 then b
  else (windowRuns t.dst).foldl (fun b r =>
    if r.1 ≠ s.win.localId then b
    else (pages r.2.2.1 r.2.2.2.1).foldl (fun b p => match windowPool s r.2.1 p.1 with
      | some a => overlay b (r.2.2.2.2 + (p.1 - r.2.2.1)) (poolBytes s a p.2)
      | none => b) b) b

/-- A tile is visible: it is credited and digested, and the next tile may begin; after the last one the
command's work is done (R231, R238, R249; 10, R331). -/
def tileDone (x : Cmd) (y : Xfer) (t : Tile) (s : State) : State :=
  let n := tileCount x.raw
  let s := match x.tag with
    | some tag =>
      if creditOf x.raw = 0xFFFF then s
      else emit (.tileCredit (creditOf x.raw) tag y.next (y.next + 1 == n)) s
    | none => s
  let b := resultBytes s x t
  let fed := if digestOf x.raw then digestFeed b y.leaf y.leaves else (y.leaf, y.leaves)
  let s := modCmd x.ctx x.q (fun z => { z with
    xfer := z.xfer.map fun w =>
      { w with
        next := w.next + 1, tile := none, leaf := fed.1, leaves := fed.2
        outBytes := if digestOf x.raw then w.outBytes + b.length else w.outBytes } })
    (dropOps x.ctx x.q (match ctx? s x.ctx with
      | some cx => countFn cx.fn 0x09 s
      | none => s))
  if y.next + 1 = n then endCmd x.ctx x.q .success s else settleStep y.engine s

/-- The tile in delivery of a command becomes visible (R231). -/
def tileDelivered (c : CtxId) (q : Nat) (s : State) : State :=
  match cmd? s c q with
  | none => s
  | some x =>
    match x.xfer, x.stage with
    | some y, .dispatched =>
      (match y.tile with
      -- the DONEs of a fixed-schedule context enter in its issue windows (10, R318)
      | some t =>
        if t.begun && opsDone s c q && ((opsOfCmd s c q).isEmpty || mayIssue s c) then tileDone x y t s else s
      | none => s)
    | _, _ => s

/-- TILE_DELIVERED (R231). -/
def execTileDelivered (c : CtxId) (q : Nat) (s : State) : Out := .next (tileDelivered c q s)

/-! ### Consumers (R238, R239) -/

/-- The transfer that holds a stream tag: from its dispatch to its completion (R239; 05, R177). -/
def cmdOfTag (s : State) (tag : U16) : Option Cmd :=
  s.cmd.table.find? fun x => x.tag == some tag && isTransfer x.raw

/-- A consumed count whose stream tag is not live is dropped and counted for the function whose command held the
tag last (R239), which is DEDUCED; for a tag that no command has held, the function is free. -/
def dropConsumed (tag : U16) (s : State) : State :=
  match assocGet s.cmd.tagFns tag.toNat with
  | some g => countFn g 0x0E s
  | none => countFn (fun5 (Config.choice s.draws 32)) 0x0E (draw s)

/-- A consumed count arrives (R239). A CreditId that is not the command's, which R239 leaves open, makes the count ignored
and counted, as one out of range is: DESIGN CHOICE. -/
def tileConsumed (tag creditId : U16) (n : Nat) (s : State) : State :=
  match cmdOfTag s tag with
  | none => dropConsumed tag s
  | some x =>
    match ctx? s x.ctx with
    | some cx =>
      let consumed := (x.xfer.map (·.consumed)).getD 0
      let delivered := (x.xfer.map (·.next)).getD 0
      if creditOf x.raw ≠ creditId.toNat || n < consumed || delivered < n then countFn cx.fn 0x0E s
      else modCmd x.ctx x.q (fun z => { z with xfer := z.xfer.map fun w => { w with consumed := n } }) s
    | none => s

/-- TILE_CONSUMED (R239). -/
def execTileConsumed (tag creditId : U16) (n : Nat) (s : State) : Out :=
  .next (tileConsumed tag creditId n s)

end Sys2Proof.Machine
end

