-- ==== Sys2Proof/Machine/Faults.lean ====
section
/-!
DEFINITION. The fault queue and the answers to its records (07_transfers_faults, R240 to R248).
-/
namespace Sys2Proof.Machine

/-- Fault codes of R199 (06_translation). -/
def tcodeOf : TCode → Nat
  | .none => 0x00
  | .unmapped => 0x01
  | .faultRange => 0x02
  | .noRead => 0x03
  | .noWrite => 0x04
  | .noAtomic => 0x05
  | .tableMalformed => 0x06
  | .targetOutOfBounds => 0x07
  | .staleTarget => 0x08
  | .noTargetRight => 0x09
  | .pasidDisabled => 0x0A
  | .atsDenied => 0x0B
  | .peerUnmapped => 0x0C
  | .remoteDenied => 0x0D

/-- A fault record's 64 bytes with its Phase bit (R242). -/
def faultBytes (r : FaultRec) (phase : Bool) : Bytes :=
  leBytes 8 (r.id.toNat * 2 ^ 32 + tcodeOf r.code * 2 ^ 24 + r.side * 2 ^ 23 + accessCode r.need * 2 ^ 20
      + r.ctx.toNat)
    ++ leBytes 8 (r.opcode * 2 ^ 48 + r.q * 2 ^ 24 + r.tag.toNat)
    ++ leBytes 8 r.va ++ leBytes 8 r.resume ++ leBytes 8 r.count ++ leBytes 8 r.gtc.toNat
    ++ leBytes 8 r.data.toNat ++ leBytes 8 (bit phase 0)

/-- Capture fields of the access that a record is about: its command still names the engine that ran it (12, R380). -/
def recordInfo (s : State) (r : FaultRec) : ErrInfo :=
  { kind := 4, unit := (((cmd? s r.ctx r.q).bind (·.xfer)).map (·.engine.val)).getD 0, address := w64 r.va
    addressKind := 2, access := accessCode r.need }

/-- A record ends as a fault timeout: its context is lost with FAULT_TIMEOUT and its command completes so
(R245, R248). -/
def timeoutRecord (r : FaultRec) (s : State) : State :=
  match ctx? s r.ctx with
  | some x =>
    if x.state = .ready then
      faultCmd r.ctx r.q .faultTimeout (recordInfo s r) (countFn x.fn 0x0D s)
    else s
  | none => s

/-- The queue has become DISABLED or entered ERROR: every record still waiting to be written ends as a
timeout (R245). -/
def endWaiting (g : Fun) (s : State) : State :=
  let f := (getFn s g).faultq
  if faultqRuns f then s
  else foldState timeoutRecord f.waiting (modFaultq g (fun z => { z with waiting := [] }) s)

/-- A write of FaultQControl (R240, R241). -/
def writeFaultqControl (v : U64) (f : FaultQ) : FaultQ :=
  let on := v.getLsbD 31
  let n := if f.enable then f.log2 else field v.toNat 3 0
  if on && !f.enable then
    { f with
      enable := true, log2 := n, tail := 0, head := 0
      error := if ringLogOk n then .none else .badGeometry }
  else { f with enable := on, log2 := n, error := if on then f.error else .none }

/-- FAULTQ_CONTROL_WRITE (R241, R245). -/
def execFaultqControlWrite (g : Fun) (v : U64) (s : State) : Out :=
  .next (barWrite g (fun s => endWaiting g (modFaultq g (writeFaultqControl v) s)) s)

/-- FAULTQ_HEAD_WRITE (R241). -/
def execFaultqHeadWrite (g : Fun) (v : U64) (s : State) : Out :=
  .next (barWrite g (modFaultq g (fun f => { f with head := BitVec.ofNat 16 v.toNat })) s)

/-- A write of FaultQBase; ignored while Enable is 1 (R240, R241). -/
def writeFaultqBase (v : U64) (f : FaultQ) : FaultQ :=
  if f.enable then f else { f with base := w64 (v.toNat / 4096 * 4096) }

/-- FaultTimeout, clamped (R241). -/
def clampTimeout (v : U64) : U64 := w64 (max 1000000 (min v.toNat 60000000000))

/-- FAULT_TIMEOUT_WRITE (R241, R248). -/
def execFaultTimeoutWrite (g : Fun) (v : U64) (s : State) : Out :=
  .next (barWrite g (modFaultq g (fun f => { f with timeout := clampTimeout v })) s)

/-- Write the oldest waiting record into a free slot: its timeout starts, and source 257 fires (R241, R243,
R244; 11, R354). A failed write enters ERROR. -/
def writeFaultRecord (g : Fun) (ok : Bool) (s : State) : State :=
  let f := (getFn s g).faultq
  match f.waiting with
  | [] => s
  | r :: rs =>
    if !faultqRuns f || fnStalled s g || !dmaOpen s || 2 ^ f.log2 ≤ (f.tail - f.head).toNat then s
    else if !ok then endWaiting g (modFaultq g (fun z => { z with error := .dmaError }) s)
    else
      let at_ := f.base.toNat + 64 * (f.tail.toNat % 2 ^ f.log2)
      let s := hostWrite g at_ none (faultBytes r (phaseOf f.tail.toNat f.log2)) s
      fire g 257 (modFaultq g (fun z => { z with
        waiting := rs, pending := z.pending ++ [{ r with written := s.gtc }], tail := z.tail + 1 }) s)

/-- FAULT_RECORD_WRITE (R243). -/
def execFaultRecordWrite (g : Fun) (ok : Bool) (s : State) : Out := .next (writeFaultRecord g ok s)

/-- The outcome of a response in FaultResponseResult; one that is refused is counted (R246). -/
def respond (g : Fun) (id : U32) (result : Nat) (s : State) : State :=
  let s := modFaultq g (fun f => { f with result := w64 (id.toNat * 2 ^ 32 + result) }) s
  if result = 1 then s else countFn g 0x0C s

/-- Remove a record from those that await an answer. -/
def takeRecord (g : Fun) (id : U32) (s : State) : State :=
  modFaultq g (fun f => { f with pending := f.pending.filter fun r => r.id != id }) s

/-- An answer to a pending record of a READY context; every other answer is refused (R246, R249). -/
def answer (g : Fun) (id : U32) (act : FaultRec → State → State) (s : State) : State :=
  match (getFn s g).faultq.pending.find? fun r => r.id == id with
  | none => respond g id 2 s
  | some r =>
    match ctx? s r.ctx with
    | none => respond g id 3 s
    | some x =>
      if x.state ≠ .ready then respond g id 3 s
      else respond g id 1 (act r (takeRecord g id s))

/-- An engine serves the transfers of a context. A fixed-schedule context is served by the engines its schedule
names: a group that is cleared in EngineGroupEnable stays on for it until its destruction (14, R427, R436), so its
dispatch does not wait (R236). Any other is served by the engines whose group is on and enabled, and that are neither
fenced nor reserved (R236, R316, R339). -/
def engineServes (s : State) (c : CtxId) (e : Nat) : Bool :=
  match fixed? s c with
  | some f => s.power.on.getLsbD (28 + e / 4) && !s.det.enginesFenced.getLsbD e && f.engines.contains e
  | none => engineUsable s e && !(reservedEngines s).contains e

/-- Commands that an engine holds. -/
def engineLoad (s : State) (e : Nat) : Nat :=
  let x := s.cmd.engines.getD e EngineSt.init
  x.active.length + x.queued.length

/-- The engine that takes a transfer: the fewest commands, then the lowest number (R236). -/
def pickEngine (s : State) (c : CtxId) : Option Engine :=
  let l := (List.range 32).filter (engineServes s c)
  (l.find? fun e => l.all fun d => engineLoad s e ≤ engineLoad s d).map (Fin.ofNat 32)

/-- Give a command to an engine, active while it holds fewer than 16 (R236). -/
def assignEngine (e : Engine) (k : CtxId × Nat) (s : State) : State :=
  modEngine e (fun x =>
    if x.active.length < 16 then { x with active := x.active ++ [k] } else { x with queued := x.queued ++ [k] }) s

/-- A RESUME returns the command to its engine, or to another one where its engine's group is off or the engine is
fenced (R247). -/
def resumeCmd (r : FaultRec) (s : State) : State :=
  let s := modCmd r.ctx r.q (fun x => { x with
    xfer := x.xfer.map fun y => { y with faulted := none, tile := none } }) s
  match (cmd? s r.ctx r.q).bind (·.xfer) with
  | none => s
  | some y =>
    if s.power.on.getLsbD (28 + y.engine.val / 4) && !s.det.enginesFenced.getLsbD y.engine.val then s
    else match pickEngine s r.ctx with
      | none => s
      | some e =>
        assignEngine e (r.ctx, r.q) (modCmd r.ctx r.q (fun x => { x with
          xfer := x.xfer.map fun z => { z with engine := e } }) (leaveEngines r.ctx r.q s))

/-- FAULT_RESUME (R247). -/
def execFaultResume (g : Fun) (id : U32) (s : State) : Out :=
  .next (barWrite g (answer g id resumeCmd) s)

/-- An ABORT loses the context with FAULT_ABORTED and completes the command so (R248). -/
def abortRecord (r : FaultRec) (s : State) : State :=
  faultCmd r.ctx r.q .faultAborted (recordInfo s r) s

/-- FAULT_ABORT (R248). -/
def execFaultAbort (g : Fun) (id : U32) (s : State) : Out :=
  .next (barWrite g (answer g id abortRecord) s)

/-- A response with Action 0 or 3 or a reserved bit: UNKNOWN_FAULT goes before BAD_ACTION (R246, R249). -/
def badAction (g : Fun) (v : U64) (s : State) : State :=
  let id : U32 := BitVec.ofNat 32 (v.toNat >>> 32)
  if (getFn s g).faultq.pending.any fun r => r.id == id then respond g id 4 s else respond g id 2 s

/-- Whether a FaultResponse carries a defined action alone (R246). -/
def actionOk (v : U64) : Bool :=
  field v.toNat 31 2 == 0 && (field v.toNat 1 0 == 1 || field v.toNat 1 0 == 2)

/-- A write of FaultResponse (R246). -/
def writeResponse (g : Fun) (v : U64) (s : State) : State :=
  let id : U32 := BitVec.ofNat 32 (v.toNat >>> 32)
  if !actionOk v then badAction g v s
  else if field v.toNat 1 0 = 1 then answer g id resumeCmd s
  else answer g id abortRecord s

/-- FAULT_RESPONSE_BAD_ACTION (R246). -/
def execFaultResponseBadAction (g : Fun) (v : U64) (s : State) : Out :=
  .next (barWrite g (writeResponse g v) s)

/-- FaultTimeout has passed for a record of a READY context (R248). -/
def expireRecord (g : Fun) (id : U32) (s : State) : State :=
  let f := (getFn s g).faultq
  match f.pending.find? fun r => r.id == id with
  | none => s
  | some r =>
    if nsCounts f.timeout.toNat ≤ (s.gtc - r.written).toNat then
      match ctx? s r.ctx with
      | some x => if x.state = .ready then timeoutRecord r (takeRecord g id s) else s
      | none => s
    else s

/-- FAULT_TIMEOUT_EXPIRY (R248). -/
def execFaultTimeoutExpiry (g : Fun) (id : U32) (s : State) : Out := .next (expireRecord g id s)

end Sys2Proof.Machine
end

