-- ==== Sys2Proof/Machine/Dispatching.lean ====
section
/-!
DEFINITION. Dispatch: the stages that the head of a context's queue passes (05_command_path, R172, R173,
R177; 10_determinism, R316, R318, R326).
-/
namespace Sys2Proof.Machine

/-- The dispatch head of a context: its first command that has been fetched and not dispatched (R173). -/
def dispatchHead (s : State) (c : CtxId) : Option Cmd :=
  s.cmd.table.find? fun x => x.ctx == c && (match x.stage with
    | .queued _ => true
    | _ => false)

/-- First cluster and count of a LAUNCH (R169). -/
def launchBase (b : Bytes) : Nat := field (bodyQ b 2) 9 0
def launchCount (b : Bytes) : Nat := field (bodyQ b 2) 25 16
def launchGtc (b : Bytes) : Nat := bodyQ b 3
def launchClusters (b : Bytes) : List Nat := (List.range (launchCount b)).map fun k => launchBase b + k

/-- A cluster that a LAUNCH of a context may not name: one reserved by another context, or outside the
context's own block (10, R316). -/
def clusterBarred (s : State) (c : CtxId) (n : Nat) : Bool :=
  let in_ (f : FixedSt) : Bool := f.clusterBase ≤ n && n < f.clusterBase + f.clusterCount
  (match fixed? s c with
    | some f => !in_ f
    | none => false) ||
  s.obj.ctxs.any fun e => e.1 != c && e.2.fixed.any in_

/-- A reference names a live object that is no fence, or a word out of its range (R172, BAD_FENCE). -/
def fenceBad (s : State) (r : FenceRef) : Bool :=
  match liveObj s r.handle with
  | some o => !o.fence || o.bytes ≤ 8 * r.word
  | none => false

/-- The first status that a command's decode and handle checks give, in the order of R172. -/
def decodeStatus (s : State) (g : Fun) (x : Cmd) : CStatus :=
  let b := x.raw
  let refs := (waitRefs b).map (fun r => (r, false)) ++ (signalRefs b).map fun r => (r, true)
  if (bodyBytes (hdrOpcode b)).isNone then .badOpcode
  else if !headerOk b then .badHeader
  else if !bodyOk b (clustersOf s.variant) then .badOperand
  else if hdrOpcode b = 0x0020 && (launchClusters b).any (clusterBarred s x.ctx) then .badOperand
  else if refs.any fun r => fenceBad s r.1 then .badFence
  else if refs.any fun r => fenceStatus s g r.2 r.1 == .staleHandle then .staleHandle
  else if refs.any fun r => fenceStatus s g r.2 r.1 == .noObjectRight then .noObjectRight
  else .success

/-- Capture fields of an error of the millrace (12, R380). -/
def millraceInfo (g : Fun) : ErrInfo := { kind := 2, unit := (portOf g).val, access := 7 }

def setStage (x : Cmd) (st : CmdStage) (s : State) : State :=
  modCmd x.ctx x.q (fun y => { y with stage := st }) s

/-- Stage 1: decode checks, handle checks, and clusters that are fenced (R172, R173; 10, R339). -/
def stageDecode (x : Cmd) (g : Fun) (s : State) : State × Bool :=
  let st := decodeStatus s g x
  if st ≠ .success then (faultCmd x.ctx x.q st (millraceInfo g) s, false)
  else if hdrOpcode x.raw = 0x0020 && (launchClusters x.raw).any fun n => s.det.fenced.contains n then
    (faultCmd x.ctx x.q .unitFenced (millraceInfo g) s, false)
  else (setStage x (.queued 1) s, true)

/-- The command waits for every earlier one: BARRIER, or a DIGEST_RANGE with EMIT_RECORD (R165; 10, R332). -/
def barrierSet (b : Bytes) : Bool :=
  hdrBarrier b || (hdrOpcode b == 0x0050 && (hdrOpFlags b).testBit 2)

/-- Stage 2: no earlier command of the context is left. -/
def stageBarrier (x : Cmd) (s : State) : State × Bool :=
  let first := (s.cmd.table.find? fun y => y.ctx == x.ctx).any fun y => y.q == x.q
  if barrierSet x.raw && !first then (s, false) else (setStage x (.queued 2) s, true)

/-- Stage 3 from wait `i` on: each wait is registered once its handle passes, and released when the fence has
reached its target (R173; 04, R145, R151; 09, R301). -/
def stageWaits (x : Cmd) (g : Fun) : Nat → Nat → State → State × Bool
  | 0, _, s => (setStage x (.queued 3) s, true)
  | fuel + 1, i, s =>
    match (waitRefs x.raw)[i]? with
    | none => (setStage x (.queued 3) s, true)
    | some r =>
      -- the handle of a wait is checked again at its registration only (04, R145)
      let st := if x.registered && i == x.waits then .success else fenceStatus s g false r
      if st ≠ .success then (faultCmd x.ctx x.q st (millraceInfo g) s, false)
      else match fenceWord s r.handle r.word with
        | none => (faultCmd x.ctx x.q .staleHandle (millraceInfo g) s, false)
        | some o =>
          let held := modCmd x.ctx x.q (fun y => { y with waits := i, registered := true }) s
          let a := fenceAddr o r.word
          if gated s a 8 false none then (gateSnoops (millraceAt s x.ctx 1) a 8 false none held, false)
          else if poisoned s (lineOf a) 64 then
            (faultCmd x.ctx x.q .poisonedData { millraceInfo g with
              address := w64 a, addressKind := 1, access := 1 } (countPackage 0x17 s), false)
          else if r.value ≤ fenceValue s o r.word then
            stageWaits x g fuel (i + 1)
              (modCmd x.ctx x.q (fun y => { y with waits := i + 1, registered := false }) s)
          else (held, false)

/-- The start of the first issue window of a slot mask at or after a count (10, R317, R326). -/
def firstWindow (mask : U16) (gtc : Nat) : Nat :=
  let t := (gtc + 511) / 512 * 512
  match (List.range 16).find? fun i => mask.getLsbD ((t + 512 * i) % 8192 / 512) with
  | some i => t + 512 * i
  | none => t

/-- The header line that a replay reads its anchor from, while a processor die owns it (10, R337; 08, R280). -/
def anchorGate (s : State) (c : CtxId) : Option (Nat × Nat) :=
  match fixed? s c with
  | some f =>
    if f.logMode = .replay then
      (moraineObj s f).bind fun o => if gated s o.base 64 false none then some (o.base, 64) else none
    else none
  | none => none

/-- Stage 4: LaunchGtc, shifted in a replay (R173, R184; 10, R326, R337). Stage number 4 marks a
fixed-schedule LAUNCH that reached the stage in time; a late one is held for the next owned issue window. -/
def stageLaunch (x : Cmd) (n : Nat) (s : State) : State × Bool :=
  if hdrOpcode x.raw ≠ 0x0020 || launchGtc x.raw = 0 then (setStage x (.queued 5) s, true)
  else if let some p := anchorGate s x.ctx then (logSnoops x.ctx p s, false)
  else
    let at_ := (w64 (launchGtc x.raw) + replayShift s x.ctx).toNat
    match fixed? s x.ctx with
    | none =>
      if at_ ≤ s.gtc.toNat then (setStage x (.queued 5) s, true) else (setStage x (.queued 4) s, false)
    | some f =>
      let w := firstWindow f.slotMask at_
      if n < 4 && w < s.gtc.toNat then
        (clearCycleExact x.ctx (modCmd x.ctx x.q (fun y => { y with
          stage := .queued 5, late := some (firstWindow f.slotMask (s.gtc.toNat + 1)) }) s), true)
      else if w ≤ s.gtc.toNat then (setStage x (.queued 5) s, true)
      else (setStage x (.queued 4) s, false)

/-- A late LAUNCH waits for its issue window to begin (10, R326). -/
def lateHeld (s : State) (x : Cmd) : Bool := ((cmd? s x.ctx x.q).bind (·.late)).any fun w => s.gtc.toNat < w

/-- The lowest stream tag that is not live (R177, R178). The lowest is a DESIGN CHOICE. -/
def freeStreamTag (s : State) : Option U16 :=
  let used := (s.cmd.table.filterMap fun x => x.tag.map BitVec.toNat) ++ s.cmd.drains.map fun d => d.tag.toNat
  ((List.range 65535).find? fun t => !used.contains t).map (BitVec.ofNat 16)

/-- Keep whose command took a stream tag last (07, R239). -/
def noteTag (t : U16) (g : Fun) (s : State) : State :=
  { s with cmd := { s.cmd with tagFns := assocPut s.cmd.tagFns t.toNat g } }

/-- Stages 5 to 7: the function is not stalled, a stream tag is free, and the context may issue (R173; 10,
R318, R337). -/
def stageIssue (x : Cmd) (g : Fun) (s : State) : State :=
  let epoch := s.det.epoch.toNat
  if fnStalled s g || packageHeld s || !mayIssue s x.ctx || replayStalled s x.ctx || lateHeld s x then s
  else if takesTag (hdrOpcode x.raw) then
    match freeStreamTag s with
    | none => s
    | some t => noteTag t g (modCmd x.ctx x.q (fun y => { y with
        stage := .dispatched, tag := some t, epoch := epoch }) s)
  else modCmd x.ctx x.q (fun y => { y with stage := .dispatched, epoch := epoch }) s

/-- Number of the last stage that a command has passed. -/
def stageNumber (x : Cmd) : Nat := match x.stage with
  | .queued n => n
  | _ => 0

/-- The dispatch head passes as many stages as it can (R173). -/
def dispatchStages (c : CtxId) (s : State) : State :=
  match dispatchHead s c, ctx? s c with
  | some x, some cx =>
    if cx.state ≠ .ready then s
    else
      let n := stageNumber x
      let r := if n < 1 then stageDecode x cx.fn s else (s, true)
      let r := if r.2 && n < 2 then stageBarrier x r.1 else r
      let r := if r.2 && n < 3 then stageWaits x cx.fn 8 x.waits r.1 else r
      let r := if r.2 && n < 5 then stageLaunch x n r.1 else r
      if r.2 then stageIssue x cx.fn r.1 else r.1
  | _, _ => s

/-- DISPATCH_STAGES (R173). -/
def execDispatchStages (c : CtxId) (s : State) : Out := .next (dispatchStages c s)

/-- LAUNCH_GTC_REACHED: the head is a LAUNCH whose time has come; it goes on through the stages (R173). -/
def launchReached (c : CtxId) (s : State) : State :=
  match dispatchHead s c with
  | some x => if stageNumber x = 4 then dispatchStages c s else s
  | none => s

def execLaunchGtcReached (c : CtxId) (s : State) : Out := .next (launchReached c s)

/-- A dispatch head with an opcode outside R168 completes BAD_OPCODE, and its context is lost (R168, R172). -/
def badOpcode (c : CtxId) (q : Nat) (s : State) : State :=
  match dispatchHead s c with
  | some x =>
    if x.q = q && stageNumber x = 0 && (bodyBytes (hdrOpcode x.raw)).isNone then dispatchStages c s else s
  | none => s

/-- COMMAND_BAD_OPCODE (R172). -/
def execCommandBadOpcode (c : CtxId) (q : Nat) (s : State) : Out := .next (badOpcode c q s)

end Sys2Proof.Machine
end

