-- ==== Sys2Proof/Machine/Execute.lean ====
section
/-!
DEFINITION. The commands of a queue (05_command_path, R168 to R176; 06_translation, R215; 07, R225 to R230;
08, R283; 10_determinism, R330 to R333). A row runs its command as far as it can go now; a command that waits
goes on when its row comes again.
-/
namespace Sys2Proof.Machine

/-- A dispatched command may run: its context is READY, may issue, and neither its function's stall nor a recorded one
holds it (02, R73; 10, R318, R337). -/
def cmdRuns (s : State) (x : Cmd) (cx : Ctx) : Bool :=
  x.stage == .dispatched && cx.state == .ready && mayIssue s x.ctx && !packageHeld s && !fnStalled s cx.fn &&
    !replayStalled s x.ctx

/-- Run a dispatched command of an opcode. -/
def withCmd (c : CtxId) (q op : Nat) (act : Cmd → Ctx → State → State) (s : State) : State :=
  match cmd? s c q, ctx? s c with
  | some x, some cx => if cmdRuns s x cx && hdrOpcode x.raw == op then act x cx s else s
  | _, _ => s

/-! ### Steps in turn (05, R182, R183) -/

/-- A host read of the command is out. -/
def spanReads (s : State) (x : Cmd) : Bool :=
  (List.finRange 4).any fun p => readsOut s p (.span x.ctx x.q)

/-- The commands that wait for their step at a unit: those that may run and that `ok` says are cut into steps there, in
the order of fetch. -/
def steppedCmds (s : State) (ok : Bytes → Bool) : List StepOp :=
  (s.cmd.table.filter fun x => ok x.raw && !spanReads s x && (ctx? s x.ctx).any (cmdRuns s x)).map fun x => .cmd x.ctx x.q

/-- The operation whose step comes next at a unit: one that has had none in this round, else the first (R183). -/
def nextStepped (s : State) (u : StepUnit) (l : List StepOp) : Option StepOp :=
  match l.find? fun k => !s.cmd.steps.contains (u, k) with
  | some k => some k
  | none => l.head?

/-- The scrub that an operation of the memory-side island names. -/
def scrubAt (base : Nat) (extent : Bool) (x : Scrub) : Bool := x.base == base && x.extent == extent

/-- A stepped operation has not ended. -/
def stepLives (s : State) (k : StepOp) : Bool :=
  match k with
  | .cmd c q => (cmd? s c q).isSome
  | .scrub b e => s.pool.scrubs.any (scrubAt b e)

/-- Note that a unit serves an operation; once all that wait have been served a round begins anew. -/
def serveStep (u : StepUnit) (l : List StepOp) (k : StepOp) (s : State) : State :=
  let old := if l.all fun k => s.cmd.steps.contains (u, k) then s.cmd.steps.filter fun e => e.1 != u else s.cmd.steps
  { s with cmd := { s.cmd with steps := (old.filter fun e => stepLives s e.2 && e != (u, k)) ++ [(u, k)] } }

/-! ### Scrubs (09, R306) -/

/-- Bytes of the next step of a scrub (R306). -/
def scrubBytes (x : Scrub) : Nat :=
  min (x.bytes - x.done) ((x.base + x.done + 638976) / 4096 * 4096 - (x.base + x.done))

/-- The next bytes of a scrub's span, and of its mirror, are zeroed; with the last of them the scrub is over
(R306). -/
def scrubSome (x : Scrub) (s : State) : State :=
  let n := scrubBytes x
  let s := zeroSpan (x.base + x.done) n s
  let s := match x.mirror with
    | some m => zeroSpan (m + x.done) n s
    | none => s
  { s with pool := { s.pool with
    scrubs := if x.bytes ≤ x.done + n then s.pool.scrubs.erase x
      else s.pool.scrubs.map fun y => if y == x then { y with done := y.done + n } else y } }

/-- A context fault of an operand (R171, R200). -/
def operandFault (x : Cmd) (st : CStatus) (va : Nat) (need : Need) (s : State) : State :=
  faultCmd x.ctx x.q st
    { kind := 2, address := w64 va, addressKind := 2, access := accessCode need } s

/-- A WINDOW range where no window access is allowed (08, R256). -/
def windowBarred (x : Cmd) (cx : Ctx) (va : Nat) (need : Need) (s : State) : State :=
  operandFault x .badOperand va need (countFn cx.fn 0x08 s)

/-- The NOP (R168). -/
def runNop (x : Cmd) (_ : Ctx) (s : State) : State := endCmd x.ctx x.q .success s

/-- NOP. -/
def execNop (c : CtxId) (q : Nat) (s : State) : Out := .next (withCmd c q 0x0001 runNop s)

/-! ### Writes of operands -/

/-- Translate the spans of an operand: addresses and bytes, with their positions. -/
def operandRuns (c : CtxId) (need : Need) (spans : List (Nat × Nat × Nat)) (s : State) :
    State × Except (TOut × Nat) (List Run) := translateSide (.ctx c) need spans s

/-- What stops an operand's translation: a fault loses the context, anything else waits (R171, R200). -/
def operandStop (x : Cmd) (need : Need) (e : TOut × Nat) (s : State) : State :=
  match e with
  | (.fault _, va) => operandFault x .badOperand va need s
  | (.poisoned, va) => operandFault x .poisonedData va need s
  | _ => s

def isWindow (r : Run) : Bool := match r.target with
  | .window _ _ _ => true
  | _ => false

def isHost (r : Run) : Bool := match r.target with
  | .host _ _ => true
  | _ => false

/-- Write translated runs that are not behind windows (R179). -/
def putRuns (x : Cmd) (g : Fun) (data : Bytes) (runs : List Run) (s : State) : State :=
  foldState (fun r s =>
    let b := sliceBytes data r.pos r.bytes
    match r.target with
    | .pool a => poolWrite a b (isFixed s x.ctx) s
    | .host a p => hostWrite g a (some p) b s
    | .window _ _ _ => s) runs s

/-- Pool runs of a write have to wait for snoops (08, R280). -/
def runsGated (s : State) (runs : List Run) : Bool :=
  (poolRuns runs).any fun r => gated s r.1 r.2.1 true none
def runsSnoop (c : CtxId) (runs : List Run) (s : State) : State :=
  foldState (fun r s => gateSnoops (millraceAt s c 2) r.1 r.2.1 true none s) (poolRuns runs) s

/-- Operations of an operand's write that have sent no data, and that its runs no longer ask for (06, R215). -/
def opsStale (s : State) (x : Cmd) (runs : List Run) : List SendOp :=
  (opsOfCmd s x.ctx x.q).filter fun o =>
    o.phase != 2 && o.phase != 3 && !(opsOf x o.serial 0 .write s.gtc runs).any (sameOp o)

/-- Write an operand whose spans are translated: whether it is done, and the state. Host writes wait for the
translations of ATS, pool writes for snoops, window writes for their check and then for their DONE (R179; 06,
R219; 08, R273). -/
def putOperand (x : Cmd) (cx : Ctx) (data : Bytes) (runs : List Run) (s : State) : State × Bool :=
  let missing := hostMissing s cx.fn runs true
  let windows := runs.any isWindow
  let ops := opsOfCmd s x.ctx x.q
  if !(opsStale s x runs).isEmpty then (takeBackOps (opsStale s x runs) (x.tag.getD 0xFFFF) s, false)
  else if let some va := ops.findSome? fun o => o.denied.map (·.2) then (windowBarred x cx va .write s, false)
  else if !ops.isEmpty && !opsAnswered s x.ctx x.q then (s, false)
  else if !ops.isEmpty && ops.all fun o => 2 ≤ o.phase then
    if opsDone s x.ctx x.q then (dropOps x.ctx x.q s, true) else (s, false)
  else if fnStalled s cx.fn && runs.any isHost then (s, false)
  else if !missing.isEmpty then (foldState (fun m s => atsAsk cx.fn m.2.1 m.2.2 s) missing s, false)
  else if runsGated s runs then (runsSnoop x.ctx runs s, false)
  else if windows && ops.isEmpty then
    match windowRefusal s runs with
    | some (_, va) => (windowBarred x cx va .write s, false)
    | none => (openOps x 0 [] runs .write s, false)
  else if windows then (sendOps x data (putRuns x cx.fn data runs s), false)
  else (putRuns x cx.fn data runs s, true)

/-- The write of a translated operand can do nothing but wait: for the end of a stall, or for answers from windows
(02, R73; 08, R273). Nothing is then looked up anew. -/
def putWaits (s : State) (x : Cmd) (cx : Ctx) (runs : List Run) : Bool :=
  let ops := opsOfCmd s x.ctx x.q
  if ops.isEmpty then fnStalled s cx.fn && runs.any isHost
  else (opsStale s x runs).isEmpty && (ops.all fun o => o.denied.isNone) && (!opsAnswered s x.ctx x.q || (ops.all fun o => 2 ≤ o.phase) && !opsDone s x.ctx x.q)

/-- WRITE_VALUE and WRITE_TIMESTAMP: one 8-byte write (R168, R169, R171). -/
def runWrite (value : Cmd → State → Nat) (x : Cmd) (cx : Ctx) (s : State) : State :=
  match operandRuns x.ctx .write [(0, bodyQ x.raw 0, 8)] s with
  | (t, .error e) => operandStop x .write e t
  | (t, .ok runs) =>
    if putWaits t x cx runs then s
    else
      let r := putOperand x cx (leBytes 8 (value x t)) runs t
      if r.2 then endCmd x.ctx x.q .success r.1 else r.1

/-- WRITE_VALUE. -/
def execWriteValue (c : CtxId) (q : Nat) (s : State) : Out :=
  .next (withCmd c q 0x0002 (runWrite fun x _ => bodyQ x.raw 1) s)

/-- WRITE_TIMESTAMP: the GTC at execution (R168). -/
def execWriteTimestamp (c : CtxId) (q : Nat) (s : State) : Out :=
  .next (withCmd c q 0x0003 (runWrite fun _ s => s.gtc.toNat) s)

/-! ### Transfers -/

/-- A transfer is given to an engine; its tiles move by the engine's turns (07, R231, R236). -/
def runTransfer (x : Cmd) (_ : Ctx) (s : State) : State :=
  if x.xfer.isSome then s
  else match pickEngine s x.ctx with
    | none => s
    | some e =>
      assignEngine e (x.ctx, x.q) (modCmd x.ctx x.q (fun y => { y with
        xfer := some ⟨e, 0, 0, none, none, none, 0, [], []⟩ }) s)

/-- COPY_TENSOR (07, R225). -/
def execCopyTensor (c : CtxId) (q : Nat) (s : State) : Out := .next (withCmd c q 0x0010 runTransfer s)

/-- REDUCE_TENSOR (R170). -/
def execReduceTensor (c : CtxId) (q : Nat) (s : State) : Out := .next (withCmd c q 0x0011 runTransfer s)

/-- FILL (07, R230). -/
def execFill (c : CtxId) (q : Nat) (s : State) : Out := .next (withCmd c q 0x0012 runTransfer s)

/-! ### LAUNCH (R176) -/

/-- Send one part per named cluster, once EntryVA translates (R171, R176). -/
def runLaunch (x : Cmd) (cx : Ctx) (s : State) : State :=
  if !x.parts.isEmpty then s
  else if (launchClusters x.raw).any fun n => s.det.fenced.contains n then
    faultCmd x.ctx x.q .unitFenced (millraceInfo cx.fn) s
  else
    let va := bodyQ x.raw 0
    match operandRuns x.ctx .read [(0, va, 1)] s with
    | (s, .error e) => operandStop x .read e s
    | (s, .ok runs) =>
      if runs.any isWindow then windowBarred x cx va .read s
      else
        let n := launchCount x.raw
        let s := foldState (fun k s => emit (.part (launchBase x.raw + k) x.ctx va (bodyQ x.raw 1)
          (field (bodyQ x.raw 2) 47 40) k n (x.tag.getD 0xFFFF) x.epoch) s) (List.range n) s
        modCmd x.ctx x.q (fun y => { y with
          parts := (List.range n).map fun k => ⟨k, launchBase x.raw + k, false, none, x.epoch⟩ }) s

/-- LAUNCH. -/
def execLaunch (c : CtxId) (q : Nat) (s : State) : Out := .next (withCmd c q 0x0020 runLaunch s)

/-! ### FLUSH and INVALIDATE (08, R283) -/

/-- Bytes of the next step of a span: all of it up to 64 MiB, else to the last 4 KiB boundary within 638,976
bytes (R182; 08, R283). -/
def spanStep (va total done : Nat) : Nat :=
  let left := total - done
  if total ≤ 0x4000000 then left
  else min left ((va + done + 638976) / 4096 * 4096 - (va + done))

/-- Every copy that the dies hold of the lines of a span has to be invalidated (08, R283). -/
def dieCopies (s : State) (spans : List (Nat × Nat × Nat)) : List Line :=
  s.win.filter.filter fun l => !l.dies.isEmpty && spans.any fun r => spansMeet l.address 64 r.1 r.2.1

/-- Lines of a span that a die owns. -/
def ownedLines (s : State) (spans : List (Nat × Nat × Nat)) : List Line :=
  s.win.filter.filter fun l => l.owned && spans.any fun r => spansMeet l.address 64 r.1 r.2.1

/-- One step of FLUSH or INVALIDATE over its span: the snoops it needs first, then its effect on the lines
(08, R283). -/
def runSpan (flush : Bool) (x : Cmd) (cx : Ctx) (s : State) : State :=
  let need : Need := if flush then .read else .write
  let va := bodyQ x.raw 0 + x.span.done
  let n := spanStep (bodyQ x.raw 0) (bodyQ x.raw 1) x.span.done
  match operandRuns x.ctx need [(0, va, n)] s with
  | (s, .error e) => operandStop x need e s
  | (s, .ok runs) =>
    match runs.find? fun r => match r.target with | .pool _ => false | _ => true with
    | some r => windowBarred x cx r.va need s
    | none =>
      let spans := poolRuns runs
      let lines := if flush then ownedLines s spans else dieCopies s spans
      if !lines.isEmpty then
        let i := millraceAt s x.ctx 6
        foldState (fun l s => foldState (fun d s => sendSnoop i d l.address (!flush) s) l.dies s) lines s
      else
        let s := foldState (fun r s => if flush then writeBack r.1 r.2.1 s else discardLines r.1 r.2.1 s) spans s
        if bodyQ x.raw 1 ≤ x.span.done + n then endCmd x.ctx x.q .success s
        else modCmd x.ctx x.q (fun y => { y with span := { y.span with done := x.span.done + n } }) s

/-- A FLUSH or INVALIDATE that is cut into steps. -/
def spanStepped (b : Bytes) : Bool :=
  (hdrOpcode b == 0x0030 || hdrOpcode b == 0x0031) && 0x4000000 < bodyQ b 1

/-- A FLUSH or INVALIDATE that is not cut into steps. -/
def spanWhole (b : Bytes) : Bool := (hdrOpcode b == 0x0030 || hdrOpcode b == 0x0031) && !spanStepped b

/-- The commands that the memory-side island can serve now, other than those that are cut into steps (05, R183). -/
def memReady (s : State) : List (CtxId × Nat) :=
  (s.cmd.table.filter fun x => spanWhole x.raw && (ctx? s x.ctx).any (cmdRuns s x)).map fun x => (x.ctx, x.q)

/-- Those of them that were waiting when the island's last step ended and have not been served since (05, R183). -/
def memOwedNow (s : State) : List (CtxId × Nat) := s.cmd.memOwed.filter fun k => (memReady s).contains k

/-- The stepped operations that wait for the memory-side island: FLUSH and INVALIDATE commands, and scrubs (09,
R306). -/
def memSteps (s : State) : List StepOp :=
  steppedCmds s spanStepped ++ s.pool.scrubs.map fun x => .scrub x.base x.extent

/-- The operation whose step the memory-side island takes next; none while a command that was waiting when the last
step ended is to be served first (05, R183; 09, R306). -/
def memNext (s : State) : Option StepOp :=
  if (memOwedNow s).isEmpty then nextStepped s .memorySide (memSteps s) else none

/-- Run a FLUSH or an INVALIDATE. -/
def runSpanCmd (c : CtxId) (q : Nat) (s : State) : State :=
  withCmd c q 0x0030 (runSpan true) (withCmd c q 0x0031 (runSpan false) s)

/-- Serve a command that is not cut into steps. -/
def memServe (k : CtxId × Nat) (s : State) : State :=
  runSpanCmd k.1 k.2 { s with cmd := { s.cmd with memOwed := s.cmd.memOwed.filter (· != k) } }

/-- A step of the memory-side island has ended: what waits for the island now is served before the next (05, R183). -/
def memStepped (s : State) : State := { s with cmd := { s.cmd with memOwed := memReady s } }

/-- A step of a FLUSH or an INVALIDATE. -/
def memCmdStep (c : CtxId) (q : Nat) (s : State) : State :=
  memStepped (runSpanCmd c q (serveStep .memorySide (memSteps s) (.cmd c q) s))

/-- A FLUSH or an INVALIDATE: one that is cut into steps takes a step in its turn only (05, R183). -/
def spanTurn (c : CtxId) (q op : Nat) (s : State) : State :=
  match cmd? s c q with
  | none => s
  | some x =>
    if hdrOpcode x.raw ≠ op then s
    else if spanWhole x.raw then memServe (c, q) s
    else if memNext s = some (.cmd c q) then memCmdStep c q s
    else s

/-- FLUSH. -/
def execFlush (c : CtxId) (q : Nat) (s : State) : Out := .next (spanTurn c q 0x0030 s)

/-- INVALIDATE. -/
def execInvalidate (c : CtxId) (q : Nat) (s : State) : Out := .next (spanTurn c q 0x0031 s)

/-! ### INVALIDATE_RANGES (06, R215) -/

/-- TABLE_WIDE (06, R215). -/
def tableWide (b : Bytes) : Bool := (hdrOpFlags b).testBit 0

/-- Record the dispatch and start the scans, or end the command once they, the revocations and the begun tiles
are over (06, R215). `span.done` is 1 once the scans have been started. -/
def runRanges (x : Cmd) (_ : Ctx) (s : State) : State :=
  if x.span.done = 0 then
    let first := bodyQ x.raw 0 / 4096
    let banks := if tableWide x.raw then banksInUse s else [bankOf s (.ctx x.ctx)]
    startScan banks (.span x.ctx (tableWide x.raw) first (first + bodyQ x.raw 1 / 4096 - 1))
      (.command x.ctx x.q) (modCmd x.ctx x.q (fun y => { y with span := ⟨1, [], []⟩ }) s)
  else if scanOver s (.command x.ctx x.q) then
    endCmd x.ctx x.q .success s
  else s

/-- INVALIDATE_RANGES. -/
def execInvalidateRanges (c : CtxId) (q : Nat) (s : State) : Out :=
  .next (withCmd c q 0x0040 runRanges s)

/-! ### DIGEST_RANGE (10, R330 to R333) -/

def digestAcc (b : Bytes) : Nat := field (hdrOpFlags b) 1 0
def digestEmits (b : Bytes) : Bool := (hdrOpFlags b).testBit 2

/-- A digest engine has the step of another command in progress (R182; 14, R427). -/
def digestBusy (s : State) (n : Nat) : Bool :=
  s.cmd.table.any fun x => x.stage == .dispatched && x.digest == some n

/-- The digest engine of a command's step: the one that has begun it, also once it is disabled, else the lowest that
is on and enabled and has no step in progress (14, R426, R427). The lowest is a DESIGN CHOICE. -/
def digestEngine (s : State) (x : Cmd) : Option Nat :=
  match x.digest with
  | some n => if s.power.on.getLsbD (36 + n) then some n else none
  | none => (List.range 2).find? fun n =>
      s.power.on.getLsbD (36 + n) && (objNum s 0xB000 6).testBit n && !digestBusy s n

/-- Read one leaf; the answer is its bytes once all of them are in (R330, R320; 02, R60; 09, R301). While host reads
are out nothing is looked up again. -/
def readLeaf (x : Cmd) (cx : Ctx) (va n : Nat) (s : State) : State × Option Bytes :=
  if spanReads s x then (s, none) else
  match operandRuns x.ctx .read [(0, va, n)] s with
  | (t, .error e) => (operandStop x .read e t, none)
  | (t, .ok runs) =>
    match runs.find? isWindow with
    | some r => (windowBarred x cx r.va .read t, none)
    | none =>
      match (poolRuns runs).find? fun r => poisoned t r.1 r.2.1 with
      | some _ => (operandFault x .poisonedData va .read (countPackage 0x17 t), none)
      | none =>
        let missing := if replaying t x.ctx then [] else hostMissing t cx.fn runs false
        let hosts := hostRuns runs
        if !missing.isEmpty then (foldState (fun m s => atsAsk cx.fn m.2.1 m.2.2 s) missing t, none)
        else if !(hosts.all fun r => covered x.span.pieces (x.span.pieces.length + 1) r.2.2.2 r.2.2.1) then
          if fnStalled t cx.fn then (s, none)
          else
            (foldState (fun r s => ctxHostRead x.ctx cx.fn (.span x.ctx x.q) r.1 r.2.2.2 r.2.2.1 r.2.1
              x.span.pieces s) hosts t, none)
        else if (poolRuns runs).any fun r => gated t r.1 r.2.1 false none then
          (foldState (fun r s => gateSnoops (millraceAt t x.ctx 1) r.1 r.2.1 false none s) (poolRuns runs) t, none)
        else
          let t := evictBefore x.ctx (poolRuns runs) t
          let pieces := (poolRuns runs).map (fun r => (r.2.2, ctxBytes t x.ctx r.1 r.2.1)) ++ x.span.pieces
          (t, some (gather pieces 0 n))

/-- The accumulators of a context with a digest folded in (R331). -/
def accsWith (cx : Ctx) (k : Nat) (t : Bytes) : List Bytes :=
  if k = 0 then cx.accs else cx.accs.modify (k - 1) fun a => sha384 (3 :: a ++ t)

/-- The digest record (R333). -/
def digestRecord (s : State) (cx : Ctx) (accs : List Bytes) : Bytes :=
  let f := cx.fixed
  leBytes 8 (s.boot.version.toNat * 2 ^ 32
      + bit (f.any fun y => y.logMode == .replay) 26 + bit (f.any (·.cycleExact)) 25 + bit f.isSome 24
      + 2 ^ 16 + 0x4452)
    ++ (List.range 4).flatMap (fun k => (accs.getD k []).take 24) ++ padTo 24 s.det.digest

/-- The accumulators at their creation values (R331, R332). -/
def accsReset (cx : Ctx) : List Bytes :=
  [cx.program0, List.replicate 48 0, List.replicate 48 0, List.replicate 48 0]

/-- Write the digest at ResultVA, and with EMIT_RECORD the record, with the digest folded, and return the accumulators
to their creation values; without it the fold comes at the completion (R330 to R333). -/
def finishDigest (x : Cmd) (cx : Ctx) (s : State) : State :=
  let t := digestTop (bodyQ x.raw 1) x.span.leaves
  let accs := accsWith cx (digestAcc x.raw) t
  let va := bodyQ x.raw 2
  let emits := digestEmits x.raw
  let spans := (0, va, 48) :: (if emits then [(48, va + 64, 128)] else [])
  match operandRuns x.ctx .write spans s with
  | (u, .error e) => operandStop x .write e u
  | (u, .ok runs) =>
    match runs.find? isWindow with
    | some r => windowBarred x cx r.va .write u
    | none =>
      if putWaits u x cx runs then s else
      let r := putOperand x cx (t ++ (if emits then digestRecord u cx accs else [])) runs u
      if r.2 then
        endCmd x.ctx x.q .success (if emits then modCtx x.ctx (fun y => { y with accs := accsReset cx }) r.1 else r.1)
      else r.1

/-- A step of a DIGEST_RANGE that has issued reads is in progress on its engine; one that still waits for a translation
or for snoops has not begun: DESIGN CHOICE (14, R427). -/
def noteDigest (c : CtxId) (q n : Nat) (s : State) : State :=
  modCmd c q (fun y => { y with digest := if spanReads s y || !y.span.pieces.isEmpty then some n else none }) s

/-- One step of a DIGEST_RANGE: a leaf, or the end (R182, R330). -/
def runDigest (x : Cmd) (cx : Ctx) (s : State) : State :=
  let left := bodyQ x.raw 1 - x.span.done
  if left = 0 then finishDigest x cx s
  else match digestEngine s x with
  | none => s
  | some e =>
    let n := min 65536 left
    match readLeaf x cx (bodyQ x.raw 0 + x.span.done) n s with
    | (s, none) => noteDigest x.ctx x.q e s
    | (s, some b) =>
      modCmd x.ctx x.q (fun y => { y with
        digest := none
        span := ⟨x.span.done + n, [], x.span.leaves ++ [digestLeaf x.span.leaves.length b]⟩ }) s

/-- Every DIGEST_RANGE is cut into steps (R182). -/
def isDigest (b : Bytes) : Bool := hdrOpcode b == 0x0050

/-- The two digest engines draw their steps from one round robin: DESIGN CHOICE. -/
def digestTurn : StepUnit := .digestEngine 0

/-- The operation whose step comes next at the digest engines. -/
def digestNext (s : State) : Option StepOp := nextStepped s digestTurn (steppedCmds s isDigest)

/-- A step of a DIGEST_RANGE. -/
def digestCmdStep (c : CtxId) (q : Nat) (s : State) : State :=
  withCmd c q 0x0050 runDigest (serveStep digestTurn (steppedCmds s isDigest) (.cmd c q) s)

/-- DIGEST_RANGE: it takes a step in its turn only (05, R183). -/
def execDigestRange (c : CtxId) (q : Nat) (s : State) : Out :=
  .next (if digestNext s = some (.cmd c q) then digestCmdStep c q s else s)

/-- A digest engine that is on and enabled takes the next step (05, R183). -/
def digestStep (n : Fin 2) (s : State) : State :=
  if s.power.on.getLsbD (36 + n.val) && (objNum s 0xB000 6).testBit n.val then
    match digestNext s with
    | some (.cmd c q) => digestCmdStep c q s
    | _ => s
  else s

/-! ### The end of a scan (06, R215) -/

/-- A scan makes an access of a context look its addresses up afresh: it drops an entry that they go through, or it is
for the span or the object that they may have been resolved to by an entry that has gone (06, R215; 04, R143). -/
def scanTouches (s : State) (b : Nat) (what : ScanFor) (c : CtxId) (cx : Ctx) (va n : Nat) : Bool :=
  let meets (lo hi : Nat) : Bool := va / 4096 ≤ hi && lo ≤ (va + n - 1) / 4096
  bankOf s (.ctx c) == b &&
    (((getBank s b).any fun e => scanDrops s what e && (e.who == .ctx c || e.sharedRo) && meets e.start (e.start + e.len - 1)) ||
      match what with
      | .span d wide first last =>
        cx.fixed.isNone && meets first last && (c == d || (wide && (ctx? s d).any fun y =>
          y.rangeTable == cx.rangeTable && y.rootOffset == cx.rootOffset))
      | .object _ g => g.isNone || g == some cx.fn
      | _ => false)

/-- The reads of one use of a context are made again: those out bring data that nothing wants (06, R215). -/
def readAfresh (cx : Ctx) (c : CtxId) (use : ReadUse) (s : State) : State :=
  modFixed c (fun f => { f with
    replayWaits := f.replayWaits.map fun w => if w.use == use then { w with use := .stale c } else w })
    (staleReads cx.fn c use (fun _ _ => true) s)

/-- Before a scan drops its entries: a queue entry that is being read, and a leaf of a DIGEST_RANGE whose reads have
begun, are looked up and read afresh where the scan touches them (06, R215). -/
def restartReads (b : Nat) (what : ScanFor) (x : Cmd) (s : State) : State :=
  match ctx? s x.ctx with
  | none => s
  | some cx => match x.stage with
    | .fetching k =>
      if x.entryAt.isSome && scanTouches s b what x.ctx cx (entryVa cx k) 64 then
        readAfresh cx x.ctx (.entry x.ctx) (modCmd x.ctx x.q (fun y => { y with
          entryAt := none, span := ⟨0, [], []⟩ }) s)
      else s
    | .dispatched =>
      if hdrOpcode x.raw = 0x0050 && (spanReads s x || !x.span.pieces.isEmpty) &&
          scanTouches s b what x.ctx cx (bodyQ x.raw 0 + x.span.done) (min 65536 (bodyQ x.raw 1 - x.span.done)) then
        readAfresh cx x.ctx (.span x.ctx x.q) (modCmd x.ctx x.q (fun y => { y with
          span := { y.span with pieces := [] } }) s)
      else s
    | _ => s

/-- The scan of a bank ends: its entries are dropped, and the leases on them revoked (06, R215, steps 2 and
3). -/
def finishScan (b : Bank) (s : State) : State :=
  match s.trans.scans.find? fun x => x.bank == b.val with
  | none => s
  | some x =>
    let s := foldState (restartReads b.val x.what) s.cmd.table s
    leasesEnded (scanBank b.val x.what x.owner { s with trans := { s.trans with
      scans := s.trans.scans.eraseP fun y => y.bank == b.val } })

end Sys2Proof.Machine
end

