-- ==== Sys2Proof/Machine/Complete.lean ====
section
/-!
DEFINITION. Completion: signals, records and counts (05_command_path, R176 to R180), the parts of a LAUNCH,
and stream tags.
-/
namespace Sys2Proof.Machine

/-- Is a command's work over with SUCCESS? -/
def succeeded (s : State) (c : CtxId) (q : Nat) : Bool :=
  match cmd? s c q with
  | some x => x.stage == .ended .success
  | none => false

/-- The tree digest of a transfer's output sequence (10, R331). -/
def outputDigest (y : Xfer) : Bytes :=
  digestTop y.outBytes (if y.leaf.isEmpty then y.leaves else y.leaves ++ [digestLeaf y.leaves.length y.leaf])

/-- Fold the tree digest of a DIGEST_RANGE at its completion; with EMIT_RECORD it has been folded ahead of the
record (10, R331, R332). -/
def foldDigest (x : Cmd) (s : State) : State :=
  if hdrOpcode x.raw = 0x0050 && !digestEmits x.raw && digestAcc x.raw ≠ 0 then
    foldAcc x.ctx (digestAcc x.raw - 1) (digestTop (bodyQ x.raw 1) x.span.leaves) s
  else s

/-- Fold the output of a transfer with DIGEST set into OUTPUT, when it completes SUCCESS (10, R331). -/
def foldOutput (x : Cmd) (s : State) : State :=
  match x.xfer with
  | some y => if digestOf x.raw then foldAcc x.ctx 3 (outputDigest y) s else s
  | none => s

/-- One signal of a completing command; a handle that fails its check loses the context with that status
(R179; 04, R145, R149). -/
def completeSignal (x : Cmd) (g : Fun) (r : FenceRef) (s : State) : State :=
  if !succeeded s x.ctx x.q then s
  else
    let st := fenceStatus s g true r
    if st ≠ .success then faultCmd x.ctx x.q st (millraceInfo g) s
    else match fenceWord s r.handle r.word with
      | some o => signalFence g (some x.ctx) o r.word (w64 r.value) s
      | none => s

/-- Count a completion in the context record (R179; 04, R134; 12, R391). -/
def countCompletion (c : CtxId) (g : Fun) (lost : Bool) (s : State) : State :=
  match ctx? s c with
  | none => s
  | some x =>
    let (n, sat) := countUp 64 (if lost then x.lostCompleted else x.completed).toNat
    let s := modCtx c (fun y => if lost then { y with lostCompleted := w64 n }
      else { y with completed := w64 n }) s
    if sat then saturated g (some c) (2 ^ 63 + (if lost then 6 else 5)) s else s

/-- COMMAND_COMPLETE of a command (R180; 11, R349). -/
def completionRecord (x : Cmd) (cx : Ctx) (st : CStatus) (s : State) : State :=
  if hdrReport x.raw then
    formEvent cx.fn cx.eventRing 0x01 (cstatusCode st) (some x.ctx) (w64 (hdrData x.raw))
      (w64 (hdrOpcode x.raw * 2 ^ 48 + x.q)) s
  else s

/-- The LAUNCH parts of a command are over (R176). -/
def partsOver (x : Cmd) : Bool := x.parts.all (·.ended)

/-- Take a completed command out of the tracking table; its stream tag drains (R164, R178). -/
def freeEntry (x : Cmd) (s : State) : State :=
  let s := drainTag x s
  { s with cmd := { s.cmd with table := s.cmd.table.filter fun y => !(y.ctx == x.ctx && y.q == x.q) } }

/-- The completion of a command whose work is over (R179). -/
def completeCmd (c : CtxId) (q : Nat) (s : State) : State :=
  match cmd? s c q, ctx? s c with
  | some x, some cx =>
    (match x.stage with
    | .ended st =>
      if cx.state = .ready && (!mayIssue s c || packageHeld s) then s
      else
        let s := if st = .success then
            let s := foldState (completeSignal x cx.fn) (signalRefs x.raw) (foldDigest x s)
            if succeeded s c q then foldOutput x s else s
          else s
        (match cmd? s c q with
        | some y => (match y.stage with
          | .ended st =>
            -- a loss with FUNCTION_ABORTED writes no record (R172)
            let quiet := (ctx? s c).any fun z => z.lostReason == .functionAborted
            let s := if quiet then s else completionRecord y cx st s
            let s := freeEntry y (countCompletion c cx.fn (st == .contextLost) s)
            -- CREDIT_ABANDON follows the completion (07, R238, R250)
            if st = .success then s else abandonCredit y s
          | _ => s)
        | none => s)
    | _ => s)
  | _, _ => s

/-- COMMAND_COMPLETION (R179). -/
def execCommandCompletion (c : CtxId) (q : Nat) (s : State) : Out := .next (completeCmd c q s)

/-! ### Stream tags (R177, R178) -/

/-- The tag of a drain whose parts have all ended becomes free. -/
def tagDrained (tag : U16) (s : State) : State :=
  { s with cmd := { s.cmd with
    drains := s.cmd.drains.filter fun d => !(d.tag == tag && d.parts.all (·.ended)) } }

/-- STREAM_TAG_DRAINED (R178). -/
def execStreamTagDrained (tag : U16) (s : State) : Out := .next (tagDrained tag s)

/-- A tag is live: a command holds it, or it drains. Tag 0xFFFF is the VHT's own (R177). -/
def tagLive (s : State) (tag : U16) : Bool :=
  tag == 0xFFFF || (s.cmd.table.any fun x => x.tag == some tag) || s.cmd.drains.any fun d => d.tag == tag

/-- STREAM_BEAT_UNKNOWN_TAG: the beat is dropped, and an S2 error raised (R178; 12, R376). -/
def execStreamBeatUnknownTag (tag : U16) (s : State) : Out :=
  .next (if tagLive s tag then s
    else raiseError .streamTagUnknown { kind := 4, address := w64 tag.toNat, addressKind := 5, access := 7 } s)

/-! ### Parts (R176) -/

/-- Mark part `k` on a cluster as ended. -/
def endPart (cluster k : Nat) (ps : List Part) : List Part :=
  ps.map fun p => if p.k = k && p.cluster = cluster then { p with ended := true } else p

def partOpen (cluster k : Nat) (ps : List Part) : Bool :=
  ps.any fun p => p.k == k && p.cluster == cluster && !p.ended

/-- A report of a part's end: it ends the part of a command, or of a draining tag; any other report is a failure
of the cluster, which is fenced (R176; 10, R339). -/
def partEnd (cluster : Nat) (c : CtxId) (q k : Nat) (s : State) : State :=
  match s.cmd.table.find? fun x => x.ctx == c && x.q == q && partOpen cluster k x.parts with
  | some x =>
    let ps := endPart cluster k x.parts
    let s := modCmd c q (fun y => { y with parts := ps }) s
    let s := applyLate cluster s
    if ps.all (·.ended) && x.stage == .dispatched then endCmd c q .success s else s
  | none =>
    if s.cmd.drains.any fun d => d.ctx == c && d.q == q && partOpen cluster k d.parts then
      applyLate cluster { s with cmd := { s.cmd with
        drains := s.cmd.drains.map fun d =>
          if d.ctx == c && d.q == q then { d with parts := endPart cluster k d.parts } else d } }
    else fenceClusters [cluster] { kind := 5, unit := cluster, access := 7 } s

/-- PART_END (R176). -/
def execPartEnd (cluster : Nat) (c : CtxId) (q k : Nat) (s : State) : Out :=
  .next (partEnd cluster c q k s)

/-- A cancelled part has not ended 100 µs after the cancel. -/
def partOverdue (s : State) (cluster k : Nat) (ps : List Part) : Bool :=
  ps.any fun p => p.k == k && p.cluster == cluster && !p.ended &&
    match p.cancelled with
    | some t => 125000 ≤ (s.gtc - t).toNat
    | none => false

/-- PART_CANCEL_TIMEOUT: the cluster is reported failed and fenced (R176). -/
def execPartCancelTimeout (cluster : Nat) (c : CtxId) (q k : Nat) (s : State) : Out :=
  .next (if (s.cmd.table.any fun x => x.ctx == c && x.q == q && partOverdue s cluster k x.parts) ||
      (s.cmd.drains.any fun d => d.ctx == c && d.q == q && partOverdue s cluster k d.parts) then
    fenceClusters [cluster] { kind := 5, unit := cluster, access := 7 } s
  else s)

end Sys2Proof.Machine
end

