-- ==== Sys2Proof/Machine/HostReads.lean ====
section
/-!
DEFINITION. Completions of the reads that a port has issued: reassembly, errors, timeouts and quarantine
(02_host_endpoint, R61 to R63, R465).
-/
namespace Sys2Proof.Machine

/-- The use of a tag on a port. -/
def tag? (s : State) (p : Port) (t : ReqTag) : Option TagUse := (getPort s p).tags.find? fun u => u.tag == t

/-- A tag becomes free, for a request that waits for one (R61); an Invalidate Request that waits for its read
waits no more (06, R221). -/
def freeTagOf (p : Port) (t : ReqTag) (s : State) : State :=
  serveWaits p (modPort p (fun x => { x with
    tags := x.tags.filter fun u => u.tag != t
    atsHolds := x.atsHolds.map fun h => { h with waits := h.waits.filter (· != t) } }) s)

/-- The read of the firmware image fails: the step ends, and the firmware stays ABSENT (15, R451). The tags of its other
reads that are outstanding enter quarantine, as those of reads that are abandoned do: R465 names no such case, a DESIGN
CHOICE. -/
def imageFails (s : State) : State :=
  let s := quarantine 0 (fun t => t.use == .image) (quarantine 1 (fun t => t.use == .image)
    (quarantine 2 (fun t => t.use == .image) (quarantine 3 (fun t => t.use == .image) s)))
  if s.boot.result = .running && s.boot.command = .loadFirmware then
    { s with boot := { s.boot with
      result := .imageDmaError, loadError := 8, fw := .absent, stepGtc := s.gtc } }
  else s

/-- The entry whose read failed. -/
def entryReadFails (c : CtxId) (st : CStatus) (s : State) : State :=
  match fetchingCmd s c, ctx? s c with
  | some x, some y => (match x.stage with
    | .fetching k => entryFails x k st (entryVa y k) s
    | _ => s)
  | _, _ => s

/-- What a failed read does to the context it served (R62, R63; 04, R130; 07, R235). The loss that a read of a
dropped tile brings names no command. -/
def readFails (u : TagUse) (poisoned_ : Bool) (s : State) : State :=
  let i : ErrInfo := { kind := 1, unit := (portOf u.fn).val, address := w64 u.address, addressKind := 3, access := 1 }
  match u.use with
  | .entry c => entryReadFails c (if poisoned_ then .poisonedData else .hostCompletionError) s
  | .tile c q => faultCmd c q .hostCompletionError i s
  | .span c q => faultCmd c q .hostCompletionError i s
  | .image => imageFails s
  | .admin g live => entryComes g live false [] s
  | .ats _ _ => s
  | .stale c => loseContext c .hostCompletionError [] 0 i s

/-- A completion that fails, on its arrival: a fixed-schedule context's is held until its next issue window (10,
R318). -/
def failureArrives (u : TagUse) (poisoned_ : Bool) (s : State) : State :=
  match readCtx u.use with
  | some c =>
    if mayIssue s c then readFails u poisoned_ s
    else { s with det := { s.det with arrivals := s.det.arrivals ++ [.failed u poisoned_] } }
  | none => readFails u poisoned_ s

/-- The request of a tag is complete: the tag is free, the data goes where it is wanted, and a recording context
logs it (R61; 10, R337). -/
def readDone (p : Port) (u : TagUse) (b : Bytes) (s : State) : State :=
  let s := match readCtx u.use with
    | some c => noteLog c (logEntry 2 c s.gtc u.address (readIndex s u.use) b) s
    | none => s
  match u.use with
  | .admin g live => entryComes g live true b (freeTagOf p u.tag s)
  | use => giveRead use u.offset b (freeTagOf p u.tag s)

/-- Set Status bits of a function (R43, R63); the bits are PRESUMED from the base specification. -/
def setStatus (g : Fun) (m : Nat) (s : State) : State :=
  modCfg g (fun c => { c with status := c.status ||| BitVec.ofNat 16 m }) s

/-- A completion that arrives on a port (R61, R63, R465). -/
def completionArrives (p : Port) (t : ReqTag) (st : CplStatus) (poisoned_ : Bool) (off : Nat) (b : Bytes)
    (s : State) : State :=
  match tag? s p t with
  | none => aerCorrectable (fn0 p) 13 (modCfg (fn0 p) (fun c => { c with aerUnc := c.aerUnc ||| 0x10000 }) s)
  | some u =>
    if u.quarantined then countPort p 1 (freeTagOf p t s)
    else match u.use with
      | .ats _ _ => s
      | use =>
        match st with
        | .unsupported => failureArrives u false (setStatus u.fn 0x2000 (freeTagOf p t s))
        | .abort => failureArrives u false (setStatus u.fn 0x1000 (freeTagOf p t s))
        | .success =>
          if poisoned_ then
            failureArrives u true (poisonedTlp u.fn (freeTagOf p t s))
          else
            let pieces := u.pieces ++ [(off, b)]
            if covered pieces (pieces.length + 1) 0 u.bytes then
              readDone p { u with use := use } (gather pieces 0 u.bytes) s
            else modPort p (fun x => { x with
              tags := x.tags.map fun v => if v.tag == t then { v with pieces := pieces } else v }) s

/-- The read of a function's admin entry that is out. -/
def adminRead? (s : State) (g : Fun) : Option TagUse :=
  (getPort s (portOf g)).tags.find? fun t => !t.quarantined && (match t.use with
    | .admin h _ => h == g
    | _ => false)

/-- ADMIN_ENTRY_READ: the read of an entry ends, with its 64 bytes or with a failure that AER does not report (R121,
R124). With no read out it issues the one that is due, as after a stall. -/
def adminEntry (g : Fun) (ok : Bool) (entry : Bytes) (s : State) : State :=
  match adminRead? s g with
  | none => askAdmin g s
  | some u =>
    let s := freeTagOf (portOf g) u.tag s
    entryComes g (u.use == .admin g true) ok entry s

def execAdminEntryRead (g : Fun) (ok : Bool) (entry : Bytes) (s : State) : Out := .next (adminEntry g ok entry s)

/-- COMPLETION_RECEIVED (R63). -/
def execCompletionReceived (p : Port) (t : ReqTag) (st : CplStatus) (poisoned_ : Bool) (off : Nat) (b : Bytes)
    (s : State) : Out := .next (completionArrives p t st poisoned_ off b s)

/-- Counts since a tag's request, or since its quarantine began, have reached the Completion Timeout (R62,
R465). -/
def tagExpired (s : State) (u : TagUse) : Bool :=
  nsCounts (completionTimeout s u.fn) ≤ (s.gtc - u.since).toNat

/-- The commands that wait for a translation of a unit; a denied one faults (06, R220). -/
def atsDenied (g : Fun) (pasid : BitVec 20) (unit : Nat) (write : Option Bool) (s : State) : State :=
  let wants (runs : List Run) (w : Bool) : Bool :=
    (write.isNone || write == some w) &&
      (hostMissing s g runs w).any fun m => m.2.1 == pasid && m.2.2.contains unit
  foldState (fun x s => match ctx? s x.ctx with
    | none => s
    | some cx =>
      if cx.fn ≠ g then s
      else match x.stage with
        | .fetching k => (match x.entryAt with
          | some (.host a p) =>
            if p == pasid && write != some true && (atsMissing s g p a 64 false).contains unit then
              entryFails x k .fetchFault (entryVa cx k) (countFn g 0x08 s)
            else s
          | _ => s)
        | .dispatched => (match x.xfer with
          | some y => (match y.tile with
            | some t =>
              if wants t.src false || wants t.dst true then
                modCmd x.ctx x.q (fun z => { z with
                  xfer := z.xfer.map fun w => { w with atsDenied := some unit } }) s
              else s
            | none => s)
          | none =>
            -- an operand: its spans are translated again to see whether it waits for the unit
            let b := x.raw
            let reads : List (Nat × Nat × Nat) :=
              if hdrOpcode b = 0x0050 then
                [(0, bodyQ b 0 + x.span.done, min 65536 (bodyQ b 1 - x.span.done))] else []
            let writes : List (Nat × Nat × Nat) :=
              if hdrOpcode b = 0x0002 || hdrOpcode b = 0x0003 then [(0, bodyQ b 0, 8)]
              else if hdrOpcode b = 0x0050 && bodyQ b 1 ≤ x.span.done then [(0, bodyQ b 2, 192)] else []
            let runsOf (need : Need) (l : List (Nat × Nat × Nat)) : List Run :=
              match (operandRuns x.ctx need l s).2 with
              | .ok r => r
              | .error _ => []
            if wants (runsOf .read reads) false || wants (runsOf .write writes) true then
              operandFault x .badOperand (bodyQ b 0) .read (countFn g 0x08 s)
            else s)
        | _ => s) s.cmd.table s

/-- A read times out: AER, the loss of its context, and quarantine; a translation that times out is denied (R62,
R465; 06, R220). -/
def readTimesOut (p : Port) (t : ReqTag) (s : State) : State :=
  match tag? s p t with
  | none => s
  | some u =>
    if u.quarantined || !tagExpired s u then s
    else
      let s := quarantineTag p t s
      match u.use with
      -- a translation that an Invalidate Request has overtaken is asked for again (06, R221)
      | .ats pasid a => if u.bytes = 0 then s else atsDenied u.fn pasid a none s
      | _ => readFails u false (aerUncorrectable u.fn 14 s)

/-- COMPLETION_TIMEOUT (R62). -/
def execCompletionTimeout (p : Port) (t : ReqTag) (s : State) : Out := .next (readTimesOut p t s)

/-- QUARANTINE_EXPIRY: one further period has passed; the tag is freed silently (R465). -/
def execQuarantineExpiry (p : Port) (t : ReqTag) (s : State) : Out :=
  .next (match tag? s p t with
    | some u => if u.quarantined && tagExpired s u then freeTagOf p t s else s
    | none => s)

end Sys2Proof.Machine
end

