-- ==== Sys2Proof/Machine/Translation.lean ====
section
/-!
DEFINITION. The translation island's own work (06_translation): lookups and walks (R201 to R207), leases
(R217, R218), scans (R215), ATS (R219 to R221) and its objects (R223, R464).
-/
namespace Sys2Proof.Machine

/-! ### Lookups and walks (R203, R206) -/

/-- TRANSLATION_LOOKUP (R203). -/
def execTranslationLookup (c : CtxId) (va : U64) (need : Need) (s : State) : Out :=
  .next (lookup c (va.toNat % 2 ^ 57) need s)

/-! ### Leases (R217, R218) -/

/-- The part of an entry that holds an address and is contiguous in the pool: first and last granule. FAULT
regions cut a POOL range (09, R289). -/
def leaseSpan (s : State) (e : REntry) (va : Nat) : Nat × Nat :=
  let g := va / 4096
  let cuts := if e.ttype = 1 then s.pool.regions.filter fun r =>
      r.kind == .fault && spansMeet r.base r.bytes e.base (4096 * e.len) else []
  let at_ (r : Nat) : Nat := e.start + (r - e.base) / 4096
  (cuts.foldl (fun lo r => if at_ (r.base + r.bytes) ≤ g then max lo (at_ (r.base + r.bytes)) else lo) e.start,
   cuts.foldl (fun hi r => if g < at_ r.base then min hi (at_ r.base - 1) else hi) (e.start + e.len - 1))

/-- Deny a lease; the context is lost with CLUSTER_ACCESS_FAULT, raised by its LAUNCH on that cluster (R218, R200;
05, R172). A walk that met poison loses it with POISONED_DATA. -/
def denyLease (cluster slot : Nat) (c : CtxId) (va : Nat) (need : Need) (code : TCode) (st : CStatus)
    (s : State) : State :=
  let s := emit (.leaseDeny cluster slot code) s
  let cause := (s.cmd.table.find? fun x =>
    x.ctx == c && x.stage == .dispatched && x.parts.any fun p => p.cluster == cluster && !p.ended).toList
  loseContext c (lostOf st) (cause.map fun x => (x.q, st)) 0
    { kind := 5, unit := cluster, address := w64 va, addressKind := 2, access := accessCode need } s

/-- An entry is being dropped: a scan of its bank that has not ended selects it, or a walk waits to replace it (R210,
R218). -/
def dropPending (s : State) (b : Nat) (e : REntry) : Bool :=
  claimed s e || s.trans.scans.any fun x => x.bank == b && scanDrops s x.what e

/-- Grant a lease into a slot (R218). -/
def grantLease (cluster slot : Nat) (c : CtxId) (a : Asker) (e : REntry) (va : Nat) (s : State) : State :=
  let (lo, hi) := leaseSpan s e va
  let base := e.base + 4096 * (lo - e.start)
  let l : Lease := ⟨cluster, slot, c, e.id, lo, hi, base, allowsFor a e .read, allowsFor a e .write,
    allowsFor a e .atomic, e, []⟩
  let s := { s with trans := { s.trans with
    leases := (s.trans.leases.filter fun x => !(x.cluster == cluster && x.slot == slot)) ++ [l] } }
  countPackage 0x09 (emit (.leaseGrant cluster slot c lo hi base l.effR l.effW l.effA) (leasesEnded s))

/-- A lease request that cannot be answered yet is held: for its context's next issue window, or for what its
translation waits for (10, R318). -/
def holdLease (cluster slot : Nat) (c : CtxId) (va : Nat) (need : Need) (s : State) : State :=
  { s with det := { s.det with arrivals := s.det.arrivals ++ [.lease cluster slot c va need] } }

/-- The target of an address lies in an extent that is being scrubbed (13, R411). -/
def scrubbedTarget (s : State) (who : Who) (va : Nat) : Bool :=
  (asker s who).any fun a =>
    (storeLookup s who a (va / 4096)).any fun e => e.ttype == 1 && extentScrub s a.fn

/-- A lease request (R217, R218). The request of a LOST context is denied and only counted (04, R131, R154); one
for an extent that is being scrubbed is to be made again (13, R411). DESIGN CHOICE, as R218 gives no code: the denial of
a HOST or WINDOW target carries the code of the permission that the access needed (NO_READ, NO_WRITE or NO_ATOMIC), and
counts in TranslationFaults; that of a poisoned walk, and of a context that does not exist, is LOST or is ABORTING,
carries NONE. -/
def leaseRequest (cluster slot : Nat) (c : CtxId) (va : Nat) (need : Need) (s : State) : State :=
  if clustersOf s.variant ≤ cluster || 64 ≤ slot || s.det.fenced.contains cluster then s
  else match ctx? s c with
    | none => emit (.leaseDeny cluster slot .none) s
    | some x =>
      if x.state = .lost then emit (.leaseDeny cluster slot .none) (countFn x.fn 0x05 s)
      else if x.state ≠ .ready then emit (.leaseDeny cluster slot .none) s
      else if !mayIssue s c || packageHeld s then holdLease cluster slot c va need s
      else match translate (.ctx c) va need s, asker s (.ctx c) with
        | (s, .ok e), some a =>
          if e.ttype = 1 || e.ttype = 4 then
            if dropPending s (bankOf s (.ctx c)) e then emit (.leaseRetry cluster slot) s
            else grantLease cluster slot c a e va s
          else denyLease cluster slot c va need (lacking need) .clusterAccessFault (countFn x.fn 0x08 s)
        | (s, .error (TOut.fault code)), _ => denyLease cluster slot c va need code .clusterAccessFault s
        | (s, .error TOut.poisoned), _ => denyLease cluster slot c va need .none .poisonedData s
        | (s, _), _ =>
          if scrubbedTarget s (.ctx c) va then emit (.leaseRetry cluster slot) s else holdLease cluster slot c va need s

/-- The context that a held arrival belongs to. -/
def arrivalCtx : Arrival → Option CtxId
  | .lease _ _ c _ _ => some c
  | .failed u _ => readCtx u.use
  | .poison c _ _ => some c

/-- A held arrival enters (10, R318). A lease request that still has to wait is held again. -/
def enter (a : Arrival) (s : State) : State :=
  match a with
  | .lease cluster slot c va need => leaseRequest cluster slot c va need s
  | .failed u poisoned_ => readFails u poisoned_ s
  | .poison c q va =>
    faultCmd c q .poisonedData { kind := 1, unit := 8, address := w64 va, addressKind := 2, access := 1 } s

/-- The held arrivals that a test selects enter in their order of arrival. -/
def enterWhere (p : Arrival → Bool) (s : State) : State :=
  foldState enter (s.det.arrivals.filter p)
    { s with det := { s.det with arrivals := s.det.arrivals.filter fun a => !p a } }

/-- An issue window of a context lets its held arrivals in (10, R318). -/
def letIn (c : CtxId) (s : State) : State := enterWhere (fun a => arrivalCtx a == some c) s

/-- The held lease requests whose context may have its answer are made again (R218; 10, R318). -/
def retryLeases (s : State) : State :=
  enterWhere (fun a => match a with
    | .lease _ _ c _ _ => mayIssue s c && !packageHeld s
    | _ => false) s

/-- LEASE_REQUEST (R218). -/
def execLeaseRequest (cluster slot : Nat) (c : CtxId) (va : U64) (need : Need) (s : State) : Out :=
  .next (leaseRequest cluster slot c (va.toNat % 2 ^ 57) need s)

/-- RANGE_SCAN_DONE: the first scan of a bank ends (R215). -/
def execRangeScanDone (bank : Bank) (s : State) : Out := .next (finishScan bank s)

/-! ### ATS (R219 to R221) -/

/-- Keep a translation as the most recently used of at most 16,384; the least recently used one gives way (R220). -/
def atsKeep (p : Port) (e : AtsEntry) (s : State) : State :=
  let rest := (getPort s p).ats.filter fun y => !(y.pasid == e.pasid && y.address == e.address)
  let s := match rest[16383]? with
    | some last => forgetAts p (· == last) s
    | none => s
  modPort p (fun x => { x with
    ats := e :: (x.ats.filter fun y => !(y.pasid == e.pasid && y.address == e.address)) }) s

/-- The completion of a Translation Request (R220, R221; 02, R63). A result that faults an access is not kept;
one that an Invalidate Request has overtaken is not used. -/
def atsCompletes (p : Port) (t : ReqTag) (st : CplStatus) (translated : Nat) (rd wr : Bool) (s : State) : State :=
  match tag? s p t with
  | none => aerCorrectable (fn0 p) 13 (modCfg (fn0 p) (fun c => { c with aerUnc := c.aerUnc ||| 0x10000 }) s)
  | some u =>
    if u.quarantined then countPort p 1 (freeTagOf p t s)
    else match u.use with
      | .ats pasid a =>
        let s := freeTagOf p t s
        if u.bytes = 0 then s
        else if st ≠ .success then atsDenied u.fn pasid a none s
        else
          let s1 := if rd then s else atsDenied u.fn pasid a (some false) s
          let s2 := if wr then s1 else atsDenied u.fn pasid a (some true) s1
          if s2 = s && (rd || wr) then atsKeep p ⟨u.fn, pasid, a, translated, rd, wr⟩ s2 else s2
      | _ => s

/-- ATS_TRANSLATION_COMPLETION (R220). -/
def execAtsTranslationCompletion (p : Port) (t : ReqTag) (st : CplStatus) (translated : U64) (rd wr : Bool)
    (s : State) : Out := .next (atsCompletes p t st translated.toNat rd wr s)

/-- An Invalidate Request drops every matching translation, and is held for the reads issued with one; a request
whose translation is in flight is asked again (R221). The bytes that a translation covers are those of the
largest translation unit of the port's functions. -/
def atsInvalidate (p : Port) (itag : Nat) (pasid : BitVec 20) (a n : Nat) (s : State) : State :=
  let unit := (fnsOf p).foldl (fun m g => max m (stuBytes s g)) 4096
  let hit (x : BitVec 20) (b : Nat) : Bool := x == pasid && spansMeet b unit a n
  let dropped := (getPort s p).ats.filter fun e => hit e.pasid e.address
  let waits := (getPort s p).tags.filter fun u => !u.timedOut && (match u.use with
    | .ats _ _ => false
    | _ => u.pasid == some pasid && dropped.any fun e => spansMeet e.address unit u.address u.bytes)
  countPort p 6 (modPort p (fun x => { x with
    tags := x.tags.map fun u => (match u.use with
      | .ats y b => if hit y b then { u with bytes := 0 } else u
      | _ => u)
    atsHolds := (x.atsHolds.filter fun h => h.itag != itag) ++ [⟨itag, waits.map (·.tag)⟩] })
    (forgetAts p (fun e => hit e.pasid e.address) s))

/-- ATS_INVALIDATE_REQUEST (R221). -/
def execAtsInvalidateRequest (p : Port) (itag : Fin 32) (pasid : BitVec 20) (a : U64) (n : Nat)
    (s : State) : Out := .next (atsInvalidate p itag.val pasid a.toNat n s)

/-- ATS_INVALIDATION_COMPLETION: every read issued with a dropped translation has completed or timed out
(R221). -/
def execAtsInvalidationCompletion (p : Port) (itag : Fin 32) (s : State) : Out :=
  .next (match (getPort s p).atsHolds.find? fun h => h.itag == itag.val with
    | none => s
    | some h =>
      if !h.waits.isEmpty then s
      else emit (.atsInvalidated p itag.val) (modPort p (fun x => { x with
        atsHolds := x.atsHolds.filter fun y => y.itag != itag.val }) s))

/-! ### Objects (R195, R223, R464) -/

/-- The pair of extent objects of a function, with the values that a write sends (R464). -/
def extentPair (s : State) (g : Fun) (base bytes : Option U64) : Nat × Nat :=
  ((base.map BitVec.toNat).getD (objNum s (0x3100 + g.val) 1),
   (bytes.map BitVec.toNat).getD (objNum s (0x3100 + g.val) 2))

/-- Why a pair of extent values is refused (R464). -/
def extentRefused (g : Fun) (base bytes : Option U64) (s : State) : Option EStatus :=
  let (b, n) := extentPair s g base bytes
  let others := (List.finRange 32).filter fun f => f != g
  if b % 2 ^ 30 != 0 || n % 2 ^ 30 != 0 || poolBytesOf s.variant < b + n ||
      (n != 0 && ((others.any fun f =>
          spansMeet (objNum s (0x3100 + f.val) 1) (objNum s (0x3100 + f.val) 2) b n) ||
        s.pool.regions.any fun r =>
          (r.kind == .carveOut || r.kind == .carveOutMirror || r.kind == .spare) &&
            spansMeet r.base r.bytes b n)) then some .outOfRange
  else none

/-- POOL_EXTENT_WRITE: one or both objects of a function's extent; they take effect at the next package reset
(R195, R464). -/
def execPoolExtentWrite (rq : Requester) (g : Fun) (base bytes : Option U64) (s : State) : Out :=
  let wb (v : U64) (s : State) : State := putObj ⟨0x3100 + g.val, 1⟩ (.num v.toNat) s
  let wn (v : U64) (s : State) : State := putObj ⟨0x3100 + g.val, 2⟩ (.num v.toNat) s
  .next (match base, bytes with
    | none, none => s
    | some b, none => requestWrite rq ⟨0x3100 + g.val, 1⟩ (.num b.toNat) (extentRefused g base bytes) (wb b) s
    | none, some n => requestWrite rq ⟨0x3100 + g.val, 2⟩ (.num n.toNat) (extentRefused g base bytes) (wn n) s
    | some b, some n =>
      requestWrite rq ⟨0x3100 + g.val, 1⟩ (.num b.toNat)
        (fun s => match writeStatus s rq ⟨0x3100 + g.val, 2⟩ (leBytes 8 n.toNat) with
          | .ok => extentRefused g base bytes s
          | _ => some .notApplied) (fun s => wn n (wb b s)) s)

end Sys2Proof.Machine
end

