-- ==== Sys2Proof/Machine/PairLink.lean ====
section
/-!
DEFINITION. Pairs of packages (08_windows_coherence): the link layer (R270), sessions (R269), peer states (R271)
and the end of operations (R272).
-/
namespace Sys2Proof.Machine

/-- Codes of R261. -/
def dcodeOf : DCode → Nat
  | .walk c => tcodeOf c
  | .windowClosed => 0x20
  | .sourceDenied => 0x21
  | .noPermission => 0x22
  | .targetNotAllowed => 0x23
  | .busy => 0x24
  | .notReady => 0x25
  | .peerDown => 0x26
  | .sessionReset => 0x27

/-- The package that a waiting frame came from. -/
def frameOf : InFrame → PackageId
  | .check _ h _ => h.src
  | .serve h => h.src
  | .data h _ => h.src
  | .cancel h => h.src

/-- A DURATION object in counts. -/
def durationCounts (s : State) (index sub : Nat) : Nat := nsCounts (objNum s index sub)

def retryCounts (s : State) : Nat := durationCounts s 0x6000 7
def peerTimeoutCounts (s : State) : Nat := durationCounts s 0x6000 8

/-- Counts that have passed since a recorded count. -/
def since (s : State) (t : U64) : Nat := (s.gtc - t).toNat

def modSession (p : PackageId) (f : PairSession → PairSession) (s : State) : State :=
  modPeer p (fun x => { x with session := x.session.map f }) s

def session? (s : State) (p : PackageId) : Option PairSession := (peer? s p).bind (·.session)

/-- An acknowledgement arrives: acknowledged frames are dropped, waiting ones go out, and reductions whose DONE
is acknowledged leave the history (R270, R274). One that acknowledges a frame never sent is ignored: DESIGN CHOICE. -/
def takeAck (p : PackageId) (ack : U32) (s : State) : State :=
  match session? s p with
  | none => s
  | some x =>
    let d := (ack - BitVec.ofNat 32 x.acked).toNat
    if d = 0 || x.emitted < d then s
    else
      let s := modPeer p (fun y => { y with
        tried := []
        session := some { x with
          acked := x.acked + d, unacked := x.unacked.drop d, emitted := x.emitted - d
          advance := s.gtc, resent := s.gtc } }) s
      flushFrames p { s with win := { s.win with
        history := s.win.history.filter fun c => !(c.src == p && c.doneSeq.any fun n => n < x.acked + d) } }

/-! ### The end of operations (R272) -/

/-- Address and side of a window operation: that of the first of its runs (R275). -/
def opVa (s : State) (o : SendOp) : Nat :=
  match (cmd? s o.ctx o.q).bind (·.xfer) with
  | some y => match y.tile with
    | some t => ((t.src ++ t.dst).findSome? fun r => match r.target with
        | .window p w _ => if p == o.peer && w == o.window then some r.va else none
        | _ => none).getD 0
    | none => 0
  | none => match cmd? s o.ctx o.q with
    | some x => bodyQ x.raw 0
    | none => 0

/-- A window operation fails at its sender with a code: REMOTE_DENIED for its tile or operand (R272, R275). -/
def opFails (code : DCode) (o : SendOp) (s : State) : State :=
  if !s.win.sends.contains o then s
  else match cmd? s o.ctx o.q, ctx? s o.ctx with
    | some x, some cx =>
      let va := opVa s o
      let s := countFn cx.fn 0x08 s
      if x.xfer.isSome then
        tileFault o.ctx o.q .remoteDenied (if o.need = .read then 0 else 1) o.need va
          (some (dcodeOf code, o.peer)) s
      else operandFault x .badOperand va o.need s
    | _, _ => s

/-- End every operation in flight to a peer at the sender, and every hold of the peer at the receiver (R272). -/
def endOps (p : PackageId) (code : DCode) (s : State) : State :=
  let ops := s.win.sends.filter fun o => o.peer == p && o.phase != 3
  foldState (opFails code) ops { s with win := { s.win with
    recvs := s.win.recvs.filter fun o => o.src != p } }

/-- The session of a pair ends (R269, R272): no frame of it waits, and no DONE of it can be acknowledged any more
(R274). -/
def endSession (p : PackageId) (code : DCode) (s : State) : State :=
  let s := modPeer p (fun x => { x with session := none }) s
  endOps p code { s with win := { s.win with
    inbox := s.win.inbox.filter fun f => frameOf f != p
    history := s.win.history.map fun c => if c.src == p then { c with doneSeq := none } else c } }

/-! ### Arriving frames (R260, R269, R270) -/

/-- Checks 1 and 2 of R260. Without a crypto lane that holds the session's keys no sealed frame is received (14, R427,
R428). A frame that passes them is heard, and a sequenced one is to be acknowledged whether it is
accepted or not (R270, R272). -/
def openFrame (h : FrameHdr) (sequenced : Bool) (s : State) : State × Option PairSession :=
  match session? s h.src with
  | none => (countPackage 0x0B s, none)
  | some x =>
    if !h.sealOk then (countPackage 0x0B s, none)
    else if h.dst ≠ s.win.localId then (countPackage 0x0C s, none)
    else if x.lanes = 0 then (s, none)
    else
      let owed := if sequenced && x.owed.isNone then some s.gtc else x.owed
      let x := { x with owed := owed }
      (modPeer h.src (fun y => { y with heard := s.gtc, session := some x }) s, some x)

/-- The checks that every sealed frame passes first; the answer is none when it is dropped. `sequenced` frames
are accepted in order of LinkSeq (R270). A loopback frame bears no seal and no sequence (R255). -/
def takeFrame (h : FrameHdr) (sequenced : Bool) (s : State) : Option State × State :=
  if h.src == s.win.localId && h.dst == s.win.localId then (some s, s)
  else match openFrame h sequenced s with
    | (s, none) => (none, s)
    | (s, some x) =>
      if sequenced && h.linkSeq ≠ BitVec.ofNat 32 x.expect then (none, countPackage 0x0D s)
      else
        let s := if sequenced then modSession h.src (fun y => { y with expect := y.expect + 1 }) s else s
        let s := takeAck h.src h.ackSeq s
        (some s, s)

/-- Run the meaning of a sequenced frame that is accepted. -/
def withFrame (h : FrameHdr) (act : State → State) (s : State) : State :=
  match takeFrame h true s with
  | (some s, _) => act s
  | (none, s) => s

/-- The count of a LINK_ACK, above the last one accepted (R269, R270). -/
def ackCount (x : PairSession) (seq : U32) : Option Nat :=
  match x.ackGot with
  | none => some seq.toNat
  | some n =>
    let d := (seq - BitVec.ofNat 32 n).toNat
    if d = 0 || 2 ^ 31 ≤ d then none else some (n + d)

/-- LINK_ACK (R270). -/
def linkAck (h : FrameHdr) (s : State) : State :=
  match session? s h.src with
  | none => countPackage 0x0B s
  | some x =>
    match ackCount x h.linkSeq with
    | none => (openFrame h false s).1
    | some n =>
      match takeFrame h false s with
      | (some s, _) => modSession h.src (fun y => { y with ackGot := some n }) s
      | (none, s) => s

def execLinkAck (h : FrameHdr) (s : State) : Out := .next (linkAck h s)

/-- LINK_ACK_TIMER: 2 µs have passed with frames arriving and nothing to carry the acknowledgement (R270). The
count of the LINK_ACKs sent so far stands in LinkSeq (R269). -/
def ackTimer (p : PackageId) (s : State) : State :=
  match session? s p with
  | none => s
  | some x =>
    match x.owed with
    | none => s
    | some t =>
      if since s t < 2500 || !(peer? s p).any sends then s
      else
        rawFrame p (stamped x ⟨x.ackSent, 0x40, 0, 0, 0, 0, []⟩)
          (modSession p (fun y => { y with ackSent := y.ackSent + 1, owed := none }) s)

def execLinkAckTimer (p : PackageId) (s : State) : Out := .next (ackTimer p s)

/-- Send the unacknowledged frames of a pair again, the oldest first, then those that have not been sent (R257,
R270). -/
def retransmit (p : PackageId) (s : State) : State :=
  match session? s p with
  | none => s
  | some x =>
    if !(peer? s p).any sends then s
    else
      flushFrames p (foldState (fun f s => countPackage 0x0E (rawFrame p f s)) (x.unacked.take x.emitted)
        (modSession p (fun y => { y with resent := s.gtc }) s))

/-- PALDAR_RETRY_TIMEOUT (R270). -/
def execPaldarRetryTimeout (p : PackageId) (s : State) : Out :=
  .next (match session? s p with
    | some x =>
      if 0 < x.emitted && retryCounts s ≤ since s x.advance && retryCounts s ≤ since s x.resent then
        retransmit p s
      else s
    | none => s)

/-! ### Peer states (R257, R271, R272) -/

/-- A pair goes DOWN (R271, R272). -/
def goDown (p : PackageId) (s : State) : State :=
  endSession p .peerDown (countPackage 0x0F
    (modPeer p (fun x => { x with state := .down, since := s.gtc, port := none, tried := [] }) s))

/-- PaldarPeerTimeout has passed with frames unacknowledged: the pair moves to the next port of its mask, and
goes DOWN after the last (R271). -/
def peerTimeout (p : PackageId) (s : State) : State :=
  match peer? s p, session? s p with
  | some x, some ss =>
    if ss.unacked.isEmpty || since s ss.advance < peerTimeoutCounts s then s
    else
      let tried := x.tried ++ x.port.toList
      match fabricPort s p tried with
      | none => goDown p s
      | some e =>
        retransmit p (modPeer p (fun y => { y with
          port := some e, tried := tried, session := some { ss with advance := s.gtc } }) s)
  | _, _ => s

/-- PEER_TIMEOUT (R271). -/
def execPeerTimeout (p : PackageId) (s : State) : Out := .next (peerTimeout p s)

/-- Draw a 16-byte nonce (R269). -/
def drawNonce (s : State) : State × Bytes :=
  ({ draw s with sec := { s.sec with requests := s.sec.requests + 1 } },
   (List.range 16).map (Config.drbgByte s.draws))

/-- Send HELLO or HELLO_ACK: BootId and a nonce, without a seal (R267, R269). -/
def sendHello (p : PackageId) (type : Nat) (nonce : Bytes) (s : State) : State :=
  match fabricPort s p [] with
  | none => s
  | some e => emit (.frame p e (wireFrame s p e none ⟨0, type, 0, 0, 0, 0, leBytes 8 s.sec.bootId.toNat ++ nonce⟩)) s

/-- A Paldar lane is on, so that Paldar frames pass (14, R427). -/
def lanesOn (s : State) : Bool := s.power.on.getLsbD 40 || s.power.on.getLsbD 41

/-- Sealed frames can be exchanged and nonces issued: a Paldar lane is on and the entropy source has not failed
(13, R404; 14, R427). -/
def mayOpen (s : State) : Bool := lanesOn s && !s.sec.entropyFailed

/-- Send a HELLO to a CONNECTING peer (R271). -/
def helloTurn (p : PackageId) (s : State) : State :=
  match peer? s p with
  | none => s
  | some x =>
    if x.state ≠ .connecting || !mayOpen s || (x.hello.isSome && since s x.since < 125000) then s
    else
      let (s, n) := drawNonce s
      sendHello p 0x50 n (modPeer p (fun y => { y with hello := some n, since := s.gtc }) s)

/-- HELLO_TIMER: a CONNECTING peer is sent HELLO every 100 µs (R271). -/
def execHelloTimer (p : PackageId) (s : State) : Out := .next (helloTurn p s)

/-- PEER_DOWN_TIMER: DOWN has lasted 100 µs (R271). In package sleep a peer stays DOWN until the wake has completed (14,
R430). -/
def execPeerDownTimer (p : PackageId) (s : State) : Out :=
  .next (match peer? s p with
    | some x =>
      if x.state = .down && 125000 ≤ since s x.since && s.power.phase == .awake then
        modPeer p (fun y => { y with state := .connecting, hello := none }) s
      else s
    | none => s)

/-- Crypto lanes 2 and 3 that are on (14, R425). -/
def lanesUp (s : State) : BitVec 2 := (s.power.on >>> 40).setWidth 2

/-- A fresh session of a pair, whose keys the lanes that are on now hold (R269, R270; 14, R428). -/
def newSession (gtc bootId : U64) (lanes : BitVec 2) (mine theirs key : Bytes) : PairSession :=
  { bootId := bootId, nonceLocal := mine, noncePeer := theirs, key := key, sent := 0, expect := 0, acked := 0,
    ackSent := 0, ackGot := none, unacked := [], emitted := 0, advance := gtc, resent := gtc, owed := none, lanes := lanes }

/-- The key of a session with a peer (R269; 13, R402). -/
def pairKey (s : State) (p : PackageId) (bootId : U64) (mine theirs : Bytes) : Bytes :=
  paldarSessionKey (secretUsed s.sec 2) ⟨s.win.localId, s.sec.bootId, mine⟩ ⟨p, bootId, theirs⟩

/-- The pair is UP with a new session; a change of BootId discards the peer's commit history (R269, R271). -/
def goUp (p : PackageId) (bootId : U64) (mine theirs : Bytes) (s : State) : State :=
  let s := { s with win := { s.win with
    history := s.win.history.filter fun c => !(c.src == p && c.bootId != bootId) } }
  modPeer p (fun x => { x with
    state := .up, port := fabricPort s p [], tried := [], hello := none, heard := s.gtc, bootId := some bootId
    session := some (newSession s.gtc bootId (lanesUp s) mine theirs (pairKey s p bootId mine theirs)) }) s

/-- A HELLO can be answered: a nonce can be issued, and a link of the peer's mask is up (R271; 13, R404). -/
def mayAnswer (s : State) (p : PackageId) : Bool := mayOpen s && (fabricPort s p []).isSome

/-- An open session of a pair ends for a HELLO; a pair that was UP is CONNECTING until the HELLO is answered (R269,
R271), DESIGN CHOICE. -/
def helloEnds (p : PackageId) (s : State) : State :=
  if (session? s p).isSome then
    endSession p .sessionReset (modPeer p (fun y => { y with state := .connecting, hello := none }) s)
  else s

/-- A HELLO ends an open session of the pair, and opens one where it is answered (R269, R271). When a HELLO
of this package is out, the answer carries its nonce, so that both sides derive one key: DESIGN CHOICE. -/
def helloArrives (m : HelloMsg) (s : State) : State :=
  if m.dst ≠ s.win.localId then countPackage 0x0C s
  else match (peer? s m.src).filter fun _ => lanesOn s with
    | none => s
    | some x =>
      let s := helloEnds m.src s
      if !mayAnswer s m.src then s else
      let (s, n) : State × Bytes := match x.hello with
        | some n => (s, n)
        | none => drawNonce s
      sendHello m.src 0x51 n (goUp m.src m.bootId n m.nonce s)

/-- HELLO (R269). -/
def execHello (m : HelloMsg) (s : State) : Out := .next (helloArrives m s)

/-- HELLO_ACK: it answers the HELLO that is out (R271). -/
def execHelloAck (m : HelloMsg) (s : State) : Out :=
  .next (if m.dst ≠ s.win.localId then countPackage 0x0C s
    else match peer? s m.src with
      | none => s
      | some x => match x.hello with
        | some n => if x.state = .connecting && mayOpen s then goUp m.src m.bootId n m.nonce s else s
        | none => s)

/-- RECEIVER_PEER_SILENCE: no frame has come from a peer for PaldarPeerTimeout; its holds end (R272). -/
def execReceiverPeerSilence (p : PackageId) (s : State) : Out :=
  .next (match peer? s p with
    | some x =>
      if peerTimeoutCounts s ≤ since s x.heard then
        { s with win := { s.win with recvs := s.win.recvs.filter fun o => o.src != p } }
      else s
    | none => s)

/-- The port of a pair after a change of the links: of those that have not timed out in turn, else of all (R257,
R271). -/
def nextPort (s : State) (x : Peer) : Option Nat :=
  match fabricPort s x.id x.tried with
  | some e => some e
  | none => fabricPort s x.id []

/-- A port's link changes: each pair uses the lowest port of its mask whose link is up, and a pair whose port
went down sends its unacknowledged frames again (R257). A port that timed out is passed over while another is up
(R271); where none is, it is used again: DEDUCED. -/
def linkChange (e : Fin 12) (up : Bool) (s : State) : State :=
  let m : BitVec 12 := (1 : BitVec 12) <<< e.val
  let s := { s with win := { s.win with links := if up then s.win.links ||| m else s.win.links &&& ~~~ m } }
  foldState (fun x s =>
    if x.session.isNone then s
    else
      let now := nextPort s x
      if now == x.port then s
      else
        -- the time that PaldarPeerTimeout allows a port begins with the move to it (R271)
        let s := modPeer x.id (fun y => { y with
          port := now, session := y.session.map fun ss => { ss with advance := s.gtc } }) s
        if up && x.port.isSome then flushFrames x.id s else retransmit x.id s) s.win.peers s

/-- ETHERNET_LINK_CHANGE (R257). -/
def execEthernetLinkChange (e : Fin 12) (up : Bool) (s : State) : Out := .next (linkChange e up s)

/-- A peer whose entry is valid begins CONNECTING (R271). -/
def newPeer (p : PackageId) (gtc : U64) (bootId : Option U64) : Peer :=
  { id := p, state := .connecting, port := none, tried := [], session := none, hello := none, since := gtc,
    heard := gtc, bootId := bootId }

/-- A PeerEntry is written: operations in flight end, and a valid entry begins CONNECTING (R271, R272). The entry
of this package itself is never read (R254), and reserved bits are ignored (00, R6). -/
def writePeerEntry (p : PackageId) (w : Nat) (s : State) : State :=
  let v := field w 59 0 + bit (w.testBit 63) 63
  let s := putObj ⟨0x6200 + p.toNat / 128, p.toNat % 128 + 1⟩ (.num v) s
  if p == s.win.localId then s
  else
    let old := (peer? s p).bind (·.bootId)
    let s := endSession p .sessionReset s
    let rest := s.win.peers.filter fun x => x.id != p
    { s with win := { s.win with
      peers := if v.testBit 63 then rest ++ [newPeer p s.gtc old] else rest } }

/-- PEER_ENTRY_WRITE (R272). -/
def execPeerEntryWrite (rq : Requester) (p : PackageId) (v : U64) (s : State) : Out :=
  .next (requestWrite rq ⟨0x6200 + p.toNat / 128, p.toNat % 128 + 1⟩ (.num v.toNat)
    (fun _ => none) (writePeerEntry p v.toNat) s)

/-- COMMIT_HISTORY_EXPIRY: an identity has been kept for 120 s (R274). -/
def execCommitHistoryExpiry (src : PackageId) (bootId : U64) (serial : U32) (tile : Nat) (s : State) : Out :=
  .next { s with win := { s.win with
    history := s.win.history.filter fun c =>
      !(c.src == src && c.bootId == bootId && c.serial == serial && c.tile == tile &&
        150000000000 ≤ since s c.gtc) } }

end Sys2Proof.Machine
end

