-- ==== Sys2Proof/Machine/Incoming.lean ====
section
/-!
DEFINITION. Window operations at the receiver and the answers at the sender (08_windows_coherence, R258 to R261,
R273 to R277; 09_memory_pool, R301).
-/
namespace Sys2Proof.Machine

/-- Answer a frame of an operation (R266, R267). -/
def reply (h : FrameHdr) (type code : Nat) (need : Need) (last : Bool) (off : Nat) (b : Bytes) (s : State) : State :=
  sendFrame h.src type (frameQ2 h.window h.tileIndex) (frameQ3 h.serial h.streamTag)
    (frameQ4 code (some need) 0 0 last off) b s

/-- Answer on an operation that is held. -/
def replyOp (o : RecvOp) (type : Nat) (last : Bool) (s : State) : State :=
  sendFrame o.src type (frameQ2 o.window o.tile) (frameQ3 o.serial o.tag) (frameQ4 0 (some o.need) 0 0 last 0) [] s

/-- The operation of a frame. -/
def isOp (h : FrameHdr) (o : RecvOp) : Bool :=
  o.src == h.src && o.window == h.window && o.serial == h.serial && o.tile == h.tileIndex

/-- The sender's BootId: this package's own on the loopback (R274). -/
def srcBoot (s : State) (p : PackageId) : U64 :=
  if p == s.win.localId then s.sec.bootId else ((session? s p).map (·.bootId)).getD 0

/-! ### The check (R260) -/

/-- Translate every run of an operation through the window's table, in order: the runs, or the DENY code; none when
a node's lines are held by processor dies or a walk has to be waited for (R260, step 7). A target in an extent that is
being scrubbed is denied BUSY (13, R411). A poisoned node has no code of its own: it is free. -/
def checkRuns (w : WindowId) (need : Need) : List WRun → Nat → State → State × Except (Option Nat) (List Run)
  | [], _, s => (s, .ok [])
  | r :: rs, pos, s =>
    match spanRuns (.win w) need pos r.offset r.length s with
    | (s, .error (TOut.fault c, _)) => (s, .error (some (tcodeOf c)))
    | (s, .error (TOut.poisoned, _)) =>
      (draw (countPackage 0x17 s), .error (some (Config.choice s.draws 9 % 9 + 1)))
    | (s, .error (_, va)) => (s, .error (if scrubbedTarget s (.win w) va then some (dcodeOf .busy) else none))
    | (s, .ok a) =>
      if a.any fun x => match x.target with | .pool _ => false | _ => true then
        (s, .error (some (dcodeOf .targetNotAllowed)))
      else match checkRuns w need rs (pos + r.length) s with
        | (s, .error e) => (s, .error e)
        | (s, .ok b) => (s, .ok (a ++ b))

/-- A fence object takes only U64 MAX (R277; 04, R148). -/
def fenceBarred (s : State) (need : Need) (elem op : Nat) (runs : List Run) : Bool :=
  need == .atomic && !(elem == 3 && op == 1) && runs.any fun r => match r.object.bind (obj? s) with
    | some o => o.fence
    | none => false

/-- Bytes of the atomic staging buffer, and entries of the history, that are reserved (R273, R274). -/
def stagingUsed (s : State) : Nat :=
  ((s.win.recvs.filter fun o => o.need == .atomic && o.held.isSome).map (·.bytes)).foldl (· + ·) 0
def historyUsed (s : State) : Nat :=
  s.win.history.length + (s.win.recvs.filter fun o => o.need == .atomic && o.held.isSome).length

/-- The package of a source passes a window's source check (R258). -/
def sourceOk (x : Win) (p : PackageId) : Bool := p &&& x.mask == x.srcMatch &&& x.mask

/-- The outcome of checks 3 to 8 of R260: the runs, or the DENY code; none when the check waits. -/
def checkOp (h : FrameHdr) (need : Need) (runs : List WRun) (s : State) :
    State × Except (Option Nat) (List Run) :=
  let deny (c : DCode) : State × Except (Option Nat) (List Run) := (s, .error (some (dcodeOf c)))
  if !isReady s then deny .notReady
  else match win? s h.window with
    | none => deny .windowClosed
    | some x =>
      if x.state ≠ .opened then deny .windowClosed
      else if !sourceOk x h.src then deny .sourceDenied
      else if !(match need with | .read => x.read | .write => x.write | .atomic => x.atomic) then
        deny .noPermission
      else match checkRuns h.window need runs 0 s with
        | (s, .error c) => (s, .error c)
        | (s, .ok rs) =>
          let n := (runs.map (·.length)).foldl (· + ·) 0
          if fenceBarred s need h.elementType h.reduceOp rs then (s, .error (some (tcodeOf .noAtomic)))
          else if need = .atomic && (0x800000 < stagingUsed s + n || 16384 ≤ historyUsed s) then
            (s, .error (some (dcodeOf .busy)))
          else (s, .ok rs)

/-- An operation as the receiver keeps it. -/
def newRecv (h : FrameHdr) (need : Need) (runs : List WRun) (held : Option (List Run)) : RecvOp :=
  { src := h.src, window := h.window, serial := h.serial, tile := h.tileIndex, need := need,
    elementType := h.elementType, reduceOp := h.reduceOp, runs := runs, held := held,
    bytes := (runs.map (·.length)).foldl (· + ·) 0, staged := [], received := 0, executed := 0, last := h.last,
    old := false, tag := h.streamTag }

/-- Drop the receiver's operation of a frame and an access kind. -/
def dropRecv (h : FrameHdr) (need : Need) (s : State) : State :=
  { s with win := { s.win with recvs := s.win.recvs.filter fun o => !(isOp h o && o.need == need) } }

def addRecv (o : RecvOp) (s : State) : State := { s with win := { s.win with recvs := s.win.recvs ++ [o] } }

def modRecv (o : RecvOp) (f : RecvOp → RecvOp) (s : State) : State :=
  { s with win := { s.win with
    recvs := s.win.recvs.map fun x =>
      if x.src == o.src && x.window == o.window && x.serial == o.serial && x.tile == o.tile && x.need == o.need
      then f x else x } }

/-- An operation ends its hold. -/
def endRecv (o : RecvOp) (s : State) : State :=
  { s with win := { s.win with
    recvs := s.win.recvs.filter fun x => !(x.src == o.src && x.window == o.window && x.serial == o.serial &&
      x.tile == o.tile && x.need == o.need) } }

/-- The accepted operation of a frame, of an access that `p` admits. -/
def recvOf? (s : State) (h : FrameHdr) (p : Need → Bool) : Option RecvOp :=
  s.win.recvs.find? fun o => isOp h o && p o.need && o.held.isSome

/-- The data of a held read operation, in frames of 4 KiB; a frame with a poisoned line carries Code 0x80 and zeros
for that line (R261, R273; 09, R301). -/
def sendReadData (o : RecvOp) (s : State) : State :=
  let runs := o.held.getD []
  let data := runs.flatMap fun r => match r.target with
    | .pool a => (List.range r.bytes).map fun i =>
        if poisoned s (a + i) 1 then (0, true) else (memGet s.pool.mem (a + i), false)
    | _ => []
  let n := (data.length + 4095) / 4096
  foldState (fun i s =>
    let part := (data.drop (4096 * i)).take 4096
    let bad := part.any (·.2)
    let s := if bad then countPackage 0x17 s else s
    sendFrame o.src 0x30 (frameQ2 o.window o.tile) (frameQ3 o.serial o.tag)
      (frameQ4 (if bad then 0x80 else 0) (some .read) 0 0 (i + 1 == n) (4096 * i)) (part.map (·.1)) s)
    (List.range n) s

/-- The identity of a reduction is in the history (R274). -/
def committed (s : State) (h : FrameHdr) : Bool :=
  s.win.history.any fun c => c.src == h.src && c.bootId == srcBoot s h.src && c.serial == h.serial &&
    c.tile == h.tileIndex

/-- LinkSeq count of the next frame to a package: that of a DONE about to be sent (R274). On the loopback no frame is
acknowledged: the DONE is taken for acknowledged when it arrives, DESIGN CHOICE. -/
def doneCount (s : State) (p : PackageId) : Option Nat := (session? s p).map (·.sent)

/-! ### Data (R273, R274, R277) -/

/-- The parts of a piece of an operation's byte sequence in its pool runs: pool address and bytes. -/
def pieceParts (o : RecvOp) (off : Nat) (b : Bytes) : List (Nat × Bytes) :=
  (o.held.getD []).filterMap fun r => match r.target with
    | .pool a =>
      let lo := max off r.pos
      let hi := min (off + b.length) (r.pos + r.bytes)
      if lo < hi then some (a + (lo - r.pos), sliceBytes b (lo - off) (hi - lo)) else none
    | _ => none

/-- The owner function of a window. -/
def winOwner (s : State) (w : WindowId) : Fun := match win? s w with
  | some x => x.owner
  | none => 0

/-- Perform the reductions of an operation in the pool cache; on a fence they are signals (R273, R277). -/
def runReduction (o : RecvOp) (s : State) : State :=
  let data := gather o.staged 0 o.bytes
  foldState (fun r s => match r.target with
    | .pool a =>
      let b := sliceBytes data r.pos r.bytes
      (match (r.object.bind (obj? s)).filter (·.fence) with
      | some x => reduceFence (winOwner s o.window) none x a b s
      | none => poolReduce o.elementType o.reduceOp a b false s)
    | _ => s) (o.held.getD []) s

/-- Record the identity of a reduction and send DONE (R273, R274). -/
def commitOp (o : RecvOp) (s : State) : State :=
  replyOp o 0x31 true (endRecv o { s with win := { s.win with
    history := s.win.history ++ [⟨o.src, srcBoot s o.src, o.serial, o.tile, s.gtc, doneCount s o.src⟩] } })

/-! ### Frames in their order (R276) -/

/-- Send the snoops that spans wait for, and keep the frame (R280). What a frame leaves is nothing, or a frame that
waits, for snoops or for a walk. -/
def runWaits (src : PackageId) (f : InFrame) (spans : List (Nat × Nat)) (write : Bool) (s : State) :
    State × Option InFrame :=
  let i : ErrInfo := { kind := 6, unit := src.toNat, access := if write then 2 else 1 }
  (foldState (fun r s => gateSnoops i r.1 r.2 write none s) spans s, some f)

/-- Serve a held read once no snoop is needed on its lines (08, R280). -/
def runServe (h : FrameHdr) (s : State) : State × Option InFrame :=
  match recvOf? s h (· == .read) with
  | none => (s, none)
  | some o =>
    let spans := (poolRuns (o.held.getD [])).map fun r => (r.1, r.2.1)
    if spans.any fun r => gated s r.1 r.2 false none then runWaits h.src (.serve h) spans false s
    else (endRecv o (sendReadData o s), none)

/-- The last frame of a check: the outcome of R260 (R273). One whose walk has to wait keeps its turn. -/
def decideOp (h : FrameHdr) (need : Need) (runs : List WRun) (s : State) : State × Option InFrame :=
  match checkOp h need runs s with
  | (s, .error none) => (s, some (.check need h runs))
  | (s, .error (some code)) => (reply h 0x11 code need true 0 [] (countPackage 0x10 (dropRecv h need s)), none)
  | (s, .ok rs) =>
    let s := addRecv (newRecv h need runs (some rs)) (countPackage 0x10 (dropRecv h need s))
    if need = .read then runServe h s else (reply h 0x10 0 need true 0 [] s, none)

/-- A frame of a check: runs gather until the last frame (R268). -/
def runCheck (need : Need) (h : FrameHdr) (runs : List WRun) (s : State) : State × Option InFrame :=
  let before := ((s.win.recvs.find? fun o => isOp h o && o.need == need && o.held.isNone).map (·.runs)).getD []
  if h.last then decideOp h need (before ++ runs) (dropRecv h need s)
  else (addRecv (newRecv h need (before ++ runs) none) (dropRecv h need s), none)

/-- A CHECK_ATOMIC whose identity is held is answered DONE at its last frame, and nothing executes again; the identity
stays until that DONE is acknowledged (R274). -/
def runCheckAtomic (h : FrameHdr) (runs : List WRun) (s : State) : State × Option InFrame :=
  if committed s h then
    (if h.last then
      reply h 0x31 0 .atomic true 0 [] { s with win := { s.win with
        history := s.win.history.map fun c =>
          if c.src == h.src && c.serial == h.serial && c.tile == h.tileIndex then
            { c with doneSeq := doneCount s h.src } else c } }
    else s, none)
  else runCheck .atomic h runs s

/-- A DATA frame of an accepted write executes in the pool cache once its lines need no snoop (R273, R280). -/
def takeWrite (h : FrameHdr) (o : RecvOp) (b : Bytes) (s : State) : State × Option InFrame :=
  let parts := pieceParts o h.byteOffset b
  if parts.any fun p => gated s p.1 p.2.length true none then
    runWaits h.src (.data h b) (parts.map fun p => (p.1, p.2.length)) true s
  else
    (modRecv o (fun y => { y with received := y.received + b.length, executed := y.executed + b.length })
      (foldState (fun p s => poolWrite p.1 p.2 false s) parts s), none)

/-- A DATA frame of an accepted reduction is staged; the one that completes the operation executes it once its lines
need no snoop (R273, R280). -/
def takeStage (h : FrameHdr) (o : RecvOp) (b : Bytes) (s : State) : State × Option InFrame :=
  let spans := (poolRuns (o.held.getD [])).map fun r => (r.1, r.2.1)
  let whole : Bool := o.bytes ≤ o.received + b.length
  if whole && spans.any fun r => gated s r.1 r.2 true none then runWaits h.src (.data h b) spans true s
  else
    let y := { o with staged := o.staged ++ [(h.byteOffset, b)], received := o.received + b.length }
    if whole then (commitOp y (runReduction y s), none) else (modRecv o (fun _ => y) s, none)

/-- Take a DATA frame of an accepted operation (R273); one of no held operation is dropped. -/
def runData (h : FrameHdr) (b : Bytes) (s : State) : State × Option InFrame :=
  match recvOf? s h (fun n => n != .read && accessCode n == h.access) with
  | none => (s, none)
  | some o => if o.need = .write then takeWrite h o b s else takeStage h o b s

/-- CANCEL ends the hold of the operation of its access (R273). -/
def runCancel (h : FrameHdr) (s : State) : State :=
  { s with win := { s.win with recvs := s.win.recvs.filter fun o => !(isOp h o && accessCode o.need == h.access) } }

/-- Check or execute one frame. -/
def runFrame (f : InFrame) (s : State) : State × Option InFrame :=
  match f with
  | .check .atomic h runs => runCheckAtomic h runs s
  | .check need h runs => runCheck need h runs s
  | .serve h => runServe h s
  | .data h b => runData h b s
  | .cancel h => (runCancel h s, none)

/-- Check and execute the frames of a pair in their order, up to one that has to wait (R276). -/
def runFrames (p : PackageId) : List InFrame → State → State × List InFrame
  | [], s => (s, [])
  | f :: fs, s =>
    if frameOf f ≠ p then
      match runFrames p fs s with
      | (s, l) => (s, f :: l)
    else match runFrame f s with
      | (s, none) => runFrames p fs s
      | (s, some g) => (s, g :: fs)

/-- Go on with the frames of a pair. -/
def serveInbox (p : PackageId) (s : State) : State :=
  match runFrames p s.win.inbox s with
  | (s, l) => { s with win := { s.win with inbox := l } }

/-- Go on with the frames of every pair. -/
def serveInboxes (s : State) : State := foldState serveInbox ((s.win.inbox.map frameOf).eraseDups) s

/-- A frame of an operation that is accepted takes its place behind the earlier frames of its pair (R276). -/
def takeIn (f : InFrame) (s : State) : State :=
  serveInbox (frameOf f) { s with win := { s.win with inbox := s.win.inbox ++ [f] } }

/-- CHECK_WRITE (R260, R273). -/
def execCheckWrite (h : FrameHdr) (runs : List WRun) (s : State) : Out :=
  .next (withFrame h (takeIn (.check .write h runs)) s)

/-- CHECK_ATOMIC (R260, R273, R274). -/
def execCheckAtomic (h : FrameHdr) (runs : List WRun) (s : State) : Out :=
  .next (withFrame h (takeIn (.check .atomic h runs)) s)

/-- READ_REQ (R273). -/
def execReadReq (h : FrameHdr) (runs : List WRun) (s : State) : Out :=
  .next (withFrame h (takeIn (.check .read h runs)) s)

/-- DATA (R273). -/
def execData (h : FrameHdr) (b : Bytes) (s : State) : Out := .next (withFrame h (takeIn (.data h b)) s)

/-- CANCEL (R273). -/
def execCancel (h : FrameHdr) (s : State) : Out := .next (withFrame h (takeIn (.cancel h)) s)

/-- The accepted write operation of these names. -/
def writeOp? (s : State) (src : PackageId) (w : WindowId) (serial : U32) (tile : Nat) : Option RecvOp :=
  s.win.recvs.find? fun o => o.src == src && o.window == w && o.serial == serial && o.tile == tile &&
    o.need == .write && o.held.isSome

/-- WINDOW_DATA_EXECUTED: every byte of an operation has executed, and DONE is sent; frames that waited go on first
(R273). -/
def dataExecuted (src : PackageId) (w : WindowId) (serial : U32) (tile : Nat) (s : State) : State :=
  let s := serveInbox src s
  match writeOp? s src w serial tile with
  | none => s
  | some o => if o.bytes ≤ o.executed then replyOp o 0x31 true (endRecv o s) else s

def execWindowDataExecuted (src : PackageId) (w : WindowId) (serial : U32) (tile : Nat) (s : State) : Out :=
  .next (dataExecuted src w serial tile s)

/-! ### Answers at the sender (R273, R275, R276) -/

/-- The operation at the sender that an answer names, among those that `p` admits. -/
def sendOp? (s : State) (h : FrameHdr) (p : SendOp → Bool) : Option SendOp :=
  s.win.sends.find? fun o => o.peer == h.src && o.window == h.window && o.serial == h.serial &&
    o.tile == h.tileIndex && accessCode o.need == h.access && p o

def modSend (o : SendOp) (f : SendOp → SendOp) (s : State) : State :=
  { s with win := { s.win with sends := s.win.sends.map fun x => if x == o then f x else x } }

/-- ACCEPT (R273). -/
def execAccept (h : FrameHdr) (s : State) : Out :=
  .next (withFrame h (fun s => match sendOp? s h (fun o => o.phase == 0 && o.need != .read) with
    | some o => modSend o (fun x => { x with phase := 1 }) s
    | none => s) s)

/-- A tile one of whose operations is denied faults at once where the denial is the first thing that it meets in the
order of R232; else its engine finds it in its turn. -/
def denialFaults (c : CtxId) (q : Nat) (s : State) : State :=
  match cmd? s c q, ctx? s c with
  | some x, some cx =>
    (match x.xfer with
    | some y => (match y.tile with
      | some t =>
        if t.begun || !mayIssue s c || packageHeld s || !runsHeld s (t.src ++ t.dst) then s
        else match tileMeets s x y cx.fn t with
          | some (side, .faults code va) => tileStops x side code va (denyOf s x (sideNeed x.raw side) va) s
          | _ => s
      | none => s)
    | none => match (opsOfCmd s c q).findSome? fun o => o.denied.map (·.2) with
      | some va => if mayIssue s c && !packageHeld s then windowBarred x cx va .write s else s
      | none => s)
  | _, _ => s

/-- A DENY other than BUSY of an operation. The operand of a command without tiles faults at once, or, for a
fixed-schedule context, in its next issue window (R275; 10, R318). -/
def denyTaken (h : FrameHdr) (o : SendOp) (s : State) : State :=
  let d := { o with phase := 5, denied := some (h.code, opVa s o) }
  denialFaults o.ctx o.q (modSend o (fun _ => d) s)

/-- A DENY is counted for the function of its operation; for one that names no operation, the function is free
(R275). -/
def countDeny (o : Option SendOp) (s : State) : State :=
  match o.bind fun o => ctx? s o.ctx with
  | some cx => countFn cx.fn 0x0F s
  | none => countFn (fun5 (Config.choice s.draws 32)) 0x0F (draw s)

/-- A DENY arrives (R275). -/
def denyArrives (h : FrameHdr) (s : State) : State :=
  let o := sendOp? s h (fun o => o.phase == 0)
  let s := countDeny o s
  match o with
  | none => s
  | some o =>
    if h.code = dcodeOf .busy then modSend o (fun y => { y with phase := 4, since := s.gtc }) s
    else denyTaken h o s

/-- DENY (R275). -/
def execDeny (h : FrameHdr) (s : State) : Out := .next (withFrame h (denyArrives h) s)

/-- A poisoned line of a window read loses the context; a fixed-schedule context's is held until its next issue window
(R261; 07, R235; 10, R318). -/
def poisonArrives (o : SendOp) (s : State) : State :=
  if mayIssue s o.ctx then enter (.poison o.ctx o.q (opVa s o)) s
  else { s with det := { s.det with arrivals := s.det.arrivals ++ [.poison o.ctx o.q (opVa s o)] } }

/-- Read data arrives (R261, R273; 07, R235). -/
def takeReadData (h : FrameHdr) (b : Bytes) (s : State) : State :=
  match sendOp? s h (fun o => o.phase == 0 && o.need == .read) with
  | none => s
  | some o =>
    if h.code = 0x80 then poisonArrives o s
    else modSend o (fun x => { x with
      got := overlay x.got h.byteOffset b, phase := if h.last then 3 else 0 }) s

/-- READ_DATA (R273). -/
def execReadData (h : FrameHdr) (b : Bytes) (s : State) : Out := .next (withFrame h (takeReadData h b) s)

/-- A DONE arrives. On the loopback it acknowledges itself: the identity of its reduction leaves the history (R274),
DESIGN CHOICE. -/
def doneArrives (h : FrameHdr) (s : State) : State :=
  let s := if h.src == s.win.localId && h.access == 3 then { s with win := { s.win with
      history := s.win.history.filter fun c =>
        !(c.src == h.src && c.serial == h.serial && c.tile == h.tileIndex) } } else s
  match sendOp? s h (fun o => o.need != .read && o.phase != 3) with
  | some o => modSend o (fun x => { x with phase := 3, denied := none }) s
  | none => s

/-- DONE (R274, R276). -/
def execDone (h : FrameHdr) (s : State) : Out := .next (withFrame h (doneArrives h) s)

/-- DENY_BUSY_RETRY: PaldarRetryNs has passed since a BUSY (R275). -/
def execDenyBusyRetry (p : PackageId) (w : WindowId) (serial : U32) (tile : Nat) (s : State) : Out :=
  .next (match s.win.sends.find? fun o => o.peer == p && o.window == w && o.serial == serial && o.tile == tile &&
      o.phase == 4 && retryCounts s ≤ since s o.since with
    | some o => (match cmd? s o.ctx o.q with
      | some x => sendCheck o x (modSend o (fun y => { y with phase := 0 }) s)
      | none => s)
    | none => s)

/-! ### What ends a wait (R206, R210, R218, R280) -/

/-- Walks, snoops, scrubs and leases that have ended let what waited for them go on: lookups at the edge, held lease
requests and the frames of window operations. -/
def wake (s : State) : State := serveInboxes (retryLeases (serveStalled s))

/-- WALK_NODE_READ_DONE: a walk in flight, among the first 512 of its group, has its node (R203, R206). -/
def execWalkNodeReadDone (walk : Nat) (s : State) : Out :=
  .next (match s.trans.walks.find? fun w => w.id == walk with
    | some w =>
      if ((groupWalks s w.group).take 512).any (fun x => x.id == walk) && !packageHeld s then
        wake (walkStep w s)
      else s
    | none => s)

/-- REVOKE_ACK: the revoked lease of a slot ends (R218). -/
def execRevokeAck (cluster slot : Nat) (s : State) : Out :=
  .next (wake (leasesEnded { s with trans := { s.trans with
    leases := s.trans.leases.filter fun l => !(l.cluster == cluster && l.slot == slot && !l.revoking.isEmpty) } }))

/-- LEASE_RELEASE: the lease of a slot ends at once (R218). -/
def execLeaseRelease (cluster slot : Nat) (s : State) : Out :=
  .next (wake (leasesEnded { s with trans := { s.trans with
    leases := s.trans.leases.filter fun l => !(l.cluster == cluster && l.slot == slot) } }))

/-- WALKER_GROUP_ENABLE_WRITE: a group that is switched off finishes its walks and takes no new miss (R207,
R223). -/
def execWalkerGroupEnableWrite (rq : Requester) (v : U8) (s : State) : Out :=
  .next (requestWrite rq ⟨0x3000, 3⟩ (.num v.toNat) (fun _ => none)
    (putObj ⟨0x3000, 3⟩ (.num v.toNat)) s)

end Sys2Proof.Machine
end

