-- ==== Sys2Proof/Machine/WindowAdmin.lean ====
section
/-!
DEFINITION. Opening, closing and changing windows (08_windows_coherence, R262 to R265).
-/
namespace Sys2Proof.Machine

/-- A WindowRequest as the 32 bytes that carry it (R262). -/
def winBytes (r : WinRequest) (op : Nat) : Bytes :=
  leBytes 8 (r.tag.toNat * 2 ^ 32 + r.window.toNat * 2 ^ 16 + op % 256) ++ leBytes 8 r.table.toNat
    ++ leBytes 8 (r.root % 2 ^ 40)
    ++ leBytes 8 (bit r.atomic 58 + bit r.write 57 + bit r.read 56 + r.mask.toNat * 2 ^ 12 + r.srcMatch.toNat)

/-- WindowRequestResult (R262). -/
def winResult (r : WinRequest) (op status : Nat) : U64 :=
  w64 (r.tag.toNat * 2 ^ 32 + r.window.toNat * 2 ^ 16 + op % 256 * 2 ^ 8 + status)

def setResult (g : Fun) (r : WinRequest) (op status : Nat) (s : State) : State :=
  modFn g (fun f => { f with winResult := winResult r op status }) s

/-- The previous request of a sub-table is PENDING (R262). -/
def resultPending (s : State) (g : Fun) : Bool := (getFn s g).winResult.toNat % 256 == 1

/-- A pending request for a window with an Op ends OK. -/
def resultOk (g : Fun) (w : WindowId) (op : Nat) (s : State) : State :=
  let v := (getFn s g).winResult.toNat
  if v % 256 = 1 && field v 31 16 == w.toNat && field v 15 8 == op then
    modFn g (fun f => { f with winResult := w64 (v - 1) }) s
  else s

/-- Windows of a function that are OPEN or CLOSING (R262, R285). -/
def windowsOf (s : State) (g : Fun) : Nat := (s.win.table.filter fun e => e.2.owner == g).length

/-- Insert a window by rising WindowId. -/
def insertWin (w : WindowId) (x : Win) : List (WindowId × Win) → List (WindowId × Win)
  | [] => [(w, x)]
  | e :: l => if w.toNat < e.1.toNat then (w, x) :: e :: l else e :: insertWin w x l

def modWin (w : WindowId) (f : Win → Win) (s : State) : State :=
  { s with win := { s.win with
    table := s.win.table.map fun e => if e.1 == w then (e.1, f e.2) else e } }

/-- Status of OPEN (R262). The order of the refusals is a DESIGN CHOICE. -/
def openStatus (s : State) (g : Fun) (r : WinRequest) : Nat :=
  if r.root % 4096 != 0 then 0x07
  else if (win? s r.window).isSome then 0x02
  else if objNum s (0x6100 + g.val) 1 ≤ windowsOf s g then 0x04
  else match liveObj s r.table.toNat with
    | none => 0x05
    | some o => if o.owner ≠ g then 0x06 else if o.bytes ≤ r.root then 0x07 else 0x00

/-- OPEN (R262). -/
def openWindow (g : Fun) (r : WinRequest) (s : State) : State :=
  let st := openStatus s g r
  let s := setResult g r 1 st s
  if st ≠ 0 then s
  else { s with win := { s.win with
    table := insertWin r.window ⟨.opened, g, r.table, r.root, r.read, r.write, r.atomic, r.srcMatch, r.mask⟩
      s.win.table } }

/-- The window is OPEN and belongs to the function (R262, NOT_OPEN). -/
def openFor (s : State) (g : Fun) (w : WindowId) : Bool :=
  (win? s w).any fun x => x.state == .opened && x.owner == g

/-- CLOSE: every later check is denied, and the window closes once earlier holds have ended (R263). -/
def closeWindow (g : Fun) (r : WinRequest) (s : State) : State :=
  if openFor s g r.window then
    setResult g r 2 1 (modWin r.window (fun x => { x with state := .closing }) s)
  else setResult g r 2 3 s

/-- MODIFY (R262). -/
def modifyWindow (g : Fun) (r : WinRequest) (s : State) : State :=
  if openFor s g r.window then
    setResult g r 3 0 (modWin r.window (fun x => { x with
      read := r.read, write := r.write, atomic := r.atomic, srcMatch := r.srcMatch, mask := r.mask }) s)
  else setResult g r 3 3 s

/-- REFRESH: the operations accepted so far are marked, and the drop waits for them (R262). -/
def refreshWindow (g : Fun) (r : WinRequest) (s : State) : State :=
  if openFor s g r.window then
    setResult g r 4 1 { s with win := { s.win with
      refreshing := s.win.refreshing ++ [(g, r.window)]
      recvs := s.win.recvs.map fun o => if o.window == r.window && o.held.isSome then { o with old := true } else o } }
  else setResult g r 4 3 s

/-- What a WindowRequest of an Op does (R262). -/
def winRequest (g : Fun) (r : WinRequest) (op : Nat) (s : State) : State :=
  match op with
  | 1 => openWindow g r s
  | 2 => closeWindow g r s
  | 3 => modifyWindow g r s
  | 4 => refreshWindow g r s
  | _ => setResult g r op 7 s

/-- A WindowRequest is refused while the previous one is PENDING (R262). -/
def winRefused (g : Fun) (s : State) : Option EStatus := if resultPending s g then some .busy else none

/-- A write of WindowRequest in a function's sub-table (R262). -/
def writeRequest (rq : Requester) (g : Fun) (r : WinRequest) (op : Nat) (s : State) : State :=
  requestWrite rq ⟨0x6100 + g.val, 3⟩ (.bytes (winBytes r op)) (winRefused g) (winRequest g r op) s

/-- WINDOW_OPEN (R262). -/
def execWindowOpen (rq : Requester) (g : Fun) (r : WinRequest) (s : State) : Out := .next (writeRequest rq g r 1 s)

/-- WINDOW_CLOSE (R263). -/
def execWindowClose (rq : Requester) (g : Fun) (r : WinRequest) (s : State) : Out := .next (writeRequest rq g r 2 s)

/-- WINDOW_MODIFY (R262). -/
def execWindowModify (rq : Requester) (g : Fun) (r : WinRequest) (s : State) : Out := .next (writeRequest rq g r 3 s)

/-- WINDOW_REFRESH (R262). -/
def execWindowRefresh (rq : Requester) (g : Fun) (r : WinRequest) (s : State) : Out := .next (writeRequest rq g r 4 s)

/-- WINDOW_REQUEST_BAD_OP: an undefined Op is BAD_FIELD (R262). -/
def execWindowRequestBadOp (rq : Requester) (g : Fun) (r : WinRequest) (s : State) : Out :=
  .next (if 1 ≤ r.op % 256 && r.op % 256 ≤ 4 then s else writeRequest rq g r (r.op % 256) s)

/-- Drop the unlocked range-store entries of a window. Its walks in flight are stale: they install nothing and walk
again from the anchor (R262 to R264). -/
def dropWindowEntries (w : WindowId) (s : State) : State :=
  scanBank (bankOf s (.win w)) (.window w) (.window w) { s with trans := { s.trans with
    walks := s.trans.walks.map fun x => if walkStale s (.window w) x then { x with stale := true } else x } }

/-- A CLOSING window whose accepted operations have ended becomes CLOSED, its entries dropped (R263). -/
def closeDone (w : WindowId) (s : State) : State :=
  match win? s w with
  | none => s
  | some x =>
    if x.state ≠ .closing || (s.win.recvs.any fun o => o.window == w && o.held.isSome) then s
    else
      let s := dropWindowEntries w s
      let s := foldState (fun e s => resultOk e.1 w 4 s) (s.win.refreshing.filter fun e => e.2 == w) s
      resultOk x.owner w 2 { s with win := { s.win with
        table := s.win.table.filter fun e => e.1 != w
        refreshing := s.win.refreshing.filter fun e => e.2 != w } }

/-- WINDOW_CLOSE_DONE (R263). -/
def execWindowCloseDone (w : WindowId) (s : State) : Out := .next (closeDone w s)

/-- WINDOW_REFRESH_DONE: the operations accepted before the request have ended their holds (R262). -/
def refreshDone (w : WindowId) (s : State) : State :=
  match s.win.refreshing.find? fun e => e.2 == w with
  | none => s
  | some e =>
    if s.win.recvs.any fun o => o.window == w && o.old then s
    else
      let s := dropWindowEntries w s
      resultOk e.1 w 4 { s with win := { s.win with
        refreshing := s.win.refreshing.filter fun y => y.2 != w } }

def execWindowRefreshDone (w : WindowId) (s : State) : Out := .next (refreshDone w s)

/-- WindowInfo: the window that WindowQueryId names, CLOSED where the function does not own it (R265). -/
def windowInfo (s : State) (g : Fun) : Bytes :=
  let w : WindowId := BitVec.ofNat 16 (objNum s (0x6100 + g.val) 5)
  match (win? s w).filter fun x => x.owner == g with
  | none => List.replicate 32 0
  | some x =>
    leBytes 8 (w.toNat * 2 ^ 16 + (match x.state with | .closed => 0 | .opened => 1 | .closing => 2))
      ++ (winBytes ⟨0, w, 0, x.table, x.root, x.atomic, x.write, x.read, x.mask, x.srcMatch⟩ 0).drop 8

end Sys2Proof.Machine
end

