-- ==== Sys2Proof/Machine/Coherence.lean ====
section
/-!
DEFINITION. Coherent windows and the snoop filter (08_windows_coherence, R278 to R283).
-/
namespace Sys2Proof.Machine

def cohOf (s : State) (n : Nat) : CohState × CohRefusal := s.win.coh.getD n (.off, .none)

def setCoh (n : Nat) (x : CohState × CohRefusal) (s : State) : State :=
  { s with win := { s.win with coh := s.win.coh.set n x } }

/-- Object and aperture base of a coherent window (R278, R285). -/
def cohHandle (s : State) (n : Nat) : Nat := objNum s (0x6010 + n) 1
def cohBase (s : State) (n : Nat) : Nat := objNum s (0x6010 + n) 2

/-- The object of a window, also while its free is under way (R282). -/
def cohObj (s : State) (n : Nat) : Option MemObj :=
  s.obj.objs.find? fun o => (objHandle o).toNat == cohHandle s n

/-- The ON windows but one: aperture base and bytes. -/
def cohOn (s : State) (but : Nat) : List (Nat × Nat) :=
  (List.range 64).filterMap fun n =>
    if n != but && (cohOf s n).1 == .on then (cohObj s n).map fun o => (cohBase s n, o.bytes) else none

/-- Why a coherent window is refused, in the order of R278. -/
def cohRefused (s : State) (n : Nat) : CohRefusal :=
  match liveObj s (cohHandle s n) with
  | none => .notLive
  | some o =>
    let on := cohOn s n
    if portOf o.owner ≠ 0 then .notPort0
    else if o.fence then .fenceObject
    else if 2 ^ 38 < (on.map (·.2)).foldl (· + ·) 0 + o.bytes then .overLimit
    else if on.any fun w => spansMeet w.1 w.2 (cohBase s n) o.bytes then .overlap
    else .none

/-- CohEnable 1: the window opens, or is refused (R278). A window that is ON or CLOSING is left alone. -/
def enableCoh (n : Nat) (s : State) : State :=
  let s := putObj ⟨0x6010 + n, 3⟩ (.num 1) s
  if (cohOf s n).1 == .on || (cohOf s n).1 == .closing then s
  else match cohRefused s n with
    | .none => setCoh n (.on, .none) s
    | r => setCoh n (.refused, r) s

/-- COH_ENABLE (R278). -/
def execCohEnable (rq : Requester) (n : Fin 64) (s : State) : Out :=
  .next (requestWrite rq ⟨0x6010 + n.val, 3⟩ (.num 1) (fun _ => none) (enableCoh n.val) s)

/-- The tracked lines of a window. -/
def cohLines (s : State) (n : Nat) : List Line :=
  match cohObj s n with
  | some o => s.win.filter.filter fun l => o.base ≤ l.address && l.address < o.base + o.bytes
  | none => []

/-- Recall an owned line, or invalidate the copies of a line (R280, R282). -/
def dropLine (i : ErrInfo) (l : Line) (s : State) : State :=
  foldState (fun d s => sendSnoop i d l.address (!l.owned) s) l.dies s

/-- Capture fields of the closing of a window, which management has asked for, and of a die's access (12, R380). -/
def closingInfo : ErrInfo := { kind := 9, access := 7 }
def dieInfo (d : Die) (write : Bool) : ErrInfo := { kind := 7, unit := d.val, access := if write then 2 else 1 }

/-- CohEnable 0: an ON window goes to CLOSING and its lines are recalled and invalidated; a REFUSED one is OFF
(R282). -/
def disableCoh (n : Nat) (s : State) : State :=
  let s := putObj ⟨0x6010 + n, 3⟩ (.num 0) s
  match (cohOf s n).1 with
  | .on => foldState (dropLine closingInfo) (cohLines s n) (setCoh n (.closing, .none) s)
  | .refused => setCoh n (.off, .none) s
  | _ => s

/-- COH_DISABLE (R282). -/
def execCohDisable (rq : Requester) (n : Fin 64) (s : State) : Out :=
  .next (requestWrite rq ⟨0x6010 + n.val, 3⟩ (.num 0) (fun _ => none) (disableCoh n.val) s)

/-- COH_CLOSE_DONE: with no tracked line left the window is OFF; else the lines that are left are recalled or
invalidated (R282). -/
def execCohCloseDone (n : Fin 64) (s : State) : Out :=
  .next (if (cohOf s n.val).1 == .closing then
    match cohLines s n.val with
    | [] => setCoh n.val (.off, .none) s
    | l => foldState (dropLine closingInfo) l s
  else s)

/-! ### Accesses of the processor dies (R279, R280) -/

/-- The window whose aperture holds an address: its number, object and state (R279). None serves in the fatal state (12,
R387). -/
def apertureAt (s : State) (a : Nat) : Option (Nat × MemObj) :=
  (List.range 64).findSome? fun n =>
    if s.err.pkg == .fatal then none
    else if (cohOf s n).1 == .on || (cohOf s n).1 == .closing then
      (cohObj s n).bind fun o =>
        if cohBase s n ≤ a && a < cohBase s n + o.bytes && (getFn s o.owner).cfg.command.getLsbD 1 then
          some (n, o)
        else none
    else none

/-- Entries of the snoop filter (R285). -/
def filterEntries : Nat := 8388608

/-- Track a line that a die has read or written: a write makes the die its owner (DEDUCED), a read adds a SHARED
copy (R280). -/
def trackLine (d : Die) (write : Bool) (a : Nat) (s : State) : State :=
  match s.win.filter.find? fun l => l.address == a with
  | some _ =>
    { s with win := { s.win with
      filter := s.win.filter.map fun l =>
        if l.address == a then
          (if write then { l with owned := true, dies := [d] }
           else { l with dies := if l.dies.contains d then l.dies else l.dies ++ [d] })
        else l } }
  | none => { s with win := { s.win with filter := s.win.filter ++ [⟨a, write, [d]⟩] } }

/-- Lines of an access that are not tracked and need a place in the filter (R280). -/
def newLines (s : State) (ls : List Nat) : List Nat := ls.filter fun a => !(s.win.filter.any fun l => l.address == a)

/-- Bytes of a coherent access. -/
def cohBytes : CohAccess → Nat
  | .read n => n
  | .write b => b.length

def cohWrites : CohAccess → Bool
  | .read _ => false
  | .write _ => true

/-- Execute a coherent access that no snoop holds, and track its lines where the window is ON (R279 to R282; 09,
R301). -/
def runCoherent (d : Die) (on : Bool) (a : Nat) (x : CohAccess) (s : State) : State :=
  let s := match x with
    | .read n =>
      let bad := poisoned s a n
      let s := if bad then countPackage 0x17 s else s
      emit (.completion 0 .success bad (poolBytes s a n)) s
    | .write b => poolWrite a b false s
  if on then foldState (trackLine d (cohWrites x)) (linesOf a (cohBytes x)) s else s

/-- Try a coherent access: whether it has executed, and the state. A full filter evicts its oldest entry first
(R280). -/
def tryCoherent (d : Die) (addr : Nat) (x : CohAccess) (s : State) : State × Bool :=
  match apertureAt s addr with
  | none => (s, false)
  | some (n, o) =>
    let a := o.base + (addr - cohBase s n)
    let on := (cohOf s n).1 == .on
    let len := cohBytes x
    let i := dieInfo d (cohWrites x)
    if gated s a len (cohWrites x) (some d) then (gateSnoops i a len (cohWrites x) (some d) s, false)
    else if on && filterEntries < s.win.filter.length + (newLines s (linesOf a len)).length then
      ((match s.win.filter.head? with
        | some l => dropLine i l s
        | none => s), false)
    else (runCoherent d on a x s, true)

/-- A Memory Read or Write that arrives on port 0 outside the BARs: served through an aperture, or handled by R63
(R279). The function that reports an unsupported request is function 0: DESIGN CHOICE. -/
def coherentAccess (d : Die) (addr : Nat) (x : CohAccess) (s : State) : State :=
  match apertureAt s addr with
  | none =>
    let s := if s.err.pkg = .fatal then s else aerUncorrectable 0 20 s
    (match x with
    | .read _ => emit (.completion 0 .unsupported false []) s
    | .write _ => s)
  | some _ =>
    match tryCoherent d addr x s with
    | (s, true) => s
    | (s, false) => { s with win := { s.win with waiting := s.win.waiting ++ [(d, w64 addr, x)] } }

/-- COHERENT_ACCESS (R279). -/
def execCoherentAccess (d : Die) (addr : U64) (x : CohAccess) (s : State) : Out :=
  .next (coherentAccess d addr.toNat x s)

/-! ### Snoops (R281) -/

/-- Give the waiting accesses another try, in the order of arrival; one whose window is gone is handled by R63. -/
def retryWaiting : List (Die × U64 × CohAccess) → State → State
  | [], s => s
  | w :: ws, s =>
    match apertureAt s w.2.1.toNat with
    | none => retryWaiting ws (coherentAccess w.1 w.2.1.toNat w.2.2 s)
    | some _ =>
      match tryCoherent w.1 w.2.1.toNat w.2.2 s with
      | (s, true) => retryWaiting ws s
      | (s, false) => retryWaiting ws { s with win := { s.win with waiting := s.win.waiting ++ [w] } }

/-- What a snoop's answer does to its line: a recall leaves a SHARED copy, an invalidation none (R280). -/
def answerLine (d : Die) (inv : Bool) (l : Line) : Line :=
  if inv then { l with owned := false, dies := l.dies.filter (· != d) } else { l with owned := false }

/-- A die answers a snoop; recalled data is written to the pool cache (R280, R281). -/
def snoopAck (d : Die) (line : Nat) (data : Option Bytes) (s : State) : State :=
  match s.win.snoops.find? fun x => x.die == d && x.line == line with
  | none => s
  | some x =>
    let s := { s with win := { s.win with
      snoops := s.win.snoops.filter (· != x)
      filter := (s.win.filter.map fun l => if l.address == line then answerLine d x.invalidate l else l).filter
        fun l => !l.dies.isEmpty } }
    let s := match data with
      | some b => if x.invalidate then s else poolWrite line (padTo 64 b) false s
      | none => s
    wake (retryWaiting s.win.waiting { s with win := { s.win with waiting := [] } })

/-- SNOOP_ACK (R281). -/
def execSnoopAck (d : Die) (line : Nat) (data : Option Bytes) (s : State) : Out :=
  .next (snoopAck d line data s)

/-- SNOOP_TIMEOUT: a snoop has been unanswered for 100 µs; it raises an error once, which names the access that waits
and the pool line (R281; 12, R376, R380). -/
def execSnoopTimeout (d : Die) (line : Nat) (s : State) : Out :=
  .next (match s.win.snoops.find? fun x => x.die == d && x.line == line && !x.late && 125000 ≤ since s x.since with
    | some x =>
      raiseError .snoopTimeout { x.master with address := w64 line, addressKind := 1 }
        { s with win := { s.win with
          snoops := s.win.snoops.map fun y => if y == x then { y with late := true } else y } }
    | none => s)

end Sys2Proof.Machine
end

