-- ==== Sys2Proof/Machine/Pool.lean ====
section
/-!
DEFINITION. The memory-side island's own work (09_memory_pool): stack reads, row remaps, poison and mirrors (R298
to R304), scrubs (R306, R307), repair and margining (R309, R310).
-/
namespace Sys2Proof.Machine

/-- Capture fields of an error on a pool line (12, R380). -/
def lineInfo (s : State) (line : Nat) (reader : LineReader) : ErrInfo :=
  let i : ErrInfo := { kind := 8, address := w64 line, addressKind := 1, access := 1 }
  match reader with
  | .context c => { i with ctx := some c, fn := (ctx? s c).map (·.fn) }
  | _ => i

/-- RowCeThreshold (R299). -/
def rowThreshold (s : State) : Nat := objNum s 0x5000 7

/-- Count a corrected read against its row; the tracker of a stack holds 4,096 rows and replaces the least recently
counted (R299). -/
def trackRow (row : Nat) (s : State) : State :=
  let n := (assocGet s.pool.tracker row).getD 0 + 1
  let others := s.pool.tracker.filter fun t => t.1 != row
  let mine := others.filter fun t => stackOf t.1 == stackOf row
  let keep := if 4096 ≤ mine.length then others.filter fun t => some t != mine.getLast? else others
  let s := { s with pool := { s.pool with tracker := (row, n) :: keep } }
  if rowThreshold s ≤ n then (startRemap row [] [] s).1 else s

/-- A line may be poisoned: it lies in an object or in an EXTENT region (R300). -/
def poisonable (s : State) (line : Nat) : Bool :=
  (s.obj.objs.any fun o => o.base ≤ line && line < o.base + o.bytes) ||
    (regionAt s line).any fun r => r.kind == .extent

def inCarveOut (s : State) (line : Nat) : Bool := (regionAt s line).any fun r => r.kind == .carveOut

/-- The command of a context that reads a line: the first whose tile or work is under way. -/
def readerCmd (s : State) (c : CtxId) (line : Nat) : Option Cmd :=
  s.cmd.table.find? fun x => x.ctx == c && x.stage == .dispatched &&
    match x.xfer.bind (·.tile) with
    | some t => (poolRuns t.src).any fun r => spansMeet r.1 r.2.1 line 64
    | none => x.xfer.isNone

/-- A context reads a poisoned line (R301). -/
def readPoison (line : Nat) (reader : LineReader) (s : State) : State :=
  match reader with
  | .context c =>
    if s.pool.poison.contains line then
      let cause := (readerCmd s c line).toList
      loseContext c .poisonedData (cause.map fun x => (x.q, CStatus.poisonedData)) 0 (lineInfo s line reader)
        (countPackage 0x17 s)
    else s
  | _ => s

/-- The lines of a row that have a second copy, each with its address (R303). -/
def rowCopies (s : State) (row : Nat) : List (Nat × Nat) :=
  (linesOf row 2048).filterMap fun l => (copiesOf s l).map fun m => (l, m)

/-- The row of a bad copy is remapped from the good one, or logged where no spare is free; where it is being copied
already, the copy takes the bad line from the good copy (R303, R304, R311). -/
def remapFrom (row : Nat) (from_ bad : List (Nat × Nat)) (s : State) : State :=
  let r := startRemap row from_ bad s
  if r.2 then r.1 else logRow row r.1

/-- A mirrored line whose primary copy is bad and whose second copy, at `m`, is good is served from that one, and the
primary row is remapped from the second copies (R303). -/
def serveMirror (line m : Nat) (i : ErrInfo) (s : State) : State :=
  remapFrom (rowBase line) (rowCopies s (rowBase line)) [(line, m)]
    (raiseError .poolMirrorServed i (countPackage 0x16 s))

/-- A second copy, at `m`, is bad while the line is good: the row of the second copy is remapped from the primary
(R304). -/
def mendMirror (line m : Nat) (s : State) : State :=
  remapFrom (rowBase m) ((rowCopies s (rowBase line)).map fun x => (x.2, x.1)) [(m, line)] s

/-- Both copies of a line are bad: the carve-out is lost, a line of an object is poisoned with both rows logged
(R300, R304, R311). -/
def loseCopies (line mirror : Nat) (i : ErrInfo) (s : State) : State :=
  if inCarveOut s line then raiseError .carveOutLost i s
  else logRow (rowBase mirror) (poisonLine line i s)

/-- A stack read of a line, or of its second copy, under the line's key slot (R297). -/
def stackRead (line copy : Nat) (s : State) : State :=
  emit (.stackLine false copy (servedAt s copy) (keySlot s line)) s

/-- A line is read from its stack, and its second copy where the first is bad or the copy itself is being read
(R298 to R304). -/
def fetchLine (line : Nat) (primary mirror : LineCheck) (i : ErrInfo) (s : State) : State :=
  let s := stackRead line line s
  match primary, copiesOf s line with
  | .uncorrectable, some m =>
    let s := stackRead line m (countPackage 0x15 s)
    (match mirror with
    | .uncorrectable => loseCopies line m i (countPackage 0x15 s)
    | .corrected => trackRow (rowBase m) (countPackage 0x14 (serveMirror line m i s))
    | .clean => serveMirror line m i s)
  | .uncorrectable, none =>
    let s := countPackage 0x15 s
    if poisonable s line then poisonLine line i s else s
  | good, copy =>
    let s := match good with
      | .corrected => trackRow (rowBase line) (countPackage 0x14 s)
      | _ => s
    match copy, mirror with
    | some m, .uncorrectable => mendMirror line m (countPackage 0x15 (stackRead line m s))
    | some m, .corrected => trackRow (rowBase m) (countPackage 0x14 (stackRead line m s))
    | _, _ => s

/-- The pool cache's copy of a line cannot be corrected. A clean line is fetched again from its stack; a dirty line is
lost with its data, and a mirror does not help it (R298). A dirty line of the carve-out is lost as when both copies
are: DEDUCED. -/
def cacheFails (line : Nat) (primary mirror : LineCheck) (i : ErrInfo) (s : State) : State :=
  if (assocGet s.pool.stale line).isNone then fetchLine line primary mirror i s
  else
    let s := countPackage 0x15 s
    if inCarveOut s line then raiseError .carveOutLost i s
    else if poisonable s line then poisonLine line i s else s

/-- A line is read: from its stack, or from the pool cache where its copy there has failed (R298). -/
def lineRead (line : Nat) (cacheBad : Bool) (primary mirror : LineCheck) (reader : LineReader) (s : State) : State :=
  let i := lineInfo s line reader
  readPoison line reader
    (if cacheBad then cacheFails line primary mirror i s else fetchLine line primary mirror i s)

/-- POOL_LINE_READ (R298). -/
def execPoolLineRead (line : Nat) (cacheBad : Bool) (checks : CopyChecks) (reader : LineReader) (s : State) : Out :=
  .next (lineRead (lineOf line) cacheBad checks.primary checks.mirror reader s)

/-- The copy of a line of a row to the spare at `x`: read from the row in use, or from its second copy, and written
under the line's own logical address (R297, R299, R303). -/
def copyToSpare (m : Remap) (line : Nat) (s : State) : State :=
  let slot := keySlot s line
  let source := (assocGet m.fromCopy line).getD line
  emit (.stackLine true line (m.spare + line % 2048) slot) (emit (.stackLine false source (servedAt s source) slot) s)

/-- The copy of a row to its spare has ended, its 32 lines read and written: the remap is ACTIVE, and the spare that now
serves the row has no corrected reads counted yet (R299). -/
def remapDone (row : Nat) (s : State) : State :=
  match s.pool.remaps.find? fun m => m.row == row && m.copying with
  | some m =>
    let s := foldState (copyToSpare m) (linesOf row 2048) s
    raiseError .poolRowRemapped { kind := 8, address := w64 row, addressKind := 1, access := 7 }
      { s with pool := { s.pool with
        tracker := s.pool.tracker.filter fun t => t.1 != row
        remaps := (s.pool.remaps.filter fun m => m.row != row || m.copying).map fun m =>
          if m.row == row then { m with copying := false, fromCopy := [] } else m } }
  | none => s

/-- ROW_REMAP_COPY_DONE (R299). -/
def execRowRemapCopyDone (row : Nat) (s : State) : Out := .next (remapDone row s)

/-! ### Scrubs (R306, R307) -/

/-- One step of a scrub (R306). With the last step of a function's scrub duty, what waited for its extent goes on
(13, R411). -/
def scrubStep (base : Nat) (extent : Bool) (s : State) : State :=
  match s.pool.scrubs.find? (scrubAt base extent) with
  | none => s
  | some x =>
    let s := scrubSome x s
    if x.bytes ≤ x.done + scrubBytes x && x.extent then wake s else s

/-- A step of the memory-side island: of a FLUSH or an INVALIDATE, or of a scrub. What waits for the island when it
ends is served before the next step (R306; 05, R183). -/
def memStep (op : StepOp) (s : State) : State :=
  match op with
  | .cmd c q => memCmdStep c q s
  | .scrub b e => memStepped (scrubStep b e (serveStep .memorySide (memSteps s) op s))

/-- SCRUB_STEP: the step of a scrub whose turn it is (R306). -/
def execScrubStep (s : State) : Out :=
  .next (match memNext s with
    | some (.scrub b e) => memStep (.scrub b e) s
    | _ => s)

/-! ### The end of a step (05, R182, R183) -/

/-- The memory-side island goes on: with what was waiting when its last step ended, else with the next step (05, R183). -/
def memTurn (s : State) : State :=
  match memOwedNow s with
  | k :: _ => memServe k s
  | [] => match memNext s with
    | some op => memStep op s
    | none => s

/-- A unit ends a step and takes the next one. The step of an engine ends before its bound, and the engine's next turn
serves what was waiting; the stages of a mode change are rows of their own. -/
def unitStepEnd (u : StepUnit) (s : State) : State :=
  match u with
  | .engine e => modEngine e (stepOver s) s
  | .memorySide => memTurn s
  | .digestEngine n => digestStep n s
  | .walkerGroup b => finishScan b s
  | .command => s

/-- UNIT_STEP_END (R183). -/
def execUnitStepEnd (u : StepUnit) (s : State) : Out := .next (unitStepEnd u s)

/-! ### Repair and margining (R309, R310) -/

def stackResult (l : List (Nat × U64)) (k : Nat) : U64 := (assocGet l k).getD 0

/-- RepairRowsTotal and RepairRowsLeft of a stack (R309). -/
def repairTotal (s : State) : Nat := if s.variant = .l64 then 0 else 1024
def repairLeft (s : State) (k : Nat) : Nat := (assocGet s.pool.repairLeft k).getD (repairTotal s)

/-- Why a RepairRequest is refused (R309). -/
def repairRefused (s : State) : Option EStatus :=
  if s.variant = .l64 then some .writeDenied
  else if isReady s || s.pool.repairing.isSome then some .busy
  else none

/-- Start a repair; with no repair row left it ends at once with NO_RESOURCE (R309). -/
def startRepair (k : Nat) (v : U64) (s : State) : State :=
  let s := setObj (0x5040 + k) 3 (.num (field v.toNat 24 0)) s
  if repairLeft s k = 0 then { s with pool := { s.pool with
    repairResults := assocPut s.pool.repairResults k 3 } }
  else { s with pool := { s.pool with
    repairing := some (k, v), repairResults := assocPut s.pool.repairResults k 1 } }

/-- REPAIR_REQUEST (R309). -/
def execRepairRequest (rq : Requester) (st : Stack) (v : U64) (s : State) : Out :=
  .next (requestWrite rq ⟨0x5040 + st.val, 3⟩ (.num v.toNat) repairRefused (startRepair st.val v) s)

/-- Channel and row that a request names (R309, R310). -/
def requestChannel (v : U64) : Nat := field v.toNat 24 20
def requestRow (v : U64) : Nat := field v.toNat 19 0

/-- The logical rows that a span of physical rows serves: its own rows, but those which a spare serves now, and the
rows that its spares serve (R299). -/
def servedRows (s : State) (base n : Nat) : List Nat :=
  ((List.range' base (n / 2048) 2048).filter fun r => activeRow s r == r) ++
    ((s.pool.remaps.filter fun m => !m.copying && base ≤ m.spare && m.spare < base + n).map (·.row))

/-- The stack content of a line is gone, and free; a line that the pool cache holds dirty keeps its content there
(R287, R309, R310). -/
def loseLine (line : Nat) (s : State) : State :=
  match assocGet s.pool.stale line with
  | none => freeSpan line 64 s
  | some _ => draw { s with pool := { s.pool with
      stale := assocPut s.pool.stale line ((List.range 64).map fun i => Config.undefinedByte s.draws (line + i)) } }

/-- The content of a span of physical rows is lost (R309, R310). -/
def loseRows (base n : Nat) (s : State) : State :=
  foldState (fun r s => foldState loseLine (linesOf r 2048) s) (servedRows s base n) s

/-- A repair has ended: the row's content is lost, and a repair row is used (R309). One that FAILED uses no row and
loses no content: DESIGN CHOICE. -/
def repairDone (k : Nat) (ok : Bool) (s : State) : State :=
  match s.pool.repairing with
  | none => s
  | some (j, v) =>
    if j ≠ k then s
    else
      let s := if ok then
          loseRows (channelBase k (requestChannel v) + 2048 * requestRow v) 2048
            { s with pool := { s.pool with
              repairLeft := assocPut s.pool.repairLeft k (repairLeft s k - 1) } }
        else s
      { s with pool := { s.pool with
        repairing := none, repairResults := assocPut s.pool.repairResults k (if ok then 2 else 4) } }

/-- REPAIR_DONE (R309). -/
def execRepairDone (st : Stack) (ok : Bool) (s : State) : Out := .next (repairDone st.val ok s)

/-- Why a MarginRequest is refused (R310). -/
def marginRefused (v : U64) (s : State) : Option EStatus :=
  if s.variant ≠ .l64 then some .writeDenied
  else if 1 < field v.toNat 17 16 then some .outOfRange
  else if isReady s || s.pool.margining.isSome then some .busy
  else none

/-- Start a margining test (R310); reserved bits are ignored (00, R6). -/
def startMargin (k : Nat) (v : U64) (s : State) : State :=
  let w := requestChannel v * 2 ^ 20 + field v.toNat 17 15 * 2 ^ 15 + field v.toNat 13 8 * 2 ^ 8
  let s := setObj (0x5060 + k) 1 (.num w) s
  { s with pool := { s.pool with
    margining := some (k, v), marginResults := assocPut s.pool.marginResults k 1 } }

/-- MARGIN_REQUEST (R310). -/
def execMarginRequest (rq : Requester) (st : Stack) (v : U64) (s : State) : Out :=
  .next (requestWrite rq ⟨0x5060 + st.val, 1⟩ (.num v.toNat) (marginRefused v) (startMargin st.val v) s)

/-- A margining test has ended; it has overwritten the channel's content (R310). -/
def marginDone (k : Nat) (ok : Bool) (errors : Nat) (s : State) : State :=
  match s.pool.margining with
  | none => s
  | some (j, v) =>
    if j ≠ k then s
    else
      let s := loseRows (channelBase k (requestChannel v)) channelBytes s
      { s with pool := { s.pool with
        margining := none
        marginResults := assocPut s.pool.marginResults k
          (w64 (min errors 0xFFFFFFFF * 2 ^ 32 + (if ok then 2 else 4))) } }

/-- MARGIN_DONE (R310). -/
def execMarginDone (st : Stack) (ok : Bool) (errors : Nat) (s : State) : Out := .next (marginDone st.val ok errors s)

/-! ### What the objects show (R288, R295, R312) -/

/-- PoolMap: 16 bytes a region (R288). -/
def kindCode : RegionKind → Nat
  | .general => 0
  | .carveOut => 1
  | .carveOutMirror => 2
  | .extent => 3
  | .spare => 4
  | .fault => 5

/-- Bytes left of a scrub, those of its mirror span included. -/
def scrubLeft (x : Scrub) : Nat := (x.bytes - x.done) + (if x.mirror.isSome then x.bytes - x.done else 0)

/-- Bytes still to scrub (R308). -/
def scrubPending (s : State) : Nat := sumNat (s.pool.scrubs.map scrubLeft)

/-- ObjectPlacement of a function (R295). -/
def placementOf (s : State) (g : Fun) : Bytes :=
  match liveObj s (objNum s (0x5100 + g.val) 1) with
  | none => List.replicate 32 0
  | some o =>
    if o.owner == g || (grantOf o g).isSome then
      leBytes 8 (objHandle o).toNat ++ leBytes 8 o.base ++ leBytes 8 (o.mirrorSpan.getD 0) ++ leBytes 8 o.bytes
    else List.replicate 32 0

end Sys2Proof.Machine
end

