-- ==== Sys2Proof/Machine/Sync.lean ====
section
/-!
DEFINITION. The discipline of the GTC over PTP, issue windows and replay (10_determinism, R317, R318, R323
to R325, R337, R338).
-/
namespace Sys2Proof.Machine

/-! ### PTP (R323 to R325) -/

def modSync (f : SyncSt → SyncSt) (s : State) : State := { s with sync := f s.sync }

/-- The clock identity: the EUI-64 formed from PaldarMacBase (R323). -/
def ptpIdentity : U64 :=
  let m := Config.paldarMacBase.toNat % 2 ^ 48
  w64 (m / 2 ^ 24 * 2 ^ 40 + 0xFFFE * 2 ^ 24 + m % 2 ^ 24)

/-- GTC counts as nanoseconds (R323). -/
def countNs (g : U64) : Nat := g.toNat * 4 / 5

/-- This package's own data set; the clock quality is PRESUMED from IEEE 1588. -/
def ownAnnounce (s : State) : Announce :=
  { priority1 := objNum s 0x7001 6, clockClass := 248, accuracy := 0xFE, variance := 0xFFFF
    priority2 := objNum s 0x7001 7, identity := ptpIdentity, domain := objNum s 0x7001 5 }

/-- The fields that are compared, the most significant first. -/
def announceRank (a : Announce) : List Nat :=
  [a.priority1, a.clockClass, a.accuracy, a.variance, a.priority2, a.identity.toNat]

/-- Lexicographic order. -/
def rankBelow : List Nat → List Nat → Bool
  | [], _ => false
  | _, [] => false
  | a :: l, b :: m => a < b || (a == b && rankBelow l m)

def betterClock (a b : Announce) : Bool := rankBelow (announceRank a) (announceRank b)

/-- The grandmaster among those heard, none when this package is the best (R323). -/
def bestMaster (s : State) : Option U64 :=
  let b := s.sync.foreign.foldl (fun b a => if betterClock a.1 b then a.1 else b) (ownAnnounce s)
  if b.identity = ptpIdentity then none else some b.identity

/-- Select a grandmaster: a new one starts LOCKING, and with none LOCKING falls back to FREE_RUN (R325).
LOCKED stays until no Sync has come for 1 s. -/
def selectMaster (s : State) : State :=
  let m := bestMaster s
  if m = s.sync.master then s
  else modSync (fun x => { x with
    master := m
    state := if m.isSome then .locking else if x.state = .locking then .freeRun else x.state
    inBand := if m.isSome then 0 else x.inBand
    slew := if m.isSome then x.slew else 0
    sync := none, last := none, delayReq := none }) s

/-- The PTP port: the lowest-numbered Ethernet port whose link is up (R323). -/
def ptpPort? (s : State) : Option Nat := (List.range 12).find? fun e => s.win.links.getLsbD e

/-- Some Ethernet port carries PTP (R323). -/
def ptpPort (s : State) : Bool := (ptpPort? s).isSome

/-- The headers of a PTP message that this package sends (R323). -/
def ptpHdr (s : State) (interval : Int) : PtpHdr :=
  let e := (ptpPort? s).getD 0
  { port := e, dstMac := 0x011B19000000, srcMac := Config.paldarMacBase + w64 e
    vlan := if s.win.vlan = 0 then none else some s.win.vlan
    etherType := 0x88F7, domain := objNum s 0x7001 5, identity := ptpIdentity, interval := interval }

/-- Whether a message comes from the grandmaster that is followed. -/
def fromMaster (s : State) (identity : U64) : Bool := ptpPort s && s.sync.master == some identity

/-- An Announce of the domain replaces the announcer's last one (R323). -/
def hearAnnounce (a : Announce) (s : State) : State :=
  if ptpPort s && a.domain == objNum s 0x7001 5 && a.identity != ptpIdentity then
    selectMaster (modSync (fun x => { x with
      foreign := x.foreign.filter (fun y => y.1.identity != a.identity) ++ [(a, s.gtc)] }) s)
  else s

/-- PTP_ANNOUNCE (R323). -/
def execPtpAnnounce (a : Announce) (s : State) : Out := .next (hearAnnounce a s)

/-- Announcers silent for three announce intervals of 1 s are dropped (R323). -/
def dropSilent (s : State) : State :=
  selectMaster (modSync (fun x => { x with
    foreign := x.foreign.filter fun y => (s.gtc - y.2).toNat < 3750000000 }) s)

/-- ANNOUNCE_RECEIPT_TIMEOUT (R323). -/
def execAnnounceReceiptTimeout (s : State) : Out := .next (dropSilent s)

/-- A Sync is accepted; two-step, so that its time follows. In HOLDOVER the lock is sought again (R325). -/
def hearSync (identity : U64) (seq : U16) (arrival : U64) (s : State) : State :=
  if fromMaster s identity then
    modSync (fun x => { x with
      sync := some (seq, arrival), lastSync := s.gtc
      state := if x.state = .holdover then .locking else x.state
      inBand := if x.state = .holdover then 0 else x.inBand }) s
  else s

/-- PTP_SYNC (R323, R325). -/
def execPtpSync (identity : U64) (seq : U16) (arrival : U64) (s : State) : Out :=
  .next (hearSync identity seq arrival s)

/-- The single forward step of the count, before the package is declared ready (R325). -/
def stepForward (behindNs : Nat) (s : State) : State :=
  modSync (fun x => { x with stepped := true, inBand := 0, last := none, delayReq := none, slew := 0 })
    { s with gtc := s.gtc + w64 (behindNs * 5 / 4) }

/-- A signed 32-bit value, saturating (R327). -/
def saturate32 (i : Int) : Int := max (-0x80000000) (min 0x7FFFFFFF i)

/-- Take an offset estimate: step or slew, and count the Syncs within ±20 ns (R325). GtcOffsetNs saturates (R327). -/
def takeOffset (off : Int) (s : State) : State :=
  let near : Bool := off.natAbs ≤ 20
  let s := modSync (fun x => { x with offset := saturate32 off, inBand := if near then x.inBand + 1 else 0 }) s
  if s.sync.state = .locking && s.boot.state ≠ .ready && !s.sync.stepped && off < 0 then
    stepForward off.natAbs s
  else modSync (fun x => { x with
    slew := if x.state = .locking || x.state = .locked then off else 0
    state := if x.state = .locking && 16 ≤ x.inBand then .locked else x.state }) s

/-- A Follow_Up gives the origin time of the Sync of its number (R323). -/
def hearFollowUp (identity : U64) (seq : U16) (originNs : Nat) (s : State) : State :=
  match s.sync.sync with
  | some (n, arrival) =>
    if fromMaster s identity && n = seq then
      let s := modSync (fun x => { x with sync := none, last := some (originNs, arrival) }) s
      takeOffset ((countNs arrival : Int) - (originNs : Int) - (s.sync.delay : Int)) s
    else s
  | none => s

/-- PTP_FOLLOW_UP (R323, R325). -/
def execPtpFollowUp (identity : U64) (seq : U16) (originNs : Nat) (s : State) : Out :=
  .next (hearFollowUp identity seq originNs s)

/-- A Delay_Req leaves while a grandmaster is followed (R323). -/
def sendDelayReq (s : State) : State :=
  if ptpPort s && s.sync.master.isSome then
    let n := s.sync.seq
    emit (.ptpDelayReq (ptpHdr s (-4)) n) (modSync (fun x => { x with
      seq := x.seq + 1, delayReq := some (BitVec.ofNat 16 n, s.gtc) }) s)
  else s

/-- DELAY_REQ_TIMER (R323). -/
def execDelayReqTimer (s : State) : Out := .next (sendDelayReq s)

/-- A Delay_Resp closes the measurement: the mean path delay of the end-to-end mechanism (R323). -/
def hearDelayResp (identity : U64) (seq : U16) (receiveNs : Nat) (s : State) : State :=
  match s.sync.delayReq, s.sync.last with
  | some (n, t3), some (t1, t2) =>
    if fromMaster s identity && n = seq then
      let d : Int := ((countNs t2 : Int) - (t1 : Int)) + ((receiveNs : Int) - (countNs t3 : Int))
      modSync (fun x => { x with delayReq := none, delay := (d / 2).toNat }) s
    else s
  | _, _ => s

/-- PTP_DELAY_RESP (R323). -/
def execPtpDelayResp (identity : U64) (seq : U16) (receiveNs : Nat) (s : State) : Out :=
  .next (hearDelayResp identity seq receiveNs s)

/-- LOCKED without a Sync for 1 s becomes HOLDOVER and raises GTC_SYNC_LOST (R325). -/
def loseSync (s : State) : State :=
  if s.sync.state = .locked && 1250000000 ≤ (s.gtc - s.sync.lastSync).toNat then
    raiseError .gtcSyncLost {} (modSync (fun x => { x with state := .holdover, slew := 0 }) s)
  else s

/-- SYNC_LOSS_TIMEOUT (R325). -/
def execSyncLossTimeout (s : State) : Out := .next (loseSync s)

/-- This package acts as master: none better is heard (R323). -/
def ptpMaster (s : State) : Bool := ptpPort s && s.sync.master.isNone

/-- PTP_DELAY_REQ: a master answers with the time of arrival (R323). -/
def answerDelayReq (requester : U64) (seq : U16) (arrivalNs : Nat) (s : State) : State :=
  if ptpMaster s then emit (.ptpDelayResp (ptpHdr s (-4)) requester seq.toNat arrivalNs) s else s

def execPtpDelayReq (requester : U64) (seq : U16) (arrivalNs : Nat) (s : State) : Out :=
  .next (answerDelayReq requester seq arrivalNs s)

/-- PTP_SYNC_TIMER: a master sends a Sync and its Follow_Up (R323). -/
def sendSync (s : State) : State :=
  if ptpMaster s then
    let n := s.sync.seq
    emit (.ptpFollowUp (ptpHdr s (-4)) n (countNs s.gtc)) (emit (.ptpSync (ptpHdr s (-4)) n)
      (modSync (fun x => { x with seq := x.seq + 1 }) s))
  else s

def execPtpSyncTimer (s : State) : Out := .next (sendSync s)

/-- PTP_ANNOUNCE_TIMER: a master announces itself (R323). -/
def sendAnnounce (s : State) : State := if ptpMaster s then emit (.ptpAnnounce (ptpHdr s 0) (ownAnnounce s)) s else s

def execPtpAnnounceTimer (s : State) : Out := .next (sendAnnounce s)

/-! ### Issue windows (R318) -/

/-- Fixed-schedule contexts one of whose issue windows holds the present count. -/
def contextsInWindow (s : State) : List CtxId :=
  (s.obj.ctxs.filter fun e => e.2.fixed.any fun f => inWindow s f.slotMask).map (·.1)

/-- A queue entry whose host read has completed meanwhile enters (R318). -/
def entryEnters (c : CtxId) (s : State) : State :=
  if (fetchingCmd s c).any fun x => (match x.entryAt with
      | some (.host _ _) => covered x.span.pieces 3 0 64
      | _ => false)
  then entryArrives c s else s

/-- Work that an issue window lets go: log writes, held arrivals and the dispatch head (R318, R337). -/
def startWindow (s : State) : State :=
  if packageHeld s then s
  else foldState (fun c s => dispatchStages c (entryEnters c (letIn c (appendLog c (flushLog c s)))))
    (contextsInWindow s) s

/-- SLOT_ISSUE_WINDOW_START (R318). -/
def execSlotIssueWindowStart (s : State) : Out := .next (startWindow s)

/-! ### Replay (R337, R338) -/

/-- The effect of an entry of the log, once its time has come (R337). A HOST_READ entry is set aside for the request
that takes it. A diverged replay takes no doorbell or stall from the log (R338); an entry of a kind outside R336 has
no effect. -/
def replayEntry (c : CtxId) (f : FixedSt) (o : MemObj) (n : Nat) (e : Bytes) (s : State) : State :=
  let s := modFixed c (fun f => { f with cursor := n + e.length }) s
  match entryKind e with
  | 1 => let s := consumeEntry c o s; if f.live then s else takeDoorbell c (w64 (qwordAt e 2)) s
  | 2 => modFixed c (fun f => { f with setAside := f.setAside ++ [n] }) s
  | 3 => consumeEntry c o (if f.live then s else modFixed c (fun f => { f with stalled := true }) s)
  | 4 => consumeEntry c o (modFixed c (fun f => { f with stalled := false }) s)
  | _ => consumeEntry c o s

/-- The data of a set-aside HOST_READ entry goes to the request that has taken it (R337). -/
def replayData (c : CtxId) (o : MemObj) (w : ReplayWait) (s : State) : State :=
  giveRead w.use w.offset (sliceBytes (entryAt_ s o w.entry) 32 w.bytes)
    (consumeEntry c o (modFixed c (fun f => { f with
      replayWaits := f.replayWaits.erase w, setAside := f.setAside.filter (· != w.entry) }) s))

/-- What a replay waits for before its next entry takes effect: the entry, and the one behind it, which tells whether
Head has reached Tail (R337; 08, R280). -/
def entryGate (s : State) (f : FixedSt) (o : MemObj) : Option (Nat × Nat) :=
  match logGate s o (fun k => k != 0) (replayAt s f o) with
  | some p => some p
  | none => (nextEntry s f o).bind fun e => logGate s o (fun k => k != 0) (e.1 + e.2.length)

/-- The next entry of a replay takes effect: a set-aside one whose request has come, else the next in time. After a
divergence the log serves the requests made before it (R337, R338). -/
def replayDue (c : CtxId) (s : State) : State :=
  match fixed? s c with
  | none => s
  | some f =>
    if f.logMode ≠ .replay || f.live && f.replayWaits.isEmpty then s
    else match moraineObj s f with
      | none => s
      | some o =>
        if let some p := entryGate s f o then logSnoops c p s
        else match f.replayWaits.find? fun w => f.setAside.contains w.entry with
        | some w => replayData c o w s
        | none =>
          match nextEntry s f o with
          | none => s
          | some (n, e) => if entryTime s c e ≤ s.gtc.toNat then replayEntry c f o n e s else s

/-- REPLAY_ENTRY_DUE (R337, R338). -/
def execReplayEntryDue (c : CtxId) (s : State) : Out := .next (replayDue c s)

end Sys2Proof.Machine
end

