-- ==== Sys2Proof/Machine/Ports.lean ====
section
/-!
DEFINITION. Host ports and functions: links, power states, stalls, aborts and resets (02_host_endpoint, R29
to R78).
-/
namespace Sys2Proof.Machine

/-! ### Functions -/

/-- BAR2 bytes for a context quota (R51). -/
def bar2Size (quota : Nat) : Nat :=
  ((List.range 11).map fun k => 4096 <<< k).find? (fun n => 8 * quota ≤ n) |>.getD 0x800000

/-- Configuration registers at their defaults, BAR2 latched anew (R43 to R51). -/
def defaultCfg (s : State) (g : Fun) : FnCfg := FnCfg.init (bar2Size (contextQuota s g))

/-- FunctionEnable of a function (R77). -/
def fnEnabled (s : State) (g : Fun) : Bool := objNum s (0x2100 + g.val) 1 != 0

/-- FunctionState of a function that is neither held in reset nor aborting (R78, R79). -/
def presentState (s : State) (g : Fun) : FnState :=
  if !portPresent s (portOf g) || !fnEnabled s g then .absent
  else if isReady s then .active else .notReady

/-- The link carries traffic, now or after a return to L0. -/
def portCarries (s : State) (p : Port) : Bool :=
  match (getPort s p).link with
  | .l0 | .l1 | .recovery => true
  | _ => false

/-- UpstreamQuiet: no outstanding request and no tile in delivery (R50). -/
def upstreamQuiet (s : State) (g : Fun) : Bool :=
  noRequest s g && !s.cmd.table.any fun x =>
    (ctx? s x.ctx).any (fun y => y.fn == g) && (x.xfer.bind (·.tile)).any (·.begun)

/-- Fixed-schedule contexts of a function. -/
def fixedCtxs (s : State) (g : Fun) : List CtxId :=
  (s.obj.ctxs.filter fun e => e.2.fn == g && e.2.fixed.isSome).map (·.1)

/-- A recording context logs a stall (3) or its end (4) (R75; 10, R336). -/
def noteStalls (g : Fun) (kind : Nat) (s : State) : State :=
  foldState (fun c s => noteLog c (logEntry kind c s.gtc 0 0 []) s) (fixedCtxs s g) s

/-- A function that is ACTIVE stalls: its fixed-schedule contexts run no longer cycle-exact (R73, R75). -/
def stallBegins (g : Fun) (s : State) : State :=
  if (getFn s g).state = .active then
    foldState clearCycleExact (fixedCtxs s g)
      (noteStalls g 3 (modFn g (fun x => { x with state := .stalling }) s))
  else s

/-- The stall ends once Bus Master Enable is 1 and the function is in D0, and the held records are written
(R74; 11, R353). -/
def stallEnds (g : Fun) (s : State) : State :=
  let f := getFn s g
  if !fnStalled s g && (f.state == .stalling || f.state == .stalled) then
    askAdmin g (noteStalls g 4 (releaseHeld g (modFn g (fun x => { x with state := .active }) s)))
  else s

/-- Write bits 1, 2, 6, 8 and 10 of Command: the writable ones (R43). What follows the change of Bus Master
Enable and Interrupt Disable follows at once (R55, R73, R74). -/
def writeCommand (g : Fun) (v : Nat) (s : State) : State :=
  let m : U16 := 0x0546
  let s1 := modCfg g (fun c => { c with command := BitVec.ofNat 16 v &&& m }) s
  let s2 :=
    if !fnStalled s1 g then stallEnds g s1
    else if fnStalled s g then s1 else stallBegins g s1
  issueImage (settleIntx s (portOf g) s2)

def commandOf (s : State) (g : Fun) : Nat := (getFn s g).cfg.command.toNat

/-- BUS_MASTER_ENABLE_CLEAR (R73). -/
def execBusMasterEnableClear (g : Fun) (s : State) : Out :=
  .next (cfgWrite g (fun s => writeCommand g (commandOf s g &&& 0xFFFB) s) s)

/-- BUS_MASTER_ENABLE_SET (R74). -/
def execBusMasterEnableSet (g : Fun) (s : State) : Out :=
  .next (cfgWrite g (fun s => writeCommand g (commandOf s g ||| 4) s) s)

/-- INTERRUPT_DISABLE_WRITE (R55). -/
def execInterruptDisableWrite (g : Fun) (v : Bool) (s : State) : Out :=
  .next (cfgWrite g (fun s =>
    writeCommand g (if v then commandOf s g ||| 0x400 else commandOf s g &&& 0xFBFF) s) s)

/-- STALL_QUIET: the last upstream request is out (R50, R73). -/
def execStallQuiet (g : Fun) (s : State) : Out :=
  .next (if (getFn s g).state = .stalling && upstreamQuiet s g then
    modFn g (fun x => { x with state := .stalled, stallGtc := s.gtc }) s
  else s)

/-- Every function of a port that is present is in D3hot (R64). -/
def allD3hot (s : State) (p : Port) : Bool :=
  (fnsOf p).all fun g => !fnPresent s g || (getFn s g).cfg.d3hot

/-- The link of a port leaves L0: its lanes are dropped from a measurement that runs (15, R445). -/
def leaveL0 (p : Nat) (s : State) : State :=
  if s.boot.result = .running && s.boot.command = .qualify then
    { s with boot := { s.boot with
      lanes := s.boot.lanes.map fun l => if l.port == p then { l with result := 3 } else l } }
  else s

/-- Where the fall-back wires of port 0 stand in the list of measured lanes (15, R445). -/
def wirePort : Nat := 24

/-- The same of a link of any port: port 0 has lanes and wires. -/
def linkLeavesL0 (p : Port) (s : State) : State :=
  leaveL0 p.val (if p = 0 then leaveL0 wirePort s else s)

/-- Enter D3hot: the work stalls, the INTx contribution ends, and the link enters L1 once every function has
done so (R55, R64). Of port 0, whose link has no L1 (R37), the link stays as it is: DESIGN CHOICE. -/
def enterD3 (g : Fun) (s : State) : State :=
  let p := portOf g
  let s1 := stallBegins g (modCfg g (fun c => { c with d3hot := true }) s)
  let s2 := settleIntx s p s1
  if p ≠ 0 && allD3hot s2 p && (getPort s2 p).link == .l0 then
    linkLeavesL0 p (modPort p (fun x => { x with link := .l1 }) s2)
  else s2

/-- POWER_STATE_D3HOT (R64). -/
def execPowerStateD3hot (g : Fun) (s : State) : Out :=
  .next (cfgWrite g (fun s => if (getFn s g).cfg.d3hot then s else enterD3 g s) s)

/-- Return to D0 without reset (R64). -/
def leaveD3 (g : Fun) (s : State) : State :=
  settleIntx s (portOf g) (stallEnds g (modCfg g (fun c => { c with d3hot := false }) s))

/-- POWER_STATE_D0 (R64). -/
def execPowerStateD0 (g : Fun) (s : State) : Out :=
  .next (cfgWrite g (fun s => if (getFn s g).cfg.d3hot then leaveD3 g s else s) s)

/-- Drop every ATS entry of a function (06, R221). -/
def dropAts (g : Fun) (s : State) : State :=
  forgetAts (portOf g) (fun e => e.fn == g) s

/-- ATS_PASID_DISABLE: ATS Enable or PASID Enable is cleared (06, R221). Accesses that have no tag yet are asked for
again as they now have to be issued (R47; 06, R219). -/
def clearAts (g : Fun) (pasid : Bool) (s : State) : State :=
  dropWaits g (dropAts g (modCfg g (fun c =>
    if pasid then { c with pasidEnable := false } else { c with atsEnable := false }) s))

def execAtsPasidDisable (g : Fun) (pasid : Bool) (s : State) : Out :=
  .next (cfgWrite g (clearAts g pasid) s)

/-! ### Abort and reset (R67 to R72) -/

/-- Abort the contexts of a function with LostReason FUNCTION_ABORTED (R67; 04, R130, R133). -/
def abortContexts (g : Fun) (s : State) : State :=
  foldState (fun c s =>
    let s := modCtx c (fun x => if x.state = .ready then
      { x with lostReason := .functionAborted, lostGtc := s.gtc } else x) s
    abortContext c none s) ((s.obj.ctxs.filter fun e => e.2.fn == g).map (·.1)) s

/-- Free every object of a function and end the grants it holds; its own admin entries no longer wait (04,
R144). -/
def freeAll (g : Fun) (s : State) : State :=
  let s := foldState (fun o s => freeStart o.slot none s)
    (s.obj.objs.filter fun o => o.owner == g && !o.freed) s
  { s with obj := { s.obj with
    objs := s.obj.objs.map fun o => { o with
      grants := o.grants.filter fun x => x.1 != g
      freer := o.freer.filter fun r => r.fn != g
      changes := o.changes.filter fun c => c.2.fn != g } } }

/-- Begin the closing of every window of a function (08, R263). -/
def closeAll (g : Fun) (s : State) : State :=
  { s with win := { s.win with
    table := s.win.table.map fun e =>
      if e.2.owner == g && e.2.state == .opened then (e.1, { e.2 with state := .closing }) else e } }

/-- Start the abort of a function: no work of it starts any more, its INTx contribution is gone, its rings,
queues and fault records are discarded, its tags are quarantined, and a load of the firmware image through it
fails (R67, R70; 15, R451). -/
def beginAbort (ev : AbortEvent) (g : Fun) (s : State) : State :=
  if (getFn s g).state = .absent then s
  else
    let s1 := modFn g (fun x => { x with
      state := .aborting, abort := some ev, admin := AdminQ.init, faultq := FaultQ.init
      int := { x.int with rings := [], formed := [], held := [] } }) s
    let s2 := abortContexts g (settleIntx s (portOf g) s1)
    let s2 := if portOf g == portOf (imageFn s2) && imageFn s2 == g && readsOut s2 (portOf g) .image then imageFails s2 else s2
    quarantine (portOf g) (fun t => t.fn == g) (closeAll g (freeAll g s2))

/-- Whether an event takes the place of one under way (R72). -/
def supersedes (old : Option AbortEvent) (ev : AbortEvent) : Bool :=
  match old, ev with
  | none, _ => true
  | _, .flr => false
  | some .flr, _ => true
  | some .hotReset, .hotReset => false
  | some .hotReset, _ => true
  | some .functionDisable, .hotReset => false
  | _, .hotReset => false
  | _, _ => true

/-- An event of R67 reaches a function; one that another supersedes has no effect (R72). -/
def abortFn (ev : AbortEvent) (g : Fun) (s : State) : State :=
  if supersedes (getFn s g).abort ev then beginAbort ev g s else s

/-- The event returns the function's capture to IDLE (12, R381). -/
def releasesCapture : AbortEvent → Bool
  | .flr | .functionDisable | .surpriseRemoval | .portDisable | .hotReset | .perst => true
  | .perstInReset | .packageReset | .blockReset => false

/-- State of a function after an event of R67: held in reset until its link is up again, or as it is. -/
def stateAfter (s : State) (g : Fun) : AbortEvent → FnState
  | .perst | .perstInReset | .surpriseRemoval | .portDisable | .packageReset =>
    if presentState s g = .absent then .absent
    else if portCarries s (portOf g) then presentState s g else .reset
  | _ => presentState s g

/-- Scrub the extent of an aborted function, unless a scrub of it runs already (13, R410, R422). -/
def scrubExtent (g : Fun) (s : State) : State :=
  match s.pool.extents.find? fun e => e.fn == g.val with
  | none => s
  | some e =>
    if e.bytes = 0 || s.pool.scrubs.any (fun c => c.extent && c.owner == some g) then s
    else { s with pool := { s.pool with
      scrubs := s.pool.scrubs ++ [⟨e.base, e.bytes, 0, none, some g, true, false⟩] } }

/-- Clear the counters 0xD100 + g of a function (13, R409). -/
def clearFnCounters (g : Fun) (s : State) : State :=
  { s with counters := s.counters.filter fun e => e.1 / 256 != 0xD100 + g.val }

/-- The end of an abort: configuration registers, mailbox, interrupts and counters return to their reset
values (R70; 03, R113; 11, R364; 13, R409). -/
def endAbort (ev : AbortEvent) (g : Fun) (s : State) : State :=
  let cfg := defaultCfg s g
  let st := stateAfter s g ev
  let release := releasesCapture ev
  let s := modFn g (fun x => { x with
    cfg := cfg, state := st, abort := none, resetGtc := s.gtc, mbx := MbxSt.init
    admin := AdminQ.init, faultq := FaultQ.init, int := IntSt.init
    capture := if release then Capture.init else x.capture }) s
  clearFnCounters g (dropAts g (scrubExtent g s))

/-- The firmware step of an abort has ended: contexts and windows of the function are gone (R70). -/
def abortOver (s : State) (g : Fun) : Bool :=
  !(s.obj.ctxs.any fun e => e.2.fn == g) && !(s.win.table.any fun e => e.2.owner == g)

/-- FUNCTION_RESET_COMPLETE (R70). -/
def execFunctionResetComplete (g : Fun) (s : State) : Out :=
  .next (match (getFn s g).abort with
    | some ev => if abortOver s g then endAbort ev g s else s
    | none => s)

/-- FUNCTION_LEVEL_RESET: of a tenant function; one that runs already is left alone (R70, R72). -/
def execFunctionLevelReset (g : Fun) (s : State) : Out :=
  .next (cfgWrite g (fun s => if fnOf g ≠ 0 then abortFn .flr g s else s) s)

/-! ### Links (R64 to R68, R78) -/

/-- Drop the exchange and the connection of a port's DOE (13, R422). -/
def dropDoe (p : Port) (s : State) : State :=
  { s with sec := { s.sec with
    spdm := s.sec.spdm.filter fun x => x.conn != .doe p
    inbox := s.sec.inbox.filter fun x => x.1 != .doe p } }

/-- The link goes down. -/
def dropLink (p : Port) (st : LinkState) (s : State) : State :=
  linkLeavesL0 p (modPort p (fun x => { x with link := st, width := 0, speed := 0, intx := [], atsHolds := [] }) s)

/-- Abort every function of a port (R67). -/
def abortPort (ev : AbortEvent) (p : Port) (s : State) : State := foldState (abortFn ev) (fnsOf p) s

/-- Port 0 waits for fall-back training (R33). -/
def awaitFallback (s : State) : State :=
  { s with port0 := { s.port0 with
    mode := 0, training := false, fails := List.replicate 8 0, awaiting := true, nonceOut := false
    fromWake := false } }

/-- The captures of a port's functions return to IDLE (12, R381). -/
def releaseCaptures (p : Port) (s : State) : State :=
  foldState (fun g s => modFn g (fun x => { x with capture := Capture.init }) s) (fnsOf p) s

/-- In the fatal state the boot ROM finds the latch and stops (12, R387). -/
def bootStops (s : State) : State :=
  if s.err.pkg = .fatal then { s with boot := { s.boot with fw := .failed } } else s

/-- PERSTn_N is asserted; outside a package reset that releases the captures of the port's functions, whatever becomes
of the abort (R65, R67; 12, R381, R387). -/
def assertPerst (p : Port) (s : State) : State :=
  let s := if s.boot.resetting then abortPort .perstInReset p s else releaseCaptures p (abortPort .perst p s)
  let s := bootStops s
  let s := dropDoe p (dropLink p .down s)
  let s := if p = 0 then awaitFallback s else s
  modPort p (fun x => { x with
    perst := true, switchedOff := x.switchedOff || (x.turnOff == .acked && p != 0) }) s

/-- PERST_ASSERT (R67). -/
def execPerstAssert (p : Port) (s : State) : Out :=
  .next (if portPresent s p && !(getPort s p).perst then assertPerst p s else s)

/-- A port may leave Detect: PERSTn_N is high and PortEnable is 1 (R67, R78). -/
def mayTrain (s : State) (p : Port) : Bool :=
  portPresent s p && !(getPort s p).perst && (p == 0 || objNum s (0x2010 + p.val) 1 != 0)

/-- A port begins to train (R33, R78). -/
def beginTraining (p : Port) (s : State) : State :=
  if mayTrain s p then emit (.portTraining p) (modPort p (fun x => { x with link := .training }) s) else s

/-- PERSTn_N is deasserted: WAKEn_N is let go and the port trains; the dies of port 0 count as BUSY (R66,
R78; 11, R359). -/
def deassertPerst (p : Port) (s : State) : State :=
  let s := if (getPort s p).wake then emit (.wakePin p false) s else s
  let s := modPort p (fun x => { x with
    perst := false, wake := false, turnOff := .none, switchedOff := false }) s
  beginTraining p (if p = 0 then { s with idle := 0 } else s)

/-- PERST_DEASSERT (R466). -/
def execPerstDeassert (p : Port) (s : State) : Out :=
  .next (if portPresent s p && (getPort s p).perst then deassertPerst p s else s)

/-- Lanes that PortWidth selects (R38). -/
def lanesSelected (s : State) (p : Port) : Nat :=
  match objNum s (0x2010 + p.val) 2 with
  | 0 => 16
  | 1 => 8
  | _ => 4

/-- A return to L0: Assert_INTx for every pin whose OR is 1, Deassert_INTx for a pin that fell meanwhile,
and PM_PME for wake sources (R56, R66). -/
def returnL0 (p : Port) (s : State) : State :=
  let was := (getPort s p).intx
  let high := pinsHigh s p
  let s := modPort p (fun x => { x with link := .l0, intx := high }) s
  let s := foldState (fun k s =>
    if high.contains k then emit (.assertIntx p k) s
    else if was.contains k then emit (.deassertIntx p k) s else s) (List.finRange 4) s
  let owners := (getPort s p).wakeOwners
  foldState (fun g s => emit (.pmPme g) (modCfg g (fun c => { c with pmeStatus := true }) s)) owners
    (modPort p (fun x => { x with wakeOwners := [] }) s)

/-- Present the functions of a port that were held in reset (R78). -/
def presentFns (p : Port) (s : State) : State :=
  foldState (fun g s =>
    if (getFn s g).state = .reset then
      let st := presentState s g
      let cfg := defaultCfg s g
      modFn g (fun x => { x with state := st, cfg := cfg }) s
    else s) (fnsOf p) s

/-- A port 1 to 3 reaches L0 on lanes and at a rate that it allows (R38, R78). -/
def linkUpOk (s : State) (p : Port) (width speed : Nat) : Bool :=
  p != 0 && mayTrain s p && !portCarries s p && s.power.on.getLsbD p.val &&
    [4, 8, 16].contains width && width ≤ lanesSelected s p && speed ≤ objNum s (0x2010 + p.val) 3

/-- PORT_LINK_UP (R78). -/
def execPortLinkUp (p : Port) (width speed : Nat) (s : State) : Out :=
  .next (if linkUpOk s p width speed then
    returnL0 p (presentFns p (modPort p (fun x => { x with
      width := width, speed := speed, turnOff := .none }) s))
  else s)

/-- LINK_L0_RETURN (R56). -/
def execLinkL0Return (p : Port) (s : State) : Out :=
  .next (match (getPort s p).link with
    | .l1 | .l2 | .recovery => returnL0 p s
    | _ => s)

/-- A port's link goes down without the handshake: every function is aborted and the port waits in Detect
(R67, R68). -/
def removePort (p : Port) (s : State) : State :=
  let s := dropDoe p (dropLink p .down (abortPort .surpriseRemoval p s))
  if p = 0 then awaitFallback s else countPort p 3 s

/-- SURPRISE_REMOVAL; a link that goes down after PME_TO_Ack is none (R68). -/
def execSurpriseRemoval (p : Port) (s : State) : Out :=
  .next (if p = 0 || (getPort s p).link == .down || (getPort s p).link == .disabled then s
    else if (getPort s p).turnOff == .acked then dropLink p .down s
    else removePort p s)

/-- AER bit of a fatal condition, PRESUMED from the base specification (R63). -/
def tlpFaultBit : TlpFault → Nat
  | .malformed => 18
  | .flowControl => 13
  | .receiverOverflow => 17
  | .dataLink => 4

/-- MALFORMED_TLP: reported as named on function 0 and handled as a surprise removal (R63). -/
def execMalformedTlp (p : Port) (kind : TlpFault) (s : State) : Out :=
  .next (if portCarries s p then removePort p (aerUncorrectable (fn0 p) (tlpFaultBit kind) s) else s)

/-- The configuration registers of function 0 return to their defaults; its state stays (R67, R69; 13,
R409). -/
def resetCfg0 (p : Port) (s : State) : State :=
  let g := fn0 p
  let cfg := defaultCfg s g
  let s0 := modFn g (fun x => { x with cfg := cfg, mbx := MbxSt.init }) s
  let s1 := if fnStalled s g then s0 else stallBegins g s0
  clearFnCounters g (dropAts g (settleIntx s p s1))

/-- HOT_RESET (R67, R69). -/
def hotReset (p : Port) (s : State) : State :=
  let s := countPort p 4 s
  let s := foldState (abortFn .hotReset) ((fnsOf p).filter fun g => fnOf g != 0) s
  dropDoe p (if cfgOpen s (fn0 p) then resetCfg0 p s else s)

def execHotReset (p : Port) (s : State) : Out := .next (if portCarries s p then hotReset p s else s)

/-- PME_TURN_OFF (R65). -/
def execPmeTurnOff (p : Port) (s : State) : Out :=
  .next (if portCarries s p && (getPort s p).turnOff == .none then
    modPort p (fun x => { x with turnOff := .requested }) s
  else s)

/-- PME_TO_ACK: sent once no function of the port has an outstanding request; the link enters L2/L3 Ready
(R65). -/
def execPmeToAck (p : Port) (s : State) : Out :=
  .next (if (getPort s p).turnOff == .requested && (fnsOf p).all (noRequest s) then
    emit (.pmeToAck p) (linkLeavesL0 p (modPort p (fun x => { x with turnOff := .acked, link := .l2 }) s))
  else s)

/-- FLIT_MODE_REFUSED: the port returns to Detect (R38). -/
def execFlitModeRefused (p : Port) (s : State) : Out :=
  .next (if p ≠ 0 && mayTrain s p && !portCarries s p then
    countPort p 2 (modPort p (fun x => { x with link := .down }) s)
  else s)

/-- LINK_RECOVERY: the link retrains, on fewer lanes where some fail (R38). -/
def execLinkRecovery (p : Port) (width : Nat) (s : State) : Out :=
  .next (if p ≠ 0 && portCarries s p then
    linkLeavesL0 p (modPort p (fun x => { x with
      link := .recovery
      width := if [4, 8, 16].contains width && width ≤ x.width then width else x.width }) s)
  else s)

/-- ASPM_L1_ENTRY (R38). -/
def execAspmL1Entry (p : Port) (s : State) : Out :=
  .next (if p ≠ 0 && (getPort s p).link == .l0 then
    linkLeavesL0 p (modPort p (fun x => { x with link := .l1 }) s)
  else s)

/-- DOE_DISCOVERY: the DOE of function 0 names its protocols, DOE Discovery and CMA/SPDM (R46); the layout is
PRESUMED from the base specification. -/
def execDoeDiscovery (p : Port) (index : U8) (s : State) : Out :=
  .next (cfgWrite (fn0 p) (fun s =>
    emit (.doe p (match index.toNat with
      | 0 => [1, 0, 0, 1]
      | 1 => [1, 0, 1, 0]
      | _ => [0xFF, 0xFF, 0, 0])) s) s)

/-! ### Enables (R67, R77) -/

/-- FunctionEnable takes a value: 0 aborts the function, 1 makes an absent one present in its reset state
(R77). -/
def setFnEnable (g : Fun) (v : Bool) (s : State) : State :=
  let was := fnEnabled s g
  let s := putObj ⟨0x2100 + g.val, 1⟩ (.num (if v then 1 else 0)) s
  if !v && was then abortFn .functionDisable g s
  else if v && !was && (getFn s g).abort.isNone then
    let st := if portCarries s (portOf g) then presentState s g else .reset
    let cfg := defaultCfg s g
    modFn g (fun x => { x with state := if presentState s g = .absent then .absent else st, cfg := cfg }) s
  else s

/-- FUNCTION_ENABLE_WRITE (R77). -/
def execFunctionEnableWrite (rq : Requester) (g : Fun) (v : Bool) (s : State) : Out :=
  .next (requestWrite rq ⟨0x2100 + g.val, 1⟩ (.num (if v then 1 else 0)) (fun _ => none) (setFnEnable g v) s)

/-- PortEnable takes a value: 0 aborts every function and holds the port in Detect (R67, R78). The manual does not
say when PortLinkState reads DISABLED: here it does from the write of 0 until PERSTn_N or a package reset, after
which the port in Detect reads DOWN (DESIGN CHOICE, log 57). -/
def setPortEnable (p : Port) (v : Bool) (s : State) : State :=
  let was := objNum s (0x2010 + p.val) 1 != 0
  let s := putObj ⟨0x2010 + p.val, 1⟩ (.num (if v then 1 else 0)) s
  if !v && was then dropDoe p (dropLink p .disabled (abortPort .portDisable p s))
  else if v && !was then beginTraining p (dropLink p .down s)
  else s

/-- PORT_ENABLE_WRITE (R67). -/
def execPortEnableWrite (rq : Requester) (p : Port) (v : Bool) (s : State) : Out :=
  .next (requestWrite rq ⟨0x2010 + p.val, 1⟩ (.num (if v then 1 else 0)) (fun _ => none) (setPortEnable p v) s)

/-! ### Port 0 modes (R33 to R35) -/

def modPort0 (f : Port0St → Port0St) (s : State) : State := { s with port0 := f s.port0 }

/-- The nonce of a training of port 0 goes out, unless the entropy source has failed (13, R404, R406). -/
def linkNonceOut (s : State) : State :=
  if s.port0.nonceOut || s.sec.entropyFailed then s
  else
    let r := drawNonce s
    emit (.linkNonce r.2) (modPort0 (fun x => { x with nonceOut := true, nonce := r.2 }) r.1)

/-- The dies have returned their nonce: the keys of crypto lanes 0 and 1 are loaded (13, R402, R406). -/
def loadLanes (nd : Bytes) (s : State) : State :=
  { s with sec := { s.sec with laneKeys := laneKeys (secretUsed s.sec 2) s.port0.nonce nd } }

/-- Port0ModeRequest is written MAIN: the link groups train in main mode, again if they carry traffic already
(R33; 15, R444). -/
def requestMain (s : State) : State :=
  let s := putObj ⟨0x2001, 1⟩ (.num 1) s
  if s.port0.training then s
  else linkNonceOut (modPort0 (fun x => { x with training := true, nonceOut := false }) (linkLeavesL0 0 s))

/-- PORT0_MODE_MAIN (R33). -/
def execPort0ModeMain (rq : Requester) (s : State) : Out :=
  .next (requestWrite rq ⟨0x2001, 1⟩ (.num 1) (fun _ => none) requestMain s)

/-- Port 0 moves back to fall-back mode; the move is an S0 error. The fall-back training begins with a nonce, or waits
where none can be issued, and ends with the dies' nonce (R34, R35; 13, R404, R406). -/
def fallBack (s : State) : State :=
  let s := linkNonceOut (modPort0 (fun x => { x with
    mode := 0, training := false, fails := List.replicate 8 0, nonceOut := false, awaiting := true
    fromWake := false }) (linkLeavesL0 0 s))
  raiseError .port0Fallback { kind := 1, unit := 0, access := 7 } s

/-- Port0ModeRequest is written FALLBACK (R35); a training that runs ends. -/
def requestFallback (s : State) : State :=
  let s := putObj ⟨0x2001, 1⟩ (.num 0) s
  if s.port0.mode = 1 then fallBack s
  else modPort0 (fun x => { x with training := false, nonceOut := x.nonceOut && !x.training }) s

/-- PORT0_MODE_FALLBACK (R35). -/
def execPort0ModeFallback (rq : Requester) (s : State) : Out :=
  .next (requestWrite rq ⟨0x2001, 1⟩ (.num 0) (fun _ => none) requestFallback s)

/-- Main-mode training ends with these groups trained and the dies' nonce returned (R33; 13, R406). After a wake the port
carries traffic from then on, or falls back under R35 (14, R430). In main mode, with no training of the port under way, it is the end of a
link-level retrain in which these groups trained: their failures in a row begin again from 0 (R35; that this row
stands for it is a DESIGN CHOICE, log 59). -/
def trainingDone (groups : U8) (nd : Bytes) (s : State) : State :=
  if s.port0.training then
    let s := linkNonceOut s
    if s.port0.nonceOut then
      let woke := s.port0.fromWake
      let s := loadLanes nd (modPort0 (fun x => { x with
        training := false, nonceOut := false, fromWake := false, groups := groups
        mode := if groups = 0xFF then 1 else x.mode
        fails := List.replicate 8 0 }) s)
      if !woke then (if groups ≠ 0xFF && s.port0.mode = 1 then fallBack s else s)
      else if groups = 0xFF then
        returnL0 0 (modPort 0 (fun x => { x with turnOff := .none })
          (modPort0 (fun x => { x with awaiting := false }) s))
      else fallBack s
    else s
  else if s.port0.mode = 1 then
    modPort0 (fun x => { x with
      fails := x.fails.zipIdx.map fun f => if groups.getLsbD f.2 then 0 else f.1 }) s
  else s

/-- PORT0_TRAINING_DONE (R33). -/
def execPort0TrainingDone (e : TrainingEnd) (s : State) : Out := .next (trainingDone e.groups e.nd s)

/-- A main-mode group fails a retrain once more (R35). -/
def groupFails (k : Fin 8) (s : State) : State :=
  if s.port0.mode = 1 then
    let n := s.port0.fails.getD k.val 0 + 1
    if objNum s 0x2001 4 ≤ n then fallBack s
    else modPort0 (fun x => { x with fails := x.fails.set k.val n }) s
  else s

/-- PORT0_GROUP_RETRAIN_FAILED (R35). -/
def execPort0GroupRetrainFailed (k : Fin 8) (s : State) : Out := .next (groupFails k s)

/-- PORT0_LINK_DOWN: the link is lost in fall-back mode (R35). -/
def execPort0LinkDown (s : State) : Out :=
  .next (if s.port0.mode = 0 && portCarries s 0 then
    raiseError .port0LinkLost { kind := 1, unit := 0, access := 7 }
      (dropLink 0 .down (modPort0 (fun x => { x with mode := 2, training := false }) s))
  else s)

/-- Fall-back training of port 0 ends, nonces exchanged; port 0 carries traffic. Where it carried traffic before, a
change of mode has only paused it (R33, R34; 13, R406). -/
def fallbackTrained (nd : Bytes) (s : State) : State :=
  if s.port0.awaiting && !s.port0.fromWake && !(getPort s 0).perst then
    let s := linkNonceOut s
    if s.port0.nonceOut then
      let s := loadLanes nd (modPort0 (fun x => { x with awaiting := false, nonceOut := false, mode := 0 }) s)
      if (getPort s 0).link == .l0 then s
      else returnL0 0 (presentFns 0 (modPort 0 (fun x => { x with turnOff := .none }) s))
    else s
  else s

/-- PORT0_FALLBACK_TRAINED (R33). -/
def execPort0FallbackTrained (nd : Bytes) (s : State) : Out := .next (fallbackTrained nd s)

end Sys2Proof.Machine
end

