-- ==== Sys2Proof/Machine/Power.lean ====
section
/-!
DEFINITION. Power domains, package sleep, clocks, power-good inputs and telemetry (14_power_clocks), and the
wake table (11_events_interrupts, R365 to R368).
-/
namespace Sys2Proof.Machine

def modSec (f : SecSt → SecSt) (s : State) : State := { s with sec := f s.sec }

/-! ### Domains (R424 to R428) -/

/-- The domain of a host port is on under R425. -/
def portDomain (s : State) (p : Nat) : Bool :=
  p == 0 || (p < portsOf s.variant && !(s.ports.getD p PortSt.init).switchedOff)

/-- A fixed-schedule context that records or replays is live (R425). -/
def logsLive (s : State) : Bool :=
  s.obj.ctxs.any fun e => e.2.fixed.any fun f => f.logMode != .off

/-- Whether domain d is to be on outside package sleep (R425, R426). -/
def domainWanted (s : State) (d : Nat) : Bool :=
  if d < 4 then portDomain s d
  else if d < 12 then true
  else if d < 20 then s.power.work && (objNum s 0x3000 3).testBit (d - 12)
  else if d < 28 then s.power.work && d - 20 < s.trans.bankCount
  else if d < 36 then s.power.work && (objNum s 0xB000 5).testBit (d - 28)
  else if d < 38 then s.power.work && (objNum s 0xB000 6).testBit (d - 36)
  else if d < 40 then true
  else if d < 42 then s.power.work && (objNum s 0xB000 7).testBit (d - 40)
  else if d < 46 then portDomain s (d - 42)
  else if d = 46 then portDomain s 0 || portDomain s 1
  else if d = 47 then portDomain s 2 || portDomain s 3
  else if d = 48 then true
  else logsLive s

/-- A command that has not met a fault it waits for (R427). -/
def notFaulted (s : State) (k : CtxId × Nat) : Bool :=
  !((cmd? s k.1 k.2).bind (·.xfer)).any fun y => y.faulted.isSome

/-- The drain that domain d waits for before it switches off has ended (R427). -/
def drained (s : State) (d : Nat) : Bool :=
  if 12 ≤ d && d < 20 then s.trans.walks.all fun w => w.group != d - 12
  else if 28 ≤ d && d < 36 then
    (List.range 4).all fun i =>
      let e := 4 * (d - 28) + i
      let x := s.cmd.engines.getD e EngineSt.init
      (x.active ++ x.queued).all (fun k => !notFaulted s k) && !(reservedEngines s).contains e
  else if 36 ≤ d && d < 38 then !digestBusy s (d - 36)
  else true

/-- Domains whose switch is pending (R427, R428). -/
def domainsSwitching (s : State) : List Nat :=
  if s.power.phase == .awake then
    (List.range 50).filter fun d => s.power.on.getLsbD d != domainWanted s d
  else []

/-- DomainsSwitching: bit d while domain d drains or switches (R427, R437). A domain that waits for its turn to
switch does neither: DEDUCED. -/
def switchingMask (s : State) : Nat :=
  maskOf ((domainsSwitching s).filter fun d => !domainWanted s d && !drained s d) ||| (match s.power.switching with
    | some (d, _) => 2 ^ d
    | none => 0)

/-- The next switch: the lowest domain whose drain has ended (R428). -/
def switchNext (s : State) : State :=
  if s.power.switching.isSome then s
  else match (domainsSwitching s).find? fun d => domainWanted s d || drained s d with
    | some d => modPower (fun x => { x with switching := some (d, domainWanted s d) }) s
    | none => s

/-- DOMAIN_SWITCH_START (R428). -/
def execDomainSwitchStart (s : State) : Out := .next (switchNext s)

/-- Every valid peer goes DOWN (R427, R430). -/
def peersDown (s : State) : State :=
  foldState (fun x s => if x.state = .down then s else goDown x.id s) s.win.peers s

/-- A crypto lane that has switched off holds no session's keys any more: once it is on again, it carries the sessions
that are opened from then on (R428; 08, R269). -/
def forgetLane (d : Nat) (s : State) : State :=
  if d = 40 || d = 41 then { s with win := { s.win with
    peers := s.win.peers.map fun x => { x with session := x.session.map fun ss => { ss with
      lanes := ss.lanes &&& ~~~ ((1 : BitVec 2) <<< (d - 40)) } } } }
  else s

/-- A domain switch completes. A bank starts empty, a crypto lane forgets its keys, and with both Paldar lanes off every valid peer moves to
DOWN (R427, R428). -/
def switchDone (s : State) : State :=
  match s.power.switching with
  | none => s
  | some (d, on) =>
    let m : BitVec 50 := (1 : BitVec 50) <<< d
    let s := modPower (fun x => { x with
      switching := none, on := if on then x.on ||| m else x.on &&& ~~~ m }) s
    let s := if 20 ≤ d && d < 28 then
        { s with trans := { s.trans with banks := s.trans.banks.set (d - 20) [] } } else s
    let s := if on then s else forgetLane d s
    if (d = 40 || d = 41) && !s.power.on.getLsbD 40 && !s.power.on.getLsbD 41 then peersDown s else s

/-- DOMAIN_SWITCH_DONE (R428). -/
def execDomainSwitchDone (s : State) : Out := .next (switchDone s)

/-- WorkDomainsOn: a 0 while the package is declared ready is BUSY (R426). -/
def workRefused (v : Bool) (s : State) : Option EStatus := if !v && isReady s then some .busy else none

def setWork (v : Bool) (s : State) : State := modPower (fun x => { x with work := v }) s

/-- WORK_DOMAINS_ON_WRITE (R426). -/
def execWorkDomainsOnWrite (rq : Requester) (v : Bool) (s : State) : Out :=
  .next (requestWrite rq ⟨0xB000, 4⟩ (.num (if v then 1 else 0)) (workRefused v) (setWork v) s)

/-- A stored object takes a value with no other effect of its own. -/
def plainWrite (rq : Requester) (ref : Ref) (v : Nat) (s : State) : State :=
  requestWrite rq ref (.num v) (fun _ => none) (putObj ref (.num v)) s

/-- ENGINE_GROUP_ENABLE_WRITE: the millrace assigns nothing more to a group that it clears (R427). -/
def execEngineGroupEnableWrite (rq : Requester) (v : U8) (s : State) : Out :=
  .next (plainWrite rq ⟨0xB000, 5⟩ v.toNat s)

/-- DIGEST_ENGINE_ENABLE_WRITE (R427). -/
def execDigestEngineEnableWrite (rq : Requester) (v : U8) (s : State) : Out :=
  .next (plainWrite rq ⟨0xB000, 6⟩ v.toNat s)

/-- PALDAR_LANE_ENABLE_WRITE (R427). -/
def execPaldarLaneEnableWrite (rq : Requester) (v : U8) (s : State) : Out :=
  .next (plainWrite rq ⟨0xB000, 7⟩ v.toNat s)

/-! ### The wake table (11, R365 to R368) -/

/-- The WakeEntry values that R365 allows: a defined kind, function, source or input, of units that the variant
carries. -/
def wakeEntryOk (v : Variant) (e : Nat) : Bool :=
  match field e 31 30 with
  | 0 => true
  | 1 => field e 8 0 ≤ 258 && field e 13 9 < 8 * portsOf v
  | 2 => field e 7 0 ≤ 6 && (field e 7 0 < 4 || field e 7 0 - 3 < portsOf v)
  | _ => false

/-- The first entry whose watched source is pending and unmasked (11, R366, step 1). -/
def pendingEntry (s : State) : Option Nat :=
  (List.range 64).findSome? fun i =>
    let e := wakeEntry s (i + 1)
    if field e 31 30 = 1 then
      let x := (getFn s (fun5 (field e 13 9))).int
      if x.latches.getLsbD (field e 8 0) && !x.masks.getLsbD (field e 8 0) then some (i + 1) else none
    else none

/-- WAKE_FIRING (11, R366). -/
def execWakeFiring (w : WakeInput) (s : State) : Out := .next (wakeFires w s)

/-- GTC_ALARM: the kept count has reached WakeGtc (11, R365). -/
def execGtcAlarm (s : State) : Out :=
  .next (if objNum s 0x8000 4 ≠ 0 && objNum s 0x8000 4 ≤ s.gtc.toNat then wakeFires (.input 0) s else s)

/-- PKG_WAKEREQ (11, R368). -/
def execPkgWakereq (s : State) : Out := .next (askWake 0x41 s)

/-- HMP_WAKE_FRAME: the frame is dropped (11, R368). -/
def execHmpWakeFrame (s : State) : Out := .next (askWake 0x42 s)

/-! ### Package sleep (R429 to R431) -/

/-- SleepRefusal: the first condition of R429 that fails, 0 when all hold. -/
def sleepRefusal (s : State) : Nat :=
  if (List.range 3).any fun i => i + 1 < portsOf s.variant && s.power.on.getLsbD (i + 1) then 1
  else if !((getPort s 0).turnOff == .acked && !(getPort s 0).perst) then 2
  else if !(s.cmd.table.isEmpty && s.pool.scrubs.isEmpty) then 3
  else if !(s.win.table.isEmpty && s.win.coh.all fun c => c.1 == .off) then 4
  else if s.obj.ctxs.any (fun e => e.2.fixed.isSome) || s.det.mode == .staging ||
      s.det.mode == .commitPending then 5
  else if (pendingEntry s).isSome then 6
  else 0

/-- SleepRequest is written 1 (R429). -/
def requestSleep (s : State) : State :=
  if s.power.phase ≠ .awake then s
  else
    let r := sleepRefusal s
    modPower (fun x => { x with
      refusal := r
      phase := if r = 0 then .entering else .awake
      mode0 := if r = 0 then s.port0.mode else x.mode0
      wakeCause := if r = 6 then causeWord ((pendingEntry s).getD 0) s.gtc else x.wakeCause }) s

/-- SLEEP_REQUEST (R429). -/
def execSleepRequest (rq : Requester) (s : State) : Out :=
  .next (requestWrite rq ⟨0xB000, 8⟩ (.num 1) (fun _ => none) requestSleep s)

/-- Every lease ends with the range store that holds its entry (R431; 06, R217). -/
def dropAllLeases (s : State) : State :=
  let l := s.trans.leases
  foldState (fun x s =>
    if x.revoking.isEmpty then countPackage 0x0A (emit (.leaseRevoke x.cluster x.slot) s) else s) l
    { s with trans := { s.trans with leases := [] } }

/-- Sleep entry ends: dirty lines are written back, sessions end, caches are lost and every domain is off. A
firing that came meanwhile starts the wake (R430, R431; 11, R369). -/
def enterSleep (s : State) : State :=
  if s.power.phase = .entering then
    let s := foldState backLine (s.pool.stale.map (·.1)) (dropAllLeases (peersDown s))
    let s := { s with
      trans := { s.trans with
        banks := s.trans.banks.map (fun _ => []), walks := [], answers := [], stalled := [], scans := []
        tileHolds := [] }
      ports := s.ports.map fun p => { p with ats := [] } }
    -- the line ciphers and the crypto lanes lose their keys with their supplies
    let s := modSec (fun x => { x with lineKeys := [], laneKeys := [] }) s
    let s := modPower (fun x => { x with phase := .asleep, on := 0, switching := none, fell := 0 }) s
    match s.power.wakeLate with
    | some code => startWake code s
    | none => s
  else s

/-- SLEEP_ENTERED (R430). -/
def execSleepEntered (s : State) : Out := .next (enterSleep s)

/-- The domains that R425 and R426 select. -/
def selectedDomains (s : State) : BitVec 50 :=
  BitVec.ofNat 50 (maskOf ((List.range 50).filter (domainWanted s)))

/-- Port 0 retrains from Detect in the mode it held (R430); its dies count as BUSY (11, R359). -/
def wakePort0 (s : State) : State :=
  let main : Bool := s.power.mode0 == 1
  let s := awaitFallback (dropLink 0 .training { s with idle := 0 })
  let s := modPort0 (fun x => { x with training := main, fromWake := main }) s
  emit (.portTraining 0) (linkNonceOut (modPort 0 (fun x => { x with turnOff := .none }) s))

/-- The event logic takes its state back: the latches of the sources that fired in sleep are set, and the weirs run
(R430; 11, R366, R367). -/
def takeBack (late : List (Fun × Nat)) (s : State) : State :=
  foldState (fun g s => runWeir g s s) (List.finRange 32) (foldState (fun x s => setLatch x.1 x.2 s) late s)

/-- The power-up ends (R430, R431): the event logic takes its state back, what the sleep has held goes on, and a
power-good input that fell in sleep and is still low is lost (R436). -/
def completeWake (s : State) : State :=
  if s.power.phase = .waking && s.power.good.getLsbD 0 && s.power.good.getLsbD 2 then
    let late := s.power.slept
    let lost := s.power.fell &&& ~~~ s.power.good
    -- step 7: the pool keys are loaded before any pool access
    let s := modSec (fun x => { x with lineKeys := poolKeys (secretUsed x 1) }) s
    let s := modPower (fun x => { x with phase := .awake, on := selectedDomains s, slept := [], fell := 0 }) s
    let s := modSync (fun x => { x with state := .locking, inBand := 0, sync := none }) s
    let s := wakePort0 s
    let s := wake (takeBack late s)
    if lost ≠ 0 then raiseError .powerGoodLost { access := 7 } s else s
  else s

/-- WAKE_COMPLETE (R430). -/
def execWakeComplete (s : State) : Out := .next (completeWake s)

/-! ### Clocks and power-good inputs (R432 to R434) -/

/-- Nominal rate of an island in kHz, in the order of R437 (01_architecture, R10). -/
def nominalKhz (s : State) (i : Nat) : Nat :=
  match i with
  | 0 => if s.port0.mode = 1 then 2000000 else 1000000
  | 1 | 2 | 3 => 1000000
  | 10 => 1600000
  | 11 => 500000
  | 12 => 50000
  | _ => 1250000

/-- The island is on the core supply, or its port's domain is on (R432). -/
def islandOn (s : State) (i : Nat) : Bool :=
  i == 12 || (s.power.phase != .asleep && (3 < i || s.power.on.getLsbD i))

/-- An island whose clock is watched: a host-port island only while its link is up (12, R376). -/
def clockWatched (s : State) (i : Nat) : Bool :=
  islandOn s i && (3 < i || portCarries s (Fin.ofNat 4 i))

/-- The rate of a watched island lies outside ±10 % of its nominal rate (12, R376). -/
def clockBad (s : State) (khz : List Nat) (i : Nat) : Bool :=
  let k := khz.getD i 0
  clockWatched s i && (10 * k < 9 * nominalKhz s i || 11 * nominalKhz s i < 10 * k)

/-- A measuring window ends (R433). -/
def measureClocks (khz : List Nat) (s : State) : State :=
  let s := modPower (fun x => { x with
    khz := (List.range 13).map fun i => if islandOn s i then khz.getD i 0 else 0 }) s
  if (List.range 13).any (clockBad s khz) then raiseError .islandClockLost { access := 7 } s else s

/-- CLOCK_MEASURE_WINDOW (R433). -/
def execClockMeasureWindow (khz : List Nat) (s : State) : Out := .next (measureClocks khz s)

/-- Power-good inputs change: a fall out of sleep is POWER_GOOD_LOST, any change fires wake input 3, and with
every input low the package is power-cycled (R434; 12, R371). -/
def powerGoodChange (levels : BitVec 4) (s : State) : State :=
  let old := s.power.good
  if levels = old then s
  else
    let falls := old &&& ~~~ levels
    let asleep : Bool := s.power.phase == .asleep || s.power.phase == .waking
    let s := modPower (fun x => { x with
      good := levels
      coreRise := if levels.getLsbD 0 && !old.getLsbD 0 then some s.gtc else x.coreRise
      cycled := x.cycled || levels == 0
      fell := if asleep then x.fell ||| falls else x.fell }) s
    let s := if levels.getLsbD 3 && !old.getLsbD 3 then clustersWake s else s
    let s := wakeFires (.input 3) s
    if falls ≠ 0 && !asleep then raiseError .powerGoodLost { access := 7 } s else s

/-- POWER_GOOD_CHANGE (R434). -/
def execPowerGoodChange (levels : BitVec 4) (s : State) : Out := .next (powerGoodChange levels s)

/-! ### Telemetry (R435) -/

/-- A LINEAR11 word, times 2^16 (R435). -/
def linear11 (w : U16) : Int :=
  toSigned 11 w.toNat * 2 ^ (toSigned 5 (w.toNat / 2048) + 16).toNat

/-- The reads of a poll: READ_VIN and READ_IIN of each converter, by its address (R435). -/
def pollReads : List (Nat × Nat) := [(0x40, 0x88), (0x40, 0x89), (0x41, 0x88), (0x41, 0x89)]

/-- TELEMETRY_POLL: the converters are read (R435). -/
def execTelemetryPoll (s : State) : Out :=
  .next (foldState (fun r s => emit (.pmbusRead r.1 r.2) s) pollReads (modPower (fun x => { x with polled := true }) s))

/-- Reads in a row that a converter has not answered, after its two reads of this poll, and whether three in a
row have failed (R435). -/
def missesAfter (n : Nat) (v i : Option U16) : Nat × Bool :=
  let a := if v.isSome then 0 else n + 1
  let b := if i.isSome then 0 else a + 1
  (b, 3 ≤ a || 3 ≤ b)

/-- The converters' replies: the values are updated together once both have answered (R435). -/
def takeReplies (vin iin : List (Option U16)) (s : State) : State :=
  if s.power.polled then
    let get (l : List (Option U16)) (k : Nat) : Option U16 := l.getD k none
    let m (k : Nat) : Nat × Bool := missesAfter (s.power.misses.getD k 0) (get vin k) (get iin k)
    let s := modPower (fun x => { x with
      polled := false, misses := [(m 0).1, (m 1).1]
      telValid := x.telValid && !(m 0).2 && !(m 1).2 }) s
    match get vin 0, get iin 0, get vin 1, get iin 1 with
    | some v0, some i0, some v1, some i1 =>
      modPower (fun x => { x with
        readings := [(v0, i0), (v1, i1)]
        millivolts := ((linear11 v0 + linear11 v1) * 1000 / 2 / 65536).toNat % 2 ^ 32
        milliamps := ((linear11 i0 + linear11 i1) * 1000 / 65536).toNat % 2 ^ 32
        milliwatts :=
          ((linear11 v0 * linear11 i0 + linear11 v1 * linear11 i1) * 1000 / 2 ^ 32).toNat % 2 ^ 32
        telGtc := s.gtc, telValid := true }) s
    | _, _, _, _ => s
  else s

/-- TELEMETRY_REPLY (R435). -/
def execTelemetryReply (vin iin : List (Option U16)) (s : State) : Out := .next (takeReplies vin iin s)

end Sys2Proof.Machine
end

