-- ==== Sys2Proof/Machine/Errors.lean ====
section
/-!
DEFINITION. The commands of the error collector: raised errors, broken wires, releases, the error pins and
the block reset (12_errors).
-/
namespace Sys2Proof.Machine

def modErr (f : ErrSt → ErrSt) (s : State) : State := { s with err := f s.err }

/-! ### Raising (R374, R376, R379, R384) -/

/-- An uncorrectable error in a context's own state: the context is lost with POISONED_DATA (R376). -/
def contextStateLost (i : ErrInfo) (s : State) : State :=
  match i.ctx with
  | none => raiseError .contextStateUncorrectable i s
  | some c =>
    let lost := if (ctx? s c).any fun x => x.state == .ready then [c] else []
    loseContext c .poisonedData [] 0 i (raiseWith .contextStateUncorrectable i lost s)

/-- The switched domain that a raised pair lies in: the one that the command names, for a bank of the range store, the
event logic, a crypto lane and what else has no number in the master; else by the source or by the unit that the master
names (R380; 14, R424): none where that is always on or on the core supply. DEDUCED. -/
def pairDomain (e : Src) (i : ErrInfo) : Option Nat :=
  if i.domain.isSome then i.domain
  else match e with
  | .port0Fallback | .port0LinkLost | .d2dIntegrity => some 0
  | .mgmtCoreFault | .storedRecordLost | .storeFailed => some 48
  | _ =>
    if i.kind = 1 then some (i.unit % 4)
    else if i.kind = 2 then some (42 + i.unit % 4)
    else if i.kind = 3 then some (12 + i.unit / 32 % 8)
    else if i.kind = 4 then some (28 + i.unit / 4 % 8)
    else if i.kind = 9 then some 48
    else if i.kind = 10 then some (36 + i.unit % 2)
    else none

/-- The pairs of the always-on island, which package sleep leaves powered (R388; 14, R430, R433, R434). -/
def alwaysOnPair (e : Src) : Bool := e == .powerGoodLost || e == .islandClockLost || e == .errPinMismatch

/-- The isolation clamps of a domain that is off or being switched off, and in package sleep of everything but the
always-on island, hold a pair quiet (R373; 14, R428). -/
def pairClamped (s : State) (e : Src) (i : ErrInfo) : Bool :=
  !alwaysOnPair e && (s.power.phase == .asleep || (pairDomain e i).any fun d =>
    !s.power.on.getLsbD d || s.power.switching == some (d, false))

/-- Whose range-store entry an error names: an incoming window's, or a context's (R376). -/
def faultyOwner (i : ErrInfo) : Option Who :=
  match i.window with
  | some w => some (.win w)
  | none => if i.addressKind = 2 then i.ctx.map .ctx else none

/-- A corrected error in an unlocked range-store entry, named by its context or window and the address in it: the entry
is dropped, its leases are revoked, and the next access walks again (R376). -/
def dropFaulty (i : ErrInfo) (s : State) : State :=
  match faultyOwner i with
  | none => s
  | some who =>
    let hit := (asker s who).bind fun a => storeLookup s who a (i.address.toNat / 4096)
    match hit.filter (!·.locked) with
    | none => s
    | some x =>
      let b := bankOf s who
      revokeWhere (fun l => l.entry == x.id) .replace (setBank b ((getBank s b).filter (·.id != x.id)) s)

/-- A source raises its pair. A failure report fences the unit that it names; what an error does to a context or to
an entry happens also where its pair is not watched (R375, R376; 10, R339). -/
def raiseSource (e : Src) (i : ErrInfo) (s : State) : State :=
  if pairClamped s e i then s
  else match e with
  | .contextStateUncorrectable => contextStateLost i s
  | .internalCorrected => dropFaulty i (raiseError e i s)
  | .unitFenced =>
    if i.kind = 5 then fenceUnit (.cluster i.unit) s
    else if i.kind = 4 then fenceUnit (.engine (Fin.ofNat 32 i.unit)) s
    else raiseError e i s
  | _ => raiseError e i s

/-- ERROR_RAISE (R379). -/
def execErrorRaise (e : Src) (i : ErrInfo) (s : State) : Out := .next (raiseSource e i s)

/-- A pair reads broken: WIRE_FAULT with its source code as the address, the S3 source that it serves as well, and the
pair is ignored from then on (R374). The two errors come together, and the higher class is captured (R393). -/
def breakWire (e : Src) (s : State) : State :=
  if s.err.wireFaults.contains e || pairClamped s e {} then s
  else
    let s := if srcClass e = 3 then raiseError e { access := 7 } s else s
    let s := raiseError .wireFault { address := w64 (srcCode e), access := 7 } s
    modErr (fun x => { x with wireFaults := x.wireFaults ++ [e] }) s

/-- BROKEN_WIRE (R374). -/
def execBrokenWire (e : Src) (s : State) : Out := .next (breakWire e s)

/-- WATCHDOG_EXPIRY: MGMT_CORE_FAULT; a management controller that is off has no watchdog running (R373, R384). -/
def execWatchdogExpiry (s : State) : Out :=
  .next (raiseSource .mgmtCoreFault { kind := 9, access := 7 } s)

/-! ### Releases (R381, R389, R390, R394) -/

/-- ERR_CAPTURE_RELEASE (R381, R396). -/
def execErrCaptureRelease (rq : Requester) (s : State) : Out :=
  .next (requestWrite rq ⟨0x9001, 0x0B⟩ (.num 1) (fun _ => none)
    (modErr (fun x => { x with capture := Capture.init })) s)

/-- A write of FnErrRelease (R394). -/
def writeFnRelease (g : Fun) (v : U64) (s : State) : State :=
  if v.getLsbD 0 then modFn g (fun x => { x with capture := Capture.init }) s else s

/-- FN_ERR_RELEASE (R394). -/
def execFnErrRelease (g : Fun) (v : U64) (s : State) : Out := .next (barWrite g (writeFnRelease g v) s)

/-- Some error that selected ERR_PIN since the last release has not been left (R371, R389). -/
def pinHeld (s : State) : Option EStatus :=
  if !s.err.pinContexts.isEmpty || s.err.pinBlock || s.err.pinFatal then some .busy else none

/-- The pair has read ERROR for 1 ms (R389). -/
def heldLong (s : State) : Bool := 1250000 ≤ (s.gtc - s.err.pinGtc).toNat

/-- ERROR ends (R389). -/
def endPin (s : State) : State :=
  emit (.errPins false) (modErr (fun x => { x with pin := false, releaseWaiting := false }) s)

/-- ErrOutRelease is written 1 (R389). -/
def releasePin (s : State) : State :=
  if !s.err.pin then s
  else if heldLong s then endPin s
  else modErr (fun x => { x with releaseWaiting := true }) s

/-- ERR_OUT_RELEASE (R389). -/
def execErrOutRelease (rq : Requester) (s : State) : Out :=
  .next (requestWrite rq ⟨0x9000, 6⟩ (.num 1) pinHeld releasePin s)

/-- ERR_HOLD_EXPIRY: the 1 ms hold is over and a release that waits takes effect (R389). -/
def execErrHoldExpiry (s : State) : Out :=
  .next (if s.err.pin && s.err.releaseWaiting && heldLong s then endPin s else s)

/-- ERR_OUT_MISMATCH (R388). -/
def execErrOutMismatch (s : State) : Out :=
  .next (if s.err.mismatch then s
    else raiseError .errPinMismatch { access := 7 } (modErr (fun x => { x with mismatch := true }) s))

/-- ERR_OUT_MISMATCH_END (R388). -/
def execErrOutMismatchEnd (s : State) : Out := .next (modErr (fun x => { x with mismatch := false }) s)

/-- Clear a counter with an object of its own: a counter of range 0xD000, ErrCount or ErrOutAssertions (R390,
R396, R397). -/
def clearCounter (ref : Ref) (s : State) : State :=
  if 0xD000 ≤ ref.index && ref.index ≤ 0xD11F then clearCount ref.index ref.sub s
  else if 0x9101 ≤ ref.index && ref.index ≤ 0x911A && ref.sub == 3 then
    modErr (fun x => { x with counts := assocDel x.counts (ref.index - 0x9100) }) s
  else if ref.index == 0x9000 && ref.sub == 5 then modErr (fun x => { x with assertions := 0 }) s
  else s

/-- COUNTER_CLEAR: a write of any value (R390). -/
def execCounterClear (rq : Requester) (ref : Ref) (s : State) : Out :=
  .next (requestWrite rq ref (.num 0) (fun _ => none) (clearCounter ref) s)

/-! ### The block reset (R385, R386) -/

/-- Issue the event records that are formed, before a reset starts (R379). -/
def flushRecords (s : State) : State :=
  foldState (fun g s =>
    foldState (fun _ s => writeEventRecord g s) ((getFn s g).int.held ++ (getFn s g).int.formed) s)
    (List.finRange 32) s

/-- The content of the lines that dies hold is undefined after the reset (R385). -/
def freeDieLines (s : State) : State :=
  foldState (fun l s => if l.dies.isEmpty then s else freeSpan l.address 64 s) s.win.filter s

/-- The work of every command ends: parts are cancelled, credits abandoned, and the destination of an
unfinished transfer is undefined (R385; 02, R71). -/
def stopEverything (s : State) : State :=
  foldState (fun x s => abandonCredit x (cancelParts x (freeTransfer x s)))
    (s.cmd.table.filter fun x => match x.stage with | .ended _ => false | _ => true) s

/-- Every memory object is freed; its scrub is queued (R385; 13, R410). -/
def freeEveryObject (s : State) : State :=
  let s := { s with obj := { s.obj with
    mirrors := []
    objs := s.obj.objs.map fun o => { o with freed := true, freer := none, changes := [], grants := [] }
    gens := s.obj.objs.foldl (fun l o => assocPut l o.slot (o.gen + 1)) s.obj.gens } }
  foldState (fun o s => freeFinish o.slot s) s.obj.objs s

/-- BAR0 blocks 0x0000 to 0x3000 of a function at their reset values (R386); FnResetGtc is written at the end. -/
def resetBlocks (x : FnSt) : FnSt :=
  { x with stallGtc := 0, admin := AdminQ.init, faultq := FaultQ.init, int := IntSt.init }

/-- A window request that is pending ends with its window (08, R262). -/
def endWindowRequests (s : State) : State :=
  let s := foldState (fun e s => resultOk e.2.owner e.1 2 s) s.win.table s
  foldState (fun e s => resultOk e.1 e.2 4 s) s.win.refreshing s

/-- No part of an earlier epoch is left: the clusters that kept its word apply the current one (10, R345). -/
def settleEpochs (s : State) : State :=
  { s with det := { s.det with
    lagging := []
    epochs := s.det.lagging.foldl (fun l n => assocPut l n s.det.epoch.toNat) s.det.epochs } }

/-- Everything that a block reset takes away (R385). -/
def wipe (s : State) : State :=
  let s := dropAllLeases (freeEveryObject (stopEverything (freeDieLines (endWindowRequests s))))
  let s := foldState (fun p s => quarantine p (fun _ => true) s) (List.finRange 4) s
  let before := s
  let s := { s with
    obj := { s.obj with ctxs := [], ctxFreed := s.obj.ctxFreed ++ s.obj.ctxs.map (·.1) }
    cmd := CmdSt.init
    trans := { s.trans with
      banks := s.trans.banks.map fun _ => [], walks := [], scans := [], answers := [], tileHolds := [] }
    win := { s.win with
      table := [], sends := [], recvs := [], refreshing := [], filter := [], snoops := [], waiting := []
      coh := s.win.coh.map fun _ => (.off, .none) }
    fns := s.fns.map resetBlocks }
  let s := foldState (fun p s => settleIntx before p s) (List.finRange 4) s
  -- lookups and frames that still wait find their contexts and windows gone
  serveInboxes (serveStalled (settleEpochs s))

/-- A load of the firmware image that a block reset ends leaves FirmwareState ABSENT: DEDUCED (15, R451, R461). -/
def loadStopped : FwState → FwState
  | .loading => .absent
  | f => f

/-- A bring-up step that runs ends with BLOCK_RESET, and before READY the state falls back to POWERED; nothing goes on
reading the firmware image (15, R461). -/
def endStep (s : State) : State :=
  let b := s.boot
  let s := { s with boot := { b with
    state := if b.state = .ready || b.state = .resetDone then b.state else .powered
    fw := loadStopped b.fw } }
  if b.result = .running then { s with boot := { s.boot with result := .blockReset, stepGtc := s.gtc } } else s

/-- Start the block reset (R385). -/
def startBlockReset (s : State) : State :=
  let s := flushRecords s
  wipe (endStep (modErr (fun x => { x with pkg := .resetting, blockPending := false }) s))

/-- A BlockReset write while one runs is BUSY (R396). -/
def blockBusy (s : State) : Option EStatus := if s.err.pkg = .resetting then some .busy else none

/-- BLOCK_RESET: by a write of 1 to BlockReset, or by the reaction that selected it (R378, R385). -/
def execBlockReset (w : Option Requester) (s : State) : Out :=
  .next (match w with
    | some rq => requestWrite rq ⟨0x9000, 3⟩ (.num 1) blockBusy startBlockReset s
    | none =>
      if s.err.blockPending && s.err.pkg ≠ .fatal && s.err.pkg ≠ .resetting then startBlockReset s else s)

/-- The management core restarts from the boot ROM: the firmware is gone and MR1 and MR3 are cleared (R384; 13,
R412). -/
def restartCore (s : State) : State :=
  { s with
    boot := { s.boot with
      fw := .absent, version := 0, secVersion := 0, loadError := 0, digest := [], tileDigest := []
      image := [], blocks := [], issued := 0, uefi := [], loaded := [], waits := [], failedTiles := [] }
    sec := { s.sec with
      mr := (s.sec.mr.set 1 (List.replicate 48 0)).set 3 (List.replicate 48 0), coreHalted := false, coreMem := [] } }

/-- BringUpState after a block reset that a READY package has had: READY is kept, except after a core restart (15,
R461). -/
def bringUpAfter (st : BringUp) (restart : Bool) : BringUp :=
  match st with
  | .ready => if restart then .qualified else .ready
  | st => st

/-- Functions of a package that is not ready any more read NOT_READY (15, R461). -/
def unready (x : FnSt) : FnSt :=
  match x.state with
  | .active | .stalling | .stalled => { x with state := .notReady }
  | _ => x

/-- Port 0 trains again in fall-back mode, where PERST0_N lets it (R385; 02, R33, R78). -/
def trainPort0 (s : State) : State :=
  if (getPort s 0).perst then awaitFallback (dropLink 0 .down s)
  else emit (.portTraining 0) (linkNonceOut (awaitFallback (dropLink 0 .training s)))

/-- The block reset ends: the pairs have been tested, port 0 trains again in fall-back mode, and FnResetGtc of
every function is written (R375, R385, R386; 11, R359). A step that began during the reset ends with it (15, R461). -/
def endBlockReset (badPairs : List Src) (s : State) : State :=
  let restart := s.err.coreRestart
  let s := wipe (endStep s)
  let s := if restart then restartCore s else s
  let st := bringUpAfter s.boot.state restart
  let lost : Bool := st != .ready && s.boot.state == .ready
  let s := { s with
    boot := { s.boot with state := st }
    idle := 0
    fns := s.fns.map fun x =>
      let x := if lost then unready x else x
      { x with resetGtc := s.gtc } }
  trainPort0 (modErr (fun x => { x with
    pkg := .normal, wireFaults := badPairs, coreRestart := false, pinContexts := [], pinBlock := false }) s)

/-- BLOCK_RESET_DONE (R385). -/
def execBlockResetDone (badPairs : List Src) (s : State) : Out :=
  .next (if s.err.pkg = .resetting && !s.boot.resetting then endBlockReset badPairs s else s)

end Sys2Proof.Machine
end

