-- ==== Sys2Proof/Machine/Net.lean ====
section
/-!
DEFINITION. Addresses of the management network and the frames that the device sends on it
(03_management_dictionary, R98, R99).
-/
namespace Sys2Proof.Machine

def modMgmt (f : MgmtSt → MgmtSt) (s : State) : State := { s with mgmt := f s.mgmt }

/-- The management network carries frames: its link is up and the island is powered (R98; 14, R430). -/
def netUp (s : State) : Bool := s.mgmt.linkUp && s.power.phase != .asleep

/-- A packet of `n` bytes of IPv6 arrives: no jumbo frame, and no header of those that are discarded (R98, R99). -/
def netIn (s : State) (a : NetAddr) (n : Nat) : Bool := netUp s && !a.extended && n ≤ 1500

/-- Bytes of an HMP frame with a payload (R100): header and tag. -/
def hmpBytes (sid : U32) (n : Nat) : Nat := 32 + n + (if sid = 0 then 0 else 16)

/-- An HMP frame arrives at MgmtUdpPort (R99). A frame whose payload exceeds 1,404 bytes and still fits its packet gets
no outcome from R100: it is dropped without an answer and counted nowhere, a DESIGN CHOICE. -/
def hmpIn (s : State) (a : NetAddr) (sid : U32) (n : Nat) : Bool :=
  netIn s a (48 + hmpBytes sid n) && n ≤ 1404 && a.toPort == s.mgmt.udpPort

/-- The link-local address: the modified EUI-64 of the MAC address (R99). -/
def linkLocal : Bytes :=
  let m (i : Nat) : U8 := BitVec.ofNat 8 (Config.mgmtMac.toNat >>> (8 * (5 - i)))
  [0xFE, 0x80, 0, 0, 0, 0, 0, 0, m 0 ^^^ 2, m 1, m 2, 0xFF, 0xFE, m 3, m 4, m 5]

/-- The bits of an address from its first byte on, the most significant first. -/
def addressBits (a : Bytes) : List Bool :=
  a.flatMap fun b => (List.range 8).map fun i => b.getLsbD (7 - i)

/-- MgmtIpv6Address; all zero means none (R115). -/
def ownAddress (s : State) : Bytes := objBytes s 0x1100 3

/-- A target of a Neighbor Solicitation is an address of the device (R99). -/
def isOwn (s : State) (a : Bytes) : Bool :=
  a == linkLocal || (a == ownAddress s && a.any (· != 0))

/-- A link-local address: its first ten bits are those of FE80. -/
def isLinkLocal (a : Bytes) : Bool :=
  (addressBits a).take 10 == [true, true, true, true, true, true, true, false, true, false]

/-- A destination is on-link (R99). -/
def onLink (s : State) (a : Bytes) : Bool :=
  let n := objNum s 0x1100 4
  isLinkLocal a || (addressBits a).take n == (addressBits (ownAddress s)).take n

/-- The address whose MAC a frame goes to; none when it goes to the MAC address of the request it answers
(R99). -/
def nextHop (s : State) (a : Bytes) : Option Bytes :=
  if onLink s a then some a
  else
    let gw := objBytes s 0x1100 8
    if gw.all (· == 0) then none else some gw

/-- A frame to a resolved MAC address (R99). -/
def towards (mac : U64) (m : Msg) : Msg :=
  match m with
  | .hmp d opcode st sid seq gtc payload b => .hmp { d with mac := mac } opcode st sid seq gtc payload b
  | .echoReply d payload => .echoReply { d with mac := mac } payload
  | m => m

/-- Send a frame: at once to the resolved MAC of its next hop, or to the MAC of the request that it answers; else after
a Neighbor Solicitation has been answered (R99). -/
def sendNet (dst : NetAddr) (m : Msg) (s : State) : State :=
  match nextHop s dst.ip with
  | none => emit m s
  | some hop =>
    match s.mgmt.neighbours.find? fun e => e.1 == hop with
    | some e => emit (towards e.2 m) s
    | none =>
      let s := if s.mgmt.unsent.any fun e => e.1 == hop then s else emit (.neighborSolicitation hop) s
      modMgmt (fun x => { x with unsent := x.unsent ++ [(hop, m)] }) s

/-! ### HMP frames (R100, R101) -/

/-- Frame status codes (R110). -/
def fStatusCode : FStatus → Nat
  | .ok => 0x0000
  | .badOpcode => 0x0001
  | .noSession => 0x0002
  | .authFailed => 0x0003
  | .slotLocked => 0x0004
  | .tooManySessions => 0x0005
  | .responseTooLarge => 0x0006
  | .noCredential => 0x0007
  | .badPayload => 0x0008

/-- The 32-byte header of a response (R100): Kind 2, Version 1, Flags 0. -/
def hmpHeader (opcode : Nat) (st : FStatus) (sid seq : U32) (gtc : U64) (n : Nat) : Bytes :=
  leBytes 8 (fStatusCode st * 2 ^ 48 + opcode % 2 ^ 16 * 2 ^ 32 + 2 * 2 ^ 24 + 2 ^ 16 + 0x4D48) ++
    leBytes 8 (seq.toNat * 2 ^ 32 + sid.toNat) ++ leBytes 8 (n % 2 ^ 16) ++ leBytes 8 gtc.toNat

/-- The nonce of a frame: SessionId, Sequence, and 0 for a request or 1 for a response (R101). -/
def hmpNonce (sid seq : U32) (response : Bool) : Bytes :=
  leBytes 4 sid.toNat ++ leBytes 4 seq.toNat ++ leBytes 4 (bit response 0)

/-- A response: under a session key its payload is encrypted, and the tag follows (R100, R101). -/
def hmpResponse (key : Option Bytes) (dst : NetAddr) (opcode : Nat) (st : FStatus) (sid seq : U32) (gtc : U64)
    (payload : Bytes) : Msg :=
  let h := hmpHeader opcode st sid seq gtc payload.length
  .hmp dst opcode st sid seq gtc payload (match key with
    | none => h ++ payload
    | some k =>
      let c := gcmCipher k (hmpNonce sid seq true) payload
      h ++ c ++ gcmTag k (hmpNonce sid seq true) h c)

/-- The key of an open session (R104). -/
def sessionKey (s : State) (sid : U32) : Option Bytes :=
  (s.mgmt.sessions.find? fun x => x.sid == sid && x.opened).map (·.key)

/-- SessionId and Sequence of a frame that has arrived. -/
def hmpSid (b : Bytes) : U32 := BitVec.ofNat 32 (numAt b 8 4)
def hmpSeq (b : Bytes) : U32 := BitVec.ofNat 32 (numAt b 12 4)

/-- A frame with a wrong Magic or Version, or with a PayloadLength that disagrees with the UDP length (R101). -/
def hmpBad (b : Bytes) : Bool :=
  b.length < 32 || numAt b 0 2 != 0x4D48 || numAt b 2 1 != 1 || hmpBytes (hmpSid b) (numAt b 16 2) != b.length

/-- The tag of a request in an open session fails (R101). -/
def hmpTagFails (s : State) (b : Bytes) : Bool :=
  hmpSid b != 0 && (sessionKey s (hmpSid b)).any fun k =>
    let n := numAt b 16 2
    gcmTag k (hmpNonce (hmpSid b) (hmpSeq b) false) (b.take 32) ((b.drop 32).take n) != b.drop (32 + n)

/-- MGMT_LINK_CHANGE (R98). -/
def execMgmtLinkChange (up : Bool) (s : State) : Out := .next (modMgmt (fun x => { x with linkUp := up }) s)

/-- NEIGHBOR_SOLICITATION of an own address is answered (R99). -/
def execNeighborSolicitation (src : NetAddr) (target : Bytes) (s : State) : Out :=
  .next (if netIn s src 72 && isOwn s target then emit (.neighborAdvertisement src target) s else s)

/-- A neighbour's MAC address is known: the frames that wait for it leave to it (R99). -/
def learnNeighbour (a : Bytes) (mac : U64) (s : State) : State :=
  let ready := s.mgmt.unsent.filter fun e => e.1 == a
  let s := modMgmt (fun x => { x with
    neighbours := (a, mac) :: x.neighbours.filter fun e => e.1 != a
    unsent := x.unsent.filter fun e => e.1 != a }) s
  foldState (fun e s => emit (towards mac e.2) s) ready s

/-- NEIGHBOR_ADVERTISEMENT (R99). -/
def execNeighborAdvertisement (src : NetAddr) (a : NeighborAdv) (s : State) : Out :=
  .next (if netIn s src 72 then learnNeighbour a.target a.mac s else s)

/-- ECHO_REQUEST is answered with Echo Reply (R99). -/
def execEchoRequest (src : NetAddr) (payload : Bytes) (s : State) : Out :=
  .next (if netIn s src (48 + payload.length) then sendNet src (.echoReply src payload) s else s)

end Sys2Proof.Machine
end

