-- ==== Sys2Proof/Machine/Security.lean ====
section
/-!
DEFINITION. Attestation over SPDM, debug state, fuses, the DRBG and the test access port
(13_security_attestation). Message layouts, codes and flag bits of SPDM 1.3 are PRESUMED from that
specification.
-/
namespace Sys2Proof.Machine

/-- Code of FunctionState (02, R79). -/
def fnStateCode : FnState → Nat
  | .absent => 0
  | .reset => 1
  | .notReady => 2
  | .active => 3
  | .stalling => 4
  | .stalled => 5
  | .aborting => 6

/-- Code of DebugState (R420). -/
def debugCode : DebugState → Nat
  | .locked => 0
  | .unlocked => 1
  | .rma => 2

/-- FuseState (R418). -/
def fuseState (s : State) : Nat := variantCode s.variant * 256 + s.sec.fuses

/-! ### The report body (R417) -/

/-- The 64-byte header of the report body (R417). -/
def reportHeader (s : State) : Bytes :=
  leBytes 8 (objNum s 0x2000 1 * 2 ^ 32 + variantCode s.variant * 2 ^ 24 + 2 ^ 16 + 0x5241)
    ++ serialNumber
    ++ leBytes 8 (Config.bootRomVersion.toNat * 2 ^ 32 + s.boot.version.toNat)
    ++ leBytes 8 s.gtc.toNat
    ++ leBytes 8 (fuseState s)
    ++ leBytes 8 (Config.fabricGroupId.toNat * 2 ^ 32 + s.win.localId.toNat * 2 ^ 16 + debugCode s.sec.debug)
    ++ leBytes 8 (s.det.generation.toNat * 2 ^ 32 + s.boot.secVersion % 2 ^ 16 * 2 ^ 16 + s.sec.minSec)

/-- One 16-byte entry of WindowsDigest (R417). -/
def windowEntry (e : WindowId × Win) : Bytes :=
  leBytes 2 e.1.toNat ++ leBytes 1 (bit e.2.atomic 2 + bit e.2.write 1 + bit e.2.read 0) ++ [0]
    ++ leBytes 2 e.2.srcMatch.toNat ++ leBytes 2 e.2.mask.toNat ++ leBytes 8 e.2.table.toNat

/-- WindowsDigest of a function (R417). -/
def windowsDigest (s : State) (g : Fun) : Bytes :=
  (sha384 ((s.win.table.filter fun e => e.2.owner == g && e.2.state == .opened).flatMap windowEntry)).take 24

/-- The record of a function in the report body (R417). -/
def functionRecord (s : State) (g : Fun) : Bytes :=
  if fnPresent s g then
    let e := extentOf s g
    leBytes 8 (fnStateCode (getFn s g).state * 2 ^ 32 + objNum s (0x4100 + g.val) 1)
      ++ leBytes 8 (objNum s (0x4100 + g.val) 3 * 2 ^ 32 + objNum s (0x4100 + g.val) 5)
      ++ leBytes 8 e.1 ++ leBytes 8 e.2
      ++ leBytes 8 (objNum s (0x6100 + g.val) 1 * 2 ^ 32 + windowsOf s g)
      ++ windowsDigest s g
  else List.replicate 64 0

/-- The report body: 2,112 bytes, also AttestationReportBody (R417). -/
def reportBody (s : State) : Bytes :=
  reportHeader s ++ (List.finRange 32).flatMap (functionRecord s)

/-! ### SPDM messages (R415, R416) -/

/-- The same requester: a DOE instance, or a source address and UDP port (R415). -/
def sameConn : SpdmConn → SpdmConn → Bool
  | .doe p, .doe q => p == q
  | .net a, .net b => a.ip == b.ip && a.port == b.port
  | _, _ => false

def onNet : SpdmConn → Bool
  | .net _ => true
  | .doe _ => false

/-- DataTransferSize (R415). -/
def transferSize (c : SpdmConn) : Nat := if onNet c then 1404 else 65536

/-- An SPDM message: version, code, two parameters, body. -/
def spdmMsg (code p1 p2 : Nat) (body : Bytes) : Bytes :=
  [if code == 0x84 || code == 0x04 then 0x10 else 0x13, BitVec.ofNat 8 code, BitVec.ofNat 8 p1,
    BitVec.ofNat 8 p2] ++ body

/-- The bytes of a request whose operands give its parameters and its first bytes. -/
def spdmBytes (c : SpdmReq) (code : Nat) (p1 p2 : U8) (first : Bytes) : Bytes :=
  c.version :: BitVec.ofNat 8 code :: p1 :: p2 :: (first ++ c.body)

/-- Code of an SPDM message. -/
def spdmCode (m : Bytes) : Nat := (m.getD 1 0).toNat

/-- An ERROR response: its code and data. -/
def spdmError (code info : Nat) : Bytes := spdmMsg 0x7F code info []

/-- Send a response under the Sequence of the frame that it answers (03, R100). -/
def sendSpdm (c : SpdmConn) (seq : U32) (m : Bytes) (s : State) : State :=
  match c with
  | .net a => sendNet a (hmpResponse none a 0x0050 .ok 0 seq s.gtc m) s
  | .doe _ => emit (.spdm c (spdmCode m) m) s

/-- The connection of a requester. -/
def spdmConn? (s : State) (c : SpdmConn) : Option SpdmSt := s.sec.spdm.find? fun x => sameConn x.conn c

/-- Put a connection in front: the most recently used. -/
def putConn (x : SpdmSt) (s : State) : State :=
  modSec (fun y => { y with spdm := x :: y.spdm.filter fun z => !sameConn z.conn x.conn }) s

/-- Draw `n` bytes from the DRBG (R404). -/
def drawBytes (n : Nat) (s : State) : State × Bytes :=
  ({ draw s with sec := { s.sec with requests := s.sec.requests + 1 } },
   (List.range n).map (Config.drbgByte s.draws))

/-- A signature made with IdentityKey over a transcript (R415). -/
def signWith (t : Bytes) (s : State) : State × Bytes :=
  (draw s, (List.range 96).map (Config.identitySignature s.draws t))

/-- IdentityCertChain (R423). -/
def certChain : Bytes := Config.identityCertChain.take 4096

/-- One measurement block: index, DMTF value type and value (R416). -/
def measurement (index type : Nat) (v : Bytes) : Bytes :=
  leBytes 1 index ++ [1] ++ leBytes 2 (v.length + 3) ++ leBytes 1 type ++ leBytes 2 v.length ++ v

/-- The blocks of R416 with the indices they answer to; a raw value has bit 7 of its type set. -/
def measurements (s : State) : List (Nat × Bytes) :=
  [(1, measurement 1 0x00 (s.sec.mr.getD 0 [])), (2, measurement 2 0x01 (s.sec.mr.getD 1 [])),
   (3, measurement 3 0x86 (leBytes 4 s.boot.version.toNat)),
   (4, measurement 4 0x87 (leBytes 4 s.boot.secVersion)),
   (5, measurement 5 0x02 (s.sec.mr.getD 2 [])), (6, measurement 6 0x02 (s.sec.mr.getD 3 [])),
   (0x10, measurement 0x10 0x84 (reportBody s))]

/-- CAPABILITIES: CTExponent 20, the flags CERT, CHAL, MEAS with signatures, MEAS_FRESH and CHUNK, and the
sizes (R415). -/
def capabilities (c : SpdmConn) : Bytes :=
  spdmMsg 0x61 0 0 ([0, 20, 0, 0] ++ leBytes 4 0x20036 ++ leBytes 4 (transferSize c) ++ leBytes 4 16384)

/-- ALGORITHMS: DMTF, ECDSA P-384, SHA-384 (R415). -/
def algorithms : Bytes :=
  spdmMsg 0x63 0 0 (leBytes 2 36 ++ [1, 0] ++ leBytes 4 4 ++ leBytes 4 0x80 ++ leBytes 4 2
    ++ List.replicate 16 0)

/-- Requests that the responder answers (R415). -/
def spdmAnswered : List Nat := [0x84, 0xE1, 0xE3, 0x81, 0x82, 0x83, 0xE0, 0x85, 0x86]

/-- The least length of a request in SPDM 1.3. -/
def spdmLeast (m : Bytes) : Nat :=
  match spdmCode m with
  | 0xE1 => 20
  | 0xE3 => 32
  | 0x82 => 8
  | 0x83 => 44
  | 0xE0 => if (m.getD 2 0).getLsbD 0 then 45 else 12
  | 0x85 => if numAt m 4 2 = 0 then 16 else 12
  | 0x86 => 6
  | _ => 4

/-- Fields that a request may hold: sizes of at least 42 bytes with room for a transfer; an offer of the algorithms
of R415; no summary but of the trusted base or of all; measurements signed for slot 0. -/
def spdmFieldsOk (m : Bytes) : Bool :=
  match spdmCode m with
  | 0xE1 => 42 ≤ numAt m 12 4 && numAt m 12 4 ≤ numAt m 16 4
  | 0xE3 => (m.getD 6 0).getLsbD 0 && (m.getD 8 0).getLsbD 7 && (m.getD 12 0).getLsbD 1
  | 0x83 => [0, 1, 0xFF].contains (m.getD 3 0).toNat
  | 0xE0 => !(m.getD 2 0).getLsbD 0 || (m.getD 36 0).toNat % 16 == 0
  | _ => true

/-- The error of a request that is no message of SPDM 1.3: VersionMismatch where its version byte is not 1.3's (1.0's
for GET_VERSION), InvalidRequest where it is short or a field is not allowed (R415). -/
def spdmFault (m : Bytes) : Option Bytes :=
  if m.getD 0 0 ≠ (if spdmCode m = 0x84 then 0x10 else 0x13) then some (spdmError 0x41 0)
  else if m.length < spdmLeast m || !spdmFieldsOk m then some (spdmError 0x01 0)
  else none

/-- GET_CERTIFICATE: a portion of the chain, with the length that remains (R415). -/
def certificate (slot offset length : Nat) : Bytes :=
  if slot ≠ 0 || certChain.length ≤ offset then spdmError 0x01 0
  else
    let n := min length (certChain.length - offset)
    spdmMsg 0x02 slot 0 (leBytes 2 n ++ leBytes 2 (certChain.length - offset - n)
      ++ sliceBytes certChain offset n)

/-- MeasurementSummaryHash of a CHALLENGE: none, the trusted base's blocks 1 to 4, or every block. -/
def summaryHash (s : State) (type : Nat) : Bytes :=
  match type with
  | 0 => []
  | 1 => sha384 (((measurements s).take 4).flatMap (·.2))
  | _ => sha384 ((measurements s).flatMap (·.2))

/-- CHALLENGE_AUTH for slot 0, signed over the connection's messages and this exchange; the requester's context of
8 bytes comes back in it (R415). -/
def challengeAuth (x : SpdmSt) (req : Bytes) (s : State) : State × Bytes :=
  let (s, n) := drawBytes 32 s
  let m := spdmMsg 0x03 0 1 (sha384 certChain ++ n ++ summaryHash s (req.getD 3 0).toNat ++ leBytes 2 0
    ++ sliceBytes req 36 8)
  let (s, sig) := signWith (x.vca ++ x.msgsB ++ req ++ m) s
  (putConn { x with msgsB := [], msgsL := [] } s, m ++ sig)

/-- MEASUREMENTS: index 0 asks for their number, 0xFF for all (R416). -/
def measurementsFor (x : SpdmSt) (req : Bytes) (s : State) : State × Bytes :=
  let signed : Bool := (req.getD 2 0).getLsbD 0
  let index := (req.getD 3 0).toNat
  let all := measurements s
  let blocks := if index = 0xFF then all else all.filter fun e => e.1 == index
  if blocks.isEmpty && index ≠ 0 then (s, spdmError 0x01 0)
  else
    let record := (blocks.map (·.2)).flatten
    let (s, n) := drawBytes 32 s
    let m := spdmMsg 0x60 (if index = 0 then all.length else 0) 0
      (leBytes 1 blocks.length ++ leBytes 3 record.length ++ record ++ n ++ leBytes 2 0
        ++ sliceBytes req (if signed then 37 else 4) 8)
    if signed then
      let (s, sig) := signWith (x.vca ++ x.msgsL ++ req ++ m) s
      (putConn { x with msgsL := [] } s, m ++ sig)
    else (putConn { x with msgsL := x.msgsL ++ req ++ m } s, m)

/-- The response to a request of an established connection, other than GET_VERSION and the chunk requests.
After an entropy failure no nonce is issued (R404): a request whose response needs one gets ERROR
Unspecified, a DESIGN CHOICE. -/
def spdmResponse (x : SpdmSt) (req : Bytes) (s : State) : State × Bytes :=
  match spdmCode req with
  | 0xE1 =>
    if x.stage ≠ 1 then (s, spdmError 0x04 0)
    else
      let m := capabilities x.conn
      (putConn { x with stage := 2, size := numAt req 12 4, vca := x.vca ++ req ++ m } s, m)
  | 0xE3 =>
    if x.stage ≠ 2 then (s, spdmError 0x04 0)
    else (putConn { x with stage := 3, vca := x.vca ++ req ++ algorithms } s, algorithms)
  | 0x81 =>
    if x.stage ≠ 3 then (s, spdmError 0x04 0)
    else
      let m := spdmMsg 0x01 0 1 (sha384 certChain)
      (putConn { x with msgsB := x.msgsB ++ req ++ m, msgsL := [] } s, m)
  | 0x82 =>
    if x.stage ≠ 3 then (s, spdmError 0x04 0)
    else
      let m := certificate (req.getD 2 0).toNat (numAt req 4 2) (numAt req 6 2)
      (putConn { x with msgsB := x.msgsB ++ req ++ m, msgsL := [] } s, m)
  | 0x83 =>
    if x.stage ≠ 3 then (s, spdmError 0x04 0)
    else if s.sec.entropyFailed then (s, spdmError 0x05 0)
    else if req.getD 2 0 ≠ 0 then (s, spdmError 0x01 0)
    else challengeAuth x req s
  | 0xE0 =>
    if x.stage ≠ 3 then (s, spdmError 0x04 0)
    else if s.sec.entropyFailed then (s, spdmError 0x05 0)
    else measurementsFor x req s
  | c => (s, spdmError 0x07 c)

/-- The longest response that a connection takes: no longer than either side's DataTransferSize (R415). -/
def responseSize (x : SpdmSt) : Nat := min (transferSize x.conn) x.size

/-- The response to a request of a connection, or its error. -/
def spdmAnswer (x : SpdmSt) (req : Bytes) (s : State) : State × Bytes :=
  match spdmFault req with
  | some e => (s, e)
  | none => spdmResponse x req s

/-- Send a response, or announce it as a long one that CHUNK_GET fetches (R415). -/
def deliverSpdm (c : SpdmConn) (seq : U32) (m : Bytes) (s : State) : State :=
  if m.length ≤ ((spdmConn? s c).map responseSize).getD (transferSize c) then sendSpdm c seq m s
  else match spdmConn? s c with
    | none => sendSpdm c seq m s
    | some x =>
      let h := (x.handle + 1) % 256
      sendSpdm c seq (spdmMsg 0x7F 0x0F 0 (leBytes 1 h))
        (putConn { x with chunkOut := m, handle := h, seqOut := 0 } s)

/-- CHUNK_SEND: a part of a long request; the last one brings the response in its acknowledgement. -/
def chunkSend (x : SpdmSt) (seq : U32) (req : Bytes) (s : State) : State :=
  let handle := (req.getD 3 0).toNat
  let n := numAt req 4 2
  let got := (if n = 0 then [] else x.chunkIn) ++ req.drop (if n = 0 then 16 else 12)
  if x.stage < 2 then sendSpdm x.conn seq (spdmError 0x04 0) s
  else if (n ≠ 0 && n ≠ x.seqIn) || 16384 < got.length then
    sendSpdm x.conn seq (spdmMsg 0x05 1 handle (leBytes 2 n ++ spdmError 0x01 0))
      (putConn { x with chunkIn := [], seqIn := 0 } s)
  else if (req.getD 2 0).getLsbD 0 then
    let r := spdmAnswer { x with chunkIn := [], seqIn := 0 } got
      (putConn { x with chunkIn := [], seqIn := 0 } s)
    deliverSpdm x.conn seq (spdmMsg 0x05 0 handle (leBytes 2 n ++ r.2)) r.1
  else
    sendSpdm x.conn seq (spdmMsg 0x05 0 handle (leBytes 2 n))
      (putConn { x with chunkIn := got, seqIn := n + 1 } s)

/-- CHUNK_GET: the next part of a long response. -/
def chunkGet (x : SpdmSt) (seq : U32) (req : Bytes) (s : State) : State :=
  let n := numAt req 4 2
  if x.stage < 2 then sendSpdm x.conn seq (spdmError 0x04 0) s
  else if x.chunkOut.isEmpty || (req.getD 3 0).toNat ≠ x.handle || n ≠ x.seqOut then
    sendSpdm x.conn seq (spdmError 0x01 0) s
  else
    let first := responseSize x - 16
    let step := responseSize x - 12
    let off := if n = 0 then 0 else first + (n - 1) * step
    let len := min (if n = 0 then first else step) (x.chunkOut.length - off)
    let last := x.chunkOut.length ≤ off + len
    sendSpdm x.conn seq (spdmMsg 0x06 (if last then 1 else 0) x.handle
        (leBytes 4 n ++ leBytes 4 len ++ (if n = 0 then leBytes 4 x.chunkOut.length else [])
          ++ sliceBytes x.chunkOut off len))
      (putConn (if last then { x with chunkOut := [], seqOut := 0 } else { x with seqOut := n + 1 }) s)

/-- A connection begins with GET_VERSION. A ninth network requester drops the least recently used connection of
the network (R415). -/
def openConn (c : SpdmConn) (seq : U32) (req : Bytes) (s : State) : State :=
  let m := spdmMsg 0x04 0 0 [0, 1, 0x00, 0x13]
  let others := s.sec.spdm.filter fun z => !sameConn z.conn c
  let nets := others.filter fun z => onNet z.conn
  let lru := if onNet c && 8 ≤ nets.length then nets.getLast? else none
  let s := match lru with
    | some z => modSec (fun y => { y with
        spdm := y.spdm.filter (fun w => !sameConn w.conn z.conn), dropped := y.dropped ++ [z.conn] }) s
    | none => s
  let x : SpdmSt := ⟨c, 1, transferSize c, req ++ m, [], [], [], 0, [], 0, 0⟩
  sendSpdm c seq m (putConn x s)

/-- The responder answers one request; a code that it does not answer is named before any other fault of the
message (R415). -/
def spdmRequest (c : SpdmConn) (seq : U32) (req : Bytes) (s : State) : State :=
  if s.sec.dropped.any (sameConn c) then
    sendSpdm c seq (spdmError 0x43 0)
      (modSec (fun y => { y with dropped := y.dropped.filter fun z => !sameConn z c }) s)
  else if !spdmAnswered.contains (spdmCode req) then sendSpdm c seq (spdmError 0x07 (spdmCode req)) s
  else match spdmFault req with
    | some e => sendSpdm c seq e s
    | none =>
      if spdmCode req = 0x84 then openConn c seq req s
      else match spdmConn? s c with
        | none => sendSpdm c seq (spdmError 0x04 0) s
        | some x =>
          if spdmCode req = 0x85 then chunkSend x seq req s
          else if spdmCode req = 0x86 then chunkGet x seq req s
          else
            let r := spdmResponse x req (putConn x s)
            deliverSpdm c seq r.2 r.1

/-- Where the responder hears a requester: the DOE of function 0 of a present port, or the network, outside
package sleep (R415; 14, R430). -/
def spdmHeard (s : State) (c : SpdmConn) : Bool :=
  s.power.phase != .asleep && match c with
    | .doe p => cfgOpen s (fn0 p)
    | .net _ => s.mgmt.linkUp

/-- A request row: the message of a DOE is answered at once; over the network the first SPDM_MESSAGE of the
requester that waits is answered, byte for byte as it came, when its code is this row's (03, R102). -/
def answerRow (c : SpdmConn) (req : Bytes) (s : State) : State :=
  if !spdmHeard s c then s
  else if onNet c then
    match s.sec.inbox.find? fun e => sameConn e.1 c with
    | none => s
    | some e =>
      if spdmCode e.2.2 ≠ spdmCode req then s
      else spdmRequest c e.2.1 e.2.2 (modSec (fun y => { y with inbox := y.inbox.erase e }) s)
  else spdmRequest c 0 req s

/-- SPDM_MESSAGE: a frame brings a message to the responder, without a session (03, R102). -/
def execSpdmMessage (src : NetAddr) (seq : U32) (message : Bytes) (s : State) : Out :=
  .next (if spdmHeard s (.net src) && hmpIn s src 0 message.length then
    modSec (fun y => { y with inbox := y.inbox ++ [(.net src, seq, message)] }) s
  else s)

/-- GET_VERSION (R415). -/
def execGetVersion (c : SpdmReq) (s : State) : Out := .next (answerRow c.conn (spdmBytes c 0x84 c.p1 c.p2 []) s)

/-- GET_CAPABILITIES (R415). -/
def execGetCapabilities (c : SpdmReq) (s : State) : Out :=
  .next (answerRow c.conn (spdmBytes c 0xE1 c.p1 c.p2 []) s)

/-- NEGOTIATE_ALGORITHMS (R415). -/
def execNegotiateAlgorithms (c : SpdmReq) (s : State) : Out :=
  .next (answerRow c.conn (spdmBytes c 0xE3 c.p1 c.p2 []) s)

/-- GET_DIGESTS (R415). -/
def execGetDigests (c : SpdmReq) (s : State) : Out := .next (answerRow c.conn (spdmBytes c 0x81 c.p1 c.p2 []) s)

/-- GET_CERTIFICATE (R415). -/
def execGetCertificate (c : SpdmReq) (slot offset length : Nat) (s : State) : Out :=
  .next (answerRow c.conn (spdmBytes c 0x82 (BitVec.ofNat 8 slot) c.p2 (leBytes 2 offset ++ leBytes 2 length)) s)

/-- CHALLENGE (R415). -/
def execChallenge (c : SpdmReq) (slot : Nat) (nonce : Bytes) (s : State) : Out :=
  .next (answerRow c.conn (spdmBytes c 0x83 (BitVec.ofNat 8 slot) c.p2 nonce) s)

/-- GET_MEASUREMENTS (R416). -/
def execGetMeasurements (c : SpdmReq) (signed : Bool) (index : Nat) (nonce : Bytes) (s : State) : Out :=
  .next (answerRow c.conn (spdmBytes c 0xE0 (BitVec.ofNat 8 (bit signed 0)) (BitVec.ofNat 8 index)
    (if signed then nonce else [])) s)

/-- CHUNK_SEND (R415). -/
def execChunkSend (c : SpdmReq) (handle seq : Nat) (last : Bool) (chunk : Bytes) (s : State) : Out :=
  .next (answerRow c.conn (spdmBytes c 0x85 (BitVec.ofNat 8 (bit last 0)) (BitVec.ofNat 8 handle)
    (leBytes 2 seq ++ [0, 0] ++ leBytes 4 chunk.length
      ++ (if seq % 65536 = 0 then leBytes 4 chunk.length else []) ++ chunk)) s)

/-- CHUNK_GET (R415). -/
def execChunkGet (c : SpdmReq) (handle seq : Nat) (s : State) : Out :=
  .next (answerRow c.conn (spdmBytes c 0x86 c.p1 (BitVec.ofNat 8 handle) (leBytes 2 seq)) s)

/-- SPDM_UNSUPPORTED_REQUEST (R415). -/
def execSpdmUnsupportedRequest (c : SpdmReq) (code : U8) (s : State) : Out :=
  .next (answerRow c.conn (spdmBytes c code.toNat c.p1 c.p2 []) s)

/-! ### Debug state and fuses (R414, R420, R421) -/

/-- A debug token is accepted (R421). The key that the signature verifies under is one whose digest is
DebugKeyDigest; the digest stands for it. -/
def tokenOk (s : State) (t : Bytes) : Bool :=
  t.length == 148 && sliceBytes t 0 16 == serialNumber && sliceBytes t 16 32 == s.sec.deviceNonce &&
    Config.ecdsaVerifies ((List.range 48).map (Config.fusedDigest 1)) (sha384 (t.take 52)) (t.drop 52) &&
    1 ≤ numAt t 48 4 && numAt t 48 4 ≤ 3 && s.sec.debug != .rma

def tokenRefused (t : Bytes) (s : State) : Option EStatus := if tokenOk s t then none else some .outOfRange

/-- An accepted token: DebugPending takes its Action and a new DeviceNonce is drawn (R421). -/
def acceptToken (t : Bytes) (s : State) : State :=
  let r := drawBytes 32 (setObj 0xA000 10 (.bytes t) s)
  modSec (fun x => { x with pending := numAt t 48 4, deviceNonce := r.2 }) r.1

/-- DEBUG_TOKEN_WRITE (R421). -/
def execDebugTokenWrite (rq : Requester) (t : Bytes) (s : State) : Out :=
  .next (requestWrite rq ⟨0xA000, 10⟩ (.bytes t) (tokenRefused t) (acceptToken t) s)

/-- RaiseMinSecurityVersion is in range: above MinSecurityVersion, at most the running image's version and 64
(R414). -/
def raiseRefused (n : Nat) (s : State) : Option EStatus :=
  if s.sec.minSec < n && s.boot.fw == .running && n ≤ s.boot.secVersion && n ≤ 64 then none
  else some .outOfRange

/-- Fuses burn until MinSecurityVersion equals n (R414). -/
def burnMinSec (n : Nat) (s : State) : State := modSec (fun x => { x with minSec := n }) s

/-- RAISE_MIN_SECURITY_VERSION (R414). -/
def execRaiseMinSecurityVersion (rq : Requester) (n : U8) (s : State) : Out :=
  .next (requestWrite rq ⟨0xA000, 6⟩ (.num n.toNat) (raiseRefused n.toNat) (burnMinSec n.toNat) s)

/-! ### Power as a tenant sees it, the DRBG, the test access port -/

/-- The package power in steps of 5 W (R408). -/
def coarsePower (s : State) : Nat := s.power.milliwatts / 5000 * 5

/-- POWER_COARSE_UPDATE: at each GTC that is a multiple of 1,250,000,000 (R408). -/
def execPowerCoarseUpdate (s : State) : Out :=
  .next (if s.gtc.toNat % 1250000000 = 0 then
    { s with fns := s.fns.map fun x => { x with powerCoarse := coarsePower s } }
  else s)

/-- ENTROPY_HEALTH_FAILURE (R404). -/
def execEntropyHealthFailure (s : State) : Out :=
  .next (raiseError .internalUncorrectable { kind := 10, access := 7 }
    (modSec (fun x => { x with entropyFailed := true }) s))

/-- DRBG_RESEED: after 2^20 requests (R404). -/
def execDrbgReseed (s : State) : Out :=
  .next (if 2 ^ 20 ≤ s.sec.requests then modSec (fun x => { x with requests := 0 }) s else s)

/-- A byte of the core's memory: the one that the port wrote or read since the core was halted, else free. -/
def coreByte (s : State) (a : U64) : U8 :=
  match s.sec.coreMem.find? fun e => e.1 == a.toNat with
  | some e => e.2
  | none => Config.coreMemoryByte s.draws a.toNat

/-- A byte of the halted core's memory is known from now on. -/
def keepCoreByte (a : U64) (v : U8) (s : State) : State :=
  if s.sec.coreHalted then
    modSec (fun x => { x with coreMem := (a.toNat, v) :: x.coreMem.filter fun e => e.1 != a.toNat }) s
  else s

/-- The test access port: the boundary-scan chain in every state; the management core only when UNLOCKED or RMA
and powered (R419, R420). What the chain and the core's memory hold is left open, so what is shifted out is free,
but for a byte that was written or read since the core was halted: a halted core changes nothing. A step or a
resumption lets the core run its program, which the spec does not give, so its memory is free again. -/
def tapOperation (op : TapOp) (s : State) : State :=
  let core : Bool := s.sec.debug != .locked && s.power.on.getLsbD 48
  match op with
  | .boundaryScan chain => emit (.tap ((List.range chain.length).map (Config.undefinedByte s.draws))) (draw s)
  | .halt => if core then modSec (fun x => { x with coreHalted := true }) s else s
  | .resume => if core then modSec (fun x => { x with coreHalted := false, coreMem := [] }) s else s
  | .step => if core then modSec (fun x => { x with coreMem := [] }) s else s
  | .readMemory a => if core then emit (.tap [coreByte s a]) (draw (keepCoreByte a (coreByte s a) s)) else s
  | .writeMemory a v => if core then keepCoreByte a v s else s

/-- TAP_ACCESS (R419, R420). -/
def execTapAccess (op : TapOp) (s : State) : Out := .next (tapOperation op s)

end Sys2Proof.Machine
end

