-- ==== Sys2Proof/Machine/BringUp.lean ====
section
/-!
DEFINITION. Bring-up: the steps that the host commands, the firmware image, the start-up test, declaring ready
and recalibration (15_bringup_firmware).
-/
namespace Sys2Proof.Machine

def modBoot (f : BootSt → BootSt) (s : State) : State := { s with boot := f s.boot }

/-! ### Steps (R442) -/

/-- The state that a step leaves (R442). -/
def leavesState : BringUpCmd → BringUp
  | .none => .resetDone
  | .power => .powered
  | .train => .trained
  | .qualify => .qualified
  | .loadFirmware => .firmwareRunning
  | .broadcast => .tilesLoaded
  | .test => .tested
  | .publishMap => .mapPublished
  | .declareReady => .ready

/-- The state that a command requires (R442). -/
def requiresState : BringUpCmd → BringUp
  | .none => .resetDone
  | .power => .resetDone
  | .train => .powered
  | .qualify => .trained
  | .loadFirmware => .qualified
  | .broadcast => .firmwareRunning
  | .test => .tilesLoaded
  | .publishMap => .tested
  | .declareReady => .mapPublished

/-- Code of a command (R462). -/
def bringUpCode : BringUpCmd → Nat
  | .none => 0
  | .power => 1
  | .train => 2
  | .qualify => 3
  | .loadFirmware => 4
  | .broadcast => 5
  | .test => 6
  | .publishMap => 7
  | .declareReady => 8

/-- A BringUpCommand write is refused: BUSY while a step runs, OUT_OF_RANGE in any other state than the required
one. TRAIN is also accepted in QUALIFIED (R444), and LOAD_FIRMWARE is not after a rejected image (R442,
R452). -/
def stepRefused (c : BringUpCmd) (s : State) : Option EStatus :=
  if s.boot.result = .running then some .busy
  else if s.boot.resetting then some .outOfRange
  else if s.boot.state ≠ requiresState c && !(c = .train && s.boot.state = .qualified) then some .outOfRange
  else if c = .loadFirmware && s.boot.fw = .failed then some .outOfRange
  else none

/-- A step begins (R442). -/
def beginStep (c : BringUpCmd) (s : State) : State :=
  modBoot (fun x => { x with command := c, result := .running, began := s.gtc }) s

/-- A step ends: the result, its GTC, and after DONE the state that the step leaves (R442). -/
def finishStep (r : BringUpResult) (s : State) : State :=
  modBoot (fun x => { x with
    result := r, stepGtc := s.gtc, state := if r = .done then leavesState x.command else x.state }) s

/-- A write of BringUpCommand (R442, R462). -/
def bringUpWrite (rq : Requester) (c : BringUpCmd) (act : State → State) (s : State) : State :=
  requestWrite rq ⟨0xC000, 2⟩ (.num (bringUpCode c)) (stepRefused c) (fun s => act (beginStep c s)) s

/-! ### POWER and TRAIN -/

/-- POWER: PGOOD_SERDES and PGOOD_TILE, then WorkDomainsOn (R442). -/
def startPower (s : State) : State :=
  if s.power.good.getLsbD 1 && s.power.good.getLsbD 3 then setWork true s
  else finishStep .powerGoodMissing s

/-- POWER (R442). -/
def execPower (rq : Requester) (s : State) : Out := .next (bringUpWrite rq .power startPower s)

/-- TRAIN: from QUALIFIED the state returns to TRAINED (R442, R444). -/
def startTrain (s : State) : State :=
  requestMain (modBoot (fun x => { x with
    state := if x.state = .qualified then .trained else x.state }) s)

/-- TRAIN (R442). -/
def execTrain (rq : Requester) (s : State) : Out := .next (bringUpWrite rq .train startTrain s)

/-! ### Lane qualification (R445, R446) -/

/-- The lanes that QUALIFY measures: those of ports in L0 at its start, of port 0 the die-to-die lanes in main mode and
the wires in fall-back mode (R445). -/
def measuredLanes (s : State) : List LaneRes :=
  let lanes (p n : Nat) : List LaneRes := (List.range n).map fun l => ⟨p, l, 0, 0⟩
  (if (getPort s 0).link ≠ .l0 then []
    else if s.port0.mode = 1 then lanes 0 64
    else if s.port0.mode = 0 then lanes wirePort 1024 else []) ++
    [1, 2, 3].flatMap fun p =>
      let x := s.ports.getD p PortSt.init
      if x.link = .l0 then lanes p x.width else []

/-- QUALIFY clears the last measurement and starts to count (R445, R462). -/
def startQualify (s : State) : State :=
  modBoot (fun x => { x with lanes := measuredLanes s, qualified := 0, failed := 0, duration := 0 }) s

/-- QUALIFY (R442). -/
def execQualify (rq : Requester) (s : State) : Out := .next (bringUpWrite rq .qualify startQualify s)

/-- The count of a measured lane. -/
def countOf (counts : List LaneCount) (l : LaneRes) : Option LaneCount :=
  counts.find? fun c => c.lane == l.lane && (c.port.val == l.port || (c.port.val == 0 && l.port == wirePort))

/-- Every lane has counted QualifyBits bits, or its link has left L0 (R446). -/
def allCounted (s : State) (counts : List LaneCount) : Bool :=
  s.boot.lanes.all fun l => l.result == 3 || (countOf counts l).any fun c => c.dropped || objNum s 0xC002 1 ≤ c.bits

/-- A lane's result: PASS when its errors × 1,000,000 are fewer than its bits (R446). One whose link has left L0 reads
NOT_ENABLED (R445). -/
def laneResult (counts : List LaneCount) (l : LaneRes) : LaneRes :=
  match countOf counts l with
  | none => l
  | some c => if l.result = 3 then l else
    { l with
      errors := c.errors
      result := if c.dropped then 3 else if c.errors * 1000000 < c.bits then 1 else 2 }

/-- The qualification ends (R446). -/
def endQualify (counts : List LaneCount) (s : State) : State :=
  if s.boot.result = .running && s.boot.command = .qualify && allCounted s counts then
    let rs := s.boot.lanes.map (laneResult counts)
    let good := rs.filter fun l => l.result == 1
    let bad := rs.filter fun l => l.result == 2
    let s := modBoot (fun x => { x with
      lanes := rs, qualified := good.length, failed := bad.length
      duration := (s.gtc - x.began).toNat * 4 / 5
      passed := if bad.isEmpty then (good.filter fun l => l.port != wirePort).map fun l => (l.port, l.lane)
        else x.passed }) s
    finishStep (if bad.isEmpty then .done else .lanesFailed) s
  else s

/-- QUALIFY_END (R446). -/
def execQualifyEnd (counts : List LaneCount) (s : State) : Out := .next (endQualify counts s)

/-! ### The firmware image (R447 to R452) -/

/-- FirmwareImageBytes (R462). -/
def imageBytes (s : State) : Nat := objNum s 0xC001 4

/-- LOAD_FIRMWARE: ends at once when the firmware still runs (R461); otherwise checks the chunks or starts the
reads (R451). -/
def startLoad (s : State) : State :=
  if s.boot.fw = .running then finishStep .done s
  else if objNum s 0xC001 1 = 1 then
    if (List.range ((imageBytes s + 4095) / 4096)).all s.boot.blocks.contains then
      modBoot (fun x => { x with fw := .loading, loadError := 0 }) s
    else finishStep .imageIncomplete (modBoot (fun x => { x with fw := .absent, loadError := 9 }) s)
  else issueImage (modBoot (fun x => { x with fw := .loading, loadError := 0, issued := 0 }) s)

/-- LOAD_FIRMWARE (R451). -/
def execLoadFirmware (rq : Requester) (s : State) : Out := .next (bringUpWrite rq .loadFirmware startLoad s)

/-- Step 4 runs (R450). -/
def loadRuns (s : State) : Bool := s.boot.result = .running && s.boot.command = .loadFirmware

/-- The boot ROM holds the firmware partition until step 5 ends (R450). -/
def partitionHeld (s : State) : Bool :=
  match s.boot.state with
  | .resetDone | .powered | .trained | .qualified | .firmwareRunning => true
  | _ => false

/-- The Final segment of FirmwareChunk is refused: step 4 runs, or the chunk is no multiple of 4 KiB and does
not end the image (R450). A chunk that passes the partition's end is OUT_OF_RANGE, DEDUCED. -/
def chunkRefused (chunk : Bytes) (s : State) : Option EStatus :=
  let off := objNum s 0xC001 5
  if loadRuns s then some .busy
  else if (chunk.length % 4096 ≠ 0 && off + chunk.length ≠ imageBytes s) || 0x4000000 < off + chunk.length then
    some .outOfRange
  else none

/-- The chunk is copied into the partition (R450). -/
def copyChunk (chunk : Bytes) (s : State) : State :=
  if partitionHeld s then
    let off := objNum s 0xC001 5
    let blocks := (List.range ((chunk.length + 4095) / 4096)).map fun i => off / 4096 + i
    modBoot (fun x => { x with
      image := memWrite x.image off chunk, blocks := blocks.foldl (fun l b => insertNat b l) x.blocks }) s
  else s

/-- FIRMWARE_CHUNK_WRITE (R450). -/
def execFirmwareChunkWrite (rq : Requester) (chunk : Bytes) (s : State) : Out :=
  .next (requestWrite rq ⟨0xC001, 6⟩ (.bytes chunk) (chunkRefused chunk) (copyChunk chunk) s)

/-- Bytes of `b` from `lo` to `hi` - 1 are all zero. -/
def zeroBytes (b : Bytes) (lo hi : Nat) : Bool := (sliceBytes b lo (hi - lo)).all (· == 0)

/-- Section entry i of an image: type, offset and bytes (R448). -/
def sectionAt (b : Bytes) (i : Nat) : Nat × Nat × Nat :=
  (numAt b (32 + 16 * i) 1, numAt b (36 + 16 * i) 4, numAt b (40 + 16 * i) 4)

def sections (b : Bytes) : List (Nat × Nat × Nat) := (List.range 3).map (sectionAt b)

/-- The bytes of the section of a type. -/
def sectionBytes (b : Bytes) (type : Nat) : Bytes :=
  match (sections b).find? fun x => x.1 == type with
  | some x => sliceBytes b x.2.1 x.2.2
  | none => []

/-- Most bytes of a section: MGMT, TILE, UEFI (R448). -/
def sectionLimit : Nat → Nat
  | 1 => 6 * 2 ^ 20
  | 2 => 48 * 2 ^ 20
  | 3 => 512 * 2 ^ 10
  | _ => 0

/-- Check 1: magic, format, length and reserved fields (R448, R449). -/
def formatOk (b : Bytes) (n : Nat) : Bool :=
  numAt b 0 2 == 0x4946 && numAt b 2 1 == 1 && numAt b 4 4 == n && n % 4096 == 0 && 8192 ≤ n &&
    n ≤ 0x4000000 && numAt b 3 1 / 8 == 0 && zeroBytes b 14 16 && zeroBytes b 20 32 && zeroBytes b 80 256 &&
    (List.range 3).all (fun i => zeroBytes b (33 + 16 * i) (36 + 16 * i) && zeroBytes b (44 + 16 * i) (48 + 16 * i)) &&
    zeroBytes b (n - 256 + 97) (n - 256 + 128) && zeroBytes b (n - 256 + 224) n

/-- The bit of a variant in VariantMask (R448). -/
def variantBit : Variant → Nat
  | .l16 => 0
  | .l32 => 1
  | .l64 => 2

/-- Two sections share a byte. -/
def overlaps (x y : Nat × Nat × Nat) : Bool := x.2.1 < y.2.1 + y.2.2 && y.2.1 < x.2.1 + x.2.2

/-- Check 3: one section of each type, in place and apart (R449). -/
def sectionsOk (b : Bytes) (n : Nat) : Bool :=
  let l := sections b
  [1, 2, 3].all (fun t => l.any fun x => x.1 == t) &&
    l.all (fun x => x.2.1 % 4096 == 0 && 1 ≤ x.2.2 && 256 ≤ x.2.1 && x.2.1 + x.2.2 ≤ n - 256 &&
      x.2.2 ≤ sectionLimit x.1) &&
    !(overlaps (sectionAt b 0) (sectionAt b 1) || overlaps (sectionAt b 0) (sectionAt b 2) ||
      overlaps (sectionAt b 1) (sectionAt b 2))

/-- The code of the first check of R449 that fails, 0 when all hold (R413, R449). -/
def imageCheck (s : State) (b : Bytes) : Nat :=
  let n := imageBytes s
  let key := sliceBytes b (n - 256) 97
  if !formatOk b n then 1
  else if !(numAt b 3 1).testBit (variantBit s.variant) then 2
  else if !sectionsOk b n then 3
  else if Config.bootRomVersion.toNat < numAt b 16 4 then 4
  else if sha384 key ≠ (List.range 48).map (Config.fusedDigest 0) then 5
  else if !Config.ecdsaVerifies key (sha384 (b.take (n - 256))) (sliceBytes b (n - 128) 96) then 6
  else if numAt b 12 2 < s.sec.minSec then 7
  else 0

/-- The image is in: every read of it has been issued and answered (R451). -/
def imageIn (s : State) : Bool :=
  objNum s 0xC001 1 == 1 ||
    (s.boot.issued == imageBytes s && !readsOut s (portOf (imageFn s)) .image)

/-- The checked image starts: the versions, TileFirmwareDigest and the expansion ROM contents are set (R451). -/
def startFirmware (b : Bytes) (s : State) : State :=
  finishStep .done (modBoot (fun x => { x with
    fw := .running, version := BitVec.ofNat 32 (numAt b 8 4), secVersion := numAt b 12 2
    tileDigest := sha384 (sectionBytes b 2), uefi := sectionBytes b 3 }) s)

/-- The whole image has arrived: MR1 and FirmwareDigest are written, and the checks decide (R451; 13, R412,
R413). While reads are left, those that have a tag are issued. -/
def imageComplete (s : State) : State :=
  if loadRuns s && s.boot.fw = .loading then
    if imageIn s then
      let b := memRead s.boot.image 0 (imageBytes s)
      let d := sha384 b
      let s := modSec (fun x => { x with mr := x.mr.set 1 d }) (modBoot (fun x => { x with digest := d }) s)
      match imageCheck s b with
      | 0 => startFirmware b s
      | k => finishStep .imageRejected (modBoot (fun x => { x with fw := .failed, loadError := k }) s)
    else issueImage s
  else s

/-- FIRMWARE_IMAGE_COMPLETE (R451). -/
def execFirmwareImageComplete (s : State) : Out := .next (imageComplete s)

/-! ### Tile firmware (R453) -/

/-- BROADCAST: the TILE section goes to every enabled tile. After a block reset that kept the firmware, the loaded
tiles are only asked for their digest (R453, R461). -/
def startBroadcast (s : State) : State :=
  if s.boot.loaded.isEmpty then
    emit (.tileSection none) (modBoot (fun x => { x with
      failedTiles := [], waits := (physTiles s.variant).map fun t => ⟨t, 0, s.gtc⟩ }) s)
  else modBoot (fun x => { x with loaded := [], waits := x.loaded.map fun t => ⟨t, 0, s.gtc⟩ }) s

/-- BROADCAST (R453). -/
def execBroadcast (rq : Requester) (s : State) : Out := .next (bringUpWrite rq .broadcast startBroadcast s)

/-- Step 5 runs. -/
def broadcastRuns (s : State) : Bool := s.boot.result = .running && s.boot.command = .broadcast

/-- A tile gets the section again by unicast, up to three times; then it has failed (R453). -/
def sendAgain (w : TileWait) (s : State) : State :=
  if w.tries < 3 then
    emit (.tileSection (some w.tile)) (modBoot (fun x => { x with
      waits := x.waits.map fun v => if v.tile == w.tile then ⟨w.tile, w.tries + 1, s.gtc⟩ else v }) s)
  else modBoot (fun x => { x with
      waits := x.waits.filter fun v => v.tile != w.tile
      failedTiles := insertNat w.tile x.failedTiles }) s

/-- A tile answers (R453). -/
def tileAnswers (t : Nat) (d : Bytes) (s : State) : State :=
  match s.boot.waits.find? fun w => w.tile == t with
  | none => s
  | some w =>
    if !broadcastRuns s then s
    else if d = s.boot.tileDigest then
      modBoot (fun x => { x with
        waits := x.waits.filter fun v => v.tile != t, loaded := insertNat t x.loaded }) s
    else sendAgain w s

/-- TILE_DIGEST_ANSWER (R453). -/
def execTileDigestAnswer (t : Nat) (d : Bytes) (s : State) : Out := .next (tileAnswers t d s)

/-- A tile has not answered within 20 ms (R453). -/
def tileSilent (t : Nat) (s : State) : State :=
  match s.boot.waits.find? fun w => w.tile == t with
  | none => s
  | some w => if broadcastRuns s && 25000000 ≤ (s.gtc - w.since).toNat then sendAgain w s else s

/-- TILE_ANSWER_TIMEOUT (R453). -/
def execTileAnswerTimeout (t : Nat) (s : State) : Out := .next (tileSilent t s)

/-! ### The start-up test (R439, R454) -/

/-- TEST (R454). -/
def execTest (rq : Requester) (s : State) : Out := .next (bringUpWrite rq .test (emit .clusterTest) s)

/-- The non-spare physical clusters of a tile, rising (R439). -/
def mainClusters (t : Nat) : List Nat := (List.range 16).filter (· != (Config.spareCluster t).val)

/-- The physical clusters of logical tile k by position, under R439: the lowest failed position takes the spare
if that passed. `bad` are the tile's failed clusters. -/
def fillPositions (t k : Nat) (bad : List Nat) : List (Nat × Nat) :=
  let spare := (Config.spareCluster t).val
  let low := (mainClusters t).findIdx? bad.contains
  ((mainClusters t).zipIdx.filterMap fun x =>
    if !bad.contains x.1 then some (15 * k + x.2, x.1)
    else if low == some x.2 && !bad.contains spare then some (15 * k + x.2, spare)
    else none)

/-- The served positions of logical tile k after a test. Once assigned, a cluster keeps its position until it
fails (R439). -/
def tilePositions (s : State) (k : Nat) : List (Nat × Nat) :=
  let t := (physTiles s.variant).getD k 0
  let bad := (s.boot.failedClusters.filter fun x => x.1 == t).map (·.2)
  if !s.boot.loaded.contains t then []
  else if s.boot.positions.isEmpty then fillPositions t k bad
  else s.boot.positions.filter fun e => e.1 / 15 == k && !bad.contains e.2

/-- The clusters take their positions, and logical clusters without one are fenced (R439, R454). A cluster that enters
service with its tile's supply on applies the current epoch (10, R345). -/
def placeClusters (s : State) : State :=
  let ps := (List.range (tilesOf s.variant)).flatMap (tilePositions s)
  let s := modBoot (fun x => { x with positions := ps }) s
  modDet (fun x => { x with
    epochs := if s.power.good.getLsbD 3 then ps.foldl (fun l e => assocPut l e.1 x.epoch.toNat) x.epochs else x.epochs
    fenced := (List.range (clustersOf s.variant)).filter fun n => !ps.any fun e => e.1 == n }) s

/-- Bytes that the patterns of the engines take: from one 1 MiB span to another and back, for each of the 32 (R454). -/
def testBytes : Nat := 32 * 0x200000

/-- Where the engines' patterns lie: in a GENERAL region, at a place that the manual does not give and that is free. -/
def testPlace (s : State) : Option Nat :=
  match s.pool.regions.find? fun r => r.kind == .general && testBytes ≤ r.bytes with
  | none => none
  | some r => some (r.base + Config.choice s.draws (r.bytes / testBytes) % (r.bytes / testBytes) * testBytes)

/-- Each engine has moved its pattern from pool to pool and back, so what the pattern's spans held is gone (R454). The
manual does not say what they hold then; as a new object reads as zero (04, R141), the spans wait for a scrub and no
object is placed there before it: DESIGN CHOICE. -/
def movePatterns (s : State) : State :=
  match testPlace s with
  | none => s
  | some a =>
    let s := freeSpan a testBytes (draw s)
    { s with pool := { s.pool with scrubs := s.pool.scrubs ++ [⟨a, testBytes, 0, none, none, false, false⟩] } }

/-- The start-up test ends (R454). -/
def endTest (clusters : List (Nat × Nat)) (engines : U32) (s : State) : State :=
  let s := movePatterns s
  let s := modBoot (fun x => { x with
    failedClusters := clusters.filter (fun c => x.loaded.contains c.1 && c.2 < 16), failedEngines := engines }) s
  let s := modDet (fun x => { x with enginesFenced := x.enginesFenced ||| engines }) (placeClusters s)
  finishStep (if s.boot.positions.isEmpty then .noCluster else .done) s

/-! ### The disabled-unit map and the end of a step (R442, R455) -/

/-- PUBLISH_MAP (R442). -/
def execPublishMap (rq : Requester) (s : State) : Out := .next (bringUpWrite rq .publishMap id s)

/-- The outcome of TRAIN, once no training runs (R442). -/
def trainOutcome (s : State) : BringUpResult :=
  if s.port0.mode = 1 || objNum s 0xC000 6 ≠ 0 then .done else .trainFailed

/-- The running step ends, when what it waits for has happened (R442, R453, R454). -/
def endRunning (clusters : List (Nat × Nat)) (engines : U32) (s : State) : State :=
  if s.boot.result ≠ .running then s
  else match s.boot.command with
    | .power =>
      if (domainsSwitching s).isEmpty && s.power.switching.isNone then finishStep .done (emit .tilesReleased s)
      else s
    | .train => if s.port0.training then s else finishStep (trainOutcome s) s
    | .broadcast =>
      if s.boot.waits.isEmpty then
        finishStep (if s.boot.loaded.isEmpty then .noTileLoaded else .done)
          (if s.boot.loaded.isEmpty then s else modBoot (fun x => { x with image := [] }) s)
      else s
    | .test => endTest clusters engines s
    | .publishMap => finishStep .done (rewriteMap s)
    | .none | .qualify | .loadFirmware | .declareReady => s

/-- BRINGUP_STEP_END (R442). -/
def execBringupStepEnd (clusters : List (Nat × Nat)) (engines : U32) (s : State) : Out :=
  .next (endRunning clusters engines s)

/-! ### Declaring ready (R457) -/

/-- A region of a kind is in the pool map (09, R289). -/
def regionOf (s : State) (k : RegionKind) : Bool := s.pool.regions.any fun r => r.kind == k

/-- The first condition of R457 that fails. -/
def readyRefusal (s : State) : Option BringUpResult :=
  if s.err.wireFaults.any fun e => 2 ≤ srcClass e then some .wireFault
  else if objNum s 0xC000 7 ≠ 0 && s.sync.state ≠ .locked then some .gtcNotLocked
  else if !(regionOf s .carveOut && regionOf s .carveOutMirror) then some .noCarveOut
  else none

/-- DECLARE_READY checks its conditions, and the state reads DECLARING (R457). -/
def startDeclare (s : State) : State :=
  match readyRefusal s with
  | some r => finishStep r s
  | none => modBoot (fun x => { x with state := .declaring }) s

/-- DECLARE_READY (R457). -/
def execDeclareReady (rq : Requester) (s : State) : Out := .next (bringUpWrite rq .declareReady startDeclare s)

/-- The reset scrub has ended (09, R307). -/
def resetScrubbed (s : State) : Bool := !s.pool.scrubs.any (·.reset)

/-- A function that is not ready becomes active. -/
def readied (x : FnSt) : FnSt := if x.state = .notReady then { x with state := .active } else x

/-- MR3 is written, and every present function becomes ACTIVE (R457; 13, R412). -/
def declareReady (s : State) : State :=
  if s.boot.state = .declaring && s.boot.result = .running && resetScrubbed s then
    let s := modSec (fun x => { x with mr := x.mr.set 3 s.det.digest }) s
    let s := { s with fns := s.fns.map readied }
    finishStep .done (modBoot (fun x => { x with readyGtc := s.gtc }) s)
  else s

/-- DECLARE_READY_COMPLETE (R457). -/
def execDeclareReadyComplete (s : State) : Out := .next (declareReady s)

/-! ### Recalibration (R459) -/

/-- Whether the state allows a calibration (R459). -/
def calibrationAllowed (s : State) (k : Nat) : Bool :=
  if k = 1 then s.boot.state = .trained && s.port0.mode = 1
  else if 2 ≤ k && k ≤ 4 then (s.ports.getD (k - 1) PortSt.init).link = .l0
  else s.boot.state = .resetDone && !s.boot.resetting

/-- CalibrateRequest is refused: BUSY in another state or while a calibration runs, OUT_OF_RANGE for a stack or
port that the variant does not have; NONE asks for no calibration and is refused only while one runs (R459). -/
def calibrationRefused (k : Nat) (s : State) : Option EStatus :=
  if k = 0 then (if s.boot.calibrating.isSome then some .busy else none)
  else if (0x20 ≤ k && stacksOf s.variant ≤ k - 0x20) || (2 ≤ k && k ≤ 4 && portsOf s.variant ≤ k - 1) then
    some .outOfRange
  else if s.boot.calibrating.isSome || !calibrationAllowed s k then some .busy
  else none

/-- A calibration starts (R459). -/
def startCalibration (k : Nat) (s : State) : State :=
  modBoot (fun x => { x with calibrating := some k, calibrated := 1 }) s

def calibrate (rq : Requester) (k : Nat) (s : State) : State :=
  requestWrite rq ⟨0xC004, 1⟩ (.num k) (calibrationRefused k) (startCalibration k) s

/-- PORT0_LANES (R459). -/
def execPort0Lanes (rq : Requester) (s : State) : Out := .next (calibrate rq 1 s)

/-- PORT_LANES: of ports 1 to 3; the code of port 0 is PORT0_LANES (R459). -/
def execPortLanes (rq : Requester) (p : Port) (s : State) : Out := .next (calibrate rq (p.val + 1) s)

/-- STACK_CALIBRATE (R459). -/
def execStackCalibrate (rq : Requester) (st : Stack) (s : State) : Out :=
  .next (calibrate rq (0x20 + st.val) s)

/-- The code with the fewest errors, the lower one on a tie (R459). -/
def bestCode (errors : List Nat) : Nat := errors.findIdx (· == errors.foldl min (errors.headD 0))

/-- Store the results of a calibration in place of the objects' values (R459). -/
def storeCalibration (k : Nat) (v : Calibration) (s : State) : State :=
  if k = 1 then
    foldState (fun l s => putObj ⟨0x2020, l + 1⟩ (.num (bestCode (v.errors.getD l []) % 256)) s) (List.range 64) s
  else if k < 0x20 then
    foldState (fun l s => putObj ⟨0x201F + k, l + 1⟩ (.num (v.values.getD l 0).toNat) s) (List.range 16) s
  else putObj ⟨0x5010 + (k - 0x20), 5⟩ (.bytes (padTo 512 v.values)) s

/-- The link retrains after its lanes are calibrated (R459). -/
def retrainAfter (k : Nat) (s : State) : State :=
  if k = 1 then requestMain s
  else if k < 0x20 then
    let p : Port := Fin.ofNat 4 (k - 1)
    emit (.portTraining p) (linkLeavesL0 p
      (modPort p (fun x => { x with link := if x.link = .l0 then .recovery else x.link }) s))
  else s

/-- A calibration ends: DONE, or FAILED with the objects unchanged (R459). -/
def endCalibration (ok : Bool) (values : Calibration) (s : State) : State :=
  match s.boot.calibrating with
  | none => s
  | some k =>
    let s := modBoot (fun x => { x with calibrating := none, calibrated := if ok then 2 else 3 }) s
    if ok then retrainAfter k (storeCalibration k values s) else s

/-- CALIBRATE_DONE (R459). -/
def execCalibrateDone (ok : Bool) (values : Calibration) (s : State) : Out := .next (endCalibration ok values s)

end Sys2Proof.Machine
end

