-- ==== Sys2Proof/Machine/Readout.lean ====
section
/-!
DEFINITION. What a read of an object of the dictionary returns (03_management_dictionary, R115, and the object
tables at the ends of the other chapters).
-/
namespace Sys2Proof.Machine

/-! ### Encodings -/

def fwCode : FwState → Nat
  | .absent => 0
  | .loading => 1
  | .running => 2
  | .failed => 3

def linkCode : LinkState → Nat
  | .down => 0
  | .training => 1
  | .l0 => 2
  | .l1 => 3
  | .l2 => 4
  | .recovery => 5
  | .disabled => 6

def qStateCode : QState → Nat
  | .disabled => 0
  | .running => 1
  | .stalled => 2
  | .error => 3

def cohStateCode : CohState → Nat
  | .off => 0
  | .on => 1
  | .closing => 2
  | .refused => 3

def cohRefusalCode : CohRefusal → Nat
  | .none => 0
  | .notLive => 1
  | .notPort0 => 2
  | .fenceObject => 3
  | .overLimit => 4
  | .overlap => 5

def peerStateCode : PeerState → Nat
  | .invalid => 0
  | .connecting => 1
  | .up => 2
  | .down => 3

def syncCode : SyncState → Nat
  | .freeRun => 0
  | .locking => 1
  | .locked => 2
  | .holdover => 3

def modeCode : ModeState → Nat
  | .idle => 0
  | .staging => 1
  | .commitPending => 2
  | .committed => 3
  | .abandoned => 4

def weirCode : Weir → Nat
  | .idle => 0
  | .holding => 1
  | .opened => 2

def pkgCode : PkgState → Nat
  | .normal => 0
  | .blockFailed => 1
  | .resetting => 2
  | .fatal => 3

def bringUpStateCode : BringUp → Nat
  | .resetDone => 0
  | .powered => 1
  | .trained => 2
  | .qualified => 3
  | .firmwareRunning => 4
  | .tilesLoaded => 5
  | .tested => 6
  | .mapPublished => 7
  | .declaring => 8
  | .ready => 9

def resultCode : BringUpResult → Nat
  | .none => 0
  | .running => 1
  | .done => 2
  | .powerGoodMissing => 3
  | .trainFailed => 4
  | .lanesFailed => 5
  | .imageIncomplete => 6
  | .imageDmaError => 7
  | .imageRejected => 8
  | .noTileLoaded => 9
  | .noCluster => 10
  | .wireFault => 11
  | .gtcNotLocked => 12
  | .blockReset => 13
  | .noCarveOut => 14

def ofBool (b : Bool) : Nat := if b then 1 else 0

/-! ### Ports, contexts and translation (02, 04, 06) -/

/-- PowerState: D3COLD while the port's domain is off (02, R64, R79). -/
def powerStateCode (s : State) (g : Fun) : Nat :=
  if !fnPresent s g then 0
  else if !s.power.on.getLsbD (portOf g).val then 4
  else if (getFn s g).cfg.d3hot then 3 else 0

def portObject (s : State) (p sub : Nat) : Nat :=
  let x := s.ports.getD p PortSt.init
  match sub with
  | 4 => linkCode x.link
  | 5 => x.width
  | _ => x.speed

def fnObject (s : State) (g : Fun) (sub : Nat) : Nat :=
  match sub with
  | 2 => fnStateCode (getFn s g).state
  | 4 => (getFn s g).cfg.bar2Bytes
  | _ => powerStateCode s g

/-- Objects 0x4100 + g (04, R155). -/
def quotaObject (s : State) (g : Fun) (sub : Nat) : Nat :=
  let mine := liveObjs s fun o => o.owner == g
  match sub with
  | 2 => ctxsOfFn s g
  | 4 => bytesTaken mine
  | 6 => mine.length
  | 7 => (getFn s g).int.rings.length
  | _ => qStateCode (adminState s g)

/-- Objects 0x3010 + b (06, R223). -/
def bankObject (s : State) (b sub : Nat) : Nat :=
  let l := getBank s b
  (match sub with
    | 1 => l
    | 2 => l.filter (·.locked)
    | _ => l.filter (leased s)).length

/-- WalksInFlight: at most 512 in each group; the misses beyond are queued (06, R206, R223). -/
def walksInFlight (s : State) : Nat :=
  sumNat ((List.range 8).map fun g => min 512 (s.trans.walks.filter fun w => w.group == g).length)

/-- FnLockedEntries (06, R223). -/
def lockedOf (s : State) (g : Fun) : Nat :=
  (s.trans.banks.flatten.filter fun e => e.locked && (match e.who with
    | .ctx c => (ctx? s c).any fun x => x.fn == g
    | .win _ => false)).length

/-! ### Windows and pool (08, 09) -/

/-- PeerState of PackageId 128 q + r (08, R285). -/
def peerObject (s : State) (q sub : Nat) : Nat := peerStateCode (peerState s (BitVec.ofNat 12 (128 * q + sub - 1)))

def windowObject (s : State) (g : Fun) (sub : Nat) : Val :=
  match sub with
  | 2 => .num (windowsOf s g)
  | 4 => .num (getFn s g).winResult.toNat
  | 6 => .bytes (windowInfo s g)
  | _ => .num (getFn s g).remoteDeny.toNat

/-- Base of the first region of a kind, 0 when there is none. -/
def regionBase (s : State) (k : RegionKind) : Nat :=
  match s.pool.regions.find? fun r => r.kind == k with
  | some r => r.base
  | none => 0

/-- PoolMap (09, R288). -/
def poolMapBytes (s : State) : Bytes :=
  s.pool.regions.flatMap fun r =>
    leBytes 8 (kindCode r.kind * 2 ^ 56 + (if r.kind == .extent then r.owner else 0) * 2 ^ 48 + r.base)
      ++ leBytes 8 r.bytes

/-- PoolBytesUsable (09, R312). -/
def usableBytes (s : State) : Nat :=
  sumNat ((s.pool.regions.filter fun r => r.kind == .general || r.kind == .extent).map (·.bytes))

def poolObject (s : State) (sub : Nat) : Val :=
  match sub with
  | 1 => .num (usableBytes s)
  | 2 => .num (channelsOut s)
  | 4 => .num (regionBase s .carveOut)
  | 5 => .num (regionBase s .carveOutMirror)
  | 8 => .num s.pool.poison.length
  | 9 => .bytes (poolMapBytes s)
  | _ => .num (scrubPending s)

/-- Objects 0x5010 + s (09, R312). -/
def stackObject (s : State) (k sub : Nat) : Nat :=
  match sub with
  | 2 => if k < stacksOf s.variant then maskOf ((List.range 32).filter fun c => !mappedOut s.pool.mappedOut k c) else 0
  | 3 => (spareRows s k).length - (sparesTaken s k).length
  | _ => (s.pool.remaps.filter fun r => stackOf r.row == k && !r.copying).length

/-- ExtentState (09, R289). -/
def extentObject (s : State) (g : Fun) : Nat :=
  if (extentOf s g).2 ≠ 0 then 1 else if s.pool.dropped.contains g.val then 2 else 0

/-! ### Determinism (10) -/

/-- The fixed-schedule contexts of a function, or of all. -/
def fixedOfFn (s : State) (g : Option Fun) : List FixedSt :=
  s.obj.ctxs.filterMap fun e => if g.isNone || g == some e.2.fn then e.2.fixed else none

def fixedObject (s : State) (sub : Nat) : Nat :=
  match sub with
  | 6 => scratchFree s
  | 7 => (fixedOfFn s none).foldl (fun a f => a ||| f.slotMask.toNat) 0
  | 8 => maskOf (reservedEngines s)
  | _ => (fixedOfFn s none).length

def gtcObject (s : State) (sub : Nat) : Nat :=
  match sub with
  | 1 => s.gtc.toNat
  | 2 => syncCode s.sync.state
  | 3 => ofSigned 32 s.sync.offset
  | _ => (s.sync.master.getD 0).toNat

def mapObject (s : State) (sub : Nat) : Val :=
  match sub with
  | 1 => .num s.det.generation.toNat
  | 2 => .bytes s.det.digest
  | 3 => .bytes s.det.key
  | 4 => .num (ofBool s.det.remapping)
  | 5 => .num s.det.remapResult.toNat
  | _ => .num s.det.fenced.length

def modeObject (s : State) (sub : Nat) : Nat :=
  match sub with
  | 1 => s.det.modeWord.toNat
  | 2 => s.det.epoch.toNat
  | 6 => modeCode s.det.mode
  | 7 => s.det.commitGtc.toNat
  | _ => s.det.abandonUnit

/-- ClusterState (10, R347). -/
def clusterObject (s : State) (n : Nat) : Nat :=
  let state := if s.det.fenced.contains n then 1 else ofBool (clusterDown s n) * 2
  state * 2 ^ 62 + (assocGet s.det.epochs n).getD 0

def scheduleObject (s : State) (g : Fun) (sub : Nat) : Nat :=
  match sub with
  | 1 => (fixedOfFn s (some g)).length
  | 2 => (getFn s g).rejectReason
  | _ => sumNat ((fixedOfFn s (some g)).flatMap fun f => f.scratch.map (·.2))

/-! ### Events and errors (11, 12) -/

def weirObject (s : State) (g : Fun) (sub : Nat) : Nat :=
  let x := (getFn s g).int
  match sub with
  | 1 => x.delayNs
  | 2 => if portOf g = 0 then x.targetDie.val else 0
  | 3 => weirCode x.weir
  | _ => (x.rings.filter fun r => r.2.overflow).length

/-- ErrOutState: FAULT while the sensed pins differ from the driven level (12, R388). -/
def errOutState (s : State) : Nat := if s.err.mismatch then 2 else ofBool s.err.pin

def errorObject (s : State) (sub : Nat) : Val :=
  match sub with
  | 2 => .num (pkgCode s.err.pkg)
  | 3 => .num (ofBool (s.err.pkg == .resetting))
  | 4 => .num (errOutState s)
  | 5 => .num s.err.assertions.toNat
  | 7 => objVal s 0x9000 7
  | _ => .num 0

/-- The package capture (12, R396). -/
def captureObject (s : State) (sub : Nat) : Nat :=
  let k := s.err.capture
  match sub with
  | 1 => ofBool k.heldNow
  | 2 => k.source
  | 3 => k.cls
  | 4 => k.address.toNat
  | 5 => k.master.toNat
  | 6 => k.access
  | 7 => k.gtc.toNat
  | 8 => k.highest
  | 9 => k.mergedMask.toNat
  | 10 => k.mergedCount.toNat
  | _ => 0

/-- Objects 0x9100 + c (12, R396). -/
def sourceObject (s : State) (c sub : Nat) : Nat :=
  match allSources[c - 1]? with
  | some e =>
    (match sub with
      | 3 => (errCount s e).toNat
      | _ => ofBool (s.err.wireFaults.contains e))
  | none => 0

/-! ### Security, power and bring-up (13, 14, 15) -/

def securityObject (s : State) (sub : Nat) : Val :=
  match sub with
  | 1 => .num (debugCode s.sec.debug)
  | 2 => .num (fuseState s)
  | 4 => .num s.sec.minSec
  | 5 => .num s.boot.secVersion
  | 9 => .bytes s.sec.deviceNonce
  | 10 => objVal s 0xA000 10
  | 11 => .num s.sec.pending
  | 15 => .num s.sec.spdm.length
  | _ => .num 0

/-- Objects 0xA100 + g (13, R408, R411). -/
def tenantObject (s : State) (g : Fun) (sub : Nat) : Nat :=
  let mine := s.pool.scrubs.filter fun c => c.owner == some g
  match sub with
  | 1 => (getFn s g).powerCoarse
  | 2 => ofBool !mine.isEmpty
  | 3 => sumNat (mine.map scrubLeft)
  | _ => g.val

def powerObject (s : State) (sub : Nat) : Nat :=
  match sub with
  | 2 => s.power.on.toNat
  | 3 => switchingMask s
  | 4 => ofBool s.power.work
  | 8 => ofBool (s.power.phase == .entering)
  | _ => s.power.refusal

def telemetryObject (s : State) (sub : Nat) : Nat :=
  match sub with
  | 1 => s.power.good.toNat
  | 2 => s.power.millivolts
  | 3 => s.power.milliamps
  | 4 => s.power.milliwatts
  | 5 => s.power.telGtc.toNat
  | _ => ofBool s.power.telValid

def bringUpObject (s : State) (sub : Nat) : Val :=
  match sub with
  | 1 => .num (bringUpStateCode s.boot.state)
  | 2 => .num (bringUpCode s.boot.command)
  | 3 => .num (resultCode s.boot.result)
  | 4 => .num s.boot.stepGtc.toNat
  | 5 => .num s.boot.readyGtc.toNat
  | _ => .bytes s.det.unitMap

def imageObject (s : State) (sub : Nat) : Val :=
  match sub with
  | 7 => .num (4096 * s.boot.blocks.length)
  | 8 => .num s.boot.loadError
  | _ => .bytes s.boot.tileDigest

def popCount (n : Nat) : Nat := ((List.range 32).filter n.testBit).length

def testObject (s : State) (sub : Nat) : Nat :=
  match sub with
  | 1 => s.boot.loaded.length
  | 2 => s.boot.failedClusters.length
  | _ => popCount s.boot.failedEngines.toNat

def laneOf (s : State) (p l : Nat) : Option LaneRes := s.boot.lanes.find? fun x => x.port == p && x.lane == l

def laneErrors (s : State) (p l : Nat) : Nat := ((laneOf s p l).map (·.errors)).getD 0
def laneResultOf (s : State) (p l : Nat) : Nat := ((laneOf s p l).map (·.result)).getD 0

/-- The fall-back wires of a group that were measured: 128 in each (15, R445, R462). -/
def wiresOf (s : State) (k : Nat) : List LaneRes :=
  s.boot.lanes.filter fun x => x.port == wirePort && x.lane / 128 == k

/-- FallbackGroupResult: that of the worst wire (15, R462). -/
def groupResult (s : State) (k : Nat) : Nat :=
  let rs := (wiresOf s k).map (·.result)
  if rs.contains 2 then 2 else if rs.contains 3 then 3 else if rs.contains 1 then 1 else 0

def worstWire (s : State) (k : Nat) : Nat := (wiresOf s k).foldl (fun a x => max a x.errors) 0

/-! ### Management (03) -/

def mgmtObject (s : State) (index sub : Nat) : Option Nat :=
  match index, sub with
  | 0x1003, 1 => some (ofBool s.mgmt.degraded)
  | 0x1003, 2 => some s.mgmt.bytesFree
  | 0x1003, 3 => some (ofBool s.mgmt.restoring)
  | 0x1100, 2 => some (ofBool s.mgmt.linkUp)
  | 0x1100, 7 => some s.mgmt.sessions.length
  | i, 3 => if 0x1110 ≤ i && i < 0x1118 then
      some (ofBool (s.mgmt.locks.any fun l => l.1.val == i - 0x1110)) else none
  | _, _ => none

def firmwareObject (s : State) (sub : Nat) : Val :=
  match sub with
  | 1 => .num s.boot.version.toNat
  | 2 => .num (fwCode s.boot.fw)
  | _ => .bytes s.boot.digest

/-- The value of an object whose right is RO, or that reads otherwise than it was written; none for an object
that reads its stored value. -/
def liveObject (s : State) (index sub : Nat) : Option Val :=
  let num (n : Nat) : Option Val := some (.num n)
  let g := fun5 (index % 32)
  if index < 0x2000 then
    if index = 0x1002 && sub ≤ 3 then some (firmwareObject s sub) else (mgmtObject s index sub).map .num
  else if index < 0x3000 then
    if index = 0x2001 && sub = 2 then num s.port0.mode
    else if index = 0x2001 && sub = 3 then num s.port0.groups.toNat
    else if 0x2011 ≤ index && index ≤ 0x2013 && 4 ≤ sub && sub ≤ 6 then num (portObject s (index - 0x2010) sub)
    else if 0x2100 ≤ index && (sub = 2 || 4 ≤ sub) then num (fnObject s g sub)
    else none
  else if index < 0x4000 then
    if index = 0x3000 && sub = 8 then num (walksInFlight s)
    else if 0x3010 ≤ index && index ≤ 0x3017 then num (bankObject s (index - 0x3010) sub)
    else if 0x3100 ≤ index && sub = 3 then num (lockedOf s g)
    else none
  else if index < 0x5000 then
    if index = 0x4000 then (match sub with
      | 1 => num s.obj.ctxs.length
      | 2 => num (liveObjs s fun _ => true).length
      | 3 => num s.obj.slotsUsed
      | 4 => num s.obj.retired
      | _ => none)
    else if 0x4100 ≤ index && [2, 4, 6, 7, 8].contains sub then num (quotaObject s g sub)
    else none
  else if index < 0x6000 then
    if index = 0x5000 && [1, 2, 4, 5, 8, 9, 11].contains sub then some (poolObject s sub)
    else if 0x5010 ≤ index && index < 0x5028 && 2 ≤ sub && sub ≤ 4 then num (stackObject s (index - 0x5010) sub)
    else if 0x5040 ≤ index && index < 0x5058 && sub = 2 then num (repairLeft s (index - 0x5040))
    else if 0x5040 ≤ index && index < 0x5058 && sub = 4 then
      num (stackResult s.pool.repairResults (index - 0x5040)).toNat
    else if 0x5060 ≤ index && index < 0x5078 && sub = 2 then
      num (stackResult s.pool.marginResults (index - 0x5060)).toNat
    else if 0x5100 ≤ index && sub = 2 then some (.bytes (placementOf s g))
    else if 0x5100 ≤ index && sub = 3 then num (extentObject s g)
    else none
  else if index < 0x7000 then
    if index = 0x6000 && sub = 11 then num s.win.table.length
    else if index = 0x6000 && sub = 12 then num (sumNat ((cohOn s 64).map (·.2)))
    else if 0x6010 ≤ index && index < 0x6050 && sub = 4 then num (cohStateCode (cohOf s (index - 0x6010)).1)
    else if 0x6010 ≤ index && index < 0x6050 && sub = 5 then num (cohRefusalCode (cohOf s (index - 0x6010)).2)
    else if 0x6100 ≤ index && index < 0x6120 && [2, 4, 6, 7].contains sub then some (windowObject s g sub)
    else if 0x6220 ≤ index && index < 0x6240 then num (peerObject s (index - 0x6220) sub)
    else none
  else if index < 0x8000 then
    if index = 0x7000 && 6 ≤ sub then num (fixedObject s sub)
    else if index = 0x7001 && sub ≤ 4 then num (gtcObject s sub)
    else if index = 0x7002 then some (mapObject s sub)
    else if index = 0x7003 && [1, 2, 6, 7, 8].contains sub then num (modeObject s sub)
    else if 0x7010 ≤ index && index < 0x7018 then num (clusterObject s (128 * (index - 0x7010) + sub - 1))
    else if 0x7100 ≤ index then num (scheduleObject s g sub)
    else none
  else if index < 0x9000 then
    if index = 0x8000 && sub = 3 then num s.idle.toNat
    else if index = 0x8000 && sub = 5 then num s.power.wakeCause.toNat
    else if 0x8100 ≤ index then num (weirObject s g sub)
    else none
  else if index < 0xA000 then
    if index = 0x9000 && sub ≠ 1 then some (errorObject s sub)
    else if index = 0x9001 then num (captureObject s sub)
    else if 0x9101 ≤ index && (sub = 3 || sub = 4) then num (sourceObject s (index - 0x9100) sub)
    else none
  else if index < 0xB000 then
    if index = 0xA000 && [1, 2, 4, 5, 6, 9, 10, 11, 15].contains sub then some (securityObject s sub)
    else if index = 0xA001 then some (.bytes (if sub = 5 then reportBody s else s.sec.mr.getD (sub - 1) []))
    else if 0xA100 ≤ index then num (tenantObject s g sub)
    else none
  else if index < 0xC000 then
    if index = 0xB000 && [2, 3, 4, 8, 9].contains sub then num (powerObject s sub)
    else if index = 0xB001 then num (telemetryObject s sub)
    else if index = 0xB010 then num (s.power.khz.getD (sub - 1) 0)
    else none
  else if index < 0xD000 then
    if index = 0xC000 && [1, 2, 3, 4, 5, 8].contains sub then some (bringUpObject s sub)
    else if index = 0xC001 && 7 ≤ sub then some (imageObject s sub)
    else if index = 0xC002 && sub = 3 then num s.boot.qualified
    else if index = 0xC002 && sub = 4 then num s.boot.failed
    else if index = 0xC002 && sub = 5 then num s.boot.duration
    else if index = 0xC003 then num (testObject s sub)
    else if index = 0xC004 then num (if sub = 1 then s.boot.calibrating.getD 0 else s.boot.calibrated)
    else if 0xC010 ≤ index && index < 0xC014 then num (laneErrors s (index - 0xC010) (sub - 1))
    else if index = 0xC018 then num (worstWire s (sub - 1))
    else if 0xC020 ≤ index && index < 0xC024 then num (laneResultOf s (index - 0xC020) (sub - 1))
    else if index = 0xC028 then num (groupResult s (sub - 1))
    else none
  else num ((assocGet s.counters (index * 256 + sub)).getD 0).toNat

/-- The object names a unit that the variant has fused off (00, R4). -/
def fusedOffObj (v : Variant) (ref : Ref) : Bool := (objRow ref).any fun r => namesFusedOff v r ref

/-- The value of an object that is defined (R81, R115). Subindex 0x00 reads the highest subindex; an object of a
fused-off unit reads its default (00, R4). -/
def readObject (s : State) (ref : Ref) : Val :=
  if ref.sub = 0 then .num ((highestSub ref.index).getD 0)
  else if fusedOffObj s.variant ref then objDefault s.variant ref
  else (liveObject s ref.index ref.sub).getD (objVal s ref.index ref.sub)

/-- A counter as a tenant reads it: without its ten least significant bits; the saturated flag stays (13,
R407). -/
def coarse (n : Nat) : Nat := n / 1024 * 1024

/-- The value that a requester reads (R86; 13, R407). -/
def readFor (s : State) (rq : Requester) (ref : Ref) : Val :=
  match rq, readObject s ref with
  | .mbx g, .num n => .num (if fnOf g ≠ 0 && 0xD000 ≤ ref.index && ref.sub ≠ 0 then coarse n else n)
  | _, v => v

end Sys2Proof.Machine
end

