-- ==== Sys2Proof/Machine/Writes.lean ====
section
/-!
DEFINITION. What a write of an object of the dictionary is refused for and what it does, object by object: the
one place where the owning chapters' effects are chosen (03_management_dictionary, R90).
-/
namespace Sys2Proof.Machine

/-- A WindowRequest from its 32 bytes (08, R262). -/
def winRequestOf (b : Bytes) : WinRequest :=
  let q := qwordAt b
  { tag := BitVec.ofNat 32 (field (q 0) 63 32), window := BitVec.ofNat 16 (field (q 0) 31 16)
    op := field (q 0) 7 0, table := w64 (q 1), root := field (q 2) 39 0
    atomic := (q 3).testBit 58, write := (q 3).testBit 57, read := (q 3).testBit 56
    mask := BitVec.ofNat 12 (field (q 3) 23 12), srcMatch := BitVec.ofNat 12 (field (q 3) 11 0) }

/-- A command of BringUpCommand (15, R462). -/
def bringUpOf : Nat → Option BringUpCmd
  | 1 => some .power
  | 2 => some .train
  | 3 => some .qualify
  | 4 => some .loadFirmware
  | 5 => some .broadcast
  | 6 => some .test
  | 7 => some .publishMap
  | 8 => some .declareReady
  | _ => none

/-- The start of a step (15, R442). -/
def stepStart : BringUpCmd → State → State
  | .none => id
  | .power => startPower
  | .train => startTrain
  | .qualify => startQualify
  | .loadFirmware => startLoad
  | .broadcast => startBroadcast
  | .test => emit .clusterTest
  | .publishMap => id
  | .declareReady => startDeclare

/-- RestoreDefaults written 1 while a removal runs (R97); that it is BUSY then is DEDUCED. -/
def restoreRefused (s : State) : Option EStatus := if s.mgmt.restoring then some .busy else none

/-- RestoreDefaults starts (R97). -/
def startRestore (s : State) : State := modMgmt (fun x => { x with restoring := true }) s

/-! ### Refusals of the owning chapters -/

/-- The reactions of a source obey R378 (12): an S3 source has NMI and ERR_PIN set and no reset bit. -/
def reactionOk (c v : Nat) : Bool :=
  match allSources[c - 1]? with
  | some e => srcClass e != 3 || (v.testBit 1 && v.testBit 4 && !v.testBit 2 && !v.testBit 3)
  | none => false

/-- The value that another object takes in the same batch, or has (06, R464). -/
def batchNum (s : State) (batch : List WEntry) (ref : Ref) : Nat :=
  match batch.reverse.find? fun e => e.ref == ref with
  | some e => leNat e.data
  | none => objNum s ref.index ref.sub

/-- A pool extent pair as the batch leaves it (06, R464). -/
def extentWrite (s : State) (batch : List WEntry) (g : Fun) : Option EStatus :=
  extentRefused g (some (w64 (batchNum s batch ⟨0x3100 + g.val, 1⟩)))
    (some (w64 (batchNum s batch ⟨0x3100 + g.val, 2⟩))) s

/-- ContextQuota may not fall below the highest bound DoorbellSlot + 1 (04, R154). -/
def quotaRefused (g : Fun) (n : Nat) (s : State) : Option EStatus :=
  if s.obj.ctxs.any fun e => e.2.fn == g && e.2.bound && n < e.2.slot + 1 then some .outOfRange else none

/-- Writes of chapters 04 to 11. -/
def refuseUnits (batch : List WEntry) (ref : Ref) (n : Nat) (s : State) : Option EStatus :=
  let g := fun5 (ref.index % 32)
  if 0x3100 ≤ ref.index && ref.index < 0x3120 then extentWrite s batch g
  else if 0x4100 ≤ ref.index && ref.index < 0x4120 && ref.sub = 1 then quotaRefused g n s
  else if 0x5040 ≤ ref.index && ref.index < 0x5058 then repairRefused s
  else if 0x5060 ≤ ref.index && ref.index < 0x5078 then marginRefused (w64 n) s
  else if 0x6100 ≤ ref.index && ref.index < 0x6120 && ref.sub = 3 then winRefused g s
  else if ref = ⟨0x7002, 4⟩ then (if n = 1 then remapRefused s else none)
  else if ref = ⟨0x7003, 5⟩ then (if n = 1 then stageRefused s else none)
  else if ref.index = 0x8010 then (if wakeEntryOk s.variant n then none else some .outOfRange)
  else if 0x8100 ≤ ref.index && ref.index < 0x8120 && ref.sub = 2 && portOf g ≠ 0 then some .outOfRange
  else none

/-- Writes of chapters 12 to 15. -/
def refuseSystem (ref : Ref) (v : Val) (n : Nat) (s : State) : Option EStatus :=
  if ref = ⟨0x9000, 3⟩ then blockBusy s
  else if ref = ⟨0x9000, 6⟩ then (if n = 1 then pinHeld s else none)
  else if 0x9101 ≤ ref.index && ref.index ≤ 0x911A && ref.sub = 2 then
    (if reactionOk (ref.index - 0x9100) n then none else some .outOfRange)
  else if ref = ⟨0xA000, 6⟩ then raiseRefused n s
  else if ref = ⟨0xA000, 10⟩ then tokenRefused (valBytes v) s
  else if ref = ⟨0xB000, 4⟩ then workRefused (n == 1) s
  else if ref = ⟨0xC000, 2⟩ then (match bringUpOf n with
    | some c => stepRefused c s
    | none => if s.boot.result = .running then some .busy else some .outOfRange)
  else if ref = ⟨0xC001, 6⟩ then chunkRefused (valBytes v) s
  else if ref.index = 0xC001 then
    (if loadRuns s then some .busy
      else if ref.sub = 2 && portsOf s.variant ≤ n then some .outOfRange else none)
  else if ref = ⟨0xC004, 1⟩ then calibrationRefused n s
  else none

/-- Why a write that passed the checks of R96 is refused by the object's own chapter (R90). -/
def refuseWrite (batch : List WEntry) (ref : Ref) (v : Val) (s : State) : Option EStatus :=
  let n := valNum v
  if ref = ⟨0x1003, 3⟩ then (if n = 1 then restoreRefused s else none)
  else if ref.index < 0x9000 then refuseUnits batch ref n s
  else refuseSystem ref v n s

/-! ### Effects -/

/-- A session's own slot: a write of its role or secret closes it (R105). -/
def closeSlot (k : Nat) (s : State) : State :=
  modMgmt (fun x => { x with sessions := x.sessions.filter fun e => e.slot.val != k }) s

/-- CredentialRole or CredentialSecret of a slot; replacing the secret of slot 0 ends CredentialInitial (R103,
R105). -/
def writeCredential (ref : Ref) (v : Val) (s : State) : State :=
  let s := putObj ref v s
  let s := if ref.sub = 2 && objNum s ref.index 4 ≠ 0 then putObj ⟨ref.index, 4⟩ (.num 0) s else s
  closeSlot (ref.index - 0x1110) s

/-- A value with its reserved bits cleared (00, R6): WakeEntry, ModeStageWord (10, R342) and ErrReaction. -/
def putMasked (ref : Ref) (n : Nat) (s : State) : State :=
  if ref.index = 0x8010 then putObj ref (.num (field n 31 30 * 2 ^ 30 + field n 13 0)) s
  else if ref.index = 0x7003 then putObj ref (.num (n / 2 ^ 32 * 2 ^ 32 + n % 8)) s
  else putObj ref (.num (n % 32)) s

/-- CohObject and CohApertureBase: ignored while the window is ON or CLOSING (08, R278). -/
def writeCoh (ref : Ref) (v : Val) (s : State) : State :=
  let n := ref.index - 0x6010
  if ref.sub = 3 then (if valNum v = 1 then enableCoh n s else disableCoh n s)
  else if (cohOf s n).1 == .on || (cohOf s n).1 == .closing then s
  else putObj ref v s

/-- Writes of chapters 03 to 11 (R90). -/
def applyUnits (ref : Ref) (v : Val) (s : State) : State :=
  let n := valNum v
  let g := fun5 (ref.index % 32)
  if ref = ⟨0x1003, 3⟩ then (if n = 1 then startRestore s else s)
  else if 0x1110 ≤ ref.index && ref.index < 0x1118 then writeCredential ref v s
  else if ref = ⟨0x2001, 1⟩ then (if n = 1 then requestMain s else requestFallback s)
  else if 0x2011 ≤ ref.index && ref.index ≤ 0x2013 && ref.sub = 1 then
    setPortEnable (Fin.ofNat 4 (ref.index - 0x2010)) (n == 1) s
  else if 0x2100 ≤ ref.index && ref.index < 0x2120 && ref.sub = 1 then setFnEnable g (n == 1) s
  else if 0x2100 ≤ ref.index && ref.index < 0x2120 && ref.sub = 3 then serveWaits (portOf g) (putObj ref v s)
  else if 0x5040 ≤ ref.index && ref.index < 0x5058 then startRepair (ref.index - 0x5040) (w64 n) s
  else if 0x5060 ≤ ref.index && ref.index < 0x5078 then startMargin (ref.index - 0x5060) (w64 n) s
  else if 0x6010 ≤ ref.index && ref.index < 0x6050 then writeCoh ref v s
  else if 0x6100 ≤ ref.index && ref.index < 0x6120 && ref.sub = 3 then
    winRequest g (winRequestOf (valBytes v)) (winRequestOf (valBytes v)).op s
  else if 0x6200 ≤ ref.index && ref.index < 0x6220 then
    writePeerEntry (BitVec.ofNat 12 (128 * (ref.index - 0x6200) + ref.sub - 1)) n s
  else if ref = ⟨0x7002, 4⟩ then (if n = 1 then startUnitRemap s else s)
  else if ref = ⟨0x7003, 5⟩ then (if n = 1 then startStage s else s)
  else if ref.index = 0x8010 || ref = ⟨0x7003, 3⟩ then putMasked ref n s
  else if 0x8100 ≤ ref.index && ref.index < 0x8120 then
    (if ref.sub = 1 then setDelay g n s else setTargetDie g n s)
  else putObj ref v s

/-- Writes of chapters 12 to 15, and of the counters (R90). -/
def applySystem (ref : Ref) (v : Val) (s : State) : State :=
  let n := valNum v
  if ref = ⟨0x9000, 3⟩ then (if n = 1 then startBlockReset s else s)
  else if ref = ⟨0x9000, 6⟩ then (if n = 1 then releasePin s else s)
  else if ref = ⟨0x9001, 11⟩ then
    (if n = 1 then modErr (fun x => { x with capture := Capture.init }) s else s)
  else if 0x9101 ≤ ref.index && ref.index ≤ 0x911A && ref.sub = 2 then putMasked ref n s
  else if ref = ⟨0x9000, 5⟩ || (0x9101 ≤ ref.index && ref.index ≤ 0x911A && ref.sub = 3) ||
      0xD000 ≤ ref.index then clearCounter ref s
  else if ref = ⟨0xA000, 6⟩ then burnMinSec n s
  else if ref = ⟨0xA000, 10⟩ then acceptToken (valBytes v) s
  else if ref = ⟨0xB000, 4⟩ then setWork (n == 1) s
  else if ref = ⟨0xB000, 8⟩ then (if n = 1 then requestSleep s else s)
  else if ref = ⟨0xC000, 2⟩ then (match bringUpOf n with
    | some c => stepStart c (beginStep c s)
    | none => s)
  else if ref = ⟨0xC001, 6⟩ then copyChunk (valBytes v) s
  else if ref = ⟨0xC004, 1⟩ then (if n = 0 then s else startCalibration n s)
  else putObj ref v s

/-- The effect of an accepted write (R90). -/
def applyWrite (ref : Ref) (v : Val) (s : State) : State :=
  if ref.index < 0x9000 then applyUnits ref v s else applySystem ref v s

/-! ### Credentials (R116) -/

/-- Role and secret of each slot. -/
def credentials (s : State) : List (Nat × Bytes) :=
  (List.range 8).map fun k => (objNum s (0x1110 + k) 1, objBytes s (0x1110 + k) 2)

/-- The credentials after one entry of a batch. -/
def credentialAfter (l : List (Nat × Bytes)) (e : WEntry) : List (Nat × Bytes) :=
  if 0x1110 ≤ e.ref.index && e.ref.index < 0x1118 then
    let k := e.ref.index - 0x1110
    let old := l.getD k (0, [])
    l.set k (if e.ref.sub = 1 then (leNat e.data, old.2) else if e.ref.sub = 2 then (old.1, e.data) else old)
  else l

/-- Some slot has the role ADMIN and a secret. -/
def adminLeft (l : List (Nat × Bytes)) : Bool := l.any fun c => c.1 == 3 && !c.2.isEmpty

/-- The entry of a batch that leaves no ADMIN slot with a secret, when the whole batch leaves none: the last one
that takes the last such slot away (R116). -/
def lockoutEntry (s : State) (batch : List WEntry) : Option Nat :=
  let states := batch.foldl (fun (a : List (List (Nat × Bytes))) e =>
    credentialAfter (a.headD (credentials s)) e :: a) [credentials s]
  let after := states.reverse
  if adminLeft (states.headD []) then none
  else ((List.range batch.length).reverse).find? fun i =>
    adminLeft (after.getD i []) && !adminLeft (after.getD (i + 1) [])

end Sys2Proof.Machine
end

