-- ==== Sys2Proof/Machine/Management.lean ====
section
/-!
DEFINITION. The management protocol, the mailboxes, the dictionary engine and the stored set
(03_management_dictionary, R88 to R113).
-/
namespace Sys2Proof.Machine

/-! ### Status codes and payloads (R107, R110) -/

/-- An object reference in four bytes: index, subindex, a last byte. -/
def refBytes (r : Ref) (last : Nat) : Bytes := leBytes 2 r.index ++ leBytes 1 r.sub ++ leBytes 1 last

def refAt (b : Bytes) (off : Nat) : Ref := ⟨numAt b off 2, numAt b (off + 2) 1⟩

/-- Bytes that pad a length to a multiple of eight. -/
def padLen (n : Nat) : Nat := (8 - n % 8) % 8

/-- An entry header (R107). -/
def entryHeader (e : EResult) : Bytes :=
  refBytes e.ref (eStatusCode e.status) ++ leBytes 1 e.typeCode ++ [0] ++ leBytes 2 e.value.length

/-- An entry of a READ response: header and padded value. -/
def readEntry (e : EResult) : Bytes := entryHeader e ++ e.value ++ List.replicate (padLen e.value.length) 0

/-! ### Accesses of the engine (R84 to R96, R107 to R109) -/

/-- TypeCode of an entry that fails (R107): the object's type where the requester sees the object, 0 otherwise: DESIGN
CHOICE. -/
def typeCodeFor (rq : Requester) (ref : Ref) : Nat :=
  match rowOf ref with
  | some r => if sees rq r ref then typeCode r.ty else 0
  | none => 0

/-- Whether a type is STRING or BLOB. -/
def segmented (t : ObjTy) : Bool := t == .string || t == .blob

/-- READ of one object: a BLOB gives its length (R107, R112). -/
def readOne (s : State) (rq : Requester) (ref : Ref) : EResult :=
  match readStatus rq ref, rowOf ref with
  | .ok, some r =>
    let v := readFor s rq ref
    ⟨ref, .ok, typeCode r.ty,
      if r.ty == .blob then leBytes 4 (valBytes v).length else valBytesOf r v⟩
  | e, _ => ⟨ref, e, typeCodeFor rq ref, []⟩

/-- READ_SEGMENT (R109). -/
def readPart (s : State) (rq : Requester) (ref : Ref) (off len : Nat) : EResult :=
  match readStatus rq ref, rowOf ref with
  | .ok, some r =>
    let b := valBytes (readFor s rq ref)
    if !segmented r.ty then ⟨ref, .typeMismatch, typeCode r.ty, []⟩
    else if b.length < off then ⟨ref, .outOfRange, typeCode r.ty, []⟩
    else ⟨ref, .ok, typeCode r.ty, sliceBytes b off (min len (b.length - off))⟩
  | e, _ => ⟨ref, e, typeCodeFor rq ref, []⟩

/-- Status of one entry of a WRITE (R96, R116). -/
def entryStatus (s : State) (rq : Requester) (batch : List WEntry) (i : Nat) (e : WEntry) : EStatus :=
  match writeStatus s rq e.ref e.data, rowOf e.ref with
  | .ok, some r =>
    if lockoutEntry s batch == some i then .writeDenied
    else (refuseWrite batch e.ref (sentVal r e.data) s).getD .ok
  | st, _ => st

/-- The object has a record in the stored set. -/
def isStored (ref : Ref) : Bool := (objRow ref).any fun r => r.pers == .stored

/-- Apply the entries of a batch in order. -/
def applyBatch (batch : List WEntry) (s : State) : State :=
  foldState (fun e s => match rowOf e.ref with
    | some r => applyWrite e.ref (sentVal r e.data) s
    | none => s) batch s

/-- WRITE as one access: every entry is checked first; all are applied, or none (R89). When the flash fails, the
STORED entries carry STORE_FAILED and the error is raised (R110). -/
def writeBatch (rq : Requester) (batch : List WEntry) (flashFails : Bool) (s : State) : State × List EResult :=
  let st := (batch.zipIdx.map fun e => entryStatus s rq batch e.2 e.1)
  let result (e : WEntry) (x : EStatus) : EResult := ⟨e.ref, x, typeCodeFor rq e.ref, []⟩
  if st.any (· != .ok) then
    (s, (batch.zip st).map fun e => result e.1 (if e.2 == .ok then .notApplied else e.2))
  else if flashFails && batch.any fun e => isStored e.ref then
    (raiseError .storeFailed { kind := 9, access := 2 } s,
      batch.map fun e => result e (if isStored e.ref then .storeFailed else .notApplied))
  else (applyBatch batch s, batch.map fun e => result e .ok)

/-- Where a requester's staging stands: a session's or a mailbox's (R108). -/
def stagingOf (s : State) (rq : Requester) (sid : U32) : Option Staging :=
  match rq with
  | .net _ _ => (s.mgmt.sessions.find? fun x => x.sid == sid).bind (·.staging)
  | .mbx g => (getFn s g).mbx.staging

def setStaging (rq : Requester) (sid : U32) (x : Option Staging) (s : State) : State :=
  match rq with
  | .net _ _ => modMgmt (fun m => { m with
      sessions := m.sessions.map fun e => if e.sid == sid then { e with staging := x } else e }) s
  | .mbx g => modMbx g (fun m => { m with staging := x }) s

/-- Bytes staged for an object (R109). -/
def stagedFor (x : Option Staging) (ref : Ref) : Bytes :=
  match x with
  | some t => if t.ref == ref then t.data else []
  | none => []

/-- Checks of a segment before its data: rights, then the states that turn writes away (R109; 15, R450). -/
def segmentStatus (s : State) (rq : Requester) (ref : Ref) (r : ObjRow) : EStatus :=
  if s.err.pkg == .fatal then .busy
  else match rightStatus s rq r ref with
    | .ok =>
      if !segmented r.ty then .typeMismatch
      else if (s.mgmt.restoring && r.pers == .stored) || (ref.index == 0xC001 && loadRuns s) then .busy
      else .ok
    | e => e

/-- The Final segment: the object takes the staged value (R108, R109). -/
def finalSegment (rq : Requester) (sid : U32) (ref : Ref) (r : ObjRow) (b : Bytes) (flashFails : Bool) (s : State) :
    State × EStatus :=
  match valueStatus r b with
  | .ok =>
    let e : WEntry := ⟨ref, b⟩
    if lockoutEntry s [e] == some 0 then (s, .writeDenied)
    else match refuseWrite [e] ref (.bytes b) s with
      | some x => (s, x)
      | none =>
        if flashFails && isStored ref then (raiseError .storeFailed { kind := 9, access := 2 } s, .storeFailed)
        else (applyWrite ref (.bytes b) (setStaging rq sid none s), .ok)
  | x => (setStaging rq sid none s, x)

/-- WRITE_SEGMENT (R108, R109). -/
def writePart (rq : Requester) (sid : U32) (ref : Ref) (final : Bool) (off : Nat) (data : Bytes) (flashFails : Bool)
    (s : State) : State × EResult :=
  let result (x : EStatus) : EResult := ⟨ref, x, typeCodeFor rq ref, []⟩
  match rowOf ref with
  -- in the fatal state an object that does not exist answers as every other one does (R86; 12, R387)
  | none => (s, result (if s.err.pkg == .fatal then .busy else .noObject))
  | some r =>
    match segmentStatus s rq ref r with
    | .ok =>
      let staged := stagedFor (stagingOf s rq sid) ref
      if r.maxLen < off + data.length then (s, result .outOfRange)
      else if off ≠ 0 && off ≠ staged.length then (s, result .outOfRange)
      else
        let b := (if off = 0 then [] else staged) ++ data
        if final then
          let x := finalSegment rq sid ref r b flashFails s
          (x.1, result x.2)
        else (setStaging rq sid (some ⟨ref, b⟩) s, result .ok)
    | x => (s, result x)

/-! ### LIST and the object directory (R108, R114) -/

def scopeCode : ObjScope → Nat
  | .package => 0
  | .port _ => 1
  | .fn _ => 2

/-- Port or function that an object belongs to (R114). -/
def scopeNumber (r : ObjRow) (ref : Ref) : Nat :=
  match r.scope with
  | .package => 0
  | .port b => ref.index - b
  | .fn b => ref.index - b

/-- Persistence: No, VOLATILE, STORED (R114). -/
def persCode (r : ObjRow) : Nat := if r.acc == .const then 0 else if r.pers == .stored then 2 else 1

/-- Largest length of an object's value (R114). For a STRING it is 64, also where the Meaning of the object states a
shorter length: DESIGN CHOICE. -/
def maxBytes (r : ObjRow) : Nat :=
  match typeLen r.ty with
  | some n => n
  | none => if r.ty == .string then 64 else r.maxLen

/-- A calibration object: a STORED object with a factory value; CalibrateRequest is none (R95). -/
def isCalibration (r : ObjRow) : Bool := r.calib && r.pers == .stored

/-- A directory entry, with its NameOffset (R114). -/
def directoryEntry (ref : Ref) (r : ObjRow) (nameOffset : Nat) : Bytes :=
  leBytes 8 (maxBytes r * 2 ^ 48 + scopeNumber r ref * 2 ^ 42 + scopeCode r.scope * 2 ^ 40
      + bit (isCalibration r) 38 + persCode r * 2 ^ 36 + accCode r.acc * 2 ^ 32 + typeCode r.ty * 2 ^ 24
      + ref.sub * 2 ^ 16 + ref.index)
    ++ leBytes 8 nameOffset

/-- Every index of the dictionary, rising. -/
def allIndices : List Nat :=
  objectTable.foldl (fun a r => (List.range r.count).foldl (fun b i => insertNat (r.base + i) b) a) []

/-- The references from one on, rising (R81, R108). -/
def refsFrom (from_ : Ref) : List Ref :=
  (allIndices.filter fun i => from_.index ≤ i).flatMap fun i =>
    ((List.range ((highestSub i).getD 0 + 1)).filter fun k => i ≠ from_.index || from_.sub ≤ k).map fun k => ⟨i, k⟩

/-- The payload of a LIST response: at most 28 entries and the next reference (R107, R108). -/
def listPayload (from_ : Ref) : Bytes :=
  let l := (refsFrom from_).take 29
  let here := l.take 28
  let next := (l.drop 28).headD ⟨0xFFFF, 0xFF⟩
  let entry (ref : Ref) : Bytes :=
    match rowOf ref with
    | some r => directoryEntry ref r 0 ++ padTo 32 (asciiBytes r.name)
    | none => []
  leBytes 2 here.length ++ leBytes 2 0 ++ refBytes next 0 ++ here.flatMap entry

/-! ### The engine (R88) -/

/-- What an access answers. -/
inductive Answer where
  | entries (l : List EResult)
  | listing (b : Bytes)

/-- Execute one access (R88). -/
def runAccess (rq : Requester) (sid : U32) (a : Access) (flashFails : Bool) (s : State) : State × Answer :=
  match a with
  | .read refs => (s, .entries (refs.map (readOne s rq)))
  | .write l =>
    let x := writeBatch rq l flashFails s
    (x.1, .entries x.2)
  | .readSegment ref off len => (s, .entries [readPart s rq ref off len])
  | .writeSegment ref final off data =>
    let x := writePart rq sid ref final off data flashFails s
    (x.1, .entries [x.2])
  | .list ref => (s, .listing (listPayload ref))

/-- Response payload of an access over the network, and its frame status (R107). The bytes of a READ_SEGMENT response
are not padded to a multiple of 8: DESIGN CHOICE. -/
def answerPayload (a : Access) (r : Answer) : FStatus × Bytes :=
  match r with
  | .listing b => (.ok, b)
  | .entries l =>
    match a with
    | .read _ =>
      let b := leBytes 2 l.length ++ [0, 0] ++ l.flatMap readEntry
      if 1404 < b.length then (.responseTooLarge, []) else (.ok, b)
    | .write _ => (.ok, leBytes 2 l.length ++ [0, 0] ++ l.flatMap fun e => refBytes e.ref (eStatusCode e.status))
    | .readSegment _ _ _ => (.ok, l.flatMap fun e => entryHeader e ++ e.value)
    | .writeSegment _ _ _ _ => (.ok, l.flatMap fun e => refBytes e.ref (eStatusCode e.status))
    | .list _ => (.ok, [])

/-- Answer a request of a session under its key, and keep the response (R101, R106). -/
def respondUnder (key : Option Bytes) (a : NetAddr) (opcode : Nat) (st : FStatus) (sid seq : U32) (payload : Bytes)
    (s : State) : State :=
  let keep (k : Kept) : Kept :=
    if k.seq == seq then { k with status := st, gtc := s.gtc, payload := payload, ready := true } else k
  sendNet a (hmpResponse key a opcode st sid seq s.gtc payload) (modMgmt (fun x => { x with
    sessions := x.sessions.map fun e => if e.sid == sid then { e with kept := e.kept.map keep } else e }) s)

/-- Answer a request of an open session. -/
def respondIn (a : NetAddr) (opcode : Nat) (st : FStatus) (sid seq : U32) (payload : Bytes) (s : State) : State :=
  respondUnder (sessionKey s sid) a opcode st sid seq payload s

/-- The engine executes the first waiting access of the network. Its response leaves under the key of the session that
sent it, also where that session has closed meanwhile, by its own write of its slot or otherwise (R88, R101, R105). -/
def netTurn (flashFails : Bool) (s : State) : State :=
  match s.mgmt.queue with
  | [] => s
  | q :: rest =>
    let s := modMgmt (fun x => { x with queue := rest }) s
    let r := runAccess (.net q.role q.cal) q.sid q.access flashFails s
    let p := answerPayload q.access r.2
    respondUnder (some q.key) q.src q.opcode p.1 q.sid q.seq p.2 r.1

/-- The mailbox registers after an operation (R111, R112): a read leaves at most 32 bytes in MbxData. -/
def mbxAnswer (a : Access) (r : Answer) (m : MbxSt) : MbxSt :=
  match r with
  | .entries (e :: _) =>
    let b := e.value.take 32
    let reads : Bool := match a with
      | .read _ | .readSegment _ _ _ => e.status == .ok
      | _ => false
    { m with
      busy := false, done := true, op := none, status := e.status, typeCode := e.typeCode
      rdLength := if reads then b.length else 0
      data := if reads then overlay m.data 0 b else m.data }
  | _ => { m with busy := false, done := true, op := none }

/-- The engine executes the operation of a mailbox. -/
def mbxTurn (g : Fun) (flashFails : Bool) (s : State) : State :=
  match (getFn s g).mbx.op with
  | none => s
  | some a =>
    let r := runAccess (.mbx g) 0 a flashFails s
    modMbx g (mbxAnswer a r.2) r.1

/-- A source has an access that waits: 0 the network, 1 + g the mailbox of g (R88). -/
def sourceWaits (s : State) (k : Nat) : Bool :=
  if k = 0 then !s.mgmt.queue.isEmpty else (getFn s (fun5 (k - 1))).mbx.op.isSome

/-- One turn of the dictionary engine, in round robin over the 33 sources (R88). -/
def engineTurn33 (flashFails : Bool) (s : State) : State :=
  if s.power.phase = .asleep then s
  else
    let order := (List.range 33).map fun i => (s.mgmt.turn + i) % 33
    match order.find? (sourceWaits s) with
    | none => s
    | some k =>
      let s := modMgmt (fun x => { x with turn := (k + 1) % 33 }) s
      if k = 0 then netTurn flashFails s else mbxTurn (fun5 (k - 1)) flashFails s

/-- DICTIONARY_ENGINE_TURN (R88). -/
def execDictionaryEngineTurn (flashFails : Bool) (s : State) : Out := .next (engineTurn33 flashFails s)

/-! ### Sessions (R103 to R106) -/

/-- Role of a slot. -/
def slotRole (s : State) (k : Nat) : Role :=
  match objNum s (0x1110 + k) 1 with
  | 1 => .monitor
  | 2 => .operator
  | 3 => .admin
  | _ => .none

def slotLocked (s : State) (k : Nat) : Bool := s.mgmt.locks.any fun l => l.1.val == k

/-- The next session identifier; 0 names none (R100). -/
def sidAfter (n : U32) : U32 := if n + 1 = 0 then 1 else n + 1

/-- Answer without a session (R100, R105). -/
def answerFree (a : NetAddr) (opcode : Nat) (st : FStatus) (seq : U32) (payload : Bytes) (s : State) : State :=
  sendNet a (hmpResponse none a opcode st 0 seq s.gtc payload) s

/-- OPEN_SESSION: the device nonce and a pending SessionId, or a refusal (R104). The session key is derived from the
secret as it then is: DESIGN CHOICE. While no nonce can be issued the
request waits, unanswered (13, R404). -/
def openSession (src : NetAddr) (seq : U32) (b : Bytes) (s : State) : State :=
  let k := numAt b 0 1
  if b.length ≠ 36 then answerFree src 1 .badPayload seq [] s
  else if slotLocked s k then answerFree src 1 .slotLocked seq [] s
  else if 8 ≤ k || slotRole s k == .none || (objBytes s (0x1110 + k) 2).isEmpty then
    answerFree src 1 .noCredential seq [] s
  else if 16 ≤ s.mgmt.sessions.length then answerFree src 1 .tooManySessions seq [] s
  else if s.sec.entropyFailed then s
  else
    let r := drawBytes 32 s
    let sid := r.1.mgmt.nextSid
    let key := hmpSessionKey (objBytes s (0x1110 + k) 2) (b.drop 4) r.2 k
    let x : Session := ⟨sid, false, Fin.ofNat 8 k, b.drop 4, r.2, key, s.gtc, none, [], none⟩
    answerFree src 1 .ok seq (r.2 ++ leBytes 4 sid.toNat)
      (modMgmt (fun m => { m with nextSid := sidAfter sid, sessions := m.sessions ++ [x] }) r.1)

/-- HMP_OPEN_SESSION (R104). -/
def execHmpOpenSession (src : NetAddr) (seq : U32) (b : Bytes) (s : State) : Out :=
  .next (if hmpIn s src 0 b.length then openSession src seq b s else s)

/-- A failed proof: the fifth for a slot within 60 s locks it (R105). -/
def authFailed (k : Slot) (s : State) : State :=
  let recent := (s.mgmt.authFails.filter fun f => since s f.2 ≤ 75000000000) ++ [(k, s.gtc)]
  if 5 ≤ (recent.filter fun f => f.1 == k).length then
    modMgmt (fun x => { x with
      authFails := recent.filter fun f => f.1 != k, locks := x.locks ++ [(k, s.gtc)] }) s
  else modMgmt (fun x => { x with authFails := recent }) s

/-- PROVE (R104): within 10 s of OPEN_SESSION. A locked slot answers SLOT_LOCKED, DEDUCED from R105. After an entropy
failure no new session opens: a PROVE waits, unanswered (13, R404). -/
def prove (src : NetAddr) (seq : U32) (b : Bytes) (s : State) : State :=
  let sid : U32 := BitVec.ofNat 32 (numAt b 0 4)
  if b.length ≠ 52 then answerFree src 2 .badPayload seq [] s
  else match s.mgmt.sessions.find? fun x => x.sid == sid && !x.opened with
    | none => answerFree src 2 .noSession seq [] s
    | some x =>
      let secret := objBytes s (0x1110 + x.slot.val) 2
      let slot := leBytes 1 x.slot.val
      if 12500000000 < since s x.since then answerFree src 2 .noSession seq [] s
      else if slotLocked s x.slot.val then answerFree src 2 .slotLocked seq [] s
      else if s.sec.entropyFailed then s
      else if b.drop 4 = hmac secret (asciiBytes "HMP-PROVE" ++ x.nc ++ x.nd ++ slot) then
        answerFree src 2 .ok seq (hmac secret (asciiBytes "HMP-DEVICE" ++ x.nd ++ x.nc ++ slot))
          (modMgmt (fun m => { m with
            sessions := m.sessions.map fun e =>
              if e.sid == sid then { e with opened := true, since := s.gtc } else e }) s)
      else answerFree src 2 .authFailed seq [] (authFailed x.slot s)

/-- HMP_PROVE (R104). -/
def execHmpProve (src : NetAddr) (seq : U32) (b : Bytes) (s : State) : Out :=
  .next (if hmpIn s src 0 b.length then prove src seq b s else s)

/-- The session that a frame names, when it is open (R105). -/
def session33 (s : State) (sid : U32) : Option Session :=
  s.mgmt.sessions.find? fun x => x.sid == sid && x.opened

/-- Accept a Sequence: it is the highest, and its response is kept among 32 (R106). A request that is answered
BAD_PAYLOAD or BAD_OPCODE counts as accepted, and as a valid request for the idle time of R105: DESIGN CHOICE. -/
def acceptSeq (h : HmpHdr) (opcode : Nat) (s : State) : State :=
  modMgmt (fun m => { m with
    sessions := m.sessions.map fun e =>
      if e.sid == h.sid then
        { e with
          since := s.gtc, high := some h.seq
          kept := (⟨h.seq, opcode, .ok, 0, [], false⟩ :: e.kept).take 32 }
      else e }) s

/-- A request in a session: it is executed when its Sequence is the highest yet, answered again when it repeats a
kept one, and dropped otherwise (R105, R106). A repeat of a request that still waits for the engine has no response to
send yet and is answered by nothing, and not counted: DESIGN CHOICE. `n` is the length of its payload. -/
def inSession (h : HmpHdr) (opcode n : Nat) (act : Session → State → State) (s : State) : State :=
  if !hmpIn s h.src h.sid n then s
  else match session33 s h.sid with
    | none => answerFree h.src opcode .noSession h.seq [] s
    | some x =>
      if x.high.all fun n => n.toNat < h.seq.toNat then act x (acceptSeq h opcode s)
      else match x.kept.find? fun k => k.seq == h.seq with
        | some k =>
          let s := modMgmt (fun m => { m with
            sessions := m.sessions.map fun e => if e.sid == h.sid then { e with since := s.gtc } else e }) s
          if k.ready then
            sendNet h.src (hmpResponse (some x.key) h.src k.opcode k.status h.sid h.seq k.gtc k.payload) s
          else s
        | none => countPackage 0x04 s

/-- Queue an access for the engine, or answer BAD_PAYLOAD (R88, R110). -/
def queueAccess (h : HmpHdr) (opcode : Nat) (a : Option Access) (x : Session) (s : State) : State :=
  match a with
  | none => respondIn h.src opcode .badPayload h.sid h.seq [] s
  | some a =>
    modMgmt (fun m => { m with
      queue := m.queue ++ [⟨h.src, h.sid, h.seq, opcode, x.slot, slotRole s x.slot.val, x.key, h.cal, a⟩] }) s

/-- References of a READ payload (R107). -/
def parseRead (b : Bytes) : Option Access :=
  let n := numAt b 0 2
  if 1 ≤ n && n ≤ 64 && b.length = 4 + 4 * n then
    some (.read ((List.range n).map fun i => refAt b (4 + 4 * i)))
  else none

/-- Entries of a WRITE payload from an offset on: header, value, padding (R107). -/
def parseEntries (b : Bytes) : Nat → Nat → Option (List WEntry)
  | 0, off => if b.length = off then some [] else none
  | n + 1, off =>
    let len := numAt b (off + 6) 2
    let next := off + 8 + len + padLen len
    if b.length < next then none
    else (parseEntries b n next).map fun l => ⟨refAt b off, sliceBytes b (off + 8) len⟩ :: l

def parseWrite (b : Bytes) : Option Access :=
  let n := numAt b 0 2
  if 1 ≤ n && n ≤ 64 then (parseEntries b n 4).map .write else none

def parseReadSegment (b : Bytes) : Option Access :=
  let n := numAt b 8 2
  if b.length = 12 && 1 ≤ n && n ≤ 1024 then some (.readSegment (refAt b 0) (numAt b 4 4) n) else none

def parseWriteSegment (b : Bytes) : Option Access :=
  let n := numAt b 8 2
  let final := numAt b 3 1
  if b.length = 12 + n && 1 ≤ n && n ≤ 1024 && final ≤ 1 then
    some (.writeSegment (refAt b 0) (final == 1) (numAt b 4 4) (b.drop 12))
  else none

def parseList (b : Bytes) : Option Access := if b.length = 4 then some (.list (refAt b 0)) else none

/-- HMP_READ (R107). -/
def execHmpRead (h : HmpHdr) (b : Bytes) (s : State) : Out :=
  .next (inSession h 0x10 b.length (queueAccess h 0x10 (parseRead b)) s)

/-- HMP_WRITE (R89, R107). -/
def execHmpWrite (h : HmpHdr) (b : Bytes) (s : State) : Out :=
  .next (inSession h 0x11 b.length (queueAccess h 0x11 (parseWrite b)) s)

/-- HMP_READ_SEGMENT (R109). -/
def execHmpReadSegment (h : HmpHdr) (b : Bytes) (s : State) : Out :=
  .next (inSession h 0x12 b.length (queueAccess h 0x12 (parseReadSegment b)) s)

/-- HMP_WRITE_SEGMENT (R108, R109). -/
def execHmpWriteSegment (h : HmpHdr) (b : Bytes) (s : State) : Out :=
  .next (inSession h 0x13 b.length (queueAccess h 0x13 (parseWriteSegment b)) s)

/-- HMP_LIST (R108). -/
def execHmpList (h : HmpHdr) (b : Bytes) (s : State) : Out :=
  .next (inSession h 0x20 b.length (queueAccess h 0x20 (parseList b)) s)

/-- A session ends; its staging goes with it (R105, R108). -/
def endSession33 (sid : U32) (s : State) : State :=
  modMgmt (fun m => { m with sessions := m.sessions.filter fun x => x.sid != sid }) s

/-- HMP_CLOSE_SESSION (R105). -/
def execHmpCloseSession (h : HmpHdr) (s : State) : Out :=
  .next (inSession h 3 0 (fun _ s => endSession33 h.sid (respondIn h.src 3 .ok h.sid h.seq [] s)) s)

/-- HMP_BAD_OPCODE (R102); an opcode that is defined is none. -/
def execHmpBadOpcode (h : HmpHdr) (opcode : U16) (s : State) : Out :=
  let n := opcode.toNat
  .next (if [1, 2, 3, 0x10, 0x11, 0x12, 0x13, 0x20, 0x50].contains n || !hmpIn s h.src h.sid 0 then s
    else if h.sid = 0 then answerFree h.src n .badOpcode h.seq [] s
    else inSession h n 0 (fun _ s => respondIn h.src n .badOpcode h.sid h.seq [] s) s)

/-- A frame with a bad header, or whose tag fails, is dropped and counted; of a good one it is no drop (R101). -/
def dropFrame (src : NetAddr) (b : Bytes) (s : State) : State :=
  if !netIn s src (48 + b.length) || src.toPort ≠ s.mgmt.udpPort then s
  else if hmpBad b then countPackage 0x03 s
  else if hmpTagFails s b then countPackage 0x02 s
  else s

/-- HMP_FRAME_DROPPED (R101). -/
def execHmpFrameDropped (d : UdpIn) (s : State) : Out := .next (dropFrame d.src d.bytes s)

/-- PENDING_SESSION_EXPIRY: 10 s without a proof (R104). -/
def execPendingSessionExpiry (sid : U32) (s : State) : Out :=
  .next (modMgmt (fun m => { m with
    sessions := m.sessions.filter fun x => x.sid != sid || x.opened || since s x.since ≤ 12500000000 }) s)

/-- SESSION_IDLE_EXPIRY: MgmtSessionIdle without a valid request (R105). -/
def execSessionIdleExpiry (sid : U32) (s : State) : Out :=
  .next (modMgmt (fun m => { m with
    sessions := m.sessions.filter fun x =>
      x.sid != sid || !x.opened || since s x.since < nsCounts (objNum s 0x1100 6) }) s)

/-- SLOT_LOCK_EXPIRY: the lock has lasted 300 s (R105). -/
def execSlotLockExpiry (k : Slot) (s : State) : Out :=
  .next (modMgmt (fun m => { m with
    locks := m.locks.filter fun l => l.1 != k || since s l.2 < 375000000000 }) s)

/-! ### Mailboxes (R111 to R113) -/

/-- The reference in MbxObject (R111). -/
def mbxRef (m : MbxSt) : Ref := ⟨field m.object.toNat 31 16, field m.object.toNat 15 8⟩

/-- MbxLength, 0 to 32 (R111). The register holds a value above 32 as written, and an operation takes it as 32: DESIGN
CHOICE. -/
def mbxLen (m : MbxSt) : Nat := min 32 m.length.toNat

/-- The operation that an Op starts, from the registers (R111). -/
def mbxOp (m : MbxSt) (op : Nat) : Option Access :=
  let r := mbxRef m
  let d := m.data.take (mbxLen m)
  match op with
  | 0 => some (.read [r])
  | 1 => some (.write [⟨r, d⟩])
  | 2 => some (.readSegment r m.offset.toNat (mbxLen m))
  | 3 => some (.writeSegment r false m.offset.toNat d)
  | 4 => some (.writeSegment r true m.offset.toNat d)
  | _ => none

/-- Go with an Op: ignored while Busy is 1; an undefined Op completes BAD_OP (R111, R112). -/
def mbxGo (g : Fun) (op : Nat) (s : State) : State :=
  cfgWrite g (fun s =>
    let m := (getFn s g).mbx
    if m.busy then s
    else match mbxOp m op with
      | some a => modMbx g (fun x => { x with busy := true, done := false, ctlOp := op, op := some a }) s
      | none => modMbx g (fun x => { x with
          done := true, ctlOp := op, status := .badOp, typeCode := 0, rdLength := 0 }) s) s

/-- MBX_READ (R112). -/
def execMbxRead (g : Fun) (s : State) : Out := .next (mbxGo g 0 s)

/-- MBX_WRITE (R112). -/
def execMbxWrite (g : Fun) (s : State) : Out := .next (mbxGo g 1 s)

/-- MBX_READ_SEGMENT (R109, R112). -/
def execMbxReadSegment (g : Fun) (s : State) : Out := .next (mbxGo g 2 s)

/-- MBX_WRITE_SEGMENT (R109, R112). -/
def execMbxWriteSegment (g : Fun) (s : State) : Out := .next (mbxGo g 3 s)

/-- MBX_WRITE_SEGMENT_FINAL (R109, R112). -/
def execMbxWriteSegmentFinal (g : Fun) (s : State) : Out := .next (mbxGo g 4 s)

/-- MBX_BAD_OP: an Op of 5 to 15 (R112). -/
def execMbxBadOp (g : Fun) (op : Nat) (s : State) : Out :=
  .next (if 5 ≤ op && op ≤ 15 then mbxGo g op s else s)

/-! ### The stored set (R93, R97) -/

/-- RESTORE_DEFAULTS (R97). -/
def execRestoreDefaults (rq : Requester) (s : State) : Out :=
  .next (requestWrite rq ⟨0x1003, 3⟩ (.num 1) restoreRefused startRestore s)

/-- The reference of a key. -/
def refOfKey (k : Nat) : Ref := ⟨k / 256, k % 256⟩

/-- The record of an object that RestoreDefaults keeps (R97). -/
def keptRecord (k : Nat) : Bool := (objRow (refOfKey k)).any isCalibration

/-- The removal ends: the records of every STORED object but the calibration objects are gone; the values stay in
force (R97). -/
def endRestore (s : State) : State :=
  if s.mgmt.restoring then
    let gone := s.stored.filter fun e => !keptRecord e.1
    let freed := sumNat (gone.map fun e => recordBytes (refOfKey e.1) e.2)
    modMgmt (fun x => { x with restoring := false, dead := x.dead + freed })
      { s with stored := s.stored.filter fun e => keptRecord e.1 }
  else s

/-- RESTORE_DEFAULTS_END (R97). -/
def execRestoreDefaultsEnd (s : State) : Out := .next (endRestore s)

/-- A step of the journal's compaction frees some of the bytes of dead records; how many is free (R93, R115). -/
def compactionStep (s : State) : State :=
  let n := Config.choice s.draws (s.mgmt.dead + 1) % (s.mgmt.dead + 1)
  modMgmt (fun x => { x with bytesFree := x.bytesFree + n, dead := x.dead - n }) (draw s)

/-- JOURNAL_COMPACTION_STEP (R93). -/
def execJournalCompactionStep (s : State) : Out := .next (compactionStep s)

end Sys2Proof.Machine
end

