-- ==== Sys2Proof/Machine/Flags.lean ====
section
/-!
DEFINITION. Status words and flags: what BAR0, the configuration space and the expansion ROM window of a function
show (02_host_endpoint, R43 to R54; 03, R111, R114; 04, R120; 07, R240; 10, R327; 11, R363; 12, R394, R395). The
table of commands has no reads; these are what a read returns.
-/
namespace Sys2Proof.Machine

/-! ### Status words -/

/-- FnIdentity (02, R50). -/
def fnIdentity (s : State) (g : Fun) : Nat :=
  2 ^ 24 + variantCode s.variant * 2 ^ 16 + (portOf g).val * 2 ^ 8 + fnOf g

/-- FnState (02, R50). -/
def fnStateWord (s : State) (g : Fun) : Nat :=
  let c := (getFn s g).cfg
  bit (c.command.getLsbD 2) 11 + bit c.d3hot 10 + bit (portOf g == 0 && s.port0.mode == 0) 9
    + bit (upstreamQuiet s g) 8 + fnStateCode (getFn s g).state

/-- ErrorCode of AdminStatus (04, R120). -/
def adminErrorCode : QError → Nat
  | .none => 0
  | .badGeometry => 1
  | .badTail => 2
  | .dmaError => 3

/-- ErrorCode of FaultQStatus (07, R240). -/
def faultqErrorCode : QError → Nat
  | .none => 0
  | .badGeometry => 1
  | .badTail => 0
  | .dmaError => 2

/-- A ring's Control register: Enable and Log2Entries (04, R120; 07, R240). -/
def ringControl (enable : Bool) (log2 : Nat) : Nat := bit enable 31 + log2 % 16

/-- AdminStatus (04, R120). -/
def adminStatus (s : State) (g : Fun) : Nat :=
  adminErrorCode (getFn s g).admin.error * 16 + qStateCode (adminState s g)

/-- State of the fault queue (07, R240, R241). -/
def faultqState (s : State) (g : Fun) : QState :=
  let f := (getFn s g).faultq
  if f.error ≠ .none then .error
  else if f.enable then (if fnStalled s g then .stalled else .running)
  else .disabled

/-- FaultQStatus (07, R240). -/
def faultqStatus (s : State) (g : Fun) : Nat :=
  faultqErrorCode (getFn s g).faultq.error * 16 + qStateCode (faultqState s g)

/-- FaultsPending (07, R240). -/
def faultsPending (s : State) (g : Fun) : Nat :=
  (getFn s g).faultq.waiting.length * 2 ^ 32 + (getFn s g).faultq.pending.length

/-- FirstPending: the lowest source whose latch is set and whose mask is clear, 0x1FF when there is none (11,
R363). -/
def firstPending (x : IntSt) : Nat :=
  ((List.range 259).find? fun k => x.latches.getLsbD k && !x.masks.getLsbD k).getD 0x1FF

/-- IntSummary (11, R363). -/
def intSummary (s : State) (g : Fun) : Nat :=
  let x := (getFn s g).int
  firstPending x * 2 ^ 16 + weirCode x.weir * 4 + bit (rawSummary x) 1 + bit (x.weir == .opened) 0

/-- IntModeration (11, R363). -/
def intModeration (s : State) (g : Fun) : Nat :=
  (if portOf g = 0 then (getFn s g).int.targetDie.val * 2 ^ 22 else 0) + (getFn s g).int.delayNs

/-- SourceLoss of a source (11, R356). -/
def sourceLoss (s : State) (g : Fun) (source : Nat) : Nat :=
  ((assocGet (getFn s g).int.loss source).getD 0).toNat

/-- RingIndex: 0 for a ring that is not live (11, R363, R364). -/
def ringIndex (s : State) (g : Fun) (r : Nat) : Nat :=
  match getRing s g r with
  | some x => x.consumer.toNat * 2 ^ 32 + x.producer.toNat
  | none => 0

/-- Qword k of RingOverflowPending (11, R363). -/
def overflowWord (s : State) (g : Fun) (k : Nat) : Nat :=
  maskOf ((List.range 64).filter fun i => (getRing s g (64 * k + i)).any (·.overflow))

/-- FnErrStatus (12, R394). -/
def fnErrStatus (s : State) (g : Fun) : Nat :=
  let k := (getFn s g).capture
  k.source * 2 ^ 48 + k.access * 2 ^ 32 + k.mergedCount.toNat % 2 ^ 16 * 2 ^ 16 + k.highest * 2 ^ 10
    + k.cls * 2 ^ 8 + pkgCode s.err.pkg * 16 + bit k.heldNow 0

/-- SlotsFree (10, R327). -/
def slotsFree (s : State) : Nat :=
  maskOf ((List.range 16).filter fun k => !(fixedOfFn s none).any fun f => f.slotMask.getLsbD k)

/-- NextFrameGtc: the first multiple of 8,192 after the present count (10, R317, R327). -/
def nextFrame (s : State) : Nat := (s.gtc.toNat / 8192 + 1) * 8192 % 2 ^ 64

/-! ### BAR0 (02, R48, R49) -/

def readAdminBlock (s : State) (g : Fun) (off : Nat) : Nat :=
  let a := (getFn s g).admin
  match off with
  | 0x00 => a.sqBase.toNat
  | 0x08 => ringControl a.sqEnable a.sqLog2
  | 0x10 => a.sqTail.toNat
  | 0x18 => a.sqHead.toNat
  | 0x20 => a.cqBase.toNat
  | 0x28 => ringControl a.cqEnable a.cqLog2
  | 0x30 => a.cqHead.toNat
  | 0x38 => adminStatus s g
  | _ => 0

def readFaultBlock (s : State) (g : Fun) (off : Nat) : Nat :=
  let f := (getFn s g).faultq
  match off with
  | 0x00 => f.base.toNat
  | 0x08 => ringControl f.enable f.log2
  | 0x10 => f.tail.toNat
  | 0x18 => f.head.toNat
  | 0x20 => faultqStatus s g
  | 0x28 => f.timeout.toNat
  | 0x38 => f.result.toNat
  | 0x40 => faultsPending s g
  | _ => 0

def readEventBlock (s : State) (g : Fun) (off : Nat) : Nat :=
  let x := (getFn s g).int
  if off = 0x00 then intSummary s g
  else if off = 0x08 then intModeration s g
  else if off = 0x20 then sourceLoss s g 257 * 2 ^ 32 + sourceLoss s g 256
  else if off = 0x28 then sourceLoss s g 258
  else if 0x100 ≤ off && off < 0x128 then field x.latches.toNat (8 * (off - 0x100) + 63) (8 * (off - 0x100))
  else if 0x180 ≤ off && off < 0x1A8 then field x.masks.toNat (8 * (off - 0x180) + 63) (8 * (off - 0x180))
  else if 0x200 ≤ off && off < 0x220 then overflowWord s g ((off - 0x200) / 8)
  else if 0x400 ≤ off && off < 0x800 then
    sourceLoss s g ((off - 0x400) / 4 + 1) * 2 ^ 32 + sourceLoss s g ((off - 0x400) / 4)
  else if 0x800 ≤ off then ringIndex s g ((off - 0x800) / 8)
  else 0

def readErrorBlock (s : State) (g : Fun) (off : Nat) : Nat :=
  let k := (getFn s g).capture
  match off with
  | 0x00 => fnErrStatus s g
  | 0x08 => k.address.toNat
  | 0x10 => k.master.toNat
  | 0x18 => k.gtc.toNat
  | 0x20 => k.mergedMask.toNat
  | _ => 0

/-- A function counter; a tenant reads it coarse (12, R395; 13, R407). -/
def readCounterBlock (s : State) (g : Fun) (off : Nat) : Nat :=
  if off < 0x98 then
    let n := ((assocGet s.counters ((0xD100 + g.val) * 256 + off / 8 + 1)).getD 0).toNat
    if fnOf g = 0 then n else coarse n
  else 0

def readGtcBlock (s : State) (off : Nat) : Nat :=
  match off with
  | 0x00 => s.gtc.toNat
  | 0x08 => ofSigned 32 s.sync.offset * 2 ^ 32 + syncCode s.sync.state
  | 0x10 => s.det.epoch.toNat
  | 0x18 => slotsFree s
  | 0x20 => nextFrame s
  | _ => 0

def readStatusBlock (s : State) (g : Fun) (off : Nat) : Nat :=
  match off with
  | 0x00 => fnIdentity s g
  | 0x08 => fnStateWord s g
  | 0x10 => (getFn s g).resetGtc.toNat
  | 0x18 => (getFn s g).stallGtc.toNat
  | _ => 0

/-- The qword at an 8-byte aligned offset of BAR0; reserved offsets read 0 (02, R48). -/
def bar0Qword (s : State) (g : Fun) (off : Nat) : Nat :=
  match off / 0x1000 with
  | 0 => readStatusBlock s g off
  | 1 => readAdminBlock s g (off - 0x1000)
  | 2 => readFaultBlock s g (off - 0x2000)
  | 3 => readEventBlock s g (off - 0x3000)
  | 4 => readErrorBlock s g (off - 0x4000)
  | 5 => readCounterBlock s g (off - 0x5000)
  | 6 => readGtcBlock s (off - 0x6000)
  | _ => 0

/-- An access of 4 or 8 bytes that is naturally aligned (02, R49). -/
def bar0Access (offset size : Nat) : Bool := (size == 4 || size == 8) && offset % size == 0

/-- Reads of a BAR reach a function (02, R63, R70). -/
def barReads (s : State) (g : Fun) : Bool := cfgOpen s g && (getFn s g).cfg.command.getLsbD 1

/-- A BAR0 read: its data, or none where it completes with Unsupported Request (02, R49, R63). -/
def readBar0 (s : State) (g : Fun) (offset size : Nat) : Option Nat :=
  if !barReads s g then none
  else if !bar0Access offset size then none
  else
    let q := bar0Qword s g (offset / 8 * 8)
    some (if size = 8 then q else if offset % 8 = 0 then q % 2 ^ 32 else q / 2 ^ 32)

/-- A BAR2 read: zero, or none where it completes with Unsupported Request (02, R52, R63). -/
def readBar2 (s : State) (g : Fun) : Option Nat := if barOpen s g then some 0 else none

/-- What a BAR read does beside its answer: one that completes with Unsupported Request is reported; a read of BAR2
that is answered has no effect (02, R52, R63). -/
def barReadEffect (g : Fun) (answer : Option Nat) (s : State) : State :=
  if answer.isSome then s else unsupportedRequest g s

/-! ### Configuration space (02, R43 to R46; 03, R111) -/

/-- Status: Capabilities List, Interrupt Status and the error bits (02, R43, R55). -/
def cfgStatus (s : State) (g : Fun) : Nat :=
  (getFn s g).cfg.status.toNat + 0x10 + bit ((getFn s g).int.weir == .opened) 3

/-- Device ID (02, R43). -/
def deviceId (s : State) (g : Fun) : Nat :=
  0x4C00 + variantCode s.variant + (if fnOf g = 0 then 0 else 1)

/-- Subsystem ID (02, R43). -/
def subsystemId (s : State) (g : Fun) : Nat :=
  if portOf g = 0 then objNum s 0x2001 5 else objNum s (0x2010 + (portOf g).val) 7

/-- MbxStatus (03, R111). -/
def mbxStatus (s : State) (g : Fun) : Nat :=
  let m := (getFn s g).mbx
  bit m.busy 31 + bit m.done 30 + eStatusCode m.status * 2 ^ 16 + m.typeCode * 2 ^ 8 + m.rdLength

/-- Device Control and Device Status; Transactions Pending is 1 while a read is outstanding or a tag is in
quarantine (02, R45, R61). -/
def deviceStatusWord (s : State) (g : Fun) : Nat :=
  let c := (getFn s g).cfg
  let busy := (getPort s (portOf g)).tags.any fun t => t.fn == g
  (c.devStatus.toNat + bit busy 5) * 2 ^ 16 + c.devCtl.toNat

/-- The size bits of a 64-bit BAR, with its type bits (02, R43). -/
def barLow (base : U64) (typeBits : Nat) : Nat := base.toNat % 2 ^ 32 + typeBits

/-- PowerState, PME_En and PME_Status; No_Soft_Reset is 1 (02, R46, R57, R64). -/
def pmcsr (c : FnCfg) : Nat := bit c.pmeStatus 15 + bit c.pmeEn 8 + 8 + (if c.d3hot then 3 else 0)

/-- Next pointer of a capability: the next one that the function carries (02, R44). Where the six physical-layer and
data-link capabilities lie in 0x400 to 0x4FF, and their order, is PRESUMED from their lengths in the base
specification. -/
def nextCap (g : Fun) (off : Nat) : Nat :=
  match off with
  | 0x40 => 0x50
  | 0x100 => 0x150
  | 0x150 => 0x160
  | 0x160 => 0x170
  | 0x170 => if fnOf g = 0 then 0x1B0 else 0
  | 0x1B0 => if portOf g = 0 then 0 else 0x200
  | 0x200 => 0x240
  | 0x240 => 0x400
  | 0x400 => 0x430
  | 0x430 => 0x440
  | 0x440 => 0x470
  | 0x470 => 0x4A0
  | 0x4A0 => 0x4C0
  | _ => 0

/-- Header of an extended capability: identifier, version and next pointer; identifiers and versions are PRESUMED
from the base specification. -/
def extHeader (g : Fun) (off id version : Nat) : Nat := nextCap g off * 2 ^ 20 + version * 2 ^ 16 + id

/-- The function carries the capabilities of a link of its own: function 0 of ports 1 to 3 (02, R44). -/
def linkCaps (g : Fun) : Bool := fnOf g == 0 && portOf g != 0

/-- Registers of the PCI Express capability (02, R45): capabilities and device registers. A field that the manual
does not list is 0. -/
def deviceCaps (g : Fun) : Nat := 0x8025 + bit (fnOf g != 0) 28
def deviceCaps2 : Nat := 0x3000F

/-- Link Capabilities of ports 1 to 3: 128.0 GT/s, PortWidth, ASPM L1, 8 us to 16 us (02, R45); zero on port 0
(R37). -/
def linkCapabilities (s : State) (g : Fun) : Nat :=
  if portOf g = 0 then 0 else 7 + lanesSelected s (portOf g) * 2 ^ 4 + 2 * 2 ^ 10 + 4 * 2 ^ 15 + 2 ^ 22

/-- Link Control and Link Status of ports 1 to 3: speed and width of the link (02, R45, R79). -/
def linkControlWord (s : State) (g : Fun) : Nat :=
  let x := getPort s (portOf g)
  if portOf g = 0 then 0
  else (x.width * 2 ^ 4 + (if portCarries s (portOf g) then x.speed + 1 else 0)) * 2 ^ 16 + (getFn s g).cfg.linkCtl.toNat

/-- Link Capabilities 2 of ports 1 to 3: every rate from 2.5 to 128.0 GT/s (02, R45). -/
def linkCapabilities2 (g : Fun) : Nat := if portOf g = 0 then 0 else 0xFE

/-- Link Control 2 and Link Status 2 of ports 1 to 3: Flit Mode Status is 1 in L0 (02, R45). -/
def linkControlWord2 (s : State) (g : Fun) : Nat :=
  if portOf g = 0 then 0
  else bit ((getPort s (portOf g)).link == .l0) 26 + (getFn s g).cfg.linkCtl2.toNat

/-- Registers 0x040 to 0x0FF: Power Management (version 011b, PME from D0, D3hot and D3cold) and PCI Express (02, R44
to R46). -/
def cfgCapability (s : State) (g : Fun) (off : Nat) : Nat :=
  let c := (getFn s g).cfg
  match off with
  | 0x40 => 0xC803 * 2 ^ 16 + nextCap g 0x40 * 2 ^ 8 + 0x01
  | 0x44 => pmcsr c
  | 0x50 => 0x0002 * 2 ^ 16 + 0x10
  | 0x54 => deviceCaps g
  | 0x58 => deviceStatusWord s g
  | 0x5C => linkCapabilities s g
  | 0x60 => linkControlWord s g
  | 0x74 => deviceCaps2
  | 0x78 => c.devCtl2.toNat
  | 0x7C => linkCapabilities2 g
  | 0x80 => linkControlWord2 s g
  | _ => 0

/-- Headers of the physical-layer and data-link capabilities: Secondary PCI Express, Data Link Feature, Physical Layer
16.0, 32.0 and 64.0 GT/s, and the 128.0 GT/s one, which ends the list (02, R44). -/
def linkCapHeader (g : Fun) (off : Nat) : Option Nat :=
  if !linkCaps g then none
  else match off with
    | 0x400 => some (extHeader g off 0x0019 1)
    | 0x430 => some (extHeader g off 0x0025 1)
    | 0x440 => some (extHeader g off 0x0026 1)
    | 0x470 => some (extHeader g off 0x002A 1)
    | 0x4A0 => some (extHeader g off 0x0031 1)
    | 0x4C0 => some (nextCap g off * 2 ^ 20 + Config.capability128 % 2 ^ 20)
    | _ => none

/-- Registers that the manual names and leaves to the base specification: the AER header log, the DOE's dword
registers, Flit Logging, the lanes of Lane Margining and the registers of the physical-layer capabilities (02, R44,
R46). -/
def leftToBase (g : Fun) (off : Nat) : Bool :=
  (0x11C ≤ off && off < 0x12C) || (fnOf g == 0 && 0x1B8 ≤ off && off < 0x1C8) ||
    (linkCaps g && ((0x204 ≤ off && off < 0x240) || (0x244 < off && off < 0x2C8) || (0x400 ≤ off && off < 0x500)))

/-- Extended capabilities, 0x100 to 0xFFF (02, R44, R46; 03, R111). -/
def cfgExtended (s : State) (g : Fun) (off : Nat) : Nat :=
  let c := (getFn s g).cfg
  let m := (getFn s g).mbx
  match off with
  | 0x100 => extHeader g 0x100 0x0001 2
  | 0x104 => c.aerUnc.toNat
  | 0x108 => c.aerUncMask.toNat
  | 0x10C => c.aerUncSev.toNat
  | 0x110 => c.aerCor.toNat
  | 0x114 => c.aerCorMask.toNat
  | 0x118 => c.aerFirst % 32
  | 0x150 => extHeader g 0x150 0x000F 1
  | 0x154 => (bit c.atsEnable 15 + c.stu) * 2 ^ 16 + 0x20
  | 0x160 => extHeader g 0x160 0x001B 1
  | 0x164 => bit c.pasidEnable 16 + 0x1400
  | 0x170 => extHeader g 0x170 0x0023 1
  | 0x174 => 0x040 * 2 ^ 20 + 0x1D7E
  | 0x178 => 1
  | 0x17C => m.ctlOp % 16 * 2 ^ 16
  | 0x180 => mbxStatus s g
  | 0x184 => m.object.toNat
  | 0x188 => m.offset.toNat
  | 0x18C => m.length.toNat
  | 0x190 | 0x194 | 0x198 | 0x19C | 0x1A0 | 0x1A4 | 0x1A8 | 0x1AC => numAt m.data (off - 0x190) 4
  | 0x1B0 => if fnOf g = 0 then extHeader g 0x1B0 0x002E 1 else 0
  | 0x200 => if linkCaps g then extHeader g 0x200 0x0032 1 else 0
  | 0x240 => if linkCaps g then extHeader g 0x240 0x0027 1 else 0
  | _ => match linkCapHeader g off with
    | some h => h
    | none => if leftToBase g off then (Config.baseRegister g.val off).toNat else 0

/-- The dword at a 4-byte aligned offset of the configuration space of a function that answers (02, R43 to R46; 03,
R111). Bit positions that the manual does not give are PRESUMED from the base specification, and so is that an offset
without a register reads 0. -/
def cfgDword (s : State) (g : Fun) (off : Nat) : Nat :=
  let c := (getFn s g).cfg
  match off with
  | 0x00 => deviceId s g * 2 ^ 16 + 0x1D7E
  | 0x04 => cfgStatus s g * 2 ^ 16 + c.command.toNat
  | 0x08 => 0x12000000 + Config.siliconStepping.toNat
  | 0x0C => 0x80 * 2 ^ 16 + c.cacheLine.toNat
  | 0x10 => barLow c.bar0 4
  | 0x14 => c.bar0.toNat / 2 ^ 32
  | 0x18 => barLow c.bar2 12
  | 0x1C => c.bar2.toNat / 2 ^ 32
  | 0x2C => subsystemId s g * 2 ^ 16 + objNum s 0x2000 2
  | 0x30 => c.rom.toNat
  | 0x34 => 0x40
  | 0x3C => (g.val % 4 + 1) * 2 ^ 8 + c.intLine.toNat
  | _ => if off < 0x40 then 0 else if off < 0x100 then cfgCapability s g off else cfgExtended s g off

/-- How a configuration read completes. -/
inductive CfgAnswer where
  | value (n : Nat)
  /-- Request Retry Status -/
  | retry
  /-- Unsupported Request -/
  | unsupported
  deriving DecidableEq, Repr

/-- A configuration read: Request Retry Status while the function is in reset or being aborted, Unsupported Request
from a function that is absent (02, R70, R77, R78, R466). -/
def readConfig (s : State) (g : Fun) (off : Nat) : CfgAnswer :=
  if !fnPresent s g then .unsupported
  else if !cfgOpen s g then .retry
  else .value (cfgDword s g off)

/-- What a configuration read does beside its answer: one that completes with Unsupported Request is reported (02,
R63). -/
def configReadEffect (g : Fun) (answer : CfgAnswer) (s : State) : State :=
  if answer = .unsupported then unsupportedRequest g s else s

/-- What Lane Margining at the Receiver of ports 1 to 3 reports to a report command, by its payload (02, R46); the
payloads and the units are PRESUMED from the base specification: capabilities, voltage steps, timing steps, maximum
timing offset in per cent of a unit interval, maximum voltage offset in per cent of a volt, and the lanes margined at
once. -/
def marginReport (s : State) (p : Port) (payload : Nat) : Option Nat :=
  match payload with
  | 0x88 => some 0x0F
  | 0x89 => some 80
  | 0x8A => some 24
  | 0x8B => some 30
  | 0x8C => some 20
  | 0x90 => some (lanesSelected s p - 1)
  | _ => none

/-! ### Expansion ROM (02, R53, R54; 03, R114) -/

/-- The objects that the directory of a function lists: those visible to its mailbox (03, R86, R114). -/
def directoryRefs (g : Fun) : List (Ref × ObjRow) :=
  (refsFrom ⟨0x1000, 0⟩).filterMap fun ref =>
    (rowOf ref).bind fun r => if sees (.mbx g) r ref then some (ref, r) else none

/-- Entries with their NameOffsets, from `at_` on. -/
def directoryEntries : List (Ref × ObjRow) → Nat → Bytes
  | [], _ => []
  | e :: l, at_ => directoryEntry e.1 e.2 at_ ++ directoryEntries l (at_ + (asciiBytes e.2.name).length + 1)

/-- The object directory of a function (03, R114). -/
def objectDirectory (g : Fun) : Bytes :=
  let l := directoryRefs g
  let names := l.flatMap fun e => asciiBytes e.2.name ++ [0]
  let start := 32 + 16 * l.length
  leBytes 8 (l.length * 2 ^ 32 + 16 * 2 ^ 16 + 1) ++ leBytes 8 (names.length * 2 ^ 32 + start)
    ++ leBytes 8 0x444F5648 ++ leBytes 8 0 ++ directoryEntries l start ++ names

/-- Image 0 of a function: the UEFI section of the firmware image, with what R53 gives of it in place (02, R53, R54):
signature, machine type, and in the PCI Data Structure the function's IDs, the code type and the last-image indicator.
Where those fields lie is PRESUMED from the PCI firmware specification (log 58). -/
def romImage (s : State) (g : Fun) : Bytes :=
  let b := s.boot.uefi
  let p := numAt b 0x18 2
  let b := overlay (overlay b 0 [0x55, 0xAA]) 0x0A (leBytes 2 0x0EBC)
  if p + 0x18 ≤ b.length then
    let b := overlay b p (asciiBytes "PCIR" ++ leBytes 2 0x1D7E ++ leBytes 2 (deviceId s g))
    overlay b (p + 0x14) [0x03, b.getD (p + 0x15) 0 ||| 0x80]
  else b

/-- A byte of the expansion ROM window: 0 until firmware runs; then image 0, zeros up to 0x7_FFFF, and the object
directory (02, R53, R54). -/
def readRom (s : State) (g : Fun) (off : Nat) : U8 :=
  if s.boot.fw ≠ .running then 0
  else if off < 0x80000 then (romImage s g).getD off 0
  else (objectDirectory g).getD (off - 0x80000) 0

/-- A read of the expansion ROM window: none where it completes with Unsupported Request. That the window answers
while its enable bit and Memory Space Enable are 1 is PRESUMED from the base specification. -/
def readRomWindow (s : State) (g : Fun) (off : Nat) : Option U8 :=
  if barOpen s g && (getFn s g).cfg.rom.getLsbD 0 then some (readRom s g off) else none

end Sys2Proof.Machine
end

