-- ==== Sys2Proof/Machine/Registers.lean ====
section
/-!
DEFINITION. Writes of registers: BAR0, the configuration space and the expansion ROM window (02_host_endpoint,
R43 to R49, R54; 03, R111). A BAR0 write of 4 bytes keeps the register's other half. Bit positions of the
configuration registers that the manual does not give are PRESUMED from the base specification.
-/
namespace Sys2Proof.Machine

/-! ### Configuration space -/

/-- The dword that results when `size` bytes of `v` are written at byte `at_` of a dword that holds `old`. -/
def mergeDword (old at_ size v : Nat) : Nat := leNat ((overlay (leBytes 4 old) at_ (leBytes size v)).take 4)

/-- Whether a write of `size` bytes at byte `at_` of a dword reaches byte `b`. -/
def reaches (at_ size b : Nat) : Bool := at_ ≤ b && b < at_ + size

/-- A write of Status: writing 1 clears an error bit (R43). -/
def clearStatus (g : Fun) (v : Nat) (s : State) : State :=
  modCfg g (fun c => { c with status := c.status &&& ~~~ (BitVec.ofNat 16 v &&& 0xB800) }) s

/-- A write of PMCSR: PowerState, PME_En and PME_Status; D1 and D2 are not supported and change nothing (R46,
R57, R64). -/
def writePmcsr (g : Fun) (at_ size v : Nat) (s : State) : State :=
  let s1 := if reaches at_ size 1 then
      modCfg g (fun c => { c with
        pmeEn := v.testBit 8, pmeStatus := c.pmeStatus && !v.testBit 15 }) s
    else s
  if !reaches at_ size 0 then s1
  else if v % 4 = 3 && !(getFn s1 g).cfg.d3hot then enterD3 g s1
  else if v % 4 = 0 && (getFn s1 g).cfg.d3hot then leaveD3 g s1
  else s1

/-- A write of Device Control and Device Status. Initiate Function Level Reset is of functions 1 to 7 and reads
0 (R45, R70). -/
def writeDevCtl (g : Fun) (at_ size v : Nat) (s : State) : State :=
  let s1 := if reaches at_ size 0 || reaches at_ size 1 then
      modCfg g (fun c => { c with devCtl := BitVec.ofNat 16 v &&& 0x79FF }) s
    else s
  let s2 := modCfg g (fun c => { c with devStatus := c.devStatus &&& ~~~ (BitVec.ofNat 16 (v / 2 ^ 16) &&& 15) }) s1
  if reaches at_ size 1 && v.testBit 15 && fnOf g ≠ 0 then abortFn .flr g s2 else s2

/-- A write of the ATS control register; clearing Enable drops the function's translations (R46; 06, R221). -/
def writeAts (g : Fun) (at_ size v : Nat) (s : State) : State :=
  let s1 := if reaches at_ size 2 then modCfg g (fun c => { c with stu := v / 2 ^ 16 % 32 }) s else s
  if !reaches at_ size 3 then s1
  else if v.testBit 31 then
    -- accesses that have no tag yet obtain a translation first (06, R219)
    (if (getFn s1 g).cfg.atsEnable then s1 else dropWaits g (modCfg g (fun c => { c with atsEnable := true }) s1))
  else clearAts g false s1

/-- A write of the PASID control register (R46; 06, R221). -/
def writePasid (g : Fun) (at_ size v : Nat) (s : State) : State :=
  if !reaches at_ size 2 then s
  else if v.testBit 16 then modCfg g (fun c => { c with pasidEnable := true }) s
  else clearAts g true s

/-- A write of a mailbox register, by 32 bits; ignored while Busy is 1 (03, R111, R112). -/
def writeMbx (g : Fun) (off v : Nat) (s : State) : State :=
  if (getFn s g).mbx.busy then s
  else match off with
    | 0x17C =>
      if v.testBit 31 then mbxGo g (field v 19 16) s else modMbx g (fun m => { m with ctlOp := field v 19 16 }) s
    | 0x184 => modMbx g (fun m => { m with object := BitVec.ofNat 32 v &&& 0xFFFFFF00 }) s
    | 0x188 => modMbx g (fun m => { m with offset := BitVec.ofNat 32 v }) s
    | 0x18C => modMbx g (fun m => { m with length := BitVec.ofNat 32 v }) s
    | _ =>
      if 0x190 ≤ off && off ≤ 0x1AC then
        modMbx g (fun m => { m with data := overlay m.data (off - 0x190) (leBytes 4 v) }) s
      else s

/-- A write of the low or the high half of a 64-bit BAR; the bits below its size are 0 (R43). -/
def barHalf (old : U64) (high : Bool) (v bytes : Nat) : U64 :=
  let n := if high then v % 2 ^ 32 * 2 ^ 32 + old.toNat % 2 ^ 32 else old.toNat / 2 ^ 32 * 2 ^ 32 + v % 2 ^ 32
  w64 (n / bytes * bytes)

/-- A write of plain configuration registers (`link` says that the port has link registers, R37): `m` is the dword with the written bytes in place, `z` the written
bytes over zeros, for registers whose bits a 1 clears. -/
def storeCfg (link : Bool) (off m z : Nat) (c : FnCfg) : FnCfg :=
  match off with
  | 0x60 => if link then { c with linkCtl := BitVec.ofNat 16 m &&& 0x02CB } else c
  | 0x80 => if link then { c with linkCtl2 := BitVec.ofNat 16 m &&& 0xFFBF } else c
  | 0x0C => { c with cacheLine := BitVec.ofNat 8 m }
  | 0x10 => { c with bar0 := barHalf c.bar0 false m 0x10000 }
  | 0x14 => { c with bar0 := barHalf c.bar0 true m 0x10000 }
  | 0x18 => { c with bar2 := barHalf c.bar2 false m c.bar2Bytes }
  | 0x1C => { c with bar2 := barHalf c.bar2 true m c.bar2Bytes }
  | 0x30 => { c with rom := BitVec.ofNat 32 m &&& 0xFFF00001 }
  | 0x3C => { c with intLine := BitVec.ofNat 8 m }
  | 0x78 => { c with devCtl2 := BitVec.ofNat 16 m &&& 0x100F }
  | 0x104 => { c with aerUnc := c.aerUnc &&& ~~~ BitVec.ofNat 32 z }
  | 0x108 => { c with aerUncMask := BitVec.ofNat 32 m &&& 0x07FFF030 }
  | 0x10C => { c with aerUncSev := BitVec.ofNat 32 m &&& 0x07FFF030 }
  | 0x110 => { c with aerCor := c.aerCor &&& ~~~ BitVec.ofNat 32 z }
  | 0x114 => { c with aerCorMask := BitVec.ofNat 32 m &&& 0x0000B1C1 }
  | _ => c

/-- A configuration write of 1, 2 or 4 bytes that lie in one dword. -/
def configWrite (g : Fun) (offset size v : Nat) (s : State) : State :=
  let off := offset / 4 * 4
  let at_ := offset % 4
  let z := mergeDword 0 at_ size v
  let m := mergeDword (cfgDword s g off) at_ size v
  if off = 0x04 then
    clearStatus g (z / 2 ^ 16) (if reaches at_ size 0 || reaches at_ size 1 then writeCommand g (m % 2 ^ 16) s else s)
  else if off = 0x44 then writePmcsr g at_ size (if reaches at_ size 1 then m % 2 ^ 15 + z / 2 ^ 15 % 2 * 2 ^ 15 else m) s
  else if off = 0x58 then writeDevCtl g at_ size (m % 2 ^ 16 + z / 2 ^ 16 * 2 ^ 16) s
  else if off = 0x154 then writeAts g at_ size m s
  else if off = 0x164 then writePasid g at_ size m s
  else if 0x17C ≤ off && off ≤ 0x1AC then (if size = 4 then writeMbx g off (v % 2 ^ 32) s else s)
  else modCfg g (storeCfg (portOf g != 0) off m z) s

/-- Sizes and places that a configuration write has. -/
def configAccess (offset size : Nat) : Bool :=
  (size == 1 || size == 2 || size == 4) && offset % 4 + size ≤ 4 && offset < 0x1000

/-! ### BAR0 (R48, R49) -/

/-- Blocks 0x1000 and 0x2000: `q` is the qword with the written half in place (04, R120; 07, R240). -/
def writeRings (g : Fun) (off : Nat) (q : U64) (s : State) : State :=
  match off with
  | 0x1000 => writeAdmin g (writeSqBase q) s
  | 0x1008 => writeAdmin g (writeSqControl q) s
  | 0x1010 => writeAdmin g (writeSqTail q) s
  | 0x1020 => writeAdmin g (writeCqBase q) s
  | 0x1028 => writeAdmin g (writeCqControl q) s
  | 0x1030 => writeAdmin g (fun a => { a with cqHead := BitVec.ofNat 16 q.toNat }) s
  | 0x2000 => modFaultq g (writeFaultqBase q) s
  | 0x2008 => endWaiting g (modFaultq g (writeFaultqControl q) s)
  | 0x2018 => modFaultq g (fun f => { f with head := BitVec.ofNat 16 q.toNat }) s
  | 0x2028 => modFaultq g (fun f => { f with timeout := clampTimeout q }) s
  | _ => s

/-- Clear SourceLoss of a source (11, R356). -/
def clearLoss (g : Fun) (source : Nat) (s : State) : State :=
  modInt g (fun x => { x with loss := assocDel x.loss source }) s

/-- The sources whose SourceLoss lies in the written bytes (11, R363). -/
def lossWritten (offset size : Nat) : List Nat :=
  (List.range 259).filter fun k => offset ≤ lossOffset k && lossOffset k < offset + size

/-- Block 0x3000: `q` as above, `z` the written half over zeros (11, R363). -/
def writeEvents (g : Fun) (offset size : Nat) (q z : U64) (s : State) : State :=
  let off := offset / 8 * 8
  if off = 0x3008 then setDelay g (field q.toNat 19 0) (setTargetDie g (field q.toNat 23 22) s)
  else if 0x3100 ≤ off && off < 0x3128 then clearLatches g (Fin.ofNat 5 ((off - 0x3100) / 8)) z s
  else if 0x3180 ≤ off && off < 0x31A8 then writeMask g (Fin.ofNat 5 ((off - 0x3180) / 8)) q s
  else if 0x3800 ≤ off then
    (if offset + size = off + 8 then writeConsumer g ((off - 0x3800) / 8) (BitVec.ofNat 32 (q.toNat / 2 ^ 32)) s else s)
  else foldState (clearLoss g) (lossWritten offset size) s

/-- Registers of blocks 0x1000 and 0x2000 whose upper half is reserved (04, R120; 07, R240). -/
def lowOnly (off : Nat) : Bool := [0x1008, 0x1010, 0x1028, 0x1030, 0x2008, 0x2018].contains off

/-- A BAR0 write that has arrived whole. FaultResponse is written by 8 bytes only; a write to a read-only or
reserved offset is discarded (R48, R49; 07, R246). -/
def storeBar0 (g : Fun) (offset size : Nat) (v : U64) (s : State) : State :=
  let off := offset / 8 * 8
  let place (old : Nat) : U64 :=
    if size = 8 then v
    else if offset % 8 = 0 then w64 (old / 2 ^ 32 * 2 ^ 32 + v.toNat % 2 ^ 32)
    else w64 (v.toNat % 2 ^ 32 * 2 ^ 32 + old % 2 ^ 32)
  let q := place (bar0Qword s g off)
  match off / 0x1000 with
  | 1 => if lowOnly off && offset % 8 ≠ 0 then s else writeRings g off q s
  | 2 =>
    if off = 0x2030 then (if size = 8 then writeResponse g v s else countFn g 1 s)
    else if lowOnly off && offset % 8 ≠ 0 then s
    else writeRings g off q s
  | 3 => writeEvents g offset size q (place 0) s
  | 4 => if off = 0x4028 then writeFnRelease g (place 0) s else s
  | 5 => if off < 0x5098 then clearCounter ⟨0xD100 + g.val, (off - 0x5000) / 8 + 1⟩ s else s
  | _ => s

/-- A BAR0 write: a poisoned one, or one whose size or alignment is wrong, is discarded (R49, R63). -/
def bar0Write (g : Fun) (offset size : Nat) (v : U64) (poisoned : Bool) (s : State) : State :=
  barWrite g (fun s =>
    if poisoned then poisonedTlp g s
    else if !bar0Access offset size then countFn g 1 s
    else storeBar0 g offset size v s) s

/-- A write that a port receives for a function, by the space it addresses (R48, R52, R54). -/
def writeSpace (g : Fun) (space : Space) (offset size : Nat) (v : U64) (poisoned : Bool) (s : State) : State :=
  match space with
  | .config =>
    if configAccess offset size then
      cfgWrite g (fun s => if poisoned then poisonedTlp g s else configWrite g offset size v.toNat s) s
    else s
  | .bar0 => bar0Write g offset size v poisoned s
  | .bar2 => doorbellWrite g offset size true poisoned v s
  | .rom => barWrite g (fun s => if poisoned then poisonedTlp g s else s) s

/-- REGISTER_WRITE (R43, R45, R48, R49, R54, R63). -/
def execRegisterWrite (g : Fun) (space : Space) (offset size : Nat) (v : U64) (poisoned : Bool) (s : State) : Out :=
  .next (writeSpace g space offset size v poisoned s)

end Sys2Proof.Machine
end

