-- ==== Sys2Proof/Machine/Reset.lean ====
section
/-!
DEFINITION. The package reset (15_bringup_firmware, R440, R441; 03, R94; 09, R289, R291, R302; 12, R375, R383,
R387).
-/
namespace Sys2Proof.Machine

/-! ### The stored set (03, R94, R95) -/

/-- The value of a calibration object whose record is lost: 128 for Port0LaneCal, 4 for LaneTxPreset (02, R80),
and generic training values, which the manual does not give, for StackTrainCal (09, R312). -/
def lostValue (s : State) (ref : Ref) : Option Val :=
  if ref.index = 0x2020 then some (.num 128)
  else if 0x2021 ≤ ref.index && ref.index ≤ 0x2023 then some (.num 4)
  else if 0x5010 ≤ ref.index && ref.index < 0x5028 && ref.sub = 5 then
    some (.bytes ((List.range 512).map fun i => Config.undefinedByte s.draws (ref.index * 512 + i)))
  else none

/-- A record of the object can be lost: it has one, or it is a calibration object, whose factory value is one. -/
def hasRecord (s : State) (ref : Ref) : Bool :=
  (assocGet s.stored (objKey ref)).isSome || keptRecord (objKey ref)

/-- The stored set without the records that fail their CRC (03, R94). -/
def recordLost (ref : Ref) (s : State) : State :=
  match lostValue s ref with
  | some v => { s with stored := assocPut s.stored (objKey ref) v }
  | none => { s with stored := assocDel s.stored (objKey ref) }

/-- A RestoreDefaults that runs when the power goes has removed every record or none: which is free (03, R97). -/
def settleRestore (s : State) : State :=
  if s.mgmt.restoring then
    (if Config.choice s.draws 2 % 2 = 1 then endRestore (draw s) else draw s)
  else s

/-- Every STORED object takes its recorded value, every other object its default (03, R85, R94). -/
def loadStored (s : State) : State :=
  foldState (fun e s => setObj (refOfKey e.1).index (refOfKey e.1).sub e.2 s) s.stored { s with od := [] }

/-! ### What the always-on island keeps -/

/-- The collector after a package reset: the fatal latch, the package capture and the pins stay; a power cycle
clears them (12, R383, R387, R389). Contexts and S2 errors have been left (12, R371). -/
def keptErr (s : State) (badPairs : List Src) : ErrSt :=
  if s.power.cycled then { ErrSt.init with wireFaults := badPairs }
  else { ErrSt.init with
    pkg := if s.err.pkg = .fatal then .fatal else .normal
    fatalGtc := s.err.fatalGtc - s.gtc
    capture := s.err.capture
    wireFaults := badPairs
    pin := s.err.pin
    pinGtc := s.err.pinGtc - s.gtc
    releaseWaiting := s.err.releaseWaiting
    pinFatal := s.err.pinFatal
    mismatch := s.err.mismatch }

/-- A port after a package reset: its pins stay (02, R30, R66). -/
def keptPort (x : PortSt) : PortSt :=
  { PortSt.init with perst := x.perst, wake := x.wake, wakeOwners := x.wakeOwners, switchedOff := x.switchedOff }

/-- Debug state and fuses after the pending action has taken effect (13, R420, R421). -/
def debugAfter (x : SecSt) : DebugState :=
  match x.pending with
  | 1 => .unlocked
  | 2 => .locked
  | 3 => .rma
  | _ => x.debug

def fusesAfter (x : SecSt) : Nat := if x.pending = 3 then x.fuses ||| 16 else x.fuses

/-- Keys, measurements and the DRBG after a package reset; `n` numbers the two draws (13, R404, R412). -/
def resetSec (v : Variant) (n : Nat) (x : SecSt) : SecSt :=
  let d := debugAfter x
  let fuses := fusesAfter x
  let y : SecSt := { SecSt.init v with
    mr := [(List.range 48).map (Config.fusedDigest 2), List.replicate 48 0,
      sha384 (securityRecord v fuses (debugCode d) x.minSec), List.replicate 48 0]
    debug := d
    fuses := fuses
    minSec := x.minSec
    deviceNonce := (List.range 32).map (Config.drbgByte n)
    bootId := w64 (leNat ((List.range 8).map (Config.drbgByte (n + 1)))) }
  { y with lineKeys := poolKeys (secretUsed y 1) }

/-- The package before its objects take effect: everything at its reset values but what the fuses, the flash, the
stacks and the always-on island keep (R440; 12, R383; 13, R400). -/
def bareState (badPairs : List Src) (s : State) : State :=
  let z := State.resetOf s.variant
  { z with
    stored := s.stored
    mgmt := { z.mgmt with bytesFree := (Config.storedBytesFree s.draws).toNat, dead := s.mgmt.dead }
    ports := s.ports.map keptPort
    fns := s.fns.map fun x =>
      { FnSt.init true 4096 with capture := if s.power.cycled then Capture.init else x.capture }
    pool := { z.pool with
      mem := if s.power.cycled then [] else s.pool.mem
      repairLeft := s.pool.repairLeft }
    err := keptErr s badPairs
    sec := resetSec s.variant (s.draws + 1) s.sec
    power := { z.power with good := s.power.good }
    draws := s.draws + 3
    out := s.out
    pending := s.pending }

/-! ### Objects that take effect at a package reset -/

/-- The extents that the objects ask for (06, R195; 09, R289). -/
def extentWishes (s : State) : List ExtentWish :=
  (List.range 32).filterMap fun g =>
    let n := objNum s (0x3100 + g) 2
    if n = 0 then none else some ⟨g, objNum s (0x3100 + g) 1, n⟩

/-- Peers whose entry is valid begin CONNECTING (08, R271). -/
def peersOf (s : State) : List Peer :=
  (List.range 4096).filterMap fun p =>
    if (objNum s (0x6200 + p / 128) (p % 128 + 1)).testBit 63 && p ≠ s.win.localId.toNat then
      some (newPeer (BitVec.ofNat 12 p) s.gtc none)
    else none

/-- The values in force from this reset on (03, R115; 06, R223; 08, R285; 10, R347). -/
def takeEffect (s : State) : State :=
  let s := { s with
    mgmt := { s.mgmt with udpPort := objNum s 0x1100 5 }
    trans := { s.trans with bankCount := objNum s 0x3000 2 }
    win := { s.win with
      localId := BitVec.ofNat 12 (objNum s 0x6000 1)
      etherType := BitVec.ofNat 16 (objNum s 0x6000 4)
      vlan := BitVec.ofNat 16 (objNum s 0x6000 5) }
    det := { s.det with scratchBytes := objNum s 0x7000 5 } }
  { s with win := { s.win with peers := peersOf s } }

/-- The domains whose condition holds are on (14, R425). -/
def domainsAtReset (s : State) : BitVec 50 := BitVec.ofNat 50 (maskOf ((List.range 50).filter (domainWanted s)))

/-- Every present function reads NOT_READY, its registers at their defaults, or is held in reset with its port
(R440; 02, R67). -/
def resetFns (s : State) : State :=
  foldState (fun g s =>
    let st := presentState s g
    let cfg := defaultCfg s g
    modFn g (fun x => { x with
      cfg := cfg
      state := if st = .absent then .absent else if (getPort s (portOf g)).perst then .reset else st }) s)
    (List.finRange 32) s

/-! ### The pool (R441; 09, R289 to R302) -/

/-- What the reset checks have settled: the channels mapped out, and the rows to remap, in order. -/
structure RowPlan where
  out : List Nat
  rows : List Nat

def setChannel (out : List Nat) (k c : Nat) : List Nat := out.modify k (· ||| 2 ^ c)

/-- Channel of a pool address within its stack (09, R286). -/
def channelOf (a : Nat) : Nat := a % 0x10_0000_0000 / channelBytes

/-- Spare rows of a stack that the plan has not taken (09, R289). -/
def sparesLeft (p : RowPlan) (k : Nat) : Nat :=
  if (spareChannel p.out k).isNone then 0
  else spareBytes / 2048 - (p.rows.filter fun r => stackOf r == k).length

/-- A channel with its weak rows: remapped, or mapped out where its stack has too few free spares (R441). -/
def checkChannel (weak : List Nat) (k c : Nat) (p : RowPlan) : RowPlan :=
  let mine := weak.filter fun r => stackOf r == k && channelOf r == c
  if mappedOut p.out k c then p
  else if sparesLeft p k < mine.length then { p with out := setChannel p.out k c }
  else { p with rows := p.rows ++ mine }

/-- A row of RowFailLog: remapped, or its channel mapped out (09, R302). -/
def planRow (row : Nat) (p : RowPlan) : RowPlan :=
  if mappedOut p.out (stackOf row) (channelOf row) || p.rows.contains row then p
  else if sparesLeft p (stackOf row) = 0 then { p with out := setChannel p.out (stackOf row) (channelOf row) }
  else { p with rows := p.rows ++ [row] }

/-- Rows of RowFailLog, in its order (09, R302). -/
def loggedRows (s : State) : List Nat :=
  let b := objBytes s 0x5000 0x0A
  (List.range (b.length / 8)).map (qwordAt b)

/-- Channels mapped out by ChannelMapOut or by the reset check (09, R291; R441). -/
def channelsAtReset (s : State) (bad : List (Nat × Nat)) : List Nat :=
  let wished := (List.range 24).map fun k => if k < stacksOf s.variant then objNum s (0x5010 + k) 1 else 0
  bad.foldl (fun out b => if b.1 < stacksOf s.variant && b.2 < 32 then setChannel out b.1 b.2 else out) wished

/-- The plan of a reset: reset checks first, then the log (R440, R441; 09, R302). -/
def rowPlan (s : State) (f : ResetFindings) : RowPlan :=
  let weak := (f.weakRows.filter fun r => stackOf r < stacksOf s.variant).map rowBase
  let p : RowPlan := ⟨channelsAtReset s f.badChannels, []⟩
  let p := (List.range (stacksOf s.variant)).foldl (fun p k =>
    (List.range 32).foldl (fun p c => checkChannel weak k c p) p) p
  (loggedRows s).foldl (fun p r => planRow r p) p

/-- Remap a row to the lowest free spare of its stack. A logged row reads zero; the content of another weak row is
lost, and undefined until the reset scrub (R441; 09, R302). -/
def remapAtReset (logged : List Nat) (row : Nat) (s : State) : State :=
  match freeSpare s (stackOf row) with
  | none => s
  | some x =>
    let s := { s with pool := { s.pool with
      remaps := s.pool.remaps ++ [⟨row, x, false, []⟩], sparesUsed := s.pool.sparesUsed ++ [x] } }
    if logged.contains row then zeroSpan row 2048 s else freeSpan row 2048 s

/-- The pool map is built and the reset scrub waits (R440; 09, R289, R307). -/
def mapPool (p : RowPlan) (s : State) : State :=
  let wishes := extentWishes s
  let m := buildPoolMap s.variant p.out wishes
  { s with pool := { s.pool with
    regions := m.1, dropped := m.2, mappedOut := p.out
    extents := wishes.filter fun w => !m.2.contains w.fn
    scrubs := resetScrubs m.1 } }

/-- RowFailLog is cleared (09, R302). -/
def clearRowLog (s : State) : State :=
  if (objBytes s 0x5000 0x0A).isEmpty then s else putObj ⟨0x5000, 0x0A⟩ (.bytes []) s

/-- S0 errors of the map: one for each mapped-out channel and each dropped extent (09, R289, R291). -/
def raiseMapErrors (s : State) : State :=
  let i (a : Nat) : ErrInfo := { kind := 8, address := w64 a, addressKind := 1, access := 7 }
  let s := foldState (fun k s => foldState (fun c s =>
    if mappedOut s.pool.mappedOut k c then raiseError .channelMappedOut (i (channelBase k c)) s else s)
      (List.range 32) s) (List.range (stacksOf s.variant)) s
  foldState (fun g s => raiseError .extentDropped (i (objNum s (0x3100 + g) 1)) s) s.pool.dropped s

/-- The pool after the checks: map, remaps, log (R440). -/
def resetPool (f : ResetFindings) (s : State) : State :=
  let p := rowPlan s f
  clearRowLog (raiseMapErrors (foldState (remapAtReset (loggedRows s)) p.rows (mapPool p s)))

/-! ### The reset -/

/-- S0 errors of lost records; StoredSetState reads DEGRADED (03, R94). -/
def raiseLost (lost : List Ref) (s : State) : State :=
  if lost.isEmpty then s
  else foldState (fun r s => raiseError .storedRecordLost
      { kind := 9, address := w64 (objKey r), addressKind := 5, access := 7 } s) lost
    { s with mgmt := { s.mgmt with degraded := true } }

/-- Ports begin to train: ports 1 to 3 as R466 says, port 0 in fall-back mode (R440; 02, R33, R466). -/
def trainPorts (s : State) : State :=
  linkNonceOut (foldState (fun p s => if s.power.on.getLsbD p.val then beginTraining p s else s) (List.finRange 4) s)

/-- The pool part of the reset waits for PGOOD_MEM: no map, no scrub and no pool keys are there yet (R440; 14, R434). -/
def holdPool (f : ResetFindings) (s : State) : State :=
  { s with
    pool := { s.pool with regions := [], scrubs := [] }
    sec := { s.sec with lineKeys := [] }
    boot := { s.boot with poolWait := some f } }

/-- The pool part of the reset, once PGOOD_MEM is high (R440; 14, R434). -/
def resetMem (f : ResetFindings) (s : State) : State :=
  if s.power.good.getLsbD 2 then resetPool f s else holdPool f s

/-- The pool part that waited for PGOOD_MEM runs, and the pool keys are loaded (R440; 13, R403; 14, R434). -/
def finishPool (s : State) : State :=
  match s.boot.poolWait with
  | none => s
  | some f =>
    let s := resetPool f { s with boot := { s.boot with poolWait := none } }
    { s with sec := { s.sec with lineKeys := poolKeys (secretUsed s.sec 1) } }

/-- A package reset begins: what it finds is given with it (R440). Lines that the pool cache held are lost with
it, so their bytes are undefined until the reset scrub. -/
def packageReset (f : ResetFindings) (s : State) : State :=
  let s := if s.err.packagePending then flushRecords s else s
  let s := settleRestore s
  let s := if s.power.cycled then s else foldState (fun l s => freeSpan l.1 64 s) s.pool.stale s
  let lost := f.lostRecords.filter (hasRecord s)
  let s := loadStored (bareState f.badPairs (foldState recordLost lost s))
  let s := resetFns (takeEffect { s with boot := { s.boot with resetting := true } })
  let s := { s with power := { s.power with on := domainsAtReset s } }
  bootStops (trainPorts (resetMem f (raiseLost lost s)))

/-- The reset actions may run: PGOOD_CORE has been high for 1 ms (14, R434). Where it has not risen since the state at
reset it counts as high for long: DESIGN CHOICE. -/
def resetMayRun (s : State) : Bool :=
  s.power.good.getLsbD 0 && s.power.coreRise.all fun t => 1250000 ≤ (s.gtc - t).toNat

/-- PACKAGE_RESET (R440). -/
def execPackageReset (f : ResetFindings) (s : State) : Out :=
  .next (if resetMayRun s then packageReset f s else s)

/-- RESET_DONE: PGOOD_MEM is high, the boot ROM has not stopped, and the actions have ended, the pool part that waited
for PGOOD_MEM with them (R440; 12, R387; 14, R434). -/
def execResetDone (s : State) : Out :=
  .next (if s.boot.resetting && s.power.good.getLsbD 2 && s.err.pkg ≠ .fatal then
    let s := finishPool s
    { s with boot := { s.boot with resetting := false } }
  else s)

end Sys2Proof.Machine
end

