-- ==== Sys2Proof/Machine/Dispatch.lean ====
section
/-!
DEFINITION. The command table: one arm for each command, each a direct call of the command's meaning.
-/
namespace Sys2Proof.Machine

/-- The effect of a command on everything but the queue. -/
def exec (i : Instr) (s : State) : Host.Outcome State Fault Refusal :=
  match i with
  | .perstAssert p => Sys2Proof.Machine.execPerstAssert p s
  | .perstDeassert p => Sys2Proof.Machine.execPerstDeassert p s
  | .portLinkUp p width speed => Sys2Proof.Machine.execPortLinkUp p width speed s
  | .linkL0Return p => Sys2Proof.Machine.execLinkL0Return p s
  | .surpriseRemoval p => Sys2Proof.Machine.execSurpriseRemoval p s
  | .malformedTlp p kind => Sys2Proof.Machine.execMalformedTlp p kind s
  | .hotReset p => Sys2Proof.Machine.execHotReset p s
  | .functionLevelReset g => Sys2Proof.Machine.execFunctionLevelReset g s
  | .functionResetComplete g => Sys2Proof.Machine.execFunctionResetComplete g s
  | .busMasterEnableClear g => Sys2Proof.Machine.execBusMasterEnableClear g s
  | .stallQuiet g => Sys2Proof.Machine.execStallQuiet g s
  | .busMasterEnableSet g => Sys2Proof.Machine.execBusMasterEnableSet g s
  | .powerStateD3hot g => Sys2Proof.Machine.execPowerStateD3hot g s
  | .powerStateD0 g => Sys2Proof.Machine.execPowerStateD0 g s
  | .pmeTurnOff p => Sys2Proof.Machine.execPmeTurnOff p s
  | .pmeToAck p => Sys2Proof.Machine.execPmeToAck p s
  | .interruptDisableWrite g v => Sys2Proof.Machine.execInterruptDisableWrite g v s
  | .atsPasidDisable g pasid => Sys2Proof.Machine.execAtsPasidDisable g pasid s
  | .functionEnableWrite rq g v => Sys2Proof.Machine.execFunctionEnableWrite rq g v s
  | .portEnableWrite rq p v => Sys2Proof.Machine.execPortEnableWrite rq p v s
  | .port0ModeMain rq => Sys2Proof.Machine.execPort0ModeMain rq s
  | .port0ModeFallback rq => Sys2Proof.Machine.execPort0ModeFallback rq s
  | .port0TrainingDone e => Sys2Proof.Machine.execPort0TrainingDone e s
  | .port0GroupRetrainFailed group => Sys2Proof.Machine.execPort0GroupRetrainFailed group s
  | .port0LinkDown => Sys2Proof.Machine.execPort0LinkDown s
  | .completionReceived p tag status poisoned offset data => Sys2Proof.Machine.execCompletionReceived p tag status poisoned offset data s
  | .completionTimeout p tag => Sys2Proof.Machine.execCompletionTimeout p tag s
  | .quarantineExpiry p tag => Sys2Proof.Machine.execQuarantineExpiry p tag s
  | .registerWrite g space offset size value poisoned => Sys2Proof.Machine.execRegisterWrite g space offset size value poisoned s
  | .hmpOpenSession src seq payload => Sys2Proof.Machine.execHmpOpenSession src seq payload s
  | .hmpProve src seq payload => Sys2Proof.Machine.execHmpProve src seq payload s
  | .hmpCloseSession h => Sys2Proof.Machine.execHmpCloseSession h s
  | .hmpRead h payload => Sys2Proof.Machine.execHmpRead h payload s
  | .hmpWrite h payload => Sys2Proof.Machine.execHmpWrite h payload s
  | .hmpReadSegment h payload => Sys2Proof.Machine.execHmpReadSegment h payload s
  | .hmpWriteSegment h payload => Sys2Proof.Machine.execHmpWriteSegment h payload s
  | .hmpList h payload => Sys2Proof.Machine.execHmpList h payload s
  | .spdmMessage src seq message => Sys2Proof.Machine.execSpdmMessage src seq message s
  | .hmpBadOpcode h opcode => Sys2Proof.Machine.execHmpBadOpcode h opcode s
  | .hmpFrameDropped d => Sys2Proof.Machine.execHmpFrameDropped d s
  | .pendingSessionExpiry sid => Sys2Proof.Machine.execPendingSessionExpiry sid s
  | .sessionIdleExpiry sid => Sys2Proof.Machine.execSessionIdleExpiry sid s
  | .slotLockExpiry k => Sys2Proof.Machine.execSlotLockExpiry k s
  | .mbxRead g => Sys2Proof.Machine.execMbxRead g s
  | .mbxWrite g => Sys2Proof.Machine.execMbxWrite g s
  | .mbxReadSegment g => Sys2Proof.Machine.execMbxReadSegment g s
  | .mbxWriteSegment g => Sys2Proof.Machine.execMbxWriteSegment g s
  | .mbxWriteSegmentFinal g => Sys2Proof.Machine.execMbxWriteSegmentFinal g s
  | .mbxBadOp g op => Sys2Proof.Machine.execMbxBadOp g op s
  | .dictionaryEngineTurn flashFails => Sys2Proof.Machine.execDictionaryEngineTurn flashFails s
  | .restoreDefaults rq => Sys2Proof.Machine.execRestoreDefaults rq s
  | .restoreDefaultsEnd => Sys2Proof.Machine.execRestoreDefaultsEnd s
  | .journalCompactionStep => Sys2Proof.Machine.execJournalCompactionStep s
  | .mgmtLinkChange up => Sys2Proof.Machine.execMgmtLinkChange up s
  | .neighborSolicitation src target => Sys2Proof.Machine.execNeighborSolicitation src target s
  | .neighborAdvertisement src a => Sys2Proof.Machine.execNeighborAdvertisement src a s
  | .echoRequest src payload => Sys2Proof.Machine.execEchoRequest src payload s
  | .adminSqControlWrite g value => Sys2Proof.Machine.execAdminSqControlWrite g value s
  | .adminCqControlWrite g value => Sys2Proof.Machine.execAdminCqControlWrite g value s
  | .adminSqTailWrite g value => Sys2Proof.Machine.execAdminSqTailWrite g value s
  | .adminCqHeadWrite g value => Sys2Proof.Machine.execAdminCqHeadWrite g value s
  | .adminEntryRead g ok entry => Sys2Proof.Machine.execAdminEntryRead g ok entry s
  | .adminCompletionWrite g => Sys2Proof.Machine.execAdminCompletionWrite g s
  | .createContext g => Sys2Proof.Machine.execCreateContext g s
  | .destroyContext g => Sys2Proof.Machine.execDestroyContext g s
  | .contextAbortComplete c => Sys2Proof.Machine.execContextAbortComplete c s
  | .queryContext g => Sys2Proof.Machine.execQueryContext g s
  | .createObject g => Sys2Proof.Machine.execCreateObject g s
  | .freeObject g => Sys2Proof.Machine.execFreeObject g s
  | .freeObjectComplete slot => Sys2Proof.Machine.execFreeObjectComplete slot s
  | .grantObject g => Sys2Proof.Machine.execGrantObject g s
  | .revokeGrant g => Sys2Proof.Machine.execRevokeGrant g s
  | .grantDropComplete slot target => Sys2Proof.Machine.execGrantDropComplete slot target s
  | .createEventRing g => Sys2Proof.Machine.execCreateEventRing g s
  | .destroyEventRing g => Sys2Proof.Machine.execDestroyEventRing g s
  | .adminBadOpcode g => Sys2Proof.Machine.execAdminBadOpcode g s
  | .fenceSignal g handle word value => Sys2Proof.Machine.execFenceSignal g handle word value s
  | .fenceWaitRelease c => Sys2Proof.Machine.execFenceWaitRelease c s
  | .fenceMirrorWrite slot word => Sys2Proof.Machine.execFenceMirrorWrite slot word s
  | .doorbell g offset size allEnabled poisoned value => Sys2Proof.Machine.execDoorbell g offset size allEnabled poisoned value s
  | .commandFetch p => Sys2Proof.Machine.execCommandFetch p s
  | .commandEntryArrival c => Sys2Proof.Machine.execCommandEntryArrival c s
  | .dispatchStages c => Sys2Proof.Machine.execDispatchStages c s
  | .nop c q => Sys2Proof.Machine.execNop c q s
  | .writeValue c q => Sys2Proof.Machine.execWriteValue c q s
  | .writeTimestamp c q => Sys2Proof.Machine.execWriteTimestamp c q s
  | .copyTensor c q => Sys2Proof.Machine.execCopyTensor c q s
  | .reduceTensor c q => Sys2Proof.Machine.execReduceTensor c q s
  | .fill c q => Sys2Proof.Machine.execFill c q s
  | .launch c q => Sys2Proof.Machine.execLaunch c q s
  | .flush c q => Sys2Proof.Machine.execFlush c q s
  | .invalidate c q => Sys2Proof.Machine.execInvalidate c q s
  | .invalidateRanges c q => Sys2Proof.Machine.execInvalidateRanges c q s
  | .digestRange c q => Sys2Proof.Machine.execDigestRange c q s
  | .commandBadOpcode c q => Sys2Proof.Machine.execCommandBadOpcode c q s
  | .commandCompletion c q => Sys2Proof.Machine.execCommandCompletion c q s
  | .streamTagDrained tag => Sys2Proof.Machine.execStreamTagDrained tag s
  | .streamBeatUnknownTag tag => Sys2Proof.Machine.execStreamBeatUnknownTag tag s
  | .partEnd cluster c q k => Sys2Proof.Machine.execPartEnd cluster c q k s
  | .partCancelTimeout cluster c q k => Sys2Proof.Machine.execPartCancelTimeout cluster c q k s
  | .unitStepEnd u => Sys2Proof.Machine.execUnitStepEnd u s
  | .translationLookup c va need => Sys2Proof.Machine.execTranslationLookup c va need s
  | .walkNodeReadDone walk => Sys2Proof.Machine.execWalkNodeReadDone walk s
  | .leaseRequest cluster slot c va need => Sys2Proof.Machine.execLeaseRequest cluster slot c va need s
  | .revokeAck cluster slot => Sys2Proof.Machine.execRevokeAck cluster slot s
  | .leaseRelease cluster slot => Sys2Proof.Machine.execLeaseRelease cluster slot s
  | .rangeScanDone bank => Sys2Proof.Machine.execRangeScanDone bank s
  | .atsTranslationCompletion p tag status translated read write => Sys2Proof.Machine.execAtsTranslationCompletion p tag status translated read write s
  | .atsInvalidateRequest p itag pasid address bytes => Sys2Proof.Machine.execAtsInvalidateRequest p itag pasid address bytes s
  | .atsInvalidationCompletion p itag => Sys2Proof.Machine.execAtsInvalidationCompletion p itag s
  | .walkerGroupEnableWrite rq v => Sys2Proof.Machine.execWalkerGroupEnableWrite rq v s
  | .poolExtentWrite rq g base bytes => Sys2Proof.Machine.execPoolExtentWrite rq g base bytes s
  | .engineTurn e => Sys2Proof.Machine.execEngineTurn e s
  | .tileDelivered c q => Sys2Proof.Machine.execTileDelivered c q s
  | .tileConsumed tag creditId count => Sys2Proof.Machine.execTileConsumed tag creditId count s
  | .faultRecordWrite g ok => Sys2Proof.Machine.execFaultRecordWrite g ok s
  | .faultqControlWrite g value => Sys2Proof.Machine.execFaultqControlWrite g value s
  | .faultqHeadWrite g value => Sys2Proof.Machine.execFaultqHeadWrite g value s
  | .faultTimeoutWrite g value => Sys2Proof.Machine.execFaultTimeoutWrite g value s
  | .faultResume g id => Sys2Proof.Machine.execFaultResume g id s
  | .faultAbort g id => Sys2Proof.Machine.execFaultAbort g id s
  | .faultResponseBadAction g value => Sys2Proof.Machine.execFaultResponseBadAction g value s
  | .faultTimeoutExpiry g id => Sys2Proof.Machine.execFaultTimeoutExpiry g id s
  | .checkWrite h runs => Sys2Proof.Machine.execCheckWrite h runs s
  | .checkAtomic h runs => Sys2Proof.Machine.execCheckAtomic h runs s
  | .readReq h runs => Sys2Proof.Machine.execReadReq h runs s
  | .accept h => Sys2Proof.Machine.execAccept h s
  | .deny h => Sys2Proof.Machine.execDeny h s
  | .data h payload => Sys2Proof.Machine.execData h payload s
  | .cancel h => Sys2Proof.Machine.execCancel h s
  | .readData h payload => Sys2Proof.Machine.execReadData h payload s
  | .done h => Sys2Proof.Machine.execDone h s
  | .linkAck h => Sys2Proof.Machine.execLinkAck h s
  | .hello m => Sys2Proof.Machine.execHello m s
  | .helloAck m => Sys2Proof.Machine.execHelloAck m s
  | .paldarRetryTimeout peer => Sys2Proof.Machine.execPaldarRetryTimeout peer s
  | .linkAckTimer peer => Sys2Proof.Machine.execLinkAckTimer peer s
  | .peerTimeout peer => Sys2Proof.Machine.execPeerTimeout peer s
  | .helloTimer peer => Sys2Proof.Machine.execHelloTimer peer s
  | .peerDownTimer peer => Sys2Proof.Machine.execPeerDownTimer peer s
  | .denyBusyRetry peer w serial tile => Sys2Proof.Machine.execDenyBusyRetry peer w serial tile s
  | .commitHistoryExpiry src bootId serial tile => Sys2Proof.Machine.execCommitHistoryExpiry src bootId serial tile s
  | .receiverPeerSilence peer => Sys2Proof.Machine.execReceiverPeerSilence peer s
  | .windowDataExecuted src w serial tile => Sys2Proof.Machine.execWindowDataExecuted src w serial tile s
  | .ethernetLinkChange port up => Sys2Proof.Machine.execEthernetLinkChange port up s
  | .windowOpen rq g r => Sys2Proof.Machine.execWindowOpen rq g r s
  | .windowClose rq g r => Sys2Proof.Machine.execWindowClose rq g r s
  | .windowCloseDone w => Sys2Proof.Machine.execWindowCloseDone w s
  | .windowModify rq g r => Sys2Proof.Machine.execWindowModify rq g r s
  | .windowRefresh rq g r => Sys2Proof.Machine.execWindowRefresh rq g r s
  | .windowRefreshDone w => Sys2Proof.Machine.execWindowRefreshDone w s
  | .windowRequestBadOp rq g r => Sys2Proof.Machine.execWindowRequestBadOp rq g r s
  | .peerEntryWrite rq peer value => Sys2Proof.Machine.execPeerEntryWrite rq peer value s
  | .cohEnable rq n => Sys2Proof.Machine.execCohEnable rq n s
  | .cohDisable rq n => Sys2Proof.Machine.execCohDisable rq n s
  | .cohCloseDone n => Sys2Proof.Machine.execCohCloseDone n s
  | .coherentAccess d address access => Sys2Proof.Machine.execCoherentAccess d address access s
  | .snoopAck d line data => Sys2Proof.Machine.execSnoopAck d line data s
  | .snoopTimeout d line => Sys2Proof.Machine.execSnoopTimeout d line s
  | .poolLineRead line cacheBad checks reader => Sys2Proof.Machine.execPoolLineRead line cacheBad checks reader s
  | .rowRemapCopyDone row => Sys2Proof.Machine.execRowRemapCopyDone row s
  | .repairRequest rq st value => Sys2Proof.Machine.execRepairRequest rq st value s
  | .repairDone st ok => Sys2Proof.Machine.execRepairDone st ok s
  | .marginRequest rq st value => Sys2Proof.Machine.execMarginRequest rq st value s
  | .marginDone st ok errors => Sys2Proof.Machine.execMarginDone st ok errors s
  | .scrubStep => Sys2Proof.Machine.execScrubStep s
  | .slotIssueWindowStart => Sys2Proof.Machine.execSlotIssueWindowStart s
  | .ptpSync identity seq arrival => Sys2Proof.Machine.execPtpSync identity seq arrival s
  | .ptpFollowUp identity seq originNs => Sys2Proof.Machine.execPtpFollowUp identity seq originNs s
  | .ptpDelayResp identity seq receiveNs => Sys2Proof.Machine.execPtpDelayResp identity seq receiveNs s
  | .ptpAnnounce a => Sys2Proof.Machine.execPtpAnnounce a s
  | .announceReceiptTimeout => Sys2Proof.Machine.execAnnounceReceiptTimeout s
  | .delayReqTimer => Sys2Proof.Machine.execDelayReqTimer s
  | .syncLossTimeout => Sys2Proof.Machine.execSyncLossTimeout s
  | .replayEntryDue c => Sys2Proof.Machine.execReplayEntryDue c s
  | .unitFailureReport u => Sys2Proof.Machine.execUnitFailureReport u s
  | .unitRemap rq => Sys2Proof.Machine.execUnitRemap rq s
  | .unitRemapDone => Sys2Proof.Machine.execUnitRemapDone s
  | .modeChangeStage rq => Sys2Proof.Machine.execModeChangeStage rq s
  | .modeStageAck cluster => Sys2Proof.Machine.execModeStageAck cluster s
  | .modeStageReject cluster => Sys2Proof.Machine.execModeStageReject cluster s
  | .modeStageTimeout cluster => Sys2Proof.Machine.execModeStageTimeout cluster s
  | .modeCommit => Sys2Proof.Machine.execModeCommit s
  | .eventRecordWrite g => Sys2Proof.Machine.execEventRecordWrite g s
  | .ringConsumerWrite g r value => Sys2Proof.Machine.execRingConsumerWrite g r value s
  | .weirDelayExpiry g => Sys2Proof.Machine.execWeirDelayExpiry g s
  | .intPendingClear g qword value => Sys2Proof.Machine.execIntPendingClear g qword value s
  | .intMaskWrite g qword value => Sys2Proof.Machine.execIntMaskWrite g qword value s
  | .intModerationWrite g value => Sys2Proof.Machine.execIntModerationWrite g value s
  | .idleHint d idle => Sys2Proof.Machine.execIdleHint d idle s
  | .wakeFiring w => Sys2Proof.Machine.execWakeFiring w s
  | .gtcAlarm => Sys2Proof.Machine.execGtcAlarm s
  | .pkgWakereq => Sys2Proof.Machine.execPkgWakereq s
  | .hmpWakeFrame => Sys2Proof.Machine.execHmpWakeFrame s
  | .sleepRequest rq => Sys2Proof.Machine.execSleepRequest rq s
  | .sleepEntered => Sys2Proof.Machine.execSleepEntered s
  | .wakeComplete => Sys2Proof.Machine.execWakeComplete s
  | .errorRaise e info => Sys2Proof.Machine.execErrorRaise e info s
  | .brokenWire e => Sys2Proof.Machine.execBrokenWire e s
  | .blockReset writer => Sys2Proof.Machine.execBlockReset writer s
  | .blockResetDone badPairs => Sys2Proof.Machine.execBlockResetDone badPairs s
  | .packageReset found => Sys2Proof.Machine.execPackageReset found s
  | .resetDone => Sys2Proof.Machine.execResetDone s
  | .watchdogExpiry => Sys2Proof.Machine.execWatchdogExpiry s
  | .errCaptureRelease rq => Sys2Proof.Machine.execErrCaptureRelease rq s
  | .fnErrRelease g value => Sys2Proof.Machine.execFnErrRelease g value s
  | .errOutRelease rq => Sys2Proof.Machine.execErrOutRelease rq s
  | .errHoldExpiry => Sys2Proof.Machine.execErrHoldExpiry s
  | .errOutMismatch => Sys2Proof.Machine.execErrOutMismatch s
  | .counterClear rq ref => Sys2Proof.Machine.execCounterClear rq ref s
  | .getVersion c => Sys2Proof.Machine.execGetVersion c s
  | .getCapabilities c => Sys2Proof.Machine.execGetCapabilities c s
  | .negotiateAlgorithms c => Sys2Proof.Machine.execNegotiateAlgorithms c s
  | .getDigests c => Sys2Proof.Machine.execGetDigests c s
  | .getCertificate c slot offset length => Sys2Proof.Machine.execGetCertificate c slot offset length s
  | .challenge c slot nonce => Sys2Proof.Machine.execChallenge c slot nonce s
  | .getMeasurements c signed index nonce => Sys2Proof.Machine.execGetMeasurements c signed index nonce s
  | .chunkSend c handle seq last chunk => Sys2Proof.Machine.execChunkSend c handle seq last chunk s
  | .chunkGet c handle seq => Sys2Proof.Machine.execChunkGet c handle seq s
  | .spdmUnsupportedRequest c code => Sys2Proof.Machine.execSpdmUnsupportedRequest c code s
  | .debugTokenWrite rq token => Sys2Proof.Machine.execDebugTokenWrite rq token s
  | .raiseMinSecurityVersion rq n => Sys2Proof.Machine.execRaiseMinSecurityVersion rq n s
  | .powerCoarseUpdate => Sys2Proof.Machine.execPowerCoarseUpdate s
  | .entropyHealthFailure => Sys2Proof.Machine.execEntropyHealthFailure s
  | .drbgReseed => Sys2Proof.Machine.execDrbgReseed s
  | .domainSwitchStart => Sys2Proof.Machine.execDomainSwitchStart s
  | .domainSwitchDone => Sys2Proof.Machine.execDomainSwitchDone s
  | .workDomainsOnWrite rq v => Sys2Proof.Machine.execWorkDomainsOnWrite rq v s
  | .engineGroupEnableWrite rq v => Sys2Proof.Machine.execEngineGroupEnableWrite rq v s
  | .digestEngineEnableWrite rq v => Sys2Proof.Machine.execDigestEngineEnableWrite rq v s
  | .paldarLaneEnableWrite rq v => Sys2Proof.Machine.execPaldarLaneEnableWrite rq v s
  | .clockMeasureWindow khz => Sys2Proof.Machine.execClockMeasureWindow khz s
  | .powerGoodChange levels => Sys2Proof.Machine.execPowerGoodChange levels s
  | .telemetryPoll => Sys2Proof.Machine.execTelemetryPoll s
  | .telemetryReply vin iin => Sys2Proof.Machine.execTelemetryReply vin iin s
  | .power rq => Sys2Proof.Machine.execPower rq s
  | .train rq => Sys2Proof.Machine.execTrain rq s
  | .qualify rq => Sys2Proof.Machine.execQualify rq s
  | .qualifyEnd counts => Sys2Proof.Machine.execQualifyEnd counts s
  | .loadFirmware rq => Sys2Proof.Machine.execLoadFirmware rq s
  | .firmwareImageComplete => Sys2Proof.Machine.execFirmwareImageComplete s
  | .firmwareChunkWrite rq chunk => Sys2Proof.Machine.execFirmwareChunkWrite rq chunk s
  | .broadcast rq => Sys2Proof.Machine.execBroadcast rq s
  | .tileDigestAnswer tile digest => Sys2Proof.Machine.execTileDigestAnswer tile digest s
  | .tileAnswerTimeout tile => Sys2Proof.Machine.execTileAnswerTimeout tile s
  | .test rq => Sys2Proof.Machine.execTest rq s
  | .publishMap rq => Sys2Proof.Machine.execPublishMap rq s
  | .declareReady rq => Sys2Proof.Machine.execDeclareReady rq s
  | .bringupStepEnd failedClusters failedEngines => Sys2Proof.Machine.execBringupStepEnd failedClusters failedEngines s
  | .declareReadyComplete => Sys2Proof.Machine.execDeclareReadyComplete s
  | .port0Lanes rq => Sys2Proof.Machine.execPort0Lanes rq s
  | .portLanes rq p => Sys2Proof.Machine.execPortLanes rq p s
  | .stackCalibrate rq st => Sys2Proof.Machine.execStackCalibrate rq st s
  | .calibrateDone ok values => Sys2Proof.Machine.execCalibrateDone ok values s
  | .launchGtcReached c => Sys2Proof.Machine.execLaunchGtcReached c s
  | .flitModeRefused p => Sys2Proof.Machine.execFlitModeRefused p s
  | .linkRecovery p width => Sys2Proof.Machine.execLinkRecovery p width s
  | .aspmL1Entry p => Sys2Proof.Machine.execAspmL1Entry p s
  | .port0FallbackTrained nonce => Sys2Proof.Machine.execPort0FallbackTrained nonce s
  | .errOutMismatchEnd => Sys2Proof.Machine.execErrOutMismatchEnd s
  | .doeDiscovery p index => Sys2Proof.Machine.execDoeDiscovery p index s
  | .ptpDelayReq requester seq arrivalNs => Sys2Proof.Machine.execPtpDelayReq requester seq arrivalNs s
  | .ptpSyncTimer => Sys2Proof.Machine.execPtpSyncTimer s
  | .ptpAnnounceTimer => Sys2Proof.Machine.execPtpAnnounceTimer s
  | .tapAccess op => Sys2Proof.Machine.execTapAccess op s

end Sys2Proof.Machine
end

