-- ==== Sys2Proof/Machine/Tick.lean ====
section
/-!
DEFINITION. The clock of the block.
-/
namespace Sys2Proof.Machine

/-- One tick: the global time count rises by one (01_architecture, R17), or by 25 in package sleep, when
the 50 MHz clock of the always-on island keeps it (R18). -/
def tick (s : State) : State :=
  { s with gtc := s.gtc + (if s.power.phase == .asleep then 25 else 1) }

end Sys2Proof.Machine
end

