-- ==== Sys2Proof/WellFormed.lean ====
section
/-!
DEFINITION. Well-formed commands: operands that lie in the ranges the manual gives their fields. A meaning is total
and does not ask for them.
-/
namespace Sys2Proof

/-- Where a host write may lie: inside its space and of 1 to 4,096 bytes (02_host_endpoint, R43, R45, R53). -/
def placeOk (space : Space) (offset size : Nat) : Bool :=
  1 ≤ size && match space with
    | .config => size ≤ 4 && offset + size ≤ 0x1000
    | .bar0 => size ≤ 4096 && offset + size ≤ 0x10000
    | .bar2 => size ≤ 4096 && offset + size ≤ 0x800000
    | .rom => size ≤ 4096 && offset + size ≤ 0x100000

/-- An address of the management network (03, R99). -/
def addrOk (a : NetAddr) : Bool := a.ip.length == 16 && a.port < 65536 && a.mac.toNat < 2 ^ 48

/-- Largest HMP payload: 1,500 bytes without the IPv6, UDP and HMP headers and the tag (03, R98, R100, R107). -/
def hmpPayloadMax : Nat := 1404

/-- Opcodes of HMP requests (03, R107). -/
def hmpOpcodes : List Nat := [0x0001, 0x0002, 0x0003, 0x0010, 0x0011, 0x0012, 0x0013, 0x0020, 0x0050]

/-- A run list of one frame: at most 512 runs, each with a 36-bit offset and up to 131,072 bytes (08, R268). -/
def runsOk (runs : List WRun) : Bool :=
  runs.length ≤ 512 && runs.all fun r => r.offset < 2 ^ 36 && 1 ≤ r.length && r.length ≤ 2 ^ 17

/-- An aperture request moves 1 to 4,096 bytes (02, R45; 08, R279). -/
def accessOk : CohAccess → Bool
  | .read n => 1 ≤ n && n ≤ 4096
  | .write d => 1 ≤ d.length && d.length ≤ 4096

/-- The data of a recalled line (08, R281). -/
def lineDataOk : Option Bytes → Bool
  | some d => d.length == 64
  | none => true

/-- A unit that exists in some variant (00, R2). -/
def unitOk : FailUnit → Bool
  | .cluster n => n < 960
  | .engine _ => true
  | .tile t => t < 64

/-- Whether a command is well formed. -/
def Instr.wf : Instr → Bool
  | .perstAssert _ => true
  | .perstDeassert _ => true
  | .portLinkUp _ width speed => [4, 8, 16].contains width && speed ≤ 6
  | .linkL0Return _ => true
  | .surpriseRemoval _ => true
  | .malformedTlp _ _ => true
  | .hotReset _ => true
  | .functionLevelReset _ => true
  | .functionResetComplete _ => true
  | .busMasterEnableClear _ => true
  | .stallQuiet _ => true
  | .busMasterEnableSet _ => true
  | .powerStateD3hot _ => true
  | .powerStateD0 _ => true
  | .pmeTurnOff _ => true
  | .pmeToAck _ => true
  | .interruptDisableWrite _ _ => true
  | .atsPasidDisable _ _ => true
  | .functionEnableWrite _ _ _ => true
  | .portEnableWrite _ _ _ => true
  | .port0ModeMain _ => true
  | .port0ModeFallback _ => true
  | .port0TrainingDone e => e.nd.length == 16
  | .port0GroupRetrainFailed _ => true
  | .port0LinkDown => true
  | .completionReceived _ _ _ _ _ b => b.length ≤ 4096
  | .completionTimeout _ _ => true
  | .quarantineExpiry _ _ => true
  | .registerWrite _ space offset size _ _ => placeOk space offset size
  | .hmpOpenSession src _ payload => addrOk src && payload.length ≤ hmpPayloadMax
  | .hmpProve src _ payload => addrOk src && payload.length ≤ hmpPayloadMax
  | .hmpCloseSession h => addrOk h.src
  | .hmpRead h payload => addrOk h.src && payload.length ≤ hmpPayloadMax
  | .hmpWrite h payload => addrOk h.src && payload.length ≤ hmpPayloadMax
  | .hmpReadSegment h payload => addrOk h.src && payload.length ≤ hmpPayloadMax
  | .hmpWriteSegment h payload => addrOk h.src && payload.length ≤ hmpPayloadMax
  | .hmpList h payload => addrOk h.src && payload.length ≤ hmpPayloadMax
  | .spdmMessage src _ message => addrOk src && message.length ≤ hmpPayloadMax
  | .hmpBadOpcode h opcode => addrOk h.src && !hmpOpcodes.contains opcode.toNat
  | .hmpFrameDropped _ => true
  | .pendingSessionExpiry _ => true
  | .sessionIdleExpiry _ => true
  | .slotLockExpiry _ => true
  | .mbxRead _ => true
  | .mbxWrite _ => true
  | .mbxReadSegment _ => true
  | .mbxWriteSegment _ => true
  | .mbxWriteSegmentFinal _ => true
  | .mbxBadOp _ op => 5 ≤ op && op ≤ 15
  | .dictionaryEngineTurn _ => true
  | .restoreDefaults _ => true
  | .restoreDefaultsEnd => true
  | .journalCompactionStep => true
  | .mgmtLinkChange _ => true
  | .neighborSolicitation src target => addrOk src && target.length == 16
  | .neighborAdvertisement src a => addrOk src && a.target.length == 16 && a.mac.toNat < 2 ^ 48
  | .echoRequest src payload => addrOk src && payload.length ≤ 1500
  | .adminSqControlWrite _ _ => true
  | .adminCqControlWrite _ _ => true
  | .adminSqTailWrite _ _ => true
  | .adminCqHeadWrite _ _ => true
  | .adminEntryRead _ ok entry => !ok || entry.length == 64
  | .adminCompletionWrite _ => true
  | .createContext _ => true
  | .destroyContext _ => true
  | .contextAbortComplete _ => true
  | .queryContext _ => true
  | .createObject _ => true
  | .freeObject _ => true
  | .freeObjectComplete _ => true
  | .grantObject _ => true
  | .revokeGrant _ => true
  | .grantDropComplete _ _ => true
  | .createEventRing _ => true
  | .destroyEventRing _ => true
  | .adminBadOpcode _ => true
  | .fenceSignal _ _ _ _ => true
  | .fenceWaitRelease _ => true
  | .fenceMirrorWrite _ _ => true
  | .doorbell _ offset size _ _ _ => placeOk .bar2 offset size
  | .commandFetch _ => true
  | .commandEntryArrival _ => true
  | .dispatchStages _ => true
  | .nop _ _ => true
  | .writeValue _ _ => true
  | .writeTimestamp _ _ => true
  | .copyTensor _ _ => true
  | .reduceTensor _ _ => true
  | .fill _ _ => true
  | .launch _ _ => true
  | .flush _ _ => true
  | .invalidate _ _ => true
  | .invalidateRanges _ _ => true
  | .digestRange _ _ => true
  | .commandBadOpcode _ _ => true
  | .commandCompletion _ _ => true
  | .streamTagDrained _ => true
  | .streamBeatUnknownTag _ => true
  | .partEnd cluster _ _ _ => cluster < 960
  | .partCancelTimeout cluster _ _ _ => cluster < 960
  | .unitStepEnd _ => true
  | .translationLookup _ _ _ => true
  | .walkNodeReadDone _ => true
  | .leaseRequest cluster slot _ _ _ => cluster < 960 && slot < 64
  | .revokeAck cluster slot => cluster < 960 && slot < 64
  | .leaseRelease cluster slot => cluster < 960 && slot < 64
  | .rangeScanDone _ => true
  | .atsTranslationCompletion _ _ _ _ _ _ => true
  | .atsInvalidateRequest _ _ _ _ _ => true
  | .atsInvalidationCompletion _ _ => true
  | .walkerGroupEnableWrite _ _ => true
  | .poolExtentWrite _ _ _ _ => true
  | .engineTurn _ => true
  | .tileDelivered _ _ => true
  | .tileConsumed _ _ _ => true
  | .faultRecordWrite _ _ => true
  | .faultqControlWrite _ _ => true
  | .faultqHeadWrite _ _ => true
  | .faultTimeoutWrite _ _ => true
  | .faultResume _ _ => true
  | .faultAbort _ _ => true
  | .faultResponseBadAction _ _ => true
  | .faultTimeoutExpiry _ _ => true
  | .checkWrite _ runs => runsOk runs
  | .checkAtomic _ runs => runsOk runs
  | .readReq _ runs => runsOk runs
  | .accept _ => true
  | .deny _ => true
  | .data _ payload => payload.length ≤ 4096
  | .cancel _ => true
  | .readData _ payload => payload.length ≤ 4096
  | .done _ => true
  | .linkAck _ => true
  | .hello m => m.nonce.length == 16
  | .helloAck m => m.nonce.length == 16
  | .paldarRetryTimeout _ => true
  | .linkAckTimer _ => true
  | .peerTimeout _ => true
  | .helloTimer _ => true
  | .peerDownTimer _ => true
  | .denyBusyRetry _ _ _ _ => true
  | .commitHistoryExpiry _ _ _ _ => true
  | .receiverPeerSilence _ => true
  | .windowDataExecuted _ _ _ _ => true
  | .ethernetLinkChange _ _ => true
  | .windowOpen _ _ r => r.op == 1
  | .windowClose _ _ r => r.op == 2
  | .windowCloseDone _ => true
  | .windowModify _ _ r => r.op == 3
  | .windowRefresh _ _ r => r.op == 4
  | .windowRefreshDone _ => true
  | .windowRequestBadOp _ _ r => !(1 ≤ r.op && r.op ≤ 4)
  | .peerEntryWrite _ _ _ => true
  | .cohEnable _ _ => true
  | .cohDisable _ _ => true
  | .cohCloseDone _ => true
  | .coherentAccess _ _ access => accessOk access
  | .snoopAck _ line b => line % 64 == 0 && lineDataOk b
  | .snoopTimeout _ line => line % 64 == 0
  | .poolLineRead line _ _ _ => line < 2 ^ 41
  | .rowRemapCopyDone row => row % 2048 == 0 && row < 2 ^ 41
  | .repairRequest _ _ _ => true
  | .repairDone _ _ => true
  | .marginRequest _ _ _ => true
  | .marginDone _ _ _ => true
  | .scrubStep => true
  | .slotIssueWindowStart => true
  | .ptpSync _ _ _ => true
  | .ptpFollowUp _ _ _ => true
  | .ptpDelayResp _ _ _ => true
  | .ptpAnnounce _ => true
  | .announceReceiptTimeout => true
  | .delayReqTimer => true
  | .syncLossTimeout => true
  | .replayEntryDue _ => true
  | .unitFailureReport u => unitOk u
  | .unitRemap _ => true
  | .unitRemapDone => true
  | .modeChangeStage _ => true
  | .modeStageAck cluster => cluster < 960
  | .modeStageReject cluster => cluster < 960
  | .modeStageTimeout cluster => cluster < 960
  | .modeCommit => true
  | .eventRecordWrite _ => true
  | .ringConsumerWrite _ _ _ => true
  | .weirDelayExpiry _ => true
  | .intPendingClear _ _ _ => true
  | .intMaskWrite _ _ _ => true
  | .intModerationWrite _ _ => true
  | .idleHint _ _ => true
  | .wakeFiring _ => true
  | .gtcAlarm => true
  | .pkgWakereq => true
  | .hmpWakeFrame => true
  | .sleepRequest _ => true
  | .sleepEntered => true
  | .wakeComplete => true
  | .errorRaise _ _ => true
  | .brokenWire _ => true
  | .blockReset _ => true
  | .blockResetDone _ => true
  | .packageReset found => found.weakRows.all (fun r => r < 2 ^ 41)
  | .resetDone => true
  | .watchdogExpiry => true
  | .errCaptureRelease _ => true
  | .fnErrRelease _ _ => true
  | .errOutRelease _ => true
  | .errHoldExpiry => true
  | .errOutMismatch => true
  | .counterClear _ ref => ref.index < 2 ^ 16 && ref.sub < 256
  | .getVersion _ => true
  | .getCapabilities _ => true
  | .negotiateAlgorithms _ => true
  | .getDigests _ => true
  | .getCertificate _ slot _ _ => slot < 8
  | .challenge _ _ nonce => nonce.length == 32
  | .getMeasurements _ signed _ nonce => !signed || nonce.length == 32
  | .chunkSend _ _ _ _ _ => true
  | .chunkGet _ _ _ => true
  | .spdmUnsupportedRequest _ _ => true
  | .debugTokenWrite _ token => token.length ≤ 32768
  | .raiseMinSecurityVersion _ _ => true
  | .powerCoarseUpdate => true
  | .entropyHealthFailure => true
  | .drbgReseed => true
  | .domainSwitchStart => true
  | .domainSwitchDone => true
  | .workDomainsOnWrite _ _ => true
  | .engineGroupEnableWrite _ _ => true
  | .digestEngineEnableWrite _ _ => true
  | .paldarLaneEnableWrite _ _ => true
  | .clockMeasureWindow khz => khz.length == 13
  | .powerGoodChange _ => true
  | .telemetryPoll => true
  | .telemetryReply vin iin => vin.length == 2 && iin.length == 2
  | .power _ => true
  | .train _ => true
  | .qualify _ => true
  | .qualifyEnd _ => true
  | .loadFirmware _ => true
  | .firmwareImageComplete => true
  | .firmwareChunkWrite _ chunk => chunk.length ≤ 32768
  | .broadcast _ => true
  | .tileDigestAnswer tile digest => tile < 64 && digest.length == 48
  | .tileAnswerTimeout tile => tile < 64
  | .test _ => true
  | .publishMap _ => true
  | .declareReady _ => true
  | .bringupStepEnd failedClusters _ => failedClusters.all (fun x => x.1 < 64 && x.2 < 16)
  | .declareReadyComplete => true
  | .port0Lanes _ => true
  | .portLanes _ _ => true
  | .stackCalibrate _ _ => true
  | .calibrateDone _ values => values.errors.all fun l => l.length == 256
  | .launchGtcReached _ => true
  | .flitModeRefused _ => true
  | .linkRecovery _ width => [4, 8, 16].contains width
  | .aspmL1Entry _ => true
  | .port0FallbackTrained nonce => nonce.length == 16
  | .errOutMismatchEnd => true
  | .doeDiscovery _ _ => true
  | .ptpDelayReq _ _ _ => true
  | .ptpSyncTimer => true
  | .ptpAnnounceTimer => true
  | .tapAccess _ => true

end Sys2Proof
end

