-- ==== Sys2Proof/Safety.lean ====
section
/-!
DEFINITION. What claims about the VHT are stated in: the invariant of its state, what every command leaves alone,
and frames by part of the state.
-/
namespace Sys2Proof.Machine

/-- Hard-wired bits of Command, Device Control and Device Control 2 are 0, and BAR0 is aligned to its size (02, R43,
R45). -/
structure CfgOk (c : FnCfg) : Prop where
  command : c.command &&& 0xFAB9 = 0
  devCtl : c.devCtl &&& 0x8600 = 0
  devCtl2 : c.devCtl2 &&& 0xEFF0 = 0
  bar0 : c.bar0.toNat % 0x10000 = 0

/-- The rings of the admin queue are aligned to 4 KiB (04, R120). -/
structure AdminOk (a : AdminQ) : Prop where
  sq : a.sqBase.toNat % 4096 = 0
  cq : a.cqBase.toNat % 4096 = 0

/-- The fault ring is aligned to 4 KiB, and FaultTimeout lies between 1 ms and 60 s (07, R240, R241). -/
structure FaultqOk (f : FaultQ) : Prop where
  base : f.base.toNat % 4096 = 0
  low : 1000000 ≤ f.timeout.toNat
  high : f.timeout.toNat ≤ 60000000000

/-- DelayNs is at most 1,000,000, and no mask bit stands beyond source 258 (11, R363). -/
structure IntOk (x : IntSt) : Prop where
  delay : x.delayNs ≤ 1000000
  masks : x.masks &&& ~~~ validSources = 0

/-- Registers of a function hold only values that the manual lets them read. -/
structure FnOk (f : FnSt) : Prop where
  cfg : CfgOk f.cfg
  admin : AdminOk f.admin
  faultq : FaultqOk f.faultq
  int : IntOk f.int

/-- The invariant: 32 functions and 4 ports, registers in range, pool and firmware partition in canonical form,
eight range-store banks, 32 transfer engines, 64 coherent windows and four measurement registers. -/
structure Inv (s : State) : Prop where
  fns : s.fns.length = 32
  fnOk : ∀ f ∈ s.fns, FnOk f
  ports : s.ports.length = 4
  pool : Memory.wf s.pool.mem = true
  image : Memory.wf s.boot.image = true
  banks : s.trans.banks.length = 8
  engines : s.cmd.engines.length = 32
  coh : s.win.coh.length = 64
  mr : s.sec.mr.length = 4

/-- What every command leaves alone: the variant, the waiting commands, and what has been issued already; the count
of free values never falls, and the invariant is kept. -/
structure Ok (s0 s : State) : Prop where
  inv : Inv s0 → Inv s
  variant : s.variant = s0.variant
  pending : s.pending = s0.pending
  out : s0.out <:+ s.out
  draws : s0.draws ≤ s.draws

/-- An outcome that is a next state with `Ok`. -/
def OutOk (s0 : State) (o : Out) : Prop := ∃ t, o = .next t ∧ Ok s0 t

/-- Links and power of the ports. -/
abbrev PortSt.linksPart (x : PortSt) :
    LinkState × Nat × Nat × Bool × Bool × List Fun × TurnOff × Bool :=
  (x.link, x.width, x.speed, x.perst, x.wake, x.wakeOwners, x.turnOff, x.switchedOff)

/-- Requests upstream. -/
abbrev PortSt.requestsPart (x : PortSt) : List TagUse × List TagWait × Nat × CtxId :=
  (x.tags, x.waits, x.tagTurn, x.fetchTurn)

/-- Translations held of the hosts. -/
abbrev PortSt.atsPart (x : PortSt) : List AtsEntry × List AtsHold :=
  (x.ats, x.atsHolds)

/-- FunctionState, the abort under way and what it records. -/
abbrev FnSt.fnStatePart (x : FnSt) :
    FnState × Option AbortEvent × U64 × U64 :=
  (x.state, x.abort, x.resetGtc, x.stallGtc)

/-- WindowResult, RemoteDenyLast, RejectReason and PowerCoarse. -/
abbrev FnSt.fnOtherPart (x : FnSt) :
    U64 × U64 × Nat × Nat :=
  (x.winResult, x.remoteDeny, x.rejectReason, x.powerCoarse)

/-- Numbers of contexts and slots of objects. -/
abbrev ObjSt.slotsPart (x : ObjSt) :
    Nat × List CtxId × List (Nat × Nat) × Nat × List Nat × Nat × List (Nat × Nat × U64) :=
  (x.ctxNext, x.ctxFreed, x.gens, x.slotsUsed, x.slotsFreed, x.retired, x.mirrors)

/-- Transfer engines, drains, unit steps and the turns of the front-ends. -/
abbrev CmdSt.enginesPart (x : CmdSt) :
    List Drain × List EngineSt × List (StepUnit × StepOp) × List (CtxId × Nat) × List (Nat × Fun) × List Port × Port :=
  (x.drains, x.engines, x.steps, x.memOwed, x.tagFns, x.entryWaits, x.entryTurn)

/-- Range store. -/
abbrev TransSt.entriesPart (x : TransSt) : List (List REntry) × Nat × Nat :=
  (x.banks, x.bankCount, x.nextEntry)

/-- Walks, leases and scans. -/
abbrev TransSt.lookupsPart (x : TransSt) :
    List Walk × Nat × List (Who × Nat × Need × TOut × U64) × List (Who × Nat × Need) × List Lease × List Scan ×
      List (ScanOwner × CtxId × Nat × Nat) :=
  (x.walks, x.nextWalk, x.answers, x.stalled, x.leases, x.scans, x.tileHolds)

/-- Identity, pair links and peers. -/
abbrev WinSt.peersPart (x : WinSt) :
    PackageId × U16 × U16 × BitVec 12 × List Peer × List Commit :=
  (x.localId, x.etherType, x.vlan, x.links, x.peers, x.history)

/-- Windows and their operations. -/
abbrev WinSt.windowsPart (x : WinSt) :
    List (WindowId × Win) × U32 × List SendOp × List RecvOp × List InFrame × List (Fun × WindowId) :=
  (x.table, x.nextSerial, x.sends, x.recvs, x.inbox, x.refreshing)

/-- Coherent windows and snoop filter. -/
abbrev WinSt.coherencePart (x : WinSt) :
    List (CohState × CohRefusal) × List Line × List Snoop × List (Die × U64 × CohAccess) :=
  (x.coh, x.filter, x.snoops, x.waiting)

/-- Bytes of the pool. -/
abbrev PoolSt.memoryPart (x : PoolSt) : Mem × List (Nat × Bytes) :=
  (x.mem, x.stale)

/-- Regions, rows and scrubs of the pool. -/
abbrev PoolSt.poolPart (x : PoolSt) :
    List Region × List Nat × List ExtentWish × List Nat × List Nat × List (Nat × Nat) × List Remap × List Nat × List Nat ×
      List Scrub × Option (Nat × U64) × Option (Nat × U64) ×
      List (Nat × U64) × List (Nat × U64) × List (Nat × Nat) :=
  (x.regions, x.dropped, x.extents, x.mappedOut, x.poison, x.tracker, x.remaps,
    x.sparesUsed, x.exhausted, x.scrubs, x.repairing, x.margining,
    x.repairResults, x.marginResults, x.repairLeft)

/-- The parts of the state, for frames. -/
inductive StatePart where
  | gtc | od | stored | counters | mgmt | links | intx | requests | ats | port0 | fnCfg | fnState | mbx | admin |
  faultq | int | capture | fnOther | ctxs | objs | slots | cmds | engines | entries | lookups | peers | windows |
  coherence | memory | pool | sync | det | idle | err | sec | power | boot | draws | out
  deriving DecidableEq, Repr

/-- A part is the same in two states. -/
def StatePart.same (s t : State) : StatePart → Prop
  | .gtc => t.gtc = s.gtc
  | .od => t.od = s.od
  | .stored => t.stored = s.stored
  | .counters => t.counters = s.counters
  | .mgmt => t.mgmt = s.mgmt
  | .links => t.ports.map PortSt.linksPart = s.ports.map PortSt.linksPart
  | .intx => t.ports.map PortSt.intx = s.ports.map PortSt.intx
  | .requests => t.ports.map PortSt.requestsPart = s.ports.map PortSt.requestsPart
  | .ats => t.ports.map PortSt.atsPart = s.ports.map PortSt.atsPart
  | .port0 => t.port0 = s.port0
  | .fnCfg => t.fns.map FnSt.cfg = s.fns.map FnSt.cfg
  | .fnState => t.fns.map FnSt.fnStatePart = s.fns.map FnSt.fnStatePart
  | .mbx => t.fns.map FnSt.mbx = s.fns.map FnSt.mbx
  | .admin => t.fns.map FnSt.admin = s.fns.map FnSt.admin
  | .faultq => t.fns.map FnSt.faultq = s.fns.map FnSt.faultq
  | .int => t.fns.map FnSt.int = s.fns.map FnSt.int
  | .capture => t.fns.map FnSt.capture = s.fns.map FnSt.capture
  | .fnOther => t.fns.map FnSt.fnOtherPart = s.fns.map FnSt.fnOtherPart
  | .ctxs => t.obj.ctxs = s.obj.ctxs
  | .objs => t.obj.objs = s.obj.objs
  | .slots => t.obj.slotsPart = s.obj.slotsPart
  | .cmds => t.cmd.table = s.cmd.table
  | .engines => t.cmd.enginesPart = s.cmd.enginesPart
  | .entries => t.trans.entriesPart = s.trans.entriesPart
  | .lookups => t.trans.lookupsPart = s.trans.lookupsPart
  | .peers => t.win.peersPart = s.win.peersPart
  | .windows => t.win.windowsPart = s.win.windowsPart
  | .coherence => t.win.coherencePart = s.win.coherencePart
  | .memory => t.pool.memoryPart = s.pool.memoryPart
  | .pool => t.pool.poolPart = s.pool.poolPart
  | .sync => t.sync = s.sync
  | .det => t.det = s.det
  | .idle => t.idle = s.idle
  | .err => t.err = s.err
  | .sec => t.sec = s.sec
  | .power => t.power = s.power
  | .boot => t.boot = s.boot
  | .draws => t.draws = s.draws
  | .out => t.out = s.out

/-- Every part outside the list is the same; the variant and the queue always are. -/
def SameBut (l : List StatePart) (s t : State) : Prop :=
  t.variant = s.variant ∧ t.pending = s.pending ∧ ∀ p, p ∉ l → StatePart.same s t p

/-- Every function other than `g` is the same. -/
def OtherFns (g : Fun) (s t : State) : Prop := ∀ h : Fun, h ≠ g → getFn t h = getFn s h

/-- The parts of the state that a command may change: what the rules let it, its refusal, its faults and the errors
it may raise included. -/
def touches : Instr → List StatePart
  | .perstAssert .. => [.od, .stored, .counters, .mgmt, .links, .intx, .requests, .ats, .port0, .fnCfg, .fnState,
      .admin, .faultq, .int, .capture, .ctxs, .objs, .slots, .cmds, .engines, .lookups, .peers, .windows,
      .coherence, .memory, .det, .err, .sec, .power, .boot, .draws, .out]
  | .perstDeassert .. => [.links, .idle, .out]
  | .portLinkUp .. => [.links, .intx, .fnCfg, .fnState, .out]
  | .linkL0Return .. => [.links, .intx, .fnCfg, .out]
  | .surpriseRemoval .. => [.od, .stored, .counters, .mgmt, .links, .intx, .requests, .ats, .port0, .fnCfg,
      .fnState, .admin, .faultq, .int, .capture, .ctxs, .objs, .slots, .cmds, .engines, .lookups, .peers, .windows,
      .coherence, .memory, .det, .err, .sec, .power, .boot, .draws, .out]
  | .malformedTlp .. => [.od, .stored, .counters, .mgmt, .links, .intx, .requests, .ats, .port0, .fnCfg, .fnState,
      .admin, .faultq, .int, .capture, .ctxs, .objs, .slots, .cmds, .engines, .lookups, .peers, .windows,
      .coherence, .memory, .det, .err, .sec, .power, .boot, .draws, .out]
  | .hotReset .. => [.od, .stored, .counters, .mgmt, .links, .intx, .requests, .ats, .fnCfg, .fnState, .mbx, .admin,
      .faultq, .int, .capture, .ctxs, .objs, .slots, .cmds, .engines, .lookups, .peers, .windows, .coherence,
      .memory, .det, .err, .sec, .power, .boot, .draws, .out]
  | .functionLevelReset .. => [.od, .stored, .counters, .mgmt, .links, .intx, .requests, .fnCfg, .fnState, .admin,
      .faultq, .int, .capture, .ctxs, .objs, .slots, .cmds, .engines, .lookups, .peers, .windows, .coherence,
      .memory, .det, .err, .power, .boot, .draws, .out]
  | .functionResetComplete .. => [.counters, .requests, .ats, .fnCfg, .fnState, .mbx, .admin, .faultq, .int,
      .capture, .cmds, .pool]
  | .busMasterEnableClear .. => [.counters, .links, .intx, .requests, .ats, .fnCfg, .fnState, .int, .ctxs, .power,
      .boot, .out]
  | .stallQuiet .. => [.fnState]
  | .busMasterEnableSet .. => [.counters, .links, .intx, .requests, .ats, .fnCfg, .fnState, .int, .ctxs, .power,
      .boot, .out]
  | .powerStateD3hot .. => [.counters, .links, .intx, .fnCfg, .fnState, .int, .ctxs, .boot, .out]
  | .powerStateD0 .. => [.counters, .links, .intx, .requests, .ats, .fnCfg, .fnState, .int, .ctxs, .power, .out]
  | .pmeTurnOff .. => [.links]
  | .pmeToAck .. => [.links, .boot, .out]
  | .interruptDisableWrite .. => [.counters, .links, .intx, .requests, .ats, .fnCfg, .fnState, .int, .ctxs, .power,
      .boot, .out]
  | .atsPasidDisable .. => [.requests, .ats, .fnCfg, .cmds, .out]
  | .functionEnableWrite .. => [.od, .stored, .counters, .mgmt, .links, .intx, .requests, .fnCfg, .fnState, .admin,
      .faultq, .int, .capture, .ctxs, .objs, .slots, .cmds, .engines, .lookups, .peers, .windows, .coherence,
      .memory, .det, .err, .power, .boot, .draws, .out]
  | .portEnableWrite .. => [.od, .stored, .counters, .mgmt, .links, .intx, .requests, .ats, .fnCfg, .fnState,
      .admin, .faultq, .int, .capture, .ctxs, .objs, .slots, .cmds, .engines, .lookups, .peers, .windows,
      .coherence, .memory, .det, .err, .sec, .power, .boot, .draws, .out]
  | .port0ModeMain .. => [.od, .stored, .counters, .mgmt, .port0, .int, .sec, .boot, .draws, .out]
  | .port0ModeFallback .. => [.od, .stored, .counters, .mgmt, .links, .intx, .port0, .fnCfg, .int, .capture, .err,
      .sec, .power, .boot, .draws, .out]
  | .port0TrainingDone .. => [.od, .stored, .counters, .mgmt, .links, .intx, .port0, .fnCfg, .int, .capture, .err,
      .sec, .power, .boot, .draws, .out]
  | .port0GroupRetrainFailed .. => [.od, .stored, .counters, .mgmt, .links, .intx, .port0, .fnCfg, .int, .capture,
      .err, .sec, .power, .boot, .draws, .out]
  | .port0LinkDown => [.od, .stored, .counters, .mgmt, .links, .intx, .ats, .port0, .fnCfg, .int, .capture, .err,
      .power, .boot, .out]
  | .completionReceived .. => [.od, .stored, .counters, .mgmt, .links, .intx, .requests, .ats, .fnCfg, .admin, .int,
      .capture, .ctxs, .cmds, .engines, .lookups, .peers, .windows, .det, .err, .power, .boot, .out]
  | .completionTimeout .. => [.od, .stored, .counters, .mgmt, .links, .intx, .requests, .ats, .fnCfg, .admin, .int,
      .capture, .ctxs, .cmds, .engines, .entries, .lookups, .peers, .windows, .coherence, .err, .power, .boot, .out]
  | .quarantineExpiry .. => [.counters, .requests, .ats, .int, .out]
  | .registerWrite .. => [.od, .stored, .counters, .mgmt, .links, .intx, .requests, .ats, .fnCfg, .fnState, .mbx,
      .admin, .faultq, .int, .capture, .ctxs, .objs, .slots, .cmds, .engines, .lookups, .peers, .windows,
      .coherence, .memory, .det, .err, .power, .boot, .draws, .out]
  | .hmpOpenSession .. => [.mgmt, .sec, .draws, .out]
  | .hmpProve .. => [.mgmt, .out]
  | .hmpCloseSession .. => [.counters, .mgmt, .int, .out]
  | .hmpRead .. => [.counters, .mgmt, .int, .out]
  | .hmpWrite .. => [.counters, .mgmt, .int, .out]
  | .hmpReadSegment .. => [.counters, .mgmt, .int, .out]
  | .hmpWriteSegment .. => [.counters, .mgmt, .int, .out]
  | .hmpList .. => [.counters, .mgmt, .int, .out]
  | .spdmMessage .. => [.sec]
  | .hmpBadOpcode .. => [.counters, .mgmt, .int, .out]
  | .hmpFrameDropped .. => [.counters, .int]
  | .pendingSessionExpiry .. => [.mgmt]
  | .sessionIdleExpiry .. => [.mgmt]
  | .slotLockExpiry .. => [.mgmt]
  | .mbxRead .. => [.fnCfg, .mbx, .out]
  | .mbxWrite .. => [.fnCfg, .mbx, .out]
  | .mbxReadSegment .. => [.fnCfg, .mbx, .out]
  | .mbxWriteSegment .. => [.fnCfg, .mbx, .out]
  | .mbxWriteSegmentFinal .. => [.fnCfg, .mbx, .out]
  | .mbxBadOp .. => [.fnCfg, .mbx, .out]
  | .dictionaryEngineTurn .. => [.od, .stored, .counters, .mgmt, .links, .intx, .requests, .ats, .port0, .fnCfg,
      .fnState, .mbx, .admin, .faultq, .int, .capture, .fnOther, .ctxs, .objs, .slots, .cmds, .engines, .entries,
      .lookups, .peers, .windows, .coherence, .memory, .pool, .det, .err, .sec, .power, .boot, .draws, .out]
  | .restoreDefaults .. => [.mgmt, .out]
  | .restoreDefaultsEnd => [.stored, .mgmt]
  | .journalCompactionStep => [.mgmt, .draws]
  | .mgmtLinkChange .. => [.mgmt]
  | .neighborSolicitation .. => [.out]
  | .neighborAdvertisement .. => [.mgmt, .out]
  | .echoRequest .. => [.mgmt, .out]
  | .adminSqControlWrite .. => [.counters, .requests, .ats, .fnCfg, .admin, .int, .out]
  | .adminCqControlWrite .. => [.counters, .requests, .ats, .fnCfg, .admin, .int, .out]
  | .adminSqTailWrite .. => [.counters, .requests, .ats, .fnCfg, .admin, .int, .out]
  | .adminCqHeadWrite .. => [.counters, .requests, .ats, .fnCfg, .admin, .int, .out]
  | .adminEntryRead .. => [.counters, .requests, .ats, .admin, .int, .out]
  | .adminCompletionWrite .. => [.counters, .links, .intx, .requests, .ats, .fnCfg, .admin, .int, .power, .out]
  | .createContext .. => [.counters, .requests, .ats, .admin, .int, .fnOther, .ctxs, .objs, .slots, .entries,
      .lookups, .coherence, .memory, .pool, .out]
  | .destroyContext .. => [.counters, .requests, .ats, .admin, .int, .ctxs, .cmds, .engines, .lookups, .peers,
      .windows, .memory, .det, .draws, .out]
  | .contextAbortComplete .. => [.od, .stored, .counters, .mgmt, .links, .intx, .fnCfg, .admin, .faultq, .int,
      .capture, .ctxs, .objs, .slots, .cmds, .engines, .lookups, .peers, .windows, .coherence, .memory, .err,
      .power, .out]
  | .queryContext .. => [.counters, .requests, .ats, .admin, .int, .out]
  | .createObject .. => [.counters, .requests, .ats, .admin, .int, .objs, .slots, .out]
  | .freeObject .. => [.od, .stored, .counters, .mgmt, .links, .intx, .requests, .ats, .fnCfg, .admin, .int,
      .capture, .ctxs, .objs, .slots, .cmds, .engines, .lookups, .peers, .windows, .coherence, .err, .power, .out]
  | .freeObjectComplete .. => [.admin, .objs, .slots, .pool]
  | .grantObject .. => [.counters, .requests, .ats, .admin, .int, .objs, .lookups, .out]
  | .revokeGrant .. => [.counters, .requests, .ats, .admin, .int, .objs, .lookups, .out]
  | .grantDropComplete .. => [.admin, .objs]
  | .createEventRing .. => [.counters, .intx, .requests, .ats, .fnCfg, .admin, .int, .out]
  | .destroyEventRing .. => [.counters, .intx, .requests, .ats, .fnCfg, .admin, .int, .out]
  | .adminBadOpcode .. => [.counters, .requests, .ats, .admin, .int, .out]
  | .fenceSignal .. => [.counters, .int, .ctxs, .slots, .memory, .pool, .out]
  | .fenceWaitRelease .. => [.od, .stored, .counters, .mgmt, .links, .intx, .fnCfg, .int, .capture, .ctxs, .cmds,
      .engines, .lookups, .peers, .windows, .err, .power, .out]
  | .fenceMirrorWrite .. => [.ats, .slots, .out]
  | .doorbell .. => [.od, .stored, .counters, .mgmt, .links, .intx, .fnCfg, .int, .capture, .ctxs, .cmds, .engines,
      .lookups, .peers, .windows, .err, .power, .out]
  | .commandFetch .. => [.od, .stored, .counters, .mgmt, .links, .intx, .requests, .ats, .fnCfg, .int, .capture,
      .ctxs, .cmds, .engines, .entries, .lookups, .peers, .windows, .coherence, .memory, .pool, .err, .power,
      .draws, .out]
  | .commandEntryArrival .. => [.od, .stored, .counters, .mgmt, .links, .intx, .requests, .ats, .fnCfg, .int,
      .capture, .ctxs, .cmds, .engines, .entries, .lookups, .peers, .windows, .coherence, .memory, .pool, .err,
      .power, .draws, .out]
  | .dispatchStages .. => [.od, .stored, .counters, .mgmt, .links, .intx, .fnCfg, .int, .capture, .ctxs, .cmds,
      .engines, .lookups, .peers, .windows, .coherence, .err, .power, .out]
  | .nop .. => [.cmds, .engines, .peers, .windows, .out]
  | .writeValue .. => [.od, .stored, .counters, .mgmt, .links, .intx, .requests, .ats, .fnCfg, .int, .capture,
      .ctxs, .cmds, .engines, .entries, .lookups, .peers, .windows, .coherence, .memory, .pool, .err, .power, .out]
  | .writeTimestamp .. => [.od, .stored, .counters, .mgmt, .links, .intx, .requests, .ats, .fnCfg, .int, .capture,
      .ctxs, .cmds, .engines, .entries, .lookups, .peers, .windows, .coherence, .memory, .pool, .err, .power, .out]
  | .copyTensor .. => [.cmds, .engines]
  | .reduceTensor .. => [.cmds, .engines]
  | .fill .. => [.cmds, .engines]
  | .launch .. => [.od, .stored, .counters, .mgmt, .links, .intx, .fnCfg, .int, .capture, .ctxs, .cmds, .engines,
      .entries, .lookups, .peers, .windows, .coherence, .err, .power, .out]
  | .flush .. => [.od, .stored, .counters, .mgmt, .links, .intx, .fnCfg, .int, .capture, .ctxs, .cmds, .engines,
      .entries, .lookups, .peers, .windows, .coherence, .memory, .err, .power, .draws, .out]
  | .invalidate .. => [.od, .stored, .counters, .mgmt, .links, .intx, .fnCfg, .int, .capture, .ctxs, .cmds,
      .engines, .entries, .lookups, .peers, .windows, .coherence, .memory, .err, .power, .draws, .out]
  | .invalidateRanges .. => [.cmds, .engines, .lookups, .peers, .windows, .out]
  | .digestRange .. => [.od, .stored, .counters, .mgmt, .links, .intx, .requests, .ats, .fnCfg, .int, .capture,
      .ctxs, .cmds, .engines, .entries, .lookups, .peers, .windows, .coherence, .memory, .pool, .err, .power,
      .draws, .out]
  | .commandBadOpcode .. => [.od, .stored, .counters, .mgmt, .links, .intx, .fnCfg, .int, .capture, .ctxs, .cmds,
      .engines, .lookups, .peers, .windows, .coherence, .err, .power, .out]
  | .commandCompletion .. => [.od, .stored, .counters, .mgmt, .links, .intx, .fnCfg, .int, .capture, .ctxs, .slots,
      .cmds, .engines, .lookups, .peers, .windows, .memory, .pool, .err, .power, .out]
  | .streamTagDrained .. => [.engines]
  | .streamBeatUnknownTag .. => [.od, .stored, .counters, .mgmt, .links, .intx, .fnCfg, .int, .capture, .err,
      .power, .out]
  | .partEnd .. => [.od, .stored, .counters, .mgmt, .links, .intx, .fnCfg, .int, .capture, .ctxs, .cmds, .engines,
      .entries, .lookups, .peers, .windows, .coherence, .det, .err, .power, .boot, .out]
  | .partCancelTimeout .. => [.od, .stored, .counters, .mgmt, .links, .intx, .fnCfg, .int, .capture, .ctxs, .cmds,
      .engines, .entries, .lookups, .peers, .windows, .coherence, .det, .err, .power, .boot, .out]
  | .unitStepEnd .. => [.od, .stored, .counters, .mgmt, .links, .intx, .requests, .ats, .fnCfg, .admin, .int,
      .capture, .ctxs, .slots, .cmds, .engines, .entries, .lookups, .peers, .windows, .coherence, .memory, .pool,
      .det, .err, .power, .boot, .draws, .out]
  | .translationLookup .. => [.od, .stored, .counters, .mgmt, .links, .intx, .fnCfg, .int, .capture, .ctxs, .cmds,
      .engines, .entries, .lookups, .peers, .windows, .coherence, .err, .power, .out]
  | .walkNodeReadDone .. => [.od, .stored, .counters, .mgmt, .links, .intx, .requests, .fnCfg, .admin, .int,
      .capture, .ctxs, .slots, .cmds, .engines, .entries, .lookups, .peers, .windows, .coherence, .memory, .pool,
      .det, .err, .power, .boot, .draws, .out]
  | .leaseRequest .. => [.od, .stored, .counters, .mgmt, .links, .intx, .fnCfg, .int, .capture, .ctxs, .cmds,
      .engines, .entries, .lookups, .peers, .windows, .coherence, .det, .err, .power, .out]
  | .revokeAck .. => [.od, .stored, .counters, .mgmt, .links, .intx, .requests, .fnCfg, .admin, .int, .capture,
      .ctxs, .slots, .cmds, .engines, .entries, .lookups, .peers, .windows, .coherence, .memory, .pool, .det, .err,
      .power, .boot, .draws, .out]
  | .leaseRelease .. => [.od, .stored, .counters, .mgmt, .links, .intx, .requests, .fnCfg, .admin, .int, .capture,
      .ctxs, .slots, .cmds, .engines, .entries, .lookups, .peers, .windows, .coherence, .memory, .pool, .det, .err,
      .power, .boot, .draws, .out]
  | .rangeScanDone .. => [.od, .stored, .counters, .mgmt, .links, .intx, .requests, .fnCfg, .int, .capture, .ctxs,
      .cmds, .engines, .entries, .lookups, .peers, .windows, .coherence, .err, .power, .out]
  | .atsTranslationCompletion .. => [.od, .stored, .counters, .mgmt, .links, .intx, .requests, .ats, .fnCfg, .int,
      .capture, .ctxs, .cmds, .engines, .entries, .lookups, .peers, .windows, .coherence, .err, .power, .out]
  | .atsInvalidateRequest .. => [.counters, .requests, .ats, .int, .cmds]
  | .atsInvalidationCompletion .. => [.ats, .out]
  | .walkerGroupEnableWrite .. => [.od, .stored, .counters, .mgmt, .int, .out]
  | .poolExtentWrite .. => [.od, .stored, .counters, .mgmt, .int, .out]
  | .engineTurn .. => [.od, .stored, .counters, .mgmt, .links, .intx, .requests, .ats, .fnCfg, .faultq, .int,
      .capture, .fnOther, .ctxs, .slots, .cmds, .engines, .entries, .lookups, .peers, .windows, .coherence, .memory,
      .pool, .err, .power, .draws, .out]
  | .tileDelivered .. => [.od, .stored, .counters, .mgmt, .links, .intx, .requests, .fnCfg, .admin, .int, .capture,
      .ctxs, .cmds, .engines, .entries, .lookups, .peers, .windows, .coherence, .det, .err, .power, .boot, .out]
  | .tileConsumed .. => [.counters, .int, .cmds, .draws]
  | .faultRecordWrite .. => [.od, .stored, .counters, .mgmt, .links, .intx, .ats, .fnCfg, .faultq, .int, .capture,
      .ctxs, .cmds, .engines, .lookups, .peers, .windows, .err, .power, .out]
  | .faultqControlWrite .. => [.od, .stored, .counters, .mgmt, .links, .intx, .fnCfg, .faultq, .int, .capture,
      .ctxs, .cmds, .engines, .lookups, .peers, .windows, .err, .power, .out]
  | .faultqHeadWrite .. => [.fnCfg, .faultq, .out]
  | .faultTimeoutWrite .. => [.fnCfg, .faultq, .out]
  | .faultResume .. => [.counters, .fnCfg, .faultq, .int, .cmds, .engines, .out]
  | .faultAbort .. => [.od, .stored, .counters, .mgmt, .links, .intx, .fnCfg, .faultq, .int, .capture, .ctxs, .cmds,
      .engines, .lookups, .peers, .windows, .err, .power, .out]
  | .faultResponseBadAction .. => [.od, .stored, .counters, .mgmt, .links, .intx, .fnCfg, .faultq, .int, .capture,
      .ctxs, .cmds, .engines, .lookups, .peers, .windows, .err, .power, .out]
  | .faultTimeoutExpiry .. => [.od, .stored, .counters, .mgmt, .links, .intx, .fnCfg, .faultq, .int, .capture,
      .ctxs, .cmds, .engines, .lookups, .peers, .windows, .err, .power, .out]
  | .checkWrite .. => [.counters, .int, .ctxs, .slots, .entries, .lookups, .peers, .windows, .coherence, .memory,
      .pool, .draws, .out]
  | .checkAtomic .. => [.counters, .int, .ctxs, .slots, .entries, .lookups, .peers, .windows, .coherence, .memory,
      .pool, .draws, .out]
  | .readReq .. => [.counters, .int, .ctxs, .slots, .entries, .lookups, .peers, .windows, .coherence, .memory,
      .pool, .draws, .out]
  | .accept .. => [.counters, .int, .peers, .windows, .out]
  | .deny .. => [.od, .stored, .counters, .mgmt, .links, .intx, .fnCfg, .faultq, .int, .capture, .fnOther, .ctxs,
      .cmds, .engines, .lookups, .peers, .windows, .err, .power, .draws, .out]
  | .data .. => [.counters, .int, .ctxs, .slots, .entries, .lookups, .peers, .windows, .coherence, .memory, .pool,
      .draws, .out]
  | .cancel .. => [.counters, .int, .ctxs, .slots, .entries, .lookups, .peers, .windows, .coherence, .memory, .pool,
      .draws, .out]
  | .readData .. => [.od, .stored, .counters, .mgmt, .links, .intx, .requests, .fnCfg, .admin, .int, .capture,
      .ctxs, .cmds, .engines, .entries, .lookups, .peers, .windows, .coherence, .det, .err, .power, .boot, .out]
  | .done .. => [.counters, .int, .peers, .windows, .out]
  | .linkAck .. => [.counters, .int, .peers, .out]
  | .hello .. => [.od, .stored, .counters, .mgmt, .links, .intx, .fnCfg, .faultq, .int, .capture, .fnOther, .ctxs,
      .cmds, .engines, .lookups, .peers, .windows, .err, .sec, .power, .draws, .out]
  | .helloAck .. => [.counters, .int, .peers]
  | .paldarRetryTimeout .. => [.counters, .int, .peers, .out]
  | .linkAckTimer .. => [.peers, .out]
  | .peerTimeout .. => [.od, .stored, .counters, .mgmt, .links, .intx, .fnCfg, .faultq, .int, .capture, .fnOther,
      .ctxs, .cmds, .engines, .lookups, .peers, .windows, .err, .power, .out]
  | .helloTimer .. => [.peers, .sec, .draws, .out]
  | .peerDownTimer .. => [.peers]
  | .denyBusyRetry .. => [.peers, .windows, .out]
  | .commitHistoryExpiry .. => [.peers]
  | .receiverPeerSilence .. => [.windows]
  | .windowDataExecuted .. => [.counters, .int, .ctxs, .slots, .entries, .lookups, .peers, .windows, .coherence,
      .memory, .pool, .draws, .out]
  | .ethernetLinkChange .. => [.counters, .int, .peers, .out]
  | .windowOpen .. => [.fnOther, .windows, .out]
  | .windowClose .. => [.fnOther, .windows, .out]
  | .windowCloseDone .. => [.counters, .int, .fnOther, .ctxs, .entries, .lookups, .windows, .out]
  | .windowModify .. => [.fnOther, .windows, .out]
  | .windowRefresh .. => [.fnOther, .windows, .out]
  | .windowRefreshDone .. => [.counters, .int, .fnOther, .ctxs, .entries, .lookups, .windows, .out]
  | .windowRequestBadOp .. => [.fnOther, .windows, .out]
  | .peerEntryWrite .. => [.od, .stored, .counters, .mgmt, .links, .intx, .fnCfg, .faultq, .int, .capture, .fnOther,
      .ctxs, .cmds, .engines, .lookups, .peers, .windows, .err, .power, .out]
  | .cohEnable .. => [.od, .stored, .counters, .mgmt, .int, .coherence, .out]
  | .cohDisable .. => [.od, .stored, .counters, .mgmt, .int, .coherence, .out]
  | .cohCloseDone .. => [.counters, .int, .coherence, .out]
  | .coherentAccess .. => [.counters, .fnCfg, .int, .coherence, .memory, .pool, .out]
  | .snoopAck .. => [.od, .stored, .counters, .mgmt, .links, .intx, .requests, .fnCfg, .admin, .int, .capture,
      .ctxs, .slots, .cmds, .engines, .entries, .lookups, .peers, .windows, .coherence, .memory, .pool, .det, .err,
      .power, .boot, .draws, .out]
  | .snoopTimeout .. => [.od, .stored, .counters, .mgmt, .links, .intx, .fnCfg, .int, .capture, .coherence, .err,
      .power, .out]
  | .poolLineRead .. => [.od, .stored, .counters, .mgmt, .links, .intx, .fnCfg, .int, .capture, .ctxs, .cmds,
      .engines, .lookups, .peers, .windows, .memory, .pool, .err, .power, .out]
  | .rowRemapCopyDone .. => [.od, .stored, .counters, .mgmt, .links, .intx, .fnCfg, .int, .capture, .pool, .err,
      .power, .out]
  | .repairRequest .. => [.od, .pool, .out]
  | .repairDone .. => [.memory, .pool, .draws]
  | .marginRequest .. => [.od, .pool, .out]
  | .marginDone .. => [.memory, .pool, .draws]
  | .scrubStep => [.od, .stored, .counters, .mgmt, .links, .intx, .requests, .fnCfg, .admin, .int, .capture, .ctxs,
      .slots, .cmds, .engines, .entries, .lookups, .peers, .windows, .coherence, .memory, .pool, .det, .err, .power,
      .boot, .draws, .out]
  | .slotIssueWindowStart => [.od, .stored, .counters, .mgmt, .links, .intx, .requests, .ats, .fnCfg, .admin, .int,
      .capture, .ctxs, .cmds, .engines, .entries, .lookups, .peers, .windows, .coherence, .memory, .pool, .det,
      .err, .power, .boot, .draws, .out]
  | .ptpSync .. => [.sync]
  | .ptpFollowUp .. => [.gtc, .sync]
  | .ptpDelayResp .. => [.sync]
  | .ptpAnnounce .. => [.sync]
  | .announceReceiptTimeout => [.sync]
  | .delayReqTimer => [.sync, .out]
  | .syncLossTimeout => [.od, .stored, .counters, .mgmt, .links, .intx, .fnCfg, .int, .capture, .sync, .err, .power,
      .out]
  | .replayEntryDue .. => [.od, .stored, .counters, .mgmt, .links, .intx, .requests, .ats, .fnCfg, .int, .capture,
      .ctxs, .cmds, .engines, .lookups, .peers, .windows, .coherence, .memory, .pool, .err, .power, .boot, .out]
  | .unitFailureReport .. => [.od, .stored, .counters, .mgmt, .links, .intx, .fnCfg, .int, .capture, .ctxs, .cmds,
      .engines, .entries, .lookups, .peers, .windows, .coherence, .det, .err, .power, .boot, .out]
  | .unitRemap .. => [.det, .out]
  | .unitRemapDone => [.det, .boot]
  | .modeChangeStage .. => [.det, .out]
  | .modeStageAck .. => [.det, .out]
  | .modeStageReject .. => [.det, .out]
  | .modeStageTimeout .. => [.det, .out]
  | .modeCommit => [.det, .out]
  | .eventRecordWrite .. => [.counters, .links, .intx, .ats, .fnCfg, .int, .power, .out]
  | .ringConsumerWrite .. => [.counters, .links, .intx, .ats, .fnCfg, .int, .power, .out]
  | .weirDelayExpiry .. => [.counters, .intx, .fnCfg, .int, .out]
  | .intPendingClear .. => [.counters, .intx, .fnCfg, .int, .out]
  | .intMaskWrite .. => [.counters, .intx, .fnCfg, .int, .draws, .out]
  | .intModerationWrite .. => [.counters, .intx, .fnCfg, .int, .out]
  | .idleHint .. => [.counters, .intx, .fnCfg, .int, .idle, .out]
  | .wakeFiring .. => [.counters, .links, .int, .power, .out]
  | .gtcAlarm => [.counters, .links, .int, .power, .out]
  | .pkgWakereq => [.counters, .links, .int, .power, .out]
  | .hmpWakeFrame => [.counters, .links, .int, .power, .out]
  | .sleepRequest .. => [.power, .out]
  | .sleepEntered => [.od, .stored, .counters, .mgmt, .links, .intx, .requests, .ats, .fnCfg, .faultq, .int,
      .capture, .fnOther, .ctxs, .cmds, .engines, .entries, .lookups, .peers, .windows, .memory, .err, .sec, .power,
      .out]
  | .wakeComplete => [.od, .stored, .counters, .mgmt, .links, .intx, .requests, .ats, .port0, .fnCfg, .admin, .int,
      .capture, .ctxs, .slots, .cmds, .engines, .entries, .lookups, .peers, .windows, .coherence, .memory, .pool,
      .sync, .det, .idle, .err, .sec, .power, .boot, .draws, .out]
  | .errorRaise .. => [.od, .stored, .counters, .mgmt, .links, .intx, .fnCfg, .int, .capture, .ctxs, .cmds,
      .engines, .entries, .lookups, .peers, .windows, .coherence, .det, .err, .power, .boot, .out]
  | .brokenWire .. => [.od, .stored, .counters, .mgmt, .links, .intx, .fnCfg, .int, .capture, .err, .power, .out]
  | .blockReset .. => [.od, .stored, .counters, .mgmt, .links, .intx, .requests, .ats, .fnCfg, .fnState, .admin,
      .faultq, .int, .capture, .fnOther, .ctxs, .objs, .slots, .cmds, .engines, .entries, .lookups, .peers,
      .windows, .coherence, .memory, .pool, .det, .err, .power, .boot, .draws, .out]
  | .blockResetDone .. => [.od, .stored, .counters, .mgmt, .links, .intx, .requests, .ats, .port0, .fnCfg, .fnState,
      .admin, .faultq, .int, .capture, .fnOther, .ctxs, .objs, .slots, .cmds, .engines, .entries, .lookups, .peers,
      .windows, .coherence, .memory, .pool, .det, .idle, .err, .sec, .power, .boot, .draws, .out]
  | .packageReset .. => [.gtc, .od, .stored, .counters, .mgmt, .links, .intx, .requests, .ats, .port0, .fnCfg,
      .fnState, .mbx, .admin, .faultq, .int, .capture, .fnOther, .ctxs, .objs, .slots, .cmds, .engines, .entries,
      .lookups, .peers, .windows, .coherence, .memory, .pool, .sync, .det, .idle, .err, .sec, .power, .boot, .draws,
      .out]
  | .resetDone => [.od, .stored, .counters, .mgmt, .links, .intx, .fnCfg, .int, .capture, .memory, .pool, .err,
      .sec, .power, .boot, .draws, .out]
  | .watchdogExpiry => [.od, .stored, .counters, .mgmt, .links, .intx, .fnCfg, .int, .capture, .ctxs, .cmds,
      .engines, .entries, .lookups, .peers, .windows, .coherence, .det, .err, .power, .boot, .out]
  | .errCaptureRelease .. => [.err, .out]
  | .fnErrRelease .. => [.fnCfg, .capture, .out]
  | .errOutRelease .. => [.err, .out]
  | .errHoldExpiry => [.err, .out]
  | .errOutMismatch => [.od, .stored, .counters, .mgmt, .links, .intx, .fnCfg, .int, .capture, .err, .power, .out]
  | .counterClear .. => [.counters, .err, .out]
  | .getVersion .. => [.mgmt, .sec, .draws, .out]
  | .getCapabilities .. => [.mgmt, .sec, .draws, .out]
  | .negotiateAlgorithms .. => [.mgmt, .sec, .draws, .out]
  | .getDigests .. => [.mgmt, .sec, .draws, .out]
  | .getCertificate .. => [.mgmt, .sec, .draws, .out]
  | .challenge .. => [.mgmt, .sec, .draws, .out]
  | .getMeasurements .. => [.mgmt, .sec, .draws, .out]
  | .chunkSend .. => [.mgmt, .sec, .draws, .out]
  | .chunkGet .. => [.mgmt, .sec, .draws, .out]
  | .spdmUnsupportedRequest .. => [.mgmt, .sec, .draws, .out]
  | .debugTokenWrite .. => [.od, .sec, .draws, .out]
  | .raiseMinSecurityVersion .. => [.sec, .out]
  | .powerCoarseUpdate => [.fnOther]
  | .entropyHealthFailure => [.od, .stored, .counters, .mgmt, .links, .intx, .fnCfg, .int, .capture, .err, .sec,
      .power, .out]
  | .drbgReseed => [.sec]
  | .domainSwitchStart => [.power]
  | .domainSwitchDone => [.od, .stored, .counters, .mgmt, .links, .intx, .fnCfg, .faultq, .int, .capture, .fnOther,
      .ctxs, .cmds, .engines, .entries, .lookups, .peers, .windows, .err, .power, .out]
  | .workDomainsOnWrite .. => [.power, .out]
  | .engineGroupEnableWrite .. => [.od, .stored, .counters, .mgmt, .int, .out]
  | .digestEngineEnableWrite .. => [.od, .stored, .counters, .mgmt, .int, .out]
  | .paldarLaneEnableWrite .. => [.od, .stored, .counters, .mgmt, .int, .out]
  | .clockMeasureWindow .. => [.od, .stored, .counters, .mgmt, .links, .intx, .fnCfg, .int, .capture, .err, .power,
      .out]
  | .powerGoodChange .. => [.od, .stored, .counters, .mgmt, .links, .intx, .fnCfg, .int, .capture, .det, .err,
      .power, .out]
  | .telemetryPoll => [.power, .out]
  | .telemetryReply .. => [.power]
  | .power .. => [.power, .boot, .out]
  | .train .. => [.od, .stored, .counters, .mgmt, .port0, .int, .sec, .boot, .draws, .out]
  | .qualify .. => [.boot, .out]
  | .qualifyEnd .. => [.boot]
  | .loadFirmware .. => [.counters, .requests, .ats, .int, .boot, .out]
  | .firmwareImageComplete => [.counters, .requests, .ats, .int, .sec, .boot, .out]
  | .firmwareChunkWrite .. => [.boot, .out]
  | .broadcast .. => [.boot, .out]
  | .tileDigestAnswer .. => [.boot, .out]
  | .tileAnswerTimeout .. => [.boot, .out]
  | .test .. => [.boot, .out]
  | .publishMap .. => [.boot, .out]
  | .declareReady .. => [.boot, .out]
  | .bringupStepEnd .. => [.memory, .pool, .det, .boot, .draws, .out]
  | .declareReadyComplete => [.fnState, .sec, .boot]
  | .port0Lanes .. => [.boot, .out]
  | .portLanes .. => [.boot, .out]
  | .stackCalibrate .. => [.boot, .out]
  | .calibrateDone .. => [.od, .stored, .counters, .mgmt, .links, .port0, .int, .sec, .boot, .draws, .out]
  | .launchGtcReached .. => [.od, .stored, .counters, .mgmt, .links, .intx, .fnCfg, .int, .capture, .ctxs, .cmds,
      .engines, .lookups, .peers, .windows, .coherence, .err, .power, .out]
  | .flitModeRefused .. => [.counters, .links, .int]
  | .linkRecovery .. => [.links, .boot]
  | .aspmL1Entry .. => [.links, .boot]
  | .port0FallbackTrained .. => [.links, .intx, .port0, .fnCfg, .fnState, .sec, .draws, .out]
  | .errOutMismatchEnd => [.err]
  | .doeDiscovery .. => [.fnCfg, .out]
  | .ptpDelayReq .. => [.out]
  | .ptpSyncTimer => [.sync, .out]
  | .ptpAnnounceTimer => [.out]
  | .tapAccess .. => [.sec, .draws, .out]

/-- A write of an object passes every check of access, right, state and value (03, R96, R97; 12, R387). -/
def accepts (s : State) (rq : Requester) (ref : Ref) (v : Val) : Prop :=
  writeStatus s rq ref (match rowOf ref with
    | some r => valBytesOf r v
    | none => []) = .ok

/-- A message of the management network has been issued, to the link-layer address of its next hop where that is
resolved, or waits for that address (03, R99). -/
def Sent (t : State) (m : Msg) : Prop :=
  m ∈ t.out ∨ (∃ mac, towards mac m ∈ t.out) ∨ ∃ hop, (hop, m) ∈ t.mgmt.unsent

/-- A counter that is not near its end has gone up by one (12, R390). -/
def Counted (s t : State) (index sub : Nat) : Prop :=
  ((assocGet s.counters (index * 256 + sub)).getD 0).toNat < 2 ^ 62 →
    (assocGet t.counters (index * 256 + sub)).getD 0 = (assocGet s.counters (index * 256 + sub)).getD 0 + 1

/-- An entry of the admin queue of `g` has been read and waits for its decision: its opcode is the command's, its
reserved byte 6 and 7 are 0, and the package is ready (04, R124, R125). -/
def EntryTaken (s : State) (g : Fun) (op : Nat) (b : Bytes) : Prop :=
  (getFn s g).admin.taken = some b ∧ entOpcode b = op ∧ isReady s = true ∧ qwordAt b 0 >>> 48 = 0

/-- The entry of `g` has been decided with this status and result: its record is the last of those not yet written
(04, R122, R124). -/
def Decided (s t : State) (g : Fun) (b : Bytes) (st : AStatus) (result : U64) : Prop :=
  (getFn t g).admin = { (getFn s g).admin with
    taken := none
    held := (getFn s g).admin.held ++ [⟨result, st, entTag b⟩] }

/-- What a register or an entry of an admin queue may change: the queue, and what the read of its next entry takes. -/
def adminParts : List StatePart := [.admin, .counters, .requests, .ats, .int, .out]

/-- The admin queue of every function but `g` stays as it was. -/
def OtherAdmin (g : Fun) (s t : State) : Prop := ∀ h : Fun, h ≠ g → (getFn t h).admin = (getFn s h).admin

/-- A command of a context is dispatched, has this opcode and may take a step: its context is READY, its slot window
is open, and neither the package nor a stall holds it (02, R73; 05, R168; 10, R325, R337). -/
def Runs (s : State) (c : CtxId) (q op : Nat) (x : Cmd) (cx : Ctx) : Prop :=
  cmd? s c q = some x ∧ ctx? s c = some cx ∧ x.stage = .dispatched ∧ hdrOpcode x.raw = op ∧ cx.state = .ready ∧
    mayIssue s c = true ∧ packageHeld s = false ∧ fnStalled s cx.fn = false ∧ replayStalled s c = false

/-- A FLUSH or an INVALIDATE is served now: it is not cut into steps, or its step comes next at the memory-side island
(05, R183; 09, R306). -/
def SpanTurn (s : State) (c : CtxId) (q : Nat) (x : Cmd) : Prop :=
  spanWhole x.raw = true ∨ memNext s = some (.cmd c q)

/-- The state in which a FLUSH or an INVALIDATE takes its step: the island has noted that it serves it. -/
def spanServing (s : State) (c : CtxId) (q : Nat) (x : Cmd) : State :=
  if spanWhole x.raw then { s with cmd := { s.cmd with memOwed := s.cmd.memOwed.filter (· != (c, q)) } }
  else serveStep .memorySide (memSteps s) (.cmd c q) s

/-- The state in which a DIGEST_RANGE takes its step: the digest engines have noted that they serve it. -/
def digestServing (s : State) (c : CtxId) (q : Nat) : State :=
  serveStep digestTurn (steppedCmds s isDigest) (.cmd c q) s

/-- A command has ended with this status and keeps its place until its completion (05, R169). -/
def Ended (t : State) (c : CtxId) (q : Nat) (st : CStatus) : Prop := ∃ y, cmd? t c q = some y ∧ y.stage = .ended st

/-- The object has been written: OK has been answered, it holds the value, and every other object holds what it held
(03, R96). -/
def Written (s t : State) (rq : Requester) (ref : Ref) (v : Val) : Prop :=
  .objectStatus rq ref .ok ∈ t.out ∧ objVal t ref.index ref.sub = v ∧
    ∀ k, k ≠ ref.index * 256 + ref.sub → assocGet t.od k = assocGet s.od k

/-- A context is LOST for this reason since this count (04, R130). -/
def LostFor (s t : State) (c : CtxId) (r : LostReason) : Prop :=
  ∃ y, ctx? t c = some y ∧ y.state = .lost ∧ y.lostReason = r ∧ y.lostGtc = s.gtc

/-- The responder answers the message `m` for a row that carries `row`: the connection can be heard and has not lost
its state, and `m` is the row's message over DOE, or over the network the requester's oldest message, which has the row's
code (13, R415). -/
def SpdmTurn (s : State) (c : SpdmConn) (row m : Bytes) : Prop :=
  spdmHeard s c = true ∧ s.sec.dropped.any (sameConn c) = false ∧
    if onNet c then ∃ e, (s.sec.inbox.find? fun e => sameConn e.1 c) = some e ∧ e.2.2 = m ∧ spdmCode m = spdmCode row
    else m = row

/-- A response of this code has been sent on the connection (13, R415). -/
def Responded (t : State) (c : SpdmConn) (code : Nat) : Prop :=
  match c with
  | .doe p => ∃ m, .spdm (.doe p) code m ∈ t.out
  | .net a => ∃ b seq gtc m, b.ip = a.ip ∧ b.port = a.port ∧ spdmCode m = code ∧
      Sent t (hmpResponse none b 0x50 .ok 0 seq gtc m)

/-- A frame of this type, of these words after the sequence numbers and of this payload has been handed to the pair with
a package: it stands among the frames that are not yet acknowledged, or it has been issued on the loopback (08, R266 to
R270). -/
def FrameSent (t : State) (p : PackageId) (type : Nat) (q2 q3 q4 : U64) (b : Bytes) : Prop :=
  if p = t.win.localId then .loopback type q2 q3 q4 b ∈ t.out
  else ∀ ss, session? t p = some ss →
    ∃ f ∈ ss.unacked, f.type = type ∧ f.q2 = q2 ∧ f.q3 = q3 ∧ f.q4 = q4 ∧ f.payload = b

/-- A response of this code has been sent, or it is long, has been announced by an error and waits to be fetched in
chunks (13, R415). -/
def Answered (t : State) (c : SpdmConn) (code : Nat) : Prop :=
  Responded t c code ∨ (Responded t c 0x7F ∧ ∃ y, spdmConn? t c = some y ∧ spdmCode y.chunkOut = code)

/-- An error has been counted at its source (12, R374, R396). -/
def Raised (s t : State) (e : Src) : Prop :=
  e ∉ s.err.wireFaults → (errCount s e).toNat < 2 ^ 30 → errCount t e = errCount s e + 1

/-- The command `c`, run in `s`, leaves a state that has `P`, in which what waited for it then goes on (06, R206;
08, R276; 10, R318). -/
def Wakes (c : Instr) (s : State) (P : State → Prop) : Prop := ∃ u, exec c s = .next (wake u) ∧ P u

/-- The command `c`, run in `s`, answers a next state that has `P`. -/
def Gives (c : Instr) (s : State) (P : State → Prop) : Prop := ∃ t, exec c s = .next t ∧ P t

end Sys2Proof.Machine
end

