-- ==== Sys2Proof/Certificates/Slice0/Obligations.lean ====
section
/-!
DEFINITION. The statements for the provers.
-/

open Sys2Proof Sys2Proof.Machine

/-- The step: the model's queue of waiting commands is first in, first out (the model's own, assumption 1). -/
def Obligations.StepRunsFrontCommand : Prop := ∀ (s : State) (c : Instr) (rest : List Instr), s.pending = c :: rest →
  step s = exec c { s with pending := rest }

/-- The tick of the clock (01, R17, R18). -/
def Obligations.IdleStepTicks : Prop := ∀ s : State, s.pending = [] →
  step s = .next { s with gtc := s.gtc + if s.power.phase = .asleep then 25 else 1 }

/-- The invariant at reset. -/
def Obligations.ResetInv : Prop := Inv State.reset

/-- Reset values that the rules state (10, R325; 11, R363; 07, R240; 12, R396; 15, R462), but for the last clause: that
the pool reads zero before its scrub has run is the model's choice (assumption 5). -/
def Obligations.ResetValues : Prop :=
  let s := State.reset
  s.gtc = 0 ∧ s.sync.state = .freeRun ∧ s.boot.state = .resetDone ∧ s.boot.fw = .absent ∧ s.err.pkg = .normal ∧
    s.err.counts = [] ∧ s.err.capture.heldNow = false ∧ s.counters = [] ∧ s.obj.ctxs = [] ∧ s.obj.objs = [] ∧
    s.cmd.table = [] ∧ s.win.table = [] ∧ s.mgmt.sessions = [] ∧ s.pending = [] ∧
    (∀ f ∈ s.fns, f.faultq.timeout = 1000000000 ∧ f.int.masks = validSources ∧ f.int.delayNs = 8000 ∧
      f.int.latches = 0 ∧ f.capture.heldNow = false) ∧ ∀ a, memGet s.pool.mem a = 0

/-- The invariant of the machine (02, R43, R45; 04, R120; 07, R240, R241; 09; 11, R363). -/
def Obligations.StepKeepsInv : Prop := ∀ s t : State, step s = .next t → Inv s → Inv t

/-- Every command completes, and the record of what has been issued only grows (the record is the model's own,
assumption 2). -/
def Obligations.EveryCommandCompletes : Prop := ∀ (c : Instr) (s : State), ∃ t, exec c s = .next t ∧
  t.variant = s.variant ∧ t.pending = s.pending ∧ s.out <:+ t.out ∧ s.draws ≤ t.draws ∧ (Inv s → Inv t)

/-- Frames, by part of the state. -/
def Obligations.EveryCommandFrame : Prop := ∀ (c : Instr) (s : State), ∃ t, exec c s = .next t ∧
  SameBut (touches c) s t

/-- Reads, writes and the canonical form of the pool's bytes (09; the form is the model's own, assumption 5). -/
def Obligations.PoolBytes : Prop := ∀ m : Mem, Memory.wf m = true →
  (∀ (a : Nat) (b : Bytes), Memory.wf (memWrite m a b) = true ∧
    (∀ i < b.length, memGet (memWrite m a b) (a + i) = b.getD i 0) ∧
    ∀ x, x < a ∨ a + b.length ≤ x → memGet (memWrite m a b) x = memGet m x) ∧
  (∀ a n : Nat, Memory.wf (memZero m a n) = true ∧ (∀ x, a ≤ x → x < a + n → memGet (memZero m a n) x = 0) ∧
    ∀ x, x < a ∨ a + n ≤ x → memGet (memZero m a n) x = memGet m x) ∧
  ∀ n : Mem, Memory.wf n = true → (∀ a, memGet m a = memGet n a) → m = n

/-- Tenants see, and write, nothing of the package, of a port or of another function (03, R84; 13, R398). -/
def Obligations.TenantWrites : Prop := ∀ (s : State) (g : Fun) (ref : Ref) (b : Bytes), fnOf g ≠ 0 →
  writeStatus s (.mbx g) ref b = .ok → ∃ r base, rowOf ref = some r ∧ r.scope = .fn base ∧ ref.index - base = g.val

/-- The fatal state (12, R387). -/
def Obligations.FatalRefusesWrites : Prop := ∀ (s : State) (rq : Requester), s.err.pkg = .fatal →
  let busy (c : Instr) (ref : Ref) : Prop := exec c s = .next (emit (.objectStatus rq ref .busy) s)
  busy (.restoreDefaults rq) ⟨0x1003, 3⟩ ∧ busy (.port0ModeMain rq) ⟨0x2001, 1⟩ ∧
  busy (.port0ModeFallback rq) ⟨0x2001, 1⟩ ∧ (∀ p v, busy (.portEnableWrite rq p v) ⟨0x2010 + p.val, 1⟩) ∧
  (∀ g v, busy (.functionEnableWrite rq g v) ⟨0x2100 + g.val, 1⟩) ∧
  (∀ v, busy (.walkerGroupEnableWrite rq v) ⟨0x3000, 3⟩) ∧
  (∀ g b n, busy (.poolExtentWrite rq g (some b) n) ⟨0x3100 + g.val, 1⟩) ∧
  (∀ g n, busy (.poolExtentWrite rq g none (some n)) ⟨0x3100 + g.val, 2⟩) ∧
  (∀ g r, busy (.windowOpen rq g r) ⟨0x6100 + g.val, 3⟩ ∧ busy (.windowClose rq g r) ⟨0x6100 + g.val, 3⟩ ∧
    busy (.windowModify rq g r) ⟨0x6100 + g.val, 3⟩ ∧ busy (.windowRefresh rq g r) ⟨0x6100 + g.val, 3⟩) ∧
  (∀ p v, busy (.peerEntryWrite rq p v) ⟨0x6200 + p.toNat / 128, p.toNat % 128 + 1⟩) ∧
  (∀ n, busy (.cohEnable rq n) ⟨0x6010 + n.val, 3⟩ ∧ busy (.cohDisable rq n) ⟨0x6010 + n.val, 3⟩) ∧
  (∀ k v, busy (.repairRequest rq k v) ⟨0x5040 + k.val, 3⟩ ∧ busy (.marginRequest rq k v) ⟨0x5060 + k.val, 1⟩) ∧
  busy (.unitRemap rq) ⟨0x7002, 4⟩ ∧ busy (.modeChangeStage rq) ⟨0x7003, 5⟩ ∧
  busy (.blockReset (some rq)) ⟨0x9000, 3⟩ ∧ busy (.errCaptureRelease rq) ⟨0x9001, 0x0B⟩ ∧
  busy (.errOutRelease rq) ⟨0x9000, 6⟩ ∧ (∀ ref, busy (.counterClear rq ref) ref) ∧
  (∀ b, busy (.debugTokenWrite rq b) ⟨0xA000, 10⟩) ∧ (∀ n, busy (.raiseMinSecurityVersion rq n) ⟨0xA000, 6⟩) ∧
  (∀ v, busy (.workDomainsOnWrite rq v) ⟨0xB000, 4⟩) ∧ (∀ v, busy (.engineGroupEnableWrite rq v) ⟨0xB000, 5⟩) ∧
  (∀ v, busy (.digestEngineEnableWrite rq v) ⟨0xB000, 6⟩) ∧ (∀ v, busy (.paldarLaneEnableWrite rq v) ⟨0xB000, 7⟩) ∧
  busy (.sleepRequest rq) ⟨0xB000, 8⟩ ∧
  (∀ c ∈ [Instr.power rq, .train rq, .qualify rq, .loadFirmware rq, .broadcast rq, .test rq, .publishMap rq,
    .declareReady rq], busy c ⟨0xC000, 2⟩) ∧
  (∀ b, busy (.firmwareChunkWrite rq b) ⟨0xC001, 6⟩) ∧
  busy (.port0Lanes rq) ⟨0xC004, 1⟩ ∧ (∀ p, busy (.portLanes rq p) ⟨0xC004, 1⟩) ∧
  ∀ k, busy (.stackCalibrate rq k) ⟨0xC004, 1⟩

/-- Event counters (12, R390, R391). -/
def Obligations.CountersSaturate : Prop := ∀ (s : State) (index sub : Nat), Inv s →
  let n := (assocGet s.counters (index * 256 + sub)).getD 0
  let t := count index sub s
  let g := counterFn index
  (∀ k, k ≠ index * 256 + sub → assocGet t.counters k = assocGet s.counters k) ∧ OtherFns g s t ∧
  (n.toNat + 1 < 2 ^ 63 - 1 → (assocGet t.counters (index * 256 + sub)).getD 0 = n + 1 ∧ t.fns = s.fns) ∧
  (n.toNat + 1 = 2 ^ 63 - 1 → (assocGet t.counters (index * 256 + sub)).getD 0 = BitVec.allOnes 64 ∧
    ∃ e, (getFn t g).int.formed = (getFn s g).int.formed ++ [e] ∧ e.kind = 4 ∧ e.ring = 0 ∧
      e.data0 = w64 (index * 256 + sub) ∧ e.gtc = s.gtc) ∧
  (n = BitVec.allOnes 64 → (assocGet t.counters (index * 256 + sub)).getD 0 = n ∧ t.fns = s.fns)

/-- Pending latches, lost firings, and firings in package sleep (11, R355, R356, R366, R367). -/
def Obligations.SourcesLatch : Prop := ∀ (s : State) (g : Fun) (k : Nat), Inv s → k < 320 →
  let x := (getFn s g).int
  let y := (getFn (fire g k s) g).int
  y.masks = x.masks ∧ y.rings = x.rings ∧
  (s.power.phase = .awake →
    (x.latches.getLsbD k = false → y.loss = x.loss ∧
      ∀ i < 320, y.latches.getLsbD i = (x.latches.getLsbD i || decide (i = k))) ∧
    (x.latches.getLsbD k = true → y.latches = x.latches ∧ y.weir = x.weir ∧
      (((assocGet x.loss k).getD 0).toNat + 1 < 2 ^ 31 - 1 →
        (assocGet y.loss k).getD 0 = (assocGet x.loss k).getD 0 + 1))) ∧
  (s.power.phase ≠ .awake → y.latches = x.latches ∧ y.loss = x.loss ∧ y.weir = x.weir ∧
    (fire g k s).power.slept = s.power.slept ++ [(g, k)])

/-- The bypass of the weir (11, R358). -/
def Obligations.WeirBypass : Prop := ∀ (s : State) (g : Fun),
  (weirBypassed s g = true ↔ (getFn s g).int.delayNs = 0 ∨
    (portOf g = 0 ∧ s.idle.getLsbD (getFn s g).int.targetDie.val = true)) ∧
  (portOf g ≠ 0 → (weirBypassed s g = true ↔ (getFn s g).int.delayNs = 0)) ∧
  ∀ d : Die, (∃ t, exec (.idleHint d true) s = .next t ∧ t.idle.getLsbD d.val = true) ∧
    ∃ t, exec (.idleHint d false) s = .next t ∧ t.idle.getLsbD d.val = false

/-- Signals on a fence (04, R149, R150). -/
def Obligations.FenceSignals : Prop := ∀ (s : State) (g : Fun) (h : U64) (word : Nat) (v : U64) (o : MemObj), Inv s →
  fenceWord s h.toNat word = some o → maySignal o g = true → o.base % 8 = 0 →
  poisoned s (lineOf (fenceAddr o word)) 64 = false →
  let f := fenceValue s o word
  Gives (.fenceSignal g h word v) s (fun t => fenceValue t o word = max f v.toNat ∧
    (∀ a, a < fenceAddr o word ∨ fenceAddr o word + 8 ≤ a → memGet t.pool.mem a = memGet s.pool.mem a) ∧
    (∀ w : U64, Gives (.fenceSignal g h word w) t fun u => fenceValue u o word = max (max f v.toNat) w.toNat) ∧
    (v.toNat < f → Counted s t (0xD100 + g.val) 6 ∧ t.pool = s.pool ∧ t.obj = s.obj) ∧
    (v = BitVec.allOnes 64 → f < v.toNat → ∃ e, (getFn t o.owner).int.formed = (getFn s o.owner).int.formed ++ [e] ∧
      e.ring = o.ring ∧ e.kind = 3 ∧ e.data0 = objHandle o ∧ e.data1 = w64 word)) ∧
  (v.toNat = f → exec (.fenceSignal g h word v) s = .next s)

/-- Abandoned mode changes (10, R344). -/
def Obligations.ModeAbandoned : Prop := ∀ (s : State) (n : Nat), Inv s → s.det.mode = .staging →
  n < clustersOf s.variant → n ∉ s.det.fenced →
  let abandoned (t : State) : Prop := t.det.mode = .abandoned ∧ t.det.abandonUnit = n ∧
    (∀ k ∈ s.det.acked ++ s.det.unacked, .modeDiscard k ∈ t.out) ∧ t.det.epochs = s.det.epochs ∧
    t.det.epoch = s.det.epoch ∧ t.det.modeWord = s.det.modeWord
  (n ∈ s.det.unacked →
    (stageLate s = true → Gives (.modeStageTimeout n) s abandoned ∧ Gives (.modeStageAck n) s abandoned) ∧
    Gives (.modeStageReject n) s abandoned ∧ Gives (.unitFailureReport (.cluster n)) s abandoned) ∧
  (n ∉ s.det.unacked → n ∈ s.det.acked → Gives (.unitFailureReport (.cluster n)) s fun t =>
    t.det.mode = .staging ∧ t.det.acked = s.det.acked ∧ t.det.unacked = s.det.unacked)

/-- Events of the links of ports that a host drives (02, R38, R40, R41, R64 to R66, R78; 15, R445). -/
def Obligations.LinksTrain : Prop := ∀ s : State, Inv s →
  let left (p : Port) (t : State) : Prop := SameBut [.links, .boot] s t ∧ (∀ q, q ≠ p → getPort t q = getPort s q) ∧
    t.boot = { s.boot with lanes := t.boot.lanes } ∧
    (s.boot.result = .running → s.boot.command = .qualify → ∀ l ∈ t.boot.lanes, l.port = p.val → l.result = 3)
  (∀ p : Port, portPresent s p = true → (getPort s p).perst = true →
    Gives (.perstDeassert p) s fun t => (getPort t p).perst = false ∧ (getPort t p).wake = false ∧
      (getPort t p).turnOff = .none ∧ (getPort t p).switchedOff = false ∧
      (mayTrain t p = true → (getPort t p).link = .training ∧ Msg.portTraining p ∈ t.out)) ∧
  (∀ (p : Port) (width speed : Nat), p ≠ 0 → mayTrain s p = true → portCarries s p = false →
    s.power.on.getLsbD p.val = true → (width = 4 ∨ width = 8 ∨ width = 16) → width ≤ lanesSelected s p →
    speed ≤ objNum s (0x2010 + p.val) 3 →
    Gives (.portLinkUp p width speed) s fun t => (getPort t p).link = .l0 ∧ (getPort t p).width = width ∧
      (getPort t p).speed = speed ∧ (getPort t p).turnOff = .none ∧ (getPort t p).wakeOwners = []) ∧
  (∀ p : Port, (getPort s p).link = .l1 ∨ (getPort s p).link = .l2 ∨ (getPort s p).link = .recovery →
    Gives (.linkL0Return p) s fun t => (getPort t p).link = .l0 ∧ (getPort t p).wakeOwners = [] ∧
      (getPort t p).width = (getPort s p).width) ∧
  (∀ (p : Port) (width : Nat), p ≠ 0 → portCarries s p = true →
    Gives (.linkRecovery p width) s fun t => left p t ∧ getPort t p = { getPort s p with
      link := .recovery
      width := if (width = 4 ∨ width = 8 ∨ width = 16) ∧ width ≤ (getPort s p).width then width
        else (getPort s p).width }) ∧
  (∀ p : Port, p ≠ 0 → (getPort s p).link = .l0 →
    Gives (.aspmL1Entry p) s fun t => left p t ∧ getPort t p = { getPort s p with link := .l1 }) ∧
  (∀ p : Port, portCarries s p = true → (getPort s p).turnOff = .none →
    exec (.pmeTurnOff p) s = .next (modPort p (fun x => { x with turnOff := .requested }) s)) ∧
  (∀ p : Port, (getPort s p).turnOff = .requested → (fnsOf p).all (noRequest s) = true →
    Gives (.pmeToAck p) s fun t => getPort t p = { getPort s p with turnOff := .acked, link := .l2 } ∧
      t.out = .pmeToAck p :: s.out ∧ ∀ q, q ≠ p → getPort t q = getPort s q) ∧
  (∀ p : Port, p ≠ 0 → mayTrain s p = true → portCarries s p = false →
    Gives (.flitModeRefused p) s fun t => getPort t p = { getPort s p with link := .down } ∧
      Counted s t (0xD010 + p.val) 2 ∧ ∀ q, q ≠ p → getPort t q = getPort s q)

/-- What a port that falls leaves (02, R34, R67 to R70, R77; 12, R381). That PortEnable 0 leaves the state DISABLED is
the model's choice (assumption 57), and that a malformed packet takes port 0 down as another port is its reading
(assumption 13). -/
def Obligations.PortsFall : Prop := ∀ s : State, Inv s →
  (∀ p : Port, portPresent s p = true → (getPort s p).perst = false →
    Gives (.perstAssert p) s fun t => (getPort t p).perst = true ∧ (getPort t p).link = .down ∧
      (getPort t p).width = 0 ∧ (p = 0 → t.port0.awaiting = true ∧ t.port0.mode = 0) ∧
      ∀ g : Fun, portOf g = p → (getFn s g).state ≠ .absent →
        (getFn t g).state = .aborting ∧
          (getFn t g).abort = some (if s.boot.resetting then .perstInReset else .perst)) ∧
  (∀ p : Port, p ≠ 0 → (getPort s p).link ≠ .down → (getPort s p).link ≠ .disabled →
    (getPort s p).turnOff ≠ .acked →
    Gives (.surpriseRemoval p) s fun t => (getPort t p).link = .down ∧ (getPort t p).width = 0 ∧
      ∀ g : Fun, portOf g = p → (getFn s g).state ≠ .absent →
        (getFn t g).state = .aborting ∧ (getFn t g).abort = some .surpriseRemoval) ∧
  (∀ (p : Port) (k : TlpFault), portCarries s p = true →
    Gives (.malformedTlp p k) s fun t => (getPort t p).link = .down ∧ (getPort t p).width = 0 ∧
      ∀ g : Fun, portOf g = p → (getFn s g).state ≠ .absent → (getFn t g).state = .aborting) ∧
  (∀ p : Port, portCarries s p = true →
    Gives (.hotReset p) s fun t => (getPort t p).link = (getPort s p).link ∧
      ∀ g : Fun, portOf g = p → fnOf g ≠ 0 → (getFn s g).state ≠ .absent → (getFn s g).abort = none →
        (getFn t g).state = .aborting ∧ (getFn t g).abort = some .hotReset) ∧
  (∀ (rq : Requester) (p : Port), accepts s rq ⟨0x2010 + p.val, 1⟩ (.num 0) →
    objNum s (0x2010 + p.val) 1 ≠ 0 →
    Gives (.portEnableWrite rq p false) s fun t => (getPort t p).link = .disabled ∧ (getPort t p).width = 0 ∧
      ∀ g : Fun, portOf g = p → (getFn s g).state ≠ .absent → (getFn t g).state = .aborting) ∧
  (∀ (rq : Requester) (p : Port), accepts s rq ⟨0x2010 + p.val, 1⟩ (.num 1) →
    objNum s (0x2010 + p.val) 1 = 0 →
    Gives (.portEnableWrite rq p true) s fun t =>
      (getPort t p).link = (if mayTrain t p then .training else .down) ∧ (getPort t p).width = 0) ∧
  (s.port0.mode = 0 → portCarries s 0 = true →
    Gives .port0LinkDown s fun t => t.port0.mode = 2 ∧ t.port0.training = false ∧ (getPort t 0).link = .down ∧
      (getPort t 0).width = 0)

/-- Abort, reset and enable of one function (02, R67 to R72, R77). -/
def Obligations.FunctionsAbort : Prop := ∀ s : State, Inv s →
  (∀ g : Fun, fnOf g ≠ 0 → cfgOpen s g = true →
    Gives (.functionLevelReset g) s fun t => (getFn t g).state = .aborting ∧ (getFn t g).abort = some .flr ∧
      ∀ k : Fun, k ≠ g → (getFn t k).state = (getFn s k).state ∧ (getFn t k).abort = (getFn s k).abort) ∧
  (∀ (g : Fun) (ev : AbortEvent), (getFn s g).abort = some ev → abortOver s g = true →
    Gives (.functionResetComplete g) s fun t =>
      (getFn t g).cfg = defaultCfg s g ∧ (getFn t g).state = stateAfter s g ev ∧ (getFn t g).abort = none ∧
      (getFn t g).resetGtc = s.gtc ∧ (getFn t g).mbx = MbxSt.init ∧ (getFn t g).admin = AdminQ.init ∧
      (getFn t g).faultq = FaultQ.init ∧ (getFn t g).int = IntSt.init ∧ OtherFns g s t) ∧
  (∀ (rq : Requester) (g : Fun), accepts s rq ⟨0x2100 + g.val, 1⟩ (.num 0) → fnEnabled s g = true →
    (getFn s g).state ≠ .absent →
    Gives (.functionEnableWrite rq g false) s fun t => (getFn t g).state = .aborting ∧
      (getFn t g).abort = some .functionDisable ∧ ∀ k : Fun, k ≠ g → (getFn t k).state = (getFn s k).state) ∧
  (∀ (rq : Requester) (g : Fun), accepts s rq ⟨0x2100 + g.val, 1⟩ (.num 1) → fnEnabled s g = false →
    (getFn s g).abort = none → portPresent s (portOf g) = true → portCarries s (portOf g) = true →
    isReady s = true →
    Gives (.functionEnableWrite rq g true) s fun t => (getFn t g).state = .active ∧ fnEnabled t g = true ∧
      (getFn t g).cfg.command = 0 ∧ ∀ k : Fun, k ≠ g → (getFn t k).state = (getFn s k).state)

/-- Command, PowerState and the ATS and PASID enables of one function (02, R43, R45, R46, R73, R74). -/
def Obligations.StallsAndPower : Prop := ∀ (s : State) (g : Fun), Inv s →
  (cfgOpen s g = true →
    Gives (.busMasterEnableClear g) s (fun t =>
      (getFn t g).cfg = { (getFn s g).cfg with command := (getFn s g).cfg.command &&& 0xFFFB } ∧
      ((getFn s g).state = .active → fnStalled s g = false → (getFn t g).state = .stalling) ∧
      (fnStalled s g = true → (getFn t g).state = (getFn s g).state) ∧
      ∀ k : Fun, k ≠ g → (getFn t k).cfg = (getFn s k).cfg ∧ (getFn t k).state = (getFn s k).state) ∧
    Gives (.busMasterEnableSet g) s (fun t =>
      (getFn t g).cfg = { (getFn s g).cfg with command := (getFn s g).cfg.command ||| 4 } ∧
      ((getFn s g).state = .stalled → (getFn s g).cfg.d3hot = false → (getFn t g).state = .active) ∧
      ∀ k : Fun, k ≠ g → (getFn t k).cfg = (getFn s k).cfg ∧ (getFn t k).state = (getFn s k).state) ∧
    (∀ v : Bool, Gives (.interruptDisableWrite g v) s fun t =>
      (getFn t g).cfg.command.getLsbD 10 = v ∧
      (getFn t g).cfg.command &&& 0xFBFF = (getFn s g).cfg.command &&& 0xFBFF ∧
      ∀ k : Fun, k ≠ g → (getFn t k).cfg = (getFn s k).cfg) ∧
    ((getFn s g).cfg.d3hot = false → Gives (.powerStateD3hot g) s fun t =>
      (getFn t g).cfg = { (getFn s g).cfg with d3hot := true } ∧
      ((getFn s g).state = .active → (getFn t g).state = .stalling) ∧
      ∀ k : Fun, k ≠ g → (getFn t k).cfg = (getFn s k).cfg) ∧
    ((getFn s g).cfg.d3hot = true → Gives (.powerStateD0 g) s fun t =>
      (getFn t g).cfg = { (getFn s g).cfg with d3hot := false } ∧
      ((getFn s g).state = .stalled → (getFn s g).cfg.command.getLsbD 2 = true → (getFn t g).state = .active) ∧
      ∀ k : Fun, k ≠ g → (getFn t k).cfg = (getFn s k).cfg) ∧
    Gives (.atsPasidDisable g false) s (fun t =>
      (getFn t g).cfg = { (getFn s g).cfg with atsEnable := false } ∧ OtherFns g s t ∧
      (getPort t (portOf g)).ats = (getPort s (portOf g)).ats.filter fun e => e.fn != g) ∧
    Gives (.atsPasidDisable g true) s (fun t =>
      (getFn t g).cfg = { (getFn s g).cfg with pasidEnable := false } ∧ OtherFns g s t ∧
      (getPort t (portOf g)).ats = (getPort s (portOf g)).ats.filter fun e => e.fn != g)) ∧
  ((getFn s g).state = .stalling → upstreamQuiet s g = true →
    exec (.stallQuiet g) s = .next (modFn g (fun x => { x with state := .stalled, stallGtc := s.gtc }) s))

/-- Port 0's modes (02, R33 to R35; 13, R402, R406). What the failure counts are after a training or a change of mode,
and PORT0_TRAINING_DONE without a training, are the model's choices (assumption 59). -/
def Obligations.Port0Modes : Prop := ∀ s : State, Inv s →
  (∀ rq : Requester, accepts s rq ⟨0x2001, 1⟩ (.num 1) → s.port0.training = false →
    Gives (.port0ModeMain rq) s fun t => t.port0.training = true ∧ t.port0.mode = s.port0.mode ∧
      t.port0.groups = s.port0.groups ∧ t.port0.fails = s.port0.fails) ∧
  (∀ rq : Requester, accepts s rq ⟨0x2001, 1⟩ (.num 0) →
    Gives (.port0ModeFallback rq) s fun t => t.port0.training = false ∧
      (s.port0.mode = 1 → t.port0.mode = 0 ∧ t.port0.awaiting = true ∧ t.port0.fails = List.replicate 8 0) ∧
      (s.port0.mode ≠ 1 → t.port0.mode = s.port0.mode)) ∧
  (∀ nd : Bytes, s.port0.training = true → s.port0.nonceOut = true →
    Gives (.port0TrainingDone ⟨0xFF, nd⟩) s fun t => t.port0.mode = 1 ∧ t.port0.training = false ∧
      t.port0.groups = 0xFF ∧ t.port0.fails = List.replicate 8 0 ∧
      t.sec.laneKeys = laneKeys (secretUsed s.sec 2) s.port0.nonce nd) ∧
  (∀ (m : U8) (nd : Bytes), m ≠ 0xFF → s.port0.training = true → s.port0.nonceOut = true → s.port0.mode ≠ 1 →
    s.port0.fromWake = false → Gives (.port0TrainingDone ⟨m, nd⟩) s fun t =>
      t.port0 = { s.port0 with training := false, nonceOut := false, groups := m, fails := List.replicate 8 0 } ∧
      SameBut [.port0, .sec] s t) ∧
  (∀ (m : U8) (nd : Bytes), m ≠ 0xFF → s.port0.training = true → s.port0.nonceOut = true → s.port0.mode = 1 →
    Gives (.port0TrainingDone ⟨m, nd⟩) s fun t => t.port0.mode = 0 ∧ t.port0.training = false ∧ t.port0.groups = m) ∧
  (∀ (m : U8) (nd : Bytes), s.port0.training = false → s.port0.mode = 1 →
    Gives (.port0TrainingDone ⟨m, nd⟩) s fun t => t.port0.mode = 1 ∧ t.port0.fails.length = s.port0.fails.length ∧
      (∀ k < s.port0.fails.length, t.port0.fails[k]? = some (if m.getLsbD k then 0 else s.port0.fails.getD k 0)) ∧
      SameBut [.port0] s t) ∧
  (∀ k : Fin 8, s.port0.mode = 1 →
    (s.port0.fails.getD k.val 0 + 1 < objNum s 0x2001 4 →
      exec (.port0GroupRetrainFailed k) s = .next { s with port0 := { s.port0 with
        fails := s.port0.fails.set k.val (s.port0.fails.getD k.val 0 + 1) } }) ∧
    (objNum s 0x2001 4 ≤ s.port0.fails.getD k.val 0 + 1 →
      Gives (.port0GroupRetrainFailed k) s fun t => t.port0.mode = 0 ∧ t.port0.training = false ∧
        t.port0.fails = List.replicate 8 0)) ∧
  (∀ nonce : Bytes, s.port0.awaiting = true → s.port0.fromWake = false → (getPort s 0).perst = false →
    s.port0.nonceOut = true →
    Gives (.port0FallbackTrained nonce) s fun t => t.port0.mode = 0 ∧ t.port0.awaiting = false ∧
      (getPort t 0).link = .l0 ∧ ((getPort s 0).link ≠ .l0 → (getPort t 0).turnOff = .none) ∧
      t.sec.laneKeys = laneKeys (secretUsed s.sec 2) s.port0.nonce nonce)

/-- Completions, timeouts, quarantine, register writes and DOE discovery (02, R43, R48, R58 to R63, R465). The bytes of the
DOE answer are the model's choice (assumption 9). -/
def Obligations.HostReadsAndRegisters : Prop := ∀ s : State, Inv s →
  let freed (p : Port) (tag : ReqTag) (t : State) : Prop :=
    ((getPort s p).waits = [] → tag? t p tag = none) ∧
    (∀ v, tag? t p tag = some v → v.quarantined = false ∧ v.since = s.gtc ∧ v.pieces = []) ∧
    ∀ q w, q ≠ tag → tag? s p q = some w → tag? t p q = some w
  (∀ (p : Port) (tag : ReqTag) (u : TagUse) (off : Nat) (b : Bytes), tag? s p tag = some u →
    u.quarantined = false → (∀ pasid a, u.use ≠ .ats pasid a) →
    covered (u.pieces ++ [(off, b)]) ((u.pieces ++ [(off, b)]).length + 1) 0 u.bytes = false →
    exec (.completionReceived p tag .success false off b) s = .next (modPort p (fun x => { x with
      tags := x.tags.map fun v => if v.tag == tag then { v with pieces := u.pieces ++ [(off, b)] } else v }) s)) ∧
  (∀ (p : Port) (tag : ReqTag) (u : TagUse) (st : CplStatus) (poisoned : Bool) (off : Nat) (b : Bytes),
    tag? s p tag = some u → u.quarantined = true →
    Gives (.completionReceived p tag st poisoned off b) s fun t => freed p tag t ∧ Counted s t (0xD010 + p.val) 1) ∧
  (∀ (p : Port) (tag : ReqTag) (u : TagUse) (g : Fun) (off : Nat) (b : Bytes), tag? s p tag = some u →
    u.quarantined = false → u.use = .admin g true → adminOpen s g = true →
    covered (u.pieces ++ [(off, b)]) ((u.pieces ++ [(off, b)]).length + 1) 0 u.bytes = true →
    Gives (.completionReceived p tag .success false off b) s fun t => freed p tag t ∧
      (getFn t g).admin = { (getFn s g).admin with
        taken := some (padTo 64 (gather (u.pieces ++ [(off, b)]) 0 u.bytes)), sqHead := (getFn s g).admin.sqHead + 1 }) ∧
  (∀ (p : Port) (tag : ReqTag) (u : TagUse), tag? s p tag = some u → u.quarantined = true →
    tagExpired s u = true → Gives (.quarantineExpiry p tag) s (freed p tag)) ∧
  (∀ (p : Port) (tag : ReqTag) (u : TagUse), tag? s p tag = some u → u.quarantined = false →
    tagExpired s u = true → (∀ pasid a, u.use ≠ .ats pasid a) →
    Gives (.completionTimeout p tag) s fun t =>
      (getFn t u.fn).cfg.aerUnc.getLsbD 14 = true ∧
      (∃ v, tag? t p tag = some v ∧ v.quarantined = true ∧ v.since = s.gtc) ∧
      ∀ (c : CtxId) (q : Nat) (cx : Ctx), u.use = .tile c q ∨ u.use = .span c q ∨ u.use = .stale c → ctx? s c = some cx →
        cx.state = .ready → LostFor s t c .hostCompletionError) ∧
  (∀ (g : Fun) (v : U64), cfgOpen s g = true →
    Gives (.registerWrite g .config 0x3C 1 v false) s fun t =>
      (getFn t g).cfg = { (getFn s g).cfg with intLine := BitVec.ofNat 8 v.toNat } ∧ OtherFns g s t) ∧
  (∀ (g : Fun) (v : U64), barOpen s g = true → (getFn s g).admin.sqEnable = false →
    Gives (.registerWrite g .bar0 0x1000 8 v false) s fun t =>
      (getFn t g).admin = { (getFn s g).admin with sqBase := w64 (v.toNat / 4096 * 4096) } ∧
      (getFn t g).cfg = (getFn s g).cfg ∧ OtherFns g s t) ∧
  (∀ (p : Port), cfgOpen s (fn0 p) = true →
    exec (.doeDiscovery p 0) s = .next (emit (.doe p [1, 0, 0, 1]) s) ∧
    exec (.doeDiscovery p 1) s = .next (emit (.doe p [1, 0, 1, 0]) s))

/-- Sessions of the management network (03, R101, R103 to R107; 13, R404). That a session's key is derived at
OPEN_SESSION, under the secret that the slot holds then, is the model's choice (assumption 22). -/
def Obligations.ManagementSessions : Prop := ∀ s : State,
  (∀ (src : NetAddr) (seq : U32) (b : Bytes), hmpIn s src 0 b.length = true → b.length = 36 → numAt b 0 1 < 8 → slotLocked s (numAt b 0 1) = false →
    slotRole s (numAt b 0 1) ≠ .none → objBytes s (0x1110 + numAt b 0 1) 2 ≠ [] → s.mgmt.sessions.length < 16 →
    s.sec.entropyFailed = false →
    let nd := (List.range 32).map (Config.drbgByte s.draws)
    Gives (.hmpOpenSession src seq b) s fun t => s.draws < t.draws ∧
      t.mgmt.sessions = s.mgmt.sessions ++
        [⟨s.mgmt.nextSid, false, Fin.ofNat 8 (numAt b 0 1), b.drop 4, nd,
          hmpSessionKey (objBytes s (0x1110 + numAt b 0 1) 2) (b.drop 4) nd (numAt b 0 1), s.gtc, none, [], none⟩] ∧
      Sent t (hmpResponse none src 1 .ok 0 seq s.gtc (nd ++ leBytes 4 s.mgmt.nextSid.toNat))) ∧
  (∀ (src : NetAddr) (seq : U32) (b : Bytes) (x : Session), hmpIn s src 0 b.length = true → b.length = 52 →
    (s.mgmt.sessions.find? fun y => y.sid == BitVec.ofNat 32 (numAt b 0 4) && !y.opened) = some x →
    (s.gtc - x.since).toNat ≤ 12500000000 → slotLocked s x.slot.val = false →
    b.drop 4 = hmac (objBytes s (0x1110 + x.slot.val) 2)
      (asciiBytes "HMP-PROVE" ++ x.nc ++ x.nd ++ leBytes 1 x.slot.val) →
    (s.sec.entropyFailed = true → exec (.hmpProve src seq b) s = .next s) ∧
    (s.sec.entropyFailed = false → Gives (.hmpProve src seq b) s fun t =>
      t.mgmt.sessions = s.mgmt.sessions.map (fun e =>
        if e.sid == BitVec.ofNat 32 (numAt b 0 4) then { e with opened := true, since := s.gtc } else e) ∧
      Sent t (hmpResponse none src 2 .ok 0 seq s.gtc (hmac (objBytes s (0x1110 + x.slot.val) 2)
        (asciiBytes "HMP-DEVICE" ++ x.nd ++ x.nc ++ leBytes 1 x.slot.val))))) ∧
  (∀ (h : HmpHdr) (x : Session), hmpIn s h.src h.sid 0 = true → session33 s h.sid = some x →
    x.high.all (fun n => n.toNat < h.seq.toNat) = true →
    Gives (.hmpCloseSession h) s fun t => (∀ y ∈ t.mgmt.sessions, y.sid ≠ h.sid) ∧
      Sent t (hmpResponse (some x.key) h.src 3 .ok h.sid h.seq s.gtc [])) ∧
  (∀ (src : NetAddr) (b : Bytes), netIn s src (48 + b.length) = true → src.toPort = s.mgmt.udpPort →
    (hmpBad b = true → Gives (.hmpFrameDropped ⟨src, b⟩) s fun t =>
      Counted s t 0xD000 3 ∧ t.mgmt = s.mgmt ∧ t.out = s.out) ∧
    (hmpBad b = false → hmpTagFails s b = true → Gives (.hmpFrameDropped ⟨src, b⟩) s fun t =>
      Counted s t 0xD000 2 ∧ t.mgmt = s.mgmt ∧ t.out = s.out)) ∧
  (∀ sid : U32,
    Gives (.pendingSessionExpiry sid) s (fun t => (∀ y, y ∈ t.mgmt.sessions ↔ y ∈ s.mgmt.sessions ∧
      ¬(y.sid = sid ∧ y.opened = false ∧ 12500000000 < (s.gtc - y.since).toNat)) ∧ SameBut [.mgmt] s t) ∧
    Gives (.sessionIdleExpiry sid) s (fun t => (∀ y, y ∈ t.mgmt.sessions ↔ y ∈ s.mgmt.sessions ∧
      ¬(y.sid = sid ∧ y.opened = true ∧ nsCounts (objNum s 0x1100 6) ≤ (s.gtc - y.since).toNat)) ∧
      SameBut [.mgmt] s t)) ∧
  (∀ k : Slot, Gives (.slotLockExpiry k) s fun t => (∀ l, l ∈ t.mgmt.locks ↔ l ∈ s.mgmt.locks ∧
    ¬(l.1 = k ∧ 375000000000 ≤ (s.gtc - l.2).toNat)) ∧ SameBut [.mgmt] s t)

/-- Requests over the management network (03, R102, R108, R109; 13, R407). -/
def Obligations.ManagementRequests : Prop := ∀ s : State,
  (∀ (h : HmpHdr) (x : Session) (b : Bytes) (a : Access), hmpIn s h.src h.sid b.length = true → session33 s h.sid = some x →
    x.high.all (fun n => n.toNat < h.seq.toNat) = true →
    let ready (opcode : Nat) (t : State) : Prop :=
      t.mgmt.queue = s.mgmt.queue ++
        [⟨h.src, h.sid, h.seq, opcode, x.slot, slotRole s x.slot.val, x.key, h.cal, a⟩] ∧
      (∀ y ∈ t.mgmt.sessions, y.sid = h.sid → y.since = s.gtc ∧ y.high = some h.seq) ∧ SameBut [.mgmt] s t
    (parseRead b = some a → Gives (.hmpRead h b) s (ready 0x10)) ∧
    (parseWrite b = some a → Gives (.hmpWrite h b) s (ready 0x11)) ∧
    (parseReadSegment b = some a → Gives (.hmpReadSegment h b) s (ready 0x12)) ∧
    (parseWriteSegment b = some a → Gives (.hmpWriteSegment h b) s (ready 0x13)) ∧
    (parseList b = some a → Gives (.hmpList h b) s (ready 0x20))) ∧
  (∀ (h : HmpHdr) (n : U16), hmpIn s h.src h.sid 0 = true → h.sid = 0 → n.toNat ∉ [1, 2, 3, 0x10, 0x11, 0x12, 0x13, 0x20, 0x50] →
    Gives (.hmpBadOpcode h n) s fun t =>
      Sent t (hmpResponse none h.src n.toNat .badOpcode 0 h.seq s.gtc []) ∧
      t.mgmt.sessions = s.mgmt.sessions ∧ SameBut [.mgmt, .out] s t) ∧
  (∀ (h : HmpHdr) (b : Bytes), hmpIn s h.src h.sid b.length = false → exec (.hmpRead h b) s = .next s ∧
    exec (.hmpWrite h b) s = .next s ∧ exec (.hmpReadSegment h b) s = .next s ∧
    exec (.hmpWriteSegment h b) s = .next s ∧ exec (.hmpList h b) s = .next s) ∧
  (∀ (src : NetAddr) (seq : U32) (m : Bytes), hmpIn s src 0 m.length = true → exec (.spdmMessage src seq m) s = .next { s with
    sec := { s.sec with inbox := s.sec.inbox ++ [(.net src, seq, m)] } })

/-- The mailbox of a function (03, R111 to R113). -/
def Obligations.MailboxRequests : Prop := ∀ (s : State) (g : Fun), Inv s → cfgOpen s g = true →
  (getFn s g).mbx.busy = false →
  let m := (getFn s g).mbx
  let starts (k : Nat) (a : Access) (t : State) : Prop :=
    getFn t g = { getFn s g with mbx := { m with busy := true, done := false, ctlOp := k, op := some a } } ∧ OtherFns g s t ∧
      SameBut [.mbx] s t
  Gives (.mbxRead g) s (starts 0 (.read [mbxRef m])) ∧
  Gives (.mbxWrite g) s (starts 1 (.write [⟨mbxRef m, m.data.take (mbxLen m)⟩])) ∧
  Gives (.mbxReadSegment g) s (starts 2 (.readSegment (mbxRef m) m.offset.toNat (mbxLen m))) ∧
  Gives (.mbxWriteSegment g) s
    (starts 3 (.writeSegment (mbxRef m) false m.offset.toNat (m.data.take (mbxLen m)))) ∧
  Gives (.mbxWriteSegmentFinal g) s
    (starts 4 (.writeSegment (mbxRef m) true m.offset.toNat (m.data.take (mbxLen m)))) ∧
  ∀ op : Nat, 5 ≤ op → op ≤ 15 → Gives (.mbxBadOp g op) s fun t =>
    getFn t g = { getFn s g with mbx := { m with done := true, ctlOp := op, status := .badOp, typeCode := 0, rdLength := 0 } } ∧
      OtherFns g s t

/-- The dictionary engine and the stored set (03, R88, R89, R93, R95, R97, R107). -/
def Obligations.DictionaryService : Prop := ∀ s : State, Inv s →
  (∀ (flashFails : Bool) (q : NetAccess) (rest : List NetAccess) (refs : List Ref), s.power.phase ≠ .asleep →
    s.mgmt.turn = 0 → s.mgmt.queue = q :: rest → q.access = .read refs →
    Gives (.dictionaryEngineTurn flashFails) s fun t => t.mgmt.turn = 1 ∧ t.mgmt.queue = rest ∧
      SameBut [.mgmt, .out] s t) ∧
  (∀ (flashFails : Bool) (q : NetAccess) (rest : List NetAccess) (l : List WEntry), s.power.phase ≠ .asleep →
    s.mgmt.turn = 0 → s.mgmt.queue = q :: rest → q.access = .write l →
    let u : State := { s with mgmt := { s.mgmt with turn := 1, queue := rest } }
    let st := l.zipIdx.map fun e => entryStatus u (.net q.role q.cal) l e.2 e.1
    let answers (st : List EStatus) (t : State) : Prop := Sent t (hmpResponse (some q.key) q.src q.opcode .ok q.sid q.seq
      s.gtc (leBytes 2 l.length ++ [0, 0] ++ (l.zip st).flatMap fun e => refBytes e.1.ref (eStatusCode e.2)))
    ((∃ x ∈ st, x ≠ .ok) → Gives (.dictionaryEngineTurn flashFails) s fun t => t.mgmt.turn = 1 ∧
      t.mgmt.queue = rest ∧ answers (st.map fun x => if x = .ok then .notApplied else x) t ∧
      SameBut [.mgmt, .out] s t) ∧
    ((∀ x ∈ st, x = .ok) → (flashFails = true → ∀ e ∈ l, isStored e.ref = false) →
      Gives (.dictionaryEngineTurn flashFails) s fun t => answers st t ∧
        SameBut [.mgmt, .out] (foldState (fun e v => match rowOf e.ref with
          | some r => applyWrite e.ref (sentVal r e.data) v
          | none => v) l u) t)) ∧
  (∀ (flashFails : Bool) (g : Fun) (refs : List Ref), s.power.phase ≠ .asleep → s.mgmt.turn = g.val + 1 →
    (getFn s g).mbx.op = some (.read refs) →
    Gives (.dictionaryEngineTurn flashFails) s fun t => t.mgmt = { s.mgmt with turn := (g.val + 2) % 33 } ∧
      (getFn t g).mbx.busy = false ∧ (getFn t g).mbx.done = true ∧ (getFn t g).mbx.op = none ∧ OtherFns g s t ∧
      SameBut [.mgmt, .mbx] s t) ∧
  (∀ rq : Requester, accepts s rq ⟨0x1003, 3⟩ (.num 1) → s.mgmt.restoring = false →
    Gives (.restoreDefaults rq) s fun t => t.mgmt = { s.mgmt with restoring := true } ∧
      t.out = .objectStatus rq ⟨0x1003, 3⟩ .ok :: s.out ∧ t.stored = s.stored) ∧
  (s.mgmt.restoring = true → Gives .restoreDefaultsEnd s fun t => t.mgmt.restoring = false ∧ t.od = s.od ∧
    ∀ e, e ∈ t.stored ↔ e ∈ s.stored ∧ keptRecord e.1 = true) ∧
  Gives .journalCompactionStep s (fun t => t.mgmt.bytesFree + t.mgmt.dead = s.mgmt.bytesFree + s.mgmt.dead ∧
    t.mgmt.dead ≤ s.mgmt.dead ∧ t.stored = s.stored ∧ t.od = s.od)

/-- The management network (03, R98, R99). -/
def Obligations.ManagementNetwork : Prop := ∀ s : State,
  (∀ up : Bool, exec (.mgmtLinkChange up) s = .next { s with mgmt := { s.mgmt with linkUp := up } }) ∧
  (∀ (src : NetAddr) (target : Bytes), netIn s src 72 = true → isOwn s target = true →
    exec (.neighborSolicitation src target) s = .next (emit (.neighborAdvertisement src target) s)) ∧
  (∀ (src : NetAddr) (a : Bytes) (mac : U64), netIn s src 72 = true →
    Gives (.neighborAdvertisement src ⟨a, mac⟩) s fun t =>
      (a, mac) ∈ t.mgmt.neighbours ∧ (∀ e ∈ t.mgmt.unsent, e.1 ≠ a) ∧
      (∀ m, (a, m) ∈ s.mgmt.unsent → towards mac m ∈ t.out) ∧ SameBut [.mgmt, .out] s t) ∧
  (∀ (src : NetAddr) (payload : Bytes), netIn s src (48 + payload.length) = true →
    Gives (.echoRequest src payload) s (fun t => Sent t (.echoReply src payload) ∧ SameBut [.mgmt, .out] s t) ∧
    ∀ hop mac, nextHop s src.ip = some hop → (s.mgmt.neighbours.find? fun e => e.1 == hop) = some (hop, mac) →
      exec (.echoRequest src payload) s = .next (emit (.echoReply { src with mac := mac } payload) s)) ∧
  (∀ src : NetAddr, src.extended = true → (∀ target, exec (.neighborSolicitation src target) s = .next s) ∧
    (∀ a mac, exec (.neighborAdvertisement src ⟨a, mac⟩) s = .next s) ∧
    ∀ payload, exec (.echoRequest src payload) s = .next s) ∧
  ∀ (src : NetAddr) (payload : Bytes), 1500 < 48 + payload.length → exec (.echoRequest src payload) s = .next s

/-- The admin queue of a function (04, R120 to R126). -/
def Obligations.AdminQueueRegisters : Prop := ∀ (s : State) (g : Fun), Inv s →
  let a := (getFn s g).admin
  (barOpen s g = true → ∀ v : U64,
    let fresh (t : State) : Prop :=
      (getFn t g).admin.sqHead = 0 ∧ (getFn t g).admin.sqTail = 0 ∧ (getFn t g).admin.cqHead = 0 ∧
      (getFn t g).admin.cqTail = 0 ∧ (getFn t g).admin.cleared = false ∧
      (getFn t g).admin.error = (if ringLogOk (getFn t g).admin.sqLog2 && ringLogOk (getFn t g).admin.cqLog2
        then QError.none else .badGeometry)
    Gives (.adminSqControlWrite g v) s (fun t => (getFn t g).admin.sqEnable = v.getLsbD 31 ∧
      (getFn t g).admin.sqLog2 = (if a.sqEnable then a.sqLog2 else v.toNat % 16) ∧
      (v.getLsbD 31 = false → a.cqEnable = false → (getFn t g).admin.held = [] ∧ (getFn t g).admin.cleared = true) ∧
      (v.getLsbD 31 = true → a.sqEnable = false → a.cqEnable = true → a.cleared = true → fresh t) ∧
      OtherAdmin g s t ∧ SameBut adminParts s t) ∧
    Gives (.adminCqControlWrite g v) s (fun t => (getFn t g).admin.cqEnable = v.getLsbD 31 ∧
      (getFn t g).admin.cqLog2 = (if a.cqEnable then a.cqLog2 else v.toNat % 16) ∧
      (v.getLsbD 31 = false → a.sqEnable = false → (getFn t g).admin.held = [] ∧ (getFn t g).admin.cleared = true) ∧
      (v.getLsbD 31 = true → a.cqEnable = false → a.sqEnable = true → a.cleared = true → fresh t) ∧
      OtherAdmin g s t ∧ SameBut adminParts s t) ∧
    Gives (.adminSqTailWrite g v) s (fun t => (getFn t g).admin =
        (if (v.setWidth 16 - a.sqHead).toNat ≤ 2 ^ a.sqLog2 then { a with sqTail := v.setWidth 16 }
         else { a with error := if a.error = .none then .badTail else a.error }) ∧
      OtherAdmin g s t ∧ SameBut adminParts s t) ∧
    Gives (.adminCqHeadWrite g v) s (fun t => (getFn t g).admin = { a with cqHead := v.setWidth 16 } ∧
      OtherAdmin g s t ∧ SameBut adminParts s t)) ∧
  (∀ (u : TagUse) (entry : Bytes), adminRead? s g = some u → entry.length = 64 →
    (u.use = .admin g true → adminOpen s g = true →
      Gives (.adminEntryRead g true entry) s (fun t =>
        (getFn t g).admin = { a with taken := some entry, sqHead := a.sqHead + 1 } ∧ OtherAdmin g s t) ∧
      Gives (.adminEntryRead g false entry) s (fun t =>
        (getFn t g).admin = { a with error := .dmaError } ∧ OtherAdmin g s t)) ∧
    (u.use = .admin g false → ∀ ok : Bool, Gives (.adminEntryRead g ok entry) s fun t =>
      (getFn t g).admin = a ∧ OtherAdmin g s t)) ∧
  (∀ (tag : ReqTag) (ok : Bool) (entry : Bytes), adminRead? s g = none → adminReads s g = true →
    (getPort s (portOf g)).waits = [] → freeTag s g = some tag → dmaOpen s = true →
    Gives (.adminEntryRead g ok entry) s fun t => (getFn t g).admin = a ∧
      .read (portOf g) tag (a.sqBase.toNat + 64 * (a.sqHead.toNat % 2 ^ a.sqLog2)) none 64 ∈ t.out) ∧
  (∀ (d : AdminDone) (ds : List AdminDone), a.held = d :: ds → adminHolds a = false → cqFull a = false →
    fnStalled s g = false → dmaOpen s = true →
    Gives (.adminCompletionWrite g) s fun t => (getFn t g).admin = { a with held := ds, cqTail := a.cqTail + 1 } ∧
      .write (portOf g) (a.cqBase.toNat + 16 * (a.cqTail.toNat % 2 ^ a.cqLog2)) none (completionBytes a d) ∈ t.out) ∧
  (∀ b : Bytes, a.taken = some b → entOpcode b ∉ [1, 2, 3, 0x10, 0x11, 0x12, 0x13, 0x20, 0x21] →
    Gives (.adminBadOpcode g) s fun t => Decided s t g b (if isReady s then .badOpcode else .notReady) 0 ∧
      OtherAdmin g s t ∧ SameBut adminParts s t)

/-- Contexts and event rings (04, R128 to R134, R153). That CREATE_CONTEXT waits for the end of a remap is the model's
reading (assumption 66). -/
def Obligations.ContextLifecycle : Prop := ∀ (s : State) (g : Fun) (b : Bytes), Inv s →
  (∀ (o : MemObj) (c : CtxId), EntryTaken s g 1 b → createCtxFieldsOk s g b = true → rootInside s b = true →
    entFlags b = 0 → ownedObject s g (qwordAt b 3) = .ok o → ctxsOfFn s g < contextQuota s g →
    ctxsOfPort s (portOf g) < objNum s (0x4010 + (portOf g).val) 1 →
    ctxBySlot s g (field (qwordAt b 2) 19 0) = none → nextCtxId s = some c → s.det.remapping = false →
    Gives (.createContext g) s fun t => Decided s t g b .success (w64 c.toNat) ∧
      (∀ e, e ∈ t.obj.ctxs ↔ e = (c, newCtx s g b none) ∨ e ∈ s.obj.ctxs) ∧
      SameBut (adminParts ++ [.ctxs, .slots]) s t) ∧
  (s.det.remapping = true → exec (.createContext g) s = .next s) ∧
  (∀ x : Ctx, let c : CtxId := BitVec.ofNat 20 (qwordAt b 1);
    EntryTaken s g 2 b → entFlags b = 0 → qwordAt b 1 >>> 20 = 0 → zeroFrom b 2 = true → ctx? s c = some x →
    x.fn = g → x.state ≠ .aborting →
    Gives (.destroyContext g) s fun t => (getFn t g).admin = { (getFn s g).admin with taken := none } ∧
      ctx? t c = some { x with state := .aborting, bound := false, destroyer := some ⟨g, entTag b⟩ } ∧
      (∀ y ∈ t.cmd.table, y.ctx ≠ c) ∧ ∀ k, k ≠ c → ctx? t k = ctx? s k) ∧
  (∀ (c : CtxId) (x : Ctx), ctx? s c = some x → abortEnds s c = true →
    Gives (.contextAbortComplete c) s fun t => ctx? t c = none ∧ c ∈ t.obj.ctxFreed ∧
      (∀ r, x.destroyer = some r → (getFn t r.fn).admin.held = (getFn s r.fn).admin.held ++ [⟨0, .success, r.tag⟩]) ∧
      ∀ k, k ≠ c → (ctx? t k).isSome = (ctx? s k).isSome) ∧
  (let c : CtxId := BitVec.ofNat 20 (qwordAt b 1);
    EntryTaken s g 3 b → entFlags b = 0 → qwordAt b 1 >>> 20 = 0 → qwordAt b 2 % 64 = 0 → zeroFrom b 3 = true →
    (∀ x, ctx? s c = some x → x.fn = g) → fnStalled s g = false → dmaOpen s = true →
    Gives (.queryContext g) s fun t => Decided s t g b .success 0 ∧
      .write (portOf g) (qwordAt b 2) none (queryBytes s c) ∈ t.out ∧ SameBut adminParts s t) ∧
  (EntryTaken s g 0x20 b → eventRingOk s g b = true →
    Gives (.createEventRing g) s fun t => Decided s t g b .success 0 ∧
      getRing t g (qwordAt b 2 % 256) = some
        { base := w64 (qwordAt b 1), log2 := qwordAt b 2 / 256 % 32, producer := 0, consumer := 0,
          overflow := false, dropped := 0 } ∧
      ∀ r, r ≠ qwordAt b 2 % 256 → getRing t g r = getRing s g r) ∧
  (EntryTaken s g 0x21 b → entFlags b = 0 → qwordAt b 1 >>> 8 = 0 → zeroFrom b 2 = true →
    (getRing s g (qwordAt b 1)).isSome = true → ringNamed s g (qwordAt b 1) = false →
    Gives (.destroyEventRing g) s fun t => Decided s t g b .success 0 ∧ getRing t g (qwordAt b 1) = none ∧
      (∀ i, (getFn t g).int.latches.getLsbD i = (decide (i ≠ qwordAt b 1) && (getFn s g).int.latches.getLsbD i)) ∧
      ∀ r, r ≠ qwordAt b 1 → getRing t g r = getRing s g r)

/-- Memory objects and grants (04, R140 to R146). -/
def Obligations.ObjectLifecycle : Prop := ∀ (s : State) (g : Fun) (b : Bytes), Inv s →
  (∀ (c : Option CtxId) (slot base : Nat) (mirror : Option Nat), EntryTaken s g 0x10 b →
    createObjFieldsOk s g b = true → ownerCtx s g b = .ok c →
    objQuotaExceeded s g (if (entFlags b).testBit 1 then 2 * qwordAt b 1 else qwordAt b 1) = false →
    nextSlot s = some slot →
    placeObject s (qwordAt b 2 % 2 ^ 24) (qwordAt b 1) ((entFlags b).testBit 1) = some (base, mirror) →
    Gives (.createObject g) s fun t => let o := newObj s g b c slot base mirror
      Decided s t g b .success (objHandle o) ∧ (∀ e, e ∈ t.obj.objs ↔ e = o ∨ e ∈ s.obj.objs) ∧
      SameBut (adminParts ++ [.objs, .slots]) s t) ∧
  (∀ o : MemObj, EntryTaken s g 0x11 b → entFlags b = 0 → zeroFrom b 2 = true →
    ownedObject s g (qwordAt b 1) = .ok o → obj? s o.slot = some o → objectInUse s o = false →
    Gives (.freeObject g) s fun t => (getFn t g).admin = { (getFn s g).admin with taken := none } ∧
      obj? t o.slot = some { o with freed := true, grants := [], freer := some ⟨g, entTag b⟩ } ∧
      liveObj t (objHandle o).toNat = none ∧ ∀ k, k ≠ o.slot → obj? t k = obj? s k) ∧
  (∀ (slot : Nat) (o : MemObj), obj? s slot = some o → freeEnds s slot = true → o.changes = [] →
    Gives (.freeObjectComplete slot) s fun t => (∀ e, e ∈ t.obj.objs ↔ e ∈ s.obj.objs ∧ e.slot ≠ slot) ∧
      t.pool.scrubs = s.pool.scrubs ++ [⟨o.base, o.bytes, 0, o.mirrorSpan, some o.owner, false, false⟩] ∧
      ∀ r, o.freer = some r → (getFn t r.fn).admin.held = (getFn s r.fn).admin.held ++ [⟨0, .success, r.tag⟩]) ∧
  (∀ o : MemObj, EntryTaken s g 0x12 b → grantFieldsOk s b = true → grantRights b ≠ 0 →
    liveObj s (qwordAt b 1) = some o → o.shared = true → o.owner = g → grantTarget b ≠ g →
    (grantRights b = 3 → o.fence = true) → grantOf o (grantTarget b) = none →
    Gives (.grantObject g) s fun t => Decided s t g b .success 0 ∧
      t.obj.objs = s.obj.objs.map (fun x => if x.slot = o.slot then
        { x with grants := x.grants.filter (fun y => y.1 ≠ grantTarget b) ++ [(grantTarget b, rightsOf (grantRights b))] }
        else x) ∧ SameBut (adminParts ++ [.objs]) s t) ∧
  (∀ (o : MemObj) (r : Rights), EntryTaken s g 0x13 b → grantFieldsOk s b = true → grantRights b = 0 →
    ownedObject s g (qwordAt b 1) = .ok o → grantOf o (grantTarget b) = some r →
    Gives (.revokeGrant g) s fun t => (getFn t g).admin = { (getFn s g).admin with taken := none } ∧
      (∀ x ∈ t.obj.objs, x.slot = o.slot → grantOf x (grantTarget b) = none) ∧
      SameBut (adminParts ++ [.objs, .lookups]) s t) ∧
  (∀ (slot : Nat) (h : Fun) (o : MemObj) (r : AdminRef), obj? s slot = some o → grantDropEnds s slot h = true →
    o.changes = [(h, r)] →
    Gives (.grantDropComplete slot h) s fun t =>
      (getFn t r.fn).admin = { (getFn s r.fn).admin with
        held := (getFn s r.fn).admin.held ++ [⟨0, .success, r.tag⟩] } ∧ SameBut [.admin, .objs] s t)

/-- Fence waits and mirrors (04, R151, R152). -/
def Obligations.FenceWaits : Prop := ∀ s : State, Inv s →
  (∀ (c : CtxId) (x : Cmd) (r : FenceRef) (o : MemObj), waitingCmd s c = some x →
    (waitRefs x.raw)[x.waits]? = some r → fenceWord s r.handle r.word = some o →
    poisoned s (lineOf (fenceAddr o r.word)) 64 = false → r.value ≤ fenceValue s o r.word →
    Gives (.fenceWaitRelease c) s fun t => SameBut [.cmds] s t ∧ t.cmd.table = s.cmd.table.map fun y =>
      if y.ctx = c ∧ y.q = x.q then { y with waits := y.waits + 1, registered := false } else y) ∧
  (∀ (slot word : Nat) (o : MemObj) (v : U64), obj? s slot = some o →
    (s.obj.mirrors.find? fun m => m.1 == slot && m.2.1 == word) = some (slot, word, v) →
    fnStalled s o.owner = false → packageHeld s = false → o.mirrorBase % 8 = 0 →
    Gives (.fenceMirrorWrite slot word) s fun t =>
      .write (portOf o.owner) (o.mirrorBase + 8 * word) none (leBytes 8 v.toNat) ∈ t.out ∧
      (∀ m ∈ t.obj.mirrors, ¬(m.1 = slot ∧ m.2.1 = word)) ∧ SameBut [.slots, .out] s t)

/-- Doorbells, fetch and dispatch (05, R155 to R168). -/
def Obligations.DoorbellsAndFetch : Prop := ∀ s : State, Inv s →
  (∀ (g : Fun) (slot : Nat) (v : U64) (c : CtxId) (x : Ctx), fnPresent s g = true → barOpen s g = true →
    ctxBySlot s g slot = some c → ctx? s c = some x → replaying s c = false →
    (x.state = .ready ∨ x.state = .lost → doorbellValid x v = true →
      Gives (.doorbell g (8 * slot) 8 true false v) s fun t => SameBut [.ctxs] s t ∧
        ∃ y, ctx? t c = some y ∧ y.tail = v.setWidth 24 ∧ y.submitTag = (v >>> 48).setWidth 16 ∧
          y.head = x.head ∧ y.state = x.state) ∧
    (x.state = .ready → doorbellValid x v = false →
      Gives (.doorbell g (8 * slot) 8 true false v) s fun t => LostFor s t c .doorbellInvalid)) ∧
  (∀ (g : Fun) (offset size : Nat) (allEnabled poisoned : Bool) (v : U64),
    size ≠ 8 ∨ offset % 8 ≠ 0 ∨ allEnabled = false →
    Gives (.doorbell g offset size allEnabled poisoned v) s fun t => Counted s t (0xD100 + g.val) 2 ∧
      SameBut [.counters, .int] s t) ∧
  (∀ (p : Port) (c : CtxId) (x : Ctx) (e : REntry) (a : Nat) (s2 : State), (fetchOrder s p).head? = some (c, x) →
    ctx? s c = some x → fetchingCmd s c = none → (∀ q, entryNext s = some q → q = p) →
    let u := modPort p (fun y => { y with fetchTurn := c }) s
    let s1 := takeEntryTurn p
      { u with cmd := { u.cmd with table := u.cmd.table ++ [newCmd c x.head.toNat x.tail] } }
    translate (.ctx c) (entryVa x 0) .read s1 = (s2, .ok e) → targetOf e (entryVa x 0) = .pool a →
    Gives (.commandFetch p) s fun t => (getPort t p).fetchTurn = c ∧
      t = modCmd c x.head.toNat (fun z => { z with stage := .fetching 0, entryAt := some (.pool a), span := ⟨0, [], []⟩ }) s2) ∧
  (∀ (p q : Port) (c : CtxId) (x : Ctx), (fetchOrder s p).head? = some (c, x) → fetchingCmd s c = none →
    entryNext s = some q → q ≠ p →
    Gives (.commandFetch p) s fun t => t.cmd.table = s.cmd.table ∧ p ∈ t.cmd.entryWaits ∧ SameBut [.engines] s t) ∧
  (∀ (c : CtxId) (x : Cmd) (cx : Ctx) (a : Nat), fetchingCmd s c = some x → x.stage = .fetching 0 → x.raw = [] →
    x.entryAt = some (.pool a) → ctx? s c = some cx → cx.state = .ready → fetchHeld s c cx.fn = false → gated s a 64 false none = false → poisoned s a 64 = false →
    takenEntries (poolBytes s a 64) = 1 →
    Gives (.commandEntryArrival c) s fun t => ctx? t c = some { cx with head := cx.head + 1 } ∧
      (∃ y, cmd? t c x.q = some y ∧ y.stage = .queued 0 ∧ y.raw = poolBytes s a 64) ∧ SameBut [.ctxs, .cmds] s t) ∧
  (∀ (c : CtxId) (x : Cmd) (cx : Ctx), dispatchHead s c = some x → ctx? s c = some cx → cx.state = .ready →
    fnStalled s cx.fn = false → packageHeld s = false → mayIssue s c = true → replayStalled s c = false →
    lateHeld s x = false →
    (x.stage = .queued 0 → decodeStatus s cx.fn x = .success → barrierSet x.raw = false → waitRefs x.raw = [] →
      hdrOpcode x.raw ≠ 0x20 → takesTag (hdrOpcode x.raw) = false →
      Gives (.dispatchStages c) s fun t => (∃ y, cmd? t c x.q = some y ∧ y.raw = x.raw) ∧
        (∀ y ∈ t.cmd.table, y.ctx = c → y.q = x.q → y.stage = .dispatched) ∧ SameBut [.cmds] s t) ∧
    (x.stage = .queued 0 → bodyBytes (hdrOpcode x.raw) = none →
      Gives (.commandBadOpcode c x.q) s fun t => LostFor s t c .badCommand) ∧
    (∀ tag : U16, x.stage = .queued 4 → hdrOpcode x.raw = 0x20 → fixed? s c = none →
      launchGtc x.raw ≤ s.gtc.toNat → freeStreamTag s = some tag →
      Gives (.launchGtcReached c) s fun t => (∃ y, cmd? t c x.q = some y ∧ y.raw = x.raw) ∧
        (∀ y ∈ t.cmd.table, y.ctx = c → y.q = x.q →
        y.stage = .dispatched ∧ y.tag = some tag ∧ y.epoch = s.det.epoch.toNat) ∧ SameBut [.cmds, .engines] s t))

/-- The effects of the commands (05, R168, R174 to R176; 06, R215; 07, R224; 08, R283; 10, R330). -/
def Obligations.CommandEffects : Prop := ∀ (s : State) (c : CtxId) (q : Nat) (x : Cmd) (cx : Ctx), Inv s →
  (Runs s c q 1 x cx → Gives (.nop c q) s fun t => Ended t c q .success ∧ SameBut [.cmds, .engines] s t) ∧
  (∀ (s1 : State) (r : Run) (a : Nat), translateSide (.ctx c) .write [(0, bodyQ x.raw 0, 8)] s = (s1, .ok [r]) →
    r.target = .pool a → r.pos = 0 → r.bytes = 8 → a % 8 = 0 → poisoned s1 (lineOf a) 64 = false →
    runsGated s1 [r] = false → opsOfCmd s1 c q = [] →
    let kept (t : State) : Prop := ∀ i, i < a ∨ a + 8 ≤ i →
      (∀ m, isFixed s c = true → copiesOf s (lineOf a) = some m → i < m ∨ m + 64 ≤ i) →
      memGet t.pool.mem i = memGet s.pool.mem i
    (Runs s c q 2 x cx → Gives (.writeValue c q) s fun t => Ended t c q .success ∧
      poolBytes t a 8 = leBytes 8 (bodyQ x.raw 1) ∧
      kept t) ∧
    (Runs s c q 3 x cx → Gives (.writeTimestamp c q) s fun t => Ended t c q .success ∧
      poolBytes t a 8 = leBytes 8 s.gtc.toNat ∧ kept t)) ∧
  (∀ e : Engine, x.xfer = none → pickEngine s c = some e →
    let taken (t : State) : Prop := (∃ y, cmd? t c q = some { x with xfer := some y } ∧ y.engine = e ∧ y.next = 0) ∧
      (∃ z, t.cmd.engines[e.val]? = some z ∧ (c, q) ∈ z.active ++ z.queued) ∧ SameBut [.cmds, .engines] s t
    (Runs s c q 0x10 x cx → Gives (.copyTensor c q) s taken) ∧
    (Runs s c q 0x11 x cx → Gives (.reduceTensor c q) s taken) ∧
    (Runs s c q 0x12 x cx → Gives (.fill c q) s taken)) ∧
  (∀ (s1 : State) (runs : List Run), Runs s c q 0x20 x cx → x.parts = [] →
    (∀ n ∈ launchClusters x.raw, n ∉ s.det.fenced) →
    translateSide (.ctx c) .read [(0, bodyQ x.raw 0, 1)] s = (s1, .ok runs) → runs.any isWindow = false →
    Gives (.launch c q) s fun t =>
      cmd? t c q = some { x with parts := (List.range (launchCount x.raw)).map fun k =>
        ⟨k, launchBase x.raw + k, false, none, x.epoch⟩ } ∧
      ∀ k < launchCount x.raw, .part (launchBase x.raw + k) c (bodyQ x.raw 0) (bodyQ x.raw 1)
        (field (bodyQ x.raw 2) 47 40) k (launchCount x.raw) (x.tag.getD 0xFFFF) x.epoch ∈ t.out) ∧
  (∀ (s1 : State) (runs : List Run) (need : Need), SpanTurn s c q x →
    let n := spanStep (bodyQ x.raw 0) (bodyQ x.raw 1) x.span.done
    let met (l : Nat) : Prop := ∃ r ∈ poolRuns runs, spansMeet l 64 r.1 r.2.1 = true
    translateSide (.ctx c) need [(0, bodyQ x.raw 0 + x.span.done, n)] (spanServing s c q x) =
      (s1, .ok runs) →
    (∀ r ∈ runs, ∃ a, r.target = .pool a) → bodyQ x.raw 1 ≤ x.span.done + n →
    (Runs s c q 0x30 x cx → need = .read → ownedLines s1 (poolRuns runs) = [] →
      Gives (.flush c q) s fun t => Ended t c q .success ∧
        (∀ e, e ∈ t.pool.stale ↔ e ∈ s.pool.stale ∧ ¬met e.1) ∧
        (∀ e ∈ s.pool.stale, met e.1 → (∀ p ∈ backPlaces s e.1, .stackLine true e.1 p (keySlot s e.1) ∈ t.out) ∧
          ∀ m, copiesOf s e.1 = some m → ∀ p ∈ backPlaces s m, .stackLine true m p (keySlot s e.1) ∈ t.out) ∧
        ∀ i, (∀ e ∈ s.pool.stale, ∀ m, met e.1 → copiesOf s e.1 = some m → i < m ∨ m + 64 ≤ i) →
          memGet t.pool.mem i = memGet s.pool.mem i) ∧
    (Runs s c q 0x31 x cx → need = .write → dieCopies s1 (poolRuns runs) = [] →
      Gives (.invalidate c q) s fun t => Ended t c q .success ∧
        ∀ e ∈ t.pool.stale, e ∈ s.pool.stale ∧ ∀ r ∈ poolRuns runs, e.1 ∉ linesOf r.1 r.2.1)) ∧
  (Runs s c q 0x40 x cx →
    (x.span.done = 0 → Gives (.invalidateRanges c q) s fun t => cmd? t c q = some { x with span := ⟨1, [], []⟩ } ∧
      t.trans.scans = s.trans.scans ++ (if tableWide x.raw then banksInUse s else [bankOf s (.ctx c)]).map fun b =>
        ⟨b, .span c (tableWide x.raw) (bodyQ x.raw 0 / 4096) (bodyQ x.raw 0 / 4096 + bodyQ x.raw 1 / 4096 - 1), .command c q⟩) ∧
    (x.span.done ≠ 0 → scanOver s (.command c q) = true →
      Gives (.invalidateRanges c q) s fun t => Ended t c q .success ∧ SameBut [.cmds, .engines] s t)) ∧
  (∀ (s1 : State) (b : Bytes) (e : Nat), Runs s c q 0x50 x cx → digestNext s = some (.cmd c q) →
    x.span.done < bodyQ x.raw 1 → digestEngine (digestServing s c q) x = some e →
    let n := min 65536 (bodyQ x.raw 1 - x.span.done)
    readLeaf x cx (bodyQ x.raw 0 + x.span.done) n (digestServing s c q) = (s1, some b) →
    Gives (.digestRange c q) s fun t => ∃ y, cmd? t c q = some y ∧ y.span.done = x.span.done + n ∧
      y.span.leaves = x.span.leaves ++ [digestLeaf x.span.leaves.length b])

/-- The ends of commands (05, R169 to R172, R176 to R183). -/
def Obligations.CommandsEnd : Prop := ∀ s : State, Inv s →
  (∀ (c : CtxId) (q : Nat) (x : Cmd) (cx : Ctx), cmd? s c q = some x → ctx? s c = some cx →
    x.stage = .ended .success → mayIssue s c = true → packageHeld s = false → signalRefs x.raw = [] →
    x.xfer = none → hdrOpcode x.raw ≠ 0x50 → cx.completed.toNat < 2 ^ 62 → cx.lostReason ≠ .functionAborted →
    Gives (.commandCompletion c q) s fun t => cmd? t c q = none ∧
      ctx? t c = some { cx with completed := cx.completed + 1 } ∧
      (hdrReport x.raw = true → (getFn t cx.fn).int.formed = (getFn s cx.fn).int.formed ++
        [⟨cx.eventRing, 1, cstatusCode .success, some c, w64 (hdrData x.raw), w64 (hdrOpcode x.raw * 2 ^ 48 + q), s.gtc⟩]) ∧
      ∀ tag, x.tag = some tag → ∃ d ∈ t.cmd.drains, d.tag = tag ∧ d.ctx = c ∧ d.q = q) ∧
  (∀ (c : CtxId) (q : Nat) (x : Cmd) (cx : Ctx) (r : FenceRef), cmd? s c q = some x → ctx? s c = some cx →
    x.stage = .ended .success → mayIssue s c = true → packageHeld s = false → signalRefs x.raw = [r] →
    x.xfer = none → hdrOpcode x.raw ≠ 0x50 →
    (∀ o : MemObj, fenceStatus s cx.fn true r = .success → fenceWord s r.handle r.word = some o → o.base % 8 = 0 →
      poisoned s (lineOf (fenceAddr o r.word)) 64 = false →
      (∀ m, isFixed s c = true → copiesOf s (lineOf (fenceAddr o r.word)) = some m →
        fenceAddr o r.word + 8 ≤ m ∨ m + 64 ≤ fenceAddr o r.word) →
      Gives (.commandCompletion c q) s fun t => cmd? t c q = none ∧
        fenceValue t o r.word = max (fenceValue s o r.word) (w64 r.value).toNat) ∧
    (fenceStatus s cx.fn true r ≠ .success → cx.state = .ready →
      Gives (.commandCompletion c q) s fun t => cmd? t c q = none ∧
        LostFor s t c (lostOf (fenceStatus s cx.fn true r)))) ∧
  (∀ tag : U16, Gives (.streamTagDrained tag) s fun t => SameBut [.engines] s t ∧
    ∀ d, d ∈ t.cmd.drains ↔ d ∈ s.cmd.drains ∧ ¬(d.tag = tag ∧ ∀ p ∈ d.parts, p.ended = true)) ∧
  (∀ tag : U16, (tagLive s tag = true → exec (.streamBeatUnknownTag tag) s = .next s) ∧
    (tagLive s tag = false → Gives (.streamBeatUnknownTag tag) s fun t =>
        Raised s t .streamTagUnknown)) ∧
  (∀ (cluster : Nat) (c : CtxId) (q k : Nat) (x : Cmd),
    (s.cmd.table.find? fun y => y.ctx == c && y.q == q && partOpen cluster k y.parts) = some x →
    cmd? s c q = some x → x.stage = .dispatched → (∀ p ∈ endPart cluster k x.parts, p.ended = true) →
    Gives (.partEnd cluster c q k) s fun t => Ended t c q .success ∧ SameBut [.cmds, .engines, .det] s t) ∧
  (∀ (cluster : Nat) (c : CtxId) (q k : Nat) (x : Cmd), x ∈ s.cmd.table → x.ctx = c → x.q = q →
    partOverdue s cluster k x.parts = true → cluster < clustersOf s.variant →
    Gives (.partCancelTimeout cluster c q k) s fun t => cluster ∈ t.det.fenced) ∧
  (∀ (e : Engine) (z : EngineSt), s.cmd.engines[e.val]? = some z →
    (∀ k, z.serving = some k → Gives (.unitStepEnd (.engine e)) s fun t => SameBut [.engines] s t ∧
      ∃ y, t.cmd.engines[e.val]? = some y ∧
        y.active = (z.active.filter fun j => j ≠ k) ++ (z.active.filter fun j => j = k) ∧
        y.queued = z.queued ∧ y.serving = none ∧ y.moved = 0) ∧
    (z.serving = none → Gives (.unitStepEnd (.engine e)) s fun t => SameBut [.engines] s t ∧
      t.cmd.engines[e.val]? = some z))

/-- Lookups, walks, scans and leases (06, R199 to R218). -/
def Obligations.Translation : Prop := ∀ s : State, Inv s →
  let noInstall (u : State) : Prop := ∀ w ∈ u.trans.walks, ∀ e v, w.place ≠ .install e v
  let here (c : CtxId) (va : U64) (w : Walk) : Prop := w.who = .ctx c ∧ w.granule = va.toNat / 4096
  (∀ (c : CtxId) (va : U64) (need : Need) (a : Asker), va.toNat < 2 ^ 57 → asker s (.ctx c) = some a →
    askerAborting s (.ctx c) = false →
    (∀ e : REntry, storeLookup s (.ctx c) a (va.toNat / 4096) = some e → entryVerdict s a e va.toNat need = .ok e →
      Gives (.translationLookup c va need) s fun t => Counted s t 0xD000 5 ∧
        .translation (.ctx c) va.toNat (targetOf e va.toNat) ∈ t.out ∧ t.trans.walks = s.trans.walks) ∧
    (storeLookup s (.ctx c) a (va.toNat / 4096) = none → a.fixed = false →
      let group := groupOf s (bankOf s (.ctx c))
      ((∀ w ∈ s.trans.walks, ¬here c va w) → groupFull s group = false →
        Gives (.translationLookup c va need) s fun t => Counted s t 0xD000 6 ∧ t.trans.walks = s.trans.walks ++
          [⟨s.trans.nextWalk, .ctx c, va.toNat / 4096, group, .anchor, a.root, false, [(va.toNat, need, true)]⟩]) ∧
      ((∀ w ∈ s.trans.walks, ¬here c va w) → groupFull s group = true →
        Gives (.translationLookup c va need) s fun t => t.trans.walks = s.trans.walks ∧
          t.trans.stalled = s.trans.stalled ++ [(.ctx c, va.toNat, need)] ∧ SameBut [.lookups] s t) ∧
      ((∃ w ∈ s.trans.walks, here c va w) →
        Gives (.translationLookup c va need) s fun t => Counted s t 0xD000 6 ∧
          t.trans.walks = s.trans.walks.map fun w => if w.who = .ctx c ∧ w.granule = va.toNat / 4096 then
            { w with waiters := w.waiters ++ [(va.toNat, need, true)] } else w))) ∧
  (∀ (w : Walk) (a : Asker), (s.trans.walks.find? fun x => x.id == w.id) = some w →
    ((groupWalks s w.group).take 512).any (fun x => x.id == w.id) = true → packageHeld s = false →
    asker s w.who = some a → askerAborting s w.who = false →
    (w.stale = true → Wakes (.walkNodeReadDone w.id) s fun t => SameBut [.lookups] s t ∧
      t.trans.walks = s.trans.walks.map fun x =>
        if x.id = w.id then { x with place := .anchor, offset := a.root, stale := false } else x) ∧
    (w.stale = false → (∀ e v, w.place ≠ .install e v) → tableAt s a = none →
      Wakes (.walkNodeReadDone w.id) s fun t => Counted s t 0xD000 8 ∧ (∀ x ∈ t.trans.walks, x.id ≠ w.id) ∧
        ∀ x ∈ w.waiters, if x.2.2 then .noTranslation w.who x.1 (.fault .tableMalformed) ∈ t.out
          else (w.who, x.1, x.2.1, .fault .tableMalformed, s.gtc) ∈ t.trans.answers) ∧
    (∀ (e : REntry) (v : Nat), w.stale = false → w.place = .install e v → (∀ l ∈ s.trans.leases, l.entry ≠ v) →
      (∃ y ∈ getBank s (bankOf s e.who), y.id = v) → (∀ x ∈ w.waiters, x.2.2 = false) →
      Wakes (.walkNodeReadDone w.id) s fun t => (∀ x ∈ t.trans.walks, x.id ≠ w.id) ∧
        (getBank t (bankOf s e.who)).getLast? = some { e with id := s.trans.nextEntry } ∧
        (getBank t (bankOf s e.who)).length = (getBank s (bankOf s e.who)).length ∧
        SameBut [.entries, .lookups] s t) ∧
    (∀ (b : Bytes) (tb : TableAt), w.stale = false → tableAt s a = some tb → readNode s tb w.offset = .ok b →
      w.place = .anchor → nodeRedirect b = 0 → nodeOk b true 0 0 (2 ^ 45) tb.bytes none = true →
      nodeLeaf b = false →
      Wakes (.walkNodeReadDone w.id) s fun t => Counted s t 0xD000 7 ∧
        let (off, lo, hi) := childFor b w.granule (2 ^ 45)
        t.trans.walks = s.trans.walks.map fun x =>
          if x.id = w.id then { x with place := .node 1 (nodeHeight b) lo hi, offset := off } else x)) ∧
  (∀ (cluster slot : Nat) (c : CtxId) (va : U64) (need : Need), cluster < clustersOf s.variant → slot < 64 →
    cluster ∉ s.det.fenced →
    (ctx? s c = none → exec (.leaseRequest cluster slot c va need) s =
      .next (emit (.leaseDeny cluster slot .none) s)) ∧
    (∀ (cx : Ctx) (s1 : State) (e : REntry), va.toNat < 2 ^ 57 → ctx? s c = some cx → cx.state = .ready →
      mayIssue s c = true → packageHeld s = false → translate (.ctx c) va.toNat need s = (s1, .ok e) →
      e.ttype = 1 ∨ e.ttype = 4 → dropPending s1 (bankOf s1 (.ctx c)) e = false → noInstall s1 →
      Gives (.leaseRequest cluster slot c va need) s fun t => ∃ l ∈ t.trans.leases, l.cluster = cluster ∧
        l.slot = slot ∧ l.ctx = c ∧ l.entry = e.id ∧ l.revoking = [] ∧ (l.first, l.last) = leaseSpan s1 e va.toNat ∧
        .leaseGrant cluster slot c l.first l.last l.base l.effR l.effW l.effA ∈ t.out)) ∧
  (∀ cluster slot : Nat,
    (∃ u, exec (.revokeAck cluster slot) s = .next (wake (leasesEnded u)) ∧ SameBut [.lookups] s u ∧
      ∀ l, l ∈ u.trans.leases ↔
        l ∈ s.trans.leases ∧ ¬(l.cluster = cluster ∧ l.slot = slot ∧ l.revoking ≠ [])) ∧
    ∃ u, exec (.leaseRelease cluster slot) s = .next (wake (leasesEnded u)) ∧ SameBut [.lookups] s u ∧
      ∀ l, l ∈ u.trans.leases ↔ l ∈ s.trans.leases ∧ ¬(l.cluster = cluster ∧ l.slot = slot)) ∧
  (∀ (b : Bank) (x : Scan), (s.trans.scans.find? fun y => y.bank == b.val) = some x → noInstall s →
    Gives (.rangeScanDone b) s fun t => t.trans.scans = s.trans.scans.eraseP (fun y => y.bank == b.val) ∧
      getBank t b.val = (getBank s b.val).filter (fun e => !scanDrops s x.what e) ∧
      (∀ k, k ≠ b.val → getBank t k = getBank s k) ∧
      ∀ l ∈ s.trans.leases, bankOf s l.ent.who = b.val → scanDrops s x.what l.ent = true →
        (∃ m ∈ t.trans.leases, m.cluster = l.cluster ∧ m.slot = l.slot ∧ x.owner ∈ m.revoking) ∧
        (l.revoking = [] → .leaseRevoke l.cluster l.slot ∈ t.out))

/-- ATS, walker groups and extents (06, R206, R219 to R221; 09, R293). That a translation covers a unit of the largest
STU of the port's functions is the model's reading (assumption 35). -/
def Obligations.AddressServices : Prop := ∀ s : State, Inv s →
  (∀ (p : Port) (tag : ReqTag) (u : TagUse) (pasid : BitVec 20) (a : Nat) (translated : U64), tag? s p tag = some u →
    u.quarantined = false → u.use = .ats pasid a → u.bytes ≠ 0 →
    Gives (.atsTranslationCompletion p tag .success translated true true) s fun t =>
      (getPort t p).ats.head? = some ⟨u.fn, pasid, a, translated.toNat, true, true⟩ ∧
      ((getPort s p).waits = [] → tag? t p tag = none ∧ SameBut [.requests, .ats, .cmds] s t)) ∧
  (∀ (p : Port) (itag : Fin 32) (pasid : BitVec 20) (a : U64) (n : Nat),
    let unit := (fnsOf p).foldl (fun m g => max m (stuBytes s g)) 4096
    Gives (.atsInvalidateRequest p itag pasid a n) s fun t => Counted s t (0xD010 + p.val) 6 ∧
      (∀ e, e ∈ (getPort t p).ats ↔ e ∈ (getPort s p).ats ∧
        ¬(e.pasid = pasid ∧ spansMeet e.address unit a.toNat n = true)) ∧
      ∃ h ∈ (getPort t p).atsHolds, h.itag = itag.val ∧ ∀ e ∈ (getPort s p).ats, e.pasid = pasid →
        spansMeet e.address unit a.toNat n = true → ∀ u ∈ (getPort s p).tags, u.timedOut = false →
        (∀ x y, u.use ≠ .ats x y) → u.pasid = some pasid → spansMeet e.address unit u.address u.bytes = true →
        u.tag ∈ h.waits) ∧
  (∀ (p : Port) (itag : Fin 32) (h : AtsHold), ((getPort s p).atsHolds.find? fun x => x.itag == itag.val) = some h →
    h.waits = [] →
    Gives (.atsInvalidationCompletion p itag) s fun t => .atsInvalidated p itag.val ∈ t.out ∧
      (∀ x ∈ (getPort t p).atsHolds, x.itag ≠ itag.val) ∧ (getPort t p).ats = (getPort s p).ats) ∧
  (∀ (rq : Requester) (v : U8), accepts s rq ⟨0x3000, 3⟩ (.num v.toNat) →
    Gives (.walkerGroupEnableWrite rq v) s fun t => Written s t rq ⟨0x3000, 3⟩ (.num v.toNat)) ∧
  (∀ (rq : Requester) (g : Fun) (b n : U64), accepts s rq ⟨0x3100 + g.val, 1⟩ (.num b.toNat) →
    accepts s rq ⟨0x3100 + g.val, 2⟩ (.num n.toNat) → extentRefused g (some b) (some n) s = none →
    Gives (.poolExtentWrite rq g (some b) (some n)) s fun t => objNum t (0x3100 + g.val) 1 = b.toNat ∧
      objNum t (0x3100 + g.val) 2 = n.toNat ∧ .objectStatus rq ⟨0x3100 + g.val, 1⟩ .ok ∈ t.out)

/-- Tiles (07, R229 to R239). -/
def Obligations.TransferTiles : Prop := ∀ s : State, Inv s →
  (∀ (e : Engine) (z0 : EngineSt) (k : CtxId × Nat) (x : Cmd) (cx : Ctx) (y : Xfer) (tl : Tile),
    pickTurn s (getEngine s e) = (z0, some k) →
    cmd? s k.1 k.2 = some x → ctx? s k.1 = some cx → x.xfer = some y → y.tile = some tl →
    (∀ r ∈ tl.src ++ tl.dst, ∃ a, r.target = .pool a) → runsHeld s (tl.src ++ tl.dst) = true →
    tl.stop = none → opsOfCmd s k.1 k.2 = [] → tileGated s tl = false → poisonedSource s tl = none →
    Gives (.engineTurn e) s fun t =>
      (∃ z w u, cmd? t k.1 k.2 = some z ∧ z.xfer = some w ∧ w.tile = some u ∧ u.begun = true ∧ u.index = tl.index ∧
        w.next = y.next) ∧
      (steppedKey s k = false → ∃ z, t.cmd.engines[e.val]? = some z ∧
        z.active = (z0.active.filter fun j => j ≠ k) ++ [k] ∧ z.serving = z0.serving) ∧
      (steppedKey s k = true → ∃ z, t.cmd.engines[e.val]? = some z ∧ z.active = z0.active ∧ z.serving = some k) ∧
      (hdrOpcode x.raw ≠ 0x11 → isFixed s x.ctx = false →
        (∀ a, (∀ r ∈ poolRuns tl.dst, a < r.1 ∨ r.1 + r.2.1 ≤ a) → memGet t.pool.mem a = memGet s.pool.mem a) ∧
        ∀ (r : Run) (p : Nat), tl.dst = [r] → r.target = .pool p → (∀ l ∈ linesOf p r.bytes, l ∉ s.pool.poison) →
          poolBytes t p r.bytes = definedBytes x.raw s.draws r.va (sliceBytes (tileData s x tl) r.pos r.bytes))) ∧
  (∀ (c : CtxId) (q : Nat) (x : Cmd) (cx : Ctx) (y : Xfer) (tl : Tile), cmd? s c q = some x → ctx? s c = some cx →
    x.xfer = some y → x.stage = .dispatched → y.tile = some tl → tl.begun = true → opsDone s c q = true →
    opsOfCmd s c q = [] ∨ mayIssue s c = true →
    Gives (.tileDelivered c q) s fun t => Counted s t (0xD100 + cx.fn.val) 9 ∧
      (∃ z w, cmd? t c q = some z ∧ z.xfer = some w ∧ w.next = y.next + 1 ∧ w.tile = none) ∧
      (y.next + 1 = tileCount x.raw → Ended t c q .success) ∧
      ∀ tag, x.tag = some tag → creditOf x.raw ≠ 0xFFFF →
        .tileCredit (creditOf x.raw) tag y.next (decide (y.next + 1 = tileCount x.raw)) ∈ t.out) ∧
  (∀ (e : Engine) (z0 : EngineSt) (k : CtxId × Nat) (x : Cmd) (cx : Ctx) (y : Xfer) (tl : Tile) (side : Nat)
      (code : TCode) (va : Nat), pickTurn s (getEngine s e) = (z0, some k) → cmd? s k.1 k.2 = some x →
    ctx? s k.1 = some cx → x.xfer = some y → y.tile = some tl → tl.stop = none →
    runsHeld s (tl.src ++ tl.dst) = true → faultqRuns (getFn s cx.fn).faultq = true →
    faultqFull (getFn s cx.fn).faultq = false → tileMeets s x y cx.fn tl = some (side, .faults code va) →
    Gives (.engineTurn e) s fun t => Counted s t (0xD100 + cx.fn.val) 8 ∧ Counted s t (0xD100 + cx.fn.val) 10 ∧
      cmd? t k.1 k.2 = some { x with
        xfer := some { y with faulted := some (getFn s cx.fn).faultq.nextId, tile := none, atsDenied := none } } ∧
      ∃ r, (getFn t cx.fn).faultq.waiting = (getFn s cx.fn).faultq.waiting ++ [r] ∧
        r.id = (getFn s cx.fn).faultq.nextId ∧ r.code = code ∧ r.side = side ∧ r.ctx = k.1 ∧ r.q = k.2 ∧
        r.va = va ∧ r.resume = y.next ∧ r.count = tileCount x.raw) ∧
  (∀ (x : Cmd) (y : Xfer) (g : Fun) (tl : Tile) (side a : Nat) (p : BitVec 20) (r : Run),
    (tileRuns tl).head? = some (side, r) → r.target = .host a p → (getFn s g).cfg.pasidEnable = false →
    tileMeets s x y g tl = some (side, .faults .pasidDisabled r.va)) ∧
  (∀ (e : Engine) (k : CtxId × Nat) (x : Cmd) (y : Xfer), (getEngine s e).serving = none →
    (getEngine s e).active = [k] → cmd? s k.1 k.2 = some x → x.xfer = some y → y.tile = none →
    creditOf x.raw ≠ 0xFFFF → windowOf x.raw ≠ 0 → y.consumed + windowOf x.raw ≤ y.next →
    Gives (.engineTurn e) s fun t => SameBut [.engines] s t ∧ cmd? t k.1 k.2 = some x) ∧
  (∀ (tag credit : U16) (n : Nat) (x : Cmd) (y : Xfer) (cx : Ctx), cmdOfTag s tag = some x → x.xfer = some y →
    ctx? s x.ctx = some cx → cmd? s x.ctx x.q = some x → creditOf x.raw = credit.toNat → y.consumed ≤ n →
    n ≤ y.next →
    Gives (.tileConsumed tag credit n) s fun t =>
      cmd? t x.ctx x.q = some { x with xfer := some { y with consumed := n } } ∧ SameBut [.cmds] s t)

/-- Fault records and their answers (07, R240 to R249). -/
def Obligations.FaultQueue : Prop := ∀ (s : State) (g : Fun), Inv s →
  let f := (getFn s g).faultq
  (∀ (r : FaultRec) (rs : List FaultRec), f.waiting = r :: rs → faultqRuns f = true → fnStalled s g = false →
    (f.tail - f.head).toNat < 2 ^ f.log2 → dmaOpen s = true →
    Gives (.faultRecordWrite g true) s (fun t => (getFn t g).faultq =
        { f with waiting := rs, pending := f.pending ++ [{ r with written := s.gtc }], tail := f.tail + 1 } ∧
      .write (portOf g) (f.base.toNat + 64 * (f.tail.toNat % 2 ^ f.log2)) none
        (faultBytes r (phaseOf f.tail.toNat f.log2)) ∈ t.out) ∧
    Gives (.faultRecordWrite g false) s (fun t => (getFn t g).faultq.error = .dmaError ∧
      (getFn t g).faultq.waiting = [] ∧ (getFn t g).faultq.pending = f.pending)) ∧
  (∀ v : U64, barOpen s g = true →
    (v.getLsbD 31 = true → f.enable = false → Gives (.faultqControlWrite g v) s fun t =>
      (getFn t g).faultq.enable = true ∧ (getFn t g).faultq.log2 = v.toNat % 16 ∧ (getFn t g).faultq.tail = 0 ∧
      (getFn t g).faultq.head = 0 ∧
      (getFn t g).faultq.error = (if ringLogOk (v.toNat % 16) then QError.none else .badGeometry)) ∧
    (v.getLsbD 31 = false → Gives (.faultqControlWrite g v) s fun t => (getFn t g).faultq.enable = false ∧
      (getFn t g).faultq.error = .none ∧ (getFn t g).faultq.waiting = []) ∧
    Gives (.faultqHeadWrite g v) s (fun t => (getFn t g).faultq = { f with head := v.setWidth 16 } ∧
      SameBut [.faultq] s t) ∧
    Gives (.faultTimeoutWrite g v) s (fun t => SameBut [.faultq] s t ∧
      (getFn t g).faultq.timeout.toNat = max 1000000 (min v.toNat 60000000000))) ∧
  (∀ (id : U32) (r : FaultRec) (x : Ctx), barOpen s g = true → (f.pending.find? fun y => y.id == id) = some r →
    ctx? s r.ctx = some x → x.state = .ready →
    let answered (result : Nat) (t : State) : Prop :=
      (getFn t g).faultq.result = w64 (id.toNat * 2 ^ 32 + result)
    (∀ (z : Cmd) (y : Xfer), cmd? s r.ctx r.q = some z → z.xfer = some y → s.power.on.getLsbD (28 + y.engine.val / 4) = true →
      s.det.enginesFenced.getLsbD y.engine.val = false →
      Gives (.faultResume g id) s fun t => answered 1 t ∧ (∀ w ∈ (getFn t g).faultq.pending, w.id ≠ id) ∧
        cmd? t r.ctx r.q = some { z with xfer := some { y with faulted := none, tile := none } } ∧
        SameBut [.faultq, .cmds] s t) ∧
    Gives (.faultAbort g id) s (fun t => answered 1 t ∧ (∀ w ∈ (getFn t g).faultq.pending, w.id ≠ id) ∧
      LostFor s t r.ctx .faultAborted) ∧
    (∀ v : U64, actionOk v = false → v.toNat / 2 ^ 32 = id.toNat →
      Gives (.faultResponseBadAction g v) s fun t => answered 4 t ∧ (getFn t g).faultq.pending = f.pending ∧
        Counted s t (0xD100 + g.val) 12)) ∧
  (∀ (id : U32) (r : FaultRec) (x : Ctx), (f.pending.find? fun y => y.id == id) = some r → ctx? s r.ctx = some x →
    x.state = .ready → nsCounts f.timeout.toNat ≤ (s.gtc - r.written).toNat →
    Gives (.faultTimeoutExpiry g id) s fun t => LostFor s t r.ctx .faultTimeout ∧
      Counted s t (0xD100 + x.fn.val) 13 ∧ ∀ w ∈ (getFn t g).faultq.pending, w.id ≠ id)

/-- The receiver (08, R260, R261, R269, R273 to R278; 09, R301). -/
def Obligations.WindowReceiver : Prop := ∀ s : State, Inv s →
  (∀ (h : FrameHdr) (x : PairSession), session? s h.src = some x →
    ¬(h.src = s.win.localId ∧ h.dst = s.win.localId) →
    (h.sealOk = true → h.dst = s.win.localId → x.lanes = 0 → Gives (.cancel h) s (· = s)) ∧
    (h.sealOk = true → h.dst = s.win.localId → x.lanes ≠ 0 → h.linkSeq = BitVec.ofNat 32 x.expect →
      (∀ f ∈ s.win.inbox, frameOf f ≠ h.src) → Gives (.cancel h) s fun t =>
      (∃ y, session? t h.src = some y ∧ y.expect = x.expect + 1) ∧ (peer? t h.src).map (·.heard) = some s.gtc ∧
      ∀ o, o ∈ t.win.recvs ↔ o ∈ s.win.recvs ∧ ¬(isOp h o = true ∧ accessCode o.need = h.access)) ∧
    (h.sealOk = false → Gives (.cancel h) s fun t => Counted s t 0xD000 11 ∧ SameBut [.counters, .int] s t) ∧
    (h.sealOk = true → h.dst ≠ s.win.localId → Gives (.cancel h) s fun t =>
      Counted s t 0xD000 12 ∧ SameBut [.counters, .int] s t) ∧
    (h.sealOk = true → h.dst = s.win.localId → x.lanes ≠ 0 → h.linkSeq ≠ BitVec.ofNat 32 x.expect →
      Gives (.cancel h) s fun t =>
      Counted s t 0xD000 13 ∧ SameBut [.counters, .int, .peers] s t ∧
      (session? t h.src).map (·.expect) = some x.expect ∧ (peer? t h.src).map (·.heard) = some s.gtc)) ∧
  (∀ (h : FrameHdr) (s1 : State), takeFrame h true s = (some s1, s1) →
    let queued (f : InFrame) : State := { s1 with win := { s1.win with inbox := s1.win.inbox ++ [f] } }
    (∀ (g g2 : InFrame) (v : State) (runs : List WRun) (b : Bytes) (e : Instr × InFrame),
      (s1.win.inbox.find? fun y => frameOf y == h.src) = some g →
      e ∈ [(Instr.checkWrite h runs, InFrame.check .write h runs), (.checkAtomic h runs, .check .atomic h runs),
        (.readReq h runs, .check .read h runs), (.data h b, .data h b), (.cancel h, .cancel h)] →
      runFrame g (queued e.2) = (v, some g2) →
      Gives e.1 s fun t => t.win.recvs = v.win.recvs ∧ g2 ∈ t.win.inbox ∧ t.win.inbox.getLast? = some e.2) ∧
    ((∀ f ∈ s1.win.inbox, frameOf f ≠ h.src) →
      let before (need : Need) : List WRun :=
        ((s1.win.recvs.find? fun o => isOp h o && o.need == need && o.held.isNone).map (·.runs)).getD []
      let waits (need : Need) (runs : List WRun) (t : State) : Prop :=
        ∃ o ∈ t.win.recvs, isOp h o = true ∧ o.need = need ∧ o.held = none ∧ o.runs = before need ++ runs
      let holds (need : Need) (rs : List Run) (t : State) : Prop :=
        ∃ o ∈ t.win.recvs, isOp h o = true ∧ o.need = need ∧ o.held = some rs
      let gone (need : Need) (t : State) : Prop := ∀ o ∈ t.win.recvs, ¬(isOp h o = true ∧ o.need = need)
      let answered (type code : Nat) (need : Need) (last : Bool) (off : Nat) (b : Bytes) (t : State) : Prop :=
        FrameSent t h.src type (frameQ2 h.window h.tileIndex) (frameQ3 h.serial h.streamTag)
          (frameQ4 code (some need) 0 0 last off) b
      let served (v : State) (rs : List Run) (t : State) : Prop :=
        let data := (poolRuns rs).flatMap fun r => (List.range r.2.1).map fun i =>
          if poisoned v (r.1 + i) 1 then ((0 : U8), true) else (memGet v.pool.mem (r.1 + i), false)
        ∀ i < (data.length + 4095) / 4096,
          let part := (data.drop (4096 * i)).take 4096
          answered 0x30 (if part.any (·.2) then 0x80 else 0) .read (decide (i + 1 = (data.length + 4095) / 4096))
            (4096 * i) (part.map (·.1)) t
      let refusal (need : Need) : Option DCode :=
        if isReady s1 = false then some .notReady
        else match win? s1 h.window with
          | none => some .windowClosed
          | some x =>
            if x.state ≠ .opened then some .windowClosed
            else if h.src &&& x.mask ≠ x.srcMatch &&& x.mask then some .sourceDenied
            else if (match need with | .read => x.read | .write => x.write | .atomic => x.atomic) then none
            else some .noPermission
      (∀ runs : List WRun, h.last = false →
        Gives (.checkWrite h runs) s (waits .write runs) ∧ Gives (.readReq h runs) s (waits .read runs) ∧
        (committed s1 h = false → Gives (.checkAtomic h runs) s (waits .atomic runs))) ∧
      (∀ (e : Instr × Need) (runs : List WRun) (s2 : State), h.last = true →
        e ∈ [(.checkWrite h runs, .write), (.checkAtomic h runs, .atomic), (.readReq h runs, .read)] →
        (e.2 = .atomic → committed s1 h = false) →
        let asked := checkOp h e.2 (before e.2 ++ runs) (dropRecv h e.2 (queued (.check e.2 h runs)))
        (∀ rs, asked = (s2, .ok rs) →
          (e.2 ≠ .read → Gives e.1 s fun t => holds e.2 rs t ∧ answered 0x10 0 e.2 true 0 [] t) ∧
          (e.2 = .read → (∀ r ∈ poolRuns rs, gated s2 r.1 r.2.1 false none = false) →
            Gives e.1 s fun t => gone .read t ∧ served s2 rs t)) ∧
        (∀ code, asked = (s2, .error (some code)) →
          Gives e.1 s fun t => Counted s2 t 0xD000 16 ∧ gone e.2 t ∧ answered 0x11 code e.2 true 0 [] t) ∧
        (∀ c : DCode, refusal e.2 = some c → asked.2 = .error (some (dcodeOf c))) ∧
        (∀ code v, refusal e.2 = none → checkRuns h.window e.2 (before e.2 ++ runs) 0
            (dropRecv h e.2 (queued (.check e.2 h runs))) = (v, .error (some code)) →
          asked.2 = .error (some code)) ∧
        (∀ rs v, refusal e.2 = none → checkRuns h.window e.2 (before e.2 ++ runs) 0
            (dropRecv h e.2 (queued (.check e.2 h runs))) = (v, .ok rs) → e.2 = .atomic →
          fenceBarred v .atomic h.elementType h.reduceOp rs = false →
          0x800000 < stagingUsed v + ((before e.2 ++ runs).map (·.length)).sum ∨ 16384 ≤ historyUsed v →
          asked.2 = .error (some (dcodeOf .busy))) ∧
        (asked = (s2, .error none) →
          Gives e.1 s fun t => .check e.2 h (before e.2 ++ runs) ∈ t.win.inbox ∧ gone e.2 t)) ∧
      (∀ runs : List WRun, committed s1 h = true → Gives (.checkAtomic h runs) s fun t =>
        t.win.recvs = s1.win.recvs ∧ (h.last = true → answered 0x31 0 .atomic true 0 [] t)) ∧
      (∀ (b : Bytes) (o : RecvOp), recvOf? s1 h (fun n => n != .read && accessCode n == h.access) = some o →
        (o.need = .write →
          (∀ p ∈ pieceParts o h.byteOffset b, gated s1 p.1 p.2.length true none = false) →
          Gives (.data h b) s fun t => (∃ y ∈ t.win.recvs, isOp h y = true ∧ y.need = .write ∧
              y.executed = o.executed + b.length ∧ y.received = o.received + b.length) ∧
            t.pool = (foldState (fun p s => poolWrite p.1 p.2 false s) (pieceParts o h.byteOffset b)
              (queued (.data h b))).pool) ∧
        (o.need = .atomic → o.bytes ≤ o.received + b.length →
          (∀ r ∈ poolRuns (o.held.getD []), gated s1 r.1 r.2.1 true none = false) →
          Gives (.data h b) s fun t => gone .atomic t ∧ ∃ c ∈ t.win.history, c.src = h.src ∧
            c.bootId = srcBoot s1 h.src ∧ c.serial = h.serial ∧ c.tile = h.tileIndex ∧ c.gtc = s.gtc ∧
            FrameSent t h.src 0x31 (frameQ2 h.window h.tileIndex) (frameQ3 h.serial o.tag)
              (frameQ4 0 (some .atomic) 0 0 true 0) [])))) ∧
  (∀ (src : PackageId) (w : WindowId) (serial : U32) (tile : Nat) (o : RecvOp), writeOp? s src w serial tile = some o →
    (∀ f ∈ s.win.inbox, frameOf f ≠ src) → o.bytes ≤ o.executed →
    Gives (.windowDataExecuted src w serial tile) s fun t => (∀ y, y ∈ t.win.recvs ↔ y ∈ s.win.recvs ∧
      ¬(y.src = src ∧ y.window = w ∧ y.serial = serial ∧ y.tile = tile ∧ y.need = .write)) ∧
      FrameSent t src 0x31 (frameQ2 w tile) (frameQ3 serial o.tag) (frameQ4 0 (some .write) 0 0 true 0) []) ∧
  (∀ (src : PackageId) (boot : U64) (serial : U32) (tile : Nat),
    Gives (.commitHistoryExpiry src boot serial tile) s fun t => SameBut [.peers] s t ∧
      ∀ c, c ∈ t.win.history ↔ c ∈ s.win.history ∧ ¬(c.src = src ∧ c.bootId = boot ∧ c.serial = serial ∧
        c.tile = tile ∧ 150000000000 ≤ (s.gtc - c.gtc).toNat)) ∧
  (∀ (p : PackageId) (x : Peer), peer? s p = some x → peerTimeoutCounts s ≤ (s.gtc - x.heard).toNat →
    Gives (.receiverPeerSilence p) s fun t => SameBut [.windows] s t ∧
      ∀ o, o ∈ t.win.recvs ↔ o ∈ s.win.recvs ∧ o.src ≠ p)

/-- The sender (07, R235, R243; 08, R261, R273 to R276). -/
def Obligations.WindowSender : Prop := ∀ s : State, Inv s →
  (∀ (h : FrameHdr) (s1 : State), takeFrame h true s = (some s1, s1) →
    (∀ o : SendOp, sendOp? s1 h (fun o => o.phase == 0 && o.need != .read) = some o →
      Gives (.accept h) s fun t =>
        t.win.sends = s1.win.sends.map (fun x => if x = o then { x with phase := 1 } else x)) ∧
    (∀ (o : SendOp) (x : Cmd) (cx : Ctx), sendOp? s1 h (fun o => o.phase == 0) = some o →
      cmd? s1 o.ctx o.q = some x → ctx? s1 o.ctx = some cx →
      (h.code = dcodeOf .busy → Gives (.deny h) s fun t => Counted s1 t (0xD100 + cx.fn.val) 15 ∧
        t.win.sends = s1.win.sends.map (fun x => if x = o then { x with phase := 4, since := s.gtc } else x)) ∧
      (h.code ≠ dcodeOf .busy → x.xfer = none → cx.state = .ready → mayIssue s1 o.ctx = true →
        packageHeld s1 = false →
        Gives (.deny h) s fun t => Counted s1 t (0xD100 + cx.fn.val) 15 ∧ LostFor s t o.ctx .badCommand) ∧
      (∀ (y : Xfer) (tl : Tile) (side : Nat), h.code ≠ dcodeOf .busy → x.xfer = some y → y.tile = some tl →
        tl.begun = false → mayIssue s1 o.ctx = true → packageHeld s1 = false → cx.state = .ready →
        runsHeld s1 (tl.src ++ tl.dst) = true → opsOfCmd s1 o.ctx o.q = [o] → o.need = sideNeed x.raw side →
        faultqRuns (getFn s1 cx.fn).faultq = true → faultqFull (getFn s1 cx.fn).faultq = false →
        tileMeets (modSend o (fun _ => { o with phase := 5, denied := some (h.code, opVa s1 o) }) s1) x y cx.fn tl =
          some (side, .faults .remoteDenied (opVa s1 o)) →
        Gives (.deny h) s fun t =>
          let id := (getFn s1 cx.fn).faultq.nextId
          Counted s1 t (0xD100 + cx.fn.val) 15 ∧
          (getFn t cx.fn).remoteDeny = w64 (id.toNat * 2 ^ 32 + h.code * 2 ^ 24 + h.src.toNat * 2 ^ 12) ∧
          (∃ z w, cmd? t o.ctx o.q = some z ∧ z.xfer = some w ∧ w.faulted = some id ∧ w.next = y.next) ∧
          ∃ r, (getFn t cx.fn).faultq.waiting = (getFn s1 cx.fn).faultq.waiting ++ [r] ∧ r.id = id ∧
            r.code = .remoteDenied ∧ r.side = side ∧ r.va = opVa s1 o)) ∧
    (sendOp? s1 h (fun o => o.phase == 0) = none → Gives (.deny h) s fun t => t.win = s1.win ∧
      ∃ g : Fun, Counted s1 t (0xD100 + g.val) 15) ∧
    (∀ (o : SendOp) (b : Bytes), sendOp? s1 h (fun o => o.phase == 0 && o.need == .read) = some o → h.code ≠ 0x80 →
      Gives (.readData h b) s fun t => t.win.sends = s1.win.sends.map (fun x => if x = o then
        { x with got := overlay x.got h.byteOffset b, phase := if h.last then 3 else 0 } else x)) ∧
    (∀ (o : SendOp) (b : Bytes) (x : Cmd) (cx : Ctx), sendOp? s1 h (fun o => o.phase == 0 && o.need == .read) = some o →
      h.code = 0x80 → cmd? s1 o.ctx o.q = some x → ctx? s1 o.ctx = some cx → cx.state = .ready →
      (mayIssue s1 o.ctx = true → Gives (.readData h b) s fun t => LostFor s t o.ctx .poisonedData) ∧
      (mayIssue s1 o.ctx = false → Gives (.readData h b) s fun t =>
        t.det.arrivals = s1.det.arrivals ++ [.poison o.ctx o.q (opVa s1 o)] ∧ ctx? t o.ctx = some cx)) ∧
    (∀ o : SendOp, sendOp? s1 h (fun o => o.need != .read && o.phase != 3) = some o →
      Gives (.done h) s fun t =>
        t.win.sends = s1.win.sends.map (fun x => if x = o then { x with phase := 3, denied := none } else x))) ∧
  (∀ (p : PackageId) (w : WindowId) (serial : U32) (tile : Nat) (o : SendOp) (x : Cmd),
    (s.win.sends.find? fun o => o.peer == p && o.window == w && o.serial == serial && o.tile == tile &&
      o.phase == 4 && retryCounts s ≤ since s o.since) = some o → cmd? s o.ctx o.q = some x →
    Gives (.denyBusyRetry p w serial tile) s fun t => SameBut [.peers, .windows, .out] s t ∧
      t.win.sends = s.win.sends.map fun y => if y = o then { y with phase := 0 } else y)

/-- Sessions of peers (08, R257, R267, R269 to R272; 13, R402). -/
def Obligations.PaldarLinks : Prop := ∀ s : State, Inv s →
  (∀ m : HelloMsg,
    let up (t : State) : Prop := ∃ y z, peer? t m.src = some y ∧ y.state = .up ∧ y.heard = s.gtc ∧
      y.bootId = some m.bootId ∧ y.hello = none ∧ y.port = fabricPort s m.src [] ∧ y.session = some z ∧
      z.sent = 0 ∧ z.expect = 0 ∧ z.bootId = m.bootId ∧ z.noncePeer = m.nonce ∧
      z.key = pairKey s m.src m.bootId z.nonceLocal m.nonce
    (m.dst ≠ s.win.localId →
      Gives (.hello m) s (fun t => Counted s t 0xD000 12 ∧ SameBut [.counters, .int] s t) ∧
      Gives (.helloAck m) s (fun t => Counted s t 0xD000 12 ∧ SameBut [.counters, .int] s t)) ∧
    (∀ x : Peer, m.dst = s.win.localId → peer? s m.src = some x → mayOpen s = true →
      (∀ e, x.session = none ∨ (∀ o ∈ s.win.sends, o.peer ≠ m.src) → fabricPort s m.src [] = some e →
        Gives (.hello m) s fun t => up t ∧ ∃ z, session? t m.src = some z ∧
          .frame m.src e (wireFrame s m.src e none
            ⟨0, 0x51, 0, 0, 0, 0, leBytes 8 s.sec.bootId.toNat ++ z.nonceLocal⟩) ∈ t.out ∧
          (x.session = none → z.nonceLocal = x.hello.getD ((List.range 16).map (Config.drbgByte s.draws)))) ∧
      (∀ n, x.hello = some n → x.state = .connecting → Gives (.helloAck m) s fun t => up t ∧
        SameBut [.peers] s t ∧ (session? t m.src).map (·.nonceLocal) = some n))) ∧
  (∀ (h : FrameHdr) (x : PairSession) (n : Nat) (s1 : State), session? s h.src = some x →
    ackCount x h.linkSeq = some n → takeFrame h false s = (some s1, s1) →
    Gives (.linkAck h) s fun t => (session? t h.src).map (·.ackGot) = (session? s1 h.src).map fun _ => some n) ∧
  (∀ (p : PackageId) (x : Peer) (ss : PairSession), peer? s p = some x → x.session = some ss →
    (∀ e, x.port = some e → ss.lanes ≠ 0 → 0 < ss.emitted → ss.emitted = min 512 ss.unacked.length →
      retryCounts s ≤ since s ss.advance → retryCounts s ≤ since s ss.resent →
      Gives (.paldarRetryTimeout p) s fun t => session? t p = some { ss with resent := s.gtc } ∧
        ∀ f ∈ ss.unacked.take ss.emitted, .frame p e (wireFrame s p e (some ss.key) f) ∈ t.out) ∧
    (∀ e k, x.port = some e → ss.lanes ≠ 0 → ss.owed = some k → 2500 ≤ since s k →
      Gives (.linkAckTimer p) s fun t => SameBut [.peers, .out] s t ∧
        session? t p = some { ss with ackSent := ss.ackSent + 1, owed := none } ∧
        .frame p e (wireFrame s p e (some ss.key) (stamped ss ⟨ss.ackSent, 0x40, 0, 0, 0, 0, []⟩)) ∈ t.out) ∧
    (ss.unacked ≠ [] → peerTimeoutCounts s ≤ since s ss.advance →
      (fabricPort s p (x.tried ++ x.port.toList) = none → (∀ o ∈ s.win.sends, o.peer ≠ p) →
        Gives (.peerTimeout p) s fun t => Counted s t 0xD000 15 ∧
          ∃ y, peer? t p = some y ∧ y.state = .down ∧ y.session = none ∧ y.since = s.gtc ∧ y.port = none) ∧
      (∀ e, fabricPort s p (x.tried ++ x.port.toList) = some e → Gives (.peerTimeout p) s fun t =>
        ∃ y, peer? t p = some y ∧ y.state = x.state ∧ y.port = some e ∧ y.tried = x.tried ++ x.port.toList))) ∧
  (∀ (p : PackageId) (x : Peer), peer? s p = some x →
    (x.state = .connecting → mayOpen s = true → x.hello = none ∨ 125000 ≤ since s x.since →
      Gives (.helloTimer p) s fun t => SameBut [.peers, .sec, .draws, .out] s t ∧
        let nonce := (List.range 16).map (Config.drbgByte s.draws)
        peer? t p = some { x with hello := some nonce, since := s.gtc } ∧
        ∀ e, fabricPort s p [] = some e → .frame p e (wireFrame s p e none
          ⟨0, 0x50, 0, 0, 0, 0, leBytes 8 s.sec.bootId.toNat ++ nonce⟩) ∈ t.out) ∧
    (x.state = .down → s.power.phase = .awake → 125000 ≤ since s x.since → Gives (.peerDownTimer p) s fun t => SameBut [.peers] s t ∧
      peer? t p = some { x with state := .connecting, hello := none })) ∧
  (∀ (e : Fin 12) (up : Bool), Gives (.ethernetLinkChange e up) s fun t =>
    t.win.links.getLsbD e.val = up ∧ ∀ k, k ≠ e.val → t.win.links.getLsbD k = s.win.links.getLsbD k) ∧
  (∀ (rq : Requester) (p : PackageId) (v : U64),
    accepts s rq ⟨0x6200 + p.toNat / 128, p.toNat % 128 + 1⟩ (.num v.toNat) → v.getLsbD 63 = true →
    p ≠ s.win.localId → Gives (.peerEntryWrite rq p v) s fun t =>
      ∃ y, peer? t p = some y ∧ y.state = .connecting ∧ y.session = none ∧ y.hello = none)

/-- Windows at their owner (08, R258, R259, R262). -/
def Obligations.WindowAdministration : Prop := ∀ s : State, Inv s →
  (∀ (rq : Requester) (g : Fun) (r : WinRequest), resultPending s g = false →
    let asks (op : Nat) : Prop := accepts s rq ⟨0x6100 + g.val, 3⟩ (.bytes (winBytes r op))
    (asks 1 → openStatus s g r = 0 → Gives (.windowOpen rq g r) s fun t => SameBut [.fnOther, .windows, .out] s t ∧
      (getFn t g).winResult = winResult r 1 0 ∧ ∀ e, e ∈ t.win.table ↔ e ∈ s.win.table ∨
        e = (r.window, ⟨.opened, g, r.table, r.root, r.read, r.write, r.atomic, r.srcMatch, r.mask⟩)) ∧
    (∀ x : Win, win? s r.window = some x → x.state = .opened → x.owner = g →
      (asks 2 → Gives (.windowClose rq g r) s fun t => win? t r.window = some { x with state := .closing } ∧
        (getFn t g).winResult = winResult r 2 1 ∧ SameBut [.fnOther, .windows, .out] s t) ∧
      (asks 3 → Gives (.windowModify rq g r) s fun t => win? t r.window = some { x with
          read := r.read, write := r.write, atomic := r.atomic, srcMatch := r.srcMatch, mask := r.mask } ∧
        (getFn t g).winResult = winResult r 3 0 ∧ SameBut [.fnOther, .windows, .out] s t) ∧
      (asks 4 → Gives (.windowRefresh rq g r) s fun t => (g, r.window) ∈ t.win.refreshing ∧
        (∀ o ∈ t.win.recvs, o.window = r.window → o.held.isSome = true → o.old = true) ∧
        (getFn t g).winResult = winResult r 4 1 ∧ t.win.table = s.win.table)) ∧
    (r.op % 256 = 0 ∨ 4 < r.op % 256 → asks (r.op % 256) → Gives (.windowRequestBadOp rq g r) s fun t =>
      (getFn t g).winResult = winResult r (r.op % 256) 7 ∧ SameBut [.fnOther, .out] s t)) ∧
  (∀ (w : WindowId) (x : Win), win? s w = some x → x.state = .closing →
    (∀ o ∈ s.win.recvs, ¬(o.window = w ∧ o.held.isSome = true)) → Gives (.windowCloseDone w) s fun t =>
      win? t w = none ∧ (∀ e ∈ t.win.refreshing, e.2 ≠ w) ∧
      ∀ e, e ∈ t.win.table ↔ e ∈ s.win.table ∧ e.1 ≠ w) ∧
  (∀ (w : WindowId) (e : Fun × WindowId), (s.win.refreshing.find? fun y => y.2 == w) = some e →
    (∀ o ∈ s.win.recvs, ¬(o.window = w ∧ o.old = true)) → Gives (.windowRefreshDone w) s fun t =>
      (∀ y, y ∈ t.win.refreshing ↔ y ∈ s.win.refreshing ∧ y.2 ≠ w) ∧ t.win.table = s.win.table)

/-- Coherence (08, R279 to R285; 12, R380). That CohEnable 0 takes a REFUSED window to OFF is the model's choice
(assumption 34). -/
def Obligations.Coherence : Prop := ∀ s : State, Inv s →
  (∀ (rq : Requester) (n : Fin 64),
    (accepts s rq ⟨0x6010 + n.val, 3⟩ (.num 1) → (cohOf s n.val).1 ≠ .on → (cohOf s n.val).1 ≠ .closing →
      Gives (.cohEnable rq n) s fun t => cohOf t n.val =
        (if cohRefused s n.val = .none then (.on, .none) else (.refused, cohRefused s n.val)) ∧
        ∀ k, k ≠ n.val → cohOf t k = cohOf s k) ∧
    (accepts s rq ⟨0x6010 + n.val, 3⟩ (.num 0) →
      ((cohOf s n.val).1 = .on → Gives (.cohDisable rq n) s fun t => cohOf t n.val = (.closing, .none)) ∧
      ((cohOf s n.val).1 = .refused → Gives (.cohDisable rq n) s fun t => cohOf t n.val = (.off, .none)))) ∧
  (∀ n : Fin 64, (cohOf s n.val).1 = .closing → cohLines s n.val = [] → Gives (.cohCloseDone n) s fun t =>
    cohOf t n.val = (.off, .none) ∧ SameBut [.coherence] s t) ∧
  (∀ (d : Die) (addr : U64) (n : Nat) (o : MemObj), apertureAt s addr.toNat = some (n, o) →
    s.win.filter.length + 256 ≤ filterEntries →
    let a := o.base + (addr.toNat - cohBase s n)
    (∀ len : Nat, len ≤ 4096 → gated s a len false (some d) = false →
      Gives (.coherentAccess d addr (.read len)) s fun t =>
        .completion 0 .success (poisoned s a len) (poolBytes s a len) ∈ t.out ∧ t.pool = s.pool) ∧
    (∀ b : Bytes, b.length ≤ 4096 → gated s a b.length true (some d) = false →
      (∀ l ∈ linesOf a b.length, l ∉ s.pool.poison) →
      Gives (.coherentAccess d addr (.write b)) s fun t => poolBytes t a b.length = b ∧
        ∀ i, i < a ∨ a + b.length ≤ i → memGet t.pool.mem i = memGet s.pool.mem i)) ∧
  (∀ (d : Die) (line : Nat) (x : Snoop), (s.win.snoops.find? fun y => y.die == d && y.line == line) = some x →
    s.win.waiting = [] → Wakes (.snoopAck d line none) s fun t => (∀ y, y ∈ t.win.snoops ↔ y ∈ s.win.snoops ∧ y ≠ x) ∧
      (∀ l ∈ t.win.filter, l.address = line → l.owned = false ∧ (x.invalidate = true → d ∉ l.dies)) ∧
      t.pool = s.pool) ∧
  (∀ (d : Die) (line : Nat) (x : Snoop),
    (s.win.snoops.find? fun y => y.die == d && y.line == line && !y.late && 125000 ≤ since s y.since) = some x →
    Gives (.snoopTimeout d line) s fun t => Raised s t .snoopTimeout ∧
      (.snoopTimeout ∉ s.err.wireFaults → s.err.capture.heldNow = false →
        t.err.capture.source = srcCode .snoopTimeout ∧ t.err.capture.address = w64 line ∧
        t.err.capture.master = masterOf x.master ∧ t.err.capture.access = 0x100 + x.master.access) ∧
      t.win.snoops = s.win.snoops.map fun y => if y = x then { y with late := true } else y)

/-- The pool (09, R298 to R312). That a FAILED repair leaves the row and the repairs left as they were is the model's
choice (assumption 67). -/
def Obligations.PoolMaintenance : Prop := ∀ s : State, Inv s →
  (∀ (line : Nat) (bad : Bool) (mc : LineCheck) (who : LineReader), (∀ c, who ≠ .context c) → line % 64 = 0 →
    line ∉ s.pool.poison →
    (bad = false ∨ assocGet s.pool.stale line = none) →
    (copiesOf s line = none →
      Gives (.poolLineRead line bad ⟨.clean, mc⟩ who) s (fun t => SameBut [.out] s t ∧
        .stackLine false line (servedAt s line) (keySlot s line) ∈ t.out) ∧
      ((assocGet s.pool.tracker (rowBase line)).getD 0 + 1 < rowThreshold s →
        Gives (.poolLineRead line bad ⟨.corrected, mc⟩ who) s fun t => Counted s t 0xD000 20 ∧
          t.pool.tracker.head? = some (rowBase line, (assocGet s.pool.tracker (rowBase line)).getD 0 + 1) ∧
          t.pool.poison = s.pool.poison) ∧
      (poisonable s line = true → s.pool.poison.length < 65536 →
        Gives (.poolLineRead line bad ⟨.uncorrectable, mc⟩ who) s fun t => Counted s t 0xD000 21 ∧
          Raised s t .poolLinePoisoned ∧ line ∈ t.pool.poison ∧
          ∀ l, l ≠ line → (l ∈ t.pool.poison ↔ l ∈ s.pool.poison)) ∧
      (poisonable s line = true → 65536 ≤ s.pool.poison.length →
        Gives (.poolLineRead line bad ⟨.uncorrectable, mc⟩ who) s fun t => Raised s t .poolLinePoisoned ∧
          Raised s t .poisonDirectoryFull ∧ t.pool.poison = s.pool.poison)) ∧
    (∀ mirror, copiesOf s line = some mirror →
      Gives (.poolLineRead line bad ⟨.uncorrectable, .clean⟩ who) s (fun t => Counted s t 0xD000 21 ∧
        Counted s t 0xD000 22 ∧ Raised s t .poolMirrorServed ∧ t.pool.poison = s.pool.poison) ∧
      (inCarveOut s line = false → s.pool.poison.length < 65536 →
        Gives (.poolLineRead line bad ⟨.uncorrectable, .uncorrectable⟩ who) s fun t =>
          Raised s t .poolLinePoisoned ∧ line ∈ t.pool.poison))) ∧
  (∀ (line : Nat) (pc mc : LineCheck) (who : LineReader), (∀ c, who ≠ .context c) → line % 64 = 0 →
    line ∉ s.pool.poison → (assocGet s.pool.stale line).isSome = true → inCarveOut s line = false →
    poisonable s line = true → s.pool.poison.length < 65536 →
    Gives (.poolLineRead line true ⟨pc, mc⟩ who) s fun t => Counted s t 0xD000 21 ∧ Raised s t .poolLinePoisoned ∧
      line ∈ t.pool.poison) ∧
  (∀ (line : Nat) (c : CtxId) (cx : Ctx), line % 64 = 0 → line ∈ s.pool.poison → ctx? s c = some cx →
    cx.state = .ready → copiesOf s line = none →
    Gives (.poolLineRead line false ⟨.clean, .clean⟩ (.context c)) s fun t => LostFor s t c .poisonedData) ∧
  (∀ (row : Nat) (m : Remap), (s.pool.remaps.find? fun m => m.row == row && m.copying) = some m →
    Gives (.rowRemapCopyDone row) s fun t => (∀ x ∈ t.pool.remaps, x.row = row → x.copying = false) ∧
      { m with copying := false, fromCopy := [] } ∈ t.pool.remaps ∧
      (∀ l ∈ linesOf row 2048, .stackLine true l (m.spare + l % 2048) (keySlot s l) ∈ t.out) ∧
      (∀ e ∈ t.pool.tracker, e.1 ≠ row) ∧ Raised s t .poolRowRemapped) ∧
  (∀ (rq : Requester) (st : Stack) (v : U64), isReady s = false →
    (s.variant ≠ .l64 → accepts s rq ⟨0x5040 + st.val, 3⟩ (.num v.toNat) → s.pool.repairing = none →
      repairLeft s st.val ≠ 0 → Gives (.repairRequest rq st v) s fun t =>
        t.pool.repairing = some (st.val, v) ∧ assocGet t.pool.repairResults st.val = some 1) ∧
    (s.variant = .l64 → accepts s rq ⟨0x5060 + st.val, 1⟩ (.num v.toNat) → s.pool.margining = none →
      field v.toNat 17 16 ≤ 1 → Gives (.marginRequest rq st v) s fun t =>
        t.pool.margining = some (st.val, v) ∧ assocGet t.pool.marginResults st.val = some 1)) ∧
  (∀ (st : Stack) (v : U64),
    (s.pool.repairing = some (st.val, v) →
      Gives (.repairDone st true) s (fun t => t.pool.repairing = none ∧
        assocGet t.pool.repairResults st.val = some 2 ∧ repairLeft t st.val = repairLeft s st.val - 1 ∧
        ∀ a, (∀ r ∈ servedRows s (channelBase st.val (requestChannel v) + 2048 * requestRow v) 2048,
          lineOf a ∉ linesOf r 2048) → memGet t.pool.mem a = memGet s.pool.mem a) ∧
      Gives (.repairDone st false) s (fun t => SameBut [.pool] s t ∧ t.pool = { s.pool with
        repairing := none, repairResults := assocPut s.pool.repairResults st.val 4 })) ∧
    (∀ errors : Nat, errors < 2 ^ 32 → s.pool.margining = some (st.val, v) →
      Gives (.marginDone st true errors) s fun t => t.pool.margining = none ∧
        assocGet t.pool.marginResults st.val = some (w64 (errors * 2 ^ 32 + 2)) ∧
        ∀ a, (∀ r ∈ servedRows s (channelBase st.val (requestChannel v)) channelBytes, lineOf a ∉ linesOf r 2048) →
          memGet t.pool.mem a = memGet s.pool.mem a)) ∧
  (∀ (x : Scrub) (b : Nat) (e : Bool), memNext s = some (.scrub b e) → s.pool.scrubs.find? (scrubAt b e) = some x →
    let n := scrubBytes x
    let from_ := x.base + x.done
    let swept (a : Nat) : Prop := (from_ ≤ a ∧ a < from_ + n) ∨
      ∃ m, x.mirror = some m ∧ m + x.done ≤ a ∧ a < m + x.done + n
    let step (t : State) : Prop :=
      (∀ a, swept a → memGet t.pool.mem a = 0 ∧ ∀ p ∈ t.pool.poison, spansMeet p 64 a 1 = false) ∧
      (∀ a, ¬swept a → memGet t.pool.mem a = memGet s.pool.mem a) ∧
      t.pool.scrubs = if x.bytes ≤ x.done + n then s.pool.scrubs.erase x
        else s.pool.scrubs.map fun y => if y = x then { y with done := y.done + n } else y
    (e = false ∨ x.done + n < x.bytes → Gives .scrubStep s step) ∧
    (e = true → x.bytes ≤ x.done + n → ∃ u, exec .scrubStep s = .next (memStepped (wake u)) ∧ step u))

/-- PTP (10, R323 to R325). That an accepted Sync takes HOLDOVER to LOCKING and that the path delay stops at 0 are the
model's choices (assumption 37). -/
def Obligations.TimeSynchronization : Prop := ∀ s : State,
  (∀ (identity : U64) (seq : U16) (arrival : U64),
    (fromMaster s identity = false → exec (.ptpSync identity seq arrival) s = .next s) ∧
    (fromMaster s identity = true → Gives (.ptpSync identity seq arrival) s fun t => SameBut [.sync] s t ∧
      t.sync.sync = some (seq, arrival) ∧ t.sync.lastSync = s.gtc ∧
      t.sync.state = (if s.sync.state = .holdover then .locking else s.sync.state))) ∧
  (∀ (identity : U64) (seq : U16) (origin : Nat) (arrival : U64), fromMaster s identity = true →
    s.sync.sync = some (seq, arrival) →
    let off : Int := (countNs arrival : Int) - (origin : Int) - (s.sync.delay : Int)
    (s.sync.state = .locked → Gives (.ptpFollowUp identity seq origin) s fun t => SameBut [.sync] s t ∧
      t.sync.offset = saturate32 off ∧ t.sync.slew = off ∧ t.sync.state = .locked ∧ t.sync.sync = none ∧
      t.sync.inBand = if off.natAbs ≤ 20 then s.sync.inBand + 1 else 0) ∧
    (s.sync.state = .locking → s.boot.state = .ready → Gives (.ptpFollowUp identity seq origin) s fun t =>
      t.sync.offset = saturate32 off ∧ t.gtc = s.gtc ∧
      t.sync.state = if off.natAbs ≤ 20 ∧ 15 ≤ s.sync.inBand then .locked else .locking) ∧
    (s.sync.state = .locking → s.boot.state ≠ .ready → s.sync.stepped = false → off < 0 →
      Gives (.ptpFollowUp identity seq origin) s fun t => t.gtc = s.gtc + w64 (off.natAbs * 5 / 4) ∧
        t.sync.stepped = true ∧ t.sync.offset = saturate32 off ∧ t.sync.inBand = 0)) ∧
  (∀ (identity : U64) (seq : U16) (receive : Nat) (t1 : Nat) (t2 t3 : U64), fromMaster s identity = true →
    s.sync.delayReq = some (seq, t3) → s.sync.last = some (t1, t2) →
    Gives (.ptpDelayResp identity seq receive) s fun t => t.sync = { s.sync with
      delayReq := none
      delay := ((((countNs t2 : Int) - (t1 : Int)) + ((receive : Int) - (countNs t3 : Int))) / 2).toNat }) ∧
  (∀ a : Announce, ptpPort s = true → a.domain = objNum s 0x7001 5 → a.identity ≠ ptpIdentity →
    Gives (.ptpAnnounce a) s fun t => SameBut [.sync] s t ∧ (a, s.gtc) ∈ t.sync.foreign ∧
      (∀ y ∈ t.sync.foreign, y.1.identity = a.identity → y = (a, s.gtc)) ∧ t.sync.master = bestMaster t) ∧
  Gives .announceReceiptTimeout s (fun t => SameBut [.sync] s t ∧ t.sync.master = bestMaster t ∧
    ∀ y, y ∈ t.sync.foreign ↔ y ∈ s.sync.foreign ∧ (s.gtc - y.2).toNat < 3750000000) ∧
  (ptpPort s = true → ∀ m, s.sync.master = some m → Gives .delayReqTimer s fun t =>
    t.out = .ptpDelayReq (ptpHdr s (-4)) s.sync.seq :: s.out ∧
    t.sync = { s.sync with seq := s.sync.seq + 1, delayReq := some (BitVec.ofNat 16 s.sync.seq, s.gtc) }) ∧
  (ptpPort s = true → s.sync.master = none →
    (∀ (requester : U64) (seq : U16) (arrival : Nat), exec (.ptpDelayReq requester seq arrival) s =
      .next (emit (.ptpDelayResp (ptpHdr s (-4)) requester seq.toNat arrival) s)) ∧
    Gives .ptpSyncTimer s (fun t => t.sync = { s.sync with seq := s.sync.seq + 1 } ∧
      t.out = .ptpFollowUp (ptpHdr s (-4)) s.sync.seq (countNs s.gtc) ::
        .ptpSync (ptpHdr s (-4)) s.sync.seq :: s.out) ∧
    exec .ptpAnnounceTimer s = .next (emit (.ptpAnnounce (ptpHdr s 0) (ownAnnounce s)) s)) ∧
  (s.sync.state = .locked → 1250000000 ≤ (s.gtc - s.sync.lastSync).toNat →
    Gives .syncLossTimeout s fun t => t.sync.state = .holdover ∧
      t.sync.slew = 0 ∧ Raised s t .gtcSyncLost)

/-- Fences, remaps and modes (10, R339 to R345). That a tile's spare goes to its lowest fenced cluster, as `remapped`
says, is the model's choice (assumption 39). -/
def Obligations.UnitsAndModes : Prop := ∀ s : State, Inv s →
  (∀ n : Nat, n < clustersOf s.variant → Gives (.unitFailureReport (.cluster n)) s fun t => n ∈ t.det.fenced) ∧
  (∀ k n : Nat, n / 15 = k → n < clustersOf s.variant →
    Gives (.unitFailureReport (.tile k)) s fun t => n ∈ t.det.fenced) ∧
  (∀ e : Engine, Gives (.unitFailureReport (.engine e)) s fun t => t.det.enginesFenced.getLsbD e.val = true ∧
    t.det.fenced = s.det.fenced) ∧
  (∀ (u : FailUnit) (ns : List Nat) (e : Option Engine) (c : CtxId) (cx : Ctx),
    ((∃ n, u = .cluster n ∧ ns = [n] ∧ e = none ∧ n < clustersOf s.variant ∧ n ∉ s.det.fenced) ∨
      ∃ k : Engine, u = .engine k ∧ ns = [] ∧ e = some k ∧ s.det.enginesFenced.getLsbD k.val = false) →
    ctx? s c = some cx → cx.state = .ready → c ∈ ctxsOnUnit s ns e →
    Gives (.unitFailureReport u) s fun t => Raised s t .unitFenced ∧ LostFor s t c .unitFenced ∧
      ∀ x : Cmd, cmd? s c x.q = some x → cmdOnUnit s ns e x = true → (∀ st, x.stage ≠ .ended st) →
        Ended t c x.q .unitFenced) ∧
  (∀ rq : Requester, s.obj.ctxs = [] → s.det.remapping = false → accepts s rq ⟨0x7002, 4⟩ (.num 1) →
    Gives (.unitRemap rq) s fun t => t.det = { s.det with remapping := true, remapSet := s.det.fenced } ∧
      t.out = .objectStatus rq ⟨0x7002, 4⟩ .ok :: s.out) ∧
  (s.det.remapping = true → Gives .unitRemapDone s fun t => t.det.remapping = false ∧
    (∀ n, n ∈ t.det.fenced ↔ n ∈ s.det.fenced ∧ n ∉ remapped s) ∧
    t.det.remapResult = BitVec.ofNat 32 ((remapped s).length * 2 ^ 16 + t.det.fenced.length)) ∧
  (∀ rq : Requester, accepts s rq ⟨0x7003, 5⟩ (.num 1) → stageRefused s = none → stagedClusters s ≠ [] →
    Gives (.modeChangeStage rq) s fun t => t.det.mode = .staging ∧ t.det.unacked = stagedClusters s ∧
      t.det.acked = [] ∧ t.det.stageGtc = s.gtc ∧ t.det.epoch = s.det.epoch ∧
      ∀ n ∈ stagedClusters s, .modeStage n t.det.stageWord ∈ t.out) ∧
  (∀ n : Nat, s.det.mode = .staging → n ∈ s.det.unacked →
    (stageLate s = false → Gives (.modeStageAck n) s fun t => SameBut [.det] s t ∧
      t.det.acked = s.det.acked ++ [n] ∧ (∀ k, k ∈ t.det.unacked ↔ k ∈ s.det.unacked ∧ k ≠ n) ∧
      t.det.mode = if ∀ k ∈ s.det.unacked, k = n then .commitPending else .staging)) ∧
  (s.det.mode = .commitPending → s.det.commitGtc ≤ s.gtc → Gives .modeCommit s fun t =>
    t.det.mode = .committed ∧ t.det.modeWord = s.det.stageWord ∧ t.det.epoch = s.det.epoch + 1 ∧
    ∀ n ∈ s.det.acked, n ∉ s.det.fenced → .modeApply n (s.det.epoch.toNat + 1) ∈ t.out)

/-- Fixed schedules (10, R318, R326, R337, R345). -/
def Obligations.FixedSchedules : Prop := ∀ s : State, Inv s →
  (∀ (c : CtxId) (x : Cmd) (cx : Ctx) (f : FixedSt), packageHeld s = false → contextsInWindow s = [c] →
    ctx? s c = some cx → cx.fixed = some f → f.toLog = [] → f.logWrites = [] → f.stalled = false →
    (∀ a ∈ s.det.arrivals, arrivalCtx a ≠ some c) → fetchingCmd s c = none → cx.state = .ready →
    dispatchHead s c = some x → x.stage = .queued 0 → decodeStatus s cx.fn x = .success →
    barrierSet x.raw = false → waitRefs x.raw = [] → hdrOpcode x.raw ≠ 0x20 → takesTag (hdrOpcode x.raw) = false →
    lateHeld s x = false → fnStalled s cx.fn = false → inWindow s f.slotMask = true →
    Gives .slotIssueWindowStart s fun t => SameBut [.ctxs, .cmds] s t ∧
      (∃ y ∈ t.cmd.table, y.ctx = c ∧ y.q = x.q) ∧
      ∀ y ∈ t.cmd.table, y.ctx = c → y.q = x.q → y.stage = .dispatched ∧ y.epoch = s.det.epoch.toNat) ∧
  (∀ (c : CtxId) (x : Ctx) (f : FixedSt) (o : MemObj) (n : Nat) (e : Bytes), ctx? s c = some x →
    x.fixed = some f → f.logMode = .replay → f.live = false → moraineObj s f = some o →
    entryGate s f o = none → (∀ w ∈ f.replayWaits, f.setAside.contains w.entry = false) → nextEntry s f o = some (n, e) →
    entryTime s c e ≤ s.gtc.toNat →
    let moved (p : FixedSt → Prop) (t : State) : Prop := ∃ y, fixed? t c = some y ∧ y.cursor = n + e.length ∧ p y
    (entryKind e = 2 → Gives (.replayEntryDue c) s fun t => SameBut [.ctxs] s t ∧
      fixed? t c = some { f with cursor := n + e.length, setAside := f.setAside ++ [n] }) ∧
    (entryKind e = 3 → Gives (.replayEntryDue c) s (moved fun y => y.stalled = true)) ∧
    (entryKind e = 4 → Gives (.replayEntryDue c) s (moved fun y => y.stalled = false)) ∧
    (entryKind e = 1 → x.state = .ready → doorbellValid x (w64 (qwordAt e 2)) = true →
      Gives (.replayEntryDue c) s fun t => moved (fun _ => True) t ∧
        ∃ y, ctx? t c = some y ∧ y.tail = BitVec.ofNat 24 (qwordAt e 2)))

/-- Event rings and interrupts (11, R348 to R363). -/
def Obligations.EventsAndWeir : Prop := ∀ (s : State) (g : Fun), Inv s →
  let x := (getFn s g).int
  (∀ (e : EvRec) (es : List EvRec), x.formed = e :: es →
    (∀ y : Ring, fnStalled s g = false → x.held = [] → getRing s g e.ring = some y → y.overflow = false →
      ringUsed y < 2 ^ y.log2 - 1 → y.base.toNat % 4096 = 0 → dmaOpen s = true →
      Gives (.eventRecordWrite g) s fun t => es <+: (getFn t g).int.formed ∧
        getRing t g e.ring = some { y with producer := y.producer + 1 } ∧
        .write (portOf g) (y.base.toNat + 32 * (y.producer.toNat % 2 ^ y.log2)) none
          (eventBytes e (phaseOf y.producer.toNat y.log2)) ∈ t.out) ∧
    (fnStalled s g = true → dmaOpen s = true → x.held.length < 4096 → Gives (.eventRecordWrite g) s fun t =>
      (getFn t g).int = { x with formed := es, held := x.held ++ [e] } ∧ SameBut [.int] s t)) ∧
  (barOpen s g = true →
    (∀ (r : U8) (v : U32) (y : Ring), getRing s g r.toNat = some y →
      ((y.producer - v).toNat ≤ 2 ^ y.log2 → y.overflow = false → Gives (.ringConsumerWrite g r v) s fun t =>
        getRing t g r.toNat = some { y with consumer := v } ∧ SameBut [.int] s t) ∧
      (2 ^ y.log2 < (y.producer - v).toNat → Gives (.ringConsumerWrite g r v) s fun t =>
        getRing t g r.toNat = some y ∧ Counted s t (0xD100 + g.val) 1)) ∧
    (∀ (k : Fin 5) (v : U64),
      Gives (.intPendingClear g k v) s (fun t =>
        (getFn t g).int.latches = x.latches &&& ~~~ (v.setWidth 320 <<< (64 * k.val)) ∧
        (getFn t g).int.masks = x.masks) ∧
      Gives (.intMaskWrite g k v) s (fun t => (getFn t g).int.latches = x.latches ∧
        ∀ i < 320, (getFn t g).int.masks.getLsbD i = if i / 64 = k.val then decide (i < 259) && v.getLsbD (i % 64)
          else decide (i < 259) && x.masks.getLsbD i)) ∧
    (∀ v : U64, Gives (.intModerationWrite g v) s fun t =>
      (getFn t g).int.delayNs = min (v.toNat % 2 ^ 20) 1000000 ∧
      (portOf g = 0 → (getFn t g).int.targetDie.val = v.toNat / 2 ^ 22 % 4) ∧
      (portOf g ≠ 0 → (getFn t g).int.targetDie = x.targetDie))) ∧
  (s.power.phase ≠ .awake → exec (.weirDelayExpiry g) s = .next s) ∧
  (s.power.phase = .awake → x.weir = .holding → rawSummary x = true → nsCounts x.delayNs ≤ (s.gtc - x.weirGtc).toNat →
    Gives (.weirDelayExpiry g) s fun t => (getFn t g).int.weir = .opened ∧
      (getFn t g).int.latches = x.latches) ∧
  (∀ (d : Die) (idle : Bool), Gives (.idleHint d idle) s fun t => t.idle.getLsbD d.val = idle ∧
    ∀ k, k ≠ d.val → t.idle.getLsbD k = s.idle.getLsbD k)

/-- Sleep and wake (11, R365 to R369; 14, R429 to R431). That no lease is held after sleep entry is the model's
reading (assumption 44). -/
def Obligations.WakeAndSleep : Prop := ∀ s : State, Inv s →
  (s.power.phase = .asleep →
    let woken (code : Nat) (t : State) : Prop := t.power.phase = .waking ∧ t.power.wakeCause = causeWord code s.gtc ∧
      t.power.wakeLate = none ∧ Counted s t 0xD000 17
    (∀ (w : WakeInput) (n : Nat), watchedBy s w = some n → Gives (.wakeFiring w) s fun t => woken n t ∧
      ∀ g k, w = .source g k → t.power.slept = s.power.slept ++ [(g, k)] ∧
        (s.power.on.getLsbD (portOf g).val = false → (getPort t (portOf g)).wake = true)) ∧
    (∀ w, watchedBy s w = none → Gives (.wakeFiring w) s fun t => t.power.phase = .asleep ∧
      SameBut [.power] s t) ∧
    (∀ n, objNum s 0x8000 4 ≠ 0 → objNum s 0x8000 4 ≤ s.gtc.toNat → watchedBy s (.input 0) = some n →
      Gives .gtcAlarm s (woken n)) ∧
    Gives .pkgWakereq s (woken 0x41) ∧ Gives .hmpWakeFrame s (woken 0x42)) ∧
  (∀ rq : Requester, accepts s rq ⟨0xB000, 8⟩ (.num 1) → s.power.phase = .awake →
    Gives (.sleepRequest rq) s fun t => t.power.refusal = sleepRefusal s ∧
      t.power.phase = (if sleepRefusal s = 0 then .entering else .awake) ∧ SameBut [.power, .out] s t) ∧
  (s.power.phase = .entering → s.power.wakeLate = none → Gives .sleepEntered s fun t => t.power.phase = .asleep ∧
    t.power.on = 0 ∧ t.trans.leases = [] ∧ t.trans.walks = [] ∧ t.trans.scans = [] ∧ (∀ b ∈ t.trans.banks, b = []) ∧
    (∀ p ∈ t.ports, p.ats = []) ∧ t.sec.lineKeys = [] ∧ t.sec.laneKeys = [] ∧ t.pool.stale = [] ∧
    ∀ i, (∀ e ∈ s.pool.stale, ∀ m, copiesOf s e.1 = some m → i < m ∨ m + 64 ≤ i) →
      memGet t.pool.mem i = memGet s.pool.mem i) ∧
  (s.power.phase = .waking → s.power.good.getLsbD 0 = true → s.power.good.getLsbD 2 = true →
    Gives .wakeComplete s fun t => t.power.phase = .awake ∧ t.power.on = selectedDomains s ∧ t.power.slept = [] ∧
      t.sync.state = .locking ∧ (getPort t 0).link = .training ∧ t.sec.lineKeys = poolKeys (secretUsed s.sec 1))

/-- The error collector (12, R370 to R381, R388 to R394). -/
def Obligations.ErrorReactions : Prop := ∀ s : State, Inv s →
  (∀ (e : Src) (i : ErrInfo),
    (pairClamped s e i = true → exec (.errorRaise e i) s = .next s) ∧
    (e ∈ s.err.wireFaults → e ≠ .unitFenced → e ≠ .internalCorrected → e ≠ .contextStateUncorrectable →
      exec (.errorRaise e i) s = .next s) ∧
    (pairClamped s e i = false → e ∉ s.err.wireFaults → e ≠ .unitFenced → e ≠ .internalCorrected →
      e ≠ .contextStateUncorrectable →
      Gives (.errorRaise e i) s fun t => Raised s t e ∧ ((reactionOf s e).testBit 4 = true → t.err.pin = true) ∧
        (2 ≤ srcClass e → t.err.capture.heldNow = true ∧ (s.err.capture.heldNow = false →
          t.err.capture.source = srcCode e ∧ t.err.capture.gtc = s.gtc)) ∧
        t.err.pkg = (if srcClass e = 3 then .fatal
          else if srcClass e = 2 ∧ s.err.pkg = .normal then .blockFailed else s.err.pkg) ∧
        (srcClass e < 3 → s.err.pkg = .normal ∨ (srcClass e < 2 ∧ s.err.pkg = .blockFailed) →
          ((reactionOf s e).testBit 3 = true → t.err.packagePending = true) ∧
          ((reactionOf s e).testBit 3 = false → (reactionOf s e).testBit 2 = true → t.err.blockPending = true))) ∧
    (pairClamped s .internalCorrected i = false → Gives (.errorRaise .internalCorrected i) s fun t =>
      Raised s t .internalCorrected ∧
      ∀ who a x, faultyOwner i = some who → asker s who = some a →
        storeLookup s who a (i.address.toNat / 4096) = some x → x.locked = false →
        ∀ y ∈ getBank t (bankOf s who), y.id ≠ x.id) ∧
    (pairClamped s .unitFenced i = false →
      (i.kind = 5 → exec (.errorRaise .unitFenced i) s = exec (.unitFailureReport (.cluster i.unit)) s) ∧
      (i.kind = 4 → exec (.errorRaise .unitFenced i) s = exec (.unitFailureReport (.engine (Fin.ofNat 32 i.unit))) s) ∧
      (i.kind ≠ 4 → i.kind ≠ 5 → Gives (.errorRaise .unitFenced i) s fun t => Raised s t .unitFenced)) ∧
    (∀ (c : CtxId) (cx : Ctx), pairClamped s .contextStateUncorrectable i = false → i.ctx = some c →
      ctx? s c = some cx → cx.state = .ready →
      Gives (.errorRaise .contextStateUncorrectable i) s fun t => LostFor s t c .poisonedData)) ∧
  (∀ e : Src, (pairClamped s e {} = true → exec (.brokenWire e) s = .next s) ∧
    (pairClamped s e {} = false → e ∉ s.err.wireFaults → e ≠ .wireFault → Gives (.brokenWire e) s fun t =>
      Raised s t .wireFault ∧ t.err.wireFaults = s.err.wireFaults ++ [e] ∧
      (srcClass e = 3 → Raised s t e ∧ t.err.pkg = .fatal ∧
        (s.err.capture.heldNow = false → t.err.capture.source = srcCode e)))) ∧
  (∀ rq : Requester, accepts s rq ⟨0x9001, 0x0B⟩ (.num 1) → Gives (.errCaptureRelease rq) s fun t =>
    t.err = { s.err with capture := Capture.init } ∧ SameBut [.err, .out] s t) ∧
  (∀ (g : Fun) (v : U64), barOpen s g = true → v.getLsbD 0 = true → Gives (.fnErrRelease g v) s fun t =>
    (getFn t g).capture = Capture.init ∧ OtherFns g s t ∧ SameBut [.capture] s t) ∧
  (∀ rq : Requester, accepts s rq ⟨0x9000, 6⟩ (.num 1) → s.err.pin = true → pinHeld s = none →
    (heldLong s = true → Gives (.errOutRelease rq) s fun t =>
      t.err = { s.err with pin := false, releaseWaiting := false } ∧ .errPins false ∈ t.out) ∧
    (heldLong s = false → Gives (.errOutRelease rq) s fun t => t.err = { s.err with releaseWaiting := true })) ∧
  (s.err.pin = true → s.err.releaseWaiting = true → heldLong s = true → Gives .errHoldExpiry s fun t =>
    t.err = { s.err with pin := false, releaseWaiting := false } ∧ t.out = .errPins false :: s.out) ∧
  (s.err.mismatch = false → Gives .errOutMismatch s fun t => Raised s t .errPinMismatch ∧ t.err.mismatch = true) ∧
  (s.err.mismatch = true → exec .errOutMismatch s = .next s) ∧
  exec .errOutMismatchEnd s = .next { s with err := { s.err with mismatch := false } } ∧
  (∀ (rq : Requester) (ref : Ref), accepts s rq ref (.num 0) → 0xD000 ≤ ref.index → ref.index ≤ 0xD11F →
    Gives (.counterClear rq ref) s fun t => assocGet t.counters (ref.index * 256 + ref.sub) = none ∧
      ∀ k, k ≠ ref.index * 256 + ref.sub → assocGet t.counters k = assocGet s.counters k) ∧
  (pairClamped s .mgmtCoreFault { kind := 9, access := 7 } = false →
    Gives .watchdogExpiry s fun t => Raised s t .mgmtCoreFault)

/-- The resets (12, R382 to R386; 14, R434; 15, R438 to R441). That a block reset empties the block at its start, keeps
CohEnable's value and takes the pair test's result for ErrWireFault (assumption 42), and that a package reset is taken
whenever the core's supply is good and loses the sessions (assumption 43), are the model's choices. -/
def Obligations.Resets : Prop := ∀ s : State, Inv s →
  let empty (t : State) : Prop := t.obj.ctxs = [] ∧ t.cmd.table = [] ∧ t.trans.leases = [] ∧
      (∀ b ∈ t.trans.banks, b = []) ∧ t.win.table = [] ∧ t.win.sends = [] ∧ t.win.filter = []
  let freed (t : State) : Prop := t.obj.objs = [] ∧ (∀ c ∈ t.win.coh, c = (.off, .none)) ∧
    (∀ f ∈ t.fns, f.stallGtc = 0) ∧ (s.boot.result = .running → t.boot.result = .blockReset) ∧
    ∀ o ∈ s.obj.objs, obj? s o.slot = some o →
      ⟨o.base, o.bytes, 0, o.mirrorSpan, some o.owner, false, false⟩ ∈ t.pool.scrubs
  ((∀ rq : Requester, accepts s rq ⟨0x9000, 3⟩ (.num 1) → s.err.pkg ≠ .resetting →
      Gives (.blockReset (some rq)) s fun t => empty t ∧ freed t ∧ t.err.pkg = .resetting ∧ t.od = s.od ∧ t.stored = s.stored) ∧
    (s.err.blockPending = true → s.err.pkg ≠ .fatal → s.err.pkg ≠ .resetting → Gives (.blockReset none) s fun t =>
      empty t ∧ freed t ∧ t.err.pkg = .resetting ∧ t.err.blockPending = false ∧ t.od = s.od ∧ t.stored = s.stored) ∧
    (∀ badPairs : List Src, s.err.pkg = .resetting → s.boot.resetting = false →
      Gives (.blockResetDone badPairs) s fun t => empty t ∧ t.err.pkg = .normal ∧ t.err.wireFaults = badPairs ∧
        t.idle = 0 ∧ t.port0.mode = 0 ∧ (∀ f ∈ t.fns, f.resetGtc = s.gtc) ∧
        ((getPort s 0).perst = true → (getPort t 0).link = .down) ∧
        ((getPort s 0).perst = false → (getPort t 0).link = .training ∧ .portTraining 0 ∈ t.out)) ∧
    (∀ f : ResetFindings, s.power.good.getLsbD 0 = true →
      (∀ t, s.power.coreRise = some t → 1250000 ≤ (s.gtc - t).toNat) → Gives (.packageReset f) s fun t => empty t ∧
      t.boot.resetting = true ∧ t.boot.state = .resetDone ∧ t.gtc = 0 ∧ t.variant = s.variant ∧
      t.mgmt.sessions = [] ∧ t.win.peers.all (fun p => p.session.isNone) = true ∧
      (s.power.good.getLsbD 2 = false → t.boot.poolWait = some f ∧ t.pool.regions = []))) ∧
  (s.boot.resetting = true → s.power.good.getLsbD 2 = true → s.err.pkg ≠ .fatal →
    Gives .resetDone s fun t => t.boot.resetting = false ∧ t.boot.poolWait = none ∧
      (s.boot.poolWait = none → t = { s with boot := { s.boot with resetting := false } }) ∧
      ∀ f, s.boot.poolWait = some f → t.sec.lineKeys = poolKeys (secretUsed s.sec 1))

/-- SPDM over the network and over DOE (13, R415, R416). The message layouts, codes, stages and chunking are those of
SPDM 1.3, which the spec names and does not lay out: they are the model's (assumption 46). -/
def Obligations.AttestationDialogue : Prop := ∀ (s : State) (c : SpdmReq) (m : Bytes),
  let version := spdmBytes c 0x84 c.p1 c.p2 []
  let caps := spdmBytes c 0xE1 c.p1 c.p2 []
  let algs := spdmBytes c 0xE3 c.p1 c.p2 []
  let digests := spdmBytes c 0x81 c.p1 c.p2 []
  let cert (slot offset length : Nat) : Bytes :=
    spdmBytes c 0x82 (BitVec.ofNat 8 slot) c.p2 (leBytes 2 offset ++ leBytes 2 length)
  let chal (slot : Nat) (nonce : Bytes) : Bytes := spdmBytes c 0x83 (BitVec.ofNat 8 slot) c.p2 nonce
  let meas (signed : Bool) (index : Nat) (nonce : Bytes) : Bytes :=
    spdmBytes c 0xE0 (BitVec.ofNat 8 (bit signed 0)) (BitVec.ofNat 8 index) (if signed then nonce else [])
  let part (handle n : Nat) (last : Bool) (b : Bytes) : Bytes :=
    spdmBytes c 0x85 (BitVec.ofNat 8 (bit last 0)) (BitVec.ofNat 8 handle)
      (leBytes 2 n ++ [0, 0] ++ leBytes 4 b.length ++ (if n % 65536 = 0 then leBytes 4 b.length else []) ++ b)
  let fetch (handle n : Nat) : Bytes := spdmBytes c 0x86 c.p1 (BitVec.ofNat 8 handle) (leBytes 2 n)
  let turn (row : Bytes) : Prop := SpdmTurn s c.conn row m ∧ spdmFault m = none
  (turn version → Gives (.getVersion c) s fun t => Responded t c.conn 0x04 ∧
    ∃ x, spdmConn? t c.conn = some x ∧ x.stage = 1 ∧ x.msgsB = [] ∧ x.msgsL = [] ∧ x.chunkIn = [] ∧ x.chunkOut = []) ∧
  (∀ x : SpdmSt, spdmConn? s c.conn = some x →
    let stage (k : Nat) (t : State) : Prop := ∃ y, spdmConn? t c.conn = some y ∧ y.stage = k
    (x.stage = 1 → turn caps → Gives (.getCapabilities c) s fun t => Answered t c.conn 0x61 ∧ stage 2 t) ∧
    (x.stage = 2 → turn algs → Gives (.negotiateAlgorithms c) s fun t => Answered t c.conn 0x63 ∧ stage 3 t) ∧
    (x.stage = 3 →
      (turn digests → Gives (.getDigests c) s fun t => Answered t c.conn 0x01 ∧ stage 3 t) ∧
      (∀ slot offset length, turn (cert slot offset length) → m.getD 2 0 = 0 → numAt m 4 2 < certChain.length →
        Gives (.getCertificate c slot offset length) s fun t => Answered t c.conn 0x02 ∧ stage 3 t) ∧
      (s.sec.entropyFailed = false →
        (∀ slot nonce, turn (chal slot nonce) → m.getD 2 0 = 0 → Gives (.challenge c slot nonce) s fun t =>
          Answered t c.conn 0x03 ∧ stage 3 t ∧ s.draws < t.draws) ∧
        (∀ signed index nonce, turn (meas signed index nonce) → (m.getD 3 0).toNat ∈ [0, 1, 2, 3, 4, 5, 6, 16, 255] →
          Gives (.getMeasurements c signed index nonce) s fun t => Answered t c.conn 0x60 ∧ stage 3 t))) ∧
    (2 ≤ x.stage →
      (∀ handle n last b, turn (part handle n last b) →
        let got := if numAt m 4 2 = 0 then m.drop 16 else x.chunkIn ++ m.drop 12
        (numAt m 4 2 = 0 ∨ numAt m 4 2 = x.seqIn) → got.length ≤ 16384 →
        ((m.getD 2 0).getLsbD 0 = false → Gives (.chunkSend c handle n last b) s fun t => Responded t c.conn 0x05 ∧
          ∃ y, spdmConn? t c.conn = some y ∧ y.chunkIn = got ∧ y.seqIn = numAt m 4 2 + 1 ∧ y.stage = x.stage) ∧
        ((m.getD 2 0).getLsbD 0 = true → Gives (.chunkSend c handle n last b) s fun t => Answered t c.conn 0x05)) ∧
      (∀ handle n, turn (fetch handle n) → x.chunkOut ≠ [] → (m.getD 3 0).toNat = x.handle → numAt m 4 2 = x.seqOut →
        Gives (.chunkGet c handle n) s fun t => Responded t c.conn 0x06 ∧
          ∃ y, spdmConn? t c.conn = some y ∧
            (y.chunkOut = [] ∨ (y.chunkOut = x.chunkOut ∧ y.seqOut = x.seqOut + 1))))) ∧
  (∀ (slot offset length handle n index : Nat) (signed last : Bool) (b : Bytes) (e : Instr × Bytes),
    e ∈ [(Instr.getVersion c, version), (.getCapabilities c, caps), (.negotiateAlgorithms c, algs),
      (.getDigests c, digests), (.getCertificate c slot offset length, cert slot offset length),
      (.challenge c slot b, chal slot b), (.getMeasurements c signed index b, meas signed index b),
      (.chunkSend c handle n last b, part handle n last b), (.chunkGet c handle n, fetch handle n)] →
    SpdmTurn s c.conn e.2 m → spdmFault m ≠ none →
    Gives e.1 s fun t => Responded t c.conn 0x7F ∧ t.sec.spdm = s.sec.spdm) ∧
  (∀ code : U8, code.toNat ∉ [0x84, 0xE1, 0xE3, 0x81, 0x82, 0x83, 0xE0, 0x85, 0x86] →
    SpdmTurn s c.conn (spdmBytes c code.toNat c.p1 c.p2 []) m →
    Gives (.spdmUnsupportedRequest c code) s fun t => Responded t c.conn 0x7F ∧ t.sec.spdm = s.sec.spdm)

/-- Security services (13, R400 to R411, R420). That an accepted token draws its nonce after an entropy failure too
(assumptions 47 and 63), and that the core is reached while domain 48 is on and what its memory holds (assumption 47),
are the model's choices. -/
def Obligations.SecurityServices : Prop := ∀ s : State, Inv s →
  (∀ (rq : Requester) (b : Bytes), accepts s rq ⟨0xA000, 10⟩ (.bytes b) →
    (tokenOk s b = true → Gives (.debugTokenWrite rq b) s fun t => t.sec.pending = numAt b 48 4 ∧
      t.sec.deviceNonce = (List.range 32).map (Config.drbgByte s.draws) ∧ t.sec.debug = s.sec.debug ∧
      .objectStatus rq ⟨0xA000, 10⟩ .ok ∈ t.out) ∧
    (tokenOk s b = false → exec (.debugTokenWrite rq b) s =
      .next (emit (.objectStatus rq ⟨0xA000, 10⟩ .outOfRange) s))) ∧
  (∀ (rq : Requester) (n : U8), accepts s rq ⟨0xA000, 6⟩ (.num n.toNat) → s.sec.minSec < n.toNat →
    s.boot.fw = .running → n.toNat ≤ s.boot.secVersion → n.toNat ≤ 64 →
    Gives (.raiseMinSecurityVersion rq n) s fun t => t.sec = { s.sec with minSec := n.toNat } ∧
      SameBut [.sec, .out] s t) ∧
  (s.gtc.toNat % 1250000000 = 0 → Gives .powerCoarseUpdate s fun t => SameBut [.fnOther] s t ∧
    ∀ f ∈ t.fns, f.powerCoarse = s.power.milliwatts / 5000 * 5) ∧
  Gives .entropyHealthFailure s (fun t => t.sec.entropyFailed = true ∧ Raised s t .internalUncorrectable) ∧
  (2 ^ 20 ≤ s.sec.requests → Gives .drbgReseed s fun t => t.sec = { s.sec with requests := 0 } ∧
    SameBut [.sec] s t) ∧
  (∀ chain : Bytes, Gives (.tapAccess (.boundaryScan chain)) s fun t => SameBut [.draws, .out] s t ∧
    ∃ b : Bytes, b.length = chain.length ∧ t.out = .tap b :: s.out) ∧
  (s.sec.debug ≠ .locked → s.power.on.getLsbD 48 = true →
    Gives (.tapAccess .halt) s (fun t => t.sec = { s.sec with coreHalted := true } ∧ SameBut [.sec] s t) ∧
    Gives (.tapAccess .resume) s (fun t => t.sec = { s.sec with coreHalted := false, coreMem := [] } ∧
      SameBut [.sec] s t) ∧
    Gives (.tapAccess .step) s (fun t => t.sec = { s.sec with coreMem := [] } ∧ SameBut [.sec] s t) ∧
    ∀ a : U64, Gives (.tapAccess (.readMemory a)) s (fun t => SameBut [.sec, .draws, .out] s t ∧
        t.out = .tap [coreByte s a] :: s.out ∧ (s.sec.coreHalted = true → coreByte t a = coreByte s a)) ∧
      ∀ v : U8, Gives (.tapAccess (.writeMemory a v)) s fun t => SameBut [.sec] s t ∧
        (s.sec.coreHalted = true → coreByte t a = v ∧
          ∀ b, b ≠ a → t.sec.coreMem.find? (fun e => e.1 == b.toNat) = s.sec.coreMem.find? (fun e => e.1 == b.toNat)) ∧
        (s.sec.coreHalted = false → t = s))

/-- Power domains and clock islands (14, R424 to R437). -/
def Obligations.PowerAndClocks : Prop := ∀ s : State, Inv s →
  (∀ d : Nat, s.power.switching = none →
    ((domainsSwitching s).find? fun d => domainWanted s d || drained s d) = some d →
    Gives .domainSwitchStart s fun t => t.power = { s.power with switching := some (d, domainWanted s d) } ∧
      SameBut [.power] s t) ∧
  (∀ (d : Nat) (on : Bool), s.power.switching = some (d, on) → d < 50 → d ≠ 40 → d ≠ 41 →
    Gives .domainSwitchDone s fun t => t.power.switching = none ∧ t.power.on.getLsbD d = on ∧
      (∀ k, k ≠ d → t.power.on.getLsbD k = s.power.on.getLsbD k) ∧
      ∀ b < 8, getBank t b = if d = 20 + b then [] else getBank s b) ∧
  (∀ l : Fin 2,
    (s.power.switching = some (40 + l.val, false) → s.power.on.getLsbD (41 - l.val) = true →
      Gives .domainSwitchDone s fun t => t.power.on.getLsbD (40 + l.val) = false ∧
        ∀ p ss, session? s p = some ss →
          session? t p = some { ss with lanes := ss.lanes &&& ~~~ ((1 : BitVec 2) <<< l.val) }) ∧
    (s.power.switching = some (40 + l.val, true) → Gives .domainSwitchDone s fun t =>
      t.power.on.getLsbD (40 + l.val) = true ∧ ∀ p, session? t p = session? s p)) ∧
  (∀ rq : Requester,
    (∀ v : Bool, accepts s rq ⟨0xB000, 4⟩ (.num (if v then 1 else 0)) → v = true ∨ isReady s = false →
      Gives (.workDomainsOnWrite rq v) s fun t => t.power = { s.power with work := v } ∧ SameBut [.power, .out] s t) ∧
    (∀ v : U8,
      (accepts s rq ⟨0xB000, 5⟩ (.num v.toNat) →
        Gives (.engineGroupEnableWrite rq v) s fun t => Written s t rq ⟨0xB000, 5⟩ (.num v.toNat)) ∧
      (accepts s rq ⟨0xB000, 6⟩ (.num v.toNat) →
        Gives (.digestEngineEnableWrite rq v) s fun t => Written s t rq ⟨0xB000, 6⟩ (.num v.toNat)) ∧
      (accepts s rq ⟨0xB000, 7⟩ (.num v.toNat) →
        Gives (.paldarLaneEnableWrite rq v) s fun t => Written s t rq ⟨0xB000, 7⟩ (.num v.toNat)))) ∧
  (∀ khz : List Nat, Gives (.clockMeasureWindow khz) s fun t =>
    t.power.khz = (List.range 13).map (fun i => if islandOn s i then khz.getD i 0 else 0) ∧
    ((List.range 13).any (clockBad s khz) = true → Raised s t .islandClockLost)) ∧
  (∀ levels : BitVec 4, s.power.phase = .awake → Gives (.powerGoodChange levels) s fun t => t.power.good = levels ∧
    (levels.getLsbD 0 = true → s.power.good.getLsbD 0 = false → t.power.coreRise = some s.gtc) ∧
    (s.power.good &&& ~~~ levels ≠ 0 → Raised s t .powerGoodLost)) ∧
  Gives .telemetryPoll s (fun t => t.power = { s.power with polled := true } ∧ t.out =
    [.pmbusRead 0x41 0x89, .pmbusRead 0x41 0x88, .pmbusRead 0x40 0x89, .pmbusRead 0x40 0x88] ++ s.out) ∧
  (∀ v0 i0 v1 i1 : U16, s.power.polled = true →
    Gives (.telemetryReply [some v0, some v1] [some i0, some i1]) s fun t => SameBut [.power] s t ∧
      t.power.telValid = true ∧ t.power.telGtc = s.gtc ∧ t.power.readings = [(v0, i0), (v1, i1)] ∧
      t.power.misses = [0, 0] ∧ t.power.polled = false ∧
      t.power.millivolts = ((linear11 v0 + linear11 v1) * 1000 / 2 / 65536).toNat % 2 ^ 32 ∧
      t.power.milliamps = ((linear11 i0 + linear11 i1) * 1000 / 65536).toNat % 2 ^ 32)

/-- Bring-up as far as the firmware (15, R442 to R452). -/
def Obligations.BringUpToFirmware : Prop := ∀ s : State, Inv s →
  (∀ rq : Requester,
    let starts (c : BringUpCmd) : Prop := accepts s rq ⟨0xC000, 2⟩ (.num (bringUpCode c)) ∧ stepRefused c s = none
    let runs (c : BringUpCmd) (t : State) : Prop :=
      t.boot.command = c ∧ t.boot.result = .running ∧ t.boot.began = s.gtc ∧ .objectStatus rq ⟨0xC000, 2⟩ .ok ∈ t.out
    (starts .power → s.power.good.getLsbD 1 = true → s.power.good.getLsbD 3 = true →
      Gives (.power rq) s fun t => runs .power t ∧ t.power.work = true) ∧
    (starts .power → s.power.good.getLsbD 1 = false ∨ s.power.good.getLsbD 3 = false →
      Gives (.power rq) s fun t => t.boot.result = .powerGoodMissing ∧ t.boot.stepGtc = s.gtc ∧
        t.boot.state = s.boot.state ∧ t.power = s.power) ∧
    (starts .train → Gives (.train rq) s fun t => runs .train t ∧ objNum t 0x2001 1 = 1 ∧ t.port0.training = true) ∧
    (starts .qualify → Gives (.qualify rq) s fun t => runs .qualify t ∧ t.boot.lanes = measuredLanes s ∧
      t.boot.qualified = 0 ∧ t.boot.failed = 0 ∧ SameBut [.boot, .out] s t) ∧
    (starts .loadFirmware → s.boot.fw ≠ .running → objNum s 0xC001 1 ≠ 1 ∨
        (List.range ((imageBytes s + 4095) / 4096)).all s.boot.blocks.contains = true →
      Gives (.loadFirmware rq) s fun t => runs .loadFirmware t ∧ t.boot.fw = .loading ∧ t.boot.loadError = 0)) ∧
  (∀ counts : List LaneCount, s.boot.result = .running → s.boot.command = .qualify → allCounted s counts = true →
    Gives (.qualifyEnd counts) s fun t => t.boot.lanes = s.boot.lanes.map (laneResult counts) ∧
      (t.boot.qualified = (t.boot.lanes.filter fun l => l.result == 1).length) ∧
      (t.boot.failed = (t.boot.lanes.filter fun l => l.result == 2).length) ∧ t.boot.stepGtc = s.gtc ∧
      (t.boot.failed = 0 → t.boot.result = .done ∧ t.boot.state = .qualified) ∧
      (t.boot.failed ≠ 0 → t.boot.result = .lanesFailed ∧ t.boot.state = s.boot.state)) ∧
  (s.boot.result = .running → s.boot.command = .loadFirmware → s.boot.fw = .loading → imageIn s = true →
    let b := memRead s.boot.image 0 (imageBytes s)
    Gives .firmwareImageComplete s fun t => t.boot.digest = sha384 b ∧ t.sec.mr.getD 1 [] = sha384 b ∧
      (imageCheck s b = 0 → t.boot.fw = .running ∧ t.boot.result = .done ∧ t.boot.state = .firmwareRunning ∧
        t.boot.version = BitVec.ofNat 32 (numAt b 8 4) ∧ t.boot.secVersion = numAt b 12 2) ∧
      (imageCheck s b ≠ 0 → t.boot.fw = .failed ∧ t.boot.result = .imageRejected ∧
        t.boot.loadError = imageCheck s b ∧ t.boot.state = s.boot.state)) ∧
  (∀ (rq : Requester) (chunk : Bytes), accepts s rq ⟨0xC001, 6⟩ (.bytes chunk) → chunkRefused chunk s = none →
    partitionHeld s = true → Gives (.firmwareChunkWrite rq chunk) s fun t =>
      (∀ i < chunk.length, memGet t.boot.image (objNum s 0xC001 5 + i) = chunk.getD i 0) ∧
      (∀ a, a < objNum s 0xC001 5 ∨ objNum s 0xC001 5 + chunk.length ≤ a →
        memGet t.boot.image a = memGet s.boot.image a))

/-- Bring-up from the tiles on (15, R442, R453 to R457). That PUBLISH_MAP raises the generation by one in every state,
where the first map gives 1, and where TEST moves its patterns, are the model's readings (assumption 48). -/
def Obligations.BringUpToReady : Prop := ∀ s : State, Inv s →
  (∀ rq : Requester,
    let starts (c : BringUpCmd) : Prop := accepts s rq ⟨0xC000, 2⟩ (.num (bringUpCode c)) ∧ stepRefused c s = none
    let runs (c : BringUpCmd) (t : State) : Prop :=
      t.boot.command = c ∧ t.boot.result = .running ∧ t.boot.began = s.gtc
    (starts .broadcast → s.boot.loaded = [] → Gives (.broadcast rq) s fun t => runs .broadcast t ∧
      .tileSection none ∈ t.out ∧ t.boot.waits = (physTiles s.variant).map fun k => ⟨k, 0, s.gtc⟩) ∧
    (starts .test → Gives (.test rq) s fun t => runs .test t ∧ .clusterTest ∈ t.out) ∧
    (starts .publishMap → Gives (.publishMap rq) s fun t => runs .publishMap t ∧ t.det = s.det) ∧
    (starts .declareReady → readyRefusal s = none → Gives (.declareReady rq) s fun t => runs .declareReady t ∧
      t.boot.state = .declaring ∧ t.fns = s.fns)) ∧
  (s.boot.result = .running →
    (s.boot.command = .broadcast → ∀ (k : Nat) (w : TileWait), (s.boot.waits.find? fun w => w.tile == k) = some w →
      let again (t : State) : Prop := .tileSection (some k) ∈ t.out ∧
        ∀ v ∈ t.boot.waits, v.tile = k → v = ⟨k, w.tries + 1, s.gtc⟩
      let given (t : State) : Prop := k ∈ t.boot.failedTiles ∧ ∀ v ∈ t.boot.waits, v.tile ≠ k
      (∀ b : Bytes, b = s.boot.tileDigest → Gives (.tileDigestAnswer k b) s fun t => k ∈ t.boot.loaded ∧
        ∀ v ∈ t.boot.waits, v.tile ≠ k) ∧
      (∀ b : Bytes, b ≠ s.boot.tileDigest → (w.tries < 3 → Gives (.tileDigestAnswer k b) s again) ∧
        (3 ≤ w.tries → Gives (.tileDigestAnswer k b) s given)) ∧
      (25000000 ≤ (s.gtc - w.since).toNat → (w.tries < 3 → Gives (.tileAnswerTimeout k) s again) ∧
        (3 ≤ w.tries → Gives (.tileAnswerTimeout k) s given))) ∧
    (∀ (clusters : List (Nat × Nat)) (engines : U32),
      let ended (r : BringUpResult) (state : BringUp) (t : State) : Prop :=
        t.boot.result = r ∧ t.boot.state = state ∧ t.boot.stepGtc = s.gtc
      (s.boot.command = .power → domainsSwitching s = [] → s.power.switching = none →
        Gives (.bringupStepEnd clusters engines) s fun t => ended .done .powered t ∧ .tilesReleased ∈ t.out) ∧
      (s.boot.command = .train → s.port0.training = false → Gives (.bringupStepEnd clusters engines) s
        (ended (trainOutcome s) (if trainOutcome s = .done then .trained else s.boot.state))) ∧
      (s.boot.command = .broadcast → s.boot.waits = [] → s.boot.loaded ≠ [] →
        Gives (.bringupStepEnd clusters engines) s fun t => ended .done .tilesLoaded t ∧ t.boot.image = []) ∧
      (s.boot.command = .test → Gives (.bringupStepEnd clusters engines) s fun t =>
        t.boot.failedEngines = engines ∧ (t.boot.positions ≠ [] → ended .done .tested t) ∧
        (t.boot.positions = [] → ended .noCluster s.boot.state t) ∧
        ∀ a, (∀ r ∈ s.pool.regions, r.kind = .general → a < r.base ∨ r.base + r.bytes ≤ a) →
          memGet t.pool.mem a = memGet s.pool.mem a) ∧
      (s.boot.command = .publishMap → Gives (.bringupStepEnd clusters engines) s fun t =>
        ended .done .mapPublished t ∧ t.det.generation = s.det.generation + 1 ∧ t.det.unitMap = unitMapBytes s ∧
        t.det.digest = sha384 (unitMapBytes s))) ∧
    (s.boot.command = .declareReady → s.boot.state = .declaring → resetScrubbed s = true →
      Gives .declareReadyComplete s fun t => t.boot.result = .done ∧ t.boot.state = .ready ∧
        t.boot.readyGtc = s.gtc ∧ t.sec.mr.getD 3 [] = s.det.digest ∧ ∀ g : Fun,
          (getFn t g).state = (if (getFn s g).state = .notReady then .active else (getFn s g).state)))

/-- Recalibration (15, R458, R459). -/
def Obligations.Calibration : Prop := ∀ s : State, Inv s →
  (∀ rq : Requester,
    let asks (k : Nat) : Prop := accepts s rq ⟨0xC004, 1⟩ (.num k) ∧ calibrationRefused k s = none
    let runs (k : Nat) (t : State) : Prop :=
      t.boot = { s.boot with calibrating := some k, calibrated := 1 } ∧ SameBut [.boot, .out] s t
    (asks 1 → Gives (.port0Lanes rq) s (runs 1)) ∧
    (∀ p : Port, asks (p.val + 1) → Gives (.portLanes rq p) s (runs (p.val + 1))) ∧
    (∀ st : Stack, asks (0x20 + st.val) → Gives (.stackCalibrate rq st) s (runs (0x20 + st.val)))) ∧
  (∀ (k : Nat) (values : Sys2Proof.Calibration), s.boot.calibrating = some k →
    Gives (.calibrateDone false values) s (fun t =>
      t.boot = { s.boot with calibrating := none, calibrated := 3 } ∧ SameBut [.boot] s t) ∧
    (k = 1 → Gives (.calibrateDone true values) s fun t => t.boot.calibrating = none ∧ t.boot.calibrated = 2 ∧
      objNum t 0x2001 1 = 1 ∧ ∀ l < 64, (values.errors.getD l []).length = 256 →
        let best := objNum t 0x2020 (l + 1)
        let errors (code : Nat) : Nat := (values.errors.getD l []).getD code 0
        best < 256 ∧ (∀ c < 256, errors best ≤ errors c) ∧ ∀ c < best, errors best < errors c) ∧
    (2 ≤ k → k ≤ 4 → Gives (.calibrateDone true values) s fun t => t.boot.calibrating = none ∧
      t.boot.calibrated = 2 ∧ (∀ l < 16, objNum t (0x201F + k) (l + 1) = (values.values.getD l 0).toNat) ∧
      ((getPort s (Fin.ofNat 4 (k - 1))).link = .l0 → (getPort t (Fin.ofNat 4 (k - 1))).link = .recovery)) ∧
    (0x20 ≤ k → Gives (.calibrateDone true values) s fun t => t.boot.calibrating = none ∧ t.boot.calibrated = 2 ∧
      objBytes t (0x5010 + (k - 0x20)) 5 = padTo 512 values.values))
end

