-- ==== Sys2Proof/Laws/Frames.lean ====
section
/-!
SUPPORT. Frames of the plain updates: which parts of the state (`StatePart`) each of them may change.
-/
namespace Sys2Proof.Machine

theorem SameBut.refl (L : List StatePart) (s : State) : SameBut L s s :=
  ⟨rfl, rfl, fun p _ => by cases p <;> rfl⟩

theorem StatePart.same_trans {s t u : State} {p : StatePart} (h : StatePart.same s t p) (k : StatePart.same t u p) :
    StatePart.same s u p := by
  cases p <;> exact k.trans h

theorem SameBut.trans {L : List StatePart} {s t u : State} (h : SameBut L s t) (k : SameBut L t u) : SameBut L s u :=
  ⟨k.1.trans h.1, k.2.1.trans h.2.1, fun p hp => StatePart.same_trans (h.2.2 p hp) (k.2.2 p hp)⟩

theorem SameBut.mono {L K : List StatePart} {s t : State} (h : SameBut L s t) (hL : ∀ p ∈ L, p ∈ K) : SameBut K s t :=
  ⟨h.1, h.2.1, fun p hp => h.2.2 p fun q => hp (hL p q)⟩

/-- Inclusion of lists of parts, decided for the lists of two definitions. -/
theorem parts_sub {A B L : List StatePart} (h : (A.all fun p => B.contains p) = true) (hL : ∀ p ∈ B, p ∈ L) :
    ∀ p ∈ A, p ∈ L := by
  intro p hp
  have := List.all_eq_true.1 h p hp
  exact hL p (by simpa using this)

/-- `SameBut` of a state written out field by field; a spelling that `simp only [same_lit]` brings about. -/
def SameLit (L : List StatePart) (s0 : State) (variant : Variant) (gtc : U64) (od stored : List (Nat × Val))
    (counters : List (Nat × U64)) (mgmt : MgmtSt) (ports : List PortSt) (port0 : Port0St) (fns : List FnSt)
    (obj : ObjSt) (cmd : CmdSt) (trans : TransSt) (win : WinSt) (pool : PoolSt) (sync : SyncSt) (det : DetSt)
    (idle : BitVec 4) (err : ErrSt) (sec : SecSt) (power : PowerSt) (boot : BootSt) (draws : Nat) (out : List Msg)
    (pending : List Instr) : Prop :=
  SameBut L s0 ⟨variant, gtc, od, stored, counters, mgmt, ports, port0, fns, obj, cmd, trans, win, pool, sync, det,
    idle, err, sec, power, boot, draws, out, pending⟩

theorem same_lit {L s0 variant gtc od stored counters mgmt ports port0 fns obj cmd trans win pool sync det idle err sec
    power boot draws out pending} :
    SameBut L s0 ⟨variant, gtc, od, stored, counters, mgmt, ports, port0, fns, obj, cmd, trans, win, pool, sync, det,
      idle, err, sec, power, boot, draws, out, pending⟩ =
    SameLit L s0 variant gtc od stored counters mgmt ports port0 fns obj cmd trans win pool sync det idle err sec power
      boot draws out pending := rfl

theorem SameLit.of {L : List StatePart} {s0 s : State} (h : SameBut L s0 s)
    {gtc : U64} {od : List (Nat × Val)} {stored : List (Nat × Val)} {counters : List (Nat × U64)} {mgmt : MgmtSt}
    {ports : List PortSt} {port0 : Port0St} {fns : List FnSt} {obj : ObjSt} {cmd : CmdSt} {trans : TransSt}
    {win : WinSt} {pool : PoolSt} {sync : SyncSt} {det : DetSt} {idle : BitVec 4} {err : ErrSt} {sec : SecSt}
    {power : PowerSt} {boot : BootSt} {draws : Nat} {out : List Msg}
    (h1 : gtc = s.gtc ∨ .gtc ∈ L) (h2 : od = s.od ∨ .od ∈ L) (h3 : stored = s.stored ∨ .stored ∈ L)
    (h4 : counters = s.counters ∨ .counters ∈ L) (h5 : mgmt = s.mgmt ∨ .mgmt ∈ L)
    (h6 : ports.map PortSt.linksPart = s.ports.map PortSt.linksPart ∨ .links ∈ L)
    (h7 : ports.map PortSt.intx = s.ports.map PortSt.intx ∨ .intx ∈ L)
    (h8 : ports.map PortSt.requestsPart = s.ports.map PortSt.requestsPart ∨ .requests ∈ L)
    (h9 : ports.map PortSt.atsPart = s.ports.map PortSt.atsPart ∨ .ats ∈ L) (h10 : port0 = s.port0 ∨ .port0 ∈ L)
    (h11 : fns.map FnSt.cfg = s.fns.map FnSt.cfg ∨ .fnCfg ∈ L)
    (h12 : fns.map FnSt.fnStatePart = s.fns.map FnSt.fnStatePart ∨ .fnState ∈ L)
    (h13 : fns.map FnSt.mbx = s.fns.map FnSt.mbx ∨ .mbx ∈ L)
    (h14 : fns.map FnSt.admin = s.fns.map FnSt.admin ∨ .admin ∈ L)
    (h15 : fns.map FnSt.faultq = s.fns.map FnSt.faultq ∨ .faultq ∈ L)
    (h16 : fns.map FnSt.int = s.fns.map FnSt.int ∨ .int ∈ L)
    (h17 : fns.map FnSt.capture = s.fns.map FnSt.capture ∨ .capture ∈ L)
    (h18 : fns.map FnSt.fnOtherPart = s.fns.map FnSt.fnOtherPart ∨ .fnOther ∈ L)
    (h19 : obj.ctxs = s.obj.ctxs ∨ .ctxs ∈ L) (h20 : obj.objs = s.obj.objs ∨ .objs ∈ L)
    (h21 : obj.slotsPart = s.obj.slotsPart ∨ .slots ∈ L) (h22 : cmd.table = s.cmd.table ∨ .cmds ∈ L)
    (h23 : cmd.enginesPart = s.cmd.enginesPart ∨ .engines ∈ L)
    (h24 : trans.entriesPart = s.trans.entriesPart ∨ .entries ∈ L)
    (h25 : trans.lookupsPart = s.trans.lookupsPart ∨ .lookups ∈ L)
    (h26 : win.peersPart = s.win.peersPart ∨ .peers ∈ L) (h27 : win.windowsPart = s.win.windowsPart ∨ .windows ∈ L)
    (h28 : win.coherencePart = s.win.coherencePart ∨ .coherence ∈ L)
    (h29 : pool.memoryPart = s.pool.memoryPart ∨ .memory ∈ L) (h30 : pool.poolPart = s.pool.poolPart ∨ .pool ∈ L)
    (h31 : sync = s.sync ∨ .sync ∈ L) (h32 : det = s.det ∨ .det ∈ L) (h33 : idle = s.idle ∨ .idle ∈ L)
    (h34 : err = s.err ∨ .err ∈ L) (h35 : sec = s.sec ∨ .sec ∈ L) (h36 : power = s.power ∨ .power ∈ L)
    (h37 : boot = s.boot ∨ .boot ∈ L) (h38 : draws = s.draws ∨ .draws ∈ L) (h39 : out = s.out ∨ .out ∈ L) :
    SameLit L s0 s.variant gtc od stored counters mgmt ports port0 fns obj cmd trans win pool sync det idle err sec power
      boot draws out s.pending :=
  SameBut.trans h ⟨rfl, rfl, fun p hp => by
    cases p
    · exact h1.resolve_right hp
    · exact h2.resolve_right hp
    · exact h3.resolve_right hp
    · exact h4.resolve_right hp
    · exact h5.resolve_right hp
    · exact h6.resolve_right hp
    · exact h7.resolve_right hp
    · exact h8.resolve_right hp
    · exact h9.resolve_right hp
    · exact h10.resolve_right hp
    · exact h11.resolve_right hp
    · exact h12.resolve_right hp
    · exact h13.resolve_right hp
    · exact h14.resolve_right hp
    · exact h15.resolve_right hp
    · exact h16.resolve_right hp
    · exact h17.resolve_right hp
    · exact h18.resolve_right hp
    · exact h19.resolve_right hp
    · exact h20.resolve_right hp
    · exact h21.resolve_right hp
    · exact h22.resolve_right hp
    · exact h23.resolve_right hp
    · exact h24.resolve_right hp
    · exact h25.resolve_right hp
    · exact h26.resolve_right hp
    · exact h27.resolve_right hp
    · exact h28.resolve_right hp
    · exact h29.resolve_right hp
    · exact h30.resolve_right hp
    · exact h31.resolve_right hp
    · exact h32.resolve_right hp
    · exact h33.resolve_right hp
    · exact h34.resolve_right hp
    · exact h35.resolve_right hp
    · exact h36.resolve_right hp
    · exact h37.resolve_right hp
    · exact h38.resolve_right hp
    · exact h39.resolve_right hp⟩

theorem SameBut.ite {L : List StatePart} {s0 a b : State} {c : Prop} [Decidable c] (ha : SameBut L s0 a)
    (hb : SameBut L s0 b) : SameBut L s0 (if c then a else b) := by split <;> assumption

theorem SameBut.ofPair {α : Type} {L : List StatePart} {s0 t : State} {f : State × α} {a : α} (h : SameBut L s0 f.1)
    (e : f = (t, a)) : SameBut L s0 t := by
  rw [e] at h; exact h

theorem sameStep {L : List StatePart} {s0 x : State} {P : Prop} (k : SameBut L s0 x → P) (hx : SameBut L s0 x) : P := k hx

theorem foldState_frame {α : Type} {L : List StatePart} {s0 : State} {f : α → State → State} {l : List α} {s : State}
    (hf : ∀ a t, SameBut L s0 t → SameBut L s0 (f a t)) (h : SameBut L s0 s) : SameBut L s0 (foldState f l s) := by
  induction l generalizing s with
  | nil => exact h
  | cons a l ih => exact ih (hf a s h)

/-- A view of the entries of a list that a change of one entry keeps. -/
theorem modify_view {α β : Type} {π : α → β} {f : α → α} (h : ∀ x, π (f x) = π x) :
    ∀ (l : List α) (n : Nat), (l.modify n f).map π = l.map π
  | [], n => by simp
  | a :: l, 0 => by simp [h]
  | a :: l, n + 1 => by simp [modify_view h l n]

theorem map_view {α β : Type} {π : α → β} {f : α → α} (h : ∀ x, π (f x) = π x) (l : List α) :
    (l.map f).map π = l.map π := by
  simp [Function.comp_def, h]

theorem modFn_frame {L : List StatePart} {s0 s : State} {g : Fun} {f : FnSt → FnSt}
    (h1 : (∀ x, FnSt.cfg (f x) = FnSt.cfg x) ∨ .fnCfg ∈ L)
    (h2 : (∀ x, FnSt.fnStatePart (f x) = FnSt.fnStatePart x) ∨ .fnState ∈ L)
    (h3 : (∀ x, FnSt.mbx (f x) = FnSt.mbx x) ∨ .mbx ∈ L) (h4 : (∀ x, FnSt.admin (f x) = FnSt.admin x) ∨ .admin ∈ L)
    (h5 : (∀ x, FnSt.faultq (f x) = FnSt.faultq x) ∨ .faultq ∈ L)
    (h6 : (∀ x, FnSt.int (f x) = FnSt.int x) ∨ .int ∈ L)
    (h7 : (∀ x, FnSt.capture (f x) = FnSt.capture x) ∨ .capture ∈ L)
    (h8 : (∀ x, FnSt.fnOtherPart (f x) = FnSt.fnOtherPart x) ∨ .fnOther ∈ L)
    (h : SameBut L s0 s) : SameBut L s0 (modFn g f s) :=
  SameBut.trans h ⟨rfl, rfl, fun p hp => by
    cases p <;> try rfl
    · exact modify_view (h1.resolve_right hp) _ _
    · exact modify_view (h2.resolve_right hp) _ _
    · exact modify_view (h3.resolve_right hp) _ _
    · exact modify_view (h4.resolve_right hp) _ _
    · exact modify_view (h5.resolve_right hp) _ _
    · exact modify_view (h6.resolve_right hp) _ _
    · exact modify_view (h7.resolve_right hp) _ _
    · exact modify_view (h8.resolve_right hp) _ _⟩

theorem modPort_frame {L : List StatePart} {s0 s : State} {p : Port} {f : PortSt → PortSt}
    (h1 : (∀ x, PortSt.linksPart (f x) = PortSt.linksPart x) ∨ .links ∈ L)
    (h2 : (∀ x, PortSt.intx (f x) = PortSt.intx x) ∨ .intx ∈ L)
    (h3 : (∀ x, PortSt.requestsPart (f x) = PortSt.requestsPart x) ∨ .requests ∈ L)
    (h4 : (∀ x, PortSt.atsPart (f x) = PortSt.atsPart x) ∨ .ats ∈ L)
    (h : SameBut L s0 s) : SameBut L s0 (modPort p f s) :=
  SameBut.trans h ⟨rfl, rfl, fun q hq => by
    cases q <;> try rfl
    · exact modify_view (h1.resolve_right hq) _ _
    · exact modify_view (h2.resolve_right hq) _ _
    · exact modify_view (h3.resolve_right hq) _ _
    · exact modify_view (h4.resolve_right hq) _ _⟩

theorem modCfg_frame {L : List StatePart} {s0 s : State} {g : Fun} {f : FnCfg → FnCfg}
    (hL : ∀ p ∈ [StatePart.fnCfg], p ∈ L) (h : SameBut L s0 s) : SameBut L s0 (modCfg g f s) :=
  modFn_frame (.inr (hL _ (List.mem_singleton.2 rfl))) (.inl fun _ => rfl) (.inl fun _ => rfl) (.inl fun _ => rfl) (.inl fun _ => rfl) (.inl fun _ => rfl) (.inl fun _ => rfl) (.inl fun _ => rfl) h

theorem modMbx_frame {L : List StatePart} {s0 s : State} {g : Fun} {f : MbxSt → MbxSt}
    (hL : ∀ p ∈ [StatePart.mbx], p ∈ L) (h : SameBut L s0 s) : SameBut L s0 (modMbx g f s) :=
  modFn_frame (.inl fun _ => rfl) (.inl fun _ => rfl) (.inr (hL _ (List.mem_singleton.2 rfl))) (.inl fun _ => rfl) (.inl fun _ => rfl) (.inl fun _ => rfl) (.inl fun _ => rfl) (.inl fun _ => rfl) h

theorem modAdmin_frame {L : List StatePart} {s0 s : State} {g : Fun} {f : AdminQ → AdminQ}
    (hL : ∀ p ∈ [StatePart.admin], p ∈ L) (h : SameBut L s0 s) : SameBut L s0 (modAdmin g f s) :=
  modFn_frame (.inl fun _ => rfl) (.inl fun _ => rfl) (.inl fun _ => rfl) (.inr (hL _ (List.mem_singleton.2 rfl))) (.inl fun _ => rfl) (.inl fun _ => rfl) (.inl fun _ => rfl) (.inl fun _ => rfl) h

theorem modFaultq_frame {L : List StatePart} {s0 s : State} {g : Fun} {f : FaultQ → FaultQ}
    (hL : ∀ p ∈ [StatePart.faultq], p ∈ L) (h : SameBut L s0 s) : SameBut L s0 (modFaultq g f s) :=
  modFn_frame (.inl fun _ => rfl) (.inl fun _ => rfl) (.inl fun _ => rfl) (.inl fun _ => rfl) (.inr (hL _ (List.mem_singleton.2 rfl))) (.inl fun _ => rfl) (.inl fun _ => rfl) (.inl fun _ => rfl) h

theorem modInt_frame {L : List StatePart} {s0 s : State} {g : Fun} {f : IntSt → IntSt}
    (hL : ∀ p ∈ [StatePart.int], p ∈ L) (h : SameBut L s0 s) : SameBut L s0 (modInt g f s) :=
  modFn_frame (.inl fun _ => rfl) (.inl fun _ => rfl) (.inl fun _ => rfl) (.inl fun _ => rfl) (.inl fun _ => rfl) (.inr (hL _ (List.mem_singleton.2 rfl))) (.inl fun _ => rfl) (.inl fun _ => rfl) h

theorem emit_frame {L : List StatePart} {s0 s : State} {m : Msg} (hL : ∀ p ∈ [StatePart.out], p ∈ L)
    (h : SameBut L s0 s) : SameBut L s0 (emit m s) :=
  SameBut.trans h ⟨rfl, rfl, fun p hp => by
    cases p <;> first | rfl | exact absurd (hL _ (List.mem_singleton.2 rfl)) hp⟩

theorem draw_frame {L : List StatePart} {s0 s : State} (hL : ∀ p ∈ [StatePart.draws], p ∈ L) (h : SameBut L s0 s) :
    SameBut L s0 (draw s) :=
  SameBut.trans h ⟨rfl, rfl, fun p hp => by
    cases p <;> first | rfl | exact absurd (hL _ (List.mem_singleton.2 rfl)) hp⟩

/-- An outcome that is a next state in which every part outside a list is the same. -/
def OutBut (K : List StatePart) (s : State) (o : Out) : Prop := ∃ t, o = .next t ∧ SameBut K s t

theorem OutBut.of {K : List StatePart} {s t : State}
    (h : ∀ (L : List StatePart) (s0 : State), (∀ p ∈ K, p ∈ L) → SameBut L s0 s → SameBut L s0 t) :
    OutBut K s (.next t) := ⟨t, rfl, h K s (fun _ hp => hp) (SameBut.refl K s)⟩

end Sys2Proof.Machine
end

