-- ==== Sys2Proof/Laws/FramesOperations.lean ====
section
/-!
SUPPORT. Frames, update by update: the shared operations: objects, pool, translation, fabric, ends of commands, events.
Each lemma follows its definition: one let at a time, one branch at a time, and the lemma of each operation that it calls.
-/
set_option linter.unusedSimpArgs false
set_option linter.unusedVariables false

namespace Sys2Proof.Machine

/-! ### Machine/Objects.lean -/

theorem setObj_frame {L : List StatePart} {s0 : State} {index sub : Nat} {v : Val} {s : State}
    (hL : ∀ p ∈ [StatePart.od], p ∈ L) (hok : SameBut L s0 s) :
    SameBut L s0 (setObj index sub v s) := by
  unfold setObj
  repeat' first
    | with_reducible assumption
    | with_reducible exact .inl rfl
    | exact .inr (hL _ (by decide))
    | (extract_lets +onlyGivenNames x
       first
       | (refine sameStep (L := L) (s0 := s0) (x := x) (fun hx => ?_) ?_; clear_value x; rotate_left; subst x)
       | subst x)
    | with_reducible refine SameBut.ite ?_ ?_
    | intro _ _ _
    | intro _ _
    | intro _
    | split
    | (simp only [same_lit]; with_reducible refine SameLit.of ?_ ?_ ?_ ?_ ?_ ?_ ?_ ?_ ?_ ?_ ?_ ?_ ?_ ?_ ?_ ?_ ?_ ?_ ?_ ?_ ?_ ?_ ?_ ?_ ?_ ?_ ?_ ?_ ?_ ?_ ?_ ?_ ?_ ?_ ?_ ?_ ?_ ?_ ?_ ?_)
    | exact .inl rfl
    | dsimp only
    | dsimp only [id]


/-! ### Machine/Ops.lean -/

theorem modCtx_frame {L : List StatePart} {s0 : State} {c : CtxId} {f : Ctx → Ctx} {s : State}
    (hL : ∀ p ∈ [StatePart.ctxs], p ∈ L) (hok : SameBut L s0 s) :
    SameBut L s0 (modCtx c f s) := by
  unfold modCtx
  repeat' first
    | with_reducible assumption
    | with_reducible exact .inl rfl
    | exact .inr (hL _ (by decide))
    | (extract_lets +onlyGivenNames x
       first
       | (refine sameStep (L := L) (s0 := s0) (x := x) (fun hx => ?_) ?_; clear_value x; rotate_left; subst x)
       | (refine sameStep (L := L) (s0 := s0) (x := x.1) (fun hx => ?_) ?_; clear_value x; rotate_left; subst x)
       | subst x)
    | with_reducible refine SameBut.ite ?_ ?_
    | intro _ _ _
    | intro _ _
    | intro _
    | split
    | (simp only [same_lit]; with_reducible refine SameLit.of ?_ ?_ ?_ ?_ ?_ ?_ ?_ ?_ ?_ ?_ ?_ ?_ ?_ ?_ ?_ ?_ ?_ ?_ ?_ ?_ ?_ ?_ ?_ ?_ ?_ ?_ ?_ ?_ ?_ ?_ ?_ ?_ ?_ ?_ ?_ ?_ ?_ ?_ ?_ ?_)
    | exact .inl rfl
    | dsimp only
    | dsimp only [id]

theorem modObj_frame {L : List StatePart} {s0 : State} {slot : Nat} {f : MemObj → MemObj} {s : State}
    (hL : ∀ p ∈ [StatePart.objs], p ∈ L) (hok : SameBut L s0 s) :
    SameBut L s0 (modObj slot f s) := by
  unfold modObj
  repeat' first
    | with_reducible assumption
    | with_reducible exact .inl rfl
    | exact .inr (hL _ (by decide))
    | (extract_lets +onlyGivenNames x
       first
       | (refine sameStep (L := L) (s0 := s0) (x := x) (fun hx => ?_) ?_; clear_value x; rotate_left; subst x)
       | subst x)
    | with_reducible refine SameBut.ite ?_ ?_
    | intro _ _ _
    | intro _ _
    | intro _
    | split
    | (simp only [same_lit]; with_reducible refine SameLit.of ?_ ?_ ?_ ?_ ?_ ?_ ?_ ?_ ?_ ?_ ?_ ?_ ?_ ?_ ?_ ?_ ?_ ?_ ?_ ?_ ?_ ?_ ?_ ?_ ?_ ?_ ?_ ?_ ?_ ?_ ?_ ?_ ?_ ?_ ?_ ?_ ?_ ?_ ?_ ?_)
    | exact .inl rfl
    | dsimp only
    | dsimp only [id]

theorem modCmd_frame {L : List StatePart} {s0 : State} {c : CtxId} {q : Nat} {f : Cmd → Cmd} {s : State}
    (hL : ∀ p ∈ [StatePart.cmds], p ∈ L) (hok : SameBut L s0 s) :
    SameBut L s0 (modCmd c q f s) := by
  unfold modCmd
  repeat' first
    | with_reducible assumption
    | with_reducible exact .inl rfl
    | exact .inr (hL _ (by decide))
    | (extract_lets +onlyGivenNames x
       first
       | (refine sameStep (L := L) (s0 := s0) (x := x) (fun hx => ?_) ?_; clear_value x; rotate_left; subst x)
       | subst x)
    | with_reducible refine SameBut.ite ?_ ?_
    | intro _ _ _
    | intro _ _
    | intro _
    | split
    | (simp only [same_lit]; with_reducible refine SameLit.of ?_ ?_ ?_ ?_ ?_ ?_ ?_ ?_ ?_ ?_ ?_ ?_ ?_ ?_ ?_ ?_ ?_ ?_ ?_ ?_ ?_ ?_ ?_ ?_ ?_ ?_ ?_ ?_ ?_ ?_ ?_ ?_ ?_ ?_ ?_ ?_ ?_ ?_ ?_ ?_)
    | exact .inl rfl
    | dsimp only
    | dsimp only [id]

theorem formEvent_frame {L : List StatePart} {s0 : State} {g : Fun} {ring kind info : Nat} {c : Option CtxId} {data0 data1 : U64} {s : State}
    (hL : ∀ p ∈ [StatePart.int], p ∈ L) (hok : SameBut L s0 s) :
    SameBut L s0 (formEvent g ring kind info c data0 data1 s) := by
  unfold formEvent
  repeat' first
    | with_reducible assumption
    | with_reducible exact .inl rfl
    | exact .inr (hL _ (by decide))
    | (extract_lets +onlyGivenNames x
       first
       | (refine sameStep (L := L) (s0 := s0) (x := x) (fun hx => ?_) ?_; clear_value x; rotate_left; subst x)
       | subst x)
    | with_reducible refine modInt_frame (parts_sub (by decide) hL) ?_
    | intro _ _ _
    | intro _ _
    | intro _
    | (simp only [same_lit]; with_reducible refine SameLit.of ?_ ?_ ?_ ?_ ?_ ?_ ?_ ?_ ?_ ?_ ?_ ?_ ?_ ?_ ?_ ?_ ?_ ?_ ?_ ?_ ?_ ?_ ?_ ?_ ?_ ?_ ?_ ?_ ?_ ?_ ?_ ?_ ?_ ?_ ?_ ?_ ?_ ?_ ?_ ?_)
    | exact .inl rfl
    | dsimp only
    | dsimp only [id]

theorem saturated_frame {L : List StatePart} {s0 : State} {g : Fun} {c : Option CtxId} {locator : Nat} {s : State}
    (hL : ∀ p ∈ [StatePart.int], p ∈ L) (hok : SameBut L s0 s) :
    SameBut L s0 (saturated g c locator s) := by
  unfold saturated
  repeat' first
    | with_reducible assumption
    | with_reducible refine formEvent_frame (parts_sub (by decide) hL) ?_
    | intro _ _ _
    | intro _ _
    | intro _
    | dsimp only
    | dsimp only [id]

theorem count_frame {L : List StatePart} {s0 : State} {index sub : Nat} {s : State}
    (hL : ∀ p ∈ [StatePart.counters, .int], p ∈ L) (hok : SameBut L s0 s) :
    SameBut L s0 (count index sub s) := by
  unfold count
  repeat' first
    | with_reducible assumption
    | with_reducible exact .inl rfl
    | exact .inr (hL _ (by decide))
    | (extract_lets +onlyGivenNames x
       first
       | (refine sameStep (L := L) (s0 := s0) (x := x) (fun hx => ?_) ?_; clear_value x; rotate_left; subst x)
       | subst x)
    | with_reducible refine SameBut.ite ?_ ?_
    | with_reducible refine saturated_frame (parts_sub (by decide) hL) ?_
    | with_reducible refine SameBut.ofPair ?_ (by with_reducible assumption)
    | intro _ _ _
    | intro _ _
    | intro _
    | split
    | (simp only [same_lit]; with_reducible refine SameLit.of ?_ ?_ ?_ ?_ ?_ ?_ ?_ ?_ ?_ ?_ ?_ ?_ ?_ ?_ ?_ ?_ ?_ ?_ ?_ ?_ ?_ ?_ ?_ ?_ ?_ ?_ ?_ ?_ ?_ ?_ ?_ ?_ ?_ ?_ ?_ ?_ ?_ ?_ ?_ ?_)
    | exact .inl rfl
    | dsimp only
    | dsimp only [id]

theorem clearCount_frame {L : List StatePart} {s0 : State} {index sub : Nat} {s : State}
    (hL : ∀ p ∈ [StatePart.counters], p ∈ L) (hok : SameBut L s0 s) :
    SameBut L s0 (clearCount index sub s) := by
  unfold clearCount
  repeat' first
    | with_reducible assumption
    | with_reducible exact .inl rfl
    | exact .inr (hL _ (by decide))
    | (extract_lets +onlyGivenNames x
       first
       | (refine sameStep (L := L) (s0 := s0) (x := x) (fun hx => ?_) ?_; clear_value x; rotate_left; subst x)
       | subst x)
    | intro _ _ _
    | intro _ _
    | intro _
    | (simp only [same_lit]; with_reducible refine SameLit.of ?_ ?_ ?_ ?_ ?_ ?_ ?_ ?_ ?_ ?_ ?_ ?_ ?_ ?_ ?_ ?_ ?_ ?_ ?_ ?_ ?_ ?_ ?_ ?_ ?_ ?_ ?_ ?_ ?_ ?_ ?_ ?_ ?_ ?_ ?_ ?_ ?_ ?_ ?_ ?_)
    | exact .inl rfl
    | dsimp only
    | dsimp only [id]

theorem countPackage_frame {L : List StatePart} {s0 : State} {sub : Nat} {s : State}
    (hL : ∀ p ∈ [StatePart.counters, .int], p ∈ L) (hok : SameBut L s0 s) :
    SameBut L s0 (countPackage sub s) := by
  unfold countPackage
  repeat' first
    | with_reducible assumption
    | with_reducible refine count_frame (parts_sub (by decide) hL) ?_
    | intro _ _ _
    | intro _ _
    | intro _
    | dsimp only
    | dsimp only [id]

theorem countPort_frame {L : List StatePart} {s0 : State} {p : Port} {sub : Nat} {s : State}
    (hL : ∀ p ∈ [StatePart.counters, .int], p ∈ L) (hok : SameBut L s0 s) :
    SameBut L s0 (countPort p sub s) := by
  unfold countPort
  repeat' first
    | with_reducible assumption
    | with_reducible refine count_frame (parts_sub (by decide) hL) ?_
    | intro _ _ _
    | intro _ _
    | intro _
    | dsimp only
    | dsimp only [id]

theorem countFn_frame {L : List StatePart} {s0 : State} {g : Fun} {sub : Nat} {s : State}
    (hL : ∀ p ∈ [StatePart.counters, .int], p ∈ L) (hok : SameBut L s0 s) :
    SameBut L s0 (countFn g sub s) := by
  unfold countFn
  repeat' first
    | with_reducible assumption
    | with_reducible refine count_frame (parts_sub (by decide) hL) ?_
    | intro _ _ _
    | intro _ _
    | intro _
    | dsimp only
    | dsimp only [id]

theorem writeRecord_frame {L : List StatePart} {s0 : State} {ref : Ref} {v : Val} {s : State}
    (hL : ∀ p ∈ [StatePart.stored, .counters, .mgmt, .int], p ∈ L) (hok : SameBut L s0 s) :
    SameBut L s0 (writeRecord ref v s) := by
  unfold writeRecord
  repeat' first
    | with_reducible assumption
    | with_reducible exact .inl rfl
    | exact .inr (hL _ (by decide))
    | (extract_lets +onlyGivenNames x
       first
       | (refine sameStep (L := L) (s0 := s0) (x := x) (fun hx => ?_) ?_; clear_value x; rotate_left; subst x)
       | subst x)
    | with_reducible refine countPackage_frame (parts_sub (by decide) hL) ?_
    | with_reducible refine SameBut.ofPair ?_ (by with_reducible assumption)
    | intro _ _ _
    | intro _ _
    | intro _
    | split
    | (simp only [same_lit]; with_reducible refine SameLit.of ?_ ?_ ?_ ?_ ?_ ?_ ?_ ?_ ?_ ?_ ?_ ?_ ?_ ?_ ?_ ?_ ?_ ?_ ?_ ?_ ?_ ?_ ?_ ?_ ?_ ?_ ?_ ?_ ?_ ?_ ?_ ?_ ?_ ?_ ?_ ?_ ?_ ?_ ?_ ?_)
    | exact .inl rfl
    | dsimp only
    | dsimp only [id]

theorem sendIntx_frame {L : List StatePart} {s0 : State} {p : Port} {s : State}
    (hL : ∀ p ∈ [StatePart.intx, .out], p ∈ L) (hok : SameBut L s0 s) :
    SameBut L s0 (sendIntx p s) := by
  unfold sendIntx
  repeat' first
    | with_reducible assumption
    | with_reducible exact .inl rfl
    | exact .inr (hL _ (by decide))
    | exact .inl fun _ => rfl
    | (extract_lets +onlyGivenNames x
       first
       | (refine sameStep (L := L) (s0 := s0) (x := x) (fun hx => ?_) ?_; clear_value x; rotate_left; subst x)
       | subst x)
    | with_reducible refine SameBut.ite ?_ ?_
    | with_reducible refine foldState_frame (fun _ _ _ => ?_) ?_
    | with_reducible refine emit_frame (parts_sub (by decide) hL) ?_
    | with_reducible refine modPort_frame ?_ ?_ ?_ ?_ ?_ 
    | intro _ _ _
    | intro _ _
    | intro _
    | split
    | (simp only [same_lit]; with_reducible refine SameLit.of ?_ ?_ ?_ ?_ ?_ ?_ ?_ ?_ ?_ ?_ ?_ ?_ ?_ ?_ ?_ ?_ ?_ ?_ ?_ ?_ ?_ ?_ ?_ ?_ ?_ ?_ ?_ ?_ ?_ ?_ ?_ ?_ ?_ ?_ ?_ ?_ ?_ ?_ ?_ ?_)
    | exact .inl fun x => by (repeat' split) <;> rfl
    | exact .inl rfl
    | dsimp only
    | dsimp only [id]

theorem settleIntx_frame {L : List StatePart} {s0 : State} {before : State} {p : Port} {s : State}
    (hL : ∀ p ∈ [StatePart.counters, .intx, .int, .out], p ∈ L) (hok : SameBut L s0 s) :
    SameBut L s0 (settleIntx before p s) := by
  unfold settleIntx
  repeat' first
    | with_reducible assumption
    | with_reducible refine SameBut.ite ?_ ?_
    | with_reducible refine sendIntx_frame (parts_sub (by decide) hL) ?_
    | with_reducible refine foldState_frame (fun _ _ _ => ?_) ?_
    | with_reducible refine countFn_frame (parts_sub (by decide) hL) ?_
    | intro _ _ _
    | intro _ _
    | intro _
    | split
    | dsimp only
    | dsimp only [id]

theorem modPower_frame {L : List StatePart} {s0 : State} {f : PowerSt → PowerSt} {s : State}
    (hL : ∀ p ∈ [StatePart.power], p ∈ L) (hok : SameBut L s0 s) :
    SameBut L s0 (modPower f s) := by
  unfold modPower
  repeat' first
    | with_reducible assumption
    | with_reducible exact .inl rfl
    | exact .inr (hL _ (by decide))
    | (extract_lets +onlyGivenNames x
       first
       | (refine sameStep (L := L) (s0 := s0) (x := x) (fun hx => ?_) ?_; clear_value x; rotate_left; subst x)
       | subst x)
    | intro _ _ _
    | intro _ _
    | intro _
    | (simp only [same_lit]; with_reducible refine SameLit.of ?_ ?_ ?_ ?_ ?_ ?_ ?_ ?_ ?_ ?_ ?_ ?_ ?_ ?_ ?_ ?_ ?_ ?_ ?_ ?_ ?_ ?_ ?_ ?_ ?_ ?_ ?_ ?_ ?_ ?_ ?_ ?_ ?_ ?_ ?_ ?_ ?_ ?_ ?_ ?_)
    | exact .inl rfl
    | dsimp only
    | dsimp only [id]

theorem assertWake_frame {L : List StatePart} {s0 : State} {g : Fun} {source : Nat} {s : State}
    (hL : ∀ p ∈ [StatePart.links, .out], p ∈ L) (hok : SameBut L s0 s) :
    SameBut L s0 (assertWake g source s) := by
  unfold assertWake
  repeat' first
    | with_reducible assumption
    | with_reducible exact .inl rfl
    | exact .inr (hL _ (by decide))
    | exact .inl fun _ => rfl
    | (extract_lets +onlyGivenNames x
       first
       | (refine sameStep (L := L) (s0 := s0) (x := x) (fun hx => ?_) ?_; clear_value x; rotate_left; subst x)
       | subst x)
    | with_reducible refine SameBut.ite ?_ ?_
    | with_reducible refine emit_frame (parts_sub (by decide) hL) ?_
    | with_reducible refine modPort_frame ?_ ?_ ?_ ?_ ?_ 
    | intro _ _ _
    | intro _ _
    | intro _
    | split
    | (simp only [same_lit]; with_reducible refine SameLit.of ?_ ?_ ?_ ?_ ?_ ?_ ?_ ?_ ?_ ?_ ?_ ?_ ?_ ?_ ?_ ?_ ?_ ?_ ?_ ?_ ?_ ?_ ?_ ?_ ?_ ?_ ?_ ?_ ?_ ?_ ?_ ?_ ?_ ?_ ?_ ?_ ?_ ?_ ?_ ?_)
    | exact .inl fun x => by (repeat' split) <;> rfl
    | exact .inl rfl
    | dsimp only
    | dsimp only [id]

theorem entryWake_frame {L : List StatePart} {s0 : State} {code : Nat} {s : State}
    (hL : ∀ p ∈ [StatePart.links, .out], p ∈ L) (hok : SameBut L s0 s) :
    SameBut L s0 (entryWake code s) := by
  unfold entryWake
  repeat' first
    | with_reducible assumption
    | (extract_lets +onlyGivenNames x
       first
       | (refine sameStep (L := L) (s0 := s0) (x := x) (fun hx => ?_) ?_; clear_value x; rotate_left; subst x)
       | subst x)
    | with_reducible refine SameBut.ite ?_ ?_
    | with_reducible refine assertWake_frame (parts_sub (by decide) hL) ?_
    | intro _ _ _
    | intro _ _
    | intro _
    | split
    | dsimp only
    | dsimp only [id]

theorem startWake_frame {L : List StatePart} {s0 : State} {code : Nat} {s : State}
    (hL : ∀ p ∈ [StatePart.counters, .links, .int, .power, .out], p ∈ L) (hok : SameBut L s0 s) :
    SameBut L s0 (startWake code s) := by
  unfold startWake
  repeat' first
    | with_reducible assumption
    | with_reducible exact .inl rfl
    | exact .inr (hL _ (by decide))
    | (extract_lets +onlyGivenNames x
       first
       | (refine sameStep (L := L) (s0 := s0) (x := x) (fun hx => ?_) ?_; clear_value x; rotate_left; subst x)
       | subst x)
    | with_reducible refine countPackage_frame (parts_sub (by decide) hL) ?_
    | with_reducible refine entryWake_frame (parts_sub (by decide) hL) ?_
    | with_reducible refine modPower_frame (parts_sub (by decide) hL) ?_
    | intro _ _ _
    | intro _ _
    | intro _
    | (simp only [same_lit]; with_reducible refine SameLit.of ?_ ?_ ?_ ?_ ?_ ?_ ?_ ?_ ?_ ?_ ?_ ?_ ?_ ?_ ?_ ?_ ?_ ?_ ?_ ?_ ?_ ?_ ?_ ?_ ?_ ?_ ?_ ?_ ?_ ?_ ?_ ?_ ?_ ?_ ?_ ?_ ?_ ?_ ?_ ?_)
    | exact .inl rfl
    | dsimp only
    | dsimp only [id]

theorem askWake_frame {L : List StatePart} {s0 : State} {code : Nat} {s : State}
    (hL : ∀ p ∈ [StatePart.counters, .links, .int, .power, .out], p ∈ L) (hok : SameBut L s0 s) :
    SameBut L s0 (askWake code s) := by
  unfold askWake
  repeat' first
    | with_reducible assumption
    | with_reducible exact .inl rfl
    | exact .inr (hL _ (by decide))
    | (extract_lets +onlyGivenNames x
       first
       | (refine sameStep (L := L) (s0 := s0) (x := x) (fun hx => ?_) ?_; clear_value x; rotate_left; subst x)
       | subst x)
    | with_reducible refine SameBut.ite ?_ ?_
    | with_reducible refine startWake_frame (parts_sub (by decide) hL) ?_
    | with_reducible refine modPower_frame (parts_sub (by decide) hL) ?_
    | with_reducible refine SameBut.ofPair ?_ (by with_reducible assumption)
    | intro _ _ _
    | intro _ _
    | intro _
    | split
    | (simp only [same_lit]; with_reducible refine SameLit.of ?_ ?_ ?_ ?_ ?_ ?_ ?_ ?_ ?_ ?_ ?_ ?_ ?_ ?_ ?_ ?_ ?_ ?_ ?_ ?_ ?_ ?_ ?_ ?_ ?_ ?_ ?_ ?_ ?_ ?_ ?_ ?_ ?_ ?_ ?_ ?_ ?_ ?_ ?_ ?_)
    | exact .inl rfl
    | dsimp only
    | dsimp only [id]

theorem latchLater_frame {L : List StatePart} {s0 : State} {w : WakeInput} {s : State}
    (hL : ∀ p ∈ [StatePart.power], p ∈ L) (hok : SameBut L s0 s) :
    SameBut L s0 (latchLater w s) := by
  unfold latchLater
  repeat' first
    | with_reducible assumption
    | with_reducible exact .inl rfl
    | exact .inr (hL _ (by decide))
    | (extract_lets +onlyGivenNames x
       first
       | (refine sameStep (L := L) (s0 := s0) (x := x) (fun hx => ?_) ?_; clear_value x; rotate_left; subst x)
       | subst x)
    | with_reducible refine modPower_frame (parts_sub (by decide) hL) ?_
    | with_reducible refine SameBut.ofPair ?_ (by with_reducible assumption)
    | intro _ _ _
    | intro _ _
    | intro _
    | split
    | (simp only [same_lit]; with_reducible refine SameLit.of ?_ ?_ ?_ ?_ ?_ ?_ ?_ ?_ ?_ ?_ ?_ ?_ ?_ ?_ ?_ ?_ ?_ ?_ ?_ ?_ ?_ ?_ ?_ ?_ ?_ ?_ ?_ ?_ ?_ ?_ ?_ ?_ ?_ ?_ ?_ ?_ ?_ ?_ ?_ ?_)
    | exact .inl rfl
    | dsimp only
    | dsimp only [id]

theorem wakeFires_frame {L : List StatePart} {s0 : State} {w : WakeInput} {s : State}
    (hL : ∀ p ∈ [StatePart.counters, .links, .int, .power, .out], p ∈ L) (hok : SameBut L s0 s) :
    SameBut L s0 (wakeFires w s) := by
  unfold wakeFires
  repeat' first
    | with_reducible assumption
    | with_reducible exact .inl rfl
    | exact .inr (hL _ (by decide))
    | (extract_lets +onlyGivenNames x
       first
       | (refine sameStep (L := L) (s0 := s0) (x := x) (fun hx => ?_) ?_; clear_value x; rotate_left; subst x)
       | subst x)
    | with_reducible refine SameBut.ite ?_ ?_
    | with_reducible refine assertWake_frame (parts_sub (by decide) hL) ?_
    | with_reducible refine latchLater_frame (parts_sub (by decide) hL) ?_
    | with_reducible refine askWake_frame (parts_sub (by decide) hL) ?_
    | with_reducible refine SameBut.ofPair ?_ (by with_reducible assumption)
    | intro _ _ _
    | intro _ _
    | intro _
    | split
    | (simp only [same_lit]; with_reducible refine SameLit.of ?_ ?_ ?_ ?_ ?_ ?_ ?_ ?_ ?_ ?_ ?_ ?_ ?_ ?_ ?_ ?_ ?_ ?_ ?_ ?_ ?_ ?_ ?_ ?_ ?_ ?_ ?_ ?_ ?_ ?_ ?_ ?_ ?_ ?_ ?_ ?_ ?_ ?_ ?_ ?_)
    | exact .inl rfl
    | dsimp only
    | dsimp only [id]

theorem runWeir_frame {L : List StatePart} {s0 : State} {g : Fun} {before s : State}
    (hL : ∀ p ∈ [StatePart.counters, .intx, .fnCfg, .int, .out], p ∈ L) (hok : SameBut L s0 s) :
    SameBut L s0 (runWeir g before s) := by
  unfold runWeir
  repeat' first
    | with_reducible assumption
    | with_reducible exact .inl rfl
    | exact .inr (hL _ (by decide))
    | (extract_lets +onlyGivenNames x
       first
       | (refine sameStep (L := L) (s0 := s0) (x := x) (fun hx => ?_) ?_; clear_value x; rotate_left; subst x)
       | subst x)
    | with_reducible refine SameBut.ite ?_ ?_
    | with_reducible refine modInt_frame (parts_sub (by decide) hL) ?_
    | with_reducible refine emit_frame (parts_sub (by decide) hL) ?_
    | with_reducible refine modCfg_frame (parts_sub (by decide) hL) ?_
    | with_reducible refine settleIntx_frame (parts_sub (by decide) hL) ?_
    | intro _ _ _
    | intro _ _
    | intro _
    | split
    | (simp only [same_lit]; with_reducible refine SameLit.of ?_ ?_ ?_ ?_ ?_ ?_ ?_ ?_ ?_ ?_ ?_ ?_ ?_ ?_ ?_ ?_ ?_ ?_ ?_ ?_ ?_ ?_ ?_ ?_ ?_ ?_ ?_ ?_ ?_ ?_ ?_ ?_ ?_ ?_ ?_ ?_ ?_ ?_ ?_ ?_)
    | exact .inl rfl
    | dsimp only
    | dsimp only [id]

theorem setLatch_frame {L : List StatePart} {s0 : State} {g : Fun} {source : Nat} {s : State}
    (hL : ∀ p ∈ [StatePart.counters, .intx, .fnCfg, .int, .out], p ∈ L) (hok : SameBut L s0 s) :
    SameBut L s0 (setLatch g source s) := by
  unfold setLatch
  repeat' first
    | with_reducible assumption
    | with_reducible exact .inl rfl
    | exact .inr (hL _ (by decide))
    | (extract_lets +onlyGivenNames x
       first
       | (refine sameStep (L := L) (s0 := s0) (x := x) (fun hx => ?_) ?_; clear_value x; rotate_left; subst x)
       | subst x)
    | with_reducible refine SameBut.ite ?_ ?_
    | with_reducible refine modInt_frame (parts_sub (by decide) hL) ?_
    | with_reducible refine saturated_frame (parts_sub (by decide) hL) ?_
    | with_reducible refine runWeir_frame (parts_sub (by decide) hL) ?_
    | with_reducible refine SameBut.ofPair ?_ (by with_reducible assumption)
    | intro _ _ _
    | intro _ _
    | intro _
    | split
    | (simp only [same_lit]; with_reducible refine SameLit.of ?_ ?_ ?_ ?_ ?_ ?_ ?_ ?_ ?_ ?_ ?_ ?_ ?_ ?_ ?_ ?_ ?_ ?_ ?_ ?_ ?_ ?_ ?_ ?_ ?_ ?_ ?_ ?_ ?_ ?_ ?_ ?_ ?_ ?_ ?_ ?_ ?_ ?_ ?_ ?_)
    | exact .inl rfl
    | dsimp only
    | dsimp only [id]

theorem fire_frame {L : List StatePart} {s0 : State} {g : Fun} {source : Nat} {s : State}
    (hL : ∀ p ∈ [StatePart.counters, .links, .intx, .fnCfg, .int, .power, .out], p ∈ L) (hok : SameBut L s0 s) :
    SameBut L s0 (fire g source s) := by
  unfold fire
  repeat' first
    | with_reducible assumption
    | (extract_lets +onlyGivenNames x
       first
       | (refine sameStep (L := L) (s0 := s0) (x := x) (fun hx => ?_) ?_; clear_value x; rotate_left; subst x)
       | subst x)
    | with_reducible refine SameBut.ite ?_ ?_
    | with_reducible refine wakeFires_frame (parts_sub (by decide) hL) ?_
    | with_reducible refine setLatch_frame (parts_sub (by decide) hL) ?_
    | intro _ _ _
    | intro _ _
    | intro _
    | split
    | dsimp only
    | dsimp only [id]

theorem aerUncorrectable_frame {L : List StatePart} {s0 : State} {g : Fun} {b : Nat} {s : State}
    (hL : ∀ p ∈ [StatePart.fnCfg, .out], p ∈ L) (hok : SameBut L s0 s) :
    SameBut L s0 (aerUncorrectable g b s) := by
  unfold aerUncorrectable
  repeat' first
    | with_reducible assumption
    | with_reducible exact .inl rfl
    | exact .inr (hL _ (by decide))
    | (extract_lets +onlyGivenNames x
       first
       | (refine sameStep (L := L) (s0 := s0) (x := x) (fun hx => ?_) ?_; clear_value x; rotate_left; subst x)
       | subst x)
    | with_reducible refine SameBut.ite ?_ ?_
    | with_reducible refine modCfg_frame (parts_sub (by decide) hL) ?_
    | with_reducible refine emit_frame (parts_sub (by decide) hL) ?_
    | with_reducible refine SameBut.ofPair ?_ (by with_reducible assumption)
    | intro _ _ _
    | intro _ _
    | intro _
    | split
    | (simp only [same_lit]; with_reducible refine SameLit.of ?_ ?_ ?_ ?_ ?_ ?_ ?_ ?_ ?_ ?_ ?_ ?_ ?_ ?_ ?_ ?_ ?_ ?_ ?_ ?_ ?_ ?_ ?_ ?_ ?_ ?_ ?_ ?_ ?_ ?_ ?_ ?_ ?_ ?_ ?_ ?_ ?_ ?_ ?_ ?_)
    | exact .inl rfl
    | dsimp only
    | dsimp only [id]

theorem poisonedTlp_frame {L : List StatePart} {s0 : State} {g : Fun} {s : State}
    (hL : ∀ p ∈ [StatePart.fnCfg, .out], p ∈ L) (hok : SameBut L s0 s) :
    SameBut L s0 (poisonedTlp g s) := by
  unfold poisonedTlp
  repeat' first
    | with_reducible assumption
    | with_reducible exact .inl rfl
    | exact .inr (hL _ (by decide))
    | (extract_lets +onlyGivenNames x
       first
       | (refine sameStep (L := L) (s0 := s0) (x := x) (fun hx => ?_) ?_; clear_value x; rotate_left; subst x)
       | subst x)
    | with_reducible refine aerUncorrectable_frame (parts_sub (by decide) hL) ?_
    | with_reducible refine modCfg_frame (parts_sub (by decide) hL) ?_
    | intro _ _ _
    | intro _ _
    | intro _
    | (simp only [same_lit]; with_reducible refine SameLit.of ?_ ?_ ?_ ?_ ?_ ?_ ?_ ?_ ?_ ?_ ?_ ?_ ?_ ?_ ?_ ?_ ?_ ?_ ?_ ?_ ?_ ?_ ?_ ?_ ?_ ?_ ?_ ?_ ?_ ?_ ?_ ?_ ?_ ?_ ?_ ?_ ?_ ?_ ?_ ?_)
    | exact .inl rfl
    | dsimp only
    | dsimp only [id]

theorem aerCorrectable_frame {L : List StatePart} {s0 : State} {g : Fun} {b : Nat} {s : State}
    (hL : ∀ p ∈ [StatePart.fnCfg, .out], p ∈ L) (hok : SameBut L s0 s) :
    SameBut L s0 (aerCorrectable g b s) := by
  unfold aerCorrectable
  repeat' first
    | with_reducible assumption
    | with_reducible exact .inl rfl
    | exact .inr (hL _ (by decide))
    | (extract_lets +onlyGivenNames x
       first
       | (refine sameStep (L := L) (s0 := s0) (x := x) (fun hx => ?_) ?_; clear_value x; rotate_left; subst x)
       | subst x)
    | with_reducible refine SameBut.ite ?_ ?_
    | with_reducible refine modCfg_frame (parts_sub (by decide) hL) ?_
    | with_reducible refine emit_frame (parts_sub (by decide) hL) ?_
    | intro _ _ _
    | intro _ _
    | intro _
    | split
    | (simp only [same_lit]; with_reducible refine SameLit.of ?_ ?_ ?_ ?_ ?_ ?_ ?_ ?_ ?_ ?_ ?_ ?_ ?_ ?_ ?_ ?_ ?_ ?_ ?_ ?_ ?_ ?_ ?_ ?_ ?_ ?_ ?_ ?_ ?_ ?_ ?_ ?_ ?_ ?_ ?_ ?_ ?_ ?_ ?_ ?_)
    | exact .inl rfl
    | dsimp only
    | dsimp only [id]

theorem unsupportedRequest_frame {L : List StatePart} {s0 : State} {g : Fun} {s : State}
    (hL : ∀ p ∈ [StatePart.fnCfg, .out], p ∈ L) (hok : SameBut L s0 s) :
    SameBut L s0 (unsupportedRequest g s) := by
  unfold unsupportedRequest
  repeat' first
    | with_reducible assumption
    | (extract_lets +onlyGivenNames x
       first
       | (refine sameStep (L := L) (s0 := s0) (x := x) (fun hx => ?_) ?_; clear_value x; rotate_left; subst x)
       | subst x)
    | with_reducible refine SameBut.ite ?_ ?_
    | with_reducible refine aerUncorrectable_frame (parts_sub (by decide) hL) ?_
    | intro _ _ _
    | intro _ _
    | intro _
    | split
    | dsimp only
    | dsimp only [id]

theorem barWrite_frame {L : List StatePart} {s0 : State} {g : Fun} {act : State → State} {s : State}
    (hL : ∀ p ∈ [StatePart.fnCfg, .out], p ∈ L) (h_act : ∀ t, SameBut L s0 t → SameBut L s0 (act t)) (hok : SameBut L s0 s) :
    SameBut L s0 (barWrite g act s) := by
  unfold barWrite
  repeat' first
    | with_reducible assumption
    | with_reducible refine SameBut.ite ?_ ?_
    | with_reducible apply h_act
    | with_reducible refine unsupportedRequest_frame (parts_sub (by decide) hL) ?_
    | intro _ _ _
    | intro _ _
    | intro _
    | split
    | dsimp only
    | dsimp only [id]

theorem cfgWrite_frame {L : List StatePart} {s0 : State} {g : Fun} {act : State → State} {s : State}
    (hL : ∀ p ∈ [StatePart.fnCfg, .out], p ∈ L) (h_act : ∀ t, SameBut L s0 t → SameBut L s0 (act t)) (hok : SameBut L s0 s) :
    SameBut L s0 (cfgWrite g act s) := by
  unfold cfgWrite
  repeat' first
    | with_reducible assumption
    | with_reducible refine SameBut.ite ?_ ?_
    | with_reducible apply h_act
    | with_reducible refine emit_frame (parts_sub (by decide) hL) ?_
    | with_reducible refine unsupportedRequest_frame (parts_sub (by decide) hL) ?_
    | intro _ _ _
    | intro _ _
    | intro _
    | split
    | dsimp only
    | dsimp only [id]

theorem captureFn_frame {L : List StatePart} {s0 : State} {e : Src} {i : ErrInfo} {g : Fun} {s : State}
    (hL : ∀ p ∈ [StatePart.int, .capture], p ∈ L) (hok : SameBut L s0 s) :
    SameBut L s0 (captureFn e i g s) := by
  unfold captureFn
  repeat' first
    | with_reducible assumption
    | with_reducible exact .inl rfl
    | exact .inr (hL _ (by decide))
    | exact .inl fun _ => rfl
    | (extract_lets +onlyGivenNames x
       first
       | (refine sameStep (L := L) (s0 := s0) (x := x) (fun hx => ?_) ?_; clear_value x; rotate_left; subst x)
       | subst x)
    | with_reducible refine SameBut.ite ?_ ?_
    | with_reducible refine modFn_frame ?_ ?_ ?_ ?_ ?_ ?_ ?_ ?_ ?_ 
    | with_reducible refine saturated_frame (parts_sub (by decide) hL) ?_
    | with_reducible refine SameBut.ofPair ?_ (by with_reducible assumption)
    | intro _ _ _
    | intro _ _
    | intro _
    | split
    | (simp only [same_lit]; with_reducible refine SameLit.of ?_ ?_ ?_ ?_ ?_ ?_ ?_ ?_ ?_ ?_ ?_ ?_ ?_ ?_ ?_ ?_ ?_ ?_ ?_ ?_ ?_ ?_ ?_ ?_ ?_ ?_ ?_ ?_ ?_ ?_ ?_ ?_ ?_ ?_ ?_ ?_ ?_ ?_ ?_ ?_)
    | exact .inl fun x => by (repeat' split) <;> rfl
    | exact .inl rfl
    | dsimp only
    | dsimp only [id]

theorem capturePackage_frame {L : List StatePart} {s0 : State} {e : Src} {i : ErrInfo} {s : State}
    (hL : ∀ p ∈ [StatePart.int, .err], p ∈ L) (hok : SameBut L s0 s) :
    SameBut L s0 (capturePackage e i s) := by
  unfold capturePackage
  repeat' first
    | with_reducible assumption
    | with_reducible exact .inl rfl
    | exact .inr (hL _ (by decide))
    | (extract_lets +onlyGivenNames x
       first
       | (refine sameStep (L := L) (s0 := s0) (x := x) (fun hx => ?_) ?_; clear_value x; rotate_left; subst x)
       | subst x)
    | with_reducible refine SameBut.ite ?_ ?_
    | with_reducible refine saturated_frame (parts_sub (by decide) hL) ?_
    | with_reducible refine SameBut.ofPair ?_ (by with_reducible assumption)
    | intro _ _ _
    | intro _ _
    | intro _
    | split
    | (simp only [same_lit]; with_reducible refine SameLit.of ?_ ?_ ?_ ?_ ?_ ?_ ?_ ?_ ?_ ?_ ?_ ?_ ?_ ?_ ?_ ?_ ?_ ?_ ?_ ?_ ?_ ?_ ?_ ?_ ?_ ?_ ?_ ?_ ?_ ?_ ?_ ?_ ?_ ?_ ?_ ?_ ?_ ?_ ?_ ?_)
    | exact .inl rfl
    | dsimp only
    | dsimp only [id]

theorem countError_frame {L : List StatePart} {s0 : State} {e : Src} {s : State}
    (hL : ∀ p ∈ [StatePart.int, .err], p ∈ L) (hok : SameBut L s0 s) :
    SameBut L s0 (countError e s) := by
  unfold countError
  repeat' first
    | with_reducible assumption
    | with_reducible exact .inl rfl
    | exact .inr (hL _ (by decide))
    | (extract_lets +onlyGivenNames x
       first
       | (refine sameStep (L := L) (s0 := s0) (x := x) (fun hx => ?_) ?_; clear_value x; rotate_left; subst x)
       | subst x)
    | with_reducible refine SameBut.ite ?_ ?_
    | with_reducible refine saturated_frame (parts_sub (by decide) hL) ?_
    | with_reducible refine SameBut.ofPair ?_ (by with_reducible assumption)
    | intro _ _ _
    | intro _ _
    | intro _
    | split
    | (simp only [same_lit]; with_reducible refine SameLit.of ?_ ?_ ?_ ?_ ?_ ?_ ?_ ?_ ?_ ?_ ?_ ?_ ?_ ?_ ?_ ?_ ?_ ?_ ?_ ?_ ?_ ?_ ?_ ?_ ?_ ?_ ?_ ?_ ?_ ?_ ?_ ?_ ?_ ?_ ?_ ?_ ?_ ?_ ?_ ?_)
    | exact .inl rfl
    | dsimp only
    | dsimp only [id]

theorem reactNmi_frame {L : List StatePart} {s0 : State} {e : Src} {s : State}
    (hL : ∀ p ∈ [StatePart.od, .stored, .counters, .mgmt, .int, .out], p ∈ L) (hok : SameBut L s0 s) :
    SameBut L s0 (reactNmi e s) := by
  unfold reactNmi
  repeat' first
    | with_reducible assumption
    | (extract_lets +onlyGivenNames x
       first
       | (refine sameStep (L := L) (s0 := s0) (x := x) (fun hx => ?_) ?_; clear_value x; rotate_left; subst x)
       | subst x)
    | with_reducible refine SameBut.ite ?_ ?_
    | with_reducible refine emit_frame (parts_sub (by decide) hL) ?_
    | with_reducible refine writeRecord_frame (parts_sub (by decide) hL) ?_
    | with_reducible refine setObj_frame (parts_sub (by decide) hL) ?_
    | intro _ _ _
    | intro _ _
    | intro _
    | split
    | dsimp only
    | dsimp only [id]

theorem reactPin_frame {L : List StatePart} {s0 : State} {e : Src} {lost : List CtxId} {s : State}
    (hL : ∀ p ∈ [StatePart.int, .err, .out], p ∈ L) (hok : SameBut L s0 s) :
    SameBut L s0 (reactPin e lost s) := by
  unfold reactPin
  repeat' first
    | with_reducible assumption
    | with_reducible exact .inl rfl
    | exact .inr (hL _ (by decide))
    | (extract_lets +onlyGivenNames x
       first
       | (refine sameStep (L := L) (s0 := s0) (x := x) (fun hx => ?_) ?_; clear_value x; rotate_left; subst x)
       | subst x)
    | with_reducible refine SameBut.ite ?_ ?_
    | with_reducible refine saturated_frame (parts_sub (by decide) hL) ?_
    | with_reducible refine emit_frame (parts_sub (by decide) hL) ?_
    | with_reducible refine SameBut.ofPair ?_ (by with_reducible assumption)
    | intro _ _ _
    | intro _ _
    | intro _
    | split
    | (simp only [same_lit]; with_reducible refine SameLit.of ?_ ?_ ?_ ?_ ?_ ?_ ?_ ?_ ?_ ?_ ?_ ?_ ?_ ?_ ?_ ?_ ?_ ?_ ?_ ?_ ?_ ?_ ?_ ?_ ?_ ?_ ?_ ?_ ?_ ?_ ?_ ?_ ?_ ?_ ?_ ?_ ?_ ?_ ?_ ?_)
    | exact .inl rfl
    | dsimp only
    | dsimp only [id]

theorem reactInt_frame {L : List StatePart} {s0 : State} {e : Src} {g : Fun} {s : State}
    (hL : ∀ p ∈ [StatePart.counters, .links, .intx, .fnCfg, .int, .power, .out], p ∈ L) (hok : SameBut L s0 s) :
    SameBut L s0 (reactInt e g s) := by
  unfold reactInt
  repeat' first
    | with_reducible assumption
    | with_reducible refine fire_frame (parts_sub (by decide) hL) ?_
    | with_reducible refine formEvent_frame (parts_sub (by decide) hL) ?_
    | intro _ _ _
    | intro _ _
    | intro _
    | dsimp only
    | dsimp only [id]

theorem reactReset_frame {L : List StatePart} {s0 : State} {e : Src} {r : Nat} {s : State}
    (hL : ∀ p ∈ [StatePart.err], p ∈ L) (hok : SameBut L s0 s) :
    SameBut L s0 (reactReset e r s) := by
  unfold reactReset
  repeat' first
    | with_reducible assumption
    | with_reducible exact .inl rfl
    | exact .inr (hL _ (by decide))
    | (extract_lets +onlyGivenNames x
       first
       | (refine sameStep (L := L) (s0 := s0) (x := x) (fun hx => ?_) ?_; clear_value x; rotate_left; subst x)
       | subst x)
    | with_reducible refine SameBut.ite ?_ ?_
    | with_reducible refine SameBut.ofPair ?_ (by with_reducible assumption)
    | intro _ _ _
    | intro _ _
    | intro _
    | split
    | (simp only [same_lit]; with_reducible refine SameLit.of ?_ ?_ ?_ ?_ ?_ ?_ ?_ ?_ ?_ ?_ ?_ ?_ ?_ ?_ ?_ ?_ ?_ ?_ ?_ ?_ ?_ ?_ ?_ ?_ ?_ ?_ ?_ ?_ ?_ ?_ ?_ ?_ ?_ ?_ ?_ ?_ ?_ ?_ ?_ ?_)
    | exact .inl rfl
    | dsimp only
    | dsimp only [id]

theorem raiseWith_frame {L : List StatePart} {s0 : State} {e : Src} {i : ErrInfo} {lost : List CtxId} {s : State}
    (hL : ∀ p ∈ [StatePart.od, .stored, .counters, .mgmt, .links, .intx, .fnCfg, .int, .capture, .err, .power, .out], p ∈ L) (hok : SameBut L s0 s) :
    SameBut L s0 (raiseWith e i lost s) := by
  unfold raiseWith
  repeat' first
    | with_reducible assumption
    | (extract_lets +onlyGivenNames x
       first
       | (refine sameStep (L := L) (s0 := s0) (x := x) (fun hx => ?_) ?_; clear_value x; rotate_left; subst x)
       | subst x)
    | with_reducible refine SameBut.ite ?_ ?_
    | with_reducible refine countError_frame (parts_sub (by decide) hL) ?_
    | with_reducible refine foldState_frame (fun _ _ _ => ?_) ?_
    | with_reducible refine captureFn_frame (parts_sub (by decide) hL) ?_
    | with_reducible refine capturePackage_frame (parts_sub (by decide) hL) ?_
    | with_reducible refine reactReset_frame (parts_sub (by decide) hL) ?_
    | with_reducible refine reactNmi_frame (parts_sub (by decide) hL) ?_
    | with_reducible refine reactPin_frame (parts_sub (by decide) hL) ?_
    | with_reducible refine reactInt_frame (parts_sub (by decide) hL) ?_
    | with_reducible refine aerUncorrectable_frame (parts_sub (by decide) hL) ?_
    | intro _ _ _
    | intro _ _
    | intro _
    | split
    | dsimp only
    | dsimp only [id]

theorem raiseError_frame {L : List StatePart} {s0 : State} {e : Src} {i : ErrInfo} {s : State}
    (hL : ∀ p ∈ [StatePart.od, .stored, .counters, .mgmt, .links, .intx, .fnCfg, .int, .capture, .err, .power, .out], p ∈ L) (hok : SameBut L s0 s) :
    SameBut L s0 (raiseError e i s) := by
  unfold raiseError
  repeat' first
    | with_reducible assumption
    | with_reducible refine raiseWith_frame (parts_sub (by decide) hL) ?_
    | intro _ _ _
    | intro _ _
    | intro _
    | dsimp only
    | dsimp only [id]


/-! ### Machine/DictCore.lean -/

theorem putObj_frame {L : List StatePart} {s0 : State} {ref : Ref} {v : Val} {s : State}
    (hL : ∀ p ∈ [StatePart.od, .stored, .counters, .mgmt, .int], p ∈ L) (hok : SameBut L s0 s) :
    SameBut L s0 (putObj ref v s) := by
  unfold putObj
  repeat' first
    | with_reducible assumption
    | with_reducible exact .inl rfl
    | exact .inr (hL _ (by decide))
    | (extract_lets +onlyGivenNames x
       first
       | (refine sameStep (L := L) (s0 := s0) (x := x) (fun hx => ?_) ?_; clear_value x; rotate_left; subst x)
       | subst x)
    | with_reducible refine SameBut.ite ?_ ?_
    | with_reducible refine setObj_frame (parts_sub (by decide) hL) ?_
    | with_reducible refine writeRecord_frame (parts_sub (by decide) hL) ?_
    | with_reducible refine SameBut.ofPair ?_ (by with_reducible assumption)
    | intro _ _ _
    | intro _ _
    | intro _
    | split
    | (simp only [same_lit]; with_reducible refine SameLit.of ?_ ?_ ?_ ?_ ?_ ?_ ?_ ?_ ?_ ?_ ?_ ?_ ?_ ?_ ?_ ?_ ?_ ?_ ?_ ?_ ?_ ?_ ?_ ?_ ?_ ?_ ?_ ?_ ?_ ?_ ?_ ?_ ?_ ?_ ?_ ?_ ?_ ?_ ?_ ?_)
    | exact .inl rfl
    | dsimp only
    | dsimp only [id]

theorem requestWrite_frame {L : List StatePart} {s0 : State} {rq : Requester} {ref : Ref} {v : Val} {refuse : State → Option EStatus} {act : State → State} {s : State}
    (hL : ∀ p ∈ [StatePart.out], p ∈ L) (h_act : ∀ t, SameBut L s0 t → SameBut L s0 (act t)) (hok : SameBut L s0 s) :
    SameBut L s0 (requestWrite rq ref v refuse act s) := by
  unfold requestWrite
  repeat' first
    | with_reducible assumption
    | with_reducible exact .inl rfl
    | exact .inr (hL _ (by decide))
    | (extract_lets +onlyGivenNames x
       first
       | (refine sameStep (L := L) (s0 := s0) (x := x) (fun hx => ?_) ?_; clear_value x; rotate_left; subst x)
       | subst x)
    | with_reducible apply h_act
    | with_reducible refine emit_frame (parts_sub (by decide) hL) ?_
    | with_reducible refine SameBut.ofPair ?_ (by with_reducible assumption)
    | intro _ _ _
    | intro _ _
    | intro _
    | split
    | (simp only [same_lit]; with_reducible refine SameLit.of ?_ ?_ ?_ ?_ ?_ ?_ ?_ ?_ ?_ ?_ ?_ ?_ ?_ ?_ ?_ ?_ ?_ ?_ ?_ ?_ ?_ ?_ ?_ ?_ ?_ ?_ ?_ ?_ ?_ ?_ ?_ ?_ ?_ ?_ ?_ ?_ ?_ ?_ ?_ ?_)
    | exact .inl rfl
    | dsimp only
    | dsimp only [id]


/-! ### Machine/PoolOps.lean -/

theorem cleanLine_frame {L : List StatePart} {s0 : State} {line : Nat} {s : State}
    (hL : ∀ p ∈ [StatePart.memory], p ∈ L) (hok : SameBut L s0 s) :
    SameBut L s0 (cleanLine line s) := by
  unfold cleanLine
  repeat' first
    | with_reducible assumption
    | with_reducible exact .inl rfl
    | exact .inr (hL _ (by decide))
    | (extract_lets +onlyGivenNames x
       first
       | (refine sameStep (L := L) (s0 := s0) (x := x) (fun hx => ?_) ?_; clear_value x; rotate_left; subst x)
       | subst x)
    | intro _ _ _
    | intro _ _
    | intro _
    | (simp only [same_lit]; with_reducible refine SameLit.of ?_ ?_ ?_ ?_ ?_ ?_ ?_ ?_ ?_ ?_ ?_ ?_ ?_ ?_ ?_ ?_ ?_ ?_ ?_ ?_ ?_ ?_ ?_ ?_ ?_ ?_ ?_ ?_ ?_ ?_ ?_ ?_ ?_ ?_ ?_ ?_ ?_ ?_ ?_ ?_)
    | exact .inl rfl
    | dsimp only
    | dsimp only [id]

theorem putBytes_frame {L : List StatePart} {s0 : State} {a : Nat} {b : Bytes} {s : State}
    (hL : ∀ p ∈ [StatePart.memory], p ∈ L) (hok : SameBut L s0 s) :
    SameBut L s0 (putBytes a b s) := by
  unfold putBytes
  repeat' first
    | with_reducible assumption
    | with_reducible exact .inl rfl
    | exact .inr (hL _ (by decide))
    | (extract_lets +onlyGivenNames x
       first
       | (refine sameStep (L := L) (s0 := s0) (x := x) (fun hx => ?_) ?_; clear_value x; rotate_left; subst x)
       | subst x)
    | intro _ _ _
    | intro _ _
    | intro _
    | (simp only [same_lit]; with_reducible refine SameLit.of ?_ ?_ ?_ ?_ ?_ ?_ ?_ ?_ ?_ ?_ ?_ ?_ ?_ ?_ ?_ ?_ ?_ ?_ ?_ ?_ ?_ ?_ ?_ ?_ ?_ ?_ ?_ ?_ ?_ ?_ ?_ ?_ ?_ ?_ ?_ ?_ ?_ ?_ ?_ ?_)
    | exact .inl rfl
    | dsimp only
    | dsimp only [id]

theorem copyLine_frame {L : List StatePart} {s0 : State} {line copy : Nat} {s : State}
    (hL : ∀ p ∈ [StatePart.memory], p ∈ L) (hok : SameBut L s0 s) :
    SameBut L s0 (copyLine line copy s) := by
  unfold copyLine
  repeat' first
    | with_reducible assumption
    | with_reducible refine putBytes_frame (parts_sub (by decide) hL) ?_
    | intro _ _ _
    | intro _ _
    | intro _
    | dsimp only
    | dsimp only [id]

theorem writeStack_frame {L : List StatePart} {s0 : State} {line : Nat} {slot : Option Nat} {s : State}
    (hL : ∀ p ∈ [StatePart.out], p ∈ L) (hok : SameBut L s0 s) :
    SameBut L s0 (writeStack line slot s) := by
  unfold writeStack
  repeat' first
    | with_reducible assumption
    | with_reducible refine foldState_frame (fun _ _ _ => ?_) ?_
    | with_reducible refine emit_frame (parts_sub (by decide) hL) ?_
    | intro _ _ _
    | intro _ _
    | intro _
    | dsimp only
    | dsimp only [id]

theorem backLine_frame {L : List StatePart} {s0 : State} {line : Nat} {s : State}
    (hL : ∀ p ∈ [StatePart.memory, .out], p ∈ L) (hok : SameBut L s0 s) :
    SameBut L s0 (backLine line s) := by
  unfold backLine
  repeat' first
    | with_reducible assumption
    | with_reducible exact .inl rfl
    | exact .inr (hL _ (by decide))
    | (extract_lets +onlyGivenNames x
       first
       | (refine sameStep (L := L) (s0 := s0) (x := x) (fun hx => ?_) ?_; clear_value x; rotate_left; subst x)
       | subst x)
    | with_reducible refine writeStack_frame (parts_sub (by decide) hL) ?_
    | with_reducible refine cleanLine_frame (parts_sub (by decide) hL) ?_
    | with_reducible refine copyLine_frame (parts_sub (by decide) hL) ?_
    | with_reducible refine SameBut.ofPair ?_ (by with_reducible assumption)
    | intro _ _ _
    | intro _ _
    | intro _
    | split
    | (simp only [same_lit]; with_reducible refine SameLit.of ?_ ?_ ?_ ?_ ?_ ?_ ?_ ?_ ?_ ?_ ?_ ?_ ?_ ?_ ?_ ?_ ?_ ?_ ?_ ?_ ?_ ?_ ?_ ?_ ?_ ?_ ?_ ?_ ?_ ?_ ?_ ?_ ?_ ?_ ?_ ?_ ?_ ?_ ?_ ?_)
    | exact .inl rfl
    | dsimp only
    | dsimp only [id]

theorem writeLine_frame {L : List StatePart} {s0 : State} {a : Nat} {b : Bytes} {through : Bool} {s : State}
    (hL : ∀ p ∈ [StatePart.memory, .out], p ∈ L) (hok : SameBut L s0 s) :
    SameBut L s0 (writeLine a b through s) := by
  unfold writeLine
  repeat' first
    | with_reducible assumption
    | with_reducible exact .inl rfl
    | exact .inr (hL _ (by decide))
    | (extract_lets +onlyGivenNames x
       first
       | (refine sameStep (L := L) (s0 := s0) (x := x) (fun hx => ?_) ?_; clear_value x; rotate_left; subst x)
       | subst x)
    | with_reducible refine SameBut.ite ?_ ?_
    | with_reducible refine putBytes_frame (parts_sub (by decide) hL) ?_
    | with_reducible refine backLine_frame (parts_sub (by decide) hL) ?_
    | with_reducible refine cleanLine_frame (parts_sub (by decide) hL) ?_
    | intro _ _ _
    | intro _ _
    | intro _
    | split
    | (simp only [same_lit]; with_reducible refine SameLit.of ?_ ?_ ?_ ?_ ?_ ?_ ?_ ?_ ?_ ?_ ?_ ?_ ?_ ?_ ?_ ?_ ?_ ?_ ?_ ?_ ?_ ?_ ?_ ?_ ?_ ?_ ?_ ?_ ?_ ?_ ?_ ?_ ?_ ?_ ?_ ?_ ?_ ?_ ?_ ?_)
    | exact .inl rfl
    | dsimp only
    | dsimp only [id]

theorem clearPoison_frame {L : List StatePart} {s0 : State} {line : Nat} {s : State}
    (hL : ∀ p ∈ [StatePart.pool], p ∈ L) (hok : SameBut L s0 s) :
    SameBut L s0 (clearPoison line s) := by
  unfold clearPoison
  repeat' first
    | with_reducible assumption
    | with_reducible exact .inl rfl
    | exact .inr (hL _ (by decide))
    | (extract_lets +onlyGivenNames x
       first
       | (refine sameStep (L := L) (s0 := s0) (x := x) (fun hx => ?_) ?_; clear_value x; rotate_left; subst x)
       | subst x)
    | intro _ _ _
    | intro _ _
    | intro _
    | (simp only [same_lit]; with_reducible refine SameLit.of ?_ ?_ ?_ ?_ ?_ ?_ ?_ ?_ ?_ ?_ ?_ ?_ ?_ ?_ ?_ ?_ ?_ ?_ ?_ ?_ ?_ ?_ ?_ ?_ ?_ ?_ ?_ ?_ ?_ ?_ ?_ ?_ ?_ ?_ ?_ ?_ ?_ ?_ ?_ ?_)
    | exact .inl rfl
    | dsimp only
    | dsimp only [id]

theorem writeRun_frame {L : List StatePart} {s0 : State} {a : Nat} {b : Bytes} {through : Bool} {s : State}
    (hL : ∀ p ∈ [StatePart.counters, .int, .memory, .pool, .out], p ∈ L) (hok : SameBut L s0 s) :
    SameBut L s0 (writeRun a b through s) := by
  unfold writeRun
  repeat' first
    | with_reducible assumption
    | with_reducible refine SameBut.ite ?_ ?_
    | with_reducible refine writeLine_frame (parts_sub (by decide) hL) ?_
    | with_reducible refine clearPoison_frame (parts_sub (by decide) hL) ?_
    | with_reducible refine countPackage_frame (parts_sub (by decide) hL) ?_
    | intro _ _ _
    | intro _ _
    | intro _
    | split
    | dsimp only
    | dsimp only [id]

theorem poolWrite_frame {L : List StatePart} {s0 : State} {a : Nat} {b : Bytes} {through : Bool} {s : State}
    (hL : ∀ p ∈ [StatePart.counters, .int, .memory, .pool, .out], p ∈ L) (hok : SameBut L s0 s) :
    SameBut L s0 (poolWrite a b through s) := by
  unfold poolWrite
  repeat' first
    | with_reducible assumption
    | with_reducible refine foldState_frame (fun _ _ _ => ?_) ?_
    | with_reducible refine writeRun_frame (parts_sub (by decide) hL) ?_
    | intro _ _ _
    | intro _ _
    | intro _
    | dsimp only
    | dsimp only [id]

theorem writeBack_frame {L : List StatePart} {s0 : State} {a n : Nat} {s : State}
    (hL : ∀ p ∈ [StatePart.memory, .out], p ∈ L) (hok : SameBut L s0 s) :
    SameBut L s0 (writeBack a n s) := by
  unfold writeBack
  repeat' first
    | with_reducible assumption
    | with_reducible refine foldState_frame (fun _ _ _ => ?_) ?_
    | with_reducible refine backLine_frame (parts_sub (by decide) hL) ?_
    | intro _ _ _
    | intro _ _
    | intro _
    | dsimp only
    | dsimp only [id]

theorem mayEvict_frame {L : List StatePart} {s0 : State} {line : Nat} {s : State}
    (hL : ∀ p ∈ [StatePart.memory, .draws, .out], p ∈ L) (hok : SameBut L s0 s) :
    SameBut L s0 (mayEvict line s) := by
  unfold mayEvict
  repeat' first
    | with_reducible assumption
    | (extract_lets +onlyGivenNames x
       first
       | (refine sameStep (L := L) (s0 := s0) (x := x) (fun hx => ?_) ?_; clear_value x; rotate_left; subst x)
       | subst x)
    | with_reducible refine SameBut.ite ?_ ?_
    | with_reducible refine draw_frame (parts_sub (by decide) hL) ?_
    | with_reducible refine backLine_frame (parts_sub (by decide) hL) ?_
    | intro _ _ _
    | intro _ _
    | intro _
    | split
    | dsimp only
    | dsimp only [id]

theorem mayEvictSpan_frame {L : List StatePart} {s0 : State} {a n : Nat} {s : State}
    (hL : ∀ p ∈ [StatePart.memory, .draws, .out], p ∈ L) (hok : SameBut L s0 s) :
    SameBut L s0 (mayEvictSpan a n s) := by
  unfold mayEvictSpan
  repeat' first
    | with_reducible assumption
    | with_reducible refine foldState_frame (fun _ _ _ => ?_) ?_
    | with_reducible refine mayEvict_frame (parts_sub (by decide) hL) ?_
    | intro _ _ _
    | intro _ _
    | intro _
    | dsimp only
    | dsimp only [id]

theorem discardLine_frame {L : List StatePart} {s0 : State} {line : Nat} {s : State}
    (hL : ∀ p ∈ [StatePart.memory, .draws, .out], p ∈ L) (hok : SameBut L s0 s) :
    SameBut L s0 (discardLine line s) := by
  unfold discardLine
  repeat' first
    | with_reducible assumption
    | with_reducible exact .inl rfl
    | exact .inr (hL _ (by decide))
    | (extract_lets +onlyGivenNames x
       first
       | (refine sameStep (L := L) (s0 := s0) (x := x) (fun hx => ?_) ?_; clear_value x; rotate_left; subst x)
       | subst x)
    | with_reducible refine mayEvict_frame (parts_sub (by decide) hL) ?_
    | with_reducible refine cleanLine_frame (parts_sub (by decide) hL) ?_
    | with_reducible refine putBytes_frame (parts_sub (by decide) hL) ?_
    | with_reducible refine SameBut.ofPair ?_ (by with_reducible assumption)
    | intro _ _ _
    | intro _ _
    | intro _
    | split
    | (simp only [same_lit]; with_reducible refine SameLit.of ?_ ?_ ?_ ?_ ?_ ?_ ?_ ?_ ?_ ?_ ?_ ?_ ?_ ?_ ?_ ?_ ?_ ?_ ?_ ?_ ?_ ?_ ?_ ?_ ?_ ?_ ?_ ?_ ?_ ?_ ?_ ?_ ?_ ?_ ?_ ?_ ?_ ?_ ?_ ?_)
    | exact .inl rfl
    | dsimp only
    | dsimp only [id]

theorem discardLines_frame {L : List StatePart} {s0 : State} {a n : Nat} {s : State}
    (hL : ∀ p ∈ [StatePart.memory, .draws, .out], p ∈ L) (hok : SameBut L s0 s) :
    SameBut L s0 (discardLines a n s) := by
  unfold discardLines
  repeat' first
    | with_reducible assumption
    | with_reducible refine foldState_frame (fun _ _ _ => ?_) ?_
    | with_reducible refine discardLine_frame (parts_sub (by decide) hL) ?_
    | intro _ _ _
    | intro _ _
    | intro _
    | dsimp only
    | dsimp only [id]

theorem zeroSpan_frame {L : List StatePart} {s0 : State} {a n : Nat} {s : State}
    (hL : ∀ p ∈ [StatePart.memory, .pool], p ∈ L) (hok : SameBut L s0 s) :
    SameBut L s0 (zeroSpan a n s) := by
  unfold zeroSpan
  repeat' first
    | with_reducible assumption
    | with_reducible exact .inl rfl
    | exact .inr (hL _ (by decide))
    | (extract_lets +onlyGivenNames x
       first
       | (refine sameStep (L := L) (s0 := s0) (x := x) (fun hx => ?_) ?_; clear_value x; rotate_left; subst x)
       | (refine sameStep (L := L) (s0 := s0) (x := x.1) (fun hx => ?_) ?_; clear_value x; rotate_left; subst x)
       | subst x)
    | intro _ _ _
    | intro _ _
    | intro _
    | (simp only [same_lit]; with_reducible refine SameLit.of ?_ ?_ ?_ ?_ ?_ ?_ ?_ ?_ ?_ ?_ ?_ ?_ ?_ ?_ ?_ ?_ ?_ ?_ ?_ ?_ ?_ ?_ ?_ ?_ ?_ ?_ ?_ ?_ ?_ ?_ ?_ ?_ ?_ ?_ ?_ ?_ ?_ ?_ ?_ ?_)
    | exact .inl rfl
    | dsimp only
    | dsimp only [id]

theorem sendSnoop_frame {L : List StatePart} {s0 : State} {i : ErrInfo} {d : Die} {line : Nat} {inv : Bool} {s : State}
    (hL : ∀ p ∈ [StatePart.counters, .int, .coherence, .out], p ∈ L) (hok : SameBut L s0 s) :
    SameBut L s0 (sendSnoop i d line inv s) := by
  unfold sendSnoop
  repeat' first
    | with_reducible assumption
    | with_reducible exact .inl rfl
    | exact .inr (hL _ (by decide))
    | (extract_lets +onlyGivenNames x
       first
       | (refine sameStep (L := L) (s0 := s0) (x := x) (fun hx => ?_) ?_; clear_value x; rotate_left; subst x)
       | subst x)
    | with_reducible refine SameBut.ite ?_ ?_
    | with_reducible refine countPackage_frame (parts_sub (by decide) hL) ?_
    | with_reducible refine emit_frame (parts_sub (by decide) hL) ?_
    | intro _ _ _
    | intro _ _
    | intro _
    | split
    | (simp only [same_lit]; with_reducible refine SameLit.of ?_ ?_ ?_ ?_ ?_ ?_ ?_ ?_ ?_ ?_ ?_ ?_ ?_ ?_ ?_ ?_ ?_ ?_ ?_ ?_ ?_ ?_ ?_ ?_ ?_ ?_ ?_ ?_ ?_ ?_ ?_ ?_ ?_ ?_ ?_ ?_ ?_ ?_ ?_ ?_)
    | exact .inl rfl
    | dsimp only
    | dsimp only [id]

theorem gateSnoops_frame {L : List StatePart} {s0 : State} {i : ErrInfo} {a n : Nat} {write : Bool} {requester : Option Die} {s : State}
    (hL : ∀ p ∈ [StatePart.counters, .int, .coherence, .out], p ∈ L) (hok : SameBut L s0 s) :
    SameBut L s0 (gateSnoops i a n write requester s) := by
  unfold gateSnoops
  repeat' first
    | with_reducible assumption
    | with_reducible refine foldState_frame (fun _ _ _ => ?_) ?_
    | with_reducible refine sendSnoop_frame (parts_sub (by decide) hL) ?_
    | intro _ _ _
    | intro _ _
    | intro _
    | dsimp only
    | dsimp only [id]

theorem sparesExhausted_frame {L : List StatePart} {s0 : State} {row : Nat} {s : State}
    (hL : ∀ p ∈ [StatePart.od, .stored, .counters, .mgmt, .links, .intx, .fnCfg, .int, .capture, .pool, .err, .power, .out], p ∈ L) (hok : SameBut L s0 s) :
    SameBut L s0 (sparesExhausted row s) := by
  unfold sparesExhausted
  repeat' first
    | with_reducible assumption
    | with_reducible exact .inl rfl
    | exact .inr (hL _ (by decide))
    | (extract_lets +onlyGivenNames x
       first
       | (refine sameStep (L := L) (s0 := s0) (x := x) (fun hx => ?_) ?_; clear_value x; rotate_left; subst x)
       | subst x)
    | with_reducible refine SameBut.ite ?_ ?_
    | with_reducible refine raiseError_frame (parts_sub (by decide) hL) ?_
    | intro _ _ _
    | intro _ _
    | intro _
    | split
    | (simp only [same_lit]; with_reducible refine SameLit.of ?_ ?_ ?_ ?_ ?_ ?_ ?_ ?_ ?_ ?_ ?_ ?_ ?_ ?_ ?_ ?_ ?_ ?_ ?_ ?_ ?_ ?_ ?_ ?_ ?_ ?_ ?_ ?_ ?_ ?_ ?_ ?_ ?_ ?_ ?_ ?_ ?_ ?_ ?_ ?_)
    | exact .inl rfl
    | dsimp only
    | dsimp only [id]

theorem startRemap_frame {L : List StatePart} {s0 : State} {row : Nat} {from_ bad : List (Nat × Nat)} {s : State}
    (hL : ∀ p ∈ [StatePart.od, .stored, .counters, .mgmt, .links, .intx, .fnCfg, .int, .capture, .memory, .pool, .err, .power, .out], p ∈ L) (hok : SameBut L s0 s) :
    SameBut L s0 (startRemap row from_ bad s).1 := by
  unfold startRemap
  repeat' first
    | with_reducible assumption
    | with_reducible exact .inl rfl
    | exact .inr (hL _ (by decide))
    | (extract_lets +onlyGivenNames x
       first
       | (refine sameStep (L := L) (s0 := s0) (x := x) (fun hx => ?_) ?_; clear_value x; rotate_left; subst x)
       | subst x)
    | with_reducible refine SameBut.ite ?_ ?_
    | with_reducible refine sparesExhausted_frame (parts_sub (by decide) hL) ?_
    | with_reducible refine writeBack_frame (parts_sub (by decide) hL) ?_
    | with_reducible refine SameBut.ofPair ?_ (by with_reducible assumption)
    | intro _ _ _
    | intro _ _
    | intro _
    | split
    | (simp only [same_lit]; with_reducible refine SameLit.of ?_ ?_ ?_ ?_ ?_ ?_ ?_ ?_ ?_ ?_ ?_ ?_ ?_ ?_ ?_ ?_ ?_ ?_ ?_ ?_ ?_ ?_ ?_ ?_ ?_ ?_ ?_ ?_ ?_ ?_ ?_ ?_ ?_ ?_ ?_ ?_ ?_ ?_ ?_ ?_)
    | exact .inl rfl
    | dsimp only
    | dsimp only [id]

theorem logRow_frame {L : List StatePart} {s0 : State} {row : Nat} {s : State}
    (hL : ∀ p ∈ [StatePart.od, .stored, .counters, .mgmt, .links, .intx, .fnCfg, .int, .capture, .err, .power, .out], p ∈ L) (hok : SameBut L s0 s) :
    SameBut L s0 (logRow row s) := by
  unfold logRow
  repeat' first
    | with_reducible assumption
    | (extract_lets +onlyGivenNames x
       first
       | (refine sameStep (L := L) (s0 := s0) (x := x) (fun hx => ?_) ?_; clear_value x; rotate_left; subst x)
       | subst x)
    | with_reducible refine SameBut.ite ?_ ?_
    | with_reducible refine raiseError_frame (parts_sub (by decide) hL) ?_
    | with_reducible refine putObj_frame (parts_sub (by decide) hL) ?_
    | intro _ _ _
    | intro _ _
    | intro _
    | split
    | dsimp only
    | dsimp only [id]

theorem poisonLine_frame {L : List StatePart} {s0 : State} {line : Nat} {i : ErrInfo} {s : State}
    (hL : ∀ p ∈ [StatePart.od, .stored, .counters, .mgmt, .links, .intx, .fnCfg, .int, .capture, .pool, .err, .power, .out], p ∈ L) (hok : SameBut L s0 s) :
    SameBut L s0 (poisonLine line i s) := by
  unfold poisonLine
  repeat' first
    | with_reducible assumption
    | with_reducible exact .inl rfl
    | exact .inr (hL _ (by decide))
    | (extract_lets +onlyGivenNames x
       first
       | (refine sameStep (L := L) (s0 := s0) (x := x) (fun hx => ?_) ?_; clear_value x; rotate_left; subst x)
       | subst x)
    | with_reducible refine SameBut.ite ?_ ?_
    | with_reducible refine raiseError_frame (parts_sub (by decide) hL) ?_
    | with_reducible refine logRow_frame (parts_sub (by decide) hL) ?_
    | intro _ _ _
    | intro _ _
    | intro _
    | split
    | (simp only [same_lit]; with_reducible refine SameLit.of ?_ ?_ ?_ ?_ ?_ ?_ ?_ ?_ ?_ ?_ ?_ ?_ ?_ ?_ ?_ ?_ ?_ ?_ ?_ ?_ ?_ ?_ ?_ ?_ ?_ ?_ ?_ ?_ ?_ ?_ ?_ ?_ ?_ ?_ ?_ ?_ ?_ ?_ ?_ ?_)
    | exact .inl rfl
    | dsimp only
    | dsimp only [id]


/-! ### Machine/Upstream.lean -/

theorem atsTouch_frame {L : List StatePart} {s0 : State} {p : Port} {e : AtsEntry} {s : State}
    (hL : ∀ p ∈ [StatePart.ats], p ∈ L) (hok : SameBut L s0 s) :
    SameBut L s0 (atsTouch p e s) := by
  unfold atsTouch
  repeat' first
    | with_reducible assumption
    | with_reducible exact .inl rfl
    | exact .inr (hL _ (by decide))
    | exact .inl fun _ => rfl
    | (extract_lets +onlyGivenNames x
       first
       | (refine sameStep (L := L) (s0 := s0) (x := x) (fun hx => ?_) ?_; clear_value x; rotate_left; subst x)
       | subst x)
    | with_reducible refine modPort_frame ?_ ?_ ?_ ?_ ?_ 
    | intro _ _ _
    | intro _ _
    | intro _
    | (simp only [same_lit]; with_reducible refine SameLit.of ?_ ?_ ?_ ?_ ?_ ?_ ?_ ?_ ?_ ?_ ?_ ?_ ?_ ?_ ?_ ?_ ?_ ?_ ?_ ?_ ?_ ?_ ?_ ?_ ?_ ?_ ?_ ?_ ?_ ?_ ?_ ?_ ?_ ?_ ?_ ?_ ?_ ?_ ?_ ?_)
    | exact .inl fun x => by (repeat' split) <;> rfl
    | exact .inl rfl
    | dsimp only
    | dsimp only [id]

theorem atsUse_frame {L : List StatePart} {s0 : State} {g : Fun} {pasid : Option (BitVec 20)} {a : Nat} {write : Bool} {s : State}
    (hL : ∀ p ∈ [StatePart.ats], p ∈ L) (hok : SameBut L s0 s) :
    SameBut L s0 (atsUse g pasid a write s) := by
  unfold atsUse
  repeat' first
    | with_reducible assumption
    | with_reducible exact .inl rfl
    | exact .inr (hL _ (by decide))
    | (extract_lets +onlyGivenNames x
       first
       | (refine sameStep (L := L) (s0 := s0) (x := x) (fun hx => ?_) ?_; clear_value x; rotate_left; subst x)
       | subst x)
    | with_reducible refine SameBut.ite ?_ ?_
    | with_reducible refine atsTouch_frame (parts_sub (by decide) hL) ?_
    | with_reducible refine SameBut.ofPair ?_ (by with_reducible assumption)
    | intro _ _ _
    | intro _ _
    | intro _
    | split
    | (simp only [same_lit]; with_reducible refine SameLit.of ?_ ?_ ?_ ?_ ?_ ?_ ?_ ?_ ?_ ?_ ?_ ?_ ?_ ?_ ?_ ?_ ?_ ?_ ?_ ?_ ?_ ?_ ?_ ?_ ?_ ?_ ?_ ?_ ?_ ?_ ?_ ?_ ?_ ?_ ?_ ?_ ?_ ?_ ?_ ?_)
    | exact .inl rfl
    | dsimp only
    | dsimp only [id]

theorem hostWrite_frame {L : List StatePart} {s0 : State} {g : Fun} {a : Nat} {pasid : Option (BitVec 20)} {b : Bytes} {s : State}
    (hL : ∀ p ∈ [StatePart.ats, .out], p ∈ L) (hok : SameBut L s0 s) :
    SameBut L s0 (hostWrite g a pasid b s) := by
  unfold hostWrite
  repeat' first
    | with_reducible assumption
    | with_reducible refine SameBut.ite ?_ ?_
    | with_reducible refine foldState_frame (fun _ _ _ => ?_) ?_
    | with_reducible refine emit_frame (parts_sub (by decide) hL) ?_
    | with_reducible refine atsUse_frame (parts_sub (by decide) hL) ?_
    | intro _ _ _
    | intro _ _
    | intro _
    | split
    | dsimp only
    | dsimp only [id]

theorem issueUnder_frame {L : List StatePart} {s0 : State} {w : TagWait} {t : ReqTag} {s : State}
    (hL : ∀ p ∈ [StatePart.counters, .requests, .ats, .int, .out], p ∈ L) (hok : SameBut L s0 s) :
    SameBut L s0 (issueUnder w t s) := by
  unfold issueUnder
  repeat' first
    | with_reducible assumption
    | with_reducible exact .inl rfl
    | exact .inr (hL _ (by decide))
    | exact .inl fun _ => rfl
    | (extract_lets +onlyGivenNames x
       first
       | (refine sameStep (L := L) (s0 := s0) (x := x) (fun hx => ?_) ?_; clear_value x; rotate_left; subst x)
       | subst x)
    | with_reducible refine emit_frame (parts_sub (by decide) hL) ?_
    | with_reducible refine modPort_frame ?_ ?_ ?_ ?_ ?_ 
    | with_reducible refine countPort_frame (parts_sub (by decide) hL) ?_
    | with_reducible refine atsUse_frame (parts_sub (by decide) hL) ?_
    | with_reducible refine SameBut.ofPair ?_ (by with_reducible assumption)
    | intro _ _ _
    | intro _ _
    | intro _
    | split
    | (simp only [same_lit]; with_reducible refine SameLit.of ?_ ?_ ?_ ?_ ?_ ?_ ?_ ?_ ?_ ?_ ?_ ?_ ?_ ?_ ?_ ?_ ?_ ?_ ?_ ?_ ?_ ?_ ?_ ?_ ?_ ?_ ?_ ?_ ?_ ?_ ?_ ?_ ?_ ?_ ?_ ?_ ?_ ?_ ?_ ?_)
    | exact .inl fun x => by (repeat' split) <;> rfl
    | exact .inl rfl
    | dsimp only
    | dsimp only [id]

theorem serveTags_frame {L : List StatePart} {s0 : State}  {r0 : Nat} {r1 : Port} {s : State}
    (hL : ∀ p ∈ [StatePart.counters, .requests, .ats, .int, .out], p ∈ L) (hok : SameBut L s0 s) :
    SameBut L s0 (serveTags r0 r1 s) := by
  induction r0 generalizing r1 s with
  | zero =>
    unfold serveTags
    repeat' first
      | with_reducible assumption
      | with_reducible exact .inl rfl
      | exact .inr (hL _ (by decide))
      | exact .inl fun _ => rfl
      | (extract_lets +onlyGivenNames x
         first
         | (refine sameStep (L := L) (s0 := s0) (x := x) (fun hx => ?_) ?_; clear_value x; rotate_left; subst x)
         | subst x)
      | with_reducible refine SameBut.ite ?_ ?_
      | with_reducible refine issueUnder_frame (parts_sub (by decide) hL) ?_
      | with_reducible refine modPort_frame ?_ ?_ ?_ ?_ ?_ 
      | with_reducible refine SameBut.ofPair ?_ (by with_reducible assumption)
      | intro _ _ _
      | intro _ _
      | intro _
      | split
      | (simp only [same_lit]; with_reducible refine SameLit.of ?_ ?_ ?_ ?_ ?_ ?_ ?_ ?_ ?_ ?_ ?_ ?_ ?_ ?_ ?_ ?_ ?_ ?_ ?_ ?_ ?_ ?_ ?_ ?_ ?_ ?_ ?_ ?_ ?_ ?_ ?_ ?_ ?_ ?_ ?_ ?_ ?_ ?_ ?_ ?_)
      | exact .inl fun x => by (repeat' split) <;> rfl
      | exact .inl rfl
      | dsimp only
      | dsimp only [id]
  | succ r0 ih =>
    unfold serveTags
    repeat' first
      | with_reducible assumption
      | (extract_lets +onlyGivenNames x
         first
         | (refine sameStep (L := L) (s0 := s0) (x := x) (fun hx => ?_) ?_; clear_value x; rotate_left; subst x)
         | subst x)
      | with_reducible apply ih
      | with_reducible exact .inl rfl
      | exact .inr (hL _ (by decide))
      | exact .inl fun _ => rfl
      | with_reducible refine SameBut.ite ?_ ?_
      | with_reducible refine issueUnder_frame (parts_sub (by decide) hL) ?_
      | with_reducible refine modPort_frame ?_ ?_ ?_ ?_ ?_ 
      | with_reducible refine SameBut.ofPair ?_ (by with_reducible assumption)
      | intro _ _ _
      | intro _ _
      | intro _
      | split
      | (simp only [same_lit]; with_reducible refine SameLit.of ?_ ?_ ?_ ?_ ?_ ?_ ?_ ?_ ?_ ?_ ?_ ?_ ?_ ?_ ?_ ?_ ?_ ?_ ?_ ?_ ?_ ?_ ?_ ?_ ?_ ?_ ?_ ?_ ?_ ?_ ?_ ?_ ?_ ?_ ?_ ?_ ?_ ?_ ?_ ?_)
      | exact .inl fun x => by (repeat' split) <;> rfl
      | exact .inl rfl
      | dsimp only
      | dsimp only [id]

theorem serveWaits_frame {L : List StatePart} {s0 : State} {p : Port} {s : State}
    (hL : ∀ p ∈ [StatePart.counters, .requests, .ats, .int, .out], p ∈ L) (hok : SameBut L s0 s) :
    SameBut L s0 (serveWaits p s) := by
  unfold serveWaits
  repeat' first
    | with_reducible assumption
    | with_reducible refine serveTags_frame (parts_sub (by decide) hL) ?_
    | intro _ _ _
    | intro _ _
    | intro _
    | dsimp only
    | dsimp only [id]

theorem requestTag_frame {L : List StatePart} {s0 : State} {w : TagWait} {s : State}
    (hL : ∀ p ∈ [StatePart.counters, .requests, .ats, .int, .out], p ∈ L) (hok : SameBut L s0 s) :
    SameBut L s0 (requestTag w s) := by
  unfold requestTag
  repeat' first
    | with_reducible assumption
    | with_reducible exact .inl rfl
    | exact .inr (hL _ (by decide))
    | exact .inl fun _ => rfl
    | (extract_lets +onlyGivenNames x
       first
       | (refine sameStep (L := L) (s0 := s0) (x := x) (fun hx => ?_) ?_; clear_value x; rotate_left; subst x)
       | subst x)
    | with_reducible refine SameBut.ite ?_ ?_
    | with_reducible refine serveWaits_frame (parts_sub (by decide) hL) ?_
    | with_reducible refine modPort_frame ?_ ?_ ?_ ?_ ?_ 
    | intro _ _ _
    | intro _ _
    | intro _
    | split
    | (simp only [same_lit]; with_reducible refine SameLit.of ?_ ?_ ?_ ?_ ?_ ?_ ?_ ?_ ?_ ?_ ?_ ?_ ?_ ?_ ?_ ?_ ?_ ?_ ?_ ?_ ?_ ?_ ?_ ?_ ?_ ?_ ?_ ?_ ?_ ?_ ?_ ?_ ?_ ?_ ?_ ?_ ?_ ?_ ?_ ?_)
    | exact .inl fun x => by (repeat' split) <;> rfl
    | exact .inl rfl
    | dsimp only
    | dsimp only [id]

theorem hostRead_frame {L : List StatePart} {s0 : State} {g : Fun} {use : ReadUse} {a base n : Nat} {pasid : Option (BitVec 20)} {have_ : List (Nat × Bytes)} {s : State}
    (hL : ∀ p ∈ [StatePart.counters, .requests, .ats, .int, .out], p ∈ L) (hok : SameBut L s0 s) :
    SameBut L s0 (hostRead g use a base n pasid have_ s) := by
  unfold hostRead
  repeat' first
    | with_reducible assumption
    | (extract_lets +onlyGivenNames x
       first
       | (refine sameStep (L := L) (s0 := s0) (x := x) (fun hx => ?_) ?_; clear_value x; rotate_left; subst x)
       | (refine sameStep (L := L) (s0 := s0) (x := x.1) (fun hx => ?_) ?_; clear_value x; rotate_left; subst x)
       | subst x)
    | with_reducible refine SameBut.ite ?_ ?_
    | with_reducible refine foldState_frame (fun _ _ _ => ?_) ?_
    | with_reducible refine requestTag_frame (parts_sub (by decide) hL) ?_
    | with_reducible refine SameBut.ofPair ?_ (by with_reducible assumption)
    | intro _ _ _
    | intro _ _
    | intro _
    | split
    | dsimp only
    | dsimp only [id]

theorem issueImage_frame {L : List StatePart} {s0 : State} {s : State}
    (hL : ∀ p ∈ [StatePart.counters, .requests, .ats, .int, .boot, .out], p ∈ L) (hok : SameBut L s0 s) :
    SameBut L s0 (issueImage s) := by
  unfold issueImage
  repeat' first
    | with_reducible assumption
    | with_reducible exact .inl rfl
    | exact .inr (hL _ (by decide))
    | (extract_lets +onlyGivenNames x
       first
       | (refine sameStep (L := L) (s0 := s0) (x := x) (fun hx => ?_) ?_; clear_value x; rotate_left; subst x)
       | (refine sameStep (L := L) (s0 := s0) (x := x.1) (fun hx => ?_) ?_; clear_value x; rotate_left; subst x)
       | subst x)
    | with_reducible refine SameBut.ite ?_ ?_
    | with_reducible refine foldState_frame (fun _ _ _ => ?_) ?_
    | with_reducible refine requestTag_frame (parts_sub (by decide) hL) ?_
    | with_reducible refine serveWaits_frame (parts_sub (by decide) hL) ?_
    | intro _ _ _
    | intro _ _
    | intro _
    | split
    | (simp only [same_lit]; with_reducible refine SameLit.of ?_ ?_ ?_ ?_ ?_ ?_ ?_ ?_ ?_ ?_ ?_ ?_ ?_ ?_ ?_ ?_ ?_ ?_ ?_ ?_ ?_ ?_ ?_ ?_ ?_ ?_ ?_ ?_ ?_ ?_ ?_ ?_ ?_ ?_ ?_ ?_ ?_ ?_ ?_ ?_)
    | exact .inl rfl
    | dsimp only
    | dsimp only [id]

theorem quarantine_frame {L : List StatePart} {s0 : State} {port : Port} {p : TagUse → Bool} {s : State}
    (hL : ∀ p ∈ [StatePart.requests], p ∈ L) (hok : SameBut L s0 s) :
    SameBut L s0 (quarantine port p s) := by
  unfold quarantine
  repeat' first
    | with_reducible assumption
    | with_reducible exact .inl rfl
    | exact .inr (hL _ (by decide))
    | exact .inl fun _ => rfl
    | (extract_lets +onlyGivenNames x
       first
       | (refine sameStep (L := L) (s0 := s0) (x := x) (fun hx => ?_) ?_; clear_value x; rotate_left; subst x)
       | subst x)
    | with_reducible refine SameBut.ite ?_ ?_
    | with_reducible refine modPort_frame ?_ ?_ ?_ ?_ ?_ 
    | intro _ _ _
    | intro _ _
    | intro _
    | split
    | (simp only [same_lit]; with_reducible refine SameLit.of ?_ ?_ ?_ ?_ ?_ ?_ ?_ ?_ ?_ ?_ ?_ ?_ ?_ ?_ ?_ ?_ ?_ ?_ ?_ ?_ ?_ ?_ ?_ ?_ ?_ ?_ ?_ ?_ ?_ ?_ ?_ ?_ ?_ ?_ ?_ ?_ ?_ ?_ ?_ ?_)
    | exact .inl fun x => by (repeat' split) <;> rfl
    | exact .inl rfl
    | dsimp only
    | dsimp only [id]

theorem quarantineTag_frame {L : List StatePart} {s0 : State} {port : Port} {t : ReqTag} {s : State}
    (hL : ∀ p ∈ [StatePart.requests, .ats], p ∈ L) (hok : SameBut L s0 s) :
    SameBut L s0 (quarantineTag port t s) := by
  unfold quarantineTag
  repeat' first
    | with_reducible assumption
    | with_reducible exact .inl rfl
    | exact .inr (hL _ (by decide))
    | exact .inl fun _ => rfl
    | (extract_lets +onlyGivenNames x
       first
       | (refine sameStep (L := L) (s0 := s0) (x := x) (fun hx => ?_) ?_; clear_value x; rotate_left; subst x)
       | subst x)
    | with_reducible refine SameBut.ite ?_ ?_
    | with_reducible refine modPort_frame ?_ ?_ ?_ ?_ ?_ 
    | intro _ _ _
    | intro _ _
    | intro _
    | split
    | (simp only [same_lit]; with_reducible refine SameLit.of ?_ ?_ ?_ ?_ ?_ ?_ ?_ ?_ ?_ ?_ ?_ ?_ ?_ ?_ ?_ ?_ ?_ ?_ ?_ ?_ ?_ ?_ ?_ ?_ ?_ ?_ ?_ ?_ ?_ ?_ ?_ ?_ ?_ ?_ ?_ ?_ ?_ ?_ ?_ ?_)
    | exact .inl fun x => by (repeat' split) <;> rfl
    | exact .inl rfl
    | dsimp only
    | dsimp only [id]

theorem staleReads_frame {L : List StatePart} {s0 : State} {g : Fun} {c : CtxId} {use : ReadUse} {hit : Nat → Nat → Bool} {s : State}
    (hL : ∀ p ∈ [StatePart.requests], p ∈ L) (hok : SameBut L s0 s) :
    SameBut L s0 (staleReads g c use hit s) := by
  unfold staleReads
  repeat' first
    | with_reducible assumption
    | with_reducible exact .inl rfl
    | exact .inr (hL _ (by decide))
    | exact .inl fun _ => rfl
    | (extract_lets +onlyGivenNames x
       first
       | (refine sameStep (L := L) (s0 := s0) (x := x) (fun hx => ?_) ?_; clear_value x; rotate_left; subst x)
       | subst x)
    | with_reducible refine SameBut.ite ?_ ?_
    | with_reducible refine modPort_frame ?_ ?_ ?_ ?_ ?_ 
    | intro _ _ _
    | intro _ _
    | intro _
    | split
    | (simp only [same_lit]; with_reducible refine SameLit.of ?_ ?_ ?_ ?_ ?_ ?_ ?_ ?_ ?_ ?_ ?_ ?_ ?_ ?_ ?_ ?_ ?_ ?_ ?_ ?_ ?_ ?_ ?_ ?_ ?_ ?_ ?_ ?_ ?_ ?_ ?_ ?_ ?_ ?_ ?_ ?_ ?_ ?_ ?_ ?_)
    | exact .inl fun x => by (repeat' split) <;> rfl
    | exact .inl rfl
    | dsimp only
    | dsimp only [id]

theorem dropReads_frame {L : List StatePart} {s0 : State} {g : Fun} {c : CtxId} {q : Nat} {hit : Nat → Nat → Bool} {s : State}
    (hL : ∀ p ∈ [StatePart.requests, .cmds], p ∈ L) (hok : SameBut L s0 s) :
    SameBut L s0 (dropReads g c q hit s) := by
  unfold dropReads
  repeat' first
    | with_reducible assumption
    | with_reducible exact .inl rfl
    | exact .inr (hL _ (by decide))
    | (extract_lets +onlyGivenNames x
       first
       | (refine sameStep (L := L) (s0 := s0) (x := x) (fun hx => ?_) ?_; clear_value x; rotate_left; subst x)
       | (refine sameStep (L := L) (s0 := s0) (x := x.1) (fun hx => ?_) ?_; clear_value x; rotate_left; subst x)
       | subst x)
    | with_reducible refine SameBut.ite ?_ ?_
    | with_reducible refine modCmd_frame (parts_sub (by decide) hL) ?_
    | with_reducible refine staleReads_frame (parts_sub (by decide) hL) ?_
    | intro _ _ _
    | intro _ _
    | intro _
    | split
    | (simp only [same_lit]; with_reducible refine SameLit.of ?_ ?_ ?_ ?_ ?_ ?_ ?_ ?_ ?_ ?_ ?_ ?_ ?_ ?_ ?_ ?_ ?_ ?_ ?_ ?_ ?_ ?_ ?_ ?_ ?_ ?_ ?_ ?_ ?_ ?_ ?_ ?_ ?_ ?_ ?_ ?_ ?_ ?_ ?_ ?_)
    | exact .inl rfl
    | dsimp only
    | dsimp only [id]

theorem dropWaits_frame {L : List StatePart} {s0 : State} {g : Fun} {s : State}
    (hL : ∀ p ∈ [StatePart.requests], p ∈ L) (hok : SameBut L s0 s) :
    SameBut L s0 (dropWaits g s) := by
  unfold dropWaits
  repeat' first
    | with_reducible assumption
    | with_reducible exact .inl rfl
    | exact .inr (hL _ (by decide))
    | exact .inl fun _ => rfl
    | (extract_lets +onlyGivenNames x
       first
       | (refine sameStep (L := L) (s0 := s0) (x := x) (fun hx => ?_) ?_; clear_value x; rotate_left; subst x)
       | subst x)
    | with_reducible refine modPort_frame ?_ ?_ ?_ ?_ ?_ 
    | intro _ _ _
    | intro _ _
    | intro _
    | (simp only [same_lit]; with_reducible refine SameLit.of ?_ ?_ ?_ ?_ ?_ ?_ ?_ ?_ ?_ ?_ ?_ ?_ ?_ ?_ ?_ ?_ ?_ ?_ ?_ ?_ ?_ ?_ ?_ ?_ ?_ ?_ ?_ ?_ ?_ ?_ ?_ ?_ ?_ ?_ ?_ ?_ ?_ ?_ ?_ ?_)
    | exact .inl fun x => by (repeat' split) <;> rfl
    | exact .inl rfl
    | dsimp only
    | dsimp only [id]

theorem forgetAts_frame {L : List StatePart} {s0 : State} {p : Port} {hit : AtsEntry → Bool} {s : State}
    (hL : ∀ p ∈ [StatePart.requests, .ats, .cmds], p ∈ L) (hok : SameBut L s0 s) :
    SameBut L s0 (forgetAts p hit s) := by
  unfold forgetAts
  repeat' first
    | with_reducible assumption
    | with_reducible exact .inl rfl
    | exact .inr (hL _ (by decide))
    | exact .inl fun _ => rfl
    | (extract_lets +onlyGivenNames x
       first
       | (refine sameStep (L := L) (s0 := s0) (x := x) (fun hx => ?_) ?_; clear_value x; rotate_left; subst x)
       | subst x)
    | with_reducible refine SameBut.ite ?_ ?_
    | with_reducible refine modPort_frame ?_ ?_ ?_ ?_ ?_ 
    | with_reducible refine foldState_frame (fun _ _ _ => ?_) ?_
    | with_reducible refine dropReads_frame (parts_sub (by decide) hL) ?_
    | with_reducible refine SameBut.ofPair ?_ (by with_reducible assumption)
    | intro _ _ _
    | intro _ _
    | intro _
    | split
    | (simp only [same_lit]; with_reducible refine SameLit.of ?_ ?_ ?_ ?_ ?_ ?_ ?_ ?_ ?_ ?_ ?_ ?_ ?_ ?_ ?_ ?_ ?_ ?_ ?_ ?_ ?_ ?_ ?_ ?_ ?_ ?_ ?_ ?_ ?_ ?_ ?_ ?_ ?_ ?_ ?_ ?_ ?_ ?_ ?_ ?_)
    | exact .inl fun x => by (repeat' split) <;> rfl
    | exact .inl rfl
    | dsimp only
    | dsimp only [id]

theorem atsAsk_frame {L : List StatePart} {s0 : State} {g : Fun} {pasid : BitVec 20} {us : List Nat} {s : State}
    (hL : ∀ p ∈ [StatePart.counters, .requests, .ats, .int, .out], p ∈ L) (hok : SameBut L s0 s) :
    SameBut L s0 (atsAsk g pasid us s) := by
  unfold atsAsk
  repeat' first
    | with_reducible assumption
    | (extract_lets +onlyGivenNames x
       first
       | (refine sameStep (L := L) (s0 := s0) (x := x) (fun hx => ?_) ?_; clear_value x; rotate_left; subst x)
       | subst x)
    | with_reducible refine SameBut.ite ?_ ?_
    | with_reducible refine foldState_frame (fun _ _ _ => ?_) ?_
    | with_reducible refine requestTag_frame (parts_sub (by decide) hL) ?_
    | intro _ _ _
    | intro _ _
    | intro _
    | split
    | dsimp only
    | dsimp only [id]


/-! ### Machine/Walk.lean -/

theorem setBank_frame {L : List StatePart} {s0 : State} {b : Nat} {l : List REntry} {s : State}
    (hL : ∀ p ∈ [StatePart.entries], p ∈ L) (hok : SameBut L s0 s) :
    SameBut L s0 (setBank b l s) := by
  unfold setBank
  repeat' first
    | with_reducible assumption
    | with_reducible exact .inl rfl
    | exact .inr (hL _ (by decide))
    | (extract_lets +onlyGivenNames x
       first
       | (refine sameStep (L := L) (s0 := s0) (x := x) (fun hx => ?_) ?_; clear_value x; rotate_left; subst x)
       | subst x)
    | intro _ _ _
    | intro _ _
    | intro _
    | (simp only [same_lit]; with_reducible refine SameLit.of ?_ ?_ ?_ ?_ ?_ ?_ ?_ ?_ ?_ ?_ ?_ ?_ ?_ ?_ ?_ ?_ ?_ ?_ ?_ ?_ ?_ ?_ ?_ ?_ ?_ ?_ ?_ ?_ ?_ ?_ ?_ ?_ ?_ ?_ ?_ ?_ ?_ ?_ ?_ ?_)
    | exact .inl rfl
    | dsimp only
    | dsimp only [id]

theorem revokeWhere_frame {L : List StatePart} {s0 : State} {hit : Lease → Bool} {owner : ScanOwner} {s : State}
    (hL : ∀ p ∈ [StatePart.counters, .int, .lookups, .out], p ∈ L) (hok : SameBut L s0 s) :
    SameBut L s0 (revokeWhere hit owner s) := by
  unfold revokeWhere
  repeat' first
    | with_reducible assumption
    | with_reducible exact .inl rfl
    | exact .inr (hL _ (by decide))
    | (extract_lets +onlyGivenNames x
       first
       | (refine sameStep (L := L) (s0 := s0) (x := x) (fun hx => ?_) ?_; clear_value x; rotate_left; subst x)
       | subst x)
    | with_reducible refine SameBut.ite ?_ ?_
    | with_reducible refine foldState_frame (fun _ _ _ => ?_) ?_
    | with_reducible refine countPackage_frame (parts_sub (by decide) hL) ?_
    | with_reducible refine emit_frame (parts_sub (by decide) hL) ?_
    | intro _ _ _
    | intro _ _
    | intro _
    | split
    | (simp only [same_lit]; with_reducible refine SameLit.of ?_ ?_ ?_ ?_ ?_ ?_ ?_ ?_ ?_ ?_ ?_ ?_ ?_ ?_ ?_ ?_ ?_ ?_ ?_ ?_ ?_ ?_ ?_ ?_ ?_ ?_ ?_ ?_ ?_ ?_ ?_ ?_ ?_ ?_ ?_ ?_ ?_ ?_ ?_ ?_)
    | exact .inl rfl
    | dsimp only
    | dsimp only [id]

theorem install_frame {L : List StatePart} {s0 : State} {e : REntry} {s : State}
    (hL : ∀ p ∈ [StatePart.entries], p ∈ L) (hok : SameBut L s0 s) :
    SameBut L s0 (install e s) := by
  unfold install
  repeat' first
    | with_reducible assumption
    | with_reducible exact .inl rfl
    | exact .inr (hL _ (by decide))
    | (extract_lets +onlyGivenNames x
       first
       | (refine sameStep (L := L) (s0 := s0) (x := x) (fun hx => ?_) ?_; clear_value x; rotate_left; subst x)
       | subst x)
    | with_reducible refine SameBut.ite ?_ ?_
    | with_reducible refine setBank_frame (parts_sub (by decide) hL) ?_
    | with_reducible refine SameBut.ofPair ?_ (by with_reducible assumption)
    | intro _ _ _
    | intro _ _
    | intro _
    | split
    | (simp only [same_lit]; with_reducible refine SameLit.of ?_ ?_ ?_ ?_ ?_ ?_ ?_ ?_ ?_ ?_ ?_ ?_ ?_ ?_ ?_ ?_ ?_ ?_ ?_ ?_ ?_ ?_ ?_ ?_ ?_ ?_ ?_ ?_ ?_ ?_ ?_ ?_ ?_ ?_ ?_ ?_ ?_ ?_ ?_ ?_)
    | exact .inl rfl
    | dsimp only
    | dsimp only [id]

theorem installOver_frame {L : List StatePart} {s0 : State} {e : REntry} {victim : Nat} {s : State}
    (hL : ∀ p ∈ [StatePart.entries], p ∈ L) (hok : SameBut L s0 s) :
    SameBut L s0 (installOver e victim s) := by
  unfold installOver
  repeat' first
    | with_reducible assumption
    | with_reducible exact .inl rfl
    | exact .inr (hL _ (by decide))
    | (extract_lets +onlyGivenNames x
       first
       | (refine sameStep (L := L) (s0 := s0) (x := x) (fun hx => ?_) ?_; clear_value x; rotate_left; subst x)
       | subst x)
    | with_reducible refine setBank_frame (parts_sub (by decide) hL) ?_
    | with_reducible refine install_frame (parts_sub (by decide) hL) ?_
    | with_reducible refine SameBut.ofPair ?_ (by with_reducible assumption)
    | intro _ _ _
    | intro _ _
    | intro _
    | split
    | (simp only [same_lit]; with_reducible refine SameLit.of ?_ ?_ ?_ ?_ ?_ ?_ ?_ ?_ ?_ ?_ ?_ ?_ ?_ ?_ ?_ ?_ ?_ ?_ ?_ ?_ ?_ ?_ ?_ ?_ ?_ ?_ ?_ ?_ ?_ ?_ ?_ ?_ ?_ ?_ ?_ ?_ ?_ ?_ ?_ ?_)
    | exact .inl rfl
    | dsimp only
    | dsimp only [id]

theorem touchEntry_frame {L : List StatePart} {s0 : State} {b : Nat} {id : Nat} {s : State}
    (hL : ∀ p ∈ [StatePart.entries], p ∈ L) (hok : SameBut L s0 s) :
    SameBut L s0 (touchEntry b id s) := by
  unfold touchEntry
  repeat' first
    | with_reducible assumption
    | with_reducible exact .inl rfl
    | exact .inr (hL _ (by decide))
    | (extract_lets +onlyGivenNames x
       first
       | (refine sameStep (L := L) (s0 := s0) (x := x) (fun hx => ?_) ?_; clear_value x; rotate_left; subst x)
       | subst x)
    | with_reducible refine SameBut.ite ?_ ?_
    | with_reducible refine setBank_frame (parts_sub (by decide) hL) ?_
    | intro _ _ _
    | intro _ _
    | intro _
    | split
    | (simp only [same_lit]; with_reducible refine SameLit.of ?_ ?_ ?_ ?_ ?_ ?_ ?_ ?_ ?_ ?_ ?_ ?_ ?_ ?_ ?_ ?_ ?_ ?_ ?_ ?_ ?_ ?_ ?_ ?_ ?_ ?_ ?_ ?_ ?_ ?_ ?_ ?_ ?_ ?_ ?_ ?_ ?_ ?_ ?_ ?_)
    | exact .inl rfl
    | dsimp only
    | dsimp only [id]

theorem joinWalk_frame {L : List StatePart} {s0 : State} {who : Who} {va : Nat} {need : Need} {edge : Bool} {s : State}
    (hL : ∀ p ∈ [StatePart.counters, .int, .lookups], p ∈ L) (hok : SameBut L s0 s) :
    SameBut L s0 (joinWalk who va need edge s) := by
  unfold joinWalk
  repeat' first
    | with_reducible assumption
    | with_reducible exact .inl rfl
    | exact .inr (hL _ (by decide))
    | (extract_lets +onlyGivenNames x
       first
       | (refine sameStep (L := L) (s0 := s0) (x := x) (fun hx => ?_) ?_; clear_value x; rotate_left; subst x)
       | subst x)
    | with_reducible refine SameBut.ite ?_ ?_
    | with_reducible refine countPackage_frame (parts_sub (by decide) hL) ?_
    | intro _ _ _
    | intro _ _
    | intro _
    | split
    | (simp only [same_lit]; with_reducible refine SameLit.of ?_ ?_ ?_ ?_ ?_ ?_ ?_ ?_ ?_ ?_ ?_ ?_ ?_ ?_ ?_ ?_ ?_ ?_ ?_ ?_ ?_ ?_ ?_ ?_ ?_ ?_ ?_ ?_ ?_ ?_ ?_ ?_ ?_ ?_ ?_ ?_ ?_ ?_ ?_ ?_)
    | exact .inl rfl
    | dsimp only
    | dsimp only [id]

theorem putWalk_frame {L : List StatePart} {s0 : State} {who : Who} {va : Nat} {need : Need} {edge : Bool} {place : WalkAt} {offset : Nat} {s : State}
    (hL : ∀ p ∈ [StatePart.lookups], p ∈ L) (hok : SameBut L s0 s) :
    SameBut L s0 (putWalk who va need edge place offset s) := by
  unfold putWalk
  repeat' first
    | with_reducible assumption
    | with_reducible exact .inl rfl
    | exact .inr (hL _ (by decide))
    | (extract_lets +onlyGivenNames x
       first
       | (refine sameStep (L := L) (s0 := s0) (x := x) (fun hx => ?_) ?_; clear_value x; rotate_left; subst x)
       | subst x)
    | intro _ _ _
    | intro _ _
    | intro _
    | (simp only [same_lit]; with_reducible refine SameLit.of ?_ ?_ ?_ ?_ ?_ ?_ ?_ ?_ ?_ ?_ ?_ ?_ ?_ ?_ ?_ ?_ ?_ ?_ ?_ ?_ ?_ ?_ ?_ ?_ ?_ ?_ ?_ ?_ ?_ ?_ ?_ ?_ ?_ ?_ ?_ ?_ ?_ ?_ ?_ ?_)
    | exact .inl rfl
    | dsimp only
    | dsimp only [id]

theorem countWalk_frame {L : List StatePart} {s0 : State} {α : Type} {i : ErrInfo} {w : WalkOut α} {s : State}
    (hL : ∀ p ∈ [StatePart.counters, .int, .coherence, .out], p ∈ L) (hok : SameBut L s0 s) :
    SameBut L s0 (countWalk i w s) := by
  unfold countWalk
  repeat' first
    | with_reducible assumption
    | with_reducible exact .inl rfl
    | exact .inr (hL _ (by decide))
    | (extract_lets +onlyGivenNames x
       first
       | (refine sameStep (L := L) (s0 := s0) (x := x) (fun hx => ?_) ?_; clear_value x; rotate_left; subst x)
       | (refine sameStep (L := L) (s0 := s0) (x := x.1) (fun hx => ?_) ?_; clear_value x; rotate_left; subst x)
       | subst x)
    | with_reducible refine SameBut.ite ?_ ?_
    | with_reducible refine foldState_frame (fun _ _ _ => ?_) ?_
    | with_reducible refine countPackage_frame (parts_sub (by decide) hL) ?_
    | with_reducible refine gateSnoops_frame (parts_sub (by decide) hL) ?_
    | with_reducible refine SameBut.ofPair ?_ (by with_reducible assumption)
    | intro _ _ _
    | intro _ _
    | intro _
    | split
    | (simp only [same_lit]; with_reducible refine SameLit.of ?_ ?_ ?_ ?_ ?_ ?_ ?_ ?_ ?_ ?_ ?_ ?_ ?_ ?_ ?_ ?_ ?_ ?_ ?_ ?_ ?_ ?_ ?_ ?_ ?_ ?_ ?_ ?_ ?_ ?_ ?_ ?_ ?_ ?_ ?_ ?_ ?_ ?_ ?_ ?_)
    | exact .inl rfl
    | dsimp only
    | dsimp only [id]

theorem beginReplace_frame {L : List StatePart} {s0 : State} {b victim : Nat} {s : State}
    (hL : ∀ p ∈ [StatePart.counters, .int, .entries, .lookups, .out], p ∈ L) (hok : SameBut L s0 s) :
    SameBut L s0 (beginReplace b victim s) := by
  unfold beginReplace
  repeat' first
    | with_reducible assumption
    | with_reducible exact .inl rfl
    | exact .inr (hL _ (by decide))
    | (extract_lets +onlyGivenNames x
       first
       | (refine sameStep (L := L) (s0 := s0) (x := x) (fun hx => ?_) ?_; clear_value x; rotate_left; subst x)
       | subst x)
    | with_reducible refine revokeWhere_frame (parts_sub (by decide) hL) ?_
    | with_reducible refine setBank_frame (parts_sub (by decide) hL) ?_
    | intro _ _ _
    | intro _ _
    | intro _
    | (simp only [same_lit]; with_reducible refine SameLit.of ?_ ?_ ?_ ?_ ?_ ?_ ?_ ?_ ?_ ?_ ?_ ?_ ?_ ?_ ?_ ?_ ?_ ?_ ?_ ?_ ?_ ?_ ?_ ?_ ?_ ?_ ?_ ?_ ?_ ?_ ?_ ?_ ?_ ?_ ?_ ?_ ?_ ?_ ?_ ?_)
    | exact .inl rfl
    | dsimp only
    | dsimp only [id]

theorem walkCounted_frame {L : List StatePart} {s0 : State} {who : Who} {a : Asker} {va : Nat} {need : Need} {s : State}
    (hL : ∀ p ∈ [StatePart.counters, .int, .entries, .lookups, .coherence, .out], p ∈ L) (hok : SameBut L s0 s) :
    SameBut L s0 (walkCounted who a va need s).1 := by
  unfold walkCounted
  repeat' first
    | with_reducible assumption
    | with_reducible exact .inl rfl
    | exact .inr (hL _ (by decide))
    | (extract_lets +onlyGivenNames x
       first
       | (refine sameStep (L := L) (s0 := s0) (x := x) (fun hx => ?_) ?_; clear_value x; rotate_left; subst x)
       | subst x)
    | with_reducible refine countWalk_frame (parts_sub (by decide) hL) ?_
    | with_reducible refine putWalk_frame (parts_sub (by decide) hL) ?_
    | with_reducible refine install_frame (parts_sub (by decide) hL) ?_
    | with_reducible refine beginReplace_frame (parts_sub (by decide) hL) ?_
    | with_reducible refine SameBut.ofPair ?_ (by with_reducible assumption)
    | intro _ _ _
    | intro _ _
    | intro _
    | split
    | (simp only [same_lit]; with_reducible refine SameLit.of ?_ ?_ ?_ ?_ ?_ ?_ ?_ ?_ ?_ ?_ ?_ ?_ ?_ ?_ ?_ ?_ ?_ ?_ ?_ ?_ ?_ ?_ ?_ ?_ ?_ ?_ ?_ ?_ ?_ ?_ ?_ ?_ ?_ ?_ ?_ ?_ ?_ ?_ ?_ ?_)
    | exact .inl rfl
    | dsimp only
    | dsimp only [id]

theorem dropAnswers_frame {L : List StatePart} {s0 : State} {who : Who} {va : Nat} {need : Need} {s : State}
    (hL : ∀ p ∈ [StatePart.lookups], p ∈ L) (hok : SameBut L s0 s) :
    SameBut L s0 (dropAnswers who va need s) := by
  unfold dropAnswers
  repeat' first
    | with_reducible assumption
    | with_reducible exact .inl rfl
    | exact .inr (hL _ (by decide))
    | (extract_lets +onlyGivenNames x
       first
       | (refine sameStep (L := L) (s0 := s0) (x := x) (fun hx => ?_) ?_; clear_value x; rotate_left; subst x)
       | (refine sameStep (L := L) (s0 := s0) (x := x.1) (fun hx => ?_) ?_; clear_value x; rotate_left; subst x)
       | subst x)
    | intro _ _ _
    | intro _ _
    | intro _
    | (simp only [same_lit]; with_reducible refine SameLit.of ?_ ?_ ?_ ?_ ?_ ?_ ?_ ?_ ?_ ?_ ?_ ?_ ?_ ?_ ?_ ?_ ?_ ?_ ?_ ?_ ?_ ?_ ?_ ?_ ?_ ?_ ?_ ?_ ?_ ?_ ?_ ?_ ?_ ?_ ?_ ?_ ?_ ?_ ?_ ?_)
    | exact .inl rfl
    | dsimp only
    | dsimp only [id]

theorem missAt_frame {L : List StatePart} {s0 : State} {who : Who} {a : Asker} {va : Nat} {need : Need} {s : State}
    (hL : ∀ p ∈ [StatePart.counters, .int, .entries, .lookups, .coherence, .out], p ∈ L) (hok : SameBut L s0 s) :
    SameBut L s0 (missAt who a va need s).1 := by
  unfold missAt
  repeat' first
    | with_reducible assumption
    | with_reducible exact .inl rfl
    | exact .inr (hL _ (by decide))
    | (extract_lets +onlyGivenNames x
       first
       | (refine sameStep (L := L) (s0 := s0) (x := x) (fun hx => ?_) ?_; clear_value x; rotate_left; subst x)
       | subst x)
    | with_reducible refine SameBut.ite ?_ ?_
    | with_reducible refine dropAnswers_frame (parts_sub (by decide) hL) ?_
    | with_reducible refine joinWalk_frame (parts_sub (by decide) hL) ?_
    | with_reducible refine walkCounted_frame (parts_sub (by decide) hL) ?_
    | with_reducible refine countPackage_frame (parts_sub (by decide) hL) ?_
    | with_reducible refine SameBut.ofPair ?_ (by with_reducible assumption)
    | intro _ _ _
    | intro _ _
    | intro _
    | split
    | (simp only [same_lit]; with_reducible refine SameLit.of ?_ ?_ ?_ ?_ ?_ ?_ ?_ ?_ ?_ ?_ ?_ ?_ ?_ ?_ ?_ ?_ ?_ ?_ ?_ ?_ ?_ ?_ ?_ ?_ ?_ ?_ ?_ ?_ ?_ ?_ ?_ ?_ ?_ ?_ ?_ ?_ ?_ ?_ ?_ ?_)
    | exact .inl rfl
    | dsimp only
    | dsimp only [id]

theorem countFault_frame {L : List StatePart} {s0 : State} {α : Type} {a : Asker} {r : Except TOut α} {s : State}
    (hL : ∀ p ∈ [StatePart.counters, .int], p ∈ L) (hok : SameBut L s0 s) :
    SameBut L s0 (countFault a r s) := by
  unfold countFault
  repeat' first
    | with_reducible assumption
    | with_reducible exact .inl rfl
    | exact .inr (hL _ (by decide))
    | (extract_lets +onlyGivenNames x
       first
       | (refine sameStep (L := L) (s0 := s0) (x := x) (fun hx => ?_) ?_; clear_value x; rotate_left; subst x)
       | subst x)
    | with_reducible refine countFn_frame (parts_sub (by decide) hL) ?_
    | with_reducible refine SameBut.ofPair ?_ (by with_reducible assumption)
    | intro _ _ _
    | intro _ _
    | intro _
    | split
    | (simp only [same_lit]; with_reducible refine SameLit.of ?_ ?_ ?_ ?_ ?_ ?_ ?_ ?_ ?_ ?_ ?_ ?_ ?_ ?_ ?_ ?_ ?_ ?_ ?_ ?_ ?_ ?_ ?_ ?_ ?_ ?_ ?_ ?_ ?_ ?_ ?_ ?_ ?_ ?_ ?_ ?_ ?_ ?_ ?_ ?_)
    | exact .inl rfl
    | dsimp only
    | dsimp only [id]

theorem resolveAt_frame {L : List StatePart} {s0 : State} {who : Who} {va : Nat} {need : Need} {s : State}
    (hL : ∀ p ∈ [StatePart.counters, .int, .entries, .lookups, .coherence, .out], p ∈ L) (hok : SameBut L s0 s) :
    SameBut L s0 (resolveAt who va need s).1 := by
  unfold resolveAt
  repeat' first
    | with_reducible assumption
    | with_reducible exact .inl rfl
    | exact .inr (hL _ (by decide))
    | (extract_lets +onlyGivenNames x
       first
       | (refine sameStep (L := L) (s0 := s0) (x := x) (fun hx => ?_) ?_; clear_value x; rotate_left; subst x)
       | subst x)
    | with_reducible refine SameBut.ite ?_ ?_
    | with_reducible refine countPackage_frame (parts_sub (by decide) hL) ?_
    | with_reducible refine touchEntry_frame (parts_sub (by decide) hL) ?_
    | with_reducible refine dropAnswers_frame (parts_sub (by decide) hL) ?_
    | with_reducible refine missAt_frame (parts_sub (by decide) hL) ?_
    | with_reducible refine SameBut.ofPair ?_ (by with_reducible assumption)
    | intro _ _ _
    | intro _ _
    | intro _
    | split
    | (simp only [same_lit]; with_reducible refine SameLit.of ?_ ?_ ?_ ?_ ?_ ?_ ?_ ?_ ?_ ?_ ?_ ?_ ?_ ?_ ?_ ?_ ?_ ?_ ?_ ?_ ?_ ?_ ?_ ?_ ?_ ?_ ?_ ?_ ?_ ?_ ?_ ?_ ?_ ?_ ?_ ?_ ?_ ?_ ?_ ?_)
    | exact .inl rfl
    | dsimp only
    | dsimp only [id]

theorem translate_frame {L : List StatePart} {s0 : State} {who : Who} {va : Nat} {need : Need} {s : State}
    (hL : ∀ p ∈ [StatePart.counters, .int, .entries, .lookups, .coherence, .out], p ∈ L) (hok : SameBut L s0 s) :
    SameBut L s0 (translate who va need s).1 := by
  unfold translate
  repeat' first
    | with_reducible assumption
    | with_reducible exact .inl rfl
    | exact .inr (hL _ (by decide))
    | (extract_lets +onlyGivenNames x
       first
       | (refine sameStep (L := L) (s0 := s0) (x := x) (fun hx => ?_) ?_; clear_value x; rotate_left; subst x)
       | (refine sameStep (L := L) (s0 := s0) (x := x.1) (fun hx => ?_) ?_; clear_value x; rotate_left; subst x)
       | subst x)
    | with_reducible refine resolveAt_frame (parts_sub (by decide) hL) ?_
    | with_reducible refine countFault_frame (parts_sub (by decide) hL) ?_
    | with_reducible refine SameBut.ofPair ?_ (by with_reducible assumption)
    | intro _ _ _
    | intro _ _
    | intro _
    | split
    | (simp only [same_lit]; with_reducible refine SameLit.of ?_ ?_ ?_ ?_ ?_ ?_ ?_ ?_ ?_ ?_ ?_ ?_ ?_ ?_ ?_ ?_ ?_ ?_ ?_ ?_ ?_ ?_ ?_ ?_ ?_ ?_ ?_ ?_ ?_ ?_ ?_ ?_ ?_ ?_ ?_ ?_ ?_ ?_ ?_ ?_)
    | exact .inl rfl
    | dsimp only
    | dsimp only [id]

theorem translateSpan_frame {L : List StatePart} {s0 : State} {who : Who} {need : Need} {r0 : Nat} {r1 : Nat} {r2 : Nat} {r3 : Nat} {s : State}
    (hL : ∀ p ∈ [StatePart.counters, .int, .entries, .lookups, .coherence, .out], p ∈ L) (hok : SameBut L s0 s) :
    SameBut L s0 (translateSpan who need r0 r1 r2 r3 s).1 := by
  induction r0 generalizing r1 r2 r3 s with
  | zero =>
    unfold translateSpan
    repeat' first
      | with_reducible assumption
      | with_reducible exact .inl rfl
      | exact .inr (hL _ (by decide))
      | (extract_lets +onlyGivenNames x
         first
         | (refine sameStep (L := L) (s0 := s0) (x := x) (fun hx => ?_) ?_; clear_value x; rotate_left; subst x)
         | subst x)
      | with_reducible refine SameBut.ite ?_ ?_
      | with_reducible refine resolveAt_frame (parts_sub (by decide) hL) ?_
      | with_reducible refine SameBut.ofPair ?_ (by with_reducible assumption)
      | intro _ _ _
      | intro _ _
      | intro _
      | split
      | (simp only [same_lit]; with_reducible refine SameLit.of ?_ ?_ ?_ ?_ ?_ ?_ ?_ ?_ ?_ ?_ ?_ ?_ ?_ ?_ ?_ ?_ ?_ ?_ ?_ ?_ ?_ ?_ ?_ ?_ ?_ ?_ ?_ ?_ ?_ ?_ ?_ ?_ ?_ ?_ ?_ ?_ ?_ ?_ ?_ ?_)
      | exact .inl rfl
      | dsimp only
      | dsimp only [id]
  | succ r0 ih =>
    unfold translateSpan
    repeat' first
      | with_reducible assumption
      | (extract_lets +onlyGivenNames x
         first
         | (refine sameStep (L := L) (s0 := s0) (x := x) (fun hx => ?_) ?_; clear_value x; rotate_left; subst x)
         | subst x)
      | with_reducible apply ih
      | with_reducible exact .inl rfl
      | exact .inr (hL _ (by decide))
      | with_reducible refine SameBut.ite ?_ ?_
      | with_reducible refine resolveAt_frame (parts_sub (by decide) hL) ?_
      | with_reducible refine SameBut.ofPair ?_ (by with_reducible assumption)
      | intro _ _ _
      | intro _ _
      | intro _
      | split
      | (simp only [same_lit]; with_reducible refine SameLit.of ?_ ?_ ?_ ?_ ?_ ?_ ?_ ?_ ?_ ?_ ?_ ?_ ?_ ?_ ?_ ?_ ?_ ?_ ?_ ?_ ?_ ?_ ?_ ?_ ?_ ?_ ?_ ?_ ?_ ?_ ?_ ?_ ?_ ?_ ?_ ?_ ?_ ?_ ?_ ?_)
      | exact .inl rfl
      | dsimp only
      | dsimp only [id]

theorem translateSpans_frame {L : List StatePart} {s0 : State} {who : Who} {need : Need} {r0 : List (Nat × Nat × Nat)} {s : State}
    (hL : ∀ p ∈ [StatePart.counters, .int, .entries, .lookups, .coherence, .out], p ∈ L) (hok : SameBut L s0 s) :
    SameBut L s0 (translateSpans who need r0 s).1 := by
  induction r0 generalizing s with
  | nil =>
    unfold translateSpans
    repeat' first
      | with_reducible assumption
      | with_reducible exact .inl rfl
      | exact .inr (hL _ (by decide))
      | (extract_lets +onlyGivenNames x
         first
         | (refine sameStep (L := L) (s0 := s0) (x := x) (fun hx => ?_) ?_; clear_value x; rotate_left; subst x)
         | (refine sameStep (L := L) (s0 := s0) (x := x.1) (fun hx => ?_) ?_; clear_value x; rotate_left; subst x)
         | subst x)
      | with_reducible refine translateSpan_frame (parts_sub (by decide) hL) ?_
      | with_reducible refine SameBut.ofPair ?_ (by with_reducible assumption)
      | intro _ _ _
      | intro _ _
      | intro _
      | split
      | (simp only [same_lit]; with_reducible refine SameLit.of ?_ ?_ ?_ ?_ ?_ ?_ ?_ ?_ ?_ ?_ ?_ ?_ ?_ ?_ ?_ ?_ ?_ ?_ ?_ ?_ ?_ ?_ ?_ ?_ ?_ ?_ ?_ ?_ ?_ ?_ ?_ ?_ ?_ ?_ ?_ ?_ ?_ ?_ ?_ ?_)
      | exact .inl rfl
      | dsimp only
      | dsimp only [id]
  | cons x r0 ih =>
    unfold translateSpans
    repeat' first
      | with_reducible assumption
      | (extract_lets +onlyGivenNames x
         first
         | (refine sameStep (L := L) (s0 := s0) (x := x) (fun hx => ?_) ?_; clear_value x; rotate_left; subst x)
         | (refine sameStep (L := L) (s0 := s0) (x := x.1) (fun hx => ?_) ?_; clear_value x; rotate_left; subst x)
         | subst x)
      | with_reducible apply ih
      | with_reducible exact .inl rfl
      | exact .inr (hL _ (by decide))
      | with_reducible refine translateSpan_frame (parts_sub (by decide) hL) ?_
      | with_reducible refine SameBut.ofPair ?_ (by with_reducible assumption)
      | intro _ _ _
      | intro _ _
      | intro _
      | split
      | (simp only [same_lit]; with_reducible refine SameLit.of ?_ ?_ ?_ ?_ ?_ ?_ ?_ ?_ ?_ ?_ ?_ ?_ ?_ ?_ ?_ ?_ ?_ ?_ ?_ ?_ ?_ ?_ ?_ ?_ ?_ ?_ ?_ ?_ ?_ ?_ ?_ ?_ ?_ ?_ ?_ ?_ ?_ ?_ ?_ ?_)
      | exact .inl rfl
      | dsimp only
      | dsimp only [id]

theorem translateSide_frame {L : List StatePart} {s0 : State} {who : Who} {need : Need} {spans : List (Nat × Nat × Nat)} {s : State}
    (hL : ∀ p ∈ [StatePart.counters, .int, .entries, .lookups, .coherence, .out], p ∈ L) (hok : SameBut L s0 s) :
    SameBut L s0 (translateSide who need spans s).1 := by
  unfold translateSide
  repeat' first
    | with_reducible assumption
    | with_reducible exact .inl rfl
    | exact .inr (hL _ (by decide))
    | (extract_lets +onlyGivenNames x
       first
       | (refine sameStep (L := L) (s0 := s0) (x := x) (fun hx => ?_) ?_; clear_value x; rotate_left; subst x)
       | (refine sameStep (L := L) (s0 := s0) (x := x.1) (fun hx => ?_) ?_; clear_value x; rotate_left; subst x)
       | subst x)
    | with_reducible refine translateSpans_frame (parts_sub (by decide) hL) ?_
    | with_reducible refine countFault_frame (parts_sub (by decide) hL) ?_
    | with_reducible refine SameBut.ofPair ?_ (by with_reducible assumption)
    | intro _ _ _
    | intro _ _
    | intro _
    | split
    | (simp only [same_lit]; with_reducible refine SameLit.of ?_ ?_ ?_ ?_ ?_ ?_ ?_ ?_ ?_ ?_ ?_ ?_ ?_ ?_ ?_ ?_ ?_ ?_ ?_ ?_ ?_ ?_ ?_ ?_ ?_ ?_ ?_ ?_ ?_ ?_ ?_ ?_ ?_ ?_ ?_ ?_ ?_ ?_ ?_ ?_)
    | exact .inl rfl
    | dsimp only
    | dsimp only [id]

theorem spanRuns_frame {L : List StatePart} {s0 : State} {who : Who} {need : Need} {pos va n : Nat} {s : State}
    (hL : ∀ p ∈ [StatePart.counters, .int, .entries, .lookups, .coherence, .out], p ∈ L) (hok : SameBut L s0 s) :
    SameBut L s0 (spanRuns who need pos va n s).1 := by
  unfold spanRuns
  repeat' first
    | with_reducible assumption
    | with_reducible refine translateSide_frame (parts_sub (by decide) hL) ?_
    | intro _ _ _
    | intro _ _
    | intro _
    | dsimp only
    | dsimp only [id]

theorem noteGone_frame {L : List StatePart} {s0 : State} {what : ScanFor} {e : REntry} {s : State}
    (hL : ∀ p ∈ [StatePart.ctxs], p ∈ L) (hok : SameBut L s0 s) :
    SameBut L s0 (noteGone what e s) := by
  unfold noteGone
  repeat' first
    | with_reducible assumption
    | with_reducible exact .inl rfl
    | exact .inr (hL _ (by decide))
    | (extract_lets +onlyGivenNames x
       first
       | (refine sameStep (L := L) (s0 := s0) (x := x) (fun hx => ?_) ?_; clear_value x; rotate_left; subst x)
       | subst x)
    | with_reducible refine SameBut.ite ?_ ?_
    | with_reducible refine modCtx_frame (parts_sub (by decide) hL) ?_
    | with_reducible refine SameBut.ofPair ?_ (by with_reducible assumption)
    | intro _ _ _
    | intro _ _
    | intro _
    | split
    | (simp only [same_lit]; with_reducible refine SameLit.of ?_ ?_ ?_ ?_ ?_ ?_ ?_ ?_ ?_ ?_ ?_ ?_ ?_ ?_ ?_ ?_ ?_ ?_ ?_ ?_ ?_ ?_ ?_ ?_ ?_ ?_ ?_ ?_ ?_ ?_ ?_ ?_ ?_ ?_ ?_ ?_ ?_ ?_ ?_ ?_)
    | exact .inl rfl
    | dsimp only
    | dsimp only [id]

theorem startScan_frame {L : List StatePart} {s0 : State} {banks : List Nat} {what : ScanFor} {owner : ScanOwner} {s : State}
    (hL : ∀ p ∈ [StatePart.lookups], p ∈ L) (hok : SameBut L s0 s) :
    SameBut L s0 (startScan banks what owner s) := by
  unfold startScan
  repeat' first
    | with_reducible assumption
    | with_reducible exact .inl rfl
    | exact .inr (hL _ (by decide))
    | (extract_lets +onlyGivenNames x
       first
       | (refine sameStep (L := L) (s0 := s0) (x := x) (fun hx => ?_) ?_; clear_value x; rotate_left; subst x)
       | subst x)
    | with_reducible refine SameBut.ite ?_ ?_
    | intro _ _ _
    | intro _ _
    | intro _
    | split
    | (simp only [same_lit]; with_reducible refine SameLit.of ?_ ?_ ?_ ?_ ?_ ?_ ?_ ?_ ?_ ?_ ?_ ?_ ?_ ?_ ?_ ?_ ?_ ?_ ?_ ?_ ?_ ?_ ?_ ?_ ?_ ?_ ?_ ?_ ?_ ?_ ?_ ?_ ?_ ?_ ?_ ?_ ?_ ?_ ?_ ?_)
    | exact .inl rfl
    | dsimp only
    | dsimp only [id]

theorem scanBank_frame {L : List StatePart} {s0 : State} {b : Nat} {what : ScanFor} {owner : ScanOwner} {s : State}
    (hL : ∀ p ∈ [StatePart.counters, .int, .ctxs, .entries, .lookups, .out], p ∈ L) (hok : SameBut L s0 s) :
    SameBut L s0 (scanBank b what owner s) := by
  unfold scanBank
  repeat' first
    | with_reducible assumption
    | with_reducible exact .inl rfl
    | exact .inr (hL _ (by decide))
    | (extract_lets +onlyGivenNames x
       first
       | (refine sameStep (L := L) (s0 := s0) (x := x) (fun hx => ?_) ?_; clear_value x; rotate_left; subst x)
       | (refine sameStep (L := L) (s0 := s0) (x := x.1) (fun hx => ?_) ?_; clear_value x; rotate_left; subst x)
       | subst x)
    | with_reducible refine foldState_frame (fun _ _ _ => ?_) ?_
    | with_reducible refine noteGone_frame (parts_sub (by decide) hL) ?_
    | with_reducible refine revokeWhere_frame (parts_sub (by decide) hL) ?_
    | with_reducible refine setBank_frame (parts_sub (by decide) hL) ?_
    | intro _ _ _
    | intro _ _
    | intro _
    | (simp only [same_lit]; with_reducible refine SameLit.of ?_ ?_ ?_ ?_ ?_ ?_ ?_ ?_ ?_ ?_ ?_ ?_ ?_ ?_ ?_ ?_ ?_ ?_ ?_ ?_ ?_ ?_ ?_ ?_ ?_ ?_ ?_ ?_ ?_ ?_ ?_ ?_ ?_ ?_ ?_ ?_ ?_ ?_ ?_ ?_)
    | exact .inl rfl
    | dsimp only
    | dsimp only [id]


/-! ### Machine/Fabric.lean -/

theorem modPeer_frame {L : List StatePart} {s0 : State} {p : PackageId} {f : Peer → Peer} {s : State}
    (hL : ∀ p ∈ [StatePart.peers], p ∈ L) (hok : SameBut L s0 s) :
    SameBut L s0 (modPeer p f s) := by
  unfold modPeer
  repeat' first
    | with_reducible assumption
    | with_reducible exact .inl rfl
    | exact .inr (hL _ (by decide))
    | (extract_lets +onlyGivenNames x
       first
       | (refine sameStep (L := L) (s0 := s0) (x := x) (fun hx => ?_) ?_; clear_value x; rotate_left; subst x)
       | subst x)
    | with_reducible refine SameBut.ite ?_ ?_
    | intro _ _ _
    | intro _ _
    | intro _
    | split
    | (simp only [same_lit]; with_reducible refine SameLit.of ?_ ?_ ?_ ?_ ?_ ?_ ?_ ?_ ?_ ?_ ?_ ?_ ?_ ?_ ?_ ?_ ?_ ?_ ?_ ?_ ?_ ?_ ?_ ?_ ?_ ?_ ?_ ?_ ?_ ?_ ?_ ?_ ?_ ?_ ?_ ?_ ?_ ?_ ?_ ?_)
    | exact .inl rfl
    | dsimp only
    | dsimp only [id]

theorem rawFrame_frame {L : List StatePart} {s0 : State} {p : PackageId} {f : Frame} {s : State}
    (hL : ∀ p ∈ [StatePart.out], p ∈ L) (hok : SameBut L s0 s) :
    SameBut L s0 (rawFrame p f s) := by
  unfold rawFrame
  repeat' first
    | with_reducible assumption
    | with_reducible exact .inl rfl
    | exact .inr (hL _ (by decide))
    | (extract_lets +onlyGivenNames x
       first
       | (refine sameStep (L := L) (s0 := s0) (x := x) (fun hx => ?_) ?_; clear_value x; rotate_left; subst x)
       | subst x)
    | with_reducible refine emit_frame (parts_sub (by decide) hL) ?_
    | with_reducible refine SameBut.ofPair ?_ (by with_reducible assumption)
    | intro _ _ _
    | intro _ _
    | intro _
    | split
    | (simp only [same_lit]; with_reducible refine SameLit.of ?_ ?_ ?_ ?_ ?_ ?_ ?_ ?_ ?_ ?_ ?_ ?_ ?_ ?_ ?_ ?_ ?_ ?_ ?_ ?_ ?_ ?_ ?_ ?_ ?_ ?_ ?_ ?_ ?_ ?_ ?_ ?_ ?_ ?_ ?_ ?_ ?_ ?_ ?_ ?_)
    | exact .inl rfl
    | dsimp only
    | dsimp only [id]

theorem flushFrames_frame {L : List StatePart} {s0 : State} {p : PackageId} {s : State}
    (hL : ∀ p ∈ [StatePart.peers, .out], p ∈ L) (hok : SameBut L s0 s) :
    SameBut L s0 (flushFrames p s) := by
  unfold flushFrames
  repeat' first
    | with_reducible assumption
    | with_reducible exact .inl rfl
    | exact .inr (hL _ (by decide))
    | (extract_lets +onlyGivenNames x
       first
       | (refine sameStep (L := L) (s0 := s0) (x := x) (fun hx => ?_) ?_; clear_value x; rotate_left; subst x)
       | subst x)
    | with_reducible refine SameBut.ite ?_ ?_
    | with_reducible refine foldState_frame (fun _ _ _ => ?_) ?_
    | with_reducible refine rawFrame_frame (parts_sub (by decide) hL) ?_
    | with_reducible refine modPeer_frame (parts_sub (by decide) hL) ?_
    | with_reducible refine SameBut.ofPair ?_ (by with_reducible assumption)
    | intro _ _ _
    | intro _ _
    | intro _
    | split
    | (simp only [same_lit]; with_reducible refine SameLit.of ?_ ?_ ?_ ?_ ?_ ?_ ?_ ?_ ?_ ?_ ?_ ?_ ?_ ?_ ?_ ?_ ?_ ?_ ?_ ?_ ?_ ?_ ?_ ?_ ?_ ?_ ?_ ?_ ?_ ?_ ?_ ?_ ?_ ?_ ?_ ?_ ?_ ?_ ?_ ?_)
    | exact .inl rfl
    | dsimp only
    | dsimp only [id]

theorem sendFrame_frame {L : List StatePart} {s0 : State} {dst : PackageId} {type : Nat} {q2 q3 q4 : U64} {payload : Bytes} {s : State}
    (hL : ∀ p ∈ [StatePart.peers, .out], p ∈ L) (hok : SameBut L s0 s) :
    SameBut L s0 (sendFrame dst type q2 q3 q4 payload s) := by
  unfold sendFrame
  repeat' first
    | with_reducible assumption
    | with_reducible exact .inl rfl
    | exact .inr (hL _ (by decide))
    | (extract_lets +onlyGivenNames x
       first
       | (refine sameStep (L := L) (s0 := s0) (x := x) (fun hx => ?_) ?_; clear_value x; rotate_left; subst x)
       | subst x)
    | with_reducible refine SameBut.ite ?_ ?_
    | with_reducible refine emit_frame (parts_sub (by decide) hL) ?_
    | with_reducible refine flushFrames_frame (parts_sub (by decide) hL) ?_
    | with_reducible refine modPeer_frame (parts_sub (by decide) hL) ?_
    | with_reducible refine SameBut.ofPair ?_ (by with_reducible assumption)
    | intro _ _ _
    | intro _ _
    | intro _
    | split
    | (simp only [same_lit]; with_reducible refine SameLit.of ?_ ?_ ?_ ?_ ?_ ?_ ?_ ?_ ?_ ?_ ?_ ?_ ?_ ?_ ?_ ?_ ?_ ?_ ?_ ?_ ?_ ?_ ?_ ?_ ?_ ?_ ?_ ?_ ?_ ?_ ?_ ?_ ?_ ?_ ?_ ?_ ?_ ?_ ?_ ?_)
    | exact .inl rfl
    | dsimp only
    | dsimp only [id]

theorem takeSerial_frame {L : List StatePart} {s0 : State} {x : Cmd} {s : State}
    (hL : ∀ p ∈ [StatePart.cmds, .windows], p ∈ L) (hok : SameBut L s0 s) :
    SameBut L s0 (takeSerial x s) := by
  unfold takeSerial
  repeat' first
    | with_reducible assumption
    | with_reducible exact .inl rfl
    | exact .inr (hL _ (by decide))
    | (extract_lets +onlyGivenNames x
       first
       | (refine sameStep (L := L) (s0 := s0) (x := x) (fun hx => ?_) ?_; clear_value x; rotate_left; subst x)
       | subst x)
    | with_reducible refine SameBut.ite ?_ ?_
    | with_reducible refine modCmd_frame (parts_sub (by decide) hL) ?_
    | intro _ _ _
    | intro _ _
    | intro _
    | split
    | (simp only [same_lit]; with_reducible refine SameLit.of ?_ ?_ ?_ ?_ ?_ ?_ ?_ ?_ ?_ ?_ ?_ ?_ ?_ ?_ ?_ ?_ ?_ ?_ ?_ ?_ ?_ ?_ ?_ ?_ ?_ ?_ ?_ ?_ ?_ ?_ ?_ ?_ ?_ ?_ ?_ ?_ ?_ ?_ ?_ ?_)
    | exact .inl rfl
    | dsimp only
    | dsimp only [id]

theorem sendCancel_frame {L : List StatePart} {s0 : State} {o : SendOp} {tag : U16} {s : State}
    (hL : ∀ p ∈ [StatePart.peers, .out], p ∈ L) (hok : SameBut L s0 s) :
    SameBut L s0 (sendCancel o tag s) := by
  unfold sendCancel
  repeat' first
    | with_reducible assumption
    | with_reducible refine sendFrame_frame (parts_sub (by decide) hL) ?_
    | intro _ _ _
    | intro _ _
    | intro _
    | dsimp only
    | dsimp only [id]

theorem cancelOps_frame {L : List StatePart} {s0 : State} {c : CtxId} {q : Nat} {tag : U16} {s : State}
    (hL : ∀ p ∈ [StatePart.peers, .windows, .out], p ∈ L) (hok : SameBut L s0 s) :
    SameBut L s0 (cancelOps c q tag s) := by
  unfold cancelOps
  repeat' first
    | with_reducible assumption
    | with_reducible exact .inl rfl
    | exact .inr (hL _ (by decide))
    | (extract_lets +onlyGivenNames x
       first
       | (refine sameStep (L := L) (s0 := s0) (x := x) (fun hx => ?_) ?_; clear_value x; rotate_left; subst x)
       | subst x)
    | with_reducible refine SameBut.ite ?_ ?_
    | with_reducible refine foldState_frame (fun _ _ _ => ?_) ?_
    | with_reducible refine sendCancel_frame (parts_sub (by decide) hL) ?_
    | intro _ _ _
    | intro _ _
    | intro _
    | split
    | (simp only [same_lit]; with_reducible refine SameLit.of ?_ ?_ ?_ ?_ ?_ ?_ ?_ ?_ ?_ ?_ ?_ ?_ ?_ ?_ ?_ ?_ ?_ ?_ ?_ ?_ ?_ ?_ ?_ ?_ ?_ ?_ ?_ ?_ ?_ ?_ ?_ ?_ ?_ ?_ ?_ ?_ ?_ ?_ ?_ ?_)
    | exact .inl rfl
    | dsimp only
    | dsimp only [id]

theorem takeBackOps_frame {L : List StatePart} {s0 : State} {ops : List SendOp} {tag : U16} {s : State}
    (hL : ∀ p ∈ [StatePart.peers, .windows, .out], p ∈ L) (hok : SameBut L s0 s) :
    SameBut L s0 (takeBackOps ops tag s) := by
  unfold takeBackOps
  repeat' first
    | with_reducible assumption
    | with_reducible exact .inl rfl
    | exact .inr (hL _ (by decide))
    | (extract_lets +onlyGivenNames x
       first
       | (refine sameStep (L := L) (s0 := s0) (x := x) (fun hx => ?_) ?_; clear_value x; rotate_left; subst x)
       | subst x)
    | with_reducible refine SameBut.ite ?_ ?_
    | with_reducible refine foldState_frame (fun _ _ _ => ?_) ?_
    | with_reducible refine sendCancel_frame (parts_sub (by decide) hL) ?_
    | intro _ _ _
    | intro _ _
    | intro _
    | split
    | (simp only [same_lit]; with_reducible refine SameLit.of ?_ ?_ ?_ ?_ ?_ ?_ ?_ ?_ ?_ ?_ ?_ ?_ ?_ ?_ ?_ ?_ ?_ ?_ ?_ ?_ ?_ ?_ ?_ ?_ ?_ ?_ ?_ ?_ ?_ ?_ ?_ ?_ ?_ ?_ ?_ ?_ ?_ ?_ ?_ ?_)
    | exact .inl rfl
    | dsimp only
    | dsimp only [id]


/-! ### Machine/Life.lean -/

theorem modEngine_frame {L : List StatePart} {s0 : State} {e : Engine} {f : EngineSt → EngineSt} {s : State}
    (hL : ∀ p ∈ [StatePart.engines], p ∈ L) (hok : SameBut L s0 s) :
    SameBut L s0 (modEngine e f s) := by
  unfold modEngine
  repeat' first
    | with_reducible assumption
    | with_reducible exact .inl rfl
    | exact .inr (hL _ (by decide))
    | (extract_lets +onlyGivenNames x
       first
       | (refine sameStep (L := L) (s0 := s0) (x := x) (fun hx => ?_) ?_; clear_value x; rotate_left; subst x)
       | subst x)
    | intro _ _ _
    | intro _ _
    | intro _
    | (simp only [same_lit]; with_reducible refine SameLit.of ?_ ?_ ?_ ?_ ?_ ?_ ?_ ?_ ?_ ?_ ?_ ?_ ?_ ?_ ?_ ?_ ?_ ?_ ?_ ?_ ?_ ?_ ?_ ?_ ?_ ?_ ?_ ?_ ?_ ?_ ?_ ?_ ?_ ?_ ?_ ?_ ?_ ?_ ?_ ?_)
    | exact .inl rfl
    | dsimp only
    | dsimp only [id]

theorem leaveEngines_frame {L : List StatePart} {s0 : State} {c : CtxId} {q : Nat} {s : State}
    (hL : ∀ p ∈ [StatePart.engines], p ∈ L) (hok : SameBut L s0 s) :
    SameBut L s0 (leaveEngines c q s) := by
  unfold leaveEngines
  repeat' first
    | with_reducible assumption
    | with_reducible exact .inl rfl
    | exact .inr (hL _ (by decide))
    | (extract_lets +onlyGivenNames x
       first
       | (refine sameStep (L := L) (s0 := s0) (x := x) (fun hx => ?_) ?_; clear_value x; rotate_left; subst x)
       | subst x)
    | with_reducible refine SameBut.ite ?_ ?_
    | intro _ _ _
    | intro _ _
    | intro _
    | split
    | (simp only [same_lit]; with_reducible refine SameLit.of ?_ ?_ ?_ ?_ ?_ ?_ ?_ ?_ ?_ ?_ ?_ ?_ ?_ ?_ ?_ ?_ ?_ ?_ ?_ ?_ ?_ ?_ ?_ ?_ ?_ ?_ ?_ ?_ ?_ ?_ ?_ ?_ ?_ ?_ ?_ ?_ ?_ ?_ ?_ ?_)
    | exact .inl rfl
    | dsimp only
    | dsimp only [id]

theorem abandonCredit_frame {L : List StatePart} {s0 : State} {x : Cmd} {s : State}
    (hL : ∀ p ∈ [StatePart.out], p ∈ L) (hok : SameBut L s0 s) :
    SameBut L s0 (abandonCredit x s) := by
  unfold abandonCredit
  repeat' first
    | with_reducible assumption
    | with_reducible exact .inl rfl
    | exact .inr (hL _ (by decide))
    | (extract_lets +onlyGivenNames x
       first
       | (refine sameStep (L := L) (s0 := s0) (x := x) (fun hx => ?_) ?_; clear_value x; rotate_left; subst x)
       | subst x)
    | with_reducible refine SameBut.ite ?_ ?_
    | with_reducible refine emit_frame (parts_sub (by decide) hL) ?_
    | with_reducible refine SameBut.ofPair ?_ (by with_reducible assumption)
    | intro _ _ _
    | intro _ _
    | intro _
    | split
    | (simp only [same_lit]; with_reducible refine SameLit.of ?_ ?_ ?_ ?_ ?_ ?_ ?_ ?_ ?_ ?_ ?_ ?_ ?_ ?_ ?_ ?_ ?_ ?_ ?_ ?_ ?_ ?_ ?_ ?_ ?_ ?_ ?_ ?_ ?_ ?_ ?_ ?_ ?_ ?_ ?_ ?_ ?_ ?_ ?_ ?_)
    | exact .inl rfl
    | dsimp only
    | dsimp only [id]

theorem cancelParts_frame {L : List StatePart} {s0 : State} {x : Cmd} {s : State}
    (hL : ∀ p ∈ [StatePart.out], p ∈ L) (hok : SameBut L s0 s) :
    SameBut L s0 (cancelParts x s) := by
  unfold cancelParts
  repeat' first
    | with_reducible assumption
    | with_reducible refine SameBut.ite ?_ ?_
    | with_reducible refine foldState_frame (fun _ _ _ => ?_) ?_
    | with_reducible refine emit_frame (parts_sub (by decide) hL) ?_
    | intro _ _ _
    | intro _ _
    | intro _
    | split
    | dsimp only
    | dsimp only [id]

theorem drainTag_frame {L : List StatePart} {s0 : State} {x : Cmd} {s : State}
    (hL : ∀ p ∈ [StatePart.engines], p ∈ L) (hok : SameBut L s0 s) :
    SameBut L s0 (drainTag x s) := by
  unfold drainTag
  repeat' first
    | with_reducible assumption
    | with_reducible exact .inl rfl
    | exact .inr (hL _ (by decide))
    | (extract_lets +onlyGivenNames x
       first
       | (refine sameStep (L := L) (s0 := s0) (x := x) (fun hx => ?_) ?_; clear_value x; rotate_left; subst x)
       | subst x)
    | with_reducible refine SameBut.ofPair ?_ (by with_reducible assumption)
    | intro _ _ _
    | intro _ _
    | intro _
    | split
    | (simp only [same_lit]; with_reducible refine SameLit.of ?_ ?_ ?_ ?_ ?_ ?_ ?_ ?_ ?_ ?_ ?_ ?_ ?_ ?_ ?_ ?_ ?_ ?_ ?_ ?_ ?_ ?_ ?_ ?_ ?_ ?_ ?_ ?_ ?_ ?_ ?_ ?_ ?_ ?_ ?_ ?_ ?_ ?_ ?_ ?_)
    | exact .inl rfl
    | dsimp only
    | dsimp only [id]

theorem stopWork_frame {L : List StatePart} {s0 : State} {x : Cmd} {s : State}
    (hL : ∀ p ∈ [StatePart.engines, .peers, .windows, .out], p ∈ L) (hok : SameBut L s0 s) :
    SameBut L s0 (stopWork x s) := by
  unfold stopWork
  repeat' first
    | with_reducible assumption
    | with_reducible exact .inl rfl
    | exact .inr (hL _ (by decide))
    | (extract_lets +onlyGivenNames x
       first
       | (refine sameStep (L := L) (s0 := s0) (x := x) (fun hx => ?_) ?_; clear_value x; rotate_left; subst x)
       | subst x)
    | with_reducible refine leaveEngines_frame (parts_sub (by decide) hL) ?_
    | with_reducible refine cancelParts_frame (parts_sub (by decide) hL) ?_
    | with_reducible refine cancelOps_frame (parts_sub (by decide) hL) ?_
    | with_reducible refine SameBut.ofPair ?_ (by with_reducible assumption)
    | intro _ _ _
    | intro _ _
    | intro _
    | split
    | (simp only [same_lit]; with_reducible refine SameLit.of ?_ ?_ ?_ ?_ ?_ ?_ ?_ ?_ ?_ ?_ ?_ ?_ ?_ ?_ ?_ ?_ ?_ ?_ ?_ ?_ ?_ ?_ ?_ ?_ ?_ ?_ ?_ ?_ ?_ ?_ ?_ ?_ ?_ ?_ ?_ ?_ ?_ ?_ ?_ ?_)
    | exact .inl rfl
    | dsimp only
    | dsimp only [id]

theorem endCmd_frame {L : List StatePart} {s0 : State} {c : CtxId} {q : Nat} {st : CStatus} {s : State}
    (hL : ∀ p ∈ [StatePart.cmds, .engines, .peers, .windows, .out], p ∈ L) (hok : SameBut L s0 s) :
    SameBut L s0 (endCmd c q st s) := by
  unfold endCmd
  repeat' first
    | with_reducible assumption
    | with_reducible exact .inl rfl
    | exact .inr (hL _ (by decide))
    | (extract_lets +onlyGivenNames x
       first
       | (refine sameStep (L := L) (s0 := s0) (x := x) (fun hx => ?_) ?_; clear_value x; rotate_left; subst x)
       | subst x)
    | with_reducible refine SameBut.ite ?_ ?_
    | with_reducible refine leaveEngines_frame (parts_sub (by decide) hL) ?_
    | with_reducible refine stopWork_frame (parts_sub (by decide) hL) ?_
    | with_reducible refine modCmd_frame (parts_sub (by decide) hL) ?_
    | with_reducible refine SameBut.ofPair ?_ (by with_reducible assumption)
    | intro _ _ _
    | intro _ _
    | intro _
    | split
    | (simp only [same_lit]; with_reducible refine SameLit.of ?_ ?_ ?_ ?_ ?_ ?_ ?_ ?_ ?_ ?_ ?_ ?_ ?_ ?_ ?_ ?_ ?_ ?_ ?_ ?_ ?_ ?_ ?_ ?_ ?_ ?_ ?_ ?_ ?_ ?_ ?_ ?_ ?_ ?_ ?_ ?_ ?_ ?_ ?_ ?_)
    | exact .inl rfl
    | dsimp only
    | dsimp only [id]

theorem loseCmd_frame {L : List StatePart} {s0 : State} {cause : List (Nat × CStatus)} {x : Cmd} {s : State}
    (hL : ∀ p ∈ [StatePart.cmds, .engines, .peers, .windows, .out], p ∈ L) (hok : SameBut L s0 s) :
    SameBut L s0 (loseCmd cause x s) := by
  unfold loseCmd
  repeat' first
    | with_reducible assumption
    | with_reducible exact .inl rfl
    | exact .inr (hL _ (by decide))
    | (extract_lets +onlyGivenNames x
       first
       | (refine sameStep (L := L) (s0 := s0) (x := x) (fun hx => ?_) ?_; clear_value x; rotate_left; subst x)
       | (refine sameStep (L := L) (s0 := s0) (x := x.1) (fun hx => ?_) ?_; clear_value x; rotate_left; subst x)
       | subst x)
    | with_reducible refine SameBut.ite ?_ ?_
    | with_reducible refine endCmd_frame (parts_sub (by decide) hL) ?_
    | with_reducible refine modCmd_frame (parts_sub (by decide) hL) ?_
    | with_reducible refine SameBut.ofPair ?_ (by with_reducible assumption)
    | intro _ _ _
    | intro _ _
    | intro _
    | split
    | (simp only [same_lit]; with_reducible refine SameLit.of ?_ ?_ ?_ ?_ ?_ ?_ ?_ ?_ ?_ ?_ ?_ ?_ ?_ ?_ ?_ ?_ ?_ ?_ ?_ ?_ ?_ ?_ ?_ ?_ ?_ ?_ ?_ ?_ ?_ ?_ ?_ ?_ ?_ ?_ ?_ ?_ ?_ ?_ ?_ ?_)
    | exact .inl rfl
    | dsimp only
    | dsimp only [id]

theorem revokeCtxLeases_frame {L : List StatePart} {s0 : State} {c : CtxId} {s : State}
    (hL : ∀ p ∈ [StatePart.counters, .int, .lookups, .out], p ∈ L) (hok : SameBut L s0 s) :
    SameBut L s0 (revokeCtxLeases c s) := by
  unfold revokeCtxLeases
  repeat' first
    | with_reducible assumption
    | with_reducible refine revokeWhere_frame (parts_sub (by decide) hL) ?_
    | intro _ _ _
    | intro _ _
    | intro _
    | dsimp only
    | dsimp only [id]

theorem loseContext_frame {L : List StatePart} {s0 : State} {c : CtxId} {r : LostReason} {cause : List (Nat × CStatus)} {data1 : U64} {i : ErrInfo} {s : State}
    (hL : ∀ p ∈ [StatePart.od, .stored, .counters, .mgmt, .links, .intx, .fnCfg, .int, .capture, .ctxs, .cmds, .engines, .lookups, .peers, .windows, .err, .power, .out], p ∈ L) (hok : SameBut L s0 s) :
    SameBut L s0 (loseContext c r cause data1 i s) := by
  unfold loseContext
  repeat' first
    | with_reducible assumption
    | with_reducible exact .inl rfl
    | exact .inr (hL _ (by decide))
    | (extract_lets +onlyGivenNames x
       first
       | (refine sameStep (L := L) (s0 := s0) (x := x) (fun hx => ?_) ?_; clear_value x; rotate_left; subst x)
       | (refine sameStep (L := L) (s0 := s0) (x := x.1) (fun hx => ?_) ?_; clear_value x; rotate_left; subst x)
       | subst x)
    | with_reducible refine SameBut.ite ?_ ?_
    | with_reducible refine modCtx_frame (parts_sub (by decide) hL) ?_
    | with_reducible refine foldState_frame (fun _ _ _ => ?_) ?_
    | with_reducible refine loseCmd_frame (parts_sub (by decide) hL) ?_
    | with_reducible refine revokeCtxLeases_frame (parts_sub (by decide) hL) ?_
    | with_reducible refine formEvent_frame (parts_sub (by decide) hL) ?_
    | with_reducible refine countFn_frame (parts_sub (by decide) hL) ?_
    | with_reducible refine raiseWith_frame (parts_sub (by decide) hL) ?_
    | with_reducible refine SameBut.ofPair ?_ (by with_reducible assumption)
    | intro _ _ _
    | intro _ _
    | intro _
    | split
    | (simp only [same_lit]; with_reducible refine SameLit.of ?_ ?_ ?_ ?_ ?_ ?_ ?_ ?_ ?_ ?_ ?_ ?_ ?_ ?_ ?_ ?_ ?_ ?_ ?_ ?_ ?_ ?_ ?_ ?_ ?_ ?_ ?_ ?_ ?_ ?_ ?_ ?_ ?_ ?_ ?_ ?_ ?_ ?_ ?_ ?_)
    | exact .inl rfl
    | dsimp only
    | dsimp only [id]

theorem faultCmd_frame {L : List StatePart} {s0 : State} {c : CtxId} {q : Nat} {st : CStatus} {i : ErrInfo} {s : State}
    (hL : ∀ p ∈ [StatePart.od, .stored, .counters, .mgmt, .links, .intx, .fnCfg, .int, .capture, .ctxs, .cmds, .engines, .lookups, .peers, .windows, .err, .power, .out], p ∈ L) (hok : SameBut L s0 s) :
    SameBut L s0 (faultCmd c q st i s) := by
  unfold faultCmd
  repeat' first
    | with_reducible assumption
    | with_reducible exact .inl rfl
    | exact .inr (hL _ (by decide))
    | (extract_lets +onlyGivenNames x
       first
       | (refine sameStep (L := L) (s0 := s0) (x := x) (fun hx => ?_) ?_; clear_value x; rotate_left; subst x)
       | subst x)
    | with_reducible refine SameBut.ite ?_ ?_
    | with_reducible refine loseContext_frame (parts_sub (by decide) hL) ?_
    | with_reducible refine endCmd_frame (parts_sub (by decide) hL) ?_
    | with_reducible refine SameBut.ofPair ?_ (by with_reducible assumption)
    | intro _ _ _
    | intro _ _
    | intro _
    | split
    | (simp only [same_lit]; with_reducible refine SameLit.of ?_ ?_ ?_ ?_ ?_ ?_ ?_ ?_ ?_ ?_ ?_ ?_ ?_ ?_ ?_ ?_ ?_ ?_ ?_ ?_ ?_ ?_ ?_ ?_ ?_ ?_ ?_ ?_ ?_ ?_ ?_ ?_ ?_ ?_ ?_ ?_ ?_ ?_ ?_ ?_)
    | exact .inl rfl
    | dsimp only
    | dsimp only [id]

theorem countLateFault_frame {L : List StatePart} {s0 : State} {c : CtxId} {s : State}
    (hL : ∀ p ∈ [StatePart.counters, .int], p ∈ L) (hok : SameBut L s0 s) :
    SameBut L s0 (countLateFault c s) := by
  unfold countLateFault
  repeat' first
    | with_reducible assumption
    | with_reducible exact .inl rfl
    | exact .inr (hL _ (by decide))
    | (extract_lets +onlyGivenNames x
       first
       | (refine sameStep (L := L) (s0 := s0) (x := x) (fun hx => ?_) ?_; clear_value x; rotate_left; subst x)
       | subst x)
    | with_reducible refine SameBut.ite ?_ ?_
    | with_reducible refine countFn_frame (parts_sub (by decide) hL) ?_
    | with_reducible refine SameBut.ofPair ?_ (by with_reducible assumption)
    | intro _ _ _
    | intro _ _
    | intro _
    | split
    | (simp only [same_lit]; with_reducible refine SameLit.of ?_ ?_ ?_ ?_ ?_ ?_ ?_ ?_ ?_ ?_ ?_ ?_ ?_ ?_ ?_ ?_ ?_ ?_ ?_ ?_ ?_ ?_ ?_ ?_ ?_ ?_ ?_ ?_ ?_ ?_ ?_ ?_ ?_ ?_ ?_ ?_ ?_ ?_ ?_ ?_)
    | exact .inl rfl
    | dsimp only
    | dsimp only [id]

theorem clearCycleExact_frame {L : List StatePart} {s0 : State} {c : CtxId} {s : State}
    (hL : ∀ p ∈ [StatePart.ctxs], p ∈ L) (hok : SameBut L s0 s) :
    SameBut L s0 (clearCycleExact c s) := by
  unfold clearCycleExact
  repeat' first
    | with_reducible assumption
    | with_reducible exact .inl rfl
    | exact .inr (hL _ (by decide))
    | (extract_lets +onlyGivenNames x
       first
       | (refine sameStep (L := L) (s0 := s0) (x := x) (fun hx => ?_) ?_; clear_value x; rotate_left; subst x)
       | subst x)
    | with_reducible refine modCtx_frame (parts_sub (by decide) hL) ?_
    | intro _ _ _
    | intro _ _
    | intro _
    | (simp only [same_lit]; with_reducible refine SameLit.of ?_ ?_ ?_ ?_ ?_ ?_ ?_ ?_ ?_ ?_ ?_ ?_ ?_ ?_ ?_ ?_ ?_ ?_ ?_ ?_ ?_ ?_ ?_ ?_ ?_ ?_ ?_ ?_ ?_ ?_ ?_ ?_ ?_ ?_ ?_ ?_ ?_ ?_ ?_ ?_)
    | exact .inl rfl
    | dsimp only
    | dsimp only [id]

theorem noteMirror_frame {L : List StatePart} {s0 : State} {o : MemObj} {word : Nat} {v : U64} {s : State}
    (hL : ∀ p ∈ [StatePart.slots], p ∈ L) (hok : SameBut L s0 s) :
    SameBut L s0 (noteMirror o word v s) := by
  unfold noteMirror
  repeat' first
    | with_reducible assumption
    | with_reducible exact .inl rfl
    | exact .inr (hL _ (by decide))
    | (extract_lets +onlyGivenNames x
       first
       | (refine sameStep (L := L) (s0 := s0) (x := x) (fun hx => ?_) ?_; clear_value x; rotate_left; subst x)
       | (refine sameStep (L := L) (s0 := s0) (x := x.1) (fun hx => ?_) ?_; clear_value x; rotate_left; subst x)
       | subst x)
    | with_reducible refine SameBut.ite ?_ ?_
    | intro _ _ _
    | intro _ _
    | intro _
    | split
    | (simp only [same_lit]; with_reducible refine SameLit.of ?_ ?_ ?_ ?_ ?_ ?_ ?_ ?_ ?_ ?_ ?_ ?_ ?_ ?_ ?_ ?_ ?_ ?_ ?_ ?_ ?_ ?_ ?_ ?_ ?_ ?_ ?_ ?_ ?_ ?_ ?_ ?_ ?_ ?_ ?_ ?_ ?_ ?_ ?_ ?_)
    | exact .inl rfl
    | dsimp only
    | dsimp only [id]

theorem signalFence_frame {L : List StatePart} {s0 : State} {by_ : Fun} {c : Option CtxId} {o : MemObj} {word : Nat} {v : U64} {s : State}
    (hL : ∀ p ∈ [StatePart.counters, .int, .ctxs, .slots, .memory, .pool, .out], p ∈ L) (hok : SameBut L s0 s) :
    SameBut L s0 (signalFence by_ c o word v s) := by
  unfold signalFence
  repeat' first
    | with_reducible assumption
    | with_reducible exact .inl rfl
    | exact .inr (hL _ (by decide))
    | (extract_lets +onlyGivenNames x
       first
       | (refine sameStep (L := L) (s0 := s0) (x := x) (fun hx => ?_) ?_; clear_value x; rotate_left; subst x)
       | subst x)
    | with_reducible refine SameBut.ite ?_ ?_
    | with_reducible refine clearCycleExact_frame (parts_sub (by decide) hL) ?_
    | with_reducible refine countPackage_frame (parts_sub (by decide) hL) ?_
    | with_reducible refine countFn_frame (parts_sub (by decide) hL) ?_
    | with_reducible refine poolWrite_frame (parts_sub (by decide) hL) ?_
    | with_reducible refine noteMirror_frame (parts_sub (by decide) hL) ?_
    | with_reducible refine formEvent_frame (parts_sub (by decide) hL) ?_
    | with_reducible refine SameBut.ofPair ?_ (by with_reducible assumption)
    | intro _ _ _
    | intro _ _
    | intro _
    | split
    | (simp only [same_lit]; with_reducible refine SameLit.of ?_ ?_ ?_ ?_ ?_ ?_ ?_ ?_ ?_ ?_ ?_ ?_ ?_ ?_ ?_ ?_ ?_ ?_ ?_ ?_ ?_ ?_ ?_ ?_ ?_ ?_ ?_ ?_ ?_ ?_ ?_ ?_ ?_ ?_ ?_ ?_ ?_ ?_ ?_ ?_)
    | exact .inl rfl
    | dsimp only
    | dsimp only [id]

theorem dropMirrors_frame {L : List StatePart} {s0 : State} {slot : Nat} {s : State}
    (hL : ∀ p ∈ [StatePart.slots], p ∈ L) (hok : SameBut L s0 s) :
    SameBut L s0 (dropMirrors slot s) := by
  unfold dropMirrors
  repeat' first
    | with_reducible assumption
    | with_reducible exact .inl rfl
    | exact .inr (hL _ (by decide))
    | (extract_lets +onlyGivenNames x
       first
       | (refine sameStep (L := L) (s0 := s0) (x := x) (fun hx => ?_) ?_; clear_value x; rotate_left; subst x)
       | (refine sameStep (L := L) (s0 := s0) (x := x.1) (fun hx => ?_) ?_; clear_value x; rotate_left; subst x)
       | subst x)
    | intro _ _ _
    | intro _ _
    | intro _
    | (simp only [same_lit]; with_reducible refine SameLit.of ?_ ?_ ?_ ?_ ?_ ?_ ?_ ?_ ?_ ?_ ?_ ?_ ?_ ?_ ?_ ?_ ?_ ?_ ?_ ?_ ?_ ?_ ?_ ?_ ?_ ?_ ?_ ?_ ?_ ?_ ?_ ?_ ?_ ?_ ?_ ?_ ?_ ?_ ?_ ?_)
    | exact .inl rfl
    | dsimp only
    | dsimp only [id]

theorem failWaits_frame {L : List StatePart} {s0 : State} {h : U64} {s : State}
    (hL : ∀ p ∈ [StatePart.od, .stored, .counters, .mgmt, .links, .intx, .fnCfg, .int, .capture, .ctxs, .cmds, .engines, .lookups, .peers, .windows, .err, .power, .out], p ∈ L) (hok : SameBut L s0 s) :
    SameBut L s0 (failWaits h s) := by
  unfold failWaits
  repeat' first
    | with_reducible assumption
    | with_reducible refine SameBut.ite ?_ ?_
    | with_reducible refine foldState_frame (fun _ _ _ => ?_) ?_
    | with_reducible refine faultCmd_frame (parts_sub (by decide) hL) ?_
    | intro _ _ _
    | intro _ _
    | intro _
    | split
    | dsimp only
    | dsimp only [id]

theorem closeWindowsOf_frame {L : List StatePart} {s0 : State} {h : U64} {s : State}
    (hL : ∀ p ∈ [StatePart.windows], p ∈ L) (hok : SameBut L s0 s) :
    SameBut L s0 (closeWindowsOf h s) := by
  unfold closeWindowsOf
  repeat' first
    | with_reducible assumption
    | with_reducible exact .inl rfl
    | exact .inr (hL _ (by decide))
    | (extract_lets +onlyGivenNames x
       first
       | (refine sameStep (L := L) (s0 := s0) (x := x) (fun hx => ?_) ?_; clear_value x; rotate_left; subst x)
       | (refine sameStep (L := L) (s0 := s0) (x := x.1) (fun hx => ?_) ?_; clear_value x; rotate_left; subst x)
       | subst x)
    | with_reducible refine SameBut.ite ?_ ?_
    | intro _ _ _
    | intro _ _
    | intro _
    | split
    | (simp only [same_lit]; with_reducible refine SameLit.of ?_ ?_ ?_ ?_ ?_ ?_ ?_ ?_ ?_ ?_ ?_ ?_ ?_ ?_ ?_ ?_ ?_ ?_ ?_ ?_ ?_ ?_ ?_ ?_ ?_ ?_ ?_ ?_ ?_ ?_ ?_ ?_ ?_ ?_ ?_ ?_ ?_ ?_ ?_ ?_)
    | exact .inl rfl
    | dsimp only
    | dsimp only [id]

theorem closeCohOf_frame {L : List StatePart} {s0 : State} {h : U64} {s : State}
    (hL : ∀ p ∈ [StatePart.coherence], p ∈ L) (hok : SameBut L s0 s) :
    SameBut L s0 (closeCohOf h s) := by
  unfold closeCohOf
  repeat' first
    | with_reducible assumption
    | with_reducible exact .inl rfl
    | exact .inr (hL _ (by decide))
    | (extract_lets +onlyGivenNames x
       first
       | (refine sameStep (L := L) (s0 := s0) (x := x) (fun hx => ?_) ?_; clear_value x; rotate_left; subst x)
       | (refine sameStep (L := L) (s0 := s0) (x := x.1) (fun hx => ?_) ?_; clear_value x; rotate_left; subst x)
       | subst x)
    | with_reducible refine SameBut.ite ?_ ?_
    | intro _ _ _
    | intro _ _
    | intro _
    | split
    | (simp only [same_lit]; with_reducible refine SameLit.of ?_ ?_ ?_ ?_ ?_ ?_ ?_ ?_ ?_ ?_ ?_ ?_ ?_ ?_ ?_ ?_ ?_ ?_ ?_ ?_ ?_ ?_ ?_ ?_ ?_ ?_ ?_ ?_ ?_ ?_ ?_ ?_ ?_ ?_ ?_ ?_ ?_ ?_ ?_ ?_)
    | exact .inl rfl
    | dsimp only
    | dsimp only [id]

theorem freeStart_frame {L : List StatePart} {s0 : State} {slot : Nat} {freer : Option AdminRef} {s : State}
    (hL : ∀ p ∈ [StatePart.od, .stored, .counters, .mgmt, .links, .intx, .fnCfg, .int, .capture, .ctxs, .objs, .slots, .cmds, .engines, .lookups, .peers, .windows, .coherence, .err, .power, .out], p ∈ L) (hok : SameBut L s0 s) :
    SameBut L s0 (freeStart slot freer s) := by
  unfold freeStart
  repeat' first
    | with_reducible assumption
    | with_reducible exact .inl rfl
    | exact .inr (hL _ (by decide))
    | (extract_lets +onlyGivenNames x
       first
       | (refine sameStep (L := L) (s0 := s0) (x := x) (fun hx => ?_) ?_; clear_value x; rotate_left; subst x)
       | subst x)
    | with_reducible refine SameBut.ite ?_ ?_
    | with_reducible refine modObj_frame (parts_sub (by decide) hL) ?_
    | with_reducible refine failWaits_frame (parts_sub (by decide) hL) ?_
    | with_reducible refine dropMirrors_frame (parts_sub (by decide) hL) ?_
    | with_reducible refine closeCohOf_frame (parts_sub (by decide) hL) ?_
    | with_reducible refine closeWindowsOf_frame (parts_sub (by decide) hL) ?_
    | with_reducible refine startScan_frame (parts_sub (by decide) hL) ?_
    | with_reducible refine SameBut.ofPair ?_ (by with_reducible assumption)
    | intro _ _ _
    | intro _ _
    | intro _
    | split
    | (simp only [same_lit]; with_reducible refine SameLit.of ?_ ?_ ?_ ?_ ?_ ?_ ?_ ?_ ?_ ?_ ?_ ?_ ?_ ?_ ?_ ?_ ?_ ?_ ?_ ?_ ?_ ?_ ?_ ?_ ?_ ?_ ?_ ?_ ?_ ?_ ?_ ?_ ?_ ?_ ?_ ?_ ?_ ?_ ?_ ?_)
    | exact .inl rfl
    | dsimp only
    | dsimp only [id]

theorem adminDone_frame {L : List StatePart} {s0 : State} {g : Fun} {st : AStatus} {result : U64} {tag : U16} {s : State}
    (hL : ∀ p ∈ [StatePart.admin], p ∈ L) (hok : SameBut L s0 s) :
    SameBut L s0 (adminDone g st result tag s) := by
  unfold adminDone
  repeat' first
    | with_reducible assumption
    | with_reducible exact .inl rfl
    | exact .inr (hL _ (by decide))
    | (extract_lets +onlyGivenNames x
       first
       | (refine sameStep (L := L) (s0 := s0) (x := x) (fun hx => ?_) ?_; clear_value x; rotate_left; subst x)
       | subst x)
    | with_reducible refine modAdmin_frame (parts_sub (by decide) hL) ?_
    | intro _ _ _
    | intro _ _
    | intro _
    | (simp only [same_lit]; with_reducible refine SameLit.of ?_ ?_ ?_ ?_ ?_ ?_ ?_ ?_ ?_ ?_ ?_ ?_ ?_ ?_ ?_ ?_ ?_ ?_ ?_ ?_ ?_ ?_ ?_ ?_ ?_ ?_ ?_ ?_ ?_ ?_ ?_ ?_ ?_ ?_ ?_ ?_ ?_ ?_ ?_ ?_)
    | exact .inl rfl
    | dsimp only
    | dsimp only [id]

theorem freeFinish_frame {L : List StatePart} {s0 : State} {slot : Nat} {s : State}
    (hL : ∀ p ∈ [StatePart.admin, .objs, .slots, .pool], p ∈ L) (hok : SameBut L s0 s) :
    SameBut L s0 (freeFinish slot s) := by
  unfold freeFinish
  repeat' first
    | with_reducible assumption
    | with_reducible exact .inl rfl
    | exact .inr (hL _ (by decide))
    | (extract_lets +onlyGivenNames x
       first
       | (refine sameStep (L := L) (s0 := s0) (x := x) (fun hx => ?_) ?_; clear_value x; rotate_left; subst x)
       | (refine sameStep (L := L) (s0 := s0) (x := x.1) (fun hx => ?_) ?_; clear_value x; rotate_left; subst x)
       | subst x)
    | with_reducible refine SameBut.ite ?_ ?_
    | with_reducible refine foldState_frame (fun _ _ _ => ?_) ?_
    | with_reducible refine adminDone_frame (parts_sub (by decide) hL) ?_
    | with_reducible refine SameBut.ofPair ?_ (by with_reducible assumption)
    | intro _ _ _
    | intro _ _
    | intro _
    | split
    | (simp only [same_lit]; with_reducible refine SameLit.of ?_ ?_ ?_ ?_ ?_ ?_ ?_ ?_ ?_ ?_ ?_ ?_ ?_ ?_ ?_ ?_ ?_ ?_ ?_ ?_ ?_ ?_ ?_ ?_ ?_ ?_ ?_ ?_ ?_ ?_ ?_ ?_ ?_ ?_ ?_ ?_ ?_ ?_ ?_ ?_)
    | exact .inl rfl
    | dsimp only
    | dsimp only [id]

theorem freeSpan_frame {L : List StatePart} {s0 : State} {a n : Nat} {s : State}
    (hL : ∀ p ∈ [StatePart.memory, .draws], p ∈ L) (hok : SameBut L s0 s) :
    SameBut L s0 (freeSpan a n s) := by
  unfold freeSpan
  repeat' first
    | with_reducible assumption
    | with_reducible exact .inl rfl
    | exact .inr (hL _ (by decide))
    | (extract_lets +onlyGivenNames x
       first
       | (refine sameStep (L := L) (s0 := s0) (x := x) (fun hx => ?_) ?_; clear_value x; rotate_left; subst x)
       | subst x)
    | with_reducible refine draw_frame (parts_sub (by decide) hL) ?_
    | intro _ _ _
    | intro _ _
    | intro _
    | (simp only [same_lit]; with_reducible refine SameLit.of ?_ ?_ ?_ ?_ ?_ ?_ ?_ ?_ ?_ ?_ ?_ ?_ ?_ ?_ ?_ ?_ ?_ ?_ ?_ ?_ ?_ ?_ ?_ ?_ ?_ ?_ ?_ ?_ ?_ ?_ ?_ ?_ ?_ ?_ ?_ ?_ ?_ ?_ ?_ ?_)
    | exact .inl rfl
    | dsimp only
    | dsimp only [id]

theorem freeRun_frame {L : List StatePart} {s0 : State} {r : Run} {s : State}
    (hL : ∀ p ∈ [StatePart.memory, .draws], p ∈ L) (hok : SameBut L s0 s) :
    SameBut L s0 (freeRun r s) := by
  unfold freeRun
  repeat' first
    | with_reducible assumption
    | with_reducible exact .inl rfl
    | exact .inr (hL _ (by decide))
    | (extract_lets +onlyGivenNames x
       first
       | (refine sameStep (L := L) (s0 := s0) (x := x) (fun hx => ?_) ?_; clear_value x; rotate_left; subst x)
       | (refine sameStep (L := L) (s0 := s0) (x := x.1) (fun hx => ?_) ?_; clear_value x; rotate_left; subst x)
       | subst x)
    | with_reducible refine SameBut.ite ?_ ?_
    | with_reducible refine freeSpan_frame (parts_sub (by decide) hL) ?_
    | with_reducible refine foldState_frame (fun _ _ _ => ?_) ?_
    | with_reducible refine SameBut.ofPair ?_ (by with_reducible assumption)
    | intro _ _ _
    | intro _ _
    | intro _
    | split
    | (simp only [same_lit]; with_reducible refine SameLit.of ?_ ?_ ?_ ?_ ?_ ?_ ?_ ?_ ?_ ?_ ?_ ?_ ?_ ?_ ?_ ?_ ?_ ?_ ?_ ?_ ?_ ?_ ?_ ?_ ?_ ?_ ?_ ?_ ?_ ?_ ?_ ?_ ?_ ?_ ?_ ?_ ?_ ?_ ?_ ?_)
    | exact .inl rfl
    | dsimp only
    | dsimp only [id]

theorem freeTile_frame {L : List StatePart} {s0 : State} {x : Cmd} {s : State}
    (hL : ∀ p ∈ [StatePart.memory, .draws], p ∈ L) (hok : SameBut L s0 s) :
    SameBut L s0 (freeTile x s) := by
  unfold freeTile
  repeat' first
    | with_reducible assumption
    | with_reducible exact .inl rfl
    | exact .inr (hL _ (by decide))
    | (extract_lets +onlyGivenNames x
       first
       | (refine sameStep (L := L) (s0 := s0) (x := x) (fun hx => ?_) ?_; clear_value x; rotate_left; subst x)
       | subst x)
    | with_reducible refine SameBut.ite ?_ ?_
    | with_reducible refine foldState_frame (fun _ _ _ => ?_) ?_
    | with_reducible refine freeRun_frame (parts_sub (by decide) hL) ?_
    | with_reducible refine SameBut.ofPair ?_ (by with_reducible assumption)
    | intro _ _ _
    | intro _ _
    | intro _
    | split
    | (simp only [same_lit]; with_reducible refine SameLit.of ?_ ?_ ?_ ?_ ?_ ?_ ?_ ?_ ?_ ?_ ?_ ?_ ?_ ?_ ?_ ?_ ?_ ?_ ?_ ?_ ?_ ?_ ?_ ?_ ?_ ?_ ?_ ?_ ?_ ?_ ?_ ?_ ?_ ?_ ?_ ?_ ?_ ?_ ?_ ?_)
    | exact .inl rfl
    | dsimp only
    | dsimp only [id]

theorem freeTransfer_frame {L : List StatePart} {s0 : State} {x : Cmd} {s : State}
    (hL : ∀ p ∈ [StatePart.memory, .draws], p ∈ L) (hok : SameBut L s0 s) :
    SameBut L s0 (freeTransfer x s) := by
  unfold freeTransfer
  repeat' first
    | with_reducible assumption
    | with_reducible exact .inl rfl
    | exact .inr (hL _ (by decide))
    | (extract_lets +onlyGivenNames x
       first
       | (refine sameStep (L := L) (s0 := s0) (x := x) (fun hx => ?_) ?_; clear_value x; rotate_left; subst x)
       | (refine sameStep (L := L) (s0 := s0) (x := x.1) (fun hx => ?_) ?_; clear_value x; rotate_left; subst x)
       | subst x)
    | with_reducible refine SameBut.ite ?_ ?_
    | with_reducible refine foldState_frame (fun _ _ _ => ?_) ?_
    | with_reducible refine freeSpan_frame (parts_sub (by decide) hL) ?_
    | with_reducible refine SameBut.ofPair ?_ (by with_reducible assumption)
    | intro _ _ _
    | intro _ _
    | intro _
    | split
    | (simp only [same_lit]; with_reducible refine SameLit.of ?_ ?_ ?_ ?_ ?_ ?_ ?_ ?_ ?_ ?_ ?_ ?_ ?_ ?_ ?_ ?_ ?_ ?_ ?_ ?_ ?_ ?_ ?_ ?_ ?_ ?_ ?_ ?_ ?_ ?_ ?_ ?_ ?_ ?_ ?_ ?_ ?_ ?_ ?_ ?_)
    | exact .inl rfl
    | dsimp only
    | dsimp only [id]

theorem dropCmds_frame {L : List StatePart} {s0 : State} {whole : Bool} {c : CtxId} {s : State}
    (hL : ∀ p ∈ [StatePart.cmds, .engines, .peers, .windows, .memory, .draws, .out], p ∈ L) (hok : SameBut L s0 s) :
    SameBut L s0 (dropCmds whole c s) := by
  unfold dropCmds
  repeat' first
    | with_reducible assumption
    | with_reducible exact .inl rfl
    | exact .inr (hL _ (by decide))
    | (extract_lets +onlyGivenNames x
       first
       | (refine sameStep (L := L) (s0 := s0) (x := x) (fun hx => ?_) ?_; clear_value x; rotate_left; subst x)
       | subst x)
    | with_reducible refine SameBut.ite ?_ ?_
    | with_reducible refine foldState_frame (fun _ _ _ => ?_) ?_
    | with_reducible refine freeTransfer_frame (parts_sub (by decide) hL) ?_
    | with_reducible refine freeTile_frame (parts_sub (by decide) hL) ?_
    | with_reducible refine drainTag_frame (parts_sub (by decide) hL) ?_
    | with_reducible refine abandonCredit_frame (parts_sub (by decide) hL) ?_
    | with_reducible refine stopWork_frame (parts_sub (by decide) hL) ?_
    | intro _ _ _
    | intro _ _
    | intro _
    | split
    | (simp only [same_lit]; with_reducible refine SameLit.of ?_ ?_ ?_ ?_ ?_ ?_ ?_ ?_ ?_ ?_ ?_ ?_ ?_ ?_ ?_ ?_ ?_ ?_ ?_ ?_ ?_ ?_ ?_ ?_ ?_ ?_ ?_ ?_ ?_ ?_ ?_ ?_ ?_ ?_ ?_ ?_ ?_ ?_ ?_ ?_)
    | exact .inl rfl
    | dsimp only
    | dsimp only [id]

theorem dropLookups_frame {L : List StatePart} {s0 : State} {c : CtxId} {s : State}
    (hL : ∀ p ∈ [StatePart.lookups, .det, .out], p ∈ L) (hok : SameBut L s0 s) :
    SameBut L s0 (dropLookups c s) := by
  unfold dropLookups
  repeat' first
    | with_reducible assumption
    | with_reducible exact .inl rfl
    | exact .inr (hL _ (by decide))
    | (extract_lets +onlyGivenNames x
       first
       | (refine sameStep (L := L) (s0 := s0) (x := x) (fun hx => ?_) ?_; clear_value x; rotate_left; subst x)
       | (refine sameStep (L := L) (s0 := s0) (x := x.1) (fun hx => ?_) ?_; clear_value x; rotate_left; subst x)
       | subst x)
    | with_reducible refine foldState_frame (fun _ _ _ => ?_) ?_
    | with_reducible refine emit_frame (parts_sub (by decide) hL) ?_
    | with_reducible refine SameBut.ofPair ?_ (by with_reducible assumption)
    | intro _ _ _
    | intro _ _
    | intro _
    | split
    | (simp only [same_lit]; with_reducible refine SameLit.of ?_ ?_ ?_ ?_ ?_ ?_ ?_ ?_ ?_ ?_ ?_ ?_ ?_ ?_ ?_ ?_ ?_ ?_ ?_ ?_ ?_ ?_ ?_ ?_ ?_ ?_ ?_ ?_ ?_ ?_ ?_ ?_ ?_ ?_ ?_ ?_ ?_ ?_ ?_ ?_)
    | exact .inl rfl
    | dsimp only
    | dsimp only [id]

theorem abortContext_frame {L : List StatePart} {s0 : State} {c : CtxId} {destroyer : Option AdminRef} {s : State}
    (hL : ∀ p ∈ [StatePart.counters, .requests, .int, .ctxs, .cmds, .engines, .lookups, .peers, .windows, .memory, .det, .draws, .out], p ∈ L) (hok : SameBut L s0 s) :
    SameBut L s0 (abortContext c destroyer s) := by
  unfold abortContext
  repeat' first
    | with_reducible assumption
    | with_reducible exact .inl rfl
    | exact .inr (hL _ (by decide))
    | (extract_lets +onlyGivenNames x
       first
       | (refine sameStep (L := L) (s0 := s0) (x := x) (fun hx => ?_) ?_; clear_value x; rotate_left; subst x)
       | subst x)
    | with_reducible refine SameBut.ite ?_ ?_
    | with_reducible refine modCtx_frame (parts_sub (by decide) hL) ?_
    | with_reducible refine dropCmds_frame (parts_sub (by decide) hL) ?_
    | with_reducible refine quarantine_frame (parts_sub (by decide) hL) ?_
    | with_reducible refine dropLookups_frame (parts_sub (by decide) hL) ?_
    | with_reducible refine revokeCtxLeases_frame (parts_sub (by decide) hL) ?_
    | with_reducible refine startScan_frame (parts_sub (by decide) hL) ?_
    | with_reducible refine SameBut.ofPair ?_ (by with_reducible assumption)
    | intro _ _ _
    | intro _ _
    | intro _
    | split
    | (simp only [same_lit]; with_reducible refine SameLit.of ?_ ?_ ?_ ?_ ?_ ?_ ?_ ?_ ?_ ?_ ?_ ?_ ?_ ?_ ?_ ?_ ?_ ?_ ?_ ?_ ?_ ?_ ?_ ?_ ?_ ?_ ?_ ?_ ?_ ?_ ?_ ?_ ?_ ?_ ?_ ?_ ?_ ?_ ?_ ?_)
    | exact .inl rfl
    | dsimp only
    | dsimp only [id]

theorem discardFaults_frame {L : List StatePart} {s0 : State} {c : CtxId} {g : Fun} {s : State}
    (hL : ∀ p ∈ [StatePart.faultq], p ∈ L) (hok : SameBut L s0 s) :
    SameBut L s0 (discardFaults c g s) := by
  unfold discardFaults
  repeat' first
    | with_reducible assumption
    | with_reducible exact .inl rfl
    | exact .inr (hL _ (by decide))
    | (extract_lets +onlyGivenNames x
       first
       | (refine sameStep (L := L) (s0 := s0) (x := x) (fun hx => ?_) ?_; clear_value x; rotate_left; subst x)
       | subst x)
    | with_reducible refine modFaultq_frame (parts_sub (by decide) hL) ?_
    | intro _ _ _
    | intro _ _
    | intro _
    | (simp only [same_lit]; with_reducible refine SameLit.of ?_ ?_ ?_ ?_ ?_ ?_ ?_ ?_ ?_ ?_ ?_ ?_ ?_ ?_ ?_ ?_ ?_ ?_ ?_ ?_ ?_ ?_ ?_ ?_ ?_ ?_ ?_ ?_ ?_ ?_ ?_ ?_ ?_ ?_ ?_ ?_ ?_ ?_ ?_ ?_)
    | exact .inl rfl
    | dsimp only
    | dsimp only [id]

theorem destroyContext_frame {L : List StatePart} {s0 : State} {c : CtxId} {s : State}
    (hL : ∀ p ∈ [StatePart.od, .stored, .counters, .mgmt, .links, .intx, .fnCfg, .admin, .faultq, .int, .capture, .ctxs, .objs, .slots, .cmds, .engines, .lookups, .peers, .windows, .coherence, .memory, .err, .power, .out], p ∈ L) (hok : SameBut L s0 s) :
    SameBut L s0 (destroyContext c s) := by
  unfold destroyContext
  repeat' first
    | with_reducible assumption
    | with_reducible exact .inl rfl
    | exact .inr (hL _ (by decide))
    | (extract_lets +onlyGivenNames x
       first
       | (refine sameStep (L := L) (s0 := s0) (x := x) (fun hx => ?_) ?_; clear_value x; rotate_left; subst x)
       | (refine sameStep (L := L) (s0 := s0) (x := x.1) (fun hx => ?_) ?_; clear_value x; rotate_left; subst x)
       | subst x)
    | with_reducible refine discardFaults_frame (parts_sub (by decide) hL) ?_
    | with_reducible refine foldState_frame (fun _ _ _ => ?_) ?_
    | with_reducible refine freeStart_frame (parts_sub (by decide) hL) ?_
    | with_reducible refine writeBack_frame (parts_sub (by decide) hL) ?_
    | with_reducible refine adminDone_frame (parts_sub (by decide) hL) ?_
    | with_reducible refine SameBut.ofPair ?_ (by with_reducible assumption)
    | intro _ _ _
    | intro _ _
    | intro _
    | split
    | (simp only [same_lit]; with_reducible refine SameLit.of ?_ ?_ ?_ ?_ ?_ ?_ ?_ ?_ ?_ ?_ ?_ ?_ ?_ ?_ ?_ ?_ ?_ ?_ ?_ ?_ ?_ ?_ ?_ ?_ ?_ ?_ ?_ ?_ ?_ ?_ ?_ ?_ ?_ ?_ ?_ ?_ ?_ ?_ ?_ ?_)
    | exact .inl rfl
    | dsimp only
    | dsimp only [id]


/-! ### Machine/Walkers.lean -/

theorem stallLookup_frame {L : List StatePart} {s0 : State} {who : Who} {va : Nat} {need : Need} {s : State}
    (hL : ∀ p ∈ [StatePart.lookups], p ∈ L) (hok : SameBut L s0 s) :
    SameBut L s0 (stallLookup who va need s) := by
  unfold stallLookup
  repeat' first
    | with_reducible assumption
    | with_reducible exact .inl rfl
    | exact .inr (hL _ (by decide))
    | (extract_lets +onlyGivenNames x
       first
       | (refine sameStep (L := L) (s0 := s0) (x := x) (fun hx => ?_) ?_; clear_value x; rotate_left; subst x)
       | subst x)
    | intro _ _ _
    | intro _ _
    | intro _
    | (simp only [same_lit]; with_reducible refine SameLit.of ?_ ?_ ?_ ?_ ?_ ?_ ?_ ?_ ?_ ?_ ?_ ?_ ?_ ?_ ?_ ?_ ?_ ?_ ?_ ?_ ?_ ?_ ?_ ?_ ?_ ?_ ?_ ?_ ?_ ?_ ?_ ?_ ?_ ?_ ?_ ?_ ?_ ?_ ?_ ?_)
    | exact .inl rfl
    | dsimp only
    | dsimp only [id]

theorem walkPoisoned_frame {L : List StatePart} {s0 : State} {who : Who} {va : Nat} {s : State}
    (hL : ∀ p ∈ [StatePart.od, .stored, .counters, .mgmt, .links, .intx, .fnCfg, .int, .capture, .ctxs, .cmds, .engines, .lookups, .peers, .windows, .err, .power, .out], p ∈ L) (hok : SameBut L s0 s) :
    SameBut L s0 (walkPoisoned who va s) := by
  unfold walkPoisoned
  repeat' first
    | with_reducible assumption
    | with_reducible exact .inl rfl
    | exact .inr (hL _ (by decide))
    | (extract_lets +onlyGivenNames x
       first
       | (refine sameStep (L := L) (s0 := s0) (x := x) (fun hx => ?_) ?_; clear_value x; rotate_left; subst x)
       | subst x)
    | with_reducible refine loseContext_frame (parts_sub (by decide) hL) ?_
    | with_reducible refine SameBut.ofPair ?_ (by with_reducible assumption)
    | intro _ _ _
    | intro _ _
    | intro _
    | split
    | (simp only [same_lit]; with_reducible refine SameLit.of ?_ ?_ ?_ ?_ ?_ ?_ ?_ ?_ ?_ ?_ ?_ ?_ ?_ ?_ ?_ ?_ ?_ ?_ ?_ ?_ ?_ ?_ ?_ ?_ ?_ ?_ ?_ ?_ ?_ ?_ ?_ ?_ ?_ ?_ ?_ ?_ ?_ ?_ ?_ ?_)
    | exact .inl rfl
    | dsimp only
    | dsimp only [id]

theorem answerLookup_frame {L : List StatePart} {s0 : State} {who : Who} {va : Nat} {need : Need} {r : Except TOut REntry} {s : State}
    (hL : ∀ p ∈ [StatePart.od, .stored, .counters, .mgmt, .links, .intx, .fnCfg, .int, .capture, .ctxs, .cmds, .engines, .lookups, .peers, .windows, .err, .power, .out], p ∈ L) (hok : SameBut L s0 s) :
    SameBut L s0 (answerLookup who va need r s) := by
  unfold answerLookup
  repeat' first
    | with_reducible assumption
    | with_reducible exact .inl rfl
    | exact .inr (hL _ (by decide))
    | (extract_lets +onlyGivenNames x
       first
       | (refine sameStep (L := L) (s0 := s0) (x := x) (fun hx => ?_) ?_; clear_value x; rotate_left; subst x)
       | subst x)
    | with_reducible refine emit_frame (parts_sub (by decide) hL) ?_
    | with_reducible refine stallLookup_frame (parts_sub (by decide) hL) ?_
    | with_reducible refine walkPoisoned_frame (parts_sub (by decide) hL) ?_
    | with_reducible refine SameBut.ofPair ?_ (by with_reducible assumption)
    | intro _ _ _
    | intro _ _
    | intro _
    | split
    | (simp only [same_lit]; with_reducible refine SameLit.of ?_ ?_ ?_ ?_ ?_ ?_ ?_ ?_ ?_ ?_ ?_ ?_ ?_ ?_ ?_ ?_ ?_ ?_ ?_ ?_ ?_ ?_ ?_ ?_ ?_ ?_ ?_ ?_ ?_ ?_ ?_ ?_ ?_ ?_ ?_ ?_ ?_ ?_ ?_ ?_)
    | exact .inl rfl
    | dsimp only
    | dsimp only [id]

theorem startWalk_frame {L : List StatePart} {s0 : State} {who : Who} {a : Asker} {va : Nat} {need : Need} {s : State}
    (hL : ∀ p ∈ [StatePart.counters, .int, .lookups], p ∈ L) (hok : SameBut L s0 s) :
    SameBut L s0 (startWalk who a va need s) := by
  unfold startWalk
  repeat' first
    | with_reducible assumption
    | with_reducible refine SameBut.ite ?_ ?_
    | with_reducible refine joinWalk_frame (parts_sub (by decide) hL) ?_
    | with_reducible refine stallLookup_frame (parts_sub (by decide) hL) ?_
    | with_reducible refine countPackage_frame (parts_sub (by decide) hL) ?_
    | with_reducible refine putWalk_frame (parts_sub (by decide) hL) ?_
    | intro _ _ _
    | intro _ _
    | intro _
    | split
    | dsimp only
    | dsimp only [id]

theorem lookupOf_frame {L : List StatePart} {s0 : State} {who : Who} {va : Nat} {need : Need} {s : State}
    (hL : ∀ p ∈ [StatePart.od, .stored, .counters, .mgmt, .links, .intx, .fnCfg, .int, .capture, .ctxs, .cmds, .engines, .entries, .lookups, .peers, .windows, .coherence, .err, .power, .out], p ∈ L) (hok : SameBut L s0 s) :
    SameBut L s0 (lookupOf who va need s) := by
  unfold lookupOf
  repeat' first
    | with_reducible assumption
    | with_reducible exact .inl rfl
    | exact .inr (hL _ (by decide))
    | (extract_lets +onlyGivenNames x
       first
       | (refine sameStep (L := L) (s0 := s0) (x := x) (fun hx => ?_) ?_; clear_value x; rotate_left; subst x)
       | (refine sameStep (L := L) (s0 := s0) (x := x.1) (fun hx => ?_) ?_; clear_value x; rotate_left; subst x)
       | subst x)
    | with_reducible refine SameBut.ite ?_ ?_
    | with_reducible refine emit_frame (parts_sub (by decide) hL) ?_
    | with_reducible refine translate_frame (parts_sub (by decide) hL) ?_
    | with_reducible refine answerLookup_frame (parts_sub (by decide) hL) ?_
    | with_reducible refine startWalk_frame (parts_sub (by decide) hL) ?_
    | with_reducible refine SameBut.ofPair ?_ (by with_reducible assumption)
    | intro _ _ _
    | intro _ _
    | intro _
    | split
    | (simp only [same_lit]; with_reducible refine SameLit.of ?_ ?_ ?_ ?_ ?_ ?_ ?_ ?_ ?_ ?_ ?_ ?_ ?_ ?_ ?_ ?_ ?_ ?_ ?_ ?_ ?_ ?_ ?_ ?_ ?_ ?_ ?_ ?_ ?_ ?_ ?_ ?_ ?_ ?_ ?_ ?_ ?_ ?_ ?_ ?_)
    | exact .inl rfl
    | dsimp only
    | dsimp only [id]

theorem lookup_frame {L : List StatePart} {s0 : State} {c : CtxId} {va : Nat} {need : Need} {s : State}
    (hL : ∀ p ∈ [StatePart.od, .stored, .counters, .mgmt, .links, .intx, .fnCfg, .int, .capture, .ctxs, .cmds, .engines, .entries, .lookups, .peers, .windows, .coherence, .err, .power, .out], p ∈ L) (hok : SameBut L s0 s) :
    SameBut L s0 (lookup c va need s) := by
  unfold lookup
  repeat' first
    | with_reducible assumption
    | with_reducible refine lookupOf_frame (parts_sub (by decide) hL) ?_
    | intro _ _ _
    | intro _ _
    | intro _
    | dsimp only
    | dsimp only [id]

theorem serveStalled_frame {L : List StatePart} {s0 : State} {s : State}
    (hL : ∀ p ∈ [StatePart.od, .stored, .counters, .mgmt, .links, .intx, .fnCfg, .int, .capture, .ctxs, .cmds, .engines, .entries, .lookups, .peers, .windows, .coherence, .err, .power, .out], p ∈ L) (hok : SameBut L s0 s) :
    SameBut L s0 (serveStalled s) := by
  unfold serveStalled
  repeat' first
    | with_reducible assumption
    | with_reducible exact .inl rfl
    | exact .inr (hL _ (by decide))
    | (extract_lets +onlyGivenNames x
       first
       | (refine sameStep (L := L) (s0 := s0) (x := x) (fun hx => ?_) ?_; clear_value x; rotate_left; subst x)
       | (refine sameStep (L := L) (s0 := s0) (x := x.1) (fun hx => ?_) ?_; clear_value x; rotate_left; subst x)
       | subst x)
    | with_reducible refine foldState_frame (fun _ _ _ => ?_) ?_
    | with_reducible refine lookupOf_frame (parts_sub (by decide) hL) ?_
    | intro _ _ _
    | intro _ _
    | intro _
    | (simp only [same_lit]; with_reducible refine SameLit.of ?_ ?_ ?_ ?_ ?_ ?_ ?_ ?_ ?_ ?_ ?_ ?_ ?_ ?_ ?_ ?_ ?_ ?_ ?_ ?_ ?_ ?_ ?_ ?_ ?_ ?_ ?_ ?_ ?_ ?_ ?_ ?_ ?_ ?_ ?_ ?_ ?_ ?_ ?_ ?_)
    | exact .inl rfl
    | dsimp only
    | dsimp only [id]

theorem modWalk_frame {L : List StatePart} {s0 : State} {id : Nat} {f : Walk → Walk} {s : State}
    (hL : ∀ p ∈ [StatePart.lookups], p ∈ L) (hok : SameBut L s0 s) :
    SameBut L s0 (modWalk id f s) := by
  unfold modWalk
  repeat' first
    | with_reducible assumption
    | with_reducible exact .inl rfl
    | exact .inr (hL _ (by decide))
    | (extract_lets +onlyGivenNames x
       first
       | (refine sameStep (L := L) (s0 := s0) (x := x) (fun hx => ?_) ?_; clear_value x; rotate_left; subst x)
       | subst x)
    | with_reducible refine SameBut.ite ?_ ?_
    | intro _ _ _
    | intro _ _
    | intro _
    | split
    | (simp only [same_lit]; with_reducible refine SameLit.of ?_ ?_ ?_ ?_ ?_ ?_ ?_ ?_ ?_ ?_ ?_ ?_ ?_ ?_ ?_ ?_ ?_ ?_ ?_ ?_ ?_ ?_ ?_ ?_ ?_ ?_ ?_ ?_ ?_ ?_ ?_ ?_ ?_ ?_ ?_ ?_ ?_ ?_ ?_ ?_)
    | exact .inl rfl
    | dsimp only
    | dsimp only [id]

theorem dropWalk_frame {L : List StatePart} {s0 : State} {id : Nat} {s : State}
    (hL : ∀ p ∈ [StatePart.lookups], p ∈ L) (hok : SameBut L s0 s) :
    SameBut L s0 (dropWalk id s) := by
  unfold dropWalk
  repeat' first
    | with_reducible assumption
    | with_reducible exact .inl rfl
    | exact .inr (hL _ (by decide))
    | (extract_lets +onlyGivenNames x
       first
       | (refine sameStep (L := L) (s0 := s0) (x := x) (fun hx => ?_) ?_; clear_value x; rotate_left; subst x)
       | subst x)
    | intro _ _ _
    | intro _ _
    | intro _
    | (simp only [same_lit]; with_reducible refine SameLit.of ?_ ?_ ?_ ?_ ?_ ?_ ?_ ?_ ?_ ?_ ?_ ?_ ?_ ?_ ?_ ?_ ?_ ?_ ?_ ?_ ?_ ?_ ?_ ?_ ?_ ?_ ?_ ?_ ?_ ?_ ?_ ?_ ?_ ?_ ?_ ?_ ?_ ?_ ?_ ?_)
    | exact .inl rfl
    | dsimp only
    | dsimp only [id]

theorem walkEnds_frame {L : List StatePart} {s0 : State} {w : Walk} {a : Asker} {e : TOut} {s : State}
    (hL : ∀ p ∈ [StatePart.od, .stored, .counters, .mgmt, .links, .intx, .fnCfg, .int, .capture, .ctxs, .cmds, .engines, .lookups, .peers, .windows, .err, .power, .out], p ∈ L) (hok : SameBut L s0 s) :
    SameBut L s0 (walkEnds w a e s) := by
  unfold walkEnds
  repeat' first
    | with_reducible assumption
    | with_reducible exact .inl rfl
    | exact .inr (hL _ (by decide))
    | (extract_lets +onlyGivenNames x
       first
       | (refine sameStep (L := L) (s0 := s0) (x := x) (fun hx => ?_) ?_; clear_value x; rotate_left; subst x)
       | (refine sameStep (L := L) (s0 := s0) (x := x.1) (fun hx => ?_) ?_; clear_value x; rotate_left; subst x)
       | subst x)
    | with_reducible refine SameBut.ite ?_ ?_
    | with_reducible refine foldState_frame (fun _ _ _ => ?_) ?_
    | with_reducible refine answerLookup_frame (parts_sub (by decide) hL) ?_
    | with_reducible refine countFault_frame (parts_sub (by decide) hL) ?_
    | with_reducible refine dropWalk_frame (parts_sub (by decide) hL) ?_
    | intro _ _ _
    | intro _ _
    | intro _
    | split
    | (simp only [same_lit]; with_reducible refine SameLit.of ?_ ?_ ?_ ?_ ?_ ?_ ?_ ?_ ?_ ?_ ?_ ?_ ?_ ?_ ?_ ?_ ?_ ?_ ?_ ?_ ?_ ?_ ?_ ?_ ?_ ?_ ?_ ?_ ?_ ?_ ?_ ?_ ?_ ?_ ?_ ?_ ?_ ?_ ?_ ?_)
    | exact .inl rfl
    | dsimp only
    | dsimp only [id]

theorem repeatLookups_frame {L : List StatePart} {s0 : State} {w : Walk} {s : State}
    (hL : ∀ p ∈ [StatePart.od, .stored, .counters, .mgmt, .links, .intx, .fnCfg, .int, .capture, .ctxs, .cmds, .engines, .entries, .lookups, .peers, .windows, .coherence, .err, .power, .out], p ∈ L) (hok : SameBut L s0 s) :
    SameBut L s0 (repeatLookups w s) := by
  unfold repeatLookups
  repeat' first
    | with_reducible assumption
    | with_reducible refine SameBut.ite ?_ ?_
    | with_reducible refine foldState_frame (fun _ _ _ => ?_) ?_
    | with_reducible refine lookupOf_frame (parts_sub (by decide) hL) ?_
    | intro _ _ _
    | intro _ _
    | intro _
    | split
    | dsimp only
    | dsimp only [id]

theorem walkFinds_frame {L : List StatePart} {s0 : State} {w : Walk} {a : Asker} {r : RangeEnt} {s : State}
    (hL : ∀ p ∈ [StatePart.od, .stored, .counters, .mgmt, .links, .intx, .fnCfg, .int, .capture, .ctxs, .cmds, .engines, .entries, .lookups, .peers, .windows, .coherence, .err, .power, .out], p ∈ L) (hok : SameBut L s0 s) :
    SameBut L s0 (walkFinds w a r s) := by
  unfold walkFinds
  repeat' first
    | with_reducible assumption
    | with_reducible exact .inl rfl
    | exact .inr (hL _ (by decide))
    | (extract_lets +onlyGivenNames x
       first
       | (refine sameStep (L := L) (s0 := s0) (x := x) (fun hx => ?_) ?_; clear_value x; rotate_left; subst x)
       | subst x)
    | with_reducible refine walkEnds_frame (parts_sub (by decide) hL) ?_
    | with_reducible refine repeatLookups_frame (parts_sub (by decide) hL) ?_
    | with_reducible refine install_frame (parts_sub (by decide) hL) ?_
    | with_reducible refine dropWalk_frame (parts_sub (by decide) hL) ?_
    | with_reducible refine beginReplace_frame (parts_sub (by decide) hL) ?_
    | with_reducible refine modWalk_frame (parts_sub (by decide) hL) ?_
    | with_reducible refine SameBut.ofPair ?_ (by with_reducible assumption)
    | intro _ _ _
    | intro _ _
    | intro _
    | split
    | (simp only [same_lit]; with_reducible refine SameLit.of ?_ ?_ ?_ ?_ ?_ ?_ ?_ ?_ ?_ ?_ ?_ ?_ ?_ ?_ ?_ ?_ ?_ ?_ ?_ ?_ ?_ ?_ ?_ ?_ ?_ ?_ ?_ ?_ ?_ ?_ ?_ ?_ ?_ ?_ ?_ ?_ ?_ ?_ ?_ ?_)
    | exact .inl rfl
    | dsimp only
    | dsimp only [id]

theorem walkAgain_frame {L : List StatePart} {s0 : State} {w : Walk} {a : Asker} {s : State}
    (hL : ∀ p ∈ [StatePart.lookups], p ∈ L) (hok : SameBut L s0 s) :
    SameBut L s0 (walkAgain w a s) := by
  unfold walkAgain
  repeat' first
    | with_reducible assumption
    | with_reducible exact .inl rfl
    | exact .inr (hL _ (by decide))
    | (extract_lets +onlyGivenNames x
       first
       | (refine sameStep (L := L) (s0 := s0) (x := x) (fun hx => ?_) ?_; clear_value x; rotate_left; subst x)
       | subst x)
    | with_reducible refine modWalk_frame (parts_sub (by decide) hL) ?_
    | intro _ _ _
    | intro _ _
    | intro _
    | (simp only [same_lit]; with_reducible refine SameLit.of ?_ ?_ ?_ ?_ ?_ ?_ ?_ ?_ ?_ ?_ ?_ ?_ ?_ ?_ ?_ ?_ ?_ ?_ ?_ ?_ ?_ ?_ ?_ ?_ ?_ ?_ ?_ ?_ ?_ ?_ ?_ ?_ ?_ ?_ ?_ ?_ ?_ ?_ ?_ ?_)
    | exact .inl rfl
    | dsimp only
    | dsimp only [id]

theorem tryInstall_frame {L : List StatePart} {s0 : State} {w : Walk} {s : State}
    (hL : ∀ p ∈ [StatePart.od, .stored, .counters, .mgmt, .links, .intx, .fnCfg, .int, .capture, .ctxs, .cmds, .engines, .entries, .lookups, .peers, .windows, .coherence, .err, .power, .out], p ∈ L) (hok : SameBut L s0 s) :
    SameBut L s0 (tryInstall w s) := by
  unfold tryInstall
  repeat' first
    | with_reducible assumption
    | with_reducible exact .inl rfl
    | exact .inr (hL _ (by decide))
    | (extract_lets +onlyGivenNames x
       first
       | (refine sameStep (L := L) (s0 := s0) (x := x) (fun hx => ?_) ?_; clear_value x; rotate_left; subst x)
       | subst x)
    | with_reducible refine SameBut.ite ?_ ?_
    | with_reducible refine install_frame (parts_sub (by decide) hL) ?_
    | with_reducible refine walkEnds_frame (parts_sub (by decide) hL) ?_
    | with_reducible refine walkAgain_frame (parts_sub (by decide) hL) ?_
    | with_reducible refine repeatLookups_frame (parts_sub (by decide) hL) ?_
    | with_reducible refine installOver_frame (parts_sub (by decide) hL) ?_
    | with_reducible refine dropWalk_frame (parts_sub (by decide) hL) ?_
    | with_reducible refine SameBut.ofPair ?_ (by with_reducible assumption)
    | intro _ _ _
    | intro _ _
    | intro _
    | split
    | (simp only [same_lit]; with_reducible refine SameLit.of ?_ ?_ ?_ ?_ ?_ ?_ ?_ ?_ ?_ ?_ ?_ ?_ ?_ ?_ ?_ ?_ ?_ ?_ ?_ ?_ ?_ ?_ ?_ ?_ ?_ ?_ ?_ ?_ ?_ ?_ ?_ ?_ ?_ ?_ ?_ ?_ ?_ ?_ ?_ ?_)
    | exact .inl rfl
    | dsimp only
    | dsimp only [id]

theorem leasesEnded_frame {L : List StatePart} {s0 : State} {s : State}
    (hL : ∀ p ∈ [StatePart.od, .stored, .counters, .mgmt, .links, .intx, .fnCfg, .int, .capture, .ctxs, .cmds, .engines, .entries, .lookups, .peers, .windows, .coherence, .err, .power, .out], p ∈ L) (hok : SameBut L s0 s) :
    SameBut L s0 (leasesEnded s) := by
  unfold leasesEnded
  repeat' first
    | with_reducible assumption
    | with_reducible refine foldState_frame (fun _ _ _ => ?_) ?_
    | with_reducible refine tryInstall_frame (parts_sub (by decide) hL) ?_
    | intro _ _ _
    | intro _ _
    | intro _
    | dsimp only
    | dsimp only [id]

theorem walkOn_frame {L : List StatePart} {s0 : State} {w : Walk} {a : Asker} {b : Bytes} {level high : Nat} {s : State}
    (hL : ∀ p ∈ [StatePart.od, .stored, .counters, .mgmt, .links, .intx, .fnCfg, .int, .capture, .ctxs, .cmds, .engines, .entries, .lookups, .peers, .windows, .coherence, .err, .power, .out], p ∈ L) (hok : SameBut L s0 s) :
    SameBut L s0 (walkOn w a b level high s) := by
  unfold walkOn
  repeat' first
    | with_reducible assumption
    | with_reducible exact .inl rfl
    | exact .inr (hL _ (by decide))
    | (extract_lets +onlyGivenNames x
       first
       | (refine sameStep (L := L) (s0 := s0) (x := x) (fun hx => ?_) ?_; clear_value x; rotate_left; subst x)
       | subst x)
    | with_reducible refine SameBut.ite ?_ ?_
    | with_reducible refine walkFinds_frame (parts_sub (by decide) hL) ?_
    | with_reducible refine walkEnds_frame (parts_sub (by decide) hL) ?_
    | with_reducible refine modWalk_frame (parts_sub (by decide) hL) ?_
    | with_reducible refine SameBut.ofPair ?_ (by with_reducible assumption)
    | intro _ _ _
    | intro _ _
    | intro _
    | split
    | (simp only [same_lit]; with_reducible refine SameLit.of ?_ ?_ ?_ ?_ ?_ ?_ ?_ ?_ ?_ ?_ ?_ ?_ ?_ ?_ ?_ ?_ ?_ ?_ ?_ ?_ ?_ ?_ ?_ ?_ ?_ ?_ ?_ ?_ ?_ ?_ ?_ ?_ ?_ ?_ ?_ ?_ ?_ ?_ ?_ ?_)
    | exact .inl rfl
    | dsimp only
    | dsimp only [id]

theorem walkBad_frame {L : List StatePart} {s0 : State} {w : Walk} {a : Asker} {s : State}
    (hL : ∀ p ∈ [StatePart.od, .stored, .counters, .mgmt, .links, .intx, .fnCfg, .int, .capture, .ctxs, .cmds, .engines, .lookups, .peers, .windows, .err, .power, .out], p ∈ L) (hok : SameBut L s0 s) :
    SameBut L s0 (walkBad w a s) := by
  unfold walkBad
  repeat' first
    | with_reducible assumption
    | with_reducible refine walkEnds_frame (parts_sub (by decide) hL) ?_
    | with_reducible refine countPackage_frame (parts_sub (by decide) hL) ?_
    | intro _ _ _
    | intro _ _
    | intro _
    | dsimp only
    | dsimp only [id]

theorem nodeRead_frame {L : List StatePart} {s0 : State} {w : Walk} {s : State}
    (hL : ∀ p ∈ [StatePart.od, .stored, .counters, .mgmt, .links, .intx, .fnCfg, .int, .capture, .ctxs, .cmds, .engines, .entries, .lookups, .peers, .windows, .coherence, .err, .power, .out], p ∈ L) (hok : SameBut L s0 s) :
    SameBut L s0 (nodeRead w s) := by
  unfold nodeRead
  repeat' first
    | with_reducible assumption
    | with_reducible exact .inl rfl
    | exact .inr (hL _ (by decide))
    | (extract_lets +onlyGivenNames x
       first
       | (refine sameStep (L := L) (s0 := s0) (x := x) (fun hx => ?_) ?_; clear_value x; rotate_left; subst x)
       | subst x)
    | with_reducible refine SameBut.ite ?_ ?_
    | with_reducible refine walkEnds_frame (parts_sub (by decide) hL) ?_
    | with_reducible refine walkAgain_frame (parts_sub (by decide) hL) ?_
    | with_reducible refine walkBad_frame (parts_sub (by decide) hL) ?_
    | with_reducible refine gateSnoops_frame (parts_sub (by decide) hL) ?_
    | with_reducible refine countPackage_frame (parts_sub (by decide) hL) ?_
    | with_reducible refine walkOn_frame (parts_sub (by decide) hL) ?_
    | with_reducible refine modWalk_frame (parts_sub (by decide) hL) ?_
    | with_reducible refine install_frame (parts_sub (by decide) hL) ?_
    | with_reducible refine SameBut.ofPair ?_ (by with_reducible assumption)
    | intro _ _ _
    | intro _ _
    | intro _
    | split
    | (simp only [same_lit]; with_reducible refine SameLit.of ?_ ?_ ?_ ?_ ?_ ?_ ?_ ?_ ?_ ?_ ?_ ?_ ?_ ?_ ?_ ?_ ?_ ?_ ?_ ?_ ?_ ?_ ?_ ?_ ?_ ?_ ?_ ?_ ?_ ?_ ?_ ?_ ?_ ?_ ?_ ?_ ?_ ?_ ?_ ?_)
    | exact .inl rfl
    | dsimp only
    | dsimp only [id]

theorem walkStep_frame {L : List StatePart} {s0 : State} {w : Walk} {s : State}
    (hL : ∀ p ∈ [StatePart.od, .stored, .counters, .mgmt, .links, .intx, .fnCfg, .int, .capture, .ctxs, .cmds, .engines, .entries, .lookups, .peers, .windows, .coherence, .err, .power, .out], p ∈ L) (hok : SameBut L s0 s) :
    SameBut L s0 (walkStep w s) := by
  unfold walkStep
  repeat' first
    | with_reducible assumption
    | with_reducible exact .inl rfl
    | exact .inr (hL _ (by decide))
    | (extract_lets +onlyGivenNames x
       first
       | (refine sameStep (L := L) (s0 := s0) (x := x) (fun hx => ?_) ?_; clear_value x; rotate_left; subst x)
       | subst x)
    | with_reducible refine install_frame (parts_sub (by decide) hL) ?_
    | with_reducible refine tryInstall_frame (parts_sub (by decide) hL) ?_
    | with_reducible refine nodeRead_frame (parts_sub (by decide) hL) ?_
    | with_reducible refine SameBut.ofPair ?_ (by with_reducible assumption)
    | intro _ _ _
    | intro _ _
    | intro _
    | split
    | (simp only [same_lit]; with_reducible refine SameLit.of ?_ ?_ ?_ ?_ ?_ ?_ ?_ ?_ ?_ ?_ ?_ ?_ ?_ ?_ ?_ ?_ ?_ ?_ ?_ ?_ ?_ ?_ ?_ ?_ ?_ ?_ ?_ ?_ ?_ ?_ ?_ ?_ ?_ ?_ ?_ ?_ ?_ ?_ ?_ ?_)
    | exact .inl rfl
    | dsimp only
    | dsimp only [id]


/-! ### Machine/Events.lean -/

theorem setRing_frame {L : List StatePart} {s0 : State} {g : Fun} {r : Nat} {x : Ring} {s : State}
    (hL : ∀ p ∈ [StatePart.int], p ∈ L) (hok : SameBut L s0 s) :
    SameBut L s0 (setRing g r x s) := by
  unfold setRing
  repeat' first
    | with_reducible assumption
    | with_reducible exact .inl rfl
    | exact .inr (hL _ (by decide))
    | (extract_lets +onlyGivenNames x
       first
       | (refine sameStep (L := L) (s0 := s0) (x := x) (fun hx => ?_) ?_; clear_value x; rotate_left; subst x)
       | subst x)
    | with_reducible refine modInt_frame (parts_sub (by decide) hL) ?_
    | intro _ _ _
    | intro _ _
    | intro _
    | (simp only [same_lit]; with_reducible refine SameLit.of ?_ ?_ ?_ ?_ ?_ ?_ ?_ ?_ ?_ ?_ ?_ ?_ ?_ ?_ ?_ ?_ ?_ ?_ ?_ ?_ ?_ ?_ ?_ ?_ ?_ ?_ ?_ ?_ ?_ ?_ ?_ ?_ ?_ ?_ ?_ ?_ ?_ ?_ ?_ ?_)
    | exact .inl rfl
    | dsimp only
    | dsimp only [id]

theorem putRecord_frame {L : List StatePart} {s0 : State} {g : Fun} {r : Nat} {x : Ring} {e : EvRec} {s : State}
    (hL : ∀ p ∈ [StatePart.counters, .links, .intx, .ats, .fnCfg, .int, .power, .out], p ∈ L) (hok : SameBut L s0 s) :
    SameBut L s0 (putRecord g r x e s) := by
  unfold putRecord
  repeat' first
    | with_reducible assumption
    | with_reducible exact .inl rfl
    | exact .inr (hL _ (by decide))
    | (extract_lets +onlyGivenNames x
       first
       | (refine sameStep (L := L) (s0 := s0) (x := x) (fun hx => ?_) ?_; clear_value x; rotate_left; subst x)
       | subst x)
    | with_reducible refine SameBut.ite ?_ ?_
    | with_reducible refine hostWrite_frame (parts_sub (by decide) hL) ?_
    | with_reducible refine fire_frame (parts_sub (by decide) hL) ?_
    | with_reducible refine setRing_frame (parts_sub (by decide) hL) ?_
    | intro _ _ _
    | intro _ _
    | intro _
    | split
    | (simp only [same_lit]; with_reducible refine SameLit.of ?_ ?_ ?_ ?_ ?_ ?_ ?_ ?_ ?_ ?_ ?_ ?_ ?_ ?_ ?_ ?_ ?_ ?_ ?_ ?_ ?_ ?_ ?_ ?_ ?_ ?_ ?_ ?_ ?_ ?_ ?_ ?_ ?_ ?_ ?_ ?_ ?_ ?_ ?_ ?_)
    | exact .inl rfl
    | dsimp only
    | dsimp only [id]

theorem tryOverflow_frame {L : List StatePart} {s0 : State} {g : Fun} {r : Nat} {s : State}
    (hL : ∀ p ∈ [StatePart.counters, .links, .intx, .ats, .fnCfg, .int, .power, .out], p ∈ L) (hok : SameBut L s0 s) :
    SameBut L s0 (tryOverflow g r s) := by
  unfold tryOverflow
  repeat' first
    | with_reducible assumption
    | with_reducible exact .inl rfl
    | exact .inr (hL _ (by decide))
    | (extract_lets +onlyGivenNames x
       first
       | (refine sameStep (L := L) (s0 := s0) (x := x) (fun hx => ?_) ?_; clear_value x; rotate_left; subst x)
       | subst x)
    | with_reducible refine SameBut.ite ?_ ?_
    | with_reducible refine putRecord_frame (parts_sub (by decide) hL) ?_
    | with_reducible refine SameBut.ofPair ?_ (by with_reducible assumption)
    | intro _ _ _
    | intro _ _
    | intro _
    | split
    | (simp only [same_lit]; with_reducible refine SameLit.of ?_ ?_ ?_ ?_ ?_ ?_ ?_ ?_ ?_ ?_ ?_ ?_ ?_ ?_ ?_ ?_ ?_ ?_ ?_ ?_ ?_ ?_ ?_ ?_ ?_ ?_ ?_ ?_ ?_ ?_ ?_ ?_ ?_ ?_ ?_ ?_ ?_ ?_ ?_ ?_)
    | exact .inl rfl
    | dsimp only
    | dsimp only [id]

theorem dropRecord_frame {L : List StatePart} {s0 : State} {g : Fun} {r : Nat} {x : Ring} {s : State}
    (hL : ∀ p ∈ [StatePart.counters, .int], p ∈ L) (hok : SameBut L s0 s) :
    SameBut L s0 (dropRecord g r x s) := by
  unfold dropRecord
  repeat' first
    | with_reducible assumption
    | with_reducible exact .inl rfl
    | exact .inr (hL _ (by decide))
    | (extract_lets +onlyGivenNames x
       first
       | (refine sameStep (L := L) (s0 := s0) (x := x) (fun hx => ?_) ?_; clear_value x; rotate_left; subst x)
       | subst x)
    | with_reducible refine countFn_frame (parts_sub (by decide) hL) ?_
    | with_reducible refine setRing_frame (parts_sub (by decide) hL) ?_
    | intro _ _ _
    | intro _ _
    | intro _
    | (simp only [same_lit]; with_reducible refine SameLit.of ?_ ?_ ?_ ?_ ?_ ?_ ?_ ?_ ?_ ?_ ?_ ?_ ?_ ?_ ?_ ?_ ?_ ?_ ?_ ?_ ?_ ?_ ?_ ?_ ?_ ?_ ?_ ?_ ?_ ?_ ?_ ?_ ?_ ?_ ?_ ?_ ?_ ?_ ?_ ?_)
    | exact .inl rfl
    | dsimp only
    | dsimp only [id]

theorem deliverRecord_frame {L : List StatePart} {s0 : State} {g : Fun} {held : Bool} {e : EvRec} {s : State}
    (hL : ∀ p ∈ [StatePart.counters, .links, .intx, .ats, .fnCfg, .int, .power, .out], p ∈ L) (hok : SameBut L s0 s) :
    SameBut L s0 (deliverRecord g held e s) := by
  unfold deliverRecord
  repeat' first
    | with_reducible assumption
    | with_reducible exact .inl rfl
    | exact .inr (hL _ (by decide))
    | (extract_lets +onlyGivenNames x
       first
       | (refine sameStep (L := L) (s0 := s0) (x := x) (fun hx => ?_) ?_; clear_value x; rotate_left; subst x)
       | subst x)
    | with_reducible refine SameBut.ite ?_ ?_
    | with_reducible refine countFn_frame (parts_sub (by decide) hL) ?_
    | with_reducible refine putRecord_frame (parts_sub (by decide) hL) ?_
    | with_reducible refine tryOverflow_frame (parts_sub (by decide) hL) ?_
    | with_reducible refine dropRecord_frame (parts_sub (by decide) hL) ?_
    | with_reducible refine SameBut.ofPair ?_ (by with_reducible assumption)
    | intro _ _ _
    | intro _ _
    | intro _
    | split
    | (simp only [same_lit]; with_reducible refine SameLit.of ?_ ?_ ?_ ?_ ?_ ?_ ?_ ?_ ?_ ?_ ?_ ?_ ?_ ?_ ?_ ?_ ?_ ?_ ?_ ?_ ?_ ?_ ?_ ?_ ?_ ?_ ?_ ?_ ?_ ?_ ?_ ?_ ?_ ?_ ?_ ?_ ?_ ?_ ?_ ?_)
    | exact .inl rfl
    | dsimp only
    | dsimp only [id]

theorem holdRecord_frame {L : List StatePart} {s0 : State} {g : Fun} {e : EvRec} {s : State}
    (hL : ∀ p ∈ [StatePart.counters, .int], p ∈ L) (hok : SameBut L s0 s) :
    SameBut L s0 (holdRecord g e s) := by
  unfold holdRecord
  repeat' first
    | with_reducible assumption
    | with_reducible exact .inl rfl
    | exact .inr (hL _ (by decide))
    | (extract_lets +onlyGivenNames x
       first
       | (refine sameStep (L := L) (s0 := s0) (x := x) (fun hx => ?_) ?_; clear_value x; rotate_left; subst x)
       | subst x)
    | with_reducible refine SameBut.ite ?_ ?_
    | with_reducible refine modInt_frame (parts_sub (by decide) hL) ?_
    | with_reducible refine countFn_frame (parts_sub (by decide) hL) ?_
    | with_reducible refine dropRecord_frame (parts_sub (by decide) hL) ?_
    | with_reducible refine SameBut.ofPair ?_ (by with_reducible assumption)
    | intro _ _ _
    | intro _ _
    | intro _
    | split
    | (simp only [same_lit]; with_reducible refine SameLit.of ?_ ?_ ?_ ?_ ?_ ?_ ?_ ?_ ?_ ?_ ?_ ?_ ?_ ?_ ?_ ?_ ?_ ?_ ?_ ?_ ?_ ?_ ?_ ?_ ?_ ?_ ?_ ?_ ?_ ?_ ?_ ?_ ?_ ?_ ?_ ?_ ?_ ?_ ?_ ?_)
    | exact .inl rfl
    | dsimp only
    | dsimp only [id]

theorem releaseHeld_frame {L : List StatePart} {s0 : State} {g : Fun} {s : State}
    (hL : ∀ p ∈ [StatePart.counters, .links, .intx, .ats, .fnCfg, .int, .power, .out], p ∈ L) (hok : SameBut L s0 s) :
    SameBut L s0 (releaseHeld g s) := by
  unfold releaseHeld
  repeat' first
    | with_reducible assumption
    | with_reducible exact .inl rfl
    | exact .inr (hL _ (by decide))
    | (extract_lets +onlyGivenNames x
       first
       | (refine sameStep (L := L) (s0 := s0) (x := x) (fun hx => ?_) ?_; clear_value x; rotate_left; subst x)
       | (refine sameStep (L := L) (s0 := s0) (x := x.1) (fun hx => ?_) ?_; clear_value x; rotate_left; subst x)
       | subst x)
    | with_reducible refine SameBut.ite ?_ ?_
    | with_reducible refine foldState_frame (fun _ _ _ => ?_) ?_
    | with_reducible refine deliverRecord_frame (parts_sub (by decide) hL) ?_
    | with_reducible refine modInt_frame (parts_sub (by decide) hL) ?_
    | with_reducible refine tryOverflow_frame (parts_sub (by decide) hL) ?_
    | intro _ _ _
    | intro _ _
    | intro _
    | split
    | (simp only [same_lit]; with_reducible refine SameLit.of ?_ ?_ ?_ ?_ ?_ ?_ ?_ ?_ ?_ ?_ ?_ ?_ ?_ ?_ ?_ ?_ ?_ ?_ ?_ ?_ ?_ ?_ ?_ ?_ ?_ ?_ ?_ ?_ ?_ ?_ ?_ ?_ ?_ ?_ ?_ ?_ ?_ ?_ ?_ ?_)
    | exact .inl rfl
    | dsimp only
    | dsimp only [id]

theorem writeEventRecord_frame {L : List StatePart} {s0 : State} {g : Fun} {s : State}
    (hL : ∀ p ∈ [StatePart.counters, .links, .intx, .ats, .fnCfg, .int, .power, .out], p ∈ L) (hok : SameBut L s0 s) :
    SameBut L s0 (writeEventRecord g s) := by
  unfold writeEventRecord
  repeat' first
    | with_reducible assumption
    | with_reducible exact .inl rfl
    | exact .inr (hL _ (by decide))
    | (extract_lets +onlyGivenNames x
       first
       | (refine sameStep (L := L) (s0 := s0) (x := x) (fun hx => ?_) ?_; clear_value x; rotate_left; subst x)
       | subst x)
    | with_reducible refine SameBut.ite ?_ ?_
    | with_reducible refine holdRecord_frame (parts_sub (by decide) hL) ?_
    | with_reducible refine modInt_frame (parts_sub (by decide) hL) ?_
    | with_reducible refine releaseHeld_frame (parts_sub (by decide) hL) ?_
    | with_reducible refine deliverRecord_frame (parts_sub (by decide) hL) ?_
    | with_reducible refine SameBut.ofPair ?_ (by with_reducible assumption)
    | intro _ _ _
    | intro _ _
    | intro _
    | split
    | (simp only [same_lit]; with_reducible refine SameLit.of ?_ ?_ ?_ ?_ ?_ ?_ ?_ ?_ ?_ ?_ ?_ ?_ ?_ ?_ ?_ ?_ ?_ ?_ ?_ ?_ ?_ ?_ ?_ ?_ ?_ ?_ ?_ ?_ ?_ ?_ ?_ ?_ ?_ ?_ ?_ ?_ ?_ ?_ ?_ ?_)
    | exact .inl rfl
    | dsimp only
    | dsimp only [id]

theorem execEventRecordWrite_frame {g : Fun} {s : State} :
    OutBut [StatePart.counters, .links, .intx, .ats, .fnCfg, .int, .power, .out] s (execEventRecordWrite g s) := by
  unfold execEventRecordWrite
  refine OutBut.of (fun L s0 hL hok => ?_)
  repeat' first
    | with_reducible assumption
    | with_reducible refine writeEventRecord_frame (parts_sub (by decide) hL) ?_
    | intro _ _ _
    | intro _ _
    | intro _
    | dsimp only
    | dsimp only [id]

theorem writeConsumer_frame {L : List StatePart} {s0 : State} {g : Fun} {r : Nat} {v : U32} {s : State}
    (hL : ∀ p ∈ [StatePart.counters, .links, .intx, .ats, .fnCfg, .int, .power, .out], p ∈ L) (hok : SameBut L s0 s) :
    SameBut L s0 (writeConsumer g r v s) := by
  unfold writeConsumer
  repeat' first
    | with_reducible assumption
    | with_reducible exact .inl rfl
    | exact .inr (hL _ (by decide))
    | (extract_lets +onlyGivenNames x
       first
       | (refine sameStep (L := L) (s0 := s0) (x := x) (fun hx => ?_) ?_; clear_value x; rotate_left; subst x)
       | subst x)
    | with_reducible refine SameBut.ite ?_ ?_
    | with_reducible refine countFn_frame (parts_sub (by decide) hL) ?_
    | with_reducible refine tryOverflow_frame (parts_sub (by decide) hL) ?_
    | with_reducible refine setRing_frame (parts_sub (by decide) hL) ?_
    | with_reducible refine SameBut.ofPair ?_ (by with_reducible assumption)
    | intro _ _ _
    | intro _ _
    | intro _
    | split
    | (simp only [same_lit]; with_reducible refine SameLit.of ?_ ?_ ?_ ?_ ?_ ?_ ?_ ?_ ?_ ?_ ?_ ?_ ?_ ?_ ?_ ?_ ?_ ?_ ?_ ?_ ?_ ?_ ?_ ?_ ?_ ?_ ?_ ?_ ?_ ?_ ?_ ?_ ?_ ?_ ?_ ?_ ?_ ?_ ?_ ?_)
    | exact .inl rfl
    | dsimp only
    | dsimp only [id]

theorem execRingConsumerWrite_frame {g : Fun} {r : U8} {v : U32} {s : State} :
    OutBut [StatePart.counters, .links, .intx, .ats, .fnCfg, .int, .power, .out] s (execRingConsumerWrite g r v s) := by
  unfold execRingConsumerWrite
  refine OutBut.of (fun L s0 hL hok => ?_)
  repeat' first
    | with_reducible assumption
    | with_reducible refine barWrite_frame (parts_sub (by decide) hL) ?_ ?_
    | with_reducible refine writeConsumer_frame (parts_sub (by decide) hL) ?_
    | intro _ _ _
    | intro _ _
    | intro _
    | dsimp only
    | dsimp only [id]

theorem execWeirDelayExpiry_frame {g : Fun} {s : State} :
    OutBut [StatePart.counters, .intx, .fnCfg, .int, .out] s (execWeirDelayExpiry g s) := by
  unfold execWeirDelayExpiry
  refine OutBut.of (fun L s0 hL hok => ?_)
  repeat' first
    | with_reducible assumption
    | with_reducible refine runWeir_frame (parts_sub (by decide) hL) ?_
    | intro _ _ _
    | intro _ _
    | intro _
    | dsimp only
    | dsimp only [id]

theorem clearLatches_frame {L : List StatePart} {s0 : State} {g : Fun} {k : Fin 5} {v : U64} {s : State}
    (hL : ∀ p ∈ [StatePart.counters, .intx, .fnCfg, .int, .out], p ∈ L) (hok : SameBut L s0 s) :
    SameBut L s0 (clearLatches g k v s) := by
  unfold clearLatches
  repeat' first
    | with_reducible assumption
    | with_reducible exact .inl rfl
    | exact .inr (hL _ (by decide))
    | (extract_lets +onlyGivenNames x
       first
       | (refine sameStep (L := L) (s0 := s0) (x := x) (fun hx => ?_) ?_; clear_value x; rotate_left; subst x)
       | subst x)
    | with_reducible refine runWeir_frame (parts_sub (by decide) hL) ?_
    | with_reducible refine modInt_frame (parts_sub (by decide) hL) ?_
    | intro _ _ _
    | intro _ _
    | intro _
    | (simp only [same_lit]; with_reducible refine SameLit.of ?_ ?_ ?_ ?_ ?_ ?_ ?_ ?_ ?_ ?_ ?_ ?_ ?_ ?_ ?_ ?_ ?_ ?_ ?_ ?_ ?_ ?_ ?_ ?_ ?_ ?_ ?_ ?_ ?_ ?_ ?_ ?_ ?_ ?_ ?_ ?_ ?_ ?_ ?_ ?_)
    | exact .inl rfl
    | dsimp only
    | dsimp only [id]

theorem execIntPendingClear_frame {g : Fun} {k : Fin 5} {v : U64} {s : State} :
    OutBut [StatePart.counters, .intx, .fnCfg, .int, .out] s (execIntPendingClear g k v s) := by
  unfold execIntPendingClear
  refine OutBut.of (fun L s0 hL hok => ?_)
  repeat' first
    | with_reducible assumption
    | with_reducible refine barWrite_frame (parts_sub (by decide) hL) ?_ ?_
    | with_reducible refine clearLatches_frame (parts_sub (by decide) hL) ?_
    | intro _ _ _
    | intro _ _
    | intro _
    | dsimp only
    | dsimp only [id]

theorem openWeir_frame {L : List StatePart} {s0 : State} {g : Fun} {before s : State}
    (hL : ∀ p ∈ [StatePart.counters, .intx, .fnCfg, .int, .out], p ∈ L) (hok : SameBut L s0 s) :
    SameBut L s0 (openWeir g before s) := by
  unfold openWeir
  repeat' first
    | with_reducible assumption
    | with_reducible exact .inl rfl
    | exact .inr (hL _ (by decide))
    | (extract_lets +onlyGivenNames x
       first
       | (refine sameStep (L := L) (s0 := s0) (x := x) (fun hx => ?_) ?_; clear_value x; rotate_left; subst x)
       | subst x)
    | with_reducible refine SameBut.ite ?_ ?_
    | with_reducible refine modInt_frame (parts_sub (by decide) hL) ?_
    | with_reducible refine emit_frame (parts_sub (by decide) hL) ?_
    | with_reducible refine modCfg_frame (parts_sub (by decide) hL) ?_
    | with_reducible refine settleIntx_frame (parts_sub (by decide) hL) ?_
    | intro _ _ _
    | intro _ _
    | intro _
    | split
    | (simp only [same_lit]; with_reducible refine SameLit.of ?_ ?_ ?_ ?_ ?_ ?_ ?_ ?_ ?_ ?_ ?_ ?_ ?_ ?_ ?_ ?_ ?_ ?_ ?_ ?_ ?_ ?_ ?_ ?_ ?_ ?_ ?_ ?_ ?_ ?_ ?_ ?_ ?_ ?_ ?_ ?_ ?_ ?_ ?_ ?_)
    | exact .inl rfl
    | dsimp only
    | dsimp only [id]

theorem writeMask_frame {L : List StatePart} {s0 : State} {g : Fun} {k : Fin 5} {v : U64} {s : State}
    (hL : ∀ p ∈ [StatePart.counters, .intx, .fnCfg, .int, .draws, .out], p ∈ L) (hok : SameBut L s0 s) :
    SameBut L s0 (writeMask g k v s) := by
  unfold writeMask
  repeat' first
    | with_reducible assumption
    | with_reducible exact .inl rfl
    | exact .inr (hL _ (by decide))
    | (extract_lets +onlyGivenNames x
       first
       | (refine sameStep (L := L) (s0 := s0) (x := x) (fun hx => ?_) ?_; clear_value x; rotate_left; subst x)
       | subst x)
    | with_reducible refine SameBut.ite ?_ ?_
    | with_reducible refine modInt_frame (parts_sub (by decide) hL) ?_
    | with_reducible refine draw_frame (parts_sub (by decide) hL) ?_
    | with_reducible refine openWeir_frame (parts_sub (by decide) hL) ?_
    | with_reducible refine runWeir_frame (parts_sub (by decide) hL) ?_
    | with_reducible refine countFn_frame (parts_sub (by decide) hL) ?_
    | intro _ _ _
    | intro _ _
    | intro _
    | split
    | (simp only [same_lit]; with_reducible refine SameLit.of ?_ ?_ ?_ ?_ ?_ ?_ ?_ ?_ ?_ ?_ ?_ ?_ ?_ ?_ ?_ ?_ ?_ ?_ ?_ ?_ ?_ ?_ ?_ ?_ ?_ ?_ ?_ ?_ ?_ ?_ ?_ ?_ ?_ ?_ ?_ ?_ ?_ ?_ ?_ ?_)
    | exact .inl rfl
    | dsimp only
    | dsimp only [id]

theorem execIntMaskWrite_frame {g : Fun} {k : Fin 5} {v : U64} {s : State} :
    OutBut [StatePart.counters, .intx, .fnCfg, .int, .draws, .out] s (execIntMaskWrite g k v s) := by
  unfold execIntMaskWrite
  refine OutBut.of (fun L s0 hL hok => ?_)
  repeat' first
    | with_reducible assumption
    | with_reducible refine barWrite_frame (parts_sub (by decide) hL) ?_ ?_
    | with_reducible refine writeMask_frame (parts_sub (by decide) hL) ?_
    | intro _ _ _
    | intro _ _
    | intro _
    | dsimp only
    | dsimp only [id]

theorem setDelay_frame {L : List StatePart} {s0 : State} {g : Fun} {ns : Nat} {s : State}
    (hL : ∀ p ∈ [StatePart.counters, .intx, .fnCfg, .int, .out], p ∈ L) (hok : SameBut L s0 s) :
    SameBut L s0 (setDelay g ns s) := by
  unfold setDelay
  repeat' first
    | with_reducible assumption
    | with_reducible exact .inl rfl
    | exact .inr (hL _ (by decide))
    | (extract_lets +onlyGivenNames x
       first
       | (refine sameStep (L := L) (s0 := s0) (x := x) (fun hx => ?_) ?_; clear_value x; rotate_left; subst x)
       | subst x)
    | with_reducible refine runWeir_frame (parts_sub (by decide) hL) ?_
    | with_reducible refine modInt_frame (parts_sub (by decide) hL) ?_
    | intro _ _ _
    | intro _ _
    | intro _
    | (simp only [same_lit]; with_reducible refine SameLit.of ?_ ?_ ?_ ?_ ?_ ?_ ?_ ?_ ?_ ?_ ?_ ?_ ?_ ?_ ?_ ?_ ?_ ?_ ?_ ?_ ?_ ?_ ?_ ?_ ?_ ?_ ?_ ?_ ?_ ?_ ?_ ?_ ?_ ?_ ?_ ?_ ?_ ?_ ?_ ?_)
    | exact .inl rfl
    | dsimp only
    | dsimp only [id]

theorem setTargetDie_frame {L : List StatePart} {s0 : State} {g : Fun} {d : Nat} {s : State}
    (hL : ∀ p ∈ [StatePart.counters, .intx, .fnCfg, .int, .out], p ∈ L) (hok : SameBut L s0 s) :
    SameBut L s0 (setTargetDie g d s) := by
  unfold setTargetDie
  repeat' first
    | with_reducible assumption
    | with_reducible exact .inl rfl
    | exact .inr (hL _ (by decide))
    | (extract_lets +onlyGivenNames x
       first
       | (refine sameStep (L := L) (s0 := s0) (x := x) (fun hx => ?_) ?_; clear_value x; rotate_left; subst x)
       | subst x)
    | with_reducible refine SameBut.ite ?_ ?_
    | with_reducible refine runWeir_frame (parts_sub (by decide) hL) ?_
    | with_reducible refine modInt_frame (parts_sub (by decide) hL) ?_
    | intro _ _ _
    | intro _ _
    | intro _
    | split
    | (simp only [same_lit]; with_reducible refine SameLit.of ?_ ?_ ?_ ?_ ?_ ?_ ?_ ?_ ?_ ?_ ?_ ?_ ?_ ?_ ?_ ?_ ?_ ?_ ?_ ?_ ?_ ?_ ?_ ?_ ?_ ?_ ?_ ?_ ?_ ?_ ?_ ?_ ?_ ?_ ?_ ?_ ?_ ?_ ?_ ?_)
    | exact .inl rfl
    | dsimp only
    | dsimp only [id]

theorem execIntModerationWrite_frame {g : Fun} {v : U64} {s : State} :
    OutBut [StatePart.counters, .intx, .fnCfg, .int, .out] s (execIntModerationWrite g v s) := by
  unfold execIntModerationWrite
  refine OutBut.of (fun L s0 hL hok => ?_)
  repeat' first
    | with_reducible assumption
    | with_reducible refine barWrite_frame (parts_sub (by decide) hL) ?_ ?_
    | with_reducible refine setDelay_frame (parts_sub (by decide) hL) ?_
    | with_reducible refine setTargetDie_frame (parts_sub (by decide) hL) ?_
    | intro _ _ _
    | intro _ _
    | intro _
    | dsimp only
    | dsimp only [id]

theorem takeHint_frame {L : List StatePart} {s0 : State} {d : Die} {idle : Bool} {s : State}
    (hL : ∀ p ∈ [StatePart.counters, .intx, .fnCfg, .int, .idle, .out], p ∈ L) (hok : SameBut L s0 s) :
    SameBut L s0 (takeHint d idle s) := by
  unfold takeHint
  repeat' first
    | with_reducible assumption
    | with_reducible exact .inl rfl
    | exact .inr (hL _ (by decide))
    | (extract_lets +onlyGivenNames x
       first
       | (refine sameStep (L := L) (s0 := s0) (x := x) (fun hx => ?_) ?_; clear_value x; rotate_left; subst x)
       | subst x)
    | with_reducible refine SameBut.ite ?_ ?_
    | with_reducible refine foldState_frame (fun _ _ _ => ?_) ?_
    | with_reducible refine runWeir_frame (parts_sub (by decide) hL) ?_
    | intro _ _ _
    | intro _ _
    | intro _
    | split
    | (simp only [same_lit]; with_reducible refine SameLit.of ?_ ?_ ?_ ?_ ?_ ?_ ?_ ?_ ?_ ?_ ?_ ?_ ?_ ?_ ?_ ?_ ?_ ?_ ?_ ?_ ?_ ?_ ?_ ?_ ?_ ?_ ?_ ?_ ?_ ?_ ?_ ?_ ?_ ?_ ?_ ?_ ?_ ?_ ?_ ?_)
    | exact .inl rfl
    | dsimp only
    | dsimp only [id]

theorem execIdleHint_frame {d : Die} {idle : Bool} {s : State} :
    OutBut [StatePart.counters, .intx, .fnCfg, .int, .idle, .out] s (execIdleHint d idle s) := by
  unfold execIdleHint
  refine OutBut.of (fun L s0 hL hok => ?_)
  repeat' first
    | with_reducible assumption
    | with_reducible refine takeHint_frame (parts_sub (by decide) hL) ?_
    | intro _ _ _
    | intro _ _
    | intro _
    | dsimp only
    | dsimp only [id]


/-! ### Machine/Schedule.lean -/

theorem installLocked_frame {L : List StatePart} {s0 : State} {es : List REntry} {s : State}
    (hL : ∀ p ∈ [StatePart.entries], p ∈ L) (hok : SameBut L s0 s) :
    SameBut L s0 (installLocked es s) := by
  unfold installLocked
  repeat' first
    | with_reducible assumption
    | with_reducible refine foldState_frame (fun _ _ _ => ?_) ?_
    | with_reducible refine install_frame (parts_sub (by decide) hL) ?_
    | intro _ _ _
    | intro _ _
    | intro _
    | dsimp only
    | dsimp only [id]

theorem startMoraine_frame {L : List StatePart} {s0 : State} {x : Sched} {s : State}
    (hL : ∀ p ∈ [StatePart.counters, .int, .memory, .pool, .out], p ∈ L) (hok : SameBut L s0 s) :
    SameBut L s0 (startMoraine x s) := by
  unfold startMoraine
  repeat' first
    | with_reducible assumption
    | with_reducible exact .inl rfl
    | exact .inr (hL _ (by decide))
    | (extract_lets +onlyGivenNames x
       first
       | (refine sameStep (L := L) (s0 := s0) (x := x) (fun hx => ?_) ?_; clear_value x; rotate_left; subst x)
       | subst x)
    | with_reducible refine SameBut.ite ?_ ?_
    | with_reducible refine poolWrite_frame (parts_sub (by decide) hL) ?_
    | with_reducible refine SameBut.ofPair ?_ (by with_reducible assumption)
    | intro _ _ _
    | intro _ _
    | intro _
    | split
    | (simp only [same_lit]; with_reducible refine SameLit.of ?_ ?_ ?_ ?_ ?_ ?_ ?_ ?_ ?_ ?_ ?_ ?_ ?_ ?_ ?_ ?_ ?_ ?_ ?_ ?_ ?_ ?_ ?_ ?_ ?_ ?_ ?_ ?_ ?_ ?_ ?_ ?_ ?_ ?_ ?_ ?_ ?_ ?_ ?_ ?_)
    | exact .inl rfl
    | dsimp only
    | dsimp only [id]

end Sys2Proof.Machine
end

