-- ==== Sys2Proof/Laws/FramesCommands.lean ====
section
/-!
SUPPORT. Frames, update by update: admin queues, contexts, commands of queues, transfers, faults, reads and lookups.
Each lemma follows its definition: one let at a time, one branch at a time, and the lemma of each operation that it calls.
-/
set_option linter.unusedSimpArgs false
set_option linter.unusedVariables false

namespace Sys2Proof.Machine

/-! ### Machine/Admin.lean -/

theorem askAdmin_frame {L : List StatePart} {s0 : State} {g : Fun} {s : State}
    (hL : ∀ p ∈ [StatePart.counters, .requests, .ats, .int, .out], p ∈ L) (hok : SameBut L s0 s) :
    SameBut L s0 (askAdmin g s) := by
  unfold askAdmin
  repeat' first
    | with_reducible assumption
    | with_reducible refine SameBut.ite ?_ ?_
    | with_reducible refine hostRead_frame (parts_sub (by decide) hL) ?_
    | intro _ _ _
    | intro _ _
    | intro _
    | split
    | dsimp only
    | dsimp only [id]

theorem stopAdmin_frame {L : List StatePart} {s0 : State} {g : Fun} {s : State}
    (hL : ∀ p ∈ [StatePart.requests], p ∈ L) (hok : SameBut L s0 s) :
    SameBut L s0 (stopAdmin g s) := by
  unfold stopAdmin
  repeat' first
    | with_reducible assumption
    | with_reducible exact .inl rfl
    | exact .inr (hL _ (by decide))
    | exact .inl fun _ => rfl
    | (extract_lets +onlyGivenNames x
       first
       | (refine sameStep (L := L) (s0 := s0) (x := x) (fun hx => ?_) ?_; clear_value x; rotate_left; subst x)
       | subst x)
    | with_reducible refine SameBut.ite ?_ ?_
    | with_reducible refine modPort_frame ?_ ?_ ?_ ?_ ?_ 
    | intro _ _ _
    | intro _ _
    | intro _
    | split
    | (simp only [same_lit]; with_reducible refine SameLit.of ?_ ?_ ?_ ?_ ?_ ?_ ?_ ?_ ?_ ?_ ?_ ?_ ?_ ?_ ?_ ?_ ?_ ?_ ?_ ?_ ?_ ?_ ?_ ?_ ?_ ?_ ?_ ?_ ?_ ?_ ?_ ?_ ?_ ?_ ?_ ?_ ?_ ?_ ?_ ?_)
    | exact .inl fun x => by (repeat' split) <;> rfl
    | exact .inl rfl
    | dsimp only
    | dsimp only [id]

theorem writeAdmin_frame {L : List StatePart} {s0 : State} {g : Fun} {f : AdminQ → AdminQ} {s : State}
    (hL : ∀ p ∈ [StatePart.counters, .requests, .ats, .admin, .int, .out], p ∈ L) (hok : SameBut L s0 s) :
    SameBut L s0 (writeAdmin g f s) := by
  unfold writeAdmin
  repeat' first
    | with_reducible assumption
    | with_reducible refine askAdmin_frame (parts_sub (by decide) hL) ?_
    | with_reducible refine stopAdmin_frame (parts_sub (by decide) hL) ?_
    | with_reducible refine modAdmin_frame (parts_sub (by decide) hL) ?_
    | intro _ _ _
    | intro _ _
    | intro _
    | dsimp only
    | dsimp only [id]

theorem adminWrite_frame {L : List StatePart} {s0 : State} {g : Fun} {f : AdminQ → AdminQ} {s : State}
    (hL : ∀ p ∈ [StatePart.counters, .requests, .ats, .fnCfg, .admin, .int, .out], p ∈ L) (hok : SameBut L s0 s) :
    SameBut L s0 (adminWrite g f s) := by
  unfold adminWrite
  repeat' first
    | with_reducible assumption
    | with_reducible refine barWrite_frame (parts_sub (by decide) hL) ?_ ?_
    | with_reducible refine writeAdmin_frame (parts_sub (by decide) hL) ?_
    | intro _ _ _
    | intro _ _
    | intro _
    | dsimp only
    | dsimp only [id]

theorem execAdminSqControlWrite_frame {g : Fun} {v : U64} {s : State} :
    OutBut [StatePart.counters, .requests, .ats, .fnCfg, .admin, .int, .out] s (execAdminSqControlWrite g v s) := by
  unfold execAdminSqControlWrite
  refine OutBut.of (fun L s0 hL hok => ?_)
  repeat' first
    | with_reducible assumption
    | with_reducible refine adminWrite_frame (parts_sub (by decide) hL) ?_
    | intro _ _ _
    | intro _ _
    | intro _
    | dsimp only
    | dsimp only [id]

theorem execAdminCqControlWrite_frame {g : Fun} {v : U64} {s : State} :
    OutBut [StatePart.counters, .requests, .ats, .fnCfg, .admin, .int, .out] s (execAdminCqControlWrite g v s) := by
  unfold execAdminCqControlWrite
  refine OutBut.of (fun L s0 hL hok => ?_)
  repeat' first
    | with_reducible assumption
    | with_reducible refine adminWrite_frame (parts_sub (by decide) hL) ?_
    | intro _ _ _
    | intro _ _
    | intro _
    | dsimp only
    | dsimp only [id]

theorem execAdminSqTailWrite_frame {g : Fun} {v : U64} {s : State} :
    OutBut [StatePart.counters, .requests, .ats, .fnCfg, .admin, .int, .out] s (execAdminSqTailWrite g v s) := by
  unfold execAdminSqTailWrite
  refine OutBut.of (fun L s0 hL hok => ?_)
  repeat' first
    | with_reducible assumption
    | with_reducible refine adminWrite_frame (parts_sub (by decide) hL) ?_
    | intro _ _ _
    | intro _ _
    | intro _
    | dsimp only
    | dsimp only [id]

theorem execAdminCqHeadWrite_frame {g : Fun} {v : U64} {s : State} :
    OutBut [StatePart.counters, .requests, .ats, .fnCfg, .admin, .int, .out] s (execAdminCqHeadWrite g v s) := by
  unfold execAdminCqHeadWrite
  refine OutBut.of (fun L s0 hL hok => ?_)
  repeat' first
    | with_reducible assumption
    | with_reducible exact .inl rfl
    | exact .inr (hL _ (by decide))
    | (extract_lets +onlyGivenNames x
       first
       | (refine sameStep (L := L) (s0 := s0) (x := x) (fun hx => ?_) ?_; clear_value x; rotate_left; subst x)
       | subst x)
    | with_reducible refine adminWrite_frame (parts_sub (by decide) hL) ?_
    | intro _ _ _
    | intro _ _
    | intro _
    | (simp only [same_lit]; with_reducible refine SameLit.of ?_ ?_ ?_ ?_ ?_ ?_ ?_ ?_ ?_ ?_ ?_ ?_ ?_ ?_ ?_ ?_ ?_ ?_ ?_ ?_ ?_ ?_ ?_ ?_ ?_ ?_ ?_ ?_ ?_ ?_ ?_ ?_ ?_ ?_ ?_ ?_ ?_ ?_ ?_ ?_)
    | exact .inl rfl
    | dsimp only
    | dsimp only [id]

theorem entryComes_frame {L : List StatePart} {s0 : State} {g : Fun} {live ok : Bool} {entry : Bytes} {s : State}
    (hL : ∀ p ∈ [StatePart.admin], p ∈ L) (hok : SameBut L s0 s) :
    SameBut L s0 (entryComes g live ok entry s) := by
  unfold entryComes
  repeat' first
    | with_reducible assumption
    | with_reducible refine SameBut.ite ?_ ?_
    | with_reducible refine modAdmin_frame (parts_sub (by decide) hL) ?_
    | intro _ _ _
    | intro _ _
    | intro _
    | split
    | dsimp only
    | dsimp only [id]

theorem writeCompletion_frame {L : List StatePart} {s0 : State} {g : Fun} {s : State}
    (hL : ∀ p ∈ [StatePart.counters, .links, .intx, .requests, .ats, .fnCfg, .admin, .int, .power, .out], p ∈ L) (hok : SameBut L s0 s) :
    SameBut L s0 (writeCompletion g s) := by
  unfold writeCompletion
  repeat' first
    | with_reducible assumption
    | with_reducible exact .inl rfl
    | exact .inr (hL _ (by decide))
    | (extract_lets +onlyGivenNames x
       first
       | (refine sameStep (L := L) (s0 := s0) (x := x) (fun hx => ?_) ?_; clear_value x; rotate_left; subst x)
       | subst x)
    | with_reducible refine SameBut.ite ?_ ?_
    | with_reducible refine hostWrite_frame (parts_sub (by decide) hL) ?_
    | with_reducible refine askAdmin_frame (parts_sub (by decide) hL) ?_
    | with_reducible refine fire_frame (parts_sub (by decide) hL) ?_
    | with_reducible refine modAdmin_frame (parts_sub (by decide) hL) ?_
    | with_reducible refine SameBut.ofPair ?_ (by with_reducible assumption)
    | intro _ _ _
    | intro _ _
    | intro _
    | split
    | (simp only [same_lit]; with_reducible refine SameLit.of ?_ ?_ ?_ ?_ ?_ ?_ ?_ ?_ ?_ ?_ ?_ ?_ ?_ ?_ ?_ ?_ ?_ ?_ ?_ ?_ ?_ ?_ ?_ ?_ ?_ ?_ ?_ ?_ ?_ ?_ ?_ ?_ ?_ ?_ ?_ ?_ ?_ ?_ ?_ ?_)
    | exact .inl rfl
    | dsimp only
    | dsimp only [id]

theorem execAdminCompletionWrite_frame {g : Fun} {s : State} :
    OutBut [StatePart.counters, .links, .intx, .requests, .ats, .fnCfg, .admin, .int, .power, .out] s (execAdminCompletionWrite g s) := by
  unfold execAdminCompletionWrite
  refine OutBut.of (fun L s0 hL hok => ?_)
  repeat' first
    | with_reducible assumption
    | with_reducible refine writeCompletion_frame (parts_sub (by decide) hL) ?_
    | intro _ _ _
    | intro _ _
    | intro _
    | dsimp only
    | dsimp only [id]

theorem dropTaken_frame {L : List StatePart} {s0 : State} {g : Fun} {s : State}
    (hL : ∀ p ∈ [StatePart.counters, .requests, .ats, .admin, .int, .out], p ∈ L) (hok : SameBut L s0 s) :
    SameBut L s0 (dropTaken g s) := by
  unfold dropTaken
  repeat' first
    | with_reducible assumption
    | with_reducible exact .inl rfl
    | exact .inr (hL _ (by decide))
    | (extract_lets +onlyGivenNames x
       first
       | (refine sameStep (L := L) (s0 := s0) (x := x) (fun hx => ?_) ?_; clear_value x; rotate_left; subst x)
       | subst x)
    | with_reducible refine askAdmin_frame (parts_sub (by decide) hL) ?_
    | with_reducible refine modAdmin_frame (parts_sub (by decide) hL) ?_
    | intro _ _ _
    | intro _ _
    | intro _
    | (simp only [same_lit]; with_reducible refine SameLit.of ?_ ?_ ?_ ?_ ?_ ?_ ?_ ?_ ?_ ?_ ?_ ?_ ?_ ?_ ?_ ?_ ?_ ?_ ?_ ?_ ?_ ?_ ?_ ?_ ?_ ?_ ?_ ?_ ?_ ?_ ?_ ?_ ?_ ?_ ?_ ?_ ?_ ?_ ?_ ?_)
    | exact .inl rfl
    | dsimp only
    | dsimp only [id]

theorem decide__frame {L : List StatePart} {s0 : State} {g : Fun} {b : Bytes} {st : AStatus} {result : Nat} {s : State}
    (hL : ∀ p ∈ [StatePart.counters, .requests, .ats, .admin, .int, .out], p ∈ L) (hok : SameBut L s0 s) :
    SameBut L s0 (decide_ g b st result s) := by
  unfold decide_
  repeat' first
    | with_reducible assumption
    | with_reducible refine SameBut.ite ?_ ?_
    | with_reducible refine dropTaken_frame (parts_sub (by decide) hL) ?_
    | with_reducible refine adminDone_frame (parts_sub (by decide) hL) ?_
    | intro _ _ _
    | intro _ _
    | intro _
    | split
    | dsimp only
    | dsimp only [id]

theorem withEntry_frame {L : List StatePart} {s0 : State} {g : Fun} {op : Nat} {act : Bytes → State → State} {s : State}
    (hL : ∀ p ∈ [StatePart.counters, .requests, .ats, .admin, .int, .out], p ∈ L) (h_act : ∀ a0 t, SameBut L s0 t → SameBut L s0 (act a0 t)) (hok : SameBut L s0 s) :
    SameBut L s0 (withEntry g op act s) := by
  unfold withEntry
  repeat' first
    | with_reducible assumption
    | with_reducible exact .inl rfl
    | exact .inr (hL _ (by decide))
    | (extract_lets +onlyGivenNames x
       first
       | (refine sameStep (L := L) (s0 := s0) (x := x) (fun hx => ?_) ?_; clear_value x; rotate_left; subst x)
       | subst x)
    | with_reducible refine SameBut.ite ?_ ?_
    | with_reducible apply h_act
    | with_reducible refine decide__frame (parts_sub (by decide) hL) ?_
    | with_reducible refine SameBut.ofPair ?_ (by with_reducible assumption)
    | intro _ _ _
    | intro _ _
    | intro _
    | split
    | (simp only [same_lit]; with_reducible refine SameLit.of ?_ ?_ ?_ ?_ ?_ ?_ ?_ ?_ ?_ ?_ ?_ ?_ ?_ ?_ ?_ ?_ ?_ ?_ ?_ ?_ ?_ ?_ ?_ ?_ ?_ ?_ ?_ ?_ ?_ ?_ ?_ ?_ ?_ ?_ ?_ ?_ ?_ ?_ ?_ ?_)
    | exact .inl rfl
    | dsimp only
    | dsimp only [id]

theorem badOpcodeEntry_frame {L : List StatePart} {s0 : State} {g : Fun} {s : State}
    (hL : ∀ p ∈ [StatePart.counters, .requests, .ats, .admin, .int, .out], p ∈ L) (hok : SameBut L s0 s) :
    SameBut L s0 (badOpcodeEntry g s) := by
  unfold badOpcodeEntry
  repeat' first
    | with_reducible assumption
    | with_reducible exact .inl rfl
    | exact .inr (hL _ (by decide))
    | (extract_lets +onlyGivenNames x
       first
       | (refine sameStep (L := L) (s0 := s0) (x := x) (fun hx => ?_) ?_; clear_value x; rotate_left; subst x)
       | subst x)
    | with_reducible refine SameBut.ite ?_ ?_
    | with_reducible refine decide__frame (parts_sub (by decide) hL) ?_
    | with_reducible refine SameBut.ofPair ?_ (by with_reducible assumption)
    | intro _ _ _
    | intro _ _
    | intro _
    | split
    | (simp only [same_lit]; with_reducible refine SameLit.of ?_ ?_ ?_ ?_ ?_ ?_ ?_ ?_ ?_ ?_ ?_ ?_ ?_ ?_ ?_ ?_ ?_ ?_ ?_ ?_ ?_ ?_ ?_ ?_ ?_ ?_ ?_ ?_ ?_ ?_ ?_ ?_ ?_ ?_ ?_ ?_ ?_ ?_ ?_ ?_)
    | exact .inl rfl
    | dsimp only
    | dsimp only [id]

theorem execAdminBadOpcode_frame {g : Fun} {s : State} :
    OutBut [StatePart.counters, .requests, .ats, .admin, .int, .out] s (execAdminBadOpcode g s) := by
  unfold execAdminBadOpcode
  refine OutBut.of (fun L s0 hL hok => ?_)
  repeat' first
    | with_reducible assumption
    | with_reducible refine badOpcodeEntry_frame (parts_sub (by decide) hL) ?_
    | intro _ _ _
    | intro _ _
    | intro _
    | dsimp only
    | dsimp only [id]

theorem clearRingSource_frame {L : List StatePart} {s0 : State} {g : Fun} {r : Nat} {s : State}
    (hL : ∀ p ∈ [StatePart.counters, .intx, .fnCfg, .int, .out], p ∈ L) (hok : SameBut L s0 s) :
    SameBut L s0 (clearRingSource g r s) := by
  unfold clearRingSource
  repeat' first
    | with_reducible assumption
    | with_reducible exact .inl rfl
    | exact .inr (hL _ (by decide))
    | (extract_lets +onlyGivenNames x
       first
       | (refine sameStep (L := L) (s0 := s0) (x := x) (fun hx => ?_) ?_; clear_value x; rotate_left; subst x)
       | subst x)
    | with_reducible refine runWeir_frame (parts_sub (by decide) hL) ?_
    | with_reducible refine modInt_frame (parts_sub (by decide) hL) ?_
    | intro _ _ _
    | intro _ _
    | intro _
    | (simp only [same_lit]; with_reducible refine SameLit.of ?_ ?_ ?_ ?_ ?_ ?_ ?_ ?_ ?_ ?_ ?_ ?_ ?_ ?_ ?_ ?_ ?_ ?_ ?_ ?_ ?_ ?_ ?_ ?_ ?_ ?_ ?_ ?_ ?_ ?_ ?_ ?_ ?_ ?_ ?_ ?_ ?_ ?_ ?_ ?_)
    | exact .inl rfl
    | dsimp only
    | dsimp only [id]

theorem createRing_frame {L : List StatePart} {s0 : State} {g : Fun} {b : Bytes} {s : State}
    (hL : ∀ p ∈ [StatePart.counters, .intx, .requests, .ats, .fnCfg, .admin, .int, .out], p ∈ L) (hok : SameBut L s0 s) :
    SameBut L s0 (createRing g b s) := by
  unfold createRing
  repeat' first
    | with_reducible assumption
    | (extract_lets +onlyGivenNames x
       first
       | (refine sameStep (L := L) (s0 := s0) (x := x) (fun hx => ?_) ?_; clear_value x; rotate_left; subst x)
       | subst x)
    | with_reducible refine SameBut.ite ?_ ?_
    | with_reducible refine decide__frame (parts_sub (by decide) hL) ?_
    | with_reducible refine clearRingSource_frame (parts_sub (by decide) hL) ?_
    | with_reducible refine setRing_frame (parts_sub (by decide) hL) ?_
    | intro _ _ _
    | intro _ _
    | intro _
    | split
    | dsimp only
    | dsimp only [id]

theorem execCreateEventRing_frame {g : Fun} {s : State} :
    OutBut [StatePart.counters, .intx, .requests, .ats, .fnCfg, .admin, .int, .out] s (execCreateEventRing g s) := by
  unfold execCreateEventRing
  refine OutBut.of (fun L s0 hL hok => ?_)
  repeat' first
    | with_reducible assumption
    | with_reducible refine withEntry_frame (parts_sub (by decide) hL) ?_ ?_
    | with_reducible refine createRing_frame (parts_sub (by decide) hL) ?_
    | intro _ _ _
    | intro _ _
    | intro _
    | dsimp only
    | dsimp only [id]

theorem destroyRing_frame {L : List StatePart} {s0 : State} {g : Fun} {b : Bytes} {s : State}
    (hL : ∀ p ∈ [StatePart.counters, .intx, .requests, .ats, .fnCfg, .admin, .int, .out], p ∈ L) (hok : SameBut L s0 s) :
    SameBut L s0 (destroyRing g b s) := by
  unfold destroyRing
  repeat' first
    | with_reducible assumption
    | with_reducible exact .inl rfl
    | exact .inr (hL _ (by decide))
    | (extract_lets +onlyGivenNames x
       first
       | (refine sameStep (L := L) (s0 := s0) (x := x) (fun hx => ?_) ?_; clear_value x; rotate_left; subst x)
       | subst x)
    | with_reducible refine SameBut.ite ?_ ?_
    | with_reducible refine decide__frame (parts_sub (by decide) hL) ?_
    | with_reducible refine runWeir_frame (parts_sub (by decide) hL) ?_
    | with_reducible refine modInt_frame (parts_sub (by decide) hL) ?_
    | intro _ _ _
    | intro _ _
    | intro _
    | split
    | (simp only [same_lit]; with_reducible refine SameLit.of ?_ ?_ ?_ ?_ ?_ ?_ ?_ ?_ ?_ ?_ ?_ ?_ ?_ ?_ ?_ ?_ ?_ ?_ ?_ ?_ ?_ ?_ ?_ ?_ ?_ ?_ ?_ ?_ ?_ ?_ ?_ ?_ ?_ ?_ ?_ ?_ ?_ ?_ ?_ ?_)
    | exact .inl rfl
    | dsimp only
    | dsimp only [id]

theorem execDestroyEventRing_frame {g : Fun} {s : State} :
    OutBut [StatePart.counters, .intx, .requests, .ats, .fnCfg, .admin, .int, .out] s (execDestroyEventRing g s) := by
  unfold execDestroyEventRing
  refine OutBut.of (fun L s0 hL hok => ?_)
  repeat' first
    | with_reducible assumption
    | with_reducible refine withEntry_frame (parts_sub (by decide) hL) ?_ ?_
    | with_reducible refine destroyRing_frame (parts_sub (by decide) hL) ?_
    | intro _ _ _
    | intro _ _
    | intro _
    | dsimp only
    | dsimp only [id]


/-! ### Machine/Contexts.lean -/

theorem takeCtxId_frame {L : List StatePart} {s0 : State} {s : State}
    (hL : ∀ p ∈ [StatePart.ctxs, .objs, .slots], p ∈ L) (hok : SameBut L s0 s) :
    SameBut L s0 (takeCtxId s) := by
  unfold takeCtxId
  repeat' first
    | with_reducible assumption
    | with_reducible exact .inl rfl
    | exact .inr (hL _ (by decide))
    | (extract_lets +onlyGivenNames x
       first
       | (refine sameStep (L := L) (s0 := s0) (x := x) (fun hx => ?_) ?_; clear_value x; rotate_left; subst x)
       | subst x)
    | with_reducible refine SameBut.ite ?_ ?_
    | intro _ _ _
    | intro _ _
    | intro _
    | split
    | (simp only [same_lit]; with_reducible refine SameLit.of ?_ ?_ ?_ ?_ ?_ ?_ ?_ ?_ ?_ ?_ ?_ ?_ ?_ ?_ ?_ ?_ ?_ ?_ ?_ ?_ ?_ ?_ ?_ ?_ ?_ ?_ ?_ ?_ ?_ ?_ ?_ ?_ ?_ ?_ ?_ ?_ ?_ ?_ ?_ ?_)
    | exact .inl rfl
    | dsimp only
    | dsimp only [id]

theorem addCtx_frame {L : List StatePart} {s0 : State} {c : CtxId} {x : Ctx} {s : State}
    (hL : ∀ p ∈ [StatePart.ctxs, .objs, .slots], p ∈ L) (hok : SameBut L s0 s) :
    SameBut L s0 (addCtx c x s) := by
  unfold addCtx
  repeat' first
    | with_reducible assumption
    | with_reducible exact .inl rfl
    | exact .inr (hL _ (by decide))
    | (extract_lets +onlyGivenNames x
       first
       | (refine sameStep (L := L) (s0 := s0) (x := x) (fun hx => ?_) ?_; clear_value x; rotate_left; subst x)
       | subst x)
    | with_reducible refine takeCtxId_frame (parts_sub (by decide) hL) ?_
    | intro _ _ _
    | intro _ _
    | intro _
    | (simp only [same_lit]; with_reducible refine SameLit.of ?_ ?_ ?_ ?_ ?_ ?_ ?_ ?_ ?_ ?_ ?_ ?_ ?_ ?_ ?_ ?_ ?_ ?_ ?_ ?_ ?_ ?_ ?_ ?_ ?_ ?_ ?_ ?_ ?_ ?_ ?_ ?_ ?_ ?_ ?_ ?_ ?_ ?_ ?_ ?_)
    | exact .inl rfl
    | dsimp only
    | dsimp only [id]

theorem rejectSchedule_frame {L : List StatePart} {s0 : State} {g : Fun} {b : Bytes} {r : Nat} {s : State}
    (hL : ∀ p ∈ [StatePart.counters, .requests, .ats, .admin, .int, .fnOther, .out], p ∈ L) (hok : SameBut L s0 s) :
    SameBut L s0 (rejectSchedule g b r s) := by
  unfold rejectSchedule
  repeat' first
    | with_reducible assumption
    | with_reducible exact .inl rfl
    | exact .inr (hL _ (by decide))
    | exact .inl fun _ => rfl
    | (extract_lets +onlyGivenNames x
       first
       | (refine sameStep (L := L) (s0 := s0) (x := x) (fun hx => ?_) ?_; clear_value x; rotate_left; subst x)
       | subst x)
    | with_reducible refine decide__frame (parts_sub (by decide) hL) ?_
    | with_reducible refine modFn_frame ?_ ?_ ?_ ?_ ?_ ?_ ?_ ?_ ?_ 
    | intro _ _ _
    | intro _ _
    | intro _
    | (simp only [same_lit]; with_reducible refine SameLit.of ?_ ?_ ?_ ?_ ?_ ?_ ?_ ?_ ?_ ?_ ?_ ?_ ?_ ?_ ?_ ?_ ?_ ?_ ?_ ?_ ?_ ?_ ?_ ?_ ?_ ?_ ?_ ?_ ?_ ?_ ?_ ?_ ?_ ?_ ?_ ?_ ?_ ?_ ?_ ?_)
    | exact .inl fun x => by (repeat' split) <;> rfl
    | exact .inl rfl
    | dsimp only
    | dsimp only [id]

theorem createFixed_frame {L : List StatePart} {s0 : State} {g : Fun} {c : CtxId} {b : Bytes} {o : MemObj} {s : State}
    (hL : ∀ p ∈ [StatePart.counters, .requests, .ats, .admin, .int, .fnOther, .ctxs, .objs, .slots, .entries, .lookups, .coherence, .memory, .pool, .out], p ∈ L) (hok : SameBut L s0 s) :
    SameBut L s0 (createFixed g c b o s) := by
  unfold createFixed
  repeat' first
    | with_reducible assumption
    | with_reducible exact .inl rfl
    | exact .inr (hL _ (by decide))
    | (extract_lets +onlyGivenNames x
       first
       | (refine sameStep (L := L) (s0 := s0) (x := x) (fun hx => ?_) ?_; clear_value x; rotate_left; subst x)
       | (refine sameStep (L := L) (s0 := s0) (x := x.1) (fun hx => ?_) ?_; clear_value x; rotate_left; subst x)
       | subst x)
    | with_reducible refine SameBut.ite ?_ ?_
    | with_reducible refine gateSnoops_frame (parts_sub (by decide) hL) ?_
    | with_reducible refine rejectSchedule_frame (parts_sub (by decide) hL) ?_
    | with_reducible refine countWalk_frame (parts_sub (by decide) hL) ?_
    | with_reducible refine decide__frame (parts_sub (by decide) hL) ?_
    | with_reducible refine startMoraine_frame (parts_sub (by decide) hL) ?_
    | with_reducible refine installLocked_frame (parts_sub (by decide) hL) ?_
    | with_reducible refine addCtx_frame (parts_sub (by decide) hL) ?_
    | with_reducible refine revokeWhere_frame (parts_sub (by decide) hL) ?_
    | with_reducible refine SameBut.ofPair ?_ (by with_reducible assumption)
    | intro _ _ _
    | intro _ _
    | intro _
    | split
    | (simp only [same_lit]; with_reducible refine SameLit.of ?_ ?_ ?_ ?_ ?_ ?_ ?_ ?_ ?_ ?_ ?_ ?_ ?_ ?_ ?_ ?_ ?_ ?_ ?_ ?_ ?_ ?_ ?_ ?_ ?_ ?_ ?_ ?_ ?_ ?_ ?_ ?_ ?_ ?_ ?_ ?_ ?_ ?_ ?_ ?_)
    | exact .inl rfl
    | dsimp only
    | dsimp only [id]

theorem createCtx_frame {L : List StatePart} {s0 : State} {g : Fun} {b : Bytes} {s : State}
    (hL : ∀ p ∈ [StatePart.counters, .requests, .ats, .admin, .int, .fnOther, .ctxs, .objs, .slots, .entries, .lookups, .coherence, .memory, .pool, .out], p ∈ L) (hok : SameBut L s0 s) :
    SameBut L s0 (createCtx g b s) := by
  unfold createCtx
  repeat' first
    | with_reducible assumption
    | with_reducible exact .inl rfl
    | exact .inr (hL _ (by decide))
    | (extract_lets +onlyGivenNames x
       first
       | (refine sameStep (L := L) (s0 := s0) (x := x) (fun hx => ?_) ?_; clear_value x; rotate_left; subst x)
       | subst x)
    | with_reducible refine SameBut.ite ?_ ?_
    | with_reducible refine decide__frame (parts_sub (by decide) hL) ?_
    | with_reducible refine addCtx_frame (parts_sub (by decide) hL) ?_
    | with_reducible refine createFixed_frame (parts_sub (by decide) hL) ?_
    | with_reducible refine SameBut.ofPair ?_ (by with_reducible assumption)
    | intro _ _ _
    | intro _ _
    | intro _
    | split
    | (simp only [same_lit]; with_reducible refine SameLit.of ?_ ?_ ?_ ?_ ?_ ?_ ?_ ?_ ?_ ?_ ?_ ?_ ?_ ?_ ?_ ?_ ?_ ?_ ?_ ?_ ?_ ?_ ?_ ?_ ?_ ?_ ?_ ?_ ?_ ?_ ?_ ?_ ?_ ?_ ?_ ?_ ?_ ?_ ?_ ?_)
    | exact .inl rfl
    | dsimp only
    | dsimp only [id]

theorem execCreateContext_frame {g : Fun} {s : State} :
    OutBut [StatePart.counters, .requests, .ats, .admin, .int, .fnOther, .ctxs, .objs, .slots, .entries, .lookups, .coherence, .memory, .pool, .out] s (execCreateContext g s) := by
  unfold execCreateContext
  refine OutBut.of (fun L s0 hL hok => ?_)
  repeat' first
    | with_reducible assumption
    | with_reducible refine SameBut.ite ?_ ?_
    | with_reducible refine withEntry_frame (parts_sub (by decide) hL) ?_ ?_
    | with_reducible refine createCtx_frame (parts_sub (by decide) hL) ?_
    | intro _ _ _
    | intro _ _
    | intro _
    | split
    | dsimp only
    | dsimp only [id]

theorem destroyCtx_frame {L : List StatePart} {s0 : State} {g : Fun} {b : Bytes} {s : State}
    (hL : ∀ p ∈ [StatePart.counters, .requests, .ats, .admin, .int, .ctxs, .cmds, .engines, .lookups, .peers, .windows, .memory, .det, .draws, .out], p ∈ L) (hok : SameBut L s0 s) :
    SameBut L s0 (destroyCtx g b s) := by
  unfold destroyCtx
  repeat' first
    | with_reducible assumption
    | with_reducible exact .inl rfl
    | exact .inr (hL _ (by decide))
    | (extract_lets +onlyGivenNames x
       first
       | (refine sameStep (L := L) (s0 := s0) (x := x) (fun hx => ?_) ?_; clear_value x; rotate_left; subst x)
       | subst x)
    | with_reducible refine SameBut.ite ?_ ?_
    | with_reducible refine decide__frame (parts_sub (by decide) hL) ?_
    | with_reducible refine abortContext_frame (parts_sub (by decide) hL) ?_
    | with_reducible refine dropTaken_frame (parts_sub (by decide) hL) ?_
    | with_reducible refine SameBut.ofPair ?_ (by with_reducible assumption)
    | intro _ _ _
    | intro _ _
    | intro _
    | split
    | (simp only [same_lit]; with_reducible refine SameLit.of ?_ ?_ ?_ ?_ ?_ ?_ ?_ ?_ ?_ ?_ ?_ ?_ ?_ ?_ ?_ ?_ ?_ ?_ ?_ ?_ ?_ ?_ ?_ ?_ ?_ ?_ ?_ ?_ ?_ ?_ ?_ ?_ ?_ ?_ ?_ ?_ ?_ ?_ ?_ ?_)
    | exact .inl rfl
    | dsimp only
    | dsimp only [id]

theorem execDestroyContext_frame {g : Fun} {s : State} :
    OutBut [StatePart.counters, .requests, .ats, .admin, .int, .ctxs, .cmds, .engines, .lookups, .peers, .windows, .memory, .det, .draws, .out] s (execDestroyContext g s) := by
  unfold execDestroyContext
  refine OutBut.of (fun L s0 hL hok => ?_)
  repeat' first
    | with_reducible assumption
    | with_reducible refine withEntry_frame (parts_sub (by decide) hL) ?_ ?_
    | with_reducible refine destroyCtx_frame (parts_sub (by decide) hL) ?_
    | intro _ _ _
    | intro _ _
    | intro _
    | dsimp only
    | dsimp only [id]

theorem execContextAbortComplete_frame {c : CtxId} {s : State} :
    OutBut [StatePart.od, .stored, .counters, .mgmt, .links, .intx, .fnCfg, .admin, .faultq, .int, .capture, .ctxs, .objs, .slots, .cmds, .engines, .lookups, .peers, .windows, .coherence, .memory, .err, .power, .out] s (execContextAbortComplete c s) := by
  unfold execContextAbortComplete
  refine OutBut.of (fun L s0 hL hok => ?_)
  repeat' first
    | with_reducible assumption
    | with_reducible refine SameBut.ite ?_ ?_
    | with_reducible refine destroyContext_frame (parts_sub (by decide) hL) ?_
    | intro _ _ _
    | intro _ _
    | intro _
    | split
    | dsimp only
    | dsimp only [id]

theorem queryCtx_frame {L : List StatePart} {s0 : State} {g : Fun} {b : Bytes} {s : State}
    (hL : ∀ p ∈ [StatePart.counters, .requests, .ats, .admin, .int, .out], p ∈ L) (hok : SameBut L s0 s) :
    SameBut L s0 (queryCtx g b s) := by
  unfold queryCtx
  repeat' first
    | with_reducible assumption
    | (extract_lets +onlyGivenNames x
       first
       | (refine sameStep (L := L) (s0 := s0) (x := x) (fun hx => ?_) ?_; clear_value x; rotate_left; subst x)
       | subst x)
    | with_reducible refine SameBut.ite ?_ ?_
    | with_reducible refine decide__frame (parts_sub (by decide) hL) ?_
    | with_reducible refine hostWrite_frame (parts_sub (by decide) hL) ?_
    | intro _ _ _
    | intro _ _
    | intro _
    | split
    | dsimp only
    | dsimp only [id]

theorem execQueryContext_frame {g : Fun} {s : State} :
    OutBut [StatePart.counters, .requests, .ats, .admin, .int, .out] s (execQueryContext g s) := by
  unfold execQueryContext
  refine OutBut.of (fun L s0 hL hok => ?_)
  repeat' first
    | with_reducible assumption
    | with_reducible refine withEntry_frame (parts_sub (by decide) hL) ?_ ?_
    | with_reducible refine queryCtx_frame (parts_sub (by decide) hL) ?_
    | intro _ _ _
    | intro _ _
    | intro _
    | dsimp only
    | dsimp only [id]


/-! ### Machine/MemObjects.lean -/

theorem addObj_frame {L : List StatePart} {s0 : State} {o : MemObj} {s : State}
    (hL : ∀ p ∈ [StatePart.objs, .slots], p ∈ L) (hok : SameBut L s0 s) :
    SameBut L s0 (addObj o s) := by
  unfold addObj
  repeat' first
    | with_reducible assumption
    | with_reducible exact .inl rfl
    | exact .inr (hL _ (by decide))
    | (extract_lets +onlyGivenNames x
       first
       | (refine sameStep (L := L) (s0 := s0) (x := x) (fun hx => ?_) ?_; clear_value x; rotate_left; subst x)
       | subst x)
    | intro _ _ _
    | intro _ _
    | intro _
    | (simp only [same_lit]; with_reducible refine SameLit.of ?_ ?_ ?_ ?_ ?_ ?_ ?_ ?_ ?_ ?_ ?_ ?_ ?_ ?_ ?_ ?_ ?_ ?_ ?_ ?_ ?_ ?_ ?_ ?_ ?_ ?_ ?_ ?_ ?_ ?_ ?_ ?_ ?_ ?_ ?_ ?_ ?_ ?_ ?_ ?_)
    | exact .inl rfl
    | dsimp only
    | dsimp only [id]

theorem createObj_frame {L : List StatePart} {s0 : State} {g : Fun} {b : Bytes} {s : State}
    (hL : ∀ p ∈ [StatePart.counters, .requests, .ats, .admin, .int, .objs, .slots, .out], p ∈ L) (hok : SameBut L s0 s) :
    SameBut L s0 (createObj g b s) := by
  unfold createObj
  repeat' first
    | with_reducible assumption
    | with_reducible exact .inl rfl
    | exact .inr (hL _ (by decide))
    | (extract_lets +onlyGivenNames x
       first
       | (refine sameStep (L := L) (s0 := s0) (x := x) (fun hx => ?_) ?_; clear_value x; rotate_left; subst x)
       | subst x)
    | with_reducible refine SameBut.ite ?_ ?_
    | with_reducible refine decide__frame (parts_sub (by decide) hL) ?_
    | with_reducible refine addObj_frame (parts_sub (by decide) hL) ?_
    | with_reducible refine SameBut.ofPair ?_ (by with_reducible assumption)
    | intro _ _ _
    | intro _ _
    | intro _
    | split
    | (simp only [same_lit]; with_reducible refine SameLit.of ?_ ?_ ?_ ?_ ?_ ?_ ?_ ?_ ?_ ?_ ?_ ?_ ?_ ?_ ?_ ?_ ?_ ?_ ?_ ?_ ?_ ?_ ?_ ?_ ?_ ?_ ?_ ?_ ?_ ?_ ?_ ?_ ?_ ?_ ?_ ?_ ?_ ?_ ?_ ?_)
    | exact .inl rfl
    | dsimp only
    | dsimp only [id]

theorem execCreateObject_frame {g : Fun} {s : State} :
    OutBut [StatePart.counters, .requests, .ats, .admin, .int, .objs, .slots, .out] s (execCreateObject g s) := by
  unfold execCreateObject
  refine OutBut.of (fun L s0 hL hok => ?_)
  repeat' first
    | with_reducible assumption
    | with_reducible refine withEntry_frame (parts_sub (by decide) hL) ?_ ?_
    | with_reducible refine createObj_frame (parts_sub (by decide) hL) ?_
    | intro _ _ _
    | intro _ _
    | intro _
    | dsimp only
    | dsimp only [id]

theorem freeObj_frame {L : List StatePart} {s0 : State} {g : Fun} {b : Bytes} {s : State}
    (hL : ∀ p ∈ [StatePart.od, .stored, .counters, .mgmt, .links, .intx, .requests, .ats, .fnCfg, .admin, .int, .capture, .ctxs, .objs, .slots, .cmds, .engines, .lookups, .peers, .windows, .coherence, .err, .power, .out], p ∈ L) (hok : SameBut L s0 s) :
    SameBut L s0 (freeObj g b s) := by
  unfold freeObj
  repeat' first
    | with_reducible assumption
    | with_reducible exact .inl rfl
    | exact .inr (hL _ (by decide))
    | (extract_lets +onlyGivenNames x
       first
       | (refine sameStep (L := L) (s0 := s0) (x := x) (fun hx => ?_) ?_; clear_value x; rotate_left; subst x)
       | subst x)
    | with_reducible refine SameBut.ite ?_ ?_
    | with_reducible refine decide__frame (parts_sub (by decide) hL) ?_
    | with_reducible refine freeStart_frame (parts_sub (by decide) hL) ?_
    | with_reducible refine dropTaken_frame (parts_sub (by decide) hL) ?_
    | with_reducible refine SameBut.ofPair ?_ (by with_reducible assumption)
    | intro _ _ _
    | intro _ _
    | intro _
    | split
    | (simp only [same_lit]; with_reducible refine SameLit.of ?_ ?_ ?_ ?_ ?_ ?_ ?_ ?_ ?_ ?_ ?_ ?_ ?_ ?_ ?_ ?_ ?_ ?_ ?_ ?_ ?_ ?_ ?_ ?_ ?_ ?_ ?_ ?_ ?_ ?_ ?_ ?_ ?_ ?_ ?_ ?_ ?_ ?_ ?_ ?_)
    | exact .inl rfl
    | dsimp only
    | dsimp only [id]

theorem execFreeObject_frame {g : Fun} {s : State} :
    OutBut [StatePart.od, .stored, .counters, .mgmt, .links, .intx, .requests, .ats, .fnCfg, .admin, .int, .capture, .ctxs, .objs, .slots, .cmds, .engines, .lookups, .peers, .windows, .coherence, .err, .power, .out] s (execFreeObject g s) := by
  unfold execFreeObject
  refine OutBut.of (fun L s0 hL hok => ?_)
  repeat' first
    | with_reducible assumption
    | with_reducible refine withEntry_frame (parts_sub (by decide) hL) ?_ ?_
    | with_reducible refine freeObj_frame (parts_sub (by decide) hL) ?_
    | intro _ _ _
    | intro _ _
    | intro _
    | dsimp only
    | dsimp only [id]

theorem execFreeObjectComplete_frame {slot : Nat} {s : State} :
    OutBut [StatePart.admin, .objs, .slots, .pool] s (execFreeObjectComplete slot s) := by
  unfold execFreeObjectComplete
  refine OutBut.of (fun L s0 hL hok => ?_)
  repeat' first
    | with_reducible assumption
    | with_reducible refine SameBut.ite ?_ ?_
    | with_reducible refine freeFinish_frame (parts_sub (by decide) hL) ?_
    | intro _ _ _
    | intro _ _
    | intro _
    | split
    | dsimp only
    | dsimp only [id]

theorem startGrantDrop_frame {L : List StatePart} {s0 : State} {slot : Nat} {t : Fun} {r : AdminRef} {s : State}
    (hL : ∀ p ∈ [StatePart.objs, .lookups], p ∈ L) (hok : SameBut L s0 s) :
    SameBut L s0 (startGrantDrop slot t r s) := by
  unfold startGrantDrop
  repeat' first
    | with_reducible assumption
    | with_reducible exact .inl rfl
    | exact .inr (hL _ (by decide))
    | (extract_lets +onlyGivenNames x
       first
       | (refine sameStep (L := L) (s0 := s0) (x := x) (fun hx => ?_) ?_; clear_value x; rotate_left; subst x)
       | subst x)
    | with_reducible refine startScan_frame (parts_sub (by decide) hL) ?_
    | with_reducible refine modObj_frame (parts_sub (by decide) hL) ?_
    | intro _ _ _
    | intro _ _
    | intro _
    | (simp only [same_lit]; with_reducible refine SameLit.of ?_ ?_ ?_ ?_ ?_ ?_ ?_ ?_ ?_ ?_ ?_ ?_ ?_ ?_ ?_ ?_ ?_ ?_ ?_ ?_ ?_ ?_ ?_ ?_ ?_ ?_ ?_ ?_ ?_ ?_ ?_ ?_ ?_ ?_ ?_ ?_ ?_ ?_ ?_ ?_)
    | exact .inl rfl
    | dsimp only
    | dsimp only [id]

theorem setGrant_frame {L : List StatePart} {s0 : State} {slot : Nat} {t : Fun} {r : Rights} {s : State}
    (hL : ∀ p ∈ [StatePart.objs], p ∈ L) (hok : SameBut L s0 s) :
    SameBut L s0 (setGrant slot t r s) := by
  unfold setGrant
  repeat' first
    | with_reducible assumption
    | with_reducible exact .inl rfl
    | exact .inr (hL _ (by decide))
    | (extract_lets +onlyGivenNames x
       first
       | (refine sameStep (L := L) (s0 := s0) (x := x) (fun hx => ?_) ?_; clear_value x; rotate_left; subst x)
       | (refine sameStep (L := L) (s0 := s0) (x := x.1) (fun hx => ?_) ?_; clear_value x; rotate_left; subst x)
       | subst x)
    | with_reducible refine modObj_frame (parts_sub (by decide) hL) ?_
    | intro _ _ _
    | intro _ _
    | intro _
    | (simp only [same_lit]; with_reducible refine SameLit.of ?_ ?_ ?_ ?_ ?_ ?_ ?_ ?_ ?_ ?_ ?_ ?_ ?_ ?_ ?_ ?_ ?_ ?_ ?_ ?_ ?_ ?_ ?_ ?_ ?_ ?_ ?_ ?_ ?_ ?_ ?_ ?_ ?_ ?_ ?_ ?_ ?_ ?_ ?_ ?_)
    | exact .inl rfl
    | dsimp only
    | dsimp only [id]

theorem grantObj_frame {L : List StatePart} {s0 : State} {g : Fun} {b : Bytes} {s : State}
    (hL : ∀ p ∈ [StatePart.counters, .requests, .ats, .admin, .int, .objs, .lookups, .out], p ∈ L) (hok : SameBut L s0 s) :
    SameBut L s0 (grantObj g b s) := by
  unfold grantObj
  repeat' first
    | with_reducible assumption
    | with_reducible exact .inl rfl
    | exact .inr (hL _ (by decide))
    | (extract_lets +onlyGivenNames x
       first
       | (refine sameStep (L := L) (s0 := s0) (x := x) (fun hx => ?_) ?_; clear_value x; rotate_left; subst x)
       | subst x)
    | with_reducible refine SameBut.ite ?_ ?_
    | with_reducible refine decide__frame (parts_sub (by decide) hL) ?_
    | with_reducible refine setGrant_frame (parts_sub (by decide) hL) ?_
    | with_reducible refine startGrantDrop_frame (parts_sub (by decide) hL) ?_
    | with_reducible refine dropTaken_frame (parts_sub (by decide) hL) ?_
    | with_reducible refine SameBut.ofPair ?_ (by with_reducible assumption)
    | intro _ _ _
    | intro _ _
    | intro _
    | split
    | (simp only [same_lit]; with_reducible refine SameLit.of ?_ ?_ ?_ ?_ ?_ ?_ ?_ ?_ ?_ ?_ ?_ ?_ ?_ ?_ ?_ ?_ ?_ ?_ ?_ ?_ ?_ ?_ ?_ ?_ ?_ ?_ ?_ ?_ ?_ ?_ ?_ ?_ ?_ ?_ ?_ ?_ ?_ ?_ ?_ ?_)
    | exact .inl rfl
    | dsimp only
    | dsimp only [id]

theorem execGrantObject_frame {g : Fun} {s : State} :
    OutBut [StatePart.counters, .requests, .ats, .admin, .int, .objs, .lookups, .out] s (execGrantObject g s) := by
  unfold execGrantObject
  refine OutBut.of (fun L s0 hL hok => ?_)
  repeat' first
    | with_reducible assumption
    | with_reducible refine withEntry_frame (parts_sub (by decide) hL) ?_ ?_
    | with_reducible refine grantObj_frame (parts_sub (by decide) hL) ?_
    | intro _ _ _
    | intro _ _
    | intro _
    | dsimp only
    | dsimp only [id]

theorem revokeObj_frame {L : List StatePart} {s0 : State} {g : Fun} {b : Bytes} {s : State}
    (hL : ∀ p ∈ [StatePart.counters, .requests, .ats, .admin, .int, .objs, .lookups, .out], p ∈ L) (hok : SameBut L s0 s) :
    SameBut L s0 (revokeObj g b s) := by
  unfold revokeObj
  repeat' first
    | with_reducible assumption
    | with_reducible exact .inl rfl
    | exact .inr (hL _ (by decide))
    | (extract_lets +onlyGivenNames x
       first
       | (refine sameStep (L := L) (s0 := s0) (x := x) (fun hx => ?_) ?_; clear_value x; rotate_left; subst x)
       | (refine sameStep (L := L) (s0 := s0) (x := x.1) (fun hx => ?_) ?_; clear_value x; rotate_left; subst x)
       | subst x)
    | with_reducible refine SameBut.ite ?_ ?_
    | with_reducible refine decide__frame (parts_sub (by decide) hL) ?_
    | with_reducible refine startGrantDrop_frame (parts_sub (by decide) hL) ?_
    | with_reducible refine modObj_frame (parts_sub (by decide) hL) ?_
    | with_reducible refine dropTaken_frame (parts_sub (by decide) hL) ?_
    | with_reducible refine SameBut.ofPair ?_ (by with_reducible assumption)
    | intro _ _ _
    | intro _ _
    | intro _
    | split
    | (simp only [same_lit]; with_reducible refine SameLit.of ?_ ?_ ?_ ?_ ?_ ?_ ?_ ?_ ?_ ?_ ?_ ?_ ?_ ?_ ?_ ?_ ?_ ?_ ?_ ?_ ?_ ?_ ?_ ?_ ?_ ?_ ?_ ?_ ?_ ?_ ?_ ?_ ?_ ?_ ?_ ?_ ?_ ?_ ?_ ?_)
    | exact .inl rfl
    | dsimp only
    | dsimp only [id]

theorem execRevokeGrant_frame {g : Fun} {s : State} :
    OutBut [StatePart.counters, .requests, .ats, .admin, .int, .objs, .lookups, .out] s (execRevokeGrant g s) := by
  unfold execRevokeGrant
  refine OutBut.of (fun L s0 hL hok => ?_)
  repeat' first
    | with_reducible assumption
    | with_reducible refine withEntry_frame (parts_sub (by decide) hL) ?_ ?_
    | with_reducible refine revokeObj_frame (parts_sub (by decide) hL) ?_
    | intro _ _ _
    | intro _ _
    | intro _
    | dsimp only
    | dsimp only [id]

theorem finishGrantDrop_frame {L : List StatePart} {s0 : State} {slot : Nat} {t : Fun} {s : State}
    (hL : ∀ p ∈ [StatePart.admin, .objs], p ∈ L) (hok : SameBut L s0 s) :
    SameBut L s0 (finishGrantDrop slot t s) := by
  unfold finishGrantDrop
  repeat' first
    | with_reducible assumption
    | with_reducible exact .inl rfl
    | exact .inr (hL _ (by decide))
    | (extract_lets +onlyGivenNames x
       first
       | (refine sameStep (L := L) (s0 := s0) (x := x) (fun hx => ?_) ?_; clear_value x; rotate_left; subst x)
       | (refine sameStep (L := L) (s0 := s0) (x := x.1) (fun hx => ?_) ?_; clear_value x; rotate_left; subst x)
       | subst x)
    | with_reducible refine foldState_frame (fun _ _ _ => ?_) ?_
    | with_reducible refine adminDone_frame (parts_sub (by decide) hL) ?_
    | with_reducible refine modObj_frame (parts_sub (by decide) hL) ?_
    | with_reducible refine SameBut.ofPair ?_ (by with_reducible assumption)
    | intro _ _ _
    | intro _ _
    | intro _
    | split
    | (simp only [same_lit]; with_reducible refine SameLit.of ?_ ?_ ?_ ?_ ?_ ?_ ?_ ?_ ?_ ?_ ?_ ?_ ?_ ?_ ?_ ?_ ?_ ?_ ?_ ?_ ?_ ?_ ?_ ?_ ?_ ?_ ?_ ?_ ?_ ?_ ?_ ?_ ?_ ?_ ?_ ?_ ?_ ?_ ?_ ?_)
    | exact .inl rfl
    | dsimp only
    | dsimp only [id]

theorem execGrantDropComplete_frame {slot : Nat} {t : Fun} {s : State} :
    OutBut [StatePart.admin, .objs] s (execGrantDropComplete slot t s) := by
  unfold execGrantDropComplete
  refine OutBut.of (fun L s0 hL hok => ?_)
  repeat' first
    | with_reducible assumption
    | with_reducible refine SameBut.ite ?_ ?_
    | with_reducible refine finishGrantDrop_frame (parts_sub (by decide) hL) ?_
    | intro _ _ _
    | intro _ _
    | intro _
    | split
    | dsimp only
    | dsimp only [id]

theorem execFenceSignal_frame {g : Fun} {h : U64} {word : Nat} {v : U64} {s : State} :
    OutBut [StatePart.counters, .int, .ctxs, .slots, .memory, .pool, .out] s (execFenceSignal g h word v s) := by
  unfold execFenceSignal
  refine OutBut.of (fun L s0 hL hok => ?_)
  repeat' first
    | with_reducible assumption
    | with_reducible exact .inl rfl
    | exact .inr (hL _ (by decide))
    | (extract_lets +onlyGivenNames x
       first
       | (refine sameStep (L := L) (s0 := s0) (x := x) (fun hx => ?_) ?_; clear_value x; rotate_left; subst x)
       | subst x)
    | with_reducible refine SameBut.ite ?_ ?_
    | with_reducible refine signalFence_frame (parts_sub (by decide) hL) ?_
    | with_reducible refine SameBut.ofPair ?_ (by with_reducible assumption)
    | intro _ _ _
    | intro _ _
    | intro _
    | split
    | (simp only [same_lit]; with_reducible refine SameLit.of ?_ ?_ ?_ ?_ ?_ ?_ ?_ ?_ ?_ ?_ ?_ ?_ ?_ ?_ ?_ ?_ ?_ ?_ ?_ ?_ ?_ ?_ ?_ ?_ ?_ ?_ ?_ ?_ ?_ ?_ ?_ ?_ ?_ ?_ ?_ ?_ ?_ ?_ ?_ ?_)
    | exact .inl rfl
    | dsimp only
    | dsimp only [id]

theorem releaseWait_frame {L : List StatePart} {s0 : State} {c : CtxId} {s : State}
    (hL : ∀ p ∈ [StatePart.od, .stored, .counters, .mgmt, .links, .intx, .fnCfg, .int, .capture, .ctxs, .cmds, .engines, .lookups, .peers, .windows, .err, .power, .out], p ∈ L) (hok : SameBut L s0 s) :
    SameBut L s0 (releaseWait c s) := by
  unfold releaseWait
  repeat' first
    | with_reducible assumption
    | with_reducible exact .inl rfl
    | exact .inr (hL _ (by decide))
    | (extract_lets +onlyGivenNames x
       first
       | (refine sameStep (L := L) (s0 := s0) (x := x) (fun hx => ?_) ?_; clear_value x; rotate_left; subst x)
       | subst x)
    | with_reducible refine SameBut.ite ?_ ?_
    | with_reducible refine faultCmd_frame (parts_sub (by decide) hL) ?_
    | with_reducible refine countPackage_frame (parts_sub (by decide) hL) ?_
    | with_reducible refine modCmd_frame (parts_sub (by decide) hL) ?_
    | with_reducible refine SameBut.ofPair ?_ (by with_reducible assumption)
    | intro _ _ _
    | intro _ _
    | intro _
    | split
    | (simp only [same_lit]; with_reducible refine SameLit.of ?_ ?_ ?_ ?_ ?_ ?_ ?_ ?_ ?_ ?_ ?_ ?_ ?_ ?_ ?_ ?_ ?_ ?_ ?_ ?_ ?_ ?_ ?_ ?_ ?_ ?_ ?_ ?_ ?_ ?_ ?_ ?_ ?_ ?_ ?_ ?_ ?_ ?_ ?_ ?_)
    | exact .inl rfl
    | dsimp only
    | dsimp only [id]

theorem execFenceWaitRelease_frame {c : CtxId} {s : State} :
    OutBut [StatePart.od, .stored, .counters, .mgmt, .links, .intx, .fnCfg, .int, .capture, .ctxs, .cmds, .engines, .lookups, .peers, .windows, .err, .power, .out] s (execFenceWaitRelease c s) := by
  unfold execFenceWaitRelease
  refine OutBut.of (fun L s0 hL hok => ?_)
  repeat' first
    | with_reducible assumption
    | with_reducible refine releaseWait_frame (parts_sub (by decide) hL) ?_
    | intro _ _ _
    | intro _ _
    | intro _
    | dsimp only
    | dsimp only [id]

theorem writeMirror_frame {L : List StatePart} {s0 : State} {slot word : Nat} {s : State}
    (hL : ∀ p ∈ [StatePart.ats, .slots, .out], p ∈ L) (hok : SameBut L s0 s) :
    SameBut L s0 (writeMirror slot word s) := by
  unfold writeMirror
  repeat' first
    | with_reducible assumption
    | with_reducible exact .inl rfl
    | exact .inr (hL _ (by decide))
    | (extract_lets +onlyGivenNames x
       first
       | (refine sameStep (L := L) (s0 := s0) (x := x) (fun hx => ?_) ?_; clear_value x; rotate_left; subst x)
       | (refine sameStep (L := L) (s0 := s0) (x := x.1) (fun hx => ?_) ?_; clear_value x; rotate_left; subst x)
       | subst x)
    | with_reducible refine SameBut.ite ?_ ?_
    | with_reducible refine hostWrite_frame (parts_sub (by decide) hL) ?_
    | with_reducible refine SameBut.ofPair ?_ (by with_reducible assumption)
    | intro _ _ _
    | intro _ _
    | intro _
    | split
    | (simp only [same_lit]; with_reducible refine SameLit.of ?_ ?_ ?_ ?_ ?_ ?_ ?_ ?_ ?_ ?_ ?_ ?_ ?_ ?_ ?_ ?_ ?_ ?_ ?_ ?_ ?_ ?_ ?_ ?_ ?_ ?_ ?_ ?_ ?_ ?_ ?_ ?_ ?_ ?_ ?_ ?_ ?_ ?_ ?_ ?_)
    | exact .inl rfl
    | dsimp only
    | dsimp only [id]

theorem execFenceMirrorWrite_frame {slot word : Nat} {s : State} :
    OutBut [StatePart.ats, .slots, .out] s (execFenceMirrorWrite slot word s) := by
  unfold execFenceMirrorWrite
  refine OutBut.of (fun L s0 hL hok => ?_)
  repeat' first
    | with_reducible assumption
    | with_reducible refine writeMirror_frame (parts_sub (by decide) hL) ?_
    | intro _ _ _
    | intro _ _
    | intro _
    | dsimp only
    | dsimp only [id]


/-! ### Machine/FixedRun.lean -/

theorem modFixed_frame {L : List StatePart} {s0 : State} {c : CtxId} {f : FixedSt → FixedSt} {s : State}
    (hL : ∀ p ∈ [StatePart.ctxs], p ∈ L) (hok : SameBut L s0 s) :
    SameBut L s0 (modFixed c f s) := by
  unfold modFixed
  repeat' first
    | with_reducible assumption
    | with_reducible exact .inl rfl
    | exact .inr (hL _ (by decide))
    | (extract_lets +onlyGivenNames x
       first
       | (refine sameStep (L := L) (s0 := s0) (x := x) (fun hx => ?_) ?_; clear_value x; rotate_left; subst x)
       | subst x)
    | with_reducible refine modCtx_frame (parts_sub (by decide) hL) ?_
    | intro _ _ _
    | intro _ _
    | intro _
    | (simp only [same_lit]; with_reducible refine SameLit.of ?_ ?_ ?_ ?_ ?_ ?_ ?_ ?_ ?_ ?_ ?_ ?_ ?_ ?_ ?_ ?_ ?_ ?_ ?_ ?_ ?_ ?_ ?_ ?_ ?_ ?_ ?_ ?_ ?_ ?_ ?_ ?_ ?_ ?_ ?_ ?_ ?_ ?_ ?_ ?_)
    | exact .inl rfl
    | dsimp only
    | dsimp only [id]

theorem evictBefore_frame {L : List StatePart} {s0 : State} {c : CtxId} {runs : List (Nat × Nat × Nat)} {s : State}
    (hL : ∀ p ∈ [StatePart.memory, .draws, .out], p ∈ L) (hok : SameBut L s0 s) :
    SameBut L s0 (evictBefore c runs s) := by
  unfold evictBefore
  repeat' first
    | with_reducible assumption
    | with_reducible refine SameBut.ite ?_ ?_
    | with_reducible refine foldState_frame (fun _ _ _ => ?_) ?_
    | with_reducible refine mayEvictSpan_frame (parts_sub (by decide) hL) ?_
    | intro _ _ _
    | intro _ _
    | intro _
    | split
    | dsimp only
    | dsimp only [id]

theorem noteLog_frame {L : List StatePart} {s0 : State} {c : CtxId} {e : Bytes} {s : State}
    (hL : ∀ p ∈ [StatePart.ctxs], p ∈ L) (hok : SameBut L s0 s) :
    SameBut L s0 (noteLog c e s) := by
  unfold noteLog
  repeat' first
    | with_reducible assumption
    | with_reducible exact .inl rfl
    | exact .inr (hL _ (by decide))
    | (extract_lets +onlyGivenNames x
       first
       | (refine sameStep (L := L) (s0 := s0) (x := x) (fun hx => ?_) ?_; clear_value x; rotate_left; subst x)
       | subst x)
    | with_reducible refine SameBut.ite ?_ ?_
    | with_reducible refine modFixed_frame (parts_sub (by decide) hL) ?_
    | intro _ _ _
    | intro _ _
    | intro _
    | split
    | (simp only [same_lit]; with_reducible refine SameLit.of ?_ ?_ ?_ ?_ ?_ ?_ ?_ ?_ ?_ ?_ ?_ ?_ ?_ ?_ ?_ ?_ ?_ ?_ ?_ ?_ ?_ ?_ ?_ ?_ ?_ ?_ ?_ ?_ ?_ ?_ ?_ ?_ ?_ ?_ ?_ ?_ ?_ ?_ ?_ ?_)
    | exact .inl rfl
    | dsimp only
    | dsimp only [id]

theorem setMoraineQ_frame {L : List StatePart} {s0 : State} {o : MemObj} {i v : Nat} {s : State}
    (hL : ∀ p ∈ [StatePart.counters, .int, .memory, .pool, .out], p ∈ L) (hok : SameBut L s0 s) :
    SameBut L s0 (setMoraineQ o i v s) := by
  unfold setMoraineQ
  repeat' first
    | with_reducible assumption
    | with_reducible refine poolWrite_frame (parts_sub (by decide) hL) ?_
    | intro _ _ _
    | intro _ _
    | intro _
    | dsimp only
    | dsimp only [id]

theorem setMoraineState_frame {L : List StatePart} {s0 : State} {o : MemObj} {st : Nat} {s : State}
    (hL : ∀ p ∈ [StatePart.counters, .int, .memory, .pool, .out], p ∈ L) (hok : SameBut L s0 s) :
    SameBut L s0 (setMoraineState o st s) := by
  unfold setMoraineState
  repeat' first
    | with_reducible assumption
    | with_reducible refine poolWrite_frame (parts_sub (by decide) hL) ?_
    | intro _ _ _
    | intro _ _
    | intro _
    | dsimp only
    | dsimp only [id]

theorem appendEntry_frame {L : List StatePart} {s0 : State} {c : CtxId} {o : MemObj} {e : Bytes} {s : State}
    (hL : ∀ p ∈ [StatePart.counters, .int, .ctxs, .memory, .pool, .out], p ∈ L) (hok : SameBut L s0 s) :
    SameBut L s0 (appendEntry c o e s) := by
  unfold appendEntry
  repeat' first
    | with_reducible assumption
    | with_reducible exact .inl rfl
    | exact .inr (hL _ (by decide))
    | (extract_lets +onlyGivenNames x
       first
       | (refine sameStep (L := L) (s0 := s0) (x := x) (fun hx => ?_) ?_; clear_value x; rotate_left; subst x)
       | subst x)
    | with_reducible refine SameBut.ite ?_ ?_
    | with_reducible refine setMoraineState_frame (parts_sub (by decide) hL) ?_
    | with_reducible refine modFixed_frame (parts_sub (by decide) hL) ?_
    | with_reducible refine poolWrite_frame (parts_sub (by decide) hL) ?_
    | with_reducible refine setMoraineQ_frame (parts_sub (by decide) hL) ?_
    | intro _ _ _
    | intro _ _
    | intro _
    | split
    | (simp only [same_lit]; with_reducible refine SameLit.of ?_ ?_ ?_ ?_ ?_ ?_ ?_ ?_ ?_ ?_ ?_ ?_ ?_ ?_ ?_ ?_ ?_ ?_ ?_ ?_ ?_ ?_ ?_ ?_ ?_ ?_ ?_ ?_ ?_ ?_ ?_ ?_ ?_ ?_ ?_ ?_ ?_ ?_ ?_ ?_)
    | exact .inl rfl
    | dsimp only
    | dsimp only [id]

theorem appendEach_frame {L : List StatePart} {s0 : State} {c : CtxId} {o : MemObj} {r0 : List Bytes} {s : State}
    (hL : ∀ p ∈ [StatePart.counters, .int, .ctxs, .coherence, .memory, .pool, .out], p ∈ L) (hok : SameBut L s0 s) :
    SameBut L s0 (appendEach c o r0 s) := by
  induction r0 generalizing s with
  | nil =>
    unfold appendEach
    repeat' first
      | with_reducible assumption
      | with_reducible exact .inl rfl
      | exact .inr (hL _ (by decide))
      | (extract_lets +onlyGivenNames x
         first
         | (refine sameStep (L := L) (s0 := s0) (x := x) (fun hx => ?_) ?_; clear_value x; rotate_left; subst x)
         | (refine sameStep (L := L) (s0 := s0) (x := x.1) (fun hx => ?_) ?_; clear_value x; rotate_left; subst x)
         | subst x)
      | with_reducible refine SameBut.ite ?_ ?_
      | with_reducible refine modFixed_frame (parts_sub (by decide) hL) ?_
      | with_reducible refine foldState_frame (fun _ _ _ => ?_) ?_
      | with_reducible refine gateSnoops_frame (parts_sub (by decide) hL) ?_
      | with_reducible refine appendEntry_frame (parts_sub (by decide) hL) ?_
      | intro _ _ _
      | intro _ _
      | intro _
      | split
      | (simp only [same_lit]; with_reducible refine SameLit.of ?_ ?_ ?_ ?_ ?_ ?_ ?_ ?_ ?_ ?_ ?_ ?_ ?_ ?_ ?_ ?_ ?_ ?_ ?_ ?_ ?_ ?_ ?_ ?_ ?_ ?_ ?_ ?_ ?_ ?_ ?_ ?_ ?_ ?_ ?_ ?_ ?_ ?_ ?_ ?_)
      | exact .inl rfl
      | dsimp only
      | dsimp only [id]
  | cons x r0 ih =>
    unfold appendEach
    repeat' first
      | with_reducible assumption
      | (extract_lets +onlyGivenNames x
         first
         | (refine sameStep (L := L) (s0 := s0) (x := x) (fun hx => ?_) ?_; clear_value x; rotate_left; subst x)
         | (refine sameStep (L := L) (s0 := s0) (x := x.1) (fun hx => ?_) ?_; clear_value x; rotate_left; subst x)
         | subst x)
      | with_reducible apply ih
      | with_reducible exact .inl rfl
      | exact .inr (hL _ (by decide))
      | with_reducible refine SameBut.ite ?_ ?_
      | with_reducible refine modFixed_frame (parts_sub (by decide) hL) ?_
      | with_reducible refine foldState_frame (fun _ _ _ => ?_) ?_
      | with_reducible refine gateSnoops_frame (parts_sub (by decide) hL) ?_
      | with_reducible refine appendEntry_frame (parts_sub (by decide) hL) ?_
      | intro _ _ _
      | intro _ _
      | intro _
      | split
      | (simp only [same_lit]; with_reducible refine SameLit.of ?_ ?_ ?_ ?_ ?_ ?_ ?_ ?_ ?_ ?_ ?_ ?_ ?_ ?_ ?_ ?_ ?_ ?_ ?_ ?_ ?_ ?_ ?_ ?_ ?_ ?_ ?_ ?_ ?_ ?_ ?_ ?_ ?_ ?_ ?_ ?_ ?_ ?_ ?_ ?_)
      | exact .inl rfl
      | dsimp only
      | dsimp only [id]

theorem appendLog_frame {L : List StatePart} {s0 : State} {c : CtxId} {s : State}
    (hL : ∀ p ∈ [StatePart.counters, .int, .ctxs, .coherence, .memory, .pool, .out], p ∈ L) (hok : SameBut L s0 s) :
    SameBut L s0 (appendLog c s) := by
  unfold appendLog
  repeat' first
    | with_reducible assumption
    | with_reducible exact .inl rfl
    | exact .inr (hL _ (by decide))
    | (extract_lets +onlyGivenNames x
       first
       | (refine sameStep (L := L) (s0 := s0) (x := x) (fun hx => ?_) ?_; clear_value x; rotate_left; subst x)
       | subst x)
    | with_reducible refine appendEach_frame (parts_sub (by decide) hL) ?_
    | with_reducible refine modFixed_frame (parts_sub (by decide) hL) ?_
    | with_reducible refine SameBut.ofPair ?_ (by with_reducible assumption)
    | intro _ _ _
    | intro _ _
    | intro _
    | split
    | (simp only [same_lit]; with_reducible refine SameLit.of ?_ ?_ ?_ ?_ ?_ ?_ ?_ ?_ ?_ ?_ ?_ ?_ ?_ ?_ ?_ ?_ ?_ ?_ ?_ ?_ ?_ ?_ ?_ ?_ ?_ ?_ ?_ ?_ ?_ ?_ ?_ ?_ ?_ ?_ ?_ ?_ ?_ ?_ ?_ ?_)
    | exact .inl rfl
    | dsimp only
    | dsimp only [id]

theorem replayWrite_frame {L : List StatePart} {s0 : State} {c : CtxId} {o : MemObj} {off : Nat} {b : Bytes} {s : State}
    (hL : ∀ p ∈ [StatePart.counters, .int, .ctxs, .memory, .pool, .out], p ∈ L) (hok : SameBut L s0 s) :
    SameBut L s0 (replayWrite c o off b s) := by
  unfold replayWrite
  repeat' first
    | with_reducible assumption
    | with_reducible exact .inl rfl
    | exact .inr (hL _ (by decide))
    | (extract_lets +onlyGivenNames x
       first
       | (refine sameStep (L := L) (s0 := s0) (x := x) (fun hx => ?_) ?_; clear_value x; rotate_left; subst x)
       | subst x)
    | with_reducible refine SameBut.ite ?_ ?_
    | with_reducible refine poolWrite_frame (parts_sub (by decide) hL) ?_
    | with_reducible refine modFixed_frame (parts_sub (by decide) hL) ?_
    | intro _ _ _
    | intro _ _
    | intro _
    | split
    | (simp only [same_lit]; with_reducible refine SameLit.of ?_ ?_ ?_ ?_ ?_ ?_ ?_ ?_ ?_ ?_ ?_ ?_ ?_ ?_ ?_ ?_ ?_ ?_ ?_ ?_ ?_ ?_ ?_ ?_ ?_ ?_ ?_ ?_ ?_ ?_ ?_ ?_ ?_ ?_ ?_ ?_ ?_ ?_ ?_ ?_)
    | exact .inl rfl
    | dsimp only
    | dsimp only [id]

theorem flushEach_frame {L : List StatePart} {s0 : State} {c : CtxId} {o : MemObj} {r0 : List (Nat × Bytes)} {s : State}
    (hL : ∀ p ∈ [StatePart.counters, .int, .ctxs, .coherence, .memory, .pool, .out], p ∈ L) (hok : SameBut L s0 s) :
    SameBut L s0 (flushEach c o r0 s) := by
  induction r0 generalizing s with
  | nil =>
    unfold flushEach
    repeat' first
      | with_reducible assumption
      | with_reducible exact .inl rfl
      | exact .inr (hL _ (by decide))
      | (extract_lets +onlyGivenNames x
         first
         | (refine sameStep (L := L) (s0 := s0) (x := x) (fun hx => ?_) ?_; clear_value x; rotate_left; subst x)
         | (refine sameStep (L := L) (s0 := s0) (x := x.1) (fun hx => ?_) ?_; clear_value x; rotate_left; subst x)
         | subst x)
      | with_reducible refine SameBut.ite ?_ ?_
      | with_reducible refine modFixed_frame (parts_sub (by decide) hL) ?_
      | with_reducible refine gateSnoops_frame (parts_sub (by decide) hL) ?_
      | with_reducible refine poolWrite_frame (parts_sub (by decide) hL) ?_
      | intro _ _ _
      | intro _ _
      | intro _
      | split
      | (simp only [same_lit]; with_reducible refine SameLit.of ?_ ?_ ?_ ?_ ?_ ?_ ?_ ?_ ?_ ?_ ?_ ?_ ?_ ?_ ?_ ?_ ?_ ?_ ?_ ?_ ?_ ?_ ?_ ?_ ?_ ?_ ?_ ?_ ?_ ?_ ?_ ?_ ?_ ?_ ?_ ?_ ?_ ?_ ?_ ?_)
      | exact .inl rfl
      | dsimp only
      | dsimp only [id]
  | cons x r0 ih =>
    unfold flushEach
    repeat' first
      | with_reducible assumption
      | (extract_lets +onlyGivenNames x
         first
         | (refine sameStep (L := L) (s0 := s0) (x := x) (fun hx => ?_) ?_; clear_value x; rotate_left; subst x)
         | (refine sameStep (L := L) (s0 := s0) (x := x.1) (fun hx => ?_) ?_; clear_value x; rotate_left; subst x)
         | subst x)
      | with_reducible apply ih
      | with_reducible exact .inl rfl
      | exact .inr (hL _ (by decide))
      | with_reducible refine SameBut.ite ?_ ?_
      | with_reducible refine modFixed_frame (parts_sub (by decide) hL) ?_
      | with_reducible refine gateSnoops_frame (parts_sub (by decide) hL) ?_
      | with_reducible refine poolWrite_frame (parts_sub (by decide) hL) ?_
      | intro _ _ _
      | intro _ _
      | intro _
      | split
      | (simp only [same_lit]; with_reducible refine SameLit.of ?_ ?_ ?_ ?_ ?_ ?_ ?_ ?_ ?_ ?_ ?_ ?_ ?_ ?_ ?_ ?_ ?_ ?_ ?_ ?_ ?_ ?_ ?_ ?_ ?_ ?_ ?_ ?_ ?_ ?_ ?_ ?_ ?_ ?_ ?_ ?_ ?_ ?_ ?_ ?_)
      | exact .inl rfl
      | dsimp only
      | dsimp only [id]

theorem flushLog_frame {L : List StatePart} {s0 : State} {c : CtxId} {s : State}
    (hL : ∀ p ∈ [StatePart.counters, .int, .ctxs, .coherence, .memory, .pool, .out], p ∈ L) (hok : SameBut L s0 s) :
    SameBut L s0 (flushLog c s) := by
  unfold flushLog
  repeat' first
    | with_reducible assumption
    | with_reducible exact .inl rfl
    | exact .inr (hL _ (by decide))
    | (extract_lets +onlyGivenNames x
       first
       | (refine sameStep (L := L) (s0 := s0) (x := x) (fun hx => ?_) ?_; clear_value x; rotate_left; subst x)
       | subst x)
    | with_reducible refine flushEach_frame (parts_sub (by decide) hL) ?_
    | with_reducible refine modFixed_frame (parts_sub (by decide) hL) ?_
    | with_reducible refine SameBut.ofPair ?_ (by with_reducible assumption)
    | intro _ _ _
    | intro _ _
    | intro _
    | split
    | (simp only [same_lit]; with_reducible refine SameLit.of ?_ ?_ ?_ ?_ ?_ ?_ ?_ ?_ ?_ ?_ ?_ ?_ ?_ ?_ ?_ ?_ ?_ ?_ ?_ ?_ ?_ ?_ ?_ ?_ ?_ ?_ ?_ ?_ ?_ ?_ ?_ ?_ ?_ ?_ ?_ ?_ ?_ ?_ ?_ ?_)
    | exact .inl rfl
    | dsimp only
    | dsimp only [id]

theorem logSnoops_frame {L : List StatePart} {s0 : State} {c : CtxId} {p : Nat × Nat} {s : State}
    (hL : ∀ p ∈ [StatePart.counters, .int, .coherence, .out], p ∈ L) (hok : SameBut L s0 s) :
    SameBut L s0 (logSnoops c p s) := by
  unfold logSnoops
  repeat' first
    | with_reducible assumption
    | with_reducible refine gateSnoops_frame (parts_sub (by decide) hL) ?_
    | intro _ _ _
    | intro _ _
    | intro _
    | dsimp only
    | dsimp only [id]

theorem consumeEntry_frame {L : List StatePart} {s0 : State} {c : CtxId} {o : MemObj} {s : State}
    (hL : ∀ p ∈ [StatePart.counters, .int, .ctxs, .memory, .pool, .out], p ∈ L) (hok : SameBut L s0 s) :
    SameBut L s0 (consumeEntry c o s) := by
  unfold consumeEntry
  repeat' first
    | with_reducible assumption
    | with_reducible exact .inl rfl
    | exact .inr (hL _ (by decide))
    | (extract_lets +onlyGivenNames x
       first
       | (refine sameStep (L := L) (s0 := s0) (x := x) (fun hx => ?_) ?_; clear_value x; rotate_left; subst x)
       | subst x)
    | with_reducible refine SameBut.ite ?_ ?_
    | with_reducible refine replayWrite_frame (parts_sub (by decide) hL) ?_
    | with_reducible refine SameBut.ofPair ?_ (by with_reducible assumption)
    | intro _ _ _
    | intro _ _
    | intro _
    | split
    | (simp only [same_lit]; with_reducible refine SameLit.of ?_ ?_ ?_ ?_ ?_ ?_ ?_ ?_ ?_ ?_ ?_ ?_ ?_ ?_ ?_ ?_ ?_ ?_ ?_ ?_ ?_ ?_ ?_ ?_ ?_ ?_ ?_ ?_ ?_ ?_ ?_ ?_ ?_ ?_ ?_ ?_ ?_ ?_ ?_ ?_)
    | exact .inl rfl
    | dsimp only
    | dsimp only [id]

theorem diverge_frame {L : List StatePart} {s0 : State} {c : CtxId} {o : MemObj} {seq : Nat} {s : State}
    (hL : ∀ p ∈ [StatePart.counters, .int, .ctxs, .memory, .pool, .out], p ∈ L) (hok : SameBut L s0 s) :
    SameBut L s0 (diverge c o seq s) := by
  unfold diverge
  repeat' first
    | with_reducible assumption
    | with_reducible exact .inl rfl
    | exact .inr (hL _ (by decide))
    | (extract_lets +onlyGivenNames x
       first
       | (refine sameStep (L := L) (s0 := s0) (x := x) (fun hx => ?_) ?_; clear_value x; rotate_left; subst x)
       | subst x)
    | with_reducible refine clearCycleExact_frame (parts_sub (by decide) hL) ?_
    | with_reducible refine modFixed_frame (parts_sub (by decide) hL) ?_
    | with_reducible refine replayWrite_frame (parts_sub (by decide) hL) ?_
    | intro _ _ _
    | intro _ _
    | intro _
    | (simp only [same_lit]; with_reducible refine SameLit.of ?_ ?_ ?_ ?_ ?_ ?_ ?_ ?_ ?_ ?_ ?_ ?_ ?_ ?_ ?_ ?_ ?_ ?_ ?_ ?_ ?_ ?_ ?_ ?_ ?_ ?_ ?_ ?_ ?_ ?_ ?_ ?_ ?_ ?_ ?_ ?_ ?_ ?_ ?_ ?_)
    | exact .inl rfl
    | dsimp only
    | dsimp only [id]

theorem replayRead_frame {L : List StatePart} {s0 : State} {c : CtxId} {w : ReplayWait} {s : State}
    (hL : ∀ p ∈ [StatePart.counters, .int, .ctxs, .coherence, .memory, .pool, .draws, .out], p ∈ L) (hok : SameBut L s0 s) :
    SameBut L s0 (replayRead c w s) := by
  unfold replayRead
  repeat' first
    | with_reducible assumption
    | with_reducible exact .inl rfl
    | exact .inr (hL _ (by decide))
    | (extract_lets +onlyGivenNames x
       first
       | (refine sameStep (L := L) (s0 := s0) (x := x) (fun hx => ?_) ?_; clear_value x; rotate_left; subst x)
       | subst x)
    | with_reducible refine SameBut.ite ?_ ?_
    | with_reducible refine logSnoops_frame (parts_sub (by decide) hL) ?_
    | with_reducible refine diverge_frame (parts_sub (by decide) hL) ?_
    | with_reducible refine draw_frame (parts_sub (by decide) hL) ?_
    | with_reducible refine modFixed_frame (parts_sub (by decide) hL) ?_
    | with_reducible refine SameBut.ofPair ?_ (by with_reducible assumption)
    | intro _ _ _
    | intro _ _
    | intro _
    | split
    | (simp only [same_lit]; with_reducible refine SameLit.of ?_ ?_ ?_ ?_ ?_ ?_ ?_ ?_ ?_ ?_ ?_ ?_ ?_ ?_ ?_ ?_ ?_ ?_ ?_ ?_ ?_ ?_ ?_ ?_ ?_ ?_ ?_ ?_ ?_ ?_ ?_ ?_ ?_ ?_ ?_ ?_ ?_ ?_ ?_ ?_)
    | exact .inl rfl
    | dsimp only
    | dsimp only [id]

theorem replayHostRead_frame {L : List StatePart} {s0 : State} {c : CtxId} {g : Fun} {use : ReadUse} {base : Nat} {pasid : BitVec 20} {have_ : List (Nat × Bytes)} {l : List (Nat × Nat × Nat)} {s : State}
    (hL : ∀ p ∈ [StatePart.counters, .requests, .ats, .int, .ctxs, .coherence, .memory, .pool, .draws, .out], p ∈ L) (hok : SameBut L s0 s) :
    SameBut L s0 (replayHostRead c g use base pasid have_ l s) := by
  unfold replayHostRead
  repeat' first
    | with_reducible assumption
    | (extract_lets +onlyGivenNames x
       first
       | (refine sameStep (L := L) (s0 := s0) (x := x) (fun hx => ?_) ?_; clear_value x; rotate_left; subst x)
       | (refine sameStep (L := L) (s0 := s0) (x := x.1) (fun hx => ?_) ?_; clear_value x; rotate_left; subst x)
       | subst x)
    | with_reducible refine SameBut.ite ?_ ?_
    | with_reducible refine foldState_frame (fun _ _ _ => ?_) ?_
    | with_reducible refine replayRead_frame (parts_sub (by decide) hL) ?_
    | with_reducible refine hostRead_frame (parts_sub (by decide) hL) ?_
    | intro _ _ _
    | intro _ _
    | intro _
    | split
    | dsimp only
    | dsimp only [id]

theorem ctxHostRead_frame {L : List StatePart} {s0 : State} {c : CtxId} {g : Fun} {use : ReadUse} {a base n : Nat} {pasid : BitVec 20} {have_ : List (Nat × Bytes)} {s : State}
    (hL : ∀ p ∈ [StatePart.counters, .requests, .ats, .int, .ctxs, .coherence, .memory, .pool, .draws, .out], p ∈ L) (hok : SameBut L s0 s) :
    SameBut L s0 (ctxHostRead c g use a base n pasid have_ s) := by
  unfold ctxHostRead
  repeat' first
    | with_reducible assumption
    | with_reducible refine SameBut.ite ?_ ?_
    | with_reducible refine replayHostRead_frame (parts_sub (by decide) hL) ?_
    | with_reducible refine hostRead_frame (parts_sub (by decide) hL) ?_
    | intro _ _ _
    | intro _ _
    | intro _
    | split
    | dsimp only
    | dsimp only [id]

theorem giveRead_frame {L : List StatePart} {s0 : State} {use : ReadUse} {off : Nat} {b : Bytes} {s : State}
    (hL : ∀ p ∈ [StatePart.counters, .requests, .ats, .int, .cmds, .boot, .out], p ∈ L) (hok : SameBut L s0 s) :
    SameBut L s0 (giveRead use off b s) := by
  unfold giveRead
  repeat' first
    | with_reducible assumption
    | with_reducible exact .inl rfl
    | exact .inr (hL _ (by decide))
    | (extract_lets +onlyGivenNames x
       first
       | (refine sameStep (L := L) (s0 := s0) (x := x) (fun hx => ?_) ?_; clear_value x; rotate_left; subst x)
       | subst x)
    | with_reducible refine SameBut.ite ?_ ?_
    | with_reducible refine modCmd_frame (parts_sub (by decide) hL) ?_
    | with_reducible refine issueImage_frame (parts_sub (by decide) hL) ?_
    | with_reducible refine SameBut.ofPair ?_ (by with_reducible assumption)
    | intro _ _ _
    | intro _ _
    | intro _
    | split
    | (simp only [same_lit]; with_reducible refine SameLit.of ?_ ?_ ?_ ?_ ?_ ?_ ?_ ?_ ?_ ?_ ?_ ?_ ?_ ?_ ?_ ?_ ?_ ?_ ?_ ?_ ?_ ?_ ?_ ?_ ?_ ?_ ?_ ?_ ?_ ?_ ?_ ?_ ?_ ?_ ?_ ?_ ?_ ?_ ?_ ?_)
    | exact .inl rfl
    | dsimp only
    | dsimp only [id]


/-! ### Machine/Fetch.lean -/

theorem acceptDoorbell_frame {L : List StatePart} {s0 : State} {c : CtxId} {v : U64} {s : State}
    (hL : ∀ p ∈ [StatePart.ctxs], p ∈ L) (hok : SameBut L s0 s) :
    SameBut L s0 (acceptDoorbell c v s) := by
  unfold acceptDoorbell
  repeat' first
    | with_reducible assumption
    | with_reducible exact .inl rfl
    | exact .inr (hL _ (by decide))
    | (extract_lets +onlyGivenNames x
       first
       | (refine sameStep (L := L) (s0 := s0) (x := x) (fun hx => ?_) ?_; clear_value x; rotate_left; subst x)
       | subst x)
    | with_reducible refine noteLog_frame (parts_sub (by decide) hL) ?_
    | with_reducible refine modCtx_frame (parts_sub (by decide) hL) ?_
    | intro _ _ _
    | intro _ _
    | intro _
    | (simp only [same_lit]; with_reducible refine SameLit.of ?_ ?_ ?_ ?_ ?_ ?_ ?_ ?_ ?_ ?_ ?_ ?_ ?_ ?_ ?_ ?_ ?_ ?_ ?_ ?_ ?_ ?_ ?_ ?_ ?_ ?_ ?_ ?_ ?_ ?_ ?_ ?_ ?_ ?_ ?_ ?_ ?_ ?_ ?_ ?_)
    | exact .inl rfl
    | dsimp only
    | dsimp only [id]

theorem takeDoorbell_frame {L : List StatePart} {s0 : State} {c : CtxId} {v : U64} {s : State}
    (hL : ∀ p ∈ [StatePart.od, .stored, .counters, .mgmt, .links, .intx, .fnCfg, .int, .capture, .ctxs, .cmds, .engines, .lookups, .peers, .windows, .err, .power, .out], p ∈ L) (hok : SameBut L s0 s) :
    SameBut L s0 (takeDoorbell c v s) := by
  unfold takeDoorbell
  repeat' first
    | with_reducible assumption
    | with_reducible exact .inl rfl
    | exact .inr (hL _ (by decide))
    | (extract_lets +onlyGivenNames x
       first
       | (refine sameStep (L := L) (s0 := s0) (x := x) (fun hx => ?_) ?_; clear_value x; rotate_left; subst x)
       | subst x)
    | with_reducible refine SameBut.ite ?_ ?_
    | with_reducible refine acceptDoorbell_frame (parts_sub (by decide) hL) ?_
    | with_reducible refine loseContext_frame (parts_sub (by decide) hL) ?_
    | with_reducible refine countFn_frame (parts_sub (by decide) hL) ?_
    | with_reducible refine SameBut.ofPair ?_ (by with_reducible assumption)
    | intro _ _ _
    | intro _ _
    | intro _
    | split
    | (simp only [same_lit]; with_reducible refine SameLit.of ?_ ?_ ?_ ?_ ?_ ?_ ?_ ?_ ?_ ?_ ?_ ?_ ?_ ?_ ?_ ?_ ?_ ?_ ?_ ?_ ?_ ?_ ?_ ?_ ?_ ?_ ?_ ?_ ?_ ?_ ?_ ?_ ?_ ?_ ?_ ?_ ?_ ?_ ?_ ?_)
    | exact .inl rfl
    | dsimp only
    | dsimp only [id]

theorem sluice_frame {L : List StatePart} {s0 : State} {g : Fun} {slot : Nat} {v : U64} {s : State}
    (hL : ∀ p ∈ [StatePart.od, .stored, .counters, .mgmt, .links, .intx, .fnCfg, .int, .capture, .ctxs, .cmds, .engines, .lookups, .peers, .windows, .err, .power, .out], p ∈ L) (hok : SameBut L s0 s) :
    SameBut L s0 (sluice g slot v s) := by
  unfold sluice
  repeat' first
    | with_reducible assumption
    | with_reducible exact .inl rfl
    | exact .inr (hL _ (by decide))
    | (extract_lets +onlyGivenNames x
       first
       | (refine sameStep (L := L) (s0 := s0) (x := x) (fun hx => ?_) ?_; clear_value x; rotate_left; subst x)
       | subst x)
    | with_reducible refine SameBut.ite ?_ ?_
    | with_reducible refine countFn_frame (parts_sub (by decide) hL) ?_
    | with_reducible refine takeDoorbell_frame (parts_sub (by decide) hL) ?_
    | with_reducible refine SameBut.ofPair ?_ (by with_reducible assumption)
    | intro _ _ _
    | intro _ _
    | intro _
    | split
    | (simp only [same_lit]; with_reducible refine SameLit.of ?_ ?_ ?_ ?_ ?_ ?_ ?_ ?_ ?_ ?_ ?_ ?_ ?_ ?_ ?_ ?_ ?_ ?_ ?_ ?_ ?_ ?_ ?_ ?_ ?_ ?_ ?_ ?_ ?_ ?_ ?_ ?_ ?_ ?_ ?_ ?_ ?_ ?_ ?_ ?_)
    | exact .inl rfl
    | dsimp only
    | dsimp only [id]

theorem doorbellWrite_frame {L : List StatePart} {s0 : State} {g : Fun} {offset size : Nat} {allEnabled poisoned : Bool} {v : U64} {s : State}
    (hL : ∀ p ∈ [StatePart.od, .stored, .counters, .mgmt, .links, .intx, .fnCfg, .int, .capture, .ctxs, .cmds, .engines, .lookups, .peers, .windows, .err, .power, .out], p ∈ L) (hok : SameBut L s0 s) :
    SameBut L s0 (doorbellWrite g offset size allEnabled poisoned v s) := by
  unfold doorbellWrite
  repeat' first
    | with_reducible assumption
    | with_reducible refine SameBut.ite ?_ ?_
    | with_reducible refine countFn_frame (parts_sub (by decide) hL) ?_
    | with_reducible refine unsupportedRequest_frame (parts_sub (by decide) hL) ?_
    | with_reducible refine barWrite_frame (parts_sub (by decide) hL) ?_ ?_
    | with_reducible refine poisonedTlp_frame (parts_sub (by decide) hL) ?_
    | with_reducible refine sluice_frame (parts_sub (by decide) hL) ?_
    | intro _ _ _
    | intro _ _
    | intro _
    | split
    | dsimp only
    | dsimp only [id]

theorem execDoorbell_frame {g : Fun} {offset size : Nat} {allEnabled poisoned : Bool} {v : U64} {s : State} :
    OutBut [StatePart.od, .stored, .counters, .mgmt, .links, .intx, .fnCfg, .int, .capture, .ctxs, .cmds, .engines, .lookups, .peers, .windows, .err, .power, .out] s (execDoorbell g offset size allEnabled poisoned v s) := by
  unfold execDoorbell
  refine OutBut.of (fun L s0 hL hok => ?_)
  repeat' first
    | with_reducible assumption
    | with_reducible refine doorbellWrite_frame (parts_sub (by decide) hL) ?_
    | intro _ _ _
    | intro _ _
    | intro _
    | dsimp only
    | dsimp only [id]

theorem waitEntry_frame {L : List StatePart} {s0 : State} {p : Port} {s : State}
    (hL : ∀ p ∈ [StatePart.engines], p ∈ L) (hok : SameBut L s0 s) :
    SameBut L s0 (waitEntry p s) := by
  unfold waitEntry
  repeat' first
    | with_reducible assumption
    | with_reducible exact .inl rfl
    | exact .inr (hL _ (by decide))
    | (extract_lets +onlyGivenNames x
       first
       | (refine sameStep (L := L) (s0 := s0) (x := x) (fun hx => ?_) ?_; clear_value x; rotate_left; subst x)
       | subst x)
    | with_reducible refine SameBut.ite ?_ ?_
    | intro _ _ _
    | intro _ _
    | intro _
    | split
    | (simp only [same_lit]; with_reducible refine SameLit.of ?_ ?_ ?_ ?_ ?_ ?_ ?_ ?_ ?_ ?_ ?_ ?_ ?_ ?_ ?_ ?_ ?_ ?_ ?_ ?_ ?_ ?_ ?_ ?_ ?_ ?_ ?_ ?_ ?_ ?_ ?_ ?_ ?_ ?_ ?_ ?_ ?_ ?_ ?_ ?_)
    | exact .inl rfl
    | dsimp only
    | dsimp only [id]

theorem takeEntryTurn_frame {L : List StatePart} {s0 : State} {p : Port} {s : State}
    (hL : ∀ p ∈ [StatePart.engines], p ∈ L) (hok : SameBut L s0 s) :
    SameBut L s0 (takeEntryTurn p s) := by
  unfold takeEntryTurn
  repeat' first
    | with_reducible assumption
    | with_reducible exact .inl rfl
    | exact .inr (hL _ (by decide))
    | (extract_lets +onlyGivenNames x
       first
       | (refine sameStep (L := L) (s0 := s0) (x := x) (fun hx => ?_) ?_; clear_value x; rotate_left; subst x)
       | subst x)
    | with_reducible refine SameBut.ite ?_ ?_
    | intro _ _ _
    | intro _ _
    | intro _
    | split
    | (simp only [same_lit]; with_reducible refine SameLit.of ?_ ?_ ?_ ?_ ?_ ?_ ?_ ?_ ?_ ?_ ?_ ?_ ?_ ?_ ?_ ?_ ?_ ?_ ?_ ?_ ?_ ?_ ?_ ?_ ?_ ?_ ?_ ?_ ?_ ?_ ?_ ?_ ?_ ?_ ?_ ?_ ?_ ?_ ?_ ?_)
    | exact .inl rfl
    | dsimp only
    | dsimp only [id]

theorem advanceHead_frame {L : List StatePart} {s0 : State} {c : CtxId} {n : Nat} {s : State}
    (hL : ∀ p ∈ [StatePart.ctxs], p ∈ L) (hok : SameBut L s0 s) :
    SameBut L s0 (advanceHead c n s) := by
  unfold advanceHead
  repeat' first
    | with_reducible assumption
    | with_reducible exact .inl rfl
    | exact .inr (hL _ (by decide))
    | (extract_lets +onlyGivenNames x
       first
       | (refine sameStep (L := L) (s0 := s0) (x := x) (fun hx => ?_) ?_; clear_value x; rotate_left; subst x)
       | subst x)
    | with_reducible refine modCtx_frame (parts_sub (by decide) hL) ?_
    | intro _ _ _
    | intro _ _
    | intro _
    | (simp only [same_lit]; with_reducible refine SameLit.of ?_ ?_ ?_ ?_ ?_ ?_ ?_ ?_ ?_ ?_ ?_ ?_ ?_ ?_ ?_ ?_ ?_ ?_ ?_ ?_ ?_ ?_ ?_ ?_ ?_ ?_ ?_ ?_ ?_ ?_ ?_ ?_ ?_ ?_ ?_ ?_ ?_ ?_ ?_ ?_)
    | exact .inl rfl
    | dsimp only
    | dsimp only [id]

theorem entryFails_frame {L : List StatePart} {s0 : State} {x : Cmd} {k : Nat} {st : CStatus} {va : Nat} {s : State}
    (hL : ∀ p ∈ [StatePart.od, .stored, .counters, .mgmt, .links, .intx, .fnCfg, .int, .capture, .ctxs, .cmds, .engines, .lookups, .peers, .windows, .err, .power, .out], p ∈ L) (hok : SameBut L s0 s) :
    SameBut L s0 (entryFails x k st va s) := by
  unfold entryFails
  repeat' first
    | with_reducible assumption
    | (extract_lets +onlyGivenNames x
       first
       | (refine sameStep (L := L) (s0 := s0) (x := x) (fun hx => ?_) ?_; clear_value x; rotate_left; subst x)
       | subst x)
    | with_reducible refine SameBut.ite ?_ ?_
    | with_reducible refine countLateFault_frame (parts_sub (by decide) hL) ?_
    | with_reducible refine advanceHead_frame (parts_sub (by decide) hL) ?_
    | with_reducible refine faultCmd_frame (parts_sub (by decide) hL) ?_
    | intro _ _ _
    | intro _ _
    | intro _
    | split
    | dsimp only
    | dsimp only [id]

theorem askEntry_frame {L : List StatePart} {s0 : State} {c : CtxId} {g : Fun} {a : Nat} {pasid : BitVec 20} {s : State}
    (hL : ∀ p ∈ [StatePart.counters, .requests, .ats, .int, .ctxs, .coherence, .memory, .pool, .draws, .out], p ∈ L) (hok : SameBut L s0 s) :
    SameBut L s0 (askEntry c g a pasid s) := by
  unfold askEntry
  repeat' first
    | with_reducible assumption
    | (extract_lets +onlyGivenNames x
       first
       | (refine sameStep (L := L) (s0 := s0) (x := x) (fun hx => ?_) ?_; clear_value x; rotate_left; subst x)
       | subst x)
    | with_reducible refine SameBut.ite ?_ ?_
    | with_reducible refine ctxHostRead_frame (parts_sub (by decide) hL) ?_
    | with_reducible refine atsAsk_frame (parts_sub (by decide) hL) ?_
    | intro _ _ _
    | intro _ _
    | intro _
    | split
    | dsimp only
    | dsimp only [id]

theorem startEntry_frame {L : List StatePart} {s0 : State} {x : Cmd} {k : Nat} {s : State}
    (hL : ∀ p ∈ [StatePart.od, .stored, .counters, .mgmt, .links, .intx, .requests, .ats, .fnCfg, .int, .capture, .ctxs, .cmds, .engines, .entries, .lookups, .peers, .windows, .coherence, .memory, .pool, .err, .power, .draws, .out], p ∈ L) (hok : SameBut L s0 s) :
    SameBut L s0 (startEntry x k s) := by
  unfold startEntry
  repeat' first
    | with_reducible assumption
    | with_reducible exact .inl rfl
    | exact .inr (hL _ (by decide))
    | (extract_lets +onlyGivenNames x
       first
       | (refine sameStep (L := L) (s0 := s0) (x := x) (fun hx => ?_) ?_; clear_value x; rotate_left; subst x)
       | subst x)
    | with_reducible refine SameBut.ite ?_ ?_
    | with_reducible refine modCmd_frame (parts_sub (by decide) hL) ?_
    | with_reducible refine translate_frame (parts_sub (by decide) hL) ?_
    | with_reducible refine entryFails_frame (parts_sub (by decide) hL) ?_
    | with_reducible refine askEntry_frame (parts_sub (by decide) hL) ?_
    | with_reducible refine SameBut.ofPair ?_ (by with_reducible assumption)
    | intro _ _ _
    | intro _ _
    | intro _
    | split
    | (simp only [same_lit]; with_reducible refine SameLit.of ?_ ?_ ?_ ?_ ?_ ?_ ?_ ?_ ?_ ?_ ?_ ?_ ?_ ?_ ?_ ?_ ?_ ?_ ?_ ?_ ?_ ?_ ?_ ?_ ?_ ?_ ?_ ?_ ?_ ?_ ?_ ?_ ?_ ?_ ?_ ?_ ?_ ?_ ?_ ?_)
    | exact .inl rfl
    | dsimp only
    | dsimp only [id]

theorem fetchFrom_frame {L : List StatePart} {s0 : State} {p : Port} {c : CtxId} {x : Ctx} {s : State}
    (hL : ∀ p ∈ [StatePart.od, .stored, .counters, .mgmt, .links, .intx, .requests, .ats, .fnCfg, .int, .capture, .ctxs, .cmds, .engines, .entries, .lookups, .peers, .windows, .coherence, .memory, .pool, .err, .power, .draws, .out], p ∈ L) (hok : SameBut L s0 s) :
    SameBut L s0 (fetchFrom p c x s) := by
  unfold fetchFrom
  repeat' first
    | with_reducible assumption
    | with_reducible exact .inl rfl
    | exact .inr (hL _ (by decide))
    | exact .inl fun _ => rfl
    | (extract_lets +onlyGivenNames x
       first
       | (refine sameStep (L := L) (s0 := s0) (x := x) (fun hx => ?_) ?_; clear_value x; rotate_left; subst x)
       | subst x)
    | with_reducible refine modPort_frame ?_ ?_ ?_ ?_ ?_ 
    | with_reducible refine startEntry_frame (parts_sub (by decide) hL) ?_
    | with_reducible refine takeEntryTurn_frame (parts_sub (by decide) hL) ?_
    | with_reducible refine SameBut.ofPair ?_ (by with_reducible assumption)
    | intro _ _ _
    | intro _ _
    | intro _
    | split
    | (simp only [same_lit]; with_reducible refine SameLit.of ?_ ?_ ?_ ?_ ?_ ?_ ?_ ?_ ?_ ?_ ?_ ?_ ?_ ?_ ?_ ?_ ?_ ?_ ?_ ?_ ?_ ?_ ?_ ?_ ?_ ?_ ?_ ?_ ?_ ?_ ?_ ?_ ?_ ?_ ?_ ?_ ?_ ?_ ?_ ?_)
    | exact .inl fun x => by (repeat' split) <;> rfl
    | exact .inl rfl
    | dsimp only
    | dsimp only [id]

theorem fetchTurn_frame {L : List StatePart} {s0 : State} {p : Port} {s : State}
    (hL : ∀ p ∈ [StatePart.od, .stored, .counters, .mgmt, .links, .intx, .requests, .ats, .fnCfg, .int, .capture, .ctxs, .cmds, .engines, .entries, .lookups, .peers, .windows, .coherence, .memory, .pool, .err, .power, .draws, .out], p ∈ L) (hok : SameBut L s0 s) :
    SameBut L s0 (fetchTurn p s) := by
  unfold fetchTurn
  repeat' first
    | with_reducible assumption
    | with_reducible exact .inl rfl
    | exact .inr (hL _ (by decide))
    | (extract_lets +onlyGivenNames x
       first
       | (refine sameStep (L := L) (s0 := s0) (x := x) (fun hx => ?_) ?_; clear_value x; rotate_left; subst x)
       | subst x)
    | with_reducible refine SameBut.ite ?_ ?_
    | with_reducible refine waitEntry_frame (parts_sub (by decide) hL) ?_
    | with_reducible refine fetchFrom_frame (parts_sub (by decide) hL) ?_
    | with_reducible refine SameBut.ofPair ?_ (by with_reducible assumption)
    | intro _ _ _
    | intro _ _
    | intro _
    | split
    | (simp only [same_lit]; with_reducible refine SameLit.of ?_ ?_ ?_ ?_ ?_ ?_ ?_ ?_ ?_ ?_ ?_ ?_ ?_ ?_ ?_ ?_ ?_ ?_ ?_ ?_ ?_ ?_ ?_ ?_ ?_ ?_ ?_ ?_ ?_ ?_ ?_ ?_ ?_ ?_ ?_ ?_ ?_ ?_ ?_ ?_)
    | exact .inl rfl
    | dsimp only
    | dsimp only [id]

theorem execCommandFetch_frame {p : Port} {s : State} :
    OutBut [StatePart.od, .stored, .counters, .mgmt, .links, .intx, .requests, .ats, .fnCfg, .int, .capture, .ctxs, .cmds, .engines, .entries, .lookups, .peers, .windows, .coherence, .memory, .pool, .err, .power, .draws, .out] s (execCommandFetch p s) := by
  unfold execCommandFetch
  refine OutBut.of (fun L s0 hL hok => ?_)
  repeat' first
    | with_reducible assumption
    | with_reducible refine fetchTurn_frame (parts_sub (by decide) hL) ?_
    | intro _ _ _
    | intro _ _
    | intro _
    | dsimp only
    | dsimp only [id]

theorem fetched_frame {L : List StatePart} {s0 : State} {x : Cmd} {s : State}
    (hL : ∀ p ∈ [StatePart.ctxs, .cmds], p ∈ L) (hok : SameBut L s0 s) :
    SameBut L s0 (fetched x s) := by
  unfold fetched
  repeat' first
    | with_reducible assumption
    | with_reducible exact .inl rfl
    | exact .inr (hL _ (by decide))
    | (extract_lets +onlyGivenNames x
       first
       | (refine sameStep (L := L) (s0 := s0) (x := x) (fun hx => ?_) ?_; clear_value x; rotate_left; subst x)
       | subst x)
    | with_reducible refine SameBut.ite ?_ ?_
    | with_reducible refine advanceHead_frame (parts_sub (by decide) hL) ?_
    | with_reducible refine modCmd_frame (parts_sub (by decide) hL) ?_
    | with_reducible refine SameBut.ofPair ?_ (by with_reducible assumption)
    | intro _ _ _
    | intro _ _
    | intro _
    | split
    | (simp only [same_lit]; with_reducible refine SameLit.of ?_ ?_ ?_ ?_ ?_ ?_ ?_ ?_ ?_ ?_ ?_ ?_ ?_ ?_ ?_ ?_ ?_ ?_ ?_ ?_ ?_ ?_ ?_ ?_ ?_ ?_ ?_ ?_ ?_ ?_ ?_ ?_ ?_ ?_ ?_ ?_ ?_ ?_ ?_ ?_)
    | exact .inl rfl
    | dsimp only
    | dsimp only [id]

theorem takeQueueEntry_frame {L : List StatePart} {s0 : State} {x : Cmd} {k : Nat} {b : Bytes} {s : State}
    (hL : ∀ p ∈ [StatePart.od, .stored, .counters, .mgmt, .links, .intx, .requests, .ats, .fnCfg, .int, .capture, .ctxs, .cmds, .engines, .entries, .lookups, .peers, .windows, .coherence, .memory, .pool, .err, .power, .draws, .out], p ∈ L) (hok : SameBut L s0 s) :
    SameBut L s0 (takeQueueEntry x k b s) := by
  unfold takeQueueEntry
  repeat' first
    | with_reducible assumption
    | with_reducible exact .inl rfl
    | exact .inr (hL _ (by decide))
    | (extract_lets +onlyGivenNames x
       first
       | (refine sameStep (L := L) (s0 := s0) (x := x) (fun hx => ?_) ?_; clear_value x; rotate_left; subst x)
       | subst x)
    | with_reducible refine SameBut.ite ?_ ?_
    | with_reducible refine modCmd_frame (parts_sub (by decide) hL) ?_
    | with_reducible refine fetched_frame (parts_sub (by decide) hL) ?_
    | with_reducible refine startEntry_frame (parts_sub (by decide) hL) ?_
    | with_reducible refine SameBut.ofPair ?_ (by with_reducible assumption)
    | intro _ _ _
    | intro _ _
    | intro _
    | split
    | (simp only [same_lit]; with_reducible refine SameLit.of ?_ ?_ ?_ ?_ ?_ ?_ ?_ ?_ ?_ ?_ ?_ ?_ ?_ ?_ ?_ ?_ ?_ ?_ ?_ ?_ ?_ ?_ ?_ ?_ ?_ ?_ ?_ ?_ ?_ ?_ ?_ ?_ ?_ ?_ ?_ ?_ ?_ ?_ ?_ ?_)
    | exact .inl rfl
    | dsimp only
    | dsimp only [id]

theorem entryArrives_frame {L : List StatePart} {s0 : State} {c : CtxId} {s : State}
    (hL : ∀ p ∈ [StatePart.od, .stored, .counters, .mgmt, .links, .intx, .requests, .ats, .fnCfg, .int, .capture, .ctxs, .cmds, .engines, .entries, .lookups, .peers, .windows, .coherence, .memory, .pool, .err, .power, .draws, .out], p ∈ L) (hok : SameBut L s0 s) :
    SameBut L s0 (entryArrives c s) := by
  unfold entryArrives
  repeat' first
    | with_reducible assumption
    | with_reducible exact .inl rfl
    | exact .inr (hL _ (by decide))
    | (extract_lets +onlyGivenNames x
       first
       | (refine sameStep (L := L) (s0 := s0) (x := x) (fun hx => ?_) ?_; clear_value x; rotate_left; subst x)
       | subst x)
    | with_reducible refine SameBut.ite ?_ ?_
    | with_reducible refine gateSnoops_frame (parts_sub (by decide) hL) ?_
    | with_reducible refine entryFails_frame (parts_sub (by decide) hL) ?_
    | with_reducible refine countPackage_frame (parts_sub (by decide) hL) ?_
    | with_reducible refine takeQueueEntry_frame (parts_sub (by decide) hL) ?_
    | with_reducible refine countFn_frame (parts_sub (by decide) hL) ?_
    | with_reducible refine askEntry_frame (parts_sub (by decide) hL) ?_
    | with_reducible refine startEntry_frame (parts_sub (by decide) hL) ?_
    | with_reducible refine SameBut.ofPair ?_ (by with_reducible assumption)
    | intro _ _ _
    | intro _ _
    | intro _
    | split
    | (simp only [same_lit]; with_reducible refine SameLit.of ?_ ?_ ?_ ?_ ?_ ?_ ?_ ?_ ?_ ?_ ?_ ?_ ?_ ?_ ?_ ?_ ?_ ?_ ?_ ?_ ?_ ?_ ?_ ?_ ?_ ?_ ?_ ?_ ?_ ?_ ?_ ?_ ?_ ?_ ?_ ?_ ?_ ?_ ?_ ?_)
    | exact .inl rfl
    | dsimp only
    | dsimp only [id]

theorem execCommandEntryArrival_frame {c : CtxId} {s : State} :
    OutBut [StatePart.od, .stored, .counters, .mgmt, .links, .intx, .requests, .ats, .fnCfg, .int, .capture, .ctxs, .cmds, .engines, .entries, .lookups, .peers, .windows, .coherence, .memory, .pool, .err, .power, .draws, .out] s (execCommandEntryArrival c s) := by
  unfold execCommandEntryArrival
  refine OutBut.of (fun L s0 hL hok => ?_)
  repeat' first
    | with_reducible assumption
    | with_reducible refine entryArrives_frame (parts_sub (by decide) hL) ?_
    | intro _ _ _
    | intro _ _
    | intro _
    | dsimp only
    | dsimp only [id]


/-! ### Machine/Units.lean -/

theorem rewriteMap_frame {L : List StatePart} {s0 : State} {s : State}
    (hL : ∀ p ∈ [StatePart.det], p ∈ L) (hok : SameBut L s0 s) :
    SameBut L s0 (rewriteMap s) := by
  unfold rewriteMap
  repeat' first
    | with_reducible assumption
    | with_reducible exact .inl rfl
    | exact .inr (hL _ (by decide))
    | (extract_lets +onlyGivenNames x
       first
       | (refine sameStep (L := L) (s0 := s0) (x := x) (fun hx => ?_) ?_; clear_value x; rotate_left; subst x)
       | subst x)
    | intro _ _ _
    | intro _ _
    | intro _
    | (simp only [same_lit]; with_reducible refine SameLit.of ?_ ?_ ?_ ?_ ?_ ?_ ?_ ?_ ?_ ?_ ?_ ?_ ?_ ?_ ?_ ?_ ?_ ?_ ?_ ?_ ?_ ?_ ?_ ?_ ?_ ?_ ?_ ?_ ?_ ?_ ?_ ?_ ?_ ?_ ?_ ?_ ?_ ?_ ?_ ?_)
    | exact .inl rfl
    | dsimp only
    | dsimp only [id]

theorem mapChanged_frame {L : List StatePart} {s0 : State} {s : State}
    (hL : ∀ p ∈ [StatePart.det], p ∈ L) (hok : SameBut L s0 s) :
    SameBut L s0 (mapChanged s) := by
  unfold mapChanged
  repeat' first
    | with_reducible assumption
    | with_reducible refine SameBut.ite ?_ ?_
    | with_reducible refine rewriteMap_frame (parts_sub (by decide) hL) ?_
    | intro _ _ _
    | intro _ _
    | intro _
    | split
    | dsimp only
    | dsimp only [id]

theorem abandonMode_frame {L : List StatePart} {s0 : State} {unit : Nat} {s : State}
    (hL : ∀ p ∈ [StatePart.det, .out], p ∈ L) (hok : SameBut L s0 s) :
    SameBut L s0 (abandonMode unit s) := by
  unfold abandonMode
  repeat' first
    | with_reducible assumption
    | with_reducible exact .inl rfl
    | exact .inr (hL _ (by decide))
    | (extract_lets +onlyGivenNames x
       first
       | (refine sameStep (L := L) (s0 := s0) (x := x) (fun hx => ?_) ?_; clear_value x; rotate_left; subst x)
       | subst x)
    | with_reducible refine foldState_frame (fun _ _ _ => ?_) ?_
    | with_reducible refine emit_frame (parts_sub (by decide) hL) ?_
    | intro _ _ _
    | intro _ _
    | intro _
    | (simp only [same_lit]; with_reducible refine SameLit.of ?_ ?_ ?_ ?_ ?_ ?_ ?_ ?_ ?_ ?_ ?_ ?_ ?_ ?_ ?_ ?_ ?_ ?_ ?_ ?_ ?_ ?_ ?_ ?_ ?_ ?_ ?_ ?_ ?_ ?_ ?_ ?_ ?_ ?_ ?_ ?_ ?_ ?_ ?_ ?_)
    | exact .inl rfl
    | dsimp only
    | dsimp only [id]

theorem loseOnUnit_frame {L : List StatePart} {s0 : State} {clusters : List Nat} {engine : Option Engine} {i : ErrInfo} {s : State}
    (hL : ∀ p ∈ [StatePart.od, .stored, .counters, .mgmt, .links, .intx, .fnCfg, .int, .capture, .ctxs, .cmds, .engines, .lookups, .peers, .windows, .err, .power, .out], p ∈ L) (hok : SameBut L s0 s) :
    SameBut L s0 (loseOnUnit clusters engine i s) := by
  unfold loseOnUnit
  repeat' first
    | with_reducible assumption
    | (extract_lets +onlyGivenNames x
       first
       | (refine sameStep (L := L) (s0 := s0) (x := x) (fun hx => ?_) ?_; clear_value x; rotate_left; subst x)
       | subst x)
    | with_reducible refine foldState_frame (fun _ _ _ => ?_) ?_
    | with_reducible refine loseContext_frame (parts_sub (by decide) hL) ?_
    | with_reducible refine raiseWith_frame (parts_sub (by decide) hL) ?_
    | intro _ _ _
    | intro _ _
    | intro _
    | dsimp only
    | dsimp only [id]

theorem endPartsOf_frame {L : List StatePart} {s0 : State} {clusters : List Nat} {s : State}
    (hL : ∀ p ∈ [StatePart.cmds, .engines], p ∈ L) (hok : SameBut L s0 s) :
    SameBut L s0 (endPartsOf clusters s) := by
  unfold endPartsOf
  repeat' first
    | with_reducible assumption
    | with_reducible exact .inl rfl
    | exact .inr (hL _ (by decide))
    | (extract_lets +onlyGivenNames x
       first
       | (refine sameStep (L := L) (s0 := s0) (x := x) (fun hx => ?_) ?_; clear_value x; rotate_left; subst x)
       | subst x)
    | with_reducible refine SameBut.ite ?_ ?_
    | intro _ _ _
    | intro _ _
    | intro _
    | split
    | (simp only [same_lit]; with_reducible refine SameLit.of ?_ ?_ ?_ ?_ ?_ ?_ ?_ ?_ ?_ ?_ ?_ ?_ ?_ ?_ ?_ ?_ ?_ ?_ ?_ ?_ ?_ ?_ ?_ ?_ ?_ ?_ ?_ ?_ ?_ ?_ ?_ ?_ ?_ ?_ ?_ ?_ ?_ ?_ ?_ ?_)
    | exact .inl rfl
    | dsimp only
    | dsimp only [id]

theorem applyLate_frame {L : List StatePart} {s0 : State} {n : Nat} {s : State}
    (hL : ∀ p ∈ [StatePart.det], p ∈ L) (hok : SameBut L s0 s) :
    SameBut L s0 (applyLate n s) := by
  unfold applyLate
  repeat' first
    | with_reducible assumption
    | with_reducible exact .inl rfl
    | exact .inr (hL _ (by decide))
    | (extract_lets +onlyGivenNames x
       first
       | (refine sameStep (L := L) (s0 := s0) (x := x) (fun hx => ?_) ?_; clear_value x; rotate_left; subst x)
       | subst x)
    | with_reducible refine SameBut.ite ?_ ?_
    | intro _ _ _
    | intro _ _
    | intro _
    | split
    | (simp only [same_lit]; with_reducible refine SameLit.of ?_ ?_ ?_ ?_ ?_ ?_ ?_ ?_ ?_ ?_ ?_ ?_ ?_ ?_ ?_ ?_ ?_ ?_ ?_ ?_ ?_ ?_ ?_ ?_ ?_ ?_ ?_ ?_ ?_ ?_ ?_ ?_ ?_ ?_ ?_ ?_ ?_ ?_ ?_ ?_)
    | exact .inl rfl
    | dsimp only
    | dsimp only [id]

theorem dropLeasesOf_frame {L : List StatePart} {s0 : State} {clusters : List Nat} {s : State}
    (hL : ∀ p ∈ [StatePart.od, .stored, .counters, .mgmt, .links, .intx, .fnCfg, .int, .capture, .ctxs, .cmds, .engines, .entries, .lookups, .peers, .windows, .coherence, .err, .power, .out], p ∈ L) (hok : SameBut L s0 s) :
    SameBut L s0 (dropLeasesOf clusters s) := by
  unfold dropLeasesOf
  repeat' first
    | with_reducible assumption
    | with_reducible exact .inl rfl
    | exact .inr (hL _ (by decide))
    | (extract_lets +onlyGivenNames x
       first
       | (refine sameStep (L := L) (s0 := s0) (x := x) (fun hx => ?_) ?_; clear_value x; rotate_left; subst x)
       | subst x)
    | with_reducible refine SameBut.ite ?_ ?_
    | with_reducible refine foldState_frame (fun _ _ _ => ?_) ?_
    | with_reducible refine countPackage_frame (parts_sub (by decide) hL) ?_
    | with_reducible refine emit_frame (parts_sub (by decide) hL) ?_
    | with_reducible refine leasesEnded_frame (parts_sub (by decide) hL) ?_
    | intro _ _ _
    | intro _ _
    | intro _
    | split
    | (simp only [same_lit]; with_reducible refine SameLit.of ?_ ?_ ?_ ?_ ?_ ?_ ?_ ?_ ?_ ?_ ?_ ?_ ?_ ?_ ?_ ?_ ?_ ?_ ?_ ?_ ?_ ?_ ?_ ?_ ?_ ?_ ?_ ?_ ?_ ?_ ?_ ?_ ?_ ?_ ?_ ?_ ?_ ?_ ?_ ?_)
    | exact .inl rfl
    | dsimp only
    | dsimp only [id]

theorem noteFenced_frame {L : List StatePart} {s0 : State} {ns : List Nat} {s : State}
    (hL : ∀ p ∈ [StatePart.det, .boot], p ∈ L) (hok : SameBut L s0 s) :
    SameBut L s0 (noteFenced ns s) := by
  unfold noteFenced
  repeat' first
    | with_reducible assumption
    | with_reducible exact .inl rfl
    | exact .inr (hL _ (by decide))
    | (extract_lets +onlyGivenNames x
       first
       | (refine sameStep (L := L) (s0 := s0) (x := x) (fun hx => ?_) ?_; clear_value x; rotate_left; subst x)
       | (refine sameStep (L := L) (s0 := s0) (x := x.1) (fun hx => ?_) ?_; clear_value x; rotate_left; subst x)
       | subst x)
    | intro _ _ _
    | intro _ _
    | intro _
    | (simp only [same_lit]; with_reducible refine SameLit.of ?_ ?_ ?_ ?_ ?_ ?_ ?_ ?_ ?_ ?_ ?_ ?_ ?_ ?_ ?_ ?_ ?_ ?_ ?_ ?_ ?_ ?_ ?_ ?_ ?_ ?_ ?_ ?_ ?_ ?_ ?_ ?_ ?_ ?_ ?_ ?_ ?_ ?_ ?_ ?_)
    | exact .inl rfl
    | dsimp only
    | dsimp only [id]

theorem fenceClusters_frame {L : List StatePart} {s0 : State} {ns : List Nat} {i : ErrInfo} {s : State}
    (hL : ∀ p ∈ [StatePart.od, .stored, .counters, .mgmt, .links, .intx, .fnCfg, .int, .capture, .ctxs, .cmds, .engines, .entries, .lookups, .peers, .windows, .coherence, .det, .err, .power, .boot, .out], p ∈ L) (hok : SameBut L s0 s) :
    SameBut L s0 (fenceClusters ns i s) := by
  unfold fenceClusters
  repeat' first
    | with_reducible assumption
    | with_reducible exact .inl rfl
    | exact .inr (hL _ (by decide))
    | (extract_lets +onlyGivenNames x
       first
       | (refine sameStep (L := L) (s0 := s0) (x := x) (fun hx => ?_) ?_; clear_value x; rotate_left; subst x)
       | subst x)
    | with_reducible refine SameBut.ite ?_ ?_
    | with_reducible refine loseOnUnit_frame (parts_sub (by decide) hL) ?_
    | with_reducible refine endPartsOf_frame (parts_sub (by decide) hL) ?_
    | with_reducible refine dropLeasesOf_frame (parts_sub (by decide) hL) ?_
    | with_reducible refine abandonMode_frame (parts_sub (by decide) hL) ?_
    | with_reducible refine mapChanged_frame (parts_sub (by decide) hL) ?_
    | with_reducible refine noteFenced_frame (parts_sub (by decide) hL) ?_
    | with_reducible refine SameBut.ofPair ?_ (by with_reducible assumption)
    | intro _ _ _
    | intro _ _
    | intro _
    | split
    | (simp only [same_lit]; with_reducible refine SameLit.of ?_ ?_ ?_ ?_ ?_ ?_ ?_ ?_ ?_ ?_ ?_ ?_ ?_ ?_ ?_ ?_ ?_ ?_ ?_ ?_ ?_ ?_ ?_ ?_ ?_ ?_ ?_ ?_ ?_ ?_ ?_ ?_ ?_ ?_ ?_ ?_ ?_ ?_ ?_ ?_)
    | exact .inl rfl
    | dsimp only
    | dsimp only [id]

theorem fenceEngine_frame {L : List StatePart} {s0 : State} {e : Engine} {s : State}
    (hL : ∀ p ∈ [StatePart.od, .stored, .counters, .mgmt, .links, .intx, .fnCfg, .int, .capture, .ctxs, .cmds, .engines, .lookups, .peers, .windows, .det, .err, .power, .out], p ∈ L) (hok : SameBut L s0 s) :
    SameBut L s0 (fenceEngine e s) := by
  unfold fenceEngine
  repeat' first
    | with_reducible assumption
    | with_reducible exact .inl rfl
    | exact .inr (hL _ (by decide))
    | (extract_lets +onlyGivenNames x
       first
       | (refine sameStep (L := L) (s0 := s0) (x := x) (fun hx => ?_) ?_; clear_value x; rotate_left; subst x)
       | subst x)
    | with_reducible refine SameBut.ite ?_ ?_
    | with_reducible refine loseOnUnit_frame (parts_sub (by decide) hL) ?_
    | with_reducible refine mapChanged_frame (parts_sub (by decide) hL) ?_
    | with_reducible refine SameBut.ofPair ?_ (by with_reducible assumption)
    | intro _ _ _
    | intro _ _
    | intro _
    | split
    | (simp only [same_lit]; with_reducible refine SameLit.of ?_ ?_ ?_ ?_ ?_ ?_ ?_ ?_ ?_ ?_ ?_ ?_ ?_ ?_ ?_ ?_ ?_ ?_ ?_ ?_ ?_ ?_ ?_ ?_ ?_ ?_ ?_ ?_ ?_ ?_ ?_ ?_ ?_ ?_ ?_ ?_ ?_ ?_ ?_ ?_)
    | exact .inl rfl
    | dsimp only
    | dsimp only [id]

theorem fenceUnit_frame {L : List StatePart} {s0 : State} {u : FailUnit} {s : State}
    (hL : ∀ p ∈ [StatePart.od, .stored, .counters, .mgmt, .links, .intx, .fnCfg, .int, .capture, .ctxs, .cmds, .engines, .entries, .lookups, .peers, .windows, .coherence, .det, .err, .power, .boot, .out], p ∈ L) (hok : SameBut L s0 s) :
    SameBut L s0 (fenceUnit u s) := by
  unfold fenceUnit
  repeat' first
    | with_reducible assumption
    | with_reducible exact .inl rfl
    | exact .inr (hL _ (by decide))
    | (extract_lets +onlyGivenNames x
       first
       | (refine sameStep (L := L) (s0 := s0) (x := x) (fun hx => ?_) ?_; clear_value x; rotate_left; subst x)
       | subst x)
    | with_reducible refine fenceClusters_frame (parts_sub (by decide) hL) ?_
    | with_reducible refine fenceEngine_frame (parts_sub (by decide) hL) ?_
    | with_reducible refine SameBut.ofPair ?_ (by with_reducible assumption)
    | intro _ _ _
    | intro _ _
    | intro _
    | split
    | (simp only [same_lit]; with_reducible refine SameLit.of ?_ ?_ ?_ ?_ ?_ ?_ ?_ ?_ ?_ ?_ ?_ ?_ ?_ ?_ ?_ ?_ ?_ ?_ ?_ ?_ ?_ ?_ ?_ ?_ ?_ ?_ ?_ ?_ ?_ ?_ ?_ ?_ ?_ ?_ ?_ ?_ ?_ ?_ ?_ ?_)
    | exact .inl rfl
    | dsimp only
    | dsimp only [id]


/-! ### Machine/Reduce.lean -/

theorem poolReduce_frame {L : List StatePart} {s0 : State} {ty op a : Nat} {src : Bytes} {through : Bool} {s : State}
    (hL : ∀ p ∈ [StatePart.counters, .int, .memory, .out], p ∈ L) (hok : SameBut L s0 s) :
    SameBut L s0 (poolReduce ty op a src through s) := by
  unfold poolReduce
  repeat' first
    | with_reducible assumption
    | with_reducible refine SameBut.ite ?_ ?_
    | with_reducible refine foldState_frame (fun _ _ _ => ?_) ?_
    | with_reducible refine countPackage_frame (parts_sub (by decide) hL) ?_
    | with_reducible refine writeLine_frame (parts_sub (by decide) hL) ?_
    | intro _ _ _
    | intro _ _
    | intro _
    | split
    | dsimp only
    | dsimp only [id]

theorem reduceFence_frame {L : List StatePart} {s0 : State} {g : Fun} {c : Option CtxId} {o : MemObj} {a : Nat} {src : Bytes} {s : State}
    (hL : ∀ p ∈ [StatePart.counters, .int, .ctxs, .slots, .memory, .pool, .out], p ∈ L) (hok : SameBut L s0 s) :
    SameBut L s0 (reduceFence g c o a src s) := by
  unfold reduceFence
  repeat' first
    | with_reducible assumption
    | with_reducible refine foldState_frame (fun _ _ _ => ?_) ?_
    | with_reducible refine signalFence_frame (parts_sub (by decide) hL) ?_
    | intro _ _ _
    | intro _ _
    | intro _
    | dsimp only
    | dsimp only [id]

theorem foldAcc_frame {L : List StatePart} {s0 : State} {c : CtxId} {k : Nat} {t : Bytes} {s : State}
    (hL : ∀ p ∈ [StatePart.ctxs], p ∈ L) (hok : SameBut L s0 s) :
    SameBut L s0 (foldAcc c k t s) := by
  unfold foldAcc
  repeat' first
    | with_reducible assumption
    | with_reducible exact .inl rfl
    | exact .inr (hL _ (by decide))
    | (extract_lets +onlyGivenNames x
       first
       | (refine sameStep (L := L) (s0 := s0) (x := x) (fun hx => ?_) ?_; clear_value x; rotate_left; subst x)
       | subst x)
    | with_reducible refine modCtx_frame (parts_sub (by decide) hL) ?_
    | intro _ _ _
    | intro _ _
    | intro _
    | (simp only [same_lit]; with_reducible refine SameLit.of ?_ ?_ ?_ ?_ ?_ ?_ ?_ ?_ ?_ ?_ ?_ ?_ ?_ ?_ ?_ ?_ ?_ ?_ ?_ ?_ ?_ ?_ ?_ ?_ ?_ ?_ ?_ ?_ ?_ ?_ ?_ ?_ ?_ ?_ ?_ ?_ ?_ ?_ ?_ ?_)
    | exact .inl rfl
    | dsimp only
    | dsimp only [id]


/-! ### Machine/WindowSend.lean -/

theorem sendCheck_frame {L : List StatePart} {s0 : State} {o : SendOp} {x : Cmd} {s : State}
    (hL : ∀ p ∈ [StatePart.peers, .out], p ∈ L) (hok : SameBut L s0 s) :
    SameBut L s0 (sendCheck o x s) := by
  unfold sendCheck
  repeat' first
    | with_reducible assumption
    | (extract_lets +onlyGivenNames x
       first
       | (refine sameStep (L := L) (s0 := s0) (x := x) (fun hx => ?_) ?_; clear_value x; rotate_left; subst x)
       | (refine sameStep (L := L) (s0 := s0) (x := x.1) (fun hx => ?_) ?_; clear_value x; rotate_left; subst x)
       | subst x)
    | with_reducible refine SameBut.ite ?_ ?_
    | with_reducible refine foldState_frame (fun _ _ _ => ?_) ?_
    | with_reducible refine sendFrame_frame (parts_sub (by decide) hL) ?_
    | with_reducible refine SameBut.ofPair ?_ (by with_reducible assumption)
    | intro _ _ _
    | intro _ _
    | intro _
    | split
    | dsimp only
    | dsimp only [id]

theorem openOps_frame {L : List StatePart} {s0 : State} {x : Cmd} {tile : Nat} {src dst : List Run} {need : Need} {s : State}
    (hL : ∀ p ∈ [StatePart.ctxs, .cmds, .peers, .windows, .out], p ∈ L) (hok : SameBut L s0 s) :
    SameBut L s0 (openOps x tile src dst need s) := by
  unfold openOps
  repeat' first
    | with_reducible assumption
    | with_reducible exact .inl rfl
    | exact .inr (hL _ (by decide))
    | (extract_lets +onlyGivenNames x
       first
       | (refine sameStep (L := L) (s0 := s0) (x := x) (fun hx => ?_) ?_; clear_value x; rotate_left; subst x)
       | subst x)
    | with_reducible refine SameBut.ite ?_ ?_
    | with_reducible refine takeBackOps_frame (parts_sub (by decide) hL) ?_
    | with_reducible refine clearCycleExact_frame (parts_sub (by decide) hL) ?_
    | with_reducible refine takeSerial_frame (parts_sub (by decide) hL) ?_
    | with_reducible refine foldState_frame (fun _ _ _ => ?_) ?_
    | with_reducible refine sendCheck_frame (parts_sub (by decide) hL) ?_
    | intro _ _ _
    | intro _ _
    | intro _
    | split
    | (simp only [same_lit]; with_reducible refine SameLit.of ?_ ?_ ?_ ?_ ?_ ?_ ?_ ?_ ?_ ?_ ?_ ?_ ?_ ?_ ?_ ?_ ?_ ?_ ?_ ?_ ?_ ?_ ?_ ?_ ?_ ?_ ?_ ?_ ?_ ?_ ?_ ?_ ?_ ?_ ?_ ?_ ?_ ?_ ?_ ?_)
    | exact .inl rfl
    | dsimp only
    | dsimp only [id]

theorem sendData_frame {L : List StatePart} {s0 : State} {o : SendOp} {tag : U16} {b : Bytes} {s : State}
    (hL : ∀ p ∈ [StatePart.peers, .out], p ∈ L) (hok : SameBut L s0 s) :
    SameBut L s0 (sendData o tag b s) := by
  unfold sendData
  repeat' first
    | with_reducible assumption
    | (extract_lets +onlyGivenNames x
       first
       | (refine sameStep (L := L) (s0 := s0) (x := x) (fun hx => ?_) ?_; clear_value x; rotate_left; subst x)
       | subst x)
    | with_reducible refine foldState_frame (fun _ _ _ => ?_) ?_
    | with_reducible refine sendFrame_frame (parts_sub (by decide) hL) ?_
    | intro _ _ _
    | intro _ _
    | intro _
    | dsimp only
    | dsimp only [id]

theorem sendOps_frame {L : List StatePart} {s0 : State} {x : Cmd} {tile : Bytes} {s : State}
    (hL : ∀ p ∈ [StatePart.peers, .windows, .out], p ∈ L) (hok : SameBut L s0 s) :
    SameBut L s0 (sendOps x tile s) := by
  unfold sendOps
  repeat' first
    | with_reducible assumption
    | with_reducible exact .inl rfl
    | exact .inr (hL _ (by decide))
    | (extract_lets +onlyGivenNames x
       first
       | (refine sameStep (L := L) (s0 := s0) (x := x) (fun hx => ?_) ?_; clear_value x; rotate_left; subst x)
       | subst x)
    | with_reducible refine SameBut.ite ?_ ?_
    | with_reducible refine foldState_frame (fun _ _ _ => ?_) ?_
    | with_reducible refine sendData_frame (parts_sub (by decide) hL) ?_
    | intro _ _ _
    | intro _ _
    | intro _
    | split
    | (simp only [same_lit]; with_reducible refine SameLit.of ?_ ?_ ?_ ?_ ?_ ?_ ?_ ?_ ?_ ?_ ?_ ?_ ?_ ?_ ?_ ?_ ?_ ?_ ?_ ?_ ?_ ?_ ?_ ?_ ?_ ?_ ?_ ?_ ?_ ?_ ?_ ?_ ?_ ?_ ?_ ?_ ?_ ?_ ?_ ?_)
    | exact .inl rfl
    | dsimp only
    | dsimp only [id]

theorem dropOps_frame {L : List StatePart} {s0 : State} {c : CtxId} {q : Nat} {s : State}
    (hL : ∀ p ∈ [StatePart.windows], p ∈ L) (hok : SameBut L s0 s) :
    SameBut L s0 (dropOps c q s) := by
  unfold dropOps
  repeat' first
    | with_reducible assumption
    | with_reducible exact .inl rfl
    | exact .inr (hL _ (by decide))
    | (extract_lets +onlyGivenNames x
       first
       | (refine sameStep (L := L) (s0 := s0) (x := x) (fun hx => ?_) ?_; clear_value x; rotate_left; subst x)
       | subst x)
    | intro _ _ _
    | intro _ _
    | intro _
    | (simp only [same_lit]; with_reducible refine SameLit.of ?_ ?_ ?_ ?_ ?_ ?_ ?_ ?_ ?_ ?_ ?_ ?_ ?_ ?_ ?_ ?_ ?_ ?_ ?_ ?_ ?_ ?_ ?_ ?_ ?_ ?_ ?_ ?_ ?_ ?_ ?_ ?_ ?_ ?_ ?_ ?_ ?_ ?_ ?_ ?_)
    | exact .inl rfl
    | dsimp only
    | dsimp only [id]


/-! ### Machine/Transfer.lean -/

theorem tileFault_frame {L : List StatePart} {s0 : State} {c : CtxId} {q : Nat} {code : TCode} {side : Nat} {need : Need} {va : Nat} {deny : Option (Nat × PackageId)} {s : State}
    (hL : ∀ p ∈ [StatePart.od, .stored, .counters, .mgmt, .links, .intx, .fnCfg, .faultq, .int, .capture, .fnOther, .ctxs, .cmds, .engines, .lookups, .peers, .windows, .err, .power, .out], p ∈ L) (hok : SameBut L s0 s) :
    SameBut L s0 (tileFault c q code side need va deny s) := by
  unfold tileFault
  repeat' first
    | with_reducible assumption
    | with_reducible exact .inl rfl
    | exact .inr (hL _ (by decide))
    | exact .inl fun _ => rfl
    | (extract_lets +onlyGivenNames x
       first
       | (refine sameStep (L := L) (s0 := s0) (x := x) (fun hx => ?_) ?_; clear_value x; rotate_left; subst x)
       | (refine sameStep (L := L) (s0 := s0) (x := x.1) (fun hx => ?_) ?_; clear_value x; rotate_left; subst x)
       | subst x)
    | with_reducible refine SameBut.ite ?_ ?_
    | with_reducible refine endCmd_frame (parts_sub (by decide) hL) ?_
    | with_reducible refine countFn_frame (parts_sub (by decide) hL) ?_
    | with_reducible refine cancelOps_frame (parts_sub (by decide) hL) ?_
    | with_reducible refine modFaultq_frame (parts_sub (by decide) hL) ?_
    | with_reducible refine modFn_frame ?_ ?_ ?_ ?_ ?_ ?_ ?_ ?_ ?_ 
    | with_reducible refine faultCmd_frame (parts_sub (by decide) hL) ?_
    | with_reducible refine count_frame (parts_sub (by decide) hL) ?_
    | with_reducible refine modCmd_frame (parts_sub (by decide) hL) ?_
    | with_reducible refine SameBut.ofPair ?_ (by with_reducible assumption)
    | intro _ _ _
    | intro _ _
    | intro _
    | split
    | (simp only [same_lit]; with_reducible refine SameLit.of ?_ ?_ ?_ ?_ ?_ ?_ ?_ ?_ ?_ ?_ ?_ ?_ ?_ ?_ ?_ ?_ ?_ ?_ ?_ ?_ ?_ ?_ ?_ ?_ ?_ ?_ ?_ ?_ ?_ ?_ ?_ ?_ ?_ ?_ ?_ ?_ ?_ ?_ ?_ ?_)
    | exact .inl fun x => by (repeat' split) <;> rfl
    | exact .inl rfl
    | dsimp only
    | dsimp only [id]

theorem tileError_frame {L : List StatePart} {s0 : State} {x : Cmd} {y : Xfer} {st : CStatus} {va : Nat} {s : State}
    (hL : ∀ p ∈ [StatePart.od, .stored, .counters, .mgmt, .links, .intx, .fnCfg, .int, .capture, .ctxs, .cmds, .engines, .lookups, .peers, .windows, .err, .power, .out], p ∈ L) (hok : SameBut L s0 s) :
    SameBut L s0 (tileError x y st va s) := by
  unfold tileError
  repeat' first
    | with_reducible assumption
    | with_reducible refine faultCmd_frame (parts_sub (by decide) hL) ?_
    | intro _ _ _
    | intro _ _
    | intro _
    | dsimp only
    | dsimp only [id]

theorem tileSnoops_frame {L : List StatePart} {s0 : State} {x : Cmd} {y : Xfer} {g : Fun} {t : Tile} {s : State}
    (hL : ∀ p ∈ [StatePart.counters, .int, .coherence, .out], p ∈ L) (hok : SameBut L s0 s) :
    SameBut L s0 (tileSnoops x y g t s) := by
  unfold tileSnoops
  repeat' first
    | with_reducible assumption
    | (extract_lets +onlyGivenNames x
       first
       | (refine sameStep (L := L) (s0 := s0) (x := x) (fun hx => ?_) ?_; clear_value x; rotate_left; subst x)
       | (refine sameStep (L := L) (s0 := s0) (x := x.1) (fun hx => ?_) ?_; clear_value x; rotate_left; subst x)
       | subst x)
    | with_reducible refine foldState_frame (fun _ _ _ => ?_) ?_
    | with_reducible refine gateSnoops_frame (parts_sub (by decide) hL) ?_
    | intro _ _ _
    | intro _ _
    | intro _
    | dsimp only
    | dsimp only [id]

theorem freeResult_frame {L : List StatePart} {s0 : State} {x : Cmd} {va a n : Nat} {s : State}
    (hL : ∀ p ∈ [StatePart.counters, .int, .memory, .pool, .draws, .out], p ∈ L) (hok : SameBut L s0 s) :
    SameBut L s0 (freeResult x va a n s) := by
  unfold freeResult
  repeat' first
    | with_reducible assumption
    | with_reducible refine SameBut.ite ?_ ?_
    | with_reducible refine draw_frame (parts_sub (by decide) hL) ?_
    | with_reducible refine poolWrite_frame (parts_sub (by decide) hL) ?_
    | intro _ _ _
    | intro _ _
    | intro _
    | split
    | dsimp only
    | dsimp only [id]

theorem reduceRun_frame {L : List StatePart} {s0 : State} {x : Cmd} {g : Fun} {r : Run} {p : Nat} {b : Bytes} {s : State}
    (hL : ∀ p ∈ [StatePart.counters, .int, .ctxs, .slots, .memory, .pool, .draws, .out], p ∈ L) (hok : SameBut L s0 s) :
    SameBut L s0 (reduceRun x g r p b s) := by
  unfold reduceRun
  repeat' first
    | with_reducible assumption
    | with_reducible exact .inl rfl
    | exact .inr (hL _ (by decide))
    | (extract_lets +onlyGivenNames x
       first
       | (refine sameStep (L := L) (s0 := s0) (x := x) (fun hx => ?_) ?_; clear_value x; rotate_left; subst x)
       | subst x)
    | with_reducible refine SameBut.ite ?_ ?_
    | with_reducible refine clearCycleExact_frame (parts_sub (by decide) hL) ?_
    | with_reducible refine reduceFence_frame (parts_sub (by decide) hL) ?_
    | with_reducible refine poolReduce_frame (parts_sub (by decide) hL) ?_
    | with_reducible refine freeResult_frame (parts_sub (by decide) hL) ?_
    | with_reducible refine SameBut.ofPair ?_ (by with_reducible assumption)
    | intro _ _ _
    | intro _ _
    | intro _
    | split
    | (simp only [same_lit]; with_reducible refine SameLit.of ?_ ?_ ?_ ?_ ?_ ?_ ?_ ?_ ?_ ?_ ?_ ?_ ?_ ?_ ?_ ?_ ?_ ?_ ?_ ?_ ?_ ?_ ?_ ?_ ?_ ?_ ?_ ?_ ?_ ?_ ?_ ?_ ?_ ?_ ?_ ?_ ?_ ?_ ?_ ?_)
    | exact .inl rfl
    | dsimp only
    | dsimp only [id]

theorem moveRun_frame {L : List StatePart} {s0 : State} {x : Cmd} {g : Fun} {data : Bytes} {r : Run}
    {a : State × List (Nat × Bytes)} (hL : ∀ p ∈ [StatePart.counters, .ats, .int, .ctxs, .slots, .memory, .pool, .draws, .out], p ∈ L) (hok : SameBut L s0 a.1) :
    SameBut L s0 (moveRun x g data r a).1 := by
  obtain ⟨s, outs⟩ := a
  unfold moveRun
  dsimp only at hok ⊢
  repeat' first
    | with_reducible assumption
    | with_reducible refine poolWrite_frame (parts_sub (by decide) hL) ?_
    | with_reducible refine hostWrite_frame (parts_sub (by decide) hL) ?_
    | with_reducible refine reduceRun_frame (parts_sub (by decide) hL) ?_
    | split

theorem moveRuns_frame {L : List StatePart} {s0 : State} {x : Cmd} {g : Fun} {data : Bytes} {l : List Run}
    {a : State × List (Nat × Bytes)} (hL : ∀ p ∈ [StatePart.counters, .ats, .int, .ctxs, .slots, .memory, .pool, .draws, .out], p ∈ L) (hok : SameBut L s0 a.1) :
    SameBut L s0 (l.foldl (fun a r => moveRun x g data r a) a).1 := by
  induction l generalizing a with
  | nil => exact hok
  | cons r l ih => exact ih (moveRun_frame hL hok)

theorem deliverTile_frame {L : List StatePart} {s0 : State} {x : Cmd} {y : Xfer} {g : Fun} {t : Tile} {s : State}
    (hL : ∀ p ∈ [StatePart.od, .stored, .counters, .mgmt, .links, .intx, .ats, .fnCfg, .int, .capture, .ctxs, .slots, .cmds, .engines, .lookups, .peers, .windows, .memory, .pool, .err, .power, .draws, .out], p ∈ L) (hok : SameBut L s0 s) :
    SameBut L s0 (deliverTile x y g t s) := by
  unfold deliverTile
  repeat' first
    | with_reducible assumption
    | with_reducible exact .inl rfl
    | exact .inr (hL _ (by decide))
    | (extract_lets +onlyGivenNames x
       first
       | (refine sameStep (L := L) (s0 := s0) (x := x) (fun hx => ?_) ?_; clear_value x; rotate_left; subst x)
       | subst x)
    | with_reducible refine tileError_frame (parts_sub (by decide) hL) ?_
    | with_reducible refine countPackage_frame (parts_sub (by decide) hL) ?_
    | with_reducible refine draw_frame (parts_sub (by decide) hL) ?_
    | with_reducible refine moveRun_frame (parts_sub (by decide) hL) ?_
    | with_reducible refine sendOps_frame (parts_sub (by decide) hL) ?_
    | with_reducible refine modCmd_frame (parts_sub (by decide) hL) ?_
    | with_reducible refine moveRuns_frame (parts_sub (by decide) hL) ?_
    | with_reducible refine SameBut.ofPair ?_ (by with_reducible assumption)
    | intro _ _ _
    | intro _ _
    | intro _
    | split
    | (simp only [same_lit]; with_reducible refine SameLit.of ?_ ?_ ?_ ?_ ?_ ?_ ?_ ?_ ?_ ?_ ?_ ?_ ?_ ?_ ?_ ?_ ?_ ?_ ?_ ?_ ?_ ?_ ?_ ?_ ?_ ?_ ?_ ?_ ?_ ?_ ?_ ?_ ?_ ?_ ?_ ?_ ?_ ?_ ?_ ?_)
    | exact .inl rfl
    | dsimp only
    | dsimp only [id]

theorem readTile_frame {L : List StatePart} {s0 : State} {x : Cmd} {g : Fun} {t : Tile} {s : State}
    (hL : ∀ p ∈ [StatePart.counters, .requests, .ats, .int, .ctxs, .coherence, .memory, .pool, .draws, .out], p ∈ L) (hok : SameBut L s0 s) :
    SameBut L s0 (readTile x g t s) := by
  unfold readTile
  repeat' first
    | with_reducible assumption
    | with_reducible refine foldState_frame (fun _ _ _ => ?_) ?_
    | with_reducible refine ctxHostRead_frame (parts_sub (by decide) hL) ?_
    | intro _ _ _
    | intro _ _
    | intro _
    | dsimp only
    | dsimp only [id]

theorem tileStops_frame {L : List StatePart} {s0 : State} {x : Cmd} {side : Nat} {code : TCode} {va : Nat} {deny : Option (Nat × PackageId)} {s : State}
    (hL : ∀ p ∈ [StatePart.od, .stored, .counters, .mgmt, .links, .intx, .fnCfg, .faultq, .int, .capture, .fnOther, .ctxs, .cmds, .engines, .lookups, .peers, .windows, .err, .power, .out], p ∈ L) (hok : SameBut L s0 s) :
    SameBut L s0 (tileStops x side code va deny s) := by
  unfold tileStops
  repeat' first
    | with_reducible assumption
    | with_reducible exact .inl rfl
    | exact .inr (hL _ (by decide))
    | (extract_lets +onlyGivenNames x
       first
       | (refine sameStep (L := L) (s0 := s0) (x := x) (fun hx => ?_) ?_; clear_value x; rotate_left; subst x)
       | subst x)
    | with_reducible refine tileFault_frame (parts_sub (by decide) hL) ?_
    | with_reducible refine countFn_frame (parts_sub (by decide) hL) ?_
    | with_reducible refine SameBut.ofPair ?_ (by with_reducible assumption)
    | intro _ _ _
    | intro _ _
    | intro _
    | split
    | (simp only [same_lit]; with_reducible refine SameLit.of ?_ ?_ ?_ ?_ ?_ ?_ ?_ ?_ ?_ ?_ ?_ ?_ ?_ ?_ ?_ ?_ ?_ ?_ ?_ ?_ ?_ ?_ ?_ ?_ ?_ ?_ ?_ ?_ ?_ ?_ ?_ ?_ ?_ ?_ ?_ ?_ ?_ ?_ ?_ ?_)
    | exact .inl rfl
    | dsimp only
    | dsimp only [id]

theorem seekTile_frame {L : List StatePart} {s0 : State} {x : Cmd} {y : Xfer} {g : Fun} {t : Tile} {s : State}
    (hL : ∀ p ∈ [StatePart.counters, .requests, .ats, .int, .ctxs, .cmds, .peers, .windows, .out], p ∈ L) (hok : SameBut L s0 s) :
    SameBut L s0 (seekTile x y g t s) := by
  unfold seekTile
  repeat' first
    | with_reducible assumption
    | with_reducible exact .inl rfl
    | exact .inr (hL _ (by decide))
    | (extract_lets +onlyGivenNames x
       first
       | (refine sameStep (L := L) (s0 := s0) (x := x) (fun hx => ?_) ?_; clear_value x; rotate_left; subst x)
       | (refine sameStep (L := L) (s0 := s0) (x := x.1) (fun hx => ?_) ?_; clear_value x; rotate_left; subst x)
       | subst x)
    | with_reducible refine SameBut.ite ?_ ?_
    | with_reducible refine openOps_frame (parts_sub (by decide) hL) ?_
    | with_reducible refine foldState_frame (fun _ _ _ => ?_) ?_
    | with_reducible refine atsAsk_frame (parts_sub (by decide) hL) ?_
    | intro _ _ _
    | intro _ _
    | intro _
    | split
    | (simp only [same_lit]; with_reducible refine SameLit.of ?_ ?_ ?_ ?_ ?_ ?_ ?_ ?_ ?_ ?_ ?_ ?_ ?_ ?_ ?_ ?_ ?_ ?_ ?_ ?_ ?_ ?_ ?_ ?_ ?_ ?_ ?_ ?_ ?_ ?_ ?_ ?_ ?_ ?_ ?_ ?_ ?_ ?_ ?_ ?_)
    | exact .inl rfl
    | dsimp only
    | dsimp only [id]

theorem refreshRuns_frame {L : List StatePart} {s0 : State} {who : Who} {need : Need} {r0 : List Run} {s : State}
    (hL : ∀ p ∈ [StatePart.counters, .int, .entries, .lookups, .coherence, .out], p ∈ L) (hok : SameBut L s0 s) :
    SameBut L s0 (refreshRuns who need r0 s).1 := by
  induction r0 generalizing s with
  | nil =>
    unfold refreshRuns
    repeat' first
      | with_reducible assumption
      | with_reducible exact .inl rfl
      | exact .inr (hL _ (by decide))
      | (extract_lets +onlyGivenNames x
         first
         | (refine sameStep (L := L) (s0 := s0) (x := x) (fun hx => ?_) ?_; clear_value x; rotate_left; subst x)
         | subst x)
      | with_reducible refine SameBut.ite ?_ ?_
      | with_reducible refine translateSpans_frame (parts_sub (by decide) hL) ?_
      | with_reducible refine SameBut.ofPair ?_ (by with_reducible assumption)
      | intro _ _ _
      | intro _ _
      | intro _
      | split
      | (simp only [same_lit]; with_reducible refine SameLit.of ?_ ?_ ?_ ?_ ?_ ?_ ?_ ?_ ?_ ?_ ?_ ?_ ?_ ?_ ?_ ?_ ?_ ?_ ?_ ?_ ?_ ?_ ?_ ?_ ?_ ?_ ?_ ?_ ?_ ?_ ?_ ?_ ?_ ?_ ?_ ?_ ?_ ?_ ?_ ?_)
      | exact .inl rfl
      | dsimp only
      | dsimp only [id]
  | cons x r0 ih =>
    unfold refreshRuns
    repeat' first
      | with_reducible assumption
      | (extract_lets +onlyGivenNames x
         first
         | (refine sameStep (L := L) (s0 := s0) (x := x) (fun hx => ?_) ?_; clear_value x; rotate_left; subst x)
         | subst x)
      | with_reducible apply ih
      | with_reducible exact .inl rfl
      | exact .inr (hL _ (by decide))
      | with_reducible refine SameBut.ite ?_ ?_
      | with_reducible refine translateSpans_frame (parts_sub (by decide) hL) ?_
      | with_reducible refine SameBut.ofPair ?_ (by with_reducible assumption)
      | intro _ _ _
      | intro _ _
      | intro _
      | split
      | (simp only [same_lit]; with_reducible refine SameLit.of ?_ ?_ ?_ ?_ ?_ ?_ ?_ ?_ ?_ ?_ ?_ ?_ ?_ ?_ ?_ ?_ ?_ ?_ ?_ ?_ ?_ ?_ ?_ ?_ ?_ ?_ ?_ ?_ ?_ ?_ ?_ ?_ ?_ ?_ ?_ ?_ ?_ ?_ ?_ ?_)
      | exact .inl rfl
      | dsimp only
      | dsimp only [id]

theorem keepRuns_frame {L : List StatePart} {s0 : State} {x : Cmd} {src dst : List Run} {stop : Option (TOut × Nat × Nat)} {s : State}
    (hL : ∀ p ∈ [StatePart.cmds], p ∈ L) (hok : SameBut L s0 s) :
    SameBut L s0 (keepRuns x src dst stop s) := by
  unfold keepRuns
  repeat' first
    | with_reducible assumption
    | with_reducible exact .inl rfl
    | exact .inr (hL _ (by decide))
    | (extract_lets +onlyGivenNames x
       first
       | (refine sameStep (L := L) (s0 := s0) (x := x) (fun hx => ?_) ?_; clear_value x; rotate_left; subst x)
       | subst x)
    | with_reducible refine modCmd_frame (parts_sub (by decide) hL) ?_
    | intro _ _ _
    | intro _ _
    | intro _
    | (simp only [same_lit]; with_reducible refine SameLit.of ?_ ?_ ?_ ?_ ?_ ?_ ?_ ?_ ?_ ?_ ?_ ?_ ?_ ?_ ?_ ?_ ?_ ?_ ?_ ?_ ?_ ?_ ?_ ?_ ?_ ?_ ?_ ?_ ?_ ?_ ?_ ?_ ?_ ?_ ?_ ?_ ?_ ?_ ?_ ?_)
    | exact .inl rfl
    | dsimp only
    | dsimp only [id]

theorem refreshTile_frame {L : List StatePart} {s0 : State} {x : Cmd} {g : Fun} {t : Tile} {s : State}
    (hL : ∀ p ∈ [StatePart.counters, .requests, .int, .ctxs, .cmds, .entries, .lookups, .peers, .windows, .coherence, .out], p ∈ L) (hok : SameBut L s0 s) :
    SameBut L s0 (refreshTile x g t s) := by
  unfold refreshTile
  repeat' first
    | with_reducible assumption
    | with_reducible exact .inl rfl
    | exact .inr (hL _ (by decide))
    | (extract_lets +onlyGivenNames x
       first
       | (refine sameStep (L := L) (s0 := s0) (x := x) (fun hx => ?_) ?_; clear_value x; rotate_left; subst x)
       | (refine sameStep (L := L) (s0 := s0) (x := x.1) (fun hx => ?_) ?_; clear_value x; rotate_left; subst x)
       | subst x)
    | with_reducible refine SameBut.ite ?_ ?_
    | with_reducible refine takeBackOps_frame (parts_sub (by decide) hL) ?_
    | with_reducible refine modFixed_frame (parts_sub (by decide) hL) ?_
    | with_reducible refine dropReads_frame (parts_sub (by decide) hL) ?_
    | with_reducible refine refreshRuns_frame (parts_sub (by decide) hL) ?_
    | with_reducible refine keepRuns_frame (parts_sub (by decide) hL) ?_
    | with_reducible refine SameBut.ofPair ?_ (by with_reducible assumption)
    | intro _ _ _
    | intro _ _
    | intro _
    | split
    | (simp only [same_lit]; with_reducible refine SameLit.of ?_ ?_ ?_ ?_ ?_ ?_ ?_ ?_ ?_ ?_ ?_ ?_ ?_ ?_ ?_ ?_ ?_ ?_ ?_ ?_ ?_ ?_ ?_ ?_ ?_ ?_ ?_ ?_ ?_ ?_ ?_ ?_ ?_ ?_ ?_ ?_ ?_ ?_ ?_ ?_)
    | exact .inl rfl
    | dsimp only
    | dsimp only [id]

theorem extendDst_frame {L : List StatePart} {s0 : State} {x : Cmd} {t : Tile} {s : State}
    (hL : ∀ p ∈ [StatePart.counters, .int, .entries, .lookups, .coherence, .out], p ∈ L) (hok : SameBut L s0 s) :
    SameBut L s0 (extendDst x t s).1 := by
  unfold extendDst
  repeat' first
    | with_reducible assumption
    | with_reducible exact .inl rfl
    | exact .inr (hL _ (by decide))
    | (extract_lets +onlyGivenNames x
       first
       | (refine sameStep (L := L) (s0 := s0) (x := x) (fun hx => ?_) ?_; clear_value x; rotate_left; subst x)
       | (refine sameStep (L := L) (s0 := s0) (x := x.1) (fun hx => ?_) ?_; clear_value x; rotate_left; subst x)
       | subst x)
    | with_reducible refine translateSpans_frame (parts_sub (by decide) hL) ?_
    | with_reducible refine SameBut.ofPair ?_ (by with_reducible assumption)
    | intro _ _ _
    | intro _ _
    | intro _
    | split
    | (simp only [same_lit]; with_reducible refine SameLit.of ?_ ?_ ?_ ?_ ?_ ?_ ?_ ?_ ?_ ?_ ?_ ?_ ?_ ?_ ?_ ?_ ?_ ?_ ?_ ?_ ?_ ?_ ?_ ?_ ?_ ?_ ?_ ?_ ?_ ?_ ?_ ?_ ?_ ?_ ?_ ?_ ?_ ?_ ?_ ?_)
    | exact .inl rfl
    | dsimp only
    | dsimp only [id]

theorem extendTile_frame {L : List StatePart} {s0 : State} {x : Cmd} {t : Tile} {s : State}
    (hL : ∀ p ∈ [StatePart.counters, .int, .entries, .lookups, .coherence, .out], p ∈ L) (hok : SameBut L s0 s) :
    SameBut L s0 (extendTile x t s).1 := by
  unfold extendTile
  repeat' first
    | with_reducible assumption
    | with_reducible exact .inl rfl
    | exact .inr (hL _ (by decide))
    | (extract_lets +onlyGivenNames x
       first
       | (refine sameStep (L := L) (s0 := s0) (x := x) (fun hx => ?_) ?_; clear_value x; rotate_left; subst x)
       | (refine sameStep (L := L) (s0 := s0) (x := x.1) (fun hx => ?_) ?_; clear_value x; rotate_left; subst x)
       | subst x)
    | with_reducible refine SameBut.ite ?_ ?_
    | with_reducible refine extendDst_frame (parts_sub (by decide) hL) ?_
    | with_reducible refine translateSpans_frame (parts_sub (by decide) hL) ?_
    | with_reducible refine SameBut.ofPair ?_ (by with_reducible assumption)
    | intro _ _ _
    | intro _ _
    | intro _
    | split
    | (simp only [same_lit]; with_reducible refine SameLit.of ?_ ?_ ?_ ?_ ?_ ?_ ?_ ?_ ?_ ?_ ?_ ?_ ?_ ?_ ?_ ?_ ?_ ?_ ?_ ?_ ?_ ?_ ?_ ?_ ?_ ?_ ?_ ?_ ?_ ?_ ?_ ?_ ?_ ?_ ?_ ?_ ?_ ?_ ?_ ?_)
    | exact .inl rfl
    | dsimp only
    | dsimp only [id]

theorem moveOn_frame {L : List StatePart} {s0 : State} {x : Cmd} {y : Xfer} {g : Fun} {t : Tile} {s : State}
    (hL : ∀ p ∈ [StatePart.od, .stored, .counters, .mgmt, .links, .intx, .requests, .ats, .fnCfg, .faultq, .int, .capture, .fnOther, .ctxs, .slots, .cmds, .engines, .lookups, .peers, .windows, .coherence, .memory, .pool, .err, .power, .draws, .out], p ∈ L) (hok : SameBut L s0 s) :
    SameBut L s0 (moveOn x y g t s) := by
  unfold moveOn
  repeat' first
    | with_reducible assumption
    | with_reducible exact .inl rfl
    | exact .inr (hL _ (by decide))
    | (extract_lets +onlyGivenNames x
       first
       | (refine sameStep (L := L) (s0 := s0) (x := x) (fun hx => ?_) ?_; clear_value x; rotate_left; subst x)
       | subst x)
    | with_reducible refine SameBut.ite ?_ ?_
    | with_reducible refine tileStops_frame (parts_sub (by decide) hL) ?_
    | with_reducible refine tileError_frame (parts_sub (by decide) hL) ?_
    | with_reducible refine seekTile_frame (parts_sub (by decide) hL) ?_
    | with_reducible refine hostRead_frame (parts_sub (by decide) hL) ?_
    | with_reducible refine readTile_frame (parts_sub (by decide) hL) ?_
    | with_reducible refine tileSnoops_frame (parts_sub (by decide) hL) ?_
    | with_reducible refine deliverTile_frame (parts_sub (by decide) hL) ?_
    | with_reducible refine evictBefore_frame (parts_sub (by decide) hL) ?_
    | with_reducible refine SameBut.ofPair ?_ (by with_reducible assumption)
    | intro _ _ _
    | intro _ _
    | intro _
    | split
    | (simp only [same_lit]; with_reducible refine SameLit.of ?_ ?_ ?_ ?_ ?_ ?_ ?_ ?_ ?_ ?_ ?_ ?_ ?_ ?_ ?_ ?_ ?_ ?_ ?_ ?_ ?_ ?_ ?_ ?_ ?_ ?_ ?_ ?_ ?_ ?_ ?_ ?_ ?_ ?_ ?_ ?_ ?_ ?_ ?_ ?_)
    | exact .inl rfl
    | dsimp only
    | dsimp only [id]

theorem moveTile_frame {L : List StatePart} {s0 : State} {x : Cmd} {y : Xfer} {g : Fun} {t : Tile} {s : State}
    (hL : ∀ p ∈ [StatePart.od, .stored, .counters, .mgmt, .links, .intx, .requests, .ats, .fnCfg, .faultq, .int, .capture, .fnOther, .ctxs, .slots, .cmds, .engines, .entries, .lookups, .peers, .windows, .coherence, .memory, .pool, .err, .power, .draws, .out], p ∈ L) (hok : SameBut L s0 s) :
    SameBut L s0 (moveTile x y g t s) := by
  unfold moveTile
  repeat' first
    | with_reducible assumption
    | (extract_lets +onlyGivenNames x
       first
       | (refine sameStep (L := L) (s0 := s0) (x := x) (fun hx => ?_) ?_; clear_value x; rotate_left; subst x)
       | subst x)
    | with_reducible refine SameBut.ite ?_ ?_
    | with_reducible refine refreshTile_frame (parts_sub (by decide) hL) ?_
    | with_reducible refine extendTile_frame (parts_sub (by decide) hL) ?_
    | with_reducible refine moveOn_frame (parts_sub (by decide) hL) ?_
    | with_reducible refine keepRuns_frame (parts_sub (by decide) hL) ?_
    | with_reducible refine SameBut.ofPair ?_ (by with_reducible assumption)
    | intro _ _ _
    | intro _ _
    | intro _
    | split
    | dsimp only
    | dsimp only [id]

theorem startTile_frame {L : List StatePart} {s0 : State} {x : Cmd} {y : Xfer} {g : Fun} {s : State}
    (hL : ∀ p ∈ [StatePart.od, .stored, .counters, .mgmt, .links, .intx, .requests, .ats, .fnCfg, .faultq, .int, .capture, .fnOther, .ctxs, .slots, .cmds, .engines, .entries, .lookups, .peers, .windows, .coherence, .memory, .pool, .err, .power, .draws, .out], p ∈ L) (hok : SameBut L s0 s) :
    SameBut L s0 (startTile x y g s) := by
  unfold startTile
  repeat' first
    | with_reducible assumption
    | with_reducible exact .inl rfl
    | exact .inr (hL _ (by decide))
    | (extract_lets +onlyGivenNames x
       first
       | (refine sameStep (L := L) (s0 := s0) (x := x) (fun hx => ?_) ?_; clear_value x; rotate_left; subst x)
       | subst x)
    | with_reducible refine extendTile_frame (parts_sub (by decide) hL) ?_
    | with_reducible refine moveOn_frame (parts_sub (by decide) hL) ?_
    | with_reducible refine modCmd_frame (parts_sub (by decide) hL) ?_
    | with_reducible refine SameBut.ofPair ?_ (by with_reducible assumption)
    | intro _ _ _
    | intro _ _
    | intro _
    | split
    | (simp only [same_lit]; with_reducible refine SameLit.of ?_ ?_ ?_ ?_ ?_ ?_ ?_ ?_ ?_ ?_ ?_ ?_ ?_ ?_ ?_ ?_ ?_ ?_ ?_ ?_ ?_ ?_ ?_ ?_ ?_ ?_ ?_ ?_ ?_ ?_ ?_ ?_ ?_ ?_ ?_ ?_ ?_ ?_ ?_ ?_)
    | exact .inl rfl
    | dsimp only
    | dsimp only [id]

theorem turnCmd_frame {L : List StatePart} {s0 : State} {x : Cmd} {s : State}
    (hL : ∀ p ∈ [StatePart.od, .stored, .counters, .mgmt, .links, .intx, .requests, .ats, .fnCfg, .faultq, .int, .capture, .fnOther, .ctxs, .slots, .cmds, .engines, .entries, .lookups, .peers, .windows, .coherence, .memory, .pool, .err, .power, .draws, .out], p ∈ L) (hok : SameBut L s0 s) :
    SameBut L s0 (turnCmd x s) := by
  unfold turnCmd
  repeat' first
    | with_reducible assumption
    | with_reducible exact .inl rfl
    | exact .inr (hL _ (by decide))
    | (extract_lets +onlyGivenNames x
       first
       | (refine sameStep (L := L) (s0 := s0) (x := x) (fun hx => ?_) ?_; clear_value x; rotate_left; subst x)
       | subst x)
    | with_reducible refine moveTile_frame (parts_sub (by decide) hL) ?_
    | with_reducible refine startTile_frame (parts_sub (by decide) hL) ?_
    | with_reducible refine SameBut.ofPair ?_ (by with_reducible assumption)
    | intro _ _ _
    | intro _ _
    | intro _
    | split
    | (simp only [same_lit]; with_reducible refine SameLit.of ?_ ?_ ?_ ?_ ?_ ?_ ?_ ?_ ?_ ?_ ?_ ?_ ?_ ?_ ?_ ?_ ?_ ?_ ?_ ?_ ?_ ?_ ?_ ?_ ?_ ?_ ?_ ?_ ?_ ?_ ?_ ?_ ?_ ?_ ?_ ?_ ?_ ?_ ?_ ?_)
    | exact .inl rfl
    | dsimp only
    | dsimp only [id]

theorem settleStep_frame {L : List StatePart} {s0 : State} {e : Engine} {s : State}
    (hL : ∀ p ∈ [StatePart.engines], p ∈ L) (hok : SameBut L s0 s) :
    SameBut L s0 (settleStep e s) := by
  unfold settleStep
  repeat' first
    | with_reducible assumption
    | with_reducible exact .inl rfl
    | exact .inr (hL _ (by decide))
    | (extract_lets +onlyGivenNames x
       first
       | (refine sameStep (L := L) (s0 := s0) (x := x) (fun hx => ?_) ?_; clear_value x; rotate_left; subst x)
       | subst x)
    | with_reducible refine SameBut.ite ?_ ?_
    | with_reducible refine modEngine_frame (parts_sub (by decide) hL) ?_
    | with_reducible refine SameBut.ofPair ?_ (by with_reducible assumption)
    | intro _ _ _
    | intro _ _
    | intro _
    | split
    | (simp only [same_lit]; with_reducible refine SameLit.of ?_ ?_ ?_ ?_ ?_ ?_ ?_ ?_ ?_ ?_ ?_ ?_ ?_ ?_ ?_ ?_ ?_ ?_ ?_ ?_ ?_ ?_ ?_ ?_ ?_ ?_ ?_ ?_ ?_ ?_ ?_ ?_ ?_ ?_ ?_ ?_ ?_ ?_ ?_ ?_)
    | exact .inl rfl
    | dsimp only
    | dsimp only [id]

theorem engineTurn_frame {L : List StatePart} {s0 : State} {e : Engine} {s : State}
    (hL : ∀ p ∈ [StatePart.od, .stored, .counters, .mgmt, .links, .intx, .requests, .ats, .fnCfg, .faultq, .int, .capture, .fnOther, .ctxs, .slots, .cmds, .engines, .entries, .lookups, .peers, .windows, .coherence, .memory, .pool, .err, .power, .draws, .out], p ∈ L) (hok : SameBut L s0 s) :
    SameBut L s0 (engineTurn e s) := by
  unfold engineTurn
  repeat' first
    | with_reducible assumption
    | with_reducible exact .inl rfl
    | exact .inr (hL _ (by decide))
    | (extract_lets +onlyGivenNames x
       first
       | (refine sameStep (L := L) (s0 := s0) (x := x) (fun hx => ?_) ?_; clear_value x; rotate_left; subst x)
       | (refine sameStep (L := L) (s0 := s0) (x := x.1) (fun hx => ?_) ?_; clear_value x; rotate_left; subst x)
       | subst x)
    | with_reducible refine modEngine_frame (parts_sub (by decide) hL) ?_
    | with_reducible refine turnCmd_frame (parts_sub (by decide) hL) ?_
    | with_reducible refine SameBut.ofPair ?_ (by with_reducible assumption)
    | intro _ _ _
    | intro _ _
    | intro _
    | split
    | (simp only [same_lit]; with_reducible refine SameLit.of ?_ ?_ ?_ ?_ ?_ ?_ ?_ ?_ ?_ ?_ ?_ ?_ ?_ ?_ ?_ ?_ ?_ ?_ ?_ ?_ ?_ ?_ ?_ ?_ ?_ ?_ ?_ ?_ ?_ ?_ ?_ ?_ ?_ ?_ ?_ ?_ ?_ ?_ ?_ ?_)
    | exact .inl rfl
    | dsimp only
    | dsimp only [id]

theorem execEngineTurn_frame {e : Engine} {s : State} :
    OutBut [StatePart.od, .stored, .counters, .mgmt, .links, .intx, .requests, .ats, .fnCfg, .faultq, .int, .capture, .fnOther, .ctxs, .slots, .cmds, .engines, .entries, .lookups, .peers, .windows, .coherence, .memory, .pool, .err, .power, .draws, .out] s (execEngineTurn e s) := by
  unfold execEngineTurn
  refine OutBut.of (fun L s0 hL hok => ?_)
  repeat' first
    | with_reducible assumption
    | with_reducible refine engineTurn_frame (parts_sub (by decide) hL) ?_
    | intro _ _ _
    | intro _ _
    | intro _
    | dsimp only
    | dsimp only [id]

theorem tileDone_frame {L : List StatePart} {s0 : State} {x : Cmd} {y : Xfer} {t : Tile} {s : State}
    (hL : ∀ p ∈ [StatePart.counters, .int, .cmds, .engines, .peers, .windows, .out], p ∈ L) (hok : SameBut L s0 s) :
    SameBut L s0 (tileDone x y t s) := by
  unfold tileDone
  repeat' first
    | with_reducible assumption
    | with_reducible exact .inl rfl
    | exact .inr (hL _ (by decide))
    | (extract_lets +onlyGivenNames x
       first
       | (refine sameStep (L := L) (s0 := s0) (x := x) (fun hx => ?_) ?_; clear_value x; rotate_left; subst x)
       | (refine sameStep (L := L) (s0 := s0) (x := x.1) (fun hx => ?_) ?_; clear_value x; rotate_left; subst x)
       | subst x)
    | with_reducible refine SameBut.ite ?_ ?_
    | with_reducible refine emit_frame (parts_sub (by decide) hL) ?_
    | with_reducible refine modCmd_frame (parts_sub (by decide) hL) ?_
    | with_reducible refine dropOps_frame (parts_sub (by decide) hL) ?_
    | with_reducible refine countFn_frame (parts_sub (by decide) hL) ?_
    | with_reducible refine endCmd_frame (parts_sub (by decide) hL) ?_
    | with_reducible refine settleStep_frame (parts_sub (by decide) hL) ?_
    | with_reducible refine SameBut.ofPair ?_ (by with_reducible assumption)
    | intro _ _ _
    | intro _ _
    | intro _
    | split
    | (simp only [same_lit]; with_reducible refine SameLit.of ?_ ?_ ?_ ?_ ?_ ?_ ?_ ?_ ?_ ?_ ?_ ?_ ?_ ?_ ?_ ?_ ?_ ?_ ?_ ?_ ?_ ?_ ?_ ?_ ?_ ?_ ?_ ?_ ?_ ?_ ?_ ?_ ?_ ?_ ?_ ?_ ?_ ?_ ?_ ?_)
    | exact .inl rfl
    | dsimp only
    | dsimp only [id]

theorem tileDelivered_frame {L : List StatePart} {s0 : State} {c : CtxId} {q : Nat} {s : State}
    (hL : ∀ p ∈ [StatePart.od, .stored, .counters, .mgmt, .links, .intx, .requests, .fnCfg, .admin, .int, .capture, .ctxs, .cmds, .engines, .entries, .lookups, .peers, .windows, .coherence, .det, .err, .power, .boot, .out], p ∈ L) (hok : SameBut L s0 s) :
    SameBut L s0 (tileDelivered c q s) := by
  unfold tileDelivered
  repeat' first
    | with_reducible assumption
    | with_reducible exact .inl rfl
    | exact .inr (hL _ (by decide))
    | (extract_lets +onlyGivenNames x
       first
       | (refine sameStep (L := L) (s0 := s0) (x := x) (fun hx => ?_) ?_; clear_value x; rotate_left; subst x)
       | subst x)
    | with_reducible refine SameBut.ite ?_ ?_
    | with_reducible refine tileDone_frame (parts_sub (by decide) hL) ?_
    | with_reducible refine SameBut.ofPair ?_ (by with_reducible assumption)
    | intro _ _ _
    | intro _ _
    | intro _
    | split
    | (simp only [same_lit]; with_reducible refine SameLit.of ?_ ?_ ?_ ?_ ?_ ?_ ?_ ?_ ?_ ?_ ?_ ?_ ?_ ?_ ?_ ?_ ?_ ?_ ?_ ?_ ?_ ?_ ?_ ?_ ?_ ?_ ?_ ?_ ?_ ?_ ?_ ?_ ?_ ?_ ?_ ?_ ?_ ?_ ?_ ?_)
    | exact .inl rfl
    | dsimp only
    | dsimp only [id]

theorem execTileDelivered_frame {c : CtxId} {q : Nat} {s : State} :
    OutBut [StatePart.od, .stored, .counters, .mgmt, .links, .intx, .requests, .fnCfg, .admin, .int, .capture, .ctxs, .cmds, .engines, .entries, .lookups, .peers, .windows, .coherence, .det, .err, .power, .boot, .out] s (execTileDelivered c q s) := by
  unfold execTileDelivered
  refine OutBut.of (fun L s0 hL hok => ?_)
  repeat' first
    | with_reducible assumption
    | with_reducible refine tileDelivered_frame (parts_sub (by decide) hL) ?_
    | intro _ _ _
    | intro _ _
    | intro _
    | dsimp only
    | dsimp only [id]

theorem dropConsumed_frame {L : List StatePart} {s0 : State} {tag : U16} {s : State}
    (hL : ∀ p ∈ [StatePart.counters, .int, .draws], p ∈ L) (hok : SameBut L s0 s) :
    SameBut L s0 (dropConsumed tag s) := by
  unfold dropConsumed
  repeat' first
    | with_reducible assumption
    | with_reducible exact .inl rfl
    | exact .inr (hL _ (by decide))
    | (extract_lets +onlyGivenNames x
       first
       | (refine sameStep (L := L) (s0 := s0) (x := x) (fun hx => ?_) ?_; clear_value x; rotate_left; subst x)
       | subst x)
    | with_reducible refine countFn_frame (parts_sub (by decide) hL) ?_
    | with_reducible refine draw_frame (parts_sub (by decide) hL) ?_
    | with_reducible refine SameBut.ofPair ?_ (by with_reducible assumption)
    | intro _ _ _
    | intro _ _
    | intro _
    | split
    | (simp only [same_lit]; with_reducible refine SameLit.of ?_ ?_ ?_ ?_ ?_ ?_ ?_ ?_ ?_ ?_ ?_ ?_ ?_ ?_ ?_ ?_ ?_ ?_ ?_ ?_ ?_ ?_ ?_ ?_ ?_ ?_ ?_ ?_ ?_ ?_ ?_ ?_ ?_ ?_ ?_ ?_ ?_ ?_ ?_ ?_)
    | exact .inl rfl
    | dsimp only
    | dsimp only [id]

theorem tileConsumed_frame {L : List StatePart} {s0 : State} {tag creditId : U16} {n : Nat} {s : State}
    (hL : ∀ p ∈ [StatePart.counters, .int, .cmds, .draws], p ∈ L) (hok : SameBut L s0 s) :
    SameBut L s0 (tileConsumed tag creditId n s) := by
  unfold tileConsumed
  repeat' first
    | with_reducible assumption
    | with_reducible exact .inl rfl
    | exact .inr (hL _ (by decide))
    | (extract_lets +onlyGivenNames x
       first
       | (refine sameStep (L := L) (s0 := s0) (x := x) (fun hx => ?_) ?_; clear_value x; rotate_left; subst x)
       | subst x)
    | with_reducible refine SameBut.ite ?_ ?_
    | with_reducible refine dropConsumed_frame (parts_sub (by decide) hL) ?_
    | with_reducible refine countFn_frame (parts_sub (by decide) hL) ?_
    | with_reducible refine modCmd_frame (parts_sub (by decide) hL) ?_
    | with_reducible refine SameBut.ofPair ?_ (by with_reducible assumption)
    | intro _ _ _
    | intro _ _
    | intro _
    | split
    | (simp only [same_lit]; with_reducible refine SameLit.of ?_ ?_ ?_ ?_ ?_ ?_ ?_ ?_ ?_ ?_ ?_ ?_ ?_ ?_ ?_ ?_ ?_ ?_ ?_ ?_ ?_ ?_ ?_ ?_ ?_ ?_ ?_ ?_ ?_ ?_ ?_ ?_ ?_ ?_ ?_ ?_ ?_ ?_ ?_ ?_)
    | exact .inl rfl
    | dsimp only
    | dsimp only [id]

theorem execTileConsumed_frame {tag creditId : U16} {n : Nat} {s : State} :
    OutBut [StatePart.counters, .int, .cmds, .draws] s (execTileConsumed tag creditId n s) := by
  unfold execTileConsumed
  refine OutBut.of (fun L s0 hL hok => ?_)
  repeat' first
    | with_reducible assumption
    | with_reducible refine tileConsumed_frame (parts_sub (by decide) hL) ?_
    | intro _ _ _
    | intro _ _
    | intro _
    | dsimp only
    | dsimp only [id]


/-! ### Machine/Faults.lean -/

theorem timeoutRecord_frame {L : List StatePart} {s0 : State} {r : FaultRec} {s : State}
    (hL : ∀ p ∈ [StatePart.od, .stored, .counters, .mgmt, .links, .intx, .fnCfg, .int, .capture, .ctxs, .cmds, .engines, .lookups, .peers, .windows, .err, .power, .out], p ∈ L) (hok : SameBut L s0 s) :
    SameBut L s0 (timeoutRecord r s) := by
  unfold timeoutRecord
  repeat' first
    | with_reducible assumption
    | with_reducible exact .inl rfl
    | exact .inr (hL _ (by decide))
    | (extract_lets +onlyGivenNames x
       first
       | (refine sameStep (L := L) (s0 := s0) (x := x) (fun hx => ?_) ?_; clear_value x; rotate_left; subst x)
       | subst x)
    | with_reducible refine SameBut.ite ?_ ?_
    | with_reducible refine faultCmd_frame (parts_sub (by decide) hL) ?_
    | with_reducible refine countFn_frame (parts_sub (by decide) hL) ?_
    | with_reducible refine SameBut.ofPair ?_ (by with_reducible assumption)
    | intro _ _ _
    | intro _ _
    | intro _
    | split
    | (simp only [same_lit]; with_reducible refine SameLit.of ?_ ?_ ?_ ?_ ?_ ?_ ?_ ?_ ?_ ?_ ?_ ?_ ?_ ?_ ?_ ?_ ?_ ?_ ?_ ?_ ?_ ?_ ?_ ?_ ?_ ?_ ?_ ?_ ?_ ?_ ?_ ?_ ?_ ?_ ?_ ?_ ?_ ?_ ?_ ?_)
    | exact .inl rfl
    | dsimp only
    | dsimp only [id]

theorem endWaiting_frame {L : List StatePart} {s0 : State} {g : Fun} {s : State}
    (hL : ∀ p ∈ [StatePart.od, .stored, .counters, .mgmt, .links, .intx, .fnCfg, .faultq, .int, .capture, .ctxs, .cmds, .engines, .lookups, .peers, .windows, .err, .power, .out], p ∈ L) (hok : SameBut L s0 s) :
    SameBut L s0 (endWaiting g s) := by
  unfold endWaiting
  repeat' first
    | with_reducible assumption
    | with_reducible exact .inl rfl
    | exact .inr (hL _ (by decide))
    | (extract_lets +onlyGivenNames x
       first
       | (refine sameStep (L := L) (s0 := s0) (x := x) (fun hx => ?_) ?_; clear_value x; rotate_left; subst x)
       | subst x)
    | with_reducible refine SameBut.ite ?_ ?_
    | with_reducible refine foldState_frame (fun _ _ _ => ?_) ?_
    | with_reducible refine timeoutRecord_frame (parts_sub (by decide) hL) ?_
    | with_reducible refine modFaultq_frame (parts_sub (by decide) hL) ?_
    | intro _ _ _
    | intro _ _
    | intro _
    | split
    | (simp only [same_lit]; with_reducible refine SameLit.of ?_ ?_ ?_ ?_ ?_ ?_ ?_ ?_ ?_ ?_ ?_ ?_ ?_ ?_ ?_ ?_ ?_ ?_ ?_ ?_ ?_ ?_ ?_ ?_ ?_ ?_ ?_ ?_ ?_ ?_ ?_ ?_ ?_ ?_ ?_ ?_ ?_ ?_ ?_ ?_)
    | exact .inl rfl
    | dsimp only
    | dsimp only [id]

theorem execFaultqControlWrite_frame {g : Fun} {v : U64} {s : State} :
    OutBut [StatePart.od, .stored, .counters, .mgmt, .links, .intx, .fnCfg, .faultq, .int, .capture, .ctxs, .cmds, .engines, .lookups, .peers, .windows, .err, .power, .out] s (execFaultqControlWrite g v s) := by
  unfold execFaultqControlWrite
  refine OutBut.of (fun L s0 hL hok => ?_)
  repeat' first
    | with_reducible assumption
    | with_reducible refine barWrite_frame (parts_sub (by decide) hL) ?_ ?_
    | with_reducible refine endWaiting_frame (parts_sub (by decide) hL) ?_
    | with_reducible refine modFaultq_frame (parts_sub (by decide) hL) ?_
    | intro _ _ _
    | intro _ _
    | intro _
    | dsimp only
    | dsimp only [id]

theorem execFaultqHeadWrite_frame {g : Fun} {v : U64} {s : State} :
    OutBut [StatePart.fnCfg, .faultq, .out] s (execFaultqHeadWrite g v s) := by
  unfold execFaultqHeadWrite
  refine OutBut.of (fun L s0 hL hok => ?_)
  repeat' first
    | with_reducible assumption
    | with_reducible exact .inl rfl
    | exact .inr (hL _ (by decide))
    | (extract_lets +onlyGivenNames x
       first
       | (refine sameStep (L := L) (s0 := s0) (x := x) (fun hx => ?_) ?_; clear_value x; rotate_left; subst x)
       | subst x)
    | with_reducible refine barWrite_frame (parts_sub (by decide) hL) ?_ ?_
    | with_reducible refine modFaultq_frame (parts_sub (by decide) hL) ?_
    | intro _ _ _
    | intro _ _
    | intro _
    | (simp only [same_lit]; with_reducible refine SameLit.of ?_ ?_ ?_ ?_ ?_ ?_ ?_ ?_ ?_ ?_ ?_ ?_ ?_ ?_ ?_ ?_ ?_ ?_ ?_ ?_ ?_ ?_ ?_ ?_ ?_ ?_ ?_ ?_ ?_ ?_ ?_ ?_ ?_ ?_ ?_ ?_ ?_ ?_ ?_ ?_)
    | exact .inl rfl
    | dsimp only
    | dsimp only [id]

theorem execFaultTimeoutWrite_frame {g : Fun} {v : U64} {s : State} :
    OutBut [StatePart.fnCfg, .faultq, .out] s (execFaultTimeoutWrite g v s) := by
  unfold execFaultTimeoutWrite
  refine OutBut.of (fun L s0 hL hok => ?_)
  repeat' first
    | with_reducible assumption
    | with_reducible exact .inl rfl
    | exact .inr (hL _ (by decide))
    | (extract_lets +onlyGivenNames x
       first
       | (refine sameStep (L := L) (s0 := s0) (x := x) (fun hx => ?_) ?_; clear_value x; rotate_left; subst x)
       | subst x)
    | with_reducible refine barWrite_frame (parts_sub (by decide) hL) ?_ ?_
    | with_reducible refine modFaultq_frame (parts_sub (by decide) hL) ?_
    | intro _ _ _
    | intro _ _
    | intro _
    | (simp only [same_lit]; with_reducible refine SameLit.of ?_ ?_ ?_ ?_ ?_ ?_ ?_ ?_ ?_ ?_ ?_ ?_ ?_ ?_ ?_ ?_ ?_ ?_ ?_ ?_ ?_ ?_ ?_ ?_ ?_ ?_ ?_ ?_ ?_ ?_ ?_ ?_ ?_ ?_ ?_ ?_ ?_ ?_ ?_ ?_)
    | exact .inl rfl
    | dsimp only
    | dsimp only [id]

theorem writeFaultRecord_frame {L : List StatePart} {s0 : State} {g : Fun} {ok : Bool} {s : State}
    (hL : ∀ p ∈ [StatePart.od, .stored, .counters, .mgmt, .links, .intx, .ats, .fnCfg, .faultq, .int, .capture, .ctxs, .cmds, .engines, .lookups, .peers, .windows, .err, .power, .out], p ∈ L) (hok : SameBut L s0 s) :
    SameBut L s0 (writeFaultRecord g ok s) := by
  unfold writeFaultRecord
  repeat' first
    | with_reducible assumption
    | with_reducible exact .inl rfl
    | exact .inr (hL _ (by decide))
    | (extract_lets +onlyGivenNames x
       first
       | (refine sameStep (L := L) (s0 := s0) (x := x) (fun hx => ?_) ?_; clear_value x; rotate_left; subst x)
       | subst x)
    | with_reducible refine SameBut.ite ?_ ?_
    | with_reducible refine endWaiting_frame (parts_sub (by decide) hL) ?_
    | with_reducible refine modFaultq_frame (parts_sub (by decide) hL) ?_
    | with_reducible refine hostWrite_frame (parts_sub (by decide) hL) ?_
    | with_reducible refine fire_frame (parts_sub (by decide) hL) ?_
    | with_reducible refine SameBut.ofPair ?_ (by with_reducible assumption)
    | intro _ _ _
    | intro _ _
    | intro _
    | split
    | (simp only [same_lit]; with_reducible refine SameLit.of ?_ ?_ ?_ ?_ ?_ ?_ ?_ ?_ ?_ ?_ ?_ ?_ ?_ ?_ ?_ ?_ ?_ ?_ ?_ ?_ ?_ ?_ ?_ ?_ ?_ ?_ ?_ ?_ ?_ ?_ ?_ ?_ ?_ ?_ ?_ ?_ ?_ ?_ ?_ ?_)
    | exact .inl rfl
    | dsimp only
    | dsimp only [id]

theorem execFaultRecordWrite_frame {g : Fun} {ok : Bool} {s : State} :
    OutBut [StatePart.od, .stored, .counters, .mgmt, .links, .intx, .ats, .fnCfg, .faultq, .int, .capture, .ctxs, .cmds, .engines, .lookups, .peers, .windows, .err, .power, .out] s (execFaultRecordWrite g ok s) := by
  unfold execFaultRecordWrite
  refine OutBut.of (fun L s0 hL hok => ?_)
  repeat' first
    | with_reducible assumption
    | with_reducible refine writeFaultRecord_frame (parts_sub (by decide) hL) ?_
    | intro _ _ _
    | intro _ _
    | intro _
    | dsimp only
    | dsimp only [id]

theorem respond_frame {L : List StatePart} {s0 : State} {g : Fun} {id : U32} {result : Nat} {s : State}
    (hL : ∀ p ∈ [StatePart.counters, .faultq, .int], p ∈ L) (hok : SameBut L s0 s) :
    SameBut L s0 (respond g id result s) := by
  unfold respond
  repeat' first
    | with_reducible assumption
    | with_reducible exact .inl rfl
    | exact .inr (hL _ (by decide))
    | (extract_lets +onlyGivenNames x
       first
       | (refine sameStep (L := L) (s0 := s0) (x := x) (fun hx => ?_) ?_; clear_value x; rotate_left; subst x)
       | subst x)
    | with_reducible refine SameBut.ite ?_ ?_
    | with_reducible refine modFaultq_frame (parts_sub (by decide) hL) ?_
    | with_reducible refine countFn_frame (parts_sub (by decide) hL) ?_
    | intro _ _ _
    | intro _ _
    | intro _
    | split
    | (simp only [same_lit]; with_reducible refine SameLit.of ?_ ?_ ?_ ?_ ?_ ?_ ?_ ?_ ?_ ?_ ?_ ?_ ?_ ?_ ?_ ?_ ?_ ?_ ?_ ?_ ?_ ?_ ?_ ?_ ?_ ?_ ?_ ?_ ?_ ?_ ?_ ?_ ?_ ?_ ?_ ?_ ?_ ?_ ?_ ?_)
    | exact .inl rfl
    | dsimp only
    | dsimp only [id]

theorem takeRecord_frame {L : List StatePart} {s0 : State} {g : Fun} {id : U32} {s : State}
    (hL : ∀ p ∈ [StatePart.faultq], p ∈ L) (hok : SameBut L s0 s) :
    SameBut L s0 (takeRecord g id s) := by
  unfold takeRecord
  repeat' first
    | with_reducible assumption
    | with_reducible exact .inl rfl
    | exact .inr (hL _ (by decide))
    | (extract_lets +onlyGivenNames x
       first
       | (refine sameStep (L := L) (s0 := s0) (x := x) (fun hx => ?_) ?_; clear_value x; rotate_left; subst x)
       | subst x)
    | with_reducible refine modFaultq_frame (parts_sub (by decide) hL) ?_
    | intro _ _ _
    | intro _ _
    | intro _
    | (simp only [same_lit]; with_reducible refine SameLit.of ?_ ?_ ?_ ?_ ?_ ?_ ?_ ?_ ?_ ?_ ?_ ?_ ?_ ?_ ?_ ?_ ?_ ?_ ?_ ?_ ?_ ?_ ?_ ?_ ?_ ?_ ?_ ?_ ?_ ?_ ?_ ?_ ?_ ?_ ?_ ?_ ?_ ?_ ?_ ?_)
    | exact .inl rfl
    | dsimp only
    | dsimp only [id]

theorem answer_frame {L : List StatePart} {s0 : State} {g : Fun} {id : U32} {act : FaultRec → State → State} {s : State}
    (hL : ∀ p ∈ [StatePart.counters, .faultq, .int], p ∈ L) (h_act : ∀ a0 t, SameBut L s0 t → SameBut L s0 (act a0 t)) (hok : SameBut L s0 s) :
    SameBut L s0 (answer g id act s) := by
  unfold answer
  repeat' first
    | with_reducible assumption
    | with_reducible exact .inl rfl
    | exact .inr (hL _ (by decide))
    | (extract_lets +onlyGivenNames x
       first
       | (refine sameStep (L := L) (s0 := s0) (x := x) (fun hx => ?_) ?_; clear_value x; rotate_left; subst x)
       | subst x)
    | with_reducible refine SameBut.ite ?_ ?_
    | with_reducible apply h_act
    | with_reducible refine respond_frame (parts_sub (by decide) hL) ?_
    | with_reducible refine takeRecord_frame (parts_sub (by decide) hL) ?_
    | with_reducible refine SameBut.ofPair ?_ (by with_reducible assumption)
    | intro _ _ _
    | intro _ _
    | intro _
    | split
    | (simp only [same_lit]; with_reducible refine SameLit.of ?_ ?_ ?_ ?_ ?_ ?_ ?_ ?_ ?_ ?_ ?_ ?_ ?_ ?_ ?_ ?_ ?_ ?_ ?_ ?_ ?_ ?_ ?_ ?_ ?_ ?_ ?_ ?_ ?_ ?_ ?_ ?_ ?_ ?_ ?_ ?_ ?_ ?_ ?_ ?_)
    | exact .inl rfl
    | dsimp only
    | dsimp only [id]

theorem assignEngine_frame {L : List StatePart} {s0 : State} {e : Engine} {k : CtxId × Nat} {s : State}
    (hL : ∀ p ∈ [StatePart.engines], p ∈ L) (hok : SameBut L s0 s) :
    SameBut L s0 (assignEngine e k s) := by
  unfold assignEngine
  repeat' first
    | with_reducible assumption
    | with_reducible exact .inl rfl
    | exact .inr (hL _ (by decide))
    | (extract_lets +onlyGivenNames x
       first
       | (refine sameStep (L := L) (s0 := s0) (x := x) (fun hx => ?_) ?_; clear_value x; rotate_left; subst x)
       | subst x)
    | with_reducible refine SameBut.ite ?_ ?_
    | with_reducible refine modEngine_frame (parts_sub (by decide) hL) ?_
    | intro _ _ _
    | intro _ _
    | intro _
    | split
    | (simp only [same_lit]; with_reducible refine SameLit.of ?_ ?_ ?_ ?_ ?_ ?_ ?_ ?_ ?_ ?_ ?_ ?_ ?_ ?_ ?_ ?_ ?_ ?_ ?_ ?_ ?_ ?_ ?_ ?_ ?_ ?_ ?_ ?_ ?_ ?_ ?_ ?_ ?_ ?_ ?_ ?_ ?_ ?_ ?_ ?_)
    | exact .inl rfl
    | dsimp only
    | dsimp only [id]

theorem resumeCmd_frame {L : List StatePart} {s0 : State} {r : FaultRec} {s : State}
    (hL : ∀ p ∈ [StatePart.cmds, .engines], p ∈ L) (hok : SameBut L s0 s) :
    SameBut L s0 (resumeCmd r s) := by
  unfold resumeCmd
  repeat' first
    | with_reducible assumption
    | with_reducible exact .inl rfl
    | exact .inr (hL _ (by decide))
    | (extract_lets +onlyGivenNames x
       first
       | (refine sameStep (L := L) (s0 := s0) (x := x) (fun hx => ?_) ?_; clear_value x; rotate_left; subst x)
       | subst x)
    | with_reducible refine SameBut.ite ?_ ?_
    | with_reducible refine modCmd_frame (parts_sub (by decide) hL) ?_
    | with_reducible refine assignEngine_frame (parts_sub (by decide) hL) ?_
    | with_reducible refine leaveEngines_frame (parts_sub (by decide) hL) ?_
    | with_reducible refine SameBut.ofPair ?_ (by with_reducible assumption)
    | intro _ _ _
    | intro _ _
    | intro _
    | split
    | (simp only [same_lit]; with_reducible refine SameLit.of ?_ ?_ ?_ ?_ ?_ ?_ ?_ ?_ ?_ ?_ ?_ ?_ ?_ ?_ ?_ ?_ ?_ ?_ ?_ ?_ ?_ ?_ ?_ ?_ ?_ ?_ ?_ ?_ ?_ ?_ ?_ ?_ ?_ ?_ ?_ ?_ ?_ ?_ ?_ ?_)
    | exact .inl rfl
    | dsimp only
    | dsimp only [id]

theorem execFaultResume_frame {g : Fun} {id : U32} {s : State} :
    OutBut [StatePart.counters, .fnCfg, .faultq, .int, .cmds, .engines, .out] s (execFaultResume g id s) := by
  unfold execFaultResume
  refine OutBut.of (fun L s0 hL hok => ?_)
  repeat' first
    | with_reducible assumption
    | with_reducible refine barWrite_frame (parts_sub (by decide) hL) ?_ ?_
    | with_reducible refine answer_frame (parts_sub (by decide) hL) ?_ ?_
    | with_reducible refine resumeCmd_frame (parts_sub (by decide) hL) ?_
    | intro _ _ _
    | intro _ _
    | intro _
    | dsimp only
    | dsimp only [id]

theorem abortRecord_frame {L : List StatePart} {s0 : State} {r : FaultRec} {s : State}
    (hL : ∀ p ∈ [StatePart.od, .stored, .counters, .mgmt, .links, .intx, .fnCfg, .int, .capture, .ctxs, .cmds, .engines, .lookups, .peers, .windows, .err, .power, .out], p ∈ L) (hok : SameBut L s0 s) :
    SameBut L s0 (abortRecord r s) := by
  unfold abortRecord
  repeat' first
    | with_reducible assumption
    | with_reducible refine faultCmd_frame (parts_sub (by decide) hL) ?_
    | intro _ _ _
    | intro _ _
    | intro _
    | dsimp only
    | dsimp only [id]

theorem execFaultAbort_frame {g : Fun} {id : U32} {s : State} :
    OutBut [StatePart.od, .stored, .counters, .mgmt, .links, .intx, .fnCfg, .faultq, .int, .capture, .ctxs, .cmds, .engines, .lookups, .peers, .windows, .err, .power, .out] s (execFaultAbort g id s) := by
  unfold execFaultAbort
  refine OutBut.of (fun L s0 hL hok => ?_)
  repeat' first
    | with_reducible assumption
    | with_reducible refine barWrite_frame (parts_sub (by decide) hL) ?_ ?_
    | with_reducible refine answer_frame (parts_sub (by decide) hL) ?_ ?_
    | with_reducible refine abortRecord_frame (parts_sub (by decide) hL) ?_
    | intro _ _ _
    | intro _ _
    | intro _
    | dsimp only
    | dsimp only [id]

theorem badAction_frame {L : List StatePart} {s0 : State} {g : Fun} {v : U64} {s : State}
    (hL : ∀ p ∈ [StatePart.counters, .faultq, .int], p ∈ L) (hok : SameBut L s0 s) :
    SameBut L s0 (badAction g v s) := by
  unfold badAction
  repeat' first
    | with_reducible assumption
    | (extract_lets +onlyGivenNames x
       first
       | (refine sameStep (L := L) (s0 := s0) (x := x) (fun hx => ?_) ?_; clear_value x; rotate_left; subst x)
       | subst x)
    | with_reducible refine SameBut.ite ?_ ?_
    | with_reducible refine respond_frame (parts_sub (by decide) hL) ?_
    | intro _ _ _
    | intro _ _
    | intro _
    | split
    | dsimp only
    | dsimp only [id]

theorem writeResponse_frame {L : List StatePart} {s0 : State} {g : Fun} {v : U64} {s : State}
    (hL : ∀ p ∈ [StatePart.od, .stored, .counters, .mgmt, .links, .intx, .fnCfg, .faultq, .int, .capture, .ctxs, .cmds, .engines, .lookups, .peers, .windows, .err, .power, .out], p ∈ L) (hok : SameBut L s0 s) :
    SameBut L s0 (writeResponse g v s) := by
  unfold writeResponse
  repeat' first
    | with_reducible assumption
    | (extract_lets +onlyGivenNames x
       first
       | (refine sameStep (L := L) (s0 := s0) (x := x) (fun hx => ?_) ?_; clear_value x; rotate_left; subst x)
       | subst x)
    | with_reducible refine SameBut.ite ?_ ?_
    | with_reducible refine badAction_frame (parts_sub (by decide) hL) ?_
    | with_reducible refine answer_frame (parts_sub (by decide) hL) ?_ ?_
    | with_reducible refine resumeCmd_frame (parts_sub (by decide) hL) ?_
    | with_reducible refine abortRecord_frame (parts_sub (by decide) hL) ?_
    | intro _ _ _
    | intro _ _
    | intro _
    | split
    | dsimp only
    | dsimp only [id]

theorem execFaultResponseBadAction_frame {g : Fun} {v : U64} {s : State} :
    OutBut [StatePart.od, .stored, .counters, .mgmt, .links, .intx, .fnCfg, .faultq, .int, .capture, .ctxs, .cmds, .engines, .lookups, .peers, .windows, .err, .power, .out] s (execFaultResponseBadAction g v s) := by
  unfold execFaultResponseBadAction
  refine OutBut.of (fun L s0 hL hok => ?_)
  repeat' first
    | with_reducible assumption
    | with_reducible refine barWrite_frame (parts_sub (by decide) hL) ?_ ?_
    | with_reducible refine writeResponse_frame (parts_sub (by decide) hL) ?_
    | intro _ _ _
    | intro _ _
    | intro _
    | dsimp only
    | dsimp only [id]

theorem expireRecord_frame {L : List StatePart} {s0 : State} {g : Fun} {id : U32} {s : State}
    (hL : ∀ p ∈ [StatePart.od, .stored, .counters, .mgmt, .links, .intx, .fnCfg, .faultq, .int, .capture, .ctxs, .cmds, .engines, .lookups, .peers, .windows, .err, .power, .out], p ∈ L) (hok : SameBut L s0 s) :
    SameBut L s0 (expireRecord g id s) := by
  unfold expireRecord
  repeat' first
    | with_reducible assumption
    | with_reducible exact .inl rfl
    | exact .inr (hL _ (by decide))
    | (extract_lets +onlyGivenNames x
       first
       | (refine sameStep (L := L) (s0 := s0) (x := x) (fun hx => ?_) ?_; clear_value x; rotate_left; subst x)
       | subst x)
    | with_reducible refine SameBut.ite ?_ ?_
    | with_reducible refine timeoutRecord_frame (parts_sub (by decide) hL) ?_
    | with_reducible refine takeRecord_frame (parts_sub (by decide) hL) ?_
    | with_reducible refine SameBut.ofPair ?_ (by with_reducible assumption)
    | intro _ _ _
    | intro _ _
    | intro _
    | split
    | (simp only [same_lit]; with_reducible refine SameLit.of ?_ ?_ ?_ ?_ ?_ ?_ ?_ ?_ ?_ ?_ ?_ ?_ ?_ ?_ ?_ ?_ ?_ ?_ ?_ ?_ ?_ ?_ ?_ ?_ ?_ ?_ ?_ ?_ ?_ ?_ ?_ ?_ ?_ ?_ ?_ ?_ ?_ ?_ ?_ ?_)
    | exact .inl rfl
    | dsimp only
    | dsimp only [id]

theorem execFaultTimeoutExpiry_frame {g : Fun} {id : U32} {s : State} :
    OutBut [StatePart.od, .stored, .counters, .mgmt, .links, .intx, .fnCfg, .faultq, .int, .capture, .ctxs, .cmds, .engines, .lookups, .peers, .windows, .err, .power, .out] s (execFaultTimeoutExpiry g id s) := by
  unfold execFaultTimeoutExpiry
  refine OutBut.of (fun L s0 hL hok => ?_)
  repeat' first
    | with_reducible assumption
    | with_reducible refine expireRecord_frame (parts_sub (by decide) hL) ?_
    | intro _ _ _
    | intro _ _
    | intro _
    | dsimp only
    | dsimp only [id]


/-! ### Machine/Dispatching.lean -/

theorem setStage_frame {L : List StatePart} {s0 : State} {x : Cmd} {st : CmdStage} {s : State}
    (hL : ∀ p ∈ [StatePart.cmds], p ∈ L) (hok : SameBut L s0 s) :
    SameBut L s0 (setStage x st s) := by
  unfold setStage
  repeat' first
    | with_reducible assumption
    | with_reducible exact .inl rfl
    | exact .inr (hL _ (by decide))
    | (extract_lets +onlyGivenNames x
       first
       | (refine sameStep (L := L) (s0 := s0) (x := x) (fun hx => ?_) ?_; clear_value x; rotate_left; subst x)
       | subst x)
    | with_reducible refine modCmd_frame (parts_sub (by decide) hL) ?_
    | intro _ _ _
    | intro _ _
    | intro _
    | (simp only [same_lit]; with_reducible refine SameLit.of ?_ ?_ ?_ ?_ ?_ ?_ ?_ ?_ ?_ ?_ ?_ ?_ ?_ ?_ ?_ ?_ ?_ ?_ ?_ ?_ ?_ ?_ ?_ ?_ ?_ ?_ ?_ ?_ ?_ ?_ ?_ ?_ ?_ ?_ ?_ ?_ ?_ ?_ ?_ ?_)
    | exact .inl rfl
    | dsimp only
    | dsimp only [id]

theorem stageDecode_frame {L : List StatePart} {s0 : State} {x : Cmd} {g : Fun} {s : State}
    (hL : ∀ p ∈ [StatePart.od, .stored, .counters, .mgmt, .links, .intx, .fnCfg, .int, .capture, .ctxs, .cmds, .engines, .lookups, .peers, .windows, .err, .power, .out], p ∈ L) (hok : SameBut L s0 s) :
    SameBut L s0 (stageDecode x g s).1 := by
  unfold stageDecode
  repeat' first
    | with_reducible assumption
    | (extract_lets +onlyGivenNames x
       first
       | (refine sameStep (L := L) (s0 := s0) (x := x) (fun hx => ?_) ?_; clear_value x; rotate_left; subst x)
       | subst x)
    | with_reducible refine SameBut.ite ?_ ?_
    | with_reducible refine faultCmd_frame (parts_sub (by decide) hL) ?_
    | with_reducible refine setStage_frame (parts_sub (by decide) hL) ?_
    | intro _ _ _
    | intro _ _
    | intro _
    | split
    | dsimp only
    | dsimp only [id]

theorem stageBarrier_frame {L : List StatePart} {s0 : State} {x : Cmd} {s : State}
    (hL : ∀ p ∈ [StatePart.cmds], p ∈ L) (hok : SameBut L s0 s) :
    SameBut L s0 (stageBarrier x s).1 := by
  unfold stageBarrier
  repeat' first
    | with_reducible assumption
    | (extract_lets +onlyGivenNames x
       first
       | (refine sameStep (L := L) (s0 := s0) (x := x) (fun hx => ?_) ?_; clear_value x; rotate_left; subst x)
       | subst x)
    | with_reducible refine SameBut.ite ?_ ?_
    | with_reducible refine setStage_frame (parts_sub (by decide) hL) ?_
    | intro _ _ _
    | intro _ _
    | intro _
    | split
    | dsimp only
    | dsimp only [id]

theorem stageWaits_frame {L : List StatePart} {s0 : State} {x : Cmd} {g : Fun} {r0 : Nat} {r1 : Nat} {s : State}
    (hL : ∀ p ∈ [StatePart.od, .stored, .counters, .mgmt, .links, .intx, .fnCfg, .int, .capture, .ctxs, .cmds, .engines, .lookups, .peers, .windows, .coherence, .err, .power, .out], p ∈ L) (hok : SameBut L s0 s) :
    SameBut L s0 (stageWaits x g r0 r1 s).1 := by
  induction r0 generalizing r1 s with
  | zero =>
    unfold stageWaits
    repeat' first
      | with_reducible assumption
      | with_reducible exact .inl rfl
      | exact .inr (hL _ (by decide))
      | (extract_lets +onlyGivenNames x
         first
         | (refine sameStep (L := L) (s0 := s0) (x := x) (fun hx => ?_) ?_; clear_value x; rotate_left; subst x)
         | subst x)
      | with_reducible refine SameBut.ite ?_ ?_
      | with_reducible refine setStage_frame (parts_sub (by decide) hL) ?_
      | with_reducible refine faultCmd_frame (parts_sub (by decide) hL) ?_
      | with_reducible refine modCmd_frame (parts_sub (by decide) hL) ?_
      | with_reducible refine gateSnoops_frame (parts_sub (by decide) hL) ?_
      | with_reducible refine countPackage_frame (parts_sub (by decide) hL) ?_
      | with_reducible refine SameBut.ofPair ?_ (by with_reducible assumption)
      | intro _ _ _
      | intro _ _
      | intro _
      | split
      | (simp only [same_lit]; with_reducible refine SameLit.of ?_ ?_ ?_ ?_ ?_ ?_ ?_ ?_ ?_ ?_ ?_ ?_ ?_ ?_ ?_ ?_ ?_ ?_ ?_ ?_ ?_ ?_ ?_ ?_ ?_ ?_ ?_ ?_ ?_ ?_ ?_ ?_ ?_ ?_ ?_ ?_ ?_ ?_ ?_ ?_)
      | exact .inl rfl
      | dsimp only
      | dsimp only [id]
  | succ r0 ih =>
    unfold stageWaits
    repeat' first
      | with_reducible assumption
      | (extract_lets +onlyGivenNames x
         first
         | (refine sameStep (L := L) (s0 := s0) (x := x) (fun hx => ?_) ?_; clear_value x; rotate_left; subst x)
         | subst x)
      | with_reducible apply ih
      | with_reducible exact .inl rfl
      | exact .inr (hL _ (by decide))
      | with_reducible refine SameBut.ite ?_ ?_
      | with_reducible refine setStage_frame (parts_sub (by decide) hL) ?_
      | with_reducible refine faultCmd_frame (parts_sub (by decide) hL) ?_
      | with_reducible refine modCmd_frame (parts_sub (by decide) hL) ?_
      | with_reducible refine gateSnoops_frame (parts_sub (by decide) hL) ?_
      | with_reducible refine countPackage_frame (parts_sub (by decide) hL) ?_
      | with_reducible refine SameBut.ofPair ?_ (by with_reducible assumption)
      | intro _ _ _
      | intro _ _
      | intro _
      | split
      | (simp only [same_lit]; with_reducible refine SameLit.of ?_ ?_ ?_ ?_ ?_ ?_ ?_ ?_ ?_ ?_ ?_ ?_ ?_ ?_ ?_ ?_ ?_ ?_ ?_ ?_ ?_ ?_ ?_ ?_ ?_ ?_ ?_ ?_ ?_ ?_ ?_ ?_ ?_ ?_ ?_ ?_ ?_ ?_ ?_ ?_)
      | exact .inl rfl
      | dsimp only
      | dsimp only [id]

theorem stageLaunch_frame {L : List StatePart} {s0 : State} {x : Cmd} {n : Nat} {s : State}
    (hL : ∀ p ∈ [StatePart.counters, .int, .ctxs, .cmds, .coherence, .out], p ∈ L) (hok : SameBut L s0 s) :
    SameBut L s0 (stageLaunch x n s).1 := by
  unfold stageLaunch
  repeat' first
    | with_reducible assumption
    | with_reducible exact .inl rfl
    | exact .inr (hL _ (by decide))
    | (extract_lets +onlyGivenNames x
       first
       | (refine sameStep (L := L) (s0 := s0) (x := x) (fun hx => ?_) ?_; clear_value x; rotate_left; subst x)
       | subst x)
    | with_reducible refine SameBut.ite ?_ ?_
    | with_reducible refine setStage_frame (parts_sub (by decide) hL) ?_
    | with_reducible refine logSnoops_frame (parts_sub (by decide) hL) ?_
    | with_reducible refine clearCycleExact_frame (parts_sub (by decide) hL) ?_
    | with_reducible refine modCmd_frame (parts_sub (by decide) hL) ?_
    | with_reducible refine SameBut.ofPair ?_ (by with_reducible assumption)
    | intro _ _ _
    | intro _ _
    | intro _
    | split
    | (simp only [same_lit]; with_reducible refine SameLit.of ?_ ?_ ?_ ?_ ?_ ?_ ?_ ?_ ?_ ?_ ?_ ?_ ?_ ?_ ?_ ?_ ?_ ?_ ?_ ?_ ?_ ?_ ?_ ?_ ?_ ?_ ?_ ?_ ?_ ?_ ?_ ?_ ?_ ?_ ?_ ?_ ?_ ?_ ?_ ?_)
    | exact .inl rfl
    | dsimp only
    | dsimp only [id]

theorem noteTag_frame {L : List StatePart} {s0 : State} {t : U16} {g : Fun} {s : State}
    (hL : ∀ p ∈ [StatePart.engines], p ∈ L) (hok : SameBut L s0 s) :
    SameBut L s0 (noteTag t g s) := by
  unfold noteTag
  repeat' first
    | with_reducible assumption
    | with_reducible exact .inl rfl
    | exact .inr (hL _ (by decide))
    | (extract_lets +onlyGivenNames x
       first
       | (refine sameStep (L := L) (s0 := s0) (x := x) (fun hx => ?_) ?_; clear_value x; rotate_left; subst x)
       | subst x)
    | intro _ _ _
    | intro _ _
    | intro _
    | (simp only [same_lit]; with_reducible refine SameLit.of ?_ ?_ ?_ ?_ ?_ ?_ ?_ ?_ ?_ ?_ ?_ ?_ ?_ ?_ ?_ ?_ ?_ ?_ ?_ ?_ ?_ ?_ ?_ ?_ ?_ ?_ ?_ ?_ ?_ ?_ ?_ ?_ ?_ ?_ ?_ ?_ ?_ ?_ ?_ ?_)
    | exact .inl rfl
    | dsimp only
    | dsimp only [id]

theorem stageIssue_frame {L : List StatePart} {s0 : State} {x : Cmd} {g : Fun} {s : State}
    (hL : ∀ p ∈ [StatePart.cmds, .engines], p ∈ L) (hok : SameBut L s0 s) :
    SameBut L s0 (stageIssue x g s) := by
  unfold stageIssue
  repeat' first
    | with_reducible assumption
    | with_reducible exact .inl rfl
    | exact .inr (hL _ (by decide))
    | (extract_lets +onlyGivenNames x
       first
       | (refine sameStep (L := L) (s0 := s0) (x := x) (fun hx => ?_) ?_; clear_value x; rotate_left; subst x)
       | subst x)
    | with_reducible refine SameBut.ite ?_ ?_
    | with_reducible refine noteTag_frame (parts_sub (by decide) hL) ?_
    | with_reducible refine modCmd_frame (parts_sub (by decide) hL) ?_
    | with_reducible refine SameBut.ofPair ?_ (by with_reducible assumption)
    | intro _ _ _
    | intro _ _
    | intro _
    | split
    | (simp only [same_lit]; with_reducible refine SameLit.of ?_ ?_ ?_ ?_ ?_ ?_ ?_ ?_ ?_ ?_ ?_ ?_ ?_ ?_ ?_ ?_ ?_ ?_ ?_ ?_ ?_ ?_ ?_ ?_ ?_ ?_ ?_ ?_ ?_ ?_ ?_ ?_ ?_ ?_ ?_ ?_ ?_ ?_ ?_ ?_)
    | exact .inl rfl
    | dsimp only
    | dsimp only [id]

theorem dispatchStages_frame {L : List StatePart} {s0 : State} {c : CtxId} {s : State}
    (hL : ∀ p ∈ [StatePart.od, .stored, .counters, .mgmt, .links, .intx, .fnCfg, .int, .capture, .ctxs, .cmds, .engines, .lookups, .peers, .windows, .coherence, .err, .power, .out], p ∈ L) (hok : SameBut L s0 s) :
    SameBut L s0 (dispatchStages c s) := by
  unfold dispatchStages
  repeat' first
    | with_reducible assumption
    | with_reducible exact .inl rfl
    | exact .inr (hL _ (by decide))
    | (extract_lets +onlyGivenNames x
       first
       | (refine sameStep (L := L) (s0 := s0) (x := x) (fun hx => ?_) ?_; clear_value x; rotate_left; subst x)
       | (refine sameStep (L := L) (s0 := s0) (x := x.1) (fun hx => ?_) ?_; clear_value x; rotate_left; subst x)
       | subst x)
    | with_reducible refine SameBut.ite ?_ ?_
    | with_reducible refine stageDecode_frame (parts_sub (by decide) hL) ?_
    | with_reducible refine stageBarrier_frame (parts_sub (by decide) hL) ?_
    | with_reducible refine stageWaits_frame (parts_sub (by decide) hL) ?_
    | with_reducible refine stageLaunch_frame (parts_sub (by decide) hL) ?_
    | with_reducible refine stageIssue_frame (parts_sub (by decide) hL) ?_
    | with_reducible refine SameBut.ofPair ?_ (by with_reducible assumption)
    | intro _ _ _
    | intro _ _
    | intro _
    | split
    | (simp only [same_lit]; with_reducible refine SameLit.of ?_ ?_ ?_ ?_ ?_ ?_ ?_ ?_ ?_ ?_ ?_ ?_ ?_ ?_ ?_ ?_ ?_ ?_ ?_ ?_ ?_ ?_ ?_ ?_ ?_ ?_ ?_ ?_ ?_ ?_ ?_ ?_ ?_ ?_ ?_ ?_ ?_ ?_ ?_ ?_)
    | exact .inl rfl
    | dsimp only
    | dsimp only [id]

theorem execDispatchStages_frame {c : CtxId} {s : State} :
    OutBut [StatePart.od, .stored, .counters, .mgmt, .links, .intx, .fnCfg, .int, .capture, .ctxs, .cmds, .engines, .lookups, .peers, .windows, .coherence, .err, .power, .out] s (execDispatchStages c s) := by
  unfold execDispatchStages
  refine OutBut.of (fun L s0 hL hok => ?_)
  repeat' first
    | with_reducible assumption
    | with_reducible refine dispatchStages_frame (parts_sub (by decide) hL) ?_
    | intro _ _ _
    | intro _ _
    | intro _
    | dsimp only
    | dsimp only [id]

theorem launchReached_frame {L : List StatePart} {s0 : State} {c : CtxId} {s : State}
    (hL : ∀ p ∈ [StatePart.od, .stored, .counters, .mgmt, .links, .intx, .fnCfg, .int, .capture, .ctxs, .cmds, .engines, .lookups, .peers, .windows, .coherence, .err, .power, .out], p ∈ L) (hok : SameBut L s0 s) :
    SameBut L s0 (launchReached c s) := by
  unfold launchReached
  repeat' first
    | with_reducible assumption
    | with_reducible exact .inl rfl
    | exact .inr (hL _ (by decide))
    | (extract_lets +onlyGivenNames x
       first
       | (refine sameStep (L := L) (s0 := s0) (x := x) (fun hx => ?_) ?_; clear_value x; rotate_left; subst x)
       | subst x)
    | with_reducible refine SameBut.ite ?_ ?_
    | with_reducible refine dispatchStages_frame (parts_sub (by decide) hL) ?_
    | with_reducible refine SameBut.ofPair ?_ (by with_reducible assumption)
    | intro _ _ _
    | intro _ _
    | intro _
    | split
    | (simp only [same_lit]; with_reducible refine SameLit.of ?_ ?_ ?_ ?_ ?_ ?_ ?_ ?_ ?_ ?_ ?_ ?_ ?_ ?_ ?_ ?_ ?_ ?_ ?_ ?_ ?_ ?_ ?_ ?_ ?_ ?_ ?_ ?_ ?_ ?_ ?_ ?_ ?_ ?_ ?_ ?_ ?_ ?_ ?_ ?_)
    | exact .inl rfl
    | dsimp only
    | dsimp only [id]

theorem execLaunchGtcReached_frame {c : CtxId} {s : State} :
    OutBut [StatePart.od, .stored, .counters, .mgmt, .links, .intx, .fnCfg, .int, .capture, .ctxs, .cmds, .engines, .lookups, .peers, .windows, .coherence, .err, .power, .out] s (execLaunchGtcReached c s) := by
  unfold execLaunchGtcReached
  refine OutBut.of (fun L s0 hL hok => ?_)
  repeat' first
    | with_reducible assumption
    | with_reducible refine launchReached_frame (parts_sub (by decide) hL) ?_
    | intro _ _ _
    | intro _ _
    | intro _
    | dsimp only
    | dsimp only [id]

theorem badOpcode_frame {L : List StatePart} {s0 : State} {c : CtxId} {q : Nat} {s : State}
    (hL : ∀ p ∈ [StatePart.od, .stored, .counters, .mgmt, .links, .intx, .fnCfg, .int, .capture, .ctxs, .cmds, .engines, .lookups, .peers, .windows, .coherence, .err, .power, .out], p ∈ L) (hok : SameBut L s0 s) :
    SameBut L s0 (badOpcode c q s) := by
  unfold badOpcode
  repeat' first
    | with_reducible assumption
    | with_reducible exact .inl rfl
    | exact .inr (hL _ (by decide))
    | (extract_lets +onlyGivenNames x
       first
       | (refine sameStep (L := L) (s0 := s0) (x := x) (fun hx => ?_) ?_; clear_value x; rotate_left; subst x)
       | subst x)
    | with_reducible refine SameBut.ite ?_ ?_
    | with_reducible refine dispatchStages_frame (parts_sub (by decide) hL) ?_
    | with_reducible refine SameBut.ofPair ?_ (by with_reducible assumption)
    | intro _ _ _
    | intro _ _
    | intro _
    | split
    | (simp only [same_lit]; with_reducible refine SameLit.of ?_ ?_ ?_ ?_ ?_ ?_ ?_ ?_ ?_ ?_ ?_ ?_ ?_ ?_ ?_ ?_ ?_ ?_ ?_ ?_ ?_ ?_ ?_ ?_ ?_ ?_ ?_ ?_ ?_ ?_ ?_ ?_ ?_ ?_ ?_ ?_ ?_ ?_ ?_ ?_)
    | exact .inl rfl
    | dsimp only
    | dsimp only [id]

theorem execCommandBadOpcode_frame {c : CtxId} {q : Nat} {s : State} :
    OutBut [StatePart.od, .stored, .counters, .mgmt, .links, .intx, .fnCfg, .int, .capture, .ctxs, .cmds, .engines, .lookups, .peers, .windows, .coherence, .err, .power, .out] s (execCommandBadOpcode c q s) := by
  unfold execCommandBadOpcode
  refine OutBut.of (fun L s0 hL hok => ?_)
  repeat' first
    | with_reducible assumption
    | with_reducible refine badOpcode_frame (parts_sub (by decide) hL) ?_
    | intro _ _ _
    | intro _ _
    | intro _
    | dsimp only
    | dsimp only [id]


/-! ### Machine/Execute.lean -/

theorem withCmd_frame {L : List StatePart} {s0 : State} {c : CtxId} {q op : Nat} {act : Cmd → Ctx → State → State} {s : State}
    (hL : ∀ p ∈ ([] : List StatePart), p ∈ L) (h_act : ∀ a0 a1 t, SameBut L s0 t → SameBut L s0 (act a0 a1 t)) (hok : SameBut L s0 s) :
    SameBut L s0 (withCmd c q op act s) := by
  unfold withCmd
  repeat' first
    | with_reducible assumption
    | with_reducible exact .inl rfl
    | exact .inr (hL _ (by decide))
    | (extract_lets +onlyGivenNames x
       first
       | (refine sameStep (L := L) (s0 := s0) (x := x) (fun hx => ?_) ?_; clear_value x; rotate_left; subst x)
       | subst x)
    | with_reducible refine SameBut.ite ?_ ?_
    | with_reducible apply h_act
    | with_reducible refine SameBut.ofPair ?_ (by with_reducible assumption)
    | intro _ _ _
    | intro _ _
    | intro _
    | split
    | (simp only [same_lit]; with_reducible refine SameLit.of ?_ ?_ ?_ ?_ ?_ ?_ ?_ ?_ ?_ ?_ ?_ ?_ ?_ ?_ ?_ ?_ ?_ ?_ ?_ ?_ ?_ ?_ ?_ ?_ ?_ ?_ ?_ ?_ ?_ ?_ ?_ ?_ ?_ ?_ ?_ ?_ ?_ ?_ ?_ ?_)
    | exact .inl rfl
    | dsimp only
    | dsimp only [id]

theorem serveStep_frame {L : List StatePart} {s0 : State} {u : StepUnit} {l : List StepOp} {k : StepOp} {s : State}
    (hL : ∀ p ∈ [StatePart.engines], p ∈ L) (hok : SameBut L s0 s) :
    SameBut L s0 (serveStep u l k s) := by
  unfold serveStep
  repeat' first
    | with_reducible assumption
    | with_reducible exact .inl rfl
    | exact .inr (hL _ (by decide))
    | (extract_lets +onlyGivenNames x
       first
       | (refine sameStep (L := L) (s0 := s0) (x := x) (fun hx => ?_) ?_; clear_value x; rotate_left; subst x)
       | (refine sameStep (L := L) (s0 := s0) (x := x.1) (fun hx => ?_) ?_; clear_value x; rotate_left; subst x)
       | subst x)
    | with_reducible refine SameBut.ite ?_ ?_
    | intro _ _ _
    | intro _ _
    | intro _
    | split
    | (simp only [same_lit]; with_reducible refine SameLit.of ?_ ?_ ?_ ?_ ?_ ?_ ?_ ?_ ?_ ?_ ?_ ?_ ?_ ?_ ?_ ?_ ?_ ?_ ?_ ?_ ?_ ?_ ?_ ?_ ?_ ?_ ?_ ?_ ?_ ?_ ?_ ?_ ?_ ?_ ?_ ?_ ?_ ?_ ?_ ?_)
    | exact .inl rfl
    | dsimp only
    | dsimp only [id]

theorem scrubSome_frame {L : List StatePart} {s0 : State} {x : Scrub} {s : State}
    (hL : ∀ p ∈ [StatePart.memory, .pool], p ∈ L) (hok : SameBut L s0 s) :
    SameBut L s0 (scrubSome x s) := by
  unfold scrubSome
  repeat' first
    | with_reducible assumption
    | with_reducible exact .inl rfl
    | exact .inr (hL _ (by decide))
    | (extract_lets +onlyGivenNames x
       first
       | (refine sameStep (L := L) (s0 := s0) (x := x) (fun hx => ?_) ?_; clear_value x; rotate_left; subst x)
       | subst x)
    | with_reducible refine SameBut.ite ?_ ?_
    | with_reducible refine zeroSpan_frame (parts_sub (by decide) hL) ?_
    | with_reducible refine SameBut.ofPair ?_ (by with_reducible assumption)
    | intro _ _ _
    | intro _ _
    | intro _
    | split
    | (simp only [same_lit]; with_reducible refine SameLit.of ?_ ?_ ?_ ?_ ?_ ?_ ?_ ?_ ?_ ?_ ?_ ?_ ?_ ?_ ?_ ?_ ?_ ?_ ?_ ?_ ?_ ?_ ?_ ?_ ?_ ?_ ?_ ?_ ?_ ?_ ?_ ?_ ?_ ?_ ?_ ?_ ?_ ?_ ?_ ?_)
    | exact .inl rfl
    | dsimp only
    | dsimp only [id]

theorem operandFault_frame {L : List StatePart} {s0 : State} {x : Cmd} {st : CStatus} {va : Nat} {need : Need} {s : State}
    (hL : ∀ p ∈ [StatePart.od, .stored, .counters, .mgmt, .links, .intx, .fnCfg, .int, .capture, .ctxs, .cmds, .engines, .lookups, .peers, .windows, .err, .power, .out], p ∈ L) (hok : SameBut L s0 s) :
    SameBut L s0 (operandFault x st va need s) := by
  unfold operandFault
  repeat' first
    | with_reducible assumption
    | with_reducible refine faultCmd_frame (parts_sub (by decide) hL) ?_
    | intro _ _ _
    | intro _ _
    | intro _
    | dsimp only
    | dsimp only [id]

theorem windowBarred_frame {L : List StatePart} {s0 : State} {x : Cmd} {cx : Ctx} {va : Nat} {need : Need} {s : State}
    (hL : ∀ p ∈ [StatePart.od, .stored, .counters, .mgmt, .links, .intx, .fnCfg, .int, .capture, .ctxs, .cmds, .engines, .lookups, .peers, .windows, .err, .power, .out], p ∈ L) (hok : SameBut L s0 s) :
    SameBut L s0 (windowBarred x cx va need s) := by
  unfold windowBarred
  repeat' first
    | with_reducible assumption
    | with_reducible refine operandFault_frame (parts_sub (by decide) hL) ?_
    | with_reducible refine countFn_frame (parts_sub (by decide) hL) ?_
    | intro _ _ _
    | intro _ _
    | intro _
    | dsimp only
    | dsimp only [id]

theorem runNop_frame {L : List StatePart} {s0 : State} {x : Cmd} {u_0 : Ctx} {s : State}
    (hL : ∀ p ∈ [StatePart.cmds, .engines, .peers, .windows, .out], p ∈ L) (hok : SameBut L s0 s) :
    SameBut L s0 (runNop x u_0 s) := by
  unfold runNop
  repeat' first
    | with_reducible assumption
    | with_reducible refine endCmd_frame (parts_sub (by decide) hL) ?_
    | intro _ _ _
    | intro _ _
    | intro _
    | dsimp only
    | dsimp only [id]

theorem execNop_frame {c : CtxId} {q : Nat} {s : State} :
    OutBut [StatePart.cmds, .engines, .peers, .windows, .out] s (execNop c q s) := by
  unfold execNop
  refine OutBut.of (fun L s0 hL hok => ?_)
  repeat' first
    | with_reducible assumption
    | with_reducible refine withCmd_frame (parts_sub (by decide) hL) ?_ ?_
    | with_reducible refine runNop_frame (parts_sub (by decide) hL) ?_
    | intro _ _ _
    | intro _ _
    | intro _
    | dsimp only
    | dsimp only [id]

theorem operandRuns_frame {L : List StatePart} {s0 : State} {c : CtxId} {need : Need} {spans : List (Nat × Nat × Nat)} {s : State}
    (hL : ∀ p ∈ [StatePart.counters, .int, .entries, .lookups, .coherence, .out], p ∈ L) (hok : SameBut L s0 s) :
    SameBut L s0 (operandRuns c need spans s).1 := by
  unfold operandRuns
  repeat' first
    | with_reducible assumption
    | with_reducible refine translateSide_frame (parts_sub (by decide) hL) ?_
    | intro _ _ _
    | intro _ _
    | intro _
    | dsimp only
    | dsimp only [id]

theorem operandStop_frame {L : List StatePart} {s0 : State} {x : Cmd} {need : Need} {e : TOut × Nat} {s : State}
    (hL : ∀ p ∈ [StatePart.od, .stored, .counters, .mgmt, .links, .intx, .fnCfg, .int, .capture, .ctxs, .cmds, .engines, .lookups, .peers, .windows, .err, .power, .out], p ∈ L) (hok : SameBut L s0 s) :
    SameBut L s0 (operandStop x need e s) := by
  unfold operandStop
  repeat' first
    | with_reducible assumption
    | with_reducible exact .inl rfl
    | exact .inr (hL _ (by decide))
    | (extract_lets +onlyGivenNames x
       first
       | (refine sameStep (L := L) (s0 := s0) (x := x) (fun hx => ?_) ?_; clear_value x; rotate_left; subst x)
       | subst x)
    | with_reducible refine operandFault_frame (parts_sub (by decide) hL) ?_
    | with_reducible refine SameBut.ofPair ?_ (by with_reducible assumption)
    | intro _ _ _
    | intro _ _
    | intro _
    | split
    | (simp only [same_lit]; with_reducible refine SameLit.of ?_ ?_ ?_ ?_ ?_ ?_ ?_ ?_ ?_ ?_ ?_ ?_ ?_ ?_ ?_ ?_ ?_ ?_ ?_ ?_ ?_ ?_ ?_ ?_ ?_ ?_ ?_ ?_ ?_ ?_ ?_ ?_ ?_ ?_ ?_ ?_ ?_ ?_ ?_ ?_)
    | exact .inl rfl
    | dsimp only
    | dsimp only [id]

theorem putRuns_frame {L : List StatePart} {s0 : State} {x : Cmd} {g : Fun} {data : Bytes} {runs : List Run} {s : State}
    (hL : ∀ p ∈ [StatePart.counters, .ats, .int, .memory, .pool, .out], p ∈ L) (hok : SameBut L s0 s) :
    SameBut L s0 (putRuns x g data runs s) := by
  unfold putRuns
  repeat' first
    | with_reducible assumption
    | with_reducible exact .inl rfl
    | exact .inr (hL _ (by decide))
    | (extract_lets +onlyGivenNames x
       first
       | (refine sameStep (L := L) (s0 := s0) (x := x) (fun hx => ?_) ?_; clear_value x; rotate_left; subst x)
       | subst x)
    | with_reducible refine foldState_frame (fun _ _ _ => ?_) ?_
    | with_reducible refine poolWrite_frame (parts_sub (by decide) hL) ?_
    | with_reducible refine hostWrite_frame (parts_sub (by decide) hL) ?_
    | with_reducible refine SameBut.ofPair ?_ (by with_reducible assumption)
    | intro _ _ _
    | intro _ _
    | intro _
    | split
    | (simp only [same_lit]; with_reducible refine SameLit.of ?_ ?_ ?_ ?_ ?_ ?_ ?_ ?_ ?_ ?_ ?_ ?_ ?_ ?_ ?_ ?_ ?_ ?_ ?_ ?_ ?_ ?_ ?_ ?_ ?_ ?_ ?_ ?_ ?_ ?_ ?_ ?_ ?_ ?_ ?_ ?_ ?_ ?_ ?_ ?_)
    | exact .inl rfl
    | dsimp only
    | dsimp only [id]

theorem runsSnoop_frame {L : List StatePart} {s0 : State} {c : CtxId} {runs : List Run} {s : State}
    (hL : ∀ p ∈ [StatePart.counters, .int, .coherence, .out], p ∈ L) (hok : SameBut L s0 s) :
    SameBut L s0 (runsSnoop c runs s) := by
  unfold runsSnoop
  repeat' first
    | with_reducible assumption
    | with_reducible refine foldState_frame (fun _ _ _ => ?_) ?_
    | with_reducible refine gateSnoops_frame (parts_sub (by decide) hL) ?_
    | intro _ _ _
    | intro _ _
    | intro _
    | dsimp only
    | dsimp only [id]

theorem putOperand_frame {L : List StatePart} {s0 : State} {x : Cmd} {cx : Ctx} {data : Bytes} {runs : List Run} {s : State}
    (hL : ∀ p ∈ [StatePart.od, .stored, .counters, .mgmt, .links, .intx, .requests, .ats, .fnCfg, .int, .capture, .ctxs, .cmds, .engines, .lookups, .peers, .windows, .coherence, .memory, .pool, .err, .power, .out], p ∈ L) (hok : SameBut L s0 s) :
    SameBut L s0 (putOperand x cx data runs s).1 := by
  unfold putOperand
  repeat' first
    | with_reducible assumption
    | with_reducible exact .inl rfl
    | exact .inr (hL _ (by decide))
    | (extract_lets +onlyGivenNames x
       first
       | (refine sameStep (L := L) (s0 := s0) (x := x) (fun hx => ?_) ?_; clear_value x; rotate_left; subst x)
       | (refine sameStep (L := L) (s0 := s0) (x := x.1) (fun hx => ?_) ?_; clear_value x; rotate_left; subst x)
       | subst x)
    | with_reducible refine SameBut.ite ?_ ?_
    | with_reducible refine takeBackOps_frame (parts_sub (by decide) hL) ?_
    | with_reducible refine windowBarred_frame (parts_sub (by decide) hL) ?_
    | with_reducible refine dropOps_frame (parts_sub (by decide) hL) ?_
    | with_reducible refine foldState_frame (fun _ _ _ => ?_) ?_
    | with_reducible refine atsAsk_frame (parts_sub (by decide) hL) ?_
    | with_reducible refine runsSnoop_frame (parts_sub (by decide) hL) ?_
    | with_reducible refine openOps_frame (parts_sub (by decide) hL) ?_
    | with_reducible refine sendOps_frame (parts_sub (by decide) hL) ?_
    | with_reducible refine putRuns_frame (parts_sub (by decide) hL) ?_
    | with_reducible refine SameBut.ofPair ?_ (by with_reducible assumption)
    | intro _ _ _
    | intro _ _
    | intro _
    | split
    | (simp only [same_lit]; with_reducible refine SameLit.of ?_ ?_ ?_ ?_ ?_ ?_ ?_ ?_ ?_ ?_ ?_ ?_ ?_ ?_ ?_ ?_ ?_ ?_ ?_ ?_ ?_ ?_ ?_ ?_ ?_ ?_ ?_ ?_ ?_ ?_ ?_ ?_ ?_ ?_ ?_ ?_ ?_ ?_ ?_ ?_)
    | exact .inl rfl
    | dsimp only
    | dsimp only [id]

theorem runWrite_frame {L : List StatePart} {s0 : State} {value : Cmd → State → Nat} {x : Cmd} {cx : Ctx} {s : State}
    (hL : ∀ p ∈ [StatePart.od, .stored, .counters, .mgmt, .links, .intx, .requests, .ats, .fnCfg, .int, .capture, .ctxs, .cmds, .engines, .entries, .lookups, .peers, .windows, .coherence, .memory, .pool, .err, .power, .out], p ∈ L) (hok : SameBut L s0 s) :
    SameBut L s0 (runWrite value x cx s) := by
  unfold runWrite
  repeat' first
    | with_reducible assumption
    | with_reducible exact .inl rfl
    | exact .inr (hL _ (by decide))
    | (extract_lets +onlyGivenNames x
       first
       | (refine sameStep (L := L) (s0 := s0) (x := x) (fun hx => ?_) ?_; clear_value x; rotate_left; subst x)
       | (refine sameStep (L := L) (s0 := s0) (x := x.1) (fun hx => ?_) ?_; clear_value x; rotate_left; subst x)
       | subst x)
    | with_reducible refine SameBut.ite ?_ ?_
    | with_reducible refine operandRuns_frame (parts_sub (by decide) hL) ?_
    | with_reducible refine operandStop_frame (parts_sub (by decide) hL) ?_
    | with_reducible refine putOperand_frame (parts_sub (by decide) hL) ?_
    | with_reducible refine endCmd_frame (parts_sub (by decide) hL) ?_
    | with_reducible refine SameBut.ofPair ?_ (by with_reducible assumption)
    | intro _ _ _
    | intro _ _
    | intro _
    | split
    | (simp only [same_lit]; with_reducible refine SameLit.of ?_ ?_ ?_ ?_ ?_ ?_ ?_ ?_ ?_ ?_ ?_ ?_ ?_ ?_ ?_ ?_ ?_ ?_ ?_ ?_ ?_ ?_ ?_ ?_ ?_ ?_ ?_ ?_ ?_ ?_ ?_ ?_ ?_ ?_ ?_ ?_ ?_ ?_ ?_ ?_)
    | exact .inl rfl
    | dsimp only
    | dsimp only [id]

theorem execWriteValue_frame {c : CtxId} {q : Nat} {s : State} :
    OutBut [StatePart.od, .stored, .counters, .mgmt, .links, .intx, .requests, .ats, .fnCfg, .int, .capture, .ctxs, .cmds, .engines, .entries, .lookups, .peers, .windows, .coherence, .memory, .pool, .err, .power, .out] s (execWriteValue c q s) := by
  unfold execWriteValue
  refine OutBut.of (fun L s0 hL hok => ?_)
  repeat' first
    | with_reducible assumption
    | with_reducible refine withCmd_frame (parts_sub (by decide) hL) ?_ ?_
    | with_reducible refine runWrite_frame (parts_sub (by decide) hL) ?_
    | intro _ _ _
    | intro _ _
    | intro _
    | dsimp only
    | dsimp only [id]

theorem execWriteTimestamp_frame {c : CtxId} {q : Nat} {s : State} :
    OutBut [StatePart.od, .stored, .counters, .mgmt, .links, .intx, .requests, .ats, .fnCfg, .int, .capture, .ctxs, .cmds, .engines, .entries, .lookups, .peers, .windows, .coherence, .memory, .pool, .err, .power, .out] s (execWriteTimestamp c q s) := by
  unfold execWriteTimestamp
  refine OutBut.of (fun L s0 hL hok => ?_)
  repeat' first
    | with_reducible assumption
    | with_reducible refine withCmd_frame (parts_sub (by decide) hL) ?_ ?_
    | with_reducible refine runWrite_frame (parts_sub (by decide) hL) ?_
    | intro _ _ _
    | intro _ _
    | intro _
    | dsimp only
    | dsimp only [id]

theorem runTransfer_frame {L : List StatePart} {s0 : State} {x : Cmd} {u_0 : Ctx} {s : State}
    (hL : ∀ p ∈ [StatePart.cmds, .engines], p ∈ L) (hok : SameBut L s0 s) :
    SameBut L s0 (runTransfer x u_0 s) := by
  unfold runTransfer
  repeat' first
    | with_reducible assumption
    | with_reducible exact .inl rfl
    | exact .inr (hL _ (by decide))
    | (extract_lets +onlyGivenNames x
       first
       | (refine sameStep (L := L) (s0 := s0) (x := x) (fun hx => ?_) ?_; clear_value x; rotate_left; subst x)
       | subst x)
    | with_reducible refine SameBut.ite ?_ ?_
    | with_reducible refine assignEngine_frame (parts_sub (by decide) hL) ?_
    | with_reducible refine modCmd_frame (parts_sub (by decide) hL) ?_
    | with_reducible refine SameBut.ofPair ?_ (by with_reducible assumption)
    | intro _ _ _
    | intro _ _
    | intro _
    | split
    | (simp only [same_lit]; with_reducible refine SameLit.of ?_ ?_ ?_ ?_ ?_ ?_ ?_ ?_ ?_ ?_ ?_ ?_ ?_ ?_ ?_ ?_ ?_ ?_ ?_ ?_ ?_ ?_ ?_ ?_ ?_ ?_ ?_ ?_ ?_ ?_ ?_ ?_ ?_ ?_ ?_ ?_ ?_ ?_ ?_ ?_)
    | exact .inl rfl
    | dsimp only
    | dsimp only [id]

theorem execCopyTensor_frame {c : CtxId} {q : Nat} {s : State} :
    OutBut [StatePart.cmds, .engines] s (execCopyTensor c q s) := by
  unfold execCopyTensor
  refine OutBut.of (fun L s0 hL hok => ?_)
  repeat' first
    | with_reducible assumption
    | with_reducible refine withCmd_frame (parts_sub (by decide) hL) ?_ ?_
    | with_reducible refine runTransfer_frame (parts_sub (by decide) hL) ?_
    | intro _ _ _
    | intro _ _
    | intro _
    | dsimp only
    | dsimp only [id]

theorem execReduceTensor_frame {c : CtxId} {q : Nat} {s : State} :
    OutBut [StatePart.cmds, .engines] s (execReduceTensor c q s) := by
  unfold execReduceTensor
  refine OutBut.of (fun L s0 hL hok => ?_)
  repeat' first
    | with_reducible assumption
    | with_reducible refine withCmd_frame (parts_sub (by decide) hL) ?_ ?_
    | with_reducible refine runTransfer_frame (parts_sub (by decide) hL) ?_
    | intro _ _ _
    | intro _ _
    | intro _
    | dsimp only
    | dsimp only [id]

theorem execFill_frame {c : CtxId} {q : Nat} {s : State} :
    OutBut [StatePart.cmds, .engines] s (execFill c q s) := by
  unfold execFill
  refine OutBut.of (fun L s0 hL hok => ?_)
  repeat' first
    | with_reducible assumption
    | with_reducible refine withCmd_frame (parts_sub (by decide) hL) ?_ ?_
    | with_reducible refine runTransfer_frame (parts_sub (by decide) hL) ?_
    | intro _ _ _
    | intro _ _
    | intro _
    | dsimp only
    | dsimp only [id]

theorem runLaunch_frame {L : List StatePart} {s0 : State} {x : Cmd} {cx : Ctx} {s : State}
    (hL : ∀ p ∈ [StatePart.od, .stored, .counters, .mgmt, .links, .intx, .fnCfg, .int, .capture, .ctxs, .cmds, .engines, .entries, .lookups, .peers, .windows, .coherence, .err, .power, .out], p ∈ L) (hok : SameBut L s0 s) :
    SameBut L s0 (runLaunch x cx s) := by
  unfold runLaunch
  repeat' first
    | with_reducible assumption
    | with_reducible exact .inl rfl
    | exact .inr (hL _ (by decide))
    | (extract_lets +onlyGivenNames x
       first
       | (refine sameStep (L := L) (s0 := s0) (x := x) (fun hx => ?_) ?_; clear_value x; rotate_left; subst x)
       | subst x)
    | with_reducible refine SameBut.ite ?_ ?_
    | with_reducible refine faultCmd_frame (parts_sub (by decide) hL) ?_
    | with_reducible refine operandRuns_frame (parts_sub (by decide) hL) ?_
    | with_reducible refine operandStop_frame (parts_sub (by decide) hL) ?_
    | with_reducible refine windowBarred_frame (parts_sub (by decide) hL) ?_
    | with_reducible refine foldState_frame (fun _ _ _ => ?_) ?_
    | with_reducible refine emit_frame (parts_sub (by decide) hL) ?_
    | with_reducible refine modCmd_frame (parts_sub (by decide) hL) ?_
    | with_reducible refine SameBut.ofPair ?_ (by with_reducible assumption)
    | intro _ _ _
    | intro _ _
    | intro _
    | split
    | (simp only [same_lit]; with_reducible refine SameLit.of ?_ ?_ ?_ ?_ ?_ ?_ ?_ ?_ ?_ ?_ ?_ ?_ ?_ ?_ ?_ ?_ ?_ ?_ ?_ ?_ ?_ ?_ ?_ ?_ ?_ ?_ ?_ ?_ ?_ ?_ ?_ ?_ ?_ ?_ ?_ ?_ ?_ ?_ ?_ ?_)
    | exact .inl rfl
    | dsimp only
    | dsimp only [id]

theorem execLaunch_frame {c : CtxId} {q : Nat} {s : State} :
    OutBut [StatePart.od, .stored, .counters, .mgmt, .links, .intx, .fnCfg, .int, .capture, .ctxs, .cmds, .engines, .entries, .lookups, .peers, .windows, .coherence, .err, .power, .out] s (execLaunch c q s) := by
  unfold execLaunch
  refine OutBut.of (fun L s0 hL hok => ?_)
  repeat' first
    | with_reducible assumption
    | with_reducible refine withCmd_frame (parts_sub (by decide) hL) ?_ ?_
    | with_reducible refine runLaunch_frame (parts_sub (by decide) hL) ?_
    | intro _ _ _
    | intro _ _
    | intro _
    | dsimp only
    | dsimp only [id]

theorem runSpan_frame {L : List StatePart} {s0 : State} {flush : Bool} {x : Cmd} {cx : Ctx} {s : State}
    (hL : ∀ p ∈ [StatePart.od, .stored, .counters, .mgmt, .links, .intx, .fnCfg, .int, .capture, .ctxs, .cmds, .engines, .entries, .lookups, .peers, .windows, .coherence, .memory, .err, .power, .draws, .out], p ∈ L) (hok : SameBut L s0 s) :
    SameBut L s0 (runSpan flush x cx s) := by
  unfold runSpan
  repeat' first
    | with_reducible assumption
    | with_reducible exact .inl rfl
    | exact .inr (hL _ (by decide))
    | (extract_lets +onlyGivenNames x
       first
       | (refine sameStep (L := L) (s0 := s0) (x := x) (fun hx => ?_) ?_; clear_value x; rotate_left; subst x)
       | (refine sameStep (L := L) (s0 := s0) (x := x.1) (fun hx => ?_) ?_; clear_value x; rotate_left; subst x)
       | subst x)
    | with_reducible refine SameBut.ite ?_ ?_
    | with_reducible refine operandRuns_frame (parts_sub (by decide) hL) ?_
    | with_reducible refine operandStop_frame (parts_sub (by decide) hL) ?_
    | with_reducible refine windowBarred_frame (parts_sub (by decide) hL) ?_
    | with_reducible refine foldState_frame (fun _ _ _ => ?_) ?_
    | with_reducible refine sendSnoop_frame (parts_sub (by decide) hL) ?_
    | with_reducible refine writeBack_frame (parts_sub (by decide) hL) ?_
    | with_reducible refine discardLines_frame (parts_sub (by decide) hL) ?_
    | with_reducible refine endCmd_frame (parts_sub (by decide) hL) ?_
    | with_reducible refine modCmd_frame (parts_sub (by decide) hL) ?_
    | with_reducible refine SameBut.ofPair ?_ (by with_reducible assumption)
    | intro _ _ _
    | intro _ _
    | intro _
    | split
    | (simp only [same_lit]; with_reducible refine SameLit.of ?_ ?_ ?_ ?_ ?_ ?_ ?_ ?_ ?_ ?_ ?_ ?_ ?_ ?_ ?_ ?_ ?_ ?_ ?_ ?_ ?_ ?_ ?_ ?_ ?_ ?_ ?_ ?_ ?_ ?_ ?_ ?_ ?_ ?_ ?_ ?_ ?_ ?_ ?_ ?_)
    | exact .inl rfl
    | dsimp only
    | dsimp only [id]

theorem runSpanCmd_frame {L : List StatePart} {s0 : State} {c : CtxId} {q : Nat} {s : State}
    (hL : ∀ p ∈ [StatePart.od, .stored, .counters, .mgmt, .links, .intx, .fnCfg, .int, .capture, .ctxs, .cmds, .engines, .entries, .lookups, .peers, .windows, .coherence, .memory, .err, .power, .draws, .out], p ∈ L) (hok : SameBut L s0 s) :
    SameBut L s0 (runSpanCmd c q s) := by
  unfold runSpanCmd
  repeat' first
    | with_reducible assumption
    | with_reducible refine withCmd_frame (parts_sub (by decide) hL) ?_ ?_
    | with_reducible refine runSpan_frame (parts_sub (by decide) hL) ?_
    | intro _ _ _
    | intro _ _
    | intro _
    | dsimp only
    | dsimp only [id]

theorem memServe_frame {L : List StatePart} {s0 : State} {k : CtxId × Nat} {s : State}
    (hL : ∀ p ∈ [StatePart.od, .stored, .counters, .mgmt, .links, .intx, .fnCfg, .int, .capture, .ctxs, .cmds, .engines, .entries, .lookups, .peers, .windows, .coherence, .memory, .err, .power, .draws, .out], p ∈ L) (hok : SameBut L s0 s) :
    SameBut L s0 (memServe k s) := by
  unfold memServe
  repeat' first
    | with_reducible assumption
    | with_reducible exact .inl rfl
    | exact .inr (hL _ (by decide))
    | (extract_lets +onlyGivenNames x
       first
       | (refine sameStep (L := L) (s0 := s0) (x := x) (fun hx => ?_) ?_; clear_value x; rotate_left; subst x)
       | (refine sameStep (L := L) (s0 := s0) (x := x.1) (fun hx => ?_) ?_; clear_value x; rotate_left; subst x)
       | subst x)
    | with_reducible refine runSpanCmd_frame (parts_sub (by decide) hL) ?_
    | intro _ _ _
    | intro _ _
    | intro _
    | (simp only [same_lit]; with_reducible refine SameLit.of ?_ ?_ ?_ ?_ ?_ ?_ ?_ ?_ ?_ ?_ ?_ ?_ ?_ ?_ ?_ ?_ ?_ ?_ ?_ ?_ ?_ ?_ ?_ ?_ ?_ ?_ ?_ ?_ ?_ ?_ ?_ ?_ ?_ ?_ ?_ ?_ ?_ ?_ ?_ ?_)
    | exact .inl rfl
    | dsimp only
    | dsimp only [id]

theorem memStepped_frame {L : List StatePart} {s0 : State} {s : State}
    (hL : ∀ p ∈ [StatePart.engines], p ∈ L) (hok : SameBut L s0 s) :
    SameBut L s0 (memStepped s) := by
  unfold memStepped
  repeat' first
    | with_reducible assumption
    | with_reducible exact .inl rfl
    | exact .inr (hL _ (by decide))
    | (extract_lets +onlyGivenNames x
       first
       | (refine sameStep (L := L) (s0 := s0) (x := x) (fun hx => ?_) ?_; clear_value x; rotate_left; subst x)
       | subst x)
    | intro _ _ _
    | intro _ _
    | intro _
    | (simp only [same_lit]; with_reducible refine SameLit.of ?_ ?_ ?_ ?_ ?_ ?_ ?_ ?_ ?_ ?_ ?_ ?_ ?_ ?_ ?_ ?_ ?_ ?_ ?_ ?_ ?_ ?_ ?_ ?_ ?_ ?_ ?_ ?_ ?_ ?_ ?_ ?_ ?_ ?_ ?_ ?_ ?_ ?_ ?_ ?_)
    | exact .inl rfl
    | dsimp only
    | dsimp only [id]

theorem memCmdStep_frame {L : List StatePart} {s0 : State} {c : CtxId} {q : Nat} {s : State}
    (hL : ∀ p ∈ [StatePart.od, .stored, .counters, .mgmt, .links, .intx, .fnCfg, .int, .capture, .ctxs, .cmds, .engines, .entries, .lookups, .peers, .windows, .coherence, .memory, .err, .power, .draws, .out], p ∈ L) (hok : SameBut L s0 s) :
    SameBut L s0 (memCmdStep c q s) := by
  unfold memCmdStep
  repeat' first
    | with_reducible assumption
    | with_reducible refine memStepped_frame (parts_sub (by decide) hL) ?_
    | with_reducible refine runSpanCmd_frame (parts_sub (by decide) hL) ?_
    | with_reducible refine serveStep_frame (parts_sub (by decide) hL) ?_
    | intro _ _ _
    | intro _ _
    | intro _
    | dsimp only
    | dsimp only [id]

theorem spanTurn_frame {L : List StatePart} {s0 : State} {c : CtxId} {q op : Nat} {s : State}
    (hL : ∀ p ∈ [StatePart.od, .stored, .counters, .mgmt, .links, .intx, .fnCfg, .int, .capture, .ctxs, .cmds, .engines, .entries, .lookups, .peers, .windows, .coherence, .memory, .err, .power, .draws, .out], p ∈ L) (hok : SameBut L s0 s) :
    SameBut L s0 (spanTurn c q op s) := by
  unfold spanTurn
  repeat' first
    | with_reducible assumption
    | with_reducible exact .inl rfl
    | exact .inr (hL _ (by decide))
    | (extract_lets +onlyGivenNames x
       first
       | (refine sameStep (L := L) (s0 := s0) (x := x) (fun hx => ?_) ?_; clear_value x; rotate_left; subst x)
       | subst x)
    | with_reducible refine SameBut.ite ?_ ?_
    | with_reducible refine memServe_frame (parts_sub (by decide) hL) ?_
    | with_reducible refine memCmdStep_frame (parts_sub (by decide) hL) ?_
    | with_reducible refine SameBut.ofPair ?_ (by with_reducible assumption)
    | intro _ _ _
    | intro _ _
    | intro _
    | split
    | (simp only [same_lit]; with_reducible refine SameLit.of ?_ ?_ ?_ ?_ ?_ ?_ ?_ ?_ ?_ ?_ ?_ ?_ ?_ ?_ ?_ ?_ ?_ ?_ ?_ ?_ ?_ ?_ ?_ ?_ ?_ ?_ ?_ ?_ ?_ ?_ ?_ ?_ ?_ ?_ ?_ ?_ ?_ ?_ ?_ ?_)
    | exact .inl rfl
    | dsimp only
    | dsimp only [id]

theorem execFlush_frame {c : CtxId} {q : Nat} {s : State} :
    OutBut [StatePart.od, .stored, .counters, .mgmt, .links, .intx, .fnCfg, .int, .capture, .ctxs, .cmds, .engines, .entries, .lookups, .peers, .windows, .coherence, .memory, .err, .power, .draws, .out] s (execFlush c q s) := by
  unfold execFlush
  refine OutBut.of (fun L s0 hL hok => ?_)
  repeat' first
    | with_reducible assumption
    | with_reducible refine spanTurn_frame (parts_sub (by decide) hL) ?_
    | intro _ _ _
    | intro _ _
    | intro _
    | dsimp only
    | dsimp only [id]

theorem execInvalidate_frame {c : CtxId} {q : Nat} {s : State} :
    OutBut [StatePart.od, .stored, .counters, .mgmt, .links, .intx, .fnCfg, .int, .capture, .ctxs, .cmds, .engines, .entries, .lookups, .peers, .windows, .coherence, .memory, .err, .power, .draws, .out] s (execInvalidate c q s) := by
  unfold execInvalidate
  refine OutBut.of (fun L s0 hL hok => ?_)
  repeat' first
    | with_reducible assumption
    | with_reducible refine spanTurn_frame (parts_sub (by decide) hL) ?_
    | intro _ _ _
    | intro _ _
    | intro _
    | dsimp only
    | dsimp only [id]

theorem runRanges_frame {L : List StatePart} {s0 : State} {x : Cmd} {u_0 : Ctx} {s : State}
    (hL : ∀ p ∈ [StatePart.cmds, .engines, .lookups, .peers, .windows, .out], p ∈ L) (hok : SameBut L s0 s) :
    SameBut L s0 (runRanges x u_0 s) := by
  unfold runRanges
  repeat' first
    | with_reducible assumption
    | with_reducible exact .inl rfl
    | exact .inr (hL _ (by decide))
    | (extract_lets +onlyGivenNames x
       first
       | (refine sameStep (L := L) (s0 := s0) (x := x) (fun hx => ?_) ?_; clear_value x; rotate_left; subst x)
       | subst x)
    | with_reducible refine SameBut.ite ?_ ?_
    | with_reducible refine startScan_frame (parts_sub (by decide) hL) ?_
    | with_reducible refine modCmd_frame (parts_sub (by decide) hL) ?_
    | with_reducible refine endCmd_frame (parts_sub (by decide) hL) ?_
    | intro _ _ _
    | intro _ _
    | intro _
    | split
    | (simp only [same_lit]; with_reducible refine SameLit.of ?_ ?_ ?_ ?_ ?_ ?_ ?_ ?_ ?_ ?_ ?_ ?_ ?_ ?_ ?_ ?_ ?_ ?_ ?_ ?_ ?_ ?_ ?_ ?_ ?_ ?_ ?_ ?_ ?_ ?_ ?_ ?_ ?_ ?_ ?_ ?_ ?_ ?_ ?_ ?_)
    | exact .inl rfl
    | dsimp only
    | dsimp only [id]

theorem execInvalidateRanges_frame {c : CtxId} {q : Nat} {s : State} :
    OutBut [StatePart.cmds, .engines, .lookups, .peers, .windows, .out] s (execInvalidateRanges c q s) := by
  unfold execInvalidateRanges
  refine OutBut.of (fun L s0 hL hok => ?_)
  repeat' first
    | with_reducible assumption
    | with_reducible refine withCmd_frame (parts_sub (by decide) hL) ?_ ?_
    | with_reducible refine runRanges_frame (parts_sub (by decide) hL) ?_
    | intro _ _ _
    | intro _ _
    | intro _
    | dsimp only
    | dsimp only [id]

theorem readLeaf_frame {L : List StatePart} {s0 : State} {x : Cmd} {cx : Ctx} {va n : Nat} {s : State}
    (hL : ∀ p ∈ [StatePart.od, .stored, .counters, .mgmt, .links, .intx, .requests, .ats, .fnCfg, .int, .capture, .ctxs, .cmds, .engines, .entries, .lookups, .peers, .windows, .coherence, .memory, .pool, .err, .power, .draws, .out], p ∈ L) (hok : SameBut L s0 s) :
    SameBut L s0 (readLeaf x cx va n s).1 := by
  unfold readLeaf
  repeat' first
    | with_reducible assumption
    | with_reducible exact .inl rfl
    | exact .inr (hL _ (by decide))
    | (extract_lets +onlyGivenNames x
       first
       | (refine sameStep (L := L) (s0 := s0) (x := x) (fun hx => ?_) ?_; clear_value x; rotate_left; subst x)
       | (refine sameStep (L := L) (s0 := s0) (x := x.1) (fun hx => ?_) ?_; clear_value x; rotate_left; subst x)
       | subst x)
    | with_reducible refine SameBut.ite ?_ ?_
    | with_reducible refine operandRuns_frame (parts_sub (by decide) hL) ?_
    | with_reducible refine operandStop_frame (parts_sub (by decide) hL) ?_
    | with_reducible refine windowBarred_frame (parts_sub (by decide) hL) ?_
    | with_reducible refine operandFault_frame (parts_sub (by decide) hL) ?_
    | with_reducible refine countPackage_frame (parts_sub (by decide) hL) ?_
    | with_reducible refine foldState_frame (fun _ _ _ => ?_) ?_
    | with_reducible refine atsAsk_frame (parts_sub (by decide) hL) ?_
    | with_reducible refine ctxHostRead_frame (parts_sub (by decide) hL) ?_
    | with_reducible refine gateSnoops_frame (parts_sub (by decide) hL) ?_
    | with_reducible refine evictBefore_frame (parts_sub (by decide) hL) ?_
    | with_reducible refine SameBut.ofPair ?_ (by with_reducible assumption)
    | intro _ _ _
    | intro _ _
    | intro _
    | split
    | (simp only [same_lit]; with_reducible refine SameLit.of ?_ ?_ ?_ ?_ ?_ ?_ ?_ ?_ ?_ ?_ ?_ ?_ ?_ ?_ ?_ ?_ ?_ ?_ ?_ ?_ ?_ ?_ ?_ ?_ ?_ ?_ ?_ ?_ ?_ ?_ ?_ ?_ ?_ ?_ ?_ ?_ ?_ ?_ ?_ ?_)
    | exact .inl rfl
    | dsimp only
    | dsimp only [id]

theorem finishDigest_frame {L : List StatePart} {s0 : State} {x : Cmd} {cx : Ctx} {s : State}
    (hL : ∀ p ∈ [StatePart.od, .stored, .counters, .mgmt, .links, .intx, .requests, .ats, .fnCfg, .int, .capture, .ctxs, .cmds, .engines, .entries, .lookups, .peers, .windows, .coherence, .memory, .pool, .err, .power, .out], p ∈ L) (hok : SameBut L s0 s) :
    SameBut L s0 (finishDigest x cx s) := by
  unfold finishDigest
  repeat' first
    | with_reducible assumption
    | with_reducible exact .inl rfl
    | exact .inr (hL _ (by decide))
    | (extract_lets +onlyGivenNames x
       first
       | (refine sameStep (L := L) (s0 := s0) (x := x) (fun hx => ?_) ?_; clear_value x; rotate_left; subst x)
       | (refine sameStep (L := L) (s0 := s0) (x := x.1) (fun hx => ?_) ?_; clear_value x; rotate_left; subst x)
       | subst x)
    | with_reducible refine SameBut.ite ?_ ?_
    | with_reducible refine operandRuns_frame (parts_sub (by decide) hL) ?_
    | with_reducible refine operandStop_frame (parts_sub (by decide) hL) ?_
    | with_reducible refine windowBarred_frame (parts_sub (by decide) hL) ?_
    | with_reducible refine putOperand_frame (parts_sub (by decide) hL) ?_
    | with_reducible refine endCmd_frame (parts_sub (by decide) hL) ?_
    | with_reducible refine modCtx_frame (parts_sub (by decide) hL) ?_
    | with_reducible refine SameBut.ofPair ?_ (by with_reducible assumption)
    | intro _ _ _
    | intro _ _
    | intro _
    | split
    | (simp only [same_lit]; with_reducible refine SameLit.of ?_ ?_ ?_ ?_ ?_ ?_ ?_ ?_ ?_ ?_ ?_ ?_ ?_ ?_ ?_ ?_ ?_ ?_ ?_ ?_ ?_ ?_ ?_ ?_ ?_ ?_ ?_ ?_ ?_ ?_ ?_ ?_ ?_ ?_ ?_ ?_ ?_ ?_ ?_ ?_)
    | exact .inl rfl
    | dsimp only
    | dsimp only [id]

theorem noteDigest_frame {L : List StatePart} {s0 : State} {c : CtxId} {q n : Nat} {s : State}
    (hL : ∀ p ∈ [StatePart.cmds], p ∈ L) (hok : SameBut L s0 s) :
    SameBut L s0 (noteDigest c q n s) := by
  unfold noteDigest
  repeat' first
    | with_reducible assumption
    | with_reducible exact .inl rfl
    | exact .inr (hL _ (by decide))
    | (extract_lets +onlyGivenNames x
       first
       | (refine sameStep (L := L) (s0 := s0) (x := x) (fun hx => ?_) ?_; clear_value x; rotate_left; subst x)
       | subst x)
    | with_reducible refine SameBut.ite ?_ ?_
    | with_reducible refine modCmd_frame (parts_sub (by decide) hL) ?_
    | intro _ _ _
    | intro _ _
    | intro _
    | split
    | (simp only [same_lit]; with_reducible refine SameLit.of ?_ ?_ ?_ ?_ ?_ ?_ ?_ ?_ ?_ ?_ ?_ ?_ ?_ ?_ ?_ ?_ ?_ ?_ ?_ ?_ ?_ ?_ ?_ ?_ ?_ ?_ ?_ ?_ ?_ ?_ ?_ ?_ ?_ ?_ ?_ ?_ ?_ ?_ ?_ ?_)
    | exact .inl rfl
    | dsimp only
    | dsimp only [id]

theorem runDigest_frame {L : List StatePart} {s0 : State} {x : Cmd} {cx : Ctx} {s : State}
    (hL : ∀ p ∈ [StatePart.od, .stored, .counters, .mgmt, .links, .intx, .requests, .ats, .fnCfg, .int, .capture, .ctxs, .cmds, .engines, .entries, .lookups, .peers, .windows, .coherence, .memory, .pool, .err, .power, .draws, .out], p ∈ L) (hok : SameBut L s0 s) :
    SameBut L s0 (runDigest x cx s) := by
  unfold runDigest
  repeat' first
    | with_reducible assumption
    | with_reducible exact .inl rfl
    | exact .inr (hL _ (by decide))
    | (extract_lets +onlyGivenNames x
       first
       | (refine sameStep (L := L) (s0 := s0) (x := x) (fun hx => ?_) ?_; clear_value x; rotate_left; subst x)
       | subst x)
    | with_reducible refine SameBut.ite ?_ ?_
    | with_reducible refine finishDigest_frame (parts_sub (by decide) hL) ?_
    | with_reducible refine readLeaf_frame (parts_sub (by decide) hL) ?_
    | with_reducible refine noteDigest_frame (parts_sub (by decide) hL) ?_
    | with_reducible refine modCmd_frame (parts_sub (by decide) hL) ?_
    | with_reducible refine SameBut.ofPair ?_ (by with_reducible assumption)
    | intro _ _ _
    | intro _ _
    | intro _
    | split
    | (simp only [same_lit]; with_reducible refine SameLit.of ?_ ?_ ?_ ?_ ?_ ?_ ?_ ?_ ?_ ?_ ?_ ?_ ?_ ?_ ?_ ?_ ?_ ?_ ?_ ?_ ?_ ?_ ?_ ?_ ?_ ?_ ?_ ?_ ?_ ?_ ?_ ?_ ?_ ?_ ?_ ?_ ?_ ?_ ?_ ?_)
    | exact .inl rfl
    | dsimp only
    | dsimp only [id]

theorem digestCmdStep_frame {L : List StatePart} {s0 : State} {c : CtxId} {q : Nat} {s : State}
    (hL : ∀ p ∈ [StatePart.od, .stored, .counters, .mgmt, .links, .intx, .requests, .ats, .fnCfg, .int, .capture, .ctxs, .cmds, .engines, .entries, .lookups, .peers, .windows, .coherence, .memory, .pool, .err, .power, .draws, .out], p ∈ L) (hok : SameBut L s0 s) :
    SameBut L s0 (digestCmdStep c q s) := by
  unfold digestCmdStep
  repeat' first
    | with_reducible assumption
    | with_reducible refine withCmd_frame (parts_sub (by decide) hL) ?_ ?_
    | with_reducible refine runDigest_frame (parts_sub (by decide) hL) ?_
    | with_reducible refine serveStep_frame (parts_sub (by decide) hL) ?_
    | intro _ _ _
    | intro _ _
    | intro _
    | dsimp only
    | dsimp only [id]

theorem execDigestRange_frame {c : CtxId} {q : Nat} {s : State} :
    OutBut [StatePart.od, .stored, .counters, .mgmt, .links, .intx, .requests, .ats, .fnCfg, .int, .capture, .ctxs, .cmds, .engines, .entries, .lookups, .peers, .windows, .coherence, .memory, .pool, .err, .power, .draws, .out] s (execDigestRange c q s) := by
  unfold execDigestRange
  refine OutBut.of (fun L s0 hL hok => ?_)
  repeat' first
    | with_reducible assumption
    | with_reducible refine SameBut.ite ?_ ?_
    | with_reducible refine digestCmdStep_frame (parts_sub (by decide) hL) ?_
    | intro _ _ _
    | intro _ _
    | intro _
    | split
    | dsimp only
    | dsimp only [id]

theorem digestStep_frame {L : List StatePart} {s0 : State} {n : Fin 2} {s : State}
    (hL : ∀ p ∈ [StatePart.od, .stored, .counters, .mgmt, .links, .intx, .requests, .ats, .fnCfg, .int, .capture, .ctxs, .cmds, .engines, .entries, .lookups, .peers, .windows, .coherence, .memory, .pool, .err, .power, .draws, .out], p ∈ L) (hok : SameBut L s0 s) :
    SameBut L s0 (digestStep n s) := by
  unfold digestStep
  repeat' first
    | with_reducible assumption
    | with_reducible exact .inl rfl
    | exact .inr (hL _ (by decide))
    | (extract_lets +onlyGivenNames x
       first
       | (refine sameStep (L := L) (s0 := s0) (x := x) (fun hx => ?_) ?_; clear_value x; rotate_left; subst x)
       | subst x)
    | with_reducible refine SameBut.ite ?_ ?_
    | with_reducible refine digestCmdStep_frame (parts_sub (by decide) hL) ?_
    | with_reducible refine SameBut.ofPair ?_ (by with_reducible assumption)
    | intro _ _ _
    | intro _ _
    | intro _
    | split
    | (simp only [same_lit]; with_reducible refine SameLit.of ?_ ?_ ?_ ?_ ?_ ?_ ?_ ?_ ?_ ?_ ?_ ?_ ?_ ?_ ?_ ?_ ?_ ?_ ?_ ?_ ?_ ?_ ?_ ?_ ?_ ?_ ?_ ?_ ?_ ?_ ?_ ?_ ?_ ?_ ?_ ?_ ?_ ?_ ?_ ?_)
    | exact .inl rfl
    | dsimp only
    | dsimp only [id]

theorem readAfresh_frame {L : List StatePart} {s0 : State} {cx : Ctx} {c : CtxId} {use : ReadUse} {s : State}
    (hL : ∀ p ∈ [StatePart.requests, .ctxs], p ∈ L) (hok : SameBut L s0 s) :
    SameBut L s0 (readAfresh cx c use s) := by
  unfold readAfresh
  repeat' first
    | with_reducible assumption
    | with_reducible exact .inl rfl
    | exact .inr (hL _ (by decide))
    | (extract_lets +onlyGivenNames x
       first
       | (refine sameStep (L := L) (s0 := s0) (x := x) (fun hx => ?_) ?_; clear_value x; rotate_left; subst x)
       | subst x)
    | with_reducible refine SameBut.ite ?_ ?_
    | with_reducible refine modFixed_frame (parts_sub (by decide) hL) ?_
    | with_reducible refine staleReads_frame (parts_sub (by decide) hL) ?_
    | intro _ _ _
    | intro _ _
    | intro _
    | split
    | (simp only [same_lit]; with_reducible refine SameLit.of ?_ ?_ ?_ ?_ ?_ ?_ ?_ ?_ ?_ ?_ ?_ ?_ ?_ ?_ ?_ ?_ ?_ ?_ ?_ ?_ ?_ ?_ ?_ ?_ ?_ ?_ ?_ ?_ ?_ ?_ ?_ ?_ ?_ ?_ ?_ ?_ ?_ ?_ ?_ ?_)
    | exact .inl rfl
    | dsimp only
    | dsimp only [id]

theorem restartReads_frame {L : List StatePart} {s0 : State} {b : Nat} {what : ScanFor} {x : Cmd} {s : State}
    (hL : ∀ p ∈ [StatePart.requests, .ctxs, .cmds], p ∈ L) (hok : SameBut L s0 s) :
    SameBut L s0 (restartReads b what x s) := by
  unfold restartReads
  repeat' first
    | with_reducible assumption
    | with_reducible exact .inl rfl
    | exact .inr (hL _ (by decide))
    | (extract_lets +onlyGivenNames x
       first
       | (refine sameStep (L := L) (s0 := s0) (x := x) (fun hx => ?_) ?_; clear_value x; rotate_left; subst x)
       | subst x)
    | with_reducible refine SameBut.ite ?_ ?_
    | with_reducible refine readAfresh_frame (parts_sub (by decide) hL) ?_
    | with_reducible refine modCmd_frame (parts_sub (by decide) hL) ?_
    | with_reducible refine SameBut.ofPair ?_ (by with_reducible assumption)
    | intro _ _ _
    | intro _ _
    | intro _
    | split
    | (simp only [same_lit]; with_reducible refine SameLit.of ?_ ?_ ?_ ?_ ?_ ?_ ?_ ?_ ?_ ?_ ?_ ?_ ?_ ?_ ?_ ?_ ?_ ?_ ?_ ?_ ?_ ?_ ?_ ?_ ?_ ?_ ?_ ?_ ?_ ?_ ?_ ?_ ?_ ?_ ?_ ?_ ?_ ?_ ?_ ?_)
    | exact .inl rfl
    | dsimp only
    | dsimp only [id]

theorem finishScan_frame {L : List StatePart} {s0 : State} {b : Bank} {s : State}
    (hL : ∀ p ∈ [StatePart.od, .stored, .counters, .mgmt, .links, .intx, .requests, .fnCfg, .int, .capture, .ctxs, .cmds, .engines, .entries, .lookups, .peers, .windows, .coherence, .err, .power, .out], p ∈ L) (hok : SameBut L s0 s) :
    SameBut L s0 (finishScan b s) := by
  unfold finishScan
  repeat' first
    | with_reducible assumption
    | with_reducible exact .inl rfl
    | exact .inr (hL _ (by decide))
    | (extract_lets +onlyGivenNames x
       first
       | (refine sameStep (L := L) (s0 := s0) (x := x) (fun hx => ?_) ?_; clear_value x; rotate_left; subst x)
       | subst x)
    | with_reducible refine foldState_frame (fun _ _ _ => ?_) ?_
    | with_reducible refine restartReads_frame (parts_sub (by decide) hL) ?_
    | with_reducible refine leasesEnded_frame (parts_sub (by decide) hL) ?_
    | with_reducible refine scanBank_frame (parts_sub (by decide) hL) ?_
    | with_reducible refine SameBut.ofPair ?_ (by with_reducible assumption)
    | intro _ _ _
    | intro _ _
    | intro _
    | split
    | (simp only [same_lit]; with_reducible refine SameLit.of ?_ ?_ ?_ ?_ ?_ ?_ ?_ ?_ ?_ ?_ ?_ ?_ ?_ ?_ ?_ ?_ ?_ ?_ ?_ ?_ ?_ ?_ ?_ ?_ ?_ ?_ ?_ ?_ ?_ ?_ ?_ ?_ ?_ ?_ ?_ ?_ ?_ ?_ ?_ ?_)
    | exact .inl rfl
    | dsimp only
    | dsimp only [id]


/-! ### Machine/Complete.lean -/

theorem foldDigest_frame {L : List StatePart} {s0 : State} {x : Cmd} {s : State}
    (hL : ∀ p ∈ [StatePart.ctxs], p ∈ L) (hok : SameBut L s0 s) :
    SameBut L s0 (foldDigest x s) := by
  unfold foldDigest
  repeat' first
    | with_reducible assumption
    | with_reducible refine SameBut.ite ?_ ?_
    | with_reducible refine foldAcc_frame (parts_sub (by decide) hL) ?_
    | intro _ _ _
    | intro _ _
    | intro _
    | split
    | dsimp only
    | dsimp only [id]

theorem foldOutput_frame {L : List StatePart} {s0 : State} {x : Cmd} {s : State}
    (hL : ∀ p ∈ [StatePart.ctxs], p ∈ L) (hok : SameBut L s0 s) :
    SameBut L s0 (foldOutput x s) := by
  unfold foldOutput
  repeat' first
    | with_reducible assumption
    | with_reducible exact .inl rfl
    | exact .inr (hL _ (by decide))
    | (extract_lets +onlyGivenNames x
       first
       | (refine sameStep (L := L) (s0 := s0) (x := x) (fun hx => ?_) ?_; clear_value x; rotate_left; subst x)
       | subst x)
    | with_reducible refine SameBut.ite ?_ ?_
    | with_reducible refine foldAcc_frame (parts_sub (by decide) hL) ?_
    | with_reducible refine SameBut.ofPair ?_ (by with_reducible assumption)
    | intro _ _ _
    | intro _ _
    | intro _
    | split
    | (simp only [same_lit]; with_reducible refine SameLit.of ?_ ?_ ?_ ?_ ?_ ?_ ?_ ?_ ?_ ?_ ?_ ?_ ?_ ?_ ?_ ?_ ?_ ?_ ?_ ?_ ?_ ?_ ?_ ?_ ?_ ?_ ?_ ?_ ?_ ?_ ?_ ?_ ?_ ?_ ?_ ?_ ?_ ?_ ?_ ?_)
    | exact .inl rfl
    | dsimp only
    | dsimp only [id]

theorem completeSignal_frame {L : List StatePart} {s0 : State} {x : Cmd} {g : Fun} {r : FenceRef} {s : State}
    (hL : ∀ p ∈ [StatePart.od, .stored, .counters, .mgmt, .links, .intx, .fnCfg, .int, .capture, .ctxs, .slots, .cmds, .engines, .lookups, .peers, .windows, .memory, .pool, .err, .power, .out], p ∈ L) (hok : SameBut L s0 s) :
    SameBut L s0 (completeSignal x g r s) := by
  unfold completeSignal
  repeat' first
    | with_reducible assumption
    | with_reducible exact .inl rfl
    | exact .inr (hL _ (by decide))
    | (extract_lets +onlyGivenNames x
       first
       | (refine sameStep (L := L) (s0 := s0) (x := x) (fun hx => ?_) ?_; clear_value x; rotate_left; subst x)
       | subst x)
    | with_reducible refine SameBut.ite ?_ ?_
    | with_reducible refine faultCmd_frame (parts_sub (by decide) hL) ?_
    | with_reducible refine signalFence_frame (parts_sub (by decide) hL) ?_
    | with_reducible refine SameBut.ofPair ?_ (by with_reducible assumption)
    | intro _ _ _
    | intro _ _
    | intro _
    | split
    | (simp only [same_lit]; with_reducible refine SameLit.of ?_ ?_ ?_ ?_ ?_ ?_ ?_ ?_ ?_ ?_ ?_ ?_ ?_ ?_ ?_ ?_ ?_ ?_ ?_ ?_ ?_ ?_ ?_ ?_ ?_ ?_ ?_ ?_ ?_ ?_ ?_ ?_ ?_ ?_ ?_ ?_ ?_ ?_ ?_ ?_)
    | exact .inl rfl
    | dsimp only
    | dsimp only [id]

theorem countCompletion_frame {L : List StatePart} {s0 : State} {c : CtxId} {g : Fun} {lost : Bool} {s : State}
    (hL : ∀ p ∈ [StatePart.int, .ctxs], p ∈ L) (hok : SameBut L s0 s) :
    SameBut L s0 (countCompletion c g lost s) := by
  unfold countCompletion
  repeat' first
    | with_reducible assumption
    | with_reducible exact .inl rfl
    | exact .inr (hL _ (by decide))
    | (extract_lets +onlyGivenNames x
       first
       | (refine sameStep (L := L) (s0 := s0) (x := x) (fun hx => ?_) ?_; clear_value x; rotate_left; subst x)
       | subst x)
    | with_reducible refine SameBut.ite ?_ ?_
    | with_reducible refine modCtx_frame (parts_sub (by decide) hL) ?_
    | with_reducible refine saturated_frame (parts_sub (by decide) hL) ?_
    | with_reducible refine SameBut.ofPair ?_ (by with_reducible assumption)
    | intro _ _ _
    | intro _ _
    | intro _
    | split
    | (simp only [same_lit]; with_reducible refine SameLit.of ?_ ?_ ?_ ?_ ?_ ?_ ?_ ?_ ?_ ?_ ?_ ?_ ?_ ?_ ?_ ?_ ?_ ?_ ?_ ?_ ?_ ?_ ?_ ?_ ?_ ?_ ?_ ?_ ?_ ?_ ?_ ?_ ?_ ?_ ?_ ?_ ?_ ?_ ?_ ?_)
    | exact .inl rfl
    | dsimp only
    | dsimp only [id]

theorem completionRecord_frame {L : List StatePart} {s0 : State} {x : Cmd} {cx : Ctx} {st : CStatus} {s : State}
    (hL : ∀ p ∈ [StatePart.int], p ∈ L) (hok : SameBut L s0 s) :
    SameBut L s0 (completionRecord x cx st s) := by
  unfold completionRecord
  repeat' first
    | with_reducible assumption
    | with_reducible refine SameBut.ite ?_ ?_
    | with_reducible refine formEvent_frame (parts_sub (by decide) hL) ?_
    | intro _ _ _
    | intro _ _
    | intro _
    | split
    | dsimp only
    | dsimp only [id]

theorem freeEntry_frame {L : List StatePart} {s0 : State} {x : Cmd} {s : State}
    (hL : ∀ p ∈ [StatePart.cmds, .engines], p ∈ L) (hok : SameBut L s0 s) :
    SameBut L s0 (freeEntry x s) := by
  unfold freeEntry
  repeat' first
    | with_reducible assumption
    | with_reducible exact .inl rfl
    | exact .inr (hL _ (by decide))
    | (extract_lets +onlyGivenNames x
       first
       | (refine sameStep (L := L) (s0 := s0) (x := x) (fun hx => ?_) ?_; clear_value x; rotate_left; subst x)
       | subst x)
    | with_reducible refine drainTag_frame (parts_sub (by decide) hL) ?_
    | intro _ _ _
    | intro _ _
    | intro _
    | (simp only [same_lit]; with_reducible refine SameLit.of ?_ ?_ ?_ ?_ ?_ ?_ ?_ ?_ ?_ ?_ ?_ ?_ ?_ ?_ ?_ ?_ ?_ ?_ ?_ ?_ ?_ ?_ ?_ ?_ ?_ ?_ ?_ ?_ ?_ ?_ ?_ ?_ ?_ ?_ ?_ ?_ ?_ ?_ ?_ ?_)
    | exact .inl rfl
    | dsimp only
    | dsimp only [id]

theorem completeCmd_frame {L : List StatePart} {s0 : State} {c : CtxId} {q : Nat} {s : State}
    (hL : ∀ p ∈ [StatePart.od, .stored, .counters, .mgmt, .links, .intx, .fnCfg, .int, .capture, .ctxs, .slots, .cmds, .engines, .lookups, .peers, .windows, .memory, .pool, .err, .power, .out], p ∈ L) (hok : SameBut L s0 s) :
    SameBut L s0 (completeCmd c q s) := by
  unfold completeCmd
  repeat' first
    | with_reducible assumption
    | with_reducible exact .inl rfl
    | exact .inr (hL _ (by decide))
    | (extract_lets +onlyGivenNames x
       first
       | (refine sameStep (L := L) (s0 := s0) (x := x) (fun hx => ?_) ?_; clear_value x; rotate_left; subst x)
       | subst x)
    | with_reducible refine SameBut.ite ?_ ?_
    | with_reducible refine foldState_frame (fun _ _ _ => ?_) ?_
    | with_reducible refine completeSignal_frame (parts_sub (by decide) hL) ?_
    | with_reducible refine foldDigest_frame (parts_sub (by decide) hL) ?_
    | with_reducible refine foldOutput_frame (parts_sub (by decide) hL) ?_
    | with_reducible refine completionRecord_frame (parts_sub (by decide) hL) ?_
    | with_reducible refine freeEntry_frame (parts_sub (by decide) hL) ?_
    | with_reducible refine countCompletion_frame (parts_sub (by decide) hL) ?_
    | with_reducible refine abandonCredit_frame (parts_sub (by decide) hL) ?_
    | with_reducible refine SameBut.ofPair ?_ (by with_reducible assumption)
    | intro _ _ _
    | intro _ _
    | intro _
    | split
    | (simp only [same_lit]; with_reducible refine SameLit.of ?_ ?_ ?_ ?_ ?_ ?_ ?_ ?_ ?_ ?_ ?_ ?_ ?_ ?_ ?_ ?_ ?_ ?_ ?_ ?_ ?_ ?_ ?_ ?_ ?_ ?_ ?_ ?_ ?_ ?_ ?_ ?_ ?_ ?_ ?_ ?_ ?_ ?_ ?_ ?_)
    | exact .inl rfl
    | dsimp only
    | dsimp only [id]

theorem execCommandCompletion_frame {c : CtxId} {q : Nat} {s : State} :
    OutBut [StatePart.od, .stored, .counters, .mgmt, .links, .intx, .fnCfg, .int, .capture, .ctxs, .slots, .cmds, .engines, .lookups, .peers, .windows, .memory, .pool, .err, .power, .out] s (execCommandCompletion c q s) := by
  unfold execCommandCompletion
  refine OutBut.of (fun L s0 hL hok => ?_)
  repeat' first
    | with_reducible assumption
    | with_reducible refine completeCmd_frame (parts_sub (by decide) hL) ?_
    | intro _ _ _
    | intro _ _
    | intro _
    | dsimp only
    | dsimp only [id]

theorem tagDrained_frame {L : List StatePart} {s0 : State} {tag : U16} {s : State}
    (hL : ∀ p ∈ [StatePart.engines], p ∈ L) (hok : SameBut L s0 s) :
    SameBut L s0 (tagDrained tag s) := by
  unfold tagDrained
  repeat' first
    | with_reducible assumption
    | with_reducible exact .inl rfl
    | exact .inr (hL _ (by decide))
    | (extract_lets +onlyGivenNames x
       first
       | (refine sameStep (L := L) (s0 := s0) (x := x) (fun hx => ?_) ?_; clear_value x; rotate_left; subst x)
       | subst x)
    | intro _ _ _
    | intro _ _
    | intro _
    | (simp only [same_lit]; with_reducible refine SameLit.of ?_ ?_ ?_ ?_ ?_ ?_ ?_ ?_ ?_ ?_ ?_ ?_ ?_ ?_ ?_ ?_ ?_ ?_ ?_ ?_ ?_ ?_ ?_ ?_ ?_ ?_ ?_ ?_ ?_ ?_ ?_ ?_ ?_ ?_ ?_ ?_ ?_ ?_ ?_ ?_)
    | exact .inl rfl
    | dsimp only
    | dsimp only [id]

theorem execStreamTagDrained_frame {tag : U16} {s : State} :
    OutBut [StatePart.engines] s (execStreamTagDrained tag s) := by
  unfold execStreamTagDrained
  refine OutBut.of (fun L s0 hL hok => ?_)
  repeat' first
    | with_reducible assumption
    | with_reducible refine tagDrained_frame (parts_sub (by decide) hL) ?_
    | intro _ _ _
    | intro _ _
    | intro _
    | dsimp only
    | dsimp only [id]

theorem execStreamBeatUnknownTag_frame {tag : U16} {s : State} :
    OutBut [StatePart.od, .stored, .counters, .mgmt, .links, .intx, .fnCfg, .int, .capture, .err, .power, .out] s (execStreamBeatUnknownTag tag s) := by
  unfold execStreamBeatUnknownTag
  refine OutBut.of (fun L s0 hL hok => ?_)
  repeat' first
    | with_reducible assumption
    | with_reducible refine SameBut.ite ?_ ?_
    | with_reducible refine raiseError_frame (parts_sub (by decide) hL) ?_
    | intro _ _ _
    | intro _ _
    | intro _
    | split
    | dsimp only
    | dsimp only [id]

theorem partEnd_frame {L : List StatePart} {s0 : State} {cluster : Nat} {c : CtxId} {q k : Nat} {s : State}
    (hL : ∀ p ∈ [StatePart.od, .stored, .counters, .mgmt, .links, .intx, .fnCfg, .int, .capture, .ctxs, .cmds, .engines, .entries, .lookups, .peers, .windows, .coherence, .det, .err, .power, .boot, .out], p ∈ L) (hok : SameBut L s0 s) :
    SameBut L s0 (partEnd cluster c q k s) := by
  unfold partEnd
  repeat' first
    | with_reducible assumption
    | with_reducible exact .inl rfl
    | exact .inr (hL _ (by decide))
    | (extract_lets +onlyGivenNames x
       first
       | (refine sameStep (L := L) (s0 := s0) (x := x) (fun hx => ?_) ?_; clear_value x; rotate_left; subst x)
       | subst x)
    | with_reducible refine SameBut.ite ?_ ?_
    | with_reducible refine modCmd_frame (parts_sub (by decide) hL) ?_
    | with_reducible refine applyLate_frame (parts_sub (by decide) hL) ?_
    | with_reducible refine endCmd_frame (parts_sub (by decide) hL) ?_
    | with_reducible refine fenceClusters_frame (parts_sub (by decide) hL) ?_
    | with_reducible refine SameBut.ofPair ?_ (by with_reducible assumption)
    | intro _ _ _
    | intro _ _
    | intro _
    | split
    | (simp only [same_lit]; with_reducible refine SameLit.of ?_ ?_ ?_ ?_ ?_ ?_ ?_ ?_ ?_ ?_ ?_ ?_ ?_ ?_ ?_ ?_ ?_ ?_ ?_ ?_ ?_ ?_ ?_ ?_ ?_ ?_ ?_ ?_ ?_ ?_ ?_ ?_ ?_ ?_ ?_ ?_ ?_ ?_ ?_ ?_)
    | exact .inl rfl
    | dsimp only
    | dsimp only [id]

theorem execPartEnd_frame {cluster : Nat} {c : CtxId} {q k : Nat} {s : State} :
    OutBut [StatePart.od, .stored, .counters, .mgmt, .links, .intx, .fnCfg, .int, .capture, .ctxs, .cmds, .engines, .entries, .lookups, .peers, .windows, .coherence, .det, .err, .power, .boot, .out] s (execPartEnd cluster c q k s) := by
  unfold execPartEnd
  refine OutBut.of (fun L s0 hL hok => ?_)
  repeat' first
    | with_reducible assumption
    | with_reducible refine partEnd_frame (parts_sub (by decide) hL) ?_
    | intro _ _ _
    | intro _ _
    | intro _
    | dsimp only
    | dsimp only [id]

theorem execPartCancelTimeout_frame {cluster : Nat} {c : CtxId} {q k : Nat} {s : State} :
    OutBut [StatePart.od, .stored, .counters, .mgmt, .links, .intx, .fnCfg, .int, .capture, .ctxs, .cmds, .engines, .entries, .lookups, .peers, .windows, .coherence, .det, .err, .power, .boot, .out] s (execPartCancelTimeout cluster c q k s) := by
  unfold execPartCancelTimeout
  refine OutBut.of (fun L s0 hL hok => ?_)
  repeat' first
    | with_reducible assumption
    | with_reducible refine SameBut.ite ?_ ?_
    | with_reducible refine fenceClusters_frame (parts_sub (by decide) hL) ?_
    | intro _ _ _
    | intro _ _
    | intro _
    | split
    | dsimp only
    | dsimp only [id]


/-! ### Machine/HostReads.lean -/

theorem freeTagOf_frame {L : List StatePart} {s0 : State} {p : Port} {t : ReqTag} {s : State}
    (hL : ∀ p ∈ [StatePart.counters, .requests, .ats, .int, .out], p ∈ L) (hok : SameBut L s0 s) :
    SameBut L s0 (freeTagOf p t s) := by
  unfold freeTagOf
  repeat' first
    | with_reducible assumption
    | with_reducible exact .inl rfl
    | exact .inr (hL _ (by decide))
    | exact .inl fun _ => rfl
    | (extract_lets +onlyGivenNames x
       first
       | (refine sameStep (L := L) (s0 := s0) (x := x) (fun hx => ?_) ?_; clear_value x; rotate_left; subst x)
       | subst x)
    | with_reducible refine serveWaits_frame (parts_sub (by decide) hL) ?_
    | with_reducible refine modPort_frame ?_ ?_ ?_ ?_ ?_ 
    | intro _ _ _
    | intro _ _
    | intro _
    | (simp only [same_lit]; with_reducible refine SameLit.of ?_ ?_ ?_ ?_ ?_ ?_ ?_ ?_ ?_ ?_ ?_ ?_ ?_ ?_ ?_ ?_ ?_ ?_ ?_ ?_ ?_ ?_ ?_ ?_ ?_ ?_ ?_ ?_ ?_ ?_ ?_ ?_ ?_ ?_ ?_ ?_ ?_ ?_ ?_ ?_)
    | exact .inl fun x => by (repeat' split) <;> rfl
    | exact .inl rfl
    | dsimp only
    | dsimp only [id]

theorem imageFails_frame {L : List StatePart} {s0 : State} {s : State}
    (hL : ∀ p ∈ [StatePart.requests, .boot], p ∈ L) (hok : SameBut L s0 s) :
    SameBut L s0 (imageFails s) := by
  unfold imageFails
  repeat' first
    | with_reducible assumption
    | with_reducible exact .inl rfl
    | exact .inr (hL _ (by decide))
    | (extract_lets +onlyGivenNames x
       first
       | (refine sameStep (L := L) (s0 := s0) (x := x) (fun hx => ?_) ?_; clear_value x; rotate_left; subst x)
       | subst x)
    | with_reducible refine SameBut.ite ?_ ?_
    | with_reducible refine quarantine_frame (parts_sub (by decide) hL) ?_
    | intro _ _ _
    | intro _ _
    | intro _
    | split
    | (simp only [same_lit]; with_reducible refine SameLit.of ?_ ?_ ?_ ?_ ?_ ?_ ?_ ?_ ?_ ?_ ?_ ?_ ?_ ?_ ?_ ?_ ?_ ?_ ?_ ?_ ?_ ?_ ?_ ?_ ?_ ?_ ?_ ?_ ?_ ?_ ?_ ?_ ?_ ?_ ?_ ?_ ?_ ?_ ?_ ?_)
    | exact .inl rfl
    | dsimp only
    | dsimp only [id]

theorem entryReadFails_frame {L : List StatePart} {s0 : State} {c : CtxId} {st : CStatus} {s : State}
    (hL : ∀ p ∈ [StatePart.od, .stored, .counters, .mgmt, .links, .intx, .fnCfg, .int, .capture, .ctxs, .cmds, .engines, .lookups, .peers, .windows, .err, .power, .out], p ∈ L) (hok : SameBut L s0 s) :
    SameBut L s0 (entryReadFails c st s) := by
  unfold entryReadFails
  repeat' first
    | with_reducible assumption
    | with_reducible exact .inl rfl
    | exact .inr (hL _ (by decide))
    | (extract_lets +onlyGivenNames x
       first
       | (refine sameStep (L := L) (s0 := s0) (x := x) (fun hx => ?_) ?_; clear_value x; rotate_left; subst x)
       | subst x)
    | with_reducible refine entryFails_frame (parts_sub (by decide) hL) ?_
    | with_reducible refine SameBut.ofPair ?_ (by with_reducible assumption)
    | intro _ _ _
    | intro _ _
    | intro _
    | split
    | (simp only [same_lit]; with_reducible refine SameLit.of ?_ ?_ ?_ ?_ ?_ ?_ ?_ ?_ ?_ ?_ ?_ ?_ ?_ ?_ ?_ ?_ ?_ ?_ ?_ ?_ ?_ ?_ ?_ ?_ ?_ ?_ ?_ ?_ ?_ ?_ ?_ ?_ ?_ ?_ ?_ ?_ ?_ ?_ ?_ ?_)
    | exact .inl rfl
    | dsimp only
    | dsimp only [id]

theorem readFails_frame {L : List StatePart} {s0 : State} {u : TagUse} {poisoned_ : Bool} {s : State}
    (hL : ∀ p ∈ [StatePart.od, .stored, .counters, .mgmt, .links, .intx, .requests, .fnCfg, .admin, .int, .capture, .ctxs, .cmds, .engines, .lookups, .peers, .windows, .err, .power, .boot, .out], p ∈ L) (hok : SameBut L s0 s) :
    SameBut L s0 (readFails u poisoned_ s) := by
  unfold readFails
  repeat' first
    | with_reducible assumption
    | with_reducible exact .inl rfl
    | exact .inr (hL _ (by decide))
    | (extract_lets +onlyGivenNames x
       first
       | (refine sameStep (L := L) (s0 := s0) (x := x) (fun hx => ?_) ?_; clear_value x; rotate_left; subst x)
       | subst x)
    | with_reducible refine SameBut.ite ?_ ?_
    | with_reducible refine entryReadFails_frame (parts_sub (by decide) hL) ?_
    | with_reducible refine faultCmd_frame (parts_sub (by decide) hL) ?_
    | with_reducible refine imageFails_frame (parts_sub (by decide) hL) ?_
    | with_reducible refine entryComes_frame (parts_sub (by decide) hL) ?_
    | with_reducible refine loseContext_frame (parts_sub (by decide) hL) ?_
    | with_reducible refine SameBut.ofPair ?_ (by with_reducible assumption)
    | intro _ _ _
    | intro _ _
    | intro _
    | split
    | (simp only [same_lit]; with_reducible refine SameLit.of ?_ ?_ ?_ ?_ ?_ ?_ ?_ ?_ ?_ ?_ ?_ ?_ ?_ ?_ ?_ ?_ ?_ ?_ ?_ ?_ ?_ ?_ ?_ ?_ ?_ ?_ ?_ ?_ ?_ ?_ ?_ ?_ ?_ ?_ ?_ ?_ ?_ ?_ ?_ ?_)
    | exact .inl rfl
    | dsimp only
    | dsimp only [id]

theorem failureArrives_frame {L : List StatePart} {s0 : State} {u : TagUse} {poisoned_ : Bool} {s : State}
    (hL : ∀ p ∈ [StatePart.od, .stored, .counters, .mgmt, .links, .intx, .requests, .fnCfg, .admin, .int, .capture, .ctxs, .cmds, .engines, .lookups, .peers, .windows, .det, .err, .power, .boot, .out], p ∈ L) (hok : SameBut L s0 s) :
    SameBut L s0 (failureArrives u poisoned_ s) := by
  unfold failureArrives
  repeat' first
    | with_reducible assumption
    | with_reducible exact .inl rfl
    | exact .inr (hL _ (by decide))
    | (extract_lets +onlyGivenNames x
       first
       | (refine sameStep (L := L) (s0 := s0) (x := x) (fun hx => ?_) ?_; clear_value x; rotate_left; subst x)
       | subst x)
    | with_reducible refine SameBut.ite ?_ ?_
    | with_reducible refine readFails_frame (parts_sub (by decide) hL) ?_
    | with_reducible refine SameBut.ofPair ?_ (by with_reducible assumption)
    | intro _ _ _
    | intro _ _
    | intro _
    | split
    | (simp only [same_lit]; with_reducible refine SameLit.of ?_ ?_ ?_ ?_ ?_ ?_ ?_ ?_ ?_ ?_ ?_ ?_ ?_ ?_ ?_ ?_ ?_ ?_ ?_ ?_ ?_ ?_ ?_ ?_ ?_ ?_ ?_ ?_ ?_ ?_ ?_ ?_ ?_ ?_ ?_ ?_ ?_ ?_ ?_ ?_)
    | exact .inl rfl
    | dsimp only
    | dsimp only [id]

theorem readDone_frame {L : List StatePart} {s0 : State} {p : Port} {u : TagUse} {b : Bytes} {s : State}
    (hL : ∀ p ∈ [StatePart.counters, .requests, .ats, .admin, .int, .ctxs, .cmds, .boot, .out], p ∈ L) (hok : SameBut L s0 s) :
    SameBut L s0 (readDone p u b s) := by
  unfold readDone
  repeat' first
    | with_reducible assumption
    | with_reducible exact .inl rfl
    | exact .inr (hL _ (by decide))
    | (extract_lets +onlyGivenNames x
       first
       | (refine sameStep (L := L) (s0 := s0) (x := x) (fun hx => ?_) ?_; clear_value x; rotate_left; subst x)
       | subst x)
    | with_reducible refine noteLog_frame (parts_sub (by decide) hL) ?_
    | with_reducible refine entryComes_frame (parts_sub (by decide) hL) ?_
    | with_reducible refine freeTagOf_frame (parts_sub (by decide) hL) ?_
    | with_reducible refine giveRead_frame (parts_sub (by decide) hL) ?_
    | with_reducible refine SameBut.ofPair ?_ (by with_reducible assumption)
    | intro _ _ _
    | intro _ _
    | intro _
    | split
    | (simp only [same_lit]; with_reducible refine SameLit.of ?_ ?_ ?_ ?_ ?_ ?_ ?_ ?_ ?_ ?_ ?_ ?_ ?_ ?_ ?_ ?_ ?_ ?_ ?_ ?_ ?_ ?_ ?_ ?_ ?_ ?_ ?_ ?_ ?_ ?_ ?_ ?_ ?_ ?_ ?_ ?_ ?_ ?_ ?_ ?_)
    | exact .inl rfl
    | dsimp only
    | dsimp only [id]

theorem setStatus_frame {L : List StatePart} {s0 : State} {g : Fun} {m : Nat} {s : State}
    (hL : ∀ p ∈ [StatePart.fnCfg], p ∈ L) (hok : SameBut L s0 s) :
    SameBut L s0 (setStatus g m s) := by
  unfold setStatus
  repeat' first
    | with_reducible assumption
    | with_reducible exact .inl rfl
    | exact .inr (hL _ (by decide))
    | (extract_lets +onlyGivenNames x
       first
       | (refine sameStep (L := L) (s0 := s0) (x := x) (fun hx => ?_) ?_; clear_value x; rotate_left; subst x)
       | subst x)
    | with_reducible refine modCfg_frame (parts_sub (by decide) hL) ?_
    | intro _ _ _
    | intro _ _
    | intro _
    | (simp only [same_lit]; with_reducible refine SameLit.of ?_ ?_ ?_ ?_ ?_ ?_ ?_ ?_ ?_ ?_ ?_ ?_ ?_ ?_ ?_ ?_ ?_ ?_ ?_ ?_ ?_ ?_ ?_ ?_ ?_ ?_ ?_ ?_ ?_ ?_ ?_ ?_ ?_ ?_ ?_ ?_ ?_ ?_ ?_ ?_)
    | exact .inl rfl
    | dsimp only
    | dsimp only [id]

theorem completionArrives_frame {L : List StatePart} {s0 : State} {p : Port} {t : ReqTag} {st : CplStatus} {poisoned_ : Bool} {off : Nat} {b : Bytes} {s : State}
    (hL : ∀ p ∈ [StatePart.od, .stored, .counters, .mgmt, .links, .intx, .requests, .ats, .fnCfg, .admin, .int, .capture, .ctxs, .cmds, .engines, .lookups, .peers, .windows, .det, .err, .power, .boot, .out], p ∈ L) (hok : SameBut L s0 s) :
    SameBut L s0 (completionArrives p t st poisoned_ off b s) := by
  unfold completionArrives
  repeat' first
    | with_reducible assumption
    | with_reducible exact .inl rfl
    | exact .inr (hL _ (by decide))
    | exact .inl fun _ => rfl
    | (extract_lets +onlyGivenNames x
       first
       | (refine sameStep (L := L) (s0 := s0) (x := x) (fun hx => ?_) ?_; clear_value x; rotate_left; subst x)
       | subst x)
    | with_reducible refine SameBut.ite ?_ ?_
    | with_reducible refine aerCorrectable_frame (parts_sub (by decide) hL) ?_
    | with_reducible refine modCfg_frame (parts_sub (by decide) hL) ?_
    | with_reducible refine countPort_frame (parts_sub (by decide) hL) ?_
    | with_reducible refine freeTagOf_frame (parts_sub (by decide) hL) ?_
    | with_reducible refine failureArrives_frame (parts_sub (by decide) hL) ?_
    | with_reducible refine setStatus_frame (parts_sub (by decide) hL) ?_
    | with_reducible refine poisonedTlp_frame (parts_sub (by decide) hL) ?_
    | with_reducible refine readDone_frame (parts_sub (by decide) hL) ?_
    | with_reducible refine modPort_frame ?_ ?_ ?_ ?_ ?_ 
    | with_reducible refine SameBut.ofPair ?_ (by with_reducible assumption)
    | intro _ _ _
    | intro _ _
    | intro _
    | split
    | (simp only [same_lit]; with_reducible refine SameLit.of ?_ ?_ ?_ ?_ ?_ ?_ ?_ ?_ ?_ ?_ ?_ ?_ ?_ ?_ ?_ ?_ ?_ ?_ ?_ ?_ ?_ ?_ ?_ ?_ ?_ ?_ ?_ ?_ ?_ ?_ ?_ ?_ ?_ ?_ ?_ ?_ ?_ ?_ ?_ ?_)
    | exact .inl fun x => by (repeat' split) <;> rfl
    | exact .inl rfl
    | dsimp only
    | dsimp only [id]

theorem adminEntry_frame {L : List StatePart} {s0 : State} {g : Fun} {ok : Bool} {entry : Bytes} {s : State}
    (hL : ∀ p ∈ [StatePart.counters, .requests, .ats, .admin, .int, .out], p ∈ L) (hok : SameBut L s0 s) :
    SameBut L s0 (adminEntry g ok entry s) := by
  unfold adminEntry
  repeat' first
    | with_reducible assumption
    | with_reducible exact .inl rfl
    | exact .inr (hL _ (by decide))
    | (extract_lets +onlyGivenNames x
       first
       | (refine sameStep (L := L) (s0 := s0) (x := x) (fun hx => ?_) ?_; clear_value x; rotate_left; subst x)
       | subst x)
    | with_reducible refine askAdmin_frame (parts_sub (by decide) hL) ?_
    | with_reducible refine freeTagOf_frame (parts_sub (by decide) hL) ?_
    | with_reducible refine entryComes_frame (parts_sub (by decide) hL) ?_
    | with_reducible refine SameBut.ofPair ?_ (by with_reducible assumption)
    | intro _ _ _
    | intro _ _
    | intro _
    | split
    | (simp only [same_lit]; with_reducible refine SameLit.of ?_ ?_ ?_ ?_ ?_ ?_ ?_ ?_ ?_ ?_ ?_ ?_ ?_ ?_ ?_ ?_ ?_ ?_ ?_ ?_ ?_ ?_ ?_ ?_ ?_ ?_ ?_ ?_ ?_ ?_ ?_ ?_ ?_ ?_ ?_ ?_ ?_ ?_ ?_ ?_)
    | exact .inl rfl
    | dsimp only
    | dsimp only [id]

theorem execAdminEntryRead_frame {g : Fun} {ok : Bool} {entry : Bytes} {s : State} :
    OutBut [StatePart.counters, .requests, .ats, .admin, .int, .out] s (execAdminEntryRead g ok entry s) := by
  unfold execAdminEntryRead
  refine OutBut.of (fun L s0 hL hok => ?_)
  repeat' first
    | with_reducible assumption
    | with_reducible refine adminEntry_frame (parts_sub (by decide) hL) ?_
    | intro _ _ _
    | intro _ _
    | intro _
    | dsimp only
    | dsimp only [id]

theorem execCompletionReceived_frame {p : Port} {t : ReqTag} {st : CplStatus} {poisoned_ : Bool} {off : Nat} {b : Bytes} {s : State} :
    OutBut [StatePart.od, .stored, .counters, .mgmt, .links, .intx, .requests, .ats, .fnCfg, .admin, .int, .capture, .ctxs, .cmds, .engines, .lookups, .peers, .windows, .det, .err, .power, .boot, .out] s (execCompletionReceived p t st poisoned_ off b s) := by
  unfold execCompletionReceived
  refine OutBut.of (fun L s0 hL hok => ?_)
  repeat' first
    | with_reducible assumption
    | with_reducible refine completionArrives_frame (parts_sub (by decide) hL) ?_
    | intro _ _ _
    | intro _ _
    | intro _
    | dsimp only
    | dsimp only [id]

theorem atsDenied_frame {L : List StatePart} {s0 : State} {g : Fun} {pasid : BitVec 20} {unit : Nat} {write : Option Bool} {s : State}
    (hL : ∀ p ∈ [StatePart.od, .stored, .counters, .mgmt, .links, .intx, .fnCfg, .int, .capture, .ctxs, .cmds, .engines, .entries, .lookups, .peers, .windows, .coherence, .err, .power, .out], p ∈ L) (hok : SameBut L s0 s) :
    SameBut L s0 (atsDenied g pasid unit write s) := by
  unfold atsDenied
  repeat' first
    | with_reducible assumption
    | with_reducible exact .inl rfl
    | exact .inr (hL _ (by decide))
    | (extract_lets +onlyGivenNames x
       first
       | (refine sameStep (L := L) (s0 := s0) (x := x) (fun hx => ?_) ?_; clear_value x; rotate_left; subst x)
       | (refine sameStep (L := L) (s0 := s0) (x := x.1) (fun hx => ?_) ?_; clear_value x; rotate_left; subst x)
       | subst x)
    | with_reducible refine SameBut.ite ?_ ?_
    | with_reducible refine foldState_frame (fun _ _ _ => ?_) ?_
    | with_reducible refine entryFails_frame (parts_sub (by decide) hL) ?_
    | with_reducible refine countFn_frame (parts_sub (by decide) hL) ?_
    | with_reducible refine modCmd_frame (parts_sub (by decide) hL) ?_
    | with_reducible refine operandRuns_frame (parts_sub (by decide) hL) ?_
    | with_reducible refine operandFault_frame (parts_sub (by decide) hL) ?_
    | with_reducible refine SameBut.ofPair ?_ (by with_reducible assumption)
    | intro _ _ _
    | intro _ _
    | intro _
    | split
    | (simp only [same_lit]; with_reducible refine SameLit.of ?_ ?_ ?_ ?_ ?_ ?_ ?_ ?_ ?_ ?_ ?_ ?_ ?_ ?_ ?_ ?_ ?_ ?_ ?_ ?_ ?_ ?_ ?_ ?_ ?_ ?_ ?_ ?_ ?_ ?_ ?_ ?_ ?_ ?_ ?_ ?_ ?_ ?_ ?_ ?_)
    | exact .inl rfl
    | dsimp only
    | dsimp only [id]

theorem readTimesOut_frame {L : List StatePart} {s0 : State} {p : Port} {t : ReqTag} {s : State}
    (hL : ∀ p ∈ [StatePart.od, .stored, .counters, .mgmt, .links, .intx, .requests, .ats, .fnCfg, .admin, .int, .capture, .ctxs, .cmds, .engines, .entries, .lookups, .peers, .windows, .coherence, .err, .power, .boot, .out], p ∈ L) (hok : SameBut L s0 s) :
    SameBut L s0 (readTimesOut p t s) := by
  unfold readTimesOut
  repeat' first
    | with_reducible assumption
    | with_reducible exact .inl rfl
    | exact .inr (hL _ (by decide))
    | (extract_lets +onlyGivenNames x
       first
       | (refine sameStep (L := L) (s0 := s0) (x := x) (fun hx => ?_) ?_; clear_value x; rotate_left; subst x)
       | subst x)
    | with_reducible refine SameBut.ite ?_ ?_
    | with_reducible refine quarantineTag_frame (parts_sub (by decide) hL) ?_
    | with_reducible refine atsDenied_frame (parts_sub (by decide) hL) ?_
    | with_reducible refine readFails_frame (parts_sub (by decide) hL) ?_
    | with_reducible refine aerUncorrectable_frame (parts_sub (by decide) hL) ?_
    | with_reducible refine SameBut.ofPair ?_ (by with_reducible assumption)
    | intro _ _ _
    | intro _ _
    | intro _
    | split
    | (simp only [same_lit]; with_reducible refine SameLit.of ?_ ?_ ?_ ?_ ?_ ?_ ?_ ?_ ?_ ?_ ?_ ?_ ?_ ?_ ?_ ?_ ?_ ?_ ?_ ?_ ?_ ?_ ?_ ?_ ?_ ?_ ?_ ?_ ?_ ?_ ?_ ?_ ?_ ?_ ?_ ?_ ?_ ?_ ?_ ?_)
    | exact .inl rfl
    | dsimp only
    | dsimp only [id]

theorem execCompletionTimeout_frame {p : Port} {t : ReqTag} {s : State} :
    OutBut [StatePart.od, .stored, .counters, .mgmt, .links, .intx, .requests, .ats, .fnCfg, .admin, .int, .capture, .ctxs, .cmds, .engines, .entries, .lookups, .peers, .windows, .coherence, .err, .power, .boot, .out] s (execCompletionTimeout p t s) := by
  unfold execCompletionTimeout
  refine OutBut.of (fun L s0 hL hok => ?_)
  repeat' first
    | with_reducible assumption
    | with_reducible refine readTimesOut_frame (parts_sub (by decide) hL) ?_
    | intro _ _ _
    | intro _ _
    | intro _
    | dsimp only
    | dsimp only [id]

theorem execQuarantineExpiry_frame {p : Port} {t : ReqTag} {s : State} :
    OutBut [StatePart.counters, .requests, .ats, .int, .out] s (execQuarantineExpiry p t s) := by
  unfold execQuarantineExpiry
  refine OutBut.of (fun L s0 hL hok => ?_)
  repeat' first
    | with_reducible assumption
    | with_reducible exact .inl rfl
    | exact .inr (hL _ (by decide))
    | (extract_lets +onlyGivenNames x
       first
       | (refine sameStep (L := L) (s0 := s0) (x := x) (fun hx => ?_) ?_; clear_value x; rotate_left; subst x)
       | subst x)
    | with_reducible refine SameBut.ite ?_ ?_
    | with_reducible refine freeTagOf_frame (parts_sub (by decide) hL) ?_
    | with_reducible refine SameBut.ofPair ?_ (by with_reducible assumption)
    | intro _ _ _
    | intro _ _
    | intro _
    | split
    | (simp only [same_lit]; with_reducible refine SameLit.of ?_ ?_ ?_ ?_ ?_ ?_ ?_ ?_ ?_ ?_ ?_ ?_ ?_ ?_ ?_ ?_ ?_ ?_ ?_ ?_ ?_ ?_ ?_ ?_ ?_ ?_ ?_ ?_ ?_ ?_ ?_ ?_ ?_ ?_ ?_ ?_ ?_ ?_ ?_ ?_)
    | exact .inl rfl
    | dsimp only
    | dsimp only [id]


/-! ### Machine/Translation.lean -/

theorem execTranslationLookup_frame {c : CtxId} {va : U64} {need : Need} {s : State} :
    OutBut [StatePart.od, .stored, .counters, .mgmt, .links, .intx, .fnCfg, .int, .capture, .ctxs, .cmds, .engines, .entries, .lookups, .peers, .windows, .coherence, .err, .power, .out] s (execTranslationLookup c va need s) := by
  unfold execTranslationLookup
  refine OutBut.of (fun L s0 hL hok => ?_)
  repeat' first
    | with_reducible assumption
    | with_reducible refine lookup_frame (parts_sub (by decide) hL) ?_
    | intro _ _ _
    | intro _ _
    | intro _
    | dsimp only
    | dsimp only [id]

theorem denyLease_frame {L : List StatePart} {s0 : State} {cluster slot : Nat} {c : CtxId} {va : Nat} {need : Need} {code : TCode} {st : CStatus} {s : State}
    (hL : ∀ p ∈ [StatePart.od, .stored, .counters, .mgmt, .links, .intx, .fnCfg, .int, .capture, .ctxs, .cmds, .engines, .lookups, .peers, .windows, .err, .power, .out], p ∈ L) (hok : SameBut L s0 s) :
    SameBut L s0 (denyLease cluster slot c va need code st s) := by
  unfold denyLease
  repeat' first
    | with_reducible assumption
    | (extract_lets +onlyGivenNames x
       first
       | (refine sameStep (L := L) (s0 := s0) (x := x) (fun hx => ?_) ?_; clear_value x; rotate_left; subst x)
       | subst x)
    | with_reducible refine emit_frame (parts_sub (by decide) hL) ?_
    | with_reducible refine loseContext_frame (parts_sub (by decide) hL) ?_
    | intro _ _ _
    | intro _ _
    | intro _
    | dsimp only
    | dsimp only [id]

theorem grantLease_frame {L : List StatePart} {s0 : State} {cluster slot : Nat} {c : CtxId} {a : Asker} {e : REntry} {va : Nat} {s : State}
    (hL : ∀ p ∈ [StatePart.od, .stored, .counters, .mgmt, .links, .intx, .fnCfg, .int, .capture, .ctxs, .cmds, .engines, .entries, .lookups, .peers, .windows, .coherence, .err, .power, .out], p ∈ L) (hok : SameBut L s0 s) :
    SameBut L s0 (grantLease cluster slot c a e va s) := by
  unfold grantLease
  repeat' first
    | with_reducible assumption
    | with_reducible exact .inl rfl
    | exact .inr (hL _ (by decide))
    | (extract_lets +onlyGivenNames x
       first
       | (refine sameStep (L := L) (s0 := s0) (x := x) (fun hx => ?_) ?_; clear_value x; rotate_left; subst x)
       | subst x)
    | with_reducible refine countPackage_frame (parts_sub (by decide) hL) ?_
    | with_reducible refine emit_frame (parts_sub (by decide) hL) ?_
    | with_reducible refine leasesEnded_frame (parts_sub (by decide) hL) ?_
    | with_reducible refine SameBut.ofPair ?_ (by with_reducible assumption)
    | intro _ _ _
    | intro _ _
    | intro _
    | split
    | (simp only [same_lit]; with_reducible refine SameLit.of ?_ ?_ ?_ ?_ ?_ ?_ ?_ ?_ ?_ ?_ ?_ ?_ ?_ ?_ ?_ ?_ ?_ ?_ ?_ ?_ ?_ ?_ ?_ ?_ ?_ ?_ ?_ ?_ ?_ ?_ ?_ ?_ ?_ ?_ ?_ ?_ ?_ ?_ ?_ ?_)
    | exact .inl rfl
    | dsimp only
    | dsimp only [id]

theorem holdLease_frame {L : List StatePart} {s0 : State} {cluster slot : Nat} {c : CtxId} {va : Nat} {need : Need} {s : State}
    (hL : ∀ p ∈ [StatePart.det], p ∈ L) (hok : SameBut L s0 s) :
    SameBut L s0 (holdLease cluster slot c va need s) := by
  unfold holdLease
  repeat' first
    | with_reducible assumption
    | with_reducible exact .inl rfl
    | exact .inr (hL _ (by decide))
    | (extract_lets +onlyGivenNames x
       first
       | (refine sameStep (L := L) (s0 := s0) (x := x) (fun hx => ?_) ?_; clear_value x; rotate_left; subst x)
       | subst x)
    | intro _ _ _
    | intro _ _
    | intro _
    | (simp only [same_lit]; with_reducible refine SameLit.of ?_ ?_ ?_ ?_ ?_ ?_ ?_ ?_ ?_ ?_ ?_ ?_ ?_ ?_ ?_ ?_ ?_ ?_ ?_ ?_ ?_ ?_ ?_ ?_ ?_ ?_ ?_ ?_ ?_ ?_ ?_ ?_ ?_ ?_ ?_ ?_ ?_ ?_ ?_ ?_)
    | exact .inl rfl
    | dsimp only
    | dsimp only [id]

theorem leaseRequest_frame {L : List StatePart} {s0 : State} {cluster slot : Nat} {c : CtxId} {va : Nat} {need : Need} {s : State}
    (hL : ∀ p ∈ [StatePart.od, .stored, .counters, .mgmt, .links, .intx, .fnCfg, .int, .capture, .ctxs, .cmds, .engines, .entries, .lookups, .peers, .windows, .coherence, .det, .err, .power, .out], p ∈ L) (hok : SameBut L s0 s) :
    SameBut L s0 (leaseRequest cluster slot c va need s) := by
  unfold leaseRequest
  repeat' first
    | with_reducible assumption
    | with_reducible exact .inl rfl
    | exact .inr (hL _ (by decide))
    | (extract_lets +onlyGivenNames x
       first
       | (refine sameStep (L := L) (s0 := s0) (x := x) (fun hx => ?_) ?_; clear_value x; rotate_left; subst x)
       | subst x)
    | with_reducible refine SameBut.ite ?_ ?_
    | with_reducible refine emit_frame (parts_sub (by decide) hL) ?_
    | with_reducible refine countFn_frame (parts_sub (by decide) hL) ?_
    | with_reducible refine holdLease_frame (parts_sub (by decide) hL) ?_
    | with_reducible refine translate_frame (parts_sub (by decide) hL) ?_
    | with_reducible refine grantLease_frame (parts_sub (by decide) hL) ?_
    | with_reducible refine denyLease_frame (parts_sub (by decide) hL) ?_
    | with_reducible refine SameBut.ofPair ?_ (by with_reducible assumption)
    | intro _ _ _
    | intro _ _
    | intro _
    | split
    | (simp only [same_lit]; with_reducible refine SameLit.of ?_ ?_ ?_ ?_ ?_ ?_ ?_ ?_ ?_ ?_ ?_ ?_ ?_ ?_ ?_ ?_ ?_ ?_ ?_ ?_ ?_ ?_ ?_ ?_ ?_ ?_ ?_ ?_ ?_ ?_ ?_ ?_ ?_ ?_ ?_ ?_ ?_ ?_ ?_ ?_)
    | exact .inl rfl
    | dsimp only
    | dsimp only [id]

theorem enter_frame {L : List StatePart} {s0 : State} {a : Arrival} {s : State}
    (hL : ∀ p ∈ [StatePart.od, .stored, .counters, .mgmt, .links, .intx, .requests, .fnCfg, .admin, .int, .capture, .ctxs, .cmds, .engines, .entries, .lookups, .peers, .windows, .coherence, .det, .err, .power, .boot, .out], p ∈ L) (hok : SameBut L s0 s) :
    SameBut L s0 (enter a s) := by
  unfold enter
  repeat' first
    | with_reducible assumption
    | with_reducible exact .inl rfl
    | exact .inr (hL _ (by decide))
    | (extract_lets +onlyGivenNames x
       first
       | (refine sameStep (L := L) (s0 := s0) (x := x) (fun hx => ?_) ?_; clear_value x; rotate_left; subst x)
       | subst x)
    | with_reducible refine leaseRequest_frame (parts_sub (by decide) hL) ?_
    | with_reducible refine readFails_frame (parts_sub (by decide) hL) ?_
    | with_reducible refine faultCmd_frame (parts_sub (by decide) hL) ?_
    | with_reducible refine SameBut.ofPair ?_ (by with_reducible assumption)
    | intro _ _ _
    | intro _ _
    | intro _
    | split
    | (simp only [same_lit]; with_reducible refine SameLit.of ?_ ?_ ?_ ?_ ?_ ?_ ?_ ?_ ?_ ?_ ?_ ?_ ?_ ?_ ?_ ?_ ?_ ?_ ?_ ?_ ?_ ?_ ?_ ?_ ?_ ?_ ?_ ?_ ?_ ?_ ?_ ?_ ?_ ?_ ?_ ?_ ?_ ?_ ?_ ?_)
    | exact .inl rfl
    | dsimp only
    | dsimp only [id]

theorem enterWhere_frame {L : List StatePart} {s0 : State} {p : Arrival → Bool} {s : State}
    (hL : ∀ p ∈ [StatePart.od, .stored, .counters, .mgmt, .links, .intx, .requests, .fnCfg, .admin, .int, .capture, .ctxs, .cmds, .engines, .entries, .lookups, .peers, .windows, .coherence, .det, .err, .power, .boot, .out], p ∈ L) (hok : SameBut L s0 s) :
    SameBut L s0 (enterWhere p s) := by
  unfold enterWhere
  repeat' first
    | with_reducible assumption
    | with_reducible exact .inl rfl
    | exact .inr (hL _ (by decide))
    | (extract_lets +onlyGivenNames x
       first
       | (refine sameStep (L := L) (s0 := s0) (x := x) (fun hx => ?_) ?_; clear_value x; rotate_left; subst x)
       | subst x)
    | with_reducible refine foldState_frame (fun _ _ _ => ?_) ?_
    | with_reducible refine enter_frame (parts_sub (by decide) hL) ?_
    | intro _ _ _
    | intro _ _
    | intro _
    | (simp only [same_lit]; with_reducible refine SameLit.of ?_ ?_ ?_ ?_ ?_ ?_ ?_ ?_ ?_ ?_ ?_ ?_ ?_ ?_ ?_ ?_ ?_ ?_ ?_ ?_ ?_ ?_ ?_ ?_ ?_ ?_ ?_ ?_ ?_ ?_ ?_ ?_ ?_ ?_ ?_ ?_ ?_ ?_ ?_ ?_)
    | exact .inl rfl
    | dsimp only
    | dsimp only [id]

theorem letIn_frame {L : List StatePart} {s0 : State} {c : CtxId} {s : State}
    (hL : ∀ p ∈ [StatePart.od, .stored, .counters, .mgmt, .links, .intx, .requests, .fnCfg, .admin, .int, .capture, .ctxs, .cmds, .engines, .entries, .lookups, .peers, .windows, .coherence, .det, .err, .power, .boot, .out], p ∈ L) (hok : SameBut L s0 s) :
    SameBut L s0 (letIn c s) := by
  unfold letIn
  repeat' first
    | with_reducible assumption
    | with_reducible refine enterWhere_frame (parts_sub (by decide) hL) ?_
    | intro _ _ _
    | intro _ _
    | intro _
    | dsimp only
    | dsimp only [id]

theorem retryLeases_frame {L : List StatePart} {s0 : State} {s : State}
    (hL : ∀ p ∈ [StatePart.od, .stored, .counters, .mgmt, .links, .intx, .requests, .fnCfg, .admin, .int, .capture, .ctxs, .cmds, .engines, .entries, .lookups, .peers, .windows, .coherence, .det, .err, .power, .boot, .out], p ∈ L) (hok : SameBut L s0 s) :
    SameBut L s0 (retryLeases s) := by
  unfold retryLeases
  repeat' first
    | with_reducible assumption
    | with_reducible exact .inl rfl
    | exact .inr (hL _ (by decide))
    | (extract_lets +onlyGivenNames x
       first
       | (refine sameStep (L := L) (s0 := s0) (x := x) (fun hx => ?_) ?_; clear_value x; rotate_left; subst x)
       | subst x)
    | with_reducible refine enterWhere_frame (parts_sub (by decide) hL) ?_
    | with_reducible refine SameBut.ofPair ?_ (by with_reducible assumption)
    | intro _ _ _
    | intro _ _
    | intro _
    | split
    | (simp only [same_lit]; with_reducible refine SameLit.of ?_ ?_ ?_ ?_ ?_ ?_ ?_ ?_ ?_ ?_ ?_ ?_ ?_ ?_ ?_ ?_ ?_ ?_ ?_ ?_ ?_ ?_ ?_ ?_ ?_ ?_ ?_ ?_ ?_ ?_ ?_ ?_ ?_ ?_ ?_ ?_ ?_ ?_ ?_ ?_)
    | exact .inl rfl
    | dsimp only
    | dsimp only [id]

theorem execLeaseRequest_frame {cluster slot : Nat} {c : CtxId} {va : U64} {need : Need} {s : State} :
    OutBut [StatePart.od, .stored, .counters, .mgmt, .links, .intx, .fnCfg, .int, .capture, .ctxs, .cmds, .engines, .entries, .lookups, .peers, .windows, .coherence, .det, .err, .power, .out] s (execLeaseRequest cluster slot c va need s) := by
  unfold execLeaseRequest
  refine OutBut.of (fun L s0 hL hok => ?_)
  repeat' first
    | with_reducible assumption
    | with_reducible refine leaseRequest_frame (parts_sub (by decide) hL) ?_
    | intro _ _ _
    | intro _ _
    | intro _
    | dsimp only
    | dsimp only [id]

theorem execRangeScanDone_frame {bank : Bank} {s : State} :
    OutBut [StatePart.od, .stored, .counters, .mgmt, .links, .intx, .requests, .fnCfg, .int, .capture, .ctxs, .cmds, .engines, .entries, .lookups, .peers, .windows, .coherence, .err, .power, .out] s (execRangeScanDone bank s) := by
  unfold execRangeScanDone
  refine OutBut.of (fun L s0 hL hok => ?_)
  repeat' first
    | with_reducible assumption
    | with_reducible refine finishScan_frame (parts_sub (by decide) hL) ?_
    | intro _ _ _
    | intro _ _
    | intro _
    | dsimp only
    | dsimp only [id]

theorem atsKeep_frame {L : List StatePart} {s0 : State} {p : Port} {e : AtsEntry} {s : State}
    (hL : ∀ p ∈ [StatePart.requests, .ats, .cmds], p ∈ L) (hok : SameBut L s0 s) :
    SameBut L s0 (atsKeep p e s) := by
  unfold atsKeep
  repeat' first
    | with_reducible assumption
    | with_reducible exact .inl rfl
    | exact .inr (hL _ (by decide))
    | exact .inl fun _ => rfl
    | (extract_lets +onlyGivenNames x
       first
       | (refine sameStep (L := L) (s0 := s0) (x := x) (fun hx => ?_) ?_; clear_value x; rotate_left; subst x)
       | subst x)
    | with_reducible refine forgetAts_frame (parts_sub (by decide) hL) ?_
    | with_reducible refine modPort_frame ?_ ?_ ?_ ?_ ?_ 
    | with_reducible refine SameBut.ofPair ?_ (by with_reducible assumption)
    | intro _ _ _
    | intro _ _
    | intro _
    | split
    | (simp only [same_lit]; with_reducible refine SameLit.of ?_ ?_ ?_ ?_ ?_ ?_ ?_ ?_ ?_ ?_ ?_ ?_ ?_ ?_ ?_ ?_ ?_ ?_ ?_ ?_ ?_ ?_ ?_ ?_ ?_ ?_ ?_ ?_ ?_ ?_ ?_ ?_ ?_ ?_ ?_ ?_ ?_ ?_ ?_ ?_)
    | exact .inl fun x => by (repeat' split) <;> rfl
    | exact .inl rfl
    | dsimp only
    | dsimp only [id]

theorem atsCompletes_frame {L : List StatePart} {s0 : State} {p : Port} {t : ReqTag} {st : CplStatus} {translated : Nat} {rd wr : Bool} {s : State}
    (hL : ∀ p ∈ [StatePart.od, .stored, .counters, .mgmt, .links, .intx, .requests, .ats, .fnCfg, .int, .capture, .ctxs, .cmds, .engines, .entries, .lookups, .peers, .windows, .coherence, .err, .power, .out], p ∈ L) (hok : SameBut L s0 s) :
    SameBut L s0 (atsCompletes p t st translated rd wr s) := by
  unfold atsCompletes
  repeat' first
    | with_reducible assumption
    | with_reducible exact .inl rfl
    | exact .inr (hL _ (by decide))
    | (extract_lets +onlyGivenNames x
       first
       | (refine sameStep (L := L) (s0 := s0) (x := x) (fun hx => ?_) ?_; clear_value x; rotate_left; subst x)
       | subst x)
    | with_reducible refine SameBut.ite ?_ ?_
    | with_reducible refine aerCorrectable_frame (parts_sub (by decide) hL) ?_
    | with_reducible refine modCfg_frame (parts_sub (by decide) hL) ?_
    | with_reducible refine countPort_frame (parts_sub (by decide) hL) ?_
    | with_reducible refine freeTagOf_frame (parts_sub (by decide) hL) ?_
    | with_reducible refine atsDenied_frame (parts_sub (by decide) hL) ?_
    | with_reducible refine atsKeep_frame (parts_sub (by decide) hL) ?_
    | with_reducible refine SameBut.ofPair ?_ (by with_reducible assumption)
    | intro _ _ _
    | intro _ _
    | intro _
    | split
    | (simp only [same_lit]; with_reducible refine SameLit.of ?_ ?_ ?_ ?_ ?_ ?_ ?_ ?_ ?_ ?_ ?_ ?_ ?_ ?_ ?_ ?_ ?_ ?_ ?_ ?_ ?_ ?_ ?_ ?_ ?_ ?_ ?_ ?_ ?_ ?_ ?_ ?_ ?_ ?_ ?_ ?_ ?_ ?_ ?_ ?_)
    | exact .inl rfl
    | dsimp only
    | dsimp only [id]

theorem execAtsTranslationCompletion_frame {p : Port} {t : ReqTag} {st : CplStatus} {translated : U64} {rd wr : Bool} {s : State} :
    OutBut [StatePart.od, .stored, .counters, .mgmt, .links, .intx, .requests, .ats, .fnCfg, .int, .capture, .ctxs, .cmds, .engines, .entries, .lookups, .peers, .windows, .coherence, .err, .power, .out] s (execAtsTranslationCompletion p t st translated rd wr s) := by
  unfold execAtsTranslationCompletion
  refine OutBut.of (fun L s0 hL hok => ?_)
  repeat' first
    | with_reducible assumption
    | with_reducible refine atsCompletes_frame (parts_sub (by decide) hL) ?_
    | intro _ _ _
    | intro _ _
    | intro _
    | dsimp only
    | dsimp only [id]

theorem atsInvalidate_frame {L : List StatePart} {s0 : State} {p : Port} {itag : Nat} {pasid : BitVec 20} {a n : Nat} {s : State}
    (hL : ∀ p ∈ [StatePart.counters, .requests, .ats, .int, .cmds], p ∈ L) (hok : SameBut L s0 s) :
    SameBut L s0 (atsInvalidate p itag pasid a n s) := by
  unfold atsInvalidate
  repeat' first
    | with_reducible assumption
    | with_reducible exact .inl rfl
    | exact .inr (hL _ (by decide))
    | exact .inl fun _ => rfl
    | (extract_lets +onlyGivenNames x
       first
       | (refine sameStep (L := L) (s0 := s0) (x := x) (fun hx => ?_) ?_; clear_value x; rotate_left; subst x)
       | subst x)
    | with_reducible refine SameBut.ite ?_ ?_
    | with_reducible refine countPort_frame (parts_sub (by decide) hL) ?_
    | with_reducible refine modPort_frame ?_ ?_ ?_ ?_ ?_ 
    | with_reducible refine forgetAts_frame (parts_sub (by decide) hL) ?_
    | with_reducible refine SameBut.ofPair ?_ (by with_reducible assumption)
    | intro _ _ _
    | intro _ _
    | intro _
    | split
    | (simp only [same_lit]; with_reducible refine SameLit.of ?_ ?_ ?_ ?_ ?_ ?_ ?_ ?_ ?_ ?_ ?_ ?_ ?_ ?_ ?_ ?_ ?_ ?_ ?_ ?_ ?_ ?_ ?_ ?_ ?_ ?_ ?_ ?_ ?_ ?_ ?_ ?_ ?_ ?_ ?_ ?_ ?_ ?_ ?_ ?_)
    | exact .inl fun x => by (repeat' split) <;> rfl
    | exact .inl rfl
    | dsimp only
    | dsimp only [id]

theorem execAtsInvalidateRequest_frame {p : Port} {itag : Fin 32} {pasid : BitVec 20} {a : U64} {n : Nat} {s : State} :
    OutBut [StatePart.counters, .requests, .ats, .int, .cmds] s (execAtsInvalidateRequest p itag pasid a n s) := by
  unfold execAtsInvalidateRequest
  refine OutBut.of (fun L s0 hL hok => ?_)
  repeat' first
    | with_reducible assumption
    | with_reducible refine atsInvalidate_frame (parts_sub (by decide) hL) ?_
    | intro _ _ _
    | intro _ _
    | intro _
    | dsimp only
    | dsimp only [id]

theorem execAtsInvalidationCompletion_frame {p : Port} {itag : Fin 32} {s : State} :
    OutBut [StatePart.ats, .out] s (execAtsInvalidationCompletion p itag s) := by
  unfold execAtsInvalidationCompletion
  refine OutBut.of (fun L s0 hL hok => ?_)
  repeat' first
    | with_reducible assumption
    | with_reducible exact .inl rfl
    | exact .inr (hL _ (by decide))
    | exact .inl fun _ => rfl
    | (extract_lets +onlyGivenNames x
       first
       | (refine sameStep (L := L) (s0 := s0) (x := x) (fun hx => ?_) ?_; clear_value x; rotate_left; subst x)
       | subst x)
    | with_reducible refine SameBut.ite ?_ ?_
    | with_reducible refine emit_frame (parts_sub (by decide) hL) ?_
    | with_reducible refine modPort_frame ?_ ?_ ?_ ?_ ?_ 
    | with_reducible refine SameBut.ofPair ?_ (by with_reducible assumption)
    | intro _ _ _
    | intro _ _
    | intro _
    | split
    | (simp only [same_lit]; with_reducible refine SameLit.of ?_ ?_ ?_ ?_ ?_ ?_ ?_ ?_ ?_ ?_ ?_ ?_ ?_ ?_ ?_ ?_ ?_ ?_ ?_ ?_ ?_ ?_ ?_ ?_ ?_ ?_ ?_ ?_ ?_ ?_ ?_ ?_ ?_ ?_ ?_ ?_ ?_ ?_ ?_ ?_)
    | exact .inl fun x => by (repeat' split) <;> rfl
    | exact .inl rfl
    | dsimp only
    | dsimp only [id]

theorem execPoolExtentWrite_frame {rq : Requester} {g : Fun} {base bytes : Option U64} {s : State} :
    OutBut [StatePart.od, .stored, .counters, .mgmt, .int, .out] s (execPoolExtentWrite rq g base bytes s) := by
  unfold execPoolExtentWrite
  refine OutBut.of (fun L s0 hL hok => ?_)
  repeat' first
    | with_reducible assumption
    | with_reducible exact .inl rfl
    | exact .inr (hL _ (by decide))
    | (extract_lets +onlyGivenNames x
       first
       | (refine sameStep (L := L) (s0 := s0) (x := x) (fun hx => ?_) ?_; clear_value x; rotate_left; subst x)
       | subst x)
    | with_reducible refine putObj_frame (parts_sub (by decide) hL) ?_
    | with_reducible refine requestWrite_frame (parts_sub (by decide) hL) ?_ ?_
    | with_reducible refine SameBut.ofPair ?_ (by with_reducible assumption)
    | intro _ _ _
    | intro _ _
    | intro _
    | split
    | (simp only [same_lit]; with_reducible refine SameLit.of ?_ ?_ ?_ ?_ ?_ ?_ ?_ ?_ ?_ ?_ ?_ ?_ ?_ ?_ ?_ ?_ ?_ ?_ ?_ ?_ ?_ ?_ ?_ ?_ ?_ ?_ ?_ ?_ ?_ ?_ ?_ ?_ ?_ ?_ ?_ ?_ ?_ ?_ ?_ ?_)
    | exact .inl rfl
    | dsimp only
    | dsimp only [id]

end Sys2Proof.Machine
end

