-- ==== Sys2Proof/Laws/FramesLinks.lean ====
section
/-!
SUPPORT. Frames, update by update: the pair link, windows, coherence, the pool, clocks, modes and ports.
Each lemma follows its definition: one let at a time, one branch at a time, and the lemma of each operation that it calls.
-/
set_option linter.unusedSimpArgs false
set_option linter.unusedVariables false

namespace Sys2Proof.Machine

/-! ### Machine/PairLink.lean -/

theorem modSession_frame {L : List StatePart} {s0 : State} {p : PackageId} {f : PairSession → PairSession} {s : State}
    (hL : ∀ p ∈ [StatePart.peers], p ∈ L) (hok : SameBut L s0 s) :
    SameBut L s0 (modSession p f s) := by
  unfold modSession
  repeat' first
    | with_reducible assumption
    | with_reducible exact .inl rfl
    | exact .inr (hL _ (by decide))
    | (extract_lets +onlyGivenNames x
       first
       | (refine sameStep (L := L) (s0 := s0) (x := x) (fun hx => ?_) ?_; clear_value x; rotate_left; subst x)
       | subst x)
    | with_reducible refine modPeer_frame (parts_sub (by decide) hL) ?_
    | intro _ _ _
    | intro _ _
    | intro _
    | (simp only [same_lit]; with_reducible refine SameLit.of ?_ ?_ ?_ ?_ ?_ ?_ ?_ ?_ ?_ ?_ ?_ ?_ ?_ ?_ ?_ ?_ ?_ ?_ ?_ ?_ ?_ ?_ ?_ ?_ ?_ ?_ ?_ ?_ ?_ ?_ ?_ ?_ ?_ ?_ ?_ ?_ ?_ ?_ ?_ ?_)
    | exact .inl rfl
    | dsimp only
    | dsimp only [id]

theorem takeAck_frame {L : List StatePart} {s0 : State} {p : PackageId} {ack : U32} {s : State}
    (hL : ∀ p ∈ [StatePart.peers, .out], p ∈ L) (hok : SameBut L s0 s) :
    SameBut L s0 (takeAck p ack s) := by
  unfold takeAck
  repeat' first
    | with_reducible assumption
    | with_reducible exact .inl rfl
    | exact .inr (hL _ (by decide))
    | (extract_lets +onlyGivenNames x
       first
       | (refine sameStep (L := L) (s0 := s0) (x := x) (fun hx => ?_) ?_; clear_value x; rotate_left; subst x)
       | subst x)
    | with_reducible refine SameBut.ite ?_ ?_
    | with_reducible refine modPeer_frame (parts_sub (by decide) hL) ?_
    | with_reducible refine flushFrames_frame (parts_sub (by decide) hL) ?_
    | with_reducible refine SameBut.ofPair ?_ (by with_reducible assumption)
    | intro _ _ _
    | intro _ _
    | intro _
    | split
    | (simp only [same_lit]; with_reducible refine SameLit.of ?_ ?_ ?_ ?_ ?_ ?_ ?_ ?_ ?_ ?_ ?_ ?_ ?_ ?_ ?_ ?_ ?_ ?_ ?_ ?_ ?_ ?_ ?_ ?_ ?_ ?_ ?_ ?_ ?_ ?_ ?_ ?_ ?_ ?_ ?_ ?_ ?_ ?_ ?_ ?_)
    | exact .inl rfl
    | dsimp only
    | dsimp only [id]

theorem opFails_frame {L : List StatePart} {s0 : State} {code : DCode} {o : SendOp} {s : State}
    (hL : ∀ p ∈ [StatePart.od, .stored, .counters, .mgmt, .links, .intx, .fnCfg, .faultq, .int, .capture, .fnOther, .ctxs, .cmds, .engines, .lookups, .peers, .windows, .err, .power, .out], p ∈ L) (hok : SameBut L s0 s) :
    SameBut L s0 (opFails code o s) := by
  unfold opFails
  repeat' first
    | with_reducible assumption
    | with_reducible exact .inl rfl
    | exact .inr (hL _ (by decide))
    | (extract_lets +onlyGivenNames x
       first
       | (refine sameStep (L := L) (s0 := s0) (x := x) (fun hx => ?_) ?_; clear_value x; rotate_left; subst x)
       | subst x)
    | with_reducible refine SameBut.ite ?_ ?_
    | with_reducible refine countFn_frame (parts_sub (by decide) hL) ?_
    | with_reducible refine tileFault_frame (parts_sub (by decide) hL) ?_
    | with_reducible refine operandFault_frame (parts_sub (by decide) hL) ?_
    | with_reducible refine SameBut.ofPair ?_ (by with_reducible assumption)
    | intro _ _ _
    | intro _ _
    | intro _
    | split
    | (simp only [same_lit]; with_reducible refine SameLit.of ?_ ?_ ?_ ?_ ?_ ?_ ?_ ?_ ?_ ?_ ?_ ?_ ?_ ?_ ?_ ?_ ?_ ?_ ?_ ?_ ?_ ?_ ?_ ?_ ?_ ?_ ?_ ?_ ?_ ?_ ?_ ?_ ?_ ?_ ?_ ?_ ?_ ?_ ?_ ?_)
    | exact .inl rfl
    | dsimp only
    | dsimp only [id]

theorem endOps_frame {L : List StatePart} {s0 : State} {p : PackageId} {code : DCode} {s : State}
    (hL : ∀ p ∈ [StatePart.od, .stored, .counters, .mgmt, .links, .intx, .fnCfg, .faultq, .int, .capture, .fnOther, .ctxs, .cmds, .engines, .lookups, .peers, .windows, .err, .power, .out], p ∈ L) (hok : SameBut L s0 s) :
    SameBut L s0 (endOps p code s) := by
  unfold endOps
  repeat' first
    | with_reducible assumption
    | with_reducible exact .inl rfl
    | exact .inr (hL _ (by decide))
    | (extract_lets +onlyGivenNames x
       first
       | (refine sameStep (L := L) (s0 := s0) (x := x) (fun hx => ?_) ?_; clear_value x; rotate_left; subst x)
       | subst x)
    | with_reducible refine foldState_frame (fun _ _ _ => ?_) ?_
    | with_reducible refine opFails_frame (parts_sub (by decide) hL) ?_
    | intro _ _ _
    | intro _ _
    | intro _
    | (simp only [same_lit]; with_reducible refine SameLit.of ?_ ?_ ?_ ?_ ?_ ?_ ?_ ?_ ?_ ?_ ?_ ?_ ?_ ?_ ?_ ?_ ?_ ?_ ?_ ?_ ?_ ?_ ?_ ?_ ?_ ?_ ?_ ?_ ?_ ?_ ?_ ?_ ?_ ?_ ?_ ?_ ?_ ?_ ?_ ?_)
    | exact .inl rfl
    | dsimp only
    | dsimp only [id]

theorem endSession_frame {L : List StatePart} {s0 : State} {p : PackageId} {code : DCode} {s : State}
    (hL : ∀ p ∈ [StatePart.od, .stored, .counters, .mgmt, .links, .intx, .fnCfg, .faultq, .int, .capture, .fnOther, .ctxs, .cmds, .engines, .lookups, .peers, .windows, .err, .power, .out], p ∈ L) (hok : SameBut L s0 s) :
    SameBut L s0 (endSession p code s) := by
  unfold endSession
  repeat' first
    | with_reducible assumption
    | with_reducible exact .inl rfl
    | exact .inr (hL _ (by decide))
    | (extract_lets +onlyGivenNames x
       first
       | (refine sameStep (L := L) (s0 := s0) (x := x) (fun hx => ?_) ?_; clear_value x; rotate_left; subst x)
       | subst x)
    | with_reducible refine SameBut.ite ?_ ?_
    | with_reducible refine modPeer_frame (parts_sub (by decide) hL) ?_
    | with_reducible refine endOps_frame (parts_sub (by decide) hL) ?_
    | intro _ _ _
    | intro _ _
    | intro _
    | split
    | (simp only [same_lit]; with_reducible refine SameLit.of ?_ ?_ ?_ ?_ ?_ ?_ ?_ ?_ ?_ ?_ ?_ ?_ ?_ ?_ ?_ ?_ ?_ ?_ ?_ ?_ ?_ ?_ ?_ ?_ ?_ ?_ ?_ ?_ ?_ ?_ ?_ ?_ ?_ ?_ ?_ ?_ ?_ ?_ ?_ ?_)
    | exact .inl rfl
    | dsimp only
    | dsimp only [id]

theorem openFrame_frame {L : List StatePart} {s0 : State} {h : FrameHdr} {sequenced : Bool} {s : State}
    (hL : ∀ p ∈ [StatePart.counters, .int, .peers], p ∈ L) (hok : SameBut L s0 s) :
    SameBut L s0 (openFrame h sequenced s).1 := by
  unfold openFrame
  repeat' first
    | with_reducible assumption
    | with_reducible exact .inl rfl
    | exact .inr (hL _ (by decide))
    | (extract_lets +onlyGivenNames x
       first
       | (refine sameStep (L := L) (s0 := s0) (x := x) (fun hx => ?_) ?_; clear_value x; rotate_left; subst x)
       | subst x)
    | with_reducible refine SameBut.ite ?_ ?_
    | with_reducible refine countPackage_frame (parts_sub (by decide) hL) ?_
    | with_reducible refine modPeer_frame (parts_sub (by decide) hL) ?_
    | with_reducible refine SameBut.ofPair ?_ (by with_reducible assumption)
    | intro _ _ _
    | intro _ _
    | intro _
    | split
    | (simp only [same_lit]; with_reducible refine SameLit.of ?_ ?_ ?_ ?_ ?_ ?_ ?_ ?_ ?_ ?_ ?_ ?_ ?_ ?_ ?_ ?_ ?_ ?_ ?_ ?_ ?_ ?_ ?_ ?_ ?_ ?_ ?_ ?_ ?_ ?_ ?_ ?_ ?_ ?_ ?_ ?_ ?_ ?_ ?_ ?_)
    | exact .inl rfl
    | dsimp only
    | dsimp only [id]

theorem takeFrame_frame {L : List StatePart} {s0 : State} {h : FrameHdr} {q : Bool} {s : State}
    (hL : ∀ p ∈ [StatePart.counters, .int, .peers, .out], p ∈ L) (hok : SameBut L s0 s) :
    (∀ t, (takeFrame h q s).1 = some t → SameBut L s0 t) ∧ SameBut L s0 (takeFrame h q s).2 := by
  have ho : SameBut L s0 (openFrame h q s).1 := openFrame_frame (parts_sub (by decide) hL) hok
  unfold takeFrame
  split
  · exact ⟨fun t e => (Option.some.inj e) ▸ hok, hok⟩
  · split
    · rename_i e
      rw [e] at ho
      exact ⟨by intro t e; simp at e, ho⟩
    · rename_i u x e
      rw [e] at ho
      split
      · exact ⟨by intro t e; simp at e, countPackage_frame (parts_sub (by decide) hL) ho⟩
      · have hr : SameBut L s0 (takeAck h.src h.ackSeq
            (if q then modSession h.src (fun y => { y with expect := y.expect + 1 }) u else u)) := by
          repeat' first
            | with_reducible assumption
            | with_reducible refine takeAck_frame (parts_sub (by decide) hL) ?_
            | with_reducible refine modSession_frame (parts_sub (by decide) hL) ?_
            | split
        exact ⟨fun t e => (Option.some.inj e) ▸ hr, hr⟩

theorem takeFrame_some_frame {L : List StatePart} {s0 : State} {h : FrameHdr} {q : Bool} {s t u : State}
    (hL : ∀ p ∈ [StatePart.counters, .int, .peers, .out], p ∈ L) (hok : SameBut L s0 s) (e : takeFrame h q s = (some t, u)) :
    SameBut L s0 t := (takeFrame_frame hL hok).1 t (by rw [e])

theorem takeFrame_none_frame {L : List StatePart} {s0 : State} {h : FrameHdr} {q : Bool} {s u : State}
    {o : Option State} (hL : ∀ p ∈ [StatePart.counters, .int, .peers, .out], p ∈ L) (hok : SameBut L s0 s)
    (e : takeFrame h q s = (o, u)) : SameBut L s0 u := by
  have := (takeFrame_frame (h := h) (q := q) hL hok).2
  rwa [e] at this

theorem withFrame_frame {L : List StatePart} {s0 : State} {h : FrameHdr} {act : State → State} {s : State}
    (hL : ∀ p ∈ [StatePart.counters, .int, .peers, .out], p ∈ L) (h_act : ∀ t, SameBut L s0 t → SameBut L s0 (act t)) (hok : SameBut L s0 s) :
    SameBut L s0 (withFrame h act s) := by
  unfold withFrame
  repeat' first
    | with_reducible assumption
    | with_reducible exact .inl rfl
    | exact .inr (hL _ (by decide))
    | (extract_lets +onlyGivenNames x
       first
       | (refine sameStep (L := L) (s0 := s0) (x := x) (fun hx => ?_) ?_; clear_value x; rotate_left; subst x)
       | subst x)
    | with_reducible apply h_act
    | with_reducible refine takeFrame_frame (parts_sub (by decide) hL) ?_
    | with_reducible refine takeFrame_some_frame (parts_sub (by decide) hL) ?_ (by with_reducible assumption)
    | with_reducible refine takeFrame_none_frame (parts_sub (by decide) hL) ?_ (by with_reducible assumption)
    | with_reducible refine SameBut.ofPair ?_ (by with_reducible assumption)
    | intro _ _ _
    | intro _ _
    | intro _
    | split
    | (simp only [same_lit]; with_reducible refine SameLit.of ?_ ?_ ?_ ?_ ?_ ?_ ?_ ?_ ?_ ?_ ?_ ?_ ?_ ?_ ?_ ?_ ?_ ?_ ?_ ?_ ?_ ?_ ?_ ?_ ?_ ?_ ?_ ?_ ?_ ?_ ?_ ?_ ?_ ?_ ?_ ?_ ?_ ?_ ?_ ?_)
    | exact .inl rfl
    | dsimp only
    | dsimp only [id]

theorem linkAck_frame {L : List StatePart} {s0 : State} {h : FrameHdr} {s : State}
    (hL : ∀ p ∈ [StatePart.counters, .int, .peers, .out], p ∈ L) (hok : SameBut L s0 s) :
    SameBut L s0 (linkAck h s) := by
  unfold linkAck
  repeat' first
    | with_reducible assumption
    | with_reducible exact .inl rfl
    | exact .inr (hL _ (by decide))
    | (extract_lets +onlyGivenNames x
       first
       | (refine sameStep (L := L) (s0 := s0) (x := x) (fun hx => ?_) ?_; clear_value x; rotate_left; subst x)
       | (refine sameStep (L := L) (s0 := s0) (x := x.1) (fun hx => ?_) ?_; clear_value x; rotate_left; subst x)
       | subst x)
    | with_reducible refine countPackage_frame (parts_sub (by decide) hL) ?_
    | with_reducible refine openFrame_frame (parts_sub (by decide) hL) ?_
    | with_reducible refine takeFrame_frame (parts_sub (by decide) hL) ?_
    | with_reducible refine modSession_frame (parts_sub (by decide) hL) ?_
    | with_reducible refine takeFrame_some_frame (parts_sub (by decide) hL) ?_ (by with_reducible assumption)
    | with_reducible refine takeFrame_none_frame (parts_sub (by decide) hL) ?_ (by with_reducible assumption)
    | with_reducible refine SameBut.ofPair ?_ (by with_reducible assumption)
    | intro _ _ _
    | intro _ _
    | intro _
    | split
    | (simp only [same_lit]; with_reducible refine SameLit.of ?_ ?_ ?_ ?_ ?_ ?_ ?_ ?_ ?_ ?_ ?_ ?_ ?_ ?_ ?_ ?_ ?_ ?_ ?_ ?_ ?_ ?_ ?_ ?_ ?_ ?_ ?_ ?_ ?_ ?_ ?_ ?_ ?_ ?_ ?_ ?_ ?_ ?_ ?_ ?_)
    | exact .inl rfl
    | dsimp only
    | dsimp only [id]

theorem execLinkAck_frame {h : FrameHdr} {s : State} :
    OutBut [StatePart.counters, .int, .peers, .out] s (execLinkAck h s) := by
  unfold execLinkAck
  refine OutBut.of (fun L s0 hL hok => ?_)
  repeat' first
    | with_reducible assumption
    | with_reducible refine linkAck_frame (parts_sub (by decide) hL) ?_
    | intro _ _ _
    | intro _ _
    | intro _
    | dsimp only
    | dsimp only [id]

theorem ackTimer_frame {L : List StatePart} {s0 : State} {p : PackageId} {s : State}
    (hL : ∀ p ∈ [StatePart.peers, .out], p ∈ L) (hok : SameBut L s0 s) :
    SameBut L s0 (ackTimer p s) := by
  unfold ackTimer
  repeat' first
    | with_reducible assumption
    | with_reducible exact .inl rfl
    | exact .inr (hL _ (by decide))
    | (extract_lets +onlyGivenNames x
       first
       | (refine sameStep (L := L) (s0 := s0) (x := x) (fun hx => ?_) ?_; clear_value x; rotate_left; subst x)
       | subst x)
    | with_reducible refine SameBut.ite ?_ ?_
    | with_reducible refine rawFrame_frame (parts_sub (by decide) hL) ?_
    | with_reducible refine modSession_frame (parts_sub (by decide) hL) ?_
    | with_reducible refine SameBut.ofPair ?_ (by with_reducible assumption)
    | intro _ _ _
    | intro _ _
    | intro _
    | split
    | (simp only [same_lit]; with_reducible refine SameLit.of ?_ ?_ ?_ ?_ ?_ ?_ ?_ ?_ ?_ ?_ ?_ ?_ ?_ ?_ ?_ ?_ ?_ ?_ ?_ ?_ ?_ ?_ ?_ ?_ ?_ ?_ ?_ ?_ ?_ ?_ ?_ ?_ ?_ ?_ ?_ ?_ ?_ ?_ ?_ ?_)
    | exact .inl rfl
    | dsimp only
    | dsimp only [id]

theorem execLinkAckTimer_frame {p : PackageId} {s : State} :
    OutBut [StatePart.peers, .out] s (execLinkAckTimer p s) := by
  unfold execLinkAckTimer
  refine OutBut.of (fun L s0 hL hok => ?_)
  repeat' first
    | with_reducible assumption
    | with_reducible refine ackTimer_frame (parts_sub (by decide) hL) ?_
    | intro _ _ _
    | intro _ _
    | intro _
    | dsimp only
    | dsimp only [id]

theorem retransmit_frame {L : List StatePart} {s0 : State} {p : PackageId} {s : State}
    (hL : ∀ p ∈ [StatePart.counters, .int, .peers, .out], p ∈ L) (hok : SameBut L s0 s) :
    SameBut L s0 (retransmit p s) := by
  unfold retransmit
  repeat' first
    | with_reducible assumption
    | with_reducible exact .inl rfl
    | exact .inr (hL _ (by decide))
    | (extract_lets +onlyGivenNames x
       first
       | (refine sameStep (L := L) (s0 := s0) (x := x) (fun hx => ?_) ?_; clear_value x; rotate_left; subst x)
       | subst x)
    | with_reducible refine SameBut.ite ?_ ?_
    | with_reducible refine flushFrames_frame (parts_sub (by decide) hL) ?_
    | with_reducible refine foldState_frame (fun _ _ _ => ?_) ?_
    | with_reducible refine countPackage_frame (parts_sub (by decide) hL) ?_
    | with_reducible refine rawFrame_frame (parts_sub (by decide) hL) ?_
    | with_reducible refine modSession_frame (parts_sub (by decide) hL) ?_
    | with_reducible refine SameBut.ofPair ?_ (by with_reducible assumption)
    | intro _ _ _
    | intro _ _
    | intro _
    | split
    | (simp only [same_lit]; with_reducible refine SameLit.of ?_ ?_ ?_ ?_ ?_ ?_ ?_ ?_ ?_ ?_ ?_ ?_ ?_ ?_ ?_ ?_ ?_ ?_ ?_ ?_ ?_ ?_ ?_ ?_ ?_ ?_ ?_ ?_ ?_ ?_ ?_ ?_ ?_ ?_ ?_ ?_ ?_ ?_ ?_ ?_)
    | exact .inl rfl
    | dsimp only
    | dsimp only [id]

theorem execPaldarRetryTimeout_frame {p : PackageId} {s : State} :
    OutBut [StatePart.counters, .int, .peers, .out] s (execPaldarRetryTimeout p s) := by
  unfold execPaldarRetryTimeout
  refine OutBut.of (fun L s0 hL hok => ?_)
  repeat' first
    | with_reducible assumption
    | with_reducible exact .inl rfl
    | exact .inr (hL _ (by decide))
    | (extract_lets +onlyGivenNames x
       first
       | (refine sameStep (L := L) (s0 := s0) (x := x) (fun hx => ?_) ?_; clear_value x; rotate_left; subst x)
       | subst x)
    | with_reducible refine SameBut.ite ?_ ?_
    | with_reducible refine retransmit_frame (parts_sub (by decide) hL) ?_
    | with_reducible refine SameBut.ofPair ?_ (by with_reducible assumption)
    | intro _ _ _
    | intro _ _
    | intro _
    | split
    | (simp only [same_lit]; with_reducible refine SameLit.of ?_ ?_ ?_ ?_ ?_ ?_ ?_ ?_ ?_ ?_ ?_ ?_ ?_ ?_ ?_ ?_ ?_ ?_ ?_ ?_ ?_ ?_ ?_ ?_ ?_ ?_ ?_ ?_ ?_ ?_ ?_ ?_ ?_ ?_ ?_ ?_ ?_ ?_ ?_ ?_)
    | exact .inl rfl
    | dsimp only
    | dsimp only [id]

theorem goDown_frame {L : List StatePart} {s0 : State} {p : PackageId} {s : State}
    (hL : ∀ p ∈ [StatePart.od, .stored, .counters, .mgmt, .links, .intx, .fnCfg, .faultq, .int, .capture, .fnOther, .ctxs, .cmds, .engines, .lookups, .peers, .windows, .err, .power, .out], p ∈ L) (hok : SameBut L s0 s) :
    SameBut L s0 (goDown p s) := by
  unfold goDown
  repeat' first
    | with_reducible assumption
    | with_reducible exact .inl rfl
    | exact .inr (hL _ (by decide))
    | (extract_lets +onlyGivenNames x
       first
       | (refine sameStep (L := L) (s0 := s0) (x := x) (fun hx => ?_) ?_; clear_value x; rotate_left; subst x)
       | subst x)
    | with_reducible refine endSession_frame (parts_sub (by decide) hL) ?_
    | with_reducible refine countPackage_frame (parts_sub (by decide) hL) ?_
    | with_reducible refine modPeer_frame (parts_sub (by decide) hL) ?_
    | intro _ _ _
    | intro _ _
    | intro _
    | (simp only [same_lit]; with_reducible refine SameLit.of ?_ ?_ ?_ ?_ ?_ ?_ ?_ ?_ ?_ ?_ ?_ ?_ ?_ ?_ ?_ ?_ ?_ ?_ ?_ ?_ ?_ ?_ ?_ ?_ ?_ ?_ ?_ ?_ ?_ ?_ ?_ ?_ ?_ ?_ ?_ ?_ ?_ ?_ ?_ ?_)
    | exact .inl rfl
    | dsimp only
    | dsimp only [id]

theorem peerTimeout_frame {L : List StatePart} {s0 : State} {p : PackageId} {s : State}
    (hL : ∀ p ∈ [StatePart.od, .stored, .counters, .mgmt, .links, .intx, .fnCfg, .faultq, .int, .capture, .fnOther, .ctxs, .cmds, .engines, .lookups, .peers, .windows, .err, .power, .out], p ∈ L) (hok : SameBut L s0 s) :
    SameBut L s0 (peerTimeout p s) := by
  unfold peerTimeout
  repeat' first
    | with_reducible assumption
    | with_reducible exact .inl rfl
    | exact .inr (hL _ (by decide))
    | (extract_lets +onlyGivenNames x
       first
       | (refine sameStep (L := L) (s0 := s0) (x := x) (fun hx => ?_) ?_; clear_value x; rotate_left; subst x)
       | subst x)
    | with_reducible refine SameBut.ite ?_ ?_
    | with_reducible refine goDown_frame (parts_sub (by decide) hL) ?_
    | with_reducible refine retransmit_frame (parts_sub (by decide) hL) ?_
    | with_reducible refine modPeer_frame (parts_sub (by decide) hL) ?_
    | with_reducible refine SameBut.ofPair ?_ (by with_reducible assumption)
    | intro _ _ _
    | intro _ _
    | intro _
    | split
    | (simp only [same_lit]; with_reducible refine SameLit.of ?_ ?_ ?_ ?_ ?_ ?_ ?_ ?_ ?_ ?_ ?_ ?_ ?_ ?_ ?_ ?_ ?_ ?_ ?_ ?_ ?_ ?_ ?_ ?_ ?_ ?_ ?_ ?_ ?_ ?_ ?_ ?_ ?_ ?_ ?_ ?_ ?_ ?_ ?_ ?_)
    | exact .inl rfl
    | dsimp only
    | dsimp only [id]

theorem execPeerTimeout_frame {p : PackageId} {s : State} :
    OutBut [StatePart.od, .stored, .counters, .mgmt, .links, .intx, .fnCfg, .faultq, .int, .capture, .fnOther, .ctxs, .cmds, .engines, .lookups, .peers, .windows, .err, .power, .out] s (execPeerTimeout p s) := by
  unfold execPeerTimeout
  refine OutBut.of (fun L s0 hL hok => ?_)
  repeat' first
    | with_reducible assumption
    | with_reducible refine peerTimeout_frame (parts_sub (by decide) hL) ?_
    | intro _ _ _
    | intro _ _
    | intro _
    | dsimp only
    | dsimp only [id]

theorem drawNonce_frame {L : List StatePart} {s0 : State} {s : State}
    (hL : ∀ p ∈ [StatePart.sec, .draws], p ∈ L) (hok : SameBut L s0 s) :
    SameBut L s0 (drawNonce s).1 := by
  unfold drawNonce
  repeat' first
    | with_reducible assumption
    | with_reducible exact .inl rfl
    | exact .inr (hL _ (by decide))
    | (extract_lets +onlyGivenNames x
       first
       | (refine sameStep (L := L) (s0 := s0) (x := x) (fun hx => ?_) ?_; clear_value x; rotate_left; subst x)
       | subst x)
    | with_reducible refine draw_frame (parts_sub (by decide) hL) ?_
    | intro _ _ _
    | intro _ _
    | intro _
    | (simp only [same_lit]; with_reducible refine SameLit.of ?_ ?_ ?_ ?_ ?_ ?_ ?_ ?_ ?_ ?_ ?_ ?_ ?_ ?_ ?_ ?_ ?_ ?_ ?_ ?_ ?_ ?_ ?_ ?_ ?_ ?_ ?_ ?_ ?_ ?_ ?_ ?_ ?_ ?_ ?_ ?_ ?_ ?_ ?_ ?_)
    | exact .inl rfl
    | dsimp only
    | dsimp only [id]

theorem sendHello_frame {L : List StatePart} {s0 : State} {p : PackageId} {type : Nat} {nonce : Bytes} {s : State}
    (hL : ∀ p ∈ [StatePart.out], p ∈ L) (hok : SameBut L s0 s) :
    SameBut L s0 (sendHello p type nonce s) := by
  unfold sendHello
  repeat' first
    | with_reducible assumption
    | with_reducible exact .inl rfl
    | exact .inr (hL _ (by decide))
    | (extract_lets +onlyGivenNames x
       first
       | (refine sameStep (L := L) (s0 := s0) (x := x) (fun hx => ?_) ?_; clear_value x; rotate_left; subst x)
       | subst x)
    | with_reducible refine emit_frame (parts_sub (by decide) hL) ?_
    | with_reducible refine SameBut.ofPair ?_ (by with_reducible assumption)
    | intro _ _ _
    | intro _ _
    | intro _
    | split
    | (simp only [same_lit]; with_reducible refine SameLit.of ?_ ?_ ?_ ?_ ?_ ?_ ?_ ?_ ?_ ?_ ?_ ?_ ?_ ?_ ?_ ?_ ?_ ?_ ?_ ?_ ?_ ?_ ?_ ?_ ?_ ?_ ?_ ?_ ?_ ?_ ?_ ?_ ?_ ?_ ?_ ?_ ?_ ?_ ?_ ?_)
    | exact .inl rfl
    | dsimp only
    | dsimp only [id]

theorem helloTurn_frame {L : List StatePart} {s0 : State} {p : PackageId} {s : State}
    (hL : ∀ p ∈ [StatePart.peers, .sec, .draws, .out], p ∈ L) (hok : SameBut L s0 s) :
    SameBut L s0 (helloTurn p s) := by
  unfold helloTurn
  repeat' first
    | with_reducible assumption
    | with_reducible exact .inl rfl
    | exact .inr (hL _ (by decide))
    | (extract_lets +onlyGivenNames x
       first
       | (refine sameStep (L := L) (s0 := s0) (x := x) (fun hx => ?_) ?_; clear_value x; rotate_left; subst x)
       | subst x)
    | with_reducible refine SameBut.ite ?_ ?_
    | with_reducible refine drawNonce_frame (parts_sub (by decide) hL) ?_
    | with_reducible refine sendHello_frame (parts_sub (by decide) hL) ?_
    | with_reducible refine modPeer_frame (parts_sub (by decide) hL) ?_
    | with_reducible refine SameBut.ofPair ?_ (by with_reducible assumption)
    | intro _ _ _
    | intro _ _
    | intro _
    | split
    | (simp only [same_lit]; with_reducible refine SameLit.of ?_ ?_ ?_ ?_ ?_ ?_ ?_ ?_ ?_ ?_ ?_ ?_ ?_ ?_ ?_ ?_ ?_ ?_ ?_ ?_ ?_ ?_ ?_ ?_ ?_ ?_ ?_ ?_ ?_ ?_ ?_ ?_ ?_ ?_ ?_ ?_ ?_ ?_ ?_ ?_)
    | exact .inl rfl
    | dsimp only
    | dsimp only [id]

theorem execHelloTimer_frame {p : PackageId} {s : State} :
    OutBut [StatePart.peers, .sec, .draws, .out] s (execHelloTimer p s) := by
  unfold execHelloTimer
  refine OutBut.of (fun L s0 hL hok => ?_)
  repeat' first
    | with_reducible assumption
    | with_reducible refine helloTurn_frame (parts_sub (by decide) hL) ?_
    | intro _ _ _
    | intro _ _
    | intro _
    | dsimp only
    | dsimp only [id]

theorem execPeerDownTimer_frame {p : PackageId} {s : State} :
    OutBut [StatePart.peers] s (execPeerDownTimer p s) := by
  unfold execPeerDownTimer
  refine OutBut.of (fun L s0 hL hok => ?_)
  repeat' first
    | with_reducible assumption
    | with_reducible exact .inl rfl
    | exact .inr (hL _ (by decide))
    | (extract_lets +onlyGivenNames x
       first
       | (refine sameStep (L := L) (s0 := s0) (x := x) (fun hx => ?_) ?_; clear_value x; rotate_left; subst x)
       | subst x)
    | with_reducible refine SameBut.ite ?_ ?_
    | with_reducible refine modPeer_frame (parts_sub (by decide) hL) ?_
    | with_reducible refine SameBut.ofPair ?_ (by with_reducible assumption)
    | intro _ _ _
    | intro _ _
    | intro _
    | split
    | (simp only [same_lit]; with_reducible refine SameLit.of ?_ ?_ ?_ ?_ ?_ ?_ ?_ ?_ ?_ ?_ ?_ ?_ ?_ ?_ ?_ ?_ ?_ ?_ ?_ ?_ ?_ ?_ ?_ ?_ ?_ ?_ ?_ ?_ ?_ ?_ ?_ ?_ ?_ ?_ ?_ ?_ ?_ ?_ ?_ ?_)
    | exact .inl rfl
    | dsimp only
    | dsimp only [id]

theorem goUp_frame {L : List StatePart} {s0 : State} {p : PackageId} {bootId : U64} {mine theirs : Bytes} {s : State}
    (hL : ∀ p ∈ [StatePart.peers], p ∈ L) (hok : SameBut L s0 s) :
    SameBut L s0 (goUp p bootId mine theirs s) := by
  unfold goUp
  repeat' first
    | with_reducible assumption
    | with_reducible exact .inl rfl
    | exact .inr (hL _ (by decide))
    | (extract_lets +onlyGivenNames x
       first
       | (refine sameStep (L := L) (s0 := s0) (x := x) (fun hx => ?_) ?_; clear_value x; rotate_left; subst x)
       | subst x)
    | with_reducible refine modPeer_frame (parts_sub (by decide) hL) ?_
    | intro _ _ _
    | intro _ _
    | intro _
    | (simp only [same_lit]; with_reducible refine SameLit.of ?_ ?_ ?_ ?_ ?_ ?_ ?_ ?_ ?_ ?_ ?_ ?_ ?_ ?_ ?_ ?_ ?_ ?_ ?_ ?_ ?_ ?_ ?_ ?_ ?_ ?_ ?_ ?_ ?_ ?_ ?_ ?_ ?_ ?_ ?_ ?_ ?_ ?_ ?_ ?_)
    | exact .inl rfl
    | dsimp only
    | dsimp only [id]

theorem helloEnds_frame {L : List StatePart} {s0 : State} {p : PackageId} {s : State}
    (hL : ∀ p ∈ [StatePart.od, .stored, .counters, .mgmt, .links, .intx, .fnCfg, .faultq, .int, .capture, .fnOther, .ctxs, .cmds, .engines, .lookups, .peers, .windows, .err, .power, .out], p ∈ L) (hok : SameBut L s0 s) :
    SameBut L s0 (helloEnds p s) := by
  unfold helloEnds
  repeat' first
    | with_reducible assumption
    | with_reducible exact .inl rfl
    | exact .inr (hL _ (by decide))
    | (extract_lets +onlyGivenNames x
       first
       | (refine sameStep (L := L) (s0 := s0) (x := x) (fun hx => ?_) ?_; clear_value x; rotate_left; subst x)
       | subst x)
    | with_reducible refine SameBut.ite ?_ ?_
    | with_reducible refine endSession_frame (parts_sub (by decide) hL) ?_
    | with_reducible refine modPeer_frame (parts_sub (by decide) hL) ?_
    | intro _ _ _
    | intro _ _
    | intro _
    | split
    | (simp only [same_lit]; with_reducible refine SameLit.of ?_ ?_ ?_ ?_ ?_ ?_ ?_ ?_ ?_ ?_ ?_ ?_ ?_ ?_ ?_ ?_ ?_ ?_ ?_ ?_ ?_ ?_ ?_ ?_ ?_ ?_ ?_ ?_ ?_ ?_ ?_ ?_ ?_ ?_ ?_ ?_ ?_ ?_ ?_ ?_)
    | exact .inl rfl
    | dsimp only
    | dsimp only [id]

theorem helloArrives_frame {L : List StatePart} {s0 : State} {m : HelloMsg} {s : State}
    (hL : ∀ p ∈ [StatePart.od, .stored, .counters, .mgmt, .links, .intx, .fnCfg, .faultq, .int, .capture, .fnOther, .ctxs, .cmds, .engines, .lookups, .peers, .windows, .err, .sec, .power, .draws, .out], p ∈ L) (hok : SameBut L s0 s) :
    SameBut L s0 (helloArrives m s) := by
  unfold helloArrives
  repeat' first
    | with_reducible assumption
    | with_reducible exact .inl rfl
    | exact .inr (hL _ (by decide))
    | (extract_lets +onlyGivenNames x
       first
       | (refine sameStep (L := L) (s0 := s0) (x := x) (fun hx => ?_) ?_; clear_value x; rotate_left; subst x)
       | subst x)
    | with_reducible refine SameBut.ite ?_ ?_
    | with_reducible refine countPackage_frame (parts_sub (by decide) hL) ?_
    | with_reducible refine helloEnds_frame (parts_sub (by decide) hL) ?_
    | with_reducible refine drawNonce_frame (parts_sub (by decide) hL) ?_
    | with_reducible refine sendHello_frame (parts_sub (by decide) hL) ?_
    | with_reducible refine goUp_frame (parts_sub (by decide) hL) ?_
    | with_reducible refine SameBut.ofPair ?_ (by with_reducible assumption)
    | intro _ _ _
    | intro _ _
    | intro _
    | split
    | (simp only [same_lit]; with_reducible refine SameLit.of ?_ ?_ ?_ ?_ ?_ ?_ ?_ ?_ ?_ ?_ ?_ ?_ ?_ ?_ ?_ ?_ ?_ ?_ ?_ ?_ ?_ ?_ ?_ ?_ ?_ ?_ ?_ ?_ ?_ ?_ ?_ ?_ ?_ ?_ ?_ ?_ ?_ ?_ ?_ ?_)
    | exact .inl rfl
    | dsimp only
    | dsimp only [id]

theorem execHello_frame {m : HelloMsg} {s : State} :
    OutBut [StatePart.od, .stored, .counters, .mgmt, .links, .intx, .fnCfg, .faultq, .int, .capture, .fnOther, .ctxs, .cmds, .engines, .lookups, .peers, .windows, .err, .sec, .power, .draws, .out] s (execHello m s) := by
  unfold execHello
  refine OutBut.of (fun L s0 hL hok => ?_)
  repeat' first
    | with_reducible assumption
    | with_reducible refine helloArrives_frame (parts_sub (by decide) hL) ?_
    | intro _ _ _
    | intro _ _
    | intro _
    | dsimp only
    | dsimp only [id]

theorem execHelloAck_frame {m : HelloMsg} {s : State} :
    OutBut [StatePart.counters, .int, .peers] s (execHelloAck m s) := by
  unfold execHelloAck
  refine OutBut.of (fun L s0 hL hok => ?_)
  repeat' first
    | with_reducible assumption
    | with_reducible exact .inl rfl
    | exact .inr (hL _ (by decide))
    | (extract_lets +onlyGivenNames x
       first
       | (refine sameStep (L := L) (s0 := s0) (x := x) (fun hx => ?_) ?_; clear_value x; rotate_left; subst x)
       | subst x)
    | with_reducible refine SameBut.ite ?_ ?_
    | with_reducible refine countPackage_frame (parts_sub (by decide) hL) ?_
    | with_reducible refine goUp_frame (parts_sub (by decide) hL) ?_
    | with_reducible refine SameBut.ofPair ?_ (by with_reducible assumption)
    | intro _ _ _
    | intro _ _
    | intro _
    | split
    | (simp only [same_lit]; with_reducible refine SameLit.of ?_ ?_ ?_ ?_ ?_ ?_ ?_ ?_ ?_ ?_ ?_ ?_ ?_ ?_ ?_ ?_ ?_ ?_ ?_ ?_ ?_ ?_ ?_ ?_ ?_ ?_ ?_ ?_ ?_ ?_ ?_ ?_ ?_ ?_ ?_ ?_ ?_ ?_ ?_ ?_)
    | exact .inl rfl
    | dsimp only
    | dsimp only [id]

theorem execReceiverPeerSilence_frame {p : PackageId} {s : State} :
    OutBut [StatePart.windows] s (execReceiverPeerSilence p s) := by
  unfold execReceiverPeerSilence
  refine OutBut.of (fun L s0 hL hok => ?_)
  repeat' first
    | with_reducible assumption
    | with_reducible exact .inl rfl
    | exact .inr (hL _ (by decide))
    | (extract_lets +onlyGivenNames x
       first
       | (refine sameStep (L := L) (s0 := s0) (x := x) (fun hx => ?_) ?_; clear_value x; rotate_left; subst x)
       | subst x)
    | with_reducible refine SameBut.ite ?_ ?_
    | with_reducible refine SameBut.ofPair ?_ (by with_reducible assumption)
    | intro _ _ _
    | intro _ _
    | intro _
    | split
    | (simp only [same_lit]; with_reducible refine SameLit.of ?_ ?_ ?_ ?_ ?_ ?_ ?_ ?_ ?_ ?_ ?_ ?_ ?_ ?_ ?_ ?_ ?_ ?_ ?_ ?_ ?_ ?_ ?_ ?_ ?_ ?_ ?_ ?_ ?_ ?_ ?_ ?_ ?_ ?_ ?_ ?_ ?_ ?_ ?_ ?_)
    | exact .inl rfl
    | dsimp only
    | dsimp only [id]

theorem linkChange_frame {L : List StatePart} {s0 : State} {e : Fin 12} {up : Bool} {s : State}
    (hL : ∀ p ∈ [StatePart.counters, .int, .peers, .out], p ∈ L) (hok : SameBut L s0 s) :
    SameBut L s0 (linkChange e up s) := by
  unfold linkChange
  repeat' first
    | with_reducible assumption
    | with_reducible exact .inl rfl
    | exact .inr (hL _ (by decide))
    | (extract_lets +onlyGivenNames x
       first
       | (refine sameStep (L := L) (s0 := s0) (x := x) (fun hx => ?_) ?_; clear_value x; rotate_left; subst x)
       | subst x)
    | with_reducible refine SameBut.ite ?_ ?_
    | with_reducible refine foldState_frame (fun _ _ _ => ?_) ?_
    | with_reducible refine modPeer_frame (parts_sub (by decide) hL) ?_
    | with_reducible refine flushFrames_frame (parts_sub (by decide) hL) ?_
    | with_reducible refine retransmit_frame (parts_sub (by decide) hL) ?_
    | intro _ _ _
    | intro _ _
    | intro _
    | split
    | (simp only [same_lit]; with_reducible refine SameLit.of ?_ ?_ ?_ ?_ ?_ ?_ ?_ ?_ ?_ ?_ ?_ ?_ ?_ ?_ ?_ ?_ ?_ ?_ ?_ ?_ ?_ ?_ ?_ ?_ ?_ ?_ ?_ ?_ ?_ ?_ ?_ ?_ ?_ ?_ ?_ ?_ ?_ ?_ ?_ ?_)
    | exact .inl rfl
    | dsimp only
    | dsimp only [id]

theorem execEthernetLinkChange_frame {e : Fin 12} {up : Bool} {s : State} :
    OutBut [StatePart.counters, .int, .peers, .out] s (execEthernetLinkChange e up s) := by
  unfold execEthernetLinkChange
  refine OutBut.of (fun L s0 hL hok => ?_)
  repeat' first
    | with_reducible assumption
    | with_reducible refine linkChange_frame (parts_sub (by decide) hL) ?_
    | intro _ _ _
    | intro _ _
    | intro _
    | dsimp only
    | dsimp only [id]

theorem writePeerEntry_frame {L : List StatePart} {s0 : State} {p : PackageId} {w : Nat} {s : State}
    (hL : ∀ p ∈ [StatePart.od, .stored, .counters, .mgmt, .links, .intx, .fnCfg, .faultq, .int, .capture, .fnOther, .ctxs, .cmds, .engines, .lookups, .peers, .windows, .err, .power, .out], p ∈ L) (hok : SameBut L s0 s) :
    SameBut L s0 (writePeerEntry p w s) := by
  unfold writePeerEntry
  repeat' first
    | with_reducible assumption
    | with_reducible exact .inl rfl
    | exact .inr (hL _ (by decide))
    | (extract_lets +onlyGivenNames x
       first
       | (refine sameStep (L := L) (s0 := s0) (x := x) (fun hx => ?_) ?_; clear_value x; rotate_left; subst x)
       | subst x)
    | with_reducible refine SameBut.ite ?_ ?_
    | with_reducible refine putObj_frame (parts_sub (by decide) hL) ?_
    | with_reducible refine endSession_frame (parts_sub (by decide) hL) ?_
    | intro _ _ _
    | intro _ _
    | intro _
    | split
    | (simp only [same_lit]; with_reducible refine SameLit.of ?_ ?_ ?_ ?_ ?_ ?_ ?_ ?_ ?_ ?_ ?_ ?_ ?_ ?_ ?_ ?_ ?_ ?_ ?_ ?_ ?_ ?_ ?_ ?_ ?_ ?_ ?_ ?_ ?_ ?_ ?_ ?_ ?_ ?_ ?_ ?_ ?_ ?_ ?_ ?_)
    | exact .inl rfl
    | dsimp only
    | dsimp only [id]

theorem execPeerEntryWrite_frame {rq : Requester} {p : PackageId} {v : U64} {s : State} :
    OutBut [StatePart.od, .stored, .counters, .mgmt, .links, .intx, .fnCfg, .faultq, .int, .capture, .fnOther, .ctxs, .cmds, .engines, .lookups, .peers, .windows, .err, .power, .out] s (execPeerEntryWrite rq p v s) := by
  unfold execPeerEntryWrite
  refine OutBut.of (fun L s0 hL hok => ?_)
  repeat' first
    | with_reducible assumption
    | with_reducible refine requestWrite_frame (parts_sub (by decide) hL) ?_ ?_
    | with_reducible refine writePeerEntry_frame (parts_sub (by decide) hL) ?_
    | intro _ _ _
    | intro _ _
    | intro _
    | dsimp only
    | dsimp only [id]

theorem execCommitHistoryExpiry_frame {src : PackageId} {bootId : U64} {serial : U32} {tile : Nat} {s : State} :
    OutBut [StatePart.peers] s (execCommitHistoryExpiry src bootId serial tile s) := by
  unfold execCommitHistoryExpiry
  refine OutBut.of (fun L s0 hL hok => ?_)
  repeat' first
    | with_reducible assumption
    | with_reducible exact .inl rfl
    | exact .inr (hL _ (by decide))
    | (extract_lets +onlyGivenNames x
       first
       | (refine sameStep (L := L) (s0 := s0) (x := x) (fun hx => ?_) ?_; clear_value x; rotate_left; subst x)
       | subst x)
    | intro _ _ _
    | intro _ _
    | intro _
    | (simp only [same_lit]; with_reducible refine SameLit.of ?_ ?_ ?_ ?_ ?_ ?_ ?_ ?_ ?_ ?_ ?_ ?_ ?_ ?_ ?_ ?_ ?_ ?_ ?_ ?_ ?_ ?_ ?_ ?_ ?_ ?_ ?_ ?_ ?_ ?_ ?_ ?_ ?_ ?_ ?_ ?_ ?_ ?_ ?_ ?_)
    | exact .inl rfl
    | dsimp only
    | dsimp only [id]


/-! ### Machine/Incoming.lean -/

theorem reply_frame {L : List StatePart} {s0 : State} {h : FrameHdr} {type code : Nat} {need : Need} {last : Bool} {off : Nat} {b : Bytes} {s : State}
    (hL : ∀ p ∈ [StatePart.peers, .out], p ∈ L) (hok : SameBut L s0 s) :
    SameBut L s0 (reply h type code need last off b s) := by
  unfold reply
  repeat' first
    | with_reducible assumption
    | with_reducible refine sendFrame_frame (parts_sub (by decide) hL) ?_
    | intro _ _ _
    | intro _ _
    | intro _
    | dsimp only
    | dsimp only [id]

theorem replyOp_frame {L : List StatePart} {s0 : State} {o : RecvOp} {type : Nat} {last : Bool} {s : State}
    (hL : ∀ p ∈ [StatePart.peers, .out], p ∈ L) (hok : SameBut L s0 s) :
    SameBut L s0 (replyOp o type last s) := by
  unfold replyOp
  repeat' first
    | with_reducible assumption
    | with_reducible refine sendFrame_frame (parts_sub (by decide) hL) ?_
    | intro _ _ _
    | intro _ _
    | intro _
    | dsimp only
    | dsimp only [id]

theorem checkRuns_frame {L : List StatePart} {s0 : State} {w : WindowId} {need : Need} {r0 : List WRun} {r1 : Nat} {s : State}
    (hL : ∀ p ∈ [StatePart.counters, .int, .entries, .lookups, .coherence, .draws, .out], p ∈ L) (hok : SameBut L s0 s) :
    SameBut L s0 (checkRuns w need r0 r1 s).1 := by
  induction r0 generalizing r1 s with
  | nil =>
    unfold checkRuns
    repeat' first
      | with_reducible assumption
      | with_reducible exact .inl rfl
      | exact .inr (hL _ (by decide))
      | (extract_lets +onlyGivenNames x
         first
         | (refine sameStep (L := L) (s0 := s0) (x := x) (fun hx => ?_) ?_; clear_value x; rotate_left; subst x)
         | subst x)
      | with_reducible refine SameBut.ite ?_ ?_
      | with_reducible refine spanRuns_frame (parts_sub (by decide) hL) ?_
      | with_reducible refine draw_frame (parts_sub (by decide) hL) ?_
      | with_reducible refine countPackage_frame (parts_sub (by decide) hL) ?_
      | with_reducible refine SameBut.ofPair ?_ (by with_reducible assumption)
      | intro _ _ _
      | intro _ _
      | intro _
      | split
      | (simp only [same_lit]; with_reducible refine SameLit.of ?_ ?_ ?_ ?_ ?_ ?_ ?_ ?_ ?_ ?_ ?_ ?_ ?_ ?_ ?_ ?_ ?_ ?_ ?_ ?_ ?_ ?_ ?_ ?_ ?_ ?_ ?_ ?_ ?_ ?_ ?_ ?_ ?_ ?_ ?_ ?_ ?_ ?_ ?_ ?_)
      | exact .inl rfl
      | dsimp only
      | dsimp only [id]
  | cons x r0 ih =>
    unfold checkRuns
    repeat' first
      | with_reducible assumption
      | (extract_lets +onlyGivenNames x
         first
         | (refine sameStep (L := L) (s0 := s0) (x := x) (fun hx => ?_) ?_; clear_value x; rotate_left; subst x)
         | subst x)
      | with_reducible apply ih
      | with_reducible exact .inl rfl
      | exact .inr (hL _ (by decide))
      | with_reducible refine SameBut.ite ?_ ?_
      | with_reducible refine spanRuns_frame (parts_sub (by decide) hL) ?_
      | with_reducible refine draw_frame (parts_sub (by decide) hL) ?_
      | with_reducible refine countPackage_frame (parts_sub (by decide) hL) ?_
      | with_reducible refine SameBut.ofPair ?_ (by with_reducible assumption)
      | intro _ _ _
      | intro _ _
      | intro _
      | split
      | (simp only [same_lit]; with_reducible refine SameLit.of ?_ ?_ ?_ ?_ ?_ ?_ ?_ ?_ ?_ ?_ ?_ ?_ ?_ ?_ ?_ ?_ ?_ ?_ ?_ ?_ ?_ ?_ ?_ ?_ ?_ ?_ ?_ ?_ ?_ ?_ ?_ ?_ ?_ ?_ ?_ ?_ ?_ ?_ ?_ ?_)
      | exact .inl rfl
      | dsimp only
      | dsimp only [id]

theorem checkOp_frame {L : List StatePart} {s0 : State} {h : FrameHdr} {need : Need} {runs : List WRun} {s : State}
    (hL : ∀ p ∈ [StatePart.counters, .int, .entries, .lookups, .coherence, .draws, .out], p ∈ L) (hok : SameBut L s0 s) :
    SameBut L s0 (checkOp h need runs s).1 := by
  unfold checkOp
  repeat' first
    | with_reducible assumption
    | with_reducible exact .inl rfl
    | exact .inr (hL _ (by decide))
    | (extract_lets +onlyGivenNames x
       first
       | (refine sameStep (L := L) (s0 := s0) (x := x) (fun hx => ?_) ?_; clear_value x; rotate_left; subst x)
       | subst x)
    | with_reducible refine SameBut.ite ?_ ?_
    | with_reducible refine checkRuns_frame (parts_sub (by decide) hL) ?_
    | with_reducible refine SameBut.ofPair ?_ (by with_reducible assumption)
    | intro _ _ _
    | intro _ _
    | intro _
    | split
    | (simp only [same_lit]; with_reducible refine SameLit.of ?_ ?_ ?_ ?_ ?_ ?_ ?_ ?_ ?_ ?_ ?_ ?_ ?_ ?_ ?_ ?_ ?_ ?_ ?_ ?_ ?_ ?_ ?_ ?_ ?_ ?_ ?_ ?_ ?_ ?_ ?_ ?_ ?_ ?_ ?_ ?_ ?_ ?_ ?_ ?_)
    | exact .inl rfl
    | dsimp only
    | dsimp only [id]

theorem dropRecv_frame {L : List StatePart} {s0 : State} {h : FrameHdr} {need : Need} {s : State}
    (hL : ∀ p ∈ [StatePart.windows], p ∈ L) (hok : SameBut L s0 s) :
    SameBut L s0 (dropRecv h need s) := by
  unfold dropRecv
  repeat' first
    | with_reducible assumption
    | with_reducible exact .inl rfl
    | exact .inr (hL _ (by decide))
    | (extract_lets +onlyGivenNames x
       first
       | (refine sameStep (L := L) (s0 := s0) (x := x) (fun hx => ?_) ?_; clear_value x; rotate_left; subst x)
       | subst x)
    | intro _ _ _
    | intro _ _
    | intro _
    | (simp only [same_lit]; with_reducible refine SameLit.of ?_ ?_ ?_ ?_ ?_ ?_ ?_ ?_ ?_ ?_ ?_ ?_ ?_ ?_ ?_ ?_ ?_ ?_ ?_ ?_ ?_ ?_ ?_ ?_ ?_ ?_ ?_ ?_ ?_ ?_ ?_ ?_ ?_ ?_ ?_ ?_ ?_ ?_ ?_ ?_)
    | exact .inl rfl
    | dsimp only
    | dsimp only [id]

theorem addRecv_frame {L : List StatePart} {s0 : State} {o : RecvOp} {s : State}
    (hL : ∀ p ∈ [StatePart.windows], p ∈ L) (hok : SameBut L s0 s) :
    SameBut L s0 (addRecv o s) := by
  unfold addRecv
  repeat' first
    | with_reducible assumption
    | with_reducible exact .inl rfl
    | exact .inr (hL _ (by decide))
    | (extract_lets +onlyGivenNames x
       first
       | (refine sameStep (L := L) (s0 := s0) (x := x) (fun hx => ?_) ?_; clear_value x; rotate_left; subst x)
       | subst x)
    | intro _ _ _
    | intro _ _
    | intro _
    | (simp only [same_lit]; with_reducible refine SameLit.of ?_ ?_ ?_ ?_ ?_ ?_ ?_ ?_ ?_ ?_ ?_ ?_ ?_ ?_ ?_ ?_ ?_ ?_ ?_ ?_ ?_ ?_ ?_ ?_ ?_ ?_ ?_ ?_ ?_ ?_ ?_ ?_ ?_ ?_ ?_ ?_ ?_ ?_ ?_ ?_)
    | exact .inl rfl
    | dsimp only
    | dsimp only [id]

theorem modRecv_frame {L : List StatePart} {s0 : State} {o : RecvOp} {f : RecvOp → RecvOp} {s : State}
    (hL : ∀ p ∈ [StatePart.windows], p ∈ L) (hok : SameBut L s0 s) :
    SameBut L s0 (modRecv o f s) := by
  unfold modRecv
  repeat' first
    | with_reducible assumption
    | with_reducible exact .inl rfl
    | exact .inr (hL _ (by decide))
    | (extract_lets +onlyGivenNames x
       first
       | (refine sameStep (L := L) (s0 := s0) (x := x) (fun hx => ?_) ?_; clear_value x; rotate_left; subst x)
       | subst x)
    | with_reducible refine SameBut.ite ?_ ?_
    | intro _ _ _
    | intro _ _
    | intro _
    | split
    | (simp only [same_lit]; with_reducible refine SameLit.of ?_ ?_ ?_ ?_ ?_ ?_ ?_ ?_ ?_ ?_ ?_ ?_ ?_ ?_ ?_ ?_ ?_ ?_ ?_ ?_ ?_ ?_ ?_ ?_ ?_ ?_ ?_ ?_ ?_ ?_ ?_ ?_ ?_ ?_ ?_ ?_ ?_ ?_ ?_ ?_)
    | exact .inl rfl
    | dsimp only
    | dsimp only [id]

theorem endRecv_frame {L : List StatePart} {s0 : State} {o : RecvOp} {s : State}
    (hL : ∀ p ∈ [StatePart.windows], p ∈ L) (hok : SameBut L s0 s) :
    SameBut L s0 (endRecv o s) := by
  unfold endRecv
  repeat' first
    | with_reducible assumption
    | with_reducible exact .inl rfl
    | exact .inr (hL _ (by decide))
    | (extract_lets +onlyGivenNames x
       first
       | (refine sameStep (L := L) (s0 := s0) (x := x) (fun hx => ?_) ?_; clear_value x; rotate_left; subst x)
       | subst x)
    | intro _ _ _
    | intro _ _
    | intro _
    | (simp only [same_lit]; with_reducible refine SameLit.of ?_ ?_ ?_ ?_ ?_ ?_ ?_ ?_ ?_ ?_ ?_ ?_ ?_ ?_ ?_ ?_ ?_ ?_ ?_ ?_ ?_ ?_ ?_ ?_ ?_ ?_ ?_ ?_ ?_ ?_ ?_ ?_ ?_ ?_ ?_ ?_ ?_ ?_ ?_ ?_)
    | exact .inl rfl
    | dsimp only
    | dsimp only [id]

theorem sendReadData_frame {L : List StatePart} {s0 : State} {o : RecvOp} {s : State}
    (hL : ∀ p ∈ [StatePart.counters, .int, .peers, .out], p ∈ L) (hok : SameBut L s0 s) :
    SameBut L s0 (sendReadData o s) := by
  unfold sendReadData
  repeat' first
    | with_reducible assumption
    | with_reducible exact .inl rfl
    | exact .inr (hL _ (by decide))
    | (extract_lets +onlyGivenNames x
       first
       | (refine sameStep (L := L) (s0 := s0) (x := x) (fun hx => ?_) ?_; clear_value x; rotate_left; subst x)
       | (refine sameStep (L := L) (s0 := s0) (x := x.1) (fun hx => ?_) ?_; clear_value x; rotate_left; subst x)
       | subst x)
    | with_reducible refine SameBut.ite ?_ ?_
    | with_reducible refine foldState_frame (fun _ _ _ => ?_) ?_
    | with_reducible refine countPackage_frame (parts_sub (by decide) hL) ?_
    | with_reducible refine sendFrame_frame (parts_sub (by decide) hL) ?_
    | with_reducible refine SameBut.ofPair ?_ (by with_reducible assumption)
    | intro _ _ _
    | intro _ _
    | intro _
    | split
    | (simp only [same_lit]; with_reducible refine SameLit.of ?_ ?_ ?_ ?_ ?_ ?_ ?_ ?_ ?_ ?_ ?_ ?_ ?_ ?_ ?_ ?_ ?_ ?_ ?_ ?_ ?_ ?_ ?_ ?_ ?_ ?_ ?_ ?_ ?_ ?_ ?_ ?_ ?_ ?_ ?_ ?_ ?_ ?_ ?_ ?_)
    | exact .inl rfl
    | dsimp only
    | dsimp only [id]

theorem runReduction_frame {L : List StatePart} {s0 : State} {o : RecvOp} {s : State}
    (hL : ∀ p ∈ [StatePart.counters, .int, .ctxs, .slots, .memory, .pool, .out], p ∈ L) (hok : SameBut L s0 s) :
    SameBut L s0 (runReduction o s) := by
  unfold runReduction
  repeat' first
    | with_reducible assumption
    | with_reducible exact .inl rfl
    | exact .inr (hL _ (by decide))
    | (extract_lets +onlyGivenNames x
       first
       | (refine sameStep (L := L) (s0 := s0) (x := x) (fun hx => ?_) ?_; clear_value x; rotate_left; subst x)
       | subst x)
    | with_reducible refine foldState_frame (fun _ _ _ => ?_) ?_
    | with_reducible refine reduceFence_frame (parts_sub (by decide) hL) ?_
    | with_reducible refine poolReduce_frame (parts_sub (by decide) hL) ?_
    | with_reducible refine SameBut.ofPair ?_ (by with_reducible assumption)
    | intro _ _ _
    | intro _ _
    | intro _
    | split
    | (simp only [same_lit]; with_reducible refine SameLit.of ?_ ?_ ?_ ?_ ?_ ?_ ?_ ?_ ?_ ?_ ?_ ?_ ?_ ?_ ?_ ?_ ?_ ?_ ?_ ?_ ?_ ?_ ?_ ?_ ?_ ?_ ?_ ?_ ?_ ?_ ?_ ?_ ?_ ?_ ?_ ?_ ?_ ?_ ?_ ?_)
    | exact .inl rfl
    | dsimp only
    | dsimp only [id]

theorem commitOp_frame {L : List StatePart} {s0 : State} {o : RecvOp} {s : State}
    (hL : ∀ p ∈ [StatePart.peers, .windows, .out], p ∈ L) (hok : SameBut L s0 s) :
    SameBut L s0 (commitOp o s) := by
  unfold commitOp
  repeat' first
    | with_reducible assumption
    | with_reducible exact .inl rfl
    | exact .inr (hL _ (by decide))
    | (extract_lets +onlyGivenNames x
       first
       | (refine sameStep (L := L) (s0 := s0) (x := x) (fun hx => ?_) ?_; clear_value x; rotate_left; subst x)
       | subst x)
    | with_reducible refine replyOp_frame (parts_sub (by decide) hL) ?_
    | with_reducible refine endRecv_frame (parts_sub (by decide) hL) ?_
    | intro _ _ _
    | intro _ _
    | intro _
    | (simp only [same_lit]; with_reducible refine SameLit.of ?_ ?_ ?_ ?_ ?_ ?_ ?_ ?_ ?_ ?_ ?_ ?_ ?_ ?_ ?_ ?_ ?_ ?_ ?_ ?_ ?_ ?_ ?_ ?_ ?_ ?_ ?_ ?_ ?_ ?_ ?_ ?_ ?_ ?_ ?_ ?_ ?_ ?_ ?_ ?_)
    | exact .inl rfl
    | dsimp only
    | dsimp only [id]

theorem runWaits_frame {L : List StatePart} {s0 : State} {src : PackageId} {f : InFrame} {spans : List (Nat × Nat)} {write : Bool} {s : State}
    (hL : ∀ p ∈ [StatePart.counters, .int, .coherence, .out], p ∈ L) (hok : SameBut L s0 s) :
    SameBut L s0 (runWaits src f spans write s).1 := by
  unfold runWaits
  repeat' first
    | with_reducible assumption
    | (extract_lets +onlyGivenNames x
       first
       | (refine sameStep (L := L) (s0 := s0) (x := x) (fun hx => ?_) ?_; clear_value x; rotate_left; subst x)
       | (refine sameStep (L := L) (s0 := s0) (x := x.1) (fun hx => ?_) ?_; clear_value x; rotate_left; subst x)
       | subst x)
    | with_reducible refine SameBut.ite ?_ ?_
    | with_reducible refine foldState_frame (fun _ _ _ => ?_) ?_
    | with_reducible refine gateSnoops_frame (parts_sub (by decide) hL) ?_
    | intro _ _ _
    | intro _ _
    | intro _
    | split
    | dsimp only
    | dsimp only [id]

theorem runServe_frame {L : List StatePart} {s0 : State} {h : FrameHdr} {s : State}
    (hL : ∀ p ∈ [StatePart.counters, .int, .peers, .windows, .coherence, .out], p ∈ L) (hok : SameBut L s0 s) :
    SameBut L s0 (runServe h s).1 := by
  unfold runServe
  repeat' first
    | with_reducible assumption
    | with_reducible exact .inl rfl
    | exact .inr (hL _ (by decide))
    | (extract_lets +onlyGivenNames x
       first
       | (refine sameStep (L := L) (s0 := s0) (x := x) (fun hx => ?_) ?_; clear_value x; rotate_left; subst x)
       | (refine sameStep (L := L) (s0 := s0) (x := x.1) (fun hx => ?_) ?_; clear_value x; rotate_left; subst x)
       | subst x)
    | with_reducible refine SameBut.ite ?_ ?_
    | with_reducible refine runWaits_frame (parts_sub (by decide) hL) ?_
    | with_reducible refine endRecv_frame (parts_sub (by decide) hL) ?_
    | with_reducible refine sendReadData_frame (parts_sub (by decide) hL) ?_
    | with_reducible refine SameBut.ofPair ?_ (by with_reducible assumption)
    | intro _ _ _
    | intro _ _
    | intro _
    | split
    | (simp only [same_lit]; with_reducible refine SameLit.of ?_ ?_ ?_ ?_ ?_ ?_ ?_ ?_ ?_ ?_ ?_ ?_ ?_ ?_ ?_ ?_ ?_ ?_ ?_ ?_ ?_ ?_ ?_ ?_ ?_ ?_ ?_ ?_ ?_ ?_ ?_ ?_ ?_ ?_ ?_ ?_ ?_ ?_ ?_ ?_)
    | exact .inl rfl
    | dsimp only
    | dsimp only [id]

theorem decideOp_frame {L : List StatePart} {s0 : State} {h : FrameHdr} {need : Need} {runs : List WRun} {s : State}
    (hL : ∀ p ∈ [StatePart.counters, .int, .entries, .lookups, .peers, .windows, .coherence, .draws, .out], p ∈ L) (hok : SameBut L s0 s) :
    SameBut L s0 (decideOp h need runs s).1 := by
  unfold decideOp
  repeat' first
    | with_reducible assumption
    | with_reducible exact .inl rfl
    | exact .inr (hL _ (by decide))
    | (extract_lets +onlyGivenNames x
       first
       | (refine sameStep (L := L) (s0 := s0) (x := x) (fun hx => ?_) ?_; clear_value x; rotate_left; subst x)
       | subst x)
    | with_reducible refine SameBut.ite ?_ ?_
    | with_reducible refine checkOp_frame (parts_sub (by decide) hL) ?_
    | with_reducible refine reply_frame (parts_sub (by decide) hL) ?_
    | with_reducible refine countPackage_frame (parts_sub (by decide) hL) ?_
    | with_reducible refine dropRecv_frame (parts_sub (by decide) hL) ?_
    | with_reducible refine addRecv_frame (parts_sub (by decide) hL) ?_
    | with_reducible refine runServe_frame (parts_sub (by decide) hL) ?_
    | with_reducible refine SameBut.ofPair ?_ (by with_reducible assumption)
    | intro _ _ _
    | intro _ _
    | intro _
    | split
    | (simp only [same_lit]; with_reducible refine SameLit.of ?_ ?_ ?_ ?_ ?_ ?_ ?_ ?_ ?_ ?_ ?_ ?_ ?_ ?_ ?_ ?_ ?_ ?_ ?_ ?_ ?_ ?_ ?_ ?_ ?_ ?_ ?_ ?_ ?_ ?_ ?_ ?_ ?_ ?_ ?_ ?_ ?_ ?_ ?_ ?_)
    | exact .inl rfl
    | dsimp only
    | dsimp only [id]

theorem runCheck_frame {L : List StatePart} {s0 : State} {need : Need} {h : FrameHdr} {runs : List WRun} {s : State}
    (hL : ∀ p ∈ [StatePart.counters, .int, .entries, .lookups, .peers, .windows, .coherence, .draws, .out], p ∈ L) (hok : SameBut L s0 s) :
    SameBut L s0 (runCheck need h runs s).1 := by
  unfold runCheck
  repeat' first
    | with_reducible assumption
    | (extract_lets +onlyGivenNames x
       first
       | (refine sameStep (L := L) (s0 := s0) (x := x) (fun hx => ?_) ?_; clear_value x; rotate_left; subst x)
       | subst x)
    | with_reducible refine SameBut.ite ?_ ?_
    | with_reducible refine decideOp_frame (parts_sub (by decide) hL) ?_
    | with_reducible refine dropRecv_frame (parts_sub (by decide) hL) ?_
    | with_reducible refine addRecv_frame (parts_sub (by decide) hL) ?_
    | intro _ _ _
    | intro _ _
    | intro _
    | split
    | dsimp only
    | dsimp only [id]

theorem runCheckAtomic_frame {L : List StatePart} {s0 : State} {h : FrameHdr} {runs : List WRun} {s : State}
    (hL : ∀ p ∈ [StatePart.counters, .int, .entries, .lookups, .peers, .windows, .coherence, .draws, .out], p ∈ L) (hok : SameBut L s0 s) :
    SameBut L s0 (runCheckAtomic h runs s).1 := by
  unfold runCheckAtomic
  repeat' first
    | with_reducible assumption
    | with_reducible exact .inl rfl
    | exact .inr (hL _ (by decide))
    | (extract_lets +onlyGivenNames x
       first
       | (refine sameStep (L := L) (s0 := s0) (x := x) (fun hx => ?_) ?_; clear_value x; rotate_left; subst x)
       | subst x)
    | with_reducible refine SameBut.ite ?_ ?_
    | with_reducible refine reply_frame (parts_sub (by decide) hL) ?_
    | with_reducible refine runCheck_frame (parts_sub (by decide) hL) ?_
    | intro _ _ _
    | intro _ _
    | intro _
    | split
    | (simp only [same_lit]; with_reducible refine SameLit.of ?_ ?_ ?_ ?_ ?_ ?_ ?_ ?_ ?_ ?_ ?_ ?_ ?_ ?_ ?_ ?_ ?_ ?_ ?_ ?_ ?_ ?_ ?_ ?_ ?_ ?_ ?_ ?_ ?_ ?_ ?_ ?_ ?_ ?_ ?_ ?_ ?_ ?_ ?_ ?_)
    | exact .inl rfl
    | dsimp only
    | dsimp only [id]

theorem takeWrite_frame {L : List StatePart} {s0 : State} {h : FrameHdr} {o : RecvOp} {b : Bytes} {s : State}
    (hL : ∀ p ∈ [StatePart.counters, .int, .windows, .coherence, .memory, .pool, .out], p ∈ L) (hok : SameBut L s0 s) :
    SameBut L s0 (takeWrite h o b s).1 := by
  unfold takeWrite
  repeat' first
    | with_reducible assumption
    | with_reducible exact .inl rfl
    | exact .inr (hL _ (by decide))
    | (extract_lets +onlyGivenNames x
       first
       | (refine sameStep (L := L) (s0 := s0) (x := x) (fun hx => ?_) ?_; clear_value x; rotate_left; subst x)
       | (refine sameStep (L := L) (s0 := s0) (x := x.1) (fun hx => ?_) ?_; clear_value x; rotate_left; subst x)
       | subst x)
    | with_reducible refine SameBut.ite ?_ ?_
    | with_reducible refine runWaits_frame (parts_sub (by decide) hL) ?_
    | with_reducible refine modRecv_frame (parts_sub (by decide) hL) ?_
    | with_reducible refine foldState_frame (fun _ _ _ => ?_) ?_
    | with_reducible refine poolWrite_frame (parts_sub (by decide) hL) ?_
    | intro _ _ _
    | intro _ _
    | intro _
    | split
    | (simp only [same_lit]; with_reducible refine SameLit.of ?_ ?_ ?_ ?_ ?_ ?_ ?_ ?_ ?_ ?_ ?_ ?_ ?_ ?_ ?_ ?_ ?_ ?_ ?_ ?_ ?_ ?_ ?_ ?_ ?_ ?_ ?_ ?_ ?_ ?_ ?_ ?_ ?_ ?_ ?_ ?_ ?_ ?_ ?_ ?_)
    | exact .inl rfl
    | dsimp only
    | dsimp only [id]

theorem takeStage_frame {L : List StatePart} {s0 : State} {h : FrameHdr} {o : RecvOp} {b : Bytes} {s : State}
    (hL : ∀ p ∈ [StatePart.counters, .int, .ctxs, .slots, .peers, .windows, .coherence, .memory, .pool, .out], p ∈ L) (hok : SameBut L s0 s) :
    SameBut L s0 (takeStage h o b s).1 := by
  unfold takeStage
  repeat' first
    | with_reducible assumption
    | with_reducible exact .inl rfl
    | exact .inr (hL _ (by decide))
    | (extract_lets +onlyGivenNames x
       first
       | (refine sameStep (L := L) (s0 := s0) (x := x) (fun hx => ?_) ?_; clear_value x; rotate_left; subst x)
       | (refine sameStep (L := L) (s0 := s0) (x := x.1) (fun hx => ?_) ?_; clear_value x; rotate_left; subst x)
       | subst x)
    | with_reducible refine SameBut.ite ?_ ?_
    | with_reducible refine runWaits_frame (parts_sub (by decide) hL) ?_
    | with_reducible refine commitOp_frame (parts_sub (by decide) hL) ?_
    | with_reducible refine runReduction_frame (parts_sub (by decide) hL) ?_
    | with_reducible refine modRecv_frame (parts_sub (by decide) hL) ?_
    | intro _ _ _
    | intro _ _
    | intro _
    | split
    | (simp only [same_lit]; with_reducible refine SameLit.of ?_ ?_ ?_ ?_ ?_ ?_ ?_ ?_ ?_ ?_ ?_ ?_ ?_ ?_ ?_ ?_ ?_ ?_ ?_ ?_ ?_ ?_ ?_ ?_ ?_ ?_ ?_ ?_ ?_ ?_ ?_ ?_ ?_ ?_ ?_ ?_ ?_ ?_ ?_ ?_)
    | exact .inl rfl
    | dsimp only
    | dsimp only [id]

theorem runData_frame {L : List StatePart} {s0 : State} {h : FrameHdr} {b : Bytes} {s : State}
    (hL : ∀ p ∈ [StatePart.counters, .int, .ctxs, .slots, .peers, .windows, .coherence, .memory, .pool, .out], p ∈ L) (hok : SameBut L s0 s) :
    SameBut L s0 (runData h b s).1 := by
  unfold runData
  repeat' first
    | with_reducible assumption
    | with_reducible exact .inl rfl
    | exact .inr (hL _ (by decide))
    | (extract_lets +onlyGivenNames x
       first
       | (refine sameStep (L := L) (s0 := s0) (x := x) (fun hx => ?_) ?_; clear_value x; rotate_left; subst x)
       | subst x)
    | with_reducible refine SameBut.ite ?_ ?_
    | with_reducible refine takeWrite_frame (parts_sub (by decide) hL) ?_
    | with_reducible refine takeStage_frame (parts_sub (by decide) hL) ?_
    | with_reducible refine SameBut.ofPair ?_ (by with_reducible assumption)
    | intro _ _ _
    | intro _ _
    | intro _
    | split
    | (simp only [same_lit]; with_reducible refine SameLit.of ?_ ?_ ?_ ?_ ?_ ?_ ?_ ?_ ?_ ?_ ?_ ?_ ?_ ?_ ?_ ?_ ?_ ?_ ?_ ?_ ?_ ?_ ?_ ?_ ?_ ?_ ?_ ?_ ?_ ?_ ?_ ?_ ?_ ?_ ?_ ?_ ?_ ?_ ?_ ?_)
    | exact .inl rfl
    | dsimp only
    | dsimp only [id]

theorem runCancel_frame {L : List StatePart} {s0 : State} {h : FrameHdr} {s : State}
    (hL : ∀ p ∈ [StatePart.windows], p ∈ L) (hok : SameBut L s0 s) :
    SameBut L s0 (runCancel h s) := by
  unfold runCancel
  repeat' first
    | with_reducible assumption
    | with_reducible exact .inl rfl
    | exact .inr (hL _ (by decide))
    | (extract_lets +onlyGivenNames x
       first
       | (refine sameStep (L := L) (s0 := s0) (x := x) (fun hx => ?_) ?_; clear_value x; rotate_left; subst x)
       | subst x)
    | intro _ _ _
    | intro _ _
    | intro _
    | (simp only [same_lit]; with_reducible refine SameLit.of ?_ ?_ ?_ ?_ ?_ ?_ ?_ ?_ ?_ ?_ ?_ ?_ ?_ ?_ ?_ ?_ ?_ ?_ ?_ ?_ ?_ ?_ ?_ ?_ ?_ ?_ ?_ ?_ ?_ ?_ ?_ ?_ ?_ ?_ ?_ ?_ ?_ ?_ ?_ ?_)
    | exact .inl rfl
    | dsimp only
    | dsimp only [id]

theorem runFrame_frame {L : List StatePart} {s0 : State} {f : InFrame} {s : State}
    (hL : ∀ p ∈ [StatePart.counters, .int, .ctxs, .slots, .entries, .lookups, .peers, .windows, .coherence, .memory, .pool, .draws, .out], p ∈ L) (hok : SameBut L s0 s) :
    SameBut L s0 (runFrame f s).1 := by
  unfold runFrame
  repeat' first
    | with_reducible assumption
    | with_reducible exact .inl rfl
    | exact .inr (hL _ (by decide))
    | (extract_lets +onlyGivenNames x
       first
       | (refine sameStep (L := L) (s0 := s0) (x := x) (fun hx => ?_) ?_; clear_value x; rotate_left; subst x)
       | subst x)
    | with_reducible refine runCheckAtomic_frame (parts_sub (by decide) hL) ?_
    | with_reducible refine runCheck_frame (parts_sub (by decide) hL) ?_
    | with_reducible refine runServe_frame (parts_sub (by decide) hL) ?_
    | with_reducible refine runData_frame (parts_sub (by decide) hL) ?_
    | with_reducible refine runCancel_frame (parts_sub (by decide) hL) ?_
    | with_reducible refine SameBut.ofPair ?_ (by with_reducible assumption)
    | intro _ _ _
    | intro _ _
    | intro _
    | split
    | (simp only [same_lit]; with_reducible refine SameLit.of ?_ ?_ ?_ ?_ ?_ ?_ ?_ ?_ ?_ ?_ ?_ ?_ ?_ ?_ ?_ ?_ ?_ ?_ ?_ ?_ ?_ ?_ ?_ ?_ ?_ ?_ ?_ ?_ ?_ ?_ ?_ ?_ ?_ ?_ ?_ ?_ ?_ ?_ ?_ ?_)
    | exact .inl rfl
    | dsimp only
    | dsimp only [id]

theorem runFrames_frame {L : List StatePart} {s0 : State} {p : PackageId} {r0 : List InFrame} {s : State}
    (hL : ∀ p ∈ [StatePart.counters, .int, .ctxs, .slots, .entries, .lookups, .peers, .windows, .coherence, .memory, .pool, .draws, .out], p ∈ L) (hok : SameBut L s0 s) :
    SameBut L s0 (runFrames p r0 s).1 := by
  induction r0 generalizing s with
  | nil =>
    unfold runFrames
    repeat' first
      | with_reducible assumption
      | with_reducible exact .inl rfl
      | exact .inr (hL _ (by decide))
      | (extract_lets +onlyGivenNames x
         first
         | (refine sameStep (L := L) (s0 := s0) (x := x) (fun hx => ?_) ?_; clear_value x; rotate_left; subst x)
         | subst x)
      | with_reducible refine SameBut.ite ?_ ?_
      | with_reducible refine runFrame_frame (parts_sub (by decide) hL) ?_
      | with_reducible refine SameBut.ofPair ?_ (by with_reducible assumption)
      | intro _ _ _
      | intro _ _
      | intro _
      | split
      | (simp only [same_lit]; with_reducible refine SameLit.of ?_ ?_ ?_ ?_ ?_ ?_ ?_ ?_ ?_ ?_ ?_ ?_ ?_ ?_ ?_ ?_ ?_ ?_ ?_ ?_ ?_ ?_ ?_ ?_ ?_ ?_ ?_ ?_ ?_ ?_ ?_ ?_ ?_ ?_ ?_ ?_ ?_ ?_ ?_ ?_)
      | exact .inl rfl
      | dsimp only
      | dsimp only [id]
  | cons x r0 ih =>
    unfold runFrames
    repeat' first
      | with_reducible assumption
      | (extract_lets +onlyGivenNames x
         first
         | (refine sameStep (L := L) (s0 := s0) (x := x) (fun hx => ?_) ?_; clear_value x; rotate_left; subst x)
         | subst x)
      | with_reducible apply ih
      | with_reducible exact .inl rfl
      | exact .inr (hL _ (by decide))
      | with_reducible refine SameBut.ite ?_ ?_
      | with_reducible refine runFrame_frame (parts_sub (by decide) hL) ?_
      | with_reducible refine SameBut.ofPair ?_ (by with_reducible assumption)
      | intro _ _ _
      | intro _ _
      | intro _
      | split
      | (simp only [same_lit]; with_reducible refine SameLit.of ?_ ?_ ?_ ?_ ?_ ?_ ?_ ?_ ?_ ?_ ?_ ?_ ?_ ?_ ?_ ?_ ?_ ?_ ?_ ?_ ?_ ?_ ?_ ?_ ?_ ?_ ?_ ?_ ?_ ?_ ?_ ?_ ?_ ?_ ?_ ?_ ?_ ?_ ?_ ?_)
      | exact .inl rfl
      | dsimp only
      | dsimp only [id]

theorem serveInbox_frame {L : List StatePart} {s0 : State} {p : PackageId} {s : State}
    (hL : ∀ p ∈ [StatePart.counters, .int, .ctxs, .slots, .entries, .lookups, .peers, .windows, .coherence, .memory, .pool, .draws, .out], p ∈ L) (hok : SameBut L s0 s) :
    SameBut L s0 (serveInbox p s) := by
  unfold serveInbox
  repeat' first
    | with_reducible assumption
    | with_reducible exact .inl rfl
    | exact .inr (hL _ (by decide))
    | (extract_lets +onlyGivenNames x
       first
       | (refine sameStep (L := L) (s0 := s0) (x := x) (fun hx => ?_) ?_; clear_value x; rotate_left; subst x)
       | subst x)
    | with_reducible refine runFrames_frame (parts_sub (by decide) hL) ?_
    | with_reducible refine SameBut.ofPair ?_ (by with_reducible assumption)
    | intro _ _ _
    | intro _ _
    | intro _
    | split
    | (simp only [same_lit]; with_reducible refine SameLit.of ?_ ?_ ?_ ?_ ?_ ?_ ?_ ?_ ?_ ?_ ?_ ?_ ?_ ?_ ?_ ?_ ?_ ?_ ?_ ?_ ?_ ?_ ?_ ?_ ?_ ?_ ?_ ?_ ?_ ?_ ?_ ?_ ?_ ?_ ?_ ?_ ?_ ?_ ?_ ?_)
    | exact .inl rfl
    | dsimp only
    | dsimp only [id]

theorem serveInboxes_frame {L : List StatePart} {s0 : State} {s : State}
    (hL : ∀ p ∈ [StatePart.counters, .int, .ctxs, .slots, .entries, .lookups, .peers, .windows, .coherence, .memory, .pool, .draws, .out], p ∈ L) (hok : SameBut L s0 s) :
    SameBut L s0 (serveInboxes s) := by
  unfold serveInboxes
  repeat' first
    | with_reducible assumption
    | with_reducible refine foldState_frame (fun _ _ _ => ?_) ?_
    | with_reducible refine serveInbox_frame (parts_sub (by decide) hL) ?_
    | intro _ _ _
    | intro _ _
    | intro _
    | dsimp only
    | dsimp only [id]

theorem takeIn_frame {L : List StatePart} {s0 : State} {f : InFrame} {s : State}
    (hL : ∀ p ∈ [StatePart.counters, .int, .ctxs, .slots, .entries, .lookups, .peers, .windows, .coherence, .memory, .pool, .draws, .out], p ∈ L) (hok : SameBut L s0 s) :
    SameBut L s0 (takeIn f s) := by
  unfold takeIn
  repeat' first
    | with_reducible assumption
    | with_reducible exact .inl rfl
    | exact .inr (hL _ (by decide))
    | (extract_lets +onlyGivenNames x
       first
       | (refine sameStep (L := L) (s0 := s0) (x := x) (fun hx => ?_) ?_; clear_value x; rotate_left; subst x)
       | subst x)
    | with_reducible refine serveInbox_frame (parts_sub (by decide) hL) ?_
    | intro _ _ _
    | intro _ _
    | intro _
    | (simp only [same_lit]; with_reducible refine SameLit.of ?_ ?_ ?_ ?_ ?_ ?_ ?_ ?_ ?_ ?_ ?_ ?_ ?_ ?_ ?_ ?_ ?_ ?_ ?_ ?_ ?_ ?_ ?_ ?_ ?_ ?_ ?_ ?_ ?_ ?_ ?_ ?_ ?_ ?_ ?_ ?_ ?_ ?_ ?_ ?_)
    | exact .inl rfl
    | dsimp only
    | dsimp only [id]

theorem execCheckWrite_frame {h : FrameHdr} {runs : List WRun} {s : State} :
    OutBut [StatePart.counters, .int, .ctxs, .slots, .entries, .lookups, .peers, .windows, .coherence, .memory, .pool, .draws, .out] s (execCheckWrite h runs s) := by
  unfold execCheckWrite
  refine OutBut.of (fun L s0 hL hok => ?_)
  repeat' first
    | with_reducible assumption
    | with_reducible refine withFrame_frame (parts_sub (by decide) hL) ?_ ?_
    | with_reducible refine takeIn_frame (parts_sub (by decide) hL) ?_
    | intro _ _ _
    | intro _ _
    | intro _
    | dsimp only
    | dsimp only [id]

theorem execCheckAtomic_frame {h : FrameHdr} {runs : List WRun} {s : State} :
    OutBut [StatePart.counters, .int, .ctxs, .slots, .entries, .lookups, .peers, .windows, .coherence, .memory, .pool, .draws, .out] s (execCheckAtomic h runs s) := by
  unfold execCheckAtomic
  refine OutBut.of (fun L s0 hL hok => ?_)
  repeat' first
    | with_reducible assumption
    | with_reducible refine withFrame_frame (parts_sub (by decide) hL) ?_ ?_
    | with_reducible refine takeIn_frame (parts_sub (by decide) hL) ?_
    | intro _ _ _
    | intro _ _
    | intro _
    | dsimp only
    | dsimp only [id]

theorem execReadReq_frame {h : FrameHdr} {runs : List WRun} {s : State} :
    OutBut [StatePart.counters, .int, .ctxs, .slots, .entries, .lookups, .peers, .windows, .coherence, .memory, .pool, .draws, .out] s (execReadReq h runs s) := by
  unfold execReadReq
  refine OutBut.of (fun L s0 hL hok => ?_)
  repeat' first
    | with_reducible assumption
    | with_reducible refine withFrame_frame (parts_sub (by decide) hL) ?_ ?_
    | with_reducible refine takeIn_frame (parts_sub (by decide) hL) ?_
    | intro _ _ _
    | intro _ _
    | intro _
    | dsimp only
    | dsimp only [id]

theorem execData_frame {h : FrameHdr} {b : Bytes} {s : State} :
    OutBut [StatePart.counters, .int, .ctxs, .slots, .entries, .lookups, .peers, .windows, .coherence, .memory, .pool, .draws, .out] s (execData h b s) := by
  unfold execData
  refine OutBut.of (fun L s0 hL hok => ?_)
  repeat' first
    | with_reducible assumption
    | with_reducible refine withFrame_frame (parts_sub (by decide) hL) ?_ ?_
    | with_reducible refine takeIn_frame (parts_sub (by decide) hL) ?_
    | intro _ _ _
    | intro _ _
    | intro _
    | dsimp only
    | dsimp only [id]

theorem execCancel_frame {h : FrameHdr} {s : State} :
    OutBut [StatePart.counters, .int, .ctxs, .slots, .entries, .lookups, .peers, .windows, .coherence, .memory, .pool, .draws, .out] s (execCancel h s) := by
  unfold execCancel
  refine OutBut.of (fun L s0 hL hok => ?_)
  repeat' first
    | with_reducible assumption
    | with_reducible refine withFrame_frame (parts_sub (by decide) hL) ?_ ?_
    | with_reducible refine takeIn_frame (parts_sub (by decide) hL) ?_
    | intro _ _ _
    | intro _ _
    | intro _
    | dsimp only
    | dsimp only [id]

theorem dataExecuted_frame {L : List StatePart} {s0 : State} {src : PackageId} {w : WindowId} {serial : U32} {tile : Nat} {s : State}
    (hL : ∀ p ∈ [StatePart.counters, .int, .ctxs, .slots, .entries, .lookups, .peers, .windows, .coherence, .memory, .pool, .draws, .out], p ∈ L) (hok : SameBut L s0 s) :
    SameBut L s0 (dataExecuted src w serial tile s) := by
  unfold dataExecuted
  repeat' first
    | with_reducible assumption
    | with_reducible exact .inl rfl
    | exact .inr (hL _ (by decide))
    | (extract_lets +onlyGivenNames x
       first
       | (refine sameStep (L := L) (s0 := s0) (x := x) (fun hx => ?_) ?_; clear_value x; rotate_left; subst x)
       | subst x)
    | with_reducible refine SameBut.ite ?_ ?_
    | with_reducible refine serveInbox_frame (parts_sub (by decide) hL) ?_
    | with_reducible refine replyOp_frame (parts_sub (by decide) hL) ?_
    | with_reducible refine endRecv_frame (parts_sub (by decide) hL) ?_
    | with_reducible refine SameBut.ofPair ?_ (by with_reducible assumption)
    | intro _ _ _
    | intro _ _
    | intro _
    | split
    | (simp only [same_lit]; with_reducible refine SameLit.of ?_ ?_ ?_ ?_ ?_ ?_ ?_ ?_ ?_ ?_ ?_ ?_ ?_ ?_ ?_ ?_ ?_ ?_ ?_ ?_ ?_ ?_ ?_ ?_ ?_ ?_ ?_ ?_ ?_ ?_ ?_ ?_ ?_ ?_ ?_ ?_ ?_ ?_ ?_ ?_)
    | exact .inl rfl
    | dsimp only
    | dsimp only [id]

theorem execWindowDataExecuted_frame {src : PackageId} {w : WindowId} {serial : U32} {tile : Nat} {s : State} :
    OutBut [StatePart.counters, .int, .ctxs, .slots, .entries, .lookups, .peers, .windows, .coherence, .memory, .pool, .draws, .out] s (execWindowDataExecuted src w serial tile s) := by
  unfold execWindowDataExecuted
  refine OutBut.of (fun L s0 hL hok => ?_)
  repeat' first
    | with_reducible assumption
    | with_reducible refine dataExecuted_frame (parts_sub (by decide) hL) ?_
    | intro _ _ _
    | intro _ _
    | intro _
    | dsimp only
    | dsimp only [id]

theorem modSend_frame {L : List StatePart} {s0 : State} {o : SendOp} {f : SendOp → SendOp} {s : State}
    (hL : ∀ p ∈ [StatePart.windows], p ∈ L) (hok : SameBut L s0 s) :
    SameBut L s0 (modSend o f s) := by
  unfold modSend
  repeat' first
    | with_reducible assumption
    | with_reducible exact .inl rfl
    | exact .inr (hL _ (by decide))
    | (extract_lets +onlyGivenNames x
       first
       | (refine sameStep (L := L) (s0 := s0) (x := x) (fun hx => ?_) ?_; clear_value x; rotate_left; subst x)
       | subst x)
    | with_reducible refine SameBut.ite ?_ ?_
    | intro _ _ _
    | intro _ _
    | intro _
    | split
    | (simp only [same_lit]; with_reducible refine SameLit.of ?_ ?_ ?_ ?_ ?_ ?_ ?_ ?_ ?_ ?_ ?_ ?_ ?_ ?_ ?_ ?_ ?_ ?_ ?_ ?_ ?_ ?_ ?_ ?_ ?_ ?_ ?_ ?_ ?_ ?_ ?_ ?_ ?_ ?_ ?_ ?_ ?_ ?_ ?_ ?_)
    | exact .inl rfl
    | dsimp only
    | dsimp only [id]

theorem execAccept_frame {h : FrameHdr} {s : State} :
    OutBut [StatePart.counters, .int, .peers, .windows, .out] s (execAccept h s) := by
  unfold execAccept
  refine OutBut.of (fun L s0 hL hok => ?_)
  repeat' first
    | with_reducible assumption
    | with_reducible exact .inl rfl
    | exact .inr (hL _ (by decide))
    | (extract_lets +onlyGivenNames x
       first
       | (refine sameStep (L := L) (s0 := s0) (x := x) (fun hx => ?_) ?_; clear_value x; rotate_left; subst x)
       | subst x)
    | with_reducible refine withFrame_frame (parts_sub (by decide) hL) ?_ ?_
    | with_reducible refine modSend_frame (parts_sub (by decide) hL) ?_
    | with_reducible refine SameBut.ofPair ?_ (by with_reducible assumption)
    | intro _ _ _
    | intro _ _
    | intro _
    | split
    | (simp only [same_lit]; with_reducible refine SameLit.of ?_ ?_ ?_ ?_ ?_ ?_ ?_ ?_ ?_ ?_ ?_ ?_ ?_ ?_ ?_ ?_ ?_ ?_ ?_ ?_ ?_ ?_ ?_ ?_ ?_ ?_ ?_ ?_ ?_ ?_ ?_ ?_ ?_ ?_ ?_ ?_ ?_ ?_ ?_ ?_)
    | exact .inl rfl
    | dsimp only
    | dsimp only [id]

theorem denialFaults_frame {L : List StatePart} {s0 : State} {c : CtxId} {q : Nat} {s : State}
    (hL : ∀ p ∈ [StatePart.od, .stored, .counters, .mgmt, .links, .intx, .fnCfg, .faultq, .int, .capture, .fnOther, .ctxs, .cmds, .engines, .lookups, .peers, .windows, .err, .power, .out], p ∈ L) (hok : SameBut L s0 s) :
    SameBut L s0 (denialFaults c q s) := by
  unfold denialFaults
  repeat' first
    | with_reducible assumption
    | with_reducible exact .inl rfl
    | exact .inr (hL _ (by decide))
    | (extract_lets +onlyGivenNames x
       first
       | (refine sameStep (L := L) (s0 := s0) (x := x) (fun hx => ?_) ?_; clear_value x; rotate_left; subst x)
       | (refine sameStep (L := L) (s0 := s0) (x := x.1) (fun hx => ?_) ?_; clear_value x; rotate_left; subst x)
       | subst x)
    | with_reducible refine SameBut.ite ?_ ?_
    | with_reducible refine tileStops_frame (parts_sub (by decide) hL) ?_
    | with_reducible refine windowBarred_frame (parts_sub (by decide) hL) ?_
    | with_reducible refine SameBut.ofPair ?_ (by with_reducible assumption)
    | intro _ _ _
    | intro _ _
    | intro _
    | split
    | (simp only [same_lit]; with_reducible refine SameLit.of ?_ ?_ ?_ ?_ ?_ ?_ ?_ ?_ ?_ ?_ ?_ ?_ ?_ ?_ ?_ ?_ ?_ ?_ ?_ ?_ ?_ ?_ ?_ ?_ ?_ ?_ ?_ ?_ ?_ ?_ ?_ ?_ ?_ ?_ ?_ ?_ ?_ ?_ ?_ ?_)
    | exact .inl rfl
    | dsimp only
    | dsimp only [id]

theorem denyTaken_frame {L : List StatePart} {s0 : State} {h : FrameHdr} {o : SendOp} {s : State}
    (hL : ∀ p ∈ [StatePart.od, .stored, .counters, .mgmt, .links, .intx, .fnCfg, .faultq, .int, .capture, .fnOther, .ctxs, .cmds, .engines, .lookups, .peers, .windows, .err, .power, .out], p ∈ L) (hok : SameBut L s0 s) :
    SameBut L s0 (denyTaken h o s) := by
  unfold denyTaken
  repeat' first
    | with_reducible assumption
    | with_reducible exact .inl rfl
    | exact .inr (hL _ (by decide))
    | (extract_lets +onlyGivenNames x
       first
       | (refine sameStep (L := L) (s0 := s0) (x := x) (fun hx => ?_) ?_; clear_value x; rotate_left; subst x)
       | subst x)
    | with_reducible refine denialFaults_frame (parts_sub (by decide) hL) ?_
    | with_reducible refine modSend_frame (parts_sub (by decide) hL) ?_
    | intro _ _ _
    | intro _ _
    | intro _
    | (simp only [same_lit]; with_reducible refine SameLit.of ?_ ?_ ?_ ?_ ?_ ?_ ?_ ?_ ?_ ?_ ?_ ?_ ?_ ?_ ?_ ?_ ?_ ?_ ?_ ?_ ?_ ?_ ?_ ?_ ?_ ?_ ?_ ?_ ?_ ?_ ?_ ?_ ?_ ?_ ?_ ?_ ?_ ?_ ?_ ?_)
    | exact .inl rfl
    | dsimp only
    | dsimp only [id]

theorem countDeny_frame {L : List StatePart} {s0 : State} {o : Option SendOp} {s : State}
    (hL : ∀ p ∈ [StatePart.counters, .int, .draws], p ∈ L) (hok : SameBut L s0 s) :
    SameBut L s0 (countDeny o s) := by
  unfold countDeny
  repeat' first
    | with_reducible assumption
    | with_reducible exact .inl rfl
    | exact .inr (hL _ (by decide))
    | (extract_lets +onlyGivenNames x
       first
       | (refine sameStep (L := L) (s0 := s0) (x := x) (fun hx => ?_) ?_; clear_value x; rotate_left; subst x)
       | subst x)
    | with_reducible refine countFn_frame (parts_sub (by decide) hL) ?_
    | with_reducible refine draw_frame (parts_sub (by decide) hL) ?_
    | with_reducible refine SameBut.ofPair ?_ (by with_reducible assumption)
    | intro _ _ _
    | intro _ _
    | intro _
    | split
    | (simp only [same_lit]; with_reducible refine SameLit.of ?_ ?_ ?_ ?_ ?_ ?_ ?_ ?_ ?_ ?_ ?_ ?_ ?_ ?_ ?_ ?_ ?_ ?_ ?_ ?_ ?_ ?_ ?_ ?_ ?_ ?_ ?_ ?_ ?_ ?_ ?_ ?_ ?_ ?_ ?_ ?_ ?_ ?_ ?_ ?_)
    | exact .inl rfl
    | dsimp only
    | dsimp only [id]

theorem denyArrives_frame {L : List StatePart} {s0 : State} {h : FrameHdr} {s : State}
    (hL : ∀ p ∈ [StatePart.od, .stored, .counters, .mgmt, .links, .intx, .fnCfg, .faultq, .int, .capture, .fnOther, .ctxs, .cmds, .engines, .lookups, .peers, .windows, .err, .power, .draws, .out], p ∈ L) (hok : SameBut L s0 s) :
    SameBut L s0 (denyArrives h s) := by
  unfold denyArrives
  repeat' first
    | with_reducible assumption
    | with_reducible exact .inl rfl
    | exact .inr (hL _ (by decide))
    | (extract_lets +onlyGivenNames x
       first
       | (refine sameStep (L := L) (s0 := s0) (x := x) (fun hx => ?_) ?_; clear_value x; rotate_left; subst x)
       | subst x)
    | with_reducible refine SameBut.ite ?_ ?_
    | with_reducible refine countDeny_frame (parts_sub (by decide) hL) ?_
    | with_reducible refine modSend_frame (parts_sub (by decide) hL) ?_
    | with_reducible refine denyTaken_frame (parts_sub (by decide) hL) ?_
    | with_reducible refine SameBut.ofPair ?_ (by with_reducible assumption)
    | intro _ _ _
    | intro _ _
    | intro _
    | split
    | (simp only [same_lit]; with_reducible refine SameLit.of ?_ ?_ ?_ ?_ ?_ ?_ ?_ ?_ ?_ ?_ ?_ ?_ ?_ ?_ ?_ ?_ ?_ ?_ ?_ ?_ ?_ ?_ ?_ ?_ ?_ ?_ ?_ ?_ ?_ ?_ ?_ ?_ ?_ ?_ ?_ ?_ ?_ ?_ ?_ ?_)
    | exact .inl rfl
    | dsimp only
    | dsimp only [id]

theorem execDeny_frame {h : FrameHdr} {s : State} :
    OutBut [StatePart.od, .stored, .counters, .mgmt, .links, .intx, .fnCfg, .faultq, .int, .capture, .fnOther, .ctxs, .cmds, .engines, .lookups, .peers, .windows, .err, .power, .draws, .out] s (execDeny h s) := by
  unfold execDeny
  refine OutBut.of (fun L s0 hL hok => ?_)
  repeat' first
    | with_reducible assumption
    | with_reducible refine withFrame_frame (parts_sub (by decide) hL) ?_ ?_
    | with_reducible refine denyArrives_frame (parts_sub (by decide) hL) ?_
    | intro _ _ _
    | intro _ _
    | intro _
    | dsimp only
    | dsimp only [id]

theorem poisonArrives_frame {L : List StatePart} {s0 : State} {o : SendOp} {s : State}
    (hL : ∀ p ∈ [StatePart.od, .stored, .counters, .mgmt, .links, .intx, .requests, .fnCfg, .admin, .int, .capture, .ctxs, .cmds, .engines, .entries, .lookups, .peers, .windows, .coherence, .det, .err, .power, .boot, .out], p ∈ L) (hok : SameBut L s0 s) :
    SameBut L s0 (poisonArrives o s) := by
  unfold poisonArrives
  repeat' first
    | with_reducible assumption
    | with_reducible exact .inl rfl
    | exact .inr (hL _ (by decide))
    | (extract_lets +onlyGivenNames x
       first
       | (refine sameStep (L := L) (s0 := s0) (x := x) (fun hx => ?_) ?_; clear_value x; rotate_left; subst x)
       | subst x)
    | with_reducible refine SameBut.ite ?_ ?_
    | with_reducible refine enter_frame (parts_sub (by decide) hL) ?_
    | intro _ _ _
    | intro _ _
    | intro _
    | split
    | (simp only [same_lit]; with_reducible refine SameLit.of ?_ ?_ ?_ ?_ ?_ ?_ ?_ ?_ ?_ ?_ ?_ ?_ ?_ ?_ ?_ ?_ ?_ ?_ ?_ ?_ ?_ ?_ ?_ ?_ ?_ ?_ ?_ ?_ ?_ ?_ ?_ ?_ ?_ ?_ ?_ ?_ ?_ ?_ ?_ ?_)
    | exact .inl rfl
    | dsimp only
    | dsimp only [id]

theorem takeReadData_frame {L : List StatePart} {s0 : State} {h : FrameHdr} {b : Bytes} {s : State}
    (hL : ∀ p ∈ [StatePart.od, .stored, .counters, .mgmt, .links, .intx, .requests, .fnCfg, .admin, .int, .capture, .ctxs, .cmds, .engines, .entries, .lookups, .peers, .windows, .coherence, .det, .err, .power, .boot, .out], p ∈ L) (hok : SameBut L s0 s) :
    SameBut L s0 (takeReadData h b s) := by
  unfold takeReadData
  repeat' first
    | with_reducible assumption
    | with_reducible exact .inl rfl
    | exact .inr (hL _ (by decide))
    | (extract_lets +onlyGivenNames x
       first
       | (refine sameStep (L := L) (s0 := s0) (x := x) (fun hx => ?_) ?_; clear_value x; rotate_left; subst x)
       | subst x)
    | with_reducible refine SameBut.ite ?_ ?_
    | with_reducible refine poisonArrives_frame (parts_sub (by decide) hL) ?_
    | with_reducible refine modSend_frame (parts_sub (by decide) hL) ?_
    | with_reducible refine SameBut.ofPair ?_ (by with_reducible assumption)
    | intro _ _ _
    | intro _ _
    | intro _
    | split
    | (simp only [same_lit]; with_reducible refine SameLit.of ?_ ?_ ?_ ?_ ?_ ?_ ?_ ?_ ?_ ?_ ?_ ?_ ?_ ?_ ?_ ?_ ?_ ?_ ?_ ?_ ?_ ?_ ?_ ?_ ?_ ?_ ?_ ?_ ?_ ?_ ?_ ?_ ?_ ?_ ?_ ?_ ?_ ?_ ?_ ?_)
    | exact .inl rfl
    | dsimp only
    | dsimp only [id]

theorem execReadData_frame {h : FrameHdr} {b : Bytes} {s : State} :
    OutBut [StatePart.od, .stored, .counters, .mgmt, .links, .intx, .requests, .fnCfg, .admin, .int, .capture, .ctxs, .cmds, .engines, .entries, .lookups, .peers, .windows, .coherence, .det, .err, .power, .boot, .out] s (execReadData h b s) := by
  unfold execReadData
  refine OutBut.of (fun L s0 hL hok => ?_)
  repeat' first
    | with_reducible assumption
    | with_reducible refine withFrame_frame (parts_sub (by decide) hL) ?_ ?_
    | with_reducible refine takeReadData_frame (parts_sub (by decide) hL) ?_
    | intro _ _ _
    | intro _ _
    | intro _
    | dsimp only
    | dsimp only [id]

theorem doneArrives_frame {L : List StatePart} {s0 : State} {h : FrameHdr} {s : State}
    (hL : ∀ p ∈ [StatePart.peers, .windows], p ∈ L) (hok : SameBut L s0 s) :
    SameBut L s0 (doneArrives h s) := by
  unfold doneArrives
  repeat' first
    | with_reducible assumption
    | with_reducible exact .inl rfl
    | exact .inr (hL _ (by decide))
    | (extract_lets +onlyGivenNames x
       first
       | (refine sameStep (L := L) (s0 := s0) (x := x) (fun hx => ?_) ?_; clear_value x; rotate_left; subst x)
       | subst x)
    | with_reducible refine SameBut.ite ?_ ?_
    | with_reducible refine modSend_frame (parts_sub (by decide) hL) ?_
    | with_reducible refine SameBut.ofPair ?_ (by with_reducible assumption)
    | intro _ _ _
    | intro _ _
    | intro _
    | split
    | (simp only [same_lit]; with_reducible refine SameLit.of ?_ ?_ ?_ ?_ ?_ ?_ ?_ ?_ ?_ ?_ ?_ ?_ ?_ ?_ ?_ ?_ ?_ ?_ ?_ ?_ ?_ ?_ ?_ ?_ ?_ ?_ ?_ ?_ ?_ ?_ ?_ ?_ ?_ ?_ ?_ ?_ ?_ ?_ ?_ ?_)
    | exact .inl rfl
    | dsimp only
    | dsimp only [id]

theorem execDone_frame {h : FrameHdr} {s : State} :
    OutBut [StatePart.counters, .int, .peers, .windows, .out] s (execDone h s) := by
  unfold execDone
  refine OutBut.of (fun L s0 hL hok => ?_)
  repeat' first
    | with_reducible assumption
    | with_reducible refine withFrame_frame (parts_sub (by decide) hL) ?_ ?_
    | with_reducible refine doneArrives_frame (parts_sub (by decide) hL) ?_
    | intro _ _ _
    | intro _ _
    | intro _
    | dsimp only
    | dsimp only [id]

theorem execDenyBusyRetry_frame {p : PackageId} {w : WindowId} {serial : U32} {tile : Nat} {s : State} :
    OutBut [StatePart.peers, .windows, .out] s (execDenyBusyRetry p w serial tile s) := by
  unfold execDenyBusyRetry
  refine OutBut.of (fun L s0 hL hok => ?_)
  repeat' first
    | with_reducible assumption
    | with_reducible exact .inl rfl
    | exact .inr (hL _ (by decide))
    | (extract_lets +onlyGivenNames x
       first
       | (refine sameStep (L := L) (s0 := s0) (x := x) (fun hx => ?_) ?_; clear_value x; rotate_left; subst x)
       | subst x)
    | with_reducible refine sendCheck_frame (parts_sub (by decide) hL) ?_
    | with_reducible refine modSend_frame (parts_sub (by decide) hL) ?_
    | with_reducible refine SameBut.ofPair ?_ (by with_reducible assumption)
    | intro _ _ _
    | intro _ _
    | intro _
    | split
    | (simp only [same_lit]; with_reducible refine SameLit.of ?_ ?_ ?_ ?_ ?_ ?_ ?_ ?_ ?_ ?_ ?_ ?_ ?_ ?_ ?_ ?_ ?_ ?_ ?_ ?_ ?_ ?_ ?_ ?_ ?_ ?_ ?_ ?_ ?_ ?_ ?_ ?_ ?_ ?_ ?_ ?_ ?_ ?_ ?_ ?_)
    | exact .inl rfl
    | dsimp only
    | dsimp only [id]

theorem wake_frame {L : List StatePart} {s0 : State} {s : State}
    (hL : ∀ p ∈ [StatePart.od, .stored, .counters, .mgmt, .links, .intx, .requests, .fnCfg, .admin, .int, .capture, .ctxs, .slots, .cmds, .engines, .entries, .lookups, .peers, .windows, .coherence, .memory, .pool, .det, .err, .power, .boot, .draws, .out], p ∈ L) (hok : SameBut L s0 s) :
    SameBut L s0 (wake s) := by
  unfold wake
  repeat' first
    | with_reducible assumption
    | with_reducible refine serveInboxes_frame (parts_sub (by decide) hL) ?_
    | with_reducible refine retryLeases_frame (parts_sub (by decide) hL) ?_
    | with_reducible refine serveStalled_frame (parts_sub (by decide) hL) ?_
    | intro _ _ _
    | intro _ _
    | intro _
    | dsimp only
    | dsimp only [id]

theorem execWalkNodeReadDone_frame {walk : Nat} {s : State} :
    OutBut [StatePart.od, .stored, .counters, .mgmt, .links, .intx, .requests, .fnCfg, .admin, .int, .capture, .ctxs, .slots, .cmds, .engines, .entries, .lookups, .peers, .windows, .coherence, .memory, .pool, .det, .err, .power, .boot, .draws, .out] s (execWalkNodeReadDone walk s) := by
  unfold execWalkNodeReadDone
  refine OutBut.of (fun L s0 hL hok => ?_)
  repeat' first
    | with_reducible assumption
    | with_reducible exact .inl rfl
    | exact .inr (hL _ (by decide))
    | (extract_lets +onlyGivenNames x
       first
       | (refine sameStep (L := L) (s0 := s0) (x := x) (fun hx => ?_) ?_; clear_value x; rotate_left; subst x)
       | subst x)
    | with_reducible refine SameBut.ite ?_ ?_
    | with_reducible refine wake_frame (parts_sub (by decide) hL) ?_
    | with_reducible refine walkStep_frame (parts_sub (by decide) hL) ?_
    | with_reducible refine SameBut.ofPair ?_ (by with_reducible assumption)
    | intro _ _ _
    | intro _ _
    | intro _
    | split
    | (simp only [same_lit]; with_reducible refine SameLit.of ?_ ?_ ?_ ?_ ?_ ?_ ?_ ?_ ?_ ?_ ?_ ?_ ?_ ?_ ?_ ?_ ?_ ?_ ?_ ?_ ?_ ?_ ?_ ?_ ?_ ?_ ?_ ?_ ?_ ?_ ?_ ?_ ?_ ?_ ?_ ?_ ?_ ?_ ?_ ?_)
    | exact .inl rfl
    | dsimp only
    | dsimp only [id]

theorem execRevokeAck_frame {cluster slot : Nat} {s : State} :
    OutBut [StatePart.od, .stored, .counters, .mgmt, .links, .intx, .requests, .fnCfg, .admin, .int, .capture, .ctxs, .slots, .cmds, .engines, .entries, .lookups, .peers, .windows, .coherence, .memory, .pool, .det, .err, .power, .boot, .draws, .out] s (execRevokeAck cluster slot s) := by
  unfold execRevokeAck
  refine OutBut.of (fun L s0 hL hok => ?_)
  repeat' first
    | with_reducible assumption
    | with_reducible exact .inl rfl
    | exact .inr (hL _ (by decide))
    | (extract_lets +onlyGivenNames x
       first
       | (refine sameStep (L := L) (s0 := s0) (x := x) (fun hx => ?_) ?_; clear_value x; rotate_left; subst x)
       | subst x)
    | with_reducible refine wake_frame (parts_sub (by decide) hL) ?_
    | with_reducible refine leasesEnded_frame (parts_sub (by decide) hL) ?_
    | intro _ _ _
    | intro _ _
    | intro _
    | (simp only [same_lit]; with_reducible refine SameLit.of ?_ ?_ ?_ ?_ ?_ ?_ ?_ ?_ ?_ ?_ ?_ ?_ ?_ ?_ ?_ ?_ ?_ ?_ ?_ ?_ ?_ ?_ ?_ ?_ ?_ ?_ ?_ ?_ ?_ ?_ ?_ ?_ ?_ ?_ ?_ ?_ ?_ ?_ ?_ ?_)
    | exact .inl rfl
    | dsimp only
    | dsimp only [id]

theorem execLeaseRelease_frame {cluster slot : Nat} {s : State} :
    OutBut [StatePart.od, .stored, .counters, .mgmt, .links, .intx, .requests, .fnCfg, .admin, .int, .capture, .ctxs, .slots, .cmds, .engines, .entries, .lookups, .peers, .windows, .coherence, .memory, .pool, .det, .err, .power, .boot, .draws, .out] s (execLeaseRelease cluster slot s) := by
  unfold execLeaseRelease
  refine OutBut.of (fun L s0 hL hok => ?_)
  repeat' first
    | with_reducible assumption
    | with_reducible exact .inl rfl
    | exact .inr (hL _ (by decide))
    | (extract_lets +onlyGivenNames x
       first
       | (refine sameStep (L := L) (s0 := s0) (x := x) (fun hx => ?_) ?_; clear_value x; rotate_left; subst x)
       | subst x)
    | with_reducible refine wake_frame (parts_sub (by decide) hL) ?_
    | with_reducible refine leasesEnded_frame (parts_sub (by decide) hL) ?_
    | intro _ _ _
    | intro _ _
    | intro _
    | (simp only [same_lit]; with_reducible refine SameLit.of ?_ ?_ ?_ ?_ ?_ ?_ ?_ ?_ ?_ ?_ ?_ ?_ ?_ ?_ ?_ ?_ ?_ ?_ ?_ ?_ ?_ ?_ ?_ ?_ ?_ ?_ ?_ ?_ ?_ ?_ ?_ ?_ ?_ ?_ ?_ ?_ ?_ ?_ ?_ ?_)
    | exact .inl rfl
    | dsimp only
    | dsimp only [id]

theorem execWalkerGroupEnableWrite_frame {rq : Requester} {v : U8} {s : State} :
    OutBut [StatePart.od, .stored, .counters, .mgmt, .int, .out] s (execWalkerGroupEnableWrite rq v s) := by
  unfold execWalkerGroupEnableWrite
  refine OutBut.of (fun L s0 hL hok => ?_)
  repeat' first
    | with_reducible assumption
    | with_reducible refine requestWrite_frame (parts_sub (by decide) hL) ?_ ?_
    | with_reducible refine putObj_frame (parts_sub (by decide) hL) ?_
    | intro _ _ _
    | intro _ _
    | intro _
    | dsimp only
    | dsimp only [id]


/-! ### Machine/WindowAdmin.lean -/

theorem setResult_frame {L : List StatePart} {s0 : State} {g : Fun} {r : WinRequest} {op status : Nat} {s : State}
    (hL : ∀ p ∈ [StatePart.fnOther], p ∈ L) (hok : SameBut L s0 s) :
    SameBut L s0 (setResult g r op status s) := by
  unfold setResult
  repeat' first
    | with_reducible assumption
    | with_reducible exact .inl rfl
    | exact .inr (hL _ (by decide))
    | exact .inl fun _ => rfl
    | (extract_lets +onlyGivenNames x
       first
       | (refine sameStep (L := L) (s0 := s0) (x := x) (fun hx => ?_) ?_; clear_value x; rotate_left; subst x)
       | subst x)
    | with_reducible refine modFn_frame ?_ ?_ ?_ ?_ ?_ ?_ ?_ ?_ ?_ 
    | intro _ _ _
    | intro _ _
    | intro _
    | (simp only [same_lit]; with_reducible refine SameLit.of ?_ ?_ ?_ ?_ ?_ ?_ ?_ ?_ ?_ ?_ ?_ ?_ ?_ ?_ ?_ ?_ ?_ ?_ ?_ ?_ ?_ ?_ ?_ ?_ ?_ ?_ ?_ ?_ ?_ ?_ ?_ ?_ ?_ ?_ ?_ ?_ ?_ ?_ ?_ ?_)
    | exact .inl fun x => by (repeat' split) <;> rfl
    | exact .inl rfl
    | dsimp only
    | dsimp only [id]

theorem resultOk_frame {L : List StatePart} {s0 : State} {g : Fun} {w : WindowId} {op : Nat} {s : State}
    (hL : ∀ p ∈ [StatePart.fnOther], p ∈ L) (hok : SameBut L s0 s) :
    SameBut L s0 (resultOk g w op s) := by
  unfold resultOk
  repeat' first
    | with_reducible assumption
    | with_reducible exact .inl rfl
    | exact .inr (hL _ (by decide))
    | exact .inl fun _ => rfl
    | (extract_lets +onlyGivenNames x
       first
       | (refine sameStep (L := L) (s0 := s0) (x := x) (fun hx => ?_) ?_; clear_value x; rotate_left; subst x)
       | subst x)
    | with_reducible refine SameBut.ite ?_ ?_
    | with_reducible refine modFn_frame ?_ ?_ ?_ ?_ ?_ ?_ ?_ ?_ ?_ 
    | intro _ _ _
    | intro _ _
    | intro _
    | split
    | (simp only [same_lit]; with_reducible refine SameLit.of ?_ ?_ ?_ ?_ ?_ ?_ ?_ ?_ ?_ ?_ ?_ ?_ ?_ ?_ ?_ ?_ ?_ ?_ ?_ ?_ ?_ ?_ ?_ ?_ ?_ ?_ ?_ ?_ ?_ ?_ ?_ ?_ ?_ ?_ ?_ ?_ ?_ ?_ ?_ ?_)
    | exact .inl fun x => by (repeat' split) <;> rfl
    | exact .inl rfl
    | dsimp only
    | dsimp only [id]

theorem modWin_frame {L : List StatePart} {s0 : State} {w : WindowId} {f : Win → Win} {s : State}
    (hL : ∀ p ∈ [StatePart.windows], p ∈ L) (hok : SameBut L s0 s) :
    SameBut L s0 (modWin w f s) := by
  unfold modWin
  repeat' first
    | with_reducible assumption
    | with_reducible exact .inl rfl
    | exact .inr (hL _ (by decide))
    | (extract_lets +onlyGivenNames x
       first
       | (refine sameStep (L := L) (s0 := s0) (x := x) (fun hx => ?_) ?_; clear_value x; rotate_left; subst x)
       | (refine sameStep (L := L) (s0 := s0) (x := x.1) (fun hx => ?_) ?_; clear_value x; rotate_left; subst x)
       | subst x)
    | with_reducible refine SameBut.ite ?_ ?_
    | intro _ _ _
    | intro _ _
    | intro _
    | split
    | (simp only [same_lit]; with_reducible refine SameLit.of ?_ ?_ ?_ ?_ ?_ ?_ ?_ ?_ ?_ ?_ ?_ ?_ ?_ ?_ ?_ ?_ ?_ ?_ ?_ ?_ ?_ ?_ ?_ ?_ ?_ ?_ ?_ ?_ ?_ ?_ ?_ ?_ ?_ ?_ ?_ ?_ ?_ ?_ ?_ ?_)
    | exact .inl rfl
    | dsimp only
    | dsimp only [id]

theorem openWindow_frame {L : List StatePart} {s0 : State} {g : Fun} {r : WinRequest} {s : State}
    (hL : ∀ p ∈ [StatePart.fnOther, .windows], p ∈ L) (hok : SameBut L s0 s) :
    SameBut L s0 (openWindow g r s) := by
  unfold openWindow
  repeat' first
    | with_reducible assumption
    | with_reducible exact .inl rfl
    | exact .inr (hL _ (by decide))
    | (extract_lets +onlyGivenNames x
       first
       | (refine sameStep (L := L) (s0 := s0) (x := x) (fun hx => ?_) ?_; clear_value x; rotate_left; subst x)
       | subst x)
    | with_reducible refine SameBut.ite ?_ ?_
    | with_reducible refine setResult_frame (parts_sub (by decide) hL) ?_
    | intro _ _ _
    | intro _ _
    | intro _
    | split
    | (simp only [same_lit]; with_reducible refine SameLit.of ?_ ?_ ?_ ?_ ?_ ?_ ?_ ?_ ?_ ?_ ?_ ?_ ?_ ?_ ?_ ?_ ?_ ?_ ?_ ?_ ?_ ?_ ?_ ?_ ?_ ?_ ?_ ?_ ?_ ?_ ?_ ?_ ?_ ?_ ?_ ?_ ?_ ?_ ?_ ?_)
    | exact .inl rfl
    | dsimp only
    | dsimp only [id]

theorem closeWindow_frame {L : List StatePart} {s0 : State} {g : Fun} {r : WinRequest} {s : State}
    (hL : ∀ p ∈ [StatePart.fnOther, .windows], p ∈ L) (hok : SameBut L s0 s) :
    SameBut L s0 (closeWindow g r s) := by
  unfold closeWindow
  repeat' first
    | with_reducible assumption
    | with_reducible exact .inl rfl
    | exact .inr (hL _ (by decide))
    | (extract_lets +onlyGivenNames x
       first
       | (refine sameStep (L := L) (s0 := s0) (x := x) (fun hx => ?_) ?_; clear_value x; rotate_left; subst x)
       | subst x)
    | with_reducible refine SameBut.ite ?_ ?_
    | with_reducible refine setResult_frame (parts_sub (by decide) hL) ?_
    | with_reducible refine modWin_frame (parts_sub (by decide) hL) ?_
    | intro _ _ _
    | intro _ _
    | intro _
    | split
    | (simp only [same_lit]; with_reducible refine SameLit.of ?_ ?_ ?_ ?_ ?_ ?_ ?_ ?_ ?_ ?_ ?_ ?_ ?_ ?_ ?_ ?_ ?_ ?_ ?_ ?_ ?_ ?_ ?_ ?_ ?_ ?_ ?_ ?_ ?_ ?_ ?_ ?_ ?_ ?_ ?_ ?_ ?_ ?_ ?_ ?_)
    | exact .inl rfl
    | dsimp only
    | dsimp only [id]

theorem modifyWindow_frame {L : List StatePart} {s0 : State} {g : Fun} {r : WinRequest} {s : State}
    (hL : ∀ p ∈ [StatePart.fnOther, .windows], p ∈ L) (hok : SameBut L s0 s) :
    SameBut L s0 (modifyWindow g r s) := by
  unfold modifyWindow
  repeat' first
    | with_reducible assumption
    | with_reducible exact .inl rfl
    | exact .inr (hL _ (by decide))
    | (extract_lets +onlyGivenNames x
       first
       | (refine sameStep (L := L) (s0 := s0) (x := x) (fun hx => ?_) ?_; clear_value x; rotate_left; subst x)
       | subst x)
    | with_reducible refine SameBut.ite ?_ ?_
    | with_reducible refine setResult_frame (parts_sub (by decide) hL) ?_
    | with_reducible refine modWin_frame (parts_sub (by decide) hL) ?_
    | intro _ _ _
    | intro _ _
    | intro _
    | split
    | (simp only [same_lit]; with_reducible refine SameLit.of ?_ ?_ ?_ ?_ ?_ ?_ ?_ ?_ ?_ ?_ ?_ ?_ ?_ ?_ ?_ ?_ ?_ ?_ ?_ ?_ ?_ ?_ ?_ ?_ ?_ ?_ ?_ ?_ ?_ ?_ ?_ ?_ ?_ ?_ ?_ ?_ ?_ ?_ ?_ ?_)
    | exact .inl rfl
    | dsimp only
    | dsimp only [id]

theorem refreshWindow_frame {L : List StatePart} {s0 : State} {g : Fun} {r : WinRequest} {s : State}
    (hL : ∀ p ∈ [StatePart.fnOther, .windows], p ∈ L) (hok : SameBut L s0 s) :
    SameBut L s0 (refreshWindow g r s) := by
  unfold refreshWindow
  repeat' first
    | with_reducible assumption
    | with_reducible exact .inl rfl
    | exact .inr (hL _ (by decide))
    | (extract_lets +onlyGivenNames x
       first
       | (refine sameStep (L := L) (s0 := s0) (x := x) (fun hx => ?_) ?_; clear_value x; rotate_left; subst x)
       | subst x)
    | with_reducible refine SameBut.ite ?_ ?_
    | with_reducible refine setResult_frame (parts_sub (by decide) hL) ?_
    | intro _ _ _
    | intro _ _
    | intro _
    | split
    | (simp only [same_lit]; with_reducible refine SameLit.of ?_ ?_ ?_ ?_ ?_ ?_ ?_ ?_ ?_ ?_ ?_ ?_ ?_ ?_ ?_ ?_ ?_ ?_ ?_ ?_ ?_ ?_ ?_ ?_ ?_ ?_ ?_ ?_ ?_ ?_ ?_ ?_ ?_ ?_ ?_ ?_ ?_ ?_ ?_ ?_)
    | exact .inl rfl
    | dsimp only
    | dsimp only [id]

theorem winRequest_frame {L : List StatePart} {s0 : State} {g : Fun} {r : WinRequest} {op : Nat} {s : State}
    (hL : ∀ p ∈ [StatePart.fnOther, .windows], p ∈ L) (hok : SameBut L s0 s) :
    SameBut L s0 (winRequest g r op s) := by
  unfold winRequest
  repeat' first
    | with_reducible assumption
    | with_reducible exact .inl rfl
    | exact .inr (hL _ (by decide))
    | (extract_lets +onlyGivenNames x
       first
       | (refine sameStep (L := L) (s0 := s0) (x := x) (fun hx => ?_) ?_; clear_value x; rotate_left; subst x)
       | subst x)
    | with_reducible refine openWindow_frame (parts_sub (by decide) hL) ?_
    | with_reducible refine closeWindow_frame (parts_sub (by decide) hL) ?_
    | with_reducible refine modifyWindow_frame (parts_sub (by decide) hL) ?_
    | with_reducible refine refreshWindow_frame (parts_sub (by decide) hL) ?_
    | with_reducible refine setResult_frame (parts_sub (by decide) hL) ?_
    | with_reducible refine SameBut.ofPair ?_ (by with_reducible assumption)
    | intro _ _ _
    | intro _ _
    | intro _
    | split
    | (simp only [same_lit]; with_reducible refine SameLit.of ?_ ?_ ?_ ?_ ?_ ?_ ?_ ?_ ?_ ?_ ?_ ?_ ?_ ?_ ?_ ?_ ?_ ?_ ?_ ?_ ?_ ?_ ?_ ?_ ?_ ?_ ?_ ?_ ?_ ?_ ?_ ?_ ?_ ?_ ?_ ?_ ?_ ?_ ?_ ?_)
    | exact .inl rfl
    | dsimp only
    | dsimp only [id]

theorem writeRequest_frame {L : List StatePart} {s0 : State} {rq : Requester} {g : Fun} {r : WinRequest} {op : Nat} {s : State}
    (hL : ∀ p ∈ [StatePart.fnOther, .windows, .out], p ∈ L) (hok : SameBut L s0 s) :
    SameBut L s0 (writeRequest rq g r op s) := by
  unfold writeRequest
  repeat' first
    | with_reducible assumption
    | with_reducible refine requestWrite_frame (parts_sub (by decide) hL) ?_ ?_
    | with_reducible refine winRequest_frame (parts_sub (by decide) hL) ?_
    | intro _ _ _
    | intro _ _
    | intro _
    | dsimp only
    | dsimp only [id]

theorem execWindowOpen_frame {rq : Requester} {g : Fun} {r : WinRequest} {s : State} :
    OutBut [StatePart.fnOther, .windows, .out] s (execWindowOpen rq g r s) := by
  unfold execWindowOpen
  refine OutBut.of (fun L s0 hL hok => ?_)
  repeat' first
    | with_reducible assumption
    | with_reducible refine writeRequest_frame (parts_sub (by decide) hL) ?_
    | intro _ _ _
    | intro _ _
    | intro _
    | dsimp only
    | dsimp only [id]

theorem execWindowClose_frame {rq : Requester} {g : Fun} {r : WinRequest} {s : State} :
    OutBut [StatePart.fnOther, .windows, .out] s (execWindowClose rq g r s) := by
  unfold execWindowClose
  refine OutBut.of (fun L s0 hL hok => ?_)
  repeat' first
    | with_reducible assumption
    | with_reducible refine writeRequest_frame (parts_sub (by decide) hL) ?_
    | intro _ _ _
    | intro _ _
    | intro _
    | dsimp only
    | dsimp only [id]

theorem execWindowModify_frame {rq : Requester} {g : Fun} {r : WinRequest} {s : State} :
    OutBut [StatePart.fnOther, .windows, .out] s (execWindowModify rq g r s) := by
  unfold execWindowModify
  refine OutBut.of (fun L s0 hL hok => ?_)
  repeat' first
    | with_reducible assumption
    | with_reducible refine writeRequest_frame (parts_sub (by decide) hL) ?_
    | intro _ _ _
    | intro _ _
    | intro _
    | dsimp only
    | dsimp only [id]

theorem execWindowRefresh_frame {rq : Requester} {g : Fun} {r : WinRequest} {s : State} :
    OutBut [StatePart.fnOther, .windows, .out] s (execWindowRefresh rq g r s) := by
  unfold execWindowRefresh
  refine OutBut.of (fun L s0 hL hok => ?_)
  repeat' first
    | with_reducible assumption
    | with_reducible refine writeRequest_frame (parts_sub (by decide) hL) ?_
    | intro _ _ _
    | intro _ _
    | intro _
    | dsimp only
    | dsimp only [id]

theorem execWindowRequestBadOp_frame {rq : Requester} {g : Fun} {r : WinRequest} {s : State} :
    OutBut [StatePart.fnOther, .windows, .out] s (execWindowRequestBadOp rq g r s) := by
  unfold execWindowRequestBadOp
  refine OutBut.of (fun L s0 hL hok => ?_)
  repeat' first
    | with_reducible assumption
    | with_reducible refine SameBut.ite ?_ ?_
    | with_reducible refine writeRequest_frame (parts_sub (by decide) hL) ?_
    | intro _ _ _
    | intro _ _
    | intro _
    | split
    | dsimp only
    | dsimp only [id]

theorem dropWindowEntries_frame {L : List StatePart} {s0 : State} {w : WindowId} {s : State}
    (hL : ∀ p ∈ [StatePart.counters, .int, .ctxs, .entries, .lookups, .out], p ∈ L) (hok : SameBut L s0 s) :
    SameBut L s0 (dropWindowEntries w s) := by
  unfold dropWindowEntries
  repeat' first
    | with_reducible assumption
    | with_reducible exact .inl rfl
    | exact .inr (hL _ (by decide))
    | (extract_lets +onlyGivenNames x
       first
       | (refine sameStep (L := L) (s0 := s0) (x := x) (fun hx => ?_) ?_; clear_value x; rotate_left; subst x)
       | subst x)
    | with_reducible refine SameBut.ite ?_ ?_
    | with_reducible refine scanBank_frame (parts_sub (by decide) hL) ?_
    | intro _ _ _
    | intro _ _
    | intro _
    | split
    | (simp only [same_lit]; with_reducible refine SameLit.of ?_ ?_ ?_ ?_ ?_ ?_ ?_ ?_ ?_ ?_ ?_ ?_ ?_ ?_ ?_ ?_ ?_ ?_ ?_ ?_ ?_ ?_ ?_ ?_ ?_ ?_ ?_ ?_ ?_ ?_ ?_ ?_ ?_ ?_ ?_ ?_ ?_ ?_ ?_ ?_)
    | exact .inl rfl
    | dsimp only
    | dsimp only [id]

theorem closeDone_frame {L : List StatePart} {s0 : State} {w : WindowId} {s : State}
    (hL : ∀ p ∈ [StatePart.counters, .int, .fnOther, .ctxs, .entries, .lookups, .windows, .out], p ∈ L) (hok : SameBut L s0 s) :
    SameBut L s0 (closeDone w s) := by
  unfold closeDone
  repeat' first
    | with_reducible assumption
    | with_reducible exact .inl rfl
    | exact .inr (hL _ (by decide))
    | (extract_lets +onlyGivenNames x
       first
       | (refine sameStep (L := L) (s0 := s0) (x := x) (fun hx => ?_) ?_; clear_value x; rotate_left; subst x)
       | (refine sameStep (L := L) (s0 := s0) (x := x.1) (fun hx => ?_) ?_; clear_value x; rotate_left; subst x)
       | subst x)
    | with_reducible refine SameBut.ite ?_ ?_
    | with_reducible refine dropWindowEntries_frame (parts_sub (by decide) hL) ?_
    | with_reducible refine foldState_frame (fun _ _ _ => ?_) ?_
    | with_reducible refine resultOk_frame (parts_sub (by decide) hL) ?_
    | with_reducible refine SameBut.ofPair ?_ (by with_reducible assumption)
    | intro _ _ _
    | intro _ _
    | intro _
    | split
    | (simp only [same_lit]; with_reducible refine SameLit.of ?_ ?_ ?_ ?_ ?_ ?_ ?_ ?_ ?_ ?_ ?_ ?_ ?_ ?_ ?_ ?_ ?_ ?_ ?_ ?_ ?_ ?_ ?_ ?_ ?_ ?_ ?_ ?_ ?_ ?_ ?_ ?_ ?_ ?_ ?_ ?_ ?_ ?_ ?_ ?_)
    | exact .inl rfl
    | dsimp only
    | dsimp only [id]

theorem execWindowCloseDone_frame {w : WindowId} {s : State} :
    OutBut [StatePart.counters, .int, .fnOther, .ctxs, .entries, .lookups, .windows, .out] s (execWindowCloseDone w s) := by
  unfold execWindowCloseDone
  refine OutBut.of (fun L s0 hL hok => ?_)
  repeat' first
    | with_reducible assumption
    | with_reducible refine closeDone_frame (parts_sub (by decide) hL) ?_
    | intro _ _ _
    | intro _ _
    | intro _
    | dsimp only
    | dsimp only [id]

theorem refreshDone_frame {L : List StatePart} {s0 : State} {w : WindowId} {s : State}
    (hL : ∀ p ∈ [StatePart.counters, .int, .fnOther, .ctxs, .entries, .lookups, .windows, .out], p ∈ L) (hok : SameBut L s0 s) :
    SameBut L s0 (refreshDone w s) := by
  unfold refreshDone
  repeat' first
    | with_reducible assumption
    | with_reducible exact .inl rfl
    | exact .inr (hL _ (by decide))
    | (extract_lets +onlyGivenNames x
       first
       | (refine sameStep (L := L) (s0 := s0) (x := x) (fun hx => ?_) ?_; clear_value x; rotate_left; subst x)
       | (refine sameStep (L := L) (s0 := s0) (x := x.1) (fun hx => ?_) ?_; clear_value x; rotate_left; subst x)
       | subst x)
    | with_reducible refine SameBut.ite ?_ ?_
    | with_reducible refine dropWindowEntries_frame (parts_sub (by decide) hL) ?_
    | with_reducible refine resultOk_frame (parts_sub (by decide) hL) ?_
    | with_reducible refine SameBut.ofPair ?_ (by with_reducible assumption)
    | intro _ _ _
    | intro _ _
    | intro _
    | split
    | (simp only [same_lit]; with_reducible refine SameLit.of ?_ ?_ ?_ ?_ ?_ ?_ ?_ ?_ ?_ ?_ ?_ ?_ ?_ ?_ ?_ ?_ ?_ ?_ ?_ ?_ ?_ ?_ ?_ ?_ ?_ ?_ ?_ ?_ ?_ ?_ ?_ ?_ ?_ ?_ ?_ ?_ ?_ ?_ ?_ ?_)
    | exact .inl rfl
    | dsimp only
    | dsimp only [id]

theorem execWindowRefreshDone_frame {w : WindowId} {s : State} :
    OutBut [StatePart.counters, .int, .fnOther, .ctxs, .entries, .lookups, .windows, .out] s (execWindowRefreshDone w s) := by
  unfold execWindowRefreshDone
  refine OutBut.of (fun L s0 hL hok => ?_)
  repeat' first
    | with_reducible assumption
    | with_reducible refine refreshDone_frame (parts_sub (by decide) hL) ?_
    | intro _ _ _
    | intro _ _
    | intro _
    | dsimp only
    | dsimp only [id]


/-! ### Machine/Coherence.lean -/

theorem setCoh_frame {L : List StatePart} {s0 : State} {n : Nat} {x : CohState × CohRefusal} {s : State}
    (hL : ∀ p ∈ [StatePart.coherence], p ∈ L) (hok : SameBut L s0 s) :
    SameBut L s0 (setCoh n x s) := by
  unfold setCoh
  repeat' first
    | with_reducible assumption
    | with_reducible exact .inl rfl
    | exact .inr (hL _ (by decide))
    | (extract_lets +onlyGivenNames x
       first
       | (refine sameStep (L := L) (s0 := s0) (x := x) (fun hx => ?_) ?_; clear_value x; rotate_left; subst x)
       | subst x)
    | intro _ _ _
    | intro _ _
    | intro _
    | (simp only [same_lit]; with_reducible refine SameLit.of ?_ ?_ ?_ ?_ ?_ ?_ ?_ ?_ ?_ ?_ ?_ ?_ ?_ ?_ ?_ ?_ ?_ ?_ ?_ ?_ ?_ ?_ ?_ ?_ ?_ ?_ ?_ ?_ ?_ ?_ ?_ ?_ ?_ ?_ ?_ ?_ ?_ ?_ ?_ ?_)
    | exact .inl rfl
    | dsimp only
    | dsimp only [id]

theorem enableCoh_frame {L : List StatePart} {s0 : State} {n : Nat} {s : State}
    (hL : ∀ p ∈ [StatePart.od, .stored, .counters, .mgmt, .int, .coherence], p ∈ L) (hok : SameBut L s0 s) :
    SameBut L s0 (enableCoh n s) := by
  unfold enableCoh
  repeat' first
    | with_reducible assumption
    | with_reducible exact .inl rfl
    | exact .inr (hL _ (by decide))
    | (extract_lets +onlyGivenNames x
       first
       | (refine sameStep (L := L) (s0 := s0) (x := x) (fun hx => ?_) ?_; clear_value x; rotate_left; subst x)
       | (refine sameStep (L := L) (s0 := s0) (x := x.1) (fun hx => ?_) ?_; clear_value x; rotate_left; subst x)
       | subst x)
    | with_reducible refine SameBut.ite ?_ ?_
    | with_reducible refine putObj_frame (parts_sub (by decide) hL) ?_
    | with_reducible refine setCoh_frame (parts_sub (by decide) hL) ?_
    | with_reducible refine SameBut.ofPair ?_ (by with_reducible assumption)
    | intro _ _ _
    | intro _ _
    | intro _
    | split
    | (simp only [same_lit]; with_reducible refine SameLit.of ?_ ?_ ?_ ?_ ?_ ?_ ?_ ?_ ?_ ?_ ?_ ?_ ?_ ?_ ?_ ?_ ?_ ?_ ?_ ?_ ?_ ?_ ?_ ?_ ?_ ?_ ?_ ?_ ?_ ?_ ?_ ?_ ?_ ?_ ?_ ?_ ?_ ?_ ?_ ?_)
    | exact .inl rfl
    | dsimp only
    | dsimp only [id]

theorem execCohEnable_frame {rq : Requester} {n : Fin 64} {s : State} :
    OutBut [StatePart.od, .stored, .counters, .mgmt, .int, .coherence, .out] s (execCohEnable rq n s) := by
  unfold execCohEnable
  refine OutBut.of (fun L s0 hL hok => ?_)
  repeat' first
    | with_reducible assumption
    | with_reducible refine requestWrite_frame (parts_sub (by decide) hL) ?_ ?_
    | with_reducible refine enableCoh_frame (parts_sub (by decide) hL) ?_
    | intro _ _ _
    | intro _ _
    | intro _
    | dsimp only
    | dsimp only [id]

theorem dropLine_frame {L : List StatePart} {s0 : State} {i : ErrInfo} {l : Line} {s : State}
    (hL : ∀ p ∈ [StatePart.counters, .int, .coherence, .out], p ∈ L) (hok : SameBut L s0 s) :
    SameBut L s0 (dropLine i l s) := by
  unfold dropLine
  repeat' first
    | with_reducible assumption
    | with_reducible refine foldState_frame (fun _ _ _ => ?_) ?_
    | with_reducible refine sendSnoop_frame (parts_sub (by decide) hL) ?_
    | intro _ _ _
    | intro _ _
    | intro _
    | dsimp only
    | dsimp only [id]

theorem disableCoh_frame {L : List StatePart} {s0 : State} {n : Nat} {s : State}
    (hL : ∀ p ∈ [StatePart.od, .stored, .counters, .mgmt, .int, .coherence, .out], p ∈ L) (hok : SameBut L s0 s) :
    SameBut L s0 (disableCoh n s) := by
  unfold disableCoh
  repeat' first
    | with_reducible assumption
    | with_reducible exact .inl rfl
    | exact .inr (hL _ (by decide))
    | (extract_lets +onlyGivenNames x
       first
       | (refine sameStep (L := L) (s0 := s0) (x := x) (fun hx => ?_) ?_; clear_value x; rotate_left; subst x)
       | (refine sameStep (L := L) (s0 := s0) (x := x.1) (fun hx => ?_) ?_; clear_value x; rotate_left; subst x)
       | subst x)
    | with_reducible refine putObj_frame (parts_sub (by decide) hL) ?_
    | with_reducible refine foldState_frame (fun _ _ _ => ?_) ?_
    | with_reducible refine dropLine_frame (parts_sub (by decide) hL) ?_
    | with_reducible refine setCoh_frame (parts_sub (by decide) hL) ?_
    | with_reducible refine SameBut.ofPair ?_ (by with_reducible assumption)
    | intro _ _ _
    | intro _ _
    | intro _
    | split
    | (simp only [same_lit]; with_reducible refine SameLit.of ?_ ?_ ?_ ?_ ?_ ?_ ?_ ?_ ?_ ?_ ?_ ?_ ?_ ?_ ?_ ?_ ?_ ?_ ?_ ?_ ?_ ?_ ?_ ?_ ?_ ?_ ?_ ?_ ?_ ?_ ?_ ?_ ?_ ?_ ?_ ?_ ?_ ?_ ?_ ?_)
    | exact .inl rfl
    | dsimp only
    | dsimp only [id]

theorem execCohDisable_frame {rq : Requester} {n : Fin 64} {s : State} :
    OutBut [StatePart.od, .stored, .counters, .mgmt, .int, .coherence, .out] s (execCohDisable rq n s) := by
  unfold execCohDisable
  refine OutBut.of (fun L s0 hL hok => ?_)
  repeat' first
    | with_reducible assumption
    | with_reducible refine requestWrite_frame (parts_sub (by decide) hL) ?_ ?_
    | with_reducible refine disableCoh_frame (parts_sub (by decide) hL) ?_
    | intro _ _ _
    | intro _ _
    | intro _
    | dsimp only
    | dsimp only [id]

theorem execCohCloseDone_frame {n : Fin 64} {s : State} :
    OutBut [StatePart.counters, .int, .coherence, .out] s (execCohCloseDone n s) := by
  unfold execCohCloseDone
  refine OutBut.of (fun L s0 hL hok => ?_)
  repeat' first
    | with_reducible assumption
    | with_reducible exact .inl rfl
    | exact .inr (hL _ (by decide))
    | (extract_lets +onlyGivenNames x
       first
       | (refine sameStep (L := L) (s0 := s0) (x := x) (fun hx => ?_) ?_; clear_value x; rotate_left; subst x)
       | (refine sameStep (L := L) (s0 := s0) (x := x.1) (fun hx => ?_) ?_; clear_value x; rotate_left; subst x)
       | subst x)
    | with_reducible refine SameBut.ite ?_ ?_
    | with_reducible refine setCoh_frame (parts_sub (by decide) hL) ?_
    | with_reducible refine foldState_frame (fun _ _ _ => ?_) ?_
    | with_reducible refine dropLine_frame (parts_sub (by decide) hL) ?_
    | with_reducible refine SameBut.ofPair ?_ (by with_reducible assumption)
    | intro _ _ _
    | intro _ _
    | intro _
    | split
    | (simp only [same_lit]; with_reducible refine SameLit.of ?_ ?_ ?_ ?_ ?_ ?_ ?_ ?_ ?_ ?_ ?_ ?_ ?_ ?_ ?_ ?_ ?_ ?_ ?_ ?_ ?_ ?_ ?_ ?_ ?_ ?_ ?_ ?_ ?_ ?_ ?_ ?_ ?_ ?_ ?_ ?_ ?_ ?_ ?_ ?_)
    | exact .inl rfl
    | dsimp only
    | dsimp only [id]

theorem trackLine_frame {L : List StatePart} {s0 : State} {d : Die} {write : Bool} {a : Nat} {s : State}
    (hL : ∀ p ∈ [StatePart.coherence], p ∈ L) (hok : SameBut L s0 s) :
    SameBut L s0 (trackLine d write a s) := by
  unfold trackLine
  repeat' first
    | with_reducible assumption
    | with_reducible exact .inl rfl
    | exact .inr (hL _ (by decide))
    | (extract_lets +onlyGivenNames x
       first
       | (refine sameStep (L := L) (s0 := s0) (x := x) (fun hx => ?_) ?_; clear_value x; rotate_left; subst x)
       | subst x)
    | with_reducible refine SameBut.ite ?_ ?_
    | with_reducible refine SameBut.ofPair ?_ (by with_reducible assumption)
    | intro _ _ _
    | intro _ _
    | intro _
    | split
    | (simp only [same_lit]; with_reducible refine SameLit.of ?_ ?_ ?_ ?_ ?_ ?_ ?_ ?_ ?_ ?_ ?_ ?_ ?_ ?_ ?_ ?_ ?_ ?_ ?_ ?_ ?_ ?_ ?_ ?_ ?_ ?_ ?_ ?_ ?_ ?_ ?_ ?_ ?_ ?_ ?_ ?_ ?_ ?_ ?_ ?_)
    | exact .inl rfl
    | dsimp only
    | dsimp only [id]

theorem runCoherent_frame {L : List StatePart} {s0 : State} {d : Die} {on : Bool} {a : Nat} {x : CohAccess} {s : State}
    (hL : ∀ p ∈ [StatePart.counters, .int, .coherence, .memory, .pool, .out], p ∈ L) (hok : SameBut L s0 s) :
    SameBut L s0 (runCoherent d on a x s) := by
  unfold runCoherent
  repeat' first
    | with_reducible assumption
    | with_reducible exact .inl rfl
    | exact .inr (hL _ (by decide))
    | (extract_lets +onlyGivenNames x
       first
       | (refine sameStep (L := L) (s0 := s0) (x := x) (fun hx => ?_) ?_; clear_value x; rotate_left; subst x)
       | subst x)
    | with_reducible refine SameBut.ite ?_ ?_
    | with_reducible refine countPackage_frame (parts_sub (by decide) hL) ?_
    | with_reducible refine emit_frame (parts_sub (by decide) hL) ?_
    | with_reducible refine poolWrite_frame (parts_sub (by decide) hL) ?_
    | with_reducible refine foldState_frame (fun _ _ _ => ?_) ?_
    | with_reducible refine trackLine_frame (parts_sub (by decide) hL) ?_
    | with_reducible refine SameBut.ofPair ?_ (by with_reducible assumption)
    | intro _ _ _
    | intro _ _
    | intro _
    | split
    | (simp only [same_lit]; with_reducible refine SameLit.of ?_ ?_ ?_ ?_ ?_ ?_ ?_ ?_ ?_ ?_ ?_ ?_ ?_ ?_ ?_ ?_ ?_ ?_ ?_ ?_ ?_ ?_ ?_ ?_ ?_ ?_ ?_ ?_ ?_ ?_ ?_ ?_ ?_ ?_ ?_ ?_ ?_ ?_ ?_ ?_)
    | exact .inl rfl
    | dsimp only
    | dsimp only [id]

theorem tryCoherent_frame {L : List StatePart} {s0 : State} {d : Die} {addr : Nat} {x : CohAccess} {s : State}
    (hL : ∀ p ∈ [StatePart.counters, .int, .coherence, .memory, .pool, .out], p ∈ L) (hok : SameBut L s0 s) :
    SameBut L s0 (tryCoherent d addr x s).1 := by
  unfold tryCoherent
  repeat' first
    | with_reducible assumption
    | with_reducible exact .inl rfl
    | exact .inr (hL _ (by decide))
    | (extract_lets +onlyGivenNames x
       first
       | (refine sameStep (L := L) (s0 := s0) (x := x) (fun hx => ?_) ?_; clear_value x; rotate_left; subst x)
       | (refine sameStep (L := L) (s0 := s0) (x := x.1) (fun hx => ?_) ?_; clear_value x; rotate_left; subst x)
       | subst x)
    | with_reducible refine SameBut.ite ?_ ?_
    | with_reducible refine gateSnoops_frame (parts_sub (by decide) hL) ?_
    | with_reducible refine dropLine_frame (parts_sub (by decide) hL) ?_
    | with_reducible refine runCoherent_frame (parts_sub (by decide) hL) ?_
    | with_reducible refine SameBut.ofPair ?_ (by with_reducible assumption)
    | intro _ _ _
    | intro _ _
    | intro _
    | split
    | (simp only [same_lit]; with_reducible refine SameLit.of ?_ ?_ ?_ ?_ ?_ ?_ ?_ ?_ ?_ ?_ ?_ ?_ ?_ ?_ ?_ ?_ ?_ ?_ ?_ ?_ ?_ ?_ ?_ ?_ ?_ ?_ ?_ ?_ ?_ ?_ ?_ ?_ ?_ ?_ ?_ ?_ ?_ ?_ ?_ ?_)
    | exact .inl rfl
    | dsimp only
    | dsimp only [id]

theorem coherentAccess_frame {L : List StatePart} {s0 : State} {d : Die} {addr : Nat} {x : CohAccess} {s : State}
    (hL : ∀ p ∈ [StatePart.counters, .fnCfg, .int, .coherence, .memory, .pool, .out], p ∈ L) (hok : SameBut L s0 s) :
    SameBut L s0 (coherentAccess d addr x s) := by
  unfold coherentAccess
  repeat' first
    | with_reducible assumption
    | with_reducible exact .inl rfl
    | exact .inr (hL _ (by decide))
    | (extract_lets +onlyGivenNames x
       first
       | (refine sameStep (L := L) (s0 := s0) (x := x) (fun hx => ?_) ?_; clear_value x; rotate_left; subst x)
       | subst x)
    | with_reducible refine SameBut.ite ?_ ?_
    | with_reducible refine aerUncorrectable_frame (parts_sub (by decide) hL) ?_
    | with_reducible refine emit_frame (parts_sub (by decide) hL) ?_
    | with_reducible refine tryCoherent_frame (parts_sub (by decide) hL) ?_
    | with_reducible refine SameBut.ofPair ?_ (by with_reducible assumption)
    | intro _ _ _
    | intro _ _
    | intro _
    | split
    | (simp only [same_lit]; with_reducible refine SameLit.of ?_ ?_ ?_ ?_ ?_ ?_ ?_ ?_ ?_ ?_ ?_ ?_ ?_ ?_ ?_ ?_ ?_ ?_ ?_ ?_ ?_ ?_ ?_ ?_ ?_ ?_ ?_ ?_ ?_ ?_ ?_ ?_ ?_ ?_ ?_ ?_ ?_ ?_ ?_ ?_)
    | exact .inl rfl
    | dsimp only
    | dsimp only [id]

theorem execCoherentAccess_frame {d : Die} {addr : U64} {x : CohAccess} {s : State} :
    OutBut [StatePart.counters, .fnCfg, .int, .coherence, .memory, .pool, .out] s (execCoherentAccess d addr x s) := by
  unfold execCoherentAccess
  refine OutBut.of (fun L s0 hL hok => ?_)
  repeat' first
    | with_reducible assumption
    | with_reducible refine coherentAccess_frame (parts_sub (by decide) hL) ?_
    | intro _ _ _
    | intro _ _
    | intro _
    | dsimp only
    | dsimp only [id]

theorem retryWaiting_frame {L : List StatePart} {s0 : State}  {r0 : List (Die × U64 × CohAccess)} {s : State}
    (hL : ∀ p ∈ [StatePart.counters, .fnCfg, .int, .coherence, .memory, .pool, .out], p ∈ L) (hok : SameBut L s0 s) :
    SameBut L s0 (retryWaiting r0 s) := by
  induction r0 generalizing s with
  | nil =>
    unfold retryWaiting
    repeat' first
      | with_reducible assumption
      | with_reducible exact .inl rfl
      | exact .inr (hL _ (by decide))
      | (extract_lets +onlyGivenNames x
         first
         | (refine sameStep (L := L) (s0 := s0) (x := x) (fun hx => ?_) ?_; clear_value x; rotate_left; subst x)
         | (refine sameStep (L := L) (s0 := s0) (x := x.1) (fun hx => ?_) ?_; clear_value x; rotate_left; subst x)
         | subst x)
      | with_reducible refine coherentAccess_frame (parts_sub (by decide) hL) ?_
      | with_reducible refine tryCoherent_frame (parts_sub (by decide) hL) ?_
      | with_reducible refine SameBut.ofPair ?_ (by with_reducible assumption)
      | intro _ _ _
      | intro _ _
      | intro _
      | split
      | (simp only [same_lit]; with_reducible refine SameLit.of ?_ ?_ ?_ ?_ ?_ ?_ ?_ ?_ ?_ ?_ ?_ ?_ ?_ ?_ ?_ ?_ ?_ ?_ ?_ ?_ ?_ ?_ ?_ ?_ ?_ ?_ ?_ ?_ ?_ ?_ ?_ ?_ ?_ ?_ ?_ ?_ ?_ ?_ ?_ ?_)
      | exact .inl rfl
      | dsimp only
      | dsimp only [id]
  | cons x r0 ih =>
    unfold retryWaiting
    repeat' first
      | with_reducible assumption
      | (extract_lets +onlyGivenNames x
         first
         | (refine sameStep (L := L) (s0 := s0) (x := x) (fun hx => ?_) ?_; clear_value x; rotate_left; subst x)
         | (refine sameStep (L := L) (s0 := s0) (x := x.1) (fun hx => ?_) ?_; clear_value x; rotate_left; subst x)
         | subst x)
      | with_reducible apply ih
      | with_reducible exact .inl rfl
      | exact .inr (hL _ (by decide))
      | with_reducible refine coherentAccess_frame (parts_sub (by decide) hL) ?_
      | with_reducible refine tryCoherent_frame (parts_sub (by decide) hL) ?_
      | with_reducible refine SameBut.ofPair ?_ (by with_reducible assumption)
      | intro _ _ _
      | intro _ _
      | intro _
      | split
      | (simp only [same_lit]; with_reducible refine SameLit.of ?_ ?_ ?_ ?_ ?_ ?_ ?_ ?_ ?_ ?_ ?_ ?_ ?_ ?_ ?_ ?_ ?_ ?_ ?_ ?_ ?_ ?_ ?_ ?_ ?_ ?_ ?_ ?_ ?_ ?_ ?_ ?_ ?_ ?_ ?_ ?_ ?_ ?_ ?_ ?_)
      | exact .inl rfl
      | dsimp only
      | dsimp only [id]

theorem snoopAck_frame {L : List StatePart} {s0 : State} {d : Die} {line : Nat} {data : Option Bytes} {s : State}
    (hL : ∀ p ∈ [StatePart.od, .stored, .counters, .mgmt, .links, .intx, .requests, .fnCfg, .admin, .int, .capture, .ctxs, .slots, .cmds, .engines, .entries, .lookups, .peers, .windows, .coherence, .memory, .pool, .det, .err, .power, .boot, .draws, .out], p ∈ L) (hok : SameBut L s0 s) :
    SameBut L s0 (snoopAck d line data s) := by
  unfold snoopAck
  repeat' first
    | with_reducible assumption
    | with_reducible exact .inl rfl
    | exact .inr (hL _ (by decide))
    | (extract_lets +onlyGivenNames x
       first
       | (refine sameStep (L := L) (s0 := s0) (x := x) (fun hx => ?_) ?_; clear_value x; rotate_left; subst x)
       | subst x)
    | with_reducible refine SameBut.ite ?_ ?_
    | with_reducible refine poolWrite_frame (parts_sub (by decide) hL) ?_
    | with_reducible refine wake_frame (parts_sub (by decide) hL) ?_
    | with_reducible refine retryWaiting_frame (parts_sub (by decide) hL) ?_
    | with_reducible refine SameBut.ofPair ?_ (by with_reducible assumption)
    | intro _ _ _
    | intro _ _
    | intro _
    | split
    | (simp only [same_lit]; with_reducible refine SameLit.of ?_ ?_ ?_ ?_ ?_ ?_ ?_ ?_ ?_ ?_ ?_ ?_ ?_ ?_ ?_ ?_ ?_ ?_ ?_ ?_ ?_ ?_ ?_ ?_ ?_ ?_ ?_ ?_ ?_ ?_ ?_ ?_ ?_ ?_ ?_ ?_ ?_ ?_ ?_ ?_)
    | exact .inl rfl
    | dsimp only
    | dsimp only [id]

theorem execSnoopAck_frame {d : Die} {line : Nat} {data : Option Bytes} {s : State} :
    OutBut [StatePart.od, .stored, .counters, .mgmt, .links, .intx, .requests, .fnCfg, .admin, .int, .capture, .ctxs, .slots, .cmds, .engines, .entries, .lookups, .peers, .windows, .coherence, .memory, .pool, .det, .err, .power, .boot, .draws, .out] s (execSnoopAck d line data s) := by
  unfold execSnoopAck
  refine OutBut.of (fun L s0 hL hok => ?_)
  repeat' first
    | with_reducible assumption
    | with_reducible refine snoopAck_frame (parts_sub (by decide) hL) ?_
    | intro _ _ _
    | intro _ _
    | intro _
    | dsimp only
    | dsimp only [id]

theorem execSnoopTimeout_frame {d : Die} {line : Nat} {s : State} :
    OutBut [StatePart.od, .stored, .counters, .mgmt, .links, .intx, .fnCfg, .int, .capture, .coherence, .err, .power, .out] s (execSnoopTimeout d line s) := by
  unfold execSnoopTimeout
  refine OutBut.of (fun L s0 hL hok => ?_)
  repeat' first
    | with_reducible assumption
    | with_reducible exact .inl rfl
    | exact .inr (hL _ (by decide))
    | (extract_lets +onlyGivenNames x
       first
       | (refine sameStep (L := L) (s0 := s0) (x := x) (fun hx => ?_) ?_; clear_value x; rotate_left; subst x)
       | subst x)
    | with_reducible refine SameBut.ite ?_ ?_
    | with_reducible refine raiseError_frame (parts_sub (by decide) hL) ?_
    | with_reducible refine SameBut.ofPair ?_ (by with_reducible assumption)
    | intro _ _ _
    | intro _ _
    | intro _
    | split
    | (simp only [same_lit]; with_reducible refine SameLit.of ?_ ?_ ?_ ?_ ?_ ?_ ?_ ?_ ?_ ?_ ?_ ?_ ?_ ?_ ?_ ?_ ?_ ?_ ?_ ?_ ?_ ?_ ?_ ?_ ?_ ?_ ?_ ?_ ?_ ?_ ?_ ?_ ?_ ?_ ?_ ?_ ?_ ?_ ?_ ?_)
    | exact .inl rfl
    | dsimp only
    | dsimp only [id]


/-! ### Machine/Pool.lean -/

theorem trackRow_frame {L : List StatePart} {s0 : State} {row : Nat} {s : State}
    (hL : ∀ p ∈ [StatePart.od, .stored, .counters, .mgmt, .links, .intx, .fnCfg, .int, .capture, .memory, .pool, .err, .power, .out], p ∈ L) (hok : SameBut L s0 s) :
    SameBut L s0 (trackRow row s) := by
  unfold trackRow
  repeat' first
    | with_reducible assumption
    | with_reducible exact .inl rfl
    | exact .inr (hL _ (by decide))
    | (extract_lets +onlyGivenNames x
       first
       | (refine sameStep (L := L) (s0 := s0) (x := x) (fun hx => ?_) ?_; clear_value x; rotate_left; subst x)
       | (refine sameStep (L := L) (s0 := s0) (x := x.1) (fun hx => ?_) ?_; clear_value x; rotate_left; subst x)
       | subst x)
    | with_reducible refine SameBut.ite ?_ ?_
    | with_reducible refine startRemap_frame (parts_sub (by decide) hL) ?_
    | intro _ _ _
    | intro _ _
    | intro _
    | split
    | (simp only [same_lit]; with_reducible refine SameLit.of ?_ ?_ ?_ ?_ ?_ ?_ ?_ ?_ ?_ ?_ ?_ ?_ ?_ ?_ ?_ ?_ ?_ ?_ ?_ ?_ ?_ ?_ ?_ ?_ ?_ ?_ ?_ ?_ ?_ ?_ ?_ ?_ ?_ ?_ ?_ ?_ ?_ ?_ ?_ ?_)
    | exact .inl rfl
    | dsimp only
    | dsimp only [id]

theorem readPoison_frame {L : List StatePart} {s0 : State} {line : Nat} {reader : LineReader} {s : State}
    (hL : ∀ p ∈ [StatePart.od, .stored, .counters, .mgmt, .links, .intx, .fnCfg, .int, .capture, .ctxs, .cmds, .engines, .lookups, .peers, .windows, .err, .power, .out], p ∈ L) (hok : SameBut L s0 s) :
    SameBut L s0 (readPoison line reader s) := by
  unfold readPoison
  repeat' first
    | with_reducible assumption
    | with_reducible exact .inl rfl
    | exact .inr (hL _ (by decide))
    | (extract_lets +onlyGivenNames x
       first
       | (refine sameStep (L := L) (s0 := s0) (x := x) (fun hx => ?_) ?_; clear_value x; rotate_left; subst x)
       | subst x)
    | with_reducible refine SameBut.ite ?_ ?_
    | with_reducible refine loseContext_frame (parts_sub (by decide) hL) ?_
    | with_reducible refine countPackage_frame (parts_sub (by decide) hL) ?_
    | with_reducible refine SameBut.ofPair ?_ (by with_reducible assumption)
    | intro _ _ _
    | intro _ _
    | intro _
    | split
    | (simp only [same_lit]; with_reducible refine SameLit.of ?_ ?_ ?_ ?_ ?_ ?_ ?_ ?_ ?_ ?_ ?_ ?_ ?_ ?_ ?_ ?_ ?_ ?_ ?_ ?_ ?_ ?_ ?_ ?_ ?_ ?_ ?_ ?_ ?_ ?_ ?_ ?_ ?_ ?_ ?_ ?_ ?_ ?_ ?_ ?_)
    | exact .inl rfl
    | dsimp only
    | dsimp only [id]

theorem remapFrom_frame {L : List StatePart} {s0 : State} {row : Nat} {from_ bad : List (Nat × Nat)} {s : State}
    (hL : ∀ p ∈ [StatePart.od, .stored, .counters, .mgmt, .links, .intx, .fnCfg, .int, .capture, .memory, .pool, .err, .power, .out], p ∈ L) (hok : SameBut L s0 s) :
    SameBut L s0 (remapFrom row from_ bad s) := by
  unfold remapFrom
  repeat' first
    | with_reducible assumption
    | (extract_lets +onlyGivenNames x
       first
       | (refine sameStep (L := L) (s0 := s0) (x := x) (fun hx => ?_) ?_; clear_value x; rotate_left; subst x)
       | (refine sameStep (L := L) (s0 := s0) (x := x.1) (fun hx => ?_) ?_; clear_value x; rotate_left; subst x)
       | subst x)
    | with_reducible refine SameBut.ite ?_ ?_
    | with_reducible refine startRemap_frame (parts_sub (by decide) hL) ?_
    | with_reducible refine logRow_frame (parts_sub (by decide) hL) ?_
    | intro _ _ _
    | intro _ _
    | intro _
    | split
    | dsimp only
    | dsimp only [id]

theorem serveMirror_frame {L : List StatePart} {s0 : State} {line m : Nat} {i : ErrInfo} {s : State}
    (hL : ∀ p ∈ [StatePart.od, .stored, .counters, .mgmt, .links, .intx, .fnCfg, .int, .capture, .memory, .pool, .err, .power, .out], p ∈ L) (hok : SameBut L s0 s) :
    SameBut L s0 (serveMirror line m i s) := by
  unfold serveMirror
  repeat' first
    | with_reducible assumption
    | with_reducible refine remapFrom_frame (parts_sub (by decide) hL) ?_
    | with_reducible refine raiseError_frame (parts_sub (by decide) hL) ?_
    | with_reducible refine countPackage_frame (parts_sub (by decide) hL) ?_
    | intro _ _ _
    | intro _ _
    | intro _
    | dsimp only
    | dsimp only [id]

theorem mendMirror_frame {L : List StatePart} {s0 : State} {line m : Nat} {s : State}
    (hL : ∀ p ∈ [StatePart.od, .stored, .counters, .mgmt, .links, .intx, .fnCfg, .int, .capture, .memory, .pool, .err, .power, .out], p ∈ L) (hok : SameBut L s0 s) :
    SameBut L s0 (mendMirror line m s) := by
  unfold mendMirror
  repeat' first
    | with_reducible assumption
    | with_reducible refine remapFrom_frame (parts_sub (by decide) hL) ?_
    | intro _ _ _
    | intro _ _
    | intro _
    | dsimp only
    | dsimp only [id]

theorem loseCopies_frame {L : List StatePart} {s0 : State} {line mirror : Nat} {i : ErrInfo} {s : State}
    (hL : ∀ p ∈ [StatePart.od, .stored, .counters, .mgmt, .links, .intx, .fnCfg, .int, .capture, .pool, .err, .power, .out], p ∈ L) (hok : SameBut L s0 s) :
    SameBut L s0 (loseCopies line mirror i s) := by
  unfold loseCopies
  repeat' first
    | with_reducible assumption
    | with_reducible refine SameBut.ite ?_ ?_
    | with_reducible refine raiseError_frame (parts_sub (by decide) hL) ?_
    | with_reducible refine logRow_frame (parts_sub (by decide) hL) ?_
    | with_reducible refine poisonLine_frame (parts_sub (by decide) hL) ?_
    | intro _ _ _
    | intro _ _
    | intro _
    | split
    | dsimp only
    | dsimp only [id]

theorem stackRead_frame {L : List StatePart} {s0 : State} {line copy : Nat} {s : State}
    (hL : ∀ p ∈ [StatePart.out], p ∈ L) (hok : SameBut L s0 s) :
    SameBut L s0 (stackRead line copy s) := by
  unfold stackRead
  repeat' first
    | with_reducible assumption
    | with_reducible refine emit_frame (parts_sub (by decide) hL) ?_
    | intro _ _ _
    | intro _ _
    | intro _
    | dsimp only
    | dsimp only [id]

theorem fetchLine_frame {L : List StatePart} {s0 : State} {line : Nat} {primary mirror : LineCheck} {i : ErrInfo} {s : State}
    (hL : ∀ p ∈ [StatePart.od, .stored, .counters, .mgmt, .links, .intx, .fnCfg, .int, .capture, .memory, .pool, .err, .power, .out], p ∈ L) (hok : SameBut L s0 s) :
    SameBut L s0 (fetchLine line primary mirror i s) := by
  unfold fetchLine
  repeat' first
    | with_reducible assumption
    | with_reducible exact .inl rfl
    | exact .inr (hL _ (by decide))
    | (extract_lets +onlyGivenNames x
       first
       | (refine sameStep (L := L) (s0 := s0) (x := x) (fun hx => ?_) ?_; clear_value x; rotate_left; subst x)
       | subst x)
    | with_reducible refine SameBut.ite ?_ ?_
    | with_reducible refine stackRead_frame (parts_sub (by decide) hL) ?_
    | with_reducible refine countPackage_frame (parts_sub (by decide) hL) ?_
    | with_reducible refine loseCopies_frame (parts_sub (by decide) hL) ?_
    | with_reducible refine trackRow_frame (parts_sub (by decide) hL) ?_
    | with_reducible refine serveMirror_frame (parts_sub (by decide) hL) ?_
    | with_reducible refine poisonLine_frame (parts_sub (by decide) hL) ?_
    | with_reducible refine mendMirror_frame (parts_sub (by decide) hL) ?_
    | with_reducible refine SameBut.ofPair ?_ (by with_reducible assumption)
    | intro _ _ _
    | intro _ _
    | intro _
    | split
    | (simp only [same_lit]; with_reducible refine SameLit.of ?_ ?_ ?_ ?_ ?_ ?_ ?_ ?_ ?_ ?_ ?_ ?_ ?_ ?_ ?_ ?_ ?_ ?_ ?_ ?_ ?_ ?_ ?_ ?_ ?_ ?_ ?_ ?_ ?_ ?_ ?_ ?_ ?_ ?_ ?_ ?_ ?_ ?_ ?_ ?_)
    | exact .inl rfl
    | dsimp only
    | dsimp only [id]

theorem cacheFails_frame {L : List StatePart} {s0 : State} {line : Nat} {primary mirror : LineCheck} {i : ErrInfo} {s : State}
    (hL : ∀ p ∈ [StatePart.od, .stored, .counters, .mgmt, .links, .intx, .fnCfg, .int, .capture, .memory, .pool, .err, .power, .out], p ∈ L) (hok : SameBut L s0 s) :
    SameBut L s0 (cacheFails line primary mirror i s) := by
  unfold cacheFails
  repeat' first
    | with_reducible assumption
    | (extract_lets +onlyGivenNames x
       first
       | (refine sameStep (L := L) (s0 := s0) (x := x) (fun hx => ?_) ?_; clear_value x; rotate_left; subst x)
       | subst x)
    | with_reducible refine SameBut.ite ?_ ?_
    | with_reducible refine fetchLine_frame (parts_sub (by decide) hL) ?_
    | with_reducible refine countPackage_frame (parts_sub (by decide) hL) ?_
    | with_reducible refine raiseError_frame (parts_sub (by decide) hL) ?_
    | with_reducible refine poisonLine_frame (parts_sub (by decide) hL) ?_
    | intro _ _ _
    | intro _ _
    | intro _
    | split
    | dsimp only
    | dsimp only [id]

theorem lineRead_frame {L : List StatePart} {s0 : State} {line : Nat} {cacheBad : Bool} {primary mirror : LineCheck} {reader : LineReader} {s : State}
    (hL : ∀ p ∈ [StatePart.od, .stored, .counters, .mgmt, .links, .intx, .fnCfg, .int, .capture, .ctxs, .cmds, .engines, .lookups, .peers, .windows, .memory, .pool, .err, .power, .out], p ∈ L) (hok : SameBut L s0 s) :
    SameBut L s0 (lineRead line cacheBad primary mirror reader s) := by
  unfold lineRead
  repeat' first
    | with_reducible assumption
    | (extract_lets +onlyGivenNames x
       first
       | (refine sameStep (L := L) (s0 := s0) (x := x) (fun hx => ?_) ?_; clear_value x; rotate_left; subst x)
       | subst x)
    | with_reducible refine SameBut.ite ?_ ?_
    | with_reducible refine readPoison_frame (parts_sub (by decide) hL) ?_
    | with_reducible refine cacheFails_frame (parts_sub (by decide) hL) ?_
    | with_reducible refine fetchLine_frame (parts_sub (by decide) hL) ?_
    | intro _ _ _
    | intro _ _
    | intro _
    | split
    | dsimp only
    | dsimp only [id]

theorem execPoolLineRead_frame {line : Nat} {cacheBad : Bool} {checks : CopyChecks} {reader : LineReader} {s : State} :
    OutBut [StatePart.od, .stored, .counters, .mgmt, .links, .intx, .fnCfg, .int, .capture, .ctxs, .cmds, .engines, .lookups, .peers, .windows, .memory, .pool, .err, .power, .out] s (execPoolLineRead line cacheBad checks reader s) := by
  unfold execPoolLineRead
  refine OutBut.of (fun L s0 hL hok => ?_)
  repeat' first
    | with_reducible assumption
    | with_reducible refine lineRead_frame (parts_sub (by decide) hL) ?_
    | intro _ _ _
    | intro _ _
    | intro _
    | dsimp only
    | dsimp only [id]

theorem copyToSpare_frame {L : List StatePart} {s0 : State} {m : Remap} {line : Nat} {s : State}
    (hL : ∀ p ∈ [StatePart.out], p ∈ L) (hok : SameBut L s0 s) :
    SameBut L s0 (copyToSpare m line s) := by
  unfold copyToSpare
  repeat' first
    | with_reducible assumption
    | (extract_lets +onlyGivenNames x
       first
       | (refine sameStep (L := L) (s0 := s0) (x := x) (fun hx => ?_) ?_; clear_value x; rotate_left; subst x)
       | subst x)
    | with_reducible refine emit_frame (parts_sub (by decide) hL) ?_
    | intro _ _ _
    | intro _ _
    | intro _
    | dsimp only
    | dsimp only [id]

theorem remapDone_frame {L : List StatePart} {s0 : State} {row : Nat} {s : State}
    (hL : ∀ p ∈ [StatePart.od, .stored, .counters, .mgmt, .links, .intx, .fnCfg, .int, .capture, .pool, .err, .power, .out], p ∈ L) (hok : SameBut L s0 s) :
    SameBut L s0 (remapDone row s) := by
  unfold remapDone
  repeat' first
    | with_reducible assumption
    | with_reducible exact .inl rfl
    | exact .inr (hL _ (by decide))
    | (extract_lets +onlyGivenNames x
       first
       | (refine sameStep (L := L) (s0 := s0) (x := x) (fun hx => ?_) ?_; clear_value x; rotate_left; subst x)
       | (refine sameStep (L := L) (s0 := s0) (x := x.1) (fun hx => ?_) ?_; clear_value x; rotate_left; subst x)
       | subst x)
    | with_reducible refine SameBut.ite ?_ ?_
    | with_reducible refine foldState_frame (fun _ _ _ => ?_) ?_
    | with_reducible refine copyToSpare_frame (parts_sub (by decide) hL) ?_
    | with_reducible refine raiseError_frame (parts_sub (by decide) hL) ?_
    | with_reducible refine SameBut.ofPair ?_ (by with_reducible assumption)
    | intro _ _ _
    | intro _ _
    | intro _
    | split
    | (simp only [same_lit]; with_reducible refine SameLit.of ?_ ?_ ?_ ?_ ?_ ?_ ?_ ?_ ?_ ?_ ?_ ?_ ?_ ?_ ?_ ?_ ?_ ?_ ?_ ?_ ?_ ?_ ?_ ?_ ?_ ?_ ?_ ?_ ?_ ?_ ?_ ?_ ?_ ?_ ?_ ?_ ?_ ?_ ?_ ?_)
    | exact .inl rfl
    | dsimp only
    | dsimp only [id]

theorem execRowRemapCopyDone_frame {row : Nat} {s : State} :
    OutBut [StatePart.od, .stored, .counters, .mgmt, .links, .intx, .fnCfg, .int, .capture, .pool, .err, .power, .out] s (execRowRemapCopyDone row s) := by
  unfold execRowRemapCopyDone
  refine OutBut.of (fun L s0 hL hok => ?_)
  repeat' first
    | with_reducible assumption
    | with_reducible refine remapDone_frame (parts_sub (by decide) hL) ?_
    | intro _ _ _
    | intro _ _
    | intro _
    | dsimp only
    | dsimp only [id]

theorem scrubStep_frame {L : List StatePart} {s0 : State} {base : Nat} {extent : Bool} {s : State}
    (hL : ∀ p ∈ [StatePart.od, .stored, .counters, .mgmt, .links, .intx, .requests, .fnCfg, .admin, .int, .capture, .ctxs, .slots, .cmds, .engines, .entries, .lookups, .peers, .windows, .coherence, .memory, .pool, .det, .err, .power, .boot, .draws, .out], p ∈ L) (hok : SameBut L s0 s) :
    SameBut L s0 (scrubStep base extent s) := by
  unfold scrubStep
  repeat' first
    | with_reducible assumption
    | with_reducible exact .inl rfl
    | exact .inr (hL _ (by decide))
    | (extract_lets +onlyGivenNames x
       first
       | (refine sameStep (L := L) (s0 := s0) (x := x) (fun hx => ?_) ?_; clear_value x; rotate_left; subst x)
       | subst x)
    | with_reducible refine SameBut.ite ?_ ?_
    | with_reducible refine scrubSome_frame (parts_sub (by decide) hL) ?_
    | with_reducible refine wake_frame (parts_sub (by decide) hL) ?_
    | with_reducible refine SameBut.ofPair ?_ (by with_reducible assumption)
    | intro _ _ _
    | intro _ _
    | intro _
    | split
    | (simp only [same_lit]; with_reducible refine SameLit.of ?_ ?_ ?_ ?_ ?_ ?_ ?_ ?_ ?_ ?_ ?_ ?_ ?_ ?_ ?_ ?_ ?_ ?_ ?_ ?_ ?_ ?_ ?_ ?_ ?_ ?_ ?_ ?_ ?_ ?_ ?_ ?_ ?_ ?_ ?_ ?_ ?_ ?_ ?_ ?_)
    | exact .inl rfl
    | dsimp only
    | dsimp only [id]

theorem memStep_frame {L : List StatePart} {s0 : State} {op : StepOp} {s : State}
    (hL : ∀ p ∈ [StatePart.od, .stored, .counters, .mgmt, .links, .intx, .requests, .fnCfg, .admin, .int, .capture, .ctxs, .slots, .cmds, .engines, .entries, .lookups, .peers, .windows, .coherence, .memory, .pool, .det, .err, .power, .boot, .draws, .out], p ∈ L) (hok : SameBut L s0 s) :
    SameBut L s0 (memStep op s) := by
  unfold memStep
  repeat' first
    | with_reducible assumption
    | with_reducible exact .inl rfl
    | exact .inr (hL _ (by decide))
    | (extract_lets +onlyGivenNames x
       first
       | (refine sameStep (L := L) (s0 := s0) (x := x) (fun hx => ?_) ?_; clear_value x; rotate_left; subst x)
       | subst x)
    | with_reducible refine memCmdStep_frame (parts_sub (by decide) hL) ?_
    | with_reducible refine memStepped_frame (parts_sub (by decide) hL) ?_
    | with_reducible refine scrubStep_frame (parts_sub (by decide) hL) ?_
    | with_reducible refine serveStep_frame (parts_sub (by decide) hL) ?_
    | with_reducible refine SameBut.ofPair ?_ (by with_reducible assumption)
    | intro _ _ _
    | intro _ _
    | intro _
    | split
    | (simp only [same_lit]; with_reducible refine SameLit.of ?_ ?_ ?_ ?_ ?_ ?_ ?_ ?_ ?_ ?_ ?_ ?_ ?_ ?_ ?_ ?_ ?_ ?_ ?_ ?_ ?_ ?_ ?_ ?_ ?_ ?_ ?_ ?_ ?_ ?_ ?_ ?_ ?_ ?_ ?_ ?_ ?_ ?_ ?_ ?_)
    | exact .inl rfl
    | dsimp only
    | dsimp only [id]

theorem execScrubStep_frame {s : State} :
    OutBut [StatePart.od, .stored, .counters, .mgmt, .links, .intx, .requests, .fnCfg, .admin, .int, .capture, .ctxs, .slots, .cmds, .engines, .entries, .lookups, .peers, .windows, .coherence, .memory, .pool, .det, .err, .power, .boot, .draws, .out] s (execScrubStep s) := by
  unfold execScrubStep
  refine OutBut.of (fun L s0 hL hok => ?_)
  repeat' first
    | with_reducible assumption
    | with_reducible exact .inl rfl
    | exact .inr (hL _ (by decide))
    | (extract_lets +onlyGivenNames x
       first
       | (refine sameStep (L := L) (s0 := s0) (x := x) (fun hx => ?_) ?_; clear_value x; rotate_left; subst x)
       | subst x)
    | with_reducible refine memStep_frame (parts_sub (by decide) hL) ?_
    | with_reducible refine SameBut.ofPair ?_ (by with_reducible assumption)
    | intro _ _ _
    | intro _ _
    | intro _
    | split
    | (simp only [same_lit]; with_reducible refine SameLit.of ?_ ?_ ?_ ?_ ?_ ?_ ?_ ?_ ?_ ?_ ?_ ?_ ?_ ?_ ?_ ?_ ?_ ?_ ?_ ?_ ?_ ?_ ?_ ?_ ?_ ?_ ?_ ?_ ?_ ?_ ?_ ?_ ?_ ?_ ?_ ?_ ?_ ?_ ?_ ?_)
    | exact .inl rfl
    | dsimp only
    | dsimp only [id]

theorem memTurn_frame {L : List StatePart} {s0 : State} {s : State}
    (hL : ∀ p ∈ [StatePart.od, .stored, .counters, .mgmt, .links, .intx, .requests, .fnCfg, .admin, .int, .capture, .ctxs, .slots, .cmds, .engines, .entries, .lookups, .peers, .windows, .coherence, .memory, .pool, .det, .err, .power, .boot, .draws, .out], p ∈ L) (hok : SameBut L s0 s) :
    SameBut L s0 (memTurn s) := by
  unfold memTurn
  repeat' first
    | with_reducible assumption
    | with_reducible exact .inl rfl
    | exact .inr (hL _ (by decide))
    | (extract_lets +onlyGivenNames x
       first
       | (refine sameStep (L := L) (s0 := s0) (x := x) (fun hx => ?_) ?_; clear_value x; rotate_left; subst x)
       | subst x)
    | with_reducible refine memServe_frame (parts_sub (by decide) hL) ?_
    | with_reducible refine memStep_frame (parts_sub (by decide) hL) ?_
    | with_reducible refine SameBut.ofPair ?_ (by with_reducible assumption)
    | intro _ _ _
    | intro _ _
    | intro _
    | split
    | (simp only [same_lit]; with_reducible refine SameLit.of ?_ ?_ ?_ ?_ ?_ ?_ ?_ ?_ ?_ ?_ ?_ ?_ ?_ ?_ ?_ ?_ ?_ ?_ ?_ ?_ ?_ ?_ ?_ ?_ ?_ ?_ ?_ ?_ ?_ ?_ ?_ ?_ ?_ ?_ ?_ ?_ ?_ ?_ ?_ ?_)
    | exact .inl rfl
    | dsimp only
    | dsimp only [id]

theorem unitStepEnd_frame {L : List StatePart} {s0 : State} {u : StepUnit} {s : State}
    (hL : ∀ p ∈ [StatePart.od, .stored, .counters, .mgmt, .links, .intx, .requests, .ats, .fnCfg, .admin, .int, .capture, .ctxs, .slots, .cmds, .engines, .entries, .lookups, .peers, .windows, .coherence, .memory, .pool, .det, .err, .power, .boot, .draws, .out], p ∈ L) (hok : SameBut L s0 s) :
    SameBut L s0 (unitStepEnd u s) := by
  unfold unitStepEnd
  repeat' first
    | with_reducible assumption
    | with_reducible exact .inl rfl
    | exact .inr (hL _ (by decide))
    | (extract_lets +onlyGivenNames x
       first
       | (refine sameStep (L := L) (s0 := s0) (x := x) (fun hx => ?_) ?_; clear_value x; rotate_left; subst x)
       | subst x)
    | with_reducible refine modEngine_frame (parts_sub (by decide) hL) ?_
    | with_reducible refine memTurn_frame (parts_sub (by decide) hL) ?_
    | with_reducible refine digestStep_frame (parts_sub (by decide) hL) ?_
    | with_reducible refine finishScan_frame (parts_sub (by decide) hL) ?_
    | with_reducible refine SameBut.ofPair ?_ (by with_reducible assumption)
    | intro _ _ _
    | intro _ _
    | intro _
    | split
    | (simp only [same_lit]; with_reducible refine SameLit.of ?_ ?_ ?_ ?_ ?_ ?_ ?_ ?_ ?_ ?_ ?_ ?_ ?_ ?_ ?_ ?_ ?_ ?_ ?_ ?_ ?_ ?_ ?_ ?_ ?_ ?_ ?_ ?_ ?_ ?_ ?_ ?_ ?_ ?_ ?_ ?_ ?_ ?_ ?_ ?_)
    | exact .inl rfl
    | dsimp only
    | dsimp only [id]

theorem execUnitStepEnd_frame {u : StepUnit} {s : State} :
    OutBut [StatePart.od, .stored, .counters, .mgmt, .links, .intx, .requests, .ats, .fnCfg, .admin, .int, .capture, .ctxs, .slots, .cmds, .engines, .entries, .lookups, .peers, .windows, .coherence, .memory, .pool, .det, .err, .power, .boot, .draws, .out] s (execUnitStepEnd u s) := by
  unfold execUnitStepEnd
  refine OutBut.of (fun L s0 hL hok => ?_)
  repeat' first
    | with_reducible assumption
    | with_reducible refine unitStepEnd_frame (parts_sub (by decide) hL) ?_
    | intro _ _ _
    | intro _ _
    | intro _
    | dsimp only
    | dsimp only [id]

theorem startRepair_frame {L : List StatePart} {s0 : State} {k : Nat} {v : U64} {s : State}
    (hL : ∀ p ∈ [StatePart.od, .pool], p ∈ L) (hok : SameBut L s0 s) :
    SameBut L s0 (startRepair k v s) := by
  unfold startRepair
  repeat' first
    | with_reducible assumption
    | with_reducible exact .inl rfl
    | exact .inr (hL _ (by decide))
    | (extract_lets +onlyGivenNames x
       first
       | (refine sameStep (L := L) (s0 := s0) (x := x) (fun hx => ?_) ?_; clear_value x; rotate_left; subst x)
       | subst x)
    | with_reducible refine SameBut.ite ?_ ?_
    | with_reducible refine setObj_frame (parts_sub (by decide) hL) ?_
    | intro _ _ _
    | intro _ _
    | intro _
    | split
    | (simp only [same_lit]; with_reducible refine SameLit.of ?_ ?_ ?_ ?_ ?_ ?_ ?_ ?_ ?_ ?_ ?_ ?_ ?_ ?_ ?_ ?_ ?_ ?_ ?_ ?_ ?_ ?_ ?_ ?_ ?_ ?_ ?_ ?_ ?_ ?_ ?_ ?_ ?_ ?_ ?_ ?_ ?_ ?_ ?_ ?_)
    | exact .inl rfl
    | dsimp only
    | dsimp only [id]

theorem execRepairRequest_frame {rq : Requester} {st : Stack} {v : U64} {s : State} :
    OutBut [StatePart.od, .pool, .out] s (execRepairRequest rq st v s) := by
  unfold execRepairRequest
  refine OutBut.of (fun L s0 hL hok => ?_)
  repeat' first
    | with_reducible assumption
    | with_reducible refine requestWrite_frame (parts_sub (by decide) hL) ?_ ?_
    | with_reducible refine startRepair_frame (parts_sub (by decide) hL) ?_
    | intro _ _ _
    | intro _ _
    | intro _
    | dsimp only
    | dsimp only [id]

theorem loseLine_frame {L : List StatePart} {s0 : State} {line : Nat} {s : State}
    (hL : ∀ p ∈ [StatePart.memory, .draws], p ∈ L) (hok : SameBut L s0 s) :
    SameBut L s0 (loseLine line s) := by
  unfold loseLine
  repeat' first
    | with_reducible assumption
    | with_reducible exact .inl rfl
    | exact .inr (hL _ (by decide))
    | (extract_lets +onlyGivenNames x
       first
       | (refine sameStep (L := L) (s0 := s0) (x := x) (fun hx => ?_) ?_; clear_value x; rotate_left; subst x)
       | subst x)
    | with_reducible refine freeSpan_frame (parts_sub (by decide) hL) ?_
    | with_reducible refine draw_frame (parts_sub (by decide) hL) ?_
    | with_reducible refine SameBut.ofPair ?_ (by with_reducible assumption)
    | intro _ _ _
    | intro _ _
    | intro _
    | split
    | (simp only [same_lit]; with_reducible refine SameLit.of ?_ ?_ ?_ ?_ ?_ ?_ ?_ ?_ ?_ ?_ ?_ ?_ ?_ ?_ ?_ ?_ ?_ ?_ ?_ ?_ ?_ ?_ ?_ ?_ ?_ ?_ ?_ ?_ ?_ ?_ ?_ ?_ ?_ ?_ ?_ ?_ ?_ ?_ ?_ ?_)
    | exact .inl rfl
    | dsimp only
    | dsimp only [id]

theorem loseRows_frame {L : List StatePart} {s0 : State} {base n : Nat} {s : State}
    (hL : ∀ p ∈ [StatePart.memory, .draws], p ∈ L) (hok : SameBut L s0 s) :
    SameBut L s0 (loseRows base n s) := by
  unfold loseRows
  repeat' first
    | with_reducible assumption
    | with_reducible refine foldState_frame (fun _ _ _ => ?_) ?_
    | with_reducible refine loseLine_frame (parts_sub (by decide) hL) ?_
    | intro _ _ _
    | intro _ _
    | intro _
    | dsimp only
    | dsimp only [id]

theorem repairDone_frame {L : List StatePart} {s0 : State} {k : Nat} {ok : Bool} {s : State}
    (hL : ∀ p ∈ [StatePart.memory, .pool, .draws], p ∈ L) (hok : SameBut L s0 s) :
    SameBut L s0 (repairDone k ok s) := by
  unfold repairDone
  repeat' first
    | with_reducible assumption
    | with_reducible exact .inl rfl
    | exact .inr (hL _ (by decide))
    | (extract_lets +onlyGivenNames x
       first
       | (refine sameStep (L := L) (s0 := s0) (x := x) (fun hx => ?_) ?_; clear_value x; rotate_left; subst x)
       | subst x)
    | with_reducible refine SameBut.ite ?_ ?_
    | with_reducible refine loseRows_frame (parts_sub (by decide) hL) ?_
    | with_reducible refine SameBut.ofPair ?_ (by with_reducible assumption)
    | intro _ _ _
    | intro _ _
    | intro _
    | split
    | (simp only [same_lit]; with_reducible refine SameLit.of ?_ ?_ ?_ ?_ ?_ ?_ ?_ ?_ ?_ ?_ ?_ ?_ ?_ ?_ ?_ ?_ ?_ ?_ ?_ ?_ ?_ ?_ ?_ ?_ ?_ ?_ ?_ ?_ ?_ ?_ ?_ ?_ ?_ ?_ ?_ ?_ ?_ ?_ ?_ ?_)
    | exact .inl rfl
    | dsimp only
    | dsimp only [id]

theorem execRepairDone_frame {st : Stack} {ok : Bool} {s : State} :
    OutBut [StatePart.memory, .pool, .draws] s (execRepairDone st ok s) := by
  unfold execRepairDone
  refine OutBut.of (fun L s0 hL hok => ?_)
  repeat' first
    | with_reducible assumption
    | with_reducible refine repairDone_frame (parts_sub (by decide) hL) ?_
    | intro _ _ _
    | intro _ _
    | intro _
    | dsimp only
    | dsimp only [id]

theorem startMargin_frame {L : List StatePart} {s0 : State} {k : Nat} {v : U64} {s : State}
    (hL : ∀ p ∈ [StatePart.od, .pool], p ∈ L) (hok : SameBut L s0 s) :
    SameBut L s0 (startMargin k v s) := by
  unfold startMargin
  repeat' first
    | with_reducible assumption
    | with_reducible exact .inl rfl
    | exact .inr (hL _ (by decide))
    | (extract_lets +onlyGivenNames x
       first
       | (refine sameStep (L := L) (s0 := s0) (x := x) (fun hx => ?_) ?_; clear_value x; rotate_left; subst x)
       | subst x)
    | with_reducible refine setObj_frame (parts_sub (by decide) hL) ?_
    | intro _ _ _
    | intro _ _
    | intro _
    | (simp only [same_lit]; with_reducible refine SameLit.of ?_ ?_ ?_ ?_ ?_ ?_ ?_ ?_ ?_ ?_ ?_ ?_ ?_ ?_ ?_ ?_ ?_ ?_ ?_ ?_ ?_ ?_ ?_ ?_ ?_ ?_ ?_ ?_ ?_ ?_ ?_ ?_ ?_ ?_ ?_ ?_ ?_ ?_ ?_ ?_)
    | exact .inl rfl
    | dsimp only
    | dsimp only [id]

theorem execMarginRequest_frame {rq : Requester} {st : Stack} {v : U64} {s : State} :
    OutBut [StatePart.od, .pool, .out] s (execMarginRequest rq st v s) := by
  unfold execMarginRequest
  refine OutBut.of (fun L s0 hL hok => ?_)
  repeat' first
    | with_reducible assumption
    | with_reducible refine requestWrite_frame (parts_sub (by decide) hL) ?_ ?_
    | with_reducible refine startMargin_frame (parts_sub (by decide) hL) ?_
    | intro _ _ _
    | intro _ _
    | intro _
    | dsimp only
    | dsimp only [id]

theorem marginDone_frame {L : List StatePart} {s0 : State} {k : Nat} {ok : Bool} {errors : Nat} {s : State}
    (hL : ∀ p ∈ [StatePart.memory, .pool, .draws], p ∈ L) (hok : SameBut L s0 s) :
    SameBut L s0 (marginDone k ok errors s) := by
  unfold marginDone
  repeat' first
    | with_reducible assumption
    | with_reducible exact .inl rfl
    | exact .inr (hL _ (by decide))
    | (extract_lets +onlyGivenNames x
       first
       | (refine sameStep (L := L) (s0 := s0) (x := x) (fun hx => ?_) ?_; clear_value x; rotate_left; subst x)
       | subst x)
    | with_reducible refine SameBut.ite ?_ ?_
    | with_reducible refine loseRows_frame (parts_sub (by decide) hL) ?_
    | with_reducible refine SameBut.ofPair ?_ (by with_reducible assumption)
    | intro _ _ _
    | intro _ _
    | intro _
    | split
    | (simp only [same_lit]; with_reducible refine SameLit.of ?_ ?_ ?_ ?_ ?_ ?_ ?_ ?_ ?_ ?_ ?_ ?_ ?_ ?_ ?_ ?_ ?_ ?_ ?_ ?_ ?_ ?_ ?_ ?_ ?_ ?_ ?_ ?_ ?_ ?_ ?_ ?_ ?_ ?_ ?_ ?_ ?_ ?_ ?_ ?_)
    | exact .inl rfl
    | dsimp only
    | dsimp only [id]

theorem execMarginDone_frame {st : Stack} {ok : Bool} {errors : Nat} {s : State} :
    OutBut [StatePart.memory, .pool, .draws] s (execMarginDone st ok errors s) := by
  unfold execMarginDone
  refine OutBut.of (fun L s0 hL hok => ?_)
  repeat' first
    | with_reducible assumption
    | with_reducible refine marginDone_frame (parts_sub (by decide) hL) ?_
    | intro _ _ _
    | intro _ _
    | intro _
    | dsimp only
    | dsimp only [id]


/-! ### Machine/Sync.lean -/

theorem modSync_frame {L : List StatePart} {s0 : State} {f : SyncSt → SyncSt} {s : State}
    (hL : ∀ p ∈ [StatePart.sync], p ∈ L) (hok : SameBut L s0 s) :
    SameBut L s0 (modSync f s) := by
  unfold modSync
  repeat' first
    | with_reducible assumption
    | with_reducible exact .inl rfl
    | exact .inr (hL _ (by decide))
    | (extract_lets +onlyGivenNames x
       first
       | (refine sameStep (L := L) (s0 := s0) (x := x) (fun hx => ?_) ?_; clear_value x; rotate_left; subst x)
       | subst x)
    | intro _ _ _
    | intro _ _
    | intro _
    | (simp only [same_lit]; with_reducible refine SameLit.of ?_ ?_ ?_ ?_ ?_ ?_ ?_ ?_ ?_ ?_ ?_ ?_ ?_ ?_ ?_ ?_ ?_ ?_ ?_ ?_ ?_ ?_ ?_ ?_ ?_ ?_ ?_ ?_ ?_ ?_ ?_ ?_ ?_ ?_ ?_ ?_ ?_ ?_ ?_ ?_)
    | exact .inl rfl
    | dsimp only
    | dsimp only [id]

theorem selectMaster_frame {L : List StatePart} {s0 : State} {s : State}
    (hL : ∀ p ∈ [StatePart.sync], p ∈ L) (hok : SameBut L s0 s) :
    SameBut L s0 (selectMaster s) := by
  unfold selectMaster
  repeat' first
    | with_reducible assumption
    | with_reducible exact .inl rfl
    | exact .inr (hL _ (by decide))
    | (extract_lets +onlyGivenNames x
       first
       | (refine sameStep (L := L) (s0 := s0) (x := x) (fun hx => ?_) ?_; clear_value x; rotate_left; subst x)
       | subst x)
    | with_reducible refine SameBut.ite ?_ ?_
    | with_reducible refine modSync_frame (parts_sub (by decide) hL) ?_
    | with_reducible refine freeRun_frame (parts_sub (by decide) hL) ?_
    | intro _ _ _
    | intro _ _
    | intro _
    | split
    | (simp only [same_lit]; with_reducible refine SameLit.of ?_ ?_ ?_ ?_ ?_ ?_ ?_ ?_ ?_ ?_ ?_ ?_ ?_ ?_ ?_ ?_ ?_ ?_ ?_ ?_ ?_ ?_ ?_ ?_ ?_ ?_ ?_ ?_ ?_ ?_ ?_ ?_ ?_ ?_ ?_ ?_ ?_ ?_ ?_ ?_)
    | exact .inl rfl
    | dsimp only
    | dsimp only [id]

theorem hearAnnounce_frame {L : List StatePart} {s0 : State} {a : Announce} {s : State}
    (hL : ∀ p ∈ [StatePart.sync], p ∈ L) (hok : SameBut L s0 s) :
    SameBut L s0 (hearAnnounce a s) := by
  unfold hearAnnounce
  repeat' first
    | with_reducible assumption
    | with_reducible exact .inl rfl
    | exact .inr (hL _ (by decide))
    | (extract_lets +onlyGivenNames x
       first
       | (refine sameStep (L := L) (s0 := s0) (x := x) (fun hx => ?_) ?_; clear_value x; rotate_left; subst x)
       | (refine sameStep (L := L) (s0 := s0) (x := x.1) (fun hx => ?_) ?_; clear_value x; rotate_left; subst x)
       | subst x)
    | with_reducible refine SameBut.ite ?_ ?_
    | with_reducible refine selectMaster_frame (parts_sub (by decide) hL) ?_
    | with_reducible refine modSync_frame (parts_sub (by decide) hL) ?_
    | intro _ _ _
    | intro _ _
    | intro _
    | split
    | (simp only [same_lit]; with_reducible refine SameLit.of ?_ ?_ ?_ ?_ ?_ ?_ ?_ ?_ ?_ ?_ ?_ ?_ ?_ ?_ ?_ ?_ ?_ ?_ ?_ ?_ ?_ ?_ ?_ ?_ ?_ ?_ ?_ ?_ ?_ ?_ ?_ ?_ ?_ ?_ ?_ ?_ ?_ ?_ ?_ ?_)
    | exact .inl rfl
    | dsimp only
    | dsimp only [id]

theorem execPtpAnnounce_frame {a : Announce} {s : State} :
    OutBut [StatePart.sync] s (execPtpAnnounce a s) := by
  unfold execPtpAnnounce
  refine OutBut.of (fun L s0 hL hok => ?_)
  repeat' first
    | with_reducible assumption
    | with_reducible refine hearAnnounce_frame (parts_sub (by decide) hL) ?_
    | intro _ _ _
    | intro _ _
    | intro _
    | dsimp only
    | dsimp only [id]

theorem dropSilent_frame {L : List StatePart} {s0 : State} {s : State}
    (hL : ∀ p ∈ [StatePart.sync], p ∈ L) (hok : SameBut L s0 s) :
    SameBut L s0 (dropSilent s) := by
  unfold dropSilent
  repeat' first
    | with_reducible assumption
    | with_reducible exact .inl rfl
    | exact .inr (hL _ (by decide))
    | (extract_lets +onlyGivenNames x
       first
       | (refine sameStep (L := L) (s0 := s0) (x := x) (fun hx => ?_) ?_; clear_value x; rotate_left; subst x)
       | (refine sameStep (L := L) (s0 := s0) (x := x.1) (fun hx => ?_) ?_; clear_value x; rotate_left; subst x)
       | subst x)
    | with_reducible refine selectMaster_frame (parts_sub (by decide) hL) ?_
    | with_reducible refine modSync_frame (parts_sub (by decide) hL) ?_
    | intro _ _ _
    | intro _ _
    | intro _
    | (simp only [same_lit]; with_reducible refine SameLit.of ?_ ?_ ?_ ?_ ?_ ?_ ?_ ?_ ?_ ?_ ?_ ?_ ?_ ?_ ?_ ?_ ?_ ?_ ?_ ?_ ?_ ?_ ?_ ?_ ?_ ?_ ?_ ?_ ?_ ?_ ?_ ?_ ?_ ?_ ?_ ?_ ?_ ?_ ?_ ?_)
    | exact .inl rfl
    | dsimp only
    | dsimp only [id]

theorem execAnnounceReceiptTimeout_frame {s : State} :
    OutBut [StatePart.sync] s (execAnnounceReceiptTimeout s) := by
  unfold execAnnounceReceiptTimeout
  refine OutBut.of (fun L s0 hL hok => ?_)
  repeat' first
    | with_reducible assumption
    | with_reducible refine dropSilent_frame (parts_sub (by decide) hL) ?_
    | intro _ _ _
    | intro _ _
    | intro _
    | dsimp only
    | dsimp only [id]

theorem hearSync_frame {L : List StatePart} {s0 : State} {identity : U64} {seq : U16} {arrival : U64} {s : State}
    (hL : ∀ p ∈ [StatePart.sync], p ∈ L) (hok : SameBut L s0 s) :
    SameBut L s0 (hearSync identity seq arrival s) := by
  unfold hearSync
  repeat' first
    | with_reducible assumption
    | with_reducible exact .inl rfl
    | exact .inr (hL _ (by decide))
    | (extract_lets +onlyGivenNames x
       first
       | (refine sameStep (L := L) (s0 := s0) (x := x) (fun hx => ?_) ?_; clear_value x; rotate_left; subst x)
       | subst x)
    | with_reducible refine SameBut.ite ?_ ?_
    | with_reducible refine modSync_frame (parts_sub (by decide) hL) ?_
    | intro _ _ _
    | intro _ _
    | intro _
    | split
    | (simp only [same_lit]; with_reducible refine SameLit.of ?_ ?_ ?_ ?_ ?_ ?_ ?_ ?_ ?_ ?_ ?_ ?_ ?_ ?_ ?_ ?_ ?_ ?_ ?_ ?_ ?_ ?_ ?_ ?_ ?_ ?_ ?_ ?_ ?_ ?_ ?_ ?_ ?_ ?_ ?_ ?_ ?_ ?_ ?_ ?_)
    | exact .inl rfl
    | dsimp only
    | dsimp only [id]

theorem execPtpSync_frame {identity : U64} {seq : U16} {arrival : U64} {s : State} :
    OutBut [StatePart.sync] s (execPtpSync identity seq arrival s) := by
  unfold execPtpSync
  refine OutBut.of (fun L s0 hL hok => ?_)
  repeat' first
    | with_reducible assumption
    | with_reducible refine hearSync_frame (parts_sub (by decide) hL) ?_
    | intro _ _ _
    | intro _ _
    | intro _
    | dsimp only
    | dsimp only [id]

theorem stepForward_frame {L : List StatePart} {s0 : State} {behindNs : Nat} {s : State}
    (hL : ∀ p ∈ [StatePart.gtc, .sync], p ∈ L) (hok : SameBut L s0 s) :
    SameBut L s0 (stepForward behindNs s) := by
  unfold stepForward
  repeat' first
    | with_reducible assumption
    | with_reducible exact .inl rfl
    | exact .inr (hL _ (by decide))
    | (extract_lets +onlyGivenNames x
       first
       | (refine sameStep (L := L) (s0 := s0) (x := x) (fun hx => ?_) ?_; clear_value x; rotate_left; subst x)
       | subst x)
    | with_reducible refine modSync_frame (parts_sub (by decide) hL) ?_
    | intro _ _ _
    | intro _ _
    | intro _
    | (simp only [same_lit]; with_reducible refine SameLit.of ?_ ?_ ?_ ?_ ?_ ?_ ?_ ?_ ?_ ?_ ?_ ?_ ?_ ?_ ?_ ?_ ?_ ?_ ?_ ?_ ?_ ?_ ?_ ?_ ?_ ?_ ?_ ?_ ?_ ?_ ?_ ?_ ?_ ?_ ?_ ?_ ?_ ?_ ?_ ?_)
    | exact .inl rfl
    | dsimp only
    | dsimp only [id]

theorem takeOffset_frame {L : List StatePart} {s0 : State} {off : Int} {s : State}
    (hL : ∀ p ∈ [StatePart.gtc, .sync], p ∈ L) (hok : SameBut L s0 s) :
    SameBut L s0 (takeOffset off s) := by
  unfold takeOffset
  repeat' first
    | with_reducible assumption
    | with_reducible exact .inl rfl
    | exact .inr (hL _ (by decide))
    | (extract_lets +onlyGivenNames x
       first
       | (refine sameStep (L := L) (s0 := s0) (x := x) (fun hx => ?_) ?_; clear_value x; rotate_left; subst x)
       | subst x)
    | with_reducible refine SameBut.ite ?_ ?_
    | with_reducible refine modSync_frame (parts_sub (by decide) hL) ?_
    | with_reducible refine stepForward_frame (parts_sub (by decide) hL) ?_
    | intro _ _ _
    | intro _ _
    | intro _
    | split
    | (simp only [same_lit]; with_reducible refine SameLit.of ?_ ?_ ?_ ?_ ?_ ?_ ?_ ?_ ?_ ?_ ?_ ?_ ?_ ?_ ?_ ?_ ?_ ?_ ?_ ?_ ?_ ?_ ?_ ?_ ?_ ?_ ?_ ?_ ?_ ?_ ?_ ?_ ?_ ?_ ?_ ?_ ?_ ?_ ?_ ?_)
    | exact .inl rfl
    | dsimp only
    | dsimp only [id]

theorem hearFollowUp_frame {L : List StatePart} {s0 : State} {identity : U64} {seq : U16} {originNs : Nat} {s : State}
    (hL : ∀ p ∈ [StatePart.gtc, .sync], p ∈ L) (hok : SameBut L s0 s) :
    SameBut L s0 (hearFollowUp identity seq originNs s) := by
  unfold hearFollowUp
  repeat' first
    | with_reducible assumption
    | with_reducible exact .inl rfl
    | exact .inr (hL _ (by decide))
    | (extract_lets +onlyGivenNames x
       first
       | (refine sameStep (L := L) (s0 := s0) (x := x) (fun hx => ?_) ?_; clear_value x; rotate_left; subst x)
       | subst x)
    | with_reducible refine SameBut.ite ?_ ?_
    | with_reducible refine modSync_frame (parts_sub (by decide) hL) ?_
    | with_reducible refine takeOffset_frame (parts_sub (by decide) hL) ?_
    | with_reducible refine SameBut.ofPair ?_ (by with_reducible assumption)
    | intro _ _ _
    | intro _ _
    | intro _
    | split
    | (simp only [same_lit]; with_reducible refine SameLit.of ?_ ?_ ?_ ?_ ?_ ?_ ?_ ?_ ?_ ?_ ?_ ?_ ?_ ?_ ?_ ?_ ?_ ?_ ?_ ?_ ?_ ?_ ?_ ?_ ?_ ?_ ?_ ?_ ?_ ?_ ?_ ?_ ?_ ?_ ?_ ?_ ?_ ?_ ?_ ?_)
    | exact .inl rfl
    | dsimp only
    | dsimp only [id]

theorem execPtpFollowUp_frame {identity : U64} {seq : U16} {originNs : Nat} {s : State} :
    OutBut [StatePart.gtc, .sync] s (execPtpFollowUp identity seq originNs s) := by
  unfold execPtpFollowUp
  refine OutBut.of (fun L s0 hL hok => ?_)
  repeat' first
    | with_reducible assumption
    | with_reducible refine hearFollowUp_frame (parts_sub (by decide) hL) ?_
    | intro _ _ _
    | intro _ _
    | intro _
    | dsimp only
    | dsimp only [id]

theorem sendDelayReq_frame {L : List StatePart} {s0 : State} {s : State}
    (hL : ∀ p ∈ [StatePart.sync, .out], p ∈ L) (hok : SameBut L s0 s) :
    SameBut L s0 (sendDelayReq s) := by
  unfold sendDelayReq
  repeat' first
    | with_reducible assumption
    | with_reducible exact .inl rfl
    | exact .inr (hL _ (by decide))
    | (extract_lets +onlyGivenNames x
       first
       | (refine sameStep (L := L) (s0 := s0) (x := x) (fun hx => ?_) ?_; clear_value x; rotate_left; subst x)
       | subst x)
    | with_reducible refine SameBut.ite ?_ ?_
    | with_reducible refine emit_frame (parts_sub (by decide) hL) ?_
    | with_reducible refine modSync_frame (parts_sub (by decide) hL) ?_
    | intro _ _ _
    | intro _ _
    | intro _
    | split
    | (simp only [same_lit]; with_reducible refine SameLit.of ?_ ?_ ?_ ?_ ?_ ?_ ?_ ?_ ?_ ?_ ?_ ?_ ?_ ?_ ?_ ?_ ?_ ?_ ?_ ?_ ?_ ?_ ?_ ?_ ?_ ?_ ?_ ?_ ?_ ?_ ?_ ?_ ?_ ?_ ?_ ?_ ?_ ?_ ?_ ?_)
    | exact .inl rfl
    | dsimp only
    | dsimp only [id]

theorem execDelayReqTimer_frame {s : State} :
    OutBut [StatePart.sync, .out] s (execDelayReqTimer s) := by
  unfold execDelayReqTimer
  refine OutBut.of (fun L s0 hL hok => ?_)
  repeat' first
    | with_reducible assumption
    | with_reducible refine sendDelayReq_frame (parts_sub (by decide) hL) ?_
    | intro _ _ _
    | intro _ _
    | intro _
    | dsimp only
    | dsimp only [id]

theorem hearDelayResp_frame {L : List StatePart} {s0 : State} {identity : U64} {seq : U16} {receiveNs : Nat} {s : State}
    (hL : ∀ p ∈ [StatePart.sync], p ∈ L) (hok : SameBut L s0 s) :
    SameBut L s0 (hearDelayResp identity seq receiveNs s) := by
  unfold hearDelayResp
  repeat' first
    | with_reducible assumption
    | with_reducible exact .inl rfl
    | exact .inr (hL _ (by decide))
    | (extract_lets +onlyGivenNames x
       first
       | (refine sameStep (L := L) (s0 := s0) (x := x) (fun hx => ?_) ?_; clear_value x; rotate_left; subst x)
       | subst x)
    | with_reducible refine SameBut.ite ?_ ?_
    | with_reducible refine modSync_frame (parts_sub (by decide) hL) ?_
    | with_reducible refine SameBut.ofPair ?_ (by with_reducible assumption)
    | intro _ _ _
    | intro _ _
    | intro _
    | split
    | (simp only [same_lit]; with_reducible refine SameLit.of ?_ ?_ ?_ ?_ ?_ ?_ ?_ ?_ ?_ ?_ ?_ ?_ ?_ ?_ ?_ ?_ ?_ ?_ ?_ ?_ ?_ ?_ ?_ ?_ ?_ ?_ ?_ ?_ ?_ ?_ ?_ ?_ ?_ ?_ ?_ ?_ ?_ ?_ ?_ ?_)
    | exact .inl rfl
    | dsimp only
    | dsimp only [id]

theorem execPtpDelayResp_frame {identity : U64} {seq : U16} {receiveNs : Nat} {s : State} :
    OutBut [StatePart.sync] s (execPtpDelayResp identity seq receiveNs s) := by
  unfold execPtpDelayResp
  refine OutBut.of (fun L s0 hL hok => ?_)
  repeat' first
    | with_reducible assumption
    | with_reducible refine hearDelayResp_frame (parts_sub (by decide) hL) ?_
    | intro _ _ _
    | intro _ _
    | intro _
    | dsimp only
    | dsimp only [id]

theorem loseSync_frame {L : List StatePart} {s0 : State} {s : State}
    (hL : ∀ p ∈ [StatePart.od, .stored, .counters, .mgmt, .links, .intx, .fnCfg, .int, .capture, .sync, .err, .power, .out], p ∈ L) (hok : SameBut L s0 s) :
    SameBut L s0 (loseSync s) := by
  unfold loseSync
  repeat' first
    | with_reducible assumption
    | with_reducible exact .inl rfl
    | exact .inr (hL _ (by decide))
    | (extract_lets +onlyGivenNames x
       first
       | (refine sameStep (L := L) (s0 := s0) (x := x) (fun hx => ?_) ?_; clear_value x; rotate_left; subst x)
       | subst x)
    | with_reducible refine SameBut.ite ?_ ?_
    | with_reducible refine raiseError_frame (parts_sub (by decide) hL) ?_
    | with_reducible refine modSync_frame (parts_sub (by decide) hL) ?_
    | intro _ _ _
    | intro _ _
    | intro _
    | split
    | (simp only [same_lit]; with_reducible refine SameLit.of ?_ ?_ ?_ ?_ ?_ ?_ ?_ ?_ ?_ ?_ ?_ ?_ ?_ ?_ ?_ ?_ ?_ ?_ ?_ ?_ ?_ ?_ ?_ ?_ ?_ ?_ ?_ ?_ ?_ ?_ ?_ ?_ ?_ ?_ ?_ ?_ ?_ ?_ ?_ ?_)
    | exact .inl rfl
    | dsimp only
    | dsimp only [id]

theorem execSyncLossTimeout_frame {s : State} :
    OutBut [StatePart.od, .stored, .counters, .mgmt, .links, .intx, .fnCfg, .int, .capture, .sync, .err, .power, .out] s (execSyncLossTimeout s) := by
  unfold execSyncLossTimeout
  refine OutBut.of (fun L s0 hL hok => ?_)
  repeat' first
    | with_reducible assumption
    | with_reducible refine loseSync_frame (parts_sub (by decide) hL) ?_
    | intro _ _ _
    | intro _ _
    | intro _
    | dsimp only
    | dsimp only [id]

theorem answerDelayReq_frame {L : List StatePart} {s0 : State} {requester : U64} {seq : U16} {arrivalNs : Nat} {s : State}
    (hL : ∀ p ∈ [StatePart.out], p ∈ L) (hok : SameBut L s0 s) :
    SameBut L s0 (answerDelayReq requester seq arrivalNs s) := by
  unfold answerDelayReq
  repeat' first
    | with_reducible assumption
    | with_reducible refine SameBut.ite ?_ ?_
    | with_reducible refine emit_frame (parts_sub (by decide) hL) ?_
    | intro _ _ _
    | intro _ _
    | intro _
    | split
    | dsimp only
    | dsimp only [id]

theorem execPtpDelayReq_frame {requester : U64} {seq : U16} {arrivalNs : Nat} {s : State} :
    OutBut [StatePart.out] s (execPtpDelayReq requester seq arrivalNs s) := by
  unfold execPtpDelayReq
  refine OutBut.of (fun L s0 hL hok => ?_)
  repeat' first
    | with_reducible assumption
    | with_reducible refine answerDelayReq_frame (parts_sub (by decide) hL) ?_
    | intro _ _ _
    | intro _ _
    | intro _
    | dsimp only
    | dsimp only [id]

theorem sendSync_frame {L : List StatePart} {s0 : State} {s : State}
    (hL : ∀ p ∈ [StatePart.sync, .out], p ∈ L) (hok : SameBut L s0 s) :
    SameBut L s0 (sendSync s) := by
  unfold sendSync
  repeat' first
    | with_reducible assumption
    | with_reducible exact .inl rfl
    | exact .inr (hL _ (by decide))
    | (extract_lets +onlyGivenNames x
       first
       | (refine sameStep (L := L) (s0 := s0) (x := x) (fun hx => ?_) ?_; clear_value x; rotate_left; subst x)
       | subst x)
    | with_reducible refine SameBut.ite ?_ ?_
    | with_reducible refine emit_frame (parts_sub (by decide) hL) ?_
    | with_reducible refine modSync_frame (parts_sub (by decide) hL) ?_
    | intro _ _ _
    | intro _ _
    | intro _
    | split
    | (simp only [same_lit]; with_reducible refine SameLit.of ?_ ?_ ?_ ?_ ?_ ?_ ?_ ?_ ?_ ?_ ?_ ?_ ?_ ?_ ?_ ?_ ?_ ?_ ?_ ?_ ?_ ?_ ?_ ?_ ?_ ?_ ?_ ?_ ?_ ?_ ?_ ?_ ?_ ?_ ?_ ?_ ?_ ?_ ?_ ?_)
    | exact .inl rfl
    | dsimp only
    | dsimp only [id]

theorem execPtpSyncTimer_frame {s : State} :
    OutBut [StatePart.sync, .out] s (execPtpSyncTimer s) := by
  unfold execPtpSyncTimer
  refine OutBut.of (fun L s0 hL hok => ?_)
  repeat' first
    | with_reducible assumption
    | with_reducible refine sendSync_frame (parts_sub (by decide) hL) ?_
    | intro _ _ _
    | intro _ _
    | intro _
    | dsimp only
    | dsimp only [id]

theorem sendAnnounce_frame {L : List StatePart} {s0 : State} {s : State}
    (hL : ∀ p ∈ [StatePart.out], p ∈ L) (hok : SameBut L s0 s) :
    SameBut L s0 (sendAnnounce s) := by
  unfold sendAnnounce
  repeat' first
    | with_reducible assumption
    | with_reducible refine SameBut.ite ?_ ?_
    | with_reducible refine emit_frame (parts_sub (by decide) hL) ?_
    | intro _ _ _
    | intro _ _
    | intro _
    | split
    | dsimp only
    | dsimp only [id]

theorem execPtpAnnounceTimer_frame {s : State} :
    OutBut [StatePart.out] s (execPtpAnnounceTimer s) := by
  unfold execPtpAnnounceTimer
  refine OutBut.of (fun L s0 hL hok => ?_)
  repeat' first
    | with_reducible assumption
    | with_reducible refine sendAnnounce_frame (parts_sub (by decide) hL) ?_
    | intro _ _ _
    | intro _ _
    | intro _
    | dsimp only
    | dsimp only [id]

theorem entryEnters_frame {L : List StatePart} {s0 : State} {c : CtxId} {s : State}
    (hL : ∀ p ∈ [StatePart.od, .stored, .counters, .mgmt, .links, .intx, .requests, .ats, .fnCfg, .int, .capture, .ctxs, .cmds, .engines, .entries, .lookups, .peers, .windows, .coherence, .memory, .pool, .err, .power, .draws, .out], p ∈ L) (hok : SameBut L s0 s) :
    SameBut L s0 (entryEnters c s) := by
  unfold entryEnters
  repeat' first
    | with_reducible assumption
    | with_reducible exact .inl rfl
    | exact .inr (hL _ (by decide))
    | (extract_lets +onlyGivenNames x
       first
       | (refine sameStep (L := L) (s0 := s0) (x := x) (fun hx => ?_) ?_; clear_value x; rotate_left; subst x)
       | subst x)
    | with_reducible refine SameBut.ite ?_ ?_
    | with_reducible refine entryArrives_frame (parts_sub (by decide) hL) ?_
    | with_reducible refine SameBut.ofPair ?_ (by with_reducible assumption)
    | intro _ _ _
    | intro _ _
    | intro _
    | split
    | (simp only [same_lit]; with_reducible refine SameLit.of ?_ ?_ ?_ ?_ ?_ ?_ ?_ ?_ ?_ ?_ ?_ ?_ ?_ ?_ ?_ ?_ ?_ ?_ ?_ ?_ ?_ ?_ ?_ ?_ ?_ ?_ ?_ ?_ ?_ ?_ ?_ ?_ ?_ ?_ ?_ ?_ ?_ ?_ ?_ ?_)
    | exact .inl rfl
    | dsimp only
    | dsimp only [id]

theorem startWindow_frame {L : List StatePart} {s0 : State} {s : State}
    (hL : ∀ p ∈ [StatePart.od, .stored, .counters, .mgmt, .links, .intx, .requests, .ats, .fnCfg, .admin, .int, .capture, .ctxs, .cmds, .engines, .entries, .lookups, .peers, .windows, .coherence, .memory, .pool, .det, .err, .power, .boot, .draws, .out], p ∈ L) (hok : SameBut L s0 s) :
    SameBut L s0 (startWindow s) := by
  unfold startWindow
  repeat' first
    | with_reducible assumption
    | with_reducible refine SameBut.ite ?_ ?_
    | with_reducible refine foldState_frame (fun _ _ _ => ?_) ?_
    | with_reducible refine dispatchStages_frame (parts_sub (by decide) hL) ?_
    | with_reducible refine entryEnters_frame (parts_sub (by decide) hL) ?_
    | with_reducible refine letIn_frame (parts_sub (by decide) hL) ?_
    | with_reducible refine appendLog_frame (parts_sub (by decide) hL) ?_
    | with_reducible refine flushLog_frame (parts_sub (by decide) hL) ?_
    | intro _ _ _
    | intro _ _
    | intro _
    | split
    | dsimp only
    | dsimp only [id]

theorem execSlotIssueWindowStart_frame {s : State} :
    OutBut [StatePart.od, .stored, .counters, .mgmt, .links, .intx, .requests, .ats, .fnCfg, .admin, .int, .capture, .ctxs, .cmds, .engines, .entries, .lookups, .peers, .windows, .coherence, .memory, .pool, .det, .err, .power, .boot, .draws, .out] s (execSlotIssueWindowStart s) := by
  unfold execSlotIssueWindowStart
  refine OutBut.of (fun L s0 hL hok => ?_)
  repeat' first
    | with_reducible assumption
    | with_reducible refine startWindow_frame (parts_sub (by decide) hL) ?_
    | intro _ _ _
    | intro _ _
    | intro _
    | dsimp only
    | dsimp only [id]

theorem replayEntry_frame {L : List StatePart} {s0 : State} {c : CtxId} {f : FixedSt} {o : MemObj} {n : Nat} {e : Bytes} {s : State}
    (hL : ∀ p ∈ [StatePart.od, .stored, .counters, .mgmt, .links, .intx, .fnCfg, .int, .capture, .ctxs, .cmds, .engines, .lookups, .peers, .windows, .memory, .pool, .err, .power, .out], p ∈ L) (hok : SameBut L s0 s) :
    SameBut L s0 (replayEntry c f o n e s) := by
  unfold replayEntry
  repeat' first
    | with_reducible assumption
    | with_reducible exact .inl rfl
    | exact .inr (hL _ (by decide))
    | (extract_lets +onlyGivenNames x
       first
       | (refine sameStep (L := L) (s0 := s0) (x := x) (fun hx => ?_) ?_; clear_value x; rotate_left; subst x)
       | subst x)
    | with_reducible refine SameBut.ite ?_ ?_
    | with_reducible refine modFixed_frame (parts_sub (by decide) hL) ?_
    | with_reducible refine consumeEntry_frame (parts_sub (by decide) hL) ?_
    | with_reducible refine takeDoorbell_frame (parts_sub (by decide) hL) ?_
    | with_reducible refine SameBut.ofPair ?_ (by with_reducible assumption)
    | intro _ _ _
    | intro _ _
    | intro _
    | split
    | (simp only [same_lit]; with_reducible refine SameLit.of ?_ ?_ ?_ ?_ ?_ ?_ ?_ ?_ ?_ ?_ ?_ ?_ ?_ ?_ ?_ ?_ ?_ ?_ ?_ ?_ ?_ ?_ ?_ ?_ ?_ ?_ ?_ ?_ ?_ ?_ ?_ ?_ ?_ ?_ ?_ ?_ ?_ ?_ ?_ ?_)
    | exact .inl rfl
    | dsimp only
    | dsimp only [id]

theorem replayData_frame {L : List StatePart} {s0 : State} {c : CtxId} {o : MemObj} {w : ReplayWait} {s : State}
    (hL : ∀ p ∈ [StatePart.counters, .requests, .ats, .int, .ctxs, .cmds, .memory, .pool, .boot, .out], p ∈ L) (hok : SameBut L s0 s) :
    SameBut L s0 (replayData c o w s) := by
  unfold replayData
  repeat' first
    | with_reducible assumption
    | with_reducible exact .inl rfl
    | exact .inr (hL _ (by decide))
    | (extract_lets +onlyGivenNames x
       first
       | (refine sameStep (L := L) (s0 := s0) (x := x) (fun hx => ?_) ?_; clear_value x; rotate_left; subst x)
       | subst x)
    | with_reducible refine giveRead_frame (parts_sub (by decide) hL) ?_
    | with_reducible refine consumeEntry_frame (parts_sub (by decide) hL) ?_
    | with_reducible refine modFixed_frame (parts_sub (by decide) hL) ?_
    | intro _ _ _
    | intro _ _
    | intro _
    | (simp only [same_lit]; with_reducible refine SameLit.of ?_ ?_ ?_ ?_ ?_ ?_ ?_ ?_ ?_ ?_ ?_ ?_ ?_ ?_ ?_ ?_ ?_ ?_ ?_ ?_ ?_ ?_ ?_ ?_ ?_ ?_ ?_ ?_ ?_ ?_ ?_ ?_ ?_ ?_ ?_ ?_ ?_ ?_ ?_ ?_)
    | exact .inl rfl
    | dsimp only
    | dsimp only [id]

theorem replayDue_frame {L : List StatePart} {s0 : State} {c : CtxId} {s : State}
    (hL : ∀ p ∈ [StatePart.od, .stored, .counters, .mgmt, .links, .intx, .requests, .ats, .fnCfg, .int, .capture, .ctxs, .cmds, .engines, .lookups, .peers, .windows, .coherence, .memory, .pool, .err, .power, .boot, .out], p ∈ L) (hok : SameBut L s0 s) :
    SameBut L s0 (replayDue c s) := by
  unfold replayDue
  repeat' first
    | with_reducible assumption
    | with_reducible exact .inl rfl
    | exact .inr (hL _ (by decide))
    | (extract_lets +onlyGivenNames x
       first
       | (refine sameStep (L := L) (s0 := s0) (x := x) (fun hx => ?_) ?_; clear_value x; rotate_left; subst x)
       | subst x)
    | with_reducible refine SameBut.ite ?_ ?_
    | with_reducible refine logSnoops_frame (parts_sub (by decide) hL) ?_
    | with_reducible refine replayData_frame (parts_sub (by decide) hL) ?_
    | with_reducible refine replayEntry_frame (parts_sub (by decide) hL) ?_
    | with_reducible refine SameBut.ofPair ?_ (by with_reducible assumption)
    | intro _ _ _
    | intro _ _
    | intro _
    | split
    | (simp only [same_lit]; with_reducible refine SameLit.of ?_ ?_ ?_ ?_ ?_ ?_ ?_ ?_ ?_ ?_ ?_ ?_ ?_ ?_ ?_ ?_ ?_ ?_ ?_ ?_ ?_ ?_ ?_ ?_ ?_ ?_ ?_ ?_ ?_ ?_ ?_ ?_ ?_ ?_ ?_ ?_ ?_ ?_ ?_ ?_)
    | exact .inl rfl
    | dsimp only
    | dsimp only [id]

theorem execReplayEntryDue_frame {c : CtxId} {s : State} :
    OutBut [StatePart.od, .stored, .counters, .mgmt, .links, .intx, .requests, .ats, .fnCfg, .int, .capture, .ctxs, .cmds, .engines, .lookups, .peers, .windows, .coherence, .memory, .pool, .err, .power, .boot, .out] s (execReplayEntryDue c s) := by
  unfold execReplayEntryDue
  refine OutBut.of (fun L s0 hL hok => ?_)
  repeat' first
    | with_reducible assumption
    | with_reducible refine replayDue_frame (parts_sub (by decide) hL) ?_
    | intro _ _ _
    | intro _ _
    | intro _
    | dsimp only
    | dsimp only [id]


/-! ### Machine/Modes.lean -/

theorem modDet_frame {L : List StatePart} {s0 : State} {f : DetSt → DetSt} {s : State}
    (hL : ∀ p ∈ [StatePart.det], p ∈ L) (hok : SameBut L s0 s) :
    SameBut L s0 (modDet f s) := by
  unfold modDet
  repeat' first
    | with_reducible assumption
    | with_reducible exact .inl rfl
    | exact .inr (hL _ (by decide))
    | (extract_lets +onlyGivenNames x
       first
       | (refine sameStep (L := L) (s0 := s0) (x := x) (fun hx => ?_) ?_; clear_value x; rotate_left; subst x)
       | subst x)
    | intro _ _ _
    | intro _ _
    | intro _
    | (simp only [same_lit]; with_reducible refine SameLit.of ?_ ?_ ?_ ?_ ?_ ?_ ?_ ?_ ?_ ?_ ?_ ?_ ?_ ?_ ?_ ?_ ?_ ?_ ?_ ?_ ?_ ?_ ?_ ?_ ?_ ?_ ?_ ?_ ?_ ?_ ?_ ?_ ?_ ?_ ?_ ?_ ?_ ?_ ?_ ?_)
    | exact .inl rfl
    | dsimp only
    | dsimp only [id]

theorem execUnitFailureReport_frame {u : FailUnit} {s : State} :
    OutBut [StatePart.od, .stored, .counters, .mgmt, .links, .intx, .fnCfg, .int, .capture, .ctxs, .cmds, .engines, .entries, .lookups, .peers, .windows, .coherence, .det, .err, .power, .boot, .out] s (execUnitFailureReport u s) := by
  unfold execUnitFailureReport
  refine OutBut.of (fun L s0 hL hok => ?_)
  repeat' first
    | with_reducible assumption
    | with_reducible refine fenceUnit_frame (parts_sub (by decide) hL) ?_
    | intro _ _ _
    | intro _ _
    | intro _
    | dsimp only
    | dsimp only [id]

theorem startUnitRemap_frame {L : List StatePart} {s0 : State} {s : State}
    (hL : ∀ p ∈ [StatePart.det], p ∈ L) (hok : SameBut L s0 s) :
    SameBut L s0 (startUnitRemap s) := by
  unfold startUnitRemap
  repeat' first
    | with_reducible assumption
    | with_reducible exact .inl rfl
    | exact .inr (hL _ (by decide))
    | (extract_lets +onlyGivenNames x
       first
       | (refine sameStep (L := L) (s0 := s0) (x := x) (fun hx => ?_) ?_; clear_value x; rotate_left; subst x)
       | subst x)
    | with_reducible refine modDet_frame (parts_sub (by decide) hL) ?_
    | intro _ _ _
    | intro _ _
    | intro _
    | (simp only [same_lit]; with_reducible refine SameLit.of ?_ ?_ ?_ ?_ ?_ ?_ ?_ ?_ ?_ ?_ ?_ ?_ ?_ ?_ ?_ ?_ ?_ ?_ ?_ ?_ ?_ ?_ ?_ ?_ ?_ ?_ ?_ ?_ ?_ ?_ ?_ ?_ ?_ ?_ ?_ ?_ ?_ ?_ ?_ ?_)
    | exact .inl rfl
    | dsimp only
    | dsimp only [id]

theorem execUnitRemap_frame {rq : Requester} {s : State} :
    OutBut [StatePart.det, .out] s (execUnitRemap rq s) := by
  unfold execUnitRemap
  refine OutBut.of (fun L s0 hL hok => ?_)
  repeat' first
    | with_reducible assumption
    | with_reducible refine requestWrite_frame (parts_sub (by decide) hL) ?_ ?_
    | with_reducible refine startUnitRemap_frame (parts_sub (by decide) hL) ?_
    | intro _ _ _
    | intro _ _
    | intro _
    | dsimp only
    | dsimp only [id]

theorem takeOver_frame {L : List StatePart} {s0 : State} {n : Nat} {s : State}
    (hL : ∀ p ∈ [StatePart.det, .boot], p ∈ L) (hok : SameBut L s0 s) :
    SameBut L s0 (takeOver n s) := by
  unfold takeOver
  repeat' first
    | with_reducible assumption
    | with_reducible exact .inl rfl
    | exact .inr (hL _ (by decide))
    | (extract_lets +onlyGivenNames x
       first
       | (refine sameStep (L := L) (s0 := s0) (x := x) (fun hx => ?_) ?_; clear_value x; rotate_left; subst x)
       | subst x)
    | intro _ _ _
    | intro _ _
    | intro _
    | (simp only [same_lit]; with_reducible refine SameLit.of ?_ ?_ ?_ ?_ ?_ ?_ ?_ ?_ ?_ ?_ ?_ ?_ ?_ ?_ ?_ ?_ ?_ ?_ ?_ ?_ ?_ ?_ ?_ ?_ ?_ ?_ ?_ ?_ ?_ ?_ ?_ ?_ ?_ ?_ ?_ ?_ ?_ ?_ ?_ ?_)
    | exact .inl rfl
    | dsimp only
    | dsimp only [id]

theorem endUnitRemap_frame {L : List StatePart} {s0 : State} {s : State}
    (hL : ∀ p ∈ [StatePart.det, .boot], p ∈ L) (hok : SameBut L s0 s) :
    SameBut L s0 (endUnitRemap s) := by
  unfold endUnitRemap
  repeat' first
    | with_reducible assumption
    | with_reducible exact .inl rfl
    | exact .inr (hL _ (by decide))
    | (extract_lets +onlyGivenNames x
       first
       | (refine sameStep (L := L) (s0 := s0) (x := x) (fun hx => ?_) ?_; clear_value x; rotate_left; subst x)
       | subst x)
    | with_reducible refine SameBut.ite ?_ ?_
    | with_reducible refine foldState_frame (fun _ _ _ => ?_) ?_
    | with_reducible refine takeOver_frame (parts_sub (by decide) hL) ?_
    | with_reducible refine modDet_frame (parts_sub (by decide) hL) ?_
    | with_reducible refine mapChanged_frame (parts_sub (by decide) hL) ?_
    | intro _ _ _
    | intro _ _
    | intro _
    | split
    | (simp only [same_lit]; with_reducible refine SameLit.of ?_ ?_ ?_ ?_ ?_ ?_ ?_ ?_ ?_ ?_ ?_ ?_ ?_ ?_ ?_ ?_ ?_ ?_ ?_ ?_ ?_ ?_ ?_ ?_ ?_ ?_ ?_ ?_ ?_ ?_ ?_ ?_ ?_ ?_ ?_ ?_ ?_ ?_ ?_ ?_)
    | exact .inl rfl
    | dsimp only
    | dsimp only [id]

theorem execUnitRemapDone_frame {s : State} :
    OutBut [StatePart.det, .boot] s (execUnitRemapDone s) := by
  unfold execUnitRemapDone
  refine OutBut.of (fun L s0 hL hok => ?_)
  repeat' first
    | with_reducible assumption
    | with_reducible refine endUnitRemap_frame (parts_sub (by decide) hL) ?_
    | intro _ _ _
    | intro _ _
    | intro _
    | dsimp only
    | dsimp only [id]

theorem clustersWake_frame {L : List StatePart} {s0 : State} {s : State}
    (hL : ∀ p ∈ [StatePart.det, .out], p ∈ L) (hok : SameBut L s0 s) :
    SameBut L s0 (clustersWake s) := by
  unfold clustersWake
  repeat' first
    | with_reducible assumption
    | with_reducible exact .inl rfl
    | exact .inr (hL _ (by decide))
    | (extract_lets +onlyGivenNames x
       first
       | (refine sameStep (L := L) (s0 := s0) (x := x) (fun hx => ?_) ?_; clear_value x; rotate_left; subst x)
       | (refine sameStep (L := L) (s0 := s0) (x := x.1) (fun hx => ?_) ?_; clear_value x; rotate_left; subst x)
       | subst x)
    | with_reducible refine foldState_frame (fun _ _ _ => ?_) ?_
    | with_reducible refine emit_frame (parts_sub (by decide) hL) ?_
    | with_reducible refine modDet_frame (parts_sub (by decide) hL) ?_
    | intro _ _ _
    | intro _ _
    | intro _
    | (simp only [same_lit]; with_reducible refine SameLit.of ?_ ?_ ?_ ?_ ?_ ?_ ?_ ?_ ?_ ?_ ?_ ?_ ?_ ?_ ?_ ?_ ?_ ?_ ?_ ?_ ?_ ?_ ?_ ?_ ?_ ?_ ?_ ?_ ?_ ?_ ?_ ?_ ?_ ?_ ?_ ?_ ?_ ?_ ?_ ?_)
    | exact .inl rfl
    | dsimp only
    | dsimp only [id]

theorem commitIfAcked_frame {L : List StatePart} {s0 : State} {s : State}
    (hL : ∀ p ∈ [StatePart.det], p ∈ L) (hok : SameBut L s0 s) :
    SameBut L s0 (commitIfAcked s) := by
  unfold commitIfAcked
  repeat' first
    | with_reducible assumption
    | with_reducible exact .inl rfl
    | exact .inr (hL _ (by decide))
    | (extract_lets +onlyGivenNames x
       first
       | (refine sameStep (L := L) (s0 := s0) (x := x) (fun hx => ?_) ?_; clear_value x; rotate_left; subst x)
       | subst x)
    | with_reducible refine SameBut.ite ?_ ?_
    | with_reducible refine modDet_frame (parts_sub (by decide) hL) ?_
    | intro _ _ _
    | intro _ _
    | intro _
    | split
    | (simp only [same_lit]; with_reducible refine SameLit.of ?_ ?_ ?_ ?_ ?_ ?_ ?_ ?_ ?_ ?_ ?_ ?_ ?_ ?_ ?_ ?_ ?_ ?_ ?_ ?_ ?_ ?_ ?_ ?_ ?_ ?_ ?_ ?_ ?_ ?_ ?_ ?_ ?_ ?_ ?_ ?_ ?_ ?_ ?_ ?_)
    | exact .inl rfl
    | dsimp only
    | dsimp only [id]

theorem startStage_frame {L : List StatePart} {s0 : State} {s : State}
    (hL : ∀ p ∈ [StatePart.det, .out], p ∈ L) (hok : SameBut L s0 s) :
    SameBut L s0 (startStage s) := by
  unfold startStage
  repeat' first
    | with_reducible assumption
    | with_reducible exact .inl rfl
    | exact .inr (hL _ (by decide))
    | (extract_lets +onlyGivenNames x
       first
       | (refine sameStep (L := L) (s0 := s0) (x := x) (fun hx => ?_) ?_; clear_value x; rotate_left; subst x)
       | subst x)
    | with_reducible refine modDet_frame (parts_sub (by decide) hL) ?_
    | with_reducible refine commitIfAcked_frame (parts_sub (by decide) hL) ?_
    | with_reducible refine foldState_frame (fun _ _ _ => ?_) ?_
    | with_reducible refine emit_frame (parts_sub (by decide) hL) ?_
    | intro _ _ _
    | intro _ _
    | intro _
    | (simp only [same_lit]; with_reducible refine SameLit.of ?_ ?_ ?_ ?_ ?_ ?_ ?_ ?_ ?_ ?_ ?_ ?_ ?_ ?_ ?_ ?_ ?_ ?_ ?_ ?_ ?_ ?_ ?_ ?_ ?_ ?_ ?_ ?_ ?_ ?_ ?_ ?_ ?_ ?_ ?_ ?_ ?_ ?_ ?_ ?_)
    | exact .inl rfl
    | dsimp only
    | dsimp only [id]

theorem execModeChangeStage_frame {rq : Requester} {s : State} :
    OutBut [StatePart.det, .out] s (execModeChangeStage rq s) := by
  unfold execModeChangeStage
  refine OutBut.of (fun L s0 hL hok => ?_)
  repeat' first
    | with_reducible assumption
    | with_reducible refine requestWrite_frame (parts_sub (by decide) hL) ?_ ?_
    | with_reducible refine startStage_frame (parts_sub (by decide) hL) ?_
    | intro _ _ _
    | intro _ _
    | intro _
    | dsimp only
    | dsimp only [id]

theorem stageAck_frame {L : List StatePart} {s0 : State} {n : Nat} {s : State}
    (hL : ∀ p ∈ [StatePart.det, .out], p ∈ L) (hok : SameBut L s0 s) :
    SameBut L s0 (stageAck n s) := by
  unfold stageAck
  repeat' first
    | with_reducible assumption
    | with_reducible exact .inl rfl
    | exact .inr (hL _ (by decide))
    | (extract_lets +onlyGivenNames x
       first
       | (refine sameStep (L := L) (s0 := s0) (x := x) (fun hx => ?_) ?_; clear_value x; rotate_left; subst x)
       | subst x)
    | with_reducible refine SameBut.ite ?_ ?_
    | with_reducible refine abandonMode_frame (parts_sub (by decide) hL) ?_
    | with_reducible refine commitIfAcked_frame (parts_sub (by decide) hL) ?_
    | with_reducible refine modDet_frame (parts_sub (by decide) hL) ?_
    | intro _ _ _
    | intro _ _
    | intro _
    | split
    | (simp only [same_lit]; with_reducible refine SameLit.of ?_ ?_ ?_ ?_ ?_ ?_ ?_ ?_ ?_ ?_ ?_ ?_ ?_ ?_ ?_ ?_ ?_ ?_ ?_ ?_ ?_ ?_ ?_ ?_ ?_ ?_ ?_ ?_ ?_ ?_ ?_ ?_ ?_ ?_ ?_ ?_ ?_ ?_ ?_ ?_)
    | exact .inl rfl
    | dsimp only
    | dsimp only [id]

theorem execModeStageAck_frame {n : Nat} {s : State} :
    OutBut [StatePart.det, .out] s (execModeStageAck n s) := by
  unfold execModeStageAck
  refine OutBut.of (fun L s0 hL hok => ?_)
  repeat' first
    | with_reducible assumption
    | with_reducible refine stageAck_frame (parts_sub (by decide) hL) ?_
    | intro _ _ _
    | intro _ _
    | intro _
    | dsimp only
    | dsimp only [id]

theorem stageReject_frame {L : List StatePart} {s0 : State} {n : Nat} {s : State}
    (hL : ∀ p ∈ [StatePart.det, .out], p ∈ L) (hok : SameBut L s0 s) :
    SameBut L s0 (stageReject n s) := by
  unfold stageReject
  repeat' first
    | with_reducible assumption
    | with_reducible refine SameBut.ite ?_ ?_
    | with_reducible refine abandonMode_frame (parts_sub (by decide) hL) ?_
    | intro _ _ _
    | intro _ _
    | intro _
    | split
    | dsimp only
    | dsimp only [id]

theorem execModeStageReject_frame {n : Nat} {s : State} :
    OutBut [StatePart.det, .out] s (execModeStageReject n s) := by
  unfold execModeStageReject
  refine OutBut.of (fun L s0 hL hok => ?_)
  repeat' first
    | with_reducible assumption
    | with_reducible refine stageReject_frame (parts_sub (by decide) hL) ?_
    | intro _ _ _
    | intro _ _
    | intro _
    | dsimp only
    | dsimp only [id]

theorem stageExpired_frame {L : List StatePart} {s0 : State} {n : Nat} {s : State}
    (hL : ∀ p ∈ [StatePart.det, .out], p ∈ L) (hok : SameBut L s0 s) :
    SameBut L s0 (stageExpired n s) := by
  unfold stageExpired
  repeat' first
    | with_reducible assumption
    | with_reducible refine SameBut.ite ?_ ?_
    | with_reducible refine abandonMode_frame (parts_sub (by decide) hL) ?_
    | intro _ _ _
    | intro _ _
    | intro _
    | split
    | dsimp only
    | dsimp only [id]

theorem execModeStageTimeout_frame {n : Nat} {s : State} :
    OutBut [StatePart.det, .out] s (execModeStageTimeout n s) := by
  unfold execModeStageTimeout
  refine OutBut.of (fun L s0 hL hok => ?_)
  repeat' first
    | with_reducible assumption
    | with_reducible refine stageExpired_frame (parts_sub (by decide) hL) ?_
    | intro _ _ _
    | intro _ _
    | intro _
    | dsimp only
    | dsimp only [id]

theorem commitMode_frame {L : List StatePart} {s0 : State} {s : State}
    (hL : ∀ p ∈ [StatePart.det, .out], p ∈ L) (hok : SameBut L s0 s) :
    SameBut L s0 (commitMode s) := by
  unfold commitMode
  repeat' first
    | with_reducible assumption
    | with_reducible exact .inl rfl
    | exact .inr (hL _ (by decide))
    | (extract_lets +onlyGivenNames x
       first
       | (refine sameStep (L := L) (s0 := s0) (x := x) (fun hx => ?_) ?_; clear_value x; rotate_left; subst x)
       | subst x)
    | with_reducible refine SameBut.ite ?_ ?_
    | with_reducible refine foldState_frame (fun _ _ _ => ?_) ?_
    | with_reducible refine emit_frame (parts_sub (by decide) hL) ?_
    | with_reducible refine modDet_frame (parts_sub (by decide) hL) ?_
    | intro _ _ _
    | intro _ _
    | intro _
    | split
    | (simp only [same_lit]; with_reducible refine SameLit.of ?_ ?_ ?_ ?_ ?_ ?_ ?_ ?_ ?_ ?_ ?_ ?_ ?_ ?_ ?_ ?_ ?_ ?_ ?_ ?_ ?_ ?_ ?_ ?_ ?_ ?_ ?_ ?_ ?_ ?_ ?_ ?_ ?_ ?_ ?_ ?_ ?_ ?_ ?_ ?_)
    | exact .inl rfl
    | dsimp only
    | dsimp only [id]

theorem execModeCommit_frame {s : State} :
    OutBut [StatePart.det, .out] s (execModeCommit s) := by
  unfold execModeCommit
  refine OutBut.of (fun L s0 hL hok => ?_)
  repeat' first
    | with_reducible assumption
    | with_reducible refine commitMode_frame (parts_sub (by decide) hL) ?_
    | intro _ _ _
    | intro _ _
    | intro _
    | dsimp only
    | dsimp only [id]


/-! ### Machine/Ports.lean -/

theorem noteStalls_frame {L : List StatePart} {s0 : State} {g : Fun} {kind : Nat} {s : State}
    (hL : ∀ p ∈ [StatePart.ctxs], p ∈ L) (hok : SameBut L s0 s) :
    SameBut L s0 (noteStalls g kind s) := by
  unfold noteStalls
  repeat' first
    | with_reducible assumption
    | with_reducible refine foldState_frame (fun _ _ _ => ?_) ?_
    | with_reducible refine noteLog_frame (parts_sub (by decide) hL) ?_
    | intro _ _ _
    | intro _ _
    | intro _
    | dsimp only
    | dsimp only [id]

theorem stallBegins_frame {L : List StatePart} {s0 : State} {g : Fun} {s : State}
    (hL : ∀ p ∈ [StatePart.fnState, .ctxs], p ∈ L) (hok : SameBut L s0 s) :
    SameBut L s0 (stallBegins g s) := by
  unfold stallBegins
  repeat' first
    | with_reducible assumption
    | with_reducible exact .inl rfl
    | exact .inr (hL _ (by decide))
    | exact .inl fun _ => rfl
    | (extract_lets +onlyGivenNames x
       first
       | (refine sameStep (L := L) (s0 := s0) (x := x) (fun hx => ?_) ?_; clear_value x; rotate_left; subst x)
       | subst x)
    | with_reducible refine SameBut.ite ?_ ?_
    | with_reducible refine foldState_frame (fun _ _ _ => ?_) ?_
    | with_reducible refine clearCycleExact_frame (parts_sub (by decide) hL) ?_
    | with_reducible refine noteStalls_frame (parts_sub (by decide) hL) ?_
    | with_reducible refine modFn_frame ?_ ?_ ?_ ?_ ?_ ?_ ?_ ?_ ?_ 
    | intro _ _ _
    | intro _ _
    | intro _
    | split
    | (simp only [same_lit]; with_reducible refine SameLit.of ?_ ?_ ?_ ?_ ?_ ?_ ?_ ?_ ?_ ?_ ?_ ?_ ?_ ?_ ?_ ?_ ?_ ?_ ?_ ?_ ?_ ?_ ?_ ?_ ?_ ?_ ?_ ?_ ?_ ?_ ?_ ?_ ?_ ?_ ?_ ?_ ?_ ?_ ?_ ?_)
    | exact .inl fun x => by (repeat' split) <;> rfl
    | exact .inl rfl
    | dsimp only
    | dsimp only [id]

theorem stallEnds_frame {L : List StatePart} {s0 : State} {g : Fun} {s : State}
    (hL : ∀ p ∈ [StatePart.counters, .links, .intx, .requests, .ats, .fnCfg, .fnState, .int, .ctxs, .power, .out], p ∈ L) (hok : SameBut L s0 s) :
    SameBut L s0 (stallEnds g s) := by
  unfold stallEnds
  repeat' first
    | with_reducible assumption
    | with_reducible exact .inl rfl
    | exact .inr (hL _ (by decide))
    | exact .inl fun _ => rfl
    | (extract_lets +onlyGivenNames x
       first
       | (refine sameStep (L := L) (s0 := s0) (x := x) (fun hx => ?_) ?_; clear_value x; rotate_left; subst x)
       | subst x)
    | with_reducible refine SameBut.ite ?_ ?_
    | with_reducible refine askAdmin_frame (parts_sub (by decide) hL) ?_
    | with_reducible refine noteStalls_frame (parts_sub (by decide) hL) ?_
    | with_reducible refine releaseHeld_frame (parts_sub (by decide) hL) ?_
    | with_reducible refine modFn_frame ?_ ?_ ?_ ?_ ?_ ?_ ?_ ?_ ?_ 
    | intro _ _ _
    | intro _ _
    | intro _
    | split
    | (simp only [same_lit]; with_reducible refine SameLit.of ?_ ?_ ?_ ?_ ?_ ?_ ?_ ?_ ?_ ?_ ?_ ?_ ?_ ?_ ?_ ?_ ?_ ?_ ?_ ?_ ?_ ?_ ?_ ?_ ?_ ?_ ?_ ?_ ?_ ?_ ?_ ?_ ?_ ?_ ?_ ?_ ?_ ?_ ?_ ?_)
    | exact .inl fun x => by (repeat' split) <;> rfl
    | exact .inl rfl
    | dsimp only
    | dsimp only [id]

theorem writeCommand_frame {L : List StatePart} {s0 : State} {g : Fun} {v : Nat} {s : State}
    (hL : ∀ p ∈ [StatePart.counters, .links, .intx, .requests, .ats, .fnCfg, .fnState, .int, .ctxs, .power, .boot, .out], p ∈ L) (hok : SameBut L s0 s) :
    SameBut L s0 (writeCommand g v s) := by
  unfold writeCommand
  repeat' first
    | with_reducible assumption
    | with_reducible exact .inl rfl
    | exact .inr (hL _ (by decide))
    | (extract_lets +onlyGivenNames x
       first
       | (refine sameStep (L := L) (s0 := s0) (x := x) (fun hx => ?_) ?_; clear_value x; rotate_left; subst x)
       | subst x)
    | with_reducible refine SameBut.ite ?_ ?_
    | with_reducible refine modCfg_frame (parts_sub (by decide) hL) ?_
    | with_reducible refine stallEnds_frame (parts_sub (by decide) hL) ?_
    | with_reducible refine stallBegins_frame (parts_sub (by decide) hL) ?_
    | with_reducible refine issueImage_frame (parts_sub (by decide) hL) ?_
    | with_reducible refine settleIntx_frame (parts_sub (by decide) hL) ?_
    | intro _ _ _
    | intro _ _
    | intro _
    | split
    | (simp only [same_lit]; with_reducible refine SameLit.of ?_ ?_ ?_ ?_ ?_ ?_ ?_ ?_ ?_ ?_ ?_ ?_ ?_ ?_ ?_ ?_ ?_ ?_ ?_ ?_ ?_ ?_ ?_ ?_ ?_ ?_ ?_ ?_ ?_ ?_ ?_ ?_ ?_ ?_ ?_ ?_ ?_ ?_ ?_ ?_)
    | exact .inl rfl
    | dsimp only
    | dsimp only [id]

theorem execBusMasterEnableClear_frame {g : Fun} {s : State} :
    OutBut [StatePart.counters, .links, .intx, .requests, .ats, .fnCfg, .fnState, .int, .ctxs, .power, .boot, .out] s (execBusMasterEnableClear g s) := by
  unfold execBusMasterEnableClear
  refine OutBut.of (fun L s0 hL hok => ?_)
  repeat' first
    | with_reducible assumption
    | with_reducible refine cfgWrite_frame (parts_sub (by decide) hL) ?_ ?_
    | with_reducible refine writeCommand_frame (parts_sub (by decide) hL) ?_
    | intro _ _ _
    | intro _ _
    | intro _
    | dsimp only
    | dsimp only [id]

theorem execBusMasterEnableSet_frame {g : Fun} {s : State} :
    OutBut [StatePart.counters, .links, .intx, .requests, .ats, .fnCfg, .fnState, .int, .ctxs, .power, .boot, .out] s (execBusMasterEnableSet g s) := by
  unfold execBusMasterEnableSet
  refine OutBut.of (fun L s0 hL hok => ?_)
  repeat' first
    | with_reducible assumption
    | with_reducible refine cfgWrite_frame (parts_sub (by decide) hL) ?_ ?_
    | with_reducible refine writeCommand_frame (parts_sub (by decide) hL) ?_
    | intro _ _ _
    | intro _ _
    | intro _
    | dsimp only
    | dsimp only [id]

theorem execInterruptDisableWrite_frame {g : Fun} {v : Bool} {s : State} :
    OutBut [StatePart.counters, .links, .intx, .requests, .ats, .fnCfg, .fnState, .int, .ctxs, .power, .boot, .out] s (execInterruptDisableWrite g v s) := by
  unfold execInterruptDisableWrite
  refine OutBut.of (fun L s0 hL hok => ?_)
  repeat' first
    | with_reducible assumption
    | with_reducible refine SameBut.ite ?_ ?_
    | with_reducible refine cfgWrite_frame (parts_sub (by decide) hL) ?_ ?_
    | with_reducible refine writeCommand_frame (parts_sub (by decide) hL) ?_
    | intro _ _ _
    | intro _ _
    | intro _
    | split
    | dsimp only
    | dsimp only [id]

theorem execStallQuiet_frame {g : Fun} {s : State} :
    OutBut [StatePart.fnState] s (execStallQuiet g s) := by
  unfold execStallQuiet
  refine OutBut.of (fun L s0 hL hok => ?_)
  repeat' first
    | with_reducible assumption
    | with_reducible exact .inl rfl
    | exact .inr (hL _ (by decide))
    | exact .inl fun _ => rfl
    | (extract_lets +onlyGivenNames x
       first
       | (refine sameStep (L := L) (s0 := s0) (x := x) (fun hx => ?_) ?_; clear_value x; rotate_left; subst x)
       | subst x)
    | with_reducible refine SameBut.ite ?_ ?_
    | with_reducible refine modFn_frame ?_ ?_ ?_ ?_ ?_ ?_ ?_ ?_ ?_ 
    | intro _ _ _
    | intro _ _
    | intro _
    | split
    | (simp only [same_lit]; with_reducible refine SameLit.of ?_ ?_ ?_ ?_ ?_ ?_ ?_ ?_ ?_ ?_ ?_ ?_ ?_ ?_ ?_ ?_ ?_ ?_ ?_ ?_ ?_ ?_ ?_ ?_ ?_ ?_ ?_ ?_ ?_ ?_ ?_ ?_ ?_ ?_ ?_ ?_ ?_ ?_ ?_ ?_)
    | exact .inl fun x => by (repeat' split) <;> rfl
    | exact .inl rfl
    | dsimp only
    | dsimp only [id]

theorem leaveL0_frame {L : List StatePart} {s0 : State} {p : Nat} {s : State}
    (hL : ∀ p ∈ [StatePart.boot], p ∈ L) (hok : SameBut L s0 s) :
    SameBut L s0 (leaveL0 p s) := by
  unfold leaveL0
  repeat' first
    | with_reducible assumption
    | with_reducible exact .inl rfl
    | exact .inr (hL _ (by decide))
    | (extract_lets +onlyGivenNames x
       first
       | (refine sameStep (L := L) (s0 := s0) (x := x) (fun hx => ?_) ?_; clear_value x; rotate_left; subst x)
       | subst x)
    | with_reducible refine SameBut.ite ?_ ?_
    | intro _ _ _
    | intro _ _
    | intro _
    | split
    | (simp only [same_lit]; with_reducible refine SameLit.of ?_ ?_ ?_ ?_ ?_ ?_ ?_ ?_ ?_ ?_ ?_ ?_ ?_ ?_ ?_ ?_ ?_ ?_ ?_ ?_ ?_ ?_ ?_ ?_ ?_ ?_ ?_ ?_ ?_ ?_ ?_ ?_ ?_ ?_ ?_ ?_ ?_ ?_ ?_ ?_)
    | exact .inl rfl
    | dsimp only
    | dsimp only [id]

theorem linkLeavesL0_frame {L : List StatePart} {s0 : State} {p : Port} {s : State}
    (hL : ∀ p ∈ [StatePart.boot], p ∈ L) (hok : SameBut L s0 s) :
    SameBut L s0 (linkLeavesL0 p s) := by
  unfold linkLeavesL0
  repeat' first
    | with_reducible assumption
    | with_reducible refine SameBut.ite ?_ ?_
    | with_reducible refine leaveL0_frame (parts_sub (by decide) hL) ?_
    | intro _ _ _
    | intro _ _
    | intro _
    | split
    | dsimp only
    | dsimp only [id]

theorem enterD3_frame {L : List StatePart} {s0 : State} {g : Fun} {s : State}
    (hL : ∀ p ∈ [StatePart.counters, .links, .intx, .fnCfg, .fnState, .int, .ctxs, .boot, .out], p ∈ L) (hok : SameBut L s0 s) :
    SameBut L s0 (enterD3 g s) := by
  unfold enterD3
  repeat' first
    | with_reducible assumption
    | with_reducible exact .inl rfl
    | exact .inr (hL _ (by decide))
    | exact .inl fun _ => rfl
    | (extract_lets +onlyGivenNames x
       first
       | (refine sameStep (L := L) (s0 := s0) (x := x) (fun hx => ?_) ?_; clear_value x; rotate_left; subst x)
       | subst x)
    | with_reducible refine SameBut.ite ?_ ?_
    | with_reducible refine stallBegins_frame (parts_sub (by decide) hL) ?_
    | with_reducible refine modCfg_frame (parts_sub (by decide) hL) ?_
    | with_reducible refine settleIntx_frame (parts_sub (by decide) hL) ?_
    | with_reducible refine linkLeavesL0_frame (parts_sub (by decide) hL) ?_
    | with_reducible refine modPort_frame ?_ ?_ ?_ ?_ ?_ 
    | intro _ _ _
    | intro _ _
    | intro _
    | split
    | (simp only [same_lit]; with_reducible refine SameLit.of ?_ ?_ ?_ ?_ ?_ ?_ ?_ ?_ ?_ ?_ ?_ ?_ ?_ ?_ ?_ ?_ ?_ ?_ ?_ ?_ ?_ ?_ ?_ ?_ ?_ ?_ ?_ ?_ ?_ ?_ ?_ ?_ ?_ ?_ ?_ ?_ ?_ ?_ ?_ ?_)
    | exact .inl fun x => by (repeat' split) <;> rfl
    | exact .inl rfl
    | dsimp only
    | dsimp only [id]

theorem execPowerStateD3hot_frame {g : Fun} {s : State} :
    OutBut [StatePart.counters, .links, .intx, .fnCfg, .fnState, .int, .ctxs, .boot, .out] s (execPowerStateD3hot g s) := by
  unfold execPowerStateD3hot
  refine OutBut.of (fun L s0 hL hok => ?_)
  repeat' first
    | with_reducible assumption
    | with_reducible refine SameBut.ite ?_ ?_
    | with_reducible refine cfgWrite_frame (parts_sub (by decide) hL) ?_ ?_
    | with_reducible refine enterD3_frame (parts_sub (by decide) hL) ?_
    | intro _ _ _
    | intro _ _
    | intro _
    | split
    | dsimp only
    | dsimp only [id]

theorem leaveD3_frame {L : List StatePart} {s0 : State} {g : Fun} {s : State}
    (hL : ∀ p ∈ [StatePart.counters, .links, .intx, .requests, .ats, .fnCfg, .fnState, .int, .ctxs, .power, .out], p ∈ L) (hok : SameBut L s0 s) :
    SameBut L s0 (leaveD3 g s) := by
  unfold leaveD3
  repeat' first
    | with_reducible assumption
    | with_reducible exact .inl rfl
    | exact .inr (hL _ (by decide))
    | (extract_lets +onlyGivenNames x
       first
       | (refine sameStep (L := L) (s0 := s0) (x := x) (fun hx => ?_) ?_; clear_value x; rotate_left; subst x)
       | subst x)
    | with_reducible refine settleIntx_frame (parts_sub (by decide) hL) ?_
    | with_reducible refine stallEnds_frame (parts_sub (by decide) hL) ?_
    | with_reducible refine modCfg_frame (parts_sub (by decide) hL) ?_
    | intro _ _ _
    | intro _ _
    | intro _
    | (simp only [same_lit]; with_reducible refine SameLit.of ?_ ?_ ?_ ?_ ?_ ?_ ?_ ?_ ?_ ?_ ?_ ?_ ?_ ?_ ?_ ?_ ?_ ?_ ?_ ?_ ?_ ?_ ?_ ?_ ?_ ?_ ?_ ?_ ?_ ?_ ?_ ?_ ?_ ?_ ?_ ?_ ?_ ?_ ?_ ?_)
    | exact .inl rfl
    | dsimp only
    | dsimp only [id]

theorem execPowerStateD0_frame {g : Fun} {s : State} :
    OutBut [StatePart.counters, .links, .intx, .requests, .ats, .fnCfg, .fnState, .int, .ctxs, .power, .out] s (execPowerStateD0 g s) := by
  unfold execPowerStateD0
  refine OutBut.of (fun L s0 hL hok => ?_)
  repeat' first
    | with_reducible assumption
    | with_reducible refine SameBut.ite ?_ ?_
    | with_reducible refine cfgWrite_frame (parts_sub (by decide) hL) ?_ ?_
    | with_reducible refine leaveD3_frame (parts_sub (by decide) hL) ?_
    | intro _ _ _
    | intro _ _
    | intro _
    | split
    | dsimp only
    | dsimp only [id]

theorem dropAts_frame {L : List StatePart} {s0 : State} {g : Fun} {s : State}
    (hL : ∀ p ∈ [StatePart.requests, .ats, .cmds], p ∈ L) (hok : SameBut L s0 s) :
    SameBut L s0 (dropAts g s) := by
  unfold dropAts
  repeat' first
    | with_reducible assumption
    | with_reducible refine forgetAts_frame (parts_sub (by decide) hL) ?_
    | intro _ _ _
    | intro _ _
    | intro _
    | dsimp only
    | dsimp only [id]

theorem clearAts_frame {L : List StatePart} {s0 : State} {g : Fun} {pasid : Bool} {s : State}
    (hL : ∀ p ∈ [StatePart.requests, .ats, .fnCfg, .cmds], p ∈ L) (hok : SameBut L s0 s) :
    SameBut L s0 (clearAts g pasid s) := by
  unfold clearAts
  repeat' first
    | with_reducible assumption
    | with_reducible exact .inl rfl
    | exact .inr (hL _ (by decide))
    | (extract_lets +onlyGivenNames x
       first
       | (refine sameStep (L := L) (s0 := s0) (x := x) (fun hx => ?_) ?_; clear_value x; rotate_left; subst x)
       | subst x)
    | with_reducible refine SameBut.ite ?_ ?_
    | with_reducible refine dropWaits_frame (parts_sub (by decide) hL) ?_
    | with_reducible refine dropAts_frame (parts_sub (by decide) hL) ?_
    | with_reducible refine modCfg_frame (parts_sub (by decide) hL) ?_
    | intro _ _ _
    | intro _ _
    | intro _
    | split
    | (simp only [same_lit]; with_reducible refine SameLit.of ?_ ?_ ?_ ?_ ?_ ?_ ?_ ?_ ?_ ?_ ?_ ?_ ?_ ?_ ?_ ?_ ?_ ?_ ?_ ?_ ?_ ?_ ?_ ?_ ?_ ?_ ?_ ?_ ?_ ?_ ?_ ?_ ?_ ?_ ?_ ?_ ?_ ?_ ?_ ?_)
    | exact .inl rfl
    | dsimp only
    | dsimp only [id]

theorem execAtsPasidDisable_frame {g : Fun} {pasid : Bool} {s : State} :
    OutBut [StatePart.requests, .ats, .fnCfg, .cmds, .out] s (execAtsPasidDisable g pasid s) := by
  unfold execAtsPasidDisable
  refine OutBut.of (fun L s0 hL hok => ?_)
  repeat' first
    | with_reducible assumption
    | with_reducible refine cfgWrite_frame (parts_sub (by decide) hL) ?_ ?_
    | with_reducible refine clearAts_frame (parts_sub (by decide) hL) ?_
    | intro _ _ _
    | intro _ _
    | intro _
    | dsimp only
    | dsimp only [id]

theorem abortContexts_frame {L : List StatePart} {s0 : State} {g : Fun} {s : State}
    (hL : ∀ p ∈ [StatePart.counters, .requests, .int, .ctxs, .cmds, .engines, .lookups, .peers, .windows, .memory, .det, .draws, .out], p ∈ L) (hok : SameBut L s0 s) :
    SameBut L s0 (abortContexts g s) := by
  unfold abortContexts
  repeat' first
    | with_reducible assumption
    | with_reducible exact .inl rfl
    | exact .inr (hL _ (by decide))
    | (extract_lets +onlyGivenNames x
       first
       | (refine sameStep (L := L) (s0 := s0) (x := x) (fun hx => ?_) ?_; clear_value x; rotate_left; subst x)
       | (refine sameStep (L := L) (s0 := s0) (x := x.1) (fun hx => ?_) ?_; clear_value x; rotate_left; subst x)
       | subst x)
    | with_reducible refine SameBut.ite ?_ ?_
    | with_reducible refine foldState_frame (fun _ _ _ => ?_) ?_
    | with_reducible refine modCtx_frame (parts_sub (by decide) hL) ?_
    | with_reducible refine abortContext_frame (parts_sub (by decide) hL) ?_
    | intro _ _ _
    | intro _ _
    | intro _
    | split
    | (simp only [same_lit]; with_reducible refine SameLit.of ?_ ?_ ?_ ?_ ?_ ?_ ?_ ?_ ?_ ?_ ?_ ?_ ?_ ?_ ?_ ?_ ?_ ?_ ?_ ?_ ?_ ?_ ?_ ?_ ?_ ?_ ?_ ?_ ?_ ?_ ?_ ?_ ?_ ?_ ?_ ?_ ?_ ?_ ?_ ?_)
    | exact .inl rfl
    | dsimp only
    | dsimp only [id]

theorem freeAll_frame {L : List StatePart} {s0 : State} {g : Fun} {s : State}
    (hL : ∀ p ∈ [StatePart.od, .stored, .counters, .mgmt, .links, .intx, .fnCfg, .int, .capture, .ctxs, .objs, .slots, .cmds, .engines, .lookups, .peers, .windows, .coherence, .err, .power, .out], p ∈ L) (hok : SameBut L s0 s) :
    SameBut L s0 (freeAll g s) := by
  unfold freeAll
  repeat' first
    | with_reducible assumption
    | with_reducible exact .inl rfl
    | exact .inr (hL _ (by decide))
    | (extract_lets +onlyGivenNames x
       first
       | (refine sameStep (L := L) (s0 := s0) (x := x) (fun hx => ?_) ?_; clear_value x; rotate_left; subst x)
       | (refine sameStep (L := L) (s0 := s0) (x := x.1) (fun hx => ?_) ?_; clear_value x; rotate_left; subst x)
       | subst x)
    | with_reducible refine foldState_frame (fun _ _ _ => ?_) ?_
    | with_reducible refine freeStart_frame (parts_sub (by decide) hL) ?_
    | intro _ _ _
    | intro _ _
    | intro _
    | (simp only [same_lit]; with_reducible refine SameLit.of ?_ ?_ ?_ ?_ ?_ ?_ ?_ ?_ ?_ ?_ ?_ ?_ ?_ ?_ ?_ ?_ ?_ ?_ ?_ ?_ ?_ ?_ ?_ ?_ ?_ ?_ ?_ ?_ ?_ ?_ ?_ ?_ ?_ ?_ ?_ ?_ ?_ ?_ ?_ ?_)
    | exact .inl rfl
    | dsimp only
    | dsimp only [id]

theorem closeAll_frame {L : List StatePart} {s0 : State} {g : Fun} {s : State}
    (hL : ∀ p ∈ [StatePart.windows], p ∈ L) (hok : SameBut L s0 s) :
    SameBut L s0 (closeAll g s) := by
  unfold closeAll
  repeat' first
    | with_reducible assumption
    | with_reducible exact .inl rfl
    | exact .inr (hL _ (by decide))
    | (extract_lets +onlyGivenNames x
       first
       | (refine sameStep (L := L) (s0 := s0) (x := x) (fun hx => ?_) ?_; clear_value x; rotate_left; subst x)
       | (refine sameStep (L := L) (s0 := s0) (x := x.1) (fun hx => ?_) ?_; clear_value x; rotate_left; subst x)
       | subst x)
    | with_reducible refine SameBut.ite ?_ ?_
    | intro _ _ _
    | intro _ _
    | intro _
    | split
    | (simp only [same_lit]; with_reducible refine SameLit.of ?_ ?_ ?_ ?_ ?_ ?_ ?_ ?_ ?_ ?_ ?_ ?_ ?_ ?_ ?_ ?_ ?_ ?_ ?_ ?_ ?_ ?_ ?_ ?_ ?_ ?_ ?_ ?_ ?_ ?_ ?_ ?_ ?_ ?_ ?_ ?_ ?_ ?_ ?_ ?_)
    | exact .inl rfl
    | dsimp only
    | dsimp only [id]

theorem beginAbort_frame {L : List StatePart} {s0 : State} {ev : AbortEvent} {g : Fun} {s : State}
    (hL : ∀ p ∈ [StatePart.od, .stored, .counters, .mgmt, .links, .intx, .requests, .fnCfg, .fnState, .admin, .faultq, .int, .capture, .ctxs, .objs, .slots, .cmds, .engines, .lookups, .peers, .windows, .coherence, .memory, .det, .err, .power, .boot, .draws, .out], p ∈ L) (hok : SameBut L s0 s) :
    SameBut L s0 (beginAbort ev g s) := by
  unfold beginAbort
  repeat' first
    | with_reducible assumption
    | with_reducible exact .inl rfl
    | exact .inr (hL _ (by decide))
    | exact .inl fun _ => rfl
    | (extract_lets +onlyGivenNames x
       first
       | (refine sameStep (L := L) (s0 := s0) (x := x) (fun hx => ?_) ?_; clear_value x; rotate_left; subst x)
       | subst x)
    | with_reducible refine SameBut.ite ?_ ?_
    | with_reducible refine modFn_frame ?_ ?_ ?_ ?_ ?_ ?_ ?_ ?_ ?_ 
    | with_reducible refine abortContexts_frame (parts_sub (by decide) hL) ?_
    | with_reducible refine settleIntx_frame (parts_sub (by decide) hL) ?_
    | with_reducible refine imageFails_frame (parts_sub (by decide) hL) ?_
    | with_reducible refine quarantine_frame (parts_sub (by decide) hL) ?_
    | with_reducible refine closeAll_frame (parts_sub (by decide) hL) ?_
    | with_reducible refine freeAll_frame (parts_sub (by decide) hL) ?_
    | intro _ _ _
    | intro _ _
    | intro _
    | split
    | (simp only [same_lit]; with_reducible refine SameLit.of ?_ ?_ ?_ ?_ ?_ ?_ ?_ ?_ ?_ ?_ ?_ ?_ ?_ ?_ ?_ ?_ ?_ ?_ ?_ ?_ ?_ ?_ ?_ ?_ ?_ ?_ ?_ ?_ ?_ ?_ ?_ ?_ ?_ ?_ ?_ ?_ ?_ ?_ ?_ ?_)
    | exact .inl fun x => by (repeat' split) <;> rfl
    | exact .inl rfl
    | dsimp only
    | dsimp only [id]

theorem abortFn_frame {L : List StatePart} {s0 : State} {ev : AbortEvent} {g : Fun} {s : State}
    (hL : ∀ p ∈ [StatePart.od, .stored, .counters, .mgmt, .links, .intx, .requests, .fnCfg, .fnState, .admin, .faultq, .int, .capture, .ctxs, .objs, .slots, .cmds, .engines, .lookups, .peers, .windows, .coherence, .memory, .det, .err, .power, .boot, .draws, .out], p ∈ L) (hok : SameBut L s0 s) :
    SameBut L s0 (abortFn ev g s) := by
  unfold abortFn
  repeat' first
    | with_reducible assumption
    | with_reducible refine SameBut.ite ?_ ?_
    | with_reducible refine beginAbort_frame (parts_sub (by decide) hL) ?_
    | intro _ _ _
    | intro _ _
    | intro _
    | split
    | dsimp only
    | dsimp only [id]

theorem scrubExtent_frame {L : List StatePart} {s0 : State} {g : Fun} {s : State}
    (hL : ∀ p ∈ [StatePart.pool], p ∈ L) (hok : SameBut L s0 s) :
    SameBut L s0 (scrubExtent g s) := by
  unfold scrubExtent
  repeat' first
    | with_reducible assumption
    | with_reducible exact .inl rfl
    | exact .inr (hL _ (by decide))
    | (extract_lets +onlyGivenNames x
       first
       | (refine sameStep (L := L) (s0 := s0) (x := x) (fun hx => ?_) ?_; clear_value x; rotate_left; subst x)
       | subst x)
    | with_reducible refine SameBut.ite ?_ ?_
    | with_reducible refine SameBut.ofPair ?_ (by with_reducible assumption)
    | intro _ _ _
    | intro _ _
    | intro _
    | split
    | (simp only [same_lit]; with_reducible refine SameLit.of ?_ ?_ ?_ ?_ ?_ ?_ ?_ ?_ ?_ ?_ ?_ ?_ ?_ ?_ ?_ ?_ ?_ ?_ ?_ ?_ ?_ ?_ ?_ ?_ ?_ ?_ ?_ ?_ ?_ ?_ ?_ ?_ ?_ ?_ ?_ ?_ ?_ ?_ ?_ ?_)
    | exact .inl rfl
    | dsimp only
    | dsimp only [id]

theorem clearFnCounters_frame {L : List StatePart} {s0 : State} {g : Fun} {s : State}
    (hL : ∀ p ∈ [StatePart.counters], p ∈ L) (hok : SameBut L s0 s) :
    SameBut L s0 (clearFnCounters g s) := by
  unfold clearFnCounters
  repeat' first
    | with_reducible assumption
    | with_reducible exact .inl rfl
    | exact .inr (hL _ (by decide))
    | (extract_lets +onlyGivenNames x
       first
       | (refine sameStep (L := L) (s0 := s0) (x := x) (fun hx => ?_) ?_; clear_value x; rotate_left; subst x)
       | (refine sameStep (L := L) (s0 := s0) (x := x.1) (fun hx => ?_) ?_; clear_value x; rotate_left; subst x)
       | subst x)
    | intro _ _ _
    | intro _ _
    | intro _
    | (simp only [same_lit]; with_reducible refine SameLit.of ?_ ?_ ?_ ?_ ?_ ?_ ?_ ?_ ?_ ?_ ?_ ?_ ?_ ?_ ?_ ?_ ?_ ?_ ?_ ?_ ?_ ?_ ?_ ?_ ?_ ?_ ?_ ?_ ?_ ?_ ?_ ?_ ?_ ?_ ?_ ?_ ?_ ?_ ?_ ?_)
    | exact .inl rfl
    | dsimp only
    | dsimp only [id]

theorem endAbort_frame {L : List StatePart} {s0 : State} {ev : AbortEvent} {g : Fun} {s : State}
    (hL : ∀ p ∈ [StatePart.counters, .requests, .ats, .fnCfg, .fnState, .mbx, .admin, .faultq, .int, .capture, .cmds, .pool], p ∈ L) (hok : SameBut L s0 s) :
    SameBut L s0 (endAbort ev g s) := by
  unfold endAbort
  repeat' first
    | with_reducible assumption
    | with_reducible exact .inl rfl
    | exact .inr (hL _ (by decide))
    | exact .inl fun _ => rfl
    | (extract_lets +onlyGivenNames x
       first
       | (refine sameStep (L := L) (s0 := s0) (x := x) (fun hx => ?_) ?_; clear_value x; rotate_left; subst x)
       | subst x)
    | with_reducible refine SameBut.ite ?_ ?_
    | with_reducible refine modFn_frame ?_ ?_ ?_ ?_ ?_ ?_ ?_ ?_ ?_ 
    | with_reducible refine clearFnCounters_frame (parts_sub (by decide) hL) ?_
    | with_reducible refine dropAts_frame (parts_sub (by decide) hL) ?_
    | with_reducible refine scrubExtent_frame (parts_sub (by decide) hL) ?_
    | intro _ _ _
    | intro _ _
    | intro _
    | split
    | (simp only [same_lit]; with_reducible refine SameLit.of ?_ ?_ ?_ ?_ ?_ ?_ ?_ ?_ ?_ ?_ ?_ ?_ ?_ ?_ ?_ ?_ ?_ ?_ ?_ ?_ ?_ ?_ ?_ ?_ ?_ ?_ ?_ ?_ ?_ ?_ ?_ ?_ ?_ ?_ ?_ ?_ ?_ ?_ ?_ ?_)
    | exact .inl fun x => by (repeat' split) <;> rfl
    | exact .inl rfl
    | dsimp only
    | dsimp only [id]

theorem execFunctionResetComplete_frame {g : Fun} {s : State} :
    OutBut [StatePart.counters, .requests, .ats, .fnCfg, .fnState, .mbx, .admin, .faultq, .int, .capture, .cmds, .pool] s (execFunctionResetComplete g s) := by
  unfold execFunctionResetComplete
  refine OutBut.of (fun L s0 hL hok => ?_)
  repeat' first
    | with_reducible assumption
    | with_reducible exact .inl rfl
    | exact .inr (hL _ (by decide))
    | (extract_lets +onlyGivenNames x
       first
       | (refine sameStep (L := L) (s0 := s0) (x := x) (fun hx => ?_) ?_; clear_value x; rotate_left; subst x)
       | subst x)
    | with_reducible refine SameBut.ite ?_ ?_
    | with_reducible refine endAbort_frame (parts_sub (by decide) hL) ?_
    | with_reducible refine SameBut.ofPair ?_ (by with_reducible assumption)
    | intro _ _ _
    | intro _ _
    | intro _
    | split
    | (simp only [same_lit]; with_reducible refine SameLit.of ?_ ?_ ?_ ?_ ?_ ?_ ?_ ?_ ?_ ?_ ?_ ?_ ?_ ?_ ?_ ?_ ?_ ?_ ?_ ?_ ?_ ?_ ?_ ?_ ?_ ?_ ?_ ?_ ?_ ?_ ?_ ?_ ?_ ?_ ?_ ?_ ?_ ?_ ?_ ?_)
    | exact .inl rfl
    | dsimp only
    | dsimp only [id]

theorem execFunctionLevelReset_frame {g : Fun} {s : State} :
    OutBut [StatePart.od, .stored, .counters, .mgmt, .links, .intx, .requests, .fnCfg, .fnState, .admin, .faultq, .int, .capture, .ctxs, .objs, .slots, .cmds, .engines, .lookups, .peers, .windows, .coherence, .memory, .det, .err, .power, .boot, .draws, .out] s (execFunctionLevelReset g s) := by
  unfold execFunctionLevelReset
  refine OutBut.of (fun L s0 hL hok => ?_)
  repeat' first
    | with_reducible assumption
    | with_reducible refine SameBut.ite ?_ ?_
    | with_reducible refine cfgWrite_frame (parts_sub (by decide) hL) ?_ ?_
    | with_reducible refine abortFn_frame (parts_sub (by decide) hL) ?_
    | intro _ _ _
    | intro _ _
    | intro _
    | split
    | dsimp only
    | dsimp only [id]

theorem dropDoe_frame {L : List StatePart} {s0 : State} {p : Port} {s : State}
    (hL : ∀ p ∈ [StatePart.sec], p ∈ L) (hok : SameBut L s0 s) :
    SameBut L s0 (dropDoe p s) := by
  unfold dropDoe
  repeat' first
    | with_reducible assumption
    | with_reducible exact .inl rfl
    | exact .inr (hL _ (by decide))
    | (extract_lets +onlyGivenNames x
       first
       | (refine sameStep (L := L) (s0 := s0) (x := x) (fun hx => ?_) ?_; clear_value x; rotate_left; subst x)
       | (refine sameStep (L := L) (s0 := s0) (x := x.1) (fun hx => ?_) ?_; clear_value x; rotate_left; subst x)
       | subst x)
    | intro _ _ _
    | intro _ _
    | intro _
    | (simp only [same_lit]; with_reducible refine SameLit.of ?_ ?_ ?_ ?_ ?_ ?_ ?_ ?_ ?_ ?_ ?_ ?_ ?_ ?_ ?_ ?_ ?_ ?_ ?_ ?_ ?_ ?_ ?_ ?_ ?_ ?_ ?_ ?_ ?_ ?_ ?_ ?_ ?_ ?_ ?_ ?_ ?_ ?_ ?_ ?_)
    | exact .inl rfl
    | dsimp only
    | dsimp only [id]

theorem dropLink_frame {L : List StatePart} {s0 : State} {p : Port} {st : LinkState} {s : State}
    (hL : ∀ p ∈ [StatePart.links, .intx, .ats, .boot], p ∈ L) (hok : SameBut L s0 s) :
    SameBut L s0 (dropLink p st s) := by
  unfold dropLink
  repeat' first
    | with_reducible assumption
    | with_reducible exact .inl rfl
    | exact .inr (hL _ (by decide))
    | exact .inl fun _ => rfl
    | (extract_lets +onlyGivenNames x
       first
       | (refine sameStep (L := L) (s0 := s0) (x := x) (fun hx => ?_) ?_; clear_value x; rotate_left; subst x)
       | subst x)
    | with_reducible refine linkLeavesL0_frame (parts_sub (by decide) hL) ?_
    | with_reducible refine modPort_frame ?_ ?_ ?_ ?_ ?_ 
    | intro _ _ _
    | intro _ _
    | intro _
    | (simp only [same_lit]; with_reducible refine SameLit.of ?_ ?_ ?_ ?_ ?_ ?_ ?_ ?_ ?_ ?_ ?_ ?_ ?_ ?_ ?_ ?_ ?_ ?_ ?_ ?_ ?_ ?_ ?_ ?_ ?_ ?_ ?_ ?_ ?_ ?_ ?_ ?_ ?_ ?_ ?_ ?_ ?_ ?_ ?_ ?_)
    | exact .inl fun x => by (repeat' split) <;> rfl
    | exact .inl rfl
    | dsimp only
    | dsimp only [id]

theorem abortPort_frame {L : List StatePart} {s0 : State} {ev : AbortEvent} {p : Port} {s : State}
    (hL : ∀ p ∈ [StatePart.od, .stored, .counters, .mgmt, .links, .intx, .requests, .fnCfg, .fnState, .admin, .faultq, .int, .capture, .ctxs, .objs, .slots, .cmds, .engines, .lookups, .peers, .windows, .coherence, .memory, .det, .err, .power, .boot, .draws, .out], p ∈ L) (hok : SameBut L s0 s) :
    SameBut L s0 (abortPort ev p s) := by
  unfold abortPort
  repeat' first
    | with_reducible assumption
    | with_reducible refine foldState_frame (fun _ _ _ => ?_) ?_
    | with_reducible refine abortFn_frame (parts_sub (by decide) hL) ?_
    | intro _ _ _
    | intro _ _
    | intro _
    | dsimp only
    | dsimp only [id]

theorem awaitFallback_frame {L : List StatePart} {s0 : State} {s : State}
    (hL : ∀ p ∈ [StatePart.port0], p ∈ L) (hok : SameBut L s0 s) :
    SameBut L s0 (awaitFallback s) := by
  unfold awaitFallback
  repeat' first
    | with_reducible assumption
    | with_reducible exact .inl rfl
    | exact .inr (hL _ (by decide))
    | (extract_lets +onlyGivenNames x
       first
       | (refine sameStep (L := L) (s0 := s0) (x := x) (fun hx => ?_) ?_; clear_value x; rotate_left; subst x)
       | subst x)
    | intro _ _ _
    | intro _ _
    | intro _
    | (simp only [same_lit]; with_reducible refine SameLit.of ?_ ?_ ?_ ?_ ?_ ?_ ?_ ?_ ?_ ?_ ?_ ?_ ?_ ?_ ?_ ?_ ?_ ?_ ?_ ?_ ?_ ?_ ?_ ?_ ?_ ?_ ?_ ?_ ?_ ?_ ?_ ?_ ?_ ?_ ?_ ?_ ?_ ?_ ?_ ?_)
    | exact .inl rfl
    | dsimp only
    | dsimp only [id]

theorem releaseCaptures_frame {L : List StatePart} {s0 : State} {p : Port} {s : State}
    (hL : ∀ p ∈ [StatePart.capture], p ∈ L) (hok : SameBut L s0 s) :
    SameBut L s0 (releaseCaptures p s) := by
  unfold releaseCaptures
  repeat' first
    | with_reducible assumption
    | with_reducible exact .inl rfl
    | exact .inr (hL _ (by decide))
    | exact .inl fun _ => rfl
    | (extract_lets +onlyGivenNames x
       first
       | (refine sameStep (L := L) (s0 := s0) (x := x) (fun hx => ?_) ?_; clear_value x; rotate_left; subst x)
       | subst x)
    | with_reducible refine foldState_frame (fun _ _ _ => ?_) ?_
    | with_reducible refine modFn_frame ?_ ?_ ?_ ?_ ?_ ?_ ?_ ?_ ?_ 
    | intro _ _ _
    | intro _ _
    | intro _
    | (simp only [same_lit]; with_reducible refine SameLit.of ?_ ?_ ?_ ?_ ?_ ?_ ?_ ?_ ?_ ?_ ?_ ?_ ?_ ?_ ?_ ?_ ?_ ?_ ?_ ?_ ?_ ?_ ?_ ?_ ?_ ?_ ?_ ?_ ?_ ?_ ?_ ?_ ?_ ?_ ?_ ?_ ?_ ?_ ?_ ?_)
    | exact .inl fun x => by (repeat' split) <;> rfl
    | exact .inl rfl
    | dsimp only
    | dsimp only [id]

theorem bootStops_frame {L : List StatePart} {s0 : State} {s : State}
    (hL : ∀ p ∈ [StatePart.boot], p ∈ L) (hok : SameBut L s0 s) :
    SameBut L s0 (bootStops s) := by
  unfold bootStops
  repeat' first
    | with_reducible assumption
    | with_reducible exact .inl rfl
    | exact .inr (hL _ (by decide))
    | (extract_lets +onlyGivenNames x
       first
       | (refine sameStep (L := L) (s0 := s0) (x := x) (fun hx => ?_) ?_; clear_value x; rotate_left; subst x)
       | subst x)
    | with_reducible refine SameBut.ite ?_ ?_
    | intro _ _ _
    | intro _ _
    | intro _
    | split
    | (simp only [same_lit]; with_reducible refine SameLit.of ?_ ?_ ?_ ?_ ?_ ?_ ?_ ?_ ?_ ?_ ?_ ?_ ?_ ?_ ?_ ?_ ?_ ?_ ?_ ?_ ?_ ?_ ?_ ?_ ?_ ?_ ?_ ?_ ?_ ?_ ?_ ?_ ?_ ?_ ?_ ?_ ?_ ?_ ?_ ?_)
    | exact .inl rfl
    | dsimp only
    | dsimp only [id]

theorem assertPerst_frame {L : List StatePart} {s0 : State} {p : Port} {s : State}
    (hL : ∀ p ∈ [StatePart.od, .stored, .counters, .mgmt, .links, .intx, .requests, .ats, .port0, .fnCfg, .fnState, .admin, .faultq, .int, .capture, .ctxs, .objs, .slots, .cmds, .engines, .lookups, .peers, .windows, .coherence, .memory, .det, .err, .sec, .power, .boot, .draws, .out], p ∈ L) (hok : SameBut L s0 s) :
    SameBut L s0 (assertPerst p s) := by
  unfold assertPerst
  repeat' first
    | with_reducible assumption
    | with_reducible exact .inl rfl
    | exact .inr (hL _ (by decide))
    | exact .inl fun _ => rfl
    | (extract_lets +onlyGivenNames x
       first
       | (refine sameStep (L := L) (s0 := s0) (x := x) (fun hx => ?_) ?_; clear_value x; rotate_left; subst x)
       | subst x)
    | with_reducible refine SameBut.ite ?_ ?_
    | with_reducible refine abortPort_frame (parts_sub (by decide) hL) ?_
    | with_reducible refine releaseCaptures_frame (parts_sub (by decide) hL) ?_
    | with_reducible refine bootStops_frame (parts_sub (by decide) hL) ?_
    | with_reducible refine dropDoe_frame (parts_sub (by decide) hL) ?_
    | with_reducible refine dropLink_frame (parts_sub (by decide) hL) ?_
    | with_reducible refine awaitFallback_frame (parts_sub (by decide) hL) ?_
    | with_reducible refine modPort_frame ?_ ?_ ?_ ?_ ?_ 
    | with_reducible refine SameBut.ofPair ?_ (by with_reducible assumption)
    | intro _ _ _
    | intro _ _
    | intro _
    | split
    | (simp only [same_lit]; with_reducible refine SameLit.of ?_ ?_ ?_ ?_ ?_ ?_ ?_ ?_ ?_ ?_ ?_ ?_ ?_ ?_ ?_ ?_ ?_ ?_ ?_ ?_ ?_ ?_ ?_ ?_ ?_ ?_ ?_ ?_ ?_ ?_ ?_ ?_ ?_ ?_ ?_ ?_ ?_ ?_ ?_ ?_)
    | exact .inl fun x => by (repeat' split) <;> rfl
    | exact .inl rfl
    | dsimp only
    | dsimp only [id]

theorem execPerstAssert_frame {p : Port} {s : State} :
    OutBut [StatePart.od, .stored, .counters, .mgmt, .links, .intx, .requests, .ats, .port0, .fnCfg, .fnState, .admin, .faultq, .int, .capture, .ctxs, .objs, .slots, .cmds, .engines, .lookups, .peers, .windows, .coherence, .memory, .det, .err, .sec, .power, .boot, .draws, .out] s (execPerstAssert p s) := by
  unfold execPerstAssert
  refine OutBut.of (fun L s0 hL hok => ?_)
  repeat' first
    | with_reducible assumption
    | with_reducible refine SameBut.ite ?_ ?_
    | with_reducible refine assertPerst_frame (parts_sub (by decide) hL) ?_
    | intro _ _ _
    | intro _ _
    | intro _
    | split
    | dsimp only
    | dsimp only [id]

theorem beginTraining_frame {L : List StatePart} {s0 : State} {p : Port} {s : State}
    (hL : ∀ p ∈ [StatePart.links, .out], p ∈ L) (hok : SameBut L s0 s) :
    SameBut L s0 (beginTraining p s) := by
  unfold beginTraining
  repeat' first
    | with_reducible assumption
    | with_reducible exact .inl rfl
    | exact .inr (hL _ (by decide))
    | exact .inl fun _ => rfl
    | (extract_lets +onlyGivenNames x
       first
       | (refine sameStep (L := L) (s0 := s0) (x := x) (fun hx => ?_) ?_; clear_value x; rotate_left; subst x)
       | subst x)
    | with_reducible refine SameBut.ite ?_ ?_
    | with_reducible refine emit_frame (parts_sub (by decide) hL) ?_
    | with_reducible refine modPort_frame ?_ ?_ ?_ ?_ ?_ 
    | intro _ _ _
    | intro _ _
    | intro _
    | split
    | (simp only [same_lit]; with_reducible refine SameLit.of ?_ ?_ ?_ ?_ ?_ ?_ ?_ ?_ ?_ ?_ ?_ ?_ ?_ ?_ ?_ ?_ ?_ ?_ ?_ ?_ ?_ ?_ ?_ ?_ ?_ ?_ ?_ ?_ ?_ ?_ ?_ ?_ ?_ ?_ ?_ ?_ ?_ ?_ ?_ ?_)
    | exact .inl fun x => by (repeat' split) <;> rfl
    | exact .inl rfl
    | dsimp only
    | dsimp only [id]

theorem deassertPerst_frame {L : List StatePart} {s0 : State} {p : Port} {s : State}
    (hL : ∀ p ∈ [StatePart.links, .idle, .out], p ∈ L) (hok : SameBut L s0 s) :
    SameBut L s0 (deassertPerst p s) := by
  unfold deassertPerst
  repeat' first
    | with_reducible assumption
    | with_reducible exact .inl rfl
    | exact .inr (hL _ (by decide))
    | exact .inl fun _ => rfl
    | (extract_lets +onlyGivenNames x
       first
       | (refine sameStep (L := L) (s0 := s0) (x := x) (fun hx => ?_) ?_; clear_value x; rotate_left; subst x)
       | subst x)
    | with_reducible refine SameBut.ite ?_ ?_
    | with_reducible refine wake_frame (parts_sub (by decide) hL) ?_
    | with_reducible refine emit_frame (parts_sub (by decide) hL) ?_
    | with_reducible refine modPort_frame ?_ ?_ ?_ ?_ ?_ 
    | with_reducible refine beginTraining_frame (parts_sub (by decide) hL) ?_
    | intro _ _ _
    | intro _ _
    | intro _
    | split
    | (simp only [same_lit]; with_reducible refine SameLit.of ?_ ?_ ?_ ?_ ?_ ?_ ?_ ?_ ?_ ?_ ?_ ?_ ?_ ?_ ?_ ?_ ?_ ?_ ?_ ?_ ?_ ?_ ?_ ?_ ?_ ?_ ?_ ?_ ?_ ?_ ?_ ?_ ?_ ?_ ?_ ?_ ?_ ?_ ?_ ?_)
    | exact .inl fun x => by (repeat' split) <;> rfl
    | exact .inl rfl
    | dsimp only
    | dsimp only [id]

theorem execPerstDeassert_frame {p : Port} {s : State} :
    OutBut [StatePart.links, .idle, .out] s (execPerstDeassert p s) := by
  unfold execPerstDeassert
  refine OutBut.of (fun L s0 hL hok => ?_)
  repeat' first
    | with_reducible assumption
    | with_reducible refine SameBut.ite ?_ ?_
    | with_reducible refine deassertPerst_frame (parts_sub (by decide) hL) ?_
    | intro _ _ _
    | intro _ _
    | intro _
    | split
    | dsimp only
    | dsimp only [id]

theorem returnL0_frame {L : List StatePart} {s0 : State} {p : Port} {s : State}
    (hL : ∀ p ∈ [StatePart.links, .intx, .fnCfg, .out], p ∈ L) (hok : SameBut L s0 s) :
    SameBut L s0 (returnL0 p s) := by
  unfold returnL0
  repeat' first
    | with_reducible assumption
    | with_reducible exact .inl rfl
    | exact .inr (hL _ (by decide))
    | exact .inl fun _ => rfl
    | (extract_lets +onlyGivenNames x
       first
       | (refine sameStep (L := L) (s0 := s0) (x := x) (fun hx => ?_) ?_; clear_value x; rotate_left; subst x)
       | subst x)
    | with_reducible refine SameBut.ite ?_ ?_
    | with_reducible refine modPort_frame ?_ ?_ ?_ ?_ ?_ 
    | with_reducible refine foldState_frame (fun _ _ _ => ?_) ?_
    | with_reducible refine emit_frame (parts_sub (by decide) hL) ?_
    | with_reducible refine modCfg_frame (parts_sub (by decide) hL) ?_
    | intro _ _ _
    | intro _ _
    | intro _
    | split
    | (simp only [same_lit]; with_reducible refine SameLit.of ?_ ?_ ?_ ?_ ?_ ?_ ?_ ?_ ?_ ?_ ?_ ?_ ?_ ?_ ?_ ?_ ?_ ?_ ?_ ?_ ?_ ?_ ?_ ?_ ?_ ?_ ?_ ?_ ?_ ?_ ?_ ?_ ?_ ?_ ?_ ?_ ?_ ?_ ?_ ?_)
    | exact .inl fun x => by (repeat' split) <;> rfl
    | exact .inl rfl
    | dsimp only
    | dsimp only [id]

theorem presentFns_frame {L : List StatePart} {s0 : State} {p : Port} {s : State}
    (hL : ∀ p ∈ [StatePart.fnCfg, .fnState], p ∈ L) (hok : SameBut L s0 s) :
    SameBut L s0 (presentFns p s) := by
  unfold presentFns
  repeat' first
    | with_reducible assumption
    | with_reducible exact .inl rfl
    | exact .inr (hL _ (by decide))
    | exact .inl fun _ => rfl
    | (extract_lets +onlyGivenNames x
       first
       | (refine sameStep (L := L) (s0 := s0) (x := x) (fun hx => ?_) ?_; clear_value x; rotate_left; subst x)
       | subst x)
    | with_reducible refine SameBut.ite ?_ ?_
    | with_reducible refine foldState_frame (fun _ _ _ => ?_) ?_
    | with_reducible refine modFn_frame ?_ ?_ ?_ ?_ ?_ ?_ ?_ ?_ ?_ 
    | intro _ _ _
    | intro _ _
    | intro _
    | split
    | (simp only [same_lit]; with_reducible refine SameLit.of ?_ ?_ ?_ ?_ ?_ ?_ ?_ ?_ ?_ ?_ ?_ ?_ ?_ ?_ ?_ ?_ ?_ ?_ ?_ ?_ ?_ ?_ ?_ ?_ ?_ ?_ ?_ ?_ ?_ ?_ ?_ ?_ ?_ ?_ ?_ ?_ ?_ ?_ ?_ ?_)
    | exact .inl fun x => by (repeat' split) <;> rfl
    | exact .inl rfl
    | dsimp only
    | dsimp only [id]

theorem execPortLinkUp_frame {p : Port} {width speed : Nat} {s : State} :
    OutBut [StatePart.links, .intx, .fnCfg, .fnState, .out] s (execPortLinkUp p width speed s) := by
  unfold execPortLinkUp
  refine OutBut.of (fun L s0 hL hok => ?_)
  repeat' first
    | with_reducible assumption
    | with_reducible exact .inl rfl
    | exact .inr (hL _ (by decide))
    | exact .inl fun _ => rfl
    | (extract_lets +onlyGivenNames x
       first
       | (refine sameStep (L := L) (s0 := s0) (x := x) (fun hx => ?_) ?_; clear_value x; rotate_left; subst x)
       | subst x)
    | with_reducible refine SameBut.ite ?_ ?_
    | with_reducible refine returnL0_frame (parts_sub (by decide) hL) ?_
    | with_reducible refine presentFns_frame (parts_sub (by decide) hL) ?_
    | with_reducible refine modPort_frame ?_ ?_ ?_ ?_ ?_ 
    | intro _ _ _
    | intro _ _
    | intro _
    | split
    | (simp only [same_lit]; with_reducible refine SameLit.of ?_ ?_ ?_ ?_ ?_ ?_ ?_ ?_ ?_ ?_ ?_ ?_ ?_ ?_ ?_ ?_ ?_ ?_ ?_ ?_ ?_ ?_ ?_ ?_ ?_ ?_ ?_ ?_ ?_ ?_ ?_ ?_ ?_ ?_ ?_ ?_ ?_ ?_ ?_ ?_)
    | exact .inl fun x => by (repeat' split) <;> rfl
    | exact .inl rfl
    | dsimp only
    | dsimp only [id]

theorem execLinkL0Return_frame {p : Port} {s : State} :
    OutBut [StatePart.links, .intx, .fnCfg, .out] s (execLinkL0Return p s) := by
  unfold execLinkL0Return
  refine OutBut.of (fun L s0 hL hok => ?_)
  repeat' first
    | with_reducible assumption
    | with_reducible exact .inl rfl
    | exact .inr (hL _ (by decide))
    | (extract_lets +onlyGivenNames x
       first
       | (refine sameStep (L := L) (s0 := s0) (x := x) (fun hx => ?_) ?_; clear_value x; rotate_left; subst x)
       | subst x)
    | with_reducible refine returnL0_frame (parts_sub (by decide) hL) ?_
    | with_reducible refine SameBut.ofPair ?_ (by with_reducible assumption)
    | intro _ _ _
    | intro _ _
    | intro _
    | split
    | (simp only [same_lit]; with_reducible refine SameLit.of ?_ ?_ ?_ ?_ ?_ ?_ ?_ ?_ ?_ ?_ ?_ ?_ ?_ ?_ ?_ ?_ ?_ ?_ ?_ ?_ ?_ ?_ ?_ ?_ ?_ ?_ ?_ ?_ ?_ ?_ ?_ ?_ ?_ ?_ ?_ ?_ ?_ ?_ ?_ ?_)
    | exact .inl rfl
    | dsimp only
    | dsimp only [id]

theorem removePort_frame {L : List StatePart} {s0 : State} {p : Port} {s : State}
    (hL : ∀ p ∈ [StatePart.od, .stored, .counters, .mgmt, .links, .intx, .requests, .ats, .port0, .fnCfg, .fnState, .admin, .faultq, .int, .capture, .ctxs, .objs, .slots, .cmds, .engines, .lookups, .peers, .windows, .coherence, .memory, .det, .err, .sec, .power, .boot, .draws, .out], p ∈ L) (hok : SameBut L s0 s) :
    SameBut L s0 (removePort p s) := by
  unfold removePort
  repeat' first
    | with_reducible assumption
    | (extract_lets +onlyGivenNames x
       first
       | (refine sameStep (L := L) (s0 := s0) (x := x) (fun hx => ?_) ?_; clear_value x; rotate_left; subst x)
       | subst x)
    | with_reducible refine SameBut.ite ?_ ?_
    | with_reducible refine dropDoe_frame (parts_sub (by decide) hL) ?_
    | with_reducible refine dropLink_frame (parts_sub (by decide) hL) ?_
    | with_reducible refine abortPort_frame (parts_sub (by decide) hL) ?_
    | with_reducible refine awaitFallback_frame (parts_sub (by decide) hL) ?_
    | with_reducible refine countPort_frame (parts_sub (by decide) hL) ?_
    | intro _ _ _
    | intro _ _
    | intro _
    | split
    | dsimp only
    | dsimp only [id]

theorem execSurpriseRemoval_frame {p : Port} {s : State} :
    OutBut [StatePart.od, .stored, .counters, .mgmt, .links, .intx, .requests, .ats, .port0, .fnCfg, .fnState, .admin, .faultq, .int, .capture, .ctxs, .objs, .slots, .cmds, .engines, .lookups, .peers, .windows, .coherence, .memory, .det, .err, .sec, .power, .boot, .draws, .out] s (execSurpriseRemoval p s) := by
  unfold execSurpriseRemoval
  refine OutBut.of (fun L s0 hL hok => ?_)
  repeat' first
    | with_reducible assumption
    | with_reducible refine SameBut.ite ?_ ?_
    | with_reducible refine dropLink_frame (parts_sub (by decide) hL) ?_
    | with_reducible refine removePort_frame (parts_sub (by decide) hL) ?_
    | with_reducible refine SameBut.ofPair ?_ (by with_reducible assumption)
    | intro _ _ _
    | intro _ _
    | intro _
    | split
    | dsimp only
    | dsimp only [id]

theorem execMalformedTlp_frame {p : Port} {kind : TlpFault} {s : State} :
    OutBut [StatePart.od, .stored, .counters, .mgmt, .links, .intx, .requests, .ats, .port0, .fnCfg, .fnState, .admin, .faultq, .int, .capture, .ctxs, .objs, .slots, .cmds, .engines, .lookups, .peers, .windows, .coherence, .memory, .det, .err, .sec, .power, .boot, .draws, .out] s (execMalformedTlp p kind s) := by
  unfold execMalformedTlp
  refine OutBut.of (fun L s0 hL hok => ?_)
  repeat' first
    | with_reducible assumption
    | with_reducible refine SameBut.ite ?_ ?_
    | with_reducible refine removePort_frame (parts_sub (by decide) hL) ?_
    | with_reducible refine aerUncorrectable_frame (parts_sub (by decide) hL) ?_
    | intro _ _ _
    | intro _ _
    | intro _
    | split
    | dsimp only
    | dsimp only [id]

theorem resetCfg0_frame {L : List StatePart} {s0 : State} {p : Port} {s : State}
    (hL : ∀ p ∈ [StatePart.counters, .intx, .requests, .ats, .fnCfg, .fnState, .mbx, .int, .ctxs, .cmds, .out], p ∈ L) (hok : SameBut L s0 s) :
    SameBut L s0 (resetCfg0 p s) := by
  unfold resetCfg0
  repeat' first
    | with_reducible assumption
    | with_reducible exact .inl rfl
    | exact .inr (hL _ (by decide))
    | exact .inl fun _ => rfl
    | (extract_lets +onlyGivenNames x
       first
       | (refine sameStep (L := L) (s0 := s0) (x := x) (fun hx => ?_) ?_; clear_value x; rotate_left; subst x)
       | subst x)
    | with_reducible refine SameBut.ite ?_ ?_
    | with_reducible refine modFn_frame ?_ ?_ ?_ ?_ ?_ ?_ ?_ ?_ ?_ 
    | with_reducible refine stallBegins_frame (parts_sub (by decide) hL) ?_
    | with_reducible refine clearFnCounters_frame (parts_sub (by decide) hL) ?_
    | with_reducible refine dropAts_frame (parts_sub (by decide) hL) ?_
    | with_reducible refine settleIntx_frame (parts_sub (by decide) hL) ?_
    | intro _ _ _
    | intro _ _
    | intro _
    | split
    | (simp only [same_lit]; with_reducible refine SameLit.of ?_ ?_ ?_ ?_ ?_ ?_ ?_ ?_ ?_ ?_ ?_ ?_ ?_ ?_ ?_ ?_ ?_ ?_ ?_ ?_ ?_ ?_ ?_ ?_ ?_ ?_ ?_ ?_ ?_ ?_ ?_ ?_ ?_ ?_ ?_ ?_ ?_ ?_ ?_ ?_)
    | exact .inl fun x => by (repeat' split) <;> rfl
    | exact .inl rfl
    | dsimp only
    | dsimp only [id]

theorem hotReset_frame {L : List StatePart} {s0 : State} {p : Port} {s : State}
    (hL : ∀ p ∈ [StatePart.od, .stored, .counters, .mgmt, .links, .intx, .requests, .ats, .fnCfg, .fnState, .mbx, .admin, .faultq, .int, .capture, .ctxs, .objs, .slots, .cmds, .engines, .lookups, .peers, .windows, .coherence, .memory, .det, .err, .sec, .power, .boot, .draws, .out], p ∈ L) (hok : SameBut L s0 s) :
    SameBut L s0 (hotReset p s) := by
  unfold hotReset
  repeat' first
    | with_reducible assumption
    | (extract_lets +onlyGivenNames x
       first
       | (refine sameStep (L := L) (s0 := s0) (x := x) (fun hx => ?_) ?_; clear_value x; rotate_left; subst x)
       | subst x)
    | with_reducible refine SameBut.ite ?_ ?_
    | with_reducible refine countPort_frame (parts_sub (by decide) hL) ?_
    | with_reducible refine foldState_frame (fun _ _ _ => ?_) ?_
    | with_reducible refine abortFn_frame (parts_sub (by decide) hL) ?_
    | with_reducible refine dropDoe_frame (parts_sub (by decide) hL) ?_
    | with_reducible refine resetCfg0_frame (parts_sub (by decide) hL) ?_
    | intro _ _ _
    | intro _ _
    | intro _
    | split
    | dsimp only
    | dsimp only [id]

theorem execHotReset_frame {p : Port} {s : State} :
    OutBut [StatePart.od, .stored, .counters, .mgmt, .links, .intx, .requests, .ats, .fnCfg, .fnState, .mbx, .admin, .faultq, .int, .capture, .ctxs, .objs, .slots, .cmds, .engines, .lookups, .peers, .windows, .coherence, .memory, .det, .err, .sec, .power, .boot, .draws, .out] s (execHotReset p s) := by
  unfold execHotReset
  refine OutBut.of (fun L s0 hL hok => ?_)
  repeat' first
    | with_reducible assumption
    | with_reducible refine SameBut.ite ?_ ?_
    | with_reducible refine hotReset_frame (parts_sub (by decide) hL) ?_
    | intro _ _ _
    | intro _ _
    | intro _
    | split
    | dsimp only
    | dsimp only [id]

theorem execPmeTurnOff_frame {p : Port} {s : State} :
    OutBut [StatePart.links] s (execPmeTurnOff p s) := by
  unfold execPmeTurnOff
  refine OutBut.of (fun L s0 hL hok => ?_)
  repeat' first
    | with_reducible assumption
    | with_reducible exact .inl rfl
    | exact .inr (hL _ (by decide))
    | exact .inl fun _ => rfl
    | (extract_lets +onlyGivenNames x
       first
       | (refine sameStep (L := L) (s0 := s0) (x := x) (fun hx => ?_) ?_; clear_value x; rotate_left; subst x)
       | subst x)
    | with_reducible refine SameBut.ite ?_ ?_
    | with_reducible refine modPort_frame ?_ ?_ ?_ ?_ ?_ 
    | intro _ _ _
    | intro _ _
    | intro _
    | split
    | (simp only [same_lit]; with_reducible refine SameLit.of ?_ ?_ ?_ ?_ ?_ ?_ ?_ ?_ ?_ ?_ ?_ ?_ ?_ ?_ ?_ ?_ ?_ ?_ ?_ ?_ ?_ ?_ ?_ ?_ ?_ ?_ ?_ ?_ ?_ ?_ ?_ ?_ ?_ ?_ ?_ ?_ ?_ ?_ ?_ ?_)
    | exact .inl fun x => by (repeat' split) <;> rfl
    | exact .inl rfl
    | dsimp only
    | dsimp only [id]

theorem execPmeToAck_frame {p : Port} {s : State} :
    OutBut [StatePart.links, .boot, .out] s (execPmeToAck p s) := by
  unfold execPmeToAck
  refine OutBut.of (fun L s0 hL hok => ?_)
  repeat' first
    | with_reducible assumption
    | with_reducible exact .inl rfl
    | exact .inr (hL _ (by decide))
    | exact .inl fun _ => rfl
    | (extract_lets +onlyGivenNames x
       first
       | (refine sameStep (L := L) (s0 := s0) (x := x) (fun hx => ?_) ?_; clear_value x; rotate_left; subst x)
       | subst x)
    | with_reducible refine SameBut.ite ?_ ?_
    | with_reducible refine emit_frame (parts_sub (by decide) hL) ?_
    | with_reducible refine linkLeavesL0_frame (parts_sub (by decide) hL) ?_
    | with_reducible refine modPort_frame ?_ ?_ ?_ ?_ ?_ 
    | intro _ _ _
    | intro _ _
    | intro _
    | split
    | (simp only [same_lit]; with_reducible refine SameLit.of ?_ ?_ ?_ ?_ ?_ ?_ ?_ ?_ ?_ ?_ ?_ ?_ ?_ ?_ ?_ ?_ ?_ ?_ ?_ ?_ ?_ ?_ ?_ ?_ ?_ ?_ ?_ ?_ ?_ ?_ ?_ ?_ ?_ ?_ ?_ ?_ ?_ ?_ ?_ ?_)
    | exact .inl fun x => by (repeat' split) <;> rfl
    | exact .inl rfl
    | dsimp only
    | dsimp only [id]

theorem execFlitModeRefused_frame {p : Port} {s : State} :
    OutBut [StatePart.counters, .links, .int] s (execFlitModeRefused p s) := by
  unfold execFlitModeRefused
  refine OutBut.of (fun L s0 hL hok => ?_)
  repeat' first
    | with_reducible assumption
    | with_reducible exact .inl rfl
    | exact .inr (hL _ (by decide))
    | exact .inl fun _ => rfl
    | (extract_lets +onlyGivenNames x
       first
       | (refine sameStep (L := L) (s0 := s0) (x := x) (fun hx => ?_) ?_; clear_value x; rotate_left; subst x)
       | subst x)
    | with_reducible refine SameBut.ite ?_ ?_
    | with_reducible refine countPort_frame (parts_sub (by decide) hL) ?_
    | with_reducible refine modPort_frame ?_ ?_ ?_ ?_ ?_ 
    | intro _ _ _
    | intro _ _
    | intro _
    | split
    | (simp only [same_lit]; with_reducible refine SameLit.of ?_ ?_ ?_ ?_ ?_ ?_ ?_ ?_ ?_ ?_ ?_ ?_ ?_ ?_ ?_ ?_ ?_ ?_ ?_ ?_ ?_ ?_ ?_ ?_ ?_ ?_ ?_ ?_ ?_ ?_ ?_ ?_ ?_ ?_ ?_ ?_ ?_ ?_ ?_ ?_)
    | exact .inl fun x => by (repeat' split) <;> rfl
    | exact .inl rfl
    | dsimp only
    | dsimp only [id]

theorem execLinkRecovery_frame {p : Port} {width : Nat} {s : State} :
    OutBut [StatePart.links, .boot] s (execLinkRecovery p width s) := by
  unfold execLinkRecovery
  refine OutBut.of (fun L s0 hL hok => ?_)
  repeat' first
    | with_reducible assumption
    | with_reducible exact .inl rfl
    | exact .inr (hL _ (by decide))
    | exact .inl fun _ => rfl
    | (extract_lets +onlyGivenNames x
       first
       | (refine sameStep (L := L) (s0 := s0) (x := x) (fun hx => ?_) ?_; clear_value x; rotate_left; subst x)
       | subst x)
    | with_reducible refine SameBut.ite ?_ ?_
    | with_reducible refine linkLeavesL0_frame (parts_sub (by decide) hL) ?_
    | with_reducible refine modPort_frame ?_ ?_ ?_ ?_ ?_ 
    | intro _ _ _
    | intro _ _
    | intro _
    | split
    | (simp only [same_lit]; with_reducible refine SameLit.of ?_ ?_ ?_ ?_ ?_ ?_ ?_ ?_ ?_ ?_ ?_ ?_ ?_ ?_ ?_ ?_ ?_ ?_ ?_ ?_ ?_ ?_ ?_ ?_ ?_ ?_ ?_ ?_ ?_ ?_ ?_ ?_ ?_ ?_ ?_ ?_ ?_ ?_ ?_ ?_)
    | exact .inl fun x => by (repeat' split) <;> rfl
    | exact .inl rfl
    | dsimp only
    | dsimp only [id]

theorem execAspmL1Entry_frame {p : Port} {s : State} :
    OutBut [StatePart.links, .boot] s (execAspmL1Entry p s) := by
  unfold execAspmL1Entry
  refine OutBut.of (fun L s0 hL hok => ?_)
  repeat' first
    | with_reducible assumption
    | with_reducible exact .inl rfl
    | exact .inr (hL _ (by decide))
    | exact .inl fun _ => rfl
    | (extract_lets +onlyGivenNames x
       first
       | (refine sameStep (L := L) (s0 := s0) (x := x) (fun hx => ?_) ?_; clear_value x; rotate_left; subst x)
       | subst x)
    | with_reducible refine SameBut.ite ?_ ?_
    | with_reducible refine linkLeavesL0_frame (parts_sub (by decide) hL) ?_
    | with_reducible refine modPort_frame ?_ ?_ ?_ ?_ ?_ 
    | intro _ _ _
    | intro _ _
    | intro _
    | split
    | (simp only [same_lit]; with_reducible refine SameLit.of ?_ ?_ ?_ ?_ ?_ ?_ ?_ ?_ ?_ ?_ ?_ ?_ ?_ ?_ ?_ ?_ ?_ ?_ ?_ ?_ ?_ ?_ ?_ ?_ ?_ ?_ ?_ ?_ ?_ ?_ ?_ ?_ ?_ ?_ ?_ ?_ ?_ ?_ ?_ ?_)
    | exact .inl fun x => by (repeat' split) <;> rfl
    | exact .inl rfl
    | dsimp only
    | dsimp only [id]

theorem execDoeDiscovery_frame {p : Port} {index : U8} {s : State} :
    OutBut [StatePart.fnCfg, .out] s (execDoeDiscovery p index s) := by
  unfold execDoeDiscovery
  refine OutBut.of (fun L s0 hL hok => ?_)
  repeat' first
    | with_reducible assumption
    | with_reducible exact .inl rfl
    | exact .inr (hL _ (by decide))
    | (extract_lets +onlyGivenNames x
       first
       | (refine sameStep (L := L) (s0 := s0) (x := x) (fun hx => ?_) ?_; clear_value x; rotate_left; subst x)
       | subst x)
    | with_reducible refine cfgWrite_frame (parts_sub (by decide) hL) ?_ ?_
    | with_reducible refine emit_frame (parts_sub (by decide) hL) ?_
    | with_reducible refine SameBut.ofPair ?_ (by with_reducible assumption)
    | intro _ _ _
    | intro _ _
    | intro _
    | split
    | (simp only [same_lit]; with_reducible refine SameLit.of ?_ ?_ ?_ ?_ ?_ ?_ ?_ ?_ ?_ ?_ ?_ ?_ ?_ ?_ ?_ ?_ ?_ ?_ ?_ ?_ ?_ ?_ ?_ ?_ ?_ ?_ ?_ ?_ ?_ ?_ ?_ ?_ ?_ ?_ ?_ ?_ ?_ ?_ ?_ ?_)
    | exact .inl rfl
    | dsimp only
    | dsimp only [id]

theorem setFnEnable_frame {L : List StatePart} {s0 : State} {g : Fun} {v : Bool} {s : State}
    (hL : ∀ p ∈ [StatePart.od, .stored, .counters, .mgmt, .links, .intx, .requests, .fnCfg, .fnState, .admin, .faultq, .int, .capture, .ctxs, .objs, .slots, .cmds, .engines, .lookups, .peers, .windows, .coherence, .memory, .det, .err, .power, .boot, .draws, .out], p ∈ L) (hok : SameBut L s0 s) :
    SameBut L s0 (setFnEnable g v s) := by
  unfold setFnEnable
  repeat' first
    | with_reducible assumption
    | with_reducible exact .inl rfl
    | exact .inr (hL _ (by decide))
    | exact .inl fun _ => rfl
    | (extract_lets +onlyGivenNames x
       first
       | (refine sameStep (L := L) (s0 := s0) (x := x) (fun hx => ?_) ?_; clear_value x; rotate_left; subst x)
       | subst x)
    | with_reducible refine SameBut.ite ?_ ?_
    | with_reducible refine putObj_frame (parts_sub (by decide) hL) ?_
    | with_reducible refine abortFn_frame (parts_sub (by decide) hL) ?_
    | with_reducible refine modFn_frame ?_ ?_ ?_ ?_ ?_ ?_ ?_ ?_ ?_ 
    | intro _ _ _
    | intro _ _
    | intro _
    | split
    | (simp only [same_lit]; with_reducible refine SameLit.of ?_ ?_ ?_ ?_ ?_ ?_ ?_ ?_ ?_ ?_ ?_ ?_ ?_ ?_ ?_ ?_ ?_ ?_ ?_ ?_ ?_ ?_ ?_ ?_ ?_ ?_ ?_ ?_ ?_ ?_ ?_ ?_ ?_ ?_ ?_ ?_ ?_ ?_ ?_ ?_)
    | exact .inl fun x => by (repeat' split) <;> rfl
    | exact .inl rfl
    | dsimp only
    | dsimp only [id]

theorem execFunctionEnableWrite_frame {rq : Requester} {g : Fun} {v : Bool} {s : State} :
    OutBut [StatePart.od, .stored, .counters, .mgmt, .links, .intx, .requests, .fnCfg, .fnState, .admin, .faultq, .int, .capture, .ctxs, .objs, .slots, .cmds, .engines, .lookups, .peers, .windows, .coherence, .memory, .det, .err, .power, .boot, .draws, .out] s (execFunctionEnableWrite rq g v s) := by
  unfold execFunctionEnableWrite
  refine OutBut.of (fun L s0 hL hok => ?_)
  repeat' first
    | with_reducible assumption
    | with_reducible refine SameBut.ite ?_ ?_
    | with_reducible refine requestWrite_frame (parts_sub (by decide) hL) ?_ ?_
    | with_reducible refine setFnEnable_frame (parts_sub (by decide) hL) ?_
    | intro _ _ _
    | intro _ _
    | intro _
    | split
    | dsimp only
    | dsimp only [id]

theorem setPortEnable_frame {L : List StatePart} {s0 : State} {p : Port} {v : Bool} {s : State}
    (hL : ∀ p ∈ [StatePart.od, .stored, .counters, .mgmt, .links, .intx, .requests, .ats, .fnCfg, .fnState, .admin, .faultq, .int, .capture, .ctxs, .objs, .slots, .cmds, .engines, .lookups, .peers, .windows, .coherence, .memory, .det, .err, .sec, .power, .boot, .draws, .out], p ∈ L) (hok : SameBut L s0 s) :
    SameBut L s0 (setPortEnable p v s) := by
  unfold setPortEnable
  repeat' first
    | with_reducible assumption
    | (extract_lets +onlyGivenNames x
       first
       | (refine sameStep (L := L) (s0 := s0) (x := x) (fun hx => ?_) ?_; clear_value x; rotate_left; subst x)
       | subst x)
    | with_reducible refine SameBut.ite ?_ ?_
    | with_reducible refine putObj_frame (parts_sub (by decide) hL) ?_
    | with_reducible refine dropDoe_frame (parts_sub (by decide) hL) ?_
    | with_reducible refine dropLink_frame (parts_sub (by decide) hL) ?_
    | with_reducible refine abortPort_frame (parts_sub (by decide) hL) ?_
    | with_reducible refine beginTraining_frame (parts_sub (by decide) hL) ?_
    | intro _ _ _
    | intro _ _
    | intro _
    | split
    | dsimp only
    | dsimp only [id]

theorem execPortEnableWrite_frame {rq : Requester} {p : Port} {v : Bool} {s : State} :
    OutBut [StatePart.od, .stored, .counters, .mgmt, .links, .intx, .requests, .ats, .fnCfg, .fnState, .admin, .faultq, .int, .capture, .ctxs, .objs, .slots, .cmds, .engines, .lookups, .peers, .windows, .coherence, .memory, .det, .err, .sec, .power, .boot, .draws, .out] s (execPortEnableWrite rq p v s) := by
  unfold execPortEnableWrite
  refine OutBut.of (fun L s0 hL hok => ?_)
  repeat' first
    | with_reducible assumption
    | with_reducible refine SameBut.ite ?_ ?_
    | with_reducible refine requestWrite_frame (parts_sub (by decide) hL) ?_ ?_
    | with_reducible refine setPortEnable_frame (parts_sub (by decide) hL) ?_
    | intro _ _ _
    | intro _ _
    | intro _
    | split
    | dsimp only
    | dsimp only [id]

theorem modPort0_frame {L : List StatePart} {s0 : State} {f : Port0St → Port0St} {s : State}
    (hL : ∀ p ∈ [StatePart.port0], p ∈ L) (hok : SameBut L s0 s) :
    SameBut L s0 (modPort0 f s) := by
  unfold modPort0
  repeat' first
    | with_reducible assumption
    | with_reducible exact .inl rfl
    | exact .inr (hL _ (by decide))
    | (extract_lets +onlyGivenNames x
       first
       | (refine sameStep (L := L) (s0 := s0) (x := x) (fun hx => ?_) ?_; clear_value x; rotate_left; subst x)
       | subst x)
    | intro _ _ _
    | intro _ _
    | intro _
    | (simp only [same_lit]; with_reducible refine SameLit.of ?_ ?_ ?_ ?_ ?_ ?_ ?_ ?_ ?_ ?_ ?_ ?_ ?_ ?_ ?_ ?_ ?_ ?_ ?_ ?_ ?_ ?_ ?_ ?_ ?_ ?_ ?_ ?_ ?_ ?_ ?_ ?_ ?_ ?_ ?_ ?_ ?_ ?_ ?_ ?_)
    | exact .inl rfl
    | dsimp only
    | dsimp only [id]

theorem linkNonceOut_frame {L : List StatePart} {s0 : State} {s : State}
    (hL : ∀ p ∈ [StatePart.port0, .sec, .draws, .out], p ∈ L) (hok : SameBut L s0 s) :
    SameBut L s0 (linkNonceOut s) := by
  unfold linkNonceOut
  repeat' first
    | with_reducible assumption
    | with_reducible exact .inl rfl
    | exact .inr (hL _ (by decide))
    | exact .inl fun _ => rfl
    | (extract_lets +onlyGivenNames x
       first
       | (refine sameStep (L := L) (s0 := s0) (x := x) (fun hx => ?_) ?_; clear_value x; rotate_left; subst x)
       | (refine sameStep (L := L) (s0 := s0) (x := x.1) (fun hx => ?_) ?_; clear_value x; rotate_left; subst x)
       | subst x)
    | with_reducible refine SameBut.ite ?_ ?_
    | with_reducible refine drawNonce_frame (parts_sub (by decide) hL) ?_
    | with_reducible refine emit_frame (parts_sub (by decide) hL) ?_
    | with_reducible refine modPort0_frame (parts_sub (by decide) hL) ?_
    | intro _ _ _
    | intro _ _
    | intro _
    | split
    | (simp only [same_lit]; with_reducible refine SameLit.of ?_ ?_ ?_ ?_ ?_ ?_ ?_ ?_ ?_ ?_ ?_ ?_ ?_ ?_ ?_ ?_ ?_ ?_ ?_ ?_ ?_ ?_ ?_ ?_ ?_ ?_ ?_ ?_ ?_ ?_ ?_ ?_ ?_ ?_ ?_ ?_ ?_ ?_ ?_ ?_)
    | exact .inl fun x => by (repeat' split) <;> rfl
    | exact .inl rfl
    | dsimp only
    | dsimp only [id]

theorem loadLanes_frame {L : List StatePart} {s0 : State} {nd : Bytes} {s : State}
    (hL : ∀ p ∈ [StatePart.sec], p ∈ L) (hok : SameBut L s0 s) :
    SameBut L s0 (loadLanes nd s) := by
  unfold loadLanes
  repeat' first
    | with_reducible assumption
    | with_reducible exact .inl rfl
    | exact .inr (hL _ (by decide))
    | (extract_lets +onlyGivenNames x
       first
       | (refine sameStep (L := L) (s0 := s0) (x := x) (fun hx => ?_) ?_; clear_value x; rotate_left; subst x)
       | subst x)
    | intro _ _ _
    | intro _ _
    | intro _
    | (simp only [same_lit]; with_reducible refine SameLit.of ?_ ?_ ?_ ?_ ?_ ?_ ?_ ?_ ?_ ?_ ?_ ?_ ?_ ?_ ?_ ?_ ?_ ?_ ?_ ?_ ?_ ?_ ?_ ?_ ?_ ?_ ?_ ?_ ?_ ?_ ?_ ?_ ?_ ?_ ?_ ?_ ?_ ?_ ?_ ?_)
    | exact .inl rfl
    | dsimp only
    | dsimp only [id]

theorem requestMain_frame {L : List StatePart} {s0 : State} {s : State}
    (hL : ∀ p ∈ [StatePart.od, .stored, .counters, .mgmt, .port0, .int, .sec, .boot, .draws, .out], p ∈ L) (hok : SameBut L s0 s) :
    SameBut L s0 (requestMain s) := by
  unfold requestMain
  repeat' first
    | with_reducible assumption
    | with_reducible exact .inl rfl
    | exact .inr (hL _ (by decide))
    | exact .inl fun _ => rfl
    | (extract_lets +onlyGivenNames x
       first
       | (refine sameStep (L := L) (s0 := s0) (x := x) (fun hx => ?_) ?_; clear_value x; rotate_left; subst x)
       | subst x)
    | with_reducible refine SameBut.ite ?_ ?_
    | with_reducible refine putObj_frame (parts_sub (by decide) hL) ?_
    | with_reducible refine linkNonceOut_frame (parts_sub (by decide) hL) ?_
    | with_reducible refine modPort0_frame (parts_sub (by decide) hL) ?_
    | with_reducible refine linkLeavesL0_frame (parts_sub (by decide) hL) ?_
    | intro _ _ _
    | intro _ _
    | intro _
    | split
    | (simp only [same_lit]; with_reducible refine SameLit.of ?_ ?_ ?_ ?_ ?_ ?_ ?_ ?_ ?_ ?_ ?_ ?_ ?_ ?_ ?_ ?_ ?_ ?_ ?_ ?_ ?_ ?_ ?_ ?_ ?_ ?_ ?_ ?_ ?_ ?_ ?_ ?_ ?_ ?_ ?_ ?_ ?_ ?_ ?_ ?_)
    | exact .inl fun x => by (repeat' split) <;> rfl
    | exact .inl rfl
    | dsimp only
    | dsimp only [id]

theorem execPort0ModeMain_frame {rq : Requester} {s : State} :
    OutBut [StatePart.od, .stored, .counters, .mgmt, .port0, .int, .sec, .boot, .draws, .out] s (execPort0ModeMain rq s) := by
  unfold execPort0ModeMain
  refine OutBut.of (fun L s0 hL hok => ?_)
  repeat' first
    | with_reducible assumption
    | with_reducible refine requestWrite_frame (parts_sub (by decide) hL) ?_ ?_
    | with_reducible refine requestMain_frame (parts_sub (by decide) hL) ?_
    | intro _ _ _
    | intro _ _
    | intro _
    | dsimp only
    | dsimp only [id]

theorem fallBack_frame {L : List StatePart} {s0 : State} {s : State}
    (hL : ∀ p ∈ [StatePart.od, .stored, .counters, .mgmt, .links, .intx, .port0, .fnCfg, .int, .capture, .err, .sec, .power, .boot, .draws, .out], p ∈ L) (hok : SameBut L s0 s) :
    SameBut L s0 (fallBack s) := by
  unfold fallBack
  repeat' first
    | with_reducible assumption
    | with_reducible exact .inl rfl
    | exact .inr (hL _ (by decide))
    | exact .inl fun _ => rfl
    | (extract_lets +onlyGivenNames x
       first
       | (refine sameStep (L := L) (s0 := s0) (x := x) (fun hx => ?_) ?_; clear_value x; rotate_left; subst x)
       | subst x)
    | with_reducible refine linkNonceOut_frame (parts_sub (by decide) hL) ?_
    | with_reducible refine modPort0_frame (parts_sub (by decide) hL) ?_
    | with_reducible refine linkLeavesL0_frame (parts_sub (by decide) hL) ?_
    | with_reducible refine raiseError_frame (parts_sub (by decide) hL) ?_
    | intro _ _ _
    | intro _ _
    | intro _
    | (simp only [same_lit]; with_reducible refine SameLit.of ?_ ?_ ?_ ?_ ?_ ?_ ?_ ?_ ?_ ?_ ?_ ?_ ?_ ?_ ?_ ?_ ?_ ?_ ?_ ?_ ?_ ?_ ?_ ?_ ?_ ?_ ?_ ?_ ?_ ?_ ?_ ?_ ?_ ?_ ?_ ?_ ?_ ?_ ?_ ?_)
    | exact .inl fun x => by (repeat' split) <;> rfl
    | exact .inl rfl
    | dsimp only
    | dsimp only [id]

theorem requestFallback_frame {L : List StatePart} {s0 : State} {s : State}
    (hL : ∀ p ∈ [StatePart.od, .stored, .counters, .mgmt, .links, .intx, .port0, .fnCfg, .int, .capture, .err, .sec, .power, .boot, .draws, .out], p ∈ L) (hok : SameBut L s0 s) :
    SameBut L s0 (requestFallback s) := by
  unfold requestFallback
  repeat' first
    | with_reducible assumption
    | with_reducible exact .inl rfl
    | exact .inr (hL _ (by decide))
    | exact .inl fun _ => rfl
    | (extract_lets +onlyGivenNames x
       first
       | (refine sameStep (L := L) (s0 := s0) (x := x) (fun hx => ?_) ?_; clear_value x; rotate_left; subst x)
       | subst x)
    | with_reducible refine SameBut.ite ?_ ?_
    | with_reducible refine putObj_frame (parts_sub (by decide) hL) ?_
    | with_reducible refine fallBack_frame (parts_sub (by decide) hL) ?_
    | with_reducible refine modPort0_frame (parts_sub (by decide) hL) ?_
    | intro _ _ _
    | intro _ _
    | intro _
    | split
    | (simp only [same_lit]; with_reducible refine SameLit.of ?_ ?_ ?_ ?_ ?_ ?_ ?_ ?_ ?_ ?_ ?_ ?_ ?_ ?_ ?_ ?_ ?_ ?_ ?_ ?_ ?_ ?_ ?_ ?_ ?_ ?_ ?_ ?_ ?_ ?_ ?_ ?_ ?_ ?_ ?_ ?_ ?_ ?_ ?_ ?_)
    | exact .inl fun x => by (repeat' split) <;> rfl
    | exact .inl rfl
    | dsimp only
    | dsimp only [id]

theorem execPort0ModeFallback_frame {rq : Requester} {s : State} :
    OutBut [StatePart.od, .stored, .counters, .mgmt, .links, .intx, .port0, .fnCfg, .int, .capture, .err, .sec, .power, .boot, .draws, .out] s (execPort0ModeFallback rq s) := by
  unfold execPort0ModeFallback
  refine OutBut.of (fun L s0 hL hok => ?_)
  repeat' first
    | with_reducible assumption
    | with_reducible refine requestWrite_frame (parts_sub (by decide) hL) ?_ ?_
    | with_reducible refine requestFallback_frame (parts_sub (by decide) hL) ?_
    | intro _ _ _
    | intro _ _
    | intro _
    | dsimp only
    | dsimp only [id]

theorem trainingDone_frame {L : List StatePart} {s0 : State} {groups : U8} {nd : Bytes} {s : State}
    (hL : ∀ p ∈ [StatePart.od, .stored, .counters, .mgmt, .links, .intx, .port0, .fnCfg, .int, .capture, .err, .sec, .power, .boot, .draws, .out], p ∈ L) (hok : SameBut L s0 s) :
    SameBut L s0 (trainingDone groups nd s) := by
  unfold trainingDone
  repeat' first
    | with_reducible assumption
    | with_reducible exact .inl rfl
    | exact .inr (hL _ (by decide))
    | exact .inl fun _ => rfl
    | (extract_lets +onlyGivenNames x
       first
       | (refine sameStep (L := L) (s0 := s0) (x := x) (fun hx => ?_) ?_; clear_value x; rotate_left; subst x)
       | (refine sameStep (L := L) (s0 := s0) (x := x.1) (fun hx => ?_) ?_; clear_value x; rotate_left; subst x)
       | subst x)
    | with_reducible refine SameBut.ite ?_ ?_
    | with_reducible refine linkNonceOut_frame (parts_sub (by decide) hL) ?_
    | with_reducible refine loadLanes_frame (parts_sub (by decide) hL) ?_
    | with_reducible refine modPort0_frame (parts_sub (by decide) hL) ?_
    | with_reducible refine fallBack_frame (parts_sub (by decide) hL) ?_
    | with_reducible refine returnL0_frame (parts_sub (by decide) hL) ?_
    | with_reducible refine modPort_frame ?_ ?_ ?_ ?_ ?_ 
    | intro _ _ _
    | intro _ _
    | intro _
    | split
    | (simp only [same_lit]; with_reducible refine SameLit.of ?_ ?_ ?_ ?_ ?_ ?_ ?_ ?_ ?_ ?_ ?_ ?_ ?_ ?_ ?_ ?_ ?_ ?_ ?_ ?_ ?_ ?_ ?_ ?_ ?_ ?_ ?_ ?_ ?_ ?_ ?_ ?_ ?_ ?_ ?_ ?_ ?_ ?_ ?_ ?_)
    | exact .inl fun x => by (repeat' split) <;> rfl
    | exact .inl rfl
    | dsimp only
    | dsimp only [id]

theorem execPort0TrainingDone_frame {e : TrainingEnd} {s : State} :
    OutBut [StatePart.od, .stored, .counters, .mgmt, .links, .intx, .port0, .fnCfg, .int, .capture, .err, .sec, .power, .boot, .draws, .out] s (execPort0TrainingDone e s) := by
  unfold execPort0TrainingDone
  refine OutBut.of (fun L s0 hL hok => ?_)
  repeat' first
    | with_reducible assumption
    | with_reducible refine trainingDone_frame (parts_sub (by decide) hL) ?_
    | intro _ _ _
    | intro _ _
    | intro _
    | dsimp only
    | dsimp only [id]

theorem groupFails_frame {L : List StatePart} {s0 : State} {k : Fin 8} {s : State}
    (hL : ∀ p ∈ [StatePart.od, .stored, .counters, .mgmt, .links, .intx, .port0, .fnCfg, .int, .capture, .err, .sec, .power, .boot, .draws, .out], p ∈ L) (hok : SameBut L s0 s) :
    SameBut L s0 (groupFails k s) := by
  unfold groupFails
  repeat' first
    | with_reducible assumption
    | with_reducible exact .inl rfl
    | exact .inr (hL _ (by decide))
    | exact .inl fun _ => rfl
    | (extract_lets +onlyGivenNames x
       first
       | (refine sameStep (L := L) (s0 := s0) (x := x) (fun hx => ?_) ?_; clear_value x; rotate_left; subst x)
       | subst x)
    | with_reducible refine SameBut.ite ?_ ?_
    | with_reducible refine fallBack_frame (parts_sub (by decide) hL) ?_
    | with_reducible refine modPort0_frame (parts_sub (by decide) hL) ?_
    | intro _ _ _
    | intro _ _
    | intro _
    | split
    | (simp only [same_lit]; with_reducible refine SameLit.of ?_ ?_ ?_ ?_ ?_ ?_ ?_ ?_ ?_ ?_ ?_ ?_ ?_ ?_ ?_ ?_ ?_ ?_ ?_ ?_ ?_ ?_ ?_ ?_ ?_ ?_ ?_ ?_ ?_ ?_ ?_ ?_ ?_ ?_ ?_ ?_ ?_ ?_ ?_ ?_)
    | exact .inl fun x => by (repeat' split) <;> rfl
    | exact .inl rfl
    | dsimp only
    | dsimp only [id]

theorem execPort0GroupRetrainFailed_frame {k : Fin 8} {s : State} :
    OutBut [StatePart.od, .stored, .counters, .mgmt, .links, .intx, .port0, .fnCfg, .int, .capture, .err, .sec, .power, .boot, .draws, .out] s (execPort0GroupRetrainFailed k s) := by
  unfold execPort0GroupRetrainFailed
  refine OutBut.of (fun L s0 hL hok => ?_)
  repeat' first
    | with_reducible assumption
    | with_reducible refine groupFails_frame (parts_sub (by decide) hL) ?_
    | intro _ _ _
    | intro _ _
    | intro _
    | dsimp only
    | dsimp only [id]

theorem execPort0LinkDown_frame {s : State} :
    OutBut [StatePart.od, .stored, .counters, .mgmt, .links, .intx, .ats, .port0, .fnCfg, .int, .capture, .err, .power, .boot, .out] s (execPort0LinkDown s) := by
  unfold execPort0LinkDown
  refine OutBut.of (fun L s0 hL hok => ?_)
  repeat' first
    | with_reducible assumption
    | with_reducible exact .inl rfl
    | exact .inr (hL _ (by decide))
    | exact .inl fun _ => rfl
    | (extract_lets +onlyGivenNames x
       first
       | (refine sameStep (L := L) (s0 := s0) (x := x) (fun hx => ?_) ?_; clear_value x; rotate_left; subst x)
       | subst x)
    | with_reducible refine SameBut.ite ?_ ?_
    | with_reducible refine raiseError_frame (parts_sub (by decide) hL) ?_
    | with_reducible refine dropLink_frame (parts_sub (by decide) hL) ?_
    | with_reducible refine modPort0_frame (parts_sub (by decide) hL) ?_
    | intro _ _ _
    | intro _ _
    | intro _
    | split
    | (simp only [same_lit]; with_reducible refine SameLit.of ?_ ?_ ?_ ?_ ?_ ?_ ?_ ?_ ?_ ?_ ?_ ?_ ?_ ?_ ?_ ?_ ?_ ?_ ?_ ?_ ?_ ?_ ?_ ?_ ?_ ?_ ?_ ?_ ?_ ?_ ?_ ?_ ?_ ?_ ?_ ?_ ?_ ?_ ?_ ?_)
    | exact .inl fun x => by (repeat' split) <;> rfl
    | exact .inl rfl
    | dsimp only
    | dsimp only [id]

theorem fallbackTrained_frame {L : List StatePart} {s0 : State} {nd : Bytes} {s : State}
    (hL : ∀ p ∈ [StatePart.links, .intx, .port0, .fnCfg, .fnState, .sec, .draws, .out], p ∈ L) (hok : SameBut L s0 s) :
    SameBut L s0 (fallbackTrained nd s) := by
  unfold fallbackTrained
  repeat' first
    | with_reducible assumption
    | with_reducible exact .inl rfl
    | exact .inr (hL _ (by decide))
    | exact .inl fun _ => rfl
    | (extract_lets +onlyGivenNames x
       first
       | (refine sameStep (L := L) (s0 := s0) (x := x) (fun hx => ?_) ?_; clear_value x; rotate_left; subst x)
       | subst x)
    | with_reducible refine SameBut.ite ?_ ?_
    | with_reducible refine linkNonceOut_frame (parts_sub (by decide) hL) ?_
    | with_reducible refine loadLanes_frame (parts_sub (by decide) hL) ?_
    | with_reducible refine modPort0_frame (parts_sub (by decide) hL) ?_
    | with_reducible refine returnL0_frame (parts_sub (by decide) hL) ?_
    | with_reducible refine presentFns_frame (parts_sub (by decide) hL) ?_
    | with_reducible refine modPort_frame ?_ ?_ ?_ ?_ ?_ 
    | intro _ _ _
    | intro _ _
    | intro _
    | split
    | (simp only [same_lit]; with_reducible refine SameLit.of ?_ ?_ ?_ ?_ ?_ ?_ ?_ ?_ ?_ ?_ ?_ ?_ ?_ ?_ ?_ ?_ ?_ ?_ ?_ ?_ ?_ ?_ ?_ ?_ ?_ ?_ ?_ ?_ ?_ ?_ ?_ ?_ ?_ ?_ ?_ ?_ ?_ ?_ ?_ ?_)
    | exact .inl fun x => by (repeat' split) <;> rfl
    | exact .inl rfl
    | dsimp only
    | dsimp only [id]

theorem execPort0FallbackTrained_frame {nd : Bytes} {s : State} :
    OutBut [StatePart.links, .intx, .port0, .fnCfg, .fnState, .sec, .draws, .out] s (execPort0FallbackTrained nd s) := by
  unfold execPort0FallbackTrained
  refine OutBut.of (fun L s0 hL hok => ?_)
  repeat' first
    | with_reducible assumption
    | with_reducible refine fallbackTrained_frame (parts_sub (by decide) hL) ?_
    | intro _ _ _
    | intro _ _
    | intro _
    | dsimp only
    | dsimp only [id]

end Sys2Proof.Machine
end

