-- ==== Sys2Proof/Laws/FramesPackage.lean ====
section
/-!
SUPPORT. Frames, update by update: power, errors, management, security, bring-up, register writes and resets.
Each lemma follows its definition: one let at a time, one branch at a time, and the lemma of each operation that it calls.
-/
set_option linter.unusedSimpArgs false
set_option linter.unusedVariables false

namespace Sys2Proof.Machine

/-! ### Machine/Power.lean -/

theorem modSec_frame {L : List StatePart} {s0 : State} {f : SecSt → SecSt} {s : State}
    (hL : ∀ p ∈ [StatePart.sec], p ∈ L) (hok : SameBut L s0 s) :
    SameBut L s0 (modSec f s) := by
  unfold modSec
  repeat' first
    | with_reducible assumption
    | with_reducible exact .inl rfl
    | exact .inr (hL _ (by decide))
    | (extract_lets +onlyGivenNames x
       first
       | (refine sameStep (L := L) (s0 := s0) (x := x) (fun hx => ?_) ?_; clear_value x; rotate_left; subst x)
       | subst x)
    | intro _ _ _
    | intro _ _
    | intro _
    | (simp only [same_lit]; with_reducible refine SameLit.of ?_ ?_ ?_ ?_ ?_ ?_ ?_ ?_ ?_ ?_ ?_ ?_ ?_ ?_ ?_ ?_ ?_ ?_ ?_ ?_ ?_ ?_ ?_ ?_ ?_ ?_ ?_ ?_ ?_ ?_ ?_ ?_ ?_ ?_ ?_ ?_ ?_ ?_ ?_ ?_)
    | exact .inl rfl
    | dsimp only
    | dsimp only [id]

theorem switchNext_frame {L : List StatePart} {s0 : State} {s : State}
    (hL : ∀ p ∈ [StatePart.power], p ∈ L) (hok : SameBut L s0 s) :
    SameBut L s0 (switchNext s) := by
  unfold switchNext
  repeat' first
    | with_reducible assumption
    | with_reducible exact .inl rfl
    | exact .inr (hL _ (by decide))
    | (extract_lets +onlyGivenNames x
       first
       | (refine sameStep (L := L) (s0 := s0) (x := x) (fun hx => ?_) ?_; clear_value x; rotate_left; subst x)
       | subst x)
    | with_reducible refine SameBut.ite ?_ ?_
    | with_reducible refine modPower_frame (parts_sub (by decide) hL) ?_
    | with_reducible refine SameBut.ofPair ?_ (by with_reducible assumption)
    | intro _ _ _
    | intro _ _
    | intro _
    | split
    | (simp only [same_lit]; with_reducible refine SameLit.of ?_ ?_ ?_ ?_ ?_ ?_ ?_ ?_ ?_ ?_ ?_ ?_ ?_ ?_ ?_ ?_ ?_ ?_ ?_ ?_ ?_ ?_ ?_ ?_ ?_ ?_ ?_ ?_ ?_ ?_ ?_ ?_ ?_ ?_ ?_ ?_ ?_ ?_ ?_ ?_)
    | exact .inl rfl
    | dsimp only
    | dsimp only [id]

theorem execDomainSwitchStart_frame {s : State} :
    OutBut [StatePart.power] s (execDomainSwitchStart s) := by
  unfold execDomainSwitchStart
  refine OutBut.of (fun L s0 hL hok => ?_)
  repeat' first
    | with_reducible assumption
    | with_reducible refine switchNext_frame (parts_sub (by decide) hL) ?_
    | intro _ _ _
    | intro _ _
    | intro _
    | dsimp only
    | dsimp only [id]

theorem peersDown_frame {L : List StatePart} {s0 : State} {s : State}
    (hL : ∀ p ∈ [StatePart.od, .stored, .counters, .mgmt, .links, .intx, .fnCfg, .faultq, .int, .capture, .fnOther, .ctxs, .cmds, .engines, .lookups, .peers, .windows, .err, .power, .out], p ∈ L) (hok : SameBut L s0 s) :
    SameBut L s0 (peersDown s) := by
  unfold peersDown
  repeat' first
    | with_reducible assumption
    | with_reducible refine SameBut.ite ?_ ?_
    | with_reducible refine foldState_frame (fun _ _ _ => ?_) ?_
    | with_reducible refine goDown_frame (parts_sub (by decide) hL) ?_
    | intro _ _ _
    | intro _ _
    | intro _
    | split
    | dsimp only
    | dsimp only [id]

theorem forgetLane_frame {L : List StatePart} {s0 : State} {d : Nat} {s : State}
    (hL : ∀ p ∈ [StatePart.peers], p ∈ L) (hok : SameBut L s0 s) :
    SameBut L s0 (forgetLane d s) := by
  unfold forgetLane
  repeat' first
    | with_reducible assumption
    | with_reducible exact .inl rfl
    | exact .inr (hL _ (by decide))
    | (extract_lets +onlyGivenNames x
       first
       | (refine sameStep (L := L) (s0 := s0) (x := x) (fun hx => ?_) ?_; clear_value x; rotate_left; subst x)
       | subst x)
    | with_reducible refine SameBut.ite ?_ ?_
    | intro _ _ _
    | intro _ _
    | intro _
    | split
    | (simp only [same_lit]; with_reducible refine SameLit.of ?_ ?_ ?_ ?_ ?_ ?_ ?_ ?_ ?_ ?_ ?_ ?_ ?_ ?_ ?_ ?_ ?_ ?_ ?_ ?_ ?_ ?_ ?_ ?_ ?_ ?_ ?_ ?_ ?_ ?_ ?_ ?_ ?_ ?_ ?_ ?_ ?_ ?_ ?_ ?_)
    | exact .inl rfl
    | dsimp only
    | dsimp only [id]

theorem switchDone_frame {L : List StatePart} {s0 : State} {s : State}
    (hL : ∀ p ∈ [StatePart.od, .stored, .counters, .mgmt, .links, .intx, .fnCfg, .faultq, .int, .capture, .fnOther, .ctxs, .cmds, .engines, .entries, .lookups, .peers, .windows, .err, .power, .out], p ∈ L) (hok : SameBut L s0 s) :
    SameBut L s0 (switchDone s) := by
  unfold switchDone
  repeat' first
    | with_reducible assumption
    | with_reducible exact .inl rfl
    | exact .inr (hL _ (by decide))
    | (extract_lets +onlyGivenNames x
       first
       | (refine sameStep (L := L) (s0 := s0) (x := x) (fun hx => ?_) ?_; clear_value x; rotate_left; subst x)
       | subst x)
    | with_reducible refine SameBut.ite ?_ ?_
    | with_reducible refine modPower_frame (parts_sub (by decide) hL) ?_
    | with_reducible refine forgetLane_frame (parts_sub (by decide) hL) ?_
    | with_reducible refine peersDown_frame (parts_sub (by decide) hL) ?_
    | with_reducible refine SameBut.ofPair ?_ (by with_reducible assumption)
    | intro _ _ _
    | intro _ _
    | intro _
    | split
    | (simp only [same_lit]; with_reducible refine SameLit.of ?_ ?_ ?_ ?_ ?_ ?_ ?_ ?_ ?_ ?_ ?_ ?_ ?_ ?_ ?_ ?_ ?_ ?_ ?_ ?_ ?_ ?_ ?_ ?_ ?_ ?_ ?_ ?_ ?_ ?_ ?_ ?_ ?_ ?_ ?_ ?_ ?_ ?_ ?_ ?_)
    | exact .inl rfl
    | dsimp only
    | dsimp only [id]

theorem execDomainSwitchDone_frame {s : State} :
    OutBut [StatePart.od, .stored, .counters, .mgmt, .links, .intx, .fnCfg, .faultq, .int, .capture, .fnOther, .ctxs, .cmds, .engines, .entries, .lookups, .peers, .windows, .err, .power, .out] s (execDomainSwitchDone s) := by
  unfold execDomainSwitchDone
  refine OutBut.of (fun L s0 hL hok => ?_)
  repeat' first
    | with_reducible assumption
    | with_reducible refine switchDone_frame (parts_sub (by decide) hL) ?_
    | intro _ _ _
    | intro _ _
    | intro _
    | dsimp only
    | dsimp only [id]

theorem setWork_frame {L : List StatePart} {s0 : State} {v : Bool} {s : State}
    (hL : ∀ p ∈ [StatePart.power], p ∈ L) (hok : SameBut L s0 s) :
    SameBut L s0 (setWork v s) := by
  unfold setWork
  repeat' first
    | with_reducible assumption
    | with_reducible exact .inl rfl
    | exact .inr (hL _ (by decide))
    | (extract_lets +onlyGivenNames x
       first
       | (refine sameStep (L := L) (s0 := s0) (x := x) (fun hx => ?_) ?_; clear_value x; rotate_left; subst x)
       | subst x)
    | with_reducible refine modPower_frame (parts_sub (by decide) hL) ?_
    | intro _ _ _
    | intro _ _
    | intro _
    | (simp only [same_lit]; with_reducible refine SameLit.of ?_ ?_ ?_ ?_ ?_ ?_ ?_ ?_ ?_ ?_ ?_ ?_ ?_ ?_ ?_ ?_ ?_ ?_ ?_ ?_ ?_ ?_ ?_ ?_ ?_ ?_ ?_ ?_ ?_ ?_ ?_ ?_ ?_ ?_ ?_ ?_ ?_ ?_ ?_ ?_)
    | exact .inl rfl
    | dsimp only
    | dsimp only [id]

theorem execWorkDomainsOnWrite_frame {rq : Requester} {v : Bool} {s : State} :
    OutBut [StatePart.power, .out] s (execWorkDomainsOnWrite rq v s) := by
  unfold execWorkDomainsOnWrite
  refine OutBut.of (fun L s0 hL hok => ?_)
  repeat' first
    | with_reducible assumption
    | with_reducible refine SameBut.ite ?_ ?_
    | with_reducible refine requestWrite_frame (parts_sub (by decide) hL) ?_ ?_
    | with_reducible refine setWork_frame (parts_sub (by decide) hL) ?_
    | intro _ _ _
    | intro _ _
    | intro _
    | split
    | dsimp only
    | dsimp only [id]

theorem plainWrite_frame {L : List StatePart} {s0 : State} {rq : Requester} {ref : Ref} {v : Nat} {s : State}
    (hL : ∀ p ∈ [StatePart.od, .stored, .counters, .mgmt, .int, .out], p ∈ L) (hok : SameBut L s0 s) :
    SameBut L s0 (plainWrite rq ref v s) := by
  unfold plainWrite
  repeat' first
    | with_reducible assumption
    | with_reducible refine requestWrite_frame (parts_sub (by decide) hL) ?_ ?_
    | with_reducible refine putObj_frame (parts_sub (by decide) hL) ?_
    | intro _ _ _
    | intro _ _
    | intro _
    | dsimp only
    | dsimp only [id]

theorem execEngineGroupEnableWrite_frame {rq : Requester} {v : U8} {s : State} :
    OutBut [StatePart.od, .stored, .counters, .mgmt, .int, .out] s (execEngineGroupEnableWrite rq v s) := by
  unfold execEngineGroupEnableWrite
  refine OutBut.of (fun L s0 hL hok => ?_)
  repeat' first
    | with_reducible assumption
    | with_reducible refine plainWrite_frame (parts_sub (by decide) hL) ?_
    | intro _ _ _
    | intro _ _
    | intro _
    | dsimp only
    | dsimp only [id]

theorem execDigestEngineEnableWrite_frame {rq : Requester} {v : U8} {s : State} :
    OutBut [StatePart.od, .stored, .counters, .mgmt, .int, .out] s (execDigestEngineEnableWrite rq v s) := by
  unfold execDigestEngineEnableWrite
  refine OutBut.of (fun L s0 hL hok => ?_)
  repeat' first
    | with_reducible assumption
    | with_reducible refine plainWrite_frame (parts_sub (by decide) hL) ?_
    | intro _ _ _
    | intro _ _
    | intro _
    | dsimp only
    | dsimp only [id]

theorem execPaldarLaneEnableWrite_frame {rq : Requester} {v : U8} {s : State} :
    OutBut [StatePart.od, .stored, .counters, .mgmt, .int, .out] s (execPaldarLaneEnableWrite rq v s) := by
  unfold execPaldarLaneEnableWrite
  refine OutBut.of (fun L s0 hL hok => ?_)
  repeat' first
    | with_reducible assumption
    | with_reducible refine plainWrite_frame (parts_sub (by decide) hL) ?_
    | intro _ _ _
    | intro _ _
    | intro _
    | dsimp only
    | dsimp only [id]

theorem execWakeFiring_frame {w : WakeInput} {s : State} :
    OutBut [StatePart.counters, .links, .int, .power, .out] s (execWakeFiring w s) := by
  unfold execWakeFiring
  refine OutBut.of (fun L s0 hL hok => ?_)
  repeat' first
    | with_reducible assumption
    | with_reducible refine wakeFires_frame (parts_sub (by decide) hL) ?_
    | intro _ _ _
    | intro _ _
    | intro _
    | dsimp only
    | dsimp only [id]

theorem execGtcAlarm_frame {s : State} :
    OutBut [StatePart.counters, .links, .int, .power, .out] s (execGtcAlarm s) := by
  unfold execGtcAlarm
  refine OutBut.of (fun L s0 hL hok => ?_)
  repeat' first
    | with_reducible assumption
    | with_reducible refine SameBut.ite ?_ ?_
    | with_reducible refine wakeFires_frame (parts_sub (by decide) hL) ?_
    | intro _ _ _
    | intro _ _
    | intro _
    | split
    | dsimp only
    | dsimp only [id]

theorem execPkgWakereq_frame {s : State} :
    OutBut [StatePart.counters, .links, .int, .power, .out] s (execPkgWakereq s) := by
  unfold execPkgWakereq
  refine OutBut.of (fun L s0 hL hok => ?_)
  repeat' first
    | with_reducible assumption
    | with_reducible refine askWake_frame (parts_sub (by decide) hL) ?_
    | intro _ _ _
    | intro _ _
    | intro _
    | dsimp only
    | dsimp only [id]

theorem execHmpWakeFrame_frame {s : State} :
    OutBut [StatePart.counters, .links, .int, .power, .out] s (execHmpWakeFrame s) := by
  unfold execHmpWakeFrame
  refine OutBut.of (fun L s0 hL hok => ?_)
  repeat' first
    | with_reducible assumption
    | with_reducible refine askWake_frame (parts_sub (by decide) hL) ?_
    | intro _ _ _
    | intro _ _
    | intro _
    | dsimp only
    | dsimp only [id]

theorem requestSleep_frame {L : List StatePart} {s0 : State} {s : State}
    (hL : ∀ p ∈ [StatePart.power], p ∈ L) (hok : SameBut L s0 s) :
    SameBut L s0 (requestSleep s) := by
  unfold requestSleep
  repeat' first
    | with_reducible assumption
    | with_reducible exact .inl rfl
    | exact .inr (hL _ (by decide))
    | (extract_lets +onlyGivenNames x
       first
       | (refine sameStep (L := L) (s0 := s0) (x := x) (fun hx => ?_) ?_; clear_value x; rotate_left; subst x)
       | subst x)
    | with_reducible refine SameBut.ite ?_ ?_
    | with_reducible refine modPower_frame (parts_sub (by decide) hL) ?_
    | intro _ _ _
    | intro _ _
    | intro _
    | split
    | (simp only [same_lit]; with_reducible refine SameLit.of ?_ ?_ ?_ ?_ ?_ ?_ ?_ ?_ ?_ ?_ ?_ ?_ ?_ ?_ ?_ ?_ ?_ ?_ ?_ ?_ ?_ ?_ ?_ ?_ ?_ ?_ ?_ ?_ ?_ ?_ ?_ ?_ ?_ ?_ ?_ ?_ ?_ ?_ ?_ ?_)
    | exact .inl rfl
    | dsimp only
    | dsimp only [id]

theorem execSleepRequest_frame {rq : Requester} {s : State} :
    OutBut [StatePart.power, .out] s (execSleepRequest rq s) := by
  unfold execSleepRequest
  refine OutBut.of (fun L s0 hL hok => ?_)
  repeat' first
    | with_reducible assumption
    | with_reducible refine requestWrite_frame (parts_sub (by decide) hL) ?_ ?_
    | with_reducible refine requestSleep_frame (parts_sub (by decide) hL) ?_
    | intro _ _ _
    | intro _ _
    | intro _
    | dsimp only
    | dsimp only [id]

theorem dropAllLeases_frame {L : List StatePart} {s0 : State} {s : State}
    (hL : ∀ p ∈ [StatePart.counters, .int, .lookups, .out], p ∈ L) (hok : SameBut L s0 s) :
    SameBut L s0 (dropAllLeases s) := by
  unfold dropAllLeases
  repeat' first
    | with_reducible assumption
    | with_reducible exact .inl rfl
    | exact .inr (hL _ (by decide))
    | (extract_lets +onlyGivenNames x
       first
       | (refine sameStep (L := L) (s0 := s0) (x := x) (fun hx => ?_) ?_; clear_value x; rotate_left; subst x)
       | subst x)
    | with_reducible refine SameBut.ite ?_ ?_
    | with_reducible refine foldState_frame (fun _ _ _ => ?_) ?_
    | with_reducible refine countPackage_frame (parts_sub (by decide) hL) ?_
    | with_reducible refine emit_frame (parts_sub (by decide) hL) ?_
    | intro _ _ _
    | intro _ _
    | intro _
    | split
    | (simp only [same_lit]; with_reducible refine SameLit.of ?_ ?_ ?_ ?_ ?_ ?_ ?_ ?_ ?_ ?_ ?_ ?_ ?_ ?_ ?_ ?_ ?_ ?_ ?_ ?_ ?_ ?_ ?_ ?_ ?_ ?_ ?_ ?_ ?_ ?_ ?_ ?_ ?_ ?_ ?_ ?_ ?_ ?_ ?_ ?_)
    | exact .inl rfl
    | dsimp only
    | dsimp only [id]

theorem enterSleep_frame {L : List StatePart} {s0 : State} {s : State}
    (hL : ∀ p ∈ [StatePart.od, .stored, .counters, .mgmt, .links, .intx, .requests, .ats, .fnCfg, .faultq, .int, .capture, .fnOther, .ctxs, .cmds, .engines, .entries, .lookups, .peers, .windows, .memory, .err, .sec, .power, .out], p ∈ L) (hok : SameBut L s0 s) :
    SameBut L s0 (enterSleep s) := by
  unfold enterSleep
  repeat' first
    | with_reducible assumption
    | with_reducible exact .inl rfl
    | exact .inr (hL _ (by decide))
    | (extract_lets +onlyGivenNames x
       first
       | (refine sameStep (L := L) (s0 := s0) (x := x) (fun hx => ?_) ?_; clear_value x; rotate_left; subst x)
       | (refine sameStep (L := L) (s0 := s0) (x := x.1) (fun hx => ?_) ?_; clear_value x; rotate_left; subst x)
       | subst x)
    | with_reducible refine SameBut.ite ?_ ?_
    | with_reducible refine foldState_frame (fun _ _ _ => ?_) ?_
    | with_reducible refine backLine_frame (parts_sub (by decide) hL) ?_
    | with_reducible refine dropAllLeases_frame (parts_sub (by decide) hL) ?_
    | with_reducible refine peersDown_frame (parts_sub (by decide) hL) ?_
    | with_reducible refine modSec_frame (parts_sub (by decide) hL) ?_
    | with_reducible refine modPower_frame (parts_sub (by decide) hL) ?_
    | with_reducible refine startWake_frame (parts_sub (by decide) hL) ?_
    | with_reducible refine SameBut.ofPair ?_ (by with_reducible assumption)
    | intro _ _ _
    | intro _ _
    | intro _
    | split
    | (simp only [same_lit]; with_reducible refine SameLit.of ?_ ?_ ?_ ?_ ?_ ?_ ?_ ?_ ?_ ?_ ?_ ?_ ?_ ?_ ?_ ?_ ?_ ?_ ?_ ?_ ?_ ?_ ?_ ?_ ?_ ?_ ?_ ?_ ?_ ?_ ?_ ?_ ?_ ?_ ?_ ?_ ?_ ?_ ?_ ?_)
    | exact .inl rfl
    | dsimp only
    | dsimp only [id]

theorem execSleepEntered_frame {s : State} :
    OutBut [StatePart.od, .stored, .counters, .mgmt, .links, .intx, .requests, .ats, .fnCfg, .faultq, .int, .capture, .fnOther, .ctxs, .cmds, .engines, .entries, .lookups, .peers, .windows, .memory, .err, .sec, .power, .out] s (execSleepEntered s) := by
  unfold execSleepEntered
  refine OutBut.of (fun L s0 hL hok => ?_)
  repeat' first
    | with_reducible assumption
    | with_reducible refine enterSleep_frame (parts_sub (by decide) hL) ?_
    | intro _ _ _
    | intro _ _
    | intro _
    | dsimp only
    | dsimp only [id]

theorem wakePort0_frame {L : List StatePart} {s0 : State} {s : State}
    (hL : ∀ p ∈ [StatePart.links, .intx, .ats, .port0, .idle, .sec, .boot, .draws, .out], p ∈ L) (hok : SameBut L s0 s) :
    SameBut L s0 (wakePort0 s) := by
  unfold wakePort0
  repeat' first
    | with_reducible assumption
    | with_reducible exact .inl rfl
    | exact .inr (hL _ (by decide))
    | exact .inl fun _ => rfl
    | (extract_lets +onlyGivenNames x
       first
       | (refine sameStep (L := L) (s0 := s0) (x := x) (fun hx => ?_) ?_; clear_value x; rotate_left; subst x)
       | subst x)
    | with_reducible refine awaitFallback_frame (parts_sub (by decide) hL) ?_
    | with_reducible refine dropLink_frame (parts_sub (by decide) hL) ?_
    | with_reducible refine modPort0_frame (parts_sub (by decide) hL) ?_
    | with_reducible refine emit_frame (parts_sub (by decide) hL) ?_
    | with_reducible refine linkNonceOut_frame (parts_sub (by decide) hL) ?_
    | with_reducible refine modPort_frame ?_ ?_ ?_ ?_ ?_ 
    | intro _ _ _
    | intro _ _
    | intro _
    | (simp only [same_lit]; with_reducible refine SameLit.of ?_ ?_ ?_ ?_ ?_ ?_ ?_ ?_ ?_ ?_ ?_ ?_ ?_ ?_ ?_ ?_ ?_ ?_ ?_ ?_ ?_ ?_ ?_ ?_ ?_ ?_ ?_ ?_ ?_ ?_ ?_ ?_ ?_ ?_ ?_ ?_ ?_ ?_ ?_ ?_)
    | exact .inl fun x => by (repeat' split) <;> rfl
    | exact .inl rfl
    | dsimp only
    | dsimp only [id]

theorem takeBack_frame {L : List StatePart} {s0 : State} {late : List (Fun × Nat)} {s : State}
    (hL : ∀ p ∈ [StatePart.counters, .intx, .fnCfg, .int, .out], p ∈ L) (hok : SameBut L s0 s) :
    SameBut L s0 (takeBack late s) := by
  unfold takeBack
  repeat' first
    | with_reducible assumption
    | with_reducible refine foldState_frame (fun _ _ _ => ?_) ?_
    | with_reducible refine runWeir_frame (parts_sub (by decide) hL) ?_
    | with_reducible refine setLatch_frame (parts_sub (by decide) hL) ?_
    | intro _ _ _
    | intro _ _
    | intro _
    | dsimp only
    | dsimp only [id]

theorem completeWake_frame {L : List StatePart} {s0 : State} {s : State}
    (hL : ∀ p ∈ [StatePart.od, .stored, .counters, .mgmt, .links, .intx, .requests, .ats, .port0, .fnCfg, .admin, .int, .capture, .ctxs, .slots, .cmds, .engines, .entries, .lookups, .peers, .windows, .coherence, .memory, .pool, .sync, .det, .idle, .err, .sec, .power, .boot, .draws, .out], p ∈ L) (hok : SameBut L s0 s) :
    SameBut L s0 (completeWake s) := by
  unfold completeWake
  repeat' first
    | with_reducible assumption
    | with_reducible exact .inl rfl
    | exact .inr (hL _ (by decide))
    | (extract_lets +onlyGivenNames x
       first
       | (refine sameStep (L := L) (s0 := s0) (x := x) (fun hx => ?_) ?_; clear_value x; rotate_left; subst x)
       | subst x)
    | with_reducible refine SameBut.ite ?_ ?_
    | with_reducible refine modSec_frame (parts_sub (by decide) hL) ?_
    | with_reducible refine modPower_frame (parts_sub (by decide) hL) ?_
    | with_reducible refine modSync_frame (parts_sub (by decide) hL) ?_
    | with_reducible refine wakePort0_frame (parts_sub (by decide) hL) ?_
    | with_reducible refine wake_frame (parts_sub (by decide) hL) ?_
    | with_reducible refine takeBack_frame (parts_sub (by decide) hL) ?_
    | with_reducible refine raiseError_frame (parts_sub (by decide) hL) ?_
    | intro _ _ _
    | intro _ _
    | intro _
    | split
    | (simp only [same_lit]; with_reducible refine SameLit.of ?_ ?_ ?_ ?_ ?_ ?_ ?_ ?_ ?_ ?_ ?_ ?_ ?_ ?_ ?_ ?_ ?_ ?_ ?_ ?_ ?_ ?_ ?_ ?_ ?_ ?_ ?_ ?_ ?_ ?_ ?_ ?_ ?_ ?_ ?_ ?_ ?_ ?_ ?_ ?_)
    | exact .inl rfl
    | dsimp only
    | dsimp only [id]

theorem execWakeComplete_frame {s : State} :
    OutBut [StatePart.od, .stored, .counters, .mgmt, .links, .intx, .requests, .ats, .port0, .fnCfg, .admin, .int, .capture, .ctxs, .slots, .cmds, .engines, .entries, .lookups, .peers, .windows, .coherence, .memory, .pool, .sync, .det, .idle, .err, .sec, .power, .boot, .draws, .out] s (execWakeComplete s) := by
  unfold execWakeComplete
  refine OutBut.of (fun L s0 hL hok => ?_)
  repeat' first
    | with_reducible assumption
    | with_reducible refine completeWake_frame (parts_sub (by decide) hL) ?_
    | intro _ _ _
    | intro _ _
    | intro _
    | dsimp only
    | dsimp only [id]

theorem measureClocks_frame {L : List StatePart} {s0 : State} {khz : List Nat} {s : State}
    (hL : ∀ p ∈ [StatePart.od, .stored, .counters, .mgmt, .links, .intx, .fnCfg, .int, .capture, .err, .power, .out], p ∈ L) (hok : SameBut L s0 s) :
    SameBut L s0 (measureClocks khz s) := by
  unfold measureClocks
  repeat' first
    | with_reducible assumption
    | with_reducible exact .inl rfl
    | exact .inr (hL _ (by decide))
    | (extract_lets +onlyGivenNames x
       first
       | (refine sameStep (L := L) (s0 := s0) (x := x) (fun hx => ?_) ?_; clear_value x; rotate_left; subst x)
       | subst x)
    | with_reducible refine SameBut.ite ?_ ?_
    | with_reducible refine modPower_frame (parts_sub (by decide) hL) ?_
    | with_reducible refine raiseError_frame (parts_sub (by decide) hL) ?_
    | intro _ _ _
    | intro _ _
    | intro _
    | split
    | (simp only [same_lit]; with_reducible refine SameLit.of ?_ ?_ ?_ ?_ ?_ ?_ ?_ ?_ ?_ ?_ ?_ ?_ ?_ ?_ ?_ ?_ ?_ ?_ ?_ ?_ ?_ ?_ ?_ ?_ ?_ ?_ ?_ ?_ ?_ ?_ ?_ ?_ ?_ ?_ ?_ ?_ ?_ ?_ ?_ ?_)
    | exact .inl rfl
    | dsimp only
    | dsimp only [id]

theorem execClockMeasureWindow_frame {khz : List Nat} {s : State} :
    OutBut [StatePart.od, .stored, .counters, .mgmt, .links, .intx, .fnCfg, .int, .capture, .err, .power, .out] s (execClockMeasureWindow khz s) := by
  unfold execClockMeasureWindow
  refine OutBut.of (fun L s0 hL hok => ?_)
  repeat' first
    | with_reducible assumption
    | with_reducible refine measureClocks_frame (parts_sub (by decide) hL) ?_
    | intro _ _ _
    | intro _ _
    | intro _
    | dsimp only
    | dsimp only [id]

theorem powerGoodChange_frame {L : List StatePart} {s0 : State} {levels : BitVec 4} {s : State}
    (hL : ∀ p ∈ [StatePart.od, .stored, .counters, .mgmt, .links, .intx, .fnCfg, .int, .capture, .det, .err, .power, .out], p ∈ L) (hok : SameBut L s0 s) :
    SameBut L s0 (powerGoodChange levels s) := by
  unfold powerGoodChange
  repeat' first
    | with_reducible assumption
    | with_reducible exact .inl rfl
    | exact .inr (hL _ (by decide))
    | (extract_lets +onlyGivenNames x
       first
       | (refine sameStep (L := L) (s0 := s0) (x := x) (fun hx => ?_) ?_; clear_value x; rotate_left; subst x)
       | subst x)
    | with_reducible refine SameBut.ite ?_ ?_
    | with_reducible refine modPower_frame (parts_sub (by decide) hL) ?_
    | with_reducible refine clustersWake_frame (parts_sub (by decide) hL) ?_
    | with_reducible refine wakeFires_frame (parts_sub (by decide) hL) ?_
    | with_reducible refine raiseError_frame (parts_sub (by decide) hL) ?_
    | intro _ _ _
    | intro _ _
    | intro _
    | split
    | (simp only [same_lit]; with_reducible refine SameLit.of ?_ ?_ ?_ ?_ ?_ ?_ ?_ ?_ ?_ ?_ ?_ ?_ ?_ ?_ ?_ ?_ ?_ ?_ ?_ ?_ ?_ ?_ ?_ ?_ ?_ ?_ ?_ ?_ ?_ ?_ ?_ ?_ ?_ ?_ ?_ ?_ ?_ ?_ ?_ ?_)
    | exact .inl rfl
    | dsimp only
    | dsimp only [id]

theorem execPowerGoodChange_frame {levels : BitVec 4} {s : State} :
    OutBut [StatePart.od, .stored, .counters, .mgmt, .links, .intx, .fnCfg, .int, .capture, .det, .err, .power, .out] s (execPowerGoodChange levels s) := by
  unfold execPowerGoodChange
  refine OutBut.of (fun L s0 hL hok => ?_)
  repeat' first
    | with_reducible assumption
    | with_reducible refine powerGoodChange_frame (parts_sub (by decide) hL) ?_
    | intro _ _ _
    | intro _ _
    | intro _
    | dsimp only
    | dsimp only [id]

theorem execTelemetryPoll_frame {s : State} :
    OutBut [StatePart.power, .out] s (execTelemetryPoll s) := by
  unfold execTelemetryPoll
  refine OutBut.of (fun L s0 hL hok => ?_)
  repeat' first
    | with_reducible assumption
    | with_reducible exact .inl rfl
    | exact .inr (hL _ (by decide))
    | (extract_lets +onlyGivenNames x
       first
       | (refine sameStep (L := L) (s0 := s0) (x := x) (fun hx => ?_) ?_; clear_value x; rotate_left; subst x)
       | (refine sameStep (L := L) (s0 := s0) (x := x.1) (fun hx => ?_) ?_; clear_value x; rotate_left; subst x)
       | subst x)
    | with_reducible refine foldState_frame (fun _ _ _ => ?_) ?_
    | with_reducible refine emit_frame (parts_sub (by decide) hL) ?_
    | with_reducible refine modPower_frame (parts_sub (by decide) hL) ?_
    | intro _ _ _
    | intro _ _
    | intro _
    | (simp only [same_lit]; with_reducible refine SameLit.of ?_ ?_ ?_ ?_ ?_ ?_ ?_ ?_ ?_ ?_ ?_ ?_ ?_ ?_ ?_ ?_ ?_ ?_ ?_ ?_ ?_ ?_ ?_ ?_ ?_ ?_ ?_ ?_ ?_ ?_ ?_ ?_ ?_ ?_ ?_ ?_ ?_ ?_ ?_ ?_)
    | exact .inl rfl
    | dsimp only
    | dsimp only [id]

theorem takeReplies_frame {L : List StatePart} {s0 : State} {vin iin : List (Option U16)} {s : State}
    (hL : ∀ p ∈ [StatePart.power], p ∈ L) (hok : SameBut L s0 s) :
    SameBut L s0 (takeReplies vin iin s) := by
  unfold takeReplies
  repeat' first
    | with_reducible assumption
    | with_reducible exact .inl rfl
    | exact .inr (hL _ (by decide))
    | (extract_lets +onlyGivenNames x
       first
       | (refine sameStep (L := L) (s0 := s0) (x := x) (fun hx => ?_) ?_; clear_value x; rotate_left; subst x)
       | (refine sameStep (L := L) (s0 := s0) (x := x.1) (fun hx => ?_) ?_; clear_value x; rotate_left; subst x)
       | subst x)
    | with_reducible refine SameBut.ite ?_ ?_
    | with_reducible refine modPower_frame (parts_sub (by decide) hL) ?_
    | with_reducible refine SameBut.ofPair ?_ (by with_reducible assumption)
    | intro _ _ _
    | intro _ _
    | intro _
    | split
    | (simp only [same_lit]; with_reducible refine SameLit.of ?_ ?_ ?_ ?_ ?_ ?_ ?_ ?_ ?_ ?_ ?_ ?_ ?_ ?_ ?_ ?_ ?_ ?_ ?_ ?_ ?_ ?_ ?_ ?_ ?_ ?_ ?_ ?_ ?_ ?_ ?_ ?_ ?_ ?_ ?_ ?_ ?_ ?_ ?_ ?_)
    | exact .inl rfl
    | dsimp only
    | dsimp only [id]

theorem execTelemetryReply_frame {vin iin : List (Option U16)} {s : State} :
    OutBut [StatePart.power] s (execTelemetryReply vin iin s) := by
  unfold execTelemetryReply
  refine OutBut.of (fun L s0 hL hok => ?_)
  repeat' first
    | with_reducible assumption
    | with_reducible refine takeReplies_frame (parts_sub (by decide) hL) ?_
    | intro _ _ _
    | intro _ _
    | intro _
    | dsimp only
    | dsimp only [id]


/-! ### Machine/Errors.lean -/

theorem modErr_frame {L : List StatePart} {s0 : State} {f : ErrSt → ErrSt} {s : State}
    (hL : ∀ p ∈ [StatePart.err], p ∈ L) (hok : SameBut L s0 s) :
    SameBut L s0 (modErr f s) := by
  unfold modErr
  repeat' first
    | with_reducible assumption
    | with_reducible exact .inl rfl
    | exact .inr (hL _ (by decide))
    | (extract_lets +onlyGivenNames x
       first
       | (refine sameStep (L := L) (s0 := s0) (x := x) (fun hx => ?_) ?_; clear_value x; rotate_left; subst x)
       | subst x)
    | intro _ _ _
    | intro _ _
    | intro _
    | (simp only [same_lit]; with_reducible refine SameLit.of ?_ ?_ ?_ ?_ ?_ ?_ ?_ ?_ ?_ ?_ ?_ ?_ ?_ ?_ ?_ ?_ ?_ ?_ ?_ ?_ ?_ ?_ ?_ ?_ ?_ ?_ ?_ ?_ ?_ ?_ ?_ ?_ ?_ ?_ ?_ ?_ ?_ ?_ ?_ ?_)
    | exact .inl rfl
    | dsimp only
    | dsimp only [id]

theorem contextStateLost_frame {L : List StatePart} {s0 : State} {i : ErrInfo} {s : State}
    (hL : ∀ p ∈ [StatePart.od, .stored, .counters, .mgmt, .links, .intx, .fnCfg, .int, .capture, .ctxs, .cmds, .engines, .lookups, .peers, .windows, .err, .power, .out], p ∈ L) (hok : SameBut L s0 s) :
    SameBut L s0 (contextStateLost i s) := by
  unfold contextStateLost
  repeat' first
    | with_reducible assumption
    | with_reducible exact .inl rfl
    | exact .inr (hL _ (by decide))
    | (extract_lets +onlyGivenNames x
       first
       | (refine sameStep (L := L) (s0 := s0) (x := x) (fun hx => ?_) ?_; clear_value x; rotate_left; subst x)
       | subst x)
    | with_reducible refine SameBut.ite ?_ ?_
    | with_reducible refine raiseError_frame (parts_sub (by decide) hL) ?_
    | with_reducible refine loseContext_frame (parts_sub (by decide) hL) ?_
    | with_reducible refine raiseWith_frame (parts_sub (by decide) hL) ?_
    | with_reducible refine SameBut.ofPair ?_ (by with_reducible assumption)
    | intro _ _ _
    | intro _ _
    | intro _
    | split
    | (simp only [same_lit]; with_reducible refine SameLit.of ?_ ?_ ?_ ?_ ?_ ?_ ?_ ?_ ?_ ?_ ?_ ?_ ?_ ?_ ?_ ?_ ?_ ?_ ?_ ?_ ?_ ?_ ?_ ?_ ?_ ?_ ?_ ?_ ?_ ?_ ?_ ?_ ?_ ?_ ?_ ?_ ?_ ?_ ?_ ?_)
    | exact .inl rfl
    | dsimp only
    | dsimp only [id]

theorem dropFaulty_frame {L : List StatePart} {s0 : State} {i : ErrInfo} {s : State}
    (hL : ∀ p ∈ [StatePart.counters, .int, .entries, .lookups, .out], p ∈ L) (hok : SameBut L s0 s) :
    SameBut L s0 (dropFaulty i s) := by
  unfold dropFaulty
  repeat' first
    | with_reducible assumption
    | with_reducible exact .inl rfl
    | exact .inr (hL _ (by decide))
    | (extract_lets +onlyGivenNames x
       first
       | (refine sameStep (L := L) (s0 := s0) (x := x) (fun hx => ?_) ?_; clear_value x; rotate_left; subst x)
       | subst x)
    | with_reducible refine revokeWhere_frame (parts_sub (by decide) hL) ?_
    | with_reducible refine setBank_frame (parts_sub (by decide) hL) ?_
    | with_reducible refine SameBut.ofPair ?_ (by with_reducible assumption)
    | intro _ _ _
    | intro _ _
    | intro _
    | split
    | (simp only [same_lit]; with_reducible refine SameLit.of ?_ ?_ ?_ ?_ ?_ ?_ ?_ ?_ ?_ ?_ ?_ ?_ ?_ ?_ ?_ ?_ ?_ ?_ ?_ ?_ ?_ ?_ ?_ ?_ ?_ ?_ ?_ ?_ ?_ ?_ ?_ ?_ ?_ ?_ ?_ ?_ ?_ ?_ ?_ ?_)
    | exact .inl rfl
    | dsimp only
    | dsimp only [id]

theorem raiseSource_frame {L : List StatePart} {s0 : State} {e : Src} {i : ErrInfo} {s : State}
    (hL : ∀ p ∈ [StatePart.od, .stored, .counters, .mgmt, .links, .intx, .fnCfg, .int, .capture, .ctxs, .cmds, .engines, .entries, .lookups, .peers, .windows, .coherence, .det, .err, .power, .boot, .out], p ∈ L) (hok : SameBut L s0 s) :
    SameBut L s0 (raiseSource e i s) := by
  unfold raiseSource
  repeat' first
    | with_reducible assumption
    | with_reducible exact .inl rfl
    | exact .inr (hL _ (by decide))
    | (extract_lets +onlyGivenNames x
       first
       | (refine sameStep (L := L) (s0 := s0) (x := x) (fun hx => ?_) ?_; clear_value x; rotate_left; subst x)
       | subst x)
    | with_reducible refine SameBut.ite ?_ ?_
    | with_reducible refine contextStateLost_frame (parts_sub (by decide) hL) ?_
    | with_reducible refine dropFaulty_frame (parts_sub (by decide) hL) ?_
    | with_reducible refine raiseError_frame (parts_sub (by decide) hL) ?_
    | with_reducible refine fenceUnit_frame (parts_sub (by decide) hL) ?_
    | with_reducible refine SameBut.ofPair ?_ (by with_reducible assumption)
    | intro _ _ _
    | intro _ _
    | intro _
    | split
    | (simp only [same_lit]; with_reducible refine SameLit.of ?_ ?_ ?_ ?_ ?_ ?_ ?_ ?_ ?_ ?_ ?_ ?_ ?_ ?_ ?_ ?_ ?_ ?_ ?_ ?_ ?_ ?_ ?_ ?_ ?_ ?_ ?_ ?_ ?_ ?_ ?_ ?_ ?_ ?_ ?_ ?_ ?_ ?_ ?_ ?_)
    | exact .inl rfl
    | dsimp only
    | dsimp only [id]

theorem execErrorRaise_frame {e : Src} {i : ErrInfo} {s : State} :
    OutBut [StatePart.od, .stored, .counters, .mgmt, .links, .intx, .fnCfg, .int, .capture, .ctxs, .cmds, .engines, .entries, .lookups, .peers, .windows, .coherence, .det, .err, .power, .boot, .out] s (execErrorRaise e i s) := by
  unfold execErrorRaise
  refine OutBut.of (fun L s0 hL hok => ?_)
  repeat' first
    | with_reducible assumption
    | with_reducible refine raiseSource_frame (parts_sub (by decide) hL) ?_
    | intro _ _ _
    | intro _ _
    | intro _
    | dsimp only
    | dsimp only [id]

theorem breakWire_frame {L : List StatePart} {s0 : State} {e : Src} {s : State}
    (hL : ∀ p ∈ [StatePart.od, .stored, .counters, .mgmt, .links, .intx, .fnCfg, .int, .capture, .err, .power, .out], p ∈ L) (hok : SameBut L s0 s) :
    SameBut L s0 (breakWire e s) := by
  unfold breakWire
  repeat' first
    | with_reducible assumption
    | with_reducible exact .inl rfl
    | exact .inr (hL _ (by decide))
    | (extract_lets +onlyGivenNames x
       first
       | (refine sameStep (L := L) (s0 := s0) (x := x) (fun hx => ?_) ?_; clear_value x; rotate_left; subst x)
       | subst x)
    | with_reducible refine SameBut.ite ?_ ?_
    | with_reducible refine raiseError_frame (parts_sub (by decide) hL) ?_
    | with_reducible refine modErr_frame (parts_sub (by decide) hL) ?_
    | intro _ _ _
    | intro _ _
    | intro _
    | split
    | (simp only [same_lit]; with_reducible refine SameLit.of ?_ ?_ ?_ ?_ ?_ ?_ ?_ ?_ ?_ ?_ ?_ ?_ ?_ ?_ ?_ ?_ ?_ ?_ ?_ ?_ ?_ ?_ ?_ ?_ ?_ ?_ ?_ ?_ ?_ ?_ ?_ ?_ ?_ ?_ ?_ ?_ ?_ ?_ ?_ ?_)
    | exact .inl rfl
    | dsimp only
    | dsimp only [id]

theorem execBrokenWire_frame {e : Src} {s : State} :
    OutBut [StatePart.od, .stored, .counters, .mgmt, .links, .intx, .fnCfg, .int, .capture, .err, .power, .out] s (execBrokenWire e s) := by
  unfold execBrokenWire
  refine OutBut.of (fun L s0 hL hok => ?_)
  repeat' first
    | with_reducible assumption
    | with_reducible refine breakWire_frame (parts_sub (by decide) hL) ?_
    | intro _ _ _
    | intro _ _
    | intro _
    | dsimp only
    | dsimp only [id]

theorem execWatchdogExpiry_frame {s : State} :
    OutBut [StatePart.od, .stored, .counters, .mgmt, .links, .intx, .fnCfg, .int, .capture, .ctxs, .cmds, .engines, .entries, .lookups, .peers, .windows, .coherence, .det, .err, .power, .boot, .out] s (execWatchdogExpiry s) := by
  unfold execWatchdogExpiry
  refine OutBut.of (fun L s0 hL hok => ?_)
  repeat' first
    | with_reducible assumption
    | with_reducible refine raiseSource_frame (parts_sub (by decide) hL) ?_
    | intro _ _ _
    | intro _ _
    | intro _
    | dsimp only
    | dsimp only [id]

theorem execErrCaptureRelease_frame {rq : Requester} {s : State} :
    OutBut [StatePart.err, .out] s (execErrCaptureRelease rq s) := by
  unfold execErrCaptureRelease
  refine OutBut.of (fun L s0 hL hok => ?_)
  repeat' first
    | with_reducible assumption
    | with_reducible exact .inl rfl
    | exact .inr (hL _ (by decide))
    | (extract_lets +onlyGivenNames x
       first
       | (refine sameStep (L := L) (s0 := s0) (x := x) (fun hx => ?_) ?_; clear_value x; rotate_left; subst x)
       | subst x)
    | with_reducible refine requestWrite_frame (parts_sub (by decide) hL) ?_ ?_
    | with_reducible refine modErr_frame (parts_sub (by decide) hL) ?_
    | intro _ _ _
    | intro _ _
    | intro _
    | (simp only [same_lit]; with_reducible refine SameLit.of ?_ ?_ ?_ ?_ ?_ ?_ ?_ ?_ ?_ ?_ ?_ ?_ ?_ ?_ ?_ ?_ ?_ ?_ ?_ ?_ ?_ ?_ ?_ ?_ ?_ ?_ ?_ ?_ ?_ ?_ ?_ ?_ ?_ ?_ ?_ ?_ ?_ ?_ ?_ ?_)
    | exact .inl rfl
    | dsimp only
    | dsimp only [id]

theorem writeFnRelease_frame {L : List StatePart} {s0 : State} {g : Fun} {v : U64} {s : State}
    (hL : ∀ p ∈ [StatePart.capture], p ∈ L) (hok : SameBut L s0 s) :
    SameBut L s0 (writeFnRelease g v s) := by
  unfold writeFnRelease
  repeat' first
    | with_reducible assumption
    | with_reducible exact .inl rfl
    | exact .inr (hL _ (by decide))
    | exact .inl fun _ => rfl
    | (extract_lets +onlyGivenNames x
       first
       | (refine sameStep (L := L) (s0 := s0) (x := x) (fun hx => ?_) ?_; clear_value x; rotate_left; subst x)
       | subst x)
    | with_reducible refine SameBut.ite ?_ ?_
    | with_reducible refine modFn_frame ?_ ?_ ?_ ?_ ?_ ?_ ?_ ?_ ?_ 
    | intro _ _ _
    | intro _ _
    | intro _
    | split
    | (simp only [same_lit]; with_reducible refine SameLit.of ?_ ?_ ?_ ?_ ?_ ?_ ?_ ?_ ?_ ?_ ?_ ?_ ?_ ?_ ?_ ?_ ?_ ?_ ?_ ?_ ?_ ?_ ?_ ?_ ?_ ?_ ?_ ?_ ?_ ?_ ?_ ?_ ?_ ?_ ?_ ?_ ?_ ?_ ?_ ?_)
    | exact .inl fun x => by (repeat' split) <;> rfl
    | exact .inl rfl
    | dsimp only
    | dsimp only [id]

theorem execFnErrRelease_frame {g : Fun} {v : U64} {s : State} :
    OutBut [StatePart.fnCfg, .capture, .out] s (execFnErrRelease g v s) := by
  unfold execFnErrRelease
  refine OutBut.of (fun L s0 hL hok => ?_)
  repeat' first
    | with_reducible assumption
    | with_reducible refine barWrite_frame (parts_sub (by decide) hL) ?_ ?_
    | with_reducible refine writeFnRelease_frame (parts_sub (by decide) hL) ?_
    | intro _ _ _
    | intro _ _
    | intro _
    | dsimp only
    | dsimp only [id]

theorem endPin_frame {L : List StatePart} {s0 : State} {s : State}
    (hL : ∀ p ∈ [StatePart.err, .out], p ∈ L) (hok : SameBut L s0 s) :
    SameBut L s0 (endPin s) := by
  unfold endPin
  repeat' first
    | with_reducible assumption
    | with_reducible exact .inl rfl
    | exact .inr (hL _ (by decide))
    | (extract_lets +onlyGivenNames x
       first
       | (refine sameStep (L := L) (s0 := s0) (x := x) (fun hx => ?_) ?_; clear_value x; rotate_left; subst x)
       | subst x)
    | with_reducible refine emit_frame (parts_sub (by decide) hL) ?_
    | with_reducible refine modErr_frame (parts_sub (by decide) hL) ?_
    | intro _ _ _
    | intro _ _
    | intro _
    | (simp only [same_lit]; with_reducible refine SameLit.of ?_ ?_ ?_ ?_ ?_ ?_ ?_ ?_ ?_ ?_ ?_ ?_ ?_ ?_ ?_ ?_ ?_ ?_ ?_ ?_ ?_ ?_ ?_ ?_ ?_ ?_ ?_ ?_ ?_ ?_ ?_ ?_ ?_ ?_ ?_ ?_ ?_ ?_ ?_ ?_)
    | exact .inl rfl
    | dsimp only
    | dsimp only [id]

theorem releasePin_frame {L : List StatePart} {s0 : State} {s : State}
    (hL : ∀ p ∈ [StatePart.err, .out], p ∈ L) (hok : SameBut L s0 s) :
    SameBut L s0 (releasePin s) := by
  unfold releasePin
  repeat' first
    | with_reducible assumption
    | with_reducible exact .inl rfl
    | exact .inr (hL _ (by decide))
    | (extract_lets +onlyGivenNames x
       first
       | (refine sameStep (L := L) (s0 := s0) (x := x) (fun hx => ?_) ?_; clear_value x; rotate_left; subst x)
       | subst x)
    | with_reducible refine SameBut.ite ?_ ?_
    | with_reducible refine endPin_frame (parts_sub (by decide) hL) ?_
    | with_reducible refine modErr_frame (parts_sub (by decide) hL) ?_
    | intro _ _ _
    | intro _ _
    | intro _
    | split
    | (simp only [same_lit]; with_reducible refine SameLit.of ?_ ?_ ?_ ?_ ?_ ?_ ?_ ?_ ?_ ?_ ?_ ?_ ?_ ?_ ?_ ?_ ?_ ?_ ?_ ?_ ?_ ?_ ?_ ?_ ?_ ?_ ?_ ?_ ?_ ?_ ?_ ?_ ?_ ?_ ?_ ?_ ?_ ?_ ?_ ?_)
    | exact .inl rfl
    | dsimp only
    | dsimp only [id]

theorem execErrOutRelease_frame {rq : Requester} {s : State} :
    OutBut [StatePart.err, .out] s (execErrOutRelease rq s) := by
  unfold execErrOutRelease
  refine OutBut.of (fun L s0 hL hok => ?_)
  repeat' first
    | with_reducible assumption
    | with_reducible refine requestWrite_frame (parts_sub (by decide) hL) ?_ ?_
    | with_reducible refine releasePin_frame (parts_sub (by decide) hL) ?_
    | intro _ _ _
    | intro _ _
    | intro _
    | dsimp only
    | dsimp only [id]

theorem execErrHoldExpiry_frame {s : State} :
    OutBut [StatePart.err, .out] s (execErrHoldExpiry s) := by
  unfold execErrHoldExpiry
  refine OutBut.of (fun L s0 hL hok => ?_)
  repeat' first
    | with_reducible assumption
    | with_reducible refine SameBut.ite ?_ ?_
    | with_reducible refine endPin_frame (parts_sub (by decide) hL) ?_
    | intro _ _ _
    | intro _ _
    | intro _
    | split
    | dsimp only
    | dsimp only [id]

theorem execErrOutMismatch_frame {s : State} :
    OutBut [StatePart.od, .stored, .counters, .mgmt, .links, .intx, .fnCfg, .int, .capture, .err, .power, .out] s (execErrOutMismatch s) := by
  unfold execErrOutMismatch
  refine OutBut.of (fun L s0 hL hok => ?_)
  repeat' first
    | with_reducible assumption
    | with_reducible exact .inl rfl
    | exact .inr (hL _ (by decide))
    | (extract_lets +onlyGivenNames x
       first
       | (refine sameStep (L := L) (s0 := s0) (x := x) (fun hx => ?_) ?_; clear_value x; rotate_left; subst x)
       | subst x)
    | with_reducible refine SameBut.ite ?_ ?_
    | with_reducible refine raiseError_frame (parts_sub (by decide) hL) ?_
    | with_reducible refine modErr_frame (parts_sub (by decide) hL) ?_
    | intro _ _ _
    | intro _ _
    | intro _
    | split
    | (simp only [same_lit]; with_reducible refine SameLit.of ?_ ?_ ?_ ?_ ?_ ?_ ?_ ?_ ?_ ?_ ?_ ?_ ?_ ?_ ?_ ?_ ?_ ?_ ?_ ?_ ?_ ?_ ?_ ?_ ?_ ?_ ?_ ?_ ?_ ?_ ?_ ?_ ?_ ?_ ?_ ?_ ?_ ?_ ?_ ?_)
    | exact .inl rfl
    | dsimp only
    | dsimp only [id]

theorem execErrOutMismatchEnd_frame {s : State} :
    OutBut [StatePart.err] s (execErrOutMismatchEnd s) := by
  unfold execErrOutMismatchEnd
  refine OutBut.of (fun L s0 hL hok => ?_)
  repeat' first
    | with_reducible assumption
    | with_reducible exact .inl rfl
    | exact .inr (hL _ (by decide))
    | (extract_lets +onlyGivenNames x
       first
       | (refine sameStep (L := L) (s0 := s0) (x := x) (fun hx => ?_) ?_; clear_value x; rotate_left; subst x)
       | subst x)
    | with_reducible refine modErr_frame (parts_sub (by decide) hL) ?_
    | intro _ _ _
    | intro _ _
    | intro _
    | (simp only [same_lit]; with_reducible refine SameLit.of ?_ ?_ ?_ ?_ ?_ ?_ ?_ ?_ ?_ ?_ ?_ ?_ ?_ ?_ ?_ ?_ ?_ ?_ ?_ ?_ ?_ ?_ ?_ ?_ ?_ ?_ ?_ ?_ ?_ ?_ ?_ ?_ ?_ ?_ ?_ ?_ ?_ ?_ ?_ ?_)
    | exact .inl rfl
    | dsimp only
    | dsimp only [id]

theorem clearCounter_frame {L : List StatePart} {s0 : State} {ref : Ref} {s : State}
    (hL : ∀ p ∈ [StatePart.counters, .err], p ∈ L) (hok : SameBut L s0 s) :
    SameBut L s0 (clearCounter ref s) := by
  unfold clearCounter
  repeat' first
    | with_reducible assumption
    | with_reducible exact .inl rfl
    | exact .inr (hL _ (by decide))
    | (extract_lets +onlyGivenNames x
       first
       | (refine sameStep (L := L) (s0 := s0) (x := x) (fun hx => ?_) ?_; clear_value x; rotate_left; subst x)
       | subst x)
    | with_reducible refine SameBut.ite ?_ ?_
    | with_reducible refine clearCount_frame (parts_sub (by decide) hL) ?_
    | with_reducible refine modErr_frame (parts_sub (by decide) hL) ?_
    | intro _ _ _
    | intro _ _
    | intro _
    | split
    | (simp only [same_lit]; with_reducible refine SameLit.of ?_ ?_ ?_ ?_ ?_ ?_ ?_ ?_ ?_ ?_ ?_ ?_ ?_ ?_ ?_ ?_ ?_ ?_ ?_ ?_ ?_ ?_ ?_ ?_ ?_ ?_ ?_ ?_ ?_ ?_ ?_ ?_ ?_ ?_ ?_ ?_ ?_ ?_ ?_ ?_)
    | exact .inl rfl
    | dsimp only
    | dsimp only [id]

theorem execCounterClear_frame {rq : Requester} {ref : Ref} {s : State} :
    OutBut [StatePart.counters, .err, .out] s (execCounterClear rq ref s) := by
  unfold execCounterClear
  refine OutBut.of (fun L s0 hL hok => ?_)
  repeat' first
    | with_reducible assumption
    | with_reducible refine requestWrite_frame (parts_sub (by decide) hL) ?_ ?_
    | with_reducible refine clearCounter_frame (parts_sub (by decide) hL) ?_
    | intro _ _ _
    | intro _ _
    | intro _
    | dsimp only
    | dsimp only [id]

theorem flushRecords_frame {L : List StatePart} {s0 : State} {s : State}
    (hL : ∀ p ∈ [StatePart.counters, .links, .intx, .ats, .fnCfg, .int, .power, .out], p ∈ L) (hok : SameBut L s0 s) :
    SameBut L s0 (flushRecords s) := by
  unfold flushRecords
  repeat' first
    | with_reducible assumption
    | with_reducible refine foldState_frame (fun _ _ _ => ?_) ?_
    | with_reducible refine writeEventRecord_frame (parts_sub (by decide) hL) ?_
    | intro _ _ _
    | intro _ _
    | intro _
    | dsimp only
    | dsimp only [id]

theorem freeDieLines_frame {L : List StatePart} {s0 : State} {s : State}
    (hL : ∀ p ∈ [StatePart.memory, .draws], p ∈ L) (hok : SameBut L s0 s) :
    SameBut L s0 (freeDieLines s) := by
  unfold freeDieLines
  repeat' first
    | with_reducible assumption
    | with_reducible refine SameBut.ite ?_ ?_
    | with_reducible refine foldState_frame (fun _ _ _ => ?_) ?_
    | with_reducible refine freeSpan_frame (parts_sub (by decide) hL) ?_
    | intro _ _ _
    | intro _ _
    | intro _
    | split
    | dsimp only
    | dsimp only [id]

theorem stopEverything_frame {L : List StatePart} {s0 : State} {s : State}
    (hL : ∀ p ∈ [StatePart.memory, .draws, .out], p ∈ L) (hok : SameBut L s0 s) :
    SameBut L s0 (stopEverything s) := by
  unfold stopEverything
  repeat' first
    | with_reducible assumption
    | with_reducible exact .inl rfl
    | exact .inr (hL _ (by decide))
    | (extract_lets +onlyGivenNames x
       first
       | (refine sameStep (L := L) (s0 := s0) (x := x) (fun hx => ?_) ?_; clear_value x; rotate_left; subst x)
       | subst x)
    | with_reducible refine foldState_frame (fun _ _ _ => ?_) ?_
    | with_reducible refine abandonCredit_frame (parts_sub (by decide) hL) ?_
    | with_reducible refine cancelParts_frame (parts_sub (by decide) hL) ?_
    | with_reducible refine freeTransfer_frame (parts_sub (by decide) hL) ?_
    | with_reducible refine SameBut.ofPair ?_ (by with_reducible assumption)
    | intro _ _ _
    | intro _ _
    | intro _
    | split
    | (simp only [same_lit]; with_reducible refine SameLit.of ?_ ?_ ?_ ?_ ?_ ?_ ?_ ?_ ?_ ?_ ?_ ?_ ?_ ?_ ?_ ?_ ?_ ?_ ?_ ?_ ?_ ?_ ?_ ?_ ?_ ?_ ?_ ?_ ?_ ?_ ?_ ?_ ?_ ?_ ?_ ?_ ?_ ?_ ?_ ?_)
    | exact .inl rfl
    | dsimp only
    | dsimp only [id]

theorem freeEveryObject_frame {L : List StatePart} {s0 : State} {s : State}
    (hL : ∀ p ∈ [StatePart.admin, .objs, .slots, .pool], p ∈ L) (hok : SameBut L s0 s) :
    SameBut L s0 (freeEveryObject s) := by
  unfold freeEveryObject
  repeat' first
    | with_reducible assumption
    | with_reducible exact .inl rfl
    | exact .inr (hL _ (by decide))
    | (extract_lets +onlyGivenNames x
       first
       | (refine sameStep (L := L) (s0 := s0) (x := x) (fun hx => ?_) ?_; clear_value x; rotate_left; subst x)
       | subst x)
    | with_reducible refine foldState_frame (fun _ _ _ => ?_) ?_
    | with_reducible refine freeFinish_frame (parts_sub (by decide) hL) ?_
    | intro _ _ _
    | intro _ _
    | intro _
    | (simp only [same_lit]; with_reducible refine SameLit.of ?_ ?_ ?_ ?_ ?_ ?_ ?_ ?_ ?_ ?_ ?_ ?_ ?_ ?_ ?_ ?_ ?_ ?_ ?_ ?_ ?_ ?_ ?_ ?_ ?_ ?_ ?_ ?_ ?_ ?_ ?_ ?_ ?_ ?_ ?_ ?_ ?_ ?_ ?_ ?_)
    | exact .inl rfl
    | dsimp only
    | dsimp only [id]

theorem endWindowRequests_frame {L : List StatePart} {s0 : State} {s : State}
    (hL : ∀ p ∈ [StatePart.fnOther], p ∈ L) (hok : SameBut L s0 s) :
    SameBut L s0 (endWindowRequests s) := by
  unfold endWindowRequests
  repeat' first
    | with_reducible assumption
    | (extract_lets +onlyGivenNames x
       first
       | (refine sameStep (L := L) (s0 := s0) (x := x) (fun hx => ?_) ?_; clear_value x; rotate_left; subst x)
       | (refine sameStep (L := L) (s0 := s0) (x := x.1) (fun hx => ?_) ?_; clear_value x; rotate_left; subst x)
       | subst x)
    | with_reducible refine foldState_frame (fun _ _ _ => ?_) ?_
    | with_reducible refine resultOk_frame (parts_sub (by decide) hL) ?_
    | intro _ _ _
    | intro _ _
    | intro _
    | dsimp only
    | dsimp only [id]

theorem settleEpochs_frame {L : List StatePart} {s0 : State} {s : State}
    (hL : ∀ p ∈ [StatePart.det], p ∈ L) (hok : SameBut L s0 s) :
    SameBut L s0 (settleEpochs s) := by
  unfold settleEpochs
  repeat' first
    | with_reducible assumption
    | with_reducible exact .inl rfl
    | exact .inr (hL _ (by decide))
    | (extract_lets +onlyGivenNames x
       first
       | (refine sameStep (L := L) (s0 := s0) (x := x) (fun hx => ?_) ?_; clear_value x; rotate_left; subst x)
       | subst x)
    | intro _ _ _
    | intro _ _
    | intro _
    | (simp only [same_lit]; with_reducible refine SameLit.of ?_ ?_ ?_ ?_ ?_ ?_ ?_ ?_ ?_ ?_ ?_ ?_ ?_ ?_ ?_ ?_ ?_ ?_ ?_ ?_ ?_ ?_ ?_ ?_ ?_ ?_ ?_ ?_ ?_ ?_ ?_ ?_ ?_ ?_ ?_ ?_ ?_ ?_ ?_ ?_)
    | exact .inl rfl
    | dsimp only
    | dsimp only [id]

theorem wipe_frame {L : List StatePart} {s0 : State} {s : State}
    (hL : ∀ p ∈ [StatePart.od, .stored, .counters, .mgmt, .links, .intx, .requests, .fnCfg, .fnState, .admin, .faultq, .int, .capture, .fnOther, .ctxs, .objs, .slots, .cmds, .engines, .entries, .lookups, .peers, .windows, .coherence, .memory, .pool, .det, .err, .power, .draws, .out], p ∈ L) (hok : SameBut L s0 s) :
    SameBut L s0 (wipe s) := by
  unfold wipe
  repeat' first
    | with_reducible assumption
    | with_reducible exact .inl rfl
    | exact .inr (hL _ (by decide))
    | (extract_lets +onlyGivenNames x
       first
       | (refine sameStep (L := L) (s0 := s0) (x := x) (fun hx => ?_) ?_; clear_value x; rotate_left; subst x)
       | (refine sameStep (L := L) (s0 := s0) (x := x.1) (fun hx => ?_) ?_; clear_value x; rotate_left; subst x)
       | subst x)
    | with_reducible refine dropAllLeases_frame (parts_sub (by decide) hL) ?_
    | with_reducible refine freeEveryObject_frame (parts_sub (by decide) hL) ?_
    | with_reducible refine stopEverything_frame (parts_sub (by decide) hL) ?_
    | with_reducible refine freeDieLines_frame (parts_sub (by decide) hL) ?_
    | with_reducible refine endWindowRequests_frame (parts_sub (by decide) hL) ?_
    | with_reducible refine foldState_frame (fun _ _ _ => ?_) ?_
    | with_reducible refine quarantine_frame (parts_sub (by decide) hL) ?_
    | with_reducible refine settleIntx_frame (parts_sub (by decide) hL) ?_
    | with_reducible refine serveInboxes_frame (parts_sub (by decide) hL) ?_
    | with_reducible refine serveStalled_frame (parts_sub (by decide) hL) ?_
    | with_reducible refine settleEpochs_frame (parts_sub (by decide) hL) ?_
    | intro _ _ _
    | intro _ _
    | intro _
    | (simp only [same_lit]; with_reducible refine SameLit.of ?_ ?_ ?_ ?_ ?_ ?_ ?_ ?_ ?_ ?_ ?_ ?_ ?_ ?_ ?_ ?_ ?_ ?_ ?_ ?_ ?_ ?_ ?_ ?_ ?_ ?_ ?_ ?_ ?_ ?_ ?_ ?_ ?_ ?_ ?_ ?_ ?_ ?_ ?_ ?_)
    | exact .inl rfl
    | (left; simp only [List.map_map]; rfl)
    | (left; exact map_view (fun x => by unfold readied; split <;> rfl) _)
    | (left; exact map_view (fun x => by unfold unready; split <;> rfl) _)
    | dsimp only
    | dsimp only [id]

theorem endStep_frame {L : List StatePart} {s0 : State} {s : State}
    (hL : ∀ p ∈ [StatePart.boot], p ∈ L) (hok : SameBut L s0 s) :
    SameBut L s0 (endStep s) := by
  unfold endStep
  repeat' first
    | with_reducible assumption
    | with_reducible exact .inl rfl
    | exact .inr (hL _ (by decide))
    | (extract_lets +onlyGivenNames x
       first
       | (refine sameStep (L := L) (s0 := s0) (x := x) (fun hx => ?_) ?_; clear_value x; rotate_left; subst x)
       | subst x)
    | with_reducible refine SameBut.ite ?_ ?_
    | intro _ _ _
    | intro _ _
    | intro _
    | split
    | (simp only [same_lit]; with_reducible refine SameLit.of ?_ ?_ ?_ ?_ ?_ ?_ ?_ ?_ ?_ ?_ ?_ ?_ ?_ ?_ ?_ ?_ ?_ ?_ ?_ ?_ ?_ ?_ ?_ ?_ ?_ ?_ ?_ ?_ ?_ ?_ ?_ ?_ ?_ ?_ ?_ ?_ ?_ ?_ ?_ ?_)
    | exact .inl rfl
    | dsimp only
    | dsimp only [id]

theorem startBlockReset_frame {L : List StatePart} {s0 : State} {s : State}
    (hL : ∀ p ∈ [StatePart.od, .stored, .counters, .mgmt, .links, .intx, .requests, .ats, .fnCfg, .fnState, .admin, .faultq, .int, .capture, .fnOther, .ctxs, .objs, .slots, .cmds, .engines, .entries, .lookups, .peers, .windows, .coherence, .memory, .pool, .det, .err, .power, .boot, .draws, .out], p ∈ L) (hok : SameBut L s0 s) :
    SameBut L s0 (startBlockReset s) := by
  unfold startBlockReset
  repeat' first
    | with_reducible assumption
    | with_reducible exact .inl rfl
    | exact .inr (hL _ (by decide))
    | (extract_lets +onlyGivenNames x
       first
       | (refine sameStep (L := L) (s0 := s0) (x := x) (fun hx => ?_) ?_; clear_value x; rotate_left; subst x)
       | subst x)
    | with_reducible refine flushRecords_frame (parts_sub (by decide) hL) ?_
    | with_reducible refine wipe_frame (parts_sub (by decide) hL) ?_
    | with_reducible refine endStep_frame (parts_sub (by decide) hL) ?_
    | with_reducible refine modErr_frame (parts_sub (by decide) hL) ?_
    | intro _ _ _
    | intro _ _
    | intro _
    | (simp only [same_lit]; with_reducible refine SameLit.of ?_ ?_ ?_ ?_ ?_ ?_ ?_ ?_ ?_ ?_ ?_ ?_ ?_ ?_ ?_ ?_ ?_ ?_ ?_ ?_ ?_ ?_ ?_ ?_ ?_ ?_ ?_ ?_ ?_ ?_ ?_ ?_ ?_ ?_ ?_ ?_ ?_ ?_ ?_ ?_)
    | exact .inl rfl
    | dsimp only
    | dsimp only [id]

theorem execBlockReset_frame {w : Option Requester} {s : State} :
    OutBut [StatePart.od, .stored, .counters, .mgmt, .links, .intx, .requests, .ats, .fnCfg, .fnState, .admin, .faultq, .int, .capture, .fnOther, .ctxs, .objs, .slots, .cmds, .engines, .entries, .lookups, .peers, .windows, .coherence, .memory, .pool, .det, .err, .power, .boot, .draws, .out] s (execBlockReset w s) := by
  unfold execBlockReset
  refine OutBut.of (fun L s0 hL hok => ?_)
  repeat' first
    | with_reducible assumption
    | with_reducible exact .inl rfl
    | exact .inr (hL _ (by decide))
    | (extract_lets +onlyGivenNames x
       first
       | (refine sameStep (L := L) (s0 := s0) (x := x) (fun hx => ?_) ?_; clear_value x; rotate_left; subst x)
       | subst x)
    | with_reducible refine SameBut.ite ?_ ?_
    | with_reducible refine requestWrite_frame (parts_sub (by decide) hL) ?_ ?_
    | with_reducible refine startBlockReset_frame (parts_sub (by decide) hL) ?_
    | with_reducible refine SameBut.ofPair ?_ (by with_reducible assumption)
    | intro _ _ _
    | intro _ _
    | intro _
    | split
    | (simp only [same_lit]; with_reducible refine SameLit.of ?_ ?_ ?_ ?_ ?_ ?_ ?_ ?_ ?_ ?_ ?_ ?_ ?_ ?_ ?_ ?_ ?_ ?_ ?_ ?_ ?_ ?_ ?_ ?_ ?_ ?_ ?_ ?_ ?_ ?_ ?_ ?_ ?_ ?_ ?_ ?_ ?_ ?_ ?_ ?_)
    | exact .inl rfl
    | dsimp only
    | dsimp only [id]

theorem restartCore_frame {L : List StatePart} {s0 : State} {s : State}
    (hL : ∀ p ∈ [StatePart.sec, .boot], p ∈ L) (hok : SameBut L s0 s) :
    SameBut L s0 (restartCore s) := by
  unfold restartCore
  repeat' first
    | with_reducible assumption
    | with_reducible exact .inl rfl
    | exact .inr (hL _ (by decide))
    | (extract_lets +onlyGivenNames x
       first
       | (refine sameStep (L := L) (s0 := s0) (x := x) (fun hx => ?_) ?_; clear_value x; rotate_left; subst x)
       | subst x)
    | intro _ _ _
    | intro _ _
    | intro _
    | (simp only [same_lit]; with_reducible refine SameLit.of ?_ ?_ ?_ ?_ ?_ ?_ ?_ ?_ ?_ ?_ ?_ ?_ ?_ ?_ ?_ ?_ ?_ ?_ ?_ ?_ ?_ ?_ ?_ ?_ ?_ ?_ ?_ ?_ ?_ ?_ ?_ ?_ ?_ ?_ ?_ ?_ ?_ ?_ ?_ ?_)
    | exact .inl rfl
    | dsimp only
    | dsimp only [id]

theorem trainPort0_frame {L : List StatePart} {s0 : State} {s : State}
    (hL : ∀ p ∈ [StatePart.links, .intx, .ats, .port0, .sec, .boot, .draws, .out], p ∈ L) (hok : SameBut L s0 s) :
    SameBut L s0 (trainPort0 s) := by
  unfold trainPort0
  repeat' first
    | with_reducible assumption
    | with_reducible refine SameBut.ite ?_ ?_
    | with_reducible refine awaitFallback_frame (parts_sub (by decide) hL) ?_
    | with_reducible refine dropLink_frame (parts_sub (by decide) hL) ?_
    | with_reducible refine emit_frame (parts_sub (by decide) hL) ?_
    | with_reducible refine linkNonceOut_frame (parts_sub (by decide) hL) ?_
    | intro _ _ _
    | intro _ _
    | intro _
    | split
    | dsimp only
    | dsimp only [id]

theorem endBlockReset_frame {L : List StatePart} {s0 : State} {badPairs : List Src} {s : State}
    (hL : ∀ p ∈ [StatePart.od, .stored, .counters, .mgmt, .links, .intx, .requests, .ats, .port0, .fnCfg, .fnState, .admin, .faultq, .int, .capture, .fnOther, .ctxs, .objs, .slots, .cmds, .engines, .entries, .lookups, .peers, .windows, .coherence, .memory, .pool, .det, .idle, .err, .sec, .power, .boot, .draws, .out], p ∈ L) (hok : SameBut L s0 s) :
    SameBut L s0 (endBlockReset badPairs s) := by
  unfold endBlockReset
  repeat' first
    | with_reducible assumption
    | with_reducible exact .inl rfl
    | exact .inr (hL _ (by decide))
    | (extract_lets +onlyGivenNames x
       first
       | (refine sameStep (L := L) (s0 := s0) (x := x) (fun hx => ?_) ?_; clear_value x; rotate_left; subst x)
       | subst x)
    | with_reducible refine SameBut.ite ?_ ?_
    | with_reducible refine wipe_frame (parts_sub (by decide) hL) ?_
    | with_reducible refine endStep_frame (parts_sub (by decide) hL) ?_
    | with_reducible refine restartCore_frame (parts_sub (by decide) hL) ?_
    | with_reducible refine trainPort0_frame (parts_sub (by decide) hL) ?_
    | with_reducible refine modErr_frame (parts_sub (by decide) hL) ?_
    | intro _ _ _
    | intro _ _
    | intro _
    | split
    | (simp only [same_lit]; with_reducible refine SameLit.of ?_ ?_ ?_ ?_ ?_ ?_ ?_ ?_ ?_ ?_ ?_ ?_ ?_ ?_ ?_ ?_ ?_ ?_ ?_ ?_ ?_ ?_ ?_ ?_ ?_ ?_ ?_ ?_ ?_ ?_ ?_ ?_ ?_ ?_ ?_ ?_ ?_ ?_ ?_ ?_)
    | exact .inl rfl
    | (left; simp only [List.map_map]; rfl)
    | (left; exact map_view (fun x => by unfold readied; split <;> rfl) _)
    | (left; exact map_view (fun x => by unfold unready; split <;> rfl) _)
    | dsimp only
    | dsimp only [id]

theorem execBlockResetDone_frame {badPairs : List Src} {s : State} :
    OutBut [StatePart.od, .stored, .counters, .mgmt, .links, .intx, .requests, .ats, .port0, .fnCfg, .fnState, .admin, .faultq, .int, .capture, .fnOther, .ctxs, .objs, .slots, .cmds, .engines, .entries, .lookups, .peers, .windows, .coherence, .memory, .pool, .det, .idle, .err, .sec, .power, .boot, .draws, .out] s (execBlockResetDone badPairs s) := by
  unfold execBlockResetDone
  refine OutBut.of (fun L s0 hL hok => ?_)
  repeat' first
    | with_reducible assumption
    | with_reducible refine SameBut.ite ?_ ?_
    | with_reducible refine endBlockReset_frame (parts_sub (by decide) hL) ?_
    | intro _ _ _
    | intro _ _
    | intro _
    | split
    | dsimp only
    | dsimp only [id]


/-! ### Machine/Net.lean -/

theorem modMgmt_frame {L : List StatePart} {s0 : State} {f : MgmtSt → MgmtSt} {s : State}
    (hL : ∀ p ∈ [StatePart.mgmt], p ∈ L) (hok : SameBut L s0 s) :
    SameBut L s0 (modMgmt f s) := by
  unfold modMgmt
  repeat' first
    | with_reducible assumption
    | with_reducible exact .inl rfl
    | exact .inr (hL _ (by decide))
    | (extract_lets +onlyGivenNames x
       first
       | (refine sameStep (L := L) (s0 := s0) (x := x) (fun hx => ?_) ?_; clear_value x; rotate_left; subst x)
       | subst x)
    | intro _ _ _
    | intro _ _
    | intro _
    | (simp only [same_lit]; with_reducible refine SameLit.of ?_ ?_ ?_ ?_ ?_ ?_ ?_ ?_ ?_ ?_ ?_ ?_ ?_ ?_ ?_ ?_ ?_ ?_ ?_ ?_ ?_ ?_ ?_ ?_ ?_ ?_ ?_ ?_ ?_ ?_ ?_ ?_ ?_ ?_ ?_ ?_ ?_ ?_ ?_ ?_)
    | exact .inl rfl
    | dsimp only
    | dsimp only [id]

theorem sendNet_frame {L : List StatePart} {s0 : State} {dst : NetAddr} {m : Msg} {s : State}
    (hL : ∀ p ∈ [StatePart.mgmt, .out], p ∈ L) (hok : SameBut L s0 s) :
    SameBut L s0 (sendNet dst m s) := by
  unfold sendNet
  repeat' first
    | with_reducible assumption
    | with_reducible exact .inl rfl
    | exact .inr (hL _ (by decide))
    | (extract_lets +onlyGivenNames x
       first
       | (refine sameStep (L := L) (s0 := s0) (x := x) (fun hx => ?_) ?_; clear_value x; rotate_left; subst x)
       | (refine sameStep (L := L) (s0 := s0) (x := x.1) (fun hx => ?_) ?_; clear_value x; rotate_left; subst x)
       | subst x)
    | with_reducible refine SameBut.ite ?_ ?_
    | with_reducible refine emit_frame (parts_sub (by decide) hL) ?_
    | with_reducible refine modMgmt_frame (parts_sub (by decide) hL) ?_
    | with_reducible refine SameBut.ofPair ?_ (by with_reducible assumption)
    | intro _ _ _
    | intro _ _
    | intro _
    | split
    | (simp only [same_lit]; with_reducible refine SameLit.of ?_ ?_ ?_ ?_ ?_ ?_ ?_ ?_ ?_ ?_ ?_ ?_ ?_ ?_ ?_ ?_ ?_ ?_ ?_ ?_ ?_ ?_ ?_ ?_ ?_ ?_ ?_ ?_ ?_ ?_ ?_ ?_ ?_ ?_ ?_ ?_ ?_ ?_ ?_ ?_)
    | exact .inl rfl
    | dsimp only
    | dsimp only [id]

theorem execMgmtLinkChange_frame {up : Bool} {s : State} :
    OutBut [StatePart.mgmt] s (execMgmtLinkChange up s) := by
  unfold execMgmtLinkChange
  refine OutBut.of (fun L s0 hL hok => ?_)
  repeat' first
    | with_reducible assumption
    | with_reducible exact .inl rfl
    | exact .inr (hL _ (by decide))
    | (extract_lets +onlyGivenNames x
       first
       | (refine sameStep (L := L) (s0 := s0) (x := x) (fun hx => ?_) ?_; clear_value x; rotate_left; subst x)
       | subst x)
    | with_reducible refine modMgmt_frame (parts_sub (by decide) hL) ?_
    | intro _ _ _
    | intro _ _
    | intro _
    | (simp only [same_lit]; with_reducible refine SameLit.of ?_ ?_ ?_ ?_ ?_ ?_ ?_ ?_ ?_ ?_ ?_ ?_ ?_ ?_ ?_ ?_ ?_ ?_ ?_ ?_ ?_ ?_ ?_ ?_ ?_ ?_ ?_ ?_ ?_ ?_ ?_ ?_ ?_ ?_ ?_ ?_ ?_ ?_ ?_ ?_)
    | exact .inl rfl
    | dsimp only
    | dsimp only [id]

theorem execNeighborSolicitation_frame {src : NetAddr} {target : Bytes} {s : State} :
    OutBut [StatePart.out] s (execNeighborSolicitation src target s) := by
  unfold execNeighborSolicitation
  refine OutBut.of (fun L s0 hL hok => ?_)
  repeat' first
    | with_reducible assumption
    | with_reducible refine SameBut.ite ?_ ?_
    | with_reducible refine emit_frame (parts_sub (by decide) hL) ?_
    | intro _ _ _
    | intro _ _
    | intro _
    | split
    | dsimp only
    | dsimp only [id]

theorem learnNeighbour_frame {L : List StatePart} {s0 : State} {a : Bytes} {mac : U64} {s : State}
    (hL : ∀ p ∈ [StatePart.mgmt, .out], p ∈ L) (hok : SameBut L s0 s) :
    SameBut L s0 (learnNeighbour a mac s) := by
  unfold learnNeighbour
  repeat' first
    | with_reducible assumption
    | with_reducible exact .inl rfl
    | exact .inr (hL _ (by decide))
    | (extract_lets +onlyGivenNames x
       first
       | (refine sameStep (L := L) (s0 := s0) (x := x) (fun hx => ?_) ?_; clear_value x; rotate_left; subst x)
       | (refine sameStep (L := L) (s0 := s0) (x := x.1) (fun hx => ?_) ?_; clear_value x; rotate_left; subst x)
       | subst x)
    | with_reducible refine modMgmt_frame (parts_sub (by decide) hL) ?_
    | with_reducible refine foldState_frame (fun _ _ _ => ?_) ?_
    | with_reducible refine emit_frame (parts_sub (by decide) hL) ?_
    | intro _ _ _
    | intro _ _
    | intro _
    | (simp only [same_lit]; with_reducible refine SameLit.of ?_ ?_ ?_ ?_ ?_ ?_ ?_ ?_ ?_ ?_ ?_ ?_ ?_ ?_ ?_ ?_ ?_ ?_ ?_ ?_ ?_ ?_ ?_ ?_ ?_ ?_ ?_ ?_ ?_ ?_ ?_ ?_ ?_ ?_ ?_ ?_ ?_ ?_ ?_ ?_)
    | exact .inl rfl
    | dsimp only
    | dsimp only [id]

theorem execNeighborAdvertisement_frame {src : NetAddr} {a : NeighborAdv} {s : State} :
    OutBut [StatePart.mgmt, .out] s (execNeighborAdvertisement src a s) := by
  unfold execNeighborAdvertisement
  refine OutBut.of (fun L s0 hL hok => ?_)
  repeat' first
    | with_reducible assumption
    | with_reducible refine SameBut.ite ?_ ?_
    | with_reducible refine learnNeighbour_frame (parts_sub (by decide) hL) ?_
    | intro _ _ _
    | intro _ _
    | intro _
    | split
    | dsimp only
    | dsimp only [id]

theorem execEchoRequest_frame {src : NetAddr} {payload : Bytes} {s : State} :
    OutBut [StatePart.mgmt, .out] s (execEchoRequest src payload s) := by
  unfold execEchoRequest
  refine OutBut.of (fun L s0 hL hok => ?_)
  repeat' first
    | with_reducible assumption
    | with_reducible refine SameBut.ite ?_ ?_
    | with_reducible refine sendNet_frame (parts_sub (by decide) hL) ?_
    | intro _ _ _
    | intro _ _
    | intro _
    | split
    | dsimp only
    | dsimp only [id]


/-! ### Machine/Security.lean -/

theorem sendSpdm_frame {L : List StatePart} {s0 : State} {c : SpdmConn} {seq : U32} {m : Bytes} {s : State}
    (hL : ∀ p ∈ [StatePart.mgmt, .out], p ∈ L) (hok : SameBut L s0 s) :
    SameBut L s0 (sendSpdm c seq m s) := by
  unfold sendSpdm
  repeat' first
    | with_reducible assumption
    | with_reducible exact .inl rfl
    | exact .inr (hL _ (by decide))
    | (extract_lets +onlyGivenNames x
       first
       | (refine sameStep (L := L) (s0 := s0) (x := x) (fun hx => ?_) ?_; clear_value x; rotate_left; subst x)
       | subst x)
    | with_reducible refine sendNet_frame (parts_sub (by decide) hL) ?_
    | with_reducible refine emit_frame (parts_sub (by decide) hL) ?_
    | with_reducible refine SameBut.ofPair ?_ (by with_reducible assumption)
    | intro _ _ _
    | intro _ _
    | intro _
    | split
    | (simp only [same_lit]; with_reducible refine SameLit.of ?_ ?_ ?_ ?_ ?_ ?_ ?_ ?_ ?_ ?_ ?_ ?_ ?_ ?_ ?_ ?_ ?_ ?_ ?_ ?_ ?_ ?_ ?_ ?_ ?_ ?_ ?_ ?_ ?_ ?_ ?_ ?_ ?_ ?_ ?_ ?_ ?_ ?_ ?_ ?_)
    | exact .inl rfl
    | dsimp only
    | dsimp only [id]

theorem putConn_frame {L : List StatePart} {s0 : State} {x : SpdmSt} {s : State}
    (hL : ∀ p ∈ [StatePart.sec], p ∈ L) (hok : SameBut L s0 s) :
    SameBut L s0 (putConn x s) := by
  unfold putConn
  repeat' first
    | with_reducible assumption
    | with_reducible exact .inl rfl
    | exact .inr (hL _ (by decide))
    | (extract_lets +onlyGivenNames x
       first
       | (refine sameStep (L := L) (s0 := s0) (x := x) (fun hx => ?_) ?_; clear_value x; rotate_left; subst x)
       | subst x)
    | with_reducible refine modSec_frame (parts_sub (by decide) hL) ?_
    | intro _ _ _
    | intro _ _
    | intro _
    | (simp only [same_lit]; with_reducible refine SameLit.of ?_ ?_ ?_ ?_ ?_ ?_ ?_ ?_ ?_ ?_ ?_ ?_ ?_ ?_ ?_ ?_ ?_ ?_ ?_ ?_ ?_ ?_ ?_ ?_ ?_ ?_ ?_ ?_ ?_ ?_ ?_ ?_ ?_ ?_ ?_ ?_ ?_ ?_ ?_ ?_)
    | exact .inl rfl
    | dsimp only
    | dsimp only [id]

theorem drawBytes_frame {L : List StatePart} {s0 : State} {n : Nat} {s : State}
    (hL : ∀ p ∈ [StatePart.sec, .draws], p ∈ L) (hok : SameBut L s0 s) :
    SameBut L s0 (drawBytes n s).1 := by
  unfold drawBytes
  repeat' first
    | with_reducible assumption
    | with_reducible exact .inl rfl
    | exact .inr (hL _ (by decide))
    | (extract_lets +onlyGivenNames x
       first
       | (refine sameStep (L := L) (s0 := s0) (x := x) (fun hx => ?_) ?_; clear_value x; rotate_left; subst x)
       | subst x)
    | with_reducible refine draw_frame (parts_sub (by decide) hL) ?_
    | intro _ _ _
    | intro _ _
    | intro _
    | (simp only [same_lit]; with_reducible refine SameLit.of ?_ ?_ ?_ ?_ ?_ ?_ ?_ ?_ ?_ ?_ ?_ ?_ ?_ ?_ ?_ ?_ ?_ ?_ ?_ ?_ ?_ ?_ ?_ ?_ ?_ ?_ ?_ ?_ ?_ ?_ ?_ ?_ ?_ ?_ ?_ ?_ ?_ ?_ ?_ ?_)
    | exact .inl rfl
    | dsimp only
    | dsimp only [id]

theorem signWith_frame {L : List StatePart} {s0 : State} {t : Bytes} {s : State}
    (hL : ∀ p ∈ [StatePart.draws], p ∈ L) (hok : SameBut L s0 s) :
    SameBut L s0 (signWith t s).1 := by
  unfold signWith
  repeat' first
    | with_reducible assumption
    | with_reducible refine draw_frame (parts_sub (by decide) hL) ?_
    | intro _ _ _
    | intro _ _
    | intro _
    | dsimp only
    | dsimp only [id]

theorem challengeAuth_frame {L : List StatePart} {s0 : State} {x : SpdmSt} {req : Bytes} {s : State}
    (hL : ∀ p ∈ [StatePart.sec, .draws], p ∈ L) (hok : SameBut L s0 s) :
    SameBut L s0 (challengeAuth x req s).1 := by
  unfold challengeAuth
  repeat' first
    | with_reducible assumption
    | with_reducible exact .inl rfl
    | exact .inr (hL _ (by decide))
    | (extract_lets +onlyGivenNames x
       first
       | (refine sameStep (L := L) (s0 := s0) (x := x) (fun hx => ?_) ?_; clear_value x; rotate_left; subst x)
       | subst x)
    | with_reducible refine drawBytes_frame (parts_sub (by decide) hL) ?_
    | with_reducible refine signWith_frame (parts_sub (by decide) hL) ?_
    | with_reducible refine putConn_frame (parts_sub (by decide) hL) ?_
    | with_reducible refine SameBut.ofPair ?_ (by with_reducible assumption)
    | intro _ _ _
    | intro _ _
    | intro _
    | split
    | (simp only [same_lit]; with_reducible refine SameLit.of ?_ ?_ ?_ ?_ ?_ ?_ ?_ ?_ ?_ ?_ ?_ ?_ ?_ ?_ ?_ ?_ ?_ ?_ ?_ ?_ ?_ ?_ ?_ ?_ ?_ ?_ ?_ ?_ ?_ ?_ ?_ ?_ ?_ ?_ ?_ ?_ ?_ ?_ ?_ ?_)
    | exact .inl rfl
    | dsimp only
    | dsimp only [id]

theorem measurementsFor_frame {L : List StatePart} {s0 : State} {x : SpdmSt} {req : Bytes} {s : State}
    (hL : ∀ p ∈ [StatePart.sec, .draws], p ∈ L) (hok : SameBut L s0 s) :
    SameBut L s0 (measurementsFor x req s).1 := by
  unfold measurementsFor
  repeat' first
    | with_reducible assumption
    | with_reducible exact .inl rfl
    | exact .inr (hL _ (by decide))
    | (extract_lets +onlyGivenNames x
       first
       | (refine sameStep (L := L) (s0 := s0) (x := x) (fun hx => ?_) ?_; clear_value x; rotate_left; subst x)
       | (refine sameStep (L := L) (s0 := s0) (x := x.1) (fun hx => ?_) ?_; clear_value x; rotate_left; subst x)
       | subst x)
    | with_reducible refine SameBut.ite ?_ ?_
    | with_reducible refine drawBytes_frame (parts_sub (by decide) hL) ?_
    | with_reducible refine signWith_frame (parts_sub (by decide) hL) ?_
    | with_reducible refine putConn_frame (parts_sub (by decide) hL) ?_
    | with_reducible refine SameBut.ofPair ?_ (by with_reducible assumption)
    | intro _ _ _
    | intro _ _
    | intro _
    | split
    | (simp only [same_lit]; with_reducible refine SameLit.of ?_ ?_ ?_ ?_ ?_ ?_ ?_ ?_ ?_ ?_ ?_ ?_ ?_ ?_ ?_ ?_ ?_ ?_ ?_ ?_ ?_ ?_ ?_ ?_ ?_ ?_ ?_ ?_ ?_ ?_ ?_ ?_ ?_ ?_ ?_ ?_ ?_ ?_ ?_ ?_)
    | exact .inl rfl
    | dsimp only
    | dsimp only [id]

theorem spdmResponse_frame {L : List StatePart} {s0 : State} {x : SpdmSt} {req : Bytes} {s : State}
    (hL : ∀ p ∈ [StatePart.sec, .draws], p ∈ L) (hok : SameBut L s0 s) :
    SameBut L s0 (spdmResponse x req s).1 := by
  unfold spdmResponse
  repeat' first
    | with_reducible assumption
    | with_reducible exact .inl rfl
    | exact .inr (hL _ (by decide))
    | (extract_lets +onlyGivenNames x
       first
       | (refine sameStep (L := L) (s0 := s0) (x := x) (fun hx => ?_) ?_; clear_value x; rotate_left; subst x)
       | subst x)
    | with_reducible refine SameBut.ite ?_ ?_
    | with_reducible refine putConn_frame (parts_sub (by decide) hL) ?_
    | with_reducible refine challengeAuth_frame (parts_sub (by decide) hL) ?_
    | with_reducible refine measurementsFor_frame (parts_sub (by decide) hL) ?_
    | with_reducible refine SameBut.ofPair ?_ (by with_reducible assumption)
    | intro _ _ _
    | intro _ _
    | intro _
    | split
    | (simp only [same_lit]; with_reducible refine SameLit.of ?_ ?_ ?_ ?_ ?_ ?_ ?_ ?_ ?_ ?_ ?_ ?_ ?_ ?_ ?_ ?_ ?_ ?_ ?_ ?_ ?_ ?_ ?_ ?_ ?_ ?_ ?_ ?_ ?_ ?_ ?_ ?_ ?_ ?_ ?_ ?_ ?_ ?_ ?_ ?_)
    | exact .inl rfl
    | dsimp only
    | dsimp only [id]

theorem spdmAnswer_frame {L : List StatePart} {s0 : State} {x : SpdmSt} {req : Bytes} {s : State}
    (hL : ∀ p ∈ [StatePart.sec, .draws], p ∈ L) (hok : SameBut L s0 s) :
    SameBut L s0 (spdmAnswer x req s).1 := by
  unfold spdmAnswer
  repeat' first
    | with_reducible assumption
    | with_reducible exact .inl rfl
    | exact .inr (hL _ (by decide))
    | (extract_lets +onlyGivenNames x
       first
       | (refine sameStep (L := L) (s0 := s0) (x := x) (fun hx => ?_) ?_; clear_value x; rotate_left; subst x)
       | subst x)
    | with_reducible refine spdmResponse_frame (parts_sub (by decide) hL) ?_
    | with_reducible refine SameBut.ofPair ?_ (by with_reducible assumption)
    | intro _ _ _
    | intro _ _
    | intro _
    | split
    | (simp only [same_lit]; with_reducible refine SameLit.of ?_ ?_ ?_ ?_ ?_ ?_ ?_ ?_ ?_ ?_ ?_ ?_ ?_ ?_ ?_ ?_ ?_ ?_ ?_ ?_ ?_ ?_ ?_ ?_ ?_ ?_ ?_ ?_ ?_ ?_ ?_ ?_ ?_ ?_ ?_ ?_ ?_ ?_ ?_ ?_)
    | exact .inl rfl
    | dsimp only
    | dsimp only [id]

theorem deliverSpdm_frame {L : List StatePart} {s0 : State} {c : SpdmConn} {seq : U32} {m : Bytes} {s : State}
    (hL : ∀ p ∈ [StatePart.mgmt, .sec, .out], p ∈ L) (hok : SameBut L s0 s) :
    SameBut L s0 (deliverSpdm c seq m s) := by
  unfold deliverSpdm
  repeat' first
    | with_reducible assumption
    | with_reducible exact .inl rfl
    | exact .inr (hL _ (by decide))
    | (extract_lets +onlyGivenNames x
       first
       | (refine sameStep (L := L) (s0 := s0) (x := x) (fun hx => ?_) ?_; clear_value x; rotate_left; subst x)
       | subst x)
    | with_reducible refine SameBut.ite ?_ ?_
    | with_reducible refine sendSpdm_frame (parts_sub (by decide) hL) ?_
    | with_reducible refine putConn_frame (parts_sub (by decide) hL) ?_
    | with_reducible refine SameBut.ofPair ?_ (by with_reducible assumption)
    | intro _ _ _
    | intro _ _
    | intro _
    | split
    | (simp only [same_lit]; with_reducible refine SameLit.of ?_ ?_ ?_ ?_ ?_ ?_ ?_ ?_ ?_ ?_ ?_ ?_ ?_ ?_ ?_ ?_ ?_ ?_ ?_ ?_ ?_ ?_ ?_ ?_ ?_ ?_ ?_ ?_ ?_ ?_ ?_ ?_ ?_ ?_ ?_ ?_ ?_ ?_ ?_ ?_)
    | exact .inl rfl
    | dsimp only
    | dsimp only [id]

theorem chunkSend_frame {L : List StatePart} {s0 : State} {x : SpdmSt} {seq : U32} {req : Bytes} {s : State}
    (hL : ∀ p ∈ [StatePart.mgmt, .sec, .draws, .out], p ∈ L) (hok : SameBut L s0 s) :
    SameBut L s0 (chunkSend x seq req s) := by
  unfold chunkSend
  repeat' first
    | with_reducible assumption
    | with_reducible exact .inl rfl
    | exact .inr (hL _ (by decide))
    | (extract_lets +onlyGivenNames x
       first
       | (refine sameStep (L := L) (s0 := s0) (x := x) (fun hx => ?_) ?_; clear_value x; rotate_left; subst x)
       | (refine sameStep (L := L) (s0 := s0) (x := x.1) (fun hx => ?_) ?_; clear_value x; rotate_left; subst x)
       | subst x)
    | with_reducible refine SameBut.ite ?_ ?_
    | with_reducible refine sendSpdm_frame (parts_sub (by decide) hL) ?_
    | with_reducible refine putConn_frame (parts_sub (by decide) hL) ?_
    | with_reducible refine spdmAnswer_frame (parts_sub (by decide) hL) ?_
    | with_reducible refine deliverSpdm_frame (parts_sub (by decide) hL) ?_
    | intro _ _ _
    | intro _ _
    | intro _
    | split
    | (simp only [same_lit]; with_reducible refine SameLit.of ?_ ?_ ?_ ?_ ?_ ?_ ?_ ?_ ?_ ?_ ?_ ?_ ?_ ?_ ?_ ?_ ?_ ?_ ?_ ?_ ?_ ?_ ?_ ?_ ?_ ?_ ?_ ?_ ?_ ?_ ?_ ?_ ?_ ?_ ?_ ?_ ?_ ?_ ?_ ?_)
    | exact .inl rfl
    | dsimp only
    | dsimp only [id]

theorem chunkGet_frame {L : List StatePart} {s0 : State} {x : SpdmSt} {seq : U32} {req : Bytes} {s : State}
    (hL : ∀ p ∈ [StatePart.mgmt, .sec, .out], p ∈ L) (hok : SameBut L s0 s) :
    SameBut L s0 (chunkGet x seq req s) := by
  unfold chunkGet
  repeat' first
    | with_reducible assumption
    | with_reducible exact .inl rfl
    | exact .inr (hL _ (by decide))
    | (extract_lets +onlyGivenNames x
       first
       | (refine sameStep (L := L) (s0 := s0) (x := x) (fun hx => ?_) ?_; clear_value x; rotate_left; subst x)
       | subst x)
    | with_reducible refine SameBut.ite ?_ ?_
    | with_reducible refine sendSpdm_frame (parts_sub (by decide) hL) ?_
    | with_reducible refine putConn_frame (parts_sub (by decide) hL) ?_
    | with_reducible refine SameBut.ofPair ?_ (by with_reducible assumption)
    | intro _ _ _
    | intro _ _
    | intro _
    | split
    | (simp only [same_lit]; with_reducible refine SameLit.of ?_ ?_ ?_ ?_ ?_ ?_ ?_ ?_ ?_ ?_ ?_ ?_ ?_ ?_ ?_ ?_ ?_ ?_ ?_ ?_ ?_ ?_ ?_ ?_ ?_ ?_ ?_ ?_ ?_ ?_ ?_ ?_ ?_ ?_ ?_ ?_ ?_ ?_ ?_ ?_)
    | exact .inl rfl
    | dsimp only
    | dsimp only [id]

theorem openConn_frame {L : List StatePart} {s0 : State} {c : SpdmConn} {seq : U32} {req : Bytes} {s : State}
    (hL : ∀ p ∈ [StatePart.mgmt, .sec, .out], p ∈ L) (hok : SameBut L s0 s) :
    SameBut L s0 (openConn c seq req s) := by
  unfold openConn
  repeat' first
    | with_reducible assumption
    | with_reducible exact .inl rfl
    | exact .inr (hL _ (by decide))
    | (extract_lets +onlyGivenNames x
       first
       | (refine sameStep (L := L) (s0 := s0) (x := x) (fun hx => ?_) ?_; clear_value x; rotate_left; subst x)
       | subst x)
    | with_reducible refine SameBut.ite ?_ ?_
    | with_reducible refine modSec_frame (parts_sub (by decide) hL) ?_
    | with_reducible refine sendSpdm_frame (parts_sub (by decide) hL) ?_
    | with_reducible refine putConn_frame (parts_sub (by decide) hL) ?_
    | with_reducible refine SameBut.ofPair ?_ (by with_reducible assumption)
    | intro _ _ _
    | intro _ _
    | intro _
    | split
    | (simp only [same_lit]; with_reducible refine SameLit.of ?_ ?_ ?_ ?_ ?_ ?_ ?_ ?_ ?_ ?_ ?_ ?_ ?_ ?_ ?_ ?_ ?_ ?_ ?_ ?_ ?_ ?_ ?_ ?_ ?_ ?_ ?_ ?_ ?_ ?_ ?_ ?_ ?_ ?_ ?_ ?_ ?_ ?_ ?_ ?_)
    | exact .inl rfl
    | dsimp only
    | dsimp only [id]

theorem spdmRequest_frame {L : List StatePart} {s0 : State} {c : SpdmConn} {seq : U32} {req : Bytes} {s : State}
    (hL : ∀ p ∈ [StatePart.mgmt, .sec, .draws, .out], p ∈ L) (hok : SameBut L s0 s) :
    SameBut L s0 (spdmRequest c seq req s) := by
  unfold spdmRequest
  repeat' first
    | with_reducible assumption
    | with_reducible exact .inl rfl
    | exact .inr (hL _ (by decide))
    | (extract_lets +onlyGivenNames x
       first
       | (refine sameStep (L := L) (s0 := s0) (x := x) (fun hx => ?_) ?_; clear_value x; rotate_left; subst x)
       | (refine sameStep (L := L) (s0 := s0) (x := x.1) (fun hx => ?_) ?_; clear_value x; rotate_left; subst x)
       | subst x)
    | with_reducible refine SameBut.ite ?_ ?_
    | with_reducible refine sendSpdm_frame (parts_sub (by decide) hL) ?_
    | with_reducible refine modSec_frame (parts_sub (by decide) hL) ?_
    | with_reducible refine openConn_frame (parts_sub (by decide) hL) ?_
    | with_reducible refine chunkSend_frame (parts_sub (by decide) hL) ?_
    | with_reducible refine chunkGet_frame (parts_sub (by decide) hL) ?_
    | with_reducible refine spdmResponse_frame (parts_sub (by decide) hL) ?_
    | with_reducible refine putConn_frame (parts_sub (by decide) hL) ?_
    | with_reducible refine deliverSpdm_frame (parts_sub (by decide) hL) ?_
    | with_reducible refine SameBut.ofPair ?_ (by with_reducible assumption)
    | intro _ _ _
    | intro _ _
    | intro _
    | split
    | (simp only [same_lit]; with_reducible refine SameLit.of ?_ ?_ ?_ ?_ ?_ ?_ ?_ ?_ ?_ ?_ ?_ ?_ ?_ ?_ ?_ ?_ ?_ ?_ ?_ ?_ ?_ ?_ ?_ ?_ ?_ ?_ ?_ ?_ ?_ ?_ ?_ ?_ ?_ ?_ ?_ ?_ ?_ ?_ ?_ ?_)
    | exact .inl rfl
    | dsimp only
    | dsimp only [id]

theorem answerRow_frame {L : List StatePart} {s0 : State} {c : SpdmConn} {req : Bytes} {s : State}
    (hL : ∀ p ∈ [StatePart.mgmt, .sec, .draws, .out], p ∈ L) (hok : SameBut L s0 s) :
    SameBut L s0 (answerRow c req s) := by
  unfold answerRow
  repeat' first
    | with_reducible assumption
    | with_reducible exact .inl rfl
    | exact .inr (hL _ (by decide))
    | (extract_lets +onlyGivenNames x
       first
       | (refine sameStep (L := L) (s0 := s0) (x := x) (fun hx => ?_) ?_; clear_value x; rotate_left; subst x)
       | (refine sameStep (L := L) (s0 := s0) (x := x.1) (fun hx => ?_) ?_; clear_value x; rotate_left; subst x)
       | subst x)
    | with_reducible refine SameBut.ite ?_ ?_
    | with_reducible refine spdmRequest_frame (parts_sub (by decide) hL) ?_
    | with_reducible refine modSec_frame (parts_sub (by decide) hL) ?_
    | with_reducible refine SameBut.ofPair ?_ (by with_reducible assumption)
    | intro _ _ _
    | intro _ _
    | intro _
    | split
    | (simp only [same_lit]; with_reducible refine SameLit.of ?_ ?_ ?_ ?_ ?_ ?_ ?_ ?_ ?_ ?_ ?_ ?_ ?_ ?_ ?_ ?_ ?_ ?_ ?_ ?_ ?_ ?_ ?_ ?_ ?_ ?_ ?_ ?_ ?_ ?_ ?_ ?_ ?_ ?_ ?_ ?_ ?_ ?_ ?_ ?_)
    | exact .inl rfl
    | dsimp only
    | dsimp only [id]

theorem execSpdmMessage_frame {src : NetAddr} {seq : U32} {message : Bytes} {s : State} :
    OutBut [StatePart.sec] s (execSpdmMessage src seq message s) := by
  unfold execSpdmMessage
  refine OutBut.of (fun L s0 hL hok => ?_)
  repeat' first
    | with_reducible assumption
    | with_reducible exact .inl rfl
    | exact .inr (hL _ (by decide))
    | (extract_lets +onlyGivenNames x
       first
       | (refine sameStep (L := L) (s0 := s0) (x := x) (fun hx => ?_) ?_; clear_value x; rotate_left; subst x)
       | subst x)
    | with_reducible refine SameBut.ite ?_ ?_
    | with_reducible refine modSec_frame (parts_sub (by decide) hL) ?_
    | intro _ _ _
    | intro _ _
    | intro _
    | split
    | (simp only [same_lit]; with_reducible refine SameLit.of ?_ ?_ ?_ ?_ ?_ ?_ ?_ ?_ ?_ ?_ ?_ ?_ ?_ ?_ ?_ ?_ ?_ ?_ ?_ ?_ ?_ ?_ ?_ ?_ ?_ ?_ ?_ ?_ ?_ ?_ ?_ ?_ ?_ ?_ ?_ ?_ ?_ ?_ ?_ ?_)
    | exact .inl rfl
    | dsimp only
    | dsimp only [id]

theorem execGetVersion_frame {c : SpdmReq} {s : State} :
    OutBut [StatePart.mgmt, .sec, .draws, .out] s (execGetVersion c s) := by
  unfold execGetVersion
  refine OutBut.of (fun L s0 hL hok => ?_)
  repeat' first
    | with_reducible assumption
    | with_reducible refine answerRow_frame (parts_sub (by decide) hL) ?_
    | intro _ _ _
    | intro _ _
    | intro _
    | dsimp only
    | dsimp only [id]

theorem execGetCapabilities_frame {c : SpdmReq} {s : State} :
    OutBut [StatePart.mgmt, .sec, .draws, .out] s (execGetCapabilities c s) := by
  unfold execGetCapabilities
  refine OutBut.of (fun L s0 hL hok => ?_)
  repeat' first
    | with_reducible assumption
    | with_reducible refine answerRow_frame (parts_sub (by decide) hL) ?_
    | intro _ _ _
    | intro _ _
    | intro _
    | dsimp only
    | dsimp only [id]

theorem execNegotiateAlgorithms_frame {c : SpdmReq} {s : State} :
    OutBut [StatePart.mgmt, .sec, .draws, .out] s (execNegotiateAlgorithms c s) := by
  unfold execNegotiateAlgorithms
  refine OutBut.of (fun L s0 hL hok => ?_)
  repeat' first
    | with_reducible assumption
    | with_reducible refine answerRow_frame (parts_sub (by decide) hL) ?_
    | intro _ _ _
    | intro _ _
    | intro _
    | dsimp only
    | dsimp only [id]

theorem execGetDigests_frame {c : SpdmReq} {s : State} :
    OutBut [StatePart.mgmt, .sec, .draws, .out] s (execGetDigests c s) := by
  unfold execGetDigests
  refine OutBut.of (fun L s0 hL hok => ?_)
  repeat' first
    | with_reducible assumption
    | with_reducible refine answerRow_frame (parts_sub (by decide) hL) ?_
    | intro _ _ _
    | intro _ _
    | intro _
    | dsimp only
    | dsimp only [id]

theorem execGetCertificate_frame {c : SpdmReq} {slot offset length : Nat} {s : State} :
    OutBut [StatePart.mgmt, .sec, .draws, .out] s (execGetCertificate c slot offset length s) := by
  unfold execGetCertificate
  refine OutBut.of (fun L s0 hL hok => ?_)
  repeat' first
    | with_reducible assumption
    | with_reducible refine answerRow_frame (parts_sub (by decide) hL) ?_
    | intro _ _ _
    | intro _ _
    | intro _
    | dsimp only
    | dsimp only [id]

theorem execChallenge_frame {c : SpdmReq} {slot : Nat} {nonce : Bytes} {s : State} :
    OutBut [StatePart.mgmt, .sec, .draws, .out] s (execChallenge c slot nonce s) := by
  unfold execChallenge
  refine OutBut.of (fun L s0 hL hok => ?_)
  repeat' first
    | with_reducible assumption
    | with_reducible refine answerRow_frame (parts_sub (by decide) hL) ?_
    | intro _ _ _
    | intro _ _
    | intro _
    | dsimp only
    | dsimp only [id]

theorem execGetMeasurements_frame {c : SpdmReq} {signed : Bool} {index : Nat} {nonce : Bytes} {s : State} :
    OutBut [StatePart.mgmt, .sec, .draws, .out] s (execGetMeasurements c signed index nonce s) := by
  unfold execGetMeasurements
  refine OutBut.of (fun L s0 hL hok => ?_)
  repeat' first
    | with_reducible assumption
    | with_reducible refine SameBut.ite ?_ ?_
    | with_reducible refine answerRow_frame (parts_sub (by decide) hL) ?_
    | intro _ _ _
    | intro _ _
    | intro _
    | split
    | dsimp only
    | dsimp only [id]

theorem execChunkSend_frame {c : SpdmReq} {handle seq : Nat} {last : Bool} {chunk : Bytes} {s : State} :
    OutBut [StatePart.mgmt, .sec, .draws, .out] s (execChunkSend c handle seq last chunk s) := by
  unfold execChunkSend
  refine OutBut.of (fun L s0 hL hok => ?_)
  repeat' first
    | with_reducible assumption
    | with_reducible refine SameBut.ite ?_ ?_
    | with_reducible refine answerRow_frame (parts_sub (by decide) hL) ?_
    | intro _ _ _
    | intro _ _
    | intro _
    | split
    | dsimp only
    | dsimp only [id]

theorem execChunkGet_frame {c : SpdmReq} {handle seq : Nat} {s : State} :
    OutBut [StatePart.mgmt, .sec, .draws, .out] s (execChunkGet c handle seq s) := by
  unfold execChunkGet
  refine OutBut.of (fun L s0 hL hok => ?_)
  repeat' first
    | with_reducible assumption
    | with_reducible refine answerRow_frame (parts_sub (by decide) hL) ?_
    | intro _ _ _
    | intro _ _
    | intro _
    | dsimp only
    | dsimp only [id]

theorem execSpdmUnsupportedRequest_frame {c : SpdmReq} {code : U8} {s : State} :
    OutBut [StatePart.mgmt, .sec, .draws, .out] s (execSpdmUnsupportedRequest c code s) := by
  unfold execSpdmUnsupportedRequest
  refine OutBut.of (fun L s0 hL hok => ?_)
  repeat' first
    | with_reducible assumption
    | with_reducible refine answerRow_frame (parts_sub (by decide) hL) ?_
    | intro _ _ _
    | intro _ _
    | intro _
    | dsimp only
    | dsimp only [id]

theorem acceptToken_frame {L : List StatePart} {s0 : State} {t : Bytes} {s : State}
    (hL : ∀ p ∈ [StatePart.od, .sec, .draws], p ∈ L) (hok : SameBut L s0 s) :
    SameBut L s0 (acceptToken t s) := by
  unfold acceptToken
  repeat' first
    | with_reducible assumption
    | with_reducible exact .inl rfl
    | exact .inr (hL _ (by decide))
    | (extract_lets +onlyGivenNames x
       first
       | (refine sameStep (L := L) (s0 := s0) (x := x) (fun hx => ?_) ?_; clear_value x; rotate_left; subst x)
       | (refine sameStep (L := L) (s0 := s0) (x := x.1) (fun hx => ?_) ?_; clear_value x; rotate_left; subst x)
       | subst x)
    | with_reducible refine drawBytes_frame (parts_sub (by decide) hL) ?_
    | with_reducible refine setObj_frame (parts_sub (by decide) hL) ?_
    | with_reducible refine modSec_frame (parts_sub (by decide) hL) ?_
    | intro _ _ _
    | intro _ _
    | intro _
    | (simp only [same_lit]; with_reducible refine SameLit.of ?_ ?_ ?_ ?_ ?_ ?_ ?_ ?_ ?_ ?_ ?_ ?_ ?_ ?_ ?_ ?_ ?_ ?_ ?_ ?_ ?_ ?_ ?_ ?_ ?_ ?_ ?_ ?_ ?_ ?_ ?_ ?_ ?_ ?_ ?_ ?_ ?_ ?_ ?_ ?_)
    | exact .inl rfl
    | dsimp only
    | dsimp only [id]

theorem execDebugTokenWrite_frame {rq : Requester} {t : Bytes} {s : State} :
    OutBut [StatePart.od, .sec, .draws, .out] s (execDebugTokenWrite rq t s) := by
  unfold execDebugTokenWrite
  refine OutBut.of (fun L s0 hL hok => ?_)
  repeat' first
    | with_reducible assumption
    | with_reducible refine requestWrite_frame (parts_sub (by decide) hL) ?_ ?_
    | with_reducible refine acceptToken_frame (parts_sub (by decide) hL) ?_
    | intro _ _ _
    | intro _ _
    | intro _
    | dsimp only
    | dsimp only [id]

theorem burnMinSec_frame {L : List StatePart} {s0 : State} {n : Nat} {s : State}
    (hL : ∀ p ∈ [StatePart.sec], p ∈ L) (hok : SameBut L s0 s) :
    SameBut L s0 (burnMinSec n s) := by
  unfold burnMinSec
  repeat' first
    | with_reducible assumption
    | with_reducible exact .inl rfl
    | exact .inr (hL _ (by decide))
    | (extract_lets +onlyGivenNames x
       first
       | (refine sameStep (L := L) (s0 := s0) (x := x) (fun hx => ?_) ?_; clear_value x; rotate_left; subst x)
       | subst x)
    | with_reducible refine modSec_frame (parts_sub (by decide) hL) ?_
    | intro _ _ _
    | intro _ _
    | intro _
    | (simp only [same_lit]; with_reducible refine SameLit.of ?_ ?_ ?_ ?_ ?_ ?_ ?_ ?_ ?_ ?_ ?_ ?_ ?_ ?_ ?_ ?_ ?_ ?_ ?_ ?_ ?_ ?_ ?_ ?_ ?_ ?_ ?_ ?_ ?_ ?_ ?_ ?_ ?_ ?_ ?_ ?_ ?_ ?_ ?_ ?_)
    | exact .inl rfl
    | dsimp only
    | dsimp only [id]

theorem execRaiseMinSecurityVersion_frame {rq : Requester} {n : U8} {s : State} :
    OutBut [StatePart.sec, .out] s (execRaiseMinSecurityVersion rq n s) := by
  unfold execRaiseMinSecurityVersion
  refine OutBut.of (fun L s0 hL hok => ?_)
  repeat' first
    | with_reducible assumption
    | with_reducible refine requestWrite_frame (parts_sub (by decide) hL) ?_ ?_
    | with_reducible refine burnMinSec_frame (parts_sub (by decide) hL) ?_
    | intro _ _ _
    | intro _ _
    | intro _
    | dsimp only
    | dsimp only [id]

theorem execPowerCoarseUpdate_frame {s : State} :
    OutBut [StatePart.fnOther] s (execPowerCoarseUpdate s) := by
  unfold execPowerCoarseUpdate
  refine OutBut.of (fun L s0 hL hok => ?_)
  repeat' first
    | with_reducible assumption
    | with_reducible exact .inl rfl
    | exact .inr (hL _ (by decide))
    | (extract_lets +onlyGivenNames x
       first
       | (refine sameStep (L := L) (s0 := s0) (x := x) (fun hx => ?_) ?_; clear_value x; rotate_left; subst x)
       | subst x)
    | with_reducible refine SameBut.ite ?_ ?_
    | intro _ _ _
    | intro _ _
    | intro _
    | split
    | (simp only [same_lit]; with_reducible refine SameLit.of ?_ ?_ ?_ ?_ ?_ ?_ ?_ ?_ ?_ ?_ ?_ ?_ ?_ ?_ ?_ ?_ ?_ ?_ ?_ ?_ ?_ ?_ ?_ ?_ ?_ ?_ ?_ ?_ ?_ ?_ ?_ ?_ ?_ ?_ ?_ ?_ ?_ ?_ ?_ ?_)
    | exact .inl rfl
    | (left; simp only [List.map_map]; rfl)
    | (left; exact map_view (fun x => by unfold readied; split <;> rfl) _)
    | (left; exact map_view (fun x => by unfold unready; split <;> rfl) _)
    | dsimp only
    | dsimp only [id]

theorem execEntropyHealthFailure_frame {s : State} :
    OutBut [StatePart.od, .stored, .counters, .mgmt, .links, .intx, .fnCfg, .int, .capture, .err, .sec, .power, .out] s (execEntropyHealthFailure s) := by
  unfold execEntropyHealthFailure
  refine OutBut.of (fun L s0 hL hok => ?_)
  repeat' first
    | with_reducible assumption
    | with_reducible exact .inl rfl
    | exact .inr (hL _ (by decide))
    | (extract_lets +onlyGivenNames x
       first
       | (refine sameStep (L := L) (s0 := s0) (x := x) (fun hx => ?_) ?_; clear_value x; rotate_left; subst x)
       | subst x)
    | with_reducible refine raiseError_frame (parts_sub (by decide) hL) ?_
    | with_reducible refine modSec_frame (parts_sub (by decide) hL) ?_
    | intro _ _ _
    | intro _ _
    | intro _
    | (simp only [same_lit]; with_reducible refine SameLit.of ?_ ?_ ?_ ?_ ?_ ?_ ?_ ?_ ?_ ?_ ?_ ?_ ?_ ?_ ?_ ?_ ?_ ?_ ?_ ?_ ?_ ?_ ?_ ?_ ?_ ?_ ?_ ?_ ?_ ?_ ?_ ?_ ?_ ?_ ?_ ?_ ?_ ?_ ?_ ?_)
    | exact .inl rfl
    | dsimp only
    | dsimp only [id]

theorem execDrbgReseed_frame {s : State} :
    OutBut [StatePart.sec] s (execDrbgReseed s) := by
  unfold execDrbgReseed
  refine OutBut.of (fun L s0 hL hok => ?_)
  repeat' first
    | with_reducible assumption
    | with_reducible exact .inl rfl
    | exact .inr (hL _ (by decide))
    | (extract_lets +onlyGivenNames x
       first
       | (refine sameStep (L := L) (s0 := s0) (x := x) (fun hx => ?_) ?_; clear_value x; rotate_left; subst x)
       | subst x)
    | with_reducible refine SameBut.ite ?_ ?_
    | with_reducible refine modSec_frame (parts_sub (by decide) hL) ?_
    | intro _ _ _
    | intro _ _
    | intro _
    | split
    | (simp only [same_lit]; with_reducible refine SameLit.of ?_ ?_ ?_ ?_ ?_ ?_ ?_ ?_ ?_ ?_ ?_ ?_ ?_ ?_ ?_ ?_ ?_ ?_ ?_ ?_ ?_ ?_ ?_ ?_ ?_ ?_ ?_ ?_ ?_ ?_ ?_ ?_ ?_ ?_ ?_ ?_ ?_ ?_ ?_ ?_)
    | exact .inl rfl
    | dsimp only
    | dsimp only [id]

theorem keepCoreByte_frame {L : List StatePart} {s0 : State} {a : U64} {v : U8} {s : State}
    (hL : ∀ p ∈ [StatePart.sec], p ∈ L) (hok : SameBut L s0 s) :
    SameBut L s0 (keepCoreByte a v s) := by
  unfold keepCoreByte
  repeat' first
    | with_reducible assumption
    | with_reducible exact .inl rfl
    | exact .inr (hL _ (by decide))
    | (extract_lets +onlyGivenNames x
       first
       | (refine sameStep (L := L) (s0 := s0) (x := x) (fun hx => ?_) ?_; clear_value x; rotate_left; subst x)
       | (refine sameStep (L := L) (s0 := s0) (x := x.1) (fun hx => ?_) ?_; clear_value x; rotate_left; subst x)
       | subst x)
    | with_reducible refine SameBut.ite ?_ ?_
    | with_reducible refine modSec_frame (parts_sub (by decide) hL) ?_
    | intro _ _ _
    | intro _ _
    | intro _
    | split
    | (simp only [same_lit]; with_reducible refine SameLit.of ?_ ?_ ?_ ?_ ?_ ?_ ?_ ?_ ?_ ?_ ?_ ?_ ?_ ?_ ?_ ?_ ?_ ?_ ?_ ?_ ?_ ?_ ?_ ?_ ?_ ?_ ?_ ?_ ?_ ?_ ?_ ?_ ?_ ?_ ?_ ?_ ?_ ?_ ?_ ?_)
    | exact .inl rfl
    | dsimp only
    | dsimp only [id]

theorem tapOperation_frame {L : List StatePart} {s0 : State} {op : TapOp} {s : State}
    (hL : ∀ p ∈ [StatePart.sec, .draws, .out], p ∈ L) (hok : SameBut L s0 s) :
    SameBut L s0 (tapOperation op s) := by
  unfold tapOperation
  repeat' first
    | with_reducible assumption
    | with_reducible exact .inl rfl
    | exact .inr (hL _ (by decide))
    | (extract_lets +onlyGivenNames x
       first
       | (refine sameStep (L := L) (s0 := s0) (x := x) (fun hx => ?_) ?_; clear_value x; rotate_left; subst x)
       | subst x)
    | with_reducible refine SameBut.ite ?_ ?_
    | with_reducible refine emit_frame (parts_sub (by decide) hL) ?_
    | with_reducible refine draw_frame (parts_sub (by decide) hL) ?_
    | with_reducible refine modSec_frame (parts_sub (by decide) hL) ?_
    | with_reducible refine keepCoreByte_frame (parts_sub (by decide) hL) ?_
    | with_reducible refine SameBut.ofPair ?_ (by with_reducible assumption)
    | intro _ _ _
    | intro _ _
    | intro _
    | split
    | (simp only [same_lit]; with_reducible refine SameLit.of ?_ ?_ ?_ ?_ ?_ ?_ ?_ ?_ ?_ ?_ ?_ ?_ ?_ ?_ ?_ ?_ ?_ ?_ ?_ ?_ ?_ ?_ ?_ ?_ ?_ ?_ ?_ ?_ ?_ ?_ ?_ ?_ ?_ ?_ ?_ ?_ ?_ ?_ ?_ ?_)
    | exact .inl rfl
    | dsimp only
    | dsimp only [id]

theorem execTapAccess_frame {op : TapOp} {s : State} :
    OutBut [StatePart.sec, .draws, .out] s (execTapAccess op s) := by
  unfold execTapAccess
  refine OutBut.of (fun L s0 hL hok => ?_)
  repeat' first
    | with_reducible assumption
    | with_reducible refine tapOperation_frame (parts_sub (by decide) hL) ?_
    | intro _ _ _
    | intro _ _
    | intro _
    | dsimp only
    | dsimp only [id]


/-! ### Machine/BringUp.lean -/

theorem modBoot_frame {L : List StatePart} {s0 : State} {f : BootSt → BootSt} {s : State}
    (hL : ∀ p ∈ [StatePart.boot], p ∈ L) (hok : SameBut L s0 s) :
    SameBut L s0 (modBoot f s) := by
  unfold modBoot
  repeat' first
    | with_reducible assumption
    | with_reducible exact .inl rfl
    | exact .inr (hL _ (by decide))
    | (extract_lets +onlyGivenNames x
       first
       | (refine sameStep (L := L) (s0 := s0) (x := x) (fun hx => ?_) ?_; clear_value x; rotate_left; subst x)
       | subst x)
    | intro _ _ _
    | intro _ _
    | intro _
    | (simp only [same_lit]; with_reducible refine SameLit.of ?_ ?_ ?_ ?_ ?_ ?_ ?_ ?_ ?_ ?_ ?_ ?_ ?_ ?_ ?_ ?_ ?_ ?_ ?_ ?_ ?_ ?_ ?_ ?_ ?_ ?_ ?_ ?_ ?_ ?_ ?_ ?_ ?_ ?_ ?_ ?_ ?_ ?_ ?_ ?_)
    | exact .inl rfl
    | dsimp only
    | dsimp only [id]

theorem beginStep_frame {L : List StatePart} {s0 : State} {c : BringUpCmd} {s : State}
    (hL : ∀ p ∈ [StatePart.boot], p ∈ L) (hok : SameBut L s0 s) :
    SameBut L s0 (beginStep c s) := by
  unfold beginStep
  repeat' first
    | with_reducible assumption
    | with_reducible exact .inl rfl
    | exact .inr (hL _ (by decide))
    | (extract_lets +onlyGivenNames x
       first
       | (refine sameStep (L := L) (s0 := s0) (x := x) (fun hx => ?_) ?_; clear_value x; rotate_left; subst x)
       | subst x)
    | with_reducible refine modBoot_frame (parts_sub (by decide) hL) ?_
    | intro _ _ _
    | intro _ _
    | intro _
    | (simp only [same_lit]; with_reducible refine SameLit.of ?_ ?_ ?_ ?_ ?_ ?_ ?_ ?_ ?_ ?_ ?_ ?_ ?_ ?_ ?_ ?_ ?_ ?_ ?_ ?_ ?_ ?_ ?_ ?_ ?_ ?_ ?_ ?_ ?_ ?_ ?_ ?_ ?_ ?_ ?_ ?_ ?_ ?_ ?_ ?_)
    | exact .inl rfl
    | dsimp only
    | dsimp only [id]

theorem finishStep_frame {L : List StatePart} {s0 : State} {r : BringUpResult} {s : State}
    (hL : ∀ p ∈ [StatePart.boot], p ∈ L) (hok : SameBut L s0 s) :
    SameBut L s0 (finishStep r s) := by
  unfold finishStep
  repeat' first
    | with_reducible assumption
    | with_reducible exact .inl rfl
    | exact .inr (hL _ (by decide))
    | (extract_lets +onlyGivenNames x
       first
       | (refine sameStep (L := L) (s0 := s0) (x := x) (fun hx => ?_) ?_; clear_value x; rotate_left; subst x)
       | subst x)
    | with_reducible refine SameBut.ite ?_ ?_
    | with_reducible refine modBoot_frame (parts_sub (by decide) hL) ?_
    | intro _ _ _
    | intro _ _
    | intro _
    | split
    | (simp only [same_lit]; with_reducible refine SameLit.of ?_ ?_ ?_ ?_ ?_ ?_ ?_ ?_ ?_ ?_ ?_ ?_ ?_ ?_ ?_ ?_ ?_ ?_ ?_ ?_ ?_ ?_ ?_ ?_ ?_ ?_ ?_ ?_ ?_ ?_ ?_ ?_ ?_ ?_ ?_ ?_ ?_ ?_ ?_ ?_)
    | exact .inl rfl
    | dsimp only
    | dsimp only [id]

theorem bringUpWrite_frame {L : List StatePart} {s0 : State} {rq : Requester} {c : BringUpCmd} {act : State → State} {s : State}
    (hL : ∀ p ∈ [StatePart.boot, .out], p ∈ L) (h_act : ∀ t, SameBut L s0 t → SameBut L s0 (act t)) (hok : SameBut L s0 s) :
    SameBut L s0 (bringUpWrite rq c act s) := by
  unfold bringUpWrite
  repeat' first
    | with_reducible assumption
    | with_reducible apply h_act
    | with_reducible refine requestWrite_frame (parts_sub (by decide) hL) ?_ ?_
    | with_reducible refine beginStep_frame (parts_sub (by decide) hL) ?_
    | intro _ _ _
    | intro _ _
    | intro _
    | dsimp only
    | dsimp only [id]

theorem startPower_frame {L : List StatePart} {s0 : State} {s : State}
    (hL : ∀ p ∈ [StatePart.power, .boot], p ∈ L) (hok : SameBut L s0 s) :
    SameBut L s0 (startPower s) := by
  unfold startPower
  repeat' first
    | with_reducible assumption
    | with_reducible refine SameBut.ite ?_ ?_
    | with_reducible refine setWork_frame (parts_sub (by decide) hL) ?_
    | with_reducible refine finishStep_frame (parts_sub (by decide) hL) ?_
    | intro _ _ _
    | intro _ _
    | intro _
    | split
    | dsimp only
    | dsimp only [id]

theorem execPower_frame {rq : Requester} {s : State} :
    OutBut [StatePart.power, .boot, .out] s (execPower rq s) := by
  unfold execPower
  refine OutBut.of (fun L s0 hL hok => ?_)
  repeat' first
    | with_reducible assumption
    | with_reducible refine bringUpWrite_frame (parts_sub (by decide) hL) ?_ ?_
    | with_reducible refine startPower_frame (parts_sub (by decide) hL) ?_
    | intro _ _ _
    | intro _ _
    | intro _
    | dsimp only
    | dsimp only [id]

theorem startTrain_frame {L : List StatePart} {s0 : State} {s : State}
    (hL : ∀ p ∈ [StatePart.od, .stored, .counters, .mgmt, .port0, .int, .sec, .boot, .draws, .out], p ∈ L) (hok : SameBut L s0 s) :
    SameBut L s0 (startTrain s) := by
  unfold startTrain
  repeat' first
    | with_reducible assumption
    | with_reducible exact .inl rfl
    | exact .inr (hL _ (by decide))
    | (extract_lets +onlyGivenNames x
       first
       | (refine sameStep (L := L) (s0 := s0) (x := x) (fun hx => ?_) ?_; clear_value x; rotate_left; subst x)
       | subst x)
    | with_reducible refine SameBut.ite ?_ ?_
    | with_reducible refine requestMain_frame (parts_sub (by decide) hL) ?_
    | with_reducible refine modBoot_frame (parts_sub (by decide) hL) ?_
    | intro _ _ _
    | intro _ _
    | intro _
    | split
    | (simp only [same_lit]; with_reducible refine SameLit.of ?_ ?_ ?_ ?_ ?_ ?_ ?_ ?_ ?_ ?_ ?_ ?_ ?_ ?_ ?_ ?_ ?_ ?_ ?_ ?_ ?_ ?_ ?_ ?_ ?_ ?_ ?_ ?_ ?_ ?_ ?_ ?_ ?_ ?_ ?_ ?_ ?_ ?_ ?_ ?_)
    | exact .inl rfl
    | dsimp only
    | dsimp only [id]

theorem execTrain_frame {rq : Requester} {s : State} :
    OutBut [StatePart.od, .stored, .counters, .mgmt, .port0, .int, .sec, .boot, .draws, .out] s (execTrain rq s) := by
  unfold execTrain
  refine OutBut.of (fun L s0 hL hok => ?_)
  repeat' first
    | with_reducible assumption
    | with_reducible refine bringUpWrite_frame (parts_sub (by decide) hL) ?_ ?_
    | with_reducible refine startTrain_frame (parts_sub (by decide) hL) ?_
    | intro _ _ _
    | intro _ _
    | intro _
    | dsimp only
    | dsimp only [id]

theorem startQualify_frame {L : List StatePart} {s0 : State} {s : State}
    (hL : ∀ p ∈ [StatePart.boot], p ∈ L) (hok : SameBut L s0 s) :
    SameBut L s0 (startQualify s) := by
  unfold startQualify
  repeat' first
    | with_reducible assumption
    | with_reducible exact .inl rfl
    | exact .inr (hL _ (by decide))
    | (extract_lets +onlyGivenNames x
       first
       | (refine sameStep (L := L) (s0 := s0) (x := x) (fun hx => ?_) ?_; clear_value x; rotate_left; subst x)
       | subst x)
    | with_reducible refine modBoot_frame (parts_sub (by decide) hL) ?_
    | intro _ _ _
    | intro _ _
    | intro _
    | (simp only [same_lit]; with_reducible refine SameLit.of ?_ ?_ ?_ ?_ ?_ ?_ ?_ ?_ ?_ ?_ ?_ ?_ ?_ ?_ ?_ ?_ ?_ ?_ ?_ ?_ ?_ ?_ ?_ ?_ ?_ ?_ ?_ ?_ ?_ ?_ ?_ ?_ ?_ ?_ ?_ ?_ ?_ ?_ ?_ ?_)
    | exact .inl rfl
    | dsimp only
    | dsimp only [id]

theorem execQualify_frame {rq : Requester} {s : State} :
    OutBut [StatePart.boot, .out] s (execQualify rq s) := by
  unfold execQualify
  refine OutBut.of (fun L s0 hL hok => ?_)
  repeat' first
    | with_reducible assumption
    | with_reducible refine bringUpWrite_frame (parts_sub (by decide) hL) ?_ ?_
    | with_reducible refine startQualify_frame (parts_sub (by decide) hL) ?_
    | intro _ _ _
    | intro _ _
    | intro _
    | dsimp only
    | dsimp only [id]

theorem endQualify_frame {L : List StatePart} {s0 : State} {counts : List LaneCount} {s : State}
    (hL : ∀ p ∈ [StatePart.boot], p ∈ L) (hok : SameBut L s0 s) :
    SameBut L s0 (endQualify counts s) := by
  unfold endQualify
  repeat' first
    | with_reducible assumption
    | with_reducible exact .inl rfl
    | exact .inr (hL _ (by decide))
    | (extract_lets +onlyGivenNames x
       first
       | (refine sameStep (L := L) (s0 := s0) (x := x) (fun hx => ?_) ?_; clear_value x; rotate_left; subst x)
       | subst x)
    | with_reducible refine SameBut.ite ?_ ?_
    | with_reducible refine modBoot_frame (parts_sub (by decide) hL) ?_
    | with_reducible refine finishStep_frame (parts_sub (by decide) hL) ?_
    | intro _ _ _
    | intro _ _
    | intro _
    | split
    | (simp only [same_lit]; with_reducible refine SameLit.of ?_ ?_ ?_ ?_ ?_ ?_ ?_ ?_ ?_ ?_ ?_ ?_ ?_ ?_ ?_ ?_ ?_ ?_ ?_ ?_ ?_ ?_ ?_ ?_ ?_ ?_ ?_ ?_ ?_ ?_ ?_ ?_ ?_ ?_ ?_ ?_ ?_ ?_ ?_ ?_)
    | exact .inl rfl
    | dsimp only
    | dsimp only [id]

theorem execQualifyEnd_frame {counts : List LaneCount} {s : State} :
    OutBut [StatePart.boot] s (execQualifyEnd counts s) := by
  unfold execQualifyEnd
  refine OutBut.of (fun L s0 hL hok => ?_)
  repeat' first
    | with_reducible assumption
    | with_reducible refine endQualify_frame (parts_sub (by decide) hL) ?_
    | intro _ _ _
    | intro _ _
    | intro _
    | dsimp only
    | dsimp only [id]

theorem startLoad_frame {L : List StatePart} {s0 : State} {s : State}
    (hL : ∀ p ∈ [StatePart.counters, .requests, .ats, .int, .boot, .out], p ∈ L) (hok : SameBut L s0 s) :
    SameBut L s0 (startLoad s) := by
  unfold startLoad
  repeat' first
    | with_reducible assumption
    | with_reducible exact .inl rfl
    | exact .inr (hL _ (by decide))
    | (extract_lets +onlyGivenNames x
       first
       | (refine sameStep (L := L) (s0 := s0) (x := x) (fun hx => ?_) ?_; clear_value x; rotate_left; subst x)
       | subst x)
    | with_reducible refine SameBut.ite ?_ ?_
    | with_reducible refine finishStep_frame (parts_sub (by decide) hL) ?_
    | with_reducible refine modBoot_frame (parts_sub (by decide) hL) ?_
    | with_reducible refine issueImage_frame (parts_sub (by decide) hL) ?_
    | intro _ _ _
    | intro _ _
    | intro _
    | split
    | (simp only [same_lit]; with_reducible refine SameLit.of ?_ ?_ ?_ ?_ ?_ ?_ ?_ ?_ ?_ ?_ ?_ ?_ ?_ ?_ ?_ ?_ ?_ ?_ ?_ ?_ ?_ ?_ ?_ ?_ ?_ ?_ ?_ ?_ ?_ ?_ ?_ ?_ ?_ ?_ ?_ ?_ ?_ ?_ ?_ ?_)
    | exact .inl rfl
    | dsimp only
    | dsimp only [id]

theorem execLoadFirmware_frame {rq : Requester} {s : State} :
    OutBut [StatePart.counters, .requests, .ats, .int, .boot, .out] s (execLoadFirmware rq s) := by
  unfold execLoadFirmware
  refine OutBut.of (fun L s0 hL hok => ?_)
  repeat' first
    | with_reducible assumption
    | with_reducible refine bringUpWrite_frame (parts_sub (by decide) hL) ?_ ?_
    | with_reducible refine startLoad_frame (parts_sub (by decide) hL) ?_
    | intro _ _ _
    | intro _ _
    | intro _
    | dsimp only
    | dsimp only [id]

theorem copyChunk_frame {L : List StatePart} {s0 : State} {chunk : Bytes} {s : State}
    (hL : ∀ p ∈ [StatePart.boot], p ∈ L) (hok : SameBut L s0 s) :
    SameBut L s0 (copyChunk chunk s) := by
  unfold copyChunk
  repeat' first
    | with_reducible assumption
    | with_reducible exact .inl rfl
    | exact .inr (hL _ (by decide))
    | (extract_lets +onlyGivenNames x
       first
       | (refine sameStep (L := L) (s0 := s0) (x := x) (fun hx => ?_) ?_; clear_value x; rotate_left; subst x)
       | subst x)
    | with_reducible refine SameBut.ite ?_ ?_
    | with_reducible refine modBoot_frame (parts_sub (by decide) hL) ?_
    | intro _ _ _
    | intro _ _
    | intro _
    | split
    | (simp only [same_lit]; with_reducible refine SameLit.of ?_ ?_ ?_ ?_ ?_ ?_ ?_ ?_ ?_ ?_ ?_ ?_ ?_ ?_ ?_ ?_ ?_ ?_ ?_ ?_ ?_ ?_ ?_ ?_ ?_ ?_ ?_ ?_ ?_ ?_ ?_ ?_ ?_ ?_ ?_ ?_ ?_ ?_ ?_ ?_)
    | exact .inl rfl
    | dsimp only
    | dsimp only [id]

theorem execFirmwareChunkWrite_frame {rq : Requester} {chunk : Bytes} {s : State} :
    OutBut [StatePart.boot, .out] s (execFirmwareChunkWrite rq chunk s) := by
  unfold execFirmwareChunkWrite
  refine OutBut.of (fun L s0 hL hok => ?_)
  repeat' first
    | with_reducible assumption
    | with_reducible refine requestWrite_frame (parts_sub (by decide) hL) ?_ ?_
    | with_reducible refine copyChunk_frame (parts_sub (by decide) hL) ?_
    | intro _ _ _
    | intro _ _
    | intro _
    | dsimp only
    | dsimp only [id]

theorem startFirmware_frame {L : List StatePart} {s0 : State} {b : Bytes} {s : State}
    (hL : ∀ p ∈ [StatePart.boot], p ∈ L) (hok : SameBut L s0 s) :
    SameBut L s0 (startFirmware b s) := by
  unfold startFirmware
  repeat' first
    | with_reducible assumption
    | with_reducible exact .inl rfl
    | exact .inr (hL _ (by decide))
    | (extract_lets +onlyGivenNames x
       first
       | (refine sameStep (L := L) (s0 := s0) (x := x) (fun hx => ?_) ?_; clear_value x; rotate_left; subst x)
       | subst x)
    | with_reducible refine finishStep_frame (parts_sub (by decide) hL) ?_
    | with_reducible refine modBoot_frame (parts_sub (by decide) hL) ?_
    | intro _ _ _
    | intro _ _
    | intro _
    | (simp only [same_lit]; with_reducible refine SameLit.of ?_ ?_ ?_ ?_ ?_ ?_ ?_ ?_ ?_ ?_ ?_ ?_ ?_ ?_ ?_ ?_ ?_ ?_ ?_ ?_ ?_ ?_ ?_ ?_ ?_ ?_ ?_ ?_ ?_ ?_ ?_ ?_ ?_ ?_ ?_ ?_ ?_ ?_ ?_ ?_)
    | exact .inl rfl
    | dsimp only
    | dsimp only [id]

theorem imageComplete_frame {L : List StatePart} {s0 : State} {s : State}
    (hL : ∀ p ∈ [StatePart.counters, .requests, .ats, .int, .sec, .boot, .out], p ∈ L) (hok : SameBut L s0 s) :
    SameBut L s0 (imageComplete s) := by
  unfold imageComplete
  repeat' first
    | with_reducible assumption
    | with_reducible exact .inl rfl
    | exact .inr (hL _ (by decide))
    | (extract_lets +onlyGivenNames x
       first
       | (refine sameStep (L := L) (s0 := s0) (x := x) (fun hx => ?_) ?_; clear_value x; rotate_left; subst x)
       | subst x)
    | with_reducible refine SameBut.ite ?_ ?_
    | with_reducible refine modSec_frame (parts_sub (by decide) hL) ?_
    | with_reducible refine modBoot_frame (parts_sub (by decide) hL) ?_
    | with_reducible refine startFirmware_frame (parts_sub (by decide) hL) ?_
    | with_reducible refine finishStep_frame (parts_sub (by decide) hL) ?_
    | with_reducible refine issueImage_frame (parts_sub (by decide) hL) ?_
    | with_reducible refine SameBut.ofPair ?_ (by with_reducible assumption)
    | intro _ _ _
    | intro _ _
    | intro _
    | split
    | (simp only [same_lit]; with_reducible refine SameLit.of ?_ ?_ ?_ ?_ ?_ ?_ ?_ ?_ ?_ ?_ ?_ ?_ ?_ ?_ ?_ ?_ ?_ ?_ ?_ ?_ ?_ ?_ ?_ ?_ ?_ ?_ ?_ ?_ ?_ ?_ ?_ ?_ ?_ ?_ ?_ ?_ ?_ ?_ ?_ ?_)
    | exact .inl rfl
    | dsimp only
    | dsimp only [id]

theorem execFirmwareImageComplete_frame {s : State} :
    OutBut [StatePart.counters, .requests, .ats, .int, .sec, .boot, .out] s (execFirmwareImageComplete s) := by
  unfold execFirmwareImageComplete
  refine OutBut.of (fun L s0 hL hok => ?_)
  repeat' first
    | with_reducible assumption
    | with_reducible refine imageComplete_frame (parts_sub (by decide) hL) ?_
    | intro _ _ _
    | intro _ _
    | intro _
    | dsimp only
    | dsimp only [id]

theorem startBroadcast_frame {L : List StatePart} {s0 : State} {s : State}
    (hL : ∀ p ∈ [StatePart.boot, .out], p ∈ L) (hok : SameBut L s0 s) :
    SameBut L s0 (startBroadcast s) := by
  unfold startBroadcast
  repeat' first
    | with_reducible assumption
    | with_reducible exact .inl rfl
    | exact .inr (hL _ (by decide))
    | (extract_lets +onlyGivenNames x
       first
       | (refine sameStep (L := L) (s0 := s0) (x := x) (fun hx => ?_) ?_; clear_value x; rotate_left; subst x)
       | subst x)
    | with_reducible refine SameBut.ite ?_ ?_
    | with_reducible refine emit_frame (parts_sub (by decide) hL) ?_
    | with_reducible refine modBoot_frame (parts_sub (by decide) hL) ?_
    | intro _ _ _
    | intro _ _
    | intro _
    | split
    | (simp only [same_lit]; with_reducible refine SameLit.of ?_ ?_ ?_ ?_ ?_ ?_ ?_ ?_ ?_ ?_ ?_ ?_ ?_ ?_ ?_ ?_ ?_ ?_ ?_ ?_ ?_ ?_ ?_ ?_ ?_ ?_ ?_ ?_ ?_ ?_ ?_ ?_ ?_ ?_ ?_ ?_ ?_ ?_ ?_ ?_)
    | exact .inl rfl
    | dsimp only
    | dsimp only [id]

theorem execBroadcast_frame {rq : Requester} {s : State} :
    OutBut [StatePart.boot, .out] s (execBroadcast rq s) := by
  unfold execBroadcast
  refine OutBut.of (fun L s0 hL hok => ?_)
  repeat' first
    | with_reducible assumption
    | with_reducible refine bringUpWrite_frame (parts_sub (by decide) hL) ?_ ?_
    | with_reducible refine startBroadcast_frame (parts_sub (by decide) hL) ?_
    | intro _ _ _
    | intro _ _
    | intro _
    | dsimp only
    | dsimp only [id]

theorem sendAgain_frame {L : List StatePart} {s0 : State} {w : TileWait} {s : State}
    (hL : ∀ p ∈ [StatePart.boot, .out], p ∈ L) (hok : SameBut L s0 s) :
    SameBut L s0 (sendAgain w s) := by
  unfold sendAgain
  repeat' first
    | with_reducible assumption
    | with_reducible exact .inl rfl
    | exact .inr (hL _ (by decide))
    | (extract_lets +onlyGivenNames x
       first
       | (refine sameStep (L := L) (s0 := s0) (x := x) (fun hx => ?_) ?_; clear_value x; rotate_left; subst x)
       | subst x)
    | with_reducible refine SameBut.ite ?_ ?_
    | with_reducible refine emit_frame (parts_sub (by decide) hL) ?_
    | with_reducible refine modBoot_frame (parts_sub (by decide) hL) ?_
    | intro _ _ _
    | intro _ _
    | intro _
    | split
    | (simp only [same_lit]; with_reducible refine SameLit.of ?_ ?_ ?_ ?_ ?_ ?_ ?_ ?_ ?_ ?_ ?_ ?_ ?_ ?_ ?_ ?_ ?_ ?_ ?_ ?_ ?_ ?_ ?_ ?_ ?_ ?_ ?_ ?_ ?_ ?_ ?_ ?_ ?_ ?_ ?_ ?_ ?_ ?_ ?_ ?_)
    | exact .inl rfl
    | dsimp only
    | dsimp only [id]

theorem tileAnswers_frame {L : List StatePart} {s0 : State} {t : Nat} {d : Bytes} {s : State}
    (hL : ∀ p ∈ [StatePart.boot, .out], p ∈ L) (hok : SameBut L s0 s) :
    SameBut L s0 (tileAnswers t d s) := by
  unfold tileAnswers
  repeat' first
    | with_reducible assumption
    | with_reducible exact .inl rfl
    | exact .inr (hL _ (by decide))
    | (extract_lets +onlyGivenNames x
       first
       | (refine sameStep (L := L) (s0 := s0) (x := x) (fun hx => ?_) ?_; clear_value x; rotate_left; subst x)
       | subst x)
    | with_reducible refine SameBut.ite ?_ ?_
    | with_reducible refine modBoot_frame (parts_sub (by decide) hL) ?_
    | with_reducible refine sendAgain_frame (parts_sub (by decide) hL) ?_
    | with_reducible refine SameBut.ofPair ?_ (by with_reducible assumption)
    | intro _ _ _
    | intro _ _
    | intro _
    | split
    | (simp only [same_lit]; with_reducible refine SameLit.of ?_ ?_ ?_ ?_ ?_ ?_ ?_ ?_ ?_ ?_ ?_ ?_ ?_ ?_ ?_ ?_ ?_ ?_ ?_ ?_ ?_ ?_ ?_ ?_ ?_ ?_ ?_ ?_ ?_ ?_ ?_ ?_ ?_ ?_ ?_ ?_ ?_ ?_ ?_ ?_)
    | exact .inl rfl
    | dsimp only
    | dsimp only [id]

theorem execTileDigestAnswer_frame {t : Nat} {d : Bytes} {s : State} :
    OutBut [StatePart.boot, .out] s (execTileDigestAnswer t d s) := by
  unfold execTileDigestAnswer
  refine OutBut.of (fun L s0 hL hok => ?_)
  repeat' first
    | with_reducible assumption
    | with_reducible refine tileAnswers_frame (parts_sub (by decide) hL) ?_
    | intro _ _ _
    | intro _ _
    | intro _
    | dsimp only
    | dsimp only [id]

theorem tileSilent_frame {L : List StatePart} {s0 : State} {t : Nat} {s : State}
    (hL : ∀ p ∈ [StatePart.boot, .out], p ∈ L) (hok : SameBut L s0 s) :
    SameBut L s0 (tileSilent t s) := by
  unfold tileSilent
  repeat' first
    | with_reducible assumption
    | with_reducible exact .inl rfl
    | exact .inr (hL _ (by decide))
    | (extract_lets +onlyGivenNames x
       first
       | (refine sameStep (L := L) (s0 := s0) (x := x) (fun hx => ?_) ?_; clear_value x; rotate_left; subst x)
       | subst x)
    | with_reducible refine SameBut.ite ?_ ?_
    | with_reducible refine sendAgain_frame (parts_sub (by decide) hL) ?_
    | with_reducible refine SameBut.ofPair ?_ (by with_reducible assumption)
    | intro _ _ _
    | intro _ _
    | intro _
    | split
    | (simp only [same_lit]; with_reducible refine SameLit.of ?_ ?_ ?_ ?_ ?_ ?_ ?_ ?_ ?_ ?_ ?_ ?_ ?_ ?_ ?_ ?_ ?_ ?_ ?_ ?_ ?_ ?_ ?_ ?_ ?_ ?_ ?_ ?_ ?_ ?_ ?_ ?_ ?_ ?_ ?_ ?_ ?_ ?_ ?_ ?_)
    | exact .inl rfl
    | dsimp only
    | dsimp only [id]

theorem execTileAnswerTimeout_frame {t : Nat} {s : State} :
    OutBut [StatePart.boot, .out] s (execTileAnswerTimeout t s) := by
  unfold execTileAnswerTimeout
  refine OutBut.of (fun L s0 hL hok => ?_)
  repeat' first
    | with_reducible assumption
    | with_reducible refine tileSilent_frame (parts_sub (by decide) hL) ?_
    | intro _ _ _
    | intro _ _
    | intro _
    | dsimp only
    | dsimp only [id]

theorem execTest_frame {rq : Requester} {s : State} :
    OutBut [StatePart.boot, .out] s (execTest rq s) := by
  unfold execTest
  refine OutBut.of (fun L s0 hL hok => ?_)
  repeat' first
    | with_reducible assumption
    | with_reducible refine bringUpWrite_frame (parts_sub (by decide) hL) ?_ ?_
    | with_reducible refine emit_frame (parts_sub (by decide) hL) ?_
    | intro _ _ _
    | intro _ _
    | intro _
    | dsimp only
    | dsimp only [id]

theorem placeClusters_frame {L : List StatePart} {s0 : State} {s : State}
    (hL : ∀ p ∈ [StatePart.det, .boot], p ∈ L) (hok : SameBut L s0 s) :
    SameBut L s0 (placeClusters s) := by
  unfold placeClusters
  repeat' first
    | with_reducible assumption
    | with_reducible exact .inl rfl
    | exact .inr (hL _ (by decide))
    | (extract_lets +onlyGivenNames x
       first
       | (refine sameStep (L := L) (s0 := s0) (x := x) (fun hx => ?_) ?_; clear_value x; rotate_left; subst x)
       | (refine sameStep (L := L) (s0 := s0) (x := x.1) (fun hx => ?_) ?_; clear_value x; rotate_left; subst x)
       | subst x)
    | with_reducible refine SameBut.ite ?_ ?_
    | with_reducible refine modBoot_frame (parts_sub (by decide) hL) ?_
    | with_reducible refine modDet_frame (parts_sub (by decide) hL) ?_
    | intro _ _ _
    | intro _ _
    | intro _
    | split
    | (simp only [same_lit]; with_reducible refine SameLit.of ?_ ?_ ?_ ?_ ?_ ?_ ?_ ?_ ?_ ?_ ?_ ?_ ?_ ?_ ?_ ?_ ?_ ?_ ?_ ?_ ?_ ?_ ?_ ?_ ?_ ?_ ?_ ?_ ?_ ?_ ?_ ?_ ?_ ?_ ?_ ?_ ?_ ?_ ?_ ?_)
    | exact .inl rfl
    | dsimp only
    | dsimp only [id]

theorem movePatterns_frame {L : List StatePart} {s0 : State} {s : State}
    (hL : ∀ p ∈ [StatePart.memory, .pool, .draws], p ∈ L) (hok : SameBut L s0 s) :
    SameBut L s0 (movePatterns s) := by
  unfold movePatterns
  repeat' first
    | with_reducible assumption
    | with_reducible exact .inl rfl
    | exact .inr (hL _ (by decide))
    | (extract_lets +onlyGivenNames x
       first
       | (refine sameStep (L := L) (s0 := s0) (x := x) (fun hx => ?_) ?_; clear_value x; rotate_left; subst x)
       | subst x)
    | with_reducible refine freeSpan_frame (parts_sub (by decide) hL) ?_
    | with_reducible refine draw_frame (parts_sub (by decide) hL) ?_
    | with_reducible refine SameBut.ofPair ?_ (by with_reducible assumption)
    | intro _ _ _
    | intro _ _
    | intro _
    | split
    | (simp only [same_lit]; with_reducible refine SameLit.of ?_ ?_ ?_ ?_ ?_ ?_ ?_ ?_ ?_ ?_ ?_ ?_ ?_ ?_ ?_ ?_ ?_ ?_ ?_ ?_ ?_ ?_ ?_ ?_ ?_ ?_ ?_ ?_ ?_ ?_ ?_ ?_ ?_ ?_ ?_ ?_ ?_ ?_ ?_ ?_)
    | exact .inl rfl
    | dsimp only
    | dsimp only [id]

theorem endTest_frame {L : List StatePart} {s0 : State} {clusters : List (Nat × Nat)} {engines : U32} {s : State}
    (hL : ∀ p ∈ [StatePart.memory, .pool, .det, .boot, .draws], p ∈ L) (hok : SameBut L s0 s) :
    SameBut L s0 (endTest clusters engines s) := by
  unfold endTest
  repeat' first
    | with_reducible assumption
    | with_reducible exact .inl rfl
    | exact .inr (hL _ (by decide))
    | (extract_lets +onlyGivenNames x
       first
       | (refine sameStep (L := L) (s0 := s0) (x := x) (fun hx => ?_) ?_; clear_value x; rotate_left; subst x)
       | (refine sameStep (L := L) (s0 := s0) (x := x.1) (fun hx => ?_) ?_; clear_value x; rotate_left; subst x)
       | subst x)
    | with_reducible refine SameBut.ite ?_ ?_
    | with_reducible refine movePatterns_frame (parts_sub (by decide) hL) ?_
    | with_reducible refine modBoot_frame (parts_sub (by decide) hL) ?_
    | with_reducible refine modDet_frame (parts_sub (by decide) hL) ?_
    | with_reducible refine placeClusters_frame (parts_sub (by decide) hL) ?_
    | with_reducible refine finishStep_frame (parts_sub (by decide) hL) ?_
    | intro _ _ _
    | intro _ _
    | intro _
    | split
    | (simp only [same_lit]; with_reducible refine SameLit.of ?_ ?_ ?_ ?_ ?_ ?_ ?_ ?_ ?_ ?_ ?_ ?_ ?_ ?_ ?_ ?_ ?_ ?_ ?_ ?_ ?_ ?_ ?_ ?_ ?_ ?_ ?_ ?_ ?_ ?_ ?_ ?_ ?_ ?_ ?_ ?_ ?_ ?_ ?_ ?_)
    | exact .inl rfl
    | dsimp only
    | dsimp only [id]

theorem execPublishMap_frame {rq : Requester} {s : State} :
    OutBut [StatePart.boot, .out] s (execPublishMap rq s) := by
  unfold execPublishMap
  refine OutBut.of (fun L s0 hL hok => ?_)
  repeat' first
    | with_reducible assumption
    | with_reducible refine bringUpWrite_frame (parts_sub (by decide) hL) ?_ ?_
    | intro _ _ _
    | intro _ _
    | intro _
    | dsimp only
    | dsimp only [id]

theorem endRunning_frame {L : List StatePart} {s0 : State} {clusters : List (Nat × Nat)} {engines : U32} {s : State}
    (hL : ∀ p ∈ [StatePart.memory, .pool, .det, .boot, .draws, .out], p ∈ L) (hok : SameBut L s0 s) :
    SameBut L s0 (endRunning clusters engines s) := by
  unfold endRunning
  repeat' first
    | with_reducible assumption
    | with_reducible exact .inl rfl
    | exact .inr (hL _ (by decide))
    | (extract_lets +onlyGivenNames x
       first
       | (refine sameStep (L := L) (s0 := s0) (x := x) (fun hx => ?_) ?_; clear_value x; rotate_left; subst x)
       | subst x)
    | with_reducible refine SameBut.ite ?_ ?_
    | with_reducible refine finishStep_frame (parts_sub (by decide) hL) ?_
    | with_reducible refine emit_frame (parts_sub (by decide) hL) ?_
    | with_reducible refine modBoot_frame (parts_sub (by decide) hL) ?_
    | with_reducible refine endTest_frame (parts_sub (by decide) hL) ?_
    | with_reducible refine rewriteMap_frame (parts_sub (by decide) hL) ?_
    | with_reducible refine SameBut.ofPair ?_ (by with_reducible assumption)
    | intro _ _ _
    | intro _ _
    | intro _
    | split
    | (simp only [same_lit]; with_reducible refine SameLit.of ?_ ?_ ?_ ?_ ?_ ?_ ?_ ?_ ?_ ?_ ?_ ?_ ?_ ?_ ?_ ?_ ?_ ?_ ?_ ?_ ?_ ?_ ?_ ?_ ?_ ?_ ?_ ?_ ?_ ?_ ?_ ?_ ?_ ?_ ?_ ?_ ?_ ?_ ?_ ?_)
    | exact .inl rfl
    | dsimp only
    | dsimp only [id]

theorem execBringupStepEnd_frame {clusters : List (Nat × Nat)} {engines : U32} {s : State} :
    OutBut [StatePart.memory, .pool, .det, .boot, .draws, .out] s (execBringupStepEnd clusters engines s) := by
  unfold execBringupStepEnd
  refine OutBut.of (fun L s0 hL hok => ?_)
  repeat' first
    | with_reducible assumption
    | with_reducible refine endRunning_frame (parts_sub (by decide) hL) ?_
    | intro _ _ _
    | intro _ _
    | intro _
    | dsimp only
    | dsimp only [id]

theorem startDeclare_frame {L : List StatePart} {s0 : State} {s : State}
    (hL : ∀ p ∈ [StatePart.boot], p ∈ L) (hok : SameBut L s0 s) :
    SameBut L s0 (startDeclare s) := by
  unfold startDeclare
  repeat' first
    | with_reducible assumption
    | with_reducible exact .inl rfl
    | exact .inr (hL _ (by decide))
    | (extract_lets +onlyGivenNames x
       first
       | (refine sameStep (L := L) (s0 := s0) (x := x) (fun hx => ?_) ?_; clear_value x; rotate_left; subst x)
       | subst x)
    | with_reducible refine finishStep_frame (parts_sub (by decide) hL) ?_
    | with_reducible refine modBoot_frame (parts_sub (by decide) hL) ?_
    | with_reducible refine SameBut.ofPair ?_ (by with_reducible assumption)
    | intro _ _ _
    | intro _ _
    | intro _
    | split
    | (simp only [same_lit]; with_reducible refine SameLit.of ?_ ?_ ?_ ?_ ?_ ?_ ?_ ?_ ?_ ?_ ?_ ?_ ?_ ?_ ?_ ?_ ?_ ?_ ?_ ?_ ?_ ?_ ?_ ?_ ?_ ?_ ?_ ?_ ?_ ?_ ?_ ?_ ?_ ?_ ?_ ?_ ?_ ?_ ?_ ?_)
    | exact .inl rfl
    | dsimp only
    | dsimp only [id]

theorem execDeclareReady_frame {rq : Requester} {s : State} :
    OutBut [StatePart.boot, .out] s (execDeclareReady rq s) := by
  unfold execDeclareReady
  refine OutBut.of (fun L s0 hL hok => ?_)
  repeat' first
    | with_reducible assumption
    | with_reducible refine bringUpWrite_frame (parts_sub (by decide) hL) ?_ ?_
    | with_reducible refine startDeclare_frame (parts_sub (by decide) hL) ?_
    | intro _ _ _
    | intro _ _
    | intro _
    | dsimp only
    | dsimp only [id]

theorem declareReady_frame {L : List StatePart} {s0 : State} {s : State}
    (hL : ∀ p ∈ [StatePart.fnState, .sec, .boot], p ∈ L) (hok : SameBut L s0 s) :
    SameBut L s0 (declareReady s) := by
  unfold declareReady
  repeat' first
    | with_reducible assumption
    | with_reducible exact .inl rfl
    | exact .inr (hL _ (by decide))
    | (extract_lets +onlyGivenNames x
       first
       | (refine sameStep (L := L) (s0 := s0) (x := x) (fun hx => ?_) ?_; clear_value x; rotate_left; subst x)
       | subst x)
    | with_reducible refine SameBut.ite ?_ ?_
    | with_reducible refine modSec_frame (parts_sub (by decide) hL) ?_
    | with_reducible refine finishStep_frame (parts_sub (by decide) hL) ?_
    | with_reducible refine modBoot_frame (parts_sub (by decide) hL) ?_
    | intro _ _ _
    | intro _ _
    | intro _
    | split
    | (simp only [same_lit]; with_reducible refine SameLit.of ?_ ?_ ?_ ?_ ?_ ?_ ?_ ?_ ?_ ?_ ?_ ?_ ?_ ?_ ?_ ?_ ?_ ?_ ?_ ?_ ?_ ?_ ?_ ?_ ?_ ?_ ?_ ?_ ?_ ?_ ?_ ?_ ?_ ?_ ?_ ?_ ?_ ?_ ?_ ?_)
    | exact .inl rfl
    | (left; simp only [List.map_map]; rfl)
    | (left; exact map_view (fun x => by unfold readied; split <;> rfl) _)
    | (left; exact map_view (fun x => by unfold unready; split <;> rfl) _)
    | dsimp only
    | dsimp only [id]

theorem execDeclareReadyComplete_frame {s : State} :
    OutBut [StatePart.fnState, .sec, .boot] s (execDeclareReadyComplete s) := by
  unfold execDeclareReadyComplete
  refine OutBut.of (fun L s0 hL hok => ?_)
  repeat' first
    | with_reducible assumption
    | with_reducible refine declareReady_frame (parts_sub (by decide) hL) ?_
    | intro _ _ _
    | intro _ _
    | intro _
    | dsimp only
    | dsimp only [id]

theorem startCalibration_frame {L : List StatePart} {s0 : State} {k : Nat} {s : State}
    (hL : ∀ p ∈ [StatePart.boot], p ∈ L) (hok : SameBut L s0 s) :
    SameBut L s0 (startCalibration k s) := by
  unfold startCalibration
  repeat' first
    | with_reducible assumption
    | with_reducible exact .inl rfl
    | exact .inr (hL _ (by decide))
    | (extract_lets +onlyGivenNames x
       first
       | (refine sameStep (L := L) (s0 := s0) (x := x) (fun hx => ?_) ?_; clear_value x; rotate_left; subst x)
       | subst x)
    | with_reducible refine modBoot_frame (parts_sub (by decide) hL) ?_
    | intro _ _ _
    | intro _ _
    | intro _
    | (simp only [same_lit]; with_reducible refine SameLit.of ?_ ?_ ?_ ?_ ?_ ?_ ?_ ?_ ?_ ?_ ?_ ?_ ?_ ?_ ?_ ?_ ?_ ?_ ?_ ?_ ?_ ?_ ?_ ?_ ?_ ?_ ?_ ?_ ?_ ?_ ?_ ?_ ?_ ?_ ?_ ?_ ?_ ?_ ?_ ?_)
    | exact .inl rfl
    | dsimp only
    | dsimp only [id]

theorem calibrate_frame {L : List StatePart} {s0 : State} {rq : Requester} {k : Nat} {s : State}
    (hL : ∀ p ∈ [StatePart.boot, .out], p ∈ L) (hok : SameBut L s0 s) :
    SameBut L s0 (calibrate rq k s) := by
  unfold calibrate
  repeat' first
    | with_reducible assumption
    | with_reducible refine requestWrite_frame (parts_sub (by decide) hL) ?_ ?_
    | with_reducible refine startCalibration_frame (parts_sub (by decide) hL) ?_
    | intro _ _ _
    | intro _ _
    | intro _
    | dsimp only
    | dsimp only [id]

theorem execPort0Lanes_frame {rq : Requester} {s : State} :
    OutBut [StatePart.boot, .out] s (execPort0Lanes rq s) := by
  unfold execPort0Lanes
  refine OutBut.of (fun L s0 hL hok => ?_)
  repeat' first
    | with_reducible assumption
    | with_reducible refine calibrate_frame (parts_sub (by decide) hL) ?_
    | intro _ _ _
    | intro _ _
    | intro _
    | dsimp only
    | dsimp only [id]

theorem execPortLanes_frame {rq : Requester} {p : Port} {s : State} :
    OutBut [StatePart.boot, .out] s (execPortLanes rq p s) := by
  unfold execPortLanes
  refine OutBut.of (fun L s0 hL hok => ?_)
  repeat' first
    | with_reducible assumption
    | with_reducible refine calibrate_frame (parts_sub (by decide) hL) ?_
    | intro _ _ _
    | intro _ _
    | intro _
    | dsimp only
    | dsimp only [id]

theorem execStackCalibrate_frame {rq : Requester} {st : Stack} {s : State} :
    OutBut [StatePart.boot, .out] s (execStackCalibrate rq st s) := by
  unfold execStackCalibrate
  refine OutBut.of (fun L s0 hL hok => ?_)
  repeat' first
    | with_reducible assumption
    | with_reducible refine calibrate_frame (parts_sub (by decide) hL) ?_
    | intro _ _ _
    | intro _ _
    | intro _
    | dsimp only
    | dsimp only [id]

theorem storeCalibration_frame {L : List StatePart} {s0 : State} {k : Nat} {v : Calibration} {s : State}
    (hL : ∀ p ∈ [StatePart.od, .stored, .counters, .mgmt, .int], p ∈ L) (hok : SameBut L s0 s) :
    SameBut L s0 (storeCalibration k v s) := by
  unfold storeCalibration
  repeat' first
    | with_reducible assumption
    | with_reducible refine SameBut.ite ?_ ?_
    | with_reducible refine foldState_frame (fun _ _ _ => ?_) ?_
    | with_reducible refine putObj_frame (parts_sub (by decide) hL) ?_
    | intro _ _ _
    | intro _ _
    | intro _
    | split
    | dsimp only
    | dsimp only [id]

theorem retrainAfter_frame {L : List StatePart} {s0 : State} {k : Nat} {s : State}
    (hL : ∀ p ∈ [StatePart.od, .stored, .counters, .mgmt, .links, .port0, .int, .sec, .boot, .draws, .out], p ∈ L) (hok : SameBut L s0 s) :
    SameBut L s0 (retrainAfter k s) := by
  unfold retrainAfter
  repeat' first
    | with_reducible assumption
    | with_reducible exact .inl rfl
    | exact .inr (hL _ (by decide))
    | exact .inl fun _ => rfl
    | (extract_lets +onlyGivenNames x
       first
       | (refine sameStep (L := L) (s0 := s0) (x := x) (fun hx => ?_) ?_; clear_value x; rotate_left; subst x)
       | subst x)
    | with_reducible refine SameBut.ite ?_ ?_
    | with_reducible refine requestMain_frame (parts_sub (by decide) hL) ?_
    | with_reducible refine emit_frame (parts_sub (by decide) hL) ?_
    | with_reducible refine linkLeavesL0_frame (parts_sub (by decide) hL) ?_
    | with_reducible refine modPort_frame ?_ ?_ ?_ ?_ ?_ 
    | intro _ _ _
    | intro _ _
    | intro _
    | split
    | (simp only [same_lit]; with_reducible refine SameLit.of ?_ ?_ ?_ ?_ ?_ ?_ ?_ ?_ ?_ ?_ ?_ ?_ ?_ ?_ ?_ ?_ ?_ ?_ ?_ ?_ ?_ ?_ ?_ ?_ ?_ ?_ ?_ ?_ ?_ ?_ ?_ ?_ ?_ ?_ ?_ ?_ ?_ ?_ ?_ ?_)
    | exact .inl fun x => by (repeat' split) <;> rfl
    | exact .inl rfl
    | dsimp only
    | dsimp only [id]

theorem endCalibration_frame {L : List StatePart} {s0 : State} {ok : Bool} {values : Calibration} {s : State}
    (hL : ∀ p ∈ [StatePart.od, .stored, .counters, .mgmt, .links, .port0, .int, .sec, .boot, .draws, .out], p ∈ L) (hok : SameBut L s0 s) :
    SameBut L s0 (endCalibration ok values s) := by
  unfold endCalibration
  repeat' first
    | with_reducible assumption
    | with_reducible exact .inl rfl
    | exact .inr (hL _ (by decide))
    | (extract_lets +onlyGivenNames x
       first
       | (refine sameStep (L := L) (s0 := s0) (x := x) (fun hx => ?_) ?_; clear_value x; rotate_left; subst x)
       | subst x)
    | with_reducible refine SameBut.ite ?_ ?_
    | with_reducible refine modBoot_frame (parts_sub (by decide) hL) ?_
    | with_reducible refine retrainAfter_frame (parts_sub (by decide) hL) ?_
    | with_reducible refine storeCalibration_frame (parts_sub (by decide) hL) ?_
    | with_reducible refine SameBut.ofPair ?_ (by with_reducible assumption)
    | intro _ _ _
    | intro _ _
    | intro _
    | split
    | (simp only [same_lit]; with_reducible refine SameLit.of ?_ ?_ ?_ ?_ ?_ ?_ ?_ ?_ ?_ ?_ ?_ ?_ ?_ ?_ ?_ ?_ ?_ ?_ ?_ ?_ ?_ ?_ ?_ ?_ ?_ ?_ ?_ ?_ ?_ ?_ ?_ ?_ ?_ ?_ ?_ ?_ ?_ ?_ ?_ ?_)
    | exact .inl rfl
    | dsimp only
    | dsimp only [id]

theorem execCalibrateDone_frame {ok : Bool} {values : Calibration} {s : State} :
    OutBut [StatePart.od, .stored, .counters, .mgmt, .links, .port0, .int, .sec, .boot, .draws, .out] s (execCalibrateDone ok values s) := by
  unfold execCalibrateDone
  refine OutBut.of (fun L s0 hL hok => ?_)
  repeat' first
    | with_reducible assumption
    | with_reducible refine endCalibration_frame (parts_sub (by decide) hL) ?_
    | intro _ _ _
    | intro _ _
    | intro _
    | dsimp only
    | dsimp only [id]


/-! ### Machine/Writes.lean -/

theorem stepStart_frame {L : List StatePart} {s0 : State}  {r0 : BringUpCmd} {s : State}
    (hL : ∀ p ∈ [StatePart.od, .stored, .counters, .mgmt, .requests, .ats, .port0, .int, .sec, .power, .boot, .draws, .out], p ∈ L) (hok : SameBut L s0 s) :
    SameBut L s0 (stepStart r0 s) := by
  cases r0 <;> unfold stepStart
  repeat' first
    | with_reducible assumption
    | with_reducible refine startPower_frame (parts_sub (by decide) hL) ?_
    | with_reducible refine startTrain_frame (parts_sub (by decide) hL) ?_
    | with_reducible refine startQualify_frame (parts_sub (by decide) hL) ?_
    | with_reducible refine startLoad_frame (parts_sub (by decide) hL) ?_
    | with_reducible refine startBroadcast_frame (parts_sub (by decide) hL) ?_
    | with_reducible refine emit_frame (parts_sub (by decide) hL) ?_
    | with_reducible refine declareReady_frame (parts_sub (by decide) hL) ?_
    | with_reducible refine startDeclare_frame (parts_sub (by decide) hL) ?_
    | intro _ _ _
    | intro _ _
    | intro _
    | dsimp only
    | dsimp only [id]

theorem startRestore_frame {L : List StatePart} {s0 : State} {s : State}
    (hL : ∀ p ∈ [StatePart.mgmt], p ∈ L) (hok : SameBut L s0 s) :
    SameBut L s0 (startRestore s) := by
  unfold startRestore
  repeat' first
    | with_reducible assumption
    | with_reducible exact .inl rfl
    | exact .inr (hL _ (by decide))
    | (extract_lets +onlyGivenNames x
       first
       | (refine sameStep (L := L) (s0 := s0) (x := x) (fun hx => ?_) ?_; clear_value x; rotate_left; subst x)
       | subst x)
    | with_reducible refine modMgmt_frame (parts_sub (by decide) hL) ?_
    | intro _ _ _
    | intro _ _
    | intro _
    | (simp only [same_lit]; with_reducible refine SameLit.of ?_ ?_ ?_ ?_ ?_ ?_ ?_ ?_ ?_ ?_ ?_ ?_ ?_ ?_ ?_ ?_ ?_ ?_ ?_ ?_ ?_ ?_ ?_ ?_ ?_ ?_ ?_ ?_ ?_ ?_ ?_ ?_ ?_ ?_ ?_ ?_ ?_ ?_ ?_ ?_)
    | exact .inl rfl
    | dsimp only
    | dsimp only [id]

theorem closeSlot_frame {L : List StatePart} {s0 : State} {k : Nat} {s : State}
    (hL : ∀ p ∈ [StatePart.mgmt], p ∈ L) (hok : SameBut L s0 s) :
    SameBut L s0 (closeSlot k s) := by
  unfold closeSlot
  repeat' first
    | with_reducible assumption
    | with_reducible exact .inl rfl
    | exact .inr (hL _ (by decide))
    | (extract_lets +onlyGivenNames x
       first
       | (refine sameStep (L := L) (s0 := s0) (x := x) (fun hx => ?_) ?_; clear_value x; rotate_left; subst x)
       | subst x)
    | with_reducible refine modMgmt_frame (parts_sub (by decide) hL) ?_
    | intro _ _ _
    | intro _ _
    | intro _
    | (simp only [same_lit]; with_reducible refine SameLit.of ?_ ?_ ?_ ?_ ?_ ?_ ?_ ?_ ?_ ?_ ?_ ?_ ?_ ?_ ?_ ?_ ?_ ?_ ?_ ?_ ?_ ?_ ?_ ?_ ?_ ?_ ?_ ?_ ?_ ?_ ?_ ?_ ?_ ?_ ?_ ?_ ?_ ?_ ?_ ?_)
    | exact .inl rfl
    | dsimp only
    | dsimp only [id]

theorem writeCredential_frame {L : List StatePart} {s0 : State} {ref : Ref} {v : Val} {s : State}
    (hL : ∀ p ∈ [StatePart.od, .stored, .counters, .mgmt, .int], p ∈ L) (hok : SameBut L s0 s) :
    SameBut L s0 (writeCredential ref v s) := by
  unfold writeCredential
  repeat' first
    | with_reducible assumption
    | (extract_lets +onlyGivenNames x
       first
       | (refine sameStep (L := L) (s0 := s0) (x := x) (fun hx => ?_) ?_; clear_value x; rotate_left; subst x)
       | subst x)
    | with_reducible refine SameBut.ite ?_ ?_
    | with_reducible refine putObj_frame (parts_sub (by decide) hL) ?_
    | with_reducible refine closeSlot_frame (parts_sub (by decide) hL) ?_
    | intro _ _ _
    | intro _ _
    | intro _
    | split
    | dsimp only
    | dsimp only [id]

theorem putMasked_frame {L : List StatePart} {s0 : State} {ref : Ref} {n : Nat} {s : State}
    (hL : ∀ p ∈ [StatePart.od, .stored, .counters, .mgmt, .int], p ∈ L) (hok : SameBut L s0 s) :
    SameBut L s0 (putMasked ref n s) := by
  unfold putMasked
  repeat' first
    | with_reducible assumption
    | with_reducible refine SameBut.ite ?_ ?_
    | with_reducible refine putObj_frame (parts_sub (by decide) hL) ?_
    | intro _ _ _
    | intro _ _
    | intro _
    | split
    | dsimp only
    | dsimp only [id]

theorem writeCoh_frame {L : List StatePart} {s0 : State} {ref : Ref} {v : Val} {s : State}
    (hL : ∀ p ∈ [StatePart.od, .stored, .counters, .mgmt, .int, .coherence, .out], p ∈ L) (hok : SameBut L s0 s) :
    SameBut L s0 (writeCoh ref v s) := by
  unfold writeCoh
  repeat' first
    | with_reducible assumption
    | (extract_lets +onlyGivenNames x
       first
       | (refine sameStep (L := L) (s0 := s0) (x := x) (fun hx => ?_) ?_; clear_value x; rotate_left; subst x)
       | (refine sameStep (L := L) (s0 := s0) (x := x.1) (fun hx => ?_) ?_; clear_value x; rotate_left; subst x)
       | subst x)
    | with_reducible refine SameBut.ite ?_ ?_
    | with_reducible refine enableCoh_frame (parts_sub (by decide) hL) ?_
    | with_reducible refine disableCoh_frame (parts_sub (by decide) hL) ?_
    | with_reducible refine putObj_frame (parts_sub (by decide) hL) ?_
    | with_reducible refine SameBut.ofPair ?_ (by with_reducible assumption)
    | intro _ _ _
    | intro _ _
    | intro _
    | split
    | dsimp only
    | dsimp only [id]

theorem applyUnits_frame {L : List StatePart} {s0 : State} {ref : Ref} {v : Val} {s : State}
    (hL : ∀ p ∈ [StatePart.od, .stored, .counters, .mgmt, .links, .intx, .requests, .ats, .port0, .fnCfg, .fnState, .admin, .faultq, .int, .capture, .fnOther, .ctxs, .objs, .slots, .cmds, .engines, .lookups, .peers, .windows, .coherence, .memory, .pool, .det, .err, .sec, .power, .boot, .draws, .out], p ∈ L) (hok : SameBut L s0 s) :
    SameBut L s0 (applyUnits ref v s) := by
  unfold applyUnits
  repeat' first
    | with_reducible assumption
    | (extract_lets +onlyGivenNames x
       first
       | (refine sameStep (L := L) (s0 := s0) (x := x) (fun hx => ?_) ?_; clear_value x; rotate_left; subst x)
       | subst x)
    | with_reducible refine SameBut.ite ?_ ?_
    | with_reducible refine startRestore_frame (parts_sub (by decide) hL) ?_
    | with_reducible refine writeCredential_frame (parts_sub (by decide) hL) ?_
    | with_reducible refine requestMain_frame (parts_sub (by decide) hL) ?_
    | with_reducible refine requestFallback_frame (parts_sub (by decide) hL) ?_
    | with_reducible refine setPortEnable_frame (parts_sub (by decide) hL) ?_
    | with_reducible refine setFnEnable_frame (parts_sub (by decide) hL) ?_
    | with_reducible refine serveWaits_frame (parts_sub (by decide) hL) ?_
    | with_reducible refine putObj_frame (parts_sub (by decide) hL) ?_
    | with_reducible refine startRepair_frame (parts_sub (by decide) hL) ?_
    | with_reducible refine startMargin_frame (parts_sub (by decide) hL) ?_
    | with_reducible refine writeCoh_frame (parts_sub (by decide) hL) ?_
    | with_reducible refine winRequest_frame (parts_sub (by decide) hL) ?_
    | with_reducible refine writePeerEntry_frame (parts_sub (by decide) hL) ?_
    | with_reducible refine startUnitRemap_frame (parts_sub (by decide) hL) ?_
    | with_reducible refine startStage_frame (parts_sub (by decide) hL) ?_
    | with_reducible refine putMasked_frame (parts_sub (by decide) hL) ?_
    | with_reducible refine setDelay_frame (parts_sub (by decide) hL) ?_
    | with_reducible refine setTargetDie_frame (parts_sub (by decide) hL) ?_
    | intro _ _ _
    | intro _ _
    | intro _
    | split
    | dsimp only
    | dsimp only [id]

theorem applySystem_frame {L : List StatePart} {s0 : State} {ref : Ref} {v : Val} {s : State}
    (hL : ∀ p ∈ [StatePart.od, .stored, .counters, .mgmt, .links, .intx, .requests, .ats, .port0, .fnCfg, .fnState, .admin, .faultq, .int, .capture, .fnOther, .ctxs, .objs, .slots, .cmds, .engines, .entries, .lookups, .peers, .windows, .coherence, .memory, .pool, .det, .err, .sec, .power, .boot, .draws, .out], p ∈ L) (hok : SameBut L s0 s) :
    SameBut L s0 (applySystem ref v s) := by
  unfold applySystem
  repeat' first
    | with_reducible assumption
    | with_reducible exact .inl rfl
    | exact .inr (hL _ (by decide))
    | (extract_lets +onlyGivenNames x
       first
       | (refine sameStep (L := L) (s0 := s0) (x := x) (fun hx => ?_) ?_; clear_value x; rotate_left; subst x)
       | subst x)
    | with_reducible refine SameBut.ite ?_ ?_
    | with_reducible refine startBlockReset_frame (parts_sub (by decide) hL) ?_
    | with_reducible refine releasePin_frame (parts_sub (by decide) hL) ?_
    | with_reducible refine modErr_frame (parts_sub (by decide) hL) ?_
    | with_reducible refine putMasked_frame (parts_sub (by decide) hL) ?_
    | with_reducible refine clearCounter_frame (parts_sub (by decide) hL) ?_
    | with_reducible refine burnMinSec_frame (parts_sub (by decide) hL) ?_
    | with_reducible refine acceptToken_frame (parts_sub (by decide) hL) ?_
    | with_reducible refine setWork_frame (parts_sub (by decide) hL) ?_
    | with_reducible refine requestSleep_frame (parts_sub (by decide) hL) ?_
    | with_reducible refine stepStart_frame (parts_sub (by decide) hL) ?_
    | with_reducible refine beginStep_frame (parts_sub (by decide) hL) ?_
    | with_reducible refine copyChunk_frame (parts_sub (by decide) hL) ?_
    | with_reducible refine startCalibration_frame (parts_sub (by decide) hL) ?_
    | with_reducible refine putObj_frame (parts_sub (by decide) hL) ?_
    | with_reducible refine SameBut.ofPair ?_ (by with_reducible assumption)
    | intro _ _ _
    | intro _ _
    | intro _
    | split
    | (simp only [same_lit]; with_reducible refine SameLit.of ?_ ?_ ?_ ?_ ?_ ?_ ?_ ?_ ?_ ?_ ?_ ?_ ?_ ?_ ?_ ?_ ?_ ?_ ?_ ?_ ?_ ?_ ?_ ?_ ?_ ?_ ?_ ?_ ?_ ?_ ?_ ?_ ?_ ?_ ?_ ?_ ?_ ?_ ?_ ?_)
    | exact .inl rfl
    | dsimp only
    | dsimp only [id]

theorem applyWrite_frame {L : List StatePart} {s0 : State} {ref : Ref} {v : Val} {s : State}
    (hL : ∀ p ∈ [StatePart.od, .stored, .counters, .mgmt, .links, .intx, .requests, .ats, .port0, .fnCfg, .fnState, .admin, .faultq, .int, .capture, .fnOther, .ctxs, .objs, .slots, .cmds, .engines, .entries, .lookups, .peers, .windows, .coherence, .memory, .pool, .det, .err, .sec, .power, .boot, .draws, .out], p ∈ L) (hok : SameBut L s0 s) :
    SameBut L s0 (applyWrite ref v s) := by
  unfold applyWrite
  repeat' first
    | with_reducible assumption
    | with_reducible refine SameBut.ite ?_ ?_
    | with_reducible refine applyUnits_frame (parts_sub (by decide) hL) ?_
    | with_reducible refine applySystem_frame (parts_sub (by decide) hL) ?_
    | intro _ _ _
    | intro _ _
    | intro _
    | split
    | dsimp only
    | dsimp only [id]


/-! ### Machine/Management.lean -/

theorem applyBatch_frame {L : List StatePart} {s0 : State} {batch : List WEntry} {s : State}
    (hL : ∀ p ∈ [StatePart.od, .stored, .counters, .mgmt, .links, .intx, .requests, .ats, .port0, .fnCfg, .fnState, .admin, .faultq, .int, .capture, .fnOther, .ctxs, .objs, .slots, .cmds, .engines, .entries, .lookups, .peers, .windows, .coherence, .memory, .pool, .det, .err, .sec, .power, .boot, .draws, .out], p ∈ L) (hok : SameBut L s0 s) :
    SameBut L s0 (applyBatch batch s) := by
  unfold applyBatch
  repeat' first
    | with_reducible assumption
    | with_reducible exact .inl rfl
    | exact .inr (hL _ (by decide))
    | (extract_lets +onlyGivenNames x
       first
       | (refine sameStep (L := L) (s0 := s0) (x := x) (fun hx => ?_) ?_; clear_value x; rotate_left; subst x)
       | subst x)
    | with_reducible refine foldState_frame (fun _ _ _ => ?_) ?_
    | with_reducible refine applyWrite_frame (parts_sub (by decide) hL) ?_
    | with_reducible refine SameBut.ofPair ?_ (by with_reducible assumption)
    | intro _ _ _
    | intro _ _
    | intro _
    | split
    | (simp only [same_lit]; with_reducible refine SameLit.of ?_ ?_ ?_ ?_ ?_ ?_ ?_ ?_ ?_ ?_ ?_ ?_ ?_ ?_ ?_ ?_ ?_ ?_ ?_ ?_ ?_ ?_ ?_ ?_ ?_ ?_ ?_ ?_ ?_ ?_ ?_ ?_ ?_ ?_ ?_ ?_ ?_ ?_ ?_ ?_)
    | exact .inl rfl
    | dsimp only
    | dsimp only [id]

theorem writeBatch_frame {L : List StatePart} {s0 : State} {rq : Requester} {batch : List WEntry} {flashFails : Bool} {s : State}
    (hL : ∀ p ∈ [StatePart.od, .stored, .counters, .mgmt, .links, .intx, .requests, .ats, .port0, .fnCfg, .fnState, .admin, .faultq, .int, .capture, .fnOther, .ctxs, .objs, .slots, .cmds, .engines, .entries, .lookups, .peers, .windows, .coherence, .memory, .pool, .det, .err, .sec, .power, .boot, .draws, .out], p ∈ L) (hok : SameBut L s0 s) :
    SameBut L s0 (writeBatch rq batch flashFails s).1 := by
  unfold writeBatch
  repeat' first
    | with_reducible assumption
    | (extract_lets +onlyGivenNames x
       first
       | (refine sameStep (L := L) (s0 := s0) (x := x) (fun hx => ?_) ?_; clear_value x; rotate_left; subst x)
       | (refine sameStep (L := L) (s0 := s0) (x := x.1) (fun hx => ?_) ?_; clear_value x; rotate_left; subst x)
       | subst x)
    | with_reducible refine SameBut.ite ?_ ?_
    | with_reducible refine raiseError_frame (parts_sub (by decide) hL) ?_
    | with_reducible refine applyBatch_frame (parts_sub (by decide) hL) ?_
    | intro _ _ _
    | intro _ _
    | intro _
    | split
    | dsimp only
    | dsimp only [id]

theorem setStaging_frame {L : List StatePart} {s0 : State} {rq : Requester} {sid : U32} {x : Option Staging} {s : State}
    (hL : ∀ p ∈ [StatePart.mgmt, .mbx], p ∈ L) (hok : SameBut L s0 s) :
    SameBut L s0 (setStaging rq sid x s) := by
  unfold setStaging
  repeat' first
    | with_reducible assumption
    | with_reducible exact .inl rfl
    | exact .inr (hL _ (by decide))
    | (extract_lets +onlyGivenNames x
       first
       | (refine sameStep (L := L) (s0 := s0) (x := x) (fun hx => ?_) ?_; clear_value x; rotate_left; subst x)
       | subst x)
    | with_reducible refine SameBut.ite ?_ ?_
    | with_reducible refine modMgmt_frame (parts_sub (by decide) hL) ?_
    | with_reducible refine modMbx_frame (parts_sub (by decide) hL) ?_
    | with_reducible refine SameBut.ofPair ?_ (by with_reducible assumption)
    | intro _ _ _
    | intro _ _
    | intro _
    | split
    | (simp only [same_lit]; with_reducible refine SameLit.of ?_ ?_ ?_ ?_ ?_ ?_ ?_ ?_ ?_ ?_ ?_ ?_ ?_ ?_ ?_ ?_ ?_ ?_ ?_ ?_ ?_ ?_ ?_ ?_ ?_ ?_ ?_ ?_ ?_ ?_ ?_ ?_ ?_ ?_ ?_ ?_ ?_ ?_ ?_ ?_)
    | exact .inl rfl
    | dsimp only
    | dsimp only [id]

theorem finalSegment_frame {L : List StatePart} {s0 : State} {rq : Requester} {sid : U32} {ref : Ref} {r : ObjRow} {b : Bytes} {flashFails : Bool} {s : State}
    (hL : ∀ p ∈ [StatePart.od, .stored, .counters, .mgmt, .links, .intx, .requests, .ats, .port0, .fnCfg, .fnState, .mbx, .admin, .faultq, .int, .capture, .fnOther, .ctxs, .objs, .slots, .cmds, .engines, .entries, .lookups, .peers, .windows, .coherence, .memory, .pool, .det, .err, .sec, .power, .boot, .draws, .out], p ∈ L) (hok : SameBut L s0 s) :
    SameBut L s0 (finalSegment rq sid ref r b flashFails s).1 := by
  unfold finalSegment
  repeat' first
    | with_reducible assumption
    | with_reducible exact .inl rfl
    | exact .inr (hL _ (by decide))
    | (extract_lets +onlyGivenNames x
       first
       | (refine sameStep (L := L) (s0 := s0) (x := x) (fun hx => ?_) ?_; clear_value x; rotate_left; subst x)
       | subst x)
    | with_reducible refine SameBut.ite ?_ ?_
    | with_reducible refine raiseError_frame (parts_sub (by decide) hL) ?_
    | with_reducible refine applyWrite_frame (parts_sub (by decide) hL) ?_
    | with_reducible refine setStaging_frame (parts_sub (by decide) hL) ?_
    | with_reducible refine SameBut.ofPair ?_ (by with_reducible assumption)
    | intro _ _ _
    | intro _ _
    | intro _
    | split
    | (simp only [same_lit]; with_reducible refine SameLit.of ?_ ?_ ?_ ?_ ?_ ?_ ?_ ?_ ?_ ?_ ?_ ?_ ?_ ?_ ?_ ?_ ?_ ?_ ?_ ?_ ?_ ?_ ?_ ?_ ?_ ?_ ?_ ?_ ?_ ?_ ?_ ?_ ?_ ?_ ?_ ?_ ?_ ?_ ?_ ?_)
    | exact .inl rfl
    | dsimp only
    | dsimp only [id]

theorem writePart_frame {L : List StatePart} {s0 : State} {rq : Requester} {sid : U32} {ref : Ref} {final : Bool} {off : Nat} {data : Bytes} {flashFails : Bool} {s : State}
    (hL : ∀ p ∈ [StatePart.od, .stored, .counters, .mgmt, .links, .intx, .requests, .ats, .port0, .fnCfg, .fnState, .mbx, .admin, .faultq, .int, .capture, .fnOther, .ctxs, .objs, .slots, .cmds, .engines, .entries, .lookups, .peers, .windows, .coherence, .memory, .pool, .det, .err, .sec, .power, .boot, .draws, .out], p ∈ L) (hok : SameBut L s0 s) :
    SameBut L s0 (writePart rq sid ref final off data flashFails s).1 := by
  unfold writePart
  repeat' first
    | with_reducible assumption
    | with_reducible exact .inl rfl
    | exact .inr (hL _ (by decide))
    | (extract_lets +onlyGivenNames x
       first
       | (refine sameStep (L := L) (s0 := s0) (x := x) (fun hx => ?_) ?_; clear_value x; rotate_left; subst x)
       | (refine sameStep (L := L) (s0 := s0) (x := x.1) (fun hx => ?_) ?_; clear_value x; rotate_left; subst x)
       | subst x)
    | with_reducible refine SameBut.ite ?_ ?_
    | with_reducible refine finalSegment_frame (parts_sub (by decide) hL) ?_
    | with_reducible refine setStaging_frame (parts_sub (by decide) hL) ?_
    | with_reducible refine SameBut.ofPair ?_ (by with_reducible assumption)
    | intro _ _ _
    | intro _ _
    | intro _
    | split
    | (simp only [same_lit]; with_reducible refine SameLit.of ?_ ?_ ?_ ?_ ?_ ?_ ?_ ?_ ?_ ?_ ?_ ?_ ?_ ?_ ?_ ?_ ?_ ?_ ?_ ?_ ?_ ?_ ?_ ?_ ?_ ?_ ?_ ?_ ?_ ?_ ?_ ?_ ?_ ?_ ?_ ?_ ?_ ?_ ?_ ?_)
    | exact .inl rfl
    | dsimp only
    | dsimp only [id]

theorem runAccess_frame {L : List StatePart} {s0 : State} {rq : Requester} {sid : U32} {a : Access} {flashFails : Bool} {s : State}
    (hL : ∀ p ∈ [StatePart.od, .stored, .counters, .mgmt, .links, .intx, .requests, .ats, .port0, .fnCfg, .fnState, .mbx, .admin, .faultq, .int, .capture, .fnOther, .ctxs, .objs, .slots, .cmds, .engines, .entries, .lookups, .peers, .windows, .coherence, .memory, .pool, .det, .err, .sec, .power, .boot, .draws, .out], p ∈ L) (hok : SameBut L s0 s) :
    SameBut L s0 (runAccess rq sid a flashFails s).1 := by
  unfold runAccess
  repeat' first
    | with_reducible assumption
    | with_reducible exact .inl rfl
    | exact .inr (hL _ (by decide))
    | (extract_lets +onlyGivenNames x
       first
       | (refine sameStep (L := L) (s0 := s0) (x := x) (fun hx => ?_) ?_; clear_value x; rotate_left; subst x)
       | (refine sameStep (L := L) (s0 := s0) (x := x.1) (fun hx => ?_) ?_; clear_value x; rotate_left; subst x)
       | subst x)
    | with_reducible refine writeBatch_frame (parts_sub (by decide) hL) ?_
    | with_reducible refine writePart_frame (parts_sub (by decide) hL) ?_
    | with_reducible refine SameBut.ofPair ?_ (by with_reducible assumption)
    | intro _ _ _
    | intro _ _
    | intro _
    | split
    | (simp only [same_lit]; with_reducible refine SameLit.of ?_ ?_ ?_ ?_ ?_ ?_ ?_ ?_ ?_ ?_ ?_ ?_ ?_ ?_ ?_ ?_ ?_ ?_ ?_ ?_ ?_ ?_ ?_ ?_ ?_ ?_ ?_ ?_ ?_ ?_ ?_ ?_ ?_ ?_ ?_ ?_ ?_ ?_ ?_ ?_)
    | exact .inl rfl
    | dsimp only
    | dsimp only [id]

theorem respondUnder_frame {L : List StatePart} {s0 : State} {key : Option Bytes} {a : NetAddr} {opcode : Nat} {st : FStatus} {sid seq : U32} {payload : Bytes} {s : State}
    (hL : ∀ p ∈ [StatePart.mgmt, .out], p ∈ L) (hok : SameBut L s0 s) :
    SameBut L s0 (respondUnder key a opcode st sid seq payload s) := by
  unfold respondUnder
  repeat' first
    | with_reducible assumption
    | with_reducible exact .inl rfl
    | exact .inr (hL _ (by decide))
    | (extract_lets +onlyGivenNames x
       first
       | (refine sameStep (L := L) (s0 := s0) (x := x) (fun hx => ?_) ?_; clear_value x; rotate_left; subst x)
       | subst x)
    | with_reducible refine SameBut.ite ?_ ?_
    | with_reducible refine sendNet_frame (parts_sub (by decide) hL) ?_
    | with_reducible refine modMgmt_frame (parts_sub (by decide) hL) ?_
    | intro _ _ _
    | intro _ _
    | intro _
    | split
    | (simp only [same_lit]; with_reducible refine SameLit.of ?_ ?_ ?_ ?_ ?_ ?_ ?_ ?_ ?_ ?_ ?_ ?_ ?_ ?_ ?_ ?_ ?_ ?_ ?_ ?_ ?_ ?_ ?_ ?_ ?_ ?_ ?_ ?_ ?_ ?_ ?_ ?_ ?_ ?_ ?_ ?_ ?_ ?_ ?_ ?_)
    | exact .inl rfl
    | dsimp only
    | dsimp only [id]

theorem respondIn_frame {L : List StatePart} {s0 : State} {a : NetAddr} {opcode : Nat} {st : FStatus} {sid seq : U32} {payload : Bytes} {s : State}
    (hL : ∀ p ∈ [StatePart.mgmt, .out], p ∈ L) (hok : SameBut L s0 s) :
    SameBut L s0 (respondIn a opcode st sid seq payload s) := by
  unfold respondIn
  repeat' first
    | with_reducible assumption
    | with_reducible refine respondUnder_frame (parts_sub (by decide) hL) ?_
    | intro _ _ _
    | intro _ _
    | intro _
    | dsimp only
    | dsimp only [id]

theorem netTurn_frame {L : List StatePart} {s0 : State} {flashFails : Bool} {s : State}
    (hL : ∀ p ∈ [StatePart.od, .stored, .counters, .mgmt, .links, .intx, .requests, .ats, .port0, .fnCfg, .fnState, .mbx, .admin, .faultq, .int, .capture, .fnOther, .ctxs, .objs, .slots, .cmds, .engines, .entries, .lookups, .peers, .windows, .coherence, .memory, .pool, .det, .err, .sec, .power, .boot, .draws, .out], p ∈ L) (hok : SameBut L s0 s) :
    SameBut L s0 (netTurn flashFails s) := by
  unfold netTurn
  repeat' first
    | with_reducible assumption
    | with_reducible exact .inl rfl
    | exact .inr (hL _ (by decide))
    | (extract_lets +onlyGivenNames x
       first
       | (refine sameStep (L := L) (s0 := s0) (x := x) (fun hx => ?_) ?_; clear_value x; rotate_left; subst x)
       | (refine sameStep (L := L) (s0 := s0) (x := x.1) (fun hx => ?_) ?_; clear_value x; rotate_left; subst x)
       | subst x)
    | with_reducible refine modMgmt_frame (parts_sub (by decide) hL) ?_
    | with_reducible refine runAccess_frame (parts_sub (by decide) hL) ?_
    | with_reducible refine respondUnder_frame (parts_sub (by decide) hL) ?_
    | with_reducible refine SameBut.ofPair ?_ (by with_reducible assumption)
    | intro _ _ _
    | intro _ _
    | intro _
    | split
    | (simp only [same_lit]; with_reducible refine SameLit.of ?_ ?_ ?_ ?_ ?_ ?_ ?_ ?_ ?_ ?_ ?_ ?_ ?_ ?_ ?_ ?_ ?_ ?_ ?_ ?_ ?_ ?_ ?_ ?_ ?_ ?_ ?_ ?_ ?_ ?_ ?_ ?_ ?_ ?_ ?_ ?_ ?_ ?_ ?_ ?_)
    | exact .inl rfl
    | dsimp only
    | dsimp only [id]

theorem mbxTurn_frame {L : List StatePart} {s0 : State} {g : Fun} {flashFails : Bool} {s : State}
    (hL : ∀ p ∈ [StatePart.od, .stored, .counters, .mgmt, .links, .intx, .requests, .ats, .port0, .fnCfg, .fnState, .mbx, .admin, .faultq, .int, .capture, .fnOther, .ctxs, .objs, .slots, .cmds, .engines, .entries, .lookups, .peers, .windows, .coherence, .memory, .pool, .det, .err, .sec, .power, .boot, .draws, .out], p ∈ L) (hok : SameBut L s0 s) :
    SameBut L s0 (mbxTurn g flashFails s) := by
  unfold mbxTurn
  repeat' first
    | with_reducible assumption
    | with_reducible exact .inl rfl
    | exact .inr (hL _ (by decide))
    | (extract_lets +onlyGivenNames x
       first
       | (refine sameStep (L := L) (s0 := s0) (x := x) (fun hx => ?_) ?_; clear_value x; rotate_left; subst x)
       | (refine sameStep (L := L) (s0 := s0) (x := x.1) (fun hx => ?_) ?_; clear_value x; rotate_left; subst x)
       | subst x)
    | with_reducible refine runAccess_frame (parts_sub (by decide) hL) ?_
    | with_reducible refine modMbx_frame (parts_sub (by decide) hL) ?_
    | with_reducible refine SameBut.ofPair ?_ (by with_reducible assumption)
    | intro _ _ _
    | intro _ _
    | intro _
    | split
    | (simp only [same_lit]; with_reducible refine SameLit.of ?_ ?_ ?_ ?_ ?_ ?_ ?_ ?_ ?_ ?_ ?_ ?_ ?_ ?_ ?_ ?_ ?_ ?_ ?_ ?_ ?_ ?_ ?_ ?_ ?_ ?_ ?_ ?_ ?_ ?_ ?_ ?_ ?_ ?_ ?_ ?_ ?_ ?_ ?_ ?_)
    | exact .inl rfl
    | dsimp only
    | dsimp only [id]

theorem engineTurn33_frame {L : List StatePart} {s0 : State} {flashFails : Bool} {s : State}
    (hL : ∀ p ∈ [StatePart.od, .stored, .counters, .mgmt, .links, .intx, .requests, .ats, .port0, .fnCfg, .fnState, .mbx, .admin, .faultq, .int, .capture, .fnOther, .ctxs, .objs, .slots, .cmds, .engines, .entries, .lookups, .peers, .windows, .coherence, .memory, .pool, .det, .err, .sec, .power, .boot, .draws, .out], p ∈ L) (hok : SameBut L s0 s) :
    SameBut L s0 (engineTurn33 flashFails s) := by
  unfold engineTurn33
  repeat' first
    | with_reducible assumption
    | with_reducible exact .inl rfl
    | exact .inr (hL _ (by decide))
    | (extract_lets +onlyGivenNames x
       first
       | (refine sameStep (L := L) (s0 := s0) (x := x) (fun hx => ?_) ?_; clear_value x; rotate_left; subst x)
       | subst x)
    | with_reducible refine SameBut.ite ?_ ?_
    | with_reducible refine modMgmt_frame (parts_sub (by decide) hL) ?_
    | with_reducible refine netTurn_frame (parts_sub (by decide) hL) ?_
    | with_reducible refine mbxTurn_frame (parts_sub (by decide) hL) ?_
    | with_reducible refine SameBut.ofPair ?_ (by with_reducible assumption)
    | intro _ _ _
    | intro _ _
    | intro _
    | split
    | (simp only [same_lit]; with_reducible refine SameLit.of ?_ ?_ ?_ ?_ ?_ ?_ ?_ ?_ ?_ ?_ ?_ ?_ ?_ ?_ ?_ ?_ ?_ ?_ ?_ ?_ ?_ ?_ ?_ ?_ ?_ ?_ ?_ ?_ ?_ ?_ ?_ ?_ ?_ ?_ ?_ ?_ ?_ ?_ ?_ ?_)
    | exact .inl rfl
    | dsimp only
    | dsimp only [id]

theorem execDictionaryEngineTurn_frame {flashFails : Bool} {s : State} :
    OutBut [StatePart.od, .stored, .counters, .mgmt, .links, .intx, .requests, .ats, .port0, .fnCfg, .fnState, .mbx, .admin, .faultq, .int, .capture, .fnOther, .ctxs, .objs, .slots, .cmds, .engines, .entries, .lookups, .peers, .windows, .coherence, .memory, .pool, .det, .err, .sec, .power, .boot, .draws, .out] s (execDictionaryEngineTurn flashFails s) := by
  unfold execDictionaryEngineTurn
  refine OutBut.of (fun L s0 hL hok => ?_)
  repeat' first
    | with_reducible assumption
    | with_reducible refine engineTurn33_frame (parts_sub (by decide) hL) ?_
    | intro _ _ _
    | intro _ _
    | intro _
    | dsimp only
    | dsimp only [id]

theorem answerFree_frame {L : List StatePart} {s0 : State} {a : NetAddr} {opcode : Nat} {st : FStatus} {seq : U32} {payload : Bytes} {s : State}
    (hL : ∀ p ∈ [StatePart.mgmt, .out], p ∈ L) (hok : SameBut L s0 s) :
    SameBut L s0 (answerFree a opcode st seq payload s) := by
  unfold answerFree
  repeat' first
    | with_reducible assumption
    | with_reducible refine sendNet_frame (parts_sub (by decide) hL) ?_
    | intro _ _ _
    | intro _ _
    | intro _
    | dsimp only
    | dsimp only [id]

theorem openSession_frame {L : List StatePart} {s0 : State} {src : NetAddr} {seq : U32} {b : Bytes} {s : State}
    (hL : ∀ p ∈ [StatePart.mgmt, .sec, .draws, .out], p ∈ L) (hok : SameBut L s0 s) :
    SameBut L s0 (openSession src seq b s) := by
  unfold openSession
  repeat' first
    | with_reducible assumption
    | with_reducible exact .inl rfl
    | exact .inr (hL _ (by decide))
    | (extract_lets +onlyGivenNames x
       first
       | (refine sameStep (L := L) (s0 := s0) (x := x) (fun hx => ?_) ?_; clear_value x; rotate_left; subst x)
       | (refine sameStep (L := L) (s0 := s0) (x := x.1) (fun hx => ?_) ?_; clear_value x; rotate_left; subst x)
       | subst x)
    | with_reducible refine SameBut.ite ?_ ?_
    | with_reducible refine answerFree_frame (parts_sub (by decide) hL) ?_
    | with_reducible refine drawBytes_frame (parts_sub (by decide) hL) ?_
    | with_reducible refine modMgmt_frame (parts_sub (by decide) hL) ?_
    | with_reducible refine SameBut.ofPair ?_ (by with_reducible assumption)
    | intro _ _ _
    | intro _ _
    | intro _
    | split
    | (simp only [same_lit]; with_reducible refine SameLit.of ?_ ?_ ?_ ?_ ?_ ?_ ?_ ?_ ?_ ?_ ?_ ?_ ?_ ?_ ?_ ?_ ?_ ?_ ?_ ?_ ?_ ?_ ?_ ?_ ?_ ?_ ?_ ?_ ?_ ?_ ?_ ?_ ?_ ?_ ?_ ?_ ?_ ?_ ?_ ?_)
    | exact .inl rfl
    | dsimp only
    | dsimp only [id]

theorem execHmpOpenSession_frame {src : NetAddr} {seq : U32} {b : Bytes} {s : State} :
    OutBut [StatePart.mgmt, .sec, .draws, .out] s (execHmpOpenSession src seq b s) := by
  unfold execHmpOpenSession
  refine OutBut.of (fun L s0 hL hok => ?_)
  repeat' first
    | with_reducible assumption
    | with_reducible refine SameBut.ite ?_ ?_
    | with_reducible refine openSession_frame (parts_sub (by decide) hL) ?_
    | intro _ _ _
    | intro _ _
    | intro _
    | split
    | dsimp only
    | dsimp only [id]

theorem authFailed_frame {L : List StatePart} {s0 : State} {k : Slot} {s : State}
    (hL : ∀ p ∈ [StatePart.mgmt], p ∈ L) (hok : SameBut L s0 s) :
    SameBut L s0 (authFailed k s) := by
  unfold authFailed
  repeat' first
    | with_reducible assumption
    | with_reducible exact .inl rfl
    | exact .inr (hL _ (by decide))
    | (extract_lets +onlyGivenNames x
       first
       | (refine sameStep (L := L) (s0 := s0) (x := x) (fun hx => ?_) ?_; clear_value x; rotate_left; subst x)
       | (refine sameStep (L := L) (s0 := s0) (x := x.1) (fun hx => ?_) ?_; clear_value x; rotate_left; subst x)
       | subst x)
    | with_reducible refine SameBut.ite ?_ ?_
    | with_reducible refine modMgmt_frame (parts_sub (by decide) hL) ?_
    | intro _ _ _
    | intro _ _
    | intro _
    | split
    | (simp only [same_lit]; with_reducible refine SameLit.of ?_ ?_ ?_ ?_ ?_ ?_ ?_ ?_ ?_ ?_ ?_ ?_ ?_ ?_ ?_ ?_ ?_ ?_ ?_ ?_ ?_ ?_ ?_ ?_ ?_ ?_ ?_ ?_ ?_ ?_ ?_ ?_ ?_ ?_ ?_ ?_ ?_ ?_ ?_ ?_)
    | exact .inl rfl
    | dsimp only
    | dsimp only [id]

theorem prove_frame {L : List StatePart} {s0 : State} {src : NetAddr} {seq : U32} {b : Bytes} {s : State}
    (hL : ∀ p ∈ [StatePart.mgmt, .out], p ∈ L) (hok : SameBut L s0 s) :
    SameBut L s0 (prove src seq b s) := by
  unfold prove
  repeat' first
    | with_reducible assumption
    | with_reducible exact .inl rfl
    | exact .inr (hL _ (by decide))
    | (extract_lets +onlyGivenNames x
       first
       | (refine sameStep (L := L) (s0 := s0) (x := x) (fun hx => ?_) ?_; clear_value x; rotate_left; subst x)
       | subst x)
    | with_reducible refine SameBut.ite ?_ ?_
    | with_reducible refine answerFree_frame (parts_sub (by decide) hL) ?_
    | with_reducible refine modMgmt_frame (parts_sub (by decide) hL) ?_
    | with_reducible refine authFailed_frame (parts_sub (by decide) hL) ?_
    | with_reducible refine SameBut.ofPair ?_ (by with_reducible assumption)
    | intro _ _ _
    | intro _ _
    | intro _
    | split
    | (simp only [same_lit]; with_reducible refine SameLit.of ?_ ?_ ?_ ?_ ?_ ?_ ?_ ?_ ?_ ?_ ?_ ?_ ?_ ?_ ?_ ?_ ?_ ?_ ?_ ?_ ?_ ?_ ?_ ?_ ?_ ?_ ?_ ?_ ?_ ?_ ?_ ?_ ?_ ?_ ?_ ?_ ?_ ?_ ?_ ?_)
    | exact .inl rfl
    | dsimp only
    | dsimp only [id]

theorem execHmpProve_frame {src : NetAddr} {seq : U32} {b : Bytes} {s : State} :
    OutBut [StatePart.mgmt, .out] s (execHmpProve src seq b s) := by
  unfold execHmpProve
  refine OutBut.of (fun L s0 hL hok => ?_)
  repeat' first
    | with_reducible assumption
    | with_reducible refine SameBut.ite ?_ ?_
    | with_reducible refine prove_frame (parts_sub (by decide) hL) ?_
    | intro _ _ _
    | intro _ _
    | intro _
    | split
    | dsimp only
    | dsimp only [id]

theorem acceptSeq_frame {L : List StatePart} {s0 : State} {h : HmpHdr} {opcode : Nat} {s : State}
    (hL : ∀ p ∈ [StatePart.mgmt], p ∈ L) (hok : SameBut L s0 s) :
    SameBut L s0 (acceptSeq h opcode s) := by
  unfold acceptSeq
  repeat' first
    | with_reducible assumption
    | with_reducible exact .inl rfl
    | exact .inr (hL _ (by decide))
    | (extract_lets +onlyGivenNames x
       first
       | (refine sameStep (L := L) (s0 := s0) (x := x) (fun hx => ?_) ?_; clear_value x; rotate_left; subst x)
       | subst x)
    | with_reducible refine SameBut.ite ?_ ?_
    | with_reducible refine modMgmt_frame (parts_sub (by decide) hL) ?_
    | intro _ _ _
    | intro _ _
    | intro _
    | split
    | (simp only [same_lit]; with_reducible refine SameLit.of ?_ ?_ ?_ ?_ ?_ ?_ ?_ ?_ ?_ ?_ ?_ ?_ ?_ ?_ ?_ ?_ ?_ ?_ ?_ ?_ ?_ ?_ ?_ ?_ ?_ ?_ ?_ ?_ ?_ ?_ ?_ ?_ ?_ ?_ ?_ ?_ ?_ ?_ ?_ ?_)
    | exact .inl rfl
    | dsimp only
    | dsimp only [id]

theorem inSession_frame {L : List StatePart} {s0 : State} {h : HmpHdr} {opcode n : Nat} {act : Session → State → State} {s : State}
    (hL : ∀ p ∈ [StatePart.counters, .mgmt, .int, .out], p ∈ L) (h_act : ∀ a0 t, SameBut L s0 t → SameBut L s0 (act a0 t)) (hok : SameBut L s0 s) :
    SameBut L s0 (inSession h opcode n act s) := by
  unfold inSession
  repeat' first
    | with_reducible assumption
    | with_reducible exact .inl rfl
    | exact .inr (hL _ (by decide))
    | (extract_lets +onlyGivenNames x
       first
       | (refine sameStep (L := L) (s0 := s0) (x := x) (fun hx => ?_) ?_; clear_value x; rotate_left; subst x)
       | subst x)
    | with_reducible refine SameBut.ite ?_ ?_
    | with_reducible apply h_act
    | with_reducible refine answerFree_frame (parts_sub (by decide) hL) ?_
    | with_reducible refine acceptSeq_frame (parts_sub (by decide) hL) ?_
    | with_reducible refine modMgmt_frame (parts_sub (by decide) hL) ?_
    | with_reducible refine sendNet_frame (parts_sub (by decide) hL) ?_
    | with_reducible refine countPackage_frame (parts_sub (by decide) hL) ?_
    | with_reducible refine SameBut.ofPair ?_ (by with_reducible assumption)
    | intro _ _ _
    | intro _ _
    | intro _
    | split
    | (simp only [same_lit]; with_reducible refine SameLit.of ?_ ?_ ?_ ?_ ?_ ?_ ?_ ?_ ?_ ?_ ?_ ?_ ?_ ?_ ?_ ?_ ?_ ?_ ?_ ?_ ?_ ?_ ?_ ?_ ?_ ?_ ?_ ?_ ?_ ?_ ?_ ?_ ?_ ?_ ?_ ?_ ?_ ?_ ?_ ?_)
    | exact .inl rfl
    | dsimp only
    | dsimp only [id]

theorem queueAccess_frame {L : List StatePart} {s0 : State} {h : HmpHdr} {opcode : Nat} {a : Option Access} {x : Session} {s : State}
    (hL : ∀ p ∈ [StatePart.mgmt, .out], p ∈ L) (hok : SameBut L s0 s) :
    SameBut L s0 (queueAccess h opcode a x s) := by
  unfold queueAccess
  repeat' first
    | with_reducible assumption
    | with_reducible exact .inl rfl
    | exact .inr (hL _ (by decide))
    | (extract_lets +onlyGivenNames x
       first
       | (refine sameStep (L := L) (s0 := s0) (x := x) (fun hx => ?_) ?_; clear_value x; rotate_left; subst x)
       | subst x)
    | with_reducible refine respondIn_frame (parts_sub (by decide) hL) ?_
    | with_reducible refine modMgmt_frame (parts_sub (by decide) hL) ?_
    | with_reducible refine SameBut.ofPair ?_ (by with_reducible assumption)
    | intro _ _ _
    | intro _ _
    | intro _
    | split
    | (simp only [same_lit]; with_reducible refine SameLit.of ?_ ?_ ?_ ?_ ?_ ?_ ?_ ?_ ?_ ?_ ?_ ?_ ?_ ?_ ?_ ?_ ?_ ?_ ?_ ?_ ?_ ?_ ?_ ?_ ?_ ?_ ?_ ?_ ?_ ?_ ?_ ?_ ?_ ?_ ?_ ?_ ?_ ?_ ?_ ?_)
    | exact .inl rfl
    | dsimp only
    | dsimp only [id]

theorem execHmpRead_frame {h : HmpHdr} {b : Bytes} {s : State} :
    OutBut [StatePart.counters, .mgmt, .int, .out] s (execHmpRead h b s) := by
  unfold execHmpRead
  refine OutBut.of (fun L s0 hL hok => ?_)
  repeat' first
    | with_reducible assumption
    | with_reducible refine inSession_frame (parts_sub (by decide) hL) ?_ ?_
    | with_reducible refine queueAccess_frame (parts_sub (by decide) hL) ?_
    | intro _ _ _
    | intro _ _
    | intro _
    | dsimp only
    | dsimp only [id]

theorem execHmpWrite_frame {h : HmpHdr} {b : Bytes} {s : State} :
    OutBut [StatePart.counters, .mgmt, .int, .out] s (execHmpWrite h b s) := by
  unfold execHmpWrite
  refine OutBut.of (fun L s0 hL hok => ?_)
  repeat' first
    | with_reducible assumption
    | with_reducible refine inSession_frame (parts_sub (by decide) hL) ?_ ?_
    | with_reducible refine queueAccess_frame (parts_sub (by decide) hL) ?_
    | intro _ _ _
    | intro _ _
    | intro _
    | dsimp only
    | dsimp only [id]

theorem execHmpReadSegment_frame {h : HmpHdr} {b : Bytes} {s : State} :
    OutBut [StatePart.counters, .mgmt, .int, .out] s (execHmpReadSegment h b s) := by
  unfold execHmpReadSegment
  refine OutBut.of (fun L s0 hL hok => ?_)
  repeat' first
    | with_reducible assumption
    | with_reducible refine inSession_frame (parts_sub (by decide) hL) ?_ ?_
    | with_reducible refine queueAccess_frame (parts_sub (by decide) hL) ?_
    | intro _ _ _
    | intro _ _
    | intro _
    | dsimp only
    | dsimp only [id]

theorem execHmpWriteSegment_frame {h : HmpHdr} {b : Bytes} {s : State} :
    OutBut [StatePart.counters, .mgmt, .int, .out] s (execHmpWriteSegment h b s) := by
  unfold execHmpWriteSegment
  refine OutBut.of (fun L s0 hL hok => ?_)
  repeat' first
    | with_reducible assumption
    | with_reducible refine inSession_frame (parts_sub (by decide) hL) ?_ ?_
    | with_reducible refine queueAccess_frame (parts_sub (by decide) hL) ?_
    | intro _ _ _
    | intro _ _
    | intro _
    | dsimp only
    | dsimp only [id]

theorem execHmpList_frame {h : HmpHdr} {b : Bytes} {s : State} :
    OutBut [StatePart.counters, .mgmt, .int, .out] s (execHmpList h b s) := by
  unfold execHmpList
  refine OutBut.of (fun L s0 hL hok => ?_)
  repeat' first
    | with_reducible assumption
    | with_reducible refine inSession_frame (parts_sub (by decide) hL) ?_ ?_
    | with_reducible refine queueAccess_frame (parts_sub (by decide) hL) ?_
    | intro _ _ _
    | intro _ _
    | intro _
    | dsimp only
    | dsimp only [id]

theorem endSession33_frame {L : List StatePart} {s0 : State} {sid : U32} {s : State}
    (hL : ∀ p ∈ [StatePart.mgmt], p ∈ L) (hok : SameBut L s0 s) :
    SameBut L s0 (endSession33 sid s) := by
  unfold endSession33
  repeat' first
    | with_reducible assumption
    | with_reducible exact .inl rfl
    | exact .inr (hL _ (by decide))
    | (extract_lets +onlyGivenNames x
       first
       | (refine sameStep (L := L) (s0 := s0) (x := x) (fun hx => ?_) ?_; clear_value x; rotate_left; subst x)
       | subst x)
    | with_reducible refine modMgmt_frame (parts_sub (by decide) hL) ?_
    | intro _ _ _
    | intro _ _
    | intro _
    | (simp only [same_lit]; with_reducible refine SameLit.of ?_ ?_ ?_ ?_ ?_ ?_ ?_ ?_ ?_ ?_ ?_ ?_ ?_ ?_ ?_ ?_ ?_ ?_ ?_ ?_ ?_ ?_ ?_ ?_ ?_ ?_ ?_ ?_ ?_ ?_ ?_ ?_ ?_ ?_ ?_ ?_ ?_ ?_ ?_ ?_)
    | exact .inl rfl
    | dsimp only
    | dsimp only [id]

theorem execHmpCloseSession_frame {h : HmpHdr} {s : State} :
    OutBut [StatePart.counters, .mgmt, .int, .out] s (execHmpCloseSession h s) := by
  unfold execHmpCloseSession
  refine OutBut.of (fun L s0 hL hok => ?_)
  repeat' first
    | with_reducible assumption
    | with_reducible refine inSession_frame (parts_sub (by decide) hL) ?_ ?_
    | with_reducible refine endSession33_frame (parts_sub (by decide) hL) ?_
    | with_reducible refine respondIn_frame (parts_sub (by decide) hL) ?_
    | intro _ _ _
    | intro _ _
    | intro _
    | dsimp only
    | dsimp only [id]

theorem execHmpBadOpcode_frame {h : HmpHdr} {opcode : U16} {s : State} :
    OutBut [StatePart.counters, .mgmt, .int, .out] s (execHmpBadOpcode h opcode s) := by
  unfold execHmpBadOpcode
  refine OutBut.of (fun L s0 hL hok => ?_)
  repeat' first
    | with_reducible assumption
    | (extract_lets +onlyGivenNames x
       first
       | (refine sameStep (L := L) (s0 := s0) (x := x) (fun hx => ?_) ?_; clear_value x; rotate_left; subst x)
       | subst x)
    | with_reducible refine SameBut.ite ?_ ?_
    | with_reducible refine answerFree_frame (parts_sub (by decide) hL) ?_
    | with_reducible refine badOpcode_frame (parts_sub (by decide) hL) ?_
    | with_reducible refine inSession_frame (parts_sub (by decide) hL) ?_ ?_
    | with_reducible refine respondIn_frame (parts_sub (by decide) hL) ?_
    | intro _ _ _
    | intro _ _
    | intro _
    | split
    | dsimp only
    | dsimp only [id]

theorem dropFrame_frame {L : List StatePart} {s0 : State} {src : NetAddr} {b : Bytes} {s : State}
    (hL : ∀ p ∈ [StatePart.counters, .int], p ∈ L) (hok : SameBut L s0 s) :
    SameBut L s0 (dropFrame src b s) := by
  unfold dropFrame
  repeat' first
    | with_reducible assumption
    | with_reducible refine SameBut.ite ?_ ?_
    | with_reducible refine countPackage_frame (parts_sub (by decide) hL) ?_
    | intro _ _ _
    | intro _ _
    | intro _
    | split
    | dsimp only
    | dsimp only [id]

theorem execHmpFrameDropped_frame {d : UdpIn} {s : State} :
    OutBut [StatePart.counters, .int] s (execHmpFrameDropped d s) := by
  unfold execHmpFrameDropped
  refine OutBut.of (fun L s0 hL hok => ?_)
  repeat' first
    | with_reducible assumption
    | with_reducible refine dropFrame_frame (parts_sub (by decide) hL) ?_
    | intro _ _ _
    | intro _ _
    | intro _
    | dsimp only
    | dsimp only [id]

theorem execPendingSessionExpiry_frame {sid : U32} {s : State} :
    OutBut [StatePart.mgmt] s (execPendingSessionExpiry sid s) := by
  unfold execPendingSessionExpiry
  refine OutBut.of (fun L s0 hL hok => ?_)
  repeat' first
    | with_reducible assumption
    | with_reducible exact .inl rfl
    | exact .inr (hL _ (by decide))
    | (extract_lets +onlyGivenNames x
       first
       | (refine sameStep (L := L) (s0 := s0) (x := x) (fun hx => ?_) ?_; clear_value x; rotate_left; subst x)
       | subst x)
    | with_reducible refine modMgmt_frame (parts_sub (by decide) hL) ?_
    | intro _ _ _
    | intro _ _
    | intro _
    | (simp only [same_lit]; with_reducible refine SameLit.of ?_ ?_ ?_ ?_ ?_ ?_ ?_ ?_ ?_ ?_ ?_ ?_ ?_ ?_ ?_ ?_ ?_ ?_ ?_ ?_ ?_ ?_ ?_ ?_ ?_ ?_ ?_ ?_ ?_ ?_ ?_ ?_ ?_ ?_ ?_ ?_ ?_ ?_ ?_ ?_)
    | exact .inl rfl
    | dsimp only
    | dsimp only [id]

theorem execSessionIdleExpiry_frame {sid : U32} {s : State} :
    OutBut [StatePart.mgmt] s (execSessionIdleExpiry sid s) := by
  unfold execSessionIdleExpiry
  refine OutBut.of (fun L s0 hL hok => ?_)
  repeat' first
    | with_reducible assumption
    | with_reducible exact .inl rfl
    | exact .inr (hL _ (by decide))
    | (extract_lets +onlyGivenNames x
       first
       | (refine sameStep (L := L) (s0 := s0) (x := x) (fun hx => ?_) ?_; clear_value x; rotate_left; subst x)
       | subst x)
    | with_reducible refine modMgmt_frame (parts_sub (by decide) hL) ?_
    | intro _ _ _
    | intro _ _
    | intro _
    | (simp only [same_lit]; with_reducible refine SameLit.of ?_ ?_ ?_ ?_ ?_ ?_ ?_ ?_ ?_ ?_ ?_ ?_ ?_ ?_ ?_ ?_ ?_ ?_ ?_ ?_ ?_ ?_ ?_ ?_ ?_ ?_ ?_ ?_ ?_ ?_ ?_ ?_ ?_ ?_ ?_ ?_ ?_ ?_ ?_ ?_)
    | exact .inl rfl
    | dsimp only
    | dsimp only [id]

theorem execSlotLockExpiry_frame {k : Slot} {s : State} :
    OutBut [StatePart.mgmt] s (execSlotLockExpiry k s) := by
  unfold execSlotLockExpiry
  refine OutBut.of (fun L s0 hL hok => ?_)
  repeat' first
    | with_reducible assumption
    | with_reducible exact .inl rfl
    | exact .inr (hL _ (by decide))
    | (extract_lets +onlyGivenNames x
       first
       | (refine sameStep (L := L) (s0 := s0) (x := x) (fun hx => ?_) ?_; clear_value x; rotate_left; subst x)
       | (refine sameStep (L := L) (s0 := s0) (x := x.1) (fun hx => ?_) ?_; clear_value x; rotate_left; subst x)
       | subst x)
    | with_reducible refine modMgmt_frame (parts_sub (by decide) hL) ?_
    | intro _ _ _
    | intro _ _
    | intro _
    | (simp only [same_lit]; with_reducible refine SameLit.of ?_ ?_ ?_ ?_ ?_ ?_ ?_ ?_ ?_ ?_ ?_ ?_ ?_ ?_ ?_ ?_ ?_ ?_ ?_ ?_ ?_ ?_ ?_ ?_ ?_ ?_ ?_ ?_ ?_ ?_ ?_ ?_ ?_ ?_ ?_ ?_ ?_ ?_ ?_ ?_)
    | exact .inl rfl
    | dsimp only
    | dsimp only [id]

theorem mbxGo_frame {L : List StatePart} {s0 : State} {g : Fun} {op : Nat} {s : State}
    (hL : ∀ p ∈ [StatePart.fnCfg, .mbx, .out], p ∈ L) (hok : SameBut L s0 s) :
    SameBut L s0 (mbxGo g op s) := by
  unfold mbxGo
  repeat' first
    | with_reducible assumption
    | with_reducible exact .inl rfl
    | exact .inr (hL _ (by decide))
    | (extract_lets +onlyGivenNames x
       first
       | (refine sameStep (L := L) (s0 := s0) (x := x) (fun hx => ?_) ?_; clear_value x; rotate_left; subst x)
       | subst x)
    | with_reducible refine SameBut.ite ?_ ?_
    | with_reducible refine cfgWrite_frame (parts_sub (by decide) hL) ?_ ?_
    | with_reducible refine modMbx_frame (parts_sub (by decide) hL) ?_
    | with_reducible refine SameBut.ofPair ?_ (by with_reducible assumption)
    | intro _ _ _
    | intro _ _
    | intro _
    | split
    | (simp only [same_lit]; with_reducible refine SameLit.of ?_ ?_ ?_ ?_ ?_ ?_ ?_ ?_ ?_ ?_ ?_ ?_ ?_ ?_ ?_ ?_ ?_ ?_ ?_ ?_ ?_ ?_ ?_ ?_ ?_ ?_ ?_ ?_ ?_ ?_ ?_ ?_ ?_ ?_ ?_ ?_ ?_ ?_ ?_ ?_)
    | exact .inl rfl
    | dsimp only
    | dsimp only [id]

theorem execMbxRead_frame {g : Fun} {s : State} :
    OutBut [StatePart.fnCfg, .mbx, .out] s (execMbxRead g s) := by
  unfold execMbxRead
  refine OutBut.of (fun L s0 hL hok => ?_)
  repeat' first
    | with_reducible assumption
    | with_reducible refine mbxGo_frame (parts_sub (by decide) hL) ?_
    | intro _ _ _
    | intro _ _
    | intro _
    | dsimp only
    | dsimp only [id]

theorem execMbxWrite_frame {g : Fun} {s : State} :
    OutBut [StatePart.fnCfg, .mbx, .out] s (execMbxWrite g s) := by
  unfold execMbxWrite
  refine OutBut.of (fun L s0 hL hok => ?_)
  repeat' first
    | with_reducible assumption
    | with_reducible refine mbxGo_frame (parts_sub (by decide) hL) ?_
    | intro _ _ _
    | intro _ _
    | intro _
    | dsimp only
    | dsimp only [id]

theorem execMbxReadSegment_frame {g : Fun} {s : State} :
    OutBut [StatePart.fnCfg, .mbx, .out] s (execMbxReadSegment g s) := by
  unfold execMbxReadSegment
  refine OutBut.of (fun L s0 hL hok => ?_)
  repeat' first
    | with_reducible assumption
    | with_reducible refine mbxGo_frame (parts_sub (by decide) hL) ?_
    | intro _ _ _
    | intro _ _
    | intro _
    | dsimp only
    | dsimp only [id]

theorem execMbxWriteSegment_frame {g : Fun} {s : State} :
    OutBut [StatePart.fnCfg, .mbx, .out] s (execMbxWriteSegment g s) := by
  unfold execMbxWriteSegment
  refine OutBut.of (fun L s0 hL hok => ?_)
  repeat' first
    | with_reducible assumption
    | with_reducible refine mbxGo_frame (parts_sub (by decide) hL) ?_
    | intro _ _ _
    | intro _ _
    | intro _
    | dsimp only
    | dsimp only [id]

theorem execMbxWriteSegmentFinal_frame {g : Fun} {s : State} :
    OutBut [StatePart.fnCfg, .mbx, .out] s (execMbxWriteSegmentFinal g s) := by
  unfold execMbxWriteSegmentFinal
  refine OutBut.of (fun L s0 hL hok => ?_)
  repeat' first
    | with_reducible assumption
    | with_reducible refine mbxGo_frame (parts_sub (by decide) hL) ?_
    | intro _ _ _
    | intro _ _
    | intro _
    | dsimp only
    | dsimp only [id]

theorem execMbxBadOp_frame {g : Fun} {op : Nat} {s : State} :
    OutBut [StatePart.fnCfg, .mbx, .out] s (execMbxBadOp g op s) := by
  unfold execMbxBadOp
  refine OutBut.of (fun L s0 hL hok => ?_)
  repeat' first
    | with_reducible assumption
    | with_reducible refine SameBut.ite ?_ ?_
    | with_reducible refine mbxGo_frame (parts_sub (by decide) hL) ?_
    | intro _ _ _
    | intro _ _
    | intro _
    | split
    | dsimp only
    | dsimp only [id]

theorem execRestoreDefaults_frame {rq : Requester} {s : State} :
    OutBut [StatePart.mgmt, .out] s (execRestoreDefaults rq s) := by
  unfold execRestoreDefaults
  refine OutBut.of (fun L s0 hL hok => ?_)
  repeat' first
    | with_reducible assumption
    | with_reducible refine requestWrite_frame (parts_sub (by decide) hL) ?_ ?_
    | with_reducible refine startRestore_frame (parts_sub (by decide) hL) ?_
    | intro _ _ _
    | intro _ _
    | intro _
    | dsimp only
    | dsimp only [id]

theorem endRestore_frame {L : List StatePart} {s0 : State} {s : State}
    (hL : ∀ p ∈ [StatePart.stored, .mgmt], p ∈ L) (hok : SameBut L s0 s) :
    SameBut L s0 (endRestore s) := by
  unfold endRestore
  repeat' first
    | with_reducible assumption
    | with_reducible exact .inl rfl
    | exact .inr (hL _ (by decide))
    | (extract_lets +onlyGivenNames x
       first
       | (refine sameStep (L := L) (s0 := s0) (x := x) (fun hx => ?_) ?_; clear_value x; rotate_left; subst x)
       | (refine sameStep (L := L) (s0 := s0) (x := x.1) (fun hx => ?_) ?_; clear_value x; rotate_left; subst x)
       | subst x)
    | with_reducible refine SameBut.ite ?_ ?_
    | with_reducible refine modMgmt_frame (parts_sub (by decide) hL) ?_
    | intro _ _ _
    | intro _ _
    | intro _
    | split
    | (simp only [same_lit]; with_reducible refine SameLit.of ?_ ?_ ?_ ?_ ?_ ?_ ?_ ?_ ?_ ?_ ?_ ?_ ?_ ?_ ?_ ?_ ?_ ?_ ?_ ?_ ?_ ?_ ?_ ?_ ?_ ?_ ?_ ?_ ?_ ?_ ?_ ?_ ?_ ?_ ?_ ?_ ?_ ?_ ?_ ?_)
    | exact .inl rfl
    | dsimp only
    | dsimp only [id]

theorem execRestoreDefaultsEnd_frame {s : State} :
    OutBut [StatePart.stored, .mgmt] s (execRestoreDefaultsEnd s) := by
  unfold execRestoreDefaultsEnd
  refine OutBut.of (fun L s0 hL hok => ?_)
  repeat' first
    | with_reducible assumption
    | with_reducible refine endRestore_frame (parts_sub (by decide) hL) ?_
    | intro _ _ _
    | intro _ _
    | intro _
    | dsimp only
    | dsimp only [id]

theorem compactionStep_frame {L : List StatePart} {s0 : State} {s : State}
    (hL : ∀ p ∈ [StatePart.mgmt, .draws], p ∈ L) (hok : SameBut L s0 s) :
    SameBut L s0 (compactionStep s) := by
  unfold compactionStep
  repeat' first
    | with_reducible assumption
    | with_reducible exact .inl rfl
    | exact .inr (hL _ (by decide))
    | (extract_lets +onlyGivenNames x
       first
       | (refine sameStep (L := L) (s0 := s0) (x := x) (fun hx => ?_) ?_; clear_value x; rotate_left; subst x)
       | subst x)
    | with_reducible refine modMgmt_frame (parts_sub (by decide) hL) ?_
    | with_reducible refine draw_frame (parts_sub (by decide) hL) ?_
    | intro _ _ _
    | intro _ _
    | intro _
    | (simp only [same_lit]; with_reducible refine SameLit.of ?_ ?_ ?_ ?_ ?_ ?_ ?_ ?_ ?_ ?_ ?_ ?_ ?_ ?_ ?_ ?_ ?_ ?_ ?_ ?_ ?_ ?_ ?_ ?_ ?_ ?_ ?_ ?_ ?_ ?_ ?_ ?_ ?_ ?_ ?_ ?_ ?_ ?_ ?_ ?_)
    | exact .inl rfl
    | dsimp only
    | dsimp only [id]

theorem execJournalCompactionStep_frame {s : State} :
    OutBut [StatePart.mgmt, .draws] s (execJournalCompactionStep s) := by
  unfold execJournalCompactionStep
  refine OutBut.of (fun L s0 hL hok => ?_)
  repeat' first
    | with_reducible assumption
    | with_reducible refine compactionStep_frame (parts_sub (by decide) hL) ?_
    | intro _ _ _
    | intro _ _
    | intro _
    | dsimp only
    | dsimp only [id]


/-! ### Machine/Registers.lean -/

theorem clearStatus_frame {L : List StatePart} {s0 : State} {g : Fun} {v : Nat} {s : State}
    (hL : ∀ p ∈ [StatePart.fnCfg], p ∈ L) (hok : SameBut L s0 s) :
    SameBut L s0 (clearStatus g v s) := by
  unfold clearStatus
  repeat' first
    | with_reducible assumption
    | with_reducible exact .inl rfl
    | exact .inr (hL _ (by decide))
    | (extract_lets +onlyGivenNames x
       first
       | (refine sameStep (L := L) (s0 := s0) (x := x) (fun hx => ?_) ?_; clear_value x; rotate_left; subst x)
       | subst x)
    | with_reducible refine modCfg_frame (parts_sub (by decide) hL) ?_
    | intro _ _ _
    | intro _ _
    | intro _
    | (simp only [same_lit]; with_reducible refine SameLit.of ?_ ?_ ?_ ?_ ?_ ?_ ?_ ?_ ?_ ?_ ?_ ?_ ?_ ?_ ?_ ?_ ?_ ?_ ?_ ?_ ?_ ?_ ?_ ?_ ?_ ?_ ?_ ?_ ?_ ?_ ?_ ?_ ?_ ?_ ?_ ?_ ?_ ?_ ?_ ?_)
    | exact .inl rfl
    | dsimp only
    | dsimp only [id]

theorem writePmcsr_frame {L : List StatePart} {s0 : State} {g : Fun} {at_ size v : Nat} {s : State}
    (hL : ∀ p ∈ [StatePart.counters, .links, .intx, .requests, .ats, .fnCfg, .fnState, .int, .ctxs, .power, .boot, .out], p ∈ L) (hok : SameBut L s0 s) :
    SameBut L s0 (writePmcsr g at_ size v s) := by
  unfold writePmcsr
  repeat' first
    | with_reducible assumption
    | with_reducible exact .inl rfl
    | exact .inr (hL _ (by decide))
    | (extract_lets +onlyGivenNames x
       first
       | (refine sameStep (L := L) (s0 := s0) (x := x) (fun hx => ?_) ?_; clear_value x; rotate_left; subst x)
       | subst x)
    | with_reducible refine SameBut.ite ?_ ?_
    | with_reducible refine modCfg_frame (parts_sub (by decide) hL) ?_
    | with_reducible refine enterD3_frame (parts_sub (by decide) hL) ?_
    | with_reducible refine leaveD3_frame (parts_sub (by decide) hL) ?_
    | intro _ _ _
    | intro _ _
    | intro _
    | split
    | (simp only [same_lit]; with_reducible refine SameLit.of ?_ ?_ ?_ ?_ ?_ ?_ ?_ ?_ ?_ ?_ ?_ ?_ ?_ ?_ ?_ ?_ ?_ ?_ ?_ ?_ ?_ ?_ ?_ ?_ ?_ ?_ ?_ ?_ ?_ ?_ ?_ ?_ ?_ ?_ ?_ ?_ ?_ ?_ ?_ ?_)
    | exact .inl rfl
    | dsimp only
    | dsimp only [id]

theorem writeDevCtl_frame {L : List StatePart} {s0 : State} {g : Fun} {at_ size v : Nat} {s : State}
    (hL : ∀ p ∈ [StatePart.od, .stored, .counters, .mgmt, .links, .intx, .requests, .fnCfg, .fnState, .admin, .faultq, .int, .capture, .ctxs, .objs, .slots, .cmds, .engines, .lookups, .peers, .windows, .coherence, .memory, .det, .err, .power, .boot, .draws, .out], p ∈ L) (hok : SameBut L s0 s) :
    SameBut L s0 (writeDevCtl g at_ size v s) := by
  unfold writeDevCtl
  repeat' first
    | with_reducible assumption
    | with_reducible exact .inl rfl
    | exact .inr (hL _ (by decide))
    | (extract_lets +onlyGivenNames x
       first
       | (refine sameStep (L := L) (s0 := s0) (x := x) (fun hx => ?_) ?_; clear_value x; rotate_left; subst x)
       | subst x)
    | with_reducible refine SameBut.ite ?_ ?_
    | with_reducible refine modCfg_frame (parts_sub (by decide) hL) ?_
    | with_reducible refine abortFn_frame (parts_sub (by decide) hL) ?_
    | intro _ _ _
    | intro _ _
    | intro _
    | split
    | (simp only [same_lit]; with_reducible refine SameLit.of ?_ ?_ ?_ ?_ ?_ ?_ ?_ ?_ ?_ ?_ ?_ ?_ ?_ ?_ ?_ ?_ ?_ ?_ ?_ ?_ ?_ ?_ ?_ ?_ ?_ ?_ ?_ ?_ ?_ ?_ ?_ ?_ ?_ ?_ ?_ ?_ ?_ ?_ ?_ ?_)
    | exact .inl rfl
    | dsimp only
    | dsimp only [id]

theorem writeAts_frame {L : List StatePart} {s0 : State} {g : Fun} {at_ size v : Nat} {s : State}
    (hL : ∀ p ∈ [StatePart.requests, .ats, .fnCfg, .cmds], p ∈ L) (hok : SameBut L s0 s) :
    SameBut L s0 (writeAts g at_ size v s) := by
  unfold writeAts
  repeat' first
    | with_reducible assumption
    | with_reducible exact .inl rfl
    | exact .inr (hL _ (by decide))
    | (extract_lets +onlyGivenNames x
       first
       | (refine sameStep (L := L) (s0 := s0) (x := x) (fun hx => ?_) ?_; clear_value x; rotate_left; subst x)
       | subst x)
    | with_reducible refine SameBut.ite ?_ ?_
    | with_reducible refine modCfg_frame (parts_sub (by decide) hL) ?_
    | with_reducible refine dropWaits_frame (parts_sub (by decide) hL) ?_
    | with_reducible refine clearAts_frame (parts_sub (by decide) hL) ?_
    | intro _ _ _
    | intro _ _
    | intro _
    | split
    | (simp only [same_lit]; with_reducible refine SameLit.of ?_ ?_ ?_ ?_ ?_ ?_ ?_ ?_ ?_ ?_ ?_ ?_ ?_ ?_ ?_ ?_ ?_ ?_ ?_ ?_ ?_ ?_ ?_ ?_ ?_ ?_ ?_ ?_ ?_ ?_ ?_ ?_ ?_ ?_ ?_ ?_ ?_ ?_ ?_ ?_)
    | exact .inl rfl
    | dsimp only
    | dsimp only [id]

theorem writePasid_frame {L : List StatePart} {s0 : State} {g : Fun} {at_ size v : Nat} {s : State}
    (hL : ∀ p ∈ [StatePart.requests, .ats, .fnCfg, .cmds], p ∈ L) (hok : SameBut L s0 s) :
    SameBut L s0 (writePasid g at_ size v s) := by
  unfold writePasid
  repeat' first
    | with_reducible assumption
    | with_reducible exact .inl rfl
    | exact .inr (hL _ (by decide))
    | (extract_lets +onlyGivenNames x
       first
       | (refine sameStep (L := L) (s0 := s0) (x := x) (fun hx => ?_) ?_; clear_value x; rotate_left; subst x)
       | subst x)
    | with_reducible refine SameBut.ite ?_ ?_
    | with_reducible refine modCfg_frame (parts_sub (by decide) hL) ?_
    | with_reducible refine clearAts_frame (parts_sub (by decide) hL) ?_
    | intro _ _ _
    | intro _ _
    | intro _
    | split
    | (simp only [same_lit]; with_reducible refine SameLit.of ?_ ?_ ?_ ?_ ?_ ?_ ?_ ?_ ?_ ?_ ?_ ?_ ?_ ?_ ?_ ?_ ?_ ?_ ?_ ?_ ?_ ?_ ?_ ?_ ?_ ?_ ?_ ?_ ?_ ?_ ?_ ?_ ?_ ?_ ?_ ?_ ?_ ?_ ?_ ?_)
    | exact .inl rfl
    | dsimp only
    | dsimp only [id]

theorem writeMbx_frame {L : List StatePart} {s0 : State} {g : Fun} {off v : Nat} {s : State}
    (hL : ∀ p ∈ [StatePart.fnCfg, .mbx, .out], p ∈ L) (hok : SameBut L s0 s) :
    SameBut L s0 (writeMbx g off v s) := by
  unfold writeMbx
  repeat' first
    | with_reducible assumption
    | with_reducible exact .inl rfl
    | exact .inr (hL _ (by decide))
    | (extract_lets +onlyGivenNames x
       first
       | (refine sameStep (L := L) (s0 := s0) (x := x) (fun hx => ?_) ?_; clear_value x; rotate_left; subst x)
       | subst x)
    | with_reducible refine SameBut.ite ?_ ?_
    | with_reducible refine mbxGo_frame (parts_sub (by decide) hL) ?_
    | with_reducible refine modMbx_frame (parts_sub (by decide) hL) ?_
    | with_reducible refine SameBut.ofPair ?_ (by with_reducible assumption)
    | intro _ _ _
    | intro _ _
    | intro _
    | split
    | (simp only [same_lit]; with_reducible refine SameLit.of ?_ ?_ ?_ ?_ ?_ ?_ ?_ ?_ ?_ ?_ ?_ ?_ ?_ ?_ ?_ ?_ ?_ ?_ ?_ ?_ ?_ ?_ ?_ ?_ ?_ ?_ ?_ ?_ ?_ ?_ ?_ ?_ ?_ ?_ ?_ ?_ ?_ ?_ ?_ ?_)
    | exact .inl rfl
    | dsimp only
    | dsimp only [id]

theorem configWrite_frame {L : List StatePart} {s0 : State} {g : Fun} {offset size v : Nat} {s : State}
    (hL : ∀ p ∈ [StatePart.od, .stored, .counters, .mgmt, .links, .intx, .requests, .ats, .fnCfg, .fnState, .mbx, .admin, .faultq, .int, .capture, .ctxs, .objs, .slots, .cmds, .engines, .lookups, .peers, .windows, .coherence, .memory, .det, .err, .power, .boot, .draws, .out], p ∈ L) (hok : SameBut L s0 s) :
    SameBut L s0 (configWrite g offset size v s) := by
  unfold configWrite
  repeat' first
    | with_reducible assumption
    | (extract_lets +onlyGivenNames x
       first
       | (refine sameStep (L := L) (s0 := s0) (x := x) (fun hx => ?_) ?_; clear_value x; rotate_left; subst x)
       | subst x)
    | with_reducible refine SameBut.ite ?_ ?_
    | with_reducible refine clearStatus_frame (parts_sub (by decide) hL) ?_
    | with_reducible refine writeCommand_frame (parts_sub (by decide) hL) ?_
    | with_reducible refine writePmcsr_frame (parts_sub (by decide) hL) ?_
    | with_reducible refine writeDevCtl_frame (parts_sub (by decide) hL) ?_
    | with_reducible refine writeAts_frame (parts_sub (by decide) hL) ?_
    | with_reducible refine writePasid_frame (parts_sub (by decide) hL) ?_
    | with_reducible refine writeMbx_frame (parts_sub (by decide) hL) ?_
    | with_reducible refine modCfg_frame (parts_sub (by decide) hL) ?_
    | intro _ _ _
    | intro _ _
    | intro _
    | split
    | dsimp only
    | dsimp only [id]

theorem writeRings_frame {L : List StatePart} {s0 : State} {g : Fun} {off : Nat} {q : U64} {s : State}
    (hL : ∀ p ∈ [StatePart.od, .stored, .counters, .mgmt, .links, .intx, .requests, .ats, .fnCfg, .admin, .faultq, .int, .capture, .ctxs, .cmds, .engines, .lookups, .peers, .windows, .err, .power, .out], p ∈ L) (hok : SameBut L s0 s) :
    SameBut L s0 (writeRings g off q s) := by
  unfold writeRings
  repeat' first
    | with_reducible assumption
    | with_reducible exact .inl rfl
    | exact .inr (hL _ (by decide))
    | (extract_lets +onlyGivenNames x
       first
       | (refine sameStep (L := L) (s0 := s0) (x := x) (fun hx => ?_) ?_; clear_value x; rotate_left; subst x)
       | subst x)
    | with_reducible refine writeAdmin_frame (parts_sub (by decide) hL) ?_
    | with_reducible refine modFaultq_frame (parts_sub (by decide) hL) ?_
    | with_reducible refine endWaiting_frame (parts_sub (by decide) hL) ?_
    | with_reducible refine SameBut.ofPair ?_ (by with_reducible assumption)
    | intro _ _ _
    | intro _ _
    | intro _
    | split
    | (simp only [same_lit]; with_reducible refine SameLit.of ?_ ?_ ?_ ?_ ?_ ?_ ?_ ?_ ?_ ?_ ?_ ?_ ?_ ?_ ?_ ?_ ?_ ?_ ?_ ?_ ?_ ?_ ?_ ?_ ?_ ?_ ?_ ?_ ?_ ?_ ?_ ?_ ?_ ?_ ?_ ?_ ?_ ?_ ?_ ?_)
    | exact .inl rfl
    | dsimp only
    | dsimp only [id]

theorem clearLoss_frame {L : List StatePart} {s0 : State} {g : Fun} {source : Nat} {s : State}
    (hL : ∀ p ∈ [StatePart.int], p ∈ L) (hok : SameBut L s0 s) :
    SameBut L s0 (clearLoss g source s) := by
  unfold clearLoss
  repeat' first
    | with_reducible assumption
    | with_reducible exact .inl rfl
    | exact .inr (hL _ (by decide))
    | (extract_lets +onlyGivenNames x
       first
       | (refine sameStep (L := L) (s0 := s0) (x := x) (fun hx => ?_) ?_; clear_value x; rotate_left; subst x)
       | subst x)
    | with_reducible refine modInt_frame (parts_sub (by decide) hL) ?_
    | intro _ _ _
    | intro _ _
    | intro _
    | (simp only [same_lit]; with_reducible refine SameLit.of ?_ ?_ ?_ ?_ ?_ ?_ ?_ ?_ ?_ ?_ ?_ ?_ ?_ ?_ ?_ ?_ ?_ ?_ ?_ ?_ ?_ ?_ ?_ ?_ ?_ ?_ ?_ ?_ ?_ ?_ ?_ ?_ ?_ ?_ ?_ ?_ ?_ ?_ ?_ ?_)
    | exact .inl rfl
    | dsimp only
    | dsimp only [id]

theorem writeEvents_frame {L : List StatePart} {s0 : State} {g : Fun} {offset size : Nat} {q z : U64} {s : State}
    (hL : ∀ p ∈ [StatePart.counters, .links, .intx, .ats, .fnCfg, .int, .power, .draws, .out], p ∈ L) (hok : SameBut L s0 s) :
    SameBut L s0 (writeEvents g offset size q z s) := by
  unfold writeEvents
  repeat' first
    | with_reducible assumption
    | (extract_lets +onlyGivenNames x
       first
       | (refine sameStep (L := L) (s0 := s0) (x := x) (fun hx => ?_) ?_; clear_value x; rotate_left; subst x)
       | subst x)
    | with_reducible refine SameBut.ite ?_ ?_
    | with_reducible refine setDelay_frame (parts_sub (by decide) hL) ?_
    | with_reducible refine setTargetDie_frame (parts_sub (by decide) hL) ?_
    | with_reducible refine clearLatches_frame (parts_sub (by decide) hL) ?_
    | with_reducible refine writeMask_frame (parts_sub (by decide) hL) ?_
    | with_reducible refine writeConsumer_frame (parts_sub (by decide) hL) ?_
    | with_reducible refine foldState_frame (fun _ _ _ => ?_) ?_
    | with_reducible refine clearLoss_frame (parts_sub (by decide) hL) ?_
    | intro _ _ _
    | intro _ _
    | intro _
    | split
    | dsimp only
    | dsimp only [id]

theorem storeBar0_frame {L : List StatePart} {s0 : State} {g : Fun} {offset size : Nat} {v : U64} {s : State}
    (hL : ∀ p ∈ [StatePart.od, .stored, .counters, .mgmt, .links, .intx, .requests, .ats, .fnCfg, .admin, .faultq, .int, .capture, .ctxs, .cmds, .engines, .lookups, .peers, .windows, .err, .power, .draws, .out], p ∈ L) (hok : SameBut L s0 s) :
    SameBut L s0 (storeBar0 g offset size v s) := by
  unfold storeBar0
  repeat' first
    | with_reducible assumption
    | with_reducible exact .inl rfl
    | exact .inr (hL _ (by decide))
    | (extract_lets +onlyGivenNames x
       first
       | (refine sameStep (L := L) (s0 := s0) (x := x) (fun hx => ?_) ?_; clear_value x; rotate_left; subst x)
       | subst x)
    | with_reducible refine SameBut.ite ?_ ?_
    | with_reducible refine writeRings_frame (parts_sub (by decide) hL) ?_
    | with_reducible refine writeResponse_frame (parts_sub (by decide) hL) ?_
    | with_reducible refine countFn_frame (parts_sub (by decide) hL) ?_
    | with_reducible refine writeEvents_frame (parts_sub (by decide) hL) ?_
    | with_reducible refine writeFnRelease_frame (parts_sub (by decide) hL) ?_
    | with_reducible refine clearCounter_frame (parts_sub (by decide) hL) ?_
    | with_reducible refine SameBut.ofPair ?_ (by with_reducible assumption)
    | intro _ _ _
    | intro _ _
    | intro _
    | split
    | (simp only [same_lit]; with_reducible refine SameLit.of ?_ ?_ ?_ ?_ ?_ ?_ ?_ ?_ ?_ ?_ ?_ ?_ ?_ ?_ ?_ ?_ ?_ ?_ ?_ ?_ ?_ ?_ ?_ ?_ ?_ ?_ ?_ ?_ ?_ ?_ ?_ ?_ ?_ ?_ ?_ ?_ ?_ ?_ ?_ ?_)
    | exact .inl rfl
    | dsimp only
    | dsimp only [id]

theorem bar0Write_frame {L : List StatePart} {s0 : State} {g : Fun} {offset size : Nat} {v : U64} {poisoned : Bool} {s : State}
    (hL : ∀ p ∈ [StatePart.od, .stored, .counters, .mgmt, .links, .intx, .requests, .ats, .fnCfg, .admin, .faultq, .int, .capture, .ctxs, .cmds, .engines, .lookups, .peers, .windows, .err, .power, .draws, .out], p ∈ L) (hok : SameBut L s0 s) :
    SameBut L s0 (bar0Write g offset size v poisoned s) := by
  unfold bar0Write
  repeat' first
    | with_reducible assumption
    | with_reducible refine SameBut.ite ?_ ?_
    | with_reducible refine barWrite_frame (parts_sub (by decide) hL) ?_ ?_
    | with_reducible refine poisonedTlp_frame (parts_sub (by decide) hL) ?_
    | with_reducible refine countFn_frame (parts_sub (by decide) hL) ?_
    | with_reducible refine storeBar0_frame (parts_sub (by decide) hL) ?_
    | intro _ _ _
    | intro _ _
    | intro _
    | split
    | dsimp only
    | dsimp only [id]

theorem writeSpace_frame {L : List StatePart} {s0 : State} {g : Fun} {space : Space} {offset size : Nat} {v : U64} {poisoned : Bool} {s : State}
    (hL : ∀ p ∈ [StatePart.od, .stored, .counters, .mgmt, .links, .intx, .requests, .ats, .fnCfg, .fnState, .mbx, .admin, .faultq, .int, .capture, .ctxs, .objs, .slots, .cmds, .engines, .lookups, .peers, .windows, .coherence, .memory, .det, .err, .power, .boot, .draws, .out], p ∈ L) (hok : SameBut L s0 s) :
    SameBut L s0 (writeSpace g space offset size v poisoned s) := by
  unfold writeSpace
  repeat' first
    | with_reducible assumption
    | with_reducible exact .inl rfl
    | exact .inr (hL _ (by decide))
    | (extract_lets +onlyGivenNames x
       first
       | (refine sameStep (L := L) (s0 := s0) (x := x) (fun hx => ?_) ?_; clear_value x; rotate_left; subst x)
       | subst x)
    | with_reducible refine SameBut.ite ?_ ?_
    | with_reducible refine cfgWrite_frame (parts_sub (by decide) hL) ?_ ?_
    | with_reducible refine poisonedTlp_frame (parts_sub (by decide) hL) ?_
    | with_reducible refine configWrite_frame (parts_sub (by decide) hL) ?_
    | with_reducible refine bar0Write_frame (parts_sub (by decide) hL) ?_
    | with_reducible refine doorbellWrite_frame (parts_sub (by decide) hL) ?_
    | with_reducible refine barWrite_frame (parts_sub (by decide) hL) ?_ ?_
    | with_reducible refine SameBut.ofPair ?_ (by with_reducible assumption)
    | intro _ _ _
    | intro _ _
    | intro _
    | split
    | (simp only [same_lit]; with_reducible refine SameLit.of ?_ ?_ ?_ ?_ ?_ ?_ ?_ ?_ ?_ ?_ ?_ ?_ ?_ ?_ ?_ ?_ ?_ ?_ ?_ ?_ ?_ ?_ ?_ ?_ ?_ ?_ ?_ ?_ ?_ ?_ ?_ ?_ ?_ ?_ ?_ ?_ ?_ ?_ ?_ ?_)
    | exact .inl rfl
    | dsimp only
    | dsimp only [id]

theorem execRegisterWrite_frame {g : Fun} {space : Space} {offset size : Nat} {v : U64} {poisoned : Bool} {s : State} :
    OutBut [StatePart.od, .stored, .counters, .mgmt, .links, .intx, .requests, .ats, .fnCfg, .fnState, .mbx, .admin, .faultq, .int, .capture, .ctxs, .objs, .slots, .cmds, .engines, .lookups, .peers, .windows, .coherence, .memory, .det, .err, .power, .boot, .draws, .out] s (execRegisterWrite g space offset size v poisoned s) := by
  unfold execRegisterWrite
  refine OutBut.of (fun L s0 hL hok => ?_)
  repeat' first
    | with_reducible assumption
    | with_reducible refine writeSpace_frame (parts_sub (by decide) hL) ?_
    | intro _ _ _
    | intro _ _
    | intro _
    | dsimp only
    | dsimp only [id]


/-! ### Machine/Reset.lean -/

theorem recordLost_frame {L : List StatePart} {s0 : State} {ref : Ref} {s : State}
    (hL : ∀ p ∈ [StatePart.stored], p ∈ L) (hok : SameBut L s0 s) :
    SameBut L s0 (recordLost ref s) := by
  unfold recordLost
  repeat' first
    | with_reducible assumption
    | with_reducible exact .inl rfl
    | exact .inr (hL _ (by decide))
    | (extract_lets +onlyGivenNames x
       first
       | (refine sameStep (L := L) (s0 := s0) (x := x) (fun hx => ?_) ?_; clear_value x; rotate_left; subst x)
       | subst x)
    | with_reducible refine SameBut.ofPair ?_ (by with_reducible assumption)
    | intro _ _ _
    | intro _ _
    | intro _
    | split
    | (simp only [same_lit]; with_reducible refine SameLit.of ?_ ?_ ?_ ?_ ?_ ?_ ?_ ?_ ?_ ?_ ?_ ?_ ?_ ?_ ?_ ?_ ?_ ?_ ?_ ?_ ?_ ?_ ?_ ?_ ?_ ?_ ?_ ?_ ?_ ?_ ?_ ?_ ?_ ?_ ?_ ?_ ?_ ?_ ?_ ?_)
    | exact .inl rfl
    | dsimp only
    | dsimp only [id]

theorem settleRestore_frame {L : List StatePart} {s0 : State} {s : State}
    (hL : ∀ p ∈ [StatePart.stored, .mgmt, .draws], p ∈ L) (hok : SameBut L s0 s) :
    SameBut L s0 (settleRestore s) := by
  unfold settleRestore
  repeat' first
    | with_reducible assumption
    | with_reducible refine SameBut.ite ?_ ?_
    | with_reducible refine endRestore_frame (parts_sub (by decide) hL) ?_
    | with_reducible refine draw_frame (parts_sub (by decide) hL) ?_
    | intro _ _ _
    | intro _ _
    | intro _
    | split
    | dsimp only
    | dsimp only [id]

theorem loadStored_frame {L : List StatePart} {s0 : State} {s : State}
    (hL : ∀ p ∈ [StatePart.od], p ∈ L) (hok : SameBut L s0 s) :
    SameBut L s0 (loadStored s) := by
  unfold loadStored
  repeat' first
    | with_reducible assumption
    | with_reducible exact .inl rfl
    | exact .inr (hL _ (by decide))
    | (extract_lets +onlyGivenNames x
       first
       | (refine sameStep (L := L) (s0 := s0) (x := x) (fun hx => ?_) ?_; clear_value x; rotate_left; subst x)
       | (refine sameStep (L := L) (s0 := s0) (x := x.1) (fun hx => ?_) ?_; clear_value x; rotate_left; subst x)
       | subst x)
    | with_reducible refine foldState_frame (fun _ _ _ => ?_) ?_
    | with_reducible refine setObj_frame (parts_sub (by decide) hL) ?_
    | intro _ _ _
    | intro _ _
    | intro _
    | (simp only [same_lit]; with_reducible refine SameLit.of ?_ ?_ ?_ ?_ ?_ ?_ ?_ ?_ ?_ ?_ ?_ ?_ ?_ ?_ ?_ ?_ ?_ ?_ ?_ ?_ ?_ ?_ ?_ ?_ ?_ ?_ ?_ ?_ ?_ ?_ ?_ ?_ ?_ ?_ ?_ ?_ ?_ ?_ ?_ ?_)
    | exact .inl rfl
    | dsimp only
    | dsimp only [id]

theorem bareState_frame {L : List StatePart} {s0 : State} {badPairs : List Src} {s : State}
    (hL : ∀ p ∈ [StatePart.gtc, .od, .stored, .counters, .mgmt, .links, .intx, .requests, .ats, .port0, .fnCfg, .fnState, .mbx, .admin, .faultq, .int, .capture, .fnOther, .ctxs, .objs, .slots, .cmds, .engines, .entries, .lookups, .peers, .windows, .coherence, .memory, .pool, .sync, .det, .idle, .err, .sec, .power, .boot, .draws, .out], p ∈ L) (hok : SameBut L s0 s) : SameBut L s0 (bareState badPairs s) :=
  ⟨hok.1, hok.2.1, fun p hp => absurd (hL p (by cases p <;> decide)) hp⟩

theorem takeEffect_frame {L : List StatePart} {s0 : State} {s : State}
    (hL : ∀ p ∈ [StatePart.mgmt, .entries, .peers, .det], p ∈ L) (hok : SameBut L s0 s) :
    SameBut L s0 (takeEffect s) := by
  have h1 : SameBut L s0 { s with
    mgmt := { s.mgmt with udpPort := objNum s 0x1100 5 }
    trans := { s.trans with bankCount := objNum s 0x3000 2 }
    win := { s.win with
      localId := BitVec.ofNat 12 (objNum s 0x6000 1)
      etherType := BitVec.ofNat 16 (objNum s 0x6000 4)
      vlan := BitVec.ofNat 16 (objNum s 0x6000 5) }
    det := { s.det with scratchBytes := objNum s 0x7000 5 } } := SameBut.trans hok ⟨rfl, rfl, fun p hp => by
      cases p <;> first | rfl | exact absurd (hL _ (by decide)) hp⟩
  exact SameBut.trans h1 ⟨rfl, rfl, fun p hp => by
    cases p <;> first
      | exact absurd (hL _ (by decide)) hp
      | (dsimp only [StatePart.same, takeEffect, WinSt.windowsPart, WinSt.coherencePart])⟩

theorem resetFns_frame {L : List StatePart} {s0 : State} {s : State}
    (hL : ∀ p ∈ [StatePart.fnCfg, .fnState], p ∈ L) (hok : SameBut L s0 s) :
    SameBut L s0 (resetFns s) := by
  unfold resetFns
  repeat' first
    | with_reducible assumption
    | with_reducible exact .inl rfl
    | exact .inr (hL _ (by decide))
    | exact .inl fun _ => rfl
    | (extract_lets +onlyGivenNames x
       first
       | (refine sameStep (L := L) (s0 := s0) (x := x) (fun hx => ?_) ?_; clear_value x; rotate_left; subst x)
       | subst x)
    | with_reducible refine SameBut.ite ?_ ?_
    | with_reducible refine foldState_frame (fun _ _ _ => ?_) ?_
    | with_reducible refine modFn_frame ?_ ?_ ?_ ?_ ?_ ?_ ?_ ?_ ?_ 
    | intro _ _ _
    | intro _ _
    | intro _
    | split
    | (simp only [same_lit]; with_reducible refine SameLit.of ?_ ?_ ?_ ?_ ?_ ?_ ?_ ?_ ?_ ?_ ?_ ?_ ?_ ?_ ?_ ?_ ?_ ?_ ?_ ?_ ?_ ?_ ?_ ?_ ?_ ?_ ?_ ?_ ?_ ?_ ?_ ?_ ?_ ?_ ?_ ?_ ?_ ?_ ?_ ?_)
    | exact .inl fun x => by (repeat' split) <;> rfl
    | exact .inl rfl
    | dsimp only
    | dsimp only [id]

theorem remapAtReset_frame {L : List StatePart} {s0 : State} {logged : List Nat} {row : Nat} {s : State}
    (hL : ∀ p ∈ [StatePart.memory, .pool, .draws], p ∈ L) (hok : SameBut L s0 s) :
    SameBut L s0 (remapAtReset logged row s) := by
  unfold remapAtReset
  repeat' first
    | with_reducible assumption
    | with_reducible exact .inl rfl
    | exact .inr (hL _ (by decide))
    | (extract_lets +onlyGivenNames x
       first
       | (refine sameStep (L := L) (s0 := s0) (x := x) (fun hx => ?_) ?_; clear_value x; rotate_left; subst x)
       | subst x)
    | with_reducible refine SameBut.ite ?_ ?_
    | with_reducible refine zeroSpan_frame (parts_sub (by decide) hL) ?_
    | with_reducible refine freeSpan_frame (parts_sub (by decide) hL) ?_
    | with_reducible refine SameBut.ofPair ?_ (by with_reducible assumption)
    | intro _ _ _
    | intro _ _
    | intro _
    | split
    | (simp only [same_lit]; with_reducible refine SameLit.of ?_ ?_ ?_ ?_ ?_ ?_ ?_ ?_ ?_ ?_ ?_ ?_ ?_ ?_ ?_ ?_ ?_ ?_ ?_ ?_ ?_ ?_ ?_ ?_ ?_ ?_ ?_ ?_ ?_ ?_ ?_ ?_ ?_ ?_ ?_ ?_ ?_ ?_ ?_ ?_)
    | exact .inl rfl
    | dsimp only
    | dsimp only [id]

theorem mapPool_frame {L : List StatePart} {s0 : State} {p : RowPlan} {s : State}
    (hL : ∀ p ∈ [StatePart.pool], p ∈ L) (hok : SameBut L s0 s) :
    SameBut L s0 (mapPool p s) := by
  unfold mapPool
  repeat' first
    | with_reducible assumption
    | with_reducible exact .inl rfl
    | exact .inr (hL _ (by decide))
    | (extract_lets +onlyGivenNames x
       first
       | (refine sameStep (L := L) (s0 := s0) (x := x) (fun hx => ?_) ?_; clear_value x; rotate_left; subst x)
       | (refine sameStep (L := L) (s0 := s0) (x := x.1) (fun hx => ?_) ?_; clear_value x; rotate_left; subst x)
       | subst x)
    | intro _ _ _
    | intro _ _
    | intro _
    | (simp only [same_lit]; with_reducible refine SameLit.of ?_ ?_ ?_ ?_ ?_ ?_ ?_ ?_ ?_ ?_ ?_ ?_ ?_ ?_ ?_ ?_ ?_ ?_ ?_ ?_ ?_ ?_ ?_ ?_ ?_ ?_ ?_ ?_ ?_ ?_ ?_ ?_ ?_ ?_ ?_ ?_ ?_ ?_ ?_ ?_)
    | exact .inl rfl
    | dsimp only
    | dsimp only [id]

theorem clearRowLog_frame {L : List StatePart} {s0 : State} {s : State}
    (hL : ∀ p ∈ [StatePart.od, .stored, .counters, .mgmt, .int], p ∈ L) (hok : SameBut L s0 s) :
    SameBut L s0 (clearRowLog s) := by
  unfold clearRowLog
  repeat' first
    | with_reducible assumption
    | with_reducible refine SameBut.ite ?_ ?_
    | with_reducible refine putObj_frame (parts_sub (by decide) hL) ?_
    | intro _ _ _
    | intro _ _
    | intro _
    | split
    | dsimp only
    | dsimp only [id]

theorem raiseMapErrors_frame {L : List StatePart} {s0 : State} {s : State}
    (hL : ∀ p ∈ [StatePart.od, .stored, .counters, .mgmt, .links, .intx, .fnCfg, .int, .capture, .err, .power, .out], p ∈ L) (hok : SameBut L s0 s) :
    SameBut L s0 (raiseMapErrors s) := by
  unfold raiseMapErrors
  repeat' first
    | with_reducible assumption
    | (extract_lets +onlyGivenNames x
       first
       | (refine sameStep (L := L) (s0 := s0) (x := x) (fun hx => ?_) ?_; clear_value x; rotate_left; subst x)
       | subst x)
    | with_reducible refine SameBut.ite ?_ ?_
    | with_reducible refine foldState_frame (fun _ _ _ => ?_) ?_
    | with_reducible refine raiseError_frame (parts_sub (by decide) hL) ?_
    | intro _ _ _
    | intro _ _
    | intro _
    | split
    | dsimp only
    | dsimp only [id]

theorem resetPool_frame {L : List StatePart} {s0 : State} {f : ResetFindings} {s : State}
    (hL : ∀ p ∈ [StatePart.od, .stored, .counters, .mgmt, .links, .intx, .fnCfg, .int, .capture, .memory, .pool, .err, .power, .draws, .out], p ∈ L) (hok : SameBut L s0 s) :
    SameBut L s0 (resetPool f s) := by
  unfold resetPool
  repeat' first
    | with_reducible assumption
    | (extract_lets +onlyGivenNames x
       first
       | (refine sameStep (L := L) (s0 := s0) (x := x) (fun hx => ?_) ?_; clear_value x; rotate_left; subst x)
       | subst x)
    | with_reducible refine clearRowLog_frame (parts_sub (by decide) hL) ?_
    | with_reducible refine raiseMapErrors_frame (parts_sub (by decide) hL) ?_
    | with_reducible refine foldState_frame (fun _ _ _ => ?_) ?_
    | with_reducible refine remapAtReset_frame (parts_sub (by decide) hL) ?_
    | with_reducible refine mapPool_frame (parts_sub (by decide) hL) ?_
    | intro _ _ _
    | intro _ _
    | intro _
    | dsimp only
    | dsimp only [id]

theorem raiseLost_frame {L : List StatePart} {s0 : State} {lost : List Ref} {s : State}
    (hL : ∀ p ∈ [StatePart.od, .stored, .counters, .mgmt, .links, .intx, .fnCfg, .int, .capture, .err, .power, .out], p ∈ L) (hok : SameBut L s0 s) :
    SameBut L s0 (raiseLost lost s) := by
  unfold raiseLost
  repeat' first
    | with_reducible assumption
    | with_reducible exact .inl rfl
    | exact .inr (hL _ (by decide))
    | (extract_lets +onlyGivenNames x
       first
       | (refine sameStep (L := L) (s0 := s0) (x := x) (fun hx => ?_) ?_; clear_value x; rotate_left; subst x)
       | subst x)
    | with_reducible refine SameBut.ite ?_ ?_
    | with_reducible refine foldState_frame (fun _ _ _ => ?_) ?_
    | with_reducible refine raiseError_frame (parts_sub (by decide) hL) ?_
    | intro _ _ _
    | intro _ _
    | intro _
    | split
    | (simp only [same_lit]; with_reducible refine SameLit.of ?_ ?_ ?_ ?_ ?_ ?_ ?_ ?_ ?_ ?_ ?_ ?_ ?_ ?_ ?_ ?_ ?_ ?_ ?_ ?_ ?_ ?_ ?_ ?_ ?_ ?_ ?_ ?_ ?_ ?_ ?_ ?_ ?_ ?_ ?_ ?_ ?_ ?_ ?_ ?_)
    | exact .inl rfl
    | dsimp only
    | dsimp only [id]

theorem trainPorts_frame {L : List StatePart} {s0 : State} {s : State}
    (hL : ∀ p ∈ [StatePart.links, .port0, .sec, .draws, .out], p ∈ L) (hok : SameBut L s0 s) :
    SameBut L s0 (trainPorts s) := by
  unfold trainPorts
  repeat' first
    | with_reducible assumption
    | with_reducible refine SameBut.ite ?_ ?_
    | with_reducible refine linkNonceOut_frame (parts_sub (by decide) hL) ?_
    | with_reducible refine foldState_frame (fun _ _ _ => ?_) ?_
    | with_reducible refine beginTraining_frame (parts_sub (by decide) hL) ?_
    | intro _ _ _
    | intro _ _
    | intro _
    | split
    | dsimp only
    | dsimp only [id]

theorem holdPool_frame {L : List StatePart} {s0 : State} {f : ResetFindings} {s : State}
    (hL : ∀ p ∈ [StatePart.pool, .sec, .boot], p ∈ L) (hok : SameBut L s0 s) :
    SameBut L s0 (holdPool f s) := by
  unfold holdPool
  repeat' first
    | with_reducible assumption
    | with_reducible exact .inl rfl
    | exact .inr (hL _ (by decide))
    | (extract_lets +onlyGivenNames x
       first
       | (refine sameStep (L := L) (s0 := s0) (x := x) (fun hx => ?_) ?_; clear_value x; rotate_left; subst x)
       | subst x)
    | intro _ _ _
    | intro _ _
    | intro _
    | (simp only [same_lit]; with_reducible refine SameLit.of ?_ ?_ ?_ ?_ ?_ ?_ ?_ ?_ ?_ ?_ ?_ ?_ ?_ ?_ ?_ ?_ ?_ ?_ ?_ ?_ ?_ ?_ ?_ ?_ ?_ ?_ ?_ ?_ ?_ ?_ ?_ ?_ ?_ ?_ ?_ ?_ ?_ ?_ ?_ ?_)
    | exact .inl rfl
    | dsimp only
    | dsimp only [id]

theorem resetMem_frame {L : List StatePart} {s0 : State} {f : ResetFindings} {s : State}
    (hL : ∀ p ∈ [StatePart.od, .stored, .counters, .mgmt, .links, .intx, .fnCfg, .int, .capture, .memory, .pool, .err, .sec, .power, .boot, .draws, .out], p ∈ L) (hok : SameBut L s0 s) :
    SameBut L s0 (resetMem f s) := by
  unfold resetMem
  repeat' first
    | with_reducible assumption
    | with_reducible refine SameBut.ite ?_ ?_
    | with_reducible refine resetPool_frame (parts_sub (by decide) hL) ?_
    | with_reducible refine holdPool_frame (parts_sub (by decide) hL) ?_
    | intro _ _ _
    | intro _ _
    | intro _
    | split
    | dsimp only
    | dsimp only [id]

theorem finishPool_frame {L : List StatePart} {s0 : State} {s : State}
    (hL : ∀ p ∈ [StatePart.od, .stored, .counters, .mgmt, .links, .intx, .fnCfg, .int, .capture, .memory, .pool, .err, .sec, .power, .boot, .draws, .out], p ∈ L) (hok : SameBut L s0 s) :
    SameBut L s0 (finishPool s) := by
  unfold finishPool
  repeat' first
    | with_reducible assumption
    | with_reducible exact .inl rfl
    | exact .inr (hL _ (by decide))
    | (extract_lets +onlyGivenNames x
       first
       | (refine sameStep (L := L) (s0 := s0) (x := x) (fun hx => ?_) ?_; clear_value x; rotate_left; subst x)
       | subst x)
    | with_reducible refine resetPool_frame (parts_sub (by decide) hL) ?_
    | with_reducible refine SameBut.ofPair ?_ (by with_reducible assumption)
    | intro _ _ _
    | intro _ _
    | intro _
    | split
    | (simp only [same_lit]; with_reducible refine SameLit.of ?_ ?_ ?_ ?_ ?_ ?_ ?_ ?_ ?_ ?_ ?_ ?_ ?_ ?_ ?_ ?_ ?_ ?_ ?_ ?_ ?_ ?_ ?_ ?_ ?_ ?_ ?_ ?_ ?_ ?_ ?_ ?_ ?_ ?_ ?_ ?_ ?_ ?_ ?_ ?_)
    | exact .inl rfl
    | dsimp only
    | dsimp only [id]

theorem packageReset_frame {L : List StatePart} {s0 : State} {f : ResetFindings} {s : State}
    (hL : ∀ p ∈ [StatePart.gtc, .od, .stored, .counters, .mgmt, .links, .intx, .requests, .ats, .port0, .fnCfg, .fnState, .mbx, .admin, .faultq, .int, .capture, .fnOther, .ctxs, .objs, .slots, .cmds, .engines, .entries, .lookups, .peers, .windows, .coherence, .memory, .pool, .sync, .det, .idle, .err, .sec, .power, .boot, .draws, .out], p ∈ L) (hok : SameBut L s0 s) :
    SameBut L s0 (packageReset f s) := by
  unfold packageReset
  repeat' first
    | with_reducible assumption
    | with_reducible exact .inl rfl
    | exact .inr (hL _ (by decide))
    | (extract_lets +onlyGivenNames x
       first
       | (refine sameStep (L := L) (s0 := s0) (x := x) (fun hx => ?_) ?_; clear_value x; rotate_left; subst x)
       | (refine sameStep (L := L) (s0 := s0) (x := x.1) (fun hx => ?_) ?_; clear_value x; rotate_left; subst x)
       | subst x)
    | with_reducible refine SameBut.ite ?_ ?_
    | with_reducible refine flushRecords_frame (parts_sub (by decide) hL) ?_
    | with_reducible refine settleRestore_frame (parts_sub (by decide) hL) ?_
    | with_reducible refine foldState_frame (fun _ _ _ => ?_) ?_
    | with_reducible refine freeSpan_frame (parts_sub (by decide) hL) ?_
    | with_reducible refine loadStored_frame (parts_sub (by decide) hL) ?_
    | with_reducible refine bareState_frame (parts_sub (by decide) hL) ?_
    | with_reducible refine recordLost_frame (parts_sub (by decide) hL) ?_
    | with_reducible refine resetFns_frame (parts_sub (by decide) hL) ?_
    | with_reducible refine takeEffect_frame (parts_sub (by decide) hL) ?_
    | with_reducible refine bootStops_frame (parts_sub (by decide) hL) ?_
    | with_reducible refine trainPorts_frame (parts_sub (by decide) hL) ?_
    | with_reducible refine resetMem_frame (parts_sub (by decide) hL) ?_
    | with_reducible refine raiseLost_frame (parts_sub (by decide) hL) ?_
    | intro _ _ _
    | intro _ _
    | intro _
    | split
    | (simp only [same_lit]; with_reducible refine SameLit.of ?_ ?_ ?_ ?_ ?_ ?_ ?_ ?_ ?_ ?_ ?_ ?_ ?_ ?_ ?_ ?_ ?_ ?_ ?_ ?_ ?_ ?_ ?_ ?_ ?_ ?_ ?_ ?_ ?_ ?_ ?_ ?_ ?_ ?_ ?_ ?_ ?_ ?_ ?_ ?_)
    | exact .inl rfl
    | dsimp only
    | dsimp only [id]

theorem execPackageReset_frame {f : ResetFindings} {s : State} :
    OutBut [StatePart.gtc, .od, .stored, .counters, .mgmt, .links, .intx, .requests, .ats, .port0, .fnCfg, .fnState, .mbx, .admin, .faultq, .int, .capture, .fnOther, .ctxs, .objs, .slots, .cmds, .engines, .entries, .lookups, .peers, .windows, .coherence, .memory, .pool, .sync, .det, .idle, .err, .sec, .power, .boot, .draws, .out] s (execPackageReset f s) := by
  unfold execPackageReset
  refine OutBut.of (fun L s0 hL hok => ?_)
  repeat' first
    | with_reducible assumption
    | with_reducible refine SameBut.ite ?_ ?_
    | with_reducible refine packageReset_frame (parts_sub (by decide) hL) ?_
    | intro _ _ _
    | intro _ _
    | intro _
    | split
    | dsimp only
    | dsimp only [id]

theorem execResetDone_frame {s : State} :
    OutBut [StatePart.od, .stored, .counters, .mgmt, .links, .intx, .fnCfg, .int, .capture, .memory, .pool, .err, .sec, .power, .boot, .draws, .out] s (execResetDone s) := by
  unfold execResetDone
  refine OutBut.of (fun L s0 hL hok => ?_)
  repeat' first
    | with_reducible assumption
    | with_reducible exact .inl rfl
    | exact .inr (hL _ (by decide))
    | (extract_lets +onlyGivenNames x
       first
       | (refine sameStep (L := L) (s0 := s0) (x := x) (fun hx => ?_) ?_; clear_value x; rotate_left; subst x)
       | subst x)
    | with_reducible refine SameBut.ite ?_ ?_
    | with_reducible refine finishPool_frame (parts_sub (by decide) hL) ?_
    | intro _ _ _
    | intro _ _
    | intro _
    | split
    | (simp only [same_lit]; with_reducible refine SameLit.of ?_ ?_ ?_ ?_ ?_ ?_ ?_ ?_ ?_ ?_ ?_ ?_ ?_ ?_ ?_ ?_ ?_ ?_ ?_ ?_ ?_ ?_ ?_ ?_ ?_ ?_ ?_ ?_ ?_ ?_ ?_ ?_ ?_ ?_ ?_ ?_ ?_ ?_ ?_ ?_)
    | exact .inl rfl
    | dsimp only
    | dsimp only [id]

end Sys2Proof.Machine
end

