-- ==== Sys2Proof/Laws/Memory.lean ====
section
/-!
SUPPORT. Laws of sparse memory: reading after writing, and that every operation keeps the canonical form.
-/
namespace Sys2Proof.Machine

theorem wf_tail {c : Host.Cell} {m : Mem} (h : Memory.wf (c :: m) = true) : Memory.wf m = true := by
  cases m with
  | nil => rfl
  | cons d m => simp [Memory.wf] at h ⊢; exact h.2

theorem wf_head {a : Nat} {v : U8} {m : Mem} (h : Memory.wf ((a, v) :: m) = true) : v ≠ 0 := by
  cases m with
  | nil => simpa [Memory.wf] using h
  | cons d m => simp [Memory.wf] at h; exact h.1.1

/-- Every address in a canonical memory lies above its first. -/
theorem wf_above {a : Nat} {v : U8} {m : Mem} (h : Memory.wf ((a, v) :: m) = true) : ∀ c ∈ m, a < c.1 := by
  induction m generalizing a v with
  | nil => simp
  | cons d m ih =>
    obtain ⟨b, w⟩ := d
    simp [Memory.wf] at h
    intro c hc
    rcases List.mem_cons.1 hc with rfl | hc
    · exact h.1.2
    · exact Nat.lt_trans h.1.2 (ih h.2 c hc)

theorem wf_cons {a : Nat} {v : U8} {m : Mem} (hv : v ≠ 0) (hm : Memory.wf m = true) (ha : ∀ c ∈ m, a < c.1) :
    Memory.wf ((a, v) :: m) = true := by
  cases m with
  | nil => simpa [Memory.wf] using hv
  | cons d m => simp [Memory.wf, hm, ha d (by simp)]; exact hv

/-- What a write can leave listed: what was listed, or the address written. -/
theorem mem_memSet {m : Mem} {a : Nat} {v : U8} {c : Host.Cell} (h : c ∈ memSet m a v) : c ∈ m ∨ c.1 = a := by
  induction m with
  | nil =>
    simp only [memSet] at h
    split at h
    · simp at h
    · simp at h; simp [h]
  | cons d m ih =>
    obtain ⟨b, w⟩ := d
    simp only [memSet] at h
    split at h
    · split at h
      · exact .inl h
      · rcases List.mem_cons.1 h with rfl | h
        · exact .inr rfl
        · exact .inl h
    · split at h
      · split at h
        · exact .inl (List.mem_cons_of_mem _ h)
        · rcases List.mem_cons.1 h with rfl | h
          · exact .inr rfl
          · exact .inl (List.mem_cons_of_mem _ h)
      · rcases List.mem_cons.1 h with rfl | h
        · exact .inl (by simp)
        · rcases ih h with h | h
          · exact .inl (List.mem_cons_of_mem _ h)
          · exact .inr h

/-- A write keeps the canonical form. -/
theorem memSet_wf {m : Mem} (h : Memory.wf m = true) (a : Nat) (v : U8) : Memory.wf (memSet m a v) = true := by
  induction m with
  | nil =>
    simp only [memSet]
    split
    · rfl
    · simpa [Memory.wf]
  | cons d m ih =>
    obtain ⟨b, w⟩ := d
    have ht := wf_tail h
    have hb := wf_head h
    have hab := wf_above h
    simp only [memSet]
    split
    · rename_i hlt
      split
      · exact h
      · rename_i hv
        refine wf_cons hv h ?_
        intro c hc
        rcases List.mem_cons.1 hc with rfl | hc
        · exact hlt
        · exact Nat.lt_trans hlt (hab c hc)
    · split
      · rename_i hne heq
        split
        · exact ht
        · rename_i hv
          exact wf_cons hv ht (fun c hc => heq ▸ hab c hc)
      · rename_i hlt hne
        refine wf_cons hb (ih ht) ?_
        intro c hc
        rcases mem_memSet hc with hc | hc
        · exact hab c hc
        · omega

theorem memWrite_wf (bs : Bytes) : ∀ {m : Mem}, Memory.wf m = true → ∀ a, Memory.wf (memWrite m a bs) = true := by
  induction bs with
  | nil => intro m h a; exact h
  | cons b bs ih => intro m h a; exact ih (memSet_wf h a b) (a + 1)

theorem filter_wf {m : Mem} (h : Memory.wf m = true) (p : Host.Cell → Bool) : Memory.wf (m.filter p) = true := by
  induction m with
  | nil => rfl
  | cons d m ih =>
    obtain ⟨a, v⟩ := d
    simp only [List.filter_cons]
    split
    · exact wf_cons (wf_head h) (ih (wf_tail h)) (fun c hc => wf_above h c (List.mem_filter.1 hc).1)
    · exact ih (wf_tail h)

/-- Zeroing a span keeps the canonical form. -/
theorem memZero_wf {m : Mem} (h : Memory.wf m = true) (a n : Nat) : Memory.wf (memZero m a n) = true := filter_wf h _

/-- Below the addresses listed, memory reads 0. -/
theorem memGet_below {m : Mem} : ∀ {y : Nat}, (∀ c ∈ m, y < c.1) → memGet m y = 0 := by
  induction m with
  | nil => intro y _; rfl
  | cons e m ih =>
    intro y hy
    obtain ⟨z, u⟩ := e
    have hz : y < z := hy (z, u) (by simp)
    have hne : y ≠ z := by omega
    simp only [memGet, hne, if_false]
    exact ih (fun c hc => hy c (by simp [hc]))

/-- Reading the written address gives the value written. -/
theorem memGet_memSet_same {m : Mem} (h : Memory.wf m = true) (a : Nat) (v : U8) : memGet (memSet m a v) a = v := by
  induction m with
  | nil => simp only [memSet]; split <;> simp_all [memGet]
  | cons d m ih =>
    obtain ⟨x, w⟩ := d
    have ht := wf_tail h
    have hx := wf_above h
    simp only [memSet]
    split
    · rename_i hlt
      have hne : a ≠ x := by omega
      split
      · rename_i hv
        simp only [memGet, hne, if_false, hv]
        exact memGet_below (fun c hc => Nat.lt_trans hlt (hx c hc))
      · simp [memGet]
    · split
      · rename_i heq
        subst heq
        split
        · rename_i hv; rw [hv]; exact memGet_below hx
        · simp [memGet]
      · rename_i hlt hne
        have hxa : a ≠ x := by omega
        simp only [memGet, hxa, if_false]
        exact ih ht

/-- Every other address reads as before. -/
theorem memGet_memSet_other {m : Mem} (h : Memory.wf m = true) {a b : Nat} (hab : b ≠ a) (v : U8) :
    memGet (memSet m a v) b = memGet m b := by
  induction m with
  | nil => simp only [memSet]; split <;> simp [memGet, hab]
  | cons d m ih =>
    obtain ⟨x, w⟩ := d
    have ht := wf_tail h
    have hx := wf_above h
    simp only [memSet]
    split
    · split
      · rfl
      · simp [memGet, hab]
    · split
      · rename_i heq
        subst heq
        split
        · by_cases hb : b = a
          · exact absurd hb hab
          · simp [memGet, hb]
        · simp [memGet, hab]
      · by_cases hb : b = x
        · simp [memGet, hb]
        · simp only [memGet, hb, if_false]; exact ih ht

end Sys2Proof.Machine
end

