-- ==== Sys2Proof/Laws/Keeps.lean ====
section
/-!
SUPPORT. The plain updates of the state keep what every command keeps (`Ok`): the invariant, the variant, the queue
and what has been issued.
-/
namespace Sys2Proof.Machine

theorem Ok.refl (s : State) : Ok s s := ⟨id, rfl, rfl, List.suffix_refl _, Nat.le_refl _⟩

theorem Ok.trans {s0 s t : State} (h : Ok s0 s) (k : Ok s t) : Ok s0 t :=
  ⟨fun i => k.inv (h.inv i), k.variant.trans h.variant, k.pending.trans h.pending, h.out.trans k.out,
    Nat.le_trans h.draws k.draws⟩

/-- `Ok` of a state written out field by field; a spelling that `simp only [ok_lit]` brings about. -/
def OkLit (s0 : State) (variant : Variant) (gtc : U64) (od stored : List (Nat × Val)) (counters : List (Nat × U64))
    (mgmt : MgmtSt) (ports : List PortSt) (port0 : Port0St) (fns : List FnSt) (obj : ObjSt) (cmd : CmdSt)
    (trans : TransSt) (win : WinSt) (pool : PoolSt) (sync : SyncSt) (det : DetSt) (idle : BitVec 4) (err : ErrSt)
    (sec : SecSt) (power : PowerSt) (boot : BootSt) (draws : Nat) (out : List Msg) (pending : List Instr) : Prop :=
  Ok s0 ⟨variant, gtc, od, stored, counters, mgmt, ports, port0, fns, obj, cmd, trans, win, pool, sync, det, idle, err,
    sec, power, boot, draws, out, pending⟩

theorem ok_lit {s0 variant gtc od stored counters mgmt ports port0 fns obj cmd trans win pool sync det idle err sec power
    boot draws out pending} :
    Ok s0 ⟨variant, gtc, od, stored, counters, mgmt, ports, port0, fns, obj, cmd, trans, win, pool, sync, det, idle, err,
      sec, power, boot, draws, out, pending⟩ =
    OkLit s0 variant gtc od stored counters mgmt ports port0 fns obj cmd trans win pool sync det idle err sec power boot
      draws out pending := rfl

/-- An update of fields beyond the invariant's. -/
theorem OkLit.of {s0 s : State} (h : Ok s0 s) {gtc od stored counters mgmt port0 obj sync det idle err power}
    {ports : List PortSt} {cmd : CmdSt} {trans : TransSt} {win : WinSt} {pool : PoolSt} {sec : SecSt} {boot : BootSt}
    {draws : Nat}
    (hp : s.ports.length = 4 → ports.length = 4) (hc : s.cmd.engines.length = 32 → cmd.engines.length = 32)
    (ht : s.trans.banks.length = 8 → trans.banks.length = 8) (hw : s.win.coh.length = 64 → win.coh.length = 64)
    (hm : Memory.wf s.pool.mem = true → Memory.wf pool.mem = true) (hs : s.sec.mr.length = 4 → sec.mr.length = 4)
    (hb : Memory.wf s.boot.image = true → Memory.wf boot.image = true) (hd : s.draws ≤ draws) :
    OkLit s0 s.variant gtc od stored counters mgmt ports port0 s.fns obj cmd trans win pool sync det idle err sec power
      boot draws s.out s.pending :=
  ⟨fun i => ⟨(h.inv i).fns, (h.inv i).fnOk, hp (h.inv i).ports, hm (h.inv i).pool, hb (h.inv i).image,
      ht (h.inv i).banks, hc (h.inv i).engines, hw (h.inv i).coh, hs (h.inv i).mr⟩,
    h.variant, h.pending, h.out, Nat.le_trans h.draws hd⟩

/-- The same with the functions rewritten. -/
theorem OkLit.ofFns {s0 s : State} (h : Ok s0 s) {gtc od stored counters mgmt port0 obj sync det idle err power}
    {ports : List PortSt} {fns : List FnSt} {cmd : CmdSt} {trans : TransSt} {win : WinSt} {pool : PoolSt} {sec : SecSt}
    {boot : BootSt} {draws : Nat}
    (hn : s.fns.length = 32 → fns.length = 32) (hf : (∀ f ∈ s.fns, FnOk f) → ∀ f ∈ fns, FnOk f)
    (hp : s.ports.length = 4 → ports.length = 4) (hc : s.cmd.engines.length = 32 → cmd.engines.length = 32)
    (ht : s.trans.banks.length = 8 → trans.banks.length = 8) (hw : s.win.coh.length = 64 → win.coh.length = 64)
    (hm : Memory.wf s.pool.mem = true → Memory.wf pool.mem = true) (hs : s.sec.mr.length = 4 → sec.mr.length = 4)
    (hb : Memory.wf s.boot.image = true → Memory.wf boot.image = true) (hd : s.draws ≤ draws) :
    OkLit s0 s.variant gtc od stored counters mgmt ports port0 fns obj cmd trans win pool sync det idle err sec power
      boot draws s.out s.pending :=
  ⟨fun i => ⟨hn (h.inv i).fns, hf (h.inv i).fnOk, hp (h.inv i).ports, hm (h.inv i).pool, hb (h.inv i).image,
      ht (h.inv i).banks, hc (h.inv i).engines, hw (h.inv i).coh, hs (h.inv i).mr⟩,
    h.variant, h.pending, h.out, Nat.le_trans h.draws hd⟩

theorem map_fnOk {l : List FnSt} {f : FnSt → FnSt} (hf : ∀ x, FnOk x → FnOk (f x)) :
    (∀ x ∈ l, FnOk x) → ∀ x ∈ l.map f, FnOk x := by
  intro h x hx
  obtain ⟨y, hy, rfl⟩ := List.mem_map.1 hx
  exact hf y (h y hy)

theorem Ok.ite {s0 a b : State} {c : Prop} [Decidable c] (ha : Ok s0 a) (hb : Ok s0 b) :
    Ok s0 (if c then a else b) := by split <;> assumption

theorem Ok.ofPair {α : Type} {s0 t : State} {f : State × α} {a : α} (h : Ok s0 f.1) (e : f = (t, a)) : Ok s0 t := by
  rw [e] at h; exact h

/-- One `let` of a state at a time. -/
theorem okStep {s0 x : State} {P : Prop} (k : Ok s0 x → P) (hx : Ok s0 x) : P := k hx

/-- An update of every function alike. -/
theorem Ok.mapFns {s0 s : State} (h : Ok s0 s) {f : FnSt → FnSt} (hf : ∀ x, FnOk x → FnOk (f x)) :
    Ok s0 { s with fns := s.fns.map f } :=
  ⟨fun i => { h.inv i with
      fns := by simpa using (h.inv i).fns
      fnOk := by
        intro x hx
        obtain ⟨y, hy, rfl⟩ := List.mem_map.1 hx
        exact hf y ((h.inv i).fnOk y hy) },
    h.variant, h.pending, h.out, h.draws⟩

theorem foldState_ok {α : Type} {s0 : State} {f : α → State → State} {l : List α} {s : State}
    (hf : ∀ a t, Ok s0 t → Ok s0 (f a t)) (h : Ok s0 s) : Ok s0 (foldState f l s) := by
  induction l generalizing s with
  | nil => exact h
  | cons a l ih => exact ih (hf a s h)

theorem modify_mem {α : Type} {f : α → α} : ∀ {l : List α} {n : Nat} {x : α},
    x ∈ l.modify n f → x ∈ l ∨ ∃ y ∈ l, x = f y
  | [], n, x, h => by simp at h
  | a :: l, 0, x, h => by
    simp only [List.modify_zero_cons, List.mem_cons] at h
    rcases h with rfl | h
    · exact .inr ⟨a, by simp, rfl⟩
    · exact .inl (by simp [h])
  | a :: l, n + 1, x, h => by
    simp only [List.modify_succ_cons, List.mem_cons] at h
    rcases h with rfl | h
    · exact .inl (by simp)
    · rcases modify_mem h with h | ⟨y, hy, rfl⟩
      · exact .inl (by simp [h])
      · exact .inr ⟨y, by simp [hy], rfl⟩

theorem modFn_ok {s0 s : State} {g : Fun} {f : FnSt → FnSt} (hf : ∀ x, FnOk x → FnOk (f x)) (h : Ok s0 s) :
    Ok s0 (modFn g f s) :=
  ⟨fun i => { h.inv i with
      fns := by simpa [modFn] using (h.inv i).fns
      fnOk := by
        intro x hx
        rcases modify_mem hx with hx | ⟨y, hy, rfl⟩
        · exact (h.inv i).fnOk x hx
        · exact hf y ((h.inv i).fnOk y hy) },
    h.variant, h.pending, h.out, h.draws⟩

theorem modCfg_ok {s0 s : State} {g : Fun} {f : FnCfg → FnCfg} (hf : ∀ x, CfgOk x → CfgOk (f x)) (h : Ok s0 s) :
    Ok s0 (modCfg g f s) := modFn_ok (fun x hx => { hx with cfg := hf x.cfg hx.cfg }) h

theorem modMbx_ok {s0 s : State} {g : Fun} {f : MbxSt → MbxSt} (h : Ok s0 s) : Ok s0 (modMbx g f s) :=
  modFn_ok (fun _ hx => ⟨hx.cfg, hx.admin, hx.faultq, hx.int⟩) h

theorem modAdmin_ok {s0 s : State} {g : Fun} {f : AdminQ → AdminQ} (hf : ∀ x, AdminOk x → AdminOk (f x))
    (h : Ok s0 s) : Ok s0 (modAdmin g f s) := modFn_ok (fun x hx => { hx with admin := hf x.admin hx.admin }) h

theorem modFaultq_ok {s0 s : State} {g : Fun} {f : FaultQ → FaultQ} (hf : ∀ x, FaultqOk x → FaultqOk (f x))
    (h : Ok s0 s) : Ok s0 (modFaultq g f s) :=
  modFn_ok (fun x hx => { hx with faultq := hf x.faultq hx.faultq }) h

theorem modInt_ok {s0 s : State} {g : Fun} {f : IntSt → IntSt} (hf : ∀ x, IntOk x → IntOk (f x)) (h : Ok s0 s) :
    Ok s0 (modInt g f s) := modFn_ok (fun x hx => { hx with int := hf x.int hx.int }) h

theorem modPort_ok {s0 s : State} {p : Port} {f : PortSt → PortSt} (h : Ok s0 s) : Ok s0 (modPort p f s) :=
  ⟨fun i => { h.inv i with ports := by simpa [modPort] using (h.inv i).ports },
    h.variant, h.pending, h.out, h.draws⟩

theorem emit_ok {s0 s : State} {m : Msg} (h : Ok s0 s) : Ok s0 (emit m s) :=
  ⟨fun i => ⟨(h.inv i).fns, (h.inv i).fnOk, (h.inv i).ports, (h.inv i).pool, (h.inv i).image, (h.inv i).banks,
      (h.inv i).engines, (h.inv i).coh, (h.inv i).mr⟩,
    h.variant, h.pending, h.out.trans (List.suffix_cons m s.out), h.draws⟩

theorem draw_ok {s0 s : State} (h : Ok s0 s) : Ok s0 (draw s) :=
  ⟨fun i => ⟨(h.inv i).fns, (h.inv i).fnOk, (h.inv i).ports, (h.inv i).pool, (h.inv i).image, (h.inv i).banks,
      (h.inv i).engines, (h.inv i).coh, (h.inv i).mr⟩,
    h.variant, h.pending, h.out, Nat.le_trans h.draws (Nat.le_succ _)⟩

/-- A base is aligned after its low bits are dropped. -/
theorem w64_align (n k : Nat) (hk : k ∣ 2 ^ 64) : (w64 (n / k * k)).toNat % k = 0 := by
  simp only [w64, BitVec.toNat_ofNat]
  rw [Nat.mod_mod_of_dvd _ hk]
  exact Nat.mul_mod_left _ _

/-- Bits outside a mask are 0 after it is applied. -/
theorem and_clear {n : Nat} (v m k : BitVec n) (h : m &&& k = 0) : v &&& m &&& k = 0 := by
  rw [BitVec.and_assoc, h]; exact BitVec.and_zero

/-- Registers at their defaults are in range. -/
theorem CfgOk.init (n : Nat) : CfgOk (FnCfg.init n) := by constructor <;> simp [FnCfg.init]
theorem AdminOk.init : AdminOk AdminQ.init := ⟨by decide, by decide⟩
theorem FaultqOk.init : FaultqOk FaultQ.init := ⟨by decide, by decide, by decide⟩
theorem IntOk.init : IntOk IntSt.init := ⟨by decide, BitVec.and_not_self validSources⟩
theorem FnOk.init (b : Bool) (n : Nat) : FnOk (FnSt.init b n) := ⟨CfgOk.init n, AdminOk.init, FaultqOk.init, IntOk.init⟩

end Sys2Proof.Machine
end

