-- ==== Sys2Proof/Laws/KeepsOperations.lean ====
section
/-!
SUPPORT. What every command keeps (`Ok`), update by update: the shared operations: objects, pool, translation, fabric, ends of commands, events.
Each lemma follows its definition: one let at a time, one branch at a time, and the lemma of each operation that it calls.
-/
set_option linter.unusedSimpArgs false

namespace Sys2Proof.Machine

/-! ### Machine/Objects.lean -/

theorem setObj_ok {s0 : State} {index sub : Nat} {v : Val} {s : State} (hok : Ok s0 s) :
    Ok s0 (setObj index sub v s) := by
  unfold setObj
  repeat' first
    | with_reducible assumption
    | (extract_lets +onlyGivenNames x
       first
       | (refine okStep (s0 := s0) (x := x) (fun hx => ?_) ?_; clear_value x; rotate_left; subst x)
       | subst x)
    | with_reducible refine Ok.ite ?_ ?_
    | intro _ _ _
    | intro _ _
    | split
    | (simp only [ok_lit]; with_reducible refine OkLit.of ?_ ?_ ?_ ?_ ?_ ?_ ?_ ?_ ?_)
    | exact fun h => h
    | exact fun _ => rfl
    | exact Nat.le_refl _
    | dsimp only
    | dsimp only [id]


/-! ### Machine/Ops.lean -/

theorem modCtx_ok {s0 : State} {c : CtxId} {f : Ctx → Ctx} {s : State} (hok : Ok s0 s) :
    Ok s0 (modCtx c f s) := by
  unfold modCtx
  repeat' first
    | with_reducible assumption
    | (extract_lets +onlyGivenNames x
       first
       | (refine okStep (s0 := s0) (x := x) (fun hx => ?_) ?_; clear_value x; rotate_left; subst x)
       | (refine okStep (s0 := s0) (x := x.1) (fun hx => ?_) ?_; clear_value x; rotate_left; subst x)
       | subst x)
    | with_reducible refine Ok.ite ?_ ?_
    | intro _ _ _
    | intro _ _
    | split
    | (simp only [ok_lit]; with_reducible refine OkLit.of ?_ ?_ ?_ ?_ ?_ ?_ ?_ ?_ ?_)
    | exact fun h => h
    | exact fun _ => rfl
    | exact Nat.le_refl _
    | dsimp only
    | dsimp only [id]
    | (intro hl; simp [hl]; done)

theorem modObj_ok {s0 : State} {slot : Nat} {f : MemObj → MemObj} {s : State} (hok : Ok s0 s) :
    Ok s0 (modObj slot f s) := by
  unfold modObj
  repeat' first
    | with_reducible assumption
    | (extract_lets +onlyGivenNames x
       first
       | (refine okStep (s0 := s0) (x := x) (fun hx => ?_) ?_; clear_value x; rotate_left; subst x)
       | subst x)
    | with_reducible refine Ok.ite ?_ ?_
    | intro _ _ _
    | intro _ _
    | split
    | (simp only [ok_lit]; with_reducible refine OkLit.of ?_ ?_ ?_ ?_ ?_ ?_ ?_ ?_ ?_)
    | exact fun h => h
    | exact fun _ => rfl
    | exact Nat.le_refl _
    | dsimp only
    | dsimp only [id]
    | (intro hl; simp [hl]; done)

theorem modCmd_ok {s0 : State} {c : CtxId} {q : Nat} {f : Cmd → Cmd} {s : State} (hok : Ok s0 s) :
    Ok s0 (modCmd c q f s) := by
  unfold modCmd
  repeat' first
    | with_reducible assumption
    | (extract_lets +onlyGivenNames x
       first
       | (refine okStep (s0 := s0) (x := x) (fun hx => ?_) ?_; clear_value x; rotate_left; subst x)
       | subst x)
    | with_reducible refine Ok.ite ?_ ?_
    | intro _ _ _
    | intro _ _
    | split
    | (simp only [ok_lit]; with_reducible refine OkLit.of ?_ ?_ ?_ ?_ ?_ ?_ ?_ ?_ ?_)
    | exact fun h => h
    | exact fun _ => rfl
    | exact Nat.le_refl _
    | dsimp only
    | dsimp only [id]
    | (intro hl; simp [hl]; done)

theorem formEvent_ok {s0 : State} {g : Fun} {ring kind info : Nat} {c : Option CtxId} {data0 data1 : U64} {s : State} (hok : Ok s0 s) :
    Ok s0 (formEvent g ring kind info c data0 data1 s) := by
  unfold formEvent
  repeat' first
    | with_reducible assumption
    | (extract_lets +onlyGivenNames x
       first
       | (refine okStep (s0 := s0) (x := x) (fun hx => ?_) ?_; clear_value x; rotate_left; subst x)
       | subst x)
    | with_reducible apply modInt_ok
    | (intro x hx; (repeat' split) <;> exact ⟨hx.delay, hx.masks⟩)
    | intro _ _ _
    | intro _ _
    | (simp only [ok_lit]; with_reducible refine OkLit.of ?_ ?_ ?_ ?_ ?_ ?_ ?_ ?_ ?_)
    | exact fun h => h
    | exact fun _ => rfl
    | exact Nat.le_refl _
    | dsimp only
    | dsimp only [id]

theorem saturated_ok {s0 : State} {g : Fun} {c : Option CtxId} {locator : Nat} {s : State} (hok : Ok s0 s) :
    Ok s0 (saturated g c locator s) := by
  unfold saturated
  repeat' first
    | with_reducible assumption
    | with_reducible apply formEvent_ok
    | intro _ _ _
    | intro _ _
    | dsimp only
    | dsimp only [id]

theorem count_ok {s0 : State} {index sub : Nat} {s : State} (hok : Ok s0 s) :
    Ok s0 (count index sub s) := by
  unfold count
  repeat' first
    | with_reducible assumption
    | (extract_lets +onlyGivenNames x
       first
       | (refine okStep (s0 := s0) (x := x) (fun hx => ?_) ?_; clear_value x; rotate_left; subst x)
       | subst x)
    | with_reducible refine Ok.ite ?_ ?_
    | with_reducible apply saturated_ok
    | with_reducible refine Ok.ofPair ?_ (by with_reducible assumption)
    | intro _ _ _
    | intro _ _
    | split
    | (simp only [ok_lit]; with_reducible refine OkLit.of ?_ ?_ ?_ ?_ ?_ ?_ ?_ ?_ ?_)
    | exact fun h => h
    | exact fun _ => rfl
    | exact Nat.le_refl _
    | dsimp only
    | dsimp only [id]

theorem clearCount_ok {s0 : State} {index sub : Nat} {s : State} (hok : Ok s0 s) :
    Ok s0 (clearCount index sub s) := by
  unfold clearCount
  repeat' first
    | with_reducible assumption
    | (extract_lets +onlyGivenNames x
       first
       | (refine okStep (s0 := s0) (x := x) (fun hx => ?_) ?_; clear_value x; rotate_left; subst x)
       | subst x)
    | intro _ _ _
    | intro _ _
    | (simp only [ok_lit]; with_reducible refine OkLit.of ?_ ?_ ?_ ?_ ?_ ?_ ?_ ?_ ?_)
    | exact fun h => h
    | exact fun _ => rfl
    | exact Nat.le_refl _
    | dsimp only
    | dsimp only [id]

theorem countPackage_ok {s0 : State} {sub : Nat} {s : State} (hok : Ok s0 s) :
    Ok s0 (countPackage sub s) := by
  unfold countPackage
  repeat' first
    | with_reducible assumption
    | with_reducible apply count_ok
    | intro _ _ _
    | intro _ _
    | dsimp only
    | dsimp only [id]

theorem countPort_ok {s0 : State} {p : Port} {sub : Nat} {s : State} (hok : Ok s0 s) :
    Ok s0 (countPort p sub s) := by
  unfold countPort
  repeat' first
    | with_reducible assumption
    | with_reducible apply count_ok
    | intro _ _ _
    | intro _ _
    | dsimp only
    | dsimp only [id]

theorem countFn_ok {s0 : State} {g : Fun} {sub : Nat} {s : State} (hok : Ok s0 s) :
    Ok s0 (countFn g sub s) := by
  unfold countFn
  repeat' first
    | with_reducible assumption
    | with_reducible apply count_ok
    | intro _ _ _
    | intro _ _
    | dsimp only
    | dsimp only [id]

theorem writeRecord_ok {s0 : State} {ref : Ref} {v : Val} {s : State} (hok : Ok s0 s) :
    Ok s0 (writeRecord ref v s) := by
  unfold writeRecord
  repeat' first
    | with_reducible assumption
    | (extract_lets +onlyGivenNames x
       first
       | (refine okStep (s0 := s0) (x := x) (fun hx => ?_) ?_; clear_value x; rotate_left; subst x)
       | subst x)
    | with_reducible apply countPackage_ok
    | with_reducible refine Ok.ofPair ?_ (by with_reducible assumption)
    | intro _ _ _
    | intro _ _
    | split
    | (simp only [ok_lit]; with_reducible refine OkLit.of ?_ ?_ ?_ ?_ ?_ ?_ ?_ ?_ ?_)
    | exact fun h => h
    | exact fun _ => rfl
    | exact Nat.le_refl _
    | dsimp only
    | dsimp only [id]

theorem sendIntx_ok {s0 : State} {p : Port} {s : State} (hok : Ok s0 s) :
    Ok s0 (sendIntx p s) := by
  unfold sendIntx
  repeat' first
    | with_reducible assumption
    | (extract_lets +onlyGivenNames x
       first
       | (refine okStep (s0 := s0) (x := x) (fun hx => ?_) ?_; clear_value x; rotate_left; subst x)
       | subst x)
    | with_reducible refine Ok.ite ?_ ?_
    | with_reducible apply foldState_ok
    | with_reducible apply emit_ok
    | with_reducible apply modPort_ok
    | intro _ _ _
    | intro _ _
    | split
    | (simp only [ok_lit]; with_reducible refine OkLit.of ?_ ?_ ?_ ?_ ?_ ?_ ?_ ?_ ?_)
    | exact fun h => h
    | exact fun _ => rfl
    | exact Nat.le_refl _
    | dsimp only
    | dsimp only [id]

theorem settleIntx_ok {s0 : State} {before : State} {p : Port} {s : State} (hok : Ok s0 s) :
    Ok s0 (settleIntx before p s) := by
  unfold settleIntx
  repeat' first
    | with_reducible assumption
    | with_reducible refine Ok.ite ?_ ?_
    | with_reducible apply sendIntx_ok
    | with_reducible apply foldState_ok
    | with_reducible apply countFn_ok
    | intro _ _ _
    | intro _ _
    | split
    | dsimp only
    | dsimp only [id]

theorem modPower_ok {s0 : State} {f : PowerSt → PowerSt} {s : State} (hok : Ok s0 s) :
    Ok s0 (modPower f s) := by
  unfold modPower
  repeat' first
    | with_reducible assumption
    | (extract_lets +onlyGivenNames x
       first
       | (refine okStep (s0 := s0) (x := x) (fun hx => ?_) ?_; clear_value x; rotate_left; subst x)
       | subst x)
    | intro _ _ _
    | intro _ _
    | (simp only [ok_lit]; with_reducible refine OkLit.of ?_ ?_ ?_ ?_ ?_ ?_ ?_ ?_ ?_)
    | exact fun h => h
    | exact fun _ => rfl
    | exact Nat.le_refl _
    | dsimp only
    | dsimp only [id]

theorem assertWake_ok {s0 : State} {g : Fun} {source : Nat} {s : State} (hok : Ok s0 s) :
    Ok s0 (assertWake g source s) := by
  unfold assertWake
  repeat' first
    | with_reducible assumption
    | (extract_lets +onlyGivenNames x
       first
       | (refine okStep (s0 := s0) (x := x) (fun hx => ?_) ?_; clear_value x; rotate_left; subst x)
       | subst x)
    | with_reducible refine Ok.ite ?_ ?_
    | with_reducible apply emit_ok
    | with_reducible apply modPort_ok
    | intro _ _ _
    | intro _ _
    | split
    | (simp only [ok_lit]; with_reducible refine OkLit.of ?_ ?_ ?_ ?_ ?_ ?_ ?_ ?_ ?_)
    | exact fun h => h
    | exact fun _ => rfl
    | exact Nat.le_refl _
    | dsimp only
    | dsimp only [id]

theorem entryWake_ok {s0 : State} {code : Nat} {s : State} (hok : Ok s0 s) :
    Ok s0 (entryWake code s) := by
  unfold entryWake
  repeat' first
    | with_reducible assumption
    | (extract_lets +onlyGivenNames x
       first
       | (refine okStep (s0 := s0) (x := x) (fun hx => ?_) ?_; clear_value x; rotate_left; subst x)
       | subst x)
    | with_reducible refine Ok.ite ?_ ?_
    | with_reducible apply assertWake_ok
    | intro _ _ _
    | intro _ _
    | split
    | dsimp only
    | dsimp only [id]

theorem startWake_ok {s0 : State} {code : Nat} {s : State} (hok : Ok s0 s) :
    Ok s0 (startWake code s) := by
  unfold startWake
  repeat' first
    | with_reducible assumption
    | (extract_lets +onlyGivenNames x
       first
       | (refine okStep (s0 := s0) (x := x) (fun hx => ?_) ?_; clear_value x; rotate_left; subst x)
       | subst x)
    | with_reducible apply countPackage_ok
    | with_reducible apply entryWake_ok
    | with_reducible apply modPower_ok
    | intro _ _ _
    | intro _ _
    | (simp only [ok_lit]; with_reducible refine OkLit.of ?_ ?_ ?_ ?_ ?_ ?_ ?_ ?_ ?_)
    | exact fun h => h
    | exact fun _ => rfl
    | exact Nat.le_refl _
    | dsimp only
    | dsimp only [id]

theorem askWake_ok {s0 : State} {code : Nat} {s : State} (hok : Ok s0 s) :
    Ok s0 (askWake code s) := by
  unfold askWake
  repeat' first
    | with_reducible assumption
    | (extract_lets +onlyGivenNames x
       first
       | (refine okStep (s0 := s0) (x := x) (fun hx => ?_) ?_; clear_value x; rotate_left; subst x)
       | subst x)
    | with_reducible refine Ok.ite ?_ ?_
    | with_reducible apply startWake_ok
    | with_reducible apply modPower_ok
    | with_reducible refine Ok.ofPair ?_ (by with_reducible assumption)
    | intro _ _ _
    | intro _ _
    | split
    | (simp only [ok_lit]; with_reducible refine OkLit.of ?_ ?_ ?_ ?_ ?_ ?_ ?_ ?_ ?_)
    | exact fun h => h
    | exact fun _ => rfl
    | exact Nat.le_refl _
    | dsimp only
    | dsimp only [id]

theorem latchLater_ok {s0 : State} {w : WakeInput} {s : State} (hok : Ok s0 s) :
    Ok s0 (latchLater w s) := by
  unfold latchLater
  repeat' first
    | with_reducible assumption
    | (extract_lets +onlyGivenNames x
       first
       | (refine okStep (s0 := s0) (x := x) (fun hx => ?_) ?_; clear_value x; rotate_left; subst x)
       | subst x)
    | with_reducible apply modPower_ok
    | with_reducible refine Ok.ofPair ?_ (by with_reducible assumption)
    | intro _ _ _
    | intro _ _
    | split
    | (simp only [ok_lit]; with_reducible refine OkLit.of ?_ ?_ ?_ ?_ ?_ ?_ ?_ ?_ ?_)
    | exact fun h => h
    | exact fun _ => rfl
    | exact Nat.le_refl _
    | dsimp only
    | dsimp only [id]

theorem wakeFires_ok {s0 : State} {w : WakeInput} {s : State} (hok : Ok s0 s) :
    Ok s0 (wakeFires w s) := by
  unfold wakeFires
  repeat' first
    | with_reducible assumption
    | (extract_lets +onlyGivenNames x
       first
       | (refine okStep (s0 := s0) (x := x) (fun hx => ?_) ?_; clear_value x; rotate_left; subst x)
       | subst x)
    | with_reducible refine Ok.ite ?_ ?_
    | with_reducible apply assertWake_ok
    | with_reducible apply latchLater_ok
    | with_reducible apply askWake_ok
    | with_reducible refine Ok.ofPair ?_ (by with_reducible assumption)
    | intro _ _ _
    | intro _ _
    | split
    | (simp only [ok_lit]; with_reducible refine OkLit.of ?_ ?_ ?_ ?_ ?_ ?_ ?_ ?_ ?_)
    | exact fun h => h
    | exact fun _ => rfl
    | exact Nat.le_refl _
    | dsimp only
    | dsimp only [id]

theorem runWeir_ok {s0 : State} {g : Fun} {before s : State} (hok : Ok s0 s) :
    Ok s0 (runWeir g before s) := by
  unfold runWeir
  repeat' first
    | with_reducible assumption
    | (extract_lets +onlyGivenNames x
       first
       | (refine okStep (s0 := s0) (x := x) (fun hx => ?_) ?_; clear_value x; rotate_left; subst x)
       | subst x)
    | with_reducible refine Ok.ite ?_ ?_
    | with_reducible apply modInt_ok
    | with_reducible apply emit_ok
    | with_reducible apply modCfg_ok
    | with_reducible apply settleIntx_ok
    | (intro x hx; (repeat' split) <;> exact ⟨hx.delay, hx.masks⟩)
    | (intro x hx; (repeat' split) <;> exact ⟨hx.command, hx.devCtl, hx.devCtl2, hx.bar0⟩)
    | intro _ _ _
    | intro _ _
    | split
    | (simp only [ok_lit]; with_reducible refine OkLit.of ?_ ?_ ?_ ?_ ?_ ?_ ?_ ?_ ?_)
    | exact fun h => h
    | exact fun _ => rfl
    | exact Nat.le_refl _
    | dsimp only
    | dsimp only [id]
    | (intro hl; simp [hl]; done)

theorem setLatch_ok {s0 : State} {g : Fun} {source : Nat} {s : State} (hok : Ok s0 s) :
    Ok s0 (setLatch g source s) := by
  unfold setLatch
  repeat' first
    | with_reducible assumption
    | (extract_lets +onlyGivenNames x
       first
       | (refine okStep (s0 := s0) (x := x) (fun hx => ?_) ?_; clear_value x; rotate_left; subst x)
       | subst x)
    | with_reducible refine Ok.ite ?_ ?_
    | with_reducible apply modInt_ok
    | with_reducible apply saturated_ok
    | with_reducible apply runWeir_ok
    | (intro x hx; (repeat' split) <;> exact ⟨hx.delay, hx.masks⟩)
    | with_reducible refine Ok.ofPair ?_ (by with_reducible assumption)
    | intro _ _ _
    | intro _ _
    | split
    | (simp only [ok_lit]; with_reducible refine OkLit.of ?_ ?_ ?_ ?_ ?_ ?_ ?_ ?_ ?_)
    | exact fun h => h
    | exact fun _ => rfl
    | exact Nat.le_refl _
    | dsimp only
    | dsimp only [id]
    | (intro hl; simp [hl]; done)

theorem fire_ok {s0 : State} {g : Fun} {source : Nat} {s : State} (hok : Ok s0 s) :
    Ok s0 (fire g source s) := by
  unfold fire
  repeat' first
    | with_reducible assumption
    | (extract_lets +onlyGivenNames x
       first
       | (refine okStep (s0 := s0) (x := x) (fun hx => ?_) ?_; clear_value x; rotate_left; subst x)
       | subst x)
    | with_reducible refine Ok.ite ?_ ?_
    | with_reducible apply wakeFires_ok
    | with_reducible apply setLatch_ok
    | intro _ _ _
    | intro _ _
    | split
    | dsimp only
    | dsimp only [id]
    | (intro hl; simp [hl]; done)

theorem aerUncorrectable_ok {s0 : State} {g : Fun} {b : Nat} {s : State} (hok : Ok s0 s) :
    Ok s0 (aerUncorrectable g b s) := by
  unfold aerUncorrectable
  repeat' first
    | with_reducible assumption
    | (extract_lets +onlyGivenNames x
       first
       | (refine okStep (s0 := s0) (x := x) (fun hx => ?_) ?_; clear_value x; rotate_left; subst x)
       | subst x)
    | with_reducible refine Ok.ite ?_ ?_
    | with_reducible apply modCfg_ok
    | with_reducible apply emit_ok
    | (intro x hx; (repeat' split) <;> exact ⟨hx.command, hx.devCtl, hx.devCtl2, hx.bar0⟩)
    | with_reducible refine Ok.ofPair ?_ (by with_reducible assumption)
    | intro _ _ _
    | intro _ _
    | split
    | (simp only [ok_lit]; with_reducible refine OkLit.of ?_ ?_ ?_ ?_ ?_ ?_ ?_ ?_ ?_)
    | exact fun h => h
    | exact fun _ => rfl
    | exact Nat.le_refl _
    | dsimp only
    | dsimp only [id]

theorem poisonedTlp_ok {s0 : State} {g : Fun} {s : State} (hok : Ok s0 s) :
    Ok s0 (poisonedTlp g s) := by
  unfold poisonedTlp
  repeat' first
    | with_reducible assumption
    | (extract_lets +onlyGivenNames x
       first
       | (refine okStep (s0 := s0) (x := x) (fun hx => ?_) ?_; clear_value x; rotate_left; subst x)
       | subst x)
    | with_reducible apply aerUncorrectable_ok
    | with_reducible apply modCfg_ok
    | (intro x hx; (repeat' split) <;> exact ⟨hx.command, hx.devCtl, hx.devCtl2, hx.bar0⟩)
    | intro _ _ _
    | intro _ _
    | (simp only [ok_lit]; with_reducible refine OkLit.of ?_ ?_ ?_ ?_ ?_ ?_ ?_ ?_ ?_)
    | exact fun h => h
    | exact fun _ => rfl
    | exact Nat.le_refl _
    | dsimp only
    | dsimp only [id]

theorem aerCorrectable_ok {s0 : State} {g : Fun} {b : Nat} {s : State} (hok : Ok s0 s) :
    Ok s0 (aerCorrectable g b s) := by
  unfold aerCorrectable
  repeat' first
    | with_reducible assumption
    | (extract_lets +onlyGivenNames x
       first
       | (refine okStep (s0 := s0) (x := x) (fun hx => ?_) ?_; clear_value x; rotate_left; subst x)
       | subst x)
    | with_reducible refine Ok.ite ?_ ?_
    | with_reducible apply modCfg_ok
    | with_reducible apply emit_ok
    | (intro x hx; (repeat' split) <;> exact ⟨hx.command, hx.devCtl, hx.devCtl2, hx.bar0⟩)
    | intro _ _ _
    | intro _ _
    | split
    | (simp only [ok_lit]; with_reducible refine OkLit.of ?_ ?_ ?_ ?_ ?_ ?_ ?_ ?_ ?_)
    | exact fun h => h
    | exact fun _ => rfl
    | exact Nat.le_refl _
    | dsimp only
    | dsimp only [id]

theorem unsupportedRequest_ok {s0 : State} {g : Fun} {s : State} (hok : Ok s0 s) :
    Ok s0 (unsupportedRequest g s) := by
  unfold unsupportedRequest
  repeat' first
    | with_reducible assumption
    | (extract_lets +onlyGivenNames x
       first
       | (refine okStep (s0 := s0) (x := x) (fun hx => ?_) ?_; clear_value x; rotate_left; subst x)
       | subst x)
    | with_reducible refine Ok.ite ?_ ?_
    | with_reducible apply aerUncorrectable_ok
    | intro _ _ _
    | intro _ _
    | split
    | dsimp only
    | dsimp only [id]

theorem barWrite_ok {s0 : State} {g : Fun} {act : State → State} {s : State} (h_act : ∀ t, Ok s0 t → Ok s0 (act t)) (hok : Ok s0 s) :
    Ok s0 (barWrite g act s) := by
  unfold barWrite
  repeat' first
    | with_reducible assumption
    | with_reducible refine Ok.ite ?_ ?_
    | with_reducible apply h_act
    | with_reducible apply unsupportedRequest_ok
    | intro _ _ _
    | intro _ _
    | split
    | dsimp only
    | dsimp only [id]

theorem cfgWrite_ok {s0 : State} {g : Fun} {act : State → State} {s : State} (h_act : ∀ t, Ok s0 t → Ok s0 (act t)) (hok : Ok s0 s) :
    Ok s0 (cfgWrite g act s) := by
  unfold cfgWrite
  repeat' first
    | with_reducible assumption
    | with_reducible refine Ok.ite ?_ ?_
    | with_reducible apply h_act
    | with_reducible apply emit_ok
    | with_reducible apply unsupportedRequest_ok
    | intro _ _ _
    | intro _ _
    | split
    | dsimp only
    | dsimp only [id]

theorem captureFn_ok {s0 : State} {e : Src} {i : ErrInfo} {g : Fun} {s : State} (hok : Ok s0 s) :
    Ok s0 (captureFn e i g s) := by
  unfold captureFn
  repeat' first
    | with_reducible assumption
    | (extract_lets +onlyGivenNames x
       first
       | (refine okStep (s0 := s0) (x := x) (fun hx => ?_) ?_; clear_value x; rotate_left; subst x)
       | subst x)
    | with_reducible refine Ok.ite ?_ ?_
    | with_reducible apply modFn_ok
    | with_reducible apply saturated_ok
    | (intro x hx; (repeat' split) <;> refine ⟨?_, ?_, ?_, ?_⟩ <;> first | exact hx.cfg | exact hx.admin | exact hx.faultq | exact hx.int | exact CfgOk.init _ | exact AdminOk.init | exact FaultqOk.init | exact IntOk.init | exact ⟨hx.int.delay, hx.int.masks⟩)
    | with_reducible refine Ok.ofPair ?_ (by with_reducible assumption)
    | intro _ _ _
    | intro _ _
    | split
    | (simp only [ok_lit]; with_reducible refine OkLit.of ?_ ?_ ?_ ?_ ?_ ?_ ?_ ?_ ?_)
    | exact fun h => h
    | exact fun _ => rfl
    | exact Nat.le_refl _
    | dsimp only
    | dsimp only [id]

theorem capturePackage_ok {s0 : State} {e : Src} {i : ErrInfo} {s : State} (hok : Ok s0 s) :
    Ok s0 (capturePackage e i s) := by
  unfold capturePackage
  repeat' first
    | with_reducible assumption
    | (extract_lets +onlyGivenNames x
       first
       | (refine okStep (s0 := s0) (x := x) (fun hx => ?_) ?_; clear_value x; rotate_left; subst x)
       | subst x)
    | with_reducible refine Ok.ite ?_ ?_
    | with_reducible apply saturated_ok
    | with_reducible refine Ok.ofPair ?_ (by with_reducible assumption)
    | intro _ _ _
    | intro _ _
    | split
    | (simp only [ok_lit]; with_reducible refine OkLit.of ?_ ?_ ?_ ?_ ?_ ?_ ?_ ?_ ?_)
    | exact fun h => h
    | exact fun _ => rfl
    | exact Nat.le_refl _
    | dsimp only
    | dsimp only [id]

theorem countError_ok {s0 : State} {e : Src} {s : State} (hok : Ok s0 s) :
    Ok s0 (countError e s) := by
  unfold countError
  repeat' first
    | with_reducible assumption
    | (extract_lets +onlyGivenNames x
       first
       | (refine okStep (s0 := s0) (x := x) (fun hx => ?_) ?_; clear_value x; rotate_left; subst x)
       | subst x)
    | with_reducible refine Ok.ite ?_ ?_
    | with_reducible apply saturated_ok
    | with_reducible refine Ok.ofPair ?_ (by with_reducible assumption)
    | intro _ _ _
    | intro _ _
    | split
    | (simp only [ok_lit]; with_reducible refine OkLit.of ?_ ?_ ?_ ?_ ?_ ?_ ?_ ?_ ?_)
    | exact fun h => h
    | exact fun _ => rfl
    | exact Nat.le_refl _
    | dsimp only
    | dsimp only [id]

theorem reactNmi_ok {s0 : State} {e : Src} {s : State} (hok : Ok s0 s) :
    Ok s0 (reactNmi e s) := by
  unfold reactNmi
  repeat' first
    | with_reducible assumption
    | (extract_lets +onlyGivenNames x
       first
       | (refine okStep (s0 := s0) (x := x) (fun hx => ?_) ?_; clear_value x; rotate_left; subst x)
       | subst x)
    | with_reducible refine Ok.ite ?_ ?_
    | with_reducible apply emit_ok
    | with_reducible apply writeRecord_ok
    | with_reducible apply setObj_ok
    | intro _ _ _
    | intro _ _
    | split
    | dsimp only
    | dsimp only [id]
    | (intro hl; simp [hl]; done)

theorem reactPin_ok {s0 : State} {e : Src} {lost : List CtxId} {s : State} (hok : Ok s0 s) :
    Ok s0 (reactPin e lost s) := by
  unfold reactPin
  repeat' first
    | with_reducible assumption
    | (extract_lets +onlyGivenNames x
       first
       | (refine okStep (s0 := s0) (x := x) (fun hx => ?_) ?_; clear_value x; rotate_left; subst x)
       | subst x)
    | with_reducible refine Ok.ite ?_ ?_
    | with_reducible apply saturated_ok
    | with_reducible apply emit_ok
    | with_reducible refine Ok.ofPair ?_ (by with_reducible assumption)
    | intro _ _ _
    | intro _ _
    | split
    | (simp only [ok_lit]; with_reducible refine OkLit.of ?_ ?_ ?_ ?_ ?_ ?_ ?_ ?_ ?_)
    | exact fun h => h
    | exact fun _ => rfl
    | exact Nat.le_refl _
    | dsimp only
    | dsimp only [id]

theorem reactInt_ok {s0 : State} {e : Src} {g : Fun} {s : State} (hok : Ok s0 s) :
    Ok s0 (reactInt e g s) := by
  unfold reactInt
  repeat' first
    | with_reducible assumption
    | with_reducible apply fire_ok
    | with_reducible apply formEvent_ok
    | intro _ _ _
    | intro _ _
    | dsimp only
    | dsimp only [id]

theorem reactReset_ok {s0 : State} {e : Src} {r : Nat} {s : State} (hok : Ok s0 s) :
    Ok s0 (reactReset e r s) := by
  unfold reactReset
  repeat' first
    | with_reducible assumption
    | (extract_lets +onlyGivenNames x
       first
       | (refine okStep (s0 := s0) (x := x) (fun hx => ?_) ?_; clear_value x; rotate_left; subst x)
       | subst x)
    | with_reducible refine Ok.ite ?_ ?_
    | with_reducible refine Ok.ofPair ?_ (by with_reducible assumption)
    | intro _ _ _
    | intro _ _
    | split
    | (simp only [ok_lit]; with_reducible refine OkLit.of ?_ ?_ ?_ ?_ ?_ ?_ ?_ ?_ ?_)
    | exact fun h => h
    | exact fun _ => rfl
    | exact Nat.le_refl _
    | dsimp only
    | dsimp only [id]

theorem raiseWith_ok {s0 : State} {e : Src} {i : ErrInfo} {lost : List CtxId} {s : State} (hok : Ok s0 s) :
    Ok s0 (raiseWith e i lost s) := by
  unfold raiseWith
  repeat' first
    | with_reducible assumption
    | (extract_lets +onlyGivenNames x
       first
       | (refine okStep (s0 := s0) (x := x) (fun hx => ?_) ?_; clear_value x; rotate_left; subst x)
       | subst x)
    | with_reducible refine Ok.ite ?_ ?_
    | with_reducible apply countError_ok
    | with_reducible apply foldState_ok
    | with_reducible apply captureFn_ok
    | with_reducible apply capturePackage_ok
    | with_reducible apply reactReset_ok
    | with_reducible apply reactNmi_ok
    | with_reducible apply reactPin_ok
    | with_reducible apply reactInt_ok
    | with_reducible apply aerUncorrectable_ok
    | intro _ _ _
    | intro _ _
    | split
    | dsimp only
    | dsimp only [id]
    | (intro hl; simp [hl]; done)

theorem raiseError_ok {s0 : State} {e : Src} {i : ErrInfo} {s : State} (hok : Ok s0 s) :
    Ok s0 (raiseError e i s) := by
  unfold raiseError
  repeat' first
    | with_reducible assumption
    | with_reducible apply raiseWith_ok
    | intro _ _ _
    | intro _ _
    | dsimp only
    | dsimp only [id]


/-! ### Machine/DictCore.lean -/

theorem putObj_ok {s0 : State} {ref : Ref} {v : Val} {s : State} (hok : Ok s0 s) :
    Ok s0 (putObj ref v s) := by
  unfold putObj
  repeat' first
    | with_reducible assumption
    | (extract_lets +onlyGivenNames x
       first
       | (refine okStep (s0 := s0) (x := x) (fun hx => ?_) ?_; clear_value x; rotate_left; subst x)
       | subst x)
    | with_reducible refine Ok.ite ?_ ?_
    | with_reducible apply setObj_ok
    | with_reducible apply writeRecord_ok
    | with_reducible refine Ok.ofPair ?_ (by with_reducible assumption)
    | intro _ _ _
    | intro _ _
    | split
    | (simp only [ok_lit]; with_reducible refine OkLit.of ?_ ?_ ?_ ?_ ?_ ?_ ?_ ?_ ?_)
    | exact fun h => h
    | exact fun _ => rfl
    | exact Nat.le_refl _
    | dsimp only
    | dsimp only [id]
    | (intro hl; simp [hl]; done)

theorem requestWrite_ok {s0 : State} {rq : Requester} {ref : Ref} {v : Val} {refuse : State → Option EStatus} {act : State → State} {s : State} (h_act : ∀ t, Ok s0 t → Ok s0 (act t)) (hok : Ok s0 s) :
    Ok s0 (requestWrite rq ref v refuse act s) := by
  unfold requestWrite
  repeat' first
    | with_reducible assumption
    | (extract_lets +onlyGivenNames x
       first
       | (refine okStep (s0 := s0) (x := x) (fun hx => ?_) ?_; clear_value x; rotate_left; subst x)
       | subst x)
    | with_reducible apply h_act
    | with_reducible apply emit_ok
    | with_reducible refine Ok.ofPair ?_ (by with_reducible assumption)
    | intro _ _ _
    | intro _ _
    | split
    | (simp only [ok_lit]; with_reducible refine OkLit.of ?_ ?_ ?_ ?_ ?_ ?_ ?_ ?_ ?_)
    | exact fun h => h
    | exact fun _ => rfl
    | exact Nat.le_refl _
    | dsimp only
    | dsimp only [id]


/-! ### Machine/PoolOps.lean -/

theorem cleanLine_ok {s0 : State} {line : Nat} {s : State} (hok : Ok s0 s) :
    Ok s0 (cleanLine line s) := by
  unfold cleanLine
  repeat' first
    | with_reducible assumption
    | (extract_lets +onlyGivenNames x
       first
       | (refine okStep (s0 := s0) (x := x) (fun hx => ?_) ?_; clear_value x; rotate_left; subst x)
       | subst x)
    | intro _ _ _
    | intro _ _
    | (simp only [ok_lit]; with_reducible refine OkLit.of ?_ ?_ ?_ ?_ ?_ ?_ ?_ ?_ ?_)
    | exact fun h => h
    | exact fun _ => rfl
    | exact Nat.le_refl _
    | dsimp only
    | dsimp only [id]

theorem putBytes_ok {s0 : State} {a : Nat} {b : Bytes} {s : State} (hok : Ok s0 s) :
    Ok s0 (putBytes a b s) := by
  unfold putBytes
  repeat' first
    | with_reducible assumption
    | (extract_lets +onlyGivenNames x
       first
       | (refine okStep (s0 := s0) (x := x) (fun hx => ?_) ?_; clear_value x; rotate_left; subst x)
       | subst x)
    | intro _ _ _
    | intro _ _
    | (simp only [ok_lit]; with_reducible refine OkLit.of ?_ ?_ ?_ ?_ ?_ ?_ ?_ ?_ ?_)
    | exact fun hx => memWrite_wf _ hx _
    | exact fun h => h
    | exact fun _ => rfl
    | exact Nat.le_refl _
    | dsimp only
    | dsimp only [id]

theorem copyLine_ok {s0 : State} {line copy : Nat} {s : State} (hok : Ok s0 s) :
    Ok s0 (copyLine line copy s) := by
  unfold copyLine
  repeat' first
    | with_reducible assumption
    | with_reducible apply putBytes_ok
    | intro _ _ _
    | intro _ _
    | dsimp only
    | dsimp only [id]

theorem writeStack_ok {s0 : State} {line : Nat} {slot : Option Nat} {s : State} (hok : Ok s0 s) :
    Ok s0 (writeStack line slot s) := by
  unfold writeStack
  repeat' first
    | with_reducible assumption
    | with_reducible apply foldState_ok
    | with_reducible apply emit_ok
    | intro _ _ _
    | intro _ _
    | dsimp only
    | dsimp only [id]

theorem backLine_ok {s0 : State} {line : Nat} {s : State} (hok : Ok s0 s) :
    Ok s0 (backLine line s) := by
  unfold backLine
  repeat' first
    | with_reducible assumption
    | (extract_lets +onlyGivenNames x
       first
       | (refine okStep (s0 := s0) (x := x) (fun hx => ?_) ?_; clear_value x; rotate_left; subst x)
       | subst x)
    | with_reducible apply writeStack_ok
    | with_reducible apply cleanLine_ok
    | with_reducible apply copyLine_ok
    | with_reducible refine Ok.ofPair ?_ (by with_reducible assumption)
    | intro _ _ _
    | intro _ _
    | split
    | (simp only [ok_lit]; with_reducible refine OkLit.of ?_ ?_ ?_ ?_ ?_ ?_ ?_ ?_ ?_)
    | exact fun h => h
    | exact fun _ => rfl
    | exact Nat.le_refl _
    | dsimp only
    | dsimp only [id]

theorem writeLine_ok {s0 : State} {a : Nat} {b : Bytes} {through : Bool} {s : State} (hok : Ok s0 s) :
    Ok s0 (writeLine a b through s) := by
  unfold writeLine
  repeat' first
    | with_reducible assumption
    | (extract_lets +onlyGivenNames x
       first
       | (refine okStep (s0 := s0) (x := x) (fun hx => ?_) ?_; clear_value x; rotate_left; subst x)
       | subst x)
    | with_reducible refine Ok.ite ?_ ?_
    | with_reducible apply putBytes_ok
    | with_reducible apply backLine_ok
    | with_reducible apply cleanLine_ok
    | intro _ _ _
    | intro _ _
    | split
    | (simp only [ok_lit]; with_reducible refine OkLit.of ?_ ?_ ?_ ?_ ?_ ?_ ?_ ?_ ?_)
    | exact fun h => h
    | exact fun _ => rfl
    | exact Nat.le_refl _
    | dsimp only
    | dsimp only [id]

theorem clearPoison_ok {s0 : State} {line : Nat} {s : State} (hok : Ok s0 s) :
    Ok s0 (clearPoison line s) := by
  unfold clearPoison
  repeat' first
    | with_reducible assumption
    | (extract_lets +onlyGivenNames x
       first
       | (refine okStep (s0 := s0) (x := x) (fun hx => ?_) ?_; clear_value x; rotate_left; subst x)
       | subst x)
    | intro _ _ _
    | intro _ _
    | (simp only [ok_lit]; with_reducible refine OkLit.of ?_ ?_ ?_ ?_ ?_ ?_ ?_ ?_ ?_)
    | exact fun h => h
    | exact fun _ => rfl
    | exact Nat.le_refl _
    | dsimp only
    | dsimp only [id]

theorem writeRun_ok {s0 : State} {a : Nat} {b : Bytes} {through : Bool} {s : State} (hok : Ok s0 s) :
    Ok s0 (writeRun a b through s) := by
  unfold writeRun
  repeat' first
    | with_reducible assumption
    | with_reducible refine Ok.ite ?_ ?_
    | with_reducible apply writeLine_ok
    | with_reducible apply clearPoison_ok
    | with_reducible apply countPackage_ok
    | intro _ _ _
    | intro _ _
    | split
    | dsimp only
    | dsimp only [id]

theorem poolWrite_ok {s0 : State} {a : Nat} {b : Bytes} {through : Bool} {s : State} (hok : Ok s0 s) :
    Ok s0 (poolWrite a b through s) := by
  unfold poolWrite
  repeat' first
    | with_reducible assumption
    | with_reducible apply foldState_ok
    | with_reducible apply writeRun_ok
    | intro _ _ _
    | intro _ _
    | dsimp only
    | dsimp only [id]

theorem writeBack_ok {s0 : State} {a n : Nat} {s : State} (hok : Ok s0 s) :
    Ok s0 (writeBack a n s) := by
  unfold writeBack
  repeat' first
    | with_reducible assumption
    | with_reducible apply foldState_ok
    | with_reducible apply backLine_ok
    | intro _ _ _
    | intro _ _
    | dsimp only
    | dsimp only [id]

theorem mayEvict_ok {s0 : State} {line : Nat} {s : State} (hok : Ok s0 s) :
    Ok s0 (mayEvict line s) := by
  unfold mayEvict
  repeat' first
    | with_reducible assumption
    | (extract_lets +onlyGivenNames x
       first
       | (refine okStep (s0 := s0) (x := x) (fun hx => ?_) ?_; clear_value x; rotate_left; subst x)
       | subst x)
    | with_reducible refine Ok.ite ?_ ?_
    | with_reducible apply draw_ok
    | with_reducible apply backLine_ok
    | intro _ _ _
    | intro _ _
    | split
    | dsimp only
    | dsimp only [id]

theorem mayEvictSpan_ok {s0 : State} {a n : Nat} {s : State} (hok : Ok s0 s) :
    Ok s0 (mayEvictSpan a n s) := by
  unfold mayEvictSpan
  repeat' first
    | with_reducible assumption
    | with_reducible apply foldState_ok
    | with_reducible apply mayEvict_ok
    | intro _ _ _
    | intro _ _
    | dsimp only
    | dsimp only [id]

theorem discardLine_ok {s0 : State} {line : Nat} {s : State} (hok : Ok s0 s) :
    Ok s0 (discardLine line s) := by
  unfold discardLine
  repeat' first
    | with_reducible assumption
    | (extract_lets +onlyGivenNames x
       first
       | (refine okStep (s0 := s0) (x := x) (fun hx => ?_) ?_; clear_value x; rotate_left; subst x)
       | subst x)
    | with_reducible apply mayEvict_ok
    | with_reducible apply cleanLine_ok
    | with_reducible apply putBytes_ok
    | with_reducible refine Ok.ofPair ?_ (by with_reducible assumption)
    | intro _ _ _
    | intro _ _
    | split
    | (simp only [ok_lit]; with_reducible refine OkLit.of ?_ ?_ ?_ ?_ ?_ ?_ ?_ ?_ ?_)
    | exact fun h => h
    | exact fun _ => rfl
    | exact Nat.le_refl _
    | dsimp only
    | dsimp only [id]

theorem discardLines_ok {s0 : State} {a n : Nat} {s : State} (hok : Ok s0 s) :
    Ok s0 (discardLines a n s) := by
  unfold discardLines
  repeat' first
    | with_reducible assumption
    | with_reducible apply foldState_ok
    | with_reducible apply discardLine_ok
    | intro _ _ _
    | intro _ _
    | dsimp only
    | dsimp only [id]

theorem zeroSpan_ok {s0 : State} {a n : Nat} {s : State} (hok : Ok s0 s) :
    Ok s0 (zeroSpan a n s) := by
  unfold zeroSpan
  repeat' first
    | with_reducible assumption
    | (extract_lets +onlyGivenNames x
       first
       | (refine okStep (s0 := s0) (x := x) (fun hx => ?_) ?_; clear_value x; rotate_left; subst x)
       | (refine okStep (s0 := s0) (x := x.1) (fun hx => ?_) ?_; clear_value x; rotate_left; subst x)
       | subst x)
    | intro _ _ _
    | intro _ _
    | (simp only [ok_lit]; with_reducible refine OkLit.of ?_ ?_ ?_ ?_ ?_ ?_ ?_ ?_ ?_)
    | exact fun hx => memZero_wf hx _ _
    | exact fun h => h
    | exact fun _ => rfl
    | exact Nat.le_refl _
    | dsimp only
    | dsimp only [id]

theorem sendSnoop_ok {s0 : State} {i : ErrInfo} {d : Die} {line : Nat} {inv : Bool} {s : State} (hok : Ok s0 s) :
    Ok s0 (sendSnoop i d line inv s) := by
  unfold sendSnoop
  repeat' first
    | with_reducible assumption
    | (extract_lets +onlyGivenNames x
       first
       | (refine okStep (s0 := s0) (x := x) (fun hx => ?_) ?_; clear_value x; rotate_left; subst x)
       | subst x)
    | with_reducible refine Ok.ite ?_ ?_
    | with_reducible apply countPackage_ok
    | with_reducible apply emit_ok
    | intro _ _ _
    | intro _ _
    | split
    | (simp only [ok_lit]; with_reducible refine OkLit.of ?_ ?_ ?_ ?_ ?_ ?_ ?_ ?_ ?_)
    | exact fun h => h
    | exact fun _ => rfl
    | exact Nat.le_refl _
    | dsimp only
    | dsimp only [id]

theorem gateSnoops_ok {s0 : State} {i : ErrInfo} {a n : Nat} {write : Bool} {requester : Option Die} {s : State} (hok : Ok s0 s) :
    Ok s0 (gateSnoops i a n write requester s) := by
  unfold gateSnoops
  repeat' first
    | with_reducible assumption
    | with_reducible apply foldState_ok
    | with_reducible apply sendSnoop_ok
    | intro _ _ _
    | intro _ _
    | dsimp only
    | dsimp only [id]

theorem sparesExhausted_ok {s0 : State} {row : Nat} {s : State} (hok : Ok s0 s) :
    Ok s0 (sparesExhausted row s) := by
  unfold sparesExhausted
  repeat' first
    | with_reducible assumption
    | (extract_lets +onlyGivenNames x
       first
       | (refine okStep (s0 := s0) (x := x) (fun hx => ?_) ?_; clear_value x; rotate_left; subst x)
       | subst x)
    | with_reducible refine Ok.ite ?_ ?_
    | with_reducible apply raiseError_ok
    | intro _ _ _
    | intro _ _
    | split
    | (simp only [ok_lit]; with_reducible refine OkLit.of ?_ ?_ ?_ ?_ ?_ ?_ ?_ ?_ ?_)
    | exact fun h => h
    | exact fun _ => rfl
    | exact Nat.le_refl _
    | dsimp only
    | dsimp only [id]

theorem startRemap_ok {s0 : State} {row : Nat} {from_ bad : List (Nat × Nat)} {s : State} (hok : Ok s0 s) :
    Ok s0 (startRemap row from_ bad s).1 := by
  unfold startRemap
  repeat' first
    | with_reducible assumption
    | (extract_lets +onlyGivenNames x
       first
       | (refine okStep (s0 := s0) (x := x) (fun hx => ?_) ?_; clear_value x; rotate_left; subst x)
       | subst x)
    | with_reducible refine Ok.ite ?_ ?_
    | with_reducible apply sparesExhausted_ok
    | with_reducible apply writeBack_ok
    | with_reducible refine Ok.ofPair ?_ (by with_reducible assumption)
    | intro _ _ _
    | intro _ _
    | split
    | (simp only [ok_lit]; with_reducible refine OkLit.of ?_ ?_ ?_ ?_ ?_ ?_ ?_ ?_ ?_)
    | exact fun h => h
    | exact fun _ => rfl
    | exact Nat.le_refl _
    | dsimp only
    | dsimp only [id]
    | (intro hl; simp [hl]; done)

theorem logRow_ok {s0 : State} {row : Nat} {s : State} (hok : Ok s0 s) :
    Ok s0 (logRow row s) := by
  unfold logRow
  repeat' first
    | with_reducible assumption
    | (extract_lets +onlyGivenNames x
       first
       | (refine okStep (s0 := s0) (x := x) (fun hx => ?_) ?_; clear_value x; rotate_left; subst x)
       | subst x)
    | with_reducible refine Ok.ite ?_ ?_
    | with_reducible apply raiseError_ok
    | with_reducible apply putObj_ok
    | intro _ _ _
    | intro _ _
    | split
    | dsimp only
    | dsimp only [id]
    | (intro hl; simp [hl]; done)

theorem poisonLine_ok {s0 : State} {line : Nat} {i : ErrInfo} {s : State} (hok : Ok s0 s) :
    Ok s0 (poisonLine line i s) := by
  unfold poisonLine
  repeat' first
    | with_reducible assumption
    | (extract_lets +onlyGivenNames x
       first
       | (refine okStep (s0 := s0) (x := x) (fun hx => ?_) ?_; clear_value x; rotate_left; subst x)
       | subst x)
    | with_reducible refine Ok.ite ?_ ?_
    | with_reducible apply raiseError_ok
    | with_reducible apply logRow_ok
    | intro _ _ _
    | intro _ _
    | split
    | (simp only [ok_lit]; with_reducible refine OkLit.of ?_ ?_ ?_ ?_ ?_ ?_ ?_ ?_ ?_)
    | exact fun h => h
    | exact fun _ => rfl
    | exact Nat.le_refl _
    | dsimp only
    | dsimp only [id]


/-! ### Machine/Upstream.lean -/

theorem atsTouch_ok {s0 : State} {p : Port} {e : AtsEntry} {s : State} (hok : Ok s0 s) :
    Ok s0 (atsTouch p e s) := by
  unfold atsTouch
  repeat' first
    | with_reducible assumption
    | (extract_lets +onlyGivenNames x
       first
       | (refine okStep (s0 := s0) (x := x) (fun hx => ?_) ?_; clear_value x; rotate_left; subst x)
       | subst x)
    | with_reducible apply modPort_ok
    | intro _ _ _
    | intro _ _
    | (simp only [ok_lit]; with_reducible refine OkLit.of ?_ ?_ ?_ ?_ ?_ ?_ ?_ ?_ ?_)
    | exact fun h => h
    | exact fun _ => rfl
    | exact Nat.le_refl _
    | dsimp only
    | dsimp only [id]

theorem atsUse_ok {s0 : State} {g : Fun} {pasid : Option (BitVec 20)} {a : Nat} {write : Bool} {s : State} (hok : Ok s0 s) :
    Ok s0 (atsUse g pasid a write s) := by
  unfold atsUse
  repeat' first
    | with_reducible assumption
    | (extract_lets +onlyGivenNames x
       first
       | (refine okStep (s0 := s0) (x := x) (fun hx => ?_) ?_; clear_value x; rotate_left; subst x)
       | subst x)
    | with_reducible refine Ok.ite ?_ ?_
    | with_reducible apply atsTouch_ok
    | with_reducible refine Ok.ofPair ?_ (by with_reducible assumption)
    | intro _ _ _
    | intro _ _
    | split
    | (simp only [ok_lit]; with_reducible refine OkLit.of ?_ ?_ ?_ ?_ ?_ ?_ ?_ ?_ ?_)
    | exact fun h => h
    | exact fun _ => rfl
    | exact Nat.le_refl _
    | dsimp only
    | dsimp only [id]

theorem hostWrite_ok {s0 : State} {g : Fun} {a : Nat} {pasid : Option (BitVec 20)} {b : Bytes} {s : State} (hok : Ok s0 s) :
    Ok s0 (hostWrite g a pasid b s) := by
  unfold hostWrite
  repeat' first
    | with_reducible assumption
    | with_reducible refine Ok.ite ?_ ?_
    | with_reducible apply foldState_ok
    | with_reducible apply emit_ok
    | with_reducible apply atsUse_ok
    | intro _ _ _
    | intro _ _
    | split
    | dsimp only
    | dsimp only [id]

theorem issueUnder_ok {s0 : State} {w : TagWait} {t : ReqTag} {s : State} (hok : Ok s0 s) :
    Ok s0 (issueUnder w t s) := by
  unfold issueUnder
  repeat' first
    | with_reducible assumption
    | (extract_lets +onlyGivenNames x
       first
       | (refine okStep (s0 := s0) (x := x) (fun hx => ?_) ?_; clear_value x; rotate_left; subst x)
       | subst x)
    | with_reducible apply emit_ok
    | with_reducible apply modPort_ok
    | with_reducible apply countPort_ok
    | with_reducible apply atsUse_ok
    | with_reducible refine Ok.ofPair ?_ (by with_reducible assumption)
    | intro _ _ _
    | intro _ _
    | split
    | (simp only [ok_lit]; with_reducible refine OkLit.of ?_ ?_ ?_ ?_ ?_ ?_ ?_ ?_ ?_)
    | exact fun h => h
    | exact fun _ => rfl
    | exact Nat.le_refl _
    | dsimp only
    | dsimp only [id]
    | (intro hl; simp [hl]; done)

theorem serveTags_ok {s0 : State}  {r0 : Nat} {r1 : Port} {s : State} (hok : Ok s0 s) :
    Ok s0 (serveTags r0 r1 s) := by
  induction r0 generalizing r1 s with
  | zero =>
    unfold serveTags
    repeat' first
      | with_reducible assumption
      | (extract_lets +onlyGivenNames x
         first
         | (refine okStep (s0 := s0) (x := x) (fun hx => ?_) ?_; clear_value x; rotate_left; subst x)
         | subst x)
      | with_reducible refine Ok.ite ?_ ?_
      | with_reducible apply issueUnder_ok
      | with_reducible apply modPort_ok
      | with_reducible refine Ok.ofPair ?_ (by with_reducible assumption)
      | intro _ _ _
      | intro _ _
      | split
      | (simp only [ok_lit]; with_reducible refine OkLit.of ?_ ?_ ?_ ?_ ?_ ?_ ?_ ?_ ?_)
      | exact fun h => h
      | exact fun _ => rfl
      | exact Nat.le_refl _
      | dsimp only
      | dsimp only [id]
  | succ r0 ih =>
    unfold serveTags
    repeat' first
      | with_reducible assumption
      | (extract_lets +onlyGivenNames x
         first
         | (refine okStep (s0 := s0) (x := x) (fun hx => ?_) ?_; clear_value x; rotate_left; subst x)
         | subst x)
      | with_reducible refine Ok.ite ?_ ?_
      | with_reducible apply ih
      | with_reducible apply issueUnder_ok
      | with_reducible apply modPort_ok
      | with_reducible refine Ok.ofPair ?_ (by with_reducible assumption)
      | intro _ _ _
      | intro _ _
      | split
      | (simp only [ok_lit]; with_reducible refine OkLit.of ?_ ?_ ?_ ?_ ?_ ?_ ?_ ?_ ?_)
      | exact fun h => h
      | exact fun _ => rfl
      | exact Nat.le_refl _
      | dsimp only
      | dsimp only [id]

theorem serveWaits_ok {s0 : State} {p : Port} {s : State} (hok : Ok s0 s) :
    Ok s0 (serveWaits p s) := by
  unfold serveWaits
  repeat' first
    | with_reducible assumption
    | with_reducible apply serveTags_ok
    | intro _ _ _
    | intro _ _
    | dsimp only
    | dsimp only [id]

theorem requestTag_ok {s0 : State} {w : TagWait} {s : State} (hok : Ok s0 s) :
    Ok s0 (requestTag w s) := by
  unfold requestTag
  repeat' first
    | with_reducible assumption
    | (extract_lets +onlyGivenNames x
       first
       | (refine okStep (s0 := s0) (x := x) (fun hx => ?_) ?_; clear_value x; rotate_left; subst x)
       | subst x)
    | with_reducible refine Ok.ite ?_ ?_
    | with_reducible apply serveWaits_ok
    | with_reducible apply modPort_ok
    | intro _ _ _
    | intro _ _
    | split
    | (simp only [ok_lit]; with_reducible refine OkLit.of ?_ ?_ ?_ ?_ ?_ ?_ ?_ ?_ ?_)
    | exact fun h => h
    | exact fun _ => rfl
    | exact Nat.le_refl _
    | dsimp only
    | dsimp only [id]

theorem hostRead_ok {s0 : State} {g : Fun} {use : ReadUse} {a base n : Nat} {pasid : Option (BitVec 20)} {have_ : List (Nat × Bytes)} {s : State} (hok : Ok s0 s) :
    Ok s0 (hostRead g use a base n pasid have_ s) := by
  unfold hostRead
  repeat' first
    | with_reducible assumption
    | (extract_lets +onlyGivenNames x
       first
       | (refine okStep (s0 := s0) (x := x) (fun hx => ?_) ?_; clear_value x; rotate_left; subst x)
       | (refine okStep (s0 := s0) (x := x.1) (fun hx => ?_) ?_; clear_value x; rotate_left; subst x)
       | subst x)
    | with_reducible refine Ok.ite ?_ ?_
    | with_reducible apply foldState_ok
    | with_reducible apply requestTag_ok
    | with_reducible refine Ok.ofPair ?_ (by with_reducible assumption)
    | intro _ _ _
    | intro _ _
    | split
    | dsimp only
    | dsimp only [id]
    | (intro hl; simp [hl]; done)

theorem issueImage_ok {s0 : State} {s : State} (hok : Ok s0 s) :
    Ok s0 (issueImage s) := by
  unfold issueImage
  repeat' first
    | with_reducible assumption
    | (extract_lets +onlyGivenNames x
       first
       | (refine okStep (s0 := s0) (x := x) (fun hx => ?_) ?_; clear_value x; rotate_left; subst x)
       | (refine okStep (s0 := s0) (x := x.1) (fun hx => ?_) ?_; clear_value x; rotate_left; subst x)
       | subst x)
    | with_reducible refine Ok.ite ?_ ?_
    | with_reducible apply foldState_ok
    | with_reducible apply requestTag_ok
    | with_reducible apply serveWaits_ok
    | intro _ _ _
    | intro _ _
    | split
    | (simp only [ok_lit]; with_reducible refine OkLit.of ?_ ?_ ?_ ?_ ?_ ?_ ?_ ?_ ?_)
    | exact fun h => h
    | exact fun _ => rfl
    | exact Nat.le_refl _
    | dsimp only
    | dsimp only [id]

theorem quarantine_ok {s0 : State} {port : Port} {p : TagUse → Bool} {s : State} (hok : Ok s0 s) :
    Ok s0 (quarantine port p s) := by
  unfold quarantine
  repeat' first
    | with_reducible assumption
    | (extract_lets +onlyGivenNames x
       first
       | (refine okStep (s0 := s0) (x := x) (fun hx => ?_) ?_; clear_value x; rotate_left; subst x)
       | subst x)
    | with_reducible refine Ok.ite ?_ ?_
    | with_reducible apply modPort_ok
    | intro _ _ _
    | intro _ _
    | split
    | (simp only [ok_lit]; with_reducible refine OkLit.of ?_ ?_ ?_ ?_ ?_ ?_ ?_ ?_ ?_)
    | exact fun h => h
    | exact fun _ => rfl
    | exact Nat.le_refl _
    | dsimp only
    | dsimp only [id]
    | (intro hl; simp [hl]; done)

theorem quarantineTag_ok {s0 : State} {port : Port} {t : ReqTag} {s : State} (hok : Ok s0 s) :
    Ok s0 (quarantineTag port t s) := by
  unfold quarantineTag
  repeat' first
    | with_reducible assumption
    | (extract_lets +onlyGivenNames x
       first
       | (refine okStep (s0 := s0) (x := x) (fun hx => ?_) ?_; clear_value x; rotate_left; subst x)
       | subst x)
    | with_reducible refine Ok.ite ?_ ?_
    | with_reducible apply modPort_ok
    | intro _ _ _
    | intro _ _
    | split
    | (simp only [ok_lit]; with_reducible refine OkLit.of ?_ ?_ ?_ ?_ ?_ ?_ ?_ ?_ ?_)
    | exact fun h => h
    | exact fun _ => rfl
    | exact Nat.le_refl _
    | dsimp only
    | dsimp only [id]
    | (intro hl; simp [hl]; done)

theorem staleReads_ok {s0 : State} {g : Fun} {c : CtxId} {use : ReadUse} {hit : Nat → Nat → Bool} {s : State} (hok : Ok s0 s) :
    Ok s0 (staleReads g c use hit s) := by
  unfold staleReads
  repeat' first
    | with_reducible assumption
    | (extract_lets +onlyGivenNames x
       first
       | (refine okStep (s0 := s0) (x := x) (fun hx => ?_) ?_; clear_value x; rotate_left; subst x)
       | subst x)
    | with_reducible refine Ok.ite ?_ ?_
    | with_reducible apply modPort_ok
    | intro _ _ _
    | intro _ _
    | split
    | (simp only [ok_lit]; with_reducible refine OkLit.of ?_ ?_ ?_ ?_ ?_ ?_ ?_ ?_ ?_)
    | exact fun h => h
    | exact fun _ => rfl
    | exact Nat.le_refl _
    | dsimp only
    | dsimp only [id]
    | (intro hl; simp [hl]; done)

theorem dropReads_ok {s0 : State} {g : Fun} {c : CtxId} {q : Nat} {hit : Nat → Nat → Bool} {s : State} (hok : Ok s0 s) :
    Ok s0 (dropReads g c q hit s) := by
  unfold dropReads
  repeat' first
    | with_reducible assumption
    | (extract_lets +onlyGivenNames x
       first
       | (refine okStep (s0 := s0) (x := x) (fun hx => ?_) ?_; clear_value x; rotate_left; subst x)
       | (refine okStep (s0 := s0) (x := x.1) (fun hx => ?_) ?_; clear_value x; rotate_left; subst x)
       | subst x)
    | with_reducible refine Ok.ite ?_ ?_
    | with_reducible apply modCmd_ok
    | with_reducible apply staleReads_ok
    | intro _ _ _
    | intro _ _
    | split
    | (simp only [ok_lit]; with_reducible refine OkLit.of ?_ ?_ ?_ ?_ ?_ ?_ ?_ ?_ ?_)
    | exact fun h => h
    | exact fun _ => rfl
    | exact Nat.le_refl _
    | dsimp only
    | dsimp only [id]
    | (intro hl; simp [hl]; done)

theorem dropWaits_ok {s0 : State} {g : Fun} {s : State} (hok : Ok s0 s) :
    Ok s0 (dropWaits g s) := by
  unfold dropWaits
  repeat' first
    | with_reducible assumption
    | (extract_lets +onlyGivenNames x
       first
       | (refine okStep (s0 := s0) (x := x) (fun hx => ?_) ?_; clear_value x; rotate_left; subst x)
       | subst x)
    | with_reducible apply modPort_ok
    | intro _ _ _
    | intro _ _
    | (simp only [ok_lit]; with_reducible refine OkLit.of ?_ ?_ ?_ ?_ ?_ ?_ ?_ ?_ ?_)
    | exact fun h => h
    | exact fun _ => rfl
    | exact Nat.le_refl _
    | dsimp only
    | dsimp only [id]

theorem forgetAts_ok {s0 : State} {p : Port} {hit : AtsEntry → Bool} {s : State} (hok : Ok s0 s) :
    Ok s0 (forgetAts p hit s) := by
  unfold forgetAts
  repeat' first
    | with_reducible assumption
    | (extract_lets +onlyGivenNames x
       first
       | (refine okStep (s0 := s0) (x := x) (fun hx => ?_) ?_; clear_value x; rotate_left; subst x)
       | subst x)
    | with_reducible refine Ok.ite ?_ ?_
    | with_reducible apply modPort_ok
    | with_reducible apply foldState_ok
    | with_reducible apply dropReads_ok
    | with_reducible refine Ok.ofPair ?_ (by with_reducible assumption)
    | intro _ _ _
    | intro _ _
    | split
    | (simp only [ok_lit]; with_reducible refine OkLit.of ?_ ?_ ?_ ?_ ?_ ?_ ?_ ?_ ?_)
    | exact fun h => h
    | exact fun _ => rfl
    | exact Nat.le_refl _
    | dsimp only
    | dsimp only [id]

theorem atsAsk_ok {s0 : State} {g : Fun} {pasid : BitVec 20} {us : List Nat} {s : State} (hok : Ok s0 s) :
    Ok s0 (atsAsk g pasid us s) := by
  unfold atsAsk
  repeat' first
    | with_reducible assumption
    | (extract_lets +onlyGivenNames x
       first
       | (refine okStep (s0 := s0) (x := x) (fun hx => ?_) ?_; clear_value x; rotate_left; subst x)
       | subst x)
    | with_reducible refine Ok.ite ?_ ?_
    | with_reducible apply foldState_ok
    | with_reducible apply requestTag_ok
    | intro _ _ _
    | intro _ _
    | split
    | dsimp only
    | dsimp only [id]


/-! ### Machine/Walk.lean -/

theorem setBank_ok {s0 : State} {b : Nat} {l : List REntry} {s : State} (hok : Ok s0 s) :
    Ok s0 (setBank b l s) := by
  unfold setBank
  repeat' first
    | with_reducible assumption
    | (extract_lets +onlyGivenNames x
       first
       | (refine okStep (s0 := s0) (x := x) (fun hx => ?_) ?_; clear_value x; rotate_left; subst x)
       | subst x)
    | intro _ _ _
    | intro _ _
    | (simp only [ok_lit]; with_reducible refine OkLit.of ?_ ?_ ?_ ?_ ?_ ?_ ?_ ?_ ?_)
    | exact fun h => h
    | exact fun _ => rfl
    | exact Nat.le_refl _
    | dsimp only
    | dsimp only [id]
    | (intro hl; simp [hl]; done)

theorem revokeWhere_ok {s0 : State} {hit : Lease → Bool} {owner : ScanOwner} {s : State} (hok : Ok s0 s) :
    Ok s0 (revokeWhere hit owner s) := by
  unfold revokeWhere
  repeat' first
    | with_reducible assumption
    | (extract_lets +onlyGivenNames x
       first
       | (refine okStep (s0 := s0) (x := x) (fun hx => ?_) ?_; clear_value x; rotate_left; subst x)
       | subst x)
    | with_reducible refine Ok.ite ?_ ?_
    | with_reducible apply foldState_ok
    | with_reducible apply countPackage_ok
    | with_reducible apply emit_ok
    | intro _ _ _
    | intro _ _
    | split
    | (simp only [ok_lit]; with_reducible refine OkLit.of ?_ ?_ ?_ ?_ ?_ ?_ ?_ ?_ ?_)
    | exact fun h => h
    | exact fun _ => rfl
    | exact Nat.le_refl _
    | dsimp only
    | dsimp only [id]
    | (intro hl; simp [hl]; done)

theorem install_ok {s0 : State} {e : REntry} {s : State} (hok : Ok s0 s) :
    Ok s0 (install e s) := by
  unfold install
  repeat' first
    | with_reducible assumption
    | (extract_lets +onlyGivenNames x
       first
       | (refine okStep (s0 := s0) (x := x) (fun hx => ?_) ?_; clear_value x; rotate_left; subst x)
       | subst x)
    | with_reducible refine Ok.ite ?_ ?_
    | with_reducible apply setBank_ok
    | with_reducible refine Ok.ofPair ?_ (by with_reducible assumption)
    | intro _ _ _
    | intro _ _
    | split
    | (simp only [ok_lit]; with_reducible refine OkLit.of ?_ ?_ ?_ ?_ ?_ ?_ ?_ ?_ ?_)
    | exact fun h => h
    | exact fun _ => rfl
    | exact Nat.le_refl _
    | dsimp only
    | dsimp only [id]
    | (intro hl; simp [hl]; done)

theorem installOver_ok {s0 : State} {e : REntry} {victim : Nat} {s : State} (hok : Ok s0 s) :
    Ok s0 (installOver e victim s) := by
  unfold installOver
  repeat' first
    | with_reducible assumption
    | (extract_lets +onlyGivenNames x
       first
       | (refine okStep (s0 := s0) (x := x) (fun hx => ?_) ?_; clear_value x; rotate_left; subst x)
       | subst x)
    | with_reducible apply setBank_ok
    | with_reducible apply install_ok
    | with_reducible refine Ok.ofPair ?_ (by with_reducible assumption)
    | intro _ _ _
    | intro _ _
    | split
    | (simp only [ok_lit]; with_reducible refine OkLit.of ?_ ?_ ?_ ?_ ?_ ?_ ?_ ?_ ?_)
    | exact fun h => h
    | exact fun _ => rfl
    | exact Nat.le_refl _
    | dsimp only
    | dsimp only [id]
    | (intro hl; simp [hl]; done)

theorem touchEntry_ok {s0 : State} {b : Nat} {id : Nat} {s : State} (hok : Ok s0 s) :
    Ok s0 (touchEntry b id s) := by
  unfold touchEntry
  repeat' first
    | with_reducible assumption
    | (extract_lets +onlyGivenNames x
       first
       | (refine okStep (s0 := s0) (x := x) (fun hx => ?_) ?_; clear_value x; rotate_left; subst x)
       | subst x)
    | with_reducible refine Ok.ite ?_ ?_
    | with_reducible apply setBank_ok
    | intro _ _ _
    | intro _ _
    | split
    | (simp only [ok_lit]; with_reducible refine OkLit.of ?_ ?_ ?_ ?_ ?_ ?_ ?_ ?_ ?_)
    | exact fun h => h
    | exact fun _ => rfl
    | exact Nat.le_refl _
    | dsimp only
    | dsimp only [id]
    | (intro hl; simp [hl]; done)

theorem joinWalk_ok {s0 : State} {who : Who} {va : Nat} {need : Need} {edge : Bool} {s : State} (hok : Ok s0 s) :
    Ok s0 (joinWalk who va need edge s) := by
  unfold joinWalk
  repeat' first
    | with_reducible assumption
    | (extract_lets +onlyGivenNames x
       first
       | (refine okStep (s0 := s0) (x := x) (fun hx => ?_) ?_; clear_value x; rotate_left; subst x)
       | subst x)
    | with_reducible refine Ok.ite ?_ ?_
    | with_reducible apply countPackage_ok
    | intro _ _ _
    | intro _ _
    | split
    | (simp only [ok_lit]; with_reducible refine OkLit.of ?_ ?_ ?_ ?_ ?_ ?_ ?_ ?_ ?_)
    | exact fun h => h
    | exact fun _ => rfl
    | exact Nat.le_refl _
    | dsimp only
    | dsimp only [id]
    | (intro hl; simp [hl]; done)

theorem putWalk_ok {s0 : State} {who : Who} {va : Nat} {need : Need} {edge : Bool} {place : WalkAt} {offset : Nat} {s : State} (hok : Ok s0 s) :
    Ok s0 (putWalk who va need edge place offset s) := by
  unfold putWalk
  repeat' first
    | with_reducible assumption
    | (extract_lets +onlyGivenNames x
       first
       | (refine okStep (s0 := s0) (x := x) (fun hx => ?_) ?_; clear_value x; rotate_left; subst x)
       | subst x)
    | intro _ _ _
    | intro _ _
    | (simp only [ok_lit]; with_reducible refine OkLit.of ?_ ?_ ?_ ?_ ?_ ?_ ?_ ?_ ?_)
    | exact fun h => h
    | exact fun _ => rfl
    | exact Nat.le_refl _
    | dsimp only
    | dsimp only [id]
    | (intro hl; simp [hl]; done)

theorem countWalk_ok {s0 : State} {α : Type} {i : ErrInfo} {w : WalkOut α} {s : State} (hok : Ok s0 s) :
    Ok s0 (countWalk i w s) := by
  unfold countWalk
  repeat' first
    | with_reducible assumption
    | (extract_lets +onlyGivenNames x
       first
       | (refine okStep (s0 := s0) (x := x) (fun hx => ?_) ?_; clear_value x; rotate_left; subst x)
       | (refine okStep (s0 := s0) (x := x.1) (fun hx => ?_) ?_; clear_value x; rotate_left; subst x)
       | subst x)
    | with_reducible refine Ok.ite ?_ ?_
    | with_reducible apply foldState_ok
    | with_reducible apply countPackage_ok
    | with_reducible apply gateSnoops_ok
    | with_reducible refine Ok.ofPair ?_ (by with_reducible assumption)
    | intro _ _ _
    | intro _ _
    | split
    | (simp only [ok_lit]; with_reducible refine OkLit.of ?_ ?_ ?_ ?_ ?_ ?_ ?_ ?_ ?_)
    | exact fun h => h
    | exact fun _ => rfl
    | exact Nat.le_refl _
    | dsimp only
    | dsimp only [id]

theorem beginReplace_ok {s0 : State} {b victim : Nat} {s : State} (hok : Ok s0 s) :
    Ok s0 (beginReplace b victim s) := by
  unfold beginReplace
  repeat' first
    | with_reducible assumption
    | (extract_lets +onlyGivenNames x
       first
       | (refine okStep (s0 := s0) (x := x) (fun hx => ?_) ?_; clear_value x; rotate_left; subst x)
       | subst x)
    | with_reducible apply revokeWhere_ok
    | with_reducible apply setBank_ok
    | intro _ _ _
    | intro _ _
    | (simp only [ok_lit]; with_reducible refine OkLit.of ?_ ?_ ?_ ?_ ?_ ?_ ?_ ?_ ?_)
    | exact fun h => h
    | exact fun _ => rfl
    | exact Nat.le_refl _
    | dsimp only
    | dsimp only [id]
    | (intro hl; simp [hl]; done)

theorem walkCounted_ok {s0 : State} {who : Who} {a : Asker} {va : Nat} {need : Need} {s : State} (hok : Ok s0 s) :
    Ok s0 (walkCounted who a va need s).1 := by
  unfold walkCounted
  repeat' first
    | with_reducible assumption
    | (extract_lets +onlyGivenNames x
       first
       | (refine okStep (s0 := s0) (x := x) (fun hx => ?_) ?_; clear_value x; rotate_left; subst x)
       | subst x)
    | with_reducible apply countWalk_ok
    | with_reducible apply putWalk_ok
    | with_reducible apply install_ok
    | with_reducible apply beginReplace_ok
    | with_reducible refine Ok.ofPair ?_ (by with_reducible assumption)
    | intro _ _ _
    | intro _ _
    | split
    | (simp only [ok_lit]; with_reducible refine OkLit.of ?_ ?_ ?_ ?_ ?_ ?_ ?_ ?_ ?_)
    | exact fun h => h
    | exact fun _ => rfl
    | exact Nat.le_refl _
    | dsimp only
    | dsimp only [id]

theorem dropAnswers_ok {s0 : State} {who : Who} {va : Nat} {need : Need} {s : State} (hok : Ok s0 s) :
    Ok s0 (dropAnswers who va need s) := by
  unfold dropAnswers
  repeat' first
    | with_reducible assumption
    | (extract_lets +onlyGivenNames x
       first
       | (refine okStep (s0 := s0) (x := x) (fun hx => ?_) ?_; clear_value x; rotate_left; subst x)
       | (refine okStep (s0 := s0) (x := x.1) (fun hx => ?_) ?_; clear_value x; rotate_left; subst x)
       | subst x)
    | intro _ _ _
    | intro _ _
    | (simp only [ok_lit]; with_reducible refine OkLit.of ?_ ?_ ?_ ?_ ?_ ?_ ?_ ?_ ?_)
    | exact fun h => h
    | exact fun _ => rfl
    | exact Nat.le_refl _
    | dsimp only
    | dsimp only [id]

theorem missAt_ok {s0 : State} {who : Who} {a : Asker} {va : Nat} {need : Need} {s : State} (hok : Ok s0 s) :
    Ok s0 (missAt who a va need s).1 := by
  unfold missAt
  repeat' first
    | with_reducible assumption
    | (extract_lets +onlyGivenNames x
       first
       | (refine okStep (s0 := s0) (x := x) (fun hx => ?_) ?_; clear_value x; rotate_left; subst x)
       | subst x)
    | with_reducible refine Ok.ite ?_ ?_
    | with_reducible apply dropAnswers_ok
    | with_reducible apply joinWalk_ok
    | with_reducible apply walkCounted_ok
    | with_reducible apply countPackage_ok
    | with_reducible refine Ok.ofPair ?_ (by with_reducible assumption)
    | intro _ _ _
    | intro _ _
    | split
    | (simp only [ok_lit]; with_reducible refine OkLit.of ?_ ?_ ?_ ?_ ?_ ?_ ?_ ?_ ?_)
    | exact fun h => h
    | exact fun _ => rfl
    | exact Nat.le_refl _
    | dsimp only
    | dsimp only [id]

theorem countFault_ok {s0 : State} {α : Type} {a : Asker} {r : Except TOut α} {s : State} (hok : Ok s0 s) :
    Ok s0 (countFault a r s) := by
  unfold countFault
  repeat' first
    | with_reducible assumption
    | (extract_lets +onlyGivenNames x
       first
       | (refine okStep (s0 := s0) (x := x) (fun hx => ?_) ?_; clear_value x; rotate_left; subst x)
       | subst x)
    | with_reducible apply countFn_ok
    | with_reducible refine Ok.ofPair ?_ (by with_reducible assumption)
    | intro _ _ _
    | intro _ _
    | split
    | (simp only [ok_lit]; with_reducible refine OkLit.of ?_ ?_ ?_ ?_ ?_ ?_ ?_ ?_ ?_)
    | exact fun h => h
    | exact fun _ => rfl
    | exact Nat.le_refl _
    | dsimp only
    | dsimp only [id]

theorem resolveAt_ok {s0 : State} {who : Who} {va : Nat} {need : Need} {s : State} (hok : Ok s0 s) :
    Ok s0 (resolveAt who va need s).1 := by
  unfold resolveAt
  repeat' first
    | with_reducible assumption
    | (extract_lets +onlyGivenNames x
       first
       | (refine okStep (s0 := s0) (x := x) (fun hx => ?_) ?_; clear_value x; rotate_left; subst x)
       | subst x)
    | with_reducible refine Ok.ite ?_ ?_
    | with_reducible apply countPackage_ok
    | with_reducible apply touchEntry_ok
    | with_reducible apply dropAnswers_ok
    | with_reducible apply missAt_ok
    | with_reducible refine Ok.ofPair ?_ (by with_reducible assumption)
    | intro _ _ _
    | intro _ _
    | split
    | (simp only [ok_lit]; with_reducible refine OkLit.of ?_ ?_ ?_ ?_ ?_ ?_ ?_ ?_ ?_)
    | exact fun h => h
    | exact fun _ => rfl
    | exact Nat.le_refl _
    | dsimp only
    | dsimp only [id]

theorem translate_ok {s0 : State} {who : Who} {va : Nat} {need : Need} {s : State} (hok : Ok s0 s) :
    Ok s0 (translate who va need s).1 := by
  unfold translate
  repeat' first
    | with_reducible assumption
    | (extract_lets +onlyGivenNames x
       first
       | (refine okStep (s0 := s0) (x := x) (fun hx => ?_) ?_; clear_value x; rotate_left; subst x)
       | (refine okStep (s0 := s0) (x := x.1) (fun hx => ?_) ?_; clear_value x; rotate_left; subst x)
       | subst x)
    | with_reducible apply resolveAt_ok
    | with_reducible apply countFault_ok
    | with_reducible refine Ok.ofPair ?_ (by with_reducible assumption)
    | intro _ _ _
    | intro _ _
    | split
    | (simp only [ok_lit]; with_reducible refine OkLit.of ?_ ?_ ?_ ?_ ?_ ?_ ?_ ?_ ?_)
    | exact fun h => h
    | exact fun _ => rfl
    | exact Nat.le_refl _
    | dsimp only
    | dsimp only [id]

theorem translateSpan_ok {s0 : State} {who : Who} {need : Need} {r0 : Nat} {r1 : Nat} {r2 : Nat} {r3 : Nat} {s : State} (hok : Ok s0 s) :
    Ok s0 (translateSpan who need r0 r1 r2 r3 s).1 := by
  induction r0 generalizing r1 r2 r3 s with
  | zero =>
    unfold translateSpan
    repeat' first
      | with_reducible assumption
      | (extract_lets +onlyGivenNames x
         first
         | (refine okStep (s0 := s0) (x := x) (fun hx => ?_) ?_; clear_value x; rotate_left; subst x)
         | subst x)
      | with_reducible refine Ok.ite ?_ ?_
      | with_reducible apply resolveAt_ok
      | with_reducible refine Ok.ofPair ?_ (by with_reducible assumption)
      | intro _ _ _
      | intro _ _
      | split
      | (simp only [ok_lit]; with_reducible refine OkLit.of ?_ ?_ ?_ ?_ ?_ ?_ ?_ ?_ ?_)
      | exact fun h => h
      | exact fun _ => rfl
      | exact Nat.le_refl _
      | dsimp only
      | dsimp only [id]
  | succ r0 ih =>
    unfold translateSpan
    repeat' first
      | with_reducible assumption
      | (extract_lets +onlyGivenNames x
         first
         | (refine okStep (s0 := s0) (x := x) (fun hx => ?_) ?_; clear_value x; rotate_left; subst x)
         | subst x)
      | with_reducible refine Ok.ite ?_ ?_
      | with_reducible apply ih
      | with_reducible apply resolveAt_ok
      | with_reducible refine Ok.ofPair ?_ (by with_reducible assumption)
      | intro _ _ _
      | intro _ _
      | split
      | (simp only [ok_lit]; with_reducible refine OkLit.of ?_ ?_ ?_ ?_ ?_ ?_ ?_ ?_ ?_)
      | exact fun h => h
      | exact fun _ => rfl
      | exact Nat.le_refl _
      | dsimp only
      | dsimp only [id]

theorem translateSpans_ok {s0 : State} {who : Who} {need : Need} {r0 : List (Nat × Nat × Nat)} {s : State} (hok : Ok s0 s) :
    Ok s0 (translateSpans who need r0 s).1 := by
  induction r0 generalizing s with
  | nil =>
    unfold translateSpans
    repeat' first
      | with_reducible assumption
      | (extract_lets +onlyGivenNames x
         first
         | (refine okStep (s0 := s0) (x := x) (fun hx => ?_) ?_; clear_value x; rotate_left; subst x)
         | (refine okStep (s0 := s0) (x := x.1) (fun hx => ?_) ?_; clear_value x; rotate_left; subst x)
         | subst x)
      | with_reducible apply translateSpan_ok
      | with_reducible refine Ok.ofPair ?_ (by with_reducible assumption)
      | intro _ _ _
      | intro _ _
      | split
      | (simp only [ok_lit]; with_reducible refine OkLit.of ?_ ?_ ?_ ?_ ?_ ?_ ?_ ?_ ?_)
      | exact fun h => h
      | exact fun _ => rfl
      | exact Nat.le_refl _
      | dsimp only
      | dsimp only [id]
  | cons x r0 ih =>
    unfold translateSpans
    repeat' first
      | with_reducible assumption
      | (extract_lets +onlyGivenNames x
         first
         | (refine okStep (s0 := s0) (x := x) (fun hx => ?_) ?_; clear_value x; rotate_left; subst x)
         | (refine okStep (s0 := s0) (x := x.1) (fun hx => ?_) ?_; clear_value x; rotate_left; subst x)
         | subst x)
      | with_reducible apply translateSpan_ok
      | with_reducible apply ih
      | with_reducible refine Ok.ofPair ?_ (by with_reducible assumption)
      | intro _ _ _
      | intro _ _
      | split
      | (simp only [ok_lit]; with_reducible refine OkLit.of ?_ ?_ ?_ ?_ ?_ ?_ ?_ ?_ ?_)
      | exact fun h => h
      | exact fun _ => rfl
      | exact Nat.le_refl _
      | dsimp only
      | dsimp only [id]

theorem translateSide_ok {s0 : State} {who : Who} {need : Need} {spans : List (Nat × Nat × Nat)} {s : State} (hok : Ok s0 s) :
    Ok s0 (translateSide who need spans s).1 := by
  unfold translateSide
  repeat' first
    | with_reducible assumption
    | (extract_lets +onlyGivenNames x
       first
       | (refine okStep (s0 := s0) (x := x) (fun hx => ?_) ?_; clear_value x; rotate_left; subst x)
       | (refine okStep (s0 := s0) (x := x.1) (fun hx => ?_) ?_; clear_value x; rotate_left; subst x)
       | subst x)
    | with_reducible apply translateSpans_ok
    | with_reducible apply countFault_ok
    | with_reducible refine Ok.ofPair ?_ (by with_reducible assumption)
    | intro _ _ _
    | intro _ _
    | split
    | (simp only [ok_lit]; with_reducible refine OkLit.of ?_ ?_ ?_ ?_ ?_ ?_ ?_ ?_ ?_)
    | exact fun h => h
    | exact fun _ => rfl
    | exact Nat.le_refl _
    | dsimp only
    | dsimp only [id]

theorem spanRuns_ok {s0 : State} {who : Who} {need : Need} {pos va n : Nat} {s : State} (hok : Ok s0 s) :
    Ok s0 (spanRuns who need pos va n s).1 := by
  unfold spanRuns
  repeat' first
    | with_reducible assumption
    | with_reducible apply translateSide_ok
    | intro _ _ _
    | intro _ _
    | dsimp only
    | dsimp only [id]

theorem noteGone_ok {s0 : State} {what : ScanFor} {e : REntry} {s : State} (hok : Ok s0 s) :
    Ok s0 (noteGone what e s) := by
  unfold noteGone
  repeat' first
    | with_reducible assumption
    | (extract_lets +onlyGivenNames x
       first
       | (refine okStep (s0 := s0) (x := x) (fun hx => ?_) ?_; clear_value x; rotate_left; subst x)
       | subst x)
    | with_reducible refine Ok.ite ?_ ?_
    | with_reducible apply modCtx_ok
    | with_reducible refine Ok.ofPair ?_ (by with_reducible assumption)
    | intro _ _ _
    | intro _ _
    | split
    | (simp only [ok_lit]; with_reducible refine OkLit.of ?_ ?_ ?_ ?_ ?_ ?_ ?_ ?_ ?_)
    | exact fun h => h
    | exact fun _ => rfl
    | exact Nat.le_refl _
    | dsimp only
    | dsimp only [id]
    | (intro hl; simp [hl]; done)

theorem startScan_ok {s0 : State} {banks : List Nat} {what : ScanFor} {owner : ScanOwner} {s : State} (hok : Ok s0 s) :
    Ok s0 (startScan banks what owner s) := by
  unfold startScan
  repeat' first
    | with_reducible assumption
    | (extract_lets +onlyGivenNames x
       first
       | (refine okStep (s0 := s0) (x := x) (fun hx => ?_) ?_; clear_value x; rotate_left; subst x)
       | subst x)
    | with_reducible refine Ok.ite ?_ ?_
    | intro _ _ _
    | intro _ _
    | split
    | (simp only [ok_lit]; with_reducible refine OkLit.of ?_ ?_ ?_ ?_ ?_ ?_ ?_ ?_ ?_)
    | exact fun h => h
    | exact fun _ => rfl
    | exact Nat.le_refl _
    | dsimp only
    | dsimp only [id]
    | (intro hl; simp [hl]; done)

theorem scanBank_ok {s0 : State} {b : Nat} {what : ScanFor} {owner : ScanOwner} {s : State} (hok : Ok s0 s) :
    Ok s0 (scanBank b what owner s) := by
  unfold scanBank
  repeat' first
    | with_reducible assumption
    | (extract_lets +onlyGivenNames x
       first
       | (refine okStep (s0 := s0) (x := x) (fun hx => ?_) ?_; clear_value x; rotate_left; subst x)
       | (refine okStep (s0 := s0) (x := x.1) (fun hx => ?_) ?_; clear_value x; rotate_left; subst x)
       | subst x)
    | with_reducible apply foldState_ok
    | with_reducible apply noteGone_ok
    | with_reducible apply revokeWhere_ok
    | with_reducible apply setBank_ok
    | intro _ _ _
    | intro _ _
    | (simp only [ok_lit]; with_reducible refine OkLit.of ?_ ?_ ?_ ?_ ?_ ?_ ?_ ?_ ?_)
    | exact fun h => h
    | exact fun _ => rfl
    | exact Nat.le_refl _
    | dsimp only
    | dsimp only [id]
    | (intro hl; simp [hl]; done)


/-! ### Machine/Fabric.lean -/

theorem modPeer_ok {s0 : State} {p : PackageId} {f : Peer → Peer} {s : State} (hok : Ok s0 s) :
    Ok s0 (modPeer p f s) := by
  unfold modPeer
  repeat' first
    | with_reducible assumption
    | (extract_lets +onlyGivenNames x
       first
       | (refine okStep (s0 := s0) (x := x) (fun hx => ?_) ?_; clear_value x; rotate_left; subst x)
       | subst x)
    | with_reducible refine Ok.ite ?_ ?_
    | intro _ _ _
    | intro _ _
    | split
    | (simp only [ok_lit]; with_reducible refine OkLit.of ?_ ?_ ?_ ?_ ?_ ?_ ?_ ?_ ?_)
    | exact fun h => h
    | exact fun _ => rfl
    | exact Nat.le_refl _
    | dsimp only
    | dsimp only [id]
    | (intro hl; simp [hl]; done)

theorem rawFrame_ok {s0 : State} {p : PackageId} {f : Frame} {s : State} (hok : Ok s0 s) :
    Ok s0 (rawFrame p f s) := by
  unfold rawFrame
  repeat' first
    | with_reducible assumption
    | (extract_lets +onlyGivenNames x
       first
       | (refine okStep (s0 := s0) (x := x) (fun hx => ?_) ?_; clear_value x; rotate_left; subst x)
       | subst x)
    | with_reducible apply emit_ok
    | with_reducible refine Ok.ofPair ?_ (by with_reducible assumption)
    | intro _ _ _
    | intro _ _
    | split
    | (simp only [ok_lit]; with_reducible refine OkLit.of ?_ ?_ ?_ ?_ ?_ ?_ ?_ ?_ ?_)
    | exact fun h => h
    | exact fun _ => rfl
    | exact Nat.le_refl _
    | dsimp only
    | dsimp only [id]
    | (intro hl; simp [hl]; done)

theorem flushFrames_ok {s0 : State} {p : PackageId} {s : State} (hok : Ok s0 s) :
    Ok s0 (flushFrames p s) := by
  unfold flushFrames
  repeat' first
    | with_reducible assumption
    | (extract_lets +onlyGivenNames x
       first
       | (refine okStep (s0 := s0) (x := x) (fun hx => ?_) ?_; clear_value x; rotate_left; subst x)
       | subst x)
    | with_reducible refine Ok.ite ?_ ?_
    | with_reducible apply foldState_ok
    | with_reducible apply rawFrame_ok
    | with_reducible apply modPeer_ok
    | with_reducible refine Ok.ofPair ?_ (by with_reducible assumption)
    | intro _ _ _
    | intro _ _
    | split
    | (simp only [ok_lit]; with_reducible refine OkLit.of ?_ ?_ ?_ ?_ ?_ ?_ ?_ ?_ ?_)
    | exact fun h => h
    | exact fun _ => rfl
    | exact Nat.le_refl _
    | dsimp only
    | dsimp only [id]
    | (intro hl; simp [hl]; done)

theorem sendFrame_ok {s0 : State} {dst : PackageId} {type : Nat} {q2 q3 q4 : U64} {payload : Bytes} {s : State} (hok : Ok s0 s) :
    Ok s0 (sendFrame dst type q2 q3 q4 payload s) := by
  unfold sendFrame
  repeat' first
    | with_reducible assumption
    | (extract_lets +onlyGivenNames x
       first
       | (refine okStep (s0 := s0) (x := x) (fun hx => ?_) ?_; clear_value x; rotate_left; subst x)
       | subst x)
    | with_reducible refine Ok.ite ?_ ?_
    | with_reducible apply emit_ok
    | with_reducible apply flushFrames_ok
    | with_reducible apply modPeer_ok
    | with_reducible refine Ok.ofPair ?_ (by with_reducible assumption)
    | intro _ _ _
    | intro _ _
    | split
    | (simp only [ok_lit]; with_reducible refine OkLit.of ?_ ?_ ?_ ?_ ?_ ?_ ?_ ?_ ?_)
    | exact fun h => h
    | exact fun _ => rfl
    | exact Nat.le_refl _
    | dsimp only
    | dsimp only [id]

theorem takeSerial_ok {s0 : State} {x : Cmd} {s : State} (hok : Ok s0 s) :
    Ok s0 (takeSerial x s) := by
  unfold takeSerial
  repeat' first
    | with_reducible assumption
    | (extract_lets +onlyGivenNames x
       first
       | (refine okStep (s0 := s0) (x := x) (fun hx => ?_) ?_; clear_value x; rotate_left; subst x)
       | subst x)
    | with_reducible refine Ok.ite ?_ ?_
    | with_reducible apply modCmd_ok
    | intro _ _ _
    | intro _ _
    | split
    | (simp only [ok_lit]; with_reducible refine OkLit.of ?_ ?_ ?_ ?_ ?_ ?_ ?_ ?_ ?_)
    | exact fun h => h
    | exact fun _ => rfl
    | exact Nat.le_refl _
    | dsimp only
    | dsimp only [id]

theorem sendCancel_ok {s0 : State} {o : SendOp} {tag : U16} {s : State} (hok : Ok s0 s) :
    Ok s0 (sendCancel o tag s) := by
  unfold sendCancel
  repeat' first
    | with_reducible assumption
    | with_reducible apply sendFrame_ok
    | intro _ _ _
    | intro _ _
    | dsimp only
    | dsimp only [id]

theorem cancelOps_ok {s0 : State} {c : CtxId} {q : Nat} {tag : U16} {s : State} (hok : Ok s0 s) :
    Ok s0 (cancelOps c q tag s) := by
  unfold cancelOps
  repeat' first
    | with_reducible assumption
    | (extract_lets +onlyGivenNames x
       first
       | (refine okStep (s0 := s0) (x := x) (fun hx => ?_) ?_; clear_value x; rotate_left; subst x)
       | subst x)
    | with_reducible refine Ok.ite ?_ ?_
    | with_reducible apply foldState_ok
    | with_reducible apply sendCancel_ok
    | intro _ _ _
    | intro _ _
    | split
    | (simp only [ok_lit]; with_reducible refine OkLit.of ?_ ?_ ?_ ?_ ?_ ?_ ?_ ?_ ?_)
    | exact fun h => h
    | exact fun _ => rfl
    | exact Nat.le_refl _
    | dsimp only
    | dsimp only [id]

theorem takeBackOps_ok {s0 : State} {ops : List SendOp} {tag : U16} {s : State} (hok : Ok s0 s) :
    Ok s0 (takeBackOps ops tag s) := by
  unfold takeBackOps
  repeat' first
    | with_reducible assumption
    | (extract_lets +onlyGivenNames x
       first
       | (refine okStep (s0 := s0) (x := x) (fun hx => ?_) ?_; clear_value x; rotate_left; subst x)
       | subst x)
    | with_reducible refine Ok.ite ?_ ?_
    | with_reducible apply foldState_ok
    | with_reducible apply sendCancel_ok
    | intro _ _ _
    | intro _ _
    | split
    | (simp only [ok_lit]; with_reducible refine OkLit.of ?_ ?_ ?_ ?_ ?_ ?_ ?_ ?_ ?_)
    | exact fun h => h
    | exact fun _ => rfl
    | exact Nat.le_refl _
    | dsimp only
    | dsimp only [id]


/-! ### Machine/Life.lean -/

theorem modEngine_ok {s0 : State} {e : Engine} {f : EngineSt → EngineSt} {s : State} (hok : Ok s0 s) :
    Ok s0 (modEngine e f s) := by
  unfold modEngine
  repeat' first
    | with_reducible assumption
    | (extract_lets +onlyGivenNames x
       first
       | (refine okStep (s0 := s0) (x := x) (fun hx => ?_) ?_; clear_value x; rotate_left; subst x)
       | subst x)
    | intro _ _ _
    | intro _ _
    | (simp only [ok_lit]; with_reducible refine OkLit.of ?_ ?_ ?_ ?_ ?_ ?_ ?_ ?_ ?_)
    | exact fun h => h
    | exact fun _ => rfl
    | exact Nat.le_refl _
    | dsimp only
    | dsimp only [id]
    | (intro hl; simp [hl]; done)

theorem leaveEngines_ok {s0 : State} {c : CtxId} {q : Nat} {s : State} (hok : Ok s0 s) :
    Ok s0 (leaveEngines c q s) := by
  unfold leaveEngines
  repeat' first
    | with_reducible assumption
    | (extract_lets +onlyGivenNames x
       first
       | (refine okStep (s0 := s0) (x := x) (fun hx => ?_) ?_; clear_value x; rotate_left; subst x)
       | subst x)
    | with_reducible refine Ok.ite ?_ ?_
    | intro _ _ _
    | intro _ _
    | split
    | (simp only [ok_lit]; with_reducible refine OkLit.of ?_ ?_ ?_ ?_ ?_ ?_ ?_ ?_ ?_)
    | exact fun h => h
    | exact fun _ => rfl
    | exact Nat.le_refl _
    | dsimp only
    | dsimp only [id]
    | (intro hl; simp [hl]; done)

theorem abandonCredit_ok {s0 : State} {x : Cmd} {s : State} (hok : Ok s0 s) :
    Ok s0 (abandonCredit x s) := by
  unfold abandonCredit
  repeat' first
    | with_reducible assumption
    | (extract_lets +onlyGivenNames x
       first
       | (refine okStep (s0 := s0) (x := x) (fun hx => ?_) ?_; clear_value x; rotate_left; subst x)
       | subst x)
    | with_reducible refine Ok.ite ?_ ?_
    | with_reducible apply emit_ok
    | with_reducible refine Ok.ofPair ?_ (by with_reducible assumption)
    | intro _ _ _
    | intro _ _
    | split
    | (simp only [ok_lit]; with_reducible refine OkLit.of ?_ ?_ ?_ ?_ ?_ ?_ ?_ ?_ ?_)
    | exact fun h => h
    | exact fun _ => rfl
    | exact Nat.le_refl _
    | dsimp only
    | dsimp only [id]
    | (intro hl; simp [hl]; done)

theorem cancelParts_ok {s0 : State} {x : Cmd} {s : State} (hok : Ok s0 s) :
    Ok s0 (cancelParts x s) := by
  unfold cancelParts
  repeat' first
    | with_reducible assumption
    | with_reducible refine Ok.ite ?_ ?_
    | with_reducible apply foldState_ok
    | with_reducible apply emit_ok
    | intro _ _ _
    | intro _ _
    | split
    | dsimp only
    | dsimp only [id]

theorem drainTag_ok {s0 : State} {x : Cmd} {s : State} (hok : Ok s0 s) :
    Ok s0 (drainTag x s) := by
  unfold drainTag
  repeat' first
    | with_reducible assumption
    | (extract_lets +onlyGivenNames x
       first
       | (refine okStep (s0 := s0) (x := x) (fun hx => ?_) ?_; clear_value x; rotate_left; subst x)
       | subst x)
    | with_reducible refine Ok.ofPair ?_ (by with_reducible assumption)
    | intro _ _ _
    | intro _ _
    | split
    | (simp only [ok_lit]; with_reducible refine OkLit.of ?_ ?_ ?_ ?_ ?_ ?_ ?_ ?_ ?_)
    | exact fun h => h
    | exact fun _ => rfl
    | exact Nat.le_refl _
    | dsimp only
    | dsimp only [id]

theorem stopWork_ok {s0 : State} {x : Cmd} {s : State} (hok : Ok s0 s) :
    Ok s0 (stopWork x s) := by
  unfold stopWork
  repeat' first
    | with_reducible assumption
    | (extract_lets +onlyGivenNames x
       first
       | (refine okStep (s0 := s0) (x := x) (fun hx => ?_) ?_; clear_value x; rotate_left; subst x)
       | subst x)
    | with_reducible apply leaveEngines_ok
    | with_reducible apply cancelParts_ok
    | with_reducible apply cancelOps_ok
    | with_reducible refine Ok.ofPair ?_ (by with_reducible assumption)
    | intro _ _ _
    | intro _ _
    | split
    | (simp only [ok_lit]; with_reducible refine OkLit.of ?_ ?_ ?_ ?_ ?_ ?_ ?_ ?_ ?_)
    | exact fun h => h
    | exact fun _ => rfl
    | exact Nat.le_refl _
    | dsimp only
    | dsimp only [id]

theorem endCmd_ok {s0 : State} {c : CtxId} {q : Nat} {st : CStatus} {s : State} (hok : Ok s0 s) :
    Ok s0 (endCmd c q st s) := by
  unfold endCmd
  repeat' first
    | with_reducible assumption
    | (extract_lets +onlyGivenNames x
       first
       | (refine okStep (s0 := s0) (x := x) (fun hx => ?_) ?_; clear_value x; rotate_left; subst x)
       | subst x)
    | with_reducible refine Ok.ite ?_ ?_
    | with_reducible apply leaveEngines_ok
    | with_reducible apply stopWork_ok
    | with_reducible apply modCmd_ok
    | with_reducible refine Ok.ofPair ?_ (by with_reducible assumption)
    | intro _ _ _
    | intro _ _
    | split
    | (simp only [ok_lit]; with_reducible refine OkLit.of ?_ ?_ ?_ ?_ ?_ ?_ ?_ ?_ ?_)
    | exact fun h => h
    | exact fun _ => rfl
    | exact Nat.le_refl _
    | dsimp only
    | dsimp only [id]

theorem loseCmd_ok {s0 : State} {cause : List (Nat × CStatus)} {x : Cmd} {s : State} (hok : Ok s0 s) :
    Ok s0 (loseCmd cause x s) := by
  unfold loseCmd
  repeat' first
    | with_reducible assumption
    | (extract_lets +onlyGivenNames x
       first
       | (refine okStep (s0 := s0) (x := x) (fun hx => ?_) ?_; clear_value x; rotate_left; subst x)
       | (refine okStep (s0 := s0) (x := x.1) (fun hx => ?_) ?_; clear_value x; rotate_left; subst x)
       | subst x)
    | with_reducible refine Ok.ite ?_ ?_
    | with_reducible apply endCmd_ok
    | with_reducible apply modCmd_ok
    | with_reducible refine Ok.ofPair ?_ (by with_reducible assumption)
    | intro _ _ _
    | intro _ _
    | split
    | (simp only [ok_lit]; with_reducible refine OkLit.of ?_ ?_ ?_ ?_ ?_ ?_ ?_ ?_ ?_)
    | exact fun h => h
    | exact fun _ => rfl
    | exact Nat.le_refl _
    | dsimp only
    | dsimp only [id]
    | (intro hl; simp [hl]; done)

theorem revokeCtxLeases_ok {s0 : State} {c : CtxId} {s : State} (hok : Ok s0 s) :
    Ok s0 (revokeCtxLeases c s) := by
  unfold revokeCtxLeases
  repeat' first
    | with_reducible assumption
    | with_reducible apply revokeWhere_ok
    | intro _ _ _
    | intro _ _
    | dsimp only
    | dsimp only [id]

theorem loseContext_ok {s0 : State} {c : CtxId} {r : LostReason} {cause : List (Nat × CStatus)} {data1 : U64} {i : ErrInfo} {s : State} (hok : Ok s0 s) :
    Ok s0 (loseContext c r cause data1 i s) := by
  unfold loseContext
  repeat' first
    | with_reducible assumption
    | (extract_lets +onlyGivenNames x
       first
       | (refine okStep (s0 := s0) (x := x) (fun hx => ?_) ?_; clear_value x; rotate_left; subst x)
       | (refine okStep (s0 := s0) (x := x.1) (fun hx => ?_) ?_; clear_value x; rotate_left; subst x)
       | subst x)
    | with_reducible refine Ok.ite ?_ ?_
    | with_reducible apply modCtx_ok
    | with_reducible apply foldState_ok
    | with_reducible apply loseCmd_ok
    | with_reducible apply revokeCtxLeases_ok
    | with_reducible apply formEvent_ok
    | with_reducible apply countFn_ok
    | with_reducible apply raiseWith_ok
    | with_reducible refine Ok.ofPair ?_ (by with_reducible assumption)
    | intro _ _ _
    | intro _ _
    | split
    | (simp only [ok_lit]; with_reducible refine OkLit.of ?_ ?_ ?_ ?_ ?_ ?_ ?_ ?_ ?_)
    | exact fun h => h
    | exact fun _ => rfl
    | exact Nat.le_refl _
    | dsimp only
    | dsimp only [id]

theorem faultCmd_ok {s0 : State} {c : CtxId} {q : Nat} {st : CStatus} {i : ErrInfo} {s : State} (hok : Ok s0 s) :
    Ok s0 (faultCmd c q st i s) := by
  unfold faultCmd
  repeat' first
    | with_reducible assumption
    | (extract_lets +onlyGivenNames x
       first
       | (refine okStep (s0 := s0) (x := x) (fun hx => ?_) ?_; clear_value x; rotate_left; subst x)
       | subst x)
    | with_reducible refine Ok.ite ?_ ?_
    | with_reducible apply loseContext_ok
    | with_reducible apply endCmd_ok
    | with_reducible refine Ok.ofPair ?_ (by with_reducible assumption)
    | intro _ _ _
    | intro _ _
    | split
    | (simp only [ok_lit]; with_reducible refine OkLit.of ?_ ?_ ?_ ?_ ?_ ?_ ?_ ?_ ?_)
    | exact fun h => h
    | exact fun _ => rfl
    | exact Nat.le_refl _
    | dsimp only
    | dsimp only [id]

theorem countLateFault_ok {s0 : State} {c : CtxId} {s : State} (hok : Ok s0 s) :
    Ok s0 (countLateFault c s) := by
  unfold countLateFault
  repeat' first
    | with_reducible assumption
    | (extract_lets +onlyGivenNames x
       first
       | (refine okStep (s0 := s0) (x := x) (fun hx => ?_) ?_; clear_value x; rotate_left; subst x)
       | subst x)
    | with_reducible refine Ok.ite ?_ ?_
    | with_reducible apply countFn_ok
    | with_reducible refine Ok.ofPair ?_ (by with_reducible assumption)
    | intro _ _ _
    | intro _ _
    | split
    | (simp only [ok_lit]; with_reducible refine OkLit.of ?_ ?_ ?_ ?_ ?_ ?_ ?_ ?_ ?_)
    | exact fun h => h
    | exact fun _ => rfl
    | exact Nat.le_refl _
    | dsimp only
    | dsimp only [id]

theorem clearCycleExact_ok {s0 : State} {c : CtxId} {s : State} (hok : Ok s0 s) :
    Ok s0 (clearCycleExact c s) := by
  unfold clearCycleExact
  repeat' first
    | with_reducible assumption
    | (extract_lets +onlyGivenNames x
       first
       | (refine okStep (s0 := s0) (x := x) (fun hx => ?_) ?_; clear_value x; rotate_left; subst x)
       | subst x)
    | with_reducible apply modCtx_ok
    | intro _ _ _
    | intro _ _
    | (simp only [ok_lit]; with_reducible refine OkLit.of ?_ ?_ ?_ ?_ ?_ ?_ ?_ ?_ ?_)
    | exact fun h => h
    | exact fun _ => rfl
    | exact Nat.le_refl _
    | dsimp only
    | dsimp only [id]
    | (intro hl; simp [hl]; done)

theorem noteMirror_ok {s0 : State} {o : MemObj} {word : Nat} {v : U64} {s : State} (hok : Ok s0 s) :
    Ok s0 (noteMirror o word v s) := by
  unfold noteMirror
  repeat' first
    | with_reducible assumption
    | (extract_lets +onlyGivenNames x
       first
       | (refine okStep (s0 := s0) (x := x) (fun hx => ?_) ?_; clear_value x; rotate_left; subst x)
       | (refine okStep (s0 := s0) (x := x.1) (fun hx => ?_) ?_; clear_value x; rotate_left; subst x)
       | subst x)
    | with_reducible refine Ok.ite ?_ ?_
    | intro _ _ _
    | intro _ _
    | split
    | (simp only [ok_lit]; with_reducible refine OkLit.of ?_ ?_ ?_ ?_ ?_ ?_ ?_ ?_ ?_)
    | exact fun h => h
    | exact fun _ => rfl
    | exact Nat.le_refl _
    | dsimp only
    | dsimp only [id]

theorem signalFence_ok {s0 : State} {by_ : Fun} {c : Option CtxId} {o : MemObj} {word : Nat} {v : U64} {s : State} (hok : Ok s0 s) :
    Ok s0 (signalFence by_ c o word v s) := by
  unfold signalFence
  repeat' first
    | with_reducible assumption
    | (extract_lets +onlyGivenNames x
       first
       | (refine okStep (s0 := s0) (x := x) (fun hx => ?_) ?_; clear_value x; rotate_left; subst x)
       | subst x)
    | with_reducible refine Ok.ite ?_ ?_
    | with_reducible apply clearCycleExact_ok
    | with_reducible apply countPackage_ok
    | with_reducible apply countFn_ok
    | with_reducible apply poolWrite_ok
    | with_reducible apply noteMirror_ok
    | with_reducible apply formEvent_ok
    | with_reducible refine Ok.ofPair ?_ (by with_reducible assumption)
    | intro _ _ _
    | intro _ _
    | split
    | (simp only [ok_lit]; with_reducible refine OkLit.of ?_ ?_ ?_ ?_ ?_ ?_ ?_ ?_ ?_)
    | exact fun h => h
    | exact fun _ => rfl
    | exact Nat.le_refl _
    | dsimp only
    | dsimp only [id]

theorem dropMirrors_ok {s0 : State} {slot : Nat} {s : State} (hok : Ok s0 s) :
    Ok s0 (dropMirrors slot s) := by
  unfold dropMirrors
  repeat' first
    | with_reducible assumption
    | (extract_lets +onlyGivenNames x
       first
       | (refine okStep (s0 := s0) (x := x) (fun hx => ?_) ?_; clear_value x; rotate_left; subst x)
       | (refine okStep (s0 := s0) (x := x.1) (fun hx => ?_) ?_; clear_value x; rotate_left; subst x)
       | subst x)
    | intro _ _ _
    | intro _ _
    | (simp only [ok_lit]; with_reducible refine OkLit.of ?_ ?_ ?_ ?_ ?_ ?_ ?_ ?_ ?_)
    | exact fun h => h
    | exact fun _ => rfl
    | exact Nat.le_refl _
    | dsimp only
    | dsimp only [id]

theorem failWaits_ok {s0 : State} {h : U64} {s : State} (hok : Ok s0 s) :
    Ok s0 (failWaits h s) := by
  unfold failWaits
  repeat' first
    | with_reducible assumption
    | with_reducible refine Ok.ite ?_ ?_
    | with_reducible apply foldState_ok
    | with_reducible apply faultCmd_ok
    | intro _ _ _
    | intro _ _
    | split
    | dsimp only
    | dsimp only [id]

theorem closeWindowsOf_ok {s0 : State} {h : U64} {s : State} (hok : Ok s0 s) :
    Ok s0 (closeWindowsOf h s) := by
  unfold closeWindowsOf
  repeat' first
    | with_reducible assumption
    | (extract_lets +onlyGivenNames x
       first
       | (refine okStep (s0 := s0) (x := x) (fun hx => ?_) ?_; clear_value x; rotate_left; subst x)
       | (refine okStep (s0 := s0) (x := x.1) (fun hx => ?_) ?_; clear_value x; rotate_left; subst x)
       | subst x)
    | with_reducible refine Ok.ite ?_ ?_
    | intro _ _ _
    | intro _ _
    | split
    | (simp only [ok_lit]; with_reducible refine OkLit.of ?_ ?_ ?_ ?_ ?_ ?_ ?_ ?_ ?_)
    | exact fun h => h
    | exact fun _ => rfl
    | exact Nat.le_refl _
    | dsimp only
    | dsimp only [id]
    | (intro hl; simp [hl]; done)

theorem closeCohOf_ok {s0 : State} {h : U64} {s : State} (hok : Ok s0 s) :
    Ok s0 (closeCohOf h s) := by
  unfold closeCohOf
  repeat' first
    | with_reducible assumption
    | (extract_lets +onlyGivenNames x
       first
       | (refine okStep (s0 := s0) (x := x) (fun hx => ?_) ?_; clear_value x; rotate_left; subst x)
       | (refine okStep (s0 := s0) (x := x.1) (fun hx => ?_) ?_; clear_value x; rotate_left; subst x)
       | subst x)
    | with_reducible refine Ok.ite ?_ ?_
    | intro _ _ _
    | intro _ _
    | split
    | (simp only [ok_lit]; with_reducible refine OkLit.of ?_ ?_ ?_ ?_ ?_ ?_ ?_ ?_ ?_)
    | exact fun h => h
    | exact fun _ => rfl
    | exact Nat.le_refl _
    | dsimp only
    | dsimp only [id]
    | (intro hl; simp [hl]; done)

theorem freeStart_ok {s0 : State} {slot : Nat} {freer : Option AdminRef} {s : State} (hok : Ok s0 s) :
    Ok s0 (freeStart slot freer s) := by
  unfold freeStart
  repeat' first
    | with_reducible assumption
    | (extract_lets +onlyGivenNames x
       first
       | (refine okStep (s0 := s0) (x := x) (fun hx => ?_) ?_; clear_value x; rotate_left; subst x)
       | subst x)
    | with_reducible refine Ok.ite ?_ ?_
    | with_reducible apply modObj_ok
    | with_reducible apply failWaits_ok
    | with_reducible apply dropMirrors_ok
    | with_reducible apply closeCohOf_ok
    | with_reducible apply closeWindowsOf_ok
    | with_reducible apply startScan_ok
    | with_reducible refine Ok.ofPair ?_ (by with_reducible assumption)
    | intro _ _ _
    | intro _ _
    | split
    | (simp only [ok_lit]; with_reducible refine OkLit.of ?_ ?_ ?_ ?_ ?_ ?_ ?_ ?_ ?_)
    | exact fun h => h
    | exact fun _ => rfl
    | exact Nat.le_refl _
    | dsimp only
    | dsimp only [id]

theorem adminDone_ok {s0 : State} {g : Fun} {st : AStatus} {result : U64} {tag : U16} {s : State} (hok : Ok s0 s) :
    Ok s0 (adminDone g st result tag s) := by
  unfold adminDone
  repeat' first
    | with_reducible assumption
    | (extract_lets +onlyGivenNames x
       first
       | (refine okStep (s0 := s0) (x := x) (fun hx => ?_) ?_; clear_value x; rotate_left; subst x)
       | subst x)
    | with_reducible apply modAdmin_ok
    | (intro x hx; (repeat' split) <;> exact ⟨hx.sq, hx.cq⟩)
    | intro _ _ _
    | intro _ _
    | (simp only [ok_lit]; with_reducible refine OkLit.of ?_ ?_ ?_ ?_ ?_ ?_ ?_ ?_ ?_)
    | exact fun h => h
    | exact fun _ => rfl
    | exact Nat.le_refl _
    | dsimp only
    | dsimp only [id]

theorem freeFinish_ok {s0 : State} {slot : Nat} {s : State} (hok : Ok s0 s) :
    Ok s0 (freeFinish slot s) := by
  unfold freeFinish
  repeat' first
    | with_reducible assumption
    | (extract_lets +onlyGivenNames x
       first
       | (refine okStep (s0 := s0) (x := x) (fun hx => ?_) ?_; clear_value x; rotate_left; subst x)
       | (refine okStep (s0 := s0) (x := x.1) (fun hx => ?_) ?_; clear_value x; rotate_left; subst x)
       | subst x)
    | with_reducible refine Ok.ite ?_ ?_
    | with_reducible apply foldState_ok
    | with_reducible apply adminDone_ok
    | with_reducible refine Ok.ofPair ?_ (by with_reducible assumption)
    | intro _ _ _
    | intro _ _
    | split
    | (simp only [ok_lit]; with_reducible refine OkLit.of ?_ ?_ ?_ ?_ ?_ ?_ ?_ ?_ ?_)
    | exact fun h => h
    | exact fun _ => rfl
    | exact Nat.le_refl _
    | dsimp only
    | dsimp only [id]

theorem freeSpan_ok {s0 : State} {a n : Nat} {s : State} (hok : Ok s0 s) :
    Ok s0 (freeSpan a n s) := by
  unfold freeSpan
  repeat' first
    | with_reducible assumption
    | (extract_lets +onlyGivenNames x
       first
       | (refine okStep (s0 := s0) (x := x) (fun hx => ?_) ?_; clear_value x; rotate_left; subst x)
       | subst x)
    | with_reducible apply draw_ok
    | intro _ _ _
    | intro _ _
    | (simp only [ok_lit]; with_reducible refine OkLit.of ?_ ?_ ?_ ?_ ?_ ?_ ?_ ?_ ?_)
    | exact fun hx => memWrite_wf _ hx _
    | exact fun h => h
    | exact fun _ => rfl
    | exact Nat.le_refl _
    | dsimp only
    | dsimp only [id]
    | (intro hl; simp [hl]; done)

theorem freeRun_ok {s0 : State} {r : Run} {s : State} (hok : Ok s0 s) :
    Ok s0 (freeRun r s) := by
  unfold freeRun
  repeat' first
    | with_reducible assumption
    | (extract_lets +onlyGivenNames x
       first
       | (refine okStep (s0 := s0) (x := x) (fun hx => ?_) ?_; clear_value x; rotate_left; subst x)
       | (refine okStep (s0 := s0) (x := x.1) (fun hx => ?_) ?_; clear_value x; rotate_left; subst x)
       | subst x)
    | with_reducible refine Ok.ite ?_ ?_
    | with_reducible apply freeSpan_ok
    | with_reducible apply foldState_ok
    | with_reducible refine Ok.ofPair ?_ (by with_reducible assumption)
    | intro _ _ _
    | intro _ _
    | split
    | (simp only [ok_lit]; with_reducible refine OkLit.of ?_ ?_ ?_ ?_ ?_ ?_ ?_ ?_ ?_)
    | exact fun h => h
    | exact fun _ => rfl
    | exact Nat.le_refl _
    | dsimp only
    | dsimp only [id]

theorem freeTile_ok {s0 : State} {x : Cmd} {s : State} (hok : Ok s0 s) :
    Ok s0 (freeTile x s) := by
  unfold freeTile
  repeat' first
    | with_reducible assumption
    | (extract_lets +onlyGivenNames x
       first
       | (refine okStep (s0 := s0) (x := x) (fun hx => ?_) ?_; clear_value x; rotate_left; subst x)
       | subst x)
    | with_reducible refine Ok.ite ?_ ?_
    | with_reducible apply foldState_ok
    | with_reducible apply freeRun_ok
    | with_reducible refine Ok.ofPair ?_ (by with_reducible assumption)
    | intro _ _ _
    | intro _ _
    | split
    | (simp only [ok_lit]; with_reducible refine OkLit.of ?_ ?_ ?_ ?_ ?_ ?_ ?_ ?_ ?_)
    | exact fun h => h
    | exact fun _ => rfl
    | exact Nat.le_refl _
    | dsimp only
    | dsimp only [id]

theorem freeTransfer_ok {s0 : State} {x : Cmd} {s : State} (hok : Ok s0 s) :
    Ok s0 (freeTransfer x s) := by
  unfold freeTransfer
  repeat' first
    | with_reducible assumption
    | (extract_lets +onlyGivenNames x
       first
       | (refine okStep (s0 := s0) (x := x) (fun hx => ?_) ?_; clear_value x; rotate_left; subst x)
       | (refine okStep (s0 := s0) (x := x.1) (fun hx => ?_) ?_; clear_value x; rotate_left; subst x)
       | subst x)
    | with_reducible refine Ok.ite ?_ ?_
    | with_reducible apply foldState_ok
    | with_reducible apply freeSpan_ok
    | with_reducible refine Ok.ofPair ?_ (by with_reducible assumption)
    | intro _ _ _
    | intro _ _
    | split
    | (simp only [ok_lit]; with_reducible refine OkLit.of ?_ ?_ ?_ ?_ ?_ ?_ ?_ ?_ ?_)
    | exact fun h => h
    | exact fun _ => rfl
    | exact Nat.le_refl _
    | dsimp only
    | dsimp only [id]

theorem dropCmds_ok {s0 : State} {whole : Bool} {c : CtxId} {s : State} (hok : Ok s0 s) :
    Ok s0 (dropCmds whole c s) := by
  unfold dropCmds
  repeat' first
    | with_reducible assumption
    | (extract_lets +onlyGivenNames x
       first
       | (refine okStep (s0 := s0) (x := x) (fun hx => ?_) ?_; clear_value x; rotate_left; subst x)
       | subst x)
    | with_reducible refine Ok.ite ?_ ?_
    | with_reducible apply foldState_ok
    | with_reducible apply freeTransfer_ok
    | with_reducible apply freeTile_ok
    | with_reducible apply drainTag_ok
    | with_reducible apply abandonCredit_ok
    | with_reducible apply stopWork_ok
    | intro _ _ _
    | intro _ _
    | split
    | (simp only [ok_lit]; with_reducible refine OkLit.of ?_ ?_ ?_ ?_ ?_ ?_ ?_ ?_ ?_)
    | exact fun h => h
    | exact fun _ => rfl
    | exact Nat.le_refl _
    | dsimp only
    | dsimp only [id]

theorem dropLookups_ok {s0 : State} {c : CtxId} {s : State} (hok : Ok s0 s) :
    Ok s0 (dropLookups c s) := by
  unfold dropLookups
  repeat' first
    | with_reducible assumption
    | (extract_lets +onlyGivenNames x
       first
       | (refine okStep (s0 := s0) (x := x) (fun hx => ?_) ?_; clear_value x; rotate_left; subst x)
       | (refine okStep (s0 := s0) (x := x.1) (fun hx => ?_) ?_; clear_value x; rotate_left; subst x)
       | subst x)
    | with_reducible apply foldState_ok
    | with_reducible apply emit_ok
    | with_reducible refine Ok.ofPair ?_ (by with_reducible assumption)
    | intro _ _ _
    | intro _ _
    | split
    | (simp only [ok_lit]; with_reducible refine OkLit.of ?_ ?_ ?_ ?_ ?_ ?_ ?_ ?_ ?_)
    | exact fun h => h
    | exact fun _ => rfl
    | exact Nat.le_refl _
    | dsimp only
    | dsimp only [id]

theorem abortContext_ok {s0 : State} {c : CtxId} {destroyer : Option AdminRef} {s : State} (hok : Ok s0 s) :
    Ok s0 (abortContext c destroyer s) := by
  unfold abortContext
  repeat' first
    | with_reducible assumption
    | (extract_lets +onlyGivenNames x
       first
       | (refine okStep (s0 := s0) (x := x) (fun hx => ?_) ?_; clear_value x; rotate_left; subst x)
       | subst x)
    | with_reducible refine Ok.ite ?_ ?_
    | with_reducible apply modCtx_ok
    | with_reducible apply dropCmds_ok
    | with_reducible apply quarantine_ok
    | with_reducible apply dropLookups_ok
    | with_reducible apply revokeCtxLeases_ok
    | with_reducible apply startScan_ok
    | with_reducible refine Ok.ofPair ?_ (by with_reducible assumption)
    | intro _ _ _
    | intro _ _
    | split
    | (simp only [ok_lit]; with_reducible refine OkLit.of ?_ ?_ ?_ ?_ ?_ ?_ ?_ ?_ ?_)
    | exact fun h => h
    | exact fun _ => rfl
    | exact Nat.le_refl _
    | dsimp only
    | dsimp only [id]
    | (intro hl; simp [hl]; done)

theorem discardFaults_ok {s0 : State} {c : CtxId} {g : Fun} {s : State} (hok : Ok s0 s) :
    Ok s0 (discardFaults c g s) := by
  unfold discardFaults
  repeat' first
    | with_reducible assumption
    | (extract_lets +onlyGivenNames x
       first
       | (refine okStep (s0 := s0) (x := x) (fun hx => ?_) ?_; clear_value x; rotate_left; subst x)
       | subst x)
    | with_reducible apply modFaultq_ok
    | (intro x hx; (repeat' split) <;> exact ⟨hx.base, hx.low, hx.high⟩)
    | intro _ _ _
    | intro _ _
    | (simp only [ok_lit]; with_reducible refine OkLit.of ?_ ?_ ?_ ?_ ?_ ?_ ?_ ?_ ?_)
    | exact fun h => h
    | exact fun _ => rfl
    | exact Nat.le_refl _
    | dsimp only
    | dsimp only [id]

theorem destroyContext_ok {s0 : State} {c : CtxId} {s : State} (hok : Ok s0 s) :
    Ok s0 (destroyContext c s) := by
  unfold destroyContext
  repeat' first
    | with_reducible assumption
    | (extract_lets +onlyGivenNames x
       first
       | (refine okStep (s0 := s0) (x := x) (fun hx => ?_) ?_; clear_value x; rotate_left; subst x)
       | (refine okStep (s0 := s0) (x := x.1) (fun hx => ?_) ?_; clear_value x; rotate_left; subst x)
       | subst x)
    | with_reducible apply discardFaults_ok
    | with_reducible apply foldState_ok
    | with_reducible apply freeStart_ok
    | with_reducible apply writeBack_ok
    | with_reducible apply adminDone_ok
    | with_reducible refine Ok.ofPair ?_ (by with_reducible assumption)
    | intro _ _ _
    | intro _ _
    | split
    | (simp only [ok_lit]; with_reducible refine OkLit.of ?_ ?_ ?_ ?_ ?_ ?_ ?_ ?_ ?_)
    | exact fun h => h
    | exact fun _ => rfl
    | exact Nat.le_refl _
    | dsimp only
    | dsimp only [id]


/-! ### Machine/Walkers.lean -/

theorem stallLookup_ok {s0 : State} {who : Who} {va : Nat} {need : Need} {s : State} (hok : Ok s0 s) :
    Ok s0 (stallLookup who va need s) := by
  unfold stallLookup
  repeat' first
    | with_reducible assumption
    | (extract_lets +onlyGivenNames x
       first
       | (refine okStep (s0 := s0) (x := x) (fun hx => ?_) ?_; clear_value x; rotate_left; subst x)
       | subst x)
    | intro _ _ _
    | intro _ _
    | (simp only [ok_lit]; with_reducible refine OkLit.of ?_ ?_ ?_ ?_ ?_ ?_ ?_ ?_ ?_)
    | exact fun h => h
    | exact fun _ => rfl
    | exact Nat.le_refl _
    | dsimp only
    | dsimp only [id]

theorem walkPoisoned_ok {s0 : State} {who : Who} {va : Nat} {s : State} (hok : Ok s0 s) :
    Ok s0 (walkPoisoned who va s) := by
  unfold walkPoisoned
  repeat' first
    | with_reducible assumption
    | (extract_lets +onlyGivenNames x
       first
       | (refine okStep (s0 := s0) (x := x) (fun hx => ?_) ?_; clear_value x; rotate_left; subst x)
       | subst x)
    | with_reducible apply loseContext_ok
    | with_reducible refine Ok.ofPair ?_ (by with_reducible assumption)
    | intro _ _ _
    | intro _ _
    | split
    | (simp only [ok_lit]; with_reducible refine OkLit.of ?_ ?_ ?_ ?_ ?_ ?_ ?_ ?_ ?_)
    | exact fun h => h
    | exact fun _ => rfl
    | exact Nat.le_refl _
    | dsimp only
    | dsimp only [id]

theorem answerLookup_ok {s0 : State} {who : Who} {va : Nat} {need : Need} {r : Except TOut REntry} {s : State} (hok : Ok s0 s) :
    Ok s0 (answerLookup who va need r s) := by
  unfold answerLookup
  repeat' first
    | with_reducible assumption
    | (extract_lets +onlyGivenNames x
       first
       | (refine okStep (s0 := s0) (x := x) (fun hx => ?_) ?_; clear_value x; rotate_left; subst x)
       | subst x)
    | with_reducible apply emit_ok
    | with_reducible apply stallLookup_ok
    | with_reducible apply walkPoisoned_ok
    | with_reducible refine Ok.ofPair ?_ (by with_reducible assumption)
    | intro _ _ _
    | intro _ _
    | split
    | (simp only [ok_lit]; with_reducible refine OkLit.of ?_ ?_ ?_ ?_ ?_ ?_ ?_ ?_ ?_)
    | exact fun h => h
    | exact fun _ => rfl
    | exact Nat.le_refl _
    | dsimp only
    | dsimp only [id]

theorem startWalk_ok {s0 : State} {who : Who} {a : Asker} {va : Nat} {need : Need} {s : State} (hok : Ok s0 s) :
    Ok s0 (startWalk who a va need s) := by
  unfold startWalk
  repeat' first
    | with_reducible assumption
    | with_reducible refine Ok.ite ?_ ?_
    | with_reducible apply joinWalk_ok
    | with_reducible apply stallLookup_ok
    | with_reducible apply countPackage_ok
    | with_reducible apply putWalk_ok
    | intro _ _ _
    | intro _ _
    | split
    | dsimp only
    | dsimp only [id]

theorem lookupOf_ok {s0 : State} {who : Who} {va : Nat} {need : Need} {s : State} (hok : Ok s0 s) :
    Ok s0 (lookupOf who va need s) := by
  unfold lookupOf
  repeat' first
    | with_reducible assumption
    | (extract_lets +onlyGivenNames x
       first
       | (refine okStep (s0 := s0) (x := x) (fun hx => ?_) ?_; clear_value x; rotate_left; subst x)
       | (refine okStep (s0 := s0) (x := x.1) (fun hx => ?_) ?_; clear_value x; rotate_left; subst x)
       | subst x)
    | with_reducible refine Ok.ite ?_ ?_
    | with_reducible apply emit_ok
    | with_reducible apply translate_ok
    | with_reducible apply answerLookup_ok
    | with_reducible apply startWalk_ok
    | with_reducible refine Ok.ofPair ?_ (by with_reducible assumption)
    | intro _ _ _
    | intro _ _
    | split
    | (simp only [ok_lit]; with_reducible refine OkLit.of ?_ ?_ ?_ ?_ ?_ ?_ ?_ ?_ ?_)
    | exact fun h => h
    | exact fun _ => rfl
    | exact Nat.le_refl _
    | dsimp only
    | dsimp only [id]

theorem lookup_ok {s0 : State} {c : CtxId} {va : Nat} {need : Need} {s : State} (hok : Ok s0 s) :
    Ok s0 (lookup c va need s) := by
  unfold lookup
  repeat' first
    | with_reducible assumption
    | with_reducible apply lookupOf_ok
    | intro _ _ _
    | intro _ _
    | dsimp only
    | dsimp only [id]

theorem serveStalled_ok {s0 : State} {s : State} (hok : Ok s0 s) :
    Ok s0 (serveStalled s) := by
  unfold serveStalled
  repeat' first
    | with_reducible assumption
    | (extract_lets +onlyGivenNames x
       first
       | (refine okStep (s0 := s0) (x := x) (fun hx => ?_) ?_; clear_value x; rotate_left; subst x)
       | (refine okStep (s0 := s0) (x := x.1) (fun hx => ?_) ?_; clear_value x; rotate_left; subst x)
       | subst x)
    | with_reducible apply foldState_ok
    | with_reducible apply lookupOf_ok
    | intro _ _ _
    | intro _ _
    | (simp only [ok_lit]; with_reducible refine OkLit.of ?_ ?_ ?_ ?_ ?_ ?_ ?_ ?_ ?_)
    | exact fun h => h
    | exact fun _ => rfl
    | exact Nat.le_refl _
    | dsimp only
    | dsimp only [id]

theorem modWalk_ok {s0 : State} {id : Nat} {f : Walk → Walk} {s : State} (hok : Ok s0 s) :
    Ok s0 (modWalk id f s) := by
  unfold modWalk
  repeat' first
    | with_reducible assumption
    | (extract_lets +onlyGivenNames x
       first
       | (refine okStep (s0 := s0) (x := x) (fun hx => ?_) ?_; clear_value x; rotate_left; subst x)
       | subst x)
    | with_reducible refine Ok.ite ?_ ?_
    | intro _ _ _
    | intro _ _
    | split
    | (simp only [ok_lit]; with_reducible refine OkLit.of ?_ ?_ ?_ ?_ ?_ ?_ ?_ ?_ ?_)
    | exact fun h => h
    | exact fun _ => rfl
    | exact Nat.le_refl _
    | dsimp only
    | dsimp only [id]
    | (intro hl; simp [hl]; done)

theorem dropWalk_ok {s0 : State} {id : Nat} {s : State} (hok : Ok s0 s) :
    Ok s0 (dropWalk id s) := by
  unfold dropWalk
  repeat' first
    | with_reducible assumption
    | (extract_lets +onlyGivenNames x
       first
       | (refine okStep (s0 := s0) (x := x) (fun hx => ?_) ?_; clear_value x; rotate_left; subst x)
       | subst x)
    | intro _ _ _
    | intro _ _
    | (simp only [ok_lit]; with_reducible refine OkLit.of ?_ ?_ ?_ ?_ ?_ ?_ ?_ ?_ ?_)
    | exact fun h => h
    | exact fun _ => rfl
    | exact Nat.le_refl _
    | dsimp only
    | dsimp only [id]

theorem walkEnds_ok {s0 : State} {w : Walk} {a : Asker} {e : TOut} {s : State} (hok : Ok s0 s) :
    Ok s0 (walkEnds w a e s) := by
  unfold walkEnds
  repeat' first
    | with_reducible assumption
    | (extract_lets +onlyGivenNames x
       first
       | (refine okStep (s0 := s0) (x := x) (fun hx => ?_) ?_; clear_value x; rotate_left; subst x)
       | (refine okStep (s0 := s0) (x := x.1) (fun hx => ?_) ?_; clear_value x; rotate_left; subst x)
       | subst x)
    | with_reducible refine Ok.ite ?_ ?_
    | with_reducible apply foldState_ok
    | with_reducible apply answerLookup_ok
    | with_reducible apply countFault_ok
    | with_reducible apply dropWalk_ok
    | intro _ _ _
    | intro _ _
    | split
    | (simp only [ok_lit]; with_reducible refine OkLit.of ?_ ?_ ?_ ?_ ?_ ?_ ?_ ?_ ?_)
    | exact fun h => h
    | exact fun _ => rfl
    | exact Nat.le_refl _
    | dsimp only
    | dsimp only [id]

theorem repeatLookups_ok {s0 : State} {w : Walk} {s : State} (hok : Ok s0 s) :
    Ok s0 (repeatLookups w s) := by
  unfold repeatLookups
  repeat' first
    | with_reducible assumption
    | with_reducible refine Ok.ite ?_ ?_
    | with_reducible apply foldState_ok
    | with_reducible apply lookupOf_ok
    | intro _ _ _
    | intro _ _
    | split
    | dsimp only
    | dsimp only [id]

theorem walkFinds_ok {s0 : State} {w : Walk} {a : Asker} {r : RangeEnt} {s : State} (hok : Ok s0 s) :
    Ok s0 (walkFinds w a r s) := by
  unfold walkFinds
  repeat' first
    | with_reducible assumption
    | (extract_lets +onlyGivenNames x
       first
       | (refine okStep (s0 := s0) (x := x) (fun hx => ?_) ?_; clear_value x; rotate_left; subst x)
       | subst x)
    | with_reducible apply walkEnds_ok
    | with_reducible apply repeatLookups_ok
    | with_reducible apply install_ok
    | with_reducible apply dropWalk_ok
    | with_reducible apply beginReplace_ok
    | with_reducible apply modWalk_ok
    | with_reducible refine Ok.ofPair ?_ (by with_reducible assumption)
    | intro _ _ _
    | intro _ _
    | split
    | (simp only [ok_lit]; with_reducible refine OkLit.of ?_ ?_ ?_ ?_ ?_ ?_ ?_ ?_ ?_)
    | exact fun h => h
    | exact fun _ => rfl
    | exact Nat.le_refl _
    | dsimp only
    | dsimp only [id]

theorem walkAgain_ok {s0 : State} {w : Walk} {a : Asker} {s : State} (hok : Ok s0 s) :
    Ok s0 (walkAgain w a s) := by
  unfold walkAgain
  repeat' first
    | with_reducible assumption
    | (extract_lets +onlyGivenNames x
       first
       | (refine okStep (s0 := s0) (x := x) (fun hx => ?_) ?_; clear_value x; rotate_left; subst x)
       | subst x)
    | with_reducible apply modWalk_ok
    | intro _ _ _
    | intro _ _
    | (simp only [ok_lit]; with_reducible refine OkLit.of ?_ ?_ ?_ ?_ ?_ ?_ ?_ ?_ ?_)
    | exact fun h => h
    | exact fun _ => rfl
    | exact Nat.le_refl _
    | dsimp only
    | dsimp only [id]
    | (intro hl; simp [hl]; done)

theorem tryInstall_ok {s0 : State} {w : Walk} {s : State} (hok : Ok s0 s) :
    Ok s0 (tryInstall w s) := by
  unfold tryInstall
  repeat' first
    | with_reducible assumption
    | (extract_lets +onlyGivenNames x
       first
       | (refine okStep (s0 := s0) (x := x) (fun hx => ?_) ?_; clear_value x; rotate_left; subst x)
       | subst x)
    | with_reducible refine Ok.ite ?_ ?_
    | with_reducible apply install_ok
    | with_reducible apply walkEnds_ok
    | with_reducible apply walkAgain_ok
    | with_reducible apply repeatLookups_ok
    | with_reducible apply installOver_ok
    | with_reducible apply dropWalk_ok
    | with_reducible refine Ok.ofPair ?_ (by with_reducible assumption)
    | intro _ _ _
    | intro _ _
    | split
    | (simp only [ok_lit]; with_reducible refine OkLit.of ?_ ?_ ?_ ?_ ?_ ?_ ?_ ?_ ?_)
    | exact fun h => h
    | exact fun _ => rfl
    | exact Nat.le_refl _
    | dsimp only
    | dsimp only [id]

theorem leasesEnded_ok {s0 : State} {s : State} (hok : Ok s0 s) :
    Ok s0 (leasesEnded s) := by
  unfold leasesEnded
  repeat' first
    | with_reducible assumption
    | with_reducible apply foldState_ok
    | with_reducible apply tryInstall_ok
    | intro _ _ _
    | intro _ _
    | dsimp only
    | dsimp only [id]

theorem walkOn_ok {s0 : State} {w : Walk} {a : Asker} {b : Bytes} {level high : Nat} {s : State} (hok : Ok s0 s) :
    Ok s0 (walkOn w a b level high s) := by
  unfold walkOn
  repeat' first
    | with_reducible assumption
    | (extract_lets +onlyGivenNames x
       first
       | (refine okStep (s0 := s0) (x := x) (fun hx => ?_) ?_; clear_value x; rotate_left; subst x)
       | subst x)
    | with_reducible refine Ok.ite ?_ ?_
    | with_reducible apply walkFinds_ok
    | with_reducible apply walkEnds_ok
    | with_reducible apply modWalk_ok
    | with_reducible refine Ok.ofPair ?_ (by with_reducible assumption)
    | intro _ _ _
    | intro _ _
    | split
    | (simp only [ok_lit]; with_reducible refine OkLit.of ?_ ?_ ?_ ?_ ?_ ?_ ?_ ?_ ?_)
    | exact fun h => h
    | exact fun _ => rfl
    | exact Nat.le_refl _
    | dsimp only
    | dsimp only [id]
    | (intro hl; simp [hl]; done)

theorem walkBad_ok {s0 : State} {w : Walk} {a : Asker} {s : State} (hok : Ok s0 s) :
    Ok s0 (walkBad w a s) := by
  unfold walkBad
  repeat' first
    | with_reducible assumption
    | with_reducible apply walkEnds_ok
    | with_reducible apply countPackage_ok
    | intro _ _ _
    | intro _ _
    | dsimp only
    | dsimp only [id]

theorem nodeRead_ok {s0 : State} {w : Walk} {s : State} (hok : Ok s0 s) :
    Ok s0 (nodeRead w s) := by
  unfold nodeRead
  repeat' first
    | with_reducible assumption
    | (extract_lets +onlyGivenNames x
       first
       | (refine okStep (s0 := s0) (x := x) (fun hx => ?_) ?_; clear_value x; rotate_left; subst x)
       | subst x)
    | with_reducible refine Ok.ite ?_ ?_
    | with_reducible apply walkEnds_ok
    | with_reducible apply walkAgain_ok
    | with_reducible apply walkBad_ok
    | with_reducible apply gateSnoops_ok
    | with_reducible apply countPackage_ok
    | with_reducible apply walkOn_ok
    | with_reducible apply modWalk_ok
    | with_reducible apply install_ok
    | with_reducible refine Ok.ofPair ?_ (by with_reducible assumption)
    | intro _ _ _
    | intro _ _
    | split
    | (simp only [ok_lit]; with_reducible refine OkLit.of ?_ ?_ ?_ ?_ ?_ ?_ ?_ ?_ ?_)
    | exact fun h => h
    | exact fun _ => rfl
    | exact Nat.le_refl _
    | dsimp only
    | dsimp only [id]
    | (intro hl; simp [hl]; done)

theorem walkStep_ok {s0 : State} {w : Walk} {s : State} (hok : Ok s0 s) :
    Ok s0 (walkStep w s) := by
  unfold walkStep
  repeat' first
    | with_reducible assumption
    | (extract_lets +onlyGivenNames x
       first
       | (refine okStep (s0 := s0) (x := x) (fun hx => ?_) ?_; clear_value x; rotate_left; subst x)
       | subst x)
    | with_reducible apply install_ok
    | with_reducible apply tryInstall_ok
    | with_reducible apply nodeRead_ok
    | with_reducible refine Ok.ofPair ?_ (by with_reducible assumption)
    | intro _ _ _
    | intro _ _
    | split
    | (simp only [ok_lit]; with_reducible refine OkLit.of ?_ ?_ ?_ ?_ ?_ ?_ ?_ ?_ ?_)
    | exact fun h => h
    | exact fun _ => rfl
    | exact Nat.le_refl _
    | dsimp only
    | dsimp only [id]


/-! ### Machine/Events.lean -/

theorem setRing_ok {s0 : State} {g : Fun} {r : Nat} {x : Ring} {s : State} (hok : Ok s0 s) :
    Ok s0 (setRing g r x s) := by
  unfold setRing
  repeat' first
    | with_reducible assumption
    | (extract_lets +onlyGivenNames x
       first
       | (refine okStep (s0 := s0) (x := x) (fun hx => ?_) ?_; clear_value x; rotate_left; subst x)
       | subst x)
    | with_reducible apply modInt_ok
    | (intro x hx; (repeat' split) <;> exact ⟨hx.delay, hx.masks⟩)
    | intro _ _ _
    | intro _ _
    | (simp only [ok_lit]; with_reducible refine OkLit.of ?_ ?_ ?_ ?_ ?_ ?_ ?_ ?_ ?_)
    | exact fun h => h
    | exact fun _ => rfl
    | exact Nat.le_refl _
    | dsimp only
    | dsimp only [id]

theorem putRecord_ok {s0 : State} {g : Fun} {r : Nat} {x : Ring} {e : EvRec} {s : State} (hok : Ok s0 s) :
    Ok s0 (putRecord g r x e s) := by
  unfold putRecord
  repeat' first
    | with_reducible assumption
    | (extract_lets +onlyGivenNames x
       first
       | (refine okStep (s0 := s0) (x := x) (fun hx => ?_) ?_; clear_value x; rotate_left; subst x)
       | subst x)
    | with_reducible refine Ok.ite ?_ ?_
    | with_reducible apply hostWrite_ok
    | with_reducible apply fire_ok
    | with_reducible apply setRing_ok
    | intro _ _ _
    | intro _ _
    | split
    | (simp only [ok_lit]; with_reducible refine OkLit.of ?_ ?_ ?_ ?_ ?_ ?_ ?_ ?_ ?_)
    | exact fun h => h
    | exact fun _ => rfl
    | exact Nat.le_refl _
    | dsimp only
    | dsimp only [id]
    | (intro hl; simp [hl]; done)

theorem tryOverflow_ok {s0 : State} {g : Fun} {r : Nat} {s : State} (hok : Ok s0 s) :
    Ok s0 (tryOverflow g r s) := by
  unfold tryOverflow
  repeat' first
    | with_reducible assumption
    | (extract_lets +onlyGivenNames x
       first
       | (refine okStep (s0 := s0) (x := x) (fun hx => ?_) ?_; clear_value x; rotate_left; subst x)
       | subst x)
    | with_reducible refine Ok.ite ?_ ?_
    | with_reducible apply putRecord_ok
    | with_reducible refine Ok.ofPair ?_ (by with_reducible assumption)
    | intro _ _ _
    | intro _ _
    | split
    | (simp only [ok_lit]; with_reducible refine OkLit.of ?_ ?_ ?_ ?_ ?_ ?_ ?_ ?_ ?_)
    | exact fun h => h
    | exact fun _ => rfl
    | exact Nat.le_refl _
    | dsimp only
    | dsimp only [id]

theorem dropRecord_ok {s0 : State} {g : Fun} {r : Nat} {x : Ring} {s : State} (hok : Ok s0 s) :
    Ok s0 (dropRecord g r x s) := by
  unfold dropRecord
  repeat' first
    | with_reducible assumption
    | (extract_lets +onlyGivenNames x
       first
       | (refine okStep (s0 := s0) (x := x) (fun hx => ?_) ?_; clear_value x; rotate_left; subst x)
       | subst x)
    | with_reducible apply countFn_ok
    | with_reducible apply setRing_ok
    | intro _ _ _
    | intro _ _
    | (simp only [ok_lit]; with_reducible refine OkLit.of ?_ ?_ ?_ ?_ ?_ ?_ ?_ ?_ ?_)
    | exact fun h => h
    | exact fun _ => rfl
    | exact Nat.le_refl _
    | dsimp only
    | dsimp only [id]
    | (intro hl; simp [hl]; done)

theorem deliverRecord_ok {s0 : State} {g : Fun} {held : Bool} {e : EvRec} {s : State} (hok : Ok s0 s) :
    Ok s0 (deliverRecord g held e s) := by
  unfold deliverRecord
  repeat' first
    | with_reducible assumption
    | (extract_lets +onlyGivenNames x
       first
       | (refine okStep (s0 := s0) (x := x) (fun hx => ?_) ?_; clear_value x; rotate_left; subst x)
       | subst x)
    | with_reducible refine Ok.ite ?_ ?_
    | with_reducible apply countFn_ok
    | with_reducible apply putRecord_ok
    | with_reducible apply tryOverflow_ok
    | with_reducible apply dropRecord_ok
    | with_reducible refine Ok.ofPair ?_ (by with_reducible assumption)
    | intro _ _ _
    | intro _ _
    | split
    | (simp only [ok_lit]; with_reducible refine OkLit.of ?_ ?_ ?_ ?_ ?_ ?_ ?_ ?_ ?_)
    | exact fun h => h
    | exact fun _ => rfl
    | exact Nat.le_refl _
    | dsimp only
    | dsimp only [id]

theorem holdRecord_ok {s0 : State} {g : Fun} {e : EvRec} {s : State} (hok : Ok s0 s) :
    Ok s0 (holdRecord g e s) := by
  unfold holdRecord
  repeat' first
    | with_reducible assumption
    | (extract_lets +onlyGivenNames x
       first
       | (refine okStep (s0 := s0) (x := x) (fun hx => ?_) ?_; clear_value x; rotate_left; subst x)
       | subst x)
    | with_reducible refine Ok.ite ?_ ?_
    | with_reducible apply modInt_ok
    | with_reducible apply countFn_ok
    | with_reducible apply dropRecord_ok
    | (intro x hx; (repeat' split) <;> exact ⟨hx.delay, hx.masks⟩)
    | with_reducible refine Ok.ofPair ?_ (by with_reducible assumption)
    | intro _ _ _
    | intro _ _
    | split
    | (simp only [ok_lit]; with_reducible refine OkLit.of ?_ ?_ ?_ ?_ ?_ ?_ ?_ ?_ ?_)
    | exact fun h => h
    | exact fun _ => rfl
    | exact Nat.le_refl _
    | dsimp only
    | dsimp only [id]

theorem releaseHeld_ok {s0 : State} {g : Fun} {s : State} (hok : Ok s0 s) :
    Ok s0 (releaseHeld g s) := by
  unfold releaseHeld
  repeat' first
    | with_reducible assumption
    | (extract_lets +onlyGivenNames x
       first
       | (refine okStep (s0 := s0) (x := x) (fun hx => ?_) ?_; clear_value x; rotate_left; subst x)
       | (refine okStep (s0 := s0) (x := x.1) (fun hx => ?_) ?_; clear_value x; rotate_left; subst x)
       | subst x)
    | with_reducible refine Ok.ite ?_ ?_
    | with_reducible apply foldState_ok
    | with_reducible apply deliverRecord_ok
    | with_reducible apply modInt_ok
    | with_reducible apply tryOverflow_ok
    | (intro x hx; (repeat' split) <;> exact ⟨hx.delay, hx.masks⟩)
    | intro _ _ _
    | intro _ _
    | split
    | (simp only [ok_lit]; with_reducible refine OkLit.of ?_ ?_ ?_ ?_ ?_ ?_ ?_ ?_ ?_)
    | exact fun h => h
    | exact fun _ => rfl
    | exact Nat.le_refl _
    | dsimp only
    | dsimp only [id]

theorem writeEventRecord_ok {s0 : State} {g : Fun} {s : State} (hok : Ok s0 s) :
    Ok s0 (writeEventRecord g s) := by
  unfold writeEventRecord
  repeat' first
    | with_reducible assumption
    | (extract_lets +onlyGivenNames x
       first
       | (refine okStep (s0 := s0) (x := x) (fun hx => ?_) ?_; clear_value x; rotate_left; subst x)
       | subst x)
    | with_reducible refine Ok.ite ?_ ?_
    | with_reducible apply holdRecord_ok
    | with_reducible apply modInt_ok
    | with_reducible apply releaseHeld_ok
    | with_reducible apply deliverRecord_ok
    | (intro x hx; (repeat' split) <;> exact ⟨hx.delay, hx.masks⟩)
    | with_reducible refine Ok.ofPair ?_ (by with_reducible assumption)
    | intro _ _ _
    | intro _ _
    | split
    | (simp only [ok_lit]; with_reducible refine OkLit.of ?_ ?_ ?_ ?_ ?_ ?_ ?_ ?_ ?_)
    | exact fun h => h
    | exact fun _ => rfl
    | exact Nat.le_refl _
    | dsimp only
    | dsimp only [id]

theorem execEventRecordWrite_ok {s0 : State} {g : Fun} {s : State} (hok : Ok s0 s) :
    OutOk s0 (execEventRecordWrite g s) := by
  unfold execEventRecordWrite
  refine ⟨_, rfl, ?_⟩
  repeat' first
    | with_reducible assumption
    | with_reducible apply writeEventRecord_ok
    | intro _ _ _
    | intro _ _
    | dsimp only
    | dsimp only [id]

theorem writeConsumer_ok {s0 : State} {g : Fun} {r : Nat} {v : U32} {s : State} (hok : Ok s0 s) :
    Ok s0 (writeConsumer g r v s) := by
  unfold writeConsumer
  repeat' first
    | with_reducible assumption
    | (extract_lets +onlyGivenNames x
       first
       | (refine okStep (s0 := s0) (x := x) (fun hx => ?_) ?_; clear_value x; rotate_left; subst x)
       | subst x)
    | with_reducible refine Ok.ite ?_ ?_
    | with_reducible apply countFn_ok
    | with_reducible apply tryOverflow_ok
    | with_reducible apply setRing_ok
    | with_reducible refine Ok.ofPair ?_ (by with_reducible assumption)
    | intro _ _ _
    | intro _ _
    | split
    | (simp only [ok_lit]; with_reducible refine OkLit.of ?_ ?_ ?_ ?_ ?_ ?_ ?_ ?_ ?_)
    | exact fun h => h
    | exact fun _ => rfl
    | exact Nat.le_refl _
    | dsimp only
    | dsimp only [id]
    | (intro hl; simp [hl]; done)

theorem execRingConsumerWrite_ok {s0 : State} {g : Fun} {r : U8} {v : U32} {s : State} (hok : Ok s0 s) :
    OutOk s0 (execRingConsumerWrite g r v s) := by
  unfold execRingConsumerWrite
  refine ⟨_, rfl, ?_⟩
  repeat' first
    | with_reducible assumption
    | with_reducible apply barWrite_ok
    | with_reducible apply writeConsumer_ok
    | intro _ _ _
    | intro _ _
    | dsimp only
    | dsimp only [id]

theorem execWeirDelayExpiry_ok {s0 : State} {g : Fun} {s : State} (hok : Ok s0 s) :
    OutOk s0 (execWeirDelayExpiry g s) := by
  unfold execWeirDelayExpiry
  refine ⟨_, rfl, ?_⟩
  repeat' first
    | with_reducible assumption
    | with_reducible apply runWeir_ok
    | intro _ _ _
    | intro _ _
    | dsimp only
    | dsimp only [id]

theorem clearLatches_ok {s0 : State} {g : Fun} {k : Fin 5} {v : U64} {s : State} (hok : Ok s0 s) :
    Ok s0 (clearLatches g k v s) := by
  unfold clearLatches
  repeat' first
    | with_reducible assumption
    | (extract_lets +onlyGivenNames x
       first
       | (refine okStep (s0 := s0) (x := x) (fun hx => ?_) ?_; clear_value x; rotate_left; subst x)
       | subst x)
    | with_reducible apply runWeir_ok
    | with_reducible apply modInt_ok
    | (intro x hx; (repeat' split) <;> exact ⟨hx.delay, hx.masks⟩)
    | intro _ _ _
    | intro _ _
    | (simp only [ok_lit]; with_reducible refine OkLit.of ?_ ?_ ?_ ?_ ?_ ?_ ?_ ?_ ?_)
    | exact fun h => h
    | exact fun _ => rfl
    | exact Nat.le_refl _
    | dsimp only
    | dsimp only [id]

theorem execIntPendingClear_ok {s0 : State} {g : Fun} {k : Fin 5} {v : U64} {s : State} (hok : Ok s0 s) :
    OutOk s0 (execIntPendingClear g k v s) := by
  unfold execIntPendingClear
  refine ⟨_, rfl, ?_⟩
  repeat' first
    | with_reducible assumption
    | with_reducible apply barWrite_ok
    | with_reducible apply clearLatches_ok
    | intro _ _ _
    | intro _ _
    | dsimp only
    | dsimp only [id]

theorem openWeir_ok {s0 : State} {g : Fun} {before s : State} (hok : Ok s0 s) :
    Ok s0 (openWeir g before s) := by
  unfold openWeir
  repeat' first
    | with_reducible assumption
    | (extract_lets +onlyGivenNames x
       first
       | (refine okStep (s0 := s0) (x := x) (fun hx => ?_) ?_; clear_value x; rotate_left; subst x)
       | subst x)
    | with_reducible refine Ok.ite ?_ ?_
    | with_reducible apply modInt_ok
    | with_reducible apply emit_ok
    | with_reducible apply modCfg_ok
    | with_reducible apply settleIntx_ok
    | (intro x hx; (repeat' split) <;> exact ⟨hx.delay, hx.masks⟩)
    | (intro x hx; (repeat' split) <;> exact ⟨hx.command, hx.devCtl, hx.devCtl2, hx.bar0⟩)
    | intro _ _ _
    | intro _ _
    | split
    | (simp only [ok_lit]; with_reducible refine OkLit.of ?_ ?_ ?_ ?_ ?_ ?_ ?_ ?_ ?_)
    | exact fun h => h
    | exact fun _ => rfl
    | exact Nat.le_refl _
    | dsimp only
    | dsimp only [id]
    | (intro hl; simp [hl]; done)

theorem writeMask_ok {s0 : State} {g : Fun} {k : Fin 5} {v : U64} {s : State} (hok : Ok s0 s) :
    Ok s0 (writeMask g k v s) := by
  unfold writeMask
  repeat' first
    | with_reducible assumption
    | (extract_lets +onlyGivenNames x
       first
       | (refine okStep (s0 := s0) (x := x) (fun hx => ?_) ?_; clear_value x; rotate_left; subst x)
       | subst x)
    | with_reducible refine Ok.ite ?_ ?_
    | with_reducible apply modInt_ok
    | with_reducible apply draw_ok
    | with_reducible apply openWeir_ok
    | with_reducible apply runWeir_ok
    | with_reducible apply countFn_ok
    | (intro x hx; (repeat' split) <;> exact ⟨hx.delay, hx.masks⟩)
    | (intro x hx; exact ⟨hx.delay, and_clear _ _ _ (BitVec.and_not_self _)⟩)
    | intro _ _ _
    | intro _ _
    | split
    | (simp only [ok_lit]; with_reducible refine OkLit.of ?_ ?_ ?_ ?_ ?_ ?_ ?_ ?_ ?_)
    | exact fun h => h
    | exact fun _ => rfl
    | exact Nat.le_refl _
    | dsimp only
    | dsimp only [id]

theorem execIntMaskWrite_ok {s0 : State} {g : Fun} {k : Fin 5} {v : U64} {s : State} (hok : Ok s0 s) :
    OutOk s0 (execIntMaskWrite g k v s) := by
  unfold execIntMaskWrite
  refine ⟨_, rfl, ?_⟩
  repeat' first
    | with_reducible assumption
    | with_reducible apply barWrite_ok
    | with_reducible apply writeMask_ok
    | intro _ _ _
    | intro _ _
    | dsimp only
    | dsimp only [id]

theorem setDelay_ok {s0 : State} {g : Fun} {ns : Nat} {s : State} (hok : Ok s0 s) :
    Ok s0 (setDelay g ns s) := by
  unfold setDelay
  repeat' first
    | with_reducible assumption
    | (extract_lets +onlyGivenNames x
       first
       | (refine okStep (s0 := s0) (x := x) (fun hx => ?_) ?_; clear_value x; rotate_left; subst x)
       | subst x)
    | with_reducible apply runWeir_ok
    | with_reducible apply modInt_ok
    | (intro x hx; (repeat' split) <;> exact ⟨hx.delay, hx.masks⟩)
    | (intro x hx; exact ⟨Nat.min_le_right _ _, hx.masks⟩)
    | intro _ _ _
    | intro _ _
    | (simp only [ok_lit]; with_reducible refine OkLit.of ?_ ?_ ?_ ?_ ?_ ?_ ?_ ?_ ?_)
    | exact fun h => h
    | exact fun _ => rfl
    | exact Nat.le_refl _
    | dsimp only
    | dsimp only [id]

theorem setTargetDie_ok {s0 : State} {g : Fun} {d : Nat} {s : State} (hok : Ok s0 s) :
    Ok s0 (setTargetDie g d s) := by
  unfold setTargetDie
  repeat' first
    | with_reducible assumption
    | (extract_lets +onlyGivenNames x
       first
       | (refine okStep (s0 := s0) (x := x) (fun hx => ?_) ?_; clear_value x; rotate_left; subst x)
       | subst x)
    | with_reducible refine Ok.ite ?_ ?_
    | with_reducible apply runWeir_ok
    | with_reducible apply modInt_ok
    | (intro x hx; (repeat' split) <;> exact ⟨hx.delay, hx.masks⟩)
    | intro _ _ _
    | intro _ _
    | split
    | (simp only [ok_lit]; with_reducible refine OkLit.of ?_ ?_ ?_ ?_ ?_ ?_ ?_ ?_ ?_)
    | exact fun h => h
    | exact fun _ => rfl
    | exact Nat.le_refl _
    | dsimp only
    | dsimp only [id]

theorem execIntModerationWrite_ok {s0 : State} {g : Fun} {v : U64} {s : State} (hok : Ok s0 s) :
    OutOk s0 (execIntModerationWrite g v s) := by
  unfold execIntModerationWrite
  refine ⟨_, rfl, ?_⟩
  repeat' first
    | with_reducible assumption
    | with_reducible apply barWrite_ok
    | with_reducible apply setDelay_ok
    | with_reducible apply setTargetDie_ok
    | intro _ _ _
    | intro _ _
    | dsimp only
    | dsimp only [id]

theorem takeHint_ok {s0 : State} {d : Die} {idle : Bool} {s : State} (hok : Ok s0 s) :
    Ok s0 (takeHint d idle s) := by
  unfold takeHint
  repeat' first
    | with_reducible assumption
    | (extract_lets +onlyGivenNames x
       first
       | (refine okStep (s0 := s0) (x := x) (fun hx => ?_) ?_; clear_value x; rotate_left; subst x)
       | subst x)
    | with_reducible refine Ok.ite ?_ ?_
    | with_reducible apply foldState_ok
    | with_reducible apply runWeir_ok
    | intro _ _ _
    | intro _ _
    | split
    | (simp only [ok_lit]; with_reducible refine OkLit.of ?_ ?_ ?_ ?_ ?_ ?_ ?_ ?_ ?_)
    | exact fun h => h
    | exact fun _ => rfl
    | exact Nat.le_refl _
    | dsimp only
    | dsimp only [id]

theorem execIdleHint_ok {s0 : State} {d : Die} {idle : Bool} {s : State} (hok : Ok s0 s) :
    OutOk s0 (execIdleHint d idle s) := by
  unfold execIdleHint
  refine ⟨_, rfl, ?_⟩
  repeat' first
    | with_reducible assumption
    | with_reducible apply takeHint_ok
    | intro _ _ _
    | intro _ _
    | dsimp only
    | dsimp only [id]


/-! ### Machine/Schedule.lean -/

theorem installLocked_ok {s0 : State} {es : List REntry} {s : State} (hok : Ok s0 s) :
    Ok s0 (installLocked es s) := by
  unfold installLocked
  repeat' first
    | with_reducible assumption
    | with_reducible apply foldState_ok
    | with_reducible apply install_ok
    | intro _ _ _
    | intro _ _
    | dsimp only
    | dsimp only [id]

theorem startMoraine_ok {s0 : State} {x : Sched} {s : State} (hok : Ok s0 s) :
    Ok s0 (startMoraine x s) := by
  unfold startMoraine
  repeat' first
    | with_reducible assumption
    | (extract_lets +onlyGivenNames x
       first
       | (refine okStep (s0 := s0) (x := x) (fun hx => ?_) ?_; clear_value x; rotate_left; subst x)
       | subst x)
    | with_reducible refine Ok.ite ?_ ?_
    | with_reducible apply poolWrite_ok
    | with_reducible refine Ok.ofPair ?_ (by with_reducible assumption)
    | intro _ _ _
    | intro _ _
    | split
    | (simp only [ok_lit]; with_reducible refine OkLit.of ?_ ?_ ?_ ?_ ?_ ?_ ?_ ?_ ?_)
    | exact fun h => h
    | exact fun _ => rfl
    | exact Nat.le_refl _
    | dsimp only
    | dsimp only [id]

end Sys2Proof.Machine
end

