-- ==== Sys2Proof/Laws/KeepsCommands.lean ====
section
/-!
SUPPORT. What every command keeps (`Ok`), update by update: admin queues, contexts, commands of queues, transfers, faults, reads and lookups.
Each lemma follows its definition: one let at a time, one branch at a time, and the lemma of each operation that it calls.
-/
set_option linter.unusedSimpArgs false

namespace Sys2Proof.Machine

/-! ### Machine/Admin.lean -/

theorem ringStarts_keeps {sq : Bool} {a : AdminQ} (hok : AdminOk a) : AdminOk (ringStarts sq a) := by
  unfold ringStarts
  repeat' first
    | with_reducible assumption
    | exact ⟨hok.sq, hok.cq⟩
    | (extract_lets +onlyGivenNames x; subst x)
    | split
    | dsimp only
    | dsimp only [id]

theorem ringStops_keeps {a : AdminQ} (hok : AdminOk a) : AdminOk (ringStops a) := by
  unfold ringStops
  repeat' first
    | with_reducible assumption
    | exact ⟨hok.sq, hok.cq⟩
    | (extract_lets +onlyGivenNames x; subst x)
    | split
    | dsimp only
    | dsimp only [id]

theorem writeSqControl_keeps {v : U64} {a : AdminQ} (hok : AdminOk a) : AdminOk (writeSqControl v a) := by
  unfold writeSqControl
  repeat' first
    | with_reducible assumption
    | with_reducible apply ringStops_keeps
    | with_reducible apply ringStarts_keeps
    | exact ⟨hok.sq, hok.cq⟩
    | (extract_lets +onlyGivenNames x; subst x)
    | split
    | dsimp only
    | dsimp only [id]

theorem writeCqControl_keeps {v : U64} {a : AdminQ} (hok : AdminOk a) : AdminOk (writeCqControl v a) := by
  unfold writeCqControl
  repeat' first
    | with_reducible assumption
    | with_reducible apply ringStops_keeps
    | with_reducible apply ringStarts_keeps
    | exact ⟨hok.sq, hok.cq⟩
    | (extract_lets +onlyGivenNames x; subst x)
    | split
    | dsimp only
    | dsimp only [id]

theorem writeSqTail_keeps {v : U64} {a : AdminQ} (hok : AdminOk a) : AdminOk (writeSqTail v a) := by
  unfold writeSqTail
  repeat' first
    | with_reducible assumption
    | exact ⟨hok.sq, hok.cq⟩
    | (extract_lets +onlyGivenNames x; subst x)
    | split
    | dsimp only
    | dsimp only [id]

theorem writeSqBase_keeps {v : U64} {a : AdminQ} (hok : AdminOk a) : AdminOk (writeSqBase v a) := by
  unfold writeSqBase
  repeat' first
    | with_reducible assumption
    | exact ⟨w64_align _ _ (by decide), hok.cq⟩
    | exact ⟨hok.sq, hok.cq⟩
    | (extract_lets +onlyGivenNames x; subst x)
    | split
    | dsimp only
    | dsimp only [id]

theorem writeCqBase_keeps {v : U64} {a : AdminQ} (hok : AdminOk a) : AdminOk (writeCqBase v a) := by
  unfold writeCqBase
  repeat' first
    | with_reducible assumption
    | exact ⟨hok.sq, w64_align _ _ (by decide)⟩
    | exact ⟨hok.sq, hok.cq⟩
    | (extract_lets +onlyGivenNames x; subst x)
    | split
    | dsimp only
    | dsimp only [id]

theorem askAdmin_ok {s0 : State} {g : Fun} {s : State} (hok : Ok s0 s) :
    Ok s0 (askAdmin g s) := by
  unfold askAdmin
  repeat' first
    | with_reducible assumption
    | with_reducible refine Ok.ite ?_ ?_
    | with_reducible apply hostRead_ok
    | intro _ _ _
    | intro _ _
    | split
    | dsimp only
    | dsimp only [id]

theorem stopAdmin_ok {s0 : State} {g : Fun} {s : State} (hok : Ok s0 s) :
    Ok s0 (stopAdmin g s) := by
  unfold stopAdmin
  repeat' first
    | with_reducible assumption
    | (extract_lets +onlyGivenNames x
       first
       | (refine okStep (s0 := s0) (x := x) (fun hx => ?_) ?_; clear_value x; rotate_left; subst x)
       | subst x)
    | with_reducible refine Ok.ite ?_ ?_
    | with_reducible apply modPort_ok
    | intro _ _ _
    | intro _ _
    | split
    | (simp only [ok_lit]; with_reducible refine OkLit.of ?_ ?_ ?_ ?_ ?_ ?_ ?_ ?_ ?_)
    | exact fun h => h
    | exact fun _ => rfl
    | exact Nat.le_refl _
    | dsimp only
    | dsimp only [id]
    | (intro hl; simp [hl]; done)

theorem writeAdmin_ok {s0 : State} {g : Fun} {f : AdminQ → AdminQ} {s : State}
    (hf : ∀ x, AdminOk x → AdminOk (f x)) (hok : Ok s0 s) : Ok s0 (writeAdmin g f s) :=
  askAdmin_ok (stopAdmin_ok (modAdmin_ok hf hok))

theorem adminWrite_ok {s0 : State} {g : Fun} {f : AdminQ → AdminQ} {s : State}
    (hf : ∀ x, AdminOk x → AdminOk (f x)) (hok : Ok s0 s) : Ok s0 (adminWrite g f s) := by
  unfold adminWrite
  with_reducible apply barWrite_ok
  · intro t ht
    exact writeAdmin_ok hf ht
  · exact hok

theorem execAdminSqControlWrite_ok {s0 : State} {g : Fun} {v : U64} {s : State} (hok : Ok s0 s) :
    OutOk s0 (execAdminSqControlWrite g v s) := by
  unfold execAdminSqControlWrite
  refine ⟨_, rfl, ?_⟩
  repeat' first
    | with_reducible assumption
    | with_reducible apply adminWrite_ok
    | with_reducible apply writeSqControl_keeps
    | (intro x hx; (repeat' split) <;> exact ⟨hx.sq, hx.cq⟩)
    | intro _ _ _
    | intro _ _
    | dsimp only
    | dsimp only [id]

theorem execAdminCqControlWrite_ok {s0 : State} {g : Fun} {v : U64} {s : State} (hok : Ok s0 s) :
    OutOk s0 (execAdminCqControlWrite g v s) := by
  unfold execAdminCqControlWrite
  refine ⟨_, rfl, ?_⟩
  repeat' first
    | with_reducible assumption
    | with_reducible apply adminWrite_ok
    | with_reducible apply writeCqControl_keeps
    | (intro x hx; (repeat' split) <;> exact ⟨hx.sq, hx.cq⟩)
    | intro _ _ _
    | intro _ _
    | dsimp only
    | dsimp only [id]

theorem execAdminSqTailWrite_ok {s0 : State} {g : Fun} {v : U64} {s : State} (hok : Ok s0 s) :
    OutOk s0 (execAdminSqTailWrite g v s) := by
  unfold execAdminSqTailWrite
  refine ⟨_, rfl, ?_⟩
  repeat' first
    | with_reducible assumption
    | with_reducible apply adminWrite_ok
    | with_reducible apply writeSqTail_keeps
    | (intro x hx; (repeat' split) <;> exact ⟨hx.sq, hx.cq⟩)
    | intro _ _ _
    | intro _ _
    | dsimp only
    | dsimp only [id]

theorem execAdminCqHeadWrite_ok {s0 : State} {g : Fun} {v : U64} {s : State} (hok : Ok s0 s) :
    OutOk s0 (execAdminCqHeadWrite g v s) := by
  unfold execAdminCqHeadWrite
  refine ⟨_, rfl, ?_⟩
  repeat' first
    | with_reducible assumption
    | (extract_lets +onlyGivenNames x
       first
       | (refine okStep (s0 := s0) (x := x) (fun hx => ?_) ?_; clear_value x; rotate_left; subst x)
       | subst x)
    | with_reducible apply adminWrite_ok
    | (intro x hx; (repeat' split) <;> exact ⟨hx.sq, hx.cq⟩)
    | intro _ _ _
    | intro _ _
    | (simp only [ok_lit]; with_reducible refine OkLit.of ?_ ?_ ?_ ?_ ?_ ?_ ?_ ?_ ?_)
    | exact fun h => h
    | exact fun _ => rfl
    | exact Nat.le_refl _
    | dsimp only
    | dsimp only [id]

theorem takeEntry_keeps {ok : Bool} {entry : Bytes} {a : AdminQ} (hok : AdminOk a) : AdminOk (takeEntry ok entry a) := by
  unfold takeEntry
  repeat' first
    | with_reducible assumption
    | exact ⟨hok.sq, hok.cq⟩
    | (extract_lets +onlyGivenNames x; subst x)
    | split
    | dsimp only
    | dsimp only [id]

theorem entryComes_ok {s0 : State} {g : Fun} {live ok : Bool} {entry : Bytes} {s : State} (hok : Ok s0 s) :
    Ok s0 (entryComes g live ok entry s) := by
  unfold entryComes
  repeat' first
    | with_reducible assumption
    | with_reducible refine Ok.ite ?_ ?_
    | with_reducible apply modAdmin_ok
    | with_reducible apply takeEntry_keeps
    | (intro x hx; (repeat' split) <;> exact ⟨hx.sq, hx.cq⟩)
    | intro _ _ _
    | intro _ _
    | split
    | dsimp only
    | dsimp only [id]

theorem writeCompletion_ok {s0 : State} {g : Fun} {s : State} (hok : Ok s0 s) :
    Ok s0 (writeCompletion g s) := by
  unfold writeCompletion
  repeat' first
    | with_reducible assumption
    | (extract_lets +onlyGivenNames x
       first
       | (refine okStep (s0 := s0) (x := x) (fun hx => ?_) ?_; clear_value x; rotate_left; subst x)
       | subst x)
    | with_reducible refine Ok.ite ?_ ?_
    | with_reducible apply hostWrite_ok
    | with_reducible apply askAdmin_ok
    | with_reducible apply fire_ok
    | with_reducible apply modAdmin_ok
    | (intro x hx; (repeat' split) <;> exact ⟨hx.sq, hx.cq⟩)
    | with_reducible refine Ok.ofPair ?_ (by with_reducible assumption)
    | intro _ _ _
    | intro _ _
    | split
    | (simp only [ok_lit]; with_reducible refine OkLit.of ?_ ?_ ?_ ?_ ?_ ?_ ?_ ?_ ?_)
    | exact fun h => h
    | exact fun _ => rfl
    | exact Nat.le_refl _
    | dsimp only
    | dsimp only [id]

theorem execAdminCompletionWrite_ok {s0 : State} {g : Fun} {s : State} (hok : Ok s0 s) :
    OutOk s0 (execAdminCompletionWrite g s) := by
  unfold execAdminCompletionWrite
  refine ⟨_, rfl, ?_⟩
  repeat' first
    | with_reducible assumption
    | with_reducible apply writeCompletion_ok
    | intro _ _ _
    | intro _ _
    | dsimp only
    | dsimp only [id]

theorem dropTaken_ok {s0 : State} {g : Fun} {s : State} (hok : Ok s0 s) :
    Ok s0 (dropTaken g s) := by
  unfold dropTaken
  repeat' first
    | with_reducible assumption
    | (extract_lets +onlyGivenNames x
       first
       | (refine okStep (s0 := s0) (x := x) (fun hx => ?_) ?_; clear_value x; rotate_left; subst x)
       | subst x)
    | with_reducible apply askAdmin_ok
    | with_reducible apply modAdmin_ok
    | (intro x hx; (repeat' split) <;> exact ⟨hx.sq, hx.cq⟩)
    | intro _ _ _
    | intro _ _
    | (simp only [ok_lit]; with_reducible refine OkLit.of ?_ ?_ ?_ ?_ ?_ ?_ ?_ ?_ ?_)
    | exact fun h => h
    | exact fun _ => rfl
    | exact Nat.le_refl _
    | dsimp only
    | dsimp only [id]

theorem decide__ok {s0 : State} {g : Fun} {b : Bytes} {st : AStatus} {result : Nat} {s : State} (hok : Ok s0 s) :
    Ok s0 (decide_ g b st result s) := by
  unfold decide_
  repeat' first
    | with_reducible assumption
    | with_reducible refine Ok.ite ?_ ?_
    | with_reducible apply dropTaken_ok
    | with_reducible apply adminDone_ok
    | intro _ _ _
    | intro _ _
    | split
    | dsimp only
    | dsimp only [id]

theorem withEntry_ok {s0 : State} {g : Fun} {op : Nat} {act : Bytes → State → State} {s : State} (h_act : ∀ a0 t, Ok s0 t → Ok s0 (act a0 t)) (hok : Ok s0 s) :
    Ok s0 (withEntry g op act s) := by
  unfold withEntry
  repeat' first
    | with_reducible assumption
    | (extract_lets +onlyGivenNames x
       first
       | (refine okStep (s0 := s0) (x := x) (fun hx => ?_) ?_; clear_value x; rotate_left; subst x)
       | subst x)
    | with_reducible refine Ok.ite ?_ ?_
    | with_reducible apply h_act
    | with_reducible apply decide__ok
    | with_reducible refine Ok.ofPair ?_ (by with_reducible assumption)
    | intro _ _ _
    | intro _ _
    | split
    | (simp only [ok_lit]; with_reducible refine OkLit.of ?_ ?_ ?_ ?_ ?_ ?_ ?_ ?_ ?_)
    | exact fun h => h
    | exact fun _ => rfl
    | exact Nat.le_refl _
    | dsimp only
    | dsimp only [id]

theorem badOpcodeEntry_ok {s0 : State} {g : Fun} {s : State} (hok : Ok s0 s) :
    Ok s0 (badOpcodeEntry g s) := by
  unfold badOpcodeEntry
  repeat' first
    | with_reducible assumption
    | (extract_lets +onlyGivenNames x
       first
       | (refine okStep (s0 := s0) (x := x) (fun hx => ?_) ?_; clear_value x; rotate_left; subst x)
       | subst x)
    | with_reducible refine Ok.ite ?_ ?_
    | with_reducible apply decide__ok
    | with_reducible refine Ok.ofPair ?_ (by with_reducible assumption)
    | intro _ _ _
    | intro _ _
    | split
    | (simp only [ok_lit]; with_reducible refine OkLit.of ?_ ?_ ?_ ?_ ?_ ?_ ?_ ?_ ?_)
    | exact fun h => h
    | exact fun _ => rfl
    | exact Nat.le_refl _
    | dsimp only
    | dsimp only [id]

theorem execAdminBadOpcode_ok {s0 : State} {g : Fun} {s : State} (hok : Ok s0 s) :
    OutOk s0 (execAdminBadOpcode g s) := by
  unfold execAdminBadOpcode
  refine ⟨_, rfl, ?_⟩
  repeat' first
    | with_reducible assumption
    | with_reducible apply badOpcodeEntry_ok
    | intro _ _ _
    | intro _ _
    | dsimp only
    | dsimp only [id]

theorem clearRingSource_ok {s0 : State} {g : Fun} {r : Nat} {s : State} (hok : Ok s0 s) :
    Ok s0 (clearRingSource g r s) := by
  unfold clearRingSource
  repeat' first
    | with_reducible assumption
    | (extract_lets +onlyGivenNames x
       first
       | (refine okStep (s0 := s0) (x := x) (fun hx => ?_) ?_; clear_value x; rotate_left; subst x)
       | subst x)
    | with_reducible apply runWeir_ok
    | with_reducible apply modInt_ok
    | (intro x hx; (repeat' split) <;> exact ⟨hx.delay, hx.masks⟩)
    | intro _ _ _
    | intro _ _
    | (simp only [ok_lit]; with_reducible refine OkLit.of ?_ ?_ ?_ ?_ ?_ ?_ ?_ ?_ ?_)
    | exact fun h => h
    | exact fun _ => rfl
    | exact Nat.le_refl _
    | dsimp only
    | dsimp only [id]

theorem createRing_ok {s0 : State} {g : Fun} {b : Bytes} {s : State} (hok : Ok s0 s) :
    Ok s0 (createRing g b s) := by
  unfold createRing
  repeat' first
    | with_reducible assumption
    | (extract_lets +onlyGivenNames x
       first
       | (refine okStep (s0 := s0) (x := x) (fun hx => ?_) ?_; clear_value x; rotate_left; subst x)
       | subst x)
    | with_reducible refine Ok.ite ?_ ?_
    | with_reducible apply decide__ok
    | with_reducible apply clearRingSource_ok
    | with_reducible apply setRing_ok
    | intro _ _ _
    | intro _ _
    | split
    | dsimp only
    | dsimp only [id]
    | (intro hl; simp [hl]; done)

theorem execCreateEventRing_ok {s0 : State} {g : Fun} {s : State} (hok : Ok s0 s) :
    OutOk s0 (execCreateEventRing g s) := by
  unfold execCreateEventRing
  refine ⟨_, rfl, ?_⟩
  repeat' first
    | with_reducible assumption
    | with_reducible apply withEntry_ok
    | with_reducible apply createRing_ok
    | intro _ _ _
    | intro _ _
    | dsimp only
    | dsimp only [id]

theorem destroyRing_ok {s0 : State} {g : Fun} {b : Bytes} {s : State} (hok : Ok s0 s) :
    Ok s0 (destroyRing g b s) := by
  unfold destroyRing
  repeat' first
    | with_reducible assumption
    | (extract_lets +onlyGivenNames x
       first
       | (refine okStep (s0 := s0) (x := x) (fun hx => ?_) ?_; clear_value x; rotate_left; subst x)
       | subst x)
    | with_reducible refine Ok.ite ?_ ?_
    | with_reducible apply decide__ok
    | with_reducible apply runWeir_ok
    | with_reducible apply modInt_ok
    | (intro x hx; (repeat' split) <;> exact ⟨hx.delay, hx.masks⟩)
    | intro _ _ _
    | intro _ _
    | split
    | (simp only [ok_lit]; with_reducible refine OkLit.of ?_ ?_ ?_ ?_ ?_ ?_ ?_ ?_ ?_)
    | exact fun h => h
    | exact fun _ => rfl
    | exact Nat.le_refl _
    | dsimp only
    | dsimp only [id]

theorem execDestroyEventRing_ok {s0 : State} {g : Fun} {s : State} (hok : Ok s0 s) :
    OutOk s0 (execDestroyEventRing g s) := by
  unfold execDestroyEventRing
  refine ⟨_, rfl, ?_⟩
  repeat' first
    | with_reducible assumption
    | with_reducible apply withEntry_ok
    | with_reducible apply destroyRing_ok
    | intro _ _ _
    | intro _ _
    | dsimp only
    | dsimp only [id]


/-! ### Machine/Contexts.lean -/

theorem takeCtxId_ok {s0 : State} {s : State} (hok : Ok s0 s) :
    Ok s0 (takeCtxId s) := by
  unfold takeCtxId
  repeat' first
    | with_reducible assumption
    | (extract_lets +onlyGivenNames x
       first
       | (refine okStep (s0 := s0) (x := x) (fun hx => ?_) ?_; clear_value x; rotate_left; subst x)
       | subst x)
    | with_reducible refine Ok.ite ?_ ?_
    | intro _ _ _
    | intro _ _
    | split
    | (simp only [ok_lit]; with_reducible refine OkLit.of ?_ ?_ ?_ ?_ ?_ ?_ ?_ ?_ ?_)
    | exact fun h => h
    | exact fun _ => rfl
    | exact Nat.le_refl _
    | dsimp only
    | dsimp only [id]

theorem addCtx_ok {s0 : State} {c : CtxId} {x : Ctx} {s : State} (hok : Ok s0 s) :
    Ok s0 (addCtx c x s) := by
  unfold addCtx
  repeat' first
    | with_reducible assumption
    | (extract_lets +onlyGivenNames x
       first
       | (refine okStep (s0 := s0) (x := x) (fun hx => ?_) ?_; clear_value x; rotate_left; subst x)
       | subst x)
    | with_reducible apply takeCtxId_ok
    | intro _ _ _
    | intro _ _
    | (simp only [ok_lit]; with_reducible refine OkLit.of ?_ ?_ ?_ ?_ ?_ ?_ ?_ ?_ ?_)
    | exact fun h => h
    | exact fun _ => rfl
    | exact Nat.le_refl _
    | dsimp only
    | dsimp only [id]

theorem rejectSchedule_ok {s0 : State} {g : Fun} {b : Bytes} {r : Nat} {s : State} (hok : Ok s0 s) :
    Ok s0 (rejectSchedule g b r s) := by
  unfold rejectSchedule
  repeat' first
    | with_reducible assumption
    | (extract_lets +onlyGivenNames x
       first
       | (refine okStep (s0 := s0) (x := x) (fun hx => ?_) ?_; clear_value x; rotate_left; subst x)
       | subst x)
    | with_reducible apply decide__ok
    | with_reducible apply modFn_ok
    | (intro x hx; (repeat' split) <;> refine ⟨?_, ?_, ?_, ?_⟩ <;> first | exact hx.cfg | exact hx.admin | exact hx.faultq | exact hx.int | exact CfgOk.init _ | exact AdminOk.init | exact FaultqOk.init | exact IntOk.init | exact ⟨hx.int.delay, hx.int.masks⟩)
    | intro _ _ _
    | intro _ _
    | (simp only [ok_lit]; with_reducible refine OkLit.of ?_ ?_ ?_ ?_ ?_ ?_ ?_ ?_ ?_)
    | exact fun h => h
    | exact fun _ => rfl
    | exact Nat.le_refl _
    | dsimp only
    | dsimp only [id]

theorem createFixed_ok {s0 : State} {g : Fun} {c : CtxId} {b : Bytes} {o : MemObj} {s : State} (hok : Ok s0 s) :
    Ok s0 (createFixed g c b o s) := by
  unfold createFixed
  repeat' first
    | with_reducible assumption
    | (extract_lets +onlyGivenNames x
       first
       | (refine okStep (s0 := s0) (x := x) (fun hx => ?_) ?_; clear_value x; rotate_left; subst x)
       | (refine okStep (s0 := s0) (x := x.1) (fun hx => ?_) ?_; clear_value x; rotate_left; subst x)
       | subst x)
    | with_reducible refine Ok.ite ?_ ?_
    | with_reducible apply gateSnoops_ok
    | with_reducible apply rejectSchedule_ok
    | with_reducible apply countWalk_ok
    | with_reducible apply decide__ok
    | with_reducible apply startMoraine_ok
    | with_reducible apply installLocked_ok
    | with_reducible apply addCtx_ok
    | with_reducible apply revokeWhere_ok
    | with_reducible refine Ok.ofPair ?_ (by with_reducible assumption)
    | intro _ _ _
    | intro _ _
    | split
    | (simp only [ok_lit]; with_reducible refine OkLit.of ?_ ?_ ?_ ?_ ?_ ?_ ?_ ?_ ?_)
    | exact fun h => h
    | exact fun _ => rfl
    | exact Nat.le_refl _
    | dsimp only
    | dsimp only [id]

theorem createCtx_ok {s0 : State} {g : Fun} {b : Bytes} {s : State} (hok : Ok s0 s) :
    Ok s0 (createCtx g b s) := by
  unfold createCtx
  repeat' first
    | with_reducible assumption
    | (extract_lets +onlyGivenNames x
       first
       | (refine okStep (s0 := s0) (x := x) (fun hx => ?_) ?_; clear_value x; rotate_left; subst x)
       | subst x)
    | with_reducible refine Ok.ite ?_ ?_
    | with_reducible apply decide__ok
    | with_reducible apply addCtx_ok
    | with_reducible apply createFixed_ok
    | with_reducible refine Ok.ofPair ?_ (by with_reducible assumption)
    | intro _ _ _
    | intro _ _
    | split
    | (simp only [ok_lit]; with_reducible refine OkLit.of ?_ ?_ ?_ ?_ ?_ ?_ ?_ ?_ ?_)
    | exact fun h => h
    | exact fun _ => rfl
    | exact Nat.le_refl _
    | dsimp only
    | dsimp only [id]
    | (intro hl; simp [hl]; done)

theorem execCreateContext_ok {s0 : State} {g : Fun} {s : State} (hok : Ok s0 s) :
    OutOk s0 (execCreateContext g s) := by
  unfold execCreateContext
  refine ⟨_, rfl, ?_⟩
  repeat' first
    | with_reducible assumption
    | with_reducible refine Ok.ite ?_ ?_
    | with_reducible apply withEntry_ok
    | with_reducible apply createCtx_ok
    | intro _ _ _
    | intro _ _
    | split
    | dsimp only
    | dsimp only [id]

theorem destroyCtx_ok {s0 : State} {g : Fun} {b : Bytes} {s : State} (hok : Ok s0 s) :
    Ok s0 (destroyCtx g b s) := by
  unfold destroyCtx
  repeat' first
    | with_reducible assumption
    | (extract_lets +onlyGivenNames x
       first
       | (refine okStep (s0 := s0) (x := x) (fun hx => ?_) ?_; clear_value x; rotate_left; subst x)
       | subst x)
    | with_reducible refine Ok.ite ?_ ?_
    | with_reducible apply decide__ok
    | with_reducible apply abortContext_ok
    | with_reducible apply dropTaken_ok
    | with_reducible refine Ok.ofPair ?_ (by with_reducible assumption)
    | intro _ _ _
    | intro _ _
    | split
    | (simp only [ok_lit]; with_reducible refine OkLit.of ?_ ?_ ?_ ?_ ?_ ?_ ?_ ?_ ?_)
    | exact fun h => h
    | exact fun _ => rfl
    | exact Nat.le_refl _
    | dsimp only
    | dsimp only [id]

theorem execDestroyContext_ok {s0 : State} {g : Fun} {s : State} (hok : Ok s0 s) :
    OutOk s0 (execDestroyContext g s) := by
  unfold execDestroyContext
  refine ⟨_, rfl, ?_⟩
  repeat' first
    | with_reducible assumption
    | with_reducible apply withEntry_ok
    | with_reducible apply destroyCtx_ok
    | intro _ _ _
    | intro _ _
    | dsimp only
    | dsimp only [id]

theorem execContextAbortComplete_ok {s0 : State} {c : CtxId} {s : State} (hok : Ok s0 s) :
    OutOk s0 (execContextAbortComplete c s) := by
  unfold execContextAbortComplete
  refine ⟨_, rfl, ?_⟩
  repeat' first
    | with_reducible assumption
    | with_reducible refine Ok.ite ?_ ?_
    | with_reducible apply destroyContext_ok
    | intro _ _ _
    | intro _ _
    | split
    | dsimp only
    | dsimp only [id]

theorem queryCtx_ok {s0 : State} {g : Fun} {b : Bytes} {s : State} (hok : Ok s0 s) :
    Ok s0 (queryCtx g b s) := by
  unfold queryCtx
  repeat' first
    | with_reducible assumption
    | (extract_lets +onlyGivenNames x
       first
       | (refine okStep (s0 := s0) (x := x) (fun hx => ?_) ?_; clear_value x; rotate_left; subst x)
       | subst x)
    | with_reducible refine Ok.ite ?_ ?_
    | with_reducible apply decide__ok
    | with_reducible apply hostWrite_ok
    | intro _ _ _
    | intro _ _
    | split
    | dsimp only
    | dsimp only [id]

theorem execQueryContext_ok {s0 : State} {g : Fun} {s : State} (hok : Ok s0 s) :
    OutOk s0 (execQueryContext g s) := by
  unfold execQueryContext
  refine ⟨_, rfl, ?_⟩
  repeat' first
    | with_reducible assumption
    | with_reducible apply withEntry_ok
    | with_reducible apply queryCtx_ok
    | intro _ _ _
    | intro _ _
    | dsimp only
    | dsimp only [id]


/-! ### Machine/MemObjects.lean -/

theorem addObj_ok {s0 : State} {o : MemObj} {s : State} (hok : Ok s0 s) :
    Ok s0 (addObj o s) := by
  unfold addObj
  repeat' first
    | with_reducible assumption
    | (extract_lets +onlyGivenNames x
       first
       | (refine okStep (s0 := s0) (x := x) (fun hx => ?_) ?_; clear_value x; rotate_left; subst x)
       | subst x)
    | intro _ _ _
    | intro _ _
    | (simp only [ok_lit]; with_reducible refine OkLit.of ?_ ?_ ?_ ?_ ?_ ?_ ?_ ?_ ?_)
    | exact fun h => h
    | exact fun _ => rfl
    | exact Nat.le_refl _
    | dsimp only
    | dsimp only [id]

theorem createObj_ok {s0 : State} {g : Fun} {b : Bytes} {s : State} (hok : Ok s0 s) :
    Ok s0 (createObj g b s) := by
  unfold createObj
  repeat' first
    | with_reducible assumption
    | (extract_lets +onlyGivenNames x
       first
       | (refine okStep (s0 := s0) (x := x) (fun hx => ?_) ?_; clear_value x; rotate_left; subst x)
       | subst x)
    | with_reducible refine Ok.ite ?_ ?_
    | with_reducible apply decide__ok
    | with_reducible apply addObj_ok
    | with_reducible refine Ok.ofPair ?_ (by with_reducible assumption)
    | intro _ _ _
    | intro _ _
    | split
    | (simp only [ok_lit]; with_reducible refine OkLit.of ?_ ?_ ?_ ?_ ?_ ?_ ?_ ?_ ?_)
    | exact fun h => h
    | exact fun _ => rfl
    | exact Nat.le_refl _
    | dsimp only
    | dsimp only [id]

theorem execCreateObject_ok {s0 : State} {g : Fun} {s : State} (hok : Ok s0 s) :
    OutOk s0 (execCreateObject g s) := by
  unfold execCreateObject
  refine ⟨_, rfl, ?_⟩
  repeat' first
    | with_reducible assumption
    | with_reducible apply withEntry_ok
    | with_reducible apply createObj_ok
    | intro _ _ _
    | intro _ _
    | dsimp only
    | dsimp only [id]

theorem freeObj_ok {s0 : State} {g : Fun} {b : Bytes} {s : State} (hok : Ok s0 s) :
    Ok s0 (freeObj g b s) := by
  unfold freeObj
  repeat' first
    | with_reducible assumption
    | (extract_lets +onlyGivenNames x
       first
       | (refine okStep (s0 := s0) (x := x) (fun hx => ?_) ?_; clear_value x; rotate_left; subst x)
       | subst x)
    | with_reducible refine Ok.ite ?_ ?_
    | with_reducible apply decide__ok
    | with_reducible apply freeStart_ok
    | with_reducible apply dropTaken_ok
    | with_reducible refine Ok.ofPair ?_ (by with_reducible assumption)
    | intro _ _ _
    | intro _ _
    | split
    | (simp only [ok_lit]; with_reducible refine OkLit.of ?_ ?_ ?_ ?_ ?_ ?_ ?_ ?_ ?_)
    | exact fun h => h
    | exact fun _ => rfl
    | exact Nat.le_refl _
    | dsimp only
    | dsimp only [id]

theorem execFreeObject_ok {s0 : State} {g : Fun} {s : State} (hok : Ok s0 s) :
    OutOk s0 (execFreeObject g s) := by
  unfold execFreeObject
  refine ⟨_, rfl, ?_⟩
  repeat' first
    | with_reducible assumption
    | with_reducible apply withEntry_ok
    | with_reducible apply freeObj_ok
    | intro _ _ _
    | intro _ _
    | dsimp only
    | dsimp only [id]

theorem execFreeObjectComplete_ok {s0 : State} {slot : Nat} {s : State} (hok : Ok s0 s) :
    OutOk s0 (execFreeObjectComplete slot s) := by
  unfold execFreeObjectComplete
  refine ⟨_, rfl, ?_⟩
  repeat' first
    | with_reducible assumption
    | with_reducible refine Ok.ite ?_ ?_
    | with_reducible apply freeFinish_ok
    | intro _ _ _
    | intro _ _
    | split
    | dsimp only
    | dsimp only [id]

theorem startGrantDrop_ok {s0 : State} {slot : Nat} {t : Fun} {r : AdminRef} {s : State} (hok : Ok s0 s) :
    Ok s0 (startGrantDrop slot t r s) := by
  unfold startGrantDrop
  repeat' first
    | with_reducible assumption
    | (extract_lets +onlyGivenNames x
       first
       | (refine okStep (s0 := s0) (x := x) (fun hx => ?_) ?_; clear_value x; rotate_left; subst x)
       | subst x)
    | with_reducible apply startScan_ok
    | with_reducible apply modObj_ok
    | intro _ _ _
    | intro _ _
    | (simp only [ok_lit]; with_reducible refine OkLit.of ?_ ?_ ?_ ?_ ?_ ?_ ?_ ?_ ?_)
    | exact fun h => h
    | exact fun _ => rfl
    | exact Nat.le_refl _
    | dsimp only
    | dsimp only [id]

theorem setGrant_ok {s0 : State} {slot : Nat} {t : Fun} {r : Rights} {s : State} (hok : Ok s0 s) :
    Ok s0 (setGrant slot t r s) := by
  unfold setGrant
  repeat' first
    | with_reducible assumption
    | (extract_lets +onlyGivenNames x
       first
       | (refine okStep (s0 := s0) (x := x) (fun hx => ?_) ?_; clear_value x; rotate_left; subst x)
       | (refine okStep (s0 := s0) (x := x.1) (fun hx => ?_) ?_; clear_value x; rotate_left; subst x)
       | subst x)
    | with_reducible apply modObj_ok
    | intro _ _ _
    | intro _ _
    | (simp only [ok_lit]; with_reducible refine OkLit.of ?_ ?_ ?_ ?_ ?_ ?_ ?_ ?_ ?_)
    | exact fun h => h
    | exact fun _ => rfl
    | exact Nat.le_refl _
    | dsimp only
    | dsimp only [id]

theorem grantObj_ok {s0 : State} {g : Fun} {b : Bytes} {s : State} (hok : Ok s0 s) :
    Ok s0 (grantObj g b s) := by
  unfold grantObj
  repeat' first
    | with_reducible assumption
    | (extract_lets +onlyGivenNames x
       first
       | (refine okStep (s0 := s0) (x := x) (fun hx => ?_) ?_; clear_value x; rotate_left; subst x)
       | subst x)
    | with_reducible refine Ok.ite ?_ ?_
    | with_reducible apply decide__ok
    | with_reducible apply setGrant_ok
    | with_reducible apply startGrantDrop_ok
    | with_reducible apply dropTaken_ok
    | with_reducible refine Ok.ofPair ?_ (by with_reducible assumption)
    | intro _ _ _
    | intro _ _
    | split
    | (simp only [ok_lit]; with_reducible refine OkLit.of ?_ ?_ ?_ ?_ ?_ ?_ ?_ ?_ ?_)
    | exact fun h => h
    | exact fun _ => rfl
    | exact Nat.le_refl _
    | dsimp only
    | dsimp only [id]
    | (intro hl; simp [hl]; done)

theorem execGrantObject_ok {s0 : State} {g : Fun} {s : State} (hok : Ok s0 s) :
    OutOk s0 (execGrantObject g s) := by
  unfold execGrantObject
  refine ⟨_, rfl, ?_⟩
  repeat' first
    | with_reducible assumption
    | with_reducible apply withEntry_ok
    | with_reducible apply grantObj_ok
    | intro _ _ _
    | intro _ _
    | dsimp only
    | dsimp only [id]

theorem revokeObj_ok {s0 : State} {g : Fun} {b : Bytes} {s : State} (hok : Ok s0 s) :
    Ok s0 (revokeObj g b s) := by
  unfold revokeObj
  repeat' first
    | with_reducible assumption
    | (extract_lets +onlyGivenNames x
       first
       | (refine okStep (s0 := s0) (x := x) (fun hx => ?_) ?_; clear_value x; rotate_left; subst x)
       | (refine okStep (s0 := s0) (x := x.1) (fun hx => ?_) ?_; clear_value x; rotate_left; subst x)
       | subst x)
    | with_reducible refine Ok.ite ?_ ?_
    | with_reducible apply decide__ok
    | with_reducible apply startGrantDrop_ok
    | with_reducible apply modObj_ok
    | with_reducible apply dropTaken_ok
    | with_reducible refine Ok.ofPair ?_ (by with_reducible assumption)
    | intro _ _ _
    | intro _ _
    | split
    | (simp only [ok_lit]; with_reducible refine OkLit.of ?_ ?_ ?_ ?_ ?_ ?_ ?_ ?_ ?_)
    | exact fun h => h
    | exact fun _ => rfl
    | exact Nat.le_refl _
    | dsimp only
    | dsimp only [id]

theorem execRevokeGrant_ok {s0 : State} {g : Fun} {s : State} (hok : Ok s0 s) :
    OutOk s0 (execRevokeGrant g s) := by
  unfold execRevokeGrant
  refine ⟨_, rfl, ?_⟩
  repeat' first
    | with_reducible assumption
    | with_reducible apply withEntry_ok
    | with_reducible apply revokeObj_ok
    | intro _ _ _
    | intro _ _
    | dsimp only
    | dsimp only [id]

theorem finishGrantDrop_ok {s0 : State} {slot : Nat} {t : Fun} {s : State} (hok : Ok s0 s) :
    Ok s0 (finishGrantDrop slot t s) := by
  unfold finishGrantDrop
  repeat' first
    | with_reducible assumption
    | (extract_lets +onlyGivenNames x
       first
       | (refine okStep (s0 := s0) (x := x) (fun hx => ?_) ?_; clear_value x; rotate_left; subst x)
       | (refine okStep (s0 := s0) (x := x.1) (fun hx => ?_) ?_; clear_value x; rotate_left; subst x)
       | subst x)
    | with_reducible apply foldState_ok
    | with_reducible apply adminDone_ok
    | with_reducible apply modObj_ok
    | with_reducible refine Ok.ofPair ?_ (by with_reducible assumption)
    | intro _ _ _
    | intro _ _
    | split
    | (simp only [ok_lit]; with_reducible refine OkLit.of ?_ ?_ ?_ ?_ ?_ ?_ ?_ ?_ ?_)
    | exact fun h => h
    | exact fun _ => rfl
    | exact Nat.le_refl _
    | dsimp only
    | dsimp only [id]

theorem execGrantDropComplete_ok {s0 : State} {slot : Nat} {t : Fun} {s : State} (hok : Ok s0 s) :
    OutOk s0 (execGrantDropComplete slot t s) := by
  unfold execGrantDropComplete
  refine ⟨_, rfl, ?_⟩
  repeat' first
    | with_reducible assumption
    | with_reducible refine Ok.ite ?_ ?_
    | with_reducible apply finishGrantDrop_ok
    | intro _ _ _
    | intro _ _
    | split
    | dsimp only
    | dsimp only [id]

theorem execFenceSignal_ok {s0 : State} {g : Fun} {h : U64} {word : Nat} {v : U64} {s : State} (hok : Ok s0 s) :
    OutOk s0 (execFenceSignal g h word v s) := by
  unfold execFenceSignal
  refine ⟨_, rfl, ?_⟩
  repeat' first
    | with_reducible assumption
    | (extract_lets +onlyGivenNames x
       first
       | (refine okStep (s0 := s0) (x := x) (fun hx => ?_) ?_; clear_value x; rotate_left; subst x)
       | subst x)
    | with_reducible refine Ok.ite ?_ ?_
    | with_reducible apply signalFence_ok
    | intro _ _ _
    | intro _ _
    | split
    | (simp only [ok_lit]; with_reducible refine OkLit.of ?_ ?_ ?_ ?_ ?_ ?_ ?_ ?_ ?_)
    | exact fun h => h
    | exact fun _ => rfl
    | exact Nat.le_refl _
    | dsimp only
    | dsimp only [id]

theorem releaseWait_ok {s0 : State} {c : CtxId} {s : State} (hok : Ok s0 s) :
    Ok s0 (releaseWait c s) := by
  unfold releaseWait
  repeat' first
    | with_reducible assumption
    | (extract_lets +onlyGivenNames x
       first
       | (refine okStep (s0 := s0) (x := x) (fun hx => ?_) ?_; clear_value x; rotate_left; subst x)
       | subst x)
    | with_reducible refine Ok.ite ?_ ?_
    | with_reducible apply faultCmd_ok
    | with_reducible apply countPackage_ok
    | with_reducible apply modCmd_ok
    | with_reducible refine Ok.ofPair ?_ (by with_reducible assumption)
    | intro _ _ _
    | intro _ _
    | split
    | (simp only [ok_lit]; with_reducible refine OkLit.of ?_ ?_ ?_ ?_ ?_ ?_ ?_ ?_ ?_)
    | exact fun h => h
    | exact fun _ => rfl
    | exact Nat.le_refl _
    | dsimp only
    | dsimp only [id]

theorem execFenceWaitRelease_ok {s0 : State} {c : CtxId} {s : State} (hok : Ok s0 s) :
    OutOk s0 (execFenceWaitRelease c s) := by
  unfold execFenceWaitRelease
  refine ⟨_, rfl, ?_⟩
  repeat' first
    | with_reducible assumption
    | with_reducible apply releaseWait_ok
    | intro _ _ _
    | intro _ _
    | dsimp only
    | dsimp only [id]

theorem writeMirror_ok {s0 : State} {slot word : Nat} {s : State} (hok : Ok s0 s) :
    Ok s0 (writeMirror slot word s) := by
  unfold writeMirror
  repeat' first
    | with_reducible assumption
    | (extract_lets +onlyGivenNames x
       first
       | (refine okStep (s0 := s0) (x := x) (fun hx => ?_) ?_; clear_value x; rotate_left; subst x)
       | (refine okStep (s0 := s0) (x := x.1) (fun hx => ?_) ?_; clear_value x; rotate_left; subst x)
       | subst x)
    | with_reducible refine Ok.ite ?_ ?_
    | with_reducible apply hostWrite_ok
    | with_reducible refine Ok.ofPair ?_ (by with_reducible assumption)
    | intro _ _ _
    | intro _ _
    | split
    | (simp only [ok_lit]; with_reducible refine OkLit.of ?_ ?_ ?_ ?_ ?_ ?_ ?_ ?_ ?_)
    | exact fun h => h
    | exact fun _ => rfl
    | exact Nat.le_refl _
    | dsimp only
    | dsimp only [id]

theorem execFenceMirrorWrite_ok {s0 : State} {slot word : Nat} {s : State} (hok : Ok s0 s) :
    OutOk s0 (execFenceMirrorWrite slot word s) := by
  unfold execFenceMirrorWrite
  refine ⟨_, rfl, ?_⟩
  repeat' first
    | with_reducible assumption
    | with_reducible apply writeMirror_ok
    | intro _ _ _
    | intro _ _
    | dsimp only
    | dsimp only [id]


/-! ### Machine/FixedRun.lean -/

theorem modFixed_ok {s0 : State} {c : CtxId} {f : FixedSt → FixedSt} {s : State} (hok : Ok s0 s) :
    Ok s0 (modFixed c f s) := by
  unfold modFixed
  repeat' first
    | with_reducible assumption
    | (extract_lets +onlyGivenNames x
       first
       | (refine okStep (s0 := s0) (x := x) (fun hx => ?_) ?_; clear_value x; rotate_left; subst x)
       | subst x)
    | with_reducible apply modCtx_ok
    | intro _ _ _
    | intro _ _
    | (simp only [ok_lit]; with_reducible refine OkLit.of ?_ ?_ ?_ ?_ ?_ ?_ ?_ ?_ ?_)
    | exact fun h => h
    | exact fun _ => rfl
    | exact Nat.le_refl _
    | dsimp only
    | dsimp only [id]
    | (intro hl; simp [hl]; done)

theorem evictBefore_ok {s0 : State} {c : CtxId} {runs : List (Nat × Nat × Nat)} {s : State} (hok : Ok s0 s) :
    Ok s0 (evictBefore c runs s) := by
  unfold evictBefore
  repeat' first
    | with_reducible assumption
    | with_reducible refine Ok.ite ?_ ?_
    | with_reducible apply foldState_ok
    | with_reducible apply mayEvictSpan_ok
    | intro _ _ _
    | intro _ _
    | split
    | dsimp only
    | dsimp only [id]

theorem noteLog_ok {s0 : State} {c : CtxId} {e : Bytes} {s : State} (hok : Ok s0 s) :
    Ok s0 (noteLog c e s) := by
  unfold noteLog
  repeat' first
    | with_reducible assumption
    | (extract_lets +onlyGivenNames x
       first
       | (refine okStep (s0 := s0) (x := x) (fun hx => ?_) ?_; clear_value x; rotate_left; subst x)
       | subst x)
    | with_reducible refine Ok.ite ?_ ?_
    | with_reducible apply modFixed_ok
    | intro _ _ _
    | intro _ _
    | split
    | (simp only [ok_lit]; with_reducible refine OkLit.of ?_ ?_ ?_ ?_ ?_ ?_ ?_ ?_ ?_)
    | exact fun h => h
    | exact fun _ => rfl
    | exact Nat.le_refl _
    | dsimp only
    | dsimp only [id]

theorem setMoraineQ_ok {s0 : State} {o : MemObj} {i v : Nat} {s : State} (hok : Ok s0 s) :
    Ok s0 (setMoraineQ o i v s) := by
  unfold setMoraineQ
  repeat' first
    | with_reducible assumption
    | with_reducible apply poolWrite_ok
    | intro _ _ _
    | intro _ _
    | dsimp only
    | dsimp only [id]

theorem setMoraineState_ok {s0 : State} {o : MemObj} {st : Nat} {s : State} (hok : Ok s0 s) :
    Ok s0 (setMoraineState o st s) := by
  unfold setMoraineState
  repeat' first
    | with_reducible assumption
    | with_reducible apply poolWrite_ok
    | intro _ _ _
    | intro _ _
    | dsimp only
    | dsimp only [id]

theorem appendEntry_ok {s0 : State} {c : CtxId} {o : MemObj} {e : Bytes} {s : State} (hok : Ok s0 s) :
    Ok s0 (appendEntry c o e s) := by
  unfold appendEntry
  repeat' first
    | with_reducible assumption
    | (extract_lets +onlyGivenNames x
       first
       | (refine okStep (s0 := s0) (x := x) (fun hx => ?_) ?_; clear_value x; rotate_left; subst x)
       | subst x)
    | with_reducible refine Ok.ite ?_ ?_
    | with_reducible apply setMoraineState_ok
    | with_reducible apply modFixed_ok
    | with_reducible apply poolWrite_ok
    | with_reducible apply setMoraineQ_ok
    | intro _ _ _
    | intro _ _
    | split
    | (simp only [ok_lit]; with_reducible refine OkLit.of ?_ ?_ ?_ ?_ ?_ ?_ ?_ ?_ ?_)
    | exact fun h => h
    | exact fun _ => rfl
    | exact Nat.le_refl _
    | dsimp only
    | dsimp only [id]
    | (intro hl; simp [hl]; done)

theorem appendEach_ok {s0 : State} {c : CtxId} {o : MemObj} {r0 : List Bytes} {s : State} (hok : Ok s0 s) :
    Ok s0 (appendEach c o r0 s) := by
  induction r0 generalizing s with
  | nil =>
    unfold appendEach
    repeat' first
      | with_reducible assumption
      | (extract_lets +onlyGivenNames x
         first
         | (refine okStep (s0 := s0) (x := x) (fun hx => ?_) ?_; clear_value x; rotate_left; subst x)
         | (refine okStep (s0 := s0) (x := x.1) (fun hx => ?_) ?_; clear_value x; rotate_left; subst x)
         | subst x)
      | with_reducible refine Ok.ite ?_ ?_
      | with_reducible apply modFixed_ok
      | with_reducible apply foldState_ok
      | with_reducible apply gateSnoops_ok
      | with_reducible apply appendEntry_ok
      | intro _ _ _
      | intro _ _
      | split
      | (simp only [ok_lit]; with_reducible refine OkLit.of ?_ ?_ ?_ ?_ ?_ ?_ ?_ ?_ ?_)
      | exact fun h => h
      | exact fun _ => rfl
      | exact Nat.le_refl _
      | dsimp only
      | dsimp only [id]
  | cons x r0 ih =>
    unfold appendEach
    repeat' first
      | with_reducible assumption
      | (extract_lets +onlyGivenNames x
         first
         | (refine okStep (s0 := s0) (x := x) (fun hx => ?_) ?_; clear_value x; rotate_left; subst x)
         | (refine okStep (s0 := s0) (x := x.1) (fun hx => ?_) ?_; clear_value x; rotate_left; subst x)
         | subst x)
      | with_reducible refine Ok.ite ?_ ?_
      | with_reducible apply ih
      | with_reducible apply modFixed_ok
      | with_reducible apply foldState_ok
      | with_reducible apply gateSnoops_ok
      | with_reducible apply appendEntry_ok
      | intro _ _ _
      | intro _ _
      | split
      | (simp only [ok_lit]; with_reducible refine OkLit.of ?_ ?_ ?_ ?_ ?_ ?_ ?_ ?_ ?_)
      | exact fun h => h
      | exact fun _ => rfl
      | exact Nat.le_refl _
      | dsimp only
      | dsimp only [id]

theorem appendLog_ok {s0 : State} {c : CtxId} {s : State} (hok : Ok s0 s) :
    Ok s0 (appendLog c s) := by
  unfold appendLog
  repeat' first
    | with_reducible assumption
    | (extract_lets +onlyGivenNames x
       first
       | (refine okStep (s0 := s0) (x := x) (fun hx => ?_) ?_; clear_value x; rotate_left; subst x)
       | subst x)
    | with_reducible apply appendEach_ok
    | with_reducible apply modFixed_ok
    | with_reducible refine Ok.ofPair ?_ (by with_reducible assumption)
    | intro _ _ _
    | intro _ _
    | split
    | (simp only [ok_lit]; with_reducible refine OkLit.of ?_ ?_ ?_ ?_ ?_ ?_ ?_ ?_ ?_)
    | exact fun h => h
    | exact fun _ => rfl
    | exact Nat.le_refl _
    | dsimp only
    | dsimp only [id]

theorem replayWrite_ok {s0 : State} {c : CtxId} {o : MemObj} {off : Nat} {b : Bytes} {s : State} (hok : Ok s0 s) :
    Ok s0 (replayWrite c o off b s) := by
  unfold replayWrite
  repeat' first
    | with_reducible assumption
    | (extract_lets +onlyGivenNames x
       first
       | (refine okStep (s0 := s0) (x := x) (fun hx => ?_) ?_; clear_value x; rotate_left; subst x)
       | subst x)
    | with_reducible refine Ok.ite ?_ ?_
    | with_reducible apply poolWrite_ok
    | with_reducible apply modFixed_ok
    | intro _ _ _
    | intro _ _
    | split
    | (simp only [ok_lit]; with_reducible refine OkLit.of ?_ ?_ ?_ ?_ ?_ ?_ ?_ ?_ ?_)
    | exact fun h => h
    | exact fun _ => rfl
    | exact Nat.le_refl _
    | dsimp only
    | dsimp only [id]

theorem flushEach_ok {s0 : State} {c : CtxId} {o : MemObj} {r0 : List (Nat × Bytes)} {s : State} (hok : Ok s0 s) :
    Ok s0 (flushEach c o r0 s) := by
  induction r0 generalizing s with
  | nil =>
    unfold flushEach
    repeat' first
      | with_reducible assumption
      | (extract_lets +onlyGivenNames x
         first
         | (refine okStep (s0 := s0) (x := x) (fun hx => ?_) ?_; clear_value x; rotate_left; subst x)
         | (refine okStep (s0 := s0) (x := x.1) (fun hx => ?_) ?_; clear_value x; rotate_left; subst x)
         | subst x)
      | with_reducible refine Ok.ite ?_ ?_
      | with_reducible apply modFixed_ok
      | with_reducible apply gateSnoops_ok
      | with_reducible apply poolWrite_ok
      | intro _ _ _
      | intro _ _
      | split
      | (simp only [ok_lit]; with_reducible refine OkLit.of ?_ ?_ ?_ ?_ ?_ ?_ ?_ ?_ ?_)
      | exact fun h => h
      | exact fun _ => rfl
      | exact Nat.le_refl _
      | dsimp only
      | dsimp only [id]
  | cons x r0 ih =>
    unfold flushEach
    repeat' first
      | with_reducible assumption
      | (extract_lets +onlyGivenNames x
         first
         | (refine okStep (s0 := s0) (x := x) (fun hx => ?_) ?_; clear_value x; rotate_left; subst x)
         | (refine okStep (s0 := s0) (x := x.1) (fun hx => ?_) ?_; clear_value x; rotate_left; subst x)
         | subst x)
      | with_reducible refine Ok.ite ?_ ?_
      | with_reducible apply ih
      | with_reducible apply modFixed_ok
      | with_reducible apply gateSnoops_ok
      | with_reducible apply poolWrite_ok
      | intro _ _ _
      | intro _ _
      | split
      | (simp only [ok_lit]; with_reducible refine OkLit.of ?_ ?_ ?_ ?_ ?_ ?_ ?_ ?_ ?_)
      | exact fun h => h
      | exact fun _ => rfl
      | exact Nat.le_refl _
      | dsimp only
      | dsimp only [id]

theorem flushLog_ok {s0 : State} {c : CtxId} {s : State} (hok : Ok s0 s) :
    Ok s0 (flushLog c s) := by
  unfold flushLog
  repeat' first
    | with_reducible assumption
    | (extract_lets +onlyGivenNames x
       first
       | (refine okStep (s0 := s0) (x := x) (fun hx => ?_) ?_; clear_value x; rotate_left; subst x)
       | subst x)
    | with_reducible apply flushEach_ok
    | with_reducible apply modFixed_ok
    | with_reducible refine Ok.ofPair ?_ (by with_reducible assumption)
    | intro _ _ _
    | intro _ _
    | split
    | (simp only [ok_lit]; with_reducible refine OkLit.of ?_ ?_ ?_ ?_ ?_ ?_ ?_ ?_ ?_)
    | exact fun h => h
    | exact fun _ => rfl
    | exact Nat.le_refl _
    | dsimp only
    | dsimp only [id]

theorem logSnoops_ok {s0 : State} {c : CtxId} {p : Nat × Nat} {s : State} (hok : Ok s0 s) :
    Ok s0 (logSnoops c p s) := by
  unfold logSnoops
  repeat' first
    | with_reducible assumption
    | with_reducible apply gateSnoops_ok
    | intro _ _ _
    | intro _ _
    | dsimp only
    | dsimp only [id]

theorem consumeEntry_ok {s0 : State} {c : CtxId} {o : MemObj} {s : State} (hok : Ok s0 s) :
    Ok s0 (consumeEntry c o s) := by
  unfold consumeEntry
  repeat' first
    | with_reducible assumption
    | (extract_lets +onlyGivenNames x
       first
       | (refine okStep (s0 := s0) (x := x) (fun hx => ?_) ?_; clear_value x; rotate_left; subst x)
       | subst x)
    | with_reducible refine Ok.ite ?_ ?_
    | with_reducible apply replayWrite_ok
    | with_reducible refine Ok.ofPair ?_ (by with_reducible assumption)
    | intro _ _ _
    | intro _ _
    | split
    | (simp only [ok_lit]; with_reducible refine OkLit.of ?_ ?_ ?_ ?_ ?_ ?_ ?_ ?_ ?_)
    | exact fun h => h
    | exact fun _ => rfl
    | exact Nat.le_refl _
    | dsimp only
    | dsimp only [id]
    | (intro hl; simp [hl]; done)

theorem diverge_ok {s0 : State} {c : CtxId} {o : MemObj} {seq : Nat} {s : State} (hok : Ok s0 s) :
    Ok s0 (diverge c o seq s) := by
  unfold diverge
  repeat' first
    | with_reducible assumption
    | (extract_lets +onlyGivenNames x
       first
       | (refine okStep (s0 := s0) (x := x) (fun hx => ?_) ?_; clear_value x; rotate_left; subst x)
       | subst x)
    | with_reducible apply clearCycleExact_ok
    | with_reducible apply modFixed_ok
    | with_reducible apply replayWrite_ok
    | intro _ _ _
    | intro _ _
    | (simp only [ok_lit]; with_reducible refine OkLit.of ?_ ?_ ?_ ?_ ?_ ?_ ?_ ?_ ?_)
    | exact fun h => h
    | exact fun _ => rfl
    | exact Nat.le_refl _
    | dsimp only
    | dsimp only [id]

theorem replayRead_ok {s0 : State} {c : CtxId} {w : ReplayWait} {s : State} (hok : Ok s0 s) :
    Ok s0 (replayRead c w s) := by
  unfold replayRead
  repeat' first
    | with_reducible assumption
    | (extract_lets +onlyGivenNames x
       first
       | (refine okStep (s0 := s0) (x := x) (fun hx => ?_) ?_; clear_value x; rotate_left; subst x)
       | subst x)
    | with_reducible refine Ok.ite ?_ ?_
    | with_reducible apply logSnoops_ok
    | with_reducible apply diverge_ok
    | with_reducible apply draw_ok
    | with_reducible apply modFixed_ok
    | with_reducible refine Ok.ofPair ?_ (by with_reducible assumption)
    | intro _ _ _
    | intro _ _
    | split
    | (simp only [ok_lit]; with_reducible refine OkLit.of ?_ ?_ ?_ ?_ ?_ ?_ ?_ ?_ ?_)
    | exact fun h => h
    | exact fun _ => rfl
    | exact Nat.le_refl _
    | dsimp only
    | dsimp only [id]

theorem replayHostRead_ok {s0 : State} {c : CtxId} {g : Fun} {use : ReadUse} {base : Nat} {pasid : BitVec 20} {have_ : List (Nat × Bytes)} {l : List (Nat × Nat × Nat)} {s : State} (hok : Ok s0 s) :
    Ok s0 (replayHostRead c g use base pasid have_ l s) := by
  unfold replayHostRead
  repeat' first
    | with_reducible assumption
    | (extract_lets +onlyGivenNames x
       first
       | (refine okStep (s0 := s0) (x := x) (fun hx => ?_) ?_; clear_value x; rotate_left; subst x)
       | (refine okStep (s0 := s0) (x := x.1) (fun hx => ?_) ?_; clear_value x; rotate_left; subst x)
       | subst x)
    | with_reducible refine Ok.ite ?_ ?_
    | with_reducible apply foldState_ok
    | with_reducible apply replayRead_ok
    | with_reducible apply hostRead_ok
    | intro _ _ _
    | intro _ _
    | split
    | dsimp only
    | dsimp only [id]

theorem ctxHostRead_ok {s0 : State} {c : CtxId} {g : Fun} {use : ReadUse} {a base n : Nat} {pasid : BitVec 20} {have_ : List (Nat × Bytes)} {s : State} (hok : Ok s0 s) :
    Ok s0 (ctxHostRead c g use a base n pasid have_ s) := by
  unfold ctxHostRead
  repeat' first
    | with_reducible assumption
    | with_reducible refine Ok.ite ?_ ?_
    | with_reducible apply replayHostRead_ok
    | with_reducible apply hostRead_ok
    | intro _ _ _
    | intro _ _
    | split
    | dsimp only
    | dsimp only [id]

theorem giveRead_ok {s0 : State} {use : ReadUse} {off : Nat} {b : Bytes} {s : State} (hok : Ok s0 s) :
    Ok s0 (giveRead use off b s) := by
  unfold giveRead
  repeat' first
    | with_reducible assumption
    | (extract_lets +onlyGivenNames x
       first
       | (refine okStep (s0 := s0) (x := x) (fun hx => ?_) ?_; clear_value x; rotate_left; subst x)
       | subst x)
    | with_reducible refine Ok.ite ?_ ?_
    | with_reducible apply modCmd_ok
    | with_reducible apply issueImage_ok
    | with_reducible refine Ok.ofPair ?_ (by with_reducible assumption)
    | intro _ _ _
    | intro _ _
    | split
    | (simp only [ok_lit]; with_reducible refine OkLit.of ?_ ?_ ?_ ?_ ?_ ?_ ?_ ?_ ?_)
    | exact fun hx => memWrite_wf _ hx _
    | exact fun h => h
    | exact fun _ => rfl
    | exact Nat.le_refl _
    | dsimp only
    | dsimp only [id]
    | (intro hl; simp [hl]; done)


/-! ### Machine/Fetch.lean -/

theorem acceptDoorbell_ok {s0 : State} {c : CtxId} {v : U64} {s : State} (hok : Ok s0 s) :
    Ok s0 (acceptDoorbell c v s) := by
  unfold acceptDoorbell
  repeat' first
    | with_reducible assumption
    | (extract_lets +onlyGivenNames x
       first
       | (refine okStep (s0 := s0) (x := x) (fun hx => ?_) ?_; clear_value x; rotate_left; subst x)
       | subst x)
    | with_reducible apply noteLog_ok
    | with_reducible apply modCtx_ok
    | intro _ _ _
    | intro _ _
    | (simp only [ok_lit]; with_reducible refine OkLit.of ?_ ?_ ?_ ?_ ?_ ?_ ?_ ?_ ?_)
    | exact fun h => h
    | exact fun _ => rfl
    | exact Nat.le_refl _
    | dsimp only
    | dsimp only [id]

theorem takeDoorbell_ok {s0 : State} {c : CtxId} {v : U64} {s : State} (hok : Ok s0 s) :
    Ok s0 (takeDoorbell c v s) := by
  unfold takeDoorbell
  repeat' first
    | with_reducible assumption
    | (extract_lets +onlyGivenNames x
       first
       | (refine okStep (s0 := s0) (x := x) (fun hx => ?_) ?_; clear_value x; rotate_left; subst x)
       | subst x)
    | with_reducible refine Ok.ite ?_ ?_
    | with_reducible apply acceptDoorbell_ok
    | with_reducible apply loseContext_ok
    | with_reducible apply countFn_ok
    | with_reducible refine Ok.ofPair ?_ (by with_reducible assumption)
    | intro _ _ _
    | intro _ _
    | split
    | (simp only [ok_lit]; with_reducible refine OkLit.of ?_ ?_ ?_ ?_ ?_ ?_ ?_ ?_ ?_)
    | exact fun h => h
    | exact fun _ => rfl
    | exact Nat.le_refl _
    | dsimp only
    | dsimp only [id]

theorem sluice_ok {s0 : State} {g : Fun} {slot : Nat} {v : U64} {s : State} (hok : Ok s0 s) :
    Ok s0 (sluice g slot v s) := by
  unfold sluice
  repeat' first
    | with_reducible assumption
    | (extract_lets +onlyGivenNames x
       first
       | (refine okStep (s0 := s0) (x := x) (fun hx => ?_) ?_; clear_value x; rotate_left; subst x)
       | subst x)
    | with_reducible refine Ok.ite ?_ ?_
    | with_reducible apply countFn_ok
    | with_reducible apply takeDoorbell_ok
    | with_reducible refine Ok.ofPair ?_ (by with_reducible assumption)
    | intro _ _ _
    | intro _ _
    | split
    | (simp only [ok_lit]; with_reducible refine OkLit.of ?_ ?_ ?_ ?_ ?_ ?_ ?_ ?_ ?_)
    | exact fun h => h
    | exact fun _ => rfl
    | exact Nat.le_refl _
    | dsimp only
    | dsimp only [id]

theorem doorbellWrite_ok {s0 : State} {g : Fun} {offset size : Nat} {allEnabled poisoned : Bool} {v : U64} {s : State} (hok : Ok s0 s) :
    Ok s0 (doorbellWrite g offset size allEnabled poisoned v s) := by
  unfold doorbellWrite
  repeat' first
    | with_reducible assumption
    | with_reducible refine Ok.ite ?_ ?_
    | with_reducible apply countFn_ok
    | with_reducible apply unsupportedRequest_ok
    | with_reducible apply barWrite_ok
    | with_reducible apply poisonedTlp_ok
    | with_reducible apply sluice_ok
    | intro _ _ _
    | intro _ _
    | split
    | dsimp only
    | dsimp only [id]
    | (intro hl; simp [hl]; done)

theorem execDoorbell_ok {s0 : State} {g : Fun} {offset size : Nat} {allEnabled poisoned : Bool} {v : U64} {s : State} (hok : Ok s0 s) :
    OutOk s0 (execDoorbell g offset size allEnabled poisoned v s) := by
  unfold execDoorbell
  refine ⟨_, rfl, ?_⟩
  repeat' first
    | with_reducible assumption
    | with_reducible apply doorbellWrite_ok
    | intro _ _ _
    | intro _ _
    | dsimp only
    | dsimp only [id]

theorem waitEntry_ok {s0 : State} {p : Port} {s : State} (hok : Ok s0 s) :
    Ok s0 (waitEntry p s) := by
  unfold waitEntry
  repeat' first
    | with_reducible assumption
    | (extract_lets +onlyGivenNames x
       first
       | (refine okStep (s0 := s0) (x := x) (fun hx => ?_) ?_; clear_value x; rotate_left; subst x)
       | subst x)
    | with_reducible refine Ok.ite ?_ ?_
    | intro _ _ _
    | intro _ _
    | split
    | (simp only [ok_lit]; with_reducible refine OkLit.of ?_ ?_ ?_ ?_ ?_ ?_ ?_ ?_ ?_)
    | exact fun h => h
    | exact fun _ => rfl
    | exact Nat.le_refl _
    | dsimp only
    | dsimp only [id]

theorem takeEntryTurn_ok {s0 : State} {p : Port} {s : State} (hok : Ok s0 s) :
    Ok s0 (takeEntryTurn p s) := by
  unfold takeEntryTurn
  repeat' first
    | with_reducible assumption
    | (extract_lets +onlyGivenNames x
       first
       | (refine okStep (s0 := s0) (x := x) (fun hx => ?_) ?_; clear_value x; rotate_left; subst x)
       | subst x)
    | with_reducible refine Ok.ite ?_ ?_
    | intro _ _ _
    | intro _ _
    | split
    | (simp only [ok_lit]; with_reducible refine OkLit.of ?_ ?_ ?_ ?_ ?_ ?_ ?_ ?_ ?_)
    | exact fun h => h
    | exact fun _ => rfl
    | exact Nat.le_refl _
    | dsimp only
    | dsimp only [id]

theorem advanceHead_ok {s0 : State} {c : CtxId} {n : Nat} {s : State} (hok : Ok s0 s) :
    Ok s0 (advanceHead c n s) := by
  unfold advanceHead
  repeat' first
    | with_reducible assumption
    | (extract_lets +onlyGivenNames x
       first
       | (refine okStep (s0 := s0) (x := x) (fun hx => ?_) ?_; clear_value x; rotate_left; subst x)
       | subst x)
    | with_reducible apply modCtx_ok
    | intro _ _ _
    | intro _ _
    | (simp only [ok_lit]; with_reducible refine OkLit.of ?_ ?_ ?_ ?_ ?_ ?_ ?_ ?_ ?_)
    | exact fun h => h
    | exact fun _ => rfl
    | exact Nat.le_refl _
    | dsimp only
    | dsimp only [id]

theorem entryFails_ok {s0 : State} {x : Cmd} {k : Nat} {st : CStatus} {va : Nat} {s : State} (hok : Ok s0 s) :
    Ok s0 (entryFails x k st va s) := by
  unfold entryFails
  repeat' first
    | with_reducible assumption
    | (extract_lets +onlyGivenNames x
       first
       | (refine okStep (s0 := s0) (x := x) (fun hx => ?_) ?_; clear_value x; rotate_left; subst x)
       | subst x)
    | with_reducible refine Ok.ite ?_ ?_
    | with_reducible apply countLateFault_ok
    | with_reducible apply advanceHead_ok
    | with_reducible apply faultCmd_ok
    | intro _ _ _
    | intro _ _
    | split
    | dsimp only
    | dsimp only [id]

theorem askEntry_ok {s0 : State} {c : CtxId} {g : Fun} {a : Nat} {pasid : BitVec 20} {s : State} (hok : Ok s0 s) :
    Ok s0 (askEntry c g a pasid s) := by
  unfold askEntry
  repeat' first
    | with_reducible assumption
    | (extract_lets +onlyGivenNames x
       first
       | (refine okStep (s0 := s0) (x := x) (fun hx => ?_) ?_; clear_value x; rotate_left; subst x)
       | subst x)
    | with_reducible refine Ok.ite ?_ ?_
    | with_reducible apply ctxHostRead_ok
    | with_reducible apply atsAsk_ok
    | intro _ _ _
    | intro _ _
    | split
    | dsimp only
    | dsimp only [id]

theorem startEntry_ok {s0 : State} {x : Cmd} {k : Nat} {s : State} (hok : Ok s0 s) :
    Ok s0 (startEntry x k s) := by
  unfold startEntry
  repeat' first
    | with_reducible assumption
    | (extract_lets +onlyGivenNames x
       first
       | (refine okStep (s0 := s0) (x := x) (fun hx => ?_) ?_; clear_value x; rotate_left; subst x)
       | subst x)
    | with_reducible refine Ok.ite ?_ ?_
    | with_reducible apply modCmd_ok
    | with_reducible apply translate_ok
    | with_reducible apply entryFails_ok
    | with_reducible apply askEntry_ok
    | with_reducible refine Ok.ofPair ?_ (by with_reducible assumption)
    | intro _ _ _
    | intro _ _
    | split
    | (simp only [ok_lit]; with_reducible refine OkLit.of ?_ ?_ ?_ ?_ ?_ ?_ ?_ ?_ ?_)
    | exact fun h => h
    | exact fun _ => rfl
    | exact Nat.le_refl _
    | dsimp only
    | dsimp only [id]

theorem fetchFrom_ok {s0 : State} {p : Port} {c : CtxId} {x : Ctx} {s : State} (hok : Ok s0 s) :
    Ok s0 (fetchFrom p c x s) := by
  unfold fetchFrom
  repeat' first
    | with_reducible assumption
    | (extract_lets +onlyGivenNames x
       first
       | (refine okStep (s0 := s0) (x := x) (fun hx => ?_) ?_; clear_value x; rotate_left; subst x)
       | subst x)
    | with_reducible apply modPort_ok
    | with_reducible apply startEntry_ok
    | with_reducible apply takeEntryTurn_ok
    | with_reducible refine Ok.ofPair ?_ (by with_reducible assumption)
    | intro _ _ _
    | intro _ _
    | split
    | (simp only [ok_lit]; with_reducible refine OkLit.of ?_ ?_ ?_ ?_ ?_ ?_ ?_ ?_ ?_)
    | exact fun h => h
    | exact fun _ => rfl
    | exact Nat.le_refl _
    | dsimp only
    | dsimp only [id]

theorem fetchTurn_ok {s0 : State} {p : Port} {s : State} (hok : Ok s0 s) :
    Ok s0 (fetchTurn p s) := by
  unfold fetchTurn
  repeat' first
    | with_reducible assumption
    | (extract_lets +onlyGivenNames x
       first
       | (refine okStep (s0 := s0) (x := x) (fun hx => ?_) ?_; clear_value x; rotate_left; subst x)
       | subst x)
    | with_reducible refine Ok.ite ?_ ?_
    | with_reducible apply waitEntry_ok
    | with_reducible apply fetchFrom_ok
    | with_reducible refine Ok.ofPair ?_ (by with_reducible assumption)
    | intro _ _ _
    | intro _ _
    | split
    | (simp only [ok_lit]; with_reducible refine OkLit.of ?_ ?_ ?_ ?_ ?_ ?_ ?_ ?_ ?_)
    | exact fun h => h
    | exact fun _ => rfl
    | exact Nat.le_refl _
    | dsimp only
    | dsimp only [id]

theorem execCommandFetch_ok {s0 : State} {p : Port} {s : State} (hok : Ok s0 s) :
    OutOk s0 (execCommandFetch p s) := by
  unfold execCommandFetch
  refine ⟨_, rfl, ?_⟩
  repeat' first
    | with_reducible assumption
    | with_reducible apply fetchTurn_ok
    | intro _ _ _
    | intro _ _
    | dsimp only
    | dsimp only [id]

theorem fetched_ok {s0 : State} {x : Cmd} {s : State} (hok : Ok s0 s) :
    Ok s0 (fetched x s) := by
  unfold fetched
  repeat' first
    | with_reducible assumption
    | (extract_lets +onlyGivenNames x
       first
       | (refine okStep (s0 := s0) (x := x) (fun hx => ?_) ?_; clear_value x; rotate_left; subst x)
       | subst x)
    | with_reducible refine Ok.ite ?_ ?_
    | with_reducible apply advanceHead_ok
    | with_reducible apply modCmd_ok
    | with_reducible refine Ok.ofPair ?_ (by with_reducible assumption)
    | intro _ _ _
    | intro _ _
    | split
    | (simp only [ok_lit]; with_reducible refine OkLit.of ?_ ?_ ?_ ?_ ?_ ?_ ?_ ?_ ?_)
    | exact fun h => h
    | exact fun _ => rfl
    | exact Nat.le_refl _
    | dsimp only
    | dsimp only [id]

theorem takeQueueEntry_ok {s0 : State} {x : Cmd} {k : Nat} {b : Bytes} {s : State} (hok : Ok s0 s) :
    Ok s0 (takeQueueEntry x k b s) := by
  unfold takeQueueEntry
  repeat' first
    | with_reducible assumption
    | (extract_lets +onlyGivenNames x
       first
       | (refine okStep (s0 := s0) (x := x) (fun hx => ?_) ?_; clear_value x; rotate_left; subst x)
       | subst x)
    | with_reducible refine Ok.ite ?_ ?_
    | with_reducible apply modCmd_ok
    | with_reducible apply fetched_ok
    | with_reducible apply startEntry_ok
    | with_reducible refine Ok.ofPair ?_ (by with_reducible assumption)
    | intro _ _ _
    | intro _ _
    | split
    | (simp only [ok_lit]; with_reducible refine OkLit.of ?_ ?_ ?_ ?_ ?_ ?_ ?_ ?_ ?_)
    | exact fun h => h
    | exact fun _ => rfl
    | exact Nat.le_refl _
    | dsimp only
    | dsimp only [id]

theorem entryArrives_ok {s0 : State} {c : CtxId} {s : State} (hok : Ok s0 s) :
    Ok s0 (entryArrives c s) := by
  unfold entryArrives
  repeat' first
    | with_reducible assumption
    | (extract_lets +onlyGivenNames x
       first
       | (refine okStep (s0 := s0) (x := x) (fun hx => ?_) ?_; clear_value x; rotate_left; subst x)
       | subst x)
    | with_reducible refine Ok.ite ?_ ?_
    | with_reducible apply gateSnoops_ok
    | with_reducible apply entryFails_ok
    | with_reducible apply countPackage_ok
    | with_reducible apply takeQueueEntry_ok
    | with_reducible apply countFn_ok
    | with_reducible apply askEntry_ok
    | with_reducible apply startEntry_ok
    | with_reducible refine Ok.ofPair ?_ (by with_reducible assumption)
    | intro _ _ _
    | intro _ _
    | split
    | (simp only [ok_lit]; with_reducible refine OkLit.of ?_ ?_ ?_ ?_ ?_ ?_ ?_ ?_ ?_)
    | exact fun h => h
    | exact fun _ => rfl
    | exact Nat.le_refl _
    | dsimp only
    | dsimp only [id]

theorem execCommandEntryArrival_ok {s0 : State} {c : CtxId} {s : State} (hok : Ok s0 s) :
    OutOk s0 (execCommandEntryArrival c s) := by
  unfold execCommandEntryArrival
  refine ⟨_, rfl, ?_⟩
  repeat' first
    | with_reducible assumption
    | with_reducible apply entryArrives_ok
    | intro _ _ _
    | intro _ _
    | dsimp only
    | dsimp only [id]


/-! ### Machine/Units.lean -/

theorem rewriteMap_ok {s0 : State} {s : State} (hok : Ok s0 s) :
    Ok s0 (rewriteMap s) := by
  unfold rewriteMap
  repeat' first
    | with_reducible assumption
    | (extract_lets +onlyGivenNames x
       first
       | (refine okStep (s0 := s0) (x := x) (fun hx => ?_) ?_; clear_value x; rotate_left; subst x)
       | subst x)
    | intro _ _ _
    | intro _ _
    | (simp only [ok_lit]; with_reducible refine OkLit.of ?_ ?_ ?_ ?_ ?_ ?_ ?_ ?_ ?_)
    | exact fun h => h
    | exact fun _ => rfl
    | exact Nat.le_refl _
    | dsimp only
    | dsimp only [id]

theorem mapChanged_ok {s0 : State} {s : State} (hok : Ok s0 s) :
    Ok s0 (mapChanged s) := by
  unfold mapChanged
  repeat' first
    | with_reducible assumption
    | with_reducible refine Ok.ite ?_ ?_
    | with_reducible apply rewriteMap_ok
    | intro _ _ _
    | intro _ _
    | split
    | dsimp only
    | dsimp only [id]

theorem abandonMode_ok {s0 : State} {unit : Nat} {s : State} (hok : Ok s0 s) :
    Ok s0 (abandonMode unit s) := by
  unfold abandonMode
  repeat' first
    | with_reducible assumption
    | (extract_lets +onlyGivenNames x
       first
       | (refine okStep (s0 := s0) (x := x) (fun hx => ?_) ?_; clear_value x; rotate_left; subst x)
       | subst x)
    | with_reducible apply foldState_ok
    | with_reducible apply emit_ok
    | intro _ _ _
    | intro _ _
    | (simp only [ok_lit]; with_reducible refine OkLit.of ?_ ?_ ?_ ?_ ?_ ?_ ?_ ?_ ?_)
    | exact fun h => h
    | exact fun _ => rfl
    | exact Nat.le_refl _
    | dsimp only
    | dsimp only [id]

theorem loseOnUnit_ok {s0 : State} {clusters : List Nat} {engine : Option Engine} {i : ErrInfo} {s : State} (hok : Ok s0 s) :
    Ok s0 (loseOnUnit clusters engine i s) := by
  unfold loseOnUnit
  repeat' first
    | with_reducible assumption
    | (extract_lets +onlyGivenNames x
       first
       | (refine okStep (s0 := s0) (x := x) (fun hx => ?_) ?_; clear_value x; rotate_left; subst x)
       | subst x)
    | with_reducible apply foldState_ok
    | with_reducible apply loseContext_ok
    | with_reducible apply raiseWith_ok
    | intro _ _ _
    | intro _ _
    | dsimp only
    | dsimp only [id]
    | (intro hl; simp [hl]; done)

theorem endPartsOf_ok {s0 : State} {clusters : List Nat} {s : State} (hok : Ok s0 s) :
    Ok s0 (endPartsOf clusters s) := by
  unfold endPartsOf
  repeat' first
    | with_reducible assumption
    | (extract_lets +onlyGivenNames x
       first
       | (refine okStep (s0 := s0) (x := x) (fun hx => ?_) ?_; clear_value x; rotate_left; subst x)
       | subst x)
    | with_reducible refine Ok.ite ?_ ?_
    | intro _ _ _
    | intro _ _
    | split
    | (simp only [ok_lit]; with_reducible refine OkLit.of ?_ ?_ ?_ ?_ ?_ ?_ ?_ ?_ ?_)
    | exact fun h => h
    | exact fun _ => rfl
    | exact Nat.le_refl _
    | dsimp only
    | dsimp only [id]
    | (intro hl; simp [hl]; done)

theorem applyLate_ok {s0 : State} {n : Nat} {s : State} (hok : Ok s0 s) :
    Ok s0 (applyLate n s) := by
  unfold applyLate
  repeat' first
    | with_reducible assumption
    | (extract_lets +onlyGivenNames x
       first
       | (refine okStep (s0 := s0) (x := x) (fun hx => ?_) ?_; clear_value x; rotate_left; subst x)
       | subst x)
    | with_reducible refine Ok.ite ?_ ?_
    | intro _ _ _
    | intro _ _
    | split
    | (simp only [ok_lit]; with_reducible refine OkLit.of ?_ ?_ ?_ ?_ ?_ ?_ ?_ ?_ ?_)
    | exact fun h => h
    | exact fun _ => rfl
    | exact Nat.le_refl _
    | dsimp only
    | dsimp only [id]

theorem dropLeasesOf_ok {s0 : State} {clusters : List Nat} {s : State} (hok : Ok s0 s) :
    Ok s0 (dropLeasesOf clusters s) := by
  unfold dropLeasesOf
  repeat' first
    | with_reducible assumption
    | (extract_lets +onlyGivenNames x
       first
       | (refine okStep (s0 := s0) (x := x) (fun hx => ?_) ?_; clear_value x; rotate_left; subst x)
       | subst x)
    | with_reducible refine Ok.ite ?_ ?_
    | with_reducible apply foldState_ok
    | with_reducible apply countPackage_ok
    | with_reducible apply emit_ok
    | with_reducible apply leasesEnded_ok
    | intro _ _ _
    | intro _ _
    | split
    | (simp only [ok_lit]; with_reducible refine OkLit.of ?_ ?_ ?_ ?_ ?_ ?_ ?_ ?_ ?_)
    | exact fun h => h
    | exact fun _ => rfl
    | exact Nat.le_refl _
    | dsimp only
    | dsimp only [id]

theorem noteFenced_ok {s0 : State} {ns : List Nat} {s : State} (hok : Ok s0 s) :
    Ok s0 (noteFenced ns s) := by
  unfold noteFenced
  repeat' first
    | with_reducible assumption
    | (extract_lets +onlyGivenNames x
       first
       | (refine okStep (s0 := s0) (x := x) (fun hx => ?_) ?_; clear_value x; rotate_left; subst x)
       | (refine okStep (s0 := s0) (x := x.1) (fun hx => ?_) ?_; clear_value x; rotate_left; subst x)
       | subst x)
    | intro _ _ _
    | intro _ _
    | (simp only [ok_lit]; with_reducible refine OkLit.of ?_ ?_ ?_ ?_ ?_ ?_ ?_ ?_ ?_)
    | exact fun h => h
    | exact fun _ => rfl
    | exact Nat.le_refl _
    | dsimp only
    | dsimp only [id]
    | (intro hl; simp [hl]; done)

theorem fenceClusters_ok {s0 : State} {ns : List Nat} {i : ErrInfo} {s : State} (hok : Ok s0 s) :
    Ok s0 (fenceClusters ns i s) := by
  unfold fenceClusters
  repeat' first
    | with_reducible assumption
    | (extract_lets +onlyGivenNames x
       first
       | (refine okStep (s0 := s0) (x := x) (fun hx => ?_) ?_; clear_value x; rotate_left; subst x)
       | subst x)
    | with_reducible refine Ok.ite ?_ ?_
    | with_reducible apply loseOnUnit_ok
    | with_reducible apply endPartsOf_ok
    | with_reducible apply dropLeasesOf_ok
    | with_reducible apply abandonMode_ok
    | with_reducible apply mapChanged_ok
    | with_reducible apply noteFenced_ok
    | with_reducible refine Ok.ofPair ?_ (by with_reducible assumption)
    | intro _ _ _
    | intro _ _
    | split
    | (simp only [ok_lit]; with_reducible refine OkLit.of ?_ ?_ ?_ ?_ ?_ ?_ ?_ ?_ ?_)
    | exact fun h => h
    | exact fun _ => rfl
    | exact Nat.le_refl _
    | dsimp only
    | dsimp only [id]
    | (intro hl; simp [hl]; done)

theorem fenceEngine_ok {s0 : State} {e : Engine} {s : State} (hok : Ok s0 s) :
    Ok s0 (fenceEngine e s) := by
  unfold fenceEngine
  repeat' first
    | with_reducible assumption
    | (extract_lets +onlyGivenNames x
       first
       | (refine okStep (s0 := s0) (x := x) (fun hx => ?_) ?_; clear_value x; rotate_left; subst x)
       | subst x)
    | with_reducible refine Ok.ite ?_ ?_
    | with_reducible apply loseOnUnit_ok
    | with_reducible apply mapChanged_ok
    | with_reducible refine Ok.ofPair ?_ (by with_reducible assumption)
    | intro _ _ _
    | intro _ _
    | split
    | (simp only [ok_lit]; with_reducible refine OkLit.of ?_ ?_ ?_ ?_ ?_ ?_ ?_ ?_ ?_)
    | exact fun h => h
    | exact fun _ => rfl
    | exact Nat.le_refl _
    | dsimp only
    | dsimp only [id]
    | (intro hl; simp [hl]; done)

theorem fenceUnit_ok {s0 : State} {u : FailUnit} {s : State} (hok : Ok s0 s) :
    Ok s0 (fenceUnit u s) := by
  unfold fenceUnit
  repeat' first
    | with_reducible assumption
    | (extract_lets +onlyGivenNames x
       first
       | (refine okStep (s0 := s0) (x := x) (fun hx => ?_) ?_; clear_value x; rotate_left; subst x)
       | subst x)
    | with_reducible apply fenceClusters_ok
    | with_reducible apply fenceEngine_ok
    | with_reducible refine Ok.ofPair ?_ (by with_reducible assumption)
    | intro _ _ _
    | intro _ _
    | split
    | (simp only [ok_lit]; with_reducible refine OkLit.of ?_ ?_ ?_ ?_ ?_ ?_ ?_ ?_ ?_)
    | exact fun h => h
    | exact fun _ => rfl
    | exact Nat.le_refl _
    | dsimp only
    | dsimp only [id]
    | (intro hl; simp [hl]; done)


/-! ### Machine/Reduce.lean -/

theorem poolReduce_ok {s0 : State} {ty op a : Nat} {src : Bytes} {through : Bool} {s : State} (hok : Ok s0 s) :
    Ok s0 (poolReduce ty op a src through s) := by
  unfold poolReduce
  repeat' first
    | with_reducible assumption
    | with_reducible refine Ok.ite ?_ ?_
    | with_reducible apply foldState_ok
    | with_reducible apply countPackage_ok
    | with_reducible apply writeLine_ok
    | intro _ _ _
    | intro _ _
    | split
    | dsimp only
    | dsimp only [id]

theorem reduceFence_ok {s0 : State} {g : Fun} {c : Option CtxId} {o : MemObj} {a : Nat} {src : Bytes} {s : State} (hok : Ok s0 s) :
    Ok s0 (reduceFence g c o a src s) := by
  unfold reduceFence
  repeat' first
    | with_reducible assumption
    | with_reducible apply foldState_ok
    | with_reducible apply signalFence_ok
    | intro _ _ _
    | intro _ _
    | dsimp only
    | dsimp only [id]

theorem foldAcc_ok {s0 : State} {c : CtxId} {k : Nat} {t : Bytes} {s : State} (hok : Ok s0 s) :
    Ok s0 (foldAcc c k t s) := by
  unfold foldAcc
  repeat' first
    | with_reducible assumption
    | (extract_lets +onlyGivenNames x
       first
       | (refine okStep (s0 := s0) (x := x) (fun hx => ?_) ?_; clear_value x; rotate_left; subst x)
       | subst x)
    | with_reducible apply modCtx_ok
    | intro _ _ _
    | intro _ _
    | (simp only [ok_lit]; with_reducible refine OkLit.of ?_ ?_ ?_ ?_ ?_ ?_ ?_ ?_ ?_)
    | exact fun h => h
    | exact fun _ => rfl
    | exact Nat.le_refl _
    | dsimp only
    | dsimp only [id]
    | (intro hl; simp [hl]; done)


/-! ### Machine/WindowSend.lean -/

theorem sendCheck_ok {s0 : State} {o : SendOp} {x : Cmd} {s : State} (hok : Ok s0 s) :
    Ok s0 (sendCheck o x s) := by
  unfold sendCheck
  repeat' first
    | with_reducible assumption
    | (extract_lets +onlyGivenNames x
       first
       | (refine okStep (s0 := s0) (x := x) (fun hx => ?_) ?_; clear_value x; rotate_left; subst x)
       | (refine okStep (s0 := s0) (x := x.1) (fun hx => ?_) ?_; clear_value x; rotate_left; subst x)
       | subst x)
    | with_reducible refine Ok.ite ?_ ?_
    | with_reducible apply foldState_ok
    | with_reducible apply sendFrame_ok
    | with_reducible refine Ok.ofPair ?_ (by with_reducible assumption)
    | intro _ _ _
    | intro _ _
    | split
    | dsimp only
    | dsimp only [id]
    | (intro hl; simp [hl]; done)

theorem openOps_ok {s0 : State} {x : Cmd} {tile : Nat} {src dst : List Run} {need : Need} {s : State} (hok : Ok s0 s) :
    Ok s0 (openOps x tile src dst need s) := by
  unfold openOps
  repeat' first
    | with_reducible assumption
    | (extract_lets +onlyGivenNames x
       first
       | (refine okStep (s0 := s0) (x := x) (fun hx => ?_) ?_; clear_value x; rotate_left; subst x)
       | subst x)
    | with_reducible refine Ok.ite ?_ ?_
    | with_reducible apply takeBackOps_ok
    | with_reducible apply clearCycleExact_ok
    | with_reducible apply takeSerial_ok
    | with_reducible apply foldState_ok
    | with_reducible apply sendCheck_ok
    | intro _ _ _
    | intro _ _
    | split
    | (simp only [ok_lit]; with_reducible refine OkLit.of ?_ ?_ ?_ ?_ ?_ ?_ ?_ ?_ ?_)
    | exact fun h => h
    | exact fun _ => rfl
    | exact Nat.le_refl _
    | dsimp only
    | dsimp only [id]

theorem sendData_ok {s0 : State} {o : SendOp} {tag : U16} {b : Bytes} {s : State} (hok : Ok s0 s) :
    Ok s0 (sendData o tag b s) := by
  unfold sendData
  repeat' first
    | with_reducible assumption
    | (extract_lets +onlyGivenNames x
       first
       | (refine okStep (s0 := s0) (x := x) (fun hx => ?_) ?_; clear_value x; rotate_left; subst x)
       | subst x)
    | with_reducible apply foldState_ok
    | with_reducible apply sendFrame_ok
    | intro _ _ _
    | intro _ _
    | dsimp only
    | dsimp only [id]

theorem sendOps_ok {s0 : State} {x : Cmd} {tile : Bytes} {s : State} (hok : Ok s0 s) :
    Ok s0 (sendOps x tile s) := by
  unfold sendOps
  repeat' first
    | with_reducible assumption
    | (extract_lets +onlyGivenNames x
       first
       | (refine okStep (s0 := s0) (x := x) (fun hx => ?_) ?_; clear_value x; rotate_left; subst x)
       | subst x)
    | with_reducible refine Ok.ite ?_ ?_
    | with_reducible apply foldState_ok
    | with_reducible apply sendData_ok
    | intro _ _ _
    | intro _ _
    | split
    | (simp only [ok_lit]; with_reducible refine OkLit.of ?_ ?_ ?_ ?_ ?_ ?_ ?_ ?_ ?_)
    | exact fun h => h
    | exact fun _ => rfl
    | exact Nat.le_refl _
    | dsimp only
    | dsimp only [id]
    | (intro hl; simp [hl]; done)

theorem dropOps_ok {s0 : State} {c : CtxId} {q : Nat} {s : State} (hok : Ok s0 s) :
    Ok s0 (dropOps c q s) := by
  unfold dropOps
  repeat' first
    | with_reducible assumption
    | (extract_lets +onlyGivenNames x
       first
       | (refine okStep (s0 := s0) (x := x) (fun hx => ?_) ?_; clear_value x; rotate_left; subst x)
       | subst x)
    | intro _ _ _
    | intro _ _
    | (simp only [ok_lit]; with_reducible refine OkLit.of ?_ ?_ ?_ ?_ ?_ ?_ ?_ ?_ ?_)
    | exact fun h => h
    | exact fun _ => rfl
    | exact Nat.le_refl _
    | dsimp only
    | dsimp only [id]


/-! ### Machine/Transfer.lean -/

theorem tileFault_ok {s0 : State} {c : CtxId} {q : Nat} {code : TCode} {side : Nat} {need : Need} {va : Nat} {deny : Option (Nat × PackageId)} {s : State} (hok : Ok s0 s) :
    Ok s0 (tileFault c q code side need va deny s) := by
  unfold tileFault
  repeat' first
    | with_reducible assumption
    | (extract_lets +onlyGivenNames x
       first
       | (refine okStep (s0 := s0) (x := x) (fun hx => ?_) ?_; clear_value x; rotate_left; subst x)
       | (refine okStep (s0 := s0) (x := x.1) (fun hx => ?_) ?_; clear_value x; rotate_left; subst x)
       | subst x)
    | with_reducible refine Ok.ite ?_ ?_
    | with_reducible apply endCmd_ok
    | with_reducible apply countFn_ok
    | with_reducible apply cancelOps_ok
    | with_reducible apply modFaultq_ok
    | with_reducible apply modFn_ok
    | with_reducible apply faultCmd_ok
    | with_reducible apply count_ok
    | with_reducible apply modCmd_ok
    | (intro x hx; (repeat' split) <;> exact ⟨hx.base, hx.low, hx.high⟩)
    | (intro x hx; (repeat' split) <;> refine ⟨?_, ?_, ?_, ?_⟩ <;> first | exact hx.cfg | exact hx.admin | exact hx.faultq | exact hx.int | exact CfgOk.init _ | exact AdminOk.init | exact FaultqOk.init | exact IntOk.init | exact ⟨hx.int.delay, hx.int.masks⟩)
    | with_reducible refine Ok.ofPair ?_ (by with_reducible assumption)
    | intro _ _ _
    | intro _ _
    | split
    | (simp only [ok_lit]; with_reducible refine OkLit.of ?_ ?_ ?_ ?_ ?_ ?_ ?_ ?_ ?_)
    | exact fun h => h
    | exact fun _ => rfl
    | exact Nat.le_refl _
    | dsimp only
    | dsimp only [id]
    | (intro hl; simp [hl]; done)

theorem tileError_ok {s0 : State} {x : Cmd} {y : Xfer} {st : CStatus} {va : Nat} {s : State} (hok : Ok s0 s) :
    Ok s0 (tileError x y st va s) := by
  unfold tileError
  repeat' first
    | with_reducible assumption
    | with_reducible apply faultCmd_ok
    | intro _ _ _
    | intro _ _
    | dsimp only
    | dsimp only [id]

theorem tileSnoops_ok {s0 : State} {x : Cmd} {y : Xfer} {g : Fun} {t : Tile} {s : State} (hok : Ok s0 s) :
    Ok s0 (tileSnoops x y g t s) := by
  unfold tileSnoops
  repeat' first
    | with_reducible assumption
    | (extract_lets +onlyGivenNames x
       first
       | (refine okStep (s0 := s0) (x := x) (fun hx => ?_) ?_; clear_value x; rotate_left; subst x)
       | (refine okStep (s0 := s0) (x := x.1) (fun hx => ?_) ?_; clear_value x; rotate_left; subst x)
       | subst x)
    | with_reducible apply foldState_ok
    | with_reducible apply gateSnoops_ok
    | intro _ _ _
    | intro _ _
    | dsimp only
    | dsimp only [id]

theorem freeResult_ok {s0 : State} {x : Cmd} {va a n : Nat} {s : State} (hok : Ok s0 s) :
    Ok s0 (freeResult x va a n s) := by
  unfold freeResult
  repeat' first
    | with_reducible assumption
    | with_reducible refine Ok.ite ?_ ?_
    | with_reducible apply draw_ok
    | with_reducible apply poolWrite_ok
    | intro _ _ _
    | intro _ _
    | split
    | dsimp only
    | dsimp only [id]

theorem reduceRun_ok {s0 : State} {x : Cmd} {g : Fun} {r : Run} {p : Nat} {b : Bytes} {s : State} (hok : Ok s0 s) :
    Ok s0 (reduceRun x g r p b s) := by
  unfold reduceRun
  repeat' first
    | with_reducible assumption
    | (extract_lets +onlyGivenNames x
       first
       | (refine okStep (s0 := s0) (x := x) (fun hx => ?_) ?_; clear_value x; rotate_left; subst x)
       | subst x)
    | with_reducible refine Ok.ite ?_ ?_
    | with_reducible apply clearCycleExact_ok
    | with_reducible apply reduceFence_ok
    | with_reducible apply poolReduce_ok
    | with_reducible apply freeResult_ok
    | with_reducible refine Ok.ofPair ?_ (by with_reducible assumption)
    | intro _ _ _
    | intro _ _
    | split
    | (simp only [ok_lit]; with_reducible refine OkLit.of ?_ ?_ ?_ ?_ ?_ ?_ ?_ ?_ ?_)
    | exact fun h => h
    | exact fun _ => rfl
    | exact Nat.le_refl _
    | dsimp only
    | dsimp only [id]

theorem moveRun_ok {s0 : State} {x : Cmd} {g : Fun} {data : Bytes} {r : Run} {a : State × List (Nat × Bytes)}
    (hok : Ok s0 a.1) : Ok s0 (moveRun x g data r a).1 := by
  obtain ⟨s, outs⟩ := a
  unfold moveRun
  dsimp only at hok ⊢
  repeat' first
    | with_reducible assumption
    | with_reducible apply poolWrite_ok
    | with_reducible apply hostWrite_ok
    | with_reducible apply reduceRun_ok
    | split

theorem moveRuns_ok {s0 : State} {x : Cmd} {g : Fun} {data : Bytes} {l : List Run} {a : State × List (Nat × Bytes)}
    (hok : Ok s0 a.1) : Ok s0 (l.foldl (fun a r => moveRun x g data r a) a).1 := by
  induction l generalizing a with
  | nil => exact hok
  | cons r l ih => exact ih (moveRun_ok hok)

theorem deliverTile_ok {s0 : State} {x : Cmd} {y : Xfer} {g : Fun} {t : Tile} {s : State} (hok : Ok s0 s) :
    Ok s0 (deliverTile x y g t s) := by
  unfold deliverTile
  repeat' first
    | with_reducible assumption
    | (extract_lets +onlyGivenNames x
       first
       | (refine okStep (s0 := s0) (x := x) (fun hx => ?_) ?_; clear_value x; rotate_left; subst x)
       | subst x)
    | with_reducible apply tileError_ok
    | with_reducible apply countPackage_ok
    | with_reducible apply draw_ok
    | with_reducible apply moveRun_ok
    | with_reducible apply sendOps_ok
    | with_reducible apply modCmd_ok
    | with_reducible apply moveRuns_ok
    | with_reducible refine Ok.ofPair ?_ (by with_reducible assumption)
    | intro _ _ _
    | intro _ _
    | split
    | (simp only [ok_lit]; with_reducible refine OkLit.of ?_ ?_ ?_ ?_ ?_ ?_ ?_ ?_ ?_)
    | exact fun h => h
    | exact fun _ => rfl
    | exact Nat.le_refl _
    | dsimp only
    | dsimp only [id]
    | (intro hl; simp [hl]; done)

theorem readTile_ok {s0 : State} {x : Cmd} {g : Fun} {t : Tile} {s : State} (hok : Ok s0 s) :
    Ok s0 (readTile x g t s) := by
  unfold readTile
  repeat' first
    | with_reducible assumption
    | with_reducible apply foldState_ok
    | with_reducible apply ctxHostRead_ok
    | intro _ _ _
    | intro _ _
    | dsimp only
    | dsimp only [id]

theorem tileStops_ok {s0 : State} {x : Cmd} {side : Nat} {code : TCode} {va : Nat} {deny : Option (Nat × PackageId)} {s : State} (hok : Ok s0 s) :
    Ok s0 (tileStops x side code va deny s) := by
  unfold tileStops
  repeat' first
    | with_reducible assumption
    | (extract_lets +onlyGivenNames x
       first
       | (refine okStep (s0 := s0) (x := x) (fun hx => ?_) ?_; clear_value x; rotate_left; subst x)
       | subst x)
    | with_reducible apply tileFault_ok
    | with_reducible apply countFn_ok
    | with_reducible refine Ok.ofPair ?_ (by with_reducible assumption)
    | intro _ _ _
    | intro _ _
    | split
    | (simp only [ok_lit]; with_reducible refine OkLit.of ?_ ?_ ?_ ?_ ?_ ?_ ?_ ?_ ?_)
    | exact fun h => h
    | exact fun _ => rfl
    | exact Nat.le_refl _
    | dsimp only
    | dsimp only [id]

theorem seekTile_ok {s0 : State} {x : Cmd} {y : Xfer} {g : Fun} {t : Tile} {s : State} (hok : Ok s0 s) :
    Ok s0 (seekTile x y g t s) := by
  unfold seekTile
  repeat' first
    | with_reducible assumption
    | (extract_lets +onlyGivenNames x
       first
       | (refine okStep (s0 := s0) (x := x) (fun hx => ?_) ?_; clear_value x; rotate_left; subst x)
       | (refine okStep (s0 := s0) (x := x.1) (fun hx => ?_) ?_; clear_value x; rotate_left; subst x)
       | subst x)
    | with_reducible refine Ok.ite ?_ ?_
    | with_reducible apply openOps_ok
    | with_reducible apply foldState_ok
    | with_reducible apply atsAsk_ok
    | intro _ _ _
    | intro _ _
    | split
    | (simp only [ok_lit]; with_reducible refine OkLit.of ?_ ?_ ?_ ?_ ?_ ?_ ?_ ?_ ?_)
    | exact fun h => h
    | exact fun _ => rfl
    | exact Nat.le_refl _
    | dsimp only
    | dsimp only [id]
    | (intro hl; simp [hl]; done)

theorem refreshRuns_ok {s0 : State} {who : Who} {need : Need} {r0 : List Run} {s : State} (hok : Ok s0 s) :
    Ok s0 (refreshRuns who need r0 s).1 := by
  induction r0 generalizing s with
  | nil =>
    unfold refreshRuns
    repeat' first
      | with_reducible assumption
      | (extract_lets +onlyGivenNames x
         first
         | (refine okStep (s0 := s0) (x := x) (fun hx => ?_) ?_; clear_value x; rotate_left; subst x)
         | subst x)
      | with_reducible refine Ok.ite ?_ ?_
      | with_reducible apply translateSpans_ok
      | with_reducible refine Ok.ofPair ?_ (by with_reducible assumption)
      | intro _ _ _
      | intro _ _
      | split
      | (simp only [ok_lit]; with_reducible refine OkLit.of ?_ ?_ ?_ ?_ ?_ ?_ ?_ ?_ ?_)
      | exact fun h => h
      | exact fun _ => rfl
      | exact Nat.le_refl _
      | dsimp only
      | dsimp only [id]
  | cons x r0 ih =>
    unfold refreshRuns
    repeat' first
      | with_reducible assumption
      | (extract_lets +onlyGivenNames x
         first
         | (refine okStep (s0 := s0) (x := x) (fun hx => ?_) ?_; clear_value x; rotate_left; subst x)
         | subst x)
      | with_reducible refine Ok.ite ?_ ?_
      | with_reducible apply ih
      | with_reducible apply translateSpans_ok
      | with_reducible refine Ok.ofPair ?_ (by with_reducible assumption)
      | intro _ _ _
      | intro _ _
      | split
      | (simp only [ok_lit]; with_reducible refine OkLit.of ?_ ?_ ?_ ?_ ?_ ?_ ?_ ?_ ?_)
      | exact fun h => h
      | exact fun _ => rfl
      | exact Nat.le_refl _
      | dsimp only
      | dsimp only [id]

theorem keepRuns_ok {s0 : State} {x : Cmd} {src dst : List Run} {stop : Option (TOut × Nat × Nat)} {s : State} (hok : Ok s0 s) :
    Ok s0 (keepRuns x src dst stop s) := by
  unfold keepRuns
  repeat' first
    | with_reducible assumption
    | (extract_lets +onlyGivenNames x
       first
       | (refine okStep (s0 := s0) (x := x) (fun hx => ?_) ?_; clear_value x; rotate_left; subst x)
       | subst x)
    | with_reducible apply modCmd_ok
    | intro _ _ _
    | intro _ _
    | (simp only [ok_lit]; with_reducible refine OkLit.of ?_ ?_ ?_ ?_ ?_ ?_ ?_ ?_ ?_)
    | exact fun h => h
    | exact fun _ => rfl
    | exact Nat.le_refl _
    | dsimp only
    | dsimp only [id]
    | (intro hl; simp [hl]; done)

theorem refreshTile_ok {s0 : State} {x : Cmd} {g : Fun} {t : Tile} {s : State} (hok : Ok s0 s) :
    Ok s0 (refreshTile x g t s) := by
  unfold refreshTile
  repeat' first
    | with_reducible assumption
    | (extract_lets +onlyGivenNames x
       first
       | (refine okStep (s0 := s0) (x := x) (fun hx => ?_) ?_; clear_value x; rotate_left; subst x)
       | (refine okStep (s0 := s0) (x := x.1) (fun hx => ?_) ?_; clear_value x; rotate_left; subst x)
       | subst x)
    | with_reducible refine Ok.ite ?_ ?_
    | with_reducible apply takeBackOps_ok
    | with_reducible apply modFixed_ok
    | with_reducible apply dropReads_ok
    | with_reducible apply refreshRuns_ok
    | with_reducible apply keepRuns_ok
    | with_reducible refine Ok.ofPair ?_ (by with_reducible assumption)
    | intro _ _ _
    | intro _ _
    | split
    | (simp only [ok_lit]; with_reducible refine OkLit.of ?_ ?_ ?_ ?_ ?_ ?_ ?_ ?_ ?_)
    | exact fun h => h
    | exact fun _ => rfl
    | exact Nat.le_refl _
    | dsimp only
    | dsimp only [id]
    | (intro hl; simp [hl]; done)

theorem extendDst_ok {s0 : State} {x : Cmd} {t : Tile} {s : State} (hok : Ok s0 s) :
    Ok s0 (extendDst x t s).1 := by
  unfold extendDst
  repeat' first
    | with_reducible assumption
    | (extract_lets +onlyGivenNames x
       first
       | (refine okStep (s0 := s0) (x := x) (fun hx => ?_) ?_; clear_value x; rotate_left; subst x)
       | (refine okStep (s0 := s0) (x := x.1) (fun hx => ?_) ?_; clear_value x; rotate_left; subst x)
       | subst x)
    | with_reducible apply translateSpans_ok
    | with_reducible refine Ok.ofPair ?_ (by with_reducible assumption)
    | intro _ _ _
    | intro _ _
    | split
    | (simp only [ok_lit]; with_reducible refine OkLit.of ?_ ?_ ?_ ?_ ?_ ?_ ?_ ?_ ?_)
    | exact fun h => h
    | exact fun _ => rfl
    | exact Nat.le_refl _
    | dsimp only
    | dsimp only [id]
    | (intro hl; simp [hl]; done)

theorem extendTile_ok {s0 : State} {x : Cmd} {t : Tile} {s : State} (hok : Ok s0 s) :
    Ok s0 (extendTile x t s).1 := by
  unfold extendTile
  repeat' first
    | with_reducible assumption
    | (extract_lets +onlyGivenNames x
       first
       | (refine okStep (s0 := s0) (x := x) (fun hx => ?_) ?_; clear_value x; rotate_left; subst x)
       | (refine okStep (s0 := s0) (x := x.1) (fun hx => ?_) ?_; clear_value x; rotate_left; subst x)
       | subst x)
    | with_reducible refine Ok.ite ?_ ?_
    | with_reducible apply extendDst_ok
    | with_reducible apply translateSpans_ok
    | with_reducible refine Ok.ofPair ?_ (by with_reducible assumption)
    | intro _ _ _
    | intro _ _
    | split
    | (simp only [ok_lit]; with_reducible refine OkLit.of ?_ ?_ ?_ ?_ ?_ ?_ ?_ ?_ ?_)
    | exact fun h => h
    | exact fun _ => rfl
    | exact Nat.le_refl _
    | dsimp only
    | dsimp only [id]

theorem moveOn_ok {s0 : State} {x : Cmd} {y : Xfer} {g : Fun} {t : Tile} {s : State} (hok : Ok s0 s) :
    Ok s0 (moveOn x y g t s) := by
  unfold moveOn
  repeat' first
    | with_reducible assumption
    | (extract_lets +onlyGivenNames x
       first
       | (refine okStep (s0 := s0) (x := x) (fun hx => ?_) ?_; clear_value x; rotate_left; subst x)
       | subst x)
    | with_reducible refine Ok.ite ?_ ?_
    | with_reducible apply tileStops_ok
    | with_reducible apply tileError_ok
    | with_reducible apply seekTile_ok
    | with_reducible apply hostRead_ok
    | with_reducible apply readTile_ok
    | with_reducible apply tileSnoops_ok
    | with_reducible apply deliverTile_ok
    | with_reducible apply evictBefore_ok
    | with_reducible refine Ok.ofPair ?_ (by with_reducible assumption)
    | intro _ _ _
    | intro _ _
    | split
    | (simp only [ok_lit]; with_reducible refine OkLit.of ?_ ?_ ?_ ?_ ?_ ?_ ?_ ?_ ?_)
    | exact fun h => h
    | exact fun _ => rfl
    | exact Nat.le_refl _
    | dsimp only
    | dsimp only [id]

theorem moveTile_ok {s0 : State} {x : Cmd} {y : Xfer} {g : Fun} {t : Tile} {s : State} (hok : Ok s0 s) :
    Ok s0 (moveTile x y g t s) := by
  unfold moveTile
  repeat' first
    | with_reducible assumption
    | (extract_lets +onlyGivenNames x
       first
       | (refine okStep (s0 := s0) (x := x) (fun hx => ?_) ?_; clear_value x; rotate_left; subst x)
       | subst x)
    | with_reducible refine Ok.ite ?_ ?_
    | with_reducible apply refreshTile_ok
    | with_reducible apply extendTile_ok
    | with_reducible apply moveOn_ok
    | with_reducible apply keepRuns_ok
    | with_reducible refine Ok.ofPair ?_ (by with_reducible assumption)
    | intro _ _ _
    | intro _ _
    | split
    | dsimp only
    | dsimp only [id]

theorem startTile_ok {s0 : State} {x : Cmd} {y : Xfer} {g : Fun} {s : State} (hok : Ok s0 s) :
    Ok s0 (startTile x y g s) := by
  unfold startTile
  repeat' first
    | with_reducible assumption
    | (extract_lets +onlyGivenNames x
       first
       | (refine okStep (s0 := s0) (x := x) (fun hx => ?_) ?_; clear_value x; rotate_left; subst x)
       | subst x)
    | with_reducible apply extendTile_ok
    | with_reducible apply moveOn_ok
    | with_reducible apply modCmd_ok
    | with_reducible refine Ok.ofPair ?_ (by with_reducible assumption)
    | intro _ _ _
    | intro _ _
    | split
    | (simp only [ok_lit]; with_reducible refine OkLit.of ?_ ?_ ?_ ?_ ?_ ?_ ?_ ?_ ?_)
    | exact fun h => h
    | exact fun _ => rfl
    | exact Nat.le_refl _
    | dsimp only
    | dsimp only [id]
    | (intro hl; simp [hl]; done)

theorem turnCmd_ok {s0 : State} {x : Cmd} {s : State} (hok : Ok s0 s) :
    Ok s0 (turnCmd x s) := by
  unfold turnCmd
  repeat' first
    | with_reducible assumption
    | (extract_lets +onlyGivenNames x
       first
       | (refine okStep (s0 := s0) (x := x) (fun hx => ?_) ?_; clear_value x; rotate_left; subst x)
       | subst x)
    | with_reducible apply moveTile_ok
    | with_reducible apply startTile_ok
    | with_reducible refine Ok.ofPair ?_ (by with_reducible assumption)
    | intro _ _ _
    | intro _ _
    | split
    | (simp only [ok_lit]; with_reducible refine OkLit.of ?_ ?_ ?_ ?_ ?_ ?_ ?_ ?_ ?_)
    | exact fun h => h
    | exact fun _ => rfl
    | exact Nat.le_refl _
    | dsimp only
    | dsimp only [id]

theorem settleStep_ok {s0 : State} {e : Engine} {s : State} (hok : Ok s0 s) :
    Ok s0 (settleStep e s) := by
  unfold settleStep
  repeat' first
    | with_reducible assumption
    | (extract_lets +onlyGivenNames x
       first
       | (refine okStep (s0 := s0) (x := x) (fun hx => ?_) ?_; clear_value x; rotate_left; subst x)
       | subst x)
    | with_reducible refine Ok.ite ?_ ?_
    | with_reducible apply modEngine_ok
    | with_reducible refine Ok.ofPair ?_ (by with_reducible assumption)
    | intro _ _ _
    | intro _ _
    | split
    | (simp only [ok_lit]; with_reducible refine OkLit.of ?_ ?_ ?_ ?_ ?_ ?_ ?_ ?_ ?_)
    | exact fun h => h
    | exact fun _ => rfl
    | exact Nat.le_refl _
    | dsimp only
    | dsimp only [id]

theorem engineTurn_ok {s0 : State} {e : Engine} {s : State} (hok : Ok s0 s) :
    Ok s0 (engineTurn e s) := by
  unfold engineTurn
  repeat' first
    | with_reducible assumption
    | (extract_lets +onlyGivenNames x
       first
       | (refine okStep (s0 := s0) (x := x) (fun hx => ?_) ?_; clear_value x; rotate_left; subst x)
       | (refine okStep (s0 := s0) (x := x.1) (fun hx => ?_) ?_; clear_value x; rotate_left; subst x)
       | subst x)
    | with_reducible apply modEngine_ok
    | with_reducible apply turnCmd_ok
    | with_reducible refine Ok.ofPair ?_ (by with_reducible assumption)
    | intro _ _ _
    | intro _ _
    | split
    | (simp only [ok_lit]; with_reducible refine OkLit.of ?_ ?_ ?_ ?_ ?_ ?_ ?_ ?_ ?_)
    | exact fun h => h
    | exact fun _ => rfl
    | exact Nat.le_refl _
    | dsimp only
    | dsimp only [id]

theorem execEngineTurn_ok {s0 : State} {e : Engine} {s : State} (hok : Ok s0 s) :
    OutOk s0 (execEngineTurn e s) := by
  unfold execEngineTurn
  refine ⟨_, rfl, ?_⟩
  repeat' first
    | with_reducible assumption
    | with_reducible apply engineTurn_ok
    | intro _ _ _
    | intro _ _
    | dsimp only
    | dsimp only [id]

theorem tileDone_ok {s0 : State} {x : Cmd} {y : Xfer} {t : Tile} {s : State} (hok : Ok s0 s) :
    Ok s0 (tileDone x y t s) := by
  unfold tileDone
  repeat' first
    | with_reducible assumption
    | (extract_lets +onlyGivenNames x
       first
       | (refine okStep (s0 := s0) (x := x) (fun hx => ?_) ?_; clear_value x; rotate_left; subst x)
       | (refine okStep (s0 := s0) (x := x.1) (fun hx => ?_) ?_; clear_value x; rotate_left; subst x)
       | subst x)
    | with_reducible refine Ok.ite ?_ ?_
    | with_reducible apply emit_ok
    | with_reducible apply modCmd_ok
    | with_reducible apply dropOps_ok
    | with_reducible apply countFn_ok
    | with_reducible apply endCmd_ok
    | with_reducible apply settleStep_ok
    | with_reducible refine Ok.ofPair ?_ (by with_reducible assumption)
    | intro _ _ _
    | intro _ _
    | split
    | (simp only [ok_lit]; with_reducible refine OkLit.of ?_ ?_ ?_ ?_ ?_ ?_ ?_ ?_ ?_)
    | exact fun h => h
    | exact fun _ => rfl
    | exact Nat.le_refl _
    | dsimp only
    | dsimp only [id]
    | (intro hl; simp [hl]; done)

theorem tileDelivered_ok {s0 : State} {c : CtxId} {q : Nat} {s : State} (hok : Ok s0 s) :
    Ok s0 (tileDelivered c q s) := by
  unfold tileDelivered
  repeat' first
    | with_reducible assumption
    | (extract_lets +onlyGivenNames x
       first
       | (refine okStep (s0 := s0) (x := x) (fun hx => ?_) ?_; clear_value x; rotate_left; subst x)
       | subst x)
    | with_reducible refine Ok.ite ?_ ?_
    | with_reducible apply tileDone_ok
    | with_reducible refine Ok.ofPair ?_ (by with_reducible assumption)
    | intro _ _ _
    | intro _ _
    | split
    | (simp only [ok_lit]; with_reducible refine OkLit.of ?_ ?_ ?_ ?_ ?_ ?_ ?_ ?_ ?_)
    | exact fun h => h
    | exact fun _ => rfl
    | exact Nat.le_refl _
    | dsimp only
    | dsimp only [id]

theorem execTileDelivered_ok {s0 : State} {c : CtxId} {q : Nat} {s : State} (hok : Ok s0 s) :
    OutOk s0 (execTileDelivered c q s) := by
  unfold execTileDelivered
  refine ⟨_, rfl, ?_⟩
  repeat' first
    | with_reducible assumption
    | with_reducible apply tileDelivered_ok
    | intro _ _ _
    | intro _ _
    | dsimp only
    | dsimp only [id]

theorem dropConsumed_ok {s0 : State} {tag : U16} {s : State} (hok : Ok s0 s) :
    Ok s0 (dropConsumed tag s) := by
  unfold dropConsumed
  repeat' first
    | with_reducible assumption
    | (extract_lets +onlyGivenNames x
       first
       | (refine okStep (s0 := s0) (x := x) (fun hx => ?_) ?_; clear_value x; rotate_left; subst x)
       | subst x)
    | with_reducible apply countFn_ok
    | with_reducible apply draw_ok
    | with_reducible refine Ok.ofPair ?_ (by with_reducible assumption)
    | intro _ _ _
    | intro _ _
    | split
    | (simp only [ok_lit]; with_reducible refine OkLit.of ?_ ?_ ?_ ?_ ?_ ?_ ?_ ?_ ?_)
    | exact fun h => h
    | exact fun _ => rfl
    | exact Nat.le_refl _
    | dsimp only
    | dsimp only [id]

theorem tileConsumed_ok {s0 : State} {tag creditId : U16} {n : Nat} {s : State} (hok : Ok s0 s) :
    Ok s0 (tileConsumed tag creditId n s) := by
  unfold tileConsumed
  repeat' first
    | with_reducible assumption
    | (extract_lets +onlyGivenNames x
       first
       | (refine okStep (s0 := s0) (x := x) (fun hx => ?_) ?_; clear_value x; rotate_left; subst x)
       | subst x)
    | with_reducible refine Ok.ite ?_ ?_
    | with_reducible apply dropConsumed_ok
    | with_reducible apply countFn_ok
    | with_reducible apply modCmd_ok
    | with_reducible refine Ok.ofPair ?_ (by with_reducible assumption)
    | intro _ _ _
    | intro _ _
    | split
    | (simp only [ok_lit]; with_reducible refine OkLit.of ?_ ?_ ?_ ?_ ?_ ?_ ?_ ?_ ?_)
    | exact fun h => h
    | exact fun _ => rfl
    | exact Nat.le_refl _
    | dsimp only
    | dsimp only [id]
    | (intro hl; simp [hl]; done)

theorem execTileConsumed_ok {s0 : State} {tag creditId : U16} {n : Nat} {s : State} (hok : Ok s0 s) :
    OutOk s0 (execTileConsumed tag creditId n s) := by
  unfold execTileConsumed
  refine ⟨_, rfl, ?_⟩
  repeat' first
    | with_reducible assumption
    | with_reducible apply tileConsumed_ok
    | intro _ _ _
    | intro _ _
    | dsimp only
    | dsimp only [id]


/-! ### Machine/Faults.lean -/

theorem timeoutRecord_ok {s0 : State} {r : FaultRec} {s : State} (hok : Ok s0 s) :
    Ok s0 (timeoutRecord r s) := by
  unfold timeoutRecord
  repeat' first
    | with_reducible assumption
    | (extract_lets +onlyGivenNames x
       first
       | (refine okStep (s0 := s0) (x := x) (fun hx => ?_) ?_; clear_value x; rotate_left; subst x)
       | subst x)
    | with_reducible refine Ok.ite ?_ ?_
    | with_reducible apply faultCmd_ok
    | with_reducible apply countFn_ok
    | with_reducible refine Ok.ofPair ?_ (by with_reducible assumption)
    | intro _ _ _
    | intro _ _
    | split
    | (simp only [ok_lit]; with_reducible refine OkLit.of ?_ ?_ ?_ ?_ ?_ ?_ ?_ ?_ ?_)
    | exact fun h => h
    | exact fun _ => rfl
    | exact Nat.le_refl _
    | dsimp only
    | dsimp only [id]

theorem endWaiting_ok {s0 : State} {g : Fun} {s : State} (hok : Ok s0 s) :
    Ok s0 (endWaiting g s) := by
  unfold endWaiting
  repeat' first
    | with_reducible assumption
    | (extract_lets +onlyGivenNames x
       first
       | (refine okStep (s0 := s0) (x := x) (fun hx => ?_) ?_; clear_value x; rotate_left; subst x)
       | subst x)
    | with_reducible refine Ok.ite ?_ ?_
    | with_reducible apply foldState_ok
    | with_reducible apply timeoutRecord_ok
    | with_reducible apply modFaultq_ok
    | (intro x hx; (repeat' split) <;> exact ⟨hx.base, hx.low, hx.high⟩)
    | intro _ _ _
    | intro _ _
    | split
    | (simp only [ok_lit]; with_reducible refine OkLit.of ?_ ?_ ?_ ?_ ?_ ?_ ?_ ?_ ?_)
    | exact fun h => h
    | exact fun _ => rfl
    | exact Nat.le_refl _
    | dsimp only
    | dsimp only [id]

theorem writeFaultqControl_keeps {v : U64} {f : FaultQ} (hok : FaultqOk f) : FaultqOk (writeFaultqControl v f) := by
  unfold writeFaultqControl
  repeat' first
    | with_reducible assumption
    | exact ⟨hok.base, hok.low, hok.high⟩
    | (extract_lets +onlyGivenNames x; subst x)
    | split
    | dsimp only
    | dsimp only [id]

theorem execFaultqControlWrite_ok {s0 : State} {g : Fun} {v : U64} {s : State} (hok : Ok s0 s) :
    OutOk s0 (execFaultqControlWrite g v s) := by
  unfold execFaultqControlWrite
  refine ⟨_, rfl, ?_⟩
  repeat' first
    | with_reducible assumption
    | with_reducible apply barWrite_ok
    | with_reducible apply endWaiting_ok
    | with_reducible apply modFaultq_ok
    | with_reducible apply writeFaultqControl_keeps
    | (intro x hx; (repeat' split) <;> exact ⟨hx.base, hx.low, hx.high⟩)
    | intro _ _ _
    | intro _ _
    | dsimp only
    | dsimp only [id]

theorem execFaultqHeadWrite_ok {s0 : State} {g : Fun} {v : U64} {s : State} (hok : Ok s0 s) :
    OutOk s0 (execFaultqHeadWrite g v s) := by
  unfold execFaultqHeadWrite
  refine ⟨_, rfl, ?_⟩
  repeat' first
    | with_reducible assumption
    | (extract_lets +onlyGivenNames x
       first
       | (refine okStep (s0 := s0) (x := x) (fun hx => ?_) ?_; clear_value x; rotate_left; subst x)
       | subst x)
    | with_reducible apply barWrite_ok
    | with_reducible apply modFaultq_ok
    | (intro x hx; (repeat' split) <;> exact ⟨hx.base, hx.low, hx.high⟩)
    | intro _ _ _
    | intro _ _
    | (simp only [ok_lit]; with_reducible refine OkLit.of ?_ ?_ ?_ ?_ ?_ ?_ ?_ ?_ ?_)
    | exact fun h => h
    | exact fun _ => rfl
    | exact Nat.le_refl _
    | dsimp only
    | dsimp only [id]

theorem writeFaultqBase_keeps {v : U64} {f : FaultQ} (hok : FaultqOk f) : FaultqOk (writeFaultqBase v f) := by
  unfold writeFaultqBase
  repeat' first
    | with_reducible assumption
    | exact ⟨w64_align _ _ (by decide), hok.low, hok.high⟩
    | exact ⟨hok.base, hok.low, hok.high⟩
    | (extract_lets +onlyGivenNames x; subst x)
    | split
    | dsimp only
    | dsimp only [id]

theorem clampTimeout_keeps {v : U64} {f : FaultQ} (hok : FaultqOk f) :
    FaultqOk { f with timeout := clampTimeout v } := by
  have : (clampTimeout v).toNat = max 1000000 (min v.toNat 60000000000) := by
    simp only [clampTimeout, w64, BitVec.toNat_ofNat]; omega
  exact ⟨hok.base, by show _ ≤ _; rw [this]; omega, by show _ ≤ _; rw [this]; omega⟩

theorem execFaultTimeoutWrite_ok {s0 : State} {g : Fun} {v : U64} {s : State} (hok : Ok s0 s) :
    OutOk s0 (execFaultTimeoutWrite g v s) := by
  unfold execFaultTimeoutWrite
  refine ⟨_, rfl, ?_⟩
  repeat' first
    | with_reducible assumption
    | (extract_lets +onlyGivenNames x
       first
       | (refine okStep (s0 := s0) (x := x) (fun hx => ?_) ?_; clear_value x; rotate_left; subst x)
       | subst x)
    | with_reducible apply barWrite_ok
    | with_reducible apply modFaultq_ok
    | (intro x hx; (repeat' split) <;> exact ⟨hx.base, hx.low, hx.high⟩)
    | (intro x hx; exact clampTimeout_keeps hx)
    | intro _ _ _
    | intro _ _
    | (simp only [ok_lit]; with_reducible refine OkLit.of ?_ ?_ ?_ ?_ ?_ ?_ ?_ ?_ ?_)
    | exact fun h => h
    | exact fun _ => rfl
    | exact Nat.le_refl _
    | dsimp only
    | dsimp only [id]

theorem writeFaultRecord_ok {s0 : State} {g : Fun} {ok : Bool} {s : State} (hok : Ok s0 s) :
    Ok s0 (writeFaultRecord g ok s) := by
  unfold writeFaultRecord
  repeat' first
    | with_reducible assumption
    | (extract_lets +onlyGivenNames x
       first
       | (refine okStep (s0 := s0) (x := x) (fun hx => ?_) ?_; clear_value x; rotate_left; subst x)
       | subst x)
    | with_reducible refine Ok.ite ?_ ?_
    | with_reducible apply endWaiting_ok
    | with_reducible apply modFaultq_ok
    | with_reducible apply hostWrite_ok
    | with_reducible apply fire_ok
    | (intro x hx; (repeat' split) <;> exact ⟨hx.base, hx.low, hx.high⟩)
    | with_reducible refine Ok.ofPair ?_ (by with_reducible assumption)
    | intro _ _ _
    | intro _ _
    | split
    | (simp only [ok_lit]; with_reducible refine OkLit.of ?_ ?_ ?_ ?_ ?_ ?_ ?_ ?_ ?_)
    | exact fun h => h
    | exact fun _ => rfl
    | exact Nat.le_refl _
    | dsimp only
    | dsimp only [id]

theorem execFaultRecordWrite_ok {s0 : State} {g : Fun} {ok : Bool} {s : State} (hok : Ok s0 s) :
    OutOk s0 (execFaultRecordWrite g ok s) := by
  unfold execFaultRecordWrite
  refine ⟨_, rfl, ?_⟩
  repeat' first
    | with_reducible assumption
    | with_reducible apply writeFaultRecord_ok
    | intro _ _ _
    | intro _ _
    | dsimp only
    | dsimp only [id]

theorem respond_ok {s0 : State} {g : Fun} {id : U32} {result : Nat} {s : State} (hok : Ok s0 s) :
    Ok s0 (respond g id result s) := by
  unfold respond
  repeat' first
    | with_reducible assumption
    | (extract_lets +onlyGivenNames x
       first
       | (refine okStep (s0 := s0) (x := x) (fun hx => ?_) ?_; clear_value x; rotate_left; subst x)
       | subst x)
    | with_reducible refine Ok.ite ?_ ?_
    | with_reducible apply modFaultq_ok
    | with_reducible apply countFn_ok
    | (intro x hx; (repeat' split) <;> exact ⟨hx.base, hx.low, hx.high⟩)
    | intro _ _ _
    | intro _ _
    | split
    | (simp only [ok_lit]; with_reducible refine OkLit.of ?_ ?_ ?_ ?_ ?_ ?_ ?_ ?_ ?_)
    | exact fun h => h
    | exact fun _ => rfl
    | exact Nat.le_refl _
    | dsimp only
    | dsimp only [id]

theorem takeRecord_ok {s0 : State} {g : Fun} {id : U32} {s : State} (hok : Ok s0 s) :
    Ok s0 (takeRecord g id s) := by
  unfold takeRecord
  repeat' first
    | with_reducible assumption
    | (extract_lets +onlyGivenNames x
       first
       | (refine okStep (s0 := s0) (x := x) (fun hx => ?_) ?_; clear_value x; rotate_left; subst x)
       | subst x)
    | with_reducible apply modFaultq_ok
    | (intro x hx; (repeat' split) <;> exact ⟨hx.base, hx.low, hx.high⟩)
    | intro _ _ _
    | intro _ _
    | (simp only [ok_lit]; with_reducible refine OkLit.of ?_ ?_ ?_ ?_ ?_ ?_ ?_ ?_ ?_)
    | exact fun h => h
    | exact fun _ => rfl
    | exact Nat.le_refl _
    | dsimp only
    | dsimp only [id]

theorem answer_ok {s0 : State} {g : Fun} {id : U32} {act : FaultRec → State → State} {s : State} (h_act : ∀ a0 t, Ok s0 t → Ok s0 (act a0 t)) (hok : Ok s0 s) :
    Ok s0 (answer g id act s) := by
  unfold answer
  repeat' first
    | with_reducible assumption
    | (extract_lets +onlyGivenNames x
       first
       | (refine okStep (s0 := s0) (x := x) (fun hx => ?_) ?_; clear_value x; rotate_left; subst x)
       | subst x)
    | with_reducible refine Ok.ite ?_ ?_
    | with_reducible apply h_act
    | with_reducible apply respond_ok
    | with_reducible apply takeRecord_ok
    | with_reducible refine Ok.ofPair ?_ (by with_reducible assumption)
    | intro _ _ _
    | intro _ _
    | split
    | (simp only [ok_lit]; with_reducible refine OkLit.of ?_ ?_ ?_ ?_ ?_ ?_ ?_ ?_ ?_)
    | exact fun h => h
    | exact fun _ => rfl
    | exact Nat.le_refl _
    | dsimp only
    | dsimp only [id]

theorem assignEngine_ok {s0 : State} {e : Engine} {k : CtxId × Nat} {s : State} (hok : Ok s0 s) :
    Ok s0 (assignEngine e k s) := by
  unfold assignEngine
  repeat' first
    | with_reducible assumption
    | (extract_lets +onlyGivenNames x
       first
       | (refine okStep (s0 := s0) (x := x) (fun hx => ?_) ?_; clear_value x; rotate_left; subst x)
       | subst x)
    | with_reducible refine Ok.ite ?_ ?_
    | with_reducible apply modEngine_ok
    | intro _ _ _
    | intro _ _
    | split
    | (simp only [ok_lit]; with_reducible refine OkLit.of ?_ ?_ ?_ ?_ ?_ ?_ ?_ ?_ ?_)
    | exact fun h => h
    | exact fun _ => rfl
    | exact Nat.le_refl _
    | dsimp only
    | dsimp only [id]

theorem resumeCmd_ok {s0 : State} {r : FaultRec} {s : State} (hok : Ok s0 s) :
    Ok s0 (resumeCmd r s) := by
  unfold resumeCmd
  repeat' first
    | with_reducible assumption
    | (extract_lets +onlyGivenNames x
       first
       | (refine okStep (s0 := s0) (x := x) (fun hx => ?_) ?_; clear_value x; rotate_left; subst x)
       | subst x)
    | with_reducible refine Ok.ite ?_ ?_
    | with_reducible apply modCmd_ok
    | with_reducible apply assignEngine_ok
    | with_reducible apply leaveEngines_ok
    | with_reducible refine Ok.ofPair ?_ (by with_reducible assumption)
    | intro _ _ _
    | intro _ _
    | split
    | (simp only [ok_lit]; with_reducible refine OkLit.of ?_ ?_ ?_ ?_ ?_ ?_ ?_ ?_ ?_)
    | exact fun h => h
    | exact fun _ => rfl
    | exact Nat.le_refl _
    | dsimp only
    | dsimp only [id]
    | (intro hl; simp [hl]; done)

theorem execFaultResume_ok {s0 : State} {g : Fun} {id : U32} {s : State} (hok : Ok s0 s) :
    OutOk s0 (execFaultResume g id s) := by
  unfold execFaultResume
  refine ⟨_, rfl, ?_⟩
  repeat' first
    | with_reducible assumption
    | with_reducible apply barWrite_ok
    | with_reducible apply answer_ok
    | with_reducible apply resumeCmd_ok
    | intro _ _ _
    | intro _ _
    | dsimp only
    | dsimp only [id]

theorem abortRecord_ok {s0 : State} {r : FaultRec} {s : State} (hok : Ok s0 s) :
    Ok s0 (abortRecord r s) := by
  unfold abortRecord
  repeat' first
    | with_reducible assumption
    | with_reducible apply faultCmd_ok
    | intro _ _ _
    | intro _ _
    | dsimp only
    | dsimp only [id]

theorem execFaultAbort_ok {s0 : State} {g : Fun} {id : U32} {s : State} (hok : Ok s0 s) :
    OutOk s0 (execFaultAbort g id s) := by
  unfold execFaultAbort
  refine ⟨_, rfl, ?_⟩
  repeat' first
    | with_reducible assumption
    | with_reducible apply barWrite_ok
    | with_reducible apply answer_ok
    | with_reducible apply abortRecord_ok
    | intro _ _ _
    | intro _ _
    | dsimp only
    | dsimp only [id]

theorem badAction_ok {s0 : State} {g : Fun} {v : U64} {s : State} (hok : Ok s0 s) :
    Ok s0 (badAction g v s) := by
  unfold badAction
  repeat' first
    | with_reducible assumption
    | (extract_lets +onlyGivenNames x
       first
       | (refine okStep (s0 := s0) (x := x) (fun hx => ?_) ?_; clear_value x; rotate_left; subst x)
       | subst x)
    | with_reducible refine Ok.ite ?_ ?_
    | with_reducible apply respond_ok
    | intro _ _ _
    | intro _ _
    | split
    | dsimp only
    | dsimp only [id]

theorem writeResponse_ok {s0 : State} {g : Fun} {v : U64} {s : State} (hok : Ok s0 s) :
    Ok s0 (writeResponse g v s) := by
  unfold writeResponse
  repeat' first
    | with_reducible assumption
    | (extract_lets +onlyGivenNames x
       first
       | (refine okStep (s0 := s0) (x := x) (fun hx => ?_) ?_; clear_value x; rotate_left; subst x)
       | subst x)
    | with_reducible refine Ok.ite ?_ ?_
    | with_reducible apply badAction_ok
    | with_reducible apply answer_ok
    | with_reducible apply resumeCmd_ok
    | with_reducible apply abortRecord_ok
    | intro _ _ _
    | intro _ _
    | split
    | dsimp only
    | dsimp only [id]

theorem execFaultResponseBadAction_ok {s0 : State} {g : Fun} {v : U64} {s : State} (hok : Ok s0 s) :
    OutOk s0 (execFaultResponseBadAction g v s) := by
  unfold execFaultResponseBadAction
  refine ⟨_, rfl, ?_⟩
  repeat' first
    | with_reducible assumption
    | with_reducible apply barWrite_ok
    | with_reducible apply writeResponse_ok
    | intro _ _ _
    | intro _ _
    | dsimp only
    | dsimp only [id]

theorem expireRecord_ok {s0 : State} {g : Fun} {id : U32} {s : State} (hok : Ok s0 s) :
    Ok s0 (expireRecord g id s) := by
  unfold expireRecord
  repeat' first
    | with_reducible assumption
    | (extract_lets +onlyGivenNames x
       first
       | (refine okStep (s0 := s0) (x := x) (fun hx => ?_) ?_; clear_value x; rotate_left; subst x)
       | subst x)
    | with_reducible refine Ok.ite ?_ ?_
    | with_reducible apply timeoutRecord_ok
    | with_reducible apply takeRecord_ok
    | with_reducible refine Ok.ofPair ?_ (by with_reducible assumption)
    | intro _ _ _
    | intro _ _
    | split
    | (simp only [ok_lit]; with_reducible refine OkLit.of ?_ ?_ ?_ ?_ ?_ ?_ ?_ ?_ ?_)
    | exact fun h => h
    | exact fun _ => rfl
    | exact Nat.le_refl _
    | dsimp only
    | dsimp only [id]

theorem execFaultTimeoutExpiry_ok {s0 : State} {g : Fun} {id : U32} {s : State} (hok : Ok s0 s) :
    OutOk s0 (execFaultTimeoutExpiry g id s) := by
  unfold execFaultTimeoutExpiry
  refine ⟨_, rfl, ?_⟩
  repeat' first
    | with_reducible assumption
    | with_reducible apply expireRecord_ok
    | intro _ _ _
    | intro _ _
    | dsimp only
    | dsimp only [id]


/-! ### Machine/Dispatching.lean -/

theorem setStage_ok {s0 : State} {x : Cmd} {st : CmdStage} {s : State} (hok : Ok s0 s) :
    Ok s0 (setStage x st s) := by
  unfold setStage
  repeat' first
    | with_reducible assumption
    | (extract_lets +onlyGivenNames x
       first
       | (refine okStep (s0 := s0) (x := x) (fun hx => ?_) ?_; clear_value x; rotate_left; subst x)
       | subst x)
    | with_reducible apply modCmd_ok
    | intro _ _ _
    | intro _ _
    | (simp only [ok_lit]; with_reducible refine OkLit.of ?_ ?_ ?_ ?_ ?_ ?_ ?_ ?_ ?_)
    | exact fun h => h
    | exact fun _ => rfl
    | exact Nat.le_refl _
    | dsimp only
    | dsimp only [id]

theorem stageDecode_ok {s0 : State} {x : Cmd} {g : Fun} {s : State} (hok : Ok s0 s) :
    Ok s0 (stageDecode x g s).1 := by
  unfold stageDecode
  repeat' first
    | with_reducible assumption
    | (extract_lets +onlyGivenNames x
       first
       | (refine okStep (s0 := s0) (x := x) (fun hx => ?_) ?_; clear_value x; rotate_left; subst x)
       | subst x)
    | with_reducible refine Ok.ite ?_ ?_
    | with_reducible apply faultCmd_ok
    | with_reducible apply setStage_ok
    | intro _ _ _
    | intro _ _
    | split
    | dsimp only
    | dsimp only [id]
    | (intro hl; simp [hl]; done)

theorem stageBarrier_ok {s0 : State} {x : Cmd} {s : State} (hok : Ok s0 s) :
    Ok s0 (stageBarrier x s).1 := by
  unfold stageBarrier
  repeat' first
    | with_reducible assumption
    | (extract_lets +onlyGivenNames x
       first
       | (refine okStep (s0 := s0) (x := x) (fun hx => ?_) ?_; clear_value x; rotate_left; subst x)
       | subst x)
    | with_reducible refine Ok.ite ?_ ?_
    | with_reducible apply setStage_ok
    | intro _ _ _
    | intro _ _
    | split
    | dsimp only
    | dsimp only [id]
    | (intro hl; simp [hl]; done)

theorem stageWaits_ok {s0 : State} {x : Cmd} {g : Fun} {r0 : Nat} {r1 : Nat} {s : State} (hok : Ok s0 s) :
    Ok s0 (stageWaits x g r0 r1 s).1 := by
  induction r0 generalizing r1 s with
  | zero =>
    unfold stageWaits
    repeat' first
      | with_reducible assumption
      | (extract_lets +onlyGivenNames x
         first
         | (refine okStep (s0 := s0) (x := x) (fun hx => ?_) ?_; clear_value x; rotate_left; subst x)
         | subst x)
      | with_reducible refine Ok.ite ?_ ?_
      | with_reducible apply setStage_ok
      | with_reducible apply faultCmd_ok
      | with_reducible apply modCmd_ok
      | with_reducible apply gateSnoops_ok
      | with_reducible apply countPackage_ok
      | with_reducible refine Ok.ofPair ?_ (by with_reducible assumption)
      | intro _ _ _
      | intro _ _
      | split
      | (simp only [ok_lit]; with_reducible refine OkLit.of ?_ ?_ ?_ ?_ ?_ ?_ ?_ ?_ ?_)
      | exact fun h => h
      | exact fun _ => rfl
      | exact Nat.le_refl _
      | dsimp only
      | dsimp only [id]
      | (intro hl; simp [hl]; done)
  | succ r0 ih =>
    unfold stageWaits
    repeat' first
      | with_reducible assumption
      | (extract_lets +onlyGivenNames x
         first
         | (refine okStep (s0 := s0) (x := x) (fun hx => ?_) ?_; clear_value x; rotate_left; subst x)
         | subst x)
      | with_reducible refine Ok.ite ?_ ?_
      | with_reducible apply ih
      | with_reducible apply setStage_ok
      | with_reducible apply faultCmd_ok
      | with_reducible apply modCmd_ok
      | with_reducible apply gateSnoops_ok
      | with_reducible apply countPackage_ok
      | with_reducible refine Ok.ofPair ?_ (by with_reducible assumption)
      | intro _ _ _
      | intro _ _
      | split
      | (simp only [ok_lit]; with_reducible refine OkLit.of ?_ ?_ ?_ ?_ ?_ ?_ ?_ ?_ ?_)
      | exact fun h => h
      | exact fun _ => rfl
      | exact Nat.le_refl _
      | dsimp only
      | dsimp only [id]
      | (intro hl; simp [hl]; done)

theorem stageLaunch_ok {s0 : State} {x : Cmd} {n : Nat} {s : State} (hok : Ok s0 s) :
    Ok s0 (stageLaunch x n s).1 := by
  unfold stageLaunch
  repeat' first
    | with_reducible assumption
    | (extract_lets +onlyGivenNames x
       first
       | (refine okStep (s0 := s0) (x := x) (fun hx => ?_) ?_; clear_value x; rotate_left; subst x)
       | subst x)
    | with_reducible refine Ok.ite ?_ ?_
    | with_reducible apply setStage_ok
    | with_reducible apply logSnoops_ok
    | with_reducible apply clearCycleExact_ok
    | with_reducible apply modCmd_ok
    | with_reducible refine Ok.ofPair ?_ (by with_reducible assumption)
    | intro _ _ _
    | intro _ _
    | split
    | (simp only [ok_lit]; with_reducible refine OkLit.of ?_ ?_ ?_ ?_ ?_ ?_ ?_ ?_ ?_)
    | exact fun h => h
    | exact fun _ => rfl
    | exact Nat.le_refl _
    | dsimp only
    | dsimp only [id]
    | (intro hl; simp [hl]; done)

theorem noteTag_ok {s0 : State} {t : U16} {g : Fun} {s : State} (hok : Ok s0 s) :
    Ok s0 (noteTag t g s) := by
  unfold noteTag
  repeat' first
    | with_reducible assumption
    | (extract_lets +onlyGivenNames x
       first
       | (refine okStep (s0 := s0) (x := x) (fun hx => ?_) ?_; clear_value x; rotate_left; subst x)
       | subst x)
    | intro _ _ _
    | intro _ _
    | (simp only [ok_lit]; with_reducible refine OkLit.of ?_ ?_ ?_ ?_ ?_ ?_ ?_ ?_ ?_)
    | exact fun h => h
    | exact fun _ => rfl
    | exact Nat.le_refl _
    | dsimp only
    | dsimp only [id]

theorem stageIssue_ok {s0 : State} {x : Cmd} {g : Fun} {s : State} (hok : Ok s0 s) :
    Ok s0 (stageIssue x g s) := by
  unfold stageIssue
  repeat' first
    | with_reducible assumption
    | (extract_lets +onlyGivenNames x
       first
       | (refine okStep (s0 := s0) (x := x) (fun hx => ?_) ?_; clear_value x; rotate_left; subst x)
       | subst x)
    | with_reducible refine Ok.ite ?_ ?_
    | with_reducible apply noteTag_ok
    | with_reducible apply modCmd_ok
    | with_reducible refine Ok.ofPair ?_ (by with_reducible assumption)
    | intro _ _ _
    | intro _ _
    | split
    | (simp only [ok_lit]; with_reducible refine OkLit.of ?_ ?_ ?_ ?_ ?_ ?_ ?_ ?_ ?_)
    | exact fun h => h
    | exact fun _ => rfl
    | exact Nat.le_refl _
    | dsimp only
    | dsimp only [id]

theorem dispatchStages_ok {s0 : State} {c : CtxId} {s : State} (hok : Ok s0 s) :
    Ok s0 (dispatchStages c s) := by
  unfold dispatchStages
  repeat' first
    | with_reducible assumption
    | (extract_lets +onlyGivenNames x
       first
       | (refine okStep (s0 := s0) (x := x) (fun hx => ?_) ?_; clear_value x; rotate_left; subst x)
       | (refine okStep (s0 := s0) (x := x.1) (fun hx => ?_) ?_; clear_value x; rotate_left; subst x)
       | subst x)
    | with_reducible refine Ok.ite ?_ ?_
    | with_reducible apply stageDecode_ok
    | with_reducible apply stageBarrier_ok
    | with_reducible apply stageWaits_ok
    | with_reducible apply stageLaunch_ok
    | with_reducible apply stageIssue_ok
    | with_reducible refine Ok.ofPair ?_ (by with_reducible assumption)
    | intro _ _ _
    | intro _ _
    | split
    | (simp only [ok_lit]; with_reducible refine OkLit.of ?_ ?_ ?_ ?_ ?_ ?_ ?_ ?_ ?_)
    | exact fun h => h
    | exact fun _ => rfl
    | exact Nat.le_refl _
    | dsimp only
    | dsimp only [id]

theorem execDispatchStages_ok {s0 : State} {c : CtxId} {s : State} (hok : Ok s0 s) :
    OutOk s0 (execDispatchStages c s) := by
  unfold execDispatchStages
  refine ⟨_, rfl, ?_⟩
  repeat' first
    | with_reducible assumption
    | with_reducible apply dispatchStages_ok
    | intro _ _ _
    | intro _ _
    | dsimp only
    | dsimp only [id]

theorem launchReached_ok {s0 : State} {c : CtxId} {s : State} (hok : Ok s0 s) :
    Ok s0 (launchReached c s) := by
  unfold launchReached
  repeat' first
    | with_reducible assumption
    | (extract_lets +onlyGivenNames x
       first
       | (refine okStep (s0 := s0) (x := x) (fun hx => ?_) ?_; clear_value x; rotate_left; subst x)
       | subst x)
    | with_reducible refine Ok.ite ?_ ?_
    | with_reducible apply dispatchStages_ok
    | with_reducible refine Ok.ofPair ?_ (by with_reducible assumption)
    | intro _ _ _
    | intro _ _
    | split
    | (simp only [ok_lit]; with_reducible refine OkLit.of ?_ ?_ ?_ ?_ ?_ ?_ ?_ ?_ ?_)
    | exact fun h => h
    | exact fun _ => rfl
    | exact Nat.le_refl _
    | dsimp only
    | dsimp only [id]

theorem execLaunchGtcReached_ok {s0 : State} {c : CtxId} {s : State} (hok : Ok s0 s) :
    OutOk s0 (execLaunchGtcReached c s) := by
  unfold execLaunchGtcReached
  refine ⟨_, rfl, ?_⟩
  repeat' first
    | with_reducible assumption
    | with_reducible apply launchReached_ok
    | intro _ _ _
    | intro _ _
    | dsimp only
    | dsimp only [id]

theorem badOpcode_ok {s0 : State} {c : CtxId} {q : Nat} {s : State} (hok : Ok s0 s) :
    Ok s0 (badOpcode c q s) := by
  unfold badOpcode
  repeat' first
    | with_reducible assumption
    | (extract_lets +onlyGivenNames x
       first
       | (refine okStep (s0 := s0) (x := x) (fun hx => ?_) ?_; clear_value x; rotate_left; subst x)
       | subst x)
    | with_reducible refine Ok.ite ?_ ?_
    | with_reducible apply dispatchStages_ok
    | with_reducible refine Ok.ofPair ?_ (by with_reducible assumption)
    | intro _ _ _
    | intro _ _
    | split
    | (simp only [ok_lit]; with_reducible refine OkLit.of ?_ ?_ ?_ ?_ ?_ ?_ ?_ ?_ ?_)
    | exact fun h => h
    | exact fun _ => rfl
    | exact Nat.le_refl _
    | dsimp only
    | dsimp only [id]

theorem execCommandBadOpcode_ok {s0 : State} {c : CtxId} {q : Nat} {s : State} (hok : Ok s0 s) :
    OutOk s0 (execCommandBadOpcode c q s) := by
  unfold execCommandBadOpcode
  refine ⟨_, rfl, ?_⟩
  repeat' first
    | with_reducible assumption
    | with_reducible apply badOpcode_ok
    | intro _ _ _
    | intro _ _
    | dsimp only
    | dsimp only [id]


/-! ### Machine/Execute.lean -/

theorem withCmd_ok {s0 : State} {c : CtxId} {q op : Nat} {act : Cmd → Ctx → State → State} {s : State} (h_act : ∀ a0 a1 t, Ok s0 t → Ok s0 (act a0 a1 t)) (hok : Ok s0 s) :
    Ok s0 (withCmd c q op act s) := by
  unfold withCmd
  repeat' first
    | with_reducible assumption
    | (extract_lets +onlyGivenNames x
       first
       | (refine okStep (s0 := s0) (x := x) (fun hx => ?_) ?_; clear_value x; rotate_left; subst x)
       | subst x)
    | with_reducible refine Ok.ite ?_ ?_
    | with_reducible apply h_act
    | with_reducible refine Ok.ofPair ?_ (by with_reducible assumption)
    | intro _ _ _
    | intro _ _
    | split
    | (simp only [ok_lit]; with_reducible refine OkLit.of ?_ ?_ ?_ ?_ ?_ ?_ ?_ ?_ ?_)
    | exact fun h => h
    | exact fun _ => rfl
    | exact Nat.le_refl _
    | dsimp only
    | dsimp only [id]

theorem serveStep_ok {s0 : State} {u : StepUnit} {l : List StepOp} {k : StepOp} {s : State} (hok : Ok s0 s) :
    Ok s0 (serveStep u l k s) := by
  unfold serveStep
  repeat' first
    | with_reducible assumption
    | (extract_lets +onlyGivenNames x
       first
       | (refine okStep (s0 := s0) (x := x) (fun hx => ?_) ?_; clear_value x; rotate_left; subst x)
       | (refine okStep (s0 := s0) (x := x.1) (fun hx => ?_) ?_; clear_value x; rotate_left; subst x)
       | subst x)
    | with_reducible refine Ok.ite ?_ ?_
    | intro _ _ _
    | intro _ _
    | split
    | (simp only [ok_lit]; with_reducible refine OkLit.of ?_ ?_ ?_ ?_ ?_ ?_ ?_ ?_ ?_)
    | exact fun h => h
    | exact fun _ => rfl
    | exact Nat.le_refl _
    | dsimp only
    | dsimp only [id]

theorem scrubSome_ok {s0 : State} {x : Scrub} {s : State} (hok : Ok s0 s) :
    Ok s0 (scrubSome x s) := by
  unfold scrubSome
  repeat' first
    | with_reducible assumption
    | (extract_lets +onlyGivenNames x
       first
       | (refine okStep (s0 := s0) (x := x) (fun hx => ?_) ?_; clear_value x; rotate_left; subst x)
       | subst x)
    | with_reducible refine Ok.ite ?_ ?_
    | with_reducible apply zeroSpan_ok
    | with_reducible refine Ok.ofPair ?_ (by with_reducible assumption)
    | intro _ _ _
    | intro _ _
    | split
    | (simp only [ok_lit]; with_reducible refine OkLit.of ?_ ?_ ?_ ?_ ?_ ?_ ?_ ?_ ?_)
    | exact fun h => h
    | exact fun _ => rfl
    | exact Nat.le_refl _
    | dsimp only
    | dsimp only [id]
    | (intro hl; simp [hl]; done)

theorem operandFault_ok {s0 : State} {x : Cmd} {st : CStatus} {va : Nat} {need : Need} {s : State} (hok : Ok s0 s) :
    Ok s0 (operandFault x st va need s) := by
  unfold operandFault
  repeat' first
    | with_reducible assumption
    | with_reducible apply faultCmd_ok
    | intro _ _ _
    | intro _ _
    | dsimp only
    | dsimp only [id]

theorem windowBarred_ok {s0 : State} {x : Cmd} {cx : Ctx} {va : Nat} {need : Need} {s : State} (hok : Ok s0 s) :
    Ok s0 (windowBarred x cx va need s) := by
  unfold windowBarred
  repeat' first
    | with_reducible assumption
    | with_reducible apply operandFault_ok
    | with_reducible apply countFn_ok
    | intro _ _ _
    | intro _ _
    | dsimp only
    | dsimp only [id]

theorem runNop_ok {s0 : State} {x : Cmd} {u_0 : Ctx} {s : State} (hok : Ok s0 s) :
    Ok s0 (runNop x u_0 s) := by
  unfold runNop
  repeat' first
    | with_reducible assumption
    | with_reducible apply endCmd_ok
    | intro _ _ _
    | intro _ _
    | dsimp only
    | dsimp only [id]

theorem execNop_ok {s0 : State} {c : CtxId} {q : Nat} {s : State} (hok : Ok s0 s) :
    OutOk s0 (execNop c q s) := by
  unfold execNop
  refine ⟨_, rfl, ?_⟩
  repeat' first
    | with_reducible assumption
    | with_reducible apply withCmd_ok
    | with_reducible apply runNop_ok
    | intro _ _ _
    | intro _ _
    | dsimp only
    | dsimp only [id]

theorem operandRuns_ok {s0 : State} {c : CtxId} {need : Need} {spans : List (Nat × Nat × Nat)} {s : State} (hok : Ok s0 s) :
    Ok s0 (operandRuns c need spans s).1 := by
  unfold operandRuns
  repeat' first
    | with_reducible assumption
    | with_reducible apply translateSide_ok
    | intro _ _ _
    | intro _ _
    | dsimp only
    | dsimp only [id]

theorem operandStop_ok {s0 : State} {x : Cmd} {need : Need} {e : TOut × Nat} {s : State} (hok : Ok s0 s) :
    Ok s0 (operandStop x need e s) := by
  unfold operandStop
  repeat' first
    | with_reducible assumption
    | (extract_lets +onlyGivenNames x
       first
       | (refine okStep (s0 := s0) (x := x) (fun hx => ?_) ?_; clear_value x; rotate_left; subst x)
       | subst x)
    | with_reducible apply operandFault_ok
    | with_reducible refine Ok.ofPair ?_ (by with_reducible assumption)
    | intro _ _ _
    | intro _ _
    | split
    | (simp only [ok_lit]; with_reducible refine OkLit.of ?_ ?_ ?_ ?_ ?_ ?_ ?_ ?_ ?_)
    | exact fun h => h
    | exact fun _ => rfl
    | exact Nat.le_refl _
    | dsimp only
    | dsimp only [id]

theorem putRuns_ok {s0 : State} {x : Cmd} {g : Fun} {data : Bytes} {runs : List Run} {s : State} (hok : Ok s0 s) :
    Ok s0 (putRuns x g data runs s) := by
  unfold putRuns
  repeat' first
    | with_reducible assumption
    | (extract_lets +onlyGivenNames x
       first
       | (refine okStep (s0 := s0) (x := x) (fun hx => ?_) ?_; clear_value x; rotate_left; subst x)
       | subst x)
    | with_reducible apply foldState_ok
    | with_reducible apply poolWrite_ok
    | with_reducible apply hostWrite_ok
    | with_reducible refine Ok.ofPair ?_ (by with_reducible assumption)
    | intro _ _ _
    | intro _ _
    | split
    | (simp only [ok_lit]; with_reducible refine OkLit.of ?_ ?_ ?_ ?_ ?_ ?_ ?_ ?_ ?_)
    | exact fun h => h
    | exact fun _ => rfl
    | exact Nat.le_refl _
    | dsimp only
    | dsimp only [id]

theorem runsSnoop_ok {s0 : State} {c : CtxId} {runs : List Run} {s : State} (hok : Ok s0 s) :
    Ok s0 (runsSnoop c runs s) := by
  unfold runsSnoop
  repeat' first
    | with_reducible assumption
    | with_reducible apply foldState_ok
    | with_reducible apply gateSnoops_ok
    | intro _ _ _
    | intro _ _
    | dsimp only
    | dsimp only [id]

theorem putOperand_ok {s0 : State} {x : Cmd} {cx : Ctx} {data : Bytes} {runs : List Run} {s : State} (hok : Ok s0 s) :
    Ok s0 (putOperand x cx data runs s).1 := by
  unfold putOperand
  repeat' first
    | with_reducible assumption
    | (extract_lets +onlyGivenNames x
       first
       | (refine okStep (s0 := s0) (x := x) (fun hx => ?_) ?_; clear_value x; rotate_left; subst x)
       | (refine okStep (s0 := s0) (x := x.1) (fun hx => ?_) ?_; clear_value x; rotate_left; subst x)
       | subst x)
    | with_reducible refine Ok.ite ?_ ?_
    | with_reducible apply takeBackOps_ok
    | with_reducible apply windowBarred_ok
    | with_reducible apply dropOps_ok
    | with_reducible apply foldState_ok
    | with_reducible apply atsAsk_ok
    | with_reducible apply runsSnoop_ok
    | with_reducible apply openOps_ok
    | with_reducible apply sendOps_ok
    | with_reducible apply putRuns_ok
    | with_reducible refine Ok.ofPair ?_ (by with_reducible assumption)
    | intro _ _ _
    | intro _ _
    | split
    | (simp only [ok_lit]; with_reducible refine OkLit.of ?_ ?_ ?_ ?_ ?_ ?_ ?_ ?_ ?_)
    | exact fun h => h
    | exact fun _ => rfl
    | exact Nat.le_refl _
    | dsimp only
    | dsimp only [id]
    | (intro hl; simp [hl]; done)

theorem runWrite_ok {s0 : State} {value : Cmd → State → Nat} {x : Cmd} {cx : Ctx} {s : State} (hok : Ok s0 s) :
    Ok s0 (runWrite value x cx s) := by
  unfold runWrite
  repeat' first
    | with_reducible assumption
    | (extract_lets +onlyGivenNames x
       first
       | (refine okStep (s0 := s0) (x := x) (fun hx => ?_) ?_; clear_value x; rotate_left; subst x)
       | (refine okStep (s0 := s0) (x := x.1) (fun hx => ?_) ?_; clear_value x; rotate_left; subst x)
       | subst x)
    | with_reducible refine Ok.ite ?_ ?_
    | with_reducible apply operandRuns_ok
    | with_reducible apply operandStop_ok
    | with_reducible apply putOperand_ok
    | with_reducible apply endCmd_ok
    | with_reducible refine Ok.ofPair ?_ (by with_reducible assumption)
    | intro _ _ _
    | intro _ _
    | split
    | (simp only [ok_lit]; with_reducible refine OkLit.of ?_ ?_ ?_ ?_ ?_ ?_ ?_ ?_ ?_)
    | exact fun h => h
    | exact fun _ => rfl
    | exact Nat.le_refl _
    | dsimp only
    | dsimp only [id]

theorem execWriteValue_ok {s0 : State} {c : CtxId} {q : Nat} {s : State} (hok : Ok s0 s) :
    OutOk s0 (execWriteValue c q s) := by
  unfold execWriteValue
  refine ⟨_, rfl, ?_⟩
  repeat' first
    | with_reducible assumption
    | with_reducible apply withCmd_ok
    | with_reducible apply runWrite_ok
    | intro _ _ _
    | intro _ _
    | dsimp only
    | dsimp only [id]

theorem execWriteTimestamp_ok {s0 : State} {c : CtxId} {q : Nat} {s : State} (hok : Ok s0 s) :
    OutOk s0 (execWriteTimestamp c q s) := by
  unfold execWriteTimestamp
  refine ⟨_, rfl, ?_⟩
  repeat' first
    | with_reducible assumption
    | with_reducible apply withCmd_ok
    | with_reducible apply runWrite_ok
    | intro _ _ _
    | intro _ _
    | dsimp only
    | dsimp only [id]

theorem runTransfer_ok {s0 : State} {x : Cmd} {u_0 : Ctx} {s : State} (hok : Ok s0 s) :
    Ok s0 (runTransfer x u_0 s) := by
  unfold runTransfer
  repeat' first
    | with_reducible assumption
    | (extract_lets +onlyGivenNames x
       first
       | (refine okStep (s0 := s0) (x := x) (fun hx => ?_) ?_; clear_value x; rotate_left; subst x)
       | subst x)
    | with_reducible refine Ok.ite ?_ ?_
    | with_reducible apply assignEngine_ok
    | with_reducible apply modCmd_ok
    | with_reducible refine Ok.ofPair ?_ (by with_reducible assumption)
    | intro _ _ _
    | intro _ _
    | split
    | (simp only [ok_lit]; with_reducible refine OkLit.of ?_ ?_ ?_ ?_ ?_ ?_ ?_ ?_ ?_)
    | exact fun h => h
    | exact fun _ => rfl
    | exact Nat.le_refl _
    | dsimp only
    | dsimp only [id]

theorem execCopyTensor_ok {s0 : State} {c : CtxId} {q : Nat} {s : State} (hok : Ok s0 s) :
    OutOk s0 (execCopyTensor c q s) := by
  unfold execCopyTensor
  refine ⟨_, rfl, ?_⟩
  repeat' first
    | with_reducible assumption
    | with_reducible apply withCmd_ok
    | with_reducible apply runTransfer_ok
    | intro _ _ _
    | intro _ _
    | dsimp only
    | dsimp only [id]

theorem execReduceTensor_ok {s0 : State} {c : CtxId} {q : Nat} {s : State} (hok : Ok s0 s) :
    OutOk s0 (execReduceTensor c q s) := by
  unfold execReduceTensor
  refine ⟨_, rfl, ?_⟩
  repeat' first
    | with_reducible assumption
    | with_reducible apply withCmd_ok
    | with_reducible apply runTransfer_ok
    | intro _ _ _
    | intro _ _
    | dsimp only
    | dsimp only [id]

theorem execFill_ok {s0 : State} {c : CtxId} {q : Nat} {s : State} (hok : Ok s0 s) :
    OutOk s0 (execFill c q s) := by
  unfold execFill
  refine ⟨_, rfl, ?_⟩
  repeat' first
    | with_reducible assumption
    | with_reducible apply withCmd_ok
    | with_reducible apply runTransfer_ok
    | intro _ _ _
    | intro _ _
    | dsimp only
    | dsimp only [id]

theorem runLaunch_ok {s0 : State} {x : Cmd} {cx : Ctx} {s : State} (hok : Ok s0 s) :
    Ok s0 (runLaunch x cx s) := by
  unfold runLaunch
  repeat' first
    | with_reducible assumption
    | (extract_lets +onlyGivenNames x
       first
       | (refine okStep (s0 := s0) (x := x) (fun hx => ?_) ?_; clear_value x; rotate_left; subst x)
       | subst x)
    | with_reducible refine Ok.ite ?_ ?_
    | with_reducible apply faultCmd_ok
    | with_reducible apply operandRuns_ok
    | with_reducible apply operandStop_ok
    | with_reducible apply windowBarred_ok
    | with_reducible apply foldState_ok
    | with_reducible apply emit_ok
    | with_reducible apply modCmd_ok
    | with_reducible refine Ok.ofPair ?_ (by with_reducible assumption)
    | intro _ _ _
    | intro _ _
    | split
    | (simp only [ok_lit]; with_reducible refine OkLit.of ?_ ?_ ?_ ?_ ?_ ?_ ?_ ?_ ?_)
    | exact fun h => h
    | exact fun _ => rfl
    | exact Nat.le_refl _
    | dsimp only
    | dsimp only [id]
    | (intro hl; simp [hl]; done)

theorem execLaunch_ok {s0 : State} {c : CtxId} {q : Nat} {s : State} (hok : Ok s0 s) :
    OutOk s0 (execLaunch c q s) := by
  unfold execLaunch
  refine ⟨_, rfl, ?_⟩
  repeat' first
    | with_reducible assumption
    | with_reducible apply withCmd_ok
    | with_reducible apply runLaunch_ok
    | intro _ _ _
    | intro _ _
    | dsimp only
    | dsimp only [id]

theorem runSpan_ok {s0 : State} {flush : Bool} {x : Cmd} {cx : Ctx} {s : State} (hok : Ok s0 s) :
    Ok s0 (runSpan flush x cx s) := by
  unfold runSpan
  repeat' first
    | with_reducible assumption
    | (extract_lets +onlyGivenNames x
       first
       | (refine okStep (s0 := s0) (x := x) (fun hx => ?_) ?_; clear_value x; rotate_left; subst x)
       | (refine okStep (s0 := s0) (x := x.1) (fun hx => ?_) ?_; clear_value x; rotate_left; subst x)
       | subst x)
    | with_reducible refine Ok.ite ?_ ?_
    | with_reducible apply operandRuns_ok
    | with_reducible apply operandStop_ok
    | with_reducible apply windowBarred_ok
    | with_reducible apply foldState_ok
    | with_reducible apply sendSnoop_ok
    | with_reducible apply writeBack_ok
    | with_reducible apply discardLines_ok
    | with_reducible apply endCmd_ok
    | with_reducible apply modCmd_ok
    | with_reducible refine Ok.ofPair ?_ (by with_reducible assumption)
    | intro _ _ _
    | intro _ _
    | split
    | (simp only [ok_lit]; with_reducible refine OkLit.of ?_ ?_ ?_ ?_ ?_ ?_ ?_ ?_ ?_)
    | exact fun h => h
    | exact fun _ => rfl
    | exact Nat.le_refl _
    | dsimp only
    | dsimp only [id]

theorem runSpanCmd_ok {s0 : State} {c : CtxId} {q : Nat} {s : State} (hok : Ok s0 s) :
    Ok s0 (runSpanCmd c q s) := by
  unfold runSpanCmd
  repeat' first
    | with_reducible assumption
    | with_reducible apply withCmd_ok
    | with_reducible apply runSpan_ok
    | intro _ _ _
    | intro _ _
    | dsimp only
    | dsimp only [id]

theorem memServe_ok {s0 : State} {k : CtxId × Nat} {s : State} (hok : Ok s0 s) :
    Ok s0 (memServe k s) := by
  unfold memServe
  repeat' first
    | with_reducible assumption
    | (extract_lets +onlyGivenNames x
       first
       | (refine okStep (s0 := s0) (x := x) (fun hx => ?_) ?_; clear_value x; rotate_left; subst x)
       | (refine okStep (s0 := s0) (x := x.1) (fun hx => ?_) ?_; clear_value x; rotate_left; subst x)
       | subst x)
    | with_reducible apply runSpanCmd_ok
    | intro _ _ _
    | intro _ _
    | (simp only [ok_lit]; with_reducible refine OkLit.of ?_ ?_ ?_ ?_ ?_ ?_ ?_ ?_ ?_)
    | exact fun h => h
    | exact fun _ => rfl
    | exact Nat.le_refl _
    | dsimp only
    | dsimp only [id]

theorem memStepped_ok {s0 : State} {s : State} (hok : Ok s0 s) :
    Ok s0 (memStepped s) := by
  unfold memStepped
  repeat' first
    | with_reducible assumption
    | (extract_lets +onlyGivenNames x
       first
       | (refine okStep (s0 := s0) (x := x) (fun hx => ?_) ?_; clear_value x; rotate_left; subst x)
       | subst x)
    | intro _ _ _
    | intro _ _
    | (simp only [ok_lit]; with_reducible refine OkLit.of ?_ ?_ ?_ ?_ ?_ ?_ ?_ ?_ ?_)
    | exact fun h => h
    | exact fun _ => rfl
    | exact Nat.le_refl _
    | dsimp only
    | dsimp only [id]

theorem memCmdStep_ok {s0 : State} {c : CtxId} {q : Nat} {s : State} (hok : Ok s0 s) :
    Ok s0 (memCmdStep c q s) := by
  unfold memCmdStep
  repeat' first
    | with_reducible assumption
    | with_reducible apply memStepped_ok
    | with_reducible apply runSpanCmd_ok
    | with_reducible apply serveStep_ok
    | intro _ _ _
    | intro _ _
    | dsimp only
    | dsimp only [id]

theorem spanTurn_ok {s0 : State} {c : CtxId} {q op : Nat} {s : State} (hok : Ok s0 s) :
    Ok s0 (spanTurn c q op s) := by
  unfold spanTurn
  repeat' first
    | with_reducible assumption
    | (extract_lets +onlyGivenNames x
       first
       | (refine okStep (s0 := s0) (x := x) (fun hx => ?_) ?_; clear_value x; rotate_left; subst x)
       | subst x)
    | with_reducible refine Ok.ite ?_ ?_
    | with_reducible apply memServe_ok
    | with_reducible apply memCmdStep_ok
    | with_reducible refine Ok.ofPair ?_ (by with_reducible assumption)
    | intro _ _ _
    | intro _ _
    | split
    | (simp only [ok_lit]; with_reducible refine OkLit.of ?_ ?_ ?_ ?_ ?_ ?_ ?_ ?_ ?_)
    | exact fun h => h
    | exact fun _ => rfl
    | exact Nat.le_refl _
    | dsimp only
    | dsimp only [id]

theorem execFlush_ok {s0 : State} {c : CtxId} {q : Nat} {s : State} (hok : Ok s0 s) :
    OutOk s0 (execFlush c q s) := by
  unfold execFlush
  refine ⟨_, rfl, ?_⟩
  repeat' first
    | with_reducible assumption
    | with_reducible apply spanTurn_ok
    | intro _ _ _
    | intro _ _
    | dsimp only
    | dsimp only [id]

theorem execInvalidate_ok {s0 : State} {c : CtxId} {q : Nat} {s : State} (hok : Ok s0 s) :
    OutOk s0 (execInvalidate c q s) := by
  unfold execInvalidate
  refine ⟨_, rfl, ?_⟩
  repeat' first
    | with_reducible assumption
    | with_reducible apply spanTurn_ok
    | intro _ _ _
    | intro _ _
    | dsimp only
    | dsimp only [id]

theorem runRanges_ok {s0 : State} {x : Cmd} {u_0 : Ctx} {s : State} (hok : Ok s0 s) :
    Ok s0 (runRanges x u_0 s) := by
  unfold runRanges
  repeat' first
    | with_reducible assumption
    | (extract_lets +onlyGivenNames x
       first
       | (refine okStep (s0 := s0) (x := x) (fun hx => ?_) ?_; clear_value x; rotate_left; subst x)
       | subst x)
    | with_reducible refine Ok.ite ?_ ?_
    | with_reducible apply startScan_ok
    | with_reducible apply modCmd_ok
    | with_reducible apply endCmd_ok
    | intro _ _ _
    | intro _ _
    | split
    | (simp only [ok_lit]; with_reducible refine OkLit.of ?_ ?_ ?_ ?_ ?_ ?_ ?_ ?_ ?_)
    | exact fun h => h
    | exact fun _ => rfl
    | exact Nat.le_refl _
    | dsimp only
    | dsimp only [id]

theorem execInvalidateRanges_ok {s0 : State} {c : CtxId} {q : Nat} {s : State} (hok : Ok s0 s) :
    OutOk s0 (execInvalidateRanges c q s) := by
  unfold execInvalidateRanges
  refine ⟨_, rfl, ?_⟩
  repeat' first
    | with_reducible assumption
    | with_reducible apply withCmd_ok
    | with_reducible apply runRanges_ok
    | intro _ _ _
    | intro _ _
    | dsimp only
    | dsimp only [id]

theorem readLeaf_ok {s0 : State} {x : Cmd} {cx : Ctx} {va n : Nat} {s : State} (hok : Ok s0 s) :
    Ok s0 (readLeaf x cx va n s).1 := by
  unfold readLeaf
  repeat' first
    | with_reducible assumption
    | (extract_lets +onlyGivenNames x
       first
       | (refine okStep (s0 := s0) (x := x) (fun hx => ?_) ?_; clear_value x; rotate_left; subst x)
       | (refine okStep (s0 := s0) (x := x.1) (fun hx => ?_) ?_; clear_value x; rotate_left; subst x)
       | subst x)
    | with_reducible refine Ok.ite ?_ ?_
    | with_reducible apply operandRuns_ok
    | with_reducible apply operandStop_ok
    | with_reducible apply windowBarred_ok
    | with_reducible apply operandFault_ok
    | with_reducible apply countPackage_ok
    | with_reducible apply foldState_ok
    | with_reducible apply atsAsk_ok
    | with_reducible apply ctxHostRead_ok
    | with_reducible apply gateSnoops_ok
    | with_reducible apply evictBefore_ok
    | with_reducible refine Ok.ofPair ?_ (by with_reducible assumption)
    | intro _ _ _
    | intro _ _
    | split
    | (simp only [ok_lit]; with_reducible refine OkLit.of ?_ ?_ ?_ ?_ ?_ ?_ ?_ ?_ ?_)
    | exact fun h => h
    | exact fun _ => rfl
    | exact Nat.le_refl _
    | dsimp only
    | dsimp only [id]
    | (intro hl; simp [hl]; done)

theorem finishDigest_ok {s0 : State} {x : Cmd} {cx : Ctx} {s : State} (hok : Ok s0 s) :
    Ok s0 (finishDigest x cx s) := by
  unfold finishDigest
  repeat' first
    | with_reducible assumption
    | (extract_lets +onlyGivenNames x
       first
       | (refine okStep (s0 := s0) (x := x) (fun hx => ?_) ?_; clear_value x; rotate_left; subst x)
       | (refine okStep (s0 := s0) (x := x.1) (fun hx => ?_) ?_; clear_value x; rotate_left; subst x)
       | subst x)
    | with_reducible refine Ok.ite ?_ ?_
    | with_reducible apply operandRuns_ok
    | with_reducible apply operandStop_ok
    | with_reducible apply windowBarred_ok
    | with_reducible apply putOperand_ok
    | with_reducible apply endCmd_ok
    | with_reducible apply modCtx_ok
    | with_reducible refine Ok.ofPair ?_ (by with_reducible assumption)
    | intro _ _ _
    | intro _ _
    | split
    | (simp only [ok_lit]; with_reducible refine OkLit.of ?_ ?_ ?_ ?_ ?_ ?_ ?_ ?_ ?_)
    | exact fun h => h
    | exact fun _ => rfl
    | exact Nat.le_refl _
    | dsimp only
    | dsimp only [id]
    | (intro hl; simp [hl]; done)

theorem noteDigest_ok {s0 : State} {c : CtxId} {q n : Nat} {s : State} (hok : Ok s0 s) :
    Ok s0 (noteDigest c q n s) := by
  unfold noteDigest
  repeat' first
    | with_reducible assumption
    | (extract_lets +onlyGivenNames x
       first
       | (refine okStep (s0 := s0) (x := x) (fun hx => ?_) ?_; clear_value x; rotate_left; subst x)
       | subst x)
    | with_reducible refine Ok.ite ?_ ?_
    | with_reducible apply modCmd_ok
    | intro _ _ _
    | intro _ _
    | split
    | (simp only [ok_lit]; with_reducible refine OkLit.of ?_ ?_ ?_ ?_ ?_ ?_ ?_ ?_ ?_)
    | exact fun h => h
    | exact fun _ => rfl
    | exact Nat.le_refl _
    | dsimp only
    | dsimp only [id]

theorem runDigest_ok {s0 : State} {x : Cmd} {cx : Ctx} {s : State} (hok : Ok s0 s) :
    Ok s0 (runDigest x cx s) := by
  unfold runDigest
  repeat' first
    | with_reducible assumption
    | (extract_lets +onlyGivenNames x
       first
       | (refine okStep (s0 := s0) (x := x) (fun hx => ?_) ?_; clear_value x; rotate_left; subst x)
       | subst x)
    | with_reducible refine Ok.ite ?_ ?_
    | with_reducible apply finishDigest_ok
    | with_reducible apply readLeaf_ok
    | with_reducible apply noteDigest_ok
    | with_reducible apply modCmd_ok
    | with_reducible refine Ok.ofPair ?_ (by with_reducible assumption)
    | intro _ _ _
    | intro _ _
    | split
    | (simp only [ok_lit]; with_reducible refine OkLit.of ?_ ?_ ?_ ?_ ?_ ?_ ?_ ?_ ?_)
    | exact fun h => h
    | exact fun _ => rfl
    | exact Nat.le_refl _
    | dsimp only
    | dsimp only [id]

theorem digestCmdStep_ok {s0 : State} {c : CtxId} {q : Nat} {s : State} (hok : Ok s0 s) :
    Ok s0 (digestCmdStep c q s) := by
  unfold digestCmdStep
  repeat' first
    | with_reducible assumption
    | with_reducible apply withCmd_ok
    | with_reducible apply runDigest_ok
    | with_reducible apply serveStep_ok
    | intro _ _ _
    | intro _ _
    | dsimp only
    | dsimp only [id]

theorem execDigestRange_ok {s0 : State} {c : CtxId} {q : Nat} {s : State} (hok : Ok s0 s) :
    OutOk s0 (execDigestRange c q s) := by
  unfold execDigestRange
  refine ⟨_, rfl, ?_⟩
  repeat' first
    | with_reducible assumption
    | with_reducible refine Ok.ite ?_ ?_
    | with_reducible apply digestCmdStep_ok
    | intro _ _ _
    | intro _ _
    | split
    | dsimp only
    | dsimp only [id]

theorem digestStep_ok {s0 : State} {n : Fin 2} {s : State} (hok : Ok s0 s) :
    Ok s0 (digestStep n s) := by
  unfold digestStep
  repeat' first
    | with_reducible assumption
    | (extract_lets +onlyGivenNames x
       first
       | (refine okStep (s0 := s0) (x := x) (fun hx => ?_) ?_; clear_value x; rotate_left; subst x)
       | subst x)
    | with_reducible refine Ok.ite ?_ ?_
    | with_reducible apply digestCmdStep_ok
    | with_reducible refine Ok.ofPair ?_ (by with_reducible assumption)
    | intro _ _ _
    | intro _ _
    | split
    | (simp only [ok_lit]; with_reducible refine OkLit.of ?_ ?_ ?_ ?_ ?_ ?_ ?_ ?_ ?_)
    | exact fun h => h
    | exact fun _ => rfl
    | exact Nat.le_refl _
    | dsimp only
    | dsimp only [id]

theorem readAfresh_ok {s0 : State} {cx : Ctx} {c : CtxId} {use : ReadUse} {s : State} (hok : Ok s0 s) :
    Ok s0 (readAfresh cx c use s) := by
  unfold readAfresh
  repeat' first
    | with_reducible assumption
    | (extract_lets +onlyGivenNames x
       first
       | (refine okStep (s0 := s0) (x := x) (fun hx => ?_) ?_; clear_value x; rotate_left; subst x)
       | subst x)
    | with_reducible refine Ok.ite ?_ ?_
    | with_reducible apply modFixed_ok
    | with_reducible apply staleReads_ok
    | intro _ _ _
    | intro _ _
    | split
    | (simp only [ok_lit]; with_reducible refine OkLit.of ?_ ?_ ?_ ?_ ?_ ?_ ?_ ?_ ?_)
    | exact fun h => h
    | exact fun _ => rfl
    | exact Nat.le_refl _
    | dsimp only
    | dsimp only [id]
    | (intro hl; simp [hl]; done)

theorem restartReads_ok {s0 : State} {b : Nat} {what : ScanFor} {x : Cmd} {s : State} (hok : Ok s0 s) :
    Ok s0 (restartReads b what x s) := by
  unfold restartReads
  repeat' first
    | with_reducible assumption
    | (extract_lets +onlyGivenNames x
       first
       | (refine okStep (s0 := s0) (x := x) (fun hx => ?_) ?_; clear_value x; rotate_left; subst x)
       | subst x)
    | with_reducible refine Ok.ite ?_ ?_
    | with_reducible apply readAfresh_ok
    | with_reducible apply modCmd_ok
    | with_reducible refine Ok.ofPair ?_ (by with_reducible assumption)
    | intro _ _ _
    | intro _ _
    | split
    | (simp only [ok_lit]; with_reducible refine OkLit.of ?_ ?_ ?_ ?_ ?_ ?_ ?_ ?_ ?_)
    | exact fun h => h
    | exact fun _ => rfl
    | exact Nat.le_refl _
    | dsimp only
    | dsimp only [id]

theorem finishScan_ok {s0 : State} {b : Bank} {s : State} (hok : Ok s0 s) :
    Ok s0 (finishScan b s) := by
  unfold finishScan
  repeat' first
    | with_reducible assumption
    | (extract_lets +onlyGivenNames x
       first
       | (refine okStep (s0 := s0) (x := x) (fun hx => ?_) ?_; clear_value x; rotate_left; subst x)
       | subst x)
    | with_reducible apply foldState_ok
    | with_reducible apply restartReads_ok
    | with_reducible apply leasesEnded_ok
    | with_reducible apply scanBank_ok
    | with_reducible refine Ok.ofPair ?_ (by with_reducible assumption)
    | intro _ _ _
    | intro _ _
    | split
    | (simp only [ok_lit]; with_reducible refine OkLit.of ?_ ?_ ?_ ?_ ?_ ?_ ?_ ?_ ?_)
    | exact fun h => h
    | exact fun _ => rfl
    | exact Nat.le_refl _
    | dsimp only
    | dsimp only [id]


/-! ### Machine/Complete.lean -/

theorem foldDigest_ok {s0 : State} {x : Cmd} {s : State} (hok : Ok s0 s) :
    Ok s0 (foldDigest x s) := by
  unfold foldDigest
  repeat' first
    | with_reducible assumption
    | with_reducible refine Ok.ite ?_ ?_
    | with_reducible apply foldAcc_ok
    | intro _ _ _
    | intro _ _
    | split
    | dsimp only
    | dsimp only [id]

theorem foldOutput_ok {s0 : State} {x : Cmd} {s : State} (hok : Ok s0 s) :
    Ok s0 (foldOutput x s) := by
  unfold foldOutput
  repeat' first
    | with_reducible assumption
    | (extract_lets +onlyGivenNames x
       first
       | (refine okStep (s0 := s0) (x := x) (fun hx => ?_) ?_; clear_value x; rotate_left; subst x)
       | subst x)
    | with_reducible refine Ok.ite ?_ ?_
    | with_reducible apply foldAcc_ok
    | with_reducible refine Ok.ofPair ?_ (by with_reducible assumption)
    | intro _ _ _
    | intro _ _
    | split
    | (simp only [ok_lit]; with_reducible refine OkLit.of ?_ ?_ ?_ ?_ ?_ ?_ ?_ ?_ ?_)
    | exact fun h => h
    | exact fun _ => rfl
    | exact Nat.le_refl _
    | dsimp only
    | dsimp only [id]

theorem completeSignal_ok {s0 : State} {x : Cmd} {g : Fun} {r : FenceRef} {s : State} (hok : Ok s0 s) :
    Ok s0 (completeSignal x g r s) := by
  unfold completeSignal
  repeat' first
    | with_reducible assumption
    | (extract_lets +onlyGivenNames x
       first
       | (refine okStep (s0 := s0) (x := x) (fun hx => ?_) ?_; clear_value x; rotate_left; subst x)
       | subst x)
    | with_reducible refine Ok.ite ?_ ?_
    | with_reducible apply faultCmd_ok
    | with_reducible apply signalFence_ok
    | with_reducible refine Ok.ofPair ?_ (by with_reducible assumption)
    | intro _ _ _
    | intro _ _
    | split
    | (simp only [ok_lit]; with_reducible refine OkLit.of ?_ ?_ ?_ ?_ ?_ ?_ ?_ ?_ ?_)
    | exact fun h => h
    | exact fun _ => rfl
    | exact Nat.le_refl _
    | dsimp only
    | dsimp only [id]

theorem countCompletion_ok {s0 : State} {c : CtxId} {g : Fun} {lost : Bool} {s : State} (hok : Ok s0 s) :
    Ok s0 (countCompletion c g lost s) := by
  unfold countCompletion
  repeat' first
    | with_reducible assumption
    | (extract_lets +onlyGivenNames x
       first
       | (refine okStep (s0 := s0) (x := x) (fun hx => ?_) ?_; clear_value x; rotate_left; subst x)
       | subst x)
    | with_reducible refine Ok.ite ?_ ?_
    | with_reducible apply modCtx_ok
    | with_reducible apply saturated_ok
    | with_reducible refine Ok.ofPair ?_ (by with_reducible assumption)
    | intro _ _ _
    | intro _ _
    | split
    | (simp only [ok_lit]; with_reducible refine OkLit.of ?_ ?_ ?_ ?_ ?_ ?_ ?_ ?_ ?_)
    | exact fun h => h
    | exact fun _ => rfl
    | exact Nat.le_refl _
    | dsimp only
    | dsimp only [id]

theorem completionRecord_ok {s0 : State} {x : Cmd} {cx : Ctx} {st : CStatus} {s : State} (hok : Ok s0 s) :
    Ok s0 (completionRecord x cx st s) := by
  unfold completionRecord
  repeat' first
    | with_reducible assumption
    | with_reducible refine Ok.ite ?_ ?_
    | with_reducible apply formEvent_ok
    | intro _ _ _
    | intro _ _
    | split
    | dsimp only
    | dsimp only [id]

theorem freeEntry_ok {s0 : State} {x : Cmd} {s : State} (hok : Ok s0 s) :
    Ok s0 (freeEntry x s) := by
  unfold freeEntry
  repeat' first
    | with_reducible assumption
    | (extract_lets +onlyGivenNames x
       first
       | (refine okStep (s0 := s0) (x := x) (fun hx => ?_) ?_; clear_value x; rotate_left; subst x)
       | subst x)
    | with_reducible apply drainTag_ok
    | intro _ _ _
    | intro _ _
    | (simp only [ok_lit]; with_reducible refine OkLit.of ?_ ?_ ?_ ?_ ?_ ?_ ?_ ?_ ?_)
    | exact fun h => h
    | exact fun _ => rfl
    | exact Nat.le_refl _
    | dsimp only
    | dsimp only [id]

theorem completeCmd_ok {s0 : State} {c : CtxId} {q : Nat} {s : State} (hok : Ok s0 s) :
    Ok s0 (completeCmd c q s) := by
  unfold completeCmd
  repeat' first
    | with_reducible assumption
    | (extract_lets +onlyGivenNames x
       first
       | (refine okStep (s0 := s0) (x := x) (fun hx => ?_) ?_; clear_value x; rotate_left; subst x)
       | subst x)
    | with_reducible refine Ok.ite ?_ ?_
    | with_reducible apply foldState_ok
    | with_reducible apply completeSignal_ok
    | with_reducible apply foldDigest_ok
    | with_reducible apply foldOutput_ok
    | with_reducible apply completionRecord_ok
    | with_reducible apply freeEntry_ok
    | with_reducible apply countCompletion_ok
    | with_reducible apply abandonCredit_ok
    | with_reducible refine Ok.ofPair ?_ (by with_reducible assumption)
    | intro _ _ _
    | intro _ _
    | split
    | (simp only [ok_lit]; with_reducible refine OkLit.of ?_ ?_ ?_ ?_ ?_ ?_ ?_ ?_ ?_)
    | exact fun h => h
    | exact fun _ => rfl
    | exact Nat.le_refl _
    | dsimp only
    | dsimp only [id]

theorem execCommandCompletion_ok {s0 : State} {c : CtxId} {q : Nat} {s : State} (hok : Ok s0 s) :
    OutOk s0 (execCommandCompletion c q s) := by
  unfold execCommandCompletion
  refine ⟨_, rfl, ?_⟩
  repeat' first
    | with_reducible assumption
    | with_reducible apply completeCmd_ok
    | intro _ _ _
    | intro _ _
    | dsimp only
    | dsimp only [id]

theorem tagDrained_ok {s0 : State} {tag : U16} {s : State} (hok : Ok s0 s) :
    Ok s0 (tagDrained tag s) := by
  unfold tagDrained
  repeat' first
    | with_reducible assumption
    | (extract_lets +onlyGivenNames x
       first
       | (refine okStep (s0 := s0) (x := x) (fun hx => ?_) ?_; clear_value x; rotate_left; subst x)
       | subst x)
    | intro _ _ _
    | intro _ _
    | (simp only [ok_lit]; with_reducible refine OkLit.of ?_ ?_ ?_ ?_ ?_ ?_ ?_ ?_ ?_)
    | exact fun h => h
    | exact fun _ => rfl
    | exact Nat.le_refl _
    | dsimp only
    | dsimp only [id]

theorem execStreamTagDrained_ok {s0 : State} {tag : U16} {s : State} (hok : Ok s0 s) :
    OutOk s0 (execStreamTagDrained tag s) := by
  unfold execStreamTagDrained
  refine ⟨_, rfl, ?_⟩
  repeat' first
    | with_reducible assumption
    | with_reducible apply tagDrained_ok
    | intro _ _ _
    | intro _ _
    | dsimp only
    | dsimp only [id]

theorem execStreamBeatUnknownTag_ok {s0 : State} {tag : U16} {s : State} (hok : Ok s0 s) :
    OutOk s0 (execStreamBeatUnknownTag tag s) := by
  unfold execStreamBeatUnknownTag
  refine ⟨_, rfl, ?_⟩
  repeat' first
    | with_reducible assumption
    | with_reducible refine Ok.ite ?_ ?_
    | with_reducible apply raiseError_ok
    | intro _ _ _
    | intro _ _
    | split
    | dsimp only
    | dsimp only [id]

theorem partEnd_ok {s0 : State} {cluster : Nat} {c : CtxId} {q k : Nat} {s : State} (hok : Ok s0 s) :
    Ok s0 (partEnd cluster c q k s) := by
  unfold partEnd
  repeat' first
    | with_reducible assumption
    | (extract_lets +onlyGivenNames x
       first
       | (refine okStep (s0 := s0) (x := x) (fun hx => ?_) ?_; clear_value x; rotate_left; subst x)
       | subst x)
    | with_reducible refine Ok.ite ?_ ?_
    | with_reducible apply modCmd_ok
    | with_reducible apply applyLate_ok
    | with_reducible apply endCmd_ok
    | with_reducible apply fenceClusters_ok
    | with_reducible refine Ok.ofPair ?_ (by with_reducible assumption)
    | intro _ _ _
    | intro _ _
    | split
    | (simp only [ok_lit]; with_reducible refine OkLit.of ?_ ?_ ?_ ?_ ?_ ?_ ?_ ?_ ?_)
    | exact fun h => h
    | exact fun _ => rfl
    | exact Nat.le_refl _
    | dsimp only
    | dsimp only [id]
    | (intro hl; simp [hl]; done)

theorem execPartEnd_ok {s0 : State} {cluster : Nat} {c : CtxId} {q k : Nat} {s : State} (hok : Ok s0 s) :
    OutOk s0 (execPartEnd cluster c q k s) := by
  unfold execPartEnd
  refine ⟨_, rfl, ?_⟩
  repeat' first
    | with_reducible assumption
    | with_reducible apply partEnd_ok
    | intro _ _ _
    | intro _ _
    | dsimp only
    | dsimp only [id]

theorem execPartCancelTimeout_ok {s0 : State} {cluster : Nat} {c : CtxId} {q k : Nat} {s : State} (hok : Ok s0 s) :
    OutOk s0 (execPartCancelTimeout cluster c q k s) := by
  unfold execPartCancelTimeout
  refine ⟨_, rfl, ?_⟩
  repeat' first
    | with_reducible assumption
    | with_reducible refine Ok.ite ?_ ?_
    | with_reducible apply fenceClusters_ok
    | intro _ _ _
    | intro _ _
    | split
    | dsimp only
    | dsimp only [id]


/-! ### Machine/HostReads.lean -/

theorem freeTagOf_ok {s0 : State} {p : Port} {t : ReqTag} {s : State} (hok : Ok s0 s) :
    Ok s0 (freeTagOf p t s) := by
  unfold freeTagOf
  repeat' first
    | with_reducible assumption
    | (extract_lets +onlyGivenNames x
       first
       | (refine okStep (s0 := s0) (x := x) (fun hx => ?_) ?_; clear_value x; rotate_left; subst x)
       | subst x)
    | with_reducible apply serveWaits_ok
    | with_reducible apply modPort_ok
    | intro _ _ _
    | intro _ _
    | (simp only [ok_lit]; with_reducible refine OkLit.of ?_ ?_ ?_ ?_ ?_ ?_ ?_ ?_ ?_)
    | exact fun h => h
    | exact fun _ => rfl
    | exact Nat.le_refl _
    | dsimp only
    | dsimp only [id]
    | (intro hl; simp [hl]; done)

theorem imageFails_ok {s0 : State} {s : State} (hok : Ok s0 s) :
    Ok s0 (imageFails s) := by
  unfold imageFails
  repeat' first
    | with_reducible assumption
    | (extract_lets +onlyGivenNames x
       first
       | (refine okStep (s0 := s0) (x := x) (fun hx => ?_) ?_; clear_value x; rotate_left; subst x)
       | subst x)
    | with_reducible refine Ok.ite ?_ ?_
    | with_reducible apply quarantine_ok
    | intro _ _ _
    | intro _ _
    | split
    | (simp only [ok_lit]; with_reducible refine OkLit.of ?_ ?_ ?_ ?_ ?_ ?_ ?_ ?_ ?_)
    | exact fun h => h
    | exact fun _ => rfl
    | exact Nat.le_refl _
    | dsimp only
    | dsimp only [id]

theorem entryReadFails_ok {s0 : State} {c : CtxId} {st : CStatus} {s : State} (hok : Ok s0 s) :
    Ok s0 (entryReadFails c st s) := by
  unfold entryReadFails
  repeat' first
    | with_reducible assumption
    | (extract_lets +onlyGivenNames x
       first
       | (refine okStep (s0 := s0) (x := x) (fun hx => ?_) ?_; clear_value x; rotate_left; subst x)
       | subst x)
    | with_reducible apply entryFails_ok
    | with_reducible refine Ok.ofPair ?_ (by with_reducible assumption)
    | intro _ _ _
    | intro _ _
    | split
    | (simp only [ok_lit]; with_reducible refine OkLit.of ?_ ?_ ?_ ?_ ?_ ?_ ?_ ?_ ?_)
    | exact fun h => h
    | exact fun _ => rfl
    | exact Nat.le_refl _
    | dsimp only
    | dsimp only [id]

theorem readFails_ok {s0 : State} {u : TagUse} {poisoned_ : Bool} {s : State} (hok : Ok s0 s) :
    Ok s0 (readFails u poisoned_ s) := by
  unfold readFails
  repeat' first
    | with_reducible assumption
    | (extract_lets +onlyGivenNames x
       first
       | (refine okStep (s0 := s0) (x := x) (fun hx => ?_) ?_; clear_value x; rotate_left; subst x)
       | subst x)
    | with_reducible refine Ok.ite ?_ ?_
    | with_reducible apply entryReadFails_ok
    | with_reducible apply faultCmd_ok
    | with_reducible apply imageFails_ok
    | with_reducible apply entryComes_ok
    | with_reducible apply loseContext_ok
    | with_reducible refine Ok.ofPair ?_ (by with_reducible assumption)
    | intro _ _ _
    | intro _ _
    | split
    | (simp only [ok_lit]; with_reducible refine OkLit.of ?_ ?_ ?_ ?_ ?_ ?_ ?_ ?_ ?_)
    | exact fun h => h
    | exact fun _ => rfl
    | exact Nat.le_refl _
    | dsimp only
    | dsimp only [id]

theorem failureArrives_ok {s0 : State} {u : TagUse} {poisoned_ : Bool} {s : State} (hok : Ok s0 s) :
    Ok s0 (failureArrives u poisoned_ s) := by
  unfold failureArrives
  repeat' first
    | with_reducible assumption
    | (extract_lets +onlyGivenNames x
       first
       | (refine okStep (s0 := s0) (x := x) (fun hx => ?_) ?_; clear_value x; rotate_left; subst x)
       | subst x)
    | with_reducible refine Ok.ite ?_ ?_
    | with_reducible apply readFails_ok
    | with_reducible refine Ok.ofPair ?_ (by with_reducible assumption)
    | intro _ _ _
    | intro _ _
    | split
    | (simp only [ok_lit]; with_reducible refine OkLit.of ?_ ?_ ?_ ?_ ?_ ?_ ?_ ?_ ?_)
    | exact fun h => h
    | exact fun _ => rfl
    | exact Nat.le_refl _
    | dsimp only
    | dsimp only [id]

theorem readDone_ok {s0 : State} {p : Port} {u : TagUse} {b : Bytes} {s : State} (hok : Ok s0 s) :
    Ok s0 (readDone p u b s) := by
  unfold readDone
  repeat' first
    | with_reducible assumption
    | (extract_lets +onlyGivenNames x
       first
       | (refine okStep (s0 := s0) (x := x) (fun hx => ?_) ?_; clear_value x; rotate_left; subst x)
       | subst x)
    | with_reducible apply noteLog_ok
    | with_reducible apply entryComes_ok
    | with_reducible apply freeTagOf_ok
    | with_reducible apply giveRead_ok
    | with_reducible refine Ok.ofPair ?_ (by with_reducible assumption)
    | intro _ _ _
    | intro _ _
    | split
    | (simp only [ok_lit]; with_reducible refine OkLit.of ?_ ?_ ?_ ?_ ?_ ?_ ?_ ?_ ?_)
    | exact fun h => h
    | exact fun _ => rfl
    | exact Nat.le_refl _
    | dsimp only
    | dsimp only [id]
    | (intro hl; simp [hl]; done)

theorem setStatus_ok {s0 : State} {g : Fun} {m : Nat} {s : State} (hok : Ok s0 s) :
    Ok s0 (setStatus g m s) := by
  unfold setStatus
  repeat' first
    | with_reducible assumption
    | (extract_lets +onlyGivenNames x
       first
       | (refine okStep (s0 := s0) (x := x) (fun hx => ?_) ?_; clear_value x; rotate_left; subst x)
       | subst x)
    | with_reducible apply modCfg_ok
    | (intro x hx; (repeat' split) <;> exact ⟨hx.command, hx.devCtl, hx.devCtl2, hx.bar0⟩)
    | intro _ _ _
    | intro _ _
    | (simp only [ok_lit]; with_reducible refine OkLit.of ?_ ?_ ?_ ?_ ?_ ?_ ?_ ?_ ?_)
    | exact fun h => h
    | exact fun _ => rfl
    | exact Nat.le_refl _
    | dsimp only
    | dsimp only [id]

theorem completionArrives_ok {s0 : State} {p : Port} {t : ReqTag} {st : CplStatus} {poisoned_ : Bool} {off : Nat} {b : Bytes} {s : State} (hok : Ok s0 s) :
    Ok s0 (completionArrives p t st poisoned_ off b s) := by
  unfold completionArrives
  repeat' first
    | with_reducible assumption
    | (extract_lets +onlyGivenNames x
       first
       | (refine okStep (s0 := s0) (x := x) (fun hx => ?_) ?_; clear_value x; rotate_left; subst x)
       | subst x)
    | with_reducible refine Ok.ite ?_ ?_
    | with_reducible apply aerCorrectable_ok
    | with_reducible apply modCfg_ok
    | with_reducible apply countPort_ok
    | with_reducible apply freeTagOf_ok
    | with_reducible apply failureArrives_ok
    | with_reducible apply setStatus_ok
    | with_reducible apply poisonedTlp_ok
    | with_reducible apply readDone_ok
    | with_reducible apply modPort_ok
    | (intro x hx; (repeat' split) <;> exact ⟨hx.command, hx.devCtl, hx.devCtl2, hx.bar0⟩)
    | with_reducible refine Ok.ofPair ?_ (by with_reducible assumption)
    | intro _ _ _
    | intro _ _
    | split
    | (simp only [ok_lit]; with_reducible refine OkLit.of ?_ ?_ ?_ ?_ ?_ ?_ ?_ ?_ ?_)
    | exact fun h => h
    | exact fun _ => rfl
    | exact Nat.le_refl _
    | dsimp only
    | dsimp only [id]
    | (intro hl; simp [hl]; done)

theorem adminEntry_ok {s0 : State} {g : Fun} {ok : Bool} {entry : Bytes} {s : State} (hok : Ok s0 s) :
    Ok s0 (adminEntry g ok entry s) := by
  unfold adminEntry
  repeat' first
    | with_reducible assumption
    | (extract_lets +onlyGivenNames x
       first
       | (refine okStep (s0 := s0) (x := x) (fun hx => ?_) ?_; clear_value x; rotate_left; subst x)
       | subst x)
    | with_reducible apply askAdmin_ok
    | with_reducible apply freeTagOf_ok
    | with_reducible apply entryComes_ok
    | with_reducible refine Ok.ofPair ?_ (by with_reducible assumption)
    | intro _ _ _
    | intro _ _
    | split
    | (simp only [ok_lit]; with_reducible refine OkLit.of ?_ ?_ ?_ ?_ ?_ ?_ ?_ ?_ ?_)
    | exact fun h => h
    | exact fun _ => rfl
    | exact Nat.le_refl _
    | dsimp only
    | dsimp only [id]

theorem execAdminEntryRead_ok {s0 : State} {g : Fun} {ok : Bool} {entry : Bytes} {s : State} (hok : Ok s0 s) :
    OutOk s0 (execAdminEntryRead g ok entry s) := by
  unfold execAdminEntryRead
  refine ⟨_, rfl, ?_⟩
  repeat' first
    | with_reducible assumption
    | with_reducible apply adminEntry_ok
    | intro _ _ _
    | intro _ _
    | dsimp only
    | dsimp only [id]

theorem execCompletionReceived_ok {s0 : State} {p : Port} {t : ReqTag} {st : CplStatus} {poisoned_ : Bool} {off : Nat} {b : Bytes} {s : State} (hok : Ok s0 s) :
    OutOk s0 (execCompletionReceived p t st poisoned_ off b s) := by
  unfold execCompletionReceived
  refine ⟨_, rfl, ?_⟩
  repeat' first
    | with_reducible assumption
    | with_reducible apply completionArrives_ok
    | intro _ _ _
    | intro _ _
    | dsimp only
    | dsimp only [id]

theorem atsDenied_ok {s0 : State} {g : Fun} {pasid : BitVec 20} {unit : Nat} {write : Option Bool} {s : State} (hok : Ok s0 s) :
    Ok s0 (atsDenied g pasid unit write s) := by
  unfold atsDenied
  repeat' first
    | with_reducible assumption
    | (extract_lets +onlyGivenNames x
       first
       | (refine okStep (s0 := s0) (x := x) (fun hx => ?_) ?_; clear_value x; rotate_left; subst x)
       | (refine okStep (s0 := s0) (x := x.1) (fun hx => ?_) ?_; clear_value x; rotate_left; subst x)
       | subst x)
    | with_reducible refine Ok.ite ?_ ?_
    | with_reducible apply foldState_ok
    | with_reducible apply entryFails_ok
    | with_reducible apply countFn_ok
    | with_reducible apply modCmd_ok
    | with_reducible apply operandRuns_ok
    | with_reducible apply operandFault_ok
    | with_reducible refine Ok.ofPair ?_ (by with_reducible assumption)
    | intro _ _ _
    | intro _ _
    | split
    | (simp only [ok_lit]; with_reducible refine OkLit.of ?_ ?_ ?_ ?_ ?_ ?_ ?_ ?_ ?_)
    | exact fun h => h
    | exact fun _ => rfl
    | exact Nat.le_refl _
    | dsimp only
    | dsimp only [id]
    | (intro hl; simp [hl]; done)

theorem readTimesOut_ok {s0 : State} {p : Port} {t : ReqTag} {s : State} (hok : Ok s0 s) :
    Ok s0 (readTimesOut p t s) := by
  unfold readTimesOut
  repeat' first
    | with_reducible assumption
    | (extract_lets +onlyGivenNames x
       first
       | (refine okStep (s0 := s0) (x := x) (fun hx => ?_) ?_; clear_value x; rotate_left; subst x)
       | subst x)
    | with_reducible refine Ok.ite ?_ ?_
    | with_reducible apply quarantineTag_ok
    | with_reducible apply atsDenied_ok
    | with_reducible apply readFails_ok
    | with_reducible apply aerUncorrectable_ok
    | with_reducible refine Ok.ofPair ?_ (by with_reducible assumption)
    | intro _ _ _
    | intro _ _
    | split
    | (simp only [ok_lit]; with_reducible refine OkLit.of ?_ ?_ ?_ ?_ ?_ ?_ ?_ ?_ ?_)
    | exact fun h => h
    | exact fun _ => rfl
    | exact Nat.le_refl _
    | dsimp only
    | dsimp only [id]

theorem execCompletionTimeout_ok {s0 : State} {p : Port} {t : ReqTag} {s : State} (hok : Ok s0 s) :
    OutOk s0 (execCompletionTimeout p t s) := by
  unfold execCompletionTimeout
  refine ⟨_, rfl, ?_⟩
  repeat' first
    | with_reducible assumption
    | with_reducible apply readTimesOut_ok
    | intro _ _ _
    | intro _ _
    | dsimp only
    | dsimp only [id]

theorem execQuarantineExpiry_ok {s0 : State} {p : Port} {t : ReqTag} {s : State} (hok : Ok s0 s) :
    OutOk s0 (execQuarantineExpiry p t s) := by
  unfold execQuarantineExpiry
  refine ⟨_, rfl, ?_⟩
  repeat' first
    | with_reducible assumption
    | (extract_lets +onlyGivenNames x
       first
       | (refine okStep (s0 := s0) (x := x) (fun hx => ?_) ?_; clear_value x; rotate_left; subst x)
       | subst x)
    | with_reducible refine Ok.ite ?_ ?_
    | with_reducible apply freeTagOf_ok
    | intro _ _ _
    | intro _ _
    | split
    | (simp only [ok_lit]; with_reducible refine OkLit.of ?_ ?_ ?_ ?_ ?_ ?_ ?_ ?_ ?_)
    | exact fun h => h
    | exact fun _ => rfl
    | exact Nat.le_refl _
    | dsimp only
    | dsimp only [id]


/-! ### Machine/Translation.lean -/

theorem execTranslationLookup_ok {s0 : State} {c : CtxId} {va : U64} {need : Need} {s : State} (hok : Ok s0 s) :
    OutOk s0 (execTranslationLookup c va need s) := by
  unfold execTranslationLookup
  refine ⟨_, rfl, ?_⟩
  repeat' first
    | with_reducible assumption
    | with_reducible apply lookup_ok
    | intro _ _ _
    | intro _ _
    | dsimp only
    | dsimp only [id]

theorem denyLease_ok {s0 : State} {cluster slot : Nat} {c : CtxId} {va : Nat} {need : Need} {code : TCode} {st : CStatus} {s : State} (hok : Ok s0 s) :
    Ok s0 (denyLease cluster slot c va need code st s) := by
  unfold denyLease
  repeat' first
    | with_reducible assumption
    | (extract_lets +onlyGivenNames x
       first
       | (refine okStep (s0 := s0) (x := x) (fun hx => ?_) ?_; clear_value x; rotate_left; subst x)
       | subst x)
    | with_reducible apply emit_ok
    | with_reducible apply loseContext_ok
    | intro _ _ _
    | intro _ _
    | dsimp only
    | dsimp only [id]
    | (intro hl; simp [hl]; done)

theorem grantLease_ok {s0 : State} {cluster slot : Nat} {c : CtxId} {a : Asker} {e : REntry} {va : Nat} {s : State} (hok : Ok s0 s) :
    Ok s0 (grantLease cluster slot c a e va s) := by
  unfold grantLease
  repeat' first
    | with_reducible assumption
    | (extract_lets +onlyGivenNames x
       first
       | (refine okStep (s0 := s0) (x := x) (fun hx => ?_) ?_; clear_value x; rotate_left; subst x)
       | subst x)
    | with_reducible apply countPackage_ok
    | with_reducible apply emit_ok
    | with_reducible apply leasesEnded_ok
    | with_reducible refine Ok.ofPair ?_ (by with_reducible assumption)
    | intro _ _ _
    | intro _ _
    | split
    | (simp only [ok_lit]; with_reducible refine OkLit.of ?_ ?_ ?_ ?_ ?_ ?_ ?_ ?_ ?_)
    | exact fun h => h
    | exact fun _ => rfl
    | exact Nat.le_refl _
    | dsimp only
    | dsimp only [id]

theorem holdLease_ok {s0 : State} {cluster slot : Nat} {c : CtxId} {va : Nat} {need : Need} {s : State} (hok : Ok s0 s) :
    Ok s0 (holdLease cluster slot c va need s) := by
  unfold holdLease
  repeat' first
    | with_reducible assumption
    | (extract_lets +onlyGivenNames x
       first
       | (refine okStep (s0 := s0) (x := x) (fun hx => ?_) ?_; clear_value x; rotate_left; subst x)
       | subst x)
    | intro _ _ _
    | intro _ _
    | (simp only [ok_lit]; with_reducible refine OkLit.of ?_ ?_ ?_ ?_ ?_ ?_ ?_ ?_ ?_)
    | exact fun h => h
    | exact fun _ => rfl
    | exact Nat.le_refl _
    | dsimp only
    | dsimp only [id]

theorem leaseRequest_ok {s0 : State} {cluster slot : Nat} {c : CtxId} {va : Nat} {need : Need} {s : State} (hok : Ok s0 s) :
    Ok s0 (leaseRequest cluster slot c va need s) := by
  unfold leaseRequest
  repeat' first
    | with_reducible assumption
    | (extract_lets +onlyGivenNames x
       first
       | (refine okStep (s0 := s0) (x := x) (fun hx => ?_) ?_; clear_value x; rotate_left; subst x)
       | subst x)
    | with_reducible refine Ok.ite ?_ ?_
    | with_reducible apply emit_ok
    | with_reducible apply countFn_ok
    | with_reducible apply holdLease_ok
    | with_reducible apply translate_ok
    | with_reducible apply grantLease_ok
    | with_reducible apply denyLease_ok
    | with_reducible refine Ok.ofPair ?_ (by with_reducible assumption)
    | intro _ _ _
    | intro _ _
    | split
    | (simp only [ok_lit]; with_reducible refine OkLit.of ?_ ?_ ?_ ?_ ?_ ?_ ?_ ?_ ?_)
    | exact fun h => h
    | exact fun _ => rfl
    | exact Nat.le_refl _
    | dsimp only
    | dsimp only [id]

theorem enter_ok {s0 : State} {a : Arrival} {s : State} (hok : Ok s0 s) :
    Ok s0 (enter a s) := by
  unfold enter
  repeat' first
    | with_reducible assumption
    | (extract_lets +onlyGivenNames x
       first
       | (refine okStep (s0 := s0) (x := x) (fun hx => ?_) ?_; clear_value x; rotate_left; subst x)
       | subst x)
    | with_reducible apply leaseRequest_ok
    | with_reducible apply readFails_ok
    | with_reducible apply faultCmd_ok
    | with_reducible refine Ok.ofPair ?_ (by with_reducible assumption)
    | intro _ _ _
    | intro _ _
    | split
    | (simp only [ok_lit]; with_reducible refine OkLit.of ?_ ?_ ?_ ?_ ?_ ?_ ?_ ?_ ?_)
    | exact fun h => h
    | exact fun _ => rfl
    | exact Nat.le_refl _
    | dsimp only
    | dsimp only [id]

theorem enterWhere_ok {s0 : State} {p : Arrival → Bool} {s : State} (hok : Ok s0 s) :
    Ok s0 (enterWhere p s) := by
  unfold enterWhere
  repeat' first
    | with_reducible assumption
    | (extract_lets +onlyGivenNames x
       first
       | (refine okStep (s0 := s0) (x := x) (fun hx => ?_) ?_; clear_value x; rotate_left; subst x)
       | subst x)
    | with_reducible apply foldState_ok
    | with_reducible apply enter_ok
    | intro _ _ _
    | intro _ _
    | (simp only [ok_lit]; with_reducible refine OkLit.of ?_ ?_ ?_ ?_ ?_ ?_ ?_ ?_ ?_)
    | exact fun h => h
    | exact fun _ => rfl
    | exact Nat.le_refl _
    | dsimp only
    | dsimp only [id]

theorem letIn_ok {s0 : State} {c : CtxId} {s : State} (hok : Ok s0 s) :
    Ok s0 (letIn c s) := by
  unfold letIn
  repeat' first
    | with_reducible assumption
    | with_reducible apply enterWhere_ok
    | intro _ _ _
    | intro _ _
    | dsimp only
    | dsimp only [id]

theorem retryLeases_ok {s0 : State} {s : State} (hok : Ok s0 s) :
    Ok s0 (retryLeases s) := by
  unfold retryLeases
  repeat' first
    | with_reducible assumption
    | (extract_lets +onlyGivenNames x
       first
       | (refine okStep (s0 := s0) (x := x) (fun hx => ?_) ?_; clear_value x; rotate_left; subst x)
       | subst x)
    | with_reducible apply enterWhere_ok
    | with_reducible refine Ok.ofPair ?_ (by with_reducible assumption)
    | intro _ _ _
    | intro _ _
    | split
    | (simp only [ok_lit]; with_reducible refine OkLit.of ?_ ?_ ?_ ?_ ?_ ?_ ?_ ?_ ?_)
    | exact fun h => h
    | exact fun _ => rfl
    | exact Nat.le_refl _
    | dsimp only
    | dsimp only [id]

theorem execLeaseRequest_ok {s0 : State} {cluster slot : Nat} {c : CtxId} {va : U64} {need : Need} {s : State} (hok : Ok s0 s) :
    OutOk s0 (execLeaseRequest cluster slot c va need s) := by
  unfold execLeaseRequest
  refine ⟨_, rfl, ?_⟩
  repeat' first
    | with_reducible assumption
    | with_reducible apply leaseRequest_ok
    | intro _ _ _
    | intro _ _
    | dsimp only
    | dsimp only [id]

theorem execRangeScanDone_ok {s0 : State} {bank : Bank} {s : State} (hok : Ok s0 s) :
    OutOk s0 (execRangeScanDone bank s) := by
  unfold execRangeScanDone
  refine ⟨_, rfl, ?_⟩
  repeat' first
    | with_reducible assumption
    | with_reducible apply finishScan_ok
    | intro _ _ _
    | intro _ _
    | dsimp only
    | dsimp only [id]

theorem atsKeep_ok {s0 : State} {p : Port} {e : AtsEntry} {s : State} (hok : Ok s0 s) :
    Ok s0 (atsKeep p e s) := by
  unfold atsKeep
  repeat' first
    | with_reducible assumption
    | (extract_lets +onlyGivenNames x
       first
       | (refine okStep (s0 := s0) (x := x) (fun hx => ?_) ?_; clear_value x; rotate_left; subst x)
       | subst x)
    | with_reducible apply forgetAts_ok
    | with_reducible apply modPort_ok
    | with_reducible refine Ok.ofPair ?_ (by with_reducible assumption)
    | intro _ _ _
    | intro _ _
    | split
    | (simp only [ok_lit]; with_reducible refine OkLit.of ?_ ?_ ?_ ?_ ?_ ?_ ?_ ?_ ?_)
    | exact fun h => h
    | exact fun _ => rfl
    | exact Nat.le_refl _
    | dsimp only
    | dsimp only [id]

theorem atsCompletes_ok {s0 : State} {p : Port} {t : ReqTag} {st : CplStatus} {translated : Nat} {rd wr : Bool} {s : State} (hok : Ok s0 s) :
    Ok s0 (atsCompletes p t st translated rd wr s) := by
  unfold atsCompletes
  repeat' first
    | with_reducible assumption
    | (extract_lets +onlyGivenNames x
       first
       | (refine okStep (s0 := s0) (x := x) (fun hx => ?_) ?_; clear_value x; rotate_left; subst x)
       | subst x)
    | with_reducible refine Ok.ite ?_ ?_
    | with_reducible apply aerCorrectable_ok
    | with_reducible apply modCfg_ok
    | with_reducible apply countPort_ok
    | with_reducible apply freeTagOf_ok
    | with_reducible apply atsDenied_ok
    | with_reducible apply atsKeep_ok
    | (intro x hx; (repeat' split) <;> exact ⟨hx.command, hx.devCtl, hx.devCtl2, hx.bar0⟩)
    | with_reducible refine Ok.ofPair ?_ (by with_reducible assumption)
    | intro _ _ _
    | intro _ _
    | split
    | (simp only [ok_lit]; with_reducible refine OkLit.of ?_ ?_ ?_ ?_ ?_ ?_ ?_ ?_ ?_)
    | exact fun h => h
    | exact fun _ => rfl
    | exact Nat.le_refl _
    | dsimp only
    | dsimp only [id]

theorem execAtsTranslationCompletion_ok {s0 : State} {p : Port} {t : ReqTag} {st : CplStatus} {translated : U64} {rd wr : Bool} {s : State} (hok : Ok s0 s) :
    OutOk s0 (execAtsTranslationCompletion p t st translated rd wr s) := by
  unfold execAtsTranslationCompletion
  refine ⟨_, rfl, ?_⟩
  repeat' first
    | with_reducible assumption
    | with_reducible apply atsCompletes_ok
    | intro _ _ _
    | intro _ _
    | dsimp only
    | dsimp only [id]

theorem atsInvalidate_ok {s0 : State} {p : Port} {itag : Nat} {pasid : BitVec 20} {a n : Nat} {s : State} (hok : Ok s0 s) :
    Ok s0 (atsInvalidate p itag pasid a n s) := by
  unfold atsInvalidate
  repeat' first
    | with_reducible assumption
    | (extract_lets +onlyGivenNames x
       first
       | (refine okStep (s0 := s0) (x := x) (fun hx => ?_) ?_; clear_value x; rotate_left; subst x)
       | subst x)
    | with_reducible refine Ok.ite ?_ ?_
    | with_reducible apply countPort_ok
    | with_reducible apply modPort_ok
    | with_reducible apply forgetAts_ok
    | with_reducible refine Ok.ofPair ?_ (by with_reducible assumption)
    | intro _ _ _
    | intro _ _
    | split
    | (simp only [ok_lit]; with_reducible refine OkLit.of ?_ ?_ ?_ ?_ ?_ ?_ ?_ ?_ ?_)
    | exact fun h => h
    | exact fun _ => rfl
    | exact Nat.le_refl _
    | dsimp only
    | dsimp only [id]
    | (intro hl; simp [hl]; done)

theorem execAtsInvalidateRequest_ok {s0 : State} {p : Port} {itag : Fin 32} {pasid : BitVec 20} {a : U64} {n : Nat} {s : State} (hok : Ok s0 s) :
    OutOk s0 (execAtsInvalidateRequest p itag pasid a n s) := by
  unfold execAtsInvalidateRequest
  refine ⟨_, rfl, ?_⟩
  repeat' first
    | with_reducible assumption
    | with_reducible apply atsInvalidate_ok
    | intro _ _ _
    | intro _ _
    | dsimp only
    | dsimp only [id]

theorem execAtsInvalidationCompletion_ok {s0 : State} {p : Port} {itag : Fin 32} {s : State} (hok : Ok s0 s) :
    OutOk s0 (execAtsInvalidationCompletion p itag s) := by
  unfold execAtsInvalidationCompletion
  refine ⟨_, rfl, ?_⟩
  repeat' first
    | with_reducible assumption
    | (extract_lets +onlyGivenNames x
       first
       | (refine okStep (s0 := s0) (x := x) (fun hx => ?_) ?_; clear_value x; rotate_left; subst x)
       | subst x)
    | with_reducible refine Ok.ite ?_ ?_
    | with_reducible apply emit_ok
    | with_reducible apply modPort_ok
    | intro _ _ _
    | intro _ _
    | split
    | (simp only [ok_lit]; with_reducible refine OkLit.of ?_ ?_ ?_ ?_ ?_ ?_ ?_ ?_ ?_)
    | exact fun h => h
    | exact fun _ => rfl
    | exact Nat.le_refl _
    | dsimp only
    | dsimp only [id]

theorem execPoolExtentWrite_ok {s0 : State} {rq : Requester} {g : Fun} {base bytes : Option U64} {s : State} (hok : Ok s0 s) :
    OutOk s0 (execPoolExtentWrite rq g base bytes s) := by
  unfold execPoolExtentWrite
  refine ⟨_, rfl, ?_⟩
  repeat' first
    | with_reducible assumption
    | (extract_lets +onlyGivenNames x
       first
       | (refine okStep (s0 := s0) (x := x) (fun hx => ?_) ?_; clear_value x; rotate_left; subst x)
       | subst x)
    | with_reducible apply putObj_ok
    | with_reducible apply requestWrite_ok
    | intro _ _ _
    | intro _ _
    | split
    | (simp only [ok_lit]; with_reducible refine OkLit.of ?_ ?_ ?_ ?_ ?_ ?_ ?_ ?_ ?_)
    | exact fun h => h
    | exact fun _ => rfl
    | exact Nat.le_refl _
    | dsimp only
    | dsimp only [id]

end Sys2Proof.Machine
end

