-- ==== Sys2Proof/Laws/KeepsLinks.lean ====
section
/-!
SUPPORT. What every command keeps (`Ok`), update by update: the pair link, windows, coherence, the pool, clocks, modes and ports.
Each lemma follows its definition: one let at a time, one branch at a time, and the lemma of each operation that it calls.
-/
set_option linter.unusedSimpArgs false

namespace Sys2Proof.Machine

/-! ### Machine/PairLink.lean -/

theorem modSession_ok {s0 : State} {p : PackageId} {f : PairSession → PairSession} {s : State} (hok : Ok s0 s) :
    Ok s0 (modSession p f s) := by
  unfold modSession
  repeat' first
    | with_reducible assumption
    | (extract_lets +onlyGivenNames x
       first
       | (refine okStep (s0 := s0) (x := x) (fun hx => ?_) ?_; clear_value x; rotate_left; subst x)
       | subst x)
    | with_reducible apply modPeer_ok
    | intro _ _ _
    | intro _ _
    | (simp only [ok_lit]; with_reducible refine OkLit.of ?_ ?_ ?_ ?_ ?_ ?_ ?_ ?_ ?_)
    | exact fun h => h
    | exact fun _ => rfl
    | exact Nat.le_refl _
    | dsimp only
    | dsimp only [id]
    | (intro hl; simp [hl]; done)

theorem takeAck_ok {s0 : State} {p : PackageId} {ack : U32} {s : State} (hok : Ok s0 s) :
    Ok s0 (takeAck p ack s) := by
  unfold takeAck
  repeat' first
    | with_reducible assumption
    | (extract_lets +onlyGivenNames x
       first
       | (refine okStep (s0 := s0) (x := x) (fun hx => ?_) ?_; clear_value x; rotate_left; subst x)
       | subst x)
    | with_reducible refine Ok.ite ?_ ?_
    | with_reducible apply modPeer_ok
    | with_reducible apply flushFrames_ok
    | with_reducible refine Ok.ofPair ?_ (by with_reducible assumption)
    | intro _ _ _
    | intro _ _
    | split
    | (simp only [ok_lit]; with_reducible refine OkLit.of ?_ ?_ ?_ ?_ ?_ ?_ ?_ ?_ ?_)
    | exact fun h => h
    | exact fun _ => rfl
    | exact Nat.le_refl _
    | dsimp only
    | dsimp only [id]

theorem opFails_ok {s0 : State} {code : DCode} {o : SendOp} {s : State} (hok : Ok s0 s) :
    Ok s0 (opFails code o s) := by
  unfold opFails
  repeat' first
    | with_reducible assumption
    | (extract_lets +onlyGivenNames x
       first
       | (refine okStep (s0 := s0) (x := x) (fun hx => ?_) ?_; clear_value x; rotate_left; subst x)
       | subst x)
    | with_reducible refine Ok.ite ?_ ?_
    | with_reducible apply countFn_ok
    | with_reducible apply tileFault_ok
    | with_reducible apply operandFault_ok
    | with_reducible refine Ok.ofPair ?_ (by with_reducible assumption)
    | intro _ _ _
    | intro _ _
    | split
    | (simp only [ok_lit]; with_reducible refine OkLit.of ?_ ?_ ?_ ?_ ?_ ?_ ?_ ?_ ?_)
    | exact fun h => h
    | exact fun _ => rfl
    | exact Nat.le_refl _
    | dsimp only
    | dsimp only [id]

theorem endOps_ok {s0 : State} {p : PackageId} {code : DCode} {s : State} (hok : Ok s0 s) :
    Ok s0 (endOps p code s) := by
  unfold endOps
  repeat' first
    | with_reducible assumption
    | (extract_lets +onlyGivenNames x
       first
       | (refine okStep (s0 := s0) (x := x) (fun hx => ?_) ?_; clear_value x; rotate_left; subst x)
       | subst x)
    | with_reducible apply foldState_ok
    | with_reducible apply opFails_ok
    | intro _ _ _
    | intro _ _
    | (simp only [ok_lit]; with_reducible refine OkLit.of ?_ ?_ ?_ ?_ ?_ ?_ ?_ ?_ ?_)
    | exact fun h => h
    | exact fun _ => rfl
    | exact Nat.le_refl _
    | dsimp only
    | dsimp only [id]

theorem endSession_ok {s0 : State} {p : PackageId} {code : DCode} {s : State} (hok : Ok s0 s) :
    Ok s0 (endSession p code s) := by
  unfold endSession
  repeat' first
    | with_reducible assumption
    | (extract_lets +onlyGivenNames x
       first
       | (refine okStep (s0 := s0) (x := x) (fun hx => ?_) ?_; clear_value x; rotate_left; subst x)
       | subst x)
    | with_reducible refine Ok.ite ?_ ?_
    | with_reducible apply modPeer_ok
    | with_reducible apply endOps_ok
    | intro _ _ _
    | intro _ _
    | split
    | (simp only [ok_lit]; with_reducible refine OkLit.of ?_ ?_ ?_ ?_ ?_ ?_ ?_ ?_ ?_)
    | exact fun h => h
    | exact fun _ => rfl
    | exact Nat.le_refl _
    | dsimp only
    | dsimp only [id]
    | (intro hl; simp [hl]; done)

theorem openFrame_ok {s0 : State} {h : FrameHdr} {sequenced : Bool} {s : State} (hok : Ok s0 s) :
    Ok s0 (openFrame h sequenced s).1 := by
  unfold openFrame
  repeat' first
    | with_reducible assumption
    | (extract_lets +onlyGivenNames x
       first
       | (refine okStep (s0 := s0) (x := x) (fun hx => ?_) ?_; clear_value x; rotate_left; subst x)
       | subst x)
    | with_reducible refine Ok.ite ?_ ?_
    | with_reducible apply countPackage_ok
    | with_reducible apply modPeer_ok
    | with_reducible refine Ok.ofPair ?_ (by with_reducible assumption)
    | intro _ _ _
    | intro _ _
    | split
    | (simp only [ok_lit]; with_reducible refine OkLit.of ?_ ?_ ?_ ?_ ?_ ?_ ?_ ?_ ?_)
    | exact fun h => h
    | exact fun _ => rfl
    | exact Nat.le_refl _
    | dsimp only
    | dsimp only [id]

theorem takeFrame_keeps {s0 : State} {h : FrameHdr} {q : Bool} {s : State} (hok : Ok s0 s) :
    (∀ t, (takeFrame h q s).1 = some t → Ok s0 t) ∧ Ok s0 (takeFrame h q s).2 := by
  have ho : Ok s0 (openFrame h q s).1 := openFrame_ok hok
  unfold takeFrame
  split
  · exact ⟨fun t e => (Option.some.inj e) ▸ hok, hok⟩
  · split
    · rename_i e
      rw [e] at ho
      exact ⟨by intro t e; simp at e, ho⟩
    · rename_i u x e
      rw [e] at ho
      split
      · exact ⟨by intro t e; simp at e, countPackage_ok ho⟩
      · have hr : Ok s0 (takeAck h.src h.ackSeq
            (if q then modSession h.src (fun y => { y with expect := y.expect + 1 }) u else u)) := by
          repeat' first
            | with_reducible assumption
            | with_reducible apply takeAck_ok
            | with_reducible apply modSession_ok
            | split
        exact ⟨fun t e => (Option.some.inj e) ▸ hr, hr⟩

theorem takeFrame_some {s0 : State} {h : FrameHdr} {q : Bool} {s t u : State} (hok : Ok s0 s)
    (e : takeFrame h q s = (some t, u)) : Ok s0 t := (takeFrame_keeps hok).1 t (by rw [e])

theorem takeFrame_none {s0 : State} {h : FrameHdr} {q : Bool} {s u : State} {o : Option State} (hok : Ok s0 s)
    (e : takeFrame h q s = (o, u)) : Ok s0 u := by
  have := (takeFrame_keeps (h := h) (q := q) hok).2
  rwa [e] at this

theorem withFrame_ok {s0 : State} {h : FrameHdr} {act : State → State} {s : State} (h_act : ∀ t, Ok s0 t → Ok s0 (act t)) (hok : Ok s0 s) :
    Ok s0 (withFrame h act s) := by
  unfold withFrame
  repeat' first
    | with_reducible assumption
    | (extract_lets +onlyGivenNames x
       first
       | (refine okStep (s0 := s0) (x := x) (fun hx => ?_) ?_; clear_value x; rotate_left; subst x)
       | subst x)
    | with_reducible apply h_act
    | with_reducible refine takeFrame_some ?_ (by with_reducible assumption)
    | with_reducible refine takeFrame_none ?_ (by with_reducible assumption)
    | with_reducible refine Ok.ofPair ?_ (by with_reducible assumption)
    | intro _ _ _
    | intro _ _
    | split
    | (simp only [ok_lit]; with_reducible refine OkLit.of ?_ ?_ ?_ ?_ ?_ ?_ ?_ ?_ ?_)
    | exact fun h => h
    | exact fun _ => rfl
    | exact Nat.le_refl _
    | dsimp only
    | dsimp only [id]

theorem linkAck_ok {s0 : State} {h : FrameHdr} {s : State} (hok : Ok s0 s) :
    Ok s0 (linkAck h s) := by
  unfold linkAck
  repeat' first
    | with_reducible assumption
    | (extract_lets +onlyGivenNames x
       first
       | (refine okStep (s0 := s0) (x := x) (fun hx => ?_) ?_; clear_value x; rotate_left; subst x)
       | (refine okStep (s0 := s0) (x := x.1) (fun hx => ?_) ?_; clear_value x; rotate_left; subst x)
       | subst x)
    | with_reducible apply countPackage_ok
    | with_reducible apply openFrame_ok
    | with_reducible apply modSession_ok
    | with_reducible refine takeFrame_some ?_ (by with_reducible assumption)
    | with_reducible refine takeFrame_none ?_ (by with_reducible assumption)
    | with_reducible refine Ok.ofPair ?_ (by with_reducible assumption)
    | intro _ _ _
    | intro _ _
    | split
    | (simp only [ok_lit]; with_reducible refine OkLit.of ?_ ?_ ?_ ?_ ?_ ?_ ?_ ?_ ?_)
    | exact fun h => h
    | exact fun _ => rfl
    | exact Nat.le_refl _
    | dsimp only
    | dsimp only [id]

theorem execLinkAck_ok {s0 : State} {h : FrameHdr} {s : State} (hok : Ok s0 s) :
    OutOk s0 (execLinkAck h s) := by
  unfold execLinkAck
  refine ⟨_, rfl, ?_⟩
  repeat' first
    | with_reducible assumption
    | with_reducible apply linkAck_ok
    | intro _ _ _
    | intro _ _
    | dsimp only
    | dsimp only [id]

theorem ackTimer_ok {s0 : State} {p : PackageId} {s : State} (hok : Ok s0 s) :
    Ok s0 (ackTimer p s) := by
  unfold ackTimer
  repeat' first
    | with_reducible assumption
    | (extract_lets +onlyGivenNames x
       first
       | (refine okStep (s0 := s0) (x := x) (fun hx => ?_) ?_; clear_value x; rotate_left; subst x)
       | subst x)
    | with_reducible refine Ok.ite ?_ ?_
    | with_reducible apply rawFrame_ok
    | with_reducible apply modSession_ok
    | with_reducible refine Ok.ofPair ?_ (by with_reducible assumption)
    | intro _ _ _
    | intro _ _
    | split
    | (simp only [ok_lit]; with_reducible refine OkLit.of ?_ ?_ ?_ ?_ ?_ ?_ ?_ ?_ ?_)
    | exact fun h => h
    | exact fun _ => rfl
    | exact Nat.le_refl _
    | dsimp only
    | dsimp only [id]

theorem execLinkAckTimer_ok {s0 : State} {p : PackageId} {s : State} (hok : Ok s0 s) :
    OutOk s0 (execLinkAckTimer p s) := by
  unfold execLinkAckTimer
  refine ⟨_, rfl, ?_⟩
  repeat' first
    | with_reducible assumption
    | with_reducible apply ackTimer_ok
    | intro _ _ _
    | intro _ _
    | dsimp only
    | dsimp only [id]

theorem retransmit_ok {s0 : State} {p : PackageId} {s : State} (hok : Ok s0 s) :
    Ok s0 (retransmit p s) := by
  unfold retransmit
  repeat' first
    | with_reducible assumption
    | (extract_lets +onlyGivenNames x
       first
       | (refine okStep (s0 := s0) (x := x) (fun hx => ?_) ?_; clear_value x; rotate_left; subst x)
       | subst x)
    | with_reducible refine Ok.ite ?_ ?_
    | with_reducible apply flushFrames_ok
    | with_reducible apply foldState_ok
    | with_reducible apply countPackage_ok
    | with_reducible apply rawFrame_ok
    | with_reducible apply modSession_ok
    | with_reducible refine Ok.ofPair ?_ (by with_reducible assumption)
    | intro _ _ _
    | intro _ _
    | split
    | (simp only [ok_lit]; with_reducible refine OkLit.of ?_ ?_ ?_ ?_ ?_ ?_ ?_ ?_ ?_)
    | exact fun h => h
    | exact fun _ => rfl
    | exact Nat.le_refl _
    | dsimp only
    | dsimp only [id]

theorem execPaldarRetryTimeout_ok {s0 : State} {p : PackageId} {s : State} (hok : Ok s0 s) :
    OutOk s0 (execPaldarRetryTimeout p s) := by
  unfold execPaldarRetryTimeout
  refine ⟨_, rfl, ?_⟩
  repeat' first
    | with_reducible assumption
    | (extract_lets +onlyGivenNames x
       first
       | (refine okStep (s0 := s0) (x := x) (fun hx => ?_) ?_; clear_value x; rotate_left; subst x)
       | subst x)
    | with_reducible refine Ok.ite ?_ ?_
    | with_reducible apply retransmit_ok
    | intro _ _ _
    | intro _ _
    | split
    | (simp only [ok_lit]; with_reducible refine OkLit.of ?_ ?_ ?_ ?_ ?_ ?_ ?_ ?_ ?_)
    | exact fun h => h
    | exact fun _ => rfl
    | exact Nat.le_refl _
    | dsimp only
    | dsimp only [id]

theorem goDown_ok {s0 : State} {p : PackageId} {s : State} (hok : Ok s0 s) :
    Ok s0 (goDown p s) := by
  unfold goDown
  repeat' first
    | with_reducible assumption
    | (extract_lets +onlyGivenNames x
       first
       | (refine okStep (s0 := s0) (x := x) (fun hx => ?_) ?_; clear_value x; rotate_left; subst x)
       | subst x)
    | with_reducible apply endSession_ok
    | with_reducible apply countPackage_ok
    | with_reducible apply modPeer_ok
    | intro _ _ _
    | intro _ _
    | (simp only [ok_lit]; with_reducible refine OkLit.of ?_ ?_ ?_ ?_ ?_ ?_ ?_ ?_ ?_)
    | exact fun h => h
    | exact fun _ => rfl
    | exact Nat.le_refl _
    | dsimp only
    | dsimp only [id]

theorem peerTimeout_ok {s0 : State} {p : PackageId} {s : State} (hok : Ok s0 s) :
    Ok s0 (peerTimeout p s) := by
  unfold peerTimeout
  repeat' first
    | with_reducible assumption
    | (extract_lets +onlyGivenNames x
       first
       | (refine okStep (s0 := s0) (x := x) (fun hx => ?_) ?_; clear_value x; rotate_left; subst x)
       | subst x)
    | with_reducible refine Ok.ite ?_ ?_
    | with_reducible apply goDown_ok
    | with_reducible apply retransmit_ok
    | with_reducible apply modPeer_ok
    | with_reducible refine Ok.ofPair ?_ (by with_reducible assumption)
    | intro _ _ _
    | intro _ _
    | split
    | (simp only [ok_lit]; with_reducible refine OkLit.of ?_ ?_ ?_ ?_ ?_ ?_ ?_ ?_ ?_)
    | exact fun h => h
    | exact fun _ => rfl
    | exact Nat.le_refl _
    | dsimp only
    | dsimp only [id]

theorem execPeerTimeout_ok {s0 : State} {p : PackageId} {s : State} (hok : Ok s0 s) :
    OutOk s0 (execPeerTimeout p s) := by
  unfold execPeerTimeout
  refine ⟨_, rfl, ?_⟩
  repeat' first
    | with_reducible assumption
    | with_reducible apply peerTimeout_ok
    | intro _ _ _
    | intro _ _
    | dsimp only
    | dsimp only [id]

theorem drawNonce_ok {s0 : State} {s : State} (hok : Ok s0 s) : Ok s0 (drawNonce s).1 :=
  OkLit.of hok id id id id id id id (Nat.le_succ _)

theorem sendHello_ok {s0 : State} {p : PackageId} {type : Nat} {nonce : Bytes} {s : State} (hok : Ok s0 s) :
    Ok s0 (sendHello p type nonce s) := by
  unfold sendHello
  repeat' first
    | with_reducible assumption
    | (extract_lets +onlyGivenNames x
       first
       | (refine okStep (s0 := s0) (x := x) (fun hx => ?_) ?_; clear_value x; rotate_left; subst x)
       | subst x)
    | with_reducible apply emit_ok
    | with_reducible refine Ok.ofPair ?_ (by with_reducible assumption)
    | intro _ _ _
    | intro _ _
    | split
    | (simp only [ok_lit]; with_reducible refine OkLit.of ?_ ?_ ?_ ?_ ?_ ?_ ?_ ?_ ?_)
    | exact fun h => h
    | exact fun _ => rfl
    | exact Nat.le_refl _
    | dsimp only
    | dsimp only [id]

theorem helloTurn_ok {s0 : State} {p : PackageId} {s : State} (hok : Ok s0 s) :
    Ok s0 (helloTurn p s) := by
  unfold helloTurn
  repeat' first
    | with_reducible assumption
    | (extract_lets +onlyGivenNames x
       first
       | (refine okStep (s0 := s0) (x := x) (fun hx => ?_) ?_; clear_value x; rotate_left; subst x)
       | subst x)
    | with_reducible refine Ok.ite ?_ ?_
    | with_reducible apply drawNonce_ok
    | with_reducible apply sendHello_ok
    | with_reducible apply modPeer_ok
    | with_reducible refine Ok.ofPair ?_ (by with_reducible assumption)
    | intro _ _ _
    | intro _ _
    | split
    | (simp only [ok_lit]; with_reducible refine OkLit.of ?_ ?_ ?_ ?_ ?_ ?_ ?_ ?_ ?_)
    | exact fun h => h
    | exact fun _ => rfl
    | exact Nat.le_refl _
    | dsimp only
    | dsimp only [id]

theorem execHelloTimer_ok {s0 : State} {p : PackageId} {s : State} (hok : Ok s0 s) :
    OutOk s0 (execHelloTimer p s) := by
  unfold execHelloTimer
  refine ⟨_, rfl, ?_⟩
  repeat' first
    | with_reducible assumption
    | with_reducible apply helloTurn_ok
    | intro _ _ _
    | intro _ _
    | dsimp only
    | dsimp only [id]

theorem execPeerDownTimer_ok {s0 : State} {p : PackageId} {s : State} (hok : Ok s0 s) :
    OutOk s0 (execPeerDownTimer p s) := by
  unfold execPeerDownTimer
  refine ⟨_, rfl, ?_⟩
  repeat' first
    | with_reducible assumption
    | (extract_lets +onlyGivenNames x
       first
       | (refine okStep (s0 := s0) (x := x) (fun hx => ?_) ?_; clear_value x; rotate_left; subst x)
       | subst x)
    | with_reducible refine Ok.ite ?_ ?_
    | with_reducible apply modPeer_ok
    | intro _ _ _
    | intro _ _
    | split
    | (simp only [ok_lit]; with_reducible refine OkLit.of ?_ ?_ ?_ ?_ ?_ ?_ ?_ ?_ ?_)
    | exact fun h => h
    | exact fun _ => rfl
    | exact Nat.le_refl _
    | dsimp only
    | dsimp only [id]

theorem goUp_ok {s0 : State} {p : PackageId} {bootId : U64} {mine theirs : Bytes} {s : State} (hok : Ok s0 s) :
    Ok s0 (goUp p bootId mine theirs s) := by
  unfold goUp
  repeat' first
    | with_reducible assumption
    | (extract_lets +onlyGivenNames x
       first
       | (refine okStep (s0 := s0) (x := x) (fun hx => ?_) ?_; clear_value x; rotate_left; subst x)
       | subst x)
    | with_reducible apply modPeer_ok
    | intro _ _ _
    | intro _ _
    | (simp only [ok_lit]; with_reducible refine OkLit.of ?_ ?_ ?_ ?_ ?_ ?_ ?_ ?_ ?_)
    | exact fun h => h
    | exact fun _ => rfl
    | exact Nat.le_refl _
    | dsimp only
    | dsimp only [id]

theorem helloEnds_ok {s0 : State} {p : PackageId} {s : State} (hok : Ok s0 s) :
    Ok s0 (helloEnds p s) := by
  unfold helloEnds
  repeat' first
    | with_reducible assumption
    | (extract_lets +onlyGivenNames x
       first
       | (refine okStep (s0 := s0) (x := x) (fun hx => ?_) ?_; clear_value x; rotate_left; subst x)
       | subst x)
    | with_reducible refine Ok.ite ?_ ?_
    | with_reducible apply endSession_ok
    | with_reducible apply modPeer_ok
    | intro _ _ _
    | intro _ _
    | split
    | (simp only [ok_lit]; with_reducible refine OkLit.of ?_ ?_ ?_ ?_ ?_ ?_ ?_ ?_ ?_)
    | exact fun h => h
    | exact fun _ => rfl
    | exact Nat.le_refl _
    | dsimp only
    | dsimp only [id]
    | (intro hl; simp [hl]; done)

theorem helloArrives_ok {s0 : State} {m : HelloMsg} {s : State} (hok : Ok s0 s) :
    Ok s0 (helloArrives m s) := by
  unfold helloArrives
  repeat' first
    | with_reducible assumption
    | (extract_lets +onlyGivenNames x
       first
       | (refine okStep (s0 := s0) (x := x) (fun hx => ?_) ?_; clear_value x; rotate_left; subst x)
       | subst x)
    | with_reducible refine Ok.ite ?_ ?_
    | with_reducible apply countPackage_ok
    | with_reducible apply helloEnds_ok
    | with_reducible apply drawNonce_ok
    | with_reducible apply sendHello_ok
    | with_reducible apply goUp_ok
    | with_reducible refine Ok.ofPair ?_ (by with_reducible assumption)
    | intro _ _ _
    | intro _ _
    | split
    | (simp only [ok_lit]; with_reducible refine OkLit.of ?_ ?_ ?_ ?_ ?_ ?_ ?_ ?_ ?_)
    | exact fun h => h
    | exact fun _ => rfl
    | exact Nat.le_refl _
    | dsimp only
    | dsimp only [id]

theorem execHello_ok {s0 : State} {m : HelloMsg} {s : State} (hok : Ok s0 s) :
    OutOk s0 (execHello m s) := by
  unfold execHello
  refine ⟨_, rfl, ?_⟩
  repeat' first
    | with_reducible assumption
    | with_reducible apply helloArrives_ok
    | intro _ _ _
    | intro _ _
    | dsimp only
    | dsimp only [id]

theorem execHelloAck_ok {s0 : State} {m : HelloMsg} {s : State} (hok : Ok s0 s) :
    OutOk s0 (execHelloAck m s) := by
  unfold execHelloAck
  refine ⟨_, rfl, ?_⟩
  repeat' first
    | with_reducible assumption
    | (extract_lets +onlyGivenNames x
       first
       | (refine okStep (s0 := s0) (x := x) (fun hx => ?_) ?_; clear_value x; rotate_left; subst x)
       | subst x)
    | with_reducible refine Ok.ite ?_ ?_
    | with_reducible apply countPackage_ok
    | with_reducible apply goUp_ok
    | intro _ _ _
    | intro _ _
    | split
    | (simp only [ok_lit]; with_reducible refine OkLit.of ?_ ?_ ?_ ?_ ?_ ?_ ?_ ?_ ?_)
    | exact fun h => h
    | exact fun _ => rfl
    | exact Nat.le_refl _
    | dsimp only
    | dsimp only [id]

theorem execReceiverPeerSilence_ok {s0 : State} {p : PackageId} {s : State} (hok : Ok s0 s) :
    OutOk s0 (execReceiverPeerSilence p s) := by
  unfold execReceiverPeerSilence
  refine ⟨_, rfl, ?_⟩
  repeat' first
    | with_reducible assumption
    | (extract_lets +onlyGivenNames x
       first
       | (refine okStep (s0 := s0) (x := x) (fun hx => ?_) ?_; clear_value x; rotate_left; subst x)
       | subst x)
    | with_reducible refine Ok.ite ?_ ?_
    | intro _ _ _
    | intro _ _
    | split
    | (simp only [ok_lit]; with_reducible refine OkLit.of ?_ ?_ ?_ ?_ ?_ ?_ ?_ ?_ ?_)
    | exact fun h => h
    | exact fun _ => rfl
    | exact Nat.le_refl _
    | dsimp only
    | dsimp only [id]

theorem linkChange_ok {s0 : State} {e : Fin 12} {up : Bool} {s : State} (hok : Ok s0 s) :
    Ok s0 (linkChange e up s) := by
  unfold linkChange
  repeat' first
    | with_reducible assumption
    | (extract_lets +onlyGivenNames x
       first
       | (refine okStep (s0 := s0) (x := x) (fun hx => ?_) ?_; clear_value x; rotate_left; subst x)
       | subst x)
    | with_reducible refine Ok.ite ?_ ?_
    | with_reducible apply foldState_ok
    | with_reducible apply modPeer_ok
    | with_reducible apply flushFrames_ok
    | with_reducible apply retransmit_ok
    | intro _ _ _
    | intro _ _
    | split
    | (simp only [ok_lit]; with_reducible refine OkLit.of ?_ ?_ ?_ ?_ ?_ ?_ ?_ ?_ ?_)
    | exact fun h => h
    | exact fun _ => rfl
    | exact Nat.le_refl _
    | dsimp only
    | dsimp only [id]
    | (intro hl; simp [hl]; done)

theorem execEthernetLinkChange_ok {s0 : State} {e : Fin 12} {up : Bool} {s : State} (hok : Ok s0 s) :
    OutOk s0 (execEthernetLinkChange e up s) := by
  unfold execEthernetLinkChange
  refine ⟨_, rfl, ?_⟩
  repeat' first
    | with_reducible assumption
    | with_reducible apply linkChange_ok
    | intro _ _ _
    | intro _ _
    | dsimp only
    | dsimp only [id]

theorem writePeerEntry_ok {s0 : State} {p : PackageId} {w : Nat} {s : State} (hok : Ok s0 s) :
    Ok s0 (writePeerEntry p w s) := by
  unfold writePeerEntry
  repeat' first
    | with_reducible assumption
    | (extract_lets +onlyGivenNames x
       first
       | (refine okStep (s0 := s0) (x := x) (fun hx => ?_) ?_; clear_value x; rotate_left; subst x)
       | subst x)
    | with_reducible refine Ok.ite ?_ ?_
    | with_reducible apply putObj_ok
    | with_reducible apply endSession_ok
    | intro _ _ _
    | intro _ _
    | split
    | (simp only [ok_lit]; with_reducible refine OkLit.of ?_ ?_ ?_ ?_ ?_ ?_ ?_ ?_ ?_)
    | exact fun h => h
    | exact fun _ => rfl
    | exact Nat.le_refl _
    | dsimp only
    | dsimp only [id]
    | (intro hl; simp [hl]; done)

theorem execPeerEntryWrite_ok {s0 : State} {rq : Requester} {p : PackageId} {v : U64} {s : State} (hok : Ok s0 s) :
    OutOk s0 (execPeerEntryWrite rq p v s) := by
  unfold execPeerEntryWrite
  refine ⟨_, rfl, ?_⟩
  repeat' first
    | with_reducible assumption
    | with_reducible apply requestWrite_ok
    | with_reducible apply writePeerEntry_ok
    | intro _ _ _
    | intro _ _
    | dsimp only
    | dsimp only [id]

theorem execCommitHistoryExpiry_ok {s0 : State} {src : PackageId} {bootId : U64} {serial : U32} {tile : Nat} {s : State} (hok : Ok s0 s) :
    OutOk s0 (execCommitHistoryExpiry src bootId serial tile s) := by
  unfold execCommitHistoryExpiry
  refine ⟨_, rfl, ?_⟩
  repeat' first
    | with_reducible assumption
    | (extract_lets +onlyGivenNames x
       first
       | (refine okStep (s0 := s0) (x := x) (fun hx => ?_) ?_; clear_value x; rotate_left; subst x)
       | subst x)
    | intro _ _ _
    | intro _ _
    | (simp only [ok_lit]; with_reducible refine OkLit.of ?_ ?_ ?_ ?_ ?_ ?_ ?_ ?_ ?_)
    | exact fun h => h
    | exact fun _ => rfl
    | exact Nat.le_refl _
    | dsimp only
    | dsimp only [id]


/-! ### Machine/Incoming.lean -/

theorem reply_ok {s0 : State} {h : FrameHdr} {type code : Nat} {need : Need} {last : Bool} {off : Nat} {b : Bytes} {s : State} (hok : Ok s0 s) :
    Ok s0 (reply h type code need last off b s) := by
  unfold reply
  repeat' first
    | with_reducible assumption
    | with_reducible apply sendFrame_ok
    | intro _ _ _
    | intro _ _
    | dsimp only
    | dsimp only [id]

theorem replyOp_ok {s0 : State} {o : RecvOp} {type : Nat} {last : Bool} {s : State} (hok : Ok s0 s) :
    Ok s0 (replyOp o type last s) := by
  unfold replyOp
  repeat' first
    | with_reducible assumption
    | with_reducible apply sendFrame_ok
    | intro _ _ _
    | intro _ _
    | dsimp only
    | dsimp only [id]

theorem checkRuns_ok {s0 : State} {w : WindowId} {need : Need} {r0 : List WRun} {r1 : Nat} {s : State} (hok : Ok s0 s) :
    Ok s0 (checkRuns w need r0 r1 s).1 := by
  induction r0 generalizing r1 s with
  | nil =>
    unfold checkRuns
    repeat' first
      | with_reducible assumption
      | (extract_lets +onlyGivenNames x
         first
         | (refine okStep (s0 := s0) (x := x) (fun hx => ?_) ?_; clear_value x; rotate_left; subst x)
         | subst x)
      | with_reducible refine Ok.ite ?_ ?_
      | with_reducible apply spanRuns_ok
      | with_reducible apply draw_ok
      | with_reducible apply countPackage_ok
      | with_reducible refine Ok.ofPair ?_ (by with_reducible assumption)
      | intro _ _ _
      | intro _ _
      | split
      | (simp only [ok_lit]; with_reducible refine OkLit.of ?_ ?_ ?_ ?_ ?_ ?_ ?_ ?_ ?_)
      | exact fun h => h
      | exact fun _ => rfl
      | exact Nat.le_refl _
      | dsimp only
      | dsimp only [id]
      | (intro hl; simp [hl]; done)
  | cons x r0 ih =>
    unfold checkRuns
    repeat' first
      | with_reducible assumption
      | (extract_lets +onlyGivenNames x
         first
         | (refine okStep (s0 := s0) (x := x) (fun hx => ?_) ?_; clear_value x; rotate_left; subst x)
         | subst x)
      | with_reducible refine Ok.ite ?_ ?_
      | with_reducible apply ih
      | with_reducible apply spanRuns_ok
      | with_reducible apply draw_ok
      | with_reducible apply countPackage_ok
      | with_reducible refine Ok.ofPair ?_ (by with_reducible assumption)
      | intro _ _ _
      | intro _ _
      | split
      | (simp only [ok_lit]; with_reducible refine OkLit.of ?_ ?_ ?_ ?_ ?_ ?_ ?_ ?_ ?_)
      | exact fun h => h
      | exact fun _ => rfl
      | exact Nat.le_refl _
      | dsimp only
      | dsimp only [id]
      | (intro hl; simp [hl]; done)

theorem checkOp_ok {s0 : State} {h : FrameHdr} {need : Need} {runs : List WRun} {s : State} (hok : Ok s0 s) :
    Ok s0 (checkOp h need runs s).1 := by
  unfold checkOp
  repeat' first
    | with_reducible assumption
    | (extract_lets +onlyGivenNames x
       first
       | (refine okStep (s0 := s0) (x := x) (fun hx => ?_) ?_; clear_value x; rotate_left; subst x)
       | subst x)
    | with_reducible refine Ok.ite ?_ ?_
    | with_reducible apply checkRuns_ok
    | with_reducible refine Ok.ofPair ?_ (by with_reducible assumption)
    | intro _ _ _
    | intro _ _
    | split
    | (simp only [ok_lit]; with_reducible refine OkLit.of ?_ ?_ ?_ ?_ ?_ ?_ ?_ ?_ ?_)
    | exact fun h => h
    | exact fun _ => rfl
    | exact Nat.le_refl _
    | dsimp only
    | dsimp only [id]
    | (intro hl; simp [hl]; done)

theorem dropRecv_ok {s0 : State} {h : FrameHdr} {need : Need} {s : State} (hok : Ok s0 s) :
    Ok s0 (dropRecv h need s) := by
  unfold dropRecv
  repeat' first
    | with_reducible assumption
    | (extract_lets +onlyGivenNames x
       first
       | (refine okStep (s0 := s0) (x := x) (fun hx => ?_) ?_; clear_value x; rotate_left; subst x)
       | subst x)
    | intro _ _ _
    | intro _ _
    | (simp only [ok_lit]; with_reducible refine OkLit.of ?_ ?_ ?_ ?_ ?_ ?_ ?_ ?_ ?_)
    | exact fun h => h
    | exact fun _ => rfl
    | exact Nat.le_refl _
    | dsimp only
    | dsimp only [id]

theorem addRecv_ok {s0 : State} {o : RecvOp} {s : State} (hok : Ok s0 s) :
    Ok s0 (addRecv o s) := by
  unfold addRecv
  repeat' first
    | with_reducible assumption
    | (extract_lets +onlyGivenNames x
       first
       | (refine okStep (s0 := s0) (x := x) (fun hx => ?_) ?_; clear_value x; rotate_left; subst x)
       | subst x)
    | intro _ _ _
    | intro _ _
    | (simp only [ok_lit]; with_reducible refine OkLit.of ?_ ?_ ?_ ?_ ?_ ?_ ?_ ?_ ?_)
    | exact fun h => h
    | exact fun _ => rfl
    | exact Nat.le_refl _
    | dsimp only
    | dsimp only [id]

theorem modRecv_ok {s0 : State} {o : RecvOp} {f : RecvOp → RecvOp} {s : State} (hok : Ok s0 s) :
    Ok s0 (modRecv o f s) := by
  unfold modRecv
  repeat' first
    | with_reducible assumption
    | (extract_lets +onlyGivenNames x
       first
       | (refine okStep (s0 := s0) (x := x) (fun hx => ?_) ?_; clear_value x; rotate_left; subst x)
       | subst x)
    | with_reducible refine Ok.ite ?_ ?_
    | intro _ _ _
    | intro _ _
    | split
    | (simp only [ok_lit]; with_reducible refine OkLit.of ?_ ?_ ?_ ?_ ?_ ?_ ?_ ?_ ?_)
    | exact fun h => h
    | exact fun _ => rfl
    | exact Nat.le_refl _
    | dsimp only
    | dsimp only [id]
    | (intro hl; simp [hl]; done)

theorem endRecv_ok {s0 : State} {o : RecvOp} {s : State} (hok : Ok s0 s) :
    Ok s0 (endRecv o s) := by
  unfold endRecv
  repeat' first
    | with_reducible assumption
    | (extract_lets +onlyGivenNames x
       first
       | (refine okStep (s0 := s0) (x := x) (fun hx => ?_) ?_; clear_value x; rotate_left; subst x)
       | subst x)
    | intro _ _ _
    | intro _ _
    | (simp only [ok_lit]; with_reducible refine OkLit.of ?_ ?_ ?_ ?_ ?_ ?_ ?_ ?_ ?_)
    | exact fun h => h
    | exact fun _ => rfl
    | exact Nat.le_refl _
    | dsimp only
    | dsimp only [id]

theorem sendReadData_ok {s0 : State} {o : RecvOp} {s : State} (hok : Ok s0 s) :
    Ok s0 (sendReadData o s) := by
  unfold sendReadData
  repeat' first
    | with_reducible assumption
    | (extract_lets +onlyGivenNames x
       first
       | (refine okStep (s0 := s0) (x := x) (fun hx => ?_) ?_; clear_value x; rotate_left; subst x)
       | (refine okStep (s0 := s0) (x := x.1) (fun hx => ?_) ?_; clear_value x; rotate_left; subst x)
       | subst x)
    | with_reducible refine Ok.ite ?_ ?_
    | with_reducible apply foldState_ok
    | with_reducible apply countPackage_ok
    | with_reducible apply sendFrame_ok
    | with_reducible refine Ok.ofPair ?_ (by with_reducible assumption)
    | intro _ _ _
    | intro _ _
    | split
    | (simp only [ok_lit]; with_reducible refine OkLit.of ?_ ?_ ?_ ?_ ?_ ?_ ?_ ?_ ?_)
    | exact fun h => h
    | exact fun _ => rfl
    | exact Nat.le_refl _
    | dsimp only
    | dsimp only [id]
    | (intro hl; simp [hl]; done)

theorem runReduction_ok {s0 : State} {o : RecvOp} {s : State} (hok : Ok s0 s) :
    Ok s0 (runReduction o s) := by
  unfold runReduction
  repeat' first
    | with_reducible assumption
    | (extract_lets +onlyGivenNames x
       first
       | (refine okStep (s0 := s0) (x := x) (fun hx => ?_) ?_; clear_value x; rotate_left; subst x)
       | subst x)
    | with_reducible apply foldState_ok
    | with_reducible apply reduceFence_ok
    | with_reducible apply poolReduce_ok
    | with_reducible refine Ok.ofPair ?_ (by with_reducible assumption)
    | intro _ _ _
    | intro _ _
    | split
    | (simp only [ok_lit]; with_reducible refine OkLit.of ?_ ?_ ?_ ?_ ?_ ?_ ?_ ?_ ?_)
    | exact fun h => h
    | exact fun _ => rfl
    | exact Nat.le_refl _
    | dsimp only
    | dsimp only [id]

theorem commitOp_ok {s0 : State} {o : RecvOp} {s : State} (hok : Ok s0 s) :
    Ok s0 (commitOp o s) := by
  unfold commitOp
  repeat' first
    | with_reducible assumption
    | (extract_lets +onlyGivenNames x
       first
       | (refine okStep (s0 := s0) (x := x) (fun hx => ?_) ?_; clear_value x; rotate_left; subst x)
       | subst x)
    | with_reducible apply replyOp_ok
    | with_reducible apply endRecv_ok
    | intro _ _ _
    | intro _ _
    | (simp only [ok_lit]; with_reducible refine OkLit.of ?_ ?_ ?_ ?_ ?_ ?_ ?_ ?_ ?_)
    | exact fun h => h
    | exact fun _ => rfl
    | exact Nat.le_refl _
    | dsimp only
    | dsimp only [id]

theorem runWaits_ok {s0 : State} {src : PackageId} {f : InFrame} {spans : List (Nat × Nat)} {write : Bool} {s : State} (hok : Ok s0 s) :
    Ok s0 (runWaits src f spans write s).1 := by
  unfold runWaits
  repeat' first
    | with_reducible assumption
    | (extract_lets +onlyGivenNames x
       first
       | (refine okStep (s0 := s0) (x := x) (fun hx => ?_) ?_; clear_value x; rotate_left; subst x)
       | (refine okStep (s0 := s0) (x := x.1) (fun hx => ?_) ?_; clear_value x; rotate_left; subst x)
       | subst x)
    | with_reducible refine Ok.ite ?_ ?_
    | with_reducible apply foldState_ok
    | with_reducible apply gateSnoops_ok
    | intro _ _ _
    | intro _ _
    | split
    | dsimp only
    | dsimp only [id]

theorem runServe_ok {s0 : State} {h : FrameHdr} {s : State} (hok : Ok s0 s) :
    Ok s0 (runServe h s).1 := by
  unfold runServe
  repeat' first
    | with_reducible assumption
    | (extract_lets +onlyGivenNames x
       first
       | (refine okStep (s0 := s0) (x := x) (fun hx => ?_) ?_; clear_value x; rotate_left; subst x)
       | (refine okStep (s0 := s0) (x := x.1) (fun hx => ?_) ?_; clear_value x; rotate_left; subst x)
       | subst x)
    | with_reducible refine Ok.ite ?_ ?_
    | with_reducible apply runWaits_ok
    | with_reducible apply endRecv_ok
    | with_reducible apply sendReadData_ok
    | with_reducible refine Ok.ofPair ?_ (by with_reducible assumption)
    | intro _ _ _
    | intro _ _
    | split
    | (simp only [ok_lit]; with_reducible refine OkLit.of ?_ ?_ ?_ ?_ ?_ ?_ ?_ ?_ ?_)
    | exact fun h => h
    | exact fun _ => rfl
    | exact Nat.le_refl _
    | dsimp only
    | dsimp only [id]
    | (intro hl; simp [hl]; done)

theorem decideOp_ok {s0 : State} {h : FrameHdr} {need : Need} {runs : List WRun} {s : State} (hok : Ok s0 s) :
    Ok s0 (decideOp h need runs s).1 := by
  unfold decideOp
  repeat' first
    | with_reducible assumption
    | (extract_lets +onlyGivenNames x
       first
       | (refine okStep (s0 := s0) (x := x) (fun hx => ?_) ?_; clear_value x; rotate_left; subst x)
       | subst x)
    | with_reducible refine Ok.ite ?_ ?_
    | with_reducible apply checkOp_ok
    | with_reducible apply reply_ok
    | with_reducible apply countPackage_ok
    | with_reducible apply dropRecv_ok
    | with_reducible apply addRecv_ok
    | with_reducible apply runServe_ok
    | with_reducible refine Ok.ofPair ?_ (by with_reducible assumption)
    | intro _ _ _
    | intro _ _
    | split
    | (simp only [ok_lit]; with_reducible refine OkLit.of ?_ ?_ ?_ ?_ ?_ ?_ ?_ ?_ ?_)
    | exact fun h => h
    | exact fun _ => rfl
    | exact Nat.le_refl _
    | dsimp only
    | dsimp only [id]

theorem runCheck_ok {s0 : State} {need : Need} {h : FrameHdr} {runs : List WRun} {s : State} (hok : Ok s0 s) :
    Ok s0 (runCheck need h runs s).1 := by
  unfold runCheck
  repeat' first
    | with_reducible assumption
    | (extract_lets +onlyGivenNames x
       first
       | (refine okStep (s0 := s0) (x := x) (fun hx => ?_) ?_; clear_value x; rotate_left; subst x)
       | subst x)
    | with_reducible refine Ok.ite ?_ ?_
    | with_reducible apply decideOp_ok
    | with_reducible apply dropRecv_ok
    | with_reducible apply addRecv_ok
    | intro _ _ _
    | intro _ _
    | split
    | dsimp only
    | dsimp only [id]
    | (intro hl; simp [hl]; done)

theorem runCheckAtomic_ok {s0 : State} {h : FrameHdr} {runs : List WRun} {s : State} (hok : Ok s0 s) :
    Ok s0 (runCheckAtomic h runs s).1 := by
  unfold runCheckAtomic
  repeat' first
    | with_reducible assumption
    | (extract_lets +onlyGivenNames x
       first
       | (refine okStep (s0 := s0) (x := x) (fun hx => ?_) ?_; clear_value x; rotate_left; subst x)
       | subst x)
    | with_reducible refine Ok.ite ?_ ?_
    | with_reducible apply reply_ok
    | with_reducible apply runCheck_ok
    | intro _ _ _
    | intro _ _
    | split
    | (simp only [ok_lit]; with_reducible refine OkLit.of ?_ ?_ ?_ ?_ ?_ ?_ ?_ ?_ ?_)
    | exact fun h => h
    | exact fun _ => rfl
    | exact Nat.le_refl _
    | dsimp only
    | dsimp only [id]
    | (intro hl; simp [hl]; done)

theorem takeWrite_ok {s0 : State} {h : FrameHdr} {o : RecvOp} {b : Bytes} {s : State} (hok : Ok s0 s) :
    Ok s0 (takeWrite h o b s).1 := by
  unfold takeWrite
  repeat' first
    | with_reducible assumption
    | (extract_lets +onlyGivenNames x
       first
       | (refine okStep (s0 := s0) (x := x) (fun hx => ?_) ?_; clear_value x; rotate_left; subst x)
       | (refine okStep (s0 := s0) (x := x.1) (fun hx => ?_) ?_; clear_value x; rotate_left; subst x)
       | subst x)
    | with_reducible refine Ok.ite ?_ ?_
    | with_reducible apply runWaits_ok
    | with_reducible apply modRecv_ok
    | with_reducible apply foldState_ok
    | with_reducible apply poolWrite_ok
    | intro _ _ _
    | intro _ _
    | split
    | (simp only [ok_lit]; with_reducible refine OkLit.of ?_ ?_ ?_ ?_ ?_ ?_ ?_ ?_ ?_)
    | exact fun h => h
    | exact fun _ => rfl
    | exact Nat.le_refl _
    | dsimp only
    | dsimp only [id]
    | (intro hl; simp [hl]; done)

theorem takeStage_ok {s0 : State} {h : FrameHdr} {o : RecvOp} {b : Bytes} {s : State} (hok : Ok s0 s) :
    Ok s0 (takeStage h o b s).1 := by
  unfold takeStage
  repeat' first
    | with_reducible assumption
    | (extract_lets +onlyGivenNames x
       first
       | (refine okStep (s0 := s0) (x := x) (fun hx => ?_) ?_; clear_value x; rotate_left; subst x)
       | (refine okStep (s0 := s0) (x := x.1) (fun hx => ?_) ?_; clear_value x; rotate_left; subst x)
       | subst x)
    | with_reducible refine Ok.ite ?_ ?_
    | with_reducible apply runWaits_ok
    | with_reducible apply commitOp_ok
    | with_reducible apply runReduction_ok
    | with_reducible apply modRecv_ok
    | intro _ _ _
    | intro _ _
    | split
    | (simp only [ok_lit]; with_reducible refine OkLit.of ?_ ?_ ?_ ?_ ?_ ?_ ?_ ?_ ?_)
    | exact fun h => h
    | exact fun _ => rfl
    | exact Nat.le_refl _
    | dsimp only
    | dsimp only [id]
    | (intro hl; simp [hl]; done)

theorem runData_ok {s0 : State} {h : FrameHdr} {b : Bytes} {s : State} (hok : Ok s0 s) :
    Ok s0 (runData h b s).1 := by
  unfold runData
  repeat' first
    | with_reducible assumption
    | (extract_lets +onlyGivenNames x
       first
       | (refine okStep (s0 := s0) (x := x) (fun hx => ?_) ?_; clear_value x; rotate_left; subst x)
       | subst x)
    | with_reducible refine Ok.ite ?_ ?_
    | with_reducible apply takeWrite_ok
    | with_reducible apply takeStage_ok
    | with_reducible refine Ok.ofPair ?_ (by with_reducible assumption)
    | intro _ _ _
    | intro _ _
    | split
    | (simp only [ok_lit]; with_reducible refine OkLit.of ?_ ?_ ?_ ?_ ?_ ?_ ?_ ?_ ?_)
    | exact fun h => h
    | exact fun _ => rfl
    | exact Nat.le_refl _
    | dsimp only
    | dsimp only [id]

theorem runCancel_ok {s0 : State} {h : FrameHdr} {s : State} (hok : Ok s0 s) :
    Ok s0 (runCancel h s) := by
  unfold runCancel
  repeat' first
    | with_reducible assumption
    | (extract_lets +onlyGivenNames x
       first
       | (refine okStep (s0 := s0) (x := x) (fun hx => ?_) ?_; clear_value x; rotate_left; subst x)
       | subst x)
    | intro _ _ _
    | intro _ _
    | (simp only [ok_lit]; with_reducible refine OkLit.of ?_ ?_ ?_ ?_ ?_ ?_ ?_ ?_ ?_)
    | exact fun h => h
    | exact fun _ => rfl
    | exact Nat.le_refl _
    | dsimp only
    | dsimp only [id]

theorem runFrame_ok {s0 : State} {f : InFrame} {s : State} (hok : Ok s0 s) :
    Ok s0 (runFrame f s).1 := by
  unfold runFrame
  repeat' first
    | with_reducible assumption
    | (extract_lets +onlyGivenNames x
       first
       | (refine okStep (s0 := s0) (x := x) (fun hx => ?_) ?_; clear_value x; rotate_left; subst x)
       | subst x)
    | with_reducible apply runCheckAtomic_ok
    | with_reducible apply runCheck_ok
    | with_reducible apply runServe_ok
    | with_reducible apply runData_ok
    | with_reducible apply runCancel_ok
    | with_reducible refine Ok.ofPair ?_ (by with_reducible assumption)
    | intro _ _ _
    | intro _ _
    | split
    | (simp only [ok_lit]; with_reducible refine OkLit.of ?_ ?_ ?_ ?_ ?_ ?_ ?_ ?_ ?_)
    | exact fun h => h
    | exact fun _ => rfl
    | exact Nat.le_refl _
    | dsimp only
    | dsimp only [id]

theorem runFrames_ok {s0 : State} {p : PackageId} {r0 : List InFrame} {s : State} (hok : Ok s0 s) :
    Ok s0 (runFrames p r0 s).1 := by
  induction r0 generalizing s with
  | nil =>
    unfold runFrames
    repeat' first
      | with_reducible assumption
      | (extract_lets +onlyGivenNames x
         first
         | (refine okStep (s0 := s0) (x := x) (fun hx => ?_) ?_; clear_value x; rotate_left; subst x)
         | subst x)
      | with_reducible refine Ok.ite ?_ ?_
      | with_reducible apply runFrame_ok
      | with_reducible refine Ok.ofPair ?_ (by with_reducible assumption)
      | intro _ _ _
      | intro _ _
      | split
      | (simp only [ok_lit]; with_reducible refine OkLit.of ?_ ?_ ?_ ?_ ?_ ?_ ?_ ?_ ?_)
      | exact fun h => h
      | exact fun _ => rfl
      | exact Nat.le_refl _
      | dsimp only
      | dsimp only [id]
  | cons x r0 ih =>
    unfold runFrames
    repeat' first
      | with_reducible assumption
      | (extract_lets +onlyGivenNames x
         first
         | (refine okStep (s0 := s0) (x := x) (fun hx => ?_) ?_; clear_value x; rotate_left; subst x)
         | subst x)
      | with_reducible refine Ok.ite ?_ ?_
      | with_reducible apply ih
      | with_reducible apply runFrame_ok
      | with_reducible refine Ok.ofPair ?_ (by with_reducible assumption)
      | intro _ _ _
      | intro _ _
      | split
      | (simp only [ok_lit]; with_reducible refine OkLit.of ?_ ?_ ?_ ?_ ?_ ?_ ?_ ?_ ?_)
      | exact fun h => h
      | exact fun _ => rfl
      | exact Nat.le_refl _
      | dsimp only
      | dsimp only [id]

theorem serveInbox_ok {s0 : State} {p : PackageId} {s : State} (hok : Ok s0 s) :
    Ok s0 (serveInbox p s) := by
  unfold serveInbox
  repeat' first
    | with_reducible assumption
    | (extract_lets +onlyGivenNames x
       first
       | (refine okStep (s0 := s0) (x := x) (fun hx => ?_) ?_; clear_value x; rotate_left; subst x)
       | subst x)
    | with_reducible apply runFrames_ok
    | with_reducible refine Ok.ofPair ?_ (by with_reducible assumption)
    | intro _ _ _
    | intro _ _
    | split
    | (simp only [ok_lit]; with_reducible refine OkLit.of ?_ ?_ ?_ ?_ ?_ ?_ ?_ ?_ ?_)
    | exact fun h => h
    | exact fun _ => rfl
    | exact Nat.le_refl _
    | dsimp only
    | dsimp only [id]

theorem serveInboxes_ok {s0 : State} {s : State} (hok : Ok s0 s) :
    Ok s0 (serveInboxes s) := by
  unfold serveInboxes
  repeat' first
    | with_reducible assumption
    | with_reducible apply foldState_ok
    | with_reducible apply serveInbox_ok
    | intro _ _ _
    | intro _ _
    | dsimp only
    | dsimp only [id]
    | (intro hl; simp [hl]; done)

theorem takeIn_ok {s0 : State} {f : InFrame} {s : State} (hok : Ok s0 s) :
    Ok s0 (takeIn f s) := by
  unfold takeIn
  repeat' first
    | with_reducible assumption
    | (extract_lets +onlyGivenNames x
       first
       | (refine okStep (s0 := s0) (x := x) (fun hx => ?_) ?_; clear_value x; rotate_left; subst x)
       | subst x)
    | with_reducible apply serveInbox_ok
    | intro _ _ _
    | intro _ _
    | (simp only [ok_lit]; with_reducible refine OkLit.of ?_ ?_ ?_ ?_ ?_ ?_ ?_ ?_ ?_)
    | exact fun h => h
    | exact fun _ => rfl
    | exact Nat.le_refl _
    | dsimp only
    | dsimp only [id]

theorem execCheckWrite_ok {s0 : State} {h : FrameHdr} {runs : List WRun} {s : State} (hok : Ok s0 s) :
    OutOk s0 (execCheckWrite h runs s) := by
  unfold execCheckWrite
  refine ⟨_, rfl, ?_⟩
  repeat' first
    | with_reducible assumption
    | with_reducible apply withFrame_ok
    | with_reducible apply takeIn_ok
    | intro _ _ _
    | intro _ _
    | dsimp only
    | dsimp only [id]

theorem execCheckAtomic_ok {s0 : State} {h : FrameHdr} {runs : List WRun} {s : State} (hok : Ok s0 s) :
    OutOk s0 (execCheckAtomic h runs s) := by
  unfold execCheckAtomic
  refine ⟨_, rfl, ?_⟩
  repeat' first
    | with_reducible assumption
    | with_reducible apply withFrame_ok
    | with_reducible apply takeIn_ok
    | intro _ _ _
    | intro _ _
    | dsimp only
    | dsimp only [id]

theorem execReadReq_ok {s0 : State} {h : FrameHdr} {runs : List WRun} {s : State} (hok : Ok s0 s) :
    OutOk s0 (execReadReq h runs s) := by
  unfold execReadReq
  refine ⟨_, rfl, ?_⟩
  repeat' first
    | with_reducible assumption
    | with_reducible apply withFrame_ok
    | with_reducible apply takeIn_ok
    | intro _ _ _
    | intro _ _
    | dsimp only
    | dsimp only [id]

theorem execData_ok {s0 : State} {h : FrameHdr} {b : Bytes} {s : State} (hok : Ok s0 s) :
    OutOk s0 (execData h b s) := by
  unfold execData
  refine ⟨_, rfl, ?_⟩
  repeat' first
    | with_reducible assumption
    | with_reducible apply withFrame_ok
    | with_reducible apply takeIn_ok
    | intro _ _ _
    | intro _ _
    | dsimp only
    | dsimp only [id]

theorem execCancel_ok {s0 : State} {h : FrameHdr} {s : State} (hok : Ok s0 s) :
    OutOk s0 (execCancel h s) := by
  unfold execCancel
  refine ⟨_, rfl, ?_⟩
  repeat' first
    | with_reducible assumption
    | with_reducible apply withFrame_ok
    | with_reducible apply takeIn_ok
    | intro _ _ _
    | intro _ _
    | dsimp only
    | dsimp only [id]

theorem dataExecuted_ok {s0 : State} {src : PackageId} {w : WindowId} {serial : U32} {tile : Nat} {s : State} (hok : Ok s0 s) :
    Ok s0 (dataExecuted src w serial tile s) := by
  unfold dataExecuted
  repeat' first
    | with_reducible assumption
    | (extract_lets +onlyGivenNames x
       first
       | (refine okStep (s0 := s0) (x := x) (fun hx => ?_) ?_; clear_value x; rotate_left; subst x)
       | subst x)
    | with_reducible refine Ok.ite ?_ ?_
    | with_reducible apply serveInbox_ok
    | with_reducible apply replyOp_ok
    | with_reducible apply endRecv_ok
    | with_reducible refine Ok.ofPair ?_ (by with_reducible assumption)
    | intro _ _ _
    | intro _ _
    | split
    | (simp only [ok_lit]; with_reducible refine OkLit.of ?_ ?_ ?_ ?_ ?_ ?_ ?_ ?_ ?_)
    | exact fun h => h
    | exact fun _ => rfl
    | exact Nat.le_refl _
    | dsimp only
    | dsimp only [id]

theorem execWindowDataExecuted_ok {s0 : State} {src : PackageId} {w : WindowId} {serial : U32} {tile : Nat} {s : State} (hok : Ok s0 s) :
    OutOk s0 (execWindowDataExecuted src w serial tile s) := by
  unfold execWindowDataExecuted
  refine ⟨_, rfl, ?_⟩
  repeat' first
    | with_reducible assumption
    | with_reducible apply dataExecuted_ok
    | intro _ _ _
    | intro _ _
    | dsimp only
    | dsimp only [id]

theorem modSend_ok {s0 : State} {o : SendOp} {f : SendOp → SendOp} {s : State} (hok : Ok s0 s) :
    Ok s0 (modSend o f s) := by
  unfold modSend
  repeat' first
    | with_reducible assumption
    | (extract_lets +onlyGivenNames x
       first
       | (refine okStep (s0 := s0) (x := x) (fun hx => ?_) ?_; clear_value x; rotate_left; subst x)
       | subst x)
    | with_reducible refine Ok.ite ?_ ?_
    | intro _ _ _
    | intro _ _
    | split
    | (simp only [ok_lit]; with_reducible refine OkLit.of ?_ ?_ ?_ ?_ ?_ ?_ ?_ ?_ ?_)
    | exact fun h => h
    | exact fun _ => rfl
    | exact Nat.le_refl _
    | dsimp only
    | dsimp only [id]
    | (intro hl; simp [hl]; done)

theorem execAccept_ok {s0 : State} {h : FrameHdr} {s : State} (hok : Ok s0 s) :
    OutOk s0 (execAccept h s) := by
  unfold execAccept
  refine ⟨_, rfl, ?_⟩
  repeat' first
    | with_reducible assumption
    | (extract_lets +onlyGivenNames x
       first
       | (refine okStep (s0 := s0) (x := x) (fun hx => ?_) ?_; clear_value x; rotate_left; subst x)
       | subst x)
    | with_reducible apply withFrame_ok
    | with_reducible apply modSend_ok
    | intro _ _ _
    | intro _ _
    | split
    | (simp only [ok_lit]; with_reducible refine OkLit.of ?_ ?_ ?_ ?_ ?_ ?_ ?_ ?_ ?_)
    | exact fun h => h
    | exact fun _ => rfl
    | exact Nat.le_refl _
    | dsimp only
    | dsimp only [id]

theorem denialFaults_ok {s0 : State} {c : CtxId} {q : Nat} {s : State} (hok : Ok s0 s) :
    Ok s0 (denialFaults c q s) := by
  unfold denialFaults
  repeat' first
    | with_reducible assumption
    | (extract_lets +onlyGivenNames x
       first
       | (refine okStep (s0 := s0) (x := x) (fun hx => ?_) ?_; clear_value x; rotate_left; subst x)
       | (refine okStep (s0 := s0) (x := x.1) (fun hx => ?_) ?_; clear_value x; rotate_left; subst x)
       | subst x)
    | with_reducible refine Ok.ite ?_ ?_
    | with_reducible apply tileStops_ok
    | with_reducible apply windowBarred_ok
    | with_reducible refine Ok.ofPair ?_ (by with_reducible assumption)
    | intro _ _ _
    | intro _ _
    | split
    | (simp only [ok_lit]; with_reducible refine OkLit.of ?_ ?_ ?_ ?_ ?_ ?_ ?_ ?_ ?_)
    | exact fun h => h
    | exact fun _ => rfl
    | exact Nat.le_refl _
    | dsimp only
    | dsimp only [id]
    | (intro hl; simp [hl]; done)

theorem denyTaken_ok {s0 : State} {h : FrameHdr} {o : SendOp} {s : State} (hok : Ok s0 s) :
    Ok s0 (denyTaken h o s) := by
  unfold denyTaken
  repeat' first
    | with_reducible assumption
    | (extract_lets +onlyGivenNames x
       first
       | (refine okStep (s0 := s0) (x := x) (fun hx => ?_) ?_; clear_value x; rotate_left; subst x)
       | subst x)
    | with_reducible apply denialFaults_ok
    | with_reducible apply modSend_ok
    | intro _ _ _
    | intro _ _
    | (simp only [ok_lit]; with_reducible refine OkLit.of ?_ ?_ ?_ ?_ ?_ ?_ ?_ ?_ ?_)
    | exact fun h => h
    | exact fun _ => rfl
    | exact Nat.le_refl _
    | dsimp only
    | dsimp only [id]

theorem countDeny_ok {s0 : State} {o : Option SendOp} {s : State} (hok : Ok s0 s) :
    Ok s0 (countDeny o s) := by
  unfold countDeny
  repeat' first
    | with_reducible assumption
    | (extract_lets +onlyGivenNames x
       first
       | (refine okStep (s0 := s0) (x := x) (fun hx => ?_) ?_; clear_value x; rotate_left; subst x)
       | subst x)
    | with_reducible apply countFn_ok
    | with_reducible apply draw_ok
    | with_reducible refine Ok.ofPair ?_ (by with_reducible assumption)
    | intro _ _ _
    | intro _ _
    | split
    | (simp only [ok_lit]; with_reducible refine OkLit.of ?_ ?_ ?_ ?_ ?_ ?_ ?_ ?_ ?_)
    | exact fun h => h
    | exact fun _ => rfl
    | exact Nat.le_refl _
    | dsimp only
    | dsimp only [id]

theorem denyArrives_ok {s0 : State} {h : FrameHdr} {s : State} (hok : Ok s0 s) :
    Ok s0 (denyArrives h s) := by
  unfold denyArrives
  repeat' first
    | with_reducible assumption
    | (extract_lets +onlyGivenNames x
       first
       | (refine okStep (s0 := s0) (x := x) (fun hx => ?_) ?_; clear_value x; rotate_left; subst x)
       | subst x)
    | with_reducible refine Ok.ite ?_ ?_
    | with_reducible apply countDeny_ok
    | with_reducible apply modSend_ok
    | with_reducible apply denyTaken_ok
    | with_reducible refine Ok.ofPair ?_ (by with_reducible assumption)
    | intro _ _ _
    | intro _ _
    | split
    | (simp only [ok_lit]; with_reducible refine OkLit.of ?_ ?_ ?_ ?_ ?_ ?_ ?_ ?_ ?_)
    | exact fun h => h
    | exact fun _ => rfl
    | exact Nat.le_refl _
    | dsimp only
    | dsimp only [id]

theorem execDeny_ok {s0 : State} {h : FrameHdr} {s : State} (hok : Ok s0 s) :
    OutOk s0 (execDeny h s) := by
  unfold execDeny
  refine ⟨_, rfl, ?_⟩
  repeat' first
    | with_reducible assumption
    | with_reducible apply withFrame_ok
    | with_reducible apply denyArrives_ok
    | intro _ _ _
    | intro _ _
    | dsimp only
    | dsimp only [id]

theorem poisonArrives_ok {s0 : State} {o : SendOp} {s : State} (hok : Ok s0 s) :
    Ok s0 (poisonArrives o s) := by
  unfold poisonArrives
  repeat' first
    | with_reducible assumption
    | (extract_lets +onlyGivenNames x
       first
       | (refine okStep (s0 := s0) (x := x) (fun hx => ?_) ?_; clear_value x; rotate_left; subst x)
       | subst x)
    | with_reducible refine Ok.ite ?_ ?_
    | with_reducible apply enter_ok
    | intro _ _ _
    | intro _ _
    | split
    | (simp only [ok_lit]; with_reducible refine OkLit.of ?_ ?_ ?_ ?_ ?_ ?_ ?_ ?_ ?_)
    | exact fun h => h
    | exact fun _ => rfl
    | exact Nat.le_refl _
    | dsimp only
    | dsimp only [id]

theorem takeReadData_ok {s0 : State} {h : FrameHdr} {b : Bytes} {s : State} (hok : Ok s0 s) :
    Ok s0 (takeReadData h b s) := by
  unfold takeReadData
  repeat' first
    | with_reducible assumption
    | (extract_lets +onlyGivenNames x
       first
       | (refine okStep (s0 := s0) (x := x) (fun hx => ?_) ?_; clear_value x; rotate_left; subst x)
       | subst x)
    | with_reducible refine Ok.ite ?_ ?_
    | with_reducible apply poisonArrives_ok
    | with_reducible apply modSend_ok
    | with_reducible refine Ok.ofPair ?_ (by with_reducible assumption)
    | intro _ _ _
    | intro _ _
    | split
    | (simp only [ok_lit]; with_reducible refine OkLit.of ?_ ?_ ?_ ?_ ?_ ?_ ?_ ?_ ?_)
    | exact fun h => h
    | exact fun _ => rfl
    | exact Nat.le_refl _
    | dsimp only
    | dsimp only [id]
    | (intro hl; simp [hl]; done)

theorem execReadData_ok {s0 : State} {h : FrameHdr} {b : Bytes} {s : State} (hok : Ok s0 s) :
    OutOk s0 (execReadData h b s) := by
  unfold execReadData
  refine ⟨_, rfl, ?_⟩
  repeat' first
    | with_reducible assumption
    | with_reducible apply withFrame_ok
    | with_reducible apply takeReadData_ok
    | intro _ _ _
    | intro _ _
    | dsimp only
    | dsimp only [id]

theorem doneArrives_ok {s0 : State} {h : FrameHdr} {s : State} (hok : Ok s0 s) :
    Ok s0 (doneArrives h s) := by
  unfold doneArrives
  repeat' first
    | with_reducible assumption
    | (extract_lets +onlyGivenNames x
       first
       | (refine okStep (s0 := s0) (x := x) (fun hx => ?_) ?_; clear_value x; rotate_left; subst x)
       | subst x)
    | with_reducible refine Ok.ite ?_ ?_
    | with_reducible apply modSend_ok
    | with_reducible refine Ok.ofPair ?_ (by with_reducible assumption)
    | intro _ _ _
    | intro _ _
    | split
    | (simp only [ok_lit]; with_reducible refine OkLit.of ?_ ?_ ?_ ?_ ?_ ?_ ?_ ?_ ?_)
    | exact fun h => h
    | exact fun _ => rfl
    | exact Nat.le_refl _
    | dsimp only
    | dsimp only [id]

theorem execDone_ok {s0 : State} {h : FrameHdr} {s : State} (hok : Ok s0 s) :
    OutOk s0 (execDone h s) := by
  unfold execDone
  refine ⟨_, rfl, ?_⟩
  repeat' first
    | with_reducible assumption
    | with_reducible apply withFrame_ok
    | with_reducible apply doneArrives_ok
    | intro _ _ _
    | intro _ _
    | dsimp only
    | dsimp only [id]

theorem execDenyBusyRetry_ok {s0 : State} {p : PackageId} {w : WindowId} {serial : U32} {tile : Nat} {s : State} (hok : Ok s0 s) :
    OutOk s0 (execDenyBusyRetry p w serial tile s) := by
  unfold execDenyBusyRetry
  refine ⟨_, rfl, ?_⟩
  repeat' first
    | with_reducible assumption
    | (extract_lets +onlyGivenNames x
       first
       | (refine okStep (s0 := s0) (x := x) (fun hx => ?_) ?_; clear_value x; rotate_left; subst x)
       | subst x)
    | with_reducible apply sendCheck_ok
    | with_reducible apply modSend_ok
    | intro _ _ _
    | intro _ _
    | split
    | (simp only [ok_lit]; with_reducible refine OkLit.of ?_ ?_ ?_ ?_ ?_ ?_ ?_ ?_ ?_)
    | exact fun h => h
    | exact fun _ => rfl
    | exact Nat.le_refl _
    | dsimp only
    | dsimp only [id]

theorem wake_ok {s0 : State} {s : State} (hok : Ok s0 s) :
    Ok s0 (wake s) := by
  unfold wake
  repeat' first
    | with_reducible assumption
    | with_reducible apply serveInboxes_ok
    | with_reducible apply retryLeases_ok
    | with_reducible apply serveStalled_ok
    | intro _ _ _
    | intro _ _
    | dsimp only
    | dsimp only [id]

theorem execWalkNodeReadDone_ok {s0 : State} {walk : Nat} {s : State} (hok : Ok s0 s) :
    OutOk s0 (execWalkNodeReadDone walk s) := by
  unfold execWalkNodeReadDone
  refine ⟨_, rfl, ?_⟩
  repeat' first
    | with_reducible assumption
    | (extract_lets +onlyGivenNames x
       first
       | (refine okStep (s0 := s0) (x := x) (fun hx => ?_) ?_; clear_value x; rotate_left; subst x)
       | subst x)
    | with_reducible refine Ok.ite ?_ ?_
    | with_reducible apply wake_ok
    | with_reducible apply walkStep_ok
    | intro _ _ _
    | intro _ _
    | split
    | (simp only [ok_lit]; with_reducible refine OkLit.of ?_ ?_ ?_ ?_ ?_ ?_ ?_ ?_ ?_)
    | exact fun h => h
    | exact fun _ => rfl
    | exact Nat.le_refl _
    | dsimp only
    | dsimp only [id]

theorem execRevokeAck_ok {s0 : State} {cluster slot : Nat} {s : State} (hok : Ok s0 s) :
    OutOk s0 (execRevokeAck cluster slot s) := by
  unfold execRevokeAck
  refine ⟨_, rfl, ?_⟩
  repeat' first
    | with_reducible assumption
    | (extract_lets +onlyGivenNames x
       first
       | (refine okStep (s0 := s0) (x := x) (fun hx => ?_) ?_; clear_value x; rotate_left; subst x)
       | subst x)
    | with_reducible apply wake_ok
    | with_reducible apply leasesEnded_ok
    | intro _ _ _
    | intro _ _
    | (simp only [ok_lit]; with_reducible refine OkLit.of ?_ ?_ ?_ ?_ ?_ ?_ ?_ ?_ ?_)
    | exact fun h => h
    | exact fun _ => rfl
    | exact Nat.le_refl _
    | dsimp only
    | dsimp only [id]

theorem execLeaseRelease_ok {s0 : State} {cluster slot : Nat} {s : State} (hok : Ok s0 s) :
    OutOk s0 (execLeaseRelease cluster slot s) := by
  unfold execLeaseRelease
  refine ⟨_, rfl, ?_⟩
  repeat' first
    | with_reducible assumption
    | (extract_lets +onlyGivenNames x
       first
       | (refine okStep (s0 := s0) (x := x) (fun hx => ?_) ?_; clear_value x; rotate_left; subst x)
       | subst x)
    | with_reducible apply wake_ok
    | with_reducible apply leasesEnded_ok
    | intro _ _ _
    | intro _ _
    | (simp only [ok_lit]; with_reducible refine OkLit.of ?_ ?_ ?_ ?_ ?_ ?_ ?_ ?_ ?_)
    | exact fun h => h
    | exact fun _ => rfl
    | exact Nat.le_refl _
    | dsimp only
    | dsimp only [id]

theorem execWalkerGroupEnableWrite_ok {s0 : State} {rq : Requester} {v : U8} {s : State} (hok : Ok s0 s) :
    OutOk s0 (execWalkerGroupEnableWrite rq v s) := by
  unfold execWalkerGroupEnableWrite
  refine ⟨_, rfl, ?_⟩
  repeat' first
    | with_reducible assumption
    | with_reducible apply requestWrite_ok
    | with_reducible apply putObj_ok
    | intro _ _ _
    | intro _ _
    | dsimp only
    | dsimp only [id]


/-! ### Machine/WindowAdmin.lean -/

theorem setResult_ok {s0 : State} {g : Fun} {r : WinRequest} {op status : Nat} {s : State} (hok : Ok s0 s) :
    Ok s0 (setResult g r op status s) := by
  unfold setResult
  repeat' first
    | with_reducible assumption
    | (extract_lets +onlyGivenNames x
       first
       | (refine okStep (s0 := s0) (x := x) (fun hx => ?_) ?_; clear_value x; rotate_left; subst x)
       | subst x)
    | with_reducible apply modFn_ok
    | (intro x hx; (repeat' split) <;> refine ⟨?_, ?_, ?_, ?_⟩ <;> first | exact hx.cfg | exact hx.admin | exact hx.faultq | exact hx.int | exact CfgOk.init _ | exact AdminOk.init | exact FaultqOk.init | exact IntOk.init | exact ⟨hx.int.delay, hx.int.masks⟩)
    | intro _ _ _
    | intro _ _
    | (simp only [ok_lit]; with_reducible refine OkLit.of ?_ ?_ ?_ ?_ ?_ ?_ ?_ ?_ ?_)
    | exact fun h => h
    | exact fun _ => rfl
    | exact Nat.le_refl _
    | dsimp only
    | dsimp only [id]

theorem resultOk_ok {s0 : State} {g : Fun} {w : WindowId} {op : Nat} {s : State} (hok : Ok s0 s) :
    Ok s0 (resultOk g w op s) := by
  unfold resultOk
  repeat' first
    | with_reducible assumption
    | (extract_lets +onlyGivenNames x
       first
       | (refine okStep (s0 := s0) (x := x) (fun hx => ?_) ?_; clear_value x; rotate_left; subst x)
       | subst x)
    | with_reducible refine Ok.ite ?_ ?_
    | with_reducible apply modFn_ok
    | (intro x hx; (repeat' split) <;> refine ⟨?_, ?_, ?_, ?_⟩ <;> first | exact hx.cfg | exact hx.admin | exact hx.faultq | exact hx.int | exact CfgOk.init _ | exact AdminOk.init | exact FaultqOk.init | exact IntOk.init | exact ⟨hx.int.delay, hx.int.masks⟩)
    | intro _ _ _
    | intro _ _
    | split
    | (simp only [ok_lit]; with_reducible refine OkLit.of ?_ ?_ ?_ ?_ ?_ ?_ ?_ ?_ ?_)
    | exact fun h => h
    | exact fun _ => rfl
    | exact Nat.le_refl _
    | dsimp only
    | dsimp only [id]

theorem modWin_ok {s0 : State} {w : WindowId} {f : Win → Win} {s : State} (hok : Ok s0 s) :
    Ok s0 (modWin w f s) := by
  unfold modWin
  repeat' first
    | with_reducible assumption
    | (extract_lets +onlyGivenNames x
       first
       | (refine okStep (s0 := s0) (x := x) (fun hx => ?_) ?_; clear_value x; rotate_left; subst x)
       | (refine okStep (s0 := s0) (x := x.1) (fun hx => ?_) ?_; clear_value x; rotate_left; subst x)
       | subst x)
    | with_reducible refine Ok.ite ?_ ?_
    | intro _ _ _
    | intro _ _
    | split
    | (simp only [ok_lit]; with_reducible refine OkLit.of ?_ ?_ ?_ ?_ ?_ ?_ ?_ ?_ ?_)
    | exact fun h => h
    | exact fun _ => rfl
    | exact Nat.le_refl _
    | dsimp only
    | dsimp only [id]
    | (intro hl; simp [hl]; done)

theorem openWindow_ok {s0 : State} {g : Fun} {r : WinRequest} {s : State} (hok : Ok s0 s) :
    Ok s0 (openWindow g r s) := by
  unfold openWindow
  repeat' first
    | with_reducible assumption
    | (extract_lets +onlyGivenNames x
       first
       | (refine okStep (s0 := s0) (x := x) (fun hx => ?_) ?_; clear_value x; rotate_left; subst x)
       | subst x)
    | with_reducible refine Ok.ite ?_ ?_
    | with_reducible apply setResult_ok
    | intro _ _ _
    | intro _ _
    | split
    | (simp only [ok_lit]; with_reducible refine OkLit.of ?_ ?_ ?_ ?_ ?_ ?_ ?_ ?_ ?_)
    | exact fun h => h
    | exact fun _ => rfl
    | exact Nat.le_refl _
    | dsimp only
    | dsimp only [id]
    | (intro hl; simp [hl]; done)

theorem closeWindow_ok {s0 : State} {g : Fun} {r : WinRequest} {s : State} (hok : Ok s0 s) :
    Ok s0 (closeWindow g r s) := by
  unfold closeWindow
  repeat' first
    | with_reducible assumption
    | (extract_lets +onlyGivenNames x
       first
       | (refine okStep (s0 := s0) (x := x) (fun hx => ?_) ?_; clear_value x; rotate_left; subst x)
       | subst x)
    | with_reducible refine Ok.ite ?_ ?_
    | with_reducible apply setResult_ok
    | with_reducible apply modWin_ok
    | intro _ _ _
    | intro _ _
    | split
    | (simp only [ok_lit]; with_reducible refine OkLit.of ?_ ?_ ?_ ?_ ?_ ?_ ?_ ?_ ?_)
    | exact fun h => h
    | exact fun _ => rfl
    | exact Nat.le_refl _
    | dsimp only
    | dsimp only [id]
    | (intro hl; simp [hl]; done)

theorem modifyWindow_ok {s0 : State} {g : Fun} {r : WinRequest} {s : State} (hok : Ok s0 s) :
    Ok s0 (modifyWindow g r s) := by
  unfold modifyWindow
  repeat' first
    | with_reducible assumption
    | (extract_lets +onlyGivenNames x
       first
       | (refine okStep (s0 := s0) (x := x) (fun hx => ?_) ?_; clear_value x; rotate_left; subst x)
       | subst x)
    | with_reducible refine Ok.ite ?_ ?_
    | with_reducible apply setResult_ok
    | with_reducible apply modWin_ok
    | intro _ _ _
    | intro _ _
    | split
    | (simp only [ok_lit]; with_reducible refine OkLit.of ?_ ?_ ?_ ?_ ?_ ?_ ?_ ?_ ?_)
    | exact fun h => h
    | exact fun _ => rfl
    | exact Nat.le_refl _
    | dsimp only
    | dsimp only [id]
    | (intro hl; simp [hl]; done)

theorem refreshWindow_ok {s0 : State} {g : Fun} {r : WinRequest} {s : State} (hok : Ok s0 s) :
    Ok s0 (refreshWindow g r s) := by
  unfold refreshWindow
  repeat' first
    | with_reducible assumption
    | (extract_lets +onlyGivenNames x
       first
       | (refine okStep (s0 := s0) (x := x) (fun hx => ?_) ?_; clear_value x; rotate_left; subst x)
       | subst x)
    | with_reducible refine Ok.ite ?_ ?_
    | with_reducible apply setResult_ok
    | intro _ _ _
    | intro _ _
    | split
    | (simp only [ok_lit]; with_reducible refine OkLit.of ?_ ?_ ?_ ?_ ?_ ?_ ?_ ?_ ?_)
    | exact fun h => h
    | exact fun _ => rfl
    | exact Nat.le_refl _
    | dsimp only
    | dsimp only [id]
    | (intro hl; simp [hl]; done)

theorem winRequest_ok {s0 : State} {g : Fun} {r : WinRequest} {op : Nat} {s : State} (hok : Ok s0 s) :
    Ok s0 (winRequest g r op s) := by
  unfold winRequest
  repeat' first
    | with_reducible assumption
    | (extract_lets +onlyGivenNames x
       first
       | (refine okStep (s0 := s0) (x := x) (fun hx => ?_) ?_; clear_value x; rotate_left; subst x)
       | subst x)
    | with_reducible apply openWindow_ok
    | with_reducible apply closeWindow_ok
    | with_reducible apply modifyWindow_ok
    | with_reducible apply refreshWindow_ok
    | with_reducible apply setResult_ok
    | with_reducible refine Ok.ofPair ?_ (by with_reducible assumption)
    | intro _ _ _
    | intro _ _
    | split
    | (simp only [ok_lit]; with_reducible refine OkLit.of ?_ ?_ ?_ ?_ ?_ ?_ ?_ ?_ ?_)
    | exact fun h => h
    | exact fun _ => rfl
    | exact Nat.le_refl _
    | dsimp only
    | dsimp only [id]
    | (intro hl; simp [hl]; done)

theorem writeRequest_ok {s0 : State} {rq : Requester} {g : Fun} {r : WinRequest} {op : Nat} {s : State} (hok : Ok s0 s) :
    Ok s0 (writeRequest rq g r op s) := by
  unfold writeRequest
  repeat' first
    | with_reducible assumption
    | with_reducible apply requestWrite_ok
    | with_reducible apply winRequest_ok
    | intro _ _ _
    | intro _ _
    | dsimp only
    | dsimp only [id]

theorem execWindowOpen_ok {s0 : State} {rq : Requester} {g : Fun} {r : WinRequest} {s : State} (hok : Ok s0 s) :
    OutOk s0 (execWindowOpen rq g r s) := by
  unfold execWindowOpen
  refine ⟨_, rfl, ?_⟩
  repeat' first
    | with_reducible assumption
    | with_reducible apply writeRequest_ok
    | intro _ _ _
    | intro _ _
    | dsimp only
    | dsimp only [id]

theorem execWindowClose_ok {s0 : State} {rq : Requester} {g : Fun} {r : WinRequest} {s : State} (hok : Ok s0 s) :
    OutOk s0 (execWindowClose rq g r s) := by
  unfold execWindowClose
  refine ⟨_, rfl, ?_⟩
  repeat' first
    | with_reducible assumption
    | with_reducible apply writeRequest_ok
    | intro _ _ _
    | intro _ _
    | dsimp only
    | dsimp only [id]

theorem execWindowModify_ok {s0 : State} {rq : Requester} {g : Fun} {r : WinRequest} {s : State} (hok : Ok s0 s) :
    OutOk s0 (execWindowModify rq g r s) := by
  unfold execWindowModify
  refine ⟨_, rfl, ?_⟩
  repeat' first
    | with_reducible assumption
    | with_reducible apply writeRequest_ok
    | intro _ _ _
    | intro _ _
    | dsimp only
    | dsimp only [id]

theorem execWindowRefresh_ok {s0 : State} {rq : Requester} {g : Fun} {r : WinRequest} {s : State} (hok : Ok s0 s) :
    OutOk s0 (execWindowRefresh rq g r s) := by
  unfold execWindowRefresh
  refine ⟨_, rfl, ?_⟩
  repeat' first
    | with_reducible assumption
    | with_reducible apply writeRequest_ok
    | intro _ _ _
    | intro _ _
    | dsimp only
    | dsimp only [id]

theorem execWindowRequestBadOp_ok {s0 : State} {rq : Requester} {g : Fun} {r : WinRequest} {s : State} (hok : Ok s0 s) :
    OutOk s0 (execWindowRequestBadOp rq g r s) := by
  unfold execWindowRequestBadOp
  refine ⟨_, rfl, ?_⟩
  repeat' first
    | with_reducible assumption
    | with_reducible refine Ok.ite ?_ ?_
    | with_reducible apply writeRequest_ok
    | intro _ _ _
    | intro _ _
    | split
    | dsimp only
    | dsimp only [id]

theorem dropWindowEntries_ok {s0 : State} {w : WindowId} {s : State} (hok : Ok s0 s) :
    Ok s0 (dropWindowEntries w s) := by
  unfold dropWindowEntries
  repeat' first
    | with_reducible assumption
    | (extract_lets +onlyGivenNames x
       first
       | (refine okStep (s0 := s0) (x := x) (fun hx => ?_) ?_; clear_value x; rotate_left; subst x)
       | subst x)
    | with_reducible refine Ok.ite ?_ ?_
    | with_reducible apply scanBank_ok
    | intro _ _ _
    | intro _ _
    | split
    | (simp only [ok_lit]; with_reducible refine OkLit.of ?_ ?_ ?_ ?_ ?_ ?_ ?_ ?_ ?_)
    | exact fun h => h
    | exact fun _ => rfl
    | exact Nat.le_refl _
    | dsimp only
    | dsimp only [id]
    | (intro hl; simp [hl]; done)

theorem closeDone_ok {s0 : State} {w : WindowId} {s : State} (hok : Ok s0 s) :
    Ok s0 (closeDone w s) := by
  unfold closeDone
  repeat' first
    | with_reducible assumption
    | (extract_lets +onlyGivenNames x
       first
       | (refine okStep (s0 := s0) (x := x) (fun hx => ?_) ?_; clear_value x; rotate_left; subst x)
       | (refine okStep (s0 := s0) (x := x.1) (fun hx => ?_) ?_; clear_value x; rotate_left; subst x)
       | subst x)
    | with_reducible refine Ok.ite ?_ ?_
    | with_reducible apply dropWindowEntries_ok
    | with_reducible apply foldState_ok
    | with_reducible apply resultOk_ok
    | with_reducible refine Ok.ofPair ?_ (by with_reducible assumption)
    | intro _ _ _
    | intro _ _
    | split
    | (simp only [ok_lit]; with_reducible refine OkLit.of ?_ ?_ ?_ ?_ ?_ ?_ ?_ ?_ ?_)
    | exact fun h => h
    | exact fun _ => rfl
    | exact Nat.le_refl _
    | dsimp only
    | dsimp only [id]

theorem execWindowCloseDone_ok {s0 : State} {w : WindowId} {s : State} (hok : Ok s0 s) :
    OutOk s0 (execWindowCloseDone w s) := by
  unfold execWindowCloseDone
  refine ⟨_, rfl, ?_⟩
  repeat' first
    | with_reducible assumption
    | with_reducible apply closeDone_ok
    | intro _ _ _
    | intro _ _
    | dsimp only
    | dsimp only [id]

theorem refreshDone_ok {s0 : State} {w : WindowId} {s : State} (hok : Ok s0 s) :
    Ok s0 (refreshDone w s) := by
  unfold refreshDone
  repeat' first
    | with_reducible assumption
    | (extract_lets +onlyGivenNames x
       first
       | (refine okStep (s0 := s0) (x := x) (fun hx => ?_) ?_; clear_value x; rotate_left; subst x)
       | (refine okStep (s0 := s0) (x := x.1) (fun hx => ?_) ?_; clear_value x; rotate_left; subst x)
       | subst x)
    | with_reducible refine Ok.ite ?_ ?_
    | with_reducible apply dropWindowEntries_ok
    | with_reducible apply resultOk_ok
    | with_reducible refine Ok.ofPair ?_ (by with_reducible assumption)
    | intro _ _ _
    | intro _ _
    | split
    | (simp only [ok_lit]; with_reducible refine OkLit.of ?_ ?_ ?_ ?_ ?_ ?_ ?_ ?_ ?_)
    | exact fun h => h
    | exact fun _ => rfl
    | exact Nat.le_refl _
    | dsimp only
    | dsimp only [id]

theorem execWindowRefreshDone_ok {s0 : State} {w : WindowId} {s : State} (hok : Ok s0 s) :
    OutOk s0 (execWindowRefreshDone w s) := by
  unfold execWindowRefreshDone
  refine ⟨_, rfl, ?_⟩
  repeat' first
    | with_reducible assumption
    | with_reducible apply refreshDone_ok
    | intro _ _ _
    | intro _ _
    | dsimp only
    | dsimp only [id]


/-! ### Machine/Coherence.lean -/

theorem setCoh_ok {s0 : State} {n : Nat} {x : CohState × CohRefusal} {s : State} (hok : Ok s0 s) :
    Ok s0 (setCoh n x s) := by
  unfold setCoh
  repeat' first
    | with_reducible assumption
    | (extract_lets +onlyGivenNames x
       first
       | (refine okStep (s0 := s0) (x := x) (fun hx => ?_) ?_; clear_value x; rotate_left; subst x)
       | subst x)
    | intro _ _ _
    | intro _ _
    | (simp only [ok_lit]; with_reducible refine OkLit.of ?_ ?_ ?_ ?_ ?_ ?_ ?_ ?_ ?_)
    | exact fun h => h
    | exact fun _ => rfl
    | exact Nat.le_refl _
    | dsimp only
    | dsimp only [id]
    | (intro hl; simp [hl]; done)

theorem enableCoh_ok {s0 : State} {n : Nat} {s : State} (hok : Ok s0 s) :
    Ok s0 (enableCoh n s) := by
  unfold enableCoh
  repeat' first
    | with_reducible assumption
    | (extract_lets +onlyGivenNames x
       first
       | (refine okStep (s0 := s0) (x := x) (fun hx => ?_) ?_; clear_value x; rotate_left; subst x)
       | (refine okStep (s0 := s0) (x := x.1) (fun hx => ?_) ?_; clear_value x; rotate_left; subst x)
       | subst x)
    | with_reducible refine Ok.ite ?_ ?_
    | with_reducible apply putObj_ok
    | with_reducible apply setCoh_ok
    | with_reducible refine Ok.ofPair ?_ (by with_reducible assumption)
    | intro _ _ _
    | intro _ _
    | split
    | (simp only [ok_lit]; with_reducible refine OkLit.of ?_ ?_ ?_ ?_ ?_ ?_ ?_ ?_ ?_)
    | exact fun h => h
    | exact fun _ => rfl
    | exact Nat.le_refl _
    | dsimp only
    | dsimp only [id]
    | (intro hl; simp [hl]; done)

theorem execCohEnable_ok {s0 : State} {rq : Requester} {n : Fin 64} {s : State} (hok : Ok s0 s) :
    OutOk s0 (execCohEnable rq n s) := by
  unfold execCohEnable
  refine ⟨_, rfl, ?_⟩
  repeat' first
    | with_reducible assumption
    | with_reducible apply requestWrite_ok
    | with_reducible apply enableCoh_ok
    | intro _ _ _
    | intro _ _
    | dsimp only
    | dsimp only [id]

theorem dropLine_ok {s0 : State} {i : ErrInfo} {l : Line} {s : State} (hok : Ok s0 s) :
    Ok s0 (dropLine i l s) := by
  unfold dropLine
  repeat' first
    | with_reducible assumption
    | with_reducible apply foldState_ok
    | with_reducible apply sendSnoop_ok
    | intro _ _ _
    | intro _ _
    | dsimp only
    | dsimp only [id]

theorem disableCoh_ok {s0 : State} {n : Nat} {s : State} (hok : Ok s0 s) :
    Ok s0 (disableCoh n s) := by
  unfold disableCoh
  repeat' first
    | with_reducible assumption
    | (extract_lets +onlyGivenNames x
       first
       | (refine okStep (s0 := s0) (x := x) (fun hx => ?_) ?_; clear_value x; rotate_left; subst x)
       | (refine okStep (s0 := s0) (x := x.1) (fun hx => ?_) ?_; clear_value x; rotate_left; subst x)
       | subst x)
    | with_reducible apply putObj_ok
    | with_reducible apply foldState_ok
    | with_reducible apply dropLine_ok
    | with_reducible apply setCoh_ok
    | with_reducible refine Ok.ofPair ?_ (by with_reducible assumption)
    | intro _ _ _
    | intro _ _
    | split
    | (simp only [ok_lit]; with_reducible refine OkLit.of ?_ ?_ ?_ ?_ ?_ ?_ ?_ ?_ ?_)
    | exact fun h => h
    | exact fun _ => rfl
    | exact Nat.le_refl _
    | dsimp only
    | dsimp only [id]
    | (intro hl; simp [hl]; done)

theorem execCohDisable_ok {s0 : State} {rq : Requester} {n : Fin 64} {s : State} (hok : Ok s0 s) :
    OutOk s0 (execCohDisable rq n s) := by
  unfold execCohDisable
  refine ⟨_, rfl, ?_⟩
  repeat' first
    | with_reducible assumption
    | with_reducible apply requestWrite_ok
    | with_reducible apply disableCoh_ok
    | intro _ _ _
    | intro _ _
    | dsimp only
    | dsimp only [id]

theorem execCohCloseDone_ok {s0 : State} {n : Fin 64} {s : State} (hok : Ok s0 s) :
    OutOk s0 (execCohCloseDone n s) := by
  unfold execCohCloseDone
  refine ⟨_, rfl, ?_⟩
  repeat' first
    | with_reducible assumption
    | (extract_lets +onlyGivenNames x
       first
       | (refine okStep (s0 := s0) (x := x) (fun hx => ?_) ?_; clear_value x; rotate_left; subst x)
       | (refine okStep (s0 := s0) (x := x.1) (fun hx => ?_) ?_; clear_value x; rotate_left; subst x)
       | subst x)
    | with_reducible refine Ok.ite ?_ ?_
    | with_reducible apply setCoh_ok
    | with_reducible apply foldState_ok
    | with_reducible apply dropLine_ok
    | intro _ _ _
    | intro _ _
    | split
    | (simp only [ok_lit]; with_reducible refine OkLit.of ?_ ?_ ?_ ?_ ?_ ?_ ?_ ?_ ?_)
    | exact fun h => h
    | exact fun _ => rfl
    | exact Nat.le_refl _
    | dsimp only
    | dsimp only [id]

theorem trackLine_ok {s0 : State} {d : Die} {write : Bool} {a : Nat} {s : State} (hok : Ok s0 s) :
    Ok s0 (trackLine d write a s) := by
  unfold trackLine
  repeat' first
    | with_reducible assumption
    | (extract_lets +onlyGivenNames x
       first
       | (refine okStep (s0 := s0) (x := x) (fun hx => ?_) ?_; clear_value x; rotate_left; subst x)
       | subst x)
    | with_reducible refine Ok.ite ?_ ?_
    | with_reducible refine Ok.ofPair ?_ (by with_reducible assumption)
    | intro _ _ _
    | intro _ _
    | split
    | (simp only [ok_lit]; with_reducible refine OkLit.of ?_ ?_ ?_ ?_ ?_ ?_ ?_ ?_ ?_)
    | exact fun h => h
    | exact fun _ => rfl
    | exact Nat.le_refl _
    | dsimp only
    | dsimp only [id]
    | (intro hl; simp [hl]; done)

theorem runCoherent_ok {s0 : State} {d : Die} {on : Bool} {a : Nat} {x : CohAccess} {s : State} (hok : Ok s0 s) :
    Ok s0 (runCoherent d on a x s) := by
  unfold runCoherent
  repeat' first
    | with_reducible assumption
    | (extract_lets +onlyGivenNames x
       first
       | (refine okStep (s0 := s0) (x := x) (fun hx => ?_) ?_; clear_value x; rotate_left; subst x)
       | subst x)
    | with_reducible refine Ok.ite ?_ ?_
    | with_reducible apply countPackage_ok
    | with_reducible apply emit_ok
    | with_reducible apply poolWrite_ok
    | with_reducible apply foldState_ok
    | with_reducible apply trackLine_ok
    | with_reducible refine Ok.ofPair ?_ (by with_reducible assumption)
    | intro _ _ _
    | intro _ _
    | split
    | (simp only [ok_lit]; with_reducible refine OkLit.of ?_ ?_ ?_ ?_ ?_ ?_ ?_ ?_ ?_)
    | exact fun h => h
    | exact fun _ => rfl
    | exact Nat.le_refl _
    | dsimp only
    | dsimp only [id]

theorem tryCoherent_ok {s0 : State} {d : Die} {addr : Nat} {x : CohAccess} {s : State} (hok : Ok s0 s) :
    Ok s0 (tryCoherent d addr x s).1 := by
  unfold tryCoherent
  repeat' first
    | with_reducible assumption
    | (extract_lets +onlyGivenNames x
       first
       | (refine okStep (s0 := s0) (x := x) (fun hx => ?_) ?_; clear_value x; rotate_left; subst x)
       | (refine okStep (s0 := s0) (x := x.1) (fun hx => ?_) ?_; clear_value x; rotate_left; subst x)
       | subst x)
    | with_reducible refine Ok.ite ?_ ?_
    | with_reducible apply gateSnoops_ok
    | with_reducible apply dropLine_ok
    | with_reducible apply runCoherent_ok
    | with_reducible refine Ok.ofPair ?_ (by with_reducible assumption)
    | intro _ _ _
    | intro _ _
    | split
    | (simp only [ok_lit]; with_reducible refine OkLit.of ?_ ?_ ?_ ?_ ?_ ?_ ?_ ?_ ?_)
    | exact fun h => h
    | exact fun _ => rfl
    | exact Nat.le_refl _
    | dsimp only
    | dsimp only [id]

theorem coherentAccess_ok {s0 : State} {d : Die} {addr : Nat} {x : CohAccess} {s : State} (hok : Ok s0 s) :
    Ok s0 (coherentAccess d addr x s) := by
  unfold coherentAccess
  repeat' first
    | with_reducible assumption
    | (extract_lets +onlyGivenNames x
       first
       | (refine okStep (s0 := s0) (x := x) (fun hx => ?_) ?_; clear_value x; rotate_left; subst x)
       | subst x)
    | with_reducible refine Ok.ite ?_ ?_
    | with_reducible apply aerUncorrectable_ok
    | with_reducible apply emit_ok
    | with_reducible apply tryCoherent_ok
    | with_reducible refine Ok.ofPair ?_ (by with_reducible assumption)
    | intro _ _ _
    | intro _ _
    | split
    | (simp only [ok_lit]; with_reducible refine OkLit.of ?_ ?_ ?_ ?_ ?_ ?_ ?_ ?_ ?_)
    | exact fun h => h
    | exact fun _ => rfl
    | exact Nat.le_refl _
    | dsimp only
    | dsimp only [id]

theorem execCoherentAccess_ok {s0 : State} {d : Die} {addr : U64} {x : CohAccess} {s : State} (hok : Ok s0 s) :
    OutOk s0 (execCoherentAccess d addr x s) := by
  unfold execCoherentAccess
  refine ⟨_, rfl, ?_⟩
  repeat' first
    | with_reducible assumption
    | with_reducible apply coherentAccess_ok
    | intro _ _ _
    | intro _ _
    | dsimp only
    | dsimp only [id]

theorem retryWaiting_ok {s0 : State}  {r0 : List (Die × U64 × CohAccess)} {s : State} (hok : Ok s0 s) :
    Ok s0 (retryWaiting r0 s) := by
  induction r0 generalizing s with
  | nil =>
    unfold retryWaiting
    repeat' first
      | with_reducible assumption
      | (extract_lets +onlyGivenNames x
         first
         | (refine okStep (s0 := s0) (x := x) (fun hx => ?_) ?_; clear_value x; rotate_left; subst x)
         | (refine okStep (s0 := s0) (x := x.1) (fun hx => ?_) ?_; clear_value x; rotate_left; subst x)
         | subst x)
      | with_reducible apply coherentAccess_ok
      | with_reducible apply tryCoherent_ok
      | with_reducible refine Ok.ofPair ?_ (by with_reducible assumption)
      | intro _ _ _
      | intro _ _
      | split
      | (simp only [ok_lit]; with_reducible refine OkLit.of ?_ ?_ ?_ ?_ ?_ ?_ ?_ ?_ ?_)
      | exact fun h => h
      | exact fun _ => rfl
      | exact Nat.le_refl _
      | dsimp only
      | dsimp only [id]
  | cons x r0 ih =>
    unfold retryWaiting
    repeat' first
      | with_reducible assumption
      | (extract_lets +onlyGivenNames x
         first
         | (refine okStep (s0 := s0) (x := x) (fun hx => ?_) ?_; clear_value x; rotate_left; subst x)
         | (refine okStep (s0 := s0) (x := x.1) (fun hx => ?_) ?_; clear_value x; rotate_left; subst x)
         | subst x)
      | with_reducible apply coherentAccess_ok
      | with_reducible apply ih
      | with_reducible apply tryCoherent_ok
      | with_reducible refine Ok.ofPair ?_ (by with_reducible assumption)
      | intro _ _ _
      | intro _ _
      | split
      | (simp only [ok_lit]; with_reducible refine OkLit.of ?_ ?_ ?_ ?_ ?_ ?_ ?_ ?_ ?_)
      | exact fun h => h
      | exact fun _ => rfl
      | exact Nat.le_refl _
      | dsimp only
      | dsimp only [id]

theorem snoopAck_ok {s0 : State} {d : Die} {line : Nat} {data : Option Bytes} {s : State} (hok : Ok s0 s) :
    Ok s0 (snoopAck d line data s) := by
  unfold snoopAck
  repeat' first
    | with_reducible assumption
    | (extract_lets +onlyGivenNames x
       first
       | (refine okStep (s0 := s0) (x := x) (fun hx => ?_) ?_; clear_value x; rotate_left; subst x)
       | subst x)
    | with_reducible refine Ok.ite ?_ ?_
    | with_reducible apply poolWrite_ok
    | with_reducible apply wake_ok
    | with_reducible apply retryWaiting_ok
    | with_reducible refine Ok.ofPair ?_ (by with_reducible assumption)
    | intro _ _ _
    | intro _ _
    | split
    | (simp only [ok_lit]; with_reducible refine OkLit.of ?_ ?_ ?_ ?_ ?_ ?_ ?_ ?_ ?_)
    | exact fun h => h
    | exact fun _ => rfl
    | exact Nat.le_refl _
    | dsimp only
    | dsimp only [id]
    | (intro hl; simp [hl]; done)

theorem execSnoopAck_ok {s0 : State} {d : Die} {line : Nat} {data : Option Bytes} {s : State} (hok : Ok s0 s) :
    OutOk s0 (execSnoopAck d line data s) := by
  unfold execSnoopAck
  refine ⟨_, rfl, ?_⟩
  repeat' first
    | with_reducible assumption
    | with_reducible apply snoopAck_ok
    | intro _ _ _
    | intro _ _
    | dsimp only
    | dsimp only [id]

theorem execSnoopTimeout_ok {s0 : State} {d : Die} {line : Nat} {s : State} (hok : Ok s0 s) :
    OutOk s0 (execSnoopTimeout d line s) := by
  unfold execSnoopTimeout
  refine ⟨_, rfl, ?_⟩
  repeat' first
    | with_reducible assumption
    | (extract_lets +onlyGivenNames x
       first
       | (refine okStep (s0 := s0) (x := x) (fun hx => ?_) ?_; clear_value x; rotate_left; subst x)
       | subst x)
    | with_reducible refine Ok.ite ?_ ?_
    | with_reducible apply raiseError_ok
    | intro _ _ _
    | intro _ _
    | split
    | (simp only [ok_lit]; with_reducible refine OkLit.of ?_ ?_ ?_ ?_ ?_ ?_ ?_ ?_ ?_)
    | exact fun h => h
    | exact fun _ => rfl
    | exact Nat.le_refl _
    | dsimp only
    | dsimp only [id]


/-! ### Machine/Pool.lean -/

theorem trackRow_ok {s0 : State} {row : Nat} {s : State} (hok : Ok s0 s) :
    Ok s0 (trackRow row s) := by
  unfold trackRow
  repeat' first
    | with_reducible assumption
    | (extract_lets +onlyGivenNames x
       first
       | (refine okStep (s0 := s0) (x := x) (fun hx => ?_) ?_; clear_value x; rotate_left; subst x)
       | (refine okStep (s0 := s0) (x := x.1) (fun hx => ?_) ?_; clear_value x; rotate_left; subst x)
       | subst x)
    | with_reducible refine Ok.ite ?_ ?_
    | with_reducible apply startRemap_ok
    | intro _ _ _
    | intro _ _
    | split
    | (simp only [ok_lit]; with_reducible refine OkLit.of ?_ ?_ ?_ ?_ ?_ ?_ ?_ ?_ ?_)
    | exact fun h => h
    | exact fun _ => rfl
    | exact Nat.le_refl _
    | dsimp only
    | dsimp only [id]
    | (intro hl; simp [hl]; done)

theorem readPoison_ok {s0 : State} {line : Nat} {reader : LineReader} {s : State} (hok : Ok s0 s) :
    Ok s0 (readPoison line reader s) := by
  unfold readPoison
  repeat' first
    | with_reducible assumption
    | (extract_lets +onlyGivenNames x
       first
       | (refine okStep (s0 := s0) (x := x) (fun hx => ?_) ?_; clear_value x; rotate_left; subst x)
       | subst x)
    | with_reducible refine Ok.ite ?_ ?_
    | with_reducible apply loseContext_ok
    | with_reducible apply countPackage_ok
    | with_reducible refine Ok.ofPair ?_ (by with_reducible assumption)
    | intro _ _ _
    | intro _ _
    | split
    | (simp only [ok_lit]; with_reducible refine OkLit.of ?_ ?_ ?_ ?_ ?_ ?_ ?_ ?_ ?_)
    | exact fun h => h
    | exact fun _ => rfl
    | exact Nat.le_refl _
    | dsimp only
    | dsimp only [id]
    | (intro hl; simp [hl]; done)

theorem remapFrom_ok {s0 : State} {row : Nat} {from_ bad : List (Nat × Nat)} {s : State} (hok : Ok s0 s) :
    Ok s0 (remapFrom row from_ bad s) := by
  unfold remapFrom
  repeat' first
    | with_reducible assumption
    | (extract_lets +onlyGivenNames x
       first
       | (refine okStep (s0 := s0) (x := x) (fun hx => ?_) ?_; clear_value x; rotate_left; subst x)
       | (refine okStep (s0 := s0) (x := x.1) (fun hx => ?_) ?_; clear_value x; rotate_left; subst x)
       | subst x)
    | with_reducible refine Ok.ite ?_ ?_
    | with_reducible apply startRemap_ok
    | with_reducible apply logRow_ok
    | intro _ _ _
    | intro _ _
    | split
    | dsimp only
    | dsimp only [id]
    | (intro hl; simp [hl]; done)

theorem serveMirror_ok {s0 : State} {line m : Nat} {i : ErrInfo} {s : State} (hok : Ok s0 s) :
    Ok s0 (serveMirror line m i s) := by
  unfold serveMirror
  repeat' first
    | with_reducible assumption
    | with_reducible apply remapFrom_ok
    | with_reducible apply raiseError_ok
    | with_reducible apply countPackage_ok
    | intro _ _ _
    | intro _ _
    | dsimp only
    | dsimp only [id]
    | (intro hl; simp [hl]; done)

theorem mendMirror_ok {s0 : State} {line m : Nat} {s : State} (hok : Ok s0 s) :
    Ok s0 (mendMirror line m s) := by
  unfold mendMirror
  repeat' first
    | with_reducible assumption
    | with_reducible apply remapFrom_ok
    | intro _ _ _
    | intro _ _
    | dsimp only
    | dsimp only [id]
    | (intro hl; simp [hl]; done)

theorem loseCopies_ok {s0 : State} {line mirror : Nat} {i : ErrInfo} {s : State} (hok : Ok s0 s) :
    Ok s0 (loseCopies line mirror i s) := by
  unfold loseCopies
  repeat' first
    | with_reducible assumption
    | with_reducible refine Ok.ite ?_ ?_
    | with_reducible apply raiseError_ok
    | with_reducible apply logRow_ok
    | with_reducible apply poisonLine_ok
    | intro _ _ _
    | intro _ _
    | split
    | dsimp only
    | dsimp only [id]

theorem stackRead_ok {s0 : State} {line copy : Nat} {s : State} (hok : Ok s0 s) :
    Ok s0 (stackRead line copy s) := by
  unfold stackRead
  repeat' first
    | with_reducible assumption
    | with_reducible apply emit_ok
    | intro _ _ _
    | intro _ _
    | dsimp only
    | dsimp only [id]

theorem fetchLine_ok {s0 : State} {line : Nat} {primary mirror : LineCheck} {i : ErrInfo} {s : State} (hok : Ok s0 s) :
    Ok s0 (fetchLine line primary mirror i s) := by
  unfold fetchLine
  repeat' first
    | with_reducible assumption
    | (extract_lets +onlyGivenNames x
       first
       | (refine okStep (s0 := s0) (x := x) (fun hx => ?_) ?_; clear_value x; rotate_left; subst x)
       | subst x)
    | with_reducible refine Ok.ite ?_ ?_
    | with_reducible apply stackRead_ok
    | with_reducible apply countPackage_ok
    | with_reducible apply loseCopies_ok
    | with_reducible apply trackRow_ok
    | with_reducible apply serveMirror_ok
    | with_reducible apply poisonLine_ok
    | with_reducible apply mendMirror_ok
    | with_reducible refine Ok.ofPair ?_ (by with_reducible assumption)
    | intro _ _ _
    | intro _ _
    | split
    | (simp only [ok_lit]; with_reducible refine OkLit.of ?_ ?_ ?_ ?_ ?_ ?_ ?_ ?_ ?_)
    | exact fun h => h
    | exact fun _ => rfl
    | exact Nat.le_refl _
    | dsimp only
    | dsimp only [id]

theorem cacheFails_ok {s0 : State} {line : Nat} {primary mirror : LineCheck} {i : ErrInfo} {s : State} (hok : Ok s0 s) :
    Ok s0 (cacheFails line primary mirror i s) := by
  unfold cacheFails
  repeat' first
    | with_reducible assumption
    | (extract_lets +onlyGivenNames x
       first
       | (refine okStep (s0 := s0) (x := x) (fun hx => ?_) ?_; clear_value x; rotate_left; subst x)
       | subst x)
    | with_reducible refine Ok.ite ?_ ?_
    | with_reducible apply fetchLine_ok
    | with_reducible apply countPackage_ok
    | with_reducible apply raiseError_ok
    | with_reducible apply poisonLine_ok
    | intro _ _ _
    | intro _ _
    | split
    | dsimp only
    | dsimp only [id]

theorem lineRead_ok {s0 : State} {line : Nat} {cacheBad : Bool} {primary mirror : LineCheck} {reader : LineReader} {s : State} (hok : Ok s0 s) :
    Ok s0 (lineRead line cacheBad primary mirror reader s) := by
  unfold lineRead
  repeat' first
    | with_reducible assumption
    | (extract_lets +onlyGivenNames x
       first
       | (refine okStep (s0 := s0) (x := x) (fun hx => ?_) ?_; clear_value x; rotate_left; subst x)
       | subst x)
    | with_reducible refine Ok.ite ?_ ?_
    | with_reducible apply readPoison_ok
    | with_reducible apply cacheFails_ok
    | with_reducible apply fetchLine_ok
    | intro _ _ _
    | intro _ _
    | split
    | dsimp only
    | dsimp only [id]

theorem execPoolLineRead_ok {s0 : State} {line : Nat} {cacheBad : Bool} {checks : CopyChecks} {reader : LineReader} {s : State} (hok : Ok s0 s) :
    OutOk s0 (execPoolLineRead line cacheBad checks reader s) := by
  unfold execPoolLineRead
  refine ⟨_, rfl, ?_⟩
  repeat' first
    | with_reducible assumption
    | with_reducible apply lineRead_ok
    | intro _ _ _
    | intro _ _
    | dsimp only
    | dsimp only [id]

theorem copyToSpare_ok {s0 : State} {m : Remap} {line : Nat} {s : State} (hok : Ok s0 s) :
    Ok s0 (copyToSpare m line s) := by
  unfold copyToSpare
  repeat' first
    | with_reducible assumption
    | (extract_lets +onlyGivenNames x
       first
       | (refine okStep (s0 := s0) (x := x) (fun hx => ?_) ?_; clear_value x; rotate_left; subst x)
       | subst x)
    | with_reducible apply emit_ok
    | intro _ _ _
    | intro _ _
    | dsimp only
    | dsimp only [id]

theorem remapDone_ok {s0 : State} {row : Nat} {s : State} (hok : Ok s0 s) :
    Ok s0 (remapDone row s) := by
  unfold remapDone
  repeat' first
    | with_reducible assumption
    | (extract_lets +onlyGivenNames x
       first
       | (refine okStep (s0 := s0) (x := x) (fun hx => ?_) ?_; clear_value x; rotate_left; subst x)
       | (refine okStep (s0 := s0) (x := x.1) (fun hx => ?_) ?_; clear_value x; rotate_left; subst x)
       | subst x)
    | with_reducible refine Ok.ite ?_ ?_
    | with_reducible apply foldState_ok
    | with_reducible apply copyToSpare_ok
    | with_reducible apply raiseError_ok
    | with_reducible refine Ok.ofPair ?_ (by with_reducible assumption)
    | intro _ _ _
    | intro _ _
    | split
    | (simp only [ok_lit]; with_reducible refine OkLit.of ?_ ?_ ?_ ?_ ?_ ?_ ?_ ?_ ?_)
    | exact fun h => h
    | exact fun _ => rfl
    | exact Nat.le_refl _
    | dsimp only
    | dsimp only [id]
    | (intro hl; simp [hl]; done)

theorem execRowRemapCopyDone_ok {s0 : State} {row : Nat} {s : State} (hok : Ok s0 s) :
    OutOk s0 (execRowRemapCopyDone row s) := by
  unfold execRowRemapCopyDone
  refine ⟨_, rfl, ?_⟩
  repeat' first
    | with_reducible assumption
    | with_reducible apply remapDone_ok
    | intro _ _ _
    | intro _ _
    | dsimp only
    | dsimp only [id]

theorem scrubStep_ok {s0 : State} {base : Nat} {extent : Bool} {s : State} (hok : Ok s0 s) :
    Ok s0 (scrubStep base extent s) := by
  unfold scrubStep
  repeat' first
    | with_reducible assumption
    | (extract_lets +onlyGivenNames x
       first
       | (refine okStep (s0 := s0) (x := x) (fun hx => ?_) ?_; clear_value x; rotate_left; subst x)
       | subst x)
    | with_reducible refine Ok.ite ?_ ?_
    | with_reducible apply scrubSome_ok
    | with_reducible apply wake_ok
    | with_reducible refine Ok.ofPair ?_ (by with_reducible assumption)
    | intro _ _ _
    | intro _ _
    | split
    | (simp only [ok_lit]; with_reducible refine OkLit.of ?_ ?_ ?_ ?_ ?_ ?_ ?_ ?_ ?_)
    | exact fun h => h
    | exact fun _ => rfl
    | exact Nat.le_refl _
    | dsimp only
    | dsimp only [id]

theorem memStep_ok {s0 : State} {op : StepOp} {s : State} (hok : Ok s0 s) :
    Ok s0 (memStep op s) := by
  unfold memStep
  repeat' first
    | with_reducible assumption
    | (extract_lets +onlyGivenNames x
       first
       | (refine okStep (s0 := s0) (x := x) (fun hx => ?_) ?_; clear_value x; rotate_left; subst x)
       | subst x)
    | with_reducible apply memCmdStep_ok
    | with_reducible apply memStepped_ok
    | with_reducible apply scrubStep_ok
    | with_reducible apply serveStep_ok
    | with_reducible refine Ok.ofPair ?_ (by with_reducible assumption)
    | intro _ _ _
    | intro _ _
    | split
    | (simp only [ok_lit]; with_reducible refine OkLit.of ?_ ?_ ?_ ?_ ?_ ?_ ?_ ?_ ?_)
    | exact fun h => h
    | exact fun _ => rfl
    | exact Nat.le_refl _
    | dsimp only
    | dsimp only [id]

theorem execScrubStep_ok {s0 : State} {s : State} (hok : Ok s0 s) :
    OutOk s0 (execScrubStep s) := by
  unfold execScrubStep
  refine ⟨_, rfl, ?_⟩
  repeat' first
    | with_reducible assumption
    | (extract_lets +onlyGivenNames x
       first
       | (refine okStep (s0 := s0) (x := x) (fun hx => ?_) ?_; clear_value x; rotate_left; subst x)
       | subst x)
    | with_reducible apply memStep_ok
    | intro _ _ _
    | intro _ _
    | split
    | (simp only [ok_lit]; with_reducible refine OkLit.of ?_ ?_ ?_ ?_ ?_ ?_ ?_ ?_ ?_)
    | exact fun h => h
    | exact fun _ => rfl
    | exact Nat.le_refl _
    | dsimp only
    | dsimp only [id]

theorem memTurn_ok {s0 : State} {s : State} (hok : Ok s0 s) :
    Ok s0 (memTurn s) := by
  unfold memTurn
  repeat' first
    | with_reducible assumption
    | (extract_lets +onlyGivenNames x
       first
       | (refine okStep (s0 := s0) (x := x) (fun hx => ?_) ?_; clear_value x; rotate_left; subst x)
       | subst x)
    | with_reducible apply memServe_ok
    | with_reducible apply memStep_ok
    | with_reducible refine Ok.ofPair ?_ (by with_reducible assumption)
    | intro _ _ _
    | intro _ _
    | split
    | (simp only [ok_lit]; with_reducible refine OkLit.of ?_ ?_ ?_ ?_ ?_ ?_ ?_ ?_ ?_)
    | exact fun h => h
    | exact fun _ => rfl
    | exact Nat.le_refl _
    | dsimp only
    | dsimp only [id]

theorem unitStepEnd_ok {s0 : State} {u : StepUnit} {s : State} (hok : Ok s0 s) :
    Ok s0 (unitStepEnd u s) := by
  unfold unitStepEnd
  repeat' first
    | with_reducible assumption
    | (extract_lets +onlyGivenNames x
       first
       | (refine okStep (s0 := s0) (x := x) (fun hx => ?_) ?_; clear_value x; rotate_left; subst x)
       | subst x)
    | with_reducible apply modEngine_ok
    | with_reducible apply memTurn_ok
    | with_reducible apply digestStep_ok
    | with_reducible apply finishScan_ok
    | with_reducible refine Ok.ofPair ?_ (by with_reducible assumption)
    | intro _ _ _
    | intro _ _
    | split
    | (simp only [ok_lit]; with_reducible refine OkLit.of ?_ ?_ ?_ ?_ ?_ ?_ ?_ ?_ ?_)
    | exact fun h => h
    | exact fun _ => rfl
    | exact Nat.le_refl _
    | dsimp only
    | dsimp only [id]

theorem execUnitStepEnd_ok {s0 : State} {u : StepUnit} {s : State} (hok : Ok s0 s) :
    OutOk s0 (execUnitStepEnd u s) := by
  unfold execUnitStepEnd
  refine ⟨_, rfl, ?_⟩
  repeat' first
    | with_reducible assumption
    | with_reducible apply unitStepEnd_ok
    | intro _ _ _
    | intro _ _
    | dsimp only
    | dsimp only [id]

theorem startRepair_ok {s0 : State} {k : Nat} {v : U64} {s : State} (hok : Ok s0 s) :
    Ok s0 (startRepair k v s) := by
  unfold startRepair
  repeat' first
    | with_reducible assumption
    | (extract_lets +onlyGivenNames x
       first
       | (refine okStep (s0 := s0) (x := x) (fun hx => ?_) ?_; clear_value x; rotate_left; subst x)
       | subst x)
    | with_reducible refine Ok.ite ?_ ?_
    | with_reducible apply setObj_ok
    | intro _ _ _
    | intro _ _
    | split
    | (simp only [ok_lit]; with_reducible refine OkLit.of ?_ ?_ ?_ ?_ ?_ ?_ ?_ ?_ ?_)
    | exact fun h => h
    | exact fun _ => rfl
    | exact Nat.le_refl _
    | dsimp only
    | dsimp only [id]
    | (intro hl; simp [hl]; done)

theorem execRepairRequest_ok {s0 : State} {rq : Requester} {st : Stack} {v : U64} {s : State} (hok : Ok s0 s) :
    OutOk s0 (execRepairRequest rq st v s) := by
  unfold execRepairRequest
  refine ⟨_, rfl, ?_⟩
  repeat' first
    | with_reducible assumption
    | with_reducible apply requestWrite_ok
    | with_reducible apply startRepair_ok
    | intro _ _ _
    | intro _ _
    | dsimp only
    | dsimp only [id]

theorem loseLine_ok {s0 : State} {line : Nat} {s : State} (hok : Ok s0 s) :
    Ok s0 (loseLine line s) := by
  unfold loseLine
  repeat' first
    | with_reducible assumption
    | (extract_lets +onlyGivenNames x
       first
       | (refine okStep (s0 := s0) (x := x) (fun hx => ?_) ?_; clear_value x; rotate_left; subst x)
       | subst x)
    | with_reducible apply freeSpan_ok
    | with_reducible apply draw_ok
    | with_reducible refine Ok.ofPair ?_ (by with_reducible assumption)
    | intro _ _ _
    | intro _ _
    | split
    | (simp only [ok_lit]; with_reducible refine OkLit.of ?_ ?_ ?_ ?_ ?_ ?_ ?_ ?_ ?_)
    | exact fun h => h
    | exact fun _ => rfl
    | exact Nat.le_refl _
    | dsimp only
    | dsimp only [id]
    | (intro hl; simp [hl]; done)

theorem loseRows_ok {s0 : State} {base n : Nat} {s : State} (hok : Ok s0 s) :
    Ok s0 (loseRows base n s) := by
  unfold loseRows
  repeat' first
    | with_reducible assumption
    | with_reducible apply foldState_ok
    | with_reducible apply loseLine_ok
    | intro _ _ _
    | intro _ _
    | dsimp only
    | dsimp only [id]

theorem repairDone_ok {s0 : State} {k : Nat} {ok : Bool} {s : State} (hok : Ok s0 s) :
    Ok s0 (repairDone k ok s) := by
  unfold repairDone
  repeat' first
    | with_reducible assumption
    | (extract_lets +onlyGivenNames x
       first
       | (refine okStep (s0 := s0) (x := x) (fun hx => ?_) ?_; clear_value x; rotate_left; subst x)
       | subst x)
    | with_reducible refine Ok.ite ?_ ?_
    | with_reducible apply loseRows_ok
    | with_reducible refine Ok.ofPair ?_ (by with_reducible assumption)
    | intro _ _ _
    | intro _ _
    | split
    | (simp only [ok_lit]; with_reducible refine OkLit.of ?_ ?_ ?_ ?_ ?_ ?_ ?_ ?_ ?_)
    | exact fun h => h
    | exact fun _ => rfl
    | exact Nat.le_refl _
    | dsimp only
    | dsimp only [id]

theorem execRepairDone_ok {s0 : State} {st : Stack} {ok : Bool} {s : State} (hok : Ok s0 s) :
    OutOk s0 (execRepairDone st ok s) := by
  unfold execRepairDone
  refine ⟨_, rfl, ?_⟩
  repeat' first
    | with_reducible assumption
    | with_reducible apply repairDone_ok
    | intro _ _ _
    | intro _ _
    | dsimp only
    | dsimp only [id]

theorem startMargin_ok {s0 : State} {k : Nat} {v : U64} {s : State} (hok : Ok s0 s) :
    Ok s0 (startMargin k v s) := by
  unfold startMargin
  repeat' first
    | with_reducible assumption
    | (extract_lets +onlyGivenNames x
       first
       | (refine okStep (s0 := s0) (x := x) (fun hx => ?_) ?_; clear_value x; rotate_left; subst x)
       | subst x)
    | with_reducible apply setObj_ok
    | intro _ _ _
    | intro _ _
    | (simp only [ok_lit]; with_reducible refine OkLit.of ?_ ?_ ?_ ?_ ?_ ?_ ?_ ?_ ?_)
    | exact fun h => h
    | exact fun _ => rfl
    | exact Nat.le_refl _
    | dsimp only
    | dsimp only [id]
    | (intro hl; simp [hl]; done)

theorem execMarginRequest_ok {s0 : State} {rq : Requester} {st : Stack} {v : U64} {s : State} (hok : Ok s0 s) :
    OutOk s0 (execMarginRequest rq st v s) := by
  unfold execMarginRequest
  refine ⟨_, rfl, ?_⟩
  repeat' first
    | with_reducible assumption
    | with_reducible apply requestWrite_ok
    | with_reducible apply startMargin_ok
    | intro _ _ _
    | intro _ _
    | dsimp only
    | dsimp only [id]

theorem marginDone_ok {s0 : State} {k : Nat} {ok : Bool} {errors : Nat} {s : State} (hok : Ok s0 s) :
    Ok s0 (marginDone k ok errors s) := by
  unfold marginDone
  repeat' first
    | with_reducible assumption
    | (extract_lets +onlyGivenNames x
       first
       | (refine okStep (s0 := s0) (x := x) (fun hx => ?_) ?_; clear_value x; rotate_left; subst x)
       | subst x)
    | with_reducible refine Ok.ite ?_ ?_
    | with_reducible apply loseRows_ok
    | with_reducible refine Ok.ofPair ?_ (by with_reducible assumption)
    | intro _ _ _
    | intro _ _
    | split
    | (simp only [ok_lit]; with_reducible refine OkLit.of ?_ ?_ ?_ ?_ ?_ ?_ ?_ ?_ ?_)
    | exact fun h => h
    | exact fun _ => rfl
    | exact Nat.le_refl _
    | dsimp only
    | dsimp only [id]

theorem execMarginDone_ok {s0 : State} {st : Stack} {ok : Bool} {errors : Nat} {s : State} (hok : Ok s0 s) :
    OutOk s0 (execMarginDone st ok errors s) := by
  unfold execMarginDone
  refine ⟨_, rfl, ?_⟩
  repeat' first
    | with_reducible assumption
    | with_reducible apply marginDone_ok
    | intro _ _ _
    | intro _ _
    | dsimp only
    | dsimp only [id]


/-! ### Machine/Sync.lean -/

theorem modSync_ok {s0 : State} {f : SyncSt → SyncSt} {s : State} (hok : Ok s0 s) :
    Ok s0 (modSync f s) := by
  unfold modSync
  repeat' first
    | with_reducible assumption
    | (extract_lets +onlyGivenNames x
       first
       | (refine okStep (s0 := s0) (x := x) (fun hx => ?_) ?_; clear_value x; rotate_left; subst x)
       | subst x)
    | intro _ _ _
    | intro _ _
    | (simp only [ok_lit]; with_reducible refine OkLit.of ?_ ?_ ?_ ?_ ?_ ?_ ?_ ?_ ?_)
    | exact fun h => h
    | exact fun _ => rfl
    | exact Nat.le_refl _
    | dsimp only
    | dsimp only [id]

theorem selectMaster_ok {s0 : State} {s : State} (hok : Ok s0 s) :
    Ok s0 (selectMaster s) := by
  unfold selectMaster
  repeat' first
    | with_reducible assumption
    | (extract_lets +onlyGivenNames x
       first
       | (refine okStep (s0 := s0) (x := x) (fun hx => ?_) ?_; clear_value x; rotate_left; subst x)
       | subst x)
    | with_reducible refine Ok.ite ?_ ?_
    | with_reducible apply modSync_ok
    | with_reducible apply freeRun_ok
    | intro _ _ _
    | intro _ _
    | split
    | (simp only [ok_lit]; with_reducible refine OkLit.of ?_ ?_ ?_ ?_ ?_ ?_ ?_ ?_ ?_)
    | exact fun h => h
    | exact fun _ => rfl
    | exact Nat.le_refl _
    | dsimp only
    | dsimp only [id]

theorem hearAnnounce_ok {s0 : State} {a : Announce} {s : State} (hok : Ok s0 s) :
    Ok s0 (hearAnnounce a s) := by
  unfold hearAnnounce
  repeat' first
    | with_reducible assumption
    | (extract_lets +onlyGivenNames x
       first
       | (refine okStep (s0 := s0) (x := x) (fun hx => ?_) ?_; clear_value x; rotate_left; subst x)
       | (refine okStep (s0 := s0) (x := x.1) (fun hx => ?_) ?_; clear_value x; rotate_left; subst x)
       | subst x)
    | with_reducible refine Ok.ite ?_ ?_
    | with_reducible apply selectMaster_ok
    | with_reducible apply modSync_ok
    | intro _ _ _
    | intro _ _
    | split
    | (simp only [ok_lit]; with_reducible refine OkLit.of ?_ ?_ ?_ ?_ ?_ ?_ ?_ ?_ ?_)
    | exact fun h => h
    | exact fun _ => rfl
    | exact Nat.le_refl _
    | dsimp only
    | dsimp only [id]

theorem execPtpAnnounce_ok {s0 : State} {a : Announce} {s : State} (hok : Ok s0 s) :
    OutOk s0 (execPtpAnnounce a s) := by
  unfold execPtpAnnounce
  refine ⟨_, rfl, ?_⟩
  repeat' first
    | with_reducible assumption
    | with_reducible apply hearAnnounce_ok
    | intro _ _ _
    | intro _ _
    | dsimp only
    | dsimp only [id]

theorem dropSilent_ok {s0 : State} {s : State} (hok : Ok s0 s) :
    Ok s0 (dropSilent s) := by
  unfold dropSilent
  repeat' first
    | with_reducible assumption
    | (extract_lets +onlyGivenNames x
       first
       | (refine okStep (s0 := s0) (x := x) (fun hx => ?_) ?_; clear_value x; rotate_left; subst x)
       | (refine okStep (s0 := s0) (x := x.1) (fun hx => ?_) ?_; clear_value x; rotate_left; subst x)
       | subst x)
    | with_reducible apply selectMaster_ok
    | with_reducible apply modSync_ok
    | intro _ _ _
    | intro _ _
    | (simp only [ok_lit]; with_reducible refine OkLit.of ?_ ?_ ?_ ?_ ?_ ?_ ?_ ?_ ?_)
    | exact fun h => h
    | exact fun _ => rfl
    | exact Nat.le_refl _
    | dsimp only
    | dsimp only [id]

theorem execAnnounceReceiptTimeout_ok {s0 : State} {s : State} (hok : Ok s0 s) :
    OutOk s0 (execAnnounceReceiptTimeout s) := by
  unfold execAnnounceReceiptTimeout
  refine ⟨_, rfl, ?_⟩
  repeat' first
    | with_reducible assumption
    | with_reducible apply dropSilent_ok
    | intro _ _ _
    | intro _ _
    | dsimp only
    | dsimp only [id]

theorem hearSync_ok {s0 : State} {identity : U64} {seq : U16} {arrival : U64} {s : State} (hok : Ok s0 s) :
    Ok s0 (hearSync identity seq arrival s) := by
  unfold hearSync
  repeat' first
    | with_reducible assumption
    | (extract_lets +onlyGivenNames x
       first
       | (refine okStep (s0 := s0) (x := x) (fun hx => ?_) ?_; clear_value x; rotate_left; subst x)
       | subst x)
    | with_reducible refine Ok.ite ?_ ?_
    | with_reducible apply modSync_ok
    | intro _ _ _
    | intro _ _
    | split
    | (simp only [ok_lit]; with_reducible refine OkLit.of ?_ ?_ ?_ ?_ ?_ ?_ ?_ ?_ ?_)
    | exact fun h => h
    | exact fun _ => rfl
    | exact Nat.le_refl _
    | dsimp only
    | dsimp only [id]

theorem execPtpSync_ok {s0 : State} {identity : U64} {seq : U16} {arrival : U64} {s : State} (hok : Ok s0 s) :
    OutOk s0 (execPtpSync identity seq arrival s) := by
  unfold execPtpSync
  refine ⟨_, rfl, ?_⟩
  repeat' first
    | with_reducible assumption
    | with_reducible apply hearSync_ok
    | intro _ _ _
    | intro _ _
    | dsimp only
    | dsimp only [id]

theorem stepForward_ok {s0 : State} {behindNs : Nat} {s : State} (hok : Ok s0 s) :
    Ok s0 (stepForward behindNs s) := by
  unfold stepForward
  repeat' first
    | with_reducible assumption
    | (extract_lets +onlyGivenNames x
       first
       | (refine okStep (s0 := s0) (x := x) (fun hx => ?_) ?_; clear_value x; rotate_left; subst x)
       | subst x)
    | with_reducible apply modSync_ok
    | intro _ _ _
    | intro _ _
    | (simp only [ok_lit]; with_reducible refine OkLit.of ?_ ?_ ?_ ?_ ?_ ?_ ?_ ?_ ?_)
    | exact fun h => h
    | exact fun _ => rfl
    | exact Nat.le_refl _
    | dsimp only
    | dsimp only [id]

theorem takeOffset_ok {s0 : State} {off : Int} {s : State} (hok : Ok s0 s) :
    Ok s0 (takeOffset off s) := by
  unfold takeOffset
  repeat' first
    | with_reducible assumption
    | (extract_lets +onlyGivenNames x
       first
       | (refine okStep (s0 := s0) (x := x) (fun hx => ?_) ?_; clear_value x; rotate_left; subst x)
       | subst x)
    | with_reducible refine Ok.ite ?_ ?_
    | with_reducible apply modSync_ok
    | with_reducible apply stepForward_ok
    | intro _ _ _
    | intro _ _
    | split
    | (simp only [ok_lit]; with_reducible refine OkLit.of ?_ ?_ ?_ ?_ ?_ ?_ ?_ ?_ ?_)
    | exact fun h => h
    | exact fun _ => rfl
    | exact Nat.le_refl _
    | dsimp only
    | dsimp only [id]
    | (intro hl; simp [hl]; done)

theorem hearFollowUp_ok {s0 : State} {identity : U64} {seq : U16} {originNs : Nat} {s : State} (hok : Ok s0 s) :
    Ok s0 (hearFollowUp identity seq originNs s) := by
  unfold hearFollowUp
  repeat' first
    | with_reducible assumption
    | (extract_lets +onlyGivenNames x
       first
       | (refine okStep (s0 := s0) (x := x) (fun hx => ?_) ?_; clear_value x; rotate_left; subst x)
       | subst x)
    | with_reducible refine Ok.ite ?_ ?_
    | with_reducible apply modSync_ok
    | with_reducible apply takeOffset_ok
    | with_reducible refine Ok.ofPair ?_ (by with_reducible assumption)
    | intro _ _ _
    | intro _ _
    | split
    | (simp only [ok_lit]; with_reducible refine OkLit.of ?_ ?_ ?_ ?_ ?_ ?_ ?_ ?_ ?_)
    | exact fun h => h
    | exact fun _ => rfl
    | exact Nat.le_refl _
    | dsimp only
    | dsimp only [id]
    | (intro hl; simp [hl]; done)

theorem execPtpFollowUp_ok {s0 : State} {identity : U64} {seq : U16} {originNs : Nat} {s : State} (hok : Ok s0 s) :
    OutOk s0 (execPtpFollowUp identity seq originNs s) := by
  unfold execPtpFollowUp
  refine ⟨_, rfl, ?_⟩
  repeat' first
    | with_reducible assumption
    | with_reducible apply hearFollowUp_ok
    | intro _ _ _
    | intro _ _
    | dsimp only
    | dsimp only [id]

theorem sendDelayReq_ok {s0 : State} {s : State} (hok : Ok s0 s) :
    Ok s0 (sendDelayReq s) := by
  unfold sendDelayReq
  repeat' first
    | with_reducible assumption
    | (extract_lets +onlyGivenNames x
       first
       | (refine okStep (s0 := s0) (x := x) (fun hx => ?_) ?_; clear_value x; rotate_left; subst x)
       | subst x)
    | with_reducible refine Ok.ite ?_ ?_
    | with_reducible apply emit_ok
    | with_reducible apply modSync_ok
    | intro _ _ _
    | intro _ _
    | split
    | (simp only [ok_lit]; with_reducible refine OkLit.of ?_ ?_ ?_ ?_ ?_ ?_ ?_ ?_ ?_)
    | exact fun h => h
    | exact fun _ => rfl
    | exact Nat.le_refl _
    | dsimp only
    | dsimp only [id]

theorem execDelayReqTimer_ok {s0 : State} {s : State} (hok : Ok s0 s) :
    OutOk s0 (execDelayReqTimer s) := by
  unfold execDelayReqTimer
  refine ⟨_, rfl, ?_⟩
  repeat' first
    | with_reducible assumption
    | with_reducible apply sendDelayReq_ok
    | intro _ _ _
    | intro _ _
    | dsimp only
    | dsimp only [id]

theorem hearDelayResp_ok {s0 : State} {identity : U64} {seq : U16} {receiveNs : Nat} {s : State} (hok : Ok s0 s) :
    Ok s0 (hearDelayResp identity seq receiveNs s) := by
  unfold hearDelayResp
  repeat' first
    | with_reducible assumption
    | (extract_lets +onlyGivenNames x
       first
       | (refine okStep (s0 := s0) (x := x) (fun hx => ?_) ?_; clear_value x; rotate_left; subst x)
       | subst x)
    | with_reducible refine Ok.ite ?_ ?_
    | with_reducible apply modSync_ok
    | with_reducible refine Ok.ofPair ?_ (by with_reducible assumption)
    | intro _ _ _
    | intro _ _
    | split
    | (simp only [ok_lit]; with_reducible refine OkLit.of ?_ ?_ ?_ ?_ ?_ ?_ ?_ ?_ ?_)
    | exact fun h => h
    | exact fun _ => rfl
    | exact Nat.le_refl _
    | dsimp only
    | dsimp only [id]

theorem execPtpDelayResp_ok {s0 : State} {identity : U64} {seq : U16} {receiveNs : Nat} {s : State} (hok : Ok s0 s) :
    OutOk s0 (execPtpDelayResp identity seq receiveNs s) := by
  unfold execPtpDelayResp
  refine ⟨_, rfl, ?_⟩
  repeat' first
    | with_reducible assumption
    | with_reducible apply hearDelayResp_ok
    | intro _ _ _
    | intro _ _
    | dsimp only
    | dsimp only [id]

theorem loseSync_ok {s0 : State} {s : State} (hok : Ok s0 s) :
    Ok s0 (loseSync s) := by
  unfold loseSync
  repeat' first
    | with_reducible assumption
    | (extract_lets +onlyGivenNames x
       first
       | (refine okStep (s0 := s0) (x := x) (fun hx => ?_) ?_; clear_value x; rotate_left; subst x)
       | subst x)
    | with_reducible refine Ok.ite ?_ ?_
    | with_reducible apply raiseError_ok
    | with_reducible apply modSync_ok
    | intro _ _ _
    | intro _ _
    | split
    | (simp only [ok_lit]; with_reducible refine OkLit.of ?_ ?_ ?_ ?_ ?_ ?_ ?_ ?_ ?_)
    | exact fun h => h
    | exact fun _ => rfl
    | exact Nat.le_refl _
    | dsimp only
    | dsimp only [id]

theorem execSyncLossTimeout_ok {s0 : State} {s : State} (hok : Ok s0 s) :
    OutOk s0 (execSyncLossTimeout s) := by
  unfold execSyncLossTimeout
  refine ⟨_, rfl, ?_⟩
  repeat' first
    | with_reducible assumption
    | with_reducible apply loseSync_ok
    | intro _ _ _
    | intro _ _
    | dsimp only
    | dsimp only [id]

theorem answerDelayReq_ok {s0 : State} {requester : U64} {seq : U16} {arrivalNs : Nat} {s : State} (hok : Ok s0 s) :
    Ok s0 (answerDelayReq requester seq arrivalNs s) := by
  unfold answerDelayReq
  repeat' first
    | with_reducible assumption
    | with_reducible refine Ok.ite ?_ ?_
    | with_reducible apply emit_ok
    | intro _ _ _
    | intro _ _
    | split
    | dsimp only
    | dsimp only [id]

theorem execPtpDelayReq_ok {s0 : State} {requester : U64} {seq : U16} {arrivalNs : Nat} {s : State} (hok : Ok s0 s) :
    OutOk s0 (execPtpDelayReq requester seq arrivalNs s) := by
  unfold execPtpDelayReq
  refine ⟨_, rfl, ?_⟩
  repeat' first
    | with_reducible assumption
    | with_reducible apply answerDelayReq_ok
    | intro _ _ _
    | intro _ _
    | dsimp only
    | dsimp only [id]

theorem sendSync_ok {s0 : State} {s : State} (hok : Ok s0 s) :
    Ok s0 (sendSync s) := by
  unfold sendSync
  repeat' first
    | with_reducible assumption
    | (extract_lets +onlyGivenNames x
       first
       | (refine okStep (s0 := s0) (x := x) (fun hx => ?_) ?_; clear_value x; rotate_left; subst x)
       | subst x)
    | with_reducible refine Ok.ite ?_ ?_
    | with_reducible apply emit_ok
    | with_reducible apply modSync_ok
    | intro _ _ _
    | intro _ _
    | split
    | (simp only [ok_lit]; with_reducible refine OkLit.of ?_ ?_ ?_ ?_ ?_ ?_ ?_ ?_ ?_)
    | exact fun h => h
    | exact fun _ => rfl
    | exact Nat.le_refl _
    | dsimp only
    | dsimp only [id]

theorem execPtpSyncTimer_ok {s0 : State} {s : State} (hok : Ok s0 s) :
    OutOk s0 (execPtpSyncTimer s) := by
  unfold execPtpSyncTimer
  refine ⟨_, rfl, ?_⟩
  repeat' first
    | with_reducible assumption
    | with_reducible apply sendSync_ok
    | intro _ _ _
    | intro _ _
    | dsimp only
    | dsimp only [id]

theorem sendAnnounce_ok {s0 : State} {s : State} (hok : Ok s0 s) :
    Ok s0 (sendAnnounce s) := by
  unfold sendAnnounce
  repeat' first
    | with_reducible assumption
    | with_reducible refine Ok.ite ?_ ?_
    | with_reducible apply emit_ok
    | intro _ _ _
    | intro _ _
    | split
    | dsimp only
    | dsimp only [id]

theorem execPtpAnnounceTimer_ok {s0 : State} {s : State} (hok : Ok s0 s) :
    OutOk s0 (execPtpAnnounceTimer s) := by
  unfold execPtpAnnounceTimer
  refine ⟨_, rfl, ?_⟩
  repeat' first
    | with_reducible assumption
    | with_reducible apply sendAnnounce_ok
    | intro _ _ _
    | intro _ _
    | dsimp only
    | dsimp only [id]

theorem entryEnters_ok {s0 : State} {c : CtxId} {s : State} (hok : Ok s0 s) :
    Ok s0 (entryEnters c s) := by
  unfold entryEnters
  repeat' first
    | with_reducible assumption
    | (extract_lets +onlyGivenNames x
       first
       | (refine okStep (s0 := s0) (x := x) (fun hx => ?_) ?_; clear_value x; rotate_left; subst x)
       | subst x)
    | with_reducible refine Ok.ite ?_ ?_
    | with_reducible apply entryArrives_ok
    | with_reducible refine Ok.ofPair ?_ (by with_reducible assumption)
    | intro _ _ _
    | intro _ _
    | split
    | (simp only [ok_lit]; with_reducible refine OkLit.of ?_ ?_ ?_ ?_ ?_ ?_ ?_ ?_ ?_)
    | exact fun h => h
    | exact fun _ => rfl
    | exact Nat.le_refl _
    | dsimp only
    | dsimp only [id]

theorem startWindow_ok {s0 : State} {s : State} (hok : Ok s0 s) :
    Ok s0 (startWindow s) := by
  unfold startWindow
  repeat' first
    | with_reducible assumption
    | with_reducible refine Ok.ite ?_ ?_
    | with_reducible apply foldState_ok
    | with_reducible apply dispatchStages_ok
    | with_reducible apply entryEnters_ok
    | with_reducible apply letIn_ok
    | with_reducible apply appendLog_ok
    | with_reducible apply flushLog_ok
    | intro _ _ _
    | intro _ _
    | split
    | dsimp only
    | dsimp only [id]

theorem execSlotIssueWindowStart_ok {s0 : State} {s : State} (hok : Ok s0 s) :
    OutOk s0 (execSlotIssueWindowStart s) := by
  unfold execSlotIssueWindowStart
  refine ⟨_, rfl, ?_⟩
  repeat' first
    | with_reducible assumption
    | with_reducible apply startWindow_ok
    | intro _ _ _
    | intro _ _
    | dsimp only
    | dsimp only [id]

theorem replayEntry_ok {s0 : State} {c : CtxId} {f : FixedSt} {o : MemObj} {n : Nat} {e : Bytes} {s : State} (hok : Ok s0 s) :
    Ok s0 (replayEntry c f o n e s) := by
  unfold replayEntry
  repeat' first
    | with_reducible assumption
    | (extract_lets +onlyGivenNames x
       first
       | (refine okStep (s0 := s0) (x := x) (fun hx => ?_) ?_; clear_value x; rotate_left; subst x)
       | subst x)
    | with_reducible refine Ok.ite ?_ ?_
    | with_reducible apply modFixed_ok
    | with_reducible apply consumeEntry_ok
    | with_reducible apply takeDoorbell_ok
    | with_reducible refine Ok.ofPair ?_ (by with_reducible assumption)
    | intro _ _ _
    | intro _ _
    | split
    | (simp only [ok_lit]; with_reducible refine OkLit.of ?_ ?_ ?_ ?_ ?_ ?_ ?_ ?_ ?_)
    | exact fun h => h
    | exact fun _ => rfl
    | exact Nat.le_refl _
    | dsimp only
    | dsimp only [id]
    | (intro hl; simp [hl]; done)

theorem replayData_ok {s0 : State} {c : CtxId} {o : MemObj} {w : ReplayWait} {s : State} (hok : Ok s0 s) :
    Ok s0 (replayData c o w s) := by
  unfold replayData
  repeat' first
    | with_reducible assumption
    | (extract_lets +onlyGivenNames x
       first
       | (refine okStep (s0 := s0) (x := x) (fun hx => ?_) ?_; clear_value x; rotate_left; subst x)
       | subst x)
    | with_reducible apply giveRead_ok
    | with_reducible apply consumeEntry_ok
    | with_reducible apply modFixed_ok
    | intro _ _ _
    | intro _ _
    | (simp only [ok_lit]; with_reducible refine OkLit.of ?_ ?_ ?_ ?_ ?_ ?_ ?_ ?_ ?_)
    | exact fun h => h
    | exact fun _ => rfl
    | exact Nat.le_refl _
    | dsimp only
    | dsimp only [id]
    | (intro hl; simp [hl]; done)

theorem replayDue_ok {s0 : State} {c : CtxId} {s : State} (hok : Ok s0 s) :
    Ok s0 (replayDue c s) := by
  unfold replayDue
  repeat' first
    | with_reducible assumption
    | (extract_lets +onlyGivenNames x
       first
       | (refine okStep (s0 := s0) (x := x) (fun hx => ?_) ?_; clear_value x; rotate_left; subst x)
       | subst x)
    | with_reducible refine Ok.ite ?_ ?_
    | with_reducible apply logSnoops_ok
    | with_reducible apply replayData_ok
    | with_reducible apply replayEntry_ok
    | with_reducible refine Ok.ofPair ?_ (by with_reducible assumption)
    | intro _ _ _
    | intro _ _
    | split
    | (simp only [ok_lit]; with_reducible refine OkLit.of ?_ ?_ ?_ ?_ ?_ ?_ ?_ ?_ ?_)
    | exact fun h => h
    | exact fun _ => rfl
    | exact Nat.le_refl _
    | dsimp only
    | dsimp only [id]
    | (intro hl; simp [hl]; done)

theorem execReplayEntryDue_ok {s0 : State} {c : CtxId} {s : State} (hok : Ok s0 s) :
    OutOk s0 (execReplayEntryDue c s) := by
  unfold execReplayEntryDue
  refine ⟨_, rfl, ?_⟩
  repeat' first
    | with_reducible assumption
    | with_reducible apply replayDue_ok
    | intro _ _ _
    | intro _ _
    | dsimp only
    | dsimp only [id]


/-! ### Machine/Modes.lean -/

theorem modDet_ok {s0 : State} {f : DetSt → DetSt} {s : State} (hok : Ok s0 s) :
    Ok s0 (modDet f s) := by
  unfold modDet
  repeat' first
    | with_reducible assumption
    | (extract_lets +onlyGivenNames x
       first
       | (refine okStep (s0 := s0) (x := x) (fun hx => ?_) ?_; clear_value x; rotate_left; subst x)
       | subst x)
    | intro _ _ _
    | intro _ _
    | (simp only [ok_lit]; with_reducible refine OkLit.of ?_ ?_ ?_ ?_ ?_ ?_ ?_ ?_ ?_)
    | exact fun h => h
    | exact fun _ => rfl
    | exact Nat.le_refl _
    | dsimp only
    | dsimp only [id]

theorem execUnitFailureReport_ok {s0 : State} {u : FailUnit} {s : State} (hok : Ok s0 s) :
    OutOk s0 (execUnitFailureReport u s) := by
  unfold execUnitFailureReport
  refine ⟨_, rfl, ?_⟩
  repeat' first
    | with_reducible assumption
    | with_reducible apply fenceUnit_ok
    | intro _ _ _
    | intro _ _
    | dsimp only
    | dsimp only [id]

theorem startUnitRemap_ok {s0 : State} {s : State} (hok : Ok s0 s) :
    Ok s0 (startUnitRemap s) := by
  unfold startUnitRemap
  repeat' first
    | with_reducible assumption
    | (extract_lets +onlyGivenNames x
       first
       | (refine okStep (s0 := s0) (x := x) (fun hx => ?_) ?_; clear_value x; rotate_left; subst x)
       | subst x)
    | with_reducible apply modDet_ok
    | intro _ _ _
    | intro _ _
    | (simp only [ok_lit]; with_reducible refine OkLit.of ?_ ?_ ?_ ?_ ?_ ?_ ?_ ?_ ?_)
    | exact fun h => h
    | exact fun _ => rfl
    | exact Nat.le_refl _
    | dsimp only
    | dsimp only [id]
    | (intro hl; simp [hl]; done)

theorem execUnitRemap_ok {s0 : State} {rq : Requester} {s : State} (hok : Ok s0 s) :
    OutOk s0 (execUnitRemap rq s) := by
  unfold execUnitRemap
  refine ⟨_, rfl, ?_⟩
  repeat' first
    | with_reducible assumption
    | with_reducible apply requestWrite_ok
    | with_reducible apply startUnitRemap_ok
    | intro _ _ _
    | intro _ _
    | dsimp only
    | dsimp only [id]

theorem takeOver_ok {s0 : State} {n : Nat} {s : State} (hok : Ok s0 s) :
    Ok s0 (takeOver n s) := by
  unfold takeOver
  repeat' first
    | with_reducible assumption
    | (extract_lets +onlyGivenNames x
       first
       | (refine okStep (s0 := s0) (x := x) (fun hx => ?_) ?_; clear_value x; rotate_left; subst x)
       | subst x)
    | intro _ _ _
    | intro _ _
    | (simp only [ok_lit]; with_reducible refine OkLit.of ?_ ?_ ?_ ?_ ?_ ?_ ?_ ?_ ?_)
    | exact fun h => h
    | exact fun _ => rfl
    | exact Nat.le_refl _
    | dsimp only
    | dsimp only [id]

theorem endUnitRemap_ok {s0 : State} {s : State} (hok : Ok s0 s) :
    Ok s0 (endUnitRemap s) := by
  unfold endUnitRemap
  repeat' first
    | with_reducible assumption
    | (extract_lets +onlyGivenNames x
       first
       | (refine okStep (s0 := s0) (x := x) (fun hx => ?_) ?_; clear_value x; rotate_left; subst x)
       | subst x)
    | with_reducible refine Ok.ite ?_ ?_
    | with_reducible apply foldState_ok
    | with_reducible apply takeOver_ok
    | with_reducible apply modDet_ok
    | with_reducible apply mapChanged_ok
    | intro _ _ _
    | intro _ _
    | split
    | (simp only [ok_lit]; with_reducible refine OkLit.of ?_ ?_ ?_ ?_ ?_ ?_ ?_ ?_ ?_)
    | exact fun h => h
    | exact fun _ => rfl
    | exact Nat.le_refl _
    | dsimp only
    | dsimp only [id]
    | (intro hl; simp [hl]; done)

theorem execUnitRemapDone_ok {s0 : State} {s : State} (hok : Ok s0 s) :
    OutOk s0 (execUnitRemapDone s) := by
  unfold execUnitRemapDone
  refine ⟨_, rfl, ?_⟩
  repeat' first
    | with_reducible assumption
    | with_reducible apply endUnitRemap_ok
    | intro _ _ _
    | intro _ _
    | dsimp only
    | dsimp only [id]

theorem clustersWake_ok {s0 : State} {s : State} (hok : Ok s0 s) :
    Ok s0 (clustersWake s) := by
  unfold clustersWake
  repeat' first
    | with_reducible assumption
    | (extract_lets +onlyGivenNames x
       first
       | (refine okStep (s0 := s0) (x := x) (fun hx => ?_) ?_; clear_value x; rotate_left; subst x)
       | (refine okStep (s0 := s0) (x := x.1) (fun hx => ?_) ?_; clear_value x; rotate_left; subst x)
       | subst x)
    | with_reducible apply foldState_ok
    | with_reducible apply emit_ok
    | with_reducible apply modDet_ok
    | intro _ _ _
    | intro _ _
    | (simp only [ok_lit]; with_reducible refine OkLit.of ?_ ?_ ?_ ?_ ?_ ?_ ?_ ?_ ?_)
    | exact fun h => h
    | exact fun _ => rfl
    | exact Nat.le_refl _
    | dsimp only
    | dsimp only [id]
    | (intro hl; simp [hl]; done)

theorem commitIfAcked_ok {s0 : State} {s : State} (hok : Ok s0 s) :
    Ok s0 (commitIfAcked s) := by
  unfold commitIfAcked
  repeat' first
    | with_reducible assumption
    | (extract_lets +onlyGivenNames x
       first
       | (refine okStep (s0 := s0) (x := x) (fun hx => ?_) ?_; clear_value x; rotate_left; subst x)
       | subst x)
    | with_reducible refine Ok.ite ?_ ?_
    | with_reducible apply modDet_ok
    | intro _ _ _
    | intro _ _
    | split
    | (simp only [ok_lit]; with_reducible refine OkLit.of ?_ ?_ ?_ ?_ ?_ ?_ ?_ ?_ ?_)
    | exact fun h => h
    | exact fun _ => rfl
    | exact Nat.le_refl _
    | dsimp only
    | dsimp only [id]

theorem startStage_ok {s0 : State} {s : State} (hok : Ok s0 s) :
    Ok s0 (startStage s) := by
  unfold startStage
  repeat' first
    | with_reducible assumption
    | (extract_lets +onlyGivenNames x
       first
       | (refine okStep (s0 := s0) (x := x) (fun hx => ?_) ?_; clear_value x; rotate_left; subst x)
       | subst x)
    | with_reducible apply modDet_ok
    | with_reducible apply commitIfAcked_ok
    | with_reducible apply foldState_ok
    | with_reducible apply emit_ok
    | intro _ _ _
    | intro _ _
    | (simp only [ok_lit]; with_reducible refine OkLit.of ?_ ?_ ?_ ?_ ?_ ?_ ?_ ?_ ?_)
    | exact fun h => h
    | exact fun _ => rfl
    | exact Nat.le_refl _
    | dsimp only
    | dsimp only [id]

theorem execModeChangeStage_ok {s0 : State} {rq : Requester} {s : State} (hok : Ok s0 s) :
    OutOk s0 (execModeChangeStage rq s) := by
  unfold execModeChangeStage
  refine ⟨_, rfl, ?_⟩
  repeat' first
    | with_reducible assumption
    | with_reducible apply requestWrite_ok
    | with_reducible apply startStage_ok
    | intro _ _ _
    | intro _ _
    | dsimp only
    | dsimp only [id]

theorem stageAck_ok {s0 : State} {n : Nat} {s : State} (hok : Ok s0 s) :
    Ok s0 (stageAck n s) := by
  unfold stageAck
  repeat' first
    | with_reducible assumption
    | (extract_lets +onlyGivenNames x
       first
       | (refine okStep (s0 := s0) (x := x) (fun hx => ?_) ?_; clear_value x; rotate_left; subst x)
       | subst x)
    | with_reducible refine Ok.ite ?_ ?_
    | with_reducible apply abandonMode_ok
    | with_reducible apply commitIfAcked_ok
    | with_reducible apply modDet_ok
    | intro _ _ _
    | intro _ _
    | split
    | (simp only [ok_lit]; with_reducible refine OkLit.of ?_ ?_ ?_ ?_ ?_ ?_ ?_ ?_ ?_)
    | exact fun h => h
    | exact fun _ => rfl
    | exact Nat.le_refl _
    | dsimp only
    | dsimp only [id]

theorem execModeStageAck_ok {s0 : State} {n : Nat} {s : State} (hok : Ok s0 s) :
    OutOk s0 (execModeStageAck n s) := by
  unfold execModeStageAck
  refine ⟨_, rfl, ?_⟩
  repeat' first
    | with_reducible assumption
    | with_reducible apply stageAck_ok
    | intro _ _ _
    | intro _ _
    | dsimp only
    | dsimp only [id]

theorem stageReject_ok {s0 : State} {n : Nat} {s : State} (hok : Ok s0 s) :
    Ok s0 (stageReject n s) := by
  unfold stageReject
  repeat' first
    | with_reducible assumption
    | with_reducible refine Ok.ite ?_ ?_
    | with_reducible apply abandonMode_ok
    | intro _ _ _
    | intro _ _
    | split
    | dsimp only
    | dsimp only [id]

theorem execModeStageReject_ok {s0 : State} {n : Nat} {s : State} (hok : Ok s0 s) :
    OutOk s0 (execModeStageReject n s) := by
  unfold execModeStageReject
  refine ⟨_, rfl, ?_⟩
  repeat' first
    | with_reducible assumption
    | with_reducible apply stageReject_ok
    | intro _ _ _
    | intro _ _
    | dsimp only
    | dsimp only [id]

theorem stageExpired_ok {s0 : State} {n : Nat} {s : State} (hok : Ok s0 s) :
    Ok s0 (stageExpired n s) := by
  unfold stageExpired
  repeat' first
    | with_reducible assumption
    | with_reducible refine Ok.ite ?_ ?_
    | with_reducible apply abandonMode_ok
    | intro _ _ _
    | intro _ _
    | split
    | dsimp only
    | dsimp only [id]

theorem execModeStageTimeout_ok {s0 : State} {n : Nat} {s : State} (hok : Ok s0 s) :
    OutOk s0 (execModeStageTimeout n s) := by
  unfold execModeStageTimeout
  refine ⟨_, rfl, ?_⟩
  repeat' first
    | with_reducible assumption
    | with_reducible apply stageExpired_ok
    | intro _ _ _
    | intro _ _
    | dsimp only
    | dsimp only [id]

theorem commitMode_ok {s0 : State} {s : State} (hok : Ok s0 s) :
    Ok s0 (commitMode s) := by
  unfold commitMode
  repeat' first
    | with_reducible assumption
    | (extract_lets +onlyGivenNames x
       first
       | (refine okStep (s0 := s0) (x := x) (fun hx => ?_) ?_; clear_value x; rotate_left; subst x)
       | subst x)
    | with_reducible refine Ok.ite ?_ ?_
    | with_reducible apply foldState_ok
    | with_reducible apply emit_ok
    | with_reducible apply modDet_ok
    | intro _ _ _
    | intro _ _
    | split
    | (simp only [ok_lit]; with_reducible refine OkLit.of ?_ ?_ ?_ ?_ ?_ ?_ ?_ ?_ ?_)
    | exact fun h => h
    | exact fun _ => rfl
    | exact Nat.le_refl _
    | dsimp only
    | dsimp only [id]

theorem execModeCommit_ok {s0 : State} {s : State} (hok : Ok s0 s) :
    OutOk s0 (execModeCommit s) := by
  unfold execModeCommit
  refine ⟨_, rfl, ?_⟩
  repeat' first
    | with_reducible assumption
    | with_reducible apply commitMode_ok
    | intro _ _ _
    | intro _ _
    | dsimp only
    | dsimp only [id]


/-! ### Machine/Ports.lean -/

theorem noteStalls_ok {s0 : State} {g : Fun} {kind : Nat} {s : State} (hok : Ok s0 s) :
    Ok s0 (noteStalls g kind s) := by
  unfold noteStalls
  repeat' first
    | with_reducible assumption
    | with_reducible apply foldState_ok
    | with_reducible apply noteLog_ok
    | intro _ _ _
    | intro _ _
    | dsimp only
    | dsimp only [id]

theorem stallBegins_ok {s0 : State} {g : Fun} {s : State} (hok : Ok s0 s) :
    Ok s0 (stallBegins g s) := by
  unfold stallBegins
  repeat' first
    | with_reducible assumption
    | (extract_lets +onlyGivenNames x
       first
       | (refine okStep (s0 := s0) (x := x) (fun hx => ?_) ?_; clear_value x; rotate_left; subst x)
       | subst x)
    | with_reducible refine Ok.ite ?_ ?_
    | with_reducible apply foldState_ok
    | with_reducible apply clearCycleExact_ok
    | with_reducible apply noteStalls_ok
    | with_reducible apply modFn_ok
    | (intro x hx; (repeat' split) <;> refine ⟨?_, ?_, ?_, ?_⟩ <;> first | exact hx.cfg | exact hx.admin | exact hx.faultq | exact hx.int | exact CfgOk.init _ | exact AdminOk.init | exact FaultqOk.init | exact IntOk.init | exact ⟨hx.int.delay, hx.int.masks⟩)
    | intro _ _ _
    | intro _ _
    | split
    | (simp only [ok_lit]; with_reducible refine OkLit.of ?_ ?_ ?_ ?_ ?_ ?_ ?_ ?_ ?_)
    | exact fun h => h
    | exact fun _ => rfl
    | exact Nat.le_refl _
    | dsimp only
    | dsimp only [id]

theorem stallEnds_ok {s0 : State} {g : Fun} {s : State} (hok : Ok s0 s) :
    Ok s0 (stallEnds g s) := by
  unfold stallEnds
  repeat' first
    | with_reducible assumption
    | (extract_lets +onlyGivenNames x
       first
       | (refine okStep (s0 := s0) (x := x) (fun hx => ?_) ?_; clear_value x; rotate_left; subst x)
       | subst x)
    | with_reducible refine Ok.ite ?_ ?_
    | with_reducible apply askAdmin_ok
    | with_reducible apply noteStalls_ok
    | with_reducible apply releaseHeld_ok
    | with_reducible apply modFn_ok
    | (intro x hx; (repeat' split) <;> refine ⟨?_, ?_, ?_, ?_⟩ <;> first | exact hx.cfg | exact hx.admin | exact hx.faultq | exact hx.int | exact CfgOk.init _ | exact AdminOk.init | exact FaultqOk.init | exact IntOk.init | exact ⟨hx.int.delay, hx.int.masks⟩)
    | intro _ _ _
    | intro _ _
    | split
    | (simp only [ok_lit]; with_reducible refine OkLit.of ?_ ?_ ?_ ?_ ?_ ?_ ?_ ?_ ?_)
    | exact fun h => h
    | exact fun _ => rfl
    | exact Nat.le_refl _
    | dsimp only
    | dsimp only [id]

theorem writeCommand_ok {s0 : State} {g : Fun} {v : Nat} {s : State} (hok : Ok s0 s) :
    Ok s0 (writeCommand g v s) := by
  unfold writeCommand
  repeat' first
    | with_reducible assumption
    | (extract_lets +onlyGivenNames x
       first
       | (refine okStep (s0 := s0) (x := x) (fun hx => ?_) ?_; clear_value x; rotate_left; subst x)
       | subst x)
    | with_reducible refine Ok.ite ?_ ?_
    | with_reducible apply modCfg_ok
    | with_reducible apply stallEnds_ok
    | with_reducible apply stallBegins_ok
    | with_reducible apply issueImage_ok
    | with_reducible apply settleIntx_ok
    | (intro x hx; (repeat' split) <;> exact ⟨hx.command, hx.devCtl, hx.devCtl2, hx.bar0⟩)
    | (intro x hx; exact ⟨and_clear _ _ _ (by decide), hx.devCtl, hx.devCtl2, hx.bar0⟩)
    | intro _ _ _
    | intro _ _
    | split
    | (simp only [ok_lit]; with_reducible refine OkLit.of ?_ ?_ ?_ ?_ ?_ ?_ ?_ ?_ ?_)
    | exact fun h => h
    | exact fun _ => rfl
    | exact Nat.le_refl _
    | dsimp only
    | dsimp only [id]
    | (intro hl; simp [hl]; done)

theorem execBusMasterEnableClear_ok {s0 : State} {g : Fun} {s : State} (hok : Ok s0 s) :
    OutOk s0 (execBusMasterEnableClear g s) := by
  unfold execBusMasterEnableClear
  refine ⟨_, rfl, ?_⟩
  repeat' first
    | with_reducible assumption
    | with_reducible apply cfgWrite_ok
    | with_reducible apply writeCommand_ok
    | intro _ _ _
    | intro _ _
    | dsimp only
    | dsimp only [id]

theorem execBusMasterEnableSet_ok {s0 : State} {g : Fun} {s : State} (hok : Ok s0 s) :
    OutOk s0 (execBusMasterEnableSet g s) := by
  unfold execBusMasterEnableSet
  refine ⟨_, rfl, ?_⟩
  repeat' first
    | with_reducible assumption
    | with_reducible apply cfgWrite_ok
    | with_reducible apply writeCommand_ok
    | intro _ _ _
    | intro _ _
    | dsimp only
    | dsimp only [id]

theorem execInterruptDisableWrite_ok {s0 : State} {g : Fun} {v : Bool} {s : State} (hok : Ok s0 s) :
    OutOk s0 (execInterruptDisableWrite g v s) := by
  unfold execInterruptDisableWrite
  refine ⟨_, rfl, ?_⟩
  repeat' first
    | with_reducible assumption
    | with_reducible refine Ok.ite ?_ ?_
    | with_reducible apply cfgWrite_ok
    | with_reducible apply writeCommand_ok
    | intro _ _ _
    | intro _ _
    | split
    | dsimp only
    | dsimp only [id]

theorem execStallQuiet_ok {s0 : State} {g : Fun} {s : State} (hok : Ok s0 s) :
    OutOk s0 (execStallQuiet g s) := by
  unfold execStallQuiet
  refine ⟨_, rfl, ?_⟩
  repeat' first
    | with_reducible assumption
    | (extract_lets +onlyGivenNames x
       first
       | (refine okStep (s0 := s0) (x := x) (fun hx => ?_) ?_; clear_value x; rotate_left; subst x)
       | subst x)
    | with_reducible refine Ok.ite ?_ ?_
    | with_reducible apply modFn_ok
    | (intro x hx; (repeat' split) <;> refine ⟨?_, ?_, ?_, ?_⟩ <;> first | exact hx.cfg | exact hx.admin | exact hx.faultq | exact hx.int | exact CfgOk.init _ | exact AdminOk.init | exact FaultqOk.init | exact IntOk.init | exact ⟨hx.int.delay, hx.int.masks⟩)
    | intro _ _ _
    | intro _ _
    | split
    | (simp only [ok_lit]; with_reducible refine OkLit.of ?_ ?_ ?_ ?_ ?_ ?_ ?_ ?_ ?_)
    | exact fun h => h
    | exact fun _ => rfl
    | exact Nat.le_refl _
    | dsimp only
    | dsimp only [id]

theorem leaveL0_ok {s0 : State} {p : Nat} {s : State} (hok : Ok s0 s) :
    Ok s0 (leaveL0 p s) := by
  unfold leaveL0
  repeat' first
    | with_reducible assumption
    | (extract_lets +onlyGivenNames x
       first
       | (refine okStep (s0 := s0) (x := x) (fun hx => ?_) ?_; clear_value x; rotate_left; subst x)
       | subst x)
    | with_reducible refine Ok.ite ?_ ?_
    | intro _ _ _
    | intro _ _
    | split
    | (simp only [ok_lit]; with_reducible refine OkLit.of ?_ ?_ ?_ ?_ ?_ ?_ ?_ ?_ ?_)
    | exact fun h => h
    | exact fun _ => rfl
    | exact Nat.le_refl _
    | dsimp only
    | dsimp only [id]
    | (intro hl; simp [hl]; done)

theorem linkLeavesL0_ok {s0 : State} {p : Port} {s : State} (hok : Ok s0 s) :
    Ok s0 (linkLeavesL0 p s) := by
  unfold linkLeavesL0
  repeat' first
    | with_reducible assumption
    | with_reducible refine Ok.ite ?_ ?_
    | with_reducible apply leaveL0_ok
    | intro _ _ _
    | intro _ _
    | split
    | dsimp only
    | dsimp only [id]

theorem enterD3_ok {s0 : State} {g : Fun} {s : State} (hok : Ok s0 s) :
    Ok s0 (enterD3 g s) := by
  unfold enterD3
  repeat' first
    | with_reducible assumption
    | (extract_lets +onlyGivenNames x
       first
       | (refine okStep (s0 := s0) (x := x) (fun hx => ?_) ?_; clear_value x; rotate_left; subst x)
       | subst x)
    | with_reducible refine Ok.ite ?_ ?_
    | with_reducible apply stallBegins_ok
    | with_reducible apply modCfg_ok
    | with_reducible apply settleIntx_ok
    | with_reducible apply linkLeavesL0_ok
    | with_reducible apply modPort_ok
    | (intro x hx; (repeat' split) <;> exact ⟨hx.command, hx.devCtl, hx.devCtl2, hx.bar0⟩)
    | intro _ _ _
    | intro _ _
    | split
    | (simp only [ok_lit]; with_reducible refine OkLit.of ?_ ?_ ?_ ?_ ?_ ?_ ?_ ?_ ?_)
    | exact fun h => h
    | exact fun _ => rfl
    | exact Nat.le_refl _
    | dsimp only
    | dsimp only [id]
    | (intro hl; simp [hl]; done)

theorem execPowerStateD3hot_ok {s0 : State} {g : Fun} {s : State} (hok : Ok s0 s) :
    OutOk s0 (execPowerStateD3hot g s) := by
  unfold execPowerStateD3hot
  refine ⟨_, rfl, ?_⟩
  repeat' first
    | with_reducible assumption
    | with_reducible refine Ok.ite ?_ ?_
    | with_reducible apply cfgWrite_ok
    | with_reducible apply enterD3_ok
    | intro _ _ _
    | intro _ _
    | split
    | dsimp only
    | dsimp only [id]

theorem leaveD3_ok {s0 : State} {g : Fun} {s : State} (hok : Ok s0 s) :
    Ok s0 (leaveD3 g s) := by
  unfold leaveD3
  repeat' first
    | with_reducible assumption
    | (extract_lets +onlyGivenNames x
       first
       | (refine okStep (s0 := s0) (x := x) (fun hx => ?_) ?_; clear_value x; rotate_left; subst x)
       | subst x)
    | with_reducible apply settleIntx_ok
    | with_reducible apply stallEnds_ok
    | with_reducible apply modCfg_ok
    | (intro x hx; (repeat' split) <;> exact ⟨hx.command, hx.devCtl, hx.devCtl2, hx.bar0⟩)
    | intro _ _ _
    | intro _ _
    | (simp only [ok_lit]; with_reducible refine OkLit.of ?_ ?_ ?_ ?_ ?_ ?_ ?_ ?_ ?_)
    | exact fun h => h
    | exact fun _ => rfl
    | exact Nat.le_refl _
    | dsimp only
    | dsimp only [id]
    | (intro hl; simp [hl]; done)

theorem execPowerStateD0_ok {s0 : State} {g : Fun} {s : State} (hok : Ok s0 s) :
    OutOk s0 (execPowerStateD0 g s) := by
  unfold execPowerStateD0
  refine ⟨_, rfl, ?_⟩
  repeat' first
    | with_reducible assumption
    | with_reducible refine Ok.ite ?_ ?_
    | with_reducible apply cfgWrite_ok
    | with_reducible apply leaveD3_ok
    | intro _ _ _
    | intro _ _
    | split
    | dsimp only
    | dsimp only [id]

theorem dropAts_ok {s0 : State} {g : Fun} {s : State} (hok : Ok s0 s) :
    Ok s0 (dropAts g s) := by
  unfold dropAts
  repeat' first
    | with_reducible assumption
    | with_reducible apply forgetAts_ok
    | intro _ _ _
    | intro _ _
    | dsimp only
    | dsimp only [id]

theorem clearAts_ok {s0 : State} {g : Fun} {pasid : Bool} {s : State} (hok : Ok s0 s) :
    Ok s0 (clearAts g pasid s) := by
  unfold clearAts
  repeat' first
    | with_reducible assumption
    | (extract_lets +onlyGivenNames x
       first
       | (refine okStep (s0 := s0) (x := x) (fun hx => ?_) ?_; clear_value x; rotate_left; subst x)
       | subst x)
    | with_reducible refine Ok.ite ?_ ?_
    | with_reducible apply dropWaits_ok
    | with_reducible apply dropAts_ok
    | with_reducible apply modCfg_ok
    | (intro x hx; (repeat' split) <;> exact ⟨hx.command, hx.devCtl, hx.devCtl2, hx.bar0⟩)
    | intro _ _ _
    | intro _ _
    | split
    | (simp only [ok_lit]; with_reducible refine OkLit.of ?_ ?_ ?_ ?_ ?_ ?_ ?_ ?_ ?_)
    | exact fun h => h
    | exact fun _ => rfl
    | exact Nat.le_refl _
    | dsimp only
    | dsimp only [id]

theorem execAtsPasidDisable_ok {s0 : State} {g : Fun} {pasid : Bool} {s : State} (hok : Ok s0 s) :
    OutOk s0 (execAtsPasidDisable g pasid s) := by
  unfold execAtsPasidDisable
  refine ⟨_, rfl, ?_⟩
  repeat' first
    | with_reducible assumption
    | with_reducible apply cfgWrite_ok
    | with_reducible apply clearAts_ok
    | intro _ _ _
    | intro _ _
    | dsimp only
    | dsimp only [id]

theorem abortContexts_ok {s0 : State} {g : Fun} {s : State} (hok : Ok s0 s) :
    Ok s0 (abortContexts g s) := by
  unfold abortContexts
  repeat' first
    | with_reducible assumption
    | (extract_lets +onlyGivenNames x
       first
       | (refine okStep (s0 := s0) (x := x) (fun hx => ?_) ?_; clear_value x; rotate_left; subst x)
       | (refine okStep (s0 := s0) (x := x.1) (fun hx => ?_) ?_; clear_value x; rotate_left; subst x)
       | subst x)
    | with_reducible refine Ok.ite ?_ ?_
    | with_reducible apply foldState_ok
    | with_reducible apply modCtx_ok
    | with_reducible apply abortContext_ok
    | intro _ _ _
    | intro _ _
    | split
    | (simp only [ok_lit]; with_reducible refine OkLit.of ?_ ?_ ?_ ?_ ?_ ?_ ?_ ?_ ?_)
    | exact fun h => h
    | exact fun _ => rfl
    | exact Nat.le_refl _
    | dsimp only
    | dsimp only [id]
    | (intro hl; simp [hl]; done)

theorem freeAll_ok {s0 : State} {g : Fun} {s : State} (hok : Ok s0 s) :
    Ok s0 (freeAll g s) := by
  unfold freeAll
  repeat' first
    | with_reducible assumption
    | (extract_lets +onlyGivenNames x
       first
       | (refine okStep (s0 := s0) (x := x) (fun hx => ?_) ?_; clear_value x; rotate_left; subst x)
       | (refine okStep (s0 := s0) (x := x.1) (fun hx => ?_) ?_; clear_value x; rotate_left; subst x)
       | subst x)
    | with_reducible apply foldState_ok
    | with_reducible apply freeStart_ok
    | intro _ _ _
    | intro _ _
    | (simp only [ok_lit]; with_reducible refine OkLit.of ?_ ?_ ?_ ?_ ?_ ?_ ?_ ?_ ?_)
    | exact fun h => h
    | exact fun _ => rfl
    | exact Nat.le_refl _
    | dsimp only
    | dsimp only [id]
    | (intro hl; simp [hl]; done)

theorem closeAll_ok {s0 : State} {g : Fun} {s : State} (hok : Ok s0 s) :
    Ok s0 (closeAll g s) := by
  unfold closeAll
  repeat' first
    | with_reducible assumption
    | (extract_lets +onlyGivenNames x
       first
       | (refine okStep (s0 := s0) (x := x) (fun hx => ?_) ?_; clear_value x; rotate_left; subst x)
       | (refine okStep (s0 := s0) (x := x.1) (fun hx => ?_) ?_; clear_value x; rotate_left; subst x)
       | subst x)
    | with_reducible refine Ok.ite ?_ ?_
    | intro _ _ _
    | intro _ _
    | split
    | (simp only [ok_lit]; with_reducible refine OkLit.of ?_ ?_ ?_ ?_ ?_ ?_ ?_ ?_ ?_)
    | exact fun h => h
    | exact fun _ => rfl
    | exact Nat.le_refl _
    | dsimp only
    | dsimp only [id]
    | (intro hl; simp [hl]; done)

theorem beginAbort_ok {s0 : State} {ev : AbortEvent} {g : Fun} {s : State} (hok : Ok s0 s) :
    Ok s0 (beginAbort ev g s) := by
  unfold beginAbort
  repeat' first
    | with_reducible assumption
    | (extract_lets +onlyGivenNames x
       first
       | (refine okStep (s0 := s0) (x := x) (fun hx => ?_) ?_; clear_value x; rotate_left; subst x)
       | subst x)
    | with_reducible refine Ok.ite ?_ ?_
    | with_reducible apply modFn_ok
    | with_reducible apply abortContexts_ok
    | with_reducible apply settleIntx_ok
    | with_reducible apply imageFails_ok
    | with_reducible apply quarantine_ok
    | with_reducible apply closeAll_ok
    | with_reducible apply freeAll_ok
    | (intro x hx; (repeat' split) <;> refine ⟨?_, ?_, ?_, ?_⟩ <;> first | exact hx.cfg | exact hx.admin | exact hx.faultq | exact hx.int | exact CfgOk.init _ | exact AdminOk.init | exact FaultqOk.init | exact IntOk.init | exact ⟨hx.int.delay, hx.int.masks⟩)
    | intro _ _ _
    | intro _ _
    | split
    | (simp only [ok_lit]; with_reducible refine OkLit.of ?_ ?_ ?_ ?_ ?_ ?_ ?_ ?_ ?_)
    | exact fun h => h
    | exact fun _ => rfl
    | exact Nat.le_refl _
    | dsimp only
    | dsimp only [id]
    | (intro hl; simp [hl]; done)

theorem abortFn_ok {s0 : State} {ev : AbortEvent} {g : Fun} {s : State} (hok : Ok s0 s) :
    Ok s0 (abortFn ev g s) := by
  unfold abortFn
  repeat' first
    | with_reducible assumption
    | with_reducible refine Ok.ite ?_ ?_
    | with_reducible apply beginAbort_ok
    | intro _ _ _
    | intro _ _
    | split
    | dsimp only
    | dsimp only [id]

theorem scrubExtent_ok {s0 : State} {g : Fun} {s : State} (hok : Ok s0 s) :
    Ok s0 (scrubExtent g s) := by
  unfold scrubExtent
  repeat' first
    | with_reducible assumption
    | (extract_lets +onlyGivenNames x
       first
       | (refine okStep (s0 := s0) (x := x) (fun hx => ?_) ?_; clear_value x; rotate_left; subst x)
       | subst x)
    | with_reducible refine Ok.ite ?_ ?_
    | with_reducible refine Ok.ofPair ?_ (by with_reducible assumption)
    | intro _ _ _
    | intro _ _
    | split
    | (simp only [ok_lit]; with_reducible refine OkLit.of ?_ ?_ ?_ ?_ ?_ ?_ ?_ ?_ ?_)
    | exact fun h => h
    | exact fun _ => rfl
    | exact Nat.le_refl _
    | dsimp only
    | dsimp only [id]

theorem clearFnCounters_ok {s0 : State} {g : Fun} {s : State} (hok : Ok s0 s) :
    Ok s0 (clearFnCounters g s) := by
  unfold clearFnCounters
  repeat' first
    | with_reducible assumption
    | (extract_lets +onlyGivenNames x
       first
       | (refine okStep (s0 := s0) (x := x) (fun hx => ?_) ?_; clear_value x; rotate_left; subst x)
       | (refine okStep (s0 := s0) (x := x.1) (fun hx => ?_) ?_; clear_value x; rotate_left; subst x)
       | subst x)
    | intro _ _ _
    | intro _ _
    | (simp only [ok_lit]; with_reducible refine OkLit.of ?_ ?_ ?_ ?_ ?_ ?_ ?_ ?_ ?_)
    | exact fun h => h
    | exact fun _ => rfl
    | exact Nat.le_refl _
    | dsimp only
    | dsimp only [id]

theorem endAbort_ok {s0 : State} {ev : AbortEvent} {g : Fun} {s : State} (hok : Ok s0 s) :
    Ok s0 (endAbort ev g s) := by
  unfold endAbort
  repeat' first
    | with_reducible assumption
    | (extract_lets +onlyGivenNames x
       first
       | (refine okStep (s0 := s0) (x := x) (fun hx => ?_) ?_; clear_value x; rotate_left; subst x)
       | subst x)
    | with_reducible refine Ok.ite ?_ ?_
    | with_reducible apply modFn_ok
    | with_reducible apply clearFnCounters_ok
    | with_reducible apply dropAts_ok
    | with_reducible apply scrubExtent_ok
    | (intro x hx; (repeat' split) <;> refine ⟨?_, ?_, ?_, ?_⟩ <;> first | exact hx.cfg | exact hx.admin | exact hx.faultq | exact hx.int | exact CfgOk.init _ | exact AdminOk.init | exact FaultqOk.init | exact IntOk.init | exact ⟨hx.int.delay, hx.int.masks⟩)
    | intro _ _ _
    | intro _ _
    | split
    | (simp only [ok_lit]; with_reducible refine OkLit.of ?_ ?_ ?_ ?_ ?_ ?_ ?_ ?_ ?_)
    | exact fun h => h
    | exact fun _ => rfl
    | exact Nat.le_refl _
    | dsimp only
    | dsimp only [id]
    | (intro hl; simp [hl]; done)

theorem execFunctionResetComplete_ok {s0 : State} {g : Fun} {s : State} (hok : Ok s0 s) :
    OutOk s0 (execFunctionResetComplete g s) := by
  unfold execFunctionResetComplete
  refine ⟨_, rfl, ?_⟩
  repeat' first
    | with_reducible assumption
    | (extract_lets +onlyGivenNames x
       first
       | (refine okStep (s0 := s0) (x := x) (fun hx => ?_) ?_; clear_value x; rotate_left; subst x)
       | subst x)
    | with_reducible refine Ok.ite ?_ ?_
    | with_reducible apply endAbort_ok
    | intro _ _ _
    | intro _ _
    | split
    | (simp only [ok_lit]; with_reducible refine OkLit.of ?_ ?_ ?_ ?_ ?_ ?_ ?_ ?_ ?_)
    | exact fun h => h
    | exact fun _ => rfl
    | exact Nat.le_refl _
    | dsimp only
    | dsimp only [id]

theorem execFunctionLevelReset_ok {s0 : State} {g : Fun} {s : State} (hok : Ok s0 s) :
    OutOk s0 (execFunctionLevelReset g s) := by
  unfold execFunctionLevelReset
  refine ⟨_, rfl, ?_⟩
  repeat' first
    | with_reducible assumption
    | with_reducible refine Ok.ite ?_ ?_
    | with_reducible apply cfgWrite_ok
    | with_reducible apply abortFn_ok
    | intro _ _ _
    | intro _ _
    | split
    | dsimp only
    | dsimp only [id]

theorem dropDoe_ok {s0 : State} {p : Port} {s : State} (hok : Ok s0 s) :
    Ok s0 (dropDoe p s) := by
  unfold dropDoe
  repeat' first
    | with_reducible assumption
    | (extract_lets +onlyGivenNames x
       first
       | (refine okStep (s0 := s0) (x := x) (fun hx => ?_) ?_; clear_value x; rotate_left; subst x)
       | (refine okStep (s0 := s0) (x := x.1) (fun hx => ?_) ?_; clear_value x; rotate_left; subst x)
       | subst x)
    | intro _ _ _
    | intro _ _
    | (simp only [ok_lit]; with_reducible refine OkLit.of ?_ ?_ ?_ ?_ ?_ ?_ ?_ ?_ ?_)
    | exact fun h => h
    | exact fun _ => rfl
    | exact Nat.le_refl _
    | dsimp only
    | dsimp only [id]

theorem dropLink_ok {s0 : State} {p : Port} {st : LinkState} {s : State} (hok : Ok s0 s) :
    Ok s0 (dropLink p st s) := by
  unfold dropLink
  repeat' first
    | with_reducible assumption
    | (extract_lets +onlyGivenNames x
       first
       | (refine okStep (s0 := s0) (x := x) (fun hx => ?_) ?_; clear_value x; rotate_left; subst x)
       | subst x)
    | with_reducible apply linkLeavesL0_ok
    | with_reducible apply modPort_ok
    | intro _ _ _
    | intro _ _
    | (simp only [ok_lit]; with_reducible refine OkLit.of ?_ ?_ ?_ ?_ ?_ ?_ ?_ ?_ ?_)
    | exact fun h => h
    | exact fun _ => rfl
    | exact Nat.le_refl _
    | dsimp only
    | dsimp only [id]

theorem abortPort_ok {s0 : State} {ev : AbortEvent} {p : Port} {s : State} (hok : Ok s0 s) :
    Ok s0 (abortPort ev p s) := by
  unfold abortPort
  repeat' first
    | with_reducible assumption
    | with_reducible apply foldState_ok
    | with_reducible apply abortFn_ok
    | intro _ _ _
    | intro _ _
    | dsimp only
    | dsimp only [id]

theorem awaitFallback_ok {s0 : State} {s : State} (hok : Ok s0 s) :
    Ok s0 (awaitFallback s) := by
  unfold awaitFallback
  repeat' first
    | with_reducible assumption
    | (extract_lets +onlyGivenNames x
       first
       | (refine okStep (s0 := s0) (x := x) (fun hx => ?_) ?_; clear_value x; rotate_left; subst x)
       | subst x)
    | intro _ _ _
    | intro _ _
    | (simp only [ok_lit]; with_reducible refine OkLit.of ?_ ?_ ?_ ?_ ?_ ?_ ?_ ?_ ?_)
    | exact fun h => h
    | exact fun _ => rfl
    | exact Nat.le_refl _
    | dsimp only
    | dsimp only [id]

theorem releaseCaptures_ok {s0 : State} {p : Port} {s : State} (hok : Ok s0 s) :
    Ok s0 (releaseCaptures p s) := by
  unfold releaseCaptures
  repeat' first
    | with_reducible assumption
    | (extract_lets +onlyGivenNames x
       first
       | (refine okStep (s0 := s0) (x := x) (fun hx => ?_) ?_; clear_value x; rotate_left; subst x)
       | subst x)
    | with_reducible apply foldState_ok
    | with_reducible apply modFn_ok
    | (intro x hx; (repeat' split) <;> refine ⟨?_, ?_, ?_, ?_⟩ <;> first | exact hx.cfg | exact hx.admin | exact hx.faultq | exact hx.int | exact CfgOk.init _ | exact AdminOk.init | exact FaultqOk.init | exact IntOk.init | exact ⟨hx.int.delay, hx.int.masks⟩)
    | intro _ _ _
    | intro _ _
    | (simp only [ok_lit]; with_reducible refine OkLit.of ?_ ?_ ?_ ?_ ?_ ?_ ?_ ?_ ?_)
    | exact fun h => h
    | exact fun _ => rfl
    | exact Nat.le_refl _
    | dsimp only
    | dsimp only [id]

theorem bootStops_ok {s0 : State} {s : State} (hok : Ok s0 s) :
    Ok s0 (bootStops s) := by
  unfold bootStops
  repeat' first
    | with_reducible assumption
    | (extract_lets +onlyGivenNames x
       first
       | (refine okStep (s0 := s0) (x := x) (fun hx => ?_) ?_; clear_value x; rotate_left; subst x)
       | subst x)
    | with_reducible refine Ok.ite ?_ ?_
    | intro _ _ _
    | intro _ _
    | split
    | (simp only [ok_lit]; with_reducible refine OkLit.of ?_ ?_ ?_ ?_ ?_ ?_ ?_ ?_ ?_)
    | exact fun h => h
    | exact fun _ => rfl
    | exact Nat.le_refl _
    | dsimp only
    | dsimp only [id]

theorem assertPerst_ok {s0 : State} {p : Port} {s : State} (hok : Ok s0 s) :
    Ok s0 (assertPerst p s) := by
  unfold assertPerst
  repeat' first
    | with_reducible assumption
    | (extract_lets +onlyGivenNames x
       first
       | (refine okStep (s0 := s0) (x := x) (fun hx => ?_) ?_; clear_value x; rotate_left; subst x)
       | subst x)
    | with_reducible refine Ok.ite ?_ ?_
    | with_reducible apply abortPort_ok
    | with_reducible apply releaseCaptures_ok
    | with_reducible apply bootStops_ok
    | with_reducible apply dropDoe_ok
    | with_reducible apply dropLink_ok
    | with_reducible apply awaitFallback_ok
    | with_reducible apply modPort_ok
    | with_reducible refine Ok.ofPair ?_ (by with_reducible assumption)
    | intro _ _ _
    | intro _ _
    | split
    | (simp only [ok_lit]; with_reducible refine OkLit.of ?_ ?_ ?_ ?_ ?_ ?_ ?_ ?_ ?_)
    | exact fun h => h
    | exact fun _ => rfl
    | exact Nat.le_refl _
    | dsimp only
    | dsimp only [id]
    | (intro hl; simp [hl]; done)

theorem execPerstAssert_ok {s0 : State} {p : Port} {s : State} (hok : Ok s0 s) :
    OutOk s0 (execPerstAssert p s) := by
  unfold execPerstAssert
  refine ⟨_, rfl, ?_⟩
  repeat' first
    | with_reducible assumption
    | with_reducible refine Ok.ite ?_ ?_
    | with_reducible apply assertPerst_ok
    | intro _ _ _
    | intro _ _
    | split
    | dsimp only
    | dsimp only [id]

theorem beginTraining_ok {s0 : State} {p : Port} {s : State} (hok : Ok s0 s) :
    Ok s0 (beginTraining p s) := by
  unfold beginTraining
  repeat' first
    | with_reducible assumption
    | (extract_lets +onlyGivenNames x
       first
       | (refine okStep (s0 := s0) (x := x) (fun hx => ?_) ?_; clear_value x; rotate_left; subst x)
       | subst x)
    | with_reducible refine Ok.ite ?_ ?_
    | with_reducible apply emit_ok
    | with_reducible apply modPort_ok
    | intro _ _ _
    | intro _ _
    | split
    | (simp only [ok_lit]; with_reducible refine OkLit.of ?_ ?_ ?_ ?_ ?_ ?_ ?_ ?_ ?_)
    | exact fun h => h
    | exact fun _ => rfl
    | exact Nat.le_refl _
    | dsimp only
    | dsimp only [id]

theorem deassertPerst_ok {s0 : State} {p : Port} {s : State} (hok : Ok s0 s) :
    Ok s0 (deassertPerst p s) := by
  unfold deassertPerst
  repeat' first
    | with_reducible assumption
    | (extract_lets +onlyGivenNames x
       first
       | (refine okStep (s0 := s0) (x := x) (fun hx => ?_) ?_; clear_value x; rotate_left; subst x)
       | subst x)
    | with_reducible refine Ok.ite ?_ ?_
    | with_reducible apply wake_ok
    | with_reducible apply emit_ok
    | with_reducible apply modPort_ok
    | with_reducible apply beginTraining_ok
    | intro _ _ _
    | intro _ _
    | split
    | (simp only [ok_lit]; with_reducible refine OkLit.of ?_ ?_ ?_ ?_ ?_ ?_ ?_ ?_ ?_)
    | exact fun h => h
    | exact fun _ => rfl
    | exact Nat.le_refl _
    | dsimp only
    | dsimp only [id]

theorem execPerstDeassert_ok {s0 : State} {p : Port} {s : State} (hok : Ok s0 s) :
    OutOk s0 (execPerstDeassert p s) := by
  unfold execPerstDeassert
  refine ⟨_, rfl, ?_⟩
  repeat' first
    | with_reducible assumption
    | with_reducible refine Ok.ite ?_ ?_
    | with_reducible apply deassertPerst_ok
    | intro _ _ _
    | intro _ _
    | split
    | dsimp only
    | dsimp only [id]

theorem returnL0_ok {s0 : State} {p : Port} {s : State} (hok : Ok s0 s) :
    Ok s0 (returnL0 p s) := by
  unfold returnL0
  repeat' first
    | with_reducible assumption
    | (extract_lets +onlyGivenNames x
       first
       | (refine okStep (s0 := s0) (x := x) (fun hx => ?_) ?_; clear_value x; rotate_left; subst x)
       | subst x)
    | with_reducible refine Ok.ite ?_ ?_
    | with_reducible apply modPort_ok
    | with_reducible apply foldState_ok
    | with_reducible apply emit_ok
    | with_reducible apply modCfg_ok
    | (intro x hx; (repeat' split) <;> exact ⟨hx.command, hx.devCtl, hx.devCtl2, hx.bar0⟩)
    | intro _ _ _
    | intro _ _
    | split
    | (simp only [ok_lit]; with_reducible refine OkLit.of ?_ ?_ ?_ ?_ ?_ ?_ ?_ ?_ ?_)
    | exact fun h => h
    | exact fun _ => rfl
    | exact Nat.le_refl _
    | dsimp only
    | dsimp only [id]

theorem presentFns_ok {s0 : State} {p : Port} {s : State} (hok : Ok s0 s) :
    Ok s0 (presentFns p s) := by
  unfold presentFns
  repeat' first
    | with_reducible assumption
    | (extract_lets +onlyGivenNames x
       first
       | (refine okStep (s0 := s0) (x := x) (fun hx => ?_) ?_; clear_value x; rotate_left; subst x)
       | subst x)
    | with_reducible refine Ok.ite ?_ ?_
    | with_reducible apply foldState_ok
    | with_reducible apply modFn_ok
    | (intro x hx; (repeat' split) <;> refine ⟨?_, ?_, ?_, ?_⟩ <;> first | exact hx.cfg | exact hx.admin | exact hx.faultq | exact hx.int | exact CfgOk.init _ | exact AdminOk.init | exact FaultqOk.init | exact IntOk.init | exact ⟨hx.int.delay, hx.int.masks⟩)
    | intro _ _ _
    | intro _ _
    | split
    | (simp only [ok_lit]; with_reducible refine OkLit.of ?_ ?_ ?_ ?_ ?_ ?_ ?_ ?_ ?_)
    | exact fun h => h
    | exact fun _ => rfl
    | exact Nat.le_refl _
    | dsimp only
    | dsimp only [id]
    | (intro hl; simp [hl]; done)

theorem execPortLinkUp_ok {s0 : State} {p : Port} {width speed : Nat} {s : State} (hok : Ok s0 s) :
    OutOk s0 (execPortLinkUp p width speed s) := by
  unfold execPortLinkUp
  refine ⟨_, rfl, ?_⟩
  repeat' first
    | with_reducible assumption
    | (extract_lets +onlyGivenNames x
       first
       | (refine okStep (s0 := s0) (x := x) (fun hx => ?_) ?_; clear_value x; rotate_left; subst x)
       | subst x)
    | with_reducible refine Ok.ite ?_ ?_
    | with_reducible apply returnL0_ok
    | with_reducible apply presentFns_ok
    | with_reducible apply modPort_ok
    | intro _ _ _
    | intro _ _
    | split
    | (simp only [ok_lit]; with_reducible refine OkLit.of ?_ ?_ ?_ ?_ ?_ ?_ ?_ ?_ ?_)
    | exact fun h => h
    | exact fun _ => rfl
    | exact Nat.le_refl _
    | dsimp only
    | dsimp only [id]

theorem execLinkL0Return_ok {s0 : State} {p : Port} {s : State} (hok : Ok s0 s) :
    OutOk s0 (execLinkL0Return p s) := by
  unfold execLinkL0Return
  refine ⟨_, rfl, ?_⟩
  repeat' first
    | with_reducible assumption
    | (extract_lets +onlyGivenNames x
       first
       | (refine okStep (s0 := s0) (x := x) (fun hx => ?_) ?_; clear_value x; rotate_left; subst x)
       | subst x)
    | with_reducible apply returnL0_ok
    | intro _ _ _
    | intro _ _
    | split
    | (simp only [ok_lit]; with_reducible refine OkLit.of ?_ ?_ ?_ ?_ ?_ ?_ ?_ ?_ ?_)
    | exact fun h => h
    | exact fun _ => rfl
    | exact Nat.le_refl _
    | dsimp only
    | dsimp only [id]

theorem removePort_ok {s0 : State} {p : Port} {s : State} (hok : Ok s0 s) :
    Ok s0 (removePort p s) := by
  unfold removePort
  repeat' first
    | with_reducible assumption
    | (extract_lets +onlyGivenNames x
       first
       | (refine okStep (s0 := s0) (x := x) (fun hx => ?_) ?_; clear_value x; rotate_left; subst x)
       | subst x)
    | with_reducible refine Ok.ite ?_ ?_
    | with_reducible apply dropDoe_ok
    | with_reducible apply dropLink_ok
    | with_reducible apply abortPort_ok
    | with_reducible apply awaitFallback_ok
    | with_reducible apply countPort_ok
    | intro _ _ _
    | intro _ _
    | split
    | dsimp only
    | dsimp only [id]

theorem execSurpriseRemoval_ok {s0 : State} {p : Port} {s : State} (hok : Ok s0 s) :
    OutOk s0 (execSurpriseRemoval p s) := by
  unfold execSurpriseRemoval
  refine ⟨_, rfl, ?_⟩
  repeat' first
    | with_reducible assumption
    | with_reducible refine Ok.ite ?_ ?_
    | with_reducible apply dropLink_ok
    | with_reducible apply removePort_ok
    | intro _ _ _
    | intro _ _
    | split
    | dsimp only
    | dsimp only [id]

theorem execMalformedTlp_ok {s0 : State} {p : Port} {kind : TlpFault} {s : State} (hok : Ok s0 s) :
    OutOk s0 (execMalformedTlp p kind s) := by
  unfold execMalformedTlp
  refine ⟨_, rfl, ?_⟩
  repeat' first
    | with_reducible assumption
    | with_reducible refine Ok.ite ?_ ?_
    | with_reducible apply removePort_ok
    | with_reducible apply aerUncorrectable_ok
    | intro _ _ _
    | intro _ _
    | split
    | dsimp only
    | dsimp only [id]

theorem resetCfg0_ok {s0 : State} {p : Port} {s : State} (hok : Ok s0 s) :
    Ok s0 (resetCfg0 p s) := by
  unfold resetCfg0
  repeat' first
    | with_reducible assumption
    | (extract_lets +onlyGivenNames x
       first
       | (refine okStep (s0 := s0) (x := x) (fun hx => ?_) ?_; clear_value x; rotate_left; subst x)
       | subst x)
    | with_reducible refine Ok.ite ?_ ?_
    | with_reducible apply modFn_ok
    | with_reducible apply stallBegins_ok
    | with_reducible apply clearFnCounters_ok
    | with_reducible apply dropAts_ok
    | with_reducible apply settleIntx_ok
    | (intro x hx; (repeat' split) <;> refine ⟨?_, ?_, ?_, ?_⟩ <;> first | exact hx.cfg | exact hx.admin | exact hx.faultq | exact hx.int | exact CfgOk.init _ | exact AdminOk.init | exact FaultqOk.init | exact IntOk.init | exact ⟨hx.int.delay, hx.int.masks⟩)
    | intro _ _ _
    | intro _ _
    | split
    | (simp only [ok_lit]; with_reducible refine OkLit.of ?_ ?_ ?_ ?_ ?_ ?_ ?_ ?_ ?_)
    | exact fun h => h
    | exact fun _ => rfl
    | exact Nat.le_refl _
    | dsimp only
    | dsimp only [id]
    | (intro hl; simp [hl]; done)

theorem hotReset_ok {s0 : State} {p : Port} {s : State} (hok : Ok s0 s) :
    Ok s0 (hotReset p s) := by
  unfold hotReset
  repeat' first
    | with_reducible assumption
    | (extract_lets +onlyGivenNames x
       first
       | (refine okStep (s0 := s0) (x := x) (fun hx => ?_) ?_; clear_value x; rotate_left; subst x)
       | subst x)
    | with_reducible refine Ok.ite ?_ ?_
    | with_reducible apply countPort_ok
    | with_reducible apply foldState_ok
    | with_reducible apply abortFn_ok
    | with_reducible apply dropDoe_ok
    | with_reducible apply resetCfg0_ok
    | intro _ _ _
    | intro _ _
    | split
    | dsimp only
    | dsimp only [id]
    | (intro hl; simp [hl]; done)

theorem execHotReset_ok {s0 : State} {p : Port} {s : State} (hok : Ok s0 s) :
    OutOk s0 (execHotReset p s) := by
  unfold execHotReset
  refine ⟨_, rfl, ?_⟩
  repeat' first
    | with_reducible assumption
    | with_reducible refine Ok.ite ?_ ?_
    | with_reducible apply hotReset_ok
    | intro _ _ _
    | intro _ _
    | split
    | dsimp only
    | dsimp only [id]

theorem execPmeTurnOff_ok {s0 : State} {p : Port} {s : State} (hok : Ok s0 s) :
    OutOk s0 (execPmeTurnOff p s) := by
  unfold execPmeTurnOff
  refine ⟨_, rfl, ?_⟩
  repeat' first
    | with_reducible assumption
    | (extract_lets +onlyGivenNames x
       first
       | (refine okStep (s0 := s0) (x := x) (fun hx => ?_) ?_; clear_value x; rotate_left; subst x)
       | subst x)
    | with_reducible refine Ok.ite ?_ ?_
    | with_reducible apply modPort_ok
    | intro _ _ _
    | intro _ _
    | split
    | (simp only [ok_lit]; with_reducible refine OkLit.of ?_ ?_ ?_ ?_ ?_ ?_ ?_ ?_ ?_)
    | exact fun h => h
    | exact fun _ => rfl
    | exact Nat.le_refl _
    | dsimp only
    | dsimp only [id]

theorem execPmeToAck_ok {s0 : State} {p : Port} {s : State} (hok : Ok s0 s) :
    OutOk s0 (execPmeToAck p s) := by
  unfold execPmeToAck
  refine ⟨_, rfl, ?_⟩
  repeat' first
    | with_reducible assumption
    | (extract_lets +onlyGivenNames x
       first
       | (refine okStep (s0 := s0) (x := x) (fun hx => ?_) ?_; clear_value x; rotate_left; subst x)
       | subst x)
    | with_reducible refine Ok.ite ?_ ?_
    | with_reducible apply emit_ok
    | with_reducible apply linkLeavesL0_ok
    | with_reducible apply modPort_ok
    | intro _ _ _
    | intro _ _
    | split
    | (simp only [ok_lit]; with_reducible refine OkLit.of ?_ ?_ ?_ ?_ ?_ ?_ ?_ ?_ ?_)
    | exact fun h => h
    | exact fun _ => rfl
    | exact Nat.le_refl _
    | dsimp only
    | dsimp only [id]

theorem execFlitModeRefused_ok {s0 : State} {p : Port} {s : State} (hok : Ok s0 s) :
    OutOk s0 (execFlitModeRefused p s) := by
  unfold execFlitModeRefused
  refine ⟨_, rfl, ?_⟩
  repeat' first
    | with_reducible assumption
    | (extract_lets +onlyGivenNames x
       first
       | (refine okStep (s0 := s0) (x := x) (fun hx => ?_) ?_; clear_value x; rotate_left; subst x)
       | subst x)
    | with_reducible refine Ok.ite ?_ ?_
    | with_reducible apply countPort_ok
    | with_reducible apply modPort_ok
    | intro _ _ _
    | intro _ _
    | split
    | (simp only [ok_lit]; with_reducible refine OkLit.of ?_ ?_ ?_ ?_ ?_ ?_ ?_ ?_ ?_)
    | exact fun h => h
    | exact fun _ => rfl
    | exact Nat.le_refl _
    | dsimp only
    | dsimp only [id]

theorem execLinkRecovery_ok {s0 : State} {p : Port} {width : Nat} {s : State} (hok : Ok s0 s) :
    OutOk s0 (execLinkRecovery p width s) := by
  unfold execLinkRecovery
  refine ⟨_, rfl, ?_⟩
  repeat' first
    | with_reducible assumption
    | (extract_lets +onlyGivenNames x
       first
       | (refine okStep (s0 := s0) (x := x) (fun hx => ?_) ?_; clear_value x; rotate_left; subst x)
       | subst x)
    | with_reducible refine Ok.ite ?_ ?_
    | with_reducible apply linkLeavesL0_ok
    | with_reducible apply modPort_ok
    | intro _ _ _
    | intro _ _
    | split
    | (simp only [ok_lit]; with_reducible refine OkLit.of ?_ ?_ ?_ ?_ ?_ ?_ ?_ ?_ ?_)
    | exact fun h => h
    | exact fun _ => rfl
    | exact Nat.le_refl _
    | dsimp only
    | dsimp only [id]

theorem execAspmL1Entry_ok {s0 : State} {p : Port} {s : State} (hok : Ok s0 s) :
    OutOk s0 (execAspmL1Entry p s) := by
  unfold execAspmL1Entry
  refine ⟨_, rfl, ?_⟩
  repeat' first
    | with_reducible assumption
    | (extract_lets +onlyGivenNames x
       first
       | (refine okStep (s0 := s0) (x := x) (fun hx => ?_) ?_; clear_value x; rotate_left; subst x)
       | subst x)
    | with_reducible refine Ok.ite ?_ ?_
    | with_reducible apply linkLeavesL0_ok
    | with_reducible apply modPort_ok
    | intro _ _ _
    | intro _ _
    | split
    | (simp only [ok_lit]; with_reducible refine OkLit.of ?_ ?_ ?_ ?_ ?_ ?_ ?_ ?_ ?_)
    | exact fun h => h
    | exact fun _ => rfl
    | exact Nat.le_refl _
    | dsimp only
    | dsimp only [id]

theorem execDoeDiscovery_ok {s0 : State} {p : Port} {index : U8} {s : State} (hok : Ok s0 s) :
    OutOk s0 (execDoeDiscovery p index s) := by
  unfold execDoeDiscovery
  refine ⟨_, rfl, ?_⟩
  repeat' first
    | with_reducible assumption
    | (extract_lets +onlyGivenNames x
       first
       | (refine okStep (s0 := s0) (x := x) (fun hx => ?_) ?_; clear_value x; rotate_left; subst x)
       | subst x)
    | with_reducible apply cfgWrite_ok
    | with_reducible apply emit_ok
    | intro _ _ _
    | intro _ _
    | split
    | (simp only [ok_lit]; with_reducible refine OkLit.of ?_ ?_ ?_ ?_ ?_ ?_ ?_ ?_ ?_)
    | exact fun h => h
    | exact fun _ => rfl
    | exact Nat.le_refl _
    | dsimp only
    | dsimp only [id]

theorem setFnEnable_ok {s0 : State} {g : Fun} {v : Bool} {s : State} (hok : Ok s0 s) :
    Ok s0 (setFnEnable g v s) := by
  unfold setFnEnable
  repeat' first
    | with_reducible assumption
    | (extract_lets +onlyGivenNames x
       first
       | (refine okStep (s0 := s0) (x := x) (fun hx => ?_) ?_; clear_value x; rotate_left; subst x)
       | subst x)
    | with_reducible refine Ok.ite ?_ ?_
    | with_reducible apply putObj_ok
    | with_reducible apply abortFn_ok
    | with_reducible apply modFn_ok
    | (intro x hx; (repeat' split) <;> refine ⟨?_, ?_, ?_, ?_⟩ <;> first | exact hx.cfg | exact hx.admin | exact hx.faultq | exact hx.int | exact CfgOk.init _ | exact AdminOk.init | exact FaultqOk.init | exact IntOk.init | exact ⟨hx.int.delay, hx.int.masks⟩)
    | intro _ _ _
    | intro _ _
    | split
    | (simp only [ok_lit]; with_reducible refine OkLit.of ?_ ?_ ?_ ?_ ?_ ?_ ?_ ?_ ?_)
    | exact fun h => h
    | exact fun _ => rfl
    | exact Nat.le_refl _
    | dsimp only
    | dsimp only [id]
    | (intro hl; simp [hl]; done)

theorem execFunctionEnableWrite_ok {s0 : State} {rq : Requester} {g : Fun} {v : Bool} {s : State} (hok : Ok s0 s) :
    OutOk s0 (execFunctionEnableWrite rq g v s) := by
  unfold execFunctionEnableWrite
  refine ⟨_, rfl, ?_⟩
  repeat' first
    | with_reducible assumption
    | with_reducible refine Ok.ite ?_ ?_
    | with_reducible apply requestWrite_ok
    | with_reducible apply setFnEnable_ok
    | intro _ _ _
    | intro _ _
    | split
    | dsimp only
    | dsimp only [id]

theorem setPortEnable_ok {s0 : State} {p : Port} {v : Bool} {s : State} (hok : Ok s0 s) :
    Ok s0 (setPortEnable p v s) := by
  unfold setPortEnable
  repeat' first
    | with_reducible assumption
    | (extract_lets +onlyGivenNames x
       first
       | (refine okStep (s0 := s0) (x := x) (fun hx => ?_) ?_; clear_value x; rotate_left; subst x)
       | subst x)
    | with_reducible refine Ok.ite ?_ ?_
    | with_reducible apply putObj_ok
    | with_reducible apply dropDoe_ok
    | with_reducible apply dropLink_ok
    | with_reducible apply abortPort_ok
    | with_reducible apply beginTraining_ok
    | intro _ _ _
    | intro _ _
    | split
    | dsimp only
    | dsimp only [id]

theorem execPortEnableWrite_ok {s0 : State} {rq : Requester} {p : Port} {v : Bool} {s : State} (hok : Ok s0 s) :
    OutOk s0 (execPortEnableWrite rq p v s) := by
  unfold execPortEnableWrite
  refine ⟨_, rfl, ?_⟩
  repeat' first
    | with_reducible assumption
    | with_reducible refine Ok.ite ?_ ?_
    | with_reducible apply requestWrite_ok
    | with_reducible apply setPortEnable_ok
    | intro _ _ _
    | intro _ _
    | split
    | dsimp only
    | dsimp only [id]

theorem modPort0_ok {s0 : State} {f : Port0St → Port0St} {s : State} (hok : Ok s0 s) :
    Ok s0 (modPort0 f s) := by
  unfold modPort0
  repeat' first
    | with_reducible assumption
    | (extract_lets +onlyGivenNames x
       first
       | (refine okStep (s0 := s0) (x := x) (fun hx => ?_) ?_; clear_value x; rotate_left; subst x)
       | subst x)
    | intro _ _ _
    | intro _ _
    | (simp only [ok_lit]; with_reducible refine OkLit.of ?_ ?_ ?_ ?_ ?_ ?_ ?_ ?_ ?_)
    | exact fun h => h
    | exact fun _ => rfl
    | exact Nat.le_refl _
    | dsimp only
    | dsimp only [id]

theorem linkNonceOut_ok {s0 : State} {s : State} (hok : Ok s0 s) :
    Ok s0 (linkNonceOut s) := by
  unfold linkNonceOut
  repeat' first
    | with_reducible assumption
    | (extract_lets +onlyGivenNames x
       first
       | (refine okStep (s0 := s0) (x := x) (fun hx => ?_) ?_; clear_value x; rotate_left; subst x)
       | (refine okStep (s0 := s0) (x := x.1) (fun hx => ?_) ?_; clear_value x; rotate_left; subst x)
       | subst x)
    | with_reducible refine Ok.ite ?_ ?_
    | with_reducible apply drawNonce_ok
    | with_reducible apply emit_ok
    | with_reducible apply modPort0_ok
    | intro _ _ _
    | intro _ _
    | split
    | (simp only [ok_lit]; with_reducible refine OkLit.of ?_ ?_ ?_ ?_ ?_ ?_ ?_ ?_ ?_)
    | exact fun h => h
    | exact fun _ => rfl
    | exact Nat.le_refl _
    | dsimp only
    | dsimp only [id]

theorem loadLanes_ok {s0 : State} {nd : Bytes} {s : State} (hok : Ok s0 s) :
    Ok s0 (loadLanes nd s) := by
  unfold loadLanes
  repeat' first
    | with_reducible assumption
    | (extract_lets +onlyGivenNames x
       first
       | (refine okStep (s0 := s0) (x := x) (fun hx => ?_) ?_; clear_value x; rotate_left; subst x)
       | subst x)
    | intro _ _ _
    | intro _ _
    | (simp only [ok_lit]; with_reducible refine OkLit.of ?_ ?_ ?_ ?_ ?_ ?_ ?_ ?_ ?_)
    | exact fun h => h
    | exact fun _ => rfl
    | exact Nat.le_refl _
    | dsimp only
    | dsimp only [id]

theorem requestMain_ok {s0 : State} {s : State} (hok : Ok s0 s) :
    Ok s0 (requestMain s) := by
  unfold requestMain
  repeat' first
    | with_reducible assumption
    | (extract_lets +onlyGivenNames x
       first
       | (refine okStep (s0 := s0) (x := x) (fun hx => ?_) ?_; clear_value x; rotate_left; subst x)
       | subst x)
    | with_reducible refine Ok.ite ?_ ?_
    | with_reducible apply putObj_ok
    | with_reducible apply linkNonceOut_ok
    | with_reducible apply modPort0_ok
    | with_reducible apply linkLeavesL0_ok
    | intro _ _ _
    | intro _ _
    | split
    | (simp only [ok_lit]; with_reducible refine OkLit.of ?_ ?_ ?_ ?_ ?_ ?_ ?_ ?_ ?_)
    | exact fun h => h
    | exact fun _ => rfl
    | exact Nat.le_refl _
    | dsimp only
    | dsimp only [id]

theorem execPort0ModeMain_ok {s0 : State} {rq : Requester} {s : State} (hok : Ok s0 s) :
    OutOk s0 (execPort0ModeMain rq s) := by
  unfold execPort0ModeMain
  refine ⟨_, rfl, ?_⟩
  repeat' first
    | with_reducible assumption
    | with_reducible apply requestWrite_ok
    | with_reducible apply requestMain_ok
    | intro _ _ _
    | intro _ _
    | dsimp only
    | dsimp only [id]

theorem fallBack_ok {s0 : State} {s : State} (hok : Ok s0 s) :
    Ok s0 (fallBack s) := by
  unfold fallBack
  repeat' first
    | with_reducible assumption
    | (extract_lets +onlyGivenNames x
       first
       | (refine okStep (s0 := s0) (x := x) (fun hx => ?_) ?_; clear_value x; rotate_left; subst x)
       | subst x)
    | with_reducible apply linkNonceOut_ok
    | with_reducible apply modPort0_ok
    | with_reducible apply linkLeavesL0_ok
    | with_reducible apply raiseError_ok
    | intro _ _ _
    | intro _ _
    | (simp only [ok_lit]; with_reducible refine OkLit.of ?_ ?_ ?_ ?_ ?_ ?_ ?_ ?_ ?_)
    | exact fun h => h
    | exact fun _ => rfl
    | exact Nat.le_refl _
    | dsimp only
    | dsimp only [id]

theorem requestFallback_ok {s0 : State} {s : State} (hok : Ok s0 s) :
    Ok s0 (requestFallback s) := by
  unfold requestFallback
  repeat' first
    | with_reducible assumption
    | (extract_lets +onlyGivenNames x
       first
       | (refine okStep (s0 := s0) (x := x) (fun hx => ?_) ?_; clear_value x; rotate_left; subst x)
       | subst x)
    | with_reducible refine Ok.ite ?_ ?_
    | with_reducible apply putObj_ok
    | with_reducible apply fallBack_ok
    | with_reducible apply modPort0_ok
    | intro _ _ _
    | intro _ _
    | split
    | (simp only [ok_lit]; with_reducible refine OkLit.of ?_ ?_ ?_ ?_ ?_ ?_ ?_ ?_ ?_)
    | exact fun h => h
    | exact fun _ => rfl
    | exact Nat.le_refl _
    | dsimp only
    | dsimp only [id]

theorem execPort0ModeFallback_ok {s0 : State} {rq : Requester} {s : State} (hok : Ok s0 s) :
    OutOk s0 (execPort0ModeFallback rq s) := by
  unfold execPort0ModeFallback
  refine ⟨_, rfl, ?_⟩
  repeat' first
    | with_reducible assumption
    | with_reducible apply requestWrite_ok
    | with_reducible apply requestFallback_ok
    | intro _ _ _
    | intro _ _
    | dsimp only
    | dsimp only [id]

theorem trainingDone_ok {s0 : State} {groups : U8} {nd : Bytes} {s : State} (hok : Ok s0 s) :
    Ok s0 (trainingDone groups nd s) := by
  unfold trainingDone
  repeat' first
    | with_reducible assumption
    | (extract_lets +onlyGivenNames x
       first
       | (refine okStep (s0 := s0) (x := x) (fun hx => ?_) ?_; clear_value x; rotate_left; subst x)
       | (refine okStep (s0 := s0) (x := x.1) (fun hx => ?_) ?_; clear_value x; rotate_left; subst x)
       | subst x)
    | with_reducible refine Ok.ite ?_ ?_
    | with_reducible apply linkNonceOut_ok
    | with_reducible apply loadLanes_ok
    | with_reducible apply modPort0_ok
    | with_reducible apply fallBack_ok
    | with_reducible apply returnL0_ok
    | with_reducible apply modPort_ok
    | intro _ _ _
    | intro _ _
    | split
    | (simp only [ok_lit]; with_reducible refine OkLit.of ?_ ?_ ?_ ?_ ?_ ?_ ?_ ?_ ?_)
    | exact fun h => h
    | exact fun _ => rfl
    | exact Nat.le_refl _
    | dsimp only
    | dsimp only [id]
    | (intro hl; simp [hl]; done)

theorem execPort0TrainingDone_ok {s0 : State} {e : TrainingEnd} {s : State} (hok : Ok s0 s) :
    OutOk s0 (execPort0TrainingDone e s) := by
  unfold execPort0TrainingDone
  refine ⟨_, rfl, ?_⟩
  repeat' first
    | with_reducible assumption
    | with_reducible apply trainingDone_ok
    | intro _ _ _
    | intro _ _
    | dsimp only
    | dsimp only [id]

theorem groupFails_ok {s0 : State} {k : Fin 8} {s : State} (hok : Ok s0 s) :
    Ok s0 (groupFails k s) := by
  unfold groupFails
  repeat' first
    | with_reducible assumption
    | (extract_lets +onlyGivenNames x
       first
       | (refine okStep (s0 := s0) (x := x) (fun hx => ?_) ?_; clear_value x; rotate_left; subst x)
       | subst x)
    | with_reducible refine Ok.ite ?_ ?_
    | with_reducible apply fallBack_ok
    | with_reducible apply modPort0_ok
    | intro _ _ _
    | intro _ _
    | split
    | (simp only [ok_lit]; with_reducible refine OkLit.of ?_ ?_ ?_ ?_ ?_ ?_ ?_ ?_ ?_)
    | exact fun h => h
    | exact fun _ => rfl
    | exact Nat.le_refl _
    | dsimp only
    | dsimp only [id]
    | (intro hl; simp [hl]; done)

theorem execPort0GroupRetrainFailed_ok {s0 : State} {k : Fin 8} {s : State} (hok : Ok s0 s) :
    OutOk s0 (execPort0GroupRetrainFailed k s) := by
  unfold execPort0GroupRetrainFailed
  refine ⟨_, rfl, ?_⟩
  repeat' first
    | with_reducible assumption
    | with_reducible apply groupFails_ok
    | intro _ _ _
    | intro _ _
    | dsimp only
    | dsimp only [id]

theorem execPort0LinkDown_ok {s0 : State} {s : State} (hok : Ok s0 s) :
    OutOk s0 (execPort0LinkDown s) := by
  unfold execPort0LinkDown
  refine ⟨_, rfl, ?_⟩
  repeat' first
    | with_reducible assumption
    | (extract_lets +onlyGivenNames x
       first
       | (refine okStep (s0 := s0) (x := x) (fun hx => ?_) ?_; clear_value x; rotate_left; subst x)
       | subst x)
    | with_reducible refine Ok.ite ?_ ?_
    | with_reducible apply raiseError_ok
    | with_reducible apply dropLink_ok
    | with_reducible apply modPort0_ok
    | intro _ _ _
    | intro _ _
    | split
    | (simp only [ok_lit]; with_reducible refine OkLit.of ?_ ?_ ?_ ?_ ?_ ?_ ?_ ?_ ?_)
    | exact fun h => h
    | exact fun _ => rfl
    | exact Nat.le_refl _
    | dsimp only
    | dsimp only [id]

theorem fallbackTrained_ok {s0 : State} {nd : Bytes} {s : State} (hok : Ok s0 s) :
    Ok s0 (fallbackTrained nd s) := by
  unfold fallbackTrained
  repeat' first
    | with_reducible assumption
    | (extract_lets +onlyGivenNames x
       first
       | (refine okStep (s0 := s0) (x := x) (fun hx => ?_) ?_; clear_value x; rotate_left; subst x)
       | subst x)
    | with_reducible refine Ok.ite ?_ ?_
    | with_reducible apply linkNonceOut_ok
    | with_reducible apply loadLanes_ok
    | with_reducible apply modPort0_ok
    | with_reducible apply returnL0_ok
    | with_reducible apply presentFns_ok
    | with_reducible apply modPort_ok
    | intro _ _ _
    | intro _ _
    | split
    | (simp only [ok_lit]; with_reducible refine OkLit.of ?_ ?_ ?_ ?_ ?_ ?_ ?_ ?_ ?_)
    | exact fun h => h
    | exact fun _ => rfl
    | exact Nat.le_refl _
    | dsimp only
    | dsimp only [id]

theorem execPort0FallbackTrained_ok {s0 : State} {nd : Bytes} {s : State} (hok : Ok s0 s) :
    OutOk s0 (execPort0FallbackTrained nd s) := by
  unfold execPort0FallbackTrained
  refine ⟨_, rfl, ?_⟩
  repeat' first
    | with_reducible assumption
    | with_reducible apply fallbackTrained_ok
    | intro _ _ _
    | intro _ _
    | dsimp only
    | dsimp only [id]

end Sys2Proof.Machine
end

