-- ==== Sys2Proof/Laws/KeepsPackage.lean ====
section
/-!
SUPPORT. What every command keeps (`Ok`), update by update: power, errors, management, security, bring-up, register writes and resets.
Each lemma follows its definition: one let at a time, one branch at a time, and the lemma of each operation that it calls.
-/
set_option linter.unusedSimpArgs false

namespace Sys2Proof.Machine

/-! ### Machine/Power.lean -/

theorem modSec_ok {s0 : State} {f : SecSt → SecSt} {s : State}
    (hf : s.sec.mr.length = 4 → (f s.sec).mr.length = 4) (hok : Ok s0 s) : Ok s0 (modSec f s) :=
  OkLit.of hok id id id id id hf id (Nat.le_refl _)

theorem switchNext_ok {s0 : State} {s : State} (hok : Ok s0 s) :
    Ok s0 (switchNext s) := by
  unfold switchNext
  repeat' first
    | with_reducible assumption
    | (extract_lets +onlyGivenNames x
       first
       | (refine okStep (s0 := s0) (x := x) (fun hx => ?_) ?_; clear_value x; rotate_left; subst x)
       | subst x)
    | with_reducible refine Ok.ite ?_ ?_
    | with_reducible apply modPower_ok
    | with_reducible refine Ok.ofPair ?_ (by with_reducible assumption)
    | intro _ _ _
    | intro _ _
    | split
    | (simp only [ok_lit]; with_reducible refine OkLit.of ?_ ?_ ?_ ?_ ?_ ?_ ?_ ?_ ?_)
    | exact fun h => h
    | exact fun _ => rfl
    | exact Nat.le_refl _
    | dsimp only
    | dsimp only [id]

theorem execDomainSwitchStart_ok {s0 : State} {s : State} (hok : Ok s0 s) :
    OutOk s0 (execDomainSwitchStart s) := by
  unfold execDomainSwitchStart
  refine ⟨_, rfl, ?_⟩
  repeat' first
    | with_reducible assumption
    | with_reducible apply switchNext_ok
    | intro _ _ _
    | intro _ _
    | dsimp only
    | dsimp only [id]

theorem peersDown_ok {s0 : State} {s : State} (hok : Ok s0 s) :
    Ok s0 (peersDown s) := by
  unfold peersDown
  repeat' first
    | with_reducible assumption
    | with_reducible refine Ok.ite ?_ ?_
    | with_reducible apply foldState_ok
    | with_reducible apply goDown_ok
    | intro _ _ _
    | intro _ _
    | split
    | dsimp only
    | dsimp only [id]

theorem forgetLane_ok {s0 : State} {d : Nat} {s : State} (hok : Ok s0 s) :
    Ok s0 (forgetLane d s) := by
  unfold forgetLane
  repeat' first
    | with_reducible assumption
    | (extract_lets +onlyGivenNames x
       first
       | (refine okStep (s0 := s0) (x := x) (fun hx => ?_) ?_; clear_value x; rotate_left; subst x)
       | subst x)
    | with_reducible refine Ok.ite ?_ ?_
    | intro _ _ _
    | intro _ _
    | split
    | (simp only [ok_lit]; with_reducible refine OkLit.of ?_ ?_ ?_ ?_ ?_ ?_ ?_ ?_ ?_)
    | exact fun h => h
    | exact fun _ => rfl
    | exact Nat.le_refl _
    | dsimp only
    | dsimp only [id]
    | (intro hl; simp [hl]; done)

theorem switchDone_ok {s0 : State} {s : State} (hok : Ok s0 s) :
    Ok s0 (switchDone s) := by
  unfold switchDone
  repeat' first
    | with_reducible assumption
    | (extract_lets +onlyGivenNames x
       first
       | (refine okStep (s0 := s0) (x := x) (fun hx => ?_) ?_; clear_value x; rotate_left; subst x)
       | subst x)
    | with_reducible refine Ok.ite ?_ ?_
    | with_reducible apply modPower_ok
    | with_reducible apply forgetLane_ok
    | with_reducible apply peersDown_ok
    | with_reducible refine Ok.ofPair ?_ (by with_reducible assumption)
    | intro _ _ _
    | intro _ _
    | split
    | (simp only [ok_lit]; with_reducible refine OkLit.of ?_ ?_ ?_ ?_ ?_ ?_ ?_ ?_ ?_)
    | exact fun h => h
    | exact fun _ => rfl
    | exact Nat.le_refl _
    | dsimp only
    | dsimp only [id]
    | (intro hl; simp [hl]; done)

theorem execDomainSwitchDone_ok {s0 : State} {s : State} (hok : Ok s0 s) :
    OutOk s0 (execDomainSwitchDone s) := by
  unfold execDomainSwitchDone
  refine ⟨_, rfl, ?_⟩
  repeat' first
    | with_reducible assumption
    | with_reducible apply switchDone_ok
    | intro _ _ _
    | intro _ _
    | dsimp only
    | dsimp only [id]

theorem setWork_ok {s0 : State} {v : Bool} {s : State} (hok : Ok s0 s) :
    Ok s0 (setWork v s) := by
  unfold setWork
  repeat' first
    | with_reducible assumption
    | (extract_lets +onlyGivenNames x
       first
       | (refine okStep (s0 := s0) (x := x) (fun hx => ?_) ?_; clear_value x; rotate_left; subst x)
       | subst x)
    | with_reducible apply modPower_ok
    | intro _ _ _
    | intro _ _
    | (simp only [ok_lit]; with_reducible refine OkLit.of ?_ ?_ ?_ ?_ ?_ ?_ ?_ ?_ ?_)
    | exact fun h => h
    | exact fun _ => rfl
    | exact Nat.le_refl _
    | dsimp only
    | dsimp only [id]

theorem execWorkDomainsOnWrite_ok {s0 : State} {rq : Requester} {v : Bool} {s : State} (hok : Ok s0 s) :
    OutOk s0 (execWorkDomainsOnWrite rq v s) := by
  unfold execWorkDomainsOnWrite
  refine ⟨_, rfl, ?_⟩
  repeat' first
    | with_reducible assumption
    | with_reducible refine Ok.ite ?_ ?_
    | with_reducible apply requestWrite_ok
    | with_reducible apply setWork_ok
    | intro _ _ _
    | intro _ _
    | split
    | dsimp only
    | dsimp only [id]

theorem plainWrite_ok {s0 : State} {rq : Requester} {ref : Ref} {v : Nat} {s : State} (hok : Ok s0 s) :
    Ok s0 (plainWrite rq ref v s) := by
  unfold plainWrite
  repeat' first
    | with_reducible assumption
    | with_reducible apply requestWrite_ok
    | with_reducible apply putObj_ok
    | intro _ _ _
    | intro _ _
    | dsimp only
    | dsimp only [id]

theorem execEngineGroupEnableWrite_ok {s0 : State} {rq : Requester} {v : U8} {s : State} (hok : Ok s0 s) :
    OutOk s0 (execEngineGroupEnableWrite rq v s) := by
  unfold execEngineGroupEnableWrite
  refine ⟨_, rfl, ?_⟩
  repeat' first
    | with_reducible assumption
    | with_reducible apply plainWrite_ok
    | intro _ _ _
    | intro _ _
    | dsimp only
    | dsimp only [id]

theorem execDigestEngineEnableWrite_ok {s0 : State} {rq : Requester} {v : U8} {s : State} (hok : Ok s0 s) :
    OutOk s0 (execDigestEngineEnableWrite rq v s) := by
  unfold execDigestEngineEnableWrite
  refine ⟨_, rfl, ?_⟩
  repeat' first
    | with_reducible assumption
    | with_reducible apply plainWrite_ok
    | intro _ _ _
    | intro _ _
    | dsimp only
    | dsimp only [id]

theorem execPaldarLaneEnableWrite_ok {s0 : State} {rq : Requester} {v : U8} {s : State} (hok : Ok s0 s) :
    OutOk s0 (execPaldarLaneEnableWrite rq v s) := by
  unfold execPaldarLaneEnableWrite
  refine ⟨_, rfl, ?_⟩
  repeat' first
    | with_reducible assumption
    | with_reducible apply plainWrite_ok
    | intro _ _ _
    | intro _ _
    | dsimp only
    | dsimp only [id]

theorem execWakeFiring_ok {s0 : State} {w : WakeInput} {s : State} (hok : Ok s0 s) :
    OutOk s0 (execWakeFiring w s) := by
  unfold execWakeFiring
  refine ⟨_, rfl, ?_⟩
  repeat' first
    | with_reducible assumption
    | with_reducible apply wakeFires_ok
    | intro _ _ _
    | intro _ _
    | dsimp only
    | dsimp only [id]

theorem execGtcAlarm_ok {s0 : State} {s : State} (hok : Ok s0 s) :
    OutOk s0 (execGtcAlarm s) := by
  unfold execGtcAlarm
  refine ⟨_, rfl, ?_⟩
  repeat' first
    | with_reducible assumption
    | with_reducible refine Ok.ite ?_ ?_
    | with_reducible apply wakeFires_ok
    | intro _ _ _
    | intro _ _
    | split
    | dsimp only
    | dsimp only [id]

theorem execPkgWakereq_ok {s0 : State} {s : State} (hok : Ok s0 s) :
    OutOk s0 (execPkgWakereq s) := by
  unfold execPkgWakereq
  refine ⟨_, rfl, ?_⟩
  repeat' first
    | with_reducible assumption
    | with_reducible apply askWake_ok
    | intro _ _ _
    | intro _ _
    | dsimp only
    | dsimp only [id]

theorem execHmpWakeFrame_ok {s0 : State} {s : State} (hok : Ok s0 s) :
    OutOk s0 (execHmpWakeFrame s) := by
  unfold execHmpWakeFrame
  refine ⟨_, rfl, ?_⟩
  repeat' first
    | with_reducible assumption
    | with_reducible apply askWake_ok
    | intro _ _ _
    | intro _ _
    | dsimp only
    | dsimp only [id]

theorem requestSleep_ok {s0 : State} {s : State} (hok : Ok s0 s) :
    Ok s0 (requestSleep s) := by
  unfold requestSleep
  repeat' first
    | with_reducible assumption
    | (extract_lets +onlyGivenNames x
       first
       | (refine okStep (s0 := s0) (x := x) (fun hx => ?_) ?_; clear_value x; rotate_left; subst x)
       | subst x)
    | with_reducible refine Ok.ite ?_ ?_
    | with_reducible apply modPower_ok
    | intro _ _ _
    | intro _ _
    | split
    | (simp only [ok_lit]; with_reducible refine OkLit.of ?_ ?_ ?_ ?_ ?_ ?_ ?_ ?_ ?_)
    | exact fun h => h
    | exact fun _ => rfl
    | exact Nat.le_refl _
    | dsimp only
    | dsimp only [id]

theorem execSleepRequest_ok {s0 : State} {rq : Requester} {s : State} (hok : Ok s0 s) :
    OutOk s0 (execSleepRequest rq s) := by
  unfold execSleepRequest
  refine ⟨_, rfl, ?_⟩
  repeat' first
    | with_reducible assumption
    | with_reducible apply requestWrite_ok
    | with_reducible apply requestSleep_ok
    | intro _ _ _
    | intro _ _
    | dsimp only
    | dsimp only [id]

theorem dropAllLeases_ok {s0 : State} {s : State} (hok : Ok s0 s) :
    Ok s0 (dropAllLeases s) := by
  unfold dropAllLeases
  repeat' first
    | with_reducible assumption
    | (extract_lets +onlyGivenNames x
       first
       | (refine okStep (s0 := s0) (x := x) (fun hx => ?_) ?_; clear_value x; rotate_left; subst x)
       | subst x)
    | with_reducible refine Ok.ite ?_ ?_
    | with_reducible apply foldState_ok
    | with_reducible apply countPackage_ok
    | with_reducible apply emit_ok
    | intro _ _ _
    | intro _ _
    | split
    | (simp only [ok_lit]; with_reducible refine OkLit.of ?_ ?_ ?_ ?_ ?_ ?_ ?_ ?_ ?_)
    | exact fun h => h
    | exact fun _ => rfl
    | exact Nat.le_refl _
    | dsimp only
    | dsimp only [id]

theorem enterSleep_ok {s0 : State} {s : State} (hok : Ok s0 s) :
    Ok s0 (enterSleep s) := by
  unfold enterSleep
  repeat' first
    | with_reducible assumption
    | (extract_lets +onlyGivenNames x
       first
       | (refine okStep (s0 := s0) (x := x) (fun hx => ?_) ?_; clear_value x; rotate_left; subst x)
       | (refine okStep (s0 := s0) (x := x.1) (fun hx => ?_) ?_; clear_value x; rotate_left; subst x)
       | subst x)
    | with_reducible refine Ok.ite ?_ ?_
    | with_reducible apply foldState_ok
    | with_reducible apply backLine_ok
    | with_reducible apply dropAllLeases_ok
    | with_reducible apply peersDown_ok
    | with_reducible apply modSec_ok
    | with_reducible apply modPower_ok
    | with_reducible apply startWake_ok
    | (intro h; simp [h]; done)
    | with_reducible refine Ok.ofPair ?_ (by with_reducible assumption)
    | intro _ _ _
    | intro _ _
    | split
    | (simp only [ok_lit]; with_reducible refine OkLit.of ?_ ?_ ?_ ?_ ?_ ?_ ?_ ?_ ?_)
    | exact fun h => h
    | exact fun _ => rfl
    | exact Nat.le_refl _
    | dsimp only
    | dsimp only [id]
    | (intro hl; simp [hl]; done)

theorem execSleepEntered_ok {s0 : State} {s : State} (hok : Ok s0 s) :
    OutOk s0 (execSleepEntered s) := by
  unfold execSleepEntered
  refine ⟨_, rfl, ?_⟩
  repeat' first
    | with_reducible assumption
    | with_reducible apply enterSleep_ok
    | intro _ _ _
    | intro _ _
    | dsimp only
    | dsimp only [id]

theorem wakePort0_ok {s0 : State} {s : State} (hok : Ok s0 s) :
    Ok s0 (wakePort0 s) := by
  unfold wakePort0
  repeat' first
    | with_reducible assumption
    | (extract_lets +onlyGivenNames x
       first
       | (refine okStep (s0 := s0) (x := x) (fun hx => ?_) ?_; clear_value x; rotate_left; subst x)
       | subst x)
    | with_reducible apply awaitFallback_ok
    | with_reducible apply dropLink_ok
    | with_reducible apply modPort0_ok
    | with_reducible apply emit_ok
    | with_reducible apply linkNonceOut_ok
    | with_reducible apply modPort_ok
    | intro _ _ _
    | intro _ _
    | (simp only [ok_lit]; with_reducible refine OkLit.of ?_ ?_ ?_ ?_ ?_ ?_ ?_ ?_ ?_)
    | exact fun h => h
    | exact fun _ => rfl
    | exact Nat.le_refl _
    | dsimp only
    | dsimp only [id]

theorem takeBack_ok {s0 : State} {late : List (Fun × Nat)} {s : State} (hok : Ok s0 s) :
    Ok s0 (takeBack late s) := by
  unfold takeBack
  repeat' first
    | with_reducible assumption
    | with_reducible apply foldState_ok
    | with_reducible apply runWeir_ok
    | with_reducible apply setLatch_ok
    | intro _ _ _
    | intro _ _
    | dsimp only
    | dsimp only [id]
    | (intro hl; simp [hl]; done)

theorem completeWake_ok {s0 : State} {s : State} (hok : Ok s0 s) :
    Ok s0 (completeWake s) := by
  unfold completeWake
  repeat' first
    | with_reducible assumption
    | (extract_lets +onlyGivenNames x
       first
       | (refine okStep (s0 := s0) (x := x) (fun hx => ?_) ?_; clear_value x; rotate_left; subst x)
       | subst x)
    | with_reducible refine Ok.ite ?_ ?_
    | with_reducible apply modSec_ok
    | with_reducible apply modPower_ok
    | with_reducible apply modSync_ok
    | with_reducible apply wakePort0_ok
    | with_reducible apply wake_ok
    | with_reducible apply takeBack_ok
    | with_reducible apply raiseError_ok
    | (intro h; simp [h]; done)
    | intro _ _ _
    | intro _ _
    | split
    | (simp only [ok_lit]; with_reducible refine OkLit.of ?_ ?_ ?_ ?_ ?_ ?_ ?_ ?_ ?_)
    | exact fun h => h
    | exact fun _ => rfl
    | exact Nat.le_refl _
    | dsimp only
    | dsimp only [id]

theorem execWakeComplete_ok {s0 : State} {s : State} (hok : Ok s0 s) :
    OutOk s0 (execWakeComplete s) := by
  unfold execWakeComplete
  refine ⟨_, rfl, ?_⟩
  repeat' first
    | with_reducible assumption
    | with_reducible apply completeWake_ok
    | intro _ _ _
    | intro _ _
    | dsimp only
    | dsimp only [id]

theorem measureClocks_ok {s0 : State} {khz : List Nat} {s : State} (hok : Ok s0 s) :
    Ok s0 (measureClocks khz s) := by
  unfold measureClocks
  repeat' first
    | with_reducible assumption
    | (extract_lets +onlyGivenNames x
       first
       | (refine okStep (s0 := s0) (x := x) (fun hx => ?_) ?_; clear_value x; rotate_left; subst x)
       | subst x)
    | with_reducible refine Ok.ite ?_ ?_
    | with_reducible apply modPower_ok
    | with_reducible apply raiseError_ok
    | intro _ _ _
    | intro _ _
    | split
    | (simp only [ok_lit]; with_reducible refine OkLit.of ?_ ?_ ?_ ?_ ?_ ?_ ?_ ?_ ?_)
    | exact fun h => h
    | exact fun _ => rfl
    | exact Nat.le_refl _
    | dsimp only
    | dsimp only [id]
    | (intro hl; simp [hl]; done)

theorem execClockMeasureWindow_ok {s0 : State} {khz : List Nat} {s : State} (hok : Ok s0 s) :
    OutOk s0 (execClockMeasureWindow khz s) := by
  unfold execClockMeasureWindow
  refine ⟨_, rfl, ?_⟩
  repeat' first
    | with_reducible assumption
    | with_reducible apply measureClocks_ok
    | intro _ _ _
    | intro _ _
    | dsimp only
    | dsimp only [id]

theorem powerGoodChange_ok {s0 : State} {levels : BitVec 4} {s : State} (hok : Ok s0 s) :
    Ok s0 (powerGoodChange levels s) := by
  unfold powerGoodChange
  repeat' first
    | with_reducible assumption
    | (extract_lets +onlyGivenNames x
       first
       | (refine okStep (s0 := s0) (x := x) (fun hx => ?_) ?_; clear_value x; rotate_left; subst x)
       | subst x)
    | with_reducible refine Ok.ite ?_ ?_
    | with_reducible apply modPower_ok
    | with_reducible apply clustersWake_ok
    | with_reducible apply wakeFires_ok
    | with_reducible apply raiseError_ok
    | intro _ _ _
    | intro _ _
    | split
    | (simp only [ok_lit]; with_reducible refine OkLit.of ?_ ?_ ?_ ?_ ?_ ?_ ?_ ?_ ?_)
    | exact fun h => h
    | exact fun _ => rfl
    | exact Nat.le_refl _
    | dsimp only
    | dsimp only [id]

theorem execPowerGoodChange_ok {s0 : State} {levels : BitVec 4} {s : State} (hok : Ok s0 s) :
    OutOk s0 (execPowerGoodChange levels s) := by
  unfold execPowerGoodChange
  refine ⟨_, rfl, ?_⟩
  repeat' first
    | with_reducible assumption
    | with_reducible apply powerGoodChange_ok
    | intro _ _ _
    | intro _ _
    | dsimp only
    | dsimp only [id]

theorem execTelemetryPoll_ok {s0 : State} {s : State} (hok : Ok s0 s) :
    OutOk s0 (execTelemetryPoll s) := by
  unfold execTelemetryPoll
  refine ⟨_, rfl, ?_⟩
  repeat' first
    | with_reducible assumption
    | (extract_lets +onlyGivenNames x
       first
       | (refine okStep (s0 := s0) (x := x) (fun hx => ?_) ?_; clear_value x; rotate_left; subst x)
       | (refine okStep (s0 := s0) (x := x.1) (fun hx => ?_) ?_; clear_value x; rotate_left; subst x)
       | subst x)
    | with_reducible apply foldState_ok
    | with_reducible apply emit_ok
    | with_reducible apply modPower_ok
    | intro _ _ _
    | intro _ _
    | (simp only [ok_lit]; with_reducible refine OkLit.of ?_ ?_ ?_ ?_ ?_ ?_ ?_ ?_ ?_)
    | exact fun h => h
    | exact fun _ => rfl
    | exact Nat.le_refl _
    | dsimp only
    | dsimp only [id]

theorem takeReplies_ok {s0 : State} {vin iin : List (Option U16)} {s : State} (hok : Ok s0 s) :
    Ok s0 (takeReplies vin iin s) := by
  unfold takeReplies
  repeat' first
    | with_reducible assumption
    | (extract_lets +onlyGivenNames x
       first
       | (refine okStep (s0 := s0) (x := x) (fun hx => ?_) ?_; clear_value x; rotate_left; subst x)
       | (refine okStep (s0 := s0) (x := x.1) (fun hx => ?_) ?_; clear_value x; rotate_left; subst x)
       | subst x)
    | with_reducible refine Ok.ite ?_ ?_
    | with_reducible apply modPower_ok
    | with_reducible refine Ok.ofPair ?_ (by with_reducible assumption)
    | intro _ _ _
    | intro _ _
    | split
    | (simp only [ok_lit]; with_reducible refine OkLit.of ?_ ?_ ?_ ?_ ?_ ?_ ?_ ?_ ?_)
    | exact fun h => h
    | exact fun _ => rfl
    | exact Nat.le_refl _
    | dsimp only
    | dsimp only [id]

theorem execTelemetryReply_ok {s0 : State} {vin iin : List (Option U16)} {s : State} (hok : Ok s0 s) :
    OutOk s0 (execTelemetryReply vin iin s) := by
  unfold execTelemetryReply
  refine ⟨_, rfl, ?_⟩
  repeat' first
    | with_reducible assumption
    | with_reducible apply takeReplies_ok
    | intro _ _ _
    | intro _ _
    | dsimp only
    | dsimp only [id]


/-! ### Machine/Errors.lean -/

theorem modErr_ok {s0 : State} {f : ErrSt → ErrSt} {s : State} (hok : Ok s0 s) :
    Ok s0 (modErr f s) := by
  unfold modErr
  repeat' first
    | with_reducible assumption
    | (extract_lets +onlyGivenNames x
       first
       | (refine okStep (s0 := s0) (x := x) (fun hx => ?_) ?_; clear_value x; rotate_left; subst x)
       | subst x)
    | intro _ _ _
    | intro _ _
    | (simp only [ok_lit]; with_reducible refine OkLit.of ?_ ?_ ?_ ?_ ?_ ?_ ?_ ?_ ?_)
    | exact fun h => h
    | exact fun _ => rfl
    | exact Nat.le_refl _
    | dsimp only
    | dsimp only [id]

theorem contextStateLost_ok {s0 : State} {i : ErrInfo} {s : State} (hok : Ok s0 s) :
    Ok s0 (contextStateLost i s) := by
  unfold contextStateLost
  repeat' first
    | with_reducible assumption
    | (extract_lets +onlyGivenNames x
       first
       | (refine okStep (s0 := s0) (x := x) (fun hx => ?_) ?_; clear_value x; rotate_left; subst x)
       | subst x)
    | with_reducible refine Ok.ite ?_ ?_
    | with_reducible apply raiseError_ok
    | with_reducible apply loseContext_ok
    | with_reducible apply raiseWith_ok
    | with_reducible refine Ok.ofPair ?_ (by with_reducible assumption)
    | intro _ _ _
    | intro _ _
    | split
    | (simp only [ok_lit]; with_reducible refine OkLit.of ?_ ?_ ?_ ?_ ?_ ?_ ?_ ?_ ?_)
    | exact fun h => h
    | exact fun _ => rfl
    | exact Nat.le_refl _
    | dsimp only
    | dsimp only [id]

theorem dropFaulty_ok {s0 : State} {i : ErrInfo} {s : State} (hok : Ok s0 s) :
    Ok s0 (dropFaulty i s) := by
  unfold dropFaulty
  repeat' first
    | with_reducible assumption
    | (extract_lets +onlyGivenNames x
       first
       | (refine okStep (s0 := s0) (x := x) (fun hx => ?_) ?_; clear_value x; rotate_left; subst x)
       | subst x)
    | with_reducible apply revokeWhere_ok
    | with_reducible apply setBank_ok
    | with_reducible refine Ok.ofPair ?_ (by with_reducible assumption)
    | intro _ _ _
    | intro _ _
    | split
    | (simp only [ok_lit]; with_reducible refine OkLit.of ?_ ?_ ?_ ?_ ?_ ?_ ?_ ?_ ?_)
    | exact fun h => h
    | exact fun _ => rfl
    | exact Nat.le_refl _
    | dsimp only
    | dsimp only [id]
    | (intro hl; simp [hl]; done)

theorem raiseSource_ok {s0 : State} {e : Src} {i : ErrInfo} {s : State} (hok : Ok s0 s) :
    Ok s0 (raiseSource e i s) := by
  unfold raiseSource
  repeat' first
    | with_reducible assumption
    | (extract_lets +onlyGivenNames x
       first
       | (refine okStep (s0 := s0) (x := x) (fun hx => ?_) ?_; clear_value x; rotate_left; subst x)
       | subst x)
    | with_reducible refine Ok.ite ?_ ?_
    | with_reducible apply contextStateLost_ok
    | with_reducible apply dropFaulty_ok
    | with_reducible apply raiseError_ok
    | with_reducible apply fenceUnit_ok
    | with_reducible refine Ok.ofPair ?_ (by with_reducible assumption)
    | intro _ _ _
    | intro _ _
    | split
    | (simp only [ok_lit]; with_reducible refine OkLit.of ?_ ?_ ?_ ?_ ?_ ?_ ?_ ?_ ?_)
    | exact fun h => h
    | exact fun _ => rfl
    | exact Nat.le_refl _
    | dsimp only
    | dsimp only [id]

theorem execErrorRaise_ok {s0 : State} {e : Src} {i : ErrInfo} {s : State} (hok : Ok s0 s) :
    OutOk s0 (execErrorRaise e i s) := by
  unfold execErrorRaise
  refine ⟨_, rfl, ?_⟩
  repeat' first
    | with_reducible assumption
    | with_reducible apply raiseSource_ok
    | intro _ _ _
    | intro _ _
    | dsimp only
    | dsimp only [id]

theorem breakWire_ok {s0 : State} {e : Src} {s : State} (hok : Ok s0 s) :
    Ok s0 (breakWire e s) := by
  unfold breakWire
  repeat' first
    | with_reducible assumption
    | (extract_lets +onlyGivenNames x
       first
       | (refine okStep (s0 := s0) (x := x) (fun hx => ?_) ?_; clear_value x; rotate_left; subst x)
       | subst x)
    | with_reducible refine Ok.ite ?_ ?_
    | with_reducible apply raiseError_ok
    | with_reducible apply modErr_ok
    | intro _ _ _
    | intro _ _
    | split
    | (simp only [ok_lit]; with_reducible refine OkLit.of ?_ ?_ ?_ ?_ ?_ ?_ ?_ ?_ ?_)
    | exact fun h => h
    | exact fun _ => rfl
    | exact Nat.le_refl _
    | dsimp only
    | dsimp only [id]

theorem execBrokenWire_ok {s0 : State} {e : Src} {s : State} (hok : Ok s0 s) :
    OutOk s0 (execBrokenWire e s) := by
  unfold execBrokenWire
  refine ⟨_, rfl, ?_⟩
  repeat' first
    | with_reducible assumption
    | with_reducible apply breakWire_ok
    | intro _ _ _
    | intro _ _
    | dsimp only
    | dsimp only [id]

theorem execWatchdogExpiry_ok {s0 : State} {s : State} (hok : Ok s0 s) :
    OutOk s0 (execWatchdogExpiry s) := by
  unfold execWatchdogExpiry
  refine ⟨_, rfl, ?_⟩
  repeat' first
    | with_reducible assumption
    | with_reducible apply raiseSource_ok
    | intro _ _ _
    | intro _ _
    | dsimp only
    | dsimp only [id]

theorem execErrCaptureRelease_ok {s0 : State} {rq : Requester} {s : State} (hok : Ok s0 s) :
    OutOk s0 (execErrCaptureRelease rq s) := by
  unfold execErrCaptureRelease
  refine ⟨_, rfl, ?_⟩
  repeat' first
    | with_reducible assumption
    | (extract_lets +onlyGivenNames x
       first
       | (refine okStep (s0 := s0) (x := x) (fun hx => ?_) ?_; clear_value x; rotate_left; subst x)
       | subst x)
    | with_reducible apply requestWrite_ok
    | with_reducible apply modErr_ok
    | intro _ _ _
    | intro _ _
    | (simp only [ok_lit]; with_reducible refine OkLit.of ?_ ?_ ?_ ?_ ?_ ?_ ?_ ?_ ?_)
    | exact fun h => h
    | exact fun _ => rfl
    | exact Nat.le_refl _
    | dsimp only
    | dsimp only [id]

theorem writeFnRelease_ok {s0 : State} {g : Fun} {v : U64} {s : State} (hok : Ok s0 s) :
    Ok s0 (writeFnRelease g v s) := by
  unfold writeFnRelease
  repeat' first
    | with_reducible assumption
    | (extract_lets +onlyGivenNames x
       first
       | (refine okStep (s0 := s0) (x := x) (fun hx => ?_) ?_; clear_value x; rotate_left; subst x)
       | subst x)
    | with_reducible refine Ok.ite ?_ ?_
    | with_reducible apply modFn_ok
    | (intro x hx; (repeat' split) <;> refine ⟨?_, ?_, ?_, ?_⟩ <;> first | exact hx.cfg | exact hx.admin | exact hx.faultq | exact hx.int | exact CfgOk.init _ | exact AdminOk.init | exact FaultqOk.init | exact IntOk.init | exact ⟨hx.int.delay, hx.int.masks⟩)
    | intro _ _ _
    | intro _ _
    | split
    | (simp only [ok_lit]; with_reducible refine OkLit.of ?_ ?_ ?_ ?_ ?_ ?_ ?_ ?_ ?_)
    | exact fun h => h
    | exact fun _ => rfl
    | exact Nat.le_refl _
    | dsimp only
    | dsimp only [id]

theorem execFnErrRelease_ok {s0 : State} {g : Fun} {v : U64} {s : State} (hok : Ok s0 s) :
    OutOk s0 (execFnErrRelease g v s) := by
  unfold execFnErrRelease
  refine ⟨_, rfl, ?_⟩
  repeat' first
    | with_reducible assumption
    | with_reducible apply barWrite_ok
    | with_reducible apply writeFnRelease_ok
    | intro _ _ _
    | intro _ _
    | dsimp only
    | dsimp only [id]

theorem endPin_ok {s0 : State} {s : State} (hok : Ok s0 s) :
    Ok s0 (endPin s) := by
  unfold endPin
  repeat' first
    | with_reducible assumption
    | (extract_lets +onlyGivenNames x
       first
       | (refine okStep (s0 := s0) (x := x) (fun hx => ?_) ?_; clear_value x; rotate_left; subst x)
       | subst x)
    | with_reducible apply emit_ok
    | with_reducible apply modErr_ok
    | intro _ _ _
    | intro _ _
    | (simp only [ok_lit]; with_reducible refine OkLit.of ?_ ?_ ?_ ?_ ?_ ?_ ?_ ?_ ?_)
    | exact fun h => h
    | exact fun _ => rfl
    | exact Nat.le_refl _
    | dsimp only
    | dsimp only [id]

theorem releasePin_ok {s0 : State} {s : State} (hok : Ok s0 s) :
    Ok s0 (releasePin s) := by
  unfold releasePin
  repeat' first
    | with_reducible assumption
    | (extract_lets +onlyGivenNames x
       first
       | (refine okStep (s0 := s0) (x := x) (fun hx => ?_) ?_; clear_value x; rotate_left; subst x)
       | subst x)
    | with_reducible refine Ok.ite ?_ ?_
    | with_reducible apply endPin_ok
    | with_reducible apply modErr_ok
    | intro _ _ _
    | intro _ _
    | split
    | (simp only [ok_lit]; with_reducible refine OkLit.of ?_ ?_ ?_ ?_ ?_ ?_ ?_ ?_ ?_)
    | exact fun h => h
    | exact fun _ => rfl
    | exact Nat.le_refl _
    | dsimp only
    | dsimp only [id]

theorem execErrOutRelease_ok {s0 : State} {rq : Requester} {s : State} (hok : Ok s0 s) :
    OutOk s0 (execErrOutRelease rq s) := by
  unfold execErrOutRelease
  refine ⟨_, rfl, ?_⟩
  repeat' first
    | with_reducible assumption
    | with_reducible apply requestWrite_ok
    | with_reducible apply releasePin_ok
    | intro _ _ _
    | intro _ _
    | dsimp only
    | dsimp only [id]

theorem execErrHoldExpiry_ok {s0 : State} {s : State} (hok : Ok s0 s) :
    OutOk s0 (execErrHoldExpiry s) := by
  unfold execErrHoldExpiry
  refine ⟨_, rfl, ?_⟩
  repeat' first
    | with_reducible assumption
    | with_reducible refine Ok.ite ?_ ?_
    | with_reducible apply endPin_ok
    | intro _ _ _
    | intro _ _
    | split
    | dsimp only
    | dsimp only [id]

theorem execErrOutMismatch_ok {s0 : State} {s : State} (hok : Ok s0 s) :
    OutOk s0 (execErrOutMismatch s) := by
  unfold execErrOutMismatch
  refine ⟨_, rfl, ?_⟩
  repeat' first
    | with_reducible assumption
    | (extract_lets +onlyGivenNames x
       first
       | (refine okStep (s0 := s0) (x := x) (fun hx => ?_) ?_; clear_value x; rotate_left; subst x)
       | subst x)
    | with_reducible refine Ok.ite ?_ ?_
    | with_reducible apply raiseError_ok
    | with_reducible apply modErr_ok
    | intro _ _ _
    | intro _ _
    | split
    | (simp only [ok_lit]; with_reducible refine OkLit.of ?_ ?_ ?_ ?_ ?_ ?_ ?_ ?_ ?_)
    | exact fun h => h
    | exact fun _ => rfl
    | exact Nat.le_refl _
    | dsimp only
    | dsimp only [id]

theorem execErrOutMismatchEnd_ok {s0 : State} {s : State} (hok : Ok s0 s) :
    OutOk s0 (execErrOutMismatchEnd s) := by
  unfold execErrOutMismatchEnd
  refine ⟨_, rfl, ?_⟩
  repeat' first
    | with_reducible assumption
    | (extract_lets +onlyGivenNames x
       first
       | (refine okStep (s0 := s0) (x := x) (fun hx => ?_) ?_; clear_value x; rotate_left; subst x)
       | subst x)
    | with_reducible apply modErr_ok
    | intro _ _ _
    | intro _ _
    | (simp only [ok_lit]; with_reducible refine OkLit.of ?_ ?_ ?_ ?_ ?_ ?_ ?_ ?_ ?_)
    | exact fun h => h
    | exact fun _ => rfl
    | exact Nat.le_refl _
    | dsimp only
    | dsimp only [id]

theorem clearCounter_ok {s0 : State} {ref : Ref} {s : State} (hok : Ok s0 s) :
    Ok s0 (clearCounter ref s) := by
  unfold clearCounter
  repeat' first
    | with_reducible assumption
    | (extract_lets +onlyGivenNames x
       first
       | (refine okStep (s0 := s0) (x := x) (fun hx => ?_) ?_; clear_value x; rotate_left; subst x)
       | subst x)
    | with_reducible refine Ok.ite ?_ ?_
    | with_reducible apply clearCount_ok
    | with_reducible apply modErr_ok
    | intro _ _ _
    | intro _ _
    | split
    | (simp only [ok_lit]; with_reducible refine OkLit.of ?_ ?_ ?_ ?_ ?_ ?_ ?_ ?_ ?_)
    | exact fun h => h
    | exact fun _ => rfl
    | exact Nat.le_refl _
    | dsimp only
    | dsimp only [id]

theorem execCounterClear_ok {s0 : State} {rq : Requester} {ref : Ref} {s : State} (hok : Ok s0 s) :
    OutOk s0 (execCounterClear rq ref s) := by
  unfold execCounterClear
  refine ⟨_, rfl, ?_⟩
  repeat' first
    | with_reducible assumption
    | with_reducible apply requestWrite_ok
    | with_reducible apply clearCounter_ok
    | intro _ _ _
    | intro _ _
    | dsimp only
    | dsimp only [id]

theorem flushRecords_ok {s0 : State} {s : State} (hok : Ok s0 s) :
    Ok s0 (flushRecords s) := by
  unfold flushRecords
  repeat' first
    | with_reducible assumption
    | with_reducible apply foldState_ok
    | with_reducible apply writeEventRecord_ok
    | intro _ _ _
    | intro _ _
    | dsimp only
    | dsimp only [id]

theorem freeDieLines_ok {s0 : State} {s : State} (hok : Ok s0 s) :
    Ok s0 (freeDieLines s) := by
  unfold freeDieLines
  repeat' first
    | with_reducible assumption
    | with_reducible refine Ok.ite ?_ ?_
    | with_reducible apply foldState_ok
    | with_reducible apply freeSpan_ok
    | intro _ _ _
    | intro _ _
    | split
    | dsimp only
    | dsimp only [id]

theorem stopEverything_ok {s0 : State} {s : State} (hok : Ok s0 s) :
    Ok s0 (stopEverything s) := by
  unfold stopEverything
  repeat' first
    | with_reducible assumption
    | (extract_lets +onlyGivenNames x
       first
       | (refine okStep (s0 := s0) (x := x) (fun hx => ?_) ?_; clear_value x; rotate_left; subst x)
       | subst x)
    | with_reducible apply foldState_ok
    | with_reducible apply abandonCredit_ok
    | with_reducible apply cancelParts_ok
    | with_reducible apply freeTransfer_ok
    | with_reducible refine Ok.ofPair ?_ (by with_reducible assumption)
    | intro _ _ _
    | intro _ _
    | split
    | (simp only [ok_lit]; with_reducible refine OkLit.of ?_ ?_ ?_ ?_ ?_ ?_ ?_ ?_ ?_)
    | exact fun h => h
    | exact fun _ => rfl
    | exact Nat.le_refl _
    | dsimp only
    | dsimp only [id]

theorem freeEveryObject_ok {s0 : State} {s : State} (hok : Ok s0 s) :
    Ok s0 (freeEveryObject s) := by
  unfold freeEveryObject
  repeat' first
    | with_reducible assumption
    | (extract_lets +onlyGivenNames x
       first
       | (refine okStep (s0 := s0) (x := x) (fun hx => ?_) ?_; clear_value x; rotate_left; subst x)
       | subst x)
    | with_reducible apply foldState_ok
    | with_reducible apply freeFinish_ok
    | intro _ _ _
    | intro _ _
    | (simp only [ok_lit]; with_reducible refine OkLit.of ?_ ?_ ?_ ?_ ?_ ?_ ?_ ?_ ?_)
    | exact fun h => h
    | exact fun _ => rfl
    | exact Nat.le_refl _
    | dsimp only
    | dsimp only [id]
    | (intro hl; simp [hl]; done)

theorem resetBlocks_keeps {x : FnSt} (hok : FnOk x) : FnOk (resetBlocks x) := by
  unfold resetBlocks
  repeat' first
    | with_reducible assumption
    | exact ⟨hok.cfg, AdminOk.init, FaultqOk.init, IntOk.init⟩
    | exact ⟨hok.cfg, hok.admin, hok.faultq, hok.int⟩
    | (extract_lets +onlyGivenNames x; subst x)
    | split
    | dsimp only
    | dsimp only [id]

theorem endWindowRequests_ok {s0 : State} {s : State} (hok : Ok s0 s) :
    Ok s0 (endWindowRequests s) := by
  unfold endWindowRequests
  repeat' first
    | with_reducible assumption
    | (extract_lets +onlyGivenNames x
       first
       | (refine okStep (s0 := s0) (x := x) (fun hx => ?_) ?_; clear_value x; rotate_left; subst x)
       | (refine okStep (s0 := s0) (x := x.1) (fun hx => ?_) ?_; clear_value x; rotate_left; subst x)
       | subst x)
    | with_reducible apply foldState_ok
    | with_reducible apply resultOk_ok
    | intro _ _ _
    | intro _ _
    | dsimp only
    | dsimp only [id]

theorem settleEpochs_ok {s0 : State} {s : State} (hok : Ok s0 s) :
    Ok s0 (settleEpochs s) := by
  unfold settleEpochs
  repeat' first
    | with_reducible assumption
    | (extract_lets +onlyGivenNames x
       first
       | (refine okStep (s0 := s0) (x := x) (fun hx => ?_) ?_; clear_value x; rotate_left; subst x)
       | subst x)
    | intro _ _ _
    | intro _ _
    | (simp only [ok_lit]; with_reducible refine OkLit.of ?_ ?_ ?_ ?_ ?_ ?_ ?_ ?_ ?_)
    | exact fun h => h
    | exact fun _ => rfl
    | exact Nat.le_refl _
    | dsimp only
    | dsimp only [id]

theorem wipe_ok {s0 : State} {s : State} (hok : Ok s0 s) :
    Ok s0 (wipe s) := by
  unfold wipe
  repeat' first
    | with_reducible assumption
    | (extract_lets +onlyGivenNames x
       first
       | (refine okStep (s0 := s0) (x := x) (fun hx => ?_) ?_; clear_value x; rotate_left; subst x)
       | (refine okStep (s0 := s0) (x := x.1) (fun hx => ?_) ?_; clear_value x; rotate_left; subst x)
       | subst x)
    | with_reducible apply dropAllLeases_ok
    | with_reducible apply freeEveryObject_ok
    | with_reducible apply stopEverything_ok
    | with_reducible apply freeDieLines_ok
    | with_reducible apply endWindowRequests_ok
    | with_reducible apply foldState_ok
    | with_reducible apply quarantine_ok
    | with_reducible apply settleIntx_ok
    | with_reducible apply serveInboxes_ok
    | with_reducible apply serveStalled_ok
    | with_reducible apply settleEpochs_ok
    | with_reducible apply resetBlocks_keeps
    | with_reducible refine map_fnOk (fun x hx => ?_)
    | exact ⟨hx.cfg, hx.admin, hx.faultq, hx.int⟩
    | intro _ _ _
    | intro _ _
    | (simp only [ok_lit]; with_reducible refine OkLit.ofFns ?_ ?_ ?_ ?_ ?_ ?_ ?_ ?_ ?_ ?_ ?_)
    | (intro hl; simp [hl]; done)
    | exact fun h => h
    | exact fun _ => rfl
    | exact Nat.le_refl _
    | dsimp only
    | dsimp only [id]
    | (intro hl; simp [hl]; done)

theorem endStep_ok {s0 : State} {s : State} (hok : Ok s0 s) :
    Ok s0 (endStep s) := by
  unfold endStep
  repeat' first
    | with_reducible assumption
    | (extract_lets +onlyGivenNames x
       first
       | (refine okStep (s0 := s0) (x := x) (fun hx => ?_) ?_; clear_value x; rotate_left; subst x)
       | subst x)
    | with_reducible refine Ok.ite ?_ ?_
    | intro _ _ _
    | intro _ _
    | split
    | (simp only [ok_lit]; with_reducible refine OkLit.of ?_ ?_ ?_ ?_ ?_ ?_ ?_ ?_ ?_)
    | exact fun h => h
    | exact fun _ => rfl
    | exact Nat.le_refl _
    | dsimp only
    | dsimp only [id]
    | (intro hl; simp [hl]; done)

theorem startBlockReset_ok {s0 : State} {s : State} (hok : Ok s0 s) :
    Ok s0 (startBlockReset s) := by
  unfold startBlockReset
  repeat' first
    | with_reducible assumption
    | (extract_lets +onlyGivenNames x
       first
       | (refine okStep (s0 := s0) (x := x) (fun hx => ?_) ?_; clear_value x; rotate_left; subst x)
       | subst x)
    | with_reducible apply flushRecords_ok
    | with_reducible apply wipe_ok
    | with_reducible apply endStep_ok
    | with_reducible apply modErr_ok
    | intro _ _ _
    | intro _ _
    | (simp only [ok_lit]; with_reducible refine OkLit.of ?_ ?_ ?_ ?_ ?_ ?_ ?_ ?_ ?_)
    | exact fun h => h
    | exact fun _ => rfl
    | exact Nat.le_refl _
    | dsimp only
    | dsimp only [id]
    | (intro hl; simp [hl]; done)

theorem execBlockReset_ok {s0 : State} {w : Option Requester} {s : State} (hok : Ok s0 s) :
    OutOk s0 (execBlockReset w s) := by
  unfold execBlockReset
  refine ⟨_, rfl, ?_⟩
  repeat' first
    | with_reducible assumption
    | (extract_lets +onlyGivenNames x
       first
       | (refine okStep (s0 := s0) (x := x) (fun hx => ?_) ?_; clear_value x; rotate_left; subst x)
       | subst x)
    | with_reducible refine Ok.ite ?_ ?_
    | with_reducible apply requestWrite_ok
    | with_reducible apply startBlockReset_ok
    | intro _ _ _
    | intro _ _
    | split
    | (simp only [ok_lit]; with_reducible refine OkLit.of ?_ ?_ ?_ ?_ ?_ ?_ ?_ ?_ ?_)
    | exact fun h => h
    | exact fun _ => rfl
    | exact Nat.le_refl _
    | dsimp only
    | dsimp only [id]

theorem restartCore_ok {s0 : State} {s : State} (hok : Ok s0 s) :
    Ok s0 (restartCore s) := by
  unfold restartCore
  repeat' first
    | with_reducible assumption
    | (extract_lets +onlyGivenNames x
       first
       | (refine okStep (s0 := s0) (x := x) (fun hx => ?_) ?_; clear_value x; rotate_left; subst x)
       | subst x)
    | intro _ _ _
    | intro _ _
    | (simp only [ok_lit]; with_reducible refine OkLit.of ?_ ?_ ?_ ?_ ?_ ?_ ?_ ?_ ?_)
    | exact fun h => h
    | exact fun _ => rfl
    | exact Nat.le_refl _
    | dsimp only
    | dsimp only [id]
    | (intro hl; simp [hl]; done)

theorem unready_keeps {x : FnSt} (hok : FnOk x) : FnOk (unready x) := by
  unfold unready
  repeat' first
    | with_reducible assumption
    | exact ⟨hok.cfg, hok.admin, hok.faultq, hok.int⟩
    | (extract_lets +onlyGivenNames x; subst x)
    | split
    | dsimp only
    | dsimp only [id]

theorem trainPort0_ok {s0 : State} {s : State} (hok : Ok s0 s) :
    Ok s0 (trainPort0 s) := by
  unfold trainPort0
  repeat' first
    | with_reducible assumption
    | with_reducible refine Ok.ite ?_ ?_
    | with_reducible apply awaitFallback_ok
    | with_reducible apply dropLink_ok
    | with_reducible apply emit_ok
    | with_reducible apply linkNonceOut_ok
    | intro _ _ _
    | intro _ _
    | split
    | dsimp only
    | dsimp only [id]

theorem endBlockReset_ok {s0 : State} {badPairs : List Src} {s : State} (hok : Ok s0 s) :
    Ok s0 (endBlockReset badPairs s) := by
  unfold endBlockReset
  repeat' first
    | with_reducible assumption
    | (extract_lets +onlyGivenNames x
       first
       | (refine okStep (s0 := s0) (x := x) (fun hx => ?_) ?_; clear_value x; rotate_left; subst x)
       | subst x)
    | with_reducible refine Ok.ite ?_ ?_
    | with_reducible apply wipe_ok
    | with_reducible apply endStep_ok
    | with_reducible apply restartCore_ok
    | with_reducible apply trainPort0_ok
    | with_reducible apply modErr_ok
    | with_reducible apply unready_keeps
    | exact (let k := unready_keeps hx; ⟨k.cfg, k.admin, k.faultq, k.int⟩)
    | with_reducible refine map_fnOk (fun x hx => ?_)
    | exact ⟨hx.cfg, hx.admin, hx.faultq, hx.int⟩
    | intro _ _ _
    | intro _ _
    | split
    | (simp only [ok_lit]; with_reducible refine OkLit.ofFns ?_ ?_ ?_ ?_ ?_ ?_ ?_ ?_ ?_ ?_ ?_)
    | (intro hl; simp [hl]; done)
    | exact fun h => h
    | exact fun _ => rfl
    | exact Nat.le_refl _
    | dsimp only
    | dsimp only [id]
    | (intro hl; simp [hl]; done)

theorem execBlockResetDone_ok {s0 : State} {badPairs : List Src} {s : State} (hok : Ok s0 s) :
    OutOk s0 (execBlockResetDone badPairs s) := by
  unfold execBlockResetDone
  refine ⟨_, rfl, ?_⟩
  repeat' first
    | with_reducible assumption
    | with_reducible refine Ok.ite ?_ ?_
    | with_reducible apply endBlockReset_ok
    | intro _ _ _
    | intro _ _
    | split
    | dsimp only
    | dsimp only [id]


/-! ### Machine/Net.lean -/

theorem modMgmt_ok {s0 : State} {f : MgmtSt → MgmtSt} {s : State} (hok : Ok s0 s) :
    Ok s0 (modMgmt f s) := by
  unfold modMgmt
  repeat' first
    | with_reducible assumption
    | (extract_lets +onlyGivenNames x
       first
       | (refine okStep (s0 := s0) (x := x) (fun hx => ?_) ?_; clear_value x; rotate_left; subst x)
       | subst x)
    | intro _ _ _
    | intro _ _
    | (simp only [ok_lit]; with_reducible refine OkLit.of ?_ ?_ ?_ ?_ ?_ ?_ ?_ ?_ ?_)
    | exact fun h => h
    | exact fun _ => rfl
    | exact Nat.le_refl _
    | dsimp only
    | dsimp only [id]

theorem sendNet_ok {s0 : State} {dst : NetAddr} {m : Msg} {s : State} (hok : Ok s0 s) :
    Ok s0 (sendNet dst m s) := by
  unfold sendNet
  repeat' first
    | with_reducible assumption
    | (extract_lets +onlyGivenNames x
       first
       | (refine okStep (s0 := s0) (x := x) (fun hx => ?_) ?_; clear_value x; rotate_left; subst x)
       | (refine okStep (s0 := s0) (x := x.1) (fun hx => ?_) ?_; clear_value x; rotate_left; subst x)
       | subst x)
    | with_reducible refine Ok.ite ?_ ?_
    | with_reducible apply emit_ok
    | with_reducible apply modMgmt_ok
    | with_reducible refine Ok.ofPair ?_ (by with_reducible assumption)
    | intro _ _ _
    | intro _ _
    | split
    | (simp only [ok_lit]; with_reducible refine OkLit.of ?_ ?_ ?_ ?_ ?_ ?_ ?_ ?_ ?_)
    | exact fun h => h
    | exact fun _ => rfl
    | exact Nat.le_refl _
    | dsimp only
    | dsimp only [id]

theorem execMgmtLinkChange_ok {s0 : State} {up : Bool} {s : State} (hok : Ok s0 s) :
    OutOk s0 (execMgmtLinkChange up s) := by
  unfold execMgmtLinkChange
  refine ⟨_, rfl, ?_⟩
  repeat' first
    | with_reducible assumption
    | (extract_lets +onlyGivenNames x
       first
       | (refine okStep (s0 := s0) (x := x) (fun hx => ?_) ?_; clear_value x; rotate_left; subst x)
       | subst x)
    | with_reducible apply modMgmt_ok
    | intro _ _ _
    | intro _ _
    | (simp only [ok_lit]; with_reducible refine OkLit.of ?_ ?_ ?_ ?_ ?_ ?_ ?_ ?_ ?_)
    | exact fun h => h
    | exact fun _ => rfl
    | exact Nat.le_refl _
    | dsimp only
    | dsimp only [id]

theorem execNeighborSolicitation_ok {s0 : State} {src : NetAddr} {target : Bytes} {s : State} (hok : Ok s0 s) :
    OutOk s0 (execNeighborSolicitation src target s) := by
  unfold execNeighborSolicitation
  refine ⟨_, rfl, ?_⟩
  repeat' first
    | with_reducible assumption
    | with_reducible refine Ok.ite ?_ ?_
    | with_reducible apply emit_ok
    | intro _ _ _
    | intro _ _
    | split
    | dsimp only
    | dsimp only [id]

theorem learnNeighbour_ok {s0 : State} {a : Bytes} {mac : U64} {s : State} (hok : Ok s0 s) :
    Ok s0 (learnNeighbour a mac s) := by
  unfold learnNeighbour
  repeat' first
    | with_reducible assumption
    | (extract_lets +onlyGivenNames x
       first
       | (refine okStep (s0 := s0) (x := x) (fun hx => ?_) ?_; clear_value x; rotate_left; subst x)
       | (refine okStep (s0 := s0) (x := x.1) (fun hx => ?_) ?_; clear_value x; rotate_left; subst x)
       | subst x)
    | with_reducible apply modMgmt_ok
    | with_reducible apply foldState_ok
    | with_reducible apply emit_ok
    | intro _ _ _
    | intro _ _
    | (simp only [ok_lit]; with_reducible refine OkLit.of ?_ ?_ ?_ ?_ ?_ ?_ ?_ ?_ ?_)
    | exact fun h => h
    | exact fun _ => rfl
    | exact Nat.le_refl _
    | dsimp only
    | dsimp only [id]

theorem execNeighborAdvertisement_ok {s0 : State} {src : NetAddr} {a : NeighborAdv} {s : State} (hok : Ok s0 s) :
    OutOk s0 (execNeighborAdvertisement src a s) := by
  unfold execNeighborAdvertisement
  refine ⟨_, rfl, ?_⟩
  repeat' first
    | with_reducible assumption
    | with_reducible refine Ok.ite ?_ ?_
    | with_reducible apply learnNeighbour_ok
    | intro _ _ _
    | intro _ _
    | split
    | dsimp only
    | dsimp only [id]

theorem execEchoRequest_ok {s0 : State} {src : NetAddr} {payload : Bytes} {s : State} (hok : Ok s0 s) :
    OutOk s0 (execEchoRequest src payload s) := by
  unfold execEchoRequest
  refine ⟨_, rfl, ?_⟩
  repeat' first
    | with_reducible assumption
    | with_reducible refine Ok.ite ?_ ?_
    | with_reducible apply sendNet_ok
    | intro _ _ _
    | intro _ _
    | split
    | dsimp only
    | dsimp only [id]


/-! ### Machine/Security.lean -/

theorem sendSpdm_ok {s0 : State} {c : SpdmConn} {seq : U32} {m : Bytes} {s : State} (hok : Ok s0 s) :
    Ok s0 (sendSpdm c seq m s) := by
  unfold sendSpdm
  repeat' first
    | with_reducible assumption
    | (extract_lets +onlyGivenNames x
       first
       | (refine okStep (s0 := s0) (x := x) (fun hx => ?_) ?_; clear_value x; rotate_left; subst x)
       | subst x)
    | with_reducible apply sendNet_ok
    | with_reducible apply emit_ok
    | with_reducible refine Ok.ofPair ?_ (by with_reducible assumption)
    | intro _ _ _
    | intro _ _
    | split
    | (simp only [ok_lit]; with_reducible refine OkLit.of ?_ ?_ ?_ ?_ ?_ ?_ ?_ ?_ ?_)
    | exact fun h => h
    | exact fun _ => rfl
    | exact Nat.le_refl _
    | dsimp only
    | dsimp only [id]

theorem putConn_ok {s0 : State} {x : SpdmSt} {s : State} (hok : Ok s0 s) :
    Ok s0 (putConn x s) := by
  unfold putConn
  repeat' first
    | with_reducible assumption
    | (extract_lets +onlyGivenNames x
       first
       | (refine okStep (s0 := s0) (x := x) (fun hx => ?_) ?_; clear_value x; rotate_left; subst x)
       | subst x)
    | with_reducible apply modSec_ok
    | (intro h; simp [h]; done)
    | intro _ _ _
    | intro _ _
    | (simp only [ok_lit]; with_reducible refine OkLit.of ?_ ?_ ?_ ?_ ?_ ?_ ?_ ?_ ?_)
    | exact fun h => h
    | exact fun _ => rfl
    | exact Nat.le_refl _
    | dsimp only
    | dsimp only [id]

theorem drawBytes_ok {s0 : State} {n : Nat} {s : State} (hok : Ok s0 s) : Ok s0 (drawBytes n s).1 :=
  OkLit.of hok id id id id id id id (Nat.le_succ _)

theorem signWith_ok {s0 : State} {t : Bytes} {s : State} (hok : Ok s0 s) :
    Ok s0 (signWith t s).1 := by
  unfold signWith
  repeat' first
    | with_reducible assumption
    | with_reducible apply draw_ok
    | intro _ _ _
    | intro _ _
    | dsimp only
    | dsimp only [id]
    | (intro hl; simp [hl]; done)

theorem challengeAuth_ok {s0 : State} {x : SpdmSt} {req : Bytes} {s : State} (hok : Ok s0 s) :
    Ok s0 (challengeAuth x req s).1 := by
  unfold challengeAuth
  repeat' first
    | with_reducible assumption
    | (extract_lets +onlyGivenNames x
       first
       | (refine okStep (s0 := s0) (x := x) (fun hx => ?_) ?_; clear_value x; rotate_left; subst x)
       | subst x)
    | with_reducible apply drawBytes_ok
    | with_reducible apply signWith_ok
    | with_reducible apply putConn_ok
    | with_reducible refine Ok.ofPair ?_ (by with_reducible assumption)
    | intro _ _ _
    | intro _ _
    | split
    | (simp only [ok_lit]; with_reducible refine OkLit.of ?_ ?_ ?_ ?_ ?_ ?_ ?_ ?_ ?_)
    | exact fun h => h
    | exact fun _ => rfl
    | exact Nat.le_refl _
    | dsimp only
    | dsimp only [id]

theorem measurementsFor_ok {s0 : State} {x : SpdmSt} {req : Bytes} {s : State} (hok : Ok s0 s) :
    Ok s0 (measurementsFor x req s).1 := by
  unfold measurementsFor
  repeat' first
    | with_reducible assumption
    | (extract_lets +onlyGivenNames x
       first
       | (refine okStep (s0 := s0) (x := x) (fun hx => ?_) ?_; clear_value x; rotate_left; subst x)
       | (refine okStep (s0 := s0) (x := x.1) (fun hx => ?_) ?_; clear_value x; rotate_left; subst x)
       | subst x)
    | with_reducible refine Ok.ite ?_ ?_
    | with_reducible apply drawBytes_ok
    | with_reducible apply signWith_ok
    | with_reducible apply putConn_ok
    | with_reducible refine Ok.ofPair ?_ (by with_reducible assumption)
    | intro _ _ _
    | intro _ _
    | split
    | (simp only [ok_lit]; with_reducible refine OkLit.of ?_ ?_ ?_ ?_ ?_ ?_ ?_ ?_ ?_)
    | exact fun h => h
    | exact fun _ => rfl
    | exact Nat.le_refl _
    | dsimp only
    | dsimp only [id]
    | (intro hl; simp [hl]; done)

theorem spdmResponse_ok {s0 : State} {x : SpdmSt} {req : Bytes} {s : State} (hok : Ok s0 s) :
    Ok s0 (spdmResponse x req s).1 := by
  unfold spdmResponse
  repeat' first
    | with_reducible assumption
    | (extract_lets +onlyGivenNames x
       first
       | (refine okStep (s0 := s0) (x := x) (fun hx => ?_) ?_; clear_value x; rotate_left; subst x)
       | subst x)
    | with_reducible refine Ok.ite ?_ ?_
    | with_reducible apply putConn_ok
    | with_reducible apply challengeAuth_ok
    | with_reducible apply measurementsFor_ok
    | with_reducible refine Ok.ofPair ?_ (by with_reducible assumption)
    | intro _ _ _
    | intro _ _
    | split
    | (simp only [ok_lit]; with_reducible refine OkLit.of ?_ ?_ ?_ ?_ ?_ ?_ ?_ ?_ ?_)
    | exact fun h => h
    | exact fun _ => rfl
    | exact Nat.le_refl _
    | dsimp only
    | dsimp only [id]

theorem spdmAnswer_ok {s0 : State} {x : SpdmSt} {req : Bytes} {s : State} (hok : Ok s0 s) :
    Ok s0 (spdmAnswer x req s).1 := by
  unfold spdmAnswer
  repeat' first
    | with_reducible assumption
    | (extract_lets +onlyGivenNames x
       first
       | (refine okStep (s0 := s0) (x := x) (fun hx => ?_) ?_; clear_value x; rotate_left; subst x)
       | subst x)
    | with_reducible apply spdmResponse_ok
    | with_reducible refine Ok.ofPair ?_ (by with_reducible assumption)
    | intro _ _ _
    | intro _ _
    | split
    | (simp only [ok_lit]; with_reducible refine OkLit.of ?_ ?_ ?_ ?_ ?_ ?_ ?_ ?_ ?_)
    | exact fun h => h
    | exact fun _ => rfl
    | exact Nat.le_refl _
    | dsimp only
    | dsimp only [id]

theorem deliverSpdm_ok {s0 : State} {c : SpdmConn} {seq : U32} {m : Bytes} {s : State} (hok : Ok s0 s) :
    Ok s0 (deliverSpdm c seq m s) := by
  unfold deliverSpdm
  repeat' first
    | with_reducible assumption
    | (extract_lets +onlyGivenNames x
       first
       | (refine okStep (s0 := s0) (x := x) (fun hx => ?_) ?_; clear_value x; rotate_left; subst x)
       | subst x)
    | with_reducible refine Ok.ite ?_ ?_
    | with_reducible apply sendSpdm_ok
    | with_reducible apply putConn_ok
    | with_reducible refine Ok.ofPair ?_ (by with_reducible assumption)
    | intro _ _ _
    | intro _ _
    | split
    | (simp only [ok_lit]; with_reducible refine OkLit.of ?_ ?_ ?_ ?_ ?_ ?_ ?_ ?_ ?_)
    | exact fun h => h
    | exact fun _ => rfl
    | exact Nat.le_refl _
    | dsimp only
    | dsimp only [id]
    | (intro hl; simp [hl]; done)

theorem chunkSend_ok {s0 : State} {x : SpdmSt} {seq : U32} {req : Bytes} {s : State} (hok : Ok s0 s) :
    Ok s0 (chunkSend x seq req s) := by
  unfold chunkSend
  repeat' first
    | with_reducible assumption
    | (extract_lets +onlyGivenNames x
       first
       | (refine okStep (s0 := s0) (x := x) (fun hx => ?_) ?_; clear_value x; rotate_left; subst x)
       | (refine okStep (s0 := s0) (x := x.1) (fun hx => ?_) ?_; clear_value x; rotate_left; subst x)
       | subst x)
    | with_reducible refine Ok.ite ?_ ?_
    | with_reducible apply sendSpdm_ok
    | with_reducible apply putConn_ok
    | with_reducible apply spdmAnswer_ok
    | with_reducible apply deliverSpdm_ok
    | intro _ _ _
    | intro _ _
    | split
    | (simp only [ok_lit]; with_reducible refine OkLit.of ?_ ?_ ?_ ?_ ?_ ?_ ?_ ?_ ?_)
    | exact fun h => h
    | exact fun _ => rfl
    | exact Nat.le_refl _
    | dsimp only
    | dsimp only [id]

theorem chunkGet_ok {s0 : State} {x : SpdmSt} {seq : U32} {req : Bytes} {s : State} (hok : Ok s0 s) :
    Ok s0 (chunkGet x seq req s) := by
  unfold chunkGet
  repeat' first
    | with_reducible assumption
    | (extract_lets +onlyGivenNames x
       first
       | (refine okStep (s0 := s0) (x := x) (fun hx => ?_) ?_; clear_value x; rotate_left; subst x)
       | subst x)
    | with_reducible refine Ok.ite ?_ ?_
    | with_reducible apply sendSpdm_ok
    | with_reducible apply putConn_ok
    | with_reducible refine Ok.ofPair ?_ (by with_reducible assumption)
    | intro _ _ _
    | intro _ _
    | split
    | (simp only [ok_lit]; with_reducible refine OkLit.of ?_ ?_ ?_ ?_ ?_ ?_ ?_ ?_ ?_)
    | exact fun h => h
    | exact fun _ => rfl
    | exact Nat.le_refl _
    | dsimp only
    | dsimp only [id]

theorem openConn_ok {s0 : State} {c : SpdmConn} {seq : U32} {req : Bytes} {s : State} (hok : Ok s0 s) :
    Ok s0 (openConn c seq req s) := by
  unfold openConn
  repeat' first
    | with_reducible assumption
    | (extract_lets +onlyGivenNames x
       first
       | (refine okStep (s0 := s0) (x := x) (fun hx => ?_) ?_; clear_value x; rotate_left; subst x)
       | subst x)
    | with_reducible refine Ok.ite ?_ ?_
    | with_reducible apply modSec_ok
    | with_reducible apply sendSpdm_ok
    | with_reducible apply putConn_ok
    | (intro h; simp [h]; done)
    | with_reducible refine Ok.ofPair ?_ (by with_reducible assumption)
    | intro _ _ _
    | intro _ _
    | split
    | (simp only [ok_lit]; with_reducible refine OkLit.of ?_ ?_ ?_ ?_ ?_ ?_ ?_ ?_ ?_)
    | exact fun h => h
    | exact fun _ => rfl
    | exact Nat.le_refl _
    | dsimp only
    | dsimp only [id]

theorem spdmRequest_ok {s0 : State} {c : SpdmConn} {seq : U32} {req : Bytes} {s : State} (hok : Ok s0 s) :
    Ok s0 (spdmRequest c seq req s) := by
  unfold spdmRequest
  repeat' first
    | with_reducible assumption
    | (extract_lets +onlyGivenNames x
       first
       | (refine okStep (s0 := s0) (x := x) (fun hx => ?_) ?_; clear_value x; rotate_left; subst x)
       | (refine okStep (s0 := s0) (x := x.1) (fun hx => ?_) ?_; clear_value x; rotate_left; subst x)
       | subst x)
    | with_reducible refine Ok.ite ?_ ?_
    | with_reducible apply sendSpdm_ok
    | with_reducible apply modSec_ok
    | with_reducible apply openConn_ok
    | with_reducible apply chunkSend_ok
    | with_reducible apply chunkGet_ok
    | with_reducible apply spdmResponse_ok
    | with_reducible apply putConn_ok
    | with_reducible apply deliverSpdm_ok
    | (intro h; simp [h]; done)
    | with_reducible refine Ok.ofPair ?_ (by with_reducible assumption)
    | intro _ _ _
    | intro _ _
    | split
    | (simp only [ok_lit]; with_reducible refine OkLit.of ?_ ?_ ?_ ?_ ?_ ?_ ?_ ?_ ?_)
    | exact fun h => h
    | exact fun _ => rfl
    | exact Nat.le_refl _
    | dsimp only
    | dsimp only [id]

theorem answerRow_ok {s0 : State} {c : SpdmConn} {req : Bytes} {s : State} (hok : Ok s0 s) :
    Ok s0 (answerRow c req s) := by
  unfold answerRow
  repeat' first
    | with_reducible assumption
    | (extract_lets +onlyGivenNames x
       first
       | (refine okStep (s0 := s0) (x := x) (fun hx => ?_) ?_; clear_value x; rotate_left; subst x)
       | (refine okStep (s0 := s0) (x := x.1) (fun hx => ?_) ?_; clear_value x; rotate_left; subst x)
       | subst x)
    | with_reducible refine Ok.ite ?_ ?_
    | with_reducible apply spdmRequest_ok
    | with_reducible apply modSec_ok
    | (intro h; simp [h]; done)
    | with_reducible refine Ok.ofPair ?_ (by with_reducible assumption)
    | intro _ _ _
    | intro _ _
    | split
    | (simp only [ok_lit]; with_reducible refine OkLit.of ?_ ?_ ?_ ?_ ?_ ?_ ?_ ?_ ?_)
    | exact fun h => h
    | exact fun _ => rfl
    | exact Nat.le_refl _
    | dsimp only
    | dsimp only [id]

theorem execSpdmMessage_ok {s0 : State} {src : NetAddr} {seq : U32} {message : Bytes} {s : State} (hok : Ok s0 s) :
    OutOk s0 (execSpdmMessage src seq message s) := by
  unfold execSpdmMessage
  refine ⟨_, rfl, ?_⟩
  repeat' first
    | with_reducible assumption
    | (extract_lets +onlyGivenNames x
       first
       | (refine okStep (s0 := s0) (x := x) (fun hx => ?_) ?_; clear_value x; rotate_left; subst x)
       | subst x)
    | with_reducible refine Ok.ite ?_ ?_
    | with_reducible apply modSec_ok
    | (intro h; simp [h]; done)
    | intro _ _ _
    | intro _ _
    | split
    | (simp only [ok_lit]; with_reducible refine OkLit.of ?_ ?_ ?_ ?_ ?_ ?_ ?_ ?_ ?_)
    | exact fun h => h
    | exact fun _ => rfl
    | exact Nat.le_refl _
    | dsimp only
    | dsimp only [id]

theorem execGetVersion_ok {s0 : State} {c : SpdmReq} {s : State} (hok : Ok s0 s) :
    OutOk s0 (execGetVersion c s) := by
  unfold execGetVersion
  refine ⟨_, rfl, ?_⟩
  repeat' first
    | with_reducible assumption
    | with_reducible apply answerRow_ok
    | intro _ _ _
    | intro _ _
    | dsimp only
    | dsimp only [id]

theorem execGetCapabilities_ok {s0 : State} {c : SpdmReq} {s : State} (hok : Ok s0 s) :
    OutOk s0 (execGetCapabilities c s) := by
  unfold execGetCapabilities
  refine ⟨_, rfl, ?_⟩
  repeat' first
    | with_reducible assumption
    | with_reducible apply answerRow_ok
    | intro _ _ _
    | intro _ _
    | dsimp only
    | dsimp only [id]

theorem execNegotiateAlgorithms_ok {s0 : State} {c : SpdmReq} {s : State} (hok : Ok s0 s) :
    OutOk s0 (execNegotiateAlgorithms c s) := by
  unfold execNegotiateAlgorithms
  refine ⟨_, rfl, ?_⟩
  repeat' first
    | with_reducible assumption
    | with_reducible apply answerRow_ok
    | intro _ _ _
    | intro _ _
    | dsimp only
    | dsimp only [id]

theorem execGetDigests_ok {s0 : State} {c : SpdmReq} {s : State} (hok : Ok s0 s) :
    OutOk s0 (execGetDigests c s) := by
  unfold execGetDigests
  refine ⟨_, rfl, ?_⟩
  repeat' first
    | with_reducible assumption
    | with_reducible apply answerRow_ok
    | intro _ _ _
    | intro _ _
    | dsimp only
    | dsimp only [id]

theorem execGetCertificate_ok {s0 : State} {c : SpdmReq} {slot offset length : Nat} {s : State} (hok : Ok s0 s) :
    OutOk s0 (execGetCertificate c slot offset length s) := by
  unfold execGetCertificate
  refine ⟨_, rfl, ?_⟩
  repeat' first
    | with_reducible assumption
    | with_reducible apply answerRow_ok
    | intro _ _ _
    | intro _ _
    | dsimp only
    | dsimp only [id]

theorem execChallenge_ok {s0 : State} {c : SpdmReq} {slot : Nat} {nonce : Bytes} {s : State} (hok : Ok s0 s) :
    OutOk s0 (execChallenge c slot nonce s) := by
  unfold execChallenge
  refine ⟨_, rfl, ?_⟩
  repeat' first
    | with_reducible assumption
    | with_reducible apply answerRow_ok
    | intro _ _ _
    | intro _ _
    | dsimp only
    | dsimp only [id]

theorem execGetMeasurements_ok {s0 : State} {c : SpdmReq} {signed : Bool} {index : Nat} {nonce : Bytes} {s : State} (hok : Ok s0 s) :
    OutOk s0 (execGetMeasurements c signed index nonce s) := by
  unfold execGetMeasurements
  refine ⟨_, rfl, ?_⟩
  repeat' first
    | with_reducible assumption
    | with_reducible refine Ok.ite ?_ ?_
    | with_reducible apply answerRow_ok
    | intro _ _ _
    | intro _ _
    | split
    | dsimp only
    | dsimp only [id]

theorem execChunkSend_ok {s0 : State} {c : SpdmReq} {handle seq : Nat} {last : Bool} {chunk : Bytes} {s : State} (hok : Ok s0 s) :
    OutOk s0 (execChunkSend c handle seq last chunk s) := by
  unfold execChunkSend
  refine ⟨_, rfl, ?_⟩
  repeat' first
    | with_reducible assumption
    | with_reducible refine Ok.ite ?_ ?_
    | with_reducible apply answerRow_ok
    | intro _ _ _
    | intro _ _
    | split
    | dsimp only
    | dsimp only [id]

theorem execChunkGet_ok {s0 : State} {c : SpdmReq} {handle seq : Nat} {s : State} (hok : Ok s0 s) :
    OutOk s0 (execChunkGet c handle seq s) := by
  unfold execChunkGet
  refine ⟨_, rfl, ?_⟩
  repeat' first
    | with_reducible assumption
    | with_reducible apply answerRow_ok
    | intro _ _ _
    | intro _ _
    | dsimp only
    | dsimp only [id]

theorem execSpdmUnsupportedRequest_ok {s0 : State} {c : SpdmReq} {code : U8} {s : State} (hok : Ok s0 s) :
    OutOk s0 (execSpdmUnsupportedRequest c code s) := by
  unfold execSpdmUnsupportedRequest
  refine ⟨_, rfl, ?_⟩
  repeat' first
    | with_reducible assumption
    | with_reducible apply answerRow_ok
    | intro _ _ _
    | intro _ _
    | dsimp only
    | dsimp only [id]

theorem acceptToken_ok {s0 : State} {t : Bytes} {s : State} (hok : Ok s0 s) :
    Ok s0 (acceptToken t s) := by
  unfold acceptToken
  repeat' first
    | with_reducible assumption
    | (extract_lets +onlyGivenNames x
       first
       | (refine okStep (s0 := s0) (x := x) (fun hx => ?_) ?_; clear_value x; rotate_left; subst x)
       | (refine okStep (s0 := s0) (x := x.1) (fun hx => ?_) ?_; clear_value x; rotate_left; subst x)
       | subst x)
    | with_reducible apply drawBytes_ok
    | with_reducible apply setObj_ok
    | with_reducible apply modSec_ok
    | (intro h; simp [h]; done)
    | intro _ _ _
    | intro _ _
    | (simp only [ok_lit]; with_reducible refine OkLit.of ?_ ?_ ?_ ?_ ?_ ?_ ?_ ?_ ?_)
    | exact fun h => h
    | exact fun _ => rfl
    | exact Nat.le_refl _
    | dsimp only
    | dsimp only [id]
    | (intro hl; simp [hl]; done)

theorem execDebugTokenWrite_ok {s0 : State} {rq : Requester} {t : Bytes} {s : State} (hok : Ok s0 s) :
    OutOk s0 (execDebugTokenWrite rq t s) := by
  unfold execDebugTokenWrite
  refine ⟨_, rfl, ?_⟩
  repeat' first
    | with_reducible assumption
    | with_reducible apply requestWrite_ok
    | with_reducible apply acceptToken_ok
    | intro _ _ _
    | intro _ _
    | dsimp only
    | dsimp only [id]

theorem burnMinSec_ok {s0 : State} {n : Nat} {s : State} (hok : Ok s0 s) :
    Ok s0 (burnMinSec n s) := by
  unfold burnMinSec
  repeat' first
    | with_reducible assumption
    | (extract_lets +onlyGivenNames x
       first
       | (refine okStep (s0 := s0) (x := x) (fun hx => ?_) ?_; clear_value x; rotate_left; subst x)
       | subst x)
    | with_reducible apply modSec_ok
    | (intro h; simp [h]; done)
    | intro _ _ _
    | intro _ _
    | (simp only [ok_lit]; with_reducible refine OkLit.of ?_ ?_ ?_ ?_ ?_ ?_ ?_ ?_ ?_)
    | exact fun h => h
    | exact fun _ => rfl
    | exact Nat.le_refl _
    | dsimp only
    | dsimp only [id]

theorem execRaiseMinSecurityVersion_ok {s0 : State} {rq : Requester} {n : U8} {s : State} (hok : Ok s0 s) :
    OutOk s0 (execRaiseMinSecurityVersion rq n s) := by
  unfold execRaiseMinSecurityVersion
  refine ⟨_, rfl, ?_⟩
  repeat' first
    | with_reducible assumption
    | with_reducible apply requestWrite_ok
    | with_reducible apply burnMinSec_ok
    | intro _ _ _
    | intro _ _
    | dsimp only
    | dsimp only [id]

theorem execPowerCoarseUpdate_ok {s0 : State} {s : State} (hok : Ok s0 s) :
    OutOk s0 (execPowerCoarseUpdate s) := by
  unfold execPowerCoarseUpdate
  refine ⟨_, rfl, ?_⟩
  repeat' first
    | with_reducible assumption
    | (extract_lets +onlyGivenNames x
       first
       | (refine okStep (s0 := s0) (x := x) (fun hx => ?_) ?_; clear_value x; rotate_left; subst x)
       | subst x)
    | with_reducible refine Ok.ite ?_ ?_
    | with_reducible refine map_fnOk (fun x hx => ?_)
    | exact ⟨hx.cfg, hx.admin, hx.faultq, hx.int⟩
    | intro _ _ _
    | intro _ _
    | split
    | (simp only [ok_lit]; with_reducible refine OkLit.ofFns ?_ ?_ ?_ ?_ ?_ ?_ ?_ ?_ ?_ ?_ ?_)
    | (intro hl; simp [hl]; done)
    | exact fun h => h
    | exact fun _ => rfl
    | exact Nat.le_refl _
    | dsimp only
    | dsimp only [id]

theorem execEntropyHealthFailure_ok {s0 : State} {s : State} (hok : Ok s0 s) :
    OutOk s0 (execEntropyHealthFailure s) := by
  unfold execEntropyHealthFailure
  refine ⟨_, rfl, ?_⟩
  repeat' first
    | with_reducible assumption
    | (extract_lets +onlyGivenNames x
       first
       | (refine okStep (s0 := s0) (x := x) (fun hx => ?_) ?_; clear_value x; rotate_left; subst x)
       | subst x)
    | with_reducible apply raiseError_ok
    | with_reducible apply modSec_ok
    | (intro h; simp [h]; done)
    | intro _ _ _
    | intro _ _
    | (simp only [ok_lit]; with_reducible refine OkLit.of ?_ ?_ ?_ ?_ ?_ ?_ ?_ ?_ ?_)
    | exact fun h => h
    | exact fun _ => rfl
    | exact Nat.le_refl _
    | dsimp only
    | dsimp only [id]

theorem execDrbgReseed_ok {s0 : State} {s : State} (hok : Ok s0 s) :
    OutOk s0 (execDrbgReseed s) := by
  unfold execDrbgReseed
  refine ⟨_, rfl, ?_⟩
  repeat' first
    | with_reducible assumption
    | (extract_lets +onlyGivenNames x
       first
       | (refine okStep (s0 := s0) (x := x) (fun hx => ?_) ?_; clear_value x; rotate_left; subst x)
       | subst x)
    | with_reducible refine Ok.ite ?_ ?_
    | with_reducible apply modSec_ok
    | (intro h; simp [h]; done)
    | intro _ _ _
    | intro _ _
    | split
    | (simp only [ok_lit]; with_reducible refine OkLit.of ?_ ?_ ?_ ?_ ?_ ?_ ?_ ?_ ?_)
    | exact fun h => h
    | exact fun _ => rfl
    | exact Nat.le_refl _
    | dsimp only
    | dsimp only [id]

theorem keepCoreByte_ok {s0 : State} {a : U64} {v : U8} {s : State} (hok : Ok s0 s) :
    Ok s0 (keepCoreByte a v s) := by
  unfold keepCoreByte
  repeat' first
    | with_reducible assumption
    | (extract_lets +onlyGivenNames x
       first
       | (refine okStep (s0 := s0) (x := x) (fun hx => ?_) ?_; clear_value x; rotate_left; subst x)
       | (refine okStep (s0 := s0) (x := x.1) (fun hx => ?_) ?_; clear_value x; rotate_left; subst x)
       | subst x)
    | with_reducible refine Ok.ite ?_ ?_
    | with_reducible apply modSec_ok
    | (intro h; simp [h]; done)
    | intro _ _ _
    | intro _ _
    | split
    | (simp only [ok_lit]; with_reducible refine OkLit.of ?_ ?_ ?_ ?_ ?_ ?_ ?_ ?_ ?_)
    | exact fun h => h
    | exact fun _ => rfl
    | exact Nat.le_refl _
    | dsimp only
    | dsimp only [id]

theorem tapOperation_ok {s0 : State} {op : TapOp} {s : State} (hok : Ok s0 s) :
    Ok s0 (tapOperation op s) := by
  unfold tapOperation
  repeat' first
    | with_reducible assumption
    | (extract_lets +onlyGivenNames x
       first
       | (refine okStep (s0 := s0) (x := x) (fun hx => ?_) ?_; clear_value x; rotate_left; subst x)
       | subst x)
    | with_reducible refine Ok.ite ?_ ?_
    | with_reducible apply emit_ok
    | with_reducible apply draw_ok
    | with_reducible apply modSec_ok
    | with_reducible apply keepCoreByte_ok
    | (intro h; simp [h]; done)
    | with_reducible refine Ok.ofPair ?_ (by with_reducible assumption)
    | intro _ _ _
    | intro _ _
    | split
    | (simp only [ok_lit]; with_reducible refine OkLit.of ?_ ?_ ?_ ?_ ?_ ?_ ?_ ?_ ?_)
    | exact fun h => h
    | exact fun _ => rfl
    | exact Nat.le_refl _
    | dsimp only
    | dsimp only [id]
    | (intro hl; simp [hl]; done)

theorem execTapAccess_ok {s0 : State} {op : TapOp} {s : State} (hok : Ok s0 s) :
    OutOk s0 (execTapAccess op s) := by
  unfold execTapAccess
  refine ⟨_, rfl, ?_⟩
  repeat' first
    | with_reducible assumption
    | with_reducible apply tapOperation_ok
    | intro _ _ _
    | intro _ _
    | dsimp only
    | dsimp only [id]


/-! ### Machine/BringUp.lean -/

theorem modBoot_ok {s0 : State} {f : BootSt → BootSt} {s : State}
    (hf : Memory.wf s.boot.image = true → Memory.wf (f s.boot).image = true) (hok : Ok s0 s) : Ok s0 (modBoot f s) :=
  OkLit.of hok id id id id id id hf (Nat.le_refl _)

theorem beginStep_ok {s0 : State} {c : BringUpCmd} {s : State} (hok : Ok s0 s) :
    Ok s0 (beginStep c s) := by
  unfold beginStep
  repeat' first
    | with_reducible assumption
    | (extract_lets +onlyGivenNames x
       first
       | (refine okStep (s0 := s0) (x := x) (fun hx => ?_) ?_; clear_value x; rotate_left; subst x)
       | subst x)
    | with_reducible apply modBoot_ok
    | intro _ _ _
    | intro _ _
    | (simp only [ok_lit]; with_reducible refine OkLit.of ?_ ?_ ?_ ?_ ?_ ?_ ?_ ?_ ?_)
    | exact fun h => h
    | exact fun _ => rfl
    | exact Nat.le_refl _
    | dsimp only
    | dsimp only [id]

theorem finishStep_ok {s0 : State} {r : BringUpResult} {s : State} (hok : Ok s0 s) :
    Ok s0 (finishStep r s) := by
  unfold finishStep
  repeat' first
    | with_reducible assumption
    | (extract_lets +onlyGivenNames x
       first
       | (refine okStep (s0 := s0) (x := x) (fun hx => ?_) ?_; clear_value x; rotate_left; subst x)
       | subst x)
    | with_reducible refine Ok.ite ?_ ?_
    | with_reducible apply modBoot_ok
    | intro _ _ _
    | intro _ _
    | split
    | (simp only [ok_lit]; with_reducible refine OkLit.of ?_ ?_ ?_ ?_ ?_ ?_ ?_ ?_ ?_)
    | exact fun h => h
    | exact fun _ => rfl
    | exact Nat.le_refl _
    | dsimp only
    | dsimp only [id]

theorem bringUpWrite_ok {s0 : State} {rq : Requester} {c : BringUpCmd} {act : State → State} {s : State} (h_act : ∀ t, Ok s0 t → Ok s0 (act t)) (hok : Ok s0 s) :
    Ok s0 (bringUpWrite rq c act s) := by
  unfold bringUpWrite
  repeat' first
    | with_reducible assumption
    | with_reducible apply h_act
    | with_reducible apply requestWrite_ok
    | with_reducible apply beginStep_ok
    | intro _ _ _
    | intro _ _
    | dsimp only
    | dsimp only [id]

theorem startPower_ok {s0 : State} {s : State} (hok : Ok s0 s) :
    Ok s0 (startPower s) := by
  unfold startPower
  repeat' first
    | with_reducible assumption
    | with_reducible refine Ok.ite ?_ ?_
    | with_reducible apply setWork_ok
    | with_reducible apply finishStep_ok
    | intro _ _ _
    | intro _ _
    | split
    | dsimp only
    | dsimp only [id]
    | (intro hl; simp [hl]; done)

theorem execPower_ok {s0 : State} {rq : Requester} {s : State} (hok : Ok s0 s) :
    OutOk s0 (execPower rq s) := by
  unfold execPower
  refine ⟨_, rfl, ?_⟩
  repeat' first
    | with_reducible assumption
    | with_reducible apply bringUpWrite_ok
    | with_reducible apply startPower_ok
    | intro _ _ _
    | intro _ _
    | dsimp only
    | dsimp only [id]

theorem startTrain_ok {s0 : State} {s : State} (hok : Ok s0 s) :
    Ok s0 (startTrain s) := by
  unfold startTrain
  repeat' first
    | with_reducible assumption
    | (extract_lets +onlyGivenNames x
       first
       | (refine okStep (s0 := s0) (x := x) (fun hx => ?_) ?_; clear_value x; rotate_left; subst x)
       | subst x)
    | with_reducible refine Ok.ite ?_ ?_
    | with_reducible apply requestMain_ok
    | with_reducible apply modBoot_ok
    | intro _ _ _
    | intro _ _
    | split
    | (simp only [ok_lit]; with_reducible refine OkLit.of ?_ ?_ ?_ ?_ ?_ ?_ ?_ ?_ ?_)
    | exact fun h => h
    | exact fun _ => rfl
    | exact Nat.le_refl _
    | dsimp only
    | dsimp only [id]

theorem execTrain_ok {s0 : State} {rq : Requester} {s : State} (hok : Ok s0 s) :
    OutOk s0 (execTrain rq s) := by
  unfold execTrain
  refine ⟨_, rfl, ?_⟩
  repeat' first
    | with_reducible assumption
    | with_reducible apply bringUpWrite_ok
    | with_reducible apply startTrain_ok
    | intro _ _ _
    | intro _ _
    | dsimp only
    | dsimp only [id]

theorem startQualify_ok {s0 : State} {s : State} (hok : Ok s0 s) :
    Ok s0 (startQualify s) := by
  unfold startQualify
  repeat' first
    | with_reducible assumption
    | (extract_lets +onlyGivenNames x
       first
       | (refine okStep (s0 := s0) (x := x) (fun hx => ?_) ?_; clear_value x; rotate_left; subst x)
       | subst x)
    | with_reducible apply modBoot_ok
    | intro _ _ _
    | intro _ _
    | (simp only [ok_lit]; with_reducible refine OkLit.of ?_ ?_ ?_ ?_ ?_ ?_ ?_ ?_ ?_)
    | exact fun h => h
    | exact fun _ => rfl
    | exact Nat.le_refl _
    | dsimp only
    | dsimp only [id]

theorem execQualify_ok {s0 : State} {rq : Requester} {s : State} (hok : Ok s0 s) :
    OutOk s0 (execQualify rq s) := by
  unfold execQualify
  refine ⟨_, rfl, ?_⟩
  repeat' first
    | with_reducible assumption
    | with_reducible apply bringUpWrite_ok
    | with_reducible apply startQualify_ok
    | intro _ _ _
    | intro _ _
    | dsimp only
    | dsimp only [id]

theorem endQualify_ok {s0 : State} {counts : List LaneCount} {s : State} (hok : Ok s0 s) :
    Ok s0 (endQualify counts s) := by
  unfold endQualify
  repeat' first
    | with_reducible assumption
    | (extract_lets +onlyGivenNames x
       first
       | (refine okStep (s0 := s0) (x := x) (fun hx => ?_) ?_; clear_value x; rotate_left; subst x)
       | subst x)
    | with_reducible refine Ok.ite ?_ ?_
    | with_reducible apply modBoot_ok
    | with_reducible apply finishStep_ok
    | intro _ _ _
    | intro _ _
    | split
    | (simp only [ok_lit]; with_reducible refine OkLit.of ?_ ?_ ?_ ?_ ?_ ?_ ?_ ?_ ?_)
    | exact fun h => h
    | exact fun _ => rfl
    | exact Nat.le_refl _
    | dsimp only
    | dsimp only [id]
    | (intro hl; simp [hl]; done)

theorem execQualifyEnd_ok {s0 : State} {counts : List LaneCount} {s : State} (hok : Ok s0 s) :
    OutOk s0 (execQualifyEnd counts s) := by
  unfold execQualifyEnd
  refine ⟨_, rfl, ?_⟩
  repeat' first
    | with_reducible assumption
    | with_reducible apply endQualify_ok
    | intro _ _ _
    | intro _ _
    | dsimp only
    | dsimp only [id]

theorem startLoad_ok {s0 : State} {s : State} (hok : Ok s0 s) :
    Ok s0 (startLoad s) := by
  unfold startLoad
  repeat' first
    | with_reducible assumption
    | (extract_lets +onlyGivenNames x
       first
       | (refine okStep (s0 := s0) (x := x) (fun hx => ?_) ?_; clear_value x; rotate_left; subst x)
       | subst x)
    | with_reducible refine Ok.ite ?_ ?_
    | with_reducible apply finishStep_ok
    | with_reducible apply modBoot_ok
    | with_reducible apply issueImage_ok
    | intro _ _ _
    | intro _ _
    | split
    | (simp only [ok_lit]; with_reducible refine OkLit.of ?_ ?_ ?_ ?_ ?_ ?_ ?_ ?_ ?_)
    | exact fun h => h
    | exact fun _ => rfl
    | exact Nat.le_refl _
    | dsimp only
    | dsimp only [id]

theorem execLoadFirmware_ok {s0 : State} {rq : Requester} {s : State} (hok : Ok s0 s) :
    OutOk s0 (execLoadFirmware rq s) := by
  unfold execLoadFirmware
  refine ⟨_, rfl, ?_⟩
  repeat' first
    | with_reducible assumption
    | with_reducible apply bringUpWrite_ok
    | with_reducible apply startLoad_ok
    | intro _ _ _
    | intro _ _
    | dsimp only
    | dsimp only [id]

theorem copyChunk_ok {s0 : State} {chunk : Bytes} {s : State} (hok : Ok s0 s) :
    Ok s0 (copyChunk chunk s) := by
  unfold copyChunk
  repeat' first
    | with_reducible assumption
    | (extract_lets +onlyGivenNames x
       first
       | (refine okStep (s0 := s0) (x := x) (fun hx => ?_) ?_; clear_value x; rotate_left; subst x)
       | subst x)
    | with_reducible refine Ok.ite ?_ ?_
    | with_reducible apply modBoot_ok
    | intro _ _ _
    | intro _ _
    | split
    | (simp only [ok_lit]; with_reducible refine OkLit.of ?_ ?_ ?_ ?_ ?_ ?_ ?_ ?_ ?_)
    | exact fun hx => memWrite_wf _ hx _
    | exact fun h => h
    | exact fun _ => rfl
    | exact Nat.le_refl _
    | dsimp only
    | dsimp only [id]
    | (intro hl; simp [hl]; done)

theorem execFirmwareChunkWrite_ok {s0 : State} {rq : Requester} {chunk : Bytes} {s : State} (hok : Ok s0 s) :
    OutOk s0 (execFirmwareChunkWrite rq chunk s) := by
  unfold execFirmwareChunkWrite
  refine ⟨_, rfl, ?_⟩
  repeat' first
    | with_reducible assumption
    | with_reducible apply requestWrite_ok
    | with_reducible apply copyChunk_ok
    | intro _ _ _
    | intro _ _
    | dsimp only
    | dsimp only [id]

theorem startFirmware_ok {s0 : State} {b : Bytes} {s : State} (hok : Ok s0 s) :
    Ok s0 (startFirmware b s) := by
  unfold startFirmware
  repeat' first
    | with_reducible assumption
    | (extract_lets +onlyGivenNames x
       first
       | (refine okStep (s0 := s0) (x := x) (fun hx => ?_) ?_; clear_value x; rotate_left; subst x)
       | subst x)
    | with_reducible apply finishStep_ok
    | with_reducible apply modBoot_ok
    | intro _ _ _
    | intro _ _
    | (simp only [ok_lit]; with_reducible refine OkLit.of ?_ ?_ ?_ ?_ ?_ ?_ ?_ ?_ ?_)
    | exact fun h => h
    | exact fun _ => rfl
    | exact Nat.le_refl _
    | dsimp only
    | dsimp only [id]

theorem imageComplete_ok {s0 : State} {s : State} (hok : Ok s0 s) :
    Ok s0 (imageComplete s) := by
  unfold imageComplete
  repeat' first
    | with_reducible assumption
    | (extract_lets +onlyGivenNames x
       first
       | (refine okStep (s0 := s0) (x := x) (fun hx => ?_) ?_; clear_value x; rotate_left; subst x)
       | subst x)
    | with_reducible refine Ok.ite ?_ ?_
    | with_reducible apply modSec_ok
    | with_reducible apply modBoot_ok
    | with_reducible apply startFirmware_ok
    | with_reducible apply finishStep_ok
    | with_reducible apply issueImage_ok
    | (intro h; simp [h]; done)
    | with_reducible refine Ok.ofPair ?_ (by with_reducible assumption)
    | intro _ _ _
    | intro _ _
    | split
    | (simp only [ok_lit]; with_reducible refine OkLit.of ?_ ?_ ?_ ?_ ?_ ?_ ?_ ?_ ?_)
    | exact fun h => h
    | exact fun _ => rfl
    | exact Nat.le_refl _
    | dsimp only
    | dsimp only [id]
    | (intro hl; simp [hl]; done)

theorem execFirmwareImageComplete_ok {s0 : State} {s : State} (hok : Ok s0 s) :
    OutOk s0 (execFirmwareImageComplete s) := by
  unfold execFirmwareImageComplete
  refine ⟨_, rfl, ?_⟩
  repeat' first
    | with_reducible assumption
    | with_reducible apply imageComplete_ok
    | intro _ _ _
    | intro _ _
    | dsimp only
    | dsimp only [id]

theorem startBroadcast_ok {s0 : State} {s : State} (hok : Ok s0 s) :
    Ok s0 (startBroadcast s) := by
  unfold startBroadcast
  repeat' first
    | with_reducible assumption
    | (extract_lets +onlyGivenNames x
       first
       | (refine okStep (s0 := s0) (x := x) (fun hx => ?_) ?_; clear_value x; rotate_left; subst x)
       | subst x)
    | with_reducible refine Ok.ite ?_ ?_
    | with_reducible apply emit_ok
    | with_reducible apply modBoot_ok
    | intro _ _ _
    | intro _ _
    | split
    | (simp only [ok_lit]; with_reducible refine OkLit.of ?_ ?_ ?_ ?_ ?_ ?_ ?_ ?_ ?_)
    | exact fun h => h
    | exact fun _ => rfl
    | exact Nat.le_refl _
    | dsimp only
    | dsimp only [id]
    | (intro hl; simp [hl]; done)

theorem execBroadcast_ok {s0 : State} {rq : Requester} {s : State} (hok : Ok s0 s) :
    OutOk s0 (execBroadcast rq s) := by
  unfold execBroadcast
  refine ⟨_, rfl, ?_⟩
  repeat' first
    | with_reducible assumption
    | with_reducible apply bringUpWrite_ok
    | with_reducible apply startBroadcast_ok
    | intro _ _ _
    | intro _ _
    | dsimp only
    | dsimp only [id]

theorem sendAgain_ok {s0 : State} {w : TileWait} {s : State} (hok : Ok s0 s) :
    Ok s0 (sendAgain w s) := by
  unfold sendAgain
  repeat' first
    | with_reducible assumption
    | (extract_lets +onlyGivenNames x
       first
       | (refine okStep (s0 := s0) (x := x) (fun hx => ?_) ?_; clear_value x; rotate_left; subst x)
       | subst x)
    | with_reducible refine Ok.ite ?_ ?_
    | with_reducible apply emit_ok
    | with_reducible apply modBoot_ok
    | intro _ _ _
    | intro _ _
    | split
    | (simp only [ok_lit]; with_reducible refine OkLit.of ?_ ?_ ?_ ?_ ?_ ?_ ?_ ?_ ?_)
    | exact fun h => h
    | exact fun _ => rfl
    | exact Nat.le_refl _
    | dsimp only
    | dsimp only [id]
    | (intro hl; simp [hl]; done)

theorem tileAnswers_ok {s0 : State} {t : Nat} {d : Bytes} {s : State} (hok : Ok s0 s) :
    Ok s0 (tileAnswers t d s) := by
  unfold tileAnswers
  repeat' first
    | with_reducible assumption
    | (extract_lets +onlyGivenNames x
       first
       | (refine okStep (s0 := s0) (x := x) (fun hx => ?_) ?_; clear_value x; rotate_left; subst x)
       | subst x)
    | with_reducible refine Ok.ite ?_ ?_
    | with_reducible apply modBoot_ok
    | with_reducible apply sendAgain_ok
    | with_reducible refine Ok.ofPair ?_ (by with_reducible assumption)
    | intro _ _ _
    | intro _ _
    | split
    | (simp only [ok_lit]; with_reducible refine OkLit.of ?_ ?_ ?_ ?_ ?_ ?_ ?_ ?_ ?_)
    | exact fun h => h
    | exact fun _ => rfl
    | exact Nat.le_refl _
    | dsimp only
    | dsimp only [id]

theorem execTileDigestAnswer_ok {s0 : State} {t : Nat} {d : Bytes} {s : State} (hok : Ok s0 s) :
    OutOk s0 (execTileDigestAnswer t d s) := by
  unfold execTileDigestAnswer
  refine ⟨_, rfl, ?_⟩
  repeat' first
    | with_reducible assumption
    | with_reducible apply tileAnswers_ok
    | intro _ _ _
    | intro _ _
    | dsimp only
    | dsimp only [id]

theorem tileSilent_ok {s0 : State} {t : Nat} {s : State} (hok : Ok s0 s) :
    Ok s0 (tileSilent t s) := by
  unfold tileSilent
  repeat' first
    | with_reducible assumption
    | (extract_lets +onlyGivenNames x
       first
       | (refine okStep (s0 := s0) (x := x) (fun hx => ?_) ?_; clear_value x; rotate_left; subst x)
       | subst x)
    | with_reducible refine Ok.ite ?_ ?_
    | with_reducible apply sendAgain_ok
    | with_reducible refine Ok.ofPair ?_ (by with_reducible assumption)
    | intro _ _ _
    | intro _ _
    | split
    | (simp only [ok_lit]; with_reducible refine OkLit.of ?_ ?_ ?_ ?_ ?_ ?_ ?_ ?_ ?_)
    | exact fun h => h
    | exact fun _ => rfl
    | exact Nat.le_refl _
    | dsimp only
    | dsimp only [id]

theorem execTileAnswerTimeout_ok {s0 : State} {t : Nat} {s : State} (hok : Ok s0 s) :
    OutOk s0 (execTileAnswerTimeout t s) := by
  unfold execTileAnswerTimeout
  refine ⟨_, rfl, ?_⟩
  repeat' first
    | with_reducible assumption
    | with_reducible apply tileSilent_ok
    | intro _ _ _
    | intro _ _
    | dsimp only
    | dsimp only [id]

theorem execTest_ok {s0 : State} {rq : Requester} {s : State} (hok : Ok s0 s) :
    OutOk s0 (execTest rq s) := by
  unfold execTest
  refine ⟨_, rfl, ?_⟩
  repeat' first
    | with_reducible assumption
    | with_reducible apply bringUpWrite_ok
    | with_reducible apply emit_ok
    | intro _ _ _
    | intro _ _
    | dsimp only
    | dsimp only [id]

theorem placeClusters_ok {s0 : State} {s : State} (hok : Ok s0 s) :
    Ok s0 (placeClusters s) := by
  unfold placeClusters
  repeat' first
    | with_reducible assumption
    | (extract_lets +onlyGivenNames x
       first
       | (refine okStep (s0 := s0) (x := x) (fun hx => ?_) ?_; clear_value x; rotate_left; subst x)
       | (refine okStep (s0 := s0) (x := x.1) (fun hx => ?_) ?_; clear_value x; rotate_left; subst x)
       | subst x)
    | with_reducible refine Ok.ite ?_ ?_
    | with_reducible apply modBoot_ok
    | with_reducible apply modDet_ok
    | intro _ _ _
    | intro _ _
    | split
    | (simp only [ok_lit]; with_reducible refine OkLit.of ?_ ?_ ?_ ?_ ?_ ?_ ?_ ?_ ?_)
    | exact fun h => h
    | exact fun _ => rfl
    | exact Nat.le_refl _
    | dsimp only
    | dsimp only [id]

theorem movePatterns_ok {s0 : State} {s : State} (hok : Ok s0 s) :
    Ok s0 (movePatterns s) := by
  unfold movePatterns
  repeat' first
    | with_reducible assumption
    | (extract_lets +onlyGivenNames x
       first
       | (refine okStep (s0 := s0) (x := x) (fun hx => ?_) ?_; clear_value x; rotate_left; subst x)
       | subst x)
    | with_reducible apply freeSpan_ok
    | with_reducible apply draw_ok
    | with_reducible refine Ok.ofPair ?_ (by with_reducible assumption)
    | intro _ _ _
    | intro _ _
    | split
    | (simp only [ok_lit]; with_reducible refine OkLit.of ?_ ?_ ?_ ?_ ?_ ?_ ?_ ?_ ?_)
    | exact fun h => h
    | exact fun _ => rfl
    | exact Nat.le_refl _
    | dsimp only
    | dsimp only [id]

theorem endTest_ok {s0 : State} {clusters : List (Nat × Nat)} {engines : U32} {s : State} (hok : Ok s0 s) :
    Ok s0 (endTest clusters engines s) := by
  unfold endTest
  repeat' first
    | with_reducible assumption
    | (extract_lets +onlyGivenNames x
       first
       | (refine okStep (s0 := s0) (x := x) (fun hx => ?_) ?_; clear_value x; rotate_left; subst x)
       | (refine okStep (s0 := s0) (x := x.1) (fun hx => ?_) ?_; clear_value x; rotate_left; subst x)
       | subst x)
    | with_reducible refine Ok.ite ?_ ?_
    | with_reducible apply movePatterns_ok
    | with_reducible apply modBoot_ok
    | with_reducible apply modDet_ok
    | with_reducible apply placeClusters_ok
    | with_reducible apply finishStep_ok
    | intro _ _ _
    | intro _ _
    | split
    | (simp only [ok_lit]; with_reducible refine OkLit.of ?_ ?_ ?_ ?_ ?_ ?_ ?_ ?_ ?_)
    | exact fun h => h
    | exact fun _ => rfl
    | exact Nat.le_refl _
    | dsimp only
    | dsimp only [id]

theorem execPublishMap_ok {s0 : State} {rq : Requester} {s : State} (hok : Ok s0 s) :
    OutOk s0 (execPublishMap rq s) := by
  unfold execPublishMap
  refine ⟨_, rfl, ?_⟩
  repeat' first
    | with_reducible assumption
    | with_reducible apply bringUpWrite_ok
    | intro _ _ _
    | intro _ _
    | dsimp only
    | dsimp only [id]

theorem endRunning_ok {s0 : State} {clusters : List (Nat × Nat)} {engines : U32} {s : State} (hok : Ok s0 s) :
    Ok s0 (endRunning clusters engines s) := by
  unfold endRunning
  repeat' first
    | with_reducible assumption
    | (extract_lets +onlyGivenNames x
       first
       | (refine okStep (s0 := s0) (x := x) (fun hx => ?_) ?_; clear_value x; rotate_left; subst x)
       | subst x)
    | with_reducible refine Ok.ite ?_ ?_
    | with_reducible apply finishStep_ok
    | with_reducible apply emit_ok
    | with_reducible apply modBoot_ok
    | with_reducible apply endTest_ok
    | with_reducible apply rewriteMap_ok
    | with_reducible refine Ok.ofPair ?_ (by with_reducible assumption)
    | intro _ _ _
    | intro _ _
    | split
    | (simp only [ok_lit]; with_reducible refine OkLit.of ?_ ?_ ?_ ?_ ?_ ?_ ?_ ?_ ?_)
    | exact fun h => h
    | exact fun _ => rfl
    | exact Nat.le_refl _
    | dsimp only
    | dsimp only [id]

theorem execBringupStepEnd_ok {s0 : State} {clusters : List (Nat × Nat)} {engines : U32} {s : State} (hok : Ok s0 s) :
    OutOk s0 (execBringupStepEnd clusters engines s) := by
  unfold execBringupStepEnd
  refine ⟨_, rfl, ?_⟩
  repeat' first
    | with_reducible assumption
    | with_reducible apply endRunning_ok
    | intro _ _ _
    | intro _ _
    | dsimp only
    | dsimp only [id]

theorem startDeclare_ok {s0 : State} {s : State} (hok : Ok s0 s) :
    Ok s0 (startDeclare s) := by
  unfold startDeclare
  repeat' first
    | with_reducible assumption
    | (extract_lets +onlyGivenNames x
       first
       | (refine okStep (s0 := s0) (x := x) (fun hx => ?_) ?_; clear_value x; rotate_left; subst x)
       | subst x)
    | with_reducible apply finishStep_ok
    | with_reducible apply modBoot_ok
    | with_reducible refine Ok.ofPair ?_ (by with_reducible assumption)
    | intro _ _ _
    | intro _ _
    | split
    | (simp only [ok_lit]; with_reducible refine OkLit.of ?_ ?_ ?_ ?_ ?_ ?_ ?_ ?_ ?_)
    | exact fun h => h
    | exact fun _ => rfl
    | exact Nat.le_refl _
    | dsimp only
    | dsimp only [id]

theorem execDeclareReady_ok {s0 : State} {rq : Requester} {s : State} (hok : Ok s0 s) :
    OutOk s0 (execDeclareReady rq s) := by
  unfold execDeclareReady
  refine ⟨_, rfl, ?_⟩
  repeat' first
    | with_reducible assumption
    | with_reducible apply bringUpWrite_ok
    | with_reducible apply startDeclare_ok
    | intro _ _ _
    | intro _ _
    | dsimp only
    | dsimp only [id]

theorem readied_keeps {x : FnSt} (hok : FnOk x) : FnOk (readied x) := by
  unfold readied
  repeat' first
    | with_reducible assumption
    | exact ⟨hok.cfg, hok.admin, hok.faultq, hok.int⟩
    | (extract_lets +onlyGivenNames x; subst x)
    | split
    | dsimp only
    | dsimp only [id]

theorem declareReady_ok {s0 : State} {s : State} (hok : Ok s0 s) :
    Ok s0 (declareReady s) := by
  unfold declareReady
  repeat' first
    | with_reducible assumption
    | (extract_lets +onlyGivenNames x
       first
       | (refine okStep (s0 := s0) (x := x) (fun hx => ?_) ?_; clear_value x; rotate_left; subst x)
       | subst x)
    | with_reducible refine Ok.ite ?_ ?_
    | with_reducible apply modSec_ok
    | with_reducible apply finishStep_ok
    | with_reducible apply modBoot_ok
    | with_reducible apply readied_keeps
    | (intro h; simp [h]; done)
    | with_reducible refine map_fnOk (fun x hx => ?_)
    | exact ⟨hx.cfg, hx.admin, hx.faultq, hx.int⟩
    | intro _ _ _
    | intro _ _
    | split
    | (simp only [ok_lit]; with_reducible refine OkLit.ofFns ?_ ?_ ?_ ?_ ?_ ?_ ?_ ?_ ?_ ?_ ?_)
    | (intro hl; simp [hl]; done)
    | exact fun h => h
    | exact fun _ => rfl
    | exact Nat.le_refl _
    | dsimp only
    | dsimp only [id]
    | (intro hl; simp [hl]; done)

theorem execDeclareReadyComplete_ok {s0 : State} {s : State} (hok : Ok s0 s) :
    OutOk s0 (execDeclareReadyComplete s) := by
  unfold execDeclareReadyComplete
  refine ⟨_, rfl, ?_⟩
  repeat' first
    | with_reducible assumption
    | with_reducible apply declareReady_ok
    | intro _ _ _
    | intro _ _
    | dsimp only
    | dsimp only [id]

theorem startCalibration_ok {s0 : State} {k : Nat} {s : State} (hok : Ok s0 s) :
    Ok s0 (startCalibration k s) := by
  unfold startCalibration
  repeat' first
    | with_reducible assumption
    | (extract_lets +onlyGivenNames x
       first
       | (refine okStep (s0 := s0) (x := x) (fun hx => ?_) ?_; clear_value x; rotate_left; subst x)
       | subst x)
    | with_reducible apply modBoot_ok
    | intro _ _ _
    | intro _ _
    | (simp only [ok_lit]; with_reducible refine OkLit.of ?_ ?_ ?_ ?_ ?_ ?_ ?_ ?_ ?_)
    | exact fun h => h
    | exact fun _ => rfl
    | exact Nat.le_refl _
    | dsimp only
    | dsimp only [id]

theorem calibrate_ok {s0 : State} {rq : Requester} {k : Nat} {s : State} (hok : Ok s0 s) :
    Ok s0 (calibrate rq k s) := by
  unfold calibrate
  repeat' first
    | with_reducible assumption
    | with_reducible apply requestWrite_ok
    | with_reducible apply startCalibration_ok
    | intro _ _ _
    | intro _ _
    | dsimp only
    | dsimp only [id]

theorem execPort0Lanes_ok {s0 : State} {rq : Requester} {s : State} (hok : Ok s0 s) :
    OutOk s0 (execPort0Lanes rq s) := by
  unfold execPort0Lanes
  refine ⟨_, rfl, ?_⟩
  repeat' first
    | with_reducible assumption
    | with_reducible apply calibrate_ok
    | intro _ _ _
    | intro _ _
    | dsimp only
    | dsimp only [id]

theorem execPortLanes_ok {s0 : State} {rq : Requester} {p : Port} {s : State} (hok : Ok s0 s) :
    OutOk s0 (execPortLanes rq p s) := by
  unfold execPortLanes
  refine ⟨_, rfl, ?_⟩
  repeat' first
    | with_reducible assumption
    | with_reducible apply calibrate_ok
    | intro _ _ _
    | intro _ _
    | dsimp only
    | dsimp only [id]

theorem execStackCalibrate_ok {s0 : State} {rq : Requester} {st : Stack} {s : State} (hok : Ok s0 s) :
    OutOk s0 (execStackCalibrate rq st s) := by
  unfold execStackCalibrate
  refine ⟨_, rfl, ?_⟩
  repeat' first
    | with_reducible assumption
    | with_reducible apply calibrate_ok
    | intro _ _ _
    | intro _ _
    | dsimp only
    | dsimp only [id]

theorem storeCalibration_ok {s0 : State} {k : Nat} {v : Calibration} {s : State} (hok : Ok s0 s) :
    Ok s0 (storeCalibration k v s) := by
  unfold storeCalibration
  repeat' first
    | with_reducible assumption
    | with_reducible refine Ok.ite ?_ ?_
    | with_reducible apply foldState_ok
    | with_reducible apply putObj_ok
    | intro _ _ _
    | intro _ _
    | split
    | dsimp only
    | dsimp only [id]

theorem retrainAfter_ok {s0 : State} {k : Nat} {s : State} (hok : Ok s0 s) :
    Ok s0 (retrainAfter k s) := by
  unfold retrainAfter
  repeat' first
    | with_reducible assumption
    | (extract_lets +onlyGivenNames x
       first
       | (refine okStep (s0 := s0) (x := x) (fun hx => ?_) ?_; clear_value x; rotate_left; subst x)
       | subst x)
    | with_reducible refine Ok.ite ?_ ?_
    | with_reducible apply requestMain_ok
    | with_reducible apply emit_ok
    | with_reducible apply linkLeavesL0_ok
    | with_reducible apply modPort_ok
    | intro _ _ _
    | intro _ _
    | split
    | (simp only [ok_lit]; with_reducible refine OkLit.of ?_ ?_ ?_ ?_ ?_ ?_ ?_ ?_ ?_)
    | exact fun h => h
    | exact fun _ => rfl
    | exact Nat.le_refl _
    | dsimp only
    | dsimp only [id]

theorem endCalibration_ok {s0 : State} {ok : Bool} {values : Calibration} {s : State} (hok : Ok s0 s) :
    Ok s0 (endCalibration ok values s) := by
  unfold endCalibration
  repeat' first
    | with_reducible assumption
    | (extract_lets +onlyGivenNames x
       first
       | (refine okStep (s0 := s0) (x := x) (fun hx => ?_) ?_; clear_value x; rotate_left; subst x)
       | subst x)
    | with_reducible refine Ok.ite ?_ ?_
    | with_reducible apply modBoot_ok
    | with_reducible apply retrainAfter_ok
    | with_reducible apply storeCalibration_ok
    | with_reducible refine Ok.ofPair ?_ (by with_reducible assumption)
    | intro _ _ _
    | intro _ _
    | split
    | (simp only [ok_lit]; with_reducible refine OkLit.of ?_ ?_ ?_ ?_ ?_ ?_ ?_ ?_ ?_)
    | exact fun h => h
    | exact fun _ => rfl
    | exact Nat.le_refl _
    | dsimp only
    | dsimp only [id]

theorem execCalibrateDone_ok {s0 : State} {ok : Bool} {values : Calibration} {s : State} (hok : Ok s0 s) :
    OutOk s0 (execCalibrateDone ok values s) := by
  unfold execCalibrateDone
  refine ⟨_, rfl, ?_⟩
  repeat' first
    | with_reducible assumption
    | with_reducible apply endCalibration_ok
    | intro _ _ _
    | intro _ _
    | dsimp only
    | dsimp only [id]


/-! ### Machine/Writes.lean -/

theorem stepStart_ok {s0 : State}  {r0 : BringUpCmd} {s : State} (hok : Ok s0 s) :
    Ok s0 (stepStart r0 s) := by
  cases r0 <;> unfold stepStart
  repeat' first
    | with_reducible assumption
    | with_reducible apply startPower_ok
    | with_reducible apply startTrain_ok
    | with_reducible apply startQualify_ok
    | with_reducible apply startLoad_ok
    | with_reducible apply startBroadcast_ok
    | with_reducible apply emit_ok
    | with_reducible apply declareReady_ok
    | with_reducible apply startDeclare_ok
    | intro _ _ _
    | intro _ _
    | dsimp only
    | dsimp only [id]

theorem startRestore_ok {s0 : State} {s : State} (hok : Ok s0 s) :
    Ok s0 (startRestore s) := by
  unfold startRestore
  repeat' first
    | with_reducible assumption
    | (extract_lets +onlyGivenNames x
       first
       | (refine okStep (s0 := s0) (x := x) (fun hx => ?_) ?_; clear_value x; rotate_left; subst x)
       | subst x)
    | with_reducible apply modMgmt_ok
    | intro _ _ _
    | intro _ _
    | (simp only [ok_lit]; with_reducible refine OkLit.of ?_ ?_ ?_ ?_ ?_ ?_ ?_ ?_ ?_)
    | exact fun h => h
    | exact fun _ => rfl
    | exact Nat.le_refl _
    | dsimp only
    | dsimp only [id]

theorem closeSlot_ok {s0 : State} {k : Nat} {s : State} (hok : Ok s0 s) :
    Ok s0 (closeSlot k s) := by
  unfold closeSlot
  repeat' first
    | with_reducible assumption
    | (extract_lets +onlyGivenNames x
       first
       | (refine okStep (s0 := s0) (x := x) (fun hx => ?_) ?_; clear_value x; rotate_left; subst x)
       | subst x)
    | with_reducible apply modMgmt_ok
    | intro _ _ _
    | intro _ _
    | (simp only [ok_lit]; with_reducible refine OkLit.of ?_ ?_ ?_ ?_ ?_ ?_ ?_ ?_ ?_)
    | exact fun h => h
    | exact fun _ => rfl
    | exact Nat.le_refl _
    | dsimp only
    | dsimp only [id]

theorem writeCredential_ok {s0 : State} {ref : Ref} {v : Val} {s : State} (hok : Ok s0 s) :
    Ok s0 (writeCredential ref v s) := by
  unfold writeCredential
  repeat' first
    | with_reducible assumption
    | (extract_lets +onlyGivenNames x
       first
       | (refine okStep (s0 := s0) (x := x) (fun hx => ?_) ?_; clear_value x; rotate_left; subst x)
       | subst x)
    | with_reducible refine Ok.ite ?_ ?_
    | with_reducible apply putObj_ok
    | with_reducible apply closeSlot_ok
    | intro _ _ _
    | intro _ _
    | split
    | dsimp only
    | dsimp only [id]

theorem putMasked_ok {s0 : State} {ref : Ref} {n : Nat} {s : State} (hok : Ok s0 s) :
    Ok s0 (putMasked ref n s) := by
  unfold putMasked
  repeat' first
    | with_reducible assumption
    | with_reducible refine Ok.ite ?_ ?_
    | with_reducible apply putObj_ok
    | intro _ _ _
    | intro _ _
    | split
    | dsimp only
    | dsimp only [id]

theorem writeCoh_ok {s0 : State} {ref : Ref} {v : Val} {s : State} (hok : Ok s0 s) :
    Ok s0 (writeCoh ref v s) := by
  unfold writeCoh
  repeat' first
    | with_reducible assumption
    | (extract_lets +onlyGivenNames x
       first
       | (refine okStep (s0 := s0) (x := x) (fun hx => ?_) ?_; clear_value x; rotate_left; subst x)
       | (refine okStep (s0 := s0) (x := x.1) (fun hx => ?_) ?_; clear_value x; rotate_left; subst x)
       | subst x)
    | with_reducible refine Ok.ite ?_ ?_
    | with_reducible apply enableCoh_ok
    | with_reducible apply disableCoh_ok
    | with_reducible apply putObj_ok
    | with_reducible refine Ok.ofPair ?_ (by with_reducible assumption)
    | intro _ _ _
    | intro _ _
    | split
    | dsimp only
    | dsimp only [id]

theorem applyUnits_ok {s0 : State} {ref : Ref} {v : Val} {s : State} (hok : Ok s0 s) :
    Ok s0 (applyUnits ref v s) := by
  unfold applyUnits
  repeat' first
    | with_reducible assumption
    | (extract_lets +onlyGivenNames x
       first
       | (refine okStep (s0 := s0) (x := x) (fun hx => ?_) ?_; clear_value x; rotate_left; subst x)
       | subst x)
    | with_reducible refine Ok.ite ?_ ?_
    | with_reducible apply startRestore_ok
    | with_reducible apply writeCredential_ok
    | with_reducible apply requestMain_ok
    | with_reducible apply requestFallback_ok
    | with_reducible apply setPortEnable_ok
    | with_reducible apply setFnEnable_ok
    | with_reducible apply serveWaits_ok
    | with_reducible apply putObj_ok
    | with_reducible apply startRepair_ok
    | with_reducible apply startMargin_ok
    | with_reducible apply writeCoh_ok
    | with_reducible apply winRequest_ok
    | with_reducible apply writePeerEntry_ok
    | with_reducible apply startUnitRemap_ok
    | with_reducible apply startStage_ok
    | with_reducible apply putMasked_ok
    | with_reducible apply setDelay_ok
    | with_reducible apply setTargetDie_ok
    | intro _ _ _
    | intro _ _
    | split
    | dsimp only
    | dsimp only [id]
    | (intro hl; simp [hl]; done)

theorem applySystem_ok {s0 : State} {ref : Ref} {v : Val} {s : State} (hok : Ok s0 s) :
    Ok s0 (applySystem ref v s) := by
  unfold applySystem
  repeat' first
    | with_reducible assumption
    | (extract_lets +onlyGivenNames x
       first
       | (refine okStep (s0 := s0) (x := x) (fun hx => ?_) ?_; clear_value x; rotate_left; subst x)
       | subst x)
    | with_reducible refine Ok.ite ?_ ?_
    | with_reducible apply startBlockReset_ok
    | with_reducible apply releasePin_ok
    | with_reducible apply modErr_ok
    | with_reducible apply putMasked_ok
    | with_reducible apply clearCounter_ok
    | with_reducible apply burnMinSec_ok
    | with_reducible apply acceptToken_ok
    | with_reducible apply setWork_ok
    | with_reducible apply requestSleep_ok
    | with_reducible apply stepStart_ok
    | with_reducible apply beginStep_ok
    | with_reducible apply copyChunk_ok
    | with_reducible apply startCalibration_ok
    | with_reducible apply putObj_ok
    | with_reducible refine Ok.ofPair ?_ (by with_reducible assumption)
    | intro _ _ _
    | intro _ _
    | split
    | (simp only [ok_lit]; with_reducible refine OkLit.of ?_ ?_ ?_ ?_ ?_ ?_ ?_ ?_ ?_)
    | exact fun h => h
    | exact fun _ => rfl
    | exact Nat.le_refl _
    | dsimp only
    | dsimp only [id]
    | (intro hl; simp [hl]; done)

theorem applyWrite_ok {s0 : State} {ref : Ref} {v : Val} {s : State} (hok : Ok s0 s) :
    Ok s0 (applyWrite ref v s) := by
  unfold applyWrite
  repeat' first
    | with_reducible assumption
    | with_reducible refine Ok.ite ?_ ?_
    | with_reducible apply applyUnits_ok
    | with_reducible apply applySystem_ok
    | intro _ _ _
    | intro _ _
    | split
    | dsimp only
    | dsimp only [id]


/-! ### Machine/Management.lean -/

theorem applyBatch_ok {s0 : State} {batch : List WEntry} {s : State} (hok : Ok s0 s) :
    Ok s0 (applyBatch batch s) := by
  unfold applyBatch
  repeat' first
    | with_reducible assumption
    | (extract_lets +onlyGivenNames x
       first
       | (refine okStep (s0 := s0) (x := x) (fun hx => ?_) ?_; clear_value x; rotate_left; subst x)
       | subst x)
    | with_reducible apply foldState_ok
    | with_reducible apply applyWrite_ok
    | with_reducible refine Ok.ofPair ?_ (by with_reducible assumption)
    | intro _ _ _
    | intro _ _
    | split
    | (simp only [ok_lit]; with_reducible refine OkLit.of ?_ ?_ ?_ ?_ ?_ ?_ ?_ ?_ ?_)
    | exact fun h => h
    | exact fun _ => rfl
    | exact Nat.le_refl _
    | dsimp only
    | dsimp only [id]

theorem writeBatch_ok {s0 : State} {rq : Requester} {batch : List WEntry} {flashFails : Bool} {s : State} (hok : Ok s0 s) :
    Ok s0 (writeBatch rq batch flashFails s).1 := by
  unfold writeBatch
  repeat' first
    | with_reducible assumption
    | (extract_lets +onlyGivenNames x
       first
       | (refine okStep (s0 := s0) (x := x) (fun hx => ?_) ?_; clear_value x; rotate_left; subst x)
       | (refine okStep (s0 := s0) (x := x.1) (fun hx => ?_) ?_; clear_value x; rotate_left; subst x)
       | subst x)
    | with_reducible refine Ok.ite ?_ ?_
    | with_reducible apply raiseError_ok
    | with_reducible apply applyBatch_ok
    | intro _ _ _
    | intro _ _
    | split
    | dsimp only
    | dsimp only [id]
    | (intro hl; simp [hl]; done)

theorem setStaging_ok {s0 : State} {rq : Requester} {sid : U32} {x : Option Staging} {s : State} (hok : Ok s0 s) :
    Ok s0 (setStaging rq sid x s) := by
  unfold setStaging
  repeat' first
    | with_reducible assumption
    | (extract_lets +onlyGivenNames x
       first
       | (refine okStep (s0 := s0) (x := x) (fun hx => ?_) ?_; clear_value x; rotate_left; subst x)
       | subst x)
    | with_reducible refine Ok.ite ?_ ?_
    | with_reducible apply modMgmt_ok
    | with_reducible apply modMbx_ok
    | with_reducible refine Ok.ofPair ?_ (by with_reducible assumption)
    | intro _ _ _
    | intro _ _
    | split
    | (simp only [ok_lit]; with_reducible refine OkLit.of ?_ ?_ ?_ ?_ ?_ ?_ ?_ ?_ ?_)
    | exact fun h => h
    | exact fun _ => rfl
    | exact Nat.le_refl _
    | dsimp only
    | dsimp only [id]
    | (intro hl; simp [hl]; done)

theorem finalSegment_ok {s0 : State} {rq : Requester} {sid : U32} {ref : Ref} {r : ObjRow} {b : Bytes} {flashFails : Bool} {s : State} (hok : Ok s0 s) :
    Ok s0 (finalSegment rq sid ref r b flashFails s).1 := by
  unfold finalSegment
  repeat' first
    | with_reducible assumption
    | (extract_lets +onlyGivenNames x
       first
       | (refine okStep (s0 := s0) (x := x) (fun hx => ?_) ?_; clear_value x; rotate_left; subst x)
       | subst x)
    | with_reducible refine Ok.ite ?_ ?_
    | with_reducible apply raiseError_ok
    | with_reducible apply applyWrite_ok
    | with_reducible apply setStaging_ok
    | with_reducible refine Ok.ofPair ?_ (by with_reducible assumption)
    | intro _ _ _
    | intro _ _
    | split
    | (simp only [ok_lit]; with_reducible refine OkLit.of ?_ ?_ ?_ ?_ ?_ ?_ ?_ ?_ ?_)
    | exact fun h => h
    | exact fun _ => rfl
    | exact Nat.le_refl _
    | dsimp only
    | dsimp only [id]
    | (intro hl; simp [hl]; done)

theorem writePart_ok {s0 : State} {rq : Requester} {sid : U32} {ref : Ref} {final : Bool} {off : Nat} {data : Bytes} {flashFails : Bool} {s : State} (hok : Ok s0 s) :
    Ok s0 (writePart rq sid ref final off data flashFails s).1 := by
  unfold writePart
  repeat' first
    | with_reducible assumption
    | (extract_lets +onlyGivenNames x
       first
       | (refine okStep (s0 := s0) (x := x) (fun hx => ?_) ?_; clear_value x; rotate_left; subst x)
       | (refine okStep (s0 := s0) (x := x.1) (fun hx => ?_) ?_; clear_value x; rotate_left; subst x)
       | subst x)
    | with_reducible refine Ok.ite ?_ ?_
    | with_reducible apply finalSegment_ok
    | with_reducible apply setStaging_ok
    | with_reducible refine Ok.ofPair ?_ (by with_reducible assumption)
    | intro _ _ _
    | intro _ _
    | split
    | (simp only [ok_lit]; with_reducible refine OkLit.of ?_ ?_ ?_ ?_ ?_ ?_ ?_ ?_ ?_)
    | exact fun h => h
    | exact fun _ => rfl
    | exact Nat.le_refl _
    | dsimp only
    | dsimp only [id]
    | (intro hl; simp [hl]; done)

theorem runAccess_ok {s0 : State} {rq : Requester} {sid : U32} {a : Access} {flashFails : Bool} {s : State} (hok : Ok s0 s) :
    Ok s0 (runAccess rq sid a flashFails s).1 := by
  unfold runAccess
  repeat' first
    | with_reducible assumption
    | (extract_lets +onlyGivenNames x
       first
       | (refine okStep (s0 := s0) (x := x) (fun hx => ?_) ?_; clear_value x; rotate_left; subst x)
       | (refine okStep (s0 := s0) (x := x.1) (fun hx => ?_) ?_; clear_value x; rotate_left; subst x)
       | subst x)
    | with_reducible apply writeBatch_ok
    | with_reducible apply writePart_ok
    | with_reducible refine Ok.ofPair ?_ (by with_reducible assumption)
    | intro _ _ _
    | intro _ _
    | split
    | (simp only [ok_lit]; with_reducible refine OkLit.of ?_ ?_ ?_ ?_ ?_ ?_ ?_ ?_ ?_)
    | exact fun h => h
    | exact fun _ => rfl
    | exact Nat.le_refl _
    | dsimp only
    | dsimp only [id]
    | (intro hl; simp [hl]; done)

theorem respondUnder_ok {s0 : State} {key : Option Bytes} {a : NetAddr} {opcode : Nat} {st : FStatus} {sid seq : U32} {payload : Bytes} {s : State} (hok : Ok s0 s) :
    Ok s0 (respondUnder key a opcode st sid seq payload s) := by
  unfold respondUnder
  repeat' first
    | with_reducible assumption
    | (extract_lets +onlyGivenNames x
       first
       | (refine okStep (s0 := s0) (x := x) (fun hx => ?_) ?_; clear_value x; rotate_left; subst x)
       | subst x)
    | with_reducible refine Ok.ite ?_ ?_
    | with_reducible apply sendNet_ok
    | with_reducible apply modMgmt_ok
    | intro _ _ _
    | intro _ _
    | split
    | (simp only [ok_lit]; with_reducible refine OkLit.of ?_ ?_ ?_ ?_ ?_ ?_ ?_ ?_ ?_)
    | exact fun h => h
    | exact fun _ => rfl
    | exact Nat.le_refl _
    | dsimp only
    | dsimp only [id]
    | (intro hl; simp [hl]; done)

theorem respondIn_ok {s0 : State} {a : NetAddr} {opcode : Nat} {st : FStatus} {sid seq : U32} {payload : Bytes} {s : State} (hok : Ok s0 s) :
    Ok s0 (respondIn a opcode st sid seq payload s) := by
  unfold respondIn
  repeat' first
    | with_reducible assumption
    | with_reducible apply respondUnder_ok
    | intro _ _ _
    | intro _ _
    | dsimp only
    | dsimp only [id]

theorem netTurn_ok {s0 : State} {flashFails : Bool} {s : State} (hok : Ok s0 s) :
    Ok s0 (netTurn flashFails s) := by
  unfold netTurn
  repeat' first
    | with_reducible assumption
    | (extract_lets +onlyGivenNames x
       first
       | (refine okStep (s0 := s0) (x := x) (fun hx => ?_) ?_; clear_value x; rotate_left; subst x)
       | (refine okStep (s0 := s0) (x := x.1) (fun hx => ?_) ?_; clear_value x; rotate_left; subst x)
       | subst x)
    | with_reducible apply modMgmt_ok
    | with_reducible apply runAccess_ok
    | with_reducible apply respondUnder_ok
    | with_reducible refine Ok.ofPair ?_ (by with_reducible assumption)
    | intro _ _ _
    | intro _ _
    | split
    | (simp only [ok_lit]; with_reducible refine OkLit.of ?_ ?_ ?_ ?_ ?_ ?_ ?_ ?_ ?_)
    | exact fun h => h
    | exact fun _ => rfl
    | exact Nat.le_refl _
    | dsimp only
    | dsimp only [id]

theorem mbxTurn_ok {s0 : State} {g : Fun} {flashFails : Bool} {s : State} (hok : Ok s0 s) :
    Ok s0 (mbxTurn g flashFails s) := by
  unfold mbxTurn
  repeat' first
    | with_reducible assumption
    | (extract_lets +onlyGivenNames x
       first
       | (refine okStep (s0 := s0) (x := x) (fun hx => ?_) ?_; clear_value x; rotate_left; subst x)
       | (refine okStep (s0 := s0) (x := x.1) (fun hx => ?_) ?_; clear_value x; rotate_left; subst x)
       | subst x)
    | with_reducible apply runAccess_ok
    | with_reducible apply modMbx_ok
    | with_reducible refine Ok.ofPair ?_ (by with_reducible assumption)
    | intro _ _ _
    | intro _ _
    | split
    | (simp only [ok_lit]; with_reducible refine OkLit.of ?_ ?_ ?_ ?_ ?_ ?_ ?_ ?_ ?_)
    | exact fun h => h
    | exact fun _ => rfl
    | exact Nat.le_refl _
    | dsimp only
    | dsimp only [id]

theorem engineTurn33_ok {s0 : State} {flashFails : Bool} {s : State} (hok : Ok s0 s) :
    Ok s0 (engineTurn33 flashFails s) := by
  unfold engineTurn33
  repeat' first
    | with_reducible assumption
    | (extract_lets +onlyGivenNames x
       first
       | (refine okStep (s0 := s0) (x := x) (fun hx => ?_) ?_; clear_value x; rotate_left; subst x)
       | subst x)
    | with_reducible refine Ok.ite ?_ ?_
    | with_reducible apply modMgmt_ok
    | with_reducible apply netTurn_ok
    | with_reducible apply mbxTurn_ok
    | with_reducible refine Ok.ofPair ?_ (by with_reducible assumption)
    | intro _ _ _
    | intro _ _
    | split
    | (simp only [ok_lit]; with_reducible refine OkLit.of ?_ ?_ ?_ ?_ ?_ ?_ ?_ ?_ ?_)
    | exact fun h => h
    | exact fun _ => rfl
    | exact Nat.le_refl _
    | dsimp only
    | dsimp only [id]
    | (intro hl; simp [hl]; done)

theorem execDictionaryEngineTurn_ok {s0 : State} {flashFails : Bool} {s : State} (hok : Ok s0 s) :
    OutOk s0 (execDictionaryEngineTurn flashFails s) := by
  unfold execDictionaryEngineTurn
  refine ⟨_, rfl, ?_⟩
  repeat' first
    | with_reducible assumption
    | with_reducible apply engineTurn33_ok
    | intro _ _ _
    | intro _ _
    | dsimp only
    | dsimp only [id]

theorem answerFree_ok {s0 : State} {a : NetAddr} {opcode : Nat} {st : FStatus} {seq : U32} {payload : Bytes} {s : State} (hok : Ok s0 s) :
    Ok s0 (answerFree a opcode st seq payload s) := by
  unfold answerFree
  repeat' first
    | with_reducible assumption
    | with_reducible apply sendNet_ok
    | intro _ _ _
    | intro _ _
    | dsimp only
    | dsimp only [id]

theorem openSession_ok {s0 : State} {src : NetAddr} {seq : U32} {b : Bytes} {s : State} (hok : Ok s0 s) :
    Ok s0 (openSession src seq b s) := by
  unfold openSession
  repeat' first
    | with_reducible assumption
    | (extract_lets +onlyGivenNames x
       first
       | (refine okStep (s0 := s0) (x := x) (fun hx => ?_) ?_; clear_value x; rotate_left; subst x)
       | (refine okStep (s0 := s0) (x := x.1) (fun hx => ?_) ?_; clear_value x; rotate_left; subst x)
       | subst x)
    | with_reducible refine Ok.ite ?_ ?_
    | with_reducible apply answerFree_ok
    | with_reducible apply drawBytes_ok
    | with_reducible apply modMgmt_ok
    | with_reducible refine Ok.ofPair ?_ (by with_reducible assumption)
    | intro _ _ _
    | intro _ _
    | split
    | (simp only [ok_lit]; with_reducible refine OkLit.of ?_ ?_ ?_ ?_ ?_ ?_ ?_ ?_ ?_)
    | exact fun h => h
    | exact fun _ => rfl
    | exact Nat.le_refl _
    | dsimp only
    | dsimp only [id]

theorem execHmpOpenSession_ok {s0 : State} {src : NetAddr} {seq : U32} {b : Bytes} {s : State} (hok : Ok s0 s) :
    OutOk s0 (execHmpOpenSession src seq b s) := by
  unfold execHmpOpenSession
  refine ⟨_, rfl, ?_⟩
  repeat' first
    | with_reducible assumption
    | with_reducible refine Ok.ite ?_ ?_
    | with_reducible apply openSession_ok
    | intro _ _ _
    | intro _ _
    | split
    | dsimp only
    | dsimp only [id]

theorem authFailed_ok {s0 : State} {k : Slot} {s : State} (hok : Ok s0 s) :
    Ok s0 (authFailed k s) := by
  unfold authFailed
  repeat' first
    | with_reducible assumption
    | (extract_lets +onlyGivenNames x
       first
       | (refine okStep (s0 := s0) (x := x) (fun hx => ?_) ?_; clear_value x; rotate_left; subst x)
       | (refine okStep (s0 := s0) (x := x.1) (fun hx => ?_) ?_; clear_value x; rotate_left; subst x)
       | subst x)
    | with_reducible refine Ok.ite ?_ ?_
    | with_reducible apply modMgmt_ok
    | intro _ _ _
    | intro _ _
    | split
    | (simp only [ok_lit]; with_reducible refine OkLit.of ?_ ?_ ?_ ?_ ?_ ?_ ?_ ?_ ?_)
    | exact fun h => h
    | exact fun _ => rfl
    | exact Nat.le_refl _
    | dsimp only
    | dsimp only [id]

theorem prove_ok {s0 : State} {src : NetAddr} {seq : U32} {b : Bytes} {s : State} (hok : Ok s0 s) :
    Ok s0 (prove src seq b s) := by
  unfold prove
  repeat' first
    | with_reducible assumption
    | (extract_lets +onlyGivenNames x
       first
       | (refine okStep (s0 := s0) (x := x) (fun hx => ?_) ?_; clear_value x; rotate_left; subst x)
       | subst x)
    | with_reducible refine Ok.ite ?_ ?_
    | with_reducible apply answerFree_ok
    | with_reducible apply modMgmt_ok
    | with_reducible apply authFailed_ok
    | with_reducible refine Ok.ofPair ?_ (by with_reducible assumption)
    | intro _ _ _
    | intro _ _
    | split
    | (simp only [ok_lit]; with_reducible refine OkLit.of ?_ ?_ ?_ ?_ ?_ ?_ ?_ ?_ ?_)
    | exact fun h => h
    | exact fun _ => rfl
    | exact Nat.le_refl _
    | dsimp only
    | dsimp only [id]
    | (intro hl; simp [hl]; done)

theorem execHmpProve_ok {s0 : State} {src : NetAddr} {seq : U32} {b : Bytes} {s : State} (hok : Ok s0 s) :
    OutOk s0 (execHmpProve src seq b s) := by
  unfold execHmpProve
  refine ⟨_, rfl, ?_⟩
  repeat' first
    | with_reducible assumption
    | with_reducible refine Ok.ite ?_ ?_
    | with_reducible apply prove_ok
    | intro _ _ _
    | intro _ _
    | split
    | dsimp only
    | dsimp only [id]

theorem acceptSeq_ok {s0 : State} {h : HmpHdr} {opcode : Nat} {s : State} (hok : Ok s0 s) :
    Ok s0 (acceptSeq h opcode s) := by
  unfold acceptSeq
  repeat' first
    | with_reducible assumption
    | (extract_lets +onlyGivenNames x
       first
       | (refine okStep (s0 := s0) (x := x) (fun hx => ?_) ?_; clear_value x; rotate_left; subst x)
       | subst x)
    | with_reducible refine Ok.ite ?_ ?_
    | with_reducible apply modMgmt_ok
    | intro _ _ _
    | intro _ _
    | split
    | (simp only [ok_lit]; with_reducible refine OkLit.of ?_ ?_ ?_ ?_ ?_ ?_ ?_ ?_ ?_)
    | exact fun h => h
    | exact fun _ => rfl
    | exact Nat.le_refl _
    | dsimp only
    | dsimp only [id]
    | (intro hl; simp [hl]; done)

theorem inSession_ok {s0 : State} {h : HmpHdr} {opcode n : Nat} {act : Session → State → State} {s : State} (h_act : ∀ a0 t, Ok s0 t → Ok s0 (act a0 t)) (hok : Ok s0 s) :
    Ok s0 (inSession h opcode n act s) := by
  unfold inSession
  repeat' first
    | with_reducible assumption
    | (extract_lets +onlyGivenNames x
       first
       | (refine okStep (s0 := s0) (x := x) (fun hx => ?_) ?_; clear_value x; rotate_left; subst x)
       | subst x)
    | with_reducible refine Ok.ite ?_ ?_
    | with_reducible apply h_act
    | with_reducible apply answerFree_ok
    | with_reducible apply acceptSeq_ok
    | with_reducible apply modMgmt_ok
    | with_reducible apply sendNet_ok
    | with_reducible apply countPackage_ok
    | with_reducible refine Ok.ofPair ?_ (by with_reducible assumption)
    | intro _ _ _
    | intro _ _
    | split
    | (simp only [ok_lit]; with_reducible refine OkLit.of ?_ ?_ ?_ ?_ ?_ ?_ ?_ ?_ ?_)
    | exact fun h => h
    | exact fun _ => rfl
    | exact Nat.le_refl _
    | dsimp only
    | dsimp only [id]
    | (intro hl; simp [hl]; done)

theorem queueAccess_ok {s0 : State} {h : HmpHdr} {opcode : Nat} {a : Option Access} {x : Session} {s : State} (hok : Ok s0 s) :
    Ok s0 (queueAccess h opcode a x s) := by
  unfold queueAccess
  repeat' first
    | with_reducible assumption
    | (extract_lets +onlyGivenNames x
       first
       | (refine okStep (s0 := s0) (x := x) (fun hx => ?_) ?_; clear_value x; rotate_left; subst x)
       | subst x)
    | with_reducible apply respondIn_ok
    | with_reducible apply modMgmt_ok
    | with_reducible refine Ok.ofPair ?_ (by with_reducible assumption)
    | intro _ _ _
    | intro _ _
    | split
    | (simp only [ok_lit]; with_reducible refine OkLit.of ?_ ?_ ?_ ?_ ?_ ?_ ?_ ?_ ?_)
    | exact fun h => h
    | exact fun _ => rfl
    | exact Nat.le_refl _
    | dsimp only
    | dsimp only [id]

theorem execHmpRead_ok {s0 : State} {h : HmpHdr} {b : Bytes} {s : State} (hok : Ok s0 s) :
    OutOk s0 (execHmpRead h b s) := by
  unfold execHmpRead
  refine ⟨_, rfl, ?_⟩
  repeat' first
    | with_reducible assumption
    | with_reducible apply inSession_ok
    | with_reducible apply queueAccess_ok
    | intro _ _ _
    | intro _ _
    | dsimp only
    | dsimp only [id]

theorem execHmpWrite_ok {s0 : State} {h : HmpHdr} {b : Bytes} {s : State} (hok : Ok s0 s) :
    OutOk s0 (execHmpWrite h b s) := by
  unfold execHmpWrite
  refine ⟨_, rfl, ?_⟩
  repeat' first
    | with_reducible assumption
    | with_reducible apply inSession_ok
    | with_reducible apply queueAccess_ok
    | intro _ _ _
    | intro _ _
    | dsimp only
    | dsimp only [id]

theorem execHmpReadSegment_ok {s0 : State} {h : HmpHdr} {b : Bytes} {s : State} (hok : Ok s0 s) :
    OutOk s0 (execHmpReadSegment h b s) := by
  unfold execHmpReadSegment
  refine ⟨_, rfl, ?_⟩
  repeat' first
    | with_reducible assumption
    | with_reducible apply inSession_ok
    | with_reducible apply queueAccess_ok
    | intro _ _ _
    | intro _ _
    | dsimp only
    | dsimp only [id]

theorem execHmpWriteSegment_ok {s0 : State} {h : HmpHdr} {b : Bytes} {s : State} (hok : Ok s0 s) :
    OutOk s0 (execHmpWriteSegment h b s) := by
  unfold execHmpWriteSegment
  refine ⟨_, rfl, ?_⟩
  repeat' first
    | with_reducible assumption
    | with_reducible apply inSession_ok
    | with_reducible apply queueAccess_ok
    | intro _ _ _
    | intro _ _
    | dsimp only
    | dsimp only [id]

theorem execHmpList_ok {s0 : State} {h : HmpHdr} {b : Bytes} {s : State} (hok : Ok s0 s) :
    OutOk s0 (execHmpList h b s) := by
  unfold execHmpList
  refine ⟨_, rfl, ?_⟩
  repeat' first
    | with_reducible assumption
    | with_reducible apply inSession_ok
    | with_reducible apply queueAccess_ok
    | intro _ _ _
    | intro _ _
    | dsimp only
    | dsimp only [id]

theorem endSession33_ok {s0 : State} {sid : U32} {s : State} (hok : Ok s0 s) :
    Ok s0 (endSession33 sid s) := by
  unfold endSession33
  repeat' first
    | with_reducible assumption
    | (extract_lets +onlyGivenNames x
       first
       | (refine okStep (s0 := s0) (x := x) (fun hx => ?_) ?_; clear_value x; rotate_left; subst x)
       | subst x)
    | with_reducible apply modMgmt_ok
    | intro _ _ _
    | intro _ _
    | (simp only [ok_lit]; with_reducible refine OkLit.of ?_ ?_ ?_ ?_ ?_ ?_ ?_ ?_ ?_)
    | exact fun h => h
    | exact fun _ => rfl
    | exact Nat.le_refl _
    | dsimp only
    | dsimp only [id]

theorem execHmpCloseSession_ok {s0 : State} {h : HmpHdr} {s : State} (hok : Ok s0 s) :
    OutOk s0 (execHmpCloseSession h s) := by
  unfold execHmpCloseSession
  refine ⟨_, rfl, ?_⟩
  repeat' first
    | with_reducible assumption
    | with_reducible apply inSession_ok
    | with_reducible apply endSession33_ok
    | with_reducible apply respondIn_ok
    | intro _ _ _
    | intro _ _
    | dsimp only
    | dsimp only [id]

theorem execHmpBadOpcode_ok {s0 : State} {h : HmpHdr} {opcode : U16} {s : State} (hok : Ok s0 s) :
    OutOk s0 (execHmpBadOpcode h opcode s) := by
  unfold execHmpBadOpcode
  refine ⟨_, rfl, ?_⟩
  repeat' first
    | with_reducible assumption
    | (extract_lets +onlyGivenNames x
       first
       | (refine okStep (s0 := s0) (x := x) (fun hx => ?_) ?_; clear_value x; rotate_left; subst x)
       | subst x)
    | with_reducible refine Ok.ite ?_ ?_
    | with_reducible apply answerFree_ok
    | with_reducible apply badOpcode_ok
    | with_reducible apply inSession_ok
    | with_reducible apply respondIn_ok
    | intro _ _ _
    | intro _ _
    | split
    | dsimp only
    | dsimp only [id]

theorem dropFrame_ok {s0 : State} {src : NetAddr} {b : Bytes} {s : State} (hok : Ok s0 s) :
    Ok s0 (dropFrame src b s) := by
  unfold dropFrame
  repeat' first
    | with_reducible assumption
    | with_reducible refine Ok.ite ?_ ?_
    | with_reducible apply countPackage_ok
    | intro _ _ _
    | intro _ _
    | split
    | dsimp only
    | dsimp only [id]

theorem execHmpFrameDropped_ok {s0 : State} {d : UdpIn} {s : State} (hok : Ok s0 s) :
    OutOk s0 (execHmpFrameDropped d s) := by
  unfold execHmpFrameDropped
  refine ⟨_, rfl, ?_⟩
  repeat' first
    | with_reducible assumption
    | with_reducible apply dropFrame_ok
    | intro _ _ _
    | intro _ _
    | dsimp only
    | dsimp only [id]

theorem execPendingSessionExpiry_ok {s0 : State} {sid : U32} {s : State} (hok : Ok s0 s) :
    OutOk s0 (execPendingSessionExpiry sid s) := by
  unfold execPendingSessionExpiry
  refine ⟨_, rfl, ?_⟩
  repeat' first
    | with_reducible assumption
    | (extract_lets +onlyGivenNames x
       first
       | (refine okStep (s0 := s0) (x := x) (fun hx => ?_) ?_; clear_value x; rotate_left; subst x)
       | subst x)
    | with_reducible apply modMgmt_ok
    | intro _ _ _
    | intro _ _
    | (simp only [ok_lit]; with_reducible refine OkLit.of ?_ ?_ ?_ ?_ ?_ ?_ ?_ ?_ ?_)
    | exact fun h => h
    | exact fun _ => rfl
    | exact Nat.le_refl _
    | dsimp only
    | dsimp only [id]

theorem execSessionIdleExpiry_ok {s0 : State} {sid : U32} {s : State} (hok : Ok s0 s) :
    OutOk s0 (execSessionIdleExpiry sid s) := by
  unfold execSessionIdleExpiry
  refine ⟨_, rfl, ?_⟩
  repeat' first
    | with_reducible assumption
    | (extract_lets +onlyGivenNames x
       first
       | (refine okStep (s0 := s0) (x := x) (fun hx => ?_) ?_; clear_value x; rotate_left; subst x)
       | subst x)
    | with_reducible apply modMgmt_ok
    | intro _ _ _
    | intro _ _
    | (simp only [ok_lit]; with_reducible refine OkLit.of ?_ ?_ ?_ ?_ ?_ ?_ ?_ ?_ ?_)
    | exact fun h => h
    | exact fun _ => rfl
    | exact Nat.le_refl _
    | dsimp only
    | dsimp only [id]

theorem execSlotLockExpiry_ok {s0 : State} {k : Slot} {s : State} (hok : Ok s0 s) :
    OutOk s0 (execSlotLockExpiry k s) := by
  unfold execSlotLockExpiry
  refine ⟨_, rfl, ?_⟩
  repeat' first
    | with_reducible assumption
    | (extract_lets +onlyGivenNames x
       first
       | (refine okStep (s0 := s0) (x := x) (fun hx => ?_) ?_; clear_value x; rotate_left; subst x)
       | (refine okStep (s0 := s0) (x := x.1) (fun hx => ?_) ?_; clear_value x; rotate_left; subst x)
       | subst x)
    | with_reducible apply modMgmt_ok
    | intro _ _ _
    | intro _ _
    | (simp only [ok_lit]; with_reducible refine OkLit.of ?_ ?_ ?_ ?_ ?_ ?_ ?_ ?_ ?_)
    | exact fun h => h
    | exact fun _ => rfl
    | exact Nat.le_refl _
    | dsimp only
    | dsimp only [id]

theorem mbxGo_ok {s0 : State} {g : Fun} {op : Nat} {s : State} (hok : Ok s0 s) :
    Ok s0 (mbxGo g op s) := by
  unfold mbxGo
  repeat' first
    | with_reducible assumption
    | (extract_lets +onlyGivenNames x
       first
       | (refine okStep (s0 := s0) (x := x) (fun hx => ?_) ?_; clear_value x; rotate_left; subst x)
       | subst x)
    | with_reducible refine Ok.ite ?_ ?_
    | with_reducible apply cfgWrite_ok
    | with_reducible apply modMbx_ok
    | with_reducible refine Ok.ofPair ?_ (by with_reducible assumption)
    | intro _ _ _
    | intro _ _
    | split
    | (simp only [ok_lit]; with_reducible refine OkLit.of ?_ ?_ ?_ ?_ ?_ ?_ ?_ ?_ ?_)
    | exact fun h => h
    | exact fun _ => rfl
    | exact Nat.le_refl _
    | dsimp only
    | dsimp only [id]

theorem execMbxRead_ok {s0 : State} {g : Fun} {s : State} (hok : Ok s0 s) :
    OutOk s0 (execMbxRead g s) := by
  unfold execMbxRead
  refine ⟨_, rfl, ?_⟩
  repeat' first
    | with_reducible assumption
    | with_reducible apply mbxGo_ok
    | intro _ _ _
    | intro _ _
    | dsimp only
    | dsimp only [id]

theorem execMbxWrite_ok {s0 : State} {g : Fun} {s : State} (hok : Ok s0 s) :
    OutOk s0 (execMbxWrite g s) := by
  unfold execMbxWrite
  refine ⟨_, rfl, ?_⟩
  repeat' first
    | with_reducible assumption
    | with_reducible apply mbxGo_ok
    | intro _ _ _
    | intro _ _
    | dsimp only
    | dsimp only [id]

theorem execMbxReadSegment_ok {s0 : State} {g : Fun} {s : State} (hok : Ok s0 s) :
    OutOk s0 (execMbxReadSegment g s) := by
  unfold execMbxReadSegment
  refine ⟨_, rfl, ?_⟩
  repeat' first
    | with_reducible assumption
    | with_reducible apply mbxGo_ok
    | intro _ _ _
    | intro _ _
    | dsimp only
    | dsimp only [id]

theorem execMbxWriteSegment_ok {s0 : State} {g : Fun} {s : State} (hok : Ok s0 s) :
    OutOk s0 (execMbxWriteSegment g s) := by
  unfold execMbxWriteSegment
  refine ⟨_, rfl, ?_⟩
  repeat' first
    | with_reducible assumption
    | with_reducible apply mbxGo_ok
    | intro _ _ _
    | intro _ _
    | dsimp only
    | dsimp only [id]

theorem execMbxWriteSegmentFinal_ok {s0 : State} {g : Fun} {s : State} (hok : Ok s0 s) :
    OutOk s0 (execMbxWriteSegmentFinal g s) := by
  unfold execMbxWriteSegmentFinal
  refine ⟨_, rfl, ?_⟩
  repeat' first
    | with_reducible assumption
    | with_reducible apply mbxGo_ok
    | intro _ _ _
    | intro _ _
    | dsimp only
    | dsimp only [id]

theorem execMbxBadOp_ok {s0 : State} {g : Fun} {op : Nat} {s : State} (hok : Ok s0 s) :
    OutOk s0 (execMbxBadOp g op s) := by
  unfold execMbxBadOp
  refine ⟨_, rfl, ?_⟩
  repeat' first
    | with_reducible assumption
    | with_reducible refine Ok.ite ?_ ?_
    | with_reducible apply mbxGo_ok
    | intro _ _ _
    | intro _ _
    | split
    | dsimp only
    | dsimp only [id]

theorem execRestoreDefaults_ok {s0 : State} {rq : Requester} {s : State} (hok : Ok s0 s) :
    OutOk s0 (execRestoreDefaults rq s) := by
  unfold execRestoreDefaults
  refine ⟨_, rfl, ?_⟩
  repeat' first
    | with_reducible assumption
    | with_reducible apply requestWrite_ok
    | with_reducible apply startRestore_ok
    | intro _ _ _
    | intro _ _
    | dsimp only
    | dsimp only [id]

theorem endRestore_ok {s0 : State} {s : State} (hok : Ok s0 s) :
    Ok s0 (endRestore s) := by
  unfold endRestore
  repeat' first
    | with_reducible assumption
    | (extract_lets +onlyGivenNames x
       first
       | (refine okStep (s0 := s0) (x := x) (fun hx => ?_) ?_; clear_value x; rotate_left; subst x)
       | (refine okStep (s0 := s0) (x := x.1) (fun hx => ?_) ?_; clear_value x; rotate_left; subst x)
       | subst x)
    | with_reducible refine Ok.ite ?_ ?_
    | with_reducible apply modMgmt_ok
    | intro _ _ _
    | intro _ _
    | split
    | (simp only [ok_lit]; with_reducible refine OkLit.of ?_ ?_ ?_ ?_ ?_ ?_ ?_ ?_ ?_)
    | exact fun h => h
    | exact fun _ => rfl
    | exact Nat.le_refl _
    | dsimp only
    | dsimp only [id]
    | (intro hl; simp [hl]; done)

theorem execRestoreDefaultsEnd_ok {s0 : State} {s : State} (hok : Ok s0 s) :
    OutOk s0 (execRestoreDefaultsEnd s) := by
  unfold execRestoreDefaultsEnd
  refine ⟨_, rfl, ?_⟩
  repeat' first
    | with_reducible assumption
    | with_reducible apply endRestore_ok
    | intro _ _ _
    | intro _ _
    | dsimp only
    | dsimp only [id]

theorem compactionStep_ok {s0 : State} {s : State} (hok : Ok s0 s) :
    Ok s0 (compactionStep s) := by
  unfold compactionStep
  repeat' first
    | with_reducible assumption
    | (extract_lets +onlyGivenNames x
       first
       | (refine okStep (s0 := s0) (x := x) (fun hx => ?_) ?_; clear_value x; rotate_left; subst x)
       | subst x)
    | with_reducible apply modMgmt_ok
    | with_reducible apply draw_ok
    | intro _ _ _
    | intro _ _
    | (simp only [ok_lit]; with_reducible refine OkLit.of ?_ ?_ ?_ ?_ ?_ ?_ ?_ ?_ ?_)
    | exact fun h => h
    | exact fun _ => rfl
    | exact Nat.le_refl _
    | dsimp only
    | dsimp only [id]

theorem execJournalCompactionStep_ok {s0 : State} {s : State} (hok : Ok s0 s) :
    OutOk s0 (execJournalCompactionStep s) := by
  unfold execJournalCompactionStep
  refine ⟨_, rfl, ?_⟩
  repeat' first
    | with_reducible assumption
    | with_reducible apply compactionStep_ok
    | intro _ _ _
    | intro _ _
    | dsimp only
    | dsimp only [id]


/-! ### Machine/Registers.lean -/

theorem clearStatus_ok {s0 : State} {g : Fun} {v : Nat} {s : State} (hok : Ok s0 s) :
    Ok s0 (clearStatus g v s) := by
  unfold clearStatus
  repeat' first
    | with_reducible assumption
    | (extract_lets +onlyGivenNames x
       first
       | (refine okStep (s0 := s0) (x := x) (fun hx => ?_) ?_; clear_value x; rotate_left; subst x)
       | subst x)
    | with_reducible apply modCfg_ok
    | (intro x hx; (repeat' split) <;> exact ⟨hx.command, hx.devCtl, hx.devCtl2, hx.bar0⟩)
    | intro _ _ _
    | intro _ _
    | (simp only [ok_lit]; with_reducible refine OkLit.of ?_ ?_ ?_ ?_ ?_ ?_ ?_ ?_ ?_)
    | exact fun h => h
    | exact fun _ => rfl
    | exact Nat.le_refl _
    | dsimp only
    | dsimp only [id]

theorem writePmcsr_ok {s0 : State} {g : Fun} {at_ size v : Nat} {s : State} (hok : Ok s0 s) :
    Ok s0 (writePmcsr g at_ size v s) := by
  unfold writePmcsr
  repeat' first
    | with_reducible assumption
    | (extract_lets +onlyGivenNames x
       first
       | (refine okStep (s0 := s0) (x := x) (fun hx => ?_) ?_; clear_value x; rotate_left; subst x)
       | subst x)
    | with_reducible refine Ok.ite ?_ ?_
    | with_reducible apply modCfg_ok
    | with_reducible apply enterD3_ok
    | with_reducible apply leaveD3_ok
    | (intro x hx; (repeat' split) <;> exact ⟨hx.command, hx.devCtl, hx.devCtl2, hx.bar0⟩)
    | intro _ _ _
    | intro _ _
    | split
    | (simp only [ok_lit]; with_reducible refine OkLit.of ?_ ?_ ?_ ?_ ?_ ?_ ?_ ?_ ?_)
    | exact fun h => h
    | exact fun _ => rfl
    | exact Nat.le_refl _
    | dsimp only
    | dsimp only [id]

theorem writeDevCtl_ok {s0 : State} {g : Fun} {at_ size v : Nat} {s : State} (hok : Ok s0 s) :
    Ok s0 (writeDevCtl g at_ size v s) := by
  unfold writeDevCtl
  repeat' first
    | with_reducible assumption
    | (extract_lets +onlyGivenNames x
       first
       | (refine okStep (s0 := s0) (x := x) (fun hx => ?_) ?_; clear_value x; rotate_left; subst x)
       | subst x)
    | with_reducible refine Ok.ite ?_ ?_
    | with_reducible apply modCfg_ok
    | with_reducible apply abortFn_ok
    | (intro x hx; (repeat' split) <;> exact ⟨hx.command, hx.devCtl, hx.devCtl2, hx.bar0⟩)
    | (intro x hx; exact ⟨hx.command, and_clear _ _ _ (by decide), hx.devCtl2, hx.bar0⟩)
    | intro _ _ _
    | intro _ _
    | split
    | (simp only [ok_lit]; with_reducible refine OkLit.of ?_ ?_ ?_ ?_ ?_ ?_ ?_ ?_ ?_)
    | exact fun h => h
    | exact fun _ => rfl
    | exact Nat.le_refl _
    | dsimp only
    | dsimp only [id]

theorem writeAts_ok {s0 : State} {g : Fun} {at_ size v : Nat} {s : State} (hok : Ok s0 s) :
    Ok s0 (writeAts g at_ size v s) := by
  unfold writeAts
  repeat' first
    | with_reducible assumption
    | (extract_lets +onlyGivenNames x
       first
       | (refine okStep (s0 := s0) (x := x) (fun hx => ?_) ?_; clear_value x; rotate_left; subst x)
       | subst x)
    | with_reducible refine Ok.ite ?_ ?_
    | with_reducible apply modCfg_ok
    | with_reducible apply dropWaits_ok
    | with_reducible apply clearAts_ok
    | (intro x hx; (repeat' split) <;> exact ⟨hx.command, hx.devCtl, hx.devCtl2, hx.bar0⟩)
    | intro _ _ _
    | intro _ _
    | split
    | (simp only [ok_lit]; with_reducible refine OkLit.of ?_ ?_ ?_ ?_ ?_ ?_ ?_ ?_ ?_)
    | exact fun h => h
    | exact fun _ => rfl
    | exact Nat.le_refl _
    | dsimp only
    | dsimp only [id]

theorem writePasid_ok {s0 : State} {g : Fun} {at_ size v : Nat} {s : State} (hok : Ok s0 s) :
    Ok s0 (writePasid g at_ size v s) := by
  unfold writePasid
  repeat' first
    | with_reducible assumption
    | (extract_lets +onlyGivenNames x
       first
       | (refine okStep (s0 := s0) (x := x) (fun hx => ?_) ?_; clear_value x; rotate_left; subst x)
       | subst x)
    | with_reducible refine Ok.ite ?_ ?_
    | with_reducible apply modCfg_ok
    | with_reducible apply clearAts_ok
    | (intro x hx; (repeat' split) <;> exact ⟨hx.command, hx.devCtl, hx.devCtl2, hx.bar0⟩)
    | intro _ _ _
    | intro _ _
    | split
    | (simp only [ok_lit]; with_reducible refine OkLit.of ?_ ?_ ?_ ?_ ?_ ?_ ?_ ?_ ?_)
    | exact fun h => h
    | exact fun _ => rfl
    | exact Nat.le_refl _
    | dsimp only
    | dsimp only [id]

theorem writeMbx_ok {s0 : State} {g : Fun} {off v : Nat} {s : State} (hok : Ok s0 s) :
    Ok s0 (writeMbx g off v s) := by
  unfold writeMbx
  repeat' first
    | with_reducible assumption
    | (extract_lets +onlyGivenNames x
       first
       | (refine okStep (s0 := s0) (x := x) (fun hx => ?_) ?_; clear_value x; rotate_left; subst x)
       | subst x)
    | with_reducible refine Ok.ite ?_ ?_
    | with_reducible apply mbxGo_ok
    | with_reducible apply modMbx_ok
    | with_reducible refine Ok.ofPair ?_ (by with_reducible assumption)
    | intro _ _ _
    | intro _ _
    | split
    | (simp only [ok_lit]; with_reducible refine OkLit.of ?_ ?_ ?_ ?_ ?_ ?_ ?_ ?_ ?_)
    | exact fun h => h
    | exact fun _ => rfl
    | exact Nat.le_refl _
    | dsimp only
    | dsimp only [id]
    | (intro hl; simp [hl]; done)

theorem storeCfg_keeps {link : Bool} {off m z : Nat} {c : FnCfg} (hok : CfgOk c) : CfgOk (storeCfg link off m z c) := by
  unfold storeCfg
  repeat' first
    | with_reducible assumption
    | exact ⟨hok.command, hok.devCtl, hok.devCtl2, w64_align _ _ (by decide)⟩
    | exact ⟨hok.command, hok.devCtl, and_clear _ _ _ (by decide), hok.bar0⟩
    | exact ⟨hok.command, hok.devCtl, hok.devCtl2, hok.bar0⟩
    | (extract_lets +onlyGivenNames x; subst x)
    | split
    | dsimp only
    | dsimp only [id]

theorem configWrite_ok {s0 : State} {g : Fun} {offset size v : Nat} {s : State} (hok : Ok s0 s) :
    Ok s0 (configWrite g offset size v s) := by
  unfold configWrite
  repeat' first
    | with_reducible assumption
    | (extract_lets +onlyGivenNames x
       first
       | (refine okStep (s0 := s0) (x := x) (fun hx => ?_) ?_; clear_value x; rotate_left; subst x)
       | subst x)
    | with_reducible refine Ok.ite ?_ ?_
    | with_reducible apply clearStatus_ok
    | with_reducible apply writeCommand_ok
    | with_reducible apply writePmcsr_ok
    | with_reducible apply writeDevCtl_ok
    | with_reducible apply writeAts_ok
    | with_reducible apply writePasid_ok
    | with_reducible apply writeMbx_ok
    | with_reducible apply modCfg_ok
    | with_reducible apply storeCfg_keeps
    | (intro x hx; (repeat' split) <;> exact ⟨hx.command, hx.devCtl, hx.devCtl2, hx.bar0⟩)
    | intro _ _ _
    | intro _ _
    | split
    | dsimp only
    | dsimp only [id]
    | (intro hl; simp [hl]; done)

theorem writeRings_ok {s0 : State} {g : Fun} {off : Nat} {q : U64} {s : State} (hok : Ok s0 s) :
    Ok s0 (writeRings g off q s) := by
  unfold writeRings
  repeat' first
    | with_reducible assumption
    | (extract_lets +onlyGivenNames x
       first
       | (refine okStep (s0 := s0) (x := x) (fun hx => ?_) ?_; clear_value x; rotate_left; subst x)
       | subst x)
    | with_reducible apply writeAdmin_ok
    | with_reducible apply modFaultq_ok
    | with_reducible apply endWaiting_ok
    | with_reducible apply writeSqBase_keeps
    | with_reducible apply writeSqControl_keeps
    | with_reducible apply writeSqTail_keeps
    | with_reducible apply writeCqBase_keeps
    | with_reducible apply writeCqControl_keeps
    | with_reducible apply writeFaultqBase_keeps
    | with_reducible apply writeFaultqControl_keeps
    | (intro x hx; (repeat' split) <;> exact ⟨hx.base, hx.low, hx.high⟩)
    | (intro x hx; exact clampTimeout_keeps hx)
    | (intro x hx; exact ⟨hx.sq, hx.cq⟩)
    | with_reducible refine Ok.ofPair ?_ (by with_reducible assumption)
    | intro _ _ _
    | intro _ _
    | split
    | (simp only [ok_lit]; with_reducible refine OkLit.of ?_ ?_ ?_ ?_ ?_ ?_ ?_ ?_ ?_)
    | exact fun h => h
    | exact fun _ => rfl
    | exact Nat.le_refl _
    | dsimp only
    | dsimp only [id]

theorem clearLoss_ok {s0 : State} {g : Fun} {source : Nat} {s : State} (hok : Ok s0 s) :
    Ok s0 (clearLoss g source s) := by
  unfold clearLoss
  repeat' first
    | with_reducible assumption
    | (extract_lets +onlyGivenNames x
       first
       | (refine okStep (s0 := s0) (x := x) (fun hx => ?_) ?_; clear_value x; rotate_left; subst x)
       | subst x)
    | with_reducible apply modInt_ok
    | (intro x hx; (repeat' split) <;> exact ⟨hx.delay, hx.masks⟩)
    | intro _ _ _
    | intro _ _
    | (simp only [ok_lit]; with_reducible refine OkLit.of ?_ ?_ ?_ ?_ ?_ ?_ ?_ ?_ ?_)
    | exact fun h => h
    | exact fun _ => rfl
    | exact Nat.le_refl _
    | dsimp only
    | dsimp only [id]

theorem writeEvents_ok {s0 : State} {g : Fun} {offset size : Nat} {q z : U64} {s : State} (hok : Ok s0 s) :
    Ok s0 (writeEvents g offset size q z s) := by
  unfold writeEvents
  repeat' first
    | with_reducible assumption
    | (extract_lets +onlyGivenNames x
       first
       | (refine okStep (s0 := s0) (x := x) (fun hx => ?_) ?_; clear_value x; rotate_left; subst x)
       | subst x)
    | with_reducible refine Ok.ite ?_ ?_
    | with_reducible apply setDelay_ok
    | with_reducible apply setTargetDie_ok
    | with_reducible apply clearLatches_ok
    | with_reducible apply writeMask_ok
    | with_reducible apply writeConsumer_ok
    | with_reducible apply foldState_ok
    | with_reducible apply clearLoss_ok
    | intro _ _ _
    | intro _ _
    | split
    | dsimp only
    | dsimp only [id]
    | (intro hl; simp [hl]; done)

theorem storeBar0_ok {s0 : State} {g : Fun} {offset size : Nat} {v : U64} {s : State} (hok : Ok s0 s) :
    Ok s0 (storeBar0 g offset size v s) := by
  unfold storeBar0
  repeat' first
    | with_reducible assumption
    | (extract_lets +onlyGivenNames x
       first
       | (refine okStep (s0 := s0) (x := x) (fun hx => ?_) ?_; clear_value x; rotate_left; subst x)
       | subst x)
    | with_reducible refine Ok.ite ?_ ?_
    | with_reducible apply writeRings_ok
    | with_reducible apply writeResponse_ok
    | with_reducible apply countFn_ok
    | with_reducible apply writeEvents_ok
    | with_reducible apply writeFnRelease_ok
    | with_reducible apply clearCounter_ok
    | with_reducible refine Ok.ofPair ?_ (by with_reducible assumption)
    | intro _ _ _
    | intro _ _
    | split
    | (simp only [ok_lit]; with_reducible refine OkLit.of ?_ ?_ ?_ ?_ ?_ ?_ ?_ ?_ ?_)
    | exact fun h => h
    | exact fun _ => rfl
    | exact Nat.le_refl _
    | dsimp only
    | dsimp only [id]
    | (intro hl; simp [hl]; done)

theorem bar0Write_ok {s0 : State} {g : Fun} {offset size : Nat} {v : U64} {poisoned : Bool} {s : State} (hok : Ok s0 s) :
    Ok s0 (bar0Write g offset size v poisoned s) := by
  unfold bar0Write
  repeat' first
    | with_reducible assumption
    | with_reducible refine Ok.ite ?_ ?_
    | with_reducible apply barWrite_ok
    | with_reducible apply poisonedTlp_ok
    | with_reducible apply countFn_ok
    | with_reducible apply storeBar0_ok
    | intro _ _ _
    | intro _ _
    | split
    | dsimp only
    | dsimp only [id]
    | (intro hl; simp [hl]; done)

theorem writeSpace_ok {s0 : State} {g : Fun} {space : Space} {offset size : Nat} {v : U64} {poisoned : Bool} {s : State} (hok : Ok s0 s) :
    Ok s0 (writeSpace g space offset size v poisoned s) := by
  unfold writeSpace
  repeat' first
    | with_reducible assumption
    | (extract_lets +onlyGivenNames x
       first
       | (refine okStep (s0 := s0) (x := x) (fun hx => ?_) ?_; clear_value x; rotate_left; subst x)
       | subst x)
    | with_reducible refine Ok.ite ?_ ?_
    | with_reducible apply cfgWrite_ok
    | with_reducible apply poisonedTlp_ok
    | with_reducible apply configWrite_ok
    | with_reducible apply bar0Write_ok
    | with_reducible apply doorbellWrite_ok
    | with_reducible apply barWrite_ok
    | with_reducible refine Ok.ofPair ?_ (by with_reducible assumption)
    | intro _ _ _
    | intro _ _
    | split
    | (simp only [ok_lit]; with_reducible refine OkLit.of ?_ ?_ ?_ ?_ ?_ ?_ ?_ ?_ ?_)
    | exact fun h => h
    | exact fun _ => rfl
    | exact Nat.le_refl _
    | dsimp only
    | dsimp only [id]
    | (intro hl; simp [hl]; done)

theorem execRegisterWrite_ok {s0 : State} {g : Fun} {space : Space} {offset size : Nat} {v : U64} {poisoned : Bool} {s : State} (hok : Ok s0 s) :
    OutOk s0 (execRegisterWrite g space offset size v poisoned s) := by
  unfold execRegisterWrite
  refine ⟨_, rfl, ?_⟩
  repeat' first
    | with_reducible assumption
    | with_reducible apply writeSpace_ok
    | intro _ _ _
    | intro _ _
    | dsimp only
    | dsimp only [id]


/-! ### Machine/Reset.lean -/

theorem recordLost_ok {s0 : State} {ref : Ref} {s : State} (hok : Ok s0 s) :
    Ok s0 (recordLost ref s) := by
  unfold recordLost
  repeat' first
    | with_reducible assumption
    | (extract_lets +onlyGivenNames x
       first
       | (refine okStep (s0 := s0) (x := x) (fun hx => ?_) ?_; clear_value x; rotate_left; subst x)
       | subst x)
    | with_reducible refine Ok.ofPair ?_ (by with_reducible assumption)
    | intro _ _ _
    | intro _ _
    | split
    | (simp only [ok_lit]; with_reducible refine OkLit.of ?_ ?_ ?_ ?_ ?_ ?_ ?_ ?_ ?_)
    | exact fun h => h
    | exact fun _ => rfl
    | exact Nat.le_refl _
    | dsimp only
    | dsimp only [id]

theorem settleRestore_ok {s0 : State} {s : State} (hok : Ok s0 s) :
    Ok s0 (settleRestore s) := by
  unfold settleRestore
  repeat' first
    | with_reducible assumption
    | with_reducible refine Ok.ite ?_ ?_
    | with_reducible apply endRestore_ok
    | with_reducible apply draw_ok
    | intro _ _ _
    | intro _ _
    | split
    | dsimp only
    | dsimp only [id]

theorem loadStored_ok {s0 : State} {s : State} (hok : Ok s0 s) :
    Ok s0 (loadStored s) := by
  unfold loadStored
  repeat' first
    | with_reducible assumption
    | (extract_lets +onlyGivenNames x
       first
       | (refine okStep (s0 := s0) (x := x) (fun hx => ?_) ?_; clear_value x; rotate_left; subst x)
       | (refine okStep (s0 := s0) (x := x.1) (fun hx => ?_) ?_; clear_value x; rotate_left; subst x)
       | subst x)
    | with_reducible apply foldState_ok
    | with_reducible apply setObj_ok
    | intro _ _ _
    | intro _ _
    | (simp only [ok_lit]; with_reducible refine OkLit.of ?_ ?_ ?_ ?_ ?_ ?_ ?_ ?_ ?_)
    | exact fun h => h
    | exact fun _ => rfl
    | exact Nat.le_refl _
    | dsimp only
    | dsimp only [id]
    | (intro hl; simp [hl]; done)

theorem bareState_ok {s0 : State} {badPairs : List Src} {s : State} (hok : Ok s0 s) : Ok s0 (bareState badPairs s) where
  inv i := {
    fns := by simpa [bareState] using (hok.inv i).fns
    fnOk := map_fnOk (f := fun x => { FnSt.init true 4096 with
      capture := if s.power.cycled then Capture.init else x.capture })
      (fun x _ => let k := FnOk.init true 4096; ⟨k.cfg, k.admin, k.faultq, k.int⟩) (hok.inv i).fnOk
    ports := by simpa [bareState] using (hok.inv i).ports
    pool := by
      have h : (bareState badPairs s).pool.mem = if s.power.cycled then [] else s.pool.mem := rfl
      rw [h]
      split
      · rfl
      · exact (hok.inv i).pool
    image := rfl
    banks := rfl
    engines := rfl
    coh := rfl
    mr := rfl }
  variant := hok.variant
  pending := hok.pending
  out := hok.out
  draws := Nat.le_trans hok.draws (Nat.le_add_right s.draws 3)

theorem takeEffect_ok {s0 : State} {s : State} (hok : Ok s0 s) :
    Ok s0 (takeEffect s) := by
  unfold takeEffect
  repeat' first
    | with_reducible assumption
    | (extract_lets +onlyGivenNames x
       first
       | (refine okStep (s0 := s0) (x := x) (fun hx => ?_) ?_; clear_value x; rotate_left; subst x)
       | subst x)
    | intro _ _ _
    | intro _ _
    | (simp only [ok_lit]; with_reducible refine OkLit.of ?_ ?_ ?_ ?_ ?_ ?_ ?_ ?_ ?_)
    | exact fun h => h
    | exact fun _ => rfl
    | exact Nat.le_refl _
    | dsimp only
    | dsimp only [id]

theorem resetFns_ok {s0 : State} {s : State} (hok : Ok s0 s) :
    Ok s0 (resetFns s) := by
  unfold resetFns
  repeat' first
    | with_reducible assumption
    | (extract_lets +onlyGivenNames x
       first
       | (refine okStep (s0 := s0) (x := x) (fun hx => ?_) ?_; clear_value x; rotate_left; subst x)
       | subst x)
    | with_reducible refine Ok.ite ?_ ?_
    | with_reducible apply foldState_ok
    | with_reducible apply modFn_ok
    | (intro x hx; (repeat' split) <;> refine ⟨?_, ?_, ?_, ?_⟩ <;> first | exact hx.cfg | exact hx.admin | exact hx.faultq | exact hx.int | exact CfgOk.init _ | exact AdminOk.init | exact FaultqOk.init | exact IntOk.init | exact ⟨hx.int.delay, hx.int.masks⟩)
    | intro _ _ _
    | intro _ _
    | split
    | (simp only [ok_lit]; with_reducible refine OkLit.of ?_ ?_ ?_ ?_ ?_ ?_ ?_ ?_ ?_)
    | exact fun h => h
    | exact fun _ => rfl
    | exact Nat.le_refl _
    | dsimp only
    | dsimp only [id]
    | (intro hl; simp [hl]; done)

theorem remapAtReset_ok {s0 : State} {logged : List Nat} {row : Nat} {s : State} (hok : Ok s0 s) :
    Ok s0 (remapAtReset logged row s) := by
  unfold remapAtReset
  repeat' first
    | with_reducible assumption
    | (extract_lets +onlyGivenNames x
       first
       | (refine okStep (s0 := s0) (x := x) (fun hx => ?_) ?_; clear_value x; rotate_left; subst x)
       | subst x)
    | with_reducible refine Ok.ite ?_ ?_
    | with_reducible apply zeroSpan_ok
    | with_reducible apply freeSpan_ok
    | with_reducible refine Ok.ofPair ?_ (by with_reducible assumption)
    | intro _ _ _
    | intro _ _
    | split
    | (simp only [ok_lit]; with_reducible refine OkLit.of ?_ ?_ ?_ ?_ ?_ ?_ ?_ ?_ ?_)
    | exact fun h => h
    | exact fun _ => rfl
    | exact Nat.le_refl _
    | dsimp only
    | dsimp only [id]
    | (intro hl; simp [hl]; done)

theorem mapPool_ok {s0 : State} {p : RowPlan} {s : State} (hok : Ok s0 s) :
    Ok s0 (mapPool p s) := by
  unfold mapPool
  repeat' first
    | with_reducible assumption
    | (extract_lets +onlyGivenNames x
       first
       | (refine okStep (s0 := s0) (x := x) (fun hx => ?_) ?_; clear_value x; rotate_left; subst x)
       | (refine okStep (s0 := s0) (x := x.1) (fun hx => ?_) ?_; clear_value x; rotate_left; subst x)
       | subst x)
    | intro _ _ _
    | intro _ _
    | (simp only [ok_lit]; with_reducible refine OkLit.of ?_ ?_ ?_ ?_ ?_ ?_ ?_ ?_ ?_)
    | exact fun h => h
    | exact fun _ => rfl
    | exact Nat.le_refl _
    | dsimp only
    | dsimp only [id]
    | (intro hl; simp [hl]; done)

theorem clearRowLog_ok {s0 : State} {s : State} (hok : Ok s0 s) :
    Ok s0 (clearRowLog s) := by
  unfold clearRowLog
  repeat' first
    | with_reducible assumption
    | with_reducible refine Ok.ite ?_ ?_
    | with_reducible apply putObj_ok
    | intro _ _ _
    | intro _ _
    | split
    | dsimp only
    | dsimp only [id]

theorem raiseMapErrors_ok {s0 : State} {s : State} (hok : Ok s0 s) :
    Ok s0 (raiseMapErrors s) := by
  unfold raiseMapErrors
  repeat' first
    | with_reducible assumption
    | (extract_lets +onlyGivenNames x
       first
       | (refine okStep (s0 := s0) (x := x) (fun hx => ?_) ?_; clear_value x; rotate_left; subst x)
       | subst x)
    | with_reducible refine Ok.ite ?_ ?_
    | with_reducible apply foldState_ok
    | with_reducible apply raiseError_ok
    | intro _ _ _
    | intro _ _
    | split
    | dsimp only
    | dsimp only [id]
    | (intro hl; simp [hl]; done)

theorem resetPool_ok {s0 : State} {f : ResetFindings} {s : State} (hok : Ok s0 s) :
    Ok s0 (resetPool f s) := by
  unfold resetPool
  repeat' first
    | with_reducible assumption
    | (extract_lets +onlyGivenNames x
       first
       | (refine okStep (s0 := s0) (x := x) (fun hx => ?_) ?_; clear_value x; rotate_left; subst x)
       | subst x)
    | with_reducible apply clearRowLog_ok
    | with_reducible apply raiseMapErrors_ok
    | with_reducible apply foldState_ok
    | with_reducible apply remapAtReset_ok
    | with_reducible apply mapPool_ok
    | intro _ _ _
    | intro _ _
    | dsimp only
    | dsimp only [id]
    | (intro hl; simp [hl]; done)

theorem raiseLost_ok {s0 : State} {lost : List Ref} {s : State} (hok : Ok s0 s) :
    Ok s0 (raiseLost lost s) := by
  unfold raiseLost
  repeat' first
    | with_reducible assumption
    | (extract_lets +onlyGivenNames x
       first
       | (refine okStep (s0 := s0) (x := x) (fun hx => ?_) ?_; clear_value x; rotate_left; subst x)
       | subst x)
    | with_reducible refine Ok.ite ?_ ?_
    | with_reducible apply foldState_ok
    | with_reducible apply raiseError_ok
    | intro _ _ _
    | intro _ _
    | split
    | (simp only [ok_lit]; with_reducible refine OkLit.of ?_ ?_ ?_ ?_ ?_ ?_ ?_ ?_ ?_)
    | exact fun h => h
    | exact fun _ => rfl
    | exact Nat.le_refl _
    | dsimp only
    | dsimp only [id]

theorem trainPorts_ok {s0 : State} {s : State} (hok : Ok s0 s) :
    Ok s0 (trainPorts s) := by
  unfold trainPorts
  repeat' first
    | with_reducible assumption
    | with_reducible refine Ok.ite ?_ ?_
    | with_reducible apply linkNonceOut_ok
    | with_reducible apply foldState_ok
    | with_reducible apply beginTraining_ok
    | intro _ _ _
    | intro _ _
    | split
    | dsimp only
    | dsimp only [id]

theorem holdPool_ok {s0 : State} {f : ResetFindings} {s : State} (hok : Ok s0 s) :
    Ok s0 (holdPool f s) := by
  unfold holdPool
  repeat' first
    | with_reducible assumption
    | (extract_lets +onlyGivenNames x
       first
       | (refine okStep (s0 := s0) (x := x) (fun hx => ?_) ?_; clear_value x; rotate_left; subst x)
       | subst x)
    | intro _ _ _
    | intro _ _
    | (simp only [ok_lit]; with_reducible refine OkLit.of ?_ ?_ ?_ ?_ ?_ ?_ ?_ ?_ ?_)
    | exact fun h => h
    | exact fun _ => rfl
    | exact Nat.le_refl _
    | dsimp only
    | dsimp only [id]

theorem resetMem_ok {s0 : State} {f : ResetFindings} {s : State} (hok : Ok s0 s) :
    Ok s0 (resetMem f s) := by
  unfold resetMem
  repeat' first
    | with_reducible assumption
    | with_reducible refine Ok.ite ?_ ?_
    | with_reducible apply resetPool_ok
    | with_reducible apply holdPool_ok
    | intro _ _ _
    | intro _ _
    | split
    | dsimp only
    | dsimp only [id]
    | (intro hl; simp [hl]; done)

theorem finishPool_ok {s0 : State} {s : State} (hok : Ok s0 s) :
    Ok s0 (finishPool s) := by
  unfold finishPool
  repeat' first
    | with_reducible assumption
    | (extract_lets +onlyGivenNames x
       first
       | (refine okStep (s0 := s0) (x := x) (fun hx => ?_) ?_; clear_value x; rotate_left; subst x)
       | subst x)
    | with_reducible apply resetPool_ok
    | with_reducible refine Ok.ofPair ?_ (by with_reducible assumption)
    | intro _ _ _
    | intro _ _
    | split
    | (simp only [ok_lit]; with_reducible refine OkLit.of ?_ ?_ ?_ ?_ ?_ ?_ ?_ ?_ ?_)
    | exact fun h => h
    | exact fun _ => rfl
    | exact Nat.le_refl _
    | dsimp only
    | dsimp only [id]
    | (intro hl; simp [hl]; done)

theorem packageReset_ok {s0 : State} {f : ResetFindings} {s : State} (hok : Ok s0 s) :
    Ok s0 (packageReset f s) := by
  unfold packageReset
  repeat' first
    | with_reducible assumption
    | (extract_lets +onlyGivenNames x
       first
       | (refine okStep (s0 := s0) (x := x) (fun hx => ?_) ?_; clear_value x; rotate_left; subst x)
       | (refine okStep (s0 := s0) (x := x.1) (fun hx => ?_) ?_; clear_value x; rotate_left; subst x)
       | subst x)
    | with_reducible refine Ok.ite ?_ ?_
    | with_reducible apply flushRecords_ok
    | with_reducible apply settleRestore_ok
    | with_reducible apply foldState_ok
    | with_reducible apply freeSpan_ok
    | with_reducible apply loadStored_ok
    | with_reducible apply bareState_ok
    | with_reducible apply recordLost_ok
    | with_reducible apply resetFns_ok
    | with_reducible apply takeEffect_ok
    | with_reducible apply bootStops_ok
    | with_reducible apply trainPorts_ok
    | with_reducible apply resetMem_ok
    | with_reducible apply raiseLost_ok
    | intro _ _ _
    | intro _ _
    | split
    | (simp only [ok_lit]; with_reducible refine OkLit.of ?_ ?_ ?_ ?_ ?_ ?_ ?_ ?_ ?_)
    | exact fun h => h
    | exact fun _ => rfl
    | exact Nat.le_refl _
    | dsimp only
    | dsimp only [id]
    | (intro hl; simp [hl]; done)

theorem execPackageReset_ok {s0 : State} {f : ResetFindings} {s : State} (hok : Ok s0 s) :
    OutOk s0 (execPackageReset f s) := by
  unfold execPackageReset
  refine ⟨_, rfl, ?_⟩
  repeat' first
    | with_reducible assumption
    | with_reducible refine Ok.ite ?_ ?_
    | with_reducible apply packageReset_ok
    | intro _ _ _
    | intro _ _
    | split
    | dsimp only
    | dsimp only [id]

theorem execResetDone_ok {s0 : State} {s : State} (hok : Ok s0 s) :
    OutOk s0 (execResetDone s) := by
  unfold execResetDone
  refine ⟨_, rfl, ?_⟩
  repeat' first
    | with_reducible assumption
    | (extract_lets +onlyGivenNames x
       first
       | (refine okStep (s0 := s0) (x := x) (fun hx => ?_) ?_; clear_value x; rotate_left; subst x)
       | subst x)
    | with_reducible refine Ok.ite ?_ ?_
    | with_reducible apply finishPool_ok
    | intro _ _ _
    | intro _ _
    | split
    | (simp only [ok_lit]; with_reducible refine OkLit.of ?_ ?_ ?_ ?_ ?_ ?_ ?_ ?_ ?_)
    | exact fun h => h
    | exact fun _ => rfl
    | exact Nat.le_refl _
    | dsimp only
    | dsimp only [id]

end Sys2Proof.Machine
end

