-- ==== Sys2Proof/Laws/State.lean ====
section
/-!
SUPPORT. One lemma for each field and each plain update of the state, and what the reads of one function, port,
context, object and command give after an update.
-/
namespace Sys2Proof.Machine

variable {s t : State}

@[simp] theorem modFn_variant {g : Fun} {f : FnSt → FnSt} : (modFn g f s).variant = s.variant := rfl
@[simp] theorem modFn_gtc {g : Fun} {f : FnSt → FnSt} : (modFn g f s).gtc = s.gtc := rfl
@[simp] theorem modFn_od {g : Fun} {f : FnSt → FnSt} : (modFn g f s).od = s.od := rfl
@[simp] theorem modFn_stored {g : Fun} {f : FnSt → FnSt} : (modFn g f s).stored = s.stored := rfl
@[simp] theorem modFn_counters {g : Fun} {f : FnSt → FnSt} : (modFn g f s).counters = s.counters := rfl
@[simp] theorem modFn_mgmt {g : Fun} {f : FnSt → FnSt} : (modFn g f s).mgmt = s.mgmt := rfl
@[simp] theorem modFn_ports {g : Fun} {f : FnSt → FnSt} : (modFn g f s).ports = s.ports := rfl
@[simp] theorem modFn_port0 {g : Fun} {f : FnSt → FnSt} : (modFn g f s).port0 = s.port0 := rfl
@[simp] theorem modFn_obj {g : Fun} {f : FnSt → FnSt} : (modFn g f s).obj = s.obj := rfl
@[simp] theorem modFn_cmd {g : Fun} {f : FnSt → FnSt} : (modFn g f s).cmd = s.cmd := rfl
@[simp] theorem modFn_trans {g : Fun} {f : FnSt → FnSt} : (modFn g f s).trans = s.trans := rfl
@[simp] theorem modFn_win {g : Fun} {f : FnSt → FnSt} : (modFn g f s).win = s.win := rfl
@[simp] theorem modFn_pool {g : Fun} {f : FnSt → FnSt} : (modFn g f s).pool = s.pool := rfl
@[simp] theorem modFn_sync {g : Fun} {f : FnSt → FnSt} : (modFn g f s).sync = s.sync := rfl
@[simp] theorem modFn_det {g : Fun} {f : FnSt → FnSt} : (modFn g f s).det = s.det := rfl
@[simp] theorem modFn_idle {g : Fun} {f : FnSt → FnSt} : (modFn g f s).idle = s.idle := rfl
@[simp] theorem modFn_err {g : Fun} {f : FnSt → FnSt} : (modFn g f s).err = s.err := rfl
@[simp] theorem modFn_sec {g : Fun} {f : FnSt → FnSt} : (modFn g f s).sec = s.sec := rfl
@[simp] theorem modFn_power {g : Fun} {f : FnSt → FnSt} : (modFn g f s).power = s.power := rfl
@[simp] theorem modFn_boot {g : Fun} {f : FnSt → FnSt} : (modFn g f s).boot = s.boot := rfl
@[simp] theorem modFn_draws {g : Fun} {f : FnSt → FnSt} : (modFn g f s).draws = s.draws := rfl
@[simp] theorem modFn_out {g : Fun} {f : FnSt → FnSt} : (modFn g f s).out = s.out := rfl
@[simp] theorem modFn_pending {g : Fun} {f : FnSt → FnSt} : (modFn g f s).pending = s.pending := rfl

@[simp] theorem modCfg_variant {g : Fun} {f : FnCfg → FnCfg} : (modCfg g f s).variant = s.variant := rfl
@[simp] theorem modCfg_gtc {g : Fun} {f : FnCfg → FnCfg} : (modCfg g f s).gtc = s.gtc := rfl
@[simp] theorem modCfg_od {g : Fun} {f : FnCfg → FnCfg} : (modCfg g f s).od = s.od := rfl
@[simp] theorem modCfg_stored {g : Fun} {f : FnCfg → FnCfg} : (modCfg g f s).stored = s.stored := rfl
@[simp] theorem modCfg_counters {g : Fun} {f : FnCfg → FnCfg} : (modCfg g f s).counters = s.counters := rfl
@[simp] theorem modCfg_mgmt {g : Fun} {f : FnCfg → FnCfg} : (modCfg g f s).mgmt = s.mgmt := rfl
@[simp] theorem modCfg_ports {g : Fun} {f : FnCfg → FnCfg} : (modCfg g f s).ports = s.ports := rfl
@[simp] theorem modCfg_port0 {g : Fun} {f : FnCfg → FnCfg} : (modCfg g f s).port0 = s.port0 := rfl
@[simp] theorem modCfg_obj {g : Fun} {f : FnCfg → FnCfg} : (modCfg g f s).obj = s.obj := rfl
@[simp] theorem modCfg_cmd {g : Fun} {f : FnCfg → FnCfg} : (modCfg g f s).cmd = s.cmd := rfl
@[simp] theorem modCfg_trans {g : Fun} {f : FnCfg → FnCfg} : (modCfg g f s).trans = s.trans := rfl
@[simp] theorem modCfg_win {g : Fun} {f : FnCfg → FnCfg} : (modCfg g f s).win = s.win := rfl
@[simp] theorem modCfg_pool {g : Fun} {f : FnCfg → FnCfg} : (modCfg g f s).pool = s.pool := rfl
@[simp] theorem modCfg_sync {g : Fun} {f : FnCfg → FnCfg} : (modCfg g f s).sync = s.sync := rfl
@[simp] theorem modCfg_det {g : Fun} {f : FnCfg → FnCfg} : (modCfg g f s).det = s.det := rfl
@[simp] theorem modCfg_idle {g : Fun} {f : FnCfg → FnCfg} : (modCfg g f s).idle = s.idle := rfl
@[simp] theorem modCfg_err {g : Fun} {f : FnCfg → FnCfg} : (modCfg g f s).err = s.err := rfl
@[simp] theorem modCfg_sec {g : Fun} {f : FnCfg → FnCfg} : (modCfg g f s).sec = s.sec := rfl
@[simp] theorem modCfg_power {g : Fun} {f : FnCfg → FnCfg} : (modCfg g f s).power = s.power := rfl
@[simp] theorem modCfg_boot {g : Fun} {f : FnCfg → FnCfg} : (modCfg g f s).boot = s.boot := rfl
@[simp] theorem modCfg_draws {g : Fun} {f : FnCfg → FnCfg} : (modCfg g f s).draws = s.draws := rfl
@[simp] theorem modCfg_out {g : Fun} {f : FnCfg → FnCfg} : (modCfg g f s).out = s.out := rfl
@[simp] theorem modCfg_pending {g : Fun} {f : FnCfg → FnCfg} : (modCfg g f s).pending = s.pending := rfl

@[simp] theorem modMbx_variant {g : Fun} {f : MbxSt → MbxSt} : (modMbx g f s).variant = s.variant := rfl
@[simp] theorem modMbx_gtc {g : Fun} {f : MbxSt → MbxSt} : (modMbx g f s).gtc = s.gtc := rfl
@[simp] theorem modMbx_od {g : Fun} {f : MbxSt → MbxSt} : (modMbx g f s).od = s.od := rfl
@[simp] theorem modMbx_stored {g : Fun} {f : MbxSt → MbxSt} : (modMbx g f s).stored = s.stored := rfl
@[simp] theorem modMbx_counters {g : Fun} {f : MbxSt → MbxSt} : (modMbx g f s).counters = s.counters := rfl
@[simp] theorem modMbx_mgmt {g : Fun} {f : MbxSt → MbxSt} : (modMbx g f s).mgmt = s.mgmt := rfl
@[simp] theorem modMbx_ports {g : Fun} {f : MbxSt → MbxSt} : (modMbx g f s).ports = s.ports := rfl
@[simp] theorem modMbx_port0 {g : Fun} {f : MbxSt → MbxSt} : (modMbx g f s).port0 = s.port0 := rfl
@[simp] theorem modMbx_obj {g : Fun} {f : MbxSt → MbxSt} : (modMbx g f s).obj = s.obj := rfl
@[simp] theorem modMbx_cmd {g : Fun} {f : MbxSt → MbxSt} : (modMbx g f s).cmd = s.cmd := rfl
@[simp] theorem modMbx_trans {g : Fun} {f : MbxSt → MbxSt} : (modMbx g f s).trans = s.trans := rfl
@[simp] theorem modMbx_win {g : Fun} {f : MbxSt → MbxSt} : (modMbx g f s).win = s.win := rfl
@[simp] theorem modMbx_pool {g : Fun} {f : MbxSt → MbxSt} : (modMbx g f s).pool = s.pool := rfl
@[simp] theorem modMbx_sync {g : Fun} {f : MbxSt → MbxSt} : (modMbx g f s).sync = s.sync := rfl
@[simp] theorem modMbx_det {g : Fun} {f : MbxSt → MbxSt} : (modMbx g f s).det = s.det := rfl
@[simp] theorem modMbx_idle {g : Fun} {f : MbxSt → MbxSt} : (modMbx g f s).idle = s.idle := rfl
@[simp] theorem modMbx_err {g : Fun} {f : MbxSt → MbxSt} : (modMbx g f s).err = s.err := rfl
@[simp] theorem modMbx_sec {g : Fun} {f : MbxSt → MbxSt} : (modMbx g f s).sec = s.sec := rfl
@[simp] theorem modMbx_power {g : Fun} {f : MbxSt → MbxSt} : (modMbx g f s).power = s.power := rfl
@[simp] theorem modMbx_boot {g : Fun} {f : MbxSt → MbxSt} : (modMbx g f s).boot = s.boot := rfl
@[simp] theorem modMbx_draws {g : Fun} {f : MbxSt → MbxSt} : (modMbx g f s).draws = s.draws := rfl
@[simp] theorem modMbx_out {g : Fun} {f : MbxSt → MbxSt} : (modMbx g f s).out = s.out := rfl
@[simp] theorem modMbx_pending {g : Fun} {f : MbxSt → MbxSt} : (modMbx g f s).pending = s.pending := rfl

@[simp] theorem modAdmin_variant {g : Fun} {f : AdminQ → AdminQ} : (modAdmin g f s).variant = s.variant := rfl
@[simp] theorem modAdmin_gtc {g : Fun} {f : AdminQ → AdminQ} : (modAdmin g f s).gtc = s.gtc := rfl
@[simp] theorem modAdmin_od {g : Fun} {f : AdminQ → AdminQ} : (modAdmin g f s).od = s.od := rfl
@[simp] theorem modAdmin_stored {g : Fun} {f : AdminQ → AdminQ} : (modAdmin g f s).stored = s.stored := rfl
@[simp] theorem modAdmin_counters {g : Fun} {f : AdminQ → AdminQ} : (modAdmin g f s).counters = s.counters := rfl
@[simp] theorem modAdmin_mgmt {g : Fun} {f : AdminQ → AdminQ} : (modAdmin g f s).mgmt = s.mgmt := rfl
@[simp] theorem modAdmin_ports {g : Fun} {f : AdminQ → AdminQ} : (modAdmin g f s).ports = s.ports := rfl
@[simp] theorem modAdmin_port0 {g : Fun} {f : AdminQ → AdminQ} : (modAdmin g f s).port0 = s.port0 := rfl
@[simp] theorem modAdmin_obj {g : Fun} {f : AdminQ → AdminQ} : (modAdmin g f s).obj = s.obj := rfl
@[simp] theorem modAdmin_cmd {g : Fun} {f : AdminQ → AdminQ} : (modAdmin g f s).cmd = s.cmd := rfl
@[simp] theorem modAdmin_trans {g : Fun} {f : AdminQ → AdminQ} : (modAdmin g f s).trans = s.trans := rfl
@[simp] theorem modAdmin_win {g : Fun} {f : AdminQ → AdminQ} : (modAdmin g f s).win = s.win := rfl
@[simp] theorem modAdmin_pool {g : Fun} {f : AdminQ → AdminQ} : (modAdmin g f s).pool = s.pool := rfl
@[simp] theorem modAdmin_sync {g : Fun} {f : AdminQ → AdminQ} : (modAdmin g f s).sync = s.sync := rfl
@[simp] theorem modAdmin_det {g : Fun} {f : AdminQ → AdminQ} : (modAdmin g f s).det = s.det := rfl
@[simp] theorem modAdmin_idle {g : Fun} {f : AdminQ → AdminQ} : (modAdmin g f s).idle = s.idle := rfl
@[simp] theorem modAdmin_err {g : Fun} {f : AdminQ → AdminQ} : (modAdmin g f s).err = s.err := rfl
@[simp] theorem modAdmin_sec {g : Fun} {f : AdminQ → AdminQ} : (modAdmin g f s).sec = s.sec := rfl
@[simp] theorem modAdmin_power {g : Fun} {f : AdminQ → AdminQ} : (modAdmin g f s).power = s.power := rfl
@[simp] theorem modAdmin_boot {g : Fun} {f : AdminQ → AdminQ} : (modAdmin g f s).boot = s.boot := rfl
@[simp] theorem modAdmin_draws {g : Fun} {f : AdminQ → AdminQ} : (modAdmin g f s).draws = s.draws := rfl
@[simp] theorem modAdmin_out {g : Fun} {f : AdminQ → AdminQ} : (modAdmin g f s).out = s.out := rfl
@[simp] theorem modAdmin_pending {g : Fun} {f : AdminQ → AdminQ} : (modAdmin g f s).pending = s.pending := rfl

@[simp] theorem modFaultq_variant {g : Fun} {f : FaultQ → FaultQ} : (modFaultq g f s).variant = s.variant := rfl
@[simp] theorem modFaultq_gtc {g : Fun} {f : FaultQ → FaultQ} : (modFaultq g f s).gtc = s.gtc := rfl
@[simp] theorem modFaultq_od {g : Fun} {f : FaultQ → FaultQ} : (modFaultq g f s).od = s.od := rfl
@[simp] theorem modFaultq_stored {g : Fun} {f : FaultQ → FaultQ} : (modFaultq g f s).stored = s.stored := rfl
@[simp] theorem modFaultq_counters {g : Fun} {f : FaultQ → FaultQ} : (modFaultq g f s).counters = s.counters := rfl
@[simp] theorem modFaultq_mgmt {g : Fun} {f : FaultQ → FaultQ} : (modFaultq g f s).mgmt = s.mgmt := rfl
@[simp] theorem modFaultq_ports {g : Fun} {f : FaultQ → FaultQ} : (modFaultq g f s).ports = s.ports := rfl
@[simp] theorem modFaultq_port0 {g : Fun} {f : FaultQ → FaultQ} : (modFaultq g f s).port0 = s.port0 := rfl
@[simp] theorem modFaultq_obj {g : Fun} {f : FaultQ → FaultQ} : (modFaultq g f s).obj = s.obj := rfl
@[simp] theorem modFaultq_cmd {g : Fun} {f : FaultQ → FaultQ} : (modFaultq g f s).cmd = s.cmd := rfl
@[simp] theorem modFaultq_trans {g : Fun} {f : FaultQ → FaultQ} : (modFaultq g f s).trans = s.trans := rfl
@[simp] theorem modFaultq_win {g : Fun} {f : FaultQ → FaultQ} : (modFaultq g f s).win = s.win := rfl
@[simp] theorem modFaultq_pool {g : Fun} {f : FaultQ → FaultQ} : (modFaultq g f s).pool = s.pool := rfl
@[simp] theorem modFaultq_sync {g : Fun} {f : FaultQ → FaultQ} : (modFaultq g f s).sync = s.sync := rfl
@[simp] theorem modFaultq_det {g : Fun} {f : FaultQ → FaultQ} : (modFaultq g f s).det = s.det := rfl
@[simp] theorem modFaultq_idle {g : Fun} {f : FaultQ → FaultQ} : (modFaultq g f s).idle = s.idle := rfl
@[simp] theorem modFaultq_err {g : Fun} {f : FaultQ → FaultQ} : (modFaultq g f s).err = s.err := rfl
@[simp] theorem modFaultq_sec {g : Fun} {f : FaultQ → FaultQ} : (modFaultq g f s).sec = s.sec := rfl
@[simp] theorem modFaultq_power {g : Fun} {f : FaultQ → FaultQ} : (modFaultq g f s).power = s.power := rfl
@[simp] theorem modFaultq_boot {g : Fun} {f : FaultQ → FaultQ} : (modFaultq g f s).boot = s.boot := rfl
@[simp] theorem modFaultq_draws {g : Fun} {f : FaultQ → FaultQ} : (modFaultq g f s).draws = s.draws := rfl
@[simp] theorem modFaultq_out {g : Fun} {f : FaultQ → FaultQ} : (modFaultq g f s).out = s.out := rfl
@[simp] theorem modFaultq_pending {g : Fun} {f : FaultQ → FaultQ} : (modFaultq g f s).pending = s.pending := rfl

@[simp] theorem modInt_variant {g : Fun} {f : IntSt → IntSt} : (modInt g f s).variant = s.variant := rfl
@[simp] theorem modInt_gtc {g : Fun} {f : IntSt → IntSt} : (modInt g f s).gtc = s.gtc := rfl
@[simp] theorem modInt_od {g : Fun} {f : IntSt → IntSt} : (modInt g f s).od = s.od := rfl
@[simp] theorem modInt_stored {g : Fun} {f : IntSt → IntSt} : (modInt g f s).stored = s.stored := rfl
@[simp] theorem modInt_counters {g : Fun} {f : IntSt → IntSt} : (modInt g f s).counters = s.counters := rfl
@[simp] theorem modInt_mgmt {g : Fun} {f : IntSt → IntSt} : (modInt g f s).mgmt = s.mgmt := rfl
@[simp] theorem modInt_ports {g : Fun} {f : IntSt → IntSt} : (modInt g f s).ports = s.ports := rfl
@[simp] theorem modInt_port0 {g : Fun} {f : IntSt → IntSt} : (modInt g f s).port0 = s.port0 := rfl
@[simp] theorem modInt_obj {g : Fun} {f : IntSt → IntSt} : (modInt g f s).obj = s.obj := rfl
@[simp] theorem modInt_cmd {g : Fun} {f : IntSt → IntSt} : (modInt g f s).cmd = s.cmd := rfl
@[simp] theorem modInt_trans {g : Fun} {f : IntSt → IntSt} : (modInt g f s).trans = s.trans := rfl
@[simp] theorem modInt_win {g : Fun} {f : IntSt → IntSt} : (modInt g f s).win = s.win := rfl
@[simp] theorem modInt_pool {g : Fun} {f : IntSt → IntSt} : (modInt g f s).pool = s.pool := rfl
@[simp] theorem modInt_sync {g : Fun} {f : IntSt → IntSt} : (modInt g f s).sync = s.sync := rfl
@[simp] theorem modInt_det {g : Fun} {f : IntSt → IntSt} : (modInt g f s).det = s.det := rfl
@[simp] theorem modInt_idle {g : Fun} {f : IntSt → IntSt} : (modInt g f s).idle = s.idle := rfl
@[simp] theorem modInt_err {g : Fun} {f : IntSt → IntSt} : (modInt g f s).err = s.err := rfl
@[simp] theorem modInt_sec {g : Fun} {f : IntSt → IntSt} : (modInt g f s).sec = s.sec := rfl
@[simp] theorem modInt_power {g : Fun} {f : IntSt → IntSt} : (modInt g f s).power = s.power := rfl
@[simp] theorem modInt_boot {g : Fun} {f : IntSt → IntSt} : (modInt g f s).boot = s.boot := rfl
@[simp] theorem modInt_draws {g : Fun} {f : IntSt → IntSt} : (modInt g f s).draws = s.draws := rfl
@[simp] theorem modInt_out {g : Fun} {f : IntSt → IntSt} : (modInt g f s).out = s.out := rfl
@[simp] theorem modInt_pending {g : Fun} {f : IntSt → IntSt} : (modInt g f s).pending = s.pending := rfl

@[simp] theorem modPort_variant {p : Port} {f : PortSt → PortSt} : (modPort p f s).variant = s.variant := rfl
@[simp] theorem modPort_gtc {p : Port} {f : PortSt → PortSt} : (modPort p f s).gtc = s.gtc := rfl
@[simp] theorem modPort_od {p : Port} {f : PortSt → PortSt} : (modPort p f s).od = s.od := rfl
@[simp] theorem modPort_stored {p : Port} {f : PortSt → PortSt} : (modPort p f s).stored = s.stored := rfl
@[simp] theorem modPort_counters {p : Port} {f : PortSt → PortSt} : (modPort p f s).counters = s.counters := rfl
@[simp] theorem modPort_mgmt {p : Port} {f : PortSt → PortSt} : (modPort p f s).mgmt = s.mgmt := rfl
@[simp] theorem modPort_port0 {p : Port} {f : PortSt → PortSt} : (modPort p f s).port0 = s.port0 := rfl
@[simp] theorem modPort_fns {p : Port} {f : PortSt → PortSt} : (modPort p f s).fns = s.fns := rfl
@[simp] theorem modPort_obj {p : Port} {f : PortSt → PortSt} : (modPort p f s).obj = s.obj := rfl
@[simp] theorem modPort_cmd {p : Port} {f : PortSt → PortSt} : (modPort p f s).cmd = s.cmd := rfl
@[simp] theorem modPort_trans {p : Port} {f : PortSt → PortSt} : (modPort p f s).trans = s.trans := rfl
@[simp] theorem modPort_win {p : Port} {f : PortSt → PortSt} : (modPort p f s).win = s.win := rfl
@[simp] theorem modPort_pool {p : Port} {f : PortSt → PortSt} : (modPort p f s).pool = s.pool := rfl
@[simp] theorem modPort_sync {p : Port} {f : PortSt → PortSt} : (modPort p f s).sync = s.sync := rfl
@[simp] theorem modPort_det {p : Port} {f : PortSt → PortSt} : (modPort p f s).det = s.det := rfl
@[simp] theorem modPort_idle {p : Port} {f : PortSt → PortSt} : (modPort p f s).idle = s.idle := rfl
@[simp] theorem modPort_err {p : Port} {f : PortSt → PortSt} : (modPort p f s).err = s.err := rfl
@[simp] theorem modPort_sec {p : Port} {f : PortSt → PortSt} : (modPort p f s).sec = s.sec := rfl
@[simp] theorem modPort_power {p : Port} {f : PortSt → PortSt} : (modPort p f s).power = s.power := rfl
@[simp] theorem modPort_boot {p : Port} {f : PortSt → PortSt} : (modPort p f s).boot = s.boot := rfl
@[simp] theorem modPort_draws {p : Port} {f : PortSt → PortSt} : (modPort p f s).draws = s.draws := rfl
@[simp] theorem modPort_out {p : Port} {f : PortSt → PortSt} : (modPort p f s).out = s.out := rfl
@[simp] theorem modPort_pending {p : Port} {f : PortSt → PortSt} : (modPort p f s).pending = s.pending := rfl

@[simp] theorem emit_variant {m : Msg} : (emit m s).variant = s.variant := rfl
@[simp] theorem emit_gtc {m : Msg} : (emit m s).gtc = s.gtc := rfl
@[simp] theorem emit_od {m : Msg} : (emit m s).od = s.od := rfl
@[simp] theorem emit_stored {m : Msg} : (emit m s).stored = s.stored := rfl
@[simp] theorem emit_counters {m : Msg} : (emit m s).counters = s.counters := rfl
@[simp] theorem emit_mgmt {m : Msg} : (emit m s).mgmt = s.mgmt := rfl
@[simp] theorem emit_ports {m : Msg} : (emit m s).ports = s.ports := rfl
@[simp] theorem emit_port0 {m : Msg} : (emit m s).port0 = s.port0 := rfl
@[simp] theorem emit_fns {m : Msg} : (emit m s).fns = s.fns := rfl
@[simp] theorem emit_obj {m : Msg} : (emit m s).obj = s.obj := rfl
@[simp] theorem emit_cmd {m : Msg} : (emit m s).cmd = s.cmd := rfl
@[simp] theorem emit_trans {m : Msg} : (emit m s).trans = s.trans := rfl
@[simp] theorem emit_win {m : Msg} : (emit m s).win = s.win := rfl
@[simp] theorem emit_pool {m : Msg} : (emit m s).pool = s.pool := rfl
@[simp] theorem emit_sync {m : Msg} : (emit m s).sync = s.sync := rfl
@[simp] theorem emit_det {m : Msg} : (emit m s).det = s.det := rfl
@[simp] theorem emit_idle {m : Msg} : (emit m s).idle = s.idle := rfl
@[simp] theorem emit_err {m : Msg} : (emit m s).err = s.err := rfl
@[simp] theorem emit_sec {m : Msg} : (emit m s).sec = s.sec := rfl
@[simp] theorem emit_power {m : Msg} : (emit m s).power = s.power := rfl
@[simp] theorem emit_boot {m : Msg} : (emit m s).boot = s.boot := rfl
@[simp] theorem emit_draws {m : Msg} : (emit m s).draws = s.draws := rfl
@[simp] theorem emit_pending {m : Msg} : (emit m s).pending = s.pending := rfl

@[simp] theorem draw_variant : (draw s).variant = s.variant := rfl
@[simp] theorem draw_gtc : (draw s).gtc = s.gtc := rfl
@[simp] theorem draw_od : (draw s).od = s.od := rfl
@[simp] theorem draw_stored : (draw s).stored = s.stored := rfl
@[simp] theorem draw_counters : (draw s).counters = s.counters := rfl
@[simp] theorem draw_mgmt : (draw s).mgmt = s.mgmt := rfl
@[simp] theorem draw_ports : (draw s).ports = s.ports := rfl
@[simp] theorem draw_port0 : (draw s).port0 = s.port0 := rfl
@[simp] theorem draw_fns : (draw s).fns = s.fns := rfl
@[simp] theorem draw_obj : (draw s).obj = s.obj := rfl
@[simp] theorem draw_cmd : (draw s).cmd = s.cmd := rfl
@[simp] theorem draw_trans : (draw s).trans = s.trans := rfl
@[simp] theorem draw_win : (draw s).win = s.win := rfl
@[simp] theorem draw_pool : (draw s).pool = s.pool := rfl
@[simp] theorem draw_sync : (draw s).sync = s.sync := rfl
@[simp] theorem draw_det : (draw s).det = s.det := rfl
@[simp] theorem draw_idle : (draw s).idle = s.idle := rfl
@[simp] theorem draw_err : (draw s).err = s.err := rfl
@[simp] theorem draw_sec : (draw s).sec = s.sec := rfl
@[simp] theorem draw_power : (draw s).power = s.power := rfl
@[simp] theorem draw_boot : (draw s).boot = s.boot := rfl
@[simp] theorem draw_out : (draw s).out = s.out := rfl
@[simp] theorem draw_pending : (draw s).pending = s.pending := rfl

@[simp] theorem modCtx_variant {c : CtxId} {f : Ctx → Ctx} : (modCtx c f s).variant = s.variant := rfl
@[simp] theorem modCtx_gtc {c : CtxId} {f : Ctx → Ctx} : (modCtx c f s).gtc = s.gtc := rfl
@[simp] theorem modCtx_od {c : CtxId} {f : Ctx → Ctx} : (modCtx c f s).od = s.od := rfl
@[simp] theorem modCtx_stored {c : CtxId} {f : Ctx → Ctx} : (modCtx c f s).stored = s.stored := rfl
@[simp] theorem modCtx_counters {c : CtxId} {f : Ctx → Ctx} : (modCtx c f s).counters = s.counters := rfl
@[simp] theorem modCtx_mgmt {c : CtxId} {f : Ctx → Ctx} : (modCtx c f s).mgmt = s.mgmt := rfl
@[simp] theorem modCtx_ports {c : CtxId} {f : Ctx → Ctx} : (modCtx c f s).ports = s.ports := rfl
@[simp] theorem modCtx_port0 {c : CtxId} {f : Ctx → Ctx} : (modCtx c f s).port0 = s.port0 := rfl
@[simp] theorem modCtx_fns {c : CtxId} {f : Ctx → Ctx} : (modCtx c f s).fns = s.fns := rfl
@[simp] theorem modCtx_cmd {c : CtxId} {f : Ctx → Ctx} : (modCtx c f s).cmd = s.cmd := rfl
@[simp] theorem modCtx_trans {c : CtxId} {f : Ctx → Ctx} : (modCtx c f s).trans = s.trans := rfl
@[simp] theorem modCtx_win {c : CtxId} {f : Ctx → Ctx} : (modCtx c f s).win = s.win := rfl
@[simp] theorem modCtx_pool {c : CtxId} {f : Ctx → Ctx} : (modCtx c f s).pool = s.pool := rfl
@[simp] theorem modCtx_sync {c : CtxId} {f : Ctx → Ctx} : (modCtx c f s).sync = s.sync := rfl
@[simp] theorem modCtx_det {c : CtxId} {f : Ctx → Ctx} : (modCtx c f s).det = s.det := rfl
@[simp] theorem modCtx_idle {c : CtxId} {f : Ctx → Ctx} : (modCtx c f s).idle = s.idle := rfl
@[simp] theorem modCtx_err {c : CtxId} {f : Ctx → Ctx} : (modCtx c f s).err = s.err := rfl
@[simp] theorem modCtx_sec {c : CtxId} {f : Ctx → Ctx} : (modCtx c f s).sec = s.sec := rfl
@[simp] theorem modCtx_power {c : CtxId} {f : Ctx → Ctx} : (modCtx c f s).power = s.power := rfl
@[simp] theorem modCtx_boot {c : CtxId} {f : Ctx → Ctx} : (modCtx c f s).boot = s.boot := rfl
@[simp] theorem modCtx_draws {c : CtxId} {f : Ctx → Ctx} : (modCtx c f s).draws = s.draws := rfl
@[simp] theorem modCtx_out {c : CtxId} {f : Ctx → Ctx} : (modCtx c f s).out = s.out := rfl
@[simp] theorem modCtx_pending {c : CtxId} {f : Ctx → Ctx} : (modCtx c f s).pending = s.pending := rfl

@[simp] theorem modObj_variant {slot : Nat} {f : MemObj → MemObj} : (modObj slot f s).variant = s.variant := rfl
@[simp] theorem modObj_gtc {slot : Nat} {f : MemObj → MemObj} : (modObj slot f s).gtc = s.gtc := rfl
@[simp] theorem modObj_od {slot : Nat} {f : MemObj → MemObj} : (modObj slot f s).od = s.od := rfl
@[simp] theorem modObj_stored {slot : Nat} {f : MemObj → MemObj} : (modObj slot f s).stored = s.stored := rfl
@[simp] theorem modObj_counters {slot : Nat} {f : MemObj → MemObj} : (modObj slot f s).counters = s.counters := rfl
@[simp] theorem modObj_mgmt {slot : Nat} {f : MemObj → MemObj} : (modObj slot f s).mgmt = s.mgmt := rfl
@[simp] theorem modObj_ports {slot : Nat} {f : MemObj → MemObj} : (modObj slot f s).ports = s.ports := rfl
@[simp] theorem modObj_port0 {slot : Nat} {f : MemObj → MemObj} : (modObj slot f s).port0 = s.port0 := rfl
@[simp] theorem modObj_fns {slot : Nat} {f : MemObj → MemObj} : (modObj slot f s).fns = s.fns := rfl
@[simp] theorem modObj_cmd {slot : Nat} {f : MemObj → MemObj} : (modObj slot f s).cmd = s.cmd := rfl
@[simp] theorem modObj_trans {slot : Nat} {f : MemObj → MemObj} : (modObj slot f s).trans = s.trans := rfl
@[simp] theorem modObj_win {slot : Nat} {f : MemObj → MemObj} : (modObj slot f s).win = s.win := rfl
@[simp] theorem modObj_pool {slot : Nat} {f : MemObj → MemObj} : (modObj slot f s).pool = s.pool := rfl
@[simp] theorem modObj_sync {slot : Nat} {f : MemObj → MemObj} : (modObj slot f s).sync = s.sync := rfl
@[simp] theorem modObj_det {slot : Nat} {f : MemObj → MemObj} : (modObj slot f s).det = s.det := rfl
@[simp] theorem modObj_idle {slot : Nat} {f : MemObj → MemObj} : (modObj slot f s).idle = s.idle := rfl
@[simp] theorem modObj_err {slot : Nat} {f : MemObj → MemObj} : (modObj slot f s).err = s.err := rfl
@[simp] theorem modObj_sec {slot : Nat} {f : MemObj → MemObj} : (modObj slot f s).sec = s.sec := rfl
@[simp] theorem modObj_power {slot : Nat} {f : MemObj → MemObj} : (modObj slot f s).power = s.power := rfl
@[simp] theorem modObj_boot {slot : Nat} {f : MemObj → MemObj} : (modObj slot f s).boot = s.boot := rfl
@[simp] theorem modObj_draws {slot : Nat} {f : MemObj → MemObj} : (modObj slot f s).draws = s.draws := rfl
@[simp] theorem modObj_out {slot : Nat} {f : MemObj → MemObj} : (modObj slot f s).out = s.out := rfl
@[simp] theorem modObj_pending {slot : Nat} {f : MemObj → MemObj} : (modObj slot f s).pending = s.pending := rfl

@[simp] theorem modCmd_variant {c : CtxId} {q : Nat} {f : Cmd → Cmd} : (modCmd c q f s).variant = s.variant := rfl
@[simp] theorem modCmd_gtc {c : CtxId} {q : Nat} {f : Cmd → Cmd} : (modCmd c q f s).gtc = s.gtc := rfl
@[simp] theorem modCmd_od {c : CtxId} {q : Nat} {f : Cmd → Cmd} : (modCmd c q f s).od = s.od := rfl
@[simp] theorem modCmd_stored {c : CtxId} {q : Nat} {f : Cmd → Cmd} : (modCmd c q f s).stored = s.stored := rfl
@[simp] theorem modCmd_counters {c : CtxId} {q : Nat} {f : Cmd → Cmd} : (modCmd c q f s).counters = s.counters := rfl
@[simp] theorem modCmd_mgmt {c : CtxId} {q : Nat} {f : Cmd → Cmd} : (modCmd c q f s).mgmt = s.mgmt := rfl
@[simp] theorem modCmd_ports {c : CtxId} {q : Nat} {f : Cmd → Cmd} : (modCmd c q f s).ports = s.ports := rfl
@[simp] theorem modCmd_port0 {c : CtxId} {q : Nat} {f : Cmd → Cmd} : (modCmd c q f s).port0 = s.port0 := rfl
@[simp] theorem modCmd_fns {c : CtxId} {q : Nat} {f : Cmd → Cmd} : (modCmd c q f s).fns = s.fns := rfl
@[simp] theorem modCmd_obj {c : CtxId} {q : Nat} {f : Cmd → Cmd} : (modCmd c q f s).obj = s.obj := rfl
@[simp] theorem modCmd_trans {c : CtxId} {q : Nat} {f : Cmd → Cmd} : (modCmd c q f s).trans = s.trans := rfl
@[simp] theorem modCmd_win {c : CtxId} {q : Nat} {f : Cmd → Cmd} : (modCmd c q f s).win = s.win := rfl
@[simp] theorem modCmd_pool {c : CtxId} {q : Nat} {f : Cmd → Cmd} : (modCmd c q f s).pool = s.pool := rfl
@[simp] theorem modCmd_sync {c : CtxId} {q : Nat} {f : Cmd → Cmd} : (modCmd c q f s).sync = s.sync := rfl
@[simp] theorem modCmd_det {c : CtxId} {q : Nat} {f : Cmd → Cmd} : (modCmd c q f s).det = s.det := rfl
@[simp] theorem modCmd_idle {c : CtxId} {q : Nat} {f : Cmd → Cmd} : (modCmd c q f s).idle = s.idle := rfl
@[simp] theorem modCmd_err {c : CtxId} {q : Nat} {f : Cmd → Cmd} : (modCmd c q f s).err = s.err := rfl
@[simp] theorem modCmd_sec {c : CtxId} {q : Nat} {f : Cmd → Cmd} : (modCmd c q f s).sec = s.sec := rfl
@[simp] theorem modCmd_power {c : CtxId} {q : Nat} {f : Cmd → Cmd} : (modCmd c q f s).power = s.power := rfl
@[simp] theorem modCmd_boot {c : CtxId} {q : Nat} {f : Cmd → Cmd} : (modCmd c q f s).boot = s.boot := rfl
@[simp] theorem modCmd_draws {c : CtxId} {q : Nat} {f : Cmd → Cmd} : (modCmd c q f s).draws = s.draws := rfl
@[simp] theorem modCmd_out {c : CtxId} {q : Nat} {f : Cmd → Cmd} : (modCmd c q f s).out = s.out := rfl
@[simp] theorem modCmd_pending {c : CtxId} {q : Nat} {f : Cmd → Cmd} : (modCmd c q f s).pending = s.pending := rfl

/-! ### What the dictionary gives after an update -/

@[simp] theorem objVal_modFn {g : Fun} {f : FnSt → FnSt} {a b : Nat} : objVal (modFn g f s) a b = objVal s a b := rfl
@[simp] theorem objNum_modFn {g : Fun} {f : FnSt → FnSt} {a b : Nat} : objNum (modFn g f s) a b = objNum s a b := rfl
@[simp] theorem objBytes_modFn {g : Fun} {f : FnSt → FnSt} {a b : Nat} : objBytes (modFn g f s) a b = objBytes s a b := rfl
@[simp] theorem portPresent_modFn {g : Fun} {f : FnSt → FnSt} {r : Port} : portPresent (modFn g f s) r = portPresent s r := rfl
@[simp] theorem fnEnabled_modFn {g : Fun} {f : FnSt → FnSt} {k : Fun} : fnEnabled (modFn g f s) k = fnEnabled s k := rfl
@[simp] theorem isReady_modFn {g : Fun} {f : FnSt → FnSt} : isReady (modFn g f s) = isReady s := rfl
@[simp] theorem objVal_modCfg {g : Fun} {f : FnCfg → FnCfg} {a b : Nat} : objVal (modCfg g f s) a b = objVal s a b := rfl
@[simp] theorem objNum_modCfg {g : Fun} {f : FnCfg → FnCfg} {a b : Nat} : objNum (modCfg g f s) a b = objNum s a b := rfl
@[simp] theorem objBytes_modCfg {g : Fun} {f : FnCfg → FnCfg} {a b : Nat} : objBytes (modCfg g f s) a b = objBytes s a b := rfl
@[simp] theorem portPresent_modCfg {g : Fun} {f : FnCfg → FnCfg} {r : Port} : portPresent (modCfg g f s) r = portPresent s r := rfl
@[simp] theorem fnEnabled_modCfg {g : Fun} {f : FnCfg → FnCfg} {k : Fun} : fnEnabled (modCfg g f s) k = fnEnabled s k := rfl
@[simp] theorem isReady_modCfg {g : Fun} {f : FnCfg → FnCfg} : isReady (modCfg g f s) = isReady s := rfl
@[simp] theorem objVal_modMbx {g : Fun} {f : MbxSt → MbxSt} {a b : Nat} : objVal (modMbx g f s) a b = objVal s a b := rfl
@[simp] theorem objNum_modMbx {g : Fun} {f : MbxSt → MbxSt} {a b : Nat} : objNum (modMbx g f s) a b = objNum s a b := rfl
@[simp] theorem objBytes_modMbx {g : Fun} {f : MbxSt → MbxSt} {a b : Nat} : objBytes (modMbx g f s) a b = objBytes s a b := rfl
@[simp] theorem portPresent_modMbx {g : Fun} {f : MbxSt → MbxSt} {r : Port} : portPresent (modMbx g f s) r = portPresent s r := rfl
@[simp] theorem fnEnabled_modMbx {g : Fun} {f : MbxSt → MbxSt} {k : Fun} : fnEnabled (modMbx g f s) k = fnEnabled s k := rfl
@[simp] theorem isReady_modMbx {g : Fun} {f : MbxSt → MbxSt} : isReady (modMbx g f s) = isReady s := rfl
@[simp] theorem objVal_modAdmin {g : Fun} {f : AdminQ → AdminQ} {a b : Nat} : objVal (modAdmin g f s) a b = objVal s a b := rfl
@[simp] theorem objNum_modAdmin {g : Fun} {f : AdminQ → AdminQ} {a b : Nat} : objNum (modAdmin g f s) a b = objNum s a b := rfl
@[simp] theorem objBytes_modAdmin {g : Fun} {f : AdminQ → AdminQ} {a b : Nat} : objBytes (modAdmin g f s) a b = objBytes s a b := rfl
@[simp] theorem portPresent_modAdmin {g : Fun} {f : AdminQ → AdminQ} {r : Port} : portPresent (modAdmin g f s) r = portPresent s r := rfl
@[simp] theorem fnEnabled_modAdmin {g : Fun} {f : AdminQ → AdminQ} {k : Fun} : fnEnabled (modAdmin g f s) k = fnEnabled s k := rfl
@[simp] theorem isReady_modAdmin {g : Fun} {f : AdminQ → AdminQ} : isReady (modAdmin g f s) = isReady s := rfl
@[simp] theorem objVal_modFaultq {g : Fun} {f : FaultQ → FaultQ} {a b : Nat} : objVal (modFaultq g f s) a b = objVal s a b := rfl
@[simp] theorem objNum_modFaultq {g : Fun} {f : FaultQ → FaultQ} {a b : Nat} : objNum (modFaultq g f s) a b = objNum s a b := rfl
@[simp] theorem objBytes_modFaultq {g : Fun} {f : FaultQ → FaultQ} {a b : Nat} : objBytes (modFaultq g f s) a b = objBytes s a b := rfl
@[simp] theorem portPresent_modFaultq {g : Fun} {f : FaultQ → FaultQ} {r : Port} : portPresent (modFaultq g f s) r = portPresent s r := rfl
@[simp] theorem fnEnabled_modFaultq {g : Fun} {f : FaultQ → FaultQ} {k : Fun} : fnEnabled (modFaultq g f s) k = fnEnabled s k := rfl
@[simp] theorem isReady_modFaultq {g : Fun} {f : FaultQ → FaultQ} : isReady (modFaultq g f s) = isReady s := rfl
@[simp] theorem objVal_modInt {g : Fun} {f : IntSt → IntSt} {a b : Nat} : objVal (modInt g f s) a b = objVal s a b := rfl
@[simp] theorem objNum_modInt {g : Fun} {f : IntSt → IntSt} {a b : Nat} : objNum (modInt g f s) a b = objNum s a b := rfl
@[simp] theorem objBytes_modInt {g : Fun} {f : IntSt → IntSt} {a b : Nat} : objBytes (modInt g f s) a b = objBytes s a b := rfl
@[simp] theorem portPresent_modInt {g : Fun} {f : IntSt → IntSt} {r : Port} : portPresent (modInt g f s) r = portPresent s r := rfl
@[simp] theorem fnEnabled_modInt {g : Fun} {f : IntSt → IntSt} {k : Fun} : fnEnabled (modInt g f s) k = fnEnabled s k := rfl
@[simp] theorem isReady_modInt {g : Fun} {f : IntSt → IntSt} : isReady (modInt g f s) = isReady s := rfl
@[simp] theorem objVal_modPort {p : Port} {f : PortSt → PortSt} {a b : Nat} : objVal (modPort p f s) a b = objVal s a b := rfl
@[simp] theorem objNum_modPort {p : Port} {f : PortSt → PortSt} {a b : Nat} : objNum (modPort p f s) a b = objNum s a b := rfl
@[simp] theorem objBytes_modPort {p : Port} {f : PortSt → PortSt} {a b : Nat} : objBytes (modPort p f s) a b = objBytes s a b := rfl
@[simp] theorem portPresent_modPort {p : Port} {f : PortSt → PortSt} {r : Port} : portPresent (modPort p f s) r = portPresent s r := rfl
@[simp] theorem fnEnabled_modPort {p : Port} {f : PortSt → PortSt} {k : Fun} : fnEnabled (modPort p f s) k = fnEnabled s k := rfl
@[simp] theorem isReady_modPort {p : Port} {f : PortSt → PortSt} : isReady (modPort p f s) = isReady s := rfl
@[simp] theorem objVal_emit {m : Msg} {a b : Nat} : objVal (emit m s) a b = objVal s a b := rfl
@[simp] theorem objNum_emit {m : Msg} {a b : Nat} : objNum (emit m s) a b = objNum s a b := rfl
@[simp] theorem objBytes_emit {m : Msg} {a b : Nat} : objBytes (emit m s) a b = objBytes s a b := rfl
@[simp] theorem portPresent_emit {m : Msg} {r : Port} : portPresent (emit m s) r = portPresent s r := rfl
@[simp] theorem fnEnabled_emit {m : Msg} {k : Fun} : fnEnabled (emit m s) k = fnEnabled s k := rfl
@[simp] theorem isReady_emit {m : Msg} : isReady (emit m s) = isReady s := rfl
@[simp] theorem objVal_draw {a b : Nat} : objVal (draw s) a b = objVal s a b := rfl
@[simp] theorem objNum_draw {a b : Nat} : objNum (draw s) a b = objNum s a b := rfl
@[simp] theorem objBytes_draw {a b : Nat} : objBytes (draw s) a b = objBytes s a b := rfl
@[simp] theorem portPresent_draw {r : Port} : portPresent (draw s) r = portPresent s r := rfl
@[simp] theorem fnEnabled_draw {k : Fun} : fnEnabled (draw s) k = fnEnabled s k := rfl
@[simp] theorem isReady_draw  : isReady (draw s) = isReady s := rfl
@[simp] theorem objVal_modCtx {c : CtxId} {f : Ctx → Ctx} {a b : Nat} : objVal (modCtx c f s) a b = objVal s a b := rfl
@[simp] theorem objNum_modCtx {c : CtxId} {f : Ctx → Ctx} {a b : Nat} : objNum (modCtx c f s) a b = objNum s a b := rfl
@[simp] theorem objBytes_modCtx {c : CtxId} {f : Ctx → Ctx} {a b : Nat} : objBytes (modCtx c f s) a b = objBytes s a b := rfl
@[simp] theorem portPresent_modCtx {c : CtxId} {f : Ctx → Ctx} {r : Port} : portPresent (modCtx c f s) r = portPresent s r := rfl
@[simp] theorem fnEnabled_modCtx {c : CtxId} {f : Ctx → Ctx} {k : Fun} : fnEnabled (modCtx c f s) k = fnEnabled s k := rfl
@[simp] theorem isReady_modCtx {c : CtxId} {f : Ctx → Ctx} : isReady (modCtx c f s) = isReady s := rfl
@[simp] theorem objVal_modObj {slot : Nat} {f : MemObj → MemObj} {a b : Nat} : objVal (modObj slot f s) a b = objVal s a b := rfl
@[simp] theorem objNum_modObj {slot : Nat} {f : MemObj → MemObj} {a b : Nat} : objNum (modObj slot f s) a b = objNum s a b := rfl
@[simp] theorem objBytes_modObj {slot : Nat} {f : MemObj → MemObj} {a b : Nat} : objBytes (modObj slot f s) a b = objBytes s a b := rfl
@[simp] theorem portPresent_modObj {slot : Nat} {f : MemObj → MemObj} {r : Port} : portPresent (modObj slot f s) r = portPresent s r := rfl
@[simp] theorem fnEnabled_modObj {slot : Nat} {f : MemObj → MemObj} {k : Fun} : fnEnabled (modObj slot f s) k = fnEnabled s k := rfl
@[simp] theorem isReady_modObj {slot : Nat} {f : MemObj → MemObj} : isReady (modObj slot f s) = isReady s := rfl
@[simp] theorem objVal_modCmd {c : CtxId} {q : Nat} {f : Cmd → Cmd} {a b : Nat} : objVal (modCmd c q f s) a b = objVal s a b := rfl
@[simp] theorem objNum_modCmd {c : CtxId} {q : Nat} {f : Cmd → Cmd} {a b : Nat} : objNum (modCmd c q f s) a b = objNum s a b := rfl
@[simp] theorem objBytes_modCmd {c : CtxId} {q : Nat} {f : Cmd → Cmd} {a b : Nat} : objBytes (modCmd c q f s) a b = objBytes s a b := rfl
@[simp] theorem portPresent_modCmd {c : CtxId} {q : Nat} {f : Cmd → Cmd} {r : Port} : portPresent (modCmd c q f s) r = portPresent s r := rfl
@[simp] theorem fnEnabled_modCmd {c : CtxId} {q : Nat} {f : Cmd → Cmd} {k : Fun} : fnEnabled (modCmd c q f s) k = fnEnabled s k := rfl
@[simp] theorem isReady_modCmd {c : CtxId} {q : Nat} {f : Cmd → Cmd} : isReady (modCmd c q f s) = isReady s := rfl

theorem objNum_congr {a b : Nat} (h : t.od = s.od) (hv : t.variant = s.variant) : objNum t a b = objNum s a b := by
  simp only [objNum, objVal, h, hv]

@[simp] theorem emit_out {m : Msg} : (emit m s).out = m :: s.out := rfl
@[simp] theorem draw_draws : (draw s).draws = s.draws + 1 := rfl

/-! ### Functions -/

theorem getFn_mem (h : s.fns.length = 32) (g : Fun) : getFn s g ∈ s.fns := by
  have hg : g.val < s.fns.length := by rw [h]; exact g.isLt
  simp only [getFn, List.getD_eq_getElem?_getD, List.getElem?_eq_getElem hg, Option.getD_some]
  exact List.getElem_mem hg

theorem getFn_modFn (h : s.fns.length = 32) (g : Fun) (f : FnSt → FnSt) : getFn (modFn g f s) g = f (getFn s g) := by
  have hg : g.val < s.fns.length := by rw [h]; exact g.isLt
  simp [getFn, modFn, List.getD_eq_getElem?_getD, List.getElem?_eq_getElem hg]

theorem getFn_modFn_other {g k : Fun} (h : k ≠ g) (f : FnSt → FnSt) : getFn (modFn g f s) k = getFn s k := by
  have hk : ¬g.val = k.val := fun e => h (Fin.ext e.symm)
  simp [getFn, modFn, List.getD_eq_getElem?_getD, hk]

@[simp] theorem modFn_length {g : Fun} {f : FnSt → FnSt} : (modFn g f s).fns.length = s.fns.length := by simp [modFn]

theorem getFn_modCfg (h : s.fns.length = 32) (g : Fun) (f : FnCfg → FnCfg) :
    getFn (modCfg g f s) g = { getFn s g with cfg := f (getFn s g).cfg } := getFn_modFn h g _

theorem getFn_modCfg_other {g k : Fun} (h : k ≠ g) (f : FnCfg → FnCfg) : getFn (modCfg g f s) k = getFn s k :=
  getFn_modFn_other h _

@[simp] theorem modCfg_length {g : Fun} {f : FnCfg → FnCfg} : (modCfg g f s).fns.length = s.fns.length := by
  simp [modCfg, modFn]

theorem getFn_modMbx (h : s.fns.length = 32) (g : Fun) (f : MbxSt → MbxSt) :
    getFn (modMbx g f s) g = { getFn s g with mbx := f (getFn s g).mbx } := getFn_modFn h g _

theorem getFn_modMbx_other {g k : Fun} (h : k ≠ g) (f : MbxSt → MbxSt) : getFn (modMbx g f s) k = getFn s k :=
  getFn_modFn_other h _

@[simp] theorem modMbx_length {g : Fun} {f : MbxSt → MbxSt} : (modMbx g f s).fns.length = s.fns.length := by
  simp [modMbx, modFn]

theorem getFn_modAdmin (h : s.fns.length = 32) (g : Fun) (f : AdminQ → AdminQ) :
    getFn (modAdmin g f s) g = { getFn s g with admin := f (getFn s g).admin } := getFn_modFn h g _

theorem getFn_modAdmin_other {g k : Fun} (h : k ≠ g) (f : AdminQ → AdminQ) : getFn (modAdmin g f s) k = getFn s k :=
  getFn_modFn_other h _

@[simp] theorem modAdmin_length {g : Fun} {f : AdminQ → AdminQ} : (modAdmin g f s).fns.length = s.fns.length := by
  simp [modAdmin, modFn]

theorem getFn_modFaultq (h : s.fns.length = 32) (g : Fun) (f : FaultQ → FaultQ) :
    getFn (modFaultq g f s) g = { getFn s g with faultq := f (getFn s g).faultq } := getFn_modFn h g _

theorem getFn_modFaultq_other {g k : Fun} (h : k ≠ g) (f : FaultQ → FaultQ) : getFn (modFaultq g f s) k = getFn s k :=
  getFn_modFn_other h _

@[simp] theorem modFaultq_length {g : Fun} {f : FaultQ → FaultQ} : (modFaultq g f s).fns.length = s.fns.length := by
  simp [modFaultq, modFn]

theorem getFn_modInt (h : s.fns.length = 32) (g : Fun) (f : IntSt → IntSt) :
    getFn (modInt g f s) g = { getFn s g with int := f (getFn s g).int } := getFn_modFn h g _

theorem getFn_modInt_other {g k : Fun} (h : k ≠ g) (f : IntSt → IntSt) : getFn (modInt g f s) k = getFn s k :=
  getFn_modFn_other h _

@[simp] theorem modInt_length {g : Fun} {f : IntSt → IntSt} : (modInt g f s).fns.length = s.fns.length := by
  simp [modInt, modFn]

@[simp] theorem getFn_modPort {p : Port} {f : PortSt → PortSt} {k : Fun} : getFn (modPort p f s) k = getFn s k := rfl
@[simp] theorem getFn_emit {m : Msg} {k : Fun} : getFn (emit m s) k = getFn s k := rfl
@[simp] theorem getFn_draw {k : Fun} : getFn (draw s) k = getFn s k := rfl
@[simp] theorem getFn_modCtx {c : CtxId} {f : Ctx → Ctx} {k : Fun} : getFn (modCtx c f s) k = getFn s k := rfl
@[simp] theorem getFn_modObj {slot : Nat} {f : MemObj → MemObj} {k : Fun} : getFn (modObj slot f s) k = getFn s k := rfl
@[simp] theorem getFn_modCmd {c : CtxId} {q : Nat} {f : Cmd → Cmd} {k : Fun} : getFn (modCmd c q f s) k = getFn s k := rfl

/-! ### Ports -/

theorem getPort_modPort (h : s.ports.length = 4) (p : Port) (f : PortSt → PortSt) :
    getPort (modPort p f s) p = f (getPort s p) := by
  have hp : p.val < s.ports.length := by rw [h]; exact p.isLt
  simp [getPort, modPort, List.getD_eq_getElem?_getD, List.getElem?_eq_getElem hp]

theorem getPort_modPort_other {p q : Port} (h : q ≠ p) (f : PortSt → PortSt) :
    getPort (modPort p f s) q = getPort s q := by
  have hq : ¬p.val = q.val := fun e => h (Fin.ext e.symm)
  simp [getPort, modPort, List.getD_eq_getElem?_getD, hq]

@[simp] theorem modPort_length {p : Port} {f : PortSt → PortSt} : (modPort p f s).ports.length = s.ports.length := by
  simp [modPort]

@[simp] theorem getPort_modFn {g : Fun} {f : FnSt → FnSt} {r : Port} : getPort (modFn g f s) r = getPort s r := rfl
@[simp] theorem getPort_modCfg {g : Fun} {f : FnCfg → FnCfg} {r : Port} : getPort (modCfg g f s) r = getPort s r := rfl
@[simp] theorem getPort_modMbx {g : Fun} {f : MbxSt → MbxSt} {r : Port} : getPort (modMbx g f s) r = getPort s r := rfl
@[simp] theorem getPort_modAdmin {g : Fun} {f : AdminQ → AdminQ} {r : Port} : getPort (modAdmin g f s) r = getPort s r := rfl
@[simp] theorem getPort_modFaultq {g : Fun} {f : FaultQ → FaultQ} {r : Port} : getPort (modFaultq g f s) r = getPort s r := rfl
@[simp] theorem getPort_modInt {g : Fun} {f : IntSt → IntSt} {r : Port} : getPort (modInt g f s) r = getPort s r := rfl
@[simp] theorem getPort_emit {m : Msg} {r : Port} : getPort (emit m s) r = getPort s r := rfl
@[simp] theorem getPort_draw {r : Port} : getPort (draw s) r = getPort s r := rfl
@[simp] theorem getPort_modCtx {c : CtxId} {f : Ctx → Ctx} {r : Port} : getPort (modCtx c f s) r = getPort s r := rfl
@[simp] theorem getPort_modObj {slot : Nat} {f : MemObj → MemObj} {r : Port} : getPort (modObj slot f s) r = getPort s r := rfl
@[simp] theorem getPort_modCmd {c : CtxId} {q : Nat} {f : Cmd → Cmd} {r : Port} : getPort (modCmd c q f s) r = getPort s r := rfl

/-! ### Contexts, objects and commands -/

theorem find_map {α : Type} {key : α → Bool} {f : α → α} (hk : ∀ a, key (f a) = key a) :
    ∀ l : List α, (l.map f).find? key = (l.find? key).map f
  | [] => rfl
  | a :: l => by
    by_cases h : key a
    · simp [hk, h]
    · simp [hk, h, find_map hk l]

theorem find_congr {α : Type} {p q : α → Bool} (h : ∀ a, p a = q a) (l : List α) : l.find? p = l.find? q := by
  rw [funext h]

theorem map_congr_find {α : Type} {key : α → Bool} {f f' : α → α} (hf : ∀ a, key a = true → f a = f' a) (l : List α) :
    (l.find? key).map f = (l.find? key).map f' := by
  cases h : l.find? key with
  | none => rfl
  | some a => simp [hf a (List.find?_some h)]

theorem ctx_modCtx (c : CtxId) (f : Ctx → Ctx) : ctx? (modCtx c f s) c = (ctx? s c).map f := by
  simp only [ctx?, modCtx]
  rw [find_map (fun a => by split <;> rfl)]
  cases h : s.obj.ctxs.find? fun e => e.1 == c with
  | none => rfl
  | some a =>
    have : (a.1 == c) = true := by simpa using List.find?_some h
    simp only [Option.map_some, this, if_true]

theorem ctx_modCtx_other {c k : CtxId} (h : k ≠ c) (f : Ctx → Ctx) : ctx? (modCtx c f s) k = ctx? s k := by
  simp only [ctx?, modCtx]
  rw [find_map (fun a => by split <;> rfl)]
  cases e : s.obj.ctxs.find? fun e => e.1 == k with
  | none => rfl
  | some a =>
    have h1 : a.1 = k := by simpa using List.find?_some e
    have h2 : ¬a.1 = c := by rw [h1]; exact h
    simp [h2]

theorem cmd_modCmd (c : CtxId) (q : Nat) (f : Cmd → Cmd) (hf : ∀ x, (f x).ctx = x.ctx ∧ (f x).q = x.q) :
    cmd? (modCmd c q f s) c q = (cmd? s c q).map f := by
  simp only [cmd?, modCmd]
  rw [find_map (fun a => by
    by_cases h : (a.ctx == c && a.q == q) = true
    · simp only [h, if_true, (hf a).1, (hf a).2]
    · simp only [h, if_false, Bool.false_eq_true])]
  exact map_congr_find (fun a ha => by simp only [ha, if_true]) _

theorem obj_modObj (slot : Nat) (f : MemObj → MemObj) (hf : ∀ x, (f x).slot = x.slot) :
    obj? (modObj slot f s) slot = (obj? s slot).map f := by
  simp only [obj?, modObj]
  rw [find_map (fun a => by
    by_cases h : (a.slot == slot) = true
    · simp only [h, if_true, hf a]
    · simp only [h, if_false, Bool.false_eq_true])]
  exact map_congr_find (fun a ha => by simp only [ha, if_true]) _

/-! ### Frames, read -/

theorem map_getD {α β : Type} {π : α → β} {l l' : List α} (h : l'.map π = l.map π) (n : Nat) (d : α) :
    π (l'.getD n d) = π (l.getD n d) := by
  have := congrArg (fun m => m.getD n (π d)) h
  simpa [List.getD_eq_getElem?_getD, Option.getD_map] using this

theorem SameBut.port_links {L : List StatePart} (h : SameBut L s t) (hl : .links ∉ L) (p : Port) :
    PortSt.linksPart (getPort t p) = PortSt.linksPart (getPort s p) := map_getD (h.2.2 _ hl) _ _

theorem SameBut.port_intx {L : List StatePart} (h : SameBut L s t) (hl : .intx ∉ L) (p : Port) :
    PortSt.intx (getPort t p) = PortSt.intx (getPort s p) := map_getD (h.2.2 _ hl) _ _

theorem SameBut.port_requests {L : List StatePart} (h : SameBut L s t) (hl : .requests ∉ L) (p : Port) :
    PortSt.requestsPart (getPort t p) = PortSt.requestsPart (getPort s p) := map_getD (h.2.2 _ hl) _ _

theorem SameBut.port_ats {L : List StatePart} (h : SameBut L s t) (hl : .ats ∉ L) (p : Port) :
    PortSt.atsPart (getPort t p) = PortSt.atsPart (getPort s p) := map_getD (h.2.2 _ hl) _ _

theorem SameBut.fn_fnCfg {L : List StatePart} (h : SameBut L s t) (hl : .fnCfg ∉ L) (g : Fun) :
    FnSt.cfg (getFn t g) = FnSt.cfg (getFn s g) := map_getD (h.2.2 _ hl) _ _

theorem SameBut.fn_fnState {L : List StatePart} (h : SameBut L s t) (hl : .fnState ∉ L) (g : Fun) :
    FnSt.fnStatePart (getFn t g) = FnSt.fnStatePart (getFn s g) := map_getD (h.2.2 _ hl) _ _

theorem SameBut.fn_mbx {L : List StatePart} (h : SameBut L s t) (hl : .mbx ∉ L) (g : Fun) :
    FnSt.mbx (getFn t g) = FnSt.mbx (getFn s g) := map_getD (h.2.2 _ hl) _ _

theorem SameBut.fn_admin {L : List StatePart} (h : SameBut L s t) (hl : .admin ∉ L) (g : Fun) :
    FnSt.admin (getFn t g) = FnSt.admin (getFn s g) := map_getD (h.2.2 _ hl) _ _

theorem SameBut.fn_faultq {L : List StatePart} (h : SameBut L s t) (hl : .faultq ∉ L) (g : Fun) :
    FnSt.faultq (getFn t g) = FnSt.faultq (getFn s g) := map_getD (h.2.2 _ hl) _ _

theorem SameBut.fn_int {L : List StatePart} (h : SameBut L s t) (hl : .int ∉ L) (g : Fun) :
    FnSt.int (getFn t g) = FnSt.int (getFn s g) := map_getD (h.2.2 _ hl) _ _

theorem SameBut.fn_capture {L : List StatePart} (h : SameBut L s t) (hl : .capture ∉ L) (g : Fun) :
    FnSt.capture (getFn t g) = FnSt.capture (getFn s g) := map_getD (h.2.2 _ hl) _ _

theorem SameBut.fn_fnOther {L : List StatePart} (h : SameBut L s t) (hl : .fnOther ∉ L) (g : Fun) :
    FnSt.fnOtherPart (getFn t g) = FnSt.fnOtherPart (getFn s g) := map_getD (h.2.2 _ hl) _ _

theorem SameBut.ctx {L : List StatePart} (h : SameBut L s t) (hl : .ctxs ∉ L) (c : CtxId) : ctx? t c = ctx? s c := by
  have := h.2.2 _ hl
  simp only [StatePart.same] at this
  simp only [ctx?, this]

theorem SameBut.object {L : List StatePart} (h : SameBut L s t) (hl : .objs ∉ L) (n : Nat) : obj? t n = obj? s n := by
  have := h.2.2 _ hl
  simp only [StatePart.same] at this
  simp only [obj?, this]

theorem SameBut.command {L : List StatePart} (h : SameBut L s t) (hl : .cmds ∉ L) (c : CtxId) (q : Nat) :
    cmd? t c q = cmd? s c q := by
  have := h.2.2 _ hl
  simp only [StatePart.same] at this
  simp only [cmd?, this]

end Sys2Proof.Machine
end

