-- ==== Sys2Proof/Tests/Slice0.lean ====
section
/-!
SUPPORT. Tests. Ill-formed commands that the check refuses; the manual's worked examples; and for each obligation with
hypotheses a state and operands that meet them, clause by clause.
-/
namespace Sys2Proof.Machine

set_option Elab.async false

/-! ### Building states -/

/-- The invariant, as a check. -/
def invB (s : State) : Bool :=
  s.fns.length == 32 && (s.fns.all fun f =>
    decide (f.cfg.command &&& 0xFAB9 = 0) && decide (f.cfg.devCtl &&& 0x8600 = 0) &&
    decide (f.cfg.devCtl2 &&& 0xEFF0 = 0) && decide (f.cfg.bar0.toNat % 0x10000 = 0) &&
    decide (f.admin.sqBase.toNat % 4096 = 0) && decide (f.admin.cqBase.toNat % 4096 = 0) &&
    decide (f.faultq.base.toNat % 4096 = 0) && decide (1000000 ≤ f.faultq.timeout.toNat) &&
    decide (f.faultq.timeout.toNat ≤ 60000000000) && decide (f.int.delayNs ≤ 1000000) &&
    decide (f.int.masks &&& ~~~ validSources = 0)) &&
  s.ports.length == 4 && Memory.wf s.pool.mem && Memory.wf s.boot.image && s.trans.banks.length == 8 &&
  s.cmd.engines.length == 32 && s.win.coh.length == 64 && s.sec.mr.length == 4

theorem inv_of_check {s : State} (h : invB s = true) : Inv s := by
  simp only [invB, Bool.and_eq_true, beq_iff_eq, List.all_eq_true, decide_eq_true_eq] at h
  obtain ⟨⟨⟨⟨⟨⟨⟨⟨h1, h2⟩, h3⟩, h4⟩, h5⟩, h6⟩, h7⟩, h8⟩, h9⟩ := h
  refine ⟨h1, ?_, h3, h4, h5, h6, h7, h8, h9⟩
  intro f hf
  obtain ⟨⟨⟨⟨⟨⟨⟨⟨⟨⟨a, b⟩, c⟩, d⟩, e⟩, g⟩, i⟩, j⟩, k⟩, l⟩, m⟩ := h2 f hf
  exact ⟨⟨a, b, c, d⟩, ⟨e, g⟩, ⟨i, j, k⟩, ⟨l, m⟩⟩

/-- A state of the invariant meets these hypotheses. -/
def Meets (s : State) (p : Prop) : Prop := Inv s ∧ p

theorem meets {s : State} {p : Prop} (h : invB s = true) (hp : p) : Meets s p := ⟨inv_of_check h, hp⟩

/-- A package in service: every domain on, firmware running, links up, every function ACTIVE with Memory Space Enable and
Bus Master Enable set. -/
def up : State :=
  { State.reset with
    boot := { BootSt.init with state := .ready, fw := .running, secVersion := 3 }
    ports := State.reset.ports.map fun p => { p with link := .l0, width := 16 }
    port0 := { Port0St.init with mode := 1, awaiting := false, groups := 0xFF }
    power := { State.reset.power with on := BitVec.allOnes 50, good := 0xF, work := true }
    fns := State.reset.fns.map fun f => { f with state := .active, cfg := { f.cfg with command := 6 } }
    pool := { State.reset.pool with scrubs := [] }
    mgmt := { MgmtSt.init with linkUp := true } }

/-- The management network at the highest role. -/
def boss : Requester := .net .admin true

/-- A context of function 9 with one entry to fetch. -/
def ctx9 : Ctx :=
  { state := .ready, fn := 9, slot := 0, bound := true, queueBase := 0x100000, queueLog2 := 6, eventRing := 0
    rangeTable := 0, rootOffset := 0, pasid := 0, schedule := 0, fixed := none, head := 0, tail := 1, submitTag := 0
    lostReason := .none, lostGtc := 0, createdGtc := 0, completed := 0, lostCompleted := 0, destroyer := none
    accs := [], program0 := [] }



/-! ### Ill-formed commands -/

/-- The header of a management request. -/
def hdrTo (n : Nat) : HmpHdr := { src := { ip := List.replicate n 0, port := 1, mac := 1, toPort := 1, extended := false }, sid := 1, seq := 1, cal := false }

/-- A frame header, a HELLO and a window request. -/
def frame0 : FrameHdr :=
  { src := 5, dst := 0, sealOk := true, linkSeq := 0, ackSeq := 0, window := 0, tileIndex := 0, serial := 0
    streamTag := 0, last := true, access := 2, elementType := 0, reduceOp := 0, code := 0, byteOffset := 0 }
def req0 (op : Nat) : WinRequest :=
  { tag := 1, window := 0, op := op, table := 0, root := 0, atomic := false, write := false, read := false, mask := 0
    srcMatch := 0 }

theorem test_wf_host_writes :
    [Instr.registerWrite 0 .config 0 0 0 false, .registerWrite 0 .config 0xFFD 4 0 false,
      .registerWrite 0 .config 0 8 0 false, .registerWrite 0 .bar0 0xFFFF 2 0 false, .registerWrite 0 .bar0 0 4097 0 false,
      .registerWrite 0 .bar2 0x7FFFF9 8 0 false, .registerWrite 0 .rom 0x100000 1 0 false,
      .doorbell 0 0x800000 8 true false 0].map Instr.wf = List.replicate 8 false ∧
    (Instr.registerWrite 0 .config 0xFFC 4 0 false).wf = true ∧ (Instr.registerWrite 0 .bar0 0xF000 4096 0 false).wf = true ∧
    (Instr.doorbell 0 0x7FFFF8 8 true false 0).wf = true := by decide

theorem test_wf_management :
    [Instr.hmpRead (hdrTo 4) [], .hmpCloseSession (hdrTo 4), .hmpWrite (hdrTo 16) (List.replicate 1405 0),
      .hmpOpenSession (hdrTo 15).src 1 [], .hmpBadOpcode (hdrTo 16) 0x10, .hmpBadOpcode (hdrTo 4) 4,
      .mbxBadOp 0 4, .mbxBadOp 0 16, .neighborSolicitation (hdrTo 16).src [], .neighborAdvertisement (hdrTo 16).src ⟨List.replicate 16 0, w64 (2 ^ 48)⟩,
      .echoRequest (hdrTo 16).src (List.replicate 1501 0), .adminEntryRead 0 true [],
      .spdmMessage { (hdrTo 16).src with port := 65536 } 1 []].map Instr.wf = List.replicate 13 false ∧
    (Instr.hmpBadOpcode (hdrTo 16) 4).wf = true ∧ (Instr.mbxBadOp 0 5).wf = true := by decide +kernel

theorem test_wf_work :
    [Instr.partEnd 960 0 0 0, .partCancelTimeout 960 0 0 0, .leaseRequest 0 64 0 0 .read, .revokeAck 960 0, .leaseRelease 0 64,
      .checkWrite frame0 (List.replicate 513 ⟨0, 64⟩), .checkAtomic frame0 [⟨2 ^ 36, 64⟩], .readReq frame0 [⟨0, 2 ^ 17 + 1⟩],
      .readReq frame0 [⟨0, 0⟩], .data frame0 (List.replicate 4097 0), .readData frame0 (List.replicate 4097 0),
      .windowOpen boss 0 (req0 2), .windowClose boss 0 (req0 1), .windowModify boss 0 (req0 4), .windowRefresh boss 0 (req0 3),
      .windowRequestBadOp boss 0 (req0 4), .coherentAccess 0 0 (.read 0), .coherentAccess 0 0 (.write []),
      .snoopAck 0 63 none, .snoopAck 0 64 (some []), .snoopTimeout 0 1, .poolLineRead (2 ^ 41) false ⟨.clean, .clean⟩ .scrub,
      .rowRemapCopyDone 64].map Instr.wf = List.replicate 23 false ∧
    (Instr.partEnd 959 0 0 0).wf = true ∧ (Instr.snoopAck 0 64 none).wf = true ∧
    (Instr.windowRequestBadOp boss 0 (req0 0)).wf = true ∧ (Instr.rowRemapCopyDone 2048).wf = true := by decide +kernel

/-- An SPDM request over the DOE of port 0, with these bytes after its operands. -/
def doe0 (body : Bytes) : SpdmReq := { conn := .doe 0, version := 0x13, p1 := 0, p2 := 0, body := body }

theorem test_wf_system :
    [Instr.unitFailureReport (.cluster 960), .unitFailureReport (.tile 64), .modeStageAck 960, .modeStageReject 960,
      .modeStageTimeout 960, .packageReset ⟨[], [], [2 ^ 41], []⟩, .counterClear boss ⟨2 ^ 16, 0⟩, .counterClear boss ⟨0, 256⟩,
      .getCertificate (doe0 []) 8 0 0, .challenge (doe0 []) 0 [], .getMeasurements (doe0 []) true 0 [],
      .debugTokenWrite boss (List.replicate 32769 0), .clockMeasureWindow [], .telemetryReply [none] [none],
      .firmwareChunkWrite boss (List.replicate 32769 0), .tileDigestAnswer 64 (List.replicate 48 0), .tileDigestAnswer 0 [],
      .tileAnswerTimeout 64, .bringupStepEnd [(64, 0)] 0, .bringupStepEnd [(0, 16)] 0, .portLinkUp 1 2 6, .portLinkUp 1 16 7,
      .linkRecovery 1 0, .port0FallbackTrained [], .hello ⟨5, 0, 1, []⟩,
      .completionReceived 1 0 .success false 0 (List.replicate 4097 0), .calibrateDone true ⟨[], [[0]]⟩].map Instr.wf =
      List.replicate 27 false ∧
    (Instr.packageReset ⟨[], [], [], []⟩).wf = true ∧ (Instr.tileAnswerTimeout 63).wf = true := by decide +kernel

/-! ### The machine -/

/-- Whether an outcome is a next state that answers this. -/
def gives (o : Out) (p : State → Bool) : Bool :=
  match o with
  | .next t => p t
  | _ => false

theorem test_step_runs_front :
    gives (step { up with pending := [.idleHint 3 true, .gtcAlarm] }) (fun t =>
      t.idle == 8 && t.pending == [.gtcAlarm] && t.gtc == 0) = true := by decide +kernel

theorem test_step_idle_ticks : gives (step up) (fun t => t.gtc == 1 && t.fns == up.fns) = true := by decide +kernel

theorem witness_stepRunsFrontCommand : Meets { up with pending := [.gtcAlarm] }
    (({ up with pending := [.gtcAlarm] } : State).pending = .gtcAlarm :: []) := meets (by decide +kernel) rfl

theorem witness_idleStepTicks : Meets up (up.pending = []) ∧
    (let s := { up with power := { up.power with phase := .asleep } }
     Meets s (s.pending = [])) := ⟨meets (by decide +kernel) rfl, meets (by decide +kernel) rfl⟩

theorem witness_resetInv : Inv State.reset := inv_of_check (by decide +kernel)

theorem witness_stepKeepsInv : Meets up (step up = .next { up with gtc := 1 }) := meets (by decide +kernel) rfl

theorem witness_poolBytes :
    Memory.wf [(0, 1), (2 ^ 41 - 1, 255)] = true ∧ 0 < [(0 : U8)].length ∧
    (∀ a, memGet [(0, 1), (2 ^ 41 - 1, 255)] a = memGet [(0, 1), (2 ^ 41 - 1, 255)] a) :=
  ⟨by decide, by decide, fun _ => rfl⟩

theorem witness_tenantWrites : Meets up (fnOf 9 ≠ 0 ∧ writeStatus up (.mbx 9) ⟨0x8109, 1⟩ (leBytes 8 0) = .ok ∧
    writeStatus up (.mbx 9) ⟨0x8108, 1⟩ (leBytes 8 0) ≠ .ok) := meets (by decide +kernel) (by decide +kernel)

theorem witness_fatalRefusesWrites :
    (let s := { up with err := { up.err with pkg := .fatal } }
     Meets s (s.err.pkg = .fatal)) := meets (by decide +kernel) (by decide +kernel)

/-- A package whose counter 0xD101.01 has this value. -/
def counted (n : U64) : State := { up with counters := [(0xD101 * 256 + 1, n)] }

theorem witness_countersSaturate :
    (let n := ((assocGet (counted (w64 (2 ^ 63 - 3))).counters (0xD101 * 256 + 1)).getD 0)
     Meets (counted (w64 (2 ^ 63 - 3))) (n.toNat + 1 < 2 ^ 63 - 1)) ∧
    (let n := ((assocGet (counted (w64 (2 ^ 63 - 2))).counters (0xD101 * 256 + 1)).getD 0)
     Meets (counted (w64 (2 ^ 63 - 2))) (n.toNat + 1 = 2 ^ 63 - 1)) ∧
    (let n := ((assocGet (counted (BitVec.allOnes 64)).counters (0xD101 * 256 + 1)).getD 0)
     Meets (counted (BitVec.allOnes 64)) (n = BitVec.allOnes 64)) := by
  refine ⟨?_, ?_, ?_⟩ <;> exact meets (by decide +kernel) (by decide +kernel)

theorem witness_sourcesLatch :
    Meets up (258 < 320 ∧ up.power.phase = .awake ∧ (getFn up 31).int.latches.getLsbD 258 = false) ∧
    (let s := modFn 31 (fun x => { x with int := { x.int with latches := 1 <<< 258, loss := [(258, 2147483645)] } }) up
     Meets s (s.power.phase = .awake ∧ (getFn s 31).int.latches.getLsbD 258 = true ∧
       ((assocGet (getFn s 31).int.loss 258).getD 0).toNat + 1 < 2 ^ 31 - 1)) ∧
    (let s := { up with power := { up.power with phase := .entering } }
     Meets s (s.power.phase ≠ .awake)) := by
  refine ⟨?_, ?_, ?_⟩ <;> exact meets (by decide +kernel) (by decide +kernel)

theorem witness_weirBypass : Meets up (portOf 8 ≠ 0 ∧ portOf 7 = 0) := meets (by decide +kernel) (by decide +kernel)

theorem witness_modeAbandoned :
    (let s := { up with gtc := 125001, det := { DetSt.init with mode := .staging, unacked := [959], acked := [0] } }
     Meets s (s.det.mode = .staging ∧ 959 < clustersOf s.variant ∧ 959 ∉ s.det.fenced ∧ 959 ∈ s.det.unacked ∧
       stageLate s = true ∧ 0 < clustersOf s.variant ∧ 0 ∉ s.det.fenced ∧ 0 ∉ s.det.unacked ∧ 0 ∈ s.det.acked)) :=
  meets (by decide +kernel) (by decide +kernel)

/-! ### The manual's worked examples -/

/-- 02, "splitting a tile read": six requests. -/
theorem test_tile_read_split : (requests 2048 0x4123450E00 10240).map (fun r => (r.1 % 0x10000, r.2.2)) =
    [(0x0E00, 512), (0x1000, 2048), (0x1800, 2048), (0x2000, 2048), (0x2800, 2048), (0x3000, 1536)] := by decide

/-- 03, "reading the pool size" of an L64. -/
theorem test_pool_size : parseRead [1, 0, 0, 0, 0x01, 0x10, 4, 0] = some (.read [⟨0x1001, 4⟩]) ∧
    readObject State.reset ⟨0x1001, 4⟩ = .num 0x18000000000 := by decide +kernel

/-- 05, "a wrapping command with a wait and a signal": the sizes of the entry's header. -/
theorem test_command_header :
    (let b := [0x0311080000010010, 0x7A31, 0x20A000001, 5, 0xA, 0x20A000001, 6, 0x14].flatMap (leBytes 8)
     hdrOpcode b = 0x10 ∧ hdrEntries b = 3 ∧ hdrLength b = 8 ∧ hdrWaits b = 1 ∧ hdrSignals b = 1 ∧ headerOk b = true) := by
  decide +kernel

/-- 11, "moderated completions on an external port": record A. -/
theorem test_event_record :
    eventBytes { ring := 3, kind := 1, info := 0, ctx := some 0x3B07C, data0 := 0x9E01, data1 := 0x10000000000412
                 gtc := 0x400002710 } (phaseOf 0x80 6) =
      [0x800100000013B07C, 0x9E01, 0x0010000000000412, 0x400002710].flatMap (leBytes 8) := by decide +kernel

/-- 11, the same example at 11.5 µs. -/
theorem test_int_summary :
    (let s := modFn 9 (fun x => { x with int := { x.int with latches := 8, masks := validSources &&& ~~~ 8, weir := .opened } }) up
     intSummary s 9 = 0x3000B) := by decide +kernel

/-- 12, "a snoop timeout with a merged repeat": the first error. -/
theorem test_snoop_timeout_capture :
    gives (exec (.errorRaise .snoopTimeout { kind := 4, unit := 13, fn := some 0, ctx := some 0xF2A, address := 0x3A00041C40
                                             addressKind := 1, access := 1 }) { up with gtc := 0x210001E848 })
      (fun t => t.err.capture.master == 0x400D000004100F2A && t.err.capture.gtc == 0x210001E848 &&
          t.err.capture.access == 0x101 && t.err.pkg == .blockFailed) = true := by decide +kernel

/-- 12, the same example: FnErrStatus of port 1, function 0. -/
theorem test_fn_err_status :
    (let k : Capture := { Capture.init with heldNow := true, source := 7, cls := 2, access := 0x101, highest := 2, mergedCount := 1 }
     fnErrStatus (modFn 8 (fun x => { x with capture := k }) up) 8 = 0x0007010100010A01) := by decide +kernel

/-- 14: WorkDomainsOn with every enable at its default. -/
theorem test_domains_on : selectedDomains up = 0x1FFFFFFFFFFFF := by decide +kernel

/-- 14: two converters answer. -/
theorem test_telemetry :
    gives (exec (.telemetryReply [some 0xE9B0, some 0xE9B0] [some 0xF0DE, some 0xF0DC])
        { up with power := { up.power with polled := true } })
      (fun t => t.power.millivolts == 54000 && t.power.milliamps == 110500 && t.power.milliwatts == 5967000 &&
          t.power.milliwatts / 5000 * 5 == 5965) = true := by decide +kernel

/-- 15, "an L32 with one failed cluster": header qwords 0 and 1 of the map. -/
theorem test_unit_map_header :
    (unitMapBytes { up with variant := .l32 }).take 16 = [0x20014D55, 0x1E00020].flatMap (leBytes 8) := by rfl

/-! ### Host ports (02) -/

theorem witness_linksTrain :
    (let s := modPort 3 (fun x => { x with perst := true }) up
     Meets s (portPresent s 3 = true ∧ (getPort s 3).perst = true)) ∧
    (let s := modPort 3 (fun x => { x with link := .training }) up
     Meets s (mayTrain s 3 = true ∧ portCarries s 3 = false ∧ s.power.on.getLsbD 3 = true ∧ 16 ≤ lanesSelected s 3 ∧
       6 ≤ objNum s (0x2010 + 3) 3)) ∧
    (let s := modPort 3 (fun x => { x with link := .l2 }) up
     Meets s ((getPort s 3).link = .l2)) ∧
    Meets up (portCarries up 1 = true ∧ (getPort up 1).link = .l0 ∧ (getPort up 1).turnOff = .none) ∧
    (let s := modPort 0 (fun x => { x with turnOff := .requested }) up
     Meets s ((getPort s 0).turnOff = .requested ∧ (fnsOf 0).all (noRequest s) = true)) ∧
    (let s := { up with boot := { up.boot with result := .running, command := .qualify, lanes := [⟨1, 0, 0, 0⟩, ⟨2, 0, 0, 0⟩] } }
     Meets s ((1 : Port) ≠ 0 ∧ (getPort s 1).link = .l0 ∧ s.boot.result = .running ∧ s.boot.command = .qualify)) := by
  refine ⟨?_, ?_, ?_, ?_, ?_, ?_⟩ <;> exact meets (by decide +kernel) (by decide +kernel)

theorem witness_portsFall :
    Meets up (portPresent up 0 = true ∧ (getPort up 0).perst = false) ∧
    (let s := { up with boot := { up.boot with resetting := true } }
     Meets s (s.boot.resetting = true ∧ portPresent s 3 = true ∧ (getPort s 3).perst = false)) ∧
    Meets up ((getPort up 3).link ≠ .down ∧ (getPort up 3).link ≠ .disabled ∧ (getPort up 3).turnOff ≠ .acked) ∧
    Meets up (portCarries up 0 = true ∧ portCarries up 3 = true ∧ (getFn up 31).abort = none) ∧
    Meets up (accepts up boss ⟨0x2010 + 3, 1⟩ (.num 0) ∧ objNum up (0x2010 + 3) 1 ≠ 0) ∧
    (let s := setObj (0x2010 + 3) 1 (.num 0) (modPort 3 (fun x => { x with link := .disabled }) up)
     Meets s (accepts s boss ⟨0x2010 + 3, 1⟩ (.num 1) ∧ objNum s (0x2010 + 3) 1 = 0)) ∧
    (let s := { up with port0 := { up.port0 with mode := 0 } }
     Meets s (s.port0.mode = 0 ∧ portCarries s 0 = true)) := by
  refine ⟨?_, ?_, ?_, ?_, ?_, ?_, ?_⟩ <;>
    (refine meets (by decide +kernel) ?_; (try unfold accepts); decide +kernel)

theorem witness_functionsAbort :
    Meets up (fnOf 31 ≠ 0 ∧ cfgOpen up 31 = true) ∧
    (let s := modFn 31 (fun x => { x with state := .aborting, abort := some .flr }) up
     Meets s ((getFn s 31).abort = some .flr ∧ abortOver s 31 = true)) ∧
    Meets up (accepts up boss ⟨0x2100 + 31, 1⟩ (.num 0) ∧ fnEnabled up 31 = true ∧ (getFn up 31).state ≠ .absent) ∧
    (let s := setObj (0x2100 + 31) 1 (.num 0) (modFn 31 (fun x => { x with state := .absent }) up)
     Meets s (accepts s boss ⟨0x2100 + 31, 1⟩ (.num 1) ∧ fnEnabled s 31 = false ∧ (getFn s 31).abort = none ∧
       portPresent s (portOf 31) = true ∧ portCarries s (portOf 31) = true ∧ isReady s = true)) := by
  refine ⟨?_, ?_, ?_, ?_⟩ <;>
    (refine meets (by decide +kernel) ?_; (try unfold accepts); decide +kernel)

theorem witness_stallsAndPower :
    Meets up (cfgOpen up 0 = true ∧ (getFn up 0).state = .active ∧ (getFn up 0).cfg.d3hot = false) ∧
    (let s := modFn 31 (fun x => { x with state := .stalled, cfg := { x.cfg with d3hot := true } }) up
     Meets s (cfgOpen s 31 = true ∧ (getFn s 31).cfg.d3hot = true ∧ (getFn s 31).cfg.command.getLsbD 2 = true)) ∧
    (let s := modFn 31 (fun x => { x with state := .stalling }) up
     Meets s ((getFn s 31).state = .stalling ∧ upstreamQuiet s 31 = true)) := by
  refine ⟨?_, ?_, ?_⟩ <;> exact meets (by decide +kernel) (by decide +kernel)

theorem witness_port0Modes :
    Meets up (accepts up boss ⟨0x2001, 1⟩ (.num 1) ∧ up.port0.training = false ∧
      accepts up boss ⟨0x2001, 1⟩ (.num 0) ∧ up.port0.mode = 1) ∧
    (let s := { up with port0 := { up.port0 with training := true, nonceOut := true } }
     Meets s (s.port0.training = true ∧ s.port0.nonceOut = true ∧ s.port0.mode = 1 ∧ (0x7F : U8) ≠ 0xFF)) ∧
    (let s := { up with port0 := { up.port0 with training := true, nonceOut := true, mode := 0 } }
     Meets s (s.port0.training = true ∧ s.port0.nonceOut = true ∧ s.port0.mode ≠ 1 ∧ s.port0.fromWake = false)) ∧
    Meets up (up.port0.training = false ∧ up.port0.mode = 1 ∧ 7 < up.port0.fails.length) ∧
    Meets up (up.port0.mode = 1 ∧ up.port0.fails.getD 7 0 + 1 < objNum up 0x2001 4) ∧
    (let s := { up with port0 := { up.port0 with fails := [0, 0, 0, 0, 0, 0, 0, objNum up 0x2001 4 - 1] } }
     Meets s (s.port0.mode = 1 ∧ objNum s 0x2001 4 ≤ s.port0.fails.getD 7 0 + 1)) ∧
    (let s := { up with port0 := { up.port0 with awaiting := true, nonceOut := true } }
     Meets s (s.port0.awaiting = true ∧ s.port0.fromWake = false ∧ (getPort s 0).perst = false ∧
       s.port0.nonceOut = true)) := by
  refine ⟨?_, ?_, ?_, ?_, ?_, ?_, ?_⟩ <;>
    (refine meets (by decide +kernel) ?_; (try unfold accepts); decide +kernel)

/-- A tag of port 3 that a read of 64 bytes holds. -/
def tagUse (use : ReadUse) (quarantined : Bool) : TagUse :=
  { tag := 16383, fn := 24, use := use, pasid := none, address := 0, offset := 0, bytes := 64, pieces := [], since := 0
    quarantined := quarantined, timedOut := false }

/-- A state in which port 3 holds a tag, ten seconds later. -/
def reading (u : TagUse) : State := { modPort 3 (fun x => { x with tags := [u] }) up with gtc := 12500000000 }

theorem witness_hostReadsAndRegisters :
    (let u := tagUse (.entry 0) false
     Meets (reading u) ((∀ pasid a, u.use ≠ .ats pasid a) ∧ tag? (reading u) 3 16383 = some u ∧
       covered (u.pieces ++ [(0, List.replicate 63 0)]) 2 0 u.bytes = false)) ∧
    (let u := tagUse .image true
     Meets (reading u) (tag? (reading u) 3 16383 = some u ∧ tagExpired (reading u) u = true)) ∧
    (let u := tagUse (.admin 24 true) false
     let s := modFn 24 (fun x => { x with admin := { x.admin with sqEnable := true, cqEnable := true } }) (reading u)
     Meets s (tag? s 3 16383 = some u ∧ u.quarantined = false ∧ adminOpen s 24 = true ∧
       covered (u.pieces ++ [(0, List.replicate 64 0)]) 2 0 u.bytes = true)) ∧
    (let u := tagUse (.span 5 2) false
     let s := { reading u with obj := { up.obj with ctxs := [(5, ctx9)] } }
     Meets s (tag? s 3 16383 = some u ∧ tagExpired s u = true ∧ ctx? s 5 = some ctx9 ∧ ctx9.state = .ready)) ∧
    Meets up (cfgOpen up 31 = true ∧ barOpen up 31 = true ∧ (getFn up 31).admin.sqEnable = false ∧
      cfgOpen up (fn0 3) = true) := by
  refine ⟨meets (by decide +kernel) ⟨fun _ _ h => (nomatch h), by decide +kernel⟩, ?_, ?_, ?_, ?_⟩ <;>
    exact meets (by decide +kernel) (by decide +kernel)

/-! ### Management and the dictionary (03) -/

/-- A sender on the management network. -/
def peerAddr : NetAddr :=
  { ip := 0xFE :: 0x80 :: List.replicate 14 1, port := 40000, mac := 0x1122, toPort := 4917, extended := false }

/-- A session on credential slot 0. -/
def sess (opened : Bool) : Session :=
  { sid := 7, opened := opened, slot := 0, nc := List.replicate 32 1, nd := List.replicate 32 2,
    key := List.replicate 32 3, since := 0
    high := if opened then some 5 else none, kept := [], staging := none }

/-- A package with that session. -/
def inSess (opened : Bool) : State := { up with mgmt := { up.mgmt with sessions := [sess opened], nextSid := 8 } }

/-- The frame header of a request on it, and a PROVE payload that verifies. -/
def hdr : HmpHdr := { src := peerAddr, sid := 7, seq := 6, cal := true }
def proof : Bytes := leBytes 4 7 ++ hmac (objBytes (inSess false) 0x1110 2)
  (asciiBytes "HMP-PROVE" ++ List.replicate 32 1 ++ List.replicate 32 2 ++ leBytes 1 0)

/-- A frame on the session whose tag is wrong in every byte. -/
def badHeader : Bytes := [0x48, 0x4D, 1, 0, 0x10, 0, 0, 0] ++ leBytes 4 7 ++ leBytes 4 6 ++ List.replicate 16 0
def badFrame : Bytes :=
  badHeader ++ (gcmTag (List.replicate 32 3) (hmpNonce 7 6 false) badHeader []).map (· + 1)

theorem ne_shifted {l : Bytes} (h : l ≠ []) : l ≠ l.map (· + 1) := by
  cases l with
  | nil => exact absurd rfl h
  | cons a l =>
    intro e
    have := (List.cons.inj e).1
    bv_omega

theorem witness_managementSessions :
    (hmpIn up peerAddr 0 36 = true ∧ (0 :: List.replicate 35 (0 : U8)).length = 36 ∧
      slotLocked up 0 = false ∧ slotRole up 0 ≠ .none ∧ objBytes up 0x1110 2 ≠ [] ∧ up.mgmt.sessions.length < 16 ∧
      up.sec.entropyFailed = false) ∧
    (let s := { inSess false with gtc := 12500000000 }
     hmpIn s peerAddr 0 52 = true ∧ proof.length = 52 ∧
      (s.mgmt.sessions.find? fun y => y.sid == BitVec.ofNat 32 (numAt proof 0 4) && !y.opened) = some (sess false) ∧
      (s.gtc - (sess false).since).toNat ≤ 12500000000 ∧ slotLocked s 0 = false ∧
      proof.drop 4 = hmac (objBytes s 0x1110 2)
        (asciiBytes "HMP-PROVE" ++ (sess false).nc ++ (sess false).nd ++ leBytes 1 0)) ∧
    (hmpIn (inSess true) hdr.src hdr.sid 0 = true ∧ session33 (inSess true) hdr.sid = some (sess true) ∧
      (sess true).high.all (fun n => n.toNat < hdr.seq.toNat) = true) ∧
    (netIn (inSess true) peerAddr (48 + badFrame.length) = true ∧ peerAddr.toPort = (inSess true).mgmt.udpPort ∧
      hmpBad (badFrame.take 31) = true ∧ hmpBad badFrame = false ∧ hmpTagFails (inSess true) badFrame = true) := by
  refine ⟨⟨by decide +kernel, by decide +kernel, by decide +kernel, by decide +kernel, ?_,
    by decide +kernel, by decide +kernel⟩, ⟨by decide +kernel, by decide +kernel, by decide +kernel,
    by decide +kernel, by decide +kernel, rfl⟩, by decide +kernel,
    by decide +kernel, by decide +kernel, by decide +kernel, by decide +kernel, ?_⟩
  rotate_left
  · show (gcmTag (List.replicate 32 3) (hmpNonce 7 6 false) badHeader [] !=
      (gcmTag (List.replicate 32 3) (hmpNonce 7 6 false) badHeader []).map (· + 1)) = true
    exact bne_iff_ne.2 (ne_shifted (by simp [gcmTag]))
  intro h
  have : (objBytes up 0x1110 2).length = 0 := by rw [h]; rfl
  exact absurd this (by decide +kernel)

theorem witness_managementRequests :
    (hmpIn (inSess true) hdr.src hdr.sid 1404 = true ∧ session33 (inSess true) hdr.sid = some (sess true) ∧
      (sess true).high.all (fun n => n.toNat < hdr.seq.toNat) = true) ∧
    parseRead [1, 0, 0, 0, 0x00, 0x10, 1, 0] = some (.read [⟨0x1000, 1⟩]) ∧
    (parseRead (64 :: 0 :: List.replicate 258 0)).isSome = true ∧
    parseWrite [1, 0, 0, 0, 0x00, 0x90, 3, 0, 1, 0, 1, 0, 1, 0, 0, 0, 0, 0, 0, 0] = some (.write [⟨⟨0x9000, 3⟩, [1]⟩]) ∧
    parseReadSegment [0x01, 0xC0, 6, 0, 0, 0, 0, 0, 0x00, 0x04, 0, 0] = some (.readSegment ⟨0xC001, 6⟩ 0 1024) ∧
    parseWriteSegment [0x01, 0xC0, 6, 1, 0, 0, 0, 0, 1, 0, 0, 0, 0xAA] =
      some (.writeSegment ⟨0xC001, 6⟩ true 0 [0xAA]) ∧
    parseList [0x00, 0xD0, 0, 0] = some (.list ⟨0xD000, 0⟩) ∧
    hmpIn up peerAddr 0 0 = true ∧ hmpIn up hdr.src 7 1405 = false ∧
    (4 : U16).toNat ∉ [1, 2, 3, 0x10, 0x11, 0x12, 0x13, 0x20, 0x50] := by
  decide +kernel

theorem witness_mailboxRequests :
    Meets up (cfgOpen up 31 = true ∧ (getFn up 31).mbx.busy = false) := meets (by decide +kernel) (by decide +kernel)

/-- An access of the network, and a package whose engine serves it next. -/
def netRead : NetAccess :=
  { src := peerAddr, sid := 7, seq := 6, opcode := 0x10, slot := 0, role := .admin, key := List.replicate 32 3
    cal := false, access := .read [⟨0x1000, 1⟩] }

/-- A WRITE of these entries, and a package whose engine serves it next. -/
def netWrite (l : List WEntry) : NetAccess := { netRead with opcode := 0x11, access := .write l }
def writeNext (l : List WEntry) : State := { up with mgmt := { up.mgmt with queue := [netWrite l] } }
def goodEntry : WEntry := ⟨⟨0x1003, 3⟩, [1]⟩

theorem witness_dictionaryService :
    (let s := { up with mgmt := { up.mgmt with queue := [netRead] } }
     Meets s (s.power.phase ≠ .asleep ∧ s.mgmt.turn = 0 ∧ s.mgmt.queue = netRead :: [] ∧
       netRead.access = .read [⟨0x1000, 1⟩])) ∧
    (let s := { modMbx 31 (fun x => { x with busy := true, op := some (.read [⟨0x1000, 1⟩]) }) up with
       mgmt := { up.mgmt with turn := 32 } }
     Meets s (s.power.phase ≠ .asleep ∧ s.mgmt.turn = 31 + 1 ∧ (getFn s 31).mbx.op = some (.read [⟨0x1000, 1⟩]))) ∧
    (let l := [goodEntry, ⟨⟨0, 0⟩, [1]⟩]
     Meets (writeNext l) ((writeNext l).power.phase ≠ .asleep ∧ (writeNext l).mgmt.turn = 0 ∧
       ∃ x ∈ l.zipIdx.map fun e => entryStatus (writeNext l) (.net .admin false) l e.2 e.1, x ≠ .ok)) ∧
    (let l := [goodEntry]
     Meets (writeNext l) ((writeNext l).mgmt.queue = netWrite l :: [] ∧ isStored goodEntry.ref = false ∧
       ∀ x ∈ l.zipIdx.map fun e => entryStatus (writeNext l) (.net .admin false) l e.2 e.1, x = .ok)) ∧
    Meets up (accepts up boss ⟨0x1003, 3⟩ (.num 1) ∧ up.mgmt.restoring = false) ∧
    (let s := { up with mgmt := { up.mgmt with restoring := true } }
     Meets s (s.mgmt.restoring = true)) := by
  refine ⟨?_, ?_, ?_, ?_, ?_, ?_⟩ <;>
    (refine meets (by decide +kernel) ?_; (try unfold accepts); decide +kernel)

theorem witness_managementNetwork :
    netIn up peerAddr (48 + 1452) = true ∧ { peerAddr with extended := true }.extended = true ∧
      isOwn up linkLocal = true := by
  refine ⟨by decide +kernel, rfl, ?_⟩
  simp [isOwn]

/-! ### Contexts, objects and fences (04) -/

/-- A queue entry or a body from its qwords. -/
def qwords (l : List Nat) : Bytes := l.flatMap (leBytes 8)

/-- A memory object of function 9 (port 1), 4 KiB at pool address 0x200000. -/
def obj5 : MemObj :=
  { slot := 5, gen := 1, owner := 9, ctx := none, bytes := 4096, shared := true, mirrored := false, fence := false
    ring := 0, mirrorBase := 0, base := 0x200000, mirrorSpan := none, grants := [], freed := false, freer := none
    changes := [] }

/-- Its handle. -/
def handle5 : Nat := 5 * 2 ^ 24 + 1

/-- An event ring. -/
def ring0 : Ring := { base := 0x30000, log2 := 6, producer := 0, consumer := 0, overflow := false, dropped := 0 }

/-- A package with the object, and with function 9's ring 0. -/
def owned : State :=
  { modFn 9 (fun x => { x with int := { x.int with rings := [(0, ring0)] } }) up with
    obj := { ObjSt.init with objs := [obj5], slotsUsed := 5 } }

/-- Function 9 has taken an admin entry. -/
def taken (b : Bytes) (s : State) : State := modFn 9 (fun x => { x with admin := { x.admin with taken := some b } }) s

/-- Both rings of function 9's admin queue run, with entries to read. -/
def adminUp : State := modFn 9 (fun x => { x with admin := { AdminQ.init with
  sqEnable := true, cqEnable := true, sqLog2 := 6, cqLog2 := 6, sqTail := 64, cleared := false } }) up

theorem witness_adminQueueRegisters :
    Meets up (barOpen up 9 = true ∧ (getFn up 9).admin.cqEnable = false ∧ (getFn up 9).admin.cleared = true) ∧
    (let s := modFn 9 (fun x => { x with admin := { x.admin with cqEnable := true } }) up
     Meets s (barOpen s 9 = true ∧ (0x80000006 : U64).getLsbD 31 = true ∧ (getFn s 9).admin.sqEnable = false ∧
       (getFn s 9).admin.cqEnable = true ∧ (getFn s 9).admin.cleared = true)) ∧
    (∀ live : Bool,
      let u : TagUse := ⟨0, 9, .admin 9 live, none, 0, 0, 64, [], 0, false, false⟩
      let s := modPort 1 (fun x => { x with tags := [u] }) adminUp
      Meets s (adminRead? s 9 = some u ∧ u.use = .admin 9 live ∧ adminOpen s 9 = true)) ∧
    Meets adminUp (adminRead? adminUp 9 = none ∧ adminReads adminUp 9 = true ∧ (getPort adminUp (portOf 9)).waits = [] ∧
      freeTag adminUp 9 = some 0 ∧ dmaOpen adminUp = true) ∧
    (let s := modFn 9 (fun x => { x with admin := { x.admin with held := [⟨0, .success, 1⟩], cqTail := 63 } }) adminUp
     Meets s (s.fns.length = 32 ∧ (getFn s 9).admin.held = ⟨0, .success, 1⟩ :: [] ∧
       adminHolds (getFn s 9).admin = false ∧ cqFull (getFn s 9).admin = false ∧ fnStalled s 9 = false ∧
       dmaOpen s = true)) ∧
    (let b := qwords [0x22, 0, 0, 0, 0, 0, 0, 0]
     Meets (taken b up) ((getFn (taken b up) 9).admin.taken = some b ∧
       entOpcode b ∉ [1, 2, 3, 0x10, 0x11, 0x12, 0x13, 0x20, 0x21])) := by
  refine ⟨?_, ?_, ?_, ?_, ?_, ?_⟩
  case refine_3 => intro live; cases live <;> exact meets (by decide +kernel) (by decide +kernel)
  all_goals exact meets (by decide +kernel) (by decide +kernel)

theorem witness_contextLifecycle :
    (let b := qwords [1, 0x100000, 0x06000000, handle5, 0, 0, 0, 0]
     let s := taken b owned
     Meets s (EntryTaken s 9 1 b ∧ createCtxFieldsOk s 9 b = true ∧ rootInside s b = true ∧ entFlags b = 0 ∧
       (ownedObject s 9 (qwordAt b 3)).toOption = some obj5 ∧ ctxsOfFn s 9 < contextQuota s 9 ∧
       ctxsOfPort s (portOf 9) < objNum s (0x4010 + (portOf 9).val) 1 ∧
       ctxBySlot s 9 (field (qwordAt b 2) 19 0) = none ∧ nextCtxId s = some 0 ∧ s.det.remapping = false)) ∧
    (let s := { up with det := { up.det with remapping := true } }
     Meets s (s.det.remapping = true)) ∧
    (let b := qwords [2, 0xFFFFF, 0, 0, 0, 0, 0, 0]
     let s := taken b { up with obj := { ObjSt.init with ctxs := [(0xFFFFF, ctx9)] } }
     Meets s (EntryTaken s 9 2 b ∧ entFlags b = 0 ∧ qwordAt b 1 >>> 20 = 0 ∧ zeroFrom b 2 = true ∧
       ctx? s (BitVec.ofNat 20 (qwordAt b 1)) = some ctx9 ∧ ctx9.fn = 9 ∧ ctx9.state ≠ .aborting)) ∧
    (let x := { ctx9 with state := .aborting, destroyer := some ⟨9, 5⟩ }
     let s := { up with obj := { ObjSt.init with ctxs := [(0, x)] } }
     Meets s (ctx? s 0 = some x ∧ abortEnds s 0 = true)) ∧
    (let b := qwords [3, 0, 0x40000, 0, 0, 0, 0, 0]
     let s := taken b { up with obj := { ObjSt.init with ctxs := [(0, ctx9)] } }
     Meets s (EntryTaken s 9 3 b ∧ entFlags b = 0 ∧ qwordAt b 1 >>> 20 = 0 ∧ qwordAt b 2 % 64 = 0 ∧
       zeroFrom b 3 = true ∧ ctx? s (BitVec.ofNat 20 (qwordAt b 1)) = some ctx9 ∧ ctx9.fn = 9 ∧
       fnStalled s 9 = false ∧ dmaOpen s = true)) ∧
    (let b := qwords [0x20, 0x30000, 20 * 256 + 255, 0, 0, 0, 0, 0]
     Meets (taken b up) (EntryTaken (taken b up) 9 0x20 b ∧ eventRingOk (taken b up) 9 b = true)) ∧
    (let b := qwords [0x21, 0, 0, 0, 0, 0, 0, 0]
     let s := taken b owned
     Meets s (EntryTaken s 9 0x21 b ∧ entFlags b = 0 ∧ qwordAt b 1 >>> 8 = 0 ∧ zeroFrom b 2 = true ∧
       (getRing s 9 (qwordAt b 1)).isSome = true ∧ ringNamed s 9 (qwordAt b 1) = false)) := by
  refine ⟨?_, ?_, ?_, ?_, ?_, ?_, ?_⟩ <;>
    (refine meets (by decide +kernel) ?_; (try unfold EntryTaken); decide +kernel)

theorem witness_objectLifecycle :
    (let b := qwords [0x10, 4096, 0, 0, 0, 0, 0, 0]
     let s := taken b up
     Meets s (EntryTaken s 9 0x10 b ∧ createObjFieldsOk s 9 b = true ∧ (ownerCtx s 9 b).toOption = some none ∧
       objQuotaExceeded s 9 (qwordAt b 1) = false ∧ nextSlot s = some 1 ∧
       (placeObject s (qwordAt b 2 % 2 ^ 24) (qwordAt b 1) ((entFlags b).testBit 1)).isSome = true)) ∧
    (let b := qwords [0x11, handle5, 0, 0, 0, 0, 0, 0]
     let s := taken b owned
     Meets s (EntryTaken s 9 0x11 b ∧ entFlags b = 0 ∧ zeroFrom b 2 = true ∧ (ownedObject s 9 (qwordAt b 1)).toOption = some obj5 ∧
       obj? s obj5.slot = some obj5 ∧ objectInUse s obj5 = false)) ∧
    (let o := { obj5 with freed := true, freer := some ⟨9, 5⟩ }
     let s := { owned with obj := { owned.obj with objs := [o] } }
     Meets s (obj? s 5 = some o ∧ freeEnds s 5 = true ∧ o.changes = [])) ∧
    (let b := qwords [0x12, handle5, 2 * 256 + 31, 0, 0, 0, 0, 0]
     let s := taken b owned
     Meets s (EntryTaken s 9 0x12 b ∧ grantFieldsOk s b = true ∧ grantRights b = 2 ∧
       liveObj s (qwordAt b 1) = some obj5 ∧ obj5.shared = true ∧ obj5.owner = 9 ∧ grantTarget b ≠ 9 ∧
       grantOf obj5 (grantTarget b) = none)) ∧
    (let b := qwords [0x13, handle5, 31, 0, 0, 0, 0, 0]
     let o := { obj5 with grants := [(31, .read)] }
     let s := taken b { owned with obj := { owned.obj with objs := [o] } }
     Meets s (EntryTaken s 9 0x13 b ∧ grantFieldsOk s b = true ∧ grantRights b = 0 ∧
       (ownedObject s 9 (qwordAt b 1)).toOption = some o ∧ grantOf o (grantTarget b) = some .read)) ∧
    (let o := { obj5 with changes := [(31, ⟨9, 5⟩)] }
     let s := { owned with obj := { owned.obj with objs := [o] } }
     Meets s (obj? s 5 = some o ∧ grantDropEnds s 5 31 = true ∧ o.changes = [(31, ⟨9, 5⟩)])) := by
  refine ⟨?_, ?_, ?_, ?_, ?_, ?_⟩ <;>
    (refine meets (by decide +kernel) ?_; (try unfold EntryTaken); decide +kernel)

/-- The object as a fence object whose last word holds 5. -/
def fenceObj : MemObj := { obj5 with shared := false, fence := true, mirrorBase := 0x8000 }
def fenced : State :=
  { owned with
    obj := { owned.obj with objs := [fenceObj], mirrors := [(5, 511, 5)] }
    pool := { owned.pool with mem := [(0x200000 + 4088, 5)] } }

/-- A command of context 0 with these bytes, at this stage. -/
def cmdOf (raw : Bytes) (stage : CmdStage) : Cmd :=
  { ctx := 0, q := 0, raw := raw, stage := stage, waits := 0, registered := false, tag := none, late := none
    epoch := 0, tailAt := 0, parts := [], serial := none, entryAt := none, xfer := none, span := ⟨0, [], []⟩, digest := none }

/-- A NOP that waits on the last word of the fence object. -/
def waitingNop : Cmd :=
  { cmdOf (qwords [1 + 5 * 2 ^ 40 + 1 * 2 ^ 48 + 1 * 2 ^ 56, 0, handle5, 511, 5, 0, 0, 0]) (.queued 3) with
    registered := true }

theorem witness_fenceSignals :
    Meets fenced (fenceWord fenced handle5 511 = some fenceObj ∧ maySignal fenceObj 9 = true ∧ fenceObj.base % 8 = 0 ∧
      poisoned fenced (lineOf (fenceAddr fenceObj 511)) 64 = false ∧ fenceValue fenced fenceObj 511 = 5 ∧
      fenceValue fenced fenceObj 511 < (BitVec.allOnes 64).toNat) := meets (by decide +kernel) (by decide +kernel)

theorem witness_fenceWaits :
    (let s := { fenced with
       obj := { fenced.obj with ctxs := [(0, ctx9)] }, cmd := { CmdSt.init with table := [waitingNop] } }
     Meets s (waitingCmd s 0 = some waitingNop ∧
       (waitRefs waitingNop.raw)[waitingNop.waits]? = some ⟨handle5, 511, 5, false⟩ ∧
       fenceWord s handle5 511 = some fenceObj ∧ poisoned s (lineOf (fenceAddr fenceObj 511)) 64 = false ∧
       5 ≤ fenceValue s fenceObj 511)) ∧
    Meets fenced (obj? fenced 5 = some fenceObj ∧
      (fenced.obj.mirrors.find? fun m => m.1 == 5 && m.2.1 == 511) = some (5, 511, 5) ∧
      fnStalled fenced fenceObj.owner = false ∧ packageHeld fenced = false ∧ fenceObj.mirrorBase % 8 = 0) := by
  refine ⟨?_, ?_⟩ <;> exact meets (by decide +kernel) (by decide +kernel)

/-! ### The command path (05) -/

/-- A range of context 0: 1 MiB from address 0x100000, an object's bytes from pool address 0x400000. -/
def ent0 : REntry :=
  { id := 0, who := .ctx 0, start := 0x100, len := 0x100, ttype := 4, sharedRo := false, coherent := false, table := 0
    root := 0, base := 0x400000, pasid := 0, object := none, viaGrant := none, fenceObj := false, effR := true
    effW := true, effA := true, referenced := true, locked := false }

/-- A package with context 0, its range in the store and these commands. -/
def work (x : Ctx) (cmds : List Cmd) : State :=
  { owned with
    obj := { owned.obj with ctxs := [(0, x)], ctxNext := 1 }
    trans := { TransSt.init with banks := [ent0] :: List.replicate 7 [], nextEntry := 1 }
    cmd := { CmdSt.init with table := cmds } }

/-- A dispatched command: opcode, entries, OpFlags, body. -/
def running (op entries flags : Nat) (body : List Nat) : Cmd :=
  cmdOf (qwords ((op + flags * 2 ^ 24 + 2 * 2 ^ 40 + entries * 2 ^ 56) :: 0 :: body)) .dispatched

/-- The same command at a stage. -/
def staged (c : Cmd) (st : CmdStage) : Cmd := { c with stage := st }

theorem witness_doorbellsAndFetch :
    (let s := work ctx9 []
     Meets s (fnPresent s 9 = true ∧ barOpen s 9 = true ∧ ctxBySlot s 9 0 = some 0 ∧ ctx? s 0 = some ctx9 ∧
       replaying s 0 = false ∧ ctx9.state = .ready ∧ doorbellValid ctx9 64 = true ∧ doorbellValid ctx9 65 = false)) ∧
    Meets up (fnPresent up 31 = true ∧ ((4 : Nat) ≠ 8 ∨ 0 % 8 ≠ 0 ∨ true = false)) ∧
    (let s := work ctx9 []
     let u := modPort 1 (fun y => { y with fetchTurn := 0 }) s
     let s1 := takeEntryTurn 1
       { u with cmd := { u.cmd with table := u.cmd.table ++ [newCmd 0 ctx9.head.toNat ctx9.tail] } }
     Meets s ((fetchOrder s 1).head? = some (0, ctx9) ∧ ctx? s 0 = some ctx9 ∧ fetchingCmd s 0 = none ∧
       entryNext s = none ∧
       (translate (.ctx 0) (entryVa ctx9 0) .read s1).2.toOption = some ent0 ∧
       targetOf ent0 (entryVa ctx9 0) = .pool 0x400000)) ∧
    (let s := work ctx9 []
     let s := { s with
       obj := { s.obj with ctxs := s.obj.ctxs ++ [(1, { ctx9 with fn := 0 })] }
       cmd := { s.cmd with entryWaits := [0, 1], entryTurn := 3 } }
     Meets s ((fetchOrder s 1).head? = some (0, ctx9) ∧ fetchingCmd s 0 = none ∧ entryNext s = some 0 ∧
       (0 : Port) ≠ 1)) ∧
    (let x := { newCmd 0 0 1 with entryAt := some (.pool 0x400000) }
     let s := work ctx9 [x]
     Meets s (fetchingCmd s 0 = some x ∧ x.stage = .fetching 0 ∧ x.raw = [] ∧ ctx? s 0 = some ctx9 ∧
       ctx9.state = .ready ∧ fetchHeld s 0 9 = false ∧ gated s 0x400000 64 false none = false ∧
       poisoned s 0x400000 64 = false ∧ takenEntries (poolBytes s 0x400000 64) = 1)) ∧
    (let x := staged (running 1 1 0 []) (.queued 0)
     let s := work ctx9 [x]
     Meets s (dispatchHead s 0 = some x ∧ ctx? s 0 = some ctx9 ∧ fnStalled s 9 = false ∧ packageHeld s = false ∧
       mayIssue s 0 = true ∧ replayStalled s 0 = false ∧ lateHeld s x = false ∧
       decodeStatus s 9 x = .success ∧ barrierSet x.raw = false ∧
       waitRefs x.raw = [] ∧ hdrOpcode x.raw ≠ 0x20 ∧ takesTag (hdrOpcode x.raw) = false)) ∧
    (let x := staged (running 4 1 0 []) (.queued 0)
     let s := work ctx9 [x]
     Meets s (dispatchHead s 0 = some x ∧ ctx? s 0 = some ctx9 ∧ fnStalled s 9 = false ∧ packageHeld s = false ∧
       mayIssue s 0 = true ∧ replayStalled s 0 = false ∧ lateHeld s x = false ∧
       bodyBytes (hdrOpcode x.raw) = none)) ∧
    (let x := staged (running 0x20 2 0 [0x100000, 0, 1 * 2 ^ 40 + 1 * 2 ^ 16, 0, 0, 0, 0, 0]) (.queued 4)
     let s := work ctx9 [x]
     Meets s (dispatchHead s 0 = some x ∧ ctx? s 0 = some ctx9 ∧ fnStalled s 9 = false ∧ packageHeld s = false ∧
       mayIssue s 0 = true ∧ replayStalled s 0 = false ∧ lateHeld s x = false ∧
       hdrOpcode x.raw = 0x20 ∧ fixed? s 0 = none ∧
       launchGtc x.raw ≤ s.gtc.toNat ∧ freeStreamTag s = some 0)) := by
  refine ⟨?_, ?_, ?_, ?_, ?_, ?_, ?_, ?_⟩ <;> exact meets (by decide +kernel) (by decide +kernel)

/-- The hypotheses that every dispatched command of `work` meets. -/
def RunsIn (x : Cmd) (op : Nat) (s : State) : Prop := Meets s (Runs s 0 0 op x ctx9)

theorem witness_commandEffects :
    (let x := running 1 1 0 []
     RunsIn x 1 (work ctx9 [x])) ∧
    (let x := running 2 1 0 [0x1FFFF8, 7]
     let s := work ctx9 [x]
     let t := translateSide (.ctx 0) .write [(0, bodyQ x.raw 0, 8)] s
     Meets s (Runs s 0 0 2 x ctx9 ∧ t.2.toOption = some [⟨0, 0x1FFFF8, 8, .pool 0x4FFFF8, none, 0⟩] ∧
       0x4FFFF8 % 8 = 0 ∧ poisoned t.1 (lineOf 0x4FFFF8) 64 = false ∧
       runsGated t.1 [⟨0, 0x1FFFF8, 8, .pool 0x4FFFF8, none, 0⟩] = false ∧ opsOfCmd t.1 0 0 = [])) ∧
    (let x := running 3 1 0 [0x100000]
     let s := work ctx9 [x]
     let t := translateSide (.ctx 0) .write [(0, bodyQ x.raw 0, 8)] s
     Meets s (Runs s 0 0 3 x ctx9 ∧ t.2.toOption = some [⟨0, 0x100000, 8, .pool 0x400000, none, 0⟩] ∧
       0x400000 % 8 = 0 ∧ poisoned t.1 (lineOf 0x400000) 64 = false ∧
       runsGated t.1 [⟨0, 0x100000, 8, .pool 0x400000, none, 0⟩] = false ∧ opsOfCmd t.1 0 0 = [])) ∧
    (let x := running 0x10 3 0 (List.replicate 16 0)
     let s := work ctx9 [x]
     Meets s (Runs s 0 0 0x10 x ctx9 ∧ x.xfer = none ∧ pickEngine s 0 = some 0)) ∧
    (let x := running 0x11 3 0 (List.replicate 16 0)
     let s := work ctx9 [x]
     Meets s (Runs s 0 0 0x11 x ctx9 ∧ x.xfer = none ∧ pickEngine s 0 = some 0)) ∧
    (let x := running 0x12 1 0 [0x100000, 64, 0]
     let s := work ctx9 [x]
     Meets s (Runs s 0 0 0x12 x ctx9 ∧ x.xfer = none ∧ pickEngine s 0 = some 0)) ∧
    (let x := running 0x20 2 0 [0x100000, 0, 1 * 2 ^ 40 + 1 * 2 ^ 16 + 959, 0, 0, 0, 0, 0]
     let s := work ctx9 [x]
     let t := translateSide (.ctx 0) .read [(0, bodyQ x.raw 0, 1)] s
     Meets s (Runs s 0 0 0x20 x ctx9 ∧ x.parts = [] ∧ (∀ n ∈ launchClusters x.raw, n ∉ s.det.fenced) ∧
       t.2.toOption = some [⟨0, 0x100000, 1, .pool 0x400000, none, 0⟩] ∧
       [Run.mk 0 0x100000 1 (.pool 0x400000) none 0].any isWindow = false)) ∧
    (let x := running 0x30 1 0 [0x100000, 64]
     let s := work ctx9 [x]
     let t := translateSide (.ctx 0) .read [(0, 0x100000, 64)] (spanServing s 0 0 x)
     Meets s (Runs s 0 0 0x30 x ctx9 ∧ SpanTurn s 0 0 x ∧ spanStep (bodyQ x.raw 0) (bodyQ x.raw 1) x.span.done = 64 ∧
       t.2.toOption = some [⟨0, 0x100000, 64, .pool 0x400000, none, 0⟩] ∧ bodyQ x.raw 1 ≤ x.span.done + 64 ∧
       ownedLines t.1 (poolRuns [⟨0, 0x100000, 64, .pool 0x400000, none, 0⟩]) = [])) ∧
    (let x := running 0x31 1 0 [0x100000, 64]
     let s := work ctx9 [x]
     let t := translateSide (.ctx 0) .write [(0, 0x100000, 64)] (spanServing s 0 0 x)
     Meets s (Runs s 0 0 0x31 x ctx9 ∧ SpanTurn s 0 0 x ∧ spanStep (bodyQ x.raw 0) (bodyQ x.raw 1) x.span.done = 64 ∧
       t.2.toOption = some [⟨0, 0x100000, 64, .pool 0x400000, none, 0⟩] ∧ bodyQ x.raw 1 ≤ x.span.done + 64 ∧
       dieCopies t.1 (poolRuns [⟨0, 0x100000, 64, .pool 0x400000, none, 0⟩]) = [])) ∧
    (let x := running 0x40 1 1 [0x100000, 4096]
     RunsIn x 0x40 (work ctx9 [x])) ∧
    (let x := { running 0x40 1 0 [0x100000, 4096] with span := ⟨1, [], []⟩ }
     let s := work ctx9 [x]
     Meets s (Runs s 0 0 0x40 x ctx9 ∧ x.span.done ≠ 0 ∧ scanOver s (.command 0 0) = true)) ∧
    (let x := running 0x50 1 0 [0x100000, 64, 0x100040]
     let s := work ctx9 [x]
     Meets s (Runs s 0 0 0x50 x ctx9 ∧ digestNext s = some (.cmd 0 0) ∧ x.span.done < bodyQ x.raw 1 ∧
       digestEngine (digestServing s 0 0) x = some 0 ∧
       (readLeaf x ctx9 (bodyQ x.raw 0 + x.span.done) 64 (digestServing s 0 0)).2.isSome = true)) ∧
    (let x := running 0x30 1 0 [0x100000, 0x4000040]
     let s := work ctx9 [x]
     Meets s (Runs s 0 0 0x30 x ctx9 ∧ spanWhole x.raw = false ∧ SpanTurn s 0 0 x)) := by
  refine ⟨?_, ?_, ?_, ?_, ?_, ?_, ?_, ?_, ?_, ?_, ?_, ?_, ?_⟩ <;> (try unfold RunsIn) <;>
    (refine meets (by decide +kernel) ?_; unfold Runs; (try unfold SpanTurn); decide +kernel)

/-- A part of a LAUNCH on the last cluster of an L64, cancelled at reset. -/
def part959 (ended : Bool) : Part := { k := 0, cluster := 959, ended := ended, cancelled := some 0, epoch := 0 }

theorem witness_commandsEnd :
    (let x := { running 1 1 0 [] with stage := .ended .success, tag := some 0xFFFE }
     let s := work ctx9 [x]
     Meets s (cmd? s 0 0 = some x ∧ ctx? s 0 = some ctx9 ∧ mayIssue s 0 = true ∧ packageHeld s = false ∧
       signalRefs x.raw = [] ∧ x.xfer = none ∧ hdrOpcode x.raw ≠ 0x50 ∧ ctx9.completed.toNat < 2 ^ 62 ∧
       ctx9.lostReason ≠ .functionAborted)) ∧
    (let x := { cmdOf (qwords [1 + 5 * 2 ^ 40 + 1 * 2 ^ 52 + 1 * 2 ^ 56, 0, handle5, 511, 9, 0, 0, 0]) (.ended .success) with q := 0 }
     let s := { fenced with obj := { fenced.obj with ctxs := [(0, ctx9)] }, cmd := { CmdSt.init with table := [x] } }
     Meets s (cmd? s 0 0 = some x ∧ ctx? s 0 = some ctx9 ∧ mayIssue s 0 = true ∧ packageHeld s = false ∧
       signalRefs x.raw = [⟨handle5, 511, 9, false⟩] ∧ x.xfer = none ∧ hdrOpcode x.raw ≠ 0x50 ∧
       fenceStatus s 9 true ⟨handle5, 511, 9, false⟩ = .success ∧ fenceWord s handle5 511 = some fenceObj ∧
       fenceObj.base % 8 = 0 ∧ poisoned s (lineOf (fenceAddr fenceObj 511)) 64 = false ∧ isFixed s 0 = false)) ∧
    (let x := { cmdOf (qwords [1 + 5 * 2 ^ 40 + 1 * 2 ^ 52 + 1 * 2 ^ 56, 0, 0, 511, 9, 0, 0, 0]) (.ended .success) with q := 0 }
     let s := { fenced with obj := { fenced.obj with ctxs := [(0, ctx9)] }, cmd := { CmdSt.init with table := [x] } }
     Meets s (cmd? s 0 0 = some x ∧ signalRefs x.raw = [⟨0, 511, 9, false⟩] ∧
       fenceStatus s 9 true ⟨0, 511, 9, false⟩ ≠ .success ∧ ctx9.state = .ready)) ∧
    (let s := work ctx9 [{ running 0x12 1 0 [0, 0, 0] with tag := some 0xFFFE }]
     Meets s (tagLive s 0xFFFE = true ∧ tagLive s 0 = false)) ∧
    (let x := { running 0x20 2 0 [] with parts := [part959 false] }
     let s := { work ctx9 [x] with gtc := 125000 }
     Meets s ((s.cmd.table.find? fun y => y.ctx == 0 && y.q == 0 && partOpen 959 0 y.parts) = some x ∧
       cmd? s 0 0 = some x ∧ x.stage = .dispatched ∧ (∀ p ∈ endPart 959 0 x.parts, p.ended = true) ∧
       x ∈ s.cmd.table ∧ partOverdue s 959 0 x.parts = true ∧ 959 < clustersOf s.variant)) ∧
    (let z : EngineSt := { EngineSt.init with active := [(0, 0), (1, 0)], serving := some (1, 0), moved := 2500 }
     let s := { up with cmd := { up.cmd with engines := up.cmd.engines.set 31 z } }
     Meets s (s.cmd.engines[(31 : Engine).val]? = some z ∧ z.serving = some (1, 0) ∧
       s.cmd.engines[(0 : Engine).val]? = some EngineSt.init ∧ EngineSt.init.serving = none)) := by
  refine ⟨?_, ?_, ?_, ?_, ?_, ?_⟩ <;> exact meets (by decide +kernel) (by decide +kernel)

/-! ### Translation (06) -/

/-- A walk of context 0. -/
def walk0 (stale : Bool) : Walk :=
  { id := 4, who := .ctx 0, granule := 0, group := 0, place := .anchor, offset := 0, stale := stale
    waiters := [(0, .read, true)] }

/-- A package with that walk and a context whose table stands in the object of slot 5. -/
def walking (stale : Bool) (table : U64) : State :=
  let s := work { ctx9 with rangeTable := table } []
  { s with trans := { s.trans with walks := [walk0 stale], nextWalk := 5 } }

/-- An interior anchor of height 2 with one child at offset 0: magic, Height, Count and HighGranule (R189). -/
def interior : State :=
  let s := walking false (w64 handle5)
  { s with pool := { s.pool with mem :=
    [(0x200000, 0x46), (0x200001, 0x4E), (0x200003, 2), (0x200004, 1), (0x200015, 0x20)] } }

theorem full_of_walks (w : Walk) (n : Nat) (s : State) (hn : 512 + 4096 ≤ n)
    (h : s.trans.walks = List.replicate n w) {k : Nat} (hk : (w.group == k) = true) : groupFull s k = true := by
  have : (groupWalks s k).length = n := by simp [groupWalks, h, hk]
  simpa [groupFull, this] using hn

theorem witness_translation :
    (let s := work ctx9 []
     Meets s (∃ a, asker s (.ctx 0) = some a ∧ askerAborting s (.ctx 0) = false ∧
       storeLookup s (.ctx 0) a (0x1FFFFF / 4096) = some ent0 ∧
       (entryVerdict s a ent0 0x1FFFFF .atomic).toOption = some ent0)) ∧
    (let s := work ctx9 []
     Meets s (∃ a, asker s (.ctx 0) = some a ∧ askerAborting s (.ctx 0) = false ∧
       storeLookup s (.ctx 0) a ((2 ^ 57 - 1) / 4096) = none ∧ a.fixed = false ∧ s.trans.walks = [] ∧
       groupFull s (groupOf s (bankOf s (.ctx 0))) = false)) ∧
    (let s := work ctx9 []
     let s := { s with trans := { s.trans with walks := List.replicate 4608 (walk0 false) } }
     Meets s (∃ a, asker s (.ctx 0) = some a ∧ askerAborting s (.ctx 0) = false ∧
       storeLookup s (.ctx 0) a ((2 ^ 57 - 1) / 4096) = none ∧ a.fixed = false ∧
       (∀ w ∈ s.trans.walks, w.granule ≠ (2 ^ 57 - 1) / 4096) ∧
       groupFull s (groupOf s (bankOf s (.ctx 0))) = true)) ∧
    (let s := walking false 0
     Meets s (∃ a, asker s (.ctx 0) = some a ∧ storeLookup s (.ctx 0) a 0 = none ∧ a.fixed = false ∧
       walk0 false ∈ s.trans.walks ∧ (walk0 false).who = .ctx 0 ∧ (walk0 false).granule = 0)) ∧
    (let s := walking true 0
     Meets s (∃ a, (s.trans.walks.find? fun x => x.id == 4) = some (walk0 true) ∧
       ((groupWalks s 0).take 512).any (fun x => x.id == 4) = true ∧ packageHeld s = false ∧
       asker s (.ctx 0) = some a ∧ askerAborting s (.ctx 0) = false)) ∧
    (let s := walking false 0
     Meets s (∃ a, asker s (.ctx 0) = some a ∧ tableAt s a = none)) ∧
    (let b := poolBytes interior 0x200000 4096
     Meets interior (∃ a, asker interior (.ctx 0) = some a ∧ tableAt interior a = some ⟨0x200000, 4096, 0⟩ ∧
       (readNode interior ⟨0x200000, 4096, 0⟩ 0).toOption.isSome = true ∧ nodeRedirect b = 0 ∧
       nodeOk b true 0 0 (2 ^ 45) 4096 none = true ∧ nodeLeaf b = false)) ∧
    (let s := work ctx9 []
     let w := { walk0 false with place := .install { ent0 with start := 0 } 0, waiters := [(0, .read, false)] }
     let s := { s with trans := { s.trans with walks := [w] } }
     Meets s (∃ a, asker s (.ctx 0) = some a ∧ (s.trans.walks.find? fun x => x.id == 4) = some w ∧
       ((groupWalks s 0).take 512).any (fun x => x.id == 4) = true ∧ s.trans.leases = [] ∧
       ((getBank s (bankOf s (.ctx 0))).any fun y => y.id == 0) = true ∧ (w.waiters.all fun x => !x.2.2) = true)) ∧
    Meets up (959 < clustersOf up.variant ∧ 959 ∉ up.det.fenced ∧ ctx? up 0xFFFFF = none) ∧
    (let s := work ctx9 []
     let t := translate (.ctx 0) 0x100000 .read s
     Meets s (ctx? s 0 = some ctx9 ∧ mayIssue s 0 = true ∧ packageHeld s = false ∧ t.2.toOption = some ent0 ∧
       ent0.ttype = 4 ∧ dropPending t.1 (bankOf t.1 (.ctx 0)) ent0 = false ∧ t.1.trans.walks = [])) ∧
    (let x : Scan := ⟨7, .context 0, .abort 0⟩
     let s := { up with trans := { up.trans with scans := [x] } }
     Meets s ((s.trans.scans.find? fun y => y.bank == (7 : Bank).val) = some x)) := by
  refine ⟨⟨inv_of_check (by decide +kernel), ?_⟩, ⟨inv_of_check (by decide +kernel), ?_⟩,
    ⟨inv_of_check (by decide +kernel), ?_⟩, ⟨inv_of_check (by decide +kernel), ?_⟩,
    ⟨inv_of_check (by decide +kernel), ?_⟩, ⟨inv_of_check (by decide +kernel), ?_⟩,
    ⟨inv_of_check (by decide +kernel), ?_⟩, ⟨inv_of_check (by decide +kernel), ?_⟩, ?_, ?_, ?_⟩
  · exact ⟨⟨9, 0, 0, 0, false, none⟩, by decide +kernel⟩
  · exact ⟨⟨9, 0, 0, 0, false, none⟩, by decide +kernel⟩
  · refine ⟨⟨9, 0, 0, 0, false, none⟩, by decide +kernel, by decide +kernel, by decide +kernel, rfl, ?_, ?_⟩
    · intro w h; rw [List.eq_of_mem_replicate h]; decide
    · refine full_of_walks (walk0 false) 4608 _ (by decide) rfl ?_
      decide +kernel
  · exact ⟨⟨9, 0, 0, 0, false, none⟩, by decide +kernel⟩
  · exact ⟨⟨9, 0, 0, 0, false, none⟩, by decide +kernel⟩
  · exact ⟨⟨9, 0, 0, 0, false, none⟩, by decide +kernel⟩
  · exact ⟨⟨9, w64 handle5, 0, 0, false, none⟩, by decide +kernel⟩
  · exact ⟨⟨9, 0, 0, 0, false, none⟩, by decide +kernel⟩
  all_goals exact meets (by decide +kernel) (by decide +kernel)

theorem witness_addressServices :
    (let u := tagUse (.ats 0xFFFFF 0) false
     Meets (reading u) (tag? (reading u) 3 16383 = some u ∧ u.quarantined = false ∧ u.use = .ats 0xFFFFF 0 ∧
       u.bytes ≠ 0)) ∧
    (let s := modPort 3 (fun x => { x with atsHolds := [⟨31, []⟩] }) up
     Meets s (((getPort s 3).atsHolds.find? fun x => x.itag == (31 : Fin 32).val) = some ⟨31, []⟩)) ∧
    Meets up (accepts up boss ⟨0x3000, 3⟩ (.num 0xFF)) ∧
    Meets up (accepts up boss ⟨0x3100 + 31, 1⟩ (.num (2 ^ 40)) ∧ accepts up boss ⟨0x3100 + 31, 2⟩ (.num (2 ^ 30)) ∧
      extentRefused 31 (some (w64 (2 ^ 40))) (some (w64 (2 ^ 30))) up = none) := by
  refine ⟨?_, ?_, ?_, ?_⟩ <;>
    (refine meets (by decide +kernel) ?_; (try unfold accepts); decide +kernel)

/-! ### Transfers and faults (07) -/

/-- A tile of 64 bytes between two places of context 0's range. -/
def tile0 (begun : Bool) : Tile :=
  { index := 0, src := [⟨0, 0x100000, 64, .pool 0x400000, none, 0⟩], dst := [⟨0, 0x100040, 64, .pool 0x400040, none, 0⟩]
    pieces := [], begun := begun, stop := none }

/-- A COPY_TENSOR of one tile on engine 31. -/
def copying (t : Option Tile) (next : Nat) : Cmd :=
  { running 0x10 3 0 (List.replicate 16 0) with
    tag := some 0, xfer := some { engine := 31, next := next, consumed := 0, faulted := none, tile := t
                                  atsDenied := none, outBytes := 0, leaf := [], leaves := [] } }

/-- A package in which it runs. -/
def moving (x : Cmd) : State :=
  let s := work ctx9 [x]
  { s with cmd := { s.cmd with engines := s.cmd.engines.set 31 { EngineSt.init with active := [(0, 0)] } } }

/-- A tile whose only source run lies in host memory, under the entry in the store. -/
def hostTile : Tile :=
  { tile0 false with src := [⟨0, 0x100000, 64, .host 0x5000 3, none, 0⟩] }

/-- That tile's command in turn, with the fault queue of function 9 running. -/
def unreachable : State :=
  modFn 9 (fun x => { x with faultq := { FaultQ.init with enable := true, log2 := 6 } }) (moving (copying (some hostTile) 0))

/-- A command whose window of two tiles is full. -/
def creditFull : Cmd :=
  { copying none 2 with raw := qwords ((0x10 + 2 * 2 ^ 40 + 3 * 2 ^ 56) :: 0 :: List.replicate 14 0 ++ [2 * 2 ^ 32, 0]) }

theorem witness_transferTiles :
    (let x := copying (some (tile0 false)) 0
     let s := moving x
     Meets s (pickTurn s (getEngine s 31) = ((pickTurn s (getEngine s 31)).1, some (0, 0)) ∧
       cmd? s 0 0 = some x ∧ ctx? s 0 = some ctx9 ∧ (x.xfer.bind (·.tile)) = some (tile0 false) ∧
       runsHeld s ((tile0 false).src ++ (tile0 false).dst) = true ∧ (tile0 false).stop = none ∧
       opsOfCmd s 0 0 = [] ∧ tileGated s (tile0 false) = false ∧ poisonedSource s (tile0 false) = none)) ∧
    (let x := copying (some (tile0 true)) 0
     let s := moving x
     Meets s (cmd? s 0 0 = some x ∧ ctx? s 0 = some ctx9 ∧ x.stage = .dispatched ∧
       (x.xfer.bind (·.tile)) = some (tile0 true) ∧ (tile0 true).begun = true ∧ opsDone s 0 0 = true ∧ opsOfCmd s 0 0 = [])) ∧
    (let x := copying none 1
     let s := moving x
     Meets s (cmdOfTag s 0 = some x ∧ x.xfer.isSome = true ∧ ctx? s x.ctx = some ctx9 ∧ cmd? s x.ctx x.q = some x ∧
       creditOf x.raw = (0 : U16).toNat ∧ (x.xfer.map (·.consumed)).getD 9 ≤ 1 ∧ 1 ≤ (x.xfer.map (·.next)).getD 0)) ∧
    (let x := copying (some hostTile) 0
     let s := unreachable
     Meets s (pickTurn s (getEngine s 31) = ((pickTurn s (getEngine s 31)).1, some (0, 0)) ∧ cmd? s 0 0 = some x ∧
       ctx? s 0 = some ctx9 ∧ (x.xfer.bind (·.tile)) = some hostTile ∧ hostTile.stop = none ∧
       runsHeld s (hostTile.src ++ hostTile.dst) = true ∧ faultqRuns (getFn s 9).faultq = true ∧
       faultqFull (getFn s 9).faultq = false ∧
       (tileRuns hostTile).head? = some (0, ⟨0, 0x100000, 64, .host 0x5000 3, none, 0⟩) ∧
       (getFn s 9).cfg.pasidEnable = false ∧
       (x.xfer.bind fun y => tileMeets s x y 9 hostTile) = some (0, .faults .pasidDisabled 0x100000))) ∧
    (let x := creditFull
     let s := moving x
     Meets s ((getEngine s 31).serving = none ∧ (getEngine s 31).active = [(0, 0)] ∧ cmd? s 0 0 = some x ∧
       (x.xfer.bind (·.tile)) = none ∧ creditOf x.raw ≠ 0xFFFF ∧ windowOf x.raw ≠ 0 ∧
       (x.xfer.map fun y => decide (y.consumed + windowOf x.raw ≤ y.next)) = some true)) := by
  refine ⟨?_, ?_, ?_, ?_, ?_⟩ <;> exact meets (by decide +kernel) (by decide +kernel)

/-- A fault record of the command of `copying`. -/
def rec0 : FaultRec :=
  { id := 3, code := .unmapped, side := 1, need := .write, ctx := 0, opcode := 0x10, q := 0, tag := 0, va := 0x300000
    resume := 0, count := 1, gtc := 0, data := 0, written := 0 }

/-- Function 9's fault queue runs. -/
def faulting (f : FaultQ → FaultQ) : State :=
  modFn 9 (fun x => { x with faultq := f { FaultQ.init with enable := true, log2 := 6 } }) (moving (copying none 0))

theorem witness_faultQueue :
    (let s := faulting fun f => { f with waiting := [rec0], tail := 63 }
     Meets s ((getFn s 9).faultq.waiting = rec0 :: [] ∧ faultqRuns (getFn s 9).faultq = true ∧ fnStalled s 9 = false ∧
       ((getFn s 9).faultq.tail - (getFn s 9).faultq.head).toNat < 2 ^ (getFn s 9).faultq.log2 ∧ dmaOpen s = true)) ∧
    Meets up (barOpen up 31 = true ∧ (getFn up 31).faultq.enable = false ∧ (0x80000006 : U64).getLsbD 31 = true ∧
      (6 : U64).getLsbD 31 = false) ∧
    (let s := faulting fun f => { f with pending := [rec0] }
     Meets s (barOpen s 9 = true ∧ ((getFn s 9).faultq.pending.find? fun y => y.id == 3) = some rec0 ∧
       ctx? s rec0.ctx = some ctx9 ∧ ctx9.state = .ready ∧ cmd? s rec0.ctx rec0.q = some (copying none 0) ∧
       s.power.on.getLsbD (28 + (31 : Engine).val / 4) = true ∧
       s.det.enginesFenced.getLsbD (31 : Engine).val = false ∧ actionOk (3 * 2 ^ 32 + 3) = false ∧
       (3 * 2 ^ 32 + 3 : U64).toNat / 2 ^ 32 = (3 : U32).toNat)) ∧
    (let s := { faulting (fun f => { f with pending := [rec0] }) with gtc := 1250000000 }
     Meets s (((getFn s 9).faultq.pending.find? fun y => y.id == 3) = some rec0 ∧ ctx? s rec0.ctx = some ctx9 ∧
       nsCounts (getFn s 9).faultq.timeout.toNat ≤ (s.gtc - rec0.written).toNat)) := by
  refine ⟨?_, ?_, ?_, ?_⟩ <;> exact meets (by decide +kernel) (by decide +kernel)

/-! ### Windows and coherence (08) -/

/-- Package 5 as a peer with an open session. -/
def pair5 : PairSession :=
  { bootId := 77, nonceLocal := [], noncePeer := [], key := [], sent := 0, expect := 3, acked := 0, ackSent := 0, ackGot := none
    unacked := [], emitted := 0, advance := 0, resent := 0, owed := none, lanes := 3 }
def peer5 : Peer :=
  { id := 5, state := .up, port := some 2, tried := [], session := some pair5, hello := none, since := 0, heard := 0
    bootId := some 77 }

/-- A window of function 9 and the range behind it. -/
def win9 : Win :=
  { state := .opened, owner := 9, table := w64 handle5, root := 0, read := true, write := true, atomic := true
    srcMatch := 0, mask := 0 }
def entWin : REntry := { ent0 with who := .win 0xFFFF, start := 0 }

/-- The package with both. -/
def fabric : State :=
  let s := work ctx9 []
  { s with
    win := { s.win with peers := [peer5], table := [(0xFFFF, win9)], links := 0xFFF }
    trans := { s.trans with banks := List.replicate 7 [] ++ [[entWin]] } }

/-- A frame of package 5 to this package, the next in sequence. -/
def frame5 (last : Bool) : FrameHdr :=
  { src := 5, dst := 0, sealOk := true, linkSeq := 3, ackSeq := 0, window := 0xFFFF, tileIndex := 0, serial := 1
    streamTag := 0, last := last, access := 2, elementType := 0, reduceOp := 0, code := 0, byteOffset := 0 }

theorem takeFrame_taken {h : FrameHdr} {b : Bool} {s : State} (e : (takeFrame h b s).1.isSome = true) :
    takeFrame h b s = (some (takeFrame h b s).2, (takeFrame h b s).2) := by
  have key : (takeFrame h b s).1 = none ∨ (takeFrame h b s).1 = some (takeFrame h b s).2 := by
    unfold takeFrame
    split
    · exact .inr rfl
    · rcases openFrame h b s with ⟨u, _ | x⟩
      · exact .inl rfl
      · dsimp only
        split
        · exact .inl rfl
        · exact .inr rfl
  cases key with
  | inl k => rw [k] at e; cases e
  | inr k => exact Prod.ext k rfl

/-- A write operation at the receiver whose data has come in. -/
def recv5 : RecvOp :=
  { src := 5, window := 0xFFFF, serial := 1, tile := 0, need := .write, elementType := 0, reduceOp := 0, runs := []
    held := some [⟨0, 0, 64, .pool 0x400000, none, 0⟩], bytes := 64, staged := [], received := 64, executed := 64
    last := true, old := false, tag := 0 }

/-- The state behind an accepted frame, with an arrived frame in the queue of its pair. -/
def accepted (h : FrameHdr) (s : State) : State := (takeFrame h true s).2
def queuedIn (f : InFrame) (s : State) : State := { s with win := { s.win with inbox := s.win.inbox ++ [f] } }

/-- The check of one run of 64 bytes, as the last frame of an operation without others. -/
def asked (h : FrameHdr) (need : Need) (s : State) : State × Except (Option Nat) (List Run) :=
  checkOp h need [⟨0, 64⟩] (dropRecv h need (queuedIn (.check need h [⟨0, 64⟩]) (accepted h s)))

/-- The run it is translated to. -/
def run5 : Run := ⟨0, 0, 64, .pool 0x400000, none, 0⟩

/-- The package whose window of function 9 is as given. -/
def windowed (f : Win → Win) (s : State) : State := { s with win := { s.win with table := [(0xFFFF, f win9)] } }

theorem witness_windowReceiver :
    Meets fabric (session? fabric (frame5 true).src = some pair5 ∧
      ¬((frame5 true).src = fabric.win.localId ∧ (frame5 true).dst = fabric.win.localId) ∧
      (frame5 true).dst = fabric.win.localId ∧ (frame5 true).linkSeq = BitVec.ofNat 32 pair5.expect ∧
      fabric.win.inbox = []) ∧
    (let s := { fabric with win := { fabric.win with peers := [{ peer5 with session := some { pair5 with lanes := 0 } }] } }
     Meets s ((session? s (frame5 true).src).map (·.lanes) = some 0 ∧ (frame5 true).sealOk = true ∧
       (frame5 true).dst = s.win.localId)) ∧
    (∀ need ∈ [Need.write, .atomic, .read],
      let h := frame5 true
      Meets fabric (takeFrame h true fabric = (some (accepted h fabric), accepted h fabric) ∧
        (accepted h fabric).win.inbox = [] ∧ committed (accepted h fabric) h = false ∧
        (asked h need fabric).2.toOption = some [run5] ∧
        gated (asked h need fabric).1 0x400000 64 false none = false)) ∧
    (∀ s ∈ [windowed (fun x => { x with srcMatch := 0xFFF, mask := 0xFFF }) fabric,
        windowed (fun x => { x with write := false }) fabric, windowed (fun x => { x with state := .closing }) fabric,
        { fabric with boot := { fabric.boot with state := .powered } },
        { fabric with trans := { fabric.trans with banks := List.replicate 7 [] ++ [[{ entWin with effW := false }]] } }],
      let h := frame5 true
      Meets s (takeFrame h true s = (some (accepted h s), accepted h s) ∧ (accepted h s).win.inbox = [] ∧
        (match (asked h .write s).2 with
         | .error (some _) => true
         | _ => false) = true)) ∧
    (let h := frame5 true
     let s := { fabric with win := { fabric.win with recvs := [{ recv5 with need := .atomic, serial := 9, bytes := 0x800000 }] } }
     Meets s (takeFrame h true s = (some (accepted h s), accepted h s) ∧ (accepted h s).win.inbox = [] ∧
       committed (accepted h s) h = false ∧
       (checkRuns h.window .atomic [⟨0, 64⟩] 0 (queuedIn (.check .atomic h [⟨0, 64⟩]) (accepted h s))).2.toOption =
         some [run5] ∧
       0x800000 < stagingUsed (queuedIn (.check .atomic h [⟨0, 64⟩]) (accepted h s)) + [64].sum ∧
       fenceBarred (accepted h s) .atomic h.elementType h.reduceOp [run5] = false)) ∧
    (let h := { frame5 true with window := 1 }
     Meets fabric (takeFrame h true fabric = (some (accepted h fabric), accepted h fabric) ∧
       (match (asked h .write fabric).2 with
        | .error (some _) => true
        | _ => false) = true)) ∧
    (let h := frame5 true
     let s := { fabric with
       trans := { fabric.trans with banks := List.replicate 8 [] }
       win := { fabric.win with filter := [⟨0x200000, true, [3]⟩] } }
     Meets s (takeFrame h true s = (some (accepted h s), accepted h s) ∧
       (match (asked h .write s).2 with
        | .error none => true
        | _ => false) = true)) ∧
    (let h := frame5 false
     let s := { fabric with win := { fabric.win with history := [⟨5, 77, 1, 0, 0, some 0⟩] } }
     Meets s (takeFrame h true s = (some (accepted h s), accepted h s) ∧ committed (accepted h s) h = true)) ∧
    (let h := frame5 true
     let b : Bytes := List.replicate 64 1
     let s := { fabric with win := { fabric.win with recvs := [recv5] } }
     Meets s (takeFrame h true s = (some (accepted h s), accepted h s) ∧ (accepted h s).win.inbox = [] ∧
       recvOf? (accepted h s) h (fun n => n != .read && accessCode n == h.access) = some recv5 ∧ recv5.need = .write ∧
       (∀ p ∈ pieceParts recv5 0 b, gated (accepted h s) p.1 p.2.length true none = false) ∧
       writeOp? s 5 0xFFFF 1 0 = some recv5 ∧ recv5.bytes ≤ recv5.executed)) ∧
    (let h := { frame5 true with access := 3 }
     let o := { recv5 with need := .atomic, received := 0, executed := 0 }
     let s := { fabric with win := { fabric.win with recvs := [o] } }
     Meets s (takeFrame h true s = (some (accepted h s), accepted h s) ∧
       recvOf? (accepted h s) h (fun n => n != .read && accessCode n == h.access) = some o ∧ o.need = .atomic ∧
       o.bytes ≤ o.received + (List.replicate 64 (1 : U8)).length ∧
       ∀ r ∈ poolRuns (o.held.getD []), gated (accepted h s) r.1 r.2.1 true none = false)) ∧
    (let h := frame5 true
     let g : InFrame := .data h (List.replicate 64 1)
     let s := { fabric with win := { fabric.win with
       recvs := [recv5], filter := [⟨0x400000, true, [3]⟩], inbox := [g] } }
     Meets s (takeFrame h true s = (some (accepted h s), accepted h s) ∧
       ((accepted h s).win.inbox.find? fun y => frameOf y == h.src) = some g ∧
       (runFrame g (queuedIn (.cancel h) (accepted h s))).2 = some g)) ∧
    (let s := { fabric with gtc := BitVec.ofNat 64 (peerTimeoutCounts fabric) }
     Meets s (peer? s 5 = some peer5 ∧ peerTimeoutCounts s ≤ (s.gtc - peer5.heard).toNat)) := by
  refine ⟨?_, ?_, ?_, ?_, ⟨inv_of_check (by decide +kernel), takeFrame_taken (by decide +kernel), by decide +kernel⟩,
    ⟨inv_of_check (by decide +kernel), takeFrame_taken (by decide +kernel), by decide +kernel⟩,
    ⟨inv_of_check (by decide +kernel), takeFrame_taken (by decide +kernel), by decide +kernel⟩,
    ⟨inv_of_check (by decide +kernel), takeFrame_taken (by decide +kernel), by decide +kernel⟩,
    ⟨inv_of_check (by decide +kernel), takeFrame_taken (by decide +kernel), by decide +kernel⟩,
    ⟨inv_of_check (by decide +kernel), takeFrame_taken (by decide +kernel), by decide +kernel⟩,
    ⟨inv_of_check (by decide +kernel), takeFrame_taken (by decide +kernel), by decide +kernel⟩, ?_⟩
  case refine_4 =>
    intro s hs
    simp only [List.mem_cons, List.not_mem_nil, or_false] at hs
    rcases hs with rfl | rfl | rfl | rfl | rfl <;>
      exact ⟨inv_of_check (by decide +kernel), takeFrame_taken (by decide +kernel), by decide +kernel⟩
  case refine_3 =>
    intro need h
    simp only [List.mem_cons, List.not_mem_nil, or_false] at h
    rcases h with rfl | rfl | rfl <;>
      exact ⟨inv_of_check (by decide +kernel), takeFrame_taken (by decide +kernel), by decide +kernel⟩
  all_goals exact meets (by decide +kernel) (by decide +kernel)

/-- The fixed schedule of context 0: the last slot, a moraine log in function 9's object. -/
def fixed0 (mode : LogMode) : FixedSt :=
  { slotMask := 0x8000, engines := [0], clusterBase := 0, clusterCount := 15, scratch := [], logMode := mode
    moraine := w64 handle5, replayAnchor := 0, cycleExact := false, toLog := [], overflowed := false, live := false
    stalled := false, replayWaits := [], cursor := 0, paired := 0, setAside := [], logWrites := [], gone := [] }

/-- A window operation of a command, at its sender. -/
def send5 (need : Need) (phase : Nat) : SendOp :=
  { ctx := 0, q := 0, peer := 5, window := 0xFFFF, serial := 1, tile := 0, need := need, runs := [(0, 64, 0)]
    phase := phase, denied := none, since := 0, got := [] }

/-- A write of a tile of 64 bytes to that window. -/
def windowTile : Tile := { tile0 false with dst := [⟨0, 0x100040, 64, .window 5 0xFFFF 0, none, 0⟩] }

/-- Its command in turn, with that operation out and the fault queue of function 9 running. -/
def sendingTile : State :=
  let s := modFn 9 (fun x => { x with faultq := { FaultQ.init with enable := true, log2 := 6 } })
    (moving (copying (some windowTile) 0))
  setObj 0x6200 6 (.num (2 ^ 63 + 0xFFF * 2 ^ 48)) { s with win := { fabric.win with sends := [send5 .write 0] } }

/-- The package in which it is out. -/
def sending (o : SendOp) : State :=
  let s := work ctx9 [running 2 1 0 [0x100000, 0]]
  { s with win := { fabric.win with sends := [o] } }

theorem witness_windowSender :
    (let o := send5 .write 0
     let t := takeFrame (frame5 true) true (sending o)
     Meets (sending o) (takeFrame (frame5 true) true (sending o) = (some t.2, t.2) ∧
       sendOp? t.2 (frame5 true) (fun o => o.phase == 0 && o.need != .read) = some o ∧
       sendOp? t.2 (frame5 true) (fun o => o.phase == 0) = some o ∧
       cmd? t.2 o.ctx o.q = some (running 2 1 0 [0x100000, 0]) ∧ ctx? t.2 o.ctx = some ctx9 ∧
       (frame5 true).code ≠ dcodeOf .busy ∧ { frame5 true with code := 0x24 }.code = dcodeOf .busy ∧
       (running 2 1 0 [0x100000, 0]).xfer = none ∧ ctx9.state = .ready ∧ mayIssue t.2 0 = true ∧
       packageHeld t.2 = false ∧
       sendOp? t.2 { frame5 true with serial := 9 } (fun o => o.phase == 0) = none ∧
       sendOp? t.2 (frame5 true) (fun o => o.need != .read && o.phase != 3) = some o)) ∧
    (let o := send5 .read 0
     let h := { frame5 true with access := 1 }
     let t := takeFrame h true (sending o)
     Meets (sending o) (takeFrame h true (sending o) = (some t.2, t.2) ∧
       sendOp? t.2 h (fun o => o.phase == 0 && o.need == .read) = some o ∧ h.code ≠ 0x80)) ∧
    (∀ stalled : Bool,
      let o := send5 .read 0
      let h := { frame5 true with access := 1, code := 0x80 }
      let cx := { ctx9 with fixed := if stalled then some { fixed0 .off with slotMask := 0 } else none }
      let s := sending o
      let s := { s with obj := { s.obj with ctxs := [(0, cx)] } }
      let t := takeFrame h true s
      Meets s (takeFrame h true s = (some t.2, t.2) ∧
        sendOp? t.2 h (fun o => o.phase == 0 && o.need == .read) = some o ∧
        cmd? t.2 0 0 = some (running 2 1 0 [0x100000, 0]) ∧ ctx? t.2 0 = some cx ∧ cx.state = .ready ∧ mayIssue t.2 0 = !stalled)) ∧
    (let o := send5 .write 0
     let x := copying (some windowTile) 0
     let h := { frame5 true with code := 0x22 }
     let t := takeFrame h true sendingTile
     Meets sendingTile (takeFrame h true sendingTile = (some t.2, t.2) ∧
       sendOp? t.2 h (fun o => o.phase == 0) = some o ∧ cmd? t.2 0 0 = some x ∧ ctx? t.2 0 = some ctx9 ∧
       h.code ≠ dcodeOf .busy ∧ (x.xfer.bind (·.tile)) = some windowTile ∧ windowTile.begun = false ∧
       mayIssue t.2 0 = true ∧ packageHeld t.2 = false ∧ runsHeld t.2 (windowTile.src ++ windowTile.dst) = true ∧
       opsOfCmd t.2 0 0 = [o] ∧ o.need = sideNeed x.raw 1 ∧ faultqRuns (getFn t.2 9).faultq = true ∧
       faultqFull (getFn t.2 9).faultq = false ∧
       (x.xfer.bind fun y => tileMeets
         (modSend o (fun _ => { o with phase := 5, denied := some (h.code, opVa t.2 o) }) t.2) x y 9 windowTile) =
           some (1, .faults .remoteDenied (opVa t.2 o)))) ∧
    (let o := send5 .write 4
     let s := { sending o with gtc := BitVec.ofNat 64 (retryCounts (sending o)) }
     Meets s ((s.win.sends.find? fun o => o.peer == 5 && o.window == 0xFFFF && o.serial == 1 && o.tile == 0 &&
         o.phase == 4 && retryCounts s ≤ since s o.since) = some o ∧
       cmd? s o.ctx o.q = some (running 2 1 0 [0x100000, 0]))) := by
  refine ⟨⟨inv_of_check (by decide +kernel), takeFrame_taken (by decide +kernel), by decide +kernel⟩,
    ⟨inv_of_check (by decide +kernel), takeFrame_taken (by decide +kernel), by decide +kernel⟩, ?_,
    ⟨inv_of_check (by decide +kernel), takeFrame_taken (by decide +kernel), by decide +kernel⟩, ?_⟩
  · intro stalled
    cases stalled <;>
      exact ⟨inv_of_check (by decide +kernel), takeFrame_taken (by decide +kernel), by decide +kernel⟩
  · exact meets (by decide +kernel) (by decide +kernel)

/-- The package with one peer in this state, at this count. -/
def paired (x : Peer) (gtc : U64) : State := { fabric with gtc := gtc, win := { fabric.win with peers := [x] } }

theorem witness_paldarLinks :
    (let x := { peer5 with session := none, hello := some [1], state := .connecting }
     let s := setObj 0x6200 6 (.num (2 ^ 63 + 0xFFF * 2 ^ 48)) (paired x 0)
     Meets s (fabricPort s 5 [] = some 0 ∧ s.win.sends = [] ∧ (0 : PackageId) = s.win.localId ∧ (1 : PackageId) ≠ s.win.localId ∧ peer? s 5 = some x ∧
       mayOpen s = true ∧ x.session = none ∧ x.hello = some [1] ∧ x.state = .connecting)) ∧
    (let t := takeFrame (frame5 true) false fabric
     Meets fabric (takeFrame (frame5 true) false fabric = (some t.2, t.2) ∧ session? fabric 5 = some pair5 ∧
       ackCount pair5 (frame5 true).linkSeq = some 3)) ∧
    (let ss := { pair5 with unacked := [⟨0, 1, 0, 0, 0, 0, []⟩], emitted := 1, owed := some 0, sent := 1 }
     let x := { peer5 with session := some ss }
     let s := paired x (BitVec.ofNat 64 (peerTimeoutCounts fabric + retryCounts fabric + 2500))
     Meets s (peer? s 5 = some x ∧ x.session = some ss ∧ ss.lanes ≠ 0 ∧ ss.unacked ≠ [] ∧ x.port = some 2 ∧
       0 < ss.emitted ∧ ss.emitted = min 512 ss.unacked.length ∧ retryCounts s ≤ since s ss.advance ∧
       retryCounts s ≤ since s ss.resent ∧ ss.owed = some 0 ∧ 2500 ≤ since s 0 ∧
       peerTimeoutCounts s ≤ since s ss.advance ∧ fabricPort s 5 (x.tried ++ x.port.toList) = none ∧
       (∀ o ∈ s.win.sends, o.peer ≠ 5))) ∧
    (let x := { peer5 with session := some { pair5 with unacked := [⟨0, 1, 0, 0, 0, 0, []⟩], sent := 1 } }
     let s := setObj 0x6200 6 (.num (2 ^ 63 + 0xFFF * 2 ^ 48))
       (paired x (BitVec.ofNat 64 (peerTimeoutCounts fabric)))
     Meets s (peer? s 5 = some x ∧ peerTimeoutCounts s ≤ since s 0 ∧
       (fabricPort s 5 (x.tried ++ x.port.toList)).isSome = true)) ∧
    (let x := { peer5 with session := none, state := .connecting }
     Meets (paired x 125000) (peer? (paired x 125000) 5 = some x ∧ mayOpen (paired x 125000) = true ∧
       x.hello = none)) ∧
    (let x := { peer5 with session := none, state := .down }
     Meets (paired x 125000) (peer? (paired x 125000) 5 = some x ∧ x.state = .down ∧ up.power.phase = .awake ∧
       125000 ≤ since (paired x 125000) x.since)) ∧
    Meets up (accepts up boss ⟨0x6200 + (4095 : PackageId).toNat / 128, (4095 : PackageId).toNat % 128 + 1⟩
        (.num (2 ^ 63)) ∧ (w64 (2 ^ 63)).getLsbD 63 = true ∧ (4095 : PackageId) ≠ up.win.localId) := by
  refine ⟨?_, ⟨inv_of_check (by decide +kernel), takeFrame_taken (by decide +kernel), by decide +kernel⟩, ?_, ?_, ?_,
    ?_, ?_⟩ <;> (refine meets (by decide +kernel) ?_; (try unfold accepts); decide +kernel)

/-- A request for a window of function 9. -/
def request (op : Nat) (w : WindowId) : WinRequest :=
  { tag := 1, window := w, op := op, table := w64 handle5, root := 0, atomic := true, write := true, read := true
    mask := 0, srcMatch := 0 }

theorem witness_windowAdministration :
    (let s := setObj (0x6100 + 9) 1 (.num 1) owned
     Meets s (resultPending s 9 = false ∧
       accepts s boss ⟨0x6100 + 9, 3⟩ (.bytes (winBytes (request 1 0xFFFF) 1)) ∧
       openStatus s 9 (request 1 0xFFFF) = 0)) ∧
    Meets fabric (resultPending fabric 9 = false ∧ win? fabric 0xFFFF = some win9 ∧ win9.state = .opened ∧
      win9.owner = 9 ∧ accepts fabric boss ⟨0x6100 + 9, 3⟩ (.bytes (winBytes (request 2 0xFFFF) 2)) ∧
      accepts fabric boss ⟨0x6100 + 9, 3⟩ (.bytes (winBytes (request 3 0xFFFF) 3)) ∧
      accepts fabric boss ⟨0x6100 + 9, 3⟩ (.bytes (winBytes (request 4 0xFFFF) 4)) ∧
      accepts fabric boss ⟨0x6100 + 9, 3⟩ (.bytes (winBytes (request 5 0xFFFF) 5))) ∧
    (let x := { win9 with state := .closing }
     let s := { fabric with win := { fabric.win with table := [(0xFFFF, x)], refreshing := [(9, 0xFFFF)] } }
     Meets s (win? s 0xFFFF = some x ∧ x.state = .closing ∧ s.win.recvs = [] ∧
       (s.win.refreshing.find? fun y => y.2 == 0xFFFF) = some (9, 0xFFFF))) := by
  refine ⟨?_, ?_, ?_⟩ <;>
    (refine meets (by decide +kernel) ?_; (try unfold accepts); decide +kernel)

/-- An object of function 1 (port 0) behind coherent window 63 at the top of its aperture. -/
def obj0 : MemObj := { obj5 with owner := 1, shared := false }
def coherent (st : CohState) (r : CohRefusal) : State :=
  let s := setObj (0x6010 + 63) 2 (.num (2 ^ 40)) (setObj (0x6010 + 63) 1 (.num handle5)
    { owned with obj := { owned.obj with objs := [obj0] } })
  { s with win := { s.win with coh := s.win.coh.set 63 (st, r) } }

theorem witness_coherence :
    (let s := coherent .off .none
     Meets s (accepts s (.mbx 0) ⟨0x6010 + 63, 3⟩ (.num 1) ∧ accepts s (.mbx 0) ⟨0x6010 + 63, 3⟩ (.num 0) ∧
       (cohOf s 63).1 = .off ∧ cohRefused s 63 = .none)) ∧
    (let s := coherent .refused .overlap
     Meets s (accepts s (.mbx 0) ⟨0x6010 + 63, 3⟩ (.num 0) ∧ (cohOf s 63).1 = .refused)) ∧
    (let s := coherent .on .none
     Meets s (accepts s (.mbx 0) ⟨0x6010 + 63, 3⟩ (.num 0) ∧ (cohOf s 63).1 = .on ∧
       apertureAt s (2 ^ 40) = some (63, obj0) ∧ apertureAt s (2 ^ 40 + 4095) = some (63, obj0) ∧
       s.win.filter.length + 256 ≤ filterEntries ∧ gated s 0x200000 4096 false (some 3) = false ∧
       gated s 0x200000 4096 true (some 3) = false ∧ s.pool.poison = [])) ∧
    (let s := coherent .closing .none
     Meets s ((cohOf s 63).1 = .closing ∧ cohLines s 63 = [])) ∧
    (let x : Snoop := ⟨3, 0x200000, true, 0, false, { kind := 4, unit := 13, fn := some 9, ctx := some 0, access := 1 }⟩
     let s := { coherent .on .none with
       gtc := 125000, win := { (coherent .on .none).win with snoops := [x], filter := [⟨0x200000, false, [3]⟩] } }
     Meets s ((s.win.snoops.find? fun y => y.die == 3 && y.line == 0x200000) = some x ∧ s.win.waiting = [] ∧
       (s.win.snoops.find? fun y => y.die == 3 && y.line == 0x200000 && !y.late && 125000 ≤ since s y.since) =
         some x ∧ .snoopTimeout ∉ s.err.wireFaults ∧ s.err.capture.heldNow = false)) := by
  refine ⟨?_, ?_, ?_, ?_, ?_⟩ <;>
    (refine meets (by decide +kernel) ?_; (try unfold accepts); decide +kernel)


/-! ### The pool (09) -/

/-- The object in the general region, where its pool has no second copy. -/
def pooled (mirror : Option Nat) (poison : List Nat) : State :=
  let o := { obj5 with base := 0x90000000, mirrorSpan := mirror, mirrored := mirror.isSome }
  { owned with obj := { owned.obj with objs := [o] }, pool := { owned.pool with poison := poison } }

/-- A package that is not declared ready, of this variant, at the highest role. -/
def early (v : Variant) : State :=
  { State.reset with variant := v, mgmt := { MgmtSt.init with linkUp := true } }

theorem witness_poolMaintenance :
    (let s := pooled none [0]
     Meets s (0x90000FC0 % 64 = 0 ∧ copiesOf s 0x90000FC0 = none ∧ 0x90000FC0 ∉ s.pool.poison ∧
       (assocGet s.pool.tracker (rowBase 0x90000FC0)).getD 0 + 1 < rowThreshold s ∧
       assocGet s.pool.stale 0x90000FC0 = none ∧
       poisonable s 0x90000FC0 = true ∧ s.pool.poison.length < 65536)) ∧
    (let s := pooled none (List.replicate 65536 0)
     Meets s (copiesOf s 0x90000FC0 = none ∧ 0x90000FC0 ∉ s.pool.poison ∧ poisonable s 0x90000FC0 = true ∧
       65536 ≤ s.pool.poison.length)) ∧
    (let s := pooled (some 0xA0000000) []
     Meets s (copiesOf s 0x90000FC0 = some 0xA0000FC0 ∧ 0x90000FC0 ∉ s.pool.poison ∧
       inCarveOut s 0x90000FC0 = false ∧ s.pool.poison.length < 65536)) ∧
    (let s := pooled (some 0xA0000000) []
     let s := { s with pool := { s.pool with stale := [(0x90000FC0, List.replicate 64 0)] } }
     Meets s (0x90000FC0 ∉ s.pool.poison ∧ (assocGet s.pool.stale 0x90000FC0).isSome = true ∧
       inCarveOut s 0x90000FC0 = false ∧ poisonable s 0x90000FC0 = true ∧ s.pool.poison.length < 65536)) ∧
    (let s := { pooled none [0x90000FC0] with obj := { (pooled none []).obj with ctxs := [(0, ctx9)] } }
     Meets s (0x90000FC0 ∈ s.pool.poison ∧ ctx? s 0 = some ctx9 ∧ ctx9.state = .ready ∧
       copiesOf s 0x90000FC0 = none)) ∧
    (let m : Remap := ⟨0, 0x800, true, [(64, 0x1040)]⟩
     let s := { up with pool := { up.pool with remaps := [m] } }
     Meets s ((s.pool.remaps.find? fun m => m.row == 0 && m.copying) = some m)) ∧
    (let s := early .l32
     Meets s (isReady s = false ∧ s.variant ≠ .l64 ∧
       accepts s boss ⟨0x5040 + (11 : Stack).val, 3⟩ (.num (0 : U64).toNat) ∧ s.pool.repairing = none ∧
       repairLeft s (11 : Stack).val ≠ 0)) ∧
    (let s := early .l64
     Meets s (isReady s = false ∧ s.variant = .l64 ∧
       accepts s boss ⟨0x5060 + (23 : Stack).val, 1⟩ (.num (0x10000 : U64).toNat) ∧ s.pool.margining = none ∧
       field (0x10000 : U64).toNat 17 16 ≤ 1)) ∧
    (let s := { early .l16 with pool := { (early .l16).pool with repairing := some (0, 0) } }
     Meets s (s.pool.repairing = some ((0 : Stack).val, 0))) ∧
    (let s := { early .l64 with pool := { (early .l64).pool with margining := some (23, 0) } }
     Meets s (s.pool.margining = some ((23 : Stack).val, 0))) ∧
    (∀ extent : Bool,
     let x : Scrub := ⟨0x90000040, 0x1000, 64, some 0xA0000040, none, extent, false⟩
     let s := { up with pool := { up.pool with scrubs := [x], poison := [0x90000080] } }
     Meets s (memNext s = some (.scrub 0x90000040 extent) ∧ s.pool.scrubs.find? (scrubAt 0x90000040 extent) = some x ∧
       x.bytes ≤ x.done + scrubBytes x)) ∧
    (∀ extent : Bool,
     let x : Scrub := ⟨0x90000040, 0x10000000, 64, none, none, extent, false⟩
     let s := { up with pool := { up.pool with scrubs := [x] } }
     Meets s (memNext s = some (.scrub 0x90000040 extent) ∧ s.pool.scrubs.find? (scrubAt 0x90000040 extent) = some x ∧
       x.done + scrubBytes x < x.bytes)) := by
  refine ⟨?_, ?_, ?_, ?_, ?_, ?_, ?_, ?_, ?_, ?_, ?_, ?_⟩
  case refine_2 =>
    refine meets (by decide +kernel) ⟨by decide +kernel, ?_, by decide +kernel, ?_⟩
    · intro h; exact absurd (List.eq_of_mem_replicate h) (by decide)
    · exact Nat.le_of_eq (List.length_replicate (n := 65536) (a := 0)).symm
  case refine_11 => intro extent; cases extent <;> exact meets (by decide +kernel) (by decide +kernel)
  case refine_12 => intro extent; cases extent <;> exact meets (by decide +kernel) (by decide +kernel)
  all_goals
    (refine meets (by decide +kernel) ?_; (try unfold accepts); decide +kernel)


/-! ### Time and determinism (10) -/

/-- A package whose PTP port has this grandmaster, in this state of its discipline. -/
def timed (m : Option U64) (st : SyncState) : State :=
  { up with win := { up.win with links := 0x800 }, sync := { up.sync with master := m, state := st } }

theorem eui_ne_zero (m : Nat) (hm : m < 2 ^ 48) :
    w64 (m / 2 ^ 24 * 2 ^ 40 + 0xFFFE * 2 ^ 24 + m % 2 ^ 24) ≠ 0 := by
  intro h
  have h := congrArg BitVec.toNat h
  have e : m / 2 ^ 24 * 2 ^ 40 + 0xFFFE * 2 ^ 24 + m % 2 ^ 24 < 2 ^ 64 := by omega
  have z : (0 : U64).toNat = 0 := rfl
  rw [z] at h
  simp only [w64, BitVec.toNat_ofNat] at h
  have e2 := Nat.mod_eq_of_lt e
  omega

theorem ptpIdentity_ne_zero : (0 : U64) ≠ ptpIdentity := (eui_ne_zero _ (Nat.mod_lt _ (Nat.two_pow_pos 48))).symm

/-- A clock at the best priorities. -/
def clock0 : Announce := ⟨0, 0, 0, 0, 0, 0, 0⟩

theorem witness_timeSynchronization :
    Meets up (fromMaster up 7 = false) ∧
    (let s := timed (some 7) .holdover
     Meets s (fromMaster s 7 = true ∧ ptpPort s = true ∧ s.sync.master = some 7)) ∧
    (let s := { timed (some 7) .locked with sync := { (timed (some 7) .locked).sync with
       sync := some (0xFFFF, 100), inBand := 15, delayReq := some (3, 90), last := some (50, 100) } }
     Meets s (fromMaster s 7 = true ∧ s.sync.sync = some (0xFFFF, 100) ∧ s.sync.state = .locked ∧
       s.sync.delayReq = some (3, 90) ∧ s.sync.last = some (50, 100))) ∧
    (let s := { timed (some 7) .locking with sync := { (timed (some 7) .locking).sync with
       sync := some (0xFFFF, 100), inBand := 15 } }
     Meets s (fromMaster s 7 = true ∧ s.sync.sync = some (0xFFFF, 100) ∧ s.sync.state = .locking ∧
       s.boot.state = .ready)) ∧
    (let s := { timed (some 7) .locking with
       boot := { up.boot with state := .mapPublished }
       sync := { (timed (some 7) .locking).sync with sync := some (0xFFFF, 100) } }
     Meets s (fromMaster s 7 = true ∧ s.sync.sync = some (0xFFFF, 100) ∧ s.sync.state = .locking ∧
       s.boot.state ≠ .ready ∧ s.sync.stepped = false ∧ (countNs 100 : Int) - (10 ^ 9 : Nat) - (s.sync.delay : Int) < 0)) ∧
    Meets (timed none .freeRun) (ptpPort (timed none .freeRun) = true ∧
      clock0.domain = objNum (timed none .freeRun) 0x7001 5 ∧ clock0.identity ≠ ptpIdentity) ∧
    (let s := timed none .freeRun
     Meets s (ptpPort s = true ∧ s.sync.master = none)) ∧
    (let s := { timed (some 7) .locked with gtc := 1250000000 }
     Meets s (s.sync.state = .locked ∧ 1250000000 ≤ (s.gtc - s.sync.lastSync).toNat)) := by
  refine ⟨?_, ?_, ?_, ?_, ?_,
    ⟨inv_of_check (by decide +kernel), by decide +kernel, by decide +kernel, ptpIdentity_ne_zero⟩,
    ?_, ?_⟩ <;> exact meets (by decide +kernel) (by decide +kernel)

/-- A package with this much of its determinism set, and with clusters 0 and 959 in their positions. -/
def det (d : DetSt) : State :=
  { up with det := d, boot := { up.boot with positions := [(0, 0), (959, 13)] } }

theorem witness_unitsAndModes :
    Meets up (959 < clustersOf up.variant ∧ 959 / 15 = 63) ∧
    (let x := { running 0x20 2 0 [] with parts := [part959 false] }
     let s := work ctx9 [x]
     Meets s (959 < clustersOf s.variant ∧ 959 ∉ s.det.fenced ∧ ctx? s 0 = some ctx9 ∧ ctx9.state = .ready ∧
       0 ∈ ctxsOnUnit s [959] none ∧ cmd? s 0 x.q = some x ∧ cmdOnUnit s [959] none x = true ∧ x.stage = .dispatched)) ∧
    (let x := copying none 0
     let s := moving x
     Meets s (s.det.enginesFenced.getLsbD (31 : Engine).val = false ∧ ctx? s 0 = some ctx9 ∧ ctx9.state = .ready ∧
       0 ∈ ctxsOnUnit s [] (some 31) ∧ cmd? s 0 x.q = some x ∧ cmdOnUnit s [] (some 31) x = true ∧
       x.stage = .dispatched)) ∧
    Meets up (up.obj.ctxs = [] ∧ up.det.remapping = false ∧ accepts up boss ⟨0x7002, 4⟩ (.num 1)) ∧
    (let s := det { DetSt.init with remapping := true, fenced := [959] }
     Meets s (s.det.remapping = true)) ∧
    (let s := det { DetSt.init with fenced := [0] }
     Meets s (accepts s boss ⟨0x7003, 5⟩ (.num 1) ∧ stageRefused s = none ∧ stagedClusters s ≠ [])) ∧
    (let s := { det { DetSt.init with mode := .staging, unacked := [959], acked := [0] } with gtc := 125000 }
     Meets s (s.det.mode = .staging ∧ 959 ∈ s.det.unacked ∧ stageLate s = false)) ∧
    (let s := det { DetSt.init with mode := .commitPending, acked := [0, 959], fenced := [0] }
     Meets s (s.det.mode = .commitPending ∧ s.det.commitGtc ≤ s.gtc)) := by
  refine ⟨?_, ?_, ?_, ?_, ?_, ?_, ?_, ?_⟩ <;>
    (refine meets (by decide +kernel) ?_; (try unfold accepts); decide +kernel)

/-- Context 0 with its fixed schedule, at the last count of the slot, over this pool. -/
def scheduled (mode : LogMode) (mem : Mem) (cmds : List Cmd) : State :=
  let s := work { ctx9 with fixed := some (fixed0 mode) } cmds
  { s with gtc := 15 * 512 + 319, pool := { s.pool with mem := mem } }

/-- A log of one entry of this kind, with 64 in its third qword. -/
def logMem (kind : U8) : Mem :=
  [(0x200010, 32), (0x200040 + 7, kind), (0x200040 + 16, 64)]

theorem witness_fixedSchedules :
    (let x := staged (running 1 1 0 []) (.queued 0)
     let cx := { ctx9 with fixed := some (fixed0 .off) }
     let s := scheduled .off [] [x]
     Meets s (packageHeld s = false ∧ contextsInWindow s = [0] ∧ ctx? s 0 = some cx ∧
       cx.fixed = some (fixed0 .off) ∧ (fixed0 .off).toLog = [] ∧ (fixed0 .off).logWrites = [] ∧ s.det.arrivals = [] ∧
       fetchingCmd s 0 = none ∧ lateHeld s x = false ∧ (fixed0 .off).stalled = false ∧ cx.state = .ready ∧
       dispatchHead s 0 = some x ∧ x.stage = .queued 0 ∧ decodeStatus s cx.fn x = .success ∧
       barrierSet x.raw = false ∧ waitRefs x.raw = [] ∧ hdrOpcode x.raw ≠ 0x20 ∧
       takesTag (hdrOpcode x.raw) = false ∧ fnStalled s cx.fn = false ∧ inWindow s (fixed0 .off).slotMask = true)) ∧
    (∀ kind ∈ [(1 : U8), 2, 3, 4],
      let cx := { ctx9 with fixed := some (fixed0 .replay) }
      let s := scheduled .replay (logMem kind) []
      let e := poolBytes s 0x200040 32
      Meets s (ctx? s 0 = some cx ∧ cx.fixed = some (fixed0 .replay) ∧ (fixed0 .replay).live = false ∧
       moraineObj s (fixed0 .replay) = some obj5 ∧ entryGate s (fixed0 .replay) obj5 = none ∧ (fixed0 .replay).replayWaits = [] ∧
       nextEntry s (fixed0 .replay) obj5 = some (0, e) ∧ entryTime s 0 e ≤ s.gtc.toNat ∧ entryKind e = kind.toNat ∧ cx.state = .ready ∧
        doorbellValid cx (w64 (qwordAt e 2)) = true)) := by
  refine ⟨meets (by decide +kernel) (by decide +kernel), ?_⟩
  intro kind h
  simp only [List.mem_cons, List.not_mem_nil, or_false] at h
  rcases h with rfl | rfl | rfl | rfl <;> exact meets (by decide +kernel) (by decide +kernel)


/-! ### Events, interrupts and wake (11) -/

/-- Function 9 with these interrupts. -/
def ints (f : IntSt → IntSt) (s : State) : State := modFn 9 (fun x => { x with int := f x.int }) s

/-- A record for ring 0. -/
def event0 : EvRec := { ring := 0, kind := 1, info := 0, ctx := none, data0 := 0, data1 := 0, gtc := 0 }

theorem witness_eventsAndWeir :
    (let y := { ring0 with producer := 62 }
     let s := ints (fun x => { x with formed := [event0, event0], rings := [(0, y)] }) up
     Meets s ((getFn s 9).int.formed = event0 :: [event0] ∧ fnStalled s 9 = false ∧ (getFn s 9).int.held = [] ∧
       getRing s 9 event0.ring = some y ∧ y.overflow = false ∧ ringUsed y < 2 ^ y.log2 - 1 ∧ y.base.toNat % 4096 = 0 ∧
       dmaOpen s = true ∧ barOpen s 9 = true)) ∧
    (let s := modFn 9 (fun x => { x with cfg := { x.cfg with command := 2 } }) (ints (fun x => { x with formed := [event0] }) up)
     Meets s ((getFn s 9).int.formed = event0 :: [] ∧ fnStalled s 9 = true ∧ dmaOpen s = true ∧ (getFn s 9).int.held.length < 4096)) ∧
    (let y := { ring0 with producer := 64 }
     let s := ints (fun x => { x with rings := [(0, y)] }) up
     Meets s (barOpen s 9 = true ∧ getRing s 9 (0 : U8).toNat = some y ∧ (y.producer - 0).toNat ≤ 2 ^ y.log2 ∧
       2 ^ y.log2 < (y.producer - 0xFFFFFFFF).toNat ∧ y.overflow = false)) ∧
    Meets up (barOpen up 0 = true ∧ portOf 0 = 0 ∧ barOpen up 31 = true ∧ portOf 31 ≠ 0) ∧
    (let s := { ints (fun x => { x with weir := .holding, latches := 1, masks := 0 }) up with gtc := 10000 }
     Meets s (s.power.phase = .awake ∧ (getFn s 9).int.weir = .holding ∧ rawSummary (getFn s 9).int = true ∧
       nsCounts (getFn s 9).int.delayNs ≤ (s.gtc - (getFn s 9).int.weirGtc).toNat)) ∧
    (let s := { up with power := { up.power with phase := .asleep } }
     Meets s (s.power.phase ≠ .awake)) := by
  refine ⟨?_, ?_, ?_, ?_, ?_, ?_⟩ <;> exact meets (by decide +kernel) (by decide +kernel)

/-- A package in this phase of its sleep, with these wake entries and this WakeGtc. -/
def sleeping (p : SleepPhase) (entry wake : Nat) : State :=
  setObj 0x8000 4 (.num wake) (setObj 0x8010 64 (.num entry) { up with gtc := 500, power := { up.power with phase := p, on := if p = .asleep then 0 else up.power.on } })

theorem witness_wakeAndSleep :
    (let s := sleeping .asleep (2 ^ 30 + 31 * 2 ^ 9 + 258) 0
     Meets s (s.power.phase = .asleep ∧ watchedBy s (.source 31 258) = some 64 ∧ s.power.on.getLsbD (portOf 31).val = false ∧ watchedBy s (.source 31 257) = none)) ∧
    (let s := sleeping .asleep (2 ^ 31) 500
     Meets s (s.power.phase = .asleep ∧ watchedBy s (.input 0) = some 64 ∧ objNum s 0x8000 4 ≠ 0 ∧
       objNum s 0x8000 4 ≤ s.gtc.toNat)) ∧
    (let s := sleeping .awake 0 0
     Meets s (accepts s boss ⟨0xB000, 8⟩ (.num 1) ∧ s.power.phase = .awake ∧ sleepRefusal s ≠ 0)) ∧
    (let s := { sleeping .awake 0 0 with power := { (sleeping .awake 0 0).power with on := 0 } }
     let s := { s with ports := s.ports.map fun p => { p with turnOff := .acked } }
     Meets s (accepts s boss ⟨0xB000, 8⟩ (.num 1) ∧ s.power.phase = .awake ∧ sleepRefusal s = 0)) ∧
    (let s := sleeping .entering 0 0
     Meets s (s.power.phase = .entering ∧ s.power.wakeLate = none)) ∧
    (let s := sleeping .waking 0 0
     Meets s (s.power.phase = .waking ∧ s.power.good.getLsbD 0 = true ∧ s.power.good.getLsbD 2 = true)) := by
  refine ⟨?_, ?_, ?_, ?_, ?_, ?_⟩ <;>
    (refine meets (by decide +kernel) ?_; (try unfold accepts); decide +kernel)


/-! ### Errors and resets (12) -/

/-- A package with these errors at this count. -/
def erring (f : ErrSt → ErrSt) (gtc : U64) : State := { up with gtc := gtc, err := f up.err }

theorem witness_errorReactions :
    (let s := erring (fun x => { x with wireFaults := [.islandClockLost] }) 0
     Meets s (Src.islandClockLost ∈ s.err.wireFaults ∧ Src.islandClockLost ≠ .unitFenced ∧
       pairClamped s .gtcSyncLost {} = false ∧ Src.gtcSyncLost ∉ s.err.wireFaults ∧ Src.gtcSyncLost ≠ .unitFenced ∧
       Src.gtcSyncLost ≠ .internalCorrected ∧ Src.gtcSyncLost ≠ .contextStateUncorrectable ∧
       Src.gtcSyncLost ≠ .wireFault)) ∧
    (let s := { up with power := { up.power with on := 0 } }
     Meets s (pairClamped s .port0LinkLost {} = true)) ∧
    (let s := { owned with obj := { owned.obj with ctxs := [(0, ctx9)] } }
     let i : ErrInfo := { kind := 2, access := 7, ctx := some 0 }
     Meets s (pairClamped s .contextStateUncorrectable i = false ∧ i.ctx = some 0 ∧ ctx? s 0 = some ctx9 ∧
       ctx9.state = .ready)) ∧
    (let s := work ctx9 []
     let i : ErrInfo := { kind := 2, access := 7, ctx := some 0, address := 0x1FFFFF, addressKind := 2 }
     Meets s (pairClamped s .internalCorrected i = false ∧ faultyOwner i = some (.ctx 0) ∧
       ((asker s (.ctx 0)).bind fun a => storeLookup s (.ctx 0) a (i.address.toNat / 4096)) = some ent0 ∧
       ent0.locked = false)) ∧
    Meets up (pairClamped up .unitFenced { kind := 5, unit := 959, access := 7 } = false ∧
      pairClamped up .unitFenced { kind := 4, unit := 31, access := 7 } = false ∧
      pairClamped up .unitFenced { kind := 7, unit := 3, access := 7 } = false) ∧
    (let s := setObj (0x9100 + srcCode .gtcSyncLost) 2 (.num 0x0C) (erring (fun x => { x with pkg := .blockFailed }) 0)
     Meets s (srcClass .gtcSyncLost < 2 ∧ s.err.pkg = .blockFailed ∧ (reactionOf s .gtcSyncLost).testBit 3 = true)) ∧
    (let s := setObj (0x9100 + srcCode .gtcSyncLost) 2 (.num 0x04) up
     Meets s (srcClass .gtcSyncLost < 3 ∧ s.err.pkg = .normal ∧ (reactionOf s .gtcSyncLost).testBit 3 = false ∧
       (reactionOf s .gtcSyncLost).testBit 2 = true)) ∧
    Meets up (pairClamped up .islandClockLost {} = false ∧ Src.islandClockLost ∉ up.err.wireFaults ∧
      Src.islandClockLost ≠ .wireFault ∧ srcClass .islandClockLost = 3 ∧ up.err.capture.heldNow = false) ∧
    Meets up (pairClamped up .mgmtCoreFault { kind := 9, access := 7 } = false) ∧
    Meets up (accepts up boss ⟨0x9001, 0x0B⟩ (.num 1) ∧ barOpen up 31 = true ∧ (1 : U64).getLsbD 0 = true) ∧
    (let s := erring (fun x => { x with pin := true, releaseWaiting := true }) 1250000
     Meets s (accepts s boss ⟨0x9000, 6⟩ (.num 1) ∧ s.err.pin = true ∧ pinHeld s = none ∧ heldLong s = true ∧
       s.err.releaseWaiting = true)) ∧
    (let s := erring (fun x => { x with pin := true }) 1249999
     Meets s (accepts s boss ⟨0x9000, 6⟩ (.num 1) ∧ s.err.pin = true ∧ pinHeld s = none ∧ heldLong s = false)) ∧
    Meets up (up.err.mismatch = false) ∧
    (let s := erring (fun x => { x with mismatch := true }) 0
     Meets s (s.err.mismatch = true)) ∧
    Meets up (accepts up boss ⟨0xD000, 1⟩ (.num 0) ∧ accepts up boss ⟨0xD11F, 1⟩ (.num 0)) := by
  refine ⟨?_, ?_, ?_, ?_, ?_, ?_, ?_, ?_, ?_, ?_, ?_, ?_, ?_, ?_, ?_⟩ <;>
    (refine meets (by decide +kernel) ?_; (try unfold accepts); decide +kernel)

theorem witness_resets :
    Meets up (accepts up boss ⟨0x9000, 3⟩ (.num 1) ∧ up.err.pkg ≠ .resetting ∧ up.power.good.getLsbD 0 = true ∧ up.power.coreRise = none) ∧
    (let s := erring (fun x => { x with pkg := .fatal, fatalGtc := 0 }) 62501
     Meets s (s.err.pkg = .fatal ∧ s.power.good.getLsbD 0 = true)) ∧
    (let s := erring (fun x => { x with blockPending := true }) 0
     Meets s (s.err.blockPending = true ∧ s.err.pkg ≠ .fatal ∧ s.err.pkg ≠ .resetting)) ∧
    (let s := { owned with boot := { owned.boot with result := .running } }
     Meets s (accepts s boss ⟨0x9000, 3⟩ (.num 1) ∧ obj5 ∈ s.obj.objs ∧ obj? s obj5.slot = some obj5)) ∧
    (∀ asserted : Bool,
     let s := modPort 0 (fun p => { p with perst := asserted }) (erring (fun x => { x with pkg := .resetting }) 0)
     Meets s (s.err.pkg = .resetting ∧ s.boot.resetting = false ∧ (getPort s 0).perst = asserted)) ∧
    (let s := { up with gtc := 1250000, power := { up.power with good := 1, coreRise := some 0 } }
     Meets s (s.power.good.getLsbD 0 = true ∧ 1250000 ≤ (s.gtc - 0).toNat ∧ s.power.good.getLsbD 2 = false)) ∧
    (let s := { State.reset with boot := { State.reset.boot with resetting := true } }
     Meets s (s.boot.resetting = true ∧ s.power.good.getLsbD 2 = true ∧ s.err.pkg ≠ .fatal ∧ s.boot.poolWait = none)) ∧
    (let f : ResetFindings := ⟨[], [], [], []⟩
     let s := { State.reset with boot := { State.reset.boot with resetting := true, poolWait := some f } }
     Meets s (s.boot.resetting = true ∧ s.power.good.getLsbD 2 = true ∧ s.err.pkg ≠ .fatal ∧
       s.boot.poolWait = some f)) := by
  refine ⟨?_, ?_, ?_, ?_, ?_, ?_, ?_, ?_⟩
  case refine_5 => intro asserted; cases asserted <;> exact meets (by decide +kernel) (by decide +kernel)
  all_goals
    (refine meets (by decide +kernel) ?_; (try unfold accepts); decide +kernel)


/-! ### Attestation and security services (13) -/

/-- A requester of the management network. -/
def net0 : SpdmConn := .net ⟨[10, 0, 0, 1], 0xFFFF, 1, 4917, false⟩

/-- A connection at this stage. -/
def conn (c : SpdmConn) (stage : Nat) : SpdmSt :=
  { conn := c, stage := stage, size := 1024, vca := [], msgsB := [], msgsL := [], chunkIn := [], seqIn := 0, chunkOut := []
    handle := 255, seqOut := 65535 }

/-- A package with this connection, and with this message from `net0` that waits. -/
def spdm (x : SpdmSt) (m : Bytes) : State := { up with sec := { up.sec with spdm := [x], inbox := [(net0, 0, m)] } }

/-- A message of version 1.3 on a connection. -/
def req (c : SpdmConn) (body : Bytes) : SpdmReq := ⟨c, 0x13, 0, 0, body⟩

/-- This message may be taken from `net0` at this stage, and from the DOE of port 3, with this answer of the checks. -/
def TurnAt (stage : Nat) (m : SpdmConn → Bytes) (fault : Option Bytes) : Prop :=
  (let s := spdm (conn net0 stage) (m net0)
   Meets s (SpdmTurn s net0 (m net0) (m net0) ∧ spdmFault (m net0) = fault ∧
     spdmConn? s net0 = some (conn net0 stage) ∧ s.sec.entropyFailed = false)) ∧
  (let s := spdm (conn (.doe 3) stage) []
   Meets s (SpdmTurn s (.doe 3) (m (.doe 3)) (m (.doe 3)) ∧ spdmFault (m (.doe 3)) = fault ∧
     spdmConn? s (.doe 3) = some (conn (.doe 3) stage) ∧ s.sec.entropyFailed = false))

theorem SpdmTurn.net {s : State} {a : NetAddr} {row m : Bytes} {c : SpdmConn} {i : U32}
    (h1 : spdmHeard s (.net a) = true) (h2 : s.sec.dropped.any (sameConn (.net a)) = false)
    (h3 : (s.sec.inbox.find? fun e => sameConn e.1 (.net a)) = some (c, i, m)) (h4 : spdmCode m = spdmCode row) :
    SpdmTurn s (.net a) row m := ⟨h1, h2, ⟨_, h3, rfl, h4⟩⟩

theorem SpdmTurn.doe {s : State} {p : Port} {m : Bytes} (h1 : spdmHeard s (.doe p) = true)
    (h2 : s.sec.dropped.any (sameConn (.doe p)) = false) : SpdmTurn s (.doe p) m m := ⟨h1, h2, rfl⟩

theorem certChain_nonempty : 0 < certChain.length := by
  simp [certChain, Config.identityCertChain]

/-- GET_CAPABILITIES for transfers of 42 bytes and more, and NEGOTIATE_ALGORITHMS with the profile's algorithms. -/
def capsBody : Bytes := List.replicate 8 0 ++ leBytes 4 42 ++ leBytes 4 (2 ^ 32 - 1)
def algsBody : Bytes := [0, 0, 1, 0, 0x80, 0, 0, 0, 2] ++ List.replicate 19 0

theorem witness_attestationDialogue :
    TurnAt 0 (fun c => spdmBytes { req c [] with version := 0x10 } 0x84 0 0 []) none ∧
    TurnAt 1 (fun c => spdmBytes (req c capsBody) 0xE1 0 0 []) none ∧
    TurnAt 2 (fun c => spdmBytes (req c algsBody) 0xE3 0 0 []) none ∧
    TurnAt 3 (fun c => spdmBytes (req c []) 0x81 0 0 []) none ∧
    TurnAt 3 (fun c => spdmBytes (req c []) 0x82 0 0 (leBytes 2 0 ++ leBytes 2 0xFFFF)) none ∧
    TurnAt 3 (fun c => spdmBytes (req c []) 0x83 0 0xFF (List.replicate 40 0)) none ∧
    TurnAt 3 (fun c => spdmBytes (req c (List.replicate 8 0)) 0xE0 0 16 []) none ∧
    TurnAt 3 (fun c => spdmBytes (req c []) 0xE0 1 255 (List.replicate 41 0)) none ∧
    TurnAt 2 (fun c => spdmBytes (req c []) 0x85 1 7 (leBytes 2 0 ++ [0, 0] ++ leBytes 4 1 ++ leBytes 4 1 ++ [9])) none ∧
    TurnAt 2 (fun c => spdmBytes (req c []) 0x85 0 7 (leBytes 2 0 ++ [0, 0] ++ leBytes 4 1 ++ leBytes 4 1 ++ [9])) none ∧
    TurnAt 3 (fun c => spdmBytes { req c [] with version := 0x12 } 0x81 0 0 []) (some (spdmError 0x41 0)) ∧
    TurnAt 3 (fun c => spdmBytes (req c []) 0x83 0 0xFF (List.replicate 39 0)) (some (spdmError 0x01 0)) ∧
    TurnAt 0 (fun c => spdmBytes (req c []) 0xFF 0 0 []) none ∧
    (0 < 65536 ∧ 0 < certChain.length) ∧ (0xFF : U8).toNat ∉ [0x84, 0xE1, 0xE3, 0x81, 0x82, 0x83, 0xE0, 0x85, 0x86] ∧
    (let x := { conn net0 3 with chunkOut := [1] }
     let m := spdmBytes (req net0 []) 0x86 0 255 (leBytes 2 65535)
     let s := spdm x m
     Meets s (SpdmTurn s net0 m m ∧ spdmFault m = none ∧ spdmConn? s net0 = some x ∧ x.chunkOut ≠ [] ∧
       (m.getD 3 0).toNat = x.handle ∧ numAt m 4 2 = x.seqOut)) := by
  refine ⟨?_, ?_, ?_, ?_, ?_, ?_, ?_, ?_, ?_, ?_, ?_, ?_, ?_, ⟨by decide, certChain_nonempty⟩, by decide, ?_⟩
  case refine_14 =>
    exact meets (by decide +kernel) ⟨.net (by decide +kernel) (by decide +kernel) rfl rfl, by decide +kernel⟩
  all_goals
    exact ⟨meets (by decide +kernel) ⟨.net (by decide +kernel) (by decide +kernel) rfl rfl, by decide +kernel⟩,
      meets (by decide +kernel) ⟨.doe (by decide +kernel) (by decide +kernel), by decide +kernel⟩⟩

/-- A debug token: serial number, nonce, level 3 and a signature of zeros. -/
def token : Bytes := serialNumber ++ List.replicate 32 0 ++ [3, 0, 0, 0] ++ List.replicate 96 0

/-- A package whose nonce is zeros. -/
def nonced : State := { up with sec := { up.sec with deviceNonce := List.replicate 32 0 } }

/-- Verification of signatures is not defined by the manual: where this one verifies, the token is accepted. -/
theorem witness_tokenOk
    (h : Config.ecdsaVerifies ((List.range 48).map (Config.fusedDigest 1)) (sha384 (token.take 52)) (token.drop 52) =
      true) :
    Meets nonced (tokenOk nonced token = true ∧ accepts nonced boss ⟨0xA000, 10⟩ (.bytes token)) := by
  have e1 : sliceBytes token 0 16 = serialNumber := rfl
  have e2 : sliceBytes token 16 32 = nonced.sec.deviceNonce := rfl
  refine meets (by decide +kernel) ⟨?_, by unfold accepts; decide +kernel⟩
  unfold tokenOk
  rw [h, e1, e2]
  simp only [beq_self_eq_true, Bool.and_true]
  decide +kernel

theorem tokenOk_level_zero {s : State} {b : Bytes} (h : numAt b 48 4 = 0) : tokenOk s b = false := by
  simp [tokenOk, h]

theorem witness_securityServices :
    (let b := List.replicate 148 (0 : U8)
     Meets up (accepts up boss ⟨0xA000, 10⟩ (.bytes b) ∧ tokenOk up b = false)) ∧
    (let s := { up with boot := { up.boot with secVersion := 64 }, sec := { up.sec with minSec := 63 } }
     Meets s (accepts s boss ⟨0xA000, 6⟩ (.num (64 : U8).toNat) ∧ s.sec.minSec < (64 : U8).toNat ∧
       s.boot.fw = .running ∧ (64 : U8).toNat ≤ s.boot.secVersion ∧ (64 : U8).toNat ≤ 64)) ∧
    (let s := { up with gtc := 1250000000, sec := { up.sec with requests := 2 ^ 20 } }
     Meets s (s.gtc.toNat % 1250000000 = 0 ∧ 2 ^ 20 ≤ s.sec.requests)) ∧
    (∀ halted : Bool,
     let s := { up with sec := { up.sec with debug := .rma, coreHalted := halted } }
     Meets s (s.sec.debug ≠ .locked ∧ s.power.on.getLsbD 48 = true ∧ s.sec.coreHalted = halted)) := by
  refine ⟨meets (by decide +kernel) ⟨by unfold accepts; decide +kernel, ?_⟩, ?_, ?_, ?_⟩
  · exact tokenOk_level_zero (by decide +kernel)
  case refine_4 => intro halted; cases halted <;> exact meets (by decide +kernel) (by decide +kernel)
  all_goals (refine meets (by decide +kernel) ?_; (try unfold accepts); decide +kernel)


/-! ### Power and clocks (14) -/

theorem witness_powerAndClocks :
    Meets up (up.power.switching = none ∧
      ((domainsSwitching up).find? fun d => domainWanted up d || drained up d) = some 49) ∧
    (let s := { up with power := { up.power with switching := some (20, false) } }
     Meets s (s.power.switching = some (20, false))) ∧
    (∀ l : Fin 2,
     let x := { peer5 with session := some pair5 }
     let s := { up with
       win := { up.win with peers := [x] }, power := { up.power with switching := some (40 + l.val, false) } }
     Meets s (s.power.switching = some (40 + l.val, false) ∧ s.power.on.getLsbD (41 - l.val) = true ∧
       session? s 5 = some pair5)) ∧
    (∀ l : Fin 2,
     let s := { up with power := { up.power with switching := some (40 + l.val, true) } }
     Meets s (s.power.switching = some (40 + l.val, true))) ∧
    (let s := { up with power := { up.power with good := 0 } }
     Meets s (s.power.phase = .awake ∧ (0xF : BitVec 4).getLsbD 0 = true ∧ s.power.good.getLsbD 0 = false)) ∧
    (let s := { up with power := { up.power with switching := some (49, true), polled := true } }
     Meets s (s.power.switching = some (49, true) ∧ s.power.polled = true)) ∧
    Meets up (accepts up boss ⟨0xB000, 4⟩ (.num 1) ∧ accepts up boss ⟨0xB000, 5⟩ (.num (0xFF : U8).toNat) ∧
      accepts up boss ⟨0xB000, 5⟩ (.num (1 : U8).toNat) ∧ accepts up boss ⟨0xB000, 6⟩ (.num (3 : U8).toNat) ∧
      accepts up boss ⟨0xB000, 7⟩ (.num (0 : U8).toNat)) ∧
    Meets State.reset (accepts State.reset boss ⟨0xB000, 4⟩ (.num 0) ∧ isReady State.reset = false) ∧
    Meets up (up.power.phase = .awake ∧ up.power.good &&& ~~~ (0b0111 : BitVec 4) ≠ 0 ∧
      (List.range 13).any (clockBad up []) = true) := by
  refine ⟨?_, ?_, fun l => ?_, fun l => ?_, ?_, ?_, ?_, ?_, ?_⟩
  case refine_3 | refine_4 =>
    have h : ∀ l : Fin 2, l = 0 ∨ l = 1 := by decide
    rcases h l with rfl | rfl <;> exact meets (by decide +kernel) (by decide +kernel)
  all_goals
    (refine meets (by decide +kernel) ?_; (try unfold accepts); decide +kernel)


/-! ### Bring-up (15) -/

/-- A package whose bring-up stands here. -/
def booting (f : BootSt → BootSt) : State := { early .l64 with boot := f State.reset.boot }

/-- The same, all power-good inputs high. -/
def goodPower (s : State) : State := { s with power := { s.power with good := 0xF } }

theorem witness_bringUpToFirmware :
    (let s := goodPower (booting id)
     Meets s (accepts s boss ⟨0xC000, 2⟩ (.num (bringUpCode .power)) ∧ stepRefused .power s = none ∧
       s.power.good.getLsbD 1 = true ∧ s.power.good.getLsbD 3 = true)) ∧
    (let s := booting id
     Meets s (accepts s boss ⟨0xC000, 2⟩ (.num (bringUpCode .power)) ∧ stepRefused .power s = none ∧
       s.power.good.getLsbD 1 = false)) ∧
    (let s := booting fun b => { b with state := .powered }
     Meets s (accepts s boss ⟨0xC000, 2⟩ (.num (bringUpCode .train)) ∧ stepRefused .train s = none)) ∧
    (let s := booting fun b => { b with state := .trained }
     Meets s (accepts s boss ⟨0xC000, 2⟩ (.num (bringUpCode .qualify)) ∧ stepRefused .qualify s = none)) ∧
    (let s := booting fun b => { b with state := .qualified }
     Meets s (accepts s boss ⟨0xC000, 2⟩ (.num (bringUpCode .loadFirmware)) ∧ stepRefused .loadFirmware s = none ∧
       s.boot.fw ≠ .running ∧ objNum s 0xC001 1 ≠ 1)) ∧
    (let s := setObj 0xC001 4 (.num 8192) (setObj 0xC001 1 (.num 1)
        (booting fun b => { b with state := .qualified, blocks := [0, 1] }))
     Meets s (accepts s boss ⟨0xC000, 2⟩ (.num (bringUpCode .loadFirmware)) ∧ stepRefused .loadFirmware s = none ∧
       s.boot.fw ≠ .running ∧ (List.range ((imageBytes s + 4095) / 4096)).all s.boot.blocks.contains = true)) ∧
    (let s := booting fun b => { b with
       state := .trained, result := .running, command := .qualify, lanes := [⟨0, 0, 0, 0⟩, ⟨3, 15, 0, 0⟩] }
     Meets s (s.boot.result = .running ∧ s.boot.command = .qualify ∧
       allCounted s [⟨0, 0, 1000000000000, 0, false⟩, ⟨3, 15, 0, 0, true⟩] = true)) ∧
    (let s := setObj 0xC001 1 (.num 1) (booting fun b => { b with
       state := .qualified, result := .running, command := .loadFirmware, fw := .loading })
     Meets s (s.boot.result = .running ∧ s.boot.command = .loadFirmware ∧ s.boot.fw = .loading ∧ imageIn s = true)) ∧
    (let s := setObj 0xC001 5 (.num 0x3FFF000) (booting id)
     let chunk := List.replicate 4096 (1 : U8)
     Meets s (accepts s boss ⟨0xC001, 6⟩ (.bytes chunk) ∧ chunkRefused chunk s = none ∧ partitionHeld s = true)) := by
  refine ⟨?_, ?_, ?_, ?_, ?_, ?_, ?_, ?_, ?_⟩ <;>
    (refine meets (by decide +kernel) ?_; (try unfold accepts); decide +kernel)

/-- The little-endian bytes of a number in a memory. -/
def place (a n v : Nat) : Mem := ((leBytes n v).zipIdx.map fun p => (a + p.2, p.1)).filter fun p => p.2 != 0

/-- A firmware image of 16 KiB: its header, three sections of one byte each, and zeros for key and signature. -/
def image : Mem :=
  place 0 8 (0x4946 + 1 * 2 ^ 16 + 7 * 2 ^ 24 + 16384 * 2 ^ 32) ++
  (place 32 16 (1 + 4096 * 2 ^ 32 + 1 * 2 ^ 64) ++ (place 48 16 (2 + 8192 * 2 ^ 32 + 1 * 2 ^ 64) ++
    place 64 16 (3 + 12288 * 2 ^ 32 + 1 * 2 ^ 64)))

/-- A package that has taken it in. -/
def loading : State :=
  setObj 0xC001 4 (.num 16384) (setObj 0xC001 1 (.num 1) (booting fun b => { b with
    state := .qualified, result := .running, command := .loadFirmware, fw := .loading, image := image }))

/-- Its bytes. -/
def imageData : Bytes := memRead image 0 16384

theorem imageCheck_zero {s : State} {b : Bytes} (h1 : formatOk b (imageBytes s) = true)
    (h2 : (numAt b 3 1).testBit (variantBit s.variant) = true) (h3 : sectionsOk b (imageBytes s) = true)
    (h4 : numAt b 16 4 = 0)
    (h5 : sha384 (sliceBytes b (imageBytes s - 256) 97) = (List.range 48).map (Config.fusedDigest 0))
    (h6 : Config.ecdsaVerifies (sliceBytes b (imageBytes s - 256) 97) (sha384 (b.take (imageBytes s - 256)))
      (sliceBytes b (imageBytes s - 128) 96) = true) (h7 : s.sec.minSec ≤ numAt b 12 2) : imageCheck s b = 0 := by
  unfold imageCheck
  simp only [h1, h2, h3, h4, h5, h6, Nat.not_lt_zero, if_false, Bool.not_true, Bool.false_eq_true, ne_eq,
    not_true_eq_false, if_neg (Nat.not_lt.mpr h7)]

theorem slice_memRead {m : Mem} {n off len : Nat} (h : off + len ≤ n) :
    sliceBytes (memRead m 0 n) off len = memRead m off len := by
  unfold sliceBytes memRead
  refine List.map_congr_left fun i hi => ?_
  have hi := List.mem_range.mp hi
  simp [show off + i < n by omega]

theorem numAt_memRead {m : Mem} {n off len : Nat} (h : off + len ≤ n) :
    numAt (memRead m 0 n) off len = leNat (memRead m off len) := by
  unfold numAt; rw [slice_memRead h]

theorem zeroBytes_memRead {m : Mem} {n lo hi : Nat} (h : lo + (hi - lo) ≤ n) :
    zeroBytes (memRead m 0 n) lo hi = (memRead m lo (hi - lo)).all (· == 0) := by
  unfold zeroBytes; rw [slice_memRead h]

theorem imageData_format : formatOk imageData 16384 = true := by
  unfold formatOk imageData
  simp (disch := omega) only [show List.range 3 = [0, 1, 2] from rfl, List.all_cons, List.all_nil, numAt_memRead,
    zeroBytes_memRead]
  decide +kernel

theorem imageData_sections : sectionsOk imageData 16384 = true := by
  unfold sectionsOk sections sectionAt imageData
  simp (disch := omega) only [show List.range 3 = [0, 1, 2] from rfl, List.map_cons, List.map_nil, numAt_memRead]
  decide +kernel

theorem imageData_header : (numAt imageData 3 1).testBit 2 = true ∧ numAt imageData 16 4 = 0 := by
  unfold imageData
  simp (disch := omega) only [numAt_memRead]
  decide +kernel

/-- Digests and signatures are not defined by the manual: where the key is the fused one and the signature verifies,
the image is accepted. -/
theorem witness_imageCheck (hm : loading.sec.minSec = 0)
    (hk : sha384 (sliceBytes imageData 16128 97) = (List.range 48).map (Config.fusedDigest 0))
    (hv : Config.ecdsaVerifies (sliceBytes imageData 16128 97) (sha384 (imageData.take 16128))
      (sliceBytes imageData 16256 96) = true) :
    Meets loading (imageIn loading = true ∧ imageCheck loading imageData = 0) := by
  have hn : imageBytes loading = 16384 := by decide +kernel
  have hv2 : variantBit loading.variant = 2 := rfl
  refine meets (by decide +kernel) ⟨by decide +kernel, ?_⟩
  apply imageCheck_zero <;> (try rw [hn]) <;> (try rw [hv2])
  · exact imageData_format
  · exact imageData_header.1
  · exact imageData_sections
  · exact imageData_header.2
  · exact hk
  · exact hv
  · rw [hm]; exact Nat.zero_le _

theorem witness_bringUpToReady :
    (let s := booting fun b => { b with state := .firmwareRunning }
     Meets s (accepts s boss ⟨0xC000, 2⟩ (.num (bringUpCode .broadcast)) ∧ stepRefused .broadcast s = none ∧
       s.boot.loaded = [])) ∧
    (let s := booting fun b => { b with state := .tilesLoaded }
     Meets s (accepts s boss ⟨0xC000, 2⟩ (.num (bringUpCode .test)) ∧ stepRefused .test s = none)) ∧
    (let s := booting fun b => { b with state := .tested }
     Meets s (accepts s boss ⟨0xC000, 2⟩ (.num (bringUpCode .publishMap)) ∧ stepRefused .publishMap s = none)) ∧
    (let s := booting fun b => { b with state := .mapPublished }
     Meets s (accepts s boss ⟨0xC000, 2⟩ (.num (bringUpCode .declareReady)) ∧ stepRefused .declareReady s = none ∧
       readyRefusal s = none)) ∧
    (∀ tries ∈ [2, 3],
      let s := { booting (fun b => { b with
        result := .running, command := .broadcast, tileDigest := [1], waits := [⟨63, tries, 0⟩] }) with gtc := 25000000 }
      Meets s (s.boot.result = .running ∧ s.boot.command = .broadcast ∧
        (s.boot.waits.find? fun w => w.tile == 63) = some ⟨63, tries, 0⟩ ∧ [1] = s.boot.tileDigest ∧
        [2] ≠ s.boot.tileDigest ∧ 25000000 ≤ (s.gtc - 0).toNat)) ∧
    (let s := booting fun b => { b with result := .running, command := .power }
     let s := { s with power := { s.power with on := selectedDomains s } }
     Meets s (s.boot.result = .running ∧ s.boot.command = .power ∧ domainsSwitching s = [] ∧
       s.power.switching = none)) ∧
    (let s := booting fun b => { b with result := .running, command := .train }
     Meets s (s.boot.result = .running ∧ s.boot.command = .train ∧ s.port0.training = false)) ∧
    (let s := booting fun b => { b with result := .running, command := .broadcast, loaded := [0] }
     Meets s (s.boot.result = .running ∧ s.boot.command = .broadcast ∧ s.boot.waits = [] ∧ s.boot.loaded ≠ [])) ∧
    (let s := booting fun b => { b with result := .running, command := .test, positions := [(0, 0)] }
     Meets s (s.boot.result = .running ∧ s.boot.command = .test ∧ s.boot.positions ≠ [])) ∧
    (let s := booting fun b => { b with result := .running, command := .publishMap }
     Meets s (s.boot.result = .running ∧ s.boot.command = .publishMap)) ∧
    (let s := booting fun b => { b with result := .running, command := .declareReady, state := .declaring }
     let s := { s with pool := { s.pool with scrubs := [] } }
     Meets s (s.boot.result = .running ∧ s.boot.command = .declareReady ∧ s.boot.state = .declaring ∧
       resetScrubbed s = true)) := by
  refine ⟨?_, ?_, ?_, ?_, ?_, ?_, ?_, ?_, ?_, ?_, ?_⟩
  case refine_5 =>
    intro tries h
    simp only [List.mem_cons, List.not_mem_nil, or_false] at h
    rcases h with rfl | rfl <;> exact meets (by decide +kernel) (by decide +kernel)
  all_goals (refine meets (by decide +kernel) ?_; (try unfold accepts); decide +kernel)

theorem witness_calibration :
    (let s := { booting (fun b => { b with state := .trained }) with port0 := { Port0St.init with mode := 1 } }
     Meets s (accepts s boss ⟨0xC004, 1⟩ (.num 1) ∧ calibrationRefused 1 s = none)) ∧
    Meets up (accepts up boss ⟨0xC004, 1⟩ (.num ((3 : Port).val + 1)) ∧
      calibrationRefused ((3 : Port).val + 1) up = none) ∧
    (let s := booting id
     Meets s (accepts s boss ⟨0xC004, 1⟩ (.num (0x20 + (23 : Stack).val)) ∧
       calibrationRefused (0x20 + (23 : Stack).val) s = none)) ∧
    (let s := { up with boot := { up.boot with calibrating := some 4 } }
     Meets s (s.boot.calibrating = some 4 ∧ (getPort s (Fin.ofNat 4 (4 - 1))).link = .l0)) ∧
    (let s := booting fun b => { b with calibrating := some 0x37 }
     Meets s (s.boot.calibrating = some 0x37)) ∧
    (let s := booting fun b => { b with calibrating := some 1 }
     let v : Sys2Proof.Calibration := ⟨[], List.replicate 64 (List.replicate 256 1)⟩
     Meets s (s.boot.calibrating = some 1 ∧ (v.errors.getD 63 []).length = 256)) := by
  refine ⟨?_, ?_, ?_, ?_, ?_, ?_⟩ <;>
    (refine meets (by decide +kernel) ?_; (try unfold accepts); decide +kernel)

/-! ### 06, "a three-level walk" -/

/-- The bytes of qwords at an address, zeros left out. -/
def placeQ (a : Nat) (l : List Nat) : Mem :=
  ((l.flatMap (leBytes 8)).zipIdx.map fun p => (a + p.2, p.1)).filter fun p => p.2 != 0

/-- The three nodes of the table, from pool address 0x10000000; the leaf has two qwords of each of its ranges. -/
def walkMem : Mem :=
  placeQ 0x10000000 ([0x0000000403004E46, 0, 0x200000000000, 0, 0, 0, 0, 0] ++ [0, 0x1000, 0, 0, 0x10000000, 0x2000, 0, 0,
    0x40000000, 0x3000, 0, 0, 0x80000000, 0x4000, 0, 0]) ++
  (placeQ 0x10003000 ([0x0000000503014E46, 0x40000000, 0x80000000, 0, 0, 0, 0, 0] ++ [0x40000000, 0x7000, 0, 0, 0x41000000,
    0x8000, 0, 0, 0x41200000, 0x9000, 0, 0, 0x42000000, 0xA000, 0, 0, 0x60000000, 0xB000, 0, 0]) ++
  placeQ 0x10009000 ([0x0000008303024E46, 0x41200000, 0x42000000, 0, 0, 0, 0, 0] ++ [0x2100000041200000, 0xFFF, 0, 0,
    0x8300000041230000, 0x7FFF, 0x40000000, 0x0000000771000004, 0x41400000, 0xFF, 0, 0]))

/-- The table's object, of function 19, and the object behind its second range. -/
def tableObj : MemObj := { obj5 with slot := 0x5E, gen := 2, owner := 19, bytes := 0x100000, base := 0x10000000, shared := false }
def targetObj : MemObj :=
  { obj5 with slot := 0x771, gen := 4, owner := 19, bytes := 0x80000000, base := 0x200000000, shared := false }

/-- The package of the example, whose function 19 has a pool extent for the first range. -/
def walkState : State :=
  let s := up
  { s with
    obj := { ObjSt.init with
      objs := [tableObj, targetObj]
      ctxs := [(0x2C0B5, { ctx9 with fn := 19, rangeTable := 0x000000005E000002 })] }
    pool := { s.pool with mem := walkMem, extents := [⟨19, 0x400000000, 0x10000000⟩] }
    trans := { TransSt.init with banks := List.replicate 8 [] } }

theorem test_three_level_walk :
    (let t := translate (.ctx 0x2C0B5) 0x41234567A40 .read walkState
     t.2.toOption.map (fun e => (e.start, e.len, e.ttype, e.effR && e.effW, e.effA)) =
        some (0x41230000, 0x8000, 4, true, false) ∧
      t.2.toOption.map (fun e => targetOf e 0x41234567A40) = some (.pool (0x200000000 + 0x44567A40)) ∧
      (getBank t.1 5).length = 1) := by decide +kernel

end Sys2Proof.Machine
end

section
/-!
SUPPORT and CLAIM. Signals on a fence (04_objects_lifecycle, R149, R150): little-endian words in memory, one word
written through the pool cache, the three outcomes of a signal, and the obligation O14.
-/
namespace Sys2Proof.Machine

/-! ### Little-endian words -/

@[simp] theorem leBytes_length (k n : Nat) : (leBytes k n).length = k := by simp [leBytes]

theorem leBytes_succ (k n : Nat) : leBytes (k + 1) n = BitVec.ofNat 8 n :: leBytes k (n / 256) := by
  simp only [leBytes, List.range_succ_eq_map, List.map_cons, List.map_map, Nat.mul_zero, Nat.shiftRight_zero]
  congr 1
  refine List.map_congr_left fun i _ => ?_
  simp [Nat.shiftRight_eq_div_pow, Nat.mul_succ, Nat.add_comm _ 8, Nat.pow_add, Nat.div_div_eq_div_mul]

/-- The bytes of a number spell its low bytes. -/
theorem leNat_leBytes (k n : Nat) : leNat (leBytes k n) = n % 256 ^ k := by
  induction k generalizing n with
  | zero => simp [leBytes, leNat, Nat.mod_one]
  | succ k ih => 
    rw [leBytes_succ, leNat, ih, BitVec.toNat_ofNat, Nat.pow_succ' (n := k), Nat.mod_mul (a := 256)]

theorem sliceBytes_whole (b : Bytes) : sliceBytes b 0 b.length = b := by
  refine List.ext_getElem (by simp [sliceBytes]) fun i _ hi => ?_
  simp [sliceBytes, hi]

/-! ### Memory after a write of several bytes -/

theorem memGet_memWrite_outside {m : Mem} (hm : Memory.wf m = true) {a x : Nat} {bs : Bytes}
    (hx : x < a ∨ a + bs.length ≤ x) : memGet (memWrite m a bs) x = memGet m x := by
  induction bs generalizing m a with
  | nil => rfl
  | cons b bs ih =>
    rw [List.length_cons] at hx
    rw [memWrite, ih (memSet_wf hm a b) (by omega), memGet_memSet_other hm (by omega)]

theorem memRead_succ (m : Mem) (a n : Nat) : memRead m a (n + 1) = memGet m a :: memRead m (a + 1) n := by
  simp [memRead, List.range_succ_eq_map, Function.comp_def, Nat.add_assoc, Nat.add_comm 1]

theorem memRead_memWrite {m : Mem} (hm : Memory.wf m = true) (a : Nat) (bs : Bytes) :
    memRead (memWrite m a bs) a bs.length = bs := by
  induction bs generalizing m a with
  | nil => rfl
  | cons b bs ih =>
    have hwf := memSet_wf hm a b
    rw [List.length_cons, memRead_succ, memWrite, ih hwf, memGet_memWrite_outside hwf (.inl (Nat.lt_succ_self a)),
      memGet_memSet_same hm]

/-! ### Counters -/

theorem assocGet_assocPut {β : Type} (l : List (Nat × β)) (k : Nat) (v : β) : assocGet (assocPut l k v) k = some v := by
  induction l with
  | nil => simp [assocPut, assocGet]
  | cons e l ih =>
    obtain ⟨a, w⟩ := e
    rw [assocPut]
    split
    · simp [assocGet]
    · split
      · simp [assocGet]
      · rename_i _ hne
        rw [← ih]
        simp [assocGet, Ne.symm hne]

/-- One count, as two cases: the counter saturates with it, or it does not (R390, R391). -/
theorem count_eq (index sub : Nat) (s : State) : count index sub s =
    let k := index * 256 + sub
    let c := countUp 64 ((assocGet s.counters k).getD 0).toNat
    let t := { s with counters := assocPut s.counters k (w64 c.1) }
    if c.2 then saturated (counterFn index) none k t else t := rfl

@[simp] theorem count_pool {s : State} {index sub : Nat} : (count index sub s).pool = s.pool := by
  dsimp only [count_eq]; split <;> rfl

@[simp] theorem count_obj {s : State} {index sub : Nat} : (count index sub s).obj = s.obj := by
  dsimp only [count_eq]; split <;> rfl

theorem count_counters {s : State} {index sub : Nat} : (count index sub s).counters =
    assocPut s.counters (index * 256 + sub)
      (w64 (countUp 64 ((assocGet s.counters (index * 256 + sub)).getD 0).toNat).1) := by
  dsimp only [count_eq]; split <;> rfl

theorem countUp_of_lt {n : Nat} (h : n < 2 ^ 62) : countUp 64 n = (n + 1, false) := by
  rw [countUp, if_neg (by omega), if_neg (by omega)]

theorem counted_count (s : State) (index sub : Nat) : Counted s (count index sub s) index sub := by
  intro h
  rw [count_counters, assocGet_assocPut, countUp_of_lt h]
  simp [w64, BitVec.ofNat_add]

/-! ### One word written through the pool cache -/

/-- An aligned word lies in one line. -/
theorem linePieces_word {a : Nat} (ha : a % 8 = 0) : linePieces a 8 = [(a, 0, 8)] := by
  have hline : linesOf a 8 = [lineOf a] := by
    have hone : (a + 8 - 1) / 64 - a / 64 + 1 = 1 := by omega
    rw [linesOf, if_neg (by decide), hone]
    rfl
  have hlo : max a (lineOf a) = a := by unfold lineOf; omega
  have hhi : min (a + 8) (lineOf a + 64) = a + 8 := by unfold lineOf; omega
  simp only [linePieces, hline, List.map_cons, List.map_nil, hlo, hhi, Nat.sub_self, Nat.add_sub_cancel_left]

theorem poison_contains_of_not_poisoned {s : State} {line : Nat} (h : poisoned s line 64 = false) :
    s.pool.poison.contains line = false := by
  rw [poisoned, List.any_eq_false] at h
  rw [Bool.eq_false_iff]
  intro hmem
  exact h line (List.contains_iff_mem.1 hmem) (by simp [spansMeet])

/-- A run written back touches the bytes of the pool and their older copies, and nothing else (R287). -/
theorem writeLine_back (a : Nat) (b : Bytes) (s : State) : ∃ stale, writeLine a b false s =
    { s with pool := { s.pool with mem := memWrite s.pool.mem a b, stale := stale } } := by
  simp only [writeLine, Bool.false_eq_true, if_false]
  split <;> exact ⟨_, rfl⟩

theorem poolWrite_word {s : State} {a : Nat} {b : Bytes} (ha : a % 8 = 0) (hb : b.length = 8)
    (hp : poisoned s (lineOf a) 64 = false) : ∃ stale, poolWrite a b false s =
      { s with pool := { s.pool with mem := memWrite s.pool.mem a b, stale := stale } } := by
  have hrun : poolWrite a b false s = writeLine a b false s := by
    have hslice : sliceBytes b 0 8 = b := hb ▸ sliceBytes_whole b
    simp only [poolWrite, hb, linePieces_word ha, foldState, hslice, writeRun, poison_contains_of_not_poisoned hp,
      Bool.false_eq_true, if_false]
  exact hrun ▸ writeLine_back a b s

/-! ### The three outcomes of a signal (R149, R150) -/

/-- What a signal that raises a fence leaves: the word holds the signal's value, the poison directory is as before, and
the largest value has formed one FENCE_SATURATED record of the object's owner. -/
structure FenceRaised (o : MemObj) (word : Nat) (v : U64) (s t : State) : Prop where
  mem : t.pool.mem = memWrite s.pool.mem (fenceAddr o word) (leBytes 8 v.toNat)
  poison : t.pool.poison = s.pool.poison
  record : v = BitVec.allOnes 64 → (getFn t o.owner).int.formed = (getFn s o.owner).int.formed ++
    [⟨o.ring, 3, 0, none, objHandle o, w64 word, s.gtc⟩]

section Signal

variable {s : State} {g : Fun} {o : MemObj} {word : Nat} {v : U64}

@[simp] theorem noteMirror_pool : (noteMirror o word v s).pool = s.pool := by rw [noteMirror]; split <;> rfl
@[simp] theorem noteMirror_fns : (noteMirror o word v s).fns = s.fns := by rw [noteMirror]; split <;> rfl
@[simp] theorem noteMirror_gtc : (noteMirror o word v s).gtc = s.gtc := by rw [noteMirror]; split <;> rfl

@[simp] theorem formEvent_pool {g : Fun} {ring kind info : Nat} {c : Option CtxId} {d0 d1 : U64} :
    (formEvent g ring kind info c d0 d1 s).pool = s.pool := rfl

theorem formEvent_formed (h : s.fns.length = 32) {ring kind info : Nat} {c : Option CtxId} {d0 d1 : U64} :
    (getFn (formEvent g ring kind info c d0 d1 s) g).int.formed =
      (getFn s g).int.formed ++ [⟨ring, kind, info, c, d0, d1, s.gtc⟩] := by
  rw [formEvent, getFn_modInt h]

theorem fenceAddr_aligned (ho : o.base % 8 = 0) : fenceAddr o word % 8 = 0 := by unfold fenceAddr; omega

theorem signalFence_lower (hp : poisoned s (lineOf (fenceAddr o word)) 64 = false)
    (hv : v.toNat < fenceValue s o word) : signalFence g none o word v s = countFn g 6 s := by
  simp [signalFence, hp, hv]

theorem signalFence_equal (hp : poisoned s (lineOf (fenceAddr o word)) 64 = false)
    (hv : v.toNat = fenceValue s o word) : signalFence g none o word v s = s := by
  simp [signalFence, hp, hv]

theorem signalFence_raises (hfns : s.fns.length = 32) (ho : o.base % 8 = 0)
    (hp : poisoned s (lineOf (fenceAddr o word)) 64 = false) (hv : fenceValue s o word < v.toNat) :
    FenceRaised o word v s (signalFence g none o word v s) := by
  obtain ⟨stale, hw⟩ := poolWrite_word (fenceAddr_aligned ho) (leBytes_length 8 v.toNat) hp
  simp only [signalFence, hp, Bool.false_eq_true, if_false, if_neg (Nat.lt_asymm hv), if_neg (Nat.ne_of_gt hv), hw]
  by_cases hmax : v = BitVec.allOnes 64
  · rw [if_pos hmax]
    refine ⟨by simp, by simp, fun _ => ?_⟩
    rw [formEvent_formed (by simpa using hfns)]
    simp [getFn]
  · rw [if_neg hmax]
    exact ⟨by simp, by simp, fun h => absurd h hmax⟩

/-! ### What every signal leaves -/

theorem signalFence_poison (hfns : s.fns.length = 32) (ho : o.base % 8 = 0)
    (hp : poisoned s (lineOf (fenceAddr o word)) 64 = false) :
    (signalFence g none o word v s).pool.poison = s.pool.poison := by
  rcases Nat.lt_trichotomy v.toNat (fenceValue s o word) with hlt | heq | hgt
  · rw [signalFence_lower hp hlt, countFn, count_pool]
  · rw [signalFence_equal hp heq]
  · exact (signalFence_raises hfns ho hp hgt).poison

/-- The larger of the two values remains (R149). -/
theorem signalFence_value (h : Inv s) (ho : o.base % 8 = 0)
    (hp : poisoned s (lineOf (fenceAddr o word)) 64 = false) :
    fenceValue (signalFence g none o word v s) o word = max (fenceValue s o word) v.toNat := by
  rcases Nat.lt_trichotomy v.toNat (fenceValue s o word) with hlt | heq | hgt
  · rw [signalFence_lower hp hlt, Nat.max_eq_left (Nat.le_of_lt hlt), fenceValue, poolBytes, countFn, count_pool]
    rfl
  · rw [signalFence_equal hp heq, Nat.max_eq_left (Nat.le_of_eq heq)]
  · have hread := memRead_memWrite h.pool (fenceAddr o word) (leBytes 8 v.toNat)
    rw [leBytes_length] at hread
    rw [Nat.max_eq_right (Nat.le_of_lt hgt), fenceValue, poolBytes, (signalFence_raises h.fns ho hp hgt).mem, hread, leNat_leBytes]
    exact Nat.mod_eq_of_lt v.isLt

theorem signalFence_mem_outside (h : Inv s) (ho : o.base % 8 = 0)
    (hp : poisoned s (lineOf (fenceAddr o word)) 64 = false) {a : Nat}
    (ha : a < fenceAddr o word ∨ fenceAddr o word + 8 ≤ a) :
    memGet (signalFence g none o word v s).pool.mem a = memGet s.pool.mem a := by
  rcases Nat.lt_trichotomy v.toNat (fenceValue s o word) with hlt | heq | hgt
  · rw [signalFence_lower hp hlt, countFn, count_pool]
  · rw [signalFence_equal hp heq]
  · rw [(signalFence_raises h.fns ho hp hgt).mem]
    exact memGet_memWrite_outside h.pool (by rwa [leBytes_length])

theorem signalFence_objs : (signalFence g none o word v s).obj.objs = s.obj.objs :=
  (signalFence_frame (fun _ hp => hp) (SameBut.refl _ s)).2.2 .objs (by decide)

theorem fenceWord_signalFence (h n : Nat) : fenceWord (signalFence g none o word v s) h n = fenceWord s h n := by
  simp only [fenceWord, liveObj, signalFence_objs]

theorem poisoned_signalFence (hfns : s.fns.length = 32) (ho : o.base % 8 = 0)
    (hp : poisoned s (lineOf (fenceAddr o word)) 64 = false) (a n : Nat) :
    poisoned (signalFence g none o word v s) a n = poisoned s a n := by
  rw [poisoned, signalFence_poison hfns ho hp, poisoned]

/-- A function with the right on a live fence word signals it. -/
theorem exec_fenceSignal {h : U64} (hw : fenceWord s h.toNat word = some o) (hg : maySignal o g = true) :
    exec (.fenceSignal g h word v) s = .next (signalFence g none o word v s) := by
  have hexec : exec (.fenceSignal g h word v) s = execFenceSignal g h word v s := rfl
  simp only [hexec, execFenceSignal, hw, hg, if_true]

end Signal

/-- Settles O14: the three outcomes of a signal, with the second signal run from the state that the first one leaves,
in which the fence is still live, its line free of poison and the pool in canonical form. -/
theorem fenceSignals : Obligations.FenceSignals := by
  intro s g h word v o hinv hw hg ho hp
  have hexec : exec (.fenceSignal g h word v) s = .next (signalFence g none o word v s) := exec_fenceSignal hw hg
  have hvalue : fenceValue (signalFence g none o word v s) o word = max (fenceValue s o word) v.toNat :=
    signalFence_value hinv ho hp
  have hsecond (w : U64) : Gives (.fenceSignal g h word w) (signalFence g none o word v s)
      fun u => fenceValue u o word = max (max (fenceValue s o word) v.toNat) w.toNat := by
    have hinv' : Inv (signalFence g none o word v s) := (signalFence_ok (Ok.refl s)).inv hinv
    have hp' := (poisoned_signalFence (g := g) (v := v) hinv.fns ho hp _ _).trans hp
    exact ⟨_, exec_fenceSignal ((fenceWord_signalFence _ _).trans hw) hg,
      (signalFence_value hinv' ho hp').trans (by rw [hvalue])⟩
  refine ⟨⟨_, hexec, hvalue, fun a => signalFence_mem_outside hinv ho hp, hsecond, fun hlt => ?lower,
    fun hmax hgt => ?saturates⟩, fun heq => ?equal⟩
  case lower =>
    rw [signalFence_lower hp hlt]
    exact ⟨counted_count s _ 6, count_pool, count_obj⟩
  case saturates => exact ⟨_, (signalFence_raises hinv.fns ho hp hgt).record hmax, rfl, rfl, rfl, rfl⟩
  case equal => rw [hexec, signalFence_equal hp heq]

end Sys2Proof.Machine
end

section
/-!
SUPPORT and CLAIM. Abandoned mode changes (10_determinism, R344): what a mode change keeps in the determinism state,
the steps of a fence that leave it alone, and the obligation O15.
-/
namespace Sys2Proof.Machine

section ModeChange
variable {s t : State} {d : DetSt} {n : Nat} {i : ErrInfo}

/-! ### What a mode change has left -/

/-- The fields of a mode change that R344 speaks of. -/
def modeFields (d : DetSt) : ModeState × Nat × List Nat × List Nat × List (Nat × Nat) × U32 × U64 :=
  (d.mode, d.abandonUnit, d.acked, d.unacked, d.epochs, d.epoch, d.modeWord)

/-- The mode change that `d` stages has been abandoned for cluster `n`, in state `t` (R344). -/
def AbandonedFor (d : DetSt) (n : Nat) (t : State) : Prop :=
  t.det.mode = .abandoned ∧ t.det.abandonUnit = n ∧ (∀ k ∈ d.acked ++ d.unacked, .modeDiscard k ∈ t.out) ∧
    t.det.epochs = d.epochs ∧ t.det.epoch = d.epoch ∧ t.det.modeWord = d.modeWord

theorem AbandonedFor.congr (h : AbandonedFor d n s) (hm : modeFields t.det = modeFields s.det) (ho : t.out = s.out) :
    AbandonedFor d n t := by
  simp only [modeFields, Prod.mk.injEq] at hm
  obtain ⟨hmode, hunit, -, -, hepochs, hepoch, hword⟩ := hm
  simpa only [AbandonedFor, hmode, hunit, hepochs, hepoch, hword, ho] using h

/-- Sending one message for each element of a list changes only what the edge has seen. -/
theorem foldState_emit {α : Type} (m : α → Msg) (l : List α) (s : State) :
    foldState (fun a s => emit (m a) s) l s = { s with out := (l.map m).reverse ++ s.out } := by
  induction l generalizing s with
  | nil => rfl
  | cons a l ih => rw [foldState, ih]; simp [emit]

theorem abandonMode_abandons : AbandonedFor s.det n (abandonMode n s) := by
  rw [abandonMode, foldState_emit]
  exact ⟨rfl, rfl, fun k hk => List.mem_append_left _ (List.mem_reverse.2 (List.mem_map_of_mem hk)), rfl, rfl, rfl⟩

/-! ### The fence of one cluster -/

/-- What a fence does before it looks at the mode change: it loses the contexts, revokes the leases and ends the parts
of the clusters (R339). -/
def clearClusters (ns : List Nat) (i : ErrInfo) (s : State) : State :=
  endPartsOf ns (dropLeasesOf ns (loseOnUnit ns none i s))

theorem clearClusters_det (ns : List Nat) : (clearClusters ns i s).det = s.det :=
  (endPartsOf_frame (L := (touches (.unitFailureReport (.cluster 0))).filter (· ≠ .det)) (by decide)
    (dropLeasesOf_frame (by decide) (loseOnUnit_frame (by decide) (SameBut.refl _ s)))).2.2 .det (by decide)

/-- A fence ends by noting the clusters and rewriting the unit map. -/
theorem mapChanged_noteFenced_modeFields (ns : List Nat) (s : State) :
    modeFields (mapChanged (noteFenced ns s)).det = modeFields s.det := by
  unfold mapChanged
  split <;> rfl

theorem mapChanged_noteFenced_out (ns : List Nat) (s : State) : (mapChanged (noteFenced ns s)).out = s.out :=
  (mapChanged_frame (L := [.det, .boot]) (by decide) (noteFenced_frame (by decide) (SameBut.refl _ s))).2.2 .out
    (by decide)

/-- The fence of one served cluster abandons a mode change that still awaits it (R339, R344). -/
theorem fenceClusters_single (hn : n < clustersOf s.variant) (hf : n ∉ s.det.fenced) :
    fenceClusters [n] i s = mapChanged (noteFenced [n]
      (if s.det.mode = .staging ∧ n ∈ s.det.unacked then abandonMode n (clearClusters [n] i s)
        else clearClusters [n] i s)) := by
  have hdet : (endPartsOf [n] (dropLeasesOf [n] (loseOnUnit [n] none i s))).det = s.det := clearClusters_det [n]
  have hnew : ([n].filter fun n => n < clustersOf s.variant && !s.det.fenced.contains n) = [n] := by simp [hn, hf]
  simp only [fenceClusters, hnew, List.isEmpty_cons, Bool.false_eq_true, if_false, hdet, clearClusters]
  by_cases hm : s.det.mode = .staging
  · by_cases hu : n ∈ s.det.unacked <;> simp [hm, hu]
  · simp [hm]

/-- The end of the fence of a cluster that a staged mode change still awaits (R344). -/
theorem fenceClusters_awaited (hn : n < clustersOf s.variant) (hf : n ∉ s.det.fenced) (hm : s.det.mode = .staging)
    (hu : n ∈ s.det.unacked) : AbandonedFor s.det n (fenceClusters [n] i s) := by
  have habandoned : AbandonedFor s.det n (abandonMode n (clearClusters [n] i s)) :=
    clearClusters_det (i := i) (s := s) [n] ▸ abandonMode_abandons
  rw [fenceClusters_single hn hf, if_pos ⟨hm, hu⟩]
  exact habandoned.congr (mapChanged_noteFenced_modeFields _ _) (mapChanged_noteFenced_out _ _)

/-- The fence of a cluster that is not awaited leaves a mode change as it is (R344). -/
theorem fenceClusters_notAwaited (hn : n < clustersOf s.variant) (hf : n ∉ s.det.fenced) (hu : n ∉ s.det.unacked) :
    modeFields (fenceClusters [n] i s).det = modeFields s.det := by
  rw [fenceClusters_single hn hf, if_neg fun h => hu h.2, mapChanged_noteFenced_modeFields, clearClusters_det]

/-! ### A cluster that does not take the word -/

theorem stageExpired_late (hm : s.det.mode = .staging) (hu : n ∈ s.det.unacked) (hl : stageLate s = true) :
    stageExpired n s = abandonMode n s := by simp [stageExpired, hm, hu, hl]

theorem stageAck_late (hm : s.det.mode = .staging) (hu : n ∈ s.det.unacked) (hl : stageLate s = true) :
    stageAck n s = abandonMode n s := by simp [stageAck, hm, hu, hl]

theorem stageReject_awaited (hm : s.det.mode = .staging) (hu : n ∈ s.det.unacked) :
    stageReject n s = abandonMode n s := by simp [stageReject, hm, hu]

end ModeChange

/-- Settles O15: silence, rejection and a late acknowledgement abandon the change at once; a fence does after it has
cleared the cluster, and only for a cluster that is still awaited. -/
theorem modeAbandoned : Obligations.ModeAbandoned := by
  intro s n _ hm hn hf abandoned
  have hreport : exec (.unitFailureReport (.cluster n)) s =
      .next (fenceClusters [n] { kind := 5, unit := n, access := 7 } s) := rfl
  refine ⟨fun hu => ⟨fun hlate => ⟨?timeout, ?ack⟩, ?reject, ?fence⟩, fun hu _ => ?acknowledged⟩
  case timeout => exact ⟨stageExpired n s, rfl, stageExpired_late hm hu hlate ▸ abandonMode_abandons⟩
  case ack => exact ⟨stageAck n s, rfl, stageAck_late hm hu hlate ▸ abandonMode_abandons⟩
  case reject => exact ⟨stageReject n s, rfl, stageReject_awaited hm hu ▸ abandonMode_abandons⟩
  case fence => exact ⟨_, hreport, fenceClusters_awaited hn hf hm hu⟩
  case acknowledged =>
    have hkept := fenceClusters_notAwaited (i := { kind := 5, unit := n, access := 7 }) hn hf hu
    simp only [modeFields, Prod.mk.injEq] at hkept
    obtain ⟨hmode, -, hacked, hunacked, -⟩ := hkept
    exact ⟨_, hreport, hmode.trans hm, hacked, hunacked⟩

end Sys2Proof.Machine
end

section
/-!
SUPPORT and CLAIM. The bypass of the weir (11_events_interrupts, R358, R359): its two conditions, the bit that a hint
leaves for its die, and the obligation O13.
-/
namespace Sys2Proof.Machine

section WeirBypass
variable {s : State} {g : Fun}

/-! ### The two conditions (R358) -/

theorem weirBypassed_iff : weirBypassed s g = true ↔ (getFn s g).int.delayNs = 0 ∨
    (portOf g = 0 ∧ s.idle.getLsbD (getFn s g).int.targetDie.val = true) := by
  simp only [weirBypassed, Bool.or_eq_true, Bool.and_eq_true, beq_iff_eq]

theorem weirBypassed_iff_of_portOf_ne_zero (hp : portOf g ≠ 0) :
    weirBypassed s g = true ↔ (getFn s g).int.delayNs = 0 :=
  weirBypassed_iff.trans (or_iff_left fun ⟨hzero, _⟩ => hp hzero)

/-! ### The last hint of each die (R359) -/

theorem foldState_runWeir_idle (l : List Fun) (s : State) :
    (foldState (fun g s => runWeir g s s) l s).idle = s.idle := by
  have hframe : SameBut [.counters, .intx, .fnCfg, .int, .out] s (foldState (fun g s => runWeir g s s) l s) :=
    foldState_frame (fun _ _ h => runWeir_frame (fun _ hp => hp) h) (SameBut.refl _ s)
  obtain ⟨-, -, hsame⟩ := hframe
  exact hsame .idle (by decide)

theorem takeHint_idle (d : Die) (idle : Bool) (s : State) : (takeHint d idle s).idle =
    if idle then s.idle ||| (1 : BitVec 4) <<< d.val else s.idle &&& ~~~ ((1 : BitVec 4) <<< d.val) :=
  foldState_runWeir_idle (fnsOf 0) _

/-- A hint decides its die's bit, whatever the bit was. -/
theorem takeHint_idle_getLsbD (d : Die) (idle : Bool) (s : State) : (takeHint d idle s).idle.getLsbD d.val = idle := by
  rw [takeHint_idle]
  cases idle with
  | true => simp [d.isLt]
  | false => simp [d.isLt]

end WeirBypass

/-- Settles O13: the definition's two conditions, of which only the delay is left off port 0, and the hint of a die as
the weirs of port 0 leave it. -/
theorem weirBypass : Obligations.WeirBypass := by
  intro s g
  have hhint (d : Die) (idle : Bool) : ∃ t, exec (.idleHint d idle) s = .next t ∧ t.idle.getLsbD d.val = idle :=
    ⟨takeHint d idle s, rfl, takeHint_idle_getLsbD d idle s⟩
  exact ⟨weirBypassed_iff, weirBypassed_iff_of_portOf_ne_zero, fun d => ⟨hhint d true, hhint d false⟩⟩

end Sys2Proof.Machine
end

section
/-!
SUPPORT and CLAIMS. What holds of every step and every command: its frame, its next state, and the invariant that every step keeps
(O1 to O7), from the law of each command's meaning.
-/
namespace Sys2Proof.Machine

/-- The frame of a command is the frame of its meaning. -/
theorem exec_frame (c : Instr) (s : State) : OutBut (touches c) s (exec c s) :=
  match c with
  | .perstAssert .. => execPerstAssert_frame
  | .perstDeassert .. => execPerstDeassert_frame
  | .portLinkUp .. => execPortLinkUp_frame
  | .linkL0Return .. => execLinkL0Return_frame
  | .surpriseRemoval .. => execSurpriseRemoval_frame
  | .malformedTlp .. => execMalformedTlp_frame
  | .hotReset .. => execHotReset_frame
  | .functionLevelReset .. => execFunctionLevelReset_frame
  | .functionResetComplete .. => execFunctionResetComplete_frame
  | .busMasterEnableClear .. => execBusMasterEnableClear_frame
  | .stallQuiet .. => execStallQuiet_frame
  | .busMasterEnableSet .. => execBusMasterEnableSet_frame
  | .powerStateD3hot .. => execPowerStateD3hot_frame
  | .powerStateD0 .. => execPowerStateD0_frame
  | .pmeTurnOff .. => execPmeTurnOff_frame
  | .pmeToAck .. => execPmeToAck_frame
  | .interruptDisableWrite .. => execInterruptDisableWrite_frame
  | .atsPasidDisable .. => execAtsPasidDisable_frame
  | .functionEnableWrite .. => execFunctionEnableWrite_frame
  | .portEnableWrite .. => execPortEnableWrite_frame
  | .port0ModeMain .. => execPort0ModeMain_frame
  | .port0ModeFallback .. => execPort0ModeFallback_frame
  | .port0TrainingDone .. => execPort0TrainingDone_frame
  | .port0GroupRetrainFailed .. => execPort0GroupRetrainFailed_frame
  | .port0LinkDown => execPort0LinkDown_frame
  | .completionReceived .. => execCompletionReceived_frame
  | .completionTimeout .. => execCompletionTimeout_frame
  | .quarantineExpiry .. => execQuarantineExpiry_frame
  | .registerWrite .. => execRegisterWrite_frame
  | .hmpOpenSession .. => execHmpOpenSession_frame
  | .hmpProve .. => execHmpProve_frame
  | .hmpCloseSession .. => execHmpCloseSession_frame
  | .hmpRead .. => execHmpRead_frame
  | .hmpWrite .. => execHmpWrite_frame
  | .hmpReadSegment .. => execHmpReadSegment_frame
  | .hmpWriteSegment .. => execHmpWriteSegment_frame
  | .hmpList .. => execHmpList_frame
  | .spdmMessage .. => execSpdmMessage_frame
  | .hmpBadOpcode .. => execHmpBadOpcode_frame
  | .hmpFrameDropped .. => execHmpFrameDropped_frame
  | .pendingSessionExpiry .. => execPendingSessionExpiry_frame
  | .sessionIdleExpiry .. => execSessionIdleExpiry_frame
  | .slotLockExpiry .. => execSlotLockExpiry_frame
  | .mbxRead .. => execMbxRead_frame
  | .mbxWrite .. => execMbxWrite_frame
  | .mbxReadSegment .. => execMbxReadSegment_frame
  | .mbxWriteSegment .. => execMbxWriteSegment_frame
  | .mbxWriteSegmentFinal .. => execMbxWriteSegmentFinal_frame
  | .mbxBadOp .. => execMbxBadOp_frame
  | .dictionaryEngineTurn .. => execDictionaryEngineTurn_frame
  | .restoreDefaults .. => execRestoreDefaults_frame
  | .restoreDefaultsEnd => execRestoreDefaultsEnd_frame
  | .journalCompactionStep => execJournalCompactionStep_frame
  | .mgmtLinkChange .. => execMgmtLinkChange_frame
  | .neighborSolicitation .. => execNeighborSolicitation_frame
  | .neighborAdvertisement .. => execNeighborAdvertisement_frame
  | .echoRequest .. => execEchoRequest_frame
  | .adminSqControlWrite .. => execAdminSqControlWrite_frame
  | .adminCqControlWrite .. => execAdminCqControlWrite_frame
  | .adminSqTailWrite .. => execAdminSqTailWrite_frame
  | .adminCqHeadWrite .. => execAdminCqHeadWrite_frame
  | .adminEntryRead .. => execAdminEntryRead_frame
  | .adminCompletionWrite .. => execAdminCompletionWrite_frame
  | .createContext .. => execCreateContext_frame
  | .destroyContext .. => execDestroyContext_frame
  | .contextAbortComplete .. => execContextAbortComplete_frame
  | .queryContext .. => execQueryContext_frame
  | .createObject .. => execCreateObject_frame
  | .freeObject .. => execFreeObject_frame
  | .freeObjectComplete .. => execFreeObjectComplete_frame
  | .grantObject .. => execGrantObject_frame
  | .revokeGrant .. => execRevokeGrant_frame
  | .grantDropComplete .. => execGrantDropComplete_frame
  | .createEventRing .. => execCreateEventRing_frame
  | .destroyEventRing .. => execDestroyEventRing_frame
  | .adminBadOpcode .. => execAdminBadOpcode_frame
  | .fenceSignal .. => execFenceSignal_frame
  | .fenceWaitRelease .. => execFenceWaitRelease_frame
  | .fenceMirrorWrite .. => execFenceMirrorWrite_frame
  | .doorbell .. => execDoorbell_frame
  | .commandFetch .. => execCommandFetch_frame
  | .commandEntryArrival .. => execCommandEntryArrival_frame
  | .dispatchStages .. => execDispatchStages_frame
  | .nop .. => execNop_frame
  | .writeValue .. => execWriteValue_frame
  | .writeTimestamp .. => execWriteTimestamp_frame
  | .copyTensor .. => execCopyTensor_frame
  | .reduceTensor .. => execReduceTensor_frame
  | .fill .. => execFill_frame
  | .launch .. => execLaunch_frame
  | .flush .. => execFlush_frame
  | .invalidate .. => execInvalidate_frame
  | .invalidateRanges .. => execInvalidateRanges_frame
  | .digestRange .. => execDigestRange_frame
  | .commandBadOpcode .. => execCommandBadOpcode_frame
  | .commandCompletion .. => execCommandCompletion_frame
  | .streamTagDrained .. => execStreamTagDrained_frame
  | .streamBeatUnknownTag .. => execStreamBeatUnknownTag_frame
  | .partEnd .. => execPartEnd_frame
  | .partCancelTimeout .. => execPartCancelTimeout_frame
  | .unitStepEnd .. => execUnitStepEnd_frame
  | .translationLookup .. => execTranslationLookup_frame
  | .walkNodeReadDone .. => execWalkNodeReadDone_frame
  | .leaseRequest .. => execLeaseRequest_frame
  | .revokeAck .. => execRevokeAck_frame
  | .leaseRelease .. => execLeaseRelease_frame
  | .rangeScanDone .. => execRangeScanDone_frame
  | .atsTranslationCompletion .. => execAtsTranslationCompletion_frame
  | .atsInvalidateRequest .. => execAtsInvalidateRequest_frame
  | .atsInvalidationCompletion .. => execAtsInvalidationCompletion_frame
  | .walkerGroupEnableWrite .. => execWalkerGroupEnableWrite_frame
  | .poolExtentWrite .. => execPoolExtentWrite_frame
  | .engineTurn .. => execEngineTurn_frame
  | .tileDelivered .. => execTileDelivered_frame
  | .tileConsumed .. => execTileConsumed_frame
  | .faultRecordWrite .. => execFaultRecordWrite_frame
  | .faultqControlWrite .. => execFaultqControlWrite_frame
  | .faultqHeadWrite .. => execFaultqHeadWrite_frame
  | .faultTimeoutWrite .. => execFaultTimeoutWrite_frame
  | .faultResume .. => execFaultResume_frame
  | .faultAbort .. => execFaultAbort_frame
  | .faultResponseBadAction .. => execFaultResponseBadAction_frame
  | .faultTimeoutExpiry .. => execFaultTimeoutExpiry_frame
  | .checkWrite .. => execCheckWrite_frame
  | .checkAtomic .. => execCheckAtomic_frame
  | .readReq .. => execReadReq_frame
  | .accept .. => execAccept_frame
  | .deny .. => execDeny_frame
  | .data .. => execData_frame
  | .cancel .. => execCancel_frame
  | .readData .. => execReadData_frame
  | .done .. => execDone_frame
  | .linkAck .. => execLinkAck_frame
  | .hello .. => execHello_frame
  | .helloAck .. => execHelloAck_frame
  | .paldarRetryTimeout .. => execPaldarRetryTimeout_frame
  | .linkAckTimer .. => execLinkAckTimer_frame
  | .peerTimeout .. => execPeerTimeout_frame
  | .helloTimer .. => execHelloTimer_frame
  | .peerDownTimer .. => execPeerDownTimer_frame
  | .denyBusyRetry .. => execDenyBusyRetry_frame
  | .commitHistoryExpiry .. => execCommitHistoryExpiry_frame
  | .receiverPeerSilence .. => execReceiverPeerSilence_frame
  | .windowDataExecuted .. => execWindowDataExecuted_frame
  | .ethernetLinkChange .. => execEthernetLinkChange_frame
  | .windowOpen .. => execWindowOpen_frame
  | .windowClose .. => execWindowClose_frame
  | .windowCloseDone .. => execWindowCloseDone_frame
  | .windowModify .. => execWindowModify_frame
  | .windowRefresh .. => execWindowRefresh_frame
  | .windowRefreshDone .. => execWindowRefreshDone_frame
  | .windowRequestBadOp .. => execWindowRequestBadOp_frame
  | .peerEntryWrite .. => execPeerEntryWrite_frame
  | .cohEnable .. => execCohEnable_frame
  | .cohDisable .. => execCohDisable_frame
  | .cohCloseDone .. => execCohCloseDone_frame
  | .coherentAccess .. => execCoherentAccess_frame
  | .snoopAck .. => execSnoopAck_frame
  | .snoopTimeout .. => execSnoopTimeout_frame
  | .poolLineRead .. => execPoolLineRead_frame
  | .rowRemapCopyDone .. => execRowRemapCopyDone_frame
  | .repairRequest .. => execRepairRequest_frame
  | .repairDone .. => execRepairDone_frame
  | .marginRequest .. => execMarginRequest_frame
  | .marginDone .. => execMarginDone_frame
  | .scrubStep => execScrubStep_frame
  | .slotIssueWindowStart => execSlotIssueWindowStart_frame
  | .ptpSync .. => execPtpSync_frame
  | .ptpFollowUp .. => execPtpFollowUp_frame
  | .ptpDelayResp .. => execPtpDelayResp_frame
  | .ptpAnnounce .. => execPtpAnnounce_frame
  | .announceReceiptTimeout => execAnnounceReceiptTimeout_frame
  | .delayReqTimer => execDelayReqTimer_frame
  | .syncLossTimeout => execSyncLossTimeout_frame
  | .replayEntryDue .. => execReplayEntryDue_frame
  | .unitFailureReport .. => execUnitFailureReport_frame
  | .unitRemap .. => execUnitRemap_frame
  | .unitRemapDone => execUnitRemapDone_frame
  | .modeChangeStage .. => execModeChangeStage_frame
  | .modeStageAck .. => execModeStageAck_frame
  | .modeStageReject .. => execModeStageReject_frame
  | .modeStageTimeout .. => execModeStageTimeout_frame
  | .modeCommit => execModeCommit_frame
  | .eventRecordWrite .. => execEventRecordWrite_frame
  | .ringConsumerWrite .. => execRingConsumerWrite_frame
  | .weirDelayExpiry .. => execWeirDelayExpiry_frame
  | .intPendingClear .. => execIntPendingClear_frame
  | .intMaskWrite .. => execIntMaskWrite_frame
  | .intModerationWrite .. => execIntModerationWrite_frame
  | .idleHint .. => execIdleHint_frame
  | .wakeFiring .. => execWakeFiring_frame
  | .gtcAlarm => execGtcAlarm_frame
  | .pkgWakereq => execPkgWakereq_frame
  | .hmpWakeFrame => execHmpWakeFrame_frame
  | .sleepRequest .. => execSleepRequest_frame
  | .sleepEntered => execSleepEntered_frame
  | .wakeComplete => execWakeComplete_frame
  | .errorRaise .. => execErrorRaise_frame
  | .brokenWire .. => execBrokenWire_frame
  | .blockReset .. => execBlockReset_frame
  | .blockResetDone .. => execBlockResetDone_frame
  | .packageReset .. => execPackageReset_frame
  | .resetDone => execResetDone_frame
  | .watchdogExpiry => execWatchdogExpiry_frame
  | .errCaptureRelease .. => execErrCaptureRelease_frame
  | .fnErrRelease .. => execFnErrRelease_frame
  | .errOutRelease .. => execErrOutRelease_frame
  | .errHoldExpiry => execErrHoldExpiry_frame
  | .errOutMismatch => execErrOutMismatch_frame
  | .counterClear .. => execCounterClear_frame
  | .getVersion .. => execGetVersion_frame
  | .getCapabilities .. => execGetCapabilities_frame
  | .negotiateAlgorithms .. => execNegotiateAlgorithms_frame
  | .getDigests .. => execGetDigests_frame
  | .getCertificate .. => execGetCertificate_frame
  | .challenge .. => execChallenge_frame
  | .getMeasurements .. => execGetMeasurements_frame
  | .chunkSend .. => execChunkSend_frame
  | .chunkGet .. => execChunkGet_frame
  | .spdmUnsupportedRequest .. => execSpdmUnsupportedRequest_frame
  | .debugTokenWrite .. => execDebugTokenWrite_frame
  | .raiseMinSecurityVersion .. => execRaiseMinSecurityVersion_frame
  | .powerCoarseUpdate => execPowerCoarseUpdate_frame
  | .entropyHealthFailure => execEntropyHealthFailure_frame
  | .drbgReseed => execDrbgReseed_frame
  | .domainSwitchStart => execDomainSwitchStart_frame
  | .domainSwitchDone => execDomainSwitchDone_frame
  | .workDomainsOnWrite .. => execWorkDomainsOnWrite_frame
  | .engineGroupEnableWrite .. => execEngineGroupEnableWrite_frame
  | .digestEngineEnableWrite .. => execDigestEngineEnableWrite_frame
  | .paldarLaneEnableWrite .. => execPaldarLaneEnableWrite_frame
  | .clockMeasureWindow .. => execClockMeasureWindow_frame
  | .powerGoodChange .. => execPowerGoodChange_frame
  | .telemetryPoll => execTelemetryPoll_frame
  | .telemetryReply .. => execTelemetryReply_frame
  | .power .. => execPower_frame
  | .train .. => execTrain_frame
  | .qualify .. => execQualify_frame
  | .qualifyEnd .. => execQualifyEnd_frame
  | .loadFirmware .. => execLoadFirmware_frame
  | .firmwareImageComplete => execFirmwareImageComplete_frame
  | .firmwareChunkWrite .. => execFirmwareChunkWrite_frame
  | .broadcast .. => execBroadcast_frame
  | .tileDigestAnswer .. => execTileDigestAnswer_frame
  | .tileAnswerTimeout .. => execTileAnswerTimeout_frame
  | .test .. => execTest_frame
  | .publishMap .. => execPublishMap_frame
  | .declareReady .. => execDeclareReady_frame
  | .bringupStepEnd .. => execBringupStepEnd_frame
  | .declareReadyComplete => execDeclareReadyComplete_frame
  | .port0Lanes .. => execPort0Lanes_frame
  | .portLanes .. => execPortLanes_frame
  | .stackCalibrate .. => execStackCalibrate_frame
  | .calibrateDone .. => execCalibrateDone_frame
  | .launchGtcReached .. => execLaunchGtcReached_frame
  | .flitModeRefused .. => execFlitModeRefused_frame
  | .linkRecovery .. => execLinkRecovery_frame
  | .aspmL1Entry .. => execAspmL1Entry_frame
  | .port0FallbackTrained .. => execPort0FallbackTrained_frame
  | .errOutMismatchEnd => execErrOutMismatchEnd_frame
  | .doeDiscovery .. => execDoeDiscovery_frame
  | .ptpDelayReq .. => execPtpDelayReq_frame
  | .ptpSyncTimer => execPtpSyncTimer_frame
  | .ptpAnnounceTimer => execPtpAnnounceTimer_frame
  | .tapAccess .. => execTapAccess_frame

/-- A command keeps what its meaning keeps. -/
theorem exec_ok (c : Instr) (s : State) : OutOk s (exec c s) :=
  match c with
  | .perstAssert .. => execPerstAssert_ok (Ok.refl s)
  | .perstDeassert .. => execPerstDeassert_ok (Ok.refl s)
  | .portLinkUp .. => execPortLinkUp_ok (Ok.refl s)
  | .linkL0Return .. => execLinkL0Return_ok (Ok.refl s)
  | .surpriseRemoval .. => execSurpriseRemoval_ok (Ok.refl s)
  | .malformedTlp .. => execMalformedTlp_ok (Ok.refl s)
  | .hotReset .. => execHotReset_ok (Ok.refl s)
  | .functionLevelReset .. => execFunctionLevelReset_ok (Ok.refl s)
  | .functionResetComplete .. => execFunctionResetComplete_ok (Ok.refl s)
  | .busMasterEnableClear .. => execBusMasterEnableClear_ok (Ok.refl s)
  | .stallQuiet .. => execStallQuiet_ok (Ok.refl s)
  | .busMasterEnableSet .. => execBusMasterEnableSet_ok (Ok.refl s)
  | .powerStateD3hot .. => execPowerStateD3hot_ok (Ok.refl s)
  | .powerStateD0 .. => execPowerStateD0_ok (Ok.refl s)
  | .pmeTurnOff .. => execPmeTurnOff_ok (Ok.refl s)
  | .pmeToAck .. => execPmeToAck_ok (Ok.refl s)
  | .interruptDisableWrite .. => execInterruptDisableWrite_ok (Ok.refl s)
  | .atsPasidDisable .. => execAtsPasidDisable_ok (Ok.refl s)
  | .functionEnableWrite .. => execFunctionEnableWrite_ok (Ok.refl s)
  | .portEnableWrite .. => execPortEnableWrite_ok (Ok.refl s)
  | .port0ModeMain .. => execPort0ModeMain_ok (Ok.refl s)
  | .port0ModeFallback .. => execPort0ModeFallback_ok (Ok.refl s)
  | .port0TrainingDone .. => execPort0TrainingDone_ok (Ok.refl s)
  | .port0GroupRetrainFailed .. => execPort0GroupRetrainFailed_ok (Ok.refl s)
  | .port0LinkDown => execPort0LinkDown_ok (Ok.refl s)
  | .completionReceived .. => execCompletionReceived_ok (Ok.refl s)
  | .completionTimeout .. => execCompletionTimeout_ok (Ok.refl s)
  | .quarantineExpiry .. => execQuarantineExpiry_ok (Ok.refl s)
  | .registerWrite .. => execRegisterWrite_ok (Ok.refl s)
  | .hmpOpenSession .. => execHmpOpenSession_ok (Ok.refl s)
  | .hmpProve .. => execHmpProve_ok (Ok.refl s)
  | .hmpCloseSession .. => execHmpCloseSession_ok (Ok.refl s)
  | .hmpRead .. => execHmpRead_ok (Ok.refl s)
  | .hmpWrite .. => execHmpWrite_ok (Ok.refl s)
  | .hmpReadSegment .. => execHmpReadSegment_ok (Ok.refl s)
  | .hmpWriteSegment .. => execHmpWriteSegment_ok (Ok.refl s)
  | .hmpList .. => execHmpList_ok (Ok.refl s)
  | .spdmMessage .. => execSpdmMessage_ok (Ok.refl s)
  | .hmpBadOpcode .. => execHmpBadOpcode_ok (Ok.refl s)
  | .hmpFrameDropped .. => execHmpFrameDropped_ok (Ok.refl s)
  | .pendingSessionExpiry .. => execPendingSessionExpiry_ok (Ok.refl s)
  | .sessionIdleExpiry .. => execSessionIdleExpiry_ok (Ok.refl s)
  | .slotLockExpiry .. => execSlotLockExpiry_ok (Ok.refl s)
  | .mbxRead .. => execMbxRead_ok (Ok.refl s)
  | .mbxWrite .. => execMbxWrite_ok (Ok.refl s)
  | .mbxReadSegment .. => execMbxReadSegment_ok (Ok.refl s)
  | .mbxWriteSegment .. => execMbxWriteSegment_ok (Ok.refl s)
  | .mbxWriteSegmentFinal .. => execMbxWriteSegmentFinal_ok (Ok.refl s)
  | .mbxBadOp .. => execMbxBadOp_ok (Ok.refl s)
  | .dictionaryEngineTurn .. => execDictionaryEngineTurn_ok (Ok.refl s)
  | .restoreDefaults .. => execRestoreDefaults_ok (Ok.refl s)
  | .restoreDefaultsEnd => execRestoreDefaultsEnd_ok (Ok.refl s)
  | .journalCompactionStep => execJournalCompactionStep_ok (Ok.refl s)
  | .mgmtLinkChange .. => execMgmtLinkChange_ok (Ok.refl s)
  | .neighborSolicitation .. => execNeighborSolicitation_ok (Ok.refl s)
  | .neighborAdvertisement .. => execNeighborAdvertisement_ok (Ok.refl s)
  | .echoRequest .. => execEchoRequest_ok (Ok.refl s)
  | .adminSqControlWrite .. => execAdminSqControlWrite_ok (Ok.refl s)
  | .adminCqControlWrite .. => execAdminCqControlWrite_ok (Ok.refl s)
  | .adminSqTailWrite .. => execAdminSqTailWrite_ok (Ok.refl s)
  | .adminCqHeadWrite .. => execAdminCqHeadWrite_ok (Ok.refl s)
  | .adminEntryRead .. => execAdminEntryRead_ok (Ok.refl s)
  | .adminCompletionWrite .. => execAdminCompletionWrite_ok (Ok.refl s)
  | .createContext .. => execCreateContext_ok (Ok.refl s)
  | .destroyContext .. => execDestroyContext_ok (Ok.refl s)
  | .contextAbortComplete .. => execContextAbortComplete_ok (Ok.refl s)
  | .queryContext .. => execQueryContext_ok (Ok.refl s)
  | .createObject .. => execCreateObject_ok (Ok.refl s)
  | .freeObject .. => execFreeObject_ok (Ok.refl s)
  | .freeObjectComplete .. => execFreeObjectComplete_ok (Ok.refl s)
  | .grantObject .. => execGrantObject_ok (Ok.refl s)
  | .revokeGrant .. => execRevokeGrant_ok (Ok.refl s)
  | .grantDropComplete .. => execGrantDropComplete_ok (Ok.refl s)
  | .createEventRing .. => execCreateEventRing_ok (Ok.refl s)
  | .destroyEventRing .. => execDestroyEventRing_ok (Ok.refl s)
  | .adminBadOpcode .. => execAdminBadOpcode_ok (Ok.refl s)
  | .fenceSignal .. => execFenceSignal_ok (Ok.refl s)
  | .fenceWaitRelease .. => execFenceWaitRelease_ok (Ok.refl s)
  | .fenceMirrorWrite .. => execFenceMirrorWrite_ok (Ok.refl s)
  | .doorbell .. => execDoorbell_ok (Ok.refl s)
  | .commandFetch .. => execCommandFetch_ok (Ok.refl s)
  | .commandEntryArrival .. => execCommandEntryArrival_ok (Ok.refl s)
  | .dispatchStages .. => execDispatchStages_ok (Ok.refl s)
  | .nop .. => execNop_ok (Ok.refl s)
  | .writeValue .. => execWriteValue_ok (Ok.refl s)
  | .writeTimestamp .. => execWriteTimestamp_ok (Ok.refl s)
  | .copyTensor .. => execCopyTensor_ok (Ok.refl s)
  | .reduceTensor .. => execReduceTensor_ok (Ok.refl s)
  | .fill .. => execFill_ok (Ok.refl s)
  | .launch .. => execLaunch_ok (Ok.refl s)
  | .flush .. => execFlush_ok (Ok.refl s)
  | .invalidate .. => execInvalidate_ok (Ok.refl s)
  | .invalidateRanges .. => execInvalidateRanges_ok (Ok.refl s)
  | .digestRange .. => execDigestRange_ok (Ok.refl s)
  | .commandBadOpcode .. => execCommandBadOpcode_ok (Ok.refl s)
  | .commandCompletion .. => execCommandCompletion_ok (Ok.refl s)
  | .streamTagDrained .. => execStreamTagDrained_ok (Ok.refl s)
  | .streamBeatUnknownTag .. => execStreamBeatUnknownTag_ok (Ok.refl s)
  | .partEnd .. => execPartEnd_ok (Ok.refl s)
  | .partCancelTimeout .. => execPartCancelTimeout_ok (Ok.refl s)
  | .unitStepEnd .. => execUnitStepEnd_ok (Ok.refl s)
  | .translationLookup .. => execTranslationLookup_ok (Ok.refl s)
  | .walkNodeReadDone .. => execWalkNodeReadDone_ok (Ok.refl s)
  | .leaseRequest .. => execLeaseRequest_ok (Ok.refl s)
  | .revokeAck .. => execRevokeAck_ok (Ok.refl s)
  | .leaseRelease .. => execLeaseRelease_ok (Ok.refl s)
  | .rangeScanDone .. => execRangeScanDone_ok (Ok.refl s)
  | .atsTranslationCompletion .. => execAtsTranslationCompletion_ok (Ok.refl s)
  | .atsInvalidateRequest .. => execAtsInvalidateRequest_ok (Ok.refl s)
  | .atsInvalidationCompletion .. => execAtsInvalidationCompletion_ok (Ok.refl s)
  | .walkerGroupEnableWrite .. => execWalkerGroupEnableWrite_ok (Ok.refl s)
  | .poolExtentWrite .. => execPoolExtentWrite_ok (Ok.refl s)
  | .engineTurn .. => execEngineTurn_ok (Ok.refl s)
  | .tileDelivered .. => execTileDelivered_ok (Ok.refl s)
  | .tileConsumed .. => execTileConsumed_ok (Ok.refl s)
  | .faultRecordWrite .. => execFaultRecordWrite_ok (Ok.refl s)
  | .faultqControlWrite .. => execFaultqControlWrite_ok (Ok.refl s)
  | .faultqHeadWrite .. => execFaultqHeadWrite_ok (Ok.refl s)
  | .faultTimeoutWrite .. => execFaultTimeoutWrite_ok (Ok.refl s)
  | .faultResume .. => execFaultResume_ok (Ok.refl s)
  | .faultAbort .. => execFaultAbort_ok (Ok.refl s)
  | .faultResponseBadAction .. => execFaultResponseBadAction_ok (Ok.refl s)
  | .faultTimeoutExpiry .. => execFaultTimeoutExpiry_ok (Ok.refl s)
  | .checkWrite .. => execCheckWrite_ok (Ok.refl s)
  | .checkAtomic .. => execCheckAtomic_ok (Ok.refl s)
  | .readReq .. => execReadReq_ok (Ok.refl s)
  | .accept .. => execAccept_ok (Ok.refl s)
  | .deny .. => execDeny_ok (Ok.refl s)
  | .data .. => execData_ok (Ok.refl s)
  | .cancel .. => execCancel_ok (Ok.refl s)
  | .readData .. => execReadData_ok (Ok.refl s)
  | .done .. => execDone_ok (Ok.refl s)
  | .linkAck .. => execLinkAck_ok (Ok.refl s)
  | .hello .. => execHello_ok (Ok.refl s)
  | .helloAck .. => execHelloAck_ok (Ok.refl s)
  | .paldarRetryTimeout .. => execPaldarRetryTimeout_ok (Ok.refl s)
  | .linkAckTimer .. => execLinkAckTimer_ok (Ok.refl s)
  | .peerTimeout .. => execPeerTimeout_ok (Ok.refl s)
  | .helloTimer .. => execHelloTimer_ok (Ok.refl s)
  | .peerDownTimer .. => execPeerDownTimer_ok (Ok.refl s)
  | .denyBusyRetry .. => execDenyBusyRetry_ok (Ok.refl s)
  | .commitHistoryExpiry .. => execCommitHistoryExpiry_ok (Ok.refl s)
  | .receiverPeerSilence .. => execReceiverPeerSilence_ok (Ok.refl s)
  | .windowDataExecuted .. => execWindowDataExecuted_ok (Ok.refl s)
  | .ethernetLinkChange .. => execEthernetLinkChange_ok (Ok.refl s)
  | .windowOpen .. => execWindowOpen_ok (Ok.refl s)
  | .windowClose .. => execWindowClose_ok (Ok.refl s)
  | .windowCloseDone .. => execWindowCloseDone_ok (Ok.refl s)
  | .windowModify .. => execWindowModify_ok (Ok.refl s)
  | .windowRefresh .. => execWindowRefresh_ok (Ok.refl s)
  | .windowRefreshDone .. => execWindowRefreshDone_ok (Ok.refl s)
  | .windowRequestBadOp .. => execWindowRequestBadOp_ok (Ok.refl s)
  | .peerEntryWrite .. => execPeerEntryWrite_ok (Ok.refl s)
  | .cohEnable .. => execCohEnable_ok (Ok.refl s)
  | .cohDisable .. => execCohDisable_ok (Ok.refl s)
  | .cohCloseDone .. => execCohCloseDone_ok (Ok.refl s)
  | .coherentAccess .. => execCoherentAccess_ok (Ok.refl s)
  | .snoopAck .. => execSnoopAck_ok (Ok.refl s)
  | .snoopTimeout .. => execSnoopTimeout_ok (Ok.refl s)
  | .poolLineRead .. => execPoolLineRead_ok (Ok.refl s)
  | .rowRemapCopyDone .. => execRowRemapCopyDone_ok (Ok.refl s)
  | .repairRequest .. => execRepairRequest_ok (Ok.refl s)
  | .repairDone .. => execRepairDone_ok (Ok.refl s)
  | .marginRequest .. => execMarginRequest_ok (Ok.refl s)
  | .marginDone .. => execMarginDone_ok (Ok.refl s)
  | .scrubStep => execScrubStep_ok (Ok.refl s)
  | .slotIssueWindowStart => execSlotIssueWindowStart_ok (Ok.refl s)
  | .ptpSync .. => execPtpSync_ok (Ok.refl s)
  | .ptpFollowUp .. => execPtpFollowUp_ok (Ok.refl s)
  | .ptpDelayResp .. => execPtpDelayResp_ok (Ok.refl s)
  | .ptpAnnounce .. => execPtpAnnounce_ok (Ok.refl s)
  | .announceReceiptTimeout => execAnnounceReceiptTimeout_ok (Ok.refl s)
  | .delayReqTimer => execDelayReqTimer_ok (Ok.refl s)
  | .syncLossTimeout => execSyncLossTimeout_ok (Ok.refl s)
  | .replayEntryDue .. => execReplayEntryDue_ok (Ok.refl s)
  | .unitFailureReport .. => execUnitFailureReport_ok (Ok.refl s)
  | .unitRemap .. => execUnitRemap_ok (Ok.refl s)
  | .unitRemapDone => execUnitRemapDone_ok (Ok.refl s)
  | .modeChangeStage .. => execModeChangeStage_ok (Ok.refl s)
  | .modeStageAck .. => execModeStageAck_ok (Ok.refl s)
  | .modeStageReject .. => execModeStageReject_ok (Ok.refl s)
  | .modeStageTimeout .. => execModeStageTimeout_ok (Ok.refl s)
  | .modeCommit => execModeCommit_ok (Ok.refl s)
  | .eventRecordWrite .. => execEventRecordWrite_ok (Ok.refl s)
  | .ringConsumerWrite .. => execRingConsumerWrite_ok (Ok.refl s)
  | .weirDelayExpiry .. => execWeirDelayExpiry_ok (Ok.refl s)
  | .intPendingClear .. => execIntPendingClear_ok (Ok.refl s)
  | .intMaskWrite .. => execIntMaskWrite_ok (Ok.refl s)
  | .intModerationWrite .. => execIntModerationWrite_ok (Ok.refl s)
  | .idleHint .. => execIdleHint_ok (Ok.refl s)
  | .wakeFiring .. => execWakeFiring_ok (Ok.refl s)
  | .gtcAlarm => execGtcAlarm_ok (Ok.refl s)
  | .pkgWakereq => execPkgWakereq_ok (Ok.refl s)
  | .hmpWakeFrame => execHmpWakeFrame_ok (Ok.refl s)
  | .sleepRequest .. => execSleepRequest_ok (Ok.refl s)
  | .sleepEntered => execSleepEntered_ok (Ok.refl s)
  | .wakeComplete => execWakeComplete_ok (Ok.refl s)
  | .errorRaise .. => execErrorRaise_ok (Ok.refl s)
  | .brokenWire .. => execBrokenWire_ok (Ok.refl s)
  | .blockReset .. => execBlockReset_ok (Ok.refl s)
  | .blockResetDone .. => execBlockResetDone_ok (Ok.refl s)
  | .packageReset .. => execPackageReset_ok (Ok.refl s)
  | .resetDone => execResetDone_ok (Ok.refl s)
  | .watchdogExpiry => execWatchdogExpiry_ok (Ok.refl s)
  | .errCaptureRelease .. => execErrCaptureRelease_ok (Ok.refl s)
  | .fnErrRelease .. => execFnErrRelease_ok (Ok.refl s)
  | .errOutRelease .. => execErrOutRelease_ok (Ok.refl s)
  | .errHoldExpiry => execErrHoldExpiry_ok (Ok.refl s)
  | .errOutMismatch => execErrOutMismatch_ok (Ok.refl s)
  | .counterClear .. => execCounterClear_ok (Ok.refl s)
  | .getVersion .. => execGetVersion_ok (Ok.refl s)
  | .getCapabilities .. => execGetCapabilities_ok (Ok.refl s)
  | .negotiateAlgorithms .. => execNegotiateAlgorithms_ok (Ok.refl s)
  | .getDigests .. => execGetDigests_ok (Ok.refl s)
  | .getCertificate .. => execGetCertificate_ok (Ok.refl s)
  | .challenge .. => execChallenge_ok (Ok.refl s)
  | .getMeasurements .. => execGetMeasurements_ok (Ok.refl s)
  | .chunkSend .. => execChunkSend_ok (Ok.refl s)
  | .chunkGet .. => execChunkGet_ok (Ok.refl s)
  | .spdmUnsupportedRequest .. => execSpdmUnsupportedRequest_ok (Ok.refl s)
  | .debugTokenWrite .. => execDebugTokenWrite_ok (Ok.refl s)
  | .raiseMinSecurityVersion .. => execRaiseMinSecurityVersion_ok (Ok.refl s)
  | .powerCoarseUpdate => execPowerCoarseUpdate_ok (Ok.refl s)
  | .entropyHealthFailure => execEntropyHealthFailure_ok (Ok.refl s)
  | .drbgReseed => execDrbgReseed_ok (Ok.refl s)
  | .domainSwitchStart => execDomainSwitchStart_ok (Ok.refl s)
  | .domainSwitchDone => execDomainSwitchDone_ok (Ok.refl s)
  | .workDomainsOnWrite .. => execWorkDomainsOnWrite_ok (Ok.refl s)
  | .engineGroupEnableWrite .. => execEngineGroupEnableWrite_ok (Ok.refl s)
  | .digestEngineEnableWrite .. => execDigestEngineEnableWrite_ok (Ok.refl s)
  | .paldarLaneEnableWrite .. => execPaldarLaneEnableWrite_ok (Ok.refl s)
  | .clockMeasureWindow .. => execClockMeasureWindow_ok (Ok.refl s)
  | .powerGoodChange .. => execPowerGoodChange_ok (Ok.refl s)
  | .telemetryPoll => execTelemetryPoll_ok (Ok.refl s)
  | .telemetryReply .. => execTelemetryReply_ok (Ok.refl s)
  | .power .. => execPower_ok (Ok.refl s)
  | .train .. => execTrain_ok (Ok.refl s)
  | .qualify .. => execQualify_ok (Ok.refl s)
  | .qualifyEnd .. => execQualifyEnd_ok (Ok.refl s)
  | .loadFirmware .. => execLoadFirmware_ok (Ok.refl s)
  | .firmwareImageComplete => execFirmwareImageComplete_ok (Ok.refl s)
  | .firmwareChunkWrite .. => execFirmwareChunkWrite_ok (Ok.refl s)
  | .broadcast .. => execBroadcast_ok (Ok.refl s)
  | .tileDigestAnswer .. => execTileDigestAnswer_ok (Ok.refl s)
  | .tileAnswerTimeout .. => execTileAnswerTimeout_ok (Ok.refl s)
  | .test .. => execTest_ok (Ok.refl s)
  | .publishMap .. => execPublishMap_ok (Ok.refl s)
  | .declareReady .. => execDeclareReady_ok (Ok.refl s)
  | .bringupStepEnd .. => execBringupStepEnd_ok (Ok.refl s)
  | .declareReadyComplete => execDeclareReadyComplete_ok (Ok.refl s)
  | .port0Lanes .. => execPort0Lanes_ok (Ok.refl s)
  | .portLanes .. => execPortLanes_ok (Ok.refl s)
  | .stackCalibrate .. => execStackCalibrate_ok (Ok.refl s)
  | .calibrateDone .. => execCalibrateDone_ok (Ok.refl s)
  | .launchGtcReached .. => execLaunchGtcReached_ok (Ok.refl s)
  | .flitModeRefused .. => execFlitModeRefused_ok (Ok.refl s)
  | .linkRecovery .. => execLinkRecovery_ok (Ok.refl s)
  | .aspmL1Entry .. => execAspmL1Entry_ok (Ok.refl s)
  | .port0FallbackTrained .. => execPort0FallbackTrained_ok (Ok.refl s)
  | .errOutMismatchEnd => execErrOutMismatchEnd_ok (Ok.refl s)
  | .doeDiscovery .. => execDoeDiscovery_ok (Ok.refl s)
  | .ptpDelayReq .. => execPtpDelayReq_ok (Ok.refl s)
  | .ptpSyncTimer => execPtpSyncTimer_ok (Ok.refl s)
  | .ptpAnnounceTimer => execPtpAnnounceTimer_ok (Ok.refl s)
  | .tapAccess .. => execTapAccess_ok (Ok.refl s)

/-- The invariant does not speak of the queue. -/
theorem Inv.setPending {s : State} (h : Inv s) (l : List Instr) : Inv { s with pending := l } :=
  ⟨h.fns, h.fnOk, h.ports, h.pool, h.image, h.banks, h.engines, h.coh, h.mr⟩

/-- The invariant does not speak of the count. -/
theorem Inv.tick {s : State} (h : Inv s) : Inv (tick s) :=
  ⟨h.fns, h.fnOk, h.ports, h.pool, h.image, h.banks, h.engines, h.coh, h.mr⟩

theorem step_of_pending_nil {s : State} (h : s.pending = []) : step s = .next (tick s) := by rw [step, h]

theorem step_of_pending_cons {s : State} {c : Instr} {rest : List Instr} (h : s.pending = c :: rest) :
    step s = exec c { s with pending := rest } := by rw [step, h]

/-- Settles O1: a step runs the command at the front of the queue. -/
theorem stepRunsFrontCommand : Obligations.StepRunsFrontCommand := fun _ _ _ => step_of_pending_cons

/-- Settles O2: with no command waiting, the clock ticks. -/
theorem idleStepTicks : Obligations.IdleStepTicks := by
  intro s h
  rw [step_of_pending_nil h, tick]
  simp only [beq_iff_eq]

/-- Settles O3: the functions after reset hold their defaults, and every list has its length. -/
theorem resetInv : Obligations.ResetInv :=
  { fns := rfl
    fnOk := by
      intro f hf
      obtain ⟨g, -, rfl⟩ := List.mem_map.1 hf
      exact FnOk.init _ _
    ports := rfl
    pool := rfl
    image := rfl
    banks := rfl
    engines := rfl
    coh := rfl
    mr := rfl }

/-- Settles O4: the state after reset is written out field by field, and its functions are those of `FnSt.init`. -/
theorem resetValues : Obligations.ResetValues := by
  refine ⟨rfl, rfl, rfl, rfl, rfl, rfl, rfl, rfl, rfl, rfl, rfl, rfl, rfl, rfl, ?_, fun _ => rfl⟩
  intro f hf
  obtain ⟨g, -, rfl⟩ := List.mem_map.1 hf
  exact ⟨rfl, rfl, rfl, rfl, rfl⟩

/-- Settles O7: the frame of every command. -/
theorem everyCommandFrame : Obligations.EveryCommandFrame := exec_frame

/-- Settles O6: every command is taken to its end. -/
theorem everyCommandCompletes : Obligations.EveryCommandCompletes := by
  intro c s
  obtain ⟨t, hexec, hok⟩ := exec_ok c s
  exact ⟨t, hexec, hok.variant, hok.pending, hok.out, hok.draws, hok.inv⟩

/-- Settles O5: a tick and every command keep the invariant. -/
theorem stepKeepsInv : Obligations.StepKeepsInv := by
  intro s t hstep hinv
  cases hpending : s.pending with
  | nil =>
    rw [step_of_pending_nil hpending] at hstep
    cases hstep
    exact hinv.tick
  | cons c rest =>
    rw [step_of_pending_cons hpending] at hstep
    obtain ⟨u, hexec, hok⟩ := exec_ok c { s with pending := rest }
    rw [hexec] at hstep
    cases hstep
    exact hok.inv (hinv.setPending rest)

end Sys2Proof.Machine
end

section
/-!
SUPPORT and CLAIMS. Plain stores of the state: the bytes of the pool (09, R286; O8), counters (12, R390, R391; O11), and
the latches of a source that fires (11, R355, R356, R366, R367; O12).
-/
namespace Sys2Proof.Machine

/-! ### The bytes of the pool -/

theorem memRead_getD {m : Mem} {a n i : Nat} (hi : i < n) : (memRead m a n).getD i 0 = memGet m (a + i) := by
  simp [memRead, List.getD_eq_getElem?_getD, hi]

/-- A byte that a write covers reads as written. -/
theorem memGet_memWrite_inside {m : Mem} (hm : Memory.wf m = true) {a i : Nat} {bs : Bytes} (hi : i < bs.length) :
    memGet (memWrite m a bs) (a + i) = bs.getD i 0 := by
  rw [← memRead_getD hi, memRead_memWrite hm]

/-- Dropping listed bytes makes them read 0 and leaves the others. -/
theorem memGet_filter {m : Mem} (hm : Memory.wf m = true) (p : Host.Cell → Bool) (x : Nat) (b : Bool)
    (hp : ∀ v, p (x, v) = b) : memGet (m.filter p) x = if b then memGet m x else 0 := by
  induction m with
  | nil => simp [memGet]
  | cons d m ih =>
    obtain ⟨y, w⟩ := d
    have ih := ih (wf_tail hm)
    by_cases hxy : x = y
    · subst hxy
      have habove : memGet m x = 0 := memGet_below (wf_above hm)
      rw [List.filter_cons, hp]
      cases b with
      | true => simp [memGet]
      | false => simpa [habove] using ih
    · rw [List.filter_cons]
      split <;> simp [memGet, hxy, ih]

theorem memGet_memZero_inside {m : Mem} (hm : Memory.wf m = true) {a n x : Nat} (h : a ≤ x ∧ x < a + n) :
    memGet (memZero m a n) x = 0 := by
  rw [memZero, memGet_filter hm _ x false (by simp [h])]
  rfl

theorem memGet_memZero_outside {m : Mem} (hm : Memory.wf m = true) {a n x : Nat} (h : x < a ∨ a + n ≤ x) :
    memGet (memZero m a n) x = memGet m x := by
  rw [memZero, memGet_filter hm _ x true (by simp; omega)]
  rfl

/-- The first listed byte of a memory reads as listed, and is not 0. -/
theorem memGet_head {a : Nat} {v : U8} {m : Mem} (hm : Memory.wf ((a, v) :: m) = true) :
    memGet ((a, v) :: m) a = v ∧ v ≠ 0 := ⟨by simp [memGet], wf_head hm⟩

/-- The tail of a memory reads as the memory does, but 0 at the head's address. -/
theorem memGet_tail {a : Nat} {v : U8} {m : Mem} (hm : Memory.wf ((a, v) :: m) = true) (x : Nat) :
    memGet m x = if x = a then 0 else memGet ((a, v) :: m) x := by
  by_cases hx : x = a
  · rw [if_pos hx, hx]; exact memGet_below (wf_above hm)
  · simp [memGet, hx]

/-- Memories in canonical form that read alike list their first byte at one address: an earlier one would read 0 in
the other. -/
theorem memory_head_le {a b : Nat} {v w : U8} {m n : Mem} (hm : Memory.wf ((a, v) :: m) = true)
    (hn : Memory.wf ((b, w) :: n) = true) (h : ∀ x, memGet ((a, v) :: m) x = memGet ((b, w) :: n) x) : b ≤ a := by
  refine Decidable.byContradiction fun hlt => ?_
  obtain ⟨hread, hne⟩ := memGet_head hm
  refine hne (hread ▸ (h a).trans (memGet_below fun c hc => ?_))
  rcases List.mem_cons.1 hc with rfl | hc
  · omega
  · have := wf_above hn c hc; omega

/-- The canonical form is one for what it reads. -/
theorem memory_ext {m n : Mem} (hm : Memory.wf m = true) (hn : Memory.wf n = true)
    (h : ∀ a, memGet m a = memGet n a) : m = n := by
  induction m generalizing n with
  | nil =>
    cases n with
    | nil => rfl
    | cons d n => exact absurd ((memGet_head hn).1.symm.trans (h d.1).symm) (memGet_head hn).2
  | cons d m ih =>
    cases n with
    | nil => exact absurd ((memGet_head hm).1.symm.trans (h d.1)) (memGet_head hm).2
    | cons e n =>
      obtain ⟨a, v⟩ := d
      obtain ⟨b, w⟩ := e
      obtain rfl : a = b := Nat.le_antisymm (memory_head_le hn hm fun x => (h x).symm) (memory_head_le hm hn h)
      obtain rfl : v = w := (memGet_head hm).1.symm.trans ((h a).trans (memGet_head hn).1)
      rw [ih (wf_tail hm) (wf_tail hn) fun x => by rw [memGet_tail hm, memGet_tail hn, h]]

/-- Settles O8: what a write and a cleared span leave at each address, and the canonical form read off its bytes. -/
theorem poolBytes_holds : Obligations.PoolBytes := by
  intro m hm
  refine ⟨fun a b => ⟨memWrite_wf b hm a, fun i => memGet_memWrite_inside hm, fun x => memGet_memWrite_outside hm⟩,
    fun a n => ⟨memZero_wf hm a n, fun x hlo hhi => memGet_memZero_inside hm ⟨hlo, hhi⟩,
      fun x => memGet_memZero_outside hm⟩, fun n hn => memory_ext hm hn⟩

/-! ### Counters -/

theorem assocGet_assocPut_other {β : Type} (l : List (Nat × β)) {k j : Nat} (h : j ≠ k) (v : β) :
    assocGet (assocPut l k v) j = assocGet l j := by
  induction l with
  | nil => simp [assocPut, assocGet, Ne.symm h]
  | cons e l ih =>
    obtain ⟨a, w⟩ := e
    simp only [assocGet] at ih
    rw [assocPut]
    split
    · simp [assocGet, Ne.symm h]
    · split
      · rename_i heq
        simp [assocGet, Ne.symm h, ← heq]
      · simp only [assocGet, List.find?_cons]
        split
        · rfl
        · exact ih

theorem countUp_saturates {n : Nat} (h : n + 1 = 2 ^ 63 - 1) : countUp 64 n = (2 ^ 64 - 1, true) := by
  rw [countUp, if_neg (by omega), if_pos (by omega)]

theorem countUp_stuck {n : Nat} (h : 2 ^ 63 ≤ n) : countUp 64 n = (n, false) := by
  rw [countUp, if_pos (by omega)]

theorem countUp_below {n : Nat} (h : n + 1 < 2 ^ 63 - 1) : countUp 64 n = (n + 1, false) := by
  rw [countUp, if_neg (by omega), if_neg (by omega)]

theorem count_counters_other {s : State} {index sub k : Nat} (h : k ≠ index * 256 + sub) :
    assocGet (count index sub s).counters k = assocGet s.counters k := by
  rw [count_counters, assocGet_assocPut_other _ h]

theorem count_counters_same {s : State} {index sub : Nat} :
    (assocGet (count index sub s).counters (index * 256 + sub)).getD 0 =
      w64 (countUp 64 ((assocGet s.counters (index * 256 + sub)).getD 0).toNat).1 := by
  rw [count_counters, assocGet_assocPut, Option.getD_some]

/-- A count that does not saturate leaves every function as it was. -/
theorem count_fns {s : State} {index sub : Nat}
    (h : (countUp 64 ((assocGet s.counters (index * 256 + sub)).getD 0).toNat).2 = false) :
    (count index sub s).fns = s.fns := by
  rw [count_eq]
  dsimp only
  rw [if_neg (by rw [h]; decide)]

/-- A count leaves every function but the one that hears of its saturation. -/
theorem count_otherFns {s : State} {index sub : Nat} : OtherFns (counterFn index) s (count index sub s) := by
  intro g hg
  dsimp only [count_eq]
  split
  · exact getFn_modInt_other hg _
  · rfl

/-- Settles O11: the three ranges of a counter's value (R390, R391). -/
theorem countersSaturate : Obligations.CountersSaturate := by
  intro s index sub hinv n t g
  have hval : (assocGet t.counters (index * 256 + sub)).getD 0 = w64 (countUp 64 n.toNat).1 := count_counters_same
  refine ⟨fun k => count_counters_other, count_otherFns, fun hlt => ?below, fun heq => ?saturates, fun hmax => ?stuck⟩
  case below =>
    have hcount : countUp 64 n.toNat = (n.toNat + 1, false) := countUp_below hlt
    refine ⟨by rw [hval, hcount]; simp [w64, BitVec.ofNat_add], count_fns (by rw [hcount])⟩
  case saturates =>
    have hcount : countUp 64 n.toNat = (2 ^ 64 - 1, true) := countUp_saturates heq
    have ht : t = saturated g none (index * 256 + sub)
        { s with counters := assocPut s.counters (index * 256 + sub) (w64 (countUp 64 n.toNat).1) } := by
      simp only [t, count_eq]
      rw [if_pos (show (countUp 64 n.toNat).2 = true by rw [hcount])]
    refine ⟨by rw [hval, hcount]; rfl, ⟨0, 4, 0, none, w64 (index * 256 + sub), 0, s.gtc⟩, ?_, rfl, rfl, rfl, rfl⟩
    rw [ht, saturated]
    exact formEvent_formed hinv.fns
  case stuck =>
    have hcount : countUp 64 n.toNat = (n.toNat, false) := countUp_stuck (by rw [hmax]; decide)
    exact ⟨by rw [hval, hcount]; simp [w64], count_fns (by rw [hcount])⟩

end Sys2Proof.Machine
end

section
/-!
SUPPORT and CLAIM. The latches of a source that fires (11_events_interrupts, R355, R356, R366, R367): updates that form
event records and change nothing else of a function, the wake table, the weir, and the obligation O12.
-/
namespace Sys2Proof.Machine

section Forms
variable {s t u : State}

/-! ### Updates that only form event records -/

/-- Every function is as it was, but for event records that have been formed. -/
def OnlyForms (s t : State) : Prop := ∀ g : Fun, ∃ es, getFn t g =
  { getFn s g with int := { (getFn s g).int with formed := (getFn s g).int.formed ++ es } }

theorem OnlyForms.of_fns (h : t.fns = s.fns) : OnlyForms s t := fun g => ⟨[], by simp [getFn, h]⟩

theorem OnlyForms.refl (s : State) : OnlyForms s s := OnlyForms.of_fns rfl

theorem OnlyForms.trans (h : OnlyForms s t) (k : OnlyForms t u) : OnlyForms s u := by
  intro g
  obtain ⟨es, hes⟩ := h g
  obtain ⟨fs, hfs⟩ := k g
  exact ⟨es ++ fs, by rw [hfs, hes]; simp⟩

/-- An update of one function leaves it updated or, beyond the functions that there are, as it was. -/
theorem getFn_modFn_cases (g k : Fun) (f : FnSt → FnSt) :
    getFn (modFn g f s) k = f (getFn s k) ∨ getFn (modFn g f s) k = getFn s k := by
  by_cases hk : k = g
  · subst hk
    by_cases hlen : k.val < s.fns.length
    · left; simp [getFn, modFn, List.getD_eq_getElem?_getD, hlen]
    · right; simp [getFn, modFn, List.getD_eq_getElem?_getD, hlen]
  · exact .inr (getFn_modFn_other hk f)

theorem formEvent_onlyForms {g : Fun} {ring kind info : Nat} {c : Option CtxId} {d0 d1 : U64} :
    OnlyForms s (formEvent g ring kind info c d0 d1 s) := by
  intro k
  rcases getFn_modFn_cases (s := s) g k _ with h | h
  · exact ⟨_, h⟩
  · exact ⟨[], by rw [formEvent, modInt, h]; simp⟩

theorem saturated_onlyForms {g : Fun} {c : Option CtxId} {n : Nat} : OnlyForms s (saturated g c n s) :=
  formEvent_onlyForms

theorem count_onlyForms {index sub : Nat} : OnlyForms s (count index sub s) := by
  rw [count_eq]
  dsimp only
  split
  · exact (OnlyForms.of_fns rfl).trans saturated_onlyForms
  · exact OnlyForms.of_fns rfl

theorem foldState_onlyForms {α : Type} {f : α → State → State} (hf : ∀ a s, OnlyForms s (f a s)) (l : List α) :
    OnlyForms s (foldState f l s) := by
  induction l generalizing s with
  | nil => exact OnlyForms.refl s
  | cons a l ih => exact (hf a s).trans ih

theorem foldState_onlyForms_of_fns {α : Type} {f : α → State → State} (hf : ∀ a s, (f a s).fns = s.fns) (l : List α) :
    OnlyForms s (foldState f l s) := foldState_onlyForms (fun a s => OnlyForms.of_fns (hf a s)) l

theorem sendIntx_onlyForms {p : Port} : OnlyForms s (sendIntx p s) := by
  rw [sendIntx]
  split
  · exact (foldState_onlyForms_of_fns (fun a s => by
      split
      · rfl
      · split <;> rfl) _).trans (OnlyForms.of_fns rfl)
  · exact OnlyForms.refl s

theorem settleIntx_onlyForms {before : State} {p : Port} : OnlyForms s (settleIntx before p s) :=
  (foldState_onlyForms (fun g s => by
    split
    · exact count_onlyForms
    · exact OnlyForms.refl s) _).trans sendIntx_onlyForms

/-! ### The wake table -/

theorem assertWake_fns {g : Fun} {k : Nat} : (assertWake g k s).fns = s.fns := by
  unfold assertWake
  dsimp only
  split
  · rfl
  · split <;> rfl

theorem assertWake_power {g : Fun} {k : Nat} : (assertWake g k s).power = s.power := by
  unfold assertWake
  dsimp only
  split
  · rfl
  · split <;> rfl

theorem entryWake_fns {code : Nat} : (entryWake code s).fns = s.fns := by
  unfold entryWake
  dsimp only
  split
  · exact assertWake_fns
  · rfl

theorem entryWake_power {code : Nat} : (entryWake code s).power = s.power := by
  unfold entryWake
  dsimp only
  split
  · exact assertWake_power
  · rfl

theorem startWake_onlyForms {code : Nat} : OnlyForms s (startWake code s) :=
  (OnlyForms.of_fns (by rw [entryWake_fns]; rfl)).trans count_onlyForms

@[simp] theorem count_power {index sub : Nat} : (count index sub s).power = s.power := by
  dsimp only [count_eq]; split <;> rfl

theorem startWake_power {code : Nat} : (startWake code s).power =
    { s.power with phase := .waking, wakeLate := none, wakeCause := causeWord code s.gtc } := by
  rw [startWake, countPackage, count_power, entryWake_power]
  rfl

theorem askWake_onlyForms {code : Nat} : OnlyForms s (askWake code s) := by
  unfold askWake
  split
  · exact startWake_onlyForms
  · exact OnlyForms.of_fns rfl
  · exact OnlyForms.refl s

theorem askWake_slept {code : Nat} : (askWake code s).power.slept = s.power.slept := by
  unfold askWake
  split
  · rw [startWake_power]
  · rfl
  · rfl

theorem wakeFires_onlyForms {w : WakeInput} : OnlyForms s (wakeFires w s) := by
  have hlater : (latchLater w s).fns = s.fns := by cases w <;> rfl
  have hassert (v : WakeInput) (t : State) (ht : t.fns = s.fns) : (match v with
      | .source g k => assertWake g k t
      | .input _ => t).fns = s.fns := by
    cases v with
    | source g k => exact assertWake_fns.trans ht
    | input n => exact ht
  unfold wakeFires
  split
  · cases w with
    | source g k =>
      dsimp only
      split
      · exact OnlyForms.of_fns assertWake_fns
      · exact OnlyForms.refl s
    | input n => exact OnlyForms.refl s
  · dsimp only
    split
    · exact OnlyForms.of_fns hlater
    · exact (OnlyForms.of_fns (hassert w _ hlater)).trans askWake_onlyForms

/-- A source that fires in package sleep is kept for the end of the wake (R366). -/
theorem wakeFires_slept {g : Fun} {k : Nat} (h : s.power.phase ≠ .awake) :
    (wakeFires (.source g k) s).power.slept = s.power.slept ++ [(g, k)] := by
  rw [wakeFires, if_neg h]
  dsimp only
  split
  · rfl
  · rw [askWake_slept, assertWake_power]
    rfl

/-! ### The weir and the latch -/

/-- What a weir may change of a function: its own state, PME Status, and the records that are formed meanwhile (R357; 02,
R55 to R57). -/
def WeirRan (x y : FnSt) : Prop := ∃ w n pme es, y =
  { x with
    cfg := { x.cfg with pmeStatus := pme }
    int := { x.int with weir := w, weirGtc := n, formed := x.int.formed ++ es } }

theorem WeirRan.refl (x : FnSt) : WeirRan x x := ⟨x.int.weir, x.int.weirGtc, x.cfg.pmeStatus, [], by simp⟩

theorem WeirRan.trans {x y z : FnSt} (h : WeirRan x y) (k : WeirRan y z) : WeirRan x z := by
  obtain ⟨w, n, pme, es, rfl⟩ := h
  obtain ⟨w', n', pme', fs, rfl⟩ := k
  exact ⟨w', n', pme', es ++ fs, by simp⟩

theorem OnlyForms.weirRan (h : OnlyForms s t) (g : Fun) : WeirRan (getFn s g) (getFn t g) := by
  obtain ⟨es, hes⟩ := h g
  exact ⟨_, _, _, es, hes⟩

theorem modFn_weirRan {g k : Fun} {f : FnSt → FnSt} (hf : ∀ x, WeirRan x (f x)) :
    WeirRan (getFn s k) (getFn (modFn g f s) k) := by
  rcases getFn_modFn_cases (s := s) g k f with h | h <;> rw [h]
  · exact hf _
  · exact WeirRan.refl _

theorem runWeir_weirRan {g k : Fun} {before : State} : WeirRan (getFn s k) (getFn (runWeir g before s) k) := by
  unfold runWeir
  split
  · exact WeirRan.refl _
  · extract_lets w was s1 f s2
    have hint : WeirRan (getFn s k) (getFn s1 k) :=
      modFn_weirRan fun x => ⟨w, if was == .idle && w != .idle then s.gtc else x.int.weirGtc, x.cfg.pmeStatus, [], by simp⟩
    have hpme : WeirRan (getFn s1 k) (getFn s2 k) := by
      unfold s2
      split
      · exact modFn_weirRan (s := s1) fun x => ⟨x.int.weir, x.int.weirGtc, true, [], by simp⟩
      · exact WeirRan.refl _
    exact (hint.trans hpme).trans (settleIntx_onlyForms.weirRan k)

/-- The registers of a function's interrupts that no weir and no formed record changes. -/
theorem WeirRan.int {x y : FnSt} (h : WeirRan x y) : y.int.rings = x.int.rings ∧ y.int.latches = x.int.latches ∧
    y.int.masks = x.int.masks ∧ y.int.loss = x.int.loss := by
  obtain ⟨w, n, pme, es, rfl⟩ := h
  exact ⟨rfl, rfl, rfl, rfl⟩

/-- A source whose latch is clear sets it (R355). -/
theorem setLatch_clear (hfns : s.fns.length = 32) {g : Fun} {k : Nat} (h : (getFn s g).int.latches.getLsbD k = false) :
    let x := (getFn s g).int
    let y := (getFn (setLatch g k s) g).int
    y.rings = x.rings ∧ y.latches = x.latches ||| (1 : BitVec 320) <<< k ∧ y.masks = x.masks ∧ y.loss = x.loss := by
  have hran := (runWeir_weirRan (g := g) (k := g) (before := s) (s := modInt g (fun x => { x with
    latches := x.latches ||| (1 : BitVec 320) <<< k }) s)).int
  rw [getFn_modInt hfns] at hran
  unfold setLatch
  simp only [h, Bool.false_eq_true, if_false]
  exact hran

theorem countUp32_below {n : Nat} (h : n + 1 < 2 ^ 31 - 1) : countUp 32 n = (n + 1, false) := by
  rw [countUp, if_neg (by omega), if_neg (by omega)]

/-- A source whose latch is set is lost and counted (R356). -/
theorem setLatch_set (hfns : s.fns.length = 32) {g : Fun} {k : Nat} (h : (getFn s g).int.latches.getLsbD k = true) :
    let x := (getFn s g).int
    let y := (getFn (setLatch g k s) g).int
    y.rings = x.rings ∧ y.latches = x.latches ∧ y.masks = x.masks ∧ y.weir = x.weir ∧
      y.loss = assocPut x.loss k (BitVec.ofNat 32 (countUp 32 ((assocGet x.loss k).getD 0).toNat).1) := by
  have hmod (n : Nat) (t : State) (ht : OnlyForms (modInt g (fun x => { x with
      loss := assocPut x.loss k (BitVec.ofNat 32 n) }) s) t) :
      ∃ es, (getFn t g).int = { (getFn s g).int with
        loss := assocPut (getFn s g).int.loss k (BitVec.ofNat 32 n), formed := (getFn s g).int.formed ++ es } := by
    obtain ⟨es, hes⟩ := ht g
    exact ⟨es, by rw [hes, getFn_modInt hfns]⟩
  unfold setLatch
  simp only [h, if_true]
  split
  · obtain ⟨es, hes⟩ := hmod _ _ saturated_onlyForms
    rw [hes]
    exact ⟨rfl, rfl, rfl, rfl, rfl⟩
  · obtain ⟨es, hes⟩ := hmod _ _ (OnlyForms.refl _)
    rw [hes]
    exact ⟨rfl, rfl, rfl, rfl, rfl⟩

/-- The latch word of one source. -/
theorem getLsbD_one_shiftLeft {n i k : Nat} (hi : i < n) : ((1 : BitVec n) <<< k).getLsbD i = decide (i = k) := by
  by_cases hlt : i < k
  · simp [hi, hlt, Nat.ne_of_lt hlt]
  · rcases Nat.eq_or_lt_of_le (Nat.le_of_not_lt hlt) with rfl | hgt
    · simp [hi]
    · simp [hi, hlt, Nat.ne_of_gt hgt, Nat.sub_ne_zero_of_lt hgt]

end Forms

/-- Settles O12: what the wake table leaves of a function, and then the latch or, in package sleep, the list of firings
that wait for the wake. -/
theorem sourcesLatch : Obligations.SourcesLatch := by
  intro s g k hinv hk x y
  obtain ⟨es, hes⟩ := wakeFires_onlyForms (s := s) (w := .source g k) g
  have hfns : (wakeFires (.source g k) s).fns.length = 32 := ((wakeFires_ok (Ok.refl s)).inv hinv).fns
  have hx : (getFn (wakeFires (.source g k) s) g).int = { x with formed := x.formed ++ es } := by rw [hes]
  by_cases hphase : s.power.phase = .awake
  · have hfire : fire g k s = setLatch g k (wakeFires (.source g k) s) := by rw [fire]; exact if_pos hphase
    cases hlatch : x.latches.getLsbD k with
    | false =>
      obtain ⟨hrings, hlatches, hmasks, hloss⟩ := setLatch_clear hfns (g := g) (k := k) (by rw [hx]; exact hlatch)
      rw [← hfire, hx] at hrings hlatches hmasks hloss
      refine ⟨hmasks, hrings, fun _ => ⟨fun _ => ⟨hloss, fun i hi => ?_⟩, by simp⟩, fun h => absurd hphase h⟩
      rw [show y.latches = _ from hlatches]
      rw [BitVec.getLsbD_or, getLsbD_one_shiftLeft hi]
    | true =>
      obtain ⟨hrings, hlatches, hmasks, hweir, hloss⟩ := setLatch_set hfns (g := g) (k := k) (by rw [hx]; exact hlatch)
      rw [← hfire, hx] at hrings hlatches hmasks hweir hloss
      refine ⟨hmasks, hrings, fun _ => ⟨by simp, fun _ => ⟨hlatches, hweir, fun hlt => ?_⟩⟩, fun h => absurd hphase h⟩
      rw [show y.loss = _ from hloss, assocGet_assocPut, countUp32_below hlt]
      simp [BitVec.ofNat_add]
  · have hfire : fire g k s = wakeFires (.source g k) s := by rw [fire]; exact if_neg hphase
    have hy : y = { x with formed := x.formed ++ es } := by rw [← hx, ← hfire]
    refine ⟨by rw [hy], by rw [hy], fun h => absurd h hphase, fun _ => ⟨by rw [hy], by rw [hy], by rw [hy], ?_⟩⟩
    rw [hfire, wakeFires_slept hphase]

end Sys2Proof.Machine
end

section
/-!
SUPPORT and CLAIMS. Writes of one object (03, R84, R86, R96; 12, R387): what `requestWrite` does in the fatal state and
with a write that passes its checks, and the obligations O9 and O10.
-/
namespace Sys2Proof.Machine

section Writes
variable {s : State} {rq : Requester} {ref : Ref} {v : Val} {refuse : State → Option EStatus} {act : State → State}

/-- In the fatal state every write is BUSY (R387). -/
theorem requestWrite_fatal (h : s.err.pkg = .fatal) :
    requestWrite rq ref v refuse act s = emit (.objectStatus rq ref .busy) s := by
  have hstatus (b : Bytes) : writeStatus s rq ref b = .busy := by simp [writeStatus, h]
  simp only [requestWrite, hstatus]

/-- A write that passes its checks and that nothing refuses is answered OK and takes effect. -/
theorem requestWrite_accepted (h : accepts s rq ref v) (hr : refuse s = none) :
    requestWrite rq ref v refuse act s = act (emit (.objectStatus rq ref .ok) s) := by
  rw [accepts] at h
  simp only [requestWrite]
  split
  · rw [hr]
  · rename_i hne; exact absurd h hne

/-- A write that passes its checks and that its own chapter refuses changes nothing. -/
theorem requestWrite_refused {e : EStatus} (h : accepts s rq ref v) (hr : refuse s = some e) :
    requestWrite rq ref v refuse act s = emit (.objectStatus rq ref e) s := by
  rw [accepts] at h
  simp only [requestWrite]
  split
  · rw [hr]
  · rename_i hne; exact absurd h hne

/-- A write that passes every check is outside the fatal state, and its row exists and gives the right (R96). -/
theorem rightStatus_of_writeStatus {b : Bytes} (h : writeStatus s rq ref b = .ok) :
    s.err.pkg ≠ .fatal ∧ ∃ r, rowOf ref = some r ∧ rightStatus s rq r ref = .ok := by
  unfold writeStatus at h
  split at h
  · cases h
  · rename_i hfatal
    refine ⟨by simpa using hfatal, ?_⟩
    split at h
    · cases h
    · rename_i r hrow
      refine ⟨r, hrow, ?_⟩
      split at h
      · assumption
      · rename_i hne; exact absurd h hne

theorem sees_of_rightStatus {r : ObjRow} (h : rightStatus s rq r ref = .ok) : sees rq r ref = true := by
  unfold rightStatus at h
  split at h
  · cases h
  · rename_i hsees; simpa using hsees

/-- A tenant sees only the objects of its own function (R86). -/
theorem scope_of_tenant_sees {g : Fun} {r : ObjRow} (hg : fnOf g ≠ 0) (h : sees (.mbx g) r ref = true) :
    ∃ base, r.scope = .fn base ∧ ref.index - base = g.val := by
  simp only [sees, hg, if_false] at h
  split at h
  · rename_i base hscope
    exact ⟨base, hscope, by simpa using h⟩
  · cases h

end Writes

/-- Settles O9: a write that passes every check passes that of visibility. -/
theorem tenantWrites : Obligations.TenantWrites := by
  intro s g ref b hg h
  obtain ⟨-, r, hrow, hright⟩ := rightStatus_of_writeStatus h
  obtain ⟨base, hscope, hindex⟩ := scope_of_tenant_sees hg (sees_of_rightStatus hright)
  exact ⟨r, base, hrow, hscope, hindex⟩

/-- A command whose meaning is one write of an object is BUSY in the fatal state. -/
theorem busy_of_requestWrite {s : State} {c : Instr} {rq : Requester} {ref : Ref} {v : Val}
    {refuse : State → Option EStatus} {act : State → State} (h : s.err.pkg = .fatal)
    (hc : exec c s = .next (requestWrite rq ref v refuse act s)) :
    exec c s = .next (emit (.objectStatus rq ref .busy) s) := by rw [hc, requestWrite_fatal h]

/-- Settles O10: each of the commands is one `requestWrite`. -/
theorem fatalRefusesWrites : Obligations.FatalRefusesWrites := by
  intro s rq h busy
  have hbusy {c : Instr} {ref : Ref} {v : Val} {refuse : State → Option EStatus} {act : State → State}
      (hc : exec c s = .next (requestWrite rq ref v refuse act s)) : busy c ref := busy_of_requestWrite h hc
  have hsteps : ∀ c ∈ [Instr.power rq, .train rq, .qualify rq, .loadFirmware rq, .broadcast rq, .test rq,
      .publishMap rq, .declareReady rq], busy c ⟨0xC000, 2⟩ := by
    simp only [List.forall_mem_cons]
    exact ⟨hbusy rfl, hbusy rfl, hbusy rfl, hbusy rfl, hbusy rfl, hbusy rfl, hbusy rfl, hbusy rfl,
      fun _ hc => absurd hc List.not_mem_nil⟩
  exact ⟨hbusy rfl, hbusy rfl, hbusy rfl, fun _ _ => hbusy rfl, fun _ _ => hbusy rfl, fun _ => hbusy rfl,
    fun _ _ n => by cases n <;> exact hbusy rfl, fun _ _ => hbusy rfl,
    fun _ _ => ⟨hbusy rfl, hbusy rfl, hbusy rfl, hbusy rfl⟩, fun _ _ => hbusy rfl,
    fun _ => ⟨hbusy rfl, hbusy rfl⟩, fun _ _ => ⟨hbusy rfl, hbusy rfl⟩, hbusy rfl, hbusy rfl, hbusy rfl, hbusy rfl,
    hbusy rfl, fun _ => hbusy rfl, fun _ => hbusy rfl, fun _ => hbusy rfl, fun _ => hbusy rfl, fun _ => hbusy rfl,
    fun _ => hbusy rfl, fun _ => hbusy rfl, hbusy rfl, hsteps, fun _ => hbusy rfl, hbusy rfl, fun _ => hbusy rfl,
    fun _ => hbusy rfl⟩

end Sys2Proof.Machine
end

section
/-!
SUPPORT and CLAIMS. The management network and the mailboxes (03_management_dictionary, R98 to R113): frames that are
sent or wait for an address, sessions, requests, and the obligations O22, O23, O24 and O26.
-/
namespace Sys2Proof.Machine

section Network
variable {s t : State}

/-- The frame of an outcome, read of the state that it answers. -/
theorem OutBut.sameBut {L : List StatePart} {s t : State} (h : OutBut L s (.next t)) : SameBut L s t := by
  obtain ⟨u, hu, hsame⟩ := h
  cases hu
  exact hsame

/-! ### Frames that leave -/

theorem sent_emit (m : Msg) : Sent (emit m s) m := .inl (by simp)

theorem Sent.mono {m : Msg} (h : Sent s m) (ho : t.out = s.out) (hu : t.mgmt.unsent = s.mgmt.unsent) : Sent t m := by
  simpa only [Sent, ho, hu] using h

/-- A frame leaves at once, to the address that answers for its next hop, or it waits for that address (R99). -/
theorem sent_sendNet (dst : NetAddr) (m : Msg) : Sent (sendNet dst m s) m := by
  unfold sendNet
  split
  · exact sent_emit m
  · split
    · exact .inr (.inl ⟨_, List.mem_cons_self⟩)
    · exact .inr (.inr ⟨_, List.mem_append_right _ List.mem_cons_self⟩)

@[simp] theorem sendNet_sessions {dst : NetAddr} {m : Msg} : (sendNet dst m s).mgmt.sessions = s.mgmt.sessions := by
  unfold sendNet
  split
  · rfl
  · split
    · rfl
    · dsimp only; split <;> rfl

theorem sendNet_of_nextHop {dst : NetAddr} {m : Msg} {hop : Bytes} {e : Bytes × U64} (hh : nextHop s dst.ip = some hop)
    (hn : (s.mgmt.neighbours.find? fun e => e.1 == hop) = some e) : sendNet dst m s = emit (towards e.2 m) s := by
  simp only [sendNet, hh, hn]

theorem netIn_of_extended {a : NetAddr} {n : Nat} (h : a.extended = true) : netIn s a n = false := by simp [netIn, h]

theorem netIn_of_long {a : NetAddr} {n : Nat} (h : 1500 < n) : netIn s a n = false := by
  simp [netIn, Nat.not_le_of_lt h]

/-! ### Neighbours (R99) -/

theorem learnNeighbour_eq (a : Bytes) (mac : U64) (s : State) : learnNeighbour a mac s =
    { s with
      mgmt := { s.mgmt with
        neighbours := (a, mac) :: s.mgmt.neighbours.filter fun e => e.1 != a
        unsent := s.mgmt.unsent.filter fun e => e.1 != a }
      out := ((s.mgmt.unsent.filter fun e => e.1 == a).map fun e => towards mac e.2).reverse ++ s.out } := by
  rw [learnNeighbour]
  exact foldState_emit (fun e : Bytes × Msg => towards mac e.2) _ _

theorem neighborAdvertisement_gives {src : NetAddr} {a : Bytes} {mac : U64} (h : netIn s src 72 = true) :
    Gives (.neighborAdvertisement src ⟨a, mac⟩) s fun t => (a, mac) ∈ t.mgmt.neighbours ∧
      (∀ e ∈ t.mgmt.unsent, e.1 ≠ a) ∧ (∀ m, (a, m) ∈ s.mgmt.unsent → towards mac m ∈ t.out) ∧
      SameBut [.mgmt, .out] s t := by
  have hexec : exec (.neighborAdvertisement src ⟨a, mac⟩) s = .next (learnNeighbour a mac s) := by
    rw [show exec (.neighborAdvertisement src ⟨a, mac⟩) s = execNeighborAdvertisement src ⟨a, mac⟩ s from rfl,
      execNeighborAdvertisement, if_pos h]
  refine ⟨_, hexec, ?_, ?_, ?_, OutBut.sameBut (hexec ▸ exec_frame _ s)⟩
  · rw [learnNeighbour_eq]
    exact List.mem_cons_self
  · rw [learnNeighbour_eq]
    intro e he
    simpa using (List.mem_filter.1 he).2
  · rw [learnNeighbour_eq]
    intro m hm
    refine List.mem_append_left _ (List.mem_reverse.2 (List.mem_map.2 ⟨(a, m), ?_, rfl⟩))
    exact List.mem_filter.2 ⟨hm, by simp⟩

theorem exec_echoRequest {src : NetAddr} {payload : Bytes} (h : netIn s src (48 + payload.length) = true) :
    exec (.echoRequest src payload) s = .next (sendNet src (.echoReply src payload) s) := by
  rw [show exec (.echoRequest src payload) s = execEchoRequest src payload s from rfl, execEchoRequest, if_pos h]

theorem exec_echoRequest_dropped {src : NetAddr} {payload : Bytes}
    (h : netIn s src (48 + payload.length) = false) : exec (.echoRequest src payload) s = .next s := by
  rw [show exec (.echoRequest src payload) s = execEchoRequest src payload s from rfl, execEchoRequest,
    if_neg (by rw [h]; decide)]

end Network

/-- Settles O26: the link, the neighbours and the echo, each by its one condition `netIn`. -/
theorem managementNetwork : Obligations.ManagementNetwork := by
  intro s
  refine ⟨fun up => rfl, fun src target hin hown => ?solicited, fun src a mac hin => neighborAdvertisement_gives hin,
    fun src payload hin => ⟨?echo, fun hop mac hhop hmac => ?resolved⟩, fun src hext => ⟨fun target => ?_,
      fun a mac => ?_, fun payload => exec_echoRequest_dropped (netIn_of_extended hext)⟩,
    fun src payload hlong => exec_echoRequest_dropped (netIn_of_long hlong)⟩
  case solicited =>
    rw [show exec (.neighborSolicitation src target) s = execNeighborSolicitation src target s from rfl,
      execNeighborSolicitation, if_pos (by rw [hin, hown]; rfl)]
  case echo =>
    exact ⟨_, exec_echoRequest hin, sent_sendNet _ _, OutBut.sameBut (exec_echoRequest hin ▸ exec_frame _ s)⟩
  case resolved => rw [exec_echoRequest hin, sendNet_of_nextHop hhop hmac]; rfl
  · rw [show exec (.neighborSolicitation src target) s = execNeighborSolicitation src target s from rfl,
      execNeighborSolicitation, if_neg (by simp [netIn_of_extended hext])]
  · rw [show exec (.neighborAdvertisement src ⟨a, mac⟩) s = execNeighborAdvertisement src ⟨a, mac⟩ s from rfl,
      execNeighborAdvertisement, if_neg (by rw [netIn_of_extended hext]; decide)]

section Mailbox
variable {s : State} {g : Fun} {k : Nat}

/-- Go with an Op on an idle mailbox (R111, R112). -/
theorem mbxGo_idle (hopen : cfgOpen s g = true) (hidle : (getFn s g).mbx.busy = false) : mbxGo g k s =
    match mbxOp (getFn s g).mbx k with
    | some a => modMbx g (fun x => { x with busy := true, done := false, ctlOp := k, op := some a }) s
    | none => modMbx g (fun x => { x with
        done := true, ctlOp := k, status := .badOp, typeCode := 0, rdLength := 0 }) s := by
  rw [mbxGo, cfgWrite, if_pos hopen]
  simp only [hidle, Bool.false_eq_true, if_false] <;> rfl

theorem modMbx_otherFns (f : MbxSt → MbxSt) : OtherFns g s (modMbx g f s) := fun _ hk => getFn_modMbx_other hk f

theorem mbxGo_starts (hinv : Inv s) (hopen : cfgOpen s g = true) (hidle : (getFn s g).mbx.busy = false) {a : Access}
    (ha : mbxOp (getFn s g).mbx k = some a) :
    getFn (mbxGo g k s) g = { getFn s g with
      mbx := { (getFn s g).mbx with busy := true, done := false, ctlOp := k, op := some a } } ∧
    OtherFns g s (mbxGo g k s) ∧ SameBut [.mbx] s (mbxGo g k s) := by
  rw [mbxGo_idle hopen hidle, ha]
  exact ⟨getFn_modMbx hinv.fns g _, modMbx_otherFns _, modMbx_frame (fun _ h => h) (SameBut.refl _ s)⟩

theorem mbxOp_undefined {m : MbxSt} (h : 5 ≤ k) : mbxOp m k = none := by
  match k, h with
  | n + 5, _ => rfl

end Mailbox

/-- Settles O24: `mbxGo` on an idle mailbox, for the access that each operation builds and for an Op without one. -/
theorem mailboxRequests : Obligations.MailboxRequests := by
  intro s g hinv hopen hidle m starts
  have hgo {k : Nat} {a : Access} (ha : mbxOp m k = some a) : starts k a (mbxGo g k s) :=
    mbxGo_starts hinv hopen hidle ha
  refine ⟨⟨_, rfl, hgo rfl⟩, ⟨_, rfl, hgo rfl⟩, ⟨_, rfl, hgo rfl⟩, ⟨_, rfl, hgo rfl⟩, ⟨_, rfl, hgo rfl⟩,
    fun op hlow hhigh => ⟨mbxGo g op s, ?_, ?_⟩⟩
  · rw [show exec (.mbxBadOp g op) s = execMbxBadOp g op s from rfl, execMbxBadOp, if_pos (by simp [hlow, hhigh])]
  · rw [mbxGo_idle hopen hidle, mbxOp_undefined hlow]
    exact ⟨getFn_modMbx hinv.fns g _, modMbx_otherFns _⟩

end Sys2Proof.Machine
end

section
/-!
SUPPORT and CLAIMS. Sessions and requests of the management network (03_management_dictionary, R101 to R110; 13, R404,
R407): the sequence of a request, the answers under a session's key, and the obligations O22 and O23.
-/
namespace Sys2Proof.Machine

/-- A command gives what the state that it answers has, in whatever form that state is written. -/
theorem Gives.of_eq {c : Instr} {s u t : State} {P : State → Prop} (he : exec c s = .next u) (hu : u = t) (hp : P t) :
    Gives c s P := ⟨u, he, hu ▸ hp⟩

/-- What the frame of a command says of the state that it answers. -/
theorem sameBut_of_exec {c : Instr} {s t : State} (h : exec c s = .next t) : SameBut (touches c) s t :=
  OutBut.sameBut (h ▸ exec_frame c s)

section Sessions
variable {s t : State} {src : NetAddr} {seq : U32} {b : Bytes} {h : HmpHdr} {x : Session}

@[simp] theorem modMgmt_mgmt {f : MgmtSt → MgmtSt} : (modMgmt f s).mgmt = f s.mgmt := rfl
@[simp] theorem modMgmt_out {f : MgmtSt → MgmtSt} : (modMgmt f s).out = s.out := rfl
@[simp] theorem modMgmt_gtc {f : MgmtSt → MgmtSt} : (modMgmt f s).gtc = s.gtc := rfl

theorem modMgmt_sameBut (f : MgmtSt → MgmtSt) : SameBut [.mgmt] s (modMgmt f s) :=
  modMgmt_frame (fun _ hp => hp) (SameBut.refl _ s)

/-! ### Sessions open and are proved (R104) -/

theorem openSession_opens (hb : b.length = 36) (hk : numAt b 0 1 < 8) (hl : slotLocked s (numAt b 0 1) = false)
    (hr : slotRole s (numAt b 0 1) ≠ .none) (hc : objBytes s (0x1110 + numAt b 0 1) 2 ≠ [])
    (hn : s.mgmt.sessions.length < 16) (he : s.sec.entropyFailed = false) :
    openSession src seq b s = answerFree src 1 .ok seq ((drawBytes 32 s).2 ++ leBytes 4 s.mgmt.nextSid.toNat)
      (modMgmt (fun m => { m with
        nextSid := sidAfter s.mgmt.nextSid
        sessions := m.sessions ++ [⟨s.mgmt.nextSid, false, Fin.ofNat 8 (numAt b 0 1), b.drop 4, (drawBytes 32 s).2,
          hmpSessionKey (objBytes s (0x1110 + numAt b 0 1) 2) (b.drop 4) (drawBytes 32 s).2 (numAt b 0 1), s.gtc, none,
          [], none⟩] }) (drawBytes 32 s).1) := by
  have hcred : (decide (8 ≤ numAt b 0 1) || slotRole s (numAt b 0 1) == .none ||
      (objBytes s (0x1110 + numAt b 0 1) 2).isEmpty) = false := by
    simp [Nat.not_le_of_lt hk, hr, List.isEmpty_eq_false_iff.2 hc]
  simp only [openSession, hb, ne_eq, not_true_eq_false, if_false, hl, hcred, Nat.not_le_of_lt hn, he, Bool.false_eq_true]
  rfl

@[simp] theorem answerFree_sessions {a : NetAddr} {opcode : Nat} {st : FStatus} {p : Bytes} :
    (answerFree a opcode st seq p s).mgmt.sessions = s.mgmt.sessions := sendNet_sessions

theorem sent_answerFree (a : NetAddr) (opcode : Nat) (st : FStatus) (p : Bytes) :
    Sent (answerFree a opcode st seq p s) (hmpResponse none a opcode st 0 seq s.gtc p) := sent_sendNet _ _

/-- A PROVE with the right HMAC in time, before the entropy source is asked for. -/
theorem prove_right {sid : U32} (hb : b.length = 52) (hsid : BitVec.ofNat 32 (numAt b 0 4) = sid)
    (hx : (s.mgmt.sessions.find? fun y => y.sid == sid && !y.opened) = some x)
    (ht : (s.gtc - x.since).toNat ≤ 12500000000) (hl : slotLocked s x.slot.val = false)
    (hmac_ok : b.drop 4 = hmac (objBytes s (0x1110 + x.slot.val) 2)
      (asciiBytes "HMP-PROVE" ++ x.nc ++ x.nd ++ leBytes 1 x.slot.val)) :
    prove src seq b s = if s.sec.entropyFailed then s
      else answerFree src 2 .ok seq (hmac (objBytes s (0x1110 + x.slot.val) 2)
          (asciiBytes "HMP-DEVICE" ++ x.nd ++ x.nc ++ leBytes 1 x.slot.val))
        (modMgmt (fun m => { m with sessions := m.sessions.map fun e =>
          if e.sid == sid then { e with opened := true, since := s.gtc } else e }) s) := by
  subst hsid
  simp only [prove, hb, ne_eq, not_true_eq_false, if_false, hx, since, Nat.not_lt_of_le ht, hl, hmac_ok, if_true,
    Bool.false_eq_true]

/-! ### Requests of an open session (R105, R106) -/

/-- A request whose Sequence is the highest yet is executed (R106). -/
theorem inSession_new {opcode n : Nat} {act : Session → State → State} (hin : hmpIn s h.src h.sid n = true)
    (hx : session33 s h.sid = some x) (hseq : x.high.all (fun n => n.toNat < h.seq.toNat) = true) :
    inSession h opcode n act s = act x (acceptSeq h opcode s) := by
  simp only [inSession, hin, hx, hseq, Bool.not_true, Bool.false_eq_true, if_false, if_true]

theorem inSession_dropped {opcode n : Nat} {act : Session → State → State} (hin : hmpIn s h.src h.sid n = false) :
    inSession h opcode n act s = s := by
  simp only [inSession, hin, Bool.not_false, if_true]

/-- Accepting a Sequence keeps the key of every session. -/
theorem sessionKey_acceptSeq {opcode : Nat} {sid : U32} : sessionKey (acceptSeq h opcode s) sid = sessionKey s sid := by
  rw [sessionKey, sessionKey, acceptSeq, modMgmt_mgmt]
  dsimp only
  rw [find_map (fun e => by split <;> rfl), Option.map_map]
  congr 1
  funext e
  dsimp only [Function.comp_apply]
  split <;> rfl

theorem sessionKey_of_session33 {sid : U32} (hx : session33 s sid = some x) : sessionKey s sid = some x.key := by
  rw [sessionKey, show (s.mgmt.sessions.find? fun y => y.sid == sid && y.opened) = some x from hx, Option.map_some]

theorem sent_respondIn (a : NetAddr) (opcode : Nat) (st : FStatus) (sid : U32) (p : Bytes) :
    Sent (respondIn a opcode st sid seq p s) (hmpResponse (sessionKey s sid) a opcode st sid seq s.gtc p) :=
  sent_sendNet _ _

theorem closeSession_gives (hin : hmpIn s h.src h.sid 0 = true) (hx : session33 s h.sid = some x)
    (hseq : x.high.all (fun n => n.toNat < h.seq.toNat) = true) :
    Gives (.hmpCloseSession h) s fun t => (∀ y ∈ t.mgmt.sessions, y.sid ≠ h.sid) ∧
      Sent t (hmpResponse (some x.key) h.src 3 .ok h.sid h.seq s.gtc []) := by
  refine Gives.of_eq rfl (inSession_new hin hx hseq) ⟨fun y hy => ?_, ?_⟩
  · simpa using (List.mem_filter.1 hy).2
  · have hsent := sent_respondIn (s := acceptSeq h 3 s) (seq := h.seq) h.src 3 .ok h.sid []
    rw [sessionKey_acceptSeq, sessionKey_of_session33 hx] at hsent
    exact hsent.mono rfl rfl

/-- A request that parses is appended to the engine's queue, and its session's idle time starts anew (R88, R105). -/
theorem queueAccess_ready {opcode : Nat} {a : Access} : let t := queueAccess h opcode (some a) x (acceptSeq h opcode s)
    t.mgmt.queue = s.mgmt.queue ++
        [⟨h.src, h.sid, h.seq, opcode, x.slot, slotRole s x.slot.val, x.key, h.cal, a⟩] ∧
      (∀ y ∈ t.mgmt.sessions, y.sid = h.sid → y.since = s.gtc ∧ y.high = some h.seq) ∧ SameBut [.mgmt] s t := by
  refine ⟨rfl, fun y hy hsid => ?_, (modMgmt_sameBut _).trans (modMgmt_sameBut _)⟩
  obtain ⟨e, -, rfl⟩ := List.mem_map.1 hy
  split at hsid
  · rename_i heq; simp [heq]
  · rename_i hne; simp [hsid] at hne

theorem request_gives {c : Instr} {opcode : Nat} {parsed : Option Access} {a : Access}
    (hc : exec c s = .next (inSession h opcode b.length (queueAccess h opcode parsed) s))
    (hin : hmpIn s h.src h.sid b.length = true) (hx : session33 s h.sid = some x)
    (hseq : x.high.all (fun n => n.toNat < h.seq.toNat) = true) (hp : parsed = some a) :
    Gives c s fun t => t.mgmt.queue = s.mgmt.queue ++
        [⟨h.src, h.sid, h.seq, opcode, x.slot, slotRole s x.slot.val, x.key, h.cal, a⟩] ∧
      (∀ y ∈ t.mgmt.sessions, y.sid = h.sid → y.since = s.gtc ∧ y.high = some h.seq) ∧ SameBut [.mgmt] s t := by
  subst hp
  exact Gives.of_eq hc (inSession_new hin hx hseq) queueAccess_ready

/-! ### Counts -/

@[simp] theorem count_mgmt {index sub : Nat} : (count index sub s).mgmt = s.mgmt := by
  dsimp only [count_eq]; split <;> rfl

@[simp] theorem count_out {index sub : Nat} : (count index sub s).out = s.out := by
  dsimp only [count_eq]; split <;> rfl

/-- A frame that is dropped is counted and does nothing else (R101). -/
theorem dropFrame_gives {sub : Nat} (hd : dropFrame src b s = count 0xD000 sub s) :
    Gives (.hmpFrameDropped ⟨src, b⟩) s fun t => Counted s t 0xD000 sub ∧ t.mgmt = s.mgmt ∧ t.out = s.out :=
  Gives.of_eq rfl hd ⟨counted_count s _ _, count_mgmt, count_out⟩

theorem dropFrame_eq (hin : netIn s src (48 + b.length) = true) (hp : src.toPort = s.mgmt.udpPort) :
    dropFrame src b s = if hmpBad b then count 0xD000 3 s else if hmpTagFails s b then count 0xD000 2 s else s := by
  simp only [dropFrame, hin, hp, Bool.not_true, ne_eq, not_true_eq_false, decide_false, Bool.or_self, Bool.false_eq_true,
    if_false, countPackage]

end Sessions

/-- Settles O22: sessions, clause by clause from what each opcode does once its checks have passed. -/
theorem managementSessions : Obligations.ManagementSessions := by
  intro s
  refine ⟨fun src seq b hin hb hk hl hr hc hn he => ?opens, fun src seq b x hin hb hx ht hl hmac_ok => ?proves,
    fun h x hin hx hseq => closeSession_gives hin hx hseq, fun src b hin hp => ⟨fun hbad => ?bad, fun hgood htag => ?tag⟩,
    fun sid => ⟨⟨_, rfl, fun y => ?pending, modMgmt_sameBut _⟩, ⟨_, rfl, fun y => ?idle, modMgmt_sameBut _⟩⟩,
    fun k => ⟨_, rfl, fun l => ?lock, modMgmt_sameBut _⟩⟩
  case opens =>
    intro nd
    refine Gives.of_eq rfl ((if_pos hin).trans (openSession_opens hb hk hl hr hc hn he)) ⟨?_, answerFree_sessions, ?_⟩
    · rw [((answerFree_frame (L := [.mgmt, .out]) (fun _ hp => hp) (SameBut.refl _ _)).2.2 .draws (by decide) :)]
      exact Nat.lt_succ_self s.draws
    · exact sent_answerFree _ _ _ _
  case proves =>
    have hprove := prove_right (src := src) (seq := seq) hb rfl hx ht hl hmac_ok
    refine ⟨fun hfail => ?_, fun hgood => ?_⟩
    · rw [show exec (.hmpProve src seq b) s = .next (if hmpIn s src 0 b.length then prove src seq b s else s) from rfl,
        if_pos hin, hprove, if_pos hfail]
    · exact Gives.of_eq rfl ((if_pos hin).trans (hprove.trans (if_neg (by rw [hgood]; decide))))
        ⟨answerFree_sessions, sent_answerFree _ _ _ _⟩
  case bad => exact dropFrame_gives (by rw [dropFrame_eq hin hp, if_pos hbad])
  case tag =>
    exact dropFrame_gives (by rw [dropFrame_eq hin hp, if_neg (by rw [hgood]; decide), if_pos htag])
  case pending =>
    rw [modMgmt_mgmt, List.mem_filter, show (s.gtc - y.since).toNat = since s y.since from rfl]
    generalize since s y.since = age
    refine and_congr_right fun _ => ?_
    by_cases hsid : y.sid = sid <;> cases hop : y.opened <;> simp [hsid]
  case idle =>
    rw [modMgmt_mgmt, List.mem_filter, show (s.gtc - y.since).toNat = since s y.since from rfl]
    generalize since s y.since = age
    refine and_congr_right fun _ => ?_
    by_cases hsid : y.sid = sid <;> cases hop : y.opened <;> simp [hsid]
  case lock =>
    rw [modMgmt_mgmt, List.mem_filter, show (s.gtc - l.2).toNat = since s l.2 from rfl]
    generalize since s l.2 = age
    refine and_congr_right fun _ => ?_
    by_cases hk : l.1 = k <;> simp [hk]

/-- Settles O23: a request whose Sequence is new is queued; a frame that does not arrive does nothing. -/
theorem managementRequests : Obligations.ManagementRequests := by
  intro s
  refine ⟨fun h x b a hin hx hseq => ?requests, fun h n hin hsid hn => ?unknown, fun h b hin => ?dropped,
    fun src seq m hin => ?spdm⟩
  case requests =>
    exact ⟨request_gives rfl hin hx hseq, request_gives rfl hin hx hseq, request_gives rfl hin hx hseq,
      request_gives rfl hin hx hseq, request_gives rfl hin hx hseq⟩
  case unknown =>
    have hlisted : ([1, 2, 3, 0x10, 0x11, 0x12, 0x13, 0x20, 0x50].contains n.toNat || !hmpIn s h.src h.sid 0) = false := by
      rw [hin, Bool.not_true, Bool.or_false, Bool.eq_false_iff]
      exact fun hc => hn (List.contains_iff_mem.1 hc)
    refine Gives.of_eq rfl ((if_neg (by rw [hlisted]; decide)).trans (if_pos hsid))
      ⟨sent_answerFree _ _ _ _, answerFree_sessions, answerFree_frame (fun _ hp => hp) (SameBut.refl _ _)⟩
  case dropped =>
    have hnone (c : Instr) (opcode : Nat) (p : Option Access)
        (hc : exec c s = .next (inSession h opcode b.length (queueAccess h opcode p) s)) : exec c s = .next s := by
      rw [hc, inSession_dropped hin]
    exact ⟨hnone _ _ _ rfl, hnone _ _ _ rfl, hnone _ _ _ rfl, hnone _ _ _ rfl, hnone _ _ _ rfl⟩
  case spdm =>
    have hheard : spdmHeard s (.net src) = true := by
      simp only [hmpIn, netIn, netUp, Bool.and_eq_true] at hin
      obtain ⟨⟨⟨⟨⟨hlink, hphase⟩, -⟩, -⟩, -⟩, -⟩ := hin
      simp only [spdmHeard, hlink, hphase, Bool.and_self]
    rw [show exec (.spdmMessage src seq m) s = execSpdmMessage src seq m s from rfl, execSpdmMessage,
      if_pos (by rw [hheard, hin]; rfl)]
    rfl

end Sys2Proof.Machine
end

section
/-!
SUPPORT and CLAIM. The dictionary engine and the stored set (03_management_dictionary, R88, R89, R93, R95, R97, R107):
whose turn it is, the two outcomes of a batch, the end of a restore, and the obligation O25.
-/
namespace Sys2Proof.Machine

section Engine
variable {s t : State} {flashFails : Bool}

/-! ### Whose turn it is (R88) -/

/-- The source whose turn it is, if it waits, is served. -/
theorem engineTurn33_of_waits (hphase : s.power.phase ≠ .asleep) (hturn : s.mgmt.turn < 33)
    (hwaits : sourceWaits s s.mgmt.turn = true) : engineTurn33 flashFails s =
      let u := modMgmt (fun x => { x with turn := (s.mgmt.turn + 1) % 33 }) s
      if s.mgmt.turn = 0 then netTurn flashFails u else mbxTurn (fun5 (s.mgmt.turn - 1)) flashFails u := by
  have hfirst : ((List.range 33).map fun i => (s.mgmt.turn + i) % 33).find? (sourceWaits s) = some s.mgmt.turn := by
    rw [List.range_succ_eq_map, List.map_cons, Nat.add_zero, Nat.mod_eq_of_lt hturn, List.find?_cons, hwaits]
  rw [engineTurn33, if_neg hphase]
  dsimp only
  rw [hfirst]

/-- The network's turn with an access waiting (R88). -/
theorem engineTurn33_net (hphase : s.power.phase ≠ .asleep) (hturn : s.mgmt.turn = 0) {q : NetAccess}
    {rest : List NetAccess} (hq : s.mgmt.queue = q :: rest) : engineTurn33 flashFails s =
      let u : State := { s with mgmt := { s.mgmt with turn := 1, queue := rest } }
      let r := runAccess (.net q.role q.cal) q.sid q.access flashFails u
      respondUnder (some q.key) q.src q.opcode (answerPayload q.access r.2).1 q.sid q.seq (answerPayload q.access r.2).2
        r.1 := by
  rw [engineTurn33_of_waits hphase (by rw [hturn]; decide) (by rw [hturn]; simp [sourceWaits, hq])]
  simp only [hturn, if_true, netTurn, modMgmt_mgmt, hq]
  rfl

/-- The answer of an access leaves, and changes the management state alone. -/
theorem respondUnder_sameBut (key : Option Bytes) (a : NetAddr) (opcode : Nat) (st : FStatus) (sid seq : U32) (p : Bytes) :
    SameBut [.mgmt, .out] s (respondUnder key a opcode st sid seq p s) :=
  respondUnder_frame (fun _ hp => hp) (SameBut.refl _ s)

theorem respondUnder_takenTurn (m : MgmtSt) (key : Option Bytes) (a : NetAddr) (opcode : Nat) (st : FStatus)
    (sid seq : U32) (p : Bytes) :
    SameBut [.mgmt, .out] s (respondUnder key a opcode st sid seq p { s with mgmt := m }) :=
  ((modMgmt_sameBut fun _ => m).mono (by decide)).trans (respondUnder_sameBut key a opcode st sid seq p)

theorem sent_respondUnder (key : Option Bytes) (a : NetAddr) (opcode : Nat) (st : FStatus) (sid seq : U32) (p : Bytes) :
    Sent (respondUnder key a opcode st sid seq p s) (hmpResponse key a opcode st sid seq s.gtc p) := sent_sendNet _ _

theorem sendNet_turn_queue {dst : NetAddr} {m : Msg} :
    (sendNet dst m s).mgmt.turn = s.mgmt.turn ∧ (sendNet dst m s).mgmt.queue = s.mgmt.queue := by
  unfold sendNet
  split
  · exact ⟨rfl, rfl⟩
  · split
    · exact ⟨rfl, rfl⟩
    · dsimp only; split <;> exact ⟨rfl, rfl⟩

theorem respondUnder_turn_queue (key : Option Bytes) (a : NetAddr) (opcode : Nat) (st : FStatus) (sid seq : U32)
    (p : Bytes) : (respondUnder key a opcode st sid seq p s).mgmt.turn = s.mgmt.turn ∧
      (respondUnder key a opcode st sid seq p s).mgmt.queue = s.mgmt.queue := sendNet_turn_queue

/-! ### A batch of writes (R89) -/

/-- The statuses of a batch, each entry checked on its own. -/
def batchStatus (rq : Requester) (l : List WEntry) (s : State) : List EStatus :=
  l.zipIdx.map fun e => entryStatus s rq l e.2 e.1

@[simp] theorem batchStatus_length {rq : Requester} {l : List WEntry} : (batchStatus rq l s).length = l.length := by
  simp [batchStatus]

/-- The result of an entry with a status. -/
def batchResult (rq : Requester) (e : WEntry × EStatus) : EResult := ⟨e.1.ref, e.2, typeCodeFor rq e.1.ref, []⟩

/-- What an entry that passes is answered in a batch that fails (R89). -/
def notApplied (x : EStatus) : EStatus := if x = .ok then .notApplied else x

/-- A list of statuses that are all the same, paired with the entries. -/
theorem map_zip_of_all_eq {α β γ : Type} {g : α × β → γ} {b : β} : ∀ {l : List α} {m : List β}, m.length = l.length →
    (∀ x ∈ m, x = b) → (l.map fun a => g (a, b)) = (l.zip m).map g
  | [], [], _, _ => rfl
  | a :: l, x :: m, hlen, h => by
    rw [List.map_cons, List.zip_cons_cons, List.map_cons, h x List.mem_cons_self,
      map_zip_of_all_eq (Nat.succ.inj hlen) fun y hy => h y (List.mem_cons_of_mem _ hy)]

/-- One entry fails: none is applied. -/
theorem writeBatch_fails {rq : Requester} {l : List WEntry} (h : ∃ x ∈ batchStatus rq l s, x ≠ .ok) :
    writeBatch rq l flashFails s = (s, (l.zip ((batchStatus rq l s).map notApplied)).map (batchResult rq)) := by
  have hany : ((l.zipIdx.map fun e => entryStatus s rq l e.2 e.1).any (· != .ok)) = true := by
    obtain ⟨x, hx, hne⟩ := h
    exact List.any_eq_true.2 ⟨x, hx, by simpa using hne⟩
  rw [writeBatch]
  dsimp only
  rw [if_pos hany]
  rw [List.zip_map_right (f := notApplied), List.map_map]
  simp only [← batchStatus.eq_def, beq_iff_eq]
  rfl

/-- Every entry passes and no stored value is lost: all are applied, in order. -/
theorem writeBatch_passes {rq : Requester} {l : List WEntry} (h : ∀ x ∈ batchStatus rq l s, x = .ok)
    (hflash : flashFails = true → ∀ e ∈ l, isStored e.ref = false) :
    writeBatch rq l flashFails s = (applyBatch l s, (l.zip (batchStatus rq l s)).map (batchResult rq)) := by
  have hany : ((l.zipIdx.map fun e => entryStatus s rq l e.2 e.1).any (· != .ok)) = false := by
    rw [List.any_eq_false]
    intro x hx
    simp [h x hx]
  have hlost : (flashFails && l.any fun e => isStored e.ref) = false := by
    cases flashFails with
    | false => rfl
    | true =>
      rw [Bool.true_and, List.any_eq_false]
      intro e he
      simp [hflash rfl e he]
  rw [writeBatch]
  dsimp only
  rw [if_neg (by rw [hany]; decide), if_neg (by rw [hlost]; decide),
    ← map_zip_of_all_eq (g := batchResult rq) batchStatus_length h]
  rfl

/-- The payload that answers a batch names the entries and their statuses (R107). -/
theorem answerPayload_write {rq : Requester} {l : List WEntry} {st : List EStatus} (hlen : st.length = l.length) :
    answerPayload (.write l) (.entries ((l.zip st).map (batchResult rq))) =
      (.ok, leBytes 2 l.length ++ [0, 0] ++ (l.zip st).flatMap fun e => refBytes e.1.ref (eStatusCode e.2)) := by
  simp [answerPayload, hlen, List.flatMap_map, batchResult]

/-- A batch that fails is answered with the failing entries' statuses, and NOT_APPLIED for the others (R89). -/
theorem engineTurn33_write_fails (hphase : s.power.phase ≠ .asleep) (hturn : s.mgmt.turn = 0) {q : NetAccess}
    {rest : List NetAccess} (hq : s.mgmt.queue = q :: rest) {l : List WEntry} (ha : q.access = .write l) :
    let u : State := { s with mgmt := { s.mgmt with turn := 1, queue := rest } }
    let st := batchStatus (.net q.role q.cal) l u
    (∃ x ∈ st, x ≠ .ok) → engineTurn33 flashFails s = respondUnder (some q.key) q.src q.opcode .ok q.sid q.seq
      (leBytes 2 l.length ++ [0, 0] ++ (l.zip (st.map notApplied)).flatMap fun e =>
        refBytes e.1.ref (eStatusCode e.2)) u := by
  intro u st hfail
  rw [engineTurn33_net hphase hturn hq]
  simp only [ha, runAccess]
  rw [writeBatch_fails hfail, answerPayload_write (by rw [List.length_map, batchStatus_length])]

/-- A batch that passes is applied and answered OK (R89). -/
theorem engineTurn33_write_passes (hphase : s.power.phase ≠ .asleep) (hturn : s.mgmt.turn = 0) {q : NetAccess}
    {rest : List NetAccess} (hq : s.mgmt.queue = q :: rest) {l : List WEntry} (ha : q.access = .write l) :
    let u : State := { s with mgmt := { s.mgmt with turn := 1, queue := rest } }
    let st := batchStatus (.net q.role q.cal) l u
    (∀ x ∈ st, x = .ok) → (flashFails = true → ∀ e ∈ l, isStored e.ref = false) →
    engineTurn33 flashFails s = respondUnder (some q.key) q.src q.opcode .ok q.sid q.seq
      (leBytes 2 l.length ++ [0, 0] ++ (l.zip st).flatMap fun e => refBytes e.1.ref (eStatusCode e.2))
      (applyBatch l u) := by
  intro u st hpass hflash
  rw [engineTurn33_net hphase hturn hq]
  simp only [ha, runAccess]
  rw [writeBatch_passes hpass hflash, answerPayload_write batchStatus_length]

theorem applyBatch_gtc {l : List WEntry} : (applyBatch l s).gtc = s.gtc :=
  (applyBatch_frame (fun _ hp => hp) (SameBut.refl _ s)).2.2 .gtc (by decide)

/-! ### A mailbox (R111, R112) -/

theorem fun5_val (g : Fun) : fun5 g.val = g := Fin.ext (Nat.mod_eq_of_lt g.isLt)

/-- A function's turn with an operation waiting (R88). -/
theorem engineTurn33_mbx (hphase : s.power.phase ≠ .asleep) {g : Fun} (hturn : s.mgmt.turn = g.val + 1) {a : Access}
    (ha : (getFn s g).mbx.op = some a) : engineTurn33 flashFails s =
      let r := runAccess (.mbx g) 0 a flashFails (modMgmt (fun x => { x with turn := (g.val + 2) % 33 }) s)
      modMbx g (mbxAnswer a r.2) r.1 := by
  have hne : g.val + 1 ≠ 0 := Nat.succ_ne_zero _
  have hlt : g.val + 1 < 33 := by omega
  rw [engineTurn33_of_waits hphase (hturn ▸ hlt)
    (by rw [hturn, sourceWaits, if_neg hne, Nat.add_sub_cancel, fun5_val, ha]; rfl)]
  simp only [hturn, hne, if_false, Nat.add_sub_cancel, fun5_val, mbxTurn]
  rw [show (getFn (modMgmt (fun x => { x with turn := (g.val + 1 + 1) % 33 }) s) g).mbx.op = some a from ha]

theorem mbxAnswer_finishes (a : Access) (r : Answer) (m : MbxSt) :
    (mbxAnswer a r m).busy = false ∧ (mbxAnswer a r m).done = true ∧ (mbxAnswer a r m).op = none := by
  unfold mbxAnswer
  split <;> exact ⟨rfl, rfl, rfl⟩

end Engine

/-- Settles O25: the engine's turn for the network and for a mailbox, the restore, and the compaction. -/
theorem dictionaryService : Obligations.DictionaryService := by
  intro s hinv
  refine ⟨fun flashFails q rest refs hphase hturn hq ha => ?read, fun flashFails q rest l hphase hturn hq ha => ?write,
    fun flashFails g refs hphase hturn ha => ?mailbox, fun rq hacc hidle => ?restore, fun hrun => ?restored, ?compacted⟩
  case read =>
    refine Gives.of_eq rfl (engineTurn33_net hphase hturn hq) ?_
    rw [ha]
    obtain ⟨hturn', hqueue⟩ := respondUnder_turn_queue (s := { s with mgmt := { s.mgmt with turn := 1, queue := rest } })
      (some q.key) q.src q.opcode _ q.sid q.seq _
    exact ⟨hturn', hqueue, respondUnder_takenTurn _ _ _ _ _ _ _ _⟩
  case write =>
    intro u st answers
    refine ⟨fun hfail => ?_, fun hpass hflash => ?_⟩
    · refine Gives.of_eq rfl (engineTurn33_write_fails hphase hturn hq ha hfail) ?_
      obtain ⟨hturn', hqueue⟩ := respondUnder_turn_queue (s := u) (some q.key) q.src q.opcode .ok q.sid q.seq _
      exact ⟨hturn', hqueue, sent_respondUnder _ _ _ _ _ _ _,
        respondUnder_takenTurn _ _ _ _ _ _ _ _⟩
    · refine Gives.of_eq rfl (engineTurn33_write_passes hphase hturn hq ha hpass hflash) ⟨?_, ?_⟩
      · have hsent := sent_respondUnder (s := applyBatch l u) (some q.key) q.src q.opcode .ok q.sid q.seq
          (leBytes 2 l.length ++ [0, 0] ++ (l.zip st).flatMap fun e => refBytes e.1.ref (eStatusCode e.2))
        rwa [applyBatch_gtc] at hsent
      · exact respondUnder_sameBut (s := applyBatch l u) _ _ _ _ _ _ _
  case mailbox =>
    refine Gives.of_eq rfl (engineTurn33_mbx hphase hturn ha) ⟨rfl, ?_⟩
    obtain ⟨hbusy, hdone, hop⟩ := mbxAnswer_finishes (.read refs)
      (runAccess (.mbx g) 0 (.read refs) flashFails (modMgmt (fun x => { x with turn := (g.val + 2) % 33 }) s)).2
      (getFn s g).mbx
    have hget := getFn_modMbx (s := modMgmt (fun x => { x with turn := (g.val + 2) % 33 }) s) hinv.fns g
      (mbxAnswer (.read refs)
        (runAccess (.mbx g) 0 (.read refs) flashFails (modMgmt (fun x => { x with turn := (g.val + 2) % 33 }) s)).2)
    refine ⟨?_, ?_, ?_, fun k hk => getFn_modMbx_other hk _, ?_⟩
    · exact (congrArg (·.mbx.busy) hget).trans hbusy
    · exact (congrArg (·.mbx.done) hget).trans hdone
    · exact (congrArg (·.mbx.op) hget).trans hop
    · exact ((modMgmt_sameBut _).mono (by decide)).trans (modMbx_frame (by decide) (SameBut.refl _ _))
  case restore =>
    exact Gives.of_eq rfl (requestWrite_accepted hacc (by simp [restoreRefused, hidle])) ⟨rfl, rfl, rfl⟩
  case restored =>
    refine Gives.of_eq rfl (if_pos hrun) ⟨rfl, rfl, fun e => List.mem_filter⟩
  case compacted =>
    refine ⟨_, rfl, ?_, Nat.sub_le _ _, rfl, rfl⟩
    have hle : Config.choice s.draws (s.mgmt.dead + 1) % (s.mgmt.dead + 1) ≤ s.mgmt.dead :=
      Nat.le_of_lt_succ (Nat.mod_lt _ (Nat.succ_pos _))
    show s.mgmt.bytesFree + _ + (s.mgmt.dead - _) = _
    omega

end Sys2Proof.Machine
end

section
/-!
SUPPORT. Ports and functions (02_host_endpoint, R64 to R78): the link of a port over the operations that may assert its
wake pin, the abort of one function and of a port's functions, and links that leave or reach L0.
-/
namespace Sys2Proof.Machine

section Links
variable {s t u : State}

/-! ### Links over the operations that may assert a wake pin (R66) -/

/-- What a port's link is, without the wake pin and those that owe a PM_PME. -/
abbrev linkCore (x : PortSt) : LinkState × Nat × Nat × Bool × TurnOff × Bool :=
  (x.link, x.width, x.speed, x.perst, x.turnOff, x.switchedOff)

/-- No link has changed but for the wake pin. -/
def LinkSame (s t : State) : Prop := ∀ p : Port, linkCore (getPort t p) = linkCore (getPort s p)

theorem LinkSame.refl (s : State) : LinkSame s s := fun _ => rfl

theorem LinkSame.trans (h : LinkSame s t) (k : LinkSame t u) : LinkSame s u := fun p => (k p).trans (h p)

theorem SameBut.linkSame {L : List StatePart} (h : SameBut L s t) (hl : .links ∉ L) : LinkSame s t := by
  intro p
  have hp := h.port_links hl p
  simp only [PortSt.linksPart, Prod.mk.injEq] at hp
  simp [linkCore, hp]

theorem LinkSame.ite {c : Prop} [Decidable c] (ht : LinkSame s t) (hu : LinkSame s u) :
    LinkSame s (if c then t else u) := by split <;> assumption

theorem foldState_linkSame {α : Type} {f : α → State → State} (hf : ∀ a s, LinkSame s (f a s)) (l : List α) :
    LinkSame s (foldState f l s) := by
  induction l generalizing s with
  | nil => exact LinkSame.refl s
  | cons a l ih => exact (hf a s).trans ih

theorem getPort_modPort_cases (p q : Port) (f : PortSt → PortSt) :
    getPort (modPort p f s) q = f (getPort s q) ∨ getPort (modPort p f s) q = getPort s q := by
  by_cases hq : q = p
  · subst hq
    by_cases hlen : q.val < s.ports.length
    · left; simp [getPort, modPort, List.getD_eq_getElem?_getD, hlen]
    · right; simp [getPort, modPort, List.getD_eq_getElem?_getD, hlen]
  · exact .inr (getPort_modPort_other hq f)

theorem modPort_linkSame {p : Port} {f : PortSt → PortSt} (hf : ∀ x, linkCore (f x) = linkCore x) :
    LinkSame s (modPort p f s) := by
  intro q
  rcases getPort_modPort_cases (s := s) p q f with h | h <;> rw [h]
  exact hf _

theorem assertWake_linkSame {g : Fun} {k : Nat} : LinkSame s (assertWake g k s) := by
  unfold assertWake
  dsimp only
  split
  · exact LinkSame.refl s
  · split
    · exact modPort_linkSame fun x => rfl
    · exact LinkSame.trans (t := emit _ s) (fun _ => rfl) (modPort_linkSame fun x => rfl)

theorem count_linkSame {index sub : Nat} : LinkSame s (count index sub s) :=
  (count_frame (L := [.counters, .int]) (fun _ h => h) (SameBut.refl _ s)).linkSame (by decide)

theorem entryWake_linkSame {code : Nat} : LinkSame s (entryWake code s) := by
  unfold entryWake
  exact LinkSame.ite assertWake_linkSame (LinkSame.refl s)

theorem askWake_linkSame {code : Nat} : LinkSame s (askWake code s) := by
  unfold askWake
  split
  · exact (LinkSame.trans (t := modPower _ s) (fun _ => rfl) entryWake_linkSame).trans count_linkSame
  · exact fun _ => rfl
  · exact LinkSame.refl s

theorem wakeFires_linkSame {w : WakeInput} : LinkSame s (wakeFires w s) := by
  have hlater : LinkSame s (latchLater w s) := by cases w <;> exact fun _ => rfl
  unfold wakeFires
  split
  · cases w with
    | source g k => exact LinkSame.ite assertWake_linkSame (LinkSame.refl s)
    | input n => exact LinkSame.refl s
  · dsimp only
    split
    · exact hlater
    · cases w with
      | source g k => exact (hlater.trans assertWake_linkSame).trans askWake_linkSame
      | input n => exact hlater.trans askWake_linkSame

theorem setLatch_linkSame {g : Fun} {k : Nat} : LinkSame s (setLatch g k s) :=
  (setLatch_frame (L := [.counters, .intx, .fnCfg, .int, .out]) (by decide) (SameBut.refl _ s)).linkSame (by decide)

theorem fire_linkSame {g : Fun} {k : Nat} : LinkSame s (fire g k s) :=
  LinkSame.ite (wakeFires_linkSame.trans setLatch_linkSame) wakeFires_linkSame

theorem reactInt_linkSame {e : Src} {g : Fun} : LinkSame s (reactInt e g s) :=
  LinkSame.trans (t := formEvent _ _ _ _ _ _ _ s) (fun _ => rfl) fire_linkSame

/-- An error changes no link (R379): only its INT reaction reaches a port, at the wake pin. -/
theorem raiseWith_linkSame {e : Src} {i : ErrInfo} {lost : List CtxId} : LinkSame s (raiseWith e i lost s) := by
  have hquiet {t : State} (h : SameBut [.od, .stored, .counters, .mgmt, .fnCfg, .int, .capture, .err, .out] s t) :
      LinkSame s t := h.linkSame (by decide)
  unfold raiseWith
  split
  · exact LinkSame.refl s
  · extract_lets r cls s1 s2 s3 s4 s5 s6
    have h5 : LinkSame s s5 := by
      refine hquiet ?_
      refine SameBut.ite (reactPin_frame (by decide) ?_) ?_ <;>
      · refine SameBut.ite (reactNmi_frame (by decide) ?_) ?_ <;>
        · refine reactReset_frame (by decide) (SameBut.ite (foldState_frame (fun a t h => captureFn_frame (by decide) h)
            (capturePackage_frame (by decide) (countError_frame (by decide) (SameBut.refl _ s)))) (SameBut.ite
              (foldState_frame (fun a t h => captureFn_frame (by decide) h) ?_) ?_)) <;>
          exact countError_frame (by decide) (SameBut.refl _ s)
    have h6 : LinkSame s s6 := LinkSame.ite (h5.trans (foldState_linkSame (fun a t => reactInt_linkSame) _)) h5
    refine LinkSame.ite (h6.trans (foldState_linkSame (fun a t => LinkSame.ite ?_ (LinkSame.refl t)) _)) h6
    exact (aerUncorrectable_frame (L := [.fnCfg, .out]) (fun _ h => h) (SameBut.refl _ t)).linkSame (by decide)

theorem raiseError_linkSame {e : Src} {i : ErrInfo} : LinkSame s (raiseError e i s) := raiseWith_linkSame

theorem loseContext_linkSame {c : CtxId} {r : LostReason} {cause : List (Nat × CStatus)} {data1 : U64} {i : ErrInfo} :
    LinkSame s (loseContext c r cause data1 i s) := by
  have hlost : SameBut [.counters, .int, .ctxs, .cmds, .engines, .lookups, .peers, .windows, .out] s
      (revokeCtxLeases c (foldState (loseCmd cause) ((modCtx c (fun y => { y with
        state := .lost, lostReason := r, lostGtc := s.gtc }) s).cmd.table.filter fun y => y.ctx == c)
        (modCtx c (fun y => { y with state := .lost, lostReason := r, lostGtc := s.gtc }) s))) :=
    revokeCtxLeases_frame (by decide) (foldState_frame (fun a t h => loseCmd_frame (by decide) h)
      (modCtx_frame (by decide) (SameBut.refl _ s)))
  unfold loseContext
  split
  · exact LinkSame.refl s
  · split
    · exact LinkSame.refl s
    · refine LinkSame.ite (hlost.linkSame (by decide)) ?_
      exact ((hlost.linkSame (by decide)).trans (LinkSame.trans (t := formEvent _ _ _ _ _ _ _ _) (fun _ => rfl)
        count_linkSame)).trans raiseWith_linkSame

theorem faultCmd_linkSame {c : CtxId} {q : Nat} {st : CStatus} {i : ErrInfo} : LinkSame s (faultCmd c q st i s) := by
  unfold faultCmd
  split
  · split
    · exact loseContext_linkSame
    · exact (endCmd_frame (L := [.cmds, .engines, .peers, .windows, .out]) (by decide) (SameBut.refl _ s)).linkSame
        (by decide)
  · exact LinkSame.refl s

theorem failWaits_linkSame {h : U64} : LinkSame s (failWaits h s) :=
  foldState_linkSame (fun _ t => LinkSame.ite faultCmd_linkSame (LinkSame.refl t)) _

theorem freeStart_linkSame {slot : Nat} {freer : Option AdminRef} : LinkSame s (freeStart slot freer s) := by
  unfold freeStart
  split
  · exact LinkSame.refl s
  · split
    · exact LinkSame.refl s
    · extract_lets h freed _ counted waited closed
      have hstart : LinkSame s (dropMirrors slot counted) := fun _ => rfl
      have hrest : LinkSame waited (startScan (banksInUse closed) (.object slot none) (.free slot) closed) :=
        (startScan_frame (L := [.lookups, .windows, .coherence]) (by decide) (closeCohOf_frame (by decide)
          (closeWindowsOf_frame (by decide) (SameBut.refl _ waited)))).linkSame (by decide)
      exact (hstart.trans failWaits_linkSame).trans hrest

theorem freeAll_linkSame {g : Fun} : LinkSame s (freeAll g s) :=
  LinkSame.trans (t := foldState _ _ s) (foldState_linkSame (fun _ _ => freeStart_linkSame) _) fun _ => rfl

/-! ### The abort of a function (R67, R70) -/

/-- FunctionState and the abort under way. -/
abbrev abortView (x : FnSt) : FnState × Option AbortEvent := (x.state, x.abort)

theorem SameBut.abortView {L : List StatePart} (h : SameBut L s t) (hl : .fnState ∉ L) (g : Fun) :
    abortView (getFn t g) = abortView (getFn s g) := by
  have hg := h.fn_fnState hl g
  simp only [FnSt.fnStatePart, Prod.mk.injEq] at hg
  simp [Machine.abortView, hg]

/-- The function that begins its abort: it is aborting, and its queues and records are gone. -/
def abortBegun (ev : AbortEvent) (x : FnSt) : FnSt :=
  { x with
    state := .aborting, abort := some ev, admin := AdminQ.init, faultq := FaultQ.init
    int := { x.int with rings := [], formed := [], held := [] } }

/-- The parts that the rest of an abort's start may change. -/
def abortParts : List StatePart := [.od, .stored, .counters, .mgmt, .links, .intx, .requests, .fnCfg, .int, .capture,
  .ctxs, .objs, .slots, .cmds, .engines, .lookups, .peers, .windows, .coherence, .memory, .det, .err, .power, .boot,
  .draws, .out]

theorem beginAbort_sameBut {ev : AbortEvent} {g : Fun} (h : (getFn s g).state ≠ .absent) :
    SameBut abortParts (modFn g (abortBegun ev) s) (beginAbort ev g s) := by
  have hcontexts : SameBut abortParts (modFn g (abortBegun ev) s)
      (abortContexts g (settleIntx s (portOf g) (modFn g (abortBegun ev) s))) :=
    abortContexts_frame (by decide) (settleIntx_frame (by decide) (SameBut.refl _ _))
  unfold beginAbort
  rw [if_neg h]
  exact quarantine_frame (by decide) (closeAll_frame (by decide) (freeAll_frame (by decide)
    (SameBut.ite (imageFails_frame (by decide) hcontexts) hcontexts)))

theorem beginAbort_linkSame {ev : AbortEvent} {g : Fun} : LinkSame s (beginAbort ev g s) := by
  have hcontexts : LinkSame s (abortContexts g (settleIntx s (portOf g) (modFn g (abortBegun ev) s))) :=
    LinkSame.trans (t := modFn g (abortBegun ev) s) (fun _ => rfl)
      ((abortContexts_frame (L := abortParts.filter (· ≠ .links)) (by decide)
        (settleIntx_frame (by decide) (SameBut.refl _ _))).linkSame (by decide))
  have himage (v : State) : LinkSame v (imageFails v) :=
    (imageFails_frame (L := [.requests, .boot]) (fun _ h => h) (SameBut.refl _ v)).linkSame (by decide)
  have hend (p : Port) (f : TagUse → Bool) (v : State) : LinkSame v (quarantine p f (closeAll g v)) :=
    (quarantine_frame (L := [.requests, .windows]) (by decide)
      (closeAll_frame (by decide) (SameBut.refl _ v))).linkSame (by decide)
  unfold beginAbort
  split
  · exact LinkSame.refl s
  · exact (LinkSame.trans (LinkSame.ite (hcontexts.trans (himage _)) hcontexts) freeAll_linkSame).trans (hend _ _ _)

theorem abortFn_linkSame {ev : AbortEvent} {g : Fun} : LinkSame s (abortFn ev g s) :=
  LinkSame.ite beginAbort_linkSame (LinkSame.refl s)

/-- A present function whose event supersedes is aborting for it. -/
theorem abortFn_same (hfns : s.fns.length = 32) {ev : AbortEvent} {g : Fun} (h : (getFn s g).state ≠ .absent)
    (hs : supersedes (getFn s g).abort ev = true) : abortView (getFn (abortFn ev g s) g) = (.aborting, some ev) := by
  rw [abortFn, if_pos hs, (beginAbort_sameBut h).abortView (by decide), getFn_modFn hfns]
  rfl

/-- An abort leaves every other function in its state. -/
theorem abortFn_other {ev : AbortEvent} {g k : Fun} (hk : k ≠ g) :
    abortView (getFn (abortFn ev g s) k) = abortView (getFn s k) := by
  rw [abortFn]
  split
  · by_cases h : (getFn s g).state = .absent
    · rw [beginAbort, if_pos h]
    · rw [(beginAbort_sameBut h).abortView (by decide), getFn_modFn_other hk]
  · rfl

theorem abortFn_length {ev : AbortEvent} {g : Fun} (hfns : s.fns.length = 32) : (abortFn ev g s).fns.length = 32 := by
  rw [abortFn]
  split
  · by_cases h : (getFn s g).state = .absent
    · rw [beginAbort, if_pos h, hfns]
    · have hlen := congrArg List.length ((beginAbort_sameBut (ev := ev) h).2.2 .mbx (by decide))
      simpa [hfns] using hlen
  · exact hfns

/-- An event that aborts functions in turn leaves alone those that are not among them. -/
theorem foldAbort_other {ev : AbortEvent} {k : Fun} {l : List Fun} (h : k ∉ l) :
    abortView (getFn (foldState (abortFn ev) l s) k) = abortView (getFn s k) := by
  induction l generalizing s with
  | nil => rfl
  | cons g l ih =>
    simp only [List.mem_cons, not_or] at h
    obtain ⟨hkg, hkl⟩ := h
    rw [foldState, ih hkl, abortFn_other hkg]

/-- An event that aborts functions in turn has every present one of them aborting for it. -/
theorem foldAbort_mem {ev : AbortEvent} {k : Fun} {l : List Fun} (hfns : s.fns.length = 32) (hnodup : l.Nodup)
    (hmem : k ∈ l) (h : (getFn s k).state ≠ .absent) (hs : supersedes (getFn s k).abort ev = true) :
    abortView (getFn (foldState (abortFn ev) l s) k) = (.aborting, some ev) := by
  induction l generalizing s with
  | nil => exact absurd hmem List.not_mem_nil
  | cons g l ih =>
    obtain ⟨hg, hnodup⟩ := List.nodup_cons.1 hnodup
    rw [foldState]
    by_cases hkg : k = g
    · subst hkg
      rw [foldAbort_other hg, abortFn_same hfns h hs]
    · have hview := abortFn_other (ev := ev) (s := s) hkg
      simp only [abortView, Prod.mk.injEq] at hview
      obtain ⟨hstate, habort⟩ := hview
      exact ih (abortFn_length hfns) hnodup ((List.mem_cons.1 hmem).resolve_left hkg) (by rwa [hstate]) (by rwa [habort])

theorem fnsOf_nodup (p : Port) : (fnsOf p).Nodup := (List.nodup_finRange 32).filter _

theorem mem_fnsOf {p : Port} {g : Fun} : g ∈ fnsOf p ↔ portOf g = p := by simp [fnsOf]

/-- An event that always supersedes leaves every present function of the port aborting for it (R67). -/
theorem abortPort_aborting (hfns : s.fns.length = 32) {ev : AbortEvent} (hs : ∀ old, supersedes old ev = true) {p : Port}
    {g : Fun} (hg : portOf g = p) (h : (getFn s g).state ≠ .absent) :
    abortView (getFn (abortPort ev p s) g) = (.aborting, some ev) :=
  foldAbort_mem hfns (fnsOf_nodup p) (mem_fnsOf.2 hg) h (hs _)

end Links
end Sys2Proof.Machine
end

section
/-!
SUPPORT. The values of the object dictionary (03, R85, R93): what an object holds after it, or another one, has been set.
-/
namespace Sys2Proof.Machine

section Objects
variable {s : State} {ref : Ref} {v : Val}

theorem assocGet_assocDel {β : Type} (l : List (Nat × β)) (k : Nat) : assocGet (assocDel l k) k = none := by
  simp only [assocGet, assocDel, Option.map_eq_none_iff, List.find?_eq_none]
  intro e he
  simpa using (List.mem_filter.1 he).2

theorem assocGet_assocDel_other {β : Type} (l : List (Nat × β)) {k j : Nat} (h : j ≠ k) :
    assocGet (assocDel l k) j = assocGet l j := by
  simp only [assocGet, assocDel, List.find?_filter]
  congr 2
  funext e
  by_cases hj : e.1 = j
  · simp [hj, h]
  · simp [hj]

theorem assocGet_setObj_other {index sub j : Nat} (h : j ≠ index * 256 + sub) :
    assocGet (setObj index sub v s).od j = assocGet s.od j := by
  rw [setObj]
  dsimp only
  split
  · exact assocGet_assocDel_other _ h
  · exact assocGet_assocPut_other _ h _

@[simp] theorem objVal_setObj {index sub : Nat} : objVal (setObj index sub v s) index sub = v := by
  have hvariant : (setObj index sub v s).variant = s.variant := rfl
  rw [objVal, hvariant, setObj]
  dsimp only
  split
  · rename_i h; rw [assocGet_assocDel, h]; rfl
  · rw [assocGet_assocPut]; rfl

theorem objVal_setObj_other {index sub a b : Nat} (h : a * 256 + b ≠ index * 256 + sub) :
    objVal (setObj index sub v s) a b = objVal s a b := by
  rw [objVal, assocGet_setObj_other h]
  rfl

@[simp] theorem writeRecord_od : (writeRecord ref v s).od = s.od :=
  (writeRecord_frame (L := [.stored, .counters, .mgmt, .int]) (fun _ h => h) (SameBut.refl _ s)).2.2 .od (by decide)

@[simp] theorem writeRecord_variant : (writeRecord ref v s).variant = s.variant :=
  (writeRecord_frame (L := [.stored, .counters, .mgmt, .int]) (fun _ h => h) (SameBut.refl _ s)).1

/-- A write of plain storage sets its object in the dictionary (R85). -/
theorem putObj_od : (putObj ref v s).od = (setObj ref.index ref.sub v s).od := by
  unfold putObj
  dsimp only
  split
  · split
    · rw [writeRecord_od]
    · rfl
  · rfl

theorem putObj_variant : (putObj ref v s).variant = s.variant :=
  (putObj_frame (L := [.od, .stored, .counters, .mgmt, .int]) (fun _ h => h) (SameBut.refl _ s)).1

@[simp] theorem objVal_putObj : objVal (putObj ref v s) ref.index ref.sub = v := by
  rw [objVal, putObj_variant, putObj_od]
  exact objVal_setObj

theorem objVal_putObj_other {a b : Nat} (h : a * 256 + b ≠ ref.index * 256 + ref.sub) :
    objVal (putObj ref v s) a b = objVal s a b := by
  rw [objVal, putObj_variant, putObj_od, assocGet_setObj_other h, objVal]

theorem objVal_congr {t : State} (hv : t.variant = s.variant) (ho : t.od = s.od) (a b : Nat) :
    objVal t a b = objVal s a b := by rw [objVal, hv, ho, objVal]

/-- What a command leaves of the dictionary when its frame does not name it. -/
theorem SameBut.objVal {L : List StatePart} {t : State} (h : SameBut L s t) (hl : .od ∉ L) (a b : Nat) :
    objVal t a b = objVal s a b := objVal_congr h.1 (h.2.2 .od hl) a b

/-- A write of plain storage, with its answer, has written its object (03, R96). -/
theorem written_putObj {rq : Requester} {t : State} (hod : t.od = (putObj ref v s).od) (hv : t.variant = s.variant)
    (hout : .objectStatus rq ref .ok ∈ t.out) : Written s t rq ref v := by
  refine ⟨hout, ?_, fun k hk => ?_⟩
  · rw [objVal_congr (s := putObj ref v s) (hv.trans putObj_variant.symm) hod, objVal_putObj]
  · rw [hod, putObj_od, assocGet_setObj_other hk]

end Objects

section Records
variable {s t : State} {L : List StatePart}

/-! ### What a frame says of whole records -/

/-- A frame that names no part of a function leaves it as it was. -/
theorem SameBut.getFn (h : SameBut L s t)
    (hl : ∀ p ∈ [StatePart.fnCfg, .fnState, .mbx, .admin, .faultq, .int, .capture, .fnOther], p ∉ L) (g : Fun) :
    getFn t g = getFn s g := by
  have hcfg := h.fn_fnCfg (hl _ (by decide)) g
  have hstate := h.fn_fnState (hl _ (by decide)) g
  have hmbx := h.fn_mbx (hl _ (by decide)) g
  have hadmin := h.fn_admin (hl _ (by decide)) g
  have hfaultq := h.fn_faultq (hl _ (by decide)) g
  have hint := h.fn_int (hl _ (by decide)) g
  have hcapture := h.fn_capture (hl _ (by decide)) g
  have hother := h.fn_fnOther (hl _ (by decide)) g
  simp only [FnSt.fnStatePart, FnSt.fnOtherPart, Prod.mk.injEq] at hstate hother
  generalize Machine.getFn t g = x at *
  generalize Machine.getFn s g = y at *
  cases x; cases y
  simp_all

/-- A frame that names no part of a port leaves it as it was. -/
theorem SameBut.getPort (h : SameBut L s t) (hl : ∀ p ∈ [StatePart.links, .intx, .requests, .ats], p ∉ L) (p : Port) :
    getPort t p = getPort s p := by
  have hlinks := h.port_links (hl _ (by decide)) p
  have hintx := h.port_intx (hl _ (by decide)) p
  have hrequests := h.port_requests (hl _ (by decide)) p
  have hats := h.port_ats (hl _ (by decide)) p
  simp only [PortSt.linksPart, PortSt.requestsPart, PortSt.atsPart, Prod.mk.injEq] at hlinks hrequests hats
  generalize Machine.getPort t p = x at *
  generalize Machine.getPort s p = y at *
  cases x; cases y
  simp_all

theorem SameBut.obj_eq (h : SameBut L s t) (hl : ∀ p ∈ [StatePart.ctxs, .objs, .slots], p ∉ L) : t.obj = s.obj := by
  have hctxs : t.obj.ctxs = s.obj.ctxs := h.2.2 .ctxs (hl _ (by decide))
  have hobjs : t.obj.objs = s.obj.objs := h.2.2 .objs (hl _ (by decide))
  have hslots : t.obj.slotsPart = s.obj.slotsPart := h.2.2 .slots (hl _ (by decide))
  simp only [ObjSt.slotsPart, Prod.mk.injEq] at hslots
  generalize t.obj = x at *
  generalize s.obj = y at *
  cases x; cases y
  simp_all

theorem SameBut.cmd_eq (h : SameBut L s t) (hl : ∀ p ∈ [StatePart.cmds, .engines], p ∉ L) : t.cmd = s.cmd := by
  have hcmds : t.cmd.table = s.cmd.table := h.2.2 .cmds (hl _ (by decide))
  have hengines : t.cmd.enginesPart = s.cmd.enginesPart := h.2.2 .engines (hl _ (by decide))
  simp only [CmdSt.enginesPart, Prod.mk.injEq] at hengines
  generalize t.cmd = x at *
  generalize s.cmd = y at *
  cases x; cases y
  simp_all

theorem SameBut.trans_eq (h : SameBut L s t) (hl : ∀ p ∈ [StatePart.entries, .lookups], p ∉ L) : t.trans = s.trans := by
  have hentries : t.trans.entriesPart = s.trans.entriesPart := h.2.2 .entries (hl _ (by decide))
  have hlookups : t.trans.lookupsPart = s.trans.lookupsPart := h.2.2 .lookups (hl _ (by decide))
  simp only [TransSt.entriesPart, TransSt.lookupsPart, Prod.mk.injEq] at hentries hlookups
  generalize t.trans = x at *
  generalize s.trans = y at *
  cases x; cases y
  simp_all

theorem SameBut.win_eq (h : SameBut L s t) (hl : ∀ p ∈ [StatePart.peers, .windows, .coherence], p ∉ L) :
    t.win = s.win := by
  have hpeers : t.win.peersPart = s.win.peersPart := h.2.2 .peers (hl _ (by decide))
  have hwindows : t.win.windowsPart = s.win.windowsPart := h.2.2 .windows (hl _ (by decide))
  have hcoherence : t.win.coherencePart = s.win.coherencePart := h.2.2 .coherence (hl _ (by decide))
  simp only [WinSt.peersPart, WinSt.windowsPart, WinSt.coherencePart, Prod.mk.injEq] at hpeers hwindows hcoherence
  generalize t.win = x at *
  generalize s.win = y at *
  cases x; cases y
  simp_all

theorem SameBut.pool_eq (h : SameBut L s t) (hl : ∀ p ∈ [StatePart.memory, .pool], p ∉ L) : t.pool = s.pool := by
  have hmemory : t.pool.memoryPart = s.pool.memoryPart := h.2.2 .memory (hl _ (by decide))
  have hpool : t.pool.poolPart = s.pool.poolPart := h.2.2 .pool (hl _ (by decide))
  simp only [PoolSt.memoryPart, PoolSt.poolPart, Prod.mk.injEq] at hmemory hpool
  generalize t.pool = x at *
  generalize s.pool = y at *
  cases x; cases y
  simp_all

/-- A frame keeps the numbers of functions and of ports. -/
theorem SameBut.fns_length (h : SameBut L s t) (hl : .mbx ∉ L) : t.fns.length = s.fns.length := by
  simpa using congrArg List.length (h.2.2 .mbx hl)

theorem SameBut.ports_length (h : SameBut L s t) (hl : .requests ∉ L) : t.ports.length = s.ports.length := by
  simpa using congrArg List.length (h.2.2 .requests hl)

end Records
end Sys2Proof.Machine
end

section
/-!
SUPPORT and CLAIMS. Ports (02_host_endpoint, R33 to R41, R64 to R70, R77, R78; 12, R381; 15, R445): links that leave or
reach L0, ports that fall, functions that are reset, and the obligations O16, O17 and O18.
-/
namespace Sys2Proof.Machine

section Ports
variable {s t : State} {p : Port}

/-! ### A link leaves L0 (R445) -/

theorem leaveL0_boot (n : Nat) (s : State) : ∃ lanes, leaveL0 n s = { s with boot := { s.boot with lanes := lanes } } ∧
    (∀ l ∈ lanes, l ∈ s.boot.lanes ∨ l.result = 3) ∧
    (s.boot.result = .running → s.boot.command = .qualify → ∀ l ∈ lanes, l.port = n → l.result = 3) := by
  unfold leaveL0
  split
  · refine ⟨_, rfl, fun l hl => ?_, fun _ _ l hl hn => ?_⟩
    · obtain ⟨m, hm, rfl⟩ := List.mem_map.1 hl
      split
      · exact .inr rfl
      · exact .inl hm
    · obtain ⟨m, hm, rfl⟩ := List.mem_map.1 hl
      split at hn
      · rename_i h; rw [if_pos h]
      · rename_i h; exact absurd (by simpa using hn) h
  · rename_i hq
    refine ⟨s.boot.lanes, rfl, fun l hl => .inl hl, fun hr hc => ?_⟩
    exact absurd (by simp [hr, hc]) hq

/-- A link that leaves L0 changes the lanes of a measurement that runs, and nothing else. -/
theorem linkLeavesL0_boot (p : Port) (s : State) : ∃ lanes,
    linkLeavesL0 p s = { s with boot := { s.boot with lanes := lanes } } ∧
    (s.boot.result = .running → s.boot.command = .qualify → ∀ l ∈ lanes, l.port = p.val → l.result = 3) := by
  unfold linkLeavesL0
  split
  · obtain ⟨wires, hwires, -, -⟩ := leaveL0_boot wirePort s
    obtain ⟨lanes, hlanes, -, hport⟩ := leaveL0_boot p.val (leaveL0 wirePort s)
    exact ⟨lanes, by rw [hlanes, hwires], fun hr hc => hport (by rw [hwires]; exact hr) (by rw [hwires]; exact hc)⟩
  · obtain ⟨lanes, hlanes, -, hport⟩ := leaveL0_boot p.val s
    exact ⟨lanes, hlanes, hport⟩

@[simp] theorem getPort_linkLeavesL0 {q : Port} : getPort (linkLeavesL0 p s) q = getPort s q := by
  obtain ⟨lanes, h, -⟩ := linkLeavesL0_boot p s
  rw [h]; rfl

@[simp] theorem getFn_linkLeavesL0 {g : Fun} : getFn (linkLeavesL0 p s) g = getFn s g := by
  obtain ⟨lanes, h, -⟩ := linkLeavesL0_boot p s
  rw [h]; rfl

@[simp] theorem linkLeavesL0_out : (linkLeavesL0 p s).out = s.out := by
  obtain ⟨lanes, h, -⟩ := linkLeavesL0_boot p s
  rw [h]

@[simp] theorem linkLeavesL0_port0 : (linkLeavesL0 p s).port0 = s.port0 := by
  obtain ⟨lanes, h, -⟩ := linkLeavesL0_boot p s
  rw [h]

/-- The statement of a link that leaves L0 in one port's registers alone. -/
theorem linkLeavesL0_left {f : PortSt → PortSt} (hf : SameBut [.links] s (modPort p f s)) :
    let t := linkLeavesL0 p (modPort p f s)
    SameBut [.links, .boot] s t ∧ (∀ q, q ≠ p → getPort t q = getPort s q) ∧
      t.boot = { s.boot with lanes := t.boot.lanes } ∧
      (s.boot.result = .running → s.boot.command = .qualify → ∀ l ∈ t.boot.lanes, l.port = p.val → l.result = 3) := by
  obtain ⟨lanes, h, hport⟩ := linkLeavesL0_boot p (modPort p f s)
  refine ⟨linkLeavesL0_frame (by decide) (hf.mono (by decide)), fun q hq => ?_, ?_, ?_⟩
  · rw [getPort_linkLeavesL0, getPort_modPort_other hq]
  · rw [h]; rfl
  · rw [h]; exact hport

/-! ### A link reaches L0 (R56, R66, R78) -/

theorem foldState_ports {α : Type} {f : α → State → State} (hf : ∀ a t, (f a t).ports = t.ports) (l : List α) :
    (foldState f l s).ports = s.ports := by
  induction l generalizing s with
  | nil => rfl
  | cons a l ih => rw [foldState, ih, hf]

theorem getPort_congr {q : Port} (h : t.ports = s.ports) : getPort t q = getPort s q := by rw [getPort, h, getPort]

theorem getPort_returnL0 (h : s.ports.length = 4) : getPort (returnL0 p s) p =
    { getPort s p with link := .l0, intx := pinsHigh s p, wakeOwners := [] } := by
  unfold returnL0
  extract_lets was high reached sent owners
  have hsent : sent.ports = reached.ports :=
    foldState_ports (fun k t => by
      split
      · rfl
      · split <;> rfl) _
  have hlen : sent.ports.length = 4 := by rw [hsent]; simpa [reached, modPort] using h
  refine Eq.trans (getPort_congr (foldState_ports (by intros; rfl) owners)) ?_
  rw [getPort_modPort hlen, getPort_congr hsent, getPort_modPort h]

theorem presentFns_ports : (presentFns p s).ports = s.ports :=
  foldState_ports (fun g t => by split <;> rfl) _

/-- A port that may train begins to (R33, R78). -/
theorem beginTraining_trains (h : mayTrain s p = true) : beginTraining p s =
    emit (.portTraining p) (modPort p (fun x => { x with link := .training }) s) := if_pos h

theorem mayTrain_beginTraining (hlen : s.ports.length = 4) : mayTrain (beginTraining p s) p = mayTrain s p := by
  unfold beginTraining
  split
  · have hperst : (getPort (modPort p (fun x => { x with link := .training }) s) p).perst = (getPort s p).perst := by
      rw [getPort_modPort hlen]
    simp only [mayTrain, getPort_emit, hperst, objNum_emit, objNum_modPort, portPresent_emit, portPresent_modPort]
  · rfl

/-- What a port that begins to train, or may not, is. -/
theorem getPort_beginTraining (hlen : s.ports.length = 4) : getPort (beginTraining p s) p =
    { getPort s p with link := if mayTrain s p then .training else (getPort s p).link } := by
  unfold beginTraining
  split
  · rw [getPort_emit, getPort_modPort hlen]
  · rfl

theorem count_ports {index sub : Nat} : (count index sub s).ports = s.ports := by
  dsimp only [count_eq]; split <;> rfl

/-! ### A link goes down, and its functions abort (R64, R67, R69) -/

theorem getPort_dropLink (hlen : s.ports.length = 4) {st : LinkState} : getPort (dropLink p st s) p =
    { getPort s p with link := st, width := 0, speed := 0, intx := [], atsHolds := [] } := by
  rw [dropLink, getPort_linkLeavesL0, getPort_modPort hlen]

/-- The parts that change once the functions of a port that falls are aborting. -/
def fallenParts : List StatePart := [.capture, .boot, .links, .intx, .ats, .sec, .port0, .counters, .int, .out]

/-- What PERST# asserted does after the aborts (R34, R67, R68). -/
theorem assertPerst_sameBut : SameBut fallenParts
    (abortPort (if s.boot.resetting then .perstInReset else .perst) p s) (assertPerst p s) := by
  have hdrop {u : State} (h : SameBut fallenParts (abortPort (if s.boot.resetting then .perstInReset else .perst) p s) u) :
      SameBut fallenParts (abortPort (if s.boot.resetting then .perstInReset else .perst) p s)
        (dropDoe p (dropLink p .down (bootStops u))) :=
    dropDoe_frame (by decide) (dropLink_frame (by decide) (bootStops_frame (by decide) h))
  unfold assertPerst
  extract_lets aborted stopped dropped awaited
  have haborted : SameBut fallenParts (abortPort (if s.boot.resetting then .perstInReset else .perst) p s) aborted := by
    simp only [aborted]
    split
    · exact SameBut.refl _ _
    · exact releaseCaptures_frame (by decide) (SameBut.refl _ _)
  refine modPort_frame (.inr (by decide)) (.inl fun _ => rfl) (.inl fun _ => rfl) (.inl fun _ => rfl) ?_
  exact SameBut.ite (awaitFallback_frame (by decide) (hdrop haborted)) (hdrop haborted)

/-- The link of a port whose PERST# is asserted. -/
theorem getPort_assertPerst (hinv : Inv s) :
    (getPort (assertPerst p s) p).perst = true ∧ (getPort (assertPerst p s) p).link = .down ∧
      (getPort (assertPerst p s) p).width = 0 := by
  unfold assertPerst
  extract_lets aborted stopped dropped awaited
  have hstopped : stopped.ports.length = 4 := by
    have haborted : Inv aborted := by
      simp only [aborted]
      split
      · exact (abortPort_ok (Ok.refl s)).inv hinv
      · exact (releaseCaptures_ok (abortPort_ok (Ok.refl s))).inv hinv
    exact ((bootStops_ok (Ok.refl aborted)).inv haborted).ports
  have hawaited : awaited.ports = dropped.ports := by simp only [awaited]; split <;> rfl
  have hdropped : dropped.ports.length = 4 := by
    have hlen := (dropLink_frame (L := fallenParts) (p := p) (st := .down) (by decide) (SameBut.refl _ stopped)).2.2
      .requests (by decide)
    have hports : dropped.ports = (dropLink p .down stopped).ports := rfl
    rw [hports]
    simpa [hstopped] using congrArg List.length hlen
  have hlink : getPort dropped p = getPort (dropLink p .down stopped) p := rfl
  rw [getPort_modPort (by rw [hawaited, hdropped]), getPort_congr hawaited, hlink, getPort_dropLink hstopped]
  exact ⟨rfl, rfl, rfl⟩

theorem assertPerst_port0 : (assertPerst 0 s).port0.awaiting = true ∧ (assertPerst 0 s).port0.mode = 0 := ⟨rfl, rfl⟩

/-- What the removal of a port does after the aborts (R69). -/
theorem removePort_sameBut : SameBut fallenParts (abortPort .surpriseRemoval p s) (removePort p s) := by
  have hdrop : SameBut fallenParts (abortPort .surpriseRemoval p s)
      (dropDoe p (dropLink p .down (abortPort .surpriseRemoval p s))) :=
    dropDoe_frame (by decide) (dropLink_frame (by decide) (SameBut.refl _ _))
  exact SameBut.ite (awaitFallback_frame (by decide) hdrop) (count_frame (by decide) hdrop)

theorem getPort_removePort (hinv : Inv s) :
    (getPort (removePort p s) p).link = .down ∧ (getPort (removePort p s) p).width = 0 := by
  have haborted : (abortPort .surpriseRemoval p s).ports.length = 4 := ((abortPort_ok (Ok.refl s)).inv hinv).ports
  have hports : (removePort p s).ports = (dropLink p .down (abortPort .surpriseRemoval p s)).ports := by
    unfold removePort
    extract_lets dropped
    split
    · rfl
    · exact count_ports
  rw [getPort_congr hports, getPort_dropLink haborted]
  exact ⟨rfl, rfl⟩

/-- The functions of a port that is removed are aborting. -/
theorem removePort_aborting (hfns : s.fns.length = 32) {g : Fun} (hg : portOf g = p) (h : (getFn s g).state ≠ .absent) :
    abortView (getFn (removePort p s) g) = (.aborting, some .surpriseRemoval) := by
  rw [removePort_sameBut.abortView (by decide), abortPort_aborting hfns (fun old => ?_) hg h]
  rcases old with _ | old
  · rfl
  · cases old <;> rfl

/-! ### A hot reset, and functions that stall (R70, R73) -/

theorem stallBegins_other {g k : Fun} (hk : k ≠ g) : abortView (getFn (stallBegins g s) k) = abortView (getFn s k) := by
  unfold stallBegins
  split
  · have hstalls : SameBut [.ctxs] (modFn g (fun x => { x with state := .stalling }) s)
        (foldState clearCycleExact (fixedCtxs s g) (noteStalls g 3 (modFn g (fun x => { x with state := .stalling }) s))) :=
      foldState_frame (fun _ _ h => clearCycleExact_frame (by decide) h)
        (noteStalls_frame (by decide) (SameBut.refl _ _))
    rw [hstalls.abortView (by decide), getFn_modFn_other hk]
  · rfl

/-- A hot reset leaves the state of every function but function 0 of its port (R70). -/
theorem resetCfg0_other {k : Fun} (hk : k ≠ fn0 p) : abortView (getFn (resetCfg0 p s) k) = abortView (getFn s k) := by
  unfold resetCfg0
  extract_lets g cfg reset stalled
  have hstalled : abortView (getFn stalled k) = abortView (getFn s k) := by
    simp only [stalled]
    split
    · rw [getFn_modFn_other hk]
    · rw [stallBegins_other hk, getFn_modFn_other hk]
  have hrest : SameBut [.counters, .intx, .int, .out, .requests, .ats, .cmds] stalled
      (clearFnCounters g (dropAts g (settleIntx s p stalled))) :=
    clearFnCounters_frame (by decide) (dropAts_frame (by decide) (settleIntx_frame (by decide) (SameBut.refl _ _)))
  rw [hrest.abortView (by decide), hstalled]

theorem resetCfg0_linkSame : LinkSame s (resetCfg0 p s) :=
  (resetCfg0_frame (L := [.counters, .intx, .requests, .ats, .fnCfg, .fnState, .mbx, .int, .ctxs, .cmds, .out]) (by decide)
    (SameBut.refl _ s)).linkSame (by decide)

/-- The state of a hot reset once the functions of its port abort. -/
def hotAborted (p : Port) (s : State) : State :=
  foldState (abortFn .hotReset) ((fnsOf p).filter fun g => fnOf g != 0) (countPort p 4 s)

theorem hotReset_eq : hotReset p s = dropDoe p (if cfgOpen (hotAborted p s) (fn0 p) then resetCfg0 p (hotAborted p s)
    else hotAborted p s) := rfl

@[simp] theorem getFn_dropDoe {g : Fun} : getFn (dropDoe p s) g = getFn s g := rfl

@[simp] theorem getPort_dropDoe {q : Port} : getPort (dropDoe p s) q = getPort s q := rfl

theorem hotReset_linkSame : LinkSame s (hotReset p s) := by
  have haborted : LinkSame s (hotAborted p s) := count_linkSame.trans (foldState_linkSame (fun _ _ => abortFn_linkSame) _)
  intro q
  rw [hotReset_eq, getPort_dropDoe]
  exact LinkSame.ite (haborted.trans resetCfg0_linkSame) haborted q

theorem fnOf_fn0 (p : Port) : fnOf (fn0 p) = 0 := Nat.mul_mod_right 8 p.val

theorem hotReset_aborting (hfns : s.fns.length = 32) {g : Fun} (hg : portOf g = p) (h0 : fnOf g ≠ 0)
    (h : (getFn s g).state ≠ .absent) (hnone : (getFn s g).abort = none) :
    abortView (getFn (hotReset p s) g) = (.aborting, some .hotReset) := by
  have hcount : SameBut [.counters, .int] s (countPort p 4 s) := count_frame (by decide) (SameBut.refl _ s)
  have hview := hcount.abortView (by decide) g
  have hlen : (countPort p 4 s).fns.length = 32 := by
    have hmbx := congrArg List.length (hcount.2.2 .mbx (by decide))
    simpa [hfns] using hmbx
  simp only [abortView, Prod.mk.injEq] at hview
  obtain ⟨hstate, habort⟩ := hview
  have hne : g ≠ fn0 p := fun heq => h0 (heq ▸ fnOf_fn0 p)
  have haborted : abortView (getFn (hotAborted p s) g) = (.aborting, some .hotReset) :=
    foldAbort_mem hlen ((fnsOf_nodup p).filter _)
    (List.mem_filter.2 ⟨mem_fnsOf.2 hg, by simpa using h0⟩) (by rwa [hstate]) (by rw [habort, hnone]; rfl)
  refine Eq.trans ?_ haborted
  rw [hotReset_eq, getFn_dropDoe]
  split
  · exact resetCfg0_other hne
  · rfl

end Ports

/-- Settles O16: each event of a link runs its one update of the port once its conditions hold. -/
theorem linksTrain : Obligations.LinksTrain := by
  intro s hinv left
  refine ⟨fun p hpresent hperst => ?released, fun p width speed hp hmay hcarries hon hwidth hlanes hspeed => ?up,
    fun p hlink => ?returns, fun p width hp hcarries => ?recovers, fun p hp hlink => ?aspm,
    fun p hcarries hoff => ?turnOff, fun p hoff hquiet => ?ack, fun p hp hmay hcarries => ?refused⟩
  case released =>
    refine Gives.of_eq rfl (if_pos (by simp [hpresent, hperst])) ?_
    unfold deassertPerst
    extract_lets woken released
    have hwoken : woken.ports = s.ports := by simp only [woken]; split <;> rfl
    have hlen : (if p = 0 then { released with idle := 0 } else released).ports.length = 4 := by
      have : released.ports.length = 4 := by simpa [released, modPort, hwoken] using hinv.ports
      split <;> exact this
    have hport : getPort (if p = 0 then { released with idle := 0 } else released) p =
        { getPort s p with perst := false, wake := false, turnOff := .none, switchedOff := false } := by
      have hreleased : getPort released p =
          { getPort s p with perst := false, wake := false, turnOff := .none, switchedOff := false } := by
        rw [getPort_modPort (by rw [hwoken, hinv.ports]), getPort_congr hwoken]
      split <;> exact hreleased
    rw [getPort_beginTraining hlen, hport]
    refine ⟨rfl, rfl, rfl, rfl, fun h => ?_⟩
    rw [mayTrain_beginTraining hlen] at h
    rw [beginTraining_trains h]
    exact ⟨if_pos h, List.mem_cons_self⟩
  case up =>
    have hok : linkUpOk s p width speed = true := by
      simp [linkUpOk, hp, hmay, hcarries, hon, hwidth, hlanes, hspeed]
    refine Gives.of_eq rfl (if_pos hok) ?_
    rw [getPort_returnL0 (by rw [presentFns_ports]; simpa [modPort] using hinv.ports), getPort_congr presentFns_ports,
      getPort_modPort hinv.ports]
    exact ⟨rfl, rfl, rfl, rfl, rfl⟩
  case returns =>
    have hexec : exec (.linkL0Return p) s = .next (returnL0 p s) := by
      rw [show exec (.linkL0Return p) s = execLinkL0Return p s from rfl, execLinkL0Return]
      rcases hlink with h | h | h <;> rw [h]
    refine Gives.of_eq hexec rfl ?_
    rw [getPort_returnL0 hinv.ports]
    exact ⟨rfl, rfl, rfl⟩
  case recovers =>
    refine Gives.of_eq rfl (if_pos (by simp [hp, hcarries])) ⟨linkLeavesL0_left ?_, ?_⟩
    · exact modPort_frame (.inr (by decide)) (.inl fun _ => rfl) (.inl fun _ => rfl) (.inl fun _ => rfl) (SameBut.refl _ s)
    · rw [getPort_linkLeavesL0, getPort_modPort hinv.ports]
      simp
  case aspm =>
    refine Gives.of_eq rfl (if_pos (by simp [hp, hlink])) ⟨linkLeavesL0_left ?_, ?_⟩
    · exact modPort_frame (.inr (by decide)) (.inl fun _ => rfl) (.inl fun _ => rfl) (.inl fun _ => rfl) (SameBut.refl _ s)
    · rw [getPort_linkLeavesL0, getPort_modPort hinv.ports]
  case turnOff =>
    rw [show exec (.pmeTurnOff p) s = execPmeTurnOff p s from rfl, execPmeTurnOff, if_pos (by simp [hcarries, hoff])]
  case ack =>
    refine Gives.of_eq rfl (if_pos (by simp [hoff, hquiet])) ⟨?_, by simp, fun q hq => ?_⟩
    · rw [getPort_emit, getPort_linkLeavesL0, getPort_modPort hinv.ports]
    · rw [getPort_emit, getPort_linkLeavesL0, getPort_modPort_other hq]
  case refused =>
    refine Gives.of_eq rfl (if_pos (by simp [hp, hmay, hcarries])) ⟨?_,
      fun h => counted_count (modPort p (fun x => { x with link := .down }) s) (0xD010 + p.val) 2 h, fun q hq => ?_⟩
    · rw [countPort, getPort_congr count_ports, getPort_modPort hinv.ports]
    · rw [countPort, getPort_congr count_ports, getPort_modPort_other hq]

theorem abortView_eq {x : FnSt} {st : FnState} {ev : Option AbortEvent} (h : abortView x = (st, ev)) :
    x.state = st ∧ x.abort = ev := Prod.mk.inj h

/-- Settles O17: an event that takes a port down aborts its functions first, and the rest of it leaves their states. -/
theorem portsFall : Obligations.PortsFall := by
  intro s hinv
  refine ⟨fun p hpresent hperst => ?perst, fun p hp hdown hdisabled hacked => ?surprise, fun p k hcarries => ?malformed,
    fun p hcarries => ?hot, fun rq p hacc hwas => ?disabled, fun rq p hacc hwas => ?enabled,
    fun hmode hcarries => ?lost⟩
  case perst =>
    refine Gives.of_eq rfl (if_pos (by simp [hpresent, hperst])) ?_
    obtain ⟨hasserted, hlink, hwidth⟩ := getPort_assertPerst (p := p) hinv
    refine ⟨hasserted, hlink, hwidth, fun h => ?_, fun g hg hstate => ?_⟩
    · subst h; exact assertPerst_port0
    · apply abortView_eq
      rw [assertPerst_sameBut.abortView (by decide), abortPort_aborting hinv.fns (fun old => ?_) hg hstate]
      split
      · rcases old with _ | old
        · rfl
        · cases old <;> rfl
      · rcases old with _ | old
        · rfl
        · cases old <;> rfl
  case surprise =>
    refine Gives.of_eq (t := removePort p s) rfl ?_ ?_
    · simp [hp, hdown, hdisabled, hacked]
    · obtain ⟨hlink, hwidth⟩ := getPort_removePort (p := p) hinv
      exact ⟨hlink, hwidth, fun g hg hstate => abortView_eq (removePort_aborting hinv.fns hg hstate)⟩
  case malformed =>
    have haer : SameBut [.fnCfg, .out] s (aerUncorrectable (fn0 p) (tlpFaultBit k) s) :=
      aerUncorrectable_frame (by decide) (SameBut.refl _ s)
    have hinv' : Inv (aerUncorrectable (fn0 p) (tlpFaultBit k) s) := (aerUncorrectable_ok (Ok.refl s)).inv hinv
    refine Gives.of_eq rfl (if_pos hcarries) ?_
    obtain ⟨hlink, hwidth⟩ := getPort_removePort (p := p) hinv'
    refine ⟨hlink, hwidth, fun g hg hstate => ?_⟩
    obtain ⟨hstate', -⟩ := Prod.mk.inj (haer.abortView (by decide) g)
    exact (abortView_eq (removePort_aborting hinv'.fns hg (by rwa [hstate']))).1
  case hot =>
    refine Gives.of_eq rfl (if_pos hcarries) ⟨(Prod.mk.inj (hotReset_linkSame p)).1, fun g hg h0 hstate hnone => ?_⟩
    exact abortView_eq (hotReset_aborting hinv.fns hg h0 hstate hnone)
  case disabled =>
    refine Gives.of_eq rfl (requestWrite_accepted hacc rfl) ?_
    have hput : SameBut [.od, .stored, .counters, .mgmt, .int, .out] s
        (putObj ⟨0x2010 + p.val, 1⟩ (.num 0) (emit (.objectStatus rq ⟨0x2010 + p.val, 1⟩ .ok) s)) :=
      putObj_frame (by decide) (emit_frame (by decide) (SameBut.refl _ s))
    have hinv' : Inv (putObj ⟨0x2010 + p.val, 1⟩ (.num 0) (emit (.objectStatus rq ⟨0x2010 + p.val, 1⟩ .ok) s)) :=
      (putObj_ok (emit_ok (Ok.refl s))).inv hinv
    have hset : setPortEnable p false (emit (.objectStatus rq ⟨0x2010 + p.val, 1⟩ .ok) s) =
        dropDoe p (dropLink p .disabled (abortPort .portDisable p
          (putObj ⟨0x2010 + p.val, 1⟩ (.num 0) (emit (.objectStatus rq ⟨0x2010 + p.val, 1⟩ .ok) s)))) := by
      simp [setPortEnable, hwas]
    rw [hset, getPort_dropDoe, getPort_dropLink ((abortPort_ok (Ok.refl _)).inv hinv').ports]
    refine ⟨rfl, rfl, fun g hg hstate => ?_⟩
    have hdropped : SameBut [.links, .intx, .ats, .boot] _ (dropLink p .disabled (abortPort .portDisable p
        (putObj ⟨0x2010 + p.val, 1⟩ (.num 0) (emit (.objectStatus rq ⟨0x2010 + p.val, 1⟩ .ok) s)))) :=
      dropLink_frame (by decide) (SameBut.refl _ _)
    obtain ⟨hstate', -⟩ := Prod.mk.inj (hput.abortView (by decide) g)
    refine (abortView_eq (ev := some .portDisable) ?_).1
    rw [getFn_dropDoe, hdropped.abortView (by decide), abortPort_aborting hinv'.fns (fun old => ?_) hg (by rwa [hstate'])]
    rcases old with _ | old
    · rfl
    · cases old <;> rfl
  case enabled =>
    refine Gives.of_eq rfl (requestWrite_accepted hacc rfl) ?_
    have hinv' : Inv (putObj ⟨0x2010 + p.val, 1⟩ (.num 1) (emit (.objectStatus rq ⟨0x2010 + p.val, 1⟩ .ok) s)) :=
      (putObj_ok (emit_ok (Ok.refl s))).inv hinv
    have hdropped : (dropLink p .down
        (putObj ⟨0x2010 + p.val, 1⟩ (.num 1) (emit (.objectStatus rq ⟨0x2010 + p.val, 1⟩ .ok) s))).ports.length = 4 :=
      ((dropLink_ok (Ok.refl _)).inv hinv').ports
    have hset : setPortEnable p true (emit (.objectStatus rq ⟨0x2010 + p.val, 1⟩ .ok) s) =
        beginTraining p (dropLink p .down
          (putObj ⟨0x2010 + p.val, 1⟩ (.num 1) (emit (.objectStatus rq ⟨0x2010 + p.val, 1⟩ .ok) s))) := by
      simp [setPortEnable, hwas]
    rw [hset, mayTrain_beginTraining hdropped, getPort_beginTraining hdropped, getPort_dropLink hinv'.ports]
    exact ⟨rfl, rfl⟩
  case lost =>
    refine Gives.of_eq rfl (if_pos (by simp [hmode, hcarries])) ?_
    have hraised : SameBut [.od, .stored, .counters, .mgmt, .links, .intx, .fnCfg, .int, .capture, .err, .power, .out]
        (dropLink 0 .down (modPort0 (fun x => { x with mode := 2, training := false }) s)) (raiseError .port0LinkLost
          { kind := 1, unit := 0, access := 7 }
          (dropLink 0 .down (modPort0 (fun x => { x with mode := 2, training := false }) s))) :=
      raiseError_frame (by decide) (SameBut.refl _ _)
    have hport0 : ∀ t : State, StatePart.same
        (dropLink 0 .down (modPort0 (fun x => { x with mode := 2, training := false }) s)) t .port0 →
        t.port0.mode = 2 ∧ t.port0.training = false := by
      intro t h
      have h' : t.port0 = _ := h
      rw [h', dropLink, linkLeavesL0_port0]
      exact ⟨rfl, rfl⟩
    obtain ⟨hmode', htraining⟩ := hport0 _ (hraised.2.2 .port0 (by decide))
    have hlink := raiseError_linkSame (e := .port0LinkLost) (i := { kind := 1, unit := 0, access := 7 })
      (s := dropLink 0 .down (modPort0 (fun x => { x with mode := 2, training := false }) s)) 0
    rw [getPort_dropLink (s := modPort0 (fun x => { x with mode := 2, training := false }) s) hinv.ports] at hlink
    simp only [linkCore, Prod.mk.injEq] at hlink
    obtain ⟨hdown, hwidth, -⟩ := hlink
    exact ⟨hmode', htraining, hdown, hwidth⟩

/-- A function of which the configuration is open is present, and no abort of it is under way. -/
theorem cfgOpen_iff {s : State} {g : Fun} : cfgOpen s g = true ↔
    fnPresent s g = true ∧ (getFn s g).state ≠ .reset ∧ (getFn s g).abort = none := by
  simp [cfgOpen, and_assoc]

/-- The function whose abort ends (R67, R70). -/
def abortEnded (s : State) (g : Fun) (ev : AbortEvent) (x : FnSt) : FnSt :=
  { x with
    cfg := defaultCfg s g, state := stateAfter s g ev, abort := none, resetGtc := s.gtc, mbx := MbxSt.init
    admin := AdminQ.init, faultq := FaultQ.init, int := IntSt.init
    capture := if releasesCapture ev then Capture.init else x.capture }

/-- The end of an abort touches its own function alone, and then no function. -/
theorem endAbort_sameBut {s : State} (ev : AbortEvent) (g : Fun) :
    SameBut [.pool, .requests, .ats, .cmds, .counters] (modFn g (abortEnded s g ev) s) (endAbort ev g s) :=
  clearFnCounters_frame (by decide) (dropAts_frame (by decide) (scrubExtent_frame (by decide) (SameBut.refl _ _)))

theorem supersedes_functionDisable (old : Option AbortEvent) : supersedes old .functionDisable = true := by
  rcases old with _ | old
  · rfl
  · cases old <;> rfl

/-- The answer of a write and the value it stores. -/
theorem putObj_answered_sameBut (s : State) (rq : Requester) (ref : Ref) (v : Val) :
    SameBut [.od, .stored, .counters, .mgmt, .int, .out] s (putObj ref v (emit (.objectStatus rq ref .ok) s)) :=
  putObj_frame (by decide) (emit_frame (by decide) (SameBut.refl _ s))

/-- FunctionEnable written 1 on a ready package whose port's link carries packets (R77). -/
theorem setFnEnable_true {s : State} {rq : Requester} {g : Fun} (hput : SameBut [.od, .stored, .counters, .mgmt, .int, .out] s
      (putObj ⟨0x2100 + g.val, 1⟩ (.num 1) (emit (.objectStatus rq ⟨0x2100 + g.val, 1⟩ .ok) s)))
    (hoff : fnEnabled s g = false) (hnone : (getFn s g).abort = none) (hpresent : portPresent s (portOf g) = true)
    (hcarries : portCarries s (portOf g) = true) (hready : isReady s = true)
    (henabled : fnEnabled (putObj ⟨0x2100 + g.val, 1⟩ (.num 1)
      (emit (.objectStatus rq ⟨0x2100 + g.val, 1⟩ .ok) s)) g = true) :
    setFnEnable g true (emit (.objectStatus rq ⟨0x2100 + g.val, 1⟩ .ok) s) =
      let t := putObj ⟨0x2100 + g.val, 1⟩ (.num 1) (emit (.objectStatus rq ⟨0x2100 + g.val, 1⟩ .ok) s)
      modFn g (fun x => { x with state := .active, cfg := defaultCfg t g }) t := by
  generalize ht : putObj ⟨0x2100 + g.val, 1⟩ (.num 1) (emit (.objectStatus rq ⟨0x2100 + g.val, 1⟩ .ok) s) = t at *
  have hboot : t.boot = s.boot := hput.2.2 .boot (by decide)
  obtain ⟨-, habort⟩ := Prod.mk.inj (hput.abortView (by decide) g)
  have hcarries' : portCarries t (portOf g) = true := by
    rw [portCarries, hput.getPort (by decide), ← portCarries, hcarries]
  have hpresent' : presentState t g = .active := by
    have hport : portPresent t (portOf g) = true := by rw [portPresent, hput.1, ← portPresent, hpresent]
    have hready' : isReady t = true := by rw [isReady, hboot, ← isReady, hready]
    simp [presentState, hport, henabled, hready']
  simp [setFnEnable, ht, hoff, habort, hnone, hcarries', hpresent']

/-- Settles O18: one abort, its end, and the two writes of FunctionEnable, by what each does to its function and by the
frame of what follows. -/
theorem functionsAbort : Obligations.FunctionsAbort := by
  intro s hinv
  refine ⟨fun g h0 hopen => ?flr, fun g ev hev hover => ?ends, fun rq g hacc hon hstate => ?disabled,
    fun rq g hacc hoff hnone hpresent hcarries hready => ?enabled⟩
  case flr =>
    obtain ⟨hpresent, -, hnone⟩ := cfgOpen_iff.1 hopen
    have hexec : exec (.functionLevelReset g) s = .next (abortFn .flr g s) := by
      simp [show exec (.functionLevelReset g) s = execFunctionLevelReset g s from rfl, execFunctionLevelReset, cfgWrite,
        hopen, h0]
    refine Gives.of_eq hexec rfl ?_
    obtain ⟨hstate, habort⟩ := abortView_eq (abortFn_same hinv.fns (ev := .flr) (g := g) (by simpa [fnPresent] using hpresent)
      (by rw [hnone]; rfl))
    exact ⟨hstate, habort, fun k hk => Prod.mk.inj (abortFn_other hk)⟩
  case ends =>
    have hexec : exec (.functionResetComplete g) s = .next (endAbort ev g s) := by
      simp [show exec (.functionResetComplete g) s = execFunctionResetComplete g s from rfl, execFunctionResetComplete,
        hev, hover]
    refine Gives.of_eq hexec rfl ?_
    have hrest := endAbort_sameBut (s := s) ev g
    have hsame (k : Fun) : getFn (endAbort ev g s) k = getFn (modFn g (abortEnded s g ev) s) k :=
      hrest.getFn (by decide) k
    refine ⟨?_, ?_, ?_, ?_, ?_, ?_, ?_, ?_, fun k hk => ?others⟩
    case others => rw [hsame, getFn_modFn_other hk]
    all_goals rw [hsame, getFn_modFn hinv.fns]; rfl
  case disabled =>
    have hput := putObj_answered_sameBut s rq ⟨0x2100 + g.val, 1⟩ (.num 0)
    have hset : setFnEnable g false (emit (.objectStatus rq ⟨0x2100 + g.val, 1⟩ .ok) s) = abortFn .functionDisable g
        (putObj ⟨0x2100 + g.val, 1⟩ (.num 0) (emit (.objectStatus rq ⟨0x2100 + g.val, 1⟩ .ok) s)) := by
      simp [setFnEnable, hon]
    refine Gives.of_eq rfl ((requestWrite_accepted hacc rfl).trans hset) ?_
    obtain ⟨hstate', -⟩ := Prod.mk.inj (hput.abortView (by decide) g)
    obtain ⟨haborting, hevent⟩ := abortView_eq (abortFn_same (ev := .functionDisable) (g := g)
      ((hput.fns_length (by decide)).trans hinv.fns) (by rwa [hstate']) (supersedes_functionDisable _))
    refine ⟨haborting, hevent, fun k hk => ?_⟩
    obtain ⟨hother, -⟩ := Prod.mk.inj ((abortFn_other hk).trans (hput.abortView (by decide) k))
    exact hother
  case enabled =>
    have hput := putObj_answered_sameBut s rq ⟨0x2100 + g.val, 1⟩ (.num 1)
    have henabled : fnEnabled (putObj ⟨0x2100 + g.val, 1⟩ (.num 1)
        (emit (.objectStatus rq ⟨0x2100 + g.val, 1⟩ .ok) s)) g = true := by
      have hval := objVal_putObj (s := emit (.objectStatus rq ⟨0x2100 + g.val, 1⟩ .ok) s)
        (ref := ⟨0x2100 + g.val, 1⟩) (v := .num 1)
      rw [fnEnabled, objNum, hval]
      rfl
    have hset := setFnEnable_true (s := s) (rq := rq) hput hoff hnone hpresent hcarries hready henabled
    refine Gives.of_eq rfl ((requestWrite_accepted hacc rfl).trans hset) ⟨?_, ?_, ?_, fun k hk => ?_⟩
    · rw [getFn_modFn ((hput.fns_length (by decide)).trans hinv.fns)]
    · rw [fnEnabled_modFn, henabled]
    · rw [getFn_modFn ((hput.fns_length (by decide)).trans hinv.fns)]; rfl
    · rw [getFn_modFn_other hk]
      exact (Prod.mk.inj (hput.abortView (by decide) k)).1

end Sys2Proof.Machine
end

section
/-!
SUPPORT and CLAIM. Stalls and power of a function (02_host_endpoint, R43, R45, R46, R73, R74): what its configuration,
its state and its abort are after held records go and admin entries are asked for, and the obligation O19.
-/
namespace Sys2Proof.Machine

section Stalls
variable {s t u : State} {g k : Fun}

/-! ### Configuration, state and abort of every function -/

abbrev cfgView (x : FnSt) : FnCfg × FnState × Option AbortEvent := (x.cfg, x.state, x.abort)

/-- Every function keeps its configuration, its state and its abort. -/
def CfgSame (s t : State) : Prop := ∀ g : Fun, cfgView (getFn t g) = cfgView (getFn s g)

theorem CfgSame.refl (s : State) : CfgSame s s := fun _ => rfl

theorem CfgSame.trans (h : CfgSame s t) (k : CfgSame t u) : CfgSame s u := fun g => (k g).trans (h g)

theorem CfgSame.cfg (h : CfgSame s t) (g : Fun) : (getFn t g).cfg = (getFn s g).cfg := (Prod.mk.inj (h g)).1

theorem CfgSame.state (h : CfgSame s t) (g : Fun) : (getFn t g).state = (getFn s g).state :=
  (Prod.mk.inj (Prod.mk.inj (h g)).2).1

theorem SameBut.cfgSame {L : List StatePart} (h : SameBut L s t) (hc : .fnCfg ∉ L) (hs : .fnState ∉ L) :
    CfgSame s t := by
  intro g
  have hstate := h.fn_fnState hs g
  simp only [FnSt.fnStatePart, Prod.mk.injEq] at hstate
  simp [cfgView, h.fn_fnCfg hc g, hstate]

theorem OnlyForms.cfgSame (h : OnlyForms s t) : CfgSame s t := by
  intro g
  obtain ⟨es, hes⟩ := h g
  rw [hes]

theorem modInt_cfgSame {f : IntSt → IntSt} : CfgSame s (modInt g f s) := by
  intro k
  rcases getFn_modFn_cases (s := s) g k _ with h | h <;> rw [modInt, h]

theorem foldState_cfgSame {α : Type} {f : α → State → State} {P : FnCfg → Prop}
    (hf : ∀ a s, P (getFn s g).cfg → CfgSame s (f a s)) (l : List α) (h : P (getFn s g).cfg) :
    CfgSame s (foldState f l s) := by
  induction l generalizing s with
  | nil => exact CfgSame.refl s
  | cons a l ih =>
    have ha := hf a s h
    exact ha.trans (ih (by rwa [ha.cfg]))

/-! ### Records that are released outside D3hot -/

/-- The weir of a function that is not in D3hot signals no PME. -/
theorem runWeir_cfgSame {before : State} (h : (getFn s g).cfg.d3hot = false) : CfgSame s (runWeir g before s) := by
  unfold runWeir
  split
  · exact CfgSame.refl s
  · extract_lets w was s1 f s2
    have h1 : CfgSame s s1 := modInt_cfgSame
    have hd3 : f.cfg.d3hot = false := by rw [show f.cfg = (getFn s g).cfg from h1.cfg g, h]
    have h2 : s2 = s1 := if_neg (by simp [hd3])
    rw [h2]
    exact h1.trans settleIntx_onlyForms.cfgSame

theorem setLatch_cfgSame {n : Nat} (h : (getFn s g).cfg.d3hot = false) : CfgSame s (setLatch g n s) := by
  unfold setLatch
  dsimp only
  split
  · split
    · exact modInt_cfgSame.trans saturated_onlyForms.cfgSame
    · exact modInt_cfgSame
  · exact modInt_cfgSame.trans (runWeir_cfgSame (by rw [modInt_cfgSame.cfg, h]))

theorem fire_cfgSame {n : Nat} (h : (getFn s g).cfg.d3hot = false) : CfgSame s (fire g n s) := by
  have hwake : CfgSame s (wakeFires (.source g n) s) := wakeFires_onlyForms.cfgSame
  rw [fire]
  split
  · exact hwake.trans (setLatch_cfgSame (by rw [hwake.cfg, h]))
  · exact hwake

theorem putRecord_cfgSame {r : Nat} {x : Ring} {e : EvRec} (h : (getFn s g).cfg.d3hot = false) :
    CfgSame s (putRecord g r x e s) := by
  unfold putRecord
  split
  · exact CfgSame.refl s
  · have hwrite (a : Nat) (b : Bytes) : CfgSame s (setRing g r { x with producer := x.producer + 1 } (hostWrite g a none b s)) :=
      (hostWrite_frame (L := [.ats, .out]) (fun _ h => h) (SameBut.refl _ s)).cfgSame (by decide) (by decide)
        |>.trans modInt_cfgSame
    exact (hwrite _ _).trans (fire_cfgSame (by rw [(hwrite _ _).cfg, h]))

theorem tryOverflow_cfgSame {r : Nat} (h : (getFn s g).cfg.d3hot = false) : CfgSame s (tryOverflow g r s) := by
  unfold tryOverflow
  split
  · exact CfgSame.refl s
  · split
    · exact putRecord_cfgSame h
    · exact CfgSame.refl s

theorem deliverRecord_cfgSame {held : Bool} {e : EvRec} (h : (getFn s g).cfg.d3hot = false) :
    CfgSame s (deliverRecord g held e s) := by
  unfold deliverRecord
  split
  · exact count_onlyForms.cfgSame
  · split
    · exact putRecord_cfgSame h
    · rename_i x _ _
      have hdrop : CfgSame s (dropRecord g e.ring x s) := modInt_cfgSame.trans count_onlyForms.cfgSame
      exact hdrop.trans (tryOverflow_cfgSame (by rw [hdrop.cfg, h]))

/-- The records held while a function stalled go without a change of any configuration or state. -/
theorem releaseHeld_cfgSame : CfgSame s (releaseHeld g s) := by
  unfold releaseHeld
  split
  · exact CfgSame.refl s
  · rename_i hstalled
    have hd3 : (getFn s g).cfg.d3hot = false := by
      simp only [fnStalled, Bool.or_eq_true, not_or] at hstalled
      simpa using hstalled.1.2
    extract_lets delivered
    have hdelivered : CfgSame s delivered := foldState_cfgSame (P := fun c => c.d3hot = false)
      (fun e t ht => modInt_cfgSame.trans (deliverRecord_cfgSame (by rw [modInt_cfgSame.cfg, ht]))) _ hd3
    exact hdelivered.trans (foldState_cfgSame (P := fun c => c.d3hot = false) (fun r t ht => tryOverflow_cfgSame ht) _
      (by rw [hdelivered.cfg, hd3]))

/-! ### Stalls begin and end (R73) -/

/-- A function that no longer stalls is ACTIVE, and nothing else of its configuration and state changes. -/
theorem stallEnds_ended (h : fnStalled s g = false) (hstate : (getFn s g).state = .stalling ∨ (getFn s g).state = .stalled) :
    CfgSame (modFn g (fun x => { x with state := .active }) s) (stallEnds g s) := by
  unfold stallEnds
  extract_lets f
  have hcond : (!fnStalled s g && (f.state == .stalling || f.state == .stalled)) = true := by
    simpa [h, f] using hstate
  rw [if_pos hcond]
  have hnote (v : State) : CfgSame v (askAdmin g (noteStalls g 4 v)) :=
    (askAdmin_frame (L := [.ctxs, .counters, .requests, .ats, .int, .out]) (by decide)
      (noteStalls_frame (by decide) (SameBut.refl _ v))).cfgSame (by decide) (by decide)
  exact releaseHeld_cfgSame.trans (hnote _)

theorem stallEnds_not (hstate : (getFn s g).state ≠ .stalling) (hstate' : (getFn s g).state ≠ .stalled) :
    stallEnds g s = s := by
  simp [stallEnds, hstate, hstate']

theorem modState_cfg {st : FnState} : (getFn (modFn g (fun x => { x with state := st }) s) k).cfg = (getFn s k).cfg := by
  rcases getFn_modFn_cases (s := s) g k _ with h | h <;> rw [h]

/-- The end of a stall changes no configuration, and no state but its function's. -/
theorem stallEnds_cfg : (getFn (stallEnds g s) k).cfg = (getFn s k).cfg := by
  by_cases hcond : fnStalled s g = false ∧ ((getFn s g).state = .stalling ∨ (getFn s g).state = .stalled)
  · rw [(stallEnds_ended hcond.1 hcond.2).cfg, modState_cfg]
  · have hsame : stallEnds g s = s := by
      unfold stallEnds
      exact if_neg (by simpa using hcond)
    rw [hsame]

theorem stallEnds_other (hk : k ≠ g) : (getFn (stallEnds g s) k).state = (getFn s k).state := by
  by_cases hcond : fnStalled s g = false ∧ ((getFn s g).state = .stalling ∨ (getFn s g).state = .stalled)
  · rw [(stallEnds_ended hcond.1 hcond.2).state, getFn_modFn_other hk]
  · have hsame : stallEnds g s = s := by
      unfold stallEnds
      exact if_neg (by simpa using hcond)
    rw [hsame]

/-- An ACTIVE function that begins to stall is STALLING. -/
theorem stallBegins_begun (h : (getFn s g).state = .active) :
    CfgSame (modFn g (fun x => { x with state := .stalling }) s) (stallBegins g s) := by
  have hctxs : SameBut [.ctxs] (modFn g (fun x => { x with state := .stalling }) s)
      (foldState clearCycleExact (fixedCtxs s g) (noteStalls g 3 (modFn g (fun x => { x with state := .stalling }) s))) :=
    foldState_frame (fun _ _ h => clearCycleExact_frame (by decide) h)
      (noteStalls_frame (by decide) (SameBut.refl _ _))
  rw [stallBegins, if_pos h]
  exact hctxs.cfgSame (by decide) (by decide)

theorem stallBegins_cfg : (getFn (stallBegins g s) k).cfg = (getFn s k).cfg := by
  by_cases h : (getFn s g).state = .active
  · rw [(stallBegins_begun h).cfg, modState_cfg]
  · rw [stallBegins, if_neg h]

/-! ### Writes of the Command register and of the power state -/

/-- The Command register takes a value within the bits that are implemented. -/
def commanded (v : Nat) (c : FnCfg) : FnCfg := { c with command := BitVec.ofNat 16 v &&& 0x0546 }

/-- The state of a write of Command once the function stalls or goes on. -/
def commandStalls (g : Fun) (v : Nat) (s : State) : State :=
  let s1 := modCfg g (commanded v) s
  if !fnStalled s1 g then stallEnds g s1 else if fnStalled s g then s1 else stallBegins g s1

theorem writeCommand_cfgSame {v : Nat} : CfgSame (commandStalls g v s) (writeCommand g v s) := by
  have hissue (w : State) : CfgSame w (issueImage w) :=
    (issueImage_frame (L := [.counters, .requests, .ats, .int, .boot, .out]) (by decide) (SameBut.refl _ w)).cfgSame (by decide) (by decide)
  have hrest : CfgSame (commandStalls g v s) (issueImage (settleIntx s (portOf g) (commandStalls g v s))) :=
    settleIntx_onlyForms.cfgSame.trans (hissue _)
  exact hrest

theorem writeCommand_cfg (hfns : s.fns.length = 32) {v : Nat} :
    (getFn (writeCommand g v s) g).cfg = commanded v (getFn s g).cfg := by
  rw [writeCommand_cfgSame.cfg, commandStalls]
  split
  · rw [stallEnds_cfg, getFn_modCfg hfns]
  · split
    · rw [getFn_modCfg hfns]
    · rw [stallBegins_cfg, getFn_modCfg hfns]

theorem writeCommand_other {v : Nat} (hk : k ≠ g) : (getFn (writeCommand g v s) k).cfg = (getFn s k).cfg ∧
    (getFn (writeCommand g v s) k).state = (getFn s k).state := by
  rw [writeCommand_cfgSame.cfg, writeCommand_cfgSame.state, commandStalls]
  split
  · rw [stallEnds_cfg, stallEnds_other hk, getFn_modCfg_other hk]
    exact ⟨rfl, rfl⟩
  · split
    · rw [getFn_modCfg_other hk]
      exact ⟨rfl, rfl⟩
    · have hview := stallBegins_other (s := modCfg g (commanded v) s) hk
      rw [stallBegins_cfg, (Prod.mk.inj hview).1, getFn_modCfg_other hk]
      exact ⟨rfl, rfl⟩

/-- The bits of Command that are hard-wired to 0 stay 0, so the mask of the others changes nothing. -/
theorem command_masked {c : U16} (h : c &&& 0xFAB9 = 0) : c &&& 0x0546 = c := by
  have hall : c &&& (0x0546 ||| 0xFAB9 : U16) = c := by
    rw [show (0x0546 ||| 0xFAB9 : U16) = BitVec.allOnes 16 from by decide, BitVec.and_allOnes]
  rw [BitVec.and_or_distrib_left, h] at hall
  simpa using hall

theorem ofNat_command_and {c m : U16} : BitVec.ofNat 16 (c.toNat &&& m.toNat) = c &&& m := by
  apply BitVec.eq_of_toNat_eq; simp

theorem ofNat_command_or {c m : U16} : BitVec.ofNat 16 (c.toNat ||| m.toNat) = c ||| m := by
  apply BitVec.eq_of_toNat_eq
  rw [← BitVec.toNat_or]; simp

/-- Entry into D3hot, up to its INTx (R43, R66, R73). -/
theorem enterD3_cfgSame : CfgSame (stallBegins g (modCfg g (fun c => { c with d3hot := true }) s)) (enterD3 g s) := by
  unfold enterD3
  extract_lets p s1 s2
  have h2 : CfgSame s1 s2 := settleIntx_onlyForms.cfgSame
  split
  · intro k
    rw [getFn_linkLeavesL0]
    exact h2 k
  · exact h2

/-- An ATS or PASID enable that is cleared touches the function's configuration and its port's translations (R48). -/
theorem clearAts_frame_after {pasid : Bool} : SameBut [.requests, .ats, .cmds] (modCfg g (fun c =>
    if pasid then { c with pasidEnable := false } else { c with atsEnable := false }) s) (clearAts g pasid s) :=
  dropWaits_frame (by decide) (dropAts_frame (by decide) (SameBut.refl _ _))

theorem forgetAts_ats (hports : s.ports.length = 4) {p : Port} {hit : AtsEntry → Bool} :
    (getPort (forgetAts p hit s) p).ats = (getPort s p).ats.filter fun e => !hit e := by
  unfold forgetAts
  extract_lets gone s1
  have h1 : (getPort s1 p).ats = (getPort s p).ats.filter fun e => !hit e := by
    simp only [s1]; rw [getPort_modPort hports]
  split
  · exact h1
  · rw [← h1]
    have hreads : SameBut [.requests, .cmds] s1 (foldState (fun x s => match ctx? s x.ctx, x.xfer.bind (·.tile) with
        | some cx, some t =>
          if portOf cx.fn = p && !t.begun then
            dropReads cx.fn x.ctx x.q (fun pos n => gone.any fun e => t.src.any fun r =>
              readThrough (stuBytes s e.fn) e r pos n) s
          else s
        | _, _ => s) s1.cmd.table s1) := by
      refine foldState_frame (fun x t h => ?_) (SameBut.refl _ _)
      split
      · exact SameBut.ite (dropReads_frame (by decide) h) h
      · exact h
    exact (Prod.mk.inj (hreads.port_ats (by decide) p)).1

theorem clearAts_ats (hinv : Inv s) {pasid : Bool} : (getPort (clearAts g pasid s) (portOf g)).ats =
    (getPort s (portOf g)).ats.filter fun e => e.fn != g := by
  have hats : (getPort (dropAts g (modCfg g (fun c =>
      if pasid then { c with pasidEnable := false } else { c with atsEnable := false }) s)) (portOf g)).ats =
      (getPort s (portOf g)).ats.filter fun e => e.fn != g :=
    forgetAts_ats (s := modCfg g (fun c =>
      if pasid then { c with pasidEnable := false } else { c with atsEnable := false }) s) hinv.ports
  rw [← hats, clearAts]
  rcases getPort_modPort_cases (portOf g) (portOf g) (fun x => { x with
    waits := x.waits.filter fun w => !(w.fn == g && w.pasid.isSome) }) with h | h <;> rw [dropWaits, h]

theorem commanded_clear {c : FnCfg} (h : c.command &&& 0xFAB9 = 0) :
    commanded (c.command.toNat &&& 0xFFFB) c = { c with command := c.command &&& 0xFFFB } := by
  have hand : c.command &&& 0xFFFB &&& 0x0546 = c.command &&& 0xFFFB := by
    rw [BitVec.and_assoc, BitVec.and_comm 0xFFFB, ← BitVec.and_assoc, command_masked h]
  rw [commanded, show 0xFFFB = (0xFFFB : U16).toNat from rfl, ofNat_command_and]
  exact congrArg (fun x => { c with command := x }) hand

theorem commanded_set {c : FnCfg} (h : c.command &&& 0xFAB9 = 0) :
    commanded (c.command.toNat ||| 4) c = { c with command := c.command ||| 4 } := by
  have hor : (c.command ||| 4) &&& 0x0546 = c.command ||| 4 := by
    rw [BitVec.and_comm, BitVec.and_or_distrib_left, BitVec.and_comm _ c.command, command_masked h]
    rfl
  rw [commanded, show 4 = (4 : U16).toNat from rfl, ofNat_command_or]
  exact congrArg (fun x => { c with command := x }) hor

/-- A write of Interrupt Disable keeps the other bits of Command (R43). -/
theorem command_and_intx {c : U16} (h : c &&& 0xFAB9 = 0) : c &&& 0xFBFF &&& 0x0546 &&& 0xFBFF = c &&& 0xFBFF := by
  have hbits : (0xFBFF : U16) &&& (0x0546 &&& 0xFBFF) = 0x0546 &&& 0xFBFF := by decide
  rw [BitVec.and_assoc, BitVec.and_assoc, hbits, ← BitVec.and_assoc, command_masked h]

theorem command_or_intx {c : U16} (h : c &&& 0xFAB9 = 0) : (c ||| 0x400) &&& 0x0546 &&& 0xFBFF = c &&& 0xFBFF := by
  have hbits : (0x0546 &&& 0xFBFF : U16) &&& 0x400 = 0 := by decide
  rw [BitVec.and_assoc, BitVec.and_comm, BitVec.and_or_distrib_left, hbits, show ∀ x : U16, x ||| 0 = x from fun x => BitVec.or_zero,
    BitVec.and_comm,
    ← BitVec.and_assoc, command_masked h]

theorem fnStalled_commanded (hfns : s.fns.length = 32) {v : Nat} : fnStalled (modCfg g (commanded v) s) g =
    (!(commanded v (getFn s g).cfg).command.getLsbD 2 || (getFn s g).cfg.d3hot) := by
  rw [fnStalled, getFn_modCfg hfns]
  rfl

end Stalls

/-- Settles O19: Command and the power state by their one field and the stall that begins or ends with it, the enables by
the frame of what they drop. -/
theorem stallsAndPower : Obligations.StallsAndPower := by
  intro s g hinv
  refine ⟨fun hopen => ?_, fun hstalling hquiet => ?quiet⟩
  case quiet => exact congrArg Host.Outcome.next (if_pos (by simp [hstalling, hquiet]))
  have hmask : (getFn s g).cfg.command &&& 0xFAB9 = 0 := (hinv.fnOk _ (getFn_mem hinv.fns g)).cfg.command
  refine ⟨?clear, ?set, fun v => ?intx, fun hd0 => ?d3, fun hd3 => ?d0, ?ats, ?pasid⟩
  case clear =>
    have hcfg := commanded_clear hmask
    have hoff : ((getFn s g).cfg.command &&& 0xFFFB).getLsbD 2 = false := by simp
    have hstalls : fnStalled (modCfg g (commanded (commandOf s g &&& 0xFFFB)) s) g = true := by
      rw [fnStalled_commanded hinv.fns, commandOf, hcfg, hoff]; rfl
    refine Gives.of_eq rfl (if_pos hopen) ⟨?_, fun hactive hnot => ?_, fun hstalled => ?_, fun k hk => writeCommand_other hk⟩
    · rw [writeCommand_cfg hinv.fns, commandOf, hcfg]
    · rw [writeCommand_cfgSame.state, commandStalls, hstalls, hnot, if_neg (by decide), if_neg (by decide),
        (stallBegins_begun (by rw [getFn_modCfg hinv.fns, hactive])).state, getFn_modFn (by simpa using hinv.fns)]
    · rw [writeCommand_cfgSame.state, commandStalls, hstalls, hstalled, if_neg (by decide), if_pos rfl,
        getFn_modCfg hinv.fns]
  case set =>
    have hcfg := commanded_set hmask
    have hon : ((getFn s g).cfg.command ||| 4).getLsbD 2 = true := by simp
    refine Gives.of_eq rfl (if_pos hopen) ⟨?_, fun hstalled hd0 => ?_, fun k hk => writeCommand_other hk⟩
    · rw [writeCommand_cfg hinv.fns, commandOf, hcfg]
    · have hgoes : fnStalled (modCfg g (commanded (commandOf s g ||| 4)) s) g = false := by
        rw [fnStalled_commanded hinv.fns, commandOf, hcfg, hon, hd0]; rfl
      rw [writeCommand_cfgSame.state, commandStalls, hgoes, if_pos (by decide),
        (stallEnds_ended hgoes (.inr (by rw [getFn_modCfg hinv.fns, hstalled]))).state,
        getFn_modFn (by simpa using hinv.fns)]
  case intx =>
    refine Gives.of_eq rfl (if_pos hopen) ⟨?_, ?_, fun k hk => (writeCommand_other hk).1⟩
    · rw [writeCommand_cfg hinv.fns]
      cases v <;> simp [commanded, commandOf]
    · rw [writeCommand_cfg hinv.fns]
      cases v with
      | false =>
        have hof : BitVec.ofNat 16 ((getFn s g).cfg.command.toNat &&& 0xFBFF) = (getFn s g).cfg.command &&& 0xFBFF :=
          ofNat_command_and (m := 0xFBFF)
        simp only [commanded, commandOf, Bool.false_eq_true, if_false]
        rw [hof]
        exact command_and_intx hmask
      | true =>
        have hof : BitVec.ofNat 16 ((getFn s g).cfg.command.toNat ||| 0x400) = (getFn s g).cfg.command ||| 0x400 :=
          ofNat_command_or (m := 0x400)
        simp only [commanded, commandOf, if_true]
        rw [hof]
        exact command_or_intx hmask
  case d3 =>
    have hexec : exec (.powerStateD3hot g) s = .next (enterD3 g s) := by
      simp [show exec (.powerStateD3hot g) s = execPowerStateD3hot g s from rfl, execPowerStateD3hot, cfgWrite, hopen, hd0]
    refine Gives.of_eq hexec rfl ⟨?_, fun hactive => ?_, fun k hk => ?_⟩
    · rw [enterD3_cfgSame.cfg, stallBegins_cfg, getFn_modCfg hinv.fns]
    · rw [enterD3_cfgSame.state, (stallBegins_begun (by rw [getFn_modCfg hinv.fns, hactive])).state,
        getFn_modFn (by simpa using hinv.fns)]
    · rw [enterD3_cfgSame.cfg, stallBegins_cfg, getFn_modCfg_other hk]
  case d0 =>
    have hexec : exec (.powerStateD0 g) s = .next (leaveD3 g s) := by
      simp [show exec (.powerStateD0 g) s = execPowerStateD0 g s from rfl, execPowerStateD0, cfgWrite, hopen, hd3]
    have hsettled : CfgSame (stallEnds g (modCfg g (fun c => { c with d3hot := false }) s)) (leaveD3 g s) :=
      settleIntx_onlyForms.cfgSame
    refine Gives.of_eq hexec rfl ⟨?_, fun hstalled hbm => ?_, fun k hk => ?_⟩
    · rw [hsettled.cfg, stallEnds_cfg, getFn_modCfg hinv.fns]
    · have hgoes : fnStalled (modCfg g (fun c => { c with d3hot := false }) s) g = false := by
        rw [fnStalled, getFn_modCfg hinv.fns]
        simp [hbm]
      rw [hsettled.state, (stallEnds_ended hgoes (.inr (by rw [getFn_modCfg hinv.fns, hstalled]))).state,
        getFn_modFn (by simpa using hinv.fns)]
    · rw [hsettled.cfg, stallEnds_cfg, getFn_modCfg_other hk]
  case ats =>
    refine Gives.of_eq rfl (if_pos hopen) ⟨?_, fun k hk => ?_, clearAts_ats hinv⟩
    · rw [clearAts_frame_after.getFn (by decide), getFn_modCfg hinv.fns]; rfl
    · rw [clearAts_frame_after.getFn (by decide), getFn_modCfg_other hk]
  case pasid =>
    refine Gives.of_eq rfl (if_pos hopen) ⟨?_, fun k hk => ?_, clearAts_ats hinv⟩
    · rw [clearAts_frame_after.getFn (by decide), getFn_modCfg hinv.fns]; rfl
    · rw [clearAts_frame_after.getFn (by decide), getFn_modCfg_other hk]

end Sys2Proof.Machine
end

section
/-!
SUPPORT and CLAIM. The modes of port 0 (02_host_endpoint, R33 to R35): its link nonce, fall-back, the end of a training,
and the obligation O20.
-/
namespace Sys2Proof.Machine

section PortZero
variable {s : State}

/-- A nonce that is out stays out, and no other is drawn. -/
theorem linkNonceOut_out (h : s.port0.nonceOut = true) : linkNonceOut s = s := by simp [linkNonceOut, h]

/-- The link nonce changes nothing of port 0 but itself. -/
theorem linkNonceOut_port0 : ∃ out nonce, (linkNonceOut s).port0 = { s.port0 with nonceOut := out, nonce := nonce } := by
  unfold linkNonceOut
  split
  · exact ⟨_, _, rfl⟩
  · exact ⟨true, _, rfl⟩

/-- Fall-back leaves mode 0, to be trained, with the failure counts at 0. -/
theorem fallBack_port0 : ∃ out nonce, (fallBack s).port0 = { s.port0 with
    mode := 0, training := false, fails := List.replicate 8 0, awaiting := true, fromWake := false
    nonceOut := out, nonce := nonce } := by
  unfold fallBack
  extract_lets s1
  obtain ⟨out, nonce, h⟩ := linkNonceOut_port0 (s := modPort0 (fun x => { x with
    mode := 0, training := false, fails := List.replicate 8 0, nonceOut := false, awaiting := true
    fromWake := false }) (linkLeavesL0 0 s))
  have hraised : (raiseError .port0Fallback { kind := 1, unit := 0, access := 7 } s1).port0 = s1.port0 :=
    (raiseError_frame (by decide) (SameBut.refl [.od, .stored, .counters, .mgmt, .links, .intx, .fnCfg, .int, .capture,
      .err, .power, .out] s1)).2.2 .port0 (by decide)
  refine ⟨out, nonce, ?_⟩
  rw [hraised, show s1.port0 = _ from h]
  simp only [modPort0, linkLeavesL0_port0]
  rfl

/-- What the end of a training leaves of port 0, whether or not it was in MAIN mode (R33, R35). -/
def trained (groups : U8) (x : Port0St) : Port0St :=
  { x with
    training := false, nonceOut := false, fromWake := false, groups := groups
    mode := if groups = 0xFF then 1 else x.mode, fails := List.replicate 8 0 }

theorem trainingDone_eq {groups : U8} {nd : Bytes} (ht : s.port0.training = true) (hout : s.port0.nonceOut = true) :
    trainingDone groups nd s =
      let t := loadLanes nd (modPort0 (trained groups) s)
      if !s.port0.fromWake then (if groups ≠ 0xFF && t.port0.mode = 1 then fallBack t else t)
      else if groups = 0xFF then
        returnL0 0 (modPort 0 (fun x => { x with turnOff := .none }) (modPort0 (fun x => { x with awaiting := false }) t))
      else fallBack t := by
  rw [trainingDone, if_pos ht]
  simp only [linkNonceOut_out hout, hout, if_true]
  rfl

theorem returnL0_port0 {p : Port} : (returnL0 p s).port0 = s.port0 :=
  (returnL0_frame (L := [.links, .intx, .fnCfg, .out]) (by decide) (SameBut.refl _ s)).2.2 .port0 (by decide)

theorem returnL0_sec {p : Port} : (returnL0 p s).sec = s.sec :=
  (returnL0_frame (L := [.links, .intx, .fnCfg, .out]) (by decide) (SameBut.refl _ s)).2.2 .sec (by decide)

theorem presentFns_sec {p : Port} : (presentFns p s).sec = s.sec :=
  (presentFns_frame (L := [.fnCfg, .fnState]) (by decide) (SameBut.refl _ s)).2.2 .sec (by decide)

theorem presentFns_port0 {p : Port} : (presentFns p s).port0 = s.port0 :=
  (presentFns_frame (L := [.fnCfg, .fnState]) (by decide) (SameBut.refl _ s)).2.2 .port0 (by decide)

theorem putObj_port0 {ref : Ref} {v : Val} : (putObj ref v s).port0 = s.port0 :=
  (putObj_frame (L := [.od, .stored, .counters, .mgmt, .int]) (by decide) (SameBut.refl _ s)).2.2 .port0 (by decide)

/-- Fall-back training after the nonces. -/
theorem fallbackTrained_eq {nd : Bytes} (haw : s.port0.awaiting = true) (hwake : s.port0.fromWake = false)
    (hperst : (getPort s 0).perst = false) (hout : s.port0.nonceOut = true) : fallbackTrained nd s =
      let t := loadLanes nd (modPort0 (fun x => { x with awaiting := false, nonceOut := false, mode := 0 }) s)
      if (getPort s 0).link == .l0 then t
      else returnL0 0 (presentFns 0 (modPort 0 (fun x => { x with turnOff := .none }) t)) := by
  rw [fallbackTrained, if_pos (by simp [haw, hwake, hperst])]
  simp only [linkNonceOut_out hout, hout, if_true]
  rfl

end PortZero

/-- Settles O20: each event of port 0 by its one case; where port 0 falls back, by what fall-back leaves. -/
theorem port0Modes : Obligations.Port0Modes := by
  intro s hinv
  refine ⟨fun rq hacc htraining => ?main, fun rq hacc => ?fallback, fun nd ht hout => ?done,
    fun m nd hm ht hout hmode hwake => ?fewer, fun m nd hm ht hout hmode => ?falls, fun m nd ht hmode => ?retrain,
    fun k hmode => ⟨fun hlt => ?counts, fun hle => ?limit⟩, fun nonce haw hwake hperst hout => ?trained⟩
  case main =>
    refine Gives.of_eq rfl (requestWrite_accepted hacc rfl) ?_
    have hput : (putObj ⟨0x2001, 1⟩ (.num 1) (emit (.objectStatus rq ⟨0x2001, 1⟩ .ok) s)).port0 = s.port0 := putObj_port0
    have hmain : requestMain (emit (.objectStatus rq ⟨0x2001, 1⟩ .ok) s) = linkNonceOut (modPort0 (fun x => { x with
        training := true, nonceOut := false }) (linkLeavesL0 0
          (putObj ⟨0x2001, 1⟩ (.num 1) (emit (.objectStatus rq ⟨0x2001, 1⟩ .ok) s)))) := by
      simp [requestMain, hput, htraining]
    obtain ⟨out, n, h⟩ := linkNonceOut_port0 (s := modPort0 (fun x => { x with
        training := true, nonceOut := false }) (linkLeavesL0 0
          (putObj ⟨0x2001, 1⟩ (.num 1) (emit (.objectStatus rq ⟨0x2001, 1⟩ .ok) s))))
    rw [hmain, h]
    simp [modPort0, hput]
  case fallback =>
    refine Gives.of_eq rfl (requestWrite_accepted hacc rfl) ?_
    have hput : (putObj ⟨0x2001, 1⟩ (.num 0) (emit (.objectStatus rq ⟨0x2001, 1⟩ .ok) s)).port0 = s.port0 := putObj_port0
    rw [requestFallback]
    split
    · obtain ⟨out, n, h⟩ := fallBack_port0 (s := putObj ⟨0x2001, 1⟩ (.num 0) (emit (.objectStatus rq ⟨0x2001, 1⟩ .ok) s))
      rename_i hone
      rw [hput] at hone
      rw [h]
      exact ⟨rfl, fun _ => ⟨rfl, rfl, rfl⟩, fun hne => absurd hone hne⟩
    · rename_i hne
      rw [hput] at hne
      exact ⟨rfl, fun hone => absurd hone hne, fun _ => by rw [modPort0, hput]⟩
  case done =>
    refine Gives.of_eq rfl (trainingDone_eq ht hout) ?_
    split
    · exact ⟨rfl, rfl, rfl, rfl, rfl⟩
    · rw [if_pos rfl, returnL0_port0, returnL0_sec]
      exact ⟨rfl, rfl, rfl, rfl, rfl⟩
  case fewer =>
    refine Gives.of_eq rfl (trainingDone_eq ht hout) ?_
    have hm' : ¬ m = 255#8 := hm
    rw [hwake]
    have hkept : (loadLanes nd (modPort0 (trained m) s)).port0.mode ≠ 1 := by
      simp [loadLanes, modPort0, trained, hm', hmode]
    simp only [Bool.not_false, if_true, hkept, decide_false, Bool.and_false, Bool.false_eq_true, if_false]
    refine ⟨?_, ?_⟩
    · simp [loadLanes, modPort0, trained, hm', hwake]
    · exact loadLanes_frame (by decide) (modPort0_frame (by decide) (SameBut.refl _ s))
  case falls =>
    refine Gives.of_eq rfl (trainingDone_eq ht hout) ?_
    have hm' : ¬ m = 255#8 := hm
    have hfalls : (let t := loadLanes nd (modPort0 (trained m) s)
        if !s.port0.fromWake then (if m ≠ 0xFF && t.port0.mode = 1 then fallBack t else t)
        else if m = 0xFF then
          returnL0 0 (modPort 0 (fun x => { x with turnOff := .none }) (modPort0 (fun x => { x with awaiting := false }) t))
        else fallBack t) = fallBack (loadLanes nd (modPort0 (trained m) s)) := by
      simp [hm', hmode, loadLanes, modPort0, trained]
    rw [hfalls]
    obtain ⟨out, n, h⟩ := fallBack_port0 (s := loadLanes nd (modPort0 (trained m) s))
    rw [h]
    exact ⟨rfl, rfl, rfl⟩
  case retrain =>
    have hexec : exec (.port0TrainingDone ⟨m, nd⟩) s = .next (modPort0 (fun x => { x with
        fails := x.fails.zipIdx.map fun f => if m.getLsbD f.2 then 0 else f.1 }) s) := by
      simp [show exec (.port0TrainingDone ⟨m, nd⟩) s = execPort0TrainingDone ⟨m, nd⟩ s from rfl, execPort0TrainingDone,
        trainingDone, ht, hmode]
    refine Gives.of_eq hexec rfl ⟨hmode, ?_, fun k hk => ?_, modPort0_frame (by decide) (SameBut.refl _ s)⟩
    · simp [modPort0]
    · simp [modPort0, hk]
  case counts =>
    have hnot : ¬ objNum s 0x2001 4 ≤ s.port0.fails.getD k.val 0 + 1 := by omega
    have hcounts : groupFails k s = modPort0 (fun x => { x with
        fails := x.fails.set k.val (s.port0.fails.getD k.val 0 + 1) }) s := by
      rw [groupFails, if_pos hmode]; exact if_neg hnot
    exact congrArg Host.Outcome.next hcounts
  case limit =>
    have hfalls : groupFails k s = fallBack s := by rw [groupFails, if_pos hmode]; exact if_pos hle
    obtain ⟨out, n, h⟩ := fallBack_port0 (s := s)
    refine Gives.of_eq rfl hfalls ?_
    rw [h]
    exact ⟨rfl, rfl, rfl⟩
  case trained =>
    refine Gives.of_eq rfl (fallbackTrained_eq haw hwake hperst hout) ?_
    have hports : (presentFns 0 (modPort 0 (fun x => { x with turnOff := .none }) (loadLanes nonce
        (modPort0 (fun x => { x with awaiting := false, nonceOut := false, mode := 0 }) s)))).ports.length = 4 := by
      rw [presentFns_ports]
      exact modPort_length.trans hinv.ports
    split
    · rename_i hlink
      have hl0 : (getPort s 0).link = .l0 := by simpa using hlink
      exact ⟨rfl, rfl, hl0, fun hne => absurd hl0 hne, rfl⟩
    · rw [returnL0_port0, returnL0_sec, presentFns_sec, presentFns_port0, getPort_returnL0 hports,
        getPort_congr presentFns_ports,
        getPort_modPort (s := loadLanes nonce (modPort0 (fun x => { x with
          awaiting := false, nonceOut := false, mode := 0 }) s)) hinv.ports]
      exact ⟨rfl, rfl, rfl, fun _ => rfl, rfl⟩

end Sys2Proof.Machine
end

section
/-!
SUPPORT. Errors at the collector (12_errors, R371 to R381, R389 to R396): what an error leaves of the registers of errors
and of the object dictionary.
-/
namespace Sys2Proof.Machine

section Errors
variable {s t u : State} {e : Src} {i : ErrInfo} {lost : List CtxId}

/-! ### The registers of errors, step by step (R379) -/

/-- ErrCount of the source has gone up, or stays saturated (R390). -/
def countedErr (e : Src) (x : ErrSt) : ErrSt :=
  { x with
    counts := assocPut x.counts (srcCode e)
      (BitVec.ofNat 32 (countUp 32 ((assocGet x.counts (srcCode e)).getD 0).toNat).1) }

/-- The package capture takes an error of class S2 or S3 (R380). -/
def capturedErr (e : Src) (i : ErrInfo) (gtc : U64) (x : ErrSt) : ErrSt :=
  if 2 ≤ srcClass e then { x with capture := (captureError 32 e i gtc x.capture).1 } else x

/-- The package state follows the class, and a reset that the reaction selects is pending (R378, R379). -/
def reactedErr (e : Src) (r : Nat) (gtc : U64) (x : ErrSt) : ErrSt :=
  let starts := srcClass e < 3 && (x.pkg == .normal || (srcClass e < 2 && x.pkg == .blockFailed))
  { x with
    pkg := if srcClass e = 3 then .fatal
      else if srcClass e = 2 && x.pkg == .normal then .blockFailed else x.pkg
    fatalGtc := if srcClass e = 3 && x.pkg != .fatal then gtc else x.fatalGtc
    packagePending := srcClass e != 3 && (x.packagePending || (starts && r.testBit 3))
    blockPending := srcClass e != 3 && (x.blockPending || (starts && r.testBit 2 && !r.testBit 3))
    coreRestart := x.coreRestart || e == .mgmtCoreFault }

/-- The ERR_PIN reaction drives the pin (R389). -/
def pinnedErr (e : Src) (lost : List CtxId) (gtc : U64) (x : ErrSt) : ErrSt :=
  { x with
    assertions := BitVec.ofNat 32 (countUp 32 x.assertions.toNat).1
    releaseWaiting := false
    pinContexts := if srcClass e = 1 then x.pinContexts ++ lost else x.pinContexts
    pinBlock := x.pinBlock || srcClass e == 2
    pinFatal := x.pinFatal || srcClass e == 3
    pin := true
    pinGtc := if x.pin then x.pinGtc else gtc }

/-- The registers of errors after an error of a whole pair. -/
def raisedErr (e : Src) (i : ErrInfo) (lost : List CtxId) (r : Nat) (gtc : U64) (x : ErrSt) : ErrSt :=
  let y := reactedErr e r gtc (capturedErr e i gtc (countedErr e x))
  if r.testBit 4 then pinnedErr e lost gtc y else y

@[simp] theorem saturated_err {g : Fun} {c : Option CtxId} {n : Nat} : (saturated g c n s).err = s.err := rfl

theorem countError_err : (countError e s).err = countedErr e s.err := by
  simp only [countError]
  split <;> rfl

theorem capturePackage_err : (capturePackage e i s).err = { s.err with
    capture := (captureError 32 e i s.gtc s.err.capture).1 } := by
  simp only [capturePackage]
  split <;> rfl

theorem captureFns_err {l : List Fun} : (foldState (captureFn e i) l s).err = s.err :=
  (foldState_frame (L := [.int, .capture]) (fun a t h => captureFn_frame (by decide) h) (SameBut.refl _ s)).2.2 .err
    (by decide)

theorem reactReset_err {r : Nat} : (reactReset e r s).err = reactedErr e r s.gtc s.err := rfl

theorem reactNmi_err : (reactNmi e s).err = s.err :=
  (reactNmi_frame (L := [.od, .stored, .counters, .mgmt, .int, .out]) (by decide) (SameBut.refl _ s)).2.2 .err (by decide)

theorem reactNmi_gtc : (reactNmi e s).gtc = s.gtc :=
  (reactNmi_frame (L := [.od, .stored, .counters, .mgmt, .int, .out]) (by decide) (SameBut.refl _ s)).2.2 .gtc (by decide)

theorem reactPin_err : (reactPin e lost s).err = pinnedErr e lost s.gtc s.err := by
  unfold reactPin
  dsimp only
  have hpin (v : State) (h : v.err = { s.err with
      assertions := BitVec.ofNat 32 (countUp 32 s.err.assertions.toNat).1
      releaseWaiting := false
      pinContexts := if srcClass e = 1 then s.err.pinContexts ++ lost else s.err.pinContexts
      pinBlock := s.err.pinBlock || srcClass e == 2
      pinFatal := s.err.pinFatal || srcClass e == 3 }) (hg : v.gtc = s.gtc) :
      (if v.err.pin then v else emit (.errPins true) { v with err := { v.err with pin := true, pinGtc := v.gtc } }).err =
        pinnedErr e lost s.gtc s.err := by
    rw [pinnedErr]
    split
    · rename_i hon
      have hold : s.err.pin = true := by rwa [h] at hon
      rw [h, if_pos hold]
      simp only [hold]
    · rename_i hoff
      have hold : ¬ s.err.pin = true := by rwa [h] at hoff
      rw [if_neg hold, emit_err, h, hg]
  split
  · exact hpin _ rfl rfl
  · exact hpin _ rfl rfl

theorem reactInts_err {l : List Fun} : (foldState (reactInt e) l s).err = s.err :=
  (foldState_frame (L := [.counters, .links, .intx, .fnCfg, .int, .power, .out])
    (fun a t h => reactInt_frame (by decide) h) (SameBut.refl _ s)).2.2 .err (by decide)

theorem reportErrs_err {l : List Fun} :
    (foldState (fun g s => if fnPresent s g then aerUncorrectable g 22 s else s) l s).err = s.err :=
  (foldState_frame (L := [.fnCfg, .out]) (fun a t h => SameBut.ite (aerUncorrectable_frame (by decide) h) h)
    (SameBut.refl _ s)).2.2 .err (by decide)

/-- An error of a broken pair is ignored (R374). -/
theorem raiseWith_broken (h : e ∈ s.err.wireFaults) : raiseWith e i lost s = s :=
  if_pos (List.contains_iff_mem.2 h)

/-- What an error of a whole pair leaves of the registers of errors. -/
theorem raiseWith_err (h : e ∉ s.err.wireFaults) :
    (raiseWith e i lost s).err = raisedErr e i lost (reactionOf s e) s.gtc s.err := by
  unfold raiseWith
  rw [if_neg (by simpa using h)]
  extract_lets r cls s1 s2 s3 s4 s5 s6
  have h1 : s1.err = countedErr e s.err := countError_err
  have hg1 : s1.gtc = s.gtc :=
    (countError_frame (L := [.int, .err]) (by decide) (SameBut.refl _ s)).2.2 .gtc (by decide)
  have hg2 : s2.gtc = s.gtc := by
    have hcaptured : SameBut [.int, .capture, .err] s1 s2 :=
      SameBut.ite (foldState_frame (fun a t h => captureFn_frame (by decide) h)
        (capturePackage_frame (by decide) (SameBut.refl _ s1)))
        (SameBut.ite (foldState_frame (fun a t h => captureFn_frame (by decide) h) (SameBut.refl _ s1)) (SameBut.refl _ s1))
    exact (hcaptured.2.2 .gtc (by decide)).trans hg1
  have h2 : s2.err = capturedErr e i s.gtc s1.err := by
    simp only [s2, capturedErr, cls]
    split
    · rw [captureFns_err, capturePackage_err, hg1]
    · split
      · exact captureFns_err
      · rfl
  have h3 : s3.err = reactedErr e r s.gtc s2.err := by rw [← hg2]; rfl
  have hg3 : s3.gtc = s.gtc := hg2
  have h4 : s4.err = s3.err ∧ s4.gtc = s.gtc := by
    simp only [s4]
    split
    · exact ⟨reactNmi_err, reactNmi_gtc.trans hg3⟩
    · exact ⟨rfl, hg3⟩
  have h5 : s5.err = if r.testBit 4 then pinnedErr e lost s.gtc s3.err else s3.err := by
    simp only [s5]
    split
    · rw [reactPin_err, h4.1, h4.2]
    · exact h4.1
  have h6 : s6.err = s5.err := by
    simp only [s6]
    split
    · exact reactInts_err
    · rfl
  have h7 : (if 2 ≤ cls then foldState (fun g s => if fnPresent s g then aerUncorrectable g 22 s else s)
      (List.finRange 32) s6 else s6).err = s6.err := by
    split
    · exact reportErrs_err
    · rfl
  rw [h7, h6, h5, h3, h2, h1]
  rfl

theorem raiseError_err (h : e ∉ s.err.wireFaults) :
    (raiseError e i s).err = raisedErr e i [] (reactionOf s e) s.gtc s.err := raiseWith_err h

/-! ### Counts (R390, R396) -/

/-- No reaction changes the counts, the broken pairs or the sensed mismatch. -/
theorem raisedErr_keeps {r : Nat} {gtc : U64} {x : ErrSt} : let y := raisedErr e i lost r gtc x
    y.counts = (countedErr e x).counts ∧ y.wireFaults = x.wireFaults ∧ y.mismatch = x.mismatch := by
  have hcaptured (z : ErrSt) : (capturedErr e i gtc z).counts = z.counts ∧
      (capturedErr e i gtc z).wireFaults = z.wireFaults ∧ (capturedErr e i gtc z).mismatch = z.mismatch := by
    rw [capturedErr]
    split <;> exact ⟨rfl, rfl, rfl⟩
  obtain ⟨hcounts, hfaults, hmismatch⟩ := hcaptured (countedErr e x)
  unfold raisedErr
  dsimp only
  split
  · exact ⟨hcounts, hfaults, hmismatch⟩
  · exact ⟨hcounts, hfaults, hmismatch⟩

theorem countUp32_of_lt {n : Nat} (h : n < 2 ^ 30) : countUp 32 n = (n + 1, false) := by
  rw [countUp, if_neg (by omega), if_neg (by omega)]

/-- An error that reaches the collector is counted at its source. -/
theorem raised_raiseWith : Raised s (raiseWith e i lost s) e := by
  intro hwhole hlt
  rw [errCount, raiseWith_err hwhole, raisedErr_keeps.1, countedErr, assocGet_assocPut]
  dsimp only [Option.getD_some]
  rw [show ((assocGet s.err.counts (srcCode e)).getD 0).toNat = (errCount s e).toNat from rfl, countUp32_of_lt hlt]
  simp [BitVec.ofNat_add]

theorem raised_raiseError : Raised s (raiseError e i s) e := raised_raiseWith

/-- The count is that of the state in which the error was raised, and later steps keep it. -/
theorem Raised.of_err (h : Raised t u e) (hs : t.err = s.err) {v : State} (hv : v.err.counts = u.err.counts) :
    Raised s v e := by
  intro hwhole hlt
  have hcount (a b : State) (hab : a.err.counts = b.err.counts) : errCount a e = errCount b e := by
    rw [errCount, hab, errCount]
  rw [hcount v u hv, h (by rwa [hs]) (by rwa [hcount t s (by rw [hs])]), hcount t s (by rw [hs])]

/-- An error raised after steps that keep the registers of errors. -/
theorem raised_raiseError_after (h : t.err = s.err) : Raised s (raiseError e i t) e := raised_raiseError.of_err h rfl

/-! ### The object dictionary: an error of class S3 writes LastFatalRecord and no other object (R378) -/

theorem reactNmi_od {k : Nat} (hk : k ≠ 0x9000 * 256 + 7) : assocGet (reactNmi e s).od k = assocGet s.od k := by
  unfold reactNmi
  dsimp only
  split
  · rw [writeRecord_od, assocGet_setObj_other hk]; rfl
  · rfl

theorem raiseWith_od {k : Nat} (hk : k ≠ 0x9000 * 256 + 7) :
    assocGet (raiseWith e i lost s).od k = assocGet s.od k := by
  have hquiet {a b : State} (h : SameBut [.counters, .links, .intx, .fnCfg, .int, .capture, .err, .power, .out] a b) :
      b.od = a.od := h.2.2 .od (by decide)
  unfold raiseWith
  split
  · rfl
  · extract_lets r cls s1 s2 s3 s4 s5 s6
    have h1 : SameBut [.counters, .links, .intx, .fnCfg, .int, .capture, .err, .power, .out] s s1 :=
      countError_frame (by decide) (SameBut.refl _ s)
    have h3 : s3.od = s.od := by
      refine hquiet (reactReset_frame (by decide) (SameBut.ite ?_ (SameBut.ite ?_ h1)))
      · exact foldState_frame (fun a t h => captureFn_frame (by decide) h) (capturePackage_frame (by decide) h1)
      · exact foldState_frame (fun a t h => captureFn_frame (by decide) h) h1
    have h4 : assocGet s4.od k = assocGet s.od k := by
      simp only [s4]
      split
      · rw [reactNmi_od hk, h3]
      · rw [h3]
    have h5 : s5.od = s4.od :=
      hquiet (SameBut.ite (reactPin_frame (by decide) (SameBut.refl _ s4)) (SameBut.refl _ s4))
    have h6 : SameBut [.counters, .links, .intx, .fnCfg, .int, .capture, .err, .power, .out] s5 s6 :=
      SameBut.ite (foldState_frame (fun a t h => reactInt_frame (by decide) h) (SameBut.refl _ s5)) (SameBut.refl _ s5)
    have h7 := hquiet (SameBut.ite (c := 2 ≤ cls) (foldState_frame (l := List.finRange 32)
      (f := fun g s => if fnPresent s g then aerUncorrectable g 22 s else s)
      (fun a t h => SameBut.ite (aerUncorrectable_frame (by decide) h) h) h6) h6)
    rw [h7, h5, h4]

/-- An error leaves every object but LastFatalRecord. -/
theorem raiseWith_objVal {a b : Nat} (h : a * 256 + b ≠ 0x9000 * 256 + 7) :
    objVal (raiseWith e i lost s) a b = objVal s a b := by
  have hv : (raiseWith e i lost s).variant = s.variant := (raiseWith_frame (L := [.od, .stored, .counters, .mgmt, .links,
    .intx, .fnCfg, .int, .capture, .err, .power, .out]) (by decide) (SameBut.refl _ s)).1
  rw [objVal, hv, raiseWith_od h, objVal]

/-! ### An error changes nothing that is not at the collector -/

/-- The parts that an error may change. -/
def raiseParts : List StatePart := [.od, .stored, .counters, .mgmt, .links, .intx, .fnCfg, .int, .capture, .err, .power, .out]

theorem raiseError_sameBut : SameBut raiseParts s (raiseError e i s) := raiseError_frame (by decide) (SameBut.refl _ s)

end Errors
end Sys2Proof.Machine
end

section
/-!
SUPPORT and CLAIM. Time synchronisation (10_determinism, R323 to R325): the selection of the grandmaster, offsets, and the
obligation O44.
-/
namespace Sys2Proof.Machine

section Clock
variable {s : State}

@[simp] theorem modSync_sync {f : SyncSt → SyncSt} : (modSync f s).sync = f s.sync := rfl

@[simp] theorem modSync_boot {f : SyncSt → SyncSt} : (modSync f s).boot = s.boot := rfl

theorem modSync_sameBut {f : SyncSt → SyncSt} : SameBut [.sync] s (modSync f s) :=
  modSync_frame (by decide) (SameBut.refl _ s)

/-- The best clock is a matter of the clocks heard and of this package's own data set. -/
theorem bestMaster_modSync {f : SyncSt → SyncSt} (h : (f s.sync).foreign = s.sync.foreign) :
    bestMaster (modSync f s) = bestMaster s := by
  rw [bestMaster, modSync_sync, h]
  rfl

/-- The selection follows the best clock and hears no other (R323, R325). -/
theorem selectMaster_master : (selectMaster s).sync.master = bestMaster (selectMaster s) ∧
    (selectMaster s).sync.foreign = s.sync.foreign ∧ SameBut [.sync] s (selectMaster s) := by
  unfold selectMaster
  extract_lets m
  split
  · rename_i h; exact ⟨h.symm, rfl, SameBut.refl _ s⟩
  · exact ⟨(bestMaster_modSync rfl).symm, rfl, modSync_sameBut⟩

/-- An offset that slews a clock that is LOCKED, or LOCKING on a ready package (R325). -/
theorem takeOffset_slews {off : Int}
    (h : (s.sync.state = .locking && s.boot.state ≠ .ready && !s.sync.stepped && off < 0) = false) :
    takeOffset off s = modSync (fun x => { x with
      offset := saturate32 off
      inBand := if off.natAbs ≤ 20 then x.inBand + 1 else 0
      slew := if x.state = .locking || x.state = .locked then off else 0
      state := if x.state = .locking && 16 ≤ (if off.natAbs ≤ 20 then x.inBand + 1 else 0) then .locked
        else x.state }) s := by
  unfold takeOffset
  extract_lets near t
  have ht : (t.sync.state = .locking && t.boot.state ≠ .ready && !t.sync.stepped && off < 0) = false := h
  rw [if_neg (by simpa using ht)]
  simp [modSync, t, near]

/-- The one forward step of the count of a package that is not READY (R325). -/
theorem takeOffset_steps {off : Int}
    (h : (s.sync.state = .locking && s.boot.state ≠ .ready && !s.sync.stepped && off < 0) = true) :
    takeOffset off s = stepForward off.natAbs (modSync (fun x => { x with
      offset := saturate32 off, inBand := if off.natAbs ≤ 20 then x.inBand + 1 else 0 }) s) := by
  unfold takeOffset
  extract_lets near t
  have ht : (t.sync.state = .locking && t.boot.state ≠ .ready && !t.sync.stepped && off < 0) = true := h
  rw [if_pos ht]
  simp [t, near]

/-- The Follow_Up of the Sync that waits gives its offset. -/
theorem hearFollowUp_eq {identity arrival : U64} {seq : U16} {origin : Nat} (hm : fromMaster s identity = true)
    (hsync : s.sync.sync = some (seq, arrival)) : hearFollowUp identity seq origin s =
      takeOffset ((countNs arrival : Int) - (origin : Int) - (s.sync.delay : Int))
        (modSync (fun x => { x with sync := none, last := some (origin, arrival) }) s) := by
  rw [hearFollowUp, hsync]
  dsimp only
  rw [hm]
  simp

theorem hearDelayResp_eq {identity : U64} {seq : U16} {receive t1 : Nat} {t2 t3 : U64} (hm : fromMaster s identity = true)
    (hreq : s.sync.delayReq = some (seq, t3)) (hlast : s.sync.last = some (t1, t2)) : hearDelayResp identity seq receive s =
      modSync (fun x => { x with
        delayReq := none
        delay := ((((countNs t2 : Int) - (t1 : Int)) + ((receive : Int) - (countNs t3 : Int))) / 2).toNat }) s := by
  rw [hearDelayResp, hreq, hlast]
  dsimp only
  rw [hm]
  simp

end Clock

/-- Settles O44: each message and timer by its one update of the clock's state. -/
theorem timeSynchronization : Obligations.TimeSynchronization := by
  intro s
  refine ⟨fun identity seq arrival => ⟨fun hm => ?other, fun hm => ?sync⟩, fun identity seq origin arrival hm hsync => ?followUp,
    fun identity seq receive t1 t2 t3 hm hreq hlast => Gives.of_eq rfl (hearDelayResp_eq hm hreq hlast) rfl,
    fun a hport hdomain hown => ?announce, ?silent, fun hport m hmaster => ?delayReq,
    fun hport hnone => ⟨fun requester seq arrival => ?answer, ?sends, ?announces⟩, fun hlocked hlong => ?lost⟩
  case other => exact congrArg Host.Outcome.next (if_neg (by simp [hm]))
  case sync => exact Gives.of_eq rfl (if_pos hm) ⟨modSync_sameBut, rfl, rfl, rfl⟩
  case announce =>
    have hheard : hearAnnounce a s = selectMaster (modSync (fun x => { x with
        foreign := x.foreign.filter (fun y => y.1.identity != a.identity) ++ [(a, s.gtc)] }) s) :=
      if_pos (by simp [hport, hdomain, hown])
    obtain ⟨hmaster, hforeign, hframe⟩ := selectMaster_master (s := modSync (fun x => { x with
        foreign := x.foreign.filter (fun y => y.1.identity != a.identity) ++ [(a, s.gtc)] }) s)
    refine Gives.of_eq rfl hheard ⟨modSync_sameBut.trans hframe, ?_, fun y hy hident => ?_, hmaster⟩
    · rw [hforeign]; simp
    · rw [hforeign] at hy
      rcases List.mem_append.1 hy with hold | hnew
      · exact absurd hident (by simpa using (List.mem_filter.1 hold).2)
      · exact List.mem_singleton.1 hnew
  case silent =>
    obtain ⟨hmaster, hforeign, hframe⟩ := selectMaster_master (s := modSync (fun x => { x with
        foreign := x.foreign.filter fun y => (s.gtc - y.2).toNat < 3750000000 }) s)
    refine Gives.of_eq rfl rfl ⟨modSync_sameBut.trans hframe, hmaster, fun y => ?_⟩
    rw [show (dropSilent s).sync.foreign = _ from hforeign]
    simp
  case delayReq => exact Gives.of_eq rfl (if_pos (by simp [hport, hmaster])) ⟨rfl, rfl⟩
  case answer => exact congrArg Host.Outcome.next (if_pos (by simp [ptpMaster, hport, hnone]))
  case sends => exact Gives.of_eq rfl (if_pos (by simp [ptpMaster, hport, hnone])) ⟨rfl, rfl⟩
  case announces => exact congrArg Host.Outcome.next (if_pos (by simp [ptpMaster, hport, hnone]))
  case lost =>
    refine Gives.of_eq rfl (if_pos (by simpa [hlocked] using hlong)) ?_
    have hsync : (raiseError .gtcSyncLost {} (modSync (fun x => { x with state := .holdover, slew := 0 }) s)).sync = _ :=
      (raiseError_sameBut (e := .gtcSyncLost) (i := {})).2.2 .sync (by decide)
    rw [hsync]
    exact ⟨rfl, rfl, raised_raiseError_after rfl⟩
  case followUp =>
    intro off
    have hheard := hearFollowUp_eq (origin := origin) hm hsync
    refine ⟨fun hlocked => ?locked, fun hlocking hready => ?locking, fun hlocking hready hstepped hneg => ?steps⟩
    case locked =>
      refine Gives.of_eq rfl (hheard.trans (takeOffset_slews (by simp [hlocked])))
        ⟨modSync_sameBut.trans modSync_sameBut, rfl, ?_, ?_, rfl, rfl⟩
      · simp [modSync, hlocked, off]
      · simp [modSync, hlocked]
    case locking =>
      refine Gives.of_eq rfl (hheard.trans (takeOffset_slews (by simp [hready]))) ⟨rfl, rfl, ?_⟩
      have hiff : 16 ≤ (if off.natAbs ≤ 20 then s.sync.inBand + 1 else 0) ↔ off.natAbs ≤ 20 ∧ 15 ≤ s.sync.inBand := by
        split <;> omega
      simp only [modSync_sync, hlocking, decide_true, Bool.true_and, decide_eq_true_eq, off] at hiff ⊢
      simp only [hiff]
    case steps =>
      have hbehind : (countNs arrival : Int) - (origin : Int) - (s.sync.delay : Int) < 0 := hneg
      refine Gives.of_eq rfl (hheard.trans (takeOffset_steps (by simpa [hlocking, hready, hstepped] using hbehind))) ⟨rfl, rfl, rfl, rfl⟩

end Sys2Proof.Machine
end

section
/-!
SUPPORT and CLAIM. Recalibration (15_bringup_firmware, R459): the code with the fewest errors, the objects that a
calibration stores, and the obligation O56.
-/
namespace Sys2Proof.Machine

section BestCode

theorem foldl_min_le (l : List Nat) (a : Nat) : l.foldl min a ≤ a ∧ ∀ x ∈ l, l.foldl min a ≤ x := by
  induction l generalizing a with
  | nil => exact ⟨Nat.le_refl a, fun x hx => absurd hx List.not_mem_nil⟩
  | cons b l ih =>
    obtain ⟨hle, hall⟩ := ih (min a b)
    refine ⟨Nat.le_trans hle (Nat.min_le_left a b), fun x hx => ?_⟩
    rcases List.mem_cons.1 hx with rfl | hx
    · exact Nat.le_trans hle (Nat.min_le_right a x)
    · exact hall x hx

theorem getD_of_lt {α : Type} (l : List α) (d : α) {n : Nat} (h : n < l.length) : l.getD n d = l[n] := by
  rw [List.getD_eq_getElem?_getD, List.getElem?_eq_getElem h, Option.getD_some]

theorem foldl_min_mem (l : List Nat) (a : Nat) : l.foldl min a = a ∨ l.foldl min a ∈ l := by
  induction l generalizing a with
  | nil => exact .inl rfl
  | cons b l ih =>
    rw [List.foldl_cons]
    rcases ih (min a b) with h | h
    · rw [h]
      rcases Nat.le_total a b with hab | hba
      · exact .inl (Nat.min_eq_left hab)
      · rw [Nat.min_eq_right hba]; exact .inr List.mem_cons_self
    · exact .inr (List.mem_cons_of_mem b h)

/-- The best code is the lowest of those with the fewest errors. -/
theorem bestCode_best {l : List Nat} (h : l ≠ []) : bestCode l < l.length ∧
    (∀ c < l.length, l.getD (bestCode l) 0 ≤ l.getD c 0) ∧ ∀ c < bestCode l, l.getD (bestCode l) 0 < l.getD c 0 := by
  obtain ⟨a, m, rfl⟩ := List.exists_cons_of_ne_nil h
  generalize hl : a :: m = l at *
  have hmin : l.foldl min (l.headD 0) ∈ l := by
    rcases foldl_min_mem l (l.headD 0) with heq | hmem
    · rw [heq, ← hl]; exact List.mem_cons_self
    · exact hmem
  have hlt : bestCode l < l.length := List.findIdx_lt_length_of_exists ⟨_, hmin, by simp⟩
  have hbest : l.getD (bestCode l) 0 = l.foldl min (l.headD 0) := by
    have hfound := List.findIdx_getElem (xs := l) (p := (· == l.foldl min (l.headD 0))) (w := hlt)
    rw [getD_of_lt _ _ hlt]
    simpa [bestCode] using hfound
  refine ⟨hlt, fun c hc => ?_, fun c hc => ?_⟩
  · rw [hbest, getD_of_lt _ _ hc]
    exact (foldl_min_le l _).2 _ (List.getElem_mem hc)
  · have hclen : c < l.length := Nat.lt_trans hc hlt
    have hne : l.getD c 0 ≠ l.foldl min (l.headD 0) := by
      have hnot := List.not_of_lt_findIdx (xs := l) (p := (· == l.foldl min (l.headD 0))) hc
      rw [getD_of_lt _ _ hclen]
      simpa using hnot
    rw [hbest]
    refine Nat.lt_of_le_of_ne ?_ (Ne.symm hne)
    rw [getD_of_lt _ _ hclen]
    exact (foldl_min_le l _).2 _ (List.getElem_mem hclen)

end BestCode

section Stored
variable {s : State} {index : Nat} {v : Nat → Val}

/-- Objects of one array that are stored in turn, each under its own subindex. -/
def putArray (index : Nat) (v : Nat → Val) (n : Nat) (s : State) : State :=
  foldState (fun l s => putObj ⟨index, l + 1⟩ (v l) s) (List.range n) s

theorem foldState_append {α : Type} {f : α → State → State} (l m : List α) :
    foldState f (l ++ m) s = foldState f m (foldState f l s) := by
  induction l generalizing s with
  | nil => rfl
  | cons a l ih => rw [List.cons_append, foldState, ih, foldState]

theorem putArray_succ {n : Nat} : putArray index v (n + 1) s = putObj ⟨index, n + 1⟩ (v n) (putArray index v n s) := by
  rw [putArray, List.range_succ, foldState_append]
  rfl

theorem putArray_sameBut {n : Nat} : SameBut [.od, .stored, .counters, .mgmt, .int] s (putArray index v n s) :=
  foldState_frame (fun _ _ h => putObj_frame (by decide) h) (SameBut.refl _ s)

theorem objVal_putArray {n l : Nat} (h : l < n) : objVal (putArray index v n s) index (l + 1) = v l := by
  induction n with
  | zero => exact absurd h (Nat.not_lt_zero l)
  | succ n ih =>
    rw [putArray_succ]
    rcases Nat.lt_succ_iff_lt_or_eq.1 h with hlt | rfl
    · have hne : index * 256 + (l + 1) ≠ index * 256 + (n + 1) := by omega
      rw [objVal_putObj_other (ref := ⟨index, n + 1⟩) hne, ih hlt]
    · exact objVal_putObj

theorem objBytes_putObj {sub : Nat} {b : Bytes} : objBytes (putObj ⟨index, sub⟩ (.bytes b) s) index sub = b :=
  congrArg valBytes objVal_putObj

end Stored

section Ends
variable {s : State} {values : Calibration}

theorem modBoot_boot {f : BootSt → BootSt} : (modBoot f s).boot = f s.boot := rfl

/-- A calibration that ends well stores its results and retrains its link. -/
theorem endCalibration_eq {k : Nat} (h : s.boot.calibrating = some k) : endCalibration true values s =
    retrainAfter k (storeCalibration k values (modBoot (fun x => { x with calibrating := none, calibrated := 2 }) s)) := by
  rw [endCalibration, h]
  rfl

/-- The registers of a calibration, over what stores its results and retrains. -/
theorem calibrationEnded {t u : State} {p : Port}
    (ht : t.boot = { s.boot with calibrating := none, calibrated := 2 })
    (hu : u.boot = (linkLeavesL0 p t).boot) : u.boot.calibrating = none ∧ u.boot.calibrated = 2 := by
  obtain ⟨lanes, h, -⟩ := linkLeavesL0_boot p t
  rw [hu, h, ht]
  exact ⟨rfl, rfl⟩

/-- PORT0 mode MAIN is asked for: its object, and the bring-up registers but for the lanes of a measurement. -/
theorem requestMain_boot : ∃ lanes, (requestMain s).boot = { s.boot with lanes := lanes } ∧
    (requestMain s).od = (putObj ⟨0x2001, 1⟩ (.num 1) s).od ∧ (requestMain s).variant = s.variant := by
  have hput : SameBut [.od, .stored, .counters, .mgmt, .int] s (putObj ⟨0x2001, 1⟩ (.num 1) s) :=
    putObj_frame (by decide) (SameBut.refl _ s)
  have hboot : (putObj ⟨0x2001, 1⟩ (.num 1) s).boot = s.boot := hput.2.2 .boot (by decide)
  unfold requestMain
  dsimp only
  split
  · exact ⟨s.boot.lanes, hboot, rfl, hput.1⟩
  · obtain ⟨lanes, h, -⟩ := linkLeavesL0_boot 0 (putObj ⟨0x2001, 1⟩ (.num 1) s)
    have hnonce (t : State) : SameBut [.port0, .sec, .draws, .out] t (linkNonceOut (modPort0 (fun x => { x with
        training := true, nonceOut := false }) t)) :=
      linkNonceOut_frame (by decide) (modPort0_frame (by decide) (SameBut.refl _ t))
    refine ⟨lanes, ?_, ?_, ?_⟩
    · refine ((hnonce _).2.2 .boot (by decide)).trans ?_
      rw [h, hboot]
    · refine ((hnonce _).2.2 .od (by decide)).trans ?_
      rw [h]
    · refine (hnonce _).1.trans ?_
      rw [h]
      exact hput.1

end Ends

/-- Settles O56: a request by the two registers that it sets, an end by the objects it stores. -/
theorem calibration : Obligations.Calibration := by
  intro s hinv
  refine ⟨fun rq => ?asked, fun k values hk => ⟨?failed, fun hone => ?port0, fun hlo hhi => ?lanes, fun hge => ?stack⟩⟩
  case asked =>
    intro asks runs
    have hruns (k : Nat) (hasks : asks k) : calibrate rq k s = startCalibration k (emit (.objectStatus rq ⟨0xC004, 1⟩ .ok) s) ∧
        runs k (startCalibration k (emit (.objectStatus rq ⟨0xC004, 1⟩ .ok) s)) :=
      ⟨requestWrite_accepted hasks.1 hasks.2, rfl, modBoot_frame (by decide) (emit_frame (by decide) (SameBut.refl _ s))⟩
    exact ⟨fun h => Gives.of_eq rfl (hruns 1 h).1 (hruns 1 h).2, fun p h => Gives.of_eq rfl (hruns _ h).1 (hruns _ h).2,
      fun st h => Gives.of_eq rfl (hruns _ h).1 (hruns _ h).2⟩
  case failed =>
    refine Gives.of_eq (t := modBoot (fun x => { x with calibrating := none, calibrated := 3 }) s) rfl ?_
      ⟨rfl, modBoot_frame (by decide) (SameBut.refl _ s)⟩
    rw [endCalibration, hk]
    rfl
  case port0 =>
    subst hone
    generalize hs1 : modBoot (fun x => { x with calibrating := none, calibrated := 2 }) s = s1
    have hboot1 : s1.boot = { s.boot with calibrating := none, calibrated := 2 } := by rw [← hs1]; rfl
    have hstored : storeCalibration 1 values s1 =
        putArray 0x2020 (fun l => .num (bestCode (values.errors.getD l []) % 256)) 64 s1 := rfl
    obtain ⟨lanes, hboot, hod, hvariant⟩ := requestMain_boot (s := storeCalibration 1 values s1)
    have hput := putArray_sameBut (s := s1) (index := 0x2020)
      (v := fun l => .num (bestCode (values.errors.getD l []) % 256)) (n := 64)
    have hval (a b : Nat) : objVal (requestMain (storeCalibration 1 values s1)) a b =
        objVal (putObj ⟨0x2001, 1⟩ (.num 1) (storeCalibration 1 values s1)) a b :=
      objVal_congr (hvariant.trans putObj_variant.symm) hod a b
    have hretrain (t : State) : retrainAfter 1 t = requestMain t := if_pos rfl
    refine Gives.of_eq (t := requestMain (storeCalibration 1 values s1)) rfl
      ((endCalibration_eq hk).trans (by rw [hs1, hretrain])) ?_
    refine ⟨?_, ?_, ?_, fun l hl hlen => ?_⟩
    · rw [hboot, hstored, hput.2.2 .boot (by decide), hboot1]
    · rw [hboot, hstored, hput.2.2 .boot (by decide), hboot1]
    · rw [objNum, hval]
      exact congrArg valNum objVal_putObj
    · have hne : 0x2020 * 256 + (l + 1) ≠ 0x2001 * 256 + 1 := by omega
      have hbest : objNum (requestMain (storeCalibration 1 values s1)) 0x2020 (l + 1) =
          bestCode (values.errors.getD l []) % 256 := by
        rw [objNum, hval, objVal_putObj_other (ref := ⟨0x2001, 1⟩) hne, hstored, objVal_putArray hl]
        rfl
      have hnil : values.errors.getD l [] ≠ [] := fun h => by rw [h] at hlen; exact absurd hlen (by decide)
      obtain ⟨hlt, hmin, hlowest⟩ := bestCode_best hnil
      rw [hlen] at hlt hmin
      intro best errors
      rw [show best = bestCode (values.errors.getD l []) from hbest.trans (Nat.mod_eq_of_lt hlt)]
      exact ⟨hlt, hmin, hlowest⟩
  case lanes =>
    generalize hs1 : modBoot (fun x => { x with calibrating := none, calibrated := 2 }) s = s1
    have hboot1 : s1.boot = { s.boot with calibrating := none, calibrated := 2 } := by rw [← hs1]; rfl
    have hports1 : s1.ports = s.ports := by rw [← hs1]; rfl
    have hstored : storeCalibration k values s1 =
        putArray (0x201F + k) (fun l => .num (values.values.getD l 0).toNat) 16 s1 := by
      rw [storeCalibration, if_neg (by omega), if_pos (by omega)]
      rfl
    have hput := putArray_sameBut (s := s1) (index := 0x201F + k) (v := fun l => .num (values.values.getD l 0).toNat) (n := 16)
    have hretrain (t : State) : retrainAfter k t = emit (.portTraining (Fin.ofNat 4 (k - 1))) (linkLeavesL0
        (Fin.ofNat 4 (k - 1)) (modPort (Fin.ofNat 4 (k - 1)) (fun x => { x with
          link := if x.link = .l0 then .recovery else x.link }) t)) := by
      rw [retrainAfter, if_neg (by omega), if_pos (by omega)]
    have hframe (p : Port) (f : PortSt → PortSt) (t : State) : SameBut [.links, .intx, .requests, .ats, .boot, .out] t
        (emit (.portTraining p) (linkLeavesL0 p (modPort p f t))) :=
      emit_frame (by decide) (linkLeavesL0_frame (by decide) (modPort_frame (.inr (by decide)) (.inr (by decide))
        (.inr (by decide)) (.inr (by decide)) (SameBut.refl _ t)))
    refine Gives.of_eq rfl ((endCalibration_eq hk).trans (by rw [hs1, hretrain])) ?_
    obtain ⟨hcalibrating, hcalibrated⟩ := calibrationEnded (s := s) (p := Fin.ofNat 4 (k - 1))
      (t := modPort (Fin.ofNat 4 (k - 1)) (fun x => { x with link := if x.link = .l0 then .recovery else x.link })
        (storeCalibration k values s1))
      (by rw [modPort_boot, hstored, hput.2.2 .boot (by decide), hboot1]) rfl
    refine ⟨hcalibrating, hcalibrated, fun l hl => ?_, fun hlink => ?_⟩
    · rw [objNum, (hframe _ _ _).objVal (by decide), hstored, objVal_putArray hl]
      rfl
    · have hlen : (storeCalibration k values s1).ports.length = 4 := by
        rw [hstored, hput.ports_length (by decide), hports1, hinv.ports]
      rw [getPort_emit, getPort_linkLeavesL0, getPort_modPort hlen, hstored, hput.getPort (by decide),
        getPort_congr hports1, hlink]
      rfl
  case stack =>
    have hstored (t : State) : retrainAfter k (storeCalibration k values t) =
        putObj ⟨0x5010 + (k - 0x20), 5⟩ (.bytes (padTo 512 values.values)) t := by
      rw [retrainAfter, if_neg (by omega), if_neg (by omega), storeCalibration, if_neg (by omega), if_neg (by omega)]
    have hput (t : State) : (putObj ⟨0x5010 + (k - 0x20), 5⟩ (.bytes (padTo 512 values.values)) t).boot = t.boot :=
      (putObj_frame (L := [.od, .stored, .counters, .mgmt, .int]) (by decide) (SameBut.refl _ t)).2.2 .boot (by decide)
    refine Gives.of_eq rfl ((endCalibration_eq hk).trans (hstored _)) ⟨?_, ?_, ?_⟩
    · rw [hput]; rfl
    · rw [hput]; rfl
    · exact objBytes_putObj

end Sys2Proof.Machine
end

section
/-!
SUPPORT and CLAIM. Bring-up to the running firmware (15_bringup_firmware, R442 to R452): what a step that begins or ends
sets, and the obligation O54.
-/
namespace Sys2Proof.Machine

section Steps
variable {s : State} {rq : Requester} {c : BringUpCmd} {act : State → State}

/-- The state of an accepted step before its own action: OK is answered, and the step runs (R442). -/
def stepBegun (rq : Requester) (c : BringUpCmd) (s : State) : State :=
  beginStep c (emit (.objectStatus rq ⟨0xC000, 2⟩ .ok) s)

/-- An accepted step begins and takes its action. -/
theorem bringUpWrite_accepted (h : accepts s rq ⟨0xC000, 2⟩ (.num (bringUpCode c))) (hr : stepRefused c s = none) :
    bringUpWrite rq c act s = act (stepBegun rq c s) := requestWrite_accepted h hr

theorem stepBegun_boot : (stepBegun rq c s).boot = { s.boot with command := c, result := .running, began := s.gtc } := rfl

theorem stepBegun_out : (stepBegun rq c s).out = .objectStatus rq ⟨0xC000, 2⟩ .ok :: s.out := rfl

theorem stepBegun_sameBut : SameBut [.boot, .out] s (stepBegun rq c s) :=
  modBoot_frame (by decide) (emit_frame (by decide) (SameBut.refl _ s))

theorem stepRefused_not_running (h : stepRefused c s = none) : s.boot.result ≠ .running := by
  intro hr
  simp [stepRefused, hr] at h

theorem finishStep_boot {r : BringUpResult} : (finishStep r s).boot = { s.boot with
    result := r, stepGtc := s.gtc, state := if r = .done then leavesState s.boot.command else s.boot.state } := rfl

/-- The bring-up registers when so many bytes of the image have been asked for. -/
def issuedBoot (n : Nat) (x : BootSt) : BootSt := { x with issued := n }

theorem foldState_issuedBoot {α : Type} {f : α → State → State} (hf : ∀ a t, ∃ n, (f a t).boot = issuedBoot n t.boot)
    (l : List α) : ∃ n, (foldState f l s).boot = issuedBoot n s.boot := by
  induction l generalizing s with
  | nil => exact ⟨s.boot.issued, rfl⟩
  | cons a l ih =>
    obtain ⟨m, hm⟩ := hf a s
    obtain ⟨n, hn⟩ := ih (s := f a s)
    exact ⟨n, by rw [foldState, hn, hm]; rfl⟩

/-- One read of the image is issued where it comes next (R451). -/
def issueImageRead (g : Fun) (from_ : Nat) (x : Nat × Nat × Nat) (s : State) : State :=
  if s.boot.issued ≠ from_ + x.2.1 || !(waitsOf s (portOf g) .image).isEmpty || !dmaOpen s then s
  else
    let s := requestTag ⟨g, .image, none, x.1, from_ + x.2.1, x.2.2⟩ s
    { s with boot := { s.boot with issued := from_ + x.2.1 + x.2.2 } }

/-- The reads of the image are issued, and of the bring-up registers only their number changes (R451). -/
theorem issueImage_boot : ∃ n, (issueImage s).boot = issuedBoot n s.boot := by
  have hserve (p : Port) : (serveWaits p s).boot = s.boot :=
    (serveWaits_frame (L := [.counters, .requests, .ats, .int, .out]) (by decide) (SameBut.refl _ s)).2.2 .boot (by decide)
  have htag (w : TagWait) (t : State) : (requestTag w t).boot = t.boot :=
    (requestTag_frame (L := [.counters, .requests, .ats, .int, .out]) (by decide) (SameBut.refl _ t)).2.2 .boot (by decide)
  unfold issueImage
  dsimp only
  split
  · exact ⟨s.boot.issued, rfl⟩
  · have hissued := foldState_issuedBoot (s := serveWaits (portOf (imageFn s)) s)
      (f := issueImageRead (imageFn s) s.boot.issued) (fun x t => ?_)
      (requests (maxRead s (imageFn s)) (objNum s 0xC001 3 + s.boot.issued) (objNum s 0xC001 4 - s.boot.issued))
    · rw [hserve] at hissued
      exact hissued
    · rw [issueImageRead]
      split
      · exact ⟨t.boot.issued, rfl⟩
      · exact ⟨s.boot.issued + x.2.1 + x.2.2, congrArg (issuedBoot _) (htag _ t)⟩

/-- The state once the whole image has arrived and has been measured, before its checks decide (R451). -/
def imageMeasured (s : State) : State :=
  let d := sha384 (memRead s.boot.image 0 (imageBytes s))
  modSec (fun x => { x with mr := x.mr.set 1 d }) (modBoot (fun x => { x with digest := d }) s)

theorem imageComplete_passes (hruns : (loadRuns s && s.boot.fw = .loading) = true) (hin : imageIn s = true)
    (h : imageCheck s (memRead s.boot.image 0 (imageBytes s)) = 0) :
    imageComplete s = startFirmware (memRead s.boot.image 0 (imageBytes s)) (imageMeasured s) := by
  unfold imageComplete
  rw [if_pos hruns, if_pos hin]
  extract_lets b d s1
  have hcheck : imageCheck s1 b = 0 := h
  split
  · rfl
  · rename_i hne; exact absurd hcheck hne

theorem imageComplete_fails (hruns : (loadRuns s && s.boot.fw = .loading) = true) (hin : imageIn s = true)
    (h : imageCheck s (memRead s.boot.image 0 (imageBytes s)) ≠ 0) :
    imageComplete s = finishStep .imageRejected (modBoot (fun x => { x with
      fw := .failed, loadError := imageCheck s (memRead s.boot.image 0 (imageBytes s)) }) (imageMeasured s)) := by
  unfold imageComplete
  rw [if_pos hruns, if_pos hin]
  extract_lets b d s1
  have hcheck : imageCheck s1 b ≠ 0 := h
  split
  · rename_i hzero; exact absurd hzero hcheck
  · rfl

theorem requestMain_training : (requestMain s).port0.training = true := by
  unfold requestMain
  dsimp only
  split
  · assumption
  · obtain ⟨out, n, h⟩ := linkNonceOut_port0 (s := modPort0 (fun x => { x with training := true, nonceOut := false })
      (linkLeavesL0 0 (putObj ⟨0x2001, 1⟩ (.num 1) s)))
    rw [h]
    rfl

end Steps

/-- Settles O54: each accepted step begins, and its own action sets the rest; the end of QUALIFY and of the image by their
one update of the bring-up registers. -/
theorem bringUpToFirmware : Obligations.BringUpToFirmware := by
  intro s hinv
  refine ⟨fun rq => ?_, fun counts hrun hcmd hall => ?ended, fun hrun hcmd hload hin => ?image,
    fun rq chunk hacc href hheld => ?chunk⟩
  · intro starts runs
    refine ⟨fun hst hserdes htile => ?power, fun hst hbad => ?missing, fun hst => ?train, fun hst => ?qualify,
      fun hst hnot hwhole => ?load⟩
    case power =>
      refine Gives.of_eq rfl ((bringUpWrite_accepted hst.1 hst.2).trans (if_pos ?_)) ⟨⟨rfl, rfl, rfl, ?_⟩, rfl⟩
      · have hgood : (stepBegun rq .power s).power = s.power := rfl
        rw [hgood, hserdes, htile]; rfl
      · exact List.mem_cons_self
    case missing =>
      refine Gives.of_eq rfl ((bringUpWrite_accepted hst.1 hst.2).trans (if_neg ?_)) ⟨rfl, rfl, rfl, rfl⟩
      have hgood : (stepBegun rq .power s).power = s.power := rfl
      rw [hgood]
      rcases hbad with h | h <;> rw [h] <;> simp
    case train =>
      have hbegun : ∃ state, (modBoot (fun x => { x with state := if x.state = .qualified then .trained else x.state })
          (stepBegun rq .train s)).boot = { s.boot with
            command := .train, result := .running, began := s.gtc, state := state } := ⟨_, rfl⟩
      generalize hs1 : modBoot (fun x => { x with state := if x.state = .qualified then .trained else x.state })
        (stepBegun rq .train s) = s1 at hbegun
      obtain ⟨state, hboot1⟩ := hbegun
      have hout1 : .objectStatus rq ⟨0xC000, 2⟩ .ok ∈ s1.out := by rw [← hs1]; exact List.mem_cons_self
      obtain ⟨lanes, hboot, hod, hvariant⟩ := requestMain_boot (s := s1)
      have hok : Ok s1 (requestMain s1) := requestMain_ok (Ok.refl s1)
      refine Gives.of_eq (t := requestMain s1) rfl ((bringUpWrite_accepted hst.1 hst.2).trans (by rw [← hs1]; rfl))
        ⟨⟨?_, ?_, ?_, hok.out.subset hout1⟩, ?_, requestMain_training⟩
      · rw [hboot, hboot1]
      · rw [hboot, hboot1]
      · rw [hboot, hboot1]
      · rw [objNum, objVal_congr (hvariant.trans putObj_variant.symm) hod]
        exact congrArg valNum objVal_putObj
    case qualify =>
      refine Gives.of_eq rfl (bringUpWrite_accepted hst.1 hst.2) ⟨⟨rfl, rfl, rfl, List.mem_cons_self⟩, rfl, rfl, rfl, ?_⟩
      exact modBoot_frame (by decide) stepBegun_sameBut
    case load =>
      have hfw : (stepBegun rq .loadFirmware s).boot.fw ≠ .running := hnot
      by_cases hhost : objNum s 0xC001 1 = 1
      · have hcond : (List.range ((imageBytes s + 4095) / 4096)).all s.boot.blocks.contains = true :=
          hwhole.resolve_left fun h => h hhost
        have hload : startLoad (stepBegun rq .loadFirmware s) = modBoot (fun x => { x with fw := .loading, loadError := 0 })
            (stepBegun rq .loadFirmware s) := by
          rw [startLoad, if_neg hfw]
          exact (if_pos hhost).trans (if_pos hcond)
        exact Gives.of_eq rfl ((bringUpWrite_accepted hst.1 hst.2).trans hload)
          ⟨⟨rfl, rfl, rfl, List.mem_cons_self⟩, rfl, rfl⟩
      · have hload : startLoad (stepBegun rq .loadFirmware s) = issueImage (modBoot (fun x => { x with
            fw := .loading, loadError := 0, issued := 0 }) (stepBegun rq .loadFirmware s)) := by
          rw [startLoad, if_neg hfw]
          exact if_neg hhost
        obtain ⟨n, hboot⟩ := issueImage_boot (s := modBoot (fun x => { x with
            fw := .loading, loadError := 0, issued := 0 }) (stepBegun rq .loadFirmware s))
        have hok := issueImage_ok (Ok.refl (modBoot (fun x => { x with
            fw := .loading, loadError := 0, issued := 0 }) (stepBegun rq .loadFirmware s)))
        refine Gives.of_eq rfl ((bringUpWrite_accepted hst.1 hst.2).trans hload) ?_
        exact ⟨⟨congrArg BootSt.command hboot, congrArg BootSt.result hboot, congrArg BootSt.began hboot,
          hok.out.subset List.mem_cons_self⟩, congrArg BootSt.fw hboot, congrArg BootSt.loadError hboot⟩
  case ended =>
    refine Gives.of_eq rfl (if_pos (by simp [hrun, hcmd, hall])) ⟨rfl, rfl, rfl, rfl, fun hnone => ?_, fun hsome => ?_⟩
    · have hzero : ((s.boot.lanes.map (laneResult counts)).filter fun l => l.result == 2).length = 0 := hnone
      have hempty := List.isEmpty_iff.2 (List.length_eq_zero_iff.1 hzero)
      refine ⟨if_pos hempty, ?_⟩
      have hdone : (if ((s.boot.lanes.map (laneResult counts)).filter fun l => l.result == 2).isEmpty then
          BringUpResult.done else .lanesFailed) = .done := if_pos hempty
      exact (if_pos hdone).trans (by rw [modBoot_boot, hcmd]; rfl)
    · have hempty : ¬ ((s.boot.lanes.map (laneResult counts)).filter fun l => l.result == 2).isEmpty = true := by
        intro h
        exact hsome (List.length_eq_zero_iff.2 (List.isEmpty_iff.1 h))
      refine ⟨if_neg hempty, ?_⟩
      have hfailed : (if ((s.boot.lanes.map (laneResult counts)).filter fun l => l.result == 2).isEmpty then
          BringUpResult.done else .lanesFailed) = .lanesFailed := if_neg hempty
      exact if_neg (by rw [hfailed]; decide)
  case image =>
    intro b
    have hmr (d : Bytes) : (s.sec.mr.set 1 d).getD 1 [] = d := by
      simp [List.getD_eq_getElem?_getD, hinv.mr]
    have hdigest : (imageMeasured s).sec.mr.getD 1 [] = sha384 b := hmr _
    have hruns : (loadRuns s && s.boot.fw = .loading) = true := by simp [loadRuns, hrun, hcmd, hload]
    by_cases hk : imageCheck s b = 0
    · refine Gives.of_eq rfl (imageComplete_passes hruns hin hk) ⟨rfl, hdigest, fun _ => ⟨rfl, rfl, ?_, rfl, rfl⟩,
        fun h => absurd hk h⟩
      have hstate : (startFirmware b (imageMeasured s)).boot.state = leavesState s.boot.command := rfl
      rw [hstate, hcmd]
      rfl
    · exact Gives.of_eq rfl (imageComplete_fails hruns hin hk) ⟨rfl, hdigest, fun h => absurd h hk,
        fun _ => ⟨rfl, rfl, rfl, rfl⟩⟩
  case chunk =>
    refine Gives.of_eq rfl ((requestWrite_accepted hacc href).trans (if_pos hheld)) ⟨fun i hi => ?_, fun a ha => ?_⟩
    · exact memGet_memWrite_inside hinv.image hi
    · exact memGet_memWrite_outside hinv.image ha

end Sys2Proof.Machine
end

section
/-!
SUPPORT and CLAIM. Bring-up from the tiles to READY (15_bringup_firmware, R453 to R457): the answers of the tiles, the
place of the engines' patterns, the steps that end, and the obligation O55.
-/
namespace Sys2Proof.Machine

section Tiles
variable {s : State}

theorem mem_insertNat {n : Nat} {l : List Nat} : n ∈ insertNat n l := by
  induction l with
  | nil => exact List.mem_singleton.2 rfl
  | cons a l ih =>
    rw [insertNat]
    split
    · exact List.mem_cons_self
    · split
      · rename_i h; rw [h]; exact List.mem_cons_self
      · exact List.mem_cons_of_mem a ih

/-- A tile gets the section again while it has tries left (R453). -/
theorem sendAgain_again {w : TileWait} (h : w.tries < 3) : .tileSection (some w.tile) ∈ (sendAgain w s).out ∧
    ∀ v ∈ (sendAgain w s).boot.waits, v.tile = w.tile → v = ⟨w.tile, w.tries + 1, s.gtc⟩ := by
  rw [sendAgain, if_pos h]
  refine ⟨List.mem_cons_self, fun v hv htile => ?_⟩
  obtain ⟨x, -, rfl⟩ := List.mem_map.1 hv
  by_cases hx : x.tile = w.tile
  · simp [hx]
  · simp [hx] at htile

/-- A tile without tries left has failed (R453). -/
theorem sendAgain_given {w : TileWait} (h : 3 ≤ w.tries) : w.tile ∈ (sendAgain w s).boot.failedTiles ∧
    ∀ v ∈ (sendAgain w s).boot.waits, v.tile ≠ w.tile := by
  rw [sendAgain, if_neg (Nat.not_lt.2 h)]
  exact ⟨mem_insertNat, fun v hv => by simpa using (List.mem_filter.1 hv).2⟩

/-- An answer with the digest loads its tile (R453). -/
theorem tileAnswers_loaded {k : Nat} {w : TileWait} (hw : (s.boot.waits.find? fun w => w.tile == k) = some w)
    (hruns : broadcastRuns s = true) : tileAnswers k s.boot.tileDigest s = modBoot (fun x => { x with
      waits := x.waits.filter fun v => v.tile != k, loaded := insertNat k x.loaded }) s := by
  rw [tileAnswers, hw]
  simp [hruns]

theorem tileAnswers_other {k : Nat} {w : TileWait} {b : Bytes} (hw : (s.boot.waits.find? fun w => w.tile == k) = some w)
    (hruns : broadcastRuns s = true) (hb : b ≠ s.boot.tileDigest) : tileAnswers k b s = sendAgain w s := by
  rw [tileAnswers, hw]
  simp [hruns, hb]

theorem tileSilent_late {k : Nat} {w : TileWait} (hw : (s.boot.waits.find? fun w => w.tile == k) = some w)
    (hruns : broadcastRuns s = true) (hlate : 25000000 ≤ (s.gtc - w.since).toNat) : tileSilent k s = sendAgain w s := by
  rw [tileSilent, hw]
  dsimp only
  rw [if_pos]
  rw [hruns, Bool.true_and]
  exact decide_eq_true hlate

/-- The patterns of the engines lie in one GENERAL region (R454). -/
theorem testPlace_general {a : Nat} (h : testPlace s = some a) :
    ∃ r ∈ s.pool.regions, r.kind = .general ∧ r.base ≤ a ∧ a + testBytes ≤ r.base + r.bytes := by
  unfold testPlace at h
  split at h
  · cases h
  · rename_i r hr
    have hmem := List.mem_of_find?_eq_some hr
    have hfound := List.find?_some hr
    simp only [Bool.and_eq_true, beq_iff_eq, decide_eq_true_eq] at hfound
    obtain ⟨hkind, hbytes⟩ := hfound
    cases h
    have hpos : 0 < r.bytes / testBytes := Nat.div_pos hbytes (by decide)
    generalize Config.choice s.draws (r.bytes / testBytes) = c
    have hslot : c % (r.bytes / testBytes) + 1 ≤ r.bytes / testBytes := Nat.mod_lt _ hpos
    have hend : (c % (r.bytes / testBytes) + 1) * testBytes ≤ r.bytes :=
      Nat.le_trans (Nat.mul_le_mul_right _ hslot) (Nat.div_mul_le_self _ _)
    rw [Nat.add_mul, Nat.one_mul] at hend
    exact ⟨r, hmem, hkind, by omega, by omega⟩

/-- What is left free of a span changes no byte outside it. -/
theorem freeSpan_mem (hm : Memory.wf s.pool.mem = true) {b n a : Nat} (h : a < b ∨ b + n ≤ a) :
    memGet (freeSpan b n s).pool.mem a = memGet s.pool.mem a :=
  memGet_memWrite_outside hm (by rwa [List.length_map, List.length_range])

/-- The spans of the patterns wait for a scrub. -/
def patternsQueued (a : Nat) (s : State) : State :=
  { s with pool := { s.pool with scrubs := s.pool.scrubs ++ [⟨a, testBytes, 0, none, none, false, false⟩] } }

theorem patternsQueued_mem {a : Nat} : (patternsQueued a s).pool.mem = s.pool.mem := rfl

theorem movePatterns_some {a : Nat} (h : testPlace s = some a) :
    movePatterns s = patternsQueued a (freeSpan a testBytes (draw s)) := by
  unfold movePatterns patternsQueued
  rw [h]

theorem movePatterns_none (h : testPlace s = none) : movePatterns s = s := by
  unfold movePatterns
  rw [h]

/-- The patterns change no byte outside the GENERAL regions (R454). -/
theorem movePatterns_mem (hinv : Inv s) {a : Nat}
    (h : ∀ r ∈ s.pool.regions, r.kind = .general → a < r.base ∨ r.base + r.bytes ≤ a) :
    memGet (movePatterns s).pool.mem a = memGet s.pool.mem a := by
  cases hplace : testPlace s with
  | none => rw [movePatterns_none hplace]
  | some b =>
    obtain ⟨r, hmem, hkind, hlo, hhi⟩ := testPlace_general hplace
    have hout : a < b ∨ b + testBytes ≤ a := by
      have hr := h r hmem hkind
      generalize testBytes = n at hhi ⊢
      omega
    have hdrawn : Memory.wf (draw s).pool.mem = true := hinv.pool
    rw [movePatterns_some hplace, patternsQueued_mem, freeSpan_mem hdrawn hout, draw_pool]

theorem movePatterns_sameBut : SameBut [.memory, .pool, .draws] s (movePatterns s) :=
  movePatterns_frame (by decide) (SameBut.refl _ s)

/-- The clusters take their positions: of the bring-up registers only these change (R454). -/
theorem placeClusters_boot : ∃ ps, (placeClusters s).boot = { s.boot with positions := ps } := ⟨_, rfl⟩

/-- The state of the start-up test once the engines have moved their patterns and the clusters have their positions. -/
def testPlaced (clusters : List (Nat × Nat)) (engines : U32) (s : State) : State :=
  placeClusters (modBoot (fun x => { x with
    failedClusters := clusters.filter (fun c => x.loaded.contains c.1 && c.2 < 16), failedEngines := engines }) s)

/-- What the start-up test concludes, once the engines have moved their patterns. -/
def testConcluded (clusters : List (Nat × Nat)) (engines : U32) (s : State) : State :=
  finishStep (if (testPlaced clusters engines s).boot.positions.isEmpty then .noCluster else .done)
    (modDet (fun x => { x with enginesFenced := x.enginesFenced ||| engines }) (testPlaced clusters engines s))

theorem endTest_eq (clusters : List (Nat × Nat)) (engines : U32) :
    endTest clusters engines s = testConcluded clusters engines (movePatterns s) := by
  unfold endTest testConcluded testPlaced
  rfl

theorem testPlaced_boot (clusters : List (Nat × Nat)) (engines : U32) :
    (testPlaced clusters engines s).boot = { s.boot with
      failedClusters := clusters.filter (fun c => s.boot.loaded.contains c.1 && c.2 < 16), failedEngines := engines
      positions := (testPlaced clusters engines s).boot.positions } := rfl

/-- The end of the test, by whether a cluster has a position (R454). -/
theorem testConcluded_ends (clusters : List (Nat × Nat)) (engines : U32) :
    let t := testConcluded clusters engines s
    t.boot.failedEngines = engines ∧ t.boot.stepGtc = s.gtc ∧ t.pool = s.pool ∧
      (t.boot.positions ≠ [] → t.boot.result = .done ∧ t.boot.state = leavesState s.boot.command) ∧
      (t.boot.positions = [] → t.boot.result = .noCluster ∧ t.boot.state = s.boot.state) := by
  have hboot := testPlaced_boot (s := s) clusters engines
  have hframe : SameBut [.det, .boot] s (testPlaced clusters engines s) :=
    placeClusters_frame (by decide) (modBoot_frame (by decide) (SameBut.refl _ s))
  have hgtc : (testPlaced clusters engines s).gtc = s.gtc := hframe.2.2 .gtc (by decide)
  have hpool := hframe.pool_eq (by decide)
  rw [testConcluded]
  generalize testPlaced clusters engines s = u at hboot hgtc hpool ⊢
  have hcommand : u.boot.command = s.boot.command := by rw [hboot]
  have hstate : u.boot.state = s.boot.state := by rw [hboot]
  refine ⟨congrArg BootSt.failedEngines hboot, hgtc, hpool, fun hplaced => ?_, fun hplaced => ?_⟩
  · have hsome : ¬ u.boot.positions.isEmpty = true := fun h => hplaced (List.isEmpty_iff.1 h)
    rw [if_neg hsome]
    exact ⟨rfl, congrArg leavesState hcommand⟩
  · have hnone : u.boot.positions.isEmpty = true := List.isEmpty_iff.2 hplaced
    rw [if_pos hnone]
    exact ⟨rfl, hstate⟩

theorem getFn_readied (hfns : s.fns.length = 32) {t : State} (ht : t.fns = s.fns.map readied) (g : Fun) :
    getFn t g = readied (getFn s g) := by
  have hg : g.val < s.fns.length := by rw [hfns]; exact g.isLt
  simp [getFn, ht, List.getD_eq_getElem?_getD, hg]

theorem readied_state (x : FnSt) : (readied x).state = if x.state = .notReady then .active else x.state := by
  rw [readied]
  split <;> rfl

end Tiles

/-- Settles O55: each step by what its start or its end sets, each tile by the tries it has left. -/
theorem bringUpToReady : Obligations.BringUpToReady := by
  intro s hinv
  refine ⟨fun rq => ?_, fun hrun => ⟨fun hcmd k w hw => ?_, fun clusters engines => ?_, fun hcmd hstate hscrub => ?ready⟩⟩
  · intro starts runs
    refine ⟨fun hst hloaded => ?broadcast, fun hst => ?test, fun hst => ?publish, fun hst hnone => ?declare⟩
    case broadcast =>
      refine Gives.of_eq rfl ((bringUpWrite_accepted hst.1 hst.2).trans (if_pos ?_))
        ⟨⟨rfl, rfl, rfl⟩, List.mem_cons_self, rfl⟩
      rw [stepBegun_boot, hloaded]
      rfl
    case test => exact Gives.of_eq rfl (bringUpWrite_accepted hst.1 hst.2) ⟨⟨rfl, rfl, rfl⟩, List.mem_cons_self⟩
    case publish => exact Gives.of_eq rfl (bringUpWrite_accepted hst.1 hst.2) ⟨⟨rfl, rfl, rfl⟩, rfl⟩
    case declare =>
      have hdeclare : startDeclare (stepBegun rq .declareReady s) = modBoot (fun x => { x with state := .declaring })
          (stepBegun rq .declareReady s) := by
        have hrefusal : readyRefusal (stepBegun rq .declareReady s) = none := hnone
        rw [startDeclare, hrefusal]
      exact Gives.of_eq rfl ((bringUpWrite_accepted hst.1 hst.2).trans hdeclare) ⟨⟨rfl, rfl, rfl⟩, rfl, rfl⟩
  · intro again given
    have hruns : broadcastRuns s = true := by simp [broadcastRuns, hrun, hcmd]
    have htile : w.tile = k := by simpa using List.find?_some hw
    subst htile
    have hagain (ht : w.tries < 3) : again (sendAgain w s) := sendAgain_again ht
    have hgiven (ht : 3 ≤ w.tries) : given (sendAgain w s) := sendAgain_given ht
    refine ⟨fun b hb => ?loaded, fun b hb => ⟨fun ht => ?_, fun ht => ?_⟩, fun hlate => ⟨fun ht => ?_, fun ht => ?_⟩⟩
    case loaded =>
      subst hb
      refine Gives.of_eq rfl (tileAnswers_loaded hw hruns) ⟨mem_insertNat, fun v hv => ?_⟩
      simpa using (List.mem_filter.1 hv).2
    · exact Gives.of_eq rfl (tileAnswers_other hw hruns hb) (hagain ht)
    · exact Gives.of_eq rfl (tileAnswers_other hw hruns hb) (hgiven ht)
    · exact Gives.of_eq rfl (tileSilent_late hw hruns hlate) (hagain ht)
    · exact Gives.of_eq rfl (tileSilent_late hw hruns hlate) (hgiven ht)
  · intro ended
    have hne : ¬ s.boot.result ≠ .running := by simp [hrun]
    refine ⟨fun hcmd hdomains hswitch => ?power, fun hcmd ht => ?train, fun hcmd hwaits hloaded => ?broadcast,
      fun hcmd => ?test, fun hcmd => ?map⟩
    case power =>
      have hends : endRunning clusters engines s = finishStep .done (emit .tilesReleased s) := by
        rw [endRunning, if_neg hne, hcmd]
        exact if_pos (by simp [hdomains, hswitch])
      refine Gives.of_eq rfl hends ⟨⟨rfl, ?_, rfl⟩, List.mem_cons_self⟩
      rw [finishStep_boot, if_pos rfl, emit_boot, hcmd]
      rfl
    case train =>
      have hends : endRunning clusters engines s = finishStep (trainOutcome s) s := by
        rw [endRunning, if_neg hne, hcmd]
        exact if_neg (by simp [ht])
      refine Gives.of_eq rfl hends ⟨rfl, ?_, rfl⟩
      rw [finishStep_boot, hcmd]
      rfl
    case broadcast =>
      have hsome : ¬ s.boot.loaded.isEmpty = true := by simpa using hloaded
      have hends : endRunning clusters engines s = finishStep .done (modBoot (fun x => { x with image := [] }) s) := by
        rw [endRunning, if_neg hne, hcmd]
        exact (if_pos (by simp [hwaits])).trans (by rw [if_neg hsome, if_neg hsome])
      refine Gives.of_eq rfl hends ⟨⟨rfl, ?_, rfl⟩, rfl⟩
      rw [finishStep_boot, if_pos rfl, modBoot_boot, hcmd]
      rfl
    case test =>
      have hends : endRunning clusters engines s = testConcluded clusters engines (movePatterns s) := by
        rw [endRunning, if_neg hne, hcmd, ← endTest_eq]
      have hmem {a : Nat} := movePatterns_mem (a := a) hinv
      have hboot : (movePatterns s).boot = s.boot := movePatterns_sameBut.2.2 .boot (by decide)
      have hgtc : (movePatterns s).gtc = s.gtc := movePatterns_sameBut.2.2 .gtc (by decide)
      generalize movePatterns s = u at hends hmem hboot hgtc
      obtain ⟨hengines, hstep, hpool, hsome, hnone⟩ := testConcluded_ends (s := u) clusters engines
      rw [hboot] at hsome hnone
      refine Gives.of_eq rfl hends ⟨hengines, fun h => ⟨(hsome h).1, ?_, hstep.trans hgtc⟩,
        fun h => ⟨(hnone h).1, (hnone h).2, hstep.trans hgtc⟩, fun a ha => ?_⟩
      · rw [(hsome h).2, hcmd]; rfl
      · rw [hpool]; exact hmem ha
    case map =>
      have hends : endRunning clusters engines s = finishStep .done (rewriteMap s) := by
        rw [endRunning, if_neg hne, hcmd]
      refine Gives.of_eq rfl hends ⟨⟨rfl, ?_, rfl⟩, rfl, rfl, rfl⟩
      rw [finishStep_boot, if_pos rfl, show (rewriteMap s).boot = s.boot from rfl, hcmd]
      rfl
  case ready =>
    have hmr (d : Bytes) : (s.sec.mr.set 3 d).getD 3 [] = d := by simp [List.getD_eq_getElem?_getD, hinv.mr]
    refine Gives.of_eq rfl (if_pos (by simp [hstate, hrun, hscrub])) ⟨rfl, ?_, rfl, hmr _, fun g => ?_⟩
    · rw [finishStep_boot, if_pos rfl, modBoot_boot]
      exact congrArg leavesState hcmd
    · rw [getFn_readied hinv.fns rfl g, readied_state]

end Sys2Proof.Machine
end

section
/-!
SUPPORT and CLAIM. Power domains, enables, clocks, power-good inputs and telemetry (14_power_clocks, R424 to R437): what a
firing leaves of the power registers, a domain switch, and the obligation O53.
-/
namespace Sys2Proof.Machine

section Firings
variable {s t u : State}

/-! ### The power registers over a firing (11, R366 to R368) -/

/-- The power registers as a firing may leave them: the phase, and what is kept of firings and causes. -/
def firedPower (phase : SleepPhase) (slept : List (Fun × Nat)) (late : Option Nat) (cause : U64) (x : PowerSt) : PowerSt :=
  { x with phase := phase, slept := slept, wakeLate := late, wakeCause := cause }

/-- Nothing of the power registers has changed but the phase and what is kept of firings. -/
def OnlyFires (s t : State) : Prop := ∃ phase slept late cause, t.power = firedPower phase slept late cause s.power

theorem OnlyFires.of_power (h : t.power = s.power) : OnlyFires s t :=
  ⟨s.power.phase, s.power.slept, s.power.wakeLate, s.power.wakeCause, h⟩

theorem OnlyFires.refl (s : State) : OnlyFires s s := OnlyFires.of_power rfl

theorem OnlyFires.trans (h : OnlyFires s t) (k : OnlyFires t u) : OnlyFires s u := by
  obtain ⟨a, b, c, d, h⟩ := h
  obtain ⟨a', b', c', d', k⟩ := k
  exact ⟨a', b', c', d', by rw [k, h]; rfl⟩

theorem OnlyFires.ite {c : Prop} [Decidable c] (ht : OnlyFires s t) (hu : OnlyFires s u) :
    OnlyFires s (if c then t else u) := by split <;> assumption

theorem SameBut.onlyFires {L : List StatePart} (h : SameBut L s t) (hl : .power ∉ L) : OnlyFires s t :=
  OnlyFires.of_power (h.2.2 .power hl)

theorem askWake_onlyFires {code : Nat} : OnlyFires s (askWake code s) := by
  unfold askWake
  split
  · rw [OnlyFires, startWake_power]
    exact ⟨.waking, s.power.slept, none, causeWord code s.gtc, rfl⟩
  · exact ⟨s.power.phase, s.power.slept, if s.power.wakeLate.isNone then some code else s.power.wakeLate,
      s.power.wakeCause, rfl⟩
  · exact OnlyFires.refl s

theorem assertWake_onlyFires {g : Fun} {k : Nat} : OnlyFires s (assertWake g k s) := OnlyFires.of_power assertWake_power

theorem wakeFires_onlyFires {w : WakeInput} : OnlyFires s (wakeFires w s) := by
  have hlater : OnlyFires s (latchLater w s) := by
    cases w with
    | source g k => exact ⟨s.power.phase, s.power.slept ++ [(g, k)], s.power.wakeLate, s.power.wakeCause, rfl⟩
    | input n => exact OnlyFires.refl s
  unfold wakeFires
  split
  · cases w with
    | source g k => exact OnlyFires.ite assertWake_onlyFires (OnlyFires.refl s)
    | input n => exact OnlyFires.refl s
  · dsimp only
    split
    · exact hlater
    · cases w with
      | source g k => exact (hlater.trans assertWake_onlyFires).trans askWake_onlyFires
      | input n => exact hlater.trans askWake_onlyFires

theorem fire_onlyFires {g : Fun} {k : Nat} : OnlyFires s (fire g k s) := by
  have hlatch (v : State) : OnlyFires v (setLatch g k v) :=
    (setLatch_frame (L := [.counters, .intx, .fnCfg, .int, .out]) (by decide) (SameBut.refl _ v)).onlyFires (by decide)
  exact OnlyFires.ite (wakeFires_onlyFires.trans (hlatch _)) wakeFires_onlyFires

theorem foldState_onlyFires {α : Type} {f : α → State → State} (hf : ∀ a s, OnlyFires s (f a s)) (l : List α) :
    OnlyFires s (foldState f l s) := by
  induction l generalizing s with
  | nil => exact OnlyFires.refl s
  | cons a l ih => exact (hf a s).trans ih

theorem reactInt_onlyFires {e : Src} {g : Fun} : OnlyFires s (reactInt e g s) :=
  OnlyFires.trans (t := formEvent _ _ _ _ _ _ _ s) (OnlyFires.of_power rfl) fire_onlyFires

/-- An error reaches the power registers only through the latch of its INT reaction. -/
theorem raiseWith_onlyFires {e : Src} {i : ErrInfo} {lost : List CtxId} : OnlyFires s (raiseWith e i lost s) := by
  have hquiet {t : State} (h : SameBut [.od, .stored, .counters, .mgmt, .fnCfg, .int, .capture, .err, .out] s t) :
      OnlyFires s t := h.onlyFires (by decide)
  unfold raiseWith
  split
  · exact OnlyFires.refl s
  · extract_lets r cls s1 s2 s3 s4 s5 s6
    have h1 : SameBut [.od, .stored, .counters, .mgmt, .fnCfg, .int, .capture, .err, .out] s s1 :=
      countError_frame (by decide) (SameBut.refl _ s)
    have h3 : SameBut [.od, .stored, .counters, .mgmt, .fnCfg, .int, .capture, .err, .out] s s3 := by
      refine reactReset_frame (by decide) (SameBut.ite ?_ (SameBut.ite ?_ h1))
      · exact foldState_frame (fun a t h => captureFn_frame (by decide) h) (capturePackage_frame (by decide) h1)
      · exact foldState_frame (fun a t h => captureFn_frame (by decide) h) h1
    have h4 : SameBut [.od, .stored, .counters, .mgmt, .fnCfg, .int, .capture, .err, .out] s s4 :=
      SameBut.ite (reactNmi_frame (by decide) h3) h3
    have h5 : OnlyFires s s5 := hquiet (SameBut.ite (reactPin_frame (by decide) h4) h4)
    have h6 : OnlyFires s s6 := OnlyFires.ite (h5.trans (foldState_onlyFires (fun a t => reactInt_onlyFires) _)) h5
    refine OnlyFires.ite (h6.trans (foldState_onlyFires (fun a t => OnlyFires.ite ?_ (OnlyFires.refl t)) _)) h6
    exact (aerUncorrectable_frame (L := [.fnCfg, .out]) (fun _ h => h) (SameBut.refl _ t)).onlyFires (by decide)

theorem raiseError_onlyFires {e : Src} {i : ErrInfo} : OnlyFires s (raiseError e i s) := raiseWith_onlyFires

end Firings

section Domains
variable {s : State}

/-- DomainsOn after the switch of one domain. -/
def switchedOn (d : Nat) (on : Bool) (x : BitVec 50) : BitVec 50 :=
  if on then x ||| (1 : BitVec 50) <<< d else x &&& ~~~ ((1 : BitVec 50) <<< d)

theorem switchedOn_same {d : Nat} {on : Bool} {x : BitVec 50} (hd : d < 50) : (switchedOn d on x).getLsbD d = on := by
  rw [switchedOn]
  cases on <;> simp [hd]

theorem switchedOn_other {d k : Nat} {on : Bool} {x : BitVec 50} (hk : k ≠ d) :
    (switchedOn d on x).getLsbD k = x.getLsbD k := by
  by_cases hlt : k < 50
  · rw [switchedOn]
    cases on
    · rw [if_neg (by decide), BitVec.getLsbD_and, BitVec.getLsbD_not, getLsbD_one_shiftLeft hlt]
      simp [hk, hlt]
    · rw [if_pos rfl, BitVec.getLsbD_or, getLsbD_one_shiftLeft hlt]
      simp [hk]
  · rw [BitVec.getLsbD_of_ge _ _ (by omega), BitVec.getLsbD_of_ge _ _ (by omega)]

/-- The state of a switch that is done, but for what crypto lanes carry. -/
def domainSwitched (d : Nat) (on : Bool) (s : State) : State :=
  let s := modPower (fun x => { x with switching := none, on := switchedOn d on x.on }) s
  if 20 ≤ d && d < 28 then { s with trans := { s.trans with banks := s.trans.banks.set (d - 20) [] } } else s

theorem domainSwitched_power {d : Nat} {on : Bool} : (domainSwitched d on s).power =
    { s.power with switching := none, on := switchedOn d on s.power.on } := by
  unfold domainSwitched
  dsimp only
  split <;> rfl

theorem domainSwitched_win {d : Nat} {on : Bool} : (domainSwitched d on s).win = s.win := by
  unfold domainSwitched
  dsimp only
  split <;> rfl

/-- The bank of a domain that has switched is empty, and every other keeps its entries (R427). -/
theorem getBank_domainSwitched (hbanks : s.trans.banks.length = 8) {d : Nat} {on : Bool} {b : Nat} (hb : b < 8) :
    getBank (domainSwitched d on s) b = if d = 20 + b then [] else getBank s b := by
  have hset (h : 20 ≤ d) : (s.trans.banks.set (d - 20) []).getD b [] = if d = 20 + b then [] else getBank s b := by
    rw [getBank, List.getD_eq_getElem?_getD, List.getD_eq_getElem?_getD, List.getElem?_set]
    have hiff : d - 20 = b ↔ d = 20 + b := by omega
    simp only [hiff, hbanks]
    split
    · rw [if_pos (by omega)]; rfl
    · rfl
  unfold domainSwitched
  dsimp only
  split
  · rename_i hbank
    simp only [Bool.and_eq_true, decide_eq_true_eq] at hbank
    exact hset hbank.1
  · rename_i hbank
    have hne : d ≠ 20 + b := by
      rintro rfl
      simp at hbank
      omega
    rw [if_neg hne]
    rfl

theorem switchDone_off {d : Nat} (h : s.power.switching = some (d, false)) : switchDone s =
    let t := forgetLane d (domainSwitched d false s)
    if (d = 40 || d = 41) && !t.power.on.getLsbD 40 && !t.power.on.getLsbD 41 then peersDown t else t := by
  rw [switchDone, h]
  rfl

theorem switchDone_on {d : Nat} (h : s.power.switching = some (d, true)) : switchDone s =
    let t := domainSwitched d true s
    if (d = 40 || d = 41) && !t.power.on.getLsbD 40 && !t.power.on.getLsbD 41 then peersDown t else t := by
  rw [switchDone, h]
  rfl

theorem forgetLane_power {d : Nat} : (forgetLane d s).power = s.power := by
  unfold forgetLane
  split <;> rfl

theorem forgetLane_session {d : Nat} (hd : d = 40 ∨ d = 41) {p : PackageId} {ss : PairSession} (h : session? s p = some ss) :
    session? (forgetLane d s) p = some { ss with lanes := ss.lanes &&& ~~~ ((1 : BitVec 2) <<< (d - 40)) } := by
  rw [session?, peer?] at h
  rw [forgetLane, if_pos (by simpa using hd), session?, peer?]
  dsimp only
  rw [find_map (key := fun x : Peer => x.id == p) (by intros; rfl)]
  cases hp : s.win.peers.find? fun x => x.id == p with
  | none => rw [hp] at h; cases h
  | some x =>
    rw [hp] at h
    have hx : x.session = some ss := h
    simp [hx]

/-- A plain write that passes its checks has written its object (03, R96). -/
theorem plainWrite_written {rq : Requester} {ref : Ref} {v : Nat} (h : accepts s rq ref (.num v)) :
    Written s (plainWrite rq ref v s) rq ref (.num v) := by
  rw [plainWrite, requestWrite_accepted h rfl]
  have hput := putObj_answered_sameBut s rq ref (.num v)
  have hok : Ok (emit (.objectStatus rq ref .ok) s) (putObj ref (.num v) (emit (.objectStatus rq ref .ok) s)) :=
    putObj_ok (Ok.refl _)
  refine ⟨hok.out.subset List.mem_cons_self, objVal_putObj, fun k hk => ?_⟩
  rw [putObj_od, assocGet_setObj_other hk]
  rfl

end Domains

/-- Settles O53: a switch by the domain it sets, a write by its one value, an input by the power registers that a firing
leaves alone. -/
theorem powerAndClocks : Obligations.PowerAndClocks := by
  intro s hinv
  refine ⟨fun d hnone hnext => ?starts, fun d on hsw hd h40 h41 => ?done, fun l => ⟨fun hsw hother => ?laneOff, fun hsw => ?laneOn⟩,
    fun rq => ⟨fun v hacc hok => ?work, fun v => ⟨fun hacc => ?_, fun hacc => ?_, fun hacc => ?_⟩⟩, fun khz => ?clocks,
    fun levels hphase => ?good, Gives.of_eq rfl rfl ⟨rfl, rfl⟩, fun v0 i0 v1 i1 hpolled => ?replies⟩
  case starts =>
    have hnext' : switchNext s = modPower (fun x => { x with switching := some (d, domainWanted s d) }) s := by
      rw [switchNext, if_neg (by simp [hnone]), hnext]
    exact Gives.of_eq rfl hnext' ⟨rfl, modPower_frame (by decide) (SameBut.refl _ s)⟩
  case done =>
    have hforgot : forgetLane d (domainSwitched d on s) = domainSwitched d on s := if_neg (by simp [h40, h41])
    have hdone : switchDone s = domainSwitched d on s := by
      cases on with
      | false => rw [switchDone_off hsw, hforgot]; exact if_neg (by simp [h40, h41])
      | true => rw [switchDone_on hsw]; exact if_neg (by simp [h40, h41])
    refine Gives.of_eq rfl hdone ⟨?_, ?_, fun k hk => ?_, fun b hb => ?_⟩
    · rw [domainSwitched_power]
    · rw [domainSwitched_power]; exact switchedOn_same hd
    · rw [domainSwitched_power]; exact switchedOn_other hk
    · exact getBank_domainSwitched hinv.banks hb
  case laneOff =>
    have hl : 40 + l.val = 40 ∨ 40 + l.val = 41 := by omega
    have hstill : (switchedOn (40 + l.val) false s.power.on).getLsbD (41 - l.val) = true := by
      rw [switchedOn_other (by omega), hother]
    have hdone : switchDone s = forgetLane (40 + l.val) (domainSwitched (40 + l.val) false s) := by
      rw [switchDone_off hsw]
      dsimp only
      rw [forgetLane_power, domainSwitched_power]
      refine if_neg ?_
      rcases hl with h | h
      · have hl0 : l.val = 0 := by omega
        rw [hl0] at hstill ⊢
        simp only [Nat.sub_zero, Nat.add_zero] at hstill ⊢
        rw [hstill]; simp
      · have hl1 : l.val = 1 := by omega
        rw [hl1] at hstill ⊢
        rw [show (41 - 1) = 40 from rfl] at hstill
        rw [hstill]; simp
    refine Gives.of_eq rfl hdone ⟨?_, fun p ss hss => ?_⟩
    · rw [forgetLane_power, domainSwitched_power]
      exact switchedOn_same (by omega)
    · have hsame : session? (domainSwitched (40 + l.val) false s) p = some ss := by
        rw [session?, peer?, domainSwitched_win, ← peer?, ← session?, hss]
      have hforgot := forgetLane_session hl hsame
      rwa [Nat.add_sub_cancel_left] at hforgot
  case laneOn =>
    have hon : (switchedOn (40 + l.val) true s.power.on).getLsbD (40 + l.val) = true := switchedOn_same (by omega)
    have hdone : switchDone s = domainSwitched (40 + l.val) true s := by
      rw [switchDone_on hsw]
      dsimp only
      rw [domainSwitched_power]
      refine if_neg ?_
      rcases (show l.val = 0 ∨ l.val = 1 by omega) with h | h <;> rw [h] at hon ⊢ <;> rw [hon] <;> simp
    refine Gives.of_eq rfl hdone ⟨?_, fun p => ?_⟩
    · rw [domainSwitched_power]; exact hon
    · rw [session?, peer?, domainSwitched_win, ← peer?, ← session?]
  case work =>
    have hfree : workRefused v s = none := by
      rcases hok with h | h <;> simp [workRefused, h]
    exact Gives.of_eq rfl (requestWrite_accepted hacc hfree)
      ⟨rfl, setWork_frame (by decide) (emit_frame (by decide) (SameBut.refl _ s))⟩
  · exact ⟨_, rfl, plainWrite_written hacc⟩
  · exact ⟨_, rfl, plainWrite_written hacc⟩
  · exact ⟨_, rfl, plainWrite_written hacc⟩
  case clocks =>
    refine Gives.of_eq rfl rfl ?_
    unfold measureClocks
    extract_lets t
    have hbad : (List.range 13).any (clockBad t khz) = (List.range 13).any (clockBad s khz) := rfl
    rw [hbad]
    split
    · rename_i hany
      obtain ⟨phase, slept, late, cause, hpower⟩ :=
        raiseError_onlyFires (e := .islandClockLost) (i := { access := 7 }) (s := t)
      exact ⟨congrArg PowerSt.khz hpower, fun _ => raised_raiseError_after rfl⟩
    · rename_i hnot
      exact ⟨rfl, fun h => absurd h hnot⟩
  case good =>
    refine Gives.of_eq rfl rfl ?_
    unfold powerGoodChange
    extract_lets old falls asleep t woken fired
    split
    · rename_i heq
      refine ⟨heq.symm, fun h h' => ?_, fun h => ?_⟩
      · rw [heq, show old.getLsbD 0 = false from h'] at h
        cases h
      · rw [heq] at h
        exact absurd (BitVec.and_not_self _) h
    · have hawake : asleep = false := by simp [asleep, hphase]
      have hwoken : woken.power = t.power ∧ woken.err = s.err := by
        simp only [woken]
        split
        · have hclusters := clustersWake_frame (L := [.det, .out]) (by decide) (SameBut.refl _ t)
          exact ⟨hclusters.2.2 .power (by decide), hclusters.2.2 .err (by decide)⟩
        · exact ⟨rfl, rfl⟩
      have hfired : OnlyFires woken fired := wakeFires_onlyFires
      have herr : fired.err = s.err := ((wakeFires_frame (L := [.counters, .links, .int, .power, .out]) (by decide)
        (SameBut.refl _ woken)).2.2 .err (by decide)).trans hwoken.2
      have hraised (c : Prop) [Decidable c] :
          OnlyFires fired (if c then raiseError .powerGoodLost { access := 7 } fired else fired) :=
        OnlyFires.ite raiseError_onlyFires (OnlyFires.refl fired)
      obtain ⟨phase, slept, late, cause, hpower⟩ := hfired.trans (hraised ((falls ≠ 0 && !asleep) = true))
      rw [hwoken.1] at hpower
      refine ⟨congrArg PowerSt.good hpower, fun h h' => ?_, fun hfell => ?_⟩
      · refine (congrArg PowerSt.coreRise hpower).trans (if_pos ?_)
        rw [h, show old.getLsbD 0 = false from h']
        rfl
      · have hfalls : (falls ≠ 0 && !asleep) = true := by
          rw [hawake]
          simpa using hfell
        rw [if_pos hfalls]
        exact raised_raiseError_after herr
  case replies =>
    exact Gives.of_eq rfl (if_pos hpolled) ⟨modPower_frame (by decide) (modPower_frame (by decide) (SameBut.refl _ s)),
      rfl, rfl, rfl, rfl, rfl, rfl, rfl⟩

end Sys2Proof.Machine
end

section
/-!
SUPPORT and CLAIM. Debug tokens, fuses, coarse power, entropy and the test access port (13_security_attestation, R404,
R408, R414, R419 to R421), and the obligation O52.
-/
namespace Sys2Proof.Machine

section CoreMemory
variable {s : State} {a b : U64} {v : U8}

/-- A byte of the halted core's memory that is kept reads back. -/
theorem coreByte_keepCoreByte (h : s.sec.coreHalted = true) {t : State} (ht : t.sec = (keepCoreByte a v s).sec) :
    coreByte t a = v := by
  rw [coreByte, ht, keepCoreByte, if_pos h]
  simp [modSec]

theorem keepCoreByte_other (h : s.sec.coreHalted = true) (hb : b ≠ a) :
    (keepCoreByte a v s).sec.coreMem.find? (fun e => e.1 == b.toNat) =
      s.sec.coreMem.find? (fun e => e.1 == b.toNat) := by
  have hne : (a.toNat == b.toNat) = false := by
    simpa using fun h => hb (BitVec.eq_of_toNat_eq h).symm
  have hfun : (fun e : Nat × U8 => e.1 != a.toNat && e.1 == b.toNat) = fun e => e.1 == b.toNat := by
    funext e
    by_cases he : e.1 = b.toNat
    · simp [he, Ne.symm (by simpa using hne)]
    · simp [he]
  rw [keepCoreByte, if_pos h, modSec]
  simp only [List.find?_cons, hne, List.find?_filter]
  rw [← hfun]
  simp only [Bool.decide_and, Bool.decide_eq_true]

theorem keepCoreByte_running (h : s.sec.coreHalted = false) : keepCoreByte a v s = s := if_neg (by simp [h])

theorem keepCoreByte_sameBut : SameBut [.sec] s (keepCoreByte a v s) :=
  keepCoreByte_frame (by decide) (SameBut.refl _ s)

theorem modSec_sameBut {f : SecSt → SecSt} : SameBut [.sec] s (modSec f s) :=
  modSec_frame (by decide) (SameBut.refl _ s)

/-- An operation on the reachable core (R420). -/
theorem tapOperation_core (hdebug : s.sec.debug ≠ .locked) (hon : s.power.on.getLsbD 48 = true) :
    tapOperation .halt s = modSec (fun x => { x with coreHalted := true }) s ∧
    tapOperation .resume s = modSec (fun x => { x with coreHalted := false, coreMem := [] }) s ∧
    tapOperation .step s = modSec (fun x => { x with coreMem := [] }) s ∧
    tapOperation (.readMemory a) s = emit (.tap [coreByte s a]) (draw (keepCoreByte a (coreByte s a) s)) ∧
    tapOperation (.writeMemory a v) s = keepCoreByte a v s := by
  simp [tapOperation, hdebug, hon]

end CoreMemory

/-- Settles O52: each service by the one register that it sets, the core's memory by what is kept of it. -/
theorem securityServices : Obligations.SecurityServices := by
  intro s hinv
  refine ⟨fun rq b hacc => ⟨fun hok => ?token, fun hbad => ?refused⟩, fun rq n hacc hlt hfw hver hmax => ?fuses,
    fun hsecond => ?coarse, ?entropy, fun hmany => ?reseed, fun chain => ?scan, fun hdebug hon => ?core⟩
  case token =>
    exact Gives.of_eq rfl (requestWrite_accepted hacc (if_pos hok)) ⟨rfl, rfl, rfl, List.mem_cons_self⟩
  case refused =>
    exact congrArg Host.Outcome.next (requestWrite_refused hacc (if_neg (by simp [hbad])))
  case fuses =>
    have hfree : raiseRefused n.toNat s = none := if_pos (by simp [hlt, hfw, hver, hmax])
    exact Gives.of_eq rfl (requestWrite_accepted hacc hfree)
      ⟨rfl, modSec_frame (by decide) (emit_frame (by decide) (SameBut.refl _ s))⟩
  case coarse =>
    refine Gives.of_eq rfl (if_pos hsecond) ⟨?_, fun f hf => ?_⟩
    · exact sameBut_of_exec (c := .powerCoarseUpdate) (congrArg Host.Outcome.next (if_pos hsecond))
    · obtain ⟨x, -, rfl⟩ := List.mem_map.1 hf
      rfl
  case entropy =>
    refine Gives.of_eq rfl rfl ⟨?_, raised_raiseError_after rfl⟩
    have hsec : (raiseError .internalUncorrectable { kind := 10, access := 7 }
        (modSec (fun x => { x with entropyFailed := true }) s)).sec = _ := raiseError_sameBut.2.2 .sec (by decide)
    rw [hsec]
    rfl
  case reseed => exact Gives.of_eq rfl (if_pos hmany) ⟨rfl, modSec_sameBut⟩
  case scan =>
    refine Gives.of_eq rfl rfl ⟨emit_frame (by decide) (draw_frame (by decide) (SameBut.refl _ s)), _, ?_, rfl⟩
    rw [List.length_map, List.length_range]
  case core =>
    refine ⟨?_, ?_, ?_, fun a => ⟨?_, fun v => ?_⟩⟩
    · exact Gives.of_eq rfl (tapOperation_core (a := 0) (v := 0) hdebug hon).1 ⟨rfl, modSec_sameBut⟩
    · exact Gives.of_eq rfl (tapOperation_core (a := 0) (v := 0) hdebug hon).2.1 ⟨rfl, modSec_sameBut⟩
    · exact Gives.of_eq rfl (tapOperation_core (a := 0) (v := 0) hdebug hon).2.2.1 ⟨rfl, modSec_sameBut⟩
    · refine Gives.of_eq rfl (tapOperation_core (a := a) (v := 0) hdebug hon).2.2.2.1 ⟨?_, ?_, fun h => ?_⟩
      · exact emit_frame (by decide) (draw_frame (by decide) (keepCoreByte_frame (by decide) (SameBut.refl _ s)))
      · have hout : (keepCoreByte a (coreByte s a) s).out = s.out := keepCoreByte_sameBut.2.2 .out (by decide)
        exact congrArg _ hout
      · exact coreByte_keepCoreByte h rfl
    · refine Gives.of_eq rfl (tapOperation_core (a := a) (v := v) hdebug hon).2.2.2.2 ⟨keepCoreByte_sameBut, fun h => ?_, fun h => ?_⟩
      · exact ⟨coreByte_keepCoreByte h rfl, fun b hb => keepCoreByte_other h hb⟩
      · exact keepCoreByte_running h

end Sys2Proof.Machine
end

section
/-!
SUPPORT and CLAIM. The SPDM responder (13_security_attestation, R415, R416): connections, responses, the chunks of long
messages, and the obligation O51.
-/
namespace Sys2Proof.Machine

section Responder
variable {s t : State} {c d : SpdmConn} {seq : U32} {m req : Bytes} {x y : SpdmSt}

/-! ### Connections -/

theorem sameConn_refl : sameConn c c = true := by cases c <;> simp [sameConn]

theorem sameConn_symm (h : sameConn c d = true) : sameConn d c = true := by
  cases c <;> cases d <;> simp_all [sameConn]

/-- Two connections that are the same are the same as any third. -/
theorem sameConn_congr (h : sameConn c d = true) (e : SpdmConn) : sameConn e c = sameConn e d := by
  cases c <;> cases d <;> cases e <;> simp_all [sameConn]

theorem spdmConn?_conn (h : spdmConn? s c = some x) : sameConn x.conn c = true :=
  List.find?_some (p := fun x : SpdmSt => sameConn x.conn c) h

theorem spdmConn?_of_spdm (h : t.sec.spdm = s.sec.spdm) : spdmConn? t c = spdmConn? s c := by rw [spdmConn?, h, spdmConn?]

/-- The connection that was put is the one found. -/
theorem spdmConn?_putConn (h : sameConn x.conn c = true) : spdmConn? (putConn x s) c = some x := by
  simp [spdmConn?, putConn, modSec, h]

/-! ### Messages -/

theorem spdmCode_spdmMsg {code p1 p2 : Nat} {b : Bytes} : spdmCode (spdmMsg code p1 p2 b) = code % 256 := by
  simp [spdmCode, spdmMsg]

theorem spdmCode_spdmMsg_append {code p1 p2 : Nat} {b b' : Bytes} :
    spdmCode (spdmMsg code p1 p2 b ++ b') = code % 256 := by simp [spdmCode, spdmMsg]

theorem spdmCode_spdmBytes {r : SpdmReq} {code : Nat} {p1 p2 : U8} {b : Bytes} :
    spdmCode (spdmBytes r code p1 p2 b) = code % 256 := by simp [spdmCode, spdmBytes]

theorem spdmCode_fault {e : Bytes} (h : spdmFault m = some e) : spdmCode e = 0x7F := by
  rw [spdmFault] at h
  by_cases hversion : m.getD 0 0 ≠ (if spdmCode m = 0x84 then 0x10 else 0x13)
  · rw [if_pos hversion] at h; cases h; rfl
  · rw [if_neg hversion] at h
    by_cases hfields : (m.length < spdmLeast m || !spdmFieldsOk m) = true
    · rw [if_pos hfields] at h; cases h; rfl
    · rw [if_neg hfields] at h; cases h

/-! ### Responses -/

/-- A response has been sent to the requester (R415). -/
theorem responded_sendSpdm (h : sameConn d c = true) : Responded (sendSpdm d seq m s) c (spdmCode m) := by
  cases d with
  | doe p =>
    cases c with
    | doe q =>
      have hpq : p = q := by simpa [sameConn] using h
      subst hpq
      exact ⟨m, List.mem_cons_self⟩
    | net a => simp [sameConn] at h
  | net b =>
    cases c with
    | doe q => simp [sameConn] at h
    | net a =>
      have hab : b.ip = a.ip ∧ b.port = a.port := by simpa [sameConn] using h
      exact ⟨b, seq, s.gtc, m, hab.1, hab.2, rfl, sent_sendNet b _⟩

theorem responded_sendSpdm_code (h : sameConn d c = true) {code : Nat} (hm : spdmCode m = code) :
    Responded (sendSpdm d seq m s) c code := hm ▸ responded_sendSpdm h

theorem sendSpdm_sec : (sendSpdm d seq m s).sec = s.sec :=
  (sendSpdm_frame (L := [.mgmt, .out]) (by decide) (SameBut.refl _ s)).2.2 .sec (by decide)

theorem sendSpdm_draws : (sendSpdm d seq m s).draws = s.draws :=
  (sendSpdm_frame (L := [.mgmt, .out]) (by decide) (SameBut.refl _ s)).2.2 .draws (by decide)

theorem spdmConn?_sendSpdm : spdmConn? (sendSpdm d seq m s) c = spdmConn? s c :=
  spdmConn?_of_spdm (by rw [sendSpdm_sec])

/-- A response is sent, or it is announced as a long one; the connection keeps its stage (R415). -/
theorem deliverSpdm_answered (h : sameConn d c = true) {code : Nat} (hm : spdmCode m = code) :
    Answered (deliverSpdm d seq m s) c code ∧
      ∀ y, spdmConn? s c = some y → ∃ z, spdmConn? (deliverSpdm d seq m s) c = some z ∧ z.stage = y.stage := by
  have hdc : spdmConn? s d = spdmConn? s c := by
    have hfun : (fun z : SpdmSt => sameConn z.conn d) = fun z => sameConn z.conn c :=
      funext fun z => sameConn_congr h z.conn
    rw [spdmConn?, hfun, spdmConn?]
  unfold deliverSpdm
  split
  · exact ⟨.inl (responded_sendSpdm_code h hm), fun y hy => ⟨y, by rw [spdmConn?_sendSpdm, hy], rfl⟩⟩
  · split
    · rename_i hnone
      exact ⟨.inl (responded_sendSpdm_code h hm), fun y hy => ⟨y, by rw [spdmConn?_sendSpdm, hy], rfl⟩⟩
    · rename_i z hz
      rw [hdc] at hz
      have hzc := spdmConn?_conn hz
      have hput : spdmConn? (sendSpdm d seq (spdmMsg 0x7F 0x0F 0 (leBytes 1 ((z.handle + 1) % 256)))
          (putConn { z with chunkOut := m, handle := (z.handle + 1) % 256, seqOut := 0 } s)) c =
          some { z with chunkOut := m, handle := (z.handle + 1) % 256, seqOut := 0 } := by
        rw [spdmConn?_sendSpdm]
        exact spdmConn?_putConn hzc
      refine ⟨.inr ⟨responded_sendSpdm_code h spdmCode_spdmMsg, _, hput, hm⟩, fun y hy => ⟨_, hput, ?_⟩⟩
      rw [hz] at hy
      cases hy
      rfl

theorem deliverSpdm_draws : (deliverSpdm d seq m s).draws = s.draws :=
  (deliverSpdm_frame (L := [.mgmt, .sec, .out]) (by decide) (SameBut.refl _ s)).2.2 .draws (by decide)

/-! ### One request -/

/-- A row at its turn answers its message, in a state in which only the inbox is shorter. -/
theorem answerRow_turn {row : Bytes} (h : SpdmTurn s c row m) : ∃ seq t, answerRow c row s = spdmRequest c seq m t ∧
    t.sec = { s.sec with inbox := t.sec.inbox } ∧ t.draws = s.draws ∧ t.sec.dropped.any (sameConn c) = false ∧
      spdmCode m = spdmCode row := by
  obtain ⟨hheard, hdropped, hmsg⟩ := h
  unfold answerRow
  rw [hheard]
  by_cases hnet : onNet c = true
  · rw [if_pos hnet] at hmsg
    obtain ⟨e, he, hem, hcode⟩ := hmsg
    refine ⟨e.2.1, modSec (fun y => { y with inbox := y.inbox.erase e }) s, ?_, rfl, rfl, hdropped, hcode⟩
    rw [if_neg (by decide), if_pos hnet, he]
    dsimp only
    rw [hem, if_neg (by simp [hcode])]
  · rw [if_neg hnet] at hmsg
    exact ⟨0, s, by rw [if_neg (by decide), if_neg hnet, hmsg], rfl, rfl, hdropped, by rw [hmsg]⟩

/-- A well-formed request of an established connection gets the response of its code. -/
theorem spdmRequest_answer (hd : s.sec.dropped.any (sameConn c) = false) (hm : spdmFault m = none)
    (hcode : spdmCode m ∈ [0xE1, 0xE3, 0x81, 0x82, 0x83, 0xE0]) (hx : spdmConn? s c = some x) :
    spdmRequest c seq m s =
      deliverSpdm c seq (spdmResponse x m (putConn x s)).2 (spdmResponse x m (putConn x s)).1 := by
  have hall : spdmAnswered.contains (spdmCode m) = true := by
    rw [List.contains_iff_mem]
    simp only [spdmAnswered, List.mem_cons, List.not_mem_nil, or_false] at hcode ⊢
    omega
  have hne : spdmCode m ≠ 0x84 ∧ spdmCode m ≠ 0x85 ∧ spdmCode m ≠ 0x86 := by
    simp only [List.mem_cons, List.not_mem_nil, or_false] at hcode
    omega
  unfold spdmRequest
  rw [if_neg (by simp [hd]), if_neg (by rw [hall]; decide), hm]
  dsimp only
  rw [if_neg hne.1, hx]
  dsimp only
  rw [if_neg hne.2.1, if_neg hne.2.2]

/-- A request of a code that the responder does not answer is UnsupportedRequest. -/
theorem spdmRequest_unanswered (hd : s.sec.dropped.any (sameConn c) = false) (hcode : spdmCode m ∉ spdmAnswered) :
    spdmRequest c seq m s = sendSpdm c seq (spdmError 0x07 (spdmCode m)) s := by
  unfold spdmRequest
  rw [if_neg (by simp [hd]), if_pos (by simpa using hcode)]

/-- A malformed request gets its error. -/
theorem spdmRequest_malformed (hd : s.sec.dropped.any (sameConn c) = false) (hcode : spdmCode m ∈ spdmAnswered)
    {e : Bytes} (hm : spdmFault m = some e) : spdmRequest c seq m s = sendSpdm c seq e s := by
  have hall : spdmAnswered.contains (spdmCode m) = true := List.contains_iff_mem.2 hcode
  unfold spdmRequest
  rw [if_neg (by simp [hd]), if_neg (by rw [hall]; decide), hm]

theorem spdmRequest_version (hd : s.sec.dropped.any (sameConn c) = false) (hm : spdmFault m = none)
    (hcode : spdmCode m = 0x84) : spdmRequest c seq m s = openConn c seq m s := by
  have hall : spdmAnswered.contains (spdmCode m) = true := by rw [hcode]; decide
  unfold spdmRequest
  rw [if_neg (by simp [hd]), if_neg (by rw [hall]; decide), hm]
  exact if_pos hcode

theorem spdmRequest_chunkSend (hd : s.sec.dropped.any (sameConn c) = false) (hm : spdmFault m = none)
    (hcode : spdmCode m = 0x85) (hx : spdmConn? s c = some x) : spdmRequest c seq m s = chunkSend x seq m s := by
  have hall : spdmAnswered.contains (spdmCode m) = true := by rw [hcode]; decide
  unfold spdmRequest
  rw [if_neg (by simp [hd]), if_neg (by rw [hall]; decide), hm]
  dsimp only
  rw [if_neg (by rw [hcode]; decide), hx]
  exact if_pos hcode

theorem spdmRequest_chunkGet (hd : s.sec.dropped.any (sameConn c) = false) (hm : spdmFault m = none)
    (hcode : spdmCode m = 0x86) (hx : spdmConn? s c = some x) : spdmRequest c seq m s = chunkGet x seq m s := by
  have hall : spdmAnswered.contains (spdmCode m) = true := by rw [hcode]; decide
  unfold spdmRequest
  rw [if_neg (by simp [hd]), if_neg (by rw [hall]; decide), hm]
  dsimp only
  rw [if_neg (by rw [hcode]; decide), hx]
  dsimp only
  rw [if_neg (by rw [hcode]; decide)]
  exact if_pos hcode

/-! ### The responses of an established connection -/

/-- The response to `m` has this code, and leaves the connection in this stage. -/
def Responds (x : SpdmSt) (c : SpdmConn) (m : Bytes) (code stage : Nat) (t : State) : Prop :=
  spdmCode (spdmResponse x m t).2 = code ∧
    ∃ y, spdmConn? (spdmResponse x m t).1 c = some y ∧ y.stage = stage

/-- The response of an established connection, taken at its row's turn. -/
theorem answerRow_responds {row : Bytes} (h : SpdmTurn s c row m) (hm : spdmFault m = none)
    (hcode : spdmCode row ∈ [0xE1, 0xE3, 0x81, 0x82, 0x83, 0xE0]) (hx : spdmConn? s c = some x) {code stage : Nat}
    (hr : ∀ t, t.sec.entropyFailed = s.sec.entropyFailed → Responds x c m code stage (putConn x t)) :
    Answered (answerRow c row s) c code ∧
      (∃ y, spdmConn? (answerRow c row s) c = some y ∧ y.stage = stage) ∧
      ∃ t, t.draws = s.draws ∧ t.sec.entropyFailed = s.sec.entropyFailed ∧
        (answerRow c row s).draws = (spdmResponse x m (putConn x t)).1.draws := by
  obtain ⟨seq, t, heq, hsec, hdraws, hdropped, hrow⟩ := answerRow_turn h
  have hxt : spdmConn? t c = some x := (spdmConn?_of_spdm (by rw [hsec])).trans hx
  have hfailed : t.sec.entropyFailed = s.sec.entropyFailed := by rw [hsec]
  obtain ⟨hresp, y, hy, hstage⟩ := hr t hfailed
  rw [heq, spdmRequest_answer hdropped hm (by rw [hrow]; exact hcode) hxt]
  obtain ⟨hanswered, hkeeps⟩ := deliverSpdm_answered (d := c) (c := c) (seq := seq)
    (s := (spdmResponse x m (putConn x t)).1) sameConn_refl hresp
  obtain ⟨z, hz, hzy⟩ := hkeeps y hy
  exact ⟨hanswered, ⟨z, hz, hzy.trans hstage⟩, t, hdraws, hfailed, deliverSpdm_draws⟩

theorem responds_capabilities (hc : sameConn x.conn c = true) (hcode : spdmCode m = 0xE1) (hstage : x.stage = 1) :
    Responds x c m 0x61 2 t := by
  rw [Responds, spdmResponse, hcode]
  simp only [hstage, ne_eq, not_true_eq_false, if_false]
  exact ⟨spdmCode_spdmMsg, _, spdmConn?_putConn hc, rfl⟩

theorem responds_algorithms (hc : sameConn x.conn c = true) (hcode : spdmCode m = 0xE3) (hstage : x.stage = 2) :
    Responds x c m 0x63 3 t := by
  rw [Responds, spdmResponse, hcode]
  simp only [hstage, ne_eq, not_true_eq_false, if_false]
  exact ⟨spdmCode_spdmMsg, _, spdmConn?_putConn hc, rfl⟩

theorem responds_digests (hc : sameConn x.conn c = true) (hcode : spdmCode m = 0x81) (hstage : x.stage = 3) :
    Responds x c m 0x01 3 t := by
  rw [Responds, spdmResponse, hcode]
  simp only [hstage, ne_eq, not_true_eq_false, if_false]
  exact ⟨spdmCode_spdmMsg, _, spdmConn?_putConn hc, rfl⟩

theorem responds_certificate (hc : sameConn x.conn c = true) (hcode : spdmCode m = 0x82) (hstage : x.stage = 3)
    (hslot : m.getD 2 0 = 0) (hoff : numAt m 4 2 < certChain.length) : Responds x c m 0x02 3 t := by
  have hcert : spdmCode (certificate (m.getD 2 0).toNat (numAt m 4 2) (numAt m 6 2)) = 0x02 := by
    rw [certificate, hslot, if_neg (by simpa using hoff)]
    exact spdmCode_spdmMsg
  rw [Responds, spdmResponse, hcode]
  simp only [hstage, ne_eq, not_true_eq_false, if_false]
  exact ⟨hcert, _, spdmConn?_putConn hc, rfl⟩

/-- A challenge of slot 0 is answered with a nonce and a signature that are newly drawn. -/
theorem responds_challenge (hc : sameConn x.conn c = true) (hcode : spdmCode m = 0x83) (hstage : x.stage = 3)
    (hslot : m.getD 2 0 = 0) (hgood : t.sec.entropyFailed = false) :
    Responds x c m 0x03 3 t ∧ t.draws < (spdmResponse x m t).1.draws := by
  have hresp : spdmResponse x m t = challengeAuth x m t := by
    rw [spdmResponse, hcode]
    simp only [hstage, hgood, hslot, ne_eq, not_true_eq_false, if_false, Bool.false_eq_true]
  rw [Responds, hresp]
  refine ⟨⟨spdmCode_spdmMsg_append, _, spdmConn?_putConn hc, hstage⟩, ?_⟩
  change t.draws < t.draws + 1 + 1
  omega

theorem measurements_block {index : Nat} (h : index ∈ [1, 2, 3, 4, 5, 6, 16]) : ∃ e ∈ measurements t, e.1 = index := by
  simp only [List.mem_cons, List.not_mem_nil, or_false] at h
  rcases h with rfl | rfl | rfl | rfl | rfl | rfl | rfl <;> simp [measurements]

/-- The measurements named by an index that exists are answered, signed or not. -/
theorem measurementsFor_answers (hc : sameConn x.conn c = true)
    (hindex : (m.getD 3 0).toNat ∈ [0, 1, 2, 3, 4, 5, 6, 16, 255]) :
    spdmCode (measurementsFor x m t).2 = 0x60 ∧
      ∃ y, spdmConn? (measurementsFor x m t).1 c = some y ∧ y.stage = x.stage := by
  have hfound : ¬ (((if (m.getD 3 0).toNat = 0xFF then measurements t else
      (measurements t).filter fun e => e.1 == (m.getD 3 0).toNat).isEmpty &&
        decide ((m.getD 3 0).toNat ≠ 0)) = true) := by
    intro hempty
    obtain ⟨hnone, hne⟩ := by simpa only [Bool.and_eq_true, List.isEmpty_iff, decide_eq_true_eq] using hempty
    by_cases hall : (m.getD 3 0).toNat = 0xFF
    · rw [if_pos hall] at hnone
      exact absurd hnone (by simp [measurements])
    · rw [if_neg hall] at hnone
      obtain ⟨e, he, hkey⟩ := measurements_block (t := t) (index := (m.getD 3 0).toNat) (by
        simp only [List.mem_cons, List.not_mem_nil, or_false] at hindex ⊢
        omega)
      exact absurd hnone (List.ne_nil_of_mem (List.mem_filter.2 ⟨he, by simp [hkey]⟩))
  unfold measurementsFor
  dsimp only
  rw [if_neg hfound]
  split
  · exact ⟨spdmCode_spdmMsg_append, _, spdmConn?_putConn hc, rfl⟩
  · exact ⟨spdmCode_spdmMsg, _, spdmConn?_putConn hc, rfl⟩

theorem responds_measurements (hc : sameConn x.conn c = true) (hcode : spdmCode m = 0xE0) (hstage : x.stage = 3)
    (hgood : t.sec.entropyFailed = false) (hindex : (m.getD 3 0).toNat ∈ [0, 1, 2, 3, 4, 5, 6, 16, 255]) :
    Responds x c m 0x60 3 t := by
  have hresp : spdmResponse x m t = measurementsFor x m t := by
    rw [spdmResponse, hcode]
    simp only [hstage, hgood, ne_eq, not_true_eq_false, if_false, Bool.false_eq_true]
  rw [Responds, hresp, ← hstage]
  exact measurementsFor_answers hc hindex

/-! ### GET_VERSION and the chunks of long messages -/

/-- GET_VERSION starts the connection anew. -/
theorem openConn_starts : Responded (openConn c seq m s) c 0x04 ∧
    ∃ x, spdmConn? (openConn c seq m s) c = some x ∧
      x.stage = 1 ∧ x.msgsB = [] ∧ x.msgsL = [] ∧ x.chunkIn = [] ∧ x.chunkOut = [] := by
  unfold openConn
  dsimp only
  exact ⟨responded_sendSpdm_code sameConn_refl spdmCode_spdmMsg, _,
    spdmConn?_sendSpdm.trans (spdmConn?_putConn sameConn_refl), rfl, rfl, rfl, rfl, rfl⟩

/-- The bytes of a long request that have come, with those of the part `m`. -/
def gotWith (x : SpdmSt) (m : Bytes) : Bytes :=
  if numAt m 4 2 = 0 then m.drop 16 else x.chunkIn ++ m.drop 12

theorem gotWith_eq : (if numAt m 4 2 = 0 then [] else x.chunkIn) ++ m.drop (if numAt m 4 2 = 0 then 16 else 12) =
    gotWith x m := by
  rw [gotWith]
  split <;> rfl

section Chunk
variable (hstage : 2 ≤ x.stage) (hn : numAt m 4 2 = 0 ∨ numAt m 4 2 = x.seqIn) (hlen : (gotWith x m).length ≤ 16384)
include hstage hn hlen

theorem chunkSend_inOrder : chunkSend x seq m s =
    if (m.getD 2 0).getLsbD 0 then
      deliverSpdm x.conn seq (spdmMsg 0x05 0 (m.getD 3 0).toNat (leBytes 2 (numAt m 4 2) ++
          (spdmAnswer { x with chunkIn := [], seqIn := 0 } (gotWith x m)
            (putConn { x with chunkIn := [], seqIn := 0 } s)).2))
        (spdmAnswer { x with chunkIn := [], seqIn := 0 } (gotWith x m)
          (putConn { x with chunkIn := [], seqIn := 0 } s)).1
    else sendSpdm x.conn seq (spdmMsg 0x05 0 (m.getD 3 0).toNat (leBytes 2 (numAt m 4 2)))
      (putConn { x with chunkIn := gotWith x m, seqIn := numAt m 4 2 + 1 } s) := by
  unfold chunkSend
  dsimp only
  rw [gotWith_eq, if_neg (by omega), if_neg (by
    simp only [Bool.or_eq_true, Bool.and_eq_true, decide_eq_true_eq]
    omega)]

/-- A part that is not the last is kept behind the parts before it (R415). -/
theorem chunkSend_keeps (hc : sameConn x.conn c = true) (hlast : (m.getD 2 0).getLsbD 0 = false) :
    Responded (chunkSend x seq m s) c 0x05 ∧ ∃ y, spdmConn? (chunkSend x seq m s) c = some y ∧
      y.chunkIn = gotWith x m ∧ y.seqIn = numAt m 4 2 + 1 ∧ y.stage = x.stage := by
  rw [chunkSend_inOrder hstage hn hlen, if_neg (by rw [hlast]; decide)]
  exact ⟨responded_sendSpdm_code hc spdmCode_spdmMsg, _, spdmConn?_sendSpdm.trans (spdmConn?_putConn hc),
    rfl, rfl, rfl⟩

/-- The last part is acknowledged with the response to the whole request (R415). -/
theorem chunkSend_answers (hc : sameConn x.conn c = true) (hlast : (m.getD 2 0).getLsbD 0 = true) :
    Answered (chunkSend x seq m s) c 0x05 := by
  rw [chunkSend_inOrder hstage hn hlen, if_pos hlast]
  exact (deliverSpdm_answered hc spdmCode_spdmMsg).1

end Chunk

/-- The part asked for of a long response is sent (R415). -/
theorem chunkGet_sends (hstage : 2 ≤ x.stage) (hc : sameConn x.conn c = true) (hout : x.chunkOut ≠ [])
    (hhandle : (m.getD 3 0).toNat = x.handle) (hn : numAt m 4 2 = x.seqOut) :
    Responded (chunkGet x seq m s) c 0x06 ∧ ∃ y, spdmConn? (chunkGet x seq m s) c = some y ∧
      (y.chunkOut = [] ∨ (y.chunkOut = x.chunkOut ∧ y.seqOut = x.seqOut + 1)) := by
  have hput (last : Prop) [Decidable last] : ∃ y, spdmConn? (putConn (if last then { x with
      chunkOut := []
      seqOut := 0 } else { x with seqOut := numAt m 4 2 + 1 }) s) c = some y ∧
        (y.chunkOut = [] ∨ (y.chunkOut = x.chunkOut ∧ y.seqOut = x.seqOut + 1)) := by
    by_cases hlast : last
    · rw [if_pos hlast]
      exact ⟨_, spdmConn?_putConn hc, .inl rfl⟩
    · rw [if_neg hlast]
      exact ⟨_, spdmConn?_putConn hc, .inr ⟨rfl, congrArg (· + 1) hn⟩⟩
  unfold chunkGet
  dsimp only
  rw [if_neg (by omega), if_neg (by
    rw [hhandle, hn, List.isEmpty_eq_false_iff.2 hout]
    simp)]
  refine ⟨responded_sendSpdm_code hc spdmCode_spdmMsg, ?_⟩
  rw [spdmConn?_sendSpdm]
  exact hput _

/-! ### Requests that are refused -/

theorem answerRow_malformed {row : Bytes} (h : SpdmTurn s c row m) (hcode : spdmCode row ∈ spdmAnswered)
    (hm : spdmFault m ≠ none) :
    Responded (answerRow c row s) c 0x7F ∧ (answerRow c row s).sec.spdm = s.sec.spdm := by
  obtain ⟨e, he⟩ := Option.ne_none_iff_exists'.1 hm
  obtain ⟨seq, t, heq, hsec, -, hdropped, hrow⟩ := answerRow_turn h
  rw [heq, spdmRequest_malformed hdropped (by rw [hrow]; exact hcode) he]
  exact ⟨responded_sendSpdm_code sameConn_refl (spdmCode_fault he), by rw [sendSpdm_sec, hsec]⟩

theorem answerRow_unanswered {row : Bytes} (h : SpdmTurn s c row m) (hcode : spdmCode row ∉ spdmAnswered) :
    Responded (answerRow c row s) c 0x7F ∧ (answerRow c row s).sec.spdm = s.sec.spdm := by
  obtain ⟨seq, t, heq, hsec, -, hdropped, hrow⟩ := answerRow_turn h
  rw [heq, spdmRequest_unanswered hdropped (by rw [hrow]; exact hcode)]
  exact ⟨responded_sendSpdm_code sameConn_refl spdmCode_spdmMsg, by rw [sendSpdm_sec, hsec]⟩

end Responder

/-- Settles O51: a row at its turn answers its message, which is well-formed or not; each response is one of the
connection found for the requester, and sending it keeps that connection. -/
theorem attestationDialogue : Obligations.AttestationDialogue := by
  unfold Obligations.AttestationDialogue
  intro s c m
  refine ⟨?version, fun x hx => ?connection, ?malformed, ?unsupported⟩
  case version =>
    rintro ⟨h, hm⟩
    obtain ⟨seq, t, heq, -, -, hdropped, hrow⟩ := answerRow_turn h
    refine Gives.of_eq rfl rfl ?_
    rw [heq, spdmRequest_version hdropped hm (hrow.trans spdmCode_spdmBytes)]
    exact openConn_starts
  case connection =>
    have hc := spdmConn?_conn hx
    have hcode {code : Nat} {p1 p2 : U8} {b : Bytes} (hcode : code % 256 ∈ [0xE1, 0xE3, 0x81, 0x82, 0x83, 0xE0]) :
        spdmCode (spdmBytes c code p1 p2 b) ∈ [0xE1, 0xE3, 0x81, 0x82, 0x83, 0xE0] := by
      rw [spdmCode_spdmBytes]
      exact hcode
    have hrow {row : Bytes} (h : SpdmTurn s c.conn row m) : spdmCode m = spdmCode row :=
      (answerRow_turn h).choose_spec.choose_spec.2.2.2.2
    refine ⟨?capabilities, ?algorithms, ?negotiated, ?chunks⟩
    case capabilities =>
      rintro hstage ⟨h, hm⟩
      obtain ⟨hans, hst, -⟩ := answerRow_responds h hm (hcode (by decide)) hx fun t _ =>
        responds_capabilities hc ((hrow h).trans spdmCode_spdmBytes) hstage
      exact Gives.of_eq rfl rfl ⟨hans, hst⟩
    case algorithms =>
      rintro hstage ⟨h, hm⟩
      obtain ⟨hans, hst, -⟩ := answerRow_responds h hm (hcode (by decide)) hx fun t _ =>
        responds_algorithms hc ((hrow h).trans spdmCode_spdmBytes) hstage
      exact Gives.of_eq rfl rfl ⟨hans, hst⟩
    case negotiated =>
      intro hstage
      refine ⟨?digests, fun slot offset length ⟨h, hm⟩ hslot hoff => ?certificate, fun hgood =>
        ⟨fun slot nonce ⟨h, hm⟩ hslot => ?challenge, fun signed index nonce ⟨h, hm⟩ hindex => ?measurements⟩⟩
      case digests =>
        rintro ⟨h, hm⟩
        obtain ⟨hans, hst, -⟩ := answerRow_responds h hm (hcode (by decide)) hx fun t _ =>
          responds_digests hc ((hrow h).trans spdmCode_spdmBytes) hstage
        exact Gives.of_eq rfl rfl ⟨hans, hst⟩
      case certificate =>
        obtain ⟨hans, hst, -⟩ := answerRow_responds h hm (hcode (by decide)) hx fun t _ =>
          responds_certificate hc ((hrow h).trans spdmCode_spdmBytes) hstage hslot hoff
        exact Gives.of_eq rfl rfl ⟨hans, hst⟩
      case challenge =>
        have hresp (t : State) (ht : t.sec.entropyFailed = s.sec.entropyFailed) :=
          responds_challenge (t := putConn x t) hc ((hrow h).trans spdmCode_spdmBytes) hstage hslot
            (ht.trans hgood)
        obtain ⟨hans, hst, t, hdraws, ht, heq⟩ := answerRow_responds h hm (hcode (by decide)) hx fun t ht => (hresp t ht).1
        refine Gives.of_eq rfl rfl ⟨hans, hst, ?_⟩
        rw [heq, ← hdraws]
        exact (hresp t ht).2
      case measurements =>
        obtain ⟨hans, hst, -⟩ := answerRow_responds h hm (hcode (by decide)) hx fun t ht =>
          responds_measurements (t := putConn x t) hc ((hrow h).trans spdmCode_spdmBytes) hstage (ht.trans hgood) hindex
        exact Gives.of_eq rfl rfl ⟨hans, hst⟩
    case chunks =>
      intro hstage
      refine ⟨fun handle n last b ⟨h, hm⟩ hn hlen => ?parts, fun handle n ⟨h, hm⟩ hout hhandle hn => ?fetch⟩
      case parts =>
        obtain ⟨seq, t, heq, hsec, -, hdropped, hmrow⟩ := answerRow_turn h
        have hsend := heq.trans (spdmRequest_chunkSend (x := x) hdropped hm (hmrow.trans spdmCode_spdmBytes)
          ((spdmConn?_of_spdm (by rw [hsec])).trans hx))
        exact ⟨fun hlast => Gives.of_eq rfl hsend (chunkSend_keeps hstage hn hlen hc hlast),
          fun hlast => Gives.of_eq rfl hsend (chunkSend_answers hstage hn hlen hc hlast)⟩
      case fetch =>
        obtain ⟨seq, t, heq, hsec, -, hdropped, hmrow⟩ := answerRow_turn h
        have hget := heq.trans (spdmRequest_chunkGet (x := x) hdropped hm (hmrow.trans spdmCode_spdmBytes)
          ((spdmConn?_of_spdm (by rw [hsec])).trans hx))
        exact Gives.of_eq rfl hget (chunkGet_sends hstage hc hout hhandle hn)
  case malformed =>
    intro slot offset length handle n index signed last b e he h hm
    have hrows : exec e.1 s = .next (answerRow c.conn e.2 s) ∧ spdmCode e.2 ∈ spdmAnswered := by
      simp only [List.mem_cons, List.not_mem_nil, or_false] at he
      rcases he with rfl | rfl | rfl | rfl | rfl | rfl | rfl | rfl | rfl <;>
        exact ⟨rfl, by rw [spdmCode_spdmBytes]; decide⟩
    exact Gives.of_eq hrows.1 rfl (answerRow_malformed h hrows.2 hm)
  case unsupported =>
    intro code hcode h
    refine Gives.of_eq rfl rfl (answerRow_unanswered h ?_)
    rw [spdmCode_spdmBytes, Nat.mod_eq_of_lt code.isLt]
    exact hcode

end Sys2Proof.Machine
end

section
/-!
SUPPORT and CLAIM. Lost contexts (04_objects_lifecycle, R130), and the errors of the collector (12_errors): the obligation
O49.
-/
namespace Sys2Proof.Machine

section Lost
variable {s t u v : State} {c : CtxId} {x : Ctx} {r : LostReason} {cause : List (Nat × CStatus)} {d : U64} {i : ErrInfo}

/-! ### A context that is lost (R130, R131) -/

/-- The context as its loss leaves it. -/
def lostCtx (r : LostReason) (gtc : U64) (x : Ctx) : Ctx := { x with
  state := .lost
  lostReason := r
  lostGtc := gtc }

/-- What follows the loss of a READY context leaves the table of contexts as the loss left it. -/
theorem loseContext_ctxs (hx : ctx? s c = some x) (hr : x.state = .ready) :
    (loseContext c r cause d i s).obj.ctxs = (modCtx c (lostCtx r s.gtc) s).obj.ctxs := by
  have hctxs {a b : State} (h : SameBut [.od, .stored, .counters, .mgmt, .links, .intx, .fnCfg, .int, .capture, .cmds,
      .engines, .lookups, .peers, .windows, .err, .power, .out] a b) : b.obj.ctxs = a.obj.ctxs := h.2.2 .ctxs (by decide)
  unfold loseContext
  rw [hx]
  dsimp only
  rw [if_neg (by simp [hr])]
  refine hctxs (a := modCtx c (lostCtx r s.gtc) s) ?_
  have hrevoked := revokeCtxLeases_frame (L := [.od, .stored, .counters, .mgmt, .links, .intx, .fnCfg, .int, .capture,
    .cmds, .engines, .lookups, .peers, .windows, .err, .power, .out]) (c := c) (by decide)
    (foldState_frame (f := loseCmd cause) (l := s.cmd.table.filter fun y => y.ctx == c)
      (fun a t h => loseCmd_frame (by decide) h) (SameBut.refl _ (modCtx c (lostCtx r s.gtc) s)))
  exact SameBut.ite hrevoked
    (raiseWith_frame (by decide) (countFn_frame (by decide) (formEvent_frame (by decide) hrevoked)))

/-- A READY context is LOST, for the reason and since the count given (R130). -/
theorem loseContext_lost (hx : ctx? s c = some x) (hr : x.state = .ready) :
    LostFor s (loseContext c r cause d i s) c r := by
  have hctx : ctx? (loseContext c r cause d i s) c = some (lostCtx r s.gtc x) := by
    rw [ctx?, loseContext_ctxs hx hr, ← ctx?, ctx_modCtx, hx]
    rfl
  exact ⟨_, hctx, rfl, rfl, rfl⟩

/-- The loss of one context leaves every other. -/
theorem ctx_loseContext_other {k : CtxId} (hk : k ≠ c) : ctx? (loseContext c r cause d i s) k = ctx? s k := by
  cases hx : ctx? s c with
  | none => simp [loseContext, hx]
  | some x =>
    by_cases hr : x.state = .ready
    · rw [ctx?, loseContext_ctxs hx hr, ← ctx?, ctx_modCtx_other hk]
    · simp [loseContext, hx, hr]

/-- The loss is seen from any state of the same count, and in any state with the same table of contexts. -/
theorem LostFor.congr (h : LostFor u v c r) (hg : u.gtc = s.gtc) (hc : ctx? t c = ctx? v c) : LostFor s t c r := by
  obtain ⟨y, hy, hstate, hreason, hgtc⟩ := h
  exact ⟨y, hc.trans hy, hstate, hreason, hgtc.trans hg⟩

/-- A context that is lost stays lost for the first reason (R130). -/
theorem loseContext_notReady (h : ∀ x, ctx? s c = some x → x.state ≠ .ready) : loseContext c r cause d i s = s := by
  unfold loseContext
  cases hx : ctx? s c with
  | none => rfl
  | some x => exact if_pos (h x hx)

end Lost

/-! ### The sources -/

section Sources
variable {s t : State} {e : Src} {i : ErrInfo}

theorem raiseSource_clamped (h : pairClamped s e i = true) : raiseSource e i s = s := by
  unfold raiseSource
  exact if_pos h

/-- What a source does whose pair is watched (R373). -/
theorem raiseSource_open (h : pairClamped s e i = false) (hu : e ≠ .unitFenced) (hc : e ≠ .internalCorrected)
    (hx : e ≠ .contextStateUncorrectable) : raiseSource e i s = raiseError e i s := by
  unfold raiseSource
  rw [if_neg (by rw [h]; decide)]
  split
  · exact absurd rfl hx
  · exact absurd rfl hc
  · exact absurd rfl hu
  · rfl

/-! ### What an error of a whole pair leaves of the registers (R378 to R380, R389) -/

section Registers
variable {lost : List CtxId} {r : Nat} {gtc : U64} {x : ErrSt}

/-- The package state, the capture and the pending resets are those of the reaction; the pin reaction leaves them. -/
theorem raisedErr_reacted : let y := raisedErr e i lost r gtc x
    let z := reactedErr e r gtc (capturedErr e i gtc (countedErr e x))
    y.pkg = z.pkg ∧ y.capture = z.capture ∧ y.packagePending = z.packagePending ∧ y.blockPending = z.blockPending := by
  unfold raisedErr
  dsimp only
  split <;> exact ⟨rfl, rfl, rfl, rfl⟩

theorem capturedErr_keeps : (capturedErr e i gtc x).pkg = x.pkg ∧
    (capturedErr e i gtc x).packagePending = x.packagePending ∧
    (capturedErr e i gtc x).blockPending = x.blockPending := by
  unfold capturedErr
  split <;> exact ⟨rfl, rfl, rfl⟩

/-- The package state follows the class (R378). -/
theorem raisedErr_pkg : (raisedErr e i lost r gtc x).pkg =
    if srcClass e = 3 then .fatal else if srcClass e = 2 ∧ x.pkg = .normal then .blockFailed else x.pkg := by
  rw [raisedErr_reacted.1, reactedErr, capturedErr_keeps.1]
  simp [countedErr]

theorem raisedErr_pin (h : r.testBit 4 = true) : (raisedErr e i lost r gtc x).pin = true := by
  unfold raisedErr
  dsimp only
  rw [if_pos h]
  rfl

theorem raisedErr_capture : (raisedErr e i lost r gtc x).capture =
    if 2 ≤ srcClass e then (captureError 32 e i gtc x.capture).1 else x.capture := by
  rw [raisedErr_reacted.2.1]
  unfold reactedErr capturedErr
  dsimp only
  split <;> rfl

theorem captureError_held {w : Nat} {k : Capture} : (captureError w e i gtc k).1.heldNow = true := by
  unfold captureError
  split
  · assumption
  · rfl

theorem captureError_first {w : Nat} {k : Capture} (h : k.heldNow = false) :
    (captureError w e i gtc k).1.source = srcCode e ∧ (captureError w e i gtc k).1.gtc = gtc := by
  unfold captureError
  rw [if_neg (by rw [h]; decide)]
  exact ⟨rfl, rfl⟩

theorem captureError_merged {w : Nat} {k : Capture} (h : k.heldNow = true) :
    (captureError w e i gtc k).1.source = k.source := by
  unfold captureError
  rw [if_pos h]

/-- A reset that the reaction selects is pending where the state lets it start; the package reset comes first (R379). -/
theorem raisedErr_pending (hclass : srcClass e < 3)
    (hstart : x.pkg = .normal ∨ (srcClass e < 2 ∧ x.pkg = .blockFailed)) :
    (r.testBit 3 = true → (raisedErr e i lost r gtc x).packagePending = true) ∧
      (r.testBit 3 = false → r.testBit 2 = true → (raisedErr e i lost r gtc x).blockPending = true) := by
  obtain ⟨-, -, hpackage, hblock⟩ := raisedErr_reacted (e := e) (i := i) (lost := lost) (r := r) (gtc := gtc) (x := x)
  have hpkg : (capturedErr e i gtc (countedErr e x)).pkg = x.pkg := capturedErr_keeps.1
  have hne : (srcClass e != 3) = true := by simp; omega
  have hstarts : (srcClass e < 3 && (x.pkg == .normal || (srcClass e < 2 && x.pkg == .blockFailed))) = true := by
    simpa [hclass] using hstart
  rw [hpackage, hblock, reactedErr, hpkg]
  dsimp only
  rw [hstarts, hne]
  exact ⟨fun h => by simp [h], fun h h' => by simp [h, h']⟩

end Registers

theorem mem_allSources (d : Src) : d ∈ allSources := by cases d <;> decide

theorem allSources_idxOf (d : Src) : allSources[allSources.idxOf d]? = some d := by
  have hlt : allSources.idxOf d < allSources.length := List.idxOf_lt_length_iff.2 (mem_allSources d)
  rw [List.getElem?_eq_getElem hlt, List.getElem_idxOf hlt]

theorem srcCode_injective {d : Src} (h : srcCode d = srcCode e) : d = e := by
  have hplace : allSources.idxOf d = allSources.idxOf e := Nat.add_right_cancel h
  exact Option.some.inj ((allSources_idxOf d).symm.trans (hplace ▸ allSources_idxOf e))

/-- The count of another source stays. -/
theorem errCount_raiseError_other {d : Src} (h : d ≠ e) : errCount (raiseError e i s) d = errCount s d := by
  by_cases hbroken : e ∈ s.err.wireFaults
  · rw [raiseError, raiseWith_broken hbroken]
  · have hcode : srcCode d ≠ srcCode e := by
      revert h
      cases d <;> cases e <;> decide
    rw [errCount, raiseError_err hbroken, raisedErr_keeps.1, countedErr]
    dsimp only
    rw [assocGet_assocPut_other _ hcode, errCount]

/-! ### Entries, captures and counters -/

/-- The entry that a corrected error names is gone, if it is unlocked (R376). -/
theorem dropFaulty_entry {who : Who} {a : Asker} {x : REntry} (ho : faultyOwner i = some who)
    (ha : asker s who = some a) (hx : storeLookup s who a (i.address.toNat / 4096) = some x) (hl : x.locked = false) :
    ∀ y ∈ getBank (dropFaulty i s) (bankOf s who), y.id ≠ x.id := by
  have hin : bankOf s who < s.trans.banks.length := by
    refine Decidable.byContradiction fun hout => ?_
    rw [storeLookup, getBank, List.getD_eq_getElem?_getD, List.getElem?_eq_none (by omega)] at hx
    cases hx
  have hdrop : dropFaulty i s = revokeWhere (fun l => l.entry == x.id) .replace
      (setBank (bankOf s who) ((getBank s (bankOf s who)).filter (·.id != x.id)) s) := by
    unfold dropFaulty
    rw [ho]
    dsimp only
    rw [ha, Option.bind_some, hx, Option.filter_some, if_pos (by rw [hl]; rfl)]
  intro y hy
  have hafter : (revokeWhere (fun l => l.entry == x.id) .replace
      (setBank (bankOf s who) ((getBank s (bankOf s who)).filter (·.id != x.id)) s)).trans.banks =
      s.trans.banks.set (bankOf s who) ((getBank s (bankOf s who)).filter (·.id != x.id)) :=
    congrArg Prod.fst ((revokeWhere_frame (L := [.counters, .int, .lookups, .out]) (by decide)
      (SameBut.refl _ (setBank _ _ s))).2.2 .entries (by decide))
  rw [hdrop, getBank, hafter, List.getD_eq_getElem?_getD, List.getElem?_set_self hin] at hy
  simpa using (List.mem_filter.1 hy).2

/-! ### An error after another (R374, R393) -/

theorem raiseError_wireFaults : (raiseError e i s).err.wireFaults = s.err.wireFaults := by
  by_cases hbroken : e ∈ s.err.wireFaults
  · rw [raiseError, raiseWith_broken hbroken]
  · rw [raiseError_err hbroken, raisedErr_keeps.2.1]

theorem raiseError_mismatch : (raiseError e i s).err.mismatch = s.err.mismatch := by
  by_cases hbroken : e ∈ s.err.wireFaults
  · rw [raiseError, raiseWith_broken hbroken]
  · rw [raiseError_err hbroken, raisedErr_keeps.2.2]

theorem raiseError_fatal (h : s.err.pkg = .fatal) : (raiseError e i s).err.pkg = .fatal := by
  by_cases hbroken : e ∈ s.err.wireFaults
  · rw [raiseError, raiseWith_broken hbroken, h]
  · rw [raiseError_err hbroken, raisedErr_pkg, h]
    simp

/-- A capture that is held keeps its first error. -/
theorem raiseError_capture (h : s.err.capture.heldNow = true) :
    (raiseError e i s).err.capture.source = s.err.capture.source := by
  by_cases hbroken : e ∈ s.err.wireFaults
  · rw [raiseError, raiseWith_broken hbroken]
  · rw [raiseError_err hbroken, raisedErr_capture]
    split
    · exact captureError_merged h
    · rfl

/-- The state in which a broken pair raises WIRE_FAULT: an S3 source that it serves has raised its own error (R374). -/
def servedFirst (e : Src) (s : State) : State := if srcClass e = 3 then raiseError e { access := 7 } s else s

theorem breakWire_open (h : pairClamped s e {} = false) (hwhole : e ∉ s.err.wireFaults) : breakWire e s =
    modErr (fun x => { x with wireFaults := x.wireFaults ++ [e] })
      (raiseError .wireFault { address := w64 (srcCode e), access := 7 } (servedFirst e s)) := by
  unfold breakWire
  rw [if_neg (by rw [h, Bool.or_false]; simpa using hwhole)]
  rfl

theorem servedFirst_wireFaults : (servedFirst e s).err.wireFaults = s.err.wireFaults := by
  unfold servedFirst
  split
  · exact raiseError_wireFaults
  · rfl

theorem errCount_servedFirst {d : Src} (h : d ≠ e) : errCount (servedFirst e s) d = errCount s d := by
  unfold servedFirst
  split
  · exact errCount_raiseError_other h
  · rfl

/-- WIRE_FAULT is counted and the pair is noted as broken. -/
theorem breakWire_raises (h : pairClamped s e {} = false) (hwhole : e ∉ s.err.wireFaults) (he : e ≠ .wireFault) :
    Raised s (breakWire e s) .wireFault ∧ (breakWire e s).err.wireFaults = s.err.wireFaults ++ [e] := by
  rw [breakWire_open h hwhole]
  refine ⟨fun hw hlt => ?_, ?_⟩
  · rw [← servedFirst_wireFaults] at hw
    have hcount : errCount (servedFirst e s) .wireFault = errCount s .wireFault := errCount_servedFirst he.symm
    rw [← hcount] at hlt
    exact (raised_raiseError hw hlt).trans (by rw [hcount])
  · change _ ++ _ = _
    rw [raiseError_wireFaults, servedFirst_wireFaults]

/-- An S3 source that a broken pair serves raises its own error, which is captured first. -/
theorem breakWire_serves (h : pairClamped s e {} = false) (hwhole : e ∉ s.err.wireFaults) (he : e ≠ .wireFault)
    (hclass : srcClass e = 3) :
    Raised s (breakWire e s) e ∧ (breakWire e s).err.pkg = .fatal ∧
      (s.err.capture.heldNow = false → (breakWire e s).err.capture.source = srcCode e) := by
  have hserved : servedFirst e s = raiseError e { access := 7 } s := if_pos hclass
  rw [breakWire_open h hwhole, hserved]
  refine ⟨fun hw hlt => ?_, raiseError_fatal ?_, fun hfree => ?_⟩
  · exact (errCount_raiseError_other he).trans (raised_raiseError hw hlt)
  · rw [raiseError_err hwhole, raisedErr_pkg, if_pos hclass]
  · have hcapture : (raiseError e { access := 7 } s).err.capture =
        (captureError 32 e { access := 7 } s.gtc s.err.capture).1 := by
      rw [raiseError_err hwhole, raisedErr_capture, if_pos (by omega)]
    refine (raiseError_capture ?_).trans ?_
    · rw [hcapture]
      exact captureError_held
    · rw [hcapture]
      exact (captureError_first hfree).1

end Sources

/-- Settles O49, source by source and release by release. -/
theorem errorReactions : Obligations.ErrorReactions := by
  unfold Obligations.ErrorReactions
  intro s hs
  refine ⟨fun e i => ⟨?clamped, ?broken, ?raised, ?corrected, ?fenced, ?state⟩, fun e => ⟨?wireClamped, ?wire⟩,
    fun rq h => ?release, fun g v hopen hv => ?fnRelease, fun rq h hpin hheld => ?pinRelease,
    fun hpin hwait hlong => ?holdExpiry, fun h => ?mismatch, fun h => ?mismatched, rfl, fun rq ref h hlo hhi => ?clear,
    fun h => ?watchdog⟩
  case clamped =>
    intro h
    exact congrArg Host.Outcome.next (raiseSource_clamped h)
  case broken =>
    intro hbroken hu hc hx
    by_cases hclamped : pairClamped s e i = true
    · exact congrArg Host.Outcome.next (raiseSource_clamped hclamped)
    · exact congrArg Host.Outcome.next
        ((raiseSource_open (by simpa using hclamped) hu hc hx).trans (raiseWith_broken hbroken))
  case raised =>
    intro h hwhole hu hc hx
    refine Gives.of_eq rfl (raiseSource_open h hu hc hx) ⟨raised_raiseError, ?_⟩
    rw [raiseError_err hwhole]
    refine ⟨raisedErr_pin, fun hclass => ?_, raisedErr_pkg, raisedErr_pending⟩
    rw [raisedErr_capture, if_pos hclass]
    exact ⟨captureError_held, captureError_first⟩
  case corrected =>
    intro h
    refine Gives.of_eq rfl (t := dropFaulty i (raiseError .internalCorrected i s)) ?_ ⟨?_, ?_⟩
    · unfold raiseSource
      rw [if_neg (by rw [h]; decide)]
    · refine (raised_raiseError (i := i)).of_err rfl (congrArg ErrSt.counts ?_)
      exact (dropFaulty_frame (L := [.counters, .int, .entries, .lookups, .out]) (by decide) (SameBut.refl _ _)).2.2 .err
        (by decide)
    · intro who a x ho ha hx hl
      have hsame := raiseError_sameBut (e := .internalCorrected) (i := i) (s := s)
      have htrans := hsame.trans_eq (by decide)
      have hasker : asker (raiseError .internalCorrected i s) who = some a := by
        rw [← ha]
        cases who with
        | ctx c => rw [asker, hsame.ctx (by decide), asker]
        | win w => rw [asker, win?, hsame.win_eq (by decide), asker, win?]
      have hbank : bankOf (raiseError .internalCorrected i s) who = bankOf s who := by
        cases who <;> rw [bankOf, htrans, bankOf]
      rw [← hbank]
      refine dropFaulty_entry ho hasker ?_ hl
      rw [storeLookup, hbank, getBank, htrans]
      exact hx
  case fenced =>
    intro h
    have hsource : raiseSource .unitFenced i s = if i.kind = 5 then fenceUnit (.cluster i.unit) s
        else if i.kind = 4 then fenceUnit (.engine (Fin.ofNat 32 i.unit)) s else raiseError .unitFenced i s := by
      unfold raiseSource
      rw [if_neg (by rw [h]; decide)]
    refine ⟨fun h5 => ?_, fun h4 => ?_, fun h4 h5 => ?_⟩
    · exact congrArg Host.Outcome.next (hsource.trans (if_pos h5))
    · refine congrArg Host.Outcome.next (hsource.trans ?_)
      rw [if_neg (by omega), if_pos h4]
    · refine Gives.of_eq rfl (hsource.trans ?_) (raised_raiseError (i := i))
      rw [if_neg h5, if_neg h4]
  case state =>
    intro c cx h hi hc hready
    have hsame : SameBut raiseParts s (raiseWith .contextStateUncorrectable i [c] s) :=
      raiseWith_frame (by decide) (SameBut.refl _ s)
    have hc' := (hsame.ctx (by decide) c).trans hc
    refine Gives.of_eq rfl (t := loseContext c .poisonedData [] 0 i
      (raiseWith .contextStateUncorrectable i [c] s)) ?_
      ((loseContext_lost hc' hready).congr (hsame.2.2 .gtc (by decide)) rfl)
    unfold raiseSource contextStateLost
    rw [if_neg (by rw [h]; decide), hi]
    simp [hc, hready]
  case wireClamped =>
    intro h
    refine congrArg Host.Outcome.next ?_
    rw [breakWire, if_pos (by rw [h, Bool.or_true])]
  case wire =>
    intro h hwhole he
    obtain ⟨hraised, hfaults⟩ := breakWire_raises h hwhole he
    exact Gives.of_eq rfl rfl ⟨hraised, hfaults, breakWire_serves h hwhole he⟩
  case release =>
    refine Gives.of_eq rfl (requestWrite_accepted h rfl) ⟨by simp [modErr], ?_⟩
    exact modErr_frame (by decide) (emit_frame (by decide) (SameBut.refl _ s))
  case fnRelease =>
    refine Gives.of_eq rfl (t := modFn g (fun x => { x with capture := Capture.init }) s) ?_ ⟨?_, ?_, ?_⟩
    · rw [barWrite, if_pos hopen, writeFnRelease, if_pos hv]
    · rw [getFn_modFn hs.fns]
    · exact fun k hk => getFn_modFn_other hk _
    · exact writeFnRelease_frame (v := 1) (by decide) (SameBut.refl _ s)
  case pinRelease =>
    have hrelease := requestWrite_accepted (act := releasePin) h hheld
    refine ⟨fun hlong => Gives.of_eq rfl (hrelease.trans ?_) (t := endPin (emit (.objectStatus rq ⟨0x9000, 6⟩ .ok) s))
      ⟨rfl, List.mem_cons_self⟩, fun hshort => Gives.of_eq rfl (hrelease.trans ?_)
        (t := modErr (fun x => { x with releaseWaiting := true }) (emit (.objectStatus rq ⟨0x9000, 6⟩ .ok) s)) rfl⟩
    · unfold releasePin
      exact (if_neg (by simp [hpin])).trans (if_pos hlong)
    · unfold releasePin
      exact (if_neg (by simp [hpin])).trans (if_neg fun hlong => Bool.noConfusion (hshort.symm.trans hlong))
  case holdExpiry =>
    refine Gives.of_eq rfl (t := endPin s) ?_ ⟨rfl, rfl⟩
    rw [hpin, hwait, hlong]
    rfl
  case mismatch =>
    refine Gives.of_eq rfl (if_neg (by rw [h]; decide)) ⟨?_, ?_⟩
    · exact raised_raiseError (s := modErr (fun x => { x with mismatch := true }) s)
    · exact raiseError_mismatch
  case mismatched => exact congrArg Host.Outcome.next (if_pos h)
  case clear =>
    refine Gives.of_eq rfl ((requestWrite_accepted h rfl).trans ?_)
      (t := clearCount ref.index ref.sub (emit (.objectStatus rq ref .ok) s))
      ⟨assocGet_assocDel _ _, fun k hk => assocGet_assocDel_other _ hk⟩
    unfold clearCounter
    exact if_pos (by simp [hlo, hhi])
  case watchdog =>
    exact Gives.of_eq rfl (raiseSource_open h (by decide) (by decide) (by decide)) raised_raiseError

end Sys2Proof.Machine
end

section
/-!
SUPPORT. Requests that go upstream whole (02_host_endpoint, R60), and what the firing of a source leaves of its function
(11_events_interrupts, R354 to R357).
-/
namespace Sys2Proof.Machine

section Upstream
variable {s t : State} {g : Fun}

/-! ### A request that meets no boundary -/

theorem payloadBytes_ge (n : Nat) : 128 ≤ payloadBytes n := by
  rw [payloadBytes, Nat.shiftLeft_eq]
  exact Nat.le_mul_of_pos_right _ (Nat.two_pow_pos _)

/-- A span within one request's bytes and within 4 KiB is one request (R60). -/
theorem requests_single {step a n : Nat} (hn : 0 < n) (hstep : n ≤ step) (hpage : a % 4096 + n ≤ 4096) :
    requests step a n = [(a, 0, n)] := by
  have hk : min n (min step (4096 - a % 4096)) = n := by omega
  rw [requests, show n / 128 + n / 4096 + 3 = (n / 128 + n / 4096 + 1) + 1 + 1 from rfl, splitAt4K, if_neg (by omega)]
  dsimp only
  rw [hk, Nat.sub_self, splitAt4K, if_pos rfl]

theorem sliceBytes_zero_length (b : Bytes) : sliceBytes b 0 b.length = b := by
  rw [sliceBytes]
  refine List.ext_getElem (by simp) fun i h₁ h₂ => ?_
  simp [List.getD_eq_getElem?_getD, h₂]

/-- An untranslated write of at most 128 bytes within 4 KiB leaves as one write (R60, R387). -/
theorem hostWrite_single {a : Nat} {b : Bytes} (hopen : dmaOpen s = true) (hlo : 0 < b.length) (hhi : b.length ≤ 128)
    (hpage : a % 4096 + b.length ≤ 4096) : hostWrite g a none b s = emit (.write (portOf g) a none b) s := by
  unfold hostWrite
  rw [if_neg (by rw [hopen]; decide), requests_single hlo (Nat.le_trans hhi (payloadBytes_ge _) : _ ≤ maxPayload s g) hpage]
  change emit (.write (portOf g) a none (sliceBytes b 0 b.length)) s = _
  rw [sliceBytes_zero_length]

/-! ### What a firing source leaves of its function -/

/-- What the firing of a source may change of a function: its latches and losses, and what its weir may change (R355 to
R357). -/
def Fired (x y : FnSt) : Prop := ∃ latches loss, WeirRan { x with int := { x.int with
  latches := latches
  loss := loss } } y

theorem WeirRan.fired {x y : FnSt} (h : WeirRan x y) : Fired x y := ⟨x.int.latches, x.int.loss, h⟩

theorem Fired.trans {x y z : FnSt} (h : Fired x y) (k : Fired y z) : Fired x z := by
  obtain ⟨latches, loss, w, n, pme, es, rfl⟩ := h
  obtain ⟨latches', loss', k⟩ := k
  exact ⟨latches', loss', WeirRan.trans ⟨w, n, pme, es, rfl⟩ k⟩

/-- A firing leaves the rings, the records that wait and whether the function stalls. -/
theorem Fired.keeps {x y : FnSt} (h : Fired x y) : y.int.rings = x.int.rings ∧ y.int.held = x.int.held ∧
    x.int.formed <+: y.int.formed ∧ y.cfg.command = x.cfg.command ∧ y.cfg.d3hot = x.cfg.d3hot := by
  obtain ⟨latches, loss, w, n, pme, es, rfl⟩ := h
  exact ⟨rfl, rfl, List.prefix_append _ _, rfl, rfl⟩

theorem setLatch_fired (hfns : s.fns.length = 32) {k : Nat} : Fired (getFn s g) (getFn (setLatch g k s) g) := by
  unfold setLatch
  dsimp only
  split
  · have hloss (n : Nat) (u : State) (hu : OnlyForms (modInt g (fun x => { x with
        loss := assocPut x.loss k (BitVec.ofNat 32 n) }) s) u) : Fired (getFn s g) (getFn u g) := by
      have h := hu.weirRan g
      rw [getFn_modInt hfns] at h
      exact ⟨(getFn s g).int.latches, _, h⟩
    split
    · exact hloss _ _ saturated_onlyForms
    · exact hloss _ _ (OnlyForms.refl _)
  · have h := runWeir_weirRan (g := g) (k := g) (before := s) (s := modInt g (fun x => { x with
      latches := x.latches ||| (1 : BitVec 320) <<< k }) s)
    rw [getFn_modInt hfns] at h
    exact ⟨_, (getFn s g).int.loss, h⟩

theorem fire_fired (hfns : s.fns.length = 32) {k : Nat} : Fired (getFn s g) (getFn (fire g k s) g) := by
  have hwake : Fired (getFn s g) (getFn (wakeFires (.source g k) s) g) := (wakeFires_onlyForms.weirRan g).fired
  rw [fire]
  split
  · refine hwake.trans (setLatch_fired ?_)
    exact ((wakeFires_frame (L := [.counters, .links, .fnCfg, .int, .power, .out]) (by decide)
      (SameBut.refl _ s)).fns_length (by decide)).trans hfns
  · exact hwake

end Upstream
end Sys2Proof.Machine
end

section
/-!
SUPPORT and CLAIM. Records of event rings and the registers of interrupts (11_events_interrupts, R350 to R364): the
obligation O47.
-/
namespace Sys2Proof.Machine

section Rings
variable {s t u : State} {g : Fun} {r k : Nat} {x y : Ring} {e : EvRec}

/-! ### Rings -/

theorem getRing_setRing (hfns : s.fns.length = 32) : getRing (setRing g r x s) g r = some x := by
  rw [getRing, setRing, getFn_modInt hfns]
  exact assocGet_assocPut _ _ _

theorem getRing_setRing_other (hfns : s.fns.length = 32) (hk : k ≠ r) : getRing (setRing g r x s) g k = getRing s g k := by
  rw [getRing, setRing, getFn_modInt hfns]
  exact assocGet_assocPut_other _ hk _

theorem dmaOpen_of_frame {L : List StatePart} (h : SameBut L s t) (he : .err ∉ L) (hg : .gtc ∉ L) :
    dmaOpen t = dmaOpen s := by
  have herr : t.err = s.err := h.2.2 .err he
  have hgtc : t.gtc = s.gtc := h.2.2 .gtc hg
  rw [dmaOpen, herr, hgtc, dmaOpen]

/-- A ring of a function, the records that wait behind it, and what decides whether it is written, are kept; more
records may have been formed. -/
def RingKept (g : Fun) (k : Nat) (s t : State) : Prop :=
  t.fns.length = s.fns.length ∧ getRing t g k = getRing s g k ∧ (getFn s g).int.formed <+: (getFn t g).int.formed ∧
    fnStalled t g = fnStalled s g ∧ dmaOpen t = dmaOpen s

theorem RingKept.refl (s : State) : RingKept g k s s := ⟨rfl, rfl, List.prefix_refl _, rfl, rfl⟩

theorem prefix_of_eq {α : Type} {l m : List α} (h : m = l) : l <+: m := h ▸ List.prefix_refl _

theorem RingKept.trans (h : RingKept g k s t) (h' : RingKept g k t u) : RingKept g k s u := by
  obtain ⟨hfns, hring, hformed, hstalled, hopen⟩ := h
  obtain ⟨hfns', hring', hformed', hstalled', hopen'⟩ := h'
  exact ⟨hfns'.trans hfns, hring'.trans hring, hformed.trans hformed', hstalled'.trans hstalled, hopen'.trans hopen⟩

/-- A frame that touches no function's registers keeps every ring. -/
theorem SameBut.ringKept {L : List StatePart} (h : SameBut L s t)
    (hl : ∀ p ∈ [StatePart.int, .fnCfg, .mbx, .err, .gtc], p ∉ L) : RingKept g k s t := by
  refine ⟨h.fns_length (hl _ (by decide)), ?_, ?_, ?_, dmaOpen_of_frame h (hl _ (by decide)) (hl _ (by decide))⟩
  · rw [getRing, h.fn_int (hl _ (by decide)), getRing]
  · exact prefix_of_eq (by rw [h.fn_int (hl _ (by decide))])
  · rw [fnStalled, h.fn_fnCfg (hl _ (by decide)), fnStalled]

theorem fire_ringKept (hfns : s.fns.length = 32) {n : Nat} : RingKept g k s (fire g n s) := by
  have hframe : SameBut [.counters, .links, .intx, .fnCfg, .int, .power, .out] s (fire g n s) :=
    fire_frame (by decide) (SameBut.refl _ s)
  obtain ⟨hrings, -, hformed, hcommand, hd3⟩ := (fire_fired (g := g) (k := n) hfns).keeps
  refine ⟨hframe.fns_length (by decide), ?_, hformed, ?_, dmaOpen_of_frame hframe (by decide) (by decide)⟩
  · rw [getRing, hrings, getRing]
  · rw [fnStalled, hcommand, hd3, fnStalled]

theorem setRing_ringKept (hfns : s.fns.length = 32) (hk : k ≠ r) : RingKept g k s (setRing g r x s) := by
  refine ⟨by simp [setRing, modInt, modFn], getRing_setRing_other hfns hk, ?_, ?_, rfl⟩
  · exact prefix_of_eq (by rw [setRing, getFn_modInt hfns])
  · rw [fnStalled, setRing, getFn_modInt hfns, fnStalled]

theorem hostWrite_ringKept {a : Nat} {b : Bytes} : RingKept g k s (hostWrite g a none b s) :=
  (hostWrite_frame (L := [.ats, .out]) (by decide) (SameBut.refl _ s)).ringKept (by decide)

/-- A record that goes to another ring keeps this one. -/
theorem putRecord_ringKept (hfns : s.fns.length = 32) (hk : k ≠ r) : RingKept g k s (putRecord g r x e s) := by
  unfold putRecord
  split
  · exact RingKept.refl s
  · have hwrite (a : Nat) (b : Bytes) (z : Ring) : RingKept g k s (setRing g r z (hostWrite g a none b s)) :=
      hostWrite_ringKept.trans (setRing_ringKept ((hostWrite_ringKept (g := g) (k := k)).1.trans hfns) hk)
    have hlength (a : Nat) (b : Bytes) (z : Ring) : (setRing g r z (hostWrite g a none b s)).fns.length = 32 :=
      (hwrite a b z).1.trans hfns
    exact (hwrite _ _ _).trans (fire_ringKept (hlength _ _ _))

/-- What another ring owes is written, and nothing is owed by a ring that dropped nothing (R352). -/
theorem tryOverflow_ringKept (hfns : s.fns.length = 32) (hy : getRing s g k = some y) (hover : y.overflow = false) :
    RingKept g k s (tryOverflow g r s) := by
  unfold tryOverflow
  split
  · exact RingKept.refl s
  · rename_i z hz
    split
    · rename_i howes
      refine putRecord_ringKept hfns fun hk => ?_
      subst hk
      rw [hy] at hz
      cases hz
      rw [hover] at howes
      simp at howes
    · exact RingKept.refl s

theorem foldState_tryOverflow_ringKept {l : List (Nat × Ring)} (hfns : s.fns.length = 32) (hy : getRing s g k = some y)
    (hover : y.overflow = false) : RingKept g k s (foldState (fun r s => tryOverflow g r.1 s) l s) := by
  induction l generalizing s with
  | nil => exact RingKept.refl s
  | cons a l ih =>
    have h := tryOverflow_ringKept (r := a.1) hfns hy hover
    exact h.trans (ih (h.1.trans hfns) (h.2.1.trans hy))

/-- With nothing held over a stall, what the rings owe is written, and a ring that owes nothing is kept (R353). -/
theorem releaseHeld_ringKept (hfns : s.fns.length = 32) (hheld : (getFn s g).int.held = []) (hy : getRing s g k = some y)
    (hover : y.overflow = false) : RingKept g k s (releaseHeld g s) := by
  unfold releaseHeld
  split
  · exact RingKept.refl s
  · rw [hheld]
    exact foldState_tryOverflow_ringKept hfns hy hover

/-- A record goes to its place in its ring, and the producer's index advances (R348, R350, R351). -/
theorem putRecord_puts (hfns : s.fns.length = 32) (hopen : dmaOpen s = true) (hbase : x.base.toNat % 4096 = 0) :
    getRing (putRecord g r x e s) g r = some { x with producer := x.producer + 1 } ∧
      (getFn s g).int.formed <+: (getFn (putRecord g r x e s) g).int.formed ∧
      .write (portOf g) (x.base.toNat + 32 * (x.producer.toNat % 2 ^ x.log2)) none
        (eventBytes e (phaseOf x.producer.toNat x.log2)) ∈ (putRecord g r x e s).out := by
  have hlen : (eventBytes e (phaseOf x.producer.toNat x.log2)).length = 32 := by simp [eventBytes]
  have hput : putRecord g r x e s = fire g r (setRing g r { x with producer := x.producer + 1 }
      (emit (.write (portOf g) (x.base.toNat + 32 * (x.producer.toNat % 2 ^ x.log2)) none
        (eventBytes e (phaseOf x.producer.toNat x.log2))) s)) := by
    unfold putRecord
    rw [if_neg (by rw [hopen]; decide)]
    dsimp only
    rw [hostWrite_single hopen (by omega) (by omega) (by omega)]
  have hlength (m : Msg) : (emit m s).fns.length = 32 := hfns
  have hset (m : Msg) (z : Ring) : (setRing g r z (emit m s)).fns.length = 32 := by
    rw [← hlength m]
    simp [setRing, modInt, modFn]
  rw [hput]
  have hkept := fire_ringKept (g := g) (k := r) (n := r) (hset (.write (portOf g)
    (x.base.toNat + 32 * (x.producer.toNat % 2 ^ x.log2)) none (eventBytes e (phaseOf x.producer.toNat x.log2)))
    { x with producer := x.producer + 1 })
  obtain ⟨-, hring, hformed, -, -⟩ := hkept
  refine ⟨hring.trans (getRing_setRing (hlength _)), ?_, ?_⟩
  · rw [setRing, getFn_modInt (hlength _)] at hformed
    exact hformed
  · exact (fire_ok (Ok.refl _)).out.subset List.mem_cons_self

/-- The first formed record goes to its ring, once nothing is held (R348, R350, R353). -/
theorem writeEventRecord_puts {es : List EvRec} (hfns : s.fns.length = 32) (hformed : (getFn s g).int.formed = e :: es)
    (hstalled : fnStalled s g = false) (hheld : (getFn s g).int.held = []) (hy : getRing s g e.ring = some y)
    (hover : y.overflow = false) (hroom : ringUsed y < 2 ^ y.log2 - 1) (hbase : y.base.toNat % 4096 = 0)
    (hopen : dmaOpen s = true) :
    es <+: (getFn (writeEventRecord g s) g).int.formed ∧
      getRing (writeEventRecord g s) g e.ring = some { y with producer := y.producer + 1 } ∧
      .write (portOf g) (y.base.toNat + 32 * (y.producer.toNat % 2 ^ y.log2)) none
        (eventBytes e (phaseOf y.producer.toNat y.log2)) ∈ (writeEventRecord g s).out := by
  obtain ⟨hlength, hring, ⟨fs, hfs⟩, -, hopen'⟩ := releaseHeld_ringKept hfns hheld hy hover
  rw [hformed, List.cons_append] at hfs
  have hwrites : writeEventRecord g s =
      putRecord g e.ring y e (modInt g (fun y => { y with formed := es ++ fs }) (releaseHeld g s)) := by
    have hring' (f : List EvRec) : getRing (modInt g (fun y => { y with formed := f }) (releaseHeld g s)) g e.ring =
        some y := by
      rw [getRing, getFn_modInt (hlength.trans hfns), ← hy, ← hring, getRing]
    unfold writeEventRecord
    rw [if_neg (by rw [hopen]; decide), if_neg (by rw [hstalled]; decide)]
    dsimp only
    rw [← hfs]
    dsimp only
    unfold deliverRecord
    rw [hring']
    dsimp only
    rw [if_pos (by simp [hroom, hover])]
  have hfns' : (modInt g (fun y => { y with formed := es ++ fs }) (releaseHeld g s)).fns.length = 32 := by
    rw [← hlength.trans hfns]
    simp [modInt, modFn]
  rw [hwrites]
  obtain ⟨hput, hformed', hout⟩ := putRecord_puts (g := g) (r := e.ring) (e := e) hfns' (hopen'.trans hopen) hbase
  refine ⟨?_, hput, hout⟩
  rw [getFn_modInt (hlength.trans hfns)] at hformed'
  exact (List.prefix_append es fs).trans hformed'

/-- While the function stalls, the first formed record is held (R353). -/
theorem writeEventRecord_holds {es : List EvRec} (hfns : s.fns.length = 32) (hformed : (getFn s g).int.formed = e :: es)
    (hstalled : fnStalled s g = true) (hopen : dmaOpen s = true) (hroom : (getFn s g).int.held.length < 4096) :
    writeEventRecord g s = modInt g (fun x => { x with held := x.held ++ [e] })
      (modInt g (fun y => { y with formed := es }) s) := by
  unfold writeEventRecord
  rw [if_neg (by rw [hopen]; decide), if_pos hstalled, hformed]
  dsimp only
  unfold holdRecord
  rw [if_pos (by rw [getFn_modInt hfns]; exact hroom)]

end Rings

section Registers
variable {s t : State} {g : Fun}

/-- The registers of a function's interrupts after a write and the run of its weir that follows. -/
theorem runWeir_modInt (hfns : s.fns.length = 32) {f : IntSt → IntSt} {before : State} :
    ∃ w n es, (getFn (runWeir g before (modInt g f s)) g).int =
      { f (getFn s g).int with weir := w, weirGtc := n, formed := (f (getFn s g).int).formed ++ es } := by
  obtain ⟨w, n, pme, es, h⟩ := runWeir_weirRan (g := g) (k := g) (before := before) (s := modInt g f s)
  rw [getFn_modInt hfns] at h
  exact ⟨w, n, es, by rw [h]⟩

/-- A weir that opens leaves what any run of it leaves. -/
theorem openWeir_weirRan {before : State} : WeirRan (getFn s g) (getFn (openWeir g before s) g) := by
  unfold openWeir
  extract_lets s1 c s2
  have hint : WeirRan (getFn s g) (getFn s1 g) :=
    modFn_weirRan fun x => ⟨.opened, x.int.weirGtc, x.cfg.pmeStatus, [], by simp⟩
  have hpme : WeirRan (getFn s1 g) (getFn s2 g) := by
    unfold s2
    split
    · exact modFn_weirRan (s := s1) fun x => ⟨x.int.weir, x.int.weirGtc, true, [], by simp⟩
    · exact WeirRan.refl _
  exact (hint.trans hpme).trans (settleIntx_onlyForms.weirRan g)

/-- The masks that a write of qword `k` leaves (R361, R363). -/
def masked (k : Fin 5) (v : U64) (m : BitVec 320) : BitVec 320 :=
  ((m &&& ~~~ sourceBits k (BitVec.allOnes 64)) ||| sourceBits k v) &&& validSources

/-- A mask write leaves its masks and every latch, whether one more interrupt leaves or not (R361). -/
theorem writeMask_int (hfns : s.fns.length = 32) {k : Fin 5} {v : U64} :
    (getFn (writeMask g k v s) g).int.latches = (getFn s g).int.latches ∧
      (getFn (writeMask g k v s) g).int.masks = masked k v (getFn s g).int.masks := by
  have hmask : getFn (modInt g (fun x => { x with masks := masked k v x.masks }) s) g = { getFn s g with
      int := { (getFn s g).int with masks := masked k v (getFn s g).int.masks } } := getFn_modInt hfns g _
  have hran (t : State) (ht : WeirRan (getFn (modInt g (fun x => { x with masks := masked k v x.masks }) s) g)
      (getFn t g)) : (getFn t g).int.latches = (getFn s g).int.latches ∧
        (getFn t g).int.masks = masked k v (getFn s g).int.masks := by
    rw [hmask] at ht
    exact ⟨ht.int.2.1, ht.int.2.2.1⟩
  refine hran _ ?_
  unfold writeMask
  extract_lets s1 may s2
  have hdraw : WeirRan (getFn s1 g) (getFn s2 g) := by
    unfold s2
    split <;> exact WeirRan.refl _
  split
  · refine (hdraw.trans (openWeir_weirRan (before := s))).trans (WeirRan.trans ?_ runWeir_weirRan)
    split
    · exact WeirRan.refl _
    · exact count_onlyForms.weirRan g
  · exact hdraw.trans runWeir_weirRan

theorem getLsbD_sourceBits {k : Fin 5} {v : U64} {i : Nat} (hi : i < 320) :
    (sourceBits k v).getLsbD i = (decide (i / 64 = k.val) && v.getLsbD (i % 64)) := by
  have hk := k.isLt
  rw [sourceBits, BitVec.getLsbD_shiftLeft, BitVec.getLsbD_setWidth]
  by_cases hlow : i < 64 * k.val
  · simp [hlow, show i / 64 ≠ k.val by omega]
  · by_cases hin : i / 64 = k.val
    · have hmod : i - 64 * k.val = i % 64 := by omega
      simp [hi, hin, hmod, hlow]
      omega
    · have hout : 64 ≤ i - 64 * k.val := by omega
      simp [hin, hlow, BitVec.getLsbD_of_ge v _ hout]

/-- A mask write sets exactly the bits of its qword that stand for sources (R361, R363). -/
theorem getLsbD_masked {k : Fin 5} {v : U64} {m : BitVec 320} {i : Nat} (hi : i < 320) :
    (masked k v m).getLsbD i = if i / 64 = k.val then decide (i < 259) && v.getLsbD (i % 64)
      else decide (i < 259) && m.getLsbD i := by
  have hvalid : validSources.getLsbD i = decide (i < 259) := by
    rw [validSources, BitVec.getLsbD_setWidth, BitVec.getLsbD_allOnes]
    simp [hi]
  rw [masked, BitVec.getLsbD_and, BitVec.getLsbD_or, BitVec.getLsbD_and, BitVec.getLsbD_not, getLsbD_sourceBits hi,
    getLsbD_sourceBits hi, hvalid, BitVec.getLsbD_allOnes]
  by_cases hin : i / 64 = k.val
  · simp [hin, hi, Nat.mod_lt, Bool.and_comm]
  · simp [hin, hi, Bool.and_comm]

/-- The other bits of the hints stay (R359). -/
theorem takeHint_idle_other {d : Die} {idle : Bool} {k : Nat} (hk : k ≠ d.val) :
    (takeHint d idle s).idle.getLsbD k = s.idle.getLsbD k := by
  rw [takeHint_idle]
  by_cases hin : k < 4
  · have hbit := getLsbD_one_shiftLeft (n := 4) (k := d.val) hin
    cases idle with
    | true => rw [if_pos rfl, BitVec.getLsbD_or, hbit]; simp [hk]
    | false => rw [if_neg (by decide), BitVec.getLsbD_and, BitVec.getLsbD_not, hbit]; simp [hk, hin]
  · rw [BitVec.getLsbD_of_ge _ _ (by omega), BitVec.getLsbD_of_ge _ _ (by omega)]

/-- A weir whose delay is over opens (R357). -/
theorem runWeir_opens (hfns : s.fns.length = 32) (hawake : s.power.phase = .awake) (hnext : weirNext s g = .opened)
    {before : State} : (getFn (runWeir g before s) g).int.weir = .opened := by
  have hset : (getFn (modInt g (fun x => { x with
      weir := .opened
      weirGtc := if (getFn s g).int.weir == .idle && Weir.opened != .idle then s.gtc else x.weirGtc }) s) g).int.weir =
      .opened := by rw [getFn_modInt hfns]
  unfold runWeir
  rw [if_neg (by simp [hawake]), hnext]
  extract_lets w was s1 f s2
  have hpme : (getFn s2 g).int.weir = .opened := by
    unfold s2
    split
    · rcases getFn_modFn_cases (s := s1) g g (fun x => { x with cfg := { x.cfg with pmeStatus := true } }) with h | h <;>
        exact (congrArg (fun x => x.int.weir) h).trans hset
    · exact hset
  obtain ⟨es, hes⟩ := settleIntx_onlyForms (s := s2) (before := before) (p := portOf g) g
  rw [hes]
  exact hpme

end Registers

/-- Settles O47: the record in turn, then each register of rings and interrupts through its write and the run of the weir
that follows it. -/
theorem eventsAndWeir : Obligations.EventsAndWeir := by
  unfold Obligations.EventsAndWeir
  intro s g hs
  refine ⟨fun e es hformed => ⟨fun y hstalled hheld hy hover hroom hbase hopen => ?puts, fun hstalled hopen hroom => ?holds⟩,
    fun hopen => ⟨fun r v y hy => ⟨fun hreach hover => ?consumes, fun hbeyond => ?refuses⟩,
      fun k v => ⟨?clears, ?masks⟩, fun v => ?moderates⟩, fun hphase => ?sleeps, fun hphase hweir hsummary hdelay => ?opens,
    fun d idle => Gives.of_eq rfl rfl ⟨takeHint_idle_getLsbD d idle s, fun k hk => takeHint_idle_other hk⟩⟩
  case puts =>
    exact Gives.of_eq rfl rfl (writeEventRecord_puts hs.fns hformed hstalled hheld hy hover hroom hbase hopen)
  case holds =>
    refine Gives.of_eq rfl (writeEventRecord_holds hs.fns hformed hstalled hopen hroom) ⟨?_, ?_⟩
    · rw [getFn_modInt (by simpa [modInt, modFn] using hs.fns), getFn_modInt hs.fns]
    · exact modInt_frame (by decide) (modInt_frame (by decide) (SameBut.refl _ s))
  case consumes =>
    have hset : getRing (setRing g r.toNat { y with consumer := v } s) g r.toNat = some { y with consumer := v } :=
      getRing_setRing hs.fns
    refine Gives.of_eq rfl (t := setRing g r.toNat { y with consumer := v } s) ?_
      ⟨hset, setRing_frame (by decide) (SameBut.refl _ s)⟩
    rw [barWrite, if_pos hopen, writeConsumer, hy]
    dsimp only
    rw [if_neg (by omega), tryOverflow, hset]
    exact if_neg (by simp [hover])
  case refuses =>
    refine Gives.of_eq rfl (t := countFn g 0x01 s) ?_ ⟨?_, counted_count s _ _⟩
    · rw [barWrite, if_pos hopen, writeConsumer, hy]
      exact if_pos hbeyond
    · obtain ⟨es, hes⟩ := count_onlyForms (s := s) (index := 0xD100 + g.val) (sub := 0x01) g
      rw [countFn, getRing, hes, ← hy, getRing]
  case clears =>
    refine Gives.of_eq rfl (if_pos hopen) ?_
    obtain ⟨w, n, es, h⟩ := runWeir_modInt (g := g) (before := s) hs.fns (f := fun x => { x with
      latches := x.latches &&& ~~~ sourceBits k v })
    rw [clearLatches, h]
    exact ⟨rfl, rfl⟩
  case masks =>
    refine Gives.of_eq rfl (if_pos hopen) ?_
    obtain ⟨hlatches, hmasks⟩ := writeMask_int (g := g) (k := k) (v := v) hs.fns
    rw [hmasks]
    exact ⟨hlatches, fun i hi => getLsbD_masked hi⟩
  case moderates =>
    refine Gives.of_eq rfl (if_pos hopen) ?_
    have htarget : (setTargetDie g (field v.toNat 23 22) s).fns.length = 32 ∧
        (getFn (setTargetDie g (field v.toNat 23 22) s) g).int.targetDie =
          if portOf g = 0 then Fin.ofNat 4 (field v.toNat 23 22) else (getFn s g).int.targetDie := by
      unfold setTargetDie
      by_cases hp : portOf g = 0
      · obtain ⟨w, n, es, h⟩ := runWeir_modInt (g := g) (before := s) hs.fns (f := fun x => { x with
          targetDie := Fin.ofNat 4 (field v.toNat 23 22) })
        rw [if_pos hp, if_pos hp, h]
        exact ⟨((runWeir_frame (L := [.counters, .intx, .fnCfg, .int, .out]) (by decide)
          (modInt_frame (by decide) (SameBut.refl _ s))).fns_length (by decide)).trans hs.fns, rfl⟩
      · rw [if_neg hp, if_neg hp]
        exact ⟨hs.fns, rfl⟩
    obtain ⟨w, n, es, h⟩ := runWeir_modInt (g := g) (before := setTargetDie g (field v.toNat 23 22) s) htarget.1
      (f := fun x => { x with delayNs := min (field v.toNat 19 0) 1000000 })
    unfold setDelay
    rw [h]
    refine ⟨by simp [field], fun hp => ?_, fun hp => ?_⟩
    · rw [htarget.2, if_pos hp]
      simp [field, Nat.shiftRight_eq_div_pow]
    · rw [htarget.2, if_neg hp]
  case sleeps =>
    refine congrArg Host.Outcome.next ?_
    unfold runWeir
    exact if_pos hphase
  case opens =>
    refine Gives.of_eq rfl rfl ⟨runWeir_opens hs.fns hphase ?_, runWeir_weirRan.int.2.1⟩
    unfold weirNext
    dsimp only
    rw [hsummary, hweir, if_neg (by decide)]
    exact if_pos (Bool.or_eq_true_iff.2 (.inr (decide_eq_true hdelay)))

end Sys2Proof.Machine
end

section
/-!
SUPPORT and CLAIM. Waits on fences and mirrors of fences (04_objects_lifecycle, R151, R152): the obligation O30.
-/
namespace Sys2Proof.Machine

section Fences
variable {s t : State}

/-- Upstream writes are issued while no fatal state holds the package (R387). -/
theorem dmaOpen_of_not_packageHeld (h : packageHeld s = false) : dmaOpen s = true := by
  simp only [packageHeld, Bool.or_eq_false_iff] at h
  obtain ⟨⟨⟨hfatal, -⟩, -⟩, -⟩ := h
  rw [dmaOpen, Bool.or_eq_true]
  exact .inl (by simpa using hfatal)

theorem waitingCmd_ctx {c : CtxId} {x : Cmd} (h : waitingCmd s c = some x) : x.ctx = c ∧ x.registered = true := by
  simpa using List.find?_some (p := fun x : Cmd => x.ctx == c && x.registered) h

/-- A wait whose fence has reached its value is over (R151). -/
theorem releaseWait_reached {c : CtxId} {x : Cmd} {r : FenceRef} {o : MemObj} (hx : waitingCmd s c = some x)
    (hr : (waitRefs x.raw)[x.waits]? = some r) (ho : fenceWord s r.handle r.word = some o)
    (hclean : poisoned s (lineOf (fenceAddr o r.word)) 64 = false) (hreached : r.value ≤ fenceValue s o r.word) :
    releaseWait c s = modCmd c x.q (fun y => { y with waits := y.waits + 1, registered := false }) s := by
  unfold releaseWait
  rw [hx]
  dsimp only
  rw [hr]
  dsimp only
  rw [ho]
  dsimp only
  rw [if_neg (by rw [hclean]; decide), if_pos hreached]

/-- An owed mirror write goes to its place on the owner's port, and is owed no more (R152). -/
theorem writeMirror_writes {slot word : Nat} {o : MemObj} {v : U64} (ho : obj? s slot = some o)
    (hm : (s.obj.mirrors.find? fun m => m.1 == slot && m.2.1 == word) = some (slot, word, v))
    (hstalled : fnStalled s o.owner = false) (hheld : packageHeld s = false) (halign : o.mirrorBase % 8 = 0) :
    writeMirror slot word s = emit (.write (portOf o.owner) (o.mirrorBase + 8 * word) none (leBytes 8 v.toNat))
      { s with obj := { s.obj with
        mirrors := s.obj.mirrors.filter fun m => !(m.1 == slot && m.2.1 == word) } } := by
  unfold writeMirror
  rw [ho, hm]
  dsimp only
  rw [if_neg (by rw [hstalled, hheld]; decide)]
  have hlength : (leBytes 8 v.toNat).length = 8 := by simp
  exact hostWrite_single (s := { s with obj := { s.obj with
    mirrors := s.obj.mirrors.filter fun m => !(m.1 == slot && m.2.1 == word) } })
    (dmaOpen_of_not_packageHeld hheld) (by omega) (by omega) (by omega)

end Fences

/-- Settles O30: the wait that is over and the write that was owed. -/
theorem fenceWaits : Obligations.FenceWaits := by
  unfold Obligations.FenceWaits
  intro s hs
  refine ⟨fun c x r o hx hr ho hclean hreached => ?wait, fun slot word o v ho hm hstalled hheld halign => ?mirror⟩
  case wait =>
    refine Gives.of_eq rfl (releaseWait_reached hx hr ho hclean hreached)
      ⟨modCmd_frame (by decide) (SameBut.refl _ s), ?_⟩
    simp only [modCmd, Bool.and_eq_true, beq_iff_eq]
  case mirror =>
    refine Gives.of_eq rfl (writeMirror_writes ho hm hstalled hheld halign)
      ⟨List.mem_cons_self, fun m hm' hsame => ?_, ?_⟩
    · have hkept := (List.mem_filter.1 hm').2
      simp [hsame] at hkept
    · refine emit_frame (by decide) ⟨rfl, rfl, fun p hp => ?_⟩
      cases p
      case slots => exact absurd (by decide) hp
      all_goals rfl

end Sys2Proof.Machine
end

section
/-!
SUPPORT and CLAIM. The invariant does not ask that a queue index names one command. With two commands under one index the
last part of O31 fails: what the dispatched index then reads is the first command, and not the head that was dispatched.
-/
namespace Sys2Proof.Machine

section Reset
variable {f : FnCfg → FnCfg}

/-- The reset state with the configuration of function 0, the contexts and the commands chosen. -/
def stateWith (f : FnCfg → FnCfg) (ctxs : List (CtxId × Ctx)) (cmds : List Cmd) : State :=
  let s := modCfg 0 f State.reset
  { s with obj := { s.obj with ctxs := ctxs }, cmd := { s.cmd with table := cmds } }

theorem stateWith_inv (hf : ∀ x, CfgOk x → CfgOk (f x)) (ctxs : List (CtxId × Ctx)) (cmds : List Cmd) :
    Inv (stateWith f ctxs cmds) :=
  { (modCfg_ok (g := 0) hf (Ok.refl State.reset)).inv resetInv with }

/-- Bus Master Enable set and nothing else of Command. -/
def masterOn (x : FnCfg) : FnCfg := { x with command := 0x0004 }

theorem masterOn_ok (x : FnCfg) (h : CfgOk x) : CfgOk (masterOn x) :=
  { h with command := show (0x0004 : U16) &&& 0xFAB9 = 0 by decide }

/-- A READY context of function 0 with empty registers. -/
def readyCtx : Ctx :=
  { state := .ready, fn := 0, slot := 0, bound := true, queueBase := 0, queueLog2 := 6, eventRing := 0, rangeTable := 0,
    rootOffset := 0, pasid := 0, schedule := 0, fixed := none, head := 0, tail := 0, submitTag := 0, lostReason := .none,
    lostGtc := 0, createdGtc := 0, completed := 0, lostCompleted := 0, destroyer := none, accs := [], program0 := [] }

end Reset

/-- A NOP that has been fetched: one entry, no wait, no signal. -/
def fetchedNop : Cmd := { newCmd 0 0 0 with
  stage := .queued 0
  raw := [1, 0, 0, 0, 0, 2, 0, 1] }

/-- A command without bytes under the same index, dispatched earlier. -/
def indexTwin : Cmd := { newCmd 0 0 0 with stage := .dispatched }

def twinState : State := stateWith masterOn [(0, readyCtx)] [indexTwin, fetchedNop]

/-- Dispatch moves both commands of the index on. -/
theorem dispatchStages_twins : (dispatchStages 0 twinState).cmd.table =
    [indexTwin, { fetchedNop with stage := .dispatched }] := by decide +kernel

/-- Refutes O31: in `twinState` the head of the queue is a well-formed NOP and every condition of its dispatch holds, but
the command that its index reads afterwards has no bytes. -/
theorem not_doorbellsAndFetch : ¬ Obligations.DoorbellsAndFetch := by
  unfold Obligations.DoorbellsAndFetch
  intro h
  obtain ⟨-, -, -, -, -, hdispatch⟩ := h twinState (stateWith_inv masterOn_ok _ _)
  obtain ⟨hplain, -⟩ := hdispatch 0 fetchedNop readyCtx (by decide +kernel) rfl rfl (by decide +kernel) (by decide +kernel)
    rfl rfl (by decide +kernel)
  obtain ⟨t, ht, ⟨y, hy, hraw⟩, -⟩ := hplain rfl (by decide +kernel) rfl rfl (by decide) rfl
  have hstate : t = dispatchStages 0 twinState := (Host.Outcome.next.inj ht).symm
  have htwin : cmd? t 0 0 = some indexTwin := by
    rw [hstate, cmd?, dispatchStages_twins]
    rfl
  rw [show fetchedNop.q = 0 from rfl, htwin] at hy
  cases hy
  exact absurd hraw (by decide)

end Sys2Proof.Machine
end

section
/-!
SUPPORT and CLAIM. The invariant does not ask that the tags of a port stand in rising order, which the choice of the
lowest free tag relies on. With tags out of order O21 fails: the tag that a freed one lets a waiting request take is
already out.
-/
namespace Sys2Proof.Machine

/-- A read that is out under a tag. -/
def readUnder (tag : ReqTag) (quarantined : Bool) : TagUse :=
  { tag := tag, fn := 0, use := .image, pasid := none, address := 0, offset := 0, bytes := 64, pieces := [], since := 0,
    quarantined := quarantined, timedOut := false }

/-- Tags 5 and 0 are out in this order behind a quarantined one, and a request waits for a tag. -/
def unsortedTags : State := modPort 0 (fun x => { x with
  tags := [readUnder 7 true, readUnder 5 false, readUnder 0 false]
  waits := [⟨0, .entry 0, none, 4096, 0, 64⟩] }) State.reset

theorem unsortedTags_inv : Inv unsortedTags := (modPort_ok (Ok.refl State.reset)).inv resetInv

/-- The freed tag lets the waiting request go, under tag 0, which is out. -/
theorem tag_zero_taken_twice : tag? (completionArrives 0 7 .success false 0 [] unsortedTags) 0 0 =
    some { readUnder 0 false with use := .entry 0, address := 4096 } := by decide +kernel

/-- Refutes O21: in `unsortedTags` a completion for the quarantined tag 7 changes the use of tag 0, which is out. -/
theorem not_hostReadsAndRegisters : ¬ Obligations.HostReadsAndRegisters := by
  unfold Obligations.HostReadsAndRegisters
  intro h
  obtain ⟨-, hlate, -⟩ := h unsortedTags unsortedTags_inv
  obtain ⟨t, ht, ⟨-, -, hkept⟩, -⟩ := hlate 0 7 (readUnder 7 true) .success false 0 [] (by decide +kernel) rfl
  have hstate : t = completionArrives 0 7 .success false 0 [] unsortedTags := (Host.Outcome.next.inj ht).symm
  have hzero := hkept 0 (readUnder 0 false) (by decide) (by decide +kernel)
  rw [hstate, tag_zero_taken_twice] at hzero
  exact absurd hzero (by decide)

end Sys2Proof.Machine
end

section
/-!
SUPPORT and CLAIM. The invariant does not ask that the second copy of an object lies beside its first. With a copy that
overlaps the line it belongs to, O32 fails: writing the copy through changes the bytes that a WRITE_VALUE has just written.
-/
namespace Sys2Proof.Machine

/-- A fixed schedule whose window is always open. -/
def openSchedule : FixedSt :=
  { slotMask := 0xFFFF, engines := [], clusterBase := 0, clusterCount := 0, scratch := [], logMode := .off, moraine := 0,
    replayAnchor := 0, cycleExact := true, toLog := [], overflowed := false, live := false, stalled := false,
    replayWaits := [], cursor := 0, paired := 0, setAside := [], logWrites := [], gone := [] }

def fixedCtx : Ctx := { readyCtx with fixed := some openSchedule }

/-- A locked entry of context 0 for the first granule, over the pool's first bytes. -/
def firstEntry : REntry :=
  { id := 0, who := .ctx 0, start := 0, len := 1, ttype := 1, sharedRo := false, coherent := false, table := 0, root := 0,
    base := 0, pasid := 0, object := none, viaGrant := none, fenceObj := false, effR := true, effW := true, effA := true,
    referenced := false, locked := true }

/-- An object at the pool's first bytes whose second copy begins 4 bytes behind it. -/
def overlappedObj : MemObj :=
  { slot := 0, gen := 0, owner := 0, ctx := none, bytes := 4096, shared := false, mirrored := true, fence := false, ring := 0,
    mirrorBase := 0, base := 0, mirrorSpan := some 4, grants := [], freed := false, freer := none, changes := [] }

/-- A WRITE_VALUE of 1 to address 8 that runs. -/
def writeOfOne : Cmd := { newCmd 0 0 0 with
  stage := .dispatched
  raw := [2, 0, 0, 0, 0, 2, 0, 1, 0, 0, 0, 0, 0, 0, 0, 0, 8, 0, 0, 0, 0, 0, 0, 0, 1, 0, 0, 0, 0, 0, 0, 0] }

def overlapState : State :=
  let u := stateWith masterOn [(0, fixedCtx)] [writeOfOne]
  { u with
    obj := { u.obj with objs := [overlappedObj] }
    trans := { u.trans with banks := [[firstEntry], [], [], [], [], [], [], []] } }

theorem overlapState_inv : Inv overlapState :=
  { stateWith_inv masterOn_ok [(0, fixedCtx)] [writeOfOne] with banks := rfl }

/-- The run that the operand translates to. -/
def writtenRun : Run := ⟨0, 8, 8, .pool 8, none, 0⟩

/-- The state in which the operand is translated. -/
def overlapTranslated : State := (translateSide (.ctx 0) .write [(0, bodyQ writeOfOne.raw 0, 8)] overlapState).1

theorem overlap_translates : translateSide (.ctx 0) .write [(0, bodyQ writeOfOne.raw 0, 8)] overlapState =
    (overlapTranslated, .ok [writtenRun]) := by
  have hruns : (translateSide (.ctx 0) .write [(0, bodyQ writeOfOne.raw 0, 8)] overlapState).2.toOption =
      some [writtenRun] := by decide +kernel
  cases h : translateSide (.ctx 0) .write [(0, bodyQ writeOfOne.raw 0, 8)] overlapState with
  | mk u r =>
    rw [h] at hruns
    cases r with
    | error e => cases hruns
    | ok runs =>
      cases hruns
      rw [overlapTranslated, h]

/-- The write leaves the value 4 bytes behind its place. -/
theorem overlap_written : ∀ t, exec (.writeValue 0 0) overlapState = .next t →
    poolBytes t 8 8 = [0, 0, 0, 0, 1, 0, 0, 0] := by
  intro t ht
  have hstate : t = withCmd 0 0 0x0002 (runWrite fun x _ => bodyQ x.raw 1) overlapState :=
    (Host.Outcome.next.inj ht).symm
  rw [hstate]
  decide +kernel

/-- Refutes O32: in `overlapState` every condition of the WRITE_VALUE holds, and its bytes do not read as written. -/
theorem not_commandEffects : ¬ Obligations.CommandEffects := by
  unfold Obligations.CommandEffects
  intro h
  obtain ⟨-, hwrite, -⟩ := h overlapState 0 0 writeOfOne fixedCtx overlapState_inv
  obtain ⟨hvalue, -⟩ := hwrite overlapTranslated writtenRun 8 overlap_translates rfl rfl rfl rfl (by decide +kernel)
    (by decide +kernel) (by decide +kernel)
  obtain ⟨t, ht, -, hbytes, -⟩ := hvalue ⟨by decide +kernel, by decide +kernel, rfl, by decide, rfl, by decide +kernel,
    by decide +kernel, by decide +kernel, by decide +kernel⟩
  rw [overlap_written t ht] at hbytes
  exact absurd hbytes (by decide)

end Sys2Proof.Machine
end

section
/-!
SUPPORT and CLAIM. Translations of the host, walker groups and pool extents (06_translation, R206, R219 to R221;
09_memory_pool, R464): what keeping and forgetting a translation leaves of a port, and the obligation O35.
-/
namespace Sys2Proof.Machine

section HostTranslations
variable {s t : State} {p : Port} {tag : ReqTag} {u : TagUse} {e : AtsEntry}

/-- What every application of a fold's function keeps, the fold keeps. -/
theorem foldState_keeps {α : Type} {P : State → Prop} {f : α → State → State} (hf : ∀ a t, P t → P (f a t))
    (l : List α) (h : P s) : P (foldState f l s) := by
  induction l generalizing s with
  | nil => exact h
  | cons a l ih => exact ih (hf a s h)

theorem freeTagOf_of_no_waits (hports : s.ports.length = 4) (hw : (getPort s p).waits = []) :
    freeTagOf p tag s = modPort p (fun x => { x with
      tags := x.tags.filter fun u => u.tag != tag
      atsHolds := x.atsHolds.map fun h => { h with waits := h.waits.filter (· != tag) } }) s := by
  unfold freeTagOf serveWaits
  rw [getPort_modPort hports]
  dsimp only
  rw [hw]
  rfl

theorem tag?_none_iff : tag? s p tag = none ↔ ∀ u ∈ (getPort s p).tags, u.tag ≠ tag := by
  simp [tag?]

/-- The reads dropped with a translation keep their tags (R221). -/
theorem staleReads_tag_none {g : Fun} {c : CtxId} {use : ReadUse} {hit : Nat → Nat → Bool} (h : tag? s p tag = none) :
    tag? (staleReads g c use hit s) p tag = none := by
  rw [tag?_none_iff] at h ⊢
  unfold staleReads
  rcases getPort_modPort_cases (s := s) (portOf g) p (fun p => { p with
      tags := p.tags.map fun t =>
        if t.use == use && !t.quarantined && hit t.offset t.bytes then { t with use := .stale c } else t
      waits := p.waits.filter fun w => !(w.use == use && hit w.offset w.bytes) }) with hp | hp <;> rw [hp]
  case inr => exact h
  case inl =>
    intro u hu
    obtain ⟨v, hv, rfl⟩ := List.mem_map.1 hu
    split
    · exact h v hv
    · exact h v hv

theorem dropReads_tag_none {g : Fun} {c : CtxId} {q : Nat} {hit : Nat → Nat → Bool} (h : tag? s p tag = none) :
    tag? (dropReads g c q hit s) p tag = none := by
  unfold dropReads
  exact staleReads_tag_none h

theorem forgetAts_tag_none (hports : s.ports.length = 4) {hit : AtsEntry → Bool} (h : tag? s p tag = none) :
    tag? (forgetAts p hit s) p tag = none := by
  unfold forgetAts
  extract_lets gone s1
  have h1 : tag? s1 p tag = none := by rw [← h]; simp only [tag?, s1]; rw [getPort_modPort hports]
  split
  · exact h1
  · refine foldState_keeps (P := fun t => tag? t p tag = none) (fun x t ht => ?_) _ h1
    split
    · split
      · exact dropReads_tag_none ht
      · exact ht
    · exact ht

theorem forgetAts_ports_length (p : Port) (hit : AtsEntry → Bool) (s : State) :
    (forgetAts p hit s).ports.length = s.ports.length := by
  have hlinks := (forgetAts_frame (L := [.requests, .ats, .cmds]) (p := p) (hit := hit) (by decide)
    (SameBut.refl _ s)).2.2 .links (by decide)
  simpa using congrArg List.length hlinks

/-- Translations kept are the most recent of their port (R220). -/
theorem atsKeep_head (hports : s.ports.length = 4) : (getPort (atsKeep p e s) p).ats.head? = some e := by
  unfold atsKeep
  extract_lets rest s1
  have h1 : s1.ports.length = 4 := by
    simp only [s1]
    split
    · exact (forgetAts_ports_length ..).trans hports
    · exact hports
  rw [getPort_modPort h1]
  rfl

theorem atsKeep_tag_none (hports : s.ports.length = 4) (h : tag? s p tag = none) :
    tag? (atsKeep p e s) p tag = none := by
  unfold atsKeep
  extract_lets rest s1
  have h1 : tag? s1 p tag = none := by
    simp only [s1]
    split
    · exact forgetAts_tag_none hports h
    · exact h
  rw [← h1]
  rcases getPort_modPort_cases p p (s := s1) (fun x => { x with
      ats := e :: (x.ats.filter fun y => !(y.pasid == e.pasid && y.address == e.address)) }) with hp | hp <;>
    rw [tag?, hp, tag?]

/-- A successful translation for both kinds of access frees its tag and is kept (R220). -/
theorem atsCompletes_kept {pasid : BitVec 20} {a translated : Nat} (ht : tag? s p tag = some u)
    (hq : u.quarantined = false) (huse : u.use = .ats pasid a) (hb : u.bytes ≠ 0) :
    atsCompletes p tag .success translated true true s =
      atsKeep p ⟨u.fn, pasid, a, translated, true, true⟩ (freeTagOf p tag s) := by
  simp [atsCompletes, ht, hq, huse, hb]

theorem atsCompletion_gives (hinv : Inv s) {pasid : BitVec 20} {a : Nat} {translated : U64} (ht : tag? s p tag = some u)
    (hq : u.quarantined = false) (huse : u.use = .ats pasid a) (hb : u.bytes ≠ 0) :
    Gives (.atsTranslationCompletion p tag .success translated true true) s fun t =>
      (getPort t p).ats.head? = some ⟨u.fn, pasid, a, translated.toNat, true, true⟩ ∧
      ((getPort s p).waits = [] → tag? t p tag = none ∧ SameBut [.requests, .ats, .cmds] s t) := by
  refine Gives.of_eq rfl (atsCompletes_kept ht hq huse hb) ⟨atsKeep_head ?_, fun hw => ?_⟩
  · exact ((freeTagOf_ok (Ok.refl s)).inv hinv).ports
  · rw [freeTagOf_of_no_waits hinv.ports hw]
    have hport := getPort_modPort hinv.ports p (s := s) (fun x => { x with
      tags := x.tags.filter fun u => u.tag != tag
      atsHolds := x.atsHolds.map fun h => { h with waits := h.waits.filter (· != tag) } })
    refine ⟨atsKeep_tag_none ?_ ?_, atsKeep_frame (by decide) ?_⟩
    · exact (List.length_modify ..).trans hinv.ports
    · rw [tag?_none_iff, hport]
      intro u hu
      simpa using (List.mem_filter.1 hu).2
    · exact modPort_frame (.inl fun _ => rfl) (.inl fun _ => rfl) (.inr (by decide)) (.inr (by decide)) (SameBut.refl _ s)

/-- An Invalidate Request is counted, leaves the translations that it does not cover, and is held for the reads that
are out with one that it does (R221). -/
theorem atsInvalidate_gives (hinv : Inv s) (itag : Fin 32) (pasid : BitVec 20) (a : U64) (n : Nat) :
    let unit := (fnsOf p).foldl (fun m g => max m (stuBytes s g)) 4096
    Gives (.atsInvalidateRequest p itag pasid a n) s fun t => Counted s t (0xD010 + p.val) 6 ∧
      (∀ e, e ∈ (getPort t p).ats ↔ e ∈ (getPort s p).ats ∧
        ¬(e.pasid = pasid ∧ spansMeet e.address unit a.toNat n = true)) ∧
      ∃ h ∈ (getPort t p).atsHolds, h.itag = itag.val ∧ ∀ e ∈ (getPort s p).ats, e.pasid = pasid →
        spansMeet e.address unit a.toNat n = true → ∀ u ∈ (getPort s p).tags, u.timedOut = false →
        (∀ x y, u.use ≠ .ats x y) → u.pasid = some pasid → spansMeet e.address unit u.address u.bytes = true →
        u.tag ∈ h.waits := by
  intro unit
  let hit (x : BitVec 20) (b : Nat) : Bool := x == pasid && spansMeet b unit a.toNat n
  let dropped := (getPort s p).ats.filter fun e => hit e.pasid e.address
  let waits := (getPort s p).tags.filter fun u => !u.timedOut && (match u.use with
    | .ats _ _ => false
    | _ => u.pasid == some pasid && dropped.any fun e => spansMeet e.address unit u.address u.bytes)
  let u := forgetAts p (fun e => hit e.pasid e.address) s
  have hcounters : u.counters = s.counters :=
    (forgetAts_frame (L := [.requests, .ats, .cmds]) (by decide) (SameBut.refl _ s)).2.2 .counters (by decide)
  have hats : (getPort u p).ats = (getPort s p).ats.filter fun e => !hit e.pasid e.address := forgetAts_ats hinv.ports
  have hports : u.ports.length = 4 := (forgetAts_ports_length ..).trans hinv.ports
  obtain ⟨f, hf, hfats, hfholds⟩ : ∃ f : PortSt → PortSt, atsInvalidate p itag.val pasid a.toNat n s =
      countPort p 6 (modPort p f u) ∧ (∀ x, (f x).ats = x.ats) ∧ ∀ x, (f x).atsHolds =
        (x.atsHolds.filter fun h => h.itag != itag.val) ++ [⟨itag.val, waits.map (·.tag)⟩] :=
    ⟨_, rfl, fun _ => rfl, fun _ => rfl⟩
  have hport : getPort (countPort p 6 (modPort p f u)) p = f (getPort u p) :=
    (SameBut.getPort (countPort_frame (L := [.counters, .int]) (by decide) (SameBut.refl _ _)) (by decide) p).trans
      (getPort_modPort hports p f)
  refine Gives.of_eq rfl hf ⟨?_, fun e => ?_, ⟨itag.val, waits.map (·.tag)⟩, ?_, rfl, ?_⟩
  · have hcounted := counted_count (modPort p f u) (0xD010 + p.val) 6
    rw [Counted, modPort_counters, hcounters] at hcounted
    exact hcounted
  · rw [hport, hfats, hats, List.mem_filter]
    simp [hit, unit, Decidable.imp_iff_not_or]
  · rw [hport, hfholds]
    simp
  · intro e he hpasid hmeet w hw htimed huse hwp hwm
    refine List.mem_map.2 ⟨w, List.mem_filter.2 ⟨hw, ?_⟩, rfl⟩
    have hdropped : e ∈ dropped := List.mem_filter.2 ⟨he, by simp [hit, hpasid, unit] at hmeet ⊢; exact hmeet⟩
    have hany : (dropped.any fun e => spansMeet e.address unit w.address w.bytes) = true :=
      List.any_eq_true.2 ⟨e, hdropped, hwm⟩
    have hused : (match w.use with
      | .ats _ _ => false
      | _ => w.pasid == some pasid && dropped.any fun e => spansMeet e.address unit w.address w.bytes) = true := by
      split
      · rename_i x y hxy; exact absurd hxy (huse x y)
      · rw [hwp, hany]; simp
    rw [htimed]
    exact hused

theorem atsInvalidation_completes (hports : s.ports.length = 4) {itag : Fin 32} {h : AtsHold}
    (hfind : ((getPort s p).atsHolds.find? fun x => x.itag == itag.val) = some h) (hw : h.waits = []) :
    Gives (.atsInvalidationCompletion p itag) s fun t => .atsInvalidated p itag.val ∈ t.out ∧
      (∀ x ∈ (getPort t p).atsHolds, x.itag ≠ itag.val) ∧ (getPort t p).ats = (getPort s p).ats := by
  have heq : execAtsInvalidationCompletion p itag s = .next (emit (.atsInvalidated p itag.val) (modPort p (fun x => { x with
        atsHolds := x.atsHolds.filter fun y => y.itag != itag.val }) s)) := by
    simp [execAtsInvalidationCompletion, hfind, hw]
  refine ⟨_, heq, by simp, ?_⟩
  rw [show getPort (emit (.atsInvalidated p itag.val) (modPort p (fun x => { x with
        atsHolds := x.atsHolds.filter fun y => y.itag != itag.val }) s)) p = _ from getPort_modPort hports p _]
  exact ⟨fun x hx => by simpa using (List.mem_filter.1 hx).2, rfl⟩

end HostTranslations

section Extents
variable {s : State} {rq : Requester} {g : Fun} {b n : U64}

/-- The extent's objects are 8-byte numbers (09, R464). -/
theorem extent_row : ∀ g : Fun, ∃ r, rowOf ⟨0x3100 + g.val, 2⟩ = some r ∧ typeLen r.ty = some 8 := by
  decide +kernel

theorem putObj_out {ref : Ref} {v : Val} : (putObj ref v s).out = s.out :=
  (putObj_frame (L := [.od, .stored, .counters, .mgmt, .int]) (by decide) (SameBut.refl _ s)).2.2 .out (by decide)

theorem extent_bytes_accepted (h : accepts s rq ⟨0x3100 + g.val, 2⟩ (.num n.toNat)) :
    writeStatus s rq ⟨0x3100 + g.val, 2⟩ (leBytes 8 n.toNat) = .ok := by
  obtain ⟨r, hr, hlen⟩ := extent_row g
  simpa [accepts, hr, valBytesOf, hlen] using h

theorem poolExtentWrite_gives (hb : accepts s rq ⟨0x3100 + g.val, 1⟩ (.num b.toNat))
    (hn : accepts s rq ⟨0x3100 + g.val, 2⟩ (.num n.toNat)) (hr : extentRefused g (some b) (some n) s = none) :
    Gives (.poolExtentWrite rq g (some b) (some n)) s fun t => objNum t (0x3100 + g.val) 1 = b.toNat ∧
      objNum t (0x3100 + g.val) 2 = n.toNat ∧ .objectStatus rq ⟨0x3100 + g.val, 1⟩ .ok ∈ t.out := by
  refine Gives.of_eq rfl (requestWrite_accepted hb ?_) ⟨?_, ?_, ?_⟩
  · simp only [extent_bytes_accepted hn, hr]
  · rw [objNum, objVal_putObj_other (by simp), objVal_putObj]; rfl
  · rw [objNum, objVal_putObj]; rfl
  · rw [putObj_out, putObj_out]; simp

end Extents

/-- Settles O35, a clause at a time: a kept translation is the head of its port's list; an Invalidate Request is read
off what it forgets and holds; the two kinds of object are written by `putObj`. -/
theorem addressServices : Obligations.AddressServices := by
  unfold Obligations.AddressServices
  intro s hinv
  refine ⟨fun p tag u pasid a translated ht hq huse hb => atsCompletion_gives hinv ht hq huse hb,
    fun p itag pasid a n => atsInvalidate_gives hinv itag pasid a n,
    fun p itag h hfind hw => atsInvalidation_completes hinv.ports hfind hw,
    fun rq v hacc => Gives.of_eq rfl rfl (plainWrite_written hacc),
    fun rq g b n hb hn hr => poolExtentWrite_gives hb hn hr⟩

end Sys2Proof.Machine
end

section
/-!
SUPPORT. The table of commands (05_command_path, R163 to R180): which commands an operation leaves, and a command that
has ended.
-/
namespace Sys2Proof.Machine

section CommandTable
variable {s t : State} {c k : CtxId} {q p : Nat} {x y : Cmd} {st st' : CStatus} {L : List StatePart}

theorem cmd_congr (h : t.cmd.table = s.cmd.table) : cmd? t c q = cmd? s c q := by rw [cmd?, h, cmd?]

theorem SameBut.cmd? (h : SameBut L s t) (hl : .cmds ∉ L) : Machine.cmd? t c q = Machine.cmd? s c q :=
  cmd_congr (h.2.2 .cmds hl)

theorem SameBut.ctx? (h : SameBut L s t) (hl : .ctxs ∉ L) : Machine.ctx? t c = Machine.ctx? s c := by
  have hctxs : t.obj.ctxs = s.obj.ctxs := h.2.2 .ctxs hl
  rw [Machine.ctx?, hctxs, Machine.ctx?]

theorem cmd_key (h : cmd? s c q = some x) : x.ctx = c ∧ x.q = q := by
  simpa using List.find?_some h

theorem cmd_mem (h : cmd? s c q = some x) : x ∈ s.cmd.table := List.mem_of_find?_eq_some h

theorem cmd_modCmd_other (h : ¬(k = c ∧ p = q)) {f : Cmd → Cmd} (hf : ∀ x, (f x).ctx = x.ctx ∧ (f x).q = x.q) :
    cmd? (modCmd c q f s) k p = cmd? s k p := by
  simp only [Machine.cmd?, modCmd]
  rw [find_map (fun a => by
    by_cases h : (a.ctx == c && a.q == q) = true
    · simp only [h, if_true, (hf a).1, (hf a).2]
    · simp only [h, if_false, Bool.false_eq_true])]
  cases e : s.cmd.table.find? fun x => x.ctx == k && x.q == p with
  | none => rfl
  | some a =>
    have hkey : a.ctx = k ∧ a.q = p := by simpa using List.find?_some e
    have hne : (a.ctx == c && a.q == q) = false := by
      rw [hkey.1, hkey.2]
      simpa using h
    rw [Option.map_some, hne]
    rfl

theorem cmd_modCmd_some {f : Cmd → Cmd} (h : cmd? s c q = some x) (hf : ∀ x, (f x).ctx = x.ctx ∧ (f x).q = x.q) :
    cmd? (modCmd c q f s) c q = some (f x) := by rw [cmd_modCmd c q f hf, h]; rfl

/-! ### Commands that end (R179) -/

/-- A command that has ended stays as it is. -/
theorem endCmd_ended (h : cmd? s c q = some x) (hx : x.stage = .ended st') : endCmd c q st s = s := by
  simp [endCmd, h, hx]

theorem endCmd_none (h : cmd? s c q = none) : endCmd c q st s = s := by simp [endCmd, h]

/-- A command that has not ended ends with the status given. -/
theorem endCmd_ends (h : cmd? s c q = some x) (hx : ∀ z, x.stage ≠ .ended z) : Ended (endCmd c q st s) c q st := by
  unfold endCmd
  rw [h]
  dsimp only
  split
  · rename_i z hz; exact absurd hz (hx z)
  · have hwork : cmd? (if st = .success then leaveEngines c q s else stopWork x s) c q = some x := by
      rw [← h]
      refine SameBut.cmd? (L := [.engines, .peers, .windows, .out]) (SameBut.ite ?_ ?_) (by decide)
      · exact leaveEngines_frame (by decide) (SameBut.refl _ s)
      · exact stopWork_frame (by decide) (SameBut.refl _ s)
    exact ⟨_, cmd_modCmd_some hwork fun _ => ⟨rfl, rfl⟩, rfl⟩

theorem endCmd_sameBut (hsuccess : st = .success) : SameBut [.cmds, .engines] s (endCmd c q st s) := by
  unfold endCmd
  split
  · exact SameBut.refl _ s
  · split
    · exact SameBut.refl _ s
    · rw [if_pos hsuccess]
      exact modCmd_frame (by decide) (leaveEngines_frame (by decide) (SameBut.refl _ s))

theorem cmd_endCmd_other (h : ¬(k = c ∧ p = q)) : cmd? (endCmd c q st s) k p = cmd? s k p := by
  unfold endCmd
  split
  · rfl
  · rename_i x _
    split
    · rfl
    · refine Eq.trans (cmd_modCmd_other h (by exact fun _ => ⟨rfl, rfl⟩)) ?_
      refine SameBut.cmd? (L := [.engines, .peers, .windows, .out]) (SameBut.ite ?_ ?_) (by decide)
      · exact leaveEngines_frame (by decide) (SameBut.refl _ s)
      · exact stopWork_frame (by decide) (SameBut.refl _ s)

/-- The command has ended, with whatever status. -/
def HasEnded (t : State) (c : CtxId) (q : Nat) : Prop := ∃ st, Ended t c q st

theorem HasEnded.endCmd (h : HasEnded s c q) : HasEnded (Machine.endCmd k p st s) c q := by
  obtain ⟨st', y, hy, hstage⟩ := h
  by_cases hk : c = k ∧ q = p
  · obtain ⟨rfl, rfl⟩ := hk
    rw [endCmd_ended hy hstage]
    exact ⟨st', y, hy, hstage⟩
  · exact ⟨st', y, (cmd_endCmd_other hk).trans hy, hstage⟩

theorem HasEnded.restaged (h : HasEnded s c q) :
    HasEnded (modCmd k p (fun y => { y with stage := .ended st }) s) c q := by
  obtain ⟨st', y, hy, hstage⟩ := h
  by_cases hk : c = k ∧ q = p
  · obtain ⟨rfl, rfl⟩ := hk
    exact ⟨st, { y with stage := .ended st }, cmd_modCmd_some hy fun _ => ⟨rfl, rfl⟩, rfl⟩
  · exact ⟨st', y, Eq.trans (cmd_modCmd_other hk (by exact fun _ => ⟨rfl, rfl⟩)) hy, hstage⟩

theorem HasEnded.congr (h : HasEnded s c q) (hc : cmd? t c q = cmd? s c q) : HasEnded t c q := by
  obtain ⟨st, y, hy, hstage⟩ := h
  exact ⟨st, y, hc.trans hy, hstage⟩

theorem HasEnded.loseCmd {cause : List (Nat × CStatus)} (h : HasEnded s c q) : HasEnded (Machine.loseCmd cause x s) c q := by
  unfold Machine.loseCmd
  dsimp only
  split
  · split
    · exact h.endCmd
    · exact h
  · split
    · exact h.endCmd
    · exact h
  · exact h.restaged
  · exact h
  · exact h.endCmd

/-- The loss of a context leaves ended the commands that had ended. -/
theorem HasEnded.loseContext {r : LostReason} {cause : List (Nat × CStatus)} {d : U64} {i : ErrInfo} (h : HasEnded s c q) :
    HasEnded (Machine.loseContext k r cause d i s) c q := by
  unfold Machine.loseContext
  split
  · exact h
  · dsimp only
    split
    · exact h
    · have hlost : HasEnded (foldState (Machine.loseCmd cause) (s.cmd.table.filter fun y => y.ctx == k)
          (modCtx k (fun y => { y with state := .lost, lostReason := r, lostGtc := s.gtc }) s)) c q :=
        foldState_keeps (P := fun t => HasEnded t c q) (fun _ _ ht => ht.loseCmd) _ h
      refine hlost.congr (SameBut.cmd? (L := [.od, .stored, .counters, .mgmt, .links, .intx, .fnCfg, .int, .capture,
        .lookups, .err, .power, .out]) ?_ (by decide))
      refine SameBut.ite ?_ ?_
      · exact revokeCtxLeases_frame (by decide) (SameBut.refl _ _)
      · exact raiseWith_frame (by decide) (countFn_frame (by decide) (formEvent_frame (by decide)
          (revokeCtxLeases_frame (by decide) (SameBut.refl _ _))))

theorem HasEnded.faultCmd {i : ErrInfo} (h : HasEnded s c q) : HasEnded (Machine.faultCmd k p st i s) c q := by
  unfold Machine.faultCmd
  split
  · split
    · exact h.loseContext
    · exact h.endCmd
  · exact h

/-! ### The end of a command's entry (R164) -/

theorem freeEntry_gone (hx : x.ctx = c ∧ x.q = q) : cmd? (freeEntry x s) c q = none := by
  obtain ⟨rfl, rfl⟩ := hx
  rw [freeEntry, Machine.cmd?, List.find?_eq_none]
  intro y hy
  simpa [Decidable.imp_iff_not_or] using (List.mem_filter.1 hy).2

theorem drainTag_sameBut : SameBut [.engines] s (drainTag x s) := drainTag_frame (fun _ h => h) (SameBut.refl _ s)

theorem freeEntry_sameBut : SameBut [.cmds, .engines] s (freeEntry x s) := freeEntry_frame (fun _ h => h) (SameBut.refl _ s)

end CommandTable
end Sys2Proof.Machine
end

section
/-!
SUPPORT and CLAIM. Completion, stream tags and parts (05_command_path, R176 to R180): the obligation O33.
-/
namespace Sys2Proof.Machine

section Fences
variable {s : State} {g : Fun} {c : CtxId} {o : MemObj} {word : Nat} {v : U64}

theorem signalFence_pool_unfixed (h : isFixed s c = false) :
    (signalFence g (some c) o word v s).pool = (signalFence g none o word v s).pool := by
  simp only [signalFence, h, Bool.false_and, Bool.false_eq_true, if_false]
  split
  · rfl
  · split
    · rfl
    · split
      · rfl
      · split <;> rfl

theorem writeStack_pool {line : Nat} {slot : Option Nat} : (writeStack line slot s).pool = s.pool :=
  SameBut.pool_eq (L := [.out]) (writeStack_frame (fun _ h => h) (SameBut.refl _ s)) (by decide)

/-- A span reads as before a write that lies elsewhere. -/
theorem memRead_memWrite_outside {m : Mem} (hm : Memory.wf m = true) {a n x : Nat} {b : Bytes}
    (h : a + n ≤ x ∨ x + b.length ≤ a) : memRead (memWrite m x b) a n = memRead m a n := by
  refine List.map_congr_left fun i hi => memGet_memWrite_outside hm ?_
  have hin : i < n := List.mem_range.1 hi
  omega

theorem copiesOf_congr {t : State} (ho : t.obj.objs = s.obj.objs) (hr : t.pool.regions = s.pool.regions) (line : Nat) :
    copiesOf t line = copiesOf s line := by
  simp only [copiesOf, mirrorOf, regionAt, ho, hr]

/-- A line that is written through reaches the bytes of the pool at its copy only (R287). -/
theorem backLine_mem {line : Nat} : (backLine line s).pool.mem = match copiesOf s line with
    | none => s.pool.mem
    | some m => memWrite s.pool.mem m (memRead s.pool.mem line 64) := by
  unfold backLine
  extract_lets slot s1
  have hpool : s1.pool = (cleanLine line s).pool := writeStack_pool
  have hobjs : s1.obj.objs = s.obj.objs :=
    (writeStack_frame (L := [.out, .memory]) (s := cleanLine line s) (by decide)
      (cleanLine_frame (by decide) (SameBut.refl _ s))).2.2 .objs (by decide)
  have hmem : s1.pool.mem = s.pool.mem := by rw [hpool]; rfl
  rw [copiesOf_congr (t := s1) hobjs (by rw [hpool]; rfl)]
  cases copiesOf s line with
  | none => exact hmem
  | some m => dsimp only; rw [writeStack_pool]; simp only [copyLine, putBytes, hmem]

theorem poolWrite_word_through {a : Nat} {b : Bytes} (ha : a % 8 = 0) (hb : b.length = 8)
    (hp : poisoned s (lineOf a) 64 = false) : poolWrite a b true s = backLine (lineOf a) (putBytes a b s) := by
  have hslice : sliceBytes b 0 8 = b := hb ▸ sliceBytes_whole b
  simp only [poolWrite, hb, linePieces_word ha, foldState, hslice, writeRun, poison_contains_of_not_poisoned hp,
    Bool.false_eq_true, if_false]
  rfl

/-- A word written through reads back, where the copy of its line lies elsewhere. -/
theorem poolWrite_word_reads (h : Inv s) {a : Nat} {b : Bytes} (ha : a % 8 = 0) (hb : b.length = 8)
    (hp : poisoned s (lineOf a) 64 = false) (hm : ∀ m, copiesOf s (lineOf a) = some m → a + 8 ≤ m ∨ m + 64 ≤ a) :
    memRead (poolWrite a b true s).pool.mem a 8 = b := by
  have hread : memRead (memWrite s.pool.mem a b) a 8 = b := hb ▸ memRead_memWrite h.pool a b
  rw [poolWrite_word_through ha hb hp, backLine_mem, copiesOf_congr (s := s) (t := putBytes a b s) rfl rfl]
  split
  · exact hread
  · rename_i m hcopy
    have hmem : (putBytes a b s).pool.mem = memWrite s.pool.mem a b := rfl
    have hlen : (memRead (memWrite s.pool.mem a b) (lineOf a) 64).length = 64 := by simp [memRead]
    rw [hmem, memRead_memWrite_outside (memWrite_wf b h.pool a) (by rw [hlen]; exact hm m hcopy), hread]

/-- The state in which a signal of a command writes: a context in a fixed schedule has ended its cycle identity (R322). -/
def signalled (s : State) (c : CtxId) (a : Nat) : State :=
  if isFixed s c && !pinned s a 8 then clearCycleExact c s else s

theorem signalled_pool {a : Nat} : (signalled s c a).pool = s.pool := by unfold signalled; split <;> rfl

theorem signalFence_fixed_pool (hfixed : isFixed s c = true)
    (hp : poisoned s (lineOf (fenceAddr o word)) 64 = false) :
    (signalFence g (some c) o word v s).pool = if v.toNat ≤ fenceValue s o word then s.pool
      else (poolWrite (fenceAddr o word) (leBytes 8 v.toNat) true (signalled s c (fenceAddr o word))).pool := by
  have hp' : poisoned (signalled s c (fenceAddr o word)) (lineOf (fenceAddr o word)) 64 = false := by
    rw [poisoned, signalled_pool]; exact hp
  have hfixed' : isFixed (signalled s c (fenceAddr o word)) c = true := by
    unfold signalled
    split
    · simp only [isFixed] at hfixed ⊢
      rw [clearCycleExact, ctx_modCtx]
      cases hc : ctx? s c with
      | none => rw [hc] at hfixed; cases hfixed
      | some x => rw [hc] at hfixed; simpa using hfixed
    · exact hfixed
  have hunfold : signalFence g (some c) o word v s = if v.toNat < fenceValue s o word then
      countFn g 6 (signalled s c (fenceAddr o word)) else if v.toNat = fenceValue s o word then
        signalled s c (fenceAddr o word) else
      let t := noteMirror o word v (poolWrite (fenceAddr o word) (leBytes 8 v.toNat) true (signalled s c (fenceAddr o word)))
      if v = BitVec.allOnes 64 then formEvent o.owner o.ring 3 0 (some c) (objHandle o) (w64 word) t else t := by
    unfold signalled at hp' hfixed' ⊢
    simp only [signalFence, hp', Bool.false_eq_true, if_false, hfixed']
  rw [hunfold]
  rcases Nat.lt_trichotomy v.toNat (fenceValue s o word) with hlt | heq | hgt
  · rw [if_pos hlt, if_pos (Nat.le_of_lt hlt), countFn, count_pool, signalled_pool]
  · rw [if_neg (Nat.not_lt_of_le (Nat.le_of_eq heq.symm)), if_pos heq, if_pos (Nat.le_of_eq heq), signalled_pool]
  · rw [if_neg (Nat.lt_asymm hgt), if_neg (Nat.ne_of_gt hgt), if_neg (Nat.not_le_of_lt hgt)]
    split
    · rw [formEvent_pool, noteMirror_pool]
    · rw [noteMirror_pool]

/-- A signal of a command leaves the larger of the two values, in a fixed schedule where the copy of the line lies
elsewhere (R149). -/
theorem signalFence_some_value (h : Inv s) (ho : o.base % 8 = 0) (hp : poisoned s (lineOf (fenceAddr o word)) 64 = false)
    (hm : ∀ m, isFixed s c = true → copiesOf s (lineOf (fenceAddr o word)) = some m →
      fenceAddr o word + 8 ≤ m ∨ m + 64 ≤ fenceAddr o word) :
    fenceValue (signalFence g (some c) o word v s) o word = max (fenceValue s o word) v.toNat := by
  cases hfixed : isFixed s c with
  | false =>
    rw [← signalFence_value h ho hp (g := g), fenceValue, poolBytes, signalFence_pool_unfixed hfixed]
    rfl
  | true =>
    rw [fenceValue, poolBytes, signalFence_fixed_pool hfixed hp]
    by_cases hle : v.toNat ≤ fenceValue s o word
    · rw [if_pos hle, Nat.max_eq_left hle]; rfl
    · have hinv : Inv (signalled s c (fenceAddr o word)) := by
        unfold signalled
        split
        · exact (clearCycleExact_ok (Ok.refl s)).inv h
        · exact h
      have hobjs : (signalled s c (fenceAddr o word)).obj.objs = s.obj.objs := by unfold signalled; split <;> rfl
      rw [if_neg hle, Nat.max_eq_right (by omega), poolWrite_word_reads hinv (fenceAddr_aligned ho) (leBytes_length 8 _)
        (by rw [poisoned, signalled_pool]; exact hp)
        (fun m hcopy => hm m hfixed (by rwa [copiesOf_congr hobjs (by rw [signalled_pool])] at hcopy)), leNat_leBytes]
      exact Nat.mod_eq_of_lt v.isLt

end Fences

section Completion
variable {s t : State} {c : CtxId} {q : Nat} {x y : Cmd} {cx : Ctx} {st : CStatus}

/-- What the completion of a command does once its signals are over (R179): its record, its count, its entry, and the
credits of one that did not succeed. -/
def closeCmd (c : CtxId) (cx : Ctx) (y : Cmd) (st : CStatus) (s : State) : State :=
  let quiet := (ctx? s c).any fun z => z.lostReason == .functionAborted
  let s := freeEntry y (countCompletion c cx.fn (st == .contextLost) (if quiet then s else completionRecord y cx st s))
  if st = .success then s else abandonCredit y s

/-- A succeeded command without output and digest completes its signals, and is then closed. -/
theorem completeCmd_closes (hx : cmd? s c q = some x) (hcx : ctx? s c = some cx) (hstage : x.stage = .ended .success)
    (hissue : mayIssue s c = true) (hheld : packageHeld s = false) (hxfer : x.xfer = none) (hop : hdrOpcode x.raw ≠ 0x50)
    (hsignals : foldState (completeSignal x cx.fn) (signalRefs x.raw) s = t) (hy : cmd? t c q = some y)
    (hended : y.stage = .ended st) : completeCmd c q s = closeCmd c cx y st t := by
  have hdigest : foldDigest x s = s := by simp [foldDigest, hop]
  have houtput (u : State) : foldOutput x u = u := by simp [foldOutput, hxfer]
  unfold completeCmd
  simp only [hx, hcx, hstage, hissue, hheld, hdigest, houtput, hsignals, ite_self, hy, hended, closeCmd, if_true,
    Bool.not_true, Bool.or_self, Bool.and_false, Bool.false_eq_true, if_false]

theorem abandonCredit_sameBut : SameBut [.out] s (abandonCredit y s) := abandonCredit_frame (fun _ h => h) (SameBut.refl _ s)

theorem closeCmd_gone (hy : y.ctx = c ∧ y.q = q) : cmd? (closeCmd c cx y st s) c q = none := by
  unfold closeCmd
  dsimp only
  split
  · exact freeEntry_gone hy
  · exact (abandonCredit_sameBut.cmd? (by decide)).trans (freeEntry_gone hy)

theorem closeCmd_sameBut : SameBut [.int, .ctxs, .cmds, .engines, .out] s (closeCmd c cx y st s) := by
  unfold closeCmd
  dsimp only
  have hfree (quiet : Bool) : SameBut [.int, .ctxs, .cmds, .engines, .out] s (freeEntry y
      (countCompletion c cx.fn (st == .contextLost) (if quiet then s else completionRecord y cx st s))) :=
    freeEntry_frame (by decide) (countCompletion_frame (by decide) (SameBut.ite (SameBut.refl _ s)
      (completionRecord_frame (by decide) (SameBut.refl _ s))))
  exact SameBut.ite (hfree _) (abandonCredit_frame (by decide) (hfree _))

/-- The context's counts after one more completion, or one more lost (R179, R391). -/
def countedCtx (lost : Bool) (x : Ctx) : Ctx :=
  if lost then { x with lostCompleted := w64 (countUp 64 x.lostCompleted.toNat).1 }
  else { x with completed := w64 (countUp 64 x.completed.toNat).1 }

theorem countCompletion_ctx {g : Fun} {lost : Bool} :
    ctx? (countCompletion c g lost s) c = (ctx? s c).map (countedCtx lost) := by
  unfold countCompletion
  cases hx : ctx? s c with
  | none => exact hx
  | some x =>
    have hsat (f : Ctx → Ctx) (sat : Bool) (n : Nat) :
        ctx? (if sat then saturated g (some c) n (modCtx c f s) else modCtx c f s) c = some (f x) := by
      have hmod : ctx? (modCtx c f s) c = some (f x) := by rw [ctx_modCtx, hx]; rfl
      cases sat
      · exact hmod
      · exact hmod
    dsimp only
    rw [hsat]
    cases lost <;> rfl

theorem closeCmd_ctx : ctx? (closeCmd c cx y st s) c = (ctx? s c).map (countedCtx (st == .contextLost)) := by
  have hquiet (quiet : Bool) : ctx? (if quiet then s else completionRecord y cx st s) c = ctx? s c :=
    (SameBut.ite (L := [.int]) (SameBut.refl _ s) (completionRecord_frame (by decide) (SameBut.refl _ s))).ctx? (by decide)
  unfold closeCmd
  dsimp only
  split
  · rw [freeEntry_sameBut.ctx? (by decide), countCompletion_ctx, hquiet]
  · rw [abandonCredit_sameBut.ctx? (by decide), freeEntry_sameBut.ctx? (by decide), countCompletion_ctx, hquiet]

/-- The count of a completion leaves a lost context lost (R130, R391). -/
theorem LostFor.counted {u : State} {lost : Bool} {r : LostReason} (h : LostFor s u c r)
    (ht : ctx? t c = (ctx? u c).map (countedCtx lost)) : LostFor s t c r := by
  obtain ⟨z, hz, hstate, hreason, hgtc⟩ := h
  refine ⟨countedCtx lost z, by rw [ht, hz]; rfl, ?_⟩
  cases lost <;> exact ⟨hstate, hreason, hgtc⟩

/-- A completion below the largest count adds one to the context's completions (R179). -/
theorem countCompletion_adds (hcx : ctx? s c = some cx) (hn : cx.completed.toNat < 2 ^ 62) {g : Fun} :
    countCompletion c g false s = modCtx c (fun z => { z with completed := cx.completed + 1 }) s := by
  have hcount : w64 (cx.completed.toNat + 1) = cx.completed + 1 := by simp [w64, BitVec.ofNat_add]
  simp only [countCompletion, hcx, Bool.false_eq_true, if_false, countUp_of_lt hn, hcount]

/-- The stream tag of a command that leaves the table drains (R178). -/
theorem freeEntry_drains {tag : U16} (htag : x.tag = some tag) :
    ∃ d ∈ (freeEntry x s).cmd.drains, d.tag = tag ∧ d.ctx = x.ctx ∧ d.q = x.q := by
  simp [freeEntry, drainTag, htag]

/-- A completion without signals (R179). -/
theorem completion_gives (hinv : Inv s) (hx : cmd? s c q = some x) (hcx : ctx? s c = some cx)
    (hstage : x.stage = .ended .success) (hissue : mayIssue s c = true) (hheld : packageHeld s = false)
    (hsignals : signalRefs x.raw = []) (hxfer : x.xfer = none) (hop : hdrOpcode x.raw ≠ 0x50)
    (hn : cx.completed.toNat < 2 ^ 62) (hquiet : cx.lostReason ≠ .functionAborted) :
    Gives (.commandCompletion c q) s fun t => cmd? t c q = none ∧
      ctx? t c = some { cx with completed := cx.completed + 1 } ∧
      (hdrReport x.raw = true → (getFn t cx.fn).int.formed = (getFn s cx.fn).int.formed ++
        [⟨cx.eventRing, 1, cstatusCode .success, some c, w64 (hdrData x.raw), w64 (hdrOpcode x.raw * 2 ^ 48 + q), s.gtc⟩]) ∧
      ∀ tag, x.tag = some tag → ∃ d ∈ t.cmd.drains, d.tag = tag ∧ d.ctx = c ∧ d.q = q := by
  obtain ⟨hxc, hxq⟩ := cmd_key hx
  refine Gives.of_eq rfl (completeCmd_closes hx hcx hstage hissue hheld hxfer hop (by rw [hsignals]; rfl) hx hstage)
    ⟨closeCmd_gone (cmd_key hx), ?_, ?_⟩
  · rw [closeCmd_ctx, hcx, Option.map_some, countedCtx, if_neg (by decide), countUp_of_lt hn, w64, BitVec.ofNat_add]
    simp
  · have hq : ((ctx? s c).any fun z => z.lostReason == .functionAborted) = false := by rw [hcx]; simpa using hquiet
    have hrecord : ctx? (completionRecord x cx .success s) c = some cx := by
      rw [← hcx]
      exact (completionRecord_frame (L := [.int]) (by decide) (SameBut.refl _ s)).ctx? (by decide)
    have hclose : closeCmd c cx x .success s = freeEntry x (modCtx c (fun z => { z with completed := cx.completed + 1 })
        (completionRecord x cx .success s)) := by
      simp only [closeCmd, hq, Bool.false_eq_true, if_false, if_true,
        show (CStatus.success == CStatus.contextLost) = false from rfl, countCompletion_adds hrecord hn]
    rw [hclose]
    refine ⟨fun hreport => ?_, fun tag htag => ?_⟩
    · have hfn : getFn (freeEntry x (modCtx c (fun z => { z with completed := cx.completed + 1 })
          (completionRecord x cx .success s))) cx.fn = getFn (completionRecord x cx .success s) cx.fn :=
        SameBut.getFn (L := [.ctxs, .cmds, .engines]) (freeEntry_frame (by decide) (modCtx_frame (by decide)
          (SameBut.refl _ _))) (by decide) _
      rw [hfn, completionRecord, if_pos hreport, formEvent_formed hinv.fns, hxc, hxq]
    · have hdrain := freeEntry_drains htag (s := modCtx c (fun z => { z with completed := cx.completed + 1 })
        (completionRecord x cx .success s))
      rwa [hxc, hxq] at hdrain

/-- What one signal of a succeeded command does, where its fence passes the check (R149, R179). -/
theorem completeSignal_passes {g : Fun} {r : FenceRef} {o : MemObj} (hx : cmd? s c q = some x)
    (hstage : x.stage = .ended .success) (hst : fenceStatus s g true r = .success)
    (ho : fenceWord s r.handle r.word = some o) :
    completeSignal x g r s = signalFence g (some c) o r.word (w64 r.value) s := by
  obtain ⟨hxc, hxq⟩ := cmd_key hx
  have hsucceeded : succeeded s c q = true := by simp [succeeded, hx, hstage]
  simp [completeSignal, hxc, hxq, hsucceeded, hst, ho]

theorem completeSignal_fails {g : Fun} {r : FenceRef} (hx : cmd? s c q = some x)
    (hstage : x.stage = .ended .success) (hst : fenceStatus s g true r ≠ .success) :
    completeSignal x g r s = faultCmd c q (fenceStatus s g true r) (millraceInfo g) s := by
  obtain ⟨hxc, hxq⟩ := cmd_key hx
  have hsucceeded : succeeded s c q = true := by simp [succeeded, hx, hstage]
  simp [completeSignal, hxc, hxq, hsucceeded, hst]

theorem fenceCompletion_gives (hinv : Inv s) {r : FenceRef} (hx : cmd? s c q = some x) (hcx : ctx? s c = some cx)
    (hstage : x.stage = .ended .success) (hissue : mayIssue s c = true) (hheld : packageHeld s = false)
    (hsignals : signalRefs x.raw = [r]) (hxfer : x.xfer = none) (hop : hdrOpcode x.raw ≠ 0x50) :
    (∀ o : MemObj, fenceStatus s cx.fn true r = .success → fenceWord s r.handle r.word = some o → o.base % 8 = 0 →
      poisoned s (lineOf (fenceAddr o r.word)) 64 = false →
      (∀ m, isFixed s c = true → copiesOf s (lineOf (fenceAddr o r.word)) = some m →
        fenceAddr o r.word + 8 ≤ m ∨ m + 64 ≤ fenceAddr o r.word) →
      Gives (.commandCompletion c q) s fun t => cmd? t c q = none ∧
        fenceValue t o r.word = max (fenceValue s o r.word) (w64 r.value).toNat) ∧
    (fenceStatus s cx.fn true r ≠ .success → cx.state = .ready →
      Gives (.commandCompletion c q) s fun t => cmd? t c q = none ∧
        LostFor s t c (lostOf (fenceStatus s cx.fn true r))) := by
  refine ⟨fun o hst ho hbase hp hm => ?_, fun hst hready => ?_⟩
  · have hsig : foldState (completeSignal x cx.fn) (signalRefs x.raw) s =
        signalFence cx.fn (some c) o r.word (w64 r.value) s := by
      rw [hsignals]
      exact completeSignal_passes hx hstage hst ho
    have hy : cmd? (signalFence cx.fn (some c) o r.word (w64 r.value) s) c q = some x :=
      (SameBut.cmd? (L := [.counters, .int, .ctxs, .slots, .memory, .pool, .out])
        (signalFence_frame (by decide) (SameBut.refl _ s)) (by decide)).trans hx
    refine Gives.of_eq rfl (completeCmd_closes hx hcx hstage hissue hheld hxfer hop hsig hy hstage)
      ⟨closeCmd_gone (cmd_key hx), ?_⟩
    rw [fenceValue, poolBytes, closeCmd_sameBut.pool_eq (by decide)]
    exact signalFence_some_value hinv hbase hp hm
  · have hsig : foldState (completeSignal x cx.fn) (signalRefs x.raw) s =
        faultCmd c q (fenceStatus s cx.fn true r) (millraceInfo cx.fn) s := by
      rw [hsignals]
      exact completeSignal_fails hx hstage hst
    have hended : HasEnded s c q := ⟨_, x, hx, hstage⟩
    obtain ⟨st, y, hy, hystage⟩ := hended.faultCmd (k := c) (p := q) (st := fenceStatus s cx.fn true r) (i := millraceInfo cx.fn)
    refine Gives.of_eq rfl (completeCmd_closes hx hcx hstage hissue hheld hxfer hop hsig hy hystage)
      ⟨closeCmd_gone (cmd_key hy), LostFor.counted ?_ closeCmd_ctx⟩
    rw [faultCmd, hcx]
    dsimp only
    rw [if_pos hready]
    exact loseContext_lost hcx hready

end Completion

section Parts
variable {s : State} {c : CtxId} {q k cluster : Nat} {x : Cmd}

theorem applyLate_sameBut {n : Nat} : SameBut [.det] s (applyLate n s) := applyLate_frame (fun _ h => h) (SameBut.refl _ s)

/-- The end of the last open part of a LAUNCH ends it (R176). -/
theorem partEnd_last (hfind : (s.cmd.table.find? fun y => y.ctx == c && y.q == q && partOpen cluster k y.parts) = some x)
    (hx : cmd? s c q = some x) (hstage : x.stage = .dispatched) (hall : ∀ p ∈ endPart cluster k x.parts, p.ended = true) :
    Gives (.partEnd cluster c q k) s fun t => Ended t c q .success ∧ SameBut [.cmds, .engines, .det] s t := by
  let t := applyLate cluster (modCmd c q (fun y => { y with parts := endPart cluster k x.parts }) s)
  have hpart : partEnd cluster c q k s = endCmd c q .success t := by
    have hall' : (endPart cluster k x.parts).all (·.ended) = true := List.all_eq_true.2 hall
    unfold partEnd
    rw [hfind]
    dsimp only
    rw [if_pos (by simp [hall', hstage])]
  have ht : cmd? t c q = some { x with parts := endPart cluster k x.parts } :=
    (applyLate_sameBut.cmd? (by decide)).trans (cmd_modCmd_some hx fun _ => ⟨rfl, rfl⟩)
  refine Gives.of_eq rfl hpart ⟨endCmd_ends ht fun z hz => ?_, ?_⟩
  · rw [hstage] at hz; cases hz
  · exact (applyLate_frame (by decide) (modCmd_frame (by decide) (SameBut.refl _ s))).trans
      ((endCmd_sameBut rfl).mono (by decide))

/-- A cluster that fails is fenced (R339). -/
theorem mem_fenceClusters {n : Nat} {i : ErrInfo} (hn : n < clustersOf s.variant) :
    n ∈ (fenceClusters [n] i s).det.fenced := by
  by_cases hf : n ∈ s.det.fenced
  · have hnew : fenceClusters [n] i s = s := by simp [fenceClusters, hf]
    rwa [hnew]
  · rw [fenceClusters_single hn hf]
    have hmap (t : State) : (mapChanged t).det.fenced = t.det.fenced := by
      unfold mapChanged
      split <;> rfl
    rw [hmap]
    exact mem_insertNat

theorem unitStepEnd_engine {e : Engine} {z : EngineSt} (hz : s.cmd.engines[e.val]? = some z) :
    Gives (.unitStepEnd (.engine e)) s fun t => SameBut [.engines] s t ∧
      t.cmd.engines[e.val]? = some (stepOver s z) :=
  Gives.of_eq rfl rfl ⟨modEngine_frame (by decide) (SameBut.refl _ s), by
    show (s.cmd.engines.modify e.val (stepOver s))[e.val]? = _
    simp [hz]⟩

end Parts

/-- Settles O33: completions by `closeCmd`, parts and engine steps by what they write. -/
theorem commandsEnd : Obligations.CommandsEnd := by
  unfold Obligations.CommandsEnd
  intro s hinv
  refine ⟨fun c q x cx hx hcx hstage hissue hheld hsignals hxfer hop hn hquiet =>
      completion_gives hinv hx hcx hstage hissue hheld hsignals hxfer hop hn hquiet,
    fun c q x cx r hx hcx hstage hissue hheld hsignals hxfer hop =>
      fenceCompletion_gives hinv hx hcx hstage hissue hheld hsignals hxfer hop,
    fun tag => ?drained, fun tag => ⟨fun h => ?live, fun h => ?unknown⟩,
    fun cluster c q k x hfind hx hstage hall => partEnd_last hfind hx hstage hall,
    fun cluster c q k x hmem hc hq hover hn => ?overdue, fun e z hz => ⟨fun k hk => ?ends, fun hk => ?idle⟩⟩
  case drained =>
    refine Gives.of_eq rfl rfl ⟨tagDrained_frame (by decide) (SameBut.refl _ s), fun d => ?_⟩
    rw [tagDrained, List.mem_filter]
    simp [Decidable.imp_iff_not_or]
  case live => exact congrArg Host.Outcome.next (if_pos h)
  case unknown => exact Gives.of_eq rfl (if_neg (by simp [h])) raised_raiseError
  case overdue =>
    have hany : (s.cmd.table.any fun x => x.ctx == c && x.q == q && partOverdue s cluster k x.parts) = true :=
      List.any_eq_true.2 ⟨x, hmem, by simp [hc, hq, hover]⟩
    exact Gives.of_eq rfl (if_pos (by rw [hany]; rfl)) (mem_fenceClusters hn)
  case ends =>
    obtain ⟨t, ht, hsame, hget⟩ := unitStepEnd_engine hz
    refine ⟨t, ht, hsame, _, hget, ?_⟩
    rw [stepOver, hk]
    exact ⟨by simp [bne, Bool.beq_eq_decide_eq], rfl, rfl, rfl⟩
  case idle =>
    obtain ⟨t, ht, hsame, hget⟩ := unitStepEnd_engine hz
    refine ⟨t, ht, hsame, ?_⟩
    rw [hget, stepOver, hk]

end Sys2Proof.Machine
end

section
/-!
SUPPORT and CLAIM. Fixed schedules (10_determinism, R317, R318, R326, R337, R338): a command that passes every dispatch
stage at once, what a replay's log leaves of its context, and the obligation O46.
-/
namespace Sys2Proof.Machine

section Dispatch
variable {s t : State} {c : CtxId} {q : Nat} {x : Cmd} {cx : Ctx} {g : Fun}

theorem modCmd_modCmd {f f' : Cmd → Cmd} (hf : ∀ x, (f x).ctx = x.ctx ∧ (f x).q = x.q) :
    modCmd c q f' (modCmd c q f s) = modCmd c q (fun x => f' (f x)) s := by
  simp only [modCmd, List.map_map]
  congr 2
  refine List.map_congr_left fun a _ => ?_
  by_cases h : (a.ctx == c && a.q == q) = true
  · simp only [Function.comp_apply, h, if_true, (hf a).1, (hf a).2]
  · simp only [Function.comp_apply, h, if_false, Bool.false_eq_true]

theorem setStage_setStage {a b : CmdStage} : setStage x b (setStage x a s) = setStage x b s := modCmd_modCmd fun _ => ⟨rfl, rfl⟩

/-- The decode checks of a command that is no LAUNCH depend on the variant and the objects only (R172). -/
theorem decodeStatus_congr (hv : t.variant = s.variant) (ho : t.obj.objs = s.obj.objs) (hop : hdrOpcode x.raw ≠ 0x20) :
    decodeStatus t g x = decodeStatus s g x := by
  have hlive (h : Nat) : liveObj t h = liveObj s h := by rw [liveObj, ho, liveObj]
  have hbad (r : FenceRef) : fenceBad t r = fenceBad s r := by rw [fenceBad, hlive, fenceBad]
  have hstatus (signal : Bool) (r : FenceRef) : fenceStatus t g signal r = fenceStatus s g signal r := by
    rw [fenceStatus, hlive, fenceStatus]
  simp only [decodeStatus, hv, hbad, hstatus, hop, decide_false, Bool.false_and, Bool.false_eq_true, if_false]

theorem stageDecode_passes (hst : decodeStatus s g x = .success) (hop : hdrOpcode x.raw ≠ 0x20) :
    stageDecode x g s = (setStage x (.queued 1) s, true) := by
  simp [stageDecode, hst, hop]

theorem stageBarrier_passes (h : barrierSet x.raw = false) : stageBarrier x s = (setStage x (.queued 2) s, true) := by
  simp [stageBarrier, h]

theorem stageWaits_passes {n i : Nat} (h : waitRefs x.raw = []) :
    stageWaits x g n i s = (setStage x (.queued 3) s, true) := by
  cases n with
  | zero => rfl
  | succ n => simp [stageWaits, h]

theorem stageLaunch_passes {n : Nat} (hop : hdrOpcode x.raw ≠ 0x20) :
    stageLaunch x n s = (setStage x (.queued 5) s, true) := by
  simp [stageLaunch, hop]

theorem lateHeld_setStage {st : CmdStage} : lateHeld (setStage x st s) x = lateHeld s x := by
  rw [lateHeld, setStage, cmd_modCmd _ _ _ (by exact fun _ => ⟨rfl, rfl⟩), lateHeld]
  cases cmd? s x.ctx x.q <;> rfl

/-- A command that takes no stream tag is dispatched under the epoch in force (R173). -/
theorem stageIssue_passes (hstall : fnStalled s g = false) (hheld : packageHeld s = false) (hissue : mayIssue s x.ctx = true)
    (hreplay : replayStalled s x.ctx = false) (hlate : lateHeld s x = false) (htag : takesTag (hdrOpcode x.raw) = false) :
    stageIssue x g s = modCmd x.ctx x.q (fun y => { y with stage := .dispatched, epoch := s.det.epoch.toNat }) s := by
  simp [stageIssue, hstall, hheld, hissue, hreplay, hlate, htag]

/-- A dispatch head that decodes well, has no barrier and no wait, is no LAUNCH and takes no stream tag passes every
stage at once (R173). -/
theorem dispatchStages_passes (hhead : dispatchHead s c = some x) (hcx : ctx? s c = some cx) (hready : cx.state = .ready)
    (hstage : x.stage = .queued 0) (hst : decodeStatus s cx.fn x = .success) (hbarrier : barrierSet x.raw = false)
    (hwaits : waitRefs x.raw = []) (hop : hdrOpcode x.raw ≠ 0x20) (htag : takesTag (hdrOpcode x.raw) = false)
    (hlate : lateHeld s x = false) (hstall : fnStalled s cx.fn = false) (hheld : packageHeld s = false)
    (hissue : mayIssue s x.ctx = true) (hreplay : replayStalled s x.ctx = false) :
    dispatchStages c s = modCmd x.ctx x.q (fun y => { y with stage := .dispatched, epoch := s.det.epoch.toNat }) s := by
  have hn : stageNumber x = 0 := by rw [stageNumber, hstage]
  have hpassed : stageIssue x cx.fn (setStage x (.queued 5) s) =
      modCmd x.ctx x.q (fun y => { y with stage := .dispatched, epoch := s.det.epoch.toNat }) s := by
    rw [stageIssue_passes (s := setStage x (.queued 5) s) hstall hheld hissue hreplay (lateHeld_setStage.trans hlate) htag]
    exact modCmd_modCmd fun _ => ⟨rfl, rfl⟩
  unfold dispatchStages
  simp only [hhead, hcx, hready, ne_eq, not_true_eq_false, if_false, hn, stageDecode_passes hst hop,
    stageBarrier_passes hbarrier, stageWaits_passes hwaits, stageLaunch_passes hop, setStage_setStage, Nat.zero_lt_succ,
    if_true, decide_true, Bool.and_self, hpassed]

end Dispatch

section Windows
variable {s t : State} {c : CtxId} {f : FixedSt} {x : Cmd} {cx : Ctx}

/-- Only table entries of contexts differ, and the context itself does not. -/
def CtxKept (c : CtxId) (s t : State) : Prop := SameBut [.ctxs] s t ∧ ctx? t c = ctx? s c

theorem CtxKept.trans {u : State} (h : CtxKept c s t) (k : CtxKept c t u) : CtxKept c s u :=
  ⟨h.1.trans k.1, k.2.trans h.2⟩

theorem modFixed_kept {g : FixedSt → FixedSt} (hf : fixed? s c = some f) (hg : g f = f) : CtxKept c s (modFixed c g s) := by
  refine ⟨modFixed_frame (fun _ h => h) (SameBut.refl _ s), ?_⟩
  rw [modFixed, ctx_modCtx]
  rw [fixed?] at hf
  cases hx : ctx? s c with
  | none => rfl
  | some x =>
    rw [hx] at hf
    have hxf : x.fixed = some f := hf
    simp [hxf, hg]
    rw [← hxf]

theorem flushLog_kept (hf : fixed? s c = some f) (hw : f.logWrites = []) : CtxKept c s (flushLog c s) := by
  unfold flushLog
  rw [hf]
  dsimp only
  split
  · exact ⟨SameBut.refl _ s, rfl⟩
  · rw [hw]
    exact modFixed_kept hf (by rw [← hw])

theorem appendLog_kept (hf : fixed? s c = some f) (hw : f.toLog = []) : CtxKept c s (appendLog c s) := by
  unfold appendLog
  rw [hf]
  dsimp only
  split
  · exact ⟨SameBut.refl _ s, rfl⟩
  · rw [hw]
    exact modFixed_kept hf (by rw [← hw])

theorem letIn_none (h : ∀ a ∈ s.det.arrivals, arrivalCtx a ≠ some c) : letIn c s = s := by
  have hnone : (s.det.arrivals.filter fun a => arrivalCtx a == some c) = [] := by
    simpa [List.filter_eq_nil_iff] using h
  have hall : (s.det.arrivals.filter fun a => !(arrivalCtx a == some c)) = s.det.arrivals := by
    simpa [List.filter_eq_self] using h
  unfold letIn enterWhere
  rw [hnone, hall]
  rfl

theorem entryEnters_none (h : fetchingCmd s c = none) : entryEnters c s = s := by
  simp [entryEnters, h]

/-- The issue window of one context whose log and arrivals have nothing to do (R318). -/
theorem startWindow_single (hheld : packageHeld s = false) (hone : contextsInWindow s = [c]) (hf : fixed? s c = some f)
    (htolog : f.toLog = []) (hwrites : f.logWrites = []) (harr : ∀ a ∈ s.det.arrivals, arrivalCtx a ≠ some c)
    (hfetch : fetchingCmd s c = none) : ∃ t, CtxKept c s t ∧ startWindow s = dispatchStages c t := by
  have hflush := flushLog_kept hf hwrites
  have hf' : fixed? (flushLog c s) c = some f := by rw [fixed?, hflush.2, ← fixed?, hf]
  have hlog := hflush.trans (appendLog_kept hf' htolog)
  have hdet : (appendLog c (flushLog c s)).det = s.det := hlog.1.2.2 .det (by decide)
  have hcmds : (appendLog c (flushLog c s)).cmd.table = s.cmd.table := hlog.1.2.2 .cmds (by decide)
  refine ⟨_, hlog, ?_⟩
  unfold startWindow
  rw [if_neg (by simp [hheld]), hone]
  show dispatchStages c (entryEnters c (letIn c (appendLog c (flushLog c s)))) = _
  rw [letIn_none (by rw [hdet]; exact harr), entryEnters_none (by rw [fetchingCmd, hcmds]; exact hfetch)]

theorem dispatchHead_spec (h : dispatchHead s c = some x) : x ∈ s.cmd.table ∧ x.ctx = c := by
  have hx := List.find?_some h
  rw [Bool.and_eq_true] at hx
  exact ⟨List.mem_of_find?_eq_some h, by simpa using hx.1⟩

theorem issueWindow_gives (hheld : packageHeld s = false) (hone : contextsInWindow s = [c]) (hcx : ctx? s c = some cx)
    (hfixed : cx.fixed = some f) (htolog : f.toLog = []) (hwrites : f.logWrites = []) (hstalled : f.stalled = false)
    (harr : ∀ a ∈ s.det.arrivals, arrivalCtx a ≠ some c) (hfetch : fetchingCmd s c = none) (hready : cx.state = .ready)
    (hhead : dispatchHead s c = some x) (hstage : x.stage = .queued 0) (hst : decodeStatus s cx.fn x = .success)
    (hbarrier : barrierSet x.raw = false) (hwaits : waitRefs x.raw = []) (hop : hdrOpcode x.raw ≠ 0x20)
    (htag : takesTag (hdrOpcode x.raw) = false) (hlate : lateHeld s x = false) (hstall : fnStalled s cx.fn = false)
    (hissue : inWindow s f.slotMask = true) :
    Gives .slotIssueWindowStart s fun t => SameBut [.ctxs, .cmds] s t ∧
      (∃ y ∈ t.cmd.table, y.ctx = c ∧ y.q = x.q) ∧
      ∀ y ∈ t.cmd.table, y.ctx = c → y.q = x.q → y.stage = .dispatched ∧ y.epoch = s.det.epoch.toNat := by
  obtain ⟨hmem, hxc⟩ := dispatchHead_spec hhead
  have hf : fixed? s c = some f := by rw [fixed?, hcx]; exact hfixed
  obtain ⟨t, ⟨hsame, hctx⟩, hstart⟩ := startWindow_single hheld hone hf htolog hwrites harr hfetch
  have hf' : fixed? t c = some f := by rw [fixed?, hctx, ← fixed?, hf]
  have hcmds : t.cmd.table = s.cmd.table := hsame.2.2 .cmds (by decide)
  have hgtc : t.gtc = s.gtc := hsame.2.2 .gtc (by decide)
  have herr : t.err = s.err := hsame.2.2 .err (by decide)
  have hpower : t.power = s.power := hsame.2.2 .power (by decide)
  have hdet : t.det = s.det := hsame.2.2 .det (by decide)
  have hobjs : t.obj.objs = s.obj.objs := hsame.2.2 .objs (by decide)
  have hfn : getFn t cx.fn = getFn s cx.fn := hsame.getFn (by decide) _
  have hpass : dispatchStages c t = modCmd x.ctx x.q (fun y => { y with
      stage := .dispatched, epoch := t.det.epoch.toNat }) t := by
    refine dispatchStages_passes (cx := cx) ?_ (hctx.trans hcx) hready hstage ?_ hbarrier hwaits hop htag ?_ ?_ ?_ ?_ ?_
    · rw [dispatchHead, hcmds]; exact hhead
    · exact (decodeStatus_congr hsame.1 hobjs hop).trans hst
    · rw [lateHeld, cmd_congr hcmds, hgtc]; exact hlate
    · rw [fnStalled, hfn]; exact hstall
    · rw [packageHeld, herr, hpower]; exact hheld
    · rw [hxc, mayIssue, hf']
      simpa [inWindow, hgtc] using hissue
    · rw [hxc, replayStalled, hf']; exact hstalled
  rw [hdet] at hpass
  refine Gives.of_eq (congrArg Host.Outcome.next (hstart.trans hpass)) rfl ⟨?_, ?_, fun y hy hyc hyq => ?_⟩
  · exact modCmd_frame (by decide) (hsame.mono (by decide))
  · refine ⟨_, List.mem_map.2 ⟨x, hcmds ▸ hmem, rfl⟩, ?_⟩
    rw [if_pos (by simp)]
    exact ⟨hxc, rfl⟩
  · obtain ⟨z, hz, rfl⟩ := List.mem_map.1 hy
    have hkey : (z.ctx == x.ctx && z.q == x.q) = true := by
      refine Decidable.byContradiction fun hne => ?_
      rw [if_neg hne] at hyc hyq
      exact hne (by simp [hyc, hyq, hxc])
    rw [if_pos hkey]
    exact ⟨rfl, rfl⟩

end Windows

section Replay
variable {s t u : State} {c : CtxId} {f : FixedSt} {x : Ctx} {o : MemObj} {n : Nat} {e : Bytes}

/-- The header of a replay's log is written, or its writes wait: of the context nothing but those differs (R337). -/
def LogOnly (c : CtxId) (s t : State) : Prop :=
  ∃ g : FixedSt → FixedSt, (∀ f, (g f).cursor = f.cursor ∧ (g f).stalled = f.stalled) ∧
    ctx? t c = (ctx? s c).map fun x => { x with fixed := x.fixed.map g }

theorem LogOnly.of_same (h : ctx? t c = ctx? s c) : LogOnly c s t :=
  ⟨id, fun _ => ⟨rfl, rfl⟩, by rw [h]; cases ctx? s c <;> simp⟩

theorem LogOnly.trans (h : LogOnly c s t) (k : LogOnly c t u) : LogOnly c s u := by
  obtain ⟨g, hg, hctx⟩ := h
  obtain ⟨g', hg', hctx'⟩ := k
  refine ⟨fun f => g' (g f), fun f => ⟨(hg' _).1.trans (hg _).1, (hg' _).2.trans (hg _).2⟩, ?_⟩
  rw [hctx', hctx]
  cases ctx? s c with
  | none => rfl
  | some x => simp [Function.comp_def]

theorem ctx_modFixed {g : FixedSt → FixedSt} :
    ctx? (modFixed c g s) c = (ctx? s c).map fun x => { x with fixed := x.fixed.map g } := by
  rw [modFixed, ctx_modCtx]

theorem replayWrite_logOnly {off : Nat} {b : Bytes} : LogOnly c s (replayWrite c o off b s) := by
  unfold replayWrite
  split
  · exact .of_same (SameBut.ctx? (poolWrite_frame (fun _ h => h) (SameBut.refl _ s)) (by decide))
  · exact ⟨fun f => { f with logWrites := f.logWrites ++ [(off, b)] }, fun _ => ⟨rfl, rfl⟩, ctx_modFixed⟩

theorem consumeEntry_logOnly : LogOnly c s (consumeEntry c o s) := by
  unfold consumeEntry
  split
  · exact .of_same rfl
  · extract_lets rest head s1 s2
    have htwo : LogOnly c s s2 := replayWrite_logOnly.trans replayWrite_logOnly
    split
    · exact htwo.trans replayWrite_logOnly
    · exact htwo

theorem LogOnly.fixed (h : LogOnly c s t) (hf : fixed? s c = some f) :
    ∃ y, fixed? t c = some y ∧ y.cursor = f.cursor ∧ y.stalled = f.stalled := by
  obtain ⟨g, hg, hctx⟩ := h
  refine ⟨g f, ?_, (hg f).1, (hg f).2⟩
  rw [fixed?] at hf ⊢
  rw [hctx]
  cases hx : ctx? s c with
  | none => rw [hx] at hf; cases hf
  | some x =>
    rw [hx] at hf
    have hxf : x.fixed = some f := hf
    simp [hxf]

/-- A valid doorbell sets the tail of its context, whatever has been written to its log, and leaves the cursor (R158). -/
theorem takeDoorbell_sets {v : U64} (h : LogOnly c s t) (hx : ctx? s c = some x) (hf : x.fixed = some f)
    (hv : doorbellValid x v = true) : (∃ y, fixed? (takeDoorbell c v t) c = some y ∧ y.cursor = f.cursor) ∧
      ∃ y, ctx? (takeDoorbell c v t) c = some y ∧ y.tail = BitVec.ofNat 24 v.toNat := by
  obtain ⟨g, hg, hctx⟩ := h
  rw [hx, Option.map_some, hf, Option.map_some] at hctx
  have htake : takeDoorbell c v t = acceptDoorbell c v t := by
    unfold takeDoorbell
    rw [hctx]
    exact if_pos hv
  have hnote : ∃ g' : FixedSt → FixedSt, (∀ f, (g' f).cursor = f.cursor) ∧ acceptDoorbell c v t =
      modFixed c g' (modCtx c (fun x => { x with
        tail := BitVec.ofNat 24 v.toNat, submitTag := BitVec.ofNat 16 (v.toNat >>> 48) }) t) :=
    ⟨_, fun f => by split <;> rfl, rfl⟩
  obtain ⟨g', hg', haccept⟩ := hnote
  have hresult : ctx? (takeDoorbell c v t) c = some { x with
      fixed := some (g' (g f)), tail := BitVec.ofNat 24 v.toNat, submitTag := BitVec.ofNat 16 (v.toNat >>> 48) } := by
    rw [htake, haccept, ctx_modFixed, ctx_modCtx, hctx]
    rfl
  exact ⟨⟨g' (g f), by rw [fixed?, hresult]; rfl, (hg' _).trans (hg f).1⟩, _, hresult, rfl⟩

theorem fixed_modFixed {g : FixedSt → FixedSt} (hf : fixed? s c = some f) : fixed? (modFixed c g s) c = some (g f) := by
  rw [fixed?] at hf
  rw [fixed?, ctx_modFixed]
  cases hx : ctx? s c with
  | none => rw [hx] at hf; cases hf
  | some x =>
    rw [hx] at hf
    have hxf : x.fixed = some f := hf
    simp [hxf]

/-- The next entry of a replay, whose time has come, takes effect (R337). -/
theorem replayDue_takes (hf : fixed? s c = some f) (hmode : f.logMode = .replay) (hlive : f.live = false)
    (ho : moraineObj s f = some o) (hgate : entryGate s f o = none)
    (hwaits : ∀ w ∈ f.replayWaits, f.setAside.contains w.entry = false) (hnext : nextEntry s f o = some (n, e))
    (htime : entryTime s c e ≤ s.gtc.toNat) : replayDue c s = replayEntry c f o n e s := by
  have hnone : (f.replayWaits.find? fun w => f.setAside.contains w.entry) = none :=
    List.find?_eq_none.2 fun w hw => by rw [hwaits w hw]; decide
  simp only [replayDue, hf, hmode, hlive, ho, hgate, hnone, hnext, htime, ne_eq, not_true_eq_false, decide_false,
    Bool.false_and, Bool.or_self, Bool.false_eq_true, if_false, if_true]

end Replay

/-- Settles O46: the issue window by `dispatchStages_passes`, each kind of entry by what it leaves of the context beside
the writes of its log. -/
theorem fixedSchedules : Obligations.FixedSchedules := by
  unfold Obligations.FixedSchedules
  intro s hinv
  refine ⟨fun c x cx f hheld hone hcx hfixed htolog hwrites hstalled harr hfetch hready hhead hstage hst hbarrier hwaits
      hop htag hlate hstall hissue => issueWindow_gives hheld hone hcx hfixed htolog hwrites hstalled harr hfetch hready
      hhead hstage hst hbarrier hwaits hop htag hlate hstall hissue,
    fun c x f o n e hx hfixed hmode hlive ho hgate hwaits hnext htime => ?_⟩
  have hf : fixed? s c = some f := by rw [fixed?, hx]; exact hfixed
  have hdue := replayDue_takes hf hmode hlive ho hgate hwaits hnext htime
  have hcursor := fixed_modFixed (g := fun f => { f with cursor := n + e.length }) hf
  refine ⟨fun hkind => ?read, fun hkind => ?stall, fun hkind => ?resume, fun hkind hready hvalid => ?doorbell⟩
  case read =>
    refine Gives.of_eq (congrArg Host.Outcome.next hdue) (by rw [replayEntry, hkind]) ⟨?_, ?_⟩
    · exact modFixed_frame (by decide) (modFixed_frame (by decide) (SameBut.refl _ s))
    · exact fixed_modFixed hcursor
  case stall =>
    refine Gives.of_eq (congrArg Host.Outcome.next hdue) (by rw [replayEntry, hkind]) ?_
    simp only [hlive, Bool.false_eq_true, if_false]
    obtain ⟨y, hy, hc, hs⟩ := (consumeEntry_logOnly (o := o)).fixed (fixed_modFixed (g := fun f => { f with stalled := true }) hcursor)
    exact ⟨y, hy, hc, hs⟩
  case resume =>
    refine Gives.of_eq (congrArg Host.Outcome.next hdue) (by rw [replayEntry, hkind]) ?_
    obtain ⟨y, hy, hc, hs⟩ := (consumeEntry_logOnly (o := o)).fixed (fixed_modFixed (g := fun f => { f with stalled := false }) hcursor)
    exact ⟨y, hy, hc, hs⟩
  case doorbell =>
    refine Gives.of_eq (congrArg Host.Outcome.next hdue) (by rw [replayEntry, hkind]) ?_
    simp only [hlive, Bool.false_eq_true, if_false]
    have hmoved : ctx? (modFixed c (fun f => { f with cursor := n + e.length }) s) c =
        some { x with fixed := some { f with cursor := n + e.length } } := by
      rw [ctx_modFixed, hx, Option.map_some, hfixed]
      rfl
    obtain ⟨⟨y, hy, hc⟩, z, hz, htail⟩ := takeDoorbell_sets (consumeEntry_logOnly (o := o)) hmoved rfl hvalid
    refine ⟨⟨y, hy, hc, trivial⟩, z, hz, htail.trans (BitVec.eq_of_toNat_eq ?_)⟩
    simp only [w64, BitVec.toNat_ofNat]
    omega

end Sys2Proof.Machine
end

section
/-!
SUPPORT and CLAIM. The admin queue (04_objects_lifecycle, R120 to R126): the queue of a function is read and written
apart from what a request at the edge touches, one request of 64 bytes is issued under a free tag, and the obligation
O27.
-/
namespace Sys2Proof.Machine

section AdminQueue
variable {s t u : State} {g h : Fun} {L : List StatePart} {f : AdminQ → AdminQ}

/-! ### What leaves the admin queue -/

/-- The queue of a function takes a value, and no other function's queue changes. -/
def AdminSet (g : Fun) (a : AdminQ) (s t : State) : Prop := (getFn t g).admin = a ∧ OtherAdmin g s t

theorem AdminSet.after (h : AdminSet g a s t) (k : SameBut L t u) (hl : .admin ∉ L) : AdminSet g a s u :=
  ⟨(k.fn_admin hl g).trans h.1, fun j hj => (k.fn_admin hl j).trans (h.2 j hj)⟩

theorem AdminSet.of_same (h : SameBut L s t) (hl : .admin ∉ L) : AdminSet g (getFn s g).admin s t :=
  ⟨h.fn_admin hl g, fun j _ => h.fn_admin hl j⟩

theorem modAdmin_set (hfns : s.fns.length = 32) : AdminSet g (f (getFn s g).admin) s (modAdmin g f s) :=
  ⟨by rw [getFn_modAdmin hfns], fun j hj => by rw [getFn_modAdmin_other hj]⟩

theorem askAdmin_sameBut : SameBut [.counters, .requests, .ats, .int, .out] s (askAdmin g s) :=
  askAdmin_frame (fun _ h => h) (SameBut.refl _ s)

theorem stopAdmin_sameBut : SameBut [.requests] s (stopAdmin g s) := stopAdmin_frame (fun _ h => h) (SameBut.refl _ s)

/-- A register of the queue takes its value (R120). -/
theorem writeAdmin_set (hfns : s.fns.length = 32) : AdminSet g (f (getFn s g).admin) s (writeAdmin g f s) :=
  ((modAdmin_set hfns).after stopAdmin_sameBut (by decide)).after askAdmin_sameBut (by decide)

theorem adminWrite_gives (hinv : Inv s) {c : Instr} (hc : exec c s = .next (adminWrite g f s)) (hopen : barOpen s g = true) :
    Gives c s fun t => AdminSet g (f (getFn s g).admin) s t ∧ SameBut adminParts s t :=
  Gives.of_eq hc (if_pos hopen) ⟨writeAdmin_set hinv.fns, writeAdmin_frame (by decide) (SameBut.refl _ s)⟩

/-! ### The registers (R120 to R122) -/

theorem field_low (v : U64) : field v.toNat 3 0 = v.toNat % 16 := by simp [field]

theorem ringStarts_fresh {sq : Bool} {a : AdminQ} (hs : a.sqEnable = true) (hc : a.cqEnable = true) (hclr : a.cleared = true) :
    ringStarts sq a = { a with
      cleared := false, sqTail := 0, sqHead := 0, cqHead := 0, cqTail := 0
      error := if ringLogOk a.sqLog2 && ringLogOk a.cqLog2 then .none else .badGeometry } := by
  simp [ringStarts, hs, hc, hclr]

theorem ringStarts_enables {sq : Bool} {a : AdminQ} : (ringStarts sq a).sqEnable = a.sqEnable ∧
    (ringStarts sq a).cqEnable = a.cqEnable ∧ (ringStarts sq a).sqLog2 = a.sqLog2 ∧ (ringStarts sq a).cqLog2 = a.cqLog2 := by
  unfold ringStarts
  split
  · exact ⟨rfl, rfl, rfl, rfl⟩
  · rw [apply_ite AdminQ.sqEnable, apply_ite AdminQ.cqEnable, apply_ite AdminQ.sqLog2, apply_ite AdminQ.cqLog2]
    simp only [ite_self, and_self]

theorem ringStops_enables {a : AdminQ} : (ringStops a).sqEnable = a.sqEnable ∧ (ringStops a).cqEnable = a.cqEnable ∧
    (ringStops a).sqLog2 = a.sqLog2 ∧ (ringStops a).cqLog2 = a.cqLog2 := by
  unfold ringStops
  split <;> exact ⟨rfl, rfl, rfl, rfl⟩

/-- The queue as it is while the second ring is enabled after both were clear (R121). -/
def AdminFresh (a : AdminQ) : Prop := a.sqHead = 0 ∧ a.sqTail = 0 ∧ a.cqHead = 0 ∧ a.cqTail = 0 ∧ a.cleared = false ∧
  a.error = if ringLogOk a.sqLog2 && ringLogOk a.cqLog2 then QError.none else .badGeometry

theorem ringStarts_stops_fresh {sq : Bool} {a : AdminQ} (hs : a.sqEnable = true) (hc : a.cqEnable = true)
    (hclr : a.cleared = true) : AdminFresh (ringStops (ringStarts sq a)) := by
  rw [ringStarts_fresh hs hc hclr, ringStops, if_neg (by simp [hs])]
  exact ⟨rfl, rfl, rfl, rfl, rfl, rfl⟩

theorem ringStops_empties {a : AdminQ} (hs : a.sqEnable = false) (hc : a.cqEnable = false) :
    (ringStops a).held = [] ∧ (ringStops a).cleared = true := by
  rw [ringStops, if_pos (by simp [hs, hc])]
  exact ⟨rfl, rfl⟩

theorem writeSqControl_spec (a : AdminQ) (v : U64) : (writeSqControl v a).sqEnable = v.getLsbD 31 ∧
    (writeSqControl v a).sqLog2 = (if a.sqEnable then a.sqLog2 else v.toNat % 16) ∧
    (v.getLsbD 31 = false → a.cqEnable = false → (writeSqControl v a).held = [] ∧ (writeSqControl v a).cleared = true) ∧
    (v.getLsbD 31 = true → a.sqEnable = false → a.cqEnable = true → a.cleared = true → AdminFresh (writeSqControl v a)) := by
  unfold writeSqControl
  rw [field_low]
  dsimp only
  refine ⟨?_, ?_, fun hv hc => ?_, fun hv hs hc hclr => ?_⟩
  · rw [ringStops_enables.1]
    split
    · rw [ringStarts_enables.1]
    · rfl
  · rw [ringStops_enables.2.2.1]
    split
    · rw [ringStarts_enables.2.2.1]
    · rfl
  · rw [if_neg (by rw [hv]; simp)]
    exact ringStops_empties hv hc
  · rw [if_pos (by simp [hv, hs])]
    exact ringStarts_stops_fresh hv hc hclr

theorem writeCqControl_spec (a : AdminQ) (v : U64) : (writeCqControl v a).cqEnable = v.getLsbD 31 ∧
    (writeCqControl v a).cqLog2 = (if a.cqEnable then a.cqLog2 else v.toNat % 16) ∧
    (v.getLsbD 31 = false → a.sqEnable = false → (writeCqControl v a).held = [] ∧ (writeCqControl v a).cleared = true) ∧
    (v.getLsbD 31 = true → a.cqEnable = false → a.sqEnable = true → a.cleared = true → AdminFresh (writeCqControl v a)) := by
  unfold writeCqControl
  rw [field_low]
  dsimp only
  refine ⟨?_, ?_, fun hv hs => ?_, fun hv hc hs hclr => ?_⟩
  · rw [ringStops_enables.2.1]
    split
    · rw [ringStarts_enables.2.1]
    · rfl
  · rw [ringStops_enables.2.2.2]
    split
    · rw [ringStarts_enables.2.2.2]
    · rfl
  · rw [if_neg (by rw [hv]; simp)]
    exact ringStops_empties hs hv
  · rw [if_pos (by simp [hv, hc])]
    exact ringStarts_stops_fresh hs hv hclr

theorem writeSqTail_spec (a : AdminQ) (v : U64) : writeSqTail v a =
    if (v.setWidth 16 - a.sqHead).toNat ≤ 2 ^ a.sqLog2 then { a with sqTail := v.setWidth 16 }
    else { a with error := if a.error = .none then .badTail else a.error } := by
  have hv : BitVec.ofNat 16 v.toNat = v.setWidth 16 := by simp
  unfold writeSqTail
  rw [hv]
  dsimp only
  by_cases h : (v.setWidth 16 - a.sqHead).toNat ≤ 2 ^ a.sqLog2
  · rw [if_neg (Nat.not_lt_of_le h), if_pos h]
  · rw [if_pos (Nat.lt_of_not_le h), if_neg h]
    rfl

/-! ### Entries (R121, R124) -/

theorem adminOpen_congr (hk : SameBut [.counters, .requests, .ats, .int, .out] s t) : adminOpen t g = adminOpen s g := by
  have hstate := hk.fn_fnState (by decide) g
  simp only [FnSt.fnStatePart, Prod.mk.injEq] at hstate
  rw [adminOpen, fnPresent, hstate.1, hstate.2.1, hk.fn_admin (by decide) g, adminOpen, fnPresent]

theorem freeTagOf_sameBut {p : Port} {tag : ReqTag} : SameBut [.counters, .requests, .ats, .int, .out] s (freeTagOf p tag s) :=
  freeTagOf_frame (fun _ h => h) (SameBut.refl _ s)

theorem adminEntry_taken (hfns : s.fns.length = 32) {w : TagUse} {ok : Bool} {entry : Bytes} (hw : adminRead? s g = some w)
    (huse : w.use = .admin g true) (hopen : adminOpen s g = true) :
    AdminSet g (takeEntry ok entry (getFn s g).admin) s (adminEntry g ok entry s) := by
  have hfree := freeTagOf_sameBut (s := s) (p := portOf g) (tag := w.tag)
  unfold adminEntry
  rw [hw]
  dsimp only
  rw [entryComes, adminOpen_congr hfree, huse, hopen, if_pos (by simp)]
  have hset := modAdmin_set (g := g) (f := takeEntry ok entry) ((hfree.fns_length (by decide)).trans hfns)
  rw [hfree.fn_admin (by decide) g] at hset
  exact ⟨hset.1, fun j hj => (hset.2 j hj).trans (hfree.fn_admin (by decide) j)⟩

theorem adminEntry_stopped {w : TagUse} {ok : Bool} {entry : Bytes} (hw : adminRead? s g = some w)
    (huse : w.use = .admin g false) : AdminSet g (getFn s g).admin s (adminEntry g ok entry s) := by
  unfold adminEntry
  rw [hw]
  dsimp only
  rw [entryComes, huse, if_neg (by simp)]
  exact AdminSet.of_same freeTagOf_sameBut (by decide)

/-! ### One request of a read (R60, R61) -/

theorem freeTag_congr (ht : (getPort t (portOf g)).tags = (getPort s (portOf g)).tags)
    (ho : objNum t (0x2100 + g.val) 3 = objNum s (0x2100 + g.val) 3) : freeTag t g = freeTag s g := by
  have hlimit : tagLimit t g = tagLimit s g := ho
  have hheld : tagsHeld t g = tagsHeld s g := by rw [tagsHeld, ht, tagsHeld]
  rw [freeTag, ht, hlimit, hheld, freeTag]

/-- The one request that waits on a port is the next to be served, where it may take a tag (R61). -/
theorem nextWait_single {p : Port} {w : TagWait} (hwaits : (getPort s p).waits = [w]) (hmay : mayTake s w = true) :
    nextWait s p = some w := by
  have hall (k : Nat) : ([w].find? fun v => fnOf v.fn == k && mayTake s v) =
      if fnOf w.fn = k then some w else none := by
    by_cases hk : fnOf w.fn = k <;> simp [hk, hmay]
  have hlt : fnOf w.fn < 8 := Nat.mod_lt _ (by decide)
  unfold nextWait
  dsimp only
  rw [hwaits]
  simp only [hall]
  generalize htotal : List.findSome? _ _ = r
  cases r with
  | none =>
    have hnone := List.findSome?_eq_none_iff.1 htotal (fnOf w.fn) (List.mem_map.2
      ⟨(fnOf w.fn + 7 * ((getPort s p).tagTurn + 1)) % 8, List.mem_range.2 (Nat.mod_lt _ (by decide)), by omega⟩)
    simp at hnone
  | some v =>
    obtain ⟨k, _, hk⟩ := List.exists_of_findSome?_eq_some htotal
    split at hk
    · exact hk.symm
    · cases hk

/-- A request without a PASID of a function that has a free tag is issued where nothing else of the port waits (R61). -/
theorem requestTag_issues (hports : s.ports.length = 4) {use : ReadUse} {a off n : Nat} {tag : ReqTag}
    (hwaits : (getPort s (portOf h)).waits = []) (hopen : dmaOpen s = true) (htag : freeTag s h = some tag)
    (huse : use = .admin g true) (hmaster : masterOpen s h = true) :
    .read (portOf h) tag a none n ∈ (requestTag ⟨h, use, none, a, off, n⟩ s).out := by
  subst huse
  let w : TagWait := ⟨h, .admin g true, none, a, off, n⟩
  let s1 := modPort (portOf h) (fun x => { x with
    waits := if x.waits.contains w then x.waits else x.waits ++ [w] }) s
  have hport : getPort s1 (portOf h) = { getPort s (portOf h) with waits := [w] } := by
    rw [getPort_modPort hports, hwaits]
    rfl
  have hfree : freeTag s1 h = some tag := by
    rw [← htag]
    exact freeTag_congr (by rw [hport]) rfl
  have hmay : mayTake s1 w = true := by
    rw [mayTake, hfree]
    exact hmaster
  have hnext : nextWait s1 (portOf h) = some w := nextWait_single (by rw [hport]) hmay
  have hserve : requestTag w s = issueUnder w tag (modPort (portOf h) (fun x => { x with
      waits := x.waits.erase w, tagTurn := fnOf h }) s1) := by
    have hlen : (getPort s1 (portOf h)).waits.length = 1 := by rw [hport]; rfl
    have hopen' : dmaOpen s1 = true := hopen
    unfold requestTag serveWaits
    rw [hlen, serveTags, hopen', hnext]
    dsimp only
    rw [hfree]
    rfl
  rw [hserve]
  exact List.mem_cons_self

/-- The slot of an entry lies within a page, as the ring is aligned to one (R120, R121). -/
theorem adminSlot_page {a : AdminQ} (ha : AdminOk a) (i : U16) : adminSlot a i % 4096 + 64 ≤ 4096 := by
  obtain ⟨hsq, _⟩ := ha
  unfold adminSlot
  omega

theorem adminOk (hinv : Inv s) (g : Fun) : AdminOk (getFn s g).admin := by
  have hmem : getFn s g ∈ s.fns := by
    rw [getFn, getD_of_lt _ _ (by rw [hinv.fns]; exact g.isLt)]
    exact List.getElem_mem _
  exact (hinv.fnOk _ hmem).admin

/-- The next entry of a queue that reads is asked for under a free tag (R124). -/
theorem askAdmin_issues (hinv : Inv s) {tag : ReqTag} (hreads : adminReads s g = true)
    (hnone : adminRead? s g = none) (hwaits : (getPort s (portOf g)).waits = []) (htag : freeTag s g = some tag)
    (hopen : dmaOpen s = true) :
    .read (portOf g) tag (adminSlot (getFn s g).admin (getFn s g).admin.sqHead) none 64 ∈ (askAdmin g s).out := by
  have hout : tagsOf s (portOf g) (.admin g true) = [] := by
    rw [tagsOf, List.filter_eq_nil_iff]
    rintro v hv hcond
    rw [adminRead?, List.find?_eq_none] at hnone
    rw [Bool.and_eq_true, beq_iff_eq] at hcond
    exact hnone v hv (by rw [hcond.1, hcond.2]; simp)
  have hmaster : masterOpen s g = true := by
    have hstall : fnStalled s g = false := by
      simp only [adminReads, Bool.and_eq_true, Bool.not_eq_true'] at hreads
      exact hreads.1.2
    simpa [masterOpen, fnStalled] using hstall
  have hidle : readsOut s (portOf g) (.admin g true) = false := by
    simp [readsOut, hout, waitsOf, hwaits]
  have hask : askAdmin g s = requestTag ⟨g, .admin g true, none, adminSlot (getFn s g).admin (getFn s g).admin.sqHead,
      0, 64⟩ s := by
    unfold askAdmin
    rw [hreads, hidle, if_pos (by decide), hostRead, requests_single (by decide)
      (show 64 ≤ maxRead s g from Nat.le_trans (by decide : 64 ≤ 128) (payloadBytes_ge _)) (adminSlot_page (adminOk hinv g) _)]
    exact if_neg (by rw [hout, waitsOf, hwaits]; simp)
  rw [hask]
  exact requestTag_issues hinv.ports hwaits hopen htag rfl hmaster

/-! ### Completion records (R122) -/

theorem completionBytes_length (a : AdminQ) (d : AdminDone) : (completionBytes a d).length = 16 := by
  simp [completionBytes]

/-- The first record waiting is written to its place (R122). -/
theorem writeCompletion_writes (hinv : Inv s) {d : AdminDone} {ds : List AdminDone}
    (hheld : (getFn s g).admin.held = d :: ds) (hholds : adminHolds (getFn s g).admin = false)
    (hfull : cqFull (getFn s g).admin = false) (hstall : fnStalled s g = false) (hopen : dmaOpen s = true) :
    let a := (getFn s g).admin
    (getFn (writeCompletion g s) g).admin = { a with held := ds, cqTail := a.cqTail + 1 } ∧
      .write (portOf g) (a.cqBase.toNat + 16 * (a.cqTail.toNat % 2 ^ a.cqLog2)) none (completionBytes a d) ∈
        (writeCompletion g s).out := by
  intro a
  let u := emit (.write (portOf g) (a.cqBase.toNat + 16 * (a.cqTail.toNat % 2 ^ a.cqLog2)) none (completionBytes a d)) s
  have hwrite : writeCompletion g s =
      askAdmin g (fire g 256 (modAdmin g (fun a => { a with held := ds, cqTail := a.cqTail + 1 }) u)) := by
    have hpage : (a.cqBase.toNat + 16 * (a.cqTail.toNat % 2 ^ a.cqLog2)) % 4096 + (completionBytes a d).length ≤ 4096 := by
      have hcq : a.cqBase.toNat % 4096 = 0 := (adminOk hinv g).cq
      rw [completionBytes_length]
      omega
    unfold writeCompletion
    dsimp only
    rw [hheld]
    dsimp only
    rw [if_neg (by simp [hholds, hfull, hstall, hopen]),
      hostWrite_single hopen (by rw [completionBytes_length]; decide) (by rw [completionBytes_length]; decide) hpage]
  have hset : AdminSet g { a with held := ds, cqTail := a.cqTail + 1 } u (writeCompletion g s) := by
    rw [hwrite]
    have hmod := modAdmin_set (s := u) (g := g) (f := fun a => { a with held := ds, cqTail := a.cqTail + 1 }) hinv.fns
    exact (hmod.after (fire_frame (L := [.counters, .links, .intx, .fnCfg, .int, .power, .out]) (fun _ h => h)
      (SameBut.refl _ _)) (by decide)).after askAdmin_sameBut (by decide)
  have hout : u.out <:+ (writeCompletion g s).out := by
    rw [hwrite]
    have hok : Ok u (askAdmin g (fire g 256 (modAdmin g (fun a => { a with held := ds, cqTail := a.cqTail + 1 }) u))) :=
      askAdmin_ok (fire_ok (modAdmin_ok (fun _ hx => ⟨hx.sq, hx.cq⟩) (Ok.refl u)))
    exact hok.out
  exact ⟨hset.1, hout.subset List.mem_cons_self⟩

/-! ### Entries that are decided (R124, R126) -/

/-- An entry that is decided leaves the queue, and its record waits (R126). -/
theorem decide_gives (hfns : s.fns.length = 32) {b : Bytes} {st : AStatus} {result : Nat} :
    Decided s (decide_ g b st result s) g b st (if st = .success then w64 result else 0) ∧
      OtherAdmin g s (decide_ g b st result s) ∧ SameBut adminParts s (decide_ g b st result s) := by
  have hdone : decide_ g b st result s = askAdmin g (modAdmin g (fun a => { a with taken := none }) (modAdmin g (fun a =>
      { a with held := a.held ++ [⟨if st = .success then w64 result else 0, st, entTag b⟩] }) s)) := rfl
  have hfirst := modAdmin_set (g := g) (f := fun a =>
      { a with held := a.held ++ [⟨if st = .success then w64 result else 0, st, entTag b⟩] }) hfns
  have hsecond := modAdmin_set (s := modAdmin g (fun a =>
      { a with held := a.held ++ [⟨if st = .success then w64 result else 0, st, entTag b⟩] }) s) (g := g)
      (f := fun a => { a with taken := none }) (modAdmin_length.trans hfns)
  rw [hfirst.1] at hsecond
  obtain ⟨hset, hother⟩ := hsecond.after askAdmin_sameBut (by decide)
  exact ⟨hset, fun j hj => (hother j hj).trans (hfirst.2 j hj), decide__frame (by decide) (SameBut.refl _ s)⟩

theorem badOpcode_gives (hinv : Inv s) {b : Bytes} (hb : (getFn s g).admin.taken = some b)
    (hop : entOpcode b ∉ [1, 2, 3, 0x10, 0x11, 0x12, 0x13, 0x20, 0x21]) :
    Gives (.adminBadOpcode g) s fun t => Decided s t g b (if isReady s then .badOpcode else .notReady) 0 ∧
      OtherAdmin g s t ∧ SameBut adminParts s t := by
  have hentry : badOpcodeEntry g s = decide_ g b (if isReady s then .badOpcode else .notReady) 0 s := by
    unfold badOpcodeEntry
    rw [hb]
    exact if_neg fun hin => hop (List.contains_iff_mem.1 hin)
  have hresult : (if (if isReady s then AStatus.badOpcode else .notReady) = .success then w64 0 else 0) = 0 := by
    cases isReady s <;> rfl
  obtain ⟨hdecided, hother, hsame⟩ := decide_gives hinv.fns (g := g) (b := b)
    (st := if isReady s then .badOpcode else .notReady) (result := 0)
  exact Gives.of_eq (congrArg Host.Outcome.next hentry) rfl ⟨hresult ▸ hdecided, hother, hsame⟩

end AdminQueue

/-- Settles O27, a clause at a time: the registers by what a write leaves of the queue, the reads by the one request that
is issued, the records by the one write. -/
theorem adminQueueRegisters : Obligations.AdminQueueRegisters := by
  unfold Obligations.AdminQueueRegisters
  intro s g hinv a
  refine ⟨fun hopen v => ?registers, fun u entry hu hlen => ⟨fun huse hopen => ⟨?good, ?bad⟩,
    fun huse ok => ?stopped⟩, fun tag ok entry hnone hreads hwaits htag hopen => ?ask,
    fun d ds hheld hholds hfull hstall hopen => ?record, fun b hb hop => badOpcode_gives hinv hb hop⟩
  case registers =>
    intro fresh
    refine ⟨?sq, ?cq, ?tail, ?head⟩
    case sq =>
      obtain ⟨t, ht, ⟨hset, hother⟩, hsame⟩ := adminWrite_gives hinv (c := .adminSqControlWrite g v) rfl hopen
      refine ⟨t, ht, ?_, ?_, ?_, ?_, hother, hsame⟩
      all_goals simp only [fresh, hset]
      · exact (writeSqControl_spec a v).1
      · exact (writeSqControl_spec a v).2.1
      · exact (writeSqControl_spec a v).2.2.1
      · exact (writeSqControl_spec a v).2.2.2
    case cq =>
      obtain ⟨t, ht, ⟨hset, hother⟩, hsame⟩ := adminWrite_gives hinv (c := .adminCqControlWrite g v) rfl hopen
      refine ⟨t, ht, ?_, ?_, ?_, ?_, hother, hsame⟩
      all_goals simp only [fresh, hset]
      · exact (writeCqControl_spec a v).1
      · exact (writeCqControl_spec a v).2.1
      · exact (writeCqControl_spec a v).2.2.1
      · exact (writeCqControl_spec a v).2.2.2
    case tail =>
      obtain ⟨t, ht, ⟨hset, hother⟩, hsame⟩ := adminWrite_gives hinv (c := .adminSqTailWrite g v) rfl hopen
      exact ⟨t, ht, hset.trans (writeSqTail_spec a v), hother, hsame⟩
    case head =>
      obtain ⟨t, ht, ⟨hset, hother⟩, hsame⟩ := adminWrite_gives hinv (c := .adminCqHeadWrite g v) rfl hopen
      have hv : BitVec.ofNat 16 v.toNat = v.setWidth 16 := by simp
      exact ⟨t, ht, by rw [hset, hv], hother, hsame⟩
  case good =>
    refine Gives.of_eq rfl rfl ?_
    have hpad : padTo 64 entry = entry := hlen ▸ sliceBytes_zero_length entry
    have htaken := adminEntry_taken hinv.fns (ok := true) (entry := entry) hu huse hopen
    rwa [takeEntry, if_pos rfl, hpad] at htaken
  case bad =>
    refine Gives.of_eq rfl rfl ?_
    have herror : a.error = .none := by
      simp only [adminOpen, Bool.and_eq_true, beq_iff_eq] at hopen
      exact hopen.2
    have htaken := adminEntry_taken hinv.fns (ok := false) (entry := entry) hu huse hopen
    rwa [takeEntry, if_neg (by decide), keepError, if_pos herror] at htaken
  case stopped => exact Gives.of_eq rfl rfl (adminEntry_stopped hu huse)
  case ask =>
    refine Gives.of_eq (congrArg Host.Outcome.next (by rw [adminEntry, hnone])) rfl
      ⟨(askAdmin_sameBut.fn_admin (by decide) g), askAdmin_issues hinv hreads hnone hwaits htag hopen⟩
  case record => exact Gives.of_eq rfl rfl (writeCompletion_writes hinv hheld hholds hfull hstall hopen)

end Sys2Proof.Machine
end

section
/-!
SUPPORT. Which counters errors and lost contexts count (12_errors, R397): beside those of records, wakes, interrupts,
lost contexts and revoked leases, they leave every counter as it is.
-/
namespace Sys2Proof.Machine

section Counts
variable {s t u : State} {n : Nat} {L : List StatePart}

/-- The counters of one subindex are as they were. -/
def CountsKept (n : Nat) (s t : State) : Prop := ∀ index, assocGet t.counters (index * 256 + n) = assocGet s.counters (index * 256 + n)

/-- A subindex that errors and lost contexts do not count: neither flash records (1), lost contexts (7), revoked leases
(10), wakes (17) nor interrupts (19). -/
def Uncounted (n : Nat) : Prop := n < 256 ∧ n ∉ [1, 7, 10, 17, 19]

theorem CountsKept.refl (s : State) : CountsKept n s s := fun _ => rfl

theorem CountsKept.trans (h : CountsKept n s t) (k : CountsKept n t u) : CountsKept n s u := fun i => (k i).trans (h i)

theorem CountsKept.of_eq (h : t.counters = s.counters) : CountsKept n s t := fun i => by rw [h]

theorem SameBut.countsKept (h : SameBut L s t) (hl : .counters ∉ L) : CountsKept n s t := .of_eq (h.2.2 .counters hl)

theorem CountsKept.after (h : CountsKept n s t) (k : SameBut L t u) (hl : .counters ∉ L) : CountsKept n s u :=
  h.trans (k.countsKept hl)

theorem count_countsKept {index sub : Nat} (hn : n < 256) (hsub : sub < 256) (hne : sub ≠ n) :
    CountsKept n s (count index sub s) := fun i => count_counters_other (by omega)

theorem foldState_countsKept {α : Type} {f : α → State → State} (hf : ∀ a t, CountsKept n t (f a t)) (l : List α) :
    CountsKept n s (foldState f l s) :=
  foldState_keeps (P := fun t => CountsKept n s t) (fun a t h => h.trans (hf a t)) l (.refl s)

/-! ### Firings (R355 to R366) -/

theorem settleIntx_countsKept (hn : Uncounted n) {before : State} {p : Port} : CountsKept n s (settleIntx before p s) := by
  have hfold : CountsKept n s (foldState (fun g s =>
      if contribution s g && !contribution before g then countFn g 0x13 s else s) (fnsOf p) s) :=
    foldState_countsKept (fun g t => by
      split
      · exact count_countsKept hn.1 (by decide) (by rintro rfl; exact hn.2 (by decide))
      · exact .refl t) _
  exact hfold.after (sendIntx_frame (L := [.intx, .out]) (by decide) (SameBut.refl _ _)) (by decide)

theorem runWeir_countsKept (hn : Uncounted n) {before : State} {g : Fun} : CountsKept n s (runWeir g before s) := by
  unfold runWeir
  split
  · exact .refl s
  · extract_lets w was s1 f s2
    have h1 : CountsKept n s s1 := .of_eq rfl
    have h2 : CountsKept n s1 s2 := by
      simp only [s2]
      split
      · exact .of_eq rfl
      · exact .refl s1
    exact (h1.trans h2).trans (settleIntx_countsKept hn)

theorem setLatch_countsKept (hn : Uncounted n) {g : Fun} {k : Nat} : CountsKept n s (setLatch g k s) := by
  unfold setLatch
  dsimp only
  split
  · split
    · exact .of_eq rfl
    · exact .of_eq rfl
  · exact CountsKept.trans (t := modInt g _ s) (.of_eq rfl) (runWeir_countsKept hn)

theorem assertWake_countsKept {g : Fun} {k : Nat} : CountsKept n s (assertWake g k s) :=
  (assertWake_frame (L := [.links, .out]) (by decide) (SameBut.refl _ s)).countsKept (by decide)

theorem startWake_countsKept (hn : Uncounted n) {code : Nat} : CountsKept n s (startWake code s) := by
  have hwake (u : State) : CountsKept n u (entryWake code u) := by
    unfold entryWake
    dsimp only
    split
    · exact assertWake_countsKept
    · exact .refl u
  exact (CountsKept.trans (t := modPower _ s) (.of_eq rfl) (hwake _)).trans
    (count_countsKept hn.1 (by decide) (by rintro rfl; exact hn.2 (by decide)))

theorem askWake_countsKept (hn : Uncounted n) {code : Nat} : CountsKept n s (askWake code s) := by
  unfold askWake
  split
  · exact startWake_countsKept hn
  · exact .of_eq rfl
  · exact .refl s

theorem wakeFires_countsKept (hn : Uncounted n) {w : WakeInput} : CountsKept n s (wakeFires w s) := by
  have hassert (u : State) : CountsKept n u (match w with
      | .source g k => assertWake g k u
      | .input _ => u) := by
    split
    · exact assertWake_countsKept
    · exact .refl u
  have hlatch : CountsKept n s (latchLater w s) := by
    unfold latchLater
    split <;> exact .of_eq rfl
  unfold wakeFires
  split
  · split
    · split
      · exact assertWake_countsKept
      · exact .refl s
    · exact .refl s
  · dsimp only
    split
    · exact hlatch
    · exact (hlatch.trans (hassert _)).trans (askWake_countsKept hn)

theorem fire_countsKept (hn : Uncounted n) {g : Fun} {k : Nat} : CountsKept n s (fire g k s) := by
  unfold fire
  dsimp only
  split
  · exact (wakeFires_countsKept hn).trans (setLatch_countsKept hn)
  · exact wakeFires_countsKept hn

/-! ### Errors (R373 to R379) -/

theorem reactNmi_countsKept (hn : Uncounted n) {e : Src} : CountsKept n s (reactNmi e s) := by
  unfold reactNmi
  dsimp only
  split
  · exact CountsKept.trans (t := { setObj 0x9000 7 (Val.bytes (fatalRecord (emit (.nmi e) s))) (emit (.nmi e) s) with
      stored := _, mgmt := _ }) (.of_eq rfl)
      (count_countsKept hn.1 (by decide) (by rintro rfl; exact hn.2 (by decide)))
  · exact .of_eq rfl

theorem raiseWith_countsKept (hn : Uncounted n) {e : Src} {i : ErrInfo} {lost : List CtxId} :
    CountsKept n s (raiseWith e i lost s) := by
  unfold raiseWith
  split
  · exact .refl s
  · extract_lets r cls s1 s2 s3 s4 s5 s6
    have h3 : SameBut [.int, .capture, .err] s s3 := by
      have h1 : SameBut [.int, .capture, .err] s s1 := countError_frame (by decide) (SameBut.refl _ s)
      refine reactReset_frame (by decide) (SameBut.ite ?_ (SameBut.ite ?_ h1))
      · exact foldState_frame (fun a t h => captureFn_frame (by decide) h) (capturePackage_frame (by decide) h1)
      · exact foldState_frame (fun a t h => captureFn_frame (by decide) h) h1
    have h4 : CountsKept n s s4 := by
      simp only [s4]
      split
      · exact (h3.countsKept (by decide)).trans (reactNmi_countsKept hn)
      · exact h3.countsKept (by decide)
    have h5 : CountsKept n s s5 := h4.after (SameBut.ite (L := [.int, .err, .out])
      (reactPin_frame (by decide) (SameBut.refl _ s4)) (SameBut.refl _ s4)) (by decide)
    have h6 : CountsKept n s s6 := by
      simp only [s6]
      split
      · refine h5.trans (foldState_countsKept (fun g t => ?_) _)
        exact CountsKept.trans (t := formEvent g 0 5 _ none _ _ t) (.of_eq rfl) (fire_countsKept hn)
      · exact h5
    exact h6.after (SameBut.ite (L := [.fnCfg, .out]) (foldState_frame (fun a t h =>
      SameBut.ite (aerUncorrectable_frame (by decide) h) h) (SameBut.refl _ s6)) (SameBut.refl _ s6)) (by decide)

theorem raiseError_countsKept (hn : Uncounted n) {e : Src} {i : ErrInfo} : CountsKept n s (raiseError e i s) :=
  raiseWith_countsKept hn

/-! ### Lost contexts (R130) -/

theorem revokeWhere_countsKept (hn : Uncounted n) {hit : Lease → Bool} {owner : ScanOwner} :
    CountsKept n s (revokeWhere hit owner s) := by
  unfold revokeWhere
  refine CountsKept.trans (t := { s with trans := _ }) (.of_eq rfl) (foldState_countsKept (fun l t => ?_) _)
  exact CountsKept.trans (t := emit (.leaseRevoke l.cluster l.slot) t) (.of_eq rfl)
    (count_countsKept hn.1 (by decide) (by rintro rfl; exact hn.2 (by decide)))

theorem loseContext_countsKept (hn : Uncounted n) {c : CtxId} {r : LostReason} {cause : List (Nat × CStatus)} {d : U64}
    {i : ErrInfo} : CountsKept n s (loseContext c r cause d i s) := by
  unfold loseContext
  split
  · exact .refl s
  · dsimp only
    split
    · exact .refl s
    · rename_i x _ _
      let lost := modCtx c (fun y => { y with state := .lost, lostReason := r, lostGtc := s.gtc }) s
      let ended := foldState (loseCmd cause) (lost.cmd.table.filter fun y => y.ctx == c) lost
      have hended : CountsKept n s ended := CountsKept.after (t := lost) (.of_eq rfl)
        (foldState_frame (L := [.cmds, .engines, .peers, .windows, .out]) (fun a t h => loseCmd_frame (by decide) h)
          (SameBut.refl _ lost)) (by decide)
      have hrevoked : CountsKept n s (revokeCtxLeases c ended) := hended.trans (revokeWhere_countsKept hn)
      split
      · exact hrevoked
      · have hcounted (u : State) : CountsKept n u (countFn x.fn 0x07 u) :=
          count_countsKept hn.1 (by decide) (by rintro rfl; exact hn.2 (by decide))
        exact (CountsKept.trans (t := formEvent x.fn x.eventRing 2 (lostCode r) (some c) _ d (revokeCtxLeases c ended))
          hrevoked (hcounted _)).trans (raiseWith_countsKept hn)

theorem faultCmd_countsKept (hn : Uncounted n) {c : CtxId} {q : Nat} {st : CStatus} {i : ErrInfo} :
    CountsKept n s (faultCmd c q st i s) := by
  unfold faultCmd
  split
  · split
    · exact loseContext_countsKept hn
    · exact (endCmd_frame (L := [.cmds, .engines, .peers, .windows, .out]) (by decide) (SameBut.refl _ s)).countsKept (by decide)
  · exact .refl s

/-- What is counted stays counted. -/
theorem Counted.kept {index : Nat} (h : Counted s t index n) (k : CountsKept n t u) : Counted s u index n := by
  intro hlt
  rw [k index]
  exact h hlt

theorem Counted.of_counters {index : Nat} (h : Counted t u index n) (ht : t.counters = s.counters) : Counted s u index n := by
  rw [Counted, ← ht]
  exact h

end Counts
end Sys2Proof.Machine
end

section
/-!
SUPPORT and CLAIM. The fault queue (07_transfers_faults, R240 to R249): records that are written, answered and expire, and
the obligation O37.
-/
namespace Sys2Proof.Machine

section FaultQueues
variable {s t u : State} {g : Fun} {L : List StatePart} {f : FaultQ → FaultQ} {r : FaultRec} {rs : List FaultRec}
  {id : U32} {x : Ctx} {st : CStatus} {i : ErrInfo}

theorem faultqOk (hinv : Inv s) (g : Fun) : FaultqOk (getFn s g).faultq := by
  have hmem : getFn s g ∈ s.fns := by
    rw [getFn, getD_of_lt _ _ (by rw [hinv.fns]; exact g.isLt)]
    exact List.getElem_mem _
  exact (hinv.fnOk _ hmem).faultq

theorem modFaultq_faultq (hfns : s.fns.length = 32) : (getFn (modFaultq g f s) g).faultq = f (getFn s g).faultq := by
  rw [getFn_modFaultq hfns]

theorem faultCmd_faultq {c : CtxId} {q : Nat} : (getFn (faultCmd c q st i s) g).faultq = (getFn s g).faultq :=
  (faultCmd_frame (L := [.od, .stored, .counters, .mgmt, .links, .intx, .fnCfg, .int, .capture, .ctxs, .cmds, .engines,
    .lookups, .peers, .windows, .err, .power, .out]) (fun _ h => h) (SameBut.refl _ s)).fn_faultq (by decide) g

theorem timeoutRecord_faultq : (getFn (timeoutRecord r s) g).faultq = (getFn s g).faultq :=
  (timeoutRecord_frame (L := [.od, .stored, .counters, .mgmt, .links, .intx, .fnCfg, .int, .capture, .ctxs, .cmds, .engines,
    .lookups, .peers, .windows, .err, .power, .out]) (fun _ h => h) (SameBut.refl _ s)).fn_faultq (by decide) g

/-! ### The queue stops (R245) -/

theorem endWaiting_runs (h : faultqRuns (getFn s g).faultq = true) : endWaiting g s = s := by
  simp [endWaiting, h]

/-- A queue that no longer takes records has none waiting, and nothing else of it changes (R245). -/
theorem endWaiting_stopped (hfns : s.fns.length = 32) (h : faultqRuns (getFn s g).faultq = false) :
    (getFn (endWaiting g s) g).faultq = { (getFn s g).faultq with waiting := [] } := by
  have hend : endWaiting g s = foldState timeoutRecord (getFn s g).faultq.waiting
      (modFaultq g (fun z => { z with waiting := [] }) s) := by simp [endWaiting, h]
  have hfold (l : List FaultRec) (t : State) : (getFn (foldState timeoutRecord l t) g).faultq = (getFn t g).faultq :=
    foldState_keeps (P := fun u => (getFn u g).faultq = (getFn t g).faultq)
      (fun r u hu => timeoutRecord_faultq.trans hu) l rfl
  rw [hend, hfold, modFaultq_faultq hfns]

/-- Whether or not the queue still runs, only the records waiting may change. -/
theorem endWaiting_faultq (hfns : s.fns.length = 32) : ∃ w, (getFn (endWaiting g s) g).faultq =
    { (getFn s g).faultq with waiting := w } := by
  cases h : faultqRuns (getFn s g).faultq with
  | true => exact ⟨_, by rw [endWaiting_runs h]⟩
  | false => exact ⟨_, endWaiting_stopped hfns h⟩

/-! ### Records are written (R241, R243) -/

theorem faultBytes_length {phase : Bool} : (faultBytes r phase).length = 64 := by simp [faultBytes]

theorem writeFaultRecord_writes (hinv : Inv s) (hwaiting : (getFn s g).faultq.waiting = r :: rs)
    (hruns : faultqRuns (getFn s g).faultq = true) (hstall : fnStalled s g = false)
    (hroom : ((getFn s g).faultq.tail - (getFn s g).faultq.head).toNat < 2 ^ (getFn s g).faultq.log2)
    (hopen : dmaOpen s = true) :
    let f := (getFn s g).faultq
    (getFn (writeFaultRecord g true s) g).faultq =
        { f with waiting := rs, pending := f.pending ++ [{ r with written := s.gtc }], tail := f.tail + 1 } ∧
      .write (portOf g) (f.base.toNat + 64 * (f.tail.toNat % 2 ^ f.log2)) none
        (faultBytes r (phaseOf f.tail.toNat f.log2)) ∈ (writeFaultRecord g true s).out := by
  intro f
  let written (z : FaultQ) : FaultQ := { z with
    waiting := rs, pending := z.pending ++ [{ r with written := s.gtc }], tail := z.tail + 1 }
  let u := emit (.write (portOf g) (f.base.toNat + 64 * (f.tail.toNat % 2 ^ f.log2)) none
    (faultBytes r (phaseOf f.tail.toNat f.log2))) s
  have hpage : (f.base.toNat + 64 * (f.tail.toNat % 2 ^ f.log2)) % 4096 +
      (faultBytes r (phaseOf f.tail.toNat f.log2)).length ≤ 4096 := by
    have hbase : f.base.toNat % 4096 = 0 := (faultqOk hinv g).base
    rw [faultBytes_length]
    omega
  have hwrite : writeFaultRecord g true s = fire g 257 (modFaultq g written u) := by
    unfold writeFaultRecord
    dsimp only
    rw [hwaiting]
    dsimp only
    rw [if_neg (by simp [hruns, hstall, hopen, Nat.not_le_of_lt hroom, -BitVec.toNat_sub]), if_neg (by decide),
      hostWrite_single hopen (by rw [faultBytes_length]; decide) (by rw [faultBytes_length]; decide) hpage]
    rfl
  rw [hwrite]
  constructor
  · have hfire := (fire_frame (L := [.counters, .links, .intx, .fnCfg, .int, .power, .out]) (g := g) (source := 257)
      (fun _ h => h) (SameBut.refl _ (modFaultq g written u))).fn_faultq (by decide) g
    rw [hfire, modFaultq_faultq (s := u) hinv.fns]
    rfl
  · have hok : Ok u (fire g 257 (modFaultq g written u)) := fire_ok (modFaultq_ok (fun _ hz => ⟨hz.base, hz.low, hz.high⟩) (Ok.refl u))
    exact hok.out.subset List.mem_cons_self

theorem writeFaultRecord_fails (hfns : s.fns.length = 32) (hwaiting : (getFn s g).faultq.waiting = r :: rs)
    (hruns : faultqRuns (getFn s g).faultq = true) (hstall : fnStalled s g = false)
    (hroom : ((getFn s g).faultq.tail - (getFn s g).faultq.head).toNat < 2 ^ (getFn s g).faultq.log2)
    (hopen : dmaOpen s = true) :
    (getFn (writeFaultRecord g false s) g).faultq = { (getFn s g).faultq with error := .dmaError, waiting := [] } := by
  have hwrite : writeFaultRecord g false s = endWaiting g (modFaultq g (fun z => { z with error := .dmaError }) s) := by
    unfold writeFaultRecord
    dsimp only
    rw [hwaiting]
    dsimp only
    rw [if_neg (by simp [hruns, hstall, hopen, Nat.not_le_of_lt hroom, -BitVec.toNat_sub]), if_pos (by decide)]
  have herror := modFaultq_faultq (g := g) (f := fun z => { z with error := .dmaError }) hfns
  rw [hwrite, endWaiting_stopped (modFaultq_length.trans hfns) (by rw [herror]; simp [faultqRuns]), herror]

/-! ### The registers (R240, R241) -/

theorem faultqControl_gives (hinv : Inv s) (hopen : barOpen s g = true) (v : U64) :
    Gives (.faultqControlWrite g v) s fun t => ∃ w, (getFn t g).faultq =
      { writeFaultqControl v (getFn s g).faultq with waiting := w } ∧
      (faultqRuns (writeFaultqControl v (getFn s g).faultq) = false → w = []) := by
  have hmod := modFaultq_faultq (g := g) (f := writeFaultqControl v) hinv.fns
  have hfns : (modFaultq g (writeFaultqControl v) s).fns.length = 32 := modFaultq_length.trans hinv.fns
  refine Gives.of_eq (congrArg Host.Outcome.next (if_pos hopen)) rfl ?_
  cases hruns : faultqRuns (writeFaultqControl v (getFn s g).faultq) with
  | true =>
    obtain ⟨w, hw⟩ := endWaiting_faultq (g := g) hfns
    exact ⟨w, by rw [hw, hmod], fun h => absurd h (by decide)⟩
  | false => exact ⟨[], by rw [endWaiting_stopped hfns (by rw [hmod]; exact hruns), hmod], fun _ => rfl⟩

/-! ### Answers (R246 to R249) -/

/-- A record's answer is shown, and an answer that is refused is counted (R246). -/
theorem respond_faultq (hfns : s.fns.length = 32) {n : Nat} : (getFn (respond g id n s) g).faultq =
    { (getFn s g).faultq with result := w64 (id.toNat * 2 ^ 32 + n) } := by
  have hmod := modFaultq_faultq (g := g) (f := fun f => { f with result := w64 (id.toNat * 2 ^ 32 + n) }) hfns
  unfold respond
  dsimp only
  split
  · exact hmod
  · exact ((countFn_frame (L := [.counters, .int]) (fun _ h => h) (SameBut.refl _ _)).fn_faultq (by decide) g).trans hmod

theorem respond_accepted_sameBut : SameBut [.faultq] s (respond g id 1 s) := by
  rw [respond, if_pos rfl]
  exact modFaultq_frame (by decide) (SameBut.refl _ s)

theorem answer_accepted {act : FaultRec → State → State} (hfind : ((getFn s g).faultq.pending.find? fun y => y.id == id) = some r)
    (hx : ctx? s r.ctx = some x) (hready : x.state = .ready) :
    answer g id act s = respond g id 1 (act r (takeRecord g id s)) := by
  simp [answer, hfind, hx, hready]

theorem takeRecord_faultq (hfns : s.fns.length = 32) : (getFn (takeRecord g id s) g).faultq =
    { (getFn s g).faultq with pending := (getFn s g).faultq.pending.filter fun r => r.id != id } := modFaultq_faultq hfns

theorem takeRecord_sameBut : SameBut [.faultq] s (takeRecord g id s) := modFaultq_frame (by decide) (SameBut.refl _ s)

/-- The answer shown and the records left after an accepted answer whose action touches no fault queue. -/
theorem answered_faultq {act : FaultRec → State → State} (hfns : s.fns.length = 32)
    (hact : (getFn (act r (takeRecord g id s)) g).faultq = (getFn (takeRecord g id s) g).faultq)
    (hlen : (act r (takeRecord g id s)).fns.length = 32) :
    (getFn (respond g id 1 (act r (takeRecord g id s))) g).faultq.result = w64 (id.toNat * 2 ^ 32 + 1) ∧
      ∀ w ∈ (getFn (respond g id 1 (act r (takeRecord g id s))) g).faultq.pending, w.id ≠ id := by
  rw [respond_faultq hlen, hact, takeRecord_faultq hfns]
  exact ⟨rfl, fun w hw => by simpa using (List.mem_filter.1 hw).2⟩

theorem resumeCmd_goes_on {z : Cmd} {y : Xfer} (hz : cmd? s r.ctx r.q = some z) (hy : z.xfer = some y)
    (hon : s.power.on.getLsbD (28 + y.engine.val / 4) = true) (hwhole : s.det.enginesFenced.getLsbD y.engine.val = false) :
    resumeCmd r s = modCmd r.ctx r.q (fun x => { x with
      xfer := x.xfer.map fun y => { y with faulted := none, tile := none } }) s := by
  have hcmd : cmd? (modCmd r.ctx r.q (fun x => { x with
      xfer := x.xfer.map fun y => { y with faulted := none, tile := none } }) s) r.ctx r.q = _ :=
    cmd_modCmd_some hz (by exact fun _ => ⟨rfl, rfl⟩)
  unfold resumeCmd
  dsimp only
  rw [hcmd, hy]
  have hserves : (s.power.on.getLsbD (28 + y.engine.val / 4) && !s.det.enginesFenced.getLsbD y.engine.val) = true := by
    rw [hon, hwhole]; rfl
  exact if_pos hserves

theorem faultResume_gives (hinv : Inv s) (hopen : barOpen s g = true)
    (hfind : ((getFn s g).faultq.pending.find? fun y => y.id == id) = some r) (hx : ctx? s r.ctx = some x)
    (hready : x.state = .ready) {z : Cmd} {y : Xfer} (hz : cmd? s r.ctx r.q = some z) (hy : z.xfer = some y)
    (hon : s.power.on.getLsbD (28 + y.engine.val / 4) = true) (hwhole : s.det.enginesFenced.getLsbD y.engine.val = false) :
    Gives (.faultResume g id) s fun t => (getFn t g).faultq.result = w64 (id.toNat * 2 ^ 32 + 1) ∧
      (∀ w ∈ (getFn t g).faultq.pending, w.id ≠ id) ∧
      cmd? t r.ctx r.q = some { z with xfer := some { y with faulted := none, tile := none } } ∧
      SameBut [.faultq, .cmds] s t := by
  have hz' : cmd? (takeRecord g id s) r.ctx r.q = some z := hz
  have hresume := resumeCmd_goes_on hz' hy hon hwhole
  have hcmds : SameBut [.cmds] (takeRecord g id s) (resumeCmd r (takeRecord g id s)) := by
    rw [hresume]
    exact modCmd_frame (by decide) (SameBut.refl _ _)
  have hlen : (resumeCmd r (takeRecord g id s)).fns.length = 32 :=
    (hcmds.fns_length (by decide)).trans (modFaultq_length.trans hinv.fns)
  obtain ⟨hresult, hpending⟩ := answered_faultq (act := resumeCmd) hinv.fns (hcmds.fn_faultq (by decide) g) hlen
  refine Gives.of_eq (congrArg Host.Outcome.next ((if_pos hopen).trans (answer_accepted hfind hx hready))) rfl
    ⟨hresult, hpending, ?_, ?_⟩
  · rw [respond_accepted_sameBut.cmd? (by decide), hresume, cmd_modCmd_some hz' (by exact fun _ => ⟨rfl, rfl⟩), hy]
    rfl
  · exact ((takeRecord_sameBut.mono (L := [.faultq]) (by decide)).trans (hcmds.mono (by decide))).trans (respond_accepted_sameBut.mono (L := [.faultq]) (by decide))

/-- A fault that ends the context of its record (R248). -/
theorem faultCmd_lost {c : CtxId} {q : Nat} (hx : ctx? s c = some x) (hready : x.state = .ready) :
    LostFor s (faultCmd c q st i s) c (lostOf st) := by
  rw [faultCmd, hx]
  dsimp only
  rw [if_pos hready]
  exact loseContext_lost hx hready

theorem faultAbort_gives (hinv : Inv s) (hopen : barOpen s g = true)
    (hfind : ((getFn s g).faultq.pending.find? fun y => y.id == id) = some r) (hx : ctx? s r.ctx = some x)
    (hready : x.state = .ready) :
    Gives (.faultAbort g id) s fun t => (getFn t g).faultq.result = w64 (id.toNat * 2 ^ 32 + 1) ∧
      (∀ w ∈ (getFn t g).faultq.pending, w.id ≠ id) ∧ LostFor s t r.ctx .faultAborted := by
  have hx' : ctx? (takeRecord g id s) r.ctx = some x := hx
  have hok : Ok s (abortRecord r (takeRecord g id s)) :=
    faultCmd_ok (modFaultq_ok (fun _ hz => ⟨hz.base, hz.low, hz.high⟩) (Ok.refl s))
  have hlen : (abortRecord r (takeRecord g id s)).fns.length = 32 := (hok.inv hinv).fns
  obtain ⟨hresult, hpending⟩ := answered_faultq (act := abortRecord) hinv.fns faultCmd_faultq hlen
  refine Gives.of_eq (congrArg Host.Outcome.next ((if_pos hopen).trans (answer_accepted hfind hx hready))) rfl
    ⟨hresult, hpending, (faultCmd_lost hx' hready).congr rfl (respond_accepted_sameBut.ctx? (by decide))⟩

theorem badAction_gives (hinv : Inv s) (hopen : barOpen s g = true)
    (hfind : ((getFn s g).faultq.pending.find? fun y => y.id == id) = some r) {v : U64} (hv : actionOk v = false)
    (hid : v.toNat / 2 ^ 32 = id.toNat) :
    Gives (.faultResponseBadAction g v) s fun t => (getFn t g).faultq.result = w64 (id.toNat * 2 ^ 32 + 4) ∧
      (getFn t g).faultq.pending = (getFn s g).faultq.pending ∧ Counted s t (0xD100 + g.val) 12 := by
  have hvid : BitVec.ofNat 32 (v.toNat >>> 32) = id := by
    rw [Nat.shiftRight_eq_div_pow, hid]
    simp
  have hany : ((getFn s g).faultq.pending.any fun r => r.id == id) = true :=
    List.any_eq_true.2 ⟨r, List.mem_of_find?_eq_some hfind, List.find?_some (p := fun y : FaultRec => y.id == id) hfind⟩
  have hwrite : writeResponse g v s = respond g id 4 s := by
    unfold writeResponse
    dsimp only
    rw [if_pos (by rw [hv]; rfl), badAction]
    simp only [hvid]
    exact if_pos hany
  refine Gives.of_eq (congrArg Host.Outcome.next ((if_pos hopen).trans hwrite)) rfl ⟨?_, ?_, ?_⟩
  · rw [respond_faultq hinv.fns]
  · rw [respond_faultq hinv.fns]
  · exact Counted.of_counters (t := modFaultq g _ s) (counted_count _ _ _) rfl

theorem faultExpiry_gives (hinv : Inv s) (hfind : ((getFn s g).faultq.pending.find? fun y => y.id == id) = some r)
    (hx : ctx? s r.ctx = some x) (hready : x.state = .ready)
    (hlate : nsCounts (getFn s g).faultq.timeout.toNat ≤ (s.gtc - r.written).toNat) :
    Gives (.faultTimeoutExpiry g id) s fun t => LostFor s t r.ctx .faultTimeout ∧
      Counted s t (0xD100 + x.fn.val) 13 ∧ ∀ w ∈ (getFn t g).faultq.pending, w.id ≠ id := by
  have hx' : ctx? (takeRecord g id s) r.ctx = some x := hx
  have hexpire : expireRecord g id s = faultCmd r.ctx r.q .faultTimeout (recordInfo (takeRecord g id s) r)
      (countFn x.fn 0x0D (takeRecord g id s)) := by
    unfold expireRecord
    dsimp only
    rw [hfind]
    dsimp only
    rw [if_pos hlate, hx]
    dsimp only
    rw [if_pos hready, timeoutRecord, hx']
    exact if_pos hready
  have hcount : SameBut [.counters, .int] (takeRecord g id s) (countFn x.fn 0x0D (takeRecord g id s)) :=
    countFn_frame (by decide) (SameBut.refl _ _)
  refine Gives.of_eq (congrArg Host.Outcome.next hexpire) rfl ⟨?_, ?_, ?_⟩
  · exact (faultCmd_lost ((hcount.ctx? (by decide)).trans hx') hready).congr (hcount.2.2 .gtc (by decide)) rfl
  · exact Counted.kept (Counted.of_counters (counted_count (takeRecord g id s) _ _) rfl)
      (faultCmd_countsKept ⟨by decide, by decide⟩)
  · rw [faultCmd_faultq, hcount.fn_faultq (by decide), takeRecord_faultq hinv.fns]
    exact fun w hw => by simpa using (List.mem_filter.1 hw).2

end FaultQueues

/-- Settles O37, a clause at a time: the ring by the one write and the stop of the queue, the answers by the record they
take. -/
theorem faultQueue : Obligations.FaultQueue := by
  unfold Obligations.FaultQueue
  intro s g hinv f
  refine ⟨fun r rs hwaiting hruns hstall hroom hopen =>
      ⟨Gives.of_eq rfl rfl (writeFaultRecord_writes hinv hwaiting hruns hstall hroom hopen), Gives.of_eq rfl rfl ?fails⟩,
    fun v hopen => ⟨fun hv hoff => ?starts, fun hv => ?stops, ?head, ?timeout⟩,
    fun id r x hopen hfind hx hready => ⟨fun z y hz hy hon hwhole =>
        faultResume_gives hinv hopen hfind hx hready hz hy hon hwhole, faultAbort_gives hinv hopen hfind hx hready,
      fun v hv hid => badAction_gives hinv hopen hfind hv hid⟩,
    fun id r x hfind hx hready hlate => faultExpiry_gives hinv hfind hx hready hlate⟩
  case fails =>
    rw [writeFaultRecord_fails hinv.fns hwaiting hruns hstall hroom hopen]
    exact ⟨rfl, rfl, rfl⟩
  case starts =>
    obtain ⟨t, ht, w, hw, _⟩ := faultqControl_gives hinv hopen v
    have hwrite : writeFaultqControl v f = { f with
        enable := true, log2 := v.toNat % 16, tail := 0, head := 0
        error := if ringLogOk (v.toNat % 16) then .none else .badGeometry } := by
      simp only [writeFaultqControl, hv, hoff, field_low, Bool.false_eq_true, if_false, Bool.not_false, Bool.and_self, if_true]
    refine ⟨t, ht, ?_⟩
    dsimp only
    rw [hw, hwrite]
    exact ⟨rfl, rfl, rfl, rfl, rfl⟩
  case stops =>
    obtain ⟨t, ht, w, hw, hnone⟩ := faultqControl_gives hinv hopen v
    have henable : (writeFaultqControl v f).enable = false ∧ (writeFaultqControl v f).error = .none := by
      rw [writeFaultqControl, hv]
      exact ⟨rfl, rfl⟩
    refine ⟨t, ht, ?_⟩
    dsimp only
    rw [hw, hnone (by rw [faultqRuns, henable.1]; rfl)]
    exact ⟨henable.1, henable.2, rfl⟩
  case head =>
    have hv : BitVec.ofNat 16 v.toNat = v.setWidth 16 := by simp
    refine Gives.of_eq (congrArg Host.Outcome.next (if_pos hopen)) rfl ⟨?_, modFaultq_frame (by decide) (SameBut.refl _ s)⟩
    rw [modFaultq_faultq hinv.fns, hv]
  case timeout =>
    refine Gives.of_eq (congrArg Host.Outcome.next (if_pos hopen)) rfl ⟨modFaultq_frame (by decide) (SameBut.refl _ s), ?_⟩
    rw [modFaultq_faultq hinv.fns, clampTimeout, w64, BitVec.toNat_ofNat]
    omega

end Sys2Proof.Machine
end

section
/-!
SUPPORT and CLAIM. Windows are opened, closed, modified and refreshed (08_windows_coherence, R262 to R265): the obligation
O41.
-/
namespace Sys2Proof.Machine

section WindowRequests
variable {s t : State} {rq : Requester} {g : Fun} {r : WinRequest} {op st : Nat} {w : WindowId} {x : Win} {L : List StatePart}

theorem SameBut.windows (h : SameBut L s t) (hl : .windows ∉ L) :
    t.win.table = s.win.table ∧ t.win.refreshing = s.win.refreshing ∧ t.win.recvs = s.win.recvs := by
  have hw : t.win.windowsPart = s.win.windowsPart := h.2.2 .windows hl
  simp only [WinSt.windowsPart, Prod.mk.injEq] at hw
  obtain ⟨htable, _, _, hrecvs, _, hrefreshing⟩ := hw
  exact ⟨htable, hrefreshing, hrecvs⟩

theorem setResult_sameBut : SameBut [.fnOther] s (setResult g r op st s) := setResult_frame (fun _ h => h) (SameBut.refl _ s)

theorem setResult_result (hfns : s.fns.length = 32) : (getFn (setResult g r op st s) g).winResult = winResult r op st := by
  rw [setResult, getFn_modFn hfns]

theorem win_modWin {f : Win → Win} : win? (modWin w f s) w = (win? s w).map f := by
  simp only [win?, modWin]
  rw [find_map (fun a => by split <;> rfl)]
  cases h : s.win.table.find? fun e => e.1 == w with
  | none => rfl
  | some a =>
    have hkey : (a.1 == w) = true := by simpa using List.find?_some h
    simp only [Option.map_some, hkey, if_true]

theorem mem_insertWin {e : WindowId × Win} {l : List (WindowId × Win)} : e ∈ insertWin w x l ↔ e ∈ l ∨ e = (w, x) := by
  induction l with
  | nil => simp [insertWin]
  | cons a l ih =>
    rw [insertWin]
    split
    · simp only [List.mem_cons]; exact or_comm
    · simp only [List.mem_cons, ih]; exact or_assoc.symm

/-- A request that passes its checks while none is pending does what its Op says (R262). -/
theorem writeRequest_accepted (h : accepts s rq ⟨0x6100 + g.val, 3⟩ (.bytes (winBytes r op)))
    (hp : resultPending s g = false) : writeRequest rq g r op s =
      winRequest g r op (emit (.objectStatus rq ⟨0x6100 + g.val, 3⟩ .ok) s) :=
  requestWrite_accepted h (by simp [winRefused, hp])

theorem openFor_own (hx : win? s w = some x) (hopen : x.state = .opened) (hown : x.owner = g) : openFor s g w = true := by
  simp [openFor, hx, hopen, hown]

theorem windowOpen_gives (hinv : Inv s) (hp : resultPending s g = false)
    (h : accepts s rq ⟨0x6100 + g.val, 3⟩ (.bytes (winBytes r 1))) (hst : openStatus s g r = 0) :
    Gives (.windowOpen rq g r) s fun t => SameBut [.fnOther, .windows, .out] s t ∧
      (getFn t g).winResult = winResult r 1 0 ∧ ∀ e, e ∈ t.win.table ↔ e ∈ s.win.table ∨
        e = (r.window, ⟨.opened, g, r.table, r.root, r.read, r.write, r.atomic, r.srcMatch, r.mask⟩) := by
  let u := emit (.objectStatus rq ⟨0x6100 + g.val, 3⟩ .ok) s
  have hst' : openStatus u g r = 0 := hst
  have hopen : openWindow g r u = { setResult g r 1 0 u with win := { (setResult g r 1 0 u).win with
      table := insertWin r.window ⟨.opened, g, r.table, r.root, r.read, r.write, r.atomic, r.srcMatch, r.mask⟩
        (setResult g r 1 0 u).win.table } } := by
    rw [openWindow, hst']
    exact if_neg (by decide)
  refine Gives.of_eq (congrArg Host.Outcome.next ((writeRequest_accepted h hp).trans hopen)) rfl ⟨?_, ?_, fun e => mem_insertWin⟩
  · rw [← hopen]
    exact openWindow_frame (by decide) (emit_frame (by decide) (SameBut.refl _ s))
  · exact setResult_result (s := u) hinv.fns

theorem windowClose_gives (hinv : Inv s) (hp : resultPending s g = false) (hx : win? s r.window = some x)
    (hopen : x.state = .opened) (hown : x.owner = g) (h : accepts s rq ⟨0x6100 + g.val, 3⟩ (.bytes (winBytes r 2))) :
    Gives (.windowClose rq g r) s fun t => win? t r.window = some { x with state := .closing } ∧
      (getFn t g).winResult = winResult r 2 1 ∧ SameBut [.fnOther, .windows, .out] s t := by
  let u := emit (.objectStatus rq ⟨0x6100 + g.val, 3⟩ .ok) s
  have hclose : closeWindow g r u = setResult g r 2 1 (modWin r.window (fun x => { x with state := .closing }) u) :=
    if_pos (openFor_own (s := u) hx hopen hown)
  refine Gives.of_eq (congrArg Host.Outcome.next ((writeRequest_accepted h hp).trans hclose)) rfl ⟨?_, ?_, ?_⟩
  · have hwin := win_modWin (s := u) (w := r.window) (f := fun x => { x with state := .closing })
    rw [show win? u r.window = some x from hx] at hwin
    exact hwin
  · exact setResult_result (s := modWin r.window (fun x => { x with state := .closing }) u) hinv.fns
  · rw [← hclose]
    exact closeWindow_frame (by decide) (emit_frame (by decide) (SameBut.refl _ s))

theorem windowModify_gives (hinv : Inv s) (hp : resultPending s g = false) (hx : win? s r.window = some x)
    (hopen : x.state = .opened) (hown : x.owner = g) (h : accepts s rq ⟨0x6100 + g.val, 3⟩ (.bytes (winBytes r 3))) :
    Gives (.windowModify rq g r) s fun t => win? t r.window = some { x with
        read := r.read, write := r.write, atomic := r.atomic, srcMatch := r.srcMatch, mask := r.mask } ∧
      (getFn t g).winResult = winResult r 3 0 ∧ SameBut [.fnOther, .windows, .out] s t := by
  let u := emit (.objectStatus rq ⟨0x6100 + g.val, 3⟩ .ok) s
  let f (x : Win) : Win := { x with
    read := r.read, write := r.write, atomic := r.atomic, srcMatch := r.srcMatch, mask := r.mask }
  have hmodify : modifyWindow g r u = setResult g r 3 0 (modWin r.window f u) := if_pos (openFor_own (s := u) hx hopen hown)
  refine Gives.of_eq (congrArg Host.Outcome.next ((writeRequest_accepted h hp).trans hmodify)) rfl ⟨?_, ?_, ?_⟩
  · have hwin := win_modWin (s := u) (w := r.window) (f := f)
    rw [show win? u r.window = some x from hx] at hwin
    exact hwin
  · exact setResult_result (s := modWin r.window f u) hinv.fns
  · rw [← hmodify]
    exact modifyWindow_frame (by decide) (emit_frame (by decide) (SameBut.refl _ s))

theorem windowRefresh_gives (hinv : Inv s) (hp : resultPending s g = false) (hx : win? s r.window = some x)
    (hopen : x.state = .opened) (hown : x.owner = g) (h : accepts s rq ⟨0x6100 + g.val, 3⟩ (.bytes (winBytes r 4))) :
    Gives (.windowRefresh rq g r) s fun t => (g, r.window) ∈ t.win.refreshing ∧
      (∀ o ∈ t.win.recvs, o.window = r.window → o.held.isSome = true → o.old = true) ∧
      (getFn t g).winResult = winResult r 4 1 ∧ t.win.table = s.win.table := by
  let u := emit (.objectStatus rq ⟨0x6100 + g.val, 3⟩ .ok) s
  let marked : State := { u with win := { u.win with
    refreshing := u.win.refreshing ++ [(g, r.window)]
    recvs := u.win.recvs.map fun o => if o.window == r.window && o.held.isSome then { o with old := true } else o } }
  have hrefresh : refreshWindow g r u = setResult g r 4 1 marked := if_pos (openFor_own (s := u) hx hopen hown)
  refine Gives.of_eq (congrArg Host.Outcome.next ((writeRequest_accepted h hp).trans hrefresh)) rfl
    ⟨List.mem_append_right _ List.mem_cons_self, fun o ho hw hheld => ?_, setResult_result (s := marked) hinv.fns, rfl⟩
  obtain ⟨z, _, rfl⟩ := List.mem_map.1 ho
  by_cases hz : (z.window == r.window && z.held.isSome) = true
  · rw [if_pos hz]
  · rw [if_neg hz] at hw hheld
    exact absurd (by simp [hw, hheld]) hz

theorem windowBadOp_gives (hinv : Inv s) (hp : resultPending s g = false) (hop : r.op % 256 = 0 ∨ 4 < r.op % 256)
    (h : accepts s rq ⟨0x6100 + g.val, 3⟩ (.bytes (winBytes r (r.op % 256)))) :
    Gives (.windowRequestBadOp rq g r) s fun t =>
      (getFn t g).winResult = winResult r (r.op % 256) 7 ∧ SameBut [.fnOther, .out] s t := by
  let u := emit (.objectStatus rq ⟨0x6100 + g.val, 3⟩ .ok) s
  have hrequest : winRequest g r (r.op % 256) u = setResult g r (r.op % 256) 7 u := by
    rcases hop with h0 | h4
    · rw [h0]; rfl
    · obtain ⟨n, hn⟩ : ∃ n, r.op % 256 = n + 5 := ⟨r.op % 256 - 5, by omega⟩
      rw [hn]; rfl
  have hexec : execWindowRequestBadOp rq g r s = .next (setResult g r (r.op % 256) 7 u) := by
    rw [execWindowRequestBadOp, if_neg (by rcases hop with h0 | h4 <;> simp [*]), writeRequest_accepted h hp, hrequest]
  exact Gives.of_eq hexec rfl ⟨setResult_result (s := u) hinv.fns,
    setResult_frame (by decide) (emit_frame (by decide) (SameBut.refl _ s))⟩

/-! ### Windows that end (R263) -/

theorem dropWindowEntries_sameBut : SameBut [.counters, .int, .ctxs, .entries, .lookups, .out] s (dropWindowEntries w s) :=
  dropWindowEntries_frame (fun _ h => h) (SameBut.refl _ s)

theorem resultOk_sameBut : SameBut [.fnOther] s (resultOk g w op s) := resultOk_frame (fun _ h => h) (SameBut.refl _ s)

theorem closeDone_gives (hx : win? s w = some x) (hclosing : x.state = .closing)
    (hnone : ∀ o ∈ s.win.recvs, ¬(o.window = w ∧ o.held.isSome = true)) : Gives (.windowCloseDone w) s fun t =>
      win? t w = none ∧ (∀ e ∈ t.win.refreshing, e.2 ≠ w) ∧
      ∀ e, e ∈ t.win.table ↔ e ∈ s.win.table ∧ e.1 ≠ w := by
  have hany : (s.win.recvs.any fun o => o.window == w && o.held.isSome) = false := by
    simpa [List.any_eq_false] using hnone
  let u := foldState (fun e s => resultOk e.1 w 4 s) ((dropWindowEntries w s).win.refreshing.filter fun e => e.2 == w)
    (dropWindowEntries w s)
  have hu : SameBut [.counters, .int, .ctxs, .entries, .lookups, .out, .fnOther] s u :=
    foldState_frame (fun a t h => resultOk_frame (by decide) h) (dropWindowEntries_frame (by decide) (SameBut.refl _ s))
  obtain ⟨htable, hrefreshing, _⟩ := hu.windows (by decide)
  have hclose : closeDone w s = resultOk x.owner w 2 { u with win := { u.win with
      table := u.win.table.filter fun e => e.1 != w
      refreshing := u.win.refreshing.filter fun e => e.2 != w } } := by
    unfold closeDone
    rw [hx]
    exact if_neg (by simp [hclosing, hany])
  obtain ⟨htable', hrefreshing', _⟩ := (resultOk_sameBut (g := x.owner) (w := w) (op := 2) (s := { u with win := { u.win with
      table := u.win.table.filter fun e => e.1 != w
      refreshing := u.win.refreshing.filter fun e => e.2 != w } })).windows (by decide)
  refine Gives.of_eq (congrArg Host.Outcome.next hclose) rfl ⟨?_, ?_, fun e => ?_⟩
  · rw [win?, htable']
    simp [htable]
  · rw [hrefreshing']
    exact fun e he => by simpa using (List.mem_filter.1 he).2
  · rw [htable', List.mem_filter, htable]
    simp

theorem refreshDone_gives {e : Fun × WindowId} (he : (s.win.refreshing.find? fun y => y.2 == w) = some e)
    (hnone : ∀ o ∈ s.win.recvs, ¬(o.window = w ∧ o.old = true)) : Gives (.windowRefreshDone w) s fun t =>
      (∀ y, y ∈ t.win.refreshing ↔ y ∈ s.win.refreshing ∧ y.2 ≠ w) ∧ t.win.table = s.win.table := by
  have hany : (s.win.recvs.any fun o => o.window == w && o.old) = false := by
    simpa [List.any_eq_false] using hnone
  let u := dropWindowEntries w s
  obtain ⟨htable, hrefreshing, _⟩ := (dropWindowEntries_sameBut (s := s) (w := w)).windows (by decide)
  let ended : State := { u with win := { u.win with refreshing := u.win.refreshing.filter fun y => y.2 != w } }
  have hdone : refreshDone w s = resultOk e.1 w 4 ended := by
    unfold refreshDone
    rw [he]
    exact if_neg (by simp [hany])
  obtain ⟨htable', hrefreshing', _⟩ := (resultOk_sameBut (g := e.1) (w := w) (op := 4) (s := ended)).windows (by decide)
  refine Gives.of_eq (congrArg Host.Outcome.next hdone) rfl ⟨fun y => ?_, htable'.trans htable⟩
  rw [hrefreshing']
  show y ∈ u.win.refreshing.filter _ ↔ _
  rw [List.mem_filter, hrefreshing]
  simp

end WindowRequests

/-- Settles O41, a request at a time. -/
theorem windowAdministration : Obligations.WindowAdministration := by
  unfold Obligations.WindowAdministration
  intro s hinv
  refine ⟨fun rq g r hp => ⟨fun hasks hst => windowOpen_gives hinv hp hasks hst, fun x hx hopen hown =>
      ⟨fun hasks => windowClose_gives hinv hp hx hopen hown hasks, fun hasks => windowModify_gives hinv hp hx hopen hown hasks,
        fun hasks => windowRefresh_gives hinv hp hx hopen hown hasks⟩, fun hop hasks => windowBadOp_gives hinv hp hop hasks⟩,
    fun w x hx hclosing hnone => closeDone_gives hx hclosing hnone, fun w e he hnone => refreshDone_gives he hnone⟩

end Sys2Proof.Machine
end

section
/-!
SUPPORT. What the loss of a context reaches (04_objects_lifecycle, R130): the commands and engines of other contexts, a
context that is lost already, and the counts of other errors.
-/
namespace Sys2Proof.Machine

section Losses
variable {s t u : State} {c k : CtxId} {q p : Nat} {x : Cmd} {cx : Ctx} {st : CStatus} {r : LostReason}
  {cause : List (Nat × CStatus)} {d : U64} {i : ErrInfo} {e : Src} {L : List StatePart}

theorem foldState_keeps_of_mem {α : Type} {P : State → Prop} {f : α → State → State} (l : List α)
    (hf : ∀ a ∈ l, ∀ t, P t → P (f a t)) (h : P s) : P (foldState f l s) := by
  induction l generalizing s with
  | nil => exact h
  | cons a l ih => exact ih (fun b hb => hf b (List.mem_cons_of_mem a hb)) (hf a List.mem_cons_self s h)

/-- The count of another source stays. -/
theorem errCount_raiseWith_other {lost : List CtxId} {a : Src} (h : a ≠ e) :
    errCount (raiseWith e i lost s) a = errCount s a := by
  by_cases hbroken : e ∈ s.err.wireFaults
  · rw [raiseWith_broken hbroken]
  · have hcode : srcCode a ≠ srcCode e := fun hc => h (srcCode_injective hc)
    rw [errCount, raiseWith_err hbroken, raisedErr_keeps.1, countedErr]
    dsimp only
    rw [assocGet_assocPut_other _ hcode, errCount]

theorem raiseWith_sameBut {lost : List CtxId} : SameBut [.od, .stored, .counters, .mgmt, .links, .intx, .fnCfg, .int,
    .capture, .err, .power, .out] s (raiseWith e i lost s) := raiseWith_frame (fun _ h => h) (SameBut.refl _ s)

/-! ### One command of a context that is lost (R131) -/

theorem cmd_loseCmd_other (h : ¬(k = x.ctx ∧ p = x.q)) : cmd? (loseCmd cause x s) k p = cmd? s k p := by
  unfold loseCmd
  dsimp only
  split
  · split
    · exact cmd_endCmd_other h
    · rfl
  · split
    · exact cmd_endCmd_other h
    · rfl
  · exact cmd_modCmd_other h (by exact fun _ => ⟨rfl, rfl⟩)
  · rfl
  · exact cmd_endCmd_other h

/-- The status that a loss gives a command of its cause, where every cause has one status. -/
theorem cause_status (hall : ∀ z ∈ cause, z.2 = st) (hq : ∃ z ∈ cause, z.1 = q) :
    ((cause.find? fun z => z.1 == q).map (·.2)).getD .contextLost = st := by
  cases hfind : cause.find? fun z => z.1 == q with
  | none =>
    obtain ⟨z, hz, hzq⟩ := hq
    exact absurd hzq (by simpa using List.find?_eq_none.1 hfind z hz)
  | some z => exact hall z (List.mem_of_find?_eq_some hfind)

/-- A command that a loss names as its cause ends with the cause's status. -/
theorem loseCmd_ends (hx : cmd? s c q = some x) (hstage : ∀ z, x.stage ≠ .ended z) (hall : ∀ z ∈ cause, z.2 = st)
    (hq : ∃ z ∈ cause, z.1 = q) : Ended (loseCmd cause x s) c q st := by
  obtain ⟨hxc, hxq⟩ := cmd_key hx
  have hany : (cause.any fun y => y.1 == x.q) = true := by
    obtain ⟨z, hz, hzq⟩ := hq
    exact List.any_eq_true.2 ⟨z, hz, by simp [hzq, hxq]⟩
  have hend : Ended (endCmd x.ctx x.q st s) c q st := by
    rw [hxc, hxq]
    exact endCmd_ends hx hstage
  unfold loseCmd
  rw [hxq, cause_status hall hq]
  rw [hxq] at hend hany
  dsimp only
  split
  · rw [if_pos hany]; exact hend
  · rw [if_pos hany]; exact hend
  · rename_i hz; exact absurd hz (hstage _)
  · rename_i hz; exact absurd hz (hstage _)
  · exact hend

/-- Another record of the table under the same number leaves the command as it is, or ends it with the cause's status. -/
theorem loseCmd_ends_or {y : Cmd} (hy : y.ctx = c) (h : cmd? s c q = some x ∨ Ended s c q st)
    (hstage : ∀ z, x.stage ≠ .ended z) (hall : ∀ z ∈ cause, z.2 = st) (hq : ∃ z ∈ cause, z.1 = q) :
    cmd? (loseCmd cause y s) c q = some x ∨ Ended (loseCmd cause y s) c q st := by
  by_cases hyq : y.q = q
  · have hend : Ended (endCmd y.ctx y.q st s) c q st := by
      rw [hy, hyq]
      rcases h with h | ⟨z, hz, hzst⟩
      · exact endCmd_ends h hstage
      · rw [endCmd_ended hz hzst]
        exact ⟨z, hz, hzst⟩
    have hmod : Ended (modCmd y.ctx y.q (fun y => { y with stage := .ended st }) s) c q st := by
      rw [hy, hyq]
      rcases h with h | ⟨z, hz, _⟩
      · exact ⟨_, cmd_modCmd_some h (by exact fun _ => ⟨rfl, rfl⟩), rfl⟩
      · exact ⟨_, cmd_modCmd_some hz (by exact fun _ => ⟨rfl, rfl⟩), rfl⟩
    rw [← hyq] at hq
    unfold loseCmd
    rw [cause_status hall hq]
    dsimp only
    split
    · split
      · exact .inr hend
      · exact h
    · split
      · exact .inr hend
      · exact h
    · exact .inr hmod
    · exact h
    · exact .inr hend
  · have hother : cmd? (loseCmd cause y s) c q = cmd? s c q := cmd_loseCmd_other fun hk => hyq hk.2.symm
    rw [Ended, hother]
    exact h

/-! ### The loss of one context -/

/-- What follows the loss of commands touches neither commands nor engines. -/
theorem loseContext_cmd (hcx : ctx? s c = some cx) (hr : cx.state = .ready) : (loseContext c r cause d i s).cmd =
    (foldState (loseCmd cause) (s.cmd.table.filter fun y => y.ctx == c) (modCtx c (lostCtx r s.gtc) s)).cmd := by
  unfold loseContext
  rw [hcx]
  dsimp only
  rw [if_neg (by simp [hr])]
  have hrevoked (v : State) : (revokeCtxLeases c v).cmd = v.cmd :=
    SameBut.cmd_eq (L := [.counters, .int, .lookups, .out]) (revokeCtxLeases_frame (fun _ h => h) (SameBut.refl _ v)) (by decide)
  have hrest (v : State) (n : Nat) (w : U64) : (raiseWith .contextLost { i with fn := some cx.fn, ctx := some c } [c]
      (countFn cx.fn 7 (formEvent cx.fn cx.eventRing 2 n (some c) w d v))).cmd = v.cmd :=
    SameBut.cmd_eq (L := [.od, .stored, .counters, .mgmt, .links, .intx, .fnCfg, .int, .capture, .err, .power, .out])
      (raiseWith_frame (by decide) (countFn_frame (by decide) (formEvent_frame (by decide) (SameBut.refl _ v)))) (by decide)
  split
  · exact hrevoked _
  · exact (hrest _ _ _).trans (hrevoked _)

theorem cmd_loseContext_other (hk : k ≠ c) : cmd? (loseContext c r cause d i s) k p = cmd? s k p := by
  cases hcx : ctx? s c with
  | none => rw [loseContext_notReady (by simp [hcx])]
  | some cx =>
    by_cases hr : cx.state = .ready
    · rw [cmd?, loseContext_cmd hcx hr]
      refine foldState_keeps_of_mem (P := fun t => cmd? t k p = cmd? s k p) _ (fun y hy t ht => ?_) rfl
      have hyc : y.ctx = c := by simpa using (List.mem_filter.1 hy).2
      exact (cmd_loseCmd_other fun h => hk (h.1.trans hyc)).trans ht
    · rw [loseContext_notReady (by simpa [hcx] using hr)]

/-- A command that the loss of its context names as its cause ends with the cause's status. -/
theorem loseContext_ends (hcx : ctx? s c = some cx) (hr : cx.state = .ready) (hx : cmd? s c q = some x)
    (hstage : ∀ z, x.stage ≠ .ended z) (hall : ∀ z ∈ cause, z.2 = st) (hq : ∃ z ∈ cause, z.1 = q) :
    Ended (loseContext c r cause d i s) c q st := by
  have hmem : x ∈ s.cmd.table.filter fun y => y.ctx == c :=
    List.mem_filter.2 ⟨cmd_mem hx, by simp [(cmd_key hx).1]⟩
  have hctx : ∀ y ∈ s.cmd.table.filter fun y => y.ctx == c, y.ctx = c := fun y hy => by simpa using (List.mem_filter.1 hy).2
  rw [Ended, cmd?, loseContext_cmd hcx hr]
  obtain ⟨l, m, hl⟩ := List.append_of_mem hmem
  rw [hl] at hctx ⊢
  rw [foldState_append]
  have hbefore := foldState_keeps_of_mem (s := modCtx c (lostCtx r s.gtc) s) (f := loseCmd cause)
    (P := fun t => cmd? t c q = some x ∨ Ended t c q st) l
    (fun y hy t ht => loseCmd_ends_or (hctx y (List.mem_append_left _ hy)) ht hstage hall hq) (.inl hx)
  generalize foldState (loseCmd cause) l (modCtx c (lostCtx r s.gtc) s) = v at hbefore ⊢
  have hat : Ended (loseCmd cause x v) c q st := by
    rcases hbefore with hv | hv
    · exact loseCmd_ends hv hstage hall hq
    · have hor := loseCmd_ends_or (y := x) (cmd_key hx).1 (.inr hv) hstage hall hq
      rcases hor with hsome | hend
      · obtain ⟨st', y, hy, hyst⟩ := HasEnded.loseCmd (cause := cause) (x := x) ⟨st, hv⟩
        rw [hsome] at hy
        obtain rfl := Option.some.inj hy
        exact absurd hyst (hstage _)
      · exact hend
  refine foldState_keeps_of_mem (P := fun t => Ended t c q st) m (fun y hy t ht => ?_) hat
  rcases loseCmd_ends_or (hctx y (List.mem_append_right _ (List.mem_cons_of_mem x hy))) (.inr ht) hstage hall hq
    with hsome | hend
  · obtain ⟨st', z, hz, hzst⟩ := HasEnded.loseCmd (cause := cause) (x := y) ⟨st, ht⟩
    rw [hsome] at hz
    obtain rfl := Option.some.inj hz
    exact absurd hzst (hstage _)
  · exact hend

theorem errCount_loseContext {a : Src} (h : a ≠ .contextLost) : errCount (loseContext c r cause d i s) a = errCount s a := by
  unfold loseContext
  split
  · rfl
  · rename_i cx _
    dsimp only
    split
    · rfl
    · let lost := modCtx c (fun y => { y with state := .lost, lostReason := r, lostGtc := s.gtc }) s
      let revoked := revokeCtxLeases c (foldState (loseCmd cause) (lost.cmd.table.filter fun y => y.ctx == c) lost)
      have herr : revoked.err = s.err :=
        (revokeCtxLeases_frame (L := [.cmds, .engines, .peers, .windows, .out, .counters, .int, .lookups]) (s0 := lost)
          (by decide) (foldState_frame (fun a t h => loseCmd_frame (by decide) h) (SameBut.refl _ lost))).2.2 .err (by decide)
      have hcount {v : State} (hv : v.err = s.err) : errCount v a = errCount s a := by rw [errCount, hv, errCount]
      split
      · exact hcount herr
      · refine (errCount_raiseWith_other h).trans (hcount ?_)
        exact ((countFn_frame (L := [.counters, .int]) (by decide) (formEvent_frame (by decide)
          (SameBut.refl _ revoked))).2.2 .err (by decide)).trans herr

/-! ### A context that is lost already, and what is left of it (R131, R206) -/

/-- A context that is not READY, its commands, and the counts of errors other than CONTEXT_LOST are as they were, and so
is the count of time. -/
def Unhurt (c : CtxId) (s t : State) : Prop :=
  (∀ cx, ctx? s c = some cx → cx.state ≠ .ready → ctx? t c = some cx ∧ ∀ q, cmd? t c q = cmd? s c q) ∧
    (∀ a, a ≠ .contextLost → errCount t a = errCount s a) ∧ t.gtc = s.gtc

theorem Unhurt.refl (s : State) : Unhurt c s s := ⟨fun _ hcx _ => ⟨hcx, fun _ => rfl⟩, fun _ _ => rfl, rfl⟩

theorem Unhurt.trans (h : Unhurt c s t) (k : Unhurt c t u) : Unhurt c s u :=
  ⟨fun cx hcx hr => ⟨(k.1 cx (h.1 cx hcx hr).1 hr).1, fun q => ((k.1 cx (h.1 cx hcx hr).1 hr).2 q).trans ((h.1 cx hcx hr).2 q)⟩,
    fun a ha => (k.2.1 a ha).trans (h.2.1 a ha), k.2.2.trans h.2.2⟩

theorem SameBut.unhurt (h : SameBut L s t) (hl : ∀ p ∈ [StatePart.gtc, .ctxs, .cmds, .err], p ∉ L) : Unhurt c s t := by
  have herr : t.err = s.err := h.2.2 .err (hl _ (by decide))
  exact ⟨fun cx hcx _ => ⟨(h.ctx? (hl _ (by decide))).trans hcx, fun q => h.cmd? (hl _ (by decide))⟩,
    fun a _ => by rw [errCount, herr, errCount], h.2.2 .gtc (hl _ (by decide))⟩

theorem foldState_unhurt {α : Type} {f : α → State → State} (hf : ∀ a t, Unhurt c t (f a t)) (l : List α) :
    Unhurt c s (foldState f l s) :=
  foldState_keeps (P := fun t => Unhurt c s t) (fun a t h => h.trans (hf a t)) l (.refl s)

theorem loseContext_gtc : (loseContext c r cause d i s).gtc = s.gtc :=
  (loseContext_frame (L := [.od, .stored, .counters, .mgmt, .links, .intx, .fnCfg, .int, .capture, .ctxs, .cmds, .engines,
    .lookups, .peers, .windows, .err, .power, .out]) (fun _ h => h) (SameBut.refl _ s)).2.2 .gtc (by decide)

theorem loseContext_unhurt : Unhurt c s (loseContext k r cause d i s) := by
  refine ⟨fun cx hcx hr => ?_, fun a ha => errCount_loseContext ha, loseContext_gtc⟩
  by_cases hk : c = k
  · subst hk
    rw [loseContext_notReady (by simpa [hcx] using hr)]
    exact ⟨hcx, fun _ => rfl⟩
  · exact ⟨(ctx_loseContext_other hk).trans hcx, fun q => cmd_loseContext_other hk⟩

theorem walkPoisoned_unhurt {who : Who} {va : Nat} : Unhurt c s (walkPoisoned who va s) := by
  unfold walkPoisoned
  split
  · exact loseContext_unhurt
  · exact .refl s

theorem answerLookup_unhurt {who : Who} {va : Nat} {need : Need} {r : Except TOut REntry} :
    Unhurt c s (answerLookup who va need r s) := by
  have hemit (m : Msg) : Unhurt c s (emit m s) := (emit_frame (L := [.out]) (by decide) (SameBut.refl _ s)).unhurt (by decide)
  unfold answerLookup
  split
  · exact hemit _
  · exact (stallLookup_frame (L := [.lookups]) (by decide) (SameBut.refl _ s)).unhurt (by decide)
  · exact (hemit _).trans walkPoisoned_unhurt
  · exact hemit _

theorem lookupOf_unhurt {who : Who} {va : Nat} {need : Need} : Unhurt c s (lookupOf who va need s) := by
  have hemit (m : Msg) : Unhurt c s (emit m s) := (emit_frame (L := [.out]) (by decide) (SameBut.refl _ s)).unhurt (by decide)
  unfold lookupOf
  split
  · exact hemit _
  · split
    · exact hemit _
    · split
      · exact ((translate_frame (L := [.counters, .int, .entries, .lookups, .coherence, .out]) (by decide)
          (SameBut.refl _ s)).unhurt (by decide)).trans answerLookup_unhurt
      · exact (startWalk_frame (L := [.counters, .int, .lookups]) (by decide) (SameBut.refl _ s)).unhurt (by decide)

theorem repeatLookups_unhurt {w : Walk} : Unhurt c s (repeatLookups w s) :=
  foldState_unhurt (fun x t => by
    split
    · exact lookupOf_unhurt
    · exact .refl t) _

theorem walkEnds_unhurt {w : Walk} {a : Asker} {o : TOut} : Unhurt c s (walkEnds w a o s) := by
  have hdrop : Unhurt c s (dropWalk w.id s) := (dropWalk_frame (L := [.lookups]) (by decide) (SameBut.refl _ s)).unhurt (by decide)
  refine hdrop.trans (foldState_unhurt (fun x t => ?_) _)
  dsimp only
  split
  · exact ((countFault_frame (L := [.counters, .int]) (by decide) (SameBut.refl _ t)).unhurt (by decide)).trans
      answerLookup_unhurt
  · split
    · exact .refl t
    · exact ⟨fun _ hcx _ => ⟨hcx, fun _ => rfl⟩, fun _ _ => rfl, rfl⟩

/-- Walks that go on when leases have ended hurt no context that is lost already. -/
theorem leasesEnded_unhurt : Unhurt c s (leasesEnded s) := by
  refine foldState_unhurt (fun w t => ?_) _
  unfold tryInstall
  split
  · exact walkEnds_unhurt
  · split
    · exact walkEnds_unhurt
    · split
      · exact (walkAgain_frame (L := [.lookups]) (by decide) (SameBut.refl _ t)).unhurt (by decide)
      · split
        · exact .refl t
        · exact ((installOver_frame (L := [.entries, .lookups]) (by decide) (dropWalk_frame (by decide)
            (SameBut.refl _ t))).unhurt (by decide)).trans repeatLookups_unhurt
  · exact .refl t

end Losses
end Sys2Proof.Machine
end

section
/-!
SUPPORT and CLAIM. Failed units, remaps and mode changes (10_determinism, R339 to R345): the obligation O45.
-/
namespace Sys2Proof.Machine

section Units
variable {s t u : State} {c k : CtxId} {q p : Nat} {x : Cmd} {cx : Ctx} {i : ErrInfo} {ns : List Nat} {e : Option Engine}

/-! ### The engines that hold a command -/

/-- An engine holds a command, active or queued. -/
def onEngine (s : State) (e : Engine) (k : CtxId × Nat) : Bool :=
  (getEngine s e).active.contains k || (getEngine s e).queued.contains k

theorem onEngine_congr (h : t.cmd.engines = s.cmd.engines) (e : Engine) (k : CtxId × Nat) : onEngine t e k = onEngine s e k := by
  have hget : getEngine t e = getEngine s e := by rw [getEngine, h, getEngine]
  rw [onEngine, hget, onEngine]

theorem SameBut.onEngine (h : SameBut L s t) (hl : .engines ∉ L) (e : Engine) (k : CtxId × Nat) :
    Machine.onEngine t e k = Machine.onEngine s e k := by
  have hengines : t.cmd.enginesPart = s.cmd.enginesPart := h.2.2 .engines hl
  simp only [CmdSt.enginesPart, Prod.mk.injEq] at hengines
  exact onEngine_congr hengines.2.1 e k

theorem activate_holds {x : EngineSt} {k : CtxId × Nat} :
    ((activate x).active.contains k || (activate x).queued.contains k) = (x.active.contains k || x.queued.contains k) := by
  rw [Bool.eq_iff_iff]
  simp only [activate, Bool.or_eq_true, List.contains_iff_mem, List.mem_append, or_assoc]
  rw [← List.mem_append, List.take_append_drop]

/-- A command that leaves the engines leaves the others where they are, but that one may become active. -/
theorem onEngine_leaveEngines {e : Engine} (h : ¬(c = k ∧ q = p)) :
    onEngine (leaveEngines k p s) e (c, q) = onEngine s e (c, q) := by
  have hne : ((c, q) != (k, p)) = true := by simpa using h
  have hkeep (l : List (CtxId × Nat)) : (l.filter (· != (k, p))).contains (c, q) = l.contains (c, q) := by
    rw [Bool.eq_iff_iff, List.contains_iff_mem, List.contains_iff_mem, List.mem_filter]
    exact ⟨fun h => h.1, fun h => ⟨h, hne⟩⟩
  unfold onEngine getEngine leaveEngines
  dsimp only
  rw [List.getD_eq_getElem?_getD, List.getElem?_map, List.getD_eq_getElem?_getD]
  cases s.cmd.engines[e.val]? with
  | none => rfl
  | some y =>
    simp only [Option.map_some, Option.getD_some]
    rw [activate_holds]
    dsimp only
    rw [hkeep, hkeep]

theorem onEngine_endCmd {e : Engine} {st : CStatus} (h : ¬(c = k ∧ q = p)) :
    onEngine (endCmd k p st s) e (c, q) = onEngine s e (c, q) := by
  unfold endCmd
  split
  · rfl
  · rename_i y hy
    obtain ⟨hyk, hyp⟩ := cmd_key hy
    split
    · rfl
    · have hleave : onEngine (if st = .success then leaveEngines k p s else stopWork y s) e (c, q) = onEngine s e (c, q) := by
        split
        · exact onEngine_leaveEngines h
        · unfold stopWork
          split
          · rfl
          · have hparts : SameBut [.peers, .windows, .out] (leaveEngines y.ctx y.q s) (cancelParts y
                (cancelOps y.ctx y.q (y.tag.getD 0xFFFF) (leaveEngines y.ctx y.q s))) :=
              cancelParts_frame (by decide) (cancelOps_frame (by decide) (SameBut.refl _ _))
            rw [hyk, hyp] at hparts ⊢
            exact (hparts.onEngine (by decide) e _).trans (onEngine_leaveEngines h)
      exact (onEngine_congr rfl e (c, q)).trans hleave

theorem onEngine_loseCmd {e : Engine} {cause : List (Nat × CStatus)} (h : c ≠ x.ctx) :
    onEngine (loseCmd cause x s) e (c, q) = onEngine s e (c, q) := by
  have hend (st : CStatus) : onEngine (endCmd x.ctx x.q st s) e (c, q) = onEngine s e (c, q) := onEngine_endCmd fun hk => h hk.1
  unfold loseCmd
  dsimp only
  split
  · split
    · exact hend _
    · rfl
  · split
    · exact hend _
    · rfl
  · rfl
  · rfl
  · exact hend _

theorem onEngine_loseContext {e : Engine} {r : LostReason} {cause : List (Nat × CStatus)} {d : U64} (hk : c ≠ k) :
    onEngine (loseContext k r cause d i s) e (c, q) = onEngine s e (c, q) := by
  cases hcx : ctx? s k with
  | none => rw [loseContext_notReady (by simp [hcx])]
  | some cx =>
    by_cases hr : cx.state = .ready
    · let s1 := foldState (loseCmd cause) (s.cmd.table.filter (·.ctx == k)) (modCtx k (lostCtx r s.gtc) s)
      have hs1 : onEngine (loseContext k r cause d i s) e (c, q) = onEngine s1 e (c, q) :=
        onEngine_congr (by rw [loseContext_cmd hcx hr]) e (c, q)
      refine hs1.trans ?_
      refine foldState_keeps_of_mem (P := fun t => onEngine t e (c, q) = onEngine s e (c, q)) _ (fun y hy t ht => ?_) rfl
      have hyk : y.ctx = k := by simpa using (List.mem_filter.1 hy).2
      exact (onEngine_loseCmd (hyk ▸ hk)).trans ht
    · rw [loseContext_notReady (by simpa [hcx] using hr)]

/-! ### The contexts that a failed unit takes with it (R339) -/

/-- A command has its work on the unit in another state that holds it on the same engines. -/
theorem cmdOnUnit_congr (h : ∀ e, onEngine t e (x.ctx, x.q) = onEngine s e (x.ctx, x.q)) :
    cmdOnUnit t ns e x = cmdOnUnit s ns e x := by
  unfold cmdOnUnit
  cases e with
  | none => rfl
  | some e => exact congrArg _ (h e)

/-- The failure has been raised, the context is lost for it, and its commands on the unit ended so. -/
def UnitLost (ns : List Nat) (e : Option Engine) (c : CtxId) (s t : State) : Prop :=
  Raised s t .unitFenced ∧ LostFor s t c .unitFenced ∧
    ∀ x : Cmd, cmd? s c x.q = some x → cmdOnUnit s ns e x = true → (∀ st, x.stage ≠ .ended st) → Ended t c x.q .unitFenced

theorem UnitLost.unhurt (h : UnitLost ns e c s t) (k : Unhurt c t u) : UnitLost ns e c s u := by
  obtain ⟨hraised, ⟨y, hy, hstate, hreason, hgtc⟩, hcmds⟩ := h
  obtain ⟨hctx, hcmd⟩ := k.1 y hy (by rw [hstate]; decide)
  refine ⟨fun hwhole hlt => (k.2.1 _ (by decide)).trans (hraised hwhole hlt), ⟨y, hctx, hstate, hreason, hgtc⟩,
    fun x hx hon hstage => ?_⟩
  rw [Ended, hcmd]
  exact hcmds x hx hon hstage

theorem UnitLost.after (h : UnitLost ns e c s t) (k : SameBut L t u) (hl : ∀ p ∈ [StatePart.gtc, .ctxs, .cmds, .err], p ∉ L) :
    UnitLost ns e c s u := h.unhurt (k.unhurt hl)

/-- The loss of one context to a failed unit, its commands on the unit being the cause. -/
def loseTo (ns : List Nat) (e : Option Engine) (i : ErrInfo) (c : CtxId) (s : State) : State :=
  loseContext c .unitFenced ((cmdsOnUnit s ns e c).map fun x => (x.q, CStatus.unitFenced)) 0 i s

theorem loseOnUnit_lost (hcx : ctx? s c = some cx) (hr : cx.state = .ready) (hmem : c ∈ ctxsOnUnit s ns e) :
    UnitLost ns e c s (loseOnUnit ns e i s) := by
  let s1 := raiseWith .unitFenced i (ctxsOnUnit s ns e) s
  have hunit : loseOnUnit ns e i s = foldState (loseTo ns e i) (ctxsOnUnit s ns e) s1 := rfl
  obtain ⟨l, m, hl, hfirst⟩ := List.eq_append_cons_of_mem hmem
  have hs1 : SameBut [.od, .stored, .counters, .mgmt, .links, .intx, .fnCfg, .int, .capture, .err, .power, .out] s s1 :=
    raiseWith_sameBut
  -- the contexts lost before leave this one, its commands and the engines that hold them
  have hbefore := foldState_keeps_of_mem (s := s1) (f := loseTo ns e i) (P := fun t => ctx? t c = some cx ∧
      (∀ q, cmd? t c q = cmd? s c q) ∧ (∀ e q, onEngine t e (c, q) = onEngine s e (c, q)) ∧
      errCount t .unitFenced = errCount s1 .unitFenced ∧ t.gtc = s.gtc) l
    (fun k hk t ⟨hctx, hcmd, hengine, herr, hgtc⟩ => by
      have hne : c ≠ k := fun h => hfirst (h ▸ hk)
      exact ⟨(ctx_loseContext_other hne).trans hctx, fun q => (cmd_loseContext_other hne).trans (hcmd q),
        fun e q => (onEngine_loseContext hne).trans (hengine e q), (errCount_loseContext (by decide)).trans herr,
        loseContext_gtc.trans hgtc⟩)
    ⟨(hs1.ctx? (by decide)).trans hcx, fun q => hs1.cmd? (by decide), fun e q => hs1.onEngine (by decide) e _, rfl,
      hs1.2.2 .gtc (by decide)⟩
  rw [hunit, hl, foldState_append]
  generalize foldState (loseTo ns e i) l s1 = v at hbefore ⊢
  obtain ⟨hctx, hcmd, hengine, herr, hgtc⟩ := hbefore
  have hat : UnitLost ns e c s (loseTo ns e i c v) := by
    refine ⟨fun hwhole hlt => ?_, (loseContext_lost hctx hr).congr hgtc rfl, fun x hx hon hstage => ?_⟩
    · exact ((errCount_loseContext (by decide)).trans herr).trans (raised_raiseWith hwhole hlt)
    · obtain ⟨hxc, _⟩ := cmd_key hx
      have hxv : cmd? v c x.q = some x := (hcmd x.q).trans hx
      have honv : cmdOnUnit v ns e x = true := (cmdOnUnit_congr fun e => by rw [hxc]; exact hengine e x.q).trans hon
      refine loseContext_ends hctx hr hxv hstage (fun z hz => ?_) ⟨(x.q, .unitFenced), List.mem_map.2 ⟨x, ?_, rfl⟩, rfl⟩
      · obtain ⟨_, _, rfl⟩ := List.mem_map.1 hz
        rfl
      · exact List.mem_filter.2 ⟨cmd_mem hxv, by simp [hxc, honv]⟩
  exact foldState_keeps (P := fun t => UnitLost ns e c s t) (fun k t ht => ht.unhurt loseContext_unhurt) m hat

theorem dropLeasesOf_unhurt : Unhurt c s (dropLeasesOf ns s) := by
  unfold dropLeasesOf
  extract_lets gone tr s1
  have hdrop : Unhurt c s s1 := ⟨fun _ hcx _ => ⟨hcx, fun _ => rfl⟩, fun _ _ => rfl, rfl⟩
  refine hdrop.trans (leasesEnded_unhurt.trans (foldState_unhurt (fun l t => ?_) _))
  split
  · exact SameBut.unhurt (L := [.counters, .int, .out]) (countPackage_frame (by decide) (emit_frame (by decide)
      (SameBut.refl _ t))) (by decide)
  · exact .refl t

theorem endPartsOf_cmd : cmd? (endPartsOf ns s) c q = (cmd? s c q).map fun x => { x with
    parts := x.parts.map fun p => if ns.contains p.cluster then { p with ended := true } else p } := by
  simp only [cmd?, endPartsOf]
  exact find_map (by exact fun _ => rfl) _

theorem UnitLost.endParts (h : UnitLost ns e c s t) (ms : List Nat) : UnitLost ns e c s (endPartsOf ms t) := by
  obtain ⟨hraised, hlost, hcmds⟩ := h
  refine ⟨hraised, hlost, fun x hx hon hstage => ?_⟩
  obtain ⟨y, hy, hyst⟩ := hcmds x hx hon hstage
  refine ⟨{ y with parts := y.parts.map fun p => if ms.contains p.cluster then { p with ended := true } else p }, ?_, hyst⟩
  rw [endPartsOf_cmd, hy]
  rfl

/-- The fence of a cluster raises its failure and loses the contexts with work on it (R339). -/
theorem fenceClusters_lost {n : Nat} (hn : n < clustersOf s.variant) (hf : n ∉ s.det.fenced) (hcx : ctx? s c = some cx)
    (hr : cx.state = .ready) (hmem : c ∈ ctxsOnUnit s [n] none) : UnitLost [n] none c s (fenceClusters [n] i s) := by
  have hclear : UnitLost [n] none c s (clearClusters [n] i s) :=
    ((loseOnUnit_lost hcx hr hmem).unhurt dropLeasesOf_unhurt).endParts [n]
  have hrest (v : State) : SameBut [.det, .boot] v (mapChanged (noteFenced [n] v)) :=
    mapChanged_frame (by decide) (noteFenced_frame (by decide) (SameBut.refl _ v))
  rw [fenceClusters_single hn hf]
  refine UnitLost.after ?_ (hrest _) (by decide)
  split
  · exact hclear.after (abandonMode_frame (L := [.det, .out]) (by decide) (SameBut.refl _ _)) (by decide)
  · exact hclear

theorem fenceEngine_lost {k : Engine} (hf : s.det.enginesFenced.getLsbD k.val = false) (hcx : ctx? s c = some cx)
    (hr : cx.state = .ready) (hmem : c ∈ ctxsOnUnit s [] (some k)) : UnitLost [] (some k) c s (fenceEngine k s) := by
  unfold fenceEngine
  rw [if_neg (by rw [hf]; decide)]
  extract_lets i s1
  have hlost : UnitLost [] (some k) c s s1 := loseOnUnit_lost hcx hr hmem
  have hnoted : UnitLost [] (some k) c s { s1 with det := { s1.det with
      enginesFenced := s1.det.enginesFenced ||| (1 : U32) <<< k.val } } :=
    hlost.unhurt ⟨fun _ hcx _ => ⟨hcx, fun _ => rfl⟩, fun _ _ => rfl, rfl⟩
  exact hnoted.after (mapChanged_frame (L := [.det]) (by decide) (SameBut.refl _ _)) (by decide)

/-! ### The units that are fenced -/

theorem mapChanged_det : ∃ m g d k, (mapChanged s).det = { s.det with unitMap := m, generation := g, digest := d, key := k } := by
  unfold mapChanged
  split
  · exact ⟨_, _, _, _, rfl⟩
  · exact ⟨_, _, _, _, rfl⟩

theorem mem_insertNat_of_mem {n m : Nat} {l : List Nat} (h : n ∈ l) : n ∈ insertNat m l := by
  induction l with
  | nil => cases h
  | cons a l ih =>
    rw [insertNat]
    split
    · exact List.mem_cons_of_mem _ h
    split
    · exact h
    rcases List.mem_cons.1 h with rfl | h
    · exact List.mem_cons_self
    · exact List.mem_cons_of_mem _ (ih h)

/-- The clusters newly fenced join those fenced before. -/
theorem mem_foldl_insertNat {n : Nat} {l : List Nat} (h : n ∈ ns ∨ n ∈ l) :
    n ∈ ns.foldl (fun l n => insertNat n l) l := by
  induction ns generalizing l with
  | nil => exact h.resolve_left List.not_mem_nil
  | cons m ns ih =>
    refine ih ?_
    rcases h with h | h
    · rcases List.mem_cons.1 h with rfl | h
      · exact .inr mem_insertNat
      · exact .inl h
    · exact .inr (mem_insertNat_of_mem h)

/-- Every cluster of the list that the variant has is fenced afterwards (R339). -/
theorem mem_fenceClusters_of_mem {n : Nat} (hm : n ∈ ns) (hn : n < clustersOf s.variant) :
    n ∈ (fenceClusters ns i s).det.fenced := by
  unfold fenceClusters
  extract_lets new s1 s2 s3
  have hnew : n ∈ new ∨ n ∈ s.det.fenced := by
    by_cases hf : n ∈ s.det.fenced
    · exact .inr hf
    · exact .inl (List.mem_filter.2 ⟨hm, by simp [hn, hf]⟩)
  split
  next hempty => exact hnew.resolve_left (by rw [List.isEmpty_iff.1 hempty]; exact List.not_mem_nil)
  next =>
    have hs2 : s2.det = s.det := clearClusters_det new
    have hs3 : s3.det.fenced = s2.det.fenced := by
      simp only [s3]
      split
      · rw [abandonMode, foldState_emit]
      · rfl
    obtain ⟨m, g, d, k, hdet⟩ := mapChanged_det (s := noteFenced new s3)
    rw [hdet]
    refine mem_foldl_insertNat ?_
    rwa [hs3, hs2]

theorem fenceEngine_fences {k : Engine} : (fenceEngine k s).det.enginesFenced.getLsbD k.val = true ∧
    (fenceEngine k s).det.fenced = s.det.fenced := by
  unfold fenceEngine
  split
  next h => exact ⟨h, rfl⟩
  next =>
    extract_lets i s1
    have hs1 : s1.det = s.det := (loseOnUnit_frame (L := [.od, .stored, .counters, .mgmt, .links, .intx, .fnCfg, .int,
      .capture, .ctxs, .cmds, .engines, .lookups, .peers, .windows, .err, .power, .out]) (by decide)
      (SameBut.refl _ s)).2.2 .det (by decide)
    obtain ⟨m, g, d, y, hdet⟩ := mapChanged_det (s := { s1 with det := { s1.det with
      enginesFenced := s1.det.enginesFenced ||| (1 : U32) <<< k.val } })
    rw [hdet]
    dsimp only
    exact ⟨by simp, congrArg DetSt.fenced hs1⟩

/-! ### Units that take the place of fenced ones (R339, R340) -/

theorem foldState_takeOver_det : (foldState takeOver ns s).det.fenced = s.det.fenced.filter (fun n => !ns.contains n) := by
  induction ns generalizing s with
  | nil => exact (List.filter_eq_self.2 fun _ _ => rfl).symm
  | cons m ns ih =>
    rw [foldState, ih]
    have hm : (takeOver m s).det.fenced = s.det.fenced.filter (· != m) := rfl
    rw [hm, List.filter_filter]
    refine List.filter_congr fun n _ => ?_
    by_cases h : n = m <;> simp [h]

theorem endUnitRemap_ends (hrun : s.det.remapping = true) : (endUnitRemap s).det.remapping = false ∧
    (∀ n, n ∈ (endUnitRemap s).det.fenced ↔ n ∈ s.det.fenced ∧ n ∉ remapped s) ∧
    (endUnitRemap s).det.remapResult = BitVec.ofNat 32 ((remapped s).length * 2 ^ 16 + (endUnitRemap s).det.fenced.length) := by
  rw [endUnitRemap, if_pos hrun]
  extract_lets ns s1 s2
  obtain ⟨m, g, d, k, hdet⟩ := mapChanged_det (s := s2)
  rw [hdet]
  refine ⟨rfl, fun n => ?_, rfl⟩
  have hs2 : s2.det.fenced = s.det.fenced.filter fun n => !ns.contains n := foldState_takeOver_det
  dsimp only
  rw [hs2, List.mem_filter]
  simp [ns]

/-! ### The mode change (R341 to R344) -/

theorem startStage_stages (h : stagedClusters s ≠ []) :
    (startStage s).det.mode = .staging ∧ (startStage s).det.unacked = stagedClusters s ∧ (startStage s).det.acked = [] ∧
      (startStage s).det.stageGtc = s.gtc ∧ (startStage s).det.epoch = s.det.epoch ∧
      ∀ n ∈ stagedClusters s, .modeStage n (startStage s).det.stageWord ∈ (startStage s).out := by
  unfold startStage
  extract_lets w0 word ns s1
  rw [foldState_emit, commitIfAcked, if_neg (by simpa [s1, modDet] using h)]
  exact ⟨rfl, rfl, rfl, rfl, rfl, fun n hn => List.mem_append_left _ (List.mem_reverse.2 (List.mem_map_of_mem hn))⟩

end Units

section Modes
variable {s : State}

theorem stageAck_takes {n : Nat} (hmode : s.det.mode = .staging) (hn : n ∈ s.det.unacked) (hlate : stageLate s = false) :
    SameBut [.det] s (stageAck n s) ∧ (stageAck n s).det.acked = s.det.acked ++ [n] ∧
      (∀ k, k ∈ (stageAck n s).det.unacked ↔ k ∈ s.det.unacked ∧ k ≠ n) ∧
      (stageAck n s).det.mode = if ∀ k ∈ s.det.unacked, k = n then .commitPending else .staging := by
  have hack : stageAck n s = commitIfAcked (modDet (fun d => { d with
      unacked := d.unacked.filter (· != n), acked := d.acked ++ [n] }) s) := by
    rw [stageAck, if_pos (by simp [hmode, hn]), if_neg (by rw [hlate]; decide)]
  have hdone : (s.det.unacked.filter (· != n)).isEmpty = true ↔ ∀ k ∈ s.det.unacked, k = n := by
    simp [List.isEmpty_iff, List.filter_eq_nil_iff]
  have hmem (k : Nat) : k ∈ s.det.unacked.filter (· != n) ↔ k ∈ s.det.unacked ∧ k ≠ n := by
    simp [List.mem_filter]
  rw [hack]
  refine ⟨commitIfAcked_frame (by decide) (modDet_frame (by decide) (SameBut.refl _ s)), ?_⟩
  unfold commitIfAcked
  split
  next h =>
    have hall := hdone.1 (by simpa [modDet, hmode] using h)
    exact ⟨rfl, hmem, by rw [if_pos hall]; rfl⟩
  next h =>
    have hall : ¬∀ k ∈ s.det.unacked, k = n := fun hall => h (by simpa [modDet, hmode] using hdone.2 hall)
    exact ⟨rfl, hmem, by rw [if_neg hall]; exact hmode⟩

theorem commitMode_commits (hmode : s.det.mode = .commitPending) (htime : s.det.commitGtc ≤ s.gtc) :
    (commitMode s).det.mode = .committed ∧ (commitMode s).det.modeWord = s.det.stageWord ∧
      (commitMode s).det.epoch = s.det.epoch + 1 ∧
      ∀ n ∈ s.det.acked, n ∉ s.det.fenced → .modeApply n (s.det.epoch.toNat + 1) ∈ (commitMode s).out := by
  rw [commitMode, if_pos (by simp [hmode, htime])]
  dsimp only
  rw [foldState_emit]
  refine ⟨rfl, rfl, rfl, fun n hn hf => ?_⟩
  refine List.mem_append_left _ (List.mem_reverse.2 (List.mem_map_of_mem (List.mem_filter.2 ⟨hn, ?_⟩)))
  simp [hf]

end Modes

/-- Settles O45: a failed unit by what its fence and the losses leave, a remap and a mode change by the registers that they set. -/
theorem unitsAndModes : Obligations.UnitsAndModes := by
  unfold Obligations.UnitsAndModes
  intro s hinv
  refine ⟨fun n hn => Gives.of_eq rfl rfl (mem_fenceClusters hn), fun k n hk hn => ?tile,
    fun e => Gives.of_eq rfl rfl fenceEngine_fences, fun u ns e c cx hu hcx hr hmem => ?lost,
    fun rq hctxs hrun hacc => ?remap, fun hrun => Gives.of_eq rfl rfl (endUnitRemap_ends hrun),
    fun rq hacc href hsome => ?stage, fun n hmode hn hlate => Gives.of_eq rfl rfl (stageAck_takes hmode hn hlate),
    fun hmode htime => Gives.of_eq rfl rfl (commitMode_commits hmode htime)⟩
  case tile =>
    refine Gives.of_eq rfl rfl (mem_fenceClusters_of_mem (List.mem_map.2 ⟨n % 15, List.mem_range.2 ?_, ?_⟩) hn)
    · exact Nat.mod_lt _ (by decide)
    · omega
  case lost =>
    rcases hu with ⟨n, rfl, rfl, rfl, hn, hf⟩ | ⟨k, rfl, rfl, rfl, hf⟩
    · exact Gives.of_eq rfl rfl (fenceClusters_lost hn hf hcx hr hmem)
    · exact Gives.of_eq rfl rfl (fenceEngine_lost hf hcx hr hmem)
  case remap =>
    have href : remapRefused s = none := by simp [remapRefused, hctxs, hrun]
    exact Gives.of_eq rfl (requestWrite_accepted hacc href) ⟨rfl, rfl⟩
  case stage =>
    exact Gives.of_eq rfl (requestWrite_accepted hacc href) (startStage_stages hsome)

end Sys2Proof.Machine
end

section
/-!
SUPPORT. Writes of a span through the pool cache (09_memory_pool, R286, R287, R301): the bytes that they leave.
-/
namespace Sys2Proof.Machine

section SpanWrites
variable {s t : State} {a : Nat} {b : Bytes}

theorem memWrite_append {m : Mem} (b c : Bytes) (a : Nat) : memWrite m a (b ++ c) = memWrite (memWrite m a b) (a + b.length) c := by
  induction b generalizing m a with
  | nil => rfl
  | cons x b ih =>
    rw [List.cons_append, memWrite, ih, memWrite, List.length_cons]
    congr 1
    omega

theorem sliceBytes_eq_take_drop {off n : Nat} (h : off + n ≤ b.length) : sliceBytes b off n = (b.drop off).take n := by
  refine List.ext_getElem (by simp [sliceBytes]; omega) fun i hi hj => ?_
  have hin : off + i < b.length := by simp [sliceBytes] at hi; omega
  simp [sliceBytes, List.getD_eq_getElem?_getD, hin]

/-- The bytes of a span that its first `k` lines hold. -/
def spanUpTo (a n k : Nat) : Nat := min (a + n) (lineOf a + 64 * k) - a

/-- The piece of a span in its line `k`. -/
def linePiece (a n k : Nat) : Nat × Nat × Nat :=
  let l := lineOf a + 64 * k
  (max a l, max a l - a, min (a + n) (l + 64) - max a l)

/-- The number of lines of a span. -/
def lineCount (a n : Nat) : Nat := if n = 0 then 0 else (a + n - 1) / 64 - a / 64 + 1

theorem linesOf_eq_map (a n : Nat) : linesOf a n = (List.range (lineCount a n)).map fun k => lineOf a + 64 * k := by
  unfold linesOf lineCount
  split <;> rfl

theorem linePieces_eq_map (a n : Nat) : linePieces a n = (List.range (lineCount a n)).map (linePiece a n) := by
  rw [linePieces, linesOf_eq_map, List.map_map]
  rfl

theorem spanUpTo_zero (a n : Nat) : spanUpTo a n 0 = 0 := by
  unfold spanUpTo lineOf
  omega

theorem spanUpTo_lineCount (a n : Nat) : spanUpTo a n (lineCount a n) = n := by
  unfold spanUpTo lineCount lineOf
  split <;> omega

/-- A piece starts where the pieces of the lines before it end, and lies in its own line. -/
theorem linePiece_spec {n k : Nat} (hk : k < lineCount a n) : ∃ len, linePiece a n k = (a + spanUpTo a n k, spanUpTo a n k, len) ∧
    spanUpTo a n (k + 1) = spanUpTo a n k + len ∧ spanUpTo a n k + len ≤ n ∧
    lineOf (a + spanUpTo a n k) = lineOf a + 64 * k := by
  unfold lineCount at hk
  split at hk
  · omega
  refine ⟨min (a + n) (lineOf a + 64 * k + 64) - max a (lineOf a + 64 * k), ?_, ?_, ?_, ?_⟩
  · have hstart : max a (lineOf a + 64 * k) - a = spanUpTo a n k := by
      simp only [spanUpTo, lineOf]
      omega
    have hpos : max a (lineOf a + 64 * k) = a + spanUpTo a n k := by omega
    simp only [linePiece, hpos, Nat.add_sub_cancel_left]
  · simp only [spanUpTo, lineOf]
    omega
  · simp only [spanUpTo, lineOf]
    omega
  · simp only [spanUpTo, lineOf]
    omega

/-- A write of a span without poison through the cache changes the bytes of the span, and which lines of the pool are
dirty (R287). -/
theorem poolWrite_clean (hp : ∀ l ∈ linesOf a b.length, l ∉ s.pool.poison) : ∃ stale, poolWrite a b false s =
    { s with pool := { s.pool with mem := memWrite s.pool.mem a b, stale := stale } } := by
  have hupto (k : Nat) (hk : k ≤ lineCount a b.length) : ∃ stale,
      foldState (fun x s => writeRun x.1 (sliceBytes b x.2.1 x.2.2) false s)
        ((List.range k).map (linePiece a b.length)) s =
      { s with pool := { s.pool with mem := memWrite s.pool.mem a (b.take (spanUpTo a b.length k)), stale := stale } } := by
    induction k with
    | zero => exact ⟨s.pool.stale, by rw [spanUpTo_zero]; rfl⟩
    | succ k ih =>
      obtain ⟨stale, ih⟩ := ih (by omega)
      obtain ⟨len, hpiece, hnext, hin, hline⟩ := linePiece_spec (a := a) (n := b.length) (k := k) (by omega)
      have hclean : lineOf a + 64 * k ∉ s.pool.poison :=
        hp _ (by rw [linesOf_eq_map]; exact List.mem_map.2 ⟨k, List.mem_range.2 (by omega), rfl⟩)
      rw [List.range_succ, List.map_append, foldState_append, ih]
      simp only [List.map_cons, List.map_nil, foldState, hpiece]
      rw [writeRun, if_neg (by rw [hline]; simpa using hclean)]
      obtain ⟨stale', h⟩ := writeLine_back (a + spanUpTo a b.length k) (sliceBytes b (spanUpTo a b.length k) len)
        { s with pool := { s.pool with
          mem := memWrite s.pool.mem a (b.take (spanUpTo a b.length k)), stale := stale } }
      refine ⟨stale', h.trans ?_⟩
      have hwrite : memWrite s.pool.mem a (b.take (spanUpTo a b.length (k + 1))) =
          memWrite (memWrite s.pool.mem a (b.take (spanUpTo a b.length k))) (a + spanUpTo a b.length k)
            (sliceBytes b (spanUpTo a b.length k) len) := by
        have hlen : (b.take (spanUpTo a b.length k)).length = spanUpTo a b.length k :=
          List.length_take_of_le (by omega)
        rw [hnext, List.take_add, memWrite_append, hlen, sliceBytes_eq_take_drop hin]
      rw [hwrite]
  obtain ⟨stale, h⟩ := hupto _ (Nat.le_refl _)
  refine ⟨stale, ?_⟩
  rw [poolWrite, linePieces_eq_map, h, spanUpTo_lineCount, List.take_length]

/-- A span written reads back, and every other byte reads as before (R287). -/
theorem poolWrite_reads (hinv : Inv s) (hp : ∀ l ∈ linesOf a b.length, l ∉ s.pool.poison) :
    poolBytes (poolWrite a b false s) a b.length = b ∧
      ∀ i, i < a ∨ a + b.length ≤ i → memGet (poolWrite a b false s).pool.mem i = memGet s.pool.mem i := by
  obtain ⟨stale, h⟩ := poolWrite_clean hp
  rw [h]
  exact ⟨memRead_memWrite hinv.pool a b, fun i hi => memGet_memWrite_outside hinv.pool hi⟩

end SpanWrites
end Sys2Proof.Machine
end

section
/-!
SUPPORT and CLAIM. Coherent windows, accesses of the dies and snoops (08_windows_coherence, R278 to R285): the obligation
O42.
-/
namespace Sys2Proof.Machine

section Coherent
variable {s : State} {n : Nat} {v : Val} {i : ErrInfo}

/-! ### The state of a coherent window -/

theorem cohOf_setCoh {x : CohState × CohRefusal} (hn : n < s.win.coh.length) : cohOf (setCoh n x s) n = x := by
  simp [cohOf, setCoh, List.getD_eq_getElem?_getD, hn]

theorem cohOf_setCoh_other {x : CohState × CohRefusal} {k : Nat} (h : k ≠ n) : cohOf (setCoh n x s) k = cohOf s k := by
  simp [cohOf, setCoh, List.getD_eq_getElem?_getD, List.getElem?_set_ne (Ne.symm h)]

theorem cohOf_congr {t : State} (h : t.win.coh = s.win.coh) (k : Nat) : cohOf t k = cohOf s k := by
  rw [cohOf, h, cohOf]

theorem SameBut.coh {t : State} (h : SameBut L s t) (hl : .coherence ∉ L) : t.win.coh = s.win.coh := by
  have hpart : t.win.coherencePart = s.win.coherencePart := h.2.2 .coherence hl
  simp only [WinSt.coherencePart, Prod.mk.injEq] at hpart
  exact hpart.1

/-- Whether a window may open depends on the objects, the windows, and the handle and base of each window (R278). -/
theorem cohRefused_congr {t : State} (ho : t.obj.objs = s.obj.objs) (hc : t.win.coh = s.win.coh)
    (hval : ∀ k, ∀ b < 3, objVal t (0x6010 + k) b = objVal s (0x6010 + k) b) : cohRefused t n = cohRefused s n := by
  have hhandle (k : Nat) : cohHandle t k = cohHandle s k := congrArg valNum (hval k 1 (by decide))
  have hbase (k : Nat) : cohBase t k = cohBase s k := congrArg valNum (hval k 2 (by decide))
  have hobj (k : Nat) : cohObj t k = cohObj s k := by rw [cohObj, ho, hhandle, cohObj]
  have hlive (h : Nat) : liveObj t h = liveObj s h := by rw [liveObj, ho, liveObj]
  have hon : cohOn t n = cohOn s n := by
    simp only [cohOn, cohOf_congr hc, hobj, hbase]
  simp only [cohRefused, hlive, hhandle, hon, hbase]

/-- A write of CohEnable that is answered leaves what decides whether a window may open. -/
theorem cohRefused_putObj : cohRefused (putObj ⟨0x6010 + n, 3⟩ v s) n = cohRefused s n := by
  have hput : SameBut [.od, .stored, .counters, .mgmt, .int] s (putObj ⟨0x6010 + n, 3⟩ v s) :=
    putObj_frame (by decide) (SameBut.refl _ s)
  exact cohRefused_congr (hput.2.2 .objs (by decide)) (hput.coh (by decide)) fun k b hb => objVal_putObj_other (by dsimp only; omega)

theorem enableCoh_enables (hinv : Inv s) (hn : n < 64) (hon : (cohOf s n).1 ≠ .on) (hclosing : (cohOf s n).1 ≠ .closing) :
    cohOf (enableCoh n s) n = (if cohRefused s n = .none then (.on, .none) else (.refused, cohRefused s n)) ∧
      ∀ k, k ≠ n → cohOf (enableCoh n s) k = cohOf s k := by
  have hcoh : (putObj ⟨0x6010 + n, 3⟩ (.num 1) s).win.coh = s.win.coh :=
    (putObj_frame (L := [.od, .stored, .counters, .mgmt, .int]) (by decide) (SameBut.refl _ s)).coh (by decide)
  have hlen : n < (putObj ⟨0x6010 + n, 3⟩ (.num 1) s).win.coh.length := by rw [hcoh, hinv.coh]; exact hn
  unfold enableCoh
  dsimp only
  rw [if_neg (by rw [cohOf_congr hcoh]; simp [hon, hclosing]), cohRefused_putObj]
  split
  next hnone => exact ⟨by rw [cohOf_setCoh hlen, if_pos hnone], fun k hk => (cohOf_setCoh_other hk).trans (cohOf_congr hcoh k)⟩
  next hsome => exact ⟨by rw [cohOf_setCoh hlen, if_neg hsome], fun k hk => (cohOf_setCoh_other hk).trans (cohOf_congr hcoh k)⟩

theorem sendSnoop_coh {d : Die} {line : Nat} {inv : Bool} : (sendSnoop i d line inv s).win.coh = s.win.coh := by
  unfold sendSnoop
  split
  · rfl
  · exact (countPackage_frame (L := [.counters, .int]) (by decide) (SameBut.refl _ _)).coh (by decide)

theorem dropLines_coh (ls : List Line) : (foldState (dropLine i) ls s).win.coh = s.win.coh :=
  foldState_keeps (P := fun t => t.win.coh = s.win.coh) (fun l _ ht => foldState_keeps
    (P := fun t => t.win.coh = s.win.coh) (fun _ _ hu => sendSnoop_coh.trans hu) l.dies ht) ls rfl

theorem disableCoh_closes (hinv : Inv s) (hn : n < 64) (h : (cohOf s n).1 = .on) :
    cohOf (disableCoh n s) n = (.closing, .none) := by
  have hcoh : (putObj ⟨0x6010 + n, 3⟩ (.num 0) s).win.coh = s.win.coh :=
    (putObj_frame (L := [.od, .stored, .counters, .mgmt, .int]) (by decide) (SameBut.refl _ s)).coh (by decide)
  unfold disableCoh
  dsimp only
  rw [cohOf_congr hcoh, h]
  dsimp only
  rw [cohOf_congr (dropLines_coh _)]
  exact cohOf_setCoh (by rw [hcoh, hinv.coh]; exact hn)

theorem disableCoh_leaves (hinv : Inv s) (hn : n < 64) (h : (cohOf s n).1 = .refused) :
    cohOf (disableCoh n s) n = (.off, .none) := by
  have hcoh : (putObj ⟨0x6010 + n, 3⟩ (.num 0) s).win.coh = s.win.coh :=
    (putObj_frame (L := [.od, .stored, .counters, .mgmt, .int]) (by decide) (SameBut.refl _ s)).coh (by decide)
  unfold disableCoh
  dsimp only
  rw [cohOf_congr hcoh, h]
  exact cohOf_setCoh (by rw [hcoh, hinv.coh]; exact hn)

/-! ### Accesses of the dies (R279 to R281) -/

theorem lineCount_le (a : Nat) {n : Nat} (h : n ≤ 4096) : lineCount a n ≤ 256 := by
  unfold lineCount
  split <;> omega

theorem newLines_length_le (a : Nat) {n : Nat} (h : n ≤ 4096) : (newLines s (linesOf a n)).length ≤ 256 := by
  refine Nat.le_trans (List.length_filter_le _ _) ?_
  rw [linesOf_eq_map, List.length_map, List.length_range]
  exact lineCount_le a h

/-- The tracking of lines changes the snoop filter alone (R280). -/
theorem trackLines_sameBut {t : State} {d : Die} {on write : Bool} {ls : List Nat} :
    SameBut [.coherence] t (if on then foldState (trackLine d write) ls t else t) := by
  split
  · exact foldState_frame (fun _ _ h => trackLine_frame (by decide) h) (SameBut.refl _ t)
  · exact SameBut.refl _ t

/-- An access inside an aperture that meets no held line and finds its places in the filter runs. -/
theorem coherentAccess_runs {d : Die} {addr : Nat} {o : MemObj} {x : CohAccess} (hap : apertureAt s addr = some (n, o))
    (hroom : s.win.filter.length + 256 ≤ filterEntries) (hlen : cohBytes x ≤ 4096)
    (hfree : gated s (o.base + (addr - cohBase s n)) (cohBytes x) (cohWrites x) (some d) = false) :
    coherentAccess d addr x s = runCoherent d ((cohOf s n).1 == .on) (o.base + (addr - cohBase s n)) x s := by
  have hplaces : ¬(((cohOf s n).1 == .on && decide (filterEntries < s.win.filter.length +
      (newLines s (linesOf (o.base + (addr - cohBase s n)) (cohBytes x))).length)) = true) := by
    have hnew := newLines_length_le (s := s) (o.base + (addr - cohBase s n)) hlen
    rw [Bool.and_eq_true, decide_eq_true_eq]
    omega
  have htry : tryCoherent d addr x s =
      (runCoherent d ((cohOf s n).1 == .on) (o.base + (addr - cohBase s n)) x s, true) := by
    simp only [tryCoherent, hap, hfree, Bool.false_eq_true, if_false]
    exact if_neg hplaces
  simp only [coherentAccess, hap, htry]

theorem runCoherent_reads {d : Die} {on : Bool} {a len : Nat} :
    .completion 0 .success (poisoned s a len) (poolBytes s a len) ∈ (runCoherent d on a (.read len) s).out ∧
      (runCoherent d on a (.read len) s).pool = s.pool := by
  let s1 := if poisoned s a len then countPackage 0x17 s else s
  let s2 := emit (.completion 0 .success (poisoned s a len) (poolBytes s1 a len)) s1
  have hrun : runCoherent d on a (.read len) s = if on then foldState (trackLine d false) (linesOf a len) s2 else s2 := rfl
  have hs1 : SameBut [.counters, .int] s s1 := SameBut.ite (countPackage_frame (by decide) (SameBut.refl _ s)) (SameBut.refl _ s)
  have hpool : s1.pool = s.pool := hs1.pool_eq (by decide)
  have htrack := trackLines_sameBut (t := s2) (d := d) (on := on) (write := false) (ls := linesOf a len)
  rw [hrun]
  refine ⟨?_, (htrack.pool_eq (by decide)).trans hpool⟩
  rw [htrack.2.2 .out (by decide)]
  have hbytes : poolBytes s1 a len = poolBytes s a len := by rw [poolBytes, hpool, poolBytes]
  rw [← hbytes]
  exact List.mem_cons_self

theorem runCoherent_writes {d : Die} {on : Bool} {a : Nat} {b : Bytes} (hinv : Inv s)
    (hclean : ∀ l ∈ linesOf a b.length, l ∉ s.pool.poison) :
    poolBytes (runCoherent d on a (.write b) s) a b.length = b ∧
      ∀ i, i < a ∨ a + b.length ≤ i → memGet (runCoherent d on a (.write b) s).pool.mem i = memGet s.pool.mem i := by
  have htrack : (runCoherent d on a (.write b) s).pool = (poolWrite a b false s).pool :=
    trackLines_sameBut.pool_eq (by decide)
  rw [poolBytes, htrack]
  exact poolWrite_reads hinv hclean

/-! ### Snoops (R281) -/

theorem mem_answeredLines {d : Die} {line : Nat} {inv : Bool} {l : Line} {ls : List Line}
    (h : l ∈ (ls.map fun l => if l.address == line then answerLine d inv l else l).filter fun l => !l.dies.isEmpty)
    (ha : l.address = line) : l.owned = false ∧ (inv = true → d ∉ l.dies) := by
  obtain ⟨y, hy, rfl⟩ := List.mem_map.1 (List.mem_filter.1 h).1
  have haddress : (if y.address == line then answerLine d inv y else y).address = y.address := by
    unfold answerLine
    repeat' split
    all_goals rfl
  rw [if_pos (beq_iff_eq.2 (haddress.symm.trans ha))]
  unfold answerLine
  split
  next h => exact ⟨rfl, fun _ hd => by simp at hd⟩
  next h => exact ⟨rfl, fun hinv => absurd hinv h⟩

/-- The state after a snoop's answer without data, before the dies' waiting accesses try again (R281). -/
def snoopAnswered (d : Die) (line : Nat) (x : Snoop) (s : State) : State :=
  { s with win := { s.win with
    snoops := s.win.snoops.filter (· != x)
    filter := (s.win.filter.map fun l => if l.address == line then answerLine d x.invalidate l else l).filter
      fun l => !l.dies.isEmpty } }

theorem snoopAck_answers {d : Die} {line : Nat} {x : Snoop}
    (hx : (s.win.snoops.find? fun y => y.die == d && y.line == line) = some x) (hw : s.win.waiting = []) :
    snoopAck d line none s = wake (snoopAnswered d line x s) := by
  simp only [snoopAck, hx, hw, retryWaiting, snoopAnswered]

/-- The state in which a snoop without an answer is late, before the error (R281). -/
def snoopLate (x : Snoop) (s : State) : State :=
  { s with win := { s.win with snoops := s.win.snoops.map fun y => if y == x then { y with late := true } else y } }

/-- The first error of class S2 of a whole pair fills the package capture (R376). -/
theorem raiseError_fills {e : Src} (hwhole : e ∉ s.err.wireFaults) (hclass : 2 ≤ srcClass e)
    (hfree : s.err.capture.heldNow = false) : (raiseError e i s).err.capture.source = srcCode e ∧
      (raiseError e i s).err.capture.address = i.address ∧ (raiseError e i s).err.capture.master = masterOf i ∧
      (raiseError e i s).err.capture.access = i.addressKind * 256 + i.access := by
  rw [raiseError_err hwhole, raisedErr_capture, if_pos hclass, captureError, if_neg (by rw [hfree]; decide)]
  exact ⟨rfl, rfl, rfl, rfl⟩

end Coherent

/-- Settles O42: the window's state by its enable, an access by the lines that no die holds, a snoop by its answer or its age. -/
theorem coherence : Obligations.Coherence := by
  unfold Obligations.Coherence
  intro s hinv
  refine ⟨fun rq n => ⟨fun hacc hon hclosing => ?enable, fun hacc => ⟨fun hon => ?disable, fun hrefused => ?off⟩⟩,
    fun n hclosing hlines => ?closed, fun d addr n o hap hroom => ⟨fun len hlen hfree => ?read, fun b hlen hfree hclean => ?write⟩,
    fun d line x hx hw => ?answer, fun d line x hx => ?timeout⟩
  case enable =>
    exact Gives.of_eq rfl (requestWrite_accepted hacc rfl)
      (enableCoh_enables (s := emit (.objectStatus rq ⟨0x6010 + n.val, 3⟩ .ok) s) ((emit_ok (Ok.refl s)).inv hinv) n.isLt hon hclosing)
  case disable =>
    exact Gives.of_eq rfl (requestWrite_accepted hacc rfl)
      (disableCoh_closes ((emit_ok (Ok.refl s)).inv hinv) n.isLt hon)
  case off =>
    exact Gives.of_eq rfl (requestWrite_accepted hacc rfl)
      (disableCoh_leaves ((emit_ok (Ok.refl s)).inv hinv) n.isLt hrefused)
  case closed =>
    have hstep : exec (.cohCloseDone n) s = .next (setCoh n.val (.off, .none) s) := by
      refine congrArg Host.Outcome.next ((if_pos (by simp [hclosing])).trans ?_)
      rw [hlines]
    exact ⟨_, hstep, cohOf_setCoh (by rw [hinv.coh]; exact n.isLt), setCoh_frame (by decide) (SameBut.refl _ s)⟩
  case read =>
    exact Gives.of_eq rfl (coherentAccess_runs hap hroom hlen hfree) runCoherent_reads
  case write =>
    exact Gives.of_eq rfl (coherentAccess_runs hap hroom hlen hfree) (runCoherent_writes hinv hclean)
  case answer =>
    exact ⟨_, congrArg Host.Outcome.next (snoopAck_answers hx hw), fun y => by simp [snoopAnswered],
      fun l hl ha => mem_answeredLines hl ha, rfl⟩
  case timeout =>
    have hstep : exec (.snoopTimeout d line) s =
        .next (raiseError .snoopTimeout { x.master with address := w64 line, addressKind := 1 } (snoopLate x s)) := by
      refine congrArg Host.Outcome.next ?_
      rw [hx]
      rfl
    refine ⟨_, hstep, raised_raiseError_after rfl, fun hwhole hfree => ?_, ?_⟩
    · obtain ⟨hsource, haddress, hmaster, haccess⟩ := raiseError_fills (s := snoopLate x s)
        (i := { x.master with address := w64 line, addressKind := 1 }) hwhole (by decide) hfree
      exact ⟨hsource, haddress, hmaster, haccess.trans (by rw [Nat.one_mul])⟩
    · have hsame : (raiseError .snoopTimeout { x.master with address := w64 line, addressKind := 1 }
          (snoopLate x s)).win.coherencePart = (snoopLate x s).win.coherencePart := raiseError_sameBut.2.2 .coherence (by decide)
      simp only [WinSt.coherencePart, Prod.mk.injEq] at hsame
      obtain ⟨-, -, hsnoops, -⟩ := hsame
      rw [hsnoops, snoopLate]
      simp

end Sys2Proof.Machine
end

section
/-!
SUPPORT and CLAIM. Peers connect, are acknowledged, time out and come back (08_windows_coherence, R254 to R257, R267 to
R272; 13, R402): the obligation O40.
-/
namespace Sys2Proof.Machine

section Peers
variable {s t u : State} {p : PackageId} {x : Peer} {ss : PairSession} {e : Nat}

/-! ### A peer and its session -/

theorem peer_modPeer {f : Peer → Peer} (hf : ∀ y, (f y).id = y.id) : peer? (modPeer p f s) p = (peer? s p).map f := by
  simp only [peer?, modPeer]
  rw [find_map fun y => by split <;> simp [hf]]
  cases h : s.win.peers.find? fun y => y.id == p with
  | none => rfl
  | some y =>
    have hkey : (y.id == p) = true := by simpa using List.find?_some h
    simp only [Option.map_some, hkey, if_true]

theorem peer_modPeer_some {f : Peer → Peer} (h : peer? s p = some x) (hf : ∀ y, (f y).id = y.id) :
    peer? (modPeer p f s) p = some (f x) := by rw [peer_modPeer hf, h]; rfl

theorem session_some (h : peer? s p = some x) : session? s p = x.session := by rw [session?, h]; rfl

theorem peer_modSession {f : PairSession → PairSession} (h : peer? s p = some x) :
    peer? (modSession p f s) p = some { x with session := x.session.map f } :=
  peer_modPeer_some h (by exact fun _ => rfl)

theorem session_modSession {f : PairSession → PairSession} : session? (modSession p f s) p = (session? s p).map f := by
  rw [session?, modSession, peer_modPeer (by exact fun _ => rfl), session?]
  cases peer? s p <;> rfl

theorem peer_congr (h : t.win.peers = s.win.peers) : peer? t p = peer? s p := by rw [peer?, h, peer?]

/-! ### What a frame on the wire and the choice of a port read of the state -/

/-- The identity of the package, its peer entries and its links are as they were. -/
structure SameFabric (s t : State) : Prop where
  variant : t.variant = s.variant
  od : t.od = s.od
  localId : t.win.localId = s.win.localId
  etherType : t.win.etherType = s.win.etherType
  vlan : t.win.vlan = s.win.vlan
  links : t.win.links = s.win.links

theorem SameFabric.refl (s : State) : SameFabric s s := ⟨rfl, rfl, rfl, rfl, rfl, rfl⟩

theorem SameFabric.trans (h : SameFabric s t) (k : SameFabric t u) : SameFabric s u :=
  ⟨k.variant.trans h.variant, k.od.trans h.od, k.localId.trans h.localId, k.etherType.trans h.etherType,
    k.vlan.trans h.vlan, k.links.trans h.links⟩

theorem SameBut.sameFabric (h : SameBut L s t) (hl : ∀ p ∈ [StatePart.od, .peers], p ∉ L) : SameFabric s t := by
  have hpeers : t.win.peersPart = s.win.peersPart := h.2.2 .peers (hl _ (by decide))
  simp only [WinSt.peersPart, Prod.mk.injEq] at hpeers
  obtain ⟨hid, hether, hvlan, hlinks, -, -⟩ := hpeers
  exact ⟨h.1, h.2.2 .od (hl _ (by decide)), hid, hether, hvlan, hlinks⟩

theorem SameBut.peers (h : SameBut L s t) (hl : .peers ∉ L) : t.win.peers = s.win.peers := by
  have hpeers : t.win.peersPart = s.win.peersPart := h.2.2 .peers hl
  simp only [WinSt.peersPart, Prod.mk.injEq] at hpeers
  exact hpeers.2.2.2.2.1

theorem peerEntry_congr (h : SameFabric s t) : peerEntry t p = peerEntry s p := objNum_congr h.od h.variant

theorem wireFrame_congr (h : SameFabric s t) {key : Option Bytes} {f : Frame} : wireFrame t p e key f = wireFrame s p e key f := by
  simp only [wireFrame, frameQ0, peerEntry_congr h, h.localId, h.etherType, h.vlan]

theorem fabricPort_congr (h : SameFabric s t) {skip : List Nat} : fabricPort t p skip = fabricPort s p skip := by
  simp only [fabricPort, peerMask, peerEntry_congr h, h.links]

theorem foldState_sameFabric {α : Type} {f : α → State → State} (hf : ∀ a t, SameFabric t (f a t)) (l : List α) :
    SameFabric s (foldState f l s) :=
  foldState_keeps (P := fun t => SameFabric s t) (fun a t h => h.trans (hf a t)) l (.refl s)

theorem rawFrame_sameBut {f : Frame} : SameBut [.out] s (rawFrame p f s) := rawFrame_frame (by decide) (SameBut.refl _ s)

theorem rawFrame_sameFabric {f : Frame} : SameFabric s (rawFrame p f s) := rawFrame_sameBut.sameFabric (by decide)

theorem modPeer_sameFabric {f : Peer → Peer} : SameFabric s (modPeer p f s) := ⟨rfl, rfl, rfl, rfl, rfl, rfl⟩

theorem flushFrames_sameFabric : SameFabric s (flushFrames p s) := by
  unfold flushFrames
  split
  · exact .refl s
  split
  · dsimp only
    split
    · exact .refl s
    · exact modPeer_sameFabric.trans (foldState_sameFabric (fun _ _ => rawFrame_sameFabric) _)
  · exact .refl s

theorem countPackage_sameBut {n : Nat} : SameBut [.counters, .int] s (countPackage n s) :=
  countPackage_frame (by decide) (SameBut.refl _ s)

theorem retransmit_sameFabric : SameFabric s (retransmit p s) := by
  unfold retransmit
  split
  · exact .refl s
  split
  · exact .refl s
  · exact (modPeer_sameFabric.trans (foldState_sameFabric (fun _ _ =>
      rawFrame_sameFabric.trans (countPackage_sameBut.sameFabric (by decide))) _)).trans flushFrames_sameFabric

/-! ### Frames that go out (R257, R270) -/

theorem sends_of_lanes (hport : x.port = some e) (hss : x.session = some ss) (hlanes : ss.lanes ≠ 0) : sends x = true := by
  rw [sends, hport, hss]
  exact bne_iff_ne.2 hlanes

theorem rawFrame_emits {f : Frame} (hx : peer? s p = some x) (hport : x.port = some e) (hss : x.session = some ss)
    (hlanes : ss.lanes ≠ 0) : rawFrame p f s = emit (.frame p e (wireFrame s p e (some ss.key) f)) s := by
  have hsends : (peer? s p).filter sends = some x := by
    rw [hx, Option.filter_some, if_pos (sends_of_lanes hport hss hlanes)]
  simp only [rawFrame, hsends, hport, hss, Option.map_some]

/-- Nothing leaves while as many frames are out as may be (R270). -/
theorem flushFrames_full (hx : peer? s p = some x) (hss : x.session = some ss)
    (hfull : min 512 ss.unacked.length ≤ ss.emitted) : flushFrames p s = s := by
  unfold flushFrames
  split
  · rfl
  next y hy =>
    obtain ⟨hpeer, -⟩ := Option.filter_eq_some_iff.1 hy
    obtain rfl : x = y := Option.some.inj (hx.symm.trans hpeer)
    split
    next ss' _ hss' _ =>
      obtain rfl : ss = ss' := Option.some.inj (hss.symm.trans hss')
      exact if_pos hfull
    · rfl

/-- Every frame sent again is on the wire, and no peer has changed (R257, R270). -/
theorem resend_emits (hx : peer? s p = some x) (hport : x.port = some e) (hss : x.session = some ss) (hlanes : ss.lanes ≠ 0)
    (fs : List Frame) (hst : SameFabric t s) :
    let u := foldState (fun f s => countPackage 0x0E (rawFrame p f s)) fs s
    u.win.peers = s.win.peers ∧ SameFabric t u ∧ s.out <:+ u.out ∧
      ∀ f ∈ fs, .frame p e (wireFrame t p e (some ss.key) f) ∈ u.out := by
  induction fs generalizing s with
  | nil => exact ⟨rfl, hst, List.suffix_refl _, fun f hf => absurd hf List.not_mem_nil⟩
  | cons f fs ih =>
    rw [foldState]
    have hraw := rawFrame_emits (f := f) hx hport hss hlanes
    have hcount : SameBut [.counters, .int] (rawFrame p f s) (countPackage 0x0E (rawFrame p f s)) := countPackage_sameBut
    have hpeers : (countPackage 0x0E (rawFrame p f s)).win.peers = s.win.peers :=
      (hcount.peers (by decide)).trans (rawFrame_sameBut.peers (by decide))
    have hout : (countPackage 0x0E (rawFrame p f s)).out = .frame p e (wireFrame s p e (some ss.key) f) :: s.out := by
      rw [hcount.2.2 .out (by decide), hraw]
      rfl
    obtain ⟨hp, hfab, hsuffix, hmem⟩ := ih ((peer_congr hpeers).trans hx)
      (hst.trans (rawFrame_sameFabric.trans (hcount.sameFabric (by decide))))
    rw [hout] at hsuffix
    refine ⟨hp.trans hpeers, hfab, (List.suffix_cons _ _).trans hsuffix, fun g hg => ?_⟩
    rcases List.mem_cons.1 hg with rfl | hg
    · rw [← wireFrame_congr hst]
      exact hsuffix.subset List.mem_cons_self
    · exact hmem g hg

theorem retransmit_resends (hx : peer? s p = some x) (hport : x.port = some e) (hss : x.session = some ss)
    (hlanes : ss.lanes ≠ 0) (hfull : ss.emitted = min 512 ss.unacked.length) :
    session? (retransmit p s) p = some { ss with resent := s.gtc } ∧
      ∀ f ∈ ss.unacked.take ss.emitted, .frame p e (wireFrame s p e (some ss.key) f) ∈ (retransmit p s).out := by
  have hsends : ¬((!(peer? s p).any sends) = true) := by simp [hx, sends_of_lanes hport hss hlanes]
  simp only [retransmit, session_some hx, hss]
  rw [if_neg hsends]
  have hmod : peer? (modSession p (fun y => { y with resent := s.gtc }) s) p =
      some { x with session := some { ss with resent := s.gtc } } := by
    rw [peer_modSession hx, hss]
    rfl
  obtain ⟨hpeers, -, -, hmem⟩ := resend_emits (ss := { ss with resent := s.gtc }) hmod hport rfl hlanes
    (ss.unacked.take ss.emitted) (modPeer_sameFabric (s := s))
  rw [flushFrames_full ((peer_congr hpeers).trans hmod) rfl (Nat.le_of_eq hfull.symm)]
  exact ⟨session_some ((peer_congr hpeers).trans hmod), hmem⟩

/-! ### State and port of a peer that sends -/

/-- State, port and ports tried of a peer. -/
def peerPlace (s : State) (p : PackageId) : Option (PeerState × Option Nat × List Nat) :=
  (peer? s p).map fun y => (y.state, y.port, y.tried)

theorem peerPlace_congr (h : t.win.peers = s.win.peers) : peerPlace t p = peerPlace s p := by
  rw [peerPlace, peer_congr h, peerPlace]

theorem peerPlace_setSession {f : Peer → Option PairSession} :
    peerPlace (modPeer p (fun y => { y with session := f y }) s) p = peerPlace s p := by
  rw [peerPlace, peer_modPeer (by exact fun _ => rfl), peerPlace]
  cases peer? s p <;> rfl

theorem flushFrames_place : peerPlace (flushFrames p s) p = peerPlace s p := by
  unfold flushFrames
  split
  · rfl
  split
  · dsimp only
    split
    · rfl
    · exact foldState_keeps (P := fun t => peerPlace t p = peerPlace s p)
        (fun f t ht => (peerPlace_congr (rawFrame_sameBut.peers (by decide))).trans ht) _ peerPlace_setSession
  · rfl

theorem retransmit_place : peerPlace (retransmit p s) p = peerPlace s p := by
  unfold retransmit
  split
  · rfl
  split
  · rfl
  · refine flushFrames_place.trans (foldState_keeps (P := fun t => peerPlace t p = peerPlace s p) (fun f t ht => ?_) _
      peerPlace_setSession)
    exact (peerPlace_congr ((countPackage_sameBut.peers (by decide)).trans (rawFrame_sameBut.peers (by decide)))).trans ht

/-! ### HELLO and its answer (R269, R271) -/

/-- A pair is UP with a new session after a HELLO or its answer (R269, R271). -/
def ComesUp (s : State) (m : HelloMsg) (t : State) : Prop :=
  ∃ y z, peer? t m.src = some y ∧ y.state = .up ∧ y.heard = s.gtc ∧
    y.bootId = some m.bootId ∧ y.hello = none ∧ y.port = fabricPort s m.src [] ∧ y.session = some z ∧
    z.sent = 0 ∧ z.expect = 0 ∧ z.bootId = m.bootId ∧ z.noncePeer = m.nonce ∧
    z.key = pairKey s m.src m.bootId z.nonceLocal m.nonce

variable {m : HelloMsg} {n : Bytes}

theorem goUp_comesUp (hx : peer? s m.src = some x) : ComesUp s m (goUp m.src m.bootId n m.nonce s) ∧
    (session? (goUp m.src m.bootId n m.nonce s) m.src).map (·.nonceLocal) = some n := by
  have hpeer := peer_modPeer_some (s := { s with win := { s.win with
    history := s.win.history.filter fun c => !(c.src == m.src && c.bootId != m.bootId) } }) (p := m.src)
    (f := fun x => { x with
      state := .up, port := fabricPort s m.src [], tried := [], hello := none, heard := s.gtc, bootId := some m.bootId
      session := some (newSession s.gtc m.bootId (lanesUp s) n m.nonce (pairKey s m.src m.bootId n m.nonce)) })
    hx (by exact fun _ => rfl)
  refine ⟨⟨_, _, hpeer, rfl, rfl, rfl, rfl, rfl, rfl, rfl, rfl, rfl, rfl, rfl⟩, ?_⟩
  refine (congrArg (Option.map _) (session_some (s := goUp m.src m.bootId n m.nonce s) hpeer)).trans rfl

/-- The end of a pair's session without operations out touches the pairs alone. -/
theorem endSession_quiet {code : DCode} (h : ∀ o ∈ s.win.sends, o.peer ≠ p) : ∃ rs fs hs, endSession p code s =
    modPeer p (fun x => { x with session := none }) { s with win := { s.win with recvs := rs, inbox := fs, history := hs } } := by
  have hops : (s.win.sends.filter fun o => o.peer == p && o.phase != 3) = [] :=
    List.filter_eq_nil_iff.2 fun o ho => by simp [h o ho]
  refine ⟨(s.win.recvs.filter fun o => o.src != p), (s.win.inbox.filter fun f => frameOf f != p),
    (s.win.history.map fun c => if c.src == p then { c with doneSeq := none } else c), ?_⟩
  simp only [endSession, endOps, modPeer, hops]
  rfl

/-- A HELLO of a peer that has no operation of this package's out ends what stood of the pair and nothing else. -/
theorem helloEnds_quiet (hx : peer? s p = some x) (h : x.session = none ∨ ∀ o ∈ s.win.sends, o.peer ≠ p) :
    ∃ ps rs fs hs y, helloEnds p s = { s with win := { s.win with peers := ps, recvs := rs, inbox := fs, history := hs } } ∧
      (ps.find? fun z => z.id == p) = some y := by
  unfold helloEnds
  split
  next hopen =>
    have hquiet : ∀ o ∈ s.win.sends, o.peer ≠ p := h.resolve_left fun hnone => by
      rw [session_some hx, hnone] at hopen
      cases hopen
    let s1 := modPeer p (fun y => { y with state := .connecting, hello := none }) s
    have hx1 : peer? s1 p = some { x with state := .connecting, hello := none } := peer_modPeer_some hx (by exact fun _ => rfl)
    obtain ⟨rs, fs, hs, hend⟩ := endSession_quiet (s := s1) (code := .sessionReset) hquiet
    have hpeer := peer_modPeer_some (f := fun x => { x with session := none })
      (s := { s1 with win := { s1.win with recvs := rs, inbox := fs, history := hs } }) hx1 (by exact fun _ => rfl)
    exact ⟨_, rs, fs, hs, _, hend, hpeer⟩
  next => exact ⟨s.win.peers, s.win.recvs, s.win.inbox, s.win.history, x, rfl, hx⟩

/-- A HELLO_ACK with a nonce goes out, and the pair is UP (R269, R271). -/
theorem answerHello_comesUp (hx : peer? s m.src = some x) (he : fabricPort s m.src [] = some e) :
    let t := sendHello m.src 0x51 n (goUp m.src m.bootId n m.nonce s)
    ComesUp s m t ∧ ∃ z, session? t m.src = some z ∧ z.nonceLocal = n ∧
      .frame m.src e (wireFrame s m.src e none ⟨0, 0x51, 0, 0, 0, 0, leBytes 8 s.sec.bootId.toNat ++ z.nonceLocal⟩) ∈ t.out := by
  obtain ⟨hup, hnonce⟩ := goUp_comesUp (n := n) hx
  have hsend : sendHello m.src 0x51 n (goUp m.src m.bootId n m.nonce s) = emit (.frame m.src e
      (wireFrame s m.src e none ⟨0, 0x51, 0, 0, 0, 0, leBytes 8 s.sec.bootId.toNat ++ n⟩)) (goUp m.src m.bootId n m.nonce s) := by
    have hport : fabricPort (goUp m.src m.bootId n m.nonce s) m.src [] = some e := he
    simp only [sendHello, hport]
    rfl
  rw [hsend]
  obtain ⟨z, hz, hzn⟩ := Option.map_eq_some_iff.1 hnonce
  exact ⟨hup, z, hz, hzn, hzn ▸ List.mem_cons_self⟩

theorem helloArrives_answers (hdst : m.dst = s.win.localId) (hx : peer? s m.src = some x) (hopen : mayOpen s = true)
    (h : x.session = none ∨ ∀ o ∈ s.win.sends, o.peer ≠ m.src) (he : fabricPort s m.src [] = some e) :
    ComesUp s m (helloArrives m s) ∧ ∃ z, session? (helloArrives m s) m.src = some z ∧
      z.nonceLocal = x.hello.getD ((List.range 16).map (Config.drbgByte s.draws)) ∧
      .frame m.src e (wireFrame s m.src e none
        ⟨0, 0x51, 0, 0, 0, 0, leBytes 8 s.sec.bootId.toNat ++ z.nonceLocal⟩) ∈ (helloArrives m s).out := by
  obtain ⟨ps, rs, fs, hs, y, hends, hy⟩ := helloEnds_quiet hx h
  have hlanes : ((peer? s m.src).filter fun _ => lanesOn s) = some x := by
    have hon : lanesOn s = true := (Bool.and_eq_true_iff.1 hopen).1
    rw [hx, hon]
    rfl
  let s1 : State := { s with win := { s.win with peers := ps, recvs := rs, inbox := fs, history := hs } }
  have hanswer : mayAnswer s1 m.src = true := by
    have hport : fabricPort s1 m.src [] = some e := he
    have hmay : mayOpen s1 = true := hopen
    rw [mayAnswer, hport, hmay]
    rfl
  have hrun : helloArrives m s = sendHello m.src 0x51 (match x.hello with
      | some n => (s1, n)
      | none => drawNonce s1).2 (goUp m.src m.bootId (match x.hello with
      | some n => (s1, n)
      | none => drawNonce s1).2 m.nonce (match x.hello with
      | some n => (s1, n)
      | none => drawNonce s1).1) := by
    simp only [helloArrives, hdst, ne_eq, not_true_eq_false, if_false, hlanes, hends]
    exact if_neg (by rw [hanswer]; decide)
  rw [hrun]
  cases hhello : x.hello with
  | some n => exact answerHello_comesUp (s := s1) hy he
  | none => exact answerHello_comesUp (s := (drawNonce s1).1) hy he

/-! ### Peer entries (R254, R271) -/

/-- The valid bit of an entry is kept where its reserved bits are ignored. -/
theorem entry_valid {w : Nat} (h : w.testBit 63 = true) : (field w 59 0 + bit (w.testBit 63) 63).testBit 63 = true := by
  have hlow : field w 59 0 < 2 ^ 63 := by
    rw [field]
    omega
  rw [h, bit, if_pos rfl, Nat.add_comm, Nat.testBit_two_pow_add_eq]
  rw [Nat.testBit_lt_two_pow hlow]
  rfl

theorem writePeerEntry_connects {w : Nat} (h : w.testBit 63 = true) (hp : p ≠ s.win.localId) :
    ∃ y, peer? (writePeerEntry p w s) p = some y ∧ y.state = .connecting ∧ y.session = none ∧ y.hello = none := by
  have hlocal : (putObj ⟨0x6200 + p.toNat / 128, p.toNat % 128 + 1⟩ (.num (field w 59 0 + bit (w.testBit 63) 63)) s).win.localId =
      s.win.localId := by
    have hput : SameBut [.od, .stored, .counters, .mgmt, .int] s
        (putObj ⟨0x6200 + p.toNat / 128, p.toNat % 128 + 1⟩ (.num (field w 59 0 + bit (w.testBit 63) 63)) s) :=
      putObj_frame (by decide) (SameBut.refl _ s)
    have hpeers := hput.2.2 .peers (by decide)
    simp only [StatePart.same, WinSt.peersPart, Prod.mk.injEq] at hpeers
    exact hpeers.1
  unfold writePeerEntry
  extract_lets v s1 old s2 rest
  rw [if_neg (by rw [hlocal]; simpa using hp)]
  have hnone : rest.find? (fun x => x.id == p) = none :=
    List.find?_eq_none.2 fun x hx => by simpa using (List.mem_filter.1 hx).2
  refine ⟨newPeer p s2.gtc old, ?_, rfl, rfl, rfl⟩
  simp only [peer?, entry_valid h, v, if_true]
  rw [List.find?_append, hnone]
  simp [newPeer]

/-! ### Timers of a pair (R270, R271) -/

theorem ackTimer_acknowledges {k : U64} (hx : peer? s p = some x) (hss : x.session = some ss) (hport : x.port = some e)
    (hlanes : ss.lanes ≠ 0) (howed : ss.owed = some k) (htime : 2500 ≤ since s k) :
    session? (ackTimer p s) p = some { ss with ackSent := ss.ackSent + 1, owed := none } ∧
      .frame p e (wireFrame s p e (some ss.key) (stamped ss ⟨ss.ackSent, 0x40, 0, 0, 0, 0, []⟩)) ∈ (ackTimer p s).out := by
  have hmod : peer? (modSession p (fun y => { y with ackSent := y.ackSent + 1, owed := none }) s) p =
      some { x with session := some { ss with ackSent := ss.ackSent + 1, owed := none } } := by
    rw [peer_modSession hx, hss]
    rfl
  have hrun : ackTimer p s = rawFrame p (stamped ss ⟨ss.ackSent, 0x40, 0, 0, 0, 0, []⟩)
      (modSession p (fun y => { y with ackSent := y.ackSent + 1, owed := none }) s) := by
    simp only [ackTimer, session_some hx, hss, howed]
    exact if_neg (by simp [hx, sends_of_lanes hport hss hlanes, htime])
  rw [hrun, rawFrame_emits hmod hport rfl hlanes]
  exact ⟨session_some hmod, List.mem_cons_self⟩

theorem goDown_downs (hx : peer? s p = some x) (h : ∀ o ∈ s.win.sends, o.peer ≠ p) : Counted s (goDown p s) 0xD000 15 ∧
    ∃ y, peer? (goDown p s) p = some y ∧ y.state = .down ∧ y.session = none ∧ y.since = s.gtc ∧ y.port = none := by
  let s1 := modPeer p (fun x => { x with state := .down, since := s.gtc, port := none, tried := [] }) s
  have hx1 : peer? s1 p = some { x with state := .down, since := s.gtc, port := none, tried := [] } :=
    peer_modPeer_some hx (by exact fun _ => rfl)
  have hcount : SameBut [.counters, .int] s1 (countPackage 0x0F s1) := countPackage_sameBut
  have hsends : (countPackage 0x0F s1).win.sends = s.win.sends := by
    have hwindows := hcount.2.2 .windows (by decide)
    simp only [StatePart.same, WinSt.windowsPart, Prod.mk.injEq] at hwindows
    exact hwindows.2.2.1
  obtain ⟨rs, fs, hs, hend⟩ := endSession_quiet (s := countPackage 0x0F s1) (p := p) (code := .peerDown) (by rwa [hsends])
  have hdown : goDown p s = _ := hend
  rw [hdown]
  have hpeer := peer_modPeer_some (f := fun x => { x with session := none })
    (s := { countPackage 0x0F s1 with win := { (countPackage 0x0F s1).win with recvs := rs, inbox := fs, history := hs } })
    ((peer_congr (hcount.peers (by decide))).trans hx1) (by exact fun _ => rfl)
  exact ⟨counted_count s1 0xD000 0x0F, _, hpeer, rfl, rfl, rfl, rfl⟩

end Peers

/-- Settles O40: a HELLO by the session that it opens, a timer by the frames that it sends again, a write by the peer that it makes. -/
theorem paldarLinks : Obligations.PaldarLinks := by
  unfold Obligations.PaldarLinks
  intro s hinv
  refine ⟨fun m => ⟨fun hdst => ?other, fun x hdst hx hopen => ⟨fun e h he => ?hello, fun n hn hstate => ?helloAck⟩⟩,
    fun h x n s1 hx hn htake => ?ack, fun p x ss hx hss => ⟨fun e hport hlanes hout hfull hadv hres => ?resend,
      fun e k hport hlanes howed htime => ?owed, fun hun htime => ⟨fun hlast hquiet => ?last, fun e he => ?next⟩⟩,
    fun p x hx => ⟨fun hstate hopen htime => ?turn, fun hstate hawake htime => ?again⟩, fun e up => ?link,
    fun rq p v hacc hv hp => ?entry⟩
  case other =>
    exact ⟨Gives.of_eq rfl (if_pos hdst) ⟨counted_count s 0xD000 0x0C, countPackage_sameBut⟩,
      Gives.of_eq rfl (if_pos hdst) ⟨counted_count s 0xD000 0x0C, countPackage_sameBut⟩⟩
  case hello =>
    obtain ⟨hup, z, hz, hnonce, hframe⟩ := helloArrives_answers hdst hx hopen h he
    exact Gives.of_eq rfl rfl ⟨hup, z, hz, hframe, fun _ => hnonce⟩
  case helloAck =>
    have hrun : exec (.helloAck m) s = .next (goUp m.src m.bootId n m.nonce s) := by
      refine congrArg Host.Outcome.next ((if_neg (by simp [hdst])).trans ?_)
      simp only [hx, hn]
      exact if_pos (by simp [hstate, hopen])
    obtain ⟨hup, hnonce⟩ := goUp_comesUp (n := n) hx
    exact ⟨_, hrun, hup, goUp_frame (by decide) (SameBut.refl _ s), hnonce⟩
  case ack =>
    have hrun : linkAck h s = modSession h.src (fun y => { y with ackGot := some n }) s1 := by
      simp only [linkAck, hx, hn, htake]
    refine Gives.of_eq rfl hrun ?_
    rw [session_modSession]
    cases session? s1 h.src <;> rfl
  case resend =>
    have hrun : exec (.paldarRetryTimeout p) s = .next (retransmit p s) := by
      refine congrArg Host.Outcome.next ?_
      simp only [session_some hx, hss]
      exact if_pos (by simp [hout, hadv, hres])
    exact ⟨_, hrun, retransmit_resends hx hport hss hlanes hfull⟩
  case owed =>
    exact Gives.of_eq rfl rfl ⟨ackTimer_frame (by decide) (SameBut.refl _ s),
      ackTimer_acknowledges hx hss hport hlanes howed htime⟩
  case last =>
    have hrun : peerTimeout p s = goDown p s := by
      simp only [peerTimeout, hx, session_some hx, hss, hlast]
      exact if_neg (by simp [hun, htime])
    exact Gives.of_eq rfl hrun (goDown_downs hx hquiet)
  case next =>
    have hrun : peerTimeout p s = retransmit p (modPeer p (fun y => { y with
        port := some e, tried := x.tried ++ x.port.toList, session := some { ss with advance := s.gtc } }) s) := by
      simp only [peerTimeout, hx, session_some hx, hss, he]
      exact if_neg (by simp [hun, htime])
    have hplace := retransmit_place (p := p) (s := modPeer p (fun y => { y with
      port := some e, tried := x.tried ++ x.port.toList, session := some { ss with advance := s.gtc } }) s)
    rw [← hrun, peerPlace, peerPlace, peer_modPeer_some hx (by exact fun _ => rfl), Option.map_some,
      Option.map_eq_some_iff] at hplace
    obtain ⟨y, hy, hplace⟩ := hplace
    simp only [Prod.mk.injEq] at hplace
    obtain ⟨hstate, hport, htried⟩ := hplace
    exact Gives.of_eq rfl rfl ⟨y, hy, hstate, hport, htried⟩
  case turn =>
    let s1 := modPeer p (fun y => { y with hello := some ((List.range 16).map (Config.drbgByte s.draws)), since := s.gtc })
      (drawNonce s).1
    have hrun : helloTurn p s = sendHello p 0x50 ((List.range 16).map (Config.drbgByte s.draws)) s1 := by
      simp only [helloTurn, hx]
      refine if_neg ?_
      rcases htime with hnone | htime
      · simp [hstate, hopen, hnone]
      · simp [hstate, hopen, htime]
    have hpeer : peer? s1 p = some { x with hello := some ((List.range 16).map (Config.drbgByte s.draws)), since := s.gtc } :=
      peer_modPeer_some (s := (drawNonce s).1) hx (by exact fun _ => rfl)
    refine Gives.of_eq rfl rfl ⟨helloTurn_frame (by decide) (SameBut.refl _ s), ?_⟩
    rw [hrun]
    have hsend : SameBut [.out] s1 (sendHello p 0x50 ((List.range 16).map (Config.drbgByte s.draws)) s1) :=
      sendHello_frame (by decide) (SameBut.refl _ s1)
    refine ⟨(peer_congr (hsend.peers (by decide))).trans hpeer, fun e he => ?_⟩
    have hport : fabricPort s1 p [] = some e := he
    rw [sendHello, hport]
    exact List.mem_cons_self
  case again =>
    have hrun : exec (.peerDownTimer p) s = .next (modPeer p (fun y => { y with state := .connecting, hello := none }) s) := by
      refine congrArg Host.Outcome.next ?_
      simp only [hx]
      exact if_pos (by simp [hstate, hawake, htime])
    exact ⟨_, hrun, modPeer_frame (by decide) (SameBut.refl _ s), peer_modPeer_some hx (by exact fun _ => rfl)⟩
  case link =>
    let m : BitVec 12 := (1 : BitVec 12) <<< e.val
    have hlinks : (linkChange e up s).win.links = if up then s.win.links ||| m else s.win.links &&& ~~~m := by
      refine SameFabric.links (foldState_sameFabric (fun x t => ?_) s.win.peers)
      split
      · exact .refl t
      dsimp only
      split
      · exact .refl t
      split
      · exact modPeer_sameFabric.trans flushFrames_sameFabric
      · exact modPeer_sameFabric.trans retransmit_sameFabric
    refine Gives.of_eq rfl rfl ?_
    rw [hlinks]
    cases up with
    | true => exact ⟨by simp [m], fun k hk => by simp [m]; omega⟩
    | false =>
      refine ⟨by simp [m], fun k hk => ?_⟩
      have hin : s.win.links.getLsbD k = true → k < 12 := BitVec.lt_of_getLsbD
      simp [m]
      exact fun h => ⟨hin h, by omega⟩
  case entry =>
    exact Gives.of_eq rfl (requestWrite_accepted hacc rfl) (writePeerEntry_connects hv hp)

end Sys2Proof.Machine
end

section
/-!
SUPPORT and CLAIM. Contexts and event rings by admin entries (04_objects_lifecycle, R127 to R134, R153): the obligation
O28.
-/
namespace Sys2Proof.Machine

section Entries
variable {s t u : State} {g h : Fun} {b : Bytes} {c k : CtxId} {x : Ctx} {L : List StatePart}

/-! ### An entry that has been taken -/

/-- The entry of an opcode is handed to what the opcode does (R124, R126). -/
theorem withEntry_runs {op : Nat} {act : Bytes → State → State} (h : EntryTaken s g op b) : withEntry g op act s = act b s := by
  obtain ⟨htaken, hop, hready, hzero⟩ := h
  rw [withEntry, htaken]
  dsimp only
  rw [if_neg (by simp [hop]), if_neg (by simp [hready]), if_neg (by simp [hzero])]

theorem dropTaken_set (hfns : s.fns.length = 32) :
    AdminSet g { (getFn s g).admin with taken := none } s (dropTaken g s) :=
  (modAdmin_set hfns).after askAdmin_sameBut (by decide)

theorem adminDone_set {st : AStatus} {result : U64} {tag : U16} (hfns : s.fns.length = 32) :
    AdminSet g { (getFn s g).admin with held := (getFn s g).admin.held ++ [⟨result, st, tag⟩] } s
      (adminDone g st result tag s) :=
  modAdmin_set hfns

/-! ### The read of the next entry leaves the registers of interrupts, but for records that are formed -/

theorem atsUse_fns {pasid : Option (BitVec 20)} {a : Nat} {write : Bool} : (atsUse g pasid a write s).fns = s.fns := by
  unfold atsUse
  repeat' split
  all_goals rfl

theorem issueUnder_onlyForms {w : TagWait} {tag : ReqTag} : OnlyForms s (issueUnder w tag s) := by
  unfold issueUnder
  extract_lets s1
  have hs1 : OnlyForms s s1 := OnlyForms.of_fns rfl
  split
  · exact hs1.trans count_onlyForms
  · exact hs1.trans (OnlyForms.of_fns atsUse_fns)

theorem serveTags_onlyForms {n : Nat} {p : Port} : OnlyForms s (serveTags n p s) := by
  induction n generalizing s with
  | zero => exact OnlyForms.refl s
  | succ n ih =>
    rw [serveTags]
    split
    · exact OnlyForms.refl s
    split
    · exact OnlyForms.refl s
    next w _ =>
      split
      · exact OnlyForms.refl s
      · have htake : OnlyForms s (modPort p (fun x => { x with waits := x.waits.erase w, tagTurn := fnOf w.fn }) s) :=
          OnlyForms.of_fns rfl
        exact (htake.trans issueUnder_onlyForms).trans ih

theorem requestTag_onlyForms {w : TagWait} : OnlyForms s (requestTag w s) := by
  have hjoin : OnlyForms s (modPort (portOf w.fn) (fun x => { x with
      waits := if x.waits.contains w then x.waits else x.waits ++ [w] }) s) := OnlyForms.of_fns rfl
  exact hjoin.trans serveTags_onlyForms

theorem hostRead_onlyForms {use : ReadUse} {a base n : Nat} {pasid : Option (BitVec 20)} {have_ : List (Nat × Bytes)} :
    OnlyForms s (hostRead g use a base n pasid have_ s) := by
  unfold hostRead
  refine foldState_onlyForms (fun x t => ?_) _
  dsimp only
  split
  · exact OnlyForms.refl t
  · exact requestTag_onlyForms

theorem askAdmin_onlyForms : OnlyForms s (askAdmin g s) := by
  unfold askAdmin
  split
  · exact hostRead_onlyForms
  · exact OnlyForms.refl s

theorem decide_int {st : AStatus} {result : Nat} : ∃ es,
    (getFn (decide_ g b st result s) g).int = { (getFn s g).int with formed := (getFn s g).int.formed ++ es } := by
  let s1 := modAdmin g (fun a => { a with taken := none }) (adminDone g st (if st = .success then w64 result else 0) (entTag b) s)
  have hs1 : (getFn s1 g).int = (getFn s g).int :=
    SameBut.fn_int (L := [.admin]) (modAdmin_frame (by decide) (adminDone_frame (by decide) (SameBut.refl _ s))) (by decide) g
  obtain ⟨es, hes⟩ := askAdmin_onlyForms (s := s1) (g := g) g
  refine ⟨es, ?_⟩
  have hdecide : decide_ g b st result s = askAdmin g s1 := rfl
  rw [hdecide, hes, ← hs1]

/-! ### CREATE_CONTEXT (R127, R128) -/

theorem mem_insertCtx {e : CtxId × Ctx} {l : List (CtxId × Ctx)} : e ∈ insertCtx c x l ↔ e = (c, x) ∨ e ∈ l := by
  induction l with
  | nil => simp [insertCtx]
  | cons a l ih =>
    rw [insertCtx]
    split
    · simp
    · rw [List.mem_cons, ih, List.mem_cons, or_left_comm]

theorem addCtx_adds : (∀ e, e ∈ (addCtx c x s).obj.ctxs ↔ e = (c, x) ∨ e ∈ s.obj.ctxs) ∧
    SameBut [.ctxs, .slots] s (addCtx c x s) := by
  have htaken : (takeCtxId s).obj.ctxs = s.obj.ctxs ∧ (takeCtxId s).obj.objs = s.obj.objs := by
    unfold takeCtxId
    split
    · exact ⟨rfl, rfl⟩
    · exact ⟨rfl, rfl⟩
  have hsame : SameBut [.ctxs, .objs, .slots] s (addCtx c x s) := addCtx_frame (by decide) (SameBut.refl _ s)
  refine ⟨fun e => ?_, hsame.1, hsame.2.1, fun p hp => ?_⟩
  · simp only [addCtx, htaken.1]
    exact mem_insertCtx
  · by_cases hobjs : p = .objs
    · subst hobjs
      exact htaken.2
    · exact hsame.2.2 p (by simp_all)

theorem createCtx_creates {o : MemObj} (hfields : createCtxFieldsOk s g b = true) (hroot : rootInside s b = true)
    (hflags : entFlags b = 0) (ho : ownedObject s g (qwordAt b 3) = .ok o) (hquota : ctxsOfFn s g < contextQuota s g)
    (hshare : ctxsOfPort s (portOf g) < objNum s (0x4010 + (portOf g).val) 1)
    (hslot : ctxBySlot s g (field (qwordAt b 2) 19 0) = none) (hid : nextCtxId s = some c) :
    createCtx g b s = decide_ g b .success c.toNat (addCtx c (newCtx s g b none) s) := by
  unfold createCtx
  rw [if_neg (by simp [hfields, hroot]), ho]
  dsimp only
  rw [if_neg (by rw [hflags]; decide)]
  dsimp only
  rw [if_neg (by simp [hquota, hshare]), if_neg (by simp [hslot]), hid]

/-! ### The forced abort of a context (R133) -/

theorem SameBut.ctx_other (h : SameBut L s t) (hl : .ctxs ∉ L) : ∀ k, Machine.ctx? t k = Machine.ctx? s k := fun _ => h.ctx? hl

/-- The commands of a context leave the table, and the others stay (R133). -/
theorem dropCmds_table {whole : Bool} : ∀ y ∈ (dropCmds whole c s).cmd.table, y.ctx ≠ c := by
  intro y hy
  unfold dropCmds at hy
  dsimp only at hy
  simpa using (List.mem_filter.1 hy).2

theorem abortContext_aborts {r : AdminRef} (hx : ctx? s c = some x) (hstate : x.state ≠ .aborting) :
    ctx? (abortContext c (some r) s) c = some { x with state := .aborting, bound := false, destroyer := some r } ∧
      (∀ y ∈ (abortContext c (some r) s).cmd.table, y.ctx ≠ c) ∧
      ∀ k, k ≠ c → ctx? (abortContext c (some r) s) k = ctx? s k := by
  let s1 := modCtx c (fun y => { y with state := .aborting, bound := false, destroyer := some r }) s
  let s2 := dropCmds (some r : Option AdminRef).isNone c s1
  let s3 := dropLookups c (quarantine (portOf x.fn) (tagServes c) s2)
  let s4 := revokeCtxLeases c (startScan [bankOf s3 (.ctx c)] (.context c) (.abort c) s3)
  have hrun : abortContext c (some r) s = s4 := by
    unfold abortContext
    rw [hx]
    exact if_neg hstate
  have hcmds : SameBut [.cmds, .engines, .peers, .windows, .memory, .draws, .out] s1 s2 :=
    dropCmds_frame (by decide) (SameBut.refl _ s1)
  have hrest : SameBut [.counters, .requests, .int, .lookups, .det, .out] s2 s4 :=
    revokeCtxLeases_frame (by decide) (startScan_frame (by decide) (dropLookups_frame (by decide)
      (quarantine_frame (by decide) (SameBut.refl _ s2))))
  have hctx (k : CtxId) : ctx? s4 k = ctx? s1 k := (hrest.ctx? (by decide)).trans (hcmds.ctx? (by decide))
  rw [hrun]
  refine ⟨?_, fun y hy => ?_, fun k hk => (hctx k).trans (ctx_modCtx_other hk _)⟩
  · rw [hctx, ctx_modCtx, hx]
    rfl
  · rw [hrest.2.2 .cmds (by decide)] at hy
    exact dropCmds_table y hy

theorem destroyCtx_aborts (hflags : entFlags b = 0) (hq1 : qwordAt b 1 >>> 20 = 0) (hzero : zeroFrom b 2 = true)
    (hx : ctx? s (BitVec.ofNat 20 (qwordAt b 1)) = some x) (hfn : x.fn = g) (hstate : x.state ≠ .aborting) :
    destroyCtx g b s = abortContext (BitVec.ofNat 20 (qwordAt b 1)) (some ⟨g, entTag b⟩) (dropTaken g s) := by
  unfold destroyCtx
  dsimp only
  rw [if_neg (by simp [hflags, hq1, hzero]), hx]
  dsimp only
  rw [if_neg (by simp [hfn]), if_neg hstate]

/-! ### The end of a forced abort (R133) -/

/-- Every other context keeps its place, ready or lost. -/
def CtxsStand (s t : State) : Prop := ∀ k, (ctx? t k).isSome = (ctx? s k).isSome

theorem CtxsStand.refl (s : State) : CtxsStand s s := fun _ => rfl

theorem CtxsStand.trans (h : CtxsStand s t) (k : CtxsStand t u) : CtxsStand s u := fun c => (k c).trans (h c)

theorem SameBut.ctxsStand (h : SameBut L s t) (hl : .ctxs ∉ L) : CtxsStand s t := fun k => by rw [h.ctx? hl]

theorem modCtx_ctxsStand {f : Ctx → Ctx} : CtxsStand s (modCtx c f s) := fun k => by
  by_cases hk : k = c
  · subst hk
    rw [ctx_modCtx]
    cases ctx? s k <;> rfl
  · rw [ctx_modCtx_other hk]

theorem foldState_ctxsStand {α : Type} {f : α → State → State} (hf : ∀ a t, CtxsStand t (f a t)) (l : List α) :
    CtxsStand s (foldState f l s) :=
  foldState_keeps (P := fun t => CtxsStand s t) (fun a t h => h.trans (hf a t)) l (.refl s)

theorem loseContext_ctxsStand {r : LostReason} {cause : List (Nat × CStatus)} {d : U64} {i : ErrInfo} :
    CtxsStand s (loseContext c r cause d i s) := fun k => by
  by_cases hk : k = c
  · subst hk
    cases hx : ctx? s k with
    | none => rw [loseContext_notReady (by simp [hx]), hx]
    | some x =>
      by_cases hr : x.state = .ready
      · obtain ⟨y, hy, -⟩ := loseContext_lost (r := r) (cause := cause) (d := d) (i := i) hx hr
        rw [hy]
        rfl
      · rw [loseContext_notReady (by simpa [hx] using hr), hx]
  · rw [ctx_loseContext_other hk]

theorem faultCmd_ctxsStand {q : Nat} {st : CStatus} {i : ErrInfo} : CtxsStand s (faultCmd c q st i s) := by
  unfold faultCmd
  split
  · split
    · exact loseContext_ctxsStand
    · exact SameBut.ctxsStand (L := [.cmds, .engines, .peers, .windows, .out]) (endCmd_frame (by decide) (SameBut.refl _ s))
        (by decide)
  · exact .refl s

theorem failWaits_ctxsStand {h : U64} : CtxsStand s (failWaits h s) :=
  foldState_ctxsStand (fun x t => by
    split
    · exact faultCmd_ctxsStand
    · exact .refl t) _

theorem freeStart_ctxsStand {slot : Nat} {freer : Option AdminRef} : CtxsStand s (freeStart slot freer s) := by
  unfold freeStart
  split
  · exact .refl s
  split
  · exact .refl s
  extract_lets h s1 tab s2 s3 s4
  have hs2 : CtxsStand s s2 := fun _ => rfl
  have hs3 : CtxsStand s2 s3 :=
    (SameBut.ctxsStand (L := [.slots]) (dropMirrors_frame (by decide) (SameBut.refl _ s2)) (by decide)).trans failWaits_ctxsStand
  have hs4 : CtxsStand s3 s4 := SameBut.ctxsStand (L := [.windows, .coherence])
    (closeCohOf_frame (by decide) (closeWindowsOf_frame (by decide) (SameBut.refl _ s3))) (by decide)
  exact ((hs2.trans hs3).trans hs4).trans
    (SameBut.ctxsStand (L := [.lookups]) (startScan_frame (by decide) (SameBut.refl _ s4)) (by decide))

theorem freeStart_admin {slot : Nat} {freer : Option AdminRef} : (getFn (freeStart slot freer s) h).admin = (getFn s h).admin :=
  SameBut.fn_admin (freeStart_frame (L := [.od, .stored, .counters, .mgmt, .links, .intx, .fnCfg, .int, .capture, .ctxs, .objs,
    .slots, .cmds, .engines, .lookups, .peers, .windows, .coherence, .err, .power, .out]) (by decide) (SameBut.refl _ s))
    (by decide) h

/-- The state in which the record of a context is taken away: its fault records are gone, its own objects are being freed,
and its scratch is written back (R133, R144). -/
def ctxCleared (c : CtxId) (x : Ctx) (s : State) : State :=
  let s := discardFaults c x.fn s
  let s := foldState (fun o s => freeStart o.slot none s) (s.obj.objs.filter fun o => o.ctx == some c && !o.freed) s
  match x.fixed with
  | some f => foldState (fun p s => writeBack p.1 p.2 s) f.scratch s
  | none => s

theorem ctxCleared_keeps : CtxsStand s (ctxCleared c x s) ∧ ∀ h, (getFn (ctxCleared c x s) h).admin = (getFn s h).admin := by
  unfold ctxCleared
  extract_lets s1 s2
  have hs1 : SameBut [.faultq] s s1 := discardFaults_frame (by decide) (SameBut.refl _ s)
  have hs2 : CtxsStand s1 s2 := foldState_ctxsStand (fun _ _ => freeStart_ctxsStand) _
  have ha2 (h : Fun) : (getFn s2 h).admin = (getFn s h).admin :=
    foldState_keeps (P := fun t => (getFn t h).admin = (getFn s h).admin) (fun _ _ ht => freeStart_admin.trans ht) _
      (hs1.fn_admin (by decide) h)
  have hto : CtxsStand s s2 := (hs1.ctxsStand (by decide)).trans hs2
  split
  next f _ =>
    have hback : SameBut [.memory, .out] s2 (foldState (fun p s => writeBack p.1 p.2 s) f.scratch s2) :=
      foldState_frame (fun _ _ h => writeBack_frame (by decide) h) (SameBut.refl _ s2)
    exact ⟨hto.trans (hback.ctxsStand (by decide)), fun h => (hback.fn_admin (by decide) h).trans (ha2 h)⟩
  next => exact ⟨hto, ha2⟩

theorem ctxCleared_ok : Ok s (ctxCleared c x s) := by
  unfold ctxCleared
  extract_lets s1 s2
  have hs2 : Ok s s2 := foldState_ok (fun _ _ h => freeStart_ok h) (discardFaults_ok (Ok.refl s))
  split
  · exact foldState_ok (fun _ _ h => writeBack_ok h) hs2
  · exact hs2

theorem destroyContext_destroys (hinv : Inv s) (hx : ctx? s c = some x) :
    ctx? (destroyContext c s) c = none ∧ c ∈ (destroyContext c s).obj.ctxFreed ∧
      (∀ r, x.destroyer = some r → (getFn (destroyContext c s) r.fn).admin.held =
        (getFn s r.fn).admin.held ++ [⟨0, .success, r.tag⟩]) ∧
      ∀ k, k ≠ c → (ctx? (destroyContext c s) k).isSome = (ctx? s k).isSome := by
  let s1 := ctxCleared c x s
  obtain ⟨hstand, hadmin⟩ := ctxCleared_keeps (s := s) (c := c) (x := x)
  let s2 := match x.destroyer with
    | some r => adminDone r.fn .success 0 r.tag s1
    | none => s1
  have hrun : destroyContext c s = { s2 with
      obj := { s2.obj with
        ctxs := s2.obj.ctxs.filter fun e => e.1 != c, ctxFreed := s2.obj.ctxFreed ++ [c] }
      err := { s2.err with pinContexts := s2.err.pinContexts.filter (· != c) } } := by
    unfold destroyContext
    rw [hx]
    rfl
  have hs2 : s2.obj.ctxs = s1.obj.ctxs := by
    simp only [s2]
    split
    · rfl
    · rfl
  rw [hrun]
  refine ⟨?_, List.mem_append_right _ (List.mem_singleton.2 rfl), fun r hr => ?_, fun k hk => ?_⟩
  · have hnone : (s2.obj.ctxs.filter fun e => e.1 != c).find? (fun e => e.1 == c) = none :=
      List.find?_eq_none.2 fun e he => by simpa using (List.mem_filter.1 he).2
    simp only [ctx?, hnone]
    rfl
  · have hdone : s2 = adminDone r.fn .success 0 r.tag s1 := by simp only [s2, hr]
    obtain ⟨hset, -⟩ := adminDone_set (s := s1) (g := r.fn) (st := .success) (result := 0) (tag := r.tag) (ctxCleared_ok.inv hinv).fns
    have hget : getFn { s2 with
      obj := { s2.obj with
        ctxs := s2.obj.ctxs.filter fun e => e.1 != c, ctxFreed := s2.obj.ctxFreed ++ [c] }
      err := { s2.err with pinContexts := s2.err.pinContexts.filter (· != c) } } r.fn = getFn s2 r.fn := rfl
    rw [hget, hdone, hset, hadmin]
  · have hkeep : (s2.obj.ctxs.filter fun e => e.1 != c).find? (fun e => e.1 == k) = s2.obj.ctxs.find? fun e => e.1 == k := by
      rw [List.find?_filter]
      refine find_congr (fun e => ?_) _
      by_cases he : e.1 = k <;> simp [he, hk]
    rw [hs2] at hkeep
    rw [← hstand k]
    simp only [ctx?, hs2, hkeep, s1]

/-! ### QUERY_CONTEXT (R134) -/

theorem queryBytes_length : (queryBytes s c).length = 64 := by
  unfold queryBytes
  split
  · exact List.length_replicate
  · simp

theorem queryCtx_writes (hflags : entFlags b = 0) (hq1 : qwordAt b 1 >>> 20 = 0) (halign : qwordAt b 2 % 64 = 0)
    (hzero : zeroFrom b 3 = true) (hown : ∀ x, ctx? s (BitVec.ofNat 20 (qwordAt b 1)) = some x → x.fn = g)
    (hstall : fnStalled s g = false) (hopen : dmaOpen s = true) :
    queryCtx g b s = decide_ g b .success 0 (emit (.write (portOf g) (qwordAt b 2) none
      (queryBytes s (BitVec.ofNat 20 (qwordAt b 1)))) s) := by
  have hmine : ¬((ctx? s (BitVec.ofNat 20 (qwordAt b 1))).any fun x => x.fn != g) = true := by
    cases hx : ctx? s (BitVec.ofNat 20 (qwordAt b 1)) with
    | none => simp
    | some x => simp [hown x hx]
  have hlen := queryBytes_length (s := s) (c := BitVec.ofNat 20 (qwordAt b 1))
  unfold queryCtx
  dsimp only
  rw [if_neg (by simp [hflags, hq1, halign, hzero]), if_neg hmine, if_neg (by rw [hstall]; decide),
    hostWrite_single hopen (by omega) (by omega) (by omega)]

/-! ### Event rings (R153) -/

theorem clearRingSource_rings (hfns : s.fns.length = 32) {r : Nat} :
    (getFn (clearRingSource g r s) g).int.rings = (getFn s g).int.rings := by
  obtain ⟨w, n, es, hint⟩ := runWeir_modInt (s := s) (g := g) (before := s) (f := fun x => { x with
    latches := x.latches &&& ~~~ ((1 : BitVec 320) <<< r), loss := assocDel x.loss r }) hfns
  rw [clearRingSource, hint]

/-- The ring that an entry asks for, with both indices at 0 (R153). -/
def entryRing (b : Bytes) : Ring :=
  { base := w64 (qwordAt b 1), log2 := qwordAt b 2 / 256 % 32, producer := 0, consumer := 0, overflow := false, dropped := 0 }

theorem createRing_creates (hinv : Inv s) (hok : eventRingOk s g b = true) : Decided s (createRing g b s) g b .success 0 ∧
    getRing (createRing g b s) g (qwordAt b 2 % 256) = some (entryRing b) ∧
    ∀ r, r ≠ qwordAt b 2 % 256 → getRing (createRing g b s) g r = getRing s g r := by
  have hr : field (qwordAt b 2) 7 0 = qwordAt b 2 % 256 := by simp [field]
  have hlog : field (qwordAt b 2) 12 8 = qwordAt b 2 / 256 % 32 := by simp [field, Nat.shiftRight_eq_div_pow]
  let s1 := setRing g (qwordAt b 2 % 256) (entryRing b) s
  have hs1 : Ok s s1 := setRing_ok (Ok.refl s)
  let s2 := clearRingSource g (qwordAt b 2 % 256) s1
  have hs2 : Ok s s2 := clearRingSource_ok hs1
  have hrun : createRing g b s = decide_ g b .success 0 s2 := by
    unfold createRing
    rw [if_pos hok]
    dsimp only
    rw [hr, hlog]
    rfl
  obtain ⟨es, hint⟩ := decide_int (g := g) (b := b) (st := .success) (result := 0)
  have hrings : (getFn (decide_ g b .success 0 s2) g).int.rings = (getFn s1 g).int.rings := by
    rw [hint]
    exact clearRingSource_rings (hs1.inv hinv).fns
  obtain ⟨hdecided, -, -⟩ := decide_gives (hs2.inv hinv).fns (g := g) (b := b) (st := .success) (result := 0)
  have hadmin : (getFn s2 g).admin = (getFn s g).admin :=
    SameBut.fn_admin (L := [.counters, .intx, .fnCfg, .int, .out]) (clearRingSource_frame (by decide)
      (setRing_frame (by decide) (SameBut.refl _ s))) (by decide) g
  have hring (r : Nat) : getRing (decide_ g b .success 0 s2) g r = getRing s1 g r := by rw [getRing, hrings, getRing]
  rw [hrun]
  refine ⟨?_, (hring _).trans (getRing_setRing hinv.fns), fun r hne => (hring r).trans (getRing_setRing_other hinv.fns hne)⟩
  rw [Decided, ← hadmin]
  exact hdecided

theorem destroyRing_destroys (hinv : Inv s) (hflags : entFlags b = 0) (hq1 : qwordAt b 1 >>> 8 = 0)
    (hzero : zeroFrom b 2 = true) (hlive : (getRing s g (qwordAt b 1)).isSome = true)
    (hfree : ringNamed s g (qwordAt b 1) = false) :
    Decided s (destroyRing g b s) g b .success 0 ∧ getRing (destroyRing g b s) g (qwordAt b 1) = none ∧
      (∀ i, (getFn (destroyRing g b s) g).int.latches.getLsbD i =
        (decide (i ≠ qwordAt b 1) && (getFn s g).int.latches.getLsbD i)) ∧
      ∀ r, r ≠ qwordAt b 1 → getRing (destroyRing g b s) g r = getRing s g r := by
  have hr : field (qwordAt b 1) 7 0 = qwordAt b 1 := by
    have hlow : qwordAt b 1 < 256 := by
      rw [Nat.shiftRight_eq_div_pow] at hq1
      omega
    simp [field]
    omega
  let f : IntSt → IntSt := fun x => { x with
    rings := assocDel x.rings (qwordAt b 1), latches := x.latches &&& ~~~ ((1 : BitVec 320) <<< qwordAt b 1) }
  let s2 := runWeir g s (modInt g f s)
  have hs2 : Ok s s2 := runWeir_ok (modInt_ok (by exact fun _ h => ⟨h.delay, h.masks⟩) (Ok.refl s))
  have hrun : destroyRing g b s = decide_ g b .success 0 s2 := by
    unfold destroyRing
    dsimp only
    rw [hr, if_neg (by simp [hflags, hq1, hzero, hlive]), if_neg (by rw [hfree]; decide)]
  obtain ⟨es, hint⟩ := decide_int (g := g) (b := b) (st := .success) (result := 0)
  obtain ⟨w, n, es', hint'⟩ := runWeir_modInt (s := s) (g := g) (before := s) (f := f) hinv.fns
  have hrings : (getFn (decide_ g b .success 0 s2) g).int.rings = assocDel (getFn s g).int.rings (qwordAt b 1) := by
    rw [hint, hint']
  have hlatches : (getFn (decide_ g b .success 0 s2) g).int.latches =
      (getFn s g).int.latches &&& ~~~ ((1 : BitVec 320) <<< qwordAt b 1) := by
    rw [hint, hint']
  obtain ⟨hdecided, -, -⟩ := decide_gives (hs2.inv hinv).fns (g := g) (b := b) (st := .success) (result := 0)
  have hadmin : (getFn s2 g).admin = (getFn s g).admin :=
    SameBut.fn_admin (L := [.counters, .intx, .fnCfg, .int, .out]) (runWeir_frame (by decide)
      (modInt_frame (by decide) (SameBut.refl _ s))) (by decide) g
  rw [hrun]
  refine ⟨?_, ?_, fun i => ?_, fun r hne => ?_⟩
  · rw [Decided, ← hadmin]
    exact hdecided
  · rw [getRing, hrings]
    exact assocGet_assocDel _ _
  · rw [hlatches]
    have hin : (getFn s g).int.latches.getLsbD i = true → i < 320 := BitVec.lt_of_getLsbD
    by_cases hi : i = qwordAt b 1
    · subst hi
      simp
    · cases hbit : (getFn s g).int.latches.getLsbD i with
      | false => simp [hbit]
      | true =>
        have hlt := hin hbit
        simp [hbit, hi, hlt]
        omega
  · rw [getRing, hrings, assocGet_assocDel_other _ hne, getRing]

end Entries

/-- Settles O28: each entry by what its opcode decides: a context added, its forced abort and the end of it, its block, an event ring. -/
theorem contextLifecycle : Obligations.ContextLifecycle := by
  unfold Obligations.ContextLifecycle
  intro s g b hinv
  refine ⟨fun o c htaken hfields hroot hflags ho hquota hshare hslot hid hremap => ?create,
    fun hremap => congrArg Host.Outcome.next (if_pos hremap), fun x htaken hflags hq1 hzero hx hfn hstate => ?destroy,
    fun c x hx hends => ?complete, fun htaken hflags hq1 halign hzero hown hstall hopen => ?query,
    fun htaken hok => ?ring, fun htaken hflags hq1 hzero hlive hfree => ?noRing⟩
  case create =>
    have hrun : exec (.createContext g) s = .next (decide_ g b .success c.toNat (addCtx c (newCtx s g b none) s)) := by
      refine congrArg Host.Outcome.next ((if_neg (by rw [hremap]; decide)).trans ((withEntry_runs htaken).trans ?_))
      exact createCtx_creates hfields hroot hflags ho hquota hshare hslot hid
    obtain ⟨hadds, hsame⟩ := addCtx_adds (s := s) (c := c) (x := newCtx s g b none)
    obtain ⟨hdecided, -, hparts⟩ := decide_gives (s := addCtx c (newCtx s g b none) s) (g := g) (b := b) (st := .success)
      (result := c.toNat) hinv.fns
    refine ⟨_, hrun, ?_, fun e => ?_, (hsame.mono (by decide)).trans (hparts.mono (by decide))⟩
    · exact hdecided
    · rw [hparts.2.2 .ctxs (by decide)]
      exact hadds e
  case destroy =>
    obtain ⟨hset, -⟩ := dropTaken_set (g := g) hinv.fns
    have hdrop : SameBut [.counters, .requests, .ats, .admin, .int, .out] s (dropTaken g s) :=
      dropTaken_frame (by decide) (SameBut.refl _ s)
    obtain ⟨hctx, hcmds, hother⟩ := abortContext_aborts (r := ⟨g, entTag b⟩) ((hdrop.ctx? (by decide)).trans hx) hstate
    refine Gives.of_eq rfl ((withEntry_runs htaken).trans (destroyCtx_aborts hflags hq1 hzero hx hfn hstate))
      ⟨?_, hctx, hcmds, fun k hk => (hother k hk).trans (hdrop.ctx? (by decide))⟩
    have habort : SameBut [.counters, .requests, .int, .ctxs, .cmds, .engines, .lookups, .peers, .windows, .memory, .det,
        .draws, .out] (dropTaken g s) (abortContext (BitVec.ofNat 20 (qwordAt b 1)) (some ⟨g, entTag b⟩) (dropTaken g s)) :=
      abortContext_frame (by decide) (SameBut.refl _ _)
    exact (habort.fn_admin (by decide) g).trans hset
  case complete =>
    exact ⟨_, congrArg Host.Outcome.next (if_pos hends), destroyContext_destroys hinv hx⟩
  case query =>
    obtain ⟨hdecided, -, hparts⟩ := decide_gives (s := emit (.write (portOf g) (qwordAt b 2) none
      (queryBytes s (BitVec.ofNat 20 (qwordAt b 1)))) s) (g := g) (b := b) (st := .success) (result := 0) hinv.fns
    have hok : Ok (emit (.write (portOf g) (qwordAt b 2) none (queryBytes s (BitVec.ofNat 20 (qwordAt b 1)))) s)
        (decide_ g b .success 0 (emit (.write (portOf g) (qwordAt b 2) none
          (queryBytes s (BitVec.ofNat 20 (qwordAt b 1)))) s)) := decide__ok (Ok.refl _)
    exact Gives.of_eq rfl ((withEntry_runs htaken).trans (queryCtx_writes hflags hq1 halign hzero hown hstall hopen))
      ⟨hdecided, hok.out.subset List.mem_cons_self, (emit_frame (by decide) (SameBut.refl _ s)).trans hparts⟩
  case ring =>
    exact Gives.of_eq rfl (withEntry_runs htaken) (createRing_creates hinv hok)
  case noRing =>
    exact Gives.of_eq rfl (withEntry_runs htaken) (destroyRing_destroys hinv hflags hq1 hzero hlive hfree)

end Sys2Proof.Machine
end

section
/-!
SUPPORT and CLAIM. Objects and grants by admin entries (04_objects_lifecycle, R138 to R146): the obligation O29.
-/
namespace Sys2Proof.Machine

section ObjectEntries
variable {s t : State} {g h : Fun} {b : Bytes} {slot k : Nat} {o : MemObj} {L : List StatePart}

/-! ### Objects by slot and by handle (R139) -/

theorem leNat_lt (b : Bytes) : leNat b < 256 ^ b.length := by
  induction b with
  | nil => simp [leNat]
  | cons x b ih =>
    have hx := x.isLt
    rw [leNat, List.length_cons, Nat.pow_succ]
    omega

theorem qwordAt_lt (b : Bytes) (i : Nat) : qwordAt b i < 2 ^ 64 := by
  have hlen : (sliceBytes b (8 * i) 8).length = 8 := by simp [sliceBytes]
  have hlt := leNat_lt (sliceBytes b (8 * i) 8)
  rw [hlen] at hlt
  exact hlt

theorem liveObj_some {q : Nat} (h : liveObj s q = some o) : o.slot = q / 2 ^ 24 ∧ o.gen = q % 2 ^ 24 ∧ o.freed = false := by
  have hkey := List.find?_some h
  simp only [Bool.and_eq_true, beq_iff_eq, Bool.not_eq_true'] at hkey
  obtain ⟨⟨hslot, hgen⟩, hfreed⟩ := hkey
  exact ⟨hslot, hgen, hfreed⟩

/-- The handle of a live object is the word that names it. -/
theorem objHandle_of_live {q : Nat} (hq : q < 2 ^ 64) (h : liveObj s q = some o) : (objHandle o).toNat = q := by
  obtain ⟨hslot, hgen, -⟩ := liveObj_some h
  have hword : o.slot * 2 ^ 24 + o.gen = q := by omega
  rw [objHandle, hword, w64, BitVec.toNat_ofNat, Nat.mod_eq_of_lt hq]

theorem ownedObject_ok {q : Nat} (h : ownedObject s g q = .ok o) : liveObj s q = some o ∧ o.owner = g := by
  unfold ownedObject at h
  split at h
  · cases h
  next x hx =>
    split at h
    next howner =>
      cases h
      exact ⟨hx, howner⟩
    · cases h

theorem ownedObject_of {q : Nat} (hlive : liveObj s q = some o) (howner : o.owner = g) : ownedObject s g q = .ok o := by
  rw [ownedObject, hlive]
  exact if_pos howner

/-- An update that keeps the slots is seen by its own slot alone. -/
theorem obj_map {f : MemObj → MemObj} (hf : ∀ x, (f x).slot = x.slot)
    (ht : t.obj.objs = s.obj.objs.map fun x => if x.slot == slot then f x else x) :
    obj? t slot = (obj? s slot).map f ∧ ∀ k, k ≠ slot → obj? t k = obj? s k := by
  have hkey (k : Nat) : obj? t k = (obj? s k).map fun x => if x.slot == slot then f x else x := by
    rw [obj?, ht, find_map fun x => by split <;> simp [hf]]
    rfl
  refine ⟨?_, fun k hk => ?_⟩
  · rw [hkey]
    cases hx : obj? s slot with
    | none => rfl
    | some x => simp [show x.slot = slot by simpa using List.find?_some hx]
  · rw [hkey]
    cases hx : obj? s k with
    | none => rfl
    | some x => simp [show x.slot = k by simpa using List.find?_some hx, hk]

/-! ### CREATE_OBJECT (R140, R141) -/

theorem mem_insertObj {e : MemObj} {l : List MemObj} : e ∈ insertObj o l ↔ e = o ∨ e ∈ l := by
  induction l with
  | nil => simp [insertObj]
  | cons a l ih =>
    rw [insertObj]
    split
    · simp
    · rw [List.mem_cons, ih, List.mem_cons, or_left_comm]

theorem createObj_creates {c : Option CtxId} {base : Nat} {mirror : Option Nat} (hfields : createObjFieldsOk s g b = true)
    (hctx : ownerCtx s g b = .ok c)
    (hquota : objQuotaExceeded s g (if (entFlags b).testBit 1 then 2 * qwordAt b 1 else qwordAt b 1) = false)
    (hslot : nextSlot s = some slot)
    (hplace : placeObject s (qwordAt b 2 % 2 ^ 24) (qwordAt b 1) ((entFlags b).testBit 1) = some (base, mirror)) :
    createObj g b s = decide_ g b .success (objHandle (newObj s g b c slot base mirror)).toNat
      (addObj (newObj s g b c slot base mirror) s) := by
  have hkind : field (qwordAt b 2) 23 0 = qwordAt b 2 % 2 ^ 24 := by simp [field]
  unfold createObj
  rw [if_neg (by simp [hfields]), hctx]
  dsimp only
  rw [if_neg (by rw [hquota]; decide), hslot]
  dsimp only
  rw [hkind, hplace]

/-! ### FREE_OBJECT (R143) -/

/-- The start of a free marks the object and ends its grants; what else it does leaves the objects (R143). -/
theorem freeStart_objs {freer : Option AdminRef} (ho : obj? s slot = some o) (hlive : o.freed = false) :
    (freeStart slot freer s).obj.objs = s.obj.objs.map fun x =>
      if x.slot == slot then { x with freed := true, grants := [], freer := freer } else x := by
  unfold freeStart
  rw [ho]
  dsimp only
  rw [if_neg (by rw [hlive]; decide)]
  let s1 := modObj slot (fun x => { x with freed := true, grants := [], freer := freer }) s
  let s2 : State := { s1 with obj := { s1.obj with gens := assocPut s1.obj.gens slot (o.gen + 1) } }
  have hrest : SameBut [.od, .stored, .counters, .mgmt, .links, .intx, .fnCfg, .int, .capture, .ctxs, .slots, .cmds, .engines,
      .lookups, .peers, .windows, .coherence, .err, .power, .out] s2
      (startScan (banksInUse (closeCohOf (objHandle o) (closeWindowsOf (objHandle o) (failWaits (objHandle o) (dropMirrors slot s2)))))
        (.object slot none) (.free slot)
        (closeCohOf (objHandle o) (closeWindowsOf (objHandle o) (failWaits (objHandle o) (dropMirrors slot s2))))) :=
    startScan_frame (by decide) (closeCohOf_frame (by decide) (closeWindowsOf_frame (by decide)
      (failWaits_frame (by decide) (dropMirrors_frame (by decide) (SameBut.refl _ s2)))))
  exact hrest.2.2 .objs (by decide)

theorem freeObj_frees (hflags : entFlags b = 0) (hzero : zeroFrom b 2 = true) (hown : ownedObject s g (qwordAt b 1) = .ok o)
    (huse : objectInUse s o = false) : freeObj g b s = freeStart o.slot (some ⟨g, entTag b⟩) (dropTaken g s) := by
  unfold freeObj
  rw [if_neg (by simp [hflags, hzero]), hown]
  exact if_neg (by rw [huse]; decide)

/-- No object of a slot whose free has begun is live. -/
theorem liveObj_freed {q : Nat} (h : ∀ x ∈ t.obj.objs, x.slot = q / 2 ^ 24 → x.freed = true) : liveObj t q = none := by
  refine List.find?_eq_none.2 fun x hx hkey => ?_
  simp only [Bool.and_eq_true, beq_iff_eq, Bool.not_eq_true'] at hkey
  obtain ⟨⟨hslot, -⟩, hfreed⟩ := hkey
  rw [h x hx hslot] at hfreed
  cases hfreed

theorem freeFinish_frees (hinv : Inv s) (ho : obj? s slot = some o) (hnone : o.changes = []) :
    (∀ e, e ∈ (freeFinish slot s).obj.objs ↔ e ∈ s.obj.objs ∧ e.slot ≠ slot) ∧
      (freeFinish slot s).pool.scrubs = s.pool.scrubs ++ [⟨o.base, o.bytes, 0, o.mirrorSpan, some o.owner, false, false⟩] ∧
      ∀ r, o.freer = some r → (getFn (freeFinish slot s) r.fn).admin.held = (getFn s r.fn).admin.held ++ [⟨0, .success, r.tag⟩] := by
  unfold freeFinish
  rw [ho]
  dsimp only
  rw [hnone, foldState]
  cases hfreer : o.freer with
  | none => exact ⟨fun e => by simp [List.mem_filter], rfl, fun r hr => by cases hr⟩
  | some r =>
    refine ⟨fun e => by simp [List.mem_filter, adminDone], rfl, fun r' hr => ?_⟩
    cases hr
    obtain ⟨hset, -⟩ := adminDone_set (s := s) (g := r.fn) (st := .success) (result := 0) (tag := r.tag) hinv.fns
    exact congrArg AdminQ.held hset

/-! ### Grants (R146) -/

theorem setGrant_objs {r : Rights} : (setGrant slot h r s).obj.objs = s.obj.objs.map fun x =>
    if x.slot = slot then { x with grants := x.grants.filter (fun y => y.1 ≠ h) ++ [(h, r)] } else x := by
  have hkeep : (fun y : Fun × Rights => y.1 != h) = fun y => decide (y.1 ≠ h) := by
    funext y
    rw [Bool.eq_iff_iff, bne_iff_ne, decide_eq_true_iff]
  simp only [setGrant, modObj, beq_iff_eq, hkeep]

theorem grantObj_grants (hfields : grantFieldsOk s b = true) (hrights : grantRights b ≠ 0)
    (hlive : liveObj s (qwordAt b 1) = some o) (hshared : o.shared = true) (howner : o.owner = g) (htarget : grantTarget b ≠ g)
    (hsignal : grantRights b = 3 → o.fence = true) (hnew : grantOf o (grantTarget b) = none) :
    grantObj g b s = decide_ g b .success 0 (setGrant o.slot (grantTarget b) (rightsOf (grantRights b)) s) := by
  have hfields' : ¬(!o.shared || grantTarget b == o.owner || (grantRights b == 3 && !o.fence)) = true := by
    simp only [hshared, howner, Bool.not_true, Bool.false_or, Bool.or_eq_true, beq_iff_eq, htarget, false_or, Bool.and_eq_true,
      Bool.not_eq_true', not_and, Bool.not_eq_false]
    exact hsignal
  unfold grantObj
  dsimp only
  rw [if_neg (by simp [hfields, hrights]), hlive]
  dsimp only
  rw [if_neg hfields', if_neg (by simp [howner]), if_neg (by simp [hnew])]

theorem revokeObj_revokes {r : Rights} (hfields : grantFieldsOk s b = true) (hrights : grantRights b = 0)
    (hown : ownedObject s g (qwordAt b 1) = .ok o) (hgrant : grantOf o (grantTarget b) = some r) :
    revokeObj g b s = startGrantDrop o.slot (grantTarget b) ⟨g, entTag b⟩
      (modObj o.slot (fun x => { x with grants := x.grants.filter fun y => y.1 != grantTarget b }) (dropTaken g s)) := by
  unfold revokeObj
  dsimp only
  rw [if_neg (by simp [hfields, hrights]), hown]
  exact if_neg (by simp [hgrant])

/-- After a revocation no object of the slot grants the target anything, though the change waits for its drop. -/
theorem startGrantDrop_revoked {r : AdminRef} {x : MemObj}
    (hx : x ∈ (startGrantDrop slot h r (modObj slot (fun x => { x with grants := x.grants.filter fun y => y.1 != h }) s)).obj.objs)
    (hslot : x.slot = slot) : grantOf x h = none := by
  have hobjs : (startGrantDrop slot h r (modObj slot (fun x => { x with
      grants := x.grants.filter fun y => y.1 != h }) s)).obj.objs = (s.obj.objs.map fun x => if x.slot == slot then
        { x with grants := x.grants.filter fun y => y.1 != h } else x).map fun x =>
          if x.slot == slot then { x with changes := x.changes ++ [(h, r)] } else x := rfl
  rw [hobjs, List.map_map] at hx
  obtain ⟨y, -, rfl⟩ := List.mem_map.1 hx
  have hy : y.slot = slot := by
    simp only [Function.comp_apply] at hslot
    repeat' split at hslot
    all_goals exact hslot
  have hgrants : (y.grants.filter fun z => z.1 != h).find? (fun z => z.1 == h) = none :=
    List.find?_eq_none.2 fun z hz => by simpa using (List.mem_filter.1 hz).2
  simp only [Function.comp_apply, hy, beq_self_eq_true, if_true, grantOf, hgrants]
  rfl

theorem finishGrantDrop_single {r : AdminRef} (ho : obj? s slot = some o) (hc : o.changes = [(h, r)]) :
    finishGrantDrop slot h s = adminDone r.fn .success 0 r.tag
      (modObj slot (fun x => { x with changes := x.changes.filter fun c => c.1 != h }) s) := by
  unfold finishGrantDrop
  rw [ho]
  dsimp only
  rw [hc]
  have hmine : ([(h, r)].filter fun c : Fun × AdminRef => c.1 == h) = [(h, r)] := by simp
  rw [hmine]
  rfl

end ObjectEntries

/-- Settles O29: each entry by what its opcode decides: an object added, freed and gone, a grant given and taken away. -/
theorem objectLifecycle : Obligations.ObjectLifecycle := by
  unfold Obligations.ObjectLifecycle
  intro s g b hinv
  refine ⟨fun c slot base mirror htaken hfields hctx hquota hslot hplace => ?create,
    fun o htaken hflags hzero hown ho huse => ?free, fun slot o ho hends hnone => ?freed,
    fun o htaken hfields hrights hlive hshared howner htarget hsignal hnew => ?grant,
    fun o r htaken hfields hrights hown hgrant => ?revoke, fun slot h o r ho hends hc => ?dropped⟩
  case create =>
    let o := newObj s g b c slot base mirror
    obtain ⟨hdecided, -, hparts⟩ := decide_gives (s := addObj o s) (g := g) (b := b) (st := .success)
      (result := (objHandle o).toNat) hinv.fns
    refine Gives.of_eq rfl ((withEntry_runs htaken).trans (createObj_creates hfields hctx hquota hslot hplace))
      ⟨?_, fun e => ?_, ?_⟩
    · have hword : w64 (objHandle o).toNat = objHandle o := BitVec.ofNat_toNat _ _ |>.trans (BitVec.setWidth_eq _)
      rw [if_pos rfl, hword] at hdecided
      exact hdecided
    · rw [hparts.2.2 .objs (by decide)]
      exact mem_insertObj
    · exact (addObj_frame (by decide) (SameBut.refl _ s)).trans (hparts.mono (by decide))
  case free =>
    obtain ⟨hlive, -⟩ := ownedObject_ok hown
    obtain ⟨hslot, -, hfreed⟩ := liveObj_some hlive
    have hdrop : SameBut [.counters, .requests, .ats, .admin, .int, .out] s (dropTaken g s) :=
      dropTaken_frame (by decide) (SameBut.refl _ s)
    have hobjs0 : (dropTaken g s).obj.objs = s.obj.objs := hdrop.2.2 .objs (by decide)
    have ho' : obj? (dropTaken g s) o.slot = some o := by rw [obj?, hobjs0]; exact ho
    have hobjs := freeStart_objs (freer := some ⟨g, entTag b⟩) ho' hfreed
    rw [hobjs0] at hobjs
    obtain ⟨hself, hothers⟩ := obj_map (by exact fun _ => rfl) hobjs
    obtain ⟨hset, -⟩ := dropTaken_set (g := g) hinv.fns
    refine Gives.of_eq rfl ((withEntry_runs htaken).trans (freeObj_frees hflags hzero hown huse))
      ⟨freeStart_admin.trans hset, by rw [hself, ho]; rfl, liveObj_freed fun x hx hxslot => ?_, hothers⟩
    rw [objHandle_of_live (qwordAt_lt b 1) hlive, ← hslot] at hxslot
    rw [hobjs] at hx
    obtain ⟨y, -, rfl⟩ := List.mem_map.1 hx
    split at hxslot
    next hy => rw [if_pos hy]
    next hy => exact absurd (beq_iff_eq.2 hxslot) hy
  case freed =>
    exact ⟨_, congrArg Host.Outcome.next (if_pos hends), freeFinish_frees hinv ho hnone⟩
  case grant =>
    obtain ⟨hdecided, -, hparts⟩ := decide_gives (s := setGrant o.slot (grantTarget b) (rightsOf (grantRights b)) s) (g := g)
      (b := b) (st := .success) (result := 0) hinv.fns
    refine Gives.of_eq rfl ((withEntry_runs htaken).trans
      (grantObj_grants hfields hrights hlive hshared howner htarget hsignal hnew)) ⟨hdecided, ?_, ?_⟩
    · rw [hparts.2.2 .objs (by decide)]
      exact setGrant_objs
    · exact (setGrant_frame (by decide) (SameBut.refl _ s)).trans (hparts.mono (by decide))
  case revoke =>
    obtain ⟨hset, -⟩ := dropTaken_set (g := g) hinv.fns
    have hdrop : SameBut [.counters, .requests, .ats, .admin, .int, .out] s (dropTaken g s) :=
      dropTaken_frame (by decide) (SameBut.refl _ s)
    have hstart : SameBut [.objs, .lookups] (dropTaken g s) (startGrantDrop o.slot (grantTarget b) ⟨g, entTag b⟩
        (modObj o.slot (fun x => { x with grants := x.grants.filter fun y => y.1 != grantTarget b }) (dropTaken g s))) :=
      startGrantDrop_frame (by decide) (modObj_frame (by decide) (SameBut.refl _ _))
    exact Gives.of_eq rfl ((withEntry_runs htaken).trans (revokeObj_revokes hfields hrights hown hgrant))
      ⟨(hstart.fn_admin (by decide) g).trans hset, fun x hx hslot => startGrantDrop_revoked hx hslot,
        (hdrop.mono (by decide)).trans (hstart.mono (by decide))⟩
  case dropped =>
    have hrun : exec (.grantDropComplete slot h) s = .next (adminDone r.fn .success 0 r.tag
        (modObj slot (fun x => { x with changes := x.changes.filter fun c => c.1 != h }) s)) :=
      congrArg Host.Outcome.next ((if_pos hends).trans (finishGrantDrop_single ho hc))
    obtain ⟨hset, -⟩ := adminDone_set (s := modObj slot (fun x => { x with changes := x.changes.filter fun c => c.1 != h }) s)
      (g := r.fn) (st := .success) (result := 0) (tag := r.tag) hinv.fns
    exact ⟨_, hrun, hset, adminDone_frame (by decide) (modObj_frame (by decide) (SameBut.refl _ s))⟩

end Sys2Proof.Machine
end

section
/-!
SUPPORT and CLAIM. The invariant does not ask that nothing is under way in sleep entry. With a window operation of a READY
context out when the sessions end, O48 fails: the lost context raises an error whose source starts the wake.
-/
namespace Sys2Proof.Machine

/-- A single operand of command 0 of context 0 that is out to package 1. -/
def operandOut : SendOp :=
  { ctx := 0, q := 0, peer := 1, window := 0, serial := 0, tile := 0, need := .read, runs := [], phase := 0, denied := none,
    since := 0, got := [] }

/-- Sleep entry with that operation out, and wake entry 1 watching source 258 of function 0. -/
def enteringState : State :=
  let u := setObj 0x8010 1 (.num (2 ^ 30 + 258)) (stateWith masterOn [(0, readyCtx)] [{ newCmd 0 0 0 with stage := .dispatched }])
  { u with
    power := { u.power with phase := .entering, wakeLate := none }
    win := { u.win with peers := [{ newPeer 1 0 none with state := .up }], sends := [operandOut] } }

theorem enteringState_inv : Inv enteringState :=
  { stateWith_inv masterOn_ok [(0, readyCtx)] [{ newCmd 0 0 0 with stage := .dispatched }] with }

/-- The error of the lost context has started the wake. -/
theorem enterSleep_wakes : (enterSleep enteringState).power.phase = .waking := by decide +kernel

/-- Refutes O48: in `enteringState` sleep entry is done and no wake is under way, but the package does not stay asleep. -/
theorem not_wakeAndSleep : ¬ Obligations.WakeAndSleep := by
  unfold Obligations.WakeAndSleep
  intro h
  obtain ⟨-, -, hentered, -⟩ := h enteringState enteringState_inv
  obtain ⟨t, ht, hasleep, -⟩ := hentered rfl rfl
  have hstate : t = enterSleep enteringState := (Host.Outcome.next.inj ht).symm
  rw [hstate, enterSleep_wakes] at hasleep
  cases hasleep

end Sys2Proof.Machine
end

section
/-!
SUPPORT and CLAIM. Lookups, walks, leases and scans (06_translation, R201 to R218): the obligation O34.
-/
namespace Sys2Proof.Machine

section Lookups
variable {s t u : State} {who : Who} {a : Asker} {e : REntry} {va : Nat} {need : Need} {L : List StatePart} {w : Walk}

/-! ### What a frame says of the range store and the walks -/

theorem SameBut.walks (h : SameBut L s t) (hl : .lookups ∉ L) : t.trans.walks = s.trans.walks := by
  have hpart : t.trans.lookupsPart = s.trans.lookupsPart := h.2.2 .lookups hl
  simp only [TransSt.lookupsPart, Prod.mk.injEq] at hpart
  exact hpart.1

theorem SameBut.leases (h : SameBut L s t) (hl : .lookups ∉ L) : t.trans.leases = s.trans.leases := by
  have hpart : t.trans.lookupsPart = s.trans.lookupsPart := h.2.2 .lookups hl
  simp only [TransSt.lookupsPart, Prod.mk.injEq] at hpart
  exact hpart.2.2.2.2.1

theorem SameBut.scans (h : SameBut L s t) (hl : .lookups ∉ L) : t.trans.scans = s.trans.scans := by
  have hpart : t.trans.lookupsPart = s.trans.lookupsPart := h.2.2 .lookups hl
  simp only [TransSt.lookupsPart, Prod.mk.injEq] at hpart
  exact hpart.2.2.2.2.2.1

theorem SameBut.entries (h : SameBut L s t) (hl : .entries ∉ L) : t.trans.banks = s.trans.banks ∧
    t.trans.bankCount = s.trans.bankCount ∧ t.trans.nextEntry = s.trans.nextEntry := by
  have hpart : t.trans.entriesPart = s.trans.entriesPart := h.2.2 .entries hl
  simp only [TransSt.entriesPart, Prod.mk.injEq] at hpart
  exact hpart

theorem bankOf_congr (h : t.trans.bankCount = s.trans.bankCount) (who : Who) : bankOf t who = bankOf s who := by
  cases who <;> simp only [bankOf, h]

theorem getBank_setBank {b : Nat} {l : List REntry} (hb : b < s.trans.banks.length) : getBank (setBank b l s) b = l := by
  simp [getBank, setBank, List.getD_eq_getElem?_getD, hb]

theorem getBank_setBank_other {b k : Nat} {l : List REntry} (hk : k ≠ b) : getBank (setBank b l s) k = getBank s k := by
  simp [getBank, setBank, List.getD_eq_getElem?_getD, List.getElem?_set_ne (Ne.symm hk)]

/-! ### A lookup (R201 to R206) -/

theorem entryVerdict_congr (h : SameBut L s t) (hl : ∀ p ∈ [StatePart.fnCfg, .pool], p ∉ L) :
    entryVerdict t a e va need = entryVerdict s a e va need := by
  have hcfg : (getFn t a.fn).cfg = (getFn s a.fn).cfg := h.fn_fnCfg (hl _ (by decide)) a.fn
  have hpool : t.pool.poolPart = s.pool.poolPart := h.2.2 .pool (hl _ (by decide))
  simp only [PoolSt.poolPart, Prod.mk.injEq] at hpool
  have hscrub : extentScrub t a.fn = extentScrub s a.fn := by simp only [extentScrub, hpool]
  have hfault (x n : Nat) : touchesFault t x n = touchesFault s x n := by simp only [touchesFault, hpool]
  rw [entryVerdict, hcfg, hscrub, hfault, entryVerdict]

/-- A lookup that hits an entry which allows the access answers it (R203). -/
theorem translate_hit (ha : asker s who = some a) (hopen : askerAborting s who = false)
    (he : storeLookup s who a (va / 4096) = some e) (hv : entryVerdict s a e va need = .ok e) :
    translate who va need s =
      (countPackage 0x05 (touchEntry (bankOf s who) e.id (dropAnswers who va need s)), .ok e) := by
  have hsame : SameBut [.counters, .int, .entries, .lookups] s
      (countPackage 0x05 (touchEntry (bankOf s who) e.id (dropAnswers who va need s))) :=
    countPackage_frame (by decide) (touchEntry_frame (by decide) (dropAnswers_frame (by decide) (SameBut.refl _ s)))
  have hverdict := (entryVerdict_congr (a := a) (e := e) (va := va) (need := need) hsame (by decide)).trans hv
  have hresolve : resolveAt who va need s =
      (countPackage 0x05 (touchEntry (bankOf s who) e.id (dropAnswers who va need s)), .ok e) := by
    simp only [resolveAt, ha, hopen, Bool.false_eq_true, if_false, he, hverdict]
  simp only [translate, hresolve, ha, countFault]

theorem lookupOf_hit (ha : asker s who = some a) (hopen : askerAborting s who = false)
    (he : storeLookup s who a (va / 4096) = some e) (hv : entryVerdict s a e va need = .ok e) :
    lookupOf who va need s = emit (.translation who va (targetOf e va))
      (countPackage 0x05 (touchEntry (bankOf s who) e.id (dropAnswers who va need s))) := by
  simp only [lookupOf, ha, hopen, Bool.false_eq_true, if_false, he, Option.isSome_some, Bool.or_true, if_true,
    translate_hit ha hopen he hv, answerLookup]

theorem lookupOf_miss (ha : asker s who = some a) (hopen : askerAborting s who = false)
    (he : storeLookup s who a (va / 4096) = none) (hfixed : a.fixed = false) :
    lookupOf who va need s = startWalk who a va need s := by
  simp only [lookupOf, ha, hopen, Bool.false_eq_true, if_false, he, hfixed, Option.isSome_none, Bool.or_self]

theorem walks_any_walkFor {g : Nat} : s.trans.walks.any (walkFor who g) = true ↔ ∃ w ∈ s.trans.walks, w.who = who ∧ w.granule = g := by
  simp [walkFor]

/-! ### The end of a walk (R206) -/

/-- What one waiter of a walk that ends has of its outcome. -/
def walkOutcome (w : Walk) (e : TOut) (gtc : U64) (x : Nat × Need × Bool) (t : State) : Prop :=
  if x.2.2 then .noTranslation w.who x.1 e ∈ t.out else (w.who, x.1, x.2.1, e, gtc) ∈ t.trans.answers

/-- One waiter's share of a walk that ends in a fault. -/
def waiterEnds (w : Walk) (a : Asker) (code : TCode) (x : Nat × Need × Bool) (s : State) : State :=
  if x.2.2 then emit (.noTranslation w.who x.1 (.fault code)) (countFn a.fn 0x08 s)
  else { s with trans := { s.trans with answers := s.trans.answers ++ [(w.who, x.1, x.2.1, .fault code, s.gtc)] } }

theorem walkEnds_fault {code : TCode} :
    walkEnds w a (.fault code) s = foldState (waiterEnds w a code) w.waiters (dropWalk w.id s) := by
  have hstep : (fun x s =>
      let r : Except TOut REntry := .error (.fault code)
      if x.2.2 then answerLookup w.who x.1 x.2.1 r (countFault a r s)
      else if (TOut.fault code) = .aborting then s
      else { s with trans := { s.trans with answers := s.trans.answers ++ [(w.who, x.1, x.2.1, .fault code, s.gtc)] } }) =
      waiterEnds w a code := by
    funext x t
    unfold waiterEnds
    dsimp only
    split
    · rfl
    · exact if_neg (by simp)
  rw [walkEnds, hstep]

/-- Every waiter of a walk that ends in a fault has that outcome, and the package's own counters are as they were. -/
theorem waitersEnd {code : TCode} (xs : List (Nat × Need × Bool)) :
    let t := foldState (waiterEnds w a code) xs s
    t.gtc = s.gtc ∧ t.trans.walks = s.trans.walks ∧ s.out <:+ t.out ∧ s.trans.answers <+: t.trans.answers ∧
      assocGet t.counters (0xD000 * 256 + 8) = assocGet s.counters (0xD000 * 256 + 8) ∧
      ∀ x ∈ xs, walkOutcome w (.fault code) s.gtc x t := by
  induction xs generalizing s with
  | nil => exact ⟨rfl, rfl, List.suffix_refl _, List.prefix_refl _, rfl, fun x hx => absurd hx List.not_mem_nil⟩
  | cons x xs ih =>
    rw [foldState]
    have hstep : (waiterEnds w a code x s).gtc = s.gtc ∧ (waiterEnds w a code x s).trans.walks = s.trans.walks ∧
        s.out <:+ (waiterEnds w a code x s).out ∧ s.trans.answers <+: (waiterEnds w a code x s).trans.answers ∧
        assocGet (waiterEnds w a code x s).counters (0xD000 * 256 + 8) = assocGet s.counters (0xD000 * 256 + 8) ∧
        walkOutcome w (.fault code) s.gtc x (waiterEnds w a code x s) := by
      unfold waiterEnds walkOutcome
      split
      next =>
        have hcount : SameBut [.counters, .int] s (countFn a.fn 0x08 s) := countFn_frame (by decide) (SameBut.refl _ s)
        have hlookups : (countFn a.fn 0x08 s).trans.lookupsPart = s.trans.lookupsPart := hcount.2.2 .lookups (by decide)
        simp only [TransSt.lookupsPart, Prod.mk.injEq] at hlookups
        have hout : (countFn a.fn 0x08 s).out = s.out := hcount.2.2 .out (by decide)
        refine ⟨hcount.2.2 .gtc (by decide), hcount.walks (by decide), ?_, ?_, ?_, ?_⟩
        · exact hout ▸ List.suffix_cons _ _
        · exact hlookups.2.2.1 ▸ List.prefix_refl _
        · exact count_counters_other (by omega)
        · exact List.mem_cons_self
      next =>
        exact ⟨rfl, rfl, List.suffix_refl _, List.prefix_append _ _, rfl, List.mem_append_right _ (List.mem_singleton.2 rfl)⟩
    obtain ⟨hgtc, hwalks, hout, hanswers, hcount, hx⟩ := hstep
    obtain ⟨ihgtc, ihwalks, ihout, ihanswers, ihcount, ih⟩ := ih (s := waiterEnds w a code x s)
    refine ⟨ihgtc.trans hgtc, ihwalks.trans hwalks, hout.trans ihout, hanswers.trans ihanswers, ihcount.trans hcount,
      fun y hy => ?_⟩
    rcases List.mem_cons.1 hy with rfl | hy
    · unfold walkOutcome at hx ⊢
      split at hx
      next hedge => rw [if_pos hedge]; exact ihout.subset hx
      next hedge => rw [if_neg hedge]; exact ihanswers.subset hx
    · exact hgtc ▸ ih y hy

theorem walkBad_ends : Counted s (walkBad w a s) 0xD000 8 ∧ (∀ x ∈ (walkBad w a s).trans.walks, x.id ≠ w.id) ∧
    ∀ x ∈ w.waiters, walkOutcome w (.fault .tableMalformed) s.gtc x (walkBad w a s) := by
  rw [walkBad, walkEnds_fault]
  have hcount : SameBut [.counters, .int] s (countPackage 0x08 s) := countPackage_sameBut
  have hgtc : (countPackage 0x08 s).gtc = s.gtc := hcount.2.2 .gtc (by decide)
  obtain ⟨-, hwalks, -, -, hcounter, houtcome⟩ := waitersEnd (s := dropWalk w.id (countPackage 0x08 s)) (w := w) (a := a)
    (code := .tableMalformed) w.waiters
  refine ⟨fun hlt => ?_, fun x hx => ?_, fun x hx => ?_⟩
  · rw [hcounter]
    exact counted_count s 0xD000 8 hlt
  · rw [hwalks] at hx
    simpa using (List.mem_filter.1 hx).2
  · have h := houtcome x hx
    rwa [show (dropWalk w.id (countPackage 0x08 s)).gtc = s.gtc from hgtc] at h

/-! ### The steps of a walk (R203, R210, R215) -/

theorem walkStep_nodeRead (h : ∀ e v, w.place ≠ .install e v) : walkStep w s = nodeRead w s := by
  unfold walkStep
  split
  next e v hplace => exact absurd hplace (h e v)
  next => rfl

theorem walkStep_stale (ha : asker s w.who = some a) (hopen : askerAborting s w.who = false) (hstale : w.stale = true) :
    walkStep w s = walkAgain w a s := by
  unfold walkStep
  split
  next e v hplace => simp only [tryInstall, hplace, ha, hopen, hstale, Bool.false_eq_true, if_false, if_true]
  next => simp only [nodeRead, ha, hopen, hstale, Bool.false_eq_true, if_false, if_true]

theorem walkStep_installs {v : Nat} (ha : asker s w.who = some a) (hopen : askerAborting s w.who = false)
    (hstale : w.stale = false) (hplace : w.place = .install e v) (hfree : ∀ l ∈ s.trans.leases, l.entry ≠ v)
    (hquiet : ∀ x ∈ w.waiters, x.2.2 = false) : walkStep w s = installOver e v (dropWalk w.id s) := by
  have hleases : ¬(s.trans.leases.any fun l => l.entry == v) = true := by simpa using hfree
  have hrepeat (u : State) : repeatLookups w u = u :=
    foldState_keeps_of_mem (P := fun t => t = u) _ (fun x hx t ht => by rw [hquiet x hx, ht]; rfl) rfl
  simp only [walkStep, hplace, tryInstall, ha, hopen, hstale, Bool.false_eq_true, if_false, hleases, hrepeat]

theorem installOver_installs {v : Nat} (hy : ∃ y ∈ getBank s (bankOf s e.who), y.id = v) :
    (getBank (installOver e v s) (bankOf s e.who)).getLast? = some { e with id := s.trans.nextEntry } ∧
      (getBank (installOver e v s) (bankOf s e.who)).length = (getBank s (bankOf s e.who)).length ∧
      (installOver e v s).trans.walks = s.trans.walks := by
  have hb : bankOf s e.who < s.trans.banks.length := by
    obtain ⟨y, hy, -⟩ := hy
    refine Decidable.byContradiction fun hge => ?_
    rw [getBank, List.getD_eq_getElem?_getD, List.getElem?_eq_none (by omega)] at hy
    exact List.not_mem_nil hy
  unfold installOver
  dsimp only
  cases hfind : (getBank s (bankOf s e.who)).findIdx? fun x => x.id == v with
  | none =>
    obtain ⟨y, hy, hyv⟩ := hy
    exact absurd (beq_iff_eq.2 hyv) (Bool.eq_false_iff.1 (List.findIdx?_eq_none_iff.1 hfind y hy))
  | some i =>
    have hi : i < (getBank s (bankOf s e.who)).length := (List.findIdx?_eq_some_iff_findIdx_eq.1 hfind).1
    dsimp only
    rw [getBank_setBank (s := { s with trans := { s.trans with nextEntry := s.trans.nextEntry + 1 } }) hb]
    refine ⟨List.getLast?_concat .., ?_, rfl⟩
    simp only [List.length_append, List.length_drop, List.length_take, List.length_cons, List.length_nil]
    omega

theorem nodeRead_descends {b : Bytes} {tb : TableAt} (ha : asker s w.who = some a) (hopen : askerAborting s w.who = false)
    (hstale : w.stale = false) (htable : tableAt s a = some tb) (hread : readNode s tb w.offset = .ok b)
    (hplace : w.place = .anchor) (hredirect : nodeRedirect b = 0) (hok : nodeOk b true 0 0 (2 ^ 45) tb.bytes none = true)
    (hleaf : nodeLeaf b = false) :
    nodeRead w s = modWalk w.id (fun x => { x with
      place := .node 1 (nodeHeight b) (childFor b w.granule (2 ^ 45)).2.1 (childFor b w.granule (2 ^ 45)).2.2
      offset := (childFor b w.granule (2 ^ 45)).1 }) (countPackage 0x07 s) := by
  have hbad : ¬(askerAborting s w.who = true) := by rw [hopen]; decide
  have hfresh : ¬(w.stale = true) := by rw [hstale]; decide
  unfold nodeRead
  rw [ha]
  dsimp only
  rw [if_neg hbad, if_neg hfresh, htable]
  dsimp only
  rw [hread]
  dsimp only
  rw [hplace]
  dsimp only
  rw [if_pos hredirect, if_pos hok, walkOn, if_neg (by rw [hleaf]; decide)]

/-! ### Leases (R217, R218) -/

/-- No walk waits for leases to end. -/
theorem leasesEnded_idle (h : ∀ w ∈ s.trans.walks, ∀ e v, w.place ≠ .install e v) : leasesEnded s = s := by
  refine foldState_keeps_of_mem (P := fun t => t = s) _ (fun w hw t ht => ?_) rfl
  rw [ht, tryInstall]
  split
  next e v hplace _ => exact absurd hplace (h w hw _ _)
  next e v _ hplace _ => exact absurd hplace (h w hw _ _)
  next => rfl

theorem grantLease_grants {cluster slot : Nat} {c : CtxId} (hidle : ∀ w ∈ s.trans.walks, ∀ e v, w.place ≠ .install e v) :
    ∃ l ∈ (grantLease cluster slot c a e va s).trans.leases, l.cluster = cluster ∧ l.slot = slot ∧ l.ctx = c ∧
      l.entry = e.id ∧ l.revoking = [] ∧ (l.first, l.last) = leaseSpan s e va ∧
      .leaseGrant cluster slot c l.first l.last l.base l.effR l.effW l.effA ∈ (grantLease cluster slot c a e va s).out := by
  let l : Lease := ⟨cluster, slot, c, e.id, (leaseSpan s e va).1, (leaseSpan s e va).2,
    e.base + 4096 * ((leaseSpan s e va).1 - e.start), allowsFor a e .read, allowsFor a e .write, allowsFor a e .atomic, e, []⟩
  let s2 : State := { s with trans := { s.trans with
    leases := (s.trans.leases.filter fun x => !(x.cluster == cluster && x.slot == slot)) ++ [l] } }
  have hrun : grantLease cluster slot c a e va s =
      countPackage 0x09 (emit (.leaseGrant cluster slot c l.first l.last l.base l.effR l.effW l.effA) s2) := by
    have hended : leasesEnded s2 = s2 := leasesEnded_idle hidle
    simp only [grantLease]
    rw [show leasesEnded _ = s2 from hended]
  have hcount : SameBut [.counters, .int] (emit (.leaseGrant cluster slot c l.first l.last l.base l.effR l.effW l.effA) s2)
      (grantLease cluster slot c a e va s) := hrun ▸ countPackage_sameBut
  refine ⟨l, ?_, rfl, rfl, rfl, rfl, rfl, rfl, ?_⟩
  · rw [hcount.leases (by decide)]
    exact List.mem_append_right _ (List.mem_singleton.2 rfl)
  · rw [hcount.2.2 .out (by decide)]
    exact List.mem_cons_self

theorem leaseRequest_grants {cluster slot : Nat} {c : CtxId} {cx : Ctx} {s1 : State} (hcluster : cluster < clustersOf s.variant)
    (hslot : slot < 64) (hfenced : cluster ∉ s.det.fenced) (hcx : ctx? s c = some cx) (hr : cx.state = .ready)
    (hmay : mayIssue s c = true) (hheld : packageHeld s = false) (htranslate : translate (.ctx c) va need s = (s1, .ok e))
    (htype : e.ttype = 1 ∨ e.ttype = 4) (hdrop : dropPending s1 (bankOf s1 (.ctx c)) e = false) :
    ∃ a, leaseRequest cluster slot c va need s = grantLease cluster slot c a e va s1 := by
  have ha : ∃ a, asker s (.ctx c) = some a := ⟨_, by rw [asker, hcx]; rfl⟩
  obtain ⟨a, ha⟩ := ha
  refine ⟨a, ?_⟩
  have hopen : ¬(decide (clustersOf s.variant ≤ cluster) || decide (64 ≤ slot) || s.det.fenced.contains cluster) = true := by
    simp [hcluster, hslot, hfenced]
  unfold leaseRequest
  rw [if_neg hopen, hcx]
  dsimp only
  rw [if_neg (by rw [hr]; decide), if_neg (by rw [hr]; decide), if_neg (by simp [hmay, hheld]), htranslate, ha]
  dsimp only
  rw [if_pos (by simpa using htype), if_neg (by rw [hdrop]; decide)]

/-! ### Scans (R215) -/

/-- Range table and root offset of a context. -/
def ctxTable (s : State) (c : CtxId) : Option (U64 × Nat) := (ctx? s c).map fun x => (x.rangeTable, x.rootOffset)

theorem ctxTable_modCtx {c k : CtxId} {f : Ctx → Ctx} (hf : ∀ x, (f x).rangeTable = x.rangeTable ∧ (f x).rootOffset = x.rootOffset) :
    ctxTable (modCtx c f s) k = ctxTable s k := by
  by_cases hk : k = c
  · subst hk
    rw [ctxTable, ctx_modCtx, ctxTable]
    cases ctx? s k with
    | none => rfl
    | some x => simp [hf]
  · rw [ctxTable, ctx_modCtx_other hk, ctxTable]

theorem SameBut.ctxTable (h : SameBut L s t) (hl : .ctxs ∉ L) (c : CtxId) : Machine.ctxTable t c = Machine.ctxTable s c := by
  rw [Machine.ctxTable, h.ctx? hl, Machine.ctxTable]

/-- Which entries a scan drops depends on the tables of the contexts alone. -/
theorem scanDrops_congr (h : ∀ c, ctxTable t c = ctxTable s c) (what : ScanFor) (e : REntry) :
    scanDrops t what e = scanDrops s what e := by
  cases what with
  | span c wide first last =>
    have hc := h c
    simp only [ctxTable] at hc
    simp only [scanDrops]
    cases ht : ctx? t c <;> cases hs : ctx? s c
    · rfl
    · simp [ht, hs] at hc
    · simp [ht, hs] at hc
    · rw [ht, hs] at hc
      simp only [Option.map_some, Option.some.injEq, Prod.mk.injEq] at hc
      simp only [hc.1, hc.2]
  | object slot g => rfl
  | context c => rfl
  | window w => rfl

theorem restartReads_ctxTable {b : Nat} {what : ScanFor} {x : Cmd} {c : CtxId} :
    ctxTable (restartReads b what x s) c = ctxTable s c := by
  have hafresh (cx : Ctx) (k : CtxId) (use : ReadUse) (t : State) : ctxTable (readAfresh cx k use t) c = ctxTable t c :=
    (ctxTable_modCtx (by exact fun _ => ⟨rfl, rfl⟩)).trans
      (SameBut.ctxTable (L := [.requests]) (staleReads_frame (by decide) (SameBut.refl _ t)) (by decide) c)
  have hcmd (k : CtxId) (q : Nat) (f : Cmd → Cmd) : ctxTable (modCmd k q f s) c = ctxTable s c := rfl
  unfold restartReads
  split
  · rfl
  split
  · split
    · exact (hafresh _ _ _ _).trans (hcmd _ _ _)
    · rfl
  · split
    · exact (hafresh _ _ _ _).trans (hcmd _ _ _)
    · rfl
  · rfl

theorem noteGone_ctxTable {what : ScanFor} {c : CtxId} : ctxTable (noteGone what e s) c = ctxTable s c := by
  unfold noteGone
  split
  · split
    · exact ctxTable_modCtx (by exact fun _ => ⟨rfl, rfl⟩)
    · rfl
  · rfl

/-- Each lease of a list is revoked in turn, and counted. -/
theorem revokeEach_revokes (ls : List Lease) :
    let t := foldState (fun l s => countPackage 0x0A (emit (.leaseRevoke l.cluster l.slot) s)) ls s
    s.out <:+ t.out ∧ t.trans.leases = s.trans.leases ∧ ∀ l ∈ ls, .leaseRevoke l.cluster l.slot ∈ t.out := by
  induction ls generalizing s with
  | nil => exact ⟨List.suffix_refl _, rfl, fun l hl => absurd hl List.not_mem_nil⟩
  | cons l ls ih =>
    rw [foldState]
    have hcount : SameBut [.counters, .int] (emit (.leaseRevoke l.cluster l.slot) s)
        (countPackage 0x0A (emit (.leaseRevoke l.cluster l.slot) s)) := countPackage_sameBut
    have hfirst : (countPackage 0x0A (emit (.leaseRevoke l.cluster l.slot) s)).out = .leaseRevoke l.cluster l.slot :: s.out :=
      hcount.2.2 .out (by decide)
    obtain ⟨hout, hleases, hall⟩ := ih (s := countPackage 0x0A (emit (.leaseRevoke l.cluster l.slot) s))
    rw [hfirst] at hout
    refine ⟨(List.suffix_cons _ _).trans hout, hleases.trans (hcount.leases (by decide)), fun m hm => ?_⟩
    rcases List.mem_cons.1 hm with rfl | hm
    · exact hout.subset List.mem_cons_self
    · exact hall m hm

/-- The leases that a test selects have the owner among those that wait for their end, and those selected for the first
time are revoked (R218). -/
theorem revokeWhere_revokes {hit : Lease → Bool} {owner : ScanOwner} {l : Lease} (hl : l ∈ s.trans.leases) (h : hit l = true) :
    (∃ m ∈ (revokeWhere hit owner s).trans.leases, m.cluster = l.cluster ∧ m.slot = l.slot ∧ owner ∈ m.revoking) ∧
      (l.revoking = [] → .leaseRevoke l.cluster l.slot ∈ (revokeWhere hit owner s).out) := by
  obtain ⟨-, hleases, hall⟩ := revokeEach_revokes (s := { s with trans := { s.trans with
    leases := s.trans.leases.map fun l =>
      if hit l && !l.revoking.contains owner then { l with revoking := l.revoking ++ [owner] } else l } })
    (s.trans.leases.filter fun l => hit l && l.revoking.isEmpty)
  refine ⟨?_, fun hfresh => hall l (List.mem_filter.2 ⟨hl, by simp [h, hfresh]⟩)⟩
  rw [revokeWhere, hleases]
  refine ⟨_, List.mem_map.2 ⟨l, hl, rfl⟩, ?_⟩
  split
  next hnew => exact ⟨rfl, rfl, List.mem_append_right _ (List.mem_singleton.2 rfl)⟩
  next hold => exact ⟨rfl, rfl, by simpa [h] using hold⟩

/-- A scan of a bank drops the entries that it selects and revokes the leases on them (R215). -/
theorem scanBank_scans (hinv : Inv s) {b : Nat} {what : ScanFor} {owner : ScanOwner} (hb : b < 8) :
    getBank (scanBank b what owner s) b = (getBank s b).filter (fun e => !scanDrops s what e) ∧
      (∀ k, k ≠ b → getBank (scanBank b what owner s) k = getBank s k) ∧
      (scanBank b what owner s).trans.scans = s.trans.scans ∧ (scanBank b what owner s).trans.walks = s.trans.walks ∧
      ∀ l ∈ s.trans.leases, bankOf s l.ent.who = b → scanDrops s what l.ent = true →
        (∃ m ∈ (scanBank b what owner s).trans.leases, m.cluster = l.cluster ∧ m.slot = l.slot ∧ owner ∈ m.revoking) ∧
        (l.revoking = [] → .leaseRevoke l.cluster l.slot ∈ (scanBank b what owner s).out) := by
  unfold scanBank
  extract_lets l0 gone hit tiles tr s1
  let s2 := setBank b (l0.filter fun e => !scanDrops s1 what e) s1
  let s3 := revokeWhere hit owner s2
  have hb' : b < s1.trans.banks.length := by rw [show s1.trans.banks.length = 8 from hinv.banks]; exact hb
  have hrevoke : SameBut [.counters, .int, .lookups, .out] s2 s3 := revokeWhere_frame (by decide) (SameBut.refl _ s2)
  have hnote : SameBut [.ctxs] s3 (foldState (noteGone what) gone s3) :=
    foldState_frame (fun _ _ h => noteGone_frame (by decide) h) (SameBut.refl _ s3)
  have hbanks : (foldState (noteGone what) gone s3).trans.banks = s2.trans.banks :=
    (hnote.entries (by decide)).1.trans (hrevoke.entries (by decide)).1
  have hget (k : Nat) : getBank (foldState (noteGone what) gone s3) k = getBank s2 k := by rw [getBank, hbanks, getBank]
  have hlookups : s3.trans.walks = s2.trans.walks ∧ s3.trans.scans = s2.trans.scans :=
    foldState_keeps (P := fun t => t.trans.walks = s2.trans.walks ∧ t.trans.scans = s2.trans.scans)
      (fun l t ht => by
        have hcount : SameBut [.counters, .int, .out] t (countPackage 0x0A (emit (.leaseRevoke l.cluster l.slot) t)) :=
          countPackage_frame (by decide) (emit_frame (by decide) (SameBut.refl _ t))
        exact ⟨(hcount.walks (by decide)).trans ht.1, (hcount.scans (by decide)).trans ht.2⟩) _ ⟨rfl, rfl⟩
  refine ⟨(hget b).trans (getBank_setBank hb'), fun k hk => (hget k).trans (getBank_setBank_other hk),
    (hnote.scans (by decide)).trans hlookups.2, (hnote.walks (by decide)).trans hlookups.1, fun l hl hbank hdrop => ?_⟩
  have hhit : hit l = true := by simp [hit, hbank, hdrop]
  obtain ⟨hm, hout⟩ := revokeWhere_revokes (s := s2) (owner := owner) hl hhit
  refine ⟨?_, fun hfresh => ?_⟩
  · rw [hnote.leases (by decide)]
    exact hm
  · rw [hnote.2.2 .out (by decide)]
    exact hout hfresh

theorem finishScan_scans (hinv : Inv s) {b : Bank} {x : Scan} (hx : (s.trans.scans.find? fun y => y.bank == b.val) = some x)
    (hidle : ∀ w ∈ s.trans.walks, ∀ e v, w.place ≠ .install e v) :
    (finishScan b s).trans.scans = s.trans.scans.eraseP (fun y => y.bank == b.val) ∧
      getBank (finishScan b s) b.val = (getBank s b.val).filter (fun e => !scanDrops s x.what e) ∧
      (∀ k, k ≠ b.val → getBank (finishScan b s) k = getBank s k) ∧
      ∀ l ∈ s.trans.leases, bankOf s l.ent.who = b.val → scanDrops s x.what l.ent = true →
        (∃ m ∈ (finishScan b s).trans.leases, m.cluster = l.cluster ∧ m.slot = l.slot ∧ x.owner ∈ m.revoking) ∧
        (l.revoking = [] → .leaseRevoke l.cluster l.slot ∈ (finishScan b s).out) := by
  let s1 := foldState (restartReads b.val x.what) s.cmd.table s
  have hs1 : SameBut [.requests, .ctxs, .cmds] s s1 :=
    foldState_frame (fun _ _ h => restartReads_frame (by decide) h) (SameBut.refl _ s)
  have htable (c : CtxId) : ctxTable s1 c = ctxTable s c :=
    foldState_keeps (P := fun t => ctxTable t c = ctxTable s c) (fun _ _ ht => restartReads_ctxTable.trans ht) _ rfl
  have hok : Ok s s1 := foldState_ok (fun _ _ h => restartReads_ok h) (Ok.refl s)
  let s2 : State := { s1 with trans := { s1.trans with scans := s1.trans.scans.eraseP fun y => y.bank == b.val } }
  have hinv2 : Inv s2 := { hok.inv hinv with }
  obtain ⟨hbanks, hcount, -⟩ := hs1.entries (by decide)
  have hdrops (e : REntry) : scanDrops s2 x.what e = scanDrops s x.what e := scanDrops_congr (t := s2) htable _ _
  have hget (k : Nat) : getBank s2 k = getBank s k := by rw [getBank, show s2.trans.banks = s.trans.banks from hbanks, getBank]
  obtain ⟨hscan, hother, hscans, hwalks, hleases⟩ := scanBank_scans (what := x.what) (owner := x.owner) hinv2 b.isLt
  have hended : leasesEnded (scanBank b.val x.what x.owner s2) = scanBank b.val x.what x.owner s2 :=
    leasesEnded_idle (by rw [hwalks, show s2.trans.walks = s.trans.walks from hs1.walks (by decide)]; exact hidle)
  have hrun : finishScan b s = scanBank b.val x.what x.owner s2 := by
    simp only [finishScan, hx]
    exact hended
  rw [hrun]
  refine ⟨hscans.trans (congrArg _ (hs1.scans (by decide))), ?_, fun k hk => (hother k hk).trans (hget k), fun l hl hbank hdrop => ?_⟩
  · rw [hscan, hget]
    exact List.filter_congr fun e _ => by rw [hdrops]
  · exact hleases l ((hs1.leases (by decide)).symm ▸ hl) ((bankOf_congr (t := s2) hcount _).trans hbank) ((hdrops _).trans hdrop)

end Lookups

/-- The table of leases belongs to the lookups. -/
theorem leases_sameBut {s : State} {ls : List Lease} :
    SameBut [.lookups] s { s with trans := { s.trans with leases := ls } } := by
  refine ⟨rfl, rfl, fun p hp => ?_⟩
  cases p with
  | lookups => exact absurd List.mem_cons_self hp
  | _ => rfl

/-- Settles O34: a lookup by what the range store holds, a walk by the node that it reads, a lease and a scan by the entries they name. -/
theorem translation : Obligations.Translation := by
  unfold Obligations.Translation
  intro s hinv
  refine ⟨fun c va need a hva ha hopen => ⟨fun e he hv => ?hit, fun he hfixed => ⟨fun hnone hroom => ?starts,
      fun hnone hfull => ?stalls, fun hhere => ?joins⟩⟩,
    fun w a hw hturn hheld ha hopen => ⟨fun hstale => ?stale, fun hfresh hplace htable => ?bad,
      fun e v hfresh hplace hfree hy hquiet => ?installs, fun b tb hfresh htable hread hplace hredirect hok hleaf => ?descends⟩,
    fun cluster slot c va need hcluster hslot hfenced => ⟨fun hnone => ?noContext,
      fun cx s1 e hva hcx hr hmay hheld htranslate htype hdrop hidle => ?grants⟩,
    fun cluster slot => ⟨?ack, ?release⟩, fun b x hx hidle => Gives.of_eq rfl rfl (finishScan_scans hinv hx hidle)⟩
  case hit =>
    have hmod : va.toNat % 2 ^ 57 = va.toNat := Nat.mod_eq_of_lt hva
    have hsame : SameBut [.entries] (dropAnswers (.ctx c) va.toNat need s)
        (touchEntry (bankOf s (.ctx c)) e.id (dropAnswers (.ctx c) va.toNat need s)) :=
      touchEntry_frame (by decide) (SameBut.refl _ _)
    have hcount : SameBut [.counters, .int] (touchEntry (bankOf s (.ctx c)) e.id (dropAnswers (.ctx c) va.toNat need s))
        (countPackage 0x05 (touchEntry (bankOf s (.ctx c)) e.id (dropAnswers (.ctx c) va.toNat need s))) :=
      countPackage_sameBut
    refine Gives.of_eq rfl ((congrArg (fun n => lookup c n need s) hmod).trans (lookupOf_hit ha hopen he hv))
      ⟨?_, List.mem_cons_self, (hcount.walks (by decide)).trans (hsame.walks (by decide))⟩
    exact (counted_count _ 0xD000 5).of_counters (hsame.2.2 .counters (by decide))
  case starts =>
    have hany : ¬(s.trans.walks.any (walkFor (.ctx c) (va.toNat / 4096))) = true := by
      rw [walks_any_walkFor]
      exact fun ⟨w, hw, hhere⟩ => hnone w hw hhere
    have hrun : exec (.translationLookup c va need) s = .next (countPackage 0x06 (putWalk (.ctx c) va.toNat need true .anchor a.root s)) := by
      refine congrArg Host.Outcome.next ((congrArg (fun n => lookup c n need s) (Nat.mod_eq_of_lt hva)).trans
        ((lookupOf_miss ha hopen he hfixed).trans ?_))
      rw [startWalk, if_neg hany, if_neg (by rw [hroom]; decide)]
    have hcount : SameBut [.counters, .int] (putWalk (.ctx c) va.toNat need true .anchor a.root s)
        (countPackage 0x06 (putWalk (.ctx c) va.toNat need true .anchor a.root s)) := countPackage_sameBut
    exact ⟨_, hrun, counted_count (putWalk (.ctx c) va.toNat need true .anchor a.root s) 0xD000 6, hcount.walks (by decide)⟩
  case stalls =>
    have hany : ¬(s.trans.walks.any (walkFor (.ctx c) (va.toNat / 4096))) = true := by
      rw [walks_any_walkFor]
      exact fun ⟨w, hw, hhere⟩ => hnone w hw hhere
    have hrun : exec (.translationLookup c va need) s = .next (stallLookup (.ctx c) va.toNat need s) := by
      refine congrArg Host.Outcome.next ((congrArg (fun n => lookup c n need s) (Nat.mod_eq_of_lt hva)).trans
        ((lookupOf_miss ha hopen he hfixed).trans ?_))
      rw [startWalk, if_neg hany, if_pos hfull]
    exact ⟨_, hrun, rfl, rfl, stallLookup_frame (by decide) (SameBut.refl _ s)⟩
  case joins =>
    have hrun : exec (.translationLookup c va need) s = .next (joinWalk (.ctx c) va.toNat need true s) := by
      refine congrArg Host.Outcome.next ((congrArg (fun n => lookup c n need s) (Nat.mod_eq_of_lt hva)).trans
        ((lookupOf_miss ha hopen he hfixed).trans ?_))
      rw [startWalk, if_pos (walks_any_walkFor.2 hhere)]
    let s1 : State := { s with trans := { s.trans with walks := s.trans.walks.map (fun w =>
      if (walkFor (.ctx c) (va.toNat / 4096) w) = true then { w with waiters := w.waiters ++ [(va.toNat, need, true)] } else w) } }
    have hcount : SameBut [.counters, .int] s1 (joinWalk (.ctx c) va.toNat need true s) := countPackage_sameBut (s := s1)
    refine ⟨_, hrun, counted_count s1 0xD000 6, (hcount.walks (by decide)).trans ?_⟩
    refine List.map_congr_left fun w _ => ?_
    simp [walkFor]
  case stale =>
    have hrun : exec (.walkNodeReadDone w.id) s = .next (wake (walkAgain w a s)) := by
      refine congrArg Host.Outcome.next ?_
      simp only [hw]
      exact (if_pos (by simp [hturn, hheld])).trans (congrArg wake (walkStep_stale ha hopen hstale))
    exact ⟨_, hrun, walkAgain_frame (by decide) (SameBut.refl _ s), by simp [walkAgain, modWalk]⟩
  case bad =>
    have hnode : nodeRead w s = walkBad w a s := by
      simp only [nodeRead, ha, hopen, hfresh, htable, Bool.false_eq_true, if_false]
    have hrun : exec (.walkNodeReadDone w.id) s = .next (wake (walkBad w a s)) := by
      refine congrArg Host.Outcome.next ?_
      simp only [hw]
      exact (if_pos (by simp [hturn, hheld])).trans (congrArg wake ((walkStep_nodeRead hplace).trans hnode))
    exact ⟨_, hrun, walkBad_ends⟩
  case installs =>
    have hrun : exec (.walkNodeReadDone w.id) s = .next (wake (installOver e v (dropWalk w.id s))) := by
      refine congrArg Host.Outcome.next ?_
      simp only [hw]
      exact (if_pos (by simp [hturn, hheld])).trans (congrArg wake (walkStep_installs ha hopen hfresh hplace hfree hquiet))
    obtain ⟨hlast, hlength, hwalks⟩ := installOver_installs (s := dropWalk w.id s) (e := e) hy
    refine ⟨_, hrun, fun x hx => ?_, hlast, hlength, installOver_frame (by decide) (dropWalk_frame (by decide) (SameBut.refl _ s))⟩
    rw [hwalks] at hx
    simpa using (List.mem_filter.1 hx).2
  case descends =>
    have hplace' : ∀ e v, w.place ≠ .install e v := by simp [hplace]
    have hrun : exec (.walkNodeReadDone w.id) s = .next (wake (nodeRead w s)) := by
      refine congrArg Host.Outcome.next ?_
      simp only [hw]
      exact (if_pos (by simp [hturn, hheld])).trans (congrArg wake (walkStep_nodeRead hplace'))
    refine ⟨_, hrun, ?_⟩
    rw [nodeRead_descends ha hopen hfresh htable hread hplace hredirect hok hleaf]
    refine ⟨counted_count s 0xD000 7, ?_⟩
    have hwalks : (countPackage 0x07 s).trans.walks = s.trans.walks := countPackage_sameBut.walks (by decide)
    simp [modWalk, hwalks]
  case noContext =>
    refine congrArg Host.Outcome.next ?_
    unfold leaseRequest
    rw [if_neg (by simp [hcluster, hslot, hfenced]), hnone]
  case grants =>
    have hmod : va.toNat % 2 ^ 57 = va.toNat := Nat.mod_eq_of_lt hva
    obtain ⟨a, hgrant⟩ := leaseRequest_grants hcluster hslot hfenced hcx hr hmay hheld htranslate htype hdrop
    exact Gives.of_eq rfl ((congrArg (fun n => leaseRequest cluster slot c n need s) hmod).trans hgrant)
      (grantLease_grants hidle)
  case ack =>
    exact ⟨_, rfl, leases_sameBut, fun l => by simp [List.mem_filter, Decidable.imp_iff_not_or, or_assoc]⟩
  case release =>
    exact ⟨_, rfl, leases_sameBut, fun l => by simp [List.mem_filter, Decidable.imp_iff_not_or, or_assoc]⟩

end Sys2Proof.Machine
end

section
/-!
SUPPORT and CLAIM. The sender of window operations (08_windows_coherence, R273 to R276; 07_transfers_faults, R229 to
R235): what a denied tile meets, and the obligation O39.
-/
namespace Sys2Proof.Machine

section WindowSender
variable {s t u : State} {L : List StatePart} {c : CtxId} {q : Nat} {o : SendOp} {x : Cmd} {y : Xfer} {cx : Ctx} {g : Fun}
  {h : FrameHdr}

/-! ### What a tile meets depends on (R232) -/

theorem SameBut.sends (h : SameBut L s t) (hl : .windows ∉ L) : t.win.sends = s.win.sends := by
  have hw : t.win.windowsPart = s.win.windowsPart := h.2.2 .windows hl
  simp only [WinSt.windowsPart, Prod.mk.injEq] at hw
  obtain ⟨-, -, hsends, -⟩ := hw
  exact hsends

theorem SameBut.fixed? (h : SameBut L s t) (hl : .ctxs ∉ L) : Machine.fixed? t c = Machine.fixed? s c := by
  rw [Machine.fixed?, h.ctx? hl, Machine.fixed?]

theorem SameBut.mayIssue (h : SameBut L s t) (hl : ∀ p ∈ [StatePart.gtc, .ctxs], p ∉ L) :
    Machine.mayIssue t c = Machine.mayIssue s c := by
  have hgtc : t.gtc = s.gtc := h.2.2 .gtc (hl _ (by decide))
  simp only [Machine.mayIssue, h.fixed? (hl _ (by decide)), inWindow, hgtc]

theorem SameBut.packageHeld (h : SameBut L s t) (hl : ∀ p ∈ [StatePart.err, .power], p ∉ L) :
    Machine.packageHeld t = Machine.packageHeld s := by
  have herr : t.err = s.err := h.2.2 .err (hl _ (by decide))
  have hpower : t.power = s.power := h.2.2 .power (hl _ (by decide))
  simp only [Machine.packageHeld, herr, hpower]

theorem SameBut.opsOfCmd (h : SameBut L s t) (hl : .windows ∉ L) : Machine.opsOfCmd t c q = Machine.opsOfCmd s c q := by
  rw [Machine.opsOfCmd, h.sends hl, Machine.opsOfCmd]

theorem SameBut.opVa (h : SameBut L s t) (hl : .cmds ∉ L) : Machine.opVa t o = Machine.opVa s o := by
  simp only [Machine.opVa, h.cmd? hl]

theorem SameBut.peerCode (h : SameBut L s t) (hl : ∀ p ∈ [StatePart.od, .peers], p ∉ L) {p : PackageId} :
    Machine.peerCode t p = Machine.peerCode s p := by
  have hod : t.od = s.od := h.2.2 .od (hl _ (by decide))
  have hpeers : t.win.peersPart = s.win.peersPart := h.2.2 .peers (hl _ (by decide))
  simp only [WinSt.peersPart, Prod.mk.injEq] at hpeers
  obtain ⟨hid, -, -, -, hpeers, -⟩ := hpeers
  have hentry : peerEntry t p = peerEntry s p := by simp only [peerEntry, objNum, Machine.objVal, hod, h.1]
  have hstate : peerState t p = peerState s p := by
    simp only [peerState, peerValid, hentry, peer?, hid, hpeers] <;> rfl
  simp only [Machine.peerCode, peerValid, peerMask, hentry, hstate, hid] <;> rfl

theorem SameBut.runsHeld (h : SameBut L s t) (hl : .entries ∉ L) {rs : List Run} :
    Machine.runsHeld t rs = Machine.runsHeld s rs := by
  have he : t.trans.banks = s.trans.banks := congrArg Prod.fst (h.2.2 .entries hl : t.trans.entriesPart = s.trans.entriesPart)
  rw [Machine.runsHeld, he, Machine.runsHeld]

theorem SameBut.atsMissing (h : SameBut L s t) (hl : ∀ p ∈ [StatePart.fnCfg, .ats], p ∉ L) {pasid : BitVec 20} {a n : Nat}
    {w : Bool} : Machine.atsMissing t g pasid a n w = Machine.atsMissing s g pasid a n w := by
  have hats : (Machine.getPort t (portOf g)).ats = (Machine.getPort s (portOf g)).ats :=
    congrArg Prod.fst (h.port_ats (hl _ (by decide)) (portOf g))
  simp only [Machine.atsMissing, atsUnits, atsFind, stuBytes, h.fn_fnCfg (hl _ (by decide)), hats]

theorem SameBut.runMeets (h : SameBut L s t) (hl : ∀ p ∈ [StatePart.od, .fnCfg, .ats, .ctxs, .peers, .windows], p ∉ L)
    {side : Nat} {r : Run} : Machine.runMeets t x y g side r = Machine.runMeets s x y g side r := by
  have hops : Machine.opsOfCmd t x.ctx x.q = Machine.opsOfCmd s x.ctx x.q := h.opsOfCmd (hl _ (by decide))
  have hcode (p : PackageId) : Machine.peerCode t p = Machine.peerCode s p :=
    h.peerCode fun p hp => hl p ((by decide : [StatePart.od, .peers] ⊆ _) hp)
  have hats (p : BitVec 20) (a n : Nat) (w : Bool) : Machine.atsMissing t g p a n w = Machine.atsMissing s g p a n w :=
    h.atsMissing fun p hp => hl p ((by decide : [StatePart.fnCfg, .ats] ⊆ _) hp)
  simp only [Machine.runMeets, windowMeets, replaying, hops, hcode, hats, h.fn_fnCfg (hl _ (by decide)),
    h.fixed? (hl _ (by decide))] <;> rfl

theorem SameBut.tileMeets (h : SameBut L s t) (hl : ∀ p ∈ [StatePart.od, .fnCfg, .ats, .ctxs, .peers, .windows], p ∉ L)
    {tl : Tile} : Machine.tileMeets t x y g tl = Machine.tileMeets s x y g tl := by
  simp only [Machine.tileMeets, h.runMeets hl]

/-! ### Operations that are answered (R273 to R275) -/

theorem modSend_sameBut {f : SendOp → SendOp} : SameBut [.windows] s (modSend o f s) :=
  modSend_frame (by decide) (SameBut.refl _ s)

/-- What two states have alike they have alike after the same change of an operation. -/
theorem SameBut.modSend (h : SameBut L s t) (hl : .windows ∉ L) {f : SendOp → SendOp} :
    SameBut L (Machine.modSend o f s) (Machine.modSend o f t) := by
  have hw : t.win.windowsPart = s.win.windowsPart := h.2.2 .windows hl
  simp only [WinSt.windowsPart, Prod.mk.injEq] at hw
  obtain ⟨htable, hserial, hsends, hrest⟩ := hw
  refine ⟨h.1, h.2.1, fun p hp => ?_⟩
  cases p with
  | windows =>
    show (_, _, _, _) = (_, _, _, _)
    simp only [Machine.modSend, htable, hserial, hsends, Prod.mk.injEq, true_and]
    exact hrest
  | _ => exact h.2.2 _ hp

theorem sends_modSend {f : SendOp → SendOp} :
    (modSend o f s).win.sends = s.win.sends.map fun x => if x = o then f x else x := by
  simp [modSend]

theorem withFrame_taken {s1 : State} (h1 : takeFrame h true s = (some s1, s1)) {act : State → State} :
    withFrame h act s = act s1 := by rw [withFrame, h1]

theorem takeFrame_gtc {s1 : State} {b : Bool} (h1 : takeFrame h b s = (some s1, s1)) : s1.gtc = s.gtc :=
  (takeFrame_some_frame (L := [.counters, .int, .peers, .out]) (by decide) (SameBut.refl _ s) h1).2.2 .gtc (by decide)

theorem countFn_sameBut {n : Nat} : SameBut [.counters, .int] s (countFn g n s) := countFn_frame (by decide) (SameBut.refl _ s)

theorem countDeny_some (hcx : ctx? s o.ctx = some cx) : countDeny (some o) s = countFn cx.fn 0x0F s := by
  simp [countDeny, hcx]

/-- A DENY that names no operation is counted for some function (R275). -/
theorem countDeny_counts : ∃ g : Fun, Counted s (countDeny none s) (0xD100 + g.val) 15 :=
  ⟨_, (counted_count (draw s) _ 15).of_counters rfl⟩

theorem countDeny_sameBut : SameBut [.counters, .int, .draws] s (countDeny none s) :=
  countFn_frame (by decide) ⟨rfl, rfl, fun p hp => by cases p <;> simp_all [StatePart.same, draw]⟩

theorem sendOp_key {p : SendOp → Bool} (ho : sendOp? s h p = some o) : o ∈ s.win.sends ∧ o.peer = h.src := by
  refine ⟨List.mem_of_find?_eq_some ho, ?_⟩
  have hkey := List.find?_some ho
  simp only [Bool.and_eq_true, beq_iff_eq] at hkey
  obtain ⟨⟨⟨⟨⟨hpeer, -⟩, -⟩, -⟩, -⟩, -⟩ := hkey
  exact hpeer

/-- A changed operation of a command stands in its place among the command's operations. -/
theorem opsOfCmd_modSend {d : SendOp} (hc : d.ctx = o.ctx) (hq : d.q = o.q) :
    opsOfCmd (modSend o (fun _ => d) s) c q = (opsOfCmd s c q).map fun x => if x = o then d else x := by
  rw [opsOfCmd, sends_modSend, List.filter_map, opsOfCmd]
  congr 1
  refine List.filter_congr fun x _ => ?_
  by_cases hx : x = o
  · subst hx; simp [hc, hq]
  · simp [hx]

/-- The operation as it stands once its denial is noted (R275). -/
def deniedOp (s : State) (code : Nat) (o : SendOp) : SendOp := { o with phase := 5, denied := some (code, opVa s o) }

/-- The operand of a command without tiles is lost with BAD_COMMAND at a denial, and nothing but the function's failed
windows are counted (R275). -/
theorem denialFaults_operand (hx : cmd? s c q = some x) (hcx : ctx? s c = some cx) (hxfer : x.xfer = none)
    (hr : cx.state = .ready) (hmay : mayIssue s c = true) (hheld : packageHeld s = false)
    (hd : ∃ d ∈ opsOfCmd s c q, d.denied.isSome = true) :
    LostFor s (denialFaults c q s) c .badCommand ∧ CountsKept 15 s (denialFaults c q s) := by
  obtain ⟨rfl, rfl⟩ := cmd_key hx
  obtain ⟨d, hmem, hden⟩ := hd
  obtain ⟨va, hva⟩ : ∃ va, ((opsOfCmd s x.ctx x.q).findSome? fun o => o.denied.map (·.2)) = some va :=
    Option.isSome_iff_exists.1 (List.findSome?_isSome_iff.2 ⟨d, hmem, by simpa using hden⟩)
  have hrun : denialFaults x.ctx x.q s = windowBarred x cx va .write s := by
    unfold denialFaults
    simp [hx, hcx, hxfer, hva, hmay, hheld]
  have hsame : SameBut [.counters, .int] s (countFn cx.fn 0x08 s) := countFn_sameBut
  rw [hrun]
  refine ⟨?_, ?_⟩
  · exact (faultCmd_lost ((hsame.ctx? (by decide)).trans hcx) hr).congr (hsame.2.2 .gtc (by decide)) rfl
  · exact (count_countsKept (by decide) (by decide) (by decide)).trans (faultCmd_countsKept ⟨by decide, by decide⟩)

/-! ### Tiles that fault (R232, R240) -/

/-- The record of a tile that faults in `s` (R240). -/
def tileRecord (s : State) (x : Cmd) (y : Xfer) (g : Fun) (code : TCode) (side : Nat) (need : Need) (va : Nat) : FaultRec :=
  { id := (getFn s g).faultq.nextId, code := code, side := side, need := need, ctx := x.ctx, opcode := hdrOpcode x.raw,
    q := x.q, tag := x.tag.getD 0xFFFF, va := va, resume := y.next, count := tileCount x.raw, gtc := s.gtc,
    data := w64 (hdrData x.raw), written := 0 }

/-- The denial that made a tile fault is named in RemoteDenyLast (R275). -/
def noteDeny (g : Fun) (id : U32) (deny : Option (Nat × PackageId)) (s : State) : State :=
  match deny with
  | some d => modFn g (fun z => { z with remoteDeny := w64 (id.toNat * 2 ^ 32 + d.1 * 2 ^ 24 + d.2.toNat * 2 ^ 12) }) s
  | none => s

/-- The function has numbered the fault of a tile whose operations are over, noted the denial and counted it. -/
def faultNumbered (x : Cmd) (g : Fun) (deny : Option (Nat × PackageId)) (s : State) : State :=
  countFn g 0x0A (noteDeny g (getFn s g).faultq.nextId deny
    (modFaultq g (fun z => { z with nextId := nextFaultId z.nextId }) (cancelOps x.ctx x.q (x.tag.getD 0xFFFF) s)))

theorem noteDeny_sameBut {id : U32} {deny : Option (Nat × PackageId)} : SameBut [.fnOther] s (noteDeny g id deny s) := by
  unfold noteDeny
  split
  · exact modFn_frame (.inl fun _ => rfl) (.inl fun _ => rfl) (.inl fun _ => rfl) (.inl fun _ => rfl) (.inl fun _ => rfl)
      (.inl fun _ => rfl) (.inl fun _ => rfl) (.inr (by decide)) (SameBut.refl _ s)
  · exact SameBut.refl _ s

theorem faultNumbered_sameBut {deny : Option (Nat × PackageId)} : SameBut
    [.peers, .windows, .out, .faultq, .fnOther, .counters, .int] s (faultNumbered x g deny s) := by
  have hcancel : SameBut [.peers, .windows, .out, .faultq, .fnOther, .counters, .int] s
      (cancelOps x.ctx x.q (x.tag.getD 0xFFFF) s) := cancelOps_frame (by decide) (SameBut.refl _ s)
  have hnumber := modFaultq_frame (g := g) (f := fun z => { z with nextId := nextFaultId z.nextId }) (by decide) hcancel
  exact countFn_frame (by decide) (hnumber.trans (noteDeny_sameBut.mono (by decide)))

theorem faultNumbered_fn (hfns : s.fns.length = 32) {deny : Option (Nat × PackageId)} :
    (getFn (faultNumbered x g deny s) g).faultq.waiting = (getFn s g).faultq.waiting ∧
      ∀ d, deny = some d → (getFn (faultNumbered x g deny s) g).remoteDeny =
        w64 ((getFn s g).faultq.nextId.toNat * 2 ^ 32 + d.1 * 2 ^ 24 + d.2.toNat * 2 ^ 12) := by
  have hcancel : SameBut [.peers, .windows, .out] s (cancelOps x.ctx x.q (x.tag.getD 0xFFFF) s) :=
    cancelOps_frame (by decide) (SameBut.refl _ s)
  have hfn := hcancel.getFn (by decide) g
  have hlen := (hcancel.fns_length (by decide)).trans hfns
  have hcount : SameBut [.counters, .int] _ (faultNumbered x g deny s) := countFn_sameBut
  refine ⟨?_, fun d hd => ?_⟩
  · rw [hcount.fn_faultq (by decide) g, noteDeny_sameBut.fn_faultq (by decide) g, getFn_modFaultq hlen, hfn]
  · rw [show (getFn (faultNumbered x g deny s) g).remoteDeny = _ from
      congrArg (fun z => z.2.1) (hcount.fn_fnOther (by decide) g), hd]
    simp only [noteDeny]
    rw [getFn_modFn (by simpa [modFaultq, modFn] using hlen)]

theorem faultNumbered_countsKept {n : Nat} (hn : n < 256) (hne : n ≠ 10) {deny : Option (Nat × PackageId)} :
    CountsKept n s (faultNumbered x g deny s) := by
  have hsame : SameBut [.peers, .windows, .out, .faultq, .fnOther] s (noteDeny g (getFn s g).faultq.nextId deny
      (modFaultq g (fun z => { z with nextId := nextFaultId z.nextId }) (cancelOps x.ctx x.q (x.tag.getD 0xFFFF) s))) :=
    (modFaultq_frame (by decide) (cancelOps_frame (by decide) (SameBut.refl _ s))).trans (noteDeny_sameBut.mono (by decide))
  exact (hsame.countsKept (by decide)).trans (count_countsKept hn (by decide) (Ne.symm hne))

/-- A tile of a READY context whose fault queue runs and has room becomes faulted, and its record waits for the ring
(R232, R240). -/
theorem tileFault_records {code : TCode} {side va : Nat} {need : Need} {deny : Option (Nat × PackageId)}
    (hx : cmd? s c q = some x) (hcx : ctx? s c = some cx) (hy : x.xfer = some y) (hr : cx.state = .ready)
    (hruns : faultqRuns (getFn s cx.fn).faultq = true) (hfull : faultqFull (getFn s cx.fn).faultq = false) :
    tileFault c q code side need va deny s = modCmd c q (fun z => { z with
      xfer := z.xfer.map fun w => { w with faulted := some (getFn s cx.fn).faultq.nextId, tile := none, atsDenied := none } })
      (modFaultq cx.fn (fun z => { z with waiting := z.waiting ++ [tileRecord s x y cx.fn code side need va] })
        (faultNumbered x cx.fn deny s)) := by
  obtain ⟨rfl, rfl⟩ := cmd_key hx
  have hcancel : SameBut [.peers, .windows, .out] s (cancelOps x.ctx x.q (x.tag.getD 0xFFFF) s) :=
    cancelOps_frame (by decide) (SameBut.refl _ s)
  have hfn := hcancel.getFn (by decide) cx.fn
  have hgtc : (faultNumbered x cx.fn deny s).gtc = s.gtc := faultNumbered_sameBut.2.2 .gtc (by decide)
  unfold tileFault
  rw [hx, hcx]
  dsimp only
  rw [hy]
  dsimp only
  rw [if_neg (by simp [hr]), hfn, hruns, hfull, if_neg (by decide), if_neg (by decide), tileRecord, ← hgtc]
  rfl

theorem tileFault_cmd {code : TCode} {side va : Nat} {need : Need} {deny : Option (Nat × PackageId)}
    (hx : cmd? s c q = some x) (hcx : ctx? s c = some cx) (hy : x.xfer = some y) (hr : cx.state = .ready)
    (hruns : faultqRuns (getFn s cx.fn).faultq = true) (hfull : faultqFull (getFn s cx.fn).faultq = false) :
    cmd? (tileFault c q code side need va deny s) c q = some { x with
      xfer := some { y with faulted := some (getFn s cx.fn).faultq.nextId, tile := none, atsDenied := none } } := by
  rw [tileFault_records hx hcx hy hr hruns hfull]
  have hcmd : cmd? (modFaultq cx.fn (fun z => { z with waiting := z.waiting ++ [tileRecord s x y cx.fn code side need va] })
      (faultNumbered x cx.fn deny s)) c q = some x := by
    exact (cmd_congr (s := faultNumbered x cx.fn deny s) rfl).trans ((faultNumbered_sameBut.cmd? (by decide)).trans hx)
  refine (cmd_modCmd_some hcmd (by exact fun _ => ⟨rfl, rfl⟩)).trans ?_
  rw [hy]
  rfl

theorem tileFault_fn (hfns : s.fns.length = 32) {code : TCode} {side va : Nat} {need : Need}
    {deny : Option (Nat × PackageId)} (hx : cmd? s c q = some x) (hcx : ctx? s c = some cx) (hy : x.xfer = some y)
    (hr : cx.state = .ready) (hruns : faultqRuns (getFn s cx.fn).faultq = true)
    (hfull : faultqFull (getFn s cx.fn).faultq = false) :
    (getFn (tileFault c q code side need va deny s) cx.fn).faultq.waiting =
        (getFn s cx.fn).faultq.waiting ++ [tileRecord s x y cx.fn code side need va] ∧
      ∀ d, deny = some d → (getFn (tileFault c q code side need va deny s) cx.fn).remoteDeny =
        w64 ((getFn s cx.fn).faultq.nextId.toNat * 2 ^ 32 + d.1 * 2 ^ 24 + d.2.toNat * 2 ^ 12) := by
  rw [tileFault_records hx hcx hy hr hruns hfull]
  have hlen : (faultNumbered x cx.fn deny s).fns.length = 32 := (faultNumbered_sameBut.fns_length (by decide)).trans hfns
  obtain ⟨hwaiting, hdeny⟩ := faultNumbered_fn (x := x) (g := cx.fn) (deny := deny) hfns
  have hget (f : Cmd → Cmd) (u : State) : getFn (modCmd c q f u) cx.fn = getFn u cx.fn := rfl
  rw [hget, getFn_modFaultq hlen]
  exact ⟨congrArg (· ++ _) hwaiting, hdeny⟩

theorem tileFault_countsKept {n : Nat} (hn : n < 256) (hne : n ≠ 10) {code : TCode} {side va : Nat} {need : Need}
    {deny : Option (Nat × PackageId)} (hx : cmd? s c q = some x) (hcx : ctx? s c = some cx) (hy : x.xfer = some y)
    (hr : cx.state = .ready) (hruns : faultqRuns (getFn s cx.fn).faultq = true)
    (hfull : faultqFull (getFn s cx.fn).faultq = false) : CountsKept n s (tileFault c q code side need va deny s) := by
  rw [tileFault_records hx hcx hy hr hruns hfull]
  exact (faultNumbered_countsKept hn hne).trans (.of_eq rfl)

/-- A tile not yet begun whose denial is the first thing that it meets faults with it at once (R232, R275). -/
theorem denialFaults_tile {tl : Tile} {side va : Nat} (hx : cmd? s c q = some x) (hcx : ctx? s c = some cx)
    (hy : x.xfer = some y) (htl : y.tile = some tl) (hbegun : tl.begun = false) (hmay : mayIssue s c = true)
    (hheld : packageHeld s = false) (hruns : runsHeld s (tl.src ++ tl.dst) = true)
    (hmeets : tileMeets s x y cx.fn tl = some (side, .faults .remoteDenied va)) :
    denialFaults c q s = tileFault c q .remoteDenied side (sideNeed x.raw side) va (denyOf s x (sideNeed x.raw side) va)
      (countFn cx.fn 0x08 s) := by
  obtain ⟨rfl, rfl⟩ := cmd_key hx
  unfold denialFaults
  rw [hx, hcx]
  dsimp only
  rw [hy]
  dsimp only
  rw [htl]
  dsimp only
  rw [if_neg (by simp [hbegun, hmay, hheld, hruns]), hmeets]
  simp only [tileStops, hcx]

/-- The only operation of a command, once it is denied, names the denial of its tile. -/
theorem denyOf_denied {code : Nat} {need : Need} (hneed : o.need = need)
    (hone : opsOfCmd s x.ctx x.q = [o]) :
    denyOf (modSend o (fun _ => deniedOp s code o) s) x need (opVa s o) = some (code, o.peer) := by
  rw [denyOf, opsOfCmd_modSend (by exact rfl) (by exact rfl), hone]
  simp [deniedOp, hneed]

/-- On the loopback a DONE acknowledges itself (R274). -/
def loopbackDone (h : FrameHdr) (s : State) : State :=
  if h.src == s.win.localId && h.access == 3 then { s with win := { s.win with
    history := s.win.history.filter fun c => !(c.src == h.src && c.serial == h.serial && c.tile == h.tileIndex) } } else s

theorem loopbackDone_sends : (loopbackDone h s).win.sends = s.win.sends := by
  unfold loopbackDone
  split <;> rfl

theorem doneArrives_ends (ho : sendOp? s h (fun o => o.need != .read && o.phase != 3) = some o) :
    doneArrives h s = modSend o (fun x => { x with phase := 3, denied := none }) (loopbackDone h s) := by
  have hop : sendOp? (loopbackDone h s) h (fun o => o.need != .read && o.phase != 3) = some o := by
    rw [sendOp?, loopbackDone_sends, ← sendOp?, ho]
  unfold doneArrives
  dsimp only
  rw [← loopbackDone, hop]

end WindowSender

/-- Settles O39: an answer by the one operation that it names, a denial by the tile or the operand that meets it. -/
theorem windowSender : Obligations.WindowSender := by
  unfold Obligations.WindowSender
  intro s hinv
  refine ⟨fun h s1 h1 => ⟨fun o ho => ?accept, fun o x cx ho hx hcx => ⟨fun hbusy => ?busy,
      fun hcode hxfer hr hmay hheld => ?operand,
      fun y tl side hcode hy htl hbegun hmay hheld hr hruns hone hneed hruns' hfull hmeets => ?tile⟩,
      fun hnone => ?unmatched, fun o b ho hcode => ?data,
      fun o b x cx ho hcode hx hcx hr => ⟨fun hmay => ?poisonLoses, fun hmay => ?poisonWaits⟩, fun o ho => ?done⟩,
    fun p w serial tile o x ho hx => ?retry⟩
  case accept =>
    refine ⟨_, congrArg Host.Outcome.next (withFrame_taken h1), ?_⟩
    simp only [ho]
    exact sends_modSend
  case busy =>
    have hcount : SameBut [.counters, .int] s1 (countFn cx.fn 0x0F s1) := countFn_sameBut
    have hgtc : (countFn cx.fn 0x0F s1).gtc = s.gtc := (hcount.2.2 .gtc (by decide)).trans (takeFrame_gtc h1)
    have hrun : denyArrives h s1 = modSend o (fun y => { y with phase := 4, since := (countFn cx.fn 0x0F s1).gtc })
        (countFn cx.fn 0x0F s1) := by
      simp only [denyArrives, ho, countDeny_some hcx, hbusy, if_true]
    refine Gives.of_eq (congrArg Host.Outcome.next (withFrame_taken h1)) hrun ⟨?_, ?_⟩
    · exact (counted_count s1 _ 15).kept (.of_eq rfl)
    · rw [sends_modSend, hcount.sends (by decide), hgtc]
  case operand =>
    have hcount : SameBut [.counters, .int] s1 (countFn cx.fn 0x0F s1) := countFn_sameBut
    obtain ⟨hmem, -⟩ := sendOp_key ho
    obtain ⟨hc, hq⟩ := cmd_key hx
    have hrun : denyArrives h s1 = denialFaults o.ctx o.q (modSend o (fun _ => deniedOp (countFn cx.fn 0x0F s1) h.code o)
        (countFn cx.fn 0x0F s1)) := by
      simp only [denyArrives, ho, countDeny_some hcx, if_neg hcode, denyTaken, deniedOp]
    have hsame : SameBut [.counters, .int, .windows] s1 (modSend o (fun _ => deniedOp (countFn cx.fn 0x0F s1) h.code o)
        (countFn cx.fn 0x0F s1)) := (hcount.mono (by decide)).trans (modSend_sameBut.mono (by decide))
    have hd : ∃ d ∈ opsOfCmd (modSend o (fun _ => deniedOp (countFn cx.fn 0x0F s1) h.code o) (countFn cx.fn 0x0F s1))
        o.ctx o.q, d.denied.isSome = true := by
      rw [opsOfCmd_modSend (by exact rfl) (by exact rfl)]
      refine ⟨_, List.mem_map_of_mem (a := o) ?_, ?_⟩
      · simpa [opsOfCmd, hcount.sends (by decide)] using hmem
      · simp [deniedOp]
    obtain ⟨hlost, hkept⟩ := denialFaults_operand ((hsame.cmd? (by decide)).trans hx) ((hsame.ctx? (by decide)).trans hcx)
      hxfer hr ((hsame.mayIssue (by decide)).trans hmay) ((hsame.packageHeld (by decide)).trans hheld) hd
    refine Gives.of_eq (congrArg Host.Outcome.next (withFrame_taken h1)) hrun ⟨?_, ?_⟩
    · exact (counted_count s1 _ 15).kept ((CountsKept.of_eq rfl).trans hkept)
    · exact hlost.congr ((hsame.2.2 .gtc (by decide)).trans (takeFrame_gtc h1)) rfl
  case tile =>
    have hcount : SameBut [.counters, .int] s1 (countFn cx.fn 0x0F s1) := countFn_sameBut
    obtain ⟨-, hpeer⟩ := sendOp_key ho
    obtain ⟨hc, hq⟩ := cmd_key hx
    have hva : opVa (countFn cx.fn 0x0F s1) o = opVa s1 o := hcount.opVa (by decide)
    let u : State := modSend o (fun _ => deniedOp (countFn cx.fn 0x0F s1) h.code o) (countFn cx.fn 0x0F s1)
    have hdop : deniedOp s1 h.code o = deniedOp (countFn cx.fn 0x0F s1) h.code o := by rw [deniedOp, deniedOp, hva]
    have hnoted : SameBut [.counters, .int] (modSend o (fun _ => deniedOp s1 h.code o) s1) u := by
      rw [hdop]; exact hcount.modSend (by decide)
    have hsame : SameBut [.counters, .int, .windows] s1 u := (hcount.mono (by decide)).trans (modSend_sameBut.mono (by decide))
    have hx' : cmd? u o.ctx o.q = some x := (hsame.cmd? (by decide)).trans hx
    have hcx' : ctx? u o.ctx = some cx := (hsame.ctx? (by decide)).trans hcx
    have hmeets' : tileMeets u x y cx.fn tl = some (side, .faults .remoteDenied (opVa s1 o)) :=
      (hnoted.tileMeets (by decide)).trans hmeets
    have hdeny : denyOf u x (sideNeed x.raw side) (opVa s1 o) = some (h.code, o.peer) := by
      rw [← hva]
      refine denyOf_denied hneed ?_
      rw [hc, hq, hcount.opsOfCmd (by decide), hone]
    have hrun : denyArrives h s1 = tileFault o.ctx o.q .remoteDenied side (sideNeed x.raw side) (opVa s1 o)
        (some (h.code, o.peer)) (countFn cx.fn 0x08 u) := by
      rw [← hdeny, ← denialFaults_tile hx' hcx' hy htl hbegun ((hsame.mayIssue (by decide)).trans hmay)
        ((hsame.packageHeld (by decide)).trans hheld) ((hsame.runsHeld (by decide)).trans hruns) hmeets']
      simp only [denyArrives, ho, countDeny_some hcx, if_neg hcode, denyTaken]
      rfl
    have hcounted : SameBut [.counters, .int, .windows] s1 (countFn cx.fn 0x08 u) :=
      hsame.trans (countFn_sameBut.mono (by decide))
    have hfq : (getFn (countFn cx.fn 0x08 u) cx.fn).faultq = (getFn s1 cx.fn).faultq := hcounted.fn_faultq (by decide) _
    have hfns : (countFn cx.fn 0x08 u).fns.length = 32 := (hcounted.fns_length (by decide)).trans
      (((takeFrame_some_frame (L := [.counters, .int, .peers, .out]) (by decide) (SameBut.refl _ s) h1).fns_length
        (by decide)).trans hinv.fns)
    have hx'' := (hcounted.cmd? (c := o.ctx) (q := o.q) (by decide)).trans hx
    have hcx'' := (hcounted.ctx? (c := o.ctx) (by decide)).trans hcx
    have hrun'' := (congrArg faultqRuns hfq).trans hruns'
    have hfull'' := (congrArg faultqFull hfq).trans hfull
    refine Gives.of_eq (congrArg Host.Outcome.next (withFrame_taken h1)) hrun ⟨?_, ?_, ?_, ?_⟩
    · exact (counted_count s1 _ 15).kept ((CountsKept.of_eq rfl).trans
        ((count_countsKept (s := u) (by decide) (by decide) (by decide)).trans
          (tileFault_countsKept (by decide) (by decide) hx'' hcx'' hy hr hrun'' hfull'')))
    · rw [(tileFault_fn hfns hx'' hcx'' hy hr hrun'' hfull'').2 _ rfl, hfq, hpeer]
    · refine ⟨_, _, tileFault_cmd hx'' hcx'' hy hr hrun'' hfull'', rfl, ?_, rfl⟩
      rw [hfq]
    · refine ⟨_, ((tileFault_fn hfns hx'' hcx'' hy hr hrun'' hfull'').1).trans (congrArg (·.waiting ++ _) hfq), ?_, rfl, rfl, rfl⟩
      exact congrArg FaultQ.nextId hfq
  case unmatched =>
    obtain ⟨g, hcounted⟩ := countDeny_counts (s := s1)
    have hwin : (countDeny none s1).win = s1.win := countDeny_sameBut.win_eq (by decide)
    refine Gives.of_eq (congrArg Host.Outcome.next (withFrame_taken h1)) ?_ ⟨hwin, g, hcounted⟩
    simp only [denyArrives, hnone]
  case data =>
    refine Gives.of_eq (congrArg Host.Outcome.next (withFrame_taken h1)) ?_ sends_modSend
    simp only [takeReadData, ho, if_neg hcode]
  case poisonLoses =>
    have hrun : takeReadData h b s1 = enter (.poison o.ctx o.q (opVa s1 o)) s1 := by
      simp only [takeReadData, ho, if_pos hcode, poisonArrives, if_pos hmay]
    exact Gives.of_eq (congrArg Host.Outcome.next (withFrame_taken h1)) hrun
      ((faultCmd_lost hcx hr).congr (takeFrame_gtc h1) rfl)
  case poisonWaits =>
    have hrun : takeReadData h b s1 =
        { s1 with det := { s1.det with arrivals := s1.det.arrivals ++ [.poison o.ctx o.q (opVa s1 o)] } } := by
      simp only [takeReadData, ho, if_pos hcode, poisonArrives, hmay, Bool.false_eq_true, if_false]
    exact Gives.of_eq (congrArg Host.Outcome.next (withFrame_taken h1)) hrun ⟨rfl, hcx⟩
  case done =>
    refine Gives.of_eq (congrArg Host.Outcome.next (withFrame_taken h1)) (doneArrives_ends ho) ?_
    rw [sends_modSend, loopbackDone_sends]
  case retry =>
    have hrun : exec (.denyBusyRetry p w serial tile) s = .next (sendCheck o x (modSend o (fun y => { y with phase := 0 }) s)) := by
      refine congrArg Host.Outcome.next ?_
      rw [ho]
      dsimp only
      rw [hx]
    have hcheck : SameBut [.peers, .out] (modSend o (fun y => { y with phase := 0 }) s)
        (sendCheck o x (modSend o (fun y => { y with phase := 0 }) s)) := sendCheck_frame (by decide) (SameBut.refl _ _)
    refine ⟨_, hrun, (modSend_sameBut.mono (by decide)).trans (hcheck.mono (by decide)), ?_⟩
    rw [hcheck.sends (by decide)]
    exact sends_modSend

end Sys2Proof.Machine
end

section
/-!
SUPPORT and CLAIM. The memory-side island's own work (09_memory_pool, R298 to R310): what logging and remapping a row
leaves unchanged, and the obligation O43.
-/
namespace Sys2Proof.Machine

section PoolMaintenance
variable {s t u v : State} {e : Src} {i : ErrInfo} {n row line : Nat}

/-! ### Work on a row (R299, R302) -/

/-- What logging a row and starting its remap leave: the poison directory, the counters that no event counts, and the
count of every source but POOL_SPARES_EXHAUSTED. -/
def RowWork (s t : State) : Prop :=
  t.pool.poison = s.pool.poison ∧ (∀ n, Uncounted n → CountsKept n s t) ∧
    t.err.wireFaults = s.err.wireFaults ∧ ∀ e, e ≠ .poolSparesExhausted → errCount t e = errCount s e

theorem RowWork.refl (s : State) : RowWork s s := ⟨rfl, fun _ _ => .refl s, rfl, fun _ _ => rfl⟩

theorem RowWork.trans (h : RowWork s t) (k : RowWork t u) : RowWork s u := by
  obtain ⟨hpoison, hcounts, hwires, herr⟩ := h
  obtain ⟨kpoison, kcounts, kwires, kerr⟩ := k
  exact ⟨kpoison.trans hpoison, fun n hn => (hcounts n hn).trans (kcounts n hn), kwires.trans hwires,
    fun e he => (kerr e he).trans (herr e he)⟩

theorem RowWork.of_eq (hpoison : t.pool.poison = s.pool.poison) (hcounters : t.counters = s.counters) (herr : t.err = s.err) :
    RowWork s t := ⟨hpoison, fun _ _ => .of_eq hcounters, by rw [herr], fun e _ => by rw [errCount, herr, errCount]⟩

/-- The error that names the spares of a stack used up. -/
theorem raiseExhausted_rowWork : RowWork s (raiseError .poolSparesExhausted i s) := by
  have hsame : SameBut [.od, .stored, .counters, .mgmt, .links, .intx, .fnCfg, .int, .capture, .err, .power, .out] s
      (raiseError .poolSparesExhausted i s) := raiseWith_sameBut
  exact ⟨congrArg (·.2.2.2.2.1) (hsame.2.2 .pool (by decide)), fun _ hn => raiseError_countsKept hn, raiseError_wireFaults,
    fun _ he => errCount_raiseError_other he⟩

theorem putObj_countsKept {ref : Ref} {w : Val} (hn : Uncounted n) : CountsKept n s (putObj ref w s) := by
  obtain ⟨hn, hmem⟩ := hn
  have hset : CountsKept n s (setObj ref.index ref.sub w s) := .of_eq rfl
  have hrecord : CountsKept n s (writeRecord ref w (setObj ref.index ref.sub w s)) :=
    .trans (.of_eq rfl) (count_countsKept hn (by decide) fun h => hmem (h ▸ by decide))
  unfold putObj
  dsimp only
  split
  · split
    · exact hrecord
    · exact hset
  · exact hset

theorem putObj_rowWork {ref : Ref} {w : Val} : RowWork s (putObj ref w s) := by
  have hsame : SameBut [.od, .stored, .counters, .mgmt, .int] s (putObj ref w s) := putObj_frame (by decide) (SameBut.refl _ s)
  have herr := hsame.2.2 .err (by decide)
  exact ⟨congrArg (·.2.2.2.2.1) (hsame.2.2 .pool (by decide)), fun _ hn => putObj_countsKept hn,
    congrArg ErrSt.wireFaults herr, fun e _ => congrArg (fun x : ErrSt => (assocGet x.counts (srcCode e)).getD 0) herr⟩

theorem logRow_rowWork : RowWork s (logRow row s) := by
  unfold logRow
  dsimp only
  split
  · exact .refl s
  · split
    · exact raiseExhausted_rowWork
    · exact putObj_rowWork

theorem sparesExhausted_rowWork : RowWork s (sparesExhausted row s) := by
  unfold sparesExhausted
  split
  · exact .refl s
  · let s1 : State := { s with pool := { s.pool with exhausted := s.pool.exhausted ++ [row] } }
    have hnoted : RowWork s s1 := .of_eq rfl rfl rfl
    exact hnoted.trans raiseExhausted_rowWork

theorem startRemap_rowWork {from_ bad : List (Nat × Nat)} : RowWork s (startRemap row from_ bad s).1 := by
  unfold startRemap
  split
  · exact .of_eq rfl rfl rfl
  · split
    · exact sparesExhausted_rowWork
    · have hback : SameBut [.memory, .out] s (writeBack row 2048 s) := writeBack_frame (by decide) (SameBut.refl _ s)
      exact .of_eq (congrArg (·.2.2.2.2.1) (hback.2.2 .pool (by decide))) (hback.2.2 .counters (by decide))
        (hback.2.2 .err (by decide))

theorem remapFrom_rowWork {from_ bad : List (Nat × Nat)} : RowWork s (remapFrom row from_ bad s) := by
  unfold remapFrom
  dsimp only
  split
  · exact startRemap_rowWork
  · exact startRemap_rowWork.trans logRow_rowWork

theorem countPackage_countsKept {m : Nat} (hn : n < 256) (hm : m < 256) (hne : m ≠ n) : CountsKept n s (countPackage m s) :=
  count_countsKept hn hm hne

/-- An error that is raised between work on rows is counted at its source. -/
theorem Raised.around (h : Raised t u e) (hwires : t.err.wireFaults = s.err.wireFaults)
    (hbefore : errCount t e = errCount s e) (hafter : errCount v e = errCount u e) : Raised s v e := by
  intro hwhole hlt
  rw [hafter, h (by rwa [hwires]) (by rwa [hbefore]), hbefore]

theorem Counted.after_kept {index : Nat} (h : Counted t u index n) (k : CountsKept n s t) : Counted s u index n := by
  rw [Counted, ← k]
  exact h

/-! ### Lines that are read (R298 to R304) -/

/-- A line that is not poisoned becomes so while the directory has room, and its error is raised; with a full directory
it stays unrecorded and POISON_DIRECTORY_FULL is raised too (R300). -/
theorem poisonLine_poisons (hline : line ∉ s.pool.poison) :
    Raised s (poisonLine line i s) .poolLinePoisoned ∧ (∀ n, Uncounted n → CountsKept n s (poisonLine line i s)) ∧
      (s.pool.poison.length < 65536 → (poisonLine line i s).pool.poison = insertNat line s.pool.poison) ∧
      (65536 ≤ s.pool.poison.length → (poisonLine line i s).pool.poison = s.pool.poison ∧
        Raised s (poisonLine line i s) .poisonDirectoryFull) := by
  have hpool {e : Src} {t : State} : (raiseError e i t).pool.poison = t.pool.poison :=
    congrArg (·.2.2.2.2.1) (raiseWith_sameBut.2.2 .pool (by decide))
  by_cases hfull : 65536 ≤ s.pool.poison.length
  · obtain ⟨hpoison, hcounts, hwires, herr⟩ := logRow_rowWork (s := s) (row := rowBase line)
    have hrun : poisonLine line i s =
        raiseError .poisonDirectoryFull i (raiseError .poolLinePoisoned i (logRow (rowBase line) s)) := by
      simp only [poisonLine, List.contains_iff_mem, hline, if_false, hfull, decide_true, if_true]
    rw [hrun]
    refine ⟨?_, fun n hn => ?_, fun h => absurd hfull (by omega), fun _ => ⟨?_, ?_⟩⟩
    · exact raised_raiseError.around hwires (herr _ (by decide)) (errCount_raiseError_other (by decide))
    · exact ((hcounts n hn).trans (raiseError_countsKept hn)).trans (raiseError_countsKept hn)
    · rw [hpool, hpool, hpoison]
    · refine raised_raiseError.around (raiseError_wireFaults.trans hwires) ?_ rfl
      exact (errCount_raiseError_other (by decide)).trans (herr _ (by decide))
  · let s1 : State := { s with pool := { s.pool with poison := insertNat line s.pool.poison } }
    obtain ⟨hpoison, hcounts, hwires, herr⟩ := logRow_rowWork (s := s1) (row := rowBase line)
    have hrun : poisonLine line i s = raiseError .poolLinePoisoned i (logRow (rowBase line) s1) := by
      simp only [poisonLine, List.contains_iff_mem, hline, if_false, hfull, decide_false, Bool.false_eq_true, s1]
    rw [hrun]
    refine ⟨?_, fun n hn => ?_, fun _ => ?_, fun h => absurd h hfull⟩
    · exact raised_raiseError.around hwires (herr _ (by decide)) rfl
    · exact (CountsKept.trans (.of_eq rfl) (hcounts n hn)).trans (raiseError_countsKept hn)
    · rw [hpool, hpoison]

theorem mem_insertNat_of_ne {m : Nat} {l : List Nat} (h : m ≠ n) : m ∈ insertNat n l ↔ m ∈ l := by
  induction l with
  | nil => simp [insertNat, h]
  | cons a l ih =>
    rw [insertNat]
    split
    · simp [h]
    · split
      · rfl
      · simp [ih]

/-- A reader that is no context loses nothing at a poisoned line (R301). -/
theorem readPoison_other {who : LineReader} (h : ∀ c, who ≠ .context c) : readPoison line who s = s := by
  cases who with
  | context c => exact absurd rfl (h c)
  | _ => rfl

/-- A line whose copy in the pool cache is good, or clean, is read from its stack (R298). -/
theorem lineRead_fetches {bad : Bool} {pc mc : LineCheck} {who : LineReader} (hwho : ∀ c, who ≠ .context c)
    (hbad : bad = false ∨ assocGet s.pool.stale line = none) :
    lineRead line bad pc mc who s = fetchLine line pc mc (lineInfo s line who) s := by
  rw [lineRead, readPoison_other hwho]
  split
  · rename_i h
    rw [cacheFails, if_pos (by simpa [h] using hbad)]
  · rfl

theorem SameBut.copiesOf {L : List StatePart} (h : SameBut L s t) (hl : ∀ p ∈ [StatePart.objs, .pool], p ∉ L) :
    Machine.copiesOf t line = Machine.copiesOf s line := by
  have hobjs : t.obj.objs = s.obj.objs := h.2.2 .objs (hl _ (by decide))
  have hregions : t.pool.regions = s.pool.regions := congrArg (·.1) (h.2.2 .pool (hl _ (by decide)))
  exact copiesOf_congr hobjs hregions line

theorem SameBut.poisonable {L : List StatePart} (h : SameBut L s t) (hl : ∀ p ∈ [StatePart.objs, .pool], p ∉ L) :
    Machine.poisonable t line = Machine.poisonable s line := by
  have hobjs : t.obj.objs = s.obj.objs := h.2.2 .objs (hl _ (by decide))
  have hregions : t.pool.regions = s.pool.regions := congrArg (·.1) (h.2.2 .pool (hl _ (by decide)))
  rw [Machine.poisonable, regionAt, hobjs, hregions, Machine.poisonable, regionAt]

theorem stackRead_sameBut {copy : Nat} : SameBut [.out] s (stackRead line copy s) := emit_frame (by decide) (SameBut.refl _ s)

/-- A line of an object without a second copy that cannot be corrected is counted and poisoned (R300). -/
theorem fetchLine_loses {mc : LineCheck} (hcopy : copiesOf s line = none) (hp : poisonable s line = true) :
    fetchLine line .uncorrectable mc i s = poisonLine line i (countPackage 0x15 (stackRead line line s)) := by
  have hcopy' : copiesOf (stackRead line line s) line = none := (stackRead_sameBut.copiesOf (by decide)).trans hcopy
  have hp' : poisonable (countPackage 0x15 (stackRead line line s)) line = true :=
    (countPackage_sameBut.poisonable (by decide)).trans ((stackRead_sameBut.poisonable (by decide)).trans hp)
  unfold fetchLine
  generalize stackRead line line s = s1 at hcopy' hp' ⊢
  dsimp only
  rw [hcopy']
  exact if_pos hp'

theorem fetchLine_clean {mc : LineCheck} (hcopy : copiesOf s line = none) :
    fetchLine line .clean mc i s = stackRead line line s := by
  have hcopy' : copiesOf (stackRead line line s) line = none := (stackRead_sameBut.copiesOf (by decide)).trans hcopy
  unfold fetchLine
  generalize stackRead line line s = s1 at hcopy' ⊢
  dsimp only
  rw [hcopy']

theorem fetchLine_corrected {mc : LineCheck} (hcopy : copiesOf s line = none) :
    fetchLine line .corrected mc i s = trackRow (rowBase line) (countPackage 0x14 (stackRead line line s)) := by
  have hcopy' : copiesOf (stackRead line line s) line = none := (stackRead_sameBut.copiesOf (by decide)).trans hcopy
  unfold fetchLine
  generalize stackRead line line s = s1 at hcopy' ⊢
  dsimp only
  rw [hcopy']

theorem fetchLine_mirrored {m : Nat} (hcopy : copiesOf s line = some m) :
    fetchLine line .uncorrectable .clean i s =
        serveMirror line m i (stackRead line m (countPackage 0x15 (stackRead line line s))) ∧
      fetchLine line .uncorrectable .uncorrectable i s =
        loseCopies line m i (countPackage 0x15 (stackRead line m (countPackage 0x15 (stackRead line line s)))) := by
  have hcopy' : copiesOf (stackRead line line s) line = some m := (stackRead_sameBut.copiesOf (by decide)).trans hcopy
  unfold fetchLine
  generalize stackRead line line s = s1 at hcopy' ⊢
  dsimp only
  rw [hcopy']
  exact ⟨rfl, rfl⟩

/-- A row below its threshold is tracked and not remapped (R299). -/
theorem trackRow_below (h : (assocGet s.pool.tracker row).getD 0 + 1 < rowThreshold s) : ∃ keep, trackRow row s =
    { s with pool := { s.pool with tracker := (row, (assocGet s.pool.tracker row).getD 0 + 1) :: keep } } := by
  unfold trackRow
  extract_lets n others mine keep pool s1
  have hsame : rowThreshold s1 = rowThreshold s := rfl
  exact ⟨keep, if_neg (by rw [hsame]; omega)⟩

/-- A line that is served from its second copy is counted and raised, and nothing is poisoned (R303). -/
theorem serveMirror_serves {m : Nat} : Counted s (serveMirror line m i s) 0xD000 22 ∧
    CountsKept 21 s (serveMirror line m i s) ∧ Raised s (serveMirror line m i s) .poolMirrorServed ∧
    (serveMirror line m i s).pool.poison = s.pool.poison := by
  have hcount : SameBut [.counters, .int] s (countPackage 0x16 s) := countPackage_sameBut
  have herr : (countPackage 0x16 s).err = s.err := hcount.2.2 .err (by decide)
  have hpool {e : Src} {t : State} : (raiseError e i t).pool.poison = t.pool.poison :=
    congrArg (·.2.2.2.2.1) (raiseWith_sameBut.2.2 .pool (by decide))
  obtain ⟨hpoison, hcounts, hwires, hother⟩ := remapFrom_rowWork (row := rowBase line)
    (from_ := rowCopies s (rowBase line)) (bad := [(line, m)])
    (s := raiseError .poolMirrorServed i (countPackage 0x16 s))
  have hrun : serveMirror line m i s = remapFrom (rowBase line)
      (rowCopies s (rowBase line)) [(line, m)]
      (raiseError .poolMirrorServed i (countPackage 0x16 s)) := rfl
  rw [hrun]
  refine ⟨?_, ?_, ?_, ?_⟩
  · have hcounted : Counted s (countPackage 0x16 s) 0xD000 22 := counted_count s 0xD000 22
    exact hcounted.kept ((raiseError_countsKept ⟨by decide, by decide⟩).trans
      (hcounts 22 ⟨by decide, by decide⟩))
  · exact ((countPackage_countsKept (by decide) (by decide) (by decide)).trans
      (raiseError_countsKept ⟨by decide, by decide⟩)).trans (hcounts 21 ⟨by decide, by decide⟩)
  · exact raised_raiseError.around (congrArg ErrSt.wireFaults herr)
      (by rw [errCount, herr, errCount]) (hother _ (by decide))
  · exact hpoison.trans (hpool.trans (congrArg (·.2.2.2.2.1) (hcount.2.2 .pool (by decide))))

/-- A dirty line whose copy in the pool cache has failed is counted and poisoned (R298). -/
theorem cacheFails_loses {pc mc : LineCheck} (hdirty : (assocGet s.pool.stale line).isSome = true)
    (hcarve : inCarveOut s line = false) (hp : poisonable s line = true) :
    cacheFails line pc mc i s = poisonLine line i (countPackage 0x15 s) := by
  have hregions : (countPackage 0x15 s).pool.regions = s.pool.regions :=
    congrArg (·.1) (countPackage_sameBut.2.2 .pool (by decide))
  have hcarve' : inCarveOut (countPackage 0x15 s) line = false := by
    rw [inCarveOut, regionAt, hregions]; exact hcarve
  have hp' : poisonable (countPackage 0x15 s) line = true := (countPackage_sameBut.poisonable (by decide)).trans hp
  unfold cacheFails
  rw [if_neg (by simpa [Option.isSome_iff_ne_none] using hdirty)]
  dsimp only
  rw [if_neg (by rw [hcarve']; decide), if_pos hp']

/-! ### The end of a row's copy (R299) -/

/-- What the step of a fold for an element makes true, and the other steps keep, is true at its end, where `Q` is true of
every state on the way. -/
theorem foldState_establishes {α : Type} {P : α → State → Prop} {Q : State → Prop} {f : α → State → State}
    (hQ : ∀ a t, Q t → Q (f a t)) (hdo : ∀ a t, Q t → P a (f a t)) (hkeep : ∀ a b t, P a t → P a (f b t)) (l : List α)
    (h : Q s) : ∀ a ∈ l, P a (foldState f l s) := by
  induction l generalizing s with
  | nil => exact fun a ha => absurd ha List.not_mem_nil
  | cons b l ih =>
    intro a ha
    rcases List.mem_cons.1 ha with rfl | ha
    · exact foldState_keeps (fun c t h => hkeep a c t h) l (hdo a s h)
    · exact ih (hQ b s h) a ha

theorem copyToSpare_sameBut {m : Remap} : SameBut [.out] s (copyToSpare m line s) := copyToSpare_frame (by decide) (SameBut.refl _ s)

theorem SameBut.keySlot {L : List StatePart} (h : SameBut L s t) (hl : ∀ p ∈ [StatePart.objs, .pool], p ∉ L) :
    Machine.keySlot t line = Machine.keySlot s line := by
  have hobjs : t.obj.objs = s.obj.objs := h.2.2 .objs (hl _ (by decide))
  have hregions : t.pool.regions = s.pool.regions := congrArg (·.1) (h.2.2 .pool (hl _ (by decide)))
  simp only [Machine.keySlot, regionAt, objectAt, hobjs, hregions]

/-- Each line of a copied row has been written to the spare under its own key slot (R297, R299). -/
theorem copies_written {m : Remap} {ls : List Nat} : ∀ l ∈ ls,
    .stackLine true l (m.spare + l % 2048) (keySlot s l) ∈ (foldState (copyToSpare m) ls s).out := by
  refine foldState_establishes (Q := SameBut [.out] s) (f := copyToSpare m)
    (P := fun l t => Msg.stackLine true l (m.spare + l % 2048) (keySlot s l) ∈ t.out) (fun a t h => copyToSpare_frame (by decide) h) (fun a t h => ?_)
    (fun a b t h => ?_) ls (SameBut.refl _ s)
  · rw [← h.keySlot (by decide)]
    exact List.mem_cons_self
  · exact (copyToSpare_ok (Ok.refl t)).out.subset h

/-- A remap whose copy has ended is in force, its lines written and reported, and its row is tracked no longer (R299). -/
theorem remapDone_ends {m : Remap} (hm : (s.pool.remaps.find? fun m => m.row == row && m.copying) = some m) :
    (∀ x ∈ (remapDone row s).pool.remaps, x.row = row → x.copying = false) ∧
      { m with copying := false, fromCopy := [] } ∈ (remapDone row s).pool.remaps ∧
      (∀ l ∈ linesOf row 2048, .stackLine true l (m.spare + l % 2048) (keySlot s l) ∈ (remapDone row s).out) ∧
      (∀ e ∈ (remapDone row s).pool.tracker, e.1 ≠ row) ∧ Raised s (remapDone row s) .poolRowRemapped := by
  let s1 := foldState (copyToSpare m) (linesOf row 2048) s
  let s2 : State := { s1 with pool := { s1.pool with
    tracker := s1.pool.tracker.filter fun t => t.1 != row
    remaps := (s1.pool.remaps.filter fun m => m.row != row || m.copying).map fun m =>
      if m.row == row then { m with copying := false, fromCopy := [] } else m } }
  have hcopied : SameBut [.out] s s1 := foldState_keeps (fun a t h => copyToSpare_frame (by decide) h) _ (SameBut.refl _ s)
  have hremaps : s1.pool.remaps = s.pool.remaps := congrArg (·.2.2.2.2.2.2.1) (hcopied.2.2 .pool (by decide))
  have hrun : remapDone row s = raiseError .poolRowRemapped
      { kind := 8, address := w64 row, addressKind := 1, access := 7 } s2 := by
    unfold remapDone
    rw [hm]
  have hraise : SameBut [.od, .stored, .counters, .mgmt, .links, .intx, .fnCfg, .int, .capture, .err, .power, .out] s2
      (raiseError .poolRowRemapped { kind := 8, address := w64 row, addressKind := 1, access := 7 } s2) := raiseWith_sameBut
  have hpool := hraise.pool_eq (by decide)
  obtain ⟨hrow, hcopying⟩ : m.row = row ∧ m.copying = true := by simpa using List.find?_some hm
  rw [hrun]
  refine ⟨fun x hx hr => ?_, ?_, fun l hl => ?_, fun e he => ?_, ?_⟩
  · rw [hpool] at hx
    obtain ⟨y, hy, rfl⟩ := List.mem_map.1 hx
    by_cases hyr : y.row = row
    · simp [hyr]
    · simp [hyr] at hr
  · rw [hpool]
    refine List.mem_map.2 ⟨m, List.mem_filter.2 ⟨hremaps ▸ List.mem_of_find?_eq_some hm, by simp [hcopying]⟩, by simp [hrow]⟩
  · exact (raiseError_ok (Ok.refl s2)).out.subset (copies_written l hl)
  · rw [hpool] at he
    simpa using (List.mem_filter.1 he).2
  · exact raised_raiseError_after (hcopied.2.2 .err (by decide))

/-! ### Repair and margining (R309, R310) -/

theorem freeSpan_wf (hm : Memory.wf s.pool.mem = true) {a : Nat} : Memory.wf (freeSpan a n s).pool.mem = true :=
  memWrite_wf _ hm _

/-- A line whose stack content is lost changes no byte outside it. -/
theorem loseLine_mem (hm : Memory.wf s.pool.mem = true) : Memory.wf (loseLine line s).pool.mem = true ∧
    ∀ a, a < line ∨ line + 64 ≤ a → memGet (loseLine line s).pool.mem a = memGet s.pool.mem a := by
  unfold loseLine
  split
  · exact ⟨freeSpan_wf hm, fun a ha => freeSpan_mem hm ha⟩
  · exact ⟨hm, fun _ _ => rfl⟩

/-- A byte outside the line it does not lie in. -/
theorem outside_of_lineOf_notMem {a l r n : Nat} (hl : l ∈ linesOf r n) (ha : lineOf a ∉ linesOf r n) : a < l ∨ l + 64 ≤ a := by
  have hne : lineOf a ≠ l := fun h => ha (h ▸ hl)
  rw [linesOf_eq_map] at hl
  obtain ⟨k, -, rfl⟩ := List.mem_map.1 hl
  simp only [lineOf] at hne ⊢
  omega

/-- The byte at `a` as it is in `s`, in a memory in canonical form. -/
def ByteKept (s : State) (a : Nat) (t : State) : Prop :=
  Memory.wf t.pool.mem = true ∧ memGet t.pool.mem a = memGet s.pool.mem a

theorem ByteKept.loseLine {a : Nat} (h : ByteKept s a t) (ha : a < line ∨ line + 64 ≤ a) :
    ByteKept s a (Machine.loseLine line t) := by
  obtain ⟨hwf, hsame⟩ := h
  obtain ⟨hwf', hout⟩ := loseLine_mem (line := line) hwf
  exact ⟨hwf', (hout a ha).trans hsame⟩

/-- Losing the content of rows changes no byte of another row's lines (R309, R310). -/
theorem loseRows_mem (hm : Memory.wf s.pool.mem = true) {base a : Nat}
    (h : ∀ r ∈ servedRows s base n, lineOf a ∉ linesOf r 2048) :
    memGet (loseRows base n s).pool.mem a = memGet s.pool.mem a := by
  have hkept : ByteKept s a (loseRows base n s) := by
    have hstart : ByteKept s a s := ⟨hm, rfl⟩
    refine foldState_keeps_of_mem (P := ByteKept s a) (servedRows s base n) (fun r hr t ht => ?_) hstart
    refine foldState_keeps_of_mem (P := ByteKept s a) (linesOf r 2048) (fun l hl t ht => ?_) ht
    exact ht.loseLine (outside_of_lineOf_notMem hl (h r hr))
  exact hkept.2

theorem loseRows_sameBut {base : Nat} : SameBut [.memory, .draws] s (loseRows base n s) :=
  loseRows_frame (by decide) (SameBut.refl _ s)

/-! ### Scrubs (R306) -/

/-- The bytes that a step of a scrub makes zero: those of its span, and those of its mirror. -/
def Swept (x : Scrub) (a : Nat) : Prop := (x.base + x.done ≤ a ∧ a < x.base + x.done + scrubBytes x) ∨
  ∃ m, x.mirror = some m ∧ m + x.done ≤ a ∧ a < m + x.done + scrubBytes x

theorem zeroSpan_zeroes (hm : Memory.wf s.pool.mem = true) {b : Nat} : Memory.wf (zeroSpan b n s).pool.mem = true ∧
    (∀ a, b ≤ a ∧ a < b + n → memGet (zeroSpan b n s).pool.mem a = 0 ∧
      ∀ p ∈ (zeroSpan b n s).pool.poison, spansMeet p 64 a 1 = false) ∧
    (∀ a, a < b ∨ b + n ≤ a → memGet (zeroSpan b n s).pool.mem a = memGet s.pool.mem a) ∧
    ∀ p ∈ (zeroSpan b n s).pool.poison, p ∈ s.pool.poison := by
  refine ⟨memZero_wf hm _ _, fun a ha => ⟨memGet_memZero_inside hm ha, fun p hp => ?_⟩,
    fun a ha => memGet_memZero_outside hm ha, fun p hp => (List.mem_filter.1 hp).1⟩
  have hfree := (List.mem_filter.1 hp).2
  simp only [spansMeet, Bool.not_eq_true', Bool.and_eq_false_iff, decide_eq_false_iff_not] at hfree ⊢
  omega

/-- A step of a scrub makes its bytes zero and free of poison and leaves every other byte (R306). -/
theorem scrubSome_sweeps (hm : Memory.wf s.pool.mem = true) (x : Scrub) :
    (∀ a, Swept x a → memGet (scrubSome x s).pool.mem a = 0 ∧ ∀ p ∈ (scrubSome x s).pool.poison, spansMeet p 64 a 1 = false) ∧
      (∀ a, ¬Swept x a → memGet (scrubSome x s).pool.mem a = memGet s.pool.mem a) ∧
      (scrubSome x s).pool.scrubs = if x.bytes ≤ x.done + scrubBytes x then s.pool.scrubs.erase x
        else s.pool.scrubs.map fun y => if y = x then { y with done := y.done + scrubBytes x } else y := by
  obtain ⟨hwf, hzero, hout, -⟩ := zeroSpan_zeroes hm (b := x.base + x.done) (n := scrubBytes x)
  cases hmirror : x.mirror with
  | none =>
    have hrun : scrubSome x s = { zeroSpan (x.base + x.done) (scrubBytes x) s with pool := {
        (zeroSpan (x.base + x.done) (scrubBytes x) s).pool with
        scrubs := if x.bytes ≤ x.done + scrubBytes x then s.pool.scrubs.erase x
          else s.pool.scrubs.map fun y => if y == x then { y with done := y.done + scrubBytes x } else y } } := by
      unfold scrubSome
      rw [hmirror]
      rfl
    rw [hrun]
    refine ⟨fun a ha => ?_, fun a ha => ?_, by simp⟩
    · simp only [Swept, hmirror, reduceCtorEq, false_and, exists_false, or_false] at ha
      exact hzero a ha
    · refine hout a ?_
      simp only [Swept, hmirror, reduceCtorEq, false_and, exists_false, or_false] at ha
      omega
  | some m =>
    obtain ⟨-, hzero', hout', hpoison⟩ := zeroSpan_zeroes hwf (b := m + x.done) (n := scrubBytes x)
    have hrun : scrubSome x s = { zeroSpan (m + x.done) (scrubBytes x) (zeroSpan (x.base + x.done) (scrubBytes x) s) with pool := {
        (zeroSpan (m + x.done) (scrubBytes x) (zeroSpan (x.base + x.done) (scrubBytes x) s)).pool with
        scrubs := if x.bytes ≤ x.done + scrubBytes x then s.pool.scrubs.erase x
          else s.pool.scrubs.map fun y => if y == x then { y with done := y.done + scrubBytes x } else y } } := by
      unfold scrubSome
      rw [hmirror]
      rfl
    rw [hrun]
    refine ⟨fun a ha => ?_, fun a ha => ?_, by simp⟩
    · simp only [Swept, hmirror, Option.some.injEq, exists_eq_left'] at ha
      by_cases hin : m + x.done ≤ a ∧ a < m + x.done + scrubBytes x
      · exact hzero' a hin
      · obtain ⟨hz, hp⟩ := hzero a (ha.resolve_right hin)
        exact ⟨(hout' a (by omega)).trans hz, fun p h => hp p (hpoison p h)⟩
    · simp only [Swept, hmirror, Option.some.injEq, exists_eq_left', not_or] at ha
      exact (hout' a (by omega)).trans (hout a (by omega))

/-! ### A read of a line, whole (R298 to R304) -/

/-- The line at an aligned address is the address. -/
theorem lineOf_aligned {a : Nat} (h : a % 64 = 0) : lineOf a = a := by rw [lineOf]; omega

theorem lineCounted_sameBut {n copy : Nat} : SameBut [.counters, .int, .out] s (countPackage n (stackRead line copy s)) :=
  (stackRead_sameBut.mono (by decide)).trans (countPackage_sameBut.mono (by decide))

/-- A line that is poisoned after its read has been counted. -/
theorem poisonLine_counted (hbefore : t.pool.poison = s.pool.poison) (herr : t.err = s.err) (hcounted : Counted s t 0xD000 21)
    (hline : line ∉ s.pool.poison) :
    Counted s (poisonLine line i t) 0xD000 21 ∧ Raised s (poisonLine line i t) .poolLinePoisoned ∧
      (s.pool.poison.length < 65536 → (poisonLine line i t).pool.poison = insertNat line s.pool.poison) ∧
      (65536 ≤ s.pool.poison.length → (poisonLine line i t).pool.poison = s.pool.poison ∧
        Raised s (poisonLine line i t) .poisonDirectoryFull) := by
  rw [← hbefore] at hline
  obtain ⟨hraised, hcounts, hroom, hfull⟩ := poisonLine_poisons (i := i) hline
  rw [hbefore] at hroom hfull
  exact ⟨hcounted.kept (hcounts 21 ⟨by decide, by decide⟩), hraised.of_err herr rfl, hroom,
    fun h => ⟨(hfull h).1, (hfull h).2.of_err herr rfl⟩⟩

/-- A line of an object without a second copy that cannot be corrected (R300). -/
theorem lineRead_lost {bad : Bool} {mc : LineCheck} {who : LineReader} (hwho : ∀ c, who ≠ .context c)
    (hline : line ∉ s.pool.poison) (hbad : bad = false ∨ assocGet s.pool.stale line = none) (hcopy : copiesOf s line = none)
    (hp : poisonable s line = true) : let t := lineRead line bad .uncorrectable mc who s
    Counted s t 0xD000 21 ∧ Raised s t .poolLinePoisoned ∧
      (s.pool.poison.length < 65536 → t.pool.poison = insertNat line s.pool.poison) ∧
      (65536 ≤ s.pool.poison.length → t.pool.poison = s.pool.poison ∧ Raised s t .poisonDirectoryFull) := by
  have hcounted : SameBut [.counters, .int, .out] s (countPackage 0x15 (stackRead line line s)) := lineCounted_sameBut
  have hcount : Counted s (countPackage 0x15 (stackRead line line s)) 0xD000 21 :=
    (counted_count (stackRead line line s) 0xD000 21).of_counters (stackRead_sameBut.2.2 .counters (by decide))
  rw [lineRead_fetches hwho hbad, fetchLine_loses hcopy hp]
  exact poisonLine_counted (congrArg (·.2.2.2.2.1) (hcounted.2.2 .pool (by decide))) (hcounted.2.2 .err (by decide)) hcount hline

/-- A corrected read is counted and tracked (R299). -/
theorem lineRead_corrected {bad : Bool} {mc : LineCheck} {who : LineReader} (hwho : ∀ c, who ≠ .context c)
    (hbad : bad = false ∨ assocGet s.pool.stale line = none) (hcopy : copiesOf s line = none)
    (hlow : (assocGet s.pool.tracker (rowBase line)).getD 0 + 1 < rowThreshold s) :
    let t := lineRead line bad .corrected mc who s
    Counted s t 0xD000 20 ∧
      t.pool.tracker.head? = some (rowBase line, (assocGet s.pool.tracker (rowBase line)).getD 0 + 1) ∧
      t.pool.poison = s.pool.poison := by
  have hsame : SameBut [.counters, .int, .out] s (countPackage 0x14 (stackRead line line s)) := lineCounted_sameBut
  have hpool : (countPackage 0x14 (stackRead line line s)).pool = s.pool := hsame.pool_eq (by decide)
  have hod : (countPackage 0x14 (stackRead line line s)).od = s.od := hsame.2.2 .od (by decide)
  have hthreshold : rowThreshold (countPackage 0x14 (stackRead line line s)) = rowThreshold s := by
    rw [rowThreshold, objNum, objVal, hod, hsame.1, rowThreshold, objNum, objVal]
  have hcount : Counted s (countPackage 0x14 (stackRead line line s)) 0xD000 20 :=
    (counted_count (stackRead line line s) 0xD000 20).of_counters (stackRead_sameBut.2.2 .counters (by decide))
  obtain ⟨keep, hkeep⟩ := trackRow_below (s := countPackage 0x14 (stackRead line line s)) (row := rowBase line)
    (by rw [hpool, hthreshold]; exact hlow)
  rw [lineRead_fetches hwho hbad, fetchLine_corrected hcopy, hkeep]
  have hpoison : (countPackage 0x14 (stackRead line line s)).pool.poison = s.pool.poison := congrArg PoolSt.poison hpool
  refine ⟨hcount.kept (.of_eq rfl), ?_, hpoison⟩
  rw [hpool]
  rfl

/-- A line whose second copy is good is served from it (R303). -/
theorem lineRead_served {bad : Bool} {m : Nat} {who : LineReader} (hwho : ∀ c, who ≠ .context c)
    (hbad : bad = false ∨ assocGet s.pool.stale line = none) (hcopy : copiesOf s line = some m) :
    let t := lineRead line bad .uncorrectable .clean who s
    Counted s t 0xD000 21 ∧ Counted s t 0xD000 22 ∧ Raised s t .poolMirrorServed ∧ t.pool.poison = s.pool.poison := by
  let u := stackRead line m (countPackage 0x15 (stackRead line line s))
  have hsame : SameBut [.counters, .int, .out] s u :=
    lineCounted_sameBut.trans (stackRead_sameBut.mono (by decide))
  have hcount : Counted s (countPackage 0x15 (stackRead line line s)) 0xD000 21 :=
    (counted_count (stackRead line line s) 0xD000 21).of_counters (stackRead_sameBut.2.2 .counters (by decide))
  have hother : CountsKept 22 s (countPackage 0x15 (stackRead line line s)) :=
    (stackRead_sameBut.countsKept (by decide)).trans (countPackage_countsKept (by decide) (by decide) (by decide))
  have hread : CountsKept 22 s u := hother.after stackRead_sameBut (by decide)
  rw [lineRead_fetches hwho hbad, (fetchLine_mirrored hcopy).1]
  obtain ⟨hserved, hkept, hraised, hpoison⟩ := serveMirror_serves (line := line) (m := m) (i := lineInfo s line who) (s := u)
  refine ⟨?_, ?_, hraised.of_err (hsame.2.2 .err (by decide)) rfl, hpoison.trans (congrArg PoolSt.poison (hsame.pool_eq (by decide)))⟩
  · exact hcount.kept ((stackRead_sameBut.countsKept (by decide)).trans hkept)
  · exact hserved.after_kept hread

/-- A line both copies of which are bad is poisoned, where it is no line of the carve-out (R300, R304). -/
theorem lineRead_bothBad {bad : Bool} {m : Nat} {who : LineReader} (hwho : ∀ c, who ≠ .context c) (hline : line ∉ s.pool.poison)
    (hbad : bad = false ∨ assocGet s.pool.stale line = none) (hcopy : copiesOf s line = some m)
    (hcarve : inCarveOut s line = false) (hroom : s.pool.poison.length < 65536) :
    let t := lineRead line bad .uncorrectable .uncorrectable who s
    Raised s t .poolLinePoisoned ∧ line ∈ t.pool.poison := by
  let u := countPackage 0x15 (stackRead line m (countPackage 0x15 (stackRead line line s)))
  have hsame : SameBut [.counters, .int, .out] s u := lineCounted_sameBut.trans lineCounted_sameBut
  have hpool : u.pool = s.pool := hsame.pool_eq (by decide)
  have hcarve' : inCarveOut u line = false := by
    rw [inCarveOut, regionAt, hpool]; exact hcarve
  rw [← hpool] at hline hroom
  obtain ⟨hraised, -, hpoisoned, -⟩ := poisonLine_poisons (i := lineInfo s line who) hline
  obtain ⟨hpoison, -, -, herr⟩ := logRow_rowWork (s := poisonLine line (lineInfo s line who) u) (row := rowBase m)
  have hrun : lineRead line bad .uncorrectable .uncorrectable who s =
      logRow (rowBase m) (poisonLine line (lineInfo s line who) u) := by
    rw [lineRead_fetches hwho hbad, (fetchLine_mirrored hcopy).2, loseCopies, if_neg (by rw [hcarve']; decide)]
  rw [hrun]
  refine ⟨?_, ?_⟩
  · have herr' : u.err = s.err := hsame.2.2 .err (by decide)
    exact hraised.around (congrArg ErrSt.wireFaults herr') (by rw [errCount, herr', errCount]) (herr _ (by decide))
  · rw [hpoison, hpoisoned hroom]
    exact mem_insertNat

/-- A change of the pool's registers that keeps the memory. -/
theorem poolState_sameBut {p : PoolSt} (h : p.memoryPart = s.pool.memoryPart) : SameBut [.pool] s { s with pool := p } := by
  refine ⟨rfl, rfl, fun part hp => ?_⟩
  cases part with
  | pool => exact absurd List.mem_cons_self hp
  | memory => exact h
  | _ => rfl

end PoolMaintenance

/-- Settles O43: a read by the copies of its line, a remap, a repair and a margining by the rows that they touch, a scrub by its span. -/
theorem poolMaintenance : Obligations.PoolMaintenance := by
  unfold Obligations.PoolMaintenance
  intro s hinv
  refine ⟨fun line bad mc who hwho hal hline hbad => ⟨fun hcopy => ⟨?clean, fun hlow => ?corrected, fun hp hroom => ?lost,
      fun hp hfull => ?full⟩, fun mirror hcopy => ⟨?served, fun hcarve hroom => ?bothBad⟩⟩,
    fun line pc mc who hwho hal hline hdirty hcarve hp hroom => ?dirty,
    fun line c cx hal hline hcx hr hcopy => ?reader, fun row m hm => Gives.of_eq rfl rfl (remapDone_ends hm),
    fun rq st v hready => ⟨fun hvar hacc hidle hleft => ?repairStarts, fun hvar hacc hidle hpattern => ?marginStarts⟩,
    fun st v => ⟨fun hrun => ⟨?repairEnds, ?repairFails⟩, fun errors herrors hrun => ?marginEnds⟩, fun x b e hnext hx => ?scrub⟩
  case clean =>
    have hrun : lineRead (lineOf line) bad .clean mc who s = stackRead line line s := by
      rw [lineOf_aligned hal, lineRead_fetches hwho hbad, fetchLine_clean hcopy]
    exact Gives.of_eq rfl hrun ⟨stackRead_sameBut, List.mem_cons_self⟩
  case corrected =>
    exact Gives.of_eq rfl (congrArg (fun l => lineRead l bad .corrected mc who s) (lineOf_aligned hal))
      (lineRead_corrected hwho hbad hcopy hlow)
  case lost =>
    obtain ⟨hcounted, hraised, hpoison, -⟩ := lineRead_lost (mc := mc) hwho hline hbad hcopy hp
    refine Gives.of_eq rfl (congrArg (fun l => lineRead l bad .uncorrectable mc who s) (lineOf_aligned hal))
      ⟨hcounted, hraised, ?_, fun l hne => ?_⟩
    · rw [hpoison hroom]; exact mem_insertNat
    · rw [hpoison hroom]; exact mem_insertNat_of_ne hne
  case full =>
    obtain ⟨-, hraised, -, hpoison⟩ := lineRead_lost (mc := mc) hwho hline hbad hcopy hp
    obtain ⟨hsame, hdirectory⟩ := hpoison hfull
    exact Gives.of_eq rfl (congrArg (fun l => lineRead l bad .uncorrectable mc who s) (lineOf_aligned hal))
      ⟨hraised, hdirectory, hsame⟩
  case served =>
    exact Gives.of_eq rfl (congrArg (fun l => lineRead l bad .uncorrectable .clean who s) (lineOf_aligned hal))
      (lineRead_served hwho hbad hcopy)
  case bothBad =>
    exact Gives.of_eq rfl (congrArg (fun l => lineRead l bad .uncorrectable .uncorrectable who s) (lineOf_aligned hal))
      (lineRead_bothBad hwho hline hbad hcopy hcarve hroom)
  case dirty =>
    have hsame : SameBut [.counters, .int] s (countPackage 0x15 s) := countPackage_sameBut
    have hcount : Counted s (countPackage 0x15 s) 0xD000 21 := counted_count s 0xD000 21
    have hrun : lineRead (lineOf line) true pc mc who s = poisonLine line (lineInfo s line who) (countPackage 0x15 s) := by
      rw [lineOf_aligned hal, lineRead, readPoison_other hwho, if_pos rfl, cacheFails_loses hdirty hcarve hp]
    obtain ⟨hcounted, hraised, hpoison, -⟩ := poisonLine_counted (i := lineInfo s line who)
      (congrArg PoolSt.poison (hsame.pool_eq (by decide))) (hsame.2.2 .err (by decide)) hcount hline
    refine Gives.of_eq rfl hrun ⟨hcounted, hraised, ?_⟩
    rw [hpoison hroom]
    exact mem_insertNat
  case reader =>
    let s1 : State := stackRead line line s
    have hsame : SameBut [.counters, .int, .out] s (countPackage 0x17 s1) := lineCounted_sameBut
    have hmem : s1.pool.poison.contains line = true := List.contains_iff_mem.2 hline
    have hlost : LostFor s (readPoison line (.context c) s1) c .poisonedData := by
      rw [readPoison, if_pos hmem]
      exact (loseContext_lost ((hsame.ctx? (by decide)).trans hcx) hr).congr (hsame.2.2 .gtc (by decide)) rfl
    have hrun : lineRead (lineOf line) false .clean .clean (.context c) s = readPoison line (.context c) s1 := by
      rw [lineOf_aligned hal, lineRead, if_neg (by decide), fetchLine_clean hcopy]
    exact Gives.of_eq rfl hrun hlost
  case repairStarts =>
    have hrefused : repairRefused s = none := by simp [repairRefused, hvar, hready, hidle]
    have hleft' : ¬repairLeft (setObj (0x5040 + st.val) 3 (.num (field v.toNat 24 0))
        (emit (.objectStatus rq ⟨0x5040 + st.val, 3⟩ .ok) s)) st.val = 0 := hleft
    refine Gives.of_eq (congrArg Host.Outcome.next (requestWrite_accepted hacc hrefused)) (if_neg hleft') ⟨rfl, ?_⟩
    exact assocGet_assocPut _ _ _
  case marginStarts =>
    have hrefused : marginRefused v s = none := by simp [marginRefused, hvar, hready, hidle, Nat.not_lt.2 hpattern]
    exact Gives.of_eq (congrArg Host.Outcome.next (requestWrite_accepted hacc hrefused)) rfl
      ⟨rfl, assocGet_assocPut _ _ _⟩
  case repairEnds =>
    let s1 : State := { s with pool := { s.pool with repairLeft := assocPut s.pool.repairLeft st.val (repairLeft s st.val - 1) } }
    let u := loseRows (channelBase st.val (requestChannel v) + 2048 * requestRow v) 2048 s1
    have hlost : SameBut [.memory, .draws] s1 u := loseRows_sameBut
    have hended : repairDone st.val true s = { u with pool := { u.pool with
        repairing := none, repairResults := assocPut u.pool.repairResults st.val 2 } } := by
      unfold repairDone
      rw [hrun]
      dsimp only
      rw [if_neg (by simp)]
      rfl
    have hleft : u.pool.repairLeft = assocPut s.pool.repairLeft st.val (repairLeft s st.val - 1) :=
      congrArg (·.2.2.2.2.2.2.2.2.2.2.2.2.2.2) (hlost.2.2 .pool (by decide))
    refine Gives.of_eq rfl hended ⟨rfl, assocGet_assocPut _ _ _, ?_, fun a ha => ?_⟩
    · simp only [repairLeft, hleft, assocGet_assocPut, Option.getD_some]
    · exact loseRows_mem (s := s1) hinv.pool ha
  case repairFails =>
    have hended : repairDone st.val false s = { s with pool := { s.pool with
        repairing := none, repairResults := assocPut s.pool.repairResults st.val 4 } } := by
      unfold repairDone
      rw [hrun]
      dsimp only
      rw [if_neg (by simp)]
      rfl
    exact Gives.of_eq rfl hended ⟨poolState_sameBut rfl, rfl⟩
  case marginEnds =>
    let u := loseRows (channelBase st.val (requestChannel v)) channelBytes s
    have hended : marginDone st.val true errors s = { u with pool := { u.pool with
        margining := none
        marginResults := assocPut u.pool.marginResults st.val (w64 (min errors 0xFFFFFFFF * 2 ^ 32 + 2)) } } := by
      unfold marginDone
      rw [hrun]
      dsimp only
      rw [if_neg (by simp)]
      rfl
    refine Gives.of_eq rfl hended ⟨rfl, ?_, fun a ha => loseRows_mem hinv.pool ha⟩
    have hmin : min errors 0xFFFFFFFF = errors := Nat.min_eq_left (by omega)
    refine (assocGet_assocPut _ _ _).trans ?_
    rw [hmin]
  case scrub =>
    let s1 : State := serveStep .memorySide (memSteps s) (.scrub b e) s
    obtain ⟨hzero, hout, hscrubs⟩ := scrubSome_sweeps (s := s1) hinv.pool x
    have hextent : x.extent = e := by
      have hfound := List.find?_some hx
      simp only [scrubAt, Bool.and_eq_true, beq_iff_eq] at hfound
      exact hfound.2
    have hstep : exec .scrubStep s = .next (memStepped (scrubStep b e s1)) := by
      refine congrArg Host.Outcome.next ?_
      rw [hnext]
      rfl
    have hx' : s1.pool.scrubs.find? (scrubAt b e) = some x := hx
    refine ⟨fun hmore => ?_, fun he hlast => ?_⟩
    · have hsome : scrubStep b e s1 = scrubSome x s1 := by
        unfold scrubStep
        rw [hx']
        refine if_neg ?_
        rcases hmore with h | h
        · simp [hextent, h]
        · have hlater : ¬x.bytes ≤ x.done + scrubBytes x := Nat.not_le.2 h
          simp [hlater]
      exact Gives.of_eq hstep (congrArg memStepped hsome) ⟨hzero, hout, hscrubs⟩
    · refine ⟨scrubSome x s1, hstep.trans (congrArg (fun t => Host.Outcome.next (memStepped t)) ?_), hzero, hout, hscrubs⟩
      unfold scrubStep
      rw [hx']
      exact if_pos (by simp [hextent, he, hlast])

end Sys2Proof.Machine
end

section
/-!
SUPPORT. Frames and lookups once every window and every context is gone (06_translation, R206; 08_windows_coherence,
R260, R273, R276), and what a block reset wipes (12_errors, R385).
-/
namespace Sys2Proof.Machine

section Emptied
variable {s t u : State} {L : List StatePart}

/-! ### Frames of a package without windows (R260, R273) -/

/-- No window is open, and no operation of a peer is accepted. -/
def NoHolds (s : State) : Prop := s.win.table = [] ∧ ∀ o ∈ s.win.recvs, o.held = none

/-- From a state without windows: only counters, the sessions of peers and what the receiver keeps of refused operations
change, and no window is there after. -/
def Dry (s t : State) : Prop := NoHolds s →
  SameBut [.counters, .int, .peers, .windows, .out] s t ∧ t.win.sends = s.win.sends ∧ NoHolds t

theorem Dry.refl (s : State) : Dry s s := fun h => ⟨SameBut.refl _ s, rfl, h⟩

theorem Dry.trans (h : Dry s t) (k : Dry t u) : Dry s u := fun hs => by
  obtain ⟨hsame, hsends, ht⟩ := h hs
  obtain ⟨ksame, ksends, hu⟩ := k ht
  exact ⟨hsame.trans ksame, ksends.trans hsends, hu⟩

theorem SameBut.dry (h : SameBut L s t) (hl : ∀ p ∈ L, p ∈ [StatePart.counters, .int, .peers, .out]) : Dry s t := fun hs => by
  have hwindows : .windows ∉ L := fun hm => absurd (hl _ hm) (by decide)
  obtain ⟨htable, -, hrecvs⟩ := h.windows hwindows
  refine ⟨h.mono fun p hp => ?_, h.sends hwindows, htable.trans hs.1, hrecvs ▸ hs.2⟩
  exact (by decide : [StatePart.counters, .int, .peers, .out] ⊆ [StatePart.counters, .int, .peers, .windows, .out]) (hl p hp)

/-- Only what the receiver keeps changes, and nothing of it becomes an accepted operation. -/
theorem recvs_dry {rs : List RecvOp} {fs : List InFrame} (h : (∀ o ∈ s.win.recvs, o.held = none) → ∀ o ∈ rs, o.held = none) :
    Dry s { s with win := { s.win with recvs := rs, inbox := fs } } := fun hs => by
  refine ⟨⟨rfl, rfl, fun p hp => ?_⟩, rfl, hs.1, h hs.2⟩
  cases p with
  | windows => exact absurd (by decide) hp
  | _ => rfl

theorem dropRecv_dry {h : FrameHdr} {need : Need} : Dry s (dropRecv h need s) :=
  recvs_dry (fs := s.win.inbox) fun hs _ ho => hs _ (List.mem_filter.1 ho).1

theorem addRecv_dry {o : RecvOp} (ho : o.held = none) : Dry s (addRecv o s) :=
  recvs_dry (fs := s.win.inbox) fun hs x hx => by
    rcases List.mem_append.1 hx with hx | hx
    · exact hs x hx
    · rw [List.mem_singleton.1 hx, ho]

theorem reply_sameBut {h : FrameHdr} {type code off : Nat} {need : Need} {last : Bool} {b : Bytes} :
    SameBut [.peers, .out] s (reply h type code need last off b s) := reply_frame (by decide) (SameBut.refl _ s)

theorem reply_dry {h : FrameHdr} {type code off : Nat} {need : Need} {last : Bool} {b : Bytes} :
    Dry s (reply h type code need last off b s) := reply_sameBut.dry (by decide)

/-- A check is refused while no window is open (R260). -/
theorem checkOp_closed {h : FrameHdr} {need : Need} {runs : List WRun} (hs : NoHolds s) :
    ∃ code, checkOp h need runs s = (s, .error (some code)) := by
  have hnone : win? s h.window = none := by rw [win?, hs.1]; rfl
  unfold checkOp
  dsimp only
  split
  · exact ⟨_, rfl⟩
  · rw [hnone]
    exact ⟨_, rfl⟩

theorem decideOp_dry {h : FrameHdr} {need : Need} {runs : List WRun} : Dry s (decideOp h need runs s).1 := fun hs => by
  obtain ⟨code, hcode⟩ := checkOp_closed (h := h) (need := need) (runs := runs) hs
  have hrun : decideOp h need runs s = (reply h 0x11 code need true 0 [] (countPackage 0x10 (dropRecv h need s)), none) := by
    rw [decideOp, hcode]
  rw [hrun]
  exact ((dropRecv_dry.trans (countPackage_sameBut.dry (by decide))).trans reply_dry) hs

theorem runCheck_dry {h : FrameHdr} {need : Need} {runs : List WRun} : Dry s (runCheck need h runs s).1 := by
  unfold runCheck
  dsimp only
  split
  · exact dropRecv_dry.trans decideOp_dry
  · exact dropRecv_dry.trans (addRecv_dry rfl)

theorem runCheckAtomic_dry {h : FrameHdr} {runs : List WRun} : Dry s (runCheckAtomic h runs s).1 := by
  unfold runCheckAtomic
  split
  · dsimp only
    split
    · have hnoted (c : List Commit) : SameBut [.peers] s { s with win := { s.win with history := c } } := by
        refine ⟨rfl, rfl, fun p hp => ?_⟩
        cases p with
        | peers => exact absurd (by decide) hp
        | _ => rfl
      exact ((hnoted _).dry (by decide)).trans reply_dry
    · exact Dry.refl s
  · exact runCheck_dry

theorem recvOf_none {h : FrameHdr} {p : Need → Bool} (hs : NoHolds s) : recvOf? s h p = none := by
  refine List.find?_eq_none.2 fun o ho => ?_
  simp [hs.2 o ho]

theorem runFrame_dry {f : InFrame} : Dry s (runFrame f s).1 := by
  cases f with
  | check need h runs =>
    cases need with
    | atomic => exact runCheckAtomic_dry
    | read => exact runCheck_dry
    | write => exact runCheck_dry
  | serve h => exact fun hs => by rw [runFrame, runServe, recvOf_none hs]; exact Dry.refl s hs
  | data h b => exact fun hs => by rw [runFrame, runData, recvOf_none hs]; exact Dry.refl s hs
  | cancel h => exact recvs_dry (fs := s.win.inbox) fun hs _ ho => hs _ (List.mem_filter.1 ho).1

theorem runFrames_dry {p : PackageId} {fs : List InFrame} : Dry s (runFrames p fs s).1 := by
  induction fs generalizing s with
  | nil => exact Dry.refl s
  | cons f fs ih =>
    unfold runFrames
    split
    · exact ih
    · have hframe := runFrame_dry (s := s) (f := f)
      generalize runFrame f s = r at hframe ⊢
      obtain ⟨v, g⟩ := r
      cases g with
      | none => exact hframe.trans ih
      | some g => exact hframe

theorem serveInboxes_dry : Dry s (serveInboxes s) := by
  have hbox (p : PackageId) (v : State) : Dry v (serveInbox p v) :=
    runFrames_dry.trans (recvs_dry (rs := (runFrames p v.win.inbox v).1.win.recvs) fun h => h)
  exact foldState_keeps (P := Dry s) (fun p v h => h.trans (hbox p v)) _ (Dry.refl s)

/-! ### Lookups of a package without contexts and windows (R206) -/

theorem asker_none {who : Who} (hctxs : s.obj.ctxs = []) (htable : s.win.table = []) : asker s who = none := by
  cases who with
  | ctx c => simp [asker, ctx?, hctxs]
  | win w => simp [asker, win?, htable]

/-- Lookups that waited end without a translation once what asked is gone. -/
theorem serveStalled_ends (hctxs : s.obj.ctxs = []) (htable : s.win.table = []) :
    SameBut [.lookups, .out] s (serveStalled s) ∧ (serveStalled s).trans.leases = s.trans.leases := by
  have hstart : SameBut [.lookups, .out] s { s with trans := { s.trans with stalled := [] } } := by
    refine ⟨rfl, rfl, fun p hp => ?_⟩
    cases p with
    | lookups => exact absurd (by decide) hp
    | _ => rfl
  refine foldState_keeps (P := fun v => SameBut [.lookups, .out] s v ∧ v.trans.leases = s.trans.leases)
    (fun x v hv => ?_) _ ⟨hstart, rfl⟩
  obtain ⟨hsame, hleases⟩ := hv
  have hctxs' : v.obj.ctxs = s.obj.ctxs := hsame.2.2 .ctxs (by decide)
  have hnone : asker v x.1 = none :=
    asker_none (hctxs'.trans hctxs) ((hsame.windows (by decide)).1.trans htable)
  have hrun : lookupOf x.1 x.2.1 x.2.2 v = emit (.noTranslation x.1 x.2.1 .aborting) v := by rw [lookupOf, hnone]
  rw [hrun]
  exact ⟨emit_frame (by decide) hsame, hleases⟩

/-! ### Objects that a block reset frees (R385; 13, R410) -/

/-- The record of the scrub of an object's bytes. -/
def objectScrub (o : MemObj) : Scrub := ⟨o.base, o.bytes, 0, o.mirrorSpan, some o.owner, false, false⟩

/-- The end of an object's free takes its slot's objects away and queues the scrub of the first. -/
theorem freeFinish_objs {slot : Nat} : (freeFinish slot s).obj.objs = s.obj.objs.filter (fun x => x.slot != slot) ∧
    s.pool.scrubs <+: (freeFinish slot s).pool.scrubs ∧
    ∀ o, obj? s slot = some o → objectScrub o ∈ (freeFinish slot s).pool.scrubs := by
  cases ho : obj? s slot with
  | none =>
    have hrun : freeFinish slot s = s := by rw [freeFinish, ho]
    rw [hrun]
    refine ⟨(List.filter_eq_self.2 fun x hx => ?_).symm, List.prefix_refl _, fun o h => absurd h (by simp)⟩
    simpa using List.find?_eq_none.1 ho x hx
  | some o =>
    have hdone : SameBut [.admin] s (match o.freer with
        | some r => adminDone r.fn .success 0 r.tag (foldState (fun c s => adminDone c.2.fn .success 0 c.2.tag s) o.changes s)
        | none => foldState (fun c s => adminDone c.2.fn .success 0 c.2.tag s) o.changes s) := by
      have hchanges : SameBut [.admin] s (foldState (fun c s => adminDone c.2.fn .success 0 c.2.tag s) o.changes s) :=
        foldState_keeps (fun c v h => adminDone_frame (by decide) h) _ (SameBut.refl _ s)
      split
      · exact adminDone_frame (by decide) hchanges
      · exact hchanges
    have hobjs := hdone.2.2 .objs (by decide)
    have hscrubs := congrArg (·.2.2.2.2.2.2.2.2.2.1) (hdone.2.2 .pool (by decide))
    unfold freeFinish
    rw [ho]
    refine ⟨congrArg (List.filter _) hobjs, ?_, fun o' h => ?_⟩
    · exact ⟨[objectScrub o], (congrArg (· ++ [objectScrub o]) hscrubs).symm⟩
    · cases h
      exact List.mem_append_right _ (List.mem_singleton.2 rfl)

/-- Frees that end take away every object of their slots, and queue the scrub of the object that each slot names. -/
theorem freeFinish_all (slots : List Nat) : let t := foldState freeFinish slots s
    t.obj.objs = s.obj.objs.filter (fun x => !slots.contains x.slot) ∧ s.pool.scrubs <+: t.pool.scrubs ∧
    ∀ o, o.slot ∈ slots → obj? s o.slot = some o → objectScrub o ∈ t.pool.scrubs := by
  induction slots generalizing s with
  | nil => exact ⟨(List.filter_eq_self.2 fun _ _ => rfl).symm, List.prefix_refl _, fun o ho => absurd ho List.not_mem_nil⟩
  | cons a slots ih =>
    obtain ⟨hobjs, hprefix, hnamed⟩ := freeFinish_objs (s := s) (slot := a)
    obtain ⟨iobjs, iprefix, inamed⟩ := ih (s := freeFinish a s)
    refine ⟨?_, hprefix.trans iprefix, fun o ho hfirst => ?_⟩
    · refine iobjs.trans ?_
      rw [hobjs, List.filter_filter]
      refine List.filter_congr fun x _ => ?_
      by_cases hx : x.slot = a <;> simp [hx]
    · by_cases ha : o.slot = a
      · exact iprefix.subset (hnamed o (ha ▸ hfirst))
      · refine inamed o (List.mem_of_ne_of_mem ha ho) ?_
        rw [obj?, hobjs, List.find?_filter]
        refine Eq.trans (congrArg (fun p => s.obj.objs.find? p) (funext fun x => ?_)) hfirst
        by_cases hx : x.slot = o.slot <;> simp [hx, ha]

theorem foldState_map {α β : Type} (f : β → State → State) (g : α → β) (l : List α) :
    foldState f (l.map g) s = foldState (fun a => f (g a)) l s := by
  induction l generalizing s with
  | nil => rfl
  | cons a l ih => exact ih

/-- An object that is freed with a block reset. -/
def freedObj (o : MemObj) : MemObj := { o with freed := true, freer := none, changes := [], grants := [] }

/-- A block reset leaves no object, and queues the scrub of each. -/
theorem freeEveryObject_frees : (freeEveryObject s).obj.objs = [] ∧
    ∀ o, o ∈ s.obj.objs → obj? s o.slot = some o → objectScrub o ∈ (freeEveryObject s).pool.scrubs := by
  let s1 : State := { s with obj := { s.obj with
    mirrors := [], objs := s.obj.objs.map freedObj
    gens := s.obj.objs.foldl (fun l o => assocPut l o.slot (o.gen + 1)) s.obj.gens } }
  have hrun : freeEveryObject s = foldState freeFinish ((s.obj.objs.map freedObj).map (·.slot)) s1 := by
    rw [foldState_map]
    rfl
  obtain ⟨hobjs, -, hnamed⟩ := freeFinish_all (s := s1) ((s.obj.objs.map freedObj).map (·.slot))
  rw [hrun]
  refine ⟨?_, fun o ho hfirst => ?_⟩
  · refine hobjs.trans (List.filter_eq_nil_iff.2 fun x hx => ?_)
    have hx' : x ∈ s.obj.objs.map freedObj := hx
    rw [Bool.not_eq_true', Bool.not_eq_false, List.contains_iff_mem]
    exact List.mem_map_of_mem hx'
  · have hfreed : obj? s1 o.slot = some (freedObj o) := by
      rw [obj?, List.find?_map]
      have hsame : ((fun x : MemObj => x.slot == o.slot) ∘ freedObj) = fun x => x.slot == o.slot := rfl
      rw [hsame, show s.obj.objs.find? (fun x => x.slot == o.slot) = some o from hfirst]
      rfl
    exact hnamed (freedObj o) (by simpa using ⟨o, ho, rfl⟩) hfreed

/-! ### What a block reset wipes (R385) -/

/-- The work, the objects and the requests of a package that a block reset takes away. -/
def stripped (s : State) : State := foldState (fun p s => quarantine p (fun _ => true) s) (List.finRange 4)
  (dropAllLeases (freeEveryObject (stopEverything (freeDieLines (endWindowRequests s)))))

/-- The contexts, commands, translations, windows and lines of a package are gone. -/
def emptied (s : State) : State := { s with
  obj := { s.obj with ctxs := [], ctxFreed := s.obj.ctxFreed ++ s.obj.ctxs.map (·.1) }
  cmd := CmdSt.init
  trans := { s.trans with
    banks := s.trans.banks.map fun _ => [], walks := [], scans := [], answers := [], tileHolds := [] }
  win := { s.win with
    table := [], sends := [], recvs := [], refreshing := [], filter := [], snoops := [], waiting := []
    coh := s.win.coh.map fun _ => (.off, .none) }
  fns := s.fns.map resetBlocks }

/-- The interrupts of an emptied package follow its latches, and its epochs are settled. -/
def settledEmpty (s : State) : State :=
  settleEpochs (foldState (fun p t => settleIntx s p t) (List.finRange 4) (emptied s))

theorem wipe_eq : wipe s = serveInboxes (serveStalled (settledEmpty (stripped s))) := rfl

theorem stripped_sameBut : SameBut [.counters, .requests, .admin, .int, .fnOther, .objs, .slots, .lookups, .memory, .pool,
    .draws, .out] s (stripped s) := by
  refine foldState_frame (fun p t h => quarantine_frame (by decide) h) ?_
  refine dropAllLeases_frame (by decide) (freeEveryObject_frame (by decide) (stopEverything_frame (by decide) ?_))
  exact freeDieLines_frame (by decide) (endWindowRequests_frame (by decide) (SameBut.refl _ s))

theorem emptied_sameBut : SameBut [.fnState, .admin, .faultq, .int, .ctxs, .slots, .cmds, .engines, .entries, .lookups, .windows,
    .coherence] s (emptied s) := by
  have hfns {β : Type} (f : FnSt → β) (h : ∀ x, f (resetBlocks x) = f x) : (s.fns.map resetBlocks).map f = s.fns.map f := by
    rw [List.map_map]
    exact List.map_congr_left fun x _ => h x
  refine ⟨rfl, rfl, fun p hp => ?_⟩
  cases p with
  | fnState | admin | faultq | int | ctxs | slots | cmds | engines | entries | lookups | windows | coherence =>
    exact absurd (by decide) hp
  | fnCfg => exact hfns FnSt.cfg fun _ => rfl
  | mbx => exact hfns FnSt.mbx fun _ => rfl
  | capture => exact hfns FnSt.capture fun _ => rfl
  | fnOther => exact hfns FnSt.fnOtherPart fun _ => rfl
  | _ => rfl

theorem settledEmpty_sameBut : SameBut [.counters, .intx, .int, .det, .out] (emptied s) (settledEmpty s) := by
  have hsettled : SameBut [.counters, .intx, .int, .det, .out] (emptied s)
      (foldState (fun p t => settleIntx s p t) (List.finRange 4) (emptied s)) :=
    foldState_frame (fun p t h => settleIntx_frame (by decide) h) (SameBut.refl _ _)
  exact settleEpochs_frame (by decide) hsettled

theorem dropAllLeases_leases : (dropAllLeases s).trans.leases = [] := by
  let s1 : State := { s with trans := { s.trans with leases := [] } }
  have hsame : SameBut [.counters, .int, .out] s1 (dropAllLeases s) :=
    foldState_frame (fun x t h => SameBut.ite (countPackage_frame (by decide) (emit_frame (by decide) h)) h) (SameBut.refl _ s1)
  exact hsame.leases (by decide)

/-- What `wipe` leaves after the package has been stripped and emptied. -/
theorem wipe_rest : SameBut [.counters, .intx, .int, .lookups, .peers, .windows, .det, .out] (emptied (stripped s)) (wipe s) ∧
    (wipe s).trans.leases = [] ∧ (wipe s).win.table = [] ∧ (wipe s).win.sends = [] := by
  have hleases : (stripped s).trans.leases = [] := by
    have hquarantined : SameBut [.requests] (dropAllLeases (freeEveryObject (stopEverything (freeDieLines (endWindowRequests s)))))
        (stripped s) := foldState_frame (fun p t h => quarantine_frame (by decide) h) (SameBut.refl _ _)
    exact (hquarantined.leases (by decide)).trans dropAllLeases_leases
  have hsettled : SameBut [.counters, .intx, .int, .det, .out] (emptied (stripped s)) (settledEmpty (stripped s)) :=
    settledEmpty_sameBut
  have hctxs : (settledEmpty (stripped s)).obj.ctxs = [] := hsettled.2.2 .ctxs (by decide)
  obtain ⟨htable, -, hrecvs⟩ := hsettled.windows (by decide)
  obtain ⟨hstalled, hkept⟩ := serveStalled_ends hctxs htable
  have hholds : NoHolds (serveStalled (settledEmpty (stripped s))) := by
    obtain ⟨htable', -, hrecvs'⟩ := hstalled.windows (by decide)
    refine ⟨htable'.trans htable, fun o ho => ?_⟩
    rw [hrecvs', hrecvs] at ho
    exact absurd ho List.not_mem_nil
  obtain ⟨hdry, hsends, hclosed, -⟩ := serveInboxes_dry hholds
  rw [wipe_eq]
  refine ⟨(hsettled.mono (by decide)).trans ((hstalled.mono (by decide)).trans (hdry.mono (by decide))), ?_, hclosed, ?_⟩
  · exact (hdry.leases (by decide)).trans (hkept.trans ((hsettled.leases (by decide)).trans hleases))
  · exact hsends.trans ((hstalled.sends (by decide)).trans (hsettled.sends (by decide)))

/-- A block reset's wipe changes none of the dictionary, the errors, the links, the power and the bring-up. -/
theorem wipe_sameBut : SameBut [.counters, .intx, .requests, .fnState, .admin, .faultq, .int, .fnOther, .ctxs, .objs, .slots,
    .cmds, .engines, .entries, .lookups, .peers, .windows, .coherence, .memory, .pool, .det, .draws, .out] s (wipe s) :=
  (stripped_sameBut.mono (by decide)).trans ((emptied_sameBut.mono (by decide)).trans (wipe_rest.1.mono (by decide)))

/-- Nothing of the work of a package is there. -/
def Bare (t : State) : Prop := t.obj.ctxs = [] ∧ t.cmd.table = [] ∧ t.trans.leases = [] ∧
  (∀ b ∈ t.trans.banks, b = []) ∧ t.win.table = [] ∧ t.win.sends = [] ∧ t.win.filter = []

theorem SameBut.filter (h : SameBut L s t) (hl : .coherence ∉ L) : t.win.filter = s.win.filter :=
  congrArg (·.2.1) (h.2.2 .coherence hl : t.win.coherencePart = s.win.coherencePart)

theorem SameBut.banks (h : SameBut L s t) (hl : .entries ∉ L) : t.trans.banks = s.trans.banks :=
  congrArg (·.1) (h.2.2 .entries hl : t.trans.entriesPart = s.trans.entriesPart)

theorem SameBut.scrubs (h : SameBut L s t) (hl : .pool ∉ L) : t.pool.scrubs = s.pool.scrubs :=
  congrArg (·.2.2.2.2.2.2.2.2.2.1) (h.2.2 .pool hl : t.pool.poolPart = s.pool.poolPart)

theorem Bare.after (h : Bare s) (k : SameBut L s t)
    (hl : ∀ p ∈ [StatePart.ctxs, .cmds, .entries, .lookups, .windows, .coherence], p ∉ L) : Bare t := by
  obtain ⟨hctxs, htable, hleases, hbanks, hwins, hsends, hfilter⟩ := h
  exact ⟨(k.2.2 .ctxs (hl _ (by decide))).trans hctxs, (k.2.2 .cmds (hl _ (by decide))).trans htable,
    (k.leases (hl _ (by decide))).trans hleases, k.banks (hl _ (by decide)) ▸ hbanks, (k.windows (hl _ (by decide))).1.trans hwins,
    (k.sends (hl _ (by decide))).trans hsends, (k.filter (hl _ (by decide))).trans hfilter⟩

/-- A block reset leaves no context, command, lease, entry, window, operation or held line (R385). -/
theorem wipe_bare : Bare (wipe s) := by
  obtain ⟨hrest, hleases, hwins, hsends⟩ := wipe_rest (s := s)
  generalize stripped s = v at hrest
  have hctxs : (wipe s).obj.ctxs = (emptied v).obj.ctxs := hrest.2.2 .ctxs (by decide)
  have htable : (wipe s).cmd.table = (emptied v).cmd.table := hrest.2.2 .cmds (by decide)
  have hbanks : (wipe s).trans.banks = (emptied v).trans.banks := hrest.banks (by decide)
  refine ⟨hctxs, htable, hleases, fun b hb => ?_, hwins, hsends, hrest.filter (by decide)⟩
  rw [hbanks] at hb
  obtain ⟨x, -, rfl⟩ := List.mem_map.1 hb
  rfl

/-- A block reset frees every object and queues its scrub, turns every coherent window OFF, and ends every stall
(R385, R386). -/
theorem wipe_frees : (wipe s).obj.objs = [] ∧ (∀ c ∈ (wipe s).win.coh, c = (.off, .none)) ∧
    (∀ f ∈ (wipe s).fns, f.stallGtc = 0) ∧
    ∀ o ∈ s.obj.objs, obj? s o.slot = some o → objectScrub o ∈ (wipe s).pool.scrubs := by
  obtain ⟨hrest, -, -, -⟩ := wipe_rest (s := s)
  let u := stopEverything (freeDieLines (endWindowRequests s))
  have hbefore : SameBut [.fnOther, .memory, .draws, .out] s u := by
    refine stopEverything_frame (by decide) (freeDieLines_frame (by decide) (endWindowRequests_frame (by decide) ?_))
    exact SameBut.refl _ s
  have hafter : SameBut [.counters, .int, .lookups, .out, .requests] (freeEveryObject u) (stripped s) :=
    foldState_frame (fun p t h => quarantine_frame (by decide) h) (dropAllLeases_frame (by decide) (SameBut.refl _ _))
  obtain ⟨hobjs, hscrubs⟩ := freeEveryObject_frees (s := u)
  have huobjs : u.obj.objs = s.obj.objs := hbefore.2.2 .objs (by decide)
  clear_value u
  generalize stripped s = v at hrest hafter
  have hvobjs : v.obj.objs = (freeEveryObject u).obj.objs := hafter.2.2 .objs (by decide)
  have hvscrubs : v.pool.scrubs = (freeEveryObject u).pool.scrubs := hafter.scrubs (by decide)
  have htobjs : (wipe s).obj.objs = (emptied v).obj.objs := hrest.2.2 .objs (by decide)
  have htscrubs : (wipe s).pool.scrubs = (emptied v).pool.scrubs := hrest.scrubs (by decide)
  have htcoh : (wipe s).win.coh = (emptied v).win.coh := hrest.coh (by decide)
  have hstates : (wipe s).fns.map FnSt.fnStatePart = (emptied v).fns.map FnSt.fnStatePart := hrest.2.2 .fnState (by decide)
  refine ⟨htobjs.trans (hvobjs.trans hobjs), fun c hc => ?_, fun f hf => ?_, fun o ho hfirst => ?_⟩
  · rw [htcoh] at hc
    obtain ⟨x, -, rfl⟩ := List.mem_map.1 hc
    rfl
  · have hmem : f.fnStatePart ∈ (emptied v).fns.map FnSt.fnStatePart := hstates ▸ List.mem_map_of_mem hf
    obtain ⟨g, hg, hsame⟩ := List.mem_map.1 hmem
    obtain ⟨x, -, rfl⟩ := List.mem_map.1 hg
    exact (congrArg (·.2.2.2) hsame).symm
  · rw [htscrubs, show (emptied v).pool.scrubs = v.pool.scrubs from rfl, hvscrubs]
    refine hscrubs o (huobjs ▸ ho) ?_
    rw [obj?, huobjs]
    exact hfirst

end Emptied

end Sys2Proof.Machine
end

section
/-!
CLAIM. Block resets and package resets (12_errors, R384 to R386; 15_bringup_firmware, R440, R441): the obligation O50.
-/
namespace Sys2Proof.Machine

section Resets
variable {s t u : State} {L : List StatePart}

/-! ### The start of a block reset (R385) -/

/-- The package is resetting, its bring-up step has ended, and its records have been issued. -/
def resetBegun (s : State) : State := endStep (modErr (fun x => { x with pkg := .resetting, blockPending := false }) (flushRecords s))

theorem endStep_sameBut : SameBut [.boot] s (endStep s) := endStep_frame (by decide) (SameBut.refl _ s)

theorem endStep_result (h : s.boot.result = .running) : (endStep s).boot.result = .blockReset := by
  unfold endStep
  dsimp only
  rw [if_pos h]

theorem modErr_sameBut {f : ErrSt → ErrSt} : SameBut [.err] s (modErr f s) := by
  refine ⟨rfl, rfl, fun p hp => ?_⟩
  cases p with
  | err => exact absurd (by decide) hp
  | _ => rfl

theorem modErr_boot {f : ErrSt → ErrSt} : (modErr f s).boot = s.boot := rfl

theorem flushRecords_sameBut : SameBut [.counters, .links, .intx, .ats, .fnCfg, .int, .power, .out] s (flushRecords s) :=
  flushRecords_frame (by decide) (SameBut.refl _ s)

theorem resetBegun_sameBut : SameBut [.counters, .links, .intx, .ats, .fnCfg, .int, .power, .out, .err, .boot] s (resetBegun s) :=
  (flushRecords_sameBut.mono (by decide)).trans ((modErr_sameBut.mono (by decide)).trans (endStep_sameBut.mono (by decide)))

/-- A block reset that starts leaves nothing of the package's work and objects, and keeps the dictionary and the stored
set (R385, R386). -/
theorem startBlockReset_resets : Bare (startBlockReset s) ∧ (startBlockReset s).obj.objs = [] ∧
    (∀ c ∈ (startBlockReset s).win.coh, c = (.off, .none)) ∧ (∀ f ∈ (startBlockReset s).fns, f.stallGtc = 0) ∧
    (s.boot.result = .running → (startBlockReset s).boot.result = .blockReset) ∧
    (∀ o ∈ s.obj.objs, obj? s o.slot = some o → objectScrub o ∈ (startBlockReset s).pool.scrubs) ∧
    (startBlockReset s).err.pkg = .resetting ∧ (startBlockReset s).err.blockPending = false ∧
    (startBlockReset s).od = s.od ∧ (startBlockReset s).stored = s.stored := by
  have hrun : startBlockReset s = wipe (resetBegun s) := rfl
  have hbegun : SameBut [.counters, .links, .intx, .ats, .fnCfg, .int, .power, .out, .err, .boot] s (resetBegun s) :=
    resetBegun_sameBut
  have hobjs : (resetBegun s).obj.objs = s.obj.objs := hbegun.2.2 .objs (by decide)
  have herr : (wipe (resetBegun s)).err = (resetBegun s).err := wipe_sameBut.2.2 .err (by decide)
  have herr' : (resetBegun s).err = { (flushRecords s).err with pkg := .resetting, blockPending := false } :=
    endStep_sameBut.2.2 .err (by decide)
  have hboot : (wipe (resetBegun s)).boot = (resetBegun s).boot := wipe_sameBut.2.2 .boot (by decide)
  have hflushed : (flushRecords s).boot = s.boot := flushRecords_sameBut.2.2 .boot (by decide)
  have hod : (wipe (resetBegun s)).od = (resetBegun s).od := wipe_sameBut.2.2 .od (by decide)
  have hstored : (wipe (resetBegun s)).stored = (resetBegun s).stored := wipe_sameBut.2.2 .stored (by decide)
  obtain ⟨hfreed, hcoh, hstalls, hscrubs⟩ := wipe_frees (s := resetBegun s)
  rw [hrun]
  refine ⟨wipe_bare, hfreed, hcoh, hstalls, fun h => ?_, fun o ho hfirst => hscrubs o (by rw [hobjs]; exact ho) ?_, ?_, ?_, ?_, ?_⟩
  · rw [hboot, resetBegun]
    refine endStep_result ?_
    rw [modErr_boot, hflushed, h]
  · rw [obj?, hobjs]; exact hfirst
  · rw [herr, herr']
  · rw [herr, herr']
  · exact hod.trans (hbegun.2.2 .od (by decide))
  · exact hstored.trans (hbegun.2.2 .stored (by decide))

/-! ### The end of a block reset (R375, R385, R386) -/

theorem restartCore_sameBut : SameBut [.boot, .sec] s (restartCore s) := by
  refine ⟨rfl, rfl, fun p hp => ?_⟩
  cases p with
  | boot | sec => exact absurd (by decide) hp
  | _ => rfl

/-- The management core has restarted where that was asked for. -/
def coreSettled (s : State) : State := if s.err.coreRestart then restartCore (wipe (endStep s)) else wipe (endStep s)

/-- A package after its block reset, before port 0 trains: its bring-up state is settled, and FnResetGtc is written. -/
def resetRegisters (lost : Bool) (st : BringUp) (badPairs : List Src) (s : State) : State :=
  modErr (fun x => { x with pkg := .normal, wireFaults := badPairs, coreRestart := false, pinContexts := [], pinBlock := false })
    { s with
      boot := { s.boot with state := st }
      idle := 0
      fns := s.fns.map fun x =>
        let x := if lost then unready x else x
        { x with resetGtc := s.gtc } }

theorem endBlockReset_eq {badPairs : List Src} : ∃ lost st,
    endBlockReset badPairs s = trainPort0 (resetRegisters lost st badPairs (coreSettled s)) := ⟨_, _, rfl⟩

theorem unready_registers {x : FnSt} : (unready x).cfg = x.cfg ∧ (unready x).mbx = x.mbx ∧ (unready x).admin = x.admin ∧
    (unready x).faultq = x.faultq ∧ (unready x).int = x.int ∧ (unready x).capture = x.capture ∧
    (unready x).fnOtherPart = x.fnOtherPart := by
  unfold unready
  split <;> exact ⟨rfl, rfl, rfl, rfl, rfl, rfl, rfl⟩

theorem resetRegisters_sameBut {lost : Bool} {st : BringUp} {badPairs : List Src} :
    SameBut [.err, .boot, .idle, .fnState] s (resetRegisters lost st badPairs s) := by
  have hfns {β : Type} (f : FnSt → β) (hr : ∀ x n, f { x with resetGtc := n } = f x) (hu : ∀ x, f (unready x) = f x) :
      (resetRegisters lost st badPairs s).fns.map f = s.fns.map f := by
    rw [show (resetRegisters lost st badPairs s).fns = s.fns.map fun x =>
      let x := if lost then unready x else x
      { x with resetGtc := s.gtc } from rfl, List.map_map]
    refine List.map_congr_left fun x _ => ?_
    dsimp only [Function.comp]
    rw [hr]
    split
    · exact hu x
    · rfl
  refine ⟨rfl, rfl, fun p hp => ?_⟩
  cases p with
  | err | boot | idle | fnState => exact absurd (by decide) hp
  | fnCfg => exact hfns FnSt.cfg (fun _ _ => rfl) fun x => unready_registers.1
  | mbx => exact hfns FnSt.mbx (fun _ _ => rfl) fun x => unready_registers.2.1
  | admin => exact hfns FnSt.admin (fun _ _ => rfl) fun x => unready_registers.2.2.1
  | faultq => exact hfns FnSt.faultq (fun _ _ => rfl) fun x => unready_registers.2.2.2.1
  | int => exact hfns FnSt.int (fun _ _ => rfl) fun x => unready_registers.2.2.2.2.1
  | capture => exact hfns FnSt.capture (fun _ _ => rfl) fun x => unready_registers.2.2.2.2.2.1
  | fnOther => exact hfns FnSt.fnOtherPart (fun _ _ => rfl) fun x => unready_registers.2.2.2.2.2.2
  | _ => rfl

theorem trainPort0_sameBut : SameBut [.links, .intx, .ats, .port0, .sec, .boot, .draws, .out] s (trainPort0 s) :=
  trainPort0_frame (by decide) (SameBut.refl _ s)

/-- Port 0 awaits fall-back training, and trains unless its reset pin is asserted (R78, R385). -/
theorem trainPort0_trains (hports : s.ports.length = 4) : (trainPort0 s).port0.mode = 0 ∧
    ((getPort s 0).perst = true → (getPort (trainPort0 s) 0).link = .down) ∧
    ((getPort s 0).perst = false → (getPort (trainPort0 s) 0).link = .training ∧ .portTraining 0 ∈ (trainPort0 s).out) := by
  unfold trainPort0
  split
  · rename_i hperst
    refine ⟨rfl, fun _ => ?_, fun h => absurd hperst (by rw [h]; decide)⟩
    exact congrArg PortSt.link (getPort_dropLink hports)
  · rename_i hperst
    have hnonce : SameBut [.port0, .sec, .draws, .out] (awaitFallback (dropLink 0 .training s))
        (linkNonceOut (awaitFallback (dropLink 0 .training s))) := linkNonceOut_frame (by decide) (SameBut.refl _ _)
    have hlink : (getPort (linkNonceOut (awaitFallback (dropLink 0 .training s))) 0).link =
        (getPort (dropLink 0 .training s) 0).link := congrArg PortSt.link (hnonce.getPort (by decide) 0)
    obtain ⟨out, nonce, hmode⟩ := linkNonceOut_port0 (s := awaitFallback (dropLink 0 .training s))
    refine ⟨congrArg Port0St.mode hmode, fun h => absurd h hperst, fun _ => ⟨?_, List.mem_cons_self⟩⟩
    exact hlink.trans (congrArg PortSt.link (getPort_dropLink hports))

/-- A block reset that is done (R375, R385, R386). -/
theorem endBlockReset_ends (hinv : Inv s) {badPairs : List Src} : let t := endBlockReset badPairs s
    Bare t ∧ t.err.pkg = .normal ∧ t.err.wireFaults = badPairs ∧ t.idle = 0 ∧ t.port0.mode = 0 ∧
      (∀ f ∈ t.fns, f.resetGtc = s.gtc) ∧ ((getPort s 0).perst = true → (getPort t 0).link = .down) ∧
      ((getPort s 0).perst = false → (getPort t 0).link = .training ∧ .portTraining 0 ∈ t.out) := by
  obtain ⟨lost, st, hrun⟩ := endBlockReset_eq (s := s) (badPairs := badPairs)
  have hcore : SameBut [.boot, .sec] (wipe (endStep s)) (coreSettled s) :=
    SameBut.ite (restartCore_sameBut) (SameBut.refl _ _)
  have hregisters : SameBut [.err, .boot, .idle, .fnState] (coreSettled s) (resetRegisters lost st badPairs (coreSettled s)) :=
    resetRegisters_sameBut
  have htrained : SameBut [.links, .intx, .ats, .port0, .sec, .boot, .draws, .out] (resetRegisters lost st badPairs (coreSettled s))
      (trainPort0 (resetRegisters lost st badPairs (coreSettled s))) := trainPort0_sameBut
  have hended : SameBut [.boot] s (endStep s) := endStep_sameBut
  have hwiped : SameBut [.counters, .intx, .requests, .fnState, .admin, .faultq, .int, .fnOther, .ctxs, .objs, .slots, .cmds,
      .engines, .entries, .lookups, .peers, .windows, .coherence, .memory, .pool, .det, .draws, .out] (endStep s)
      (wipe (endStep s)) := wipe_sameBut
  have hbare : Bare (coreSettled s) := (wipe_bare (s := endStep s)).after hcore (by decide)
  have hinv' : Inv (wipe (endStep s)) := (wipe_ok (endStep_ok (Ok.refl s))).inv hinv
  rw [hrun]
  generalize wipe (endStep s) = w at hwiped hcore hinv'
  generalize coreSettled s = v at *
  have hports : (resetRegisters lost st badPairs v).ports.length = 4 := by
    rw [hregisters.ports_length (by decide), hcore.ports_length (by decide), hinv'.ports]
  have hgtc : v.gtc = s.gtc := (hcore.2.2 .gtc (by decide)).trans ((hwiped.2.2 .gtc (by decide)).trans
    (hended.2.2 .gtc (by decide)))
  have hperst : (getPort (resetRegisters lost st badPairs v) 0).perst = (getPort s 0).perst := by
    have hlinks : (getPort (resetRegisters lost st badPairs v) 0).linksPart = (getPort s 0).linksPart := by
      rw [hregisters.port_links (by decide), hcore.port_links (by decide), hwiped.port_links (by decide),
        hended.port_links (by decide)]
    exact congrArg (·.2.2.2.1) hlinks
  obtain ⟨hmode, hdown, htraining⟩ := trainPort0_trains hports
  have herr : (trainPort0 (resetRegisters lost st badPairs v)).err = (resetRegisters lost st badPairs v).err :=
    htrained.2.2 .err (by decide)
  have hidle : (trainPort0 (resetRegisters lost st badPairs v)).idle = (resetRegisters lost st badPairs v).idle :=
    htrained.2.2 .idle (by decide)
  have hstates : (trainPort0 (resetRegisters lost st badPairs v)).fns.map FnSt.fnStatePart =
      (resetRegisters lost st badPairs v).fns.map FnSt.fnStatePart := htrained.2.2 .fnState (by decide)
  refine ⟨(hbare.after hregisters (by decide)).after htrained (by decide), ?_, ?_, ?_, hmode, fun f hf => ?_, ?_, ?_⟩
  · rw [herr]; rfl
  · rw [herr]; rfl
  · rw [hidle]; rfl
  · have hmem : f.fnStatePart ∈ (resetRegisters lost st badPairs v).fns.map FnSt.fnStatePart :=
      hstates ▸ List.mem_map_of_mem hf
    obtain ⟨g, hg, hsame⟩ := List.mem_map.1 hmem
    obtain ⟨x, -, rfl⟩ := List.mem_map.1 hg
    exact ((congrArg (·.2.2.1) hsame).symm).trans hgtc
  · exact fun h => hdown (hperst.trans h)
  · exact fun h => htraining (hperst.trans h)

/-! ### Errors and records keep the power-good inputs and the sessions (R379) -/

/-- Nothing but the firings of sources happened to the power registers, and every session stands. -/
def Awaiting (s t : State) : Prop := t.power.good = s.power.good ∧ t.mgmt.sessions = s.mgmt.sessions

theorem Awaiting.refl (s : State) : Awaiting s s := ⟨rfl, rfl⟩

theorem Awaiting.trans (h : Awaiting s t) (k : Awaiting t u) : Awaiting s u := ⟨k.1.trans h.1, k.2.trans h.2⟩

theorem SameBut.awaiting (h : SameBut L s t) (hl : ∀ p ∈ [StatePart.power, .mgmt], p ∉ L) : Awaiting s t :=
  ⟨congrArg PowerSt.good (h.2.2 .power (hl _ (by decide))), congrArg MgmtSt.sessions (h.2.2 .mgmt (hl _ (by decide)))⟩

theorem OnlyFires.good (h : OnlyFires s t) : t.power.good = s.power.good := by
  obtain ⟨phase, slept, late, cause, hpower⟩ := h
  rw [hpower]
  rfl

theorem fire_awaiting {g : Fun} {k : Nat} : Awaiting s (fire g k s) := by
  have hsame : SameBut [.counters, .links, .intx, .fnCfg, .int, .power, .out] s (fire g k s) :=
    fire_frame (by decide) (SameBut.refl _ s)
  exact ⟨fire_onlyFires.good, congrArg MgmtSt.sessions (hsame.2.2 .mgmt (by decide))⟩

theorem writeRecord_awaiting {ref : Ref} {v : Val} : Awaiting s (writeRecord ref v s) :=
  Awaiting.trans (t := { s with stored := _, mgmt := _ }) ⟨rfl, rfl⟩ (countPackage_sameBut.awaiting (by decide))

theorem putObj_awaiting {ref : Ref} {v : Val} : Awaiting s (putObj ref v s) := by
  have hset : Awaiting s (setObj ref.index ref.sub v s) := ⟨rfl, rfl⟩
  unfold putObj
  dsimp only
  split
  · split
    · exact hset.trans writeRecord_awaiting
    · exact hset
  · exact hset

theorem reactNmi_awaiting {e : Src} : Awaiting s (reactNmi e s) := by
  unfold reactNmi
  dsimp only
  split
  · exact Awaiting.trans (t := setObj 0x9000 7 (Val.bytes (fatalRecord (emit (.nmi e) s))) (emit (.nmi e) s)) ⟨rfl, rfl⟩
      writeRecord_awaiting
  · exact ⟨rfl, rfl⟩

theorem foldState_awaiting {α : Type} {f : α → State → State} (hf : ∀ a v, Awaiting v (f a v)) (l : List α) :
    Awaiting s (foldState f l s) :=
  foldState_keeps (P := Awaiting s) (fun a v h => h.trans (hf a v)) l (Awaiting.refl s)

theorem raiseError_awaiting {e : Src} {i : ErrInfo} : Awaiting s (raiseError e i s) := by
  unfold raiseError raiseWith
  split
  · exact .refl s
  · extract_lets r cls s1 s2 s3 s4 s5 s6
    have h3 : SameBut [.int, .capture, .err] s s3 := by
      have h1 : SameBut [.int, .capture, .err] s s1 := countError_frame (by decide) (SameBut.refl _ s)
      refine reactReset_frame (by decide) (SameBut.ite ?_ (SameBut.ite ?_ h1))
      · exact foldState_frame (fun a t h => captureFn_frame (by decide) h) (capturePackage_frame (by decide) h1)
      · exact foldState_frame (fun a t h => captureFn_frame (by decide) h) h1
    have h4 : Awaiting s s4 := by
      simp only [s4]
      split
      · exact (h3.awaiting (by decide)).trans reactNmi_awaiting
      · exact h3.awaiting (by decide)
    have h5 : Awaiting s s5 := h4.trans ((SameBut.ite (L := [.int, .err, .out])
      (reactPin_frame (by decide) (SameBut.refl _ s4)) (SameBut.refl _ s4)).awaiting (by decide))
    have h6 : Awaiting s s6 := by
      simp only [s6]
      split
      · refine h5.trans (foldState_awaiting (fun g t => ?_) _)
        exact Awaiting.trans (t := formEvent g 0 5 _ none _ _ t) ⟨rfl, rfl⟩ fire_awaiting
      · exact h5
    exact h6.trans ((SameBut.ite (L := [.fnCfg, .out]) (foldState_frame (fun a t h =>
      SameBut.ite (aerUncorrectable_frame (by decide) h) h) (SameBut.refl _ s6)) (SameBut.refl _ s6)).awaiting (by decide))

theorem putRecord_awaiting {g : Fun} {r : Nat} {x : Ring} {e : EvRec} : Awaiting s (putRecord g r x e s) := by
  unfold putRecord
  split
  · exact .refl s
  · extract_lets i s1
    have hwritten : SameBut [.ats, .out] s s1 := hostWrite_frame (by decide) (SameBut.refl _ s)
    have hset : SameBut [.int] s1 (setRing g r { x with producer := x.producer + 1 } s1) :=
      setRing_frame (by decide) (SameBut.refl _ s1)
    exact ((hwritten.awaiting (by decide)).trans (hset.awaiting (by decide))).trans fire_awaiting

theorem tryOverflow_awaiting {g : Fun} {r : Nat} : Awaiting s (tryOverflow g r s) := by
  unfold tryOverflow
  split
  · exact .refl s
  · split
    · exact putRecord_awaiting
    · exact .refl s

theorem deliverRecord_awaiting {g : Fun} {held : Bool} {e : EvRec} : Awaiting s (deliverRecord g held e s) := by
  unfold deliverRecord
  split
  · exact countFn_sameBut.awaiting (by decide)
  · split
    · exact putRecord_awaiting
    · have hdropped (x : Ring) : SameBut [.counters, .int] s (dropRecord g e.ring x s) :=
        dropRecord_frame (by decide) (SameBut.refl _ s)
      exact ((hdropped _).awaiting (by decide)).trans tryOverflow_awaiting

theorem modInt_awaiting {g : Fun} {f : IntSt → IntSt} : Awaiting s (modInt g f s) := ⟨rfl, rfl⟩

theorem releaseHeld_awaiting {g : Fun} : Awaiting s (releaseHeld g s) := by
  unfold releaseHeld
  split
  · exact .refl s
  · exact (foldState_awaiting (fun e v => modInt_awaiting.trans deliverRecord_awaiting) _).trans
      (foldState_awaiting (fun r v => tryOverflow_awaiting) _)

theorem writeEventRecord_awaiting {g : Fun} : Awaiting s (writeEventRecord g s) := by
  unfold writeEventRecord
  split
  · exact .refl s
  · split
    · split
      · exact .refl s
      · rename_i e es _
        have hheld (v : State) : SameBut [.counters, .int] v (holdRecord g e v) := holdRecord_frame (by decide) (SameBut.refl _ v)
        exact modInt_awaiting.trans ((hheld _).awaiting (by decide))
    · dsimp only
      split
      · exact releaseHeld_awaiting
      · exact releaseHeld_awaiting.trans (modInt_awaiting.trans deliverRecord_awaiting)

theorem flushRecords_awaiting : Awaiting s (flushRecords s) :=
  foldState_awaiting (fun _ _ => foldState_awaiting (fun _ _ => writeEventRecord_awaiting) _) _

/-! ### The package reset (R440, R441) -/

/-- The state that a package reset finds: what the errors left is written out, and what the pool cache held is lost. -/
def resetFound (s : State) : State :=
  let s := if s.err.packagePending then flushRecords s else s
  let s := settleRestore s
  if s.power.cycled then s else foldState (fun l s => freeSpan l.1 64 s) s.pool.stale s

theorem resetFound_keeps : (resetFound s).variant = s.variant ∧ (resetFound s).power.good = s.power.good := by
  unfold resetFound
  extract_lets s1 s2
  have h1 : s1.variant = s.variant ∧ s1.power.good = s.power.good := by
    simp only [s1]
    split
    · exact ⟨flushRecords_sameBut.1, flushRecords_awaiting.1⟩
    · exact ⟨rfl, rfl⟩
  have h2 : SameBut [.stored, .mgmt, .draws] s1 s2 := settleRestore_frame (by decide) (SameBut.refl _ s1)
  have h3 : SameBut [.memory, .draws] s2 (foldState (fun l s => freeSpan l.1 64 s) s2.pool.stale s2) :=
    foldState_frame (fun l t h => freeSpan_frame (by decide) h) (SameBut.refl _ s2)
  have hpower : s2.power = s1.power := h2.2.2 .power (by decide)
  split
  · exact ⟨h2.1.trans h1.1, (congrArg PowerSt.good hpower).trans h1.2⟩
  · exact ⟨h3.1.trans (h2.1.trans h1.1), (congrArg PowerSt.good ((h3.2.2 .power (by decide)).trans hpower)).trans h1.2⟩

/-- The stored set is in force over the values at reset. -/
def resetLoaded (badPairs : List Src) (u : State) : State :=
  let s := loadStored (bareState badPairs u)
  let s := resetFns (takeEffect { s with boot := { s.boot with resetting := true } })
  { s with power := { s.power with on := domainsAtReset s } }

theorem packageReset_eq {f : ResetFindings} : ∃ lost, packageReset f s = bootStops (trainPorts (resetMem f
    (raiseLost lost (resetLoaded f.badPairs (foldState recordLost lost (resetFound s)))))) := ⟨_, rfl⟩

theorem peersOf_sessions : (peersOf s).all (fun p => p.session.isNone) = true := by
  refine List.all_eq_true.2 fun x hx => ?_
  obtain ⟨p, -, hp⟩ := List.mem_filterMap.1 hx
  split at hp
  · cases hp
    rfl
  · cases hp

/-- What takes effect at a package reset starts every peer without a session, and leaves the package's work as it is. -/
theorem takeEffect_starts : (takeEffect s).win.peers.all (fun p => p.session.isNone) = true ∧
    (takeEffect s).mgmt.sessions = s.mgmt.sessions ∧ (Bare s → Bare (takeEffect s)) := by
  refine ⟨?_, rfl, fun h => h⟩
  unfold takeEffect
  dsimp only
  exact peersOf_sessions

/-- What the values at reset leave: nothing of the package's work, no session, and bring-up at its start. -/
theorem resetLoaded_starts {badPairs : List Src} : let t := resetLoaded badPairs s
    Bare t ∧ t.boot.resetting = true ∧ t.boot.state = .resetDone ∧ t.gtc = 0 ∧ t.variant = s.variant ∧ t.mgmt.sessions = [] ∧
      t.win.peers.all (fun p => p.session.isNone) = true ∧ t.power.good = s.power.good := by
  have hloaded : SameBut [.od] (bareState badPairs s) (loadStored (bareState badPairs s)) :=
    loadStored_frame (by decide) (SameBut.refl _ _)
  have hbare : Bare (bareState badPairs s) := by
    refine ⟨rfl, rfl, rfl, fun b hb => ?_, rfl, rfl, rfl⟩
    exact List.eq_of_mem_replicate (hb : b ∈ List.replicate 8 [])
  have hboot : (loadStored (bareState badPairs s)).boot = (bareState badPairs s).boot := hloaded.2.2 .boot (by decide)
  have hgtc : (loadStored (bareState badPairs s)).gtc = (bareState badPairs s).gtc := hloaded.2.2 .gtc (by decide)
  have hmgmt : (loadStored (bareState badPairs s)).mgmt = (bareState badPairs s).mgmt := hloaded.2.2 .mgmt (by decide)
  have hpower : (loadStored (bareState badPairs s)).power = (bareState badPairs s).power := hloaded.2.2 .power (by decide)
  have hvariant : (loadStored (bareState badPairs s)).variant = s.variant := hloaded.1
  have hbare' := hbare.after hloaded (by decide)
  unfold resetLoaded
  generalize loadStored (bareState badPairs s) = v at *
  have hstarted : Bare { v with boot := { v.boot with resetting := true } } := hbare'
  obtain ⟨hwpeers, hwsessions, hwbare⟩ := takeEffect_starts (s := { v with boot := { v.boot with resetting := true } })
  have heffect : SameBut [.mgmt, .entries, .peers, .det] { v with boot := { v.boot with resetting := true } }
      (takeEffect { v with boot := { v.boot with resetting := true } }) := takeEffect_frame (by decide) (SameBut.refl _ _)
  have hw := hwbare hstarted
  dsimp only
  generalize takeEffect { v with boot := { v.boot with resetting := true } } = w at *
  have hfns : SameBut [.fnCfg, .fnState] w (resetFns w) := resetFns_frame (by decide) (SameBut.refl _ w)
  have hreset := hw.after hfns (by decide)
  have hwboot : w.boot = { v.boot with resetting := true } := heffect.2.2 .boot (by decide)
  have hwgtc : w.gtc = v.gtc := heffect.2.2 .gtc (by decide)
  have hwpower : w.power = v.power := heffect.2.2 .power (by decide)
  have hrboot : (resetFns w).boot = w.boot := hfns.2.2 .boot (by decide)
  have hrmgmt : (resetFns w).mgmt = w.mgmt := hfns.2.2 .mgmt (by decide)
  have hrgtc : (resetFns w).gtc = w.gtc := hfns.2.2 .gtc (by decide)
  have hrpower : (resetFns w).power = w.power := hfns.2.2 .power (by decide)
  have hrpeers := hfns.peers (by decide)
  have hrvariant := hfns.1
  generalize resetFns w = r at *
  refine ⟨hreset, ?_, ?_, ?_, ?_, ?_, ?_, ?_⟩
  · rw [hrboot, hwboot]
  · rw [hrboot, hwboot, hboot]; rfl
  · rw [hrgtc, hwgtc, hgtc]; rfl
  · rw [hrvariant, heffect.1]; exact hvariant
  · rw [hrmgmt, hwsessions, hmgmt]; rfl
  · rw [hrpeers]; exact hwpeers
  · rw [hrpower, hwpower, hpower]; rfl

theorem raiseLost_awaiting {lost : List Ref} : Awaiting s (raiseLost lost s) := by
  unfold raiseLost
  split
  · exact .refl s
  · exact Awaiting.trans (t := { s with mgmt := { s.mgmt with degraded := true } }) ⟨rfl, rfl⟩
      (foldState_awaiting (fun _ _ => raiseError_awaiting) _)

theorem resetPool_awaiting {f : ResetFindings} : Awaiting s (resetPool f s) := by
  let v := foldState (remapAtReset (loggedRows s)) (rowPlan s f).rows (mapPool (rowPlan s f) s)
  have hmapped : SameBut [.memory, .pool, .draws] s v := by
    refine foldState_frame (fun r t h => remapAtReset_frame (by decide) h) (mapPool_frame (by decide) (SameBut.refl _ s))
  have hcleared (u : State) : Awaiting u (clearRowLog u) := by
    unfold clearRowLog
    split
    · exact .refl u
    · exact putObj_awaiting
  have hraised : Awaiting v (raiseMapErrors v) := by
    unfold raiseMapErrors
    dsimp only
    refine Awaiting.trans (foldState_awaiting (fun k u => foldState_awaiting (fun c w => ?_) _) _)
      (foldState_awaiting (fun _ _ => raiseError_awaiting) _)
    split
    · exact raiseError_awaiting
    · exact .refl w
  exact ((hmapped.awaiting (by decide)).trans hraised).trans (hcleared _)

theorem resetMem_awaiting {f : ResetFindings} : Awaiting s (resetMem f s) := by
  unfold resetMem
  split
  · exact resetPool_awaiting
  · exact ⟨rfl, rfl⟩

theorem resetMem_boot {f : ResetFindings} : (resetMem f s).boot.resetting = s.boot.resetting ∧
    (resetMem f s).boot.state = s.boot.state := by
  unfold resetMem
  split
  · have hpool : SameBut [.od, .stored, .counters, .mgmt, .links, .intx, .fnCfg, .int, .capture, .memory, .pool, .err, .power,
        .draws, .out] s (resetPool f s) := resetPool_frame (by decide) (SameBut.refl _ s)
    have hboot := hpool.2.2 .boot (by decide)
    exact ⟨congrArg BootSt.resetting hboot, congrArg BootSt.state hboot⟩
  · exact ⟨rfl, rfl⟩

theorem bootStops_boot : (bootStops s).boot.resetting = s.boot.resetting ∧ (bootStops s).boot.state = s.boot.state ∧
    (bootStops s).boot.poolWait = s.boot.poolWait := by
  unfold bootStops
  split <;> exact ⟨rfl, rfl, rfl⟩

/-- The parts that the end of a package reset may still change. -/
def resetTail : List StatePart := [.od, .stored, .counters, .mgmt, .links, .intx, .port0, .fnCfg, .int, .capture, .memory, .pool,
  .err, .sec, .power, .boot, .draws, .out]

/-- A package reset leaves nothing of the package's work; bring-up begins, and the pool's part waits for its supply
(R440, R441). -/
theorem packageReset_starts {f : ResetFindings} : let t := packageReset f s
    Bare t ∧ t.boot.resetting = true ∧ t.boot.state = .resetDone ∧ t.gtc = 0 ∧ t.variant = s.variant ∧ t.mgmt.sessions = [] ∧
      t.win.peers.all (fun p => p.session.isNone) = true ∧
      (s.power.good.getLsbD 2 = false → t.boot.poolWait = some f ∧ t.pool.regions = []) := by
  obtain ⟨lost, hrun⟩ := packageReset_eq (s := s) (f := f)
  obtain ⟨hvariant, hgood⟩ := resetFound_keeps (s := s)
  have hlost : SameBut [.stored] (resetFound s) (foldState recordLost lost (resetFound s)) :=
    foldState_frame (fun r t h => recordLost_frame (by decide) h) (SameBut.refl _ _)
  have hfound : (foldState recordLost lost (resetFound s)).power = (resetFound s).power := hlost.2.2 .power (by decide)
  obtain ⟨hbare, hresetting, hstate, hgtc, hvar, hsessions, hpeers, hgood'⟩ :=
    resetLoaded_starts (s := foldState recordLost lost (resetFound s)) (badPairs := f.badPairs)
  rw [hlost.1, hvariant] at hvar
  rw [hfound, hgood] at hgood'
  rw [hrun]
  generalize resetLoaded f.badPairs (foldState recordLost lost (resetFound s)) = v at *
  let w := raiseLost lost v
  let m := resetMem f w
  have hw : SameBut resetTail v w := raiseLost_frame (by decide) (SameBut.refl _ v)
  have hm : SameBut resetTail w m := resetMem_frame (by decide) (SameBut.refl _ w)
  have hports : SameBut [.links, .port0, .sec, .draws, .out] m (trainPorts m) := trainPorts_frame (by decide) (SameBut.refl _ m)
  have hstops : SameBut [.boot] (trainPorts m) (bootStops (trainPorts m)) := bootStops_frame (by decide) (SameBut.refl _ _)
  have hall : SameBut resetTail v (bootStops (trainPorts m)) :=
    hw.trans (hm.trans ((hports.mono (by decide)).trans (hstops.mono (by decide))))
  have hwboot : w.boot = v.boot := (raiseLost_frame (L := [.od, .stored, .counters, .mgmt, .links, .intx, .fnCfg, .int, .capture,
    .err, .power, .out]) (by decide) (SameBut.refl _ v)).2.2 .boot (by decide)
  have hmboot : (trainPorts m).boot = m.boot := hports.2.2 .boot (by decide)
  obtain ⟨hboot1, hboot2, hboot3⟩ := bootStops_boot (s := trainPorts m)
  obtain ⟨hmem1, hmem2⟩ := resetMem_boot (s := w) (f := f)
  have hawait : Awaiting v (bootStops (trainPorts m)) := (raiseLost_awaiting.trans resetMem_awaiting).trans
    ((hports.awaiting (by decide)).trans (hstops.awaiting (by decide)))
  refine ⟨hbare.after hall (by decide), ?_, ?_, ?_, hall.1.trans hvar, hawait.2.trans hsessions, ?_, fun hlow => ?_⟩
  · rw [hboot1, hmboot, show m.boot.resetting = w.boot.resetting from hmem1, hwboot, hresetting]
  · rw [hboot2, hmboot, show m.boot.state = w.boot.state from hmem2, hwboot, hstate]
  · exact (hall.2.2 .gtc (by decide)).trans hgtc
  · rw [hall.peers (by decide)]; exact hpeers
  · have hwlow : w.power.good.getLsbD 2 = false := by
      rw [show w.power.good = v.power.good from raiseLost_awaiting.1, hgood', hlow]
    have hheld : m = holdPool f w := if_neg (by rw [hwlow]; decide)
    have hregions : (bootStops (trainPorts m)).pool = m.pool :=
      (hstops.pool_eq (by decide)).trans (hports.pool_eq (by decide))
    rw [hboot3, hmboot, hregions, hheld]
    exact ⟨rfl, rfl⟩

/-- The pool's part of a package reset waits no longer once it has run, and its keys are loaded (R440; 13, R403). -/
theorem finishPool_waits : (finishPool s).boot.poolWait = none ∧
    ∀ f, s.boot.poolWait = some f → (finishPool s).sec.lineKeys = poolKeys (secretUsed s.sec 1) := by
  cases hwait : s.boot.poolWait with
  | none =>
    rw [show finishPool s = s by rw [finishPool, hwait]]
    exact ⟨hwait, fun f h => absurd h (by simp)⟩
  | some f =>
    let w : State := { s with boot := { s.boot with poolWait := none } }
    have hpool : SameBut [.od, .stored, .counters, .mgmt, .links, .intx, .fnCfg, .int, .capture, .memory, .pool, .err, .power,
        .draws, .out] w (resetPool f w) := resetPool_frame (by decide) (SameBut.refl _ w)
    have hboot : (resetPool f w).boot = w.boot := hpool.2.2 .boot (by decide)
    have hsec : (resetPool f w).sec = s.sec := hpool.2.2 .sec (by decide)
    have hrun : finishPool s = { resetPool f w with sec := { (resetPool f w).sec with
        lineKeys := poolKeys (secretUsed (resetPool f w).sec 1) } } := by rw [finishPool, hwait]
    rw [hrun]
    refine ⟨congrArg BootSt.poolWait hboot, fun _ _ => ?_⟩
    rw [hsec]

end Resets

/-- Settles O50: the wipe of a block reset empties every table, and what runs after it adds nothing to them. -/
theorem resets : Obligations.Resets := by
  unfold Obligations.Resets
  intro s hinv
  refine ⟨⟨fun rq hacc hpkg => ?written, fun hpending hfatal hresetting => ?selected, fun badPairs hresetting hboot => ?ends,
    fun f hgood hrise => ?package⟩, fun hresetting hgood hfatal => ?done⟩
  case written =>
    obtain ⟨hbare, hobjs, hcoh, hstalls, hresult, hscrubs, hpkg', -, hod, hstored⟩ :=
      startBlockReset_resets (s := emit (.objectStatus rq ⟨0x9000, 3⟩ .ok) s)
    exact Gives.of_eq rfl (requestWrite_accepted hacc (if_neg hpkg))
      ⟨hbare, ⟨hobjs, hcoh, hstalls, hresult, hscrubs⟩, hpkg', hod, hstored⟩
  case selected =>
    obtain ⟨hbare, hobjs, hcoh, hstalls, hresult, hscrubs, hpkg, hcleared, hod, hstored⟩ := startBlockReset_resets (s := s)
    exact Gives.of_eq rfl (if_pos (by simp [hpending, hfatal, hresetting]))
      ⟨hbare, ⟨hobjs, hcoh, hstalls, hresult, hscrubs⟩, hpkg, hcleared, hod, hstored⟩
  case ends =>
    exact Gives.of_eq rfl (if_pos (by simp [hresetting, hboot])) (endBlockReset_ends hinv)
  case package =>
    have hmay : resetMayRun s = true := by
      simp only [resetMayRun, hgood, Bool.true_and]
      cases h : s.power.coreRise with
      | none => rfl
      | some t => simpa using hrise t h
    exact Gives.of_eq rfl (if_pos hmay) packageReset_starts
  case done =>
    have hrun : exec .resetDone s = .next { finishPool s with boot := { (finishPool s).boot with resetting := false } } :=
      congrArg Host.Outcome.next (if_pos (by simp [hresetting, hgood, hfatal]))
    refine ⟨_, hrun, rfl, finishPool_waits.1, fun hnone => ?_, fun f hwait => finishPool_waits.2 f hwait⟩
    rw [show finishPool s = s by rw [finishPool, hnone]]

end Sys2Proof.Machine
end

section
/-!
SUPPORT and CLAIM. Tiles of a transfer (07_transfers_faults, R229 to R239): whose turn it is at an engine, the delivery of
a tile, what a tile that faults leaves, and the obligation O36.
-/
namespace Sys2Proof.Machine

section TransferTiles
variable {s t u : State} {L : List StatePart} {e : Engine} {z0 : EngineSt} {k : CtxId × Nat} {c : CtxId} {q : Nat}
  {x : Cmd} {y : Xfer} {cx : Ctx} {g : Fun} {tl : Tile}

/-! ### Turns of an engine (R237) -/

theorem nextTurn_ok {z : EngineSt} (h : nextTurn s z = (z0, some k)) : turnOk s k = true := by
  unfold nextTurn at h
  split at h
  · rename_i j hj
    cases h
    have hfound := List.find?_some hj
    exact (Bool.and_eq_true _ _ ▸ hfound).2
  · obtain ⟨-, hfind⟩ := Prod.mk.inj h
    exact List.find?_some hfind

/-- A command whose turn it is may be served (R237). -/
theorem pickTurn_ok {z : EngineSt} (h : pickTurn s z = (z0, some k)) : turnOk s k = true := by
  unfold pickTurn at h
  split at h
  · exact nextTurn_ok h
  · rename_i j _
    split at h
    · cases h
    · split at h
      · rename_i hgoes
        cases h
        unfold stepGoes at hgoes
        exact (Bool.and_eq_true _ _ ▸ hgoes).1
      · exact nextTurn_ok h

/-- What holds of a command that may be served: its context is READY, and it is neither faulted nor in delivery. -/
theorem turnOk_ready (hturn : turnOk s k = true) (hx : cmd? s k.1 k.2 = some x) (hcx : ctx? s k.1 = some cx) :
    cx.state = .ready := by
  obtain ⟨hc, -⟩ := cmd_key hx
  cases hy : x.xfer with
  | none => simp [turnOk, canTurn, hx, hy] at hturn
  | some y =>
    simp only [turnOk, canTurn, hx, hy, hc, hcx, Bool.and_eq_true, beq_iff_eq] at hturn
    obtain ⟨⟨⟨⟨⟨⟨hready, -⟩, -⟩, -⟩, -⟩, -⟩, -⟩ := hturn
    exact hready

theorem engineTurn_serves (hpick : pickTurn s (getEngine s e) = (z0, some k)) (hx : cmd? s k.1 k.2 = some x) :
    engineTurn e s = turnCmd x (modEngine e (fun _ => servedBy s z0 k) s) := by
  unfold engineTurn
  rw [hpick]
  dsimp only
  rw [hx]

theorem modEngine_sameBut {f : EngineSt → EngineSt} : SameBut [.engines] s (modEngine e f s) :=
  modEngine_frame (by decide) (SameBut.refl _ s)

/-- What an engine holds once it serves a command: a stepped one keeps its place for its step, any other goes to the end
of the round (R237; 05, R183). -/
theorem served_engine (hlen : s.cmd.engines.length = 32) (hx : cmd? s k.1 k.2 = some x) :
    (steppedKey s k = false → ∃ z, (modEngine e (fun _ => servedBy s z0 k) s).cmd.engines[e.val]? = some z ∧
      z.active = (z0.active.filter fun j => j ≠ k) ++ [k] ∧ z.serving = z0.serving) ∧
    (steppedKey s k = true → ∃ z, (modEngine e (fun _ => servedBy s z0 k) s).cmd.engines[e.val]? = some z ∧
      z.active = z0.active ∧ z.serving = some k) := by
  have hat : (modEngine e (fun _ => servedBy s z0 k) s).cmd.engines[e.val]? = some (servedBy s z0 k) := by
    rw [modEngine]
    dsimp only
    rw [List.getElem?_modify, List.getElem?_eq_getElem (by rw [hlen]; exact e.isLt)]
    simp
  refine ⟨fun h => ⟨_, hat, ?_⟩, fun h => ⟨_, hat, ?_⟩⟩
  · rw [servedBy, h, if_neg (by decide)]
    refine ⟨congrArg (· ++ [k]) (List.filter_congr fun j _ => ?_), rfl⟩
    by_cases h : j = k <;> simp [h]
  · rw [servedBy, h, if_pos rfl, hx]
    exact ⟨rfl, rfl⟩

/-! ### What a turn does with a tile whose runs are translated (R232, R234) -/

/-- A tile's own runs, kept again, change nothing of its command. -/
theorem keepRuns_cmd (hx : cmd? s c q = some x) (hy : x.xfer = some y) (htl : y.tile = some tl) :
    cmd? (keepRuns x tl.src tl.dst tl.stop s) c q = some x := by
  obtain ⟨rfl, rfl⟩ := cmd_key hx
  refine (cmd_modCmd_some hx (by exact fun _ => ⟨rfl, rfl⟩)).trans ?_
  rw [hy]
  simp only [Option.map_some, htl]
  rw [← htl, ← hy]

/-- A tile whose translations are held and whose runs are complete moves on as it is. -/
theorem turnCmd_moves (hc : x.ctx = c) (hcx : ctx? s c = some cx) (hy : x.xfer = some y) (htl : y.tile = some tl)
    (hstop : tl.stop = none) (hheld : runsHeld s (tl.src ++ tl.dst) = true) :
    turnCmd x s = moveOn x y cx.fn tl (keepRuns x tl.src tl.dst tl.stop s) := by
  have hextend : extendTile x tl s = (s, tl) := by
    rw [extendTile, if_pos (by simp [stopWaits, hstop])]
  unfold turnCmd
  rw [hy, hc, hcx]
  dsimp only
  rw [htl]
  dsimp only
  rw [moveTile, hheld, if_neg (by decide), hextend]

/-- The state in which a tile moves on: its command's engine serves it. -/
def turnState (s : State) (e : Engine) (z0 : EngineSt) (k : CtxId × Nat) (x : Cmd) (tl : Tile) : State :=
  keepRuns x tl.src tl.dst tl.stop (modEngine e (fun _ => servedBy s z0 k) s)

theorem turnState_sameBut : SameBut [.engines, .cmds] s (turnState s e z0 k x tl) :=
  keepRuns_frame (by decide) (modEngine_frame (by decide) (SameBut.refl _ s))

theorem turnState_cmd (hx : cmd? s k.1 k.2 = some x) (hy : x.xfer = some y) (htl : y.tile = some tl) :
    cmd? (turnState s e z0 k x tl) k.1 k.2 = some x :=
  keepRuns_cmd ((modEngine_sameBut.cmd? (by decide)).trans hx) hy htl

theorem engineTurn_moves (hpick : pickTurn s (getEngine s e) = (z0, some k)) (hx : cmd? s k.1 k.2 = some x)
    (hcx : ctx? s k.1 = some cx) (hy : x.xfer = some y) (htl : y.tile = some tl) (hstop : tl.stop = none)
    (hheld : runsHeld s (tl.src ++ tl.dst) = true) :
    exec (.engineTurn e) s = .next (moveOn x y cx.fn tl (turnState s e z0 k x tl)) := by
  have hserved : SameBut [.engines] s (modEngine e (fun _ => servedBy s z0 k) s) := modEngine_sameBut
  refine congrArg Host.Outcome.next ((engineTurn_serves hpick hx).trans ?_)
  exact turnCmd_moves (cmd_key hx).1 ((hserved.ctx? (by decide)).trans hcx) hy htl hstop
    ((hserved.runsHeld (by decide)).trans hheld)

/-! ### A tile that faults (R232, R233) -/

/-- A tile whose first run that meets something meets a fault becomes faulted, and its record waits (R232, R240). -/
theorem moveOn_faults {side va : Nat} {code : TCode} (hx : cmd? s k.1 k.2 = some x) (hcx : ctx? s k.1 = some cx)
    (hmeets : tileMeets s x y cx.fn tl = some (side, .faults code va)) :
    moveOn x y cx.fn tl s = tileFault k.1 k.2 code side (sideNeed x.raw side) va (denyOf s x (sideNeed x.raw side) va)
      (countFn cx.fn 0x08 s) := by
  obtain ⟨hc, hq⟩ := cmd_key hx
  unfold moveOn
  rw [hmeets]
  simp only [tileStops, hc, hq, hcx]

/-- The fault of a tile is counted (R233). -/
theorem tileFault_counts {code : TCode} {side va : Nat} {need : Need} {deny : Option (Nat × PackageId)}
    (hx : cmd? s c q = some x) (hcx : ctx? s c = some cx) (hy : x.xfer = some y) (hr : cx.state = .ready)
    (hruns : faultqRuns (getFn s cx.fn).faultq = true) (hfull : faultqFull (getFn s cx.fn).faultq = false) :
    Counted s (tileFault c q code side need va deny s) (0xD100 + cx.fn.val) 10 := by
  let w := noteDeny cx.fn (getFn s cx.fn).faultq.nextId deny
    (modFaultq cx.fn (fun z => { z with nextId := nextFaultId z.nextId }) (cancelOps x.ctx x.q (x.tag.getD 0xFFFF) s))
  have hsame : SameBut [.peers, .windows, .out, .faultq, .fnOther] s w :=
    (modFaultq_frame (by decide) (cancelOps_frame (by decide) (SameBut.refl _ s))).trans (noteDeny_sameBut.mono (by decide))
  have hcounted : Counted s (faultNumbered x cx.fn deny s) (0xD100 + cx.fn.val) 10 :=
    (counted_count w (0xD100 + cx.fn.val) 10).of_counters (hsame.2.2 .counters (by decide))
  rw [tileFault_records hx hcx hy hr hruns hfull]
  exact hcounted.kept (.of_eq rfl)

/-! ### The delivery of a tile in the pool (R231, R234) -/

/-- A side whose runs all lie in the pool. -/
def AllPool (rs : List Run) : Prop := ∀ r ∈ rs, ∃ a, r.target = .pool a

theorem tileMeets_none (hpool : AllPool (tl.src ++ tl.dst)) (hstop : tl.stop = none) : tileMeets s x y g tl = none := by
  have hpass : (tileRuns tl).find? (fun r => runMeets s x y g r.1 r.2 != .passes) = none := by
    refine List.find?_eq_none.2 fun r hr => ?_
    have hmem : r.2 ∈ tl.src ++ tl.dst := by
      simp only [tileRuns, List.mem_append, List.mem_map] at hr ⊢
      rcases hr with ⟨z, hz, rfl⟩ | ⟨z, hz, rfl⟩
      · exact .inl hz
      · exact .inr hz
    obtain ⟨a, ha⟩ := hpool r.2 hmem
    simp [runMeets, ha]
  rw [tileMeets, hpass, hstop]
  rfl

theorem hostRead_pool (hpool : AllPool tl.src) : hostRead? tl = true := by
  have hnone : hostRuns tl.src = [] := by
    refine List.filterMap_eq_nil_iff.2 fun r hr => ?_
    obtain ⟨a, ha⟩ := hpool r hr
    simp [ha]
  rw [hostRead?, hnone]
  rfl

theorem SameBut.tileGated (h : SameBut L s t) (hl : .coherence ∉ L) : Machine.tileGated t tl = Machine.tileGated s tl := by
  simp only [Machine.tileGated, gated, gateLines, h.filter hl]

theorem SameBut.poisonedSource (h : SameBut L s t) (hl : .pool ∉ L) : Machine.poisonedSource t tl = Machine.poisonedSource s tl := by
  have hpoison : t.pool.poison = s.pool.poison := congrArg (·.2.2.2.2.1) (h.2.2 .pool hl : t.pool.poolPart = s.pool.poolPart)
  simp only [Machine.poisonedSource, poisoned, hpoison]

/-- A tile in the pool that nothing holds is delivered. -/
theorem moveOn_delivers (hpool : AllPool (tl.src ++ tl.dst)) (hstop : tl.stop = none) (hgate : tileGated s tl = false) :
    moveOn x y g tl s = deliverTile x y g tl (evictBefore x.ctx (poolRuns tl.src) s) := by
  unfold moveOn
  rw [tileMeets_none hpool hstop]
  dsimp only
  rw [if_neg (by simp [hostRead_pool fun r hr => hpool r (List.mem_append_left _ hr)]), if_neg (by simp [hgate])]

/-- The state in which the destination runs of a tile have been written, and what they then hold. -/
def movedRuns (x : Cmd) (g : Fun) (data : Bytes) (rs : List Run) (a : State × List (Nat × Bytes)) :
    State × List (Nat × Bytes) := rs.foldl (fun a r => moveRun x g data r a) a

/-- A delivery that begins writes the runs, sends the window data, and keeps the tile as begun. -/
theorem deliverTile_moves (hclean : poisonedSource s tl = none) : ∃ outs, deliverTile x y g tl s =
    modCmd x.ctx x.q (fun z => { z with
      xfer := z.xfer.map fun w => { w with tile := some { tl with begun := true, pieces := outs } } })
      (draw (sendOps x (freeData x.raw s.draws tl.dst (tileData s x tl))
        (movedRuns x g (freeData x.raw s.draws tl.dst (tileData s x tl)) tl.dst (draw s, [])).1)) := by
  unfold deliverTile
  rw [hclean]
  exact ⟨_, rfl⟩

theorem movedRuns_sameBut {data : Bytes} {outs : List (Nat × Bytes)} (rs : List Run) :
    SameBut [.counters, .ats, .int, .ctxs, .slots, .memory, .pool, .draws, .out] s (movedRuns x g data rs (s, outs)).1 := by
  have hmoved (a : State × List (Nat × Bytes))
      (h : SameBut [.counters, .ats, .int, .ctxs, .slots, .memory, .pool, .draws, .out] s a.1) :
      SameBut [.counters, .ats, .int, .ctxs, .slots, .memory, .pool, .draws, .out] s (movedRuns x g data rs a).1 := by
    induction rs generalizing a with
    | nil => exact h
    | cons r rs ih => exact ih _ (moveRun_frame (by decide) h)
  exact hmoved _ (SameBut.refl _ s)

/-- The parts that the delivery of a tile may change. -/
def deliveryParts : List StatePart := [.counters, .ats, .int, .ctxs, .slots, .memory, .pool, .draws, .out, .peers, .windows]

/-- The state of a delivery before its command keeps the tile as begun. -/
def deliveredState (x : Cmd) (g : Fun) (tl : Tile) (s : State) : State :=
  draw (sendOps x (freeData x.raw s.draws tl.dst (tileData s x tl))
    (movedRuns x g (freeData x.raw s.draws tl.dst (tileData s x tl)) tl.dst (draw s, [])).1)

theorem deliveredState_sameBut : SameBut deliveryParts s (deliveredState x g tl s) := by
  have hdraw : SameBut deliveryParts s (draw s) := draw_frame (by decide) (SameBut.refl _ s)
  have hmoved : SameBut deliveryParts (draw s) (movedRuns x g (freeData x.raw s.draws tl.dst (tileData s x tl)) tl.dst (draw s, [])).1 :=
    (movedRuns_sameBut tl.dst).mono (by decide)
  exact draw_frame (by decide) (sendOps_frame (by decide) (hdraw.trans hmoved))

/-- A tile in the pool goes into delivery, and its engine's place is that of its turn (R231, R237). -/
theorem delivery_begins (hpick : pickTurn s (getEngine s e) = (z0, some k)) (hx : cmd? s k.1 k.2 = some x)
    (hcx : ctx? s k.1 = some cx) (hy : x.xfer = some y) (htl : y.tile = some tl) (hpool : AllPool (tl.src ++ tl.dst))
    (hheld : runsHeld s (tl.src ++ tl.dst) = true) (hstop : tl.stop = none) (hgate : tileGated s tl = false)
    (hclean : poisonedSource s tl = none) : ∃ outs, exec (.engineTurn e) s = .next (modCmd x.ctx x.q (fun z => { z with
      xfer := z.xfer.map fun w => { w with tile := some { tl with begun := true, pieces := outs } } })
      (deliveredState x cx.fn tl (evictBefore x.ctx (poolRuns tl.src) (turnState s e z0 k x tl)))) := by
  have hturn : SameBut [.engines, .cmds] s (turnState s e z0 k x tl) := turnState_sameBut
  have hevict : SameBut [.memory, .draws, .out] (turnState s e z0 k x tl)
      (evictBefore x.ctx (poolRuns tl.src) (turnState s e z0 k x tl)) := evictBefore_frame (by decide) (SameBut.refl _ _)
  obtain ⟨outs, houts⟩ := deliverTile_moves (x := x) (y := y) (g := cx.fn)
    ((hevict.poisonedSource (by decide)).trans ((hturn.poisonedSource (by decide)).trans hclean))
  refine ⟨outs, (engineTurn_moves hpick hx hcx hy htl hstop hheld).trans (congrArg Host.Outcome.next ?_)⟩
  exact (moveOn_delivers hpool hstop ((hturn.tileGated (by decide)).trans hgate)).trans houts

/-! ### The bytes of a delivered tile (R228, R231) -/

/-- A run inside a line through the cache writes its bytes, or discards them at a poisoned line. -/
theorem writeRun_mem {a : Nat} {b : Bytes} : (writeRun a b false s).pool.mem = memWrite s.pool.mem a b ∨
    (writeRun a b false s).pool.mem = s.pool.mem := by
  unfold writeRun
  split
  · split
    · obtain ⟨stale, h⟩ := writeLine_back a b (clearPoison (lineOf a) s)
      rw [h]
      exact .inl rfl
    · exact .inr (congrArg PoolSt.mem (countPackage_sameBut.pool_eq (by decide)))
  · obtain ⟨stale, h⟩ := writeLine_back a b s
    rw [h]
    exact .inl rfl

theorem ByteKept.writeRun {a i : Nat} {b : Bytes} (h : ByteKept s i t) (hi : i < a ∨ a + b.length ≤ i) :
    ByteKept s i (Machine.writeRun a b false t) := by
  obtain ⟨hwf, hsame⟩ := h
  rcases writeRun_mem (s := t) (a := a) (b := b) with hmem | hmem
  · exact ⟨hmem ▸ memWrite_wf b hwf a, hmem ▸ (memGet_memWrite_outside hwf hi).trans hsame⟩
  · exact ⟨hmem ▸ hwf, hmem ▸ hsame⟩

/-- A write of a span through the cache, with poison or without, changes no byte outside the span (R287, R301). -/
theorem ByteKept.poolWrite {a i : Nat} {b : Bytes} (h : ByteKept s i t) (hi : i < a ∨ a + b.length ≤ i) :
    ByteKept s i (Machine.poolWrite a b false t) := by
  rw [Machine.poolWrite, linePieces_eq_map]
  refine foldState_keeps_of_mem (P := ByteKept s i) _ (fun p hp u hu => ?_) h
  obtain ⟨n, hn, rfl⟩ := List.mem_map.1 hp
  obtain ⟨len, hpiece, -, hin, -⟩ := linePiece_spec (a := a) (n := b.length) (k := n) (List.mem_range.1 hn)
  rw [hpiece]
  refine hu.writeRun ?_
  simp only [sliceBytes, List.length_map, List.length_range]
  omega

theorem SameBut.isFixed (h : SameBut L s t) (hl : .ctxs ∉ L) : Machine.isFixed t c = Machine.isFixed s c := by
  simp only [Machine.isFixed, h.ctx? hl]

theorem evictBefore_unfixed {runs : List (Nat × Nat × Nat)} (hfree : isFixed s c = false) : evictBefore c runs s = s := by
  rw [evictBefore, hfree, if_neg (by decide)]

/-- The run of a command outside a reduction and a fixed schedule writes the tile's bytes through the cache. -/
theorem moveRun_pool {data : Bytes} {r : Run} {a : Nat} {outs : List (Nat × Bytes)} (hpool : r.target = .pool a)
    (hop : hdrOpcode x.raw ≠ 0x11) (hfree : isFixed s x.ctx = false) :
    (moveRun x g data r (s, outs)).1 = poolWrite a (sliceBytes data r.pos r.bytes) false s := by
  unfold moveRun
  dsimp only
  rw [hpool, hfree]
  dsimp only
  rw [if_neg (by simpa using hop)]

theorem sliceBytes_length {b : Bytes} {off n : Nat} : (sliceBytes b off n).length = n := by simp [sliceBytes]

/-- A byte outside the runs of a side that lie in the pool. -/
def OutsideRuns (rs : List Run) (i : Nat) : Prop := ∀ r ∈ poolRuns rs, i < r.1 ∨ r.1 + r.2.1 ≤ i

/-- Writing the destination runs changes no byte outside them (R231). -/
theorem movedRuns_byteKept {data : Bytes} {i : Nat} (rs : List Run) (hop : hdrOpcode x.raw ≠ 0x11) (hpool : AllPool rs)
    (hout : OutsideRuns rs i) (a : State × List (Nat × Bytes)) (hfree : isFixed a.1 x.ctx = false)
    (hkept : ByteKept s i a.1) : ByteKept s i (movedRuns x g data rs a).1 := by
  induction rs generalizing a with
  | nil => exact hkept
  | cons r rs ih =>
    obtain ⟨u, outs⟩ := a
    obtain ⟨p, hp⟩ := hpool r List.mem_cons_self
    have hrun : (moveRun x g data r (u, outs)).1 = poolWrite p (sliceBytes data r.pos r.bytes) false u :=
      moveRun_pool hp hop hfree
    have hwritten : SameBut [.counters, .int, .memory, .pool, .out] u
        (poolWrite p (sliceBytes data r.pos r.bytes) false u) := poolWrite_frame (by decide) (SameBut.refl _ u)
    have hfirst : i < p ∨ p + r.bytes ≤ i := hout (p, r.bytes, r.pos) (by simp [poolRuns, hp])
    refine ih (fun r' hr => hpool r' (List.mem_cons_of_mem _ hr)) (fun r' hr => hout r' ?_) _ ?_ ?_
    · simp only [poolRuns, List.mem_filterMap] at hr ⊢
      obtain ⟨z, hz, hval⟩ := hr
      exact ⟨z, List.mem_cons_of_mem _ hz, hval⟩
    · rw [hrun]
      exact (hwritten.isFixed (by decide)).trans hfree
    · rw [hrun]
      exact hkept.poolWrite (by rw [sliceBytes_length]; exact hfirst)

/-- The bytes laid over a span read back from it. -/
theorem sliceBytes_overlay {b d : Bytes} {off : Nat} : sliceBytes (overlay b off d) off d.length = d := by
  refine List.ext_getElem sliceBytes_length fun i _ hi => ?_
  have hpre : (sliceBytes b 0 off).length = off := sliceBytes_length
  simp only [sliceBytes, List.getElem_map, List.getElem_range, overlay, List.append_assoc]
  rw [List.getD_eq_getElem?_getD, List.getElem?_append_right (by simp), List.getElem?_append_left (by simpa using hi)]
  simp [hi]

/-- What a single destination run is written: the bytes of the tile at its place, the free ones drawn (R228). -/
theorem freeData_single {data raw : Bytes} {n : Nat} {r : Run} : sliceBytes (freeData raw n [r] data) r.pos r.bytes =
    definedBytes raw n r.va (sliceBytes data r.pos r.bytes) := by
  have hlen : (definedBytes raw n r.va (sliceBytes data r.pos r.bytes)).length = r.bytes := by
    simp [definedBytes, sliceBytes]
  exact (congrArg (sliceBytes _ r.pos) hlen.symm).trans sliceBytes_overlay

theorem ctxBytes_unfixed {a n : Nat} (hfree : isFixed s c = false) : ctxBytes s c a n = poolBytes s a n := by
  rw [ctxBytes, hfree, if_neg (by decide)]

/-- What an unfixed command's tile holds follows from the pool and its operands (R231). -/
theorem SameBut.tileData (h : SameBut L s t) (hl : ∀ p ∈ [StatePart.ctxs, .memory, .pool, .windows], p ∉ L)
    (hfree : Machine.isFixed s x.ctx = false) : Machine.tileData t x tl = Machine.tileData s x tl := by
  have hpool : t.pool = s.pool := h.pool_eq fun p hp => hl p ((by decide : [StatePart.memory, .pool] ⊆ _) hp)
  have hfree' : Machine.isFixed t x.ctx = false := (h.isFixed (hl _ (by decide))).trans hfree
  simp only [Machine.tileData, ctxBytes_unfixed hfree, ctxBytes_unfixed hfree', poolBytes, hpool, windowPieces,
    h.opsOfCmd (hl _ (by decide))]

/-- The memory that a delivery leaves: of an unfixed command outside a reduction only the destination runs change, and a
single run holds the tile's bytes (R228, R231). -/
theorem deliveredState_bytes (hinv : Inv s) (hop : hdrOpcode x.raw ≠ 0x11) (hfree : isFixed s x.ctx = false)
    (hpool : AllPool tl.dst) :
    (∀ i, OutsideRuns tl.dst i → memGet (deliveredState x g tl s).pool.mem i = memGet s.pool.mem i) ∧
    ∀ (r : Run) (p : Nat), tl.dst = [r] → r.target = .pool p → (∀ l ∈ linesOf p r.bytes, l ∉ s.pool.poison) →
      poolBytes (deliveredState x g tl s) p r.bytes =
        definedBytes x.raw s.draws r.va (sliceBytes (tileData s x tl) r.pos r.bytes) := by
  let data := freeData x.raw s.draws tl.dst (tileData s x tl)
  have hsent : SameBut [.draws, .peers, .windows, .out] (movedRuns x g data tl.dst (draw s, [])).1 (deliveredState x g tl s) :=
    draw_frame (by decide) (sendOps_frame (by decide) (SameBut.refl _ _))
  have hmem : (deliveredState x g tl s).pool = (movedRuns x g data tl.dst (draw s, [])).1.pool := hsent.pool_eq (by decide)
  refine ⟨fun i hi => ?_, fun r p hdst hp hclean => ?_⟩
  · rw [hmem]
    exact (movedRuns_byteKept tl.dst hop hpool hi (draw s, []) hfree ⟨hinv.pool, rfl⟩).2
  · have hdata : sliceBytes data r.pos r.bytes = definedBytes x.raw s.draws r.va (sliceBytes (tileData s x tl) r.pos r.bytes) := by
      simp only [data, hdst]
      exact freeData_single
    have hrun : (movedRuns x g data tl.dst (draw s, [])).1 = poolWrite p (sliceBytes data r.pos r.bytes) false (draw s) := by
      rw [hdst]
      exact moveRun_pool hp hop hfree
    have hdrawn : Inv (draw s) := (draw_ok (Ok.refl s)).inv hinv
    have hread := (poolWrite_reads (a := p) (b := sliceBytes data r.pos r.bytes) hdrawn
      (by rw [sliceBytes_length]; exact hclean)).1
    rw [sliceBytes_length] at hread
    rw [poolBytes, hmem, hrun, ← hdata]
    exact hread

/-! ### A tile delivered (R234, R238, R239) -/

/-- The credit of a tile goes to the command's stream tag, where it has one and asks for credits (R238). -/
def creditSent (x : Cmd) (y : Xfer) (s : State) : State :=
  match x.tag with
  | some tag =>
    if creditOf x.raw = 0xFFFF then s
    else emit (.tileCredit (creditOf x.raw) tag y.next (y.next + 1 == tileCount x.raw)) s
  | none => s

theorem creditSent_sameBut : SameBut [.out] s (creditSent x y s) := by
  unfold creditSent
  split
  · exact SameBut.ite (SameBut.refl _ s) (emit_frame (by decide) (SameBut.refl _ s))
  · exact SameBut.refl _ s

theorem creditSent_mem {tag : U16} (htag : x.tag = some tag) (hcredit : creditOf x.raw ≠ 0xFFFF) :
    .tileCredit (creditOf x.raw) tag y.next (decide (y.next + 1 = tileCount x.raw)) ∈ (creditSent x y s).out := by
  unfold creditSent
  rw [htag]
  dsimp only
  rw [if_neg hcredit]
  exact List.mem_cons_self

/-- A delivered tile has been credited and counted, and its operations are over (R233, R238). -/
def tileCounted (x : Cmd) (y : Xfer) (g : Fun) (s : State) : State :=
  dropOps x.ctx x.q (countFn g 0x09 (creditSent x y s))

theorem tileCounted_sameBut : SameBut [.counters, .int, .windows, .out] s (tileCounted x y g s) :=
  dropOps_frame (by decide) (countFn_frame (by decide) (creditSent_sameBut.mono (by decide)))

/-- After a delivered tile the next one is current, and the last one ends the command (R234). -/
theorem tileDone_moves (hcx : ctx? s x.ctx = some cx) : ∃ f : Xfer → Xfer, (∀ w, (f w).next = w.next + 1 ∧ (f w).tile = none) ∧
    tileDone x y tl s =
      (if y.next + 1 = tileCount x.raw then
        endCmd x.ctx x.q .success (modCmd x.ctx x.q (fun z => { z with xfer := z.xfer.map f }) (tileCounted x y cx.fn s))
      else settleStep y.engine (modCmd x.ctx x.q (fun z => { z with xfer := z.xfer.map f }) (tileCounted x y cx.fn s))) := by
  have hctx : ctx? (creditSent x y s) x.ctx = some cx := (creditSent_sameBut.ctx? (by decide)).trans hcx
  let fed := if digestOf x.raw then digestFeed (resultBytes (creditSent x y s) x tl) y.leaf y.leaves else (y.leaf, y.leaves)
  let f : Xfer → Xfer := fun w => { w with
    next := w.next + 1, tile := none, leaf := fed.1, leaves := fed.2
    outBytes := if digestOf x.raw then w.outBytes + (resultBytes (creditSent x y s) x tl).length else w.outBytes }
  have hdone : tileDone x y tl s =
      (if y.next + 1 = tileCount x.raw then
        endCmd x.ctx x.q .success (modCmd x.ctx x.q (fun z => { z with xfer := z.xfer.map f })
          (dropOps x.ctx x.q (match ctx? (creditSent x y s) x.ctx with
            | some cx => countFn cx.fn 0x09 (creditSent x y s)
            | none => creditSent x y s)))
      else settleStep y.engine (modCmd x.ctx x.q (fun z => { z with xfer := z.xfer.map f })
          (dropOps x.ctx x.q (match ctx? (creditSent x y s) x.ctx with
            | some cx => countFn cx.fn 0x09 (creditSent x y s)
            | none => creditSent x y s)))) := rfl
  rw [hctx] at hdone
  exact ⟨f, fun w => ⟨rfl, rfl⟩, hdone⟩

/-- A command that ends keeps what it has transferred. -/
theorem endCmd_xfer (h : cmd? s c q = some x) : ∃ z, cmd? (endCmd c q .success s) c q = some z ∧ z.xfer = x.xfer := by
  unfold endCmd
  rw [h]
  dsimp only
  split
  · exact ⟨x, h, rfl⟩
  · have hleft : SameBut [.engines] s (leaveEngines c q s) := leaveEngines_frame (by decide) (SameBut.refl _ s)
    exact ⟨_, cmd_modCmd_some ((hleft.cmd? (by decide)).trans h) fun _ => ⟨rfl, rfl⟩, rfl⟩

/-- What a delivered tile leaves of its command. -/
theorem tileDone_cmd (hx : cmd? s c q = some x) (hcx : ctx? s c = some cx) (hy : x.xfer = some y)
    (hstage : x.stage = .dispatched) :
    (∃ z w, cmd? (tileDone x y tl s) c q = some z ∧ z.xfer = some w ∧ w.next = y.next + 1 ∧ w.tile = none) ∧
      (y.next + 1 = tileCount x.raw → Ended (tileDone x y tl s) c q .success) := by
  obtain ⟨rfl, rfl⟩ := cmd_key hx
  obtain ⟨f, hf, hdone⟩ := tileDone_moves (y := y) (tl := tl) hcx
  have hnext : cmd? (modCmd x.ctx x.q (fun z => { z with xfer := z.xfer.map f }) (tileCounted x y cx.fn s)) x.ctx x.q =
      some { x with xfer := some (f y) } := by
    refine (cmd_modCmd_some ((tileCounted_sameBut.cmd? (by decide)).trans hx) (by exact fun _ => ⟨rfl, rfl⟩)).trans ?_
    rw [hy]
    rfl
  rw [hdone]
  split
  · obtain ⟨z, hz, hxfer⟩ := endCmd_xfer hnext
    exact ⟨⟨z, f y, hz, hxfer, hf y⟩, fun _ => endCmd_ends hnext fun _ => by simp [hstage]⟩
  · rename_i hmore
    have hsettled : SameBut [.engines] _ (settleStep y.engine (modCmd x.ctx x.q (fun z => { z with xfer := z.xfer.map f })
      (tileCounted x y cx.fn s))) := settleStep_frame (by decide) (SameBut.refl _ _)
    exact ⟨⟨_, f y, (hsettled.cmd? (by decide)).trans hnext, rfl, hf y⟩, fun h => absurd h hmore⟩

/-- Beyond its command and the engine, a delivered tile leaves what its credit and its count left. -/
theorem tileDone_sameBut (hcx : ctx? s x.ctx = some cx) : SameBut [.cmds, .engines] (tileCounted x y cx.fn s) (tileDone x y tl s) := by
  obtain ⟨f, -, hdone⟩ := tileDone_moves (y := y) (tl := tl) hcx
  have hmod : SameBut [.cmds, .engines] (tileCounted x y cx.fn s)
      (modCmd x.ctx x.q (fun z => { z with xfer := z.xfer.map f }) (tileCounted x y cx.fn s)) :=
    modCmd_frame (by decide) (SameBut.refl _ _)
  rw [hdone]
  refine SameBut.ite ?_ (settleStep_frame (by decide) hmod)
  exact hmod.trans (endCmd_sameBut rfl)

theorem tileDelivered_done (hx : cmd? s c q = some x) (hy : x.xfer = some y) (hstage : x.stage = .dispatched)
    (htl : y.tile = some tl) (hbegun : tl.begun = true) (hdone : opsDone s c q = true)
    (hmay : opsOfCmd s c q = [] ∨ mayIssue s c = true) : tileDelivered c q s = tileDone x y tl s := by
  unfold tileDelivered
  rw [hx]
  dsimp only
  rw [hy, hstage]
  dsimp only
  rw [htl]
  dsimp only
  rw [if_pos (by rcases hmay with h | h <;> simp [hbegun, hdone, h])]

/-! ### The credit window of a consumer (R238) -/

/-- A command whose consumer's window is full has no turn. -/
theorem turnOk_creditFull (hx : cmd? s k.1 k.2 = some x) (hy : x.xfer = some y) (htl : y.tile = none)
    (hcredit : creditOf x.raw ≠ 0xFFFF) (hwindow : windowOf x.raw ≠ 0) (hfull : y.consumed + windowOf x.raw ≤ y.next) :
    turnOk s k = false := by
  have hno : creditOk x.raw y = false := by
    simp only [creditOk, Bool.or_eq_false_iff, beq_eq_false_iff_ne, ne_eq, decide_eq_false_iff_not, Nat.not_lt]
    exact ⟨⟨hcredit, hwindow⟩, hfull⟩
  rw [turnOk, hx]
  dsimp only
  rw [canTurn, hy]
  split
  · rename_i w _ heq _
    cases heq
    rw [htl]
    simp [hno]
  · rfl

theorem nextTurn_none {z : EngineSt} (hactive : z.active = [k]) (hno : turnOk s k = false) : (nextTurn s z).2 = none := by
  have hfind (p : CtxId × Nat → Bool) (hp : p k = false) : z.active.find? p = none := by simp [hactive, hp]
  rw [nextTurn, hfind _ (by simp [hno])]
  exact hfind _ hno

/-- An engine whose only command has no turn serves none. -/
theorem engineTurn_idles (hserving : (getEngine s e).serving = none) (hactive : (getEngine s e).active = [k])
    (hno : turnOk s k = false) : SameBut [.engines] s (engineTurn e s) := by
  have hnone : (pickTurn s (getEngine s e)).2 = none := by
    rw [pickTurn, hserving]
    refine nextTurn_none ?_ hno
    split <;> exact hactive
  unfold engineTurn
  generalize hpick : pickTurn s (getEngine s e) = r at hnone ⊢
  obtain ⟨z, n⟩ := r
  cases hnone
  exact modEngine_sameBut

/-- A consumer's count within bounds is kept (R238). -/
theorem tileConsumed_keeps {tag credit : U16} {n : Nat} (htag : cmdOfTag s tag = some x) (hy : x.xfer = some y)
    (hcx : ctx? s x.ctx = some cx) (hcredit : creditOf x.raw = credit.toNat) (hlow : y.consumed ≤ n) (hhigh : n ≤ y.next) :
    tileConsumed tag credit n s =
      modCmd x.ctx x.q (fun z => { z with xfer := z.xfer.map fun w => { w with consumed := n } }) s := by
  unfold tileConsumed
  rw [htag]
  dsimp only
  rw [hcx, hy]
  dsimp only [Option.map_some, Option.getD_some]
  rw [if_neg (by simp [hcredit]; omega)]

end TransferTiles

/-- Settles O36: a turn finds a READY command whose tile may move on; with its runs translated it is delivered, or meets
its fault, and nothing of it changes while its consumer's window is full. -/
theorem transferTiles : Obligations.TransferTiles := by
  unfold Obligations.TransferTiles
  intro s hinv
  refine ⟨fun e z0 k x cx y tl hpick hx hcx hy htl hpool hheld hstop hops hgate hclean => ?_,
    fun c q x cx y tl hx hcx hy hstage htl hbegun hdone hmay => ?_,
    fun e z0 k x cx y tl side code va hpick hx hcx hy htl hstop hheld hruns hfull hmeets => ?_,
    fun x y g tl side a p r hhead hr hpasid => ?_,
    fun e k x y hserving hactive hx hy htl hcredit hwindow hfull => ?_,
    fun tag credit n x y cx htag hy hcx hx hcredit hlow hhigh => ?_⟩
  · have hturn : SameBut [.engines, .cmds] s (turnState s e z0 k x tl) := turnState_sameBut
    have hevict : SameBut [.memory, .draws, .out] (turnState s e z0 k x tl)
      (evictBefore x.ctx (poolRuns tl.src) (turnState s e z0 k x tl)) := evictBefore_frame (by decide) (SameBut.refl _ _)
    obtain ⟨outs, hexec⟩ := delivery_begins hpick hx hcx hy htl hpool hheld hstop hgate hclean
    obtain ⟨hc, hq⟩ := cmd_key hx
    generalize hw : evictBefore x.ctx (poolRuns tl.src) (turnState s e z0 k x tl) = w at hexec hevict
    have hdelivered : SameBut deliveryParts w (deliveredState x cx.fn tl w) := deliveredState_sameBut
    have hcmd : cmd? (deliveredState x cx.fn tl w) k.1 k.2 = some x :=
      (hdelivered.cmd? (by decide)).trans ((hevict.cmd? (by decide)).trans (turnState_cmd hx hy htl))
    have hengines : (deliveredState x cx.fn tl w).cmd.engines = (modEngine e (fun _ => servedBy s z0 k) s).cmd.engines :=
      congrArg (·.2.1) ((hdelivered.2.2 .engines (by decide)).trans (hevict.2.2 .engines (by decide)) :
        (deliveredState x cx.fn tl w).cmd.enginesPart = (modEngine e (fun _ => servedBy s z0 k) s).cmd.enginesPart)
    obtain ⟨hlast, hkept⟩ := served_engine (e := e) (z0 := z0) hinv.engines hx
    refine Gives.of_eq hexec rfl ⟨?_, fun h => ?_, fun h => ?_, fun hop hfree => ?_⟩
    · rw [hc, hq]
      refine ⟨_, { y with tile := some { tl with begun := true, pieces := outs } }, _,
        cmd_modCmd_some hcmd (by exact fun _ => ⟨rfl, rfl⟩), ?_, rfl, rfl, rfl, rfl⟩
      rw [hy]
      rfl
    · obtain ⟨z, hz, hrest⟩ := hlast h
      exact ⟨z, (congrArg (·[e.val]?) hengines).trans hz, hrest⟩
    · obtain ⟨z, hz, hrest⟩ := hkept h
      exact ⟨z, (congrArg (·[e.val]?) hengines).trans hz, hrest⟩
    · have hturnFree : isFixed (turnState s e z0 k x tl) x.ctx = false := (hturn.isFixed (by decide)).trans hfree
      have hsame : w = turnState s e z0 k x tl := hw ▸ evictBefore_unfixed hturnFree
      subst hsame
      have hinvTurn : Inv (turnState s e z0 k x tl) := (keepRuns_ok (modEngine_ok (Ok.refl s))).inv hinv
      obtain ⟨houtside, hsingle⟩ := deliveredState_bytes (g := cx.fn) hinvTurn hop hturnFree
        fun r hr => hpool r (List.mem_append_right _ hr)
      have hmem : (turnState s e z0 k x tl).pool = s.pool := hturn.pool_eq (by decide)
      have hdraws : (turnState s e z0 k x tl).draws = s.draws := hturn.2.2 .draws (by decide)
      rw [hmem, hdraws, hturn.tileData (by decide) hfree] at hsingle
      rw [hmem] at houtside
      exact ⟨houtside, hsingle⟩
  · have hstate := tileDelivered_done hx hy hstage htl hbegun hdone hmay
    have hcx' : ctx? s x.ctx = some cx := (cmd_key hx).1 ▸ hcx
    have hrest : SameBut [.cmds, .engines] (tileCounted x y cx.fn s) (tileDone x y tl s) := tileDone_sameBut hcx'
    have hcounted : Counted s (tileCounted x y cx.fn s) (0xD100 + cx.fn.val) 9 :=
      (counted_count (creditSent x y s) (0xD100 + cx.fn.val) 9).of_counters (creditSent_sameBut.2.2 .counters (by decide))
    obtain ⟨hcmd, hended⟩ := tileDone_cmd (tl := tl) hx hcx hy hstage
    refine Gives.of_eq (congrArg Host.Outcome.next hstate) rfl ⟨hcounted.kept (hrest.countsKept (by decide)), hcmd, hended, ?_⟩
    intro tag htag hcredit
    have hout : (tileDone x y tl s).out = (creditSent x y s).out :=
      (hrest.2.2 .out (by decide)).trans ((countFn_sameBut (g := cx.fn) (n := 9) (s := creditSent x y s)).2.2 .out (by decide))
    rw [hout]
    exact creditSent_mem htag hcredit
  · have hturn : SameBut [.engines, .cmds] s (turnState s e z0 k x tl) := turnState_sameBut
    have hcount : SameBut [.counters, .int] (turnState s e z0 k x tl) (countFn cx.fn 0x08 (turnState s e z0 k x tl)) := countFn_sameBut
    have hsame : SameBut [.engines, .cmds, .counters, .int] s (countFn cx.fn 0x08 (turnState s e z0 k x tl)) :=
      (hturn.mono (by decide)).trans (hcount.mono (by decide))
    have hready : cx.state = .ready := turnOk_ready (pickTurn_ok hpick) hx hcx
    have hcmd : cmd? (turnState s e z0 k x tl) k.1 k.2 = some x := turnState_cmd hx hy htl
    have hctx : ctx? (turnState s e z0 k x tl) k.1 = some cx := (hturn.ctx? (by decide)).trans hcx
    have hfault := moveOn_faults hcmd hctx ((hturn.tileMeets (by decide)).trans hmeets)
    have hcounted : Counted s (countFn cx.fn 0x08 (turnState s e z0 k x tl)) (0xD100 + cx.fn.val) 8 :=
      (counted_count (turnState s e z0 k x tl) (0xD100 + cx.fn.val) 8).of_counters (hturn.2.2 .counters (by decide))
    have hkept10 : CountsKept 10 s (countFn cx.fn 0x08 (turnState s e z0 k x tl)) :=
      (hturn.countsKept (by decide)).trans (count_countsKept (by decide) (by decide) (by decide))
    have hfaultq : (getFn (countFn cx.fn 0x08 (turnState s e z0 k x tl)) cx.fn).faultq = (getFn s cx.fn).faultq :=
      hsame.fn_faultq (by decide) cx.fn
    have hcmd' := (hcount.cmd? (by decide)).trans hcmd
    have hctx' := (hcount.ctx? (by decide)).trans hctx
    have hfns : (countFn cx.fn 0x08 (turnState s e z0 k x tl)).fns.length = 32 := (hsame.fns_length (by decide)).trans hinv.fns
    generalize countFn cx.fn 0x08 (turnState s e z0 k x tl) = w at *
    rw [← hfaultq] at hruns hfull
    refine Gives.of_eq ((engineTurn_moves hpick hx hcx hy htl hstop hheld).trans (congrArg Host.Outcome.next hfault)) rfl
      ⟨hcounted.kept (tileFault_countsKept (by decide) (by decide) hcmd' hctx' hy hready hruns hfull),
        (tileFault_counts hcmd' hctx' hy hready hruns hfull).after_kept hkept10, ?_, ?_⟩
    · rw [← hfaultq]
      exact tileFault_cmd hcmd' hctx' hy hready hruns hfull
    · rw [(tileFault_fn hfns hcmd' hctx' hy hready hruns hfull).1, hfaultq]
      exact ⟨_, rfl, congrArg FaultQ.nextId hfaultq, rfl, rfl, (cmd_key hx).1, (cmd_key hx).2, rfl, rfl, rfl⟩
  · have hmeets : runMeets s x y g side r = .faults .pasidDisabled r.va := by
      rw [runMeets, hr]
      dsimp only
      rw [hpasid, if_pos (by decide)]
    have hfind : (tileRuns tl).find? (fun r => runMeets s x y g r.1 r.2 != .passes) = some (side, r) := by
      obtain ⟨rest, hrest⟩ := List.head?_eq_some_iff.1 hhead
      rw [hrest, List.find?_cons_of_pos (by simp [hmeets])]
    rw [tileMeets, hfind]
    exact congrArg (fun m => some (side, m)) hmeets
  · have hidle := engineTurn_idles hserving hactive (turnOk_creditFull hx hy htl hcredit hwindow hfull)
    exact ⟨_, rfl, hidle, (hidle.cmd? (by decide)).trans hx⟩
  · refine Gives.of_eq (congrArg Host.Outcome.next (tileConsumed_keeps htag hy hcx hcredit hlow hhigh)) rfl
      ⟨(cmd_modCmd_some hx (by exact fun _ => ⟨rfl, rfl⟩)).trans ?_, modCmd_frame (by decide) (SameBut.refl _ s)⟩
    rw [hy]
    rfl

end Sys2Proof.Machine
end

section
/-!
SUPPORT and CLAIM. The receiver of window operations (08_windows_coherence, R260, R261, R268 to R277): frames that stand
among those not yet acknowledged, frames in their order, and the obligation O38.
-/
namespace Sys2Proof.Machine

section WindowReceiver
variable {s t u : State} {L : List StatePart} {p : PackageId} {x : Peer} {ss zs : PairSession} {h : FrameHdr}
  {need : Need} {runs : List WRun} {rs : List Run}

/-! ### Frames that have been handed to a pair (R270) -/

/-- Two frames of the same words and payload: the stamp of the last sequence number may differ. -/
def SameFrame (f g : Frame) : Prop := g.type = f.type ∧ g.q2 = f.q2 ∧ g.q3 = f.q3 ∧ g.q4 = f.q4 ∧ g.payload = f.payload

theorem SameFrame.refl (f : Frame) : SameFrame f f := ⟨rfl, rfl, rfl, rfl, rfl⟩

/-- A session that expects the same frame and has every frame still out. -/
def SessionKept (ss zs : PairSession) : Prop :=
  zs.expect = ss.expect ∧ ∀ f ∈ ss.unacked, ∃ g ∈ zs.unacked, SameFrame f g

theorem SessionKept.refl (ss : PairSession) : SessionKept ss ss := ⟨rfl, fun f hf => ⟨f, hf, .refl f⟩⟩

theorem session_set (h : session? s p = some ss) :
    session? (modPeer p (fun y => { y with session := some zs }) s) p = some zs := by
  obtain ⟨y, hy, -⟩ := Option.bind_eq_some_iff.1 h
  rw [session?, peer_modPeer (by exact fun _ => rfl), hy]
  rfl

theorem session_congr (h : t.win.peers = s.win.peers) : session? t p = session? s p := by
  rw [session?, peer_congr h, session?]

theorem stamped_same {f : Frame} : SameFrame f (stamped ss f) := by
  unfold stamped
  exact ⟨rfl, rfl, rfl, rfl, rfl⟩

/-- A frame among the unacknowledged ones is still there once those that may leave are stamped. -/
theorem stampedOut_same {f : Frame} {n e : Nat} {fs : List Frame} (he : e ≤ n) (hf : f ∈ fs) :
    ∃ g ∈ fs.take e ++ ((fs.take n).drop e).map (stamped ss) ++ fs.drop n, SameFrame f g := by
  have hsplit : fs.take e ++ (fs.take n).drop e ++ fs.drop n = fs := by
    have hfirst : fs.take e = (fs.take n).take e := by rw [List.take_take, Nat.min_eq_left he]
    rw [hfirst, List.take_append_drop, List.take_append_drop]
  rw [← hsplit] at hf
  rcases List.mem_append.1 hf with hf | hf
  · rcases List.mem_append.1 hf with hf | hf
    · exact ⟨f, List.mem_append_left _ (List.mem_append_left _ hf), .refl f⟩
    · exact ⟨stamped ss f, List.mem_append_left _ (List.mem_append_right _ (List.mem_map_of_mem hf)), stamped_same⟩
  · exact ⟨f, List.mem_append_right _ hf, .refl f⟩

/-- The session of a pair once the frames that may leave have left (R269, R270). -/
def flushedSession (ss : PairSession) (s : State) : PairSession :=
  { ss with
    unacked := ss.unacked.take ss.emitted ++ ((ss.unacked.take (min 512 ss.unacked.length)).drop ss.emitted).map (stamped ss) ++
      ss.unacked.drop (min 512 ss.unacked.length)
    emitted := min 512 ss.unacked.length, owed := none
    advance := if ss.emitted = 0 then s.gtc else ss.advance
    resent := if ss.emitted = 0 then s.gtc else ss.resent }

theorem rawFrames_peers {fs : List Frame} : (foldState (rawFrame p) fs s).win.peers = s.win.peers := by
  induction fs generalizing s with
  | nil => rfl
  | cons f fs ih => exact ih.trans (rawFrame_sameBut.peers (by decide))

/-- The frames that leave are stamped, and no other part of the pair changes (R269, R270). -/
theorem flushFrames_cases : flushFrames p s = s ∨ ∃ ss zs, session? s p = some ss ∧ SessionKept ss zs ∧
    (flushFrames p s).win.peers = (modPeer p (fun y => { y with session := some zs }) s).win.peers := by
  unfold flushFrames
  split
  · exact .inl rfl
  next y hy =>
    obtain ⟨hpeer, -⟩ := Option.filter_eq_some_iff.1 hy
    split
    next ss _ hss _ =>
      dsimp only
      split
      · exact .inl rfl
      next hmore =>
        refine .inr ⟨ss, flushedSession ss s, (session_some hpeer).trans hss, ?_, rawFrames_peers⟩
        exact ⟨rfl, fun f hf => stampedOut_same (Nat.le_of_not_le hmore) hf⟩
    · exact .inl rfl

/-- A session of a pair whose frames have left is that of before. -/
theorem flushFrames_session (hzs : session? (flushFrames p s) p = some zs) :
    ∃ ss, session? s p = some ss ∧ SessionKept ss zs := by
  rcases flushFrames_cases (s := s) (p := p) with heq | ⟨ss, ys, hss, hkept, hpeers⟩
  · exact ⟨zs, heq ▸ hzs, .refl zs⟩
  · obtain rfl : ys = zs := Option.some.inj ((session_set hss).symm.trans ((session_congr hpeers).symm.trans hzs))
    exact ⟨ss, hss, hkept⟩

theorem flushFrames_expect : (session? (flushFrames p s) p).map (·.expect) = (session? s p).map (·.expect) := by
  rcases flushFrames_cases (s := s) (p := p) with heq | ⟨ss, ys, hss, hkept, hpeers⟩
  · rw [heq]
  · rw [session_congr hpeers, session_set hss, hss]
    exact congrArg some hkept.1

theorem heard_set {f : Peer → Option PairSession} :
    (peer? (modPeer p (fun y => { y with session := f y }) s) p).map (·.heard) = (peer? s p).map (·.heard) := by
  rw [peer_modPeer (by exact fun _ => rfl)]
  cases peer? s p <;> rfl

theorem flushFrames_heard : (peer? (flushFrames p s) p).map (·.heard) = (peer? s p).map (·.heard) := by
  rcases flushFrames_cases (s := s) (p := p) with heq | ⟨ss, ys, hss, hkept, hpeers⟩
  · rw [heq]
  · rw [peer_congr hpeers]
    exact heard_set

variable {type code off : Nat} {q2 q3 q4 : U64} {b : Bytes} {m : Msg}

theorem FrameSent.kept (hsent : FrameSent t p type q2 q3 q4 b) (hid : u.win.localId = t.win.localId)
    (hpeers : u.win.peers = t.win.peers) (hout : ∀ m ∈ t.out, m ∈ u.out) : FrameSent u p type q2 q3 q4 b := by
  unfold FrameSent at hsent ⊢
  rw [hid, session_congr hpeers]
  split
  · rename_i hlocal
    rw [if_pos hlocal] at hsent
    exact hout _ hsent
  · rename_i hlocal
    rwa [if_neg hlocal] at hsent

/-- Frames that leave stay among those not yet acknowledged. -/
theorem FrameSent.flush (hsent : FrameSent t p type q2 q3 q4 b) : FrameSent (flushFrames p t) p type q2 q3 q4 b := by
  unfold FrameSent at hsent ⊢
  rw [flushFrames_sameFabric.localId]
  split
  · rename_i hlocal
    rw [if_pos hlocal] at hsent
    exact (flushFrames_ok (Ok.refl t)).out.subset hsent
  · rename_i hlocal
    rw [if_neg hlocal] at hsent
    intro zs hzs
    obtain ⟨ss, hss, -, hkept⟩ := flushFrames_session hzs
    obtain ⟨f, hf, htype, h2, h3, h4, hb⟩ := hsent ss hss
    obtain ⟨g, hg, ktype, k2, k3, k4, kb⟩ := hkept f hf
    exact ⟨g, hg, ktype.trans htype, k2.trans h2, k3.trans h3, k4.trans h4, kb.trans hb⟩

theorem FrameSent.of_local (hp : p = t.win.localId) (hout : .loopback type q2 q3 q4 b ∈ t.out) :
    FrameSent t p type q2 q3 q4 b := by
  rw [FrameSent, if_pos hp]
  exact hout

theorem FrameSent.of_session (hp : p ≠ t.win.localId)
    (hout : ∀ ss, session? t p = some ss →
      ∃ f ∈ ss.unacked, f.type = type ∧ f.q2 = q2 ∧ f.q3 = q3 ∧ f.q4 = q4 ∧ f.payload = b) :
    FrameSent t p type q2 q3 q4 b := by
  rw [FrameSent, if_neg hp]
  exact hout

/-- A frame handed to a pair is out, or issued on the loopback (R270). -/
theorem sendFrame_sent : FrameSent (sendFrame p type q2 q3 q4 b s) p type q2 q3 q4 b := by
  unfold sendFrame
  split
  · rename_i hlocal
    exact .of_local (eq_of_beq hlocal) List.mem_cons_self
  · rename_i hlocal
    split
    · rename_i hnone
      refine .of_session (by simpa using hlocal) fun ss hss => ?_
      rw [session?, hnone] at hss
      cases hss
    · rename_i ss hss
      have hother : p ≠ s.win.localId := by simpa using hlocal
      refine FrameSent.flush (FrameSent.of_session (t := modPeer p _ _) hother fun zs hzs => ?_)
      rw [session_set hss] at hzs
      cases hzs
      exact ⟨_, List.mem_append_right _ List.mem_cons_self, rfl, rfl, rfl, rfl, rfl⟩

/-- Another frame handed to the pair takes none back. -/
theorem FrameSent.sendFrame {type' : Nat} {w2 w3 w4 : U64} {b' : Bytes} (hsent : FrameSent t p type q2 q3 q4 b) :
    FrameSent (Machine.sendFrame p type' w2 w3 w4 b' t) p type q2 q3 q4 b := by
  unfold Machine.sendFrame
  split
  · exact hsent.kept rfl rfl fun m hm => List.mem_cons_of_mem _ hm
  · rename_i hlocal
    split
    · exact hsent
    · rename_i ss hss
      have hother : p ≠ t.win.localId := by simpa using hlocal
      rw [FrameSent, if_neg hother] at hsent
      refine FrameSent.flush (FrameSent.of_session (t := modPeer p _ _) hother fun zs hzs => ?_)
      rw [session_set hss] at hzs
      cases hzs
      obtain ⟨f, hf, hwords⟩ := hsent ss hss
      exact ⟨f, List.mem_append_left _ hf, hwords⟩

/-! ### Frames that arrive (R260, R270) -/

/-- The session of a pair once `d` more frames are acknowledged (R270). -/
def ackedSession (ss : PairSession) (d : Nat) (s : State) : PairSession :=
  { ss with acked := ss.acked + d, unacked := ss.unacked.drop d, emitted := ss.emitted - d, advance := s.gtc, resent := s.gtc }

/-- An acknowledgement leaves what the session expects, and when the peer was heard. -/
theorem takeAck_keeps {ack : U32} : (session? (takeAck p ack s) p).map (·.expect) = (session? s p).map (·.expect) ∧
    (peer? (takeAck p ack s) p).map (·.heard) = (peer? s p).map (·.heard) := by
  unfold takeAck
  split
  · exact ⟨rfl, rfl⟩
  next ss hss =>
    dsimp only
    split
    · exact ⟨rfl, rfl⟩
    · obtain ⟨y, hy, -⟩ := Option.bind_eq_some_iff.1 hss
      have hset (d : Nat) := peer_modPeer_some (f := fun y => { y with tried := [], session := some (ackedSession ss d s) }) hy
        fun _ => rfl
      rw [hss, hy]
      exact ⟨flushFrames_expect.trans (congrArg (fun o => (o.bind (·.session)).map (·.expect)) (hset _)),
        flushFrames_heard.trans (congrArg (Option.map (·.heard)) (hset _))⟩

theorem takeFrame_dropped (hpair : ¬(h.src = s.win.localId ∧ h.dst = s.win.localId))
    (hopen : openFrame h true s = (t, none)) : takeFrame h true s = (none, t) := by
  unfold takeFrame
  rw [if_neg (by simpa using hpair), hopen]

/-- The state in which a frame in sequence has been accepted and its acknowledgement taken (R270). -/
def acceptedState (h : FrameHdr) (s : State) : State :=
  takeAck h.src h.ackSeq (modSession h.src (fun y => { y with expect := y.expect + 1 }) s)

theorem takeFrame_opened (hpair : ¬(h.src = s.win.localId ∧ h.dst = s.win.localId))
    (hopen : openFrame h true s = (t, some ss)) : takeFrame h true s =
      if h.linkSeq ≠ BitVec.ofNat 32 ss.expect then (none, countPackage 0x0D t)
      else (some (acceptedState h t), acceptedState h t) := by
  unfold takeFrame
  rw [if_neg (by simpa using hpair), hopen]
  by_cases hseq : h.linkSeq = BitVec.ofNat 32 ss.expect <;> simp [hseq, acceptedState]

theorem withFrame_dropped {act : State → State} (hdrop : takeFrame h true s = (none, t)) : withFrame h act s = t := by
  rw [withFrame, hdrop]

theorem takeFrame_unsealed (hpair : ¬(h.src = s.win.localId ∧ h.dst = s.win.localId)) (hss : session? s h.src = some ss)
    (hseal : h.sealOk = false) : takeFrame h true s = (none, countPackage 0x0B s) := by
  refine takeFrame_dropped hpair ?_
  rw [openFrame, hss]
  simp [hseal]

theorem takeFrame_elsewhere (hpair : ¬(h.src = s.win.localId ∧ h.dst = s.win.localId)) (hss : session? s h.src = some ss)
    (hseal : h.sealOk = true) (hdst : h.dst ≠ s.win.localId) : takeFrame h true s = (none, countPackage 0x0C s) := by
  refine takeFrame_dropped hpair ?_
  rw [openFrame, hss]
  simp [hseal, hdst]

theorem takeFrame_keyless (hpair : ¬(h.src = s.win.localId ∧ h.dst = s.win.localId)) (hss : session? s h.src = some ss)
    (hseal : h.sealOk = true) (hdst : h.dst = s.win.localId) (hlanes : ss.lanes = 0) : takeFrame h true s = (none, s) := by
  refine takeFrame_dropped hpair ?_
  rw [openFrame, hss]
  simp [hseal, hdst, hlanes]

/-- The session of a pair in which a sequenced frame has arrived: its acknowledgement is owed (R270). -/
def owedSession (ss : PairSession) (s : State) : PairSession :=
  { ss with owed := if ss.owed.isNone then some s.gtc else ss.owed }

/-- The state in which a frame of the pair has been heard (R270, R272). -/
def heardState (p : PackageId) (ss : PairSession) (s : State) : State :=
  modPeer p (fun y => { y with heard := s.gtc, session := some (owedSession ss s) }) s

theorem openFrame_opens (hss : session? s h.src = some ss) (hseal : h.sealOk = true) (hdst : h.dst = s.win.localId)
    (hlanes : ss.lanes ≠ 0) : openFrame h true s = (heardState h.src ss s, some (owedSession ss s)) := by
  rw [openFrame, hss]
  dsimp only
  rw [if_neg (by simp [hseal]), if_neg (by simp [hdst]), if_neg hlanes]
  rfl

theorem heardState_peer (hss : session? s p = some ss) :
    session? (heardState p ss s) p = some (owedSession ss s) ∧ (peer? (heardState p ss s) p).map (·.heard) = some s.gtc := by
  obtain ⟨y, hy, -⟩ := Option.bind_eq_some_iff.1 hss
  have hset := peer_modPeer_some (f := fun y => { y with heard := s.gtc, session := some (owedSession ss s) }) hy fun _ => rfl
  exact ⟨session_some hset, congrArg (Option.map (·.heard)) hset⟩

theorem takeFrame_outOfSequence (hpair : ¬(h.src = s.win.localId ∧ h.dst = s.win.localId)) (hss : session? s h.src = some ss)
    (hseal : h.sealOk = true) (hdst : h.dst = s.win.localId) (hlanes : ss.lanes ≠ 0)
    (hseq : h.linkSeq ≠ BitVec.ofNat 32 ss.expect) :
    takeFrame h true s = (none, countPackage 0x0D (heardState h.src ss s)) := by
  exact (takeFrame_opened hpair (openFrame_opens hss hseal hdst hlanes)).trans (if_pos hseq)

/-- A frame in sequence is accepted: the next number is expected, and its peer has been heard (R260, R270). -/
theorem takeFrame_accepts (hpair : ¬(h.src = s.win.localId ∧ h.dst = s.win.localId)) (hss : session? s h.src = some ss)
    (hseal : h.sealOk = true) (hdst : h.dst = s.win.localId) (hlanes : ss.lanes ≠ 0)
    (hseq : h.linkSeq = BitVec.ofNat 32 ss.expect) : ∃ s1, takeFrame h true s = (some s1, s1) ∧
      (session? s1 h.src).map (·.expect) = some (ss.expect + 1) ∧ (peer? s1 h.src).map (·.heard) = some s.gtc := by
  obtain ⟨hsession, hheard⟩ := heardState_peer hss
  obtain ⟨y, hy, hyss⟩ := Option.bind_eq_some_iff.1 hsession
  let next : PairSession → PairSession := fun y => { y with expect := y.expect + 1 }
  have hnext : peer? (modSession h.src next (heardState h.src ss s)) h.src =
      some { y with session := y.session.map next } := peer_modSession hy
  have htake := (takeFrame_opened hpair (openFrame_opens hss hseal hdst hlanes)).trans (if_neg (Decidable.not_not.2 hseq))
  obtain ⟨hexpect, hkept⟩ := takeAck_keeps (s := modSession h.src next (heardState h.src ss s)) (p := h.src) (ack := h.ackSeq)
  refine ⟨_, htake, hexpect.trans ?_, hkept.trans ?_⟩
  · rw [session_some hnext, hyss]
    rfl
  · rw [hnext]
    rw [hy] at hheard
    exact hheard

/-! ### Frames of a pair in their order (R276) -/

/-- What waits is kept. -/
def keepInbox (l : List InFrame) (s : State) : State := { s with win := { s.win with inbox := l } }

/-- A frame has taken its place behind the others. -/
def queue (f : InFrame) (s : State) : State := keepInbox (s.win.inbox ++ [f]) s

variable {f g g2 : InFrame} {l : List InFrame}

/-- A frame behind those of other pairs runs alone. -/
theorem runFrames_alone (hfree : ∀ y ∈ l, frameOf y ≠ frameOf f) :
    runFrames (frameOf f) (l ++ [f]) s = ((runFrame f s).1, l ++ (runFrame f s).2.toList) := by
  induction l with
  | nil =>
    rw [List.nil_append, runFrames, if_neg (by simp)]
    split
    · rename_i v hrun
      rw [hrun]
      rfl
    · rename_i v g hrun
      rw [hrun]
      rfl
  | cons y l ih =>
    rw [List.cons_append, runFrames, if_pos (hfree y List.mem_cons_self), ih fun z hz => hfree z (List.mem_cons_of_mem _ hz)]
    rfl

/-- The first frame of a pair keeps its place while it waits, and so does every frame behind it. -/
theorem runFrames_waits {rest : List InFrame} (hfind : (l.find? fun y => frameOf y == p) = some g)
    (hrun : runFrame g s = (t, some g2)) : ∃ pre post, runFrames p (l ++ rest) s = (t, pre ++ g2 :: (post ++ rest)) := by
  induction l with
  | nil => cases hfind
  | cons y l ih =>
    by_cases hy : frameOf y = p
    · rw [List.find?_cons_of_pos (by simp [hy])] at hfind
      cases hfind
      refine ⟨[], l, ?_⟩
      rw [List.cons_append, runFrames, if_neg (by simp [hy]), hrun]
      rfl
    · rw [List.find?_cons_of_neg (by simp [hy])] at hfind
      obtain ⟨pre, post, hpost⟩ := ih hfind
      refine ⟨y :: pre, post, ?_⟩
      rw [List.cons_append, runFrames, if_pos hy, hpost]
      rfl

theorem takeIn_alone (hfree : ∀ y ∈ s.win.inbox, frameOf y ≠ frameOf f) :
    takeIn f s = keepInbox (s.win.inbox ++ (runFrame f (queue f s)).2.toList) (runFrame f (queue f s)).1 := by
  have hframes := runFrames_alone (s := queue f s) hfree
  unfold takeIn serveInbox
  exact congrArg (fun r : State × List InFrame => keepInbox r.2 r.1) hframes

theorem takeIn_waits (hfind : (s.win.inbox.find? fun y => frameOf y == frameOf f) = some g)
    (hrun : runFrame g (queue f s) = (t, some g2)) : ∃ pre, takeIn f s = keepInbox (pre ++ [f]) t ∧ g2 ∈ pre := by
  obtain ⟨pre, post, hframes⟩ := runFrames_waits (rest := [f]) hfind hrun
  refine ⟨pre ++ g2 :: post, ?_, List.mem_append_right _ List.mem_cons_self⟩
  have hall : takeIn f s = keepInbox (pre ++ g2 :: (post ++ [f])) t := by
    unfold takeIn serveInbox
    exact congrArg (fun r : State × List InFrame => keepInbox r.2 r.1) hframes
  rw [hall, List.append_assoc, List.cons_append]

theorem serveInbox_free (hfree : ∀ y ∈ s.win.inbox, frameOf y ≠ p) : serveInbox p s = s := by
  have hskip (l : List InFrame) (hl : ∀ y ∈ l, frameOf y ≠ p) : runFrames p l s = (s, l) := by
    induction l with
    | nil => rfl
    | cons y l ih =>
      rw [runFrames, if_pos (hl y List.mem_cons_self), ih fun z hz => hl z (List.mem_cons_of_mem _ hz)]
  rw [serveInbox, hskip _ hfree]

/-! ### Checks of R260 -/

/-- The runs of an operation that earlier frames have brought (R268). -/
def gathered (s : State) (h : FrameHdr) (need : Need) : List WRun :=
  ((s.win.recvs.find? fun o => isOp h o && o.need == need && o.held.isNone).map (·.runs)).getD []

theorem runCheck_gathers (hlast : h.last = false) : runCheck need h runs s =
    (addRecv (newRecv h need (gathered s h need ++ runs) none) (dropRecv h need s), none) := by
  unfold runCheck
  dsimp only
  rw [hlast, if_neg (by decide)]
  rfl

theorem runCheck_decides (hlast : h.last = true) :
    runCheck need h runs s = decideOp h need (gathered s h need ++ runs) (dropRecv h need s) := by
  unfold runCheck
  dsimp only
  rw [hlast, if_pos rfl]
  rfl

theorem runFrame_check (hnot : need = .atomic → committed s h = false) :
    runFrame (.check need h runs) s = runCheck need h runs s := by
  cases need with
  | read => rfl
  | write => rfl
  | atomic =>
    refine (if_neg ?_ : runCheckAtomic h runs s = runCheck .atomic h runs s)
    simp [hnot rfl]

/-- The command of a check of each access (R260, R273). -/
theorem exec_check {e : Instr × Need}
    (he : e ∈ [(Instr.checkWrite h runs, Need.write), (.checkAtomic h runs, .atomic), (.readReq h runs, .read)]) :
    exec e.1 s = .next (withFrame h (takeIn (.check e.2 h runs)) s) := by
  simp only [List.mem_cons, List.not_mem_nil, or_false] at he
  rcases he with rfl | rfl | rfl <;> rfl

/-- A check whose pair has no frame waiting runs at once. -/
theorem check_runs {s1 : State} {e : Instr × Need} (h1 : takeFrame h true s = (some s1, s1))
    (hfree : ∀ y ∈ s1.win.inbox, frameOf y ≠ h.src)
    (he : e ∈ [(Instr.checkWrite h runs, Need.write), (.checkAtomic h runs, .atomic), (.readReq h runs, .read)])
    (hnot : e.2 = .atomic → committed s1 h = false) :
    exec e.1 s = .next (keepInbox (s1.win.inbox ++ (runCheck e.2 h runs (queue (.check e.2 h runs) s1)).2.toList)
      (runCheck e.2 h runs (queue (.check e.2 h runs) s1)).1) := by
  have hframe : runFrame (.check e.2 h runs) (queue (.check e.2 h runs) s1) =
      runCheck e.2 h runs (queue (.check e.2 h runs) s1) := runFrame_check hnot
  rw [exec_check he, withFrame_taken h1, takeIn_alone hfree, hframe]

theorem isOp_newRecv {held : Option (List Run)} : isOp h (newRecv h need runs held) = true := by simp [isOp, newRecv]

/-- The receiver has dropped the operation of a frame. -/
theorem dropRecv_gone {o : RecvOp} (ho : o ∈ (dropRecv h need s).win.recvs) : ¬(isOp h o = true ∧ o.need = need) := by
  have hpass := (List.mem_filter.1 ho).2
  rintro ⟨hop, hneed⟩
  simp [hop, hneed] at hpass

theorem SameBut.recvs (hsame : SameBut L s t) (hl : .windows ∉ L) : t.win.recvs = s.win.recvs := (hsame.windows hl).2.2

theorem checkOp_sameBut {r : Except (Option Nat) (List Run)} (hask : checkOp h need runs s = (t, r)) :
    SameBut [.counters, .int, .entries, .lookups, .coherence, .draws, .out] s t := by
  have hframe := checkOp_frame (L := [.counters, .int, .entries, .lookups, .coherence, .draws, .out]) (h := h)
    (need := need) (runs := runs) (by decide) (SameBut.refl _ s)
  rwa [hask] at hframe

theorem decideOp_waits (hask : checkOp h need runs s = (t, .error none)) :
    decideOp h need runs s = (t, some (.check need h runs)) := by rw [decideOp, hask]

theorem decideOp_denies (hask : checkOp h need runs s = (t, .error (some code))) : decideOp h need runs s =
    (reply h 0x11 code need true 0 [] (countPackage 0x10 (dropRecv h need t)), none) := by rw [decideOp, hask]

/-- The state in which the receiver holds an accepted operation. -/
def heldState (h : FrameHdr) (need : Need) (runs : List WRun) (rs : List Run) (s : State) : State :=
  addRecv (newRecv h need runs (some rs)) (countPackage 0x10 (dropRecv h need s))

theorem decideOp_accepts (hask : checkOp h need runs s = (t, .ok rs)) (hneed : need ≠ .read) :
    decideOp h need runs s = (reply h 0x10 0 need true 0 [] (heldState h need runs rs t), none) := by
  rw [decideOp, hask]
  exact if_neg hneed

theorem decideOp_reads (hask : checkOp h .read runs s = (t, .ok rs)) :
    decideOp h .read runs s = runServe h (heldState h .read runs rs t) := by
  rw [decideOp, hask]
  rfl

/-- Whether a window gives a right. -/
def Win.allows (w : Win) : Need → Bool
  | .read => w.read
  | .write => w.write
  | .atomic => w.atomic

/-- What refuses an operation before its runs are translated, in order (R260, R261). -/
def refusalOf (s : State) (h : FrameHdr) (need : Need) : Option DCode :=
  if isReady s = false then some .notReady
  else match win? s h.window with
    | none => some .windowClosed
    | some x =>
      if x.state ≠ .opened then some .windowClosed
      else if h.src &&& x.mask ≠ x.srcMatch &&& x.mask then some .sourceDenied
      else if x.allows need then none
      else some .noPermission

theorem checkOp_refuses {c : DCode} (hc : refusalOf s h need = some c) :
    (checkOp h need runs s).2 = .error (some (dcodeOf c)) := by
  unfold refusalOf at hc
  unfold checkOp
  split at hc
  · rename_i hready
    cases hc
    rw [if_pos (by simp [hready])]
  · rename_i hready
    rw [if_neg (by simpa using hready)]
    generalize win? s h.window = w at hc ⊢
    cases w with
    | none => cases hc; rfl
    | some w =>
      dsimp only at hc ⊢
      split at hc
      · rename_i hstate
        cases hc
        rw [if_pos hstate]
      · rename_i hstate
        rw [if_neg hstate]
        split at hc
        · rename_i hsource
          cases hc
          rw [if_pos (by simpa [sourceOk] using hsource)]
        · rename_i hsource
          rw [if_neg (by simpa [sourceOk] using hsource)]
          split at hc
          · cases hc
          · rename_i hright
            cases hc
            rw [if_pos (by cases need <;> simpa [Win.allows] using hright)]

/-- What holds of the package and the window where nothing refuses an operation. -/
theorem refusalOf_none (hnone : refusalOf s h need = none) : isReady s = true ∧ ∃ w, win? s h.window = some w ∧
    w.state = .opened ∧ sourceOk w h.src = true ∧ w.allows need = true := by
  unfold refusalOf at hnone
  split at hnone
  · cases hnone
  · rename_i hready
    generalize win? s h.window = o at hnone ⊢
    cases o with
    | none => cases hnone
    | some w =>
      dsimp only at hnone
      split at hnone
      · cases hnone
      · rename_i hstate
        split at hnone
        · cases hnone
        · rename_i hsource
          split at hnone
          · rename_i hright
            exact ⟨by simpa using hready, w, rfl, by simpa using hstate, by simpa [sourceOk] using hsource, hright⟩
          · cases hnone

/-- A run that does not translate decides an operation that nothing refuses (R260). -/
theorem checkOp_faults (hnone : refusalOf s h need = none)
    (hruns : checkRuns h.window need runs 0 s = (t, .error (some code))) : (checkOp h need runs s).2 = .error (some code) := by
  obtain ⟨hready, w, hw, hstate, hsource, hright⟩ := refusalOf_none hnone
  unfold checkOp
  rw [if_neg (by simp [hready]), hw]
  dsimp only
  rw [if_neg (by simp [hstate]), if_neg (by simp [hsource]), if_neg (by cases need <;> simpa [Win.allows] using hright), hruns]

/-- A reduction for which the staging buffer or the history has no room is answered BUSY (R273, R274). -/
theorem checkOp_busy (hnone : refusalOf s h .atomic = none) (hruns : checkRuns h.window .atomic runs 0 s = (t, .ok rs))
    (hbarred : fenceBarred t .atomic h.elementType h.reduceOp rs = false)
    (hroom : 0x800000 < stagingUsed t + (runs.map (·.length)).sum ∨ 16384 ≤ historyUsed t) :
    (checkOp h .atomic runs s).2 = .error (some (dcodeOf .busy)) := by
  obtain ⟨hready, w, hw, hstate, hsource, hright⟩ := refusalOf_none hnone
  unfold checkOp
  rw [if_neg (by simp [hready]), hw]
  dsimp only
  rw [if_neg (by simp [hstate]), if_neg (by simp [hsource]), if_neg (by simpa [Win.allows] using hright), hruns]
  dsimp only
  rw [List.sum_eq_foldl] at hroom
  rw [hbarred, if_neg (by decide), if_pos (by simpa using hroom)]

/-! ### A read that is served at once (R273; 09, R301) -/

/-- The bytes that a read is answered, each with whether its line is poisoned. -/
def readData (s : State) (rs : List Run) : List (U8 × Bool) :=
  (poolRuns rs).flatMap fun r => (List.range r.2.1).map fun i =>
    if poisoned s (r.1 + i) 1 then ((0 : U8), true) else (memGet s.pool.mem (r.1 + i), false)

theorem readData_congr (hpool : t.pool = s.pool) : readData t rs = readData s rs := by
  have hpoison : poisoned t = poisoned s := by simp only [funext_iff, poisoned, hpool, implies_true]
  rw [readData, hpoison, hpool, readData]

/-- The read data from a place on, up to 4 KiB. -/
def dataPart (data : List (U8 × Bool)) (i : Nat) : List (U8 × Bool) := (data.drop (4096 * i)).take 4096

/-- The code of a frame of read data: 0x80 where a line of it is poisoned. -/
def partCode (data : List (U8 × Bool)) (i : Nat) : Nat := if (dataPart data i).any (·.2) then 0x80 else 0

/-- One frame of read data is sent, and a poisoned line in it is counted. -/
def sendPart (o : RecvOp) (data : List (U8 × Bool)) (i : Nat) (s : State) : State :=
  sendFrame o.src 0x30 (frameQ2 o.window o.tile) (frameQ3 o.serial o.tag)
    (frameQ4 (partCode data i) (some .read) 0 0 (i + 1 == (data.length + 4095) / 4096) (4096 * i))
    ((dataPart data i).map (·.1)) (if (dataPart data i).any (·.2) then countPackage 0x17 s else s)

theorem readData_eq : readData s rs = rs.flatMap fun r => match r.target with
    | .pool a => (List.range r.bytes).map fun i =>
        if poisoned s (a + i) 1 then (0, true) else (memGet s.pool.mem (a + i), false)
    | _ => [] := by
  induction rs with
  | nil => rfl
  | cons r rs ih =>
    rw [List.flatMap_cons, ← ih]
    cases htarget : r.target <;> simp [readData, poolRuns, htarget]

theorem sendReadData_parts {o : RecvOp} (hheld : o.held = some rs) : sendReadData o s =
    foldState (sendPart o (readData s rs)) (List.range (((readData s rs).length + 4095) / 4096)) s := by
  rw [readData_eq]
  unfold sendReadData
  rw [hheld]
  rfl

/-- A frame of the data of a read has been sent. -/
def PartSent (o : RecvOp) (data : List (U8 × Bool)) (i : Nat) (t : State) : Prop :=
  FrameSent t o.src 0x30 (frameQ2 o.window o.tile) (frameQ3 o.serial o.tag)
    (frameQ4 (partCode data i) (some .read) 0 0 (decide (i + 1 = (data.length + 4095) / 4096)) (4096 * i))
    ((dataPart data i).map (·.1))

theorem PartSent.sendPart {o : RecvOp} {data : List (U8 × Bool)} {i j : Nat} (hsent : PartSent o data i t) :
    PartSent o data i (Machine.sendPart o data j t) := by
  have hcounted : SameBut [.counters, .int] t (if (dataPart data j).any (·.2) then countPackage 0x17 t else t) :=
    SameBut.ite countPackage_sameBut (SameBut.refl _ t)
  have hout : (if (dataPart data j).any (·.2) then countPackage 0x17 t else t).out = t.out := hcounted.2.2 .out (by decide)
  exact FrameSent.sendFrame (FrameSent.kept hsent (hcounted.sameFabric (by decide)).localId (hcounted.peers (by decide))
    fun m hm => hout.symm ▸ hm)

/-- Every frame of the data of a read is sent. -/
theorem sendReadData_sends {o : RecvOp} (hheld : o.held = some rs) :
    ∀ i < ((readData s rs).length + 4095) / 4096, PartSent o (readData s rs) i (sendReadData o s) := by
  rw [sendReadData_parts hheld]
  generalize readData s rs = data
  have hall := foldState_establishes (Q := fun _ => True) (s := s) (f := sendPart o data) (P := PartSent o data)
    (fun _ _ _ => trivial) (fun _ _ _ => sendFrame_sent) (fun _ _ _ hsent => hsent.sendPart)
    (List.range ((data.length + 4095) / 4096)) trivial
  exact fun i hi => hall i (List.mem_range.2 hi)

/-- An operation just held is the one that its frame names. -/
theorem recvOf_held : recvOf? (heldState h .read runs rs s) h (· == .read) = some (newRecv h .read runs (some rs)) := by
  have hrecvs : (heldState h .read runs rs s).win.recvs =
      (dropRecv h .read s).win.recvs ++ [newRecv h .read runs (some rs)] :=
    congrArg (· ++ [newRecv h .read runs (some rs)]) ((countPackage_sameBut (n := 0x10)).recvs (by decide))
  have hnone : (dropRecv h .read s).win.recvs.find? (fun o => isOp h o && o.need == .read && o.held.isSome) = none := by
    refine List.find?_eq_none.2 fun o ho hpass => dropRecv_gone ho ?_
    simp only [Bool.and_eq_true, beq_iff_eq] at hpass
    exact hpass.1
  unfold recvOf?
  rw [hrecvs, List.find?_append, hnone]
  exact List.find?_cons_of_pos (p := fun o => isOp h o && o.need == .read && o.held.isSome) (by
    rw [isOp_newRecv]
    rfl)

theorem SameBut.gated (hsame : SameBut L s t) (hl : .coherence ∉ L) {a n : Nat} {write : Bool} {d : Option Die} :
    Machine.gated t a n write d = Machine.gated s a n write d := by
  simp only [Machine.gated, gateLines, hsame.filter hl]

/-- A held read whose lines no die holds is served and over (R273, R280). -/
theorem runServe_free {o : RecvOp} (ho : recvOf? s h (· == .read) = some o) (hheld : o.held = some rs)
    (hgate : ∀ r ∈ poolRuns rs, gated s r.1 r.2.1 false none = false) :
    runServe h s = (endRecv o (sendReadData o s), none) := by
  unfold runServe
  rw [ho]
  dsimp only
  rw [hheld, if_neg]
  simp only [List.any_map, List.any_eq_true, Function.comp, not_exists, not_and]
  exact fun r hr => by simp [hgate r hr]

/-- An operation that ends is gone, under every name of its frame. -/
theorem endRecv_gone {o y : RecvOp} (hop : isOp h o = true) (hy : y ∈ (endRecv o s).win.recvs) :
    ¬(isOp h y = true ∧ y.need = o.need) := by
  have hpass := (List.mem_filter.1 hy).2
  simp only [isOp, Bool.and_eq_true, beq_iff_eq] at hop ⊢
  obtain ⟨⟨⟨hsrc, hwindow⟩, hserial⟩, htile⟩ := hop
  rintro ⟨⟨⟨⟨ksrc, kwindow⟩, kserial⟩, ktile⟩, hneed⟩
  simp [hsrc, hwindow, hserial, htile, ksrc, kwindow, kserial, ktile, hneed] at hpass

/-! ### Data of a write and of a reduction (R273, R274) -/

/-- What the operation that a frame names is. -/
theorem recvOf_some {o : RecvOp} {P : Need → Bool} (ho : recvOf? s h P = some o) :
    o ∈ s.win.recvs ∧ isOp h o = true ∧ P o.need = true := by
  have hpass := List.find?_some ho
  simp only [Bool.and_eq_true] at hpass
  exact ⟨List.mem_of_find?_eq_some ho, hpass.1.1, hpass.1.2⟩

/-- Data of a write whose lines no die holds executes at once. -/
theorem runData_writes {o : RecvOp} (ho : recvOf? s h (fun n => n != .read && accessCode n == h.access) = some o)
    (hneed : o.need = .write) (hgate : ∀ p ∈ pieceParts o h.byteOffset b, gated s p.1 p.2.length true none = false) :
    runData h b s = (modRecv o (fun y => { y with received := y.received + b.length, executed := y.executed + b.length })
      (foldState (fun p s => poolWrite p.1 p.2 false s) (pieceParts o h.byteOffset b) s), none) := by
  rw [runData, ho]
  dsimp only
  rw [if_pos hneed, takeWrite, if_neg]
  simp only [List.any_eq_true, not_exists, not_and]
  exact fun p hp => by simp [hgate p hp]

/-- Data that completes a reduction commits it when no die holds its lines. -/
theorem runData_commits {o : RecvOp} (ho : recvOf? s h (fun n => n != .read && accessCode n == h.access) = some o)
    (hneed : o.need = .atomic) (hwhole : o.bytes ≤ o.received + b.length)
    (hgate : ∀ r ∈ poolRuns (o.held.getD []), gated s r.1 r.2.1 true none = false) :
    runData h b s = (commitOp { o with staged := o.staged ++ [(h.byteOffset, b)], received := o.received + b.length }
      (runReduction { o with staged := o.staged ++ [(h.byteOffset, b)], received := o.received + b.length } s), none) := by
  rw [runData, ho]
  dsimp only
  rw [if_neg (by simp [hneed]), takeStage]
  dsimp only
  rw [if_neg, if_pos (by simpa using hwhole)]
  simp only [Bool.and_eq_true, List.any_map, List.any_eq_true, Function.comp, not_exists, not_and]
  exact fun _ r hr => by simp [hgate r hr]

theorem flushFrames_history : (flushFrames p s).win.history = s.win.history := by
  unfold flushFrames
  have hraw (fs : List Frame) (t : State) : (foldState (rawFrame p) fs t).win.history = t.win.history :=
    foldState_keeps (P := fun u => u.win.history = t.win.history) (fun f u hu => by
      have hpeers : (rawFrame p f u).win.peersPart = u.win.peersPart := rawFrame_sameBut.2.2 .peers (by decide)
      exact (congrArg (·.2.2.2.2.2) hpeers).trans hu) fs rfl
  split
  · rfl
  · split
    · dsimp only
      split
      · rfl
      · exact hraw _ _
    · rfl

theorem sendFrame_history {type : Nat} {q2 q3 q4 : U64} : (sendFrame p type q2 q3 q4 b s).win.history = s.win.history := by
  unfold sendFrame
  split
  · rfl
  · split
    · rfl
    · exact flushFrames_history

theorem SameBut.srcBoot (hsame : SameBut L s t) (hl : ∀ q ∈ [StatePart.od, .peers, .sec], q ∉ L) :
    Machine.srcBoot t p = Machine.srcBoot s p := by
  have hsec : t.sec = s.sec := hsame.2.2 .sec (hl _ (by decide))
  have hid : t.win.localId = s.win.localId :=
    (hsame.sameFabric fun q hq => hl q ((by decide : [StatePart.od, .peers] ⊆ _) hq)).localId
  simp only [Machine.srcBoot, session?, peer_congr (hsame.peers (hl _ (by decide))), hsec, hid]

/-! ### The clauses of the obligation -/

variable {s1 : State}

/-- CANCEL of a pair that has no frame waiting drops the operations of its access (R273). -/
theorem cancel_drops (h1 : takeFrame h true s = (some s1, s1)) (hfree : ∀ y ∈ s1.win.inbox, frameOf y ≠ h.src) :
    exec (.cancel h) s = .next (keepInbox (s1.win.inbox ++ []) (runCancel h (queue (.cancel h) s1))) :=
  congrArg Host.Outcome.next ((withFrame_taken h1).trans (takeIn_alone (f := .cancel h) hfree))

theorem takeFrame_sameBut (h1 : takeFrame h true s = (some s1, s1)) : SameBut [.counters, .int, .peers, .out] s s1 :=
  takeFrame_some_frame (by decide) (SameBut.refl _ s) h1

theorem SameBut.inbox (hsame : SameBut L s t) (hl : .windows ∉ L) : t.win.inbox = s.win.inbox := by
  have hw : t.win.windowsPart = s.win.windowsPart := hsame.2.2 .windows hl
  exact congrArg (·.2.2.2.2.1) hw

theorem cancel_accepted (hpair : ¬(h.src = s.win.localId ∧ h.dst = s.win.localId)) (hss : session? s h.src = some ss)
    (hseal : h.sealOk = true) (hdst : h.dst = s.win.localId) (hlanes : ss.lanes ≠ 0)
    (hseq : h.linkSeq = BitVec.ofNat 32 ss.expect) (hfree : ∀ f ∈ s.win.inbox, frameOf f ≠ h.src) :
    Gives (.cancel h) s fun t =>
      (∃ y, session? t h.src = some y ∧ y.expect = ss.expect + 1) ∧ (peer? t h.src).map (·.heard) = some s.gtc ∧
      ∀ o, o ∈ t.win.recvs ↔ o ∈ s.win.recvs ∧ ¬(isOp h o = true ∧ accessCode o.need = h.access) := by
  obtain ⟨s1, h1, hexpect, hheard⟩ := takeFrame_accepts hpair hss hseal hdst hlanes hseq
  have hsame := takeFrame_sameBut h1
  have hinbox : s1.win.inbox = s.win.inbox := hsame.inbox (by decide)
  have hrecvs : s1.win.recvs = s.win.recvs := hsame.recvs (by decide)
  refine ⟨_, cancel_drops h1 (hinbox ▸ hfree), Option.map_eq_some_iff.1 hexpect, hheard, fun o => ?_⟩
  have hdropped : o ∈ s1.win.recvs.filter (fun o => !(isOp h o && accessCode o.need == h.access)) ↔
      o ∈ s.win.recvs ∧ ¬(isOp h o = true ∧ accessCode o.need = h.access) := by
    rw [hrecvs, List.mem_filter]
    by_cases hop : isOp h o = true <;> simp [hop]
  exact hdropped

/-- A frame of a pair whose first one waits is queued behind it (R276). -/
theorem frame_queues {e : Instr × InFrame} {b : Bytes} {g g2 : InFrame} (h1 : takeFrame h true s = (some s1, s1))
    (he : e ∈ [(Instr.checkWrite h runs, InFrame.check .write h runs), (.checkAtomic h runs, .check .atomic h runs),
      (.readReq h runs, .check .read h runs), (.data h b, .data h b), (.cancel h, .cancel h)])
    (hfind : (s1.win.inbox.find? fun y => frameOf y == h.src) = some g) (hrun : runFrame g (queue e.2 s1) = (t, some g2)) :
    Gives e.1 s fun u => u.win.recvs = t.win.recvs ∧ g2 ∈ u.win.inbox ∧ u.win.inbox.getLast? = some e.2 := by
  have hexec : exec e.1 s = .next (withFrame h (takeIn e.2) s) ∧ frameOf e.2 = h.src := by
    simp only [List.mem_cons, List.not_mem_nil, or_false] at he
    rcases he with rfl | rfl | rfl | rfl | rfl <;> exact ⟨rfl, rfl⟩
  obtain ⟨hexec, hsrc⟩ := hexec
  obtain ⟨pre, htake, hpre⟩ := takeIn_waits (hsrc ▸ hfind) hrun
  refine ⟨_, hexec.trans (congrArg Host.Outcome.next ((withFrame_taken h1).trans htake)), rfl,
    List.mem_append_left _ hpre, ?_⟩
  exact List.getLast?_concat

/-- Runs of a check that is not the last wait for the rest (R268). -/
theorem check_gathers {e : Instr × Need} (h1 : takeFrame h true s = (some s1, s1))
    (hfree : ∀ y ∈ s1.win.inbox, frameOf y ≠ h.src)
    (he : e ∈ [(Instr.checkWrite h runs, Need.write), (.checkAtomic h runs, .atomic), (.readReq h runs, .read)])
    (hnot : e.2 = .atomic → committed s1 h = false) (hlast : h.last = false) : Gives e.1 s fun t =>
      ∃ o ∈ t.win.recvs, isOp h o = true ∧ o.need = e.2 ∧ o.held = none ∧ o.runs = gathered s1 h e.2 ++ runs := by
  refine ⟨_, check_runs h1 hfree he hnot, newRecv h e.2 (gathered s1 h e.2 ++ runs) none, ?_, isOp_newRecv, rfl, rfl, rfl⟩
  rw [runCheck_gathers hlast]
  exact List.mem_append_right _ List.mem_cons_self

/-- The state in which the last frame of a check is decided: the runs gathered before it are dropped (R273). -/
def askState (h : FrameHdr) (need : Need) (runs : List WRun) (s : State) : State :=
  dropRecv h need (queue (.check need h runs) s)

/-- The last frame of a check decides it. -/
theorem check_decides {e : Instr × Need} (h1 : takeFrame h true s = (some s1, s1))
    (hfree : ∀ y ∈ s1.win.inbox, frameOf y ≠ h.src)
    (he : e ∈ [(Instr.checkWrite h runs, Need.write), (.checkAtomic h runs, .atomic), (.readReq h runs, .read)])
    (hnot : e.2 = .atomic → committed s1 h = false) (hlast : h.last = true) {r : State × Option InFrame}
    (hr : decideOp h e.2 (gathered s1 h e.2 ++ runs) (askState h e.2 runs s1) = r) :
    exec e.1 s = .next (keepInbox (s1.win.inbox ++ r.2.toList) r.1) := by
  have hdecide : runCheck e.2 h runs (queue (.check e.2 h runs) s1) = r := (runCheck_decides hlast).trans hr
  rw [check_runs h1 hfree he hnot, hdecide]

/-- A refused check is counted, ended and answered DENY (R261). -/
theorem denied_answer {code : Nat} : Counted s (reply h 0x11 code need true 0 [] (countPackage 0x10 (dropRecv h need s))) 0xD000 16 ∧
    ∀ o ∈ (reply h 0x11 code need true 0 [] (countPackage 0x10 (dropRecv h need s))).win.recvs,
      ¬(isOp h o = true ∧ o.need = need) := by
  have hreply : SameBut [.peers, .out] (countPackage 0x10 (dropRecv h need s))
      (reply h 0x11 code need true 0 [] (countPackage 0x10 (dropRecv h need s))) := reply_sameBut
  have hcounted : Counted s (countPackage 0x10 (dropRecv h need s)) 0xD000 16 :=
    (counted_count (dropRecv h need s) 0xD000 16).of_counters rfl
  refine ⟨hcounted.kept (hreply.countsKept (by decide)), fun o ho => ?_⟩
  rw [hreply.recvs (by decide), (countPackage_sameBut (n := 0x10)).recvs (by decide)] at ho
  exact dropRecv_gone ho

/-- An accepted write or reduction is held, and answered ACCEPT (R273). -/
theorem accepted_holds : ∃ o ∈ (reply h 0x10 0 need true 0 [] (heldState h need runs rs s)).win.recvs,
    isOp h o = true ∧ o.need = need ∧ o.held = some rs := by
  have hreply : SameBut [.peers, .out] (heldState h need runs rs s) (reply h 0x10 0 need true 0 [] (heldState h need runs rs s)) :=
    reply_sameBut
  refine ⟨newRecv h need runs (some rs), ?_, isOp_newRecv, rfl, rfl⟩
  rw [hreply.recvs (by decide)]
  exact List.mem_append_right _ List.mem_cons_self

theorem heldState_pool : (heldState h need runs rs s).pool = s.pool :=
  (countPackage_sameBut (n := 0x10) (s := dropRecv h need s)).pool_eq (by decide)

theorem heldState_gated {a n : Nat} {write : Bool} {d : Option Die} :
    gated (heldState h need runs rs s) a n write d = gated s a n write d :=
  (countPackage_sameBut (n := 0x10) (s := dropRecv h need s)).gated (by decide)

/-- A read whose lines no die holds is over once it is decided, and its data has been sent (R273). -/
theorem decideOp_serves (hask : checkOp h .read runs s = (t, .ok rs))
    (hgate : ∀ r ∈ poolRuns rs, gated t r.1 r.2.1 false none = false) : ∃ u, decideOp h .read runs s = (u, none) ∧
      (∀ o ∈ u.win.recvs, ¬(isOp h o = true ∧ o.need = .read)) ∧
      ∀ i < ((readData t rs).length + 4095) / 4096, PartSent (newRecv h .read runs (some rs)) (readData t rs) i u := by
  have hserve := runServe_free (recvOf_held (h := h) (runs := runs) (rs := rs) (s := t)) rfl
    fun r hr => heldState_gated.trans (hgate r hr)
  have hdata : readData (heldState h .read runs rs t) rs = readData t rs := readData_congr heldState_pool
  refine ⟨_, (decideOp_reads hask).trans hserve, fun o ho => endRecv_gone isOp_newRecv ho, fun i hi => ?_⟩
  have hsent := sendReadData_sends (o := newRecv h .read runs (some rs)) (s := heldState h .read runs rs t) rfl
  rw [hdata] at hsent
  exact FrameSent.kept (hsent i hi) rfl rfl fun m hm => hm

/-- A CHECK_ATOMIC whose identity is in the history opens no operation, and its last frame is answered DONE (R274). -/
theorem checkAtomic_committed (h1 : takeFrame h true s = (some s1, s1)) (hfree : ∀ y ∈ s1.win.inbox, frameOf y ≠ h.src)
    (hcommitted : committed s1 h = true) : Gives (.checkAtomic h runs) s fun t => t.win.recvs = s1.win.recvs ∧
      (h.last = true → FrameSent t h.src 0x31 (frameQ2 h.window h.tileIndex) (frameQ3 h.serial h.streamTag)
        (frameQ4 0 (some .atomic) 0 0 true 0) []) := by
  have hrun := takeIn_alone (f := .check .atomic h runs) hfree
  refine ⟨_, congrArg Host.Outcome.next ((withFrame_taken h1).trans hrun), ?_⟩
  have hframe : runFrame (.check .atomic h runs) (queue (.check .atomic h runs) s1) =
      runCheckAtomic h runs (queue (.check .atomic h runs) s1) := rfl
  have hcommitted' : committed (queue (.check .atomic h runs) s1) h = true := hcommitted
  rw [hframe, runCheckAtomic, if_pos hcommitted']
  split
  · refine ⟨?_, fun _ => sendFrame_sent.kept rfl rfl fun m hm => hm⟩
    exact reply_sameBut.recvs (by decide)
  · rename_i hlast
    exact ⟨rfl, fun h => absurd h hlast⟩

/-- The data of an accepted write executes, and its bytes are counted (R273). -/
theorem data_executes {o : RecvOp} {b : Bytes} (h1 : takeFrame h true s = (some s1, s1))
    (hfree : ∀ y ∈ s1.win.inbox, frameOf y ≠ h.src)
    (ho : recvOf? s1 h (fun n => n != .read && accessCode n == h.access) = some o) (hneed : o.need = .write)
    (hgate : ∀ p ∈ pieceParts o h.byteOffset b, gated s1 p.1 p.2.length true none = false) :
    Gives (.data h b) s fun t => (∃ y ∈ t.win.recvs, isOp h y = true ∧ y.need = .write ∧
        y.executed = o.executed + b.length ∧ y.received = o.received + b.length) ∧
      t.pool = (foldState (fun p s => poolWrite p.1 p.2 false s) (pieceParts o h.byteOffset b) (queue (.data h b) s1)).pool := by
  have hrun := runData_writes (s := queue (.data h b) s1) ho hneed hgate
  have hwritten : SameBut [.counters, .int, .memory, .pool, .out] (queue (.data h b) s1)
      (foldState (fun p s => poolWrite p.1 p.2 false s) (pieceParts o h.byteOffset b) (queue (.data h b) s1)) :=
    foldState_frame (fun _ _ hs => poolWrite_frame (by decide) hs) (SameBut.refl _ _)
  obtain ⟨hmem, hop, -⟩ := recvOf_some ho
  have htake := takeIn_alone (f := .data h b) hfree
  rw [show runFrame (.data h b) (queue (.data h b) s1) = runData h b (queue (.data h b) s1) from rfl, hrun] at htake
  refine ⟨_, congrArg Host.Outcome.next ((withFrame_taken h1).trans htake), ?_, rfl⟩
  refine ⟨{ o with received := o.received + b.length, executed := o.executed + b.length }, ?_, hop, hneed, rfl, rfl⟩
  refine List.mem_map.2 ⟨o, ?_, ?_⟩
  · rw [hwritten.recvs (by decide)]
    exact hmem
  · rw [if_pos (by simp)]

theorem isOp_names {o : RecvOp} (hop : isOp h o = true) :
    o.src = h.src ∧ o.window = h.window ∧ o.serial = h.serial ∧ o.tile = h.tileIndex := by
  simp only [isOp, Bool.and_eq_true, beq_iff_eq] at hop
  obtain ⟨⟨⟨hsrc, hwindow⟩, hserial⟩, htile⟩ := hop
  exact ⟨hsrc, hwindow, hserial, htile⟩

/-- An operation that ends is answered under its own names (R273). -/
theorem replyOp_sent {o : RecvOp} {last : Bool} (hop : isOp h o = true) : FrameSent (replyOp o type last s) h.src type
    (frameQ2 h.window h.tileIndex) (frameQ3 h.serial o.tag) (frameQ4 0 (some o.need) 0 0 last 0) [] := by
  obtain ⟨hsrc, hwindow, hserial, htile⟩ := isOp_names hop
  rw [← hsrc, ← hwindow, ← hserial, ← htile]
  exact sendFrame_sent

theorem replyOp_sameBut {o : RecvOp} {last : Bool} : SameBut [.peers, .out] s (replyOp o type last s) :=
  sendFrame_frame (by decide) (SameBut.refl _ s)

/-- What a committed reduction leaves (R274). -/
theorem commitOp_commits {o : RecvOp} (hop : isOp h o = true) :
    (∀ y ∈ (commitOp o s).win.recvs, ¬(isOp h y = true ∧ y.need = o.need)) ∧
    ∃ c ∈ (commitOp o s).win.history, c.src = h.src ∧ c.bootId = srcBoot s h.src ∧ c.serial = h.serial ∧
      c.tile = h.tileIndex ∧ c.gtc = s.gtc ∧ FrameSent (commitOp o s) h.src 0x31 (frameQ2 h.window h.tileIndex)
        (frameQ3 h.serial o.tag) (frameQ4 0 (some o.need) 0 0 true 0) [] := by
  obtain ⟨hsrc, hwindow, hserial, htile⟩ := isOp_names hop
  refine ⟨fun y hy => ?_, ⟨o.src, srcBoot s o.src, o.serial, o.tile, s.gtc, doneCount s o.src⟩, ?_, hsrc, hsrc ▸ rfl,
    hserial, htile, rfl, replyOp_sent hop⟩
  · rw [commitOp, replyOp_sameBut.recvs (by decide)] at hy
    exact endRecv_gone hop hy
  · rw [commitOp, replyOp, sendFrame_history]
    exact List.mem_append_right _ List.mem_cons_self

/-- The data that completes a reduction commits it: it is over, its identity is kept, and DONE is sent (R273, R274). -/
theorem data_commits {o : RecvOp} {b : Bytes} (h1 : takeFrame h true s = (some s1, s1))
    (hfree : ∀ y ∈ s1.win.inbox, frameOf y ≠ h.src)
    (ho : recvOf? s1 h (fun n => n != .read && accessCode n == h.access) = some o) (hneed : o.need = .atomic)
    (hwhole : o.bytes ≤ o.received + b.length)
    (hgate : ∀ r ∈ poolRuns (o.held.getD []), gated s1 r.1 r.2.1 true none = false) :
    Gives (.data h b) s fun t => (∀ y ∈ t.win.recvs, ¬(isOp h y = true ∧ y.need = .atomic)) ∧
      ∃ c ∈ t.win.history, c.src = h.src ∧ c.bootId = srcBoot s1 h.src ∧ c.serial = h.serial ∧ c.tile = h.tileIndex ∧
        c.gtc = s.gtc ∧ FrameSent t h.src 0x31 (frameQ2 h.window h.tileIndex) (frameQ3 h.serial o.tag)
          (frameQ4 0 (some .atomic) 0 0 true 0) [] := by
  have hrun := runData_commits (s := queue (.data h b) s1) ho hneed hwhole hgate
  obtain ⟨hmem, hop, -⟩ := recvOf_some ho
  have htake := takeIn_alone (f := .data h b) hfree
  rw [show runFrame (.data h b) (queue (.data h b) s1) = runData h b (queue (.data h b) s1) from rfl, hrun] at htake
  have hreduced : SameBut [.counters, .int, .ctxs, .slots, .memory, .pool, .out] (queue (.data h b) s1)
      (runReduction { o with staged := o.staged ++ [(h.byteOffset, b)], received := o.received + b.length }
        (queue (.data h b) s1)) := runReduction_frame (by decide) (SameBut.refl _ _)
  have hs1 : s1.gtc = s.gtc := takeFrame_gtc h1
  have hqueued : (queue (.data h b) s1).gtc = s.gtc := hs1
  have hgtc := (hreduced.2.2 .gtc (by decide)).trans hqueued
  have hboot : _ = srcBoot s1 h.src := hreduced.srcBoot (by decide)
  obtain ⟨hgone, c, hc, hsrc, hcboot, hserial, htile, hcgtc, hsent⟩ := commitOp_commits (h := h)
    (o := { o with staged := o.staged ++ [(h.byteOffset, b)], received := o.received + b.length })
    (s := runReduction { o with staged := o.staged ++ [(h.byteOffset, b)], received := o.received + b.length }
      (queue (.data h b) s1)) hop
  refine ⟨_, congrArg Host.Outcome.next ((withFrame_taken h1).trans htake), fun y hy => hneed ▸ hgone y hy, c, hc, hsrc,
    hcboot.trans hboot, hserial, htile, hcgtc.trans hgtc, ?_⟩
  rw [← hneed]
  exact hsent.kept rfl rfl fun m hm => hm

/-- A write whose data has executed ends with DONE (R273). -/
theorem windowDataExecuted_ends {src : PackageId} {w : WindowId} {serial : U32} {tile : Nat} {o : RecvOp}
    (ho : writeOp? s src w serial tile = some o) (hfree : ∀ f ∈ s.win.inbox, frameOf f ≠ src) (hdone : o.bytes ≤ o.executed) :
    Gives (.windowDataExecuted src w serial tile) s fun t => (∀ y, y ∈ t.win.recvs ↔ y ∈ s.win.recvs ∧
      ¬(y.src = src ∧ y.window = w ∧ y.serial = serial ∧ y.tile = tile ∧ y.need = .write)) ∧
      FrameSent t src 0x31 (frameQ2 w tile) (frameQ3 serial o.tag) (frameQ4 0 (some .write) 0 0 true 0) [] := by
  have hpass := List.find?_some ho
  simp only [Bool.and_eq_true, beq_iff_eq] at hpass
  obtain ⟨⟨⟨⟨⟨hsrc, hwindow⟩, hserial⟩, htile⟩, hneed⟩, -⟩ := hpass
  have hends : dataExecuted src w serial tile s = replyOp o 0x31 true (endRecv o s) := by
    unfold dataExecuted
    rw [serveInbox_free hfree]
    dsimp only
    rw [ho]
    exact if_pos hdone
  refine ⟨_, congrArg Host.Outcome.next hends, fun y => ?_, ?_⟩
  · rw [replyOp_sameBut.recvs (by decide), endRecv, List.mem_filter, hsrc, hwindow, hserial, htile, hneed]
    simp only [Bool.not_eq_true', ← Bool.not_eq_true, Bool.and_eq_true, beq_iff_eq, and_assoc]
  · rw [← hsrc, ← hwindow, ← hserial, ← htile, ← hneed]
    exact sendFrame_sent

/-- Only the history changes, or only what the receiver holds. -/
theorem history_sameBut {l : List Commit} : SameBut [.peers] s { s with win := { s.win with history := l } } := by
  refine ⟨rfl, rfl, fun q hq => ?_⟩
  cases q with
  | peers => exact absurd (by decide) hq
  | _ => rfl

theorem recvs_sameBut {l : List RecvOp} : SameBut [.windows] s { s with win := { s.win with recvs := l } } := by
  refine ⟨rfl, rfl, fun q hq => ?_⟩
  cases q with
  | windows => exact absurd (by decide) hq
  | _ => rfl

/-- A committed identity expires by its age alone (R274). -/
theorem commitHistoryExpiry_expires {src : PackageId} {boot : U64} {serial : U32} {tile : Nat} :
    Gives (.commitHistoryExpiry src boot serial tile) s fun t => SameBut [.peers] s t ∧
      ∀ c, c ∈ t.win.history ↔ c ∈ s.win.history ∧ ¬(c.src = src ∧ c.bootId = boot ∧ c.serial = serial ∧
        c.tile = tile ∧ 150000000000 ≤ (s.gtc - c.gtc).toNat) := by
  refine ⟨_, rfl, history_sameBut, fun c => ?_⟩
  have hkept : c ∈ s.win.history.filter (fun c => !(c.src == src && c.bootId == boot && c.serial == serial && c.tile == tile &&
      150000000000 ≤ since s c.gtc)) ↔ c ∈ s.win.history ∧ ¬(c.src = src ∧ c.bootId = boot ∧ c.serial = serial ∧
        c.tile = tile ∧ 150000000000 ≤ since s c.gtc) := by
    rw [List.mem_filter]
    simp only [Bool.not_eq_true', ← Bool.not_eq_true, Bool.and_eq_true, beq_iff_eq, decide_eq_true_eq, and_assoc]
  exact hkept

/-- The operations of a silent peer are dropped (R272). -/
theorem receiverPeerSilence_drops (hx : peer? s p = some x) (hsilent : peerTimeoutCounts s ≤ (s.gtc - x.heard).toNat) :
    Gives (.receiverPeerSilence p) s fun t => SameBut [.windows] s t ∧ ∀ o, o ∈ t.win.recvs ↔ o ∈ s.win.recvs ∧ o.src ≠ p := by
  have hdrops : exec (.receiverPeerSilence p) s =
      .next { s with win := { s.win with recvs := s.win.recvs.filter fun o => o.src != p } } := by
    show execReceiverPeerSilence p s = _
    rw [execReceiverPeerSilence, hx]
    exact congrArg Host.Outcome.next (if_pos hsilent)
  refine ⟨_, hdrops, recvs_sameBut, fun o => ?_⟩
  have hkept : o ∈ s.win.recvs.filter (fun o => o.src != p) ↔ o ∈ s.win.recvs ∧ o.src ≠ p := by
    rw [List.mem_filter]
    simp
  exact hkept

end WindowReceiver

/-- Settles O38: frames of a pair run alone where none of it waits; a check is refused by the package and the window, then
by its runs, and what it holds is answered and ends under the names of its frame. -/
theorem windowReceiver : Obligations.WindowReceiver := by
  unfold Obligations.WindowReceiver
  intro s hinv
  refine ⟨fun h x hss hpair => ⟨fun hseal hdst hlanes => ?_, fun hseal hdst hlanes hseq hfree => ?_, fun hseal => ?_,
      fun hseal hdst => ?_, fun hseal hdst hlanes hseq => ?_⟩,
    fun h s1 h1 => ⟨fun g g2 v runs b e hfind he hrun => frame_queues h1 he hfind hrun, fun hfree => ⟨fun runs hlast => ?_,
      fun e runs s2 hlast he hnot => ?_, fun runs hcommitted => ?_, fun b o ho => ⟨fun hneed hgate => ?_,
        fun hneed hwhole hgate => ?_⟩⟩⟩,
    fun src w serial tile o ho hfree hdone => windowDataExecuted_ends ho hfree hdone,
    fun src boot serial tile => commitHistoryExpiry_expires, fun p x hx hsilent => receiverPeerSilence_drops hx hsilent⟩
  · exact ⟨_, congrArg Host.Outcome.next (withFrame_dropped (takeFrame_keyless hpair hss hseal hdst hlanes)), rfl⟩
  · exact cancel_accepted hpair hss hseal hdst hlanes hseq hfree
  · exact ⟨_, congrArg Host.Outcome.next (withFrame_dropped (takeFrame_unsealed hpair hss hseal)),
      counted_count s 0xD000 11, countPackage_sameBut⟩
  · exact ⟨_, congrArg Host.Outcome.next (withFrame_dropped (takeFrame_elsewhere hpair hss hseal hdst)),
      counted_count s 0xD000 12, countPackage_sameBut⟩
  · obtain ⟨hsession, hheard⟩ := heardState_peer hss
    have hcount : SameBut [.counters, .int] (heardState h.src x s) (countPackage 0x0D (heardState h.src x s)) :=
      countPackage_sameBut
    refine ⟨_, congrArg Host.Outcome.next (withFrame_dropped (takeFrame_outOfSequence hpair hss hseal hdst hlanes hseq)),
      (counted_count (heardState h.src x s) 0xD000 13).of_counters rfl,
      countPackage_frame (by decide) (modPeer_frame (by decide) (SameBut.refl _ s)), ?_, ?_⟩
    · rw [session_congr (hcount.peers (by decide)), hsession]
      rfl
    · rw [peer_congr (hcount.peers (by decide)), hheard]
  · exact ⟨check_gathers (e := (.checkWrite h runs, .write)) h1 hfree (by simp) (by simp) hlast,
      check_gathers (e := (.readReq h runs, .read)) h1 hfree (by simp) (by simp) hlast,
      fun hnot => check_gathers (e := (.checkAtomic h runs, .atomic)) h1 hfree (by simp) (fun _ => hnot) hlast⟩
  · refine ⟨fun rs hask => ⟨fun hneed => ?_, fun hneed hgate => ?_⟩, fun code hask => ?_, fun c hc => checkOp_refuses hc,
      fun code v hnone hruns => checkOp_faults hnone hruns, fun rs v hnone hruns hneed hbarred hroom => ?_, fun hask => ?_⟩
    · exact ⟨_, check_decides h1 hfree he hnot hlast (decideOp_accepts hask hneed), accepted_holds,
        sendFrame_sent.kept rfl rfl fun m hm => hm⟩
    · obtain ⟨i, need⟩ := e
      obtain rfl : need = .read := hneed
      obtain ⟨u, hserves, hgone, hsent⟩ := decideOp_serves hask hgate
      exact ⟨_, check_decides h1 hfree he hnot hlast hserves, hgone,
        fun i hi => FrameSent.kept (hsent i hi) rfl rfl fun m hm => hm⟩
    · obtain ⟨hcounted, hgone⟩ := denied_answer (s := s2) (h := h) (need := e.2) (code := code)
      exact ⟨_, check_decides h1 hfree he hnot hlast (decideOp_denies hask), hcounted.kept (.of_eq rfl), hgone,
        sendFrame_sent.kept rfl rfl fun m hm => hm⟩
    · obtain ⟨i, need⟩ := e
      obtain rfl : need = .atomic := hneed
      exact checkOp_busy hnone hruns hbarred hroom
    · refine ⟨_, check_decides h1 hfree he hnot hlast (decideOp_waits hask),
        List.mem_append_right _ List.mem_cons_self, fun o ho => ?_⟩
      have hasked := checkOp_sameBut (s := askState h e.2 runs s1) hask
      exact dropRecv_gone (hasked.recvs (by decide) ▸ ho)
  · exact checkAtomic_committed h1 hfree hcommitted
  · exact data_executes h1 hfree ho hneed hgate
  · exact data_commits h1 hfree ho hneed hwhole hgate

end Sys2Proof.Machine
end
